-- ==== Sys2Proof/Word.lean ====
section
/-!
DEFINITION. Sys2Proof/Word.lean: the word types of the SLF1664 model and their plainest arithmetic.
A register is a 32-bit word (R18), a byte is 8 bits; counts, indices, times and addresses are `Nat`,
signed quantities that do not wrap are `Int`.
-/
namespace Sys2Proof

/-- One byte. -/
abbrev Byte := BitVec 8
/-- One maintenance-space register (R18). -/
abbrev Word := BitVec 32
/-- A 64-bit quantity (a mask over the 64 axes, a counter read from bytes). -/
abbrev DWord := BitVec 64
/-- A train time in whole nanoseconds since the IEEE 1588 epoch (R22). -/
abbrev TimeNs := Nat
/-- A local time in ticks of CLK_TIME, 4 ns each (R22). -/
abbrev Ticks := Nat

/-- Ticks of LT in one microsecond: 250 at 250 MHz (R22). -/
def ticksPerUs : Nat := 250
/-- Ticks of LT in one millisecond. -/
def ticksPerMs : Nat := 250000
/-- Ticks of LT in one second. -/
def ticksPerS : Nat := 250000000

end Sys2Proof
end

