-- ==== Sys2Proof/Syntax.lean ====
section
/-!
DEFINITION. Sys2Proof/Syntax.lean: the commands, one constructor per row of spec/opcode_table.json. The table gives its
rows no operands and no bits; the operands here are what the rule of each row takes from outside the part: the unit the
command names, the bytes received, the quantity measured. Log entry 1.
-/
namespace Sys2Proof

/-- A TRDP telegram as it is delivered at N4 (R485, R486): IPv4 source and destination, the two topology counts, message data or
process data with its two-letter type, comId, datasetLength, whether the header FCS passes, and the bytes after the header. -/
structure Telegram where
  src : Nat
  dst : Nat
  etb : Nat
  op : Nat
  type : Nat
  comId : Nat
  dsLen : Nat
  fcsOk : Bool
  data : List Byte
  deriving DecidableEq, Repr

/-- The commands that the SLF1664 takes, each whole and indivisible. -/
inductive Instr where
  /-- R624: The 0.80 V core supply rises through its power-on threshold; the controller resets with reason POWER_ON. -/
  | powerOn (secs : Nat)
  /-- R624: A logic supply stays below its brown-out threshold for 1 us or longer and resets the controller. -/
  | brownOut (supply : Fin 3)
  /-- R625: NRST is held low for 1 us or longer, which resets the controller and holds it in reset. -/
  | nrstAssert
  /-- R625: The controller leaves reset 10 us after NRST has returned high. -/
  | nrstRelease
  /-- R622: The clock monitor finds the reference missing or out of range, or the PLL unlocked, and resets the controller with reason CLOCK. -/
  | clockFail
  /-- R624: The two cores of the Control Processor differ in a compared output, which resets the controller with reason LOCKSTEP. -/
  | lockstepMismatch
  /-- R624: The system watchdog is not retriggered for 50 ms, which resets the controller with reason WATCHDOG. -/
  | watchdogExpiry
  /-- R624: A system reset is requested through the debug port before its fuse is blown. -/
  | debugReset
  /-- R696: A write of CMD RESET with KEY 0x52E5 to SYS_CMD starts a SOFTWARE reset within 1 us. -/
  | sysCmdReset (m : Fin 6)
  /-- R696: A write of CMD WDOG with KEY 0 to SYS_CMD retriggers the system watchdog. -/
  | sysCmdWdog (m : Fin 6)
  /-- R621: The root PLL locks to the reference, and the boot ROM starts in BOOT. -/
  | pllLock
  /-- R631: The NVM controller reads the SFDP table, chooses read mode and sampling delay, and configures the flash. -/
  | norDiscovery (sfdp : Bool) (cap : Nat) (addr4 octal : Bool) (passes : List Nat)
  /-- R572: The recorder reads its state, scans the areas for the highest stored number, tests each part and sets the next accession number. -/
  | recorderStart (sealOk : Bool) (ecc : Option Nat)
  /-- R637: Each triple-stored parameter is voted from its three copies before use. -/
  | paramVote
  /-- R634: The boot ROM checks firmware slots A and B and chooses the image to run, or enters NO_FIRMWARE. -/
  | firmwareSelect
  /-- R79: Catalogue slots A and B are checked, and one image is chosen, or NO_IMAGE or CONFLICT is entered. -/
  | catalogueSelect
  /-- R78: The sections of the checked image are applied in tag order and the catalogue lock is set. -/
  | catalogueApply
  /-- R639: The start-up self-tests run in SELFTEST. -/
  | startSelftest (lockstep evaluator gate readback : Bool)
  /-- R629: JOIN ends on the first directory reading, after 1,000 ms or at t = 2,400 ms. -/
  | joinEnd
  /-- R644: The Operational line rises once the lock is set, the blocking tests have passed and JOIN has ended. -/
  | operationalEntry
  /-- R645: Once its due start-up brake tests have ended, a portal with EN 1 takes T1 and starts homing. -/
  | portalReferenceStart (p : Fin 16)
  /-- R37: An access to an undecoded address reads 0 or is discarded, and it is recorded with its address and master. -/
  | unmappedAccess (addr : Word) (read : Bool) (master : Fin 6)
  /-- R42: A write to a register that has no row of its own takes effect at once, unless a discard rule applies. -/
  | registerWrite (addr : Word) (size : Fin 4) (value : BitVec 64) (ecc : Bool) (master : Fin 6)
  /-- R683: A maintenance-port SPI transaction is checked and its words are read or written in rising address order. -/
  | mntTransaction (bytes : List Byte) (ecc : Option Word)
  /-- R313: At least every 1 ms the Interlock Logic recomputes its parameter CRC and compares it with ILK_PCRC_REF. -/
  | paramCrcCheck
  /-- R81: The catalogue commit critical command 0x0201 is verified and starts the check of the named slot. -/
  | catCommit (conn : Option (Fin 64)) (bytes : List Byte) (storeOk : Bool)
  /-- R81: The slot check and password check of a commit end, and the commit record is written or the commit is rejected. -/
  | catCommitVerifyDone
  /-- R83: The 15-minute password lockout, timed by the real-time clock, expires. -/
  | catPwLockoutEnd
  /-- R186: At each 25 us motion cycle boundary the engines, observers, arbiter and Portal Sequencer evaluate their inputs and the next set-points leave on the drive links. -/
  | motionCycle
  /-- R113: The ACTION critical command 0x0101 is verified, then applied as immediate or armed, stale, late or rejected as a scheduled action. -/
  | action (conn : Option (Fin 64)) (bytes : List Byte) (storeOk : Bool)
  /-- R102: An accepted immediate action is applied in the first motion cycle after acceptance, in order of acceptance. -/
  | immediateActionApply
  /-- R116: At a slot's T, its permissive and then restrictive actions are applied and the slot is freed. -/
  | slotDue
  /-- R104: The ISOLATE critical command 0x0102 takes the portal to ISOLATED under T23, or is rejected by its guard. -/
  | isolate (conn : Option (Fin 64)) (bytes : List Byte) (storeOk : Bool)
  /-- R104: The RESTORE critical command 0x0103 restores an isolated portal to REFERENCING, or acts as emergency reset. -/
  | restore (conn : Option (Fin 64)) (bytes : List Byte) (storeOk : Bool)
  /-- R122: An off-to-on transition of REQ_INSIDE or REQ_OUTSIDE opens or reopens the portal where accepted. -/
  | passengerRequest (p : Fin 16) (inside : Bool)
  /-- R123: The presence input holds DWELL or reopens the portal from WARNING or CLOSING. -/
  | presenceInput (p : Fin 16)
  /-- R119: The emergency handle becomes active and takes the portal to EMERGENCY or sets EMG_PENDING. -/
  | emergencyHandle (p : Fin 16)
  /-- R119: The zero-speed input becomes active, and a pending emergency handle takes T21. -/
  | zeroSpeedActive
  /-- R101: The zero-speed input goes inactive, and every portal from UNLOCKING to CLOSED executes LOCK. -/
  | zeroSpeedLost
  /-- R104: The LOCKED input goes inactive and the step is deployed where required, so UNLOCKING takes T5 to RELEASED. -/
  | unlockComplete (p : Fin 16)
  /-- R109: STEP_DEPLOYED becomes active and lets leaves start opening under STEP_FIRST. -/
  | stepDeployed (p : Fin 16)
  /-- R110: In LOCKING, the LOCKED input becomes active, the step starts retracting, and a portal without a step enters LOCKED. -/
  | lockedInputActive (p : Fin 16)
  /-- R104: The step is stowed after the lock, and LOCKING takes T19 to LOCKED. -/
  | stepStowed (p : Fin 16)
  /-- R296: A closed, locked or stowed switch opens while the portal is in LOCKED, and channel A withdraws. -/
  | switchOpenInLocked (p : Fin 16)
  /-- R104: All present axes are referenced with the switches closed, and REFERENCING takes T2 to LOCKED. -/
  | homingDone (p : Fin 16)
  /-- R104: The leaves reach the open position and OPENING takes T8 to OPEN. -/
  | leavesAtOpen (p : Fin 16)
  /-- R736: The leaves reach or rest beyond the reopen target and REOPENING takes T15 to OPEN. -/
  | leavesAtReopenTarget (p : Fin 16)
  /-- R104: The leaves reach the closed position with CLOSED_A and CLOSED_B active, and CLOSING takes T16 or T17. -/
  | leavesClosed (p : Fin 16)
  /-- R123: DWELL elapses in OPEN, and the portal takes T9 to WARNING. -/
  | dwellElapsed (p : Fin 16)
  /-- R124: OBST_WAIT elapses after a reopening and allows the portal to leave OPEN. -/
  | obstWaitElapsed (p : Fin 16)
  /-- R104: WARN_PRE elapses with the budget granted, and WARNING takes T11 to CLOSING. -/
  | warnPreElapsed (p : Fin 16)
  /-- R125: The warning lamp changes level after FLASH. -/
  | flashToggle (p : Fin 16)
  /-- R125: The chime stops after CHIME_ON. -/
  | chimeEnd (p : Fin 16)
  /-- R104: UNLOCK_TIME elapses in UNLOCKING, and the portal enters FAULT under T6. -/
  | unlockFail (p : Fin 16)
  /-- R107: LOCK_TIME elapses without the LOCKED input, and the leaves are driven closed for a 200 ms re-close. -/
  | lockTimeElapsed (p : Fin 16)
  /-- R107: The 200 ms re-close ends and a further LOCK_TIME starts. -/
  | recloseEnd (p : Fin 16)
  /-- R104: LOCK_TIME elapses after the re-close, and the portal enters FAULT under T20. -/
  | lockFail (p : Fin 16)
  /-- R107: The step misses STEP_TIME, and the portal enters FAULT. -/
  | stepFail (p : Fin 16)
  /-- R104: Homing faults or 30 s pass in REFERENCING, and the portal enters FAULT under T3. -/
  | referenceFail (p : Fin 16)
  /-- R154: After OBST_WAIT, an axis held under the stop rule resumes towards its target, and detection is armed again. -/
  | obsStopResume (n : Fin 64)
  /-- R166: CMD 1 written to OBS_CMD starts or restarts commissioning of the axis. -/
  | commission (n : Fin 64) (m : Fin 6)
  /-- R172: CMD 2 written to OBS_CMD arms a one-time force injection. -/
  | inject (n : Fin 64) (value : Word) (m : Fin 6)
  /-- R180: A read or write of OBS_TBL_DATA accesses the table entry at BIN and increments BIN. -/
  | obsTblDataAccess (n : Fin 64) (value : Option Word) (m : Fin 6)
  /-- R191: A SEG_CTRL write with MODE APPEND pushes the staged segment at the tail of the queue. -/
  | segAppend (n : Fin 64) (m : Fin 6)
  /-- R199: A SEG_CTRL write with MODE REPLACE discards the queue and replans to the new target. -/
  | segReplace (n : Fin 64) (m : Fin 6)
  /-- R227: CMD STOP written to AXIS_CMD clears the queue and stops the axis, with emergency deceleration if EMG is set. -/
  | axisStop (n : Fin 64) (emg : Bool) (m : Fin 6)
  /-- R218: CMD CLEAR written to AXIS_CMD clears chatter faults whose input has been quiet for CHAT_WIN. -/
  | axisClear (n : Fin 64) (m : Fin 6)
  /-- R203: The axis comes to rest after emergency deceleration and reverses, holds or removes torque according to its cause. -/
  | emergencyDecelRest (n : Fin 64)
  /-- R206: A following-error or current-at-limit condition held for STALL_T faults the axis. -/
  | axStall (n : Fin 64) (current : Bool)
  /-- R217: A limit input becomes active outside homing, stops the axis and faults it with cause 2. -/
  | axLimit (n : Fin 64) (opening : Bool)
  /-- R218: A limit or home input makes more than CHAT_N transitions in CHAT_WIN, and a chatter fault latches. -/
  | axChatter (n : Fin 64) (k : Fin 3)
  /-- R212: Delayed STEP pulses exceed STEP_LAG_MAX and fault the axis. -/
  | axStepLag (n : Fin 64)
  /-- R216: Under HOME_MODE 1 the home input first becomes active, HOME_POS is assigned and the move to TGT_CLOSED starts. -/
  | homeReferenceFound (n : Fin 64)
  /-- R215: Under HOME_MODE 0, the current-at-limit condition has held for HOME_DWELL and the reference point is reached. -/
  | homeDwellElapsed (n : Fin 64)
  /-- R214: A limit input other than the home input becomes active during homing and the search retries or faults. -/
  | homeLimitHit (n : Fin 64) (opening : Bool)
  /-- R219: BRK_REL_T after energising the brake output, the first moving set-point is sent. -/
  | brakeReleaseElapsed (n : Fin 64)
  /-- R219: BRK_APP_T after de-energising the brake output, torque is removed. -/
  | brakeApplyElapsed (n : Fin 64)
  /-- R232: A write of FB_CFG that changes MODE sets P to 0, clears sticky bits and restarts the speed window. -/
  | fbCfgWrite (n : Fin 64) (value : Word) (m : Fin 6)
  /-- R249: A write of FB_PSET sets the axis position P. -/
  | fbPset (n : Fin 64) (value : Word) (m : Fin 6)
  /-- R248: A read of FB_POS captures REV and the sticky bits and clears the live sticky bits. -/
  | fbPosRead (n : Fin 64) (m : Fin 6)
  /-- R255: A read of FB_PRB_POS returns the latch and clears PRB_VALID. -/
  | fbPrbPosRead (n : Fin 64) (m : Fin 6)
  /-- R257: A write of CMP_POS loads CMP_NEXT, setting BEHIND or catching up under CATCHUP. -/
  | fbCmpPosWrite (n : Fin 64) (value : Word) (m : Fin 6)
  /-- R260: A write of CMP_CFG takes effect at the next update of H, or disarms at once with CMP_DIR 0. -/
  | fbCmpCfgWrite (n : Fin 64) (value : Word) (m : Fin 6)
  /-- R265: Writing 1 to a bit of FB_EVT clears that event flag. -/
  | fbEvtClear (n : Fin 64) (value : Word) (m : Fin 6)
  /-- R236: Both filtered quadrature lines change at once, and the transition is counted as illegal. -/
  | fbIllegal (n : Fin 64)
  /-- R237: A differential pair differs by less than 200 mV for 1 us and the port faults with cause 2. -/
  | fbLineBroken (n : Fin 64) (broken : Bool)
  /-- R240: The sine/cosine amplitude lies out of range in 8 consecutive samples, or the quadrants lie two apart, and the port faults. -/
  | fbAmplitudeFault (n : Fin 64)
  /-- R251: An index mark is recognised, latched and checked against the reference index. -/
  | fbIndex (n : Fin 64)
  /-- R255: A probe edge latches P and LT and, once accepted, hands the latch to the observer. -/
  | probeEdge (n : Fin 64) (level : Bool) (held : Nat)
  /-- R258: H passes CMP_NEXT in the armed direction and the comparator emits a pulse and advances. -/
  | compareHit (n : Fin 64)
  /-- R261: More than 255 divided-output steps are outstanding, and the output jumps to the divided state. -/
  | fbDivLag (n : Fin 64)
  /-- R250: A speed window of SPD_WIN ends and FB_SPEED is updated. -/
  | speedWindow (n : Fin 64)
  /-- R243: An SSI frame ends and advances the count by the position difference, or is found in error. -/
  | ssiFrame (n : Fin 64) (frame : Nat) (high low : Bool)
  /-- R283: An uplink frame is received, and each reply slot is accepted or held. -/
  | dlReply (l : Fin 8) (frame : List Byte)
  /-- R283: No uplink EOF arrives by B + 13.0 us, and the replies are treated as failed. -/
  | dlUplinkTimeout (l : Fin 8)
  /-- R285: CMD RESTART written to DLK_CMD starts the link while all its axes are torque off. -/
  | dlRestart (l : Fin 8) (m : Fin 6)
  /-- R285: The 100 us of K28.5 at the start of a link end and delay measurement begins. -/
  | dlStartIdleEnd (l : Fin 8)
  /-- R285: The 16 loop frames of one stage complete and DLY is set, or the link faults. -/
  | dlDelayMeasured (l : Fin 8) (trips : List Nat)
  /-- R356: At each 10 us field boundary, a downlink frame with the output image leaves on every isolation link. -/
  | fieldFrame
  /-- R355: A tile or die reply is received and checked, and its samples are fed to the filters and the Interlock Logic. -/
  | fieldReply (k : Fin 12) (bytes : List Byte)
  /-- R355: No valid reply has arrived by F + 7.0 us, and the reply counts as failed. -/
  | fieldReplyMissing (k : Fin 12)
  /-- R361: CMD RESTART written to FLD_CMD restarts the tile link with 48 CONFIG frames. -/
  | fldRestart (k : Fin 8) (m : Fin 6)
  /-- R369: CMD CLR_DIAG written to FLD_CMD sends CLR_DIAG in the next frame to clear diagnostics whose cause has gone. -/
  | fldClrDiag (k : Fin 8) (m : Fin 6)
  /-- R354: A tile or load-switch die receives a downlink frame, accepts or refuses it, and replies. -/
  | tileFrameReceive (k : Fin 12) (bytes : List Byte) (vals : List Nat)
  /-- R356: At the apply instant, the accepted frame's outputs, supplies and CLR_DIAG take effect on the die. -/
  | tileApply (k : Fin 12)
  /-- R359: No accepted frame for TIMEOUT takes the tile or die to SAFE. -/
  | tileTimeout (k : Fin 12)
  /-- R359: A tile or die powers up in UNCONFIGURED with all outputs off. -/
  | tilePowerUp (k : Fin 12)
  /-- R365: The group supply falls below 9 V or is lost, and the tile or die resets. -/
  | tileSupplyLoss (k : Fin 12)
  /-- R336: An input's raw level goes from off to on and starts its wetting current. -/
  | fieldInputEdge (c : Fin 256)
  /-- R336: WET_T ends and the channel returns to hold current, and a waiting channel starts wetting. -/
  | wettingEnd (c : Fin 256)
  /-- R338: An input reads off below the wire-break threshold for 10 ms. -/
  | wireBreak (c : Fin 256) (present : Bool)
  /-- R342: An output stays in current limit past its trip time or shuts down thermally, and it latches off. -/
  | outputOverload (c : Fin 256) (kind : Fin 3)
  /-- R343: An output driven on reads off for 100 us and latches READBACK. -/
  | outputReadback (c : Fin 256)
  /-- R343: An output driven off stays above 3.0 V reading off for 10 ms. -/
  | openWire (c : Fin 256) (present : Bool)
  /-- R347: A test-pulse supply in limit for more than 1 ms switches off. -/
  | fldTpOverload (g : Fin 64)
  /-- R348: A test-pulse supply switches off at its scheduled apply instant. -/
  | testPulseStart (g : Fin 64)
  /-- R350: The test-pulse window ends and pulsed channels are checked. -/
  | testPulseWindowEnd (g : Fin 64) (still : Nat)
  /-- R363: A maintenance-reset input becomes active after 1 s inactive, and a press begins. -/
  | mrstPressBegin (i : Fin 4)
  /-- R363: A press ends, and it is accepted if it lasted 50 ms to 3 s. -/
  | mrstPressEnd (i : Fin 4)
  /-- R363: A press lasts past 3 s and sets STUCK. -/
  | fldMrstStuck (i : Fin 4)
  /-- R363: The input has been inactive for 1 s, and STUCK clears. -/
  | mrstReleased (i : Fin 4)
  /-- R301: A counting difference between channels persists for CROSS_T and XCHK_FAULT latches. -/
  | ilkCrossDisagree (pair : Fin 2)
  /-- R305: A pair's discrepancy timer reaches N and a discrepancy fault latches. -/
  | ilkDiscrepancy (i : Fin 40)
  /-- R307: A safety output commanded on is switched off for SO_PULSE at its due LT instant. -/
  | soOffPulse (k : Fin 4)
  /-- R308: An off-pulse ends and the readback checks of its start and end are judged. -/
  | soPulseEnd (k : Fin 4) (wentOff backOn : Bool)
  /-- R311: Contactor feedback is inconsistent for FB_T, and MON_FAULT latches. -/
  | ilkMonFault (i : Fin 20)
  /-- R323: CMD CLEAR written to ILK_CMD clears latched faults whose causes are gone. -/
  | ilkClear (m : Fin 6)
  /-- R329: A write of ILK_LOG_IDX loads that safety log entry into ILK_LOG_DATA. -/
  | ilkLogLoad (value : Word) (m : Fin 6)
  /-- R315: A due brake test starts once the portal is locked and idle, the link runs, OWN_N is held and the budget allows. -/
  | brakeTestStart (n : Fin 64)
  /-- R316: BT_TIME ends in one direction, and the test moves on to the other direction or passes. -/
  | brakeTestPhaseEnd (n : Fin 64)
  /-- R316: The current has not reached 15/16 of I_T within the first 100 ms of a direction. -/
  | brakeTestTorqueTimeout (n : Fin 64)
  /-- R319: An axis has been due for a further BT_INTERVAL without a pass. -/
  | brakeTestOverdue (n : Fin 64)
  /-- R376: ON_DELAY after a commanded on, the switch's commanded level goes on. -/
  | lsOnDelayEnd (n : Fin 32)
  /-- R375: INRUSH_T ends and the switch moves from INRUSH to ON under the run limit. -/
  | lsInrushEnd (n : Fin 32)
  /-- R379: The limiter stays active outside the inrush window, and a short trip goes to RETRY_WAIT or LATCHED_OFF. -/
  | lsShort (n : Fin 32)
  /-- R379: RETRY_T elapses and the switch retries or restarts in INRUSH. -/
  | lsRetry (n : Fin 32)
  /-- R379: After 1 s in ON without a trip, RETRIES_LEFT is set back to RETRIES. -/
  | lsRetriesReset (n : Fin 32)
  /-- R380: The junction reaches THERM and the switch enters THERMAL. -/
  | lsThermal (n : Fin 32)
  /-- R380: The junction cools by the hysteresis, and the switch takes its one retry, latches off or goes OFF. -/
  | lsThermalRelease (n : Fin 32)
  /-- R383: A switch in ON stays below the open-load threshold for 100 ms. -/
  | lsOpenLoad (n : Fin 32)
  /-- R383: A switch in ON reads below 5 V for 100 us and turns off as a short trip. -/
  | lsReadback (n : Fin 32)
  /-- R385: The bank current exceeds the peak limit, and the arbiter takes one step every 5 us. -/
  | lsBankPeak (b : Fin 4) (limiting : Nat)
  /-- R387: Every 10 ms the 1 s average bank current is judged against the continuous limit and SHED switches restart when it falls. -/
  | lsBankCont (b : Fin 4) (avg : Nat)
  /-- R387: After 2 s, and every 1 s after, over the continuous limit, one ON switch is shed. -/
  | lsContShed (b : Fin 4)
  /-- R382: CLEAR written to LSW_CMD moves a LATCHED_OFF switch to OFF. -/
  | lswClear (n : Fin 32) (m : Fin 6)
  /-- R396: CLR_DIAG written to LSW_CMD clears latched switch diagnostics whose cause has gone. -/
  | lswClrDiag (n : Fin 32) (m : Fin 6)
  /-- R391: RESTART written to LSW_BCMD restarts the load-switch die link. -/
  | lswRestart (b : Fin 4) (m : Fin 6)
  /-- R414: A Sync on a followed port gives an offset sample for the servo. -/
  | ptpSync (i : Fin 4) (bytes : List Byte) (sub : Fin 4)
  /-- R414: A Follow_Up supplies the origin time of a two-step Sync. -/
  | ptpFollowUp (i : Fin 4) (bytes : List Byte)
  /-- R420: An Announce is received, and a changed stepsRemoved or parent is a path change. -/
  | ptpAnnounce (i : Fin 4) (bytes : List Byte)
  /-- R406: A Pdelay_Req is answered with a one-step Pdelay_Resp. -/
  | ptpPdelayReq (i : Fin 4) (bytes : List Byte)
  /-- R414: A Pdelay_Resp or its follow-up completes a peer-delay measurement. -/
  | ptpPdelayResp (i : Fin 4) (bytes : List Byte) (sub : Fin 4)
  /-- R406: A Pdelay_Req is sent on each PTP port at the interval of logMinPdelayReqInterval. -/
  | ptpPdelaySend
  /-- R406: In MODE 3, Sync and Announce are sent as master on N2 and N3. -/
  | ptpSyncSend
  /-- R417: Missing Syncs, announce timeout or no usable port take TT into holdover. -/
  | timeHoldover (d : Fin 2)
  /-- R417: Holdover reaches 2 s. -/
  | timeHoldoverLong (d : Fin 2)
  /-- R422: A port's SETTLE window ends and its topology entry is applied, or it is uncompensated. -/
  | timeSettleEnd (i : Fin 4)
  /-- R424: A pending jump persists for JUMP_PERSIST and is confirmed. -/
  | timeJumpConfirm
  /-- R428: A confirmed step of TT is applied at a 50 us boundary once no observer is armed, and armed slots are re-judged. -/
  | timeStep
  /-- R424: CMD ACCEPT_JUMP written to TIME_CMD confirms a pending jump. -/
  | acceptJump (m : Fin 6)
  /-- R422: CMD ACCEPT_PATH written to TIME_CMD declares every uncompensated port compensated. -/
  | acceptPath (m : Fin 6)
  /-- R403: A read of TIME_TT_LO captures TT bits 63:32 and LT. -/
  | timeTtRead (m : Fin 6)
  /-- R402: While LOCKED, the real-time clock is set from TT once per second. -/
  | rtcSet
  /-- R444: An Ethernet frame received on a port is classified, policed and admitted to its egress queues or discarded. -/
  | frameReceive (i : Fin 5) (bytes : List Byte) (fcsOk : Bool) (cls : Fin 4)
  /-- R450: An egress port that is free selects the next frame by class, gate and credit and starts its transmission. -/
  | frameTransmitStart (p : Fin 5)
  /-- R448: A frame's transmission ends and its cells return once every admitting port has sent it. -/
  | frameTransmitEnd (p : Fin 5)
  /-- R456: A received PAUSE stops classes C and D on N2 or N3, or is discarded. -/
  | pauseReceive (i : Fin 4) (time : Fin 65536)
  /-- R456: The pause_time of a received PAUSE runs out and classes C and D resume. -/
  | pauseExpire (i : Fin 4)
  /-- R455: The PAUSE with pause_time 0xFFFF is repeated every 16 ms while above XON. -/
  | pauseRepeat (i : Fin 4)
  /-- R452: A gate control list entry's INTERVAL ends and the next entry's gate states apply. -/
  | gclEntry (p : Fin 5)
  /-- R437: A port's link comes up at its negotiated speed. -/
  | netLinkUp (i : Fin 4) (fast : Bool)
  /-- R437: A port's link goes down. -/
  | netLinkDown (i : Fin 4)
  /-- R438: A supervision frame is sent every 2 s on both ring ports. -/
  | hsrSupervisionSend
  /-- R440: A supervision copy has not returned within 4 s and RING_OPEN is set. -/
  | netRingOpen (p : Fin 2)
  /-- R442: An address entry ages out after AGE_TIME. -/
  | macAge
  /-- R441: A proxy entry is removed after NodeForgetTime of silence. -/
  | proxyAge
  /-- R472: An ARP request for a held address is answered. -/
  | arpRequest (target : Nat)
  /-- R469: An ICMP echo request is answered with an echo reply. -/
  | icmpEcho (src dst : Nat) (data : List Byte)
  /-- R470: A datagram or telegram that no supported protocol or comId accepts is discarded and counted. -/
  | datagramDiscard (t : Option Telegram)
  /-- R474: The operational train directory reply is read and sets counts and orientation. -/
  | ttdbDirectory (etb op : Nat) (veh cst : Bool)
  /-- R476: A topology change is announced, DIR_VALID clears and the directory is requested again. -/
  | ttdbAnnounce (etb op : Nat)
  /-- R474: No directory 5 s after a request, and the request repeats every 1 s. -/
  | trdpDirectoryFail
  /-- R488: DEV_STATUS is published every 100 ms. -/
  | publishDevStatus
  /-- R487: PORTAL_STATE is published every 20 ms. -/
  | publishPortalState
  /-- R536: HEALTH is published every 1 s. -/
  | publishHealth
  /-- R501: A received OPEN_REQ is checked and, if valid, opens a session with OPEN_ACK. -/
  | stlOpenReq (t : Telegram)
  /-- R501: A valid OPEN_ACK opens the connection from OPENING. -/
  | stlOpenAck (t : Telegram)
  /-- R496: An accepted STL DATA message delivers its records: commands to the security core, results and status. -/
  | stlData (t : Telegram) (storeOk : Bool)
  /-- R500: A received REKEY_REQ is answered with REKEY_ACK and a new session is derived. -/
  | stlRekeyReq (t : Telegram)
  /-- R500: A received REKEY_ACK completes the nonces and the new session begins. -/
  | stlRekeyAck (t : Telegram)
  /-- R501: A valid CLOSE closes the connection. -/
  | stlClose (t : Telegram)
  /-- R501: Each CYCLE, the connection sends its STL_CYCLIC DATA or OPEN_REQ, starting a re-key when SEQ reaches 0xFFFF_FFF0. -/
  | stlCycleSend (c : Fin 64)
  /-- R501: No accepted message for TMO puts the connection in FAILED and cancels its permissive slots. -/
  | stlTimeout (c : Fin 64)
  /-- R501: 1 s in FAILED returns the connection to OPENING or CLOSED. -/
  | stlFailedRetry (c : Fin 64)
  /-- R508: CMD OPEN written to STL_CMD opens the named connection. -/
  | stlCmdOpen (c : Fin 64) (m : Fin 6)
  /-- R508: CMD CLOSE written to STL_CMD closes the named connection. -/
  | stlCmdClose (c : Fin 64) (m : Fin 6)
  /-- R489: A received stream OPEN opens an inbound stream, or is refused with CLOSE cause 1. -/
  | streamOpen (t : Telegram)
  /-- R490: A received stream DATA message is delivered in order, held early or discarded. -/
  | streamData (t : Telegram)
  /-- R491: A received ACK releases acknowledged messages of an outbound stream. -/
  | streamAck (t : Telegram)
  /-- R491: A received CLOSE closes the stream. -/
  | streamClose (t : Telegram)
  /-- R490: An ACK is sent at most 2 ms after DATA arrives. -/
  | streamAckSend (k : Fin 32)
  /-- R491: An outbound stream sends its next DATA message while fewer than 256 are unacknowledged. -/
  | streamSend (k : Fin 32)
  /-- R491: RTO after its last transmission, an unacknowledged message is resent or the stream closes with cause 3. -/
  | streamRetransmit (k : Fin 32)
  /-- R490: A missing SEQ has not arrived within STREAM_TMO and the stream closes with cause 2. -/
  | streamGapTimeout (k : Fin 32)
  /-- R484: A dynamic entry silent for PARTNER_AGE with nothing open is released. -/
  | partnerRemoved (k : Fin 128)
  /-- R519: A heartbeat is sent on Kazuk lane 0 at each 100 us TT instant and on lane 1 50 us later. -/
  | kazukHeartbeatSend (lane : Fin 2)
  /-- R519: The HEARTBEAT telegram is sent to the mate every 1 ms. -/
  | netHeartbeatSend
  /-- R519: A heartbeat is received on a Kazuk lane and accepted if its CRC passes. -/
  | kazukHeartbeat (lane : Fin 2) (bytes : List Byte) (ownLow : Bool)
  /-- R519: A network heartbeat is received and accepted on AUTH and HB_SEQ, with any fallback mirror block. -/
  | netHeartbeat (t : Telegram) (ownLow : Bool)
  /-- R519: A path has delivered no accepted heartbeat within 300 us or 3 ms. -/
  | twinPathDown (net : Bool)
  /-- R521: Neither path has delivered an accepted heartbeat for TAKEOVER_T. -/
  | mateSilent
  /-- R521: OWN_N goes high at a device and its claim window starts. -/
  | ownNHigh
  /-- R520: The claim window has passed with the claim conditions met, and the claim is granted at a motion cycle boundary. -/
  | twinClaim
  /-- R521: OWN_N disagrees with the heartbeats for 1 ms and OWN_LINE_FAULT is set. -/
  | ownLineFault (ownLow : Bool)
  /-- R517: The ownership watchdog is not retriggered within OWN_WD and OWN_N is released with cause 7. -/
  | ownWatchdogExpiry
  /-- R522: For a release cause 1 to 6, the active device sends RELEASING and stops accepting critical commands. -/
  | releaseAnnounce
  /-- R522: 200 us after the announcement, OWN_N is released and its cause recorded. -/
  | twinReleased
  /-- R525: The standby receives a mirror frame, applies it in MSEQ order and acknowledges it. -/
  | mirrorFrame (bytes : List Byte)
  /-- R526: An acknowledgement confirms mirror items and releases the effects held back. -/
  | mirrorAck (bytes : List Byte)
  /-- R525: An unacknowledged mirror frame is resent 50 us after sending. -/
  | mirrorResend
  /-- R527: The transfer of the whole mirrored state completes and SYNCED is set. -/
  | twinSynced (mateNext : Nat) (mateCounters mateCycles mateBrakes : List Nat)
  /-- R535: Once every second the standby runs its self-tests. -/
  | standbySelftest (gateBad offBad : Nat) (leak : List Nat)
  /-- R530: The home standby has been ELIGIBLE and SYNCED for REVERT_T and sets REVERT_REQ. -/
  | revertRequest
  /-- R530: At the first quiet moment, the active device releases for a pending reversion or manual transfer. -/
  | quietMomentRelease
  /-- R533: CMD TRANSFER written to TWIN_CMD requests a release with cause 1. -/
  | twinTransferCmd (m : Fin 6)
  /-- R533: The twin manual transfer critical command 0x0601 requests a release with cause 1. -/
  | twinTransfer (conn : Option (Fin 64)) (bytes : List Byte) (storeOk : Bool)
  /-- R533: No quiet moment within 10 s, or the mate not ELIGIBLE, rejects the transfer. -/
  | twinTransferRejected
  /-- R547: A raised event enters the intake queue with its time-stamp, or is refused for lack of room. -/
  | eventIntake (code inst : Nat) (vals : List Byte)
  /-- R546: The recorder allocates the next accession number to the first record in intake, within the 50 us rate and the mirror window. -/
  | recAllocate
  /-- R556: REPEAT_WIN passes after the last repeat and the repeat count is queued. -/
  | recRepeated
  /-- R557: A record is written to its slot in three steps and read back. -/
  | recStore (ok : Bool)
  /-- R557: 20 us after a verify mismatch the record is written again, or abandoned after the third retry. -/
  | recWriteRetry (ok : Bool)
  /-- R565: An EVENT_PUB telegram of stored records leaves within 10 ms of its first record. -/
  | recPublish
  /-- R558: CMD HOLD_SET written to REC_CMD freezes the store and starts the Hold queue. -/
  | holdSet (m : Fin 6)
  /-- R559: CMD HOLD_RELEASE written to REC_CMD ends Hold and starts the drain. -/
  | holdRelease (m : Fin 6)
  /-- R559: 10 s after the set, the Hold limit falls and later records are lost. -/
  | recHoldLimit
  /-- R559: The queued records, the gap record and later records have been written after release. -/
  | recHoldDrainDone
  /-- R566: CMD CAPTURE written to REC_CMD requests a Final Folio capture. -/
  | capture (m : Fin 6)
  /-- R566: A capture of up to 1,024 records into a folio completes. -/
  | recFolioCaptured
  /-- R580: CMD KEEP written to REC_CMD marks a folio KEEP. -/
  | keep (f : Fin 4) (m : Fin 6)
  /-- R580: CMD UNKEEP written to REC_CMD clears KEEP of a folio. -/
  | unkeep (f : Fin 4) (m : Fin 6)
  /-- R553: CMD ARCHIVE written to REC_CMD starts Archive commissioning while the Archive is empty. -/
  | recArchiveCmd (m : Fin 6)
  /-- R554: CMD CLEAR_CIRC written to REC_CMD starts clearing the Circulation area. -/
  | recClearCircCmd (m : Fin 6)
  /-- R554: Every Circulation slot has been invalidated and REC_OLDEST moved. -/
  | recCleared
  /-- R571: LW_CLEAR written to REC_CMD clears the last-word register. -/
  | lwClear (m : Fin 6)
  /-- R560: OPEN written to REC_RW_CMD opens the Reading Window at REC_RW_POS. -/
  | rwOpen (area : Fin 3) (folio : Fin 4) (hold : Bool) (m : Fin 6)
  /-- R560: STEP written to REC_RW_CMD moves the cursor and loads the next record. -/
  | rwStep (m : Fin 6)
  /-- R560: CLOSE written to REC_RW_CMD closes the window. -/
  | rwClose (m : Fin 6)
  /-- R561: The load of the record at the cursor completes, with its STATUS, and BUSY clears. -/
  | rwLoadDone (ecc : Bool)
  /-- R560: A window with no STEP for 5 s closes. -/
  | rwIdleTimeout
  /-- R578: A read of REC_NEXT_LO captures REC_NEXT_HI. -/
  | recNextRead (m : Fin 6)
  /-- R578: A read of REC_OLDEST_LO captures REC_OLDEST_HI. -/
  | recOldestRead (m : Fin 6)
  /-- R563: The READ service request 0x0101 returns up to 40 records from START. -/
  | read (t : Telegram)
  /-- R563: The HOLD service request 0x0102 sets or releases Hold. -/
  | hold (t : Telegram)
  /-- R563: The UPLOAD service request 0x0103 opens an outbound stream of records, signatures or a folio. -/
  | upload (t : Telegram)
  /-- R563: The STATUS service request 0x0104 returns the recorder status. -/
  | status (t : Telegram)
  /-- R584: A read of CNT_VAL_LO captures bits 47:32 and OVF and clears the live OVF. -/
  | cntValRead (m : Fin 6)
  /-- R587: A read of CNT_SNAP_LO captures CNT_SNAP_HI. -/
  | cntSnapRead (i : Fin 320) (m : Fin 6)
  /-- R586: CMD SWEEP written to CNT_CMD copies every counter into the snapshot bank. -/
  | sweep (m : Fin 6)
  /-- R586: Every SWEEP_PER, a sweep copies every counter into the snapshot bank. -/
  | sweepPeriodic
  /-- R585: CMD WRITE written to CNT_CMD sets the selected counter to the staged value. -/
  | write (m : Fin 6)
  /-- R585: CMD CLEAR_ALL written to CNT_CMD clears every counter and OVF. -/
  | clearAll (m : Fin 6)
  /-- R588: CMD SMP_CLEAR written to CNT_CMD empties the sampling buffer. -/
  | smpClear (m : Fin 6)
  /-- R592: A write of CNT_SMP_POS loads that sampling entry into CNT_SMP_DATA. -/
  | cntSmpPosWrite (value : Word) (m : Fin 6)
  /-- R590: The COUNTERS service request 0x0201 returns snapshot counters. -/
  | counters (t : Telegram)
  /-- R590: The SAMPLES service request 0x0202 returns sampling entries. -/
  | samples (t : Telegram)
  /-- R616: The ATTEST service request 0x0301 returns a signed attestation report. -/
  | attest (t : Telegram)
  /-- R615: The IDENTITY service request 0x0302 returns the identity public key. -/
  | identity (t : Telegram)
  /-- R690: The REG_READ service request 0x0401 reads registers for an authenticated maintenance session. -/
  | regRead (t : Telegram)
  /-- R602: The FW_COMMIT critical command 0x0202 checks the named firmware slot and writes its commit record. -/
  | fwCommit (conn : Option (Fin 64)) (bytes : List Byte) (storeOk : Bool)
  /-- R608: The KEY_INSTALL critical command 0x0301 decrypts and installs a command key at TARGET. -/
  | keyInstall (conn : Option (Fin 64)) (bytes : List Byte) (storeOk : Bool)
  /-- R609: The KEY_RETIRE critical command 0x0302 makes a command key absent. -/
  | keyRetire (conn : Option (Fin 64)) (bytes : List Byte) (storeOk : Bool)
  /-- R610: The CAT_KEY_ENROL critical command 0x0303 enrols a new catalogue public key in OTP. -/
  | catKeyEnrol (conn : Option (Fin 64)) (bytes : List Byte) (storeOk : Bool)
  /-- R617: The DEBUG_FUSE critical command 0x0304 blows the debug fuse and removes debug access. -/
  | debugFuse (conn : Option (Fin 64)) (bytes : List Byte) (storeOk : Bool)
  /-- R553: The ARCHIVE critical command 0x0401 starts Archive commissioning. -/
  | archive (conn : Option (Fin 64)) (bytes : List Byte) (storeOk : Bool)
  /-- R554: The CLEAR_CIRC critical command 0x0402 starts clearing the Circulation area. -/
  | clearCirc (conn : Option (Fin 64)) (bytes : List Byte) (storeOk : Bool)
  /-- R688: The REG_WRITE critical command 0x0501 writes up to 46 registers after checking every word. -/
  | regWrite (conn : Option (Fin 64)) (bytes : List Byte) (storeOk : Bool)
  /-- R614: The MAINT_SESSION critical command 0x0701 opens an authenticated maintenance session. -/
  | maintSession (conn : Option (Fin 64)) (bytes : List Byte) (storeOk : Bool)
  /-- R614: A maintenance session ends after MINUTES, or when its connection or partner goes. -/
  | maintSessionEnd (k : Fin 4)
  /-- R607: The PROVISION command 0x0F01 through the maintenance port installs command key 0. -/
  | provision (conn : Option (Fin 64)) (bytes : List Byte) (storeOk : Bool)
  /-- R597: Each 1,024 raw bits are health-tested and hashed into a 384-bit random block. -/
  | rngBlock
  /-- R598: Once per second the generator is retested, and RNG_FAIL clears after 8 passing blocks. -/
  | rngRetest
  /-- R617: The TAP leaves Test-Logic-Reset. -/
  | debugAttach
  /-- R665: CMD SHELVE written to SYS_PWR_CMD starts shelving, or is refused with its cause. -/
  | shelve (m : Fin 6)
  /-- R666: The intake is stored and pending writes complete, and PWR_EN is driven low. -/
  | shelveReady
  /-- R667: VDD_CORE has not fallen 1 s after PWR_EN fell, and PWR_EN is released. -/
  | shelveTimeout
  /-- R664: WAKE_N low for 10 ms is a wake and releases PWR_EN. -/
  | wakeN
  /-- R664: The real-time clock reaches SYS_SHELF_WAKE and releases PWR_EN. -/
  | clockWake
  /-- R668: VDDIO comes within range while PWR_EN is low, and PWR_EN is released. -/
  | supplyReturn
  /-- R663: VBAT is measured at every start and once per hour, and VBAT_LOW is set or cleared. -/
  | vbatMeasure (mv : Nat)
  /-- R633: CMD READ written to NVM_CMD reads 256 bytes into NVM_BUF. -/
  | nvmRead (m : Fin 6)
  /-- R633: CMD PROGRAM written to NVM_CMD programs and verifies a page, unless R52 refuses it. -/
  | nvmProgram (m : Fin 6)
  /-- R633: CMD ERASE_4K written to NVM_CMD erases a 4 KiB sector. -/
  | erase4k (m : Fin 6)
  /-- R633: CMD ERASE_64K written to NVM_CMD erases a 64 KiB block. -/
  | erase64k (m : Fin 6)
  /-- R633: A flash operation completes, with DONE set and any ERR recorded. -/
  | nvmOpDone (timeout bad : Bool) (held : List Byte)
  /-- R234: An accepted change of the filtered A/B lines, or an interpolated sample in mode 2, changes P and updates H, DIR and the sticky bits OVF, RWRAP and REV_OVF, or faults the port with cause 6. -/
  | fbCount (n : Fin 64) (a b : Bool) (held : Nat) (sample : Option (Int × Int))
  /-- R308: The readback of a safety output differs from its commanded level outside pulses and their 50 us windows, or does not show on again within 50 us of a pulse end, and SOTEST_FAULT latches. -/
  | soReadbackFail (k : Fin 4) (level : Bool)
  /-- R623: The 32.768 kHz crystal stops for more than 1 s and RTC_VALID clears. -/
  | rtcCrystalStop
  /-- R623: PD_BKUP powers up from VBAT or VDDIO after having no supply; RTC_VALID, the firmware start counters and SYS_SHELF_WAKE take their initial values. -/
  | backupPowerUp
  /-- R664: PD_BKUP loses both VBAT and VDDIO, its contents are lost and PWR_EN is released. -/
  | backupPowerLoss
  /-- R655: All three logic supplies have been within range for 1 ms and the controller leaves reset, which is t = 0 of R628. -/
  | suppliesGood
  /-- R619: The debug TAP returns to Test-Logic-Reset and DEBUG_ATTACHED clears. -/
  | debugDetach
  /-- R524: The active device receives a mirror item of kind 11, records the event as its own with the standby named as source, and counts any refusals as a cause-4 gap with MATE 1. -/
  | mateEvent (bytes : List Byte)
  /-- R472: The second and third gratuitous ARP frames for the vehicle address are sent 1 ms apart after the device becomes active. -/
  | gratuitousArp
  /-- R438: An HSR duplicate-discard entry is forgotten after EntryForgetTime of 400 ms. -/
  | hsrDuplicateForget
  /-- R602: The check of a firmware slot under commit ends, and its commit record is written with 0x2017 or the commit is rejected with 0x2018. -/
  | fwCommitDone
  /-- R615: The signing of an attestation report completes, the reply leaves, and a new ATTEST can be served again. -/
  | attestDone
  /-- R134: A read of PORTAL_CYC_LO copies cycle-counter bits 39:32 and CYC_OVF into CYC_HI and clears the live CYC_OVF. -/
  | portalCycLoRead (p : Fin 16) (m : Fin 6)
  /-- R592: A read of CNT_SWEEP_TT_LO captures CNT_SWEEP_TT_HI. -/
  | cntSweepTtRead (m : Fin 6)
  /-- R618: A read of SEC_CNT_LO of key k captures SEC_CNT_HI of the same key. -/
  | secCntRead (k : Fin 16) (m : Fin 6)
  deriving DecidableEq, Repr

end Sys2Proof
end

