-- ==== Sys2Proof/Machine/Flags.lean ====
section
/-!
DEFINITION. Sys2Proof/Machine/Flags.lean: bit fields of registers, byte strings, saturation and rounding. Every
chapter's field map (R17) is read and written with these.
-/
namespace Sys2Proof.Machine
open Sys2Proof

/-- Field [hi:lo] of a number (R17). -/
def fieldOf (n hi lo : Nat) : Nat := (n >>> lo) % 2 ^ (hi + 1 - lo)

/-- Field [hi:lo] of a register (R17). -/
def fld (w : Word) (hi lo : Nat) : Nat := fieldOf w.toNat hi lo

/-- Bit `i` of a register. -/
def bitOf (w : Word) (i : Nat) : Bool := w.toNat.testBit i

/-- 1 for true, 0 for false. -/
def b2n (b : Bool) : Nat := if b then 1 else 0

/-- Put `v`, reduced to the width of the field, at bit `lo` of a number whose bits there are 0. -/
def place (v width lo : Nat) : Nat := (v % 2 ^ width) * 2 ^ lo

/-- A register composed of (value, width, low bit) fields that do not overlap. -/
def compose (fs : List (Nat × Nat × Nat)) : Word :=
  BitVec.ofNat 32 (fs.foldl (fun a f => a + place f.1 f.2.1 f.2.2) 0)

/-- Replace field [hi:lo] of a register. -/
def setFld (w : Word) (hi lo v : Nat) : Word :=
  BitVec.ofNat 32 (w.toNat - place (fld w hi lo) (hi + 1 - lo) lo + place v (hi + 1 - lo) lo)

/-- A number of `bits` bits read as two's complement. -/
def signedOf (bits n : Nat) : Int :=
  if n % 2 ^ bits < 2 ^ (bits - 1) then ((n % 2 ^ bits : Nat) : Int) else ((n % 2 ^ bits : Nat) : Int) - 2 ^ bits

/-- A signed quantity as a two's complement number of `bits` bits, modulo 2^bits. -/
def wrapTo (bits : Nat) (i : Int) : Nat := (i % (2 ^ bits : Int)).toNat

/-- A register that holds a signed value. -/
def sword (w : Word) : Int := signedOf 32 w.toNat

/-- A signed quantity in a register, modulo 2^32. -/
def intWord (i : Int) : Word := BitVec.ofNat 32 (wrapTo 32 i)

/-- Clamp to a closed interval. -/
def clampInt (lo hi i : Int) : Int := if i < lo then lo else if hi < i then hi else i

/-- Saturate a signed quantity to `bits` bits. -/
def satSigned (bits : Nat) (i : Int) : Int := clampInt (-(2 ^ (bits - 1) : Int)) ((2 ^ (bits - 1) : Int) - 1) i

/-- Count up, saturating at `top`. -/
def satInc (top n : Nat) : Nat := if n < top then n + 1 else top

/-- Division rounded to the nearest, ties away from zero. -/
def divRound (a b : Int) : Int :=
  if 0 ≤ a then (2 * a + b) / (2 * b) else -((2 * (-a) + b) / (2 * b))

/-- Division truncated towards zero (the `÷` of R17). -/
def divTrunc (a b : Int) : Int := Int.tdiv a b

/-- Division rounded up, of natural numbers. -/
def divCeil (a b : Nat) : Nat := (a + b - 1) / b

/-- Absolute value as a natural number. -/
def absN (i : Int) : Nat := i.natAbs

/-- Whole square root, by bisection on the bits: the largest r below 2^(k) with r * r ≤ n. -/
def isqrtGo (n : Nat) : Nat → Nat → Nat
  | 0, r => r
  | k + 1, r => if (r + 2 ^ k) * (r + 2 ^ k) ≤ n then isqrtGo n k (r + 2 ^ k) else isqrtGo n k r

/-- The whole square root of `n`. -/
def isqrt (n : Nat) : Nat := isqrtGo n (n.log2 / 2 + 1) 0

/-! ### Byte strings -/

/-- The little-endian number of a byte string. -/
def leNat : List Byte → Nat
  | [] => 0
  | b :: bs => b.toNat + 256 * leNat bs

/-- The big-endian number of a byte string. -/
def beNat (bs : List Byte) : Nat := bs.foldl (fun a b => a * 256 + b.toNat) 0

/-- `len` bytes of a number, little-endian. -/
def leBytes : Nat → Nat → List Byte
  | 0, _ => []
  | len + 1, n => BitVec.ofNat 8 n :: leBytes len (n / 256)

/-- `len` bytes of a number, big-endian. -/
def beBytes (len n : Nat) : List Byte := (leBytes len n).reverse

/-- `len` bytes of a byte string from offset `off`, zeros beyond its end. -/
def slice (bs : List Byte) (off len : Nat) : List Byte :=
  ((bs.drop off).take len) ++ List.replicate (len - ((bs.drop off).take len).length) 0

/-- Byte at an offset, 0 beyond the end. -/
def byteAt (bs : List Byte) (off : Nat) : Nat := (bs.getD off 0).toNat

/-- Little-endian field of a byte string. -/
def leAt (bs : List Byte) (off len : Nat) : Nat := leNat (slice bs off len)

/-- Big-endian field of a byte string. -/
def beAt (bs : List Byte) (off len : Nat) : Nat := beNat (slice bs off len)

/-- Whether every byte is zero. -/
def allZero (bs : List Byte) : Bool := bs.all (fun b => b == 0)

/-- The ASCII bytes of a string. -/
def ascii (s : String) : List Byte := s.toList.map (fun c => BitVec.ofNat 8 c.toNat)

/-- Pad on the right with zeros to a length. -/
def padTo (len : Nat) (bs : List Byte) : List Byte := bs.take len ++ List.replicate (len - bs.length) 0

end Sys2Proof.Machine
end

