-- ==== Sys2Proof/Machine/Crypto.lean ====
section
/-!
DEFINITION. Sys2Proof/Machine/Crypto.lean: the checks and the cryptography the manual names: CRC-8 (R682),
CRC-32C (R58), CRC-16 of the links, CHK_B of the safe transfer layer, SHA-384 (FIPS 180-4), HMAC (FIPS 198-1), PBKDF2, AES-256-GCM, and ECDSA and
ECDH on brainpoolP384r1 (RFC 5639). R13 names the standards; their constants are taken from them (log entry 14).
-/
namespace Sys2Proof.Machine
open Sys2Proof

/-! ### Cyclic redundancy checks -/

/-- One bit of a CRC that shifts left: `top` is the weight of the register's top bit. -/
def crcStepL (poly width : Nat) (c : Nat) : Nat :=
  if c.testBit (width - 1) then ((c * 2) % 2 ^ width) ^^^ poly else (c * 2) % 2 ^ width

/-- One byte into a CRC that shifts left. -/
def crcByteL (poly width : Nat) (c : Nat) (b : Byte) : Nat :=
  Nat.repeat (crcStepL poly width) 8 (c ^^^ (b.toNat * 2 ^ (width - 8)))

/-- A CRC that shifts left, without reflection and final XOR. -/
def crcL (poly width init : Nat) (bs : List Byte) : Nat := bs.foldl (crcByteL poly width) init

/-- One bit of a reflected CRC. -/
def crcStepR (poly : Nat) (c : Nat) : Nat := if c.testBit 0 then (c / 2) ^^^ poly else c / 2

/-- One byte into a reflected CRC. -/
def crcByteR (poly : Nat) (c : Nat) (b : Byte) : Nat := Nat.repeat (crcStepR poly) 8 (c ^^^ b.toNat)

/-- A reflected CRC; `poly` is the reversed polynomial. -/
def crcR (poly init xorOut : Nat) (bs : List Byte) : Nat := (bs.foldl (crcByteR poly) init) ^^^ xorOut

/-- The CRC-8 of the maintenance port: polynomial 0x07, initial value 0 (R682). -/
def crc8 (bs : List Byte) : Nat := crcL 0x07 8 0 bs

/-- The CRC-32C: Castagnoli polynomial reflected (R58). -/
def crc32c (bs : List Byte) : Nat := crcR 0x82F63B78 0xFFFFFFFF 0xFFFFFFFF bs

/-- The CRC-16 of the drive link: polynomial 0x1021, initial value 0xFFFF, no reflection. -/
def crc16 (bs : List Byte) : Nat := crcL 0x1021 16 0xFFFF bs

/-! ### SHA-384 -/

/-- Addition modulo 2^64. -/
def add64 (a b : Nat) : Nat := (a + b) % 2 ^ 64
/-- Rotation right of a 64-bit word. -/
def ror64 (n x : Nat) : Nat := (x >>> n) ^^^ ((x <<< (64 - n)) % 2 ^ 64)

/-- The integer part of the cube root scaled by 2^64, modulo 2^64: the round constant of a prime (FIPS 180-4,
4.2.3). Found by bisection on the bits. -/
def icbrtGo (n : Nat) : Nat → Nat → Nat
  | 0, r => r
  | k + 1, r => if (r + 2 ^ k) * (r + 2 ^ k) * (r + 2 ^ k) ≤ n then icbrtGo n k (r + 2 ^ k) else icbrtGo n k r

/-- The round constants, from the fractional parts of the cube roots of the first 80 primes. -/
def sha512K : List Nat :=
  [2, 3, 5, 7, 11, 13, 17, 19, 23, 29, 31, 37, 41, 43, 47, 53, 59, 61, 67, 71, 73, 79, 83, 89, 97, 101, 103, 107,
   109, 113, 127, 131, 137, 139, 149, 151, 157, 163, 167, 173, 179, 181, 191, 193, 197, 199, 211, 223, 227, 229,
   233, 239, 241, 251, 257, 263, 269, 271, 277, 281, 283, 293, 307, 311, 313, 317, 331, 337, 347, 349, 353, 359,
   367, 373, 379, 383, 389, 397, 401, 409].map (fun p => icbrtGo (p * 2 ^ 192) 68 0 % 2 ^ 64)

/-- The initial hash value of SHA-384: fractional parts of the square roots of the ninth to sixteenth primes. -/
def sha384Init : List Nat :=
  [23, 29, 31, 37, 41, 43, 47, 53].map (fun p => isqrtGo (p * 2 ^ 128) 68 0 % 2 ^ 64)

/-- The message schedule: `w` holds the words so far, newest first. -/
def shaSchedule : Nat → List Nat → List Nat
  | 0, w => w.reverse
  | n + 1, w =>
    let w15 := w.getD 14 0
    let w2 := w.getD 1 0
    let s0 := ror64 1 w15 ^^^ ror64 8 w15 ^^^ (w15 >>> 7)
    let s1 := ror64 19 w2 ^^^ ror64 61 w2 ^^^ (w2 >>> 6)
    shaSchedule n (add64 (add64 (w.getD 15 0) s0) (add64 (w.getD 6 0) s1) :: w)

/-- One round. -/
def shaRound (h : List Nat) (kw : Nat) : List Nat :=
  match h with
  | [a, b, c, d, e, f, g, hh] =>
    let s1 := ror64 14 e ^^^ ror64 18 e ^^^ ror64 41 e
    let ch := (e &&& f) ^^^ ((e ^^^ (2 ^ 64 - 1)) &&& g)
    let t1 := add64 (add64 hh s1) (add64 ch kw)
    let s0 := ror64 28 a ^^^ ror64 34 a ^^^ ror64 39 a
    let maj := (a &&& b) ^^^ (a &&& c) ^^^ (b &&& c)
    [add64 t1 (add64 s0 maj), a, b, c, add64 d t1, e, f, g]
  | _ => h

/-- `n` big-endian 64-bit words of a byte string. -/
def words64 : Nat → List Byte → List Nat
  | 0, _ => []
  | n + 1, bs => beNat (bs.take 8) :: words64 n (bs.drop 8)

/-- Hash one 128-byte block. -/
def shaBlock (h : List Nat) (blk : List Byte) : List Nat :=
  let w := shaSchedule 64 (words64 16 blk).reverse
  let kws := (sha512K.zip w).map (fun p => add64 p.1 p.2)
  ((kws.foldl shaRound h).zip h).map (fun p => add64 p.1 p.2)

/-- Hash `n` blocks. -/
def shaBlocks : Nat → List Nat → List Byte → List Nat
  | 0, h, _ => h
  | n + 1, h, bs => shaBlocks n (shaBlock h (bs.take 128)) (bs.drop 128)

/-- SHA-384 of a byte string, 48 bytes. -/
def sha384 (m : List Byte) : List Byte :=
  let padLen := (239 - m.length % 128) % 128
  let p := m ++ [0x80] ++ List.replicate padLen 0 ++ beBytes 16 (8 * m.length)
  ((shaBlocks (p.length / 128) sha384Init p).flatMap (beBytes 8)).take 48

/-- HMAC-SHA-384. -/
def hmac384 (key m : List Byte) : List Byte :=
  let k := padTo 128 (if key.length ≤ 128 then key else sha384 key)
  sha384 (k.map (fun b => b ^^^ 0x5C) ++ sha384 (k.map (fun b => b ^^^ 0x36) ++ m))

/-- The chain of one PBKDF2 block: `u` is the last HMAC, `acc` the sum so far. -/
def pbkdf2Go (pw : List Byte) : Nat → List Byte → List Byte → List Byte
  | 0, _, acc => acc
  | n + 1, u, acc =>
    let u' := hmac384 pw u
    pbkdf2Go pw n u' (List.zipWith (fun a b => a ^^^ b) acc u')

/-- PBKDF2-HMAC-SHA-384, 48 bytes, so one block (R70). -/
def pbkdf2 (pw salt : List Byte) (iter : Nat) : List Byte :=
  let u := hmac384 pw (salt ++ beBytes 4 1)
  pbkdf2Go pw (iter - 1) u u

/-! ### AES-256-GCM -/

/-- Doubling in GF(2^8) with the AES polynomial. -/
def gf8x2 (a : Nat) : Nat := if a < 128 then a * 2 else (a * 2 - 256) ^^^ 0x1B

/-- Product in GF(2^8), from the bits of `b`. -/
def gf8MulGo : Nat → Nat → Nat → Nat → Nat
  | 0, _, _, acc => acc
  | n + 1, a, b, acc => gf8MulGo n (gf8x2 a) (b / 2) (if b % 2 = 1 then acc ^^^ a else acc)

/-- Product in GF(2^8). -/
def gf8Mul (a b : Nat) : Nat := gf8MulGo 8 a b 0

/-- The inverse in GF(2^8), the 254th power; 0 for 0. -/
def gf8Inv (a : Nat) : Nat :=
  let a2 := gf8Mul a a
  let a4 := gf8Mul a2 a2
  let a8 := gf8Mul a4 a4
  let a16 := gf8Mul a8 a8
  let a32 := gf8Mul a16 a16
  let a64 := gf8Mul a32 a32
  let a128 := gf8Mul a64 a64
  gf8Mul (gf8Mul (gf8Mul a2 a4) (gf8Mul a8 a16)) (gf8Mul (gf8Mul a32 a64) a128)

/-- Rotation left of a byte. -/
def rol8 (n x : Nat) : Nat := (x * 2 ^ n % 256) ^^^ (x / 2 ^ (8 - n))

/-- The AES substitution box. -/
def aesSbox (a : Nat) : Nat :=
  let i := gf8Inv a
  i ^^^ rol8 1 i ^^^ rol8 2 i ^^^ rol8 3 i ^^^ rol8 4 i ^^^ 0x63

/-- Exclusive or of two byte strings. -/
def xorBytes (a b : List Byte) : List Byte := List.zipWith (fun x y => x ^^^ y) a b

/-- The substitution of a word of bytes. -/
def aesSub (w : List Byte) : List Byte := w.map (fun b => BitVec.ofNat 8 (aesSbox b.toNat))

/-- The key schedule of AES-256: `ws` holds the words so far, newest first; `i` is the next word's number. -/
def aesSchedule : Nat → Nat → Nat → List (List Byte) → List (List Byte)
  | 0, _, _, ws => ws.reverse
  | n + 1, i, rcon, ws =>
    let prev := ws.getD 0 []
    let back := ws.getD 7 []
    if i % 8 = 0 then
      let t := aesSub (prev.drop 1 ++ prev.take 1)
      let t' := xorBytes t [BitVec.ofNat 8 rcon, 0, 0, 0]
      aesSchedule n (i + 1) (gf8x2 rcon) (xorBytes back t' :: ws)
    else if i % 8 = 4 then aesSchedule n (i + 1) rcon (xorBytes back (aesSub prev) :: ws)
    else aesSchedule n (i + 1) rcon (xorBytes back prev :: ws)

/-- `n` chunks of `k` bytes. -/
def chunks (k : Nat) : Nat → List Byte → List (List Byte)
  | 0, _ => []
  | n + 1, bs => bs.take k :: chunks k n (bs.drop k)

/-- The 15 round keys of AES-256. -/
def aesRoundKeys (key : List Byte) : List (List Byte) :=
  chunks 16 15 (aesSchedule 52 8 1 (chunks 4 8 key).reverse).flatten

/-- The row shift of a state held column by column. -/
def aesShiftRows (s : List Byte) : List Byte :=
  [0, 5, 10, 15, 4, 9, 14, 3, 8, 13, 2, 7, 12, 1, 6, 11].map (fun i => s.getD i 0)

/-- The mix of one column. -/
def aesMixCol (c : List Byte) : List Byte :=
  let g (i j k l : Nat) : Byte :=
    BitVec.ofNat 8 (gf8Mul 2 (byteAt c i) ^^^ gf8Mul 3 (byteAt c j) ^^^ byteAt c k ^^^ byteAt c l)
  [g 0 1 2 3, g 1 2 3 0, g 2 3 0 1, g 3 0 1 2]

/-- The rounds of AES after the first key addition; the last one mixes no columns. -/
def aesRounds : List (List Byte) → List Byte → List Byte
  | [], s => s
  | [k], s => xorBytes (aesShiftRows (aesSub s)) k
  | k :: ks, s => aesRounds ks (xorBytes ((chunks 4 4 (aesShiftRows (aesSub s))).flatMap aesMixCol) k)

/-- AES-256 of one block under expanded keys. -/
def aesBlock (rks : List (List Byte)) (blk : List Byte) : List Byte :=
  match rks with
  | [] => blk
  | k :: ks => aesRounds ks (xorBytes blk k)

/-- Product in GF(2^128) of GCM, bit 0 leftmost: `x` runs over its bits from the left. -/
def gcmMulGo (x : Nat) : Nat → Nat → Nat → Nat
  | 0, _, z => z
  | n + 1, v, z =>
    gcmMulGo x n (if v % 2 = 1 then (v / 2) ^^^ (0xE1 * 2 ^ 120) else v / 2) (if x.testBit n then z ^^^ v else z)

/-- Product in GF(2^128). -/
def gcmMul (x y : Nat) : Nat := gcmMulGo x 128 y 0

/-- Pad to whole 16-byte blocks. -/
def pad16 (bs : List Byte) : List Byte := padTo (16 * divCeil bs.length 16) bs

/-- GHASH over whole blocks. -/
def ghash (h : Nat) (n : Nat) (bs : List Byte) : Nat :=
  (chunks 16 n bs).foldl (fun y b => gcmMul (y ^^^ beNat b) h) 0

/-- The key stream of `n` blocks from counter `c` under a 12-byte IV. -/
def gcmStream (rks : List (List Byte)) (iv : List Byte) : Nat → Nat → List Byte
  | 0, _ => []
  | n + 1, c => aesBlock rks (iv ++ beBytes 4 c) ++ gcmStream rks iv n (c + 1)

/-- The authentication tag of GCM. -/
def gcmTag (rks : List (List Byte)) (iv aad ct : List Byte) : List Byte :=
  let h := beNat (aesBlock rks (List.replicate 16 0))
  let m := pad16 aad ++ pad16 ct ++ beBytes 8 (8 * aad.length) ++ beBytes 8 (8 * ct.length)
  xorBytes (beBytes 16 (ghash h (m.length / 16) m)) (aesBlock rks (iv ++ beBytes 4 1))

/-- AES-256-GCM encryption: cipher text and tag. -/
def gcmEncrypt (key iv aad pt : List Byte) : List Byte × List Byte :=
  let rks := aesRoundKeys key
  let ct := xorBytes pt (gcmStream rks iv (divCeil pt.length 16) 2)
  (ct, gcmTag rks iv aad ct)

/-- AES-256-GCM decryption: none where the tag fails. -/
def gcmDecrypt (key iv aad ct tag : List Byte) : Option (List Byte) :=
  let rks := aesRoundKeys key
  if gcmTag rks iv aad ct = tag then some (xorBytes ct (gcmStream rks iv (divCeil ct.length 16) 2)) else none

/-! ### brainpoolP384r1 (RFC 5639) -/

/-- The field prime. -/
def bpP : Nat :=
  0x8CB91E82A3386D280F5D6F7E50E641DF152F7109ED5456B412B1DA197FB71123ACD3A729901D1A71874700133107EC53
/-- The coefficient a. -/
def bpA : Nat :=
  0x7BC382C63D8C150C3C72080ACE05AFA0C2BEA28E4FB22787139165EFBA91F90F8AA5814A503AD4EB04A8C7DD22CE2826
/-- The coefficient b. -/
def bpB : Nat :=
  0x04A8C7DD22CE28268B39B55416F0447C2FB77DE107DCD2A62E880EA53EEB62D57CB4390295DBC9943AB78696FA504C11
/-- The base point. -/
def bpGx : Nat :=
  0x1D1C64F068CF45FFA2A63A81B7C13F6B8847A3E77EF14FE3DB7FCAFE0CBD10E8E826E03436D646AAEF87B2E247D4AF1E
def bpGy : Nat :=
  0x8ABE1D7520F9C2A45CB1EB8E95CFD55262B70B29FEEC5864E19C054FF99129280E4646217791811142820341263C5315
/-- The order of the base point. -/
def bpN : Nat :=
  0x8CB91E82A3386D280F5D6F7E50E641DF152F7109ED5456B31F166E6CAC0425A7CF3AB6AF6B7FC3103B883202E9046565

/-- Power modulo `m`, over the low bits of the exponent. -/
def powModGo (m : Nat) : Nat → Nat → Nat → Nat → Nat
  | 0, _, _, acc => acc
  | k + 1, b, e, acc => powModGo m k (b * b % m) (e / 2) (if e % 2 = 1 then acc * b % m else acc)

/-- Inverse modulo a prime of 384 bits, by the power p − 2; 0 for 0. -/
def invMod (p a : Nat) : Nat := powModGo p 384 (a % p) (p - 2) 1

/-- Difference modulo `p`. -/
def subMod (p a b : Nat) : Nat := (a % p + (p - b % p)) % p

/-- A point in projective coordinates (X : Y : Z), Z = 0 at infinity, x = X / Z², y = Y / Z³. -/
structure Point where
  x : Nat
  y : Nat
  z : Nat
  deriving DecidableEq, Repr

/-- The point at infinity. -/
def Point.infinity : Point := ⟨1, 1, 0⟩

/-- Doubling of a point. -/
def ecDouble (q : Point) : Point :=
  if q.z = 0 ∨ q.y = 0 then Point.infinity
  else
    let ys := q.y * q.y % bpP
    let s := 4 * q.x * ys % bpP
    let z2 := q.z * q.z % bpP
    let m := (3 * q.x * q.x + bpA * (z2 * z2 % bpP)) % bpP
    let x' := subMod bpP (m * m) (2 * s)
    let y' := subMod bpP (m * subMod bpP s x') (8 * (ys * ys % bpP))
    ⟨x', y', 2 * q.y * q.z % bpP⟩

/-- Sum of two points. -/
def ecAdd (p q : Point) : Point :=
  if p.z = 0 then q else if q.z = 0 then p
  else
    let pz2 := p.z * p.z % bpP
    let qz2 := q.z * q.z % bpP
    let u1 := p.x * qz2 % bpP
    let u2 := q.x * pz2 % bpP
    let s1 := p.y * (qz2 * q.z % bpP) % bpP
    let s2 := q.y * (pz2 * p.z % bpP) % bpP
    if u1 = u2 then (if s1 = s2 then ecDouble p else Point.infinity)
    else
      let h := subMod bpP u2 u1
      let r := subMod bpP s2 s1
      let h2 := h * h % bpP
      let h3 := h2 * h % bpP
      let v := u1 * h2 % bpP
      let x' := subMod bpP (r * r) (h3 + 2 * v)
      let y' := subMod bpP (r * subMod bpP v x') (s1 * h3)
      ⟨x', y', h * (p.z * q.z % bpP) % bpP⟩

/-- Multiple of a point, over the low `n` bits of the scalar. -/
def ecMulGo : Nat → Nat → Point → Point → Point
  | 0, _, _, acc => acc
  | n + 1, k, q, acc => ecMulGo n (k / 2) (ecDouble q) (if k % 2 = 1 then ecAdd acc q else acc)

/-- Multiple of a point. -/
def ecMul (k : Nat) (q : Point) : Point := ecMulGo 384 k q Point.infinity

/-- The affine x-coordinate of a point. -/
def ecX (q : Point) : Nat := q.x * invMod bpP (q.z * q.z % bpP) % bpP

/-- Whether (x, y) is a point of the curve. -/
def onCurve (x y : Nat) : Bool :=
  decide (x < bpP) && decide (y < bpP) && decide (y * y % bpP = (x * x * x + bpA * x + bpB) % bpP)

/-- ECDSA verification with SHA-384 (FIPS 186-5) of r and s over a message digest. -/
def ecdsaVerify (qx qy : Nat) (digest : List Byte) (r s : Nat) : Bool :=
  if r = 0 ∨ bpN ≤ r ∨ s = 0 ∨ bpN ≤ s ∨ onCurve qx qy = false then false
  else
    let w := invMod bpN s
    let u1 := beNat digest * w % bpN
    let u2 := r * w % bpN
    let q := ecAdd (ecMul u1 ⟨bpGx, bpGy, 1⟩) (ecMul u2 ⟨qx, qy, 1⟩)
    if q.z = 0 then false else decide (ecX q % bpN = r)

/-- ECDSA signature with SHA-384 under private key `d` and per-signature value `k`: r then s. -/
def ecdsaSign (d k : Nat) (digest : List Byte) : List Byte :=
  let r := ecX (ecMul k ⟨bpGx, bpGy, 1⟩) % bpN
  let s := invMod bpN k * (beNat digest + r * d) % bpN
  beBytes 48 r ++ beBytes 48 s

/-- The x-coordinate of the ECDH product of a private key and a point (R607), 48 bytes. -/
def ecdhX (d qx qy : Nat) : List Byte := beBytes 48 (ecX (ecMul d ⟨qx, qy, 1⟩))

end Sys2Proof.Machine
end

