-- ==== Sys2Proof/Config.lean ====
section
/-!
DEFINITION. Sys2Proof/Config.lean: what one delivered device fixes, and the free values.

Every constant below is opaque: nothing can prove what it is, so a statement about the model holds whatever it
is. A free value is applied to the step counter `State.free`, which is the model's own field, or to the data it
depends on.
-/
namespace Sys2Proof.Config
open Sys2Proof

/-- Content of the boot ROM, which the manual does not publish (R676). Log entry 10. -/
opaque romWord : Nat → Word
/-- The four Hyrriholt firmware public keys in ROM, X and Y (R594). Log entry 10. -/
opaque firmwareKeyX : Nat → Nat
opaque firmwareKeyY : Nat → Nat
/-- The identity private key, written to OTP at manufacture and never output (R594, R596). Log entry 11. -/
opaque identityPriv : Nat
/-- The identity public key, written to OTP with it (R596). Log entry 11. -/
opaque identityPubX : Nat
opaque identityPubY : Nat
/-- The device's own Ethernet address, which the manual gives no register or rule for. Log entry 11. -/
opaque macAddress : BitVec 48
/-- The device storage key DSK, 32 bytes (R594). Log entry 11. -/
opaque dsk : Nat → Byte
/-- A raw sample of the noise source (R597): bit `i` of the block drawn at step `n`. Log entry 12. -/
opaque noiseBit : Nat → Nat → Bool
/-- A 384-bit random value delivered at step `n` for a nonce, an IV or a per-signature k (R597, R598).
Log entry 12. -/
opaque randomBlock : Nat → BitVec 384
/-- A value the manual leaves unstated, drawn at step `n`. Log entry 13. -/
opaque freeWord : Nat → BitVec 64

/-- The lists of which a record carries an item, and whose items the manual gives no numbers: the parts of main MRAM (R557, R569), the causes of
0xC011 (R501), the reasons of a rejected commit (R81, R602) and of a rejected recorder command (R555), and the paths of the twin (R519). -/
inductive CodeList
  | part | closeCause | commitReason | recReason | path
  deriving DecidableEq, Repr
/-- The number of item `k` of such a list. Log entry 60. -/
opaque codeOf : CodeList → Nat → BitVec 8
/-- Destination address of the cyclic publications, which the manual does not state (R487). Log entry 51. -/
opaque publishIp : BitVec 32

end Sys2Proof.Config
end

