-- ==== Sys2Proof/Machine/Registers.lean ====
section
/-!
DEFINITION. Sys2Proof/Machine/Registers.lean: the register map. One descriptor per register of the block tables (R86, R137, R180,
R223, R265, R290, R331, R369, R396, R431, R465, R507, R508, R539, R578, R592, R618, R633, R673, R693): its address, its
instances, its access (R20), its reset value, and for each writable field the values that are no reserved encoding
(R21). A bit outside every field is reserved and is written 0.
-/
namespace Sys2Proof.Machine
open Sys2Proof

/-- Access types of R20. -/
inductive Access where
  | ro | rw | w1c | wo | rwl
  deriving DecidableEq, Repr

/-- The blocks of the address map (R675). -/
inductive Block where
  | sys | cat | sec | portal | obs | axis | fb | dlk | ilk | fld | lsw | time | net | trdp | stl | twin | recorder | cnt | nvm
  deriving DecidableEq, Repr

/-- A field that a write may carry: its bits and the values it may hold. -/
structure Field where
  hi : Nat
  lo : Nat
  ok : List (Nat × Nat)
  deriving DecidableEq, Repr

/-- One row of a register table: address of the first instance, two dimensions of instances with their strides,
access, reset value and writable fields. -/
structure RegDesc where
  block : Block
  addr : Nat
  n1 : Nat
  s1 : Nat
  n2 : Nat
  s2 : Nat
  access : Access
  reset : Nat
  fields : List Field
  deriving DecidableEq, Repr

/-- The registers, one name per row of the block tables; an instance is named by one or two indices. -/
inductive RegId where
  | catStatus | catVersion | catFloor | catDigest | catRejectCnt | catPwFail | catErrTag | catErrOffset | portalCfg
  | portalInReq | portalInCls | portalInLck | portalInEmg | portalInAux | portalOutLck | portalOutWrn | portalTLock
  | portalTStep | portalTDwell | portalTWarn | portalReopen | portalCur | portalState | portalCycLo | portalCycHi
  | portalStartDelay | portalSeqCfg | portalSeqBudget | portalSeqGrace | portalSeqSide | portalSeqLoad
  | portalSeqSlots | slotCtrl | slotTtLo | slotTtHi | slotSrc | obsCfg | obsModel0 | obsModel1 | obsXclosed
  | obsStroke | obsLpc | obsMargin | obsCeil | obsZone | obsLearn | obsBias | obsEdge | obsRelief | obsFricC
  | obsFricO | obsStat | obsFest | obsTripPos | obsTripInfo | obsReactT | obsDrift | obsSigPtr | obsCmd | obsTblAddr
  | obsTblData | axisCfg | axisLink | axisStepCfg | axisStepTim | axisHome | axisHomePos | axisLimit | axisChatter
  | axisBrake | axisStall | axisStallV | axisLoad | axisTgtClosed | axisTgtOpen | axisCreep | axisProfO | axisProfC
  | axisEdec | axisEjerk | axisStat | axisPosSp | axisSpdSp | axisFerr | axisQstat | axisStepPos | axisIlim | axisCmd
  | axisSegTgt | axisSegLim | axisSegCtrl | fbCfg | fbMap | fbWrap | fbIdx | fbIdxPeriod | fbSsi | fbSsiJump
  | fbSpeedWin | fbScCorr | fbFilter | fbCmpCfg | fbCmpPos | fbCmpSpacing | fbDivout | fbPset | fbStat | fbPos
  | fbPosSh | fbRevSh | fbLatch | fbSpeed | fbIdxStat | fbIdxPos | fbPrbPos | fbPrbLt | fbCmpCnt | fbCmpNext | fbDiag
  | fbSsiRaw | fbEvt | dlkCfg | dlkStat | dlkSeq | dlkDly | dlkStg | dlkCmd | ilkCfg | ilkSotest | ilkXchk | ilkMonT
  | ilkBtCfg | ilkPortIn0 | ilkPortIn1 | ilkPortIn2 | ilkPairA | ilkPairB | ilkMonSo | ilkMonFc | ilkBt | ilkPcrcRef
  | ilkPcrcNow | ilkStat | ilkPortB | ilkPairFlt | ilkPairVal | ilkMonStat | ilkBtFail | ilkBtDue | ilkLogCnt
  | ilkLogIdx | ilkLogStat | ilkLogData | ilkCmd | fldCh | fldFlt | fldTp | fldTile | fldOut | fldStat | fldRaw
  | fldFilt | fldOutImg | fldTpfail | fldTpStat | fldSupply | fldDiag | fldCmd | fldTptime | fldMrst | fldMrstStat
  | lswCfg | lswDelay | lswOut | lswStat | lswCurrent | lswCmd | lswBank | lswBstat | lswBsup | lswBcmd | timeCfg
  | timeServo | timePath | timeJump | timeAsym | timeTopoN | timeTopoKey | timeTopoAsym | timeStat | timeHold
  | timeOffset | timeFreq | timeTtLo | timeTtHi | timeLtLo | timeLtHi | timeMpd | timeTopoUsed | timeUtc | timeCmd
  | netCfg | netBuf | netALim | netLowMax | netPcpMap | netBufStat | netHsrStat | netMacStat | netVlan | netPCfg
  | netPCbs | netPPauseTh | netPGclCfg | netPGcl | netSfDaLo | netSfDaHi | netSfMeter | netSfSdu | netPStat | trdpCfg
  | trdpIp | trdpMask | trdpVehIp | trdpComidBase | trdpStream | trdpStat | trdpEtbTopo | trdpOpTopo | trdpCount
  | trdpPartnerIp | trdpPartnerStat | stlCmd | stlCfg | stlSrc | stlDst | stlTim | stlAge | stlStat | stlSeqTx
  | stlSeqRx | twinCfg | twinTim | twinMateIp | twinQuiet | twinStat | twinMate | twinMseq | twinTests | twinCmd
  | recCfg | recPubIp | recPubMask | recStat | recNextLo | recNextHi | recOldestLo | recOldestHi | recLoad | recArch
  | recFolioStat | recCmd | recRwCmd | recRwPosLo | recRwPosHi | recRwStat | recRwData | recLastword | cntCfg
  | cntSmpCfg | cntStat | cntSweepTtLo | cntSweepTtHi | cntSweepNo | cntSel | cntValLo | cntValHi | cntWrLo | cntWrHi
  | cntCmd | cntSmpPos | cntSmpData | cntSnapLo | cntSnapHi | secStat | secKeys | secOtp | secCatKeyid | secIdPub
  | secCntLo | secCntHi | secPerm | secCmdBuf | secCmdCtrl | secCmdRes | nvmStat | nvmAddr | nvmCmd | nvmBuf
  | sysPwrStat | sysPwrCmd | sysShelfWakeLo | sysShelfWakeHi | sysPwrSup | sysId | sysFw | sysState | sysResetStat
  | sysCmd | sysSect | sysDiscAddr | sysDiscInfo | sysMntStat | sysMntAddr
  deriving DecidableEq, Repr

/-- Source codes an input may name (R90): a field channel, or 0x1FF for not connected. -/
def srcIn : List (Nat × Nat) := [(0, 255), (511, 511)]
/-- Source codes an output may name (R90): a field channel, a load switch, or 0x1FF. -/
def srcOut : List (Nat × Nat) := [(0, 0x11F), (511, 511)]

/-- The register tables. -/
def desc : RegId → RegDesc
  | .catStatus => ⟨.cat, 0x40010000, 1, 0x100000, 1, 0x100000, .ro, 0, []⟩ -- R87
  | .catVersion => ⟨.cat, 0x40010004, 1, 0x100000, 1, 0x100000, .ro, 0, []⟩ -- R86
  | .catFloor => ⟨.cat, 0x40010008, 1, 0x100000, 1, 0x100000, .ro, 1, []⟩ -- R86
  | .catDigest => ⟨.cat, 0x40010010, 12, 4, 1, 0x100000, .ro, 0, []⟩ -- R86
  | .catRejectCnt => ⟨.cat, 0x40010040, 1, 0x100000, 1, 0x100000, .ro, 0, []⟩ -- R86
  | .catPwFail => ⟨.cat, 0x40010044, 1, 0x100000, 1, 0x100000, .ro, 0, []⟩ -- R86
  | .catErrTag => ⟨.cat, 0x40010048, 1, 0x100000, 1, 0x100000, .ro, 0, []⟩ -- R86
  | .catErrOffset => ⟨.cat, 0x4001004C, 1, 0x100000, 1, 0x100000, .ro, 0, []⟩ -- R86
  | .portalCfg => ⟨.portal, 0x40100000, 16, 0x1000, 1, 0x100000, .rwl, 0, [⟨0, 0, [(0, 1)]⟩, ⟨2, 1, [(0, 2)]⟩, ⟨9, 3, [(0, 0x7F)]⟩]⟩ -- R138
  | .portalInReq => ⟨.portal, 0x40100010, 16, 0x1000, 1, 0x100000, .rwl, 0x1FF01FF, [⟨8, 0, srcIn⟩, ⟨24, 16, srcIn⟩]⟩ -- R137
  | .portalInCls => ⟨.portal, 0x40100014, 16, 0x1000, 1, 0x100000, .rwl, 0x1FF01FF, [⟨8, 0, srcIn⟩, ⟨24, 16, srcIn⟩]⟩ -- R137
  | .portalInLck => ⟨.portal, 0x40100018, 16, 0x1000, 1, 0x100000, .rwl, 0x1FF01FF, [⟨8, 0, srcIn⟩, ⟨24, 16, srcIn⟩]⟩ -- R137
  | .portalInEmg => ⟨.portal, 0x4010001C, 16, 0x1000, 1, 0x100000, .rwl, 0x1FF01FF, [⟨8, 0, srcIn⟩, ⟨24, 16, srcIn⟩]⟩ -- R137
  | .portalInAux => ⟨.portal, 0x40100020, 16, 0x1000, 1, 0x100000, .rwl, 0x1FF01FF, [⟨8, 0, srcIn⟩, ⟨24, 16, srcIn⟩]⟩ -- R137
  | .portalOutLck => ⟨.portal, 0x40100024, 16, 0x1000, 1, 0x100000, .rwl, 0x1FF01FF, [⟨8, 0, srcOut⟩, ⟨24, 16, srcOut⟩]⟩ -- R137
  | .portalOutWrn => ⟨.portal, 0x40100028, 16, 0x1000, 1, 0x100000, .rwl, 0x1FF01FF, [⟨8, 0, srcOut⟩, ⟨24, 16, srcOut⟩]⟩ -- R137
  | .portalTLock => ⟨.portal, 0x40100030, 16, 0x1000, 1, 0x100000, .rwl, 0x1F401F4, [⟨15, 0, [(0x32, 0x1388)]⟩, ⟨31, 16, [(0x32, 0x1388)]⟩]⟩ -- R137
  | .portalTStep => ⟨.portal, 0x40100034, 16, 0x1000, 1, 0x100000, .rwl, 0x7D0, [⟨15, 0, [(0x64, 0x2710)]⟩]⟩ -- R137
  | .portalTDwell => ⟨.portal, 0x40100038, 16, 0x1000, 1, 0x100000, .rwl, 0x7D00000, [⟨15, 0, [(0, 0xEA60)]⟩, ⟨31, 16, [(0, 0x7530)]⟩]⟩ -- R137
  | .portalTWarn => ⟨.portal, 0x4010003C, 16, 0x1000, 1, 0x100000, .rwl, 0x141907D0, [⟨15, 0, [(0, 0x2710)]⟩, ⟨23, 16, [(5, 0x64)]⟩, ⟨31, 24, [(0, 0x64)]⟩]⟩ -- R137
  | .portalReopen => ⟨.portal, 0x40100040, 16, 0x1000, 1, 0x100000, .rwl, 0xA640003, [⟨3, 0, [(1, 0xF)]⟩, ⟨22, 16, [(1, 0x64)]⟩, ⟨30, 24, [(1, 0x64)]⟩]⟩ -- R137
  | .portalCur => ⟨.portal, 0x40100050, 16, 0x1000, 4, 4, .rwl, 0, [⟨31, 0, [(0, 0xFFFFFFFF)]⟩]⟩ -- R137
  | .portalState => ⟨.portal, 0x40100100, 16, 0x1000, 1, 0x100000, .ro, 0, []⟩ -- R139
  | .portalCycLo => ⟨.portal, 0x40100108, 16, 0x1000, 1, 0x100000, .ro, 0, []⟩ -- R137
  | .portalCycHi => ⟨.portal, 0x4010010C, 16, 0x1000, 1, 0x100000, .ro, 0, []⟩ -- R137
  | .portalStartDelay => ⟨.portal, 0x40100110, 16, 0x1000, 1, 0x100000, .ro, 0, []⟩ -- R137
  | .portalSeqCfg => ⟨.portal, 0x40100800, 1, 0x100000, 1, 0x100000, .rwl, 0x1FF, [⟨8, 0, srcIn⟩]⟩ -- R137
  | .portalSeqBudget => ⟨.portal, 0x40100804, 1, 0x100000, 1, 0x100000, .rwl, 0x80960078, [⟨9, 0, [(0x14, 0x190)]⟩, ⟨25, 16, [(0, 0x3E8)]⟩, ⟨31, 28, [(0, 0), (4, 0xF)]⟩]⟩ -- R137
  | .portalSeqGrace => ⟨.portal, 0x40100808, 1, 0x100000, 1, 0x100000, .rwl, 0x64, [⟨15, 0, [(0, 0x2710)]⟩]⟩ -- R137
  | .portalSeqSide => ⟨.portal, 0x4010080C, 1, 0x100000, 1, 0x100000, .ro, 0, []⟩ -- R137
  | .portalSeqLoad => ⟨.portal, 0x40100810, 1, 0x100000, 1, 0x100000, .ro, 0, []⟩ -- R137
  | .portalSeqSlots => ⟨.portal, 0x40100814, 1, 0x100000, 1, 0x100000, .ro, 0, []⟩ -- R137
  | .slotCtrl => ⟨.portal, 0x40100A00, 64, 0x10, 1, 0x100000, .ro, 0, []⟩ -- R140
  | .slotTtLo => ⟨.portal, 0x40100A04, 64, 0x10, 1, 0x100000, .ro, 0, []⟩ -- R137
  | .slotTtHi => ⟨.portal, 0x40100A08, 64, 0x10, 1, 0x100000, .ro, 0, []⟩ -- R137
  | .slotSrc => ⟨.portal, 0x40100A0C, 64, 0x10, 1, 0x100000, .ro, 0, []⟩ -- R137
  | .obsCfg => ⟨.obs, 0x40120000, 64, 0x400, 1, 0x100000, .rwl, 0x40, [⟨4, 0, [(0, 0x1F)]⟩, ⟨6, 5, [(1, 3)]⟩, ⟨9, 7, [(0, 7)]⟩]⟩ -- R181
  | .obsModel0 => ⟨.obs, 0x40120004, 64, 0x400, 1, 0x100000, .rwl, 0, [⟨31, 0, [(0, 0xFFFFFFFF)]⟩]⟩ -- R180
  | .obsModel1 => ⟨.obs, 0x40120008, 64, 0x400, 1, 0x100000, .rwl, 0x220000, [⟨15, 0, [(0, 0xFFFF)]⟩, ⟨19, 16, [(0, 4)]⟩, ⟨22, 20, [(0, 6)]⟩]⟩ -- R180
  | .obsXclosed => ⟨.obs, 0x4012000C, 64, 0x400, 1, 0x100000, .rwl, 0, [⟨31, 0, [(0, 0xFFFFFFFF)]⟩]⟩ -- R180
  | .obsStroke => ⟨.obs, 0x40120010, 64, 0x400, 1, 0x100000, .rwl, 0, [⟨31, 0, [(0x100, 0x7FFFFFFF)]⟩]⟩ -- R180
  | .obsLpc => ⟨.obs, 0x40120014, 64, 0x400, 1, 0x100000, .rwl, 0, [⟨31, 0, [(0, 0xFFFFFFFE)]⟩]⟩ -- R180
  | .obsMargin => ⟨.obs, 0x40120018, 64, 0x400, 1, 0x100000, .rwl, 0x1E0A0028, [⟨9, 0, [(5, 0x3E8)]⟩, ⟨22, 16, [(0, 0x64)]⟩, ⟨31, 24, [(0, 0xFF)]⟩]⟩ -- R180
  | .obsCeil => ⟨.obs, 0x4012001C, 64, 0x400, 1, 0x100000, .rwl, 0xC8C12C, [⟨11, 0, [(0x32, 0x7D0)]⟩, ⟨15, 12, [(0, 0xC)]⟩, ⟨27, 16, [(0x32, 0x7D0)]⟩]⟩ -- R180
  | .obsZone => ⟨.obs, 0x40120020, 64, 0x400, 1, 0x100000, .rwl, 0x1E32808, [⟨7, 0, [(0, 0x40)]⟩, ⟨15, 8, [(0, 0xFF)]⟩, ⟨19, 16, [(0, 0xF)]⟩, ⟨27, 20, [(1, 0xFF)]⟩]⟩ -- R180
  | .obsLearn => ⟨.obs, 0x40120024, 64, 0x400, 1, 0x100000, .rwl, 0xA03C085, [⟨3, 0, [(2, 8)]⟩, ⟨11, 4, [(1, 0xFF)]⟩, ⟨21, 12, [(0xA, 0x3E8)]⟩, ⟨31, 22, [(5, 0x3E8)]⟩]⟩ -- R180
  | .obsBias => ⟨.obs, 0x40120028, 64, 0x400, 1, 0x100000, .rwl, 0x1014, [⟨7, 0, [(0, 0xFF)]⟩, ⟨15, 8, [(4, 0x40)]⟩]⟩ -- R180
  | .obsEdge => ⟨.obs, 0x4012002C, 64, 0x400, 1, 0x100000, .rwl, 0, [⟨1, 0, [(0, 2)]⟩, ⟨2, 2, [(0, 1)]⟩, ⟨15, 8, [(0, 0xFF)]⟩]⟩ -- R180
  | .obsRelief => ⟨.obs, 0x40120030, 64, 0x400, 1, 0x100000, .rwl, 0, [⟨7, 0, [(0, 0xFF)]⟩]⟩ -- R180
  | .obsFricC => ⟨.obs, 0x40120040, 64, 0x400, 8, 4, .rwl, 0, [⟨15, 0, [(0, 0x7FFF), (0x8001, 0xFFFF)]⟩, ⟨31, 16, [(0, 0x7FFF), (0x8001, 0xFFFF)]⟩]⟩ -- R144, R146
  | .obsFricO => ⟨.obs, 0x40120060, 64, 0x400, 8, 4, .rwl, 0, [⟨15, 0, [(0, 0x7FFF), (0x8001, 0xFFFF)]⟩, ⟨31, 16, [(0, 0x7FFF), (0x8001, 0xFFFF)]⟩]⟩ -- R144, R146
  | .obsStat => ⟨.obs, 0x40120100, 64, 0x400, 1, 0x100000, .ro, 0, []⟩ -- R182
  | .obsFest => ⟨.obs, 0x40120104, 64, 0x400, 1, 0x100000, .ro, 0, []⟩ -- R180
  | .obsTripPos => ⟨.obs, 0x40120108, 64, 0x400, 1, 0x100000, .ro, 0, []⟩ -- R180
  | .obsTripInfo => ⟨.obs, 0x4012010C, 64, 0x400, 1, 0x100000, .ro, 0, []⟩ -- R180
  | .obsReactT => ⟨.obs, 0x40120110, 64, 0x400, 1, 0x100000, .ro, 0, []⟩ -- R180
  | .obsDrift => ⟨.obs, 0x40120114, 64, 0x400, 1, 0x100000, .ro, 0, []⟩ -- R180
  | .obsSigPtr => ⟨.obs, 0x40120118, 64, 0x400, 1, 0x100000, .ro, 0, []⟩ -- R180
  | .obsCmd => ⟨.obs, 0x40120180, 64, 0x400, 1, 0x100000, .wo, 0, [⟨2, 0, [(1, 2)]⟩, ⟨15, 8, [(0, 0xFF)]⟩, ⟨27, 16, [(0, 0xFFF)]⟩]⟩ -- R183
  | .obsTblAddr => ⟨.obs, 0x40120200, 64, 0x400, 1, 0x100000, .rw, 0, [⟨7, 0, [(0, 0xFF)]⟩, ⟨10, 8, [(0, 5)]⟩]⟩ -- R180
  | .obsTblData => ⟨.obs, 0x40120204, 64, 0x400, 1, 0x100000, .rw, 0, [⟨15, 0, [(0, 0x7FFF), (0x8001, 0xFFFF)]⟩]⟩ -- R180
  | .axisCfg => ⟨.axis, 0x40140000, 64, 0x400, 1, 0x100000, .rwl, 0, [⟨2, 0, [(0, 7)]⟩, ⟨4, 3, [(0, 1)]⟩, ⟨6, 5, [(0, 1)]⟩, ⟨9, 7, [(0, 7)]⟩]⟩ -- R224
  | .axisLink => ⟨.axis, 0x40140004, 64, 0x400, 1, 0x100000, .rwl, 0, [⟨2, 0, [(0, 7)]⟩, ⟨6, 4, [(0, 7)]⟩, ⟨7, 7, [(0, 1)]⟩]⟩ -- R223
  | .axisStepCfg => ⟨.axis, 0x40140008, 64, 0x400, 1, 0x100000, .rwl, 0x14010000, [⟨23, 0, [(0, 0xFFFFFF)]⟩, ⟨31, 24, [(0x14, 0xFF)]⟩]⟩ -- R223
  | .axisStepTim => ⟨.axis, 0x4014000C, 64, 0x400, 1, 0x100000, .rwl, 0x101414, [⟨7, 0, [(1, 0xFF)]⟩, ⟨15, 8, [(1, 0xFF)]⟩, ⟨23, 16, [(1, 0xFF)]⟩, ⟨24, 24, [(0, 1)]⟩, ⟨25, 25, [(0, 1)]⟩]⟩ -- R223
  | .axisHome => ⟨.axis, 0x40140010, 64, 0x400, 1, 0x100000, .rwl, 0x321401FF, [⟨8, 0, srcIn⟩, ⟨23, 16, [(1, 0xF0)]⟩, ⟨31, 24, [(0xA, 0xFF)]⟩]⟩ -- R223
  | .axisHomePos => ⟨.axis, 0x40140014, 64, 0x400, 1, 0x100000, .rwl, 0, [⟨31, 0, [(0, 0xFFFFFFFF)]⟩]⟩ -- R223
  | .axisLimit => ⟨.axis, 0x40140018, 64, 0x400, 1, 0x100000, .rwl, 0x1FF01FF, [⟨8, 0, srcIn⟩, ⟨24, 16, srcIn⟩]⟩ -- R223
  | .axisChatter => ⟨.axis, 0x4014001C, 64, 0x400, 1, 0x100000, .rwl, 0x6408, [⟨7, 0, [(1, 0xFE)]⟩, ⟨23, 8, [(0xA, 0x2710)]⟩]⟩ -- R223
  | .axisBrake => ⟨.axis, 0x40140020, 64, 0x400, 1, 0x100000, .rwl, 0x323201FF, [⟨8, 0, srcOut⟩, ⟨23, 16, [(0xA, 0xFF)]⟩, ⟨31, 24, [(0xA, 0xFF)]⟩]⟩ -- R223
  | .axisStall => ⟨.axis, 0x40140024, 64, 0x400, 1, 0x100000, .rwl, 0x640FA0, [⟨15, 0, [(1, 0xFFFE)]⟩, ⟨23, 16, [(1, 0xFF)]⟩]⟩ -- R223
  | .axisStallV => ⟨.axis, 0x40140028, 64, 0x400, 1, 0x100000, .rwl, 0x3E8, [⟨31, 0, [(0, 0xFFFFFFFF)]⟩]⟩ -- R223
  | .axisLoad => ⟨.axis, 0x4014002C, 64, 0x400, 1, 0x100000, .rwl, 0xE, [⟨3, 0, [(8, 0xF)]⟩]⟩ -- R223
  | .axisTgtClosed => ⟨.axis, 0x40140030, 64, 0x400, 1, 0x100000, .rwl, 0, [⟨31, 0, [(0, 0xFFFFFFFF)]⟩]⟩ -- R223
  | .axisTgtOpen => ⟨.axis, 0x40140034, 64, 0x400, 1, 0x100000, .rwl, 0, [⟨31, 0, [(0, 0xFFFFFFFF)]⟩]⟩ -- R223
  | .axisCreep => ⟨.axis, 0x40140038, 64, 0x400, 1, 0x100000, .rwl, 0x1388, [⟨31, 0, [(0, 0xFFFFFFFF)]⟩]⟩ -- R223
  | .axisProfO => ⟨.axis, 0x40140040, 64, 0x400, 4, 4, .rwl, 0, [⟨31, 0, [(0, 0xFFFFFFFF)]⟩]⟩ -- R223
  | .axisProfC => ⟨.axis, 0x40140050, 64, 0x400, 4, 4, .rwl, 0, [⟨31, 0, [(0, 0xFFFFFFFF)]⟩]⟩ -- R223
  | .axisEdec => ⟨.axis, 0x40140060, 64, 0x400, 1, 0x100000, .rwl, 0, [⟨31, 0, [(0, 0xFFFFFFFF)]⟩]⟩ -- R223
  | .axisEjerk => ⟨.axis, 0x40140064, 64, 0x400, 1, 0x100000, .rwl, 0, [⟨31, 0, [(0, 0xFFFFFFFF)]⟩]⟩ -- R223
  | .axisStat => ⟨.axis, 0x40140100, 64, 0x400, 1, 0x100000, .ro, 0, []⟩ -- R225
  | .axisPosSp => ⟨.axis, 0x40140104, 64, 0x400, 1, 0x100000, .ro, 0, []⟩ -- R223
  | .axisSpdSp => ⟨.axis, 0x40140108, 64, 0x400, 1, 0x100000, .ro, 0, []⟩ -- R223
  | .axisFerr => ⟨.axis, 0x4014010C, 64, 0x400, 1, 0x100000, .ro, 0, []⟩ -- R223
  | .axisQstat => ⟨.axis, 0x40140110, 64, 0x400, 1, 0x100000, .ro, 0, []⟩ -- R226
  | .axisStepPos => ⟨.axis, 0x40140114, 64, 0x400, 1, 0x100000, .ro, 0, []⟩ -- R223
  | .axisIlim => ⟨.axis, 0x40140118, 64, 0x400, 1, 0x100000, .ro, 0, []⟩ -- R223
  | .axisCmd => ⟨.axis, 0x40140180, 64, 0x400, 1, 0x100000, .wo, 0, [⟨2, 0, [(1, 2)]⟩, ⟨3, 3, [(0, 1)]⟩]⟩ -- R227
  | .axisSegTgt => ⟨.axis, 0x40140200, 64, 0x400, 1, 0x100000, .rw, 0, [⟨31, 0, [(0, 0xFFFFFFFF)]⟩]⟩ -- R223
  | .axisSegLim => ⟨.axis, 0x40140204, 64, 0x400, 4, 4, .rw, 0, [⟨31, 0, [(0, 0xFFFFFFFF)]⟩]⟩ -- R223
  | .axisSegCtrl => ⟨.axis, 0x40140214, 64, 0x400, 1, 0x100000, .wo, 0, [⟨0, 0, [(0, 1)]⟩]⟩ -- R223
  | .fbCfg => ⟨.fb, 0x40160000, 64, 0x200, 1, 0x100000, .rwl, 0, [⟨9, 0, [(0, 0x3FF)]⟩]⟩ -- R266
  | .fbMap => ⟨.fb, 0x40160004, 64, 0x200, 1, 0x100000, .rwl, 0, [⟨6, 0, [(0, 0x7F)]⟩]⟩ -- R265
  | .fbWrap => ⟨.fb, 0x40160008, 64, 0x200, 1, 0x100000, .rwl, 0, [⟨31, 0, [(0, 0), (4, 0xFFFFFFFF)]⟩]⟩ -- R265
  | .fbIdx => ⟨.fb, 0x4016000C, 64, 0x200, 1, 0x100000, .rwl, 1, [⟨9, 0, [(0, 0x3FF)]⟩]⟩ -- R265
  | .fbIdxPeriod => ⟨.fb, 0x40160010, 64, 0x200, 1, 0x100000, .rwl, 0, [⟨31, 0, [(0, 0x7FFFFFFF)]⟩]⟩ -- R265
  | .fbSsi => ⟨.fb, 0x40160014, 64, 0x200, 1, 0x100000, .rwl, 0x271659, [⟨5, 0, [(8, 0x28)]⟩, ⟨11, 6, [(8, 0x20)]⟩, ⟨12, 12, [(0, 1)]⟩, ⟨13, 13, [(0, 1)]⟩, ⟨23, 16, [(0x13, 0xFF)]⟩]⟩ -- R265
  | .fbSsiJump => ⟨.fb, 0x40160018, 64, 0x200, 1, 0x100000, .rwl, 0, [⟨31, 0, [(0, 0xFFFFFFFE)]⟩]⟩ -- R265
  | .fbSpeedWin => ⟨.fb, 0x4016001C, 64, 0x200, 1, 0x100000, .rwl, 0x3E8, [⟨16, 0, [(0xA, 0x186A0)]⟩]⟩ -- R265
  | .fbScCorr => ⟨.fb, 0x40160020, 64, 0x200, 1, 0x100000, .rwl, 0, [⟨31, 0, [(0, 0xFFFFFFFF)]⟩]⟩ -- R265
  | .fbFilter => ⟨.fb, 0x40160024, 64, 0x200, 1, 0x100000, .rwl, 0x40042, [⟨3, 0, [(0, 0xF)]⟩, ⟨11, 4, [(0, 0xC8)]⟩, ⟨13, 12, [(0, 2)]⟩, ⟨14, 14, [(0, 1)]⟩, ⟨23, 16, [(1, 0xFF)]⟩]⟩ -- R265
  | .fbCmpCfg => ⟨.fb, 0x40160030, 64, 0x200, 1, 0x100000, .rw, 0x280, [⟨1, 0, [(0, 2)]⟩, ⟨2, 2, [(0, 1)]⟩, ⟨11, 4, [(0x14, 0xFF)]⟩]⟩ -- R265
  | .fbCmpPos => ⟨.fb, 0x40160034, 64, 0x200, 1, 0x100000, .rw, 0, [⟨31, 0, [(0, 0xFFFFFFFF)]⟩]⟩ -- R265
  | .fbCmpSpacing => ⟨.fb, 0x40160038, 64, 0x200, 1, 0x100000, .rw, 0, [⟨31, 0, [(0, 0x7FFFFFFF)]⟩]⟩ -- R265
  | .fbDivout => ⟨.fb, 0x4016003C, 64, 0x200, 1, 0x100000, .rwl, 1, [⟨15, 0, [(1, 0xFFFF)]⟩, ⟨17, 16, [(0, 2)]⟩]⟩ -- R265
  | .fbPset => ⟨.fb, 0x40160040, 64, 0x200, 1, 0x100000, .wo, 0, [⟨31, 0, [(0, 0xFFFFFFFF)]⟩]⟩ -- R265
  | .fbStat => ⟨.fb, 0x40160100, 64, 0x200, 1, 0x100000, .ro, 0, []⟩ -- R267
  | .fbPos => ⟨.fb, 0x40160104, 64, 0x200, 1, 0x100000, .ro, 0, []⟩ -- R265
  | .fbPosSh => ⟨.fb, 0x40160108, 64, 0x200, 1, 0x100000, .ro, 0, []⟩ -- R265
  | .fbRevSh => ⟨.fb, 0x4016010C, 64, 0x200, 1, 0x100000, .ro, 0, []⟩ -- R265
  | .fbLatch => ⟨.fb, 0x40160110, 64, 0x200, 1, 0x100000, .ro, 0, []⟩ -- R265
  | .fbSpeed => ⟨.fb, 0x40160114, 64, 0x200, 1, 0x100000, .ro, 0, []⟩ -- R265
  | .fbIdxStat => ⟨.fb, 0x40160118, 64, 0x200, 1, 0x100000, .ro, 0, []⟩ -- R265
  | .fbIdxPos => ⟨.fb, 0x4016011C, 64, 0x200, 1, 0x100000, .ro, 0, []⟩ -- R265
  | .fbPrbPos => ⟨.fb, 0x40160120, 64, 0x200, 1, 0x100000, .ro, 0, []⟩ -- R265
  | .fbPrbLt => ⟨.fb, 0x40160124, 64, 0x200, 1, 0x100000, .ro, 0, []⟩ -- R265
  | .fbCmpCnt => ⟨.fb, 0x40160128, 64, 0x200, 1, 0x100000, .ro, 0, []⟩ -- R265
  | .fbCmpNext => ⟨.fb, 0x4016012C, 64, 0x200, 1, 0x100000, .ro, 0, []⟩ -- R265
  | .fbDiag => ⟨.fb, 0x40160130, 64, 0x200, 1, 0x100000, .ro, 0, []⟩ -- R265
  | .fbSsiRaw => ⟨.fb, 0x40160134, 64, 0x200, 1, 0x100000, .ro, 0, []⟩ -- R265
  | .fbEvt => ⟨.fb, 0x40160180, 64, 0x200, 1, 0x100000, .w1c, 0, [⟨3, 0, [(0, 0xF)]⟩]⟩ -- R265
  | .dlkCfg => ⟨.dlk, 0x40170000, 8, 0x800, 1, 0x100000, .rwl, 0, [⟨3, 0, [(0, 0xF)]⟩]⟩ -- R290
  | .dlkStat => ⟨.dlk, 0x40170004, 8, 0x800, 1, 0x100000, .ro, 0, []⟩ -- R291
  | .dlkSeq => ⟨.dlk, 0x40170008, 8, 0x800, 1, 0x100000, .ro, 0, []⟩ -- R290
  | .dlkDly => ⟨.dlk, 0x40170010, 8, 0x800, 8, 4, .ro, 0, []⟩ -- R290
  | .dlkStg => ⟨.dlk, 0x40170040, 8, 0x800, 8, 4, .ro, 0, []⟩ -- R290
  | .dlkCmd => ⟨.dlk, 0x40170080, 8, 0x800, 1, 0x100000, .wo, 0, [⟨0, 0, [(0, 1)]⟩]⟩ -- R290
  | .ilkCfg => ⟨.ilk, 0x40180000, 1, 0x100000, 1, 0x100000, .rwl, 0x500000, [⟨15, 0, [(0, 0xFFFF)]⟩, ⟨27, 16, [(1, 0xFFF)]⟩]⟩ -- R331
  | .ilkSotest => ⟨.ilk, 0x40180004, 1, 0x100000, 1, 0x100000, .rwl, 0x64012C, [⟨8, 0, [(0x64, 0x1F4)]⟩, ⟨25, 16, [(0x14, 0x3E8)]⟩]⟩ -- R331
  | .ilkXchk => ⟨.ilk, 0x40180008, 1, 0x100000, 1, 0x100000, .rwl, 0xC8, [⟨13, 0, [(0xA, 0x2710)]⟩]⟩ -- R331
  | .ilkMonT => ⟨.ilk, 0x4018000C, 1, 0x100000, 1, 0x100000, .rwl, 0x32, [⟨9, 0, [(0xA, 0x3E8)]⟩]⟩ -- R331
  | .ilkBtCfg => ⟨.ilk, 0x40180010, 1, 0x100000, 1, 0x100000, .rwl, 0x32780018, [⟨13, 0, [(1, 0x2238)]⟩, ⟨23, 16, [(0x64, 0xFA)]⟩, ⟨31, 24, [(0xA, 0x64)]⟩]⟩ -- R331
  | .ilkPortIn0 => ⟨.ilk, 0x40180040, 16, 0x10, 1, 0x100000, .rwl, 0x1FF01FF, [⟨8, 0, srcIn⟩, ⟨24, 16, srcIn⟩]⟩ -- R331
  | .ilkPortIn1 => ⟨.ilk, 0x40180044, 16, 0x10, 1, 0x100000, .rwl, 0x1FF01FF, [⟨8, 0, srcIn⟩, ⟨24, 16, srcIn⟩]⟩ -- R331
  | .ilkPortIn2 => ⟨.ilk, 0x40180048, 16, 0x10, 1, 0x100000, .rwl, 0x1FF, [⟨8, 0, srcIn⟩]⟩ -- R331
  | .ilkPairA => ⟨.ilk, 0x40180140, 40, 8, 1, 0x100000, .rwl, 0, [⟨15, 0, [(0, 0xFFFF)]⟩, ⟨21, 16, [(0, 0x3F)]⟩, ⟨31, 24, [(0, 0xFF)]⟩]⟩ -- R331
  | .ilkPairB => ⟨.ilk, 0x40180144, 40, 8, 1, 0x100000, .rwl, 0x28, [⟨10, 0, [(2, 0x7D0)]⟩, ⟨11, 11, [(0, 1)]⟩, ⟨12, 12, [(0, 1)]⟩]⟩ -- R331
  | .ilkMonSo => ⟨.ilk, 0x40180280, 4, 4, 1, 0x100000, .rwl, 0x1FF0000, [⟨24, 16, srcIn⟩, ⟨25, 25, [(0, 1)]⟩]⟩ -- R331
  | .ilkMonFc => ⟨.ilk, 0x40180290, 16, 4, 1, 0x100000, .rwl, 0x1FF01FF, [⟨8, 0, srcIn⟩, ⟨24, 16, srcIn⟩, ⟨26, 25, [(0, 3)]⟩]⟩ -- R331
  | .ilkBt => ⟨.ilk, 0x40180300, 64, 4, 1, 0x100000, .rwl, 0xA0400, [⟨0, 0, [(0, 1)]⟩, ⟨15, 8, [(1, 0xF0)]⟩, ⟨31, 16, [(1, 0xFFFE)]⟩]⟩ -- R331
  | .ilkPcrcRef => ⟨.ilk, 0x40180400, 1, 0x100000, 1, 0x100000, .ro, 0, []⟩ -- R331
  | .ilkPcrcNow => ⟨.ilk, 0x40180404, 1, 0x100000, 1, 0x100000, .ro, 0, []⟩ -- R331
  | .ilkStat => ⟨.ilk, 0x40180408, 1, 0x100000, 1, 0x100000, .ro, 0, []⟩ -- R332
  | .ilkPortB => ⟨.ilk, 0x4018040C, 1, 0x100000, 1, 0x100000, .ro, 0, []⟩ -- R331
  | .ilkPairFlt => ⟨.ilk, 0x40180410, 2, 4, 1, 0x100000, .ro, 0, []⟩ -- R331
  | .ilkPairVal => ⟨.ilk, 0x40180418, 2, 4, 1, 0x100000, .ro, 0, []⟩ -- R331
  | .ilkMonStat => ⟨.ilk, 0x40180420, 1, 0x100000, 1, 0x100000, .ro, 0, []⟩ -- R331
  | .ilkBtFail => ⟨.ilk, 0x40180424, 2, 4, 1, 0x100000, .ro, 0, []⟩ -- R331
  | .ilkBtDue => ⟨.ilk, 0x4018042C, 2, 4, 1, 0x100000, .ro, 0, []⟩ -- R331
  | .ilkLogCnt => ⟨.ilk, 0x40180440, 1, 0x100000, 1, 0x100000, .ro, 0, []⟩ -- R331
  | .ilkLogIdx => ⟨.ilk, 0x40180444, 1, 0x100000, 1, 0x100000, .rw, 0, [⟨31, 0, [(0, 0xFFFFFFFF)]⟩]⟩ -- R331
  | .ilkLogStat => ⟨.ilk, 0x40180448, 1, 0x100000, 1, 0x100000, .ro, 0, []⟩ -- R331
  | .ilkLogData => ⟨.ilk, 0x40180450, 12, 4, 1, 0x100000, .ro, 0, []⟩ -- R331
  | .ilkCmd => ⟨.ilk, 0x40180480, 1, 0x100000, 1, 0x100000, .wo, 0, [⟨2, 0, [(1, 1)]⟩]⟩ -- R331
  | .fldCh => ⟨.fld, 0x40190000, 8, 0x1000, 32, 4, .rwl, 0x490, [⟨0, 0, [(0, 1)]⟩, ⟨1, 1, [(0, 1)]⟩, ⟨5, 2, [(2, 0xA)]⟩, ⟨7, 6, [(0, 3)]⟩, ⟨11, 8, [(1, 0xA)]⟩, ⟨17, 12, [(0, 0x3F)]⟩]⟩ -- R370
  | .fldFlt => ⟨.fld, 0x40190080, 8, 0x1000, 32, 4, .rwl, 0x1E, [⟨11, 0, [(1, 0xFFF)]⟩]⟩ -- R369
  | .fldTp => ⟨.fld, 0x40190100, 8, 0x1000, 8, 4, .rwl, 0, [⟨1, 0, [(0, 3)]⟩]⟩ -- R369
  | .fldTile => ⟨.fld, 0x40190120, 8, 0x1000, 1, 0x100000, .rwl, 0xC8, [⟨13, 0, [(5, 0x2710)]⟩]⟩ -- R369
  | .fldOut => ⟨.fld, 0x40190200, 8, 0x1000, 1, 0x100000, .rw, 0, [⟨31, 0, [(0, 0xFFFFFFFF)]⟩]⟩ -- R369
  | .fldStat => ⟨.fld, 0x40190300, 8, 0x1000, 1, 0x100000, .ro, 0, []⟩ -- R371
  | .fldRaw => ⟨.fld, 0x40190304, 8, 0x1000, 1, 0x100000, .ro, 0, []⟩ -- R369
  | .fldFilt => ⟨.fld, 0x40190308, 8, 0x1000, 1, 0x100000, .ro, 0, []⟩ -- R369
  | .fldOutImg => ⟨.fld, 0x4019030C, 8, 0x1000, 1, 0x100000, .ro, 0, []⟩ -- R369
  | .fldTpfail => ⟨.fld, 0x40190310, 8, 0x1000, 1, 0x100000, .ro, 0, []⟩ -- R369
  | .fldTpStat => ⟨.fld, 0x40190314, 8, 0x1000, 1, 0x100000, .ro, 0, []⟩ -- R369
  | .fldSupply => ⟨.fld, 0x40190318, 8, 0x1000, 1, 0x100000, .ro, 0, []⟩ -- R369
  | .fldDiag => ⟨.fld, 0x40190320, 8, 0x1000, 8, 4, .ro, 0, []⟩ -- R372
  | .fldCmd => ⟨.fld, 0x40190380, 8, 0x1000, 1, 0x100000, .wo, 0, [⟨1, 0, [(0, 3)]⟩]⟩ -- R369
  | .fldTptime => ⟨.fld, 0x40190800, 1, 0x100000, 1, 0x100000, .rwl, 0x643232, [⟨7, 0, [(0xA, 0xC8)]⟩, ⟨15, 8, [(5, 0xC8)]⟩, ⟨25, 16, [(0x14, 0x3E8)]⟩]⟩ -- R369
  | .fldMrst => ⟨.fld, 0x40190810, 4, 4, 1, 0x100000, .rwl, 0x1FF, [⟨8, 0, srcIn⟩, ⟨31, 16, [(0, 0xFFFF)]⟩]⟩ -- R369
  | .fldMrstStat => ⟨.fld, 0x40190820, 1, 0x100000, 1, 0x100000, .ro, 0, []⟩ -- R369
  | .lswCfg => ⟨.lsw, 0x401A0000, 32, 0x100, 1, 0x100000, .rwl, 0x785286, [⟨4, 0, [(0, 0x1F)]⟩, ⟨10, 5, [(2, 0x32)]⟩, ⟨18, 11, [(1, 0xFF)]⟩, ⟨26, 19, [(0, 0xFF)]⟩]⟩ -- R397
  | .lswDelay => ⟨.lsw, 0x401A0004, 32, 0x100, 1, 0x100000, .rwl, 0, [⟨13, 0, [(0, 0x2710)]⟩]⟩ -- R396
  | .lswOut => ⟨.lsw, 0x401A0008, 32, 0x100, 1, 0x100000, .rw, 0, [⟨0, 0, [(0, 1)]⟩]⟩ -- R396
  | .lswStat => ⟨.lsw, 0x401A0040, 32, 0x100, 1, 0x100000, .ro, 0, []⟩ -- R398
  | .lswCurrent => ⟨.lsw, 0x401A0044, 32, 0x100, 1, 0x100000, .ro, 0, []⟩ -- R396
  | .lswCmd => ⟨.lsw, 0x401A0080, 32, 0x100, 1, 0x100000, .wo, 0, [⟨1, 0, [(0, 3)]⟩]⟩ -- R396
  | .lswBank => ⟨.lsw, 0x401A00C0, 4, 0x800, 1, 0x100000, .rwl, 0xC8, [⟨13, 0, [(5, 0x2710)]⟩]⟩ -- R396
  | .lswBstat => ⟨.lsw, 0x401A00C4, 4, 0x800, 1, 0x100000, .ro, 0, []⟩ -- R396
  | .lswBsup => ⟨.lsw, 0x401A00C8, 4, 0x800, 1, 0x100000, .ro, 0, []⟩ -- R396
  | .lswBcmd => ⟨.lsw, 0x401A00CC, 4, 0x800, 1, 0x100000, .wo, 0, [⟨0, 0, [(0, 1)]⟩]⟩ -- R396
  | .timeCfg => ⟨.time, 0x40200000, 1, 0x100000, 1, 0x100000, .rwl, 0x8500800, [⟨2, 0, [(0, 4)]⟩, ⟨10, 4, [(0, 0x7F)]⟩, ⟨17, 11, [(0, 0x7F)]⟩, ⟨24, 18, [(0, 0x7F)]⟩, ⟨27, 25, [(3, 7)]⟩, ⟨29, 28, [(0, 1)]⟩]⟩ -- R432
  | .timeServo => ⟨.time, 0x40200004, 1, 0x100000, 1, 0x100000, .rwl, 0x646332, [⟨7, 0, [(0xA, 0xFA)]⟩, ⟨11, 8, [(1, 8)]⟩, ⟨15, 12, [(2, 0xC)]⟩, ⟨27, 16, [(0x14, 0xFA0)]⟩]⟩ -- R431
  | .timePath => ⟨.time, 0x40200008, 1, 0x100000, 1, 0x100000, .rwl, 0xC800C8, [⟨9, 0, [(0x14, 0x3E8)]⟩, ⟨25, 16, [(0xA, 0x3E8)]⟩]⟩ -- R431
  | .timeJump => ⟨.time, 0x4020000C, 1, 0x100000, 1, 0x100000, .rwl, 0xA, [⟨11, 0, [(1, 0xE10)]⟩]⟩ -- R431
  | .timeAsym => ⟨.time, 0x40200010, 4, 4, 1, 0x100000, .rwl, 0, [⟨31, 0, [(0, 0x186A0), (0xFFFE7960, 0xFFFFFFFF)]⟩]⟩ -- R431
  | .timeTopoN => ⟨.time, 0x40200020, 1, 0x100000, 1, 0x100000, .rwl, 0, [⟨5, 0, [(0, 0x20)]⟩]⟩ -- R431
  | .timeTopoKey => ⟨.time, 0x40200100, 32, 8, 1, 0x100000, .rwl, 0, [⟨31, 0, [(0, 0xFFFFFFFE)]⟩]⟩ -- R431
  | .timeTopoAsym => ⟨.time, 0x40200104, 32, 8, 1, 0x100000, .rwl, 0, [⟨31, 0, [(0, 0xFFFFFFFF)]⟩]⟩ -- R431
  | .timeStat => ⟨.time, 0x40200200, 1, 0x100000, 1, 0x100000, .ro, 0, []⟩ -- R433
  | .timeHold => ⟨.time, 0x40200204, 1, 0x100000, 1, 0x100000, .ro, 0, []⟩ -- R431
  | .timeOffset => ⟨.time, 0x40200208, 1, 0x100000, 1, 0x100000, .ro, 0, []⟩ -- R431
  | .timeFreq => ⟨.time, 0x4020020C, 1, 0x100000, 1, 0x100000, .ro, 0, []⟩ -- R431
  | .timeTtLo => ⟨.time, 0x40200210, 1, 0x100000, 1, 0x100000, .ro, 0, []⟩ -- R431
  | .timeTtHi => ⟨.time, 0x40200214, 1, 0x100000, 1, 0x100000, .ro, 0, []⟩ -- R431
  | .timeLtLo => ⟨.time, 0x40200218, 1, 0x100000, 1, 0x100000, .ro, 0, []⟩ -- R431
  | .timeLtHi => ⟨.time, 0x4020021C, 1, 0x100000, 1, 0x100000, .ro, 0, []⟩ -- R431
  | .timeMpd => ⟨.time, 0x40200220, 4, 4, 1, 0x100000, .ro, 0, []⟩ -- R431
  | .timeTopoUsed => ⟨.time, 0x40200230, 1, 0x100000, 1, 0x100000, .ro, 0x3F, []⟩ -- R431
  | .timeUtc => ⟨.time, 0x40200234, 1, 0x100000, 1, 0x100000, .ro, 0, []⟩ -- R431
  | .timeCmd => ⟨.time, 0x40200280, 1, 0x100000, 1, 0x100000, .wo, 0, [⟨2, 0, [(1, 2)]⟩]⟩ -- R431
  | .netCfg => ⟨.net, 0x40210000, 1, 0x100000, 1, 0x100000, .rwl, 0x1E00, [⟨2, 0, [(0, 7)]⟩, ⟨15, 8, [(1, 0xFF)]⟩]⟩ -- R465
  | .netBuf => ⟨.net, 0x40210004, 1, 0x100000, 1, 0x100000, .rwl, 0x3010202, [⟨7, 0, [(0, 0x20)]⟩, ⟨15, 8, [(0, 0x20)]⟩, ⟨23, 16, [(0, 0x20)]⟩, ⟨26, 24, [(0, 6)]⟩]⟩ -- R465
  | .netALim => ⟨.net, 0x40210008, 1, 0x100000, 1, 0x100000, .rwl, 0x30100, [⟨8, 0, [(0x40, 0x200)]⟩, ⟨19, 16, [(1, 8)]⟩]⟩ -- R465
  | .netLowMax => ⟨.net, 0x4021000C, 1, 0x100000, 1, 0x100000, .rwl, 0x200, [⟨10, 0, [(0x100, 0x5F8)]⟩]⟩ -- R465
  | .netPcpMap => ⟨.net, 0x40210010, 1, 0x100000, 1, 0x100000, .rwl, 0x5AF, [⟨15, 0, [(0, 0xFFFF)]⟩]⟩ -- R465
  | .netBufStat => ⟨.net, 0x40210040, 1, 0x100000, 1, 0x100000, .ro, 0, []⟩ -- R465
  | .netHsrStat => ⟨.net, 0x40210044, 1, 0x100000, 1, 0x100000, .ro, 0, []⟩ -- R465
  | .netMacStat => ⟨.net, 0x40210048, 1, 0x100000, 1, 0x100000, .ro, 0, []⟩ -- R465
  | .netVlan => ⟨.net, 0x40210100, 64, 4, 1, 0x100000, .rwl, 0, [⟨11, 0, [(0, 0xFFE)]⟩, ⟨21, 12, [(0, 0x3FF)]⟩]⟩ -- R465
  | .netPCfg => ⟨.net, 0x40211000, 5, 0x400, 1, 0x100000, .rwl, 0x100, [⟨0, 0, [(0, 1)]⟩, ⟨2, 1, [(0, 2)]⟩, ⟨5, 3, [(0, 7)]⟩, ⟨19, 8, [(1, 0xFFE)]⟩, ⟨22, 20, [(0, 7)]⟩]⟩ -- R466
  | .netPCbs => ⟨.net, 0x40211004, 5, 0x400, 1, 0x100000, .rwl, 0, [⟨9, 0, [(0, 0x2EE)]⟩]⟩ -- R465
  | .netPPauseTh => ⟨.net, 0x40211008, 4, 0x400, 1, 0x100000, .rwl, 0x408, [⟨7, 0, [(1, 0x40)]⟩, ⟨15, 8, [(0, 0x3F)]⟩]⟩ -- R465
  | .netPGclCfg => ⟨.net, 0x4021100C, 5, 0x400, 1, 0x100000, .rwl, 0x2802, [⟨0, 0, [(0, 1)]⟩, ⟨5, 1, [(1, 0x10)]⟩, ⟨23, 8, [(1, 0x9C40)]⟩]⟩ -- R465
  | .netPGcl => ⟨.net, 0x40211040, 5, 0x400, 16, 4, .rwl, 7, [⟨2, 0, [(0, 7)]⟩, ⟨31, 8, [(0, 0xFFFFFF)]⟩]⟩ -- R465
  | .netSfDaLo => ⟨.net, 0x40211100, 4, 0x400, 32, 0x10, .rwl, 0, [⟨31, 0, [(0, 0xFFFFFFFF)]⟩]⟩ -- R465
  | .netSfDaHi => ⟨.net, 0x40211104, 4, 0x400, 32, 0x10, .rwl, 0, [⟨15, 0, [(0, 0xFFFF)]⟩, ⟨27, 16, [(0, 0xFFF)]⟩, ⟨31, 31, [(0, 1)]⟩]⟩ -- R465
  | .netSfMeter => ⟨.net, 0x40211108, 4, 0x400, 32, 0x10, .rwl, 0, [⟨31, 0, [(0, 0xFFFFFFFF)]⟩]⟩ -- R465
  | .netSfSdu => ⟨.net, 0x4021110C, 4, 0x400, 32, 0x10, .rwl, 0, [⟨10, 0, [(0, 0x7FF)]⟩]⟩ -- R465
  | .netPStat => ⟨.net, 0x40211300, 5, 0x400, 1, 0x100000, .ro, 0, []⟩ -- R467
  | .trdpCfg => ⟨.trdp, 0x40220000, 1, 0x100000, 1, 0x100000, .rwl, 0x600, [⟨1, 0, [(0, 3)]⟩, ⟨15, 8, [(1, 0xFF)]⟩]⟩ -- R507
  | .trdpIp => ⟨.trdp, 0x40220004, 1, 0x100000, 1, 0x100000, .rwl, 0, [⟨31, 0, [(0, 0xFFFFFFFF)]⟩]⟩ -- R507
  | .trdpMask => ⟨.trdp, 0x40220008, 1, 0x100000, 1, 0x100000, .rwl, 0xFF800000, [⟨31, 0, [(0, 0xFFFFFFFF)]⟩]⟩ -- R507
  | .trdpVehIp => ⟨.trdp, 0x4022000C, 1, 0x100000, 1, 0x100000, .rwl, 0, [⟨31, 0, [(0, 0xFFFFFFFF)]⟩]⟩ -- R507
  | .trdpComidBase => ⟨.trdp, 0x40220010, 1, 0x100000, 1, 0x100000, .rwl, 0xA028, [⟨31, 0, [(0x3E8, 0xFFFFFF00)]⟩]⟩ -- R507
  | .trdpStream => ⟨.trdp, 0x40220014, 1, 0x100000, 1, 0x100000, .rwl, 0x3E80814, [⟨7, 0, [(2, 0xFF)]⟩, ⟨15, 8, [(1, 0xF)]⟩, ⟨31, 16, [(0x64, 0x2710)]⟩]⟩ -- R507
  | .trdpStat => ⟨.trdp, 0x40220100, 1, 0x100000, 1, 0x100000, .ro, 0, []⟩ -- R507
  | .trdpEtbTopo => ⟨.trdp, 0x40220104, 1, 0x100000, 1, 0x100000, .ro, 0, []⟩ -- R507
  | .trdpOpTopo => ⟨.trdp, 0x40220108, 1, 0x100000, 1, 0x100000, .ro, 0, []⟩ -- R507
  | .trdpCount => ⟨.trdp, 0x4022010C, 1, 0x100000, 1, 0x100000, .ro, 0, []⟩ -- R507
  | .trdpPartnerIp => ⟨.trdp, 0x40220200, 128, 8, 1, 0x100000, .rwl, 0, [⟨31, 0, [(0, 0xFFFFFFFF)]⟩]⟩ -- R507
  | .trdpPartnerStat => ⟨.trdp, 0x40220204, 128, 8, 1, 0x100000, .ro, 0, []⟩ -- R507
  | .stlCmd => ⟨.stl, 0x40230080, 1, 0x100000, 1, 0x100000, .wo, 0, [⟨5, 0, [(0, 0x3F)]⟩, ⟨9, 8, [(1, 2)]⟩]⟩ -- R508
  | .stlCfg => ⟨.stl, 0x40230100, 64, 0x20, 1, 0x100000, .rwl, 0, [⟨6, 0, [(0, 0x7F)]⟩, ⟨14, 8, [(0, 0x7F)]⟩, ⟨31, 16, [(0, 0xFFFE)]⟩]⟩ -- R508
  | .stlSrc => ⟨.stl, 0x40230104, 64, 0x20, 1, 0x100000, .rwl, 0, [⟨31, 0, [(0, 0xFFFFFFFF)]⟩]⟩ -- R508
  | .stlDst => ⟨.stl, 0x40230108, 64, 0x20, 1, 0x100000, .rwl, 0, [⟨31, 0, [(0, 0xFFFFFFFF)]⟩]⟩ -- R508
  | .stlTim => ⟨.stl, 0x4023010C, 64, 0x20, 1, 0x100000, .rwl, 0x1000780A, [⟨9, 0, [(1, 0x3E8)]⟩, ⟨23, 10, [(3, 0x2710)]⟩, ⟨31, 24, [(0x10, 0xFF)]⟩]⟩ -- R508
  | .stlAge => ⟨.stl, 0x40230110, 64, 0x20, 1, 0x100000, .rwl, 0x1F4, [⟨15, 0, [(0xA, 0xFFFE)]⟩]⟩ -- R508
  | .stlStat => ⟨.stl, 0x40230114, 64, 0x20, 1, 0x100000, .ro, 0, []⟩ -- R508
  | .stlSeqTx => ⟨.stl, 0x40230118, 64, 0x20, 1, 0x100000, .ro, 0, []⟩ -- R508
  | .stlSeqRx => ⟨.stl, 0x4023011C, 64, 0x20, 1, 0x100000, .ro, 0, []⟩ -- R508
  | .twinCfg => ⟨.twin, 0x40240000, 1, 0x100000, 1, 0x100000, .rwl, 2, [⟨5, 0, [(0, 0x3F)]⟩]⟩ -- R539
  | .twinTim => ⟨.twin, 0x40240004, 1, 0x100000, 1, 0x100000, .rwl, 0x23C05, [⟨7, 0, [(3, 0x64)]⟩, ⟨15, 8, [(0xA, 0xFF)]⟩, ⟨23, 16, [(1, 0xA)]⟩]⟩ -- R539
  | .twinMateIp => ⟨.twin, 0x40240008, 1, 0x100000, 1, 0x100000, .rwl, 0, [⟨31, 0, [(0, 0xFFFFFFFF)]⟩]⟩ -- R539
  | .twinQuiet => ⟨.twin, 0x4024000C, 1, 0x100000, 1, 0x100000, .rwl, 0x1F4, [⟨13, 0, [(0x64, 0x2710)]⟩]⟩ -- R539
  | .twinStat => ⟨.twin, 0x40240100, 1, 0x100000, 1, 0x100000, .ro, 0, []⟩ -- R540
  | .twinMate => ⟨.twin, 0x40240104, 1, 0x100000, 1, 0x100000, .ro, 0, []⟩ -- R539
  | .twinMseq => ⟨.twin, 0x40240108, 1, 0x100000, 1, 0x100000, .ro, 0, []⟩ -- R539
  | .twinTests => ⟨.twin, 0x4024010C, 1, 0x100000, 1, 0x100000, .ro, 0, []⟩ -- R539
  | .twinCmd => ⟨.twin, 0x40240180, 1, 0x100000, 1, 0x100000, .wo, 0, [⟨2, 0, [(1, 1)]⟩]⟩ -- R539
  | .recCfg => ⟨.recorder, 0x40250000, 1, 0x100000, 1, 0x100000, .rwl, 0x70A05, [⟨2, 0, [(0, 7)]⟩, ⟨15, 8, [(1, 0xFF)]⟩, ⟨18, 16, [(0, 7)]⟩]⟩ -- R578
  | .recPubIp => ⟨.recorder, 0x40250004, 1, 0x100000, 1, 0x100000, .rwl, 0, [⟨31, 0, [(0, 0xFFFFFFFF)]⟩]⟩ -- R578
  | .recPubMask => ⟨.recorder, 0x40250008, 1, 0x100000, 1, 0x100000, .rwl, 0x6098, [⟨15, 0, [(0, 0xFFFF)]⟩]⟩ -- R578
  | .recStat => ⟨.recorder, 0x40250100, 1, 0x100000, 1, 0x100000, .ro, 0, []⟩ -- R579
  | .recNextLo => ⟨.recorder, 0x40250104, 1, 0x100000, 1, 0x100000, .ro, 1, []⟩ -- R578
  | .recNextHi => ⟨.recorder, 0x40250108, 1, 0x100000, 1, 0x100000, .ro, 0, []⟩ -- R578
  | .recOldestLo => ⟨.recorder, 0x4025010C, 1, 0x100000, 1, 0x100000, .ro, 1, []⟩ -- R578
  | .recOldestHi => ⟨.recorder, 0x40250110, 1, 0x100000, 1, 0x100000, .ro, 0, []⟩ -- R578
  | .recLoad => ⟨.recorder, 0x40250114, 1, 0x100000, 1, 0x100000, .ro, 0, []⟩ -- R578
  | .recArch => ⟨.recorder, 0x40250118, 1, 0x100000, 1, 0x100000, .ro, 0, []⟩ -- R578
  | .recFolioStat => ⟨.recorder, 0x4025011C, 1, 0x100000, 1, 0x100000, .ro, 0, []⟩ -- R578
  | .recCmd => ⟨.recorder, 0x40250180, 1, 0x100000, 1, 0x100000, .wo, 0, [⟨5, 0, [(0, 0x3F)]⟩]⟩ -- R580
  | .recRwCmd => ⟨.recorder, 0x40250200, 1, 0x100000, 1, 0x100000, .wo, 0, [⟨1, 0, [(0, 3)]⟩, ⟨3, 2, [(0, 2)]⟩, ⟨6, 4, [(0, 7)]⟩]⟩ -- R578
  | .recRwPosLo => ⟨.recorder, 0x40250204, 1, 0x100000, 1, 0x100000, .rw, 0, [⟨31, 0, [(0, 0xFFFFFFFF)]⟩]⟩ -- R578
  | .recRwPosHi => ⟨.recorder, 0x40250208, 1, 0x100000, 1, 0x100000, .rw, 0, [⟨15, 0, [(0, 0xFFFF)]⟩]⟩ -- R578
  | .recRwStat => ⟨.recorder, 0x4025020C, 1, 0x100000, 1, 0x100000, .ro, 0, []⟩ -- R578
  | .recRwData => ⟨.recorder, 0x40250220, 8, 4, 1, 0x100000, .ro, 0, []⟩ -- R578
  | .recLastword => ⟨.recorder, 0x40250300, 16, 4, 1, 0x100000, .ro, 0, []⟩ -- R578
  | .cntCfg => ⟨.cnt, 0x40260000, 1, 0x100000, 1, 0x100000, .rwl, 0x3E8, [⟨13, 0, [(0, 0x2710)]⟩, ⟨15, 14, [(0, 3)]⟩]⟩ -- R592
  | .cntSmpCfg => ⟨.cnt, 0x40260004, 1, 0x100000, 1, 0x100000, .rwl, 0x10001, [⟨15, 0, [(1, 0xFFFF)]⟩, ⟨18, 16, [(0, 7)]⟩]⟩ -- R592
  | .cntStat => ⟨.cnt, 0x40260100, 1, 0x100000, 1, 0x100000, .ro, 0, []⟩ -- R592
  | .cntSweepTtLo => ⟨.cnt, 0x40260104, 1, 0x100000, 1, 0x100000, .ro, 0, []⟩ -- R592
  | .cntSweepTtHi => ⟨.cnt, 0x40260108, 1, 0x100000, 1, 0x100000, .ro, 0, []⟩ -- R592
  | .cntSweepNo => ⟨.cnt, 0x4026010C, 1, 0x100000, 1, 0x100000, .ro, 0, []⟩ -- R592
  | .cntSel => ⟨.cnt, 0x40260110, 1, 0x100000, 1, 0x100000, .rw, 0, [⟨8, 0, [(0, 0x13F)]⟩]⟩ -- R592
  | .cntValLo => ⟨.cnt, 0x40260114, 1, 0x100000, 1, 0x100000, .ro, 0, []⟩ -- R592
  | .cntValHi => ⟨.cnt, 0x40260118, 1, 0x100000, 1, 0x100000, .ro, 0, []⟩ -- R592
  | .cntWrLo => ⟨.cnt, 0x4026011C, 1, 0x100000, 1, 0x100000, .rw, 0, [⟨31, 0, [(0, 0xFFFFFFFF)]⟩]⟩ -- R592
  | .cntWrHi => ⟨.cnt, 0x40260120, 1, 0x100000, 1, 0x100000, .rw, 0, [⟨15, 0, [(0, 0xFFFF)]⟩]⟩ -- R592
  | .cntCmd => ⟨.cnt, 0x40260180, 1, 0x100000, 1, 0x100000, .wo, 0, [⟨2, 0, [(1, 4)]⟩]⟩ -- R592
  | .cntSmpPos => ⟨.cnt, 0x40260200, 1, 0x100000, 1, 0x100000, .rw, 0, [⟨9, 0, [(0, 0x3FF)]⟩]⟩ -- R592
  | .cntSmpData => ⟨.cnt, 0x40260220, 8, 4, 1, 0x100000, .ro, 0, []⟩ -- R592
  | .cntSnapLo => ⟨.cnt, 0x40260400, 320, 8, 1, 0x100000, .ro, 0, []⟩ -- R592
  | .cntSnapHi => ⟨.cnt, 0x40260404, 320, 8, 1, 0x100000, .ro, 0, []⟩ -- R592
  | .secStat => ⟨.sec, 0x40020000, 1, 0x100000, 1, 0x100000, .ro, 0, []⟩ -- R619
  | .secKeys => ⟨.sec, 0x40020004, 1, 0x100000, 1, 0x100000, .ro, 0, []⟩ -- R618
  | .secOtp => ⟨.sec, 0x40020008, 1, 0x100000, 1, 0x100000, .ro, 0, []⟩ -- R618
  | .secCatKeyid => ⟨.sec, 0x4002000C, 2, 4, 1, 0x100000, .ro, 0, []⟩ -- R618
  | .secIdPub => ⟨.sec, 0x40020020, 24, 4, 1, 0x100000, .ro, 0, []⟩ -- R618
  | .secCntLo => ⟨.sec, 0x40020080, 16, 8, 1, 0x100000, .ro, 0, []⟩ -- R618
  | .secCntHi => ⟨.sec, 0x40020084, 16, 8, 1, 0x100000, .ro, 0, []⟩ -- R618
  | .secPerm => ⟨.sec, 0x40020100, 16, 4, 1, 0x100000, .ro, 0, []⟩ -- R618
  | .secCmdBuf => ⟨.sec, 0x40020200, 64, 4, 1, 0x100000, .rw, 0, [⟨31, 0, [(0, 0xFFFFFFFF)]⟩]⟩ -- R618
  | .secCmdCtrl => ⟨.sec, 0x40020300, 1, 0x100000, 1, 0x100000, .wo, 0, [⟨0, 0, [(0, 1)]⟩, ⟨16, 8, [(0x38, 0xF8)]⟩]⟩ -- R618
  | .secCmdRes => ⟨.sec, 0x40020304, 1, 0x100000, 1, 0x100000, .ro, 0, []⟩ -- R618
  | .nvmStat => ⟨.nvm, 0x40270000, 1, 0x100000, 1, 0x100000, .ro, 0, []⟩ -- R633
  | .nvmAddr => ⟨.nvm, 0x40270004, 1, 0x100000, 1, 0x100000, .rw, 0, [⟨31, 0, [(0, 0xFFFFFFFF)]⟩]⟩ -- R633
  | .nvmCmd => ⟨.nvm, 0x40270008, 1, 0x100000, 1, 0x100000, .wo, 0, [⟨2, 0, [(1, 4)]⟩]⟩ -- R633
  | .nvmBuf => ⟨.nvm, 0x40270100, 64, 4, 1, 0x100000, .rw, 0, [⟨31, 0, [(0, 0xFFFFFFFF)]⟩]⟩ -- R633
  | .sysPwrStat => ⟨.sys, 0x40000400, 1, 0x100000, 1, 0x100000, .ro, 0, []⟩ -- R674
  | .sysPwrCmd => ⟨.sys, 0x40000404, 1, 0x100000, 1, 0x100000, .wo, 0, [⟨2, 0, [(1, 1)]⟩]⟩ -- R673
  | .sysShelfWakeLo => ⟨.sys, 0x40000408, 1, 0x100000, 1, 0x100000, .rw, 0, [⟨31, 0, [(0, 0xFFFFFFFF)]⟩]⟩ -- R673
  | .sysShelfWakeHi => ⟨.sys, 0x4000040C, 1, 0x100000, 1, 0x100000, .rw, 0, [⟨15, 0, [(0, 0xFFFF)]⟩]⟩ -- R673
  | .sysPwrSup => ⟨.sys, 0x40000410, 1, 0x100000, 1, 0x100000, .ro, 0, []⟩ -- R673
  | .sysId => ⟨.sys, 0x40000000, 1, 0x100000, 1, 0x100000, .ro, 0xA11664, []⟩ -- R693
  | .sysFw => ⟨.sys, 0x40000004, 1, 0x100000, 1, 0x100000, .ro, 0, []⟩ -- R693
  | .sysState => ⟨.sys, 0x40000008, 1, 0x100000, 1, 0x100000, .ro, 0, []⟩ -- R694
  | .sysResetStat => ⟨.sys, 0x4000000C, 1, 0x100000, 1, 0x100000, .ro, 1, []⟩ -- R695
  | .sysCmd => ⟨.sys, 0x40000010, 1, 0x100000, 1, 0x100000, .wo, 0, [⟨2, 0, [(1, 2)]⟩, ⟨31, 16, [(0, 0xFFFF)]⟩]⟩ -- R696
  | .sysSect => ⟨.sys, 0x40000020, 1, 0x100000, 1, 0x100000, .ro, 0, []⟩ -- R693
  | .sysDiscAddr => ⟨.sys, 0x40000024, 1, 0x100000, 1, 0x100000, .ro, 0, []⟩ -- R693
  | .sysDiscInfo => ⟨.sys, 0x40000028, 1, 0x100000, 1, 0x100000, .ro, 0, []⟩ -- R697
  | .sysMntStat => ⟨.sys, 0x40000100, 1, 0x100000, 1, 0x100000, .ro, 0, []⟩ -- R693
  | .sysMntAddr => ⟨.sys, 0x40000104, 1, 0x100000, 1, 0x100000, .ro, 0, []⟩ -- R693

/-- Every register. -/
def allRegs : List RegId :=
  ([.catStatus, .catVersion, .catFloor, .catDigest, .catRejectCnt, .catPwFail, .catErrTag, .catErrOffset, .portalCfg,
    .portalInReq, .portalInCls, .portalInLck, .portalInEmg, .portalInAux, .portalOutLck, .portalOutWrn, .portalTLock,
    .portalTStep, .portalTDwell, .portalTWarn, .portalReopen, .portalCur, .portalState, .portalCycLo, .portalCycHi,
    .portalStartDelay, .portalSeqCfg, .portalSeqBudget, .portalSeqGrace, .portalSeqSide, .portalSeqLoad,
    .portalSeqSlots, .slotCtrl, .slotTtLo, .slotTtHi, .slotSrc, .obsCfg, .obsModel0, .obsModel1,
    .obsXclosed] : List RegId) ++
  ([.obsStroke, .obsLpc, .obsMargin, .obsCeil, .obsZone, .obsLearn, .obsBias, .obsEdge, .obsRelief, .obsFricC,
    .obsFricO, .obsStat, .obsFest, .obsTripPos, .obsTripInfo, .obsReactT, .obsDrift, .obsSigPtr, .obsCmd,
    .obsTblAddr, .obsTblData, .axisCfg, .axisLink, .axisStepCfg, .axisStepTim, .axisHome, .axisHomePos, .axisLimit,
    .axisChatter, .axisBrake, .axisStall, .axisStallV, .axisLoad, .axisTgtClosed, .axisTgtOpen, .axisCreep,
    .axisProfO, .axisProfC, .axisEdec, .axisEjerk] : List RegId) ++
  ([.axisStat, .axisPosSp, .axisSpdSp, .axisFerr, .axisQstat, .axisStepPos, .axisIlim, .axisCmd, .axisSegTgt,
    .axisSegLim, .axisSegCtrl, .fbCfg, .fbMap, .fbWrap, .fbIdx, .fbIdxPeriod, .fbSsi, .fbSsiJump, .fbSpeedWin,
    .fbScCorr, .fbFilter, .fbCmpCfg, .fbCmpPos, .fbCmpSpacing, .fbDivout, .fbPset, .fbStat, .fbPos, .fbPosSh,
    .fbRevSh, .fbLatch, .fbSpeed, .fbIdxStat, .fbIdxPos, .fbPrbPos, .fbPrbLt, .fbCmpCnt, .fbCmpNext, .fbDiag,
    .fbSsiRaw] : List RegId) ++
  ([.fbEvt, .dlkCfg, .dlkStat, .dlkSeq, .dlkDly, .dlkStg, .dlkCmd, .ilkCfg, .ilkSotest, .ilkXchk, .ilkMonT,
    .ilkBtCfg, .ilkPortIn0, .ilkPortIn1, .ilkPortIn2, .ilkPairA, .ilkPairB, .ilkMonSo, .ilkMonFc, .ilkBt,
    .ilkPcrcRef, .ilkPcrcNow, .ilkStat, .ilkPortB, .ilkPairFlt, .ilkPairVal, .ilkMonStat, .ilkBtFail, .ilkBtDue,
    .ilkLogCnt, .ilkLogIdx, .ilkLogStat, .ilkLogData, .ilkCmd, .fldCh, .fldFlt, .fldTp, .fldTile, .fldOut,
    .fldStat] : List RegId) ++
  ([.fldRaw, .fldFilt, .fldOutImg, .fldTpfail, .fldTpStat, .fldSupply, .fldDiag, .fldCmd, .fldTptime, .fldMrst,
    .fldMrstStat, .lswCfg, .lswDelay, .lswOut, .lswStat, .lswCurrent, .lswCmd, .lswBank, .lswBstat, .lswBsup,
    .lswBcmd, .timeCfg, .timeServo, .timePath, .timeJump, .timeAsym, .timeTopoN, .timeTopoKey, .timeTopoAsym,
    .timeStat, .timeHold, .timeOffset, .timeFreq, .timeTtLo, .timeTtHi, .timeLtLo, .timeLtHi, .timeMpd,
    .timeTopoUsed, .timeUtc] : List RegId) ++
  ([.timeCmd, .netCfg, .netBuf, .netALim, .netLowMax, .netPcpMap, .netBufStat, .netHsrStat, .netMacStat, .netVlan,
    .netPCfg, .netPCbs, .netPPauseTh, .netPGclCfg, .netPGcl, .netSfDaLo, .netSfDaHi, .netSfMeter, .netSfSdu,
    .netPStat, .trdpCfg, .trdpIp, .trdpMask, .trdpVehIp, .trdpComidBase, .trdpStream, .trdpStat, .trdpEtbTopo,
    .trdpOpTopo, .trdpCount, .trdpPartnerIp, .trdpPartnerStat, .stlCmd, .stlCfg, .stlSrc, .stlDst, .stlTim, .stlAge,
    .stlStat, .stlSeqTx] : List RegId) ++
  ([.stlSeqRx, .twinCfg, .twinTim, .twinMateIp, .twinQuiet, .twinStat, .twinMate, .twinMseq, .twinTests, .twinCmd,
    .recCfg, .recPubIp, .recPubMask, .recStat, .recNextLo, .recNextHi, .recOldestLo, .recOldestHi, .recLoad,
    .recArch, .recFolioStat, .recCmd, .recRwCmd, .recRwPosLo, .recRwPosHi, .recRwStat, .recRwData, .recLastword,
    .cntCfg, .cntSmpCfg, .cntStat, .cntSweepTtLo, .cntSweepTtHi, .cntSweepNo, .cntSel, .cntValLo, .cntValHi,
    .cntWrLo, .cntWrHi, .cntCmd] : List RegId) ++
  ([.cntSmpPos, .cntSmpData, .cntSnapLo, .cntSnapHi, .secStat, .secKeys, .secOtp, .secCatKeyid, .secIdPub, .secCntLo,
    .secCntHi, .secPerm, .secCmdBuf, .secCmdCtrl, .secCmdRes, .nvmStat, .nvmAddr, .nvmCmd, .nvmBuf, .sysPwrStat,
    .sysPwrCmd, .sysShelfWakeLo, .sysShelfWakeHi, .sysPwrSup, .sysId, .sysFw, .sysState, .sysResetStat, .sysCmd,
    .sysSect, .sysDiscAddr, .sysDiscInfo, .sysMntStat, .sysMntAddr] : List RegId)

/-- The address of instance (i, j) of a register. -/
def regAddr (r : RegId) (i j : Nat) : Nat := (desc r).addr + i * (desc r).s1 + j * (desc r).s2

/-- The instance of register `r` at an address, if the address is one of its own. -/
def regAt (a : Nat) (r : RegId) : Option (RegId × Nat × Nat) :=
  let d := desc r
  if a < d.addr then none
  else
    let x := a - d.addr
    let i := x / d.s1
    let y := x % d.s1
    if i < d.n1 ∧ y / d.s2 < d.n2 ∧ y % d.s2 = 0 then some (r, i, y / d.s2) else none

/-- The register that lies at an address. -/
def findReg (a : Nat) : Option (RegId × Nat × Nat) := allRegs.findSome? (regAt a)

/-- Whether a value is one of a field's encodings. -/
def fieldOk (v : Nat) (f : Field) : Bool := f.ok.any (fun r => decide (r.1 ≤ fieldOf v f.hi f.lo ∧ fieldOf v f.hi f.lo ≤ r.2))

/-- The bits that lie in some field. -/
def fieldMask (d : RegDesc) : Nat := d.fields.foldl (fun m f => m ||| ((2 ^ (f.hi + 1 - f.lo) - 1) * 2 ^ f.lo)) 0

/-- A mask of 9 to 30 leading ones (R507, TRDP_MASK). -/
def maskOk (v : Nat) : Bool := (List.range 22).any (fun k => decide (v = 2 ^ 32 - 2 ^ (k + 2)))

/-- The conditions that involve several fields of the one register written, or its instance number (R734, with
R97 to R696 as each row says). -/
def comboOk (r : RegId) (i j v : Nat) : Bool :=
  let f := fieldOf v
  match r with
  | .obsCfg => !(i % 4 ≥ 2 && f 8 8 = 1)                                        -- SIG_EN on roles 2 and 3 (R173)
  | .obsLearn => decide (f 31 22 ≤ f 21 12)                                      -- R165
  | .obsCmd => f 2 0 = 1 || decide (1 ≤ f 27 16 ∧ f 27 16 ≤ 2000)                -- R183
  | .axisCfg => !(i % 4 < 2 && f 1 1 = 1) && !(i % 4 ≠ 3 && f 6 5 ≠ 0)           -- R209, R224
  | .fbCfg => !(f 1 0 = 2 && decide (32 ≤ i)) && !(f 2 2 = 1 && f 1 0 ≠ 1) && !(f 4 4 = 1 && f 1 0 = 3) &&
      !(f 1 0 = 2 && !decide (2 ≤ f 9 6 ∧ f 9 6 ≤ 12))                           -- R231, R266
  | .fbSsi => decide (f 11 6 + f 13 13 ≤ f 5 0)                                  -- R231
  | .fbDivout => !(f 17 16 ≠ 0 && decide (8 ≤ i))                                -- R231
  | .ilkPairA => !(f 31 31 = 1 && f 7 0 = f 15 8)                                -- R324
  | .fldCh => !(f 17 17 = 1 && f 0 0 = 1) && !(f 1 1 = 1 && f 0 0 = 0)           -- R367
  | .fldTptime => decide (64 * (f 7 0 + f 15 8) * 10 ≤ f 25 16 * 1000)           -- R367
  | .timeCfg => !(f 2 0 = 2 && f 10 4 = f 17 11)                                 -- R430
  | .timeServo => decide (4 * f 7 0 < f 27 16 * 10)                              -- R430
  | .netPCfg => !(i = 4 && f 2 1 ≠ 0) && !((f 4 4 = 1 || f 5 5 = 1) && !(i = 2 || i = 3))  -- R464, R466
  | .netBuf => decide (5 * (f 7 0 + f 15 8 + f 23 16) ≤ 128)                     -- R464
  | .netSfDaHi => !(f 31 31 = 1 && !decide (1 ≤ f 27 16 ∧ f 27 16 ≤ 4094))       -- R465
  | .netCfg => !(f 2 2 = 1 && f 1 1 = 0)                                         -- R464
  | .trdpMask => maskOk v
  | .stlCfg => !(f 6 6 = 1 && f 1 1 = 0)                                           -- R506
  | .stlTim => decide (3 * f 9 0 ≤ f 23 10)                                      -- R506
  | .twinTim => decide (f 23 16 < f 7 0)                                         -- R538
  | .sysCmd => (f 2 0 = 1 && f 31 16 = 0x52E5) || (f 2 0 = 2 && f 31 16 = 0)     -- R696
  | _ => true

/-- Whether a write carries no reserved encoding (R21, R734). -/
def writeOk (r : RegId) (i j : Nat) (v : Word) : Bool :=
  (desc r).fields.all (fieldOk v.toNat) && (v.toNat &&& (2 ^ 32 - 1 - fieldMask (desc r))) == 0 && comboOk r i j v.toNat

end Sys2Proof.Machine
end

