-- ==== Sys2Proof/Machine/Table.lean ====
section
/-!
DEFINITION. Sys2Proof/Machine/Table.lean: sparse tables, the one form in which State holds units, register
values and memory bytes. A table is a list of (key, value) pairs whose keys rise strictly and in which no value
equals the one that an unlisted key reads as, so that equal tables are equal lists. Sorting stands here too, by structural recursion.
-/
namespace Sys2Proof.Machine

/-- A sparse table from numbers to values. -/
abbrev Table (α : Type) := List (Nat × α)

/-- The value at key `k`; an unlisted key reads as `d`. -/
def Table.get {α : Type} (d : α) : Table α → Nat → α
  | [], _ => d
  | (k, v) :: t, n => if n = k then v else Table.get d t n

/-- Remove every entry of key `n`. -/
def Table.erase {α : Type} (n : Nat) (t : Table α) : Table α :=
  t.filter (fun e => e.1 != n)

/-- Insert in key order. -/
def Table.insert {α : Type} (n : Nat) (v : α) : Table α → Table α
  | [] => [(n, v)]
  | (k, w) :: t => if n < k then (n, v) :: (k, w) :: t else (k, w) :: Table.insert n v t

/-- Write `v` at key `n`; writing what an unlisted key reads as removes the entry. -/
def Table.set {α : Type} [DecidableEq α] (d : α) (t : Table α) (n : Nat) (v : α) : Table α :=
  if v = d then Table.erase n t else Table.insert n v (Table.erase n t)

/-- Change the value at key `n`. -/
def Table.modify {α : Type} [DecidableEq α] (d : α) (t : Table α) (n : Nat) (f : α → α) : Table α :=
  Table.set d t n (f (Table.get d t n))

/-- Keys rise strictly. -/
def Table.rising {α : Type} : Table α → Bool
  | [] => true
  | [_] => true
  | (k, _) :: (k', v') :: t => decide (k < k') && Table.rising ((k', v') :: t)

/-- The canonical form: keys rise strictly and no value is the default. -/
def Table.wf {α : Type} [DecidableEq α] (d : α) (t : Table α) : Bool :=
  Table.rising t && t.all (fun e => decide (e.2 ≠ d))

/-! ### Sorting -/

/-- Put `a` before the first element that it does not come after. -/
def insertBy {α : Type} (le : α → α → Bool) (a : α) : List α → List α
  | [] => [a]
  | b :: l => if le a b then a :: b :: l else b :: insertBy le a l
/-- A list in rising order; equal elements keep their order. -/
def sortBy {α : Type} (le : α → α → Bool) (l : List α) : List α := l.foldr (insertBy le) []

end Sys2Proof.Machine
end

