-- ==== Sys2Proof/Machine/State.lean ====
section
/-!
DEFINITION. Sys2Proof/Machine/State.lean: the state of the part, as plain data. Each structure holds what one block of
the manual holds; the values written in its fields are those after a reset. Units are kept in tables (Table.lean) by
number. Instants are LT ticks unless a field says otherwise. What no reset value is given for, log entry 2 names.
-/
namespace Sys2Proof.Machine
open Sys2Proof

/-! ### Events and records (R542 to R550) -/

/-- A raised event as the intake queue holds it (R545): its code, its time-stamp converted to TT, the time quality
then in force, whether the standby raised it, and its data: record bytes 17 to 30, or bytes 16 to 30 for 0x3020. -/
structure EventRec where
  code : Nat
  tt : TimeNs
  tq : Nat
  mate : Bool := false
  body : List Byte
  deriving DecidableEq, Repr

/-- A record that has its accession number (R546). -/
structure NumRec where
  acc : Nat
  ev : EventRec
  deriving DecidableEq, Repr

/-- A signature of R173 that waits for its cycle record's number: the leaf, the end time and count of its cycle, by which that
record is known, its bytes 6 to 55 and its data. -/
structure SigJob where
  axis : Nat
  tt : TimeNs
  cyc : Nat
  head : List Byte
  data : List Byte
  deriving DecidableEq, Repr

/-- One rate key of R462: event code, instance, cause; the start of its 1 s interval and the occurrences counted
since its last record. -/
structure RateKey where
  code : Nat
  inst : Nat
  cause : Nat
  start : Ticks
  count : Nat
  deriving DecidableEq, Repr

/-- One code tracked for repeats (R556): the last queued record of the code, when it entered, the repeats counted
and the time of the last one. -/
structure RepeatTrack where
  code : Nat
  body : List Byte
  entered : Ticks
  count : Nat
  lastTt : TimeNs
  lastLt : Ticks
  deriving DecidableEq, Repr

/-- A Final Folio capture that waits (R566): the trigger's accession number and code, and the records most recently stored up to it. -/
structure Capture where
  acc : Nat
  code : Nat
  recs : List (List Byte)
  deriving DecidableEq, Repr

/-- State of one Final Folio. -/
structure Folio where
  valid : Bool := false
  keep : Bool := false
  age : Nat := 0
  deriving DecidableEq, Repr

/-- A loss episode of R559: cause, first number lost, numbers lost. -/
structure Episode where
  cause : Nat
  first : Nat
  count : Nat
  deriving DecidableEq, Repr

/-- The recorder (REC). -/
structure Recorder where
  intake : List EventRec := []
  gapOpen : Bool := false
  nextAcc : Nat := 1
  nextHiCap : Nat := 0
  oldestHiCap : Nat := 0
  mark : Nat := 0
  started : Bool := false
  lastAlloc : Option Ticks := none
  storeQ : List NumRec := []
  retries : Nat := 0
  retryDue : Option Ticks := none
  circNext : Nat := 0
  circUsed : Nat := 0
  oldest : Nat := 1
  lastStored : List (List Byte) := []
  archState : Nat := 0
  archCnt : Nat := 0
  hold : Bool := false
  holdStart : Ticks := 0
  holdLimit : Bool := false
  holdByWindow : Bool := false
  holdQ : List NumRec := []
  holdPending : Bool := false
  episode : Option Episode := none
  draining : Bool := false
  degraded : Bool := false
  degradedRec : List Byte := []
  degradedCause : Nat := 0
  ring : List (List Byte) := []
  sealSlots : List (List Byte) := []
  sealMark : Nat := 0
  sealFault : Bool := false
  sealFull : Bool := false
  repeats : List RepeatTrack := []
  rates : List RateKey := []
  pubQ : List (List Byte) := []
  pubSince : Ticks := 0
  attach : List (List Byte) := []
  folios : Table Folio := []
  captures : List Capture := []
  clearing : Option (Nat × Nat) := none
  winOpen : Bool := false
  winArea : Nat := 0
  winFolio : Nat := 0
  winPos : Nat := 0
  winMoved : Bool := false
  winStatus : Nat := 0
  winNext : Nat := 0
  winBusy : Bool := false
  winData : List Byte := []
  winLast : Ticks := 0
  recFault : Bool := false
  refusedStandby : Nat := 0
  sigQ : List SigJob := []
  drainGaps : List NumRec := []
  holdFrom : Nat := 0
  deriving DecidableEq, Repr

/-! ### Counters (R581 to R592) -/

/-- A counter as a sweep captured it (R586). -/
structure Snap where
  value : Nat := 0
  ovf : Bool := false
  offset : Nat := 0
  deriving DecidableEq, Repr

/-- The counter gatherer and the sampling buffer (CNT), with the 320 block counters. -/
structure Counters where
  value : Table Nat := []
  ovf : Table Bool := []
  valHi : Nat := 0
  valOvf : Bool := false
  snap : Table Snap := []
  snapHi : Table Snap := []
  sweepTt : TimeNs := 0
  sweepTtHi : Nat := 0
  sweepNo : Nat := 0
  lastSweep : Ticks := 0
  samples : List (List Byte) := []
  smpCmd : Nat := 0
  smpStl : Nat := 0
  smpFull : Bool := false
  smpData : List Byte := []
  deriving DecidableEq, Repr

/-! ### Train time (R400 to R434) -/

/-- Time quality (R404). -/
inductive Quality where
  | free | acquiring | locked | holdoverShort | holdoverLong | uncompensated
  deriving DecidableEq, Repr

/-- One tracker (R409, R410): its own offset, quality and servo counts, and per port the Sync and Announce data. -/
structure Tracker where
  quality : Quality := .free
  offset : Int := 0
  everSync : Bool := false
  jumped : Bool := false
  followed : Nat := 0
  lockRun : Nat := 0
  lostRun : Nat := 0
  recovery : Nat := 0
  holdStart : Option Ticks := none
  holdLong : Bool := false
  deriving DecidableEq, Repr

/-- Sync and Announce data of one tracker on one port. -/
structure SyncPort where
  steps : Nat := 0xFFFF
  parent : Nat := 0
  announced : Bool := false
  lastAnnounce : Ticks := 0
  synced : Bool := false
  lastSync : Ticks := 0
  pendSeq : Nat := 0
  pend : Bool := false
  pendT2 : Int := 0
  pendC : Int := 0
  deriving DecidableEq, Repr

/-- One PTP port N0 to N3: peer delay, path change and topology state (R414, R420 to R422). -/
structure PtpPort where
  delays : List Nat := []
  diffs : Nat := 0
  settling : Bool := false
  settleStart : Ticks := 0
  uncomp : Bool := false
  topo : Int := 0
  reqSeq : Nat := 0
  reqT1 : Int := 0
  waiting : Bool := false
  respT2 : Int := 0
  respT4 : Int := 0
  respC : Int := 0
  twoStep : Bool := false
  deriving DecidableEq, Repr

/-- The time unit (TIME). `lt` counts ticks and `ltBase` is its value at the last power-on, so that LT is their difference (R22, log entry 62); `ttFp` is TT in units of 2^-32 ns (R400); `freq` is f in units of 2^-16 ppb; `snap` are
the output images of the twelve isolation links taken for the field frame `snapF` (R356). -/
structure TimeUnit where
  lt : Ticks := 0
  ltBase : Ticks := 0
  ttFp : Nat := 0
  freq : Int := 0
  integ : Int := 0
  lastFreqs : List Int := []
  everLocked : Bool := false
  followB : Bool := false
  jumpPending : Bool := false
  jumpFirst : Int := 0
  jumpSum : Int := 0
  jumpCount : Nat := 0
  jumpSince : Ticks := 0
  stepPending : Option Int := none
  disagree : Nat := 0
  trackers : Table Tracker := []
  syncPorts : Table SyncPort := []
  ports : Table PtpPort := []
  topoUsed : Nat := 0x3F
  utc : Int := 0
  utcValid : Bool := false
  ttHiCap : Nat := 0
  ltCap : Nat := 0
  announceSeq : Nat := 0
  syncSeq : Nat := 0
  motionNext : TimeNs := 0
  bLt : Ticks := 0
  bTt : TimeNs := 0
  planned : Bool := false
  fieldNext : TimeNs := 0
  snapF : Option TimeNs := none
  snap : List Nat := []
  deriving DecidableEq, Repr
/-! ### Start, reset and power (R621 to R674) -/

/-- Start states and maintenance-only states (R627, R640, R694); `inReset` while the controller is held in reset. -/
inductive StartState where
  | inReset | boot | config | selftest | join | operational | noFirmware | noImage | conflict | startFail
  deriving DecidableEq, Repr

/-- A reset that the next start records (R624): reason code and RTC time. -/
structure ResetNote where
  reason : Nat
  rtc : Nat
  deriving DecidableEq, Repr

/-- The SYS block: start state, reset reason, discarded accesses, maintenance port, power domains and shelving. -/
structure Sys where
  start : StartState := .boot
  nrstLow : Bool := false
  operational : Bool := false
  lock : Bool := false
  pllLocked : Bool := false
  supOk : Bool := true
  clkFail : Bool := false
  voted : Bool := false
  reason : Nat := 1
  resets : Nat := 0
  notes : List ResetNote := []
  fwRunning : Bool := false
  fwSlot : Nat := 0
  fwVersion : Nat := 0
  fwSvn : Nat := 0
  fwKey : Nat := 0
  fwRevoke : Nat := 0
  fwDigest : List Byte := []
  profile : Nat := 0
  twinRole : Nat := 0
  end1 : Nat := 0
  sect : Nat := 0
  discAddr : Nat := 0
  discCause : Nat := 0
  discRead : Bool := false
  discMaster : Nat := 0
  mntResult : Nat := 0
  mntFails : Nat := 0
  mntAddr : Nat := 0
  wdogLast : Ticks := 0
  startT0 : Ticks := 0
  joinStart : Ticks := 0
  joinEnded : Bool := false
  testsPassed : Bool := false
  domOn : Nat := 0
  vbatLow : Bool := false
  shelving : Bool := false
  shelveRefused : Bool := false
  refuseCause : Nat := 0
  pwrEnLow : Bool := false
  pwrEnFell : Ticks := 0
  supBat : Nat := 0
  wakeHeld : Nat := 0
  coreFell : Option Ticks := none
  deriving DecidableEq, Repr

/-- The backup domain PD_BKUP (R623, R635, R571, R664): it survives every reset while it has a supply. -/
structure Backup where
  powered : Bool := true
  rtc : Nat := 0
  rtcValid : Bool := false
  starts : Table Nat := []
  shelfWake : Nat := 0
  wakeSrc : Nat := 0
  lastWord : List Byte := []
  lwWrites : Nat := 0
  deriving DecidableEq, Repr

/-- A command in the flash controller (R633). -/
structure NvmOp where
  cmd : Nat
  addr : Nat
  deriving DecidableEq, Repr

/-- The NVM controller (NVM). -/
structure Nvm where
  ready : Bool := false
  octal : Bool := false
  busy : Option NvmOp := none
  done : Bool := false
  err : Nat := 0
  sck : Nat := 0
  cap : Nat := 0
  deriving DecidableEq, Repr

/-- A commit under verification (R81, R602): slot, digest and, for a catalogue, the password as it was carried. -/
structure Commit where
  slot : Nat
  digest : List Byte
  cmd : List Byte
  conn : Nat
  deriving DecidableEq, Repr

/-- Catalogue management (CAT). -/
structure Cat where
  runSlot : Nat := 0
  slotA : Nat := 0
  slotB : Nat := 0
  conflict : Bool := false
  commit : Option Commit := none
  errEvent : Nat := 0
  errTag : Nat := 0
  errOffset : Nat := 0
  version : Nat := 0
  floor : Nat := 1
  imageFloor : Nat := 0
  digest : List Byte := []
  vehicleId : List Byte := []
  safe : List Byte := []
  rejectCnt : Nat := 0
  pwFail : Nat := 0
  lockoutUntil : Nat := 0
  lockout : Bool := false
  deriving DecidableEq, Repr

/-! ### Keys and commands (R594 to R619) -/

/-- A command key as the security core holds it (R594, R609). -/
structure CmdKey where
  present : Bool := false
  key : List Byte := []
  perm : Nat := 0
  gen : Nat := 0
  deriving DecidableEq, Repr

/-- An authenticated maintenance session (R614). -/
structure Session where
  ip : Nat
  until_ : Ticks
  deriving DecidableEq, Repr

/-- An attestation in progress (R615): who asked, and the nonce. -/
structure Attest where
  ip : Nat
  nonce : List Byte
  deriving DecidableEq, Repr

/-- The security core (SEC), with OTP. -/
structure Sec where
  keys : Table CmdKey := []
  counters : Table Nat := []
  cntHi : Table Nat := []
  enrolled : List (Nat × Nat) := []
  debugFuse : Bool := false
  fwFloor : Nat := 0
  fwRevoked : Nat := 0
  rngOk : Bool := false
  rngFail : Bool := false
  rngTested : Nat := 0
  rngRun : Nat := 0
  rngLast : Bool := false
  rngOut : BitVec 384 := 0
  debugAttached : Bool := false
  verifying : List Ticks := []
  bufResult : Nat := 0
  bufBusy : Bool := false
  bufDone : Bool := false
  sessions : List Session := []
  attest : Option Attest := none
  fwCommit : Option Commit := none
  deriving DecidableEq, Repr
/-! ### Portals (R89 to R141) -/

/-- Portal states (R95). -/
inductive PState where
  | unused | referencing | locked | unlocking | released | opening | open_ | warning | closing | reopening | closed
  | locking | emergency | isolated | fault
  deriving DecidableEq, Repr

/-- One portal. Times are LT instants; a start instant is kept while its timer runs. -/
structure Portal where
  st : PState := .unused
  prev : PState := .unused
  released : Bool := false
  reqEnabled : Bool := false
  emgPending : Bool := false
  unreferenced : Bool := false
  closeObstructed : Bool := false
  forced : Bool := false
  lockPending : Bool := false
  reopenCnt : Nat := 0
  faultCause : Nat := 0
  stepWanted : Bool := false
  stepOut : Bool := false
  openWanted : Bool := false
  closeWanted : Bool := false
  heldRestrictive : List (Nat × Option Ticks) := []
  lockOut : Bool := false
  reqLamp : Bool := false
  warnLamp : Bool := false
  chime : Bool := false
  entered : Ticks := 0
  unlockStart : Ticks := 0
  stepStart : Option Ticks := none
  lockStart : Ticks := 0
  reclosing : Option Ticks := none
  reclosed : Bool := false
  lockSeen : Bool := false
  dwellStart : Option Ticks := none
  dwellDone : Bool := false
  obstStart : Option Ticks := none
  warnStart : Option Ticks := none
  warnDone : Bool := false
  warnStopping : Bool := false
  flashNext : Ticks := 0
  chimeEnd : Ticks := 0
  refStart : Ticks := 0
  emgLockArrived : Bool := false
  mrst : Bool := false
  reqIn : Bool := false
  reqOut : Bool := false
  presence : Bool := false
  handle : Bool := false
  inCycle : Bool := false
  cycles : Nat := 0
  cycOvf : Bool := false
  cycHiCap : Nat := 0
  cycOvfCap : Bool := false
  openEntered : Option Ticks := none
  openMs : Nat := 0
  closeEntered : Option Ticks := none
  flags : Nat := 0
  reopens : Nat := 0
  peakA : Int := 0
  peakB : Int := 0
  longDelay : Nat := 0
  lastDelay : Nat := 0
  coldLeft : Nat := 0
  lastRun : Option Ticks := none
  rankNow : Nat := 9
  tripSeen : Bool := false
  dwellHeld : Bool := false
  openSeen : Bool := false
  obstructedAt : Ticks := 0
  deriving DecidableEq, Repr

/-- A scheduled action slot (R112 to R116, R140). -/
structure Slot where
  state : Nat := 0
  action : Nat := 0
  target : Nat := 0
  key : Nat := 0
  src : Nat := 0
  tt : TimeNs := 0
  order : Nat := 0
  conn : Nat := 0
  acc : Option Ticks := none
  deriving DecidableEq, Repr

/-- An accepted immediate action that waits for the next motion cycle (R102). `late` says that a
restrictive action is executed late (R113), `tt` is its T, `acc` the instant at which it was accepted (R124). -/
structure Imm where
  action : Nat
  target : Nat
  key : Nat
  late : Bool
  tt : TimeNs
  acc : Option Ticks
  deriving DecidableEq, Repr

/-- A start that waits for the current budget (R128): its portal, the axes it moves, when it was queued. -/
structure Start where
  portal : Nat
  axes : List Nat
  kind : Nat
  since : Ticks
  deriving DecidableEq, Repr

/-- The part of the Portal Sequencer that serves the whole device. -/
structure Sequencer where
  slots : Table Slot := []
  slotOrder : Nat := 0
  imm : List Imm := []
  starts : List Start := []
  withdraw : Bool := false
  lockLater : Bool := false
  zeroSpeed : Bool := false
  /-- The motion cycle boundary from which a slot that has been freed takes an action again (R703). -/
  freed : Table TimeNs := []
  deriving DecidableEq, Repr
/-! ### Observers (R142 to R184) -/

/-- Sum and number of the samples of one bin. -/
structure BinAcc where
  sum : Int := 0
  n : Nat := 0
  deriving DecidableEq, Repr

/-- One obstacle observer. Forces F are in 1/256 N, table entries in 1/16 N with -32768 for 0x8000. -/
structure Observer where
  refC : Table Int := []
  refO : Table Int := []
  comC : Table Int := []
  comO : Table Int := []
  gen : Nat := 0
  armed : Bool := false
  tripped : Bool := false
  driftAlarm : Bool := false
  drift : Int := 0
  driftBin : Nat := 0
  driftOpen : Bool := false
  commissioned : Bool := false
  biasLimit : Bool := false
  tableFallback : Bool := false
  ceilOnly : Bool := false
  bin : Nat := 0
  commLeft : Nat := 0
  commAccC : Table BinAcc := []
  commAccO : Table BinAcc := []
  injArmed : Bool := false
  injBin : Nat := 0
  injForce : Nat := 0
  injUsed : Bool := false
  stops : Nat := 0
  stopHeld : Bool := false
  stopAt : Ticks := 0
  fEst : Int := 0
  env : Int := 0
  first : Bool := true
  xs : List Int := []
  vs : List Int := []
  effs : List Int := []
  trace : List Int := []
  run : Nat := 0
  crossTt : TimeNs := 0
  crossLt : Ticks := 0
  tripPos : Int := 0
  tripForce : Int := 0
  tripEnv : Int := 0
  tripBin : Nat := 0
  tripCause : Nat := 0
  reactT : Nat := 0
  bias : Int := 0
  biasSum : Int := 0
  biasN : Nat := 0
  biasBins : Nat := 0
  biasLastBin : Nat := 256
  biasHeld : Bool := false
  edgeLatch : Option Int := none
  stroke : Bool := false
  strokeClosing : Bool := false
  strokeStart : Ticks := 0
  strokeGoal : Option Int := none
  strokeAcc : Table BinAcc := []
  strokeSpeed : Table BinAcc := []
  strokePeak : Int := 0
  strokePeakBin : Nat := 0
  learnC : Table BinAcc := []
  learnO : Table BinAcc := []
  doneC : Bool := false
  doneO : Bool := false
  sigPtr : Nat := 0
  sigMade : Bool := false
  sigTrip : Bool := false
  sigAcc : Table BinAcc := []
  sigSpeed : Table BinAcc := []
  sigOpen : Table BinAcc := []
  sigPeak : Int := 0
  sigPeakBin : Nat := 0
  sigMs : Nat := 0
  sigBias : Int := 0
  sigTrace : List Int := []
  sigCause : Nat := 0
  sigTripBin : Nat := 0
  sigTripPos : Int := 0
  sigTripForce : Int := 0
  sigTripEnv : Int := 0
  sigReact : Nat := 0
  tripTrace : List Int := []
  injStroke : Bool := false
  injCycle : Bool := false
  tblBin : Nat := 0
  tblSel : Nat := 0
  deriving DecidableEq, Repr

/-! ### Motion engines (R185 to R228) -/

/-- Engine modes (R225). -/
inductive AMode where
  | off | holding | executing | emergency | homing | brakeTest | relief
  deriving DecidableEq, Repr

/-- A queued segment (R189): target in counts, the four limits, and the scale in 1/256 granted to it (R130). -/
structure Seg where
  tgt : Int
  v : Nat
  a : Nat
  d : Nat
  j : Nat
  sc : Nat := 256
  deriving DecidableEq, Repr

/-- A phase of constant jerk: jerk in counts/s³ and duration in 2^-32 motion cycles (R187). -/
structure Phase where
  jerk : Int
  dur : Nat
  deriving DecidableEq, Repr

/-- A planned motion: the state it starts from, in units of 2^-32, its phases, the phase boundaries that belong to
the acceleration part (phases 1 to 3), the motion cycles run so far and, where it ends at rest, the target. -/
structure Plan where
  p0 : Int
  v0 : Int
  a0 : Int
  phases : List Phase
  accPhases : Nat
  lead : Nat := 0
  cycles : Nat := 0
  target : Option Int := none
  endV : Int := 0
  closing : Bool := false
  deriving DecidableEq, Repr

/-- What emergency deceleration was started by, and so what follows at rest (R203). -/
inductive EmgCause where
  | none | tripReopen | tripStop | fault | stop | homingRetry
  deriving DecidableEq, Repr

/-- The class of reservation of an axis (R127). -/
inductive ResClass where
  | off | hold | accel | run
  deriving DecidableEq, Repr

/-- Transitions of one limit or home input within CHAT_WIN, and the last of them (R218). -/
structure Chatter where
  times : List Ticks := []
  last : Option Ticks := none
  latched : Bool := false
  level : Bool := false
  deriving DecidableEq, Repr

/-- One motion engine. Positions `pos`, speed and acceleration are in units of 2^-32. -/
structure Axis where
  mode : AMode := .off
  referenced : Bool := false
  fault : Bool := false
  faultCause : Nat := 0
  closing : Bool := false
  loadHold : Bool := false
  brakeRel : Bool := false
  pos : Int := 0
  vel : Int := 0
  acc : Int := 0
  posSp : Int := 0
  spdSp : Int := 0
  ferr : Int := 0
  ilim : Nat := 0
  current : Int := 0
  heldReply : Bool := false
  queue : List Seg := []
  plan : Option Plan := none
  reversing : Bool := false
  scale : Nat := 256
  res : ResClass := .off
  resAmp : Nat := 0
  emg : EmgCause := .none
  emgTarget : Int := 0
  segDone : Nat := 0
  reject : Nat := 0
  pending : Option Int := none
  stallFe : Option Ticks := none
  stallCur : Option Ticks := none
  stallMask : Bool := false
  homeReverse : Bool := false
  homeAttempt : Nat := 0
  homeFound : Bool := false
  homeSince : Option Ticks := none
  homeRef : Int := 0
  brkRelDue : Option Ticks := none
  brkAppDue : Option Ticks := none
  limClose : Chatter := {}
  limOpen : Chatter := {}
  home : Chatter := {}
  origTarget : Int := 0
  stepPos : Int := 0
  stepAcc : Nat := 0
  stepInc : Nat := 0
  stepDir : Bool := false
  stepLast : Option Ticks := none
  stepLag : Nat := 0
  held : Bool := false
  rested : Bool := false
  deriving DecidableEq, Repr

/-! ### Feedback ports (R229 to R268) -/

/-- A probe edge that waits for the sample after it (R256): its instant and the coarse count at it. -/
structure ProbeWait where
  lt : Ticks
  coarse : Int
  deriving DecidableEq, Repr

/-- One feedback port. `divFree` is the earliest instant of the next divided-output edge, in units of 2 ns. -/
structure FbPort where
  count : Nat := 0
  pos : Nat := 0
  rev : Int := 0
  ovf : Bool := false
  rwrap : Bool := false
  revOvf : Bool := false
  shOvf : Bool := false
  shRwrap : Bool := false
  shRevOvf : Bool := false
  revSh : Int := 0
  latch : Int := 0
  h : Int := 0
  dec : Bool := false
  fault : Bool := false
  faultCause : Nat := 0
  condGone : Option Ticks := none
  illCnt : Nat := 0
  illTimes : List Ticks := []
  ampl : Nat := 0
  amplRun : Nat := 0
  speed : Int := 0
  winStart : Option Ticks := none
  winCount : Int := 0
  refIdx : Option Int := none
  idxFault : Bool := false
  idxSlip : Nat := 0
  idxD : Int := 0
  idxPos : Int := 0
  prbValid : Bool := false
  prbPos : Int := 0
  prbLt : Nat := 0
  prbLevel : Bool := false
  cmpCfg : Nat := 0x280
  cmpSpacing : Nat := 0
  cmpNext : Int := 0
  cmpHits : Nat := 0
  cmpSkip : Nat := 0
  behind : Bool := false
  cmpPulseEnd : Option Ticks := none
  lineA : Bool := false
  lineB : Bool := false
  coarse : Int := 0
  fine : Int := 0
  crossed : Bool := false
  latchDue : Bool := false
  divState : Int := 0
  divFree : Nat := 0
  psetAt : Option Ticks := none
  sampleLt : Ticks := 0
  sampleAng : Nat := 0
  prbWait : List ProbeWait := []
  evIllegal : Bool := false
  evHeld : Bool := false
  evDivLag : Bool := false
  evPrbOvr : Bool := false
  ssiV : Option Nat := none
  ssiRaw : Nat := 0
  ssiErr : Nat := 0
  ssiGap : Nat := 0
  ssiHeld : Bool := false
  deriving DecidableEq, Repr
/-! ### Drive links (R269 to R292) -/

/-- One drive link. `phase` is R291's STATE: 0 off, 1 starting, 2 RUN, 3 FAULT. -/
structure DlLink where
  phase : Nat := 0
  cause : Nat := 0
  seqNext : Nat := 0
  seqLast : Nat := 0
  sent : Bool := false
  sentB : Ticks := 0
  replied : Bool := false
  frame : List Byte := []
  seen : Nat := 0
  held : Nat := 0
  stgFault : Nat := 0
  seenBad : Nat := 0
  failRun : Table Nat := []
  stg : Table Nat := []
  dly : Table Nat := []
  idleStart : Option Ticks := none
  loopStage : Option Nat := none
  loopSent : Nat := 0
  clearing : Bool := false
  goodCycles : Nat := 0
  clrNext : Nat := 0
  deriving DecidableEq, Repr

/-! ### Interlock and safety functions (R293 to R333) -/

/-- One safety output SO0 to SO3. -/
structure SafeOut where
  cmd : Bool := false
  pulse : Bool := false
  pulseStart : Ticks := 0
  pulseEnd : Ticks := 0
  changed : Ticks := 0
  readback : Bool := false
  test : Bool := false
  deriving DecidableEq, Repr

/-- One two-channel pair (R302 to R306). -/
structure Pair where
  differ : Bool := false
  diffAt : Ticks := 0
  disc : Bool := false
  tp : Bool := false
  agreeSince : Option Ticks := none
  agreeVal : Bool := false
  value : Bool := false
  deriving DecidableEq, Repr

/-- One contactor feedback monitor (R310, R311). -/
structure Monitor where
  fault : Bool := false
  out : Bool := false
  changed : Ticks := 0
  badSince : Option Ticks := none
  goodSince : Option Ticks := none
  deriving DecidableEq, Repr

/-- A running brake test (R316): the position x0, the direction (0 opening, 1 closing), the start of the present
direction and what has been seen. `waiting` is set while the brake is being applied first. -/
structure BrakeTest where
  x0 : Int
  dir : Nat := 0
  waiting : Bool := false
  start : Ticks := 0
  reached : Bool := false
  peakOpen : Nat := 0
  peakClose : Nat := 0
  deriving DecidableEq, Repr

/-- The Interlock Logic and channel A. `cnt` and `val` are the Interlock Logic's own filters, by channel; `soChange` holds the field frame and
the channels (bit 0 A, bit 1 B) of a change of SO0 to SO3 that is still to be recorded (R322). -/
structure Interlock where
  cnt : Table Nat := []
  val : Table Bool := []
  doorOk : Nat := 0
  tracOk : Nat := 0
  soChange : Option (Nat × Nat) := none
  so : Table SafeOut := []
  pairs : Table Pair := []
  mons : Table Monitor := []
  tileLost : Nat := 0
  xchk : Bool := false
  xSince : Table (Option Ticks) := []
  pcrcFault : Bool := false
  pcrcRef : Nat := 0
  pcrcNow : Nat := 0
  applied : Table Word := []
  tests : Table (Option BrakeTest) := []
  btFail : Nat := 0
  btPass : Table (Option Nat) := []
  btOverdue : Nat := 0
  btEnded : Nat := 0
  btDueSince : Table (Option Nat) := []
  logCnt : Nat := 0
  logData : List Byte := []
  logAbsent : Bool := false
  logBad : Bool := false
  deriving DecidableEq, Repr

/-! ### Field tiles, load-switch dies and their links (R334 to R399) -/

/-- The main-die end of one isolation link: tiles 0 to 7, then the load-switch dies 8 to 11. `phase` is LINK of R371:
0 off, 1 configuring, 2 running, 3 lost. -/
structure FLink where
  phase : Nat := 0
  cfgNext : Nat := 0
  seq : Nat := 0
  sentF : TimeNs := 0
  sent : Bool := false
  run : Bool := false
  apply : Nat := 0
  instant : Bool := false
  image : Nat := 0
  unacked : Option Nat := none
  repeats : Nat := 0
  fails : Nat := 0
  good : Nat := 0
  held : Bool := false
  lost : Bool := false
  stateByte : Nat := 0
  raw : Nat := 0
  outImg : Nat := 0
  clrDiag : Bool := false
  clrSwitch : Nat := 0
  tpfail : Nat := 0
  tpOvl : Nat := 0
  vsup : Nat := 0
  temp : Nat := 0
  diag : Table Nat := []
  swByte : Table Nat := []
  frame : List Byte := []
  current : Table Nat := []
  ibank : Nat := 0
  deriving DecidableEq, Repr

/-- A frame that a die has accepted and will apply at its instant `due`. -/
structure DieFrame where
  active : Bool
  clrDiag : Bool
  out : Nat
  clr : Nat
  tpOff : Nat
  due : Ticks
  deriving DecidableEq, Repr

/-- The far end of an isolation link: the part of a field tile or load-switch die that both share (R354 to R360).
`phase` is STATE of R353: 0 UNCONFIGURED, 1 CONFIG, 2 RUN, 3 SAFE. `windows` are the open test-pulse windows by supply: start and channels;
`sample` is the last raw sample, `level` the level last seen at a sample or an edge. -/
structure Die where
  powered : Bool := false
  phase : Nat := 0
  words : Table Nat := []
  stored : Nat := 0
  seqAck : Option Nat := none
  rxOk : Bool := false
  cfgErr : Bool := false
  lastOk : Ticks := 0
  waiting : List DieFrame := []
  active : Bool := false
  out : Nat := 0
  driven : Nat := 0
  changed : Table Ticks := []
  tpOff : Nat := 0xFF
  tpOvl : Nat := 0
  inWindow : Nat := 0
  windows : Table (Option (Ticks × Nat)) := []
  before : Nat := 0
  sample : Nat := 0
  level : Nat := 0
  wetting : List (Nat × Ticks) := []
  wetQueue : List (Nat × Ticks) := []
  tripped : Table (Option Ticks) := []
  rearmed : Nat := 0
  latch : Table Nat := []
  cause : Table Nat := []
  tpfail : Nat := 0
  hot : Nat := 0
  diagNext : Nat := 0
  accActive : Bool := false
  deriving DecidableEq, Repr

/-- A maintenance-reset input (R363). -/
structure Mrst where
  active : Bool := false
  onSince : Ticks := 0
  offSince : Ticks := 0
  released : Bool := false
  press : Option Ticks := none
  stuck : Bool := false
  accepted : Bool := false
  deriving DecidableEq, Repr

/-- The counter filters of the field channels (R345), by channel, and the maintenance-reset inputs. -/
structure FieldIo where
  links : Table FLink := []
  dies : Table Die := []
  cnt : Table Nat := []
  filt : Table Bool := []
  mrst : Table Mrst := []
  deriving DecidableEq, Repr

/-- Switch states (R378). -/
inductive SwState where
  | off | inrush | on | retryWait | deferred | thermal | latchedOff | shed
  deriving DecidableEq, Repr

/-- One load switch. -/
structure Switch where
  st : SwState := .off
  limit : Bool := false
  left : Nat := 0
  deferrals : Nat := 0
  short : Bool := false
  therm : Bool := false
  coupled : Bool := false
  arb : Bool := false
  openLoad : Bool := false
  readback : Bool := false
  extOn : Bool := false
  target : Bool := false
  cmd : Bool := false
  dieCmd : Bool := false
  onDue : Option Ticks := none
  entered : Ticks := 0
  heldStart : Option Nat := none
  heldRetry : Bool := false
  defer : Bool := false
  lastLimit : Option Ticks := none
  offSince : Option Ticks := none
  current : Nat := 0
  deriving DecidableEq, Repr

/-- One bank's arbiter (R384 to R387). -/
structure Bank where
  peakAt : Option Ticks := none
  contExceeded : Bool := false
  contSince : Ticks := 0
  lastShed : Ticks := 0
  lastStart : Ticks := 0
  order : Nat := 0
  deriving DecidableEq, Repr

/-- The load switches and their banks. -/
structure Loads where
  sw : Table Switch := []
  banks : Table Bank := []
  deriving DecidableEq, Repr
/-! ### Ethernet ports and the switch (R435 to R468) -/

/-- One stored frame (R446 to R448): its addresses, VLAN, priority, HSR sequence number, what follows the tags, its length with
FCS, ingress port, class (0 A to 3 D), the ports that admitted it and have not sent it, its charges (port, cells of the minimum
or of the class A reserve, cells of the shared pool) and the end of its reception. -/
structure NetFrame where
  id : Nat
  da : Nat
  sa : Nat
  vid : Nat
  pcp : Nat
  hsr : Option Nat
  body : List Byte
  len : Nat
  ingress : Nat
  cls : Nat
  ports : List Nat
  charges : List (Nat × Nat × Nat)
  rxAt : Ticks
  deriving DecidableEq, Repr

/-- A frame in transmission: its number, its class, its length and its end. -/
structure Sending where
  id : Nat
  cls : Nat
  len : Nat
  ends : Ticks
  deriving DecidableEq, Repr

/-- One switch port. Credit is in 2^-10 bits; `spent` is what a stream filter's bucket lacks of CBS, in 1/200,000 byte. -/
structure NetPort where
  link : Nat := 0
  aSlow : Bool := false
  queues : Table (List Nat) := []
  sending : Option Sending := none
  credit : Int := 0
  creditAt : Ticks := 0
  gateEntry : Nat := 0
  gates : Nat := 7
  gateStart : TimeNs := 0
  pausedUntil : Option Ticks := none
  xoff : Bool := false
  pauseSent : Ticks := 0
  spent : Table Nat := []
  spentAt : Table Ticks := []
  deriving DecidableEq, Repr

/-- An address table entry (R442): VLAN, address, port (0 and 1 both stand for the ring), last seen. -/
structure MacEntry where
  vid : Nat
  mac : Nat
  port : Nat
  seen : Ticks
  deriving DecidableEq, Repr

/-- An HSR duplicate-discard entry (R438): source address, sequence number, when it entered. -/
structure HsrEntry where
  mac : Nat
  seq : Nat
  at_ : Ticks
  deriving DecidableEq, Repr

/-- A proxy node (R441): address and when it was last heard. -/
structure Proxy where
  mac : Nat
  seen : Ticks
  deriving DecidableEq, Repr

/-- The switch. -/
structure Network where
  ports : Table NetPort := []
  frames : List NetFrame := []
  nextId : Nat := 0
  macs : List MacEntry := []
  dups : List HsrEntry := []
  proxies : List Proxy := []
  hsrSeq : Nat := 0
  supSeq : Nat := 0
  supSent : Table (Option Ticks) := []
  ringOpen : Bool := false
  deriving DecidableEq, Repr

/-! ### Train network and safe transfer (R469 to R509) -/

/-- A partner entry (R480 to R484): its dynamic address, 0 for none, and when the partner was last heard. -/
structure Partner where
  ip : Nat := 0
  dynamic : Bool := false
  heard : Ticks := 0
  deriving DecidableEq, Repr

/-- An unacknowledged outbound message (R491). -/
structure TxMsg where
  seq : Nat
  payload : List Byte
  sent : Ticks
  tries : Nat
  deriving DecidableEq, Repr

/-- An open stream (R489 to R492): inbound with what was delivered and what came early, outbound with what is unacknowledged and the
upload it carries (R563: kind 1 records, 2 signatures, 3 a folio; the next item and the last). -/
structure Stream where
  ip : Nat
  num : Nat
  inbound : Bool
  delivered : Nat := 0
  early : List (Nat × Ticks × List Byte) := []
  ackSince : Option Ticks := none
  nextSeq : Nat := 1
  unacked : List TxMsg := []
  upKind : Nat := 0
  upNext : Nat := 0
  upEnd : Nat := 0
  deriving DecidableEq, Repr

/-- Directory and partner state of the TRDP engine. -/
structure Trdp where
  dirValid : Bool := false
  orientKnown : Bool := false
  orient : Bool := false
  etbTopo : Nat := 0
  opTopo : Nat := 0
  request : Option Ticks := none
  failed : Bool := false
  firstRead : Bool := false
  partners : Table Partner := []
  partnerFull : Bool := false
  streams : List Stream := []
  nextStream : Nat := 1
  garpLeft : Nat := 0
  garpNext : Ticks := 0
  deriving DecidableEq, Repr

/-- Connection states (R501). -/
inductive ConnState where
  | closed | opening | open_ | rekeying | failed
  deriving DecidableEq, Repr

/-- A session: number, key, last SEQ sent and accepted (R497). -/
structure StlSession where
  num : Nat := 0
  key : List Byte := []
  seqTx : Nat := 0
  seqRx : Nat := 0
  deriving DecidableEq, Repr

/-- One Safe Transfer connection (R493 to R504): `cur` is the session it sends in, `old` the one a re-key replaced, `sentAt` its last 32
messages with the local times they were sent at, `cmdClosed` whether CMD CLOSE closed it. -/
structure Conn where
  st : ConnState := .closed
  cur : StlSession := {}
  old : Option StlSession := none
  oldUntil : Option Ticks := none
  nonceI : List Byte := []
  seen : List (List Byte) := []
  pendAck : Bool := false
  initiator : Bool := false
  cmdClosed : Bool := false
  lastTx : Option Ticks := none
  sentAt : List (Nat × Ticks) := []
  lastOk : Ticks := 0
  entered : Ticks := 0
  lastReject : Nat := 0
  ageFeedback : Bool := false
  ip : Nat := 0
  deriving DecidableEq, Repr

/-! ### Twin operation (R510 to R541) -/

/-- An effect that waits for the mate's confirmation (R526). -/
inductive HeldEffect where
  | command (bytes : List Byte) (conn : Nat) (arrival : TimeNs) (tq : Nat)
  | stl (offset ip : Nat) (msg : List Byte)
  | streamAck (ip : Nat) (msg : List Byte)
  deriving DecidableEq, Repr

/-- A mirror frame that is not yet acknowledged (R525): MSEQ, items, when it was sent. -/
structure MirrorFrame where
  mseq : Nat
  items : List Byte
  sent : Ticks
  deriving DecidableEq, Repr

/-- What the last accepted heartbeat said (R518). -/
structure MateBeat where
  flags : Nat := 0
  cause : Nat := 0
  version : Nat := 0
  pcrc : Nat := 0
  mack : Nat := 0
  links : Nat := 0
  at_ : Ticks := 0
  tt : TimeNs := 0
  deriving DecidableEq, Repr

/-- The twin unit. `lineLow` is the level of the device's own OWN_N land. -/
structure Twin where
  driving : Bool := false
  lineLow : Bool := false
  mateLow : Bool := false
  highSince : Option Ticks := none
  wdLast : Ticks := 0
  claimCause : Nat := 1
  lastCause : Nat := 0
  releasing : Option (Nat × Ticks) := none
  beat : Option MateBeat := none
  beatSynced : Bool := false
  kz0 : Option Ticks := none
  kz1 : Option Ticks := none
  net : Option Ticks := none
  kzUp : Bool := false
  netUp : Bool := false
  kzSeq : Nat := 0
  netSeq : Nat := 0
  netRx : Option Nat := none
  silent : Bool := true
  stayNoted : Bool := false
  lineFault : Bool := false
  lineGoodSince : Option Ticks := none
  relSince : Option Ticks := none
  mateLost : Bool := false
  synced : Bool := false
  syncStart : Option Ticks := none
  fallback : Bool := false
  mseq : Nat := 0
  confirmed : Nat := 0
  applied : Nat := 0
  unacked : List MirrorFrame := []
  held : List (Nat × HeldEffect) := []
  accConfirmed : Nat := 0
  accSent : List (Nat × Nat) := []
  portalSent : Table (List Byte) := []
  axisSent : Table (List Byte) := []
  latches : Table (List (TimeNs × Int)) := []
  targets : Table (Option Int) := []
  torque : Table Bool := []
  revertSince : Option Ticks := none
  revertReq : Bool := false
  suppress : Bool := false
  transfer : Option Ticks := none
  tests : Nat := 0
  testFail : Bool := false
  cfgDiffer : Bool := false
  failed : Table Nat := []
  testTt : TimeNs := 0
  clrFrames : Nat := 0
  deriving DecidableEq, Repr

/-! ### Outputs of a command -/

/-- What a command put on the part's pins or handed to its network port: the model's record of it. -/
inductive Out where
  | driveFrame (link : Nat) (bytes : List Byte)
  | isolationFrame (link : Nat) (bytes : List Byte)
  | dieReply (link : Nat) (bytes : List Byte)
  | telegram (offset ip etb op : Nat) (data : List Byte)
  | deliver (ip stream : Nat) (data : List Byte)
  | netFrame (port : Nat) (bytes : List Byte)
  | ptp (port : Nat) (bytes : List Byte)
  | arp (ip : Nat) (gratuitous : Bool)
  | icmp (ip : Nat) (data : List Byte)
  | directoryRequest
  | heartbeat (lane : Nat) (bytes : List Byte)
  | mirror (lane : Nat) (bytes : List Byte)
  | serial (bytes : List Byte)
  | stepDir (axis : Nat) (dirHigh pulseHigh : Bool) (inc pulses : Nat)
  | compare (port : Nat)
  | divider (port : Nat) (steps : Int)
  | service (ip : Nat) (ok : Bool) (data : List Byte)
  | readWord (addr value : Nat)
  deriving DecidableEq, Repr
/-! ### The machine -/

/-- The state of an SLF1664. `regs` holds the registers that software writes, by address; `mem` the bytes of the
recorder SRAM and main MRAM; `flash` those of the NOR flash; `outs` what the last command put out; `free` counts the
free values drawn; `pending` is the queue of commands. -/
structure State where
  sys : Sys := {}
  bk : Backup := {}
  nvm : Nvm := {}
  cat : Cat := {}
  sc : Sec := {}
  rcd : Recorder := {}
  cnt : Counters := {}
  time : TimeUnit := {}
  seq : Sequencer := {}
  portals : Table Portal := []
  obs : Table Observer := []
  axes : Table Axis := []
  fb : Table FbPort := []
  links : Table DlLink := []
  ilk : Interlock := {}
  fio : FieldIo := {}
  loads : Loads := {}
  net : Network := {}
  trdp : Trdp := {}
  conns : Table Conn := []
  twin : Twin := {}
  regs : Table Word := []
  mem : List Host.Cell := []
  flash : List Host.Cell := []
  outs : List Out := []
  free : Nat := 0
  pending : List Instr := []
  deriving DecidableEq, Repr

/-- Reasons to stop. The manual says what the part does with every command it takes, so no meaning raises it; the
host's interface asks for the type. -/
inductive Fault where
  /-- Raised by no command. Safe. -/
  | stuck
  deriving DecidableEq, Repr

/-- Reasons to refuse a command. -/
inductive Refusal where
  /-- Raised by the arm of a command that has no meaning yet. Safe: nothing is claimed of it. -/
  | notModelled (mnemonic : String)
  deriving DecidableEq, Repr

/-- The machine right after a reset of a delivered part (R626, R627): the start state BOOT, every register at the
reset value of its table, nothing stored, no command waiting; the power-on is noted for the first start to record (R624). -/
def State.reset : State := { sys := { notes := [ResetNote.mk 1 0] } }

end Sys2Proof.Machine
end

