-- ==== Sys2Proof/Machine/Ops.lean ====
section
/-!
DEFINITION. Sys2Proof/Machine/Ops.lean: the named operations over State that every block shares: units by number,
registers by name, the two clocks, raising an event (R545, R462), counting (R581), memory bytes, free values and outputs.
-/
namespace Sys2Proof.Machine
open Sys2Proof

/-- A command's answer: its effect on the state, with the record of outputs started afresh. -/
def run (s : State) (f : State → State) : Host.Outcome State Fault Refusal := .next (f { s with outs := [] })

/-- A change that happens only where its guard holds; elsewhere the command finds nothing to do. -/
def when_ (b : Bool) (f : State → State) (s : State) : State := if b then f s else s

/-- Apply a change for every number of a list, in order. -/
def forEach {α : Type} (l : List α) (f : State → α → State) (s : State) : State := l.foldl f s

/-! ### Units by number -/

def State.portal (s : State) (p : Nat) : Portal := Table.get {} s.portals p
def State.setPortal (s : State) (p : Nat) (v : Portal) : State := { s with portals := Table.set {} s.portals p v }
def State.modPortal (s : State) (p : Nat) (f : Portal → Portal) : State := s.setPortal p (f (s.portal p))
def State.ob (s : State) (n : Nat) : Observer := Table.get {} s.obs n
def State.setOb (s : State) (n : Nat) (v : Observer) : State := { s with obs := Table.set {} s.obs n v }
def State.modOb (s : State) (n : Nat) (f : Observer → Observer) : State := s.setOb n (f (s.ob n))
def State.axis (s : State) (n : Nat) : Axis := Table.get {} s.axes n
def State.setAxis (s : State) (n : Nat) (v : Axis) : State := { s with axes := Table.set {} s.axes n v }
def State.modAxis (s : State) (n : Nat) (f : Axis → Axis) : State := s.setAxis n (f (s.axis n))
def State.fbp (s : State) (n : Nat) : FbPort := Table.get {} s.fb n
def State.setFbp (s : State) (n : Nat) (v : FbPort) : State := { s with fb := Table.set {} s.fb n v }
def State.modFbp (s : State) (n : Nat) (f : FbPort → FbPort) : State := s.setFbp n (f (s.fbp n))
def State.link (s : State) (n : Nat) : DlLink := Table.get {} s.links n
def State.setLink (s : State) (n : Nat) (v : DlLink) : State := { s with links := Table.set {} s.links n v }
def State.modLink (s : State) (n : Nat) (f : DlLink → DlLink) : State := s.setLink n (f (s.link n))
def State.so (s : State) (k : Nat) : SafeOut := Table.get {} s.ilk.so k
def State.setSo (s : State) (k : Nat) (v : SafeOut) : State := { s with ilk := { s.ilk with so := Table.set {} s.ilk.so k v } }
def State.modSo (s : State) (k : Nat) (f : SafeOut → SafeOut) : State := s.setSo k (f (s.so k))
def State.pair (s : State) (i : Nat) : Pair := Table.get {} s.ilk.pairs i
def State.setPair (s : State) (i : Nat) (v : Pair) : State :=
  { s with ilk := { s.ilk with pairs := Table.set {} s.ilk.pairs i v } }
def State.modPair (s : State) (i : Nat) (f : Pair → Pair) : State := s.setPair i (f (s.pair i))
def State.mon (s : State) (i : Nat) : Monitor := Table.get {} s.ilk.mons i
def State.setMon (s : State) (i : Nat) (v : Monitor) : State :=
  { s with ilk := { s.ilk with mons := Table.set {} s.ilk.mons i v } }
def State.modMon (s : State) (i : Nat) (f : Monitor → Monitor) : State := s.setMon i (f (s.mon i))
def State.flink (s : State) (k : Nat) : FLink := Table.get {} s.fio.links k
def State.setFlink (s : State) (k : Nat) (v : FLink) : State :=
  { s with fio := { s.fio with links := Table.set {} s.fio.links k v } }
def State.modFlink (s : State) (k : Nat) (f : FLink → FLink) : State := s.setFlink k (f (s.flink k))
def State.die (s : State) (k : Nat) : Die := Table.get {} s.fio.dies k
def State.setDie (s : State) (k : Nat) (v : Die) : State :=
  { s with fio := { s.fio with dies := Table.set {} s.fio.dies k v } }
def State.modDie (s : State) (k : Nat) (f : Die → Die) : State := s.setDie k (f (s.die k))
def State.sw (s : State) (n : Nat) : Switch := Table.get {} s.loads.sw n
def State.setSw (s : State) (n : Nat) (v : Switch) : State := { s with loads := { s.loads with sw := Table.set {} s.loads.sw n v } }
def State.modSw (s : State) (n : Nat) (f : Switch → Switch) : State := s.setSw n (f (s.sw n))
def State.bank (s : State) (b : Nat) : Bank := Table.get {} s.loads.banks b
def State.setBank (s : State) (b : Nat) (v : Bank) : State :=
  { s with loads := { s.loads with banks := Table.set {} s.loads.banks b v } }
def State.modBank (s : State) (b : Nat) (f : Bank → Bank) : State := s.setBank b (f (s.bank b))
def State.port (s : State) (i : Nat) : NetPort := Table.get {} s.net.ports i
def State.setPort (s : State) (i : Nat) (v : NetPort) : State := { s with net := { s.net with ports := Table.set {} s.net.ports i v } }
def State.modPort (s : State) (i : Nat) (f : NetPort → NetPort) : State := s.setPort i (f (s.port i))
def State.conn (s : State) (c : Nat) : Conn := Table.get {} s.conns c
def State.setConn (s : State) (c : Nat) (v : Conn) : State := { s with conns := Table.set {} s.conns c v }
def State.modConn (s : State) (c : Nat) (f : Conn → Conn) : State := s.setConn c (f (s.conn c))
def State.slot (s : State) (i : Nat) : Slot := Table.get {} s.seq.slots i
def State.setSlot (s : State) (i : Nat) (v : Slot) : State := { s with seq := { s.seq with slots := Table.set {} s.seq.slots i v } }
def State.tracker (s : State) (d : Nat) : Tracker := Table.get {} s.time.trackers d
def State.setTracker (s : State) (d : Nat) (v : Tracker) : State :=
  { s with time := { s.time with trackers := Table.set {} s.time.trackers d v } }
def State.modTracker (s : State) (d : Nat) (f : Tracker → Tracker) : State := s.setTracker d (f (s.tracker d))
def State.ptpPort (s : State) (i : Nat) : PtpPort := Table.get {} s.time.ports i
def State.setPtpPort (s : State) (i : Nat) (v : PtpPort) : State :=
  { s with time := { s.time with ports := Table.set {} s.time.ports i v } }
def State.modPtpPort (s : State) (i : Nat) (f : PtpPort → PtpPort) : State := s.setPtpPort i (f (s.ptpPort i))
/-- Sync data of tracker `d` on port `i`. -/
def State.syncPort (s : State) (d i : Nat) : SyncPort := Table.get {} s.time.syncPorts (4 * d + i)
def State.setSyncPort (s : State) (d i : Nat) (v : SyncPort) : State :=
  { s with time := { s.time with syncPorts := Table.set {} s.time.syncPorts (4 * d + i) v } }
def State.modSyncPort (s : State) (d i : Nat) (f : SyncPort → SyncPort) : State := s.setSyncPort d i (f (s.syncPort d i))
def State.mrst (s : State) (i : Nat) : Mrst := Table.get {} s.fio.mrst i
def State.setMrst (s : State) (i : Nat) (v : Mrst) : State := { s with fio := { s.fio with mrst := Table.set {} s.fio.mrst i v } }
def State.modMrst (s : State) (i : Nat) (f : Mrst → Mrst) : State := s.setMrst i (f (s.mrst i))

/-! ### Registers by name -/

/-- The stored value of instance (i, j) of a register; one that no write has changed holds its reset value. -/
def State.reg (s : State) (r : RegId) (i : Nat := 0) (j : Nat := 0) : Word :=
  Table.get (BitVec.ofNat 32 (desc r).reset) s.regs (regAddr r i j)

/-- Store a register. -/
def State.setReg (s : State) (r : RegId) (i j : Nat) (v : Word) : State :=
  { s with regs := Table.set (BitVec.ofNat 32 (desc r).reset) s.regs (regAddr r i j) v }

/-- Field [hi:lo] of a register. -/
def State.rf (s : State) (r : RegId) (i hi lo : Nat) : Nat := fld (s.reg r i) hi lo

/-- One bit of a register. -/
def State.rb (s : State) (r : RegId) (i b : Nat) : Bool := bitOf (s.reg r i) b

/-- A register that holds a signed value. -/
def State.rs (s : State) (r : RegId) (i : Nat) : Int := sword (s.reg r i)

/-! ### The clocks -/

/-- The instant now, in ticks of CLK_TIME. -/
def State.lt (s : State) : Ticks := s.time.lt
/-- Local time (R22): the ticks since the last power-on. -/
def State.localTime (s : State) : Ticks := s.time.lt - s.time.ltBase
/-- Train time in whole ns (R22, R400). -/
def State.tt (s : State) : TimeNs := s.time.ttFp / 2 ^ 32
/-- Time quality in force (R404): that of the tracker TT follows. -/
def State.quality (s : State) : Quality := (s.tracker (b2n s.time.followB)).quality
/-- Code of a time quality (R404). -/
def Quality.code : Quality → Nat
  | .free => 0
  | .acquiring => 1
  | .locked => 2
  | .holdoverShort => 3
  | .holdoverLong => 4
  | .uncompensated => 5
/-- Whether permissive slots are armed under a quality (R404). -/
def Quality.armed : Quality → Bool
  | .locked => true
  | .holdoverShort => true
  | _ => false

/-- Advance of TT over `n` ticks of CLK_TIME, in 2^-32 ns: 4 ns × (1 + f) each (R400). -/
def ttAdvance (f : Int) (n : Nat) : Int := ((n : Int) * (4 * 2 ^ 32 + f * 4 * 2 ^ 16 / 1000000000))

/-- The first multiple of `m` at or after `t`. -/
def nextMultiple (m t : Nat) : Nat := divCeil t m * m
/-- Milliseconds as ticks. -/
def ms (n : Nat) : Ticks := n * ticksPerMs
/-- Microseconds as ticks. -/
def us (n : Nat) : Ticks := n * ticksPerUs
/-- Seconds as ticks. -/
def sec (n : Nat) : Ticks := n * ticksPerS

/-- Whether less than `d` ticks lie between `t` and now. -/
def State.within (s : State) (t : Ticks) (d : Nat) : Bool := decide (s.lt < t + d)

/-! ### Counters (R581, R583) -/

/-- Add `n` occurrences to counter `i`: 48 bits, wrapping with the sticky bit OVF (R583). -/
def State.count (s : State) (i : Nat) (n : Nat := 1) : State :=
  let v := Table.get 0 s.cnt.value i + n
  { s with cnt := { s.cnt with
      value := Table.set 0 s.cnt.value i (v % 2 ^ 48)
      ovf := if 2 ^ 48 ≤ v then Table.set false s.cnt.ovf i true else s.cnt.ovf } }

/-! ### Events (R542 to R556) -/

/-- Codes that R556 never suppresses: gap records, class 0x7, class 0xE and 0x3020. -/
def neverSuppressed (code : Nat) : Bool := code == 0x3020 || code / 0x1000 == 7 || code / 0x1000 == 14

/-- Entries the intake may still take (R547). -/
def intakeRoom (r : Recorder) : Nat := 1024 - r.intake.length

/-- The gap record of cause 4 that stands for refused records (R547, R550). -/
def gap4 (tt tq lost : Nat) (mate : Bool) : EventRec :=
  { code := 0xE001, tt := tt, tq := tq, mate := mate,
    body := leBytes 4 1 ++ leBytes 1 4 ++ leBytes 1 0 ++ leBytes 4 lost ++ leBytes 4 0 }

/-- LOST of a gap record that refused one record more. -/
def bumpLost (e : EventRec) : EventRec :=
  { e with body := slice e.body 0 6 ++ leBytes 4 (satInc 0xFFFFFFFF (leAt e.body 6 4)) ++ slice e.body 10 4 }

/-- Change the last entry of a list. -/
def mapLast {α : Type} (f : α → α) : List α → List α
  | [] => []
  | [a] => [f a]
  | a :: b :: t => a :: mapLast f (b :: t)

/-- Put an event in the intake (R545, R547): it enters while at least two entries are free; a refused one is counted
in the gap record of cause 4 in the entry kept free. -/
def intake (r : Recorder) (e : EventRec) : Recorder :=
  if 2 ≤ intakeRoom r then { r with intake := r.intake ++ [e], gapOpen := false }
  else if r.gapOpen then { r with intake := mapLast bumpLost r.intake }
  else { r with intake := r.intake ++ [gap4 e.tt e.tq 1 e.mate], gapOpen := true }

/-- The repeat track of a code, if the recorder tracks it (R556). -/
def trackOf (r : Recorder) (code : Nat) : Option RepeatTrack := r.repeats.find? (fun t => t.code == code)

/-- Queue a record, or count it as a repeat under R556. `win` is REPEAT_WIN in ticks, `on` REPEAT_EN. -/
def queueRecord (on : Bool) (win : Ticks) (now : Ticks) (r : Recorder) (e : EventRec) : Recorder × Bool :=
  if !on || neverSuppressed e.code then (intake r e, false)
  else match trackOf r e.code with
    | some t =>
      if t.body = e.body ∧ now < t.entered + win then
        ({ r with repeats := r.repeats.map (fun u =>
            if u.code = e.code then { u with count := satInc 0xFFFFFFFF u.count, lastTt := e.tt, lastLt := now } else u) }, true)
      else
        let r' := intake r e
        ({ r' with repeats := r'.repeats.map (fun u =>
            if u.code = e.code then { u with body := e.body, entered := now } else u) }, false)
    | none =>
      let r' := intake r e
      if r'.repeats.length < 16 then
        ({ r' with repeats := r'.repeats ++ [⟨e.code, e.body, now, 0, e.tt, now⟩] }, false)
      else (r', false)

/-- Whether this device is the standby of a twin: it has a role and does not hold OWN_N (R517, R524). -/
def State.holder (s : State) : Bool := s.sys.twinRole == 0 || (s.twin.driving && s.twin.lineLow)
/-- Whether the device serves as standby. -/
def State.standby (s : State) : Bool := s.sys.twinRole != 0 && !s.holder

/-- Raise an event: the record enters the intake with its stamp and the time quality in force (R545), or is counted as
a repeat (R556) or a refusal (R547). `body` is DATA of R543. -/
def State.raiseBody (s : State) (code : Nat) (body : List Byte) : State :=
  let e : EventRec := { code := code, tt := s.tt, tq := s.quality.code, mate := s.standby, body := body }
  let q := queueRecord (s.rb .recCfg 0 2) (ms (10 * s.rf .recCfg 0 15 8)) s.lt s.rcd e
  if q.2 then { s with rcd := q.1 }.count 272 else { s with rcd := q.1 }

/-- DATA of R543: INSTANCE, then the values in order, then zeros. -/
def dataOf (inst : Nat) (vals : List Byte) : List Byte := padTo 14 (leBytes 2 inst ++ vals)

/-- Raise an event with an instance and its further values (R543). -/
def State.raise (s : State) (code inst : Nat) (vals : List Byte := []) : State := s.raiseBody code (dataOf inst vals)

/-- INSTANCE of an event that names no unit. -/
def noInst : Nat := 0xFFFF

/-- Raise an event at the rate of R462: the first occurrence of a rate key records, those within 1 s of it are counted
only, and the record carries the number counted since the last one in bytes 27 to 30. -/
def State.raiseRated (s : State) (code inst cause : Nat) (vals : List Byte := []) : State :=
  let body (c : Nat) := padTo 10 (leBytes 2 inst ++ vals) ++ leBytes 4 c
  let hit (k : RateKey) : Bool := k.code == code && k.inst == inst && k.cause == cause
  match s.rcd.rates.find? hit with
  | none => State.raiseBody { s with rcd := { s.rcd with rates := s.rcd.rates ++ [RateKey.mk code inst cause s.lt 0] } } code (body 0)
  | some k =>
    let upd (f : RateKey → RateKey) : State :=
      { s with rcd := { s.rcd with rates := s.rcd.rates.map (fun u => if hit u then f u else u) } }
    if s.lt < k.start + sec 1 then upd (fun u => { u with count := satInc 0xFFFFFFFF u.count })
    else (upd (fun u => { u with start := s.lt, count := 0 })).raiseBody code (body k.count)

/-- A train time among an event's values: the record's TT less that time, in ns, 32 bits signed, saturating (R543). -/
def State.sinceTt (s : State) (t : TimeNs) : List Byte :=
  leBytes 4 (wrapTo 32 (satSigned 32 ((s.tt : Int) - (t : Int))))

/-- A signed value in `n` bytes, big-endian. -/
def beInt (n : Nat) (i : Int) : List Byte := beBytes n (wrapTo (8 * n) i)
/-- A signed value in `n` bytes. -/
def leInt (n : Nat) (i : Int) : List Byte := leBytes n (wrapTo (8 * n) i)

/-! ### Memory (R26, R551): SRAM and main MRAM read 0 where nothing is stored, erased flash reads 0xFF -/

/-- A byte of SRAM or main MRAM. -/
def State.memByte (s : State) (a : Nat) : Byte := Table.get 0 s.mem a
def State.setMemByte (s : State) (a : Nat) (b : Byte) : State := { s with mem := Table.set 0 s.mem a b }
/-- `n` bytes from an address. -/
def State.memBytes (s : State) (a n : Nat) : List Byte := (List.range n).map (fun i => s.memByte (a + i))
/-- Store a byte string from an address upwards. -/
def storeBytes (d : Byte) (m : List Host.Cell) (a : Nat) : List Byte → List Host.Cell
  | [] => m
  | b :: bs => storeBytes d (Table.set d m a b) (a + 1) bs
def State.setMem (s : State) (a : Nat) (bs : List Byte) : State := { s with mem := storeBytes 0 s.mem a bs }
/-- A byte of the NOR flash. -/
def State.flashByte (s : State) (a : Nat) : Byte := Table.get 0xFF s.flash a
def State.flashBytes (s : State) (a n : Nat) : List Byte := (List.range n).map (fun i => s.flashByte (a + i))
def State.setFlash (s : State) (a : Nat) (bs : List Byte) : State := { s with flash := storeBytes 0xFF s.flash a bs }

/-! ### Outputs and free values -/

/-- Record an output. -/
def State.emit (s : State) (o : Out) : State := { s with outs := s.outs ++ [o] }

/-- A value the manual leaves unstated, of `w` bits, and the state after drawing it. -/
def State.draw (s : State) (w : Nat) : Nat × State := ((Config.freeWord s.free).toNat % 2 ^ w, { s with free := s.free + 1 })

/-- A 384-bit random value for a nonce, an IV or a signature (R597). -/
def State.random (s : State) : BitVec 384 × State := (Config.randomBlock s.free, { s with free := s.free + 1 })

/-- Bytes of a random value, most significant first. -/
def randomBytes (n : Nat) (r : BitVec 384) : List Byte := (beBytes 48 r.toNat).take n

/-! ### Conditions many rules name -/

/-- The Operational line (R647). -/
def State.operational (s : State) : Bool := s.sys.operational
/-- The catalogue lock (R678). -/
def State.locked (s : State) : Bool := s.sys.lock
/-- Whether a power domain bit of DOM_ON is on. -/
def State.domain (s : State) (b : Nat) : Bool := s.sys.domOn.testBit b
/-- The three gating conditions of R295 that outlast the core supply: Operational, holder, not in reset. -/
def State.driveEnable (s : State) : Bool := s.operational && s.holder && s.sys.start != .inReset

end Sys2Proof.Machine
end

