-- ==== Sys2Proof/Machine/Operands.lean ====
section
/-!
DEFINITION. Sys2Proof/Machine/Operands.lean: what a source code names (R90 to R94), which unit belongs to which (R1 to
R9, R230, R274), and the commanded level of every field output (R341, R376).
-/
namespace Sys2Proof.Machine
open Sys2Proof

/-- Source code of an input or output that is not connected (R90). -/
def notConnected : Nat := 0x1FF

/-- Filtered value of field channel `c` (R345). -/
def State.filtered (s : State) (c : Nat) : Bool := Table.get false s.fio.filt c

/-- A single-channel input by its source code, `dflt` where it is not connected (R91, R93). -/
def State.input (s : State) (code : Nat) (dflt : Bool) : Bool := if code = notConnected then dflt else s.filtered code

/-- The enabled pair whose first channel is `code` (R302). -/
def State.pairOf (s : State) (code : Nat) : Option Nat :=
  (List.range 40).find? (fun i => s.rb .ilkPairA i 31 && s.rf .ilkPairA i 7 0 == code)

/-- A two-channel input (R92): the value of its pair, and inactive without a valid pair (R93). -/
def State.twoChannel (s : State) (code : Nat) (dflt : Bool) : Bool :=
  if code = notConnected then dflt else match s.pairOf code with
    | some i => (s.pair i).value
    | none => false

/-- The zero-speed input (R91, R100): not connected, it is active in the platform profile only. -/
def State.zeroSpeed (s : State) : Bool := s.twoChannel (s.rf .portalSeqCfg 0 8 0) (s.sys.profile == 1)
def State.inClosedA (s : State) (p : Nat) : Bool := s.input (s.rf .portalInCls p 8 0) true
def State.inClosedB (s : State) (p : Nat) : Bool := s.input (s.rf .portalInCls p 24 16) true
def State.inLocked (s : State) (p : Nat) : Bool := s.input (s.rf .portalInLck p 8 0) true
def State.inStowed (s : State) (p : Nat) : Bool := s.input (s.rf .portalInLck p 24 16) true
def State.inDeployed (s : State) (p : Nat) : Bool := s.input (s.rf .portalInAux p 24 16) true
def State.inPresence (s : State) (p : Nat) : Bool := s.input (s.rf .portalInAux p 8 0) false
def State.inReqInside (s : State) (p : Nat) : Bool := s.input (s.rf .portalInReq p 8 0) false
def State.inReqOutside (s : State) (p : Nat) : Bool := s.input (s.rf .portalInReq p 24 16) false
def State.inHandle (s : State) (p : Nat) : Bool := s.twoChannel (s.rf .portalInEmg p 8 0) false
def State.inIsolate (s : State) (p : Nat) : Bool := s.twoChannel (s.rf .portalInEmg p 24 16) false
/-- Both closed switches (R104, T16). -/
def State.closedAB (s : State) (p : Nat) : Bool := s.inClosedA p && s.inClosedB p

/-! ### Portals and their axes (R3, R94) -/

def State.portalEn (s : State) (p : Nat) : Bool := s.rb .portalCfg p 0
def State.hasStep (s : State) (p : Nat) : Bool := s.rb .portalCfg p 4
/-- Whether role `r` of a portal with EN 1 is present: leaf A always, leaf B, step and auxiliary by their bits. -/
def State.rolePresent (s : State) (p r : Nat) : Bool :=
  s.portalEn p && (r == 0 || s.rb .portalCfg p (2 + r))
/-- Present axes of a portal. -/
def State.presentAxes (s : State) (p : Nat) : List Nat :=
  ((List.range 4).filter (s.rolePresent p)).map (fun r => 4 * p + r)
/-- Present leaves. -/
def State.leaves (s : State) (p : Nat) : List Nat := ((List.range 2).filter (s.rolePresent p)).map (fun r => 4 * p + r)
/-- The auxiliary axis when it moves with the leaves (`k` 0) or the step (`k` 1) under AUX_LINK (R224). -/
def State.auxWith (s : State) (p k : Nat) : List Nat :=
  if s.rolePresent p 3 && s.rf .axisCfg (4 * p + 3) 6 5 == k then [4 * p + 3] else []
/-- The step with the auxiliary axis that moves with it. -/
def State.stepAxes (s : State) (p : Nat) : List Nat := if s.rolePresent p 2 then (4 * p + 2) :: s.auxWith p 1 else []
/-- Portals with EN 1. -/
def State.enabledPortals (s : State) : List Nat := (List.range 16).filter s.portalEn

/-- The link and stage of an axis (R274, R223). -/
def State.axisStage (s : State) (n : Nat) : Nat × Nat :=
  if s.rb .axisLink n 7 then (s.rf .axisLink n 2 0, s.rf .axisLink n 6 4) else (n / 8, n % 8)
/-- Whether an axis sends its set-points on a drive link. -/
def State.onLink (s : State) (n : Nat) : Bool := s.rb .axisCfg n 0 && !s.rb .axisCfg n 1
/-- The axis of a stage, if one is mapped there. -/
def State.stageAxis (s : State) (l k : Nat) : Option Nat :=
  (List.range 64).find? (fun n => s.onLink n && s.axisStage n == (l, k))

/-- The axis that a feedback port feeds (R230). -/
def State.fedAxis (s : State) (m : Nat) : Nat := if s.rb .fbMap m 6 then s.rf .fbMap m 5 0 else m
/-- The feedback port that feeds an axis, if one in a mode other than off does. -/
def State.fbOf (s : State) (n : Nat) : Option Nat :=
  (List.range 64).find? (fun m => s.rf .fbCfg m 1 0 != 0 && s.fedAxis m == n)
/-- Feedback position of an axis: LATCH of its port (R233). -/
def State.latchOf (s : State) (n : Nat) : Int := match s.fbOf n with
  | some m => (s.fbp m).latch
  | none => 0
/-- Feedback speed of an axis (R250). -/
def State.fbSpeed (s : State) (n : Nat) : Int := match s.fbOf n with
  | some m => (s.fbp m).speed
  | none => 0

/-! ### Outputs -/

/-- The outputs that have an owner, with the level each owner commands (R341, R376). -/
def State.ownedOutputs (s : State) : List (Nat × Bool) :=
  ((List.range 16).flatMap (fun p =>
    [(s.rf .portalOutLck p 8 0, (s.portal p).lockOut), (s.rf .portalOutLck p 24 16, (s.portal p).reqLamp),
     (s.rf .portalOutWrn p 8 0, (s.portal p).warnLamp), (s.rf .portalOutWrn p 24 16, (s.portal p).chime)])
   ++ (List.range 64).map (fun n => (s.rf .axisBrake n 8 0, (s.axis n).brakeRel))).filter (fun e => e.1 != notConnected)

/-- The level the owner of output `code` commands, if it has an owner. -/
def State.ownerLevel (s : State) (code : Nat) : Option Bool :=
  (s.ownedOutputs.find? (fun e => e.1 == code)).map (fun e => e.2)

/-- Whether the Interlock Logic holds an output off (R311). -/
def State.heldOff (s : State) (code : Nat) : Bool :=
  (List.range 16).any (fun i => (s.mon (i + 4)).fault && s.rf .ilkMonFc i 8 0 == code)

/-- Commanded level of field channel `c` (R341): its owner's, or its bit of FLD_OUT; inputs are never driven. -/
def State.channelCmd (s : State) (c : Nat) : Bool :=
  (bitOf (s.reg .fldCh (c / 32) (c % 32)) 0 && !s.heldOff c &&
    (match s.ownerLevel c with
     | some b => b
     | none => s.rb .fldOut (c / 32) (c % 32)))

/-- The output image of tile `k` (R356). -/
def State.tileImage (s : State) (k : Nat) : Nat :=
  (List.range 32).foldl (fun a j => a + b2n (s.channelCmd (32 * k + j)) * 2 ^ j) 0

/-- The commanded target of load switch `n` before ON_DELAY (R376). -/
def State.switchTarget (s : State) (n : Nat) : Bool :=
  match s.ownerLevel (0x100 + n) with
  | some b => b
  | none => s.rb .lswOut n 0
/-- Whether a load switch has an owner (R398). -/
def State.switchOwned (s : State) (n : Nat) : Bool := (s.ownerLevel (0x100 + n)).isSome

/-- A commanded change of switch `n` (R376): off takes effect at once and cancels a waiting on; on takes effect
ON_DELAY after it is commanded; an on that finds the level on or waiting changes nothing. -/
def State.commandSwitch (s : State) (n : Nat) : State :=
  let t := s.switchTarget n
  let w := s.sw n
  if t = w.target then s
  else if t then
    let d := s.rf .lswDelay n 13 0
    if d = 0 then s.setSw n { w with target := true, cmd := true, onDue := none }
    else s.setSw n { w with target := true, onDue := some (s.lt + ms d) }
  else s.setSw n { w with target := false, cmd := false, onDue := none }

/-- Bring every switch's commanded level up to date with its owner or register. -/
def State.commandSwitches (s : State) : State := forEach (List.range 32) State.commandSwitch s

/-- The output image of bank `b` after ON_DELAY (R388). -/
def State.bankImage (s : State) (b : Nat) : Nat :=
  (List.range 8).foldl (fun a i => a + b2n (s.sw (8 * b + i)).cmd * 2 ^ i) 0

/-- The image of isolation link `k`: tiles 0 to 7, dies 8 to 11. -/
def State.linkImage (s : State) (k : Nat) : Nat := if k < 8 then s.tileImage k else s.bankImage (k - 8)

/-! ### The passing of time -/

/-- The images of all links. -/
def State.linkImages (s : State) : List Nat := (List.range 12).map s.commandSwitches.linkImage

/-- Let `n` ticks of CLK_TIME pass: LT and TT advance together (R22, R400), and the real-time clock with LT. At F - 0.5 us the output images of the
field frame at F are taken (R356). -/
def State.pass (s : State) (n : Nat) : State :=
  let tt := ((s.time.ttFp : Int) + ttAdvance s.time.freq n).toNat
  let take := s.time.snapF != some s.time.fieldNext && decide (s.time.fieldNext * 2 ^ 32 ≤ tt + 500 * 2 ^ 32)
  { s with
    time := { s.time with lt := s.time.lt + n, ttFp := tt, snapF := if take then some s.time.fieldNext else s.time.snapF,
                          snap := if take then s.linkImages else s.time.snap }
    bk := { s.bk with rtc := (s.bk.rtc + ((s.time.lt + n) / ticksPerS - s.time.lt / ticksPerS)) % 2 ^ 48 } }

/-- Let time pass up to a local time that is not yet reached: a timer's command comes at its instant (log entry 4). -/
def State.passTo (s : State) (t : Ticks) : State := if s.time.lt < t then s.pass (t - s.time.lt) else s

end Sys2Proof.Machine
end

