-- ==== Sys2Proof/Machine/Profile.lean ====
section
/-!
DEFINITION. Sys2Proof/Machine/Profile.lean: jerk-limited profiles (R187, R193 to R202). Positions, speeds and accelerations
are in 2^-32 count, count/s and count/s²; limits of acceleration and jerk, and the jerk of a phase, in 1/256 count/s² and count/s³, so
that a granted scale multiplies them exactly (R130); durations in 2^-32 motion cycles of exactly 25 us. A profile is a list of phases of
constant jerk, evaluated as a polynomial in time.
-/
namespace Sys2Proof.Machine
open Sys2Proof

/-- Units of duration in one second: 40,000 motion cycles of 2^32 units. -/
def durS : Int := 40000 * 2 ^ 32

/-- Position, speed and acceleration. -/
structure Kin where
  p : Int
  v : Int
  a : Int
  deriving DecidableEq, Repr

/-- The state `t` units after `k` under jerk `j`, rounded to 2^-32. -/
def Kin.after (k : Kin) (j : Int) (t : Int) : Kin :=
  { p := k.p + divRound (6 * durS * durS * k.v * t + 3 * durS * k.a * t * t + j * 2 ^ 24 * t * t * t) (6 * durS * durS * durS)
    v := k.v + divRound (2 * durS * k.a * t + j * 2 ^ 24 * t * t) (2 * durS * durS)
    a := k.a + divRound (j * 2 ^ 24 * t) durS }

/-- The state at the end of a list of phases. -/
def Kin.through (k : Kin) : List Phase → Kin
  | [] => k
  | f :: fs => Kin.through (k.after f.jerk (f.dur : Int)) fs

/-- The state `t` units into a list of phases, with the number of the phase and what is left of `t` at the end. -/
def Kin.at_ (k : Kin) : List Phase → Nat → Nat → Kin × Nat × Nat
  | [], t, i => (k, i, t)
  | f :: fs, t, i => if t < f.dur then (k.after f.jerk (t : Int), i, 0)
      else Kin.at_ (k.after f.jerk (f.dur : Int)) fs (t - f.dur) (i + 1)

/-- Duration of a change `d` of acceleration at jerk `j`. -/
def jerkDur (d j : Int) : Nat := (divRound ((d.natAbs : Int) * (40000 * 256)) (max 1 j)).toNat

/-- Change speed from (v0, a0) to (v1, 0) with acceleration at most `a` and jerk `j`, in 1/256 (R193, R194, R202): the acceleration
moves to a peak, holds and returns to zero. -/
def ramp (v0 a0 v1 a j : Int) : List Phase :=
  let jj := max 1 j
  let am := max 1 a * 2 ^ 24
  -- the speed at which the present acceleration would end if it were taken to zero at once
  let vz := v0 + divRound (a0 * (a0.natAbs : Int)) (2 * jj * 2 ^ 24)
  let sg : Int := if vz ≤ v1 then 1 else -1
  let w := (sg * (v1 - v0)) * 2 * jj * 2 ^ 24 + a0 * a0
  let pk : Int := min ((isqrt (w.toNat / 2) : Nat) : Int) am
  let ap := sg * pk
  -- speed gained while the acceleration moves from a0 to the peak and from the peak to zero
  let s1 : Int := if a0 ≤ ap then 1 else -1
  let dv1 := divRound (s1 * (ap * ap - a0 * a0)) (2 * jj * 2 ^ 24)
  let dv3 := divRound (sg * pk * pk) (2 * jj * 2 ^ 24)
  let rest := sg * (v1 - v0 - dv1 - dv3)
  let hold : Nat := if 0 < rest ∧ 0 < pk then (divRound (rest * durS) pk).toNat else 0
  [⟨s1 * jj, jerkDur (ap - a0) jj⟩, ⟨0, hold⟩, ⟨-sg * jj, jerkDur pk jj⟩]

/-- Distance covered by phases. -/
def distance (k : Kin) (fs : List Phase) : Int := (k.through fs).p - k.p

/-- The largest number that a halving search of `b` steps finds from `lo` upwards for which `ok` holds. -/
def largest (ok : Int → Bool) : Nat → Int → Int
  | 0, lo => lo
  | b + 1, lo => largest ok b (if ok (lo + 2 ^ b) then lo + 2 ^ b else lo)

/-- Limits of a segment with the scale of its acceleration part (R130): V in counts/s; A, D, J and the scaled A and J in 1/256. -/
structure Limits where
  v : Int
  a : Int
  d : Int
  j : Int
  sa : Int
  sj : Int
  deriving DecidableEq, Repr

/-- What lies beyond a segment's target (R196, R198): the highest speed at the joint, in whole counts/s, the way from the joint to the
last target of the run, and the smallest D and J of the segments that remain. -/
structure Beyond where
  v : Int
  room : Int
  d : Int
  j : Int
  deriving DecidableEq, Repr

/-- A segment that ends at rest. -/
def Limits.rest (m : Limits) : Beyond := ⟨0, 0, m.d, m.j⟩

/-- Phases of a motion in the positive direction from `k` to peak speed `v` and on to end speed `v1` (both whole counts/s):
the acceleration part, or the slowing to V where the present speed is above it (R194), then the deceleration part. -/
def accPart (k : Kin) (v : Int) (m : Limits) : List Phase :=
  if v * 2 ^ 32 < k.v then ramp k.v k.a (v * 2 ^ 32) m.d m.j else ramp k.v k.a (v * 2 ^ 32) m.sa m.sj
def decPart (v v1 : Int) (m : Limits) : List Phase :=
  if v ≤ v1 then [⟨0, 0⟩, ⟨0, 0⟩, ⟨0, 0⟩] else ramp (v * 2 ^ 32) 0 (v1 * 2 ^ 32) m.d m.j

/-- Way on which a speed of `v` slows to `v1`, in whole counts/s, at D and J in 1/256. -/
def slowWay (v v1 d j : Int) : Int := distance ⟨0, v * 2 ^ 32, 0⟩ (ramp (v * 2 ^ 32) 0 (v1 * 2 ^ 32) d j)

/-- Whether peak speed `v` fits a segment of length `len` that ends at `v1` (R193), and the axis can still stop at the last target
where its slowing begins (R198). -/
def peakFits (k : Kin) (len v1 : Int) (m : Limits) (b : Beyond) (v : Int) : Bool :=
  let dn := distance ⟨0, v * 2 ^ 32, 0⟩ (decPart v v1 m)
  decide (v ≤ m.v ∧ distance k (accPart k v m) + dn ≤ len ∧ slowWay v 0 b.d b.j ≤ dn + b.room)

/-- The speed at the end of a segment (R196): that of the joint, or the highest that the segment is long enough to reach. -/
def endSpeed (k : Kin) (len : Int) (m : Limits) (b : Beyond) : Int :=
  if distance k (accPart k b.v m) ≤ len then b.v
  else largest (fun v => decide (v ≤ b.v ∧ distance k (accPart k v m) ≤ len)) 32 (min b.v (max 0 (k.v / 2 ^ 32)))

/-- The phases of a motion of length `len` (2^-32 counts) in the positive direction, to end speed `v1` (R193): up to the
limit V with a cruise, or up to the largest peak speed in whole counts per second that fits. -/
def forward (k : Kin) (len v1 : Int) (m : Limits) (b : Beyond) : List Phase :=
  let vp := if peakFits k len v1 m b m.v then m.v else largest (peakFits k len v1 m b) 32 v1
  let up := accPart k vp m
  let dn := decPart vp v1 m
  let left := len - distance k up - distance ⟨0, vp * 2 ^ 32, 0⟩ dn
  let cruise : Nat := if 0 < left ∧ 0 < vp then (divRound (left * durS) (vp * 2 ^ 32)).toNat else 0
  up ++ [⟨0, cruise⟩] ++ dn

/-- Mirror a state or phases for motion towards decreasing counts. -/
def Kin.mirror (k : Kin) (sg : Int) : Kin := ⟨sg * k.p, sg * k.v, sg * k.a⟩
def mirrorPhases (sg : Int) (fs : List Phase) : List Phase := fs.map (fun f => { f with jerk := sg * f.jerk })

/-- Sign of the present motion: that of the speed, or of the acceleration at rest. -/
def Kin.sign (k : Kin) : Int := if k.v > 0 then 1 else if k.v < 0 then -1 else if k.a > 0 then 1 else if k.a < 0 then -1 else 0

/-- Where the axis would come to rest at D and J in 1/256 (R199). -/
def restPoint (k : Kin) (d j : Int) : Int := (k.through (ramp k.v k.a 0 d j)).p

/-- A planned motion to `tgt` (whole counts) from `k` (R193, R194, R199): `last` is the end of the run, `by_` what lies beyond `tgt`, `cur` the
present segment's limits, under which a reversal slows, and `lim` gives the new segment's limits by direction sign. The axis goes on without
stopping where the end of the run lies ahead of its rest point, to the resolution of a set-point (R187). The flag says that it reverses. -/
def planTo (k : Kin) (tgt last : Int) (by_ : Int → Beyond) (cur : Limits) (lim : Int → Limits) : Plan × Bool :=
  let t := tgt * 2 ^ 32
  let sg := k.sign
  let d : Int := if k.p ≤ t then 1 else -1
  if sg = 0 ∨ (-(2 ^ 15) ≤ sg * (last * 2 ^ 32 - restPoint k cur.d cur.j) ∧ sg = d) then
    let km := k.mirror d
    let v1 := endSpeed km (d * (t - k.p)) (lim d) (by_ d)
    let fs := mirrorPhases d (forward km (d * (t - k.p)) v1 (lim d) (by_ d))
    ({ p0 := k.p, v0 := k.v, a0 := k.a, phases := fs, accPhases := 3, target := some tgt, endV := d * v1 }, false)
  else
    let stop := ramp k.v k.a 0 cur.d cur.j
    let r : Kin := ⟨(k.through stop).p, 0, 0⟩
    let d' : Int := if r.p ≤ t then 1 else -1
    let rm := r.mirror d'
    let v1 := endSpeed rm (d' * (t - r.p)) (lim d') (by_ d')
    let fs := mirrorPhases d' (forward rm (d' * (t - r.p)) v1 (lim d') (by_ d'))
    ({ p0 := k.p, v0 := k.v, a0 := k.a, phases := stop ++ fs, accPhases := 6, target := some tgt, endV := d' * v1 }, true)

/-- A stop from the present state at D and J in 1/256 (R227, T10). -/
def planStop (k : Kin) (d j : Int) : Plan :=
  { p0 := k.p, v0 := k.v, a0 := k.a, phases := ramp k.v k.a 0 d j, accPhases := 0 }

/-- A motion at constant speed `v` in counts/s without end, with A and J in 1/256, for the creep search of homing (R214). -/
def planCreep (k : Kin) (v a j : Int) : Plan :=
  { p0 := k.p, v0 := k.v, a0 := k.a, phases := ramp k.v k.a (v * 2 ^ 32) a j ++ [⟨0, 2 ^ 64⟩], accPhases := 3 }

/-- The state of a plan after its cycles, the phase reached and the time left beyond its end. -/
def Plan.now (q : Plan) : Kin × Nat × Nat := Kin.at_ ⟨q.p0, q.v0, q.a0⟩ q.phases (q.lead + q.cycles * 2 ^ 32) 0

/-- The acceleration part of a plan: phases 1 to 3, after the stop of a reversal if there is one (R127, R205). -/
def Plan.accelerating (q : Plan) : Bool :=
  let i := q.now.2.1
  if q.accPhases = 6 then decide (3 ≤ i ∧ i < 6) else decide (i < q.accPhases)

end Sys2Proof.Machine
end

