-- ==== Sys2Proof/Machine/Motion.lean ====
section
/-!
DEFINITION. Sys2Proof/Machine/Motion.lean: the motion engines (R185 to R228): segments, planning, emergency deceleration, current
limit, stall, STEP/DIR output, homing, limit inputs, brakes, and the commands of the AXIS block.
-/
namespace Sys2Proof.Machine
open Sys2Proof

/-- Sign of the opening direction in counts (R188). -/
def State.openSign (s : State) (n : Nat) : Int := if s.rb .axisCfg n 2 then -1 else 1
/-- Present profile state of an axis. -/
def Axis.kin (x : Axis) : Kin := ⟨x.pos, x.vel, x.acc⟩
/-- Put a profile state into an axis. -/
def Axis.setKin (x : Axis) (k : Kin) : Axis := { x with pos := k.p, vel := k.v, acc := k.a }
/-- A register of a profile set as a number: V, A, D, J are 0 to 3 (R188). -/
def State.prof (s : State) (n : Nat) (opening : Bool) (j : Nat) : Nat :=
  (s.reg (if opening then .axisProfO else .axisProfC) n j).toNat

/-- A limit of a segment: 0 takes the profile's value, a larger one is reduced to it (R189). -/
def limitOr (v p : Nat) : Nat := if v = 0 then p else min v p

/-- Limits of a segment in the direction of sign `sg`, with creep while unreferenced or homing (R195) and the scale of
phases 1 to 3 that the segment carries (R130). -/
def State.limits (s : State) (n : Nat) (g : Seg) (sg : Int) : Limits :=
  let o := sg == s.openSign n
  let x := s.axis n
  let v0 := limitOr g.v (s.prof n o 0)
  let v := if x.referenced && x.mode != .homing then v0 else min v0 (s.reg .axisCreep n).toNat
  let a := limitOr g.a (s.prof n o 1)
  let d := limitOr g.d (s.prof n o 2)
  let j := limitOr g.j (s.prof n o 3)
  { v := (v : Int), a := 256 * (a : Int), d := 256 * (d : Int), j := 256 * (j : Int), sa := (a * g.sc : Nat), sj := (j * g.sc : Nat) }

/-- A segment to a target with the limits of its profile set. -/
def plainSeg (t : Int) (sc : Nat := 256) : Seg := ⟨t, 0, 0, 0, 0, sc⟩

/-- Sign of a difference. -/
def signOf (i : Int) : Int := if 0 < i then 1 else if i < 0 then -1 else 0

/-- The segments after the head that run on in direction `sg` without a rest (R196, R197). -/
def sameDir (sg prev : Int) : List Seg → List Seg
  | [] => []
  | g :: gs => if signOf (g.tgt - prev) = sg then g :: sameDir sg g.tgt gs else []

/-- The run of segments from `prev` on that the axis passes without a rest (R196, R198): the highest speed at which it may be entered, so that
each joint is met at its own, the way to its end, and its smallest D and J. -/
def State.entry (s : State) (n : Nat) (sg prev : Int) : List Seg → Beyond
  | [] => ⟨0, 0, 2 ^ 64, 2 ^ 64⟩
  | g :: gs =>
    let l := s.limits n g sg
    let e := s.entry n sg g.tgt gs
    let len : Int := ((g.tgt - prev).natAbs : Int) * 2 ^ 32
    let d := min l.d e.d
    let j := min l.j e.j
    let v1 := min l.v e.v
    ⟨largest (fun c => decide (c ≤ l.v ∧ (c ≤ v1 ∨ slowWay c v1 l.d l.j ≤ len) ∧ slowWay c 0 d j ≤ len + e.room)) 32 0, len + e.room, d, j⟩

/-- What lies beyond the head segment `g` in direction `sg`. -/
def State.beyondHead (s : State) (n : Nat) (g : Seg) (rest : List Seg) (sg : Int) : Beyond :=
  let l := s.limits n g sg
  let e := s.entry n sg g.tgt (sameDir sg g.tgt rest)
  ⟨min l.v e.v, e.room, min l.d e.d, min l.j e.j⟩

/-- Plan the head of the queue from the present state. `cur` is the segment under which a reversal slows. -/
def State.planAxis (s : State) (n : Nat) (cur : Seg) : State :=
  let x := s.axis n
  match x.queue with
  | [] => s
  | g :: rest =>
    let sg := signOf (g.tgt * 2 ^ 32 - x.pos)
    let last := ((sameDir sg g.tgt rest).getLast?.map (·.tgt)).getD g.tgt
    let now := if x.kin.sign = 0 then sg else x.kin.sign
    let r := planTo x.kin g.tgt last (s.beyondHead n g rest) (s.limits n cur now) (s.limits n g)
    s.setAxis n { x with mode := if x.mode = .homing then .homing else .executing, plan := some r.1, reversing := r.2, stallMask := false }

/-- The segment whose limits govern a change of plan now. -/
def Axis.current_ (x : Axis) : Seg := x.queue.head?.getD (plainSeg 0)

/-- Sign of the motion now (R188, R199): that of the speed, else of the acceleration, else of the next phase that moves; 0 at rest without one. -/
def Axis.heading (x : Axis) : Int :=
  if x.vel ≠ 0 then signOf x.vel
  else if x.acc ≠ 0 then signOf x.acc
  else match x.plan with
    | none => 0
    | some q => (((q.phases.drop q.now.2.1).find? (fun f => decide (f.jerk ≠ 0 ∧ f.dur ≠ 0))).map (fun f => signOf f.jerk)).getD 0

/-- Whether the profile runs in the closing direction; at rest the last direction stands (R188). -/
def State.runsClosing (s : State) (n : Nat) : Bool :=
  let x := s.axis n
  if x.heading = 0 then x.closing else decide (x.heading ≠ s.openSign n)

/-- Start the queue from rest or from the present motion: a brake that is applied is released first (R219). -/
def State.startQueue (s : State) (n : Nat) (cur : Seg) : State :=
  let x := s.axis n
  if s.rb .axisCfg n 9 && !x.brakeRel then
    s.setAxis n { x with mode := .holding, brakeRel := true, brkAppDue := none,
                         brkRelDue := some (s.lt + ms (s.rf .axisBrake n 23 16)) }
  else if x.brkRelDue.isSome then s
  else s.planAxis n cur

/-- REPLACE (R190, R199): the new segment is the only one, planned from the present state. -/
def State.replaceSeg (s : State) (n : Nat) (g : Seg) : State :=
  let cur := (s.axis n).current_
  (s.modAxis n (fun x => { x with queue := [g] })).startQueue n cur

/-- Whether the engine takes motions: not in emergency deceleration, homing, brake test or torque off (R190, R192). -/
def AMode.takes : AMode → Bool
  | .holding => true
  | .executing => true
  | .relief => true
  | _ => false

/-! ### Torque, emergency deceleration and faults -/

/-- Torque off at once, with the brake output de-energised in the same cycle (R219, torque off by fault). -/
def State.torqueOffNow (s : State) (n : Nat) : State :=
  s.modAxis n (fun x => { x with mode := .off, brakeRel := false, brkRelDue := none, brkAppDue := none, queue := [],
                                 plan := none, pending := none, vel := 0, acc := 0, reversing := false })

/-- Remove torque at rest: the brake is applied first and torque goes BRK_APP_T later (R219, Apply). -/
def State.removeTorque (s : State) (n : Nat) : State :=
  let x := s.axis n
  if s.rb .axisCfg n 9 && x.brakeRel && x.mode != .off then
    s.setAxis n { x with mode := .holding, brakeRel := false, brkRelDue := none, queue := [], plan := none, pending := none,
                         vel := 0, acc := 0, brkAppDue := some (s.lt + ms (s.rf .axisBrake n 31 24)) }
  else s.torqueOffNow n

/-- Torque off with the brake released: the condition of EMERGENCY (R95, R220). -/
def State.freeLeaf (s : State) (n : Nat) : State :=
  s.modAxis n (fun x => { x with mode := .off, brakeRel := s.rb .axisCfg n 9, brkRelDue := none, brkAppDue := none,
                                 queue := [], plan := none, pending := none, vel := 0, acc := 0, reversing := false })

/-- Whether a motion of the Portal Sequencer that waits is still called for after a cause (R190): the portal's state stays the same. -/
def EmgCause.keepsPending : EmgCause → Bool
  | .stop => true
  | .tripStop => true
  | .homingRetry => true
  | _ => false

/-- Start emergency deceleration (R201, R202): the queue is cleared; a second cause leaves the profile unchanged, and a
fault among the causes decides what follows at rest. A fault applies the brake of an axis whose torque is off already (R95, R219). Stall
detection rests from a trip until the next profile starts (R207). -/
def State.emergencyStop (s : State) (n : Nat) (c : EmgCause) : State :=
  let x := s.axis n
  match x.mode with
  | .off => if c = .fault then s.torqueOffNow n else s
  | .emergency => if c = .fault then s.setAxis n { x with emg := .fault, pending := none } else s
  | _ => s.setAxis n { x with mode := .emergency, queue := [], pending := if c.keepsPending then x.pending else none, emg := c,
                              reversing := false, loadHold := false, stallMask := c == .tripReopen || c == .tripStop, stallFe := none,
                              stallCur := none,
                              plan := some (planStop x.kin (256 * (s.reg .axisEdec n).toNat) (256 * (s.reg .axisEjerk n).toNat)) }

/-- Fault an axis (R202): the first cause is kept until the fault clears; a moving axis decelerates first. -/
def State.faultAxis (s : State) (n c : Nat) : State :=
  (s.modAxis n (fun x => { x with fault := true, faultCause := if x.fault then x.faultCause else c })).emergencyStop n .fault

/-- Fault an axis whose torque goes at once (R283, R284). -/
def State.faultAxisOff (s : State) (n c : Nat) : State :=
  (s.modAxis n (fun x => { x with fault := true, faultCause := if x.fault then x.faultCause else c })).torqueOffNow n

/-- Set the axis position: its feedback port takes the value (R249, R214). The write is completed in Feedback.lean for
the comparator; here the count, H and the offset of the axis change together. -/
def State.homingPos (s : State) (n : Nat) : Int := s.rs .axisHomePos n

/-- Begin homing (R213): the feedback position is the set-point, with holding current. -/
def State.startHoming (s : State) (n : Nat) : State :=
  s.modAxis n (fun x => { x with mode := .homing, referenced := false, homeReverse := false, homeAttempt := 1, homeFound := false,
                                 homeSince := none, plan := none, queue := [], pending := none, pos := s.latchOf n * 2 ^ 32, vel := 0,
                                 acc := 0, scale := 256, emg := .none, brkAppDue := none, stallMask := false })

/-- Sign of the creep search (R214). -/
def State.searchSign (s : State) (n : Nat) : Int :=
  if (s.axis n).homeReverse then s.openSign n else -(s.openSign n)

/-- The creep search from a state (R214). -/
def State.planSearch (s : State) (n : Nat) (k : Kin) : Plan :=
  planCreep k (s.searchSign n * (s.reg .axisCreep n).toNat) (256 * s.prof n false 1) (256 * s.prof n false 3)

/-- Homing before its search (R213): once the axis stands still the brake is released under R219, then the search starts. -/
def State.searchStart (s : State) (n : Nat) : State :=
  let x := s.axis n
  if s.fbSpeed n != 0 || x.brkRelDue.isSome then s
  else if s.rb .axisCfg n 9 && !x.brakeRel then
    s.setAxis n { x with brakeRel := true, brkRelDue := some (s.lt + ms (s.rf .axisBrake n 23 16)) }
  else s.setAxis n { x with plan := some (s.planSearch n ⟨x.pos, 0, 0⟩) }

/-! ### One motion cycle of an engine (R186, R187, R205, R211) -/

/-- Current-at-limit condition of R206 against a limit in 0.25 A. -/
def atLimit (x : Axis) (ilim num : Nat) : Bool := decide (num * (ilim * 64) ≤ 16 * x.current.natAbs)

/-- Let a plan run one cycle. -/
def Axis.advance (x : Axis) (q : Plan) : Axis × Nat :=
  let q' := { q with cycles := q.cycles + 1 }
  let r := q'.now
  (({ x with plan := some q', reversing := x.reversing && decide (r.2.1 < 3) }).setKin r.1, if r.2.1 < q.phases.length then 0 else r.2.2 + 1)

/-- Load adaptation at a sample (R205), for an axis whose stage measures its current: 0 not at all, 1 where the acceleration may not grow, 2
where it is reduced. -/
def State.adapts (s : State) (n : Nat) (q : Plan) : Nat :=
  let x := s.axis n
  if s.rb .axisCfg n 7 && !s.rb .axisCfg n 1 && q.accelerating then
    if atLimit x x.ilim 15 then 2 else if atLimit x x.ilim (s.rf .axisLoad n 3 0) then 1 else 0
  else 0

/-- Whether the acceleration grows in the present phase of a plan. -/
def Axis.grows (x : Axis) (q : Plan) : Bool :=
  decide (0 < signOf x.acc * signOf ((q.phases.getD q.now.2.1 ⟨0, 0⟩).jerk) ∨ x.acc = 0)

/-- One cycle under load adaptation (R205): the acceleration holds, or moves towards zero at jerk J; then the profile
is planned anew from the state reached, the creep search of homing too. -/
def State.adaptCycle (s : State) (n : Nat) (x : Axis) (reduce : Bool) : State :=
  let search := x.mode == .homing && !x.homeFound
  let j := if search then 256 * (s.prof n false 3 : Int) else (s.limits n x.current_ x.kin.sign).j
  let jj : Int := if reduce ∧ x.acc ≠ 0 then -signOf x.acc * j else 0
  let k := x.kin.after jj (2 ^ 32)
  let k' : Kin := if signOf k.a = -signOf x.acc then { k with a := 0 } else k
  let y := ({ x with loadHold := true }).setKin k'
  (if search then s.setAxis n { y with plan := some (s.planSearch n k') } else (s.setAxis n y).planAxis n x.current_).count (64 + n / 4)

/-- The engine finishes a segment: the set-point stands on its target, the next one is planned with the time left over. -/
def State.segmentEnd (s : State) (n : Nat) (x : Axis) (q : Plan) (spare : Nat) : State :=
  let k : Kin := match q.target with
    | some t => ⟨t * 2 ^ 32, q.endV * 2 ^ 32, 0⟩
    | none => { x.kin with v := 0, a := 0 }
  let x1 := { x.setKin k with queue := x.queue.tail, plan := none, reversing := false,
                              segDone := (x.segDone + b2n (q.target.isSome)) % 65536 }
  if x1.queue = [] then s.setAxis n { x1 with mode := .holding, vel := 0, acc := 0 }
  else
    let s1 := (s.setAxis n x1).planAxis n x1.current_
    let x2 := s1.axis n
    match x2.plan with
    | some p =>
      let p' := { p with lead := spare }
      s1.setAxis n (({ x2 with plan := some p' }).setKin p'.now.1)
    | none => s1

/-- One cycle of a plan under load adaptation (R205): `done` says what follows its end. -/
def State.planCycle (s : State) (n : Nat) (q : Plan) (done : State → Axis → Nat → State) : State :=
  let x := s.axis n
  let ad := s.adapts n q
  if ad = 2 ∨ (ad = 1 ∧ x.grows q) then s.adaptCycle n x (ad == 2)
  else
    let r := x.advance q
    let x' := { r.1 with loadHold := ad != 0 }
    let s' := if ad ≠ 0 then s.count (64 + n / 4) else s
    if r.2 = 0 then s'.setAxis n x' else done s' x' (r.2 - 1)

/-- One cycle of an axis that executes segments. -/
def State.executeCycle (s : State) (n : Nat) : State :=
  let x := s.axis n
  match x.plan with
  | none => if x.queue = [] then s.setAxis n { x with mode := .holding } else s.startQueue n x.current_
  | some q => s.planCycle n q (fun s x spare => s.segmentEnd n x q spare)

/-- One cycle of an axis in emergency deceleration: it stays at rest once there. -/
def State.emergencyCycle (s : State) (n : Nat) : State :=
  let x := s.axis n
  match x.plan with
  | none => s
  | some q =>
    let r := x.advance q
    if r.2 = 0 then s.setAxis n r.1 else s.setAxis n { r.1 with vel := 0, acc := 0, plan := none }

/-- One cycle of a homing axis. -/
def State.homingCycle (s : State) (n : Nat) : State :=
  let x := s.axis n
  match x.plan with
  | none => if x.homeFound then s.setAxis n { x with mode := .holding } else s.searchStart n
  | some q => s.planCycle n q (fun s x _ =>
      s.setAxis n { x.setKin ⟨(q.target.getD 0) * 2 ^ 32, 0, 0⟩ with mode := .holding, plan := none, queue := [] })

/-- The engine takes the Portal Sequencer's motion where it can (R190). -/
def State.takePending (s : State) (n : Nat) : State :=
  let x := s.axis n
  match x.pending with
  | none => s
  | some t =>
    if x.mode.takes && !x.fault then
      if x.mode = .executing ∧ x.queue.map (·.tgt) = [t] then s.setAxis n { x with pending := none }
      else (s.setAxis n { x with pending := none }).replaceSeg n (plainSeg t x.scale)
    else s

/-- The start of the drive link frame of the present cycle, whose set-point is made before it (R186). -/
def State.frameLt (s : State) : Ticks := max s.lt (s.time.bLt + us 25)

/-- Clocks of a motion cycle that a change of DIR takes from the steps (R212): what DIR_HOLD still asks for after the last STEP edge, and DIR_SU. -/
def State.turnClocks (s : State) (n : Nat) : Nat :=
  let since := match (s.axis n).stepLast with
    | some t => 4 * (s.frameLt - t)
    | none => 10 * 255
  divCeil (10 * s.rf .axisStepTim n 15 8 - since) 5 + 2 * s.rf .axisStepTim n 7 0

/-- Clocks between two STEP edges (R212): 40 for 5 MHz, and a pulse of STEP_W clocks needs one clock more. Log entry 88. -/
def State.stepPeriod (s : State) (n : Nat) : Nat := max 40 (s.rf .axisStepCfg n 31 24 + 1)

/-- INC for `go` steps in 5,000 clocks from accumulator `a` (R210, R211): rounded so that exactly that many carries, or borrows where DIR
shows closing, fall within them. Log entry 88. -/
def stepInc (closing : Bool) (a go : Nat) : Nat :=
  if closing then (a + go * 2 ^ 48) / 5000 else divCeil (go * 2 ^ 48 - a) 5000
/-- Carries out of bit 47, or borrows into it, over 5,000 clocks, and the accumulator after them (R210). -/
def stepRun (closing : Bool) (a inc : Nat) : Nat × Nat :=
  let v : Int := if closing then (a : Int) - 5000 * inc else (a : Int) + 5000 * inc
  ((v / 2 ^ 48).natAbs, (v % 2 ^ 48).toNat)

/-- STEP and DIR of an axis with that output (R209 to R212): as many steps as bring the count to the set-point times STEP_SCALE; what the rules of
R212 hold back is delayed. The step count follows the counts; DIR shows opening or closing. -/
def State.stepCycle (s : State) (n : Nat) : State :=
  if !s.rb .axisCfg n 1 then s
  else
    let x := s.axis n
    let want := divRound (x.pos * (s.rf .axisStepCfg n 23 0 : Int)) (2 ^ 48) - x.stepPos
    let cl := if want = 0 then x.stepDir else decide (signOf want ≠ s.openSign n)
    let lost := if cl = x.stepDir then 0 else s.turnClocks n
    let inc := if want = 0 then 0 else stepInc cl x.stepAcc (min want.natAbs ((5000 - lost) / s.stepPeriod n))
    let r := stepRun cl x.stepAcc inc
    let s1 := s.setAxis n { x with stepPos := x.stepPos + signOf want * (r.1 : Int), stepInc := inc, stepAcc := r.2, stepDir := cl,
                                   stepLast := if r.1 = 0 then x.stepLast else some (s.frameLt + us 25), stepLag := want.natAbs - r.1 }
    if want = 0 then s1 else s1.emit (.stepDir n (cl == s.rb .axisStepTim n 25) (!s.rb .axisStepTim n 24) inc r.1)

/-- Reservation class and amount of an axis (R127), in 0.25 A. A start that waits for its brake keeps what it was granted; the re-close of R107 is a
hold; a reopening keeps what it held (R128). Log entry 87. -/
def State.reservation (s : State) (n : Nat) : ResClass × Nat :=
  let x := s.axis n
  let w := s.reg .portalCur (n / 4) (n % 4)
  let acc := fld w 7 0; let run := fld w 15 8; let edec := fld w 23 16; let hold := fld w 31 24
  let waits := x.pending.isSome || (x.brkRelDue.isSome && x.queue != []) || (Table.get none s.ilk.tests n).isSome
  match x.mode with
  | .off => (.off, 0)
  | .relief => (.hold, hold)
  | .emergency => (x.res, x.resAmp)
  | .brakeTest => (.hold, x.resAmp)
  | m =>
    if (s.portal (n / 4)).reclosing.isSome && decide (n % 4 < 2) then (.hold, hold)
    else if m = .holding && waits then (x.res, x.resAmp)
    else if x.plan.isNone && (m = .holding || m = .homing) then (.hold, hold)
    else if (x.plan.map Plan.accelerating).getD false then
      if x.held then (x.res, max x.resAmp (max run edec)) else (.accel, max (divCeil (acc * x.current_.sc) 256) edec)
    else (.run, max run edec)

/-- I_LIM of a set-point (R204): the reservation, lowered to I_RELIEF in the hold of R154 and to HOME_I in the search of homing, and the holding
current while a brake is released (R213, R219). An axis with STEP/DIR output sends none. -/
def State.currentLimit (s : State) (n : Nat) : Nat :=
  let x := s.axis n
  let hold := fld (s.reg .portalCur (n / 4) (n % 4)) 31 24
  if s.rb .axisCfg n 1 then 0
  else match x.mode with
  | .off => 0
  | .relief => min x.resAmp (s.rf .obsRelief n 7 0)
  | .homing => if x.plan.isNone then hold else min x.resAmp (s.rf .axisHome n 23 16)
  | .holding => if x.brkRelDue.isSome then hold else x.resAmp
  | _ => x.resAmp

/-- Start, keep or end a condition that must hold for a time. -/
def sinceWhile (c : Bool) (t : Option Ticks) (now : Ticks) : Option Ticks := if c then some (t.getD now) else none

/-- Following error, stall and reference conditions at the input instant (R206 to R208, R215). -/
def State.watchCycle (s : State) (n : Nat) : State :=
  let x := s.axis n
  let fe := divRound x.pos (2 ^ 32) - s.latchOf n
  let mode1 := s.rf .axisCfg n 4 3 == 1
  let on := s.rb .axisCfg n 8 && !x.stallMask && (x.mode == .executing || (x.mode == .homing && mode1))
  let feC := decide (s.rf .axisStall n 15 0 < fe.natAbs)
  let curC := !s.rb .axisCfg n 1 && atLimit x x.ilim 15 && decide ((s.fbSpeed n).natAbs < (s.reg .axisStallV n).toNat)
  let ref := x.mode == .homing && !mode1 && !x.homeFound && x.plan.isSome && (if s.rb .axisCfg n 1 then feC else curC)
  s.setAxis n { x with ferr := satSigned 32 fe, stallFe := sinceWhile (on && feC) x.stallFe s.lt,
                       stallCur := sinceWhile (on && curC) x.stallCur s.lt, homeSince := sinceWhile ref x.homeSince s.lt,
                       homeRef := if ref && x.homeSince.isNone then s.latchOf n else x.homeRef }

/-- An axis loses its reference (R195, R253): a stroke under way goes on at creep speed. -/
def State.loseReference (s : State) (n : Nat) : State :=
  let s1 := s.modAxis n (fun x => { x with referenced := false })
  if (s.axis n).mode = .executing ∧ (s.axis n).plan.isSome then s1.planAxis n (s.axis n).current_ else s1

/-- One motion cycle of an engine: motion, reservation, current limit, set-point, watches. -/
def State.engineCycle (s : State) (n : Nat) : State :=
  let s0 := (s.modAxis n (fun x => { x with loadHold := false })).takePending n
  let s1 := match (s0.axis n).mode with
    | .off => s0.modAxis n (fun x => { x with pos := s0.latchOf n * 2 ^ 32, vel := 0, acc := 0 })
    | .executing => s0.executeCycle n
    | .emergency => s0.emergencyCycle n
    | .homing => s0.homingCycle n
    | .holding => if (s0.axis n).queue ≠ [] ∧ (s0.axis n).brkRelDue = none then s0.startQueue n (s0.axis n).current_ else s0
    | _ => s0
  let s2 := s1.stepCycle n
  let r := s2.reservation n
  let s3 := s2.modAxis n (fun x => { x with res := r.1, resAmp := r.2 })
  let x := s3.axis n
  (s3.setAxis n { x with posSp := divRound x.pos (2 ^ 16), spdSp := divRound x.vel (2 ^ 32), ilim := s3.currentLimit n,
                         closing := s3.runsClosing n, rested := x.rested || decide (x.vel = 0 ∧ x.acc = 0) }).watchCycle n

/-! ### Commands of the segment port and of AXIS_CMD -/

/-- Reject a push (R192): only the reason and the event change. -/
def State.rejectSeg (s : State) (n c : Nat) : State :=
  (s.modAxis n (fun x => { x with reject := c })).raise 0x5008 n (leBytes 1 c)

/-- The staged segment (R191). -/
def State.staged (s : State) (n : Nat) : Seg :=
  ⟨s.rs .axisSegTgt n, (s.reg .axisSegLim n 0).toNat, (s.reg .axisSegLim n 1).toNat, (s.reg .axisSegLim n 2).toNat,
   (s.reg .axisSegLim n 3).toNat, 256⟩

/-- Whether a target lies between TGT_CLOSED and TGT_OPEN. -/
def State.inRange (s : State) (n : Nat) (t : Int) : Bool :=
  let a := s.rs .axisTgtClosed n; let b := s.rs .axisTgtOpen n
  decide (min a b ≤ t ∧ t ≤ max a b)

/-- The reason for which a push is rejected, if there is one (R192). -/
def State.pushReject (s : State) (n : Nat) (append : Bool) : Option Nat :=
  let x := s.axis n
  if !x.mode.takes then some 2
  else if append && decide (8 ≤ x.queue.length) then some 1
  else if !x.referenced && !s.inRange n (s.staged n).tgt then some 3
  else none

/-- Target from which a segment starts: that of the last one queued, or the set-point. -/
def Axis.lastTarget (x : Axis) : Int := (x.queue.getLast?.map (·.tgt)).getD (divRound x.pos (2 ^ 32))

/-- Push at the tail (R190, R191): a segment whose target equals the previous target completes at once (R192). -/
def State.appendSeg (s : State) (n : Nat) : State :=
  match s.pushReject n true with
  | some c => s.rejectSeg n c
  | none =>
    let x := s.axis n
    let g := s.staged n
    if g.tgt = x.lastTarget then s.setAxis n { x with segDone := (x.segDone + 1) % 65536 }
    else (s.setAxis n { x with queue := x.queue ++ [g], origTarget := g.tgt }).startQueue n x.current_

/-- Push in place of everything queued (R190, R199). -/
def State.replacePush (s : State) (n : Nat) : State :=
  match s.pushReject n false with
  | some c => s.rejectSeg n c
  | none =>
    let x := s.axis n
    let g := s.staged n
    if x.kin.sign = 0 ∧ g.tgt * 2 ^ 32 = x.pos then
      s.setAxis n { x with queue := [], plan := none, mode := .holding, segDone := (x.segDone + 1) % 65536 }
    else (s.setAxis n { x with origTarget := g.tgt }).replaceSeg n g

/-- STOP (R227): clears the queue and stops at the present segment's D, or with emergency deceleration. -/
def State.stopAxis (s : State) (n : Nat) (emg : Bool) : State :=
  let x := s.axis n
  if emg then s.emergencyStop n .stop
  else match x.mode with
    | .executing | .homing =>
      let l := s.limits n x.current_ (if x.kin.sign = 0 then 1 else x.kin.sign)
      s.setAxis n { x with queue := [], mode := .executing, plan := some (planStop x.kin l.d l.j) }
    | _ => s.setAxis n { x with queue := [] }

/-- Clear a chatter fault whose input has made no transition for CHAT_WIN (R218). -/
def Chatter.clear (c : Chatter) (now win : Ticks) : Chatter :=
  match c.last with
  | some t => if c.latched ∧ t + win ≤ now then { c with latched := false, times := [] } else c
  | none => { c with latched := false, times := [] }

/-- CLEAR is accepted while the portal is in FAULT or UNUSED (R218). -/
def State.clearChatter (s : State) (n : Nat) : State :=
  let p := (s.portal (n / 4)).st
  when_ (p == .fault || p == .unused) (fun s => s.modAxis n (fun x =>
    let w := ms (s.rf .axisChatter n 23 8)
    { x with limClose := x.limClose.clear s.lt w, limOpen := x.limOpen.clear s.lt w, home := x.home.clear s.lt w })) s

/-! ### What happens at rest, stalls, limits, chatter, step lag -/

/-- Whether the axis stands at or beyond a target in the opening direction (R736). -/
def State.beyond (s : State) (n : Nat) (t : Int) : Bool := decide (s.openSign n * (t * 2 ^ 32) ≤ s.openSign n * (s.axis n).pos)

/-- The axis comes to rest after emergency deceleration (R203, R214, R736). -/
def State.emergencyRest (s : State) (n : Nat) : State :=
  let x := s.axis n
  let y := { x with vel := 0, acc := 0, plan := none, emg := EmgCause.none }
  match x.emg with
  | .fault => s.torqueOffNow n
  | .tripReopen =>
    if s.beyond n x.emgTarget then s.setAxis n { y with mode := .holding }
    else (s.setAxis n { y with mode := .holding, queue := [plainSeg x.emgTarget], origTarget := x.emgTarget, held := true }).planAxis n
           (plainSeg x.emgTarget)
  | .tripStop => (s.setAxis n { y with mode := .relief }).modOb n (fun o => { o with stopHeld := true, stopAt := s.lt })
  | .homingRetry =>
    if x.homeAttempt ≤ 1 then
      (s.setAxis n { y with mode := .homing, homeAttempt := 2, homeReverse := !x.homeReverse, homeFound := false, homeSince := none }).raise
        0x5004 n
    else ((s.setAxis n y).faultAxisOff n 3).raise 0x5005 n
  | _ => s.setAxis n { y with mode := .holding }

/-- At rest in emergency deceleration: the profile of R202 has ended. -/
def Axis.atRest (x : Axis) : Bool := x.mode == .emergency && x.vel == 0 && x.acc == 0

def execEmergencyDecelRest (n : Fin 64) (s : State) : Host.Outcome State Fault Refusal :=
  run s (fun s => when_ (s.axis n).atRest (fun s => s.emergencyRest n) s)

/-- A stall (R206): the condition has held for STALL_T. -/
def State.stall (s : State) (n : Nat) (current : Bool) : State :=
  let x := s.axis n
  match (if current then x.stallCur else x.stallFe) with
  | none => s
  | some t =>
    let s1 := s.passTo (t + ms (s.rf .axisStall n 23 16))
    ((s1.raise 0x5001 n (leInt 4 (s1.latchOf n) ++ leBytes 1 (if current then 2 else 1))).faultAxis n 1).count (80 + n / 4)

/-- Source code of a limit input: LIM_OPEN or LIM_CLOSE. -/
def State.limitCode (s : State) (n : Nat) (opening : Bool) : Nat :=
  if opening then s.rf .axisLimit n 24 16 else s.rf .axisLimit n 8 0
/-- Whether a limit input reads active: its filter, or a latched chatter fault (R217, R218). -/
def State.limitActive (s : State) (n : Nat) (opening : Bool) : Bool :=
  s.input (s.limitCode n opening) false || (if opening then (s.axis n).limOpen.latched else (s.axis n).limClose.latched)
/-- Source code of the home input. -/
def State.homeCode (s : State) (n : Nat) : Nat := s.rf .axisHome n 8 0

/-- Whether an axis homes, its own emergency deceleration included (R214). -/
def Axis.homes (x : Axis) : Bool := x.mode == .homing || (x.mode == .emergency && x.emg == .homingRetry)

/-- A limit trip outside homing (R217). -/
def State.limitTrip (s : State) (n : Nat) (opening : Bool) : State :=
  when_ (s.limitActive n opening && (s.axis n).mode != .off && !(s.axis n).homes) (fun s =>
    ((s.raise 0x5002 n).faultAxis n 2).count (96 + n / 4)) s

/-- One input of an axis that chatter is watched on: 0 LIM_CLOSE, 1 LIM_OPEN, 2 HOME_IN. -/
def Axis.chatter (x : Axis) (k : Nat) : Chatter := if k = 0 then x.limClose else if k = 1 then x.limOpen else x.home
def Axis.setChatter (x : Axis) (k : Nat) (c : Chatter) : Axis :=
  if k = 0 then { x with limClose := c } else if k = 1 then { x with limOpen := c } else { x with home := c }

/-- Transitions of an input within the last CHAT_WIN. -/
def State.chatterCount (s : State) (n k : Nat) : Nat :=
  (((s.axis n).chatter k).times.filter (fun t => decide (s.lt < t + ms (s.rf .axisChatter n 23 8)))).length

/-- A chatter fault latches (R218); during homing it faults the axis (R214). -/
def State.chatterFault (s : State) (n k : Nat) : State :=
  when_ (decide (s.rf .axisChatter n 7 0 < s.chatterCount n k) && !((s.axis n).chatter k).latched) (fun s =>
    let s1 := (s.modAxis n (fun x => x.setChatter k { x.chatter k with latched := true })).raise 0x5006 n
    if (s.axis n).homes then (s1.faultAxis n 4).raise 0x5005 n else s1) s

def execAxChatter (n : Fin 64) (k : Fin 3) (s : State) : Host.Outcome State Fault Refusal := run s (fun s => s.chatterFault n k)

/-- Note a transition of an input for chatter (R218). -/
def State.noteChatter (s : State) (n k : Nat) (level : Bool) : State :=
  s.modAxis n (fun x => x.setChatter k (let c := x.chatter k
    { c with times := (c.times.filter (fun t => decide (s.lt < t + ms (s.rf .axisChatter n 23 8)))) ++ [s.lt],
             last := some s.lt, level := level }))

/-- Delayed steps exceed STEP_LAG_MAX (R212). -/
def State.stepLagFault (s : State) (n : Nat) : State :=
  when_ (decide (s.rf .axisStepTim n 23 16 < (s.axis n).stepLag)) (fun s => (s.raise 0x5007 n).faultAxis n 5) s

def execAxStepLag (n : Fin 64) (s : State) : Host.Outcome State Fault Refusal := run s (fun s => s.stepLagFault n)

/-! ### Homing and brakes -/

/-- A limit input other than the home input becomes active during homing (R214). -/
def State.homeLimit (s : State) (n : Nat) (opening : Bool) : State :=
  when_ ((s.axis n).mode == .homing && s.limitActive n opening && s.limitCode n opening != s.homeCode n) (fun s =>
    s.emergencyStop n .homingRetry) s

/-- BRK_REL_T after the brake output was energised, motion may start (R219). -/
def State.brakeReleased (s : State) (n : Nat) : State :=
  match (s.axis n).brkRelDue with
  | none => s
  | some t => (s.passTo t).modAxis n (fun x => { x with brkRelDue := none })

def execBrakeReleaseElapsed (n : Fin 64) (s : State) : Host.Outcome State Fault Refusal := run s (fun s => s.brakeReleased n)

/-- I_T of the brake test (R316): BT_PCT/100 × BT_IREF, rounded up to 0.25 A. -/
def State.testCurrent (s : State) (n : Nat) : Nat := divCeil (s.rf .ilkBtCfg 0 23 16 * s.rf .ilkBt n 15 8) 100

/-- Begin one direction of a brake test (R316): mode 5 with I_LIM I_T and the set-point 4 × BT_COUNTS away from x0. -/
def State.testPhase (s : State) (n : Nat) (b : BrakeTest) : State :=
  let d : Int := (if b.dir = 0 then s.openSign n else -(s.openSign n)) * 4 * (s.rf .ilkBt n 31 16 : Int)
  let s1 := s.modAxis n (fun x => { x with mode := .brakeTest, pos := (b.x0 + d) * 2 ^ 32, vel := 0, acc := 0, resAmp := s.testCurrent n })
  { s1 with ilk := { s1.ilk with tests := Table.set none s1.ilk.tests n (some { b with waiting := false, start := s.lt, reached := false }) } }

/-- End a test: the set-point returns to x0 with the holding current (R316, R318). -/
def State.testEnd (s : State) (n : Nat) (b : BrakeTest) : State :=
  let s1 := s.modAxis n (fun x => if x.mode = .brakeTest then { x with mode := .holding, pos := b.x0 * 2 ^ 32, vel := 0, acc := 0 }
                                  else if b.waiting then { x with brkAppDue := none } else x)
  { s1 with ilk := { s1.ilk with tests := Table.set none s1.ilk.tests n none, btEnded := s1.ilk.btEnded ||| 2 ^ n } }

/-- A running test is aborted (R318): the axis stays due. -/
def State.testAbort (s : State) (n : Nat) : State :=
  match Table.get none s.ilk.tests n with
  | some b => (s.testEnd n b).raise 0x7012 n
  | none => s

/-- BRK_APP_T after the brake output was de-energised, torque is removed (R219). A brake test that waited for it begins. -/
def State.brakeApplied (s : State) (n : Nat) : State :=
  match (s.axis n).brkAppDue with
  | none => s
  | some t =>
    let s1 := (s.passTo t).modAxis n (fun x => { x with brkAppDue := none })
    match Table.get none s1.ilk.tests n with
    | some b => s1.testPhase n { b with x0 := s1.latchOf n }
    | none => s1.torqueOffNow n

def execBrakeApplyElapsed (n : Fin 64) (s : State) : Host.Outcome State Fault Refusal := run s (fun s => s.brakeApplied n)

end Sys2Proof.Machine
end

