-- ==== Sys2Proof/Machine/Feedback.lean ====
section
/-!
DEFINITION. Sys2Proof/Machine/Feedback.lean: the feedback ports (R229 to R268): counting, interpolation, SSI, reversal
hysteresis, wrap, speed, index, compare and divided output, and the end of homing, which writes a port's count (R214).
-/
namespace Sys2Proof.Machine
open Sys2Proof

/-- MODE of a port (R229). -/
def State.fbMode (s : State) (m : Nat) : Nat := s.rf .fbCfg m 1 0
/-- Counts in one revolution (R247): WRAP 0 means 2^32. -/
def State.fbWrapLen (s : State) (m : Nat) : Nat := let w := (s.reg .fbWrap m).toNat; if w = 0 then 2 ^ 32 else w
/-- WRAP_EN. -/
def State.fbWrapEn (s : State) (m : Nat) : Bool := s.rb .fbCfg m 3

/-- Axis position P (R232). -/
def State.fbPos (s : State) (m : Nat) : Int :=
  let f := s.fbp m
  if s.fbWrapEn m then f.rev * s.fbWrapLen m + f.pos else signedOf 32 f.count

/-- A port fault (R262): it latches with its first cause, and faults the axis the port feeds with cause 8. A position that leaves its range does
so in one clock (R232); any other condition lasts until it is seen to have ended (R263). -/
def State.fbFault (s : State) (m c : Nat) : State :=
  let gone := if c = 6 then some s.lt else none
  if (s.fbp m).fault then s.modFbp m (fun f => if f.faultCause = c then { f with condGone := gone } else f)
  else
    ((s.modFbp m (fun f => { f with fault := true, faultCause := c, condGone := gone })).raise 0x5013 m (leBytes 1 c)).faultAxis
      (s.fedAxis m) 8

/-- The condition of a latched port fault has ended (R263). -/
def FbPort.gone (f : FbPort) (causes : List Nat) (now : Ticks) : FbPort :=
  if f.fault && causes.contains f.faultCause && f.condGone.isNone then { f with condGone := some now } else f

/-- Whether more than `max` of some instants, in order, have lain within 10 ms of each other at some time in the last 10 ms (R236, R263). -/
def illegalRecent (times : List Ticks) (max : Nat) (now : Ticks) : Bool :=
  (List.range times.length).any (fun i => match times[i]?, times[i + max]? with
    | some a, some b => decide (b < a + ms 10 ∧ now < a + ms 20)
    | _, _ => false)

/-- Whether the emergency reset may clear a port's fault (R263): its condition has been absent for at least 10 ms. For cause
3 the condition is more than ILL_MAX illegal transitions within 10 ms. -/
def State.fbClearable (s : State) (m : Nat) : Bool :=
  let f := s.fbp m
  !f.fault ||
  (if f.faultCause = 3 then !illegalRecent f.illTimes (s.rf .fbFilter m 23 16) s.lt
   else match f.condGone with
     | some t => decide (t + ms 10 ≤ s.lt)
     | none => false)
/-- Clear a port fault at the emergency reset (R263). -/
def State.fbClear (s : State) (m : Nat) : State :=
  s.modFbp m (fun f => { f with fault := false, faultCause := 0, condGone := none, amplRun := 0, ssiErr := 0 })

/-- Reversal hysteresis (R245). -/
def FbPort.hyst (f : FbPort) (p : Int) : FbPort :=
  if f.dec then
    if p < f.h then { f with h := p } else if f.h + 2 ≤ p then { f with dec := false, h := p } else f
  else
    if f.h < p then { f with h := p } else if p ≤ f.h - 2 then { f with dec := true, h := p } else f

/-- CMP_DIR in force. -/
def FbPort.cmpDir (f : FbPort) : Nat := fieldOf f.cmpCfg 1 0
/-- Whether a compare value lies ahead of H (R257). -/
def FbPort.ahead (f : FbPort) (v : Int) : Bool := if f.cmpDir = 1 then decide (f.h < v) else decide (v < f.h)

/-- Note whether an update of H crosses CMP_NEXT in the armed direction (R258). -/
def FbPort.crossing (old new : FbPort) : FbPort :=
  if (new.cmpDir = 1 ∧ new.dec = false ∧ old.h < new.cmpNext ∧ new.cmpNext ≤ new.h) ∨
     (new.cmpDir = 2 ∧ new.dec = true ∧ new.cmpNext < old.h ∧ new.h ≤ new.cmpNext) then { new with crossed := true } else new

/-- The divided count ⌊H ÷ DIV⌋. -/
def State.divTarget (s : State) (m : Nat) : Int := (s.fbp m).h / ((s.rf .fbDivout m 15 0 : Nat) : Int)
/-- Put out the steps of the divided output that its spacing of 50 ns has allowed by now, each as soon as it may (R261). Time in which none was
outstanding counts for none. -/
def State.divCatch (s : State) (m : Nat) : State :=
  if s.rf .fbDivout m 17 16 = 1 then
    let f := s.fbp m
    let w := s.divTarget m - f.divState
    let k := if f.divFree ≤ 2 * s.lt then min w.natAbs ((2 * s.lt - f.divFree) / 25 + 1) else 0
    let s1 := s.setFbp m { f with divState := f.divState + signOf w * (k : Int), divFree := max (f.divFree + 25 * k) (2 * s.lt) }
    if k = 0 then s1 else s1.emit (.divider m (signOf w * (k : Int)))
  else s
/-- The divided output takes the present state without edges (R249, R261). -/
def State.divHere (s : State) (m : Nat) : State :=
  if s.rf .fbDivout m 17 16 = 1 then s.modFbp m (fun f => { f with divState := s.divTarget m }) else s

/-- After a change of P: hysteresis, compare and divided output (R245, R257, R260, R261). -/
def State.afterCount (s : State) (m : Nat) : State :=
  let s := s.divCatch m
  let f0 := s.fbp m
  let f1 := f0.hyst (s.fbPos m)
  let f2 := if f1.h = f0.h then f1
            else { f1 with cmpCfg := (s.reg .fbCmpCfg m).toNat, cmpSpacing := (s.reg .fbCmpSpacing m).toNat }
  (s.setFbp m (f0.crossing f2)).divCatch m

/-- Add `d` to the count with the sticky bits of R247, and fault with cause 6 where P leaves 32 bits (R232). -/
def State.addCount (s : State) (m : Nat) (d : Int) : State :=
  let f := s.fbp m
  let p' := s.fbPos m + d
  let out := decide (p' < -(2 ^ 31) ∨ 2 ^ 31 ≤ p')
  let w : Int := s.fbWrapLen m
  let f1 :=
    if s.fbWrapEn m then
      let t : Int := f.pos + d
      let r := f.rev + t / w
      { f with pos := (t % w).toNat, rev := signedOf 32 (wrapTo 32 r), rwrap := f.rwrap || t / w != 0,
               revOvf := f.revOvf || decide (r < -(2 ^ 31) ∨ 2 ^ 31 ≤ r) }
    else { f with count := wrapTo 32 (f.count + d), ovf := f.ovf || out }
  let s1 := s.setFbp m f1
  if out && s.rb .axisCfg (s.fedAxis m) 0 then s1.fbFault m 6 else s1

/-- A change of P by `d` counts from the encoder (R234, R246). -/
def State.countBy (s : State) (m : Nat) (d : Int) : State :=
  if d = 0 then s
  else ((s.addCount m d).modFbp m (fun f => { f with winCount := f.winCount + d })).afterCount m

/-- Put `p` into the count (R249): COUNT, or POS and REV. -/
def State.putCount (s : State) (m : Nat) (p : Int) : State :=
  let w : Int := s.fbWrapLen m
  s.modFbp m (fun f => if s.fbWrapEn m then { f with pos := (p % w).toNat, rev := p / w } else { f with count := wrapTo 32 p })

/-! ### Quadrature and interpolation -/

/-- Number of a quadrature state in the order of IDX_GATE (R265): both high, A only, neither, B only. -/
def quadState (a b : Bool) : Nat := match a, b with
  | true, true => 0
  | true, false => 1
  | false, false => 2
  | false, true => 3
/-- The quadrature state of a port. -/
def FbPort.quad (f : FbPort) : Nat := quadState f.lineA f.lineB

/-- Step from one quadrature state to the next: 1 or -1, 0 where no or both lines change. -/
def quadStep (q q' : Nat) : Int := if (q' + 4 - q) % 4 = 1 then 1 else if (q' + 4 - q) % 4 = 3 then -1 else 0

/-- Angle steps of 2^-16 period times 2^16, for the rotations by atan 2^-i. -/
def cordicAtan : List Int :=
  [536870912, 316933406, 167458907, 85004756, 42667331, 21354465, 10679838, 5340245, 2670163, 1335087, 667544, 333772, 166886,
   83443, 41722, 20861]
/-- Rotation of a vector in the right half plane towards the axis, summing the angle. -/
def cordicGo : List Int → Nat → Int → Int → Int → Int
  | [], _, _, _, z => z
  | t :: ts, i, x, y, z =>
    if 0 < y then cordicGo ts (i + 1) (x + y / 2 ^ i) (y - x / 2 ^ i) (z + t)
    else cordicGo ts (i + 1) (x - y / 2 ^ i) (y + x / 2 ^ i) (z - t)
/-- Angle of a sine and cosine pair within the signal period, in 2^-16 period (R239). -/
def sampleAngle (sn cs : Int) : Nat :=
  let k : Int := 2 ^ 20
  let z := if 0 ≤ cs then cordicGo cordicAtan 0 (cs * k) (sn * k) 0 else 2 ^ 31 + cordicGo cordicAtan 0 (-cs * k) (-sn * k) 0
  ((divRound z (2 ^ 16)) % (2 ^ 16 : Int)).toNat

/-- Corrections of FB[n]_SC_CORR to a sample in 0.01 mV (R239): offsets, gain of the cosine, and the phase in first order. -/
def State.corrected (s : State) (m : Nat) (sn cs : Int) : Int × Int :=
  let b (hi lo : Nat) := signedOf 8 (s.rf .fbScCorr m hi lo)
  let sn' := sn - 100 * b 7 0
  let cs' := divTrunc ((cs - 100 * b 15 8) * (512 + b 23 16)) 512
  (sn', cs' - divTrunc (sn' * b 31 24 * 355) (113 * 1800))

/-- INV_DIR as a sign. -/
def State.fbSign (s : State) (m : Nat) : Int := if s.rb .fbCfg m 5 then -1 else 1

/-- Counts of a coarse count with an angle within the signal period, in 2^-16 period (R239): the coarse count is corrected by one quadrant towards
the angle. -/
def State.fineOf (s : State) (m : Nat) (coarse : Int) (ang : Nat) : Int × Int :=
  let dq := ((ang / 16384 : Nat) - coarse) % 4
  let co := coarse + (if dq = 1 then 1 else if dq = 3 then -1 else 0)
  let sh := s.rf .fbCfg m 9 6
  (co, co / 4 * 2 ^ sh + ((ang * 2 ^ sh / 65536 : Nat) : Int))

/-- A sample of mode 2 (R239, R240): amplitude, angle, and the angle combined with the coarse count. -/
def State.interpolate (s : State) (m : Nat) (sn cs : Int) : State :=
  let c := s.corrected m sn cs
  let amp := isqrt (c.1 * c.1 + c.2 * c.2).toNat * 100 / 50000
  let bad := decide (amp < 40 ∨ 130 < amp)
  let ang := sampleAngle c.1 c.2
  let f := s.fbp m
  let s1 := s.setFbp m (let g := { f with ampl := min 255 amp, amplRun := if bad then f.amplRun + 1 else 0, sampleLt := s.lt, sampleAng := ang }
                        if bad then g else g.gone [1] s.lt)
  if ((ang / 16384 : Nat) - f.coarse) % 4 = 2 then s1.fbFault m 7
  else
    let r := s.fineOf m f.coarse ang
    (s1.modFbp m (fun g => { g with coarse := r.1, fine := r.2 }.gone [7] s.lt)).countBy m ((r.2 - f.fine) * s.fbSign m)

/-- An odd-numbered port in mode 2 is sampled 100 ns after B, and that sample latches P (R233, R238). -/
def State.lateLatch (s : State) (m : Nat) : State :=
  s.modFbp m (fun f => if f.latchDue then { f with latch := s.fbPos m, latchDue := false } else f)

/-- An illegal transition (R236): both lines change at once. -/
def State.fbIllegal (s : State) (m : Nat) : State :=
  when_ (s.fbMode m == 1 || s.fbMode m == 2) (fun s =>
    let f := s.fbp m
    let times := f.illTimes.filter (fun t => decide (s.lt < t + ms 20)) ++ [s.lt]
    let s1 := s.setFbp m { f with lineA := !f.lineA, lineB := !f.lineB, illCnt := satInc 65535 f.illCnt, illTimes := times, evIllegal := true }
    let s2 := if f.evIllegal then s1 else s1.raise 0x5010 m
    if s.rf .fbFilter m 23 16 < (times.filter (fun t => decide (s.lt < t + ms 10))).length then s2.fbFault m 3 else s2) s

def execFbIllegal (n : Fin 64) (s : State) : Host.Outcome State Fault Refusal := run s (fun s => s.fbIllegal n)

/-- The filtered lines take new levels (R234): one line changes by a count, or both, which is illegal (R236). -/
def State.fbLines (s : State) (m : Nat) (a b : Bool) : State :=
  let f := s.fbp m
  let d := quadStep f.quad (quadState a b)
  let mode := s.fbMode m
  if f.lineA != a && f.lineB != b && (mode == 1 || mode == 2) then s.fbIllegal m
  else
    let s1 := s.setFbp m { f with lineA := a, lineB := b }
    if mode = 1 then s1.countBy m (d * s.fbSign m)
    else if mode = 2 then s1.modFbp m (fun g => { g with coarse := g.coarse + d })
    else s1

/-- FB_COUNT (R234, R239): raw levels of A and B that have been held for `held` clocks and, in mode 2, the sample in 0.01 mV where one is taken. -/
def State.fbCount (s : State) (m : Nat) (a b : Bool) (held : Nat) (sample : Option (Int × Int)) : State :=
  let s1 := if s.rf .fbFilter m 3 0 ≤ held then s.fbLines m a b else s
  match sample with
  | some v => when_ (s.fbMode m == 2) (fun s => (s.interpolate m v.1 v.2).lateLatch m) s1
  | none => s1

/-- The line monitor of a differential pair (R237): it sees the pair broken for 1 us, or sound again. -/
def State.fbLine (s : State) (m : Nat) (broken : Bool) : State :=
  when_ (s.fbMode m != 0 && !s.rb .fbCfg m 2) (fun s =>
    if broken then s.fbFault m 2 else s.modFbp m (fun f => f.gone [2] s.lt)) s

def execFbLineBroken (n : Fin 64) (broken : Bool) (s : State) : Host.Outcome State Fault Refusal :=
  run s (fun s => s.fbLine n broken)

/-- Eight consecutive samples out of range fault the port (R240). -/
def execFbAmplitudeFault (n : Fin 64) (s : State) : Host.Outcome State Fault Refusal :=
  run s (fun s => when_ (s.fbMode n == 2 && decide (8 ≤ (s.fbp n).amplRun)) (fun s => s.fbFault n 1) s)

/-! ### SSI (R241 to R244) -/

/-- Gray code to binary, bit by bit from the most significant. -/
def grayGo : Nat → Nat → Nat → Nat
  | 0, _, acc => acc
  | k + 1, g, acc =>
    let b := b2n (g.testBit k) + acc % 2
    grayGo k g (acc * 2 + b % 2)
def grayDecode (bits g : Nat) : Nat := grayGo bits g 0

/-- Number of ones among the low bits. -/
def popCount (bits n : Nat) : Nat := (List.range bits).foldl (fun a i => a + b2n (n.testBit i)) 0

/-- The position value V of a frame (R243). -/
def State.ssiValue (s : State) (m frame : Nat) : Nat :=
  let bits := s.rf .fbSsi m 5 0; let pb := s.rf .fbSsi m 11 6
  let v := fieldOf frame (bits - 1) (bits - pb)
  if s.rb .fbSsi m 12 then grayDecode pb v else v

/-- Whether the difference of two frames is a jump (R244). -/
def State.ssiJump (s : State) (m : Nat) (d : Int) : Bool :=
  let j := (s.reg .fbSsiJump m).toNat
  j != 0 && decide (j * max 1 ((s.fbp m).ssiGap) < d.natAbs)

/-- An SSI frame (R243, R244): its SSI_BITS bits, and whether the data line was high at B and low after the last bit. -/
def State.ssiFrame (s : State) (m frame : Nat) (high low : Bool) : State :=
  when_ (s.fbMode m == 3) (fun s =>
    let f := s.fbp m
    let v := s.ssiValue m frame
    let diff : Int := match f.ssiV with
      | some w => signedOf (s.rf .fbSsi m 11 6) (wrapTo (s.rf .fbSsi m 11 6) ((v : Int) - (w : Int)))
      | none => 0
    let d := diff * s.fbSign m
    let jump := s.ssiJump m d
    let bad := !high || !low || (s.rb .fbSsi m 13 && popCount (s.rf .fbSsi m 5 0) frame % 2 == 1)
    if bad || jump then
      let s1 := s.setFbp m { f with ssiErr := f.ssiErr + 1, ssiHeld := true, evHeld := true }
      if f.ssiErr = 0 then s1.raise 0x5014 m else s1.fbFault m (if bad then 4 else 5)
    else
      let s1 := (s.setFbp m ({ f with ssiErr := 0, ssiHeld := false, ssiV := some v, ssiRaw := v, ssiGap := 0, sampleLt := s.lt }.gone [4, 5] s.lt)).countBy m d
      s1.modFbp m (fun g => { g with latch := s1.fbPos m })) s

/-- At a boundary B a port latches P (R233, R232), starts its first speed window (R250) and counts a cycle since its last
valid SSI frame (R244). -/
def State.fbLatch (s : State) (m : Nat) : State :=
  if s.fbMode m = 0 then s.modFbp m (fun f => { f with latch := s.fbPos m })
  else s.modFbp m (fun f => { f with latch := s.fbPos m, latchDue := decide (s.fbMode m = 2 ∧ m % 2 = 1),
                                     winStart := some (f.winStart.getD s.lt), winCount := if f.winStart.isNone then 0 else f.winCount,
                                     ssiGap := f.ssiGap + 1 })

/-! ### Speed (R250) -/

/-- End of a speed window. -/
def State.speedWindow (s : State) (m : Nat) : State :=
  match (s.fbp m).winStart with
  | none => s
  | some t =>
    let w := s.rf .fbSpeedWin m 16 0
    let s1 := s.passTo (t + us w)
    s1.modFbp m (fun f => { f with speed := divTrunc (f.winCount * 1000000) w, winStart := some (t + us w), winCount := 0 })

def execSpeedWindow (n : Fin 64) (s : State) : Host.Outcome State Fault Refusal := run s (fun s => s.speedWindow n)

/-! ### Index (R251 to R254) -/

/-- The nearest whole multiple, the lower on a tie: offset of `x` from REF_IDX + k × period. -/
def nearestIndex (ref period p : Int) : Int :=
  if period = 0 then ref else
    let k := (p - ref) / period
    let lo := ref + k * period
    if p - lo ≤ lo + period - p then lo else lo + period

/-- A recognised index; one in the clock of a PSET is recorded but not checked (R249). -/
def State.fbIndex (s : State) (m : Nat) : State :=
  let f := s.fbp m
  when_ (s.rb .fbCfg m 4 && f.quad == s.rf .fbIdx m 9 8 && (s.fbMode m == 1 || s.fbMode m == 2)) (fun s =>
    let p := s.fbPos m
    let s1 := s.setFbp m { f with idxPos := p }
    let n := s.fedAxis m
    if !(s.axis n).referenced || f.psetAt == some s.lt then s1
    else match f.refIdx with
      | none => s1.modFbp m (fun g => { g with refIdx := some p })
      | some r =>
        let x := nearestIndex r ((s.reg .fbIdxPeriod m).toNat : Int) p
        let d := p - x
        if d.natAbs ≤ s.rf .fbIdx m 7 0 then
          if d = 0 then s1
          else ((s1.modFbp m (fun g => { g with idxSlip := satInc 65535 g.idxSlip, idxD := clampInt (-127) 127 d })).raise 0x5011 m
                 (leInt 1 (clampInt (-127) 127 d))).addCount m (-d) |>.afterCount m
        else
          (((s1.modFbp m (fun g => { g with idxFault := true, idxD := clampInt (-127) 127 d })).raise 0x5012 m
              (leInt 4 p ++ leInt 4 x)).loseReference n).modPortal (n / 4)
                (fun q => { q with unreferenced := true })) s

def execFbIndex (n : Fin 64) (s : State) : Host.Outcome State Fault Refusal := run s (fun s => s.fbIndex n)

/-! ### Compare (R257 to R260) -/

/-- Emit one compare pulse of CMP_W clocks unless one is running; true where it left. -/
def State.cmpPulse (s : State) (m : Nat) : State × Bool :=
  let f := s.fbp m
  if f.cmpPulseEnd.any (fun t => decide (s.lt < t)) then (s, false)
  else
    let s1 := s.setFbp m { f with cmpPulseEnd := some (s.lt + divCeil (fieldOf f.cmpCfg 11 4 * 5) 4) }
    (if s.rf .fbDivout m 17 16 = 2 then s1.emit (.compare m) else s1, true)

/-- Disarm: CMP_DIR takes 0 (R258). A write that waits for the next update of H stands. -/
def State.cmpDisarm (s : State) (m : Nat) : State :=
  let f := s.fbp m
  let s1 := s.setFbp m { f with cmpCfg := f.cmpCfg - fieldOf f.cmpCfg 1 0, crossed := false }
  if (s.reg .fbCmpCfg m).toNat = f.cmpCfg then s1.setReg .fbCmpCfg m 0 (setFld (s.reg .fbCmpCfg m) 1 0 0) else s1

/-- How many spacings bring a behind value ahead: the smallest whole number (R259). -/
def spacingsAhead (f : FbPort) (v : Int) (sp : Nat) : Nat := ((if f.cmpDir = 1 then f.h - v else v - f.h).toNat) / sp + 1

/-- Advance CMP_NEXT by `k` spacings from `v` in the armed direction, one after the other: each further position passed counts as skipped, and an
advance that would leave 32 bits disarms (R258, R259). -/
def State.cmpAdvance (s : State) (m : Nat) (v : Int) (k sp : Nat) : State :=
  let f := s.fbp m
  let up := decide (f.cmpDir = 1)
  let room := (if up then 2 ^ 31 - 1 - v else v + 2 ^ 31).toNat / sp
  let d : Int := (min k room * sp : Nat)
  let s1 := s.setFbp m { f with cmpNext := if up then v + d else v - d, cmpSkip := (f.cmpSkip + min (k - 1) room) % 65536, crossed := false,
                                behind := false }
  if k ≤ room then s1 else s1.cmpDisarm m

/-- A hit (R258). -/
def State.cmpHit (s : State) (m : Nat) : State :=
  when_ (s.fbp m).crossed (fun s =>
    let r := s.cmpPulse m
    let f := r.1.fbp m
    let s1 := r.1.setFbp m { f with cmpHits := (f.cmpHits + b2n r.2) % 65536, cmpSkip := (f.cmpSkip + b2n (!r.2)) % 65536,
                                    behind := false, crossed := false }
    if f.cmpSpacing = 0 then s1.cmpDisarm m
    else s1.cmpAdvance m f.cmpNext (spacingsAhead f f.cmpNext f.cmpSpacing) f.cmpSpacing) s

def execCompareHit (n : Fin 64) (s : State) : Host.Outcome State Fault Refusal := run s (fun s => s.cmpHit n)

/-- CMP_POS takes a value (R257, R259); `pulse` is false where a PSET applies the rule (R249). -/
def State.cmpPos (s : State) (m : Nat) (v : Int) (pulse : Bool) : State :=
  let f := { s.fbp m with cmpNext := v, behind := false, crossed := false }
  let s1 := s.setFbp m f
  if f.cmpDir = 0 ∨ f.ahead v then s1
  else if fieldOf f.cmpCfg 2 2 = 0 then s1.setFbp m { f with behind := true }
  else
    let r := if pulse then s1.cmpPulse m else (s1, false)
    let g := r.1.fbp m
    let s2 := r.1.setFbp m { g with cmpHits := (g.cmpHits + 1) % 65536 }
    if g.cmpSpacing = 0 then s2.cmpDisarm m else s2.cmpAdvance m v (spacingsAhead g v g.cmpSpacing) g.cmpSpacing

/-- What a write of FB[n]_CMP_CFG does at once (R260): CMP_DIR 0 disarms; the rest waits for the next update of H. -/
def State.cmpCfgWritten (s : State) (m : Nat) (v : Word) : State :=
  if fld v 1 0 = 0 then s.modFbp m (fun f => { f with cmpCfg := f.cmpCfg - fieldOf f.cmpCfg 1 0, crossed := false }) else s

/-- More than 255 steps of the divided output are outstanding (R261): it takes the divided count's state at once. -/
def State.divLag (s : State) (m : Nat) : State :=
  let s := s.divCatch m
  when_ (s.rf .fbDivout m 17 16 == 1 && decide (255 < (s.divTarget m - (s.fbp m).divState).natAbs)) (fun s =>
    (s.modFbp m (fun f => { f with divState := s.divTarget m, evDivLag := true })).raise 0x5015 m) s

def execFbDivLag (n : Fin 64) (s : State) : Host.Outcome State Fault Refusal := run s (fun s => s.divLag n)

/-! ### Writes that change the count -/

/-- A write that changes MODE (R232). What the old mode alone could show has ended (R263). The coarse count takes the comparator quadrant (R239,
log entry 91). -/
def State.fbModeSet (s : State) (m : Nat) : State :=
  s.modFbp m (fun f => { f with count := 0, pos := 0, rev := 0, h := 0, dec := false, ovf := false, rwrap := false,
                                revOvf := false, winStart := none, winCount := 0, ssiV := none, ssiErr := 0,
                                ssiHeld := false, coarse := f.quad, fine := 0, amplRun := 0, crossed := false, prbWait := [] }.gone [1, 4, 5, 7] s.lt)

/-- A PSET (R249). -/
def State.fbPset (s : State) (m : Nat) (p : Int) : State :=
  let s1 := (s.putCount m p).modFbp m (fun f => { f with h := p, crossed := false, psetAt := some s.lt })
  (s1.divHere m).cmpPos m (s.rs .fbCmpPos m) false

/-- Homing assigns HOME_POS to the reference point (R214): the count, the set-point and REFERENCED. `ref` is the feedback
position at that point in the coordinates before; `keep` keeps the set-point's speed and acceleration. -/
def State.homed (s : State) (n : Nat) (ref : Int) (keep : Bool) : State :=
  let p := s.homingPos n
  let s1 := match s.fbOf n with
    | some m => (s.fbPset m (p + (s.fbPos m - ref))).modFbp m (fun f => { f with refIdx := none, idxFault := false,
                                                                                 latch := p + (f.latch - ref) })
    | none => s
  let q := s1.latchOf n
  (s1.modAxis n (fun x => { x with pos := q * 2 ^ 32, vel := if keep then x.vel else 0, acc := if keep then x.acc else 0,
                                   referenced := true, homeFound := true, homeSince := none,
                                   stepPos := divRound (q * (s.rf .axisStepCfg n 23 0 : Int)) (2 ^ 16) })).raise 0x5003 n

/-- The move to TGT_CLOSED at the creep speed that ends homing (R213). -/
def State.homeMove (s : State) (n : Nat) : State :=
  (s.modAxis n (fun x => { x with queue := [plainSeg (s.rs .axisTgtClosed n)] })).planAxis n (plainSeg (s.rs .axisTgtClosed n))

/-- The home input first becomes active under HOME_MODE 1 (R216). -/
def State.homeReference (s : State) (n : Nat) : State :=
  let x := s.axis n
  when_ (x.mode == .homing && s.rf .axisCfg n 4 3 == 1 && !x.homeFound && s.input (s.homeCode n) false) (fun s =>
    (s.homed n (s.latchOf n) true).homeMove n) s

def execHomeReferenceFound (n : Fin 64) (s : State) : Host.Outcome State Fault Refusal := run s (fun s => s.homeReference n)

/-- The stop condition of HOME_MODE 0 has lasted HOME_DWELL (R215). -/
def State.homeDwell (s : State) (n : Nat) : State :=
  let x := s.axis n
  match x.homeSince with
  | none => s
  | some t =>
    let s1 := s.passTo (t + ms (s.rf .axisHome n 31 24))
    (s1.homed n x.homeRef false).homeMove n

def execHomeDwellElapsed (n : Fin 64) (s : State) : Host.Outcome State Fault Refusal := run s (fun s => s.homeDwell n)

end Sys2Proof.Machine
end

