-- ==== Sys2Proof/Machine/Observer.lean ====
section
/-!
DEFINITION. Sys2Proof/Machine/Observer.lean: the obstacle observers (R142 to R178): force estimate, envelope, trips and the
stop rule, sensitive edges, learning, commissioning, drift, injection, signatures and the storage of tables. Forces F are in
1/256 N, table entries and envelopes in 1/16 N; -32768 is the mark 0x8000 for no force.
-/
namespace Sys2Proof.Machine
open Sys2Proof

/-- The mark 0x8000 (R144). -/
def noForce : Int := -32768
/-- A force of 1/256 N as reported: nearest 1/16 N, saturating short of 0x8000 (R144). -/
def force16 (f : Int) : Int := clampInt (-32767) 32767 (divRound f 16)

/-- Position coefficient p of R143: -1 where POS_DIR is 1. -/
def State.posDir (s : State) (n : Nat) : Int := if s.rb .obsCfg n 9 then -1 else 1
/-- Distance s from the closed end in counts (R145). -/
def State.fromClosed (s : State) (n : Nat) (x : Int) : Int := s.posDir n * (x - s.rs .obsXclosed n)
/-- Bin of a position (R145). -/
def State.binOf (s : State) (n : Nat) (x : Int) : Nat :=
  (clampInt 0 255 (s.fromClosed n x * 256 / ((s.reg .obsStroke n).toNat : Int))).toNat

/-- Point `i` of a friction map (R146). -/
def State.fricPoint (s : State) (n : Nat) (closing : Bool) (i : Nat) : Int :=
  let w := s.reg (if closing then .obsFricC else .obsFricO) n (i / 2)
  signedOf 16 (if i % 2 = 0 then fld w 15 0 else fld w 31 16)
/-- FRIC(d, b) in 1/16 N (R146). -/
def State.fric (s : State) (n : Nat) (closing : Bool) (b : Nat) : Int :=
  let i := b / 17; let r := b % 17
  if r = 0 then s.fricPoint n closing i
  else divTrunc (s.fricPoint n closing i * 17 + (s.fricPoint n closing (i + 1) - s.fricPoint n closing i) * r) 17

/-- An entry of the learned reference (R147). -/
def Observer.ref (o : Observer) (closing : Bool) (b : Nat) : Int := Table.get 0 (if closing then o.refC else o.refO) b
/-- An entry of the commissioning table. -/
def Observer.com (o : Observer) (closing : Bool) (b : Nat) : Int := Table.get 0 (if closing then o.comC else o.comO) b
/-- Put an entry into the learned reference. -/
def Observer.setRef (o : Observer) (closing : Bool) (b : Nat) (v : Int) : Observer :=
  if closing then { o with refC := Table.set 0 o.refC b v } else { o with refO := Table.set 0 o.refO b v }
/-- CEIL_PEAK in 1/16 N. -/
def State.ceilPeak (s : State) (n : Nat) : Int := 16 * (s.rf .obsCeil n 11 0 : Nat)
/-- Margin at a reference value, in 1/16 N (R144, R147). -/
def State.margin (s : State) (n : Nat) (r : Int) : Int :=
  16 * (s.rf .obsMargin n 9 0 : Nat) + divRound ((s.rf .obsMargin n 22 16 : Nat) * (r.natAbs : Int)) 100

/-- The envelope E(d, b) in 1/16 N (R147). An entry without a force leaves CEIL_PEAK (log entry 86). -/
def State.envelope (s : State) (n : Nat) (closing : Bool) (b : Nat) : Int :=
  let o := s.ob n
  let r := o.ref closing b
  if o.ceilOnly || !(s.axis n).referenced || o.commLeft != 0 || r == noForce then s.ceilPeak n
  else
    min (s.ceilPeak n)
      (r + s.margin n r + (if b < s.rf .obsZone n 7 0 then 16 * (s.rf .obsMargin n 31 24 : Nat) else 0)
        + (if (s.portal (n / 4)).coldLeft != 0 then 16 * (s.rf .obsZone n 15 8 : Nat) else 0)
        + (if s.rb .obsCfg n 7 then o.bias else 0))

/-- Set a bit of the cycle flags of a portal: bits 0 to 6 of R135, 8 for an exclusion of R163 that no flag shows, 9 for
those that commissioning does not mind (R166). -/
def State.flag (s : State) (p b : Nat) : State := s.modPortal p (fun q => { q with flags := q.flags ||| 2 ^ b })

/-! ### Strokes (R148, R150) -/

/-- An axis that runs a profile outside homing, whether or not its observer is in use: the cold allowance of its portal is judged (R148). -/
def State.noteRun (s : State) (n : Nat) : State :=
  let p := n / 4
  let x := s.axis n
  if (x.mode == .executing || x.mode == .emergency) && x.plan.isSome && (s.portal p).st != .referencing then
    let idle := match (s.portal p).lastRun with
      | none => true
      | some t => decide (t + sec (60 * s.rf .obsZone (4 * p) 27 20) ≤ s.lt)
    s.modPortal p (fun q => { q with lastRun := some s.lt, coldLeft := if idle then s.rf .obsZone (4 * p) 19 16 else q.coldLeft })
  else s

/-- A stroke begins: estimate, runs and BIAS start afresh, and an armed injection applies to it where it closes (R172). -/
def State.beginStroke (s : State) (n : Nat) (closing : Bool) : State :=
  s.modOb n (fun o => { o with injStroke := o.injArmed && closing, stroke := true, strokeClosing := closing, strokeStart := s.time.bLt, strokeGoal := none, strokeAcc := [],
                                strokeSpeed := [], strokePeak := 0, strokePeakBin := 0, tripped := false, first := true, xs := [],
                                vs := [], effs := [], run := 0, trace := [], bias := 0, biasSum := 0, biasN := 0, biasBins := 0,
                                biasLastBin := 256, biasHeld := false, biasLimit := false, stopHeld := false })

/-- Add a sample to a bin. -/
def addBin (t : Table BinAcc) (b : Nat) (v : Int) : Table BinAcc := Table.modify {} t b (fun a => { sum := a.sum + v, n := a.n + 1 })
/-- Add one table of bins to another, each entry less `bias` per sample. -/
def mergeBins (t u : Table BinAcc) (bias : Int) : Table BinAcc :=
  u.foldl (fun a e => Table.modify {} a e.1 (fun x => { sum := x.sum + e.2.sum - bias * e.2.n, n := x.n + e.2.n })) t

/-- Whether a bin of a stroke is a near miss (R163), on the mean of R161. -/
def State.nearMiss (s : State) (n : Nat) (closing : Bool) (e : Nat × BinAcc) : Bool :=
  let r := (s.ob n).ref closing e.1
  decide (2 ≤ e.2.n ∧ r ≠ noForce ∧
    16 * (e.2.n : Int) * (1600 * (s.rf .obsMargin n 9 0 : Nat) + (s.rf .obsMargin n 22 16 : Nat) * (r.natAbs : Int))
      < (e.2.sum - 16 * e.2.n * ((s.ob n).bias + r)) * 200)

/-- Take the data of a closing stroke for the signature (R173): the first one that tripped, else the last. -/
def Observer.capture (o : Observer) (now : Ticks) : Observer :=
  if o.sigTrip then o
  else { o with sigMade := true, sigTrip := o.tripped, sigAcc := o.strokeAcc, sigSpeed := o.strokeSpeed, sigPeak := o.strokePeak,
                sigPeakBin := o.strokePeakBin, sigMs := min 65534 ((now - o.strokeStart) / ticksPerMs), sigBias := o.bias,
                sigTrace := o.tripTrace, sigCause := if o.tripped then o.tripCause else 0, sigTripBin := o.tripBin, sigTripPos := o.tripPos,
                sigTripForce := o.tripForce, sigTripEnv := o.tripEnv, sigReact := o.reactT }

/-- The injection of a stroke completes (R172): whether the axis tripped, and REACT_T. -/
def State.injectDone (s : State) (n : Nat) (hit : Bool) : State :=
  let o := s.ob n
  (s.setOb n { o with injArmed := false, injUsed := false, injStroke := false, injCycle := false }).raise 0x4016 n
    (leBytes 1 (b2n hit) ++ leBytes 2 (if hit then o.reactT else 0))

/-- A stroke ends at rest (R150). A completed one counts for learning; every one is judged for near misses. -/
def State.endStroke (s : State) (n : Nat) (completed : Bool) : State :=
  let o := s.ob n
  let cl := o.strokeClosing
  let miss := o.strokeAcc.any (s.nearMiss n cl)
  let lim := s.rb .obsCfg n 7 && o.biasLimit
  let b := 16 * o.bias
  let o1 := { o with stroke := false,
                     learnC := if completed && cl then mergeBins o.learnC o.strokeAcc b else o.learnC,
                     learnO := if completed && !cl then mergeBins o.learnO o.strokeAcc b else o.learnO,
                     doneC := o.doneC || (completed && cl), doneO := o.doneO || (completed && !cl) }
  let o2 := if cl then o1.capture s.lt else { o1 with sigOpen := o.strokeAcc }
  let s1 := s.setOb n o2
  let s2 := if miss then s1.flag (n / 4) 9 else s1
  let s3 := if lim then s2.flag (n / 4) 8 else s2
  if o.injUsed then s3.injectDone n false else s3

/-! ### Trips -/

/-- Target a leaf reopens to (R736): TGT_CLOSED + q/100 of the stroke, a fraction rounded towards TGT_OPEN. -/
def State.reopenTarget (s : State) (n : Nat) : Int :=
  let p := n / 4
  let q : Int := if (s.portal p).forced then (s.rf .portalReopen p 30 24 : Nat) else (s.rf .portalReopen p 22 16 : Nat)
  let c := s.rs .axisTgtClosed n; let o := s.rs .axisTgtOpen n
  let m := q * (o - c).natAbs
  let k := (m + 99) / 100
  if c ≤ o then c + k else c - k

/-- Histogram bin of a reaction time in 5 ns counts (R582). -/
def reactBin (t : Nat) : Nat := 310 + min 9 (t / 2000)

/-- A trip of cause `c` at bin `b` (R151, R153 to R157): it latches, records its event and starts emergency deceleration.
`pos` is TRIP_POS, `env` the envelope, `react` the reaction time in 5 ns counts. -/
def State.trip (s : State) (n c : Nat) (pos env : Int) (react : Nat) : State :=
  let o := s.ob n
  let cl := o.strokeClosing
  let p := n / 4
  let leafClosing := decide (n % 4 < 2) && cl
  let f := force16 o.fEst
  let r := min 65535 react
  let e := clampInt (-32767) 32767 env
  let stops := o.stops + b2n (!leafClosing)
  let s1 := s.setOb n { o with tripped := true, tripPos := pos, tripForce := f, tripEnv := e, tripBin := o.bin, tripCause := c,
                               reactT := r, stops := stops, tripTrace := o.trace }
  let code := if c = 4 then 0x4003 else if leafClosing then 0x4001 else 0x4002
  let s2 := s1.raise code n (leBytes 1 c ++ leBytes 1 o.bin ++ leInt 2 f ++ leInt 2 e ++ s1.sinceTt o.crossTt)
  let s2 := if o.injUsed then s2.injectDone n true else s2
  let s3 := ((s2.count n).count (reactBin r)).flag p 0
  let s4 := if c = 4 then s3.flag p 2 else s3
  if leafClosing then
    ((s4.modPortal p (fun q => { q with tripSeen := true })).modAxis n (fun x => { x with emgTarget := s4.reopenTarget n })).emergencyStop n
      .tripReopen
  else
    let s5 := s4.emergencyStop n .tripStop
    if s.rf .portalReopen p 3 0 ≤ stops then s5.raise 0x4004 n else s5

/-- Whether a sensitive edge is active (R156). -/
def State.edgeActive (s : State) (n : Nat) : Bool :=
  match s.rf .obsEdge n 1 0 with
  | 1 => match s.fbOf n with
    | some m => (s.fbp m).prbLevel != s.rb .obsEdge n 2
    | none => false
  | 2 => s.filtered (s.rf .obsEdge n 15 8)
  | _ => false

/-- Whether detection is armed in a direction (R150). -/
def State.detects (s : State) (n : Nat) (closing : Bool) : Bool :=
  s.rb .obsCfg n 0 && s.rb .obsCfg n (if closing then 1 else 2) && (s.axis n).mode == .executing
    && !(s.portal (n / 4)).reclosing.isSome

/-! ### The sample (R142 to R152) -/

/-- Element `i` of a history kept newest first; beyond its end, the oldest (R143). -/
def histAt (l : List Int) (i : Nat) : Int := (l[i]?).getD (l.getLast?.getD 0)

/-- F_raw in 1/256 N of a sample (R143), from the histories that include it. -/
def State.fRaw (s : State) (n : Nat) (closing : Bool) (b : Nat) (vs : List Int) : Int :=
  let x := s.axis n
  let w : Nat := 2 ^ s.rf .obsModel1 n 19 16
  let d : Int := if closing then -1 else 1
  let w2 : Int := (w * w : Nat)
  let mass : Int := (s.rf .obsModel0 n 31 16 : Nat)
  let lpc : Int := (s.reg .obsLpc n).toNat
  let drv := d * x.current * (s.rf .obsModel0 n 15 0 : Nat) * (2 ^ 32 * 10 ^ 14 * w2)
  let acc := if s.rb .obsCfg n 4 then mass * x.acc * lpc * d * s.posDir n * (2 ^ 16 * 10 * w2)
             else mass * (histAt vs 0 - histAt vs w) * (2 ^ 48 * 16000000000)
  let visc := (s.rf .obsModel1 n 15 0 : Nat) * histAt vs 0 * (2 ^ 48 * 400000 * w)
  let fr := s.fric n closing b * (2 ^ 44 * 10 ^ 14 * w2)
  divRound (256 * (drv - acc - visc - fr)) (2 ^ 48 * 10 ^ 14 * w2)

/-- BIAS after a sample (R149). -/
def State.biasStep (s : State) (n : Nat) (o : Observer) (b : Nat) : Observer :=
  let past := match (s.axis n).plan with
    | some q => !q.accelerating
    | none => true
  if !s.rb .obsCfg n 7 || o.biasHeld || !past then o
  else
    let o1 := if b = o.biasLastBin then o else { o with biasBins := o.biasBins + 1, biasLastBin := b }
    if s.rf .obsBias n 15 8 < o1.biasBins then
      let m : Int := 16 * (s.rf .obsBias n 7 0 : Nat)
      let v := clampInt (-m) m (divRound o.biasSum (16 * max 1 (o.biasN : Int)))
      { o1 with bias := v, biasHeld := true, biasLimit := decide (v.natAbs = m.natAbs) }
    else { o1 with biasSum := o.biasSum + o.fEst - 16 * o.ref o.strokeClosing b, biasN := o.biasN + 1 }

/-- The target at which the present stroke would be completed (R150): the last of those queued in its direction. -/
def Axis.strokeGoal (x : Axis) : Option Int := match x.queue with
  | [] => x.plan.bind (·.target)
  | g :: gs => ((g :: sameDir x.heading g.tgt gs).getLast?).map (·.tgt)

/-- Whether the stroke before a new one ended at its target without a trip (R150): the plan in force starts there. -/
def State.strokeDone (s : State) (n : Nat) : Bool :=
  let o := s.ob n
  !o.tripped && (s.axis n).plan.any (fun q => o.strokeGoal.any (fun t => t * 2 ^ 32 == q.p0))

/-- The sample of the boundary before this one (R142): its position is still in LATCH and its current has come back. A stroke ends at
standstill and where the direction changes (R150). -/
def State.obSample (s : State) (n : Nat) : State :=
  let x := s.axis n
  let cl := s.runsClosing n
  let s0 := if (s.ob n).stroke && (s.ob n).strokeClosing == cl && !x.rested then s
            else ((if (s.ob n).stroke then s.endStroke n (s.strokeDone n) else s).beginStroke n cl).modAxis n (fun x => { x with rested := false })
  let o := s0.ob n
  let w : Nat := 2 ^ s.rf .obsModel1 n 19 16
  let d : Int := if cl then -1 else 1
  let pos := s.latchOf n
  let xs := (pos :: o.xs).take (w + 1)
  let vn := d * (pos - histAt xs w) * (s.reg .obsLpc n).toNat * s.posDir n
  let vs := (vn :: o.vs).take (w + 1)
  let b := s.binOf n pos
  let inj := o.injStroke && cl && b == o.injBin
  let raw := s.fRaw n cl b vs + (if inj then 256 * (o.injForce : Int) else 0)
  let lpf : Int := 2 ^ s.rf .obsModel1 n 22 20
  let f := if o.first then raw else divRound (o.fEst * lpf + raw - o.fEst) lpf
  let effLen := 2 ^ s.rf .obsCeil n 15 12
  let held := x.heldReply || (s.fbOf n).any (fun m => (s.fbp m).ssiHeld)
  let peakNew := decide (o.strokeAcc = [] ∨ o.strokePeak < f)
  let o1 := s.biasStep n { o with
      first := false, xs := xs, vs := vs, fEst := f, bin := b, effs := (f :: o.effs).take effLen, trace := (force16 f :: o.trace).take 32,
      strokeAcc := addBin o.strokeAcc b f, strokeSpeed := addBin o.strokeSpeed (b / 4) vn,
      strokePeak := if peakNew then f else o.strokePeak, strokePeakBin := if peakNew then b else o.strokePeakBin,
      strokeGoal := if x.mode = .emergency then none else x.strokeGoal, injUsed := o.injUsed || inj } b
  let s1 := (s0.setOb n o1).modPortal (n / 4) (fun q => { q with peakA := if cl && n % 4 == 0 then max q.peakA f else q.peakA,
                                                                 peakB := if cl && n % 4 == 1 then max q.peakB f else q.peakB,
                                                                 flags := if inj then q.flags ||| 2 ^ 8 else q.flags })
  let e := s1.envelope n cl b
  let arm := s1.detects n cl
  let above := decide (16 * e < f)
  let run := if held then o1.run else if arm && above then o1.run + 1 else 0
  let o2 := { o1 with env := clampInt (-32767) 32767 e, armed := arm, run := run, crossTt := if run = 1 ∧ !held then s.time.bTt else o1.crossTt,
                      crossLt := if run = 1 ∧ !held then s.time.bLt else o1.crossLt }
  let s2 := s1.setOb n o2
  if !arm || o2.tripped then s2
  else
    let edge := cl && s2.edgeActive n
    let eff := decide ((s.rf .obsCeil n 27 16 : Nat) * 256 * (effLen : Int) < o2.effs.foldl (· + ·) 0)
    let conf := !held && above && decide (max 1 (s.rf .obsCfg n 6 5) ≤ run)
    let one (c : Nat) (p : Int) : State :=
      let s3 := s2.modOb n (fun q => { q with crossTt := s.time.bTt, crossLt := s.time.bLt })
      s3.trip n c p e ((s.frameLt - s.time.bLt) * 4 / 5)
    if edge then
      let p := if s.rf .obsEdge n 1 0 = 1 then o2.edgeLatch.getD pos else pos
      one 4 p
    else if conf then s2.trip n (if e = s.ceilPeak n then 2 else 1) pos e ((s.frameLt - o2.crossLt) * 4 / 5)
    else if eff then one 3 pos
    else s2

/-- One observer in one motion cycle: a sample while its axis runs a profile, an emergency deceleration (R202) or a homing motion (R213); else
a stroke that was running ends. Detection is not armed in the last two (R150, log entry 85). -/
def State.obCycle (s : State) (n : Nat) : State :=
  if !s.rb .obsCfg n 0 then s
  else
    let x := s.axis n
    if (x.mode == .executing || x.mode == .emergency || x.mode == .homing) && x.plan.isSome then s.obSample n
    else
      let o := s.ob n
      if o.stroke then s.endStroke n (!o.tripped && x.mode == .holding && o.strokeGoal.any (fun t => t * 2 ^ 32 == x.pos)) else s

/-- A probe edge at the input of the port that feeds an axis (R255, R156, R160): the position latched at the edge is handed to
the observer, and an active sensitive edge trips it at once while closing detection is armed. -/
def State.edgeTrip (s : State) (n : Nat) (pos : Int) : State :=
  let s1 := s.modOb n (fun o => { o with edgeLatch := some pos })
  let o := s1.ob n
  if s.rf .obsEdge n 1 0 = 1 ∧ s1.edgeActive n ∧ o.stroke ∧ o.strokeClosing ∧ !o.tripped ∧ s1.detects n true then
    (s1.modOb n (fun q => { q with crossTt := s.tt, crossLt := s.lt })).trip n 4 pos o.env ((s.time.motionNext - s.tt) / 5)
  else s1

/-- An accepted latch of port `m` at position `p` and instant `lt` (R255): the registers take it where none is unread, and the observer has it. -/
def State.probeLatch (s : State) (m : Nat) (p : Int) (lt : Ticks) : State :=
  let f := s.fbp m
  let s1 := s.setFbp m (if f.prbValid then { f with evPrbOvr := true }
                        else { f with prbValid := true, prbPos := p, prbLt := (lt - s.time.ltBase) % 2 ^ 32 })
  s1.edgeTrip (s.fedAxis m) p

/-- PROBE_EDGE (R255): the input of port `m` goes to `level` and holds it for `held` clocks. In modes 2 and 3 the latch waits for the sample or
frame after the edge (R256). -/
def State.probeEdge (s : State) (m : Nat) (level : Bool) (held : Nat) : State :=
  let f := s.fbp m
  when_ (s.rb .fbFilter m 14 && decide (s.rf .fbFilter m 11 4 ≤ held) && level != f.prbLevel) (fun s =>
    let e := s.rf .fbFilter m 13 12
    let s1 := s.setFbp m { f with prbLevel := level }
    if (level ∧ e = 1) ∨ (!level ∧ e = 0) then s1
    else if s.fbMode m = 2 ∨ s.fbMode m = 3 then
      (s1.modFbp m (fun f => { f with prbWait := f.prbWait ++ [⟨s.lt, f.coarse⟩] })).modOb (s.fedAxis m) (fun o => { o with edgeLatch := none })
    else s1.probeLatch m (s.fbPos m) s.lt) s

def execProbeEdge (n : Fin 64) (level : Bool) (held : Nat) (s : State) : Host.Outcome State Fault Refusal :=
  run s (fun s => s.probeEdge n level held)

/-- Part `(lt - t0) / (t1 - t0)` of a difference, to the nearest whole. -/
def partOf (d : Int) (lt t0 t1 : Ticks) : Int := divRound (d * ((lt - t0 : Nat) : Int)) (max 1 (t1 - t0 : Nat))

/-- Position of a port at a probe edge between its sample or frame in `old` and its present one (R256): in mode 2 the coarse count at the edge with
the angle between the two, in mode 3 P between the two frames. -/
def State.probeP (s old : State) (m : Nat) (w : ProbeWait) : Int :=
  let a := old.fbp m; let b := s.fbp m
  if s.fbMode m = 2 then
    let d := signedOf 16 (wrapTo 16 ((b.sampleAng : Int) - (a.sampleAng : Int)))
    let ang := ((a.sampleAng : Int) + partOf d w.lt a.sampleLt b.sampleLt) % 65536
    s.fbPos m - (b.fine - (s.fineOf m w.coarse ang.toNat).2) * s.fbSign m
  else old.fbPos m + partOf (s.fbPos m - old.fbPos m) w.lt a.sampleLt b.sampleLt

/-- The probe latches that waited for the sample or frame that has come since `old` (R256). -/
def State.probeDue (s old : State) (m : Nat) : State :=
  if (s.fbp m).prbWait = [] ∨ (s.fbp m).sampleLt = (old.fbp m).sampleLt then s
  else forEach (s.fbp m).prbWait (fun s' w => s'.probeLatch m (s.probeP old m w) w.lt) (s.modFbp m (fun f => { f with prbWait := [] }))

def execFbCount (n : Fin 64) (a b : Bool) (held : Nat) (sample : Option (Int × Int)) (s : State) : Host.Outcome State Fault Refusal :=
  run s (fun s => (s.fbCount n a b held sample).probeDue s n)
def execSsiFrame (n : Fin 64) (frame : Nat) (high low : Bool) (s : State) : Host.Outcome State Fault Refusal :=
  run s (fun s => (s.ssiFrame n frame high low).probeDue s n)

/-! ### Stop rule (R154) -/

/-- OBST_WAIT has passed: the profile resumes towards the original target, unless the stops have reached MAX_REOPEN. -/
def State.stopResume (s : State) (n : Nat) : State :=
  let o := s.ob n
  when_ (o.stopHeld && (s.axis n).mode == .relief && decide (o.stops < s.rf .portalReopen (n / 4) 3 0)) (fun s =>
    let s1 := s.passTo (o.stopAt + ms (s.rf .portalTDwell (n / 4) 31 16))
    ((s1.modOb n (fun o => { o with stopHeld := false })).modAxis n (fun x => { x with mode := .holding })).replaceSeg n
      (plainSeg (s.axis n).origTarget)) s

def execObsStopResume (n : Fin 64) (s : State) : Host.Outcome State Fault Refusal := run s (fun s => s.stopResume n)

/-- A new action moves an axis (R154): its stops are counted afresh. -/
def State.clearStops (s : State) (n : Nat) : State := s.modOb n (fun o => { o with stops := 0, stopHeld := false })

/-! ### Tables in MRAM (R176): per observer 5 KiB; copies 0 and 1 of the reference, then of the commissioning tables -/

/-- A table pair as bytes: closing bins, then opening bins. -/
def tableBytes (c o : Table Int) : List Byte :=
  (List.range 256).flatMap (fun b => leInt 2 (Table.get 0 c b)) ++ (List.range 256).flatMap (fun b => leInt 2 (Table.get 0 o b))
/-- A table from its bytes. -/
def tableFrom (bs : List Byte) (off : Nat) : Table Int :=
  (List.range 256).foldl (fun t b => Table.set 0 t b (signedOf 16 (leAt bs (off + 2 * b) 2))) []
/-- A table that holds 0x8000 in every bin. -/
def noTable : Table Int := (List.range 256).map (fun b => (b, noForce))
/-- Address of copy `c` of table pair `k` (0 reference, 1 commissioning) of an observer. -/
def tableAddr (n k c : Nat) : Nat := 0x01F40000 + 5120 * n + 2560 * k + 1280 * c
/-- Generation of a stored copy whose CRC passes. -/
def State.copyGen (s : State) (n k c : Nat) : Option Nat :=
  let bs := s.memBytes (tableAddr n k c) 1032
  if leAt bs 1028 4 = crc32c (bs.take 1028) then some (leAt bs 1024 4) else none
/-- The newer valid copy of a table pair. -/
def State.newerCopy (s : State) (n k : Nat) : Option Nat :=
  match s.copyGen n k 0, s.copyGen n k 1 with
  | some a, some b => some (if a < b then 1 else 0)
  | some _, none => some 0
  | none, some _ => some 1
  | none, none => none
/-- Store a table pair in the older copy, with the next generation; nothing is written in degraded mode (R177). -/
def State.storeTables (s : State) (n k : Nat) : State :=
  if s.rcd.degraded then s
  else
    let o := s.ob n
    let c := match s.newerCopy n k with
      | some 0 => 1
      | _ => 0
    let g := o.gen + 1
    let bs := (if k = 0 then tableBytes o.refC o.refO else tableBytes o.comC o.comO) ++ leBytes 4 g
    (s.setMem (tableAddr n k c) (bs ++ leBytes 4 (crc32c bs))).setOb n { o with gen := g }
/-- Load the tables of an observer at start (R176), without the drift that follows from them. -/
def State.readTables (s : State) (n : Nat) : State :=
  let en := s.rb .obsCfg n 0
  let read (k c : Nat) : Table Int × Table Int := let bs := s.memBytes (tableAddr n k c) 1024; (tableFrom bs 0, tableFrom bs 512)
  let gens := [s.copyGen n 0 0, s.copyGen n 0 1, s.copyGen n 1 0, s.copyGen n 1 1]
  let g := gens.foldl (fun a x => max a (x.getD 0)) 0
  let com := (s.newerCopy n 1).map (read 1)
  let ref := (s.newerCopy n 0).map (read 0)
  let c := com.getD (noTable, noTable)
  let r := ref.getD (if en then c else (noTable, noTable))
  let s1 := s.modOb n (fun o => { o with comC := c.1, comO := c.2, refC := r.1, refO := r.2, gen := g, commissioned := com.isSome,
                                         ceilOnly := en && com.isNone, tableFallback := en && ref.isNone })
  let s2 := if en && ref.isNone then s1.raise 0x4014 n else s1
  if en && com.isNone then s2.raise 0x4015 n else s2

/-! ### Drift (R164) -/

/-- The largest deviation of the reference, with its bin and direction. -/
def Observer.driftNow (o : Observer) : Int × Nat × Bool :=
  (List.range 512).foldl (fun a i =>
    let cl := decide (i < 256); let b := i % 256
    let v : Int := (o.ref cl b - o.com cl b).natAbs
    if a.1 < v then (v, b, !cl) else a) (0, 0, false)

/-- Evaluate the drift after a change of the reference; CEIL_ONLY holds it at 0 (R176). -/
def State.evalDrift (s : State) (n : Nat) (finished : Bool) : State :=
  let o := s.ob n
  let d := if o.ceilOnly then (0, 0, false) else o.driftNow
  let lim : Int := 16 * (s.rf .obsLearn n 31 22 : Nat)
  let up := decide (lim < d.1) && !o.driftAlarm && !o.ceilOnly && !finished
  let down := o.driftAlarm && (finished || decide (8 * d.1 ≤ 7 * lim))
  let s1 := s.setOb n { o with drift := d.1, driftBin := d.2.1, driftOpen := d.2.2, driftAlarm := (o.driftAlarm || up) && !down }
  let s2 := if up then s1.raise 0x4011 n (leInt 2 d.1 ++ leBytes 1 d.2.1 ++ leBytes 1 (b2n d.2.2)) else s1
  if down then s2.raise 0x4012 n (leInt 2 d.1 ++ leBytes 1 d.2.1 ++ leBytes 1 (b2n d.2.2)) else s2

/-- Load the tables of an observer at start (R176), and the drift they show (R164). -/
def State.loadTables (s : State) (n : Nat) : State :=
  let s1 := s.readTables n
  if s.rb .obsCfg n 0 then s1.evalDrift n false else s1

/-- A master writes a reference entry (R180): it takes effect at the next sample, and the drift is evaluated (R164). -/
def State.writeEntry (s : State) (n : Nat) (v : Int) : State :=
  let s1 := s.modOb n (fun o => o.setRef (o.tblSel == 0) o.tblBin v)
  if s.rb .obsCfg n 0 then s1.evalDrift n false else s1

/-! ### The end of a portal cycle: learning (R161, R163), commissioning (R166), injection (R172) -/

/-- One bin of an update; true where REF_BAND limited it. -/
def State.learnBin (s : State) (n : Nat) (closing : Bool) (a : Observer × Bool) (e : Nat × BinAcc) : Observer × Bool :=
  if e.2.n < 2 then a
  else
    let r := a.1.ref closing e.1
    let al : Int := 2 ^ s.rf .obsLearn n 3 0
    let st : Int := 4 * (s.rf .obsLearn n 11 4 : Nat)
    let band : Int := 16 * (s.rf .obsLearn n 21 12 : Nat)
    let d := clampInt (-st) st (divRound (e.2.sum - 16 * e.2.n * r) (16 * e.2.n * al))
    let c := a.1.com closing e.1
    let v := clampInt (c - band) (c + band) (r + d)
    (a.1.setRef closing e.1 (clampInt (-32767) 32767 v), a.2 || v != r + d)

/-- The reference update of one axis for a cycle (R161). -/
def State.learn (s : State) (n : Nat) : State :=
  let o := s.ob n
  if !s.rb .obsCfg n 3 || o.ceilOnly then s
  else
    let r1 := if o.doneC then o.learnC.foldl (s.learnBin n true) (o, false) else (o, false)
    let r2 := if o.doneO then o.learnO.foldl (s.learnBin n false) r1 else r1
    let s1 := s.setOb n r2.1
    let s2 := if r2.2 then s1.raise 0x4013 n else s1
    (s2.storeTables n 0).evalDrift n false

/-- Add a cycle's bin means to the commissioning accumulator, in 2^-16 of 1/256 N. -/
def addMeans (acc cyc : Table BinAcc) : Table BinAcc :=
  cyc.foldl (fun a e => if e.2.n < 2 then a else addBin a e.1 (divRound (e.2.sum * 2 ^ 16) e.2.n)) acc
/-- The accumulated mean of a bin in 1/16 N, or that of the nearest covered one, the lower on a tie (R166). -/
def commEntry (acc : Table BinAcc) (b : Nat) : Int :=
  let hit (i : Nat) : Option Int := match Table.get ({} : BinAcc) acc i with
    | ⟨_, 0⟩ => none
    | a => some (clampInt (-32767) 32767 (divRound a.sum (16 * 2 ^ 16 * a.n)))
  ((List.range 256).findSome? (fun k => if k ≤ b ∧ (hit (b - k)).isSome then hit (b - k) else if b + k < 256 then hit (b + k) else none)).getD
    noForce

/-- One commissioning cycle (R166). -/
def State.commCycle (s : State) (n : Nat) : State :=
  let o := s.ob n
  let o1 := { o with commAccC := if o.doneC then addMeans o.commAccC o.learnC else o.commAccC,
                     commAccO := if o.doneO then addMeans o.commAccO o.learnO else o.commAccO, commLeft := o.commLeft - 1 }
  if o1.commLeft ≠ 0 then s.setOb n o1
  else
    let mk (t : Table BinAcc) : Table Int := (List.range 256).foldl (fun a b => Table.set 0 a b (commEntry t b)) []
    let c := mk o1.commAccC; let q := mk o1.commAccO
    let s1 := (s.setOb n { o1 with comC := c, comO := q, refC := c, refO := q, commissioned := true, ceilOnly := false,
                                   tableFallback := false, commAccC := [], commAccO := [] }).raise 0x4010 n
    ((s1.storeTables n 1).storeTables n 0).evalDrift n true

/-- An injection left unused at the end of a cycle that began after it was armed lapses (R172). -/
def State.injectEnd (s : State) (n : Nat) : State :=
  if (s.ob n).injArmed && (s.ob n).injCycle && !(s.ob n).injUsed then s.injectDone n false else s

/-- Observers of a portal at the end of its cycle (R161 to R166, R172): whether the cycle is excluded is one judgement for the
whole portal. -/
def State.obsCycleEnd (s : State) (p : Nat) : State :=
  let ax := (s.presentAxes p).filter (fun n => s.rb .obsCfg n 0)
  let fl := (s.portal p).flags
  let coll := ax.any (fun n => (s.ob n).commLeft != 0)
  let hard := (fl &&& 367) != 0 || (s.portal p).st == .fault || (s.portal p).st == .isolated
  let soft := fl.testBit 9 || (s.portal p).coldLeft != 0 || coll
  let s1 := if hard || soft then s.flag p 7 else s
  let s2 := forEach ax (fun s n =>
    if (s.ob n).commLeft != 0 then (if hard then s else s.commCycle n) else if hard || soft then s else s.learn n) s1
  let s3 := forEach ax State.injectEnd s2
  s3.modPortal p (fun q => { q with coldLeft := q.coldLeft - 1 })

/-- The observers begin a new portal cycle. -/
def State.obsCycleStart (s : State) (p : Nat) : State :=
  forEach (s.presentAxes p) (fun s n => s.modOb n (fun o => { o with learnC := [], learnO := [], doneC := false, doneO := false,
                                                                     sigMade := false, sigTrip := false, injCycle := o.injArmed })) s

/-! ### Commands of the OBS block (R166, R172, R183) -/

/-- CMD COMMISSION. -/
def State.commission (s : State) (n : Nat) : State := s.modOb n (fun o => { o with commLeft := 8, commAccC := [], commAccO := [] })
/-- CMD INJECT: it applies from the next closing stroke on. -/
def State.inject (s : State) (n b f : Nat) : State :=
  s.modOb n (fun o => { o with injArmed := true, injUsed := false, injStroke := false, injCycle := false, injBin := b, injForce := f })

/-! ### Signatures (R173 to R175) -/

/-- Two bytes of a mean in 1/16 N, 0x8000 where the bin was not covered. -/
def meanBytes (t : Table BinAcc) (b : Nat) : List Byte :=
  match Table.get ({} : BinAcc) t b with
  | ⟨_, 0⟩ => leBytes 2 0x8000
  | a => leInt 2 (clampInt (-32767) 32767 (divRound a.sum (16 * a.n)))

/-- OPEN_DEV of a bin (R175). -/
def openDev (o : Observer) (b : Nat) : List Byte :=
  match Table.get ({} : BinAcc) o.sigOpen b with
  | ⟨_, 0⟩ => leInt 1 (-128)
  | a => leInt 1 (clampInt (-127) 127 (divRound (a.sum - 16 * a.n * o.ref false b) (256 * a.n)))

/-- CLOSE_SPEED of a group of four bins, in mm/s; a group that the stroke did not cover has no stated value. -/
def State.closeSpeed (s : State) (n : Nat) (o : Observer) (i : Nat) : List Byte :=
  match Table.get ({} : BinAcc) o.sigSpeed i with
  | ⟨_, 0⟩ => leBytes 2 (Config.freeWord (s.free + i)).toNat
  | a => leBytes 2 (clampInt 0 65535 (divRound a.sum (25000 * (2 ^ s.rf .obsModel1 n 19 16 : Nat) * a.n))).toNat

/-- Bytes 6 to 55 of a signature (R175), and its data from byte 64 on. `ttEnd`, `cyc` and `flags` are those of the cycle record. -/
def State.signature (s : State) (n ttEnd cyc flags : Nat) (o : Observer) : List Byte × List Byte :=
  let tr := decide (o.sigCause ≠ 0)
  let um := divTrunc (s.fromClosed n o.sigTripPos * (s.reg .obsLpc n).toNat) 1000000
  (leBytes 2 1 ++ leBytes 8 ttEnd ++ leBytes 5 cyc ++ leBytes 1 n ++ leBytes 1 flags ++ leBytes 1 o.sigCause
    ++ (if o.sigAcc = [] then leBytes 2 0x8000 else leInt 2 (force16 o.sigPeak)) ++ leBytes 1 o.sigPeakBin
    ++ leBytes 1 (if tr then o.sigTripBin else 0xFF) ++ (if tr then leInt 4 um else leBytes 4 0xFFFFFFFF)
    ++ (if tr then leInt 2 o.sigTripForce ++ leInt 2 o.sigTripEnv else leBytes 2 0x8000 ++ leBytes 2 0x8000)
    ++ leBytes 2 (if tr then o.sigReact / 200 else 0) ++ leBytes 2 o.sigMs ++ leInt 2 (clampInt (-32767) 32767 o.drift) ++ leInt 2 o.sigBias
    ++ leBytes 2 (s.rf .obsMargin n 9 0) ++ leBytes 1 (s.rf .obsMargin n 22 16) ++ List.replicate 9 0,
   (List.range 256).flatMap (meanBytes o.sigAcc) ++ (List.range 256).flatMap (openDev o)
    ++ (List.range 32).flatMap (fun i => s.closeSpeed n o (2 * i) ++ s.closeSpeed n o (2 * i + 1))
    ++ (if tr then ((List.replicate (32 - o.sigTrace.length) noForce) ++ o.sigTrace.reverse).flatMap (leInt 2)
        else (List.range 32).flatMap (fun _ => leBytes 2 0x8000)))

/-- The 1,024 bytes once the cycle record has its number. -/
def SigJob.bytes (j : SigJob) (acc : Nat) : List Byte :=
  let a := leBytes 6 acc ++ j.head
  a ++ leBytes 4 (crc32c (a ++ j.data)) ++ List.replicate 3 0 ++ [0xA5] ++ j.data

/-- The signatures of a cycle that ends are taken down (R173): of each leaf that made a closing stroke, one still running included. They are
written once the cycle record is. -/
def State.takeSignatures (s : State) (p cyc flags : Nat) : State :=
  forEach ((s.leaves p).filter (fun n => s.rb .obsCfg n 0 && s.rb .obsCfg n 8)) (fun s n =>
    let o := if (s.ob n).stroke && (s.ob n).strokeClosing then (s.ob n).capture s.lt else s.ob n
    if !o.sigMade then s
    else
      let g := s.signature n s.tt cyc flags o
      { s with rcd := { s.rcd with sigQ := s.rcd.sigQ ++ [SigJob.mk n s.tt cyc g.1 g.2] }, free := s.free + 64 }) s

/-! ### The input instant of the engines (R186) -/

/-- Axes with EN 1. -/
def State.enabledAxes (s : State) : List Nat := (List.range 64).filter (fun n => s.rb .axisCfg n 0)
/-- Observers with EN 1. -/
def State.enabledObs (s : State) : List Nat := (List.range 64).filter (fun n => s.rb .obsCfg n 0)

/-- The observers decide and every engine takes its inputs and makes its next set-point, once in a motion cycle. -/
def State.takeInputs (s : State) : State :=
  if s.time.planned then s
  else
    let s1 := forEach s.enabledAxes State.engineCycle (forEach s.enabledObs State.obCycle (forEach s.enabledAxes State.noteRun s))
    { s1 with time := { s1.time with planned := true } }

/-- What comes later than 18 us after the boundary finds the set-point of the next frame made without it. Log entry 89. -/
def State.afterInputs (s : State) : State := if s.time.bLt + us 18 < s.lt then s.takeInputs else s

def execAxStall (n : Fin 64) (current : Bool) (s : State) : Host.Outcome State Fault Refusal :=
  run s (fun s => s.afterInputs.stall n current)
def execAxLimit (n : Fin 64) (opening : Bool) (s : State) : Host.Outcome State Fault Refusal :=
  run s (fun s => s.afterInputs.limitTrip n opening)
def execHomeLimitHit (n : Fin 64) (opening : Bool) (s : State) : Host.Outcome State Fault Refusal :=
  run s (fun s => s.afterInputs.homeLimit n opening)

end Sys2Proof.Machine
end

