-- ==== Sys2Proof/Machine/Param.lean ====
section
/-!
DEFINITION. Sys2Proof/Machine/Param.lean: the parameter store in main MRAM (R636 to R638) and the sending of a mirror item to the
mate (R524, R525), which several blocks share.
-/
namespace Sys2Proof.Machine
open Sys2Proof

/-! ### Triple-stored parameters -/

/-- Address of copy `c` (0 to 2) of parameter `id`: the manual fixes the copy areas, not the places in them; here each has 128
bytes. Log entry 20. -/
def paramAddr (c id : Nat) : Nat := 0x01F90000 + 0x20000 * c + 128 * id
/-- Value length of a parameter in bytes. Log entry 20. -/
def paramLen (id : Nat) : Nat :=
  if id = 1 then 4 else if id ≤ 5 then 48 else if 0x60 ≤ id ∧ id ≤ 0x6F then 8 else if id = 0x71 then 12 else 8
/-- Monotonic class (R638). -/
def paramMono (id : Nat) : Bool := id == 1 || (decide (0x10 ≤ id) && id != 0x71)

/-- A copy record (R636). -/
def copyRecord (id : Nat) (v : List Byte) : List Byte :=
  let b := leBytes 2 id ++ leBytes 2 v.length ++ v
  b ++ leBytes 4 (crc32c b)

/-- Write a parameter: copy 1, then 2, then 3 (R636). -/
def State.saveParam (s : State) (id : Nat) (v : List Byte) : State :=
  forEach [0, 1, 2] (fun s c => s.setMem (paramAddr c id) (copyRecord id v)) s

/-- Save a number as a parameter of its length. -/
def State.saveNum (s : State) (id n : Nat) : State := s.saveParam id (leBytes (paramLen id) n)

/-- The value of a copy, if it is intact (R637). -/
def State.copyValue (s : State) (c id : Nat) : Option (List Byte) :=
  let n := paramLen id
  let bs := s.memBytes (paramAddr c id) (n + 8)
  if leAt bs 0 2 = id ∧ leAt bs 2 2 = n ∧ leAt bs (4 + n) 4 = crc32c (bs.take (4 + n)) then some (slice bs 4 n) else none

/-- How a vote ended (R637): the value if there is one, and whether copies were repaired, rolled forward or lost. -/
structure Vote where
  value : Option (List Byte)
  repaired : Bool := false
  forward : Bool := false
  fault : Bool := false
  deriving DecidableEq, Repr

/-- The vote of R637 over the three copies. -/
def vote (mono : Bool) (a b c : Option (List Byte)) : Vote :=
  match a, b, c with
  | some x, some y, some z =>
    if x = y ∧ y = z then { value := some x }
    else if y = z then
      if mono && decide (leNat y < leNat x) then { value := some x, repaired := true, forward := true }
      else { value := some y, repaired := true }
    else if x = y ∨ x = z then { value := some x, repaired := true }
    else { value := none, fault := true }
  | none, some y, some z => if y = z then { value := some y, repaired := true } else { value := none, fault := true }
  | some x, none, some z => if x = z then { value := some x, repaired := true } else { value := none, fault := true }
  | some x, some y, none => if x = y then { value := some x, repaired := true } else { value := none, fault := true }
  | some x, none, none => { value := some x, repaired := true }
  | none, some y, none => { value := some y, repaired := true }
  | none, none, some z => { value := some z, repaired := true }
  | none, none, none => { value := none, fault := true }

/-- The intact values of a parameter's copies. -/
def State.intact (s : State) (id : Nat) : List (List Byte) := [0, 1, 2].filterMap (fun c => s.copyValue c id)
/-- The vote on a parameter as the store stands. -/
def State.voteOf (s : State) (id : Nat) : Vote := vote (paramMono id) (s.copyValue 0 id) (s.copyValue 1 id) (s.copyValue 2 id)

/-- Vote a parameter at start with its fallback (R637, R638): the voted value is rewritten where copies lost, and the outcome is
recorded. The number of the parameter is carried in the events. -/
def State.voteParam (s : State) (id : Nat) (fallback : List Byte) : List Byte × State :=
  let v := s.voteOf id
  match v.value with
  | some x =>
    let s1 := if v.forward then s.raise 0x0022 noInst (leBytes 2 id) else s
    (x, if v.repaired then (s1.saveParam id x).raise 0x0020 noInst (leBytes 2 id) else s1)
  | none => (fallback, (s.saveParam id fallback).raise 0x0021 noInst (leBytes 2 id))

/-- The same vote for a parameter without a fallback value: its copies are left (R638). -/
def State.votePlain (s : State) (id : Nat) : Option (List Byte) × State :=
  let v := s.voteOf id
  match v.value with
  | some x => (some x, if v.repaired then (s.saveParam id x).raise 0x0020 noInst (leBytes 2 id) else s)
  | none => (none, if s.intact id = [] then s else s.raise 0x0021 noInst (leBytes 2 id))

/-! ### Mirror items -/

/-- A frame of the Kazuk lanes with its CRC (R518, R525). -/
def kazukFrame (body : List Byte) : List Byte := body ++ beBytes 4 (crc32c body)

/-- The bytes of a mirror frame (R525). -/
def mirrorFrameBytes (mseq : Nat) (items : List Byte) : List Byte :=
  kazukFrame (beBytes 1 2 ++ beBytes 1 0 ++ beBytes 2 items.length ++ beBytes 4 mseq ++ items)

/-- The lane that carries mirror frames (R525): lane 0, or lane 1 while lane 0 has delivered no heartbeat for 300 us. -/
def State.mirrorLane (s : State) : Nat := match s.twin.kz0 with
  | some t => if s.within t (us 300) then 0 else 1
  | none => 1

/-- Whether this device mirrors to a mate (R524, R526): it holds ownership in a twin and the mate is not lost. -/
def State.mirrors (s : State) : Bool := s.sys.twinRole != 0 && s.holder && !s.twin.mateLost && s.twin.beat.isSome

/-- Send a mirror item in a frame of its own (R524, R525); the number of the frame that carries it is `twin.mseq` after. -/
def State.mirror (s : State) (kind : Nat) (body : List Byte) : State :=
  if s.mirrors then
    let m := (s.twin.mseq + 1) % 2 ^ 32
    let items := beBytes 1 kind ++ beBytes 1 0 ++ beBytes 2 body.length ++ body
    let s1 := { s with twin := { s.twin with mseq := m, unacked := s.twin.unacked ++ [⟨m, items, s.lt⟩] } }
    if s.twin.fallback then s1 else s1.emit (.mirror s.mirrorLane (mirrorFrameBytes m items))
  else s

/-- Send an item and hold its effect back until it is confirmed (R526); with no mirror there is no wait. -/
def State.mirrorHold (s : State) (kind : Nat) (body : List Byte) (e : HeldEffect) (act : State → State) : State :=
  if s.mirrors then
    let s1 := s.mirror kind body
    { s1 with twin := { s1.twin with held := s1.twin.held ++ [(s1.twin.mseq, e)] } }
  else act s

end Sys2Proof.Machine
end

