-- ==== Sys2Proof/Machine/Portal.lean ====
section
/-!
DEFINITION. Sys2Proof/Machine/Portal.lean: the Portal Sequencer (R89 to R141, R736): states, transitions T1 to T27, actions,
scheduled slots, warning signals, the current budget arbiter and the portal cycle. Field numbers are those of PORTAL[p]_CFG
(R138) and of the registers of R137.
-/
namespace Sys2Proof.Machine
open Sys2Proof

/-- A command of the Portal Sequencer, which a standby keeps idle (R524). -/
def runSeq (s : State) (f : State → State) : Host.Outcome State Fault Refusal := run s (fun s => when_ (!s.standby) f s)

/-- State code (R95). -/
def PState.code : PState → Nat
  | .unused => 0
  | .referencing => 1
  | .locked => 2
  | .unlocking => 3
  | .released => 4
  | .opening => 5
  | .open_ => 6
  | .warning => 7
  | .closing => 8
  | .reopening => 9
  | .closed => 10
  | .locking => 11
  | .emergency => 12
  | .isolated => 13
  | .fault => 14

/-- States from UNLOCKING to CLOSED: the lock is energised and the portal is not held closed and locked (R95, R101). -/
def PState.moving (q : PState) : Bool := decide (3 ≤ q.code ∧ q.code ≤ 10)
/-- States with the warning lamp (R125). -/
def PState.warns : PState → Bool
  | .warning => true
  | .closing => true
  | .reopening => true
  | _ => false
/-- Permissive actions (R97). -/
def permissive (a : Nat) : Bool := decide (1 ≤ a ∧ a ≤ 4)

/-- The outputs that follow from the state (R95, R122, R125), and the switches they drive. -/
def State.portalOutputs (s : State) (p : Nat) : State :=
  (s.modPortal p (fun q =>
    { q with lockOut := q.st.moving || q.st == .emergency
             reqLamp := (q.st == .released || q.st == .closed) && q.reqEnabled
             warnLamp := q.warnLamp && q.st.warns
             chime := q.chime && q.st.warns })).commandSwitches

/-! ### The portal cycle (R133 to R135) -/

/-- T4 begins a portal cycle. -/
def State.beginPortalCycle (s : State) (p : Nat) : State :=
  (s.modPortal p (fun q => { q with inCycle := true, flags := 0, reopens := 0, peakA := 0, peakB := 0, longDelay := 0,
                                    openEntered := none, openSeen := false, openMs := 0, closeEntered := none })).obsCycleStart p

/-- Milliseconds since an instant, saturating at 65,534. -/
def State.msSince (s : State) (t : Ticks) : Nat := min 65534 ((s.lt - t) / ticksPerMs)

/-- PEAK of a leaf: largest force over 4 N, rounded down (R135). -/
def peakByte (f : Int) : Nat := min 254 (f.toNat / 1024)

/-- Bytes 16 to 30 of a cycle record (R135). -/
def State.cycleBody (s : State) (p : Nat) : List Byte :=
  let q := s.portal p
  leBytes 5 q.cycles ++ leBytes 1 (p + 16 * s.quality.code + 128 * b2n (s.sys.twinRole != 0 && s.holder))
    ++ leBytes 2 q.openMs
    ++ leBytes 2 (match q.closeEntered with
      | some t => s.msSince t
      | none => 0)
    ++ leBytes 1 (q.flags % 256) ++ leBytes 1 (min 254 q.reopens) ++ leBytes 1 (peakByte q.peakA)
    ++ leBytes 1 (if s.rolePresent p 1 then peakByte q.peakB else 0) ++ leBytes 1 (min 254 (q.longDelay / 4000))

/-- Changed entries of one table of an observer: the table's number, the bin and the entry. -/
def changedEntries (k : Nat) (old new : Table Int) : List (List Byte) :=
  ((List.range 256).filter (fun b => Table.get 0 old b != Table.get 0 new b)).map (fun b =>
    beBytes 1 k ++ beBytes 1 b ++ beBytes 2 (wrapTo 16 (Table.get 0 new b)))

/-- Cut a list into pieces of at most `m`. -/
def pieces {α : Type} (m : Nat) : Nat → List α → List (List α)
  | 0, _ => []
  | k + 1, l => if l.isEmpty then [] else l.take m :: pieces m k (l.drop m)

/-- Entries that an observer item may carry: 60 fill a frame, and in fallback the frame must fit the mirror block (R525). Log entry 35. -/
def State.obsPiece (s : State) : Nat := if s.twin.fallback then max 1 (min 60 ((s.rf .netALim 0 8 0 - 167) / 4)) else 60

/-- The items of observer `n` for the entries `es` (R524, kind 6), with SIG_PTR and the cold allowance left. Log entry 34. -/
def State.obsItems (s : State) (n : Nat) (es : List (List Byte)) : State :=
  forEach (if es.isEmpty then [[]] else pieces s.obsPiece 1024 es) (fun s l =>
    s.mirror 6 (beBytes 1 n ++ beBytes 1 (s.ob n).sigPtr ++ beBytes 1 (s.portal (n / 4)).coldLeft ++ l.flatten)) s

/-- Mirror an observer after an update: the entries that changed. -/
def State.mirrorObs (s old : State) (n : Nat) : State :=
  let a := old.ob n; let b := s.ob n
  let es := changedEntries 0 a.refC b.refC ++ changedEntries 1 a.refO b.refO ++ changedEntries 2 a.comC b.comC ++ changedEntries 3 a.comO b.comO
  if es.isEmpty ∧ a.sigPtr = b.sigPtr ∧ (s.portal (n / 4)).coldLeft = (old.portal (n / 4)).coldLeft then s else s.obsItems n es

/-- The cycle ends at an entry to LOCKED, ISOLATED or FAULT (R133): the observers learn first (R162), then the record is written. -/
def State.endPortalCycle (s : State) (p : Nat) : State :=
  if !(s.portal p).inCycle then s
  else
    let s0 := s.obsCycleEnd p
    let s1 := forEach (s0.presentAxes p) (fun x n => x.mirrorObs s n) s0
    let q := s1.portal p
    let n := (q.cycles + 1) % 2 ^ 40
    let s2 := s1.setPortal p { q with inCycle := false, cycles := n, cycOvf := q.cycOvf || decide (2 ^ 40 ≤ q.cycles + 1) }
    let s3 := (s2.saveNum (0x60 + p) n).mirror 9 (beBytes 1 p ++ beBytes 5 n)
    (s3.raiseBody 0x3020 (s3.cycleBody p)).takeSignatures p n ((s3.portal p).flags % 256)

/-! ### Entering a state -/

/-- Drop the queued starts of a portal. -/
def State.dropStarts (s : State) (p : Nat) : State :=
  { s with seq := { s.seq with starts := s.seq.starts.filter (fun t => t.portal != p) } }
/-- Drop those of its leaves and of an auxiliary axis that moves with them: the step's start is one of its own (R128). -/
def State.dropLeafStarts (s : State) (p : Nat) : State :=
  { s with seq := { s.seq with starts := s.seq.starts.filter (fun t => t.portal != p || (s.stepAxes p).any t.axes.contains) } }

/-- A portal that leaves the states of R665 before PWR_EN has fallen ends shelving with cause 1 (R667). -/
def State.leaveShelf (s : State) (st : PState) : State :=
  if s.sys.shelving && !s.sys.pwrEnLow && !(st == .locked || st == .isolated || st == .fault || st == .unused) then
    { s with sys := { s.sys with shelving := false, shelveRefused := true, refuseCause := 1 } }
  else s

/-- Enter a state: what R95, R122 to R125 attach to it. -/
def State.enter (s : State) (p : Nat) (st : PState) : State :=
  let q := s.portal p
  let warnNew := st == .warning
  let fl := s.rf .portalTWarn p 23 16; let ch := s.rf .portalTWarn p 31 24
  let ends := st == .locked || st == .isolated || st == .fault
  let q1 := { q with
    prev := q.st, st := st, entered := s.lt, warnDone := false, warnStart := none, warnStopping := false, dwellStart := none,
    dwellDone := false, dwellHeld := false, obstStart := none, closeWanted := false,
    warnLamp := if warnNew then true else q.warnLamp, flashNext := if warnNew then s.lt + ms (10 * fl) else q.flashNext,
    chime := if warnNew then ch != 0 else q.chime, chimeEnd := if warnNew then s.lt + ms (100 * ch) else q.chimeEnd,
    reopenCnt := if st == .locked || st == .closed then 0 else q.reopenCnt,
    closeObstructed := if st == .locked || st == .closed then false else q.closeObstructed,
    released := if ends then false else q.released, reqEnabled := if ends then false else q.reqEnabled,
    lockPending := if ends || st == .locking then false else q.lockPending, forced := if ends then false else q.forced,
    openWanted := if st == .opening || ends then false else q.openWanted,
    openEntered := if st == .opening && q.openEntered.isNone then some s.lt else q.openEntered,
    openMs := if st == .open_ && !q.openSeen then (match q.openEntered with
      | some t => s.msSince t
      | none => 0) else q.openMs,
    openSeen := q.openSeen || (st == .open_ && q.openEntered.isSome),
    closeEntered := if st == .closing then some s.lt else q.closeEntered,
    stepStart := if ends then none else q.stepStart, reclosing := none }
  let s1 := ((s.setPortal p q1).portalOutputs p).leaveShelf st
  if st == .locked then (s1.dropLeafStarts p).endPortalCycle p else if ends then (s1.dropStarts p).endPortalCycle p else s1

/-! ### Motions of a portal -/

/-- Set the Portal Sequencer's target for an axis (R190): a new action, which clears its stops (R154). -/
def State.moveTo (s : State) (n : Nat) (t : Int) : State :=
  (s.clearStops n).modAxis n (fun x => { x with pending := some t, origTarget := t, scale := 256, held := false })

/-- Queue a start (R128). Kinds: 0 opening, 1 closing, 2 step or auxiliary out, 3 in. -/
def State.queueStart (s : State) (p : Nat) (axes : List Nat) (kind : Nat) : State :=
  if axes = [] then s
  else { s with seq := { s.seq with starts :=
                                    (s.seq.starts.filter (fun t => !(t.portal == p && t.axes == axes))) ++ [⟨p, axes, kind, s.lt⟩] } }

/-- Queue the starts of the leaves, and of an auxiliary axis that moves with them (R128, R224). -/
def State.startLeaves (s : State) (p : Nat) (opening : Bool) : State :=
  (s.queueStart p (s.leaves p) (if opening then 0 else 1)).queueStart p (s.auxWith p 0) (if opening then 2 else 3)

/-- Queue the starts of the step and of an auxiliary axis that moves with it. -/
def State.startStep (s : State) (p : Nat) (out : Bool) : State :=
  let k := if out then 2 else 3
  if s.rolePresent p 2 then (s.queueStart p [4 * p + 2] k).queueStart p (s.auxWith p 1) k else s

/-- Stop an axis at profile deceleration, with the motion that waits dropped: the portal's state calls for none (R190). -/
def State.haltAxis (s : State) (n : Nat) : State := (s.modAxis n (fun x => { x with pending := none })).stopAxis n false
/-- Stop axes at profile deceleration (T10, T27). -/
def State.stopAll (s : State) (ns : List Nat) : State := forEach ns State.haltAxis s

/-- Leaves and the auxiliary axis that moves with them. -/
def State.leafGroup (s : State) (p : Nat) : List Nat := s.leaves p ++ s.auxWith p 0

/-- An axis that stands at rest holding. -/
def State.standing (s : State) (n : Nat) : Bool :=
  let x := s.axis n
  x.mode == .holding && x.pending.isNone && x.queue == [] && x.plan.isNone
/-- Leaves at a target. -/
def State.leavesAt (s : State) (p : Nat) (t : Nat → Int) : Bool :=
  (s.leaves p).all (fun n => s.standing n && (s.axis n).pos == t n * 2 ^ 32)

/-! ### Faults (R118, T25) -/

/-- The links of a portal's own dies (R118, R362, R391): every source code named in PORTAL[p], ILK_PORT[p], the AXIS registers of its
axes, and the second channels of its two-channel inputs' pairs. -/
def State.portalLinks (s : State) (p : Nat) : List Nat :=
  let ax := (s.presentAxes p).flatMap (fun n => [s.rf .axisLimit n 8 0, s.rf .axisLimit n 24 16, s.rf .axisHome n 8 0, s.rf .axisBrake n 8 0])
  let two := [s.rf .portalInEmg p 8 0, s.rf .portalInEmg p 24 16]
  let second := (two.filterMap s.pairOf).map (fun i => s.rf .ilkPairA i 15 8)
  let own := [s.rf .portalInReq p 8 0, s.rf .portalInReq p 24 16, s.rf .portalInCls p 8 0, s.rf .portalInCls p 24 16, s.rf .portalInLck p 8 0,
    s.rf .portalInLck p 24 16, s.rf .portalInAux p 8 0, s.rf .portalInAux p 24 16, s.rf .portalOutLck p 8 0, s.rf .portalOutLck p 24 16,
    s.rf .portalOutWrn p 8 0, s.rf .portalOutWrn p 24 16, s.rf .ilkPortIn0 p 8 0, s.rf .ilkPortIn0 p 24 16, s.rf .ilkPortIn1 p 8 0,
    s.rf .ilkPortIn1 p 24 16, s.rf .ilkPortIn2 p 8 0]
  ((own ++ two ++ second ++ ax).filter (fun c => c != notConnected)).map (fun c => if c < 256 then c / 32 else 8 + (c - 256) / 8)
/-- Whether the check of one of them has failed: lost, or showing SAFE or CFG_ERR (R362). -/
def State.portalLinkLost (s : State) (p : Nat) : Bool :=
  (s.portalLinks p).any (fun k => let l := s.flink k; l.lost || l.stateByte % 4 == 3 || l.stateByte.testBit 3)

/-- Fault source of a portal as FAULT_CAUSE (R118, R139): 1 axis, 2 drive link, 3 brake test, 4 field die; 0 none. -/
def State.faultSource (s : State) (p : Nat) : Nat :=
  match (s.presentAxes p).find? (fun n => (s.axis n).fault) with
  | some n => if (s.axis n).faultCause = 6 then 2 else if (s.axis n).faultCause = 7 then 3 else 1
  | none => if s.portalLinkLost p then 4 else 0

/-- Note that a trigger of a rank has acted in this motion cycle (R108). Ranks 1 to 6 abort a brake test (R318). The rows of one motion cycle
act as they come: log entry 84. -/
def State.acted (s : State) (p r : Nat) : State :=
  let s1 := s.modPortal p (fun q => { q with rankNow := min q.rankNow r })
  if r ≤ 6 then forEach (s1.presentAxes p) State.testAbort s1 else s1

/-- Enter FAULT (T25): a brake test ends first (R318), then every axis decelerates and loses its torque. -/
def State.toFault (s : State) (p cause : Nat) : State :=
  let s1 := ((s.acted p 1).modPortal p (fun q => { q with faultCause := cause })).raise 0x301A p
  (forEach (s1.presentAxes p) (fun s n => s.emergencyStop n .fault) s1).enter p .fault

/-- Fail a transition: its own event, then FAULT (T6, T20, R107). -/
def State.failTo (s : State) (p cause code : Nat) : State := (s.raise code p).toFault p cause

/-! ### Transitions -/

/-- Enter REFERENCING with the homing of every present axis (T1, T24, T26, R213). A handle that is still active keeps EMG_PENDING (R119). -/
def State.toReferencing (s : State) (p : Nat) : State :=
  let s1 := (s.modPortal p (fun q => { q with faultCause := 0, emgPending := q.emgPending && s.inHandle p, refStart := s.lt })).enter p .referencing
  forEach (s1.presentAxes p) State.startHoming s1

/-- T4 (R104, R109): the lock is energised and, for RELEASE and OPEN, the step starts in the same cycle. -/
def State.t4 (s : State) (p a : Nat) : State :=
  let s1 := (s.beginPortalCycle p).modPortal p (fun q => { q with
    released := true, reqEnabled := (a == 1 || a == 3) && s.rb .portalCfg p 8, openWanted := a == 3, stepWanted := a != 2 && s.hasStep p,
    unlockStart := s.lt, stepStart := if a != 2 && s.hasStep p then some s.lt else none })
  let s2 := s1.enter p .unlocking
  if a = 2 then s2 else s2.startStep p true

/-- A step that no action has started yet deploys before the leaves open (R95, R109). -/
def State.stepToo (s : State) (p : Nat) : State :=
  if s.hasStep p && !(s.portal p).stepWanted then
    (s.modPortal p (fun q => { q with stepWanted := true, stepStart := some s.lt })).startStep p true else s

/-- T7: the leaves open; under STEP_FIRST their start waits for STEP_DEPLOYED (R109). -/
def State.t7 (s : State) (p : Nat) : State :=
  let s1 := (s.stepToo p).enter p .opening
  if s.rb .portalCfg p 6 && !s.inDeployed p then s1.modPortal p (fun q => { q with stepOut := true }) else s1.startLeaves p true

/-- T9 or T10: WARNING, in which the warning time starts when the leaves stand still. -/
def State.toWarning (s : State) (p : Nat) (stopping : Bool) : State :=
  let s1 := if stopping then ((s.dropLeafStarts p).stopAll (s.leafGroup p)) else s
  (s1.enter p .warning).modPortal p (fun q => { q with warnStart := if stopping then none else some s.lt, warnStopping := stopping })

/-- Whether OPEN may be left by T9 (R104, R124), and on what. -/
def State.t9Ready (s : State) (p : Nat) : Bool :=
  let q := s.portal p
  q.st == .open_ && q.obstStart.isNone && (q.forced || !s.inPresence p)
    && (q.lockPending || (q.dwellDone || q.closeWanted) && !q.closeObstructed)
/-- Rank of the trigger that T9 has (R108): a restrictive action, or else DWELL and OBST_WAIT. -/
def State.t9Rank (s : State) (p : Nat) : Nat := if (s.portal p).lockPending || (s.portal p).closeWanted then 5 else 8
/-- T9 where its trigger and guard hold and no trigger above it has acted in this motion cycle. -/
def State.tryT9 (s : State) (p : Nat) : State :=
  if s.t9Ready p && decide (s.t9Rank p ≤ (s.portal p).rankNow) then (s.toWarning p false).acted p (s.t9Rank p) else s

/-- T17, T18, T27: LOCKING, with the lock de-energised and the release withdrawn. -/
def State.toLocking (s : State) (p : Nat) : State :=
  let q := s.portal p
  let s1 := if q.st == .unlocking then (s.dropStarts p).stopAll (s.stepAxes p) else s
  (s1.modPortal p (fun q => { q with released := false, reqEnabled := false, openWanted := false, stepWanted := false, stepOut := false,
                                     stepStart := none, lockStart := s.lt, reclosed := false, lockSeen := false })).enter p .locking

/-- A leaf that reopens at profile deceleration (T14, R736): to the reopen target, on the reservation that it holds (R128); where it comes
to rest at or beyond that target it moves no further. -/
def State.reopenLeaf (s : State) (n : Nat) : State :=
  let x := s.axis n
  let l := s.limits n x.current_ (if x.kin.sign = 0 then 1 else x.kin.sign)
  let t := s.reopenTarget n
  if s.openSign n * (t * 2 ^ 32) ≤ s.openSign n * restPoint x.kin l.d l.j then s.haltAxis n
  else (s.moveTo n t).modAxis n (fun x => { x with held := true })

/-- An auxiliary axis that moves with the leaves opens again (R224): it reverses, or where it stands it makes a start of its own (R128). -/
def State.reopenAux (s : State) (p n : Nat) : State :=
  if (s.axis n).mode = .executing then (s.moveTo n (s.rs .axisTgtOpen n)).modAxis n (fun x => { x with held := true }) else s.queueStart p [n] 2

/-- T13 and T14: REOPENING. The leaf that tripped reverses in hardware; every other one reverses at profile deceleration. -/
def State.toReopening (s : State) (p : Nat) (obstacle : Bool) : State :=
  let s1 := if obstacle then
      let c := min 15 ((s.portal p).reopenCnt + 1)
      let s2 := (s.modPortal p (fun q => { q with reopenCnt := c })).raise 0x3019 p
      if s.rf .portalReopen p 3 0 ≤ c && !(s.portal p).closeObstructed then
        (s2.modPortal p (fun q => { q with closeObstructed := true, obstructedAt := s.lt })).raise 0x3018 p else s2
    else s
  let s3 := ((s1.modPortal p (fun q => { q with reopens := q.reopens + 1 })).flag p 1).count (244 + p)
  let s4 := forEach ((s3.leaves p).filter (fun n => !((s3.axis n).mode == .emergency && (s3.axis n).emg == .tripReopen))) State.reopenLeaf
    (s3.dropLeafStarts p)
  (forEach (s4.auxWith p 0) (fun s n => s.reopenAux p n) s4).enter p .reopening

/-- T21 (R95): leaves free, lock energised, step as it was. -/
def State.toEmergency (s : State) (p : Nat) : State :=
  let s1 := forEach (s.leafGroup p) State.freeLeaf ((s.dropLeafStarts p).flag p 5)
  (s1.modPortal p (fun q => { q with emgPending := true, emgLockArrived := false })).enter p .emergency

/-- Hold an axis where it stands, with torque on. -/
def State.holdHere (s : State) (n : Nat) : State :=
  s.modAxis n (fun x => if x.mode == .off then { x with mode := .holding, pos := s.latchOf n * 2 ^ 32, vel := 0, acc := 0, queue := [],
                                                        plan := none, pending := none } else x)

/-- T22 with the next state of R120. -/
def State.leaveEmergency (s : State) (p : Nat) : State :=
  let q := s.portal p
  let s1 := forEach (s.leafGroup p) State.holdHere ((s.modPortal p (fun q => { q with emgPending := false })).raise 0x3015 p)
  if q.released && !q.emgLockArrived then
    if s.closedAB p then s1.enter p .released else s1.enter p .open_
  else (s1.modPortal p (fun q => { q with released := false, reqEnabled := false, lockPending := true, emgLockArrived := false })).toWarning p false

/-- Entry to OPEN with its timers (R123, R124): DWELL runs from here unless the presence input holds it, OBST_WAIT after a reopening. -/
def State.toOpen (s : State) (p : Nat) (obst : Bool) : State :=
  let hold := s.inPresence p && s.rb .portalCfg p 9
  let runs := s.rf .portalTDwell p 15 0 != 0
  (s.enter p .open_).modPortal p (fun q => { q with
    dwellStart := if runs && !hold then some s.lt else none, dwellHeld := runs && hold, obstStart := if obst then some s.lt else none })

/-- T12 and T14: a request or the presence input reopens (R104, R122). -/
def State.reopenOn (s : State) (p : Nat) : State :=
  match (s.portal p).st with
  | .warning =>
    let s1 := (s.dropLeafStarts p).toOpen p false
    if s1.leavesAt p (fun n => s.rs .axisTgtOpen n) then s1 else s1.startLeaves p true
  | .closing => s.toReopening p false
  | _ => s

/-! ### Actions (R97 to R105, R108) -/

/-- A permissive action on a portal that it may act on (R100, R104, R105). -/
def State.permit (s : State) (p a : Nat) : State × Bool :=
  let q := s.portal p
  match q.st with
  | .locked => (if a = 4 then s else s.t4 p a, true)
  | .locking => (s, false)
  | st =>
    let en := (a == 1 && s.rb .portalCfg p 8) || (a == 4 && (st == .released || st == .closed))
    let s1 := (s.modPortal p (fun q => { q with released := true, reqEnabled := q.reqEnabled || en })).portalOutputs p
    if a = 3 ∧ (st = .released ∨ st = .closed) then (s1.t7 p, true) else (s1, true)

/-- A restrictive action on a portal from LOCKED to LOCKING (R104, R105). One accepted after CLOSE_OBSTRUCTED was set clears it (R124): `acc`
is the instant of acceptance, none for the LOCK of R101. -/
def State.restrict (s : State) (p a : Nat) (acc : Option Ticks) : State :=
  let q := s.portal p
  let s1 := (s.modPortal p (fun q => { q with reqEnabled := false })).portalOutputs p
  if a = 5 then match q.st with
    | .open_ => (s1.modPortal p (fun q => { q with closeWanted := true })).tryT9 p
    | .opening => s1.toWarning p true
    | _ => s1
  else
    let new := q.closeObstructed && (match acc with
      | some t => decide (q.obstructedAt ≤ t)
      | none => false)
    let s2 := s1.modPortal p (fun q => { q with released := false, forced := q.forced || a == 7,
                                                reopenCnt := if new then 0 else q.reopenCnt, closeObstructed := q.closeObstructed && !new })
    let s3 := if a = 7 then s2.flag p 6 else s2
    match q.st with
    | .unlocking | .released | .closed => s3.toLocking p
    | .opening => (s3.modPortal p (fun q => { q with lockPending := true })).toWarning p true
    | .open_ => (s3.modPortal p (fun q => { q with lockPending := true })).tryT9 p
    | .warning | .closing | .reopening => s3.modPortal p (fun q => { q with lockPending := true })
    | _ => s1

/-- An action reaches a portal: the state after, and whether it executed or the portal is skipped (R99, R100, R108). -/
def State.actOn (s : State) (p a : Nat) (acc : Option Ticks) : State × Bool :=
  if !s.portalEn p then (s, false)
  else match (s.portal p).st with
    | .unused | .referencing | .isolated | .fault => (s, false)
    | .emergency =>
      if a = 6 ∨ a = 7 then
        let s1 := s.modPortal p (fun q => { q with emgLockArrived := true, forced := q.forced || a == 7 })
        (if a = 7 then s1.flag p 6 else s1, true)
      else (s, false)
    | _ =>
      if permissive a then
        if !s.zeroSpeed || decide ((s.portal p).rankNow < 5) then (s, false)
        else let r := s.permit p a; (if r.2 then r.1.acted p 6 else r.1, r.2)
      else if (s.portal p).rankNow < 5 then
        (s.modPortal p (fun q => { q with heldRestrictive := q.heldRestrictive ++ [(a, acc)] }), true)
      else ((s.restrict p a acc).acted p 5, true)

/-- Apply an action to every portal of a mask (R97, R105): the state and the skipped mask. WITHDRAW_PERMIT acts on SO0 alone. -/
def State.applyAction (s : State) (a mask : Nat) (acc : Option Ticks) : State × Nat :=
  if a = 8 then ({ s with seq := { s.seq with withdraw := true, lockLater := false } }, 0)
  else ((List.range 16).filter (fun p => mask.testBit p)).foldl
    (fun r p => let t := r.1.actOn p a acc; (t.1, if t.2 then r.2 else r.2 + 2 ^ p)) (s, 0)

/-- A LOCK or FORCED_CLOSE executed while WITHDRAW_PERMIT is in force is the later LOCK that may end it (R97). -/
def State.noteLock (s : State) (a : Nat) : State :=
  if (a = 6 ∨ a = 7) ∧ s.seq.withdraw then { s with seq := { s.seq with lockLater := true } } else s

/-- Execute an action and record it (R105): 0x3002 with the skipped mask, or 0x3004 for one that is late (R113). -/
def State.execute (s : State) (a mask : Nat) (late : Bool) (t : TimeNs) (acc : Option Ticks) : State :=
  let r := (s.noteLock a).applyAction a mask acc
  if late then ((r.1.raise 0x3004 noInst (leBytes 2 r.2 ++ s.sinceTt t)).count 260).count 262
  else (r.1.raise 0x3002 noInst (leBytes 2 r.2)).count 260

/-- WITHDRAW_PERMIT ends once a later LOCK has completed with every portal in LOCKED or secured ISOLATED (R97). -/
def State.liftWithdraw (s : State) : State :=
  if s.seq.withdraw && s.seq.lockLater && s.enabledPortals.all (fun k => (s.portal k).st == .locked ||
      (s.portal k).st == .isolated && s.inLocked k && s.inIsolate k)
  then { s with seq := { s.seq with withdraw := false, lockLater := false } } else s

/-- The first accepted immediate action is applied (R102). -/
def State.immediateApply (s : State) : State :=
  match s.seq.imm with
  | [] => s
  | i :: rest => ({ s with seq := { s.seq with imm := rest } }).execute i.action i.target i.late i.tt i.acc

def execImmediateActionApply (s : State) : Host.Outcome State Fault Refusal := runSeq s State.immediateApply

/-! ### Slots (R112 to R116) -/

/-- Slots in use, in the order in which they were filled. -/
def State.slotsInOrder (s : State) : List Nat :=
  sortBy (fun i j => decide ((s.slot i).order ≤ (s.slot j).order)) ((List.range 64).filter (fun i => (s.slot i).state != 0))

/-- Arm or suspend the permissive slots under the quality in force (R115, R404). -/
def State.judgeSlots (s : State) : State :=
  forEach ((if s.standby then [] else s.slotsInOrder).filter (fun i => permissive (s.slot i).action)) (fun s i =>
    let c := s.slot i
    if s.quality.armed then s.setSlot i { c with state := 1 }
    else if c.state = 1 then (s.setSlot i { c with state := 2 }).raise 0x3005 i
    else s) s

/-- Mirror a slot that changed (R524, kind 2). -/
def State.mirrorSlot (s : State) (i : Nat) : State :=
  let c := s.slot i
  s.mirror 2 (beBytes 1 i ++ beBytes 1 c.state ++ beBytes 1 c.action ++ beBytes 2 c.target ++ beBytes 1 c.key ++ beBytes 1 c.src
    ++ beBytes 1 c.conn ++ beBytes 8 c.tt)

/-- Free a slot: it takes an action again from the next motion cycle boundary (R703). -/
def State.freeSlot (s : State) (i : Nat) : State :=
  (State.setSlot { s with seq := { s.seq with freed := Table.set 0 s.seq.freed i ((s.tt / 25000 + 1) * 25000) } } i {}).mirrorSlot i

/-- Whether a slot takes an action (R703). A boundary more than one cycle away is one that TT has been stepped back from. -/
def State.slotFree (s : State) (i : Nat) : Bool :=
  let f := Table.get 0 s.seq.freed i
  (s.slot i).state == 0 && (decide (f ≤ s.tt) || decide (s.tt + 25000 < f))

/-- Execute the action of one slot at its T; one still suspended is stale (R115, R116). -/
def State.runSlot (s : State) (i : Nat) : State :=
  let c := s.slot i
  if c.state = 2 then ((s.raise 0x3003 i (leBytes 1 1)).count 261).freeSlot i
  else (s.execute c.action c.target false c.tt c.acc).freeSlot i

/-- The instant at which a slot is executed (R116, R117): its T; but a restrictive action waits for the permissive ones whose T falls in the same
motion cycle, which R116 applies before it. Log entry 80. -/
def State.dueAt (s : State) (i : Nat) : TimeNs :=
  let c := s.slot i
  if permissive c.action then c.tt
  else (s.slotsInOrder.filter (fun j => permissive (s.slot j).action && (s.slot j).tt / 25000 == c.tt / 25000)).foldl
    (fun t j => max t (s.slot j).tt) c.tt

/-- The earliest instant at which a slot is due. -/
def State.nextSlotTt (s : State) : Option TimeNs :=
  (s.slotsInOrder.map s.dueAt).foldl (fun a t => match a with
    | none => some t
    | some u => some (min u t)) none

/-- Local time left until a train time (R400): enough ticks for TT to reach it at the present rate. -/
def State.ticksTo (s : State) (t : TimeNs) : Nat :=
  let d : Int := (t : Int) * 2 ^ 32 - s.time.ttFp
  let r := ttAdvance s.time.freq 1
  if 0 < d then ((d + r - 1) / r).toNat else 0
/-- Let time pass until TT reaches an instant. -/
def State.passToTt (s : State) (t : TimeNs) : State := s.pass (s.ticksTo t)

/-- The slots that are due at an instant, in the order in which they were filled (R116). -/
def State.slotsDue (s : State) (t : TimeNs) : List Nat := s.slotsInOrder.filter (fun i => s.dueAt i == t)

/-- The earliest due instant arrives (R116, R117): of the actions due then, the permissive ones are applied first, then the restrictive ones. -/
def State.slotDue (s : State) : State :=
  if s.standby then s else match s.nextSlotTt with
  | none => s
  | some t =>
    let due := s.slotsDue t
    let s1 := s.passToTt t
    let s2 := forEach (due.filter (fun i => permissive (s.slot i).action)) State.runSlot s1
    forEach (due.filter (fun i => !permissive (s.slot i).action)) State.runSlot s2

def execSlotDue (s : State) : Host.Outcome State Fault Refusal := runSeq s State.slotDue

/-- Cancel the armed permissive slots whose targets overlap an immediate restrictive action (R103). WITHDRAW_PERMIT, whose target is ignored
(R97), overlaps none: log entry 82. -/
def State.cancelSlots (s : State) (mask : Nat) : State :=
  forEach (s.slotsInOrder.filter (fun i => permissive (s.slot i).action && (s.slot i).target &&& mask != 0))
    (fun s i => (s.raise 0x3006 i).freeSlot i) s

/-- A verified ACTION (R102, R103, R112, R113): its result code, 0 for taken, and the state after. `t` is 0 for immediate. -/
def State.takeAction (s : State) (a mask key src conn : Nat) (t : TimeNs) : Nat × State :=
  let now := s.tt
  let imm (late : Bool) : State := { s with seq := { s.seq with imm := s.seq.imm ++ [⟨a, mask, key, late, t, some s.lt⟩] } }
  if t = 0 then (0, if permissive a then imm false else (imm false).cancelSlots (if a = 8 then 0 else mask))
  else if t < now + 100000 then
    if permissive a then (1, (s.raise 0x3003 noInst (leBytes 1 0)).count 261)
    else (0, imm (decide (s.rf .portalSeqGrace 0 15 0 * 1000000 + t < now)))
  else match (List.range 64).find? s.slotFree with
    | none => (2, s.raise 0x3007 noInst)
    | some i =>
      let st := if permissive a && !s.quality.armed then 2 else 1
      let s1 := (s.setSlot i ⟨st, a, mask, key, src, t, s.seq.slotOrder, conn, some s.lt⟩).raise 0x3001 i
      let s2 := if st = 2 then s1.raise 0x3005 i else s1
      (0, ({ s2 with seq := { s2.seq with slotOrder := s2.seq.slotOrder + 1 } }).mirrorSlot i)

/-! ### Isolation, restoration, emergency reset (R104, R106, R120) -/

/-- Whether the fault sources of a portal in FAULT have gone (T26): its links and dies run, its ports' conditions have been absent
for 10 ms (R263), and no limit input is active. -/
def State.faultGone (s : State) (p : Nat) : Bool :=
  !s.portalLinkLost p && (s.presentAxes p).all (fun n =>
    (!s.onLink n || (s.link (s.axisStage n).1).phase == 2) && (match s.fbOf n with
      | some m => s.fbClearable m
      | none => true)
    && !(s.axis n).limClose.latched && !(s.axis n).limOpen.latched && !(s.axis n).home.latched)

/-- Clear the faults of a portal's axes and ports at T26 (R263, R284): the stages get CLR in the next frame. -/
def State.clearAxisFaults (s : State) (p : Nat) : State :=
  forEach (s.presentAxes p) (fun s n =>
    let s1 := s.modAxis n (fun x => { x with fault := false, faultCause := 0 })
    let s2 := match s1.fbOf n with
      | some m => s1.fbClear m
      | none => s1
    if s2.onLink n then s2.modLink (s2.axisStage n).1 (fun l => { l with clrNext := l.clrNext ||| 2 ^ (s2.axisStage n).2 }) else s2) s

/-- The emergency reset of one portal (T22, T26): true where it acts. -/
def State.emergencyReset (s : State) (p : Nat) : State × Bool :=
  if (s.portal p).rankNow < 3 then (s, false)
  else match (s.portal p).st with
    | .emergency => if s.inHandle p then (s, false) else ((s.leaveEmergency p).acted p 3, true)
    | .fault => if s.faultGone p then (((s.clearAxisFaults p).toReferencing p).acted p 3, true) else (s, false)
    | _ => (s, false)

/-- Portal isolation (T23, R106): true where it is done. -/
def State.isolate (s : State) (p : Nat) : State × Bool :=
  if s.portalEn p && (s.portal p).st != .unused && s.inLocked p && s.inIsolate p && decide (3 ≤ (s.portal p).rankNow) then
    let s1 := s.raise 0x3016 p
    let s2 := forEach (s1.presentAxes p) (fun s n => if (s.axis n).vel = 0 then s.removeTorque n else s.emergencyStop n .fault) s1
    ((s2.enter p .isolated).acted p 3, true)
  else (s.raise 0x3008 p, false)

/-- Portal restoration (T24, R106), or the emergency reset where the portal is in EMERGENCY or FAULT. -/
def State.restore (s : State) (p : Nat) : State × Bool :=
  if (s.portal p).st = .isolated ∧ !s.inIsolate p ∧ s.portalEn p then
    (((s.raise 0x3017 p).toReferencing p).acted p 3, true)
  else
    let r := s.emergencyReset p
    if r.2 then r else (r.1.raise 0x3008 p, false)

/-! ### Commands of the portals' inputs and timers -/

/-- T1: the catalogue has been applied. -/
def State.t1 (s : State) (p : Nat) : State := if s.portalEn p && (s.portal p).st == .unused then s.toReferencing p else s

/-- A passenger request: the input goes from off to on (R122). -/
def State.request (s : State) (p : Nat) (inside : Bool) : State :=
  let lv := if inside then s.inReqInside p else s.inReqOutside p
  let old := if inside then (s.portal p).reqIn else (s.portal p).reqOut
  let s1 := s.modPortal p (fun q => if inside then { q with reqIn := lv } else { q with reqOut := lv })
  let q := s1.portal p
  if !lv || old || decide (q.rankNow < 7) then s1
  else if (q.st == .released || q.st == .closed) && q.reqEnabled then (s1.t7 p).acted p 7
  else if (q.st == .warning || q.st == .closing) && s.rb .portalCfg p 7 && !q.forced then (s1.reopenOn p).acted p 7
  else s1

def execPassengerRequest (p : Fin 16) (inside : Bool) (s : State) : Host.Outcome State Fault Refusal :=
  runSeq s (fun s => s.request p inside)

/-- The presence input as it stands (R104, R123): active, it reopens from WARNING or CLOSING and holds DWELL at its full value;
inactive, DWELL starts again and T9 may follow. -/
def State.presenceNow (s : State) (p : Nat) : State :=
  let on := s.inPresence p
  let q := s.portal p
  let hold := s.rb .portalCfg p 9
  let s1 := s.modPortal p (fun q => { q with presence := on })
  match q.st with
  | .open_ =>
    if on then (if hold then s1.modPortal p (fun q => { q with
        dwellHeld := q.dwellHeld || q.dwellStart.isSome || q.dwellDone, dwellStart := none, dwellDone := false }) else s1)
    else
      let s2 := if q.dwellHeld then s1.modPortal p (fun q => { q with dwellStart := some s.lt, dwellHeld := false }) else s1
      s2.tryT9 p
  | .warning | .closing => if on && hold && !q.forced && decide (7 ≤ q.rankNow) then (s1.reopenOn p).acted p 7 else s1
  | _ => s1

def execPresenceInput (p : Fin 16) (s : State) : Host.Outcome State Fault Refusal := runSeq s (fun s => s.presenceNow p)

/-- T21 where its conditions hold (R104, R119). -/
def State.tryT21 (s : State) (p : Nat) : State :=
  let c := (s.portal p).st.code
  if decide (2 ≤ c ∧ c ≤ 11) && s.inHandle p && s.zeroSpeed && decide (2 ≤ (s.portal p).rankNow) then (s.toEmergency p).acted p 2 else s

/-- The emergency handle becomes active (R119). -/
def State.handle (s : State) (p : Nat) : State :=
  let q := s.portal p
  when_ (s.portalEn p && s.inHandle p && !q.handle) (fun s =>
    (((s.modPortal p (fun q => { q with handle := true, emgPending := true })).flag p 5).raise 0x3014 p).tryT21 p) s

def execEmergencyHandle (p : Fin 16) (s : State) : Host.Outcome State Fault Refusal := runSeq s (fun s => s.handle p)

/-- The zero-speed input becomes active (R119). -/
def State.zeroSpeedOn (s : State) : State :=
  when_ (s.zeroSpeed && !s.seq.zeroSpeed) (fun s =>
    forEach (s.enabledPortals.filter (fun p => (s.portal p).emgPending)) State.tryT21
      { s with seq := { s.seq with zeroSpeed := true } }) s

def execZeroSpeedActive (s : State) : Host.Outcome State Fault Refusal := runSeq s State.zeroSpeedOn

/-- The zero-speed input goes inactive (R101). -/
def State.zeroSpeedOff (s : State) : State :=
  when_ (!s.zeroSpeed && s.seq.zeroSpeed) (fun s =>
    let s1 := { s with seq := { s.seq with zeroSpeed := false } }
    let ps := s1.enabledPortals.filter (fun p => (s1.portal p).st.moving)
    if ps = [] then s1
    else (s1.raise 0x3022 noInst).execute 6 (ps.foldl (fun m p => m + 2 ^ p) 0) false s.tt none) s

def execZeroSpeedLost (s : State) : Host.Outcome State Fault Refusal := runSeq s State.zeroSpeedOff

/-- T5 (R104, R109). An OPEN goes on to OPENING. -/
def State.unlocked (s : State) (p : Nat) : State :=
  let q := s.portal p
  when_ (q.st == .unlocking && !s.inLocked p && (!(q.stepWanted && s.rb .portalCfg p 6) || s.inDeployed p)) (fun s =>
    let s1 := s.enter p .released
    if q.openWanted then s1.t7 p else s1) s

def execUnlockComplete (p : Fin 16) (s : State) : Host.Outcome State Fault Refusal := runSeq s (fun s => s.unlocked p)

/-- STEP_DEPLOYED becomes active (R109): STEP_TIME ends, and leaves that waited for it start. -/
def State.deployed (s : State) (p : Nat) : State :=
  when_ (s.inDeployed p && ((s.portal p).stepWanted || (s.portal p).stepOut)) (fun s =>
    let s1 := s.modPortal p (fun q => { q with stepStart := none, stepOut := false })
    if (s.portal p).st == .opening && (s.portal p).stepOut then s1.startLeaves p true else s1) s

def execStepDeployed (p : Fin 16) (s : State) : Host.Outcome State Fault Refusal := runSeq s (fun s => s.deployed p)

/-- Entry to LOCKED by T2 or T19. A LOCK that completes with every portal locked or secured ends WITHDRAW_PERMIT (R97). -/
def State.toLocked (s : State) (p : Nat) : State :=
  (s.enter p .locked).liftWithdraw

/-- In LOCKING the LOCKED input becomes active (R110). -/
def State.lockedInput (s : State) (p : Nat) : State :=
  let q := s.portal p
  when_ (q.st == .locking && s.inLocked p && !q.lockSeen) (fun s =>
    if s.hasStep p then (s.modPortal p (fun q => { q with lockSeen := true, stepStart := some s.lt, reclosing := none })).startStep p false
    else s.toLocked p) s

def execLockedInputActive (p : Fin 16) (s : State) : Host.Outcome State Fault Refusal := runSeq s (fun s => s.lockedInput p)

/-- T19 once the step is stowed. -/
def State.stepStowed (s : State) (p : Nat) : State :=
  let q := s.portal p
  when_ (q.st == .locking && q.lockSeen && s.inLocked p && s.inStowed p) (fun s => s.toLocked p) s

def execStepStowed (p : Fin 16) (s : State) : Host.Outcome State Fault Refusal := runSeq s (fun s => s.stepStowed p)

/-- T2. -/
def State.homingDone (s : State) (p : Nat) : State :=
  when_ ((s.portal p).st == .referencing && (s.presentAxes p).all (fun n => (s.axis n).referenced && s.standing n) && s.closedAB p
      && s.inLocked p && s.inStowed p) (fun s =>
    (s.modPortal p (fun q => { q with unreferenced := false })).toLocked p) s

def execHomingDone (p : Fin 16) (s : State) : Host.Outcome State Fault Refusal := runSeq s (fun s => s.homingDone p)

/-- T8. -/
def State.leavesOpen (s : State) (p : Nat) : State :=
  when_ ((s.portal p).st == .opening && s.leavesAt p (fun n => s.rs .axisTgtOpen n)) (fun s => s.toOpen p false) s

def execLeavesAtOpen (p : Fin 16) (s : State) : Host.Outcome State Fault Refusal := runSeq s (fun s => s.leavesOpen p)

/-- T15: the leaves stand at the reopen target, or at rest beyond it (R736). -/
def State.leavesReopened (s : State) (p : Nat) : State :=
  when_ ((s.portal p).st == .reopening && (s.leaves p).all (fun n => s.standing n && s.beyond n (s.reopenTarget n))) (fun s =>
    s.toOpen p true) s

def execLeavesAtReopenTarget (p : Fin 16) (s : State) : Host.Outcome State Fault Refusal := runSeq s (fun s => s.leavesReopened p)

/-- T16 and T17: at the closed position with both switches; while unreferenced, on the switches alone (R118). -/
def State.leavesClosed (s : State) (p : Nat) : State :=
  let q := s.portal p
  when_ (q.st == .closing && s.closedAB p && (q.unreferenced || s.leavesAt p (fun n => s.rs .axisTgtClosed n))) (fun s =>
    let s1 := if q.unreferenced then s.stopAll (s.leafGroup p) else s
    if q.lockPending then s1.toLocking p else s1.enter p .closed) s

def execLeavesClosed (p : Fin 16) (s : State) : Host.Outcome State Fault Refusal := runSeq s (fun s => s.leavesClosed p)

/-- DWELL elapses (R123, T9). Where a trigger above it has acted in this motion cycle, T9 waits for the next (log entry 84). -/
def State.dwellElapsed (s : State) (p : Nat) : State :=
  let q := s.portal p
  match q.dwellStart with
  | none => s
  | some t =>
    when_ (q.st == .open_) (fun s =>
      let s1 := s.passTo (t + ms (s.rf .portalTDwell p 15 0))
      (s1.modPortal p (fun q => { q with dwellStart := none, dwellDone := true })).tryT9 p) s

def execDwellElapsed (p : Fin 16) (s : State) : Host.Outcome State Fault Refusal := runSeq s (fun s => s.dwellElapsed p)

/-- OBST_WAIT elapses (R124). -/
def State.obstWaitElapsed (s : State) (p : Nat) : State :=
  let q := s.portal p
  match q.obstStart with
  | none => s
  | some t =>
    let s1 := s.passTo (t + ms (s.rf .portalTDwell p 31 16))
    (s1.modPortal p (fun q => { q with obstStart := none })).tryT9 p

def execObstWaitElapsed (p : Fin 16) (s : State) : Host.Outcome State Fault Refusal := runSeq s (fun s => s.obstWaitElapsed p)

/-- WARN_PRE elapses (T11): the closing start enters the queue, and the grant takes T11. -/
def State.warnElapsed (s : State) (p : Nat) : State :=
  let q := s.portal p
  match q.warnStart with
  | none => s
  | some t =>
    when_ (q.st == .warning && !q.warnDone) (fun s =>
      let s1 := s.passTo (t + ms (s.rf .portalTWarn p 15 0))
      (s1.modPortal p (fun q => { q with warnDone := true })).startLeaves p false) s

/-- FLASH has passed: the warning lamp changes level (R125). -/
def State.flashToggle (s : State) (p : Nat) : State :=
  when_ ((s.portal p).st.warns) (fun s =>
    let s1 := s.passTo (s.portal p).flashNext
    (s1.modPortal p (fun q => { q with warnLamp := !q.warnLamp, flashNext := q.flashNext + ms (10 * s.rf .portalTWarn p 23 16) })).commandSwitches) s

def execFlashToggle (p : Fin 16) (s : State) : Host.Outcome State Fault Refusal := runSeq s (fun s => s.flashToggle p)

/-- CHIME_ON has passed (R125). -/
def State.chimeOff (s : State) (p : Nat) : State :=
  when_ (s.portal p).chime (fun s =>
    ((s.passTo (s.portal p).chimeEnd).modPortal p (fun q => { q with chime := false })).commandSwitches) s

def execChimeEnd (p : Fin 16) (s : State) : Host.Outcome State Fault Refusal := runSeq s (fun s => s.chimeOff p)

/-- UNLOCK_TIME elapses in UNLOCKING (T6): the lock, or else the step, is late. -/
def State.unlockFail (s : State) (p : Nat) : State :=
  let q := s.portal p
  when_ (q.st == .unlocking) (fun s =>
    let s1 := s.passTo (q.unlockStart + ms (s.rf .portalTLock p 15 0))
    if s.inLocked p then s1.failTo p 5 0x3010
    else if q.stepWanted && s.rb .portalCfg p 6 && !s.inDeployed p then s1.failTo p 7 0x3012
    else s1) s

def execUnlockFail (p : Fin 16) (s : State) : Host.Outcome State Fault Refusal := runSeq s (fun s => s.unlockFail p)

/-- LOCK_TIME elapses the first time (R107): the leaves are driven closed, with holding current. -/
def State.lockTime (s : State) (p : Nat) : State :=
  let q := s.portal p
  when_ (q.st == .locking && !q.reclosed && q.reclosing.isNone && !s.inLocked p && !q.lockSeen) (fun s =>
    let s1 := s.passTo (q.lockStart + ms (s.rf .portalTLock p 31 16))
    forEach (s1.leaves p) (fun s n => s.moveTo n (s.rs .axisTgtClosed n)) (s1.modPortal p (fun q => { q with reclosing := some s1.lt }))) s

def execLockTimeElapsed (p : Fin 16) (s : State) : Host.Outcome State Fault Refusal := runSeq s (fun s => s.lockTime p)

/-- The 200 ms re-close ends, the drive with it, and a further LOCK_TIME starts (R107). -/
def State.recloseEnd (s : State) (p : Nat) : State :=
  match (s.portal p).reclosing with
  | none => s
  | some t =>
    let s1 := s.passTo (t + ms 200)
    (s1.stopAll (s1.leaves p)).modPortal p (fun q => { q with reclosing := none, reclosed := true, lockStart := s1.lt })

def execRecloseEnd (p : Fin 16) (s : State) : Host.Outcome State Fault Refusal := runSeq s (fun s => s.recloseEnd p)

/-- LOCK_TIME elapses after the re-close (T20). -/
def State.lockFail (s : State) (p : Nat) : State :=
  let q := s.portal p
  when_ (q.st == .locking && q.reclosed && !s.inLocked p && !q.lockSeen) (fun s =>
    (s.passTo (q.lockStart + ms (s.rf .portalTLock p 31 16))).failTo p 6 0x3011) s

def execLockFail (p : Fin 16) (s : State) : Host.Outcome State Fault Refusal := runSeq s (fun s => s.lockFail p)

/-- The step misses STEP_TIME (R107, R118). -/
def State.stepFail (s : State) (p : Nat) : State :=
  let q := s.portal p
  match q.stepStart with
  | none => s
  | some t =>
    when_ (if q.st == .locking then !s.inStowed p else q.st.moving && !s.inDeployed p) (fun s =>
      (s.passTo (t + ms (s.rf .portalTStep p 15 0))).failTo p 7 0x3012) s

def execStepFail (p : Fin 16) (s : State) : Host.Outcome State Fault Refusal := runSeq s (fun s => s.stepFail p)

/-- Whether homing has faulted an axis (R214): cause 3 or 4. -/
def State.homingFault (s : State) (p : Nat) : Bool :=
  (s.presentAxes p).any (fun n => (s.axis n).fault && ((s.axis n).faultCause == 3 || (s.axis n).faultCause == 4))

/-- Homing faults, or 30 s pass in REFERENCING (T3). -/
def State.referenceFail (s : State) (p : Nat) : State :=
  let q := s.portal p
  when_ (q.st == .referencing) (fun s =>
    let s1 := if s.homingFault p then s else s.passTo (q.refStart + sec 30)
    let s2 := ((s1.acted p 1).modPortal p (fun q => { q with faultCause := 8 })).raise 0x3013 p
    (forEach (s2.presentAxes p) (fun s n => s.emergencyStop n .fault) s2).enter p .fault) s

def execReferenceFail (p : Fin 16) (s : State) : Host.Outcome State Fault Refusal := runSeq s (fun s => s.referenceFail p)

/-! ### The current budget arbiter (R127 to R132) -/

/-- Sum of the reservations of all axes, in 0.25 A. -/
def State.committed (s : State) : Nat := ((List.range 64).map (fun n => (s.axis n).resAmp)).foldl (· + ·) 0

/-- S_MIN in 1/256; 0 means 16/16 (R137). -/
def State.sMin (s : State) : Nat := let v := s.rf .portalSeqBudget 0 31 28; if v = 0 then 256 else 16 * v

/-- Order of the queue (R129): the starts that have waited longer than MAX_DELAY first, each group in arrival order, ties by
portal and role. -/
def State.startOrder (s : State) : List Start :=
  let lim := ms (s.rf .portalSeqBudget 0 25 16)
  let key (t : Start) : Nat × Nat × Nat := (if t.since + lim < s.lt then 0 else 1, t.since, 4 * t.portal + t.axes.headD 0)
  sortBy (fun a b =>
    let x := key a; let y := key b
    decide (x.1 < y.1 ∨ (x.1 = y.1 ∧ (x.2.1 < y.2.1 ∨ (x.2.1 = y.2.1 ∧ x.2.2 ≤ y.2.2))))) s.seq.starts

/-- I_ACC and I_EDEC of an axis (R127). -/
def State.iAcc (s : State) (n : Nat) : Nat := fld (s.reg .portalCur (n / 4) (n % 4)) 7 0
def State.iEdec (s : State) (n : Nat) : Nat := fld (s.reg .portalCur (n / 4) (n % 4)) 23 16

/-- Scale of a start in 1/256 for what is left of the budget (R129); 1 where no axis of the start has an I_ACC (log entry 83). -/
def State.scaleFor (s : State) (axes : List Nat) (left : Nat) : Nat :=
  let full := (axes.map s.iAcc).foldl (· + ·) 0
  if full = 0 then 256 else min 256 (left * 256 / full)
/-- Reservation of an axis at a scale, in 0.25 A rounded up (R127). -/
def State.needOf (s : State) (n sc : Nat) : Nat := max (divCeil (s.iAcc n * sc) 256) (s.iEdec n)
/-- What a start needs, in 0.25 A rounded up (R129). -/
def State.needAll (s : State) (axes : List Nat) (sc : Nat) : Nat :=
  divCeil ((axes.map (fun n => max (s.iAcc n * sc) (256 * s.iEdec n))).foldl (· + ·) 0) 256

/-- Target of an axis for a kind of start. -/
def State.startTarget (s : State) (n kind : Nat) : Int := if kind = 0 ∨ kind = 2 then s.rs .axisTgtOpen n else s.rs .axisTgtClosed n

/-- Grant a start with a scale (R129 to R131): its delay is recorded, its axes get their targets, and a closing takes T11. -/
def State.grant (s : State) (t : Start) (sc : Nat) : State :=
  let p := t.portal
  let d := (s.lt - t.since) / ticksPerUs
  let late := decide (s.rf .portalSeqBudget 0 25 16 * 1000 < d)
  let s1 := { s with seq := { s.seq with starts := s.seq.starts.filter (fun u => u != t) } }
  let s2 := s1.modPortal p (fun q => { q with lastDelay := d, longDelay := max q.longDelay d })
  let s3 := if late then ((s2.raise 0x3021 p (leBytes 4 d)).flag p 4).count 263 else s2
  let s4 := if sc < 256 then s3.flag p 8 else s3
  let s5 := forEach t.axes (fun s n =>
    (s.moveTo n (s.startTarget n t.kind)).modAxis n (fun x => { x with scale := sc, res := .accel, resAmp := s.needOf n sc })) s4
  if t.kind = 1 ∧ (s5.portal p).st = .warning then s5.enter p .closing else s5

/-- Grant the starts of the queue in order while the budget allows; `com` is what is committed so far. -/
def grantGo : List Start → Nat → State → State
  | [], _, s => s
  | t :: ts, com, s =>
    let budget := 4 * s.rf .portalSeqBudget 0 9 0
    let sc := s.scaleFor t.axes (budget - com)
    let com' := com + s.needAll t.axes sc
    if s.sMin ≤ sc ∧ com' ≤ budget then grantGo ts com' (s.grant t sc) else s

/-- One run of the arbiter. -/
def State.arbitrate (s : State) : State := grantGo s.startOrder s.committed s

/-- WARN_PRE elapses with the budget granted (T11): the arbiter decides at once whether the closing start may go. -/
def execWarnPreElapsed (p : Fin 16) (s : State) : Host.Outcome State Fault Refusal := runSeq s (fun s => (s.warnElapsed p).arbitrate)

/-! ### A portal in one motion cycle (R108) -/

/-- Pending restrictive actions are applied where no trigger above them acts (R108). -/
def State.applyHeld (s : State) (p : Nat) : State :=
  let q := s.portal p
  if q.rankNow < 5 then s
  else forEach q.heldRestrictive (fun s h => (s.actOn p h.1 h.2).1) (s.modPortal p (fun q => { q with heldRestrictive := [] }))

/-- Exclusions of R163 that hold for a while, and UNREFERENCED. -/
def State.noteCycle (s : State) (p : Nat) : State :=
  let unref := (s.presentAxes p).any (fun n => !(s.axis n).referenced)
  let held := (s.presentAxes p).any (fun n => (s.axis n).heldReply)
  let s1 := s.modPortal p (fun q => { q with unreferenced := q.st != .unused && q.st != .referencing && unref })
  if (s.portal p).inCycle && (unref || held) then s1.flag p 8 else s1

/-- Triggers of ranks 1 to 8 that stand at a motion cycle boundary: faults (T25), the handle (T21), trips (T13), pending
restrictive actions, the presence input, T9, and the warning time once the leaves stand (T10). -/
def State.portalCycle (s : State) (p : Nat) : State :=
  if !s.portalEn p then s
  else
    let s0 := s.modPortal p (fun q => { q with rankNow := 9, tripSeen := false, reqIn := q.reqIn && s.inReqInside p, reqOut := q.reqOut && s.inReqOutside p,
                                               handle := q.handle && s.inHandle p, emgPending := q.emgPending && s.inHandle p })
    let st := (s0.portal p).st
    let src := s0.faultSource p
    let live := st != .unused && st != .isolated && st != .fault
    let homing := st == .referencing && s0.homingFault p
    let s1 := if live && src != 0 && !homing then s0.toFault p src else s0
    let s2 := if (s1.portal p).emgPending then s1.tryT21 p else s1
    let s3 := if (s2.portal p).st == .closing && (s.portal p).tripSeen && decide (4 ≤ (s2.portal p).rankNow) then (s2.toReopening p true).acted p 4 else s2
    let s4 := s3.applyHeld p
    let s5 := if decide (7 ≤ (s4.portal p).rankNow) then s4.presenceNow p else s4
    let q := s5.portal p
    let s6 := if q.st == .warning && q.warnStopping && (s5.leafGroup p).all (fun n => (s5.axis n).mode != .executing) then
        s5.modPortal p (fun q => { q with warnStopping := false, warnStart := some s5.lt }) else s5
    s6.noteCycle p

end Sys2Proof.Machine
end

