-- ==== Sys2Proof/Machine/DriveLink.lean ====
section
/-!
DEFINITION. Sys2Proof/Machine/DriveLink.lean: the drive links (R269 to R292): start and delay measurement, downlink frames, reply
checks, link faults.
-/
namespace Sys2Proof.Machine
open Sys2Proof

/-- Configured stages of a link (R290). -/
def State.stages (s : State) (l : Nat) : Nat := s.rf .dlkCfg l 3 1 + 1
/-- EN of a link. -/
def State.linkEn (s : State) (l : Nat) : Bool := s.rb .dlkCfg l 0
/-- DLn_EN_N pulled low, and ACTIVE (R286). -/
def State.enOut (s : State) (l : Nat) : Bool := (s.link l).phase == 2 && s.driveEnable
/-- Axes on a link. -/
def State.linkAxes (s : State) (l : Nat) : List Nat := (List.range 64).filter (fun n => s.onLink n && (s.axisStage n).1 == l)

/-- Code of an engine mode (R225). -/
def AMode.code : AMode → Nat
  | .off => 0
  | .holding => 1
  | .executing => 2
  | .emergency => 3
  | .homing => 4
  | .brakeTest => 5
  | .relief => 6

/-- A link starts (R285): K28.5 for 100 us. A standby runs no start of its own (R514). -/
def State.dlStart (s : State) (l : Nat) : State :=
  s.modLink l (fun d => { d with phase := 1, cause := 0, seqNext := 0, sent := false, replied := false,
                                 idleStart := if s.standby then none else some s.lt,
                                 loopStage := none, loopSent := 0, clearing := false, goodCycles := 0, seenBad := 0, failRun := [],
                                 stgFault := 0, held := 0 })

/-- A link enters FAULT (R284, R285): every axis on it faults with cause 6 and loses its torque. -/
def State.dlFault (s : State) (l c : Nat) : State :=
  let s1 := (s.modLink l (fun d => { d with phase := 3, cause := c, idleStart := none, loopStage := none, clearing := false })).raise 0x6006 l
    (leBytes 1 c)
  forEach (s1.linkAxes l) (fun s n => s.faultAxisOff n 6) s1

/-- DLK[k]_CFG is written (R285): a link whose EN is set starts, one whose EN is cleared is off. -/
def State.dlCfgWritten (s : State) (l : Nat) (was : Bool) : State :=
  if s.linkEn l then (if was then s else s.dlStart l) else s.modLink l (fun d => { d with phase := 0, idleStart := none, loopStage := none })

/-- CMD RESTART (R285): taken while every axis on the link is torque off. -/
def State.dlRestart (s : State) (l : Nat) : State :=
  when_ (s.linkEn l && (s.linkAxes l).all (fun n => (s.axis n).mode == .off)) (fun s => s.dlStart l) s

/-- The 100 us of K28.5 end (R285). -/
def State.dlIdleEnd (s : State) (l : Nat) : State :=
  match (s.link l).idleStart with
  | none => s
  | some t => (s.passTo (t + us 100)).modLink l (fun d => { d with idleStart := none, loopStage := some 0, loopSent := 0 })

def execDlStartIdleEnd (l : Fin 8) (s : State) : Host.Outcome State Fault Refusal := run s (fun s => s.dlIdleEnd l)

/-- DLY of a stage from the sum of its 16 round trips in ns (R285), in 10 ns. -/
def dlyOf (sum : Nat) : Int := divRound ((sum : Int) - 3200) 320

/-- The 16 loop frames of a stage are complete (R285): `trips` are the round trips in ns, none where the stage does not answer. -/
def State.dlMeasured (s : State) (l : Nat) (trips : List Nat) : State :=
  let d := s.link l
  match d.loopStage with
  | none => s
  | some k =>
    when_ (decide (16 ≤ d.loopSent)) (fun s =>
      let dly := dlyOf (trips.foldl (· + ·) 0)
      if trips.length ≠ 16 ∨ 255 < dly ∨ dly < 0 then s.dlFault l 3
      else
        let done := decide (s.stages l ≤ k + 1)
        s.modLink l (fun d => { d with dly := Table.set 0 d.dly k dly.toNat, loopStage := if done then none else some (k + 1),
                                       loopSent := 0, clearing := done, goodCycles := 0 })) s

def execDlDelayMeasured (l : Fin 8) (trips : List Nat) (s : State) : Host.Outcome State Fault Refusal :=
  run s (fun s => s.dlMeasured l trips)

/-! ### Downlink frames (R275, R276) -/

/-- A downlink slot with its SCRC. -/
def State.dlSlot (s : State) (l seq k : Nat) : List Byte :=
  let d := s.link l
  let clr := d.clearing || d.clrNext.testBit k || s.twin.clrFrames != 0
  let dead := d.phase != 2 || clr || s.standby
  let b := match s.stageAxis l k with
    | some n =>
      let x := s.axis n
      let m := if dead || x.mode == .off then 0 else x.mode.code
      beInt 6 x.posSp ++ beInt 4 x.spdSp ++ beInt 4 (divRound x.acc (2 ^ 32)) ++ beInt 4 (s.latchOf n) ++ leBytes 1 x.ilim
        ++ leBytes 1 (m + 8 * b2n x.brakeRel + 16 * b2n clr)
    | none => List.replicate 19 0 ++ leBytes 1 (16 * b2n (clr && decide (k < s.stages l)))
  let body := b ++ leBytes 1 (Table.get 0 d.dly k) ++ [0]
  body ++ beBytes 2 (crc16 (leBytes 1 l ++ beBytes 2 seq ++ body))

/-- The downlink frame between SOF and EOF. -/
def State.dlFrame (s : State) (l seq : Nat) : List Byte :=
  let d := s.link l
  let loop := match d.loopStage with
    | some k => if d.loopSent < 16 then 2 + 4 * k else 0
    | none => 0
  let h := leBytes 1 l ++ leBytes 1 (b2n (s.enOut l) + loop) ++ beBytes 2 seq ++ leBytes 1 (s.stages l) ++ [0]
  h ++ beBytes 2 (crc16 h) ++ (List.range 8).flatMap (s.dlSlot l seq)

/-- A downlink frame leaves at the boundary (R275, R281). A link that is off or still sends K28.5 sends none. -/
def State.dlSend (s : State) (l : Nat) : State :=
  let d := s.link l
  if d.phase = 0 ∨ d.idleStart.isSome then s
  else
    let f := s.dlFrame l d.seqNext
    ((s.modLink l (fun d => { d with frame := f, seqLast := d.seqNext, seqNext := (d.seqNext + 1) % 65536, sent := true, sentB := s.lt,
                                     replied := false, clrNext := 0, loopSent := if d.loopStage.isSome then d.loopSent + 1 else 0 })).count
      (112 + l)).emit (.driveFrame l f)

/-! ### Uplink frames (R279 to R284) -/

/-- Slot `k` of an uplink frame. -/
def upSlot (f : List Byte) (k : Nat) : List Byte := slice f (4 + 8 * k) 8
/-- Whether reply slot `k` is accepted (R283). -/
def State.slotOk (s : State) (l : Nat) (f : List Byte) (k : Nat) : Bool :=
  let d := s.link l
  let b := upSlot f k
  byteAt f 0 == l && beAt f 2 2 == d.seqLast && decide (s.lt ≤ d.sentB + us 13) && f.length == 68
    && beAt b 6 2 == crc16 (leBytes 1 l ++ beBytes 2 d.seqLast ++ b.take 6)

/-- A reply slot that is not accepted (R283). From the second failure in a row on the axis is faulted, anew where its fault has been cleared. -/
def State.slotHeld (s : State) (l k : Nat) : State :=
  let n1 := Table.get 0 (s.link l).failRun k + 1
  let s1 := (s.modLink l (fun d => { d with failRun := Table.set 0 d.failRun k n1, held := d.held ||| 2 ^ k })).count (120 + l)
  match s1.stageAxis l k with
  | none => s1
  | some n =>
    let s2 := (s1.modAxis n (fun x => { x with heldReply := true })).flag (n / 4) 8
    if n1 = 1 then s2.raise 0x6002 n
    else if (s2.axis n).fault && (s2.axis n).mode == .off && decide (2 < n1) then s2
    else (s2.faultAxisOff n 6).raise 0x6003 n

/-- INSTANCE of an event of a stage: its axis; for a stage that serves none, link × 8 + stage (log entry 92). -/
def State.stageInst (s : State) (l k : Nat) : Nat := (s.stageAxis l k).getD (8 * l + k)

/-- An accepted reply slot (R280, R284). -/
def State.slotTaken (s : State) (l k : Nat) (b : List Byte) : State :=
  let st := beAt b 0 2
  let d := s.link l
  let old := Table.get 0 d.stg k
  let code := fieldOf st 11 9
  let mute := (d.clearing || s.twin.clrFrames != 0) && code == 5
  let flt := st.testBit 8 && !mute
  let word := st + 2 ^ 16 * byteAt b 4 + 2 ^ 24 * byteAt b 5
  let s1 := s.modLink l (fun d => { d with stg := Table.set 0 d.stg k word, failRun := Table.set 0 d.failRun k 0,
                                           stgFault := if flt then d.stgFault ||| 2 ^ k else d.stgFault - (d.stgFault &&& 2 ^ k) })
  let up := decide (fieldOf old 6 6 < fieldOf st 6 6 ∨ fieldOf old 7 7 < fieldOf st 7 7)
  let i := s1.stageInst l k
  let s2 := if st.testBit 4 then s1.raise 0x6001 i else s1
  let s3 := if up then s2.raise 0x6005 i else s2
  let s4 := if flt && !(d.stgFault.testBit k && fieldOf old 11 9 == code) then s3.raise 0x6004 i (leBytes 1 code) else s3
  match s4.stageAxis l k with
  | none => s4
  | some n =>
    let s5 := s4.modAxis n (fun x => { x with current := signedOf 16 (beAt b 2 2), heldReply := false })
    let s6 := if fieldOf st 7 6 ≠ 0 then s5.flag (n / 4) 3 else s5
    if flt && !((s6.axis n).fault && (s6.axis n).mode == .off) then s6.faultAxisOff n 6 else s6

/-- One cycle without fault on a starting link brings it nearer to RUN (R285); on a standby's link every cycle counts (R514). -/
def State.dlProgress (s : State) (l : Nat) : State :=
  let d := s.link l
  if d.phase = 1 ∧ (d.clearing ∨ s.standby) then
    let ok := decide (d.held = 0)
    let g := if ok then d.goodCycles + 1 else 0
    if 4 ≤ g then (s.modLink l (fun d => { d with phase := 2, clearing := false, goodCycles := 0 })).raise 0x6007 l
    else s.modLink l (fun d => { d with goodCycles := g })
  else s

/-- A cycle whose SEEN differs or that had no uplink; the second in a row faults the link (R284). -/
def State.chainBad (s : State) (l c : Nat) : State :=
  let r := (s.link l).seenBad + 1
  let s1 := s.modLink l (fun d => { d with seenBad := r })
  if 2 ≤ r ∧ (s.link l).phase ≠ 3 then s1.dlFault l c else s1

/-- An uplink frame: each reply slot is accepted or held (R283). A standby takes its next SEQ from it (R514). -/
def State.dlReply (s : State) (l : Nat) (f : List Byte) : State :=
  let d := s.link l
  when_ (d.sent && !d.replied && d.loopStage.isNone) (fun s =>
    let seen := byteAt f 1
    let s1 := s.modLink l (fun d => { d with replied := true, held := 0, seen := min 8 seen,
                                             seqNext := if s.standby then (beAt f 2 2 + 1) % 65536 else d.seqNext })
    let s2 := forEach (List.range (s.stages l)) (fun s k => if s.slotOk l f k then s.slotTaken l k (upSlot f k) else s.slotHeld l k) s1
    let s3 := s2.dlProgress l
    if seen = s.stages l then s3.modLink l (fun d => { d with seenBad := 0 }) else s3.chainBad l 1) s

def execDlReply (l : Fin 8) (frame : List Byte) (s : State) : Host.Outcome State Fault Refusal := run s (fun s => s.dlReply l frame)

/-- No uplink EOF by B + 13.0 us (R283): every reply has failed. -/
def State.dlTimeout (s : State) (l : Nat) : State :=
  let d := s.link l
  when_ (d.sent && !d.replied && d.loopStage.isNone) (fun s =>
    let s0 := s.passTo (d.sentB + us 13)
    let s1 := s0.modLink l (fun d => { d with replied := true, held := 0 })
    let s2 := forEach (List.range (s.stages l)) (fun s k => s.slotHeld l k) s1
    (s2.dlProgress l).chainBad l 2) s

def execDlUplinkTimeout (l : Fin 8) (s : State) : Host.Outcome State Fault Refusal := run s (fun s => s.dlTimeout l)

end Sys2Proof.Machine
end

