-- ==== Sys2Proof/Machine/Interlock.lean ====
section
/-!
DEFINITION. Sys2Proof/Machine/Interlock.lean: the safety outputs and their two channels, the cross-check, two-channel pairs, the
off-pulse test, contactor monitors, the parameter watch, the brake test and the safety change log (R293 to R333).
-/
namespace Sys2Proof.Machine
open Sys2Proof

/-! ### Latched faults and their effect on the outputs (R320, R321) -/

/-- Monitors that are in use (R310). -/
def State.monFb (s : State) (i : Nat) : Nat := if i < 4 then s.rf .ilkMonSo i 24 16 else s.rf .ilkMonFc (i - 4) 24 16
/-- WITHDRAW of a monitor; MON[0] to MON[3] always withdraw. -/
def State.monWithdraws (s : State) (i : Nat) : Bool := decide (i < 4) || s.rb .ilkMonFc (i - 4) 26
/-- A latched fault withdraws all four outputs. -/
def State.latchedAll (s : State) : Bool := s.ilk.pcrcFault || s.ilk.xchk || (List.range 4).any (fun k => (s.so k).test)
/-- A latched fault withdraws output SOk (R320). -/
def State.latchedOff (s : State) (k : Nat) : Bool :=
  s.latchedAll || (decide (k < 2) && (List.range 20).any (fun i => (s.mon i).fault && s.monWithdraws i))
/-- A fault that withdraws SO0 and SO1 also executes WITHDRAW_PERMIT (R321). -/
def State.faultWithdraw (s : State) : State := when_ (!s.standby) (fun s => s.execute 8 0 false s.tt none) s

/-! ### Commanded levels (R322) -/

/-- SO_CMD (R332). -/
def State.soCmd (s : State) : Nat := (List.range 4).foldl (fun a k => a + b2n (s.so k).cmd * 2 ^ k) 0

/-- A new level of one output: its readback follows unless a failure is latched on it, and its monitor's window starts. -/
def State.soLevel (s : State) (k : Nat) (v : Bool) : State :=
  if (s.so k).cmd = v then s
  else s.modSo k (fun o => { o with cmd := v, pulse := false, changed := s.lt, readback := if o.test then o.readback else v })

/-- The field frame of 10 us in which the present instant falls. -/
def State.frameNow (s : State) : Nat := s.tt / 10000

/-- Record the change of an earlier field frame (R322): the levels, and 1 for channel A, 2 for B, 3 for both. Log entry 93. -/
def State.soRecord (s : State) : State := match s.ilk.soChange with
  | some (f, c) => if f = s.frameNow then s else ({ s with ilk := { s.ilk with soChange := none } }).raise 0x7021 noInst (leBytes 1 s.soCmd ++ leBytes 1 c)
  | none => s

/-- Drive the two outputs of a channel (A: SO0 and SO2, B: SO1 and SO3); a change is recorded when its field frame is over (R322). -/
def State.driveSo (s : State) (b : Bool) (v0 v1 : Bool) : State :=
  let i := b2n b
  let s0 := s.soRecord
  let s1 := (s0.soLevel i v0).soLevel (2 + i) v1
  if s1.soCmd = s0.soCmd then s1
  else
    let c := match s1.ilk.soChange with
      | some (_, c) => c ||| (i + 1)
      | none => i + 1
    { s1 with ilk := { s1.ilk with soChange := some (s1.frameNow, c) } }

/-! ### Channel A (R95, R96, R296) -/

/-- Whether a portal with EN 1 contributes Permit to SO0 (`k` 0) or SO2 (`k` 1) (R95, R96). Its Neutral in UNUSED is no Permit: log entry 90. -/
def State.permits (s : State) (p k : Nat) : Bool :=
  match (s.portal p).st with
  | .locked => true
  | .locking => k == 1 && s.inLocked p
  | .isolated => s.inLocked p && s.inIsolate p
  | _ => false

/-- The switches of a portal in LOCKED (R296). -/
def State.lockedSwitches (s : State) (p k : Nat) : Bool :=
  (s.portal p).st != .locked || (s.closedAB p && s.inLocked p && (k == 1 || !s.hasStep p || s.inStowed p))

/-- The conditions of SO0 (`k` 0) and SO2 (`k` 1). With no portal at EN 1 the output stays off, as channel B's does with
PORT_MASK 0. Log entry 30. -/
def State.channelALevel (s : State) (k : Nat) : Bool :=
  s.enabledPortals != [] && s.enabledPortals.all (fun p => s.permits p k && s.lockedSwitches p k)
    && (k == 1 || !s.seq.withdraw) && !s.latchedOff (2 * k)

/-- The Control Processor decides SO0 and SO2 (R296). -/
def State.channelA (s : State) : State := s.driveSo false (s.channelALevel 0) (s.channelALevel 1)

/-- A switch of a portal opens while it is in LOCKED (R296): channel A is withdrawn and the portal's state stays. -/
def execSwitchOpenInLocked (p : Fin 16) (s : State) : Host.Outcome State Fault Refusal :=
  run s (fun s => when_ ((s.portal p).st == .locked && !s.lockedSwitches p 0) (fun s => s.channelA) s)

/-! ### Channel B (R297, R298) -/

/-- The Interlock Logic's own filtered value of a source code, active where it is 0x1FF. -/
def State.ilkIn (s : State) (c : Nat) : Bool := c == notConnected || Table.get false s.ilk.val c

/-- One sample into the Interlock Logic's own counter filter (R297, R345). -/
def State.ilkSample (s : State) (c : Nat) (on : Bool) : State :=
  let n := s.rf .ilkCfg 0 27 16
  let k := min (Table.get 0 s.ilk.cnt c) n
  let v := if on then min (k + 1) n else k - 1
  let f := if v = n then true else if v = 0 then false else Table.get false s.ilk.val c
  { s with ilk := { s.ilk with cnt := Table.set 0 s.ilk.cnt c v, val := Table.set false s.ilk.val c f } }

/-- Every input of a tile reads inactive to the Interlock Logic (R298). -/
def State.ilkTileOff (s : State) (k : Nat) : State :=
  { s with ilk := { s.ilk with cnt := s.ilk.cnt.filter (fun e => e.1 / 32 != k), val := s.ilk.val.filter (fun e => e.1 / 32 != k) } }

/-- door_ok of a portal (R297). -/
def State.doorOk (s : State) (p : Nat) : Bool :=
  let lck := s.ilkIn (s.rf .ilkPortIn1 p 8 0)
  let iso := let c := s.rf .ilkPortIn2 p 8 0; c != notConnected && s.twoChannel c false
  (s.ilkIn (s.rf .ilkPortIn0 p 8 0) && s.ilkIn (s.rf .ilkPortIn0 p 24 16) && lck) || (iso && lck)
/-- trac_ok of a portal (R297). -/
def State.tracOk (s : State) (p : Nat) : Bool := s.doorOk p && s.ilkIn (s.rf .ilkPortIn1 p 24 16)
/-- Portals in PORT_MASK. -/
def State.portMask (s : State) : List Nat := (List.range 16).filter (fun p => s.rb .ilkCfg 0 p)

/-- The Interlock Logic drives SO1 and SO3 (R297, R300). -/
def State.channelB (s : State) : State :=
  let m := s.portMask
  let bits (f : Nat → Bool) : Nat := (List.range 16).foldl (fun a p => a + b2n (f p) * 2 ^ p) 0
  let s1 := { s with ilk := { s.ilk with doorOk := bits s.doorOk, tracOk := bits s.tracOk } }
  s1.driveSo true (m != [] && m.all s.tracOk && !s.latchedOff 1) (m != [] && m.all s.doorOk && !s.latchedOff 3)

/-! ### The cross-check (R301) -/

/-- Whether the levels of pair `k` (0: SO0 and SO1, 1: SO2 and SO3) differ in a way that counts. -/
def State.crossCounts (s : State) (k : Nat) : Bool :=
  let a := (s.so (2 * k)).cmd; let b := (s.so (2 * k + 1)).cmd
  (a && !b) || (b && !a && s.enabledPortals.all (fun p => s.permits p k) && (k == 1 || !s.seq.withdraw) && !s.latchedOff (2 * k))

/-- The comparison of one field frame. -/
def State.crossStep (s : State) : State :=
  forEach [0, 1] (fun s k =>
    let t := Table.get none s.ilk.xSince k
    { s with ilk := { s.ilk with xSince := Table.set none s.ilk.xSince k (if s.crossCounts k && !s.ilk.xchk then some (t.getD s.lt) else none) } }) s

/-- A counting difference has persisted for CROSS_T (R301). -/
def State.crossFault (s : State) (k : Nat) : State :=
  match Table.get none s.ilk.xSince k with
  | none => s
  | some t =>
    let s1 := s.passTo (t + ms (s.rf .ilkXchk 0 13 0))
    let on := if (s1.so (2 * k)).cmd then 2 * k else 2 * k + 1
    (({ s1 with ilk := { s1.ilk with xchk := true, xSince := [] } }).raise 0x7002 noInst (leBytes 1 k ++ leBytes 1 on)).faultWithdraw

def execIlkCrossDisagree (pair : Fin 2) (s : State) : Host.Outcome State Fault Refusal := run s (fun s => s.crossFault pair)

/-! ### Two-channel pairs (R302 to R306) -/

def State.pairEn (s : State) (i : Nat) : Bool := s.rb .ilkPairA i 31
/-- The logical values of a pair (R302). -/
def State.pairLogic (s : State) (i : Nat) : Bool × Bool :=
  (s.filtered (s.rf .ilkPairA i 7 0), s.filtered (s.rf .ilkPairA i 15 8) == s.rb .ilkPairA i 30)
/-- Whether a tile of the pair reads inactive or is lost (R298, R305). -/
def State.pairDark (s : State) (i : Nat) : Bool :=
  [s.rf .ilkPairA i 7 0, s.rf .ilkPairA i 15 8].any (fun c => s.ilk.tileLost.testBit (c / 32) || (s.flink (c / 32)).lost)
/-- The value of a pair (R304). -/
def State.pairValue (s : State) (i : Nat) : Bool :=
  let safe := s.rb .ilkPairB i 11
  let l := s.pairLogic i
  if (s.pair i).disc || (s.pair i).tp || s.pairDark i then safe
  else if l.1 == !safe && l.2 == !safe then !safe else safe

/-- A tick of the discrepancy timer: 0.5 ms of LT (R305). -/
def discTick : Ticks := 125000
/-- Edges of the tick since the logical values first differed. -/
def State.discCount (s : State) (i : Nat) : Nat := s.lt / discTick - (s.pair i).diffAt / discTick

/-- A discrepancy fault latches when the count has reached N (R305). -/
def State.discLatch (s : State) (i : Nat) : State :=
  if (s.pair i).differ && !(s.pair i).disc && decide (s.rf .ilkPairB i 10 0 ≤ s.discCount i) then
    let l := s.pairLogic i
    (((s.modPair i (fun q => { q with disc := true })).raise 0x7004 i (leBytes 1 (b2n l.1) ++ leBytes 1 (b2n l.2))).count 268)
  else s

/-- One sample of a pair (R304, R305). -/
def State.pairStep (s : State) (i : Nat) : State :=
  if !s.pairEn i then s
  else
    let l := s.pairLogic i
    let dark := s.pairDark i
    let s1 := if dark then s.modPair i (fun q => { q with differ := false, agreeSince := none })
      else
        let s0 := s.discLatch i
        s0.modPair i (fun q =>
          if l.1 = l.2 then { q with differ := false, agreeSince := some (if q.agreeVal = l.1 then q.agreeSince.getD s.lt else s.lt), agreeVal := l.1 }
          else { q with differ := true, diffAt := if q.differ then q.diffAt else s.lt, agreeSince := none })
    s1.modPair i (fun q => { q with value := s1.pairValue i })

/-- The discrepancy timer of a pair reaches N (R305). -/
def State.discrepancy (s : State) (i : Nat) : State :=
  let q := s.pair i
  when_ (s.pairEn i && q.differ && !q.disc) (fun s =>
    let s1 := (s.passTo ((q.diffAt / discTick + s.rf .ilkPairB i 10 0) * discTick)).discLatch i
    s1.modPair i (fun q => { q with value := s1.pairValue i })) s

def execIlkDiscrepancy (i : Fin 40) (s : State) : Host.Outcome State Fault Refusal := run s (fun s => s.discrepancy i)

/-- A test-pulse failure reported for a channel latches at once for every pair that tests it (R306). -/
def State.testPulseFail (s : State) (c : Nat) : State :=
  forEach ((List.range 40).filter (fun i => s.pairEn i && s.rb .ilkPairB i 12 && (s.rf .ilkPairA i 7 0 == c || s.rf .ilkPairA i 15 8 == c)))
    (fun s i =>
      let old := (s.pair i).tp
      let s1 := s.modPair i (fun q => { q with tp := true, agreeSince := none })
      let s2 := s1.modPair i (fun q => { q with value := s1.pairValue i })
      if old then s2 else (s2.raise 0x7005 i (leBytes 1 c)).count 269) s

/-! ### Off-pulses and readback (R307, R308) -/

/-- The next instant at which SOk is due to pulse (R307): whole multiples of SO_PERIOD in LT, offset by k quarters of it. -/
def State.pulseDue (s : State) (k : Nat) : Ticks :=
  let per := ms (s.rf .ilkSotest 0 25 16)
  let off := s.time.ltBase + k * per / 4
  let from_ := max s.lt ((s.so k).pulseStart + 1)
  if from_ ≤ off then off else off + divCeil (from_ - off) per * per

/-- An off-pulse starts. -/
def State.offPulse (s : State) (k : Nat) : State :=
  when_ ((s.so k).cmd && !(s.so k).pulse) (fun s =>
    let s1 := s.passTo (s.pulseDue k)
    s1.modSo k (fun o => { o with pulse := true, pulseStart := s1.lt, pulseEnd := s1.lt + us (s1.rf .ilkSotest 0 8 0),
                                  readback := if o.test then o.readback else false })) s

def execSoOffPulse (k : Fin 4) (s : State) : Host.Outcome State Fault Refusal := run s (fun s => s.offPulse k)

/-- SOTEST_FAULT latches on an output (R308, R321). -/
def State.soTestFail (s : State) (k kind : Nat) (rb : Bool) : State :=
  let old := s.so k
  let s1 := s.modSo k (fun o => { o with test := true, readback := rb, pulse := false })
  if old.test then s1 else (s1.raise 0x7003 k (leBytes 1 kind)).faultWithdraw

/-- An off-pulse ends and its readbacks are judged (R308): `wentOff` within 50 us of its start, `backOn` within 50 us of its end.
While R295 holds the output off in hardware there is nothing to judge. Log entry 31. -/
def State.pulseEnds (s : State) (k : Nat) (wentOff backOn : Bool) : State :=
  when_ (s.so k).pulse (fun s =>
    let s1 := s.passTo ((s.so k).pulseEnd + us 50)
    let s2 := s1.modSo k (fun o => { o with pulse := false, readback := if o.test then o.readback else o.cmd })
    if !s2.driveEnable then s2
    else if !wentOff then s2.soTestFail k 1 true
    else if !backOn then s2.soTestFail k 2 false
    else s2.count (264 + k)) s

def execSoPulseEnd (k : Fin 4) (wentOff backOn : Bool) (s : State) : Host.Outcome State Fault Refusal :=
  run s (fun s => s.pulseEnds k wentOff backOn)

/-- The readback of an output outside pulses, 50 us after the last commanded change (R308): a level that is not the commanded one
latches a steady mismatch. -/
def State.readbackNow (s : State) (k : Nat) (level : Bool) : State :=
  when_ (!(s.so k).pulse) (fun s =>
    let s1 := s.passTo ((s.so k).changed + us 50)
    if s1.driveEnable && level != (s1.so k).cmd then s1.soTestFail k 3 level else s1.modSo k (fun o => { o with readback := level })) s

def execSoReadbackFail (k : Fin 4) (level : Bool) (s : State) : Host.Outcome State Fault Refusal := run s (fun s => s.readbackNow k level)

/-! ### Contactor feedback (R310, R311) -/

/-- Level of the output that a monitor watches: the commanded level behind R295 for SO0 to SO3, else the channel's readback through its filter (R346). -/
def State.monOut (s : State) (i : Nat) : Bool :=
  if i < 4 then (s.so i).cmd && s.driveEnable
  else s.filtered (s.rf .ilkMonFc (i - 4) 8 0)
/-- FB_POL. -/
def State.monPol (s : State) (i : Nat) : Bool := if i < 4 then s.rb .ilkMonSo i 25 else s.rb .ilkMonFc (i - 4) 25
/-- Whether the feedback is consistent with an output level (R310). -/
def State.monConsistent (s : State) (i : Nat) (out : Bool) : Bool := s.filtered (s.monFb i) == (out == s.monPol i)
/-- FB_T. -/
def State.fbT (s : State) : Ticks := ms (s.rf .ilkMonT 0 9 0)

/-- One evaluation of a monitor: a change of the output starts a window in which the feedback is not checked. -/
def State.monStep (s : State) (i : Nat) : State :=
  if s.monFb i = notConnected then s
  else
    let out := s.monOut i
    let m := s.mon i
    let ch := if m.out = out then m.changed else s.lt
    let open_ := decide (s.lt < ch + s.fbT) && decide (ch ≠ 0)
    let ok := s.monConsistent i out
    s.setMon i { m with out := out, changed := ch, badSince := if ok || open_ then none else some (m.badSince.getD s.lt),
                        goodSince := if ok then some (m.goodSince.getD s.lt) else none }

/-- The feedback has been inconsistent for a whole FB_T (R311). -/
def State.monFault (s : State) (i : Nat) : State :=
  let m := s.mon i
  match m.badSince with
  | none => s
  | some t =>
    when_ (!m.fault) (fun s =>
      let s1 := s.passTo (t + s.fbT)
      let s2 := (s1.modMon i (fun m => { m with fault := true })).raise 0x7006 i (leBytes 1 (b2n m.out) ++ leBytes 1 (b2n (s.filtered (s.monFb i))))
      if s2.monWithdraws i then s2.faultWithdraw else s2) s

def execIlkMonFault (i : Fin 20) (s : State) : Host.Outcome State Fault Refusal := run s (fun s => s.monFault i)

/-! ### CLEAR (R323) -/

/-- One latched fault is cleared: the event carries the fault. -/
def State.cleared (s : State) (inst kind : Nat) : State := s.raise 0x7007 inst (leBytes 1 kind)

/-- Clear the faults of one pair. -/
def State.clearPair (s : State) (i : Nat) : State :=
  let q := s.pair i
  let gone := match q.agreeSince with
    | some t => decide (t + ms 100 ≤ s.lt)
    | none => false
  if !(q.disc || q.tp) || !gone then s
  else
    let s1 := s.modPair i (fun q => { q with disc := false, tp := false })
    let s2 := s1.modPair i (fun q => { q with value := s1.pairValue i })
    let s3 := if q.disc then s2.cleared i 1 else s2
    if q.tp then s3.cleared i 2 else s3

/-- Clear the fault of one monitor. -/
def State.clearMon (s : State) (i : Nat) : State :=
  let m := s.mon i
  match m.goodSince with
  | some t => if m.fault && decide (t + s.fbT ≤ s.lt) then (s.setMon i { m with fault := false }).cleared i 5 else s
  | none => s

/-- Clear the fault of one output. -/
def State.clearSo (s : State) (k : Nat) : State :=
  let o := s.so k
  if o.test && o.readback == o.cmd then (s.setSo k { o with test := false }).cleared k 4 else s

/-- CLEAR: every latched fault whose cause is gone (R323). -/
def State.ilkClear (s : State) : State :=
  let s1 := forEach (List.range 40) State.clearPair s
  let s2 := if s1.ilk.xchk then ({ s1 with ilk := { s1.ilk with xchk := false, xSince := [] } }).cleared noInst 3 else s1
  forEach (List.range 20) State.clearMon (forEach (List.range 4) State.clearSo s2)

/-! ### Safety change log (R325 to R329) -/

/-- Address of entry `k` (R325, R551). -/
def logAddr (k : Nat) : Nat := if k < 64 then 0x01F30000 + 48 * k else 0x01F30C00 + 48 * ((k - 64) % 1024)

/-- An entry (R327). -/
def logEntry (k kind key tt oldV newV oldP newP : Nat) (dig8 : List Byte) : List Byte :=
  let a := leBytes 4 k ++ leBytes 1 kind ++ leBytes 1 key ++ [0, 0] ++ leBytes 8 tt ++ leBytes 4 oldV ++ leBytes 4 newV ++ leBytes 4 oldP
    ++ leBytes 4 newP ++ padTo 8 dig8
  a ++ leBytes 4 (crc32c (a ++ [0, 0, 0])) ++ [0, 0, 0, 0xA5]

/-- Write an entry and record it (R326, R328): in degraded mode it leaves with its event instead. -/
def State.safetyLog (s : State) (kind key oldV newV oldP newP : Nat) (dig8 : List Byte) : State :=
  let k := s.ilk.logCnt
  let e := logEntry k kind key s.tt oldV newV oldP newP dig8
  let s1 := if s.rcd.degraded then { s with rcd := { s.rcd with attach := s.rcd.attach ++ [e] } } else s.setMem (logAddr k) e
  ({ s1 with ilk := { s1.ilk with logCnt := k + 1 } }).raise 0x7020 noInst (leBytes 4 k)

/-- Load an entry for reading (R329). One that was not stored (R328) is absent: its place is empty or still holds a valid entry of another
index. -/
def State.logLoad (s : State) (k : Nat) : State :=
  let n := s.ilk.logCnt
  let e := s.memBytes (logAddr k) 48
  let bad := decide (leAt e 40 4 ≠ crc32c (e.take 40 ++ slice e 44 3) ∨ byteAt e 47 ≠ 0xA5)
  if n ≤ k ∨ (64 ≤ k ∧ k + 1024 < n) ∨ e.all (· == 0) ∨ (!bad ∧ leAt e 0 4 ≠ k) then
    { s with ilk := { s.ilk with logData := [], logAbsent := true, logBad := false } }
  else
    { s with ilk := { s.ilk with logData := e, logAbsent := false, logBad := bad } }

/-! ### The parameter watch (R312, R313) -/

/-- A parameter register of the ILK block by its offset; a reserved offset contributes zero. -/
def State.ilkWord (s : State) (off : Nat) : Word :=
  match findReg (0x40180000 + off) with
  | some (r, i, j) => s.reg r i j
  | none => 0
/-- The 1,024 bytes of the parameter CRC (R312). -/
def State.ilkParams (s : State) : List Byte := (List.range 256).flatMap (fun k => leBytes 4 (s.ilkWord (4 * k)).toNat)
/-- The first parameter offset that differs from the values applied from the image. -/
def State.firstDiffer (s : State) : Nat :=
  ((List.range 256).find? (fun k => s.ilkWord (4 * k) != Table.get 0 s.ilk.applied k)).getD 0 * 4

/-- Load ILK_PCRC_REF as the SAFE section is applied (R313). -/
def State.loadPcrcRef (s : State) (ref : Nat) : State :=
  { s with ilk := { s.ilk with pcrcRef := ref,
                               applied := (List.range 256).foldl (fun t k => Table.set 0 t k (s.ilkWord (4 * k))) [] } }

/-- The parameter watch trips (R313); `off` is the first offset that differs. -/
def State.pcrcTrip (s : State) (off : Nat) : State :=
  when_ (!s.ilk.pcrcFault) (fun s =>
    let s2 := ({ s with ilk := { s.ilk with pcrcFault := true } }).raise 0x7001 noInst
      (leBytes 4 s.ilk.pcrcRef ++ leBytes 4 s.ilk.pcrcNow ++ leBytes 2 off)
    (s2.safetyLog 3 0xFF s.cat.version s.cat.version s.ilk.pcrcRef s.ilk.pcrcNow s.cat.digest).faultWithdraw) s

/-- ILK_PCRC_NOW takes the CRC of the present parameters. -/
def State.pcrcCompute (s : State) : State := { s with ilk := { s.ilk with pcrcNow := crc32c s.ilkParams } }

/-- The Interlock Logic recomputes its parameter CRC (R313). It is compared once the image in use has given it a reference: log entry 94. -/
def State.paramCrc (s : State) : State :=
  let s1 := s.pcrcCompute
  if s1.ilk.applied = [] ∨ s1.ilk.pcrcNow = s1.ilk.pcrcRef then s1 else s1.pcrcTrip s1.firstDiffer

def execParamCrcCheck (s : State) : Host.Outcome State Fault Refusal := run s State.paramCrc

/-- A master's write that changed a parameter at address `a` from `old` trips the watch (R313), also where the value is written back later. -/
def State.paramWritten (s : State) (a : Nat) (old : Word) : State :=
  if 0x40180000 ≤ a ∧ a < 0x40180400 ∧ s.ilkWord (a - 0x40180000) ≠ old then
    let s1 := s.pcrcCompute
    s1.pcrcTrip (if s1.ilk.applied = [] then a - 0x40180000 else s1.firstDiffer)
  else s

/-! ### The brake test (R314 to R319) -/

/-- Seconds of BT_INTERVAL. -/
def State.btInterval (s : State) : Nat := 3600 * s.rf .ilkBtCfg 0 13 0
/-- RTC time from which an axis is due: its last pass plus BT_INTERVAL, or the time noted when it first became due. -/
def State.btDueAt (s : State) (n : Nat) : Nat :=
  match Table.get none s.ilk.btPass n with
  | some t => t + s.btInterval
  | none => (Table.get none s.ilk.btDueSince n).getD s.bk.rtc
/-- Whether an axis is due (R314); while RTC_VALID is 0 every axis counts as due (R623). -/
def State.btDue (s : State) (n : Nat) : Bool :=
  s.rb .ilkBt n 0 && (!s.bk.rtcValid || (match Table.get none s.ilk.btPass n with
    | some t => decide (t + s.btInterval ≤ s.bk.rtc)
    | none => true))

/-- An axis that has never passed a test is due from the start on, and the time is noted (R314, R319). Log entry 95. -/
def State.noteDue (s : State) : State :=
  forEach ((List.range 64).filter (fun n => s.rb .ilkBt n 0 && (Table.get none s.ilk.btPass n).isNone && (Table.get none s.ilk.btDueSince n).isNone))
    (fun s n => { s with ilk := { s.ilk with btDueSince := Table.set none s.ilk.btDueSince n (some s.bk.rtc) } }) s

/-- No action is pending or armed for a portal (R315). -/
def State.noAction (s : State) (p : Nat) : Bool :=
  (s.portal p).heldRestrictive == [] && s.seq.imm.all (fun i => !i.target.testBit p)
    && s.slotsInOrder.all (fun i => !(s.slot i).target.testBit p)
/-- Whether a test may start in this motion cycle (R315, R645): the portal in LOCKED, or at start-up in UNUSED. -/
def State.testReady (s : State) (n : Nat) : Bool :=
  let p := n / 4
  s.portalEn p && s.btDue n && ((s.portal p).st == .locked || (s.portal p).st == .unused) && s.noAction p
    && s.onLink n && (s.link (s.axisStage n).1).phase == 2
    && s.holder && s.operational && (s.presentAxes p).all (fun m => (Table.get none s.ilk.tests m).isNone)
    && decide (s.committed + s.testCurrent n ≤ 4 * s.rf .portalSeqBudget 0 9 0 + fld (s.reg .portalCur p (n % 4)) 31 24)

/-- A due test starts (R315, R316): a released brake is applied first. -/
def State.testStart (s : State) (n : Nat) : State :=
  when_ (s.testReady n) (fun s =>
    let x := s.axis n
    if x.brakeRel then
      let s1 := s.setAxis n { x with mode := .holding, brakeRel := false, brkRelDue := none, queue := [], plan := none, pending := none, vel := 0,
                                     acc := 0, brkAppDue := some (s.lt + ms (s.rf .axisBrake n 31 24)), resAmp := s.testCurrent n }
      ({ s1 with ilk := { s1.ilk with tests := Table.set none s1.ilk.tests n (some { x0 := s.latchOf n, waiting := true, start := s.lt }) } }).commandSwitches
    else s.testPhase n { x0 := s.latchOf n }) s

def execBrakeTestStart (n : Fin 64) (s : State) : Host.Outcome State Fault Refusal := run s (fun s => s.testStart n)

/-- A test fails (R317): cause 1 moved, 2 torque not reached. -/
def State.testFail (s : State) (n : Nat) (b : BrakeTest) (cause : Nat) : State :=
  let mv := absN (s.latchOf n - b.x0)
  let s1 := s.testEnd n b
  let s2 := { s1 with ilk := { s1.ilk with btFail := s1.ilk.btFail ||| 2 ^ n } }
  let s3 := (s2.raise 0x7011 n (leBytes 1 cause ++ leBytes 4 mv)).faultAxis n 7
  if s3.portalEn (n / 4) && (s3.portal (n / 4)).st == .unused then s3.toFault (n / 4) 3 else s3

/-- A test passes (R316): the time is stored and mirrored, and the axis is due no longer. -/
def State.testPass (s : State) (n : Nat) (b : BrakeTest) : State :=
  let s1 := s.testEnd n b
  let t := s.bk.rtc
  let s2 := { s1 with ilk := { s1.ilk with btFail := s1.ilk.btFail - (s1.ilk.btFail &&& 2 ^ n), btOverdue := s1.ilk.btOverdue - (s1.ilk.btOverdue &&& 2 ^ n),
                                           btPass := Table.set none s1.ilk.btPass n (some t), btDueSince := Table.set none s1.ilk.btDueSince n none } }
  ((s2.saveNum (0x20 + n) t).mirror 10 (beBytes 1 n ++ beBytes 6 t)).raise 0x7010 n (leBytes 2 b.peakOpen ++ leBytes 2 b.peakClose)

/-- The samples of a running test (R316): movement, its peaks, and whether the torque has been reached within 100 ms. -/
def State.testWatch (s : State) (n : Nat) : State :=
  match Table.get none s.ilk.tests n with
  | none => s
  | some b =>
    if !s.holder then s.testAbort n
    else if b.waiting then s
    else
      let mv := absN (s.latchOf n - b.x0)
      let got := b.reached || (decide (15 * (s.testCurrent n * 64) ≤ 16 * (s.axis n).current.natAbs) && s.within b.start (ms 100))
      let b1 := { b with reached := got, peakOpen := if b.dir = 0 then max b.peakOpen mv else b.peakOpen,
                         peakClose := if b.dir = 0 then b.peakClose else max b.peakClose mv }
      if s.rf .ilkBt n 31 16 < mv then s.testFail n b1 1
      else { s with ilk := { s.ilk with tests := Table.set none s.ilk.tests n (some b1) } }

/-- 100 ms have passed without the torque (R316). -/
def State.torqueTimeout (s : State) (n : Nat) : State :=
  match Table.get none s.ilk.tests n with
  | none => s
  | some b =>
    when_ (!b.waiting && !b.reached) (fun s => (s.passTo (b.start + ms 100)).testFail n b 2) s

def execBrakeTestTorqueTimeout (n : Fin 64) (s : State) : Host.Outcome State Fault Refusal := run s (fun s => s.torqueTimeout n)

/-- BT_TIME ends in one direction (R316). -/
def State.testPhaseEnd (s : State) (n : Nat) : State :=
  match Table.get none s.ilk.tests n with
  | none => s
  | some b =>
    when_ (!b.waiting) (fun s =>
      let s1 := s.passTo (b.start + ms (10 * s.rf .ilkBtCfg 0 31 24))
      if !b.reached then s1.testFail n b 2
      else if b.dir = 0 then s1.testPhase n { b with dir := 1 }
      else s1.testPass n b) s

def execBrakeTestPhaseEnd (n : Fin 64) (s : State) : Host.Outcome State Fault Refusal := run s (fun s => s.testPhaseEnd n)

/-- A due test is overdue (R319): a further BT_INTERVAL has passed without a pass. -/
def State.testOverdue (s : State) (n : Nat) : State :=
  when_ (s.rb .ilkBt n 0 && !s.ilk.btOverdue.testBit n) (fun s =>
    let at_ := s.btDueAt n + s.btInterval
    let s1 := if s.bk.rtc < at_ then s.pass (sec (at_ - s.bk.rtc)) else s
    ({ s1 with ilk := { s1.ilk with btOverdue := s1.ilk.btOverdue ||| 2 ^ n } }).raise 0x7013 n) s

def execBrakeTestOverdue (n : Fin 64) (s : State) : Host.Outcome State Fault Refusal := run s (fun s => s.testOverdue n)

end Sys2Proof.Machine
end

