-- ==== Sys2Proof/Machine/Loads.lean ====
section
/-!
DEFINITION. Sys2Proof/Machine/Loads.lean: the load switches as their dies keep them: switch states, retries, thermal latch,
deferral and shedding (R374 to R399). Switch n is switch n mod 8 of bank n ÷ 8.
-/
namespace Sys2Proof.Machine
open Sys2Proof

/-- State code (R378). -/
def SwState.code : SwState → Nat
  | .off => 0
  | .inrush => 1
  | .on => 2
  | .retryWait => 3
  | .deferred => 4
  | .thermal => 5
  | .latchedOff => 6
  | .shed => 7
/-- States in which a switch conducts (R377, R378). -/
def SwState.conducts : SwState → Bool
  | .inrush => true
  | .on => true
  | _ => false

/-- LSW[n]_CFG as the die holds it (R390, R397). -/
def State.swWord (s : State) (n : Nat) : Nat := Table.get 0 (s.die (8 + n / 8)).words (n % 8)
def State.swSafe (s : State) (n : Nat) : Bool := (s.swWord n).testBit 0
def State.swRetries (s : State) (n : Nat) : Nat := fieldOf (s.swWord n) 4 1
def State.swRetryT (s : State) (n : Nat) : Ticks := ms (fieldOf (s.swWord n) 10 5)
def State.swInrushT (s : State) (n : Nat) : Ticks := ms (fieldOf (s.swWord n) 18 11)
def State.swClrRule (s : State) (n : Nat) : Bool := (s.swWord n).testBit 23
def State.swOlEn (s : State) (n : Nat) : Bool := (s.swWord n).testBit 24
def State.swPrio (s : State) (n : Nat) : Nat := fieldOf (s.swWord n) 26 25
/-- Switches of a bank. -/
def bankSwitches (b : Nat) : List Nat := (List.range 8).map (fun i => 8 * b + i)

/-- A switch opens its inrush window (R375), or is held in DEFERRED while the continuous limit is exceeded (R387); while ACTIVE is 0 it is held
in OFF (R377). `retry` says that the start consumes a retry (R379, R380): it does so when it starts. -/
def State.startSwitch (s : State) (n : Nat) (retry : Bool) : State :=
  let b := n / 8
  let bk := s.bank b
  let w := s.sw n
  if !(s.die (8 + b)).active then s.setSw n { w with st := .off, heldStart := none, heldRetry := false, limit := false }
  else if bk.contExceeded then
    (s.setSw n { w with st := .deferred, heldStart := some bk.order, heldRetry := retry, entered := s.lt }).setBank b { bk with order := bk.order + 1 }
  else
    let s1 := s.setSw n { w with st := .inrush, entered := s.lt, heldStart := none, heldRetry := false, limit := false,
                                 left := if retry then w.left - 1 else w.left }
    if retry then s1.raise 0x9003 n else s1

/-- LATCHED_OFF, with its cause: 1 short, 2 thermal, 3 deferrals. -/
def State.latchOff (s : State) (n cause : Nat) : State :=
  (s.modSw n (fun w => { w with st := .latchedOff, entered := s.lt, limit := false })).raise 0x9004 n (leBytes 1 cause)

/-- A short trip (R379): RETRY_WAIT while a retry is left. -/
def State.shortTrip (s : State) (n : Nat) (arb : Bool) : State :=
  let s1 := ((s.modSw n (fun w => { w with short := true, arb := arb, lastLimit := some s.lt, limit := false })).raise 0x9001 n
    (leBytes 1 (b2n arb))).count (144 + n / 8)
  if 0 < (s.sw n).left then s1.modSw n (fun w => { w with st := .retryWait, entered := s.lt }) else s1.latchOff n 1

/-- A clear (R382): it moves LATCHED_OFF to OFF with RETRIES_LEFT set, and a commanded on then starts INRUSH. -/
def State.clearSwitch (s : State) (n : Nat) : State :=
  let w := s.sw n
  if w.st ≠ .latchedOff then s
  else
    let s1 := (s.setSw n { w with st := .off, left := s.swRetries n, deferrals := 0 }).raise 0x900A n
    if w.dieCmd && (s.die (8 + n / 8)).active then s1.startSwitch n false else s1

/-- One switch takes the command of an applied frame (R376 to R379, R382). -/
def State.applySwitch (s : State) (n : Nat) (v active : Bool) : State :=
  let w := s.sw n
  let long := match w.offSince with
    | some t => decide (t + sec 1 ≤ s.lt)
    | none => false
  if !v then
    let st := match w.st with
      | .thermal => SwState.thermal
      | .latchedOff => .latchedOff
      | _ => .off
    s.setSw n { w with st := st, dieCmd := false, heldStart := none, heldRetry := false, limit := false,
                       offSince := if w.dieCmd ∨ w.offSince = none then some s.lt else w.offSince }
  else
    let s1 := s.setSw n { w with dieCmd := true, offSince := none }
    match w.st with
    | .off => if active then (s1.modSw n (fun w => { w with left := s.swRetries n })).startSwitch n false else s1
    | .latchedOff => if !w.dieCmd && long && s.swClrRule n then s1.clearSwitch n else s1
    | .inrush | .on => if active then s1 else s1.modSw n (fun w => { w with st := .off })
    | _ => s1

/-- Whether a latched diagnostic's cause is still present (R398): the switch is still in the state that it led to. -/
def Switch.clearDiag (w : Switch) : Switch :=
  let shortNow := w.st == .retryWait || w.st == .latchedOff
  let hotNow := w.st == .thermal
  { w with short := w.short && shortNow, arb := w.arb && shortNow, readback := w.readback && shortNow, therm := w.therm && hotNow,
           coupled := w.coupled && hotNow, openLoad := w.openLoad && w.st == .on && w.current == 0, defer := w.defer && w.st == .deferred }

/-- A die applies a frame to its eight switches (R388, R391): CLEAR, then CLR_DIAG, then the commanded levels. -/
def State.applyBank (s : State) (b out clr : Nat) (active clrDiag : Bool) : State :=
  let s1 := forEach ((bankSwitches b).filter (fun n => clr.testBit (n % 8))) State.clearSwitch s
  let s2 := if clrDiag then forEach (bankSwitches b) (fun s n => s.modSw n Switch.clearDiag) s1 else s1
  forEach (bankSwitches b) (fun s n => s.applySwitch n (out.testBit (n % 8)) active) s2

/-- A die goes to SAFE (R360, R391): each switch with SAFE 1 is commanded on where ACTIVE was 1, every other off, with every protection kept.
Log entry 97. -/
def State.bankSafe (s : State) (b : Nat) (active : Bool) : State :=
  forEach (bankSwitches b) (fun s n => s.applySwitch n (active && s.swSafe n) active) s

/-! ### Commands of the switches -/

/-- ON_DELAY ends (R376). -/
def execLsOnDelayEnd (n : Fin 32) (s : State) : Host.Outcome State Fault Refusal :=
  run s (fun s => match (s.sw n).onDue with
    | some t => (s.passTo t).modSw n (fun w => { w with cmd := true, onDue := none })
    | none => s)

/-- INRUSH_T ends (R375, R386). -/
def execLsInrushEnd (n : Fin 32) (s : State) : Host.Outcome State Fault Refusal :=
  run s (fun s => when_ ((s.sw n).st == .inrush) (fun s =>
    let s1 := s.passTo ((s.sw n).entered + s.swInrushT n)
    s1.modSw n (fun w => { w with st := .on, entered := s1.lt, deferrals := 0 })) s)

/-- The limiter has been active outside the inrush window for its time (R375, R379). -/
def execLsShort (n : Fin 32) (s : State) : Host.Outcome State Fault Refusal :=
  run s (fun s => when_ ((s.sw n).st == .on) (fun s => s.shortTrip n false) s)

/-- RETRY_T elapses (R379, R386): a retry, or the restart of a deferred start. A start held by R387 waits for the bank. -/
def execLsRetry (n : Fin 32) (s : State) : Host.Outcome State Fault Refusal :=
  run s (fun s =>
    let w := s.sw n
    if w.st = .retryWait then (s.passTo (w.entered + s.swRetryT n)).startSwitch n true
    else if w.st = .deferred ∧ w.heldStart = none then (s.passTo (w.entered + s.swRetryT n)).startSwitch n false
    else s)

/-- 1 s in ON without a trip (R379). -/
def execLsRetriesReset (n : Fin 32) (s : State) : Host.Outcome State Fault Refusal :=
  run s (fun s => when_ ((s.sw n).st == .on) (fun s =>
    (s.passTo ((s.sw n).entered + sec 1)).modSw n (fun w => { w with left := s.swRetries n })) s)

/-- Whether a neighbour in the bank had its limiter active in the last 100 ms (R381). -/
def State.neighbourLimited (s : State) (n : Nat) : Bool :=
  [n + 1, n - 1].any (fun m => m / 8 == n / 8 && m != n && (match (s.sw m).lastLimit with
    | some t => s.within t (ms 100)
    | none => false))

/-- The junction reaches THERM (R380, R381). -/
def State.thermalTrip (s : State) (n : Nat) : State :=
  when_ ((s.sw n).st != .thermal) (fun s =>
    let c := s.neighbourLimited n
    let w := s.sw n
    ((s.setSw n { w with st := .thermal, therm := true, coupled := c, limit := false, heldStart := none, heldRetry := false, entered := s.lt }).raise
      0x9002 n (leBytes 1 (b2n c) ++ leBytes 1 w.left)).count (148 + n / 8)) s

def execLsThermal (n : Fin 32) (s : State) : Host.Outcome State Fault Refusal := run s (fun s => s.thermalTrip n)

/-- The junction has cooled by the hysteresis (R380). -/
def State.thermalRelease (s : State) (n : Nat) : State :=
  let w := s.sw n
  when_ (w.st == .thermal) (fun s =>
    if !w.dieCmd then s.setSw n { w with st := .off }
    else if 0 < w.left then s.startSwitch n true
    else s.latchOff n 2) s

def execLsThermalRelease (n : Fin 32) (s : State) : Host.Outcome State Fault Refusal := run s (fun s => s.thermalRelease n)

/-- The current has stayed below the open-load threshold for 100 ms (R383). -/
def execLsOpenLoad (n : Fin 32) (s : State) : Host.Outcome State Fault Refusal :=
  run s (fun s => when_ (s.swOlEn n && (s.sw n).st == .on && !(s.sw n).openLoad) (fun s =>
    (s.modSw n (fun w => { w with openLoad := true, current := 0 })).raise 0x9009 n) s)

/-- READBACK latches and turns the switch off as a short trip (R383). -/
def execLsReadback (n : Fin 32) (s : State) : Host.Outcome State Fault Refusal :=
  run s (fun s => when_ ((s.sw n).st == .on) (fun s =>
    ((s.modSw n (fun w => { w with readback := true })).raise 0x9013 n).shortTrip n false) s)

/-! ### The bank arbiter (R384 to R387) -/

/-- The INRUSH switch of a bank that entered INRUSH last, the higher number on a tie. -/
def State.lastInrush (s : State) (b : Nat) : Option Nat :=
  ((bankSwitches b).filter (fun n => (s.sw n).st == .inrush)).foldl (fun a n => match a with
    | none => some n
    | some m => if (s.sw m).entered ≤ (s.sw n).entered then some n else a) none

/-- The ON switch of lowest PRIO, the higher number on a tie. -/
def State.shedChoice (s : State) (b : Nat) : Option Nat :=
  ((bankSwitches b).filter (fun n => (s.sw n).st == .on)).foldl (fun a n => match a with
    | none => some n
    | some m => if s.swPrio n ≤ s.swPrio m then some n else a) none

/-- Step 3 of R385. -/
def State.shedOne (s : State) (b : Nat) : State :=
  match s.shedChoice b with
  | some n => ((s.modSw n (fun w => { w with st := .shed, entered := s.lt, limit := false })).raise 0x9006 n).count (156 + b)
  | none => s

/-- Step 2 of R385: the start is deferred (R386). -/
def State.deferStart (s : State) (n : Nat) : State :=
  let d := (s.sw n).deferrals + 1
  let s1 := ((s.modSw n (fun w => { w with st := .deferred, deferrals := min 15 d, defer := true, entered := s.lt, limit := false })).raise 0x9005 n).count
    (152 + n / 8)
  if 15 ≤ d then s1.latchOff n 3 else s1

/-- One step of the arbiter, every 5 us while the peak limit is exceeded (R385). `limiting` are the switches of the bank whose
limiter is active in the die's last sample. The event is recorded once for an exceedance. -/
def State.bankPeak (s : State) (b limiting : Nat) : State :=
  let same := match (s.bank b).peakAt with
    | some t => s.within t (us 5)
    | none => false
  let s0 := s.pass (match (s.bank b).peakAt with
    | some t => if same then t + us 5 - s.lt else us 5
    | none => us 5)
  let s1 := s0.modBank b (fun k => { k with peakAt := some s0.lt })
  let s2 := if same then s1 else s1.raise 0x9007 b
  let hot := (bankSwitches b).filter (fun n => limiting.testBit (n % 8) && (s2.sw n).st == .on)
  if hot ≠ [] then forEach hot (fun s n => s.shortTrip n true) s2
  else match s2.lastInrush b with
    | some n => s2.deferStart n
    | none => s2.shedOne b

def execLsBankPeak (b : Fin 4) (limiting : Nat) (s : State) : Host.Outcome State Fault Refusal := run s (fun s => s.bankPeak b limiting)

/-- The next start of a bank whose average has fallen to 10 A (R387): SHED switches first, highest PRIO first, then held starts in
the order in which they fell due. -/
def State.nextRestart (s : State) (b : Nat) : Option Nat :=
  let shed := (bankSwitches b).filter (fun n => (s.sw n).st == .shed)
  match shed with
  | n :: ns => some (ns.foldl (fun a m => if s.swPrio a < s.swPrio m then m else a) n)
  | [] => ((bankSwitches b).filter (fun n => (s.sw n).heldStart.isSome)).foldl (fun a n => match a with
    | none => some n
    | some m => if (s.sw n).heldStart.getD 0 < (s.sw m).heldStart.getD 0 then some n else a) none

/-- The 1 s average, in 0.1 A, judged every 10 ms (R384, R387). -/
def State.bankCont (s : State) (b avg : Nat) : State :=
  let k := s.bank b
  let above := decide (120 < avg)
  let s1 := s.setBank b { k with contExceeded := above, contSince := if k.contExceeded then k.contSince else s.lt,
                                 lastShed := if k.contExceeded then k.lastShed else 0 }
  let s2 := if above && !k.contExceeded then s1.raise 0x9008 b else s1
  if 100 < avg then s2
  else match s2.nextRestart b with
    | none => s2
    | some n =>
      if k.lastStart ≠ 0 ∧ s2.lt < k.lastStart + s2.swRetryT n then s2
      else (s2.startSwitch n (s2.sw n).heldRetry).modBank b (fun k => { k with lastStart := s2.lt })

def execLsBankCont (b : Fin 4) (avg : Nat) (s : State) : Host.Outcome State Fault Refusal := run s (fun s => s.bankCont b avg)

/-- The continuous limit has been exceeded for 2 s, or 1 s has passed since the last shed (R387). -/
def State.contShed (s : State) (b : Nat) : State :=
  when_ (s.bank b).contExceeded (fun s =>
    let k := s.bank b
    let s1 := s.passTo (if k.lastShed = 0 then k.contSince + sec 2 else k.lastShed + sec 1)
    (s1.shedOne b).modBank b (fun k => { k with lastShed := s1.lt })) s

def execLsContShed (b : Fin 4) (s : State) : Host.Outcome State Fault Refusal := run s (fun s => s.contShed b)

/-- CLEAR written to LSW[n]_CMD (R382): the switch is cleared, and the next frame carries the CLEAR. -/
def State.lswClear (s : State) (n : Nat) : State :=
  (s.clearSwitch n).modFlink (8 + n / 8) (fun l => { l with clrSwitch := l.clrSwitch ||| 2 ^ (n % 8) })
/-- CLR_DIAG written to LSW[n]_CMD (R396): sent in the next frame. -/
def State.lswClrDiag (s : State) (n : Nat) : State := s.modFlink (8 + n / 8) (fun l => { l with clrDiag := true })

end Sys2Proof.Machine
end

