-- ==== Sys2Proof/Machine/Field.lean ====
section
/-!
DEFINITION. Sys2Proof/Machine/Field.lean: the isolation links and both their ends: frames, replies, filters, tile states, safe
state, test pulses, channel diagnostics and maintenance-reset inputs (R334 to R373, R388 to R392). Links 0 to 7 are field tiles,
8 to 11 the load-switch dies.
-/
namespace Sys2Proof.Machine
open Sys2Proof

/-! ### Frames -/

/-- Whether a link leads to a field tile. -/
def isTile (k : Nat) : Bool := decide (k < 8)
/-- Configuration words of a link (R358, R390). -/
def wordCount (k : Nat) : Nat := if k < 8 then 48 else 16
/-- Present value of configuration word `i` of a link (R358, R390). -/
def State.cfgWord (s : State) (k i : Nat) : Nat :=
  if k < 8 then (if i < 32 then s.reg .fldCh k i else if i < 40 then s.reg .fldTp k (i - 32) else if i = 40 then s.reg .fldTile k else 0).toNat
  else (if i < 8 then s.reg .lswCfg (8 * (k - 8) + i) else if i = 8 then s.reg .lswBank (k - 8) else 0).toNat

/-- The start of the first field frame at or after a train time: boundaries are multiples of 10 us. -/
def nextFrame (t : Nat) : Nat := divCeil t 10000 * 10000

/-- TP_PERIOD and TP_W in ns (R348). -/
def State.tpPeriod (s : State) : Nat := s.rf .fldTptime 0 25 16 * 1000000
def State.tpWidth (s : State) : Nat := s.rf .fldTptime 0 7 0 * 10000
def State.tpRec (s : State) : Nat := s.rf .fldTptime 0 15 8 * 10000
/-- Boundary at which the pulse of supply `g` that covers or precedes train time `f` starts (R348). -/
def State.tpStart (s : State) (g f : Nat) : Nat :=
  let base := g * s.tpPeriod / 64
  let m := (f - base) / s.tpPeriod
  nextFrame (m * s.tpPeriod + base)
/-- Whether supply `g` is off in the frame at boundary `f` (R348): its pulse, where PULSE_EN is set. -/
def State.tpOffAt (s : State) (g f : Nat) : Bool :=
  let c := s.reg .fldTp (g / 8) (g % 8)
  let st := s.tpStart g f
  bitOf c 0 && bitOf c 1 && decide (st ≤ f ∧ f < st + s.tpWidth)
/-- TP_OFF of a tile's frame. -/
def State.tpOffByte (s : State) (k f : Nat) : Nat := (List.range 8).foldl (fun a i => a + b2n (s.tpOffAt (8 * k + i) f) * 2 ^ i) 0

/-- A downlink frame between SOF and EOF (R352, R388). -/
def frameBytes (k kind seq out clr apply tpOff idx word : Nat) (active clrDiag : Bool) : List Byte :=
  let h := leBytes 1 (kind + 8 * b2n active + 16 * b2n clrDiag) ++ leBytes 1 k ++ beBytes 2 seq
  let b := if k < 8 then h ++ beBytes 4 out ++ beBytes 2 apply ++ leBytes 1 tpOff ++ leBytes 1 idx ++ beBytes 4 word
           else h ++ leBytes 1 out ++ leBytes 1 clr ++ beBytes 2 apply ++ leBytes 1 idx ++ beBytes 4 word ++ [0]
  b ++ beBytes 2 (crc16 b)

/-- Event of a field link: the code of class 0x8 for a tile, that of class 0x9 for a die (R391). -/
def State.linkEvent (s : State) (k tile die : Nat) : State := if k < 8 then s.raise tile k else s.raise die (k - 8)

/-- Start or restart a link (R361): CONFIG frames for every word, then RUN frames. -/
def State.startLink (s : State) (k : Nat) : State :=
  s.modFlink k (fun l => { l with phase := if l.lost then 3 else 1, cfgNext := 0, unacked := none, repeats := 0, run := false })

/-! ### Samples (R345, R346) -/

/-- One sample into a channel's counter filter; a change of a limit or home input is noted for chatter (R218). -/
def State.feed (s : State) (c : Nat) (on : Bool) : State :=
  let n := fld (s.reg .fldFlt (c / 32) (c % 32)) 11 0
  let k := min (Table.get 0 s.fio.cnt c) n
  let v := if on then min (k + 1) n else k - 1
  let old := s.filtered c
  let new := if v = n then true else if v = 0 then false else old
  let s1 := { s with fio := { s.fio with cnt := Table.set 0 s.fio.cnt c v, filt := Table.set false s.fio.filt c new } }
  if new = old then s1
  else forEach ((List.range 64).filter (fun x => s.rb .axisCfg x 0)) (fun s x =>
    forEach [(0, s.limitCode x false), (1, s.limitCode x true), (2, s.homeCode x)] (fun s e =>
      if e.2 = c then s.noteChatter x e.1 new else s) s) s1

/-- Channels that the Interlock Logic filters for itself (R297). -/
def State.ilkChannels (s : State) : List Nat :=
  (s.portMask.flatMap (fun p => [s.rf .ilkPortIn0 p 8 0, s.rf .ilkPortIn0 p 24 16, s.rf .ilkPortIn1 p 8 0, s.rf .ilkPortIn1 p 24 16])).eraseDups

/-- Maintenance-reset inputs follow their filters (R363). -/
def State.mrstStep (s : State) (i : Nat) : State :=
  let on := s.input (s.rf .fldMrst i 8 0) false
  s.modMrst i (fun m =>
    if on = m.active then m
    else if on then { m with active := true, onSince := s.lt, released := m.released || decide (m.offSince + sec 1 ≤ s.lt) }
    else { m with active := false, offSince := s.lt, released := m.released && m.press.isSome })

/-- Whether the reply of every tile to the present field frame has come or failed. -/
def State.frameDone (s : State) : Bool := (List.range 8).all (fun k => !(s.flink k).sent)

/-- Once per field frame, on the samples of that frame: pairs, monitors, reset inputs, channel B and the cross-check (R297, R301, R304). -/
def State.afterSamples (s : State) : State :=
  when_ s.frameDone (fun s =>
    ((forEach [0, 1, 2, 3] State.mrstStep (forEach (List.range 20) State.monStep (forEach (List.range 40) State.pairStep s))).channelB).crossStep) s

/-- Feed a tile's sample to the FLD filters and to the Interlock Logic's own. -/
def State.feedTile (s : State) (k raw : Nat) (fldOn : Bool) : State :=
  let s1 := if fldOn then forEach (List.range 32) (fun s j => s.feed (32 * k + j) (raw.testBit j)) s else s
  forEach (s1.ilkChannels.filter (fun c => c / 32 == k)) (fun s c => s.ilkSample c (raw.testBit (c % 32))) s1

/-! ### Replies at the main die (R355, R357, R361) -/

/-- Every input of a tile reads inactive (R298): to the Interlock Logic, and as the tile becomes lost to the field channels' filters (R345). -/
def State.tileDark (s : State) (k : Nat) (lost : Bool) : State :=
  let s1 := if lost then
      { s with fio := { s.fio with cnt := s.fio.cnt.filter (fun e => e.1 / 32 != k), filt := s.fio.filt.filter (fun e => e.1 / 32 != k) } }
    else s
  let s2 := s1.ilkTileOff k
  ({ s2 with ilk := { s2.ilk with tileLost := s2.ilk.tileLost ||| 2 ^ k } }).raise 0x7008 k

/-- A reply that fails (R355, R298): the first is held, and the sample kept is fed where the inputs are live; then the link is lost. -/
def State.replyFail (s : State) (k : Nat) : State :=
  let l := s.flink k
  let n := l.fails + 1
  let s1 := (if k < 8 then s.count (136 + k) else s).setFlink k
    { l with sent := false, fails := n, good := 0, held := true, unacked := some l.image, repeats := satInc 255 l.repeats }
  let live := decide (k < 8) && !s1.ilk.tileLost.testBit k
  if n = 1 then
    let s2 := if l.lost then s1 else s1.linkEvent k 0x8002 0x900B
    (if live then s2.feedTile k l.raw (!l.lost) else s2).afterSamples
  else
    let s2 := if l.lost then s1 else (s1.modFlink k (fun l => { l with lost := true, phase := 3 })).linkEvent k 0x8003 0x900C
    (if live then s2.tileDark k (!l.lost) else s2).afterSamples

/-- Names of the latched diagnostic bits of a switch and their events (R389, R399). -/
def switchDiagCode : Nat → Option Nat
  | 0 => some 0x9001
  | 1 => some 0x9002
  | 4 => some 0x9009
  | 5 => some 0x9013
  | 7 => some 0x9005
  | _ => none

/-- Latched bits of a diagnostic byte: all but EXT_ON and WET_ACTIVE (R372, R389). -/
def latchedBits (k : Nat) : List Nat := if k < 8 then [0, 1, 2, 3, 4, 6] else [0, 1, 4, 5, 7]

/-- The far end's own latched diagnostics of unit `j` of a link: an event was recorded when they latched. -/
def State.farDiag (s : State) (k j : Nat) : Nat :=
  if k < 8 then Table.get 0 (s.die k).latch j
  else
    let w := s.sw (8 * (k - 8) + j)
    b2n w.short + 2 * b2n w.therm + 4 * b2n w.coupled + 8 * b2n w.arb + 16 * b2n w.openLoad + 32 * b2n w.readback + 64 * b2n w.extOn + 128 * b2n w.defer

/-- The diagnostics of one unit as a reply carries them (R372, R389): a latched bit not yet known is recorded. -/
def State.takeDiag (s : State) (k j code : Nat) : State :=
  let old := Table.get 0 (s.flink k).diag j
  let known := s.farDiag k j
  let s1 := s.modFlink k (fun l => { l with diag := Table.set 0 l.diag j code })
  forEach ((latchedBits k).filter (fun b => code.testBit b && !old.testBit b && !known.testBit b)) (fun s b =>
    if k < 8 then s.raise 0x8009 (32 * k + j) (leBytes 1 b)
    else match switchDiagCode b with
      | some c => s.raise c (8 * (k - 8) + j)
      | none => s) s1

/-- Supply flags (R365, R392) and CFG_ERR (R358) as they rise in STATE. -/
def State.takeState (s : State) (k old new : Nat) : State :=
  let up (b : Nat) : Bool := new.testBit b && !old.testBit b
  let s1 := if up 4 then s.linkEvent k 0x8007 0x9010 else s
  let s2 := if up 5 then s1.linkEvent k 0x8008 0x9011 else s1
  if up 3 then s2.linkEvent k 0x8006 0x900F else s2

/-- What a tile's reply carries beyond its state (R353). -/
def State.takeTile (s : State) (k : Nat) (b : List Byte) : State :=
  let raw := beAt b 4 4
  let tf := beAt b 12 4
  let l := s.flink k
  let s1 := s.setFlink k { l with raw := raw, tpOvl := byteAt b 18, vsup := byteAt b 19, temp := byteAt b 20, tpfail := l.tpfail ||| tf }
  let newTf := (List.range 32).filter (fun j => tf.testBit j && !l.tpfail.testBit j)
  let s2 := forEach newTf (fun s j => (s.modFlink k (fun l => { l with diag := Table.modify 0 l.diag j (fun d => d ||| 16) })).raise 0x8009 (32 * k + j)
    (leBytes 1 4)) s1
  let s3 := forEach ((List.range 8).filter (fun i => (byteAt b 18).testBit i && !l.tpOvl.testBit i && !(s.die k).tpOvl.testBit i))
    (fun s i => s.raise 0x800A (8 * k + i)) s2
  let s4 := s3.takeDiag k (byteAt b 16 % 32) (byteAt b 17)
  let s5 := forEach ((List.range 32).filter (fun j => tf.testBit j)) (fun s j => s.testPulseFail (32 * k + j)) s4
  (s5.feedTile k raw (!(s5.flink k).lost)).afterSamples

/-- What a load-switch die's reply carries beyond its state (R389). -/
def State.takeDie (s : State) (k : Nat) (b : List Byte) : State :=
  let l := s.flink k
  let bytes (off : Nat) : Table Nat := (List.range 8).foldl (fun t i => Table.set 0 t i (byteAt b (off + i))) []
  let s1 := s.setFlink k { l with swByte := bytes 4, current := bytes 12, ibank := beAt b 20 2, vsup := byteAt b 22, temp := byteAt b 23 }
  let s2 := forEach (List.range 8) (fun s i =>
    let n := 8 * (k - 8) + i
    let st := byteAt b (4 + i) % 8
    let was := Table.get 0 l.swByte i % 8
    if st = was ∨ (s.sw n).st.code = st then s
    else if st = 6 then s.raise 0x9004 n (leBytes 1 1) else if st = 7 then s.raise 0x9006 n else s) s1
  s2.takeDiag k (byteAt b 24 % 8) (byteAt b 25)

/-- Whether the main die accepts a reply (R355). -/
def State.replyOk (s : State) (k : Nat) (b : List Byte) : Bool :=
  let l := s.flink k
  let n := if k < 8 then 24 else 28
  b.length == n && byteAt b 0 == k && beAt b (n - 2) 2 == crc16 (b.take (n - 2)) && decide (s.tt ≤ l.sentF + 7000)
    && (!(byteAt b 1).testBit 2 || beAt b 2 2 == l.seq)

/-- An accepted reply (R355, R357, R361). -/
def State.replyTaken (s : State) (k : Nat) (b : List Byte) : State :=
  let l := s.flink k
  let stb := byteAt b 1
  let st := stb % 4
  let rx := stb.testBit 2
  let good := if st = 2 then l.good + 1 else 0
  let back := l.lost && decide (4 ≤ good)
  let up := !l.lost && decide (l.phase = 1) && st == 2 && rx
  let s1 := s.setFlink k { l with sent := false, fails := 0, held := false, good := good, stateByte := stb, lost := l.lost && !back,
                                  phase := if back ∨ up then 2 else l.phase, unacked := if rx then none else some l.image,
                                  repeats := if rx then 0 else satInc 255 l.repeats }
  let s2 := if k < 8 then { s1 with ilk := { s1.ilk with tileLost := s1.ilk.tileLost - (s1.ilk.tileLost &&& 2 ^ k) } } else s1
  let s3 := s2.takeState k l.stateByte stb
  let s4 := if back || up then s3.linkEvent k 0x8005 0x900E else s3
  let s5 := if k < 8 then s4.takeTile k b else s4.takeDie k b
  if st = 3 then (s5.linkEvent k 0x8004 0x900D).startLink k
  else if st = 0 ∨ (st = 1 ∧ !rx ∧ l.run) then s5.startLink k
  else s5

/-- A reply arrives (R355). -/
def State.fieldReply (s : State) (k : Nat) (b : List Byte) : State :=
  when_ (s.flink k).sent (fun s => if s.replyOk k b then s.replyTaken k b else s.replyFail k) s

def execFieldReply (k : Fin 12) (bytes : List Byte) (s : State) : Host.Outcome State Fault Refusal := run s (fun s => s.fieldReply k bytes)

/-- No valid reply by F + 7.0 us (R355). -/
def State.replyMissing (s : State) (k : Nat) : State :=
  when_ (s.flink k).sent (fun s => (s.passToTt ((s.flink k).sentF + 7000)).replyFail k) s

def execFieldReplyMissing (k : Fin 12) (s : State) : Host.Outcome State Fault Refusal := run s (fun s => s.replyMissing k)

/-! ### The field frame boundary (R351, R356, R357) -/

/-- The states that the slots due before an instant lead to, earliest first, each with its instant (R116, R356). -/
def slotStates (lim : TimeNs) : Nat → State → List (TimeNs × State)
  | 0, _ => []
  | n + 1, s =>
    match s.nextSlotTt with
    | some t => if !s.standby && decide (t < lim) then (t, s.slotDue) :: slotStates lim n s.slotDue else []
    | none => []

/-- The image taken for the frame at boundary `f` (R356): that of F - 0.5 us. -/
def State.imageFor (s : State) (f k : Nat) : Nat := if s.time.snapF = some f then s.time.snap.getD k 0 else s.linkImage k
/-- That image with what the slots that lead from here to `t` change in it. -/
def State.imageWith (s t : State) (f k : Nat) : Nat := s.imageFor f k ^^^ (s.linkImage k ^^^ t.linkImage k)

/-- One link's frame at boundary `f` (R356, R357, R361). `base` is the state that the slots due before the frame's instants lead to, `after` those that
the slots in the frame lead to. An instant that a repeat delays is late too (R373). Log entry 96. -/
def State.sendFrame (s : State) (f : Nat) (base : State) (after : List (TimeNs × State)) (k : Nat) : State :=
  let l := s.flink k
  if l.phase = 0 then s
  else
    let seq := (l.seq + 1) % 65536
    let n := wordCount k
    let run := decide (n ≤ l.cfgNext)
    let idx := if run then seq % n else l.cfgNext
    let now := s.imageWith base f k
    let moved := after.filter (fun e => e.2.linkImage k != base.linkImage k)
    let repeat_ := l.unacked.isSome
    let (img, apply, inst) := match l.unacked, moved with
      | some i, _ => (i, 0, false)
      | none, e :: _ => if run then (s.imageWith e.2 f k, (e.1 - f - 4000) / 10, true) else (now, 0, false)
      | none, [] => (now, 0, false)
    let late := run && (match moved with
      | e :: rest => repeat_ || rest.any (fun r => r.2.linkImage k != e.2.linkImage k)
      | [] => false)
    let s1 := if late then s.raise 0x800B k else s
    let s2 := if repeat_ then
        let s3 := if k < 8 then s1.count (128 + k) else s1
        if l.repeats = 1 then
          let s4 := s3.linkEvent k 0x8001 0x9012
          if l.instant then s4.raise 0x800B k else s4
        else s3
      else s1
    let b := frameBytes k (if run then 1 else 2) seq img l.clrSwitch apply (s.tpOffByte k f) idx (s.cfgWord k idx) s.driveEnable l.clrDiag
    (s2.setFlink k { l with seq := seq, sentF := f, sent := true, run := run, cfgNext := if run then l.cfgNext else l.cfgNext + 1, apply := apply,
                            instant := inst, image := img, outImg := img, clrDiag := false, clrSwitch := 0, frame := b }).emit
      (.isolationFrame k b)

/-- A field frame boundary (R351, R356): replies that are still out have failed, a change of SO0 to SO3 of the last frame is recorded, and a frame
leaves on every link that has been started. -/
def State.fieldFrame (s : State) : State :=
  let s1 := (forEach (List.range 12) State.replyMissing s).passToTt s.time.fieldNext
  let f := s.time.fieldNext
  let s2 := s1.soRecord.commandSwitches
  let ahead := slotStates (f + 14000) s2.slotsInOrder.length s2
  let base := ((ahead.filter (fun e => decide (e.1 < f + 4000))).map Prod.snd).getLast?.getD s2
  let s3 := forEach (List.range 12) (fun s k => s.sendFrame f base (ahead.filter (fun e => decide (f + 4000 ≤ e.1))) k) s2
  { s3 with time := { s3.time with fieldNext := f + 10000 } }

def execFieldFrame (s : State) : Host.Outcome State Fault Refusal := run s State.fieldFrame

/-- CLR_DIAG of a tile (R369): sent in the next frame; TPFAIL is cleared. -/
def State.fldClrDiag (s : State) (k : Nat) : State := s.modFlink k (fun l => { l with clrDiag := true, tpfail := 0 })

/-! ### The far end: frames (R354, R358 to R360) -/

/-- Configuration word `i` that a die holds. -/
def Die.word (d : Die) (i : Nat) : Nat := Table.get 0 d.words i
/-- DIR of a tile's channel. -/
def Die.isOut (d : Die) (j : Nat) : Bool := (d.word j).testBit 0
/-- SAFE levels of a tile's output channels. -/
def Die.safeImage (d : Die) : Nat := (List.range 32).foldl (fun a j => a + b2n (d.isOut j && (d.word j).testBit 1) * 2 ^ j) 0

/-- A change of the driven level of outputs is noted for the readback check (R343). -/
def Die.drive (d : Die) (img : Nat) (now : Ticks) : Die :=
  { d with driven := img,
           changed := (List.range 32).foldl (fun t j => if img.testBit j = d.driven.testBit j then t else Table.set 0 t j now) d.changed }

/-- Outputs that a tile drives for an image (R341, R342): a tripped output needs its command to go off and then on again, 100 ms
after the trip and, after a shutdown, with the junction cooled. -/
def Die.applyOut (d : Die) (out : Nat) (active : Bool) (now : Ticks) : Die :=
  let step (d : Die) (j : Nat) : Die :=
    match Table.get none d.tripped j with
    | none => d
    | some t =>
      if !out.testBit j then { d with rearmed := d.rearmed ||| 2 ^ j }
      else if d.rearmed.testBit j ∧ t + ms 100 ≤ now ∧ !d.hot.testBit j then
        { d with tripped := Table.set none d.tripped j none, rearmed := d.rearmed - (d.rearmed &&& 2 ^ j) }
      else d
  let d1 := (List.range 32).foldl step { d with out := out, active := active }
  d1.drive ((List.range 32).foldl (fun a j =>
    a + b2n (active && d1.isOut j && out.testBit j && (Table.get none d1.tripped j).isNone) * 2 ^ j) 0) now

/-- SAFE (R360): the SAFE levels are driven as commands are, and pulses end. -/
def State.toSafe (s : State) (k : Nat) : State :=
  let d := s.die k
  let d1 := { d with phase := 3, waiting := [], tpOff := 0, inWindow := 0, windows := [] }
  let s1 := s.setDie k (if k < 8 then d1.applyOut d.safeImage d.accActive s.lt else { d1 with active := d.accActive })
  if k < 8 then s1 else s1.bankSafe (k - 8) d.accActive

/-- Whether a die accepts a downlink frame (R354). -/
def dieAccepts (d : Die) (k : Nat) (b : List Byte) : Bool :=
  let n := if k < 8 then 18 else 16
  let ctl := byteAt b 0
  let ap := if k < 8 then beAt b 8 2 else beAt b 6 2
  let idx := if k < 8 then byteAt b 11 else byteAt b 8
  b.length == n && beAt b (n - 2) 2 == crc16 (b.take (n - 2)) && byteAt b 1 == k && (ctl % 8 == 1 || ctl % 8 == 2) && ctl / 32 == 0
    && decide (ap < 1000) && decide (idx < wordCount k) && (k < 8 || byteAt b 13 == 0)
    && (match d.seqAck with
      | none => true
      | some q => let x := (beAt b 2 2 + 65536 - q) % 65536; decide (1 ≤ x ∧ x ≤ 16384))

/-- The frame's content as it is to be applied at an instant. -/
def dieFrame (k : Nat) (b : List Byte) (due : Ticks) : DieFrame :=
  { active := (byteAt b 0).testBit 3, clrDiag := (byteAt b 0).testBit 4, out := if k < 8 then beAt b 4 4 else byteAt b 4,
    clr := if k < 8 then 0 else byteAt b 5, tpOff := if k < 8 then byteAt b 10 else 0, due := due }

/-- The apply instant of a frame (R354, R356): F + 4.0 us + APPLY x 10 ns, as local time. -/
def State.applyDue (s : State) (k : Nat) (b : List Byte) : Ticks :=
  s.lt + s.ticksTo ((s.flink k).sentF + 4000 + 10 * (if k < 8 then beAt b 8 2 else beAt b 6 2))

/-- The die takes a downlink frame (R354, R358, R359). -/
def State.takeFrame (s : State) (k : Nat) (b : List Byte) : State :=
  let d := s.die k
  if !dieAccepts d k b then s.setDie k { d with rxOk := false }
  else
    let n := wordCount k
    let idx := if k < 8 then byteAt b 11 else byteAt b 8
    let word := if k < 8 then beAt b 12 4 else beAt b 9 4
    let d1 := { d with seqAck := some (beAt b 2 2), lastOk := s.lt, accActive := (byteAt b 0).testBit 3 }
    if byteAt b 0 % 8 = 2 then
      let d2 := if d.phase = 1 then d1 else { d1 with phase := 1, words := [], stored := 0, cfgErr := false, waiting := [] }
      s.setDie k { d2 with words := Table.set 0 d2.words idx word, stored := d2.stored ||| 2 ^ idx, rxOk := true }
    else if d.phase = 0 ∨ d.phase = 3 then s.setDie k { d1 with rxOk := false }
    else if d.phase = 1 ∧ d.stored ≠ 2 ^ n - 1 then s.setDie k { d1 with rxOk := false }
    else if d.word idx ≠ word then
      (s.setDie k { d1 with cfgErr := true, rxOk := false }).toSafe k
    else s.setDie k { d1 with phase := 2, rxOk := true, waiting := d.waiting ++ [dieFrame k b (s.applyDue k b)] }

/-- Channels of a tile fed from local supply `i`: inputs that name it. -/
def Die.fedBy (d : Die) (i : Nat) : List Nat := (List.range 32).filter (fun j => !d.isOut j && fieldOf (d.word j) 16 14 == i)
/-- Those that are pulse-tested. -/
def Die.testedBy (d : Die) (i : Nat) : List Nat := (d.fedBy i).filter (fun j => (d.word j).testBit 17)
/-- Bits of a list of channels. -/
def maskOf (l : List Nat) : Nat := l.foldl (fun a j => a ||| 2 ^ j) 0

/-- Channels whose supply is off for an overload: they read off (R347). -/
def Die.dark (d : Die) : Nat := ((List.range 8).filter (fun i => d.tpOvl.testBit i)).foldl (fun a i => a ||| maskOf (d.fedBy i)) 0

/-- Live and latched diagnostics of a tile's channel (R372). -/
def Die.diagByte (d : Die) (j : Nat) : Nat :=
  let ext := d.isOut j && !d.driven.testBit j && d.level.testBit j
  let wet := d.wetting.any (fun e => e.1 == j)
  (Table.get 0 d.latch j) + 32 * b2n ext + 128 * b2n wet

/-- STATE of a reply from a supply in 0.25 V and a temperature in °C + 40 (R353). -/
def Die.stateOf (d : Die) (vsup temp : Nat) : Nat :=
  d.phase + 4 * b2n d.rxOk + 8 * b2n d.cfgErr + 16 * b2n (decide (vsup < 54)) + 32 * b2n (decide (144 < vsup)) + 64 * b2n (decide (190 < temp))

/-- A reply between SOF and EOF, with its CRC. -/
def withCrc16 (b : List Byte) : List Byte := b ++ beBytes 2 (crc16 b)

/-- A tile samples its lands and replies (R344, R348, R353). `vals` are the land levels, the supply and the temperature. -/
def State.tileReply (s : State) (k : Nat) (vals : List Nat) : State :=
  let d := s.die k
  let lands := vals.getD 0 0 % 2 ^ 32
  let lands := lands - (lands &&& d.dark)
  let raw := (List.range 32).foldl (fun a j => a + b2n (if d.inWindow.testBit j then d.before.testBit j else lands.testBit j) * 2 ^ j) 0
  let d1 := { d with level := raw, sample := raw }
  let any := (List.range 32).foldl (fun a j => a + b2n (Table.get 0 d1.latch j != 0) * 2 ^ j) 0
  let r := withCrc16 (leBytes 1 k ++ leBytes 1 (d1.stateOf (vals.getD 1 0) (vals.getD 2 0)) ++ beBytes 2 (d1.seqAck.getD 0) ++ beBytes 4 raw ++ beBytes 4 any
    ++ beBytes 4 d1.tpfail ++ leBytes 1 d1.diagNext ++ leBytes 1 (d1.diagByte d1.diagNext) ++ leBytes 1 d1.tpOvl ++ leBytes 1 (vals.getD 1 0)
    ++ leBytes 1 (vals.getD 2 0) ++ [0])
  (s.setDie k { d1 with diagNext := (d1.diagNext + 1) % 32 }).emit (.dieReply k r)

/-- A load-switch die measures and replies (R389). `vals` are the eight currents in 0.1 A, the supply, the hottest junction, the
limiters that are active and the lands that read above 11 V. -/
def State.dieReply (s : State) (k : Nat) (vals : List Nat) : State :=
  let d := s.die k
  let b := k - 8
  let s1 := forEach (List.range 8) (fun s i => s.modSw (8 * b + i) (fun w =>
    let lim := w.st.conducts && (vals.getD 10 0).testBit i
    { w with current := min 255 (vals.getD i 0), limit := lim, lastLimit := if lim then some s.lt else w.lastLimit,
             extOn := !w.st.conducts && (vals.getD 11 0).testBit i })) s
  let sws := (List.range 8).flatMap (fun i => let w := s1.sw (8 * b + i); leBytes 1 (w.st.code + 8 * b2n w.limit + 16 * w.left))
  let cur := (List.range 8).flatMap (fun i => leBytes 1 (s1.sw (8 * b + i)).current)
  let sum := ((List.range 8).map (fun i => vals.getD i 0)).foldl (· + ·) 0
  let r := withCrc16 (leBytes 1 k ++ leBytes 1 (d.stateOf (vals.getD 8 0) (vals.getD 9 0)) ++ beBytes 2 (d.seqAck.getD 0) ++ sws ++ cur ++ beBytes 2 sum
    ++ leBytes 1 (vals.getD 8 0) ++ leBytes 1 (vals.getD 9 0) ++ leBytes 1 d.diagNext ++ leBytes 1 (s1.farDiag k d.diagNext))
  (s1.setDie k { d with diagNext := (d.diagNext + 1) % 8 }).emit (.dieReply k r)

/-- A tile or die receives a downlink frame and replies to it (R354). -/
def execTileFrameReceive (k : Fin 12) (bytes : List Byte) (vals : List Nat) (s : State) : Host.Outcome State Fault Refusal :=
  run s (fun s => when_ (s.die k).powered (fun s =>
    let s1 := s.takeFrame k bytes
    if k.val < 8 then s1.tileReply k vals else s1.dieReply k vals) s)

/-! ### The far end: application, timeouts, supply (R341, R342, R356, R359, R360, R365) -/

/-- CLR_DIAG at a tile (R369): latched bits whose cause has gone, TP failures and TP overloads. -/
def Die.clearDiag (d : Die) : Die :=
  { d with latch := (List.range 32).foldl (fun t j => Table.set 0 t j (Table.get 0 d.latch j &&& Table.get 0 d.cause j)) [], tpOvl := 0 }

/-- The apply instant of the first frame that waits (R354, R356): its outputs, supplies and CLR_DIAG take effect together. -/
def State.applyFrame (s : State) (k : Nat) : State :=
  match (s.die k).waiting with
  | [] => s
  | f :: rest =>
    let s1 := s.passTo f.due
    let d := { s1.die k with waiting := rest, tpOff := f.tpOff }
    if k < 8 then
      s1.setDie k ((if f.clrDiag then d.clearDiag else d).applyOut f.out f.active s1.lt)
    else (s1.setDie k { d with out := f.out, active := f.active }).applyBank (k - 8) f.out f.clr f.active f.clrDiag

def execTileApply (k : Fin 12) (s : State) : Host.Outcome State Fault Refusal := run s (fun s => s.applyFrame k)

/-- No accepted frame for TIMEOUT (R359). -/
def State.tileTimeout (s : State) (k : Nat) : State :=
  let d := s.die k
  when_ (d.powered && (d.phase == 1 || d.phase == 2)) (fun s =>
    let w := if k < 8 then 40 else 8
    let t := if d.stored.testBit w then d.word w % 2 ^ 14 else 200
    (s.passTo (d.lastOk + us (10 * t))).toSafe k) s

def execTileTimeout (k : Fin 12) (s : State) : Host.Outcome State Fault Refusal := run s (fun s => s.tileTimeout k)

/-- The supply is lost (R365, R392): the die resets and its outputs are off. -/
def State.supplyLoss (s : State) (k : Nat) : State :=
  let s1 := s.setDie k {}
  if k < 8 then s1
  else forEach (bankSwitches (k - 8)) (fun s n => s.modSw n (fun w => { target := w.target, cmd := w.cmd, onDue := w.onDue })) (s1.setBank (k - 8) {})

/-- Power-up (R359): UNCONFIGURED, outputs and supplies off, SAFE levels taken as off. -/
def State.powerUp (s : State) (k : Nat) : State := (s.supplyLoss k).setDie k { powered := true, lastOk := s.lt }

def execTilePowerUp (k : Fin 12) (s : State) : Host.Outcome State Fault Refusal := run s (fun s => s.powerUp k)

def execTileSupplyLoss (k : Fin 12) (s : State) : Host.Outcome State Fault Refusal := run s (fun s => s.supplyLoss k)

/-! ### Inputs: wetting and wire break (R336, R338) -/

/-- WET_T of a channel. -/
def Die.wetT (d : Die) (j : Nat) : Ticks := us (500 * fieldOf (d.word j) 11 8)

/-- An off-to-on transition of an input's raw level (R336): WET_T starts, anew where a pulse of the channel runs; a channel that waits goes on waiting. -/
def State.inputEdge (s : State) (c : Nat) : State :=
  let k := c / 32; let j := c % 32
  let d := s.die k
  when_ (d.powered && !d.isOut j && !d.level.testBit j && !d.inWindow.testBit j && !d.dark.testBit j) (fun s =>
    let d1 := { d with level := d.level ||| 2 ^ j }
    let own := d.wetting.filter (fun e => e.1 != j)
    s.setDie k (if fieldOf (d.word j) 7 6 = 0 ∨ d.wetQueue.any (fun e => e.1 == j) then d1
      else if own.length < 8 then { d1 with wetting := own ++ [(j, s.lt)] }
      else { d1 with wetQueue := d.wetQueue ++ [(j, s.lt)] })) s

def execFieldInputEdge (c : Fin 256) (s : State) : Host.Outcome State Fault Refusal := run s (fun s => s.inputEdge c)

/-- The channel that waits longest, the lower on a tie (R336). -/
def firstWaiting : List (Nat × Ticks) → Option (Nat × Ticks)
  | [] => none
  | e :: l => match firstWaiting l with
    | some u => if u.2 < e.2 ∨ (u.2 = e.2 ∧ u.1 < e.1) then some u else some e
    | none => some e

/-- WET_T ends, and a waiting channel starts (R336). -/
def State.wettingEnd (s : State) (c : Nat) : State :=
  let k := c / 32; let j := c % 32
  let d := s.die k
  match d.wetting.find? (fun e => e.1 == j) with
  | none => s
  | some e =>
    let s1 := s.passTo (e.2 + d.wetT j)
    let rest := d.wetting.filter (fun x => x.1 != j)
    s1.setDie k (match firstWaiting d.wetQueue with
      | none => { d with wetting := rest }
      | some q => { d with wetting := rest ++ [(q.1, s1.lt)], wetQueue := d.wetQueue.filter (fun e => e.1 != q.1) })

def execWettingEnd (c : Fin 256) (s : State) : Host.Outcome State Fault Refusal := run s (fun s => s.wettingEnd c)

/-- Latch diagnostic bit `b` of a channel, recording it the first time (R342, R372); `stays` says that its cause lasts. -/
def State.latchDiag (s : State) (c b : Nat) (stays : Bool) : State :=
  let k := c / 32; let j := c % 32
  let d := s.die k
  let old := Table.get 0 d.latch j
  let s1 := s.setDie k { d with latch := Table.set 0 d.latch j (old ||| 2 ^ b),
                                cause := Table.modify 0 d.cause j (fun x => if stays then x ||| 2 ^ b else x - (x &&& 2 ^ b)) }
  if old.testBit b then s1 else s1.raise 0x8009 c (leBytes 1 b)
/-- The cause of a diagnostic has gone; the latch stays until CLR_DIAG. -/
def State.causeGone (s : State) (c b : Nat) : State :=
  s.modDie (c / 32) (fun d => { d with cause := Table.modify 0 d.cause (c % 32) (fun x => x - (x &&& 2 ^ b)) })

/-- WIRE_BREAK (R338): `present` tells the beginning of the condition from its end. -/
def execWireBreak (c : Fin 256) (present : Bool) (s : State) : Host.Outcome State Fault Refusal :=
  run s (fun s => if !present then s.causeGone c 2
    else let d := s.die (c.val / 32)
         when_ (!d.isOut (c.val % 32) && (d.word (c.val % 32)).testBit 13) (fun s => s.latchDiag c 2 true) s)

/-! ### Outputs: overload, readback, open wire (R342, R343) -/

/-- An overload trip (`kind` 0), a thermal shutdown (1), or the junction cooled by 15 K (2) (R342). -/
def State.overload (s : State) (c kind : Nat) : State :=
  let k := c / 32; let j := c % 32
  if kind = 2 then (s.modDie k (fun d => { d with hot := d.hot - (d.hot &&& 2 ^ j) })).causeGone c 3
  else when_ ((s.die k).driven.testBit j) (fun s =>
    let d := s.die k
    let d1 := { d with tripped := Table.set none d.tripped j (some s.lt), rearmed := d.rearmed - (d.rearmed &&& 2 ^ j),
                       hot := if kind = 1 then d.hot ||| 2 ^ j else d.hot }
    (s.setDie k (d1.drive (d.driven - 2 ^ j) s.lt)).latchDiag c (if kind = 1 then 3 else 0) (kind == 1)) s

def execOutputOverload (c : Fin 256) (kind : Fin 3) (s : State) : Host.Outcome State Fault Refusal := run s (fun s => s.overload c kind)

/-- An output driven on has read off for 100 us (R343), not counting the 100 us after a change. -/
def execOutputReadback (c : Fin 256) (s : State) : Host.Outcome State Fault Refusal :=
  run s (fun s => let d := s.die (c.val / 32)
    when_ (d.driven.testBit (c.val % 32)) (fun s => (s.passTo (Table.get 0 d.changed (c.val % 32) + us 200)).latchDiag c 6 false) s)

/-- OPEN_WIRE of an output driven off with OW_EN 1 (R343): `present` tells the beginning of the condition from its end. -/
def execOpenWire (c : Fin 256) (present : Bool) (s : State) : Host.Outcome State Fault Refusal :=
  run s (fun s => if !present then s.causeGone c 1
    else let d := s.die (c.val / 32)
         when_ (d.isOut (c.val % 32) && (d.word (c.val % 32)).testBit 12 && !d.driven.testBit (c.val % 32)) (fun s => s.latchDiag c 1 true) s)

/-! ### Test-pulse supplies (R347 to R350) -/

/-- A supply in limit for more than 1 ms switches off, and the channels that it feeds read off (R347). -/
def State.tpOverload (s : State) (g : Nat) : State :=
  let k := g / 8; let i := g % 8
  let d := s.die k
  when_ (d.powered && (d.word (32 + i)).testBit 0 && !d.tpOvl.testBit i) (fun s =>
    (s.setDie k { d with tpOvl := d.tpOvl ||| 2 ^ i, level := d.level - (d.level &&& maskOf (d.fedBy i)) }).raise 0x800A g) s

def execFldTpOverload (g : Fin 64) (s : State) : Host.Outcome State Fault Refusal := run s (fun s => s.tpOverload g)

/-- Boundary of the next field frame whose apply instant starts a pulse of supply `g` (R348). -/
def State.tpNext (s : State) (g : Nat) : TimeNs :=
  let st := s.tpStart g s.tt
  if s.tt ≤ st + 4000 then st else s.tpStart g (st + s.tpPeriod)
/-- Length of a window (R348): the pulse and TP_REC. -/
def State.tpWindow (s : State) : Ticks := (s.tpWidth + s.tpRec) / 4

/-- The supply switches off at its next scheduled apply instant (R348): the window opens, and its channels report their last sample
before it. -/
def State.pulseStarts (s : State) (g : Nat) : State :=
  let k := g / 8; let i := g % 8
  when_ ((s.die k).powered && (s.die k).phase == 2 && ((s.die k).word (32 + i)) % 4 == 3 && (Table.get none (s.die k).windows i).isNone) (fun s =>
    let s1 := s.passToTt (s.tpNext g + 4000)
    let d := s1.die k
    let m := maskOf (d.testedBy i)
    s1.setDie k { d with tpOff := d.tpOff ||| 2 ^ i, inWindow := d.inWindow ||| m, windows := Table.set none d.windows i (some (s1.lt, m)),
                         before := (d.before - (d.before &&& m)) ||| (d.sample &&& m) }) s

def execTestPulseStart (g : Fin 64) (s : State) : Host.Outcome State Fault Refusal := run s (fun s => s.pulseStarts g)

/-- The window ends TP_REC after its pulse (R348, R350). `still` are the channels whose raw sample in the last field frame of the pulse was on: one
that was on before the window and is among them fails, and TP_FAIL latches. -/
def State.windowEnds (s : State) (g still : Nat) : State :=
  let k := g / 8; let i := g % 8
  match Table.get none (s.die k).windows i with
  | none => s
  | some w =>
    let s1 := s.passTo (w.1 + s.tpWindow)
    let d := s1.die k
    let was := w.2 &&& d.before
    let bad := was &&& still
    let mark (f : Nat → Nat → Nat) (t : Table Nat) : Table Nat :=
      ((List.range 32).filter (fun j => was.testBit j)).foldl (fun t j => Table.modify 0 t j (f j)) t
    s1.setDie k { d with
      tpOff := d.tpOff - (d.tpOff &&& 2 ^ i), inWindow := d.inWindow - (d.inWindow &&& w.2), windows := Table.set none d.windows i none
      tpfail := (d.tpfail - (d.tpfail &&& was)) ||| bad
      latch := mark (fun j x => if bad.testBit j then x ||| 16 else x) d.latch
      cause := mark (fun j x => if bad.testBit j then x ||| 16 else x - (x &&& 16)) d.cause }

def execTestPulseWindowEnd (g : Fin 64) (still : Nat) (s : State) : Host.Outcome State Fault Refusal := run s (fun s => s.windowEnds g still)

/-! ### Maintenance-reset inputs (R363, R364) -/

/-- A press begins (R363): it counts from the sample in which the input became active. -/
def execMrstPressBegin (i : Fin 4) (s : State) : Host.Outcome State Fault Refusal :=
  run s (fun s => when_ ((s.mrst i).active && (s.mrst i).released && (s.mrst i).press.isNone) (fun s =>
    s.modMrst i (fun m => { m with press := some m.onSince, released := false })) s)

/-- A press ends: accepted after 50 ms to 3 s; its effects follow in the next motion cycle (R364). -/
def State.pressEnd (s : State) (i : Nat) : State :=
  match (s.mrst i).press with
  | none => s
  | some t =>
    when_ (!(s.mrst i).active) (fun s =>
      let d := (s.mrst i).offSince - t
      let ok := decide (ms 50 ≤ d ∧ d ≤ sec 3)
      let s1 := s.modMrst i (fun m => { m with press := none, released := false, accepted := m.accepted || ok })
      if ok then s1.raise 0x800C i else s1) s

def execMrstPressEnd (i : Fin 4) (s : State) : Host.Outcome State Fault Refusal := run s (fun s => s.pressEnd i)

/-- A press lasts past 3 s. -/
def State.mrstStuck (s : State) (i : Nat) : State :=
  match (s.mrst i).press with
  | none => s
  | some t =>
    when_ (s.mrst i).active (fun s =>
      ((s.passTo (t + sec 3)).modMrst i (fun m => { m with press := none, stuck := true })).raise 0x800D i) s

def execFldMrstStuck (i : Fin 4) (s : State) : Host.Outcome State Fault Refusal := run s (fun s => s.mrstStuck i)

/-- The input has been inactive for 1 s. -/
def execMrstReleased (i : Fin 4) (s : State) : Host.Outcome State Fault Refusal :=
  run s (fun s => when_ (!(s.mrst i).active && (s.mrst i).press.isNone) (fun s =>
    (s.passTo ((s.mrst i).offSince + sec 1)).modMrst i (fun m => { m with released := true, stuck := false })) s)

/-- The effects of accepted presses in a motion cycle (R364): emergency reset for the masked portals, which the idle sequencer of a standby leaves out
(R524), and CLEAR. -/
def State.mrstActs (s : State) : State :=
  forEach ([0, 1, 2, 3].filter (fun i => (s.mrst i).accepted)) (fun s i =>
    let s1 := s.modMrst i (fun m => { m with accepted := false })
    let ps := if s1.standby then [] else (List.range 16).filter (fun p => s1.rb .fldMrst i (16 + p))
    (forEach ps (fun s p => (s.emergencyReset p).1) s1).ilkClear) s

end Sys2Proof.Machine
end

