-- ==== Sys2Proof/Machine/Time.lean ====
section
/-!
DEFINITION. Sys2Proof/Machine/Time.lean: train time: PTP messages, trackers, the servo, holdover, path changes, the jump guard,
twin-domain arbitration and steps (R400 to R434). The layout of PTP messages is that of IEEE 1588-2019 (log entry 32); the servo's
fixed-point form is the model's (log entry 33).
-/
namespace Sys2Proof.Machine
open Sys2Proof

/-- One tick of CLK_TIME, which is what a step does on an empty queue (log entry 3). -/
def tick (s : State) : Host.Outcome State Fault Refusal := run s (fun s => s.pass 1)

/-! ### Modes and ports (R409, R410) -/

def State.timeMode (s : State) : Nat := s.rf .timeCfg 0 2 0
/-- Ports on which a tracker receives Sync. -/
def State.syncPortList (s : State) : List Nat :=
  match s.timeMode with
  | 0 => []
  | 4 => [2, 3]
  | _ => [0, 1]
/-- Ports that carry PTP. -/
def State.ptpPortList (s : State) : List Nat :=
  match s.timeMode with
  | 0 => []
  | 3 => [0, 1, 2, 3]
  | 4 => [2, 3]
  | _ => [0, 1]
/-- The tracker of a domainNumber (R407, R409). -/
def State.trackerOf (s : State) (dom : Nat) : Option Nat :=
  if s.timeMode = 0 then none
  else if dom = s.rf .timeCfg 0 10 4 then some 0
  else if s.timeMode = 2 ∧ dom = s.rf .timeCfg 0 17 11 then some 1
  else none
/-- The sync interval in ticks: 2^-SYNC_SH s. -/
def State.syncInterval (s : State) : Ticks := sec 1 / 2 ^ s.rf .timeCfg 0 27 25
/-- The tracker that TT follows. -/
def State.mainTracker (s : State) : Nat := b2n s.time.followB
/-- LOCK_THR and JUMP_THR in ns. -/
def State.lockThr (s : State) : Nat := s.rf .timeServo 0 7 0
def State.jumpThr (s : State) : Nat := 10 * s.rf .timeServo 0 27 16

/-- Whether a port is usable (R410): neither settling nor uncompensated. -/
def State.portUsable (s : State) (i : Nat) : Bool := !(s.ptpPort i).settling && !(s.ptpPort i).uncomp
/-- The port of lower stepsRemoved in a list, the first on a tie. -/
def State.bestPort (s : State) (d : Nat) (ps : List Nat) : Option Nat :=
  ps.foldl (fun a i => match a with
    | none => some i
    | some m => if (s.syncPort d i).steps < (s.syncPort d m).steps then some i else a) none
/-- Ports of a list with a Sync in the last 3 intervals, or the whole list where there is none. -/
def State.alivePorts (s : State) (d : Nat) (ps : List Nat) : List Nat :=
  let a := ps.filter (fun i => (s.syncPort d i).synced && s.within (s.syncPort d i).lastSync (3 * s.syncInterval))
  if a = [] then ps else a
/-- The port that a tracker follows (R410, R422). -/
def State.followedPort (s : State) (d : Nat) : Option Nat :=
  let ps := s.syncPortList
  match s.bestPort d (s.alivePorts d (ps.filter s.portUsable)) with
  | some i => some i
  | none => s.bestPort d (s.alivePorts d (ps.filter (fun i => !(s.ptpPort i).settling)))

/-- MPD of a port: the average of its last 8 measurements (R414). -/
def PtpPort.mpd (p : PtpPort) : Nat := if p.delays = [] then 0 else (p.delays.foldl (· + ·) 0) / p.delays.length
/-- Asymmetry of a port (R412). -/
def State.asym (s : State) (i : Nat) : Int := s.rs .timeAsym i + (s.ptpPort i).topo

/-! ### Quality (R404, R405, R425) -/

/-- Order of qualities in twin-domain mode (R425), the best first. -/
def Quality.order : Quality → Nat
  | .locked => 0
  | .holdoverShort => 1
  | .uncompensated => 2
  | .acquiring => 3
  | .holdoverLong => 4
  | .free => 5

/-- Start holdover of a tracker; TT's frequency freezes at the mean of its last 16 values where TT follows it (R417). -/
def State.startHold (s : State) (d : Nat) : State :=
  let s1 := s.modTracker d (fun t => { t with quality := .holdoverShort, holdStart := some s.lt, holdLong := false, lockRun := 0, lostRun := 0, recovery := 0 })
  if d = s.mainTracker then
    let fs := s.time.lastFreqs
    let f := if fs = [] then s.time.freq else divTrunc (fs.foldl (· + ·) 0) fs.length
    { s1 with time := { s1.time with freq := f } }
  else s1

/-- TT follows the tracker of better quality (R425). -/
def State.chooseDomain (s : State) : State :=
  if s.timeMode ≠ 2 then s
  else
    let m := s.mainTracker
    let o := 1 - m
    let a := s.tracker m; let b := s.tracker o
    if b.jumped ∨ !(a.jumped || decide (b.quality.order < a.quality.order)) then s
    else
      let s1 := ({ s with time := { s.time with
        followB := o == 1, everLocked := s.time.everLocked || b.quality == Quality.locked || b.quality == Quality.uncompensated } }).raise 0xA009 noInst (leBytes 1 o)
      if b.quality = .locked ∧ 4 * s.lockThr < absN b.offset then s1.startHold o else s1

/-- After any change of quality: the domain is chosen, and the slots are judged under the quality now in force (R115, R404). -/
def State.afterQuality (s : State) (was : Quality) : State :=
  let s1 := s.chooseDomain
  if s1.quality.armed = was.armed then s1 else s1.judgeSlots

/-- Change a tracker and what follows from its quality. -/
def State.setQuality (s : State) (d : Nat) (q : Quality) : State :=
  (s.modTracker d (fun t => { t with quality := q })).afterQuality s.quality

/-- LOCKED or UNCOMPENSATED (R405). -/
def State.lockedQuality (s : State) (d : Nat) : Quality :=
  match s.followedPort d with
  | some i => if (s.ptpPort i).uncomp then .uncompensated else .locked
  | none => .locked
/-- A locked tracker takes the quality that its followed port gives. -/
def State.requalify (s : State) (d : Nat) : State :=
  let q := (s.tracker d).quality
  if q = .locked ∨ q = .uncompensated then s.setQuality d (s.lockedQuality d) else s

/-- Enter holdover (R417). Causes: 1 no Sync, 2 announce timeout, 3 no usable port, 4 a refused jump. -/
def State.holdover (s : State) (d cause : Nat) : State :=
  if (s.tracker d).holdStart.isSome ∨ !s.time.everLocked then s
  else
    let s1 := s.startHold d
    let s2 := if d = s.mainTracker then s1.raise 0xA002 noInst (leBytes 1 cause) else s1
    s2.afterQuality s.quality

/-- The lock condition of R415 is met. -/
def State.locks (s : State) (d : Nat) : State :=
  let q := s.lockedQuality d
  let main := d == s.mainTracker
  let s1 := s.modTracker d (fun t => { t with quality := q, lockRun := 8, lostRun := 0, recovery := 0, holdStart := none, holdLong := false })
  let s2 := if main then { s1 with time := { s1.time with everLocked := true, jumpPending := false } } else s1
  (if main then s2.raise 0xA001 noInst else s2).afterQuality s.quality

/-! ### The servo (R414 to R416) -/

/-- Put f within its bounds: ±250 ppm, in 2^-16 ppb. -/
def clampFreq (f : Int) : Int := clampInt (-250000 * 65536) (250000 * 65536) f

/-- One sample of the servo: proportional part 2^-KP within ±100 ppm, integral part 2^-KI (R400, R414). -/
def State.servo (s : State) (o : Int) : State :=
  let e : Int := o * 2 ^ (s.rf .timeCfg 0 27 25) * 65536
  let i := clampFreq (s.time.integ - divTrunc e (2 ^ (s.rf .timeServo 0 15 12)))
  let p := clampInt (-100000 * 65536) (100000 * 65536) (-(divTrunc e (2 ^ (s.rf .timeServo 0 11 8))))
  let f := clampFreq (i + p)
  { s with time := { s.time with integ := i, freq := f, lastFreqs := (s.time.lastFreqs ++ [f]).drop (s.time.lastFreqs.length + 1 - 16) } }

/-- A sample used by the servo (R415 to R417): before the first lock an offset above 10 us is stepped, not slewed. -/
def State.useSample (s : State) (d : Nat) (o : Int) : State :=
  let main := d == s.mainTracker
  let t := s.tracker d
  let n := absN o
  let good := decide (n ≤ s.lockThr)
  let run_ := if good then t.lockRun + 1 else 0
  let far := !s.time.everLocked && decide (10000 < n)
  let s1 := if main && s.time.stepPending.isNone && !far then s.servo o else s
  if t.holdStart.isSome then
    let rec_ := t.recovery + 1
    let s2 := s1.modTracker d (fun t => { t with lockRun := run_, recovery := rec_ })
    if 8 ≤ run_ then s2.locks d
    else if 16 ≤ rec_ then (s2.modTracker d (fun t => { t with holdStart := none, holdLong := false, lockRun := 0 })).setQuality d .acquiring
    else s2
  else if t.quality = .locked ∨ t.quality = .uncompensated then
    let bad := decide (4 * s.lockThr < n)
    let lost := if bad then t.lostRun + 1 else 0
    let s2 := s1.modTracker d (fun t => { t with lostRun := lost })
    if 4 ≤ lost then
      let s3 := (s2.modTracker d (fun t => { t with lostRun := 0, lockRun := 0 })).setQuality d .acquiring
      if main then s3.raise 0xA00B noInst else s3
    else s2.requalify d
  else
    let s2 := s1.modTracker d (fun t => { t with lockRun := run_, quality := .acquiring })
    if 8 ≤ run_ then s2.locks d
    else if main && far && s.time.stepPending.isNone then
      { s2 with time := { s2.time with stepPending := some o } }
    else s2.afterQuality s.quality

/-! ### Jumps (R423, R424, R426) -/

/-- A refused sample (R423, R424): the jump persists while samples stay within JUMP_THR of the first. Once the jump is confirmed, its step is
waited for. -/
def State.refuseJump (s : State) (d : Nat) (o : Int) : State :=
  let t := s.time
  if t.stepPending.isSome then s
  else if !t.jumpPending then
    (({ s with time := { t with jumpPending := true, jumpFirst := o, jumpSum := o, jumpCount := 1, jumpSince := s.lt } }).raise 0xA007 noInst
      (leBytes 4 (wrapTo 32 (satSigned 32 o)))).holdover d 4
  else if absN (o - t.jumpFirst) ≤ s.jumpThr then
    { s with time := { t with jumpSum := t.jumpSum + o, jumpCount := t.jumpCount + 1 } }
  else { s with time := { t with jumpFirst := o, jumpSum := o, jumpCount := 1, jumpSince := s.lt } }

/-- A jump is confirmed (R424): a step by the mean of the samples that confirmed it waits for its boundary. -/
def State.confirmJump (s : State) (o : Int) : State :=
  { s with time := { s.time with jumpPending := false, stepPending := some o } }

/-- A sample beyond JUMP_THR once TT has been LOCKED (R416, R423, R426). -/
def State.jumpSample (s : State) (d : Nat) (o : Int) : State :=
  let other := s.tracker (1 - d)
  if s.timeMode = 2 ∧ other.everSync then
    if absN other.offset ≤ s.jumpThr then (s.modTracker d (fun t => { t with jumped := true })).afterQuality s.quality
    else if absN (o - other.offset) ≤ s.jumpThr then s.confirmJump (divTrunc (o + other.offset) 2)
    else s.refuseJump d o
  else s.refuseJump d o

/-- Two locked trackers that differ by more than 4 × LOCK_THR in 8 consecutive pairs (R425). A pair ends with tracker B's sample. -/
def State.checkDomains (s : State) (d : Nat) : State :=
  if s.timeMode ≠ 2 ∨ d ≠ 1 then s
  else
    let a := s.tracker 0; let b := s.tracker 1
    let n := if a.quality = .locked ∧ b.quality = .locked ∧ 4 * s.lockThr < absN (a.offset - b.offset) then s.time.disagree + 1 else 0
    let s1 := { s with time := { s.time with disagree := if 8 ≤ n then 0 else n } }
    if 8 ≤ n then s1.raise 0xA00A noInst else s1

/-- An offset of a tracker on its followed port (R414 to R416, R423, R426). -/
def State.offsetSample (s : State) (d : Nat) (o : Int) : State :=
  let s1 := s.modTracker d (fun t => { t with offset := o, everSync := true })
  let s2 := if s.time.everLocked && decide (s.jumpThr < absN o) then s1.jumpSample d o
    else
      let s3 := s1.modTracker d (fun t => { t with jumped := false })
      let s4 := if d = s.mainTracker then { s3 with time := { s3.time with jumpPending := false } } else s3
      s4.useSample d o
  s2.checkDomains d

/-! ### Messages (R406, R414) -/

/-- messageType of a PTP message. -/
def ptpType (b : List Byte) : Nat := byteAt b 0 % 16
/-- correctionField in ns, rounded. -/
def ptpCorr (b : List Byte) : Int := divRound (signedOf 64 (beAt b 8 8)) 65536
/-- A time-stamp of seconds and nanoseconds. -/
def ptpStamp (b : List Byte) (off : Nat) : Int := (beAt b off 6 * 1000000000 + beAt b (off + 6) 4 : Nat)
/-- TT of a time-stamp captured `sub` ns after the present tick (R401). -/
def State.stamp (s : State) (sub : Nat) : Int := (s.tt + sub : Nat)

/-- A message is discarded (R407). -/
def State.ptpDiscard (s : State) (i : Nat) : State := s.count (164 + i)

/-- The tracker and port that take a message: the port carries Sync for the tracker, and the domain is the tracker's. -/
def State.ptpTaker (s : State) (i : Nat) (b : List Byte) : Option Nat := if i ∈ s.syncPortList then s.trackerOf (byteAt b 4) else none

/-- The offset of a Sync on port `i` (R414), used where the tracker follows the port. -/
def State.syncOffset (s : State) (d i : Nat) (t2 t1 c : Int) : State :=
  let s1 := (s.modSyncPort d i (fun p => { p with synced := true, lastSync := s.lt, pend := false })).count (160 + i)
  if s1.followedPort d = some i then
    (s1.modTracker d (fun t => { t with followed := i })).offsetSample d (t2 - t1 - c - ((s1.ptpPort i).mpd : Int) - s1.asym i)
  else s1

/-- A Sync: one-step, or the first half of a two-step one (R406, R414). -/
def State.ptpSync (s : State) (i : Nat) (b : List Byte) (sub : Nat) : State :=
  if ptpType b ≠ 0 then s.ptpDiscard i
  else match s.ptpTaker i b with
    | none => s
    | some d =>
      if (byteAt b 6).testBit 1 then
        s.modSyncPort d i (fun p => { p with pend := true, pendSeq := beAt b 30 2, pendT2 := s.stamp sub, pendC := ptpCorr b })
      else s.syncOffset d i (s.stamp sub) (ptpStamp b 34) (ptpCorr b)

def execPtpSync (i : Fin 4) (bytes : List Byte) (sub : Fin 4) (s : State) : Host.Outcome State Fault Refusal :=
  run s (fun s => s.ptpSync i bytes sub)

/-- A Follow_Up supplies the origin time of the Sync with its sequenceId. -/
def State.ptpFollowUp (s : State) (i : Nat) (b : List Byte) : State :=
  if ptpType b ≠ 8 then s.ptpDiscard i
  else match s.ptpTaker i b with
    | none => s
    | some d =>
      let p := s.syncPort d i
      if p.pend ∧ p.pendSeq = beAt b 30 2 then s.syncOffset d i p.pendT2 (ptpStamp b 34) (p.pendC + ptpCorr b) else s

def execPtpFollowUp (i : Fin 4) (bytes : List Byte) (s : State) : Host.Outcome State Fault Refusal := run s (fun s => s.ptpFollowUp i bytes)

/-- A path change of a port (R420, R421): it settles, its MPD restarts, and TT enters holdover where no usable port is left. -/
def State.pathChange (s : State) (i new : Nat) : State :=
  let old := (s.ptpPort i).mpd
  let was (d : Nat) : Option Nat := s.followedPort d
  let s1 := (s.modPtpPort i (fun p => { p with settling := true, settleStart := s.lt, delays := [], diffs := 0 })).raise 0xA004 i
    (leBytes 4 old ++ leBytes 4 new)
  forEach [0, 1] (fun s d => if (s.tracker d).everSync && (s.syncPortList.filter s.portUsable) == [] && was d == some i
    then s.holdover d 3 else s.requalify d) s1

/-- An Announce (R420): a changed stepsRemoved or parent port identity is a path change. UTC is recorded (R406). -/
def State.ptpAnnounce (s : State) (i : Nat) (b : List Byte) : State :=
  if ptpType b ≠ 11 then s.ptpDiscard i
  else match s.ptpTaker i b with
    | none => s
    | some d =>
      let p := s.syncPort d i
      let st := beAt b 61 2; let par := beAt b 20 10
      let s1 := s.setSyncPort d i { p with steps := st, parent := par, announced := true, lastAnnounce := s.lt }
      let s2 := if d = s.mainTracker then { s1 with time := { s1.time with utc := signedOf 16 (beAt b 44 2), utcValid := (byteAt b 7).testBit 2 } } else s1
      if p.announced ∧ (p.steps ≠ st ∨ p.parent ≠ par) then s2.pathChange i (s2.ptpPort i).mpd else s2

def execPtpAnnounce (i : Fin 4) (bytes : List Byte) (s : State) : Host.Outcome State Fault Refusal := run s (fun s => s.ptpAnnounce i bytes)

/-- clockIdentity: the EUI-64 of the device's address, as IEEE 1588 forms it. -/
def clockIdentity : List Byte :=
  let m := beBytes 6 Config.macAddress.toNat
  slice m 0 3 ++ [0xFF, 0xFE] ++ slice m 3 3
/-- A PTP header (IEEE 1588-2019, 13.3). -/
def ptpHeader (type len dom flags corr seq port ctl logInt : Nat) : List Byte :=
  leBytes 1 type ++ [2] ++ beBytes 2 len ++ leBytes 1 dom ++ [0] ++ beBytes 2 flags ++ beBytes 8 corr ++ [0, 0, 0, 0] ++ clockIdentity ++ beBytes 2 port
    ++ beBytes 2 seq ++ leBytes 1 ctl ++ leBytes 1 logInt
/-- A time-stamp's bytes. -/
def ptpStampBytes (t : Nat) : List Byte := beBytes 6 (t / 1000000000) ++ beBytes 4 (t % 1000000000)

/-- A Pdelay_Req is answered with a one-step Pdelay_Resp (R406, R413): its turnaround time is written as the frame leaves; the manual
does not state it. -/
def State.pdelayReq (s : State) (i : Nat) (b : List Byte) : State :=
  if ptpType b ≠ 2 ∨ i ∉ s.ptpPortList then s.ptpDiscard i
  else
    let r := s.draw 24
    let corr := wrapTo 64 (signedOf 64 (beAt b 8 8) + (r.1 : Int))
    r.2.emit (.ptp i (ptpHeader 3 54 (byteAt b 4) 0 corr (beAt b 30 2) (i + 1) 5 0x7F ++ List.replicate 10 0 ++ slice b 20 10))

def execPtpPdelayReq (i : Fin 4) (bytes : List Byte) (s : State) : Host.Outcome State Fault Refusal := run s (fun s => s.pdelayReq i bytes)

/-- A completed measurement (R414, R420). -/
def State.newDelay (s : State) (i : Nat) (m : Int) : State :=
  let p := s.ptpPort i
  let v := (max m 0).toNat
  let diff := p.delays ≠ [] ∧ s.rf .timePath 0 9 0 < absN (m - (p.mpd : Int))
  let n := if diff then p.diffs + 1 else 0
  if 2 ≤ n then (s.setPtpPort i { p with waiting := false }).pathChange i v
  else s.setPtpPort i { p with delays := (p.delays ++ [v]).drop (p.delays.length + 1 - 8), diffs := n, waiting := false }

/-- A Pdelay_Resp or its follow-up (R414). -/
def State.pdelayResp (s : State) (i : Nat) (b : List Byte) (sub : Nat) : State :=
  let p := s.ptpPort i
  let ty := ptpType b
  if (ty ≠ 3 ∧ ty ≠ 10) ∨ i ∉ s.ptpPortList then s.ptpDiscard i
  else if !p.waiting || beAt b 30 2 != p.reqSeq then s
  else if ty = 3 then
    let t4 := s.stamp sub
    if (byteAt b 6).testBit 1 then
      s.setPtpPort i { p with twoStep := true, respT2 := ptpStamp b 34, respT4 := t4, respC := ptpCorr b }
    else s.newDelay i (divTrunc (t4 - p.reqT1 - ptpCorr b) 2)
  else if p.twoStep then
    (s.setPtpPort i { p with twoStep := false }).newDelay i (divTrunc ((p.respT4 - p.reqT1) - (ptpStamp b 34 - p.respT2) - p.respC - ptpCorr b) 2)
  else s

def execPtpPdelayResp (i : Fin 4) (bytes : List Byte) (sub : Fin 4) (s : State) : Host.Outcome State Fault Refusal :=
  run s (fun s => s.pdelayResp i bytes sub)

/-- A Pdelay_Req leaves on every PTP port (R406). -/
def State.pdelaySend (s : State) : State :=
  forEach s.ptpPortList (fun s i =>
    let q := ((s.ptpPort i).reqSeq + 1) % 65536
    (s.modPtpPort i (fun p => { p with reqSeq := q, reqT1 := (s.tt : Int), waiting := true, twoStep := false })).emit
      (.ptp i (ptpHeader 2 54 (s.rf .timeCfg 0 10 4) 0 0 q (i + 1) 5 0xFE ++ List.replicate 20 0))) s

def execPtpPdelaySend (s : State) : Host.Outcome State Fault Refusal := run s State.pdelaySend

/-- clockClass sent on N2 and N3 in MODE 3 (R404). -/
def Quality.clockClass : Quality → Nat
  | .locked => 6
  | .holdoverShort => 7
  | .holdoverLong => 187
  | _ => 248

/-- Sync as master on N2 and N3 in MODE 3, with an Announce once per second (R406, R409). -/
def State.syncSend (s : State) : State :=
  when_ (s.timeMode == 3) (fun s =>
    let sh := s.rf .timeCfg 0 27 25
    let q := s.time.syncSeq % 65536
    let dom := s.rf .timeCfg 0 24 18
    let ann := decide (s.time.syncSeq % 2 ^ sh = 0)
    let s1 := forEach [2, 3] (fun s i =>
      let s0 := s.emit (.ptp i (ptpHeader 0 44 dom 0 0 q (i + 1) 0 (256 - sh) ++ ptpStampBytes s.tt))
      if ann then
        let flags := 8 + 4 * b2n s.time.utcValid
        s0.emit (.ptp i (ptpHeader 11 64 dom flags 0 (s.time.announceSeq % 65536) (i + 1) 5 0 ++ List.replicate 10 0 ++ leBytes 2 0
          ++ beBytes 2 (wrapTo 16 s.time.utc) ++ [0] ++ leBytes 1 128 ++ leBytes 1 s.quality.clockClass ++ [0xFE, 0xFF, 0xFF, 128] ++ clockIdentity
          ++ beBytes 2 0 ++ [0x20]))
      else s0) s
    { s1 with time := { s1.time with syncSeq := s1.time.syncSeq + 1, announceSeq := s1.time.announceSeq + b2n ann } }) s

def execPtpSyncSend (s : State) : Host.Outcome State Fault Refusal := run s State.syncSend

/-! ### Holdover and settling (R417, R421, R422) -/

/-- Missing Syncs, announce timeout or no usable port take a tracker into holdover (R417). -/
def State.holdoverNow (s : State) (d : Nat) : State :=
  let us_ := s.syncPortList.filter s.portUsable
  match s.followedPort d with
  | none => s.holdover d 3
  | some i =>
    let ports := if us_ = [] then [i] else us_
    let last := ports.foldl (fun m k => max m (s.syncPort d k).lastSync) 0
    let tSync := last + 3 * s.syncInterval
    let tAnn := (s.syncPort d i).lastAnnounce + sec 3
    if (s.syncPort d i).announced ∧ tAnn < tSync then
      let s1 := s.passTo tAnn
      (s1.modSyncPort d i (fun p => { p with steps := 0xFFFF, announced := false })).holdover d 2
    else (s.passTo tSync).holdover d 1

def execTimeHoldover (d : Fin 2) (s : State) : Host.Outcome State Fault Refusal := run s (fun s => s.holdoverNow d)

/-- Holdover reaches 2 s. -/
def State.holdLong (s : State) (d : Nat) : State :=
  match (s.tracker d).holdStart with
  | none => s
  | some t =>
    when_ (!(s.tracker d).holdLong) (fun s =>
      let s1 := (s.passTo (t + sec 2)).modTracker d (fun t => { t with holdLong := true })
      let s2 := if d = s1.mainTracker then s1.raise 0xA003 noInst else s1
      s2.setQuality d .holdoverLong) s

def execTimeHoldoverLong (d : Fin 2) (s : State) : Host.Outcome State Fault Refusal := run s (fun s => s.holdLong d)

/-- The topology entry of the current etbTopoCnt (R422). -/
def State.topoEntry (s : State) : Option Nat :=
  let key := if s.sys.profile = 1 then 0 else s.trdp.etbTopo
  (List.range (s.rf .timeTopoN 0 5 0)).find? (fun e => (s.reg .timeTopoKey e).toNat == key)

/-- A port's window ends (R422). -/
def State.settleEnd (s : State) (i : Nat) : State :=
  when_ (s.ptpPort i).settling (fun s =>
    let s1 := s.passTo ((s.ptpPort i).settleStart + ms (10 * s.rf .timePath 0 25 16))
    let s2 := match s1.topoEntry with
      | some e =>
        let v := if i = 0 then signedOf 16 (s1.rf .timeTopoAsym e 15 0) else if i = 1 then signedOf 16 (s1.rf .timeTopoAsym e 31 16) else 0
        let s3 := s1.modPtpPort i (fun p => { p with settling := false, uncomp := false, topo := v })
        ({ s3 with time := { s3.time with topoUsed := e } }).raise 0xA006 i (leBytes 1 e)
      | none =>
        let s3 := s1.modPtpPort i (fun p => { p with settling := false, uncomp := true, topo := 0 })
        ({ s3 with time := { s3.time with topoUsed := 0x3F } }).raise 0xA005 i
    (s2.requalify 0).requalify 1) s

def execTimeSettleEnd (i : Fin 4) (s : State) : Host.Outcome State Fault Refusal := run s (fun s => s.settleEnd i)

/-- ACCEPT_PATH (R422). -/
def State.acceptPath (s : State) : State :=
  ((forEach [0, 1, 2, 3] (fun s i => s.modPtpPort i (fun p => { p with uncomp := false })) s).requalify 0).requalify 1

/-- Mean of the samples of the pending jump. -/
def State.jumpMean (s : State) : Int := divTrunc s.time.jumpSum (max 1 s.time.jumpCount)
/-- ACCEPT_JUMP (R424). -/
def State.acceptJump (s : State) : State := if s.time.jumpPending then s.confirmJump s.jumpMean else s

/-- A pending jump persists for JUMP_PERSIST (R424). -/
def State.jumpPersists (s : State) : State :=
  when_ (s.time.jumpPending && s.rf .timeCfg 0 29 28 == 0) (fun s =>
    let s1 := s.passTo (s.time.jumpSince + sec (s.rf .timeJump 0 11 0))
    s1.confirmJump s1.jumpMean) s

def execTimeJumpConfirm (s : State) : Host.Outcome State Fault Refusal := run s State.jumpPersists

/-! ### Steps (R428) -/

/-- A step is deferred while any observer is armed or any axis is in emergency deceleration. -/
def State.stepBlocked (s : State) : Bool := s.obs.any (fun e => e.2.armed) || s.axes.any (fun e => e.2.mode == .emergency)
/-- STEP_DEFERRED (R433). -/
def State.stepDeferred (s : State) : Bool := s.time.stepPending.isSome && s.stepBlocked

/-- The armed slots are compared with the new TT (R428). -/
def State.judgePassed (s : State) : State :=
  forEach (s.slotsInOrder.filter (fun i => decide ((s.slot i).tt < s.tt))) (fun s i =>
    let c := s.slot i
    if permissive c.action then ((s.raise 0x3003 i (leBytes 1 2)).count 261).freeSlot i
    else
      let late := decide (c.tt + s.rf .portalSeqGrace 0 15 0 * 1000000 < s.tt)
      ({ s with seq := { s.seq with imm := s.seq.imm ++ [Imm.mk c.action c.target c.key late c.tt c.acc] } }).freeSlot i) s

/-- TT is stepped at a boundary of 50 us, whose field frames have started (R428). -/
def State.timeStep (s : State) : State :=
  match s.time.stepPending with
  | none => s
  | some o =>
    if s.stepBlocked then s
    else
      let s1 := s.passToTt (nextMultiple 50000 s.tt)
      let old := s1.tt
      let new := ((old : Int) - o).toNat
      let s2 := { s1 with time := { s1.time with ttFp := new * 2 ^ 32, stepPending := none, motionNext := nextMultiple 25000 (new + 25000),
                                                 fieldNext := nextMultiple 10000 (new + 10000) } }
      let s3 := forEach [0, 1] (fun s d => s.modTracker d (fun t => { t with offset := t.offset - o, jumped := false })) s2
      let s3 := forEach (List.range 12) (fun s k => s.modFlink k (fun l => { l with sentF := l.sentF + new - old })) s3
      (s3.raise 0xA008 noInst (s3.sinceTt old ++ s3.sinceTt new)).judgePassed

def execTimeStep (s : State) : Host.Outcome State Fault Refusal := run s State.timeStep

/-- Reading TIME_TT_LO captures TT and LT (R403). -/
def State.ttRead (s : State) : State :=
  { s with time := { s.time with ttHiCap := s.tt / 2 ^ 32, ltCap := s.lt - s.time.ltBase } }

/-- While LOCKED, the real-time clock is set from TT once per second (R402). -/
def State.rtcSet (s : State) : State :=
  when_ (s.quality == .locked) (fun s =>
    let s1 := s.passToTt (nextMultiple 1000000000 (s.tt + 1))
    { s1 with bk := { s1.bk with rtc := s1.tt / 1000000000 % 2 ^ 48, rtcValid := true } }) s

def execRtcSet (s : State) : Host.Outcome State Fault Refusal := run s State.rtcSet

end Sys2Proof.Machine
end

