-- ==== Sys2Proof/Machine/MotionCycle.lean ====
section
/-!
DEFINITION. Sys2Proof/Machine/MotionCycle.lean: one motion cycle boundary (R186, R427): observers, engines, drive link frames,
feedback latches, portals, arbiter, brake tests and channel A, in that order; and what the active device mirrors of them (R524).
-/
namespace Sys2Proof.Machine
open Sys2Proof

/-- Start of the timer that governs a portal's state. -/
def Portal.timer (q : Portal) : Option Ticks := match q.st with
  | .unlocking => some q.unlockStart
  | .locking => some q.lockStart
  | .referencing => some q.refStart
  | .warning => q.warnStart
  | .open_ => q.dwellStart
  | _ => none

/-- One portal in the portal block (R524, kind 1): state, flags, timer and release in 8 bytes. Log entry 34. -/
def State.portalEntry (s : State) (p : Nat) : List Byte :=
  let q := s.portal p
  let t := match q.timer with
    | some t => s.msSince t
    | none => 0xFFFF
  beBytes 1 q.st.code ++ beBytes 1 (b2n q.released + 2 * b2n q.reqEnabled + 4 * b2n q.emgPending + 8 * b2n q.unreferenced
    + 16 * b2n q.closeObstructed + 32 * b2n q.forced + 64 * b2n (q.lockPending || q.emgLockArrived)) ++ beBytes 1 q.reopenCnt ++ beBytes 1 q.flags
    ++ beBytes 2 t ++ beBytes 1 q.faultCause ++ beBytes 1 (b2n q.inCycle + 2 * b2n q.stepWanted + 4 * b2n q.openWanted)
/-- The item of `n` portals from portal `p`. -/
def State.portalItem (s : State) (p n : Nat) : List Byte := beBytes 1 p ++ (List.range n).flatMap (fun i => s.portalEntry (p + i))

/-- Whether an axis executes a motion: a plan, or one that waits. -/
def Axis.executing (x : Axis) : Bool := x.plan.isSome || x.pending.isSome || x.queue != []
/-- What an axis item carries besides LATCH (R524, kind 5). -/
def State.axisKey (s : State) (n : Nat) : List Byte :=
  let x := s.axis n
  let t := (x.pending.getD (x.plan.bind (·.target) |>.getD (divRound x.pos (2 ^ 32))))
  beInt 4 t ++ beBytes 1 (b2n x.referenced + 2 * b2n x.executing + 4 * b2n (x.mode != .off))
    ++ beBytes 1 (if s.onLink n then Table.get 0 (s.link (s.axisStage n).1).dly (s.axisStage n).2 else 0)
/-- An axis item. Log entry 34. -/
def State.axisItem (s : State) (n : Nat) : List Byte := beBytes 1 n ++ s.axisKey n ++ beInt 4 (s.latchOf n) ++ beBytes 8 s.time.bTt

/-- Send an axis item, and keep what was sent. -/
def State.mirrorAxis (s : State) (n : Nat) : State :=
  State.mirror { s with twin := { s.twin with axisSent := Table.set [] s.twin.axisSent n (s.axisKey n) } } 5 (s.axisItem n)
/-- Send a portal's entry alone, and keep what was sent. -/
def State.mirrorPortal (s : State) (p : Nat) : State :=
  State.mirror { s with twin := { s.twin with portalSent := Table.set [] s.twin.portalSent p (s.portalEntry p) } } 1 (s.portalItem p 1)

/-- Send what the mate is to have of this cycle (R524): the portal block, in fallback each portal on change (R525), and an axis on change or
every 10 ms. -/
def State.mirrorCycle (s : State) : State :=
  if !s.mirrors then s
  else
    let s1 := if s.twin.fallback then
        forEach ((List.range 16).filter (fun p => Table.get [] s.twin.portalSent p != s.portalEntry p)) State.mirrorPortal s
      else s.mirror 1 (s.portalItem 0 16)
    forEach (s1.enabledAxes.filter (fun n => Table.get [] s1.twin.axisSent n != s1.axisKey n || s1.time.bTt % 10000000 == 0)) State.mirrorAxis s1

/-- A motion cycle boundary. -/
def State.motionCycle (s : State) : State :=
  let s0 := s.passToTt s.time.motionNext
  let b := s0.time.motionNext
  let s1 := s0.soRecord.takeInputs
  let s2 := { s1 with time := { s1.time with bLt := s1.lt, bTt := b, motionNext := b + 25000, planned := false } }
  let s3 := forEach (List.range 64) State.fbLatch (forEach (List.range 8) State.dlSend s2)
  let s4 := forEach ((List.range 64).filter (fun n => (Table.get none s3.ilk.tests n).isSome)) State.testWatch s3
  let s5 := s4.mrstActs
  let s5 := if s5.standby then s5 else ((forEach s5.enabledPortals State.portalCycle s5).arbitrate).liftWithdraw
  let s5 := s5.noteDue
  let s6 := { s5 with twin := { s5.twin with clrFrames := s5.twin.clrFrames - 1 } }
  s6.channelA.mirrorCycle

def execMotionCycle (s : State) : Host.Outcome State Fault Refusal := run s State.motionCycle

end Sys2Proof.Machine
end

