-- ==== Sys2Proof/Machine/Net.lean ====
section
/-!
DEFINITION. Sys2Proof/Machine/Net.lean: the Ethernet switch (R435 to R468): parsing and classification, stream meters, HSR, address
learning, the packet buffer, transmission selection, gates, shaping, PAUSE. Ports 0 to 3 are N0 to N3, port 4 is N4.
-/
namespace Sys2Proof.Machine
open Sys2Proof

/-! ### Frames -/

/-- What is read from a frame: its addresses, VLAN tag, HSR tag (LSDUsize, sequence number) and what follows the tags. -/
structure Parsed where
  da : Nat
  sa : Nat
  tci : Option Nat
  hsr : Option (Nat × Nat)
  body : List Byte
  deriving DecidableEq, Repr

/-- The tags of a frame without its FCS. -/
def parseFrame (b : List Byte) : Parsed :=
  let da := beAt b 0 6; let sa := beAt b 6 6
  let tagged := decide (beAt b 12 2 = 0x8100)
  let o := if tagged then 16 else 12
  let h := decide (beAt b o 2 = 0x892F)
  { da := da, sa := sa, tci := if tagged then some (beAt b 14 2) else none,
    hsr := if h then some (beAt b (o + 2) 2 % 4096, beAt b (o + 4) 2) else none, body := b.drop (if h then o + 6 else o) }

/-- The device's own address. -/
def ownMac : Nat := Config.macAddress.toNat
/-- Multicast and broadcast addresses have the group bit set. -/
def groupAddr (a : Nat) : Bool := a.testBit 40
/-- Cells of a frame (R446). -/
def cellsOf (len : Nat) : Nat := divCeil len 256

/-- Ticks in which a port sends one byte: 1000 Mb/s, 100 Mb/s, or 2 Gb/s at N4 (R435). -/
def State.byteTicks (s : State) (p : Nat) : Nat := if p = 4 then 1 else if (s.port p).link = 1 then 20 else 2
/-- Bits that a port sends in one tick, times 10. -/
def State.rateTenths (s : State) (p : Nat) : Nat := if p = 4 then 80 else if (s.port p).link = 1 then 4 else 40
/-- Transmission time of a frame with preamble and gap. -/
def State.txTicks (s : State) (p len : Nat) : Ticks := (len + 20) * s.byteTicks p

/-- Whether a port is in use and its link is up. -/
def State.portUp (s : State) (p : Nat) : Bool := s.rb .netCfg 0 0 && s.rb .netPCfg p 0 && (p == 4 || (s.port p).link != 0)
/-- Whether the two ring ports work under HSR (R438). -/
def State.hsrOn (s : State) : Bool := s.rb .netCfg 0 1
/-- LOCAL_BRIDGE. -/
def State.localBridge (s : State) : Bool := s.rb .netCfg 0 2

/-- The VLAN entry of a VID. -/
def State.vlanOf (s : State) (vid : Nat) : Option Nat :=
  if vid = 0 then none else (List.range 64).find? (fun v => s.rf .netVlan v 11 0 == vid)
/-- Membership of a port in a VLAN. -/
def State.vlanMember (s : State) (vid p : Nat) : Bool :=
  match s.vlanOf vid with
  | some v => s.rb .netVlan v (12 + p)
  | none => false

/-- A discard is counted by port and cause (R462, R581). -/
def State.netDrop (s : State) (p cause : Nat) : State := s.count (178 + 8 * p + (cause - 1))

/-! ### Credit and gates (R450 to R452) -/

/-- Frames queued on a port in a class. -/
def State.netQueue (s : State) (p c : Nat) : List Nat := Table.get [] (s.port p).queues c
/-- A frame in the buffer. -/
def State.frame? (s : State) (id : Nat) : Option NetFrame := s.net.frames.find? (fun f => f.id == id)

/-- Whether the gate of a class is open (R452); class A has none. -/
def State.gateOpen (s : State) (p c : Nat) : Bool := c == 0 || !s.rb .netPGclCfg p 0 || (s.port p).gates.testBit (c - 1)

/-- Entries of a port's list: gates and interval in ns. -/
def State.gclEntry (s : State) (p e : Nat) : Nat × Nat :=
  let w := s.reg .netPGcl p e
  (fld w 2 0, 10 * fld w 31 8)
def State.gclLen (s : State) (p : Nat) : Nat := s.rf .netPGclCfg p 5 1
def State.gclCycle (s : State) (p : Nat) : Nat := 25000 * s.rf .netPGclCfg p 23 8

/-- Time for which the gate of class `c` stays open from the start of entry `e`, over at most `k` consecutive entries. -/
def State.openFrom (s : State) (p c : Nat) : Nat → Nat → Nat
  | 0, _ => 0
  | k + 1, e =>
    let g := s.gclEntry p e
    if g.1.testBit (c - 1) then g.2 + s.openFrom p c k ((e + 1) % max 1 (s.gclLen p)) else 0
/-- Whether a transmission of `n` ticks that starts now can end before its class's gate closes (R452). -/
def State.gateFits (s : State) (p c n : Nat) : Bool :=
  if c = 0 ∨ !s.rb .netPGclCfg p 0 then true
  else
    let len := s.gclLen p
    let q := s.port p
    let total := s.openFrom p c len q.gateEntry
    let all := (List.range len).all (fun e => (s.gclEntry p e).1.testBit (c - 1))
    all || decide (4 * n + (s.tt - q.gateStart) ≤ total)
/-- Whether an open interval of a class, counting consecutive entries, can carry a frame of `n` ticks (R453); a gate that never closes can. -/
def State.everFits (s : State) (p c n : Nat) : Bool :=
  (List.range (s.gclLen p)).all (fun e => (s.gclEntry p e).1.testBit (c - 1))
    || (List.range (s.gclLen p)).any (fun e => decide (4 * n ≤ s.openFrom p c (s.gclLen p) e))

/-- Bring the class B credit of a port up to now (R451): it falls while class B transmits, rises while class B waits, goes to 0 when the
queue empties with positive credit, and is frozen while the gate is closed. -/
def State.syncCredit (s : State) (p : Nat) : State :=
  let idle := s.rf .netPCbs p 9 0
  let q := s.port p
  let dt := s.lt - q.creditAt
  let up : Int := ((idle * dt * 4096 / 1000 : Nat) : Int)
  let down : Int := ((s.rateTenths p * dt * 1024 / 10 : Nat) : Int)
  let sending := match q.sending with
    | some x => x.cls == 1
    | none => false
  let c := if idle = 0 then 0
    else if sending then q.credit + up - down
    else if !s.gateOpen p 1 then q.credit
    else if s.netQueue p 1 ≠ [] then q.credit + up
    else if q.credit < 0 then min 0 (q.credit + up) else 0
  s.setPort p { q with credit := c, creditAt := s.lt }

/-! ### The packet buffer (R446 to R449, R453) -/

/-- Class A cells in use. -/
def State.reserveUsed (s : State) : Nat :=
  ((s.net.frames.filter (fun f => f.cls == 0)).flatMap (·.charges)).foldl (fun a c => a + c.2.1) 0
/-- MIN of a class in cells. -/
def State.minCells (s : State) (c : Nat) : Nat := 64 * (if c = 1 then s.rf .netBuf 0 7 0 else if c = 2 then s.rf .netBuf 0 15 8 else s.rf .netBuf 0 23 16)
/-- Charges of queue (port, class): from its minimum and from the shared pool. -/
def State.queueUsed (s : State) (p c : Nat) : Nat × Nat :=
  ((s.net.frames.filter (fun f => f.cls == c)).flatMap (·.charges)).foldl (fun a x => if x.1 = p then (a.1 + x.2.1, a.2 + x.2.2) else a) (0, 0)
/-- Free cells of the shared pool. -/
def State.sharedFree (s : State) : Nat :=
  16384 - 1024 - 5 * (s.minCells 1 + s.minCells 2 + s.minCells 3)
    - ((s.net.frames.filter (fun f => f.cls != 0)).flatMap (·.charges)).foldl (fun a c => a + c.2.2) 0
/-- Class A frames held for a port, the one in transmission included (R447). -/
def State.aHeld (s : State) (p : Nat) : Nat := (s.net.frames.filter (fun f => f.cls == 0 && f.ports.contains p)).length
/-- A_DEPTH of a port. -/
def State.aDepth (s : State) (p : Nat) : Nat := if p = 4 then 8 else s.rf .netALim 0 19 16
/-- Cells held for class C and D frames that entered on a port (R455). -/
def State.cdHeld (s : State) (i : Nat) : Nat :=
  (s.net.frames.filter (fun f => f.ingress == i && decide (2 ≤ f.cls))).foldl (fun a f => a + cellsOf f.len) 0

/-- Admission of a frame to one egress queue (R447, R453): its charge, or the refusal recorded. -/
def State.admitFrame (s : State) (f : NetFrame) (p : Nat) : State × Option (Nat × Nat × Nat) :=
  let n := cellsOf f.len
  if f.cls = 0 then
    if s.reserveUsed + n ≤ 1024 ∧ s.aHeld p < s.aDepth p then (s, some (p, n, 0))
    else ((s.netDrop p 6).raiseRated 0xB004 p 0, none)
  else if (s.rf .netLowMax 0 10 0 < f.len ∧ s.rb .netPCfg p 3) ∨
      (s.rb .netPGclCfg p 0 ∧ !s.everFits p f.cls (s.txTicks p f.len)) then
    ((s.netDrop p 8).raiseRated 0xB007 p 0, none)
  else
    let used := s.queueUsed p f.cls
    let m := min n (s.minCells f.cls - used.1)
    let sh := n - m
    if 8 * (used.2 + sh) ≤ 2 ^ s.rf .netBuf 0 26 24 * s.sharedFree ∧ sh ≤ s.sharedFree then (s, some (p, m, sh))
    else ((s.netDrop p 7).raiseRated 0xB009 p 0, none)

/-- A PAUSE frame (R454). -/
def pauseFrame (time : Nat) : List Byte :=
  padTo 60 ([0x01, 0x80, 0xC2, 0x00, 0x00, 0x01] ++ beBytes 6 ownMac ++ beBytes 2 0x8808 ++ beBytes 2 1 ++ beBytes 2 time)

/-- XOFF and XON of a port (R455). -/
def State.judgePause (s : State) (i : Nat) : State :=
  if !(i == 2 || i == 3) || !s.rb .netPCfg i 4 then s
  else
    let n := s.cdHeld i
    let q := s.port i
    if !q.xoff && decide (64 * s.rf .netPPauseTh i 7 0 < n) then
      (((s.setPort i { q with xoff := true, pauseSent := s.lt }).emit (.netFrame i (pauseFrame 0xFFFF))).raise 0xB00A i).count (220 + i)
    else if q.xoff && decide (n ≤ 64 * s.rf .netPPauseTh i 15 8) then
      ((s.setPort i { q with xoff := false }).emit (.netFrame i (pauseFrame 0))).count (220 + i)
    else s

/-- Store a frame for the ports that accept it (R448). -/
def State.store (s : State) (f : NetFrame) (dests : List Nat) : State :=
  let r := dests.foldl (fun (a : State × List (Nat × Nat × Nat)) p =>
    let t := a.1.admitFrame f p
    (t.1, match t.2 with
      | some c => a.2 ++ [c]
      | none => a.2)) (s, [])
  if r.2 = [] then r.1
  else
    let s1 := r.1
    let ports := r.2.map (·.1)
    let s2 := forEach ports State.syncCredit s1
    let s3 := { s2 with net := { s2.net with frames := s2.net.frames ++ [{ f with id := s2.net.nextId, ports := ports, charges := r.2 }], nextId := s2.net.nextId + 1 } }
    (forEach ports (fun s p => s.modPort p (fun q => { q with queues := Table.modify [] q.queues f.cls (fun l => l ++ [s2.net.nextId]) })) s3).judgePause f.ingress

/-! ### Learning, HSR and forwarding (R438 to R442) -/

/-- Ports by which the source of an address is reached: both ring ports for one learned on either (R442). -/
def reach (port : Nat) : List Nat := if port < 2 then [0, 1] else [port]

/-- Learn a source address (R442). -/
def State.learn_ (s : State) (vid sa i : Nat) : State :=
  if groupAddr sa then s
  else
    let port := if i < 2 then 0 else i
    let hit (e : MacEntry) : Bool := e.vid == vid && e.mac == sa
    if s.net.macs.any hit then
      { s with net := { s.net with macs := (s.net.macs.filter (fun e => !hit e)) ++ [MacEntry.mk vid sa port s.lt] } }
    else if s.net.macs.length < 4096 then { s with net := { s.net with macs := s.net.macs ++ [MacEntry.mk vid sa port s.lt] } }
    else s.raise 0xB00F i

/-- Egress ports of a frame by address and VLAN, without the ring's own forwarding (R442). -/
def State.dests (s : State) (vid da i : Nat) : List Nat :=
  let local_ (p q : Nat) : Bool := s.localBridge || !((decide (p < 2) && (q == 2 || q == 3)) || ((p == 2 || p == 3) && decide (q < 2)))
  let ok (p : Nat) : Bool := p != i && s.portUp p && s.vlanMember vid p && local_ i p && !(s.hsrOn && decide (i < 2) && decide (p < 2))
  let want := if da = ownMac then [4]
    else if groupAddr da then [0, 1, 2, 3, 4]
    else match s.net.macs.find? (fun e => e.vid == vid && e.mac == da) with
      | some e => reach e.port
      | none => [0, 1, 2, 3, 4]
  want.filter ok

/-- Note a node heard on N2 or N3 for the RedBox (R441): whether its frame is bridged to the ring. -/
def State.noteProxy (s : State) (sa : Nat) : State × Bool :=
  if s.net.proxies.any (fun p => p.mac == sa) then
    ({ s with net := { s.net with proxies := (s.net.proxies.filter (fun p => p.mac != sa)) ++ [⟨sa, s.lt⟩] } }, true)
  else if s.net.proxies.length < 64 then ({ s with net := { s.net with proxies := s.net.proxies ++ [⟨sa, s.lt⟩] } }, true)
  else (s.raise 0xB00E noInst, false)

/-- The controller's own supervision frame returns on a ring port (R440): `i` is where it arrives, sent on the other. -/
def State.supReturn (s : State) (i : Nat) : State :=
  let s1 := { s with net := { s.net with supSent := Table.set none s.net.supSent (1 - i) none } }
  if s1.net.ringOpen then ({ s1 with net := { s1.net with ringOpen := false } }).raise 0xB00D noInst else s1

/-- Whether a source is the controller's own: its address or a proxied node's. -/
def State.ownSource (s : State) (sa : Nat) : Bool := sa == ownMac || s.net.proxies.any (fun p => p.mac == sa)

/-- The transparent clock lies between N0 and N1: a PTP frame received elsewhere or bound elsewhere is not forwarded (R406, R407). -/
def ptpPasses (f : NetFrame) (p : Nat) : Bool := beAt f.body 0 2 != 0x88F7 || (decide (f.ingress < 2) && decide (p < 2))

/-- Forward a classified frame (R438, R439, R442). -/
def State.forward (s : State) (f : NetFrame) : State :=
  let i := f.ingress
  let base := (s.dests f.vid f.da i).filter (ptpPasses f)
  if !s.hsrOn then s.store f base
  else if i < 2 then
    if s.ownSource f.sa then
      if f.sa = ownMac ∧ beAt f.body 0 2 = 0x88FB then s.supReturn i else s
    else match f.hsr with
      | none => s.store f base
      | some q =>
        if s.net.dups.any (fun d => d.mac == f.sa && d.seq == q && s.within d.at_ (ms 400)) then s
        else
          let keep := s.net.dups.drop (s.net.dups.length + 1 - 1024)
          let s1 := { s with net := { s.net with dups := keep ++ [HsrEntry.mk f.sa q s.lt] } }
          let ring := if f.da = ownMac then [] else [1 - i].filter (fun p => s.portUp p && s.vlanMember f.vid p)
          s1.store f (ring ++ base)
  else
    let toRing := base.filter (fun p => decide (p < 2))
    let rest := base.filter (fun p => !decide (p < 2))
    if toRing = [] then s.store f rest
    else
      let r := if i = 4 then (s, true) else s.noteProxy f.sa
      if r.2 then
        let q := r.1.net.hsrSeq
        let s1 := { r.1 with net := { r.1.net with hsrSeq := (q + 1) % 65536 } }
        s1.store { f with hsr := some q } (([0, 1].filter (fun p => s1.portUp p && s1.vlanMember f.vid p)) ++ rest)
      else r.1.store f rest

/-! ### Reception (R444, R445, R461) -/

/-- The enabled stream filter of an ingress port with a DA and VID. -/
def State.filterOf (s : State) (i da vid : Nat) : Option Nat :=
  (List.range 32).find? (fun k =>
    let h := s.reg .netSfDaHi i k
    bitOf h 31 && fld h 15 0 * 2 ^ 32 + (s.reg .netSfDaLo i k).toNat == da && fld h 27 16 == vid)

/-- What a filter's bucket lacks now, in 1/200,000 byte (R445). -/
def State.spentNow (s : State) (i k : Nat) : Nat :=
  let q := s.port i
  Table.get 0 q.spent k - fld (s.reg .netSfMeter i k) 15 0 * (s.lt - Table.get 0 q.spentAt k)

/-- Police a class A frame: its class, or a discard (R444). -/
def State.police (s : State) (i : Nat) (p : Parsed) (vid len : Nat) : State × Option Nat :=
  match s.filterOf i p.da vid with
  | none => ((s.count (178 + 8 * i + 4)).raiseRated 0xB006 i 0, some 3)
  | some k =>
    let spent := s.spentNow i k
    if fld (s.reg .netSfSdu i k) 10 0 < len ∨ 200000 * fld (s.reg .netSfMeter i k) 31 16 < spent + 200000 * len then
      ((s.netDrop i 4).raiseRated 0xB005 i 0, none)
    else
      (s.modPort i (fun q => { q with spent := Table.set 0 q.spent k (spent + 200000 * len), spentAt := Table.set 0 q.spentAt k s.lt }), some 0)

/-- A discard as oversize, with the field named in its event (R461). -/
def State.oversize (s : State) (i field : Nat) : State := (s.netDrop i 3).raiseRated 0xB008 i field (leBytes 1 field)

/-- A frame of the switch before it has a number. -/
def frameOf (p : Parsed) (vid pcp len i cls : Nat) (now : Ticks) : NetFrame :=
  ⟨0, p.da, p.sa, vid, pcp, p.hsr.map (·.2), p.body, len, i, cls, [], [], now⟩

/-- Class of a frame of PCP `pcp` that entered on N0 to N3; PTP and supervision frames travel as class B (R444). -/
def State.classOf (s : State) (pcp ety : Nat) : Nat := if ety = 0x88F7 ∨ ety = 0x88FB then 1 else fld (s.reg .netPcpMap) (2 * pcp + 1) (2 * pcp)

/-- The kinds of PTP message that the transparent clock forwards; peer-delay messages stay on their link (R406, R407). -/
def ptpForwarded (t : Nat) : Bool := t == 0 || t == 8 || t == 11
def ptpKnown (t : Nat) : Bool := ptpForwarded t || t == 2 || t == 3 || t == 10

/-- A PAUSE is received (R456): honoured on N2 and N3 with PAUSE_RX 1, from the end of the frame in transmission. -/
def State.pauseReceive (s : State) (i time : Nat) : State :=
  let s1 := s.count (218 + i)
  if (i = 2 ∨ i = 3) ∧ s.rb .netPCfg i 5 then
    let from_ := match (s.port i).sending with
      | some x => max s.lt x.ends
      | none => s.lt
    let quantum := 64 * s.byteTicks i
    s1.modPort i (fun q => { q with pausedUntil := if time = 0 then none else some (from_ + quantum * time) })
  else s1.raise 0xB00B i

/-- A frame has been received (R444); of MAC control frames PAUSE alone is supported (R436). -/
def State.frameReceive (s : State) (i : Nat) (b : List Byte) (fcsOk : Bool) (cls4 : Nat) : State :=
  if !s.portUp i then s
  else
    let s := s.count (168 + i)
    let len := b.length + 4
    let p := parseFrame b
    if !fcsOk ∨ len < 64 then s.netDrop i 1
    else if 1528 < len then s.oversize i 3
    else
      let ety := beAt p.body 0 2
      let pay := p.body.length - 2
      if ety < 0x0600 ∧ pay < ety then s.oversize i 1
      else if (match p.hsr with
          | some h => h.1 == 0xFFF || decide (p.body.length + 4 < h.1)
          | none => false) then s.oversize i 2
      else
        let vid := match p.tci with
          | some t => if t % 4096 = 0 then s.rf .netPCfg i 19 8 else t % 4096
          | none => s.rf .netPCfg i 19 8
        let pcp := match p.tci with
          | some t => t / 8192
          | none => s.rf .netPCfg i 22 20
        if i ≠ 4 ∧ !s.vlanMember vid i then s.netDrop i 2
        else if ety = 0x8808 then (if i < 4 ∧ beAt p.body 2 2 = 1 then s.pauseReceive i (beAt p.body 4 2) else s)
        else if i ≠ 4 ∧ ety = 0x88F7 ∧ !ptpKnown (ptpType (p.body.drop 2)) then s.ptpDiscard i
        else if i ≠ 4 ∧ ety = 0x88F7 ∧ !ptpForwarded (ptpType (p.body.drop 2)) then s.learn_ vid p.sa i
        else
          let c := if i = 4 then cls4 else s.classOf pcp ety
          let r := if i ≠ 4 ∧ c = 0 then s.police i p vid len else (s, some c)
          match r.2 with
          | none => r.1
          | some c' => (r.1.learn_ vid p.sa i).forward (frameOf p vid pcp len i c' s.lt)

def execFrameReceive (i : Fin 5) (bytes : List Byte) (fcsOk : Bool) (cls : Fin 4) (s : State) : Host.Outcome State Fault Refusal :=
  run s (fun s => s.frameReceive i bytes fcsOk cls)

/-! ### Transmission (R450 to R452, R457) -/

/-- The bytes that leave a port: HSR tag on the ring, VLAN tag unless the VLAN is untagged there. -/
def State.egressBytes (s : State) (p : Nat) (f : NetFrame) : List Byte :=
  let untag := match s.vlanOf f.vid with
    | some v => s.rb .netVlan v (17 + p)
    | none => true
  let tag := if untag then [] else beBytes 2 0x8100 ++ beBytes 2 (f.pcp * 8192 + f.vid)
  let hsr := if s.hsrOn && decide (p < 2) then (match f.hsr with
      | some q => beBytes 2 0x892F ++ beBytes 2 (p * 4096 + (f.body.length + 4) % 4096) ++ beBytes 2 q
      | none => [])
    else []
  beBytes 6 f.da ++ beBytes 6 f.sa ++ tag ++ hsr ++ f.body

/-- A Sync that passes through gains its residence and the mean path delay of its ingress link in correctionField (R413). -/
def State.correctSync (s : State) (f : NetFrame) : NetFrame :=
  let m := f.body.drop 2
  if beAt f.body 0 2 = 0x88F7 ∧ ptpType m = 0 ∧ f.ingress < 4 then
    let add : Int := (((4 * (s.lt - f.rxAt) + (s.ptpPort f.ingress).mpd) * 65536 : Nat) : Int)
    let c := wrapTo 64 (signedOf 64 (beAt m 8 8) + add)
    { f with body := f.body.take 10 ++ beBytes 8 c ++ f.body.drop 18 }
  else f

/-- Whether the head of a class's queue may start (R450). -/
def State.mayStart (s : State) (p c : Nat) : Bool :=
  match s.netQueue p c with
  | [] => false
  | id :: _ => match s.frame? id with
    | none => false
    | some f => s.gateOpen p c && s.gateFits p c (s.txTicks p f.len) && (c != 1 || s.rf .netPCbs p 9 0 == 0 || decide (0 ≤ (s.port p).credit))
        && (decide (c < 2) || (s.port p).pausedUntil.isNone)

/-- A port that is free starts its next frame (R450). -/
def State.txStart (s : State) (p : Nat) : State :=
  when_ (s.portUp p && (s.port p).sending.isNone) (fun s =>
    let s1 := s.syncCredit p
    match [0, 1, 2, 3].find? (s1.mayStart p) with
    | none => s1
    | some c => match s1.netQueue p c with
      | [] => s1
      | id :: rest => match s1.frame? id with
        | none => s1
        | some f =>
          let s2 := s1.modPort p (fun q => { q with queues := Table.set [] q.queues c rest, sending := some ⟨id, c, f.len, s1.lt + s1.txTicks p f.len⟩ })
          let s3 := if c = 0 then s2.count (299 + min 10 ((s2.lt - f.rxAt) / ticksPerUs)) else s2
          s3.emit (.netFrame p (s3.egressBytes p (s3.correctSync f)))) s

def execFrameTransmitStart (p : Fin 5) (s : State) : Host.Outcome State Fault Refusal := run s (fun s => s.txStart p)

/-- A transmission ends (R447, R448): the frame's cells return when its last port has sent it. -/
def State.txEnd (s : State) (p : Nat) : State :=
  match (s.port p).sending with
  | none => s
  | some x =>
    let s1 := ((s.passTo x.ends).syncCredit p).count (173 + p)
    let upd (f : NetFrame) : Option NetFrame :=
      if f.id = x.id then (if f.ports = [p] then none else some { f with ports := f.ports.filter (fun k => k != p) }) else some f
    let ing := (s1.net.frames.find? (fun f => f.id == x.id)).map (·.ingress)
    let s2 := { s1 with net := { s1.net with frames := s1.net.frames.filterMap upd } }
    let s3 := s2.modPort p (fun q => { q with sending := none })
    match ing with
    | some i => s3.judgePause i
    | none => s3

def execFrameTransmitEnd (p : Fin 5) (s : State) : Host.Outcome State Fault Refusal := run s (fun s => s.txEnd p)

/-- The interval of a gate control list entry ends, or the list restarts at a cycle instant (R452). -/
def State.gclNext (s : State) (p : Nat) : State :=
  when_ (s.rb .netPGclCfg p 0) (fun s =>
    let q := s.port p
    let cyc := s.gclCycle p
    let stale := decide (s.tt < q.gateStart ∨ q.gateStart < s.tt / cyc * cyc)
    let e := q.gateEntry + 1
    let restart := stale || decide (s.gclLen p ≤ e)
    let at_ := if restart then nextMultiple cyc (if stale then s.tt else q.gateStart + 1) else q.gateStart + (s.gclEntry p q.gateEntry).2
    let s1 := (s.passToTt at_).syncCredit p
    let e' := if restart then 0 else e
    s1.modPort p (fun q => { q with gateEntry := e', gates := (s1.gclEntry p e').1, gateStart := at_ })) s

def execGclEntry (p : Fin 5) (s : State) : Host.Outcome State Fault Refusal := run s (fun s => s.gclNext p)

/-! ### PAUSE (R454 to R456) -/

def execPauseReceive (i : Fin 4) (time : Fin 65536) (s : State) : Host.Outcome State Fault Refusal := run s (fun s => s.pauseReceive i time)

/-- The pause_time runs out. -/
def execPauseExpire (i : Fin 4) (s : State) : Host.Outcome State Fault Refusal :=
  run s (fun s => match (s.port i).pausedUntil with
    | some t => (s.passTo t).modPort i (fun q => { q with pausedUntil := none })
    | none => s)

/-- 16 ms after the last PAUSE, while the count stays above XON (R455). -/
def execPauseRepeat (i : Fin 4) (s : State) : Host.Outcome State Fault Refusal :=
  run s (fun s => when_ (s.port i).xoff (fun s =>
    let s1 := s.passTo ((s.port i).pauseSent + ms 16)
    ((s1.modPort i (fun q => { q with pauseSent := s1.lt })).emit (.netFrame i (pauseFrame 0xFFFF))).count (220 + i)) s)

/-! ### Links, supervision and ageing (R437, R438, R440 to R442, R458) -/

/-- A link comes up (R437, R458); `fast` is 1000 Mb/s, where ADV advertises it. -/
def State.linkUp (s : State) (i : Nat) (fast : Bool) : State :=
  when_ (s.rb .netCfg 0 0 && s.rb .netPCfg i 0) (fun s =>
    let adv := s.rf .netPCfg i 2 1
    let g := if adv = 1 then true else if adv = 2 then false else fast
    let slow := !g && s.rb .netPCfg i 3
    let s1 := (s.modPort i (fun q => { q with link := if g then 2 else 1, aSlow := slow, creditAt := s.lt })).raise 0xB001 i (leBytes 1 (if g then 2 else 1))
    if slow then s1.raiseRated 0xB003 i 0 else s1) s

def execNetLinkUp (i : Fin 4) (fast : Bool) (s : State) : Host.Outcome State Fault Refusal := run s (fun s => s.linkUp i fast)

/-- A link goes down. -/
def execNetLinkDown (i : Fin 4) (s : State) : Host.Outcome State Fault Refusal :=
  run s (fun s => when_ ((s.port i).link != 0) (fun s => (s.modPort i (fun q => { q with link := 0, aSlow := false })).raise 0xB002 i) s)

/-- The controller's supervision frame (IEC 62439-3). -/
def supFrame (seq : Nat) : NetFrame :=
  { id := 0, da := 0x01154E000100, sa := ownMac, vid := 1, pcp := 0, hsr := none,
    body := padTo 48 (beBytes 2 0x88FB ++ beBytes 2 1 ++ beBytes 2 seq ++ [23, 6] ++ beBytes 6 ownMac ++ [0, 0]), len := 70, ingress := 4, cls := 1, ports := [],
    charges := [], rxAt := 0 }

/-- A supervision frame leaves on both ring ports every 2 s (R438); the watch of R440 starts for a port that waits for none. -/
def State.supSend (s : State) : State :=
  when_ s.hsrOn (fun s =>
    let q := s.net.hsrSeq
    let s1 := { s with net := { s.net with hsrSeq := (q + 1) % 65536, supSeq := (s.net.supSeq + 1) % 65536 } }
    let s2 := forEach [0, 1] (fun s p =>
      if s.portUp p ∧ Table.get none s.net.supSent p = none then { s with net := { s.net with supSent := Table.set none s.net.supSent p (some s.lt) } } else s) s1
    s2.store { supFrame s.net.supSeq with hsr := some q, rxAt := s.lt, vid := s.rf .netPCfg 4 19 8 } ([0, 1].filter s2.portUp)) s

def execHsrSupervisionSend (s : State) : Host.Outcome State Fault Refusal := run s State.supSend

/-- A copy has not returned within 4 s (R440). -/
def execNetRingOpen (p : Fin 2) (s : State) : Host.Outcome State Fault Refusal :=
  run s (fun s => match Table.get none s.net.supSent p with
    | none => s
    | some t =>
      let s1 := s.passTo (t + sec 4)
      if s1.net.ringOpen then s1 else ({ s1 with net := { s1.net with ringOpen := true } }).raise 0xB00C noInst)

/-- The entry of a list that was heard longest ago is the first. -/
def execMacAge (s : State) : Host.Outcome State Fault Refusal :=
  run s (fun s => match s.net.macs with
    | [] => s
    | e :: rest =>
      let s1 := s.passTo (e.seen + sec (10 * s.rf .netCfg 0 15 8))
      { s1 with net := { s1.net with macs := rest } })

def execProxyAge (s : State) : Host.Outcome State Fault Refusal :=
  run s (fun s => match s.net.proxies with
    | [] => s
    | e :: rest =>
      let s1 := s.passTo (e.seen + sec 60)
      { s1 with net := { s1.net with proxies := rest } })

def execHsrDuplicateForget (s : State) : Host.Outcome State Fault Refusal :=
  run s (fun s => match s.net.dups with
    | [] => s
    | e :: rest =>
      let s1 := s.passTo (e.at_ + ms 400)
      { s1 with net := { s1.net with dups := rest } })

end Sys2Proof.Machine
end

