-- ==== Sys2Proof/Machine/Read.lean ====
section
/-!
DEFINITION. Sys2Proof/Machine/Read.lean: what each register reads as: a stored register its stored value, a status register its
fields as the state holds them, a WO register 0 (R20). What a read changes beside this stands in Machine/Bus.lean.
-/
namespace Sys2Proof.Machine
open Sys2Proof

/-- A register from its bits. -/
def bitsWord (n : Nat) (f : Nat → Bool) : Word := BitVec.ofNat 32 ((List.range n).foldl (fun a k => a + b2n (f k) * 2 ^ k) 0)
/-- A natural number in a register, modulo 2^32. -/
def natWord (n : Nat) : Word := BitVec.ofNat 32 n
/-- Little-endian register `i` of a byte string, zeros beyond it. -/
def byteWord (bs : List Byte) (i : Nat) : Word := natWord (leAt bs (4 * i) 4)
/-- Clamp a number to an unsigned field. -/
def satNat (top n : Nat) : Nat := min top n

/-- Whether a side is released: every portal of it with EN 1 holds its release, and there is one (R137). -/
def State.sideReleased (s : State) (side : Nat) : Bool :=
  let ps := s.enabledPortals.filter (fun p => s.rf .portalCfg p 2 1 == side)
  ps != [] && ps.all (fun p => (s.portal p).released)

/-- PORTAL[p]_STATE (R139). -/
def State.portalState (s : State) (p : Nat) : Word :=
  let q := s.portal p
  compose [(q.st.code, 4, 0), (q.prev.code, 4, 4), (b2n q.released, 1, 8), (b2n q.reqEnabled, 1, 9), (b2n q.emgPending, 1, 10),
    (b2n (s.presentAxes p != [] && (s.presentAxes p).any (fun n => !(s.axis n).referenced)), 1, 11),
    (b2n (s.seq.starts.any (fun t => t.portal == p)), 1, 12), (b2n q.closeObstructed, 1, 13), (b2n q.forced, 1, 14),
    (b2n (q.lockPending || q.emgLockArrived || q.heldRestrictive.any (fun h => h.1 == 6 || h.1 == 7)), 1, 15), (satNat 15 q.reopenCnt, 4, 16),
    (q.faultCause, 4, 20)]

/-- PORTAL_SLOT_CTRL (R140). -/
def State.slotCtrlWord (s : State) (i : Nat) : Word :=
  let c := s.slot i
  compose [(c.action, 4, 0), (b2n (decide (5 ≤ c.action)), 1, 4), (c.target, 16, 8), (c.key, 4, 24), (c.state, 3, 28)]

/-- OBS[n]_STAT (R182). -/
def State.obStat (s : State) (n : Nat) : Word :=
  let o := s.ob n
  compose [(b2n o.armed, 1, 0), (b2n o.tripped, 1, 1), (b2n o.driftAlarm, 1, 2), (b2n o.commissioned, 1, 3),
    (b2n ((s.portal (n / 4)).coldLeft != 0), 1, 4), (b2n o.biasLimit, 1, 5), (b2n o.tableFallback, 1, 6), (b2n o.ceilOnly, 1, 7),
    (o.bin, 8, 8), (o.commLeft, 4, 16), (b2n o.injArmed, 1, 20), (satNat 7 o.stops, 3, 21)]

/-- The entry that OBS[n]_TBL_DATA shows (R180). -/
def State.tblEntry (s : State) (n : Nat) : Int :=
  let o := s.ob n
  let b := o.tblBin
  match o.tblSel with
  | 0 => o.ref true b
  | 1 => o.ref false b
  | 2 => o.com true b
  | 3 => o.com false b
  | 4 => s.fric n true b
  | _ => s.fric n false b

/-- AXIS[n]_STAT (R225). -/
def State.axisStatWord (s : State) (n : Nat) : Word :=
  let x := s.axis n
  compose [(x.mode.code, 3, 0), (b2n x.referenced, 1, 3), (b2n x.fault, 1, 4), (b2n (s.limitActive n false), 1, 5),
    (b2n (s.limitActive n true), 1, 6), (b2n x.limClose.latched, 1, 7), (b2n x.limOpen.latched, 1, 8), (b2n x.home.latched, 1, 9),
    (b2n x.loadHold, 1, 10), (b2n x.brakeRel, 1, 11), (b2n x.closing, 1, 12), (x.faultCause, 4, 16)]

/-- AXIS[n]_QSTAT (R226): the axis will rest at the next joint where its plan ends at rest and its segment has a successor (R196). -/
def State.axisQstatWord (s : State) (n : Nat) : Word :=
  let x := s.axis n
  let stop := decide (1 < x.queue.length) && (match x.plan with
    | some pl => pl.endV == 0
    | none => false)
  compose [(x.queue.length, 4, 0), (b2n stop, 1, 4), (b2n x.reversing, 1, 5), (x.reject, 4, 8), (x.segDone, 16, 16)]

/-- FB[n]_STAT (R267). -/
def State.fbStatWord (s : State) (m : Nat) : Word :=
  let f := s.fbp m
  compose [(f.faultCause, 4, 0), (b2n f.fault, 1, 4), (b2n f.dec, 1, 5), (b2n f.refIdx.isSome, 1, 6), (b2n f.idxFault, 1, 7),
    (b2n f.prbValid, 1, 8), (b2n f.prbLevel, 1, 9), (b2n (f.cmpDir != 0), 1, 10), (b2n f.behind, 1, 11)]

/-- DLK[k]_STAT (R291). -/
def State.dlkStatWord (s : State) (l : Nat) : Word :=
  let d := s.link l
  compose [(d.phase, 2, 0), (d.cause, 2, 2), (d.seen, 4, 4), (d.held, 8, 8), (d.stgFault, 8, 16), (b2n (s.enOut l), 1, 24)]

/-- SO_CMD and SO_RB (R332). -/
def State.soCmdBits (s : State) : Nat := (List.range 4).foldl (fun a k => a + b2n (s.so k).cmd * 2 ^ k) 0
def State.soRbBits (s : State) : Nat := (List.range 4).foldl (fun a k => a + b2n ((s.so k).readback && s.driveEnable) * 2 ^ k) 0

/-- ILK_STAT (R332). -/
def State.ilkStatWord (s : State) : Word :=
  compose [(s.soCmdBits, 4, 0), (s.soRbBits, 4, 4), (b2n s.ilk.pcrcFault, 1, 8), (b2n s.ilk.xchk, 1, 9),
    ((List.range 4).foldl (fun a k => a + b2n (s.so k).test * 2 ^ k) 0, 4, 10),
    (b2n ((List.range 20).any (fun i => (s.mon i).fault)), 1, 14),
    (b2n ((List.range 40).any (fun i => (s.pair i).disc || (s.pair i).tp)), 1, 15), (b2n s.operational, 1, 16), (b2n s.holder, 1, 17),
    (b2n (s.ilk.tileLost != 0), 1, 18)]

/-- Link status fields shared by tiles and dies (R371, R396). -/
def State.linkStat (s : State) (k : Nat) : List (Nat × Nat × Nat) :=
  let l := s.flink k
  [(if l.lost then 3 else l.phase, 2, 0), (l.stateByte % 4, 2, 2), (b2n (l.stateByte.testBit 4), 1, 4), (b2n (l.stateByte.testBit 5), 1, 5),
   (b2n (l.stateByte.testBit 3), 1, 6), (b2n l.held, 1, 7)]

/-- FLD[k]_TP_STAT: overloads of the last reply, and the supplies that are on: enabled and not overloaded. -/
def State.tpStatWord (s : State) (k : Nat) : Word :=
  let l := s.flink k
  compose [(l.tpOvl, 8, 0), ((List.range 8).foldl (fun a i => a + b2n (bitOf (s.reg .fldTp k i) 0 && !l.tpOvl.testBit i) * 2 ^ i) 0, 8, 8)]

/-- LSW[n]_STAT (R398), from the last reply's switch byte and diagnostics and the arbiter's deferrals. -/
def State.lswStatWord (s : State) (n : Nat) : Word :=
  let l := s.flink (8 + n / 8)
  let b := Table.get 0 l.swByte (n % 8)
  let d := Table.get 0 l.diag (n % 8)
  compose [(b % 8, 3, 0), (b / 8 % 2, 1, 3), (b / 16 % 16, 4, 4), (satNat 15 (s.sw n).deferrals, 4, 8), (b2n (d.testBit 0), 1, 12),
    (b2n (d.testBit 1), 1, 13), (b2n (d.testBit 2), 1, 14), (b2n (d.testBit 3), 1, 15), (b2n (d.testBit 4), 1, 16), (b2n (d.testBit 5), 1, 17),
    (b2n (d.testBit 6), 1, 18), (b2n (s.switchOwned n), 1, 19)]

/-- TIME_STAT (R433). -/
def State.timeStatWord (s : State) : Word :=
  let d := b2n s.time.followB
  let ports (f : PtpPort → Bool) : Nat := (List.range 4).foldl (fun a i => a + b2n (f (s.ptpPort i)) * 2 ^ i) 0
  compose [(s.quality.code, 3, 0), (b2n s.time.everLocked, 1, 3), (b2n s.time.jumpPending, 1, 4), (b2n s.stepDeferred, 1, 5),
    (d, 1, 6), (b2n (s.tracker 0).jumped, 1, 7), (b2n (s.tracker 1).jumped, 1, 8), ((s.tracker d).followed, 2, 9),
    (ports (·.settling), 4, 11), (ports (·.uncomp), 4, 15)]

/-- Time in holdover of the followed tracker, in units of 10 ms (R431). -/
def State.holdTime (s : State) : Nat := match (s.tracker (b2n s.time.followB)).holdStart with
  | some t => satNat 65535 ((s.lt - t) / ms 10)
  | none => 0

/-- NET_P[i]_STAT (R467). -/
def State.netPStatWord (s : State) (i : Nat) : Word :=
  let q := s.port i
  let cells := (List.range 3).foldl (fun a c => a + (s.queueUsed i (c + 1)).1 + (s.queueUsed i (c + 1)).2) 0
  compose [(if i = 4 then 3 * b2n (s.portUp 4) else q.link, 2, 0), (b2n q.pausedUntil.isSome, 1, 2), (b2n q.xoff, 1, 3), (b2n q.aSlow, 1, 4),
    (satNat 8 (s.aHeld i), 4, 8), (satNat 65535 cells, 16, 16)]

/-! ### TRDP and the partner table (R480, R507) -/

/-- Address of partner entry `k`: static where its register is not 0 (R480). -/
def State.partnerIp (s : State) (k : Nat) : Nat :=
  let a := (s.reg .trdpPartnerIp k).toNat
  if a != 0 then a else (Table.get {} s.trdp.partners k : Partner).ip
/-- Whether an entry is dynamic. -/
def State.partnerDynamic (s : State) (k : Nat) : Bool := (s.reg .trdpPartnerIp k).toNat == 0 && (Table.get {} s.trdp.partners k : Partner).dynamic
/-- Index of a partner address. -/
def State.partnerOf (s : State) (ip : Nat) : Option Nat := if ip = 0 then none else (List.range 128).find? (fun k => s.partnerIp k == ip)
/-- Entries in use. -/
def State.partnersUsed (s : State) : Nat := ((List.range 128).filter (fun k => s.partnerIp k != 0)).length
/-- EN of a connection. -/
def State.connEn (s : State) (c : Nat) : Bool := s.rb .stlCfg c 0
/-- Enabled connections. -/
def State.enabledConns (s : State) : List Nat := (List.range 64).filter s.connEn
/-- Remote address of a connection: its partner's, or under ANY the one that opened it. -/
def State.connIp (s : State) (c : Nat) : Nat := if s.rb .stlCfg c 6 then (s.conn c).ip else s.partnerIp (s.rf .stlCfg c 14 8)
/-- Connections of an address that are not CLOSED. -/
def State.connsOf (s : State) (ip : Nat) : List Nat := s.enabledConns.filter (fun c => (s.conn c).st != .closed && s.connIp c == ip)
/-- Whether the device sends and answers on the vehicle address (R472, R473). -/
def State.holdsVehicle (s : State) : Bool := (s.reg .trdpVehIp).toNat != 0 && (s.sys.twinRole == 0 || s.holder)

def ConnState.code : ConnState → Nat
  | .closed => 0
  | .opening => 1
  | .open_ => 2
  | .rekeying => 3
  | .failed => 4

/-- STL_CONN[c]_STAT (R508). -/
def State.stlStatWord (s : State) (c : Nat) : Word :=
  let q := s.conn c
  compose [(q.st.code, 3, 0), (b2n q.ageFeedback, 1, 3), (q.lastReject, 4, 4), ((s.partnerOf (s.connIp c)).getD 0, 8, 8)]

/-! ### Twin (R522, R540) -/

/-- ELIGIBLE (R522): the conditions of R520 other than the first and the last hold, and SYNCED is 1. -/
def State.eligible (s : State) : Bool := s.operational && !s.ilk.pcrcFault && !s.twin.testFail && s.twin.synced
/-- Whether a lane has delivered an accepted heartbeat within 300 us (R519). -/
def State.laneUp (s : State) (t : Option Ticks) : Bool := match t with
  | some t => s.within t (us 300)
  | none => false
/-- Whether the network path is up (R519). -/
def State.netPathUp (s : State) : Bool := match s.twin.net with
  | some t => s.within t (ms 3)
  | none => false

/-- TWIN_STAT (R540). -/
def State.twinStatWord (s : State) : Word :=
  let w := s.twin
  compose [(s.sys.twinRole, 2, 0), (b2n (s.sys.twinRole != 0 && s.holder), 1, 2), (b2n w.lineLow, 1, 3), (b2n s.eligible, 1, 4), (b2n w.synced, 1, 5),
    (b2n w.mateLost, 1, 6), (b2n (s.laneUp w.kz0), 1, 7), (b2n (s.laneUp w.kz1), 1, 8), (b2n s.netPathUp, 1, 9), (b2n w.fallback, 1, 10),
    (b2n w.releasing.isSome, 1, 11), (b2n w.revertReq, 1, 12), (b2n w.lineFault, 1, 13), (b2n w.cfgDiffer, 1, 14), (b2n w.testFail, 1, 15),
    (w.lastCause, 4, 16)]

/-! ### Recorder (R571, R579) -/

/-- Whether the last-word register passes its CRC (R571). -/
def State.lwValid (s : State) : Bool := decide (s.bk.lastWord.length = 64) && leAt s.bk.lastWord 60 4 == crc32c (s.bk.lastWord.take 60)

/-- REC_STAT (R579). -/
def State.recStatWord (s : State) : Word :=
  let r := s.rcd
  compose [(b2n r.degraded, 1, 0), (b2n r.hold, 1, 1), (b2n r.holdLimit, 1, 2), (b2n (r.hold && r.episode.isSome), 1, 3), (b2n (r.archState == 1), 1, 4),
    (b2n (r.archState == 2), 1, 5), (b2n r.sealFault, 1, 6), (b2n r.sealFull, 1, 7), (b2n s.lwValid, 1, 8)]

/-- State of folio `f`. -/
def State.folio (s : State) (f : Nat) : Folio := Table.get {} s.rcd.folios f
/-- NEXT: the oldest folio without KEEP (R566); 0 where every folio has KEEP. -/
def State.folioNext (s : State) : Option Nat :=
  ((List.range 4).filter (fun f => !(s.folio f).keep)).foldl (fun a f => match a with
    | none => some f
    | some g => if (s.folio f).age < (s.folio g).age then some f else some g) none
/-- REC_FOLIO_STAT. -/
def State.folioStatWord (s : State) : Word :=
  compose [((List.range 4).foldl (fun a f => a + b2n (s.folio f).valid * 2 ^ f) 0, 4, 0),
    ((List.range 4).foldl (fun a f => a + b2n (s.folio f).keep * 2 ^ f) 0, 4, 4), (s.folioNext.getD 0, 2, 8), (s.rcd.captures.length, 3, 10)]

/-! ### Security, flash, SYS (R618, R633, R673, R693) -/

def State.key (s : State) (k : Nat) : CmdKey := Table.get {} s.sc.keys k
/-- Last accepted counter of a key. -/
def State.counterOf (s : State) (k : Nat) : Nat := Table.get 0 s.sc.counters k
/-- Keys present. -/
def State.keyBits (s : State) : Nat := (List.range 16).foldl (fun a k => a + b2n (s.key k).present * 2 ^ k) 0
/-- Commands that occupy the verification queue (R605). -/
def State.queued (s : State) : Nat := (s.sc.verifying.filter (fun t => decide (s.lt < t))).length
/-- KEY_ID of an enrolled key (R54). -/
def keyId (x y : Nat) : List Byte := (sha384 (beBytes 48 x ++ beBytes 48 y)).take 8
/-- KEY_ID of the enrolled catalogue key: the newest enrolment (R610). -/
def State.enrolledId (s : State) : List Byte := match s.sc.enrolled.getLast? with
  | some q => keyId q.1 q.2
  | none => []

/-- Maintenance sessions that are open (R614). -/
def State.openSessions (s : State) : List Session := s.sc.sessions.filter (fun q => decide (s.lt < q.until_))

/-- SEC_STAT (R619). -/
def State.secStatWord (s : State) : Word :=
  compose [(b2n (s.sc.rngOk && !s.sc.rngFail), 1, 0), (b2n s.sc.rngFail, 1, 1), (b2n (s.key 0).present, 1, 2), (b2n (s.sc.enrolled != []), 1, 3),
    (b2n s.sc.debugFuse, 1, 4), (b2n s.sc.debugAttached, 1, 5), (s.queued, 4, 6), (s.openSessions.length, 3, 10)]
/-- SEC_OTP (R618). -/
def State.secOtpWord (s : State) : Word :=
  compose [(b2n s.sc.debugFuse, 1, 0), (s.sc.enrolled.length, 3, 4), (s.sc.fwRevoked, 4, 8), (s.sc.fwFloor, 6, 12)]

/-- NVM_STAT (R633). -/
def State.nvmStatWord (s : State) : Word :=
  compose [(b2n s.nvm.ready, 1, 0), (b2n s.nvm.octal, 1, 1), (b2n s.nvm.busy.isSome, 1, 2), (b2n s.nvm.done, 1, 3), (s.nvm.err, 4, 4),
    (s.nvm.sck, 8, 8), (s.nvm.cap, 16, 16)]

/-- Code of a start state (R694). -/
def StartState.code : StartState → Nat
  | .inReset => 0
  | .boot => 0
  | .config => 1
  | .selftest => 2
  | .join => 3
  | .operational => 4
  | .noFirmware => 8
  | .noImage => 9
  | .conflict => 10
  | .startFail => 11
/-- Maintenance-only states (R640). -/
def StartState.maintOnly : StartState → Bool
  | .noFirmware => true
  | .noImage => true
  | .conflict => true
  | .startFail => true
  | _ => false

/-- Whether the password lockout is in force (R83). -/
def State.pwLocked (s : State) : Bool := s.cat.lockout && decide (s.bk.rtc < s.cat.lockoutUntil)

/-- CAT_STATUS (R87). -/
def State.catStatusWord (s : State) : Word :=
  compose [(s.cat.runSlot, 2, 0), (s.cat.slotA, 2, 2), (s.cat.slotB, 2, 4), (b2n s.sys.lock, 1, 6), (b2n s.cat.conflict, 1, 7), (s.sys.profile, 1, 8),
    (b2n s.cat.commit.isSome, 1, 9), (b2n s.pwLocked, 1, 10), (s.cat.errEvent, 16, 16)]

/-- SYS_PWR_STAT (R674). -/
def State.pwrStatWord (s : State) : Word :=
  compose [(s.sys.domOn, 16, 0), (b2n s.sys.vbatLow, 1, 16), (b2n s.sys.shelving, 1, 17), (b2n s.sys.shelveRefused, 1, 18), (s.sys.refuseCause, 3, 19),
    (s.bk.wakeSrc, 2, 22)]

/-- The words of a snapshot entry (R592). -/
def snapHiWord (x : Snap) : Word := compose [(x.value / 2 ^ 32, 16, 0), (b2n x.ovf, 1, 16), (x.offset, 9, 17)]
/-- The counter that CNT_SEL selects. -/
def State.cntSelected (s : State) : Nat := s.rf .cntSel 0 8 0

/-- The blocks' status registers up to the links. -/
def State.readMotion (s : State) (r : RegId) (i j : Nat) : Word :=
  match r with
  | .portalState => s.portalState i
  | .portalCycLo => natWord ((s.portal i).cycles % 2 ^ 32)
  | .portalCycHi => compose [((s.portal i).cycHiCap, 8, 0), (b2n (s.portal i).cycOvfCap, 1, 31)]
  | .portalStartDelay => natWord (s.portal i).lastDelay
  | .portalSeqSide => compose [((List.range 16).foldl (fun a p => a + b2n (s.portal p).released * 2 ^ p) 0, 16, 0), (b2n (s.sideReleased 0), 1, 16),
      (b2n (s.sideReleased 1), 1, 17), (b2n s.seq.withdraw, 1, 18)]
  | .portalSeqLoad => compose [(satNat 4095 s.committed, 12, 0), (satNat 255 s.seq.starts.length, 8, 16)]
  | .portalSeqSlots => natWord s.slotsInOrder.length
  | .slotCtrl => s.slotCtrlWord i
  | .slotTtLo => natWord (s.slot i).tt
  | .slotTtHi => natWord ((s.slot i).tt / 2 ^ 32)
  | .slotSrc => natWord (s.slot i).src
  | .obsStat => s.obStat i
  | .obsFest => compose [(wrapTo 16 (force16 (s.ob i).fEst), 16, 0), (wrapTo 16 (s.ob i).env, 16, 16)]
  | .obsTripPos => intWord (s.ob i).tripPos
  | .obsTripInfo => compose [(wrapTo 16 (s.ob i).tripForce, 16, 0), ((s.ob i).tripBin, 8, 16), ((s.ob i).tripCause, 3, 24)]
  | .obsReactT => natWord (satNat 65535 (s.ob i).reactT)
  | .obsDrift => compose [(wrapTo 16 (s.ob i).drift, 16, 0), ((s.ob i).driftBin, 8, 16), (b2n (s.ob i).driftOpen, 1, 24)]
  | .obsSigPtr => natWord (s.ob i).sigPtr
  | .obsTblAddr => compose [((s.ob i).tblBin, 8, 0), ((s.ob i).tblSel, 3, 8)]
  | .obsTblData => natWord (wrapTo 16 (s.tblEntry i))
  | .axisStat => s.axisStatWord i
  | .axisPosSp => intWord (divRound (s.axis i).posSp 65536)
  | .axisSpdSp => intWord (s.axis i).spdSp
  | .axisFerr => intWord (satSigned 32 (s.axis i).ferr)
  | .axisQstat => s.axisQstatWord i
  | .axisStepPos => intWord (s.axis i).stepPos
  | .axisIlim => natWord (s.axis i).ilim
  | .fbStat => s.fbStatWord i
  | .fbPos => if s.fbWrapEn i then natWord (s.fbp i).pos else natWord (s.fbp i).count
  | .fbPosSh => compose [(b2n (s.fbp i).shOvf, 1, 0), (b2n (s.fbp i).shRwrap, 1, 1), (b2n (s.fbp i).shRevOvf, 1, 2)]
  | .fbRevSh => intWord (s.fbp i).revSh
  | .fbLatch => intWord (s.fbp i).latch
  | .fbSpeed => intWord (s.fbp i).speed
  | .fbIdxStat => compose [((s.fbp i).idxSlip, 16, 0), (wrapTo 8 (clampInt (-127) 127 (s.fbp i).idxD), 8, 16)]
  | .fbIdxPos => intWord (s.fbp i).idxPos
  | .fbPrbPos => intWord (s.fbp i).prbPos
  | .fbPrbLt => natWord (s.fbp i).prbLt
  | .fbCmpCnt => compose [((s.fbp i).cmpHits, 16, 0), ((s.fbp i).cmpSkip, 16, 16)]
  | .fbCmpNext => intWord (s.fbp i).cmpNext
  | .fbDiag => compose [((s.fbp i).illCnt, 16, 0), ((s.fbp i).ampl, 8, 16)]
  | .fbSsiRaw => natWord (s.fbp i).ssiRaw
  | .fbEvt => compose [(b2n (s.fbp i).evIllegal, 1, 0), (b2n (s.fbp i).evHeld, 1, 1), (b2n (s.fbp i).evDivLag, 1, 2), (b2n (s.fbp i).evPrbOvr, 1, 3)]
  | .dlkStat => s.dlkStatWord i
  | .dlkSeq => natWord (s.link i).seqLast
  | .dlkDly => natWord (Table.get 0 (s.link i).dly j)
  | .dlkStg => natWord (Table.get 0 (s.link i).stg j)
  | _ => s.reg r i j

/-- The status registers of the safety and field blocks. -/
def State.readField (s : State) (r : RegId) (i j : Nat) : Word :=
  match r with
  | .ilkPcrcRef => natWord s.ilk.pcrcRef
  | .ilkPcrcNow => natWord s.ilk.pcrcNow
  | .ilkStat => s.ilkStatWord
  | .ilkPortB => compose [(s.ilk.doorOk, 16, 0), (s.ilk.tracOk, 16, 16)]
  | .ilkPairFlt => bitsWord (if i = 0 then 32 else 8) (fun k => (s.pair (32 * i + k)).disc || (s.pair (32 * i + k)).tp)
  | .ilkPairVal => bitsWord (if i = 0 then 32 else 8) (fun k => (s.pair (32 * i + k)).value)
  | .ilkMonStat => bitsWord 20 (fun k => (s.mon k).fault)
  | .ilkBtFail => natWord (s.ilk.btFail / 2 ^ (32 * i))
  | .ilkBtDue => natWord (s.ilk.btOverdue / 2 ^ (32 * i))
  | .ilkLogCnt => natWord s.ilk.logCnt
  | .ilkLogStat => compose [(b2n s.ilk.logAbsent, 1, 0), (b2n s.ilk.logBad, 1, 1)]
  | .ilkLogData => byteWord s.ilk.logData i
  | .fldStat => compose (s.linkStat i ++ [((s.flink i).repeats, 8, 8), ((s.flink i).seq, 16, 16)])
  | .fldRaw => natWord (s.flink i).raw
  | .fldFilt => bitsWord 32 (fun k => s.filtered (32 * i + k))
  | .fldOutImg => natWord (s.flink i).outImg
  | .fldTpfail => natWord (s.flink i).tpfail
  | .fldTpStat => s.tpStatWord i
  | .fldSupply => compose [((s.flink i).vsup, 8, 0), ((s.flink i).temp, 8, 8)]
  | .fldDiag => compose ((List.range 4).map (fun b => (Table.get 0 (s.flink i).diag (4 * j + b), 8, 8 * b)))
  | .fldMrstStat => bitsWord 8 (fun k => if k < 4 then (s.mrst k).stuck else (s.mrst (k - 4)).released)
  | .lswStat => s.lswStatWord i
  | .lswCurrent => natWord (Table.get 0 (s.flink (8 + i / 8)).current (i % 8))
  | .lswBstat => compose (s.linkStat (8 + i) ++ [(b2n (s.bank i).contExceeded, 1, 8), ((s.flink (8 + i)).ibank, 16, 16)])
  | .lswBsup => compose [((s.flink (8 + i)).vsup, 8, 0), ((s.flink (8 + i)).temp, 8, 8)]
  | .timeStat => s.timeStatWord
  | .timeHold => natWord s.holdTime
  | .timeOffset => intWord (satSigned 32 (s.tracker (b2n s.time.followB)).offset)
  | .timeFreq => intWord (divTrunc s.time.freq 65536)
  | .timeTtLo => natWord s.tt
  | .timeTtHi => natWord s.time.ttHiCap
  | .timeLtLo => natWord s.time.ltCap
  | .timeLtHi => natWord (s.time.ltCap / 2 ^ 32)
  | .timeMpd => natWord (satNat 0xFFFFF (s.ptpPort i).mpd)
  | .timeTopoUsed => natWord s.time.topoUsed
  | .timeUtc => compose [(wrapTo 16 s.time.utc, 16, 0), (b2n s.time.utcValid, 1, 16)]
  | .netBufStat => compose [(s.sharedFree, 15, 0), (1024 - s.reserveUsed, 11, 16)]
  | .netHsrStat => compose [(s.net.proxies.length, 7, 0), (b2n s.net.ringOpen, 1, 8)]
  | .netMacStat => compose [(s.net.macs.length, 13, 0), (b2n (decide (4096 ≤ s.net.macs.length)), 1, 16)]
  | .netPStat => s.netPStatWord i
  | _ => s.readMotion r i j

/-- The status registers of the train blocks, the recorder and the counters. -/
def State.readTrain (s : State) (r : RegId) (i j : Nat) : Word :=
  match r with
  | .trdpStat => compose [(b2n s.trdp.dirValid, 1, 0), (b2n s.trdp.orientKnown, 1, 1), (b2n s.trdp.orient, 1, 2), (b2n s.holdsVehicle, 1, 3),
      (s.partnersUsed, 8, 8), (b2n s.trdp.partnerFull, 1, 16)]
  | .trdpEtbTopo => natWord s.trdp.etbTopo
  | .trdpOpTopo => natWord s.trdp.opTopo
  | .trdpCount => compose [(2 + 2 * s.enabledConns.length + ((List.range 128).filter s.partnerDynamic).length, 9, 0),
      (5 + 2 * s.enabledConns.length + (s.trdp.streams.filter (fun t => !t.inbound)).length, 8, 16)]
  | .trdpPartnerIp => natWord (s.partnerIp i)
  | .trdpPartnerStat => compose [(b2n (s.partnerIp i != 0), 1, 0), (b2n (s.partnerDynamic i), 1, 1),
      (if s.partnerIp i = 0 then 0 else (s.connsOf (s.partnerIp i)).length, 8, 8),
      (if s.partnerIp i = 0 then 0 else satNat 65535 ((s.lt - (Table.get {} s.trdp.partners i : Partner).heard) / sec 1), 16, 16)]
  | .stlStat => s.stlStatWord i
  | .stlSeqTx => natWord (s.conn i).cur.seqTx
  | .stlSeqRx => natWord (s.conn i).cur.seqRx
  | .twinStat => s.twinStatWord
  | .twinMate => match s.twin.beat with
      | some b => compose [(b.flags, 8, 0), (b.cause, 8, 8), (satNat 65535 ((s.lt - b.at_) / ms 1), 16, 16)]
      | none => 0
  | .twinMseq => natWord (if s.holder then s.twin.confirmed else s.twin.applied)
  | .twinTests => natWord s.twin.tests
  | .recStat => s.recStatWord
  | .recNextLo => natWord s.rcd.nextAcc
  | .recNextHi => natWord s.rcd.nextHiCap
  | .recOldestLo => natWord s.rcd.oldest
  | .recOldestHi => natWord s.rcd.oldestHiCap
  | .recLoad => compose [(satNat 1024 s.rcd.intake.length, 11, 0), (satNat 4096 s.rcd.holdQ.length, 13, 16)]
  | .recArch => compose [(s.rcd.archCnt, 16, 0), (s.rcd.sealSlots.length, 11, 16)]
  | .recFolioStat => s.folioStatWord
  | .recRwStat => compose [(s.rcd.winStatus, 3, 0), (b2n s.rcd.winBusy, 1, 3), (b2n s.rcd.holdByWindow, 1, 4)]
  | .recRwData => byteWord s.rcd.winData i
  | .recLastword => byteWord s.bk.lastWord i
  | .cntStat => compose [(b2n s.cnt.smpFull, 1, 1), (s.cnt.samples.length, 11, 2)]
  | .cntSweepTtLo => natWord s.cnt.sweepTt
  | .cntSweepTtHi => natWord s.cnt.sweepTtHi
  | .cntSweepNo => natWord s.cnt.sweepNo
  | .cntValLo => natWord (Table.get 0 s.cnt.value s.cntSelected)
  | .cntValHi => compose [(s.cnt.valHi, 16, 0), (b2n s.cnt.valOvf, 1, 16)]
  | .cntSmpData => byteWord s.cnt.smpData i
  | .cntSnapLo => natWord (Table.get {} s.cnt.snap i : Snap).value
  | .cntSnapHi => snapHiWord (Table.get {} s.cnt.snapHi i)
  | _ => s.readField r i j

/-- Every register. -/
def State.readVal (s : State) (r : RegId) (i j : Nat) : Word :=
  match r with
  | .catStatus => s.catStatusWord
  | .catVersion => natWord s.cat.version
  | .catFloor => natWord s.cat.floor
  | .catDigest => byteWord s.cat.digest i
  | .catRejectCnt => natWord s.cat.rejectCnt
  | .catPwFail => natWord s.cat.pwFail
  | .catErrTag => natWord s.cat.errTag
  | .catErrOffset => natWord s.cat.errOffset
  | .secStat => s.secStatWord
  | .secKeys => natWord s.keyBits
  | .secOtp => s.secOtpWord
  | .secCatKeyid => byteWord s.enrolledId i
  | .secIdPub => byteWord (beBytes 48 Config.identityPubX ++ beBytes 48 Config.identityPubY) i
  | .secCntLo => natWord (s.counterOf i)
  | .secCntHi => natWord (Table.get 0 s.sc.cntHi i)
  | .secPerm => natWord (s.key i).perm
  | .secCmdRes => compose [(s.sc.bufResult, 16, 0), (b2n s.sc.bufBusy, 1, 16), (b2n s.sc.bufDone, 1, 17)]
  | .nvmStat => s.nvmStatWord
  | .sysId => 0x00A11664
  | .sysFw => natWord s.sys.fwVersion
  | .sysState => compose [(s.sys.start.code, 4, 0), (b2n s.sys.operational, 1, 4), (b2n s.sys.lock, 1, 5), (s.sys.fwSlot, 2, 6), (s.sys.profile, 1, 8)]
  | .sysResetStat => compose [(s.sys.reason, 4, 0), (s.sys.resets, 16, 16)]
  | .sysSect => natWord s.sys.sect
  | .sysDiscAddr => natWord s.sys.discAddr
  | .sysDiscInfo => compose [(s.sys.discCause, 3, 0), (b2n s.sys.discRead, 1, 3), (s.sys.discMaster, 3, 4)]
  | .sysMntStat => compose [(s.sys.mntResult, 8, 0), (s.sys.mntFails, 16, 16)]
  | .sysMntAddr => natWord s.sys.mntAddr
  | .sysPwrStat => s.pwrStatWord
  -- the three logic supplies are measured once a millisecond: free values (log entry 71)
  | .sysPwrSup => compose [((Config.freeWord (s.lt / ticksPerMs)).toNat, 24, 0), (s.sys.supBat, 8, 24)]
  | .sysShelfWakeLo => natWord s.bk.shelfWake
  | .sysShelfWakeHi => natWord (s.bk.shelfWake / 2 ^ 32)
  | _ => if (desc r).access = .wo then 0 else s.readTrain r i j

end Sys2Proof.Machine
end

