-- ==== Sys2Proof/Machine/Counters.lean ====
section
/-!
DEFINITION. Sys2Proof/Machine/Counters.lean: the counter gatherer and the sampling buffer (R581 to R589).
-/
namespace Sys2Proof.Machine
open Sys2Proof

/-! ### Direct access (R584, R585) -/

/-- Reading CNT_VAL_LO copies bits 47:32 and OVF of the selected counter and clears its live OVF (R584). -/
def State.cntValRead (s : State) : State :=
  let i := s.cntSelected
  { s with cnt := { s.cnt with
      valHi := Table.get 0 s.cnt.value i / 2 ^ 32
      valOvf := Table.get false s.cnt.ovf i
      ovf := Table.set false s.cnt.ovf i false } }

/-- CMD WRITE: the selected counter takes the staged value; OVF is left as it is (R585). -/
def State.cntWrite (s : State) : State :=
  let v := (s.reg .cntWrLo).toNat + 2 ^ 32 * s.rf .cntWrHi 0 15 0
  { s with cnt := { s.cnt with value := Table.set 0 s.cnt.value s.cntSelected v } }

/-- CMD CLEAR_ALL: every counter and every OVF to 0 (R585). -/
def State.cntClearAll (s : State) : State :=
  State.raise { s with cnt := { s.cnt with value := [], ovf := [] } } 0xF004 noInst

/-! ### The gatherer (R586, R587) -/

/-- A sweep: every counter with its OVF and its offset in clocks, in one indivisible command (log entry 50). -/
def State.sweep (s : State) : State :=
  { s with cnt := { s.cnt with
      snap := (List.range 320).foldl (fun t i => Table.set {} t i
        { value := Table.get 0 s.cnt.value i, ovf := Table.get false s.cnt.ovf i, offset := i }) []
      sweepTt := s.tt
      sweepNo := (s.cnt.sweepNo + 1) % 2 ^ 32 } }

/-- The sweep of SWEEP_PER (R586), one period after the last of its kind: a CMD SWEEP does not move it. With SWEEP_PER 0 there is none. -/
def State.sweepPeriodic (s : State) : State :=
  let p := s.rf .cntCfg 0 13 0
  when_ (p != 0 && s.domain 0) (fun s =>
    let s1 := (s.passTo (s.cnt.lastSweep + ms p)).sweep
    { s1 with cnt := { s1.cnt with lastSweep := s1.lt } }) s

def execSweepPeriodic (s : State) : Host.Outcome State Fault Refusal := run s State.sweepPeriodic

/-- Reading CNT_SNAP[i]_LO captures CNT_SNAP[i]_HI (R587). -/
def State.cntSnapRead (s : State) (i : Nat) : State :=
  { s with cnt := { s.cnt with snapHi := Table.set {} s.cnt.snapHi i (Table.get {} s.cnt.snap i) } }
/-- Reading CNT_SWEEP_TT_LO captures its high word. -/
def State.cntSweepTtRead (s : State) : State := { s with cnt := { s.cnt with sweepTtHi := s.cnt.sweepTt / 2 ^ 32 } }

/-! ### Samples (R588, R589) -/

/-- An entry of the sampling buffer (R589). -/
def sampleEntry (kind tq code partner key conn arrival latency counter result : Nat) : List Byte :=
  leBytes 1 kind ++ leBytes 1 tq ++ leBytes 2 code ++ leBytes 1 partner ++ leBytes 1 key ++ leBytes 2 conn ++ leBytes 8 arrival ++ leBytes 4 latency
    ++ leBytes 8 counter ++ leBytes 2 result ++ [0, 0xA5]

/-- Put an entry in the buffer (R588): with FREEZE 0 a full buffer loses its oldest, with FREEZE 1 it takes no more. -/
def State.pushSample (s : State) (e : List Byte) : State :=
  let freeze := s.rb .cntSmpCfg 0 18
  let l := s.cnt.samples
  if l.length < 1024 then
    let s1 := { s with cnt := { s.cnt with samples := l ++ [e] } }
    if freeze && decide (l.length = 1023) then State.raise { s1 with cnt := { s1.cnt with smpFull := true } } 0xF001 noInst else s1
  else if freeze then s
  else { s with cnt := { s.cnt with samples := l.drop 1 ++ [e] } }

/-- Sample a critical command (R588): every SMP_N-th, accepted or rejected. -/
def State.sampleCmd (s : State) (e : List Byte) : State :=
  if !s.rb .cntSmpCfg 0 16 then s
  else if s.cnt.smpCmd + 1 < s.rf .cntSmpCfg 0 15 0 then { s with cnt := { s.cnt with smpCmd := s.cnt.smpCmd + 1 } }
  else State.pushSample { s with cnt := { s.cnt with smpCmd := 0 } } e

/-- Sample an inbound STL DATA message (R588). -/
def State.sampleStl (s : State) (e : List Byte) : State :=
  if !s.rb .cntSmpCfg 0 17 then s
  else if s.cnt.smpStl + 1 < s.rf .cntSmpCfg 0 15 0 then { s with cnt := { s.cnt with smpStl := s.cnt.smpStl + 1 } }
  else State.pushSample { s with cnt := { s.cnt with smpStl := 0 } } e

/-- CMD SMP_CLEAR empties the buffer (R588). -/
def State.smpClear (s : State) : State := { s with cnt := { s.cnt with samples := [], smpFull := false } }
/-- A write of CNT_SMP_POS loads the entry at that position, zeros beyond those held (R592). -/
def State.smpLoad (s : State) (k : Nat) : State := { s with cnt := { s.cnt with smpData := (s.cnt.samples[k]?).getD [] } }

/-- Command latency histogram (R582): a latency in ns. -/
def State.latencyBin (s : State) (ns : Nat) : State := s.count (283 + min 15 (ns / 32000))

end Sys2Proof.Machine
end

