-- ==== Sys2Proof/Machine/Trdp.lean ====
section
/-!
DEFINITION. Sys2Proof/Machine/Trdp.lean: the TRDP engine (R469 to R492): acceptance of datagrams and telegrams, the partner table,
inauguration, publications and ordered streams.
-/
namespace Sys2Proof.Machine
open Sys2Proof

/-! ### Addresses (R471 to R473, R479) -/

/-- Whether TRDP runs: the network was started in JOIN, and EN is 1. -/
def State.netStarted (s : State) : Bool := s.sys.start == .join || s.sys.start == .operational
def State.trdpOn (s : State) : Bool := s.netStarted && s.rb .trdpCfg 0 0
/-- Own address. -/
def State.ownIp (s : State) : Nat := (s.reg .trdpIp).toNat
/-- Whether the device holds an address (R472, R473). -/
def State.holdsIp (s : State) (ip : Nat) : Bool := ip != 0 && (ip == s.ownIp || (s.holdsVehicle && ip == (s.reg .trdpVehIp).toNat))
/-- Train-level addresses, 10.128.0.0/9. -/
def trainIp (ip : Nat) : Bool := ip / 2 ^ 23 == 0x15
/-- comId of an offset (R487). -/
def State.comId (s : State) (off : Nat) : Nat := (s.reg .trdpComidBase).toNat + off

/-- Send a telegram (R477, R487): it carries the present topology counts where its destination is a train-level address. -/
def State.sendTelegram (s : State) (off ip : Nat) (data : List Byte) : State :=
  (s.count 225).emit (if trainIp ip then .telegram off ip s.trdp.etbTopo s.trdp.opTopo data else .telegram off ip 0 0 data)

/-- Discard a datagram or telegram (R470, R477, R486). -/
def State.trdpDiscard (s : State) : State := s.count 226
/-- Reject a telegram as oversize, naming the field (R486): 1 datasetLength, 2 STL LEN, 3 APP ALEN, 4 stream payload length. -/
def State.trdpOversize (s : State) (field : Nat) : State := (s.count 227).raise 0xC004 noInst (leBytes 1 field)

/-- The type each telegram of R487 has: Pd, Mn or Mr. -/
def offsetType (off : Nat) : Option Nat :=
  if off = 3 ∨ off = 10 then some 0x5064 else if off = 11 ∨ off = 30 then some 0x4D6E else if off = 40 then some 0x4D72 else none
/-- Whether the counts of a telegram are accepted (R477). -/
def State.topoOk (s : State) (t : Telegram) : Bool :=
  (t.etb == 0 || (s.trdp.dirValid && t.etb == s.trdp.etbTopo)) && (t.op == 0 || (s.trdp.dirValid && t.op == s.trdp.opTopo))

/-- Note that a partner was heard (R484). -/
def State.heard (s : State) (ip : Nat) : State := match s.partnerOf ip with
  | some k => { s with trdp := { s.trdp with partners := Table.modify {} s.trdp.partners k (fun p => { p with heard := s.lt }) } }
  | none => s

/-- Which telegrams a standby takes: SERVICE requests and its mate's HEARTBEAT, at its own address (R472). -/
def State.standbyTakes (s : State) (t : Telegram) (off : Nat) : Bool := !s.standby || (t.dst == s.ownIp && (off == 40 || off == 3))

/-- Receive a telegram (R470, R477, R486): the offset of R487 and the dataset where every check of the TRDP engine passes. -/
def State.trdpRx (s : State) (t : Telegram) : State × Option (Nat × List Byte) :=
  if !s.trdpOn then (s, none)
  else
    let s1 := s.count 224
    if !s1.holdsIp t.dst ∨ !t.fcsOk then (s1.trdpDiscard, none)
    else if t.dsLen = 0xFFFFFFFF ∨ t.data.length < t.dsLen then (s1.trdpOversize 1, none)
    else
      let s2 := s1.heard t.src
      let off := t.comId - s2.comId 0
      if t.comId < s2.comId 0 ∨ offsetType off ≠ some t.type ∨ !s2.topoOk t ∨ !s2.standbyTakes t off then (s2.trdpDiscard, none)
      else (s2, some (off, t.data.take t.dsLen))

/-! ### Partners (R480 to R484) -/

/-- A telegram from a source that is not in the table is discarded (R483). -/
def State.unknownSource (s : State) (ip comId : Nat) : State := s.raiseRated 0xC008 noInst 0 (leBytes 4 ip ++ leBytes 4 comId)

/-- Admit a source at the lowest free index (R481), or refuse it (R482). -/
def State.admitPartner (s : State) (ip : Nat) : State × Bool :=
  if (s.partnerOf ip).isSome then (s, true)
  else match (List.range 128).find? (fun k => s.partnerIp k == 0) with
    | some k =>
      let s1 := { s with trdp := { s.trdp with partners := Table.set {} s.trdp.partners k { ip := ip, dynamic := true, heard := s.lt } } }
      (s1.raise 0xC005 noInst (leBytes 1 k ++ leBytes 4 ip), true)
    | none => (State.raiseRated { s with trdp := { s.trdp with partnerFull := true } } 0xC006 noInst 0 (leBytes 4 ip), false)

/-- End the maintenance sessions of an address (R614). -/
def State.endSessions (s : State) (ip : Nat) : State :=
  forEach (s.sc.sessions.filter (fun q => q.ip == ip)) (fun s _ => s.raise 0x2039 noInst)
    { s with sc := { s.sc with sessions := s.sc.sessions.filter (fun q => q.ip != ip) } }

/-- Release entry `k` (R479, R484). -/
def State.releasePartner (s : State) (k : Nat) : State :=
  let ip := s.partnerIp k
  let s1 := { s with trdp := { s.trdp with partners := Table.set {} s.trdp.partners k {}, partnerFull := false } }
  (s1.raise 0xC007 noInst (leBytes 1 k ++ leBytes 4 ip)).endSessions ip

/-- A dynamic entry has been silent for PARTNER_AGE with nothing open (R484). -/
def State.partnerAge (s : State) (k : Nat) : State :=
  let ip := s.partnerIp k
  when_ (s.partnerDynamic k && ip != 0 && s.connsOf ip == [] && s.trdp.streams.all (fun t => t.ip != ip)
      && s.slotsInOrder.all (fun i => (s.slot i).src != k)) (fun s =>
    let p : Partner := Table.get {} s.trdp.partners k
    (s.passTo (p.heard + sec (10 * s.rf .trdpCfg 0 15 8))).releasePartner k) s

def execPartnerRemoved (k : Fin 128) (s : State) : Host.Outcome State Fault Refusal := run s (fun s => s.partnerAge k)

/-! ### ARP, ICMP and what is discarded (R469 to R472) -/

/-- An ARP request is answered for an address the device holds. -/
def execArpRequest (target : Nat) (s : State) : Host.Outcome State Fault Refusal :=
  run s (fun s => when_ (s.netStarted && s.holdsIp target) (fun s => s.emit (.arp target false)) s)

/-- An echo request of up to 128 bytes of data is answered (R469); any other is discarded. A standby answers only SERVICE requests (R472). -/
def State.icmpEcho (s : State) (src dst : Nat) (data : List Byte) : State :=
  when_ s.netStarted (fun s =>
    if s.holdsIp dst ∧ data.length ≤ 128 ∧ !s.standby then s.emit (.icmp src data) else s.trdpDiscard) s

def execIcmpEcho (src dst : Nat) (data : List Byte) (s : State) : Host.Outcome State Fault Refusal := run s (fun s => s.icmpEcho src dst data)

/-- A datagram of another protocol (`none`), or a telegram that some check discards; one that every check accepts, but whose source
is no partner, is discarded under R483 unless it may take its source. -/
def State.datagramDiscard (s : State) (t : Option Telegram) : State :=
  match t with
  | none => when_ s.netStarted State.trdpDiscard s
  | some t =>
    let r := s.trdpRx t
    match r.2 with
    | some (off, data) =>
      if (s.partnerOf t.src).isNone ∧ off = 30 ∧ byteAt data 2 ≠ 1 then r.1.unknownSource t.src t.comId else s
    | none => r.1

def execDatagramDiscard (t : Option Telegram) (s : State) : Host.Outcome State Fault Refusal := run s (fun s => s.datagramDiscard t)

/-- The three gratuitous ARP frames of a device that becomes active (R472): the first leaves with the claim. -/
def State.garpStart (s : State) : State :=
  let veh := (s.reg .trdpVehIp).toNat
  when_ (veh != 0) (fun s => State.emit { s with trdp := { s.trdp with garpLeft := 2, garpNext := s.lt + ms 1 } } (.arp veh true)) s

/-- The second and the third, 1 ms apart. -/
def State.garpNext (s : State) : State :=
  when_ (s.trdp.garpLeft != 0) (fun s =>
    let s1 := s.passTo s.trdp.garpNext
    State.emit { s1 with trdp := { s1.trdp with garpLeft := s1.trdp.garpLeft - 1, garpNext := s1.trdp.garpNext + ms 1 } }
      (.arp (s1.reg .trdpVehIp).toNat true)) s

def execGratuitousArp (s : State) : Host.Outcome State Fault Refusal := run s State.garpNext

/-! ### Inauguration (R474 to R479) -/

/-- Whether the device reads the directory (R474, R478). -/
def State.readsDirectory (s : State) : Bool := s.sys.profile == 0 && s.rb .trdpCfg 0 1 && s.trdpOn

/-- Request the directory. -/
def State.requestDirectory (s : State) : State :=
  when_ s.readsDirectory (fun s => State.emit { s with trdp := { s.trdp with request := some s.lt, failed := false } } .directoryRequest) s

/-- A change is announced (R474, R476): until the directory has been read again it counts as not valid. -/
def State.ttdbAnnounce (s : State) (etb op : Nat) : State :=
  when_ (s.readsDirectory && (!s.trdp.dirValid || etb != s.trdp.etbTopo || op != s.trdp.opTopo)) (fun s =>
    State.requestDirectory { s with trdp := { s.trdp with dirValid := false, orientKnown := false } }) s

def execTtdbAnnounce (etb op : Nat) (s : State) : Host.Outcome State Fault Refusal := run s (fun s => s.ttdbAnnounce etb op)

/-- No directory 5 s after a request: the failure is recorded, and the request repeats every 1 s (R474). -/
def State.directoryFail (s : State) : State :=
  match s.trdp.request with
  | none => s
  | some t =>
    when_ s.readsDirectory (fun s =>
      let s1 := if s.trdp.failed then s.passTo (t + sec 1) else (s.passTo (t + sec 5)).raise 0xC002 noInst
      State.emit { s1 with trdp := { s1.trdp with request := some s1.lt, failed := true } } .directoryRequest) s

def execTrdpDirectoryFail (s : State) : Host.Outcome State Fault Refusal := run s State.directoryFail

/-! ### Publications (R487, R488, R536) -/

/-- Destination of the cyclic publications, which the manual does not state. Log entry 51. -/
def publishIp : Nat := Config.publishIp.toNat

/-- DEV_STATUS (R488). -/
def State.devStatus (s : State) : List Byte :=
  beBytes 4 s.cat.version
    ++ beBytes 1 (b2n s.operational + 2 * b2n s.cat.conflict + 4 * b2n s.holder + 8 * b2n s.rcd.degraded + 16 * s.quality.code)
    ++ beBytes 1 (s.soCmdBits + 16 * s.soRbBits) ++ beBytes 2 (fld (s.readVal .portalSeqSide 0 0) 15 0) ++ beBytes 8 s.tt ++ beBytes 4 s.trdp.etbTopo
    ++ beBytes 4 0

def execPublishDevStatus (s : State) : Host.Outcome State Fault Refusal :=
  run s (fun s => when_ s.trdpOn (fun s => s.sendTelegram 0 publishIp s.devStatus) s)

/-- PORTAL_STATE: the state word of every portal. -/
def execPublishPortalState (s : State) : Host.Outcome State Fault Refusal :=
  run s (fun s => when_ (s.trdpOn && !s.standby) (fun s =>
    s.sendTelegram 1 publishIp ((List.range 16).flatMap (fun p => beBytes 4 (s.portalState p).toNat))) s)

/-- The first failing channel of a health report (R536). -/
def State.firstFailing (s : State) : Nat := Table.get 0x1FF s.twin.failed 2

/-- HEALTH (R536). -/
def State.health (s : State) : List Byte :=
  beBytes 2 s.twinStatWord.toNat ++ beBytes 1 (if s.holder then 0 else s.twin.tests) ++ [0] ++ beBytes 4 s.cat.version ++ beBytes 4 s.ilk.pcrcRef
    ++ beBytes 8 s.twin.testTt ++ beBytes 2 s.firstFailing ++ [0, 0]

def execPublishHealth (s : State) : Host.Outcome State Fault Refusal :=
  run s (fun s => when_ s.trdpOn (fun s => s.sendTelegram 2 publishIp s.health) s)

/-! ### Ordered streams (R489 to R492) -/

/-- A STREAM dataset (R489). -/
def streamMsg (num kind cause seq ack bitmap : Nat) (payload : List Byte) : List Byte :=
  beBytes 2 num ++ beBytes 1 kind ++ beBytes 1 cause ++ beBytes 4 seq ++ beBytes 4 ack ++ beBytes 4 bitmap ++ payload

/-- The stream of an address, a number and a direction. -/
def State.stream? (s : State) (ip num : Nat) (inbound : Bool) : Option Stream :=
  s.trdp.streams.find? (fun t => t.ip == ip && t.num == num && t.inbound == inbound)
/-- Change one stream. -/
def State.setStream (s : State) (v : Stream) : State :=
  { s with trdp := { s.trdp with streams := s.trdp.streams.map (fun t => if t.ip = v.ip ∧ t.num = v.num ∧ t.inbound = v.inbound then v else t) } }

/-- The mirror item of a stream (R524, kind 8). Log entry 34. -/
def streamItem (t : Stream) (open_ : Bool) : List Byte :=
  beBytes 2 t.num ++ beBytes 4 t.ip ++ beBytes 1 (b2n t.inbound + 2 * b2n open_ + 4 * b2n (t.unacked != []))
    ++ beBytes 4 (if t.inbound then t.delivered else t.nextSeq - 1)

/-- Remove a stream and record its close (R491). -/
def State.dropStream (s : State) (t : Stream) (cause : Nat) : State :=
  let s1 := { s with trdp := { s.trdp with streams := s.trdp.streams.filter (fun u => !(u.ip == t.ip && u.num == t.num && u.inbound == t.inbound)) } }
  (s1.mirror 8 (streamItem t false)).raise 0xC021 noInst (leBytes 2 t.num ++ leBytes 4 t.ip ++ leBytes 1 cause)

/-- Close a stream from this end. -/
def State.closeStream (s : State) (t : Stream) (cause : Nat) : State :=
  (s.sendTelegram 30 t.ip (streamMsg t.num 4 cause 0 0 0 [])).dropStream t cause

/-- A stream opens. -/
def State.addStream (s : State) (t : Stream) : State :=
  let s1 := { s with trdp := { s.trdp with streams := s.trdp.streams ++ [t] } }
  (s1.mirror 8 (streamItem t true)).raise 0xC020 noInst (leBytes 2 t.num ++ leBytes 4 t.ip)

/-- A received STREAM telegram whose dataset has the prefix and a payload of at most 1,340 bytes. -/
def State.streamRx (s : State) (t : Telegram) (kind : Nat) : State × Option (List Byte) :=
  let r := s.trdpRx t
  match r.2 with
  | some (30, d) =>
    if d.length < 16 ∨ 1356 < d.length then (r.1.trdpOversize 4, none)
    else if byteAt d 2 ≠ kind ∨ beAt d 0 2 = 0 ∨ beAt d 0 2 = 0xFFFF then (r.1, none)
    else if (s.partnerOf t.src).isNone ∧ kind ≠ 1 then (r.1.unknownSource t.src t.comId, none)
    else (r.1, some d)
  | _ => (r.1, none)

/-- An OPEN (R481, R489): the source is admitted, and the stream opens unless 32 are open. -/
def State.streamOpen (s : State) (t : Telegram) : State :=
  let r := s.streamRx t 1
  match r.2 with
  | none => r.1
  | some d =>
    let a := r.1.admitPartner t.src
    let num := beAt d 0 2
    if !a.2 ∨ (a.1.stream? t.src num true).isSome then a.1
    else if 32 ≤ a.1.trdp.streams.length then a.1.sendTelegram 30 t.src (streamMsg num 4 1 0 0 0 [])
    else a.1.addStream { ip := t.src, num := num, inbound := true }

def execStreamOpen (t : Telegram) (s : State) : Host.Outcome State Fault Refusal := run s (fun s => s.streamOpen t)

/-- Deliver the messages that stand in order (R490). -/
def State.deliverRun : Nat → State → Stream → State × Stream
  | 0, s, t => (s, t)
  | k + 1, s, t => match t.early.find? (fun e => e.1 == t.delivered + 1) with
    | none => (s, t)
    | some e =>
      deliverRun k ((s.count 229).emit (.deliver t.ip t.num e.2.2)) { t with delivered := t.delivered + 1, early := t.early.filter (fun x => x.1 != e.1) }

/-- DATA (R490): delivered in SEQ order, held while early, discarded at or below the last delivered. -/
def State.streamData (s : State) (t : Telegram) : State :=
  let r := s.streamRx t 2
  match r.2 with
  | none => r.1
  | some d =>
    match r.1.stream? t.src (beAt d 0 2) true with
    | none => r.1
    | some st =>
      let seq := beAt d 4 4
      let st1 := if st.ackSince.isNone then { st with ackSince := some r.1.lt } else st
      if seq = 0 ∨ seq = 0xFFFFFFFF ∨ seq ≤ st.delivered ∨ st.early.any (fun e => e.1 == seq) then r.1.setStream st1
      else if seq ≠ st.delivered + 1 ∧ 64 ≤ st.early.length then r.1.setStream st1
      else
        let q := State.deliverRun 65 r.1 { st1 with early := st1.early ++ [(seq, r.1.lt, d.drop 16)] }
        let s1 := q.1.setStream q.2
        if q.2.delivered = st.delivered then s1 else s1.mirror 8 (streamItem q.2 true)

def execStreamData (t : Telegram) (s : State) : Host.Outcome State Fault Refusal := run s (fun s => s.streamData t)

/-- BITMAP of an ACK: bit i for ACK + 1 + i (R489). -/
def Stream.bitmap (t : Stream) : Nat :=
  (List.range 32).foldl (fun a i => a + b2n (t.early.any (fun e => e.1 == t.delivered + 1 + i)) * 2 ^ i) 0

/-- An ACK leaves at most 2 ms after DATA (R490), in a twin once the standby has confirmed the state it covers (R492). -/
def State.streamAckSend (s : State) (k : Nat) : State :=
  match s.trdp.streams[k]? with
  | none => s
  | some t =>
    when_ (t.inbound && t.ackSince.isSome) (fun s =>
      let msg := streamMsg t.num 3 0 0 t.delivered t.bitmap []
      (s.setStream { t with ackSince := none }).mirrorHold 8 (streamItem t true) (.streamAck t.ip msg) (fun s => s.sendTelegram 30 t.ip msg)) s

def execStreamAckSend (k : Fin 32) (s : State) : Host.Outcome State Fault Refusal := run s (fun s => s.streamAckSend k)

/-- A received ACK (R491): what it covers needs no resending; an upload whose last message is acknowledged closes by request. -/
def State.streamAck (s : State) (t : Telegram) : State :=
  let r := s.streamRx t 3
  match r.2 with
  | none => r.1
  | some d =>
    match r.1.stream? t.src (beAt d 0 2) false with
    | none => r.1
    | some st =>
      let ack := beAt d 8 4
      let got (m : TxMsg) : Bool := decide (m.seq ≤ ack) || (decide (ack < m.seq ∧ m.seq ≤ ack + 32) && (beAt d 12 4).testBit (m.seq - ack - 1))
      let st1 := { st with unacked := st.unacked.filter (fun m => !got m) }
      let s1 := r.1.setStream st1
      if st1.unacked = [] ∧ st1.upEnd < st1.upNext then s1.closeStream st1 1 else s1

def execStreamAck (t : Telegram) (s : State) : Host.Outcome State Fault Refusal := run s (fun s => s.streamAck t)

/-- A received CLOSE: the stream closes with the cause it carries. -/
def State.streamClose (s : State) (t : Telegram) : State :=
  let r := s.streamRx t 4
  match r.2 with
  | none => r.1
  | some d =>
    let num := beAt d 0 2
    match r.1.stream? t.src num true with
    | some st => r.1.dropStream st (byteAt d 3)
    | none => match r.1.stream? t.src num false with
      | some st => r.1.dropStream st (byteAt d 3)
      | none => r.1

def execStreamClose (t : Telegram) (s : State) : Host.Outcome State Fault Refusal := run s (fun s => s.streamClose t)

/-- RTO after its last transmission, the oldest unacknowledged message is resent, or the stream closes with cause 3 (R491). -/
def State.streamRetransmit (s : State) (k : Nat) : State :=
  match s.trdp.streams[k]? with
  | none => s
  | some t => match t.unacked.foldl (fun (a : Option TxMsg) m => match a with
      | none => some m
      | some b => if m.sent < b.sent then some m else some b) none with
    | none => s
    | some m =>
      let s1 := s.passTo (m.sent + ms (s.rf .trdpStream 0 7 0))
      if s1.rf .trdpStream 0 15 8 ≤ m.tries then s1.closeStream t 3
      else
        let t1 := { t with unacked := t.unacked.map (fun x => if x.seq = m.seq then { x with sent := s1.lt, tries := x.tries + 1 } else x) }
        ((s1.setStream t1).count 228).sendTelegram 30 t.ip (streamMsg t.num 2 0 m.seq 0 0 m.payload)

def execStreamRetransmit (k : Fin 32) (s : State) : Host.Outcome State Fault Refusal := run s (fun s => s.streamRetransmit k)

/-- A missing SEQ has not arrived within STREAM_TMO of the first message held behind it (R490). -/
def State.streamGap (s : State) (k : Nat) : State :=
  match s.trdp.streams[k]? with
  | none => s
  | some t => match t.early.foldl (fun (a : Option Ticks) e => match a with
      | none => some e.2.1
      | some b => some (min b e.2.1)) none with
    | none => s
    | some at_ => (s.passTo (at_ + ms (s.rf .trdpStream 0 31 16))).closeStream t 2

def execStreamGapTimeout (k : Fin 32) (s : State) : Host.Outcome State Fault Refusal := run s (fun s => s.streamGap k)

end Sys2Proof.Machine
end

