-- ==== Sys2Proof/Machine/Stl.lean ====
section
/-!
DEFINITION. Sys2Proof/Machine/Stl.lean: the Safe Transfer Layer (R493 to R504): messages, checks, sessions, re-keying and the
connection states. STL_DATA, which hands commands on, stands in Machine/Security.lean.
-/
namespace Sys2Proof.Machine
open Sys2Proof

/-! ### Messages (R493, R494) -/

/-- The second check of R494. -/
def chkB (b : List Byte) : Nat := crcL 0xE83719AF 32 0xFFFFFFFF b ^^^ 0xFFFFFFFF

/-- An STL message as it is read (R493). -/
structure StlMsg where
  type : Nat
  conn : Nat
  src : Nat
  dst : Nat
  session : Nat
  seq : Nat
  ack : Nat
  txTt : Nat
  tq : Nat
  payload : List Byte
  body : List Byte
  auth : List Byte
  chkA : Nat
  chkB : Nat
  deriving DecidableEq, Repr

/-- The records of a DATA payload (R496), `none` where one does not fit; the flag tells an ALEN from another format failure. -/
def stlRecords : Nat → List Byte → Except Bool (List (Nat × List Byte))
  | 0, _ => .error false
  | k + 1, b =>
    if b = [] then .ok []
    else if b.length < 4 then .error false
    else
      let app := byteAt b 0
      let n := beAt b 2 2
      if n = 0xFFFF ∨ b.length < 4 + n then .error true
      else if byteAt b 1 ≠ 0 ∨ app = 0 ∨ 3 < app then .error false
      else match stlRecords k (b.drop (4 + n)) with
        | .ok l => .ok ((app, slice b 4 n) :: l)
        | .error e => .error e

/-- Step 1 of R498: a message, or the oversize field of R486 (0 where the format fails otherwise). -/
def stlParse (b : List Byte) : Except Nat StlMsg :=
  let len := beAt b 34 2
  let p := 36 + 4 * divCeil len 4
  let ty := byteAt b 1
  if b.length < 36 then .error 0
  else if len = 0xFFFF ∨ 1024 < len ∨ b.length ≠ p + 24 then .error 2
  else if byteAt b 0 ≠ 1 ∨ ty = 0 ∨ 6 < ty ∨ byteAt b 33 ≠ 0 ∨ 5 < byteAt b 32 ∨ allZero (slice b (36 + len) (p - 36 - len)) = false
      ∨ beAt b 16 4 = 0 ∨ beAt b 16 4 = 0xFFFFFFFF ∨ (ty = 1 ∧ len ≠ 16) ∨ ((ty = 2 ∨ ty = 5) ∧ len ≠ 32) ∨ (ty = 4 ∧ len ≠ 16)
      ∨ ((ty = 1 ∨ ty = 2) ∧ beAt b 12 4 ≠ 0) ∨ [4, 8].any (fun o => beAt b o 4 == 0 || beAt b o 4 == 0xFFFFFFFF) then .error 0
  else
    let m : StlMsg := ⟨ty, beAt b 2 2, beAt b 4 4, beAt b 8 4, beAt b 12 4, beAt b 16 4, beAt b 20 4, beAt b 24 8, byteAt b 32, slice b 36 len,
      b.take p, slice b p 16, beAt b (p + 16) 4, beAt b (p + 20) 4⟩
    if ty = 3 then match stlRecords 257 m.payload with
      | .ok _ => .ok m
      | .error true => .error 3
      | .error false => .error 0
    else .ok m

/-- Leftmost 16 bytes of an HMAC. -/
def tag16 (key m : List Byte) : List Byte := (hmac384 key m).take 16

/-- CYCLE, TMO, SEQ_WIN and MAX_AGE of a connection. -/
def State.connCycle (s : State) (c : Nat) : Ticks := ms (s.rf .stlTim c 9 0)
def State.connTmo (s : State) (c : Nat) : Ticks := ms (s.rf .stlTim c 23 10)
def State.connMaxAge (s : State) (c : Nat) : Nat := s.rf .stlAge c 15 0
/-- CONN_ID. -/
def State.connId (s : State) (c : Nat) : Nat := s.rf .stlCfg c 31 16
/-- The command key of a connection, if it is present (R497, R609). -/
def State.connKey (s : State) (c : Nat) : Option (List Byte) :=
  let k := s.key (s.rf .stlCfg c 5 2)
  if k.present then some k.key else none

/-- Build a message (R493, R497). -/
def State.stlBuild (s : State) (c type session seq ack : Nat) (payload key : List Byte) : List Byte :=
  let body := [1] ++ beBytes 1 type ++ beBytes 2 (s.connId c) ++ beBytes 4 (s.reg .stlSrc c).toNat ++ beBytes 4 (s.reg .stlDst c).toNat
    ++ beBytes 4 session ++ beBytes 4 seq ++ beBytes 4 ack ++ beBytes 8 s.tt ++ beBytes 1 s.quality.code ++ [0] ++ beBytes 2 payload.length
    ++ padTo (4 * divCeil payload.length 4) payload
  let m := body ++ tag16 key body
  m ++ beBytes 4 (crc32c m) ++ beBytes 4 (chkB m)

/-- The session of a key and two nonces (R497): its key and its number. -/
def State.stlDerive (s : State) (c : Nat) (key nI nR : List Byte) : StlSession :=
  let h := hmac384 key (ascii "SLF-STL" ++ beBytes 2 (s.connId c) ++ nI ++ nR)
  { num := beAt h 32 4, key := h.take 32, seqTx := 0, seqRx := 0 }

/-- Whether a session number may not be used (R497). -/
def badSession (n : Nat) : Bool := n == 0 || n == 0xFFFFFFFF

/-! ### Sending (R497, R504) -/

/-- The mirror item of a connection (R524, kind 7). Log entry 34. -/
def State.connItem (s : State) (c : Nat) : List Byte :=
  let q := s.conn c
  beBytes 1 c ++ beBytes 1 q.st.code ++ beBytes 4 q.cur.num ++ padTo 32 q.cur.key ++ beBytes 4 q.cur.seqTx ++ beBytes 4 q.cur.seqRx ++ beBytes 4 q.ip

/-- Note that message `seq` of a connection was sent now: the last 32 are kept (R499). -/
def State.noteSent (s : State) (c seq : Nat) : State :=
  s.modConn c (fun q => { q with sentAt := (q.sentAt ++ [(seq, s.lt)]).drop ((q.sentAt.length + 1) - 32), lastTx := some s.lt })

/-- Put a message on the network once the mirrored state that covers it is confirmed (R504, R526). -/
def State.stlOut (s : State) (c off : Nat) (msg : List Byte) : State :=
  let ip := s.connIp c
  s.mirrorHold 7 (s.connItem c) (.stl off ip msg) (fun s => s.sendTelegram off ip msg)

/-- Send the next message of the current session. -/
def State.stlSend (s : State) (c off type : Nat) (payload : List Byte) : State :=
  let q := s.conn c
  let n := q.cur.seqTx + 1
  let msg := s.stlBuild c type q.cur.num n q.cur.seqRx payload q.cur.key
  ((s.modConn c (fun q => { q with cur := { q.cur with seqTx := n } })).noteSent c n).stlOut c off msg

/-- A record of a DATA payload. -/
def stlRecord (app : Nat) (body : List Byte) : List Byte := beBytes 1 app ++ [0] ++ beBytes 2 body.length ++ body
/-- SAFE_STATUS (R496). -/
def State.safeStatus (s : State) : List Byte :=
  beBytes 1 s.soCmdBits ++ beBytes 1 s.soRbBits ++ [0, 0] ++ beBytes 4 (s.readVal .ilkPortB 0 0).toNat

/-- A command's result on the connection that carried it (R496). -/
def State.sendResult (s : State) (c counter code : Nat) (detail : List Byte) : State :=
  let q := s.conn c
  when_ ((q.st == .open_ || q.st == .rekeying) && decide (q.cur.seqTx + 1 < 0xFFFFFFFF)) (fun s =>
    s.stlSend c 11 3 (stlRecord 2 (beBytes 8 counter ++ beBytes 2 code ++ padTo 2 detail))) s

/-! ### Connection states (R501, R502) -/

/-- Draw a 16-byte nonce; none while RNG_FAIL is set (R598). -/
def State.nonce (s : State) : Option (List Byte × State) :=
  if s.sc.rngFail then none else let r := s.random; some (randomBytes 16 r.1, r.2)

/-- Enter CLOSED (R501): causes 1 CLOSE received, 2 CMD CLOSE, 3 topology, 4 EN 0, 5 exhausted, 6 takeover. Log entry 52. -/
def State.connClosed (s : State) (c cause : Nat) : State :=
  let q := s.conn c
  let ip := s.connIp c
  (((s.setConn c { q with st := .closed, old := none, oldUntil := none, pendAck := false, initiator := false, sentAt := [], entered := s.lt,
                          cmdClosed := decide (cause = 2) }).raise 0xC011 c (leBytes 1 (Config.codeOf .closeCause cause).toNat)).mirror 7 (s.connItem c)).endSessions ip

/-- Close a connection from this end: CLOSE is sent where a session stands. -/
def State.closeConn (s : State) (c cause : Nat) : State :=
  let q := s.conn c
  let s1 := if (q.st == .open_ || q.st == .rekeying) && decide (q.cur.seqTx + 1 < 0xFFFFFFFF) then s.stlSend c 11 6 [] else s
  if q.st = .closed then s1 else s1.connClosed c cause

/-- Enter OPENING with a nonce of its own; without random bits the connection waits (R598). -/
def State.startOpening (s : State) (c : Nat) : State :=
  match s.nonce with
  | none => s
  | some r => r.2.modConn c (fun q => { q with st := .opening, nonceI := r.1, entered := r.2.lt, cmdClosed := false, sentAt := [] })

/-- Send an OPEN_REQ (R497): session 0, authenticated under KEY. -/
def State.sendOpenReq (s : State) (c : Nat) : State :=
  match s.connKey c with
  | none => s
  | some k => ((s.noteSent c 1).sendTelegram 10 (s.connIp c) (s.stlBuild c 1 0 1 0 (s.conn c).nonceI k))

/-- A connection enters OPEN with a new session. -/
def State.connOpened (s : State) (c : Nat) (ss : StlSession) : State :=
  (s.modConn c (fun q => { q with st := .open_, cur := ss, old := none, oldUntil := none, pendAck := false, initiator := false, sentAt := [],
                                  lastOk := s.lt, entered := s.lt })).raise 0xC010 c

/-! ### Checks (R498, R499) -/

/-- A rejection with its cause (R498): counted, recorded at the rate of R462 and held in LAST_REJECT. -/
def State.stlReject (s : State) (conn : Option Nat) (cause : Nat) : State :=
  let s1 := (s.count (229 + cause)).raiseRated 0xC015 (conn.getD noInst) cause (leBytes 1 cause)
  match conn with
  | some c => s1.modConn c (fun q => { q with lastReject := cause })
  | none => s1

/-- The enabled connection that a message names (R498, step 4): identities as configured, and the partner. -/
def State.connOf (s : State) (ip : Nat) (m : StlMsg) : Option Nat :=
  s.enabledConns.find? (fun c => s.connId c == m.conn && (s.reg .stlDst c).toNat == m.src && (s.reg .stlSrc c).toNat == m.dst
    && (if s.rb .stlCfg c 6 then m.type == 1 || (s.conn c).ip == ip else s.connIp c == ip))

/-- Age (R499): whether it passes, and whether the feedback rule was used. -/
def State.ageOk (s : State) (c : Nat) (m : StlMsg) : Bool × Bool :=
  if (m.tq = 2 ∨ m.tq = 3) ∧ (s.quality = .locked ∨ s.quality = .holdoverShort) then
    (decide (m.txTt ≤ s.tt + 10000 ∧ s.tt ≤ m.txTt + 10000 * s.connMaxAge c), false)
  else
    (match (s.conn c).sentAt.reverse.find? (fun e => e.1 == m.ack) with
     | some e => decide (s.lt ≤ e.2 + us (10 * s.connMaxAge c))
     | none => false, true)

/-- The session key a message is checked with and the last SEQ accepted in its session, if R501 and R500 allow the session: the
current one, or the one before it until the new one has been heard or its time has passed. -/
def State.sessionOf (s : State) (c : Nat) (m : StlMsg) : Option (List Byte × Nat × Bool) :=
  let q := s.conn c
  if q.st ≠ .open_ ∧ q.st ≠ .rekeying then none
  else if m.session = q.cur.num then some (q.cur.key, q.cur.seqRx, false)
  else match q.old with
    | some o => if m.session == o.num && (match q.oldUntil with
        | some t => decide (s.lt ≤ t)
        | none => true) then some (o.key, o.seqRx, true) else none
    | none => none

/-- Steps 5 to 7 for the messages of a handshake (R497, R501): where the state takes them, the key, and the freshness of the nonce. -/
def State.handshakeCheck (s : State) (c : Nat) (m : StlMsg) : Option Nat :=
  let q := s.conn c
  let fits := if m.type = 1 then (s.rb .stlCfg c 1 && q.st == .closed) || q.st == .open_ || q.st == .rekeying
    else q.st == .opening && m.payload.drop 16 == q.nonceI
  if !fits then some 5
  else match s.connKey c with
    | none => some 6
    | some k =>
      if tag16 k m.body ≠ m.auth then some 6
      else if m.type = 1 ∧ q.seen.contains m.payload then some 7
      else none

/-- Steps 5 to 7 for the messages of a session. -/
def State.sessionCheck (s : State) (c : Nat) (m : StlMsg) : Option Nat :=
  match s.sessionOf c m with
  | none => some 5
  | some (key, last, _) =>
    if !(s.key (s.rf .stlCfg c 5 2)).present ∨ tag16 key m.body ≠ m.auth then some 6
    else if m.seq ≤ last ∨ last + s.rf .stlTim c 31 24 < m.seq then some 7
    else none

/-- Take note of an accepted message (R499, R501). A message of the new session ends a re-key. -/
def State.noteAccepted (s : State) (c : Nat) (m : StlMsg) (feedback : Bool) : State :=
  let s1 := s.count 239
  s1.modConn c (fun q =>
    let q1 := { q with lastOk := s1.lt, ageFeedback := feedback }
    if m.type = 1 ∨ m.type = 2 then q1
    else if m.session = q.cur.num then
      { q1 with cur := { q.cur with seqRx := m.seq }, old := none, oldUntil := none,
                st := if q.st = .rekeying ∧ q.old.isSome then .open_ else q.st }
    else { q1 with old := q.old.map (fun o => { o with seqRx := m.seq }) })

/-- The checks of R498 on a delivered telegram of type `ty`: where all pass, the connection and the message. -/
def State.stlCheck (s : State) (t : Telegram) (ty : Nat) : State × Option (Nat × StlMsg) :=
  let r := s.trdpRx t
  match r.2 with
  | some (off, d) =>
    if (off ≠ 10 ∧ off ≠ 11) then (r.1, none)
    else match stlParse d with
      | .error f => ((if f = 0 then r.1 else r.1.trdpOversize f).stlReject none 1, none)
      | .ok m =>
        let s1 := r.1
        if m.type ≠ ty then (s, none)
        else
          let m' := m.body ++ m.auth
          let a := decide (crc32c m' = m.chkA); let b := decide (chkB m' = m.chkB)
          if !a ∨ !b then
            let s2 := if a != b then (s1.count 238).raise 0xC013 noInst (leBytes 1 (if a then 2 else 1)) else s1
            (s2.stlReject none 2, none)
          else
            let c? := s1.connOf t.src m
            let any := match c? with
              | some c => s1.rb .stlCfg c 6 && ty == 1
              | none => false
            let free := s1.partnersUsed < 128
            if (s1.partnerOf t.src).isNone ∧ !any then ((s1.unknownSource t.src t.comId).stlReject none 3, none)
            else if (s1.partnerOf t.src).isNone ∧ !free then ((s1.admitPartner t.src).1.stlReject none 3, none)
            else match c? with
              | none => (s1.stlReject none 4, none)
              | some c =>
                match (if ty = 1 ∨ ty = 2 then s1.handshakeCheck c m else s1.sessionCheck c m) with
                | some cause => (s1.stlReject (some c) cause, none)
                | none =>
                  let ag := s1.ageOk c m
                  if !ag.1 then ((s1.modConn c (fun q => { q with ageFeedback := ag.2 })).stlReject (some c) 8, none)
                  else ((s1.admitPartner t.src).1.noteAccepted c m ag.2, some (c, m))
  | none => (r.1, none)

/-- A valid OPEN_REQ is answered, and a new session begins (R497, R501). -/
def State.stlOpenReq (s : State) (t : Telegram) : State :=
  let r := s.stlCheck t 1
  match r.2 with
  | none => r.1
  | some (c, m) =>
    let s1 := r.1.modConn c (fun q => { q with seen := (q.seen ++ [m.payload]).drop (q.seen.length + 1 - 16), ip := t.src })
    match s1.nonce, s1.connKey c with
    | some (nR, s2), some k =>
      let ss := s2.stlDerive c k m.payload nR
      if badSession ss.num then s2
      else
        let s3 := s2.connOpened c ss
        (s3.noteSent c 1).stlOut c 11 (s3.stlBuild c 2 0 1 m.seq (nR ++ m.payload) k)
    | _, _ => s1

def execStlOpenReq (t : Telegram) (s : State) : Host.Outcome State Fault Refusal := run s (fun s => s.stlOpenReq t)

/-- A valid OPEN_ACK opens the connection (R501); a session of 0 or all ones starts again with a new nonce. -/
def State.stlOpenAck (s : State) (t : Telegram) : State :=
  let r := s.stlCheck t 2
  match r.2 with
  | none => r.1
  | some (c, m) => match r.1.connKey c with
    | none => r.1
    | some k =>
      let ss := r.1.stlDerive c k (r.1.conn c).nonceI (m.payload.take 16)
      if badSession ss.num then r.1.startOpening c else (r.1.connOpened c ss).mirror 7 (r.1.connItem c)

def execStlOpenAck (t : Telegram) (s : State) : Host.Outcome State Fault Refusal := run s (fun s => s.stlOpenAck t)

/-- A REKEY_REQ (R500): the answer goes out in place of this end's next message. Where both ends asked, the request of the end with
the lower SRC_ID proceeds. -/
def State.stlRekeyReq (s : State) (t : Telegram) : State :=
  let r := s.stlCheck t 4
  match r.2 with
  | none => r.1
  | some (c, m) =>
    let q := r.1.conn c
    if q.initiator ∧ (r.1.reg .stlSrc c).toNat < (r.1.reg .stlDst c).toNat then r.1
    else
      let s1 := r.1.setConn c { q with st := .rekeying, initiator := false, pendAck := true, nonceI := m.payload }
      if q.st = .rekeying then s1 else s1.raise 0xC014 c

def execStlRekeyReq (t : Telegram) (s : State) : Host.Outcome State Fault Refusal := run s (fun s => s.stlRekeyReq t)

/-- A REKEY_ACK completes the nonces: the next message goes out in the new session (R500); for a session of 0 or all ones this end asks again
(R497). -/
def State.stlRekeyAck (s : State) (t : Telegram) : State :=
  let r := s.stlCheck t 5
  match r.2 with
  | none => r.1
  | some (c, m) =>
    let q := r.1.conn c
    match r.1.connKey c with
    | some k =>
      if q.initiator ∧ m.payload.drop 16 = q.nonceI then
        let ss := r.1.stlDerive c k q.nonceI (m.payload.take 16)
        if badSession ss.num then r.1.setConn c { q with st := .open_, initiator := false }
        else r.1.setConn c { q with cur := ss, old := some q.cur, oldUntil := none, initiator := false }
      else r.1
    | none => r.1

def execStlRekeyAck (t : Telegram) (s : State) : Host.Outcome State Fault Refusal := run s (fun s => s.stlRekeyAck t)

/-- A valid CLOSE. -/
def State.stlClose (s : State) (t : Telegram) : State :=
  let r := s.stlCheck t 6
  match r.2 with
  | none => r.1
  | some (c, _) => r.1.connClosed c 1

def execStlClose (t : Telegram) (s : State) : Host.Outcome State Fault Refusal := run s (fun s => s.stlClose t)

/-- What a connection sends in OPEN or REKEYING at its CYCLE (R496, R500). -/
def State.cycleMessage (s : State) (c : Nat) : State :=
  let q := s.conn c
  let next := q.cur.seqTx + 1
  let data (s : State) : State := s.stlSend c 10 3 (stlRecord 3 s.safeStatus)
  if 0xFFFFFFFF ≤ next then s.connClosed c 5
  else if q.pendAck then
    match s.nonce, s.connKey c with
    | some (nR, s1), some k =>
      let ss := s1.stlDerive c k q.nonceI nR
      let s2 := s1.stlSend c 10 5 (nR ++ q.nonceI)
      if badSession ss.num then s2.modConn c (fun q => { q with st := .open_, pendAck := false })
      else s2.modConn c (fun q => { q with old := some q.cur, cur := ss, pendAck := false, oldUntil := some (s2.lt + 2 * s2.connCycle c + us (10 * s2.connMaxAge c)) })
    | _, _ => data s
  else if 0xFFFFFFF0 ≤ next ∧ q.st = .open_ then
    match s.nonce with
    | some (nI, s1) =>
      ((s1.stlSend c 10 4 nI).modConn c (fun q => { q with st := .rekeying, initiator := true, nonceI := nI })).raise 0xC014 c
    | none => data s
  else data s

/-- A connection's CYCLE (R501). A closed connection that this end opens starts to open, unless CMD CLOSE closed it. -/
def State.stlCycle (s : State) (c : Nat) : State :=
  when_ (s.trdpOn && s.connEn c && !s.standby) (fun s0 =>
    let s := match (s0.conn c).lastTx with
      | some t => s0.passTo (t + s0.connCycle c)
      | none => s0
    match (s.conn c).st with
    | .closed => if !s.rb .stlCfg c 1 && !(s.conn c).cmdClosed then
        let s1 := s.startOpening c
        if (s1.conn c).st = .opening then s1.sendOpenReq c else s1
      else s
    | .opening => s.sendOpenReq c
    | .open_ | .rekeying => s.cycleMessage c
    | .failed => s) s

def execStlCycleSend (c : Fin 64) (s : State) : Host.Outcome State Fault Refusal := run s (fun s => s.stlCycle c)

/-- Enter FAILED (R501, R502): armed permissive slots whose command arrived on the connection are cancelled. -/
def State.connFailed (s : State) (c : Nat) : State :=
  let ip := s.connIp c
  let s1 := (s.modConn c (fun q => { q with st := .failed, entered := s.lt, old := none, pendAck := false, initiator := false })).raise 0xC012 c
  let s2 := forEach (s1.slotsInOrder.filter (fun i => permissive (s1.slot i).action && (s1.slot i).conn == c)) (fun s i => (s.raise 0x3006 i).freeSlot i) s1
  (s2.endSessions ip).mirror 7 (s2.connItem c)

/-- No accepted message for TMO, or no valid OPEN_ACK (R501). -/
def State.stlTimeout (s : State) (c : Nat) : State :=
  let q := s.conn c
  when_ (s.connEn c && !s.standby) (fun s => match q.st with
    | .open_ | .rekeying => (s.passTo (q.lastOk + s.connTmo c)).connFailed c
    | .opening => (s.passTo (q.entered + s.connTmo c)).connFailed c
    | _ => s) s

def execStlTimeout (c : Fin 64) (s : State) : Host.Outcome State Fault Refusal := run s (fun s => s.stlTimeout c)

/-- One second in FAILED (R501). -/
def State.stlRetry (s : State) (c : Nat) : State :=
  when_ ((s.conn c).st == .failed && !s.standby) (fun s =>
    let s1 := s.passTo ((s.conn c).entered + sec 1)
    if s1.rb .stlCfg c 1 then s1.modConn c (fun q => { q with st := .closed, entered := s1.lt }) else s1.startOpening c) s

def execStlFailedRetry (c : Fin 64) (s : State) : Host.Outcome State Fault Refusal := run s (fun s => s.stlRetry c)

/-- STL_CMD (R508): OPEN or CLOSE of one connection. -/
def State.stlCmd (s : State) (c cmd : Nat) : State :=
  if !s.connEn c ∨ !s.trdpOn then s
  else if cmd = 1 then (if (s.conn c).st = .closed then s.startOpening c else s)
  else s.closeConn c 2

/-! ### A new directory (R474, R475, R479) -/

/-- A changed etbTopoCnt closes train-level connections and removes train-level dynamic partners (R479), and is a path change of every
train-domain port (R420). -/
def State.topologyChanged (s : State) : State :=
  let s1 := forEach (s.enabledConns.filter (fun c => (s.conn c).st != .closed && trainIp (s.connIp c))) (fun s c => s.closeConn c 3) s
  let s2 := forEach ((List.range 128).filter (fun k => s1.partnerDynamic k && trainIp (s1.partnerIp k))) State.releasePartner s1
  forEach s2.syncPortList (fun s i => s.pathChange i (s.ptpPort i).mpd) s2

/-- The directory has been read (R474, R475). -/
def State.directory (s : State) (etb op : Nat) (veh cst : Bool) : State :=
  when_ s.readsDirectory (fun s =>
    let o := (veh != cst) != decide (s.sys.end1 = 1)
    let changed := decide (etb ≠ s.trdp.etbTopo)
    let s1 := { s with trdp := { s.trdp with dirValid := true, orientKnown := true, orient := o, etbTopo := etb, opTopo := op, request := none,
                                             failed := false, firstRead := true } }
    let s2 := s1.raise 0xC001 noInst (leBytes 4 etb ++ leBytes 4 op ++ leBytes 1 (b2n o))
    if changed then s2.topologyChanged else s2) s

def execTtdbDirectory (etb op : Nat) (veh cst : Bool) (s : State) : Host.Outcome State Fault Refusal :=
  run s (fun s => s.directory etb op veh cst)

end Sys2Proof.Machine
end

