-- ==== Sys2Proof/Machine/Recorder.lean ====
section
/-!
DEFINITION. Sys2Proof/Machine/Recorder.lean: the event recorder (R542 to R580): intake, accession numbers, storage and retry, Hold,
the Reading Window, Final Folios, degraded mode, publication, and its network requests.
-/
namespace Sys2Proof.Machine
open Sys2Proof

/-! ### Codes and records (R542, R543, R575) -/

/-- Ranges of event codes of each class that R575 lists. -/
def eventRanges : Nat → List (Nat × Nat)
  | 0 => [(1, 8), (0xA, 0xA), (0x10, 0x17), (0x20, 0x22)]
  | 1 => [(1, 0xD), (0x10, 0x17)]
  | 2 => [(1, 0xA), (0x10, 0x15), (0x17, 0x19), (0x20, 0x25), (0x28, 0x29), (0x30, 0x31), (0x38, 0x39)]
  | 3 => [(1, 8), (0x10, 0x1A), (0x20, 0x22)]
  | 4 => [(1, 4), (0x10, 0x17)]
  | 5 => [(1, 8), (0x10, 0x15)]
  | 6 => [(1, 7)]
  | 7 => [(1, 8), (0x10, 0x13), (0x20, 0x21)]
  | 8 => [(1, 0xD)]
  | 9 => [(1, 0x13)]
  | 10 => [(1, 0xB)]
  | 11 => [(1, 0xF)]
  | 12 => [(1, 2), (4, 9), (0x10, 0x15), (0x20, 0x21)]
  | 13 => [(1, 0xD), (0xF, 0xF)]
  | 14 => [(1, 4), (6, 0xD), (0x10, 0x12)]
  | 15 => [(1, 4)]
  | _ => []
/-- Whether the controller raises a code (R575). -/
def isEvent (code : Nat) : Bool := (eventRanges (code / 0x1000)).any (fun r => decide (r.1 ≤ code % 0x1000 ∧ code % 0x1000 ≤ r.2))

/-- The 32 bytes of a record (R542, R543). -/
def recordBytes (degraded : Bool) (n : NumRec) : List Byte :=
  leBytes 6 n.acc ++ leBytes 2 n.ev.code ++ leBytes 8 n.ev.tt
    ++ (if n.ev.code = 0x3020 then padTo 15 n.ev.body
        else leBytes 1 (n.ev.tq % 8 + 8 * b2n n.ev.mate + 16 * b2n degraded) ++ padTo 14 n.ev.body) ++ [0xA5]

/-- A record read back from its bytes. -/
def recordOf (b : List Byte) : NumRec :=
  let code := leAt b 6 2
  ⟨leAt b 0 6, { code := code, tt := leAt b 8 8, tq := byteAt b 16 % 8, mate := code != 0x3020 && (byteAt b 16).testBit 3,
                 body := if code = 0x3020 then slice b 16 15 else slice b 17 14 }⟩

/-- DATA of a gap record (R550); LOST unknown is 0 with its flag. -/
def gapBody (count cause : Nat) (lost : Option Nat) : List Byte :=
  leBytes 4 count ++ leBytes 1 cause ++ leBytes 1 (b2n lost.isNone) ++ leBytes 4 (lost.getD 0) ++ leBytes 4 0

/-- A gap record established now (R548). -/
def State.gapRec (s : State) (acc count cause : Nat) (lost : Option Nat) : NumRec :=
  ⟨acc, { code := 0xE001, tt := s.tt, tq := s.quality.code, mate := s.standby, body := gapBody count cause lost }⟩

/-- The gap records of unknown LOST over `n` numbers from `first`, each over at most 0xFFFF_FFFE (R548, R549). -/
def State.gapRecs (s : State) (first n cause : Nat) : List NumRec :=
  (List.range (divCeil n 0xFFFFFFFE)).map (fun i => s.gapRec (first + i * 0xFFFFFFFE) (min 0xFFFFFFFE (n - i * 0xFFFFFFFE)) cause none)

/-- The last accession number (R542, R706). -/
def accEnd : Nat := 0xFFFFFFFFFFFE
/-- Whether the recorder has ended (R706). -/
def State.recEnded (s : State) : Bool := decide (accEnd < s.rcd.nextAcc)

/-- Events that the model raises by no other command enter here (R545, R547). Gap records are the recorder's own. -/
def State.eventIntake (s : State) (code inst : Nat) (vals : List Byte) : State :=
  when_ (isEvent code && code != 0xE001) (fun s =>
    if code = 0x3020 then s.raiseBody code (padTo 15 vals) else s.raise code inst vals) s

def execEventIntake (code inst : Nat) (vals : List Byte) (s : State) : Host.Outcome State Fault Refusal :=
  run s (fun s => s.eventIntake code inst vals)

/-! ### The seal macro and the last word (R568 to R571) -/

/-- Fill the last-word register (R571). -/
def State.lastWordFill (s : State) : State :=
  let w := min 254 (s.bk.lwWrites + 1)
  let b := ascii "SLFW" ++ leBytes 2 0xE011 ++ leBytes 1 s.rcd.degradedCause ++ leBytes 1 w ++ leBytes 8 s.tt ++ leBytes 6 s.rcd.nextAcc ++ [0, 0]
    ++ padTo 32 s.rcd.degradedRec ++ leBytes 4 0
  { s with bk := { s.bk with lastWord := b ++ leBytes 4 (crc32c b), lwWrites := w } }

/-- Write a record to the seal macro (R568, R571). -/
def State.sealWrite (s : State) (b : List Byte) (ok : Bool) : State :=
  if s.rcd.sealFault then s
  else if !ok then (State.raise { s with rcd := { s.rcd with sealFault := true } } 0xE011 noInst).lastWordFill
  else if s.rcd.sealSlots.length < 1024 then { s with rcd := { s.rcd with sealSlots := s.rcd.sealSlots ++ [b] } }
  else if s.rcd.sealFull then s
  else State.raise { s with rcd := { s.rcd with sealFull := true } } 0xE012 noInst

/-- Part of main MRAM at an offset, in the order of R551; 7 is the parameter store. -/
def mramPart (off : Nat) : Nat :=
  if off < 0xA00000 then 1 else if off < 0xB00000 then 2 else if off < 0xF00000 then 3 else if off < 0xF30000 then 4
  else if off < 0xF40000 then 5 else if off < 0xF90000 then 6 else if off < 0xFF0000 then 7 else 8

/-- Degraded mode begins (R569): cause 1 an uncorrectable error, 2 an abandoned write; the part, the offset and the number affected.
`part` is the place of the part in R551; its number is free (log entry 60). -/
def State.degrade (s : State) (cause part offset acc : Nat) : State :=
  if s.rcd.degraded then s
  else State.raise { s with rcd := { s.rcd with degraded := true, degradedCause := cause, recFault := true, sealMark := s.rcd.mark } } 0xE010 noInst
    (leBytes 1 cause ++ leBytes 1 (Config.codeOf .part part).toNat ++ leBytes 4 offset ++ leBytes 6 acc)

/-- CMD LW_CLEAR (R571). -/
def State.lwClear (s : State) : State := { s with bk := { s.bk with lastWord := [], lwWrites := 0 } }

/-! ### Allocation (R546, R526) -/

/-- Keep the mark at or above a number (R546, R570). -/
def State.markFor (s : State) (acc : Nat) : State :=
  if s.rcd.degraded then if acc ≤ s.rcd.sealMark then s else { s with rcd := { s.rcd with sealMark := max (s.rcd.sealMark + 256) acc } }
  else if acc ≤ s.rcd.mark then s
  else State.saveNum { s with rcd := { s.rcd with mark := max (s.rcd.mark + 256) acc } } 0x70 (max (s.rcd.mark + 256) acc)

/-- Numbers that a record accounts for: those of its range where it is a gap record (R548). -/
def NumRec.span (n : NumRec) : Nat := if n.ev.code = 0xE001 then max 1 (leAt n.ev.body 0 4) else 1

/-- A numbered record is lost (R559): its numbers join the loss episode, which the first one begins with its cause. -/
def State.loseRecord (s : State) (n : NumRec) (cause : Nat) : State :=
  { s with rcd := { s.rcd with episode := some (match s.rcd.episode with
    | none => ⟨cause, n.acc, n.span⟩
    | some e => { e with count := e.count + n.span }) } }

/-- The signatures of a portal cycle are written once its record has been, or once it waits under Hold, which does not stop them (R173, R174). -/
def State.writeSignatures (s : State) (n : NumRec) : State :=
  let p := byteAt n.ev.body 5 % 16
  let mine (j : SigJob) : Bool := j.axis / 4 == p && j.tt == n.ev.tt && j.cyc == leAt n.ev.body 0 5
  if n.ev.code ≠ 0x3020 then s
  else
    let old (j : SigJob) : Bool := j.axis / 4 == p && decide (j.tt ≤ n.ev.tt)
    let s1 : State := { s with rcd := { s.rcd with sigQ := s.rcd.sigQ.filter (fun j => !old j) } }
    forEach (s.rcd.sigQ.filter mine) (fun s j =>
      if s.rcd.degraded then s.raise 0x4017 j.axis
      else
        let at_ := 0x01B00000 + 1024 * (128 * (2 * p + j.axis % 4) + (s.ob j.axis).sigPtr)
        ((s.setMem at_ (j.bytes n.acc)).modOb j.axis (fun o => { o with sigPtr := (o.sigPtr + 1) % 128 })).mirrorObs s j.axis) s1

/-- Which records trigger a Final Folio (R566). -/
def State.folioTrigger (s : State) (e : EventRec) : Bool :=
  (e.code == 0x301A && s.rb .recCfg 0 16) || ((e.code == 0x7001 || e.code == 0x7002 || e.code == 0x7003) && s.rb .recCfg 0 17)
    || (((e.code == 0xD001 && byteAt e.body 2 == 3) || e.code == 0xD00F) && s.rb .recCfg 0 18)

/-- A capture is lost (R566). -/
def State.folioLost (s : State) : State := s.raise 0xE00B noInst

/-- A numbered record joins the end of the Hold queue; where the queue is full and no Hold is in force, a gap record takes its place in the
drain (R574), as a gap record itself does. -/
def State.joinHoldQ (s : State) (n : NumRec) : State :=
  if s.rcd.holdQ.length < 4096 then { s with rcd := { s.rcd with holdQ := s.rcd.holdQ ++ [n] } }
  else
    let g := if n.ev.code = 0xE001 then n else s.gapRec n.acc 1 9 (some 1)
    { s with rcd := { s.rcd with drainGaps := s.rcd.drainGaps ++ [g] } }

/-- Where a numbered record goes: it waits to be stored, or under Hold in the Hold queue, or it is lost (R559, R574). The record of the
set itself is stored before the freeze (R558): behind what still drains, where Hold is set again during a drain. -/
def State.placeNumbered (s : State) (n : NumRec) : State :=
  if s.rcd.holdPending then
    let own := n.ev.code == 0xE003 && n.ev.mate == s.standby
    let s1 : State := { s with rcd := { s.rcd with holdPending := !own, holdFrom := if own then n.acc else s.rcd.holdFrom } }
    if s.rcd.draining then s1.joinHoldQ n else { s1 with rcd := { s1.rcd with storeQ := s1.rcd.storeQ ++ [n] } }
  else if s.rcd.hold then
    if s.rcd.episode.isSome ∨ 4096 ≤ s.rcd.holdQ.length ∨ s.rcd.holdLimit then
      let s1 := s.loseRecord n (if s.standby then 9 else if s.rcd.holdLimit then 3 else 2)
      if s.folioTrigger n.ev then s1.folioLost else s1
    else { s with rcd := { s.rcd with holdQ := s.rcd.holdQ ++ [n] } }
  else if s.rcd.draining then s.joinHoldQ n
  else { s with rcd := { s.rcd with storeQ := s.rcd.storeQ ++ [n] } }

/-- Whether a number may be allocated (R526, R559, R706). -/
def State.mayAllocate (s : State) : Bool :=
  s.rcd.started && !s.recEnded && !s.standby && s.rcd.intake != []
    && (!s.mirrors || decide (s.rcd.nextAcc ≤ s.twin.accConfirmed + 64))
    && !(s.rcd.draining && (!s.rcd.hold || s.rcd.holdPending) && decide (4096 ≤ s.rcd.holdQ.length))

/-- What a numbered record starts at once: the mirror item (R524), and under Hold the signatures of a portal cycle (R174). -/
def State.numbered (s : State) (n : NumRec) : State :=
  let s2 := s.mirror 4 (recordBytes s.rcd.degraded n)
  let s3 := if s.mirrors then { s2 with twin := { s2.twin with accSent := s2.twin.accSent ++ [(s2.twin.mseq, n.acc)] } } else s2
  let s4 := s3.placeNumbered n
  if s.rcd.hold || s.rcd.draining then s4.writeSignatures n else s4

/-- A mirror frame from a standby to its active device (R524, kind 11). -/
def State.mateSend (s : State) (kind : Nat) (body : List Byte) : State :=
  let m := (s.twin.mseq + 1) % 2 ^ 32
  let items := beBytes 1 kind ++ [0] ++ beBytes 2 body.length ++ body
  State.emit { s with twin := { s.twin with mseq := m, unacked := s.twin.unacked ++ [MirrorFrame.mk m items s.lt] } }
    (.mirror s.mirrorLane (mirrorFrameBytes m items))

/-- A standby numbers nothing: while the mirror runs, its events travel to the active device with the count of those it refused (R574). -/
def State.standbyForward (s : State) : State :=
  match s.rcd.intake with
  | [] => s
  | e :: rest =>
    let s1 := { s with rcd := { s.rcd with intake := rest, gapOpen := if rest = [] then false else s.rcd.gapOpen } }
    if e.code = 0xE001 then { s1 with rcd := { s1.rcd with refusedStandby := s1.rcd.refusedStandby + leAt e.body 6 4 } }
    else State.mateSend { s1 with rcd := { s1.rcd with refusedStandby := 0 } } 11 (beBytes 2 e.code ++ beBytes 4 s1.rcd.refusedStandby ++ e.body)

/-- The next number goes to the first record in the intake, at most one in 50 us (R546). -/
def State.allocate (s : State) : State :=
  if s.standby then when_ (s.rcd.started && s.twin.beat.isSome && !s.twin.silent && !s.twin.fallback) State.standbyForward s
  else when_ s.mayAllocate (fun s =>
    let s1 := match s.rcd.lastAlloc with
      | some t => s.passTo (t + us 50)
      | none => s
    match s1.rcd.intake with
    | [] => s1
    | e :: rest =>
      let acc := s1.rcd.nextAcc
      let s2 := s1.markFor acc
      let s3 := { s2 with rcd := { s2.rcd with
        intake := rest
        gapOpen := if rest = [] then false else s2.rcd.gapOpen
        nextAcc := acc + 1
        lastAlloc := some s2.lt
        recFault := s2.rcd.recFault || decide (acc = accEnd) } }
      s3.numbered ⟨acc, e⟩) s

def execRecAllocate (s : State) : Host.Outcome State Fault Refusal := run s State.allocate

/-- REPEAT_WIN passes without a further repeat (R556): the count is queued as 0xE006. -/
def State.repeated (s : State) : State :=
  match s.rcd.repeats.find? (fun t => t.count != 0) with
  | none => s
  | some t =>
    let s1 := s.passTo (t.lastLt + ms (10 * s.rf .recCfg 0 15 8))
    State.raise { s1 with rcd := { s1.rcd with repeats := s1.rcd.repeats.filter (fun u => u.code != t.code) } } 0xE006 noInst
      (leBytes 2 t.code ++ leBytes 4 t.count ++ s1.sinceTt t.lastTt)

def execRecRepeated (s : State) : Host.Outcome State Fault Refusal := run s State.repeated

/-! ### Publication (R565) -/

/-- Whether a stored record is published. -/
def State.published (s : State) (code : Nat) : Bool :=
  (s.reg .recPubIp).toNat != 0 && (s.rcd.degraded || (s.rf .recPubMask 0 15 0).testBit (code / 0x1000))

/-- Send an EVENT_PUB telegram. -/
def State.eventPub (s : State) (recs : List (List Byte)) (att : List Byte) : State :=
  when_ s.trdpOn (fun s => s.sendTelegram 20 (s.reg .recPubIp).toNat
    (beBytes 1 recs.length ++ beBytes 1 (b2n s.rcd.degraded + 2 * b2n (att != [])) ++ [0, 0] ++ recs.flatten ++ att)) s

/-- The safety change log entry that a 0x7020 record names: made in degraded mode, or in the log. -/
def State.logAttachment (s : State) (k : Nat) : List Byte :=
  (s.rcd.attach.find? (fun e => leAt e 0 4 == k)).getD (s.memBytes (logAddr k) 48)

/-- Whether a record travels alone (R565). -/
def State.travelsAlone (s : State) (b : List Byte) : Bool := s.rcd.degraded && (leAt b 6 2 == 0xE010 || leAt b 6 2 == 0x7020)

/-- The next EVENT_PUB telegram of the records that wait. -/
def State.publish (s : State) : State :=
  match s.rcd.pubQ with
  | [] => s
  | b :: rest =>
    if s.travelsAlone b then
      let k := leAt b 19 4
      let att := if leAt b 6 2 = 0x7020 then s.logAttachment k else []
      State.eventPub { s with rcd := { s.rcd with pubQ := rest, pubSince := s.lt, attach := s.rcd.attach.filter (fun e => leAt e 0 4 != k || att == []) } }
        [b] att
    else
      let batch := ((b :: rest).takeWhile (fun x => !s.travelsAlone x)).take 40
      State.eventPub { s with rcd := { s.rcd with pubQ := s.rcd.pubQ.drop batch.length, pubSince := s.lt } } batch []

def execRecPublish (s : State) : Host.Outcome State Fault Refusal := run s (fun s => when_ (!s.recEnded) State.publish s)

/-- Queue a stored record for publication; 0xE010 leaves at once. -/
def State.pubStored (s : State) (code : Nat) (b : List Byte) : State :=
  if !s.published code then s
  else if code = 0xE010 ∧ s.rcd.degraded then s.eventPub [b] []
  else { s with rcd := { s.rcd with pubQ := s.rcd.pubQ ++ [b], pubSince := if s.rcd.pubQ = [] then s.lt else s.rcd.pubSince } }

/-! ### Final Folios (R566, R567) -/

/-- Where the header of folio `f` stands. -/
def folioAddr (f : Nat) : Nat := 0x01F00000 + 0x8400 * f

/-- A capture starts: its records are those most recently stored. -/
def State.captureStart (s : State) (code acc : Nat) : State :=
  if s.rcd.degraded ∨ s.folioNext.isNone ∨ 4 ≤ s.rcd.captures.length then s.folioLost
  else { s with rcd := { s.rcd with captures := s.rcd.captures ++ [Capture.mk acc code s.rcd.lastStored] } }

/-- CMD CAPTURE: the trigger is the record most recently stored. -/
def State.captureCmd (s : State) : State := s.captureStart 0 (leAt (s.rcd.lastStored.getLast?.getD []) 0 6)

/-- A capture completes, not under Hold; in degraded mode, or with every folio kept, it is lost. -/
def State.folioCaptured (s : State) : State :=
  match s.rcd.captures with
  | [] => s
  | c :: rest =>
    if s.rcd.hold || s.rcd.draining then s
    else
      let s0 := { s with rcd := { s.rcd with captures := rest } }
      match s.folioNext with
      | none => s0.folioLost
      | some f =>
        if s.rcd.degraded then s0.folioLost
        else
          let h := ascii "SLFF" ++ leBytes 2 1 ++ leBytes 2 c.code ++ leBytes 6 c.acc ++ leBytes 2 c.recs.length ++ leBytes 8 s.tt
          let hdr := h ++ leBytes 4 (crc32c (h ++ c.recs.flatten)) ++ [0, 0, 0, 0xA5]
          let s1 := s0.setMem (folioAddr f) (hdr ++ c.recs.flatten)
          let age := ((List.range 4).foldl (fun a g => max a (s.folio g).age) 0) + 1
          State.raise { s1 with rcd := { s1.rcd with folios := Table.set {} s1.rcd.folios f { valid := true, keep := false, age := age } } } 0xE00A noInst
            (leBytes 1 f ++ leBytes 6 c.acc)

def execRecFolioCaptured (s : State) : Host.Outcome State Fault Refusal := run s State.folioCaptured

/-- CMD KEEP and UNKEEP of folio `f` (R580). -/
def State.folioKeep (s : State) (f : Nat) (keep : Bool) : State :=
  { s with rcd := { s.rcd with folios := Table.set {} s.rcd.folios f { s.folio f with keep := keep } } }

/-! ### Storage (R551 to R557, R570) -/

/-- Slots of the Circulation and the Archive area. -/
def circSlots : Nat := 327680
def archSlots : Nat := 32768
/-- Where the next record goes: the Archive while it fills, from its own first record on (R552, R553). -/
def State.toArchive (s : State) (code : Nat) : Bool := s.rcd.archState == 1 && (s.rcd.archCnt != 0 || code == 0xE008)
/-- Address of the slot a record goes to. -/
def State.slotAddr (s : State) (code : Nat) : Nat :=
  if s.toArchive code then 0x01A00000 + 32 * s.rcd.archCnt else 0x01000000 + 32 * s.rcd.circNext
/-- The part that a slot stands in: 1 Circulation, 2 Archive (R551). -/
def State.slotArea (s : State) (code : Nat) : Nat := if s.toArchive code then 2 else 1

/-- The LOST that a stored gap record adds to its counter (R581). -/
def lostOf (e : EventRec) : Nat := if e.code = 0xE001 then leAt e.body 6 4 else 0

/-- What follows a stored record: its count, the record of those stored last, a Folio it triggers, its publication. -/
def State.wasStored (s : State) (n : NumRec) (b : List Byte) : State :=
  let s1 := (s.count 270).count 275 (lostOf n.ev)
  let l := s1.rcd.lastStored ++ [b]
  let s2 := { s1 with rcd := { s1.rcd with lastStored := l.drop (l.length - 1024) } }
  let s3 := if s2.folioTrigger n.ev then s2.captureStart n.ev.code n.acc else s2
  (s3.pubStored n.ev.code b).writeSignatures n

/-- Advance past the slot just written: the Archive fills once, Circulation replaces its oldest record (R552, R553). -/
def State.advanceSlot (s : State) (n : NumRec) : State :=
  if s.toArchive n.ev.code then
    let c := s.rcd.archCnt + 1
    if c = archSlots then State.raise { s with rcd := { s.rcd with archCnt := c, archState := 2 } } 0xE009 noInst
    else { s with rcd := { s.rcd with archCnt := c } }
  else
    let nx := (s.rcd.circNext + 1) % circSlots
    let old := if s.rcd.circUsed = 0 then n.acc
      else if s.rcd.circUsed < circSlots then s.rcd.oldest
      else leAt (s.memBytes (0x01000000 + 32 * nx) 6) 0 6
    { s with rcd := { s.rcd with circNext := nx, circUsed := min circSlots (s.rcd.circUsed + 1), oldest := old } }

/-- Store a record whose write passed its verify (R544, R557). -/
def State.storeGood (s : State) (n : NumRec) : State :=
  let b := recordBytes false n
  ((s.setMem (s.slotAddr n.ev.code) b).advanceSlot n).wasStored n b

/-- Store a record in degraded mode (R570); `ok` is the verify of the seal macro. -/
def State.storeDegraded (s : State) (n : NumRec) (ok : Bool) : State :=
  let b := recordBytes true n
  let l := s.rcd.ring ++ [b]
  let s1 := { s with rcd := { s.rcd with
    ring := l.drop (l.length - 4096)
    degradedRec := if n.ev.code = 0xE010 ∧ n.ev.mate = s.standby then b else s.rcd.degradedRec } }
  let s2 := if n.ev.code = 0xE001 ∨ n.ev.code / 0x1000 = 7 ∨ n.ev.code = 0xE010 then s1.sealWrite b ok else s1
  s2.wasStored n b

/-- Store where the mode puts it, every verify passing. -/
def State.recPut (s : State) (n : NumRec) : State := if s.rcd.degraded then s.storeDegraded n true else s.storeGood n

/-- The first record that waits is written and read back (R557). A failed attempt leaves the slot without a valid record. -/
def State.recStore (s : State) (ok : Bool) : State :=
  match s.rcd.storeQ with
  | [] => s
  | n :: rest =>
    if s.recEnded ∨ s.rcd.retryDue.isSome then s
    else if s.rcd.degraded then State.storeDegraded { s with rcd := { s.rcd with storeQ := rest } } n ok
    else if ok then State.storeGood { s with rcd := { s.rcd with storeQ := rest } } n
    else
      let s1 := s.setMemByte (s.slotAddr n.ev.code + 31) 0
      { s1 with rcd := { s1.rcd with retries := 0, retryDue := some (s1.lt + us 20) } }

def execRecStore (ok : Bool) (s : State) : Host.Outcome State Fault Refusal := run s (fun s => s.recStore ok)

/-- A retry (R557): it completes, or is repeated, or after the third the write is abandoned and degraded mode begins; a gap record takes
the number. -/
def State.writeRetry (s : State) (ok : Bool) : State :=
  match s.rcd.storeQ, s.rcd.retryDue with
  | n :: rest, some t =>
    if s.recEnded then s
    else
      let s1 := (s.passTo t).count 271
      let off := s1.slotAddr n.ev.code
      let clear (s : State) : State := { s with rcd := { s.rcd with storeQ := rest, retries := 0, retryDue := none } }
      if ok then ((clear s1).storeGood n).raise 0xE002 noInst (leBytes 1 (Config.codeOf .part (s1.slotArea n.ev.code)).toNat ++ leBytes 4 (off - 0x01000000))
      else if s1.rcd.retries < 2 then { s1 with rcd := { s1.rcd with retries := s1.rcd.retries + 1, retryDue := some (s1.lt + us 20) } }
      else
        let s2 := (clear s1).degrade 2 (s1.slotArea n.ev.code) (off - 0x01000000) n.acc
        let s3 := if s2.folioTrigger n.ev then s2.folioLost else s2
        (s3.storeDegraded (s3.gapRec n.acc 1 (if s.standby then 9 else 1) (some 1)) true).writeSignatures n
  | _, _ => s

def execRecWriteRetry (ok : Bool) (s : State) : Host.Outcome State Fault Refusal := run s (fun s => s.writeRetry ok)

/-! ### Hold (R558, R559) -/

/-- Refuse a recorder command (R555): the command and the reason. The reason is 1 degraded, 2 the Archive's
state, 3 Hold, a drain or a clearing, 4 the configuration or the capacity; its number in the record is free (log entry 60). -/
def State.recReject (s : State) (cmd reason : Nat) : State := s.raise 0xE00D noInst (leBytes 2 cmd ++ leBytes 1 (Config.codeOf .recReason reason).toNat)

/-- Set Hold (R558). `cmd` names the command in a rejection; the answer says whether it was taken. -/
def State.holdSet (s : State) (cmd : Nat) (byWindow : Bool) : State × Bool :=
  if s.rcd.degraded then (s.recReject cmd 1, false)
  else if s.rcd.hold then (s, true)
  else (State.raise { s with rcd := { s.rcd with hold := true, holdPending := true, holdStart := s.lt, holdLimit := false, holdByWindow := byWindow } }
    0xE003 noInst, true)

/-- The gap records of a loss episode: one for the episode, on a standby one for each number (R549). -/
def State.episodeGaps (s : State) : List NumRec := match s.rcd.episode with
  | none => []
  | some e => if e.cause = 9 then (List.range e.count).map (fun i => s.gapRec (e.first + i) 1 9 (some 1)) else [s.gapRec e.first e.count e.cause (some e.count)]

/-- Release Hold (R559): the loss episode ends and its gap records are established, 0xE004 is raised, the queue drains. -/
def State.holdRelease (s : State) : State :=
  when_ s.rcd.hold (fun s =>
    let lost := match s.rcd.episode with
      | some e => e.count
      | none => 0
    let s1 := s.raise 0xE004 noInst (leBytes 2 s.rcd.holdQ.length ++ leBytes 4 lost ++ leBytes 1 (b2n s.rcd.holdLimit))
    { s1 with rcd := { s1.rcd with
      hold := false, holdPending := false, holdByWindow := false, holdLimit := false, episode := none
      drainGaps := s1.rcd.drainGaps ++ s1.episodeGaps
      draining := decide (s.rcd.holdQ ≠ []) || s.rcd.episode.isSome || s.rcd.draining } }) s

/-- The Hold limit falls 10 s after the set (R559). -/
def State.limitHold (s : State) : State :=
  when_ (s.rcd.hold && !s.rcd.holdLimit) (fun s =>
    let s1 := s.passTo (s.rcd.holdStart + sec 10)
    { s1 with rcd := { s1.rcd with holdLimit := true } }) s

def execRecHoldLimit (s : State) : Host.Outcome State Fault Refusal := run s State.limitHold

/-- The last number that a drain writes: where Hold has been set again, that of its own record (R558). -/
def State.drainEnd (s : State) : Nat := if s.rcd.hold && !s.rcd.holdPending then s.rcd.holdFrom else accEnd

/-- The drain (R559): the queued records and the gap records of what was lost, in accession order (R47). -/
def State.drain (s : State) : State :=
  when_ (s.rcd.draining && s.rcd.storeQ == [] && !s.recEnded) (fun s =>
    let q := s.rcd.holdQ.filter (fun n => decide (n.acc ≤ s.drainEnd))
    forEach (sortBy (fun x y => decide (x.acc ≤ y.acc)) (q ++ s.rcd.drainGaps)) State.recPut { s with rcd := { s.rcd with
      holdQ := s.rcd.holdQ.filter (fun n => decide (s.drainEnd < n.acc)), drainGaps := [], draining := false } }) s

def execRecHoldDrainDone (s : State) : Host.Outcome State Fault Refusal := run s State.drain

/-! ### Archive and clearing (R553, R554) -/

/-- Archive commissioning; the answer says whether it was accepted. -/
def State.archive (s : State) (cmd : Nat) : State × Bool :=
  if s.rcd.archState ≠ 0 then (s.recReject cmd 2, false)
  else (State.raise { s with rcd := { s.rcd with archState := 1 } } 0xE008 noInst, true)

/-- Clearing of Circulation begins; it completes within 2 s. -/
def State.clearCirc (s : State) (cmd : Nat) : State × Bool :=
  if s.rcd.degraded then (s.recReject cmd 1, false)
  else if s.rcd.hold || s.rcd.draining || s.rcd.clearing.isSome then (s.recReject cmd 3, false)
  else ({ s with rcd := { s.rcd with clearing := some (s.rcd.oldest, s.rcd.nextAcc - 1) } }, true)

/-- Every Circulation slot has VALID 0x00, REC_OLDEST is the next number (R554). -/
def State.cleared_ (s : State) : State :=
  match s.rcd.clearing with
  | none => s
  | some c =>
    let keep (e : Nat × Byte) : Bool := !(decide (0x01000000 ≤ e.1 ∧ e.1 < 0x01A00000) && e.1 % 32 == 31)
    State.raise { s with
      mem := s.mem.filter keep
      rcd := { s.rcd with clearing := none, circUsed := 0, oldest := s.rcd.nextAcc } } 0xE007 noInst (leBytes 6 c.1 ++ leBytes 6 c.2)

def execRecCleared (s : State) : Host.Outcome State Fault Refusal := run s State.cleared_

/-! ### Looking a record up (R560, R561) -/

/-- Addresses of the valid slots of an address range. -/
def State.validSlots (s : State) (lo hi : Nat) : List Nat :=
  (s.mem.filter (fun e => decide (lo ≤ e.1 ∧ e.1 < hi) && e.1 % 32 == 31 && e.2 == 0xA5)).map (fun e => e.1 - 31)
/-- Every record of AREA 0: Circulation, Archive, and the degraded ring. -/
def State.heldRecords (s : State) : List (List Byte) :=
  (s.validSlots 0x01000000 0x01B00000).map (fun a => s.memBytes a 32) ++ s.rcd.ring

/-- Whether a record covers an accession number, by its own number or as a gap. -/
def covers (n : Nat) (b : List Byte) : Bool :=
  leAt b 0 6 == n || (leAt b 6 2 == 0xE001 && decide (leAt b 0 6 ≤ n ∧ n < leAt b 0 6 + leAt b 17 4))

/-- The least of a list above a bound, or the bound. -/
def leastAbove (n : Nat) (l : List Nat) : Nat :=
  (l.foldl (fun (a : Option Nat) k => if k ≤ n then a else match a with
    | none => some k
    | some b => some (min b k)) none).getD n

/-- What a load finds: status, the record, and the cursor after the next STEP. -/
structure Found where
  status : Nat
  data : List Byte := []
  next : Nat
  deriving DecidableEq, Repr

/-- AREA 0 at accession number `n`. -/
def State.findRecord (s : State) (n : Nat) : Found :=
  if s.rcd.nextAcc ≤ n then ⟨5, [], n⟩
  else match s.heldRecords.find? (covers n) with
    | some b => if leAt b 6 2 = 0xE001 then ⟨2, b, leAt b 0 6 + leAt b 17 4⟩ else ⟨1, b, n + 1⟩
    | none => if s.rcd.oldest ≤ n then ⟨4, [], n⟩ else ⟨3, [], leastAbove n (s.heldRecords.map (fun b => leAt b 0 6))⟩

/-- AREA 1 (slots of a folio, 0 its header) and AREA 2 (slots of the seal macro). -/
def State.findSlot (s : State) (area f n : Nat) : Found :=
  if area = 1 then
    if 1024 < n then ⟨5, [], n⟩
    else
      let ok (k : Nat) : Bool := s.memByte (folioAddr f + 32 * k + 31) == 0xA5
      if ok n then ⟨1, s.memBytes (folioAddr f + 32 * n) 32, n + 1⟩ else ⟨3, [], leastAbove n ((List.range 1025).filter ok)⟩
  else if 1023 < n then ⟨5, [], n⟩
  else match s.rcd.sealSlots[n]? with
    | some b => ⟨1, b, n + 1⟩
    | none => ⟨3, [], n⟩

/-- A load at a cursor. -/
def State.lookup (s : State) (area f n : Nat) : Found := if area = 0 then s.findRecord n else s.findSlot area f n

/-- The slot that an uncorrectable error of a load names: part and offset. -/
def State.slotOf (s : State) (area f n : Nat) : Nat × Nat :=
  if area = 1 then (4, folioAddr f + 32 * n - 0x01000000)
  else match (s.validSlots 0x01000000 0x01B00000).find? (fun a => covers n (s.memBytes a 32)) with
    | some a => (if a < 0x01A00000 then 1 else 2, a - 0x01000000)
    | none => (1, 0)

/-! ### The Reading Window (R560) -/

/-- The cursor as its registers hold it. -/
def State.rwPos (s : State) : Nat := (s.reg .recRwPosLo).toNat + 2 ^ 32 * s.rf .recRwPosHi 0 15 0
/-- Put the cursor in its registers. -/
def State.setRwPos (s : State) (n : Nat) : State :=
  (s.setReg .recRwPosLo 0 0 (BitVec.ofNat 32 n)).setReg .recRwPosHi 0 0 (BitVec.ofNat 32 (n / 2 ^ 32 % 2 ^ 16))

/-- A load starts at a cursor. -/
def State.rwLoad (s : State) (n : Nat) : State :=
  let s1 := s.setRwPos n
  { s1 with rcd := { s1.rcd with winPos := n, winMoved := false, winBusy := true, winLast := s.lt } }

/-- Close the window; a Hold that it set is released (R558). -/
def State.rwClose (s : State) : State :=
  when_ s.rcd.winOpen (fun s =>
    let s1 := { s with rcd := { s.rcd with winOpen := false, winBusy := false, winStatus := 0, winData := [] } }
    if s.rcd.holdByWindow then s1.holdRelease else s1) s

/-- OPEN; with HOLD 1 it sets Hold. -/
def State.rwOpen (s : State) (area f : Nat) (hold : Bool) : State :=
  let s1 := if hold ∧ !s.rcd.hold then (s.holdSet 1 true).1 else s
  State.rwLoad { s1 with rcd := { s1.rcd with winOpen := true, winArea := area, winFolio := f } } s.rwPos

/-- STEP: to the moved cursor, or to the one that the last load names. -/
def State.rwStep (s : State) : State :=
  when_ (s.rcd.winOpen && !s.rcd.winBusy) (fun s => s.rwLoad (if s.rcd.winMoved then s.rwPos else s.rcd.winNext)) s

/-- A write of REC_RW_POS moves the cursor at the next STEP. -/
def State.rwMoved (s : State) : State := { s with rcd := { s.rcd with winMoved := true } }

/-- The load completes; `ecc` is an uncorrectable error in the slot (R561, R569). -/
def State.rwDone (s : State) (ecc : Bool) : State :=
  when_ (s.rcd.winOpen && s.rcd.winBusy) (fun s =>
    let r := s.rcd
    let q := s.lookup r.winArea r.winFolio r.winPos
    let put (st : Nat) (d : List Byte) (nx : Nat) : State := { s with rcd := { r with winBusy := false, winStatus := st, winData := d, winNext := nx } }
    if ecc ∧ (q.status = 1 ∨ q.status = 2) then
      let s1 := put 6 [] (r.winPos + 1)
      let w := s.slotOf r.winArea r.winFolio r.winPos
      if r.winArea = 2 then s1 else s1.degrade 1 w.1 w.2 (if r.winArea = 0 then r.winPos else 0)
    else put q.status q.data q.next) s

def execRwLoadDone (ecc : Bool) (s : State) : Host.Outcome State Fault Refusal := run s (fun s => s.rwDone ecc)

/-- A window with no STEP for 5 s closes. -/
def State.rwIdle (s : State) : State := when_ s.rcd.winOpen (fun s => (s.passTo (s.rcd.winLast + sec 5)).rwClose) s

def execRwIdleTimeout (s : State) : Host.Outcome State Fault Refusal := run s State.rwIdle

/-- Reading REC_NEXT_LO or REC_OLDEST_LO captures the high word (R578). -/
def State.recNextRead (s : State) : State := { s with rcd := { s.rcd with nextHiCap := s.rcd.nextAcc / 2 ^ 32 } }
def State.recOldestRead (s : State) : State := { s with rcd := { s.rcd with oldestHiCap := s.rcd.oldest / 2 ^ 32 } }

/-! ### Requests over the network (R562 to R564) -/

/-- A SERVICE_REQ that passes the checks of the TRDP engine, from a partner or a source it admits (R481): its request code and body. -/
def State.serviceRx (s : State) (t : Telegram) (req : Nat) : State × Option (List Byte) :=
  let r := s.trdpRx t
  match r.2 with
  | some (40, d) =>
    if d.length < 4 ∨ beAt d 0 2 ≠ req then (r.1, none)
    else
      let a := r.1.admitPartner t.src
      if a.2 then (a.1, some (d.drop 4)) else (a.1, none)
  | _ => (r.1, none)

/-- SERVICE_REP (R562). -/
def State.serviceReply (s : State) (ip req result : Nat) (body : List Byte) : State :=
  s.sendTelegram 41 ip (beBytes 2 req ++ beBytes 2 result ++ body)

/-- Serve a recorder request, or refuse it (R562, R564). -/
def State.recServe (s : State) (ip req : Nat) (body : List Byte) : State := (s.count 273).serviceReply ip req 0 body
def State.recRefuse (s : State) (ip req : Nat) : State := ((s.recReject req 4).count 274).serviceReply ip req 0xE00D []
def State.recOversize (s : State) (ip req field : Nat) : State :=
  ((s.raise 0xE00C noInst (leBytes 1 field)).count 274).serviceReply ip req 0xE00C []

/-- A recorder request of `len` body bytes: with READ_OPEN 0 it is refused, with another length rejected as field 4. -/
def State.recRequest (s : State) (t : Telegram) (req len : Nat) (f : State → List Byte → State) : State :=
  let r := s.serviceRx t req
  match r.2 with
  | none => r.1
  | some b =>
    if !r.1.rb .recCfg 0 0 then r.1.recRefuse t.src req
    else if b.length ≠ len then r.1.recOversize t.src req 4
    else f r.1 b

/-- The records of a READ: from a cursor, while PRESENT or IN_GAP. -/
def State.readRun (s : State) (area f : Nat) : Nat → Nat → List (List Byte) → Nat × Nat × List (List Byte)
  | 0, n, acc => (n, (s.lookup area f n).status, acc)
  | k + 1, n, acc =>
    let q := s.lookup area f n
    if q.status = 1 ∨ q.status = 2 then State.readRun s area f k q.next (acc ++ [q.data]) else (n, q.status, acc)

/-- READ (R563). -/
def State.readReq (s : State) (ip : Nat) (b : List Byte) : State :=
  let start := beAt b 0 8
  let count := beAt b 8 2
  let area := byteAt b 10
  if count = 0 ∨ 40 < count then s.recOversize ip 0x0101 1
  else if 0xFFFFFFFFFFFE < start then s.recOversize ip 0x0101 2
  else if 2 < area ∨ 3 < byteAt b 11 then s.recRefuse ip 0x0101
  else
    let q := s.readRun area (byteAt b 11) count start []
    s.recServe ip 0x0101 (beBytes 8 q.1 ++ beBytes 1 q.2.1 ++ beBytes 1 q.2.2.length ++ [0, 0] ++ q.2.2.flatten)

def execRead (t : Telegram) (s : State) : Host.Outcome State Fault Refusal :=
  run s (fun s => s.recRequest t 0x0101 12 (fun s b => s.readReq t.src b))

/-- HOLD (R563). -/
def State.holdReq (s : State) (ip : Nat) (b : List Byte) : State :=
  let a := byteAt b 0
  if !s.rb .recCfg 0 1 ∨ (a ≠ 1 ∧ a ≠ 2) then s.recRefuse ip 0x0102
  else if a = 2 then s.holdRelease.recServe ip 0x0102 []
  else if s.rcd.degraded then s.recRefuse ip 0x0102
  else (s.holdSet 1 false).1.recServe ip 0x0102 []

def execHold (t : Telegram) (s : State) : Host.Outcome State Fault Refusal :=
  run s (fun s => s.recRequest t 0x0102 4 (fun s b => s.holdReq t.src b))

/-- Uploads that run. -/
def State.uploadCount (s : State) : Nat := (s.trdp.streams.filter (fun t => !t.inbound && t.upKind != 0)).length
/-- First and last item of an upload: accession numbers, signature slots 128 x leaf + s, or slots of a folio. -/
def uploadRange (kind start fin : Nat) : Nat × Nat :=
  if kind = 1 then (start, fin) else if kind = 2 then (128 * start, 128 * start + 127) else (2048 * start, 2048 * start + 1024)

/-- UPLOAD (R563): an outbound stream opens to the requester. -/
def State.uploadReq (s : State) (ip : Nat) (b : List Byte) : State :=
  let kind := byteAt b 0
  let start := beAt b 4 8
  let fin := beAt b 12 8
  if 0xFFFFFFFFFFFE < start ∨ 0xFFFFFFFFFFFE < fin then s.recOversize ip 0x0103 2
  else if fin < start then s.recOversize ip 0x0103 3
  else if kind = 0 ∨ 3 < kind ∨ (kind = 2 ∧ 31 < start) ∨ (kind = 3 ∧ 3 < start) ∨ 4 ≤ s.uploadCount ∨ 32 ≤ s.trdp.streams.length then s.recRefuse ip 0x0103
  else
    let num := s.trdp.nextStream
    let r := uploadRange kind start fin
    let s1 := { s with trdp := { s.trdp with nextStream := if num = 0xFFFE then 1 else num + 1 } }
    let s2 := s1.addStream { ip := ip, num := num, inbound := false, upKind := kind, upNext := r.1, upEnd := r.2 }
    (s2.sendTelegram 30 ip (streamMsg num 1 0 0 0 0 [])).recServe ip 0x0103 (beBytes 2 num)

def execUpload (t : Telegram) (s : State) : Host.Outcome State Fault Refusal :=
  run s (fun s => s.recRequest t 0x0103 20 (fun s b => s.uploadReq t.src b))

/-- STATUS (R563). -/
def State.statusReq (s : State) (ip : Nat) : State :=
  s.recServe ip 0x0104 (beBytes 4 s.recStatWord.toNat ++ beBytes 4 (s.readVal .recLoad 0 0).toNat ++ beBytes 4 (s.readVal .recArch 0 0).toNat
    ++ beBytes 4 s.folioStatWord.toNat ++ beBytes 8 s.rcd.nextAcc ++ beBytes 8 s.rcd.oldest)

def execStatus (t : Telegram) (s : State) : Host.Outcome State Fault Refusal :=
  run s (fun s => s.recRequest t 0x0104 0 (fun s _ => s.statusReq t.src))

/-- The next DATA payload of an upload and the item after it: up to 40 records, or one signature. Nothing where none is left. -/
def State.uploadNext (s : State) (t : Stream) : List Byte × Nat :=
  if t.upKind = 2 then
    (s.memBytes (0x01B00000 + 1024 * t.upNext) 1024, t.upNext + 1)
  else
    let area := if t.upKind = 1 then 0 else 1
    let off := if t.upKind = 1 then 0 else 2048 * (t.upNext / 2048)
    let f := t.upNext / 2048
    let n0 := t.upNext - off
    let n := min 40 (t.upEnd + 1 - t.upNext)
    let q := s.readRun area f n n0 []
    if q.2.2 = [] then
      let skip := s.lookup area f n0
      if skip.status = 3 ∧ n0 < skip.next then ([], off + skip.next) else ([], t.upEnd + 1)
    else (q.2.2.flatten, off + q.1)

/-- An outbound stream sends its next message while fewer than 256 are unacknowledged; one that would need SEQ 0xFFFF_FFFF closes it (R491). -/
def State.streamSend (s : State) (k : Nat) : State :=
  match s.trdp.streams[k]? with
  | none => s
  | some t =>
    when_ (!t.inbound && t.upKind != 0 && decide (t.upNext ≤ t.upEnd ∧ t.unacked.length < 256)) (fun s =>
      if t.nextSeq = 0xFFFFFFFF then s.closeStream t 5
      else
        let p := s.uploadNext t
        if p.1 = [] then
          let t1 := { t with upNext := p.2 }
          if t.upEnd < p.2 ∧ t.unacked = [] then s.closeStream t1 1 else s.setStream t1
        else
          let t1 := { t with upNext := p.2, nextSeq := t.nextSeq + 1, unacked := t.unacked ++ [TxMsg.mk t.nextSeq p.1 s.lt 0] }
          ((s.setStream t1).mirror 8 (streamItem t1 true)).sendTelegram 30 t.ip (streamMsg t.num 2 0 t.nextSeq 0 0 p.1)) s

def execStreamSend (k : Fin 32) (s : State) : Host.Outcome State Fault Refusal := run s (fun s => s.streamSend k)

/-! ### Mirror frames and the standby's events (R524, R525, R574, R709) -/

/-- The items of a mirror frame, if they fill it exactly. -/
def mirrorItems : Nat → List Byte → Option (List (Nat × List Byte))
  | 0, b => if b = [] then some [] else none
  | k + 1, b =>
    if b = [] then some []
    else if b.length < 4 ∨ b.length < 4 + beAt b 2 2 then none
    else (mirrorItems k (b.drop (4 + beAt b 2 2))).map (fun l => (byteAt b 0, slice b 4 (beAt b 2 2)) :: l)

/-- A mirror frame whose CRC and lengths pass: its MSEQ and its items (R525, R709). -/
def mirrorParse (b : List Byte) : Option (Nat × List (Nat × List Byte)) :=
  let len := beAt b 2 2
  if b.length < 12 ∨ byteAt b 0 ≠ 2 ∨ len < 4 ∨ 256 < len ∨ b.length ≠ len + 12 ∨ beAt b (8 + len) 4 ≠ crc32c (b.take (8 + len)) then none
  else (mirrorItems 64 (slice b 8 len)).map (fun l => (beAt b 4 4, l))

/-- The acknowledgement frame of MSEQ `m` (R525). -/
def ackFrame (m : Nat) : List Byte := kazukFrame ([3, 0, 0, 0] ++ beBytes 4 m)

/-- Record an event of the mate as one's own, stamped on entry, after a gap for those the mate refused (R524, R574). -/
def State.mateEvent (s : State) (body : List Byte) : State :=
  let refused := beAt body 2 4
  let s1 := if refused = 0 then s else { s with rcd := intake s.rcd (gap4 s.tt s.quality.code refused true) }
  let e : EventRec := { code := beAt body 0 2, tt := s.tt, tq := s.quality.code, mate := true, body := body.drop 6 }
  let q := queueRecord (s.rb .recCfg 0 2) (ms (10 * s.rf .recCfg 0 15 8)) s.lt s1.rcd e
  if q.2 then State.count { s1 with rcd := q.1 } 272 else { s1 with rcd := q.1 }

/-- The active device takes a mirror frame of its standby. -/
def State.mateFrame (s : State) (b : List Byte) : State :=
  when_ (s.sys.twinRole != 0 && s.holder) (fun s => match mirrorParse b with
    | none => s.count 278
    | some (m, items) =>
      if m ≠ (s.twin.applied + 1) % 2 ^ 32 then s
      else
        let s1 := forEach (items.filter (fun i => i.1 == 11)) (fun s i => s.mateEvent i.2) s
        State.emit { s1 with twin := { s1.twin with applied := m } } (.mirror s1.mirrorLane (ackFrame m))) s

def execMateEvent (bytes : List Byte) (s : State) : Host.Outcome State Fault Refusal := run s (fun s => s.mateFrame bytes)

end Sys2Proof.Machine
end

