-- ==== Sys2Proof/Machine/Nvm.lean ====
section
/-!
DEFINITION. Sys2Proof/Machine/Nvm.lean: the NVM controller (R50 to R52, R631 to R633): discovery, reading, programming and erasing
the serial NOR flash.
-/
namespace Sys2Proof.Machine
open Sys2Proof

/-- A flash slot of 4 MiB (R50): 0 and 1 firmware A and B, 2 and 3 catalogue A and B. -/
def flashSlotSize : Nat := 0x400000
/-- Whether [a, a + n) touches flash slot `k`. -/
def touches (a n k : Nat) : Bool := decide (a < flashSlotSize * (k + 1) ∧ flashSlotSize * k < a + n)

/-- Whether R52 refuses to program or erase an address range: the running catalogue slot, or a slot under commit verification. -/
def State.nvmProtected (s : State) (a n : Nat) : Bool :=
  (s.cat.runSlot != 0 && touches a n (s.cat.runSlot + 1))
    || (match s.cat.commit with
        | some c => touches a n (2 + c.slot)
        | none => false)
    || (match s.sc.fwCommit with
        | some c => touches a n c.slot
        | none => false)

/-- Bytes a command covers: 256, 4 KiB or 64 KiB. -/
def nvmSize (cmd : Nat) : Nat := if cmd = 3 then 0x1000 else if cmd = 4 then 0x10000 else 256

/-- An NVM command ends with an error (R633). -/
def State.nvmFail (s : State) (err addr : Nat) : State :=
  State.raise { s with nvm := { s.nvm with busy := none, done := true, err := err } } 0x000A noInst (leBytes 4 addr)

/-- A write of NVM_CMD (R633): discarded while BUSY; refused for its address or under R52, in that order (log entry 22); otherwise the
operation starts. -/
def State.nvmCmd (s : State) (cmd : Nat) : State :=
  if s.nvm.busy.isSome then s
  else
    let a := (s.reg .nvmAddr).toNat
    let n := nvmSize cmd
    let s1 := { s with nvm := { s.nvm with done := false, err := 0 } }
    if a % n ≠ 0 ∨ s.nvm.cap * 0x200000 < a + n then s1.nvmFail 2 a
    else if cmd ≠ 1 ∧ s.nvmProtected a n then (s1.raise 0x1016 noInst (leBytes 4 a)).nvmFail 1 a
    else { s1 with nvm := { s1.nvm with busy := some (NvmOp.mk cmd a) } }

/-- The page buffer. -/
def State.nvmPage (s : State) : List Byte := (List.range 64).flatMap (fun i => leBytes 4 (s.reg .nvmBuf i).toNat)
/-- Put 256 bytes in the page buffer. -/
def State.setNvmPage (s : State) (b : List Byte) : State :=
  forEach (List.range 64) (fun s i => s.setReg .nvmBuf i 0 (BitVec.ofNat 32 (leAt b (4 * i) 4))) s

/-- A flash operation completes (R633). Programming clears bits and never sets one (log entry 63). Where the flash times out or does not
hold what was written, `held` is what it holds. -/
def State.nvmOpDone (s : State) (timeout bad : Bool) (held : List Byte) : State :=
  match s.nvm.busy with
  | none => s
  | some o =>
    let n := nvmSize o.cmd
    let ok (s : State) : State := { s with nvm := { s.nvm with busy := none, done := true, err := 0 } }
    if o.cmd = 1 then
      if timeout then s.nvmFail 3 o.addr else ok (s.setNvmPage (s.flashBytes o.addr 256))
    else if timeout then (s.setFlash o.addr (padTo n held)).nvmFail 3 o.addr
    else if o.cmd = 2 then
      let want := s.nvmPage
      let got := if bad then padTo n held else List.zipWith (fun x y => x &&& y) (s.flashBytes o.addr 256) want
      let s1 := s.setFlash o.addr got
      if got = want then ok s1 else s1.nvmFail 4 o.addr
    else ok (s.setFlash o.addr (List.replicate n 0xFF))

def execNvmOpDone (timeout bad : Bool) (held : List Byte) (s : State) : Host.Outcome State Fault Refusal :=
  run s (fun s => s.nvmOpDone timeout bad held)

/-- NOR_SCK in MHz (R631 and the timing of the flash interface): halved from 100 while fewer than three consecutive delay steps read
correctly, down to 25. `passes` are, for each speed tried, how many consecutive steps read correctly. -/
def norSck : Nat → List Nat → Nat
  | 100, p :: t => if 3 ≤ p then 100 else norSck 50 t
  | 50, p :: _ => if 3 ≤ p then 50 else 25
  | k, _ => k

end Sys2Proof.Machine
end

