-- ==== Sys2Proof/Machine/Reset.lean ====
section
/-!
DEFINITION. Sys2Proof/Machine/Reset.lean: resets (R622 to R626), and shelving up to the fall of PWR_EN (R664 to R668).
-/
namespace Sys2Proof.Machine
open Sys2Proof

/-! ### What a reset leaves (R626) -/

/-- A slot's start counter rises at a reset for LOCKSTEP, WATCHDOG, CLOCK or SOFTWARE after its image began and before OPERATIONAL (R635). -/
def State.startCounted (s : State) (reason : Nat) : Table Nat :=
  if s.sys.fwRunning ∧ !s.sys.operational ∧ 4 ≤ reason ∧ reason ≤ 7 then Table.modify 0 s.bk.starts s.sys.fwSlot (fun n => n + 1) else s.bk.starts

/-- The recorder's parts that lie in main MRAM and the seal macro. -/
def Recorder.kept (r : Recorder) : Recorder :=
  { archState := r.archState, archCnt := r.archCnt, folios := r.folios, circNext := r.circNext, circUsed := r.circUsed, sealSlots := r.sealSlots,
    sealMark := r.sealMark }

/-- What the security core keeps: OTP, and the state of the debug TAP. The wrapped keys lie in main MRAM. -/
def Sec.kept (x : Sec) : Sec :=
  { enrolled := x.enrolled, debugFuse := x.debugFuse, fwFloor := x.fwFloor, fwRevoked := x.fwRevoked, debugAttached := x.debugAttached }

/-- What the SYS block keeps: the lands, the reset reason in PD_AON, and the state of PWR_EN in PD_BKUP. Once PWR_EN is low, shelving
continues through a reset (R667). -/
def Sys.kept (x : Sys) : Sys :=
  { start := .inReset, reason := x.reason, resets := x.resets, notes := x.notes, nrstLow := x.nrstLow, supOk := x.supOk, clkFail := x.clkFail,
    pwrEnLow := x.pwrEnLow, pwrEnFell := x.pwrEnFell, coreFell := x.coreFell, wakeHeld := x.wakeHeld, shelving := x.shelving && x.pwrEnLow }

/-- The field side is not reset (R626): the tiles and load-switch dies keep their state, with no level commanded. -/
def State.fieldKept (s : State) : FieldIo :=
  { dies := s.fio.dies, mrst := [0, 1, 2, 3].foldl (fun t i => Table.set {} t i { offSince := s.lt }) [] }
def State.loadsKept (s : State) : Loads :=
  { sw := s.loads.sw.map (fun e => (e.1, { e.2 with target := false, cmd := false, onDue := none })), banks := s.loads.banks }

/-- The state a reset leaves, with the registers of the main die at their reset values (R626). The lands keep their levels. -/
def State.afterReset (s : State) : State :=
  { sys := s.sys.kept
    bk := s.bk
    cat := { rejectCnt := s.cat.rejectCnt }
    sc := s.sc.kept
    rcd := s.rcd.kept
    time := { lt := s.time.lt, ltBase := s.time.ltBase }
    ilk := { logCnt := s.ilk.logCnt }
    fio := s.fieldKept
    loads := s.loadsKept
    fb := s.fb.filterMap (fun e => if e.2.lineA || e.2.lineB then some (e.1, { lineA := e.2.lineA, lineB := e.2.lineB }) else none)
    twin := { lineLow := s.twin.mateLow, mateLow := s.twin.mateLow, highSince := if s.twin.mateLow then none else some s.lt }
    mem := s.mem.filter (fun e => decide (0x01000000 ≤ e.1))
    flash := s.flash
    free := s.free
    pending := s.pending }

/-- Leave reset when nothing holds the controller in it. -/
def State.tryRelease (s : State) : State :=
  if s.sys.start = .inReset ∧ !s.sys.nrstLow ∧ s.sys.supOk ∧ !s.sys.clkFail then
    { s with sys := { s.sys with start := .boot, startT0 := s.lt } }
  else s

/-- A reset with its reason (R624): it is noted for 0x0001 at the next start, POWER_ON alone loads the reset value of SYS_RESET_STAT (R695). -/
def State.systemReset (s : State) (reason : Nat) : State :=
  let bk := { s.bk with starts := s.startCounted reason }
  let note := ResetNote.mk reason s.bk.rtc
  let s1 := State.afterReset { s with bk := bk, sys := { s.sys with
    reason := reason
    resets := if reason = 1 then 0 else satInc 65535 s.sys.resets
    notes := s.sys.notes ++ [note] } }
  s1

/-- A reset that nothing prolongs: the start begins at once. -/
def State.resetNow (s : State) (reason : Nat) : State := (s.systemReset reason).tryRelease

/-- 0.80 V rises after `secs` seconds without it: the real-time clock has run on where PD_BKUP had a supply, and LT
starts (R22). -/
def State.powerOn (s : State) (secs : Nat) : State :=
  let s0 := { s with
    bk := { s.bk with rtc := if s.bk.powered then (s.bk.rtc + secs) % 2 ^ 48 else s.bk.rtc }
    sys := { s.sys with supOk := false, coreFell := none }
    time := { s.time with ltBase := s.time.lt } }
  s0.systemReset 1

def execPowerOn (secs : Nat) (s : State) : Host.Outcome State Fault Refusal := run s (fun s => s.powerOn secs)

/-- A logic supply stays below its threshold for 1 us: 0 is 0.80 V, 1 is 1.8 V, 2 is 3.3 V. -/
def State.brownOut (s : State) (supply : Nat) : State :=
  let s1 := s.pass (us 1)
  State.systemReset { s1 with sys := { s1.sys with supOk := false, coreFell := if supply = 0 then some s1.lt else s1.sys.coreFell } } 2

def execBrownOut (supply : Fin 3) (s : State) : Host.Outcome State Fault Refusal := run s (fun s => s.brownOut supply)

/-- All three supplies have been in range for 1 ms (R655). -/
def execSuppliesGood (s : State) : Host.Outcome State Fault Refusal :=
  run s (fun s => when_ (!s.sys.supOk) (fun s => State.tryRelease { s with sys := { s.sys with supOk := true, coreFell := none } }) s)

/-- NRST has been low for 1 us (R625). -/
def execNrstAssert (s : State) : Host.Outcome State Fault Refusal :=
  run s (fun s => State.systemReset { s.pass (us 1) with sys := { s.sys with nrstLow := true } } 3)

/-- 10 us after NRST has returned high the controller leaves reset. -/
def execNrstRelease (s : State) : Host.Outcome State Fault Refusal :=
  run s (fun s => when_ s.sys.nrstLow (fun s => State.tryRelease { s.pass (us 10) with sys := { s.sys with nrstLow := false } }) s)

/-- The clock monitor resets the controller (R622); it stays in reset until the PLL has locked again. -/
def execClockFail (s : State) : Host.Outcome State Fault Refusal :=
  run s (fun s => State.systemReset { s with sys := { s.sys with clkFail := true } } 4)

/-- The two cores differ, in the boot ROM or in the firmware. -/
def execLockstepMismatch (s : State) : Host.Outcome State Fault Refusal :=
  run s (fun s => when_ (s.sys.fwRunning || s.sys.start != .inReset) (fun s => s.resetNow 5) s)

/-- The system watchdog has not been retriggered for 50 ms. -/
def execWatchdogExpiry (s : State) : Host.Outcome State Fault Refusal :=
  run s (fun s => when_ s.sys.fwRunning (fun s => (s.passTo (s.sys.wdogLast + ms 50)).resetNow 6) s)

/-- A reset through the debug port, before its fuse is blown. -/
def execDebugReset (s : State) : Host.Outcome State Fault Refusal := run s (fun s => when_ (!s.sc.debugFuse) (fun s => s.resetNow 8) s)

/-! ### Shelving (R664 to R668) -/

/-- A wake that is present: the clock has reached SYS_SHELF_WAKE (R664, R668), or a WAKE_N wake is held. -/
def State.clockWake (s : State) : Bool := s.bk.shelfWake != 0 && s.bk.rtcValid && decide (s.bk.shelfWake ≤ s.bk.rtc)
def State.wakePresent (s : State) : Bool := s.clockWake || s.sys.wakeHeld != 0
/-- Whether every enabled portal is in a state that allows shelving. -/
def State.shelfPortals (s : State) : Bool :=
  s.enabledPortals.all (fun p => match (s.portal p).st with
    | .locked => true
    | .isolated => true
    | .fault => true
    | .unused => true
    | _ => false)

/-- Why SHELVE is refused (R665): the first condition that fails, 0 for none. -/
def State.shelveRefusal (s : State) : Nat :=
  if !s.shelfPortals then 1
  else if s.slotsInOrder != [] then 2
  else if s.rcd.hold then 3
  else if s.cat.commit.isSome || s.nvm.busy.isSome then 4
  else if s.wakePresent then 6
  else 0

/-- Shelving ends, or is refused, with a cause. -/
def State.shelveEnd (s : State) (cause : Nat) : State :=
  { s with sys := { s.sys with shelving := false, shelveRefused := true, refuseCause := cause } }

/-- CMD SHELVE (R665): in OPERATIONAL and in every maintenance-only state. -/
def State.shelve (s : State) : State :=
  when_ ((s.sys.start == .operational || s.sys.start.maintOnly) && !s.sys.shelving) (fun s =>
    let c := s.shelveRefusal
    if c ≠ 0 then { s with sys := { s.sys with shelveRefused := true, refuseCause := c } }
    else { s with sys := { s.sys with shelving := true, shelveRefused := false, refuseCause := 0 } }) s

/-- A wake that comes before PWR_EN falls ends shelving (R667); a portal that leaves its states has ended it (`State.leaveShelf`). -/
def State.judgeShelf (s : State) : State := if s.sys.shelving && !s.sys.pwrEnLow && s.wakePresent then s.shelveEnd 6 else s

/-- The recorder stores its intake, writes its mark and every parameter write completes; then PWR_EN falls (R666). -/
def State.shelveReady (s : State) : State :=
  let s1 := s.judgeShelf
  when_ (s1.sys.shelving && !s1.sys.pwrEnLow && s1.rcd.intake == [] && s1.rcd.storeQ == [] && s1.nvm.busy.isNone) (fun s =>
    { s with sys := { s.sys with pwrEnLow := true, pwrEnFell := s.lt }, bk := { s.bk with wakeSrc := 0 } }) s1

def execShelveReady (s : State) : Host.Outcome State Fault Refusal := run s State.shelveReady

/-- VDD_CORE has not fallen 1 s after PWR_EN (R667). -/
def execShelveTimeout (s : State) : Host.Outcome State Fault Refusal :=
  run s (fun s => when_ (s.sys.pwrEnLow && s.sys.shelving && s.sys.supOk) (fun s =>
    let s1 := s.passTo (s.sys.pwrEnFell + sec 1)
    State.shelveEnd { s1 with sys := { s1.sys with pwrEnLow := false } } 5) s)

/-- PWR_EN is released for a wake: not before 100 ms after VDD_CORE fell (R667, R668). -/
def State.wakeRelease (s : State) (src : Nat) : State :=
  if s.sys.pwrEnLow then match s.sys.coreFell with
    | some t => let s1 := s.passTo (t + ms 100)
                { s1 with sys := { s1.sys with pwrEnLow := false, wakeHeld := 0, shelving := false }, bk := { s1.bk with wakeSrc := src } }
    | none => { s with sys := { s.sys with wakeHeld := src } }
  else if s.sys.shelving then s.shelveEnd 6
  else s

/-- WAKE_N has been low for 10 ms. -/
def execWakeN (s : State) : Host.Outcome State Fault Refusal :=
  run s (fun s => when_ s.bk.powered (fun s => (s.pass (ms 10)).wakeRelease 1) s)

/-- The real-time clock reaches SYS_SHELF_WAKE. -/
def execClockWake (s : State) : Host.Outcome State Fault Refusal :=
  run s (fun s => when_ (s.bk.powered && s.bk.shelfWake != 0 && s.bk.rtcValid) (fun s =>
    State.wakeRelease { s with bk := { s.bk with rtc := max s.bk.rtc s.bk.shelfWake } } 2) s)

/-- VDDIO comes within range while PWR_EN is low (R668): with a wake that was held, PWR_EN has been released for that (R667); with none, it is
released at once. -/
def State.supplyReturn (s : State) : State :=
  when_ (s.sys.pwrEnLow && s.bk.powered) (fun s =>
    if s.sys.wakeHeld ≠ 0 then s.wakeRelease s.sys.wakeHeld
    else if s.clockWake then s
    else { s with sys := { s.sys with pwrEnLow := false, shelving := false }, bk := { s.bk with wakeSrc := 3 } }) s

def execSupplyReturn (s : State) : Host.Outcome State Fault Refusal := run s State.supplyReturn

/-! ### VBAT and the backup domain (R623, R663, R664) -/

/-- VBAT is measured, in mV: VBAT_LOW while it is below 2.2 V. -/
def execVbatMeasure (mv : Nat) (s : State) : Host.Outcome State Fault Refusal :=
  run s (fun s => { s with sys := { s.sys with vbatLow := decide (mv < 2200), supBat := min 255 (mv / 20) } })

/-- The crystal stops for more than 1 s: the clock's value no longer counts. -/
def execRtcCrystalStop (s : State) : Host.Outcome State Fault Refusal :=
  run s (fun s => when_ s.bk.powered (fun s => { s with bk := { s.bk with rtcValid := false } }) s)

/-- PD_BKUP powers up (R623, R635, R673). -/
def execBackupPowerUp (s : State) : Host.Outcome State Fault Refusal :=
  run s (fun s => when_ (!s.bk.powered) (fun s => { s with bk := { powered := true } }) s)

/-- PD_BKUP loses its supply: its contents are lost and PWR_EN is released (R664). -/
def execBackupPowerLoss (s : State) : Host.Outcome State Fault Refusal :=
  run s (fun s => { s with bk := { powered := false }, sys := { s.sys with pwrEnLow := false, wakeHeld := 0 } })

end Sys2Proof.Machine
end

