-- ==== Sys2Proof/Machine/Bus.lean ====
section
/-!
DEFINITION. Sys2Proof/Machine/Bus.lean: the internal bus (R31 to R42, R675 to R679): which address is decoded, what a write and a
read of every register does, discarded accesses, and one command for each register access that the manual gives a row.
-/
namespace Sys2Proof.Machine
open Sys2Proof

/-! ### Decoding (R661, R675) -/

/-- What an address names. -/
inductive Target where
  | undecoded | rom | ram | reserved
  | reg (r : RegId) (i j : Nat)
  deriving DecidableEq, Repr

/-- First and last address of each block's range (R675). -/
def blockRanges : List (Nat × Nat × Block) :=
  [(0x40000000, 0x4000FFFF, .sys), (0x40010000, 0x4001FFFF, .cat), (0x40020000, 0x4002FFFF, .sec), (0x40100000, 0x4010FFFF, .portal),
   (0x40120000, 0x4012FFFF, .obs), (0x40140000, 0x4014FFFF, .axis), (0x40160000, 0x40167FFF, .fb), (0x40170000, 0x40173FFF, .dlk),
   (0x40180000, 0x4018FFFF, .ilk), (0x40190000, 0x40197FFF, .fld), (0x401A0000, 0x401A1FFF, .lsw), (0x40200000, 0x4020FFFF, .time),
   (0x40210000, 0x4021FFFF, .net), (0x40220000, 0x4022FFFF, .trdp), (0x40230000, 0x4023FFFF, .stl), (0x40240000, 0x4024FFFF, .twin),
   (0x40250000, 0x4025FFFF, .recorder), (0x40260000, 0x4026FFFF, .cnt), (0x40270000, 0x4027FFFF, .nvm)]

/-- The switched domain of a block at an offset (R659), none for the always-on ones. -/
def blockDomain (b : Block) (off : Nat) : Option Nat := match b with
  | .sys => none
  | .ilk => none
  | .time => none
  | .cat => some 0
  | .portal => some 0
  | .cnt => some 0
  | .sec => some 1
  | .obs => some (if off / 0x400 < 32 then 2 else 3)
  | .axis => some (if off / 0x400 < 32 then 2 else 3)
  | .fb => some (if off / 0x200 < 32 then 2 else 3)
  | .dlk => some 5
  | .net => some 6
  | .trdp => some 6
  | .stl => some 6
  | .recorder => some 9
  | .twin => some 10
  | .nvm => some 11
  | .fld => some (12 + off / 0x2000)
  | .lsw => some (12 + off / 0x800)

/-- Whether a domain is on. -/
def State.domainOn (s : State) (d : Option Nat) : Bool := match d with
  | none => true
  | some b => s.domain b

/-- What an address names while the domains stand as they do. -/
def State.decode (s : State) (a : Nat) : Target :=
  if a < 0x40000 then .rom
  else if 0x100000 ≤ a ∧ a < 0x500000 then (if s.domain 0 then .ram else .undecoded)
  else if 0x01000000 ≤ a ∧ a < 0x02000000 then (if s.domain 9 then .ram else .undecoded)
  else match blockRanges.find? (fun r => decide (r.1 ≤ a ∧ a ≤ r.2.1)) with
    | none => .undecoded
    | some r =>
      if !s.domainOn (blockDomain r.2.2 (a - r.1)) then .undecoded
      else match findReg a with
        | some (x, i, j) => .reg x i j
        | none => .reserved

/-- Whether a master reaches the bus (R32, R33, R617, R680): from PLL lock on, the Interlock Logic for reading only, the debug port until
its fuse is blown. -/
def State.mayAccess (s : State) (m : Nat) (read : Bool) : Bool :=
  s.sys.pllLocked && s.sys.start != .inReset && (read || m != 1) && !(m == 5 && s.sc.debugFuse)

/-- A discarded access (R37, R677): counted, held in SYS_DISC_ADDR and SYS_DISC_INFO, recorded at the rate of R462. A ROM write has no
counter of its own (log entry 64). -/
def State.discard (s : State) (a cause m : Nat) (read : Bool) : State :=
  let s1 := if cause = 1 then s.count 280 else if cause = 2 then s.count 281 else if cause = 3 then s.count 282 else s
  let code := if cause = 1 then 0x0011 else if cause = 2 then 0x0012 else if cause = 3 then 0x0010 else 0x0013
  State.raiseRated { s1 with sys := { s1.sys with discAddr := a, discCause := cause, discRead := read, discMaster := m } } code noInst 0
    (leBytes 4 a ++ leBytes 1 m)

/-! ### The effect of a write that is accepted -/

/-- Next BIN of the observer tables' window (R180). -/
def State.tblNext (s : State) (n : Nat) : State := s.modOb n (fun o => { o with tblBin := (o.tblBin + 1) % 256 })

/-- CMD TRANSFER (R533): on a standby discarded; without an ELIGIBLE mate rejected; else it waits for a quiet moment. -/
def State.transferReq (s : State) : State × Bool :=
  if s.sys.twinRole = 0 ∨ !s.holder then (s, true)
  else match s.twin.beat with
    | some b => if !s.twin.silent ∧ fieldOf b.flags 2 2 = 1 then ({ s with twin := { s.twin with transfer := some (s.twin.transfer.getD s.lt) } }, true)
                else (s.raise 0xD00D noInst, false)
    | none => (s.raise 0xD00D noInst, false)

/-- REC_CMD (R580): its CMD and LW_CLEAR. -/
def State.recCmd (s : State) (v : Word) : State :=
  let s1 := if bitOf v 3 then s.lwClear else s
  let f := fld v 5 4
  match fld v 2 0 with
  | 1 => (s1.holdSet 1 false).1
  | 2 => s1.holdRelease
  | 3 => s1.captureCmd
  | 4 => s1.folioKeep f true
  | 5 => s1.folioKeep f false
  | 6 => (s1.archive 6).1
  | 7 => (s1.clearCirc 7).1
  | _ => s1

/-- REC_RW_CMD (R578). -/
def State.rwCmd (s : State) (v : Word) : State := match fld v 1 0 with
  | 1 => s.rwOpen (fld v 3 2) (fld v 5 4) (bitOf v 6)
  | 2 => s.rwStep
  | 3 => s.rwClose
  | _ => s

/-- CNT_CMD (R592). -/
def State.cntCmd (s : State) (v : Word) : State := match fld v 2 0 with
  | 1 => s.sweep
  | 2 => s.cntWrite
  | 3 => s.cntClearAll
  | _ => s.smpClear

/-- Writes to the motion blocks. -/
def State.effMotion (s : State) (r : RegId) (i j : Nat) (v : Word) : State := match r with
  | .obsCmd => if fld v 2 0 = 1 then s.commission i else s.inject i (fld v 15 8) (fld v 27 16)
  | .obsTblAddr => s.modOb i (fun o => { o with tblBin := fld v 7 0, tblSel := fld v 10 8 })
  | .obsTblData => (s.writeEntry i (signedOf 16 (fld v 15 0))).tblNext i
  | .axisCmd => if fld v 2 0 = 1 then s.afterInputs.stopAxis i (bitOf v 3) else s.clearChatter i
  | .axisSegCtrl => if bitOf v 0 then s.afterInputs.replacePush i else s.afterInputs.appendSeg i
  | .fbCfg => let old := s.rf .fbCfg i 1 0
              let s1 := s.setReg .fbCfg i 0 v
              if old = fld v 1 0 then s1 else s1.fbModeSet i
  | .fbCmpCfg => (s.setReg .fbCmpCfg i 0 v).cmpCfgWritten i v
  | .fbCmpPos => (s.setReg .fbCmpPos i 0 v).cmpPos i (sword v) true
  | .fbPset => s.fbPset i (sword v)
  | .fbEvt => s.modFbp i (fun f => { f with evIllegal := f.evIllegal && !bitOf v 0, evHeld := f.evHeld && !bitOf v 1,
                                            evDivLag := f.evDivLag && !bitOf v 2, evPrbOvr := f.evPrbOvr && !bitOf v 3 })
  | .fbDivout => (s.setReg .fbDivout i 0 v).divHere i
  | .dlkCfg => (s.setReg .dlkCfg i 0 v).dlCfgWritten i (s.linkEn i)
  | .dlkCmd => if bitOf v 0 then s.dlRestart i else s
  | _ => s.setReg r i j v

/-- Writes to the safety and field blocks and to TIME. -/
def State.effField (s : State) (r : RegId) (i j : Nat) (v : Word) : State := match r with
  | .ilkLogIdx => (s.setReg r 0 0 v).logLoad v.toNat
  | .ilkCmd => s.ilkClear
  | .fldCmd => let s1 := if bitOf v 0 then s.fldClrDiag i else s
               if bitOf v 1 then s1.startLink i else s1
  | .lswOut => (s.setReg r i j v).commandSwitches
  | .lswCmd => let s1 := if bitOf v 0 then s.lswClear i else s
               if bitOf v 1 then s1.lswClrDiag i else s1
  | .lswBcmd => if bitOf v 0 then s.startLink (8 + i) else s
  | .timeCmd => if fld v 2 0 = 1 then s.acceptJump else s.acceptPath
  | _ => s.effMotion r i j v

/-- Every accepted write. GO of SEC_CMD_CTRL is carried out by the security core (`State.busWrite`). -/
def State.effect (s : State) (r : RegId) (i j : Nat) (v : Word) : State := match r with
  | .stlCmd => s.stlCmd (fld v 5 0) (fld v 9 8)
  | .twinCmd => s.transferReq.1
  | .recCmd => s.recCmd v
  | .recRwCmd => s.rwCmd v
  | .recRwPosLo => (s.setReg r i j v).rwMoved
  | .recRwPosHi => (s.setReg r i j v).rwMoved
  | .cntCmd => s.cntCmd v
  | .cntSmpPos => (s.setReg r i j v).smpLoad (fld v 9 0)
  | .secCmdCtrl => s
  | .nvmCmd => s.nvmCmd (fld v 2 0)
  | .sysPwrCmd => s.shelve
  | .sysShelfWakeLo => { s with bk := { s.bk with shelfWake := s.bk.shelfWake / 2 ^ 32 * 2 ^ 32 + v.toNat } }
  | .sysShelfWakeHi => { s with bk := { s.bk with shelfWake := s.bk.shelfWake % 2 ^ 32 + fld v 15 0 * 2 ^ 32 } }
  | .sysCmd => if fld v 2 0 = 1 then s.resetNow 7 else { s with sys := { s.sys with wdogLast := s.lt } }
  | _ => s.effField r i j v

/-- Why a write to an address would be discarded (R677), 0 where it is not: 1 undecoded, 4 boot ROM, 3 RWL after the lock or a table that
is not written (R180), 2 a reserved encoding or offset. -/
def State.writeCause (s : State) (a : Nat) (v : Word) : Nat := match s.decode a with
  | .undecoded => 1
  | .rom => 4
  | .ram => 0
  | .reserved => 2
  | .reg r i j =>
    if (desc r).access = .ro then 0
    else if (desc r).access = .rwl ∧ s.locked then 3
    else if r = .obsTblData ∧ 2 ≤ (s.ob i).tblSel then 3
    else if !writeOk r i j v then 2
    else 0

/-- A word write (R20, R21, R35 to R42, R677); the answer says whether it was accepted. A write to an RO register changes nothing. -/
def State.writeWord (s : State) (a : Nat) (v : Word) (m : Nat) : State × Bool :=
  let c := s.writeCause a v
  if c ≠ 0 then
    let s1 := match s.decode a with
      | .reg .obsTblData i _ => s.tblNext i
      | _ => s
    (s1.discard a c m false, false)
  else match s.decode a with
    | .ram => (s.setMem a (leBytes 4 v.toNat), true)
    | .reg r i j => if (desc r).access = .ro then (s, true) else ((s.effect r i j v).paramWritten a (s.reg r i j), true)
    | _ => (s, true)

/-- The part of main MRAM (R551) at an offset from its start. -/
def State.mramRead (s : State) (a : Nat) : State := s.degrade 1 (mramPart (a - 0x01000000)) (a - 0x01000000) 0

/-- A word write that may find an uncorrectable error in the 64-bit MRAM word at `bad` (R676): it is read before it is written, degraded mode
is entered, but for the parameter store (R569), and the write is discarded. Log entry 72. -/
def State.writeChecked (s : State) (a : Nat) (v : Word) (m : Nat) (bad : Option Nat) : State × Bool :=
  if s.decode a = .ram ∧ 0x01000000 ≤ a ∧ bad = some (a / 8 * 8) then
    (if mramPart (a - 0x01000000) = 7 then s else s.mramRead a, false)
  else s.writeWord a v m

/-- What a register holds in the bytes that a narrower write leaves alone (R35): the present value of one that keeps what is written, and 0,
which commands and clears nothing, elsewhere. Log entry 6. -/
def State.heldWord (s : State) (a : Nat) : Nat := match s.decode a with
  | .reg r i j => if (desc r).access = .rw ∨ (desc r).access = .rwl then (s.readVal r i j).toNat else 0
  | _ => 0
/-- The word that a write of `k` bytes at an address writes to the register there. -/
def State.mergedWord (s : State) (a k v : Nat) : Word :=
  let w := s.heldWord (a / 4 * 4)
  let o := 8 * (a % 4)
  BitVec.ofNat 32 (w - fieldOf w (o + 8 * k - 1) o * 2 ^ o + v % 2 ^ (8 * k) * 2 ^ o)

/-! ### Reads -/

/-- Reading PORTAL[p]_CYC_LO (R134). -/
def State.cycRead (s : State) (p : Nat) : State :=
  s.modPortal p (fun q => { q with cycHiCap := q.cycles / 2 ^ 32, cycOvfCap := q.cycOvf, cycOvf := false })
/-- Reading FB[n]_POS (R248). -/
def State.fbPosRead (s : State) (n : Nat) : State :=
  s.modFbp n (fun f => { f with revSh := f.rev, shOvf := f.ovf, shRwrap := f.rwrap, shRevOvf := f.revOvf, ovf := false, rwrap := false, revOvf := false })
/-- Reading FB[n]_PRB_POS (R255). -/
def State.fbPrbRead (s : State) (n : Nat) : State := s.modFbp n (fun f => { f with prbValid := false })
/-- Reading SEC_CNT[k]_LO (R618). -/
def State.secCntRead (s : State) (k : Nat) : State :=
  { s with sc := { s.sc with cntHi := Table.set 0 s.sc.cntHi k (s.counterOf k / 2 ^ 32) } }

/-- What a read does besides answering (R584). -/
def State.readEffect (s : State) (r : RegId) (i : Nat) : State := match r with
  | .portalCycLo => s.cycRead i
  | .obsTblData => s.tblNext i
  | .fbPos => s.fbPosRead i
  | .fbPrbPos => s.fbPrbRead i
  | .timeTtLo => s.ttRead
  | .recNextLo => s.recNextRead
  | .recOldestLo => s.recOldestRead
  | .cntValLo => s.cntValRead
  | .cntSnapLo => s.cntSnapRead i
  | .cntSweepTtLo => s.cntSweepTtRead
  | .secCntLo => s.secCntRead i
  | _ => s

/-- A word read: the state after, the value, and whether the address was decoded. -/
def State.readWord (s : State) (a m : Nat) : State × Nat × Bool := match s.decode a with
  | .undecoded => (s.discard a 1 m true, 0, false)
  | .rom => (s, (Config.romWord (a / 4)).toNat, true)
  | .ram => (s, leAt (s.memBytes a 4) 0 4, true)
  | .reserved => (s, 0, true)
  | .reg r i j => (s.readEffect r i, (s.readVal r i j).toNat, true)

/-- A word read that may find an uncorrectable error in the 64-bit MRAM word at `bad` (R569): degraded mode is entered, but for the parameter
store; what is read then is a free value. -/
def State.readChecked (s : State) (a m : Nat) (bad : Option Nat) : State × Nat × Bool :=
  if s.decode a = .ram ∧ 0x01000000 ≤ a ∧ bad = some (a / 8 * 8) then
    let d := State.draw (if mramPart (a - 0x01000000) = 7 then s else s.mramRead a) 32
    (d.2, d.1, true)
  else s.readWord a m

/-- A read whose value goes to the master. -/
def State.busRead (s : State) (a m : Nat) : State :=
  when_ (s.mayAccess m true) (fun s => let r := s.readWord a m
                                       r.1.emit (.readWord a r.2.1)) s

/-- A write of a register's instance by a master. -/
def State.putReg (s : State) (m : Nat) (r : RegId) (i : Nat) (v : Word) : State :=
  when_ (s.mayAccess m false) (fun s => (s.writeWord (regAddr r i 0) v m).1) s
/-- A read of a register's instance by a master. -/
def State.getReg (s : State) (m : Nat) (r : RegId) (i : Nat) : State := s.busRead (regAddr r i 0) m

/-- An access to an address that no block decodes (R37). -/
def execUnmappedAccess (addr : Word) (read : Bool) (master : Fin 6) (s : State) : Host.Outcome State Fault Refusal :=
  run s (fun s => when_ (s.decode addr.toNat == .undecoded) (fun s =>
    if read then s.busRead addr.toNat master else when_ (s.mayAccess master false) (fun s => (s.writeWord addr.toNat 0 master).1) s) s)

/-! ### Register accesses that have a row -/

def execSysCmdReset (m : Fin 6) (s : State) : Host.Outcome State Fault Refusal := run s (fun s => s.putReg m .sysCmd 0 0x52E50001)
def execSysCmdWdog (m : Fin 6) (s : State) : Host.Outcome State Fault Refusal := run s (fun s => s.putReg m .sysCmd 0 2)
def execShelve (m : Fin 6) (s : State) : Host.Outcome State Fault Refusal := run s (fun s => s.putReg m .sysPwrCmd 0 1)
def execCommission (n : Fin 64) (m : Fin 6) (s : State) : Host.Outcome State Fault Refusal := run s (fun s => s.putReg m .obsCmd n 1)
/-- The CMD field of the value is INJECT, the rest as given. -/
def execInject (n : Fin 64) (value : Word) (m : Fin 6) (s : State) : Host.Outcome State Fault Refusal :=
  run s (fun s => s.putReg m .obsCmd n (setFld value 2 0 2))
/-- A write of the value, or a read where there is none. -/
def execObsTblDataAccess (n : Fin 64) (value : Option Word) (m : Fin 6) (s : State) : Host.Outcome State Fault Refusal :=
  run s (fun s => match value with
    | some v => s.putReg m .obsTblData n v
    | none => s.getReg m .obsTblData n)
def execSegAppend (n : Fin 64) (m : Fin 6) (s : State) : Host.Outcome State Fault Refusal := run s (fun s => s.putReg m .axisSegCtrl n 0)
def execSegReplace (n : Fin 64) (m : Fin 6) (s : State) : Host.Outcome State Fault Refusal := run s (fun s => s.putReg m .axisSegCtrl n 1)
/-- CMD STOP with its EMG bit. -/
def execAxisStop (n : Fin 64) (emg : Bool) (m : Fin 6) (s : State) : Host.Outcome State Fault Refusal :=
  run s (fun s => s.putReg m .axisCmd n (BitVec.ofNat 32 (1 + 8 * b2n emg)))
def execAxisClear (n : Fin 64) (m : Fin 6) (s : State) : Host.Outcome State Fault Refusal := run s (fun s => s.putReg m .axisCmd n 2)
def execFbCfgWrite (n : Fin 64) (value : Word) (m : Fin 6) (s : State) : Host.Outcome State Fault Refusal := run s (fun s => s.putReg m .fbCfg n value)
def execFbPset (n : Fin 64) (value : Word) (m : Fin 6) (s : State) : Host.Outcome State Fault Refusal := run s (fun s => s.putReg m .fbPset n value)
def execFbPosRead (n : Fin 64) (m : Fin 6) (s : State) : Host.Outcome State Fault Refusal := run s (fun s => s.getReg m .fbPos n)
def execFbPrbPosRead (n : Fin 64) (m : Fin 6) (s : State) : Host.Outcome State Fault Refusal := run s (fun s => s.getReg m .fbPrbPos n)
def execFbCmpPosWrite (n : Fin 64) (value : Word) (m : Fin 6) (s : State) : Host.Outcome State Fault Refusal := run s (fun s => s.putReg m .fbCmpPos n value)
def execFbCmpCfgWrite (n : Fin 64) (value : Word) (m : Fin 6) (s : State) : Host.Outcome State Fault Refusal := run s (fun s => s.putReg m .fbCmpCfg n value)
def execFbEvtClear (n : Fin 64) (value : Word) (m : Fin 6) (s : State) : Host.Outcome State Fault Refusal := run s (fun s => s.putReg m .fbEvt n value)
def execDlRestart (l : Fin 8) (m : Fin 6) (s : State) : Host.Outcome State Fault Refusal := run s (fun s => s.putReg m .dlkCmd l 1)
def execFldRestart (k : Fin 8) (m : Fin 6) (s : State) : Host.Outcome State Fault Refusal := run s (fun s => s.putReg m .fldCmd k 2)
def execFldClrDiag (k : Fin 8) (m : Fin 6) (s : State) : Host.Outcome State Fault Refusal := run s (fun s => s.putReg m .fldCmd k 1)
def execIlkClear (m : Fin 6) (s : State) : Host.Outcome State Fault Refusal := run s (fun s => s.putReg m .ilkCmd 0 1)
def execIlkLogLoad (value : Word) (m : Fin 6) (s : State) : Host.Outcome State Fault Refusal := run s (fun s => s.putReg m .ilkLogIdx 0 value)
def execLswClear (n : Fin 32) (m : Fin 6) (s : State) : Host.Outcome State Fault Refusal := run s (fun s => s.putReg m .lswCmd n 1)
def execLswClrDiag (n : Fin 32) (m : Fin 6) (s : State) : Host.Outcome State Fault Refusal := run s (fun s => s.putReg m .lswCmd n 2)
def execLswRestart (b : Fin 4) (m : Fin 6) (s : State) : Host.Outcome State Fault Refusal := run s (fun s => s.putReg m .lswBcmd b 1)
def execAcceptJump (m : Fin 6) (s : State) : Host.Outcome State Fault Refusal := run s (fun s => s.putReg m .timeCmd 0 1)
def execAcceptPath (m : Fin 6) (s : State) : Host.Outcome State Fault Refusal := run s (fun s => s.putReg m .timeCmd 0 2)
def execTimeTtRead (m : Fin 6) (s : State) : Host.Outcome State Fault Refusal := run s (fun s => s.getReg m .timeTtLo 0)
def execStlCmdOpen (c : Fin 64) (m : Fin 6) (s : State) : Host.Outcome State Fault Refusal :=
  run s (fun s => s.putReg m .stlCmd 0 (BitVec.ofNat 32 (0x100 + c)))
def execStlCmdClose (c : Fin 64) (m : Fin 6) (s : State) : Host.Outcome State Fault Refusal :=
  run s (fun s => s.putReg m .stlCmd 0 (BitVec.ofNat 32 (0x200 + c)))
def execTwinTransferCmd (m : Fin 6) (s : State) : Host.Outcome State Fault Refusal := run s (fun s => s.putReg m .twinCmd 0 1)
def execHoldSet (m : Fin 6) (s : State) : Host.Outcome State Fault Refusal := run s (fun s => s.putReg m .recCmd 0 1)
def execHoldRelease (m : Fin 6) (s : State) : Host.Outcome State Fault Refusal := run s (fun s => s.putReg m .recCmd 0 2)
def execCapture (m : Fin 6) (s : State) : Host.Outcome State Fault Refusal := run s (fun s => s.putReg m .recCmd 0 3)
def execKeep (f : Fin 4) (m : Fin 6) (s : State) : Host.Outcome State Fault Refusal := run s (fun s => s.putReg m .recCmd 0 (BitVec.ofNat 32 (4 + 16 * f)))
def execUnkeep (f : Fin 4) (m : Fin 6) (s : State) : Host.Outcome State Fault Refusal := run s (fun s => s.putReg m .recCmd 0 (BitVec.ofNat 32 (5 + 16 * f)))
def execRecArchiveCmd (m : Fin 6) (s : State) : Host.Outcome State Fault Refusal := run s (fun s => s.putReg m .recCmd 0 6)
def execRecClearCircCmd (m : Fin 6) (s : State) : Host.Outcome State Fault Refusal := run s (fun s => s.putReg m .recCmd 0 7)
def execLwClear (m : Fin 6) (s : State) : Host.Outcome State Fault Refusal := run s (fun s => s.putReg m .recCmd 0 8)
/-- AREA 0 to 2, FOLIO and HOLD of the OPEN. -/
def execRwOpen (area : Fin 3) (folio : Fin 4) (hold : Bool) (m : Fin 6) (s : State) : Host.Outcome State Fault Refusal :=
  run s (fun s => s.putReg m .recRwCmd 0 (BitVec.ofNat 32 (1 + 4 * area + 16 * folio + 64 * b2n hold)))
def execRwStep (m : Fin 6) (s : State) : Host.Outcome State Fault Refusal := run s (fun s => s.putReg m .recRwCmd 0 2)
def execRwClose (m : Fin 6) (s : State) : Host.Outcome State Fault Refusal := run s (fun s => s.putReg m .recRwCmd 0 3)
def execRecNextRead (m : Fin 6) (s : State) : Host.Outcome State Fault Refusal := run s (fun s => s.getReg m .recNextLo 0)
def execRecOldestRead (m : Fin 6) (s : State) : Host.Outcome State Fault Refusal := run s (fun s => s.getReg m .recOldestLo 0)
def execCntValRead (m : Fin 6) (s : State) : Host.Outcome State Fault Refusal := run s (fun s => s.getReg m .cntValLo 0)
def execCntSnapRead (i : Fin 320) (m : Fin 6) (s : State) : Host.Outcome State Fault Refusal := run s (fun s => s.getReg m .cntSnapLo i)
def execCntSweepTtRead (m : Fin 6) (s : State) : Host.Outcome State Fault Refusal := run s (fun s => s.getReg m .cntSweepTtLo 0)
def execSweep (m : Fin 6) (s : State) : Host.Outcome State Fault Refusal := run s (fun s => s.putReg m .cntCmd 0 1)
def execWrite (m : Fin 6) (s : State) : Host.Outcome State Fault Refusal := run s (fun s => s.putReg m .cntCmd 0 2)
def execClearAll (m : Fin 6) (s : State) : Host.Outcome State Fault Refusal := run s (fun s => s.putReg m .cntCmd 0 3)
def execSmpClear (m : Fin 6) (s : State) : Host.Outcome State Fault Refusal := run s (fun s => s.putReg m .cntCmd 0 4)
def execCntSmpPosWrite (value : Word) (m : Fin 6) (s : State) : Host.Outcome State Fault Refusal := run s (fun s => s.putReg m .cntSmpPos 0 value)
def execPortalCycLoRead (p : Fin 16) (m : Fin 6) (s : State) : Host.Outcome State Fault Refusal := run s (fun s => s.getReg m .portalCycLo p)
def execSecCntRead (k : Fin 16) (m : Fin 6) (s : State) : Host.Outcome State Fault Refusal := run s (fun s => s.getReg m .secCntLo k)
def execNvmRead (m : Fin 6) (s : State) : Host.Outcome State Fault Refusal := run s (fun s => s.putReg m .nvmCmd 0 1)
def execNvmProgram (m : Fin 6) (s : State) : Host.Outcome State Fault Refusal := run s (fun s => s.putReg m .nvmCmd 0 2)
def execErase4k (m : Fin 6) (s : State) : Host.Outcome State Fault Refusal := run s (fun s => s.putReg m .nvmCmd 0 3)
def execErase64k (m : Fin 6) (s : State) : Host.Outcome State Fault Refusal := run s (fun s => s.putReg m .nvmCmd 0 4)

/-! ### The first reference of a portal (R645) -/

/-- A portal takes T1 once every axis of it that is due has ended its start-up brake test; a standby's portals stay idle (R646). -/
def State.referenceStart (s : State) (p : Nat) : State :=
  when_ (s.operational && s.holder && (s.presentAxes p).all (fun n => !s.btDue n || s.ilk.btEnded.testBit n)) (fun s => s.t1 p) s

def execPortalReferenceStart (p : Fin 16) (s : State) : Host.Outcome State Fault Refusal := run s (fun s => s.referenceStart p)

end Sys2Proof.Machine
end

