-- ==== Sys2Proof/Machine/Security.lean ====
section
/-!
DEFINITION. Sys2Proof/Machine/Security.lean: the security core (R594 to R619): keys, verification and hand-over of critical commands,
maintenance sessions, the random generator, attestation, register requests, and the maintenance port (R680 to R690).
-/
namespace Sys2Proof.Machine
open Sys2Proof

/-! ### Wrapped command keys (R595) -/

/-- Where copy `c` of command key `k` stands in the parameter store. Log entry 65. -/
def wrapAddr (c k : Nat) : Nat := paramAddr c (0x80 + k)
/-- The data a copy is authenticated with: key index, PERM and generation. -/
def wrapAad (k perm gen : Nat) : List Byte := leBytes 1 k ++ leBytes 2 perm ++ leBytes 4 gen
/-- The device storage key. -/
def dskBytes : List Byte := (List.range 32).map Config.dsk

/-- Store a command key: three copies, each under an IV of its own. -/
def State.wrapKey (s : State) (k : Nat) (key : List Byte) (perm gen : Nat) : State :=
  forEach [0, 1, 2] (fun s c =>
    let r := s.random
    let iv := randomBytes 12 r.1
    let e := gcmEncrypt dskBytes iv (wrapAad k perm gen) key
    r.2.setMem (wrapAddr c k) (leBytes 4 gen ++ leBytes 2 perm ++ leBytes 1 k ++ [0xA5] ++ iv ++ e.1 ++ e.2)) s

/-- Erase the copies of a key. -/
def State.unwrapErase (s : State) (k : Nat) : State := forEach [0, 1, 2] (fun s c => s.setMem (wrapAddr c k) (List.replicate 84 0)) s

/-- A copy of key `k` as it stands: whether one was stored there, and the key where its tag passes. -/
def State.wrapCopy (s : State) (c k : Nat) : Bool × Option CmdKey :=
  let b := s.memBytes (wrapAddr c k) 84
  if byteAt b 7 ≠ 0xA5 ∨ byteAt b 6 ≠ k then (false, none)
  else
    let gen := leAt b 0 4
    let perm := leAt b 4 2
    match gcmDecrypt dskBytes (slice b 8 12) (wrapAad k perm gen) (slice b 20 48) (slice b 68 16) with
    | some key => (true, some { present := true, key := key, perm := perm, gen := gen })
    | none => (true, none)

/-- At start the newest copy whose tag passes is loaded; a key whose every copy fails is lost, and is recorded (R595). -/
def State.loadKey (s : State) (k : Nat) : State :=
  let cs := [0, 1, 2].map (fun c => s.wrapCopy c k)
  let best := (cs.filterMap (fun c => c.2)).foldl (fun (a : Option CmdKey) x => match a with
    | none => some x
    | some y => if y.gen < x.gen then some x else a) none
  match best with
  | some key => { s with sc := { s.sc with keys := Table.set {} s.sc.keys k key } }
  | none => if cs.any (fun c => c.1) then s.raise 0x2025 noInst (leBytes 1 k) else s

/-- Install a key at an index (R608): its counter stays. -/
def State.installKey (s : State) (k : Nat) (key : List Byte) (perm : Nat) : State :=
  let gen := (s.key k).gen + 1
  let s1 := s.wrapKey k key perm gen
  { s1 with sc := { s1.sc with keys := Table.set {} s1.sc.keys k { present := true, key := key, perm := perm, gen := gen } } }

/-! ### The fields of a critical command (R603, R604) -/

def cmdKeyOf (b : List Byte) : Nat := byteAt b 1 % 16
def cmdCode (b : List Byte) : Nat := beAt b 2 2
def cmdPlen (b : List Byte) : Nat := beAt b 4 2
def cmdCounter (b : List Byte) : Nat := beAt b 8 8
def cmdT (b : List Byte) : Nat := beAt b 16 8
def cmdParams (b : List Byte) : List Byte := slice b 40 (cmdPlen b)

/-- PLEN of a code, none for the variable one. -/
def codePlen : Nat → Option Nat
  | 0x0101 => some 4
  | 0x0102 => some 4
  | 0x0103 => some 4
  | 0x0201 => some 144
  | 0x0202 => some 52
  | 0x0301 => some 80
  | 0x0302 => some 4
  | 0x0303 => some 96
  | 0x0304 => some 4
  | 0x0401 => some 0
  | 0x0402 => some 0
  | 0x0601 => some 0
  | 0x0701 => some 4
  | 0x0F01 => some 172
  | _ => none
/-- Permission bit of a code (R604). -/
def codePerm : Nat → Nat
  | 0x0101 => 0
  | 0x0102 => 1
  | 0x0103 => 1
  | 0x0201 => 2
  | 0x0202 => 3
  | 0x0401 => 5
  | 0x0402 => 5
  | 0x0501 => 6
  | 0x0601 => 7
  | 0x0701 => 8
  | _ => 4
/-- Commands that a standby and a maintenance-only state accept (R611, R642). -/
def localCodes : List Nat := [0x0F01, 0x0301, 0x0302, 0x0303, 0x0201, 0x0202, 0x0304, 0x0701]

/-- PARAMS as R604 requires; `conn` tells the path. -/
def State.paramsOk (s : State) (conn : Option Nat) (code : Nat) (p : List Byte) : Bool := match code with
  | 0x0101 => decide (1 ≤ byteAt p 0 ∧ byteAt p 0 ≤ 8 ∧ byteAt p 1 ≤ 4) && (byteAt p 1 == 0 || beAt p 2 2 == 0)
  | 0x0102 => decide (byteAt p 0 ≤ 15) && allZero (slice p 1 3)
  | 0x0103 => decide (byteAt p 0 ≤ 15) && allZero (slice p 1 3)
  | 0x0201 => decide (byteAt p 0 ≤ 1 ∧ (byteAt p 1 = 0 ∨ 12 ≤ byteAt p 1 ∧ byteAt p 1 ≤ 64)) && allZero (slice p 2 2)
      && (byteAt p 1 != 0 || allZero (slice p 52 92))
  | 0x0202 => decide (byteAt p 0 ≤ 1) && allZero (slice p 1 3)
  | 0x0301 => decide (byteAt p 0 ≤ 15 ∧ beAt p 2 2 < 0x200) && byteAt p 1 == 0
  | 0x0302 => decide (1 ≤ byteAt p 0 ∧ byteAt p 0 ≤ 15) && allZero (slice p 1 3)
  | 0x0303 => onCurve (beAt p 0 48) (beAt p 48 48)
  | 0x0304 => p == ascii "BLOW"
  | 0x0501 => beAt p 0 4 % 4 == 0 && decide (1 ≤ beAt p 4 2 ∧ beAt p 4 2 ≤ 46 ∧ p.length = 8 + 4 * beAt p 4 2) && allZero (slice p 6 2)
  | 0x0701 => decide (1 ≤ beAt p 0 2 ∧ beAt p 0 2 ≤ 480) && byteAt p 3 == 0 && (match conn with
      | some _ => byteAt p 2 == 0xFF
      | none => decide (byteAt p 2 < 128) && s.partnerIp (byteAt p 2) != 0)
  | _ => true

/-- Step 2 of R605. -/
def State.formatOk (s : State) (conn : Option Nat) (b : List Byte) : Bool :=
  let code := cmdCode b
  byteAt b 0 == 1 && decide (byteAt b 1 < 16) && beAt b 6 2 == 0
    && (match codePlen code with
        | some n => cmdPlen b == n
        | none => code == 0x0501 && decide (cmdPlen b ≤ 192))
    && s.paramsOk conn code (cmdParams b) && (cmdT b == 0 || code == 0x0101)
    && (if code = 0x0F01 then cmdKeyOf b == 0 && cmdCounter b == 0 && conn.isNone
        else cmdCounter b != 0 && cmdCounter b != 0xFFFFFFFFFFFFFFFF)

/-- Step 7 (R609): the permission of the key, and the commands that need key 0. -/
def State.permitted (s : State) (b : List Byte) : Bool :=
  let k := cmdKeyOf b
  let code := cmdCode b
  let p := cmdParams b
  let perm := (s.key k).perm % 0x200
  k == 0 || (code != 0x0302 && code != 0x0303 && code != 0x0304 && perm.testBit (codePerm code)
    && (code != 0x0301 || (byteAt p 0 == k && beAt p 2 2 &&& perm == beAt p 2 2)))

/-- Whether the device takes a code in its present state (R611, R642). -/
def State.codeAllowed (s : State) (code : Nat) : Bool :=
  if s.sys.start = .noFirmware then code == 0x0F01 || code == 0x0202
  else if s.sys.start.maintOnly || s.standby then localCodes.contains code
  else true

/-- The checks of R605 in their order: the event of the first that fails. -/
def State.verifyCmd (s : State) (conn : Option Nat) (b : List Byte) : Option Nat :=
  let code := cmdCode b
  let key := s.key (cmdKeyOf b)
  let n := cmdPlen b
  if n = 0xFFFF ∨ b.length ≠ 56 + n then some 0x2002
  else if !s.formatOk conn b then some 0x2001
  else if code ≠ 0x0F01 ∧ !key.present then some 0x2003
  else if slice b 24 16 ≠ padTo 16 s.cat.vehicleId then some 0x2004
  else if code = 0x0F01 then (if (s.key 0).present ∨ !s.codeAllowed code then some 0x2007 else none)
  else if tag16 key.key (b.take (40 + n)) ≠ slice b (40 + n) 16 then some 0x2005
  else if cmdCounter b ≤ s.counterOf (cmdKeyOf b) then some 0x2006
  else if !s.permitted b ∨ !s.codeAllowed code then some 0x2007
  else none

/-! ### Outcomes (R496, R588, R605, R613) -/

/-- The connection's partner index for a sample, 0xFF for the maintenance port. -/
def State.cmdPartner (s : State) (conn : Option Nat) : Nat := match conn with
  | some c => (s.partnerOf (s.connIp c)).getD 0xFF
  | none => 0xFF

/-- A command's outcome is known: its sample, its latency where it took effect, and its result. The latency lies between what other
rules bound, and is a free value. -/
def State.cmdOutcome (s : State) (conn : Option Nat) (b : List Byte) (arrival : TimeNs) (tq result : Nat) : State :=
  let d := s.draw 32
  let s1 := if result = 0 then d.2.latencyBin d.1 else s
  let s2 := s1.sampleCmd (sampleEntry 1 tq (cmdCode b) (s.cmdPartner conn) (cmdKeyOf b) (conn.getD 0xFFFF) arrival (if result = 0 then d.1 else 0xFFFFFFFF)
    (cmdCounter b) result)
  match conn with
  | some c => s2.sendResult c (cmdCounter b) result []
  | none => { s2 with sc := { s2.sc with bufBusy := false, bufDone := true, bufResult := result } }

/-- Reject a command before it is accepted: its counter, its event at the rate of R462, its result. -/
def State.rejectCmd (s : State) (conn : Option Nat) (b : List Byte) (code : Nat) : State :=
  let s1 := s.count (if code = 0x2005 then 241 else if code = 0x2006 then 242 else 243)
  let s2 := s1.raiseRated code noInst 0 (if code = 0x2002 then leBytes 2 (cmdPlen b) else [])
  s2.cmdOutcome conn b s.tt s.quality.code code

/-! ### What each command does once accepted -/

/-- The portals of a target (R98, R11): none where a train-relative side is not known (R476). -/
def State.cmdTarget (s : State) (p : List Byte) : Option Nat :=
  let side (k : Nat) : Nat := (s.enabledPortals.filter (fun q => s.rf .portalCfg q 2 1 == k)).foldl (fun m q => m + 2 ^ q) 0
  match byteAt p 1 with
  | 0 => some (beAt p 2 2)
  | 1 => some (side 0)
  | 2 => some (side 1)
  | t => if !s.trdp.orientKnown then none else some (side (b2n ((t == 4) != s.trdp.orient)))

/-- ACTION (R97, R112). -/
def State.doAction (s : State) (conn : Option Nat) (b : List Byte) : State × Nat :=
  let p := cmdParams b
  match s.cmdTarget p with
  | none => (s.raise 0xC009 noInst, 0xC009)
  | some mask =>
    let r := s.takeAction (byteAt p 0) mask (cmdKeyOf b) (s.cmdPartner conn) (conn.getD 0xFF) (cmdT b)
    (r.2, if r.1 = 0 then 0 else if r.1 = 1 then 0x3003 else 0x3007)

/-- A commit is rejected (R81, R602): reason, then the event; a catalogue commit counts in CAT_REJECT_CNT. Reasons: log entry 66. -/
def State.commitReject (s : State) (fw : Bool) (reason : Nat) : State × Option Nat :=
  if fw then (s.raise 0x2018 noInst (leBytes 1 (Config.codeOf .commitReason reason).toNat), some 0x2018)
  else (State.raise { s with cat := { s.cat with rejectCnt := satInc 0xFFFFFFFE s.cat.rejectCnt, errEvent := 0x1011, errTag := 0, errOffset := 0 } }
    0x1011 noInst (leBytes 1 (Config.codeOf .commitReason reason).toNat), some 0x1011)

/-- DIGEST in the header of flash slot `k`. -/
def State.slotDigest (s : State) (k : Nat) : List Byte := s.flashBytes (flashSlotSize * k + 0x40) 48

/-- CAT_COMMIT (R81): its check begins, and its outcome is known when the check ends. -/
def State.doCatCommit (s : State) (conn : Option Nat) (b : List Byte) : State × Option Nat :=
  let p := cmdParams b
  let k := byteAt p 0
  if s.cat.runSlot = k + 1 then s.commitReject false 1
  else if slice p 4 48 ≠ s.slotDigest (2 + k) then s.commitReject false 2
  else if s.cat.commit.isSome then s.commitReject false 3
  else ({ s with cat := { s.cat with commit := some (Commit.mk k (slice p 4 48) b (conn.getD 0xFFFF)) } }, none)

/-- FW_COMMIT (R602). -/
def State.doFwCommit (s : State) (conn : Option Nat) (b : List Byte) : State × Option Nat :=
  let p := cmdParams b
  let k := byteAt p 0
  if s.sys.fwRunning ∧ s.sys.fwSlot = k + 1 then s.commitReject true 1
  else if slice p 4 48 ≠ s.slotDigest k then s.commitReject true 2
  else if s.sc.fwCommit.isSome then s.commitReject true 3
  else ({ s with sc := { s.sc with fwCommit := some (Commit.mk k (slice p 4 48) b (conn.getD 0xFFFF)) } }, none)

/-- KEY_INSTALL (R608). -/
def State.doKeyInstall (s : State) (b : List Byte) : State × Nat :=
  let p := cmdParams b
  let kek := (hmac384 (s.key (cmdKeyOf b)).key (ascii "SLF-KW" ++ beBytes 8 (cmdCounter b))).take 32
  match gcmDecrypt kek (slice p 4 12) (b.take 44) (slice p 16 48) (slice p 64 16) with
  | none => (s.raise 0x2025 noInst, 0x2025)
  | some key => ((s.installKey (byteAt p 0) key (beAt p 2 2)).raise 0x2020 noInst, 0)

/-- KEY_RETIRE (R609). -/
def State.doKeyRetire (s : State) (b : List Byte) : State × Nat :=
  let k := byteAt (cmdParams b) 0
  let s1 := s.unwrapErase k
  (State.raise { s1 with sc := { s1.sc with keys := Table.set {} s1.sc.keys k { gen := (s.key k).gen } } } 0x2021 noInst, 0)

/-- CAT_KEY_ENROL (R610): four slots in OTP. -/
def State.doEnrol (s : State) (b : List Byte) : State × Nat :=
  let p := cmdParams b
  let x := beAt p 0 48
  let y := beAt p 48 48
  if 4 ≤ s.sc.enrolled.length then (s.raise 0x2023 noInst, 0x2023)
  else (State.raise { s with sc := { s.sc with enrolled := s.sc.enrolled ++ [(x, y)] } } 0x2022 noInst (keyId x y), 0)

/-- DEBUG_FUSE (R617). -/
def State.doFuse (s : State) : State × Nat := (State.raise { s with sc := { s.sc with debugFuse := true } } 0x2028 noInst, 0)

/-- Why a word of a REG_WRITE fails (R688), 0 where it passes. -/
def State.regWriteReason (s : State) (a : Nat) (v : Word) : Nat := match s.decode a with
  | .undecoded => 1
  | .rom => 2
  | .ram => 0
  | .reserved => if 0x40020000 ≤ a ∧ a < 0x40030000 then 2 else 3
  | .reg r i j =>
    if 0x40020000 ≤ a ∧ a < 0x40030000 then 2
    else if (desc r).access = .ro then 3
    else if (desc r).access = .rwl ∧ s.locked then 4
    else if !writeOk r i j v then 5
    else 0

/-- REG_WRITE (R688, R689): every word, or none. -/
def State.doRegWrite (s : State) (b : List Byte) : State × Nat :=
  let p := cmdParams b
  let a := beAt p 0 4
  let n := beAt p 4 2
  let val (i : Nat) : Word := BitVec.ofNat 32 (beAt p (8 + 4 * i) 4)
  match (List.range n).find? (fun i => s.regWriteReason (a + 4 * i) (val i) != 0) with
  | some i => (s.raise 0x0015 noInst (leBytes 1 (s.regWriteReason (a + 4 * i) (val i)) ++ leBytes 1 i ++ leBytes 4 (a + 4 * i)), 0x0015)
  | none => (forEach (List.range n) (fun s i => (s.writeWord (a + 4 * i) (val i) 0).1) s, 0)

/-- Whether an address has an authenticated maintenance session (R614). -/
def State.hasSession (s : State) (ip : Nat) : Bool := s.openSessions.any (fun q => q.ip == ip)

/-- Sessions whose time has passed end. -/
def State.endExpired (s : State) : State := forEach (s.sc.sessions.filter (fun q => decide (q.until_ ≤ s.lt))) (fun s q => s.endSessions q.ip) s

/-- MAINT_SESSION (R614): at most four are open; a source that has a session renews it. -/
def State.doSession (s₀ : State) (conn : Option Nat) (b : List Byte) : State × Nat :=
  let p := cmdParams b
  let ip := match conn with
    | some c => s₀.connIp c
    | none => s₀.partnerIp (byteAt p 2)
  let s := if 4 ≤ (s₀.sc.sessions.filter (fun q => q.ip != ip)).length then s₀.endExpired else s₀
  let rest := s.sc.sessions.filter (fun q => q.ip != ip)
  if 4 ≤ rest.length then (s.raiseRated 0x2008 noInst 0, 0x2008)
  else (State.raise { s with sc := { s.sc with sessions := rest ++ [Session.mk ip (s.lt + sec (60 * beAt p 0 2))] } } 0x2038 noInst, 0)

/-- PROVISION (R607): the answer tells whether key 0 was installed. -/
def State.doProvision (s : State) (b : List Byte) : State × Bool :=
  let p := cmdParams b
  let x := beAt p 0 48
  let y := beAt p 48 48
  let kek := (hmac384 (ecdhX Config.identityPriv x y) (ascii "SLF-PROV" ++ slice p 0 96)).take 32
  match (if onCurve x y then gcmDecrypt kek (slice p 96 12) (b.take 40) (slice p 108 48) (slice p 156 16) else none) with
  | none => (s, false)
  | some key =>
    let s1 := s.installKey 0 key 0
    let s2 := { s1 with sc := { s1.sc with counters := Table.set 0 s1.sc.counters 0 0 } }
    ((s2.saveNum 0x10 0).raise 0x2024 noInst, true)

/-- Hand an accepted command to its block: the code of the outcome, none where it is not known yet. -/
def State.handover (s : State) (conn : Option Nat) (b : List Byte) : State × Option Nat :=
  let p := cmdParams b
  let done (r : State × Nat) : State × Option Nat := (r.1, some r.2)
  let flag (r : State × Bool) (code : Nat) : State × Option Nat := (r.1, some (if r.2 then 0 else code))
  match cmdCode b with
  | 0x0101 => done (s.doAction conn b)
  | 0x0102 => flag (s.isolate (byteAt p 0)) 0x3008
  | 0x0103 => flag (s.restore (byteAt p 0)) 0x3008
  | 0x0201 => s.doCatCommit conn b
  | 0x0202 => s.doFwCommit conn b
  | 0x0301 => done (s.doKeyInstall b)
  | 0x0302 => done (s.doKeyRetire b)
  | 0x0303 => done (s.doEnrol b)
  | 0x0304 => done s.doFuse
  | 0x0401 => flag (s.archive 0x0401) 0xE00D
  | 0x0402 => flag (s.clearCirc 0x0402) 0xE00D
  | 0x0501 => done (s.doRegWrite b)
  | 0x0601 => flag s.transferReq 0xD00D
  | 0x0701 => done (s.doSession conn b)
  | _ => (s, some 0)

/-- Steps 4 and 5 of R606: 0x200A, then the hand-over. -/
def State.takeEffect (s : State) (conn : Option Nat) (b : List Byte) (arrival : TimeNs) (tq : Nat) : State :=
  let s1 := (s.count 240).raise 0x200A noInst (leBytes 2 (cmdCode b) ++ leBytes 1 (cmdKeyOf b) ++ leBytes 4 (cmdCounter b))
  let r := s1.handover conn b
  match r.2 with
  | some code => r.1.cmdOutcome conn b arrival tq code
  | none => r.1

/-- A command that has passed step 7 (R606): its counter is stored and mirrored before it takes effect. `storeOk` is the read-back of
the three copies. -/
def State.acceptCmd (s : State) (conn : Option Nat) (b : List Byte) (storeOk : Bool) : State :=
  if cmdCode b = 0x0F01 then
    let r := s.doProvision b
    if r.2 then (r.1.count 240).cmdOutcome conn b s.tt s.quality.code 0 else s.rejectCmd conn b 0x2025
  else
    let k := cmdKeyOf b
    let n := cmdCounter b
    let s1 := { s with sc := { s.sc with counters := Table.set 0 s.sc.counters k n } }
    if !storeOk then s1.rejectCmd conn b 0x2009
    else
      let arrival := s.tt
      let tq := s.quality.code
      (s1.saveNum (0x10 + k) n).mirrorHold 3 (beBytes 1 k ++ beBytes 8 n) (.command b (conn.getD 0xFFFF) arrival tq)
        (fun s => s.takeEffect conn b arrival tq)

/-- A critical command arrives (R605): at most eight are in the queue, each for at most 25 us, the time this model lets each take (log
entry 67). While a release of OWN_N is announced none is accepted and none gets a result (R522, R531); while the device is being shelved
each is rejected with 0x2008 (R666). -/
def State.secCommand (s : State) (conn : Option Nat) (b : List Byte) (storeOk : Bool) : State :=
  if s.twin.releasing.isSome then
    (if conn.isNone then { s with sc := { s.sc with bufBusy := false, bufDone := true, bufResult := 0x2007 } } else s)
  else if s.sys.shelving || decide (8 ≤ s.queued) then s.rejectCmd conn b 0x2008
  else
    let q := s.sc.verifying.filter (fun t => decide (s.lt < t))
    let s1 := { s with sc := { s.sc with verifying := q ++ [max s.lt (q.getLast?.getD s.lt) + us 25] } }
    match s1.verifyCmd conn b with
    | some code => s1.rejectCmd conn b code
    | none => s1.acceptCmd conn b storeOk

/-! ### The command buffer (R613) -/

/-- The bytes of SEC_CMD_BUF. -/
def State.cmdBuffer (s : State) : List Byte := (List.range 64).flatMap (fun i => leBytes 4 (s.reg .secCmdBuf i).toNat)

/-- GO: the core copies the buffer; while BUSY it is discarded. -/
def State.goBuffer (s : State) (len : Nat) (storeOk : Bool) : State :=
  if s.sc.bufBusy then s
  else State.secCommand { s with sc := { s.sc with bufBusy := true, bufDone := false, bufResult := 0 } } none (s.cmdBuffer.take len) storeOk

/-- A word write by a master, with GO; `bad` is an MRAM word with an uncorrectable error (R676). -/
def State.busWrite (s : State) (a : Nat) (v : Word) (m : Nat) (bad : Option Nat := none) : State × Bool :=
  let r := s.writeChecked a v m bad
  if r.2 ∧ a = regAddr .secCmdCtrl 0 0 ∧ bitOf v 0 then (r.1.goBuffer (fld v 16 8) true, true) else r

/-- A write of `k` bytes to an aligned address (R35): SRAM and MRAM take the bytes in one access, a register the word that they make with
its other bytes, and 8 bytes two registers, one after the other. -/
def State.accessWrite (s : State) (a k v m : Nat) (bad : Option Nat) : State :=
  if s.decode a = .ram then
    if k < 8 then (if bad = some (a / 8 * 8) ∧ 0x01000000 ≤ a then (s.writeChecked (a / 4 * 4) 0 m bad).1 else s.setMem a (leBytes k v))
    else s.setMem a (leBytes 8 v)
  else if k = 8 then
    let r := s.busWrite a (BitVec.ofNat 32 v) m
    (r.1.busWrite (a + 4) (BitVec.ofNat 32 (v / 2 ^ 32)) m).1
  else (s.busWrite (a / 4 * 4) (s.mergedWord a k v) m).1

/-- A write to a register that has no row of its own, or to a memory (R35, R42): 2^`size` bytes; `ecc` says whether a write of less than 64
bits to main MRAM finds an uncorrectable error in its word (R676). -/
def execRegisterWrite (addr : Word) (size : Fin 4) (value : BitVec 64) (ecc : Bool) (master : Fin 6) (s : State) :
    Host.Outcome State Fault Refusal :=
  run s (fun s => when_ (s.mayAccess master false && addr.toNat % 2 ^ size.val == 0) (fun s =>
    s.accessWrite addr.toNat (2 ^ size.val) value.toNat master (if ecc then some (addr.toNat / 8 * 8) else none)) s)

/-- A critical command with its path: a connection that may carry one, or the maintenance port, which puts it in SEC_CMD_BUF and sets GO.
It acts where its code is `code`. -/
def State.cmdRow (s : State) (code : Nat) (conn : Option (Fin 64)) (b : List Byte) (storeOk : Bool) : State :=
  when_ (cmdCode b == code && s.domain 1) (fun s => match conn with
    | some c => when_ (s.connEn c && !s.standby && ((s.conn c).st == .open_ || (s.conn c).st == .rekeying)) (fun s => s.secCommand (some c) b storeOk) s
    | none => when_ (s.mayAccess 4 false && decide (56 ≤ b.length ∧ b.length ≤ 248)) (fun s =>
        let s1 := forEach (List.range 64) (fun s i =>
          if 4 * i < b.length then s.setReg .secCmdBuf i 0 (BitVec.ofNat 32 (leAt b (4 * i) 4)) else s) s
        s1.goBuffer b.length storeOk) s) s

def execAction (conn : Option (Fin 64)) (bytes : List Byte) (storeOk : Bool) (s : State) : Host.Outcome State Fault Refusal :=
  run s (fun s => s.cmdRow 0x0101 conn bytes storeOk)
def execIsolate (conn : Option (Fin 64)) (bytes : List Byte) (storeOk : Bool) (s : State) : Host.Outcome State Fault Refusal :=
  run s (fun s => s.cmdRow 0x0102 conn bytes storeOk)
def execRestore (conn : Option (Fin 64)) (bytes : List Byte) (storeOk : Bool) (s : State) : Host.Outcome State Fault Refusal :=
  run s (fun s => s.cmdRow 0x0103 conn bytes storeOk)
def execCatCommit (conn : Option (Fin 64)) (bytes : List Byte) (storeOk : Bool) (s : State) : Host.Outcome State Fault Refusal :=
  run s (fun s => s.cmdRow 0x0201 conn bytes storeOk)
def execFwCommit (conn : Option (Fin 64)) (bytes : List Byte) (storeOk : Bool) (s : State) : Host.Outcome State Fault Refusal :=
  run s (fun s => s.cmdRow 0x0202 conn bytes storeOk)
def execKeyInstall (conn : Option (Fin 64)) (bytes : List Byte) (storeOk : Bool) (s : State) : Host.Outcome State Fault Refusal :=
  run s (fun s => s.cmdRow 0x0301 conn bytes storeOk)
def execKeyRetire (conn : Option (Fin 64)) (bytes : List Byte) (storeOk : Bool) (s : State) : Host.Outcome State Fault Refusal :=
  run s (fun s => s.cmdRow 0x0302 conn bytes storeOk)
def execCatKeyEnrol (conn : Option (Fin 64)) (bytes : List Byte) (storeOk : Bool) (s : State) : Host.Outcome State Fault Refusal :=
  run s (fun s => s.cmdRow 0x0303 conn bytes storeOk)
def execDebugFuse (conn : Option (Fin 64)) (bytes : List Byte) (storeOk : Bool) (s : State) : Host.Outcome State Fault Refusal :=
  run s (fun s => s.cmdRow 0x0304 conn bytes storeOk)
def execArchive (conn : Option (Fin 64)) (bytes : List Byte) (storeOk : Bool) (s : State) : Host.Outcome State Fault Refusal :=
  run s (fun s => s.cmdRow 0x0401 conn bytes storeOk)
def execClearCirc (conn : Option (Fin 64)) (bytes : List Byte) (storeOk : Bool) (s : State) : Host.Outcome State Fault Refusal :=
  run s (fun s => s.cmdRow 0x0402 conn bytes storeOk)
def execRegWrite (conn : Option (Fin 64)) (bytes : List Byte) (storeOk : Bool) (s : State) : Host.Outcome State Fault Refusal :=
  run s (fun s => s.cmdRow 0x0501 conn bytes storeOk)
def execTwinTransfer (conn : Option (Fin 64)) (bytes : List Byte) (storeOk : Bool) (s : State) : Host.Outcome State Fault Refusal :=
  run s (fun s => s.cmdRow 0x0601 conn bytes storeOk)
def execMaintSession (conn : Option (Fin 64)) (bytes : List Byte) (storeOk : Bool) (s : State) : Host.Outcome State Fault Refusal :=
  run s (fun s => s.cmdRow 0x0701 conn bytes storeOk)
def execProvision (conn : Option (Fin 64)) (bytes : List Byte) (storeOk : Bool) (s : State) : Host.Outcome State Fault Refusal :=
  run s (fun s => s.cmdRow 0x0F01 conn bytes storeOk)

/-! ### STL DATA (R496, R503, R588) -/

/-- A DATA message that passes step 1 of R498, for its sample. -/
def State.dataMessage (s : State) (t : Telegram) : Option StlMsg := match (s.trdpRx t).2 with
  | some (off, d) =>
    if off = 10 ∨ off = 11 then match stlParse d with
      | .ok m => if m.type = 3 then some m else none
      | .error _ => none
    else none
  | none => none

/-- An accepted DATA message delivers its records in order: commands go to the security core; results and status of the partner end here. -/
def State.stlData (s : State) (t : Telegram) (storeOk : Bool) : State :=
  let r := s.stlCheck t 3
  let d := r.1.draw 32
  let s1 := match s.dataMessage t with
    | none => r.1
    | some m =>
      let c := s.connOf t.src m
      let key := match c with
        | some c => s.rf .stlCfg c 5 2
        | none => 0
      d.2.sampleStl (sampleEntry 2 s.quality.code 3 ((s.partnerOf t.src).getD 0xFF) key (c.getD 0xFFFF) s.tt (if r.2.isSome then d.1 else 0xFFFFFFFF)
        m.seq (if r.2.isSome then 0 else 0xC015))
  match r.2 with
  | none => s1
  | some (c, m) => match stlRecords 257 m.payload with
    | .ok l => forEach (l.filter (fun e => e.1 == 1)) (fun s e => s.secCommand (some c) e.2 storeOk) s1
    | .error _ => s1

def execStlData (t : Telegram) (storeOk : Bool) (s : State) : Host.Outcome State Fault Refusal := run s (fun s => s.stlData t storeOk)

/-! ### Maintenance sessions (R614) -/

/-- Session `k` ends with its time. -/
def State.sessionEnd (s : State) (k : Nat) : State :=
  match s.sc.sessions[k]? with
  | none => s
  | some q => (s.passTo q.until_).endSessions q.ip

def execMaintSessionEnd (k : Fin 4) (s : State) : Host.Outcome State Fault Refusal := run s (fun s => s.sessionEnd k)

/-! ### The random generator (R597, R598) -/

/-- The longest run of identical bits, from a run of `n` bits `last` that stands before them, and the run at the end. -/
def bitRuns : List Bool → Bool → Nat → Nat → Nat × Nat
  | [], _, n, best => (best, n)
  | b :: t, last, n, best => if b = last then bitRuns t last (n + 1) (max best (n + 1)) else bitRuns t b 1 (max best 1)

/-- The next 1,024 raw bits. -/
def State.rawBlock (s : State) : List Bool × State := ((List.range 1024).map (Config.noiseBit s.free), { s with free := s.free + 1 })

/-- Draw a block and test it: the state with its run noted, whether it passes, and its hash. -/
def State.testBlock (s : State) : State × Bool × List Byte :=
  let r := s.rawBlock
  let q := bitRuns r.1 s.sc.rngLast s.sc.rngRun 0
  let ones := (r.1.filter id).length
  let bytes := (List.range 128).map (fun i => BitVec.ofNat 8 (((r.1.drop (8 * i)).take 8).foldl (fun a b => 2 * a + b2n b) 0))
  ({ r.2 with sc := { r.2.sc with rngRun := q.2, rngLast := (r.1.getLast?).getD false } }, decide (q.1 < 48 ∧ 410 ≤ ones ∧ ones ≤ 614), sha384 bytes)

/-- A failing block is discarded (R597). -/
def State.rngFailed (s : State) : State := State.raise { s with sc := { s.sc with rngFail := true } } 0x2030 noInst

/-- A block of the generator: the first four are tested before any output is delivered. -/
def State.rngBlock (s : State) : State :=
  when_ (!s.sc.rngFail && s.domain 1) (fun s =>
    let r := s.testBlock
    if !r.2.1 then r.1.rngFailed
    else if r.1.sc.rngOk then { r.1 with sc := { r.1.sc with rngOut := BitVec.ofNat 384 (beNat r.2.2) } }
    else { r.1 with sc := { r.1.sc with rngTested := r.1.sc.rngTested + 1, rngOk := decide (4 ≤ r.1.sc.rngTested + 1) } }) s

def execRngBlock (s : State) : Host.Outcome State Fault Refusal := run s State.rngBlock

/-- Up to `n` blocks that must all pass. -/
def retestGo : Nat → State → State × Bool
  | 0, s => (s, true)
  | n + 1, s =>
    let r := s.testBlock
    if r.2.1 then retestGo n r.1 else (r.1, false)

/-- The retest of each second while RNG_FAIL is set: 8 consecutive blocks pass, or one fails (log entry 12). -/
def State.rngRetest (s : State) : State :=
  when_ (s.sc.rngFail && s.domain 1) (fun s =>
    let r := retestGo 8 s
    if r.2 then State.raise { r.1 with sc := { r.1.sc with rngFail := false, rngOk := true } } 0x2031 noInst else r.1.rngFailed) s

def execRngRetest (s : State) : Host.Outcome State Fault Refusal := run s State.rngRetest

/-! ### The debug port (R617) -/

/-- The TAP leaves Test-Logic-Reset. -/
def execDebugAttach (s : State) : Host.Outcome State Fault Refusal :=
  run s (fun s => when_ (!s.sc.debugAttached) (fun s => State.raise { s with sc := { s.sc with debugAttached := true } } 0x2029 noInst) s)
/-- The TAP returns to Test-Logic-Reset. -/
def execDebugDetach (s : State) : Host.Outcome State Fault Refusal :=
  run s (fun s => { s with sc := { s.sc with debugAttached := false } })

/-! ### Attestation and identity (R615, R616) -/

/-- ATTEST. -/
def State.attest (s : State) (t : Telegram) : State :=
  let r := s.serviceRx t 0x0301
  match r.2 with
  | none => r.1
  | some b =>
    if b.length ≠ 32 then r.1.serviceReply t.src 0x0301 0x2002 []
    else if r.1.sc.attest.isSome then (r.1.raiseRated 0x2008 noInst 0).serviceReply t.src 0x0301 0x2008 []
    else if r.1.sc.rngFail then r.1.serviceReply t.src 0x0301 0x2030 []
    else { r.1 with sc := { r.1.sc with attest := some (Attest.mk t.src b) } }

def execAttest (t : Telegram) (s : State) : Host.Outcome State Fault Refusal := run s (fun s => s.attest t)

/-- Bytes 0 to 167 of the report. -/
def State.report (s : State) (nonce : List Byte) : List Byte :=
  ascii "SLFA" ++ beBytes 2 1 ++ [0, 0] ++ beBytes 8 s.tt ++ nonce ++ padTo 48 s.sys.fwDigest ++ padTo 48 s.cat.digest ++ beBytes 4 s.sys.fwVersion
    ++ beBytes 4 s.sc.fwFloor ++ beBytes 4 s.cat.version ++ beBytes 4 s.cat.floor ++ beBytes 4 s.secOtpWord.toNat ++ beBytes 2 s.keyBits
    ++ beBytes 1 (b2n s.operational + 2 * b2n s.cat.conflict + 4 * s.sys.twinRole + 16 * b2n (s.sys.twinRole != 0 && s.holder) + 32 * s.quality.code) ++ [0]

/-- The report is signed with a fresh k, and the reply leaves. -/
def State.attestDone (s : State) : State :=
  match s.sc.attest with
  | none => s
  | some a =>
    let s1 := { s with sc := { s.sc with attest := none } }
    if s.sc.rngFail then s1.serviceReply a.ip 0x0301 0x2030 []
    else
      let m := s1.report a.nonce
      let r := s1.random
      r.2.serviceReply a.ip 0x0301 0 (m ++ ecdsaSign Config.identityPriv (1 + r.1.toNat % (bpN - 1)) (sha384 m))

def execAttestDone (s : State) : Host.Outcome State Fault Refusal := run s State.attestDone

/-- IDENTITY. -/
def State.identity (s : State) (t : Telegram) : State :=
  let r := s.serviceRx t 0x0302
  match r.2 with
  | none => r.1
  | some b =>
    if b ≠ [] then r.1.serviceReply t.src 0x0302 0x2002 []
    else r.1.serviceReply t.src 0x0302 0 (beBytes 48 Config.identityPubX ++ beBytes 48 Config.identityPubY)

def execIdentity (t : Telegram) (s : State) : Host.Outcome State Fault Refusal := run s (fun s => s.identity t)

/-! ### Registers, counters and samples over the network (R590, R591, R690) -/

/-- Read `n` words in rising address order, as a master; `bad` is an MRAM word with an uncorrectable error (R569). -/
def readWords (m : Nat) (bad : Option Nat) : Nat → Nat → State → State × List Nat × Bool
  | 0, _, s => (s, [], true)
  | n + 1, a, s =>
    let r := s.readChecked a m bad
    let t := readWords m bad n (a + 4) r.1
    (t.1, r.2.1 :: t.2.1, r.2.2 && t.2.2)

/-- A REG_READ that is rejected whole, or a counter request: the field. -/
def State.requestOversize (s : State) (ip req code field : Nat) : State := (s.raise code noInst (leBytes 1 field)).serviceReply ip req code []

/-- REG_READ. -/
def State.regRead (s : State) (t : Telegram) : State :=
  let r := s.serviceRx t 0x0401
  match r.2 with
  | none => r.1
  | some b =>
    let a := beAt b 0 4
    let n := beAt b 4 2
    if !r.1.hasSession t.src then (r.1.raiseRated 0x0016 noInst 0).serviceReply t.src 0x0401 0x0016 []
    else if b.length ≠ 8 then r.1.requestOversize t.src 0x0401 0x0017 3
    else if n = 0 ∨ 64 < n then r.1.requestOversize t.src 0x0401 0x0017 1
    else if a % 4 ≠ 0 ∨ 0xFFFFFFFC < a + 4 * n - 4 then r.1.requestOversize t.src 0x0401 0x0017 2
    else
      let q := readWords 0 none n a r.1
      q.1.serviceReply t.src 0x0401 0 (q.2.1.flatMap (beBytes 4))

def execRegRead (t : Telegram) (s : State) : Host.Outcome State Fault Refusal := run s (fun s => s.regRead t)

/-- An entry of a COUNTERS reply. -/
def snapEntry (x : Snap) : List Byte := beBytes 6 x.value ++ beBytes 1 (b2n x.ovf) ++ beBytes 1 x.offset

/-- A counter request: who is served (R591), then its fields (R590): COUNT to `most`, START + COUNT to `top`. -/
def State.cntRequest (s : State) (t : Telegram) (req open_ most top : Nat) (reply : State → Nat → Nat → List Byte) : State :=
  let r := s.serviceRx t req
  match r.2 with
  | none => r.1
  | some b =>
    let start := beAt b 0 2
    let n := beAt b 2 2
    if !r.1.hasSession t.src ∧ !r.1.rb .cntCfg 0 open_ then (r.1.raiseRated 0xF002 noInst 0).serviceReply t.src req 0xF002 []
    else if b.length ≠ 4 then r.1.requestOversize t.src req 0xF003 3
    else if n = 0 ∨ most < n then r.1.requestOversize t.src req 0xF003 1
    else if top < start + n then r.1.requestOversize t.src req 0xF003 2
    else r.1.serviceReply t.src req 0 (reply r.1 start n)

/-- COUNTERS: the last sweep's snapshots. -/
def execCounters (t : Telegram) (s : State) : Host.Outcome State Fault Refusal :=
  run s (fun s => s.cntRequest t 0x0201 14 160 320 (fun s start n =>
    beBytes 8 s.cnt.sweepTt ++ beBytes 4 s.cnt.sweepNo ++ [0, 0, 0, 0] ++ (List.range n).flatMap (fun i => snapEntry (Table.get {} s.cnt.snap (start + i)))))

/-- SAMPLES, position 0 the oldest held. -/
def execSamples (t : Telegram) (s : State) : Host.Outcome State Fault Refusal :=
  run s (fun s => s.cntRequest t 0x0202 15 40 1024 (fun s start n =>
    let l := (s.cnt.samples.drop start).take n
    beBytes 2 l.length ++ [0, 0] ++ l.flatten))

/-! ### The maintenance port (R680 to R687) -/

/-- The answer on SDO: SYNC, RESULT, DATA and RCRC. -/
def mntAnswer (result : Nat) (data : List Byte) : Out :=
  let b := leBytes 1 result ++ data
  .serial ([0x5A] ++ b ++ leBytes 1 (crc8 b))

/-- A transaction that fails step 1, 2 or 3 of R683. -/
def State.mntFail (s : State) (result : Nat) : State :=
  (State.raiseRated { s with sys := { s.sys with mntResult := result, mntFails := satInc 65535 s.sys.mntFails } } 0x0014 noInst 0 (leBytes 1 result)).emit
    (mntAnswer result [])

/-- Write words in rising address order: whether every one was accepted. -/
def writeWords (bad : Option Nat) : List Nat → Nat → State → State × Bool
  | [], _, s => (s, true)
  | v :: vs, a, s =>
    let r := s.busWrite a (BitVec.ofNat 32 v) 4 bad
    let t := writeWords bad vs (a + 4) r.1
    (t.1, r.2 && t.2)

/-- One transaction: the bytes on SDI from the fall of MNT_CS_N. One that ends before its header or its DCRC does nothing (R685); a read
stops at the rise of MNT_CS_N, here after all its words. `bad` is an MRAM word with an uncorrectable error (R569, R676). -/
def State.mntTransaction (s : State) (b : List Byte) (bad : Option Nat) : State :=
  let count := byteAt b 0 % 64
  let op := byteAt b 0 / 64
  let a := beAt b 1 4
  if !s.mayAccess 4 true ∨ b.length < 6 then s
  else if byteAt b 5 ≠ crc8 (b.take 5) then s.mntFail 1
  else
    let s1 := { s with sys := { s.sys with mntAddr := a } }
    if 1 < op ∨ count = 0 ∨ 32 < count ∨ a % 4 ≠ 0 ∨ 0xFFFFFFFC < a + 4 * count - 4 then s1.mntFail 3
    else if op = 0 then
      let r := readWords 4 bad count a s1
      let res := if r.2.2 then 0 else 4
      State.emit { r.1 with sys := { r.1.sys with mntResult := res } } (mntAnswer res (r.2.1.flatMap (beBytes 4)))
    else if b.length < 7 + 4 * count then s1
    else if byteAt b (6 + 4 * count) ≠ crc8 (b.take (6 + 4 * count)) then s1.mntFail 2
    else
      let r := writeWords bad ((List.range count).map (fun k => beAt b (6 + 4 * k) 4)) a s1
      let res := if r.2 then 0 else 4
      State.emit { r.1 with sys := { r.1.sys with mntResult := res } } (mntAnswer res [])

def execMntTransaction (bytes : List Byte) (ecc : Option Word) (s : State) : Host.Outcome State Fault Refusal :=
  run s (fun s => s.mntTransaction bytes (ecc.map (fun a => a.toNat / 8 * 8)))

end Sys2Proof.Machine
end

