-- ==== Sys2Proof/Machine/Twin.lean ====
section
/-!
DEFINITION. Sys2Proof/Machine/Twin.lean: twin operation (R510 to R541): heartbeats and paths, the mirror, claims and takeovers, releases,
and the self-tests of the standby.
-/
namespace Sys2Proof.Machine
open Sys2Proof

/-- Whether the device runs as one of a twin (R510). -/
def State.inTwin (s : State) : Bool := s.sys.twinRole != 0 && s.locked
/-- TAKEOVER_T, REVERT_T and OWN_WD (R539). -/
def State.takeoverT (s : State) : Ticks := ms (s.rf .twinTim 0 7 0)
def State.revertT (s : State) : Ticks := sec (s.rf .twinTim 0 15 8)
def State.ownWd (s : State) : Ticks := ms (s.rf .twinTim 0 23 16)
/-- TWIN_MATE_IP. -/
def State.mateIp (s : State) : Nat := (s.reg .twinMateIp).toNat
/-- HOLDER, RELEASING, ELIGIBLE and REVERT_REQ of a heartbeat (R518). -/
def MateBeat.holder (b : MateBeat) : Bool := b.flags.testBit 0
def MateBeat.releasing (b : MateBeat) : Bool := b.flags.testBit 1
def MateBeat.eligible (b : MateBeat) : Bool := b.flags.testBit 2
def MateBeat.revertReq (b : MateBeat) : Bool := b.flags.testBit 5
/-- Whether the mate shows ELIGIBLE and is heard. -/
def State.mateEligible (s : State) : Bool := !s.twin.silent && (match s.twin.beat with
  | some b => b.eligible
  | none => false)
/-- LINKS of the mate. -/
def State.mateLinks (s : State) : Nat := if s.twin.silent then 0 else match s.twin.beat with
  | some b => b.links
  | none => 0
/-- Whether either lane is up. -/
def State.kazukUp (s : State) : Bool := s.laneUp s.twin.kz0 || s.laneUp s.twin.kz1

/-! ### The OWN_N line (R516, R517, R521) -/

/-- The level that the device's own land reads. A low line that the device does not pull is the mate's. -/
def State.setLine (s : State) (low : Bool) : State :=
  { s with twin := { s.twin with
      lineLow := low
      mateLow := low && (s.twin.mateLow || !s.twin.driving)
      highSince := if low then none else some (s.twin.highSince.getD s.lt) } }

/-- OWN_LINE_FAULT is set (R521). -/
def State.lineFaultNow (s : State) : State :=
  if s.twin.lineFault then s
  else State.raise { s with twin := { s.twin with lineFault := true, lineGoodSince := none } } 0xD007 noInst

/-- OWN_LINE_FAULT clears once the line has behaved as the heartbeats state for 1 s (R521): low just where one of the devices is holder. -/
def State.judgeLine (s : State) : State :=
  let said := s.twin.driving || (match s.twin.beat with
    | some b => b.holder
    | none => false)
  if !s.twin.lineFault then s
  else if said != s.twin.lineLow then { s with twin := { s.twin with lineGoodSince := none } }
  else
    let t := s.twin.lineGoodSince.getD s.lt
    if t + sec 1 ≤ s.lt then { s with twin := { s.twin with lineFault := false, lineGoodSince := none } }
    else { s with twin := { s.twin with lineGoodSince := some t } }

/-! ### Heartbeats out (R518, R519) -/

/-- LINKS: tile and die links running, drive links in RUN. -/
def State.linkBits (s : State) : Nat :=
  (List.range 12).foldl (fun a k => a + b2n ((s.flink k).phase == 2 && !(s.flink k).lost) * 2 ^ k) 0
    + (List.range 8).foldl (fun a l => a + b2n ((s.link l).phase == 2) * 2 ^ (12 + l)) 0

/-- The first 32 bytes of a heartbeat. -/
def State.beatBody (s : State) (seq : Nat) : List Byte :=
  beBytes 1 1
    ++ beBytes 1 (b2n s.holder + 2 * b2n s.twin.releasing.isSome + 4 * b2n s.eligible + 8 * b2n s.operational + 16 * b2n s.twin.synced
      + 32 * b2n s.twin.revertReq + 64 * b2n (s.sys.twinRole == 1))
    ++ beBytes 2 seq ++ beBytes 8 s.tt ++ beBytes 4 s.cat.version ++ beBytes 4 s.ilk.pcrcRef ++ beBytes 4 (if s.holder then 0 else s.twin.applied)
    ++ beBytes 4 s.linkBits ++ beBytes 1 (match s.twin.releasing with
      | some (c, _) => c
      | none => 0)
    ++ beBytes 1 s.quality.code ++ [0, 0]
/-- A heartbeat. -/
def State.heartbeat (s : State) (seq : Nat) : List Byte := kazukFrame (s.beatBody seq)

/-- Send a heartbeat on a lane. -/
def State.kazukSend (s : State) (lane : Nat) : State :=
  State.emit { s with twin := { s.twin with kzSeq := (s.twin.kzSeq + 1) % 65536 } } (.heartbeat lane (s.heartbeat s.twin.kzSeq))

/-- The heartbeat of a lane at its next TT instant. -/
def State.kazukBeat (s : State) (lane : Nat) : State :=
  when_ s.inTwin (fun s =>
    let d := if lane = 0 then 0 else 50000
    (s.passToTt (((s.tt + 100000 - d) / 100000) * 100000 + d)).kazukSend lane) s

def execKazukHeartbeatSend (lane : Fin 2) (s : State) : Host.Outcome State Fault Refusal := run s (fun s => s.kazukBeat lane)

/-- Frames of the mirror block: the oldest unacknowledged frames, while the block keeps the frame within A_MAX_LEN; the first always goes
(R525). Log entry 35. -/
def blockGo (room : Nat) : List MirrorFrame → List Byte → List Byte
  | [], acc => acc
  | f :: fs, acc =>
    let b := mirrorFrameBytes f.mseq f.items
    if acc = [] ∨ acc.length + b.length ≤ room then blockGo room fs (acc ++ b) else acc
/-- The mirror block of this device's heartbeat. -/
def State.mirrorBlock (s : State) : List Byte :=
  if s.twin.fallback ∧ s.holder then blockGo (s.rf .netALim 0 8 0 - 148) s.twin.unacked [] else []

/-- Key HB_KEY, if it is present. -/
def State.beatKey (s : State) : Option (List Byte) :=
  let k := s.key (s.rf .twinCfg 0 5 2)
  if k.present then some k.key else none

/-- Send the HEARTBEAT telegram. -/
def State.netSend (s : State) : State := match s.beatKey with
  | none => s
  | some k =>
    let b := s.heartbeat s.twin.netSeq ++ s.mirrorBlock
    State.sendTelegram { s with twin := { s.twin with netSeq := (s.twin.netSeq + 1) % 65536 } } 3 s.mateIp (b ++ tag16 k b)

/-- The telegram of each millisecond. -/
def execNetHeartbeatSend (s : State) : Host.Outcome State Fault Refusal :=
  run s (fun s => when_ (s.inTwin && s.trdpOn) (fun s => (s.passToTt ((s.tt / 1000000 + 1) * 1000000)).netSend) s)

/-! ### Confirmation (R525, R526, R705) -/

/-- Whether MSEQ `m` is newer than `c`. -/
def newer (m c : Nat) : Bool := decide (1 ≤ (m + 2 ^ 32 - c % 2 ^ 32) % 2 ^ 32 ∧ (m + 2 ^ 32 - c % 2 ^ 32) % 2 ^ 32 < 2 ^ 31)

/-- A held effect takes place. -/
def State.runHeld (s : State) : HeldEffect → State
  | .command b c arrival tq => s.takeEffect (if c = 0xFFFF then none else some c) b arrival tq
  | .stl off ip msg => s.sendTelegram off ip msg
  | .streamAck ip msg => s.sendTelegram 30 ip msg

/-- Every frame up to MSEQ `m` is confirmed: the effects that waited for it take place, in order. A number that no frame in wait carries
confirms nothing. -/
def State.confirm (s : State) (m : Nat) : State :=
  if !newer m s.twin.confirmed ∨ s.twin.unacked.all (fun f => f.mseq != m) then s
  else
    let w := s.twin
    let now := w.held.filter (fun e => !newer e.1 m)
    let acc := (w.accSent.filter (fun e => !newer e.1 m)).foldl (fun a e => max a e.2) w.accConfirmed
    let s1 := State.count { s with twin := { w with
      confirmed := m
      unacked := w.unacked.filter (fun f => newer f.mseq m)
      held := w.held.filter (fun e => newer e.1 m)
      accSent := w.accSent.filter (fun e => newer e.1 m)
      accConfirmed := acc } } 276 (w.unacked.filter (fun f => !newer f.mseq m)).length
    forEach now (fun s e => s.runHeld e.2) s1

/-- An acknowledgement frame (R525). -/
def State.mirrorAck (s : State) (b : List Byte) : State :=
  when_ s.inTwin (fun s =>
    if b.length = 12 ∧ byteAt b 0 = 3 ∧ beAt b 8 4 = crc32c (b.take 8) then s.confirm (beAt b 4 4) else s.count 278) s

def execMirrorAck (bytes : List Byte) (s : State) : Host.Outcome State Fault Refusal := run s (fun s => s.mirrorAck bytes)

/-- 50 us after it was sent, every frame in wait is sent again, in order (R525); in fallback the block repeats them. -/
def State.mirrorResend (s : State) : State :=
  match s.twin.unacked with
  | [] => s
  | f :: fs =>
    when_ (!s.twin.fallback) (fun s =>
      let s1 := s.passTo (f.sent + us 50)
      let l := f :: fs
      forEach l (fun s g => s.emit (.mirror s.mirrorLane (mirrorFrameBytes g.mseq g.items)))
        (State.count { s1 with twin := { s1.twin with unacked := l.map (fun g => { g with sent := s1.lt }) } } 277 l.length)) s

def execMirrorResend (s : State) : Host.Outcome State Fault Refusal := run s State.mirrorResend

/-! ### The sync (R523, R527) -/

/-- Entries of a table of an observer, all 256. -/
def allEntries (k : Nat) (t : Table Int) : List (List Byte) :=
  (List.range 256).map (fun b => beBytes 1 k ++ beBytes 1 b ++ beBytes 2 (wrapTo 16 (Table.get 0 t b)))

/-- The active device sends the whole of its mirrored state. -/
def State.mirrorAll (s : State) : State :=
  let s1 := forEach ((List.range 64).filter (fun i => (s.slot i).state != 0)) State.mirrorSlot (s.mirror 1 (s.portalItem 0 16))
  let s2 := forEach ((List.range 16).filter (fun k => (s.key k).present)) (fun s k => s.mirror 3 (beBytes 1 k ++ beBytes 8 (s.counterOf k))) s1
  let s3 := forEach s.enabledAxes State.mirrorAxis s2
  let s4 := forEach s.enabledObs (fun s n =>
    let o := s.ob n
    s.obsItems n (allEntries 0 o.refC ++ allEntries 1 o.refO ++ allEntries 2 o.comC ++ allEntries 3 o.comO)) s3
  let s5 := forEach s.enabledConns (fun s c => s.mirror 7 (s.connItem c)) s4
  let s6 := forEach s.trdp.streams (fun s t => s.mirror 8 (streamItem t true)) s5
  let s7 := forEach s.enabledPortals (fun s p => s.mirror 9 (beBytes 1 p ++ beBytes 5 (s.portal p).cycles)) s6
  forEach s.enabledAxes (fun s n => match Table.get none s.ilk.btPass n with
    | some t => s.mirror 10 (beBytes 1 n ++ beBytes 6 t)
    | none => s) s7

/-- The mirror starts afresh on the active device (log entry 38). -/
def State.startSync (s : State) : State :=
  State.mirrorAll { s with twin := { s.twin with
    mseq := 0, confirmed := 0, applied := 0, unacked := [], held := [], accSent := [], accConfirmed := s.rcd.nextAcc - 1, portalSent := []
    axisSent := [], syncStart := some s.lt, suppress := false } }

/-- The active device finds its standby. -/
def State.mateFound (s : State) : State :=
  State.startSync (if s.twin.mateLost then State.raise { s with twin := { s.twin with mateLost := false } } 0xD004 noInst else s)

/-- The standby awaits the transfer: what it had of slots and streams goes, and its own frames in wait are numbered afresh. A mate that was
silent before (`found`) is taken to have restarted, which ends the suppression of R533 (log entry 38). -/
def State.syncWait (s : State) (found : Bool) : State :=
  let fs := s.twin.unacked.zipIdx.map (fun e => { e.1 with mseq := e.2 + 1 })
  { s with
    twin := { s.twin with mseq := fs.length, confirmed := 0, applied := 0, unacked := fs, synced := false, syncStart := some s.lt,
                           suppress := s.twin.suppress && !found }
    seq := { s.seq with slots := [] }
    trdp := { s.trdp with streams := [] } }

/-- REVERT_REQ and its conditions (R530). -/
def State.judgeRevert (s : State) : State :=
  let c := s.sys.twinRole == 1 && s.standby && s.rb .twinCfg 0 1 && s.eligible && s.twin.synced && !s.twin.suppress
  { s with twin := { s.twin with
      revertSince := if c then some (s.twin.revertSince.getD s.lt) else none
      revertReq := s.twin.revertReq && c } }

/-! ### Heartbeats in (R519) -/

/-- The fields of a heartbeat. -/
def beatOf (s : State) (b : List Byte) : MateBeat :=
  { flags := byteAt b 1, cause := byteAt b 28, version := beAt b 12 4, pcrc := beAt b 16 4, mack := beAt b 20 4, links := beAt b 24 4, at_ := s.lt, tt := beAt b 4 8 }

/-- The mirror moves to the network path when neither lane is up. -/
def State.judgeFallback (s : State) : State :=
  if s.twin.fallback || s.twin.kzUp || !s.twin.netUp then s
  else State.raise { s with twin := { s.twin with fallback := true } } 0xD00A noInst

/-- A path delivers a heartbeat: 0 is the Kazuk path, 1 the network path; their numbers in the record are free (log entry 60). Fallback ends when a lane is up. -/
def State.pathHeard (s : State) (net : Bool) (lane : Nat) : State :=
  let w := s.twin
  let s1 : State := { s with twin := if net then { w with net := some s.lt, netUp := true }
                             else if lane = 0 then { w with kz0 := some s.lt, kzUp := true, fallback := false }
                             else { w with kz1 := some s.lt, kzUp := true, fallback := false } }
  (if (if net then w.netUp else w.kzUp) then s1 else s1.raise 0xD006 noInst (leBytes 1 (Config.codeOf .path (b2n net)).toNat)).judgeFallback

/-- The claim cause that the mate's heartbeats point to (R520). -/
def claimCauseOf (old : Nat) (b : MateBeat) : Nat :=
  if b.releasing then (if b.cause = 1 then 5 else if b.cause = 2 then 4 else 2) else if b.holder then 1 else old

/-- An accepted heartbeat: what it says is kept with whether the device was SYNCED; it confirms the mirror, ends silence, and may start a
sync. `low` is the level of the device's own OWN_N land. -/
def State.acceptBeat (s : State) (b : MateBeat) (net : Bool) (lane : Nat) (low : Bool) : State :=
  let s0 := (s.setLine low).pathHeard net lane
  let w := s0.twin
  let found := w.silent || w.beat.isNone
  let wasHolder := match w.beat with
    | some o => o.holder
    | none => false
  let s1 : State := { s0 with twin := { w with
    beat := some b, beatSynced := w.synced, silent := false, stayNoted := false, claimCause := claimCauseOf w.claimCause b
    relSince := if b.holder then none else w.relSince } }
  let s2 := if s1.holder && !b.holder then s1.confirm b.mack else s1
  let s3 := s2.judgeLine
  let s4 := if s3.holder then (if found then s3.mateFound else s3) else if b.holder && (found || !wasHolder) then s3.syncWait found else s3
  s4.judgeRevert

/-- A heartbeat on a lane. -/
def State.kazukIn (s : State) (lane : Nat) (b : List Byte) (low : Bool) : State :=
  when_ s.inTwin (fun s =>
    if b.length = 36 ∧ byteAt b 0 = 1 ∧ beAt b 32 4 = crc32c (b.take 32) then s.acceptBeat (beatOf s b) false lane low
    else (s.setLine low).count 278) s

def execKazukHeartbeat (lane : Fin 2) (bytes : List Byte) (ownLow : Bool) (s : State) : Host.Outcome State Fault Refusal :=
  run s (fun s => s.kazukIn lane bytes ownLow)

/-! ### The standby applies the mirror (R524, R525, R709) -/

/-- The portal state of a code. -/
def pstateOf (n : Nat) : PState :=
  ([.unused, .referencing, .locked, .unlocking, .released, .opening, .open_, .warning, .closing, .reopening, .closed, .locking, .emergency,
    .isolated, .fault].find? (fun (q : PState) => q.code == n)).getD .unused

/-- Take one portal's entry. -/
def State.takePortal (s : State) (p : Nat) (e : List Byte) : State :=
  let f := byteAt e 1; let g := byteAt e 7; let t := beAt e 4 2; let st := pstateOf (byteAt e 0)
  let from_ : Option Ticks := if t = 0xFFFF then none else some (s.lt - ms t)
  s.modPortal p (fun q => { q with
    prev := if q.st = st then q.prev else q.st
    entered := if q.st = st then q.entered else s.lt
    st := st
    released := f.testBit 0, reqEnabled := f.testBit 1, emgPending := f.testBit 2, unreferenced := f.testBit 3, closeObstructed := f.testBit 4
    forced := f.testBit 5, lockPending := f.testBit 6 && st != .emergency, emgLockArrived := f.testBit 6 && st == .emergency, reopenCnt := byteAt e 2, flags := byteAt e 3, faultCause := byteAt e 6
    inCycle := g.testBit 0, stepWanted := g.testBit 1, openWanted := g.testBit 2
    unlockStart := if st = .unlocking then from_.getD q.unlockStart else q.unlockStart
    lockStart := if st = .locking then from_.getD q.lockStart else q.lockStart
    refStart := if st = .referencing then from_.getD q.refStart else q.refStart
    warnStart := if st = .warning then from_ else q.warnStart
    dwellStart := if st = .open_ then from_ else q.dwellStart })

/-- Take the axis item: LATCH is paired with this device's own of the same boundary. -/
def State.takeAxisItem (s : State) (b : List Byte) : State :=
  let n := byteAt b 0 % 64
  let f := byteAt b 5
  let d := signedOf 32 (beAt b 7 4) - s.latchOf n
  let w := s.twin
  let ls := Table.get [] w.latches n ++ [(beAt b 11 8, d)]
  let s0 : State := { s with twin := { w with
      targets := Table.set none w.targets n (if f.testBit 1 then some (signedOf 32 (beAt b 1 4)) else none)
      torque := Table.set false w.torque n (f.testBit 2)
      latches := if beAt b 11 8 = s.time.bTt then Table.set [] w.latches n (ls.drop (ls.length - 2)) else w.latches } }
  let s1 := (s0.modAxis n (fun x => { x with referenced := f.testBit 0 })).modPortal (n / 4) (fun q =>
      if f.testBit 1 && q.st != .referencing then { q with lastRun := some s.lt } else q)
  if s1.onLink n then
    s1.modLink (s1.axisStage n).1 (fun l => { l with dly := Table.set 0 l.dly (s1.axisStage n).2 (byteAt b 6) })
  else s1

/-- An observer whose tables the mirror has changed: one whose commissioning table holds a force in every bin is commissioned (R166, R176), and its
drift follows its tables (R164). -/
def Observer.mirrored (o : Observer) : Observer :=
  let full := (List.range 256).all (fun b => o.com true b != noForce && o.com false b != noForce)
  let o1 := if full then { o with commissioned := true, ceilOnly := false, tableFallback := false } else o
  let d := if o1.ceilOnly then (0, 0, false) else o1.driftNow
  { o1 with drift := d.1, driftBin := d.2.1, driftOpen := d.2.2 }

/-- Take an observer item. -/
def State.takeObs (s : State) (b : List Byte) : State :=
  let n := byteAt b 0 % 64
  let es := (List.range ((b.length - 3) / 4)).map (fun i => slice b (3 + 4 * i) 4)
  let put (o : Observer) (e : List Byte) : Observer :=
    let k := byteAt e 0; let i := byteAt e 1; let v := signedOf 16 (beAt e 2 2)
    if k = 0 then { o with refC := Table.set 0 o.refC i v } else if k = 1 then { o with refO := Table.set 0 o.refO i v }
    else if k = 2 then { o with comC := Table.set 0 o.comC i v } else { o with comO := Table.set 0 o.comO i v }
  (s.modOb n (fun o => ({ es.foldl put o with sigPtr := byteAt b 1 } : Observer).mirrored)).modPortal (n / 4) (fun q => { q with coldLeft := byteAt b 2 })

/-- Take a connection item. -/
def State.takeConn (s : State) (b : List Byte) : State :=
  let st : ConnState := match byteAt b 1 with
    | 1 => .opening
    | 2 => .open_
    | 3 => .rekeying
    | 4 => .failed
    | _ => .closed
  s.modConn (byteAt b 0 % 64) (fun q => { q with
    st := st, cur := { num := beAt b 2 4, key := slice b 6 32, seqTx := beAt b 38 4, seqRx := beAt b 42 4 }, ip := beAt b 46 4, lastOk := s.lt })

/-- Take a stream item: its number, partner, direction, whether it is open and has unacknowledged messages, and its SEQ. -/
def State.takeStream (s : State) (b : List Byte) : State :=
  let num := beAt b 0 2; let ip := beAt b 2 4; let f := byteAt b 6; let n := beAt b 7 4
  let inb := f.testBit 0
  let rest := s.trdp.streams.filter (fun t => !(t.ip == ip && t.num == num && t.inbound == inb))
  let t : Stream := { ip := ip, num := num, inbound := inb, delivered := if inb then n else 0, nextSeq := if inb then 1 else n + 1,
                      unacked := if f.testBit 2 then [TxMsg.mk n [] s.lt 0] else [] }
  { s with trdp := { s.trdp with streams := if f.testBit 1 then rest ++ [t] else rest } }

/-- Keep a counter at the larger of two values (R527). -/
def State.raiseCounter (s : State) (k n : Nat) : State :=
  if n ≤ s.counterOf k then s
  else State.saveNum { s with sc := { s.sc with counters := Table.set 0 s.sc.counters k n } } (0x10 + k) n
/-- Keep a portal's cycle counter at the larger of two values. -/
def State.raiseCycles (s : State) (p n : Nat) : State :=
  if n ≤ (s.portal p).cycles then s else (s.modPortal p (fun q => { q with cycles := n })).saveNum (0x60 + p) n
/-- Keep an axis's brake test pass time at the later of two. -/
def State.laterPass (s : State) (n t : Nat) : State :=
  if t ≤ (Table.get none s.ilk.btPass n).getD 0 then s
  else State.saveNum { s with ilk := { s.ilk with btPass := Table.set none s.ilk.btPass n (some t) } } (0x20 + n) t

/-- Gap records over `n` numbers from the next (R548), after which numbering goes on. -/
def State.gapOver (s : State) (n cause : Nat) : State :=
  let h := s.rcd.nextAcc
  let s1 := s.markFor (h + n - 1)
  forEach (s1.gapRecs h n cause) State.placeNumbered { s1 with rcd := { s1.rcd with nextAcc := h + n } }

/-- Take a record into the device's own recorder under the number it carries. -/
def State.takeRecord (s : State) (b : List Byte) : State :=
  let n := recordOf b
  if n.acc < s.rcd.nextAcc then s
  else
    let s0 := if s.rcd.nextAcc < n.acc then s.gapOver (n.acc - s.rcd.nextAcc) 7 else s
    let s1 := s0.markFor n.acc
    State.placeNumbered { s1 with rcd := { s1.rcd with nextAcc := n.acc + n.span } } n

/-- Take a slot item. -/
def State.takeSlot (s : State) (b : List Byte) : State :=
  let c : Slot := { state := byteAt b 1, action := byteAt b 2, target := beAt b 3 2, key := byteAt b 5, src := byteAt b 6, conn := byteAt b 7,
                    tt := beAt b 8 8, order := s.seq.slotOrder, acc := some s.lt }
  let s1 := s.setSlot (byteAt b 0 % 64) (if c.state = 0 then {} else c)
  { s1 with seq := { s1.seq with slotOrder := s1.seq.slotOrder + 1 } }

/-- Take one item (R524). -/
def State.takeItem (s : State) (i : Nat × List Byte) : State :=
  let b := i.2
  match i.1 with
  | 1 => forEach (List.range (min 16 ((b.length - 1) / 8))) (fun s j => s.takePortal ((byteAt b 0 + j) % 16) (slice b (1 + 8 * j) 8)) s
  | 2 => s.takeSlot b
  | 3 => s.raiseCounter (byteAt b 0 % 16) (beAt b 1 8)
  | 4 => s.takeRecord b
  | 5 => s.takeAxisItem b
  | 6 => s.takeObs b
  | 7 => s.takeConn b
  | 8 => s.takeStream b
  | 9 => s.raiseCycles (byteAt b 0 % 16) (beAt b 1 5)
  | 10 => s.laterPass (byteAt b 0 % 64) (beAt b 1 6)
  | _ => s

/-- Apply a parsed frame that is the next in order; any other is discarded (R525, R705). -/
def State.takeMirror (s : State) (m : Nat) (items : List (Nat × List Byte)) : State × Bool :=
  if m ≠ (s.twin.applied + 1) % 2 ^ 32 then (s, false)
  else
    let s1 := forEach items State.takeItem s
    ({ s1 with twin := { s1.twin with applied := m } }, true)

/-- A mirror frame at the standby: one in order is applied and acknowledged. -/
def State.mirrorIn (s : State) (b : List Byte) : State :=
  when_ (s.inTwin && s.standby) (fun s => match mirrorParse b with
    | none => s.count 278
    | some (m, items) =>
      let r := s.takeMirror m items
      if r.2 then r.1.emit (.mirror r.1.mirrorLane (ackFrame m)) else r.1) s

def execMirrorFrame (bytes : List Byte) (s : State) : Host.Outcome State Fault Refusal := run s (fun s => s.mirrorIn bytes)

/-- The frames of a mirror block, in order; MACK confirms them. -/
def State.blockIn : Nat → State → List Byte → State
  | 0, s, _ => s
  | k + 1, s, b =>
    let n := beAt b 2 2 + 12
    if b.length < 12 then s
    else match mirrorParse (b.take n) with
      | none => s.count 279
      | some (m, items) => blockIn k (s.takeMirror m items).1 (b.drop n)

/-- A network heartbeat: AUTH passes and its HB_SEQ lies 1 to 32,767 above the last accepted one (R519). -/
def State.netIn (s : State) (t : Telegram) (low : Bool) : State :=
  let r := s.trdpRx t
  match r.2 with
  | none => r.1
  | some (off, d) =>
    if off ≠ 3 then s
    else if !r.1.inTwin then r.1.trdpDiscard
    else
      let n := d.length - 16
      let seq := beAt d 2 2
      let fresh := match r.1.twin.netRx with
        | none => true
        | some last => decide (1 ≤ (seq + 65536 - last) % 65536 ∧ (seq + 65536 - last) % 65536 ≤ 32767)
      let ok := decide (52 ≤ d.length ∧ t.src = r.1.mateIp ∧ byteAt d 0 = 1) && fresh && (match r.1.beatKey with
        | some k => decide (tag16 k (d.take n) = d.drop n)
        | none => false)
      if !ok then (r.1.setLine low).count 279
      else
        let s1 : State := { r.1 with twin := { r.1.twin with netRx := some seq } }
        let s2 := s1.acceptBeat (beatOf s1 d) true 0 low
        if s2.standby then State.blockIn 64 s2 ((d.take n).drop 36) else s2

def execNetHeartbeat (t : Telegram) (ownLow : Bool) (s : State) : Host.Outcome State Fault Refusal := run s (fun s => s.netIn t ownLow)

/-! ### Paths and silence (R519, R521, R523, R525) -/

/-- A path has delivered no accepted heartbeat within 300 us or 3 ms. -/
def State.pathDown (s : State) (net : Bool) : State :=
  let w := s.twin
  if net then match w.net with
    | some t => when_ w.netUp (fun s =>
        let s1 := s.passTo (t + ms 3)
        State.raise { s1 with twin := { s1.twin with netUp := false, fallback := false } } 0xD005 noInst (leBytes 1 (Config.codeOf .path 1).toNat)) s
    | none => s
  else
    when_ w.kzUp (fun s =>
      let s1 := s.passTo (max (w.kz0.getD 0) (w.kz1.getD 0) + us 300)
      (State.raise { s1 with twin := { s1.twin with kzUp := false } } 0xD005 noInst (leBytes 1 (Config.codeOf .path 0).toNat)).judgeFallback) s

def execTwinPathDown (net : Bool) (s : State) : Host.Outcome State Fault Refusal := run s (fun s => s.pathDown net)

/-- The active device has lost its mate (R523): every wait is lifted. -/
def State.loseMate (s : State) : State :=
  if s.twin.mateLost then s
  else
    let held := s.twin.held
    let s1 := State.raise { s with twin := { s.twin with mateLost := true, held := [], unacked := [], accSent := [], syncStart := none } } 0xD003 noInst
    forEach held (fun s e => s.runHeld e.2) s1

/-- Neither path has delivered an accepted heartbeat for TAKEOVER_T: the holder has lost its mate; a standby with the line low stays so. -/
def State.mateSilent (s : State) : State :=
  when_ s.inTwin (fun s =>
    let s0 := match s.twin.beat with
      | some b => s.passTo (b.at_ + s.takeoverT)
      | none => s
    let s1 : State := { s0 with twin := { s0.twin with silent := true, synced := false, syncStart := none } }
    if s1.holder then s1.loseMate
    else
      let s2 := s1.judgeRevert
      if s2.twin.lineLow && !s2.twin.stayNoted then State.raise { s2 with twin := { s2.twin with stayNoted := true } } 0xD008 noInst else s2) s

def execMateSilent (s : State) : Host.Outcome State Fault Refusal := run s State.mateSilent

/-! ### Claim and takeover (R520, R528, R529) -/

/-- OWN_N goes high at a device that does not drive it: its claim window starts. -/
def execOwnNHigh (s : State) : Host.Outcome State Fault Refusal :=
  run s (fun s => when_ (!s.twin.driving && s.twin.lineLow) (fun s => s.setLine false) s)

/-- The claim conditions of R520 but for the window. -/
def State.claimReady (s : State) : Bool :=
  s.inTwin && !s.twin.driving && s.operational && !s.ilk.pcrcFault && !s.twin.testFail && s.twin.highSince.isSome
    && (s.twin.silent || (match s.twin.beat with
      | some b => !b.holder || b.releasing
      | none => true))

/-- The claim window: 20 us for the home device, 60 us for the mate device. -/
def State.claimWindow (s : State) : Ticks := if s.sys.twinRole = 1 then us 20 else us 60

/-- Whether a takeover is synchronised (R528); `high` is when OWN_N went high. -/
def State.syncTakeover (s : State) (high : Ticks) : Bool := s.twin.beatSynced && (match s.twin.beat with
  | some b => decide (high ≤ b.at_ + s.takeoverT)
  | none => false)

/-- An axis at a synchronised takeover (R528): its count is aligned with the mirrored LATCH; one that was executing goes on to the mirrored
target. It is unreferenced where two consecutive pairs differed by more than IDX_TOL. -/
def State.takeAxis (s : State) (n : Nat) : State :=
  let ls := Table.get [] s.twin.latches n
  let s1 := match ls.getLast?, s.fbOf n with
    | some e, some m =>
      let s2 := (s.fbPset m (s.fbPos m + e.2)).modFbp m (fun f => { f with latch := f.latch + e.2 })
      let slip := match ls with
        | [a, b] => decide (s.rf .fbIdx m 7 0 < absN (a.2 - b.2))
        | _ => false
      if slip then s2.modAxis n (fun x => { x with referenced := false }) else s2
    | _, _ => s
  let s2 := s1.modAxis n (fun x => { x with pos := s1.latchOf n * 2 ^ 32, vel := s1.fbSpeed n * 2 ^ 32, acc := 0, posSp := s1.latchOf n * 2 ^ 16 })
  match Table.get none s.twin.targets n with
  | some t => (s2.modAxis n (fun x => { x with mode := .executing })).replaceSeg n (plainSeg t)
  | none => if Table.get false s.twin.torque n then s2.modAxis n (fun x => { x with mode := .holding, vel := 0 }) else s2

/-- A synchronised takeover (R528, R492). -/
def State.takeoverSync (s : State) : State :=
  let s1 := s.gapOver 64 5
  let s2 := forEach s1.enabledPortals State.portalOutputs s1
  let s3 := forEach s2.enabledAxes State.takeAxis s2
  let s4 := forEach (s3.trdp.streams.filter (fun t => !t.inbound && t.unacked != [])) (fun s t => s.closeStream t 4) s3
  { s4 with twin := { s4.twin with clrFrames := 2 } }

/-- Any other takeover (R529); where no heartbeat was ever accepted there is nothing to take over (log entry 37). -/
def State.takeoverUnsync (s : State) : State :=
  match s.twin.beat with
  | none => s
  | some b =>
    let s1 := s.gapOver (64 + divCeil (s.lt - b.at_) 12500) 6
    let s2 := forEach (s1.enabledConns.filter (fun c => (s1.conn c).st != .closed)) (fun s c => s.connClosed c 6) s1
    let s3 := forEach s2.trdp.streams (fun s t => s.closeStream t 4) s2
    let s4 := forEach s3.enabledPortals (fun s p => (s.modPortal p (fun q => { q with st := .unused, prev := q.st })).t1 p) s3
    s4.raise 0xD00F noInst

/-- A claim is granted at the motion cycle boundary that follows its window (R520). -/
def State.claim (s : State) : State :=
  when_ s.claimReady (fun s =>
    let high := s.twin.highSince.getD s.lt
    let s0 := s.passTo (high + s.claimWindow)
    let s1 := s0.passToTt (nextMultiple 25000 s0.tt)
    let cause := if s1.twin.silent then (if s1.twin.beat.isSome then 3 else 1) else s1.twin.claimCause
    let sync := s1.syncTakeover high
    let s2 := State.raise { s1 with twin := { s1.twin with
      driving := true, lineLow := true, highSince := none, wdLast := s1.lt, lastCause := cause, relSince := none, synced := false, revertReq := false
      revertSince := none, unacked := [], held := [] } } 0xD001 noInst (leBytes 1 cause)
    let s3 := s2.garpStart
    let s4 := if sync then s3.takeoverSync else s3.takeoverUnsync
    let s5 := forEach ((List.range 8).filter (fun l => s4.linkEn l && (s4.link l).phase != 2)) State.dlStart s4
    if s5.twin.silent then s5.loseMate else s5.startSync) s

def execTwinClaim (s : State) : Host.Outcome State Fault Refusal := run s State.claim

/-! ### Release (R522, R530 to R533) -/

/-- OWN_N is let go: engines and sequencer fall idle, and what waited for the mirror does not take place. -/
def State.letGo (s : State) : State :=
  let s1 : State := { s with
    twin := { s.twin with driving := false, lineLow := s.twin.mateLow, highSince := if s.twin.mateLow then none else some s.lt, relSince := some s.lt
                          releasing := none, transfer := none, unacked := [], held := [], accSent := [], clrFrames := 0 }
    seq := { s.seq with imm := [], starts := [] } }
  forEach (List.range 64) (fun s n => if (s.axis n).mode = .off then s else s.torqueOffNow n) s1

/-- A release with its cause (R522). -/
def State.release (s : State) (cause : Nat) : State :=
  let s1 := s.letGo
  State.raise { s1 with twin := { s1.twin with lastCause := cause } } 0xD002 noInst (leBytes 1 cause)

/-- The fault cause of R522 that holds, if any: 3 PCRC_FAULT, 4 SOTEST_FAULT, 5 a tile or die link that the mate has running is lost or in
SAFE, 6 a drive link that the mate has in RUN is in FAULT. -/
def State.faultCause (s : State) : Option Nat :=
  let m := s.mateLinks
  if s.ilk.pcrcFault then some 3
  else if (List.range 4).any (fun k => (s.so k).test) then some 4
  else if (List.range 12).any (fun k => m.testBit k && ((s.flink k).lost || (s.flink k).stateByte % 4 == 3)) then some 5
  else if (List.range 8).any (fun l => m.testBit (12 + l) && (s.link l).phase == 3) then some 6
  else none

/-- Announce a release on every path that is up. -/
def State.announce (s : State) (cause : Nat) : State :=
  let s1 : State := { s with twin := { s.twin with releasing := some (cause, s.lt) } }
  let s2 := if s1.laneUp s1.twin.kz0 then s1.kazukSend 0 else if s1.laneUp s1.twin.kz1 then s1.kazukSend 1 else s1
  if s2.netPathUp then s2.netSend else s2

/-- A release for a fault is announced (R522). -/
def State.releaseAnnounce (s : State) : State :=
  when_ (s.inTwin && s.holder && s.twin.releasing.isNone && s.mateEligible) (fun s => match s.faultCause with
    | some c => s.announce c
    | none => s) s

def execReleaseAnnounce (s : State) : Host.Outcome State Fault Refusal := run s State.releaseAnnounce

/-- 200 us after the announcement the line is released. -/
def State.released (s : State) : State := match s.twin.releasing with
  | some (c, t) => (s.passTo (t + us 200)).release c
  | none => s

def execTwinReleased (s : State) : Host.Outcome State Fault Refusal := run s State.released

/-- The ownership watchdog expires (R517). -/
def execOwnWatchdogExpiry (s : State) : Host.Outcome State Fault Refusal :=
  run s (fun s => when_ s.twin.driving (fun s => (s.passTo (s.twin.wdLast + s.ownWd)).release 7) s)

/-- OWN_N disagrees with the heartbeats (R521): a driven land that reads high is let go at once; a line that stays high under a holder, or
low after a release, is a fault after 1 ms. `low` is the level of the land. -/
def State.lineFault (s : State) (low : Bool) : State :=
  when_ s.inTwin (fun s =>
    if s.twin.driving then (if low then s else (s.setLine false).letGo.lineFaultNow)
    else if low then match s.twin.relSince with
      | some t => if s.twin.mateLow then s else ((s.passTo (t + ms 1)).setLine true).lineFaultNow
      | none => s
    else
      let s1 := s.setLine false
      match s1.twin.highSince, s1.twin.beat with
      | some h, some b =>
        if !s1.twin.silent && b.holder && !b.releasing && decide (h < b.at_) then (s1.passTo (h + ms 1)).lineFaultNow else s1
      | _, _ => s1) s

def execOwnLineFault (ownLow : Bool) (s : State) : Host.Outcome State Fault Refusal := run s (fun s => s.lineFault ownLow)

/-- A quiet moment (R530). -/
def State.quiet (s : State) : Bool :=
  (List.range 64).all (fun n => (s.axis n).mode == .off || (s.axis n).mode == .holding)
    && (List.range 64).all (fun n => (Table.get none s.ilk.tests n).isNone)
    && (List.range 64).all (fun i => (s.slot i).state != 1 || decide (s.tt + 1000000 * s.rf .twinQuiet 0 13 0 < (s.slot i).tt))

/-- A pending manual transfer or reversion, the transfer first (R532). -/
def State.wantsRelease (s : State) : Option Nat :=
  if s.twin.transfer.isSome then some 1
  else if s.sys.twinRole = 2 ∧ (match s.twin.beat with
    | some b => b.revertReq
    | none => false) = true then some 2
  else none

/-- At the next motion cycle boundary, if it is a quiet moment, the release is announced; a fault cause goes before it (R532). -/
def State.quietRelease (s : State) : State :=
  when_ (s.inTwin && s.holder && s.twin.releasing.isNone && s.mateEligible) (fun s => match s.wantsRelease with
    | none => s
    | some c =>
      let s1 := s.passToTt (nextMultiple 25000 s.tt)
      when_ s1.quiet (fun s =>
        let s2 := s.announce (s.faultCause.getD c)
        { s2 with twin := { s2.twin with transfer := none, suppress := s2.twin.suppress || (c == 1 && s2.sys.twinRole == 1) } }) s1) s

def execQuietMomentRelease (s : State) : Host.Outcome State Fault Refusal := run s State.quietRelease

/-- A manual transfer is rejected (R533): the mate is not ELIGIBLE, or 10 s have passed. -/
def State.transferRejected (s : State) : State := match s.twin.transfer with
  | none => s
  | some t =>
    let s1 := if s.mateEligible then s.passTo (t + sec 10) else s
    State.raise { s1 with twin := { s1.twin with transfer := none } } 0xD00D noInst

def execTwinTransferRejected (s : State) : Host.Outcome State Fault Refusal := run s State.transferRejected

/-- The home standby has shown ELIGIBLE and SYNCED for REVERT_T (R530). -/
def State.revertRequest (s : State) : State :=
  let s0 := s.judgeRevert
  match s0.twin.revertSince with
  | none => s0
  | some t =>
    let s1 := s0.passTo (t + s0.revertT)
    { s1 with twin := { s1.twin with revertReq := true } }

def execRevertRequest (s : State) : Host.Outcome State Fault Refusal := run s State.revertRequest

/-! ### Completion of the sync (R527) -/

/-- The devices align: the next accession number, and each counter, cycle counter and brake test time (R527). The arguments are the
mate's values. -/
def State.align (s : State) (next : Nat) (cnts cycles passes : List Nat) : State :=
  let s1 := if s.rcd.nextAcc < next then s.gapOver (next - s.rcd.nextAcc) 7 else s
  let s2 := forEach (cnts.take 16).zipIdx (fun s e => s.raiseCounter e.2 e.1) s1
  let s3 := forEach (cycles.take 16).zipIdx (fun s e => s.raiseCycles e.2 e.1) s2
  forEach (passes.take 64).zipIdx (fun s e => s.laterPass e.2 e.1) s3

/-- The transfer is complete: the standby sets SYNCED. The active device's numbers count as confirmed up to what both now hold. -/
def State.synced (s : State) (next : Nat) (cnts cycles passes : List Nat) : State :=
  when_ (s.inTwin && s.twin.syncStart.isSome && !s.twin.silent) (fun s =>
    let s1 := s.align next cnts cycles passes
    let s2 : State := { s1 with twin := { s1.twin with syncStart := none } }
    if s2.standby then (State.raise { s2 with twin := { s2.twin with synced := true } } 0xD009 noInst).judgeRevert
    else { s2 with twin := { s2.twin with accConfirmed := max s2.twin.accConfirmed (s2.rcd.nextAcc - 1) } }) s

def execTwinSynced (mateNext : Nat) (mateCounters mateCycles mateBrakes : List Nat) (s : State) : Host.Outcome State Fault Refusal :=
  run s (fun s => s.synced mateNext mateCounters mateCycles mateBrakes)

/-! ### Self-tests of the standby (R535) -/

/-- A leaking channel latches READBACK: a tile's output through its diagnostic, a load switch in its own bit. -/
def State.latchLeak (s : State) (c : Nat) : State :=
  if c < 256 then s.latchDiag c 6 false
  else if c < 288 then
    (if (s.sw (c - 256)).readback then s else (s.modSw (c - 256) (fun w => { w with readback := true })).raise 0x9013 (c - 256))
  else s

/-- Whether the mate's last heartbeat names another ILK_PCRC or CAT_VERSION. -/
def State.cfgDiffers (s : State) : Bool := match s.twin.beat with
  | some b => b.pcrc != s.ilk.pcrcRef || b.version != s.cat.version
  | none => false

/-- The tests of one run, by bit. -/
def State.standbyTests (s : State) (gateBad offBad : Nat) (leak : List Nat) : Nat :=
  b2n (gateBad % 16 != 0) + 2 * b2n (offBad % 16 != 0) + 4 * b2n (leak != [])
    + 8 * b2n ((List.range 12).any (fun k => let l := s.flink k; l.phase != 2 || l.lost || l.stateByte.testBit 3 || l.stateByte % 4 == 3))
    + 16 * b2n ((List.range 8).any (fun l => s.linkEn l && (s.link l).phase != 2)) + 32 * b2n s.ilk.pcrcFault + 64 * b2n s.cfgDiffers

/-- A run of the self-tests. `gateBad` and `offBad` name the safety outputs that fail tests 0 and 1, `leak` the channels that fail test 2. -/
def State.selfTest (s : State) (gateBad offBad : Nat) (leak : List Nat) : State :=
  when_ (s.inTwin && s.standby) (fun s =>
    let s0 := if s.twin.testTt = 0 then s else s.passToTt (s.twin.testTt + 1000000000)
    let t := s0.standbyTests gateBad offBad leak
    let s1 := forEach leak State.latchLeak s0
    let s2 : State := { s1 with twin := { s1.twin with
      tests := t, testFail := decide (t % 64 ≠ 0), cfgDiffer := t.testBit 6, testTt := s1.tt
      failed := match leak with
        | [] => []
        | c :: _ => [(2, c)] } }
    let s3 := forEach ((List.range 6).filter (fun i => t.testBit i)) (fun s i =>
      s.raise 0xD00B noInst (leBytes 1 i ++ leBytes 2 (if i = 2 then leak.head?.getD 0x1FF else 0x1FF))) s2
    (if t.testBit 6 then s3.raise 0xD00C noInst else s3).judgeRevert) s

def execStandbySelftest (gateBad offBad : Nat) (leak : List Nat) (s : State) : Host.Outcome State Fault Refusal :=
  run s (fun s => s.selfTest gateBad offBad leak)

end Sys2Proof.Machine
end

