-- ==== Sys2Proof/Machine/Presets.lean ====
section
/-!
DEFINITION. Sys2Proof/Machine/Presets.lean: the tags of the catalogue image (R59) and the presets of every block (R136, R179, R222,
R264, R289, R330, R368, R394, R429, R463, R505, R537): parameters with their ranges, permitted instances, what each entry names, and
the registers each sets.
-/
namespace Sys2Proof.Machine
open Sys2Proof

/-! ### Tags (R59) -/

/-- The tags in the order of application; a section is known below by its place here, from 0. -/
def tagNames : List String :=
  ["DEVC", "SAFE", "TIME", "NETW", "TRDP", "STLC", "TWIN", "FLDC", "LOAD", "FBCK", "DLNK", "AXES", "OBSV", "PORT", "RECD", "CNTR"]
/-- The block that each tag writes. -/
def tagBlocks : List Block := [.sys, .ilk, .time, .net, .trdp, .stl, .twin, .fld, .lsw, .fb, .dlk, .axis, .obs, .portal, .recorder, .cnt]
/-- A tag as CAT_ERR_TAG holds it (R86). -/
def tagWord (t : Nat) : Nat := leNat (ascii (tagNames.getD t ""))
/-- The place of a tag, if R59 lists it. -/
def tagIndex (w : Nat) : Option Nat := (List.range 16).find? (fun t => tagWord t == w)
def tagDEVC : Nat := 0
def tagSAFE : Nat := 1
def tagTIME : Nat := 2
def tagNETW : Nat := 3
def tagTRDP : Nat := 4
def tagSTLC : Nat := 5
def tagTWIN : Nat := 6
def tagFLDC : Nat := 7
def tagLOAD : Nat := 8
def tagFBCK : Nat := 9
def tagDLNK : Nat := 10
def tagAXES : Nat := 11
def tagOBSV : Nat := 12
def tagPORT : Nat := 13

/-! ### The form of a preset -/

/-- A register that a preset sets: the fields it sets in it, (high bit, low bit, value). -/
structure PresetWrite where
  r : RegId
  i : Nat
  j : Nat
  fs : List (Nat × Nat × Nat)
  deriving DecidableEq, Repr

/-- A preset: the ranges of its parameters, the instances it permits, the first parameter out of a range that depends on another, what
an entry names (kind 0 is the block as a whole), and the registers it sets. -/
structure Preset where
  ranges : List (List (Nat × Nat))
  insts : Nat → Bool
  wrong : Nat → List Nat → Option Nat := fun _ _ => none
  names : Nat → List Nat → List (Nat × Nat)
  writes : Nat → List Nat → List PresetWrite

/-- Parameter `k` of an entry. -/
def par (p : List Nat) (k : Nat) : Nat := p.getD k 0
def inRange (lo hi i : Nat) : Bool := decide (lo ≤ i ∧ i ≤ hi)
/-- A range of values. -/
def rng (lo hi : Nat) : List (Nat × Nat) := [(lo, hi)]
def rngBit : List (Nat × Nat) := [(0, 1)]
def rngWord : List (Nat × Nat) := [(0, 0xFFFFFFFF)]
/-- The whole register. -/
def wholeReg (r : RegId) (i j v : Nat) : PresetWrite := ⟨r, i, j, [(31, 0, v)]⟩
/-- Names one object of a kind. -/
def namesInst (kind : Nat) (i : Nat) (_ : List Nat) : List (Nat × Nat) := [(kind, i)]
/-- Names the block as a whole (R68). -/
def namesBlock (_ : Nat) (_ : List Nat) : List (Nat × Nat) := [(0, 0)]

/-! ### SAFE (R330) -/

/-- TP(c): the test-pulse supply of a channel. -/
def tpOf (c : Nat) : Nat := 8 * (c / 32) + c % 8
/-- A pulse-tested pair. -/
def pairWrites (i c1 c2 equiv n faultVal : Nat) : List PresetWrite :=
  [⟨.ilkPairA, i, 0, [(7, 0, c1), (15, 8, c2), (21, 16, tpOf c1), (29, 24, tpOf c2), (30, 30, equiv), (31, 31, 1)]⟩,
   ⟨.ilkPairB, i, 0, [(10, 0, n), (11, 11, faultVal), (12, 12, 1)]⟩]
def safePortal (p : Nat) (a : List Nat) : List PresetWrite :=
  let f := par a 0
  [⟨.ilkCfg, 0, 0, [(p, p, 1)]⟩, ⟨.ilkPortIn0, p, 0, [(8, 0, f + 2), (24, 16, f + 3)]⟩,
   ⟨.ilkPortIn1, p, 0, [(8, 0, f + 4), (24, 16, if par a 1 = 1 then f + 5 else notConnected)]⟩, ⟨.ilkPortIn2, p, 0, [(8, 0, f + 10)]⟩]
    ++ pairWrites (2 * p) (f + 8) (f + 9) 1 40 1 ++ pairWrites (2 * p + 1) (f + 10) (par a 2) 1 40 0
def safeOutputs (_ : Nat) (a : List Nat) : List PresetWrite :=
  [⟨.ilkSotest, 0, 0, [(8, 0, par a 0), (25, 16, par a 1)]⟩]
    ++ (List.range 4).map (fun k => PresetWrite.mk .ilkMonSo k 0 [(24, 16, par a (2 + k)), (25, 25, 0)])
    ++ [⟨.ilkBtCfg, 0, 0, [(13, 0, par a 6)]⟩]
def presetSafe : Nat → Option Preset
  | 1 => some { ranges := [rng 0 242, rngBit, rng 0 255], insts := inRange 0 15, names := namesInst 1, writes := safePortal }
  | 2 => some { ranges := [rng 0 255, rng 0 255, rngBit, rng 2 2000, rngBit], insts := inRange 32 39, names := namesInst 2
                writes := fun i a => pairWrites i (par a 0) (par a 1) (par a 2) (par a 3) (par a 4) }
  | 3 => some { ranges := [rng 100 500, rng 20 1000, srcIn, srcIn, srcIn, srcIn, rng 1 8760], insts := inRange 48 48, names := namesInst 3
                writes := safeOutputs }
  | 4 => some { ranges := [rng 1 240, rng 1 65534], insts := inRange 64 127, names := namesInst 4
                writes := fun i a => [⟨.ilkBt, i - 64, 0, [(0, 0, 1), (15, 8, par a 0), (31, 16, par a 1)]⟩] }
  | _ => none

/-! ### TIME (R429), NETW (R463) -/

/-- A signed parameter of 32 bits within limits. -/
def rngSigned (neg pos : Nat) : List (Nat × Nat) := [(0, pos), (2 ^ 32 - neg, 2 ^ 32 - 1)]
def timeWrites (a : List Nat) : List PresetWrite := [⟨.timeCfg, 0, 0, [(2, 0, par a 0), (27, 25, par a 1)]⟩]
def presetTime : Nat → Option Preset
  | 1 => some { ranges := [rng 1 3, rng 3 7, rngSigned 100000 100000, rngSigned 100000 100000], insts := inRange 0 0, names := namesBlock
                writes := fun _ a => timeWrites a ++ [wholeReg .timeAsym 0 0 (par a 2), wholeReg .timeAsym 1 0 (par a 3)] }
  | 2 => some { ranges := [[(1, 2), (4, 4)], rng 3 7], insts := inRange 0 0, names := namesBlock, writes := fun _ a => timeWrites a }
  | 3 => some { ranges := [rng 0 0xFFFFFFFE, rngSigned 32768 32767, rngSigned 32768 32767], insts := inRange 32 63, names := namesInst 1
                writes := fun i a => [wholeReg .timeTopoKey (i - 32) 0 (par a 0),
                                      ⟨.timeTopoAsym, i - 32, 0, [(15, 0, par a 1), (31, 16, par a 2)]⟩] }
  | _ => none

def netSwitch (_ : Nat) (a : List Nat) : List PresetWrite :=
  [⟨.netCfg, 0, 0, [(0, 0, 1), (1, 1, par a 0), (2, 2, par a 1)]⟩, ⟨.netPCfg, 4, 0, [(0, 0, 1), (19, 8, 1)]⟩,
   ⟨.netVlan, 0, 0, [(11, 0, 1), (16, 12, 0x1F), (21, 17, 0x1F)]⟩]
def netStream (i : Nat) (a : List Nat) : List PresetWrite :=
  let p := i / 32
  let s := i % 32
  [wholeReg .netSfDaLo p s (par a 1), ⟨.netSfDaHi, p, s, [(15, 0, par a 0), (27, 16, par a 2), (31, 31, 1)]⟩,
   ⟨.netSfMeter, p, s, [(15, 0, par a 3), (31, 16, par a 4)]⟩, ⟨.netSfSdu, p, s, [(10, 0, par a 5)]⟩]
def presetNet : Nat → Option Preset
  | 1 => some { ranges := [rngBit, rngBit], insts := inRange 0 0, names := namesBlock, writes := netSwitch }
  | 2 => some { ranges := [rng 0 2], insts := inRange 0 1, names := namesInst 1
                writes := fun i a => [⟨.netPCfg, i, 0, [(0, 0, 1), (2, 1, par a 0), (3, 3, 1), (19, 8, 1)]⟩] }
  | 3 => some { ranges := [rng 0 2, rngBit, rngBit], insts := inRange 2 3, names := namesInst 1
                writes := fun i a => [⟨.netPCfg, i, 0, [(0, 0, 1), (2, 1, par a 0), (3, 3, par a 2), (4, 4, par a 1), (5, 5, par a 1), (19, 8, 1)]⟩] }
  | 4 => some { ranges := [rng 0 0xFFFF, rngWord, rng 1 4094, rng 1 65535, rng 64 65535, rng 64 256], insts := inRange 0 127, names := namesInst 2
                writes := netStream }
  | _ => none

/-! ### TRDP and STLC (R505), TWIN (R537) -/

/-- A mask of `n` leading ones. -/
def leadingOnes (n : Nat) : Nat := 2 ^ 32 - 2 ^ (32 - n)
def trdpDevice (ttdb : Nat) (_ : Nat) (a : List Nat) : List PresetWrite :=
  [⟨.trdpCfg, 0, 0, [(0, 0, 1), (1, 1, ttdb)]⟩, wholeReg .trdpIp 0 0 (par a 0), wholeReg .trdpMask 0 0 (leadingOnes (par a 1)),
   wholeReg .trdpVehIp 0 0 (par a 2), wholeReg .trdpComidBase 0 0 (par a 3)]
def presetTrdp : Nat → Option Preset
  | 1 => some { ranges := [rngWord, rng 9 30, rngWord, rng 1000 0xFFFFFF00], insts := inRange 0 0, names := namesBlock, writes := trdpDevice 1 }
  | 2 => some { ranges := [rngWord, rng 9 30, rngWord, rng 1000 0xFFFFFF00], insts := inRange 0 0, names := namesBlock, writes := trdpDevice 0 }
  | 3 => some { ranges := [rng 1 0xFFFFFFFE], insts := inRange 32 159, names := namesInst 1
                writes := fun i a => [wholeReg .trdpPartnerIp (i - 32) 0 (par a 0)] }
  | _ => none
def stlWrites (c : Nat) (a : List Nat) : List PresetWrite :=
  let any := par a 3 = 255
  [⟨.stlCfg, c, 0, [(0, 0, 1), (1, 1, par a 1), (5, 2, par a 2), (6, 6, b2n any), (14, 8, if any then 0 else par a 3), (31, 16, par a 0)]⟩,
   wholeReg .stlSrc c 0 (par a 4), wholeReg .stlDst c 0 (par a 5),
   ⟨.stlTim, c, 0, [(9, 0, par a 6), (23, 10, par a 7), (31, 24, 16)]⟩, ⟨.stlAge, c, 0, [(15, 0, par a 8)]⟩]
def presetStl : Nat → Option Preset
  | 1 => some { ranges := [rng 0 0xFFFE, rngBit, rng 0 15, [(0, 127), (255, 255)], rngWord, rngWord, rng 1 1000, rng 3 10000, rng 10 65534]
                insts := inRange 0 63, names := namesInst 1, writes := stlWrites }
  | _ => none
def presetTwin : Nat → Option Preset
  | 1 => some { ranges := [rng 1 0xFFFFFFFE, rng 0 15, rngBit], insts := inRange 0 0, names := namesBlock
                writes := fun _ a => [⟨.twinCfg, 0, 0, [(0, 0, 1), (1, 1, par a 2), (5, 2, par a 1)]⟩, wholeReg .twinMateIp 0 0 (par a 0)] }
  | _ => none

/-! ### FLDC (R368), LOAD (R394) -/

def tileWrites (k : Nat) (a : List Nat) : List PresetWrite :=
  let bit (m j : Nat) : Nat := b2n ((par a m).testBit j)
  (List.range 32).flatMap (fun j =>
    let out := bit 0 j
    [PresetWrite.mk .fldCh k j [(0, 0, out), (1, 1, bit 6 j), (5, 2, par a 2), (7, 6, par a 3), (11, 8, par a 4), (12, 12, out * bit 7 j),
       (13, 13, (1 - out) * bit 7 j), (16, 14, j % 8), (17, 17, bit 5 j)],
     PresetWrite.mk .fldFlt k j [(11, 0, par a 1)]])
  ++ ((List.range 8).filter (fun i => (List.range 4).any (fun q => (par a 5).testBit (8 * q + i)))).map
       (fun i => PresetWrite.mk .fldTp k i [(0, 0, 1), (1, 1, 1)])
  ++ [⟨.fldTile, k, 0, [(13, 0, par a 8)]⟩]
def tileWrong (_ : Nat) (a : List Nat) : Option Nat :=
  if par a 5 &&& par a 0 ≠ 0 then some 5
  else if par a 6 &&& par a 0 ≠ par a 6 then some 6
  else none
def presetFld : Nat → Option Preset
  | 1 => some { ranges := [rngWord, rng 1 4095, rng 2 10, rng 0 3, rng 1 10, rngWord, rngWord, rngWord, rng 5 10000], insts := inRange 0 7
                wrong := tileWrong, names := namesInst 1, writes := tileWrites }
  | 2 => some { ranges := [rng 10 200, rng 5 200, rng 20 1000], insts := inRange 8 8, names := namesInst 2
                writes := fun _ a => [⟨.fldTptime, 0, 0, [(7, 0, par a 0), (15, 8, par a 1), (25, 16, par a 2)]⟩] }
  | 3 => some { ranges := [rng 0 255, rng 0 0xFFFF], insts := inRange 16 19, names := namesInst 3
                writes := fun i a => [⟨.fldMrst, i - 16, 0, [(8, 0, par a 0), (31, 16, par a 1)]⟩] }
  | _ => none

/-- LSW_CFG of a preset; THERM 15, OL_EN 1. -/
def switchCfg (n retries retryT inrush clr prio : Nat) : PresetWrite :=
  ⟨.lswCfg, n, 0, [(4, 1, retries), (10, 5, retryT), (18, 11, inrush), (22, 19, 15), (23, 23, clr), (24, 24, 1), (26, 25, prio)]⟩
def heaterWrites (n : Nat) (a : List Nat) : List PresetWrite :=
  (List.range (par a 0)).flatMap (fun k => [switchCfg (n + k) 2 50 50 0 0, PresetWrite.mk .lswDelay (n + k) 0 [(13, 0, k * par a 1)]])
def presetLoad : Nat → Option Preset
  | 1 => some { ranges := [rng 1 255, rng 0 15], insts := inRange 0 31, names := namesInst 1
                writes := fun n a => [switchCfg n (par a 1) 20 (par a 0) 1 1] }
  | 2 => some { ranges := [], insts := inRange 0 31, names := namesInst 1, writes := fun n _ => [switchCfg n 1 50 2 1 2] }
  | 3 => some { ranges := [rng 1 8, rng 0 1000], insts := inRange 0 31, wrong := fun n a => if 8 < n % 8 + par a 0 then some 0 else none
                names := fun n a => (List.range (par a 0)).map (fun k => (1, n + k)), writes := heaterWrites }
  | 4 => some { ranges := [], insts := inRange 0 31, names := namesInst 1, writes := fun n _ => [switchCfg n 1 20 5 1 3] }
  | 0x10 => some { ranges := [rng 5 10000], insts := inRange 32 35, names := namesInst 2
                   writes := fun i a => [⟨.lswBank, i - 32, 0, [(13, 0, par a 0)]⟩] }
  | _ => none

/-! ### FBCK (R264), DLNK (R289) -/

def probeWrite (n v : Nat) : PresetWrite := ⟨.fbFilter, n, 0, [(14, 14, v)]⟩
def indexWrites (n : Nat) (a : List Nat) : List PresetWrite :=
  [⟨.fbIdx, n, 0, [(7, 0, par a 3), (9, 8, 0)]⟩, wholeReg .fbIdxPeriod n 0 (par a 2), probeWrite n (par a 4)]
def presetFb : Nat → Option Preset
  | 1 => some { ranges := [rngBit, rngBit, rng 0 0x7FFFFFFF, rng 0 255, rngBit], insts := inRange 0 63, names := namesInst 1
                writes := fun n a => ⟨.fbCfg, n, 0, [(1, 0, 1), (2, 2, par a 0), (4, 4, par a 1)]⟩ :: indexWrites n a }
  | 2 => some { ranges := [rng 2 12, rngBit, rng 0 0x7FFFFFFF, rng 0 255, rngBit], insts := inRange 0 31, names := namesInst 1
                writes := fun n a => ⟨.fbCfg, n, 0, [(1, 0, 2), (9, 6, par a 0), (4, 4, par a 1)]⟩ :: indexWrites n a }
  | 3 => some { ranges := [rng 8 40, rng 8 32, rngBit, rng 19 255, rng 0 0xFFFFFFFE, rngBit], insts := inRange 0 63, names := namesInst 1
                writes := fun n a => [⟨.fbCfg, n, 0, [(1, 0, 3)]⟩,
                  ⟨.fbSsi, n, 0, [(5, 0, par a 0), (11, 6, par a 1), (12, 12, par a 2), (13, 13, 0), (23, 16, par a 3)]⟩,
                  wholeReg .fbSsiJump n 0 (par a 4), probeWrite n (par a 5)] }
  | _ => none
def presetDlk : Nat → Option Preset
  | 1 => some { ranges := [rng 1 8], insts := inRange 0 7, names := namesInst 1
                writes := fun l a => [⟨.dlkCfg, l, 0, [(0, 0, 1), (3, 1, par a 0 - 1)]⟩] }
  | _ => none

/-! ### AXES (R222), OBSV (R179) -/

def leafInst (i : Nat) : Bool := decide (i < 64 ∧ i % 4 < 2)
def stepInst (i : Nat) : Bool := decide (i < 64 ∧ 2 ≤ i % 4)
/-- Targets and limits of an axis. -/
def axisLimits (n stroke vo vc acc jerk edec creep : Nat) : List PresetWrite :=
  [wholeReg .axisTgtClosed n 0 0, wholeReg .axisTgtOpen n 0 stroke,
   wholeReg .axisProfO n 0 vo, wholeReg .axisProfO n 1 acc, wholeReg .axisProfO n 2 acc, wholeReg .axisProfO n 3 jerk,
   wholeReg .axisProfC n 0 vc, wholeReg .axisProfC n 1 acc, wholeReg .axisProfC n 2 acc, wholeReg .axisProfC n 3 jerk,
   wholeReg .axisEdec n 0 edec, wholeReg .axisEjerk n 0 (4 * jerk), wholeReg .axisCreep n 0 creep]
def axisLinked (home : Nat) (n : Nat) (a : List Nat) : List PresetWrite :=
  let brk := par a 7
  [⟨.axisCfg, n, 0, [(0, 0, 1), (1, 1, 0), (2, 2, 0), (4, 3, home), (7, 7, 1), (8, 8, 1), (9, 9, b2n (brk != 255))]⟩,
   ⟨.axisBrake, n, 0, [(8, 0, if brk = 255 then notConnected else 0x100 + brk)]⟩]
  ++ (if home = 1 then [PresetWrite.mk .axisHome n 0 [(8, 0, par a 8)]] else [])
  ++ axisLimits n (par a 0) (par a 1) (par a 2) (par a 3) (par a 4) (par a 5) (par a 6)
def axisStepper (n : Nat) (a : List Nat) : List PresetWrite :=
  [⟨.axisCfg, n, 0, [(0, 0, 1), (1, 1, 1), (2, 2, 0), (4, 3, 1), (8, 8, 1)]⟩, ⟨.axisStepCfg, n, 0, [(23, 0, par a 6), (31, 24, 20)]⟩,
   ⟨.axisHome, n, 0, [(8, 0, par a 7)]⟩] ++ axisLimits n (par a 0) (par a 1) (par a 1) (par a 2) (par a 3) (par a 4) (par a 5)
/-- EDEC from ACC on, CREEP up to the closing speed, at the places of these parameters. -/
def axisWrong (vc acc edec creep : Nat) (_ : Nat) (a : List Nat) : Option Nat :=
  if par a edec < par a acc then some edec else if par a vc < par a creep then some creep else none
def axisRanges : List (List (Nat × Nat)) :=
  [rng 256 0x7FFFFFFF, rng 1 0x7FFFFFFF, rng 1 0x7FFFFFFF, rng 1 0x7FFFFFFF, rng 1 0x1FFFFFFF, rng 1 0x7FFFFFFF, rng 1 0x7FFFFFFF,
   [(0, 31), (255, 255)]]
def presetAxis : Nat → Option Preset
  | 1 => some { ranges := axisRanges, insts := leafInst, wrong := axisWrong 2 3 5 6, names := namesInst 1, writes := axisLinked 0 }
  | 2 => some { ranges := axisRanges ++ [rng 0 255], insts := stepInst, wrong := axisWrong 2 3 5 6, names := namesInst 1, writes := axisLinked 1 }
  | 3 => some { ranges := [rng 256 0x7FFFFFFF, rng 1 0x7FFFFFFF, rng 1 0x7FFFFFFF, rng 1 0x1FFFFFFF, rng 1 0x7FFFFFFF, rng 1 0x7FFFFFFF,
                           rng 1 0xFFFFFF, rng 0 255]
                insts := stepInst, wrong := axisWrong 1 2 4 5, names := namesInst 1, writes := axisStepper }
  | _ => none

def obsWrites (kind : Nat) (n : Nat) (a : List Nat) : List PresetWrite :=
  [⟨.obsCfg, n, 0, [(0, 0, 1), (1, 1, 1), (2, 2, 1), (3, 3, 1), (4, 4, 1), (6, 5, if kind = 3 then 3 else 2), (7, 7, b2n (kind == 2)),
     (8, 8, b2n (kind != 3))]⟩,
   ⟨.obsModel0, n, 0, [(15, 0, par a 0), (31, 16, par a 1)]⟩, wholeReg .obsStroke n 0 (par a 2), wholeReg .obsLpc n 0 (par a 3),
   ⟨.obsCeil, n, 0, [(11, 0, par a 4), (15, 12, 12), (27, 16, par a 5)]⟩, ⟨.obsRelief, n, 0, [(7, 0, 8)]⟩]
  ++ (if kind = 2 then [PresetWrite.mk .obsBias n 0 [(7, 0, par a 6), (15, 8, 16)], PresetWrite.mk .obsZone n 0 [(7, 0, 4), (19, 16, 0)]]
      else if kind = 3 then [PresetWrite.mk .obsZone n 0 [(7, 0, 0)]] else [])
def obsRanges : List (List (Nat × Nat)) := [rng 1 65535, rng 1 65535, rng 256 0x7FFFFFFF, rng 1 0xFFFFFFFE, rng 50 2000, rng 50 2000]
def presetObs : Nat → Option Preset
  | 1 => some { ranges := obsRanges, insts := leafInst, names := namesInst 1, writes := obsWrites 1 }
  | 2 => some { ranges := obsRanges ++ [rng 0 255], insts := leafInst, names := namesInst 1, writes := obsWrites 2 }
  | 3 => some { ranges := obsRanges, insts := stepInst, names := namesInst 1, writes := obsWrites 3 }
  | _ => none

/-! ### PORT (R136) -/

/-- A share of I_LEAF in percent, in 0.25 A, rounded up. -/
def ampShare (leaf pct : Nat) : Nat := divCeil (4 * leaf * pct) 100
/-- A portal of preset `kind`: 1 sliding plug, 2 single leaf, 3 platform screen door. -/
def portalWrites (kind side f lock step dwell leaf : Nat) (p : Nat) : List PresetWrite :=
  let two := kind != 2
  let train := b2n (kind != 3)
  let opt (b : Bool) (c : Nat) : Nat := if b then c else notConnected
  let st := step == 1
  let cur (r : Nat) (acc run edec hold : Nat) : PresetWrite := ⟨.portalCur, p, r, [(7, 0, acc), (15, 8, run), (23, 16, edec), (31, 24, hold)]⟩
  let leafCur (r : Nat) : PresetWrite := cur r (4 * leaf) (ampShare leaf 40) (ampShare leaf 65) (ampShare leaf 15)
  [⟨.portalCfg, p, 0, [(0, 0, 1), (2, 1, side), (3, 3, b2n two), (4, 4, step), (6, 6, step), (7, 7, train), (8, 8, train), (9, 9, 1)]⟩,
   ⟨.portalInReq, p, 0, [(8, 0, f), (24, 16, opt (kind != 3) (f + 1))]⟩, ⟨.portalInCls, p, 0, [(8, 0, f + 2), (24, 16, opt two (f + 3))]⟩,
   ⟨.portalInLck, p, 0, [(8, 0, f + 4), (24, 16, opt st (f + 5))]⟩, ⟨.portalInAux, p, 0, [(8, 0, f + 6), (24, 16, opt st (f + 7))]⟩,
   ⟨.portalInEmg, p, 0, [(8, 0, f + 8), (24, 16, f + 10)]⟩, ⟨.portalOutLck, p, 0, [(8, 0, 0x100 + lock), (24, 16, f + 11)]⟩,
   ⟨.portalOutWrn, p, 0, [(8, 0, f + 12), (24, 16, f + 13)]⟩, ⟨.portalTDwell, p, 0, [(15, 0, dwell), (31, 16, 2000)]⟩,
   leafCur 0, if two then leafCur 1 else wholeReg .portalCur p 1 0]
  ++ (if st then [cur 2 32 12 20 4] else [])
def portalWrong (_ : Nat) (a : List Nat) : Option Nat := if 18 < par a 1 % 32 then some 1 else none
def portalRanges : List (List (Nat × Nat)) := [rng 0 2, rng 0 242, rng 0 31, rngBit, rng 0 60000, rng 5 60]
def presetPortal : Nat → Option Preset
  | 1 => some { ranges := portalRanges, insts := inRange 0 15, wrong := portalWrong, names := namesInst 1
                writes := fun p a => portalWrites 1 (par a 0) (par a 1) (par a 2) (par a 3) (par a 4) (par a 5) p }
  | 2 => some { ranges := portalRanges, insts := inRange 0 15, wrong := portalWrong, names := namesInst 1
                writes := fun p a => portalWrites 2 (par a 0) (par a 1) (par a 2) (par a 3) (par a 4) (par a 5) p }
  | 3 => some { ranges := [rng 0 2, rng 0 242, rng 0 31, rng 0 60000, rng 5 60], insts := inRange 0 15, wrong := portalWrong, names := namesInst 1
                writes := fun p a => portalWrites 3 (par a 0) (par a 1) (par a 2) 0 (par a 3) (par a 4) p }
  | 0x10 => some { ranges := [rng 20 400, rng 0 1000, srcIn], insts := inRange 0 0, names := namesBlock
                   writes := fun _ a => [⟨.portalSeqBudget, 0, 0, [(9, 0, par a 0), (25, 16, par a 1), (31, 28, 8)]⟩,
                                         ⟨.portalSeqCfg, 0, 0, [(8, 0, par a 2)]⟩] }
  | _ => none

/-- The preset of a code in the section of a tag (R63). RECD and CNTR have none. -/
def presetOf (t code : Nat) : Option Preset :=
  if t = tagSAFE then presetSafe code
  else if t = tagTIME then presetTime code
  else if t = tagNETW then presetNet code
  else if t = tagTRDP then presetTrdp code
  else if t = tagSTLC then presetStl code
  else if t = tagTWIN then presetTwin code
  else if t = tagFLDC then presetFld code
  else if t = tagLOAD then presetLoad code
  else if t = tagFBCK then presetFb code
  else if t = tagDLNK then presetDlk code
  else if t = tagAXES then presetAxis code
  else if t = tagOBSV then presetObs code
  else if t = tagPORT then presetPortal code
  else none

end Sys2Proof.Machine
end

