-- ==== Sys2Proof/Machine/Checks.lean ====
section
/-!
DEFINITION. Sys2Proof/Machine/Checks.lean: the conditions of step 9 of R75 on the values that registers would hold once every entry of
an image has been decoded (R91, R132, R165, R173, R180, R209, R221, R224, R231, R274, R314, R316, R324, R367, R395, R430, R459, R464,
R465, R506, R508, R513, R538). Each is filed under the section that R735 names for it. The registers stand in a State that holds nothing
else.
-/
namespace Sys2Proof.Machine
open Sys2Proof

/-- Whether a list names something twice. -/
def hasDup : List Nat → Bool
  | [] => false
  | a :: l => l.contains a || hasDup l
/-- A source code that names a load switch (R90). -/
def isSwitch (c : Nat) : Bool := decide (0x100 ≤ c ∧ c < 0x120)
/-- A source code that names a field channel. -/
def isChannel (c : Nat) : Bool := decide (c < 256)
/-- Field [hi:lo] of FLD_CH of channel `c`. -/
def State.chF (x : State) (c hi lo : Nat) : Nat := fld (x.reg .fldCh (c / 32) (c % 32)) hi lo

/-- Output fields of the owners: LOCK_ACT, REQ_LAMP, WARN_LAMP, CHIME of every portal and BRAKE_OUT of every axis, those connected. -/
def State.ownerCodes (x : State) : List Nat :=
  ((List.range 16).flatMap (fun p => [x.rf .portalOutLck p 8 0, x.rf .portalOutLck p 24 16, x.rf .portalOutWrn p 8 0, x.rf .portalOutWrn p 24 16])
    ++ (List.range 64).map (fun n => x.rf .axisBrake n 8 0)).filter (fun c => c != notConnected)
/-- OUT of the monitors of field channels. -/
def State.monOuts (x : State) : List Nat := (List.range 16).map (fun i => x.rf .ilkMonFc i 8 0)
/-- Enabled pairs. -/
def State.enabledPairs (x : State) : List Nat := (List.range 40).filter x.pairEn
def State.ch1 (x : State) (i : Nat) : Nat := x.rf .ilkPairA i 7 0
def State.ch2 (x : State) (i : Nat) : Nat := x.rf .ilkPairA i 15 8
/-- Codes of the two-channel inputs (R92). -/
def State.twoChannelCodes (x : State) : List Nat :=
  (x.rf .portalSeqCfg 0 8 0 :: (List.range 16).flatMap (fun p => [x.rf .portalInEmg p 8 0, x.rf .portalInEmg p 24 16])).filter (fun c => c != notConnected)
/-- Closed, locked and stowed switches of the portals in PORT_MASK. -/
def State.ilkSwitches (x : State) : List Nat :=
  x.portMask.flatMap (fun p => [x.rf .ilkPortIn0 p 8 0, x.rf .ilkPortIn0 p 24 16, x.rf .ilkPortIn1 p 8 0, x.rf .ilkPortIn1 p 24 16])

/-! ### SAFE -/

/-- The portals of PORT_MASK, and that they read the same channels as the Portal Sequencer (R324). -/
def State.safePortals (x : State) : Bool :=
  (List.range 16).any (fun p => x.rb .ilkCfg 0 p != x.portalEn p)
    || x.portMask.any (fun p =>
      x.rf .ilkPortIn0 p 8 0 != x.rf .portalInCls p 8 0 || x.rf .ilkPortIn0 p 24 16 != x.rf .portalInCls p 24 16
        || x.rf .ilkPortIn1 p 8 0 != x.rf .portalInLck p 8 0 || x.rf .ilkPortIn1 p 24 16 != x.rf .portalInLck p 24 16
        || x.rf .ilkPortIn2 p 8 0 != x.rf .portalInEmg p 24 16)
/-- The pairs (R324, R367). -/
def State.safePairs (x : State) : Bool :=
  let en := x.enabledPairs
  x.twoChannelCodes.any (fun c => !en.any (fun i => x.ch1 i == c))
    || en.any (fun i => x.ch1 i == x.ch2 i || en.any (fun k => k != i && (x.ch1 i == x.ch1 k || x.ch1 i == x.ch2 k)))
    || (en.filter (fun i => x.rb .ilkPairB i 12)).any (fun i =>
        let t1 := x.rf .ilkPairA i 21 16
        let t2 := x.rf .ilkPairA i 29 24
        t1 == t2 || t1 / 8 != x.ch1 i / 32 || t2 / 8 != x.ch2 i / 32
          || [(x.ch1 i, t1), (x.ch2 i, t2)].any (fun e => x.chF e.1 17 17 == 0 || e.2 != 8 * (e.1 / 32) + x.chF e.1 16 14))
/-- The monitors (R324, R367, R395). -/
def State.safeMonitors (x : State) : Bool :=
  (List.range 4).any (fun i => isSwitch (x.rf .ilkMonSo i 24 16))
    || (List.range 16).any (fun i =>
        let out := x.rf .ilkMonFc i 8 0
        let fb := x.rf .ilkMonFc i 24 16
        isSwitch out || isSwitch fb || (out == notConnected && fb != notConnected) || (isChannel out && x.chF out 0 0 == 0))
/-- The brake tests (R314, R316). -/
def State.safeBrakes (x : State) : Bool :=
  (List.range 64).any (fun n => x.rb .ilkBt n 0 &&
    (!x.rb .axisCfg n 9 || decide (255 < divCeil (x.rf .ilkBtCfg 0 23 16 * x.rf .ilkBt n 15 8) 100)))
def State.safeFails (x : State) : Bool :=
  x.safePortals || x.safePairs || x.safeMonitors || x.safeBrakes || x.ilkSwitches.any (fun c => isChannel c && x.chF c 17 17 == 1)

/-! ### TIME, NETW -/

/-- R430. -/
def State.timeFails (x : State) (touched : List (RegId × Nat × Nat)) (profile : Nat) : Bool :=
  let n := x.rf .timeTopoN 0 5 0
  (profile == 0 && x.rf .timeCfg 0 2 0 == 4) || hasDup ((List.range n).map (fun e => (x.reg .timeTopoKey e).toNat))
    || touched.any (fun q => (q.1 == .timeTopoKey || q.1 == .timeTopoAsym) && decide (n ≤ q.2.1))

/-- B_A of R457, in ns. -/
def State.classABound (x : State) : Nat :=
  800 + (x.rf .netLowMax 0 10 0 + 20) * 8 + (x.rf .netALim 0 19 16 - 1) * (x.rf .netALim 0 8 0 + 20) * 8
/-- The stream filters of a port (R464, R465): DA and VID once, and the ranges that bind where EN is 1. -/
def State.streamFails (x : State) (i : Nat) : Bool :=
  let en := (List.range 32).filter (fun k => bitOf (x.reg .netSfDaHi i k) 31)
  hasDup (en.map (fun k => (x.reg .netSfDaLo i k).toNat + 2 ^ 32 * (fld (x.reg .netSfDaHi i k) 15 0 + 2 ^ 16 * fld (x.reg .netSfDaHi i k) 27 16)))
    || en.any (fun k =>
        let m := x.reg .netSfMeter i k
        let sdu := fld (x.reg .netSfSdu i k) 10 0
        fld m 15 0 == 0 || decide (fld m 31 16 < 64 ∨ sdu < 64 ∨ x.rf .netALim 0 8 0 < sdu))
/-- A gate control list (R464). -/
def State.gateFails (x : State) (i : Nat) : Bool :=
  x.rb .netPGclCfg i 0 &&
    (let l := (List.range (x.rf .netPGclCfg i 5 1)).map (fun e => fld (x.reg .netPGcl i e) 31 8)
     l.contains 0 || l.foldl (· + ·) 0 * 10 != x.rf .netPGclCfg i 23 8 * 25000)
def State.netFails (x : State) : Bool :=
  (x.rb .netCfg 0 1 && !(x.rb .netPCfg 0 0 && x.rb .netPCfg 1 0))
    || (List.range 5).any x.gateFails || (List.range 4).any x.streamFails
    || (List.range 4).any (fun i => x.rb .netPCfg i 4 && decide (x.rf .netPPauseTh i 7 0 ≤ x.rf .netPPauseTh i 15 8))
    || hasDup (((List.range 64).map (fun v => x.rf .netVlan v 11 0)).filter (fun v => v != 0))
    || ((List.range 5).any (fun i => x.rb .netPCfg i 3) && decide (10000 < x.classABound))

/-! ### TRDP, STLC, TWIN -/

/-- R506, R538. The range of TRDP_IP is judged where TRDP is in use (log entry 41). -/
def State.trdpFails (x : State) (profile role : Nat) : Bool :=
  let ip := (x.reg .trdpIp).toNat
  let mate := (x.reg .twinMateIp).toNat
  (profile == 1 && x.rb .trdpCfg 0 1) || (profile == 0 && x.rb .trdpCfg 0 0 && decide (ip < 0x0A000000 ∨ 0x0A7FFFFF < ip))
    || (role != 0 && x.reg .trdpVehIp == 0)
    || hasDup (((List.range 128).map (fun k => (x.reg .trdpPartnerIp k).toNat)).filter (fun a => a != 0))
    || x.enabledConns.any (fun c => !x.rb .stlCfg c 6 && x.reg .trdpPartnerIp (x.rf .stlCfg c 14 8) == 0)
    || (x.rb .twinCfg 0 0 && (mate == ip || mate == (x.reg .trdpVehIp).toNat))
/-- R506, R508. -/
def State.stlFails (x : State) : Bool :=
  hasDup (x.enabledConns.map (fun c => x.rf .stlCfg c 31 16 * 128 + x.rf .stlCfg c 14 8))
    || x.enabledConns.any (fun c => [x.reg .stlSrc c, x.reg .stlDst c].any (fun v => v == 0 || v == 0xFFFFFFFF))
/-- R538. -/
def State.twinFails (x : State) (role : Nat) : Bool := x.rb .twinCfg 0 0 != (role != 0)

/-! ### FLDC, LOAD -/

/-- R367. -/
def State.fldFails (x : State) : Bool :=
  let edges := (((List.range 64).filter (fun n => x.rf .obsEdge n 1 0 == 2)).map (fun n => x.rf .obsEdge n 15 8))
  x.ownerCodes.any (fun c => isChannel c && x.chF c 0 0 == 0)
    || (List.range 4).any (fun i => isChannel (x.rf .fldMrst i 8 0) && x.chF (x.rf .fldMrst i 8 0) 0 0 == 1)
    || ((List.range 256).filter (fun c => x.chF c 17 17 == 1)).any (fun c =>
        !bitOf (x.reg .fldTp (c / 32) (x.chF c 16 14)) 0 || edges.contains c)
/-- R395. -/
def State.loadFails (x : State) : Bool :=
  (((List.range 16).map (fun p => x.rf .portalOutLck p 8 0)) ++ (List.range 64).map (fun n => x.rf .axisBrake n 8 0)).any
    (fun c => isSwitch c && x.rb .lswCfg (c - 0x100) 0)

/-! ### FBCK, DLNK -/

/-- Ports in use that feed an axis. -/
def State.feeders (x : State) (n : Nat) : List Nat := (List.range 64).filter (fun m => x.rf .fbCfg m 1 0 != 0 && x.fedAxis m == n)
/-- R231, R513. -/
def State.fbFails (x : State) (role : Nat) : Bool :=
  (List.range 64).any (fun n =>
    let f := x.feeders n
    let ports := if f == [] then (List.range 64).filter (fun m => x.fedAxis m == n) else f
    decide (1 < f.length) || (f == [] && x.rb .axisCfg n 0) || (x.rf .obsEdge n 1 0 == 1 && !ports.any (fun m => x.rb .fbFilter m 14))
      || (role != 0 && x.rb .axisCfg n 0 && f.any (fun m => x.rf .fbCfg m 1 0 == 3)))
  || (List.range 64).any (fun m => x.rf .fbCfg m 1 0 == 3 && decide (1600 < (x.rf .fbSsi m 5 0 + 1) * (x.rf .fbSsi m 23 16 + 1)))
/-- R274. -/
def State.dlkFails (x : State) : Bool :=
  let on := (List.range 64).filter x.onLink
  on.any (fun n => let q := x.axisStage n; !x.rb .dlkCfg q.1 0 || decide (x.rf .dlkCfg q.1 3 1 < q.2))
    || hasDup (on.map (fun n => 8 * (x.axisStage n).1 + (x.axisStage n).2))

/-! ### AXES, OBSV, PORT -/

/-- R221, R367, R395. -/
def State.axesFails (x : State) : Bool :=
  hasDup x.ownerCodes
    || (List.range 16).any (fun p => (x.presentAxes p).any (fun n => !x.rb .axisCfg n 0))
    || ((List.range 64).filter (fun n => x.rb .axisCfg n 0)).any (fun n =>
        let o (j : Nat) : Nat := (x.reg .axisProfO n j).toNat
        let c (j : Nat) : Nat := (x.reg .axisProfC n j).toNat
        let e := (x.reg .axisEdec n).toNat
        let ej := (x.reg .axisEjerk n).toNat
        (List.range 4).any (fun j => o j == 0 || c j == 0) || e == 0 || ej == 0 || x.reg .axisCreep n == 0
          || decide (e < o 2 ∨ e < c 2 ∨ ej < o 3 ∨ ej < c 3) || x.reg .axisTgtClosed n == x.reg .axisTgtOpen n)
    || ((List.range 64).filter (fun n => x.rb .axisCfg n 0 && x.rb .obsCfg n 0)).any (fun n => x.rb .axisCfg n 1 || x.rb .obsCfg n 9 != x.rb .axisCfg n 2)
/-- R180. -/
def State.obsFails (x : State) : Bool :=
  ((List.range 64).filter (fun n => x.rb .obsCfg n 0)).any (fun n =>
    x.rf .obsModel0 n 15 0 == 0 || x.rf .obsModel0 n 31 16 == 0 || x.reg .obsLpc n == 0 || decide ((x.reg .obsStroke n).toNat < 256))
/-- R91, R132; S_MIN 0 stands for 16. -/
def State.portFails (x : State) (profile : Nat) : Bool :=
  let sMin := if x.rf .portalSeqBudget 0 31 28 = 0 then 16 else x.rf .portalSeqBudget 0 31 28
  let need (p r : Nat) : Nat := let w := x.reg .portalCur p r; max (fld w 7 0 * sMin) (16 * fld w 23 16)
  (profile == 0 && x.enabledPortals != [] && x.rf .portalSeqCfg 0 8 0 == notConnected)
    || x.enabledPortals.any (fun p => decide (64 * x.rf .portalSeqBudget 0 9 0 < need p 0 + (if x.rb .portalCfg p 3 then need p 1 else 0)))

/-! ### All of them -/

/-- Whether a condition filed under section `t` fails: those of a single register of its block among `touched`, and those above. -/
def State.sectionFails (x : State) (touched : List (RegId × Nat × Nat)) (profile role t : Nat) : Bool :=
  touched.any (fun q => tagBlocks.getD t .sys == (desc q.1).block && !comboOk q.1 q.2.1 q.2.2 (x.reg q.1 q.2.1 q.2.2).toNat)
    || (if t = tagSAFE then x.safeFails
        else if t = tagTIME then x.timeFails touched profile
        else if t = tagNETW then x.netFails
        else if t = tagTRDP then x.trdpFails profile role
        else if t = tagSTLC then x.stlFails
        else if t = tagTWIN then x.twinFails role
        else if t = tagFLDC then x.fldFails
        else if t = tagLOAD then x.loadFails
        else if t = tagFBCK then x.fbFails role
        else if t = tagDLNK then x.dlkFails
        else if t = tagAXES then x.axesFails
        else if t = tagOBSV then x.obsFails
        else if t = tagPORT then x.portFails profile
        else false)

/-- The section that R735 names for the first condition that fails, in the order of R59. -/
def State.crossFails (x : State) (touched : List (RegId × Nat × Nat)) (profile role : Nat) : Option Nat :=
  (List.range 16).find? (fun t => x.sectionFails touched profile role t)

end Sys2Proof.Machine
end

