-- ==== Sys2Proof/Machine/Catalogue.lean ====
section
/-!
DEFINITION. Sys2Proof/Machine/Catalogue.lean: the catalogue image: its check (R54 to R75, R735), selection and application at start
(R78, R79, R678), commits of catalogue and firmware with the safety password (R81 to R83, R599 to R602, R612), and the CAT registers.
-/
namespace Sys2Proof.Machine
open Sys2Proof

/-! ### What a check answers -/

/-- A failed check: event, tag (0 for the header), image byte offset (R73, R735). -/
structure CatErr where
  event : Nat
  tag : Nat
  offset : Nat
  deriving DecidableEq, Repr

/-- A section as it stands in the image: its place in R59, LEVEL, offset of its header, payload. -/
structure Section where
  tag : Nat
  level : Nat
  off : Nat
  payload : List Byte
  deriving DecidableEq, Repr

/-- A register write of an image, with its section. -/
structure CatWrite where
  tag : Nat
  r : RegId
  i : Nat
  j : Nat
  v : Word
  deriving DecidableEq, Repr

/-- An image that passed its check: the header fields that later rules use, the sections, DEVC, and the writes in the order of the image. -/
structure Image where
  version : Nat
  floor : Nat
  profile : Nat
  digest : List Byte
  vehicleId : List Byte
  sections : List Section
  twinRole : Nat
  end1 : Nat
  safe : List Byte
  writes : List CatWrite
  deriving DecidableEq, Repr

/-- The first error of a list whose condition holds. -/
def firstErr : List (Bool × CatErr) → Option CatErr
  | [] => none
  | (b, e) :: l => if b then some e else firstErr l

/-- An error of the header. -/
def hdrErr (event offset : Nat) : CatErr := ⟨event, 0, offset⟩

/-! ### The image in its slot -/

/-- Bytes [off, off + n) of catalogue slot `k` (R50, R51). -/
def State.catBytes (s : State) (k off n : Nat) : List Byte := s.flashBytes (flashSlotSize * (2 + k) + off) n
/-- A little-endian header field of catalogue slot `k`. -/
def State.catHdr (s : State) (k off n : Nat) : Nat := leNat (s.catBytes k off n)

/-- Steps 1 to 5 of R75. A SECTION_COUNT of all ones (R72) fails step 1 as any other outside 2 to 16 does; the order of the checks inside a
step is the model's (log entry 21). -/
def State.catCheck5 (s : State) (k : Nat) : Option CatErr :=
  let h := s.catBytes k 0 256
  let len := leAt h 8 4
  match firstErr [
    (decide (h.take 4 ≠ ascii "SLFC"), hdrErr 0x1001 0), (decide (leAt h 4 2 ≠ 1), hdrErr 0x1001 4), (decide (leAt h 6 2 ≠ 0x100), hdrErr 0x1001 6),
    (decide (1 < byteAt h 0x16), hdrErr 0x1001 0x16), (decide (leAt h 0x14 2 < 2 ∨ 16 < leAt h 0x14 2), hdrErr 0x1001 0x14),
    (decide (byteAt h 0x17 ≠ 0), hdrErr 0x1001 0x17), (!allZero (slice h 0x38 8), hdrErr 0x1001 0x38), (!allZero (slice h 0xD0 48), hdrErr 0x1001 0xD0),
    (decide (0x400000 < len), hdrErr 0x1002 8), (decide (len < 0x130 ∨ len % 4 ≠ 0), hdrErr 0x1001 8),
    (decide (s.enrolledId = [] ∨ slice h 0x30 8 ≠ s.enrolledId), hdrErr 0x1003 0x30)] with
  | some e => some e
  | none =>
    let dig := sha384 (h.take 0x40 ++ s.catBytes k 0x100 (len - 0x100))
    let key := s.sc.enrolled.getLast?.getD (0, 0)
    if slice h 0x40 48 ≠ dig then some (hdrErr 0x1004 0x40)
    else if !ecdsaVerify key.1 key.2 dig (beAt h 0x70 48) (beAt h 0xA0 48) then some (hdrErr 0x1005 0x70)
    else none

/-- Step 6, and at start step 7. -/
def State.catCheck7 (s : State) (k : Nat) (atStart : Bool) : Option CatErr :=
  let v := s.catHdr k 0xC 4
  firstErr [(decide (v < 1 ∨ 0xFFFFFFFE < v), hdrErr 0x1006 0xC), (decide (v < s.catHdr k 0x10 4), hdrErr 0x1006 0x10),
    (decide (v < s.cat.floor), hdrErr 0x1006 0xC),
    (atStart && decide ((s.voteOf (2 + k)).value ≠ some (s.catBytes k 0x40 48)), hdrErr 0x1007 0x40)]

/-! ### Step 8: the section walk (R57, R60, R72 to R74) -/

/-- Read `n` sections of an image of `len` bytes from offset `pos` on: the sections, and where the walk ended. The order of the checks inside
a section, and the tag 0 and the offset of a header that does not fit whole, are the model's (log entry 21). -/
def walkSections (img : List Byte) (len : Nat) : Nat → Nat → List Section → Except CatErr (List Section × Nat)
  | 0, pos, acc => .ok (acc, pos)
  | n + 1, pos, acc =>
    if len < pos + 16 then .error (hdrErr 0x1002 pos)
    else
      let h := slice img pos 16
      let w := leAt h 0 4
      let plen := leAt h 8 4
      let pad := (4 - plen % 4) % 4
      let body := slice img (pos + 16) plen
      if plen = 0xFFFFFFFF ∨ len < pos + 16 + plen + pad then .error ⟨0x1002, w, pos + 8⟩
      else if leAt h 12 4 ≠ crc32c (h.take 12 ++ body) then .error ⟨0x1008, w, pos + 12⟩
      else match tagIndex w with
        | none => .error ⟨0x100A, w, pos⟩
        | some t =>
          match firstErr [
            (acc.any (fun q => q.tag == t), CatErr.mk 0x1009 w pos),
            (decide (1 < byteAt h 4 ∨ t = tagDEVC ∧ byteAt h 4 ≠ 0), CatErr.mk 0x100B w (pos + 4)),
            (!allZero (slice h 5 3), CatErr.mk 0x100B w (pos + 5)),
            (!allZero (slice img (pos + 16 + plen) pad), CatErr.mk 0x100B w (pos + 16 + plen))] with
          | some e => .error e
          | none => walkSections img len n (pos + 16 + plen + pad) (acc ++ [Section.mk t (byteAt h 4) pos body])

/-- Step 8 whole. -/
def walkImage (img : List Byte) (len count : Nat) : Except CatErr (List Section) :=
  match walkSections img len count 0x100 [] with
  | .error e => .error e
  | .ok (l, pos) =>
    if pos ≠ len then .error (hdrErr 0x1001 pos)
    else if !l.any (fun q => q.tag == tagDEVC) then .error ⟨0x100C, tagWord tagDEVC, 0⟩
    else if !l.any (fun q => q.tag == tagSAFE) then .error ⟨0x100C, tagWord tagSAFE, 0⟩
    else .ok l

/-! ### Step 9: the entries (R62 to R68) -/

/-- The registers as the image would leave them, in a State that holds nothing else, and the writes so far. -/
structure Scratch where
  x : State := {}
  writes : List CatWrite := []
  deriving DecidableEq, Repr

/-- Take a write of a section. -/
def Scratch.put (q : Scratch) (t : Nat) (r : RegId) (i j : Nat) (v : Word) : Scratch :=
  { x := if (desc r).access = .w1c then q.x else q.x.setReg r i j v, writes := q.writes ++ [CatWrite.mk t r i j v] }

/-- Set fields of a register, as a preset does. -/
def Scratch.preset (t : Nat) (q : Scratch) (w : PresetWrite) : Scratch :=
  q.put t w.r w.i w.j (w.fs.foldl (fun v f => setFld v f.1 f.2.1 f.2.2) (q.x.reg w.r w.i w.j))

/-- The registers that some write has touched. -/
def Scratch.touched (q : Scratch) : List (RegId × Nat × Nat) := (q.writes.map (fun w => (w.r, w.i, w.j))).eraseDups

/-- Whether every field of a value is one of its encodings and every reserved bit is 0 (R21). -/
def fieldsOk (r : RegId) (v : Word) : Bool :=
  (desc r).fields.all (fieldOk v.toNat) && (v.toNat &&& (2 ^ 32 - 1 - fieldMask (desc r))) == 0

/-- The first parameter outside its range. -/
def firstOutside : List (List (Nat × Nat)) → List Nat → Nat → Option Nat
  | r :: rs, v :: vs, k => if r.any (fun b => decide (b.1 ≤ v ∧ v ≤ b.2)) then firstOutside rs vs (k + 1) else some k
  | _, _, _ => none

/-- Preset entries from offset `off` of the image on (R63, R64, R68); `named` is what the entries before this one name. PARAM_COUNT 0xFFFF
is named as the reserved field (R72) and not by ENTRY_LEN (R64): log entry 21. -/
def basicEntries (t : Nat) : Nat → Nat → List Byte → List (Nat × Nat) → Scratch → Except CatErr Scratch
  | 0, _, _, _, q => .ok q
  | fuel + 1, off, b, named, q =>
    let w := tagWord t
    let elen := leAt b 0 2
    let inst := byteAt b 2
    let code := leAt b 4 2
    let count := leAt b 6 2
    let prm := (List.range count).map (fun i => leAt b (8 + 4 * i) 4)
    if b = [] then .ok q
    else match firstErr [
        (decide (b.length < 8), CatErr.mk 0x1002 w off), (decide (elen = 0xFFFF), CatErr.mk 0x1002 w off),
        (decide (count = 0xFFFF), CatErr.mk 0x1002 w (off + 6)), (decide (elen ≠ 8 + 4 * count ∨ b.length < elen), CatErr.mk 0x1002 w off),
        (decide (inst = 0xFF), CatErr.mk 0x100B w (off + 2)), (decide (byteAt b 3 ≠ 0), CatErr.mk 0x100B w (off + 3)),
        (decide (code = 0xFFFF), CatErr.mk 0x100B w (off + 4))] with
      | some e => .error e
      | none => match presetOf t code with
        | none => .error ⟨0x100B, w, off + 4⟩
        | some ps =>
          let names := ps.names inst prm
          if count ≠ ps.ranges.length then .error ⟨0x100B, w, off + 6⟩
          else if !ps.insts inst then .error ⟨0x100B, w, off + 2⟩
          else match firstOutside ps.ranges prm 0, ps.wrong inst prm with
            | some k, _ => .error ⟨0x100B, w, off + 8 + 4 * k⟩
            | none, some k => .error ⟨0x100B, w, off + 8 + 4 * k⟩
            | none, none =>
              if names.any (fun n => named.contains n) then .error ⟨0x100B, w, off + 2⟩
              else
                let q1 := (ps.writes inst prm).foldl (Scratch.preset t) q
                let q2 := if t = tagTIME ∧ code = 3 then Scratch.preset t q1 ⟨.timeTopoN, 0, 0, [(5, 0, max (q1.x.rf .timeTopoN 0 5 0) (inst - 31))]⟩ else q1
                basicEntries t fuel (off + elen) (b.drop elen) (named ++ names) q2

/-- The values of a write entry, in turn. An entry that writes a register it may not write is named by the offset of that register's VALUE
(log entry 21). -/
def expertWords (t a off : Nat) : List Nat → Scratch → Except CatErr Scratch
  | [], q => .ok q
  | v :: vs, q => match findReg a with
    | none => .error ⟨0x100B, tagWord t, off⟩
    | some (r, i, j) =>
      let acc := (desc r).access
      let val : Word := BitVec.ofNat 32 v
      if (acc = .rw ∨ acc = .rwl ∨ acc = .w1c) ∧ fieldsOk r val then expertWords t (a + 4) (off + 4) vs (q.put t r i j val)
      else .error ⟨0x100B, tagWord t, off⟩

/-- The address range of a tag's block (R66). -/
def tagRange (t : Nat) : Nat × Nat := match blockRanges.find? (fun r => r.2.2 == tagBlocks.getD t .sys) with
  | some r => (r.1, r.2.1)
  | none => (1, 0)

/-- Write entries (R65 to R67). -/
def expertEntries (t : Nat) : Nat → Nat → List Byte → Scratch → Except CatErr Scratch
  | 0, _, _, q => .ok q
  | fuel + 1, off, b, q =>
    let w := tagWord t
    let a := leAt b 0 4
    let count := leAt b 4 2
    let g := tagRange t
    if b = [] then .ok q
    else match firstErr [
        (decide (b.length < 8), CatErr.mk 0x1002 w off), (decide (count = 0xFFFF ∨ b.length < 8 + 4 * count), CatErr.mk 0x1002 w (off + 4)),
        (decide (count = 0 ∨ 4096 < count), CatErr.mk 0x100B w (off + 4)), (decide (leAt b 6 2 ≠ 0), CatErr.mk 0x100B w (off + 6)),
        (decide (a % 4 ≠ 0 ∨ a < g.1 ∨ g.2 < a + 4 * count - 1), CatErr.mk 0x100B w off)] with
      | some e => .error e
      | none => match expertWords t a (off + 8) ((List.range count).map (fun i => leAt b (8 + 4 * i) 4)) q with
        | .error e => .error e
        | .ok q1 => expertEntries t fuel (off + 8 + 4 * count) (b.drop (8 + 4 * count)) q1

/-- A section whose own bytes fail before its entries: DEVC (R62), the prefix of SAFE (R62, R70). -/
def sectionErr (c : Section) : Option CatErr :=
  let w := tagWord c.tag
  let p := c.payload
  let o := c.off + 16
  if c.tag = tagDEVC then
    firstErr [(decide (p.length ≠ 8), CatErr.mk 0x1002 w (c.off + 8)), (decide (2 < byteAt p 0), CatErr.mk 0x100B w o),
      (decide (1 < byteAt p 1), CatErr.mk 0x100B w (o + 1)), (!allZero (slice p 2 6), CatErr.mk 0x100B w (o + 2))]
  else if c.tag = tagSAFE then
    firstErr [(decide (p.length < 72), CatErr.mk 0x1002 w (c.off + 8)),
      (decide (leAt p 4 4 < 10000 ∨ 200000 < leAt p 4 4), CatErr.mk 0x100B w (o + 4))]
  else none

/-- One section of step 9. -/
def sectionEntries (c : Section) (q : Scratch) : Except CatErr Scratch :=
  match sectionErr c with
  | some e => .error e
  | none =>
    let skip := if c.tag = tagSAFE then 72 else 0
    let b := c.payload.drop skip
    if c.tag = tagDEVC then .ok q
    else if c.level = 0 then basicEntries c.tag (b.length + 1) (c.off + 16 + skip) b [] q
    else expertEntries c.tag (b.length + 1) (c.off + 16 + skip) b q

/-- Every section, as they stand in the image. -/
def imageEntries : List Section → Scratch → Except CatErr Scratch
  | [], q => .ok q
  | c :: l, q => match sectionEntries c q with
    | .error e => .error e
    | .ok q1 => imageEntries l q1

/-- The section of a tag. -/
def sectionOf (l : List Section) (t : Nat) : Option Section := l.find? (fun c => c.tag == t)
/-- The payload of a section, none of it where it is absent. -/
def payloadOf (l : List Section) (t : Nat) : List Byte := match sectionOf l t with
  | some c => c.payload
  | none => []

/-- Steps 9 and 10: the entries, the conditions on what registers would hold, ILK_PCRC (R71). -/
def decodeImage (l : List Section) (profile : Nat) : Except CatErr Scratch :=
  match imageEntries l {} with
  | .error e => .error e
  | .ok q =>
    let off (t : Nat) : Nat := match sectionOf l t with
      | some c => c.off
      | none => 0
    match q.x.crossFails q.touched profile (byteAt (payloadOf l tagDEVC) 0) with
    | some t => .error ⟨0x100B, tagWord t, off t⟩
    | none =>
      if crc32c q.x.ilkParams ≠ leAt (payloadOf l tagSAFE) 0 4 then .error ⟨0x100D, tagWord tagSAFE, off tagSAFE + 16⟩
      else .ok q

/-- Steps 8 to 10: the image of a slot, its sections read and its entries decoded. -/
def State.catDecode (s : State) (k : Nat) : Except CatErr Image :=
  let len := s.catHdr k 8 4
  match walkImage (s.catBytes k 0 len) len (s.catHdr k 0x14 2) with
  | .error e => .error e
  | .ok l => match decodeImage l (s.catHdr k 0x16 1) with
    | .error e => .error e
    | .ok q =>
      let devc := payloadOf l tagDEVC
      .ok { version := s.catHdr k 0xC 4, floor := s.catHdr k 0x10 4, profile := s.catHdr k 0x16 1, digest := s.catBytes k 0x40 48
            vehicleId := s.catBytes k 0x20 16, sections := l, twinRole := byteAt devc 0, end1 := byteAt devc 1
            safe := payloadOf l tagSAFE, writes := q.writes }

/-- The whole check of a slot (R75): step 7 at start only. -/
def State.catCheck (s : State) (k : Nat) (atStart : Bool) : Except CatErr Image :=
  match s.catCheck5 k, s.catCheck7 k atStart with
  | some e, _ => .error e
  | none, some e => .error e
  | none, none => s.catDecode k

/-! ### Rejection -/

/-- An image or a commit is rejected: the count and CAT_STATUS, CAT_ERR_TAG and CAT_ERR_OFFSET (R86, R87). A rejection that no field of an
image caused leaves tag and offset 0 (log entry 66). -/
def State.catReject (s : State) (event tag offset : Nat) : State :=
  { s with cat := { s.cat with rejectCnt := satInc 0xFFFFFFFE s.cat.rejectCnt, errEvent := event, errTag := tag, errOffset := offset } }

/-- An image fails a check: its event names the slot, the tag and the offset (R73). -/
def State.catErr (s : State) (k : Nat) (e : CatErr) : State :=
  (s.catReject e.event e.tag e.offset).raise e.event (k + 1) (leBytes 4 e.tag ++ leBytes 4 e.offset)

/-! ### Maintenance-only states (R640, R641, R660) -/

/-- Switch domains off. -/
def State.domainsOff (s : State) (l : List Nat) : State :=
  { s with sys := { s.sys with domOn := l.foldl (fun m b => if m.testBit b then m - 2 ^ b else m) s.sys.domOn } }

/-- Enter a maintenance-only state. The isolation links run there too, with ACTIVE 0 in every frame: those not started yet start now. -/
def State.enterMaint (s : State) (st : StartState) : State :=
  let s1 := (State.domainsOff { s with sys := { s.sys with start := st } } [2, 3, 4, 5, 6, 7, 8, 10]).raise 0x0008 noInst (leBytes 1 st.code)
  forEach ((List.range 12).filter (fun k => (s1.flink k).phase == 0)) State.startLink s1

/-! ### Selection at start (R79) -/

/-- Which slot is used: 0 or 1. With both valid, the higher VERSION, slot A where VERSION and DIGEST are the same. -/
def chooseSlot (a b : Except CatErr Image) : Option (Nat × Image) := match a, b with
  | .ok x, .ok y => if y.version < x.version ∨ (x.version = y.version ∧ x.digest = y.digest) then some (0, x)
                    else if x.version < y.version then some (1, y) else none
  | .ok x, .error _ => some (0, x)
  | .error _, .ok y => some (1, y)
  | .error _, .error _ => none

/-- A slot's result noted: CAT_STATUS.SLOT_A and SLOT_B, and the rejection of an invalid one. -/
def State.noteSlot (s : State) (k : Nat) (r : Except CatErr Image) : State :=
  let n := match r with
    | .ok _ => 1
    | .error _ => 2
  let s1 := { s with cat := if k = 0 then { s.cat with slotA := n } else { s.cat with slotB := n } }
  match r with
  | .ok _ => s1
  | .error e => s1.catErr k e

/-- Two valid images with one VERSION (R79). -/
def State.enterConflict (s : State) : State :=
  let s1 := (s.catReject 0x1015 0 0xC).catReject 0x1015 0 0xC
  (State.raise { s1 with cat := { s1.cat with slotA := 3, slotB := 3, conflict := true } } 0x1015 noInst).enterMaint .conflict

/-- Slots A and B are checked and one image is chosen. -/
def State.catSelect (s : State) : State :=
  when_ (s.sys.start == .config && s.cat.runSlot == 0) (fun s =>
    let a := s.catCheck 0 true
    let b := s.catCheck 1 true
    let s1 := (s.noteSlot 0 a).noteSlot 1 b
    match chooseSlot a b with
    | some (k, im) =>
      let s2 := { s1 with
        cat := { s1.cat with runSlot := k + 1, version := im.version, imageFloor := im.floor, digest := im.digest, vehicleId := im.vehicleId, safe := im.safe }
        sys := { s1.sys with profile := im.profile } }
      s2.raise 0x1017 (k + 1) (leBytes 4 im.version)
    | none => match a, b with
      | .ok _, .ok _ => s1.enterConflict
      | _, _ => s1.enterMaint .noImage) s

def execCatalogueSelect (s : State) : Host.Outcome State Fault Refusal := run s State.catSelect

/-! ### Application and the lock (R78, R678) -/

/-- One write of an image takes effect as a write of the register does (R42); a table that is not written takes none (R180). -/
def State.catApplyWrite (s : State) (w : CatWrite) : State :=
  if w.r = .obsTblData ∧ 2 ≤ (s.ob w.i).tblSel then s.tblNext w.i else s.effect w.r w.i w.j w.v

/-- SYS_SECT (R693). -/
def sectBits (l : List Section) : Nat := (l.map (fun c => 2 ^ c.tag + c.level * 2 ^ (16 + c.tag))).foldl (· + ·) 0

/-- Domains whose condition in R659 holds. -/
def State.idleDomains (s : State) : List Nat :=
  let half (h : Nat) : Bool := (List.range 32).all (fun i => !s.rb .axisCfg (32 * h + i) 0 && s.rf .fbCfg (32 * h + i) 1 0 == 0)
  let when (b : Bool) (d : Nat) : List Nat := if b then [d] else []
  when (half 0) 2 ++ when (half 1) 3 ++ when ((List.range 64).all (fun n => s.rf .fbCfg n 1 0 != 2)) 4
    ++ when ((List.range 8).all (fun l => !s.rb .dlkCfg l 0)) 5 ++ when (!s.rb .netPCfg 0 0 && !s.rb .netPCfg 1 0) 7
    ++ when (!s.rb .netPCfg 2 0 && !s.rb .netPCfg 3 0) 8 ++ when (!s.rb .twinCfg 0 0) 10

/-- The image that passed its check (its slot is protected since, R52) is applied: its sections in the order of R59, the lock is set, domains not in use are switched off, and what starts with the
catalogue starts: observer tables (R176), drive links (R285), isolation links (R361). -/
def State.catApply (s : State) : State :=
  when_ (s.sys.start == .config && s.cat.runSlot != 0 && !s.sys.lock) (fun s =>
    match s.catDecode (s.cat.runSlot - 1) with
    | .error _ => s
    | .ok im =>
      let part (s : State) (t : Nat) : State :=
        let s1 := forEach (im.writes.filter (fun w => w.tag == t)) State.catApplyWrite s
        if t = tagSAFE then s1.loadPcrcRef (leAt im.safe 0 4) else s1
      let s1 := forEach (List.range 16) part s
      let s2 := { s1 with sys := { s1.sys with twinRole := im.twinRole, end1 := im.end1, sect := sectBits im.sections, lock := true, start := .selftest } }
      let s3 := s2.domainsOff s2.idleDomains
      let s4 := forEach (List.range 64) State.loadTables s3
      let s5 := forEach ((List.range 8).filter (fun l => s4.rb .dlkCfg l 0)) State.dlStart s4
      forEach (List.range 12) State.startLink s5) s

def execCatalogueApply (s : State) : Host.Outcome State Fault Refusal := run s State.catApply

/-! ### The safety password (R70, R71, R82, R83, R612) -/

/-- Password failures and lockout, as parameter 0x71 holds them: the count, then the RTC time of the lockout's start plus 1, 0 for none. -/
def State.savePw (s : State) : State :=
  s.saveParam 0x71 (leBytes 4 s.cat.pwFail ++ leBytes 8 (if s.cat.lockout then s.cat.lockoutUntil - 900 + 1 else 0))

/-- The password of a commit, where its tag passes. -/
def State.commitPassword (s : State) (b : List Byte) : Option (List Byte) :=
  let p := cmdParams b
  let kek := (hmac384 (s.key (cmdKeyOf b)).key (ascii "SLF-PW" ++ beBytes 8 (cmdCounter b))).take 32
  if byteAt p 1 = 0 then none
  else (gcmDecrypt kek (slice p 52 12) (b.take 44) (slice p 64 64) (slice p 128 16)).map (fun w => w.take (byteAt p 1))

/-- Whether the password of a commit matches the values of a SAFE payload. -/
def State.passwordOk (s : State) (b safe : List Byte) : Bool := match s.commitPassword b with
  | none => false
  | some w => pbkdf2 w (slice safe 8 16) (leAt safe 4 4) == slice safe 24 48

/-- A password that does not match. From the fifth in a row on, each starts the lockout. -/
def State.pwFailed (s : State) : State :=
  let n := satInc 0xFFFFFFFF s.cat.pwFail
  let c := { s.cat with pwFail := n, lockout := decide (5 ≤ n), lockoutUntil := if 5 ≤ n then s.bk.rtc + 900 else s.cat.lockoutUntil }
  (State.savePw { s with cat := c }).raise 0x1012 noInst

/-- The 15 minutes of the lockout end, by the real-time clock. -/
def State.pwLockoutEnd (s : State) : State :=
  when_ s.cat.lockout (fun s =>
    let s1 := s.pass (sec (s.cat.lockoutUntil - s.bk.rtc))
    State.savePw { s1 with cat := { s1.cat with lockout := false } }) s

def execCatPwLockoutEnd (s : State) : Host.Outcome State Fault Refusal := run s State.pwLockoutEnd

/-! ### Commits (R81, R602) -/

/-- A commit ends: its result goes to whoever sent it. -/
def State.commitEnd (s : State) (c : Commit) (code : Nat) : State :=
  s.cmdOutcome (if c.conn = 0xFFFF then none else some c.conn) c.cmd s.tt s.quality.code code

/-- A commit is rejected after its check (R81, R602): reasons 4 to 6 of log entry 66. -/
def State.commitFails (s : State) (c : Commit) (fw : Bool) (reason : Nat) : State :=
  (s.raise (if fw then 0x2018 else 0x1011) noInst (leBytes 1 (Config.codeOf .commitReason reason).toNat)).commitEnd c (if fw then 0x2018 else 0x1011)

/-- A catalogue commit is accepted: the commit record, 0x1010, and the safety change log where the SAFE payload changes (R81, R326). -/
def State.commitAccept (s : State) (c : Commit) (im : Image) : State :=
  let s1 := (s.saveParam (2 + c.slot) im.digest).raise 0x1010 (c.slot + 1)
  let s2 := if im.safe = s.cat.safe then s1
    else s1.safetyLog 1 (cmdKeyOf c.cmd) s.cat.version im.version s.ilk.pcrcRef (leAt im.safe 0 4) im.digest
  s2.commitEnd c 0

/-- The check of a catalogue commit ends: the image, then the password where R82 requires it. -/
def State.catCommitDone (s : State) : State :=
  match s.cat.commit with
  | none => s
  | some c =>
    let s1 := { s with cat := { s.cat with commit := none } }
    match s1.catCheck c.slot false with
    | .error e => (s1.catErr c.slot e).commitFails c false 4
    | .ok im =>
      let need := s1.cat.runSlot == 0 || im.safe != s1.cat.safe
      if !need then s1.commitAccept c im
      else if s1.pwLocked then ((s1.catReject 0x1013 0 0).raise 0x1013 noInst).commitFails c false 6
      else if s1.passwordOk c.cmd (if s1.cat.runSlot = 0 then im.safe else s1.cat.safe) then
        (State.savePw { s1 with cat := { s1.cat with pwFail := 0, lockout := false } }).commitAccept c im
      else ((s1.catReject 0x1012 0 0).pwFailed).commitFails c false 5

def execCatCommitVerifyDone (s : State) : Host.Outcome State Fault Refusal := run s State.catCommitDone

/-! ### Firmware (R599, R600, R602) -/

/-- Header of firmware slot `k`. -/
def State.fwHdr (s : State) (k : Nat) : List Byte := s.flashBytes (flashSlotSize * k) 256

/-- Steps 1 to 5 of R600: the event of the first that fails. -/
def State.fwCheck5 (s : State) (k : Nat) : Option Nat :=
  let h := s.fwHdr k
  let len := leAt h 8 4
  let idx := byteAt h 0x11
  if h.take 4 ≠ ascii "SLFM" ∨ leAt h 4 2 ≠ 1 ∨ leAt h 6 2 ≠ 0x100 ∨ len % 4 ≠ 0 ∨ len < 0x1000 ∨ 0x400000 < len ∨ byteAt h 0xF ≠ 1
      ∨ 63 < byteAt h 0x10 ∨ 3 < idx ∨ 15 < byteAt h 0x12 ∨ allZero (slice h 0x13 45) = false ∨ allZero (slice h 0xD0 48) = false then some 0x2010
  else if s.sc.fwRevoked.testBit idx then some 0x2011
  else
    let dig := sha384 (h.take 0x40 ++ s.flashBytes (flashSlotSize * k + 0x100) (len - 0x100))
    if slice h 0x40 48 ≠ dig then some 0x2012
    else if !ecdsaVerify (Config.firmwareKeyX idx) (Config.firmwareKeyY idx) dig (beAt h 0x70 48) (beAt h 0xA0 48) then some 0x2013
    else if byteAt h 0x10 < s.sc.fwFloor then some 0x2014
    else none

/-- All six steps, as the boot ROM runs them. -/
def State.fwCheck (s : State) (k : Nat) : Option Nat := match s.fwCheck5 k with
  | some e => some e
  | none => if (s.voteOf (4 + k)).value = some (slice (s.fwHdr k) 0x40 48) then none else some 0x2015

/-- The check of a firmware commit ends. -/
def State.fwCommitDone (s : State) : State :=
  match s.sc.fwCommit with
  | none => s
  | some c =>
    let s1 := { s with sc := { s.sc with fwCommit := none } }
    match s1.fwCheck5 c.slot with
    | some e => (s1.raise e (c.slot + 1)).commitFails c true 4
    | none =>
      let s2 := s1.saveParam (4 + c.slot) c.digest
      (State.raise { s2 with bk := { s2.bk with starts := Table.set 0 s2.bk.starts (c.slot + 1) 0 } } 0x2017 (c.slot + 1)).commitEnd c 0

def execFwCommitDone (s : State) : Host.Outcome State Fault Refusal := run s State.fwCommitDone

end Sys2Proof.Machine
end

