-- ==== Sys2Proof/Machine/Start.lean ====
section
/-!
DEFINITION. Sys2Proof/Machine/Start.lean: the start sequence (R621 to R647): PLL lock, discovery of the flash, the start of the recorder,
the vote on the parameters, the choice of the firmware, the self-tests, JOIN, and the rise of the Operational line.
-/
namespace Sys2Proof.Machine
open Sys2Proof

/-! ### BOOT: clocks and flash (R402, R621, R631, R632, R660) -/

/-- TT as the backup clock seeds it: whole TAI seconds, or 0 (R402, R623). -/
def State.seedTt (s : State) : Nat := if s.bk.rtcValid then s.bk.rtc * 1000000000 * 2 ^ 32 else 0

/-- The PLL locks; a reset for the clock ends with it (R622). In BOOT the domains come on and TT is seeded, and
field frames and motion cycles follow it (R351, R427). -/
def State.pllLock (s : State) : State :=
  let s1 := (State.tryRelease { s with sys := { s.sys with clkFail := false } })
  when_ (!s1.sys.pllLocked && s1.sys.start == .boot) (fun s =>
    { s with sys := { s.sys with pllLocked := true, domOn := 0xFFFF }, time := { s.time with
      ttFp := s.seedTt, fieldNext := nextMultiple 10000 (s.seedTt / 2 ^ 32), motionNext := nextMultiple 25000 (s.seedTt / 2 ^ 32) } }) s1

def execPllLock (s : State) : Host.Outcome State Fault Refusal := run s State.pllLock

/-- Discovery of the flash: whether its SFDP table is there, its capacity in units of 16 Mbit, whether it declares 4-byte addressing
and an octal read mode, and how many delay steps read correctly at each speed tried (R631, R632). -/
def State.norDiscovery (s : State) (sfdp : Bool) (cap : Nat) (addr4 octal : Bool) (passes : List Nat) : State :=
  when_ (s.sys.start == .boot && s.sys.pllLocked && !s.nvm.ready) (fun s =>
    if !sfdp ∨ cap < 16 ∨ !addr4 then (s.raise 0x0005 noInst).enterMaint .noFirmware
    else { s with nvm := { s.nvm with ready := true, octal := octal, sck := norSck 100 passes, cap := min cap 0xFFFF } }) s

def execNorDiscovery (sfdp : Bool) (cap : Nat) (addr4 octal : Bool) (passes : List Nat) (s : State) : Host.Outcome State Fault Refusal :=
  run s (fun s => s.norDiscovery sfdp cap addr4 octal passes)

/-! ### The recorder's start (R549, R572, R624) -/

/-- The resets since the last start are recorded (R624). -/
def State.recordResets (s : State) : State :=
  let s1 := forEach s.sys.notes (fun s n => s.raise 0x0001 noInst (leBytes 1 n.reason ++ leBytes 6 n.rtc)) s
  { s1 with sys := { s1.sys with notes := [] } }

/-- The last number that a stored record accounts for. -/
def lastCovered (b : List Byte) : Nat := if leAt b 6 2 = 0xE001 then leAt b 0 6 + leAt b 17 4 - 1 else leAt b 0 6

/-- The stored record that accounts for the highest number. -/
def highestRecord : List (List Byte) → Option (List Byte)
  | [] => none
  | b :: l => match highestRecord l with
    | none => some b
    | some c => if lastCovered b < lastCovered c then some c else some b

/-- ceil(20,000 x D) of R572, D from an instant in ns to the real-time clock. -/
def State.deltaFrom (s : State) (tt : TimeNs) : Nat :=
  if s.bk.rtcValid then divCeil (20000 * (s.bk.rtc * 1000000000 - tt)) 1000000000 else 20000 * 86400

/-- The same where D may start at the last word, at the highest record, or nowhere: then it is free (log entry 70). -/
def State.recoverDelta (s : State) : Nat × State :=
  if !s.bk.rtcValid then (20000 * 86400, s)
  else if s.lwValid then (s.deltaFrom (leAt s.bk.lastWord 8 8), s)
  else match highestRecord s.heldRecords with
    | some b => (s.deltaFrom (leAt b 8 8), s)
    | none => s.draw 32

/-- Whether a parameter was never written: all three copies are zeros (log entry 20). -/
def State.delivered (s : State) (id : Nat) : Bool := [0, 1, 2].all (fun c => allZero (s.memBytes (paramAddr c id) (paramLen id + 8)))

/-- The voted mark: nothing where it cannot be read. -/
def State.voteMark (s : State) : Option Nat × State :=
  if s.delivered 0x70 then (some 0, s) else let v := s.votePlain 0x70; (v.1.map leNat, v.2)

/-- The next accession number (R572). -/
def State.nextNumber (s : State) (sealOk : Bool) (high : Nat) : Nat × State :=
  let v := s.voteMark
  let sm := if sealOk then some s.rcd.sealMark else none
  match v.1, sm with
  | some a, some b => (max a b + 1, v.2)
  | some a, none => (a + 1, v.2)
  | none, some b => (b + 1, v.2)
  | none, none => let d := v.2.recoverDelta; (high + 65 + d.1, d.2)

/-- The recorder starts: `sealOk` says whether the seal mark can be read, `ecc` the MRAM offset of an uncorrectable error. -/
def State.recorderStart (s : State) (sealOk : Bool) (ecc : Option Nat) : State :=
  when_ (s.sys.pllLocked && !s.rcd.started && (s.sys.start == .boot || s.sys.start.maintOnly)) (fun s =>
    let s1 := s.recordResets
    let held := sortBy (fun x y => decide (leAt x 0 6 ≤ leAt y 0 6)) s1.heldRecords
    let high := match highestRecord held with
      | some b => lastCovered b
      | none => 0
    let q := s1.nextNumber sealOk high
    let s2 := q.2
    let circ := (s2.validSlots 0x01000000 0x01A00000).map (fun a => leAt (s2.memBytes a 6) 0 6)
    let s3 := { s2 with rcd := { s2.rcd with
      started := true
      nextAcc := q.1
      mark := q.1 - 1
      storeQ := s2.gapRecs (high + 1) (q.1 - 1 - high) 8
      oldest := circ.foldl min q.1
      lastStored := held.drop (held.length - 1024)
      archState := if s2.rcd.archState = 1 ∧ s2.rcd.archCnt = 0 then 0 else s2.rcd.archState } }
    match ecc with
    | some off => if off < 0x1000000 ∧ mramPart off ≠ 7 then s3.degrade 1 (mramPart off) off 0 else s3
    | none => s3) s

def execRecorderStart (sealOk : Bool) (ecc : Option Nat) (s : State) : Host.Outcome State Fault Refusal :=
  run s (fun s => s.recorderStart sealOk ecc)

/-! ### The vote on the parameters (R623, R637, R638, R595) -/

/-- The value of a parameter: its delivered value where it was never written, else its vote. -/
def State.voteOr (s : State) (id : Nat) (new fallback : List Byte) : List Byte × State := if s.delivered id then (new, s) else s.voteParam id fallback

/-- The largest intact copy, or a number. -/
def State.largestIntact (s : State) (id dflt : Nat) : Nat := match s.intact id with
  | [] => dflt
  | l => l.foldl (fun a v => max a (leNat v)) 0

/-- Fallback of the device rollback floor. -/
def State.floorFallback (s : State) : Nat :=
  let fs := ([0, 1].filter (fun k => s.nvm.ready && (s.catCheck5 k).isNone)).map (fun k => s.catHdr k 0x10 4)
  if fs = [] then 1 else fs.foldl max 0

/-- The device rollback floor. -/
def State.voteFloor (s : State) : State :=
  let v := s.voteOr 1 (leBytes 4 1) (leBytes 4 s.floorFallback)
  { v.2 with cat := { v.2.cat with floor := leNat v.1 } }
/-- A commit record: its copies are repaired here and its value is read where it is used. -/
def State.voteCommit (s : State) (id : Nat) : State := (s.votePlain id).2
/-- The last accepted counter of command key `k`. -/
def State.voteCounter (s : State) (k : Nat) : State :=
  let v := s.voteOr (0x10 + k) (leBytes 8 0) (leBytes 8 (s.largestIntact (0x10 + k) 0xFFFFFFFFFFFFFFFE))
  { v.2 with sc := { v.2.sc with counters := Table.set 0 v.2.sc.counters k (leNat v.1) } }
/-- The brake test pass time of axis `n`; without it the axis is due. -/
def State.voteBrake (s : State) (n : Nat) : State :=
  let v := s.votePlain (0x20 + n)
  { v.2 with ilk := { v.2.ilk with btPass := Table.set none v.2.ilk.btPass n (v.1.map leNat) } }
/-- The cycle counter of portal `p`. -/
def State.voteCycles (s : State) (p : Nat) : State :=
  let v := s.voteOr (0x60 + p) (leBytes 8 0) (leBytes 8 (s.largestIntact (0x60 + p) 0))
  v.2.modPortal p (fun q => { q with cycles := leNat v.1 % 2 ^ 40 })
/-- Password failures and the lockout, which runs again in full where the real-time clock is not valid. -/
def State.votePassword (s : State) : State :=
  let v := s.voteOr 0x71 (List.replicate 12 0) (leBytes 4 5 ++ leBytes 8 (s.bk.rtc + 1))
  let start := leAt v.1 4 8
  let from_ := if s.bk.rtcValid then start - 1 else s.bk.rtc
  { v.2 with cat := { v.2.cat with pwFail := leAt v.1 0 4, lockout := decide (start ≠ 0), lockoutUntil := if start = 0 then 0 else from_ + 900 } }

/-- Every parameter is voted, and the wrapped command keys are loaded. -/
def State.paramVote (s : State) : State :=
  when_ (s.sys.pllLocked && s.rcd.started && !s.sys.voted && (s.sys.start == .boot || s.sys.start.maintOnly)) (fun s =>
    let s1 := forEach [2, 3, 4, 5] State.voteCommit s.voteFloor
    let s2 := forEach (List.range 16) State.voteCounter s1
    let s3 := forEach (List.range 64) State.voteBrake s2
    let s4 := (forEach (List.range 16) State.voteCycles s3).votePassword
    let s5 := forEach (List.range 16) State.loadKey s4
    { s5 with sys := { s5.sys with voted := true } }) s

def execParamVote (s : State) : Host.Outcome State Fault Refusal := run s State.paramVote

/-! ### The choice of the firmware (R600, R634, R635) -/

/-- A slot's check, with its event. -/
def State.noteFirmware (s : State) (k : Nat) : State := match s.fwCheck k with
  | some e => s.raise e (k + 1)
  | none => s

/-- The slot that R634 names; nothing where none can run. -/
def State.chooseFirmware (s : State) : Option Nat :=
  let a := s.fwHdr 0
  let b := s.fwHdr 1
  match s.fwCheck 0, s.fwCheck 1 with
  | none, none => if leAt b 0xC 4 < leAt a 0xC 4 ∨ (leAt a 0xC 4 = leAt b 0xC 4 ∧ slice a 0x40 48 = slice b 0x40 48) then some 0
                  else if leAt a 0xC 4 < leAt b 0xC 4 then some 1 else none
  | none, some _ => some 0
  | some _, none => some 1
  | some _, some _ => none

/-- Whether R635 runs the other slot. -/
def State.fallsBack (s : State) (k : Nat) : Bool :=
  let n (j : Nat) : Nat := Table.get 0 s.bk.starts (j + 1)
  decide (3 ≤ n k) && (s.fwCheck (1 - k)).isNone && !decide (3 ≤ n (1 - k))

/-- The image of slot `k` begins to run. -/
def State.runFirmware (s : State) (k : Nat) : State :=
  let h := s.fwHdr k
  let s1 := { s with sys := { s.sys with
    start := .config, fwRunning := true, fwSlot := k + 1, fwVersion := leAt h 0xC 4, fwSvn := byteAt h 0x10, fwKey := byteAt h 0x11
    fwRevoke := byteAt h 0x12, fwDigest := slice h 0x40 48, wdogLast := s.lt } }
  s1.raise 0x0002 (k + 1) (leBytes 4 (leAt h 0xC 4))

/-- The boot ROM checks both slots and runs an image, or enters NO_FIRMWARE. -/
def State.firmwareSelect (s : State) : State :=
  when_ (s.sys.start == .boot && s.nvm.ready && s.sys.voted) (fun s =>
    let s1 := (s.noteFirmware 0).noteFirmware 1
    match s.chooseFirmware with
    | none => (s1.raise 0x0004 noInst).enterMaint .noFirmware
    | some k => if s.fallsBack k then (s1.raise 0x0003 (1 - k + 1)).runFirmware (1 - k) else s1.runFirmware k) s

def execFirmwareSelect (s : State) : Host.Outcome State Fault Refusal := run s State.firmwareSelect

/-! ### SELFTEST and JOIN (R629, R639) -/

/-- The first blocking test that fails, by its row in R639. -/
def firstFailedTest : List Bool → Nat → Option Nat
  | [], _ => none
  | ok :: l, k => if ok then firstFailedTest l (k + 1) else some k

/-- The self-tests: the results of the lockstep comparator, the evaluator, the safety output gate and the readback are the command's, that
of the parameter watch and of the generator the model's own. -/
def State.selftest (s : State) (lockstep evaluator gate readback : Bool) : State :=
  when_ (s.sys.start == .selftest) (fun s =>
    let c := crc32c s.ilkParams
    let s1 := { s with ilk := { s.ilk with pcrcNow := c } }
    match firstFailedTest [lockstep, evaluator, decide (c = s.ilk.pcrcRef), gate, readback] 0 with
    | some k => (s1.raise 0x0007 noInst (leBytes 1 k)).enterMaint .startFail
    | none =>
      let s2 := if s1.sc.rngOk || s1.sc.rngFail then s1 else s1.rngFailed
      State.requestDirectory { s2 with sys := { s2.sys with testsPassed := true, start := .join, joinStart := s2.lt } }) s

def execStartSelftest (lockstep evaluator gate readback : Bool) (s : State) : Host.Outcome State Fault Refusal :=
  run s (fun s => s.selftest lockstep evaluator gate readback)

/-- JOIN ends (R629): with the first directory reading where one is read, else 1,000 ms after it began, at the latest at 2,400 ms. -/
def State.joinEnd (s : State) : State :=
  when_ (s.sys.start == .join && !s.sys.joinEnded) (fun s =>
    let last := s.sys.startT0 + ms 2400
    let s1 := if s.sys.profile == 0 && s.rb .trdpCfg 0 1 then (if s.trdp.firstRead then s else s.passTo last)
      else s.passTo (min (s.sys.joinStart + ms 1000) last)
    { s1 with sys := { s1.sys with joinEnded := true } }) s

def execJoinEnd (s : State) : Host.Outcome State Fault Refusal := run s State.joinEnd

/-! ### OPERATIONAL (R84, R326, R601, R635, R644) -/

/-- The last kind 2 entry of the safety change log that is still stored: its NEW_VERSION and NEW_PCRC. -/
def State.lastActivation (s : State) : Option (Nat × Nat) :=
  let n := s.ilk.logCnt
  let ok (k : Nat) : Bool :=
    let e := s.memBytes (logAddr k) 48
    decide (k < 64 ∨ n ≤ k + 1024) && leAt e 0 4 == k && byteAt e 4 == 2 && byteAt e 47 == 0xA5 && leAt e 40 4 == crc32c (e.take 40 ++ slice e 44 3)
  ((List.range n).reverse.find? ok).map (fun k => let e := s.memBytes (logAddr k) 48; (leAt e 20 4, leAt e 28 4))

/-- The activation of an image enters the safety change log where its ILK_PCRC is new (R326, kind 2). -/
def State.logActivation (s : State) : State :=
  let new := s.ilk.pcrcRef
  match s.lastActivation with
  | some (v, p) => if p = new then s else s.safetyLog 2 0xFF v s.cat.version p new s.cat.digest
  | none => s.safetyLog 2 0xFF 0 s.cat.version 0 new s.cat.digest

/-- The device rollback floor rises to the image's (R84). -/
def State.raiseFloor (s : State) : State :=
  when_ (decide (s.cat.floor < s.cat.imageFloor)) (fun s =>
    (State.saveParam { s with cat := { s.cat with floor := s.cat.imageFloor } } 1 (leBytes 4 s.cat.imageFloor)).raise 0x1014 noInst) s

/-- The firmware floor rises to the image's SVN, and the keys that it names are revoked, but for its own (R601). -/
def State.raiseFwFloor (s : State) : State :=
  let own := 2 ^ s.sys.fwKey
  let rev := s.sys.fwRevoke - (s.sys.fwRevoke &&& own)
  let s1 := { s with sc := { s.sc with fwRevoked := s.sc.fwRevoked ||| rev } }
  when_ (decide (s.sc.fwFloor < s.sys.fwSvn)) (fun s => State.raise { s with sc := { s.sc with fwFloor := s.sys.fwSvn } } 0x2019 noInst) s1

/-- The Operational line rises. -/
def State.operationalEntry (s : State) : State :=
  when_ (s.sys.start == .join && s.sys.lock && s.sys.testsPassed && s.sys.joinEnded) (fun s =>
    let s1 := { s with
      sys := { s.sys with start := .operational, operational := true }
      bk := { s.bk with starts := Table.set 0 s.bk.starts s.sys.fwSlot 0 } }
    ((s1.raise 0x0006 noInst).raiseFloor.raiseFwFloor).logActivation) s

def execOperationalEntry (s : State) : Host.Outcome State Fault Refusal := run s State.operationalEntry

end Sys2Proof.Machine
end

