-- ==== Sys2Proof/Machine/Dispatch.lean ====
section
/-!
DEFINITION. Sys2Proof/Machine/Dispatch.lean: one arm per command, each one call of that command's meaning.
-/
namespace Sys2Proof.Machine

def exec (i : Instr) (s : State) : Host.Outcome State Fault Refusal :=
  match i with
  | .powerOn secs => Sys2Proof.Machine.execPowerOn secs s
  | .brownOut supply => Sys2Proof.Machine.execBrownOut supply s
  | .nrstAssert => Sys2Proof.Machine.execNrstAssert s
  | .nrstRelease => Sys2Proof.Machine.execNrstRelease s
  | .clockFail => Sys2Proof.Machine.execClockFail s
  | .lockstepMismatch => Sys2Proof.Machine.execLockstepMismatch s
  | .watchdogExpiry => Sys2Proof.Machine.execWatchdogExpiry s
  | .debugReset => Sys2Proof.Machine.execDebugReset s
  | .sysCmdReset m => Sys2Proof.Machine.execSysCmdReset m s
  | .sysCmdWdog m => Sys2Proof.Machine.execSysCmdWdog m s
  | .pllLock => Sys2Proof.Machine.execPllLock s
  | .norDiscovery sfdp cap addr4 octal passes => Sys2Proof.Machine.execNorDiscovery sfdp cap addr4 octal passes s
  | .recorderStart sealOk ecc => Sys2Proof.Machine.execRecorderStart sealOk ecc s
  | .paramVote => Sys2Proof.Machine.execParamVote s
  | .firmwareSelect => Sys2Proof.Machine.execFirmwareSelect s
  | .catalogueSelect => Sys2Proof.Machine.execCatalogueSelect s
  | .catalogueApply => Sys2Proof.Machine.execCatalogueApply s
  | .startSelftest lockstep evaluator gate readback => Sys2Proof.Machine.execStartSelftest lockstep evaluator gate readback s
  | .joinEnd => Sys2Proof.Machine.execJoinEnd s
  | .operationalEntry => Sys2Proof.Machine.execOperationalEntry s
  | .portalReferenceStart p => Sys2Proof.Machine.execPortalReferenceStart p s
  | .unmappedAccess addr read master => Sys2Proof.Machine.execUnmappedAccess addr read master s
  | .registerWrite addr size value ecc master => Sys2Proof.Machine.execRegisterWrite addr size value ecc master s
  | .mntTransaction bytes ecc => Sys2Proof.Machine.execMntTransaction bytes ecc s
  | .paramCrcCheck => Sys2Proof.Machine.execParamCrcCheck s
  | .catCommit conn bytes storeOk => Sys2Proof.Machine.execCatCommit conn bytes storeOk s
  | .catCommitVerifyDone => Sys2Proof.Machine.execCatCommitVerifyDone s
  | .catPwLockoutEnd => Sys2Proof.Machine.execCatPwLockoutEnd s
  | .motionCycle => Sys2Proof.Machine.execMotionCycle s
  | .action conn bytes storeOk => Sys2Proof.Machine.execAction conn bytes storeOk s
  | .immediateActionApply => Sys2Proof.Machine.execImmediateActionApply s
  | .slotDue => Sys2Proof.Machine.execSlotDue s
  | .isolate conn bytes storeOk => Sys2Proof.Machine.execIsolate conn bytes storeOk s
  | .restore conn bytes storeOk => Sys2Proof.Machine.execRestore conn bytes storeOk s
  | .passengerRequest p inside => Sys2Proof.Machine.execPassengerRequest p inside s
  | .presenceInput p => Sys2Proof.Machine.execPresenceInput p s
  | .emergencyHandle p => Sys2Proof.Machine.execEmergencyHandle p s
  | .zeroSpeedActive => Sys2Proof.Machine.execZeroSpeedActive s
  | .zeroSpeedLost => Sys2Proof.Machine.execZeroSpeedLost s
  | .unlockComplete p => Sys2Proof.Machine.execUnlockComplete p s
  | .stepDeployed p => Sys2Proof.Machine.execStepDeployed p s
  | .lockedInputActive p => Sys2Proof.Machine.execLockedInputActive p s
  | .stepStowed p => Sys2Proof.Machine.execStepStowed p s
  | .switchOpenInLocked p => Sys2Proof.Machine.execSwitchOpenInLocked p s
  | .homingDone p => Sys2Proof.Machine.execHomingDone p s
  | .leavesAtOpen p => Sys2Proof.Machine.execLeavesAtOpen p s
  | .leavesAtReopenTarget p => Sys2Proof.Machine.execLeavesAtReopenTarget p s
  | .leavesClosed p => Sys2Proof.Machine.execLeavesClosed p s
  | .dwellElapsed p => Sys2Proof.Machine.execDwellElapsed p s
  | .obstWaitElapsed p => Sys2Proof.Machine.execObstWaitElapsed p s
  | .warnPreElapsed p => Sys2Proof.Machine.execWarnPreElapsed p s
  | .flashToggle p => Sys2Proof.Machine.execFlashToggle p s
  | .chimeEnd p => Sys2Proof.Machine.execChimeEnd p s
  | .unlockFail p => Sys2Proof.Machine.execUnlockFail p s
  | .lockTimeElapsed p => Sys2Proof.Machine.execLockTimeElapsed p s
  | .recloseEnd p => Sys2Proof.Machine.execRecloseEnd p s
  | .lockFail p => Sys2Proof.Machine.execLockFail p s
  | .stepFail p => Sys2Proof.Machine.execStepFail p s
  | .referenceFail p => Sys2Proof.Machine.execReferenceFail p s
  | .obsStopResume n => Sys2Proof.Machine.execObsStopResume n s
  | .commission n m => Sys2Proof.Machine.execCommission n m s
  | .inject n value m => Sys2Proof.Machine.execInject n value m s
  | .obsTblDataAccess n value m => Sys2Proof.Machine.execObsTblDataAccess n value m s
  | .segAppend n m => Sys2Proof.Machine.execSegAppend n m s
  | .segReplace n m => Sys2Proof.Machine.execSegReplace n m s
  | .axisStop n emg m => Sys2Proof.Machine.execAxisStop n emg m s
  | .axisClear n m => Sys2Proof.Machine.execAxisClear n m s
  | .emergencyDecelRest n => Sys2Proof.Machine.execEmergencyDecelRest n s
  | .axStall n current => Sys2Proof.Machine.execAxStall n current s
  | .axLimit n opening => Sys2Proof.Machine.execAxLimit n opening s
  | .axChatter n k => Sys2Proof.Machine.execAxChatter n k s
  | .axStepLag n => Sys2Proof.Machine.execAxStepLag n s
  | .homeReferenceFound n => Sys2Proof.Machine.execHomeReferenceFound n s
  | .homeDwellElapsed n => Sys2Proof.Machine.execHomeDwellElapsed n s
  | .homeLimitHit n opening => Sys2Proof.Machine.execHomeLimitHit n opening s
  | .brakeReleaseElapsed n => Sys2Proof.Machine.execBrakeReleaseElapsed n s
  | .brakeApplyElapsed n => Sys2Proof.Machine.execBrakeApplyElapsed n s
  | .fbCfgWrite n value m => Sys2Proof.Machine.execFbCfgWrite n value m s
  | .fbPset n value m => Sys2Proof.Machine.execFbPset n value m s
  | .fbPosRead n m => Sys2Proof.Machine.execFbPosRead n m s
  | .fbPrbPosRead n m => Sys2Proof.Machine.execFbPrbPosRead n m s
  | .fbCmpPosWrite n value m => Sys2Proof.Machine.execFbCmpPosWrite n value m s
  | .fbCmpCfgWrite n value m => Sys2Proof.Machine.execFbCmpCfgWrite n value m s
  | .fbEvtClear n value m => Sys2Proof.Machine.execFbEvtClear n value m s
  | .fbIllegal n => Sys2Proof.Machine.execFbIllegal n s
  | .fbLineBroken n broken => Sys2Proof.Machine.execFbLineBroken n broken s
  | .fbAmplitudeFault n => Sys2Proof.Machine.execFbAmplitudeFault n s
  | .fbIndex n => Sys2Proof.Machine.execFbIndex n s
  | .probeEdge n level held => Sys2Proof.Machine.execProbeEdge n level held s
  | .compareHit n => Sys2Proof.Machine.execCompareHit n s
  | .fbDivLag n => Sys2Proof.Machine.execFbDivLag n s
  | .speedWindow n => Sys2Proof.Machine.execSpeedWindow n s
  | .ssiFrame n frame high low => Sys2Proof.Machine.execSsiFrame n frame high low s
  | .dlReply l frame => Sys2Proof.Machine.execDlReply l frame s
  | .dlUplinkTimeout l => Sys2Proof.Machine.execDlUplinkTimeout l s
  | .dlRestart l m => Sys2Proof.Machine.execDlRestart l m s
  | .dlStartIdleEnd l => Sys2Proof.Machine.execDlStartIdleEnd l s
  | .dlDelayMeasured l trips => Sys2Proof.Machine.execDlDelayMeasured l trips s
  | .fieldFrame => Sys2Proof.Machine.execFieldFrame s
  | .fieldReply k bytes => Sys2Proof.Machine.execFieldReply k bytes s
  | .fieldReplyMissing k => Sys2Proof.Machine.execFieldReplyMissing k s
  | .fldRestart k m => Sys2Proof.Machine.execFldRestart k m s
  | .fldClrDiag k m => Sys2Proof.Machine.execFldClrDiag k m s
  | .tileFrameReceive k bytes vals => Sys2Proof.Machine.execTileFrameReceive k bytes vals s
  | .tileApply k => Sys2Proof.Machine.execTileApply k s
  | .tileTimeout k => Sys2Proof.Machine.execTileTimeout k s
  | .tilePowerUp k => Sys2Proof.Machine.execTilePowerUp k s
  | .tileSupplyLoss k => Sys2Proof.Machine.execTileSupplyLoss k s
  | .fieldInputEdge c => Sys2Proof.Machine.execFieldInputEdge c s
  | .wettingEnd c => Sys2Proof.Machine.execWettingEnd c s
  | .wireBreak c present => Sys2Proof.Machine.execWireBreak c present s
  | .outputOverload c kind => Sys2Proof.Machine.execOutputOverload c kind s
  | .outputReadback c => Sys2Proof.Machine.execOutputReadback c s
  | .openWire c present => Sys2Proof.Machine.execOpenWire c present s
  | .fldTpOverload g => Sys2Proof.Machine.execFldTpOverload g s
  | .testPulseStart g => Sys2Proof.Machine.execTestPulseStart g s
  | .testPulseWindowEnd g still => Sys2Proof.Machine.execTestPulseWindowEnd g still s
  | .mrstPressBegin j => Sys2Proof.Machine.execMrstPressBegin j s
  | .mrstPressEnd j => Sys2Proof.Machine.execMrstPressEnd j s
  | .fldMrstStuck j => Sys2Proof.Machine.execFldMrstStuck j s
  | .mrstReleased j => Sys2Proof.Machine.execMrstReleased j s
  | .ilkCrossDisagree pair => Sys2Proof.Machine.execIlkCrossDisagree pair s
  | .ilkDiscrepancy j => Sys2Proof.Machine.execIlkDiscrepancy j s
  | .soOffPulse k => Sys2Proof.Machine.execSoOffPulse k s
  | .soPulseEnd k wentOff backOn => Sys2Proof.Machine.execSoPulseEnd k wentOff backOn s
  | .ilkMonFault j => Sys2Proof.Machine.execIlkMonFault j s
  | .ilkClear m => Sys2Proof.Machine.execIlkClear m s
  | .ilkLogLoad value m => Sys2Proof.Machine.execIlkLogLoad value m s
  | .brakeTestStart n => Sys2Proof.Machine.execBrakeTestStart n s
  | .brakeTestPhaseEnd n => Sys2Proof.Machine.execBrakeTestPhaseEnd n s
  | .brakeTestTorqueTimeout n => Sys2Proof.Machine.execBrakeTestTorqueTimeout n s
  | .brakeTestOverdue n => Sys2Proof.Machine.execBrakeTestOverdue n s
  | .lsOnDelayEnd n => Sys2Proof.Machine.execLsOnDelayEnd n s
  | .lsInrushEnd n => Sys2Proof.Machine.execLsInrushEnd n s
  | .lsShort n => Sys2Proof.Machine.execLsShort n s
  | .lsRetry n => Sys2Proof.Machine.execLsRetry n s
  | .lsRetriesReset n => Sys2Proof.Machine.execLsRetriesReset n s
  | .lsThermal n => Sys2Proof.Machine.execLsThermal n s
  | .lsThermalRelease n => Sys2Proof.Machine.execLsThermalRelease n s
  | .lsOpenLoad n => Sys2Proof.Machine.execLsOpenLoad n s
  | .lsReadback n => Sys2Proof.Machine.execLsReadback n s
  | .lsBankPeak b limiting => Sys2Proof.Machine.execLsBankPeak b limiting s
  | .lsBankCont b avg => Sys2Proof.Machine.execLsBankCont b avg s
  | .lsContShed b => Sys2Proof.Machine.execLsContShed b s
  | .lswClear n m => Sys2Proof.Machine.execLswClear n m s
  | .lswClrDiag n m => Sys2Proof.Machine.execLswClrDiag n m s
  | .lswRestart b m => Sys2Proof.Machine.execLswRestart b m s
  | .ptpSync j bytes sub => Sys2Proof.Machine.execPtpSync j bytes sub s
  | .ptpFollowUp j bytes => Sys2Proof.Machine.execPtpFollowUp j bytes s
  | .ptpAnnounce j bytes => Sys2Proof.Machine.execPtpAnnounce j bytes s
  | .ptpPdelayReq j bytes => Sys2Proof.Machine.execPtpPdelayReq j bytes s
  | .ptpPdelayResp j bytes sub => Sys2Proof.Machine.execPtpPdelayResp j bytes sub s
  | .ptpPdelaySend => Sys2Proof.Machine.execPtpPdelaySend s
  | .ptpSyncSend => Sys2Proof.Machine.execPtpSyncSend s
  | .timeHoldover d => Sys2Proof.Machine.execTimeHoldover d s
  | .timeHoldoverLong d => Sys2Proof.Machine.execTimeHoldoverLong d s
  | .timeSettleEnd j => Sys2Proof.Machine.execTimeSettleEnd j s
  | .timeJumpConfirm => Sys2Proof.Machine.execTimeJumpConfirm s
  | .timeStep => Sys2Proof.Machine.execTimeStep s
  | .acceptJump m => Sys2Proof.Machine.execAcceptJump m s
  | .acceptPath m => Sys2Proof.Machine.execAcceptPath m s
  | .timeTtRead m => Sys2Proof.Machine.execTimeTtRead m s
  | .rtcSet => Sys2Proof.Machine.execRtcSet s
  | .frameReceive j bytes fcsOk cls => Sys2Proof.Machine.execFrameReceive j bytes fcsOk cls s
  | .frameTransmitStart p => Sys2Proof.Machine.execFrameTransmitStart p s
  | .frameTransmitEnd p => Sys2Proof.Machine.execFrameTransmitEnd p s
  | .pauseReceive j time => Sys2Proof.Machine.execPauseReceive j time s
  | .pauseExpire j => Sys2Proof.Machine.execPauseExpire j s
  | .pauseRepeat j => Sys2Proof.Machine.execPauseRepeat j s
  | .gclEntry p => Sys2Proof.Machine.execGclEntry p s
  | .netLinkUp j fast => Sys2Proof.Machine.execNetLinkUp j fast s
  | .netLinkDown j => Sys2Proof.Machine.execNetLinkDown j s
  | .hsrSupervisionSend => Sys2Proof.Machine.execHsrSupervisionSend s
  | .netRingOpen p => Sys2Proof.Machine.execNetRingOpen p s
  | .macAge => Sys2Proof.Machine.execMacAge s
  | .proxyAge => Sys2Proof.Machine.execProxyAge s
  | .arpRequest target => Sys2Proof.Machine.execArpRequest target s
  | .icmpEcho src dst data => Sys2Proof.Machine.execIcmpEcho src dst data s
  | .datagramDiscard t => Sys2Proof.Machine.execDatagramDiscard t s
  | .ttdbDirectory etb op veh cst => Sys2Proof.Machine.execTtdbDirectory etb op veh cst s
  | .ttdbAnnounce etb op => Sys2Proof.Machine.execTtdbAnnounce etb op s
  | .trdpDirectoryFail => Sys2Proof.Machine.execTrdpDirectoryFail s
  | .publishDevStatus => Sys2Proof.Machine.execPublishDevStatus s
  | .publishPortalState => Sys2Proof.Machine.execPublishPortalState s
  | .publishHealth => Sys2Proof.Machine.execPublishHealth s
  | .stlOpenReq t => Sys2Proof.Machine.execStlOpenReq t s
  | .stlOpenAck t => Sys2Proof.Machine.execStlOpenAck t s
  | .stlData t storeOk => Sys2Proof.Machine.execStlData t storeOk s
  | .stlRekeyReq t => Sys2Proof.Machine.execStlRekeyReq t s
  | .stlRekeyAck t => Sys2Proof.Machine.execStlRekeyAck t s
  | .stlClose t => Sys2Proof.Machine.execStlClose t s
  | .stlCycleSend c => Sys2Proof.Machine.execStlCycleSend c s
  | .stlTimeout c => Sys2Proof.Machine.execStlTimeout c s
  | .stlFailedRetry c => Sys2Proof.Machine.execStlFailedRetry c s
  | .stlCmdOpen c m => Sys2Proof.Machine.execStlCmdOpen c m s
  | .stlCmdClose c m => Sys2Proof.Machine.execStlCmdClose c m s
  | .streamOpen t => Sys2Proof.Machine.execStreamOpen t s
  | .streamData t => Sys2Proof.Machine.execStreamData t s
  | .streamAck t => Sys2Proof.Machine.execStreamAck t s
  | .streamClose t => Sys2Proof.Machine.execStreamClose t s
  | .streamAckSend k => Sys2Proof.Machine.execStreamAckSend k s
  | .streamSend k => Sys2Proof.Machine.execStreamSend k s
  | .streamRetransmit k => Sys2Proof.Machine.execStreamRetransmit k s
  | .streamGapTimeout k => Sys2Proof.Machine.execStreamGapTimeout k s
  | .partnerRemoved k => Sys2Proof.Machine.execPartnerRemoved k s
  | .kazukHeartbeatSend lane => Sys2Proof.Machine.execKazukHeartbeatSend lane s
  | .netHeartbeatSend => Sys2Proof.Machine.execNetHeartbeatSend s
  | .kazukHeartbeat lane bytes ownLow => Sys2Proof.Machine.execKazukHeartbeat lane bytes ownLow s
  | .netHeartbeat t ownLow => Sys2Proof.Machine.execNetHeartbeat t ownLow s
  | .twinPathDown net => Sys2Proof.Machine.execTwinPathDown net s
  | .mateSilent => Sys2Proof.Machine.execMateSilent s
  | .ownNHigh => Sys2Proof.Machine.execOwnNHigh s
  | .twinClaim => Sys2Proof.Machine.execTwinClaim s
  | .ownLineFault ownLow => Sys2Proof.Machine.execOwnLineFault ownLow s
  | .ownWatchdogExpiry => Sys2Proof.Machine.execOwnWatchdogExpiry s
  | .releaseAnnounce => Sys2Proof.Machine.execReleaseAnnounce s
  | .twinReleased => Sys2Proof.Machine.execTwinReleased s
  | .mirrorFrame bytes => Sys2Proof.Machine.execMirrorFrame bytes s
  | .mirrorAck bytes => Sys2Proof.Machine.execMirrorAck bytes s
  | .mirrorResend => Sys2Proof.Machine.execMirrorResend s
  | .twinSynced mateNext mateCounters mateCycles mateBrakes => Sys2Proof.Machine.execTwinSynced mateNext mateCounters mateCycles mateBrakes s
  | .standbySelftest gateBad offBad leak => Sys2Proof.Machine.execStandbySelftest gateBad offBad leak s
  | .revertRequest => Sys2Proof.Machine.execRevertRequest s
  | .quietMomentRelease => Sys2Proof.Machine.execQuietMomentRelease s
  | .twinTransferCmd m => Sys2Proof.Machine.execTwinTransferCmd m s
  | .twinTransfer conn bytes storeOk => Sys2Proof.Machine.execTwinTransfer conn bytes storeOk s
  | .twinTransferRejected => Sys2Proof.Machine.execTwinTransferRejected s
  | .eventIntake code inst vals => Sys2Proof.Machine.execEventIntake code inst vals s
  | .recAllocate => Sys2Proof.Machine.execRecAllocate s
  | .recRepeated => Sys2Proof.Machine.execRecRepeated s
  | .recStore ok => Sys2Proof.Machine.execRecStore ok s
  | .recWriteRetry ok => Sys2Proof.Machine.execRecWriteRetry ok s
  | .recPublish => Sys2Proof.Machine.execRecPublish s
  | .holdSet m => Sys2Proof.Machine.execHoldSet m s
  | .holdRelease m => Sys2Proof.Machine.execHoldRelease m s
  | .recHoldLimit => Sys2Proof.Machine.execRecHoldLimit s
  | .recHoldDrainDone => Sys2Proof.Machine.execRecHoldDrainDone s
  | .capture m => Sys2Proof.Machine.execCapture m s
  | .recFolioCaptured => Sys2Proof.Machine.execRecFolioCaptured s
  | .keep f m => Sys2Proof.Machine.execKeep f m s
  | .unkeep f m => Sys2Proof.Machine.execUnkeep f m s
  | .recArchiveCmd m => Sys2Proof.Machine.execRecArchiveCmd m s
  | .recClearCircCmd m => Sys2Proof.Machine.execRecClearCircCmd m s
  | .recCleared => Sys2Proof.Machine.execRecCleared s
  | .lwClear m => Sys2Proof.Machine.execLwClear m s
  | .rwOpen area folio hold m => Sys2Proof.Machine.execRwOpen area folio hold m s
  | .rwStep m => Sys2Proof.Machine.execRwStep m s
  | .rwClose m => Sys2Proof.Machine.execRwClose m s
  | .rwLoadDone ecc => Sys2Proof.Machine.execRwLoadDone ecc s
  | .rwIdleTimeout => Sys2Proof.Machine.execRwIdleTimeout s
  | .recNextRead m => Sys2Proof.Machine.execRecNextRead m s
  | .recOldestRead m => Sys2Proof.Machine.execRecOldestRead m s
  | .read t => Sys2Proof.Machine.execRead t s
  | .hold t => Sys2Proof.Machine.execHold t s
  | .upload t => Sys2Proof.Machine.execUpload t s
  | .status t => Sys2Proof.Machine.execStatus t s
  | .cntValRead m => Sys2Proof.Machine.execCntValRead m s
  | .cntSnapRead j m => Sys2Proof.Machine.execCntSnapRead j m s
  | .sweep m => Sys2Proof.Machine.execSweep m s
  | .sweepPeriodic => Sys2Proof.Machine.execSweepPeriodic s
  | .write m => Sys2Proof.Machine.execWrite m s
  | .clearAll m => Sys2Proof.Machine.execClearAll m s
  | .smpClear m => Sys2Proof.Machine.execSmpClear m s
  | .cntSmpPosWrite value m => Sys2Proof.Machine.execCntSmpPosWrite value m s
  | .counters t => Sys2Proof.Machine.execCounters t s
  | .samples t => Sys2Proof.Machine.execSamples t s
  | .attest t => Sys2Proof.Machine.execAttest t s
  | .identity t => Sys2Proof.Machine.execIdentity t s
  | .regRead t => Sys2Proof.Machine.execRegRead t s
  | .fwCommit conn bytes storeOk => Sys2Proof.Machine.execFwCommit conn bytes storeOk s
  | .keyInstall conn bytes storeOk => Sys2Proof.Machine.execKeyInstall conn bytes storeOk s
  | .keyRetire conn bytes storeOk => Sys2Proof.Machine.execKeyRetire conn bytes storeOk s
  | .catKeyEnrol conn bytes storeOk => Sys2Proof.Machine.execCatKeyEnrol conn bytes storeOk s
  | .debugFuse conn bytes storeOk => Sys2Proof.Machine.execDebugFuse conn bytes storeOk s
  | .archive conn bytes storeOk => Sys2Proof.Machine.execArchive conn bytes storeOk s
  | .clearCirc conn bytes storeOk => Sys2Proof.Machine.execClearCirc conn bytes storeOk s
  | .regWrite conn bytes storeOk => Sys2Proof.Machine.execRegWrite conn bytes storeOk s
  | .maintSession conn bytes storeOk => Sys2Proof.Machine.execMaintSession conn bytes storeOk s
  | .maintSessionEnd k => Sys2Proof.Machine.execMaintSessionEnd k s
  | .provision conn bytes storeOk => Sys2Proof.Machine.execProvision conn bytes storeOk s
  | .rngBlock => Sys2Proof.Machine.execRngBlock s
  | .rngRetest => Sys2Proof.Machine.execRngRetest s
  | .debugAttach => Sys2Proof.Machine.execDebugAttach s
  | .shelve m => Sys2Proof.Machine.execShelve m s
  | .shelveReady => Sys2Proof.Machine.execShelveReady s
  | .shelveTimeout => Sys2Proof.Machine.execShelveTimeout s
  | .wakeN => Sys2Proof.Machine.execWakeN s
  | .clockWake => Sys2Proof.Machine.execClockWake s
  | .supplyReturn => Sys2Proof.Machine.execSupplyReturn s
  | .vbatMeasure mv => Sys2Proof.Machine.execVbatMeasure mv s
  | .nvmRead m => Sys2Proof.Machine.execNvmRead m s
  | .nvmProgram m => Sys2Proof.Machine.execNvmProgram m s
  | .erase4k m => Sys2Proof.Machine.execErase4k m s
  | .erase64k m => Sys2Proof.Machine.execErase64k m s
  | .nvmOpDone timeout bad held => Sys2Proof.Machine.execNvmOpDone timeout bad held s
  | .fbCount n a b held sample => Sys2Proof.Machine.execFbCount n a b held sample s
  | .soReadbackFail k level => Sys2Proof.Machine.execSoReadbackFail k level s
  | .rtcCrystalStop => Sys2Proof.Machine.execRtcCrystalStop s
  | .backupPowerUp => Sys2Proof.Machine.execBackupPowerUp s
  | .backupPowerLoss => Sys2Proof.Machine.execBackupPowerLoss s
  | .suppliesGood => Sys2Proof.Machine.execSuppliesGood s
  | .debugDetach => Sys2Proof.Machine.execDebugDetach s
  | .mateEvent bytes => Sys2Proof.Machine.execMateEvent bytes s
  | .gratuitousArp => Sys2Proof.Machine.execGratuitousArp s
  | .hsrDuplicateForget => Sys2Proof.Machine.execHsrDuplicateForget s
  | .fwCommitDone => Sys2Proof.Machine.execFwCommitDone s
  | .attestDone => Sys2Proof.Machine.execAttestDone s
  | .portalCycLoRead p m => Sys2Proof.Machine.execPortalCycLoRead p m s
  | .cntSweepTtRead m => Sys2Proof.Machine.execCntSweepTtRead m s
  | .secCntRead k m => Sys2Proof.Machine.execSecCntRead k m s

end Sys2Proof.Machine
end

