-- ==== Sys2Proof/Machine/Step.lean ====
section
/-!
DEFINITION. Sys2Proof/Machine/Step.lean: one step takes the command at the front of the queue; on an empty queue one
tick of CLK_TIME passes (log entry 3).
-/
namespace Sys2Proof.Machine

/-- One step of the block. -/
def step (s : State) : Host.Outcome State Fault Refusal :=
  match s.pending with
  | [] => Sys2Proof.Machine.tick s
  | c :: rest => Sys2Proof.Machine.exec c { s with pending := rest }

/-- `s` with the command that a table word spells at the front of its queue; the table gives its rows no bits, so no
word spells one and `s` is unchanged. Log entry 5: commands come from outside the part. -/
def State.withFetchWord (s : State) (nbits w : Nat) : State :=
  match decodeTableWord nbits w with
  | some c => { s with pending := c :: s.pending }
  | none => s

end Sys2Proof.Machine
end

