-- ==== Sys2Proof/Safety.lean ====
section
/-!
DEFINITION. Sys2Proof/Safety.lean: the words in which statements about the part are made: that a command completes, which parts of
State a command may change, what no command changes, and the canonical form of the memories.
-/
namespace Sys2Proof.Machine
open Sys2Proof

/-- The command completes: exec answers a next state, of which `post` holds. -/
def Completes (c : Instr) (s : State) (post : State → Prop) : Prop := ∃ t, exec c s = .next t ∧ post t

/-- The canonical form of the memories: SRAM and main MRAM against 0x00, the NOR flash against 0xFF. -/
def Memory.wf (s : State) : Bool := Table.wf 0 s.mem && Table.wf 0xFF s.flash

/-! ### Parts of State, as the bits of a number -/

/-- Start, reset, maintenance port, power domains and shelving. -/
def Part.sys : Nat := 2 ^ 0
/-- The backup domain. -/
def Part.bk : Nat := 2 ^ 1
/-- The NVM controller. -/
def Part.nvm : Nat := 2 ^ 2
/-- Catalogue management. -/
def Part.cat : Nat := 2 ^ 3
/-- The security core and OTP. -/
def Part.sc : Nat := 2 ^ 4
/-- The recorder. -/
def Part.rcd : Nat := 2 ^ 5
/-- The counters. -/
def Part.cnt : Nat := 2 ^ 6
/-- The time unit. -/
def Part.time : Nat := 2 ^ 7
/-- What the Portal Sequencer holds for the whole device. -/
def Part.seq : Nat := 2 ^ 8
/-- The portals. -/
def Part.portals : Nat := 2 ^ 9
/-- The obstacle observers. -/
def Part.obs : Nat := 2 ^ 10
/-- The axes. -/
def Part.axes : Nat := 2 ^ 11
/-- The feedback ports. -/
def Part.fb : Nat := 2 ^ 12
/-- The drive links. -/
def Part.links : Nat := 2 ^ 13
/-- The Interlock Logic. -/
def Part.ilk : Nat := 2 ^ 14
/-- Isolation links, field tiles and field channels. -/
def Part.fio : Nat := 2 ^ 15
/-- The load switches and banks. -/
def Part.loads : Nat := 2 ^ 16
/-- The switch. -/
def Part.net : Nat := 2 ^ 17
/-- The TRDP engine. -/
def Part.trdp : Nat := 2 ^ 18
/-- The Safe Transfer connections. -/
def Part.conns : Nat := 2 ^ 19
/-- The twin unit. -/
def Part.twin : Nat := 2 ^ 20
/-- The registers that software writes. -/
def Part.regs : Nat := 2 ^ 21
/-- The bytes of SRAM and main MRAM. -/
def Part.mem : Nat := 2 ^ 22
/-- The bytes of the NOR flash. -/
def Part.flash : Nat := 2 ^ 23
/-- The outputs of the last command. -/
def Part.outs : Nat := 2 ^ 24
/-- The count of free values drawn. -/
def Part.free : Nat := 2 ^ 25
/-- No field: the fall of the catalogue lock or of the Operational line, which a reset alone may bring. -/
def Part.restart : Nat := 2 ^ 26
/-- No field: a change of the start state other than the one a reset makes. -/
def Part.startup : Nat := 2 ^ 27
/-- No field: a change of a portal's state (R95). -/
def Part.states : Nat := 2 ^ 28
/-- No field: the scheduled slots and the accepted immediate actions, which are a share of `seq`. -/
def Part.actions : Nat := 2 ^ 29

/-- Just after a reset: in reset or in BOOT, with the catalogue lock and the Operational line low (R626, R644, R678). -/
def State.JustReset (s : State) : Prop :=
  (s.sys.start = .inReset ∨ s.sys.start = .boot) ∧ s.sys.operational = false ∧ s.sys.lock = false

/-- The start state, the Operational line and the lock are as they were, or a reset has come. -/
def State.KeptOrReset (s t : State) : Prop :=
  (t.sys.start = s.sys.start ∧ t.sys.operational = s.sys.operational ∧ t.sys.lock = s.sys.lock) ∨ t.JustReset

/-- Whether part `p` is not among the parts `w`. -/
def Part.out (p w : Nat) : Bool := p &&& w == 0
/-- Whether the parts `a` are all among `b`. -/
def Part.within (a b : Nat) : Bool := a ||| b == b

/-- `t` may come from `s` by operations that write the parts `w` only. Whatever `w` is, the queue of commands is as before, local time
has not run back, the memories keep their canonical form, and no OTP bit has returned (R601). -/
structure Frame (w : Nat) (s t : State) : Prop where
  sys : Part.out Part.sys w = true → t.sys = s.sys
  bk : Part.out Part.bk w = true → t.bk = s.bk
  nvm : Part.out Part.nvm w = true → t.nvm = s.nvm
  cat : Part.out Part.cat w = true → t.cat = s.cat
  sc : Part.out Part.sc w = true → t.sc = s.sc
  rcd : Part.out Part.rcd w = true → t.rcd = s.rcd
  cnt : Part.out Part.cnt w = true → t.cnt = s.cnt
  time : Part.out Part.time w = true → t.time = s.time
  seq : Part.out Part.seq w = true → t.seq = s.seq
  portals : Part.out Part.portals w = true → t.portals = s.portals
  obs : Part.out Part.obs w = true → t.obs = s.obs
  axes : Part.out Part.axes w = true → t.axes = s.axes
  fb : Part.out Part.fb w = true → t.fb = s.fb
  links : Part.out Part.links w = true → t.links = s.links
  ilk : Part.out Part.ilk w = true → t.ilk = s.ilk
  fio : Part.out Part.fio w = true → t.fio = s.fio
  loads : Part.out Part.loads w = true → t.loads = s.loads
  net : Part.out Part.net w = true → t.net = s.net
  trdp : Part.out Part.trdp w = true → t.trdp = s.trdp
  conns : Part.out Part.conns w = true → t.conns = s.conns
  twin : Part.out Part.twin w = true → t.twin = s.twin
  regs : Part.out Part.regs w = true → t.regs = s.regs
  mem : Part.out Part.mem w = true → t.mem = s.mem
  flash : Part.out Part.flash w = true → t.flash = s.flash
  outs : Part.out Part.outs w = true → t.outs = s.outs
  free : Part.out Part.free w = true → t.free = s.free
  lock : Part.out Part.restart w = true → s.sys.lock = true → t.sys.lock = true
  operational : Part.out Part.restart w = true → s.sys.operational = true → t.sys.operational = true
  boot : Part.out Part.startup w = true → s.KeptOrReset t
  states : Part.out Part.states w = true → ∀ p, (t.portal p).st = (s.portal p).st
  actions : Part.out Part.actions w = true → t.seq.slots = s.seq.slots ∧ t.seq.imm = s.seq.imm
  pending : t.pending = s.pending
  lt : s.time.lt ≤ t.time.lt
  memWf : Table.wf 0 s.mem = true → Table.wf 0 t.mem = true
  flashWf : Table.wf 0xFF s.flash = true → Table.wf 0xFF t.flash = true
  fuse : s.sc.debugFuse = true → t.sc.debugFuse = true
  floor : s.sc.fwFloor ≤ t.sc.fwFloor
  revoked : ∀ k, s.sc.fwRevoked.testBit k = true → t.sc.fwRevoked.testBit k = true
  enrolled : s.sc.enrolled <+: t.sc.enrolled

/-- Portal `p` goes to state `q` and every other portal keeps its state. -/
def State.PortalGoes (s t : State) (p : Nat) (q : PState) : Prop :=
  (t.portal p).st = q ∧ ∀ k, k ≠ p → (t.portal k).st = (s.portal k).st

end Sys2Proof.Machine
end

