-- ==== Sys2Proof/Accepts.lean ====
section
/-!
DEFINITION. Sys2Proof/Accepts.lean: when a critical command arrives and is accepted (R605, R606, R611, R613), in the words in which
statements about critical commands are made.
-/
namespace Sys2Proof.Machine
open Sys2Proof

/-- The path of a critical command is open: a connection that may carry one on a device that is not the standby, or the maintenance port
with the command buffer free (R496, R613). -/
def State.pathOpen (s : State) (conn : Option (Fin 64)) (b : List Byte) : Bool := match conn with
  | some c => s.connEn c && !s.standby && ((s.conn c).st == .open_ || (s.conn c).st == .rekeying)
  | none => s.mayAccess 4 false && decide (56 ≤ b.length ∧ b.length ≤ 248) && !s.sc.bufBusy

/-- The state in which the core finds the command: the maintenance port has written the command buffer and set GO. -/
def State.offered (s : State) (conn : Option (Fin 64)) (b : List Byte) : State := match conn with
  | some _ => s
  | none =>
    let s1 := forEach (List.range 64) (fun s i =>
      if 4 * i < b.length then s.setReg .secCmdBuf i 0 (BitVec.ofNat 32 (leAt b (4 * i) 4)) else s) s
    { s1 with sc := { s1.sc with bufBusy := true, bufDone := false, bufResult := 0 } }

/-- The core takes the command up: its path is open, its queue has room, no release of OWN_N is announced and the device is not being
shelved (R522, R605, R666). `y` is the state in which it finds it. -/
structure State.Arrives (s : State) (code : Nat) (conn : Option (Fin 64)) (b : List Byte) (y : State) : Prop where
  code : cmdCode b = code
  domain : s.domain 1 = true
  path : s.pathOpen conn b = true
  owns : s.twin.releasing = none
  awake : s.sys.shelving = false
  room : s.queued < 8
  found : s.offered conn b = y

/-- The command arrives and passes every check of R605. -/
structure State.Verified (s : State) (code : Nat) (conn : Option (Fin 64)) (b : List Byte) (y : State) : Prop
    extends State.Arrives s code conn b y where
  passes : y.verifyCmd (conn.map Fin.val) b = none

/-- The command is verified, and no mate has to confirm its counter before it takes effect (R526, R606). -/
structure State.Accepts (s : State) (code : Nat) (conn : Option (Fin 64)) (b : List Byte) (y : State) : Prop
    extends State.Verified s code conn b y where
  alone : s.mirrors = false

/-- The key a PROVISION carries, where its point is on the curve and its tag passes (R607). -/
def provisionKey (b : List Byte) : Option (List Byte) :=
  let p := cmdParams b
  let x := beAt p 0 48
  let y := beAt p 48 48
  if onCurve x y then
    gcmDecrypt ((hmac384 (ecdhX Config.identityPriv x y) (ascii "SLF-PROV" ++ slice p 0 96)).take 32) (slice p 96 12) (b.take 40) (slice p 108 48)
      (slice p 156 16)
  else none

/-- The key a KEY_INSTALL carries, where its tag passes (R608). -/
def State.installedKey (s : State) (b : List Byte) : Option (List Byte) :=
  let p := cmdParams b
  gcmDecrypt ((hmac384 (s.key (cmdKeyOf b)).key (ascii "SLF-KW" ++ beBytes 8 (cmdCounter b))).take 32) (slice p 4 12) (b.take 44) (slice p 16 48)
    (slice p 64 16)

end Sys2Proof.Machine
end

