-- ==== Sys2Proof/Parts.lean ====
section
/-!
DEFINITION. Sys2Proof/Parts.lean: which parts of State each command may change, whatever its operands and whatever the state: the words
in which the frame of a command is stated.
-/
namespace Sys2Proof.Machine
open Sys2Proof

/-- Events, counters and outputs, which almost every command may add to. -/
def Part.record : Nat := Part.rcd ||| Part.cnt ||| Part.outs
/-- Every part but the flash, with what a reset changes, and no change of the start state but a reset's. -/
def Part.device : Nat := (2 ^ 30 - 1) - Part.flash - Part.startup
/-- What a reset changes: no free value is drawn. -/
def Part.reset : Nat := Part.device - Part.free

/-- The parts that a command may change. -/
def mayChange : Instr → Nat
  | .powerOn .. => Part.reset
  | .brownOut .. => Part.reset
  | .nrstAssert => Part.reset
  | .nrstRelease => Part.sys ||| Part.bk ||| Part.time ||| Part.outs ||| Part.startup
  | .clockFail => Part.reset
  | .lockstepMismatch => Part.reset
  | .watchdogExpiry => Part.reset
  | .debugReset => Part.reset
  | .sysCmdReset .. => Part.reset
  | .sysCmdWdog .. => Part.record ||| Part.sys
  | .pllLock => Part.sys ||| Part.time ||| Part.outs ||| Part.startup
  | .norDiscovery .. => Part.record ||| Part.sys ||| Part.nvm ||| Part.fio ||| Part.startup
  | .recorderStart .. => Part.record ||| Part.sys ||| Part.mem ||| Part.free
  | .paramVote => Part.record ||| Part.sys ||| Part.cat ||| Part.sc ||| Part.portals ||| Part.ilk ||| Part.mem
  | .firmwareSelect => Part.record ||| Part.sys ||| Part.fio ||| Part.startup
  | .catalogueSelect => Part.record ||| Part.sys ||| Part.cat ||| Part.fio ||| Part.startup
  | .catalogueApply => Part.device ||| Part.startup
  | .startSelftest .. => Part.record ||| Part.sys ||| Part.sc ||| Part.ilk ||| Part.fio ||| Part.trdp ||| Part.startup
  | .joinEnd => Part.sys ||| Part.bk ||| Part.time ||| Part.outs
  | .operationalEntry => Part.record ||| Part.sys ||| Part.bk ||| Part.cat ||| Part.sc ||| Part.ilk ||| Part.mem ||| Part.startup
  | .portalReferenceStart .. =>
      Part.record ||| Part.sys ||| Part.seq ||| Part.portals ||| Part.obs ||| Part.axes ||| Part.loads ||| Part.twin ||| Part.mem |||
      Part.free ||| Part.states
  | .unmappedAccess .. => Part.record ||| Part.sys
  | .registerWrite .. => Part.device
  | .mntTransaction .. => Part.device
  | .paramCrcCheck =>
      Part.record ||| Part.sys ||| Part.seq ||| Part.portals ||| Part.obs ||| Part.axes ||| Part.ilk ||| Part.loads ||| Part.twin |||
      Part.mem ||| Part.free ||| Part.states
  | .catCommit .. => Part.record ||| Part.cat ||| Part.sc ||| Part.conns ||| Part.twin ||| Part.regs ||| Part.mem ||| Part.free
  | .catCommitVerifyDone => Part.record ||| Part.cat ||| Part.sc ||| Part.ilk ||| Part.conns ||| Part.twin ||| Part.mem ||| Part.free
  | .catPwLockoutEnd => Part.bk ||| Part.cat ||| Part.time ||| Part.mem ||| Part.outs
  | .motionCycle =>
      Part.record ||| Part.sys ||| Part.bk ||| Part.time ||| Part.seq ||| Part.portals ||| Part.obs ||| Part.axes ||| Part.fb |||
      Part.links ||| Part.ilk ||| Part.fio ||| Part.loads ||| Part.twin ||| Part.mem ||| Part.free ||| Part.states
  | .action .. => Part.record ||| Part.sc ||| Part.seq ||| Part.conns ||| Part.twin ||| Part.regs ||| Part.mem ||| Part.free ||| Part.actions
  | .immediateActionApply =>
      Part.record ||| Part.sys ||| Part.seq ||| Part.portals ||| Part.obs ||| Part.axes ||| Part.ilk ||| Part.loads ||| Part.twin |||
      Part.mem ||| Part.free ||| Part.states ||| Part.actions
  | .slotDue =>
      Part.record ||| Part.sys ||| Part.bk ||| Part.time ||| Part.seq ||| Part.portals ||| Part.obs ||| Part.axes ||| Part.ilk |||
      Part.loads ||| Part.twin ||| Part.mem ||| Part.free ||| Part.states ||| Part.actions
  | .isolate .. =>
      Part.record ||| Part.sys ||| Part.sc ||| Part.seq ||| Part.portals ||| Part.obs ||| Part.axes ||| Part.ilk ||| Part.loads ||| Part.conns |||
      Part.twin ||| Part.regs ||| Part.mem ||| Part.free ||| Part.states
  | .restore .. =>
      Part.record ||| Part.sys ||| Part.sc ||| Part.seq ||| Part.portals ||| Part.obs ||| Part.axes ||| Part.fb ||| Part.links ||| Part.ilk |||
      Part.loads ||| Part.conns ||| Part.twin ||| Part.regs ||| Part.mem ||| Part.free ||| Part.states
  | .passengerRequest .. =>
      Part.record ||| Part.sys ||| Part.seq ||| Part.portals ||| Part.obs ||| Part.axes ||| Part.ilk ||| Part.loads ||| Part.twin |||
      Part.mem ||| Part.free ||| Part.states
  | .presenceInput .. =>
      Part.record ||| Part.sys ||| Part.seq ||| Part.portals ||| Part.obs ||| Part.axes ||| Part.ilk ||| Part.loads ||| Part.twin |||
      Part.mem ||| Part.free ||| Part.states
  | .emergencyHandle .. =>
      Part.record ||| Part.sys ||| Part.seq ||| Part.portals ||| Part.obs ||| Part.axes ||| Part.ilk ||| Part.loads ||| Part.twin |||
      Part.mem ||| Part.free ||| Part.states
  | .zeroSpeedActive =>
      Part.record ||| Part.sys ||| Part.seq ||| Part.portals ||| Part.obs ||| Part.axes ||| Part.ilk ||| Part.loads ||| Part.twin |||
      Part.mem ||| Part.free ||| Part.states
  | .zeroSpeedLost =>
      Part.record ||| Part.sys ||| Part.seq ||| Part.portals ||| Part.obs ||| Part.axes ||| Part.ilk ||| Part.loads ||| Part.twin |||
      Part.mem ||| Part.free ||| Part.states
  | .unlockComplete .. =>
      Part.record ||| Part.sys ||| Part.seq ||| Part.portals ||| Part.obs ||| Part.loads ||| Part.twin ||| Part.mem ||| Part.free |||
      Part.states
  | .stepDeployed .. => Part.seq ||| Part.portals ||| Part.outs
  | .lockedInputActive .. =>
      Part.record ||| Part.sys ||| Part.seq ||| Part.portals ||| Part.obs ||| Part.loads ||| Part.twin ||| Part.mem ||| Part.free |||
      Part.states
  | .stepStowed .. =>
      Part.record ||| Part.sys ||| Part.seq ||| Part.portals ||| Part.obs ||| Part.loads ||| Part.twin ||| Part.mem ||| Part.free |||
      Part.states
  | .switchOpenInLocked .. => Part.record ||| Part.ilk
  | .homingDone .. =>
      Part.record ||| Part.sys ||| Part.seq ||| Part.portals ||| Part.obs ||| Part.loads ||| Part.twin ||| Part.mem ||| Part.free |||
      Part.states
  | .leavesAtOpen .. =>
      Part.record ||| Part.sys ||| Part.seq ||| Part.portals ||| Part.obs ||| Part.loads ||| Part.twin ||| Part.mem ||| Part.free |||
      Part.states
  | .leavesAtReopenTarget .. =>
      Part.record ||| Part.sys ||| Part.seq ||| Part.portals ||| Part.obs ||| Part.loads ||| Part.twin ||| Part.mem ||| Part.free |||
      Part.states
  | .leavesClosed .. =>
      Part.record ||| Part.sys ||| Part.seq ||| Part.portals ||| Part.obs ||| Part.axes ||| Part.loads ||| Part.twin ||| Part.mem |||
      Part.free ||| Part.states
  | .dwellElapsed .. =>
      Part.record ||| Part.sys ||| Part.bk ||| Part.time ||| Part.seq ||| Part.portals ||| Part.obs ||| Part.axes ||| Part.ilk |||
      Part.loads ||| Part.twin ||| Part.mem ||| Part.free ||| Part.states
  | .obstWaitElapsed .. =>
      Part.record ||| Part.sys ||| Part.bk ||| Part.time ||| Part.seq ||| Part.portals ||| Part.obs ||| Part.axes ||| Part.ilk |||
      Part.loads ||| Part.twin ||| Part.mem ||| Part.free ||| Part.states
  | .warnPreElapsed .. =>
      Part.record ||| Part.sys ||| Part.bk ||| Part.time ||| Part.seq ||| Part.portals ||| Part.obs ||| Part.axes ||| Part.loads |||
      Part.twin ||| Part.mem ||| Part.free ||| Part.states
  | .flashToggle .. => Part.bk ||| Part.time ||| Part.portals ||| Part.loads ||| Part.outs
  | .chimeEnd .. => Part.bk ||| Part.time ||| Part.portals ||| Part.loads ||| Part.outs
  | .unlockFail .. =>
      Part.record ||| Part.sys ||| Part.bk ||| Part.time ||| Part.seq ||| Part.portals ||| Part.obs ||| Part.axes ||| Part.ilk |||
      Part.loads ||| Part.twin ||| Part.mem ||| Part.free ||| Part.states
  | .lockTimeElapsed .. => Part.bk ||| Part.time ||| Part.portals ||| Part.obs ||| Part.axes ||| Part.outs
  | .recloseEnd .. => Part.bk ||| Part.time ||| Part.portals ||| Part.axes ||| Part.outs
  | .lockFail .. =>
      Part.record ||| Part.sys ||| Part.bk ||| Part.time ||| Part.seq ||| Part.portals ||| Part.obs ||| Part.axes ||| Part.ilk |||
      Part.loads ||| Part.twin ||| Part.mem ||| Part.free ||| Part.states
  | .stepFail .. =>
      Part.record ||| Part.sys ||| Part.bk ||| Part.time ||| Part.seq ||| Part.portals ||| Part.obs ||| Part.axes ||| Part.ilk |||
      Part.loads ||| Part.twin ||| Part.mem ||| Part.free ||| Part.states
  | .referenceFail .. =>
      Part.record ||| Part.sys ||| Part.bk ||| Part.time ||| Part.seq ||| Part.portals ||| Part.obs ||| Part.axes ||| Part.ilk |||
      Part.loads ||| Part.twin ||| Part.mem ||| Part.free ||| Part.states
  | .obsStopResume .. => Part.bk ||| Part.time ||| Part.obs ||| Part.axes ||| Part.outs
  | .commission .. => Part.record ||| Part.sys ||| Part.obs
  | .inject .. => Part.record ||| Part.sys ||| Part.obs
  | .obsTblDataAccess .. => Part.record ||| Part.sys ||| Part.obs
  | .segAppend .. => Part.record ||| Part.sys ||| Part.time ||| Part.portals ||| Part.obs ||| Part.axes
  | .segReplace .. => Part.record ||| Part.sys ||| Part.time ||| Part.portals ||| Part.obs ||| Part.axes
  | .axisStop .. => Part.record ||| Part.sys ||| Part.time ||| Part.portals ||| Part.obs ||| Part.axes
  | .axisClear .. => Part.record ||| Part.sys ||| Part.time ||| Part.portals ||| Part.obs ||| Part.axes
  | .emergencyDecelRest .. => Part.record ||| Part.obs ||| Part.axes
  | .axStall .. => Part.record ||| Part.bk ||| Part.time ||| Part.portals ||| Part.obs ||| Part.axes
  | .axLimit .. => Part.record ||| Part.time ||| Part.portals ||| Part.obs ||| Part.axes
  | .axChatter .. => Part.record ||| Part.axes
  | .axStepLag .. => Part.record ||| Part.axes
  | .homeReferenceFound .. => Part.record ||| Part.axes ||| Part.fb ||| Part.regs
  | .homeDwellElapsed .. => Part.record ||| Part.bk ||| Part.time ||| Part.axes ||| Part.fb ||| Part.regs
  | .homeLimitHit .. => Part.record ||| Part.time ||| Part.portals ||| Part.obs ||| Part.axes
  | .brakeReleaseElapsed .. => Part.bk ||| Part.time ||| Part.axes ||| Part.outs
  | .brakeApplyElapsed .. => Part.bk ||| Part.time ||| Part.axes ||| Part.ilk ||| Part.outs
  | .fbCfgWrite .. => Part.record ||| Part.sys ||| Part.fb ||| Part.regs
  | .fbPset .. => Part.record ||| Part.sys ||| Part.fb ||| Part.regs
  | .fbPosRead .. => Part.record ||| Part.sys ||| Part.fb
  | .fbPrbPosRead .. => Part.record ||| Part.sys ||| Part.fb
  | .fbCmpPosWrite .. => Part.record ||| Part.sys ||| Part.fb ||| Part.regs
  | .fbCmpCfgWrite .. => Part.record ||| Part.sys ||| Part.fb ||| Part.regs
  | .fbEvtClear .. => Part.record ||| Part.sys ||| Part.fb
  | .fbIllegal .. => Part.record ||| Part.axes ||| Part.fb
  | .fbLineBroken .. => Part.record ||| Part.axes ||| Part.fb
  | .fbAmplitudeFault .. => Part.record ||| Part.axes ||| Part.fb
  | .fbIndex .. => Part.record ||| Part.portals ||| Part.axes ||| Part.fb
  | .probeEdge .. => Part.record ||| Part.portals ||| Part.obs ||| Part.axes ||| Part.fb
  | .compareHit .. => Part.fb ||| Part.regs ||| Part.outs
  | .fbDivLag .. => Part.record ||| Part.fb
  | .speedWindow .. => Part.bk ||| Part.time ||| Part.fb ||| Part.outs
  | .ssiFrame .. => Part.record ||| Part.portals ||| Part.obs ||| Part.axes ||| Part.fb
  | .dlReply .. => Part.record ||| Part.portals ||| Part.axes ||| Part.links
  | .dlUplinkTimeout .. => Part.record ||| Part.bk ||| Part.time ||| Part.portals ||| Part.axes ||| Part.links
  | .dlRestart .. => Part.record ||| Part.sys ||| Part.links
  | .dlStartIdleEnd .. => Part.bk ||| Part.time ||| Part.links ||| Part.outs
  | .dlDelayMeasured .. => Part.record ||| Part.axes ||| Part.links
  | .fieldFrame => Part.record ||| Part.bk ||| Part.time ||| Part.axes ||| Part.ilk ||| Part.fio ||| Part.loads
  | .fieldReply .. => Part.record ||| Part.axes ||| Part.ilk ||| Part.fio
  | .fieldReplyMissing .. => Part.record ||| Part.bk ||| Part.time ||| Part.axes ||| Part.ilk ||| Part.fio
  | .fldRestart .. => Part.record ||| Part.sys ||| Part.fio
  | .fldClrDiag .. => Part.record ||| Part.sys ||| Part.fio
  | .tileFrameReceive .. => Part.record ||| Part.fio ||| Part.loads
  | .tileApply .. => Part.record ||| Part.bk ||| Part.time ||| Part.fio ||| Part.loads
  | .tileTimeout .. => Part.record ||| Part.bk ||| Part.time ||| Part.fio ||| Part.loads
  | .tilePowerUp .. => Part.fio ||| Part.loads ||| Part.outs
  | .tileSupplyLoss .. => Part.fio ||| Part.loads ||| Part.outs
  | .fieldInputEdge .. => Part.fio ||| Part.outs
  | .wettingEnd .. => Part.bk ||| Part.time ||| Part.fio ||| Part.outs
  | .wireBreak .. => Part.record ||| Part.fio
  | .outputOverload .. => Part.record ||| Part.fio
  | .outputReadback .. => Part.record ||| Part.bk ||| Part.time ||| Part.fio
  | .openWire .. => Part.record ||| Part.fio
  | .fldTpOverload .. => Part.record ||| Part.fio
  | .testPulseStart .. => Part.bk ||| Part.time ||| Part.fio ||| Part.outs
  | .testPulseWindowEnd .. => Part.bk ||| Part.time ||| Part.fio ||| Part.outs
  | .mrstPressBegin .. => Part.fio ||| Part.outs
  | .mrstPressEnd .. => Part.record ||| Part.fio
  | .fldMrstStuck .. => Part.record ||| Part.bk ||| Part.time ||| Part.fio
  | .mrstReleased .. => Part.record ||| Part.bk ||| Part.time ||| Part.seq ||| Part.axes ||| Part.fio ||| Part.twin ||| Part.actions
  | .ilkCrossDisagree .. =>
      Part.record ||| Part.sys ||| Part.bk ||| Part.time ||| Part.seq ||| Part.portals ||| Part.obs ||| Part.axes ||| Part.ilk |||
      Part.loads ||| Part.twin ||| Part.mem ||| Part.free ||| Part.states
  | .ilkDiscrepancy .. => Part.record ||| Part.bk ||| Part.time ||| Part.ilk
  | .soOffPulse .. => Part.bk ||| Part.time ||| Part.ilk ||| Part.outs
  | .soPulseEnd .. =>
      Part.record ||| Part.sys ||| Part.bk ||| Part.time ||| Part.seq ||| Part.portals ||| Part.obs ||| Part.axes ||| Part.ilk |||
      Part.loads ||| Part.twin ||| Part.mem ||| Part.free ||| Part.states
  | .ilkMonFault .. =>
      Part.record ||| Part.sys ||| Part.bk ||| Part.time ||| Part.seq ||| Part.portals ||| Part.obs ||| Part.axes ||| Part.ilk |||
      Part.loads ||| Part.twin ||| Part.mem ||| Part.free ||| Part.states
  | .ilkClear .. => Part.record ||| Part.sys ||| Part.ilk
  | .ilkLogLoad .. => Part.record ||| Part.sys ||| Part.ilk ||| Part.regs
  | .brakeTestStart .. => Part.axes ||| Part.ilk ||| Part.loads ||| Part.outs
  | .brakeTestPhaseEnd .. =>
      Part.record ||| Part.sys ||| Part.bk ||| Part.time ||| Part.seq ||| Part.portals ||| Part.obs ||| Part.axes ||| Part.ilk |||
      Part.loads ||| Part.twin ||| Part.mem ||| Part.free ||| Part.states
  | .brakeTestTorqueTimeout .. =>
      Part.record ||| Part.sys ||| Part.bk ||| Part.time ||| Part.seq ||| Part.portals ||| Part.obs ||| Part.axes ||| Part.ilk |||
      Part.loads ||| Part.twin ||| Part.mem ||| Part.free ||| Part.states
  | .brakeTestOverdue .. => Part.record ||| Part.bk ||| Part.time ||| Part.ilk
  | .lsOnDelayEnd .. => Part.bk ||| Part.time ||| Part.loads ||| Part.outs
  | .lsInrushEnd .. => Part.bk ||| Part.time ||| Part.loads ||| Part.outs
  | .lsShort .. => Part.record ||| Part.loads
  | .lsRetry .. => Part.record ||| Part.bk ||| Part.time ||| Part.loads
  | .lsRetriesReset .. => Part.bk ||| Part.time ||| Part.loads ||| Part.outs
  | .lsThermal .. => Part.record ||| Part.loads
  | .lsThermalRelease .. => Part.record ||| Part.loads
  | .lsOpenLoad .. => Part.record ||| Part.loads
  | .lsReadback .. => Part.record ||| Part.loads
  | .lsBankPeak .. => Part.record ||| Part.bk ||| Part.time ||| Part.loads
  | .lsBankCont .. => Part.record ||| Part.loads
  | .lsContShed .. => Part.record ||| Part.bk ||| Part.time ||| Part.loads
  | .lswClear .. => Part.record ||| Part.sys ||| Part.fio ||| Part.loads
  | .lswClrDiag .. => Part.record ||| Part.sys ||| Part.fio
  | .lswRestart .. => Part.record ||| Part.sys ||| Part.fio
  | .ptpSync .. => Part.record ||| Part.time ||| Part.seq ||| Part.actions
  | .ptpFollowUp .. => Part.record ||| Part.time ||| Part.seq ||| Part.actions
  | .ptpAnnounce .. => Part.record ||| Part.time ||| Part.seq ||| Part.actions
  | .ptpPdelayReq .. => Part.cnt ||| Part.outs ||| Part.free
  | .ptpPdelayResp .. => Part.record ||| Part.time ||| Part.seq ||| Part.actions
  | .ptpPdelaySend => Part.time ||| Part.outs
  | .ptpSyncSend => Part.time ||| Part.outs
  | .timeHoldover .. => Part.record ||| Part.bk ||| Part.time ||| Part.seq ||| Part.actions
  | .timeHoldoverLong .. => Part.record ||| Part.bk ||| Part.time ||| Part.seq ||| Part.actions
  | .timeSettleEnd .. => Part.record ||| Part.bk ||| Part.time ||| Part.seq ||| Part.actions
  | .timeJumpConfirm => Part.bk ||| Part.time ||| Part.outs
  | .timeStep => Part.record ||| Part.bk ||| Part.time ||| Part.seq ||| Part.fio ||| Part.twin ||| Part.actions
  | .acceptJump .. => Part.record ||| Part.sys ||| Part.time
  | .acceptPath .. => Part.record ||| Part.sys ||| Part.time ||| Part.seq ||| Part.actions
  | .timeTtRead .. => Part.record ||| Part.sys ||| Part.time
  | .rtcSet => Part.bk ||| Part.time ||| Part.outs
  | .frameReceive .. => Part.record ||| Part.net
  | .frameTransmitStart .. => Part.cnt ||| Part.net ||| Part.outs
  | .frameTransmitEnd .. => Part.record ||| Part.bk ||| Part.time ||| Part.net
  | .pauseReceive .. => Part.record ||| Part.net
  | .pauseExpire .. => Part.bk ||| Part.time ||| Part.net ||| Part.outs
  | .pauseRepeat .. => Part.bk ||| Part.cnt ||| Part.time ||| Part.net ||| Part.outs
  | .gclEntry .. => Part.bk ||| Part.time ||| Part.net ||| Part.outs
  | .netLinkUp .. => Part.record ||| Part.net
  | .netLinkDown .. => Part.record ||| Part.net
  | .hsrSupervisionSend => Part.record ||| Part.net
  | .netRingOpen .. => Part.record ||| Part.bk ||| Part.time ||| Part.net
  | .macAge => Part.bk ||| Part.time ||| Part.net ||| Part.outs
  | .proxyAge => Part.bk ||| Part.time ||| Part.net ||| Part.outs
  | .arpRequest .. => Part.outs
  | .icmpEcho .. => Part.cnt ||| Part.outs
  | .datagramDiscard .. => Part.record ||| Part.trdp
  | .ttdbDirectory .. => Part.record ||| Part.sc ||| Part.time ||| Part.seq ||| Part.trdp ||| Part.conns ||| Part.twin ||| Part.actions
  | .ttdbAnnounce .. => Part.trdp ||| Part.outs
  | .trdpDirectoryFail => Part.record ||| Part.bk ||| Part.time ||| Part.trdp
  | .publishDevStatus => Part.cnt ||| Part.outs
  | .publishPortalState => Part.cnt ||| Part.outs
  | .publishHealth => Part.cnt ||| Part.outs
  | .stlOpenReq .. => Part.record ||| Part.trdp ||| Part.conns ||| Part.twin ||| Part.free
  | .stlOpenAck .. => Part.record ||| Part.trdp ||| Part.conns ||| Part.twin ||| Part.free
  | .stlData .. => Part.device
  | .stlRekeyReq .. => Part.record ||| Part.trdp ||| Part.conns
  | .stlRekeyAck .. => Part.record ||| Part.trdp ||| Part.conns
  | .stlClose .. => Part.record ||| Part.sc ||| Part.trdp ||| Part.conns ||| Part.twin
  | .stlCycleSend .. => Part.record ||| Part.bk ||| Part.sc ||| Part.time ||| Part.conns ||| Part.twin ||| Part.free
  | .stlTimeout .. => Part.record ||| Part.bk ||| Part.sc ||| Part.time ||| Part.seq ||| Part.conns ||| Part.twin ||| Part.actions
  | .stlFailedRetry .. => Part.bk ||| Part.time ||| Part.conns ||| Part.outs ||| Part.free
  | .stlCmdOpen .. => Part.record ||| Part.sys ||| Part.sc ||| Part.conns ||| Part.twin ||| Part.free
  | .stlCmdClose .. => Part.record ||| Part.sys ||| Part.sc ||| Part.conns ||| Part.twin ||| Part.free
  | .streamOpen .. => Part.record ||| Part.trdp ||| Part.twin
  | .streamData .. => Part.record ||| Part.trdp ||| Part.twin
  | .streamAck .. => Part.record ||| Part.trdp ||| Part.twin
  | .streamClose .. => Part.record ||| Part.trdp ||| Part.twin
  | .streamAckSend .. => Part.cnt ||| Part.trdp ||| Part.twin ||| Part.outs
  | .streamSend .. => Part.record ||| Part.trdp ||| Part.twin
  | .streamRetransmit .. => Part.record ||| Part.bk ||| Part.time ||| Part.trdp ||| Part.twin
  | .streamGapTimeout .. => Part.record ||| Part.bk ||| Part.time ||| Part.trdp ||| Part.twin
  | .partnerRemoved .. => Part.record ||| Part.bk ||| Part.sc ||| Part.time ||| Part.trdp
  | .kazukHeartbeatSend .. => Part.bk ||| Part.time ||| Part.twin ||| Part.outs
  | .netHeartbeatSend => Part.bk ||| Part.cnt ||| Part.time ||| Part.twin ||| Part.outs
  | .kazukHeartbeat .. => Part.device
  | .netHeartbeat .. => Part.device
  | .twinPathDown .. => Part.record ||| Part.bk ||| Part.time ||| Part.twin
  | .mateSilent => Part.device
  | .ownNHigh => Part.twin ||| Part.outs
  | .twinClaim => Part.device
  | .ownLineFault .. => Part.record ||| Part.bk ||| Part.time ||| Part.seq ||| Part.axes ||| Part.twin ||| Part.actions
  | .ownWatchdogExpiry => Part.record ||| Part.bk ||| Part.time ||| Part.seq ||| Part.axes ||| Part.twin ||| Part.actions
  | .releaseAnnounce => Part.cnt ||| Part.twin ||| Part.outs
  | .twinReleased => Part.record ||| Part.bk ||| Part.time ||| Part.seq ||| Part.axes ||| Part.twin ||| Part.actions
  | .mirrorFrame .. =>
      Part.record ||| Part.sc ||| Part.seq ||| Part.portals ||| Part.obs ||| Part.axes ||| Part.links ||| Part.ilk ||| Part.trdp ||| Part.conns
      ||| Part.twin ||| Part.mem ||| Part.states ||| Part.actions
  | .mirrorAck .. => Part.device
  | .mirrorResend => Part.bk ||| Part.cnt ||| Part.time ||| Part.twin ||| Part.outs
  | .twinSynced .. => Part.record ||| Part.sc ||| Part.portals ||| Part.ilk ||| Part.twin ||| Part.mem
  | .standbySelftest .. => Part.record ||| Part.bk ||| Part.time ||| Part.fio ||| Part.loads ||| Part.twin
  | .revertRequest => Part.bk ||| Part.time ||| Part.twin ||| Part.outs
  | .quietMomentRelease => Part.bk ||| Part.cnt ||| Part.time ||| Part.twin ||| Part.outs
  | .twinTransferCmd .. => Part.record ||| Part.sys ||| Part.twin
  | .twinTransfer .. => Part.record ||| Part.sc ||| Part.conns ||| Part.twin ||| Part.regs ||| Part.mem ||| Part.free
  | .twinTransferRejected => Part.record ||| Part.bk ||| Part.time ||| Part.twin
  | .eventIntake .. => Part.record
  | .recAllocate => Part.record ||| Part.bk ||| Part.time ||| Part.obs ||| Part.twin ||| Part.mem ||| Part.free
  | .recRepeated => Part.record ||| Part.bk ||| Part.time
  | .recStore .. => Part.record ||| Part.bk ||| Part.obs ||| Part.twin ||| Part.mem
  | .recWriteRetry .. => Part.record ||| Part.bk ||| Part.time ||| Part.obs ||| Part.twin ||| Part.mem
  | .recPublish => Part.record
  | .holdSet .. => Part.record ||| Part.sys ||| Part.bk
  | .holdRelease .. => Part.record ||| Part.sys ||| Part.bk
  | .recHoldLimit => Part.bk ||| Part.rcd ||| Part.time ||| Part.outs
  | .recHoldDrainDone => Part.record ||| Part.bk ||| Part.obs ||| Part.twin ||| Part.mem
  | .capture .. => Part.record ||| Part.sys ||| Part.bk
  | .recFolioCaptured => Part.record ||| Part.mem
  | .keep .. => Part.record ||| Part.sys ||| Part.bk
  | .unkeep .. => Part.record ||| Part.sys ||| Part.bk
  | .recArchiveCmd .. => Part.record ||| Part.sys ||| Part.bk
  | .recClearCircCmd .. => Part.record ||| Part.sys ||| Part.bk
  | .recCleared => Part.record ||| Part.mem
  | .lwClear .. => Part.record ||| Part.sys ||| Part.bk
  | .rwOpen .. => Part.record ||| Part.sys ||| Part.regs
  | .rwStep .. => Part.record ||| Part.sys ||| Part.regs
  | .rwClose .. => Part.record ||| Part.sys ||| Part.regs
  | .rwLoadDone .. => Part.record
  | .rwIdleTimeout => Part.record ||| Part.bk ||| Part.time
  | .recNextRead .. => Part.record ||| Part.sys
  | .recOldestRead .. => Part.record ||| Part.sys
  | .read .. => Part.record ||| Part.trdp
  | .hold .. => Part.record ||| Part.trdp
  | .upload .. => Part.record ||| Part.trdp ||| Part.twin
  | .status .. => Part.record ||| Part.trdp
  | .cntValRead .. => Part.record ||| Part.sys
  | .cntSnapRead .. => Part.record ||| Part.sys
  | .sweep .. => Part.record ||| Part.sys
  | .sweepPeriodic => Part.bk ||| Part.cnt ||| Part.time ||| Part.outs
  | .write .. => Part.record ||| Part.sys
  | .clearAll .. => Part.record ||| Part.sys
  | .smpClear .. => Part.record ||| Part.sys
  | .cntSmpPosWrite .. => Part.record ||| Part.sys ||| Part.regs
  | .counters .. => Part.record ||| Part.trdp
  | .samples .. => Part.record ||| Part.trdp
  | .attest .. => Part.record ||| Part.sc ||| Part.trdp
  | .identity .. => Part.record ||| Part.trdp
  | .regRead .. => Part.record ||| Part.sys ||| Part.sc ||| Part.time ||| Part.portals ||| Part.obs ||| Part.fb ||| Part.trdp
  | .fwCommit .. => Part.record ||| Part.cat ||| Part.sc ||| Part.conns ||| Part.twin ||| Part.regs ||| Part.mem ||| Part.free
  | .keyInstall .. => Part.record ||| Part.sc ||| Part.conns ||| Part.twin ||| Part.regs ||| Part.mem ||| Part.free
  | .keyRetire .. => Part.record ||| Part.sc ||| Part.conns ||| Part.twin ||| Part.regs ||| Part.mem ||| Part.free
  | .catKeyEnrol .. => Part.record ||| Part.sc ||| Part.conns ||| Part.twin ||| Part.regs ||| Part.mem ||| Part.free
  | .debugFuse .. => Part.record ||| Part.sc ||| Part.conns ||| Part.twin ||| Part.regs ||| Part.mem ||| Part.free
  | .archive .. => Part.record ||| Part.sc ||| Part.conns ||| Part.twin ||| Part.regs ||| Part.mem ||| Part.free
  | .clearCirc .. => Part.record ||| Part.sc ||| Part.conns ||| Part.twin ||| Part.regs ||| Part.mem ||| Part.free
  | .regWrite .. => Part.device
  | .maintSession .. => Part.record ||| Part.sc ||| Part.conns ||| Part.twin ||| Part.regs ||| Part.mem ||| Part.free
  | .maintSessionEnd .. => Part.record ||| Part.bk ||| Part.sc ||| Part.time
  | .provision .. => Part.record ||| Part.sc ||| Part.conns ||| Part.twin ||| Part.regs ||| Part.mem ||| Part.free
  | .rngBlock => Part.record ||| Part.sc ||| Part.free
  | .rngRetest => Part.record ||| Part.sc ||| Part.free
  | .debugAttach => Part.record ||| Part.sc
  | .shelve .. => Part.record ||| Part.sys
  | .shelveReady => Part.sys ||| Part.bk ||| Part.outs
  | .shelveTimeout => Part.sys ||| Part.bk ||| Part.time ||| Part.outs
  | .wakeN => Part.sys ||| Part.bk ||| Part.time ||| Part.outs
  | .clockWake => Part.sys ||| Part.bk ||| Part.time ||| Part.outs
  | .supplyReturn => Part.sys ||| Part.bk ||| Part.time ||| Part.outs
  | .vbatMeasure .. => Part.sys ||| Part.outs
  | .nvmRead .. => Part.record ||| Part.sys ||| Part.nvm
  | .nvmProgram .. => Part.record ||| Part.sys ||| Part.nvm
  | .erase4k .. => Part.record ||| Part.sys ||| Part.nvm
  | .erase64k .. => Part.record ||| Part.sys ||| Part.nvm
  | .nvmOpDone .. => Part.record ||| Part.nvm ||| Part.regs ||| Part.flash
  | .fbCount .. => Part.record ||| Part.portals ||| Part.obs ||| Part.axes ||| Part.fb
  | .soReadbackFail .. =>
      Part.record ||| Part.sys ||| Part.bk ||| Part.time ||| Part.seq ||| Part.portals ||| Part.obs ||| Part.axes ||| Part.ilk |||
      Part.loads ||| Part.twin ||| Part.mem ||| Part.free ||| Part.states
  | .rtcCrystalStop => Part.bk ||| Part.outs
  | .backupPowerUp => Part.bk ||| Part.outs
  | .backupPowerLoss => Part.sys ||| Part.bk ||| Part.outs
  | .suppliesGood => Part.sys ||| Part.outs ||| Part.startup
  | .debugDetach => Part.sc ||| Part.outs
  | .mateEvent .. => Part.record ||| Part.twin
  | .gratuitousArp => Part.bk ||| Part.time ||| Part.trdp ||| Part.outs
  | .hsrDuplicateForget => Part.bk ||| Part.time ||| Part.net ||| Part.outs
  | .fwCommitDone => Part.record ||| Part.bk ||| Part.sc ||| Part.conns ||| Part.twin ||| Part.mem ||| Part.free
  | .attestDone => Part.sc ||| Part.cnt ||| Part.outs ||| Part.free
  | .portalCycLoRead .. => Part.record ||| Part.sys ||| Part.portals
  | .cntSweepTtRead .. => Part.record ||| Part.sys
  | .secCntRead .. => Part.record ||| Part.sys ||| Part.sc

end Sys2Proof.Machine
end

