-- ==== Sys2Proof/Claims.lean ====
section
/-!
DEFINITION. Sys2Proof/Claims.lean: the predicates in which the statements of Certificates/Slice0/Obligations.lean speak, one group per
chapter of the manual.
-/
namespace Sys2Proof.Machine
open Sys2Proof

/-! ### Resets and start (R622 to R644) -/

/-- What R626 says a reset leaves, from `s` to `t`: the reason is held and noted with the RTC time, registers at their reset values, no
safety output, no torque on, no OWN_N driven, no isolation-link frame owed; MRAM, seal macro, OTP, flash and the real-time clock as they were. -/
structure State.ResetFrom (s t : State) (reason : Nat) : Prop where
  held : t.sys.reason = reason
  noted : ∃ n, n.reason = reason ∧ t.sys.notes = s.sys.notes ++ [n]
  just : t.JustReset
  regs : t.regs = []
  outputsOff : ∀ k, (t.so k).cmd = false
  torqueOff : ∀ n, (t.axis n).mode = .off
  released : t.twin.driving = false
  noFrames : ∀ k, t.flink k = {}
  portals : ∀ p, (t.portal p).st = .unused
  mram : ∀ a, 0x01000000 ≤ a → t.memByte a = s.memByte a
  flash : t.flash = s.flash
  sealed : t.rcd.sealSlots = s.rcd.sealSlots ∧ t.rcd.sealMark = s.rcd.sealMark
  otp : t.sc.enrolled = s.sc.enrolled ∧ t.sc.debugFuse = s.sc.debugFuse ∧ t.sc.fwFloor = s.sc.fwFloor ∧ t.sc.fwRevoked = s.sc.fwRevoked
  backup : t.bk.lastWord = s.bk.lastWord ∧ t.bk.rtcValid = s.bk.rtcValid
  dies : ∀ k, t.die k = s.die k

/-! ### The bus (R37, R677) -/

/-- The counter of a discarded access: CNT280 undecoded, CNT281 reserved encoding, CNT282 RWL after the lock (R581, R677). -/
def discardCounter (cause : Nat) : Nat := if cause = 1 then 280 else if cause = 2 then 281 else 282

/-- The event of a discarded access (R37, R677). -/
def discardEvent (cause : Nat) : Nat := if cause = 1 then 0x0011 else if cause = 2 then 0x0012 else if cause = 3 then 0x0010 else 0x0013

/-- What R677 says of a discarded access, from `s` to `t`: counted, held, and recorded at the rate of R462 with its address and master; nothing
that software reaches is changed. -/
structure State.Discards (s t : State) (a cause m : Nat) (read : Bool) : Prop where
  info : t.sys = { s.sys with discAddr := a, discCause := cause, discRead := read, discMaster := m }
  counted : cause ≠ 4 → Table.get 0 t.cnt.value (discardCounter cause) = (Table.get 0 s.cnt.value (discardCounter cause) + 1) % 2 ^ 48
  recorded : t.rcd = (s.raiseRated (discardEvent cause) noInst 0 (leBytes 4 a ++ leBytes 1 m)).rcd
  regs : t.regs = s.regs
  mem : t.mem = s.mem
  axes : t.axes = s.axes
  ilk : t.ilk = s.ilk

end Sys2Proof.Machine
end

