-- ==== Sys2Proof/Certificates/Slice0/Obligations.lean ====
section
/-!
DEFINITION. Sys2Proof/Certificates/Slice0/Obligations.lean: the statements for the provers, chapter by chapter of the manual. Every
command answers through `Completes`: exec gives a next state of which the condition named holds.
-/
open Sys2Proof Sys2Proof.Machine

/-! ### Clocks, resets and start-up -/

/-- R624, R626: each reset source leaves the reset state with its reason; what R626 says survives is as before. Power-on, a brown-out, NRST
and a clock failure hold the controller in reset; the others end at once where nothing holds it. R22: LT runs from power-on and goes on through
every other reset. -/
def Obligations.ResetSourcesLeaveTheResetState : Prop := ∀ s : State,
  (∀ secs, Completes (.powerOn secs) s (fun t => s.ResetFrom t 1 ∧ t.sys.start = .inReset ∧ t.sys.resets = 0 ∧ t.localTime = 0)) ∧
  (∀ k, Completes (.brownOut k) s (fun t => s.ResetFrom t 2 ∧ t.sys.start = .inReset)) ∧
  Completes .nrstAssert s (fun t => s.ResetFrom t 3 ∧ t.sys.start = .inReset ∧ t.sys.nrstLow = true) ∧
  Completes .clockFail s (fun t => s.ResetFrom t 4 ∧ t.sys.start = .inReset ∧ t.sys.clkFail = true ∧ t.localTime = s.localTime) ∧
  (s.sys.fwRunning = true ∨ s.sys.start ≠ .inReset → Completes .lockstepMismatch s (fun t => s.ResetFrom t 5 ∧ t.localTime = s.localTime)) ∧
  (s.sys.fwRunning = true → Completes .watchdogExpiry s (fun t => s.ResetFrom t 6 ∧ s.sys.wdogLast + ms 50 ≤ t.time.lt)) ∧
  (∀ m : Fin 6, s.mayAccess m false = true → Completes (.sysCmdReset m) s (fun t => s.ResetFrom t 7 ∧ t.localTime = s.localTime)) ∧
  (s.sc.debugFuse = false → Completes .debugReset s (fun t => s.ResetFrom t 8 ∧ t.localTime = s.localTime))

/-- R621, R625, R631, R632, R402, R660: leaving reset, the lock of the PLL and the discovery of the flash. -/
def Obligations.BootClocksAndFlash : Prop := ∀ s : State,
  (s.sys.start = .inReset → s.sys.nrstLow = true → s.sys.supOk = true → s.sys.clkFail = false →
    Completes .nrstRelease s (fun t => t.sys.start = .boot ∧ t.sys.nrstLow = false ∧ t.time.lt = s.time.lt + us 10)) ∧
  (s.sys.start = .inReset → s.sys.supOk = false → s.sys.nrstLow = false → s.sys.clkFail = false →
    Completes .suppliesGood s (fun t => t.sys.start = .boot ∧ t.sys.supOk = true)) ∧
  (s.sys.start = .boot → s.sys.pllLocked = false →
    Completes .pllLock s (fun t => t.sys.pllLocked = true ∧ (∀ b, b < 16 → t.domain b = true) ∧
      t.tt = if s.bk.rtcValid then s.bk.rtc * 1000000000 else 0)) ∧
  (∀ sfdp cap addr4 octal passes, s.sys.start = .boot → s.sys.pllLocked = true → s.nvm.ready = false →
    (sfdp = true ∧ 16 ≤ cap ∧ addr4 = true →
      Completes (.norDiscovery sfdp cap addr4 octal passes) s (fun t =>
        t.nvm.ready = true ∧ t.nvm.octal = octal ∧ t.nvm.cap = min cap 0xFFFF ∧ t.sys = s.sys ∧ t.rcd = s.rcd)) ∧
    (sfdp = false ∨ cap < 16 ∨ addr4 = false →
      Completes (.norDiscovery sfdp cap addr4 octal passes) s (fun t => t.sys.start = .noFirmware ∧ t.nvm.ready = false)))

/-- R637: the vote over the three copies of a parameter. -/
def Obligations.ParameterVoteFollowsTheTable : Prop := ∀ (mono : Bool) (x y z : List Byte),
  vote mono (some x) (some x) (some x) = { value := some x } ∧
  (x ≠ y → vote mono (some x) (some y) (some y) =
    if mono && decide (leNat y < leNat x) then { value := some x, repaired := true, forward := true } else { value := some y, repaired := true }) ∧
  (x ≠ y → vote mono (some x) (some x) (some y) = { value := some x, repaired := true }) ∧
  (x ≠ y → vote mono (some x) (some y) (some x) = { value := some x, repaired := true }) ∧
  vote mono none (some x) (some x) = { value := some x, repaired := true } ∧
  vote mono (some x) none (some x) = { value := some x, repaired := true } ∧
  vote mono (some x) (some x) none = { value := some x, repaired := true } ∧
  vote mono (some x) none none = { value := some x, repaired := true } ∧
  vote mono none (some x) none = { value := some x, repaired := true } ∧
  vote mono none none (some x) = { value := some x, repaired := true } ∧
  (x ≠ y → y ≠ z → x ≠ z → vote mono (some x) (some y) (some z) = { value := none, fault := true }) ∧
  (x ≠ y → vote mono (some x) (some y) none = { value := none, fault := true }) ∧
  (x ≠ y → vote mono (some x) none (some y) = { value := none, fault := true }) ∧
  (x ≠ y → vote mono none (some x) (some y) = { value := none, fault := true }) ∧
  vote mono none none none = { value := none, fault := true }

/-- R572, R634, R637, R639, R629, R644: the steps of the start sequence from the recorder to the Operational line. -/
def Obligations.StartSequenceAdvances : Prop := ∀ s : State,
  (∀ sealOk a x, s.sys.pllLocked = true → s.rcd.started = false → s.sys.start = .boot → s.sys.notes = [] → s.voteMark = (some a, x) →
    Completes (.recorderStart sealOk none) s (fun t => t.rcd.started = true ∧
      t.rcd.nextAcc = (if sealOk then max a s.rcd.sealMark else a) + 1 ∧ t.rcd.mark = t.rcd.nextAcc - 1)) ∧
  (s.sys.pllLocked = true → s.rcd.started = true → s.sys.voted = false → s.sys.start = .boot →
    Completes .paramVote s (fun t => t.sys.voted = true ∧ t.sys.start = .boot)) ∧
  (s.sys.start = .boot → s.nvm.ready = true → s.sys.voted = true → Completes .firmwareSelect s (fun t => match s.chooseFirmware with
    | none => t.sys.start = .noFirmware
    | some k => t.sys.start = .config ∧ t.sys.fwRunning = true ∧ t.sys.fwSlot = (if s.fallsBack k then 1 - k else k) + 1)) ∧
  (∀ lockstep evaluator gate readback, s.sys.start = .selftest →
    Completes (.startSelftest lockstep evaluator gate readback) s (fun t =>
      if lockstep && evaluator && decide (crc32c s.ilkParams = s.ilk.pcrcRef) && gate && readback
      then t.sys.start = .join ∧ t.sys.testsPassed = true else t.sys.start = .startFail)) ∧
  (s.sys.start = .join → s.sys.joinEnded = false → Completes .joinEnd s (fun t => t.sys.joinEnded = true ∧ t.sys.start = .join)) ∧
  (s.sys.start = .join → s.sys.lock = true → s.sys.testsPassed = true → s.sys.joinEnded = true →
    Completes .operationalEntry s (fun t => t.operational = true ∧ t.sys.start = .operational ∧ Table.get 0 t.bk.starts s.sys.fwSlot = 0))

/-! ### Power, shelving, the backup domain and the flash -/

/-- R665 to R668: SHELVE, the fall of PWR_EN, and how Shelved and shelving end. -/
def Obligations.ShelvingFollowsItsTable : Prop := ∀ s : State,
  (∀ m : Fin 6, s.mayAccess m false = true → s.sys.start = .operational ∨ s.sys.start.maintOnly = true → s.sys.shelving = false →
    (s.shelfPortals = true → s.slotsInOrder = [] → s.rcd.hold = false → s.cat.commit = none → s.nvm.busy = none → s.wakePresent = false →
      Completes (.shelve m) s (fun t => t.sys.shelving = true ∧ t.sys.shelveRefused = false ∧ t.sys.refuseCause = 0 ∧ t.sys.pwrEnLow = s.sys.pwrEnLow)) ∧
    (s.shelfPortals = false → Completes (.shelve m) s (fun t => t.sys = { s.sys with shelveRefused := true, refuseCause := 1 }))) ∧
  (s.sys.shelving = true → s.sys.pwrEnLow = false → s.rcd.intake = [] → s.rcd.storeQ = [] → s.nvm.busy = none → s.wakePresent = false →
    Completes .shelveReady s (fun t => t.sys.pwrEnLow = true ∧ t.bk.wakeSrc = 0 ∧ t.sys.shelving = true)) ∧
  (s.sys.pwrEnLow = true → s.sys.shelving = true → s.sys.supOk = true →
    Completes .shelveTimeout s (fun t => t.sys.pwrEnLow = false ∧ t.sys.shelving = false ∧ t.sys.shelveRefused = true ∧ t.sys.refuseCause = 5)) ∧
  (∀ c, s.bk.powered = true → s.sys.pwrEnLow = true → s.sys.coreFell = some c →
    Completes .wakeN s (fun t => t.sys.pwrEnLow = false ∧ t.bk.wakeSrc = 1 ∧ c + ms 100 ≤ t.time.lt)) ∧
  (s.bk.powered = true → s.sys.pwrEnLow = false → s.sys.shelving = true →
    Completes .wakeN s (fun t => t.sys.shelving = false ∧ t.sys.shelveRefused = true ∧ t.sys.refuseCause = 6)) ∧
  (∀ c, s.bk.powered = true → s.bk.shelfWake ≠ 0 → s.bk.rtcValid = true → s.sys.pwrEnLow = true → s.sys.coreFell = some c →
    Completes .clockWake s (fun t => t.sys.pwrEnLow = false ∧ t.bk.wakeSrc = 2 ∧ c + ms 100 ≤ t.time.lt)) ∧
  (s.sys.pwrEnLow = true → s.bk.powered = true → s.wakePresent = false →
    Completes .supplyReturn s (fun t => t.sys.pwrEnLow = false ∧ t.bk.wakeSrc = 3)) ∧
  (∀ c, s.sys.pwrEnLow = true → s.bk.powered = true → s.sys.wakeHeld ≠ 0 → s.sys.coreFell = some c →
    Completes .supplyReturn s (fun t => t.sys.pwrEnLow = false ∧ t.bk.wakeSrc = s.sys.wakeHeld ∧ c + ms 100 ≤ t.time.lt))

/-- R623, R635, R663, R664: the backup cell is measured, the crystal stops, PD_BKUP powers up and loses its supply. -/
def Obligations.BackupDomainFollowsItsSupply : Prop := ∀ s : State,
  (∀ mv, Completes (.vbatMeasure mv) s (fun t => t.sys.vbatLow = decide (mv < 2200) ∧ t.bk = s.bk)) ∧
  (s.bk.powered = true → Completes .rtcCrystalStop s (fun t => t.bk = { s.bk with rtcValid := false })) ∧
  (s.bk.powered = false → Completes .backupPowerUp s (fun t => t.bk.powered = true ∧ t.bk.rtcValid = false ∧ t.bk.shelfWake = 0 ∧
    ∀ k, Table.get 0 t.bk.starts k = 0)) ∧
  Completes .backupPowerLoss s (fun t => t.bk.powered = false ∧ t.sys.pwrEnLow = false)

/-- R633: a flash command that is accepted starts its operation; each operation ends as the block's registers say. -/
def Obligations.FlashOperationsRun : Prop := ∀ s : State,
  (∀ m : Fin 6, s.mayAccess m false = true → s.domain 11 = true → s.nvm.busy = none →
    ((s.reg .nvmAddr).toNat % 256 = 0 → (s.reg .nvmAddr).toNat + 256 ≤ s.nvm.cap * 0x200000 →
      Completes (.nvmRead m) s (fun t => t.nvm = { s.nvm with busy := some ⟨1, (s.reg .nvmAddr).toNat⟩, done := false, err := 0 })) ∧
    ((s.reg .nvmAddr).toNat % 256 = 0 → (s.reg .nvmAddr).toNat + 256 ≤ s.nvm.cap * 0x200000 → s.nvmProtected (s.reg .nvmAddr).toNat 256 = false →
      Completes (.nvmProgram m) s (fun t => t.nvm = { s.nvm with busy := some ⟨2, (s.reg .nvmAddr).toNat⟩, done := false, err := 0 })) ∧
    ((s.reg .nvmAddr).toNat % 0x1000 = 0 → (s.reg .nvmAddr).toNat + 0x1000 ≤ s.nvm.cap * 0x200000 → s.nvmProtected (s.reg .nvmAddr).toNat 0x1000 = false →
      Completes (.erase4k m) s (fun t => t.nvm = { s.nvm with busy := some ⟨3, (s.reg .nvmAddr).toNat⟩, done := false, err := 0 })) ∧
    ((s.reg .nvmAddr).toNat % 0x10000 = 0 → (s.reg .nvmAddr).toNat + 0x10000 ≤ s.nvm.cap * 0x200000 → s.nvmProtected (s.reg .nvmAddr).toNat 0x10000 = false →
      Completes (.erase64k m) s (fun t => t.nvm = { s.nvm with busy := some ⟨4, (s.reg .nvmAddr).toNat⟩, done := false, err := 0 }))) ∧
  (∀ a held, s.nvm.busy = some ⟨1, a⟩ → Completes (.nvmOpDone false false held) s (fun t =>
    t.nvm = { s.nvm with busy := none, done := true, err := 0 } ∧ t.flash = s.flash ∧ ∀ i < 64, (t.reg .nvmBuf i).toNat = leAt (s.flashBytes a 256) (4 * i) 4)) ∧
  (∀ a held, s.nvm.busy = some ⟨2, a⟩ → (∀ k < 256, s.flashByte (a + k) = 0xFF) → Completes (.nvmOpDone false false held) s (fun t =>
    t.nvm = { s.nvm with busy := none, done := true, err := 0 } ∧ (∀ k < 256, t.flashByte (a + k) = s.nvmPage.getD k 0) ∧
    ∀ b, b < a ∨ a + 256 ≤ b → t.flashByte b = s.flashByte b)) ∧
  (∀ a held, s.nvm.busy = some ⟨3, a⟩ → Completes (.nvmOpDone false false held) s (fun t =>
    t.nvm = { s.nvm with busy := none, done := true, err := 0 } ∧ (∀ k < 0x1000, t.flashByte (a + k) = 0xFF) ∧
    ∀ b, b < a ∨ a + 0x1000 ≤ b → t.flashByte b = s.flashByte b)) ∧
  (∀ a held bad, s.nvm.busy = some ⟨4, a⟩ → Completes (.nvmOpDone true bad held) s (fun t => t.nvm = { s.nvm with busy := none, done := true, err := 3 }))

/-! ### The internal bus and the maintenance port -/

/-- R37, R661, R677: an access to an address that no block decodes: a read returns 0, a write is discarded; either is counted, held with its
address and master, and recorded as 0x0011 at the rate of R462. An address of a block whose domain is off counts as one that no block decodes. -/
def Obligations.UndecodedAccessReadsZeroOrIsDiscarded : Prop :=
  (∀ (s : State) (addr : Word) (read : Bool) (m : Fin 6), s.mayAccess m read = true → s.decode addr.toNat = .undecoded →
    Completes (.unmappedAccess addr read m) s (fun t => s.Discards t addr.toNat 1 m read ∧
      t.outs = if read then [.readWord addr.toNat 0] else [])) ∧
  (∀ (s : State) a, (0x100000 ≤ a → a < 0x500000 → s.domain 0 = false → s.decode a = .undecoded) ∧
    (0x01000000 ≤ a → a < 0x02000000 → s.domain 9 = false → s.decode a = .undecoded) ∧
    (∀ lo hi blk d, blockRanges.find? (fun r => decide (r.1 ≤ a ∧ a ≤ r.2.1)) = some (lo, hi, blk) → 0x02000000 ≤ a →
      blockDomain blk (a - lo) = some d → s.domain d = false → s.decode a = .undecoded))

/-- R21, R35, R41, R42, R676, R677: an accepted word write of a register takes effect at once, and the watch of R313 sees it; a narrower one is that
of the word it makes with the register's other bytes (log entry 6), an 8-byte one that of two words; SRAM and MRAM take the bytes written and no
others. A write that a discard rule meets changes nothing but the record of the discard; which rule applies first is the order R37, R676, R41,
R21. R676, R569: a write of less than 64 bits that finds an uncorrectable error in main MRAM is discarded and enters degraded mode, but for the
parameter store. R696: WDOG retriggers the system watchdog and changes nothing else of the SYS block. -/
def Obligations.RegisterWriteTakesEffectOrIsDiscarded : Prop :=
  (∀ (s : State) (addr : Word) (value : BitVec 64) (ecc : Bool) (m : Fin 6), s.mayAccess m false = true → addr.toNat % 4 = 0 →
  let v : Word := value.setWidth 32
  (∀ r i j, s.decode addr.toNat = .reg r i j → (desc r).access ≠ .ro → s.writeCause addr.toNat v = 0 →
    (addr.toNat = regAddr .secCmdCtrl 0 0 → bitOf v 0 = false) →
    Completes (.registerWrite addr 2 value ecc m) s (fun t => t = (State.effect { s with outs := [] } r i j v).paramWritten addr.toNat (s.reg r i j))) ∧
  (s.decode addr.toNat = .undecoded → Completes (.registerWrite addr 2 value ecc m) s (fun t => s.Discards t addr.toNat 1 m false)) ∧
  (s.decode addr.toNat = .rom → Completes (.registerWrite addr 2 value ecc m) s (fun t => s.Discards t addr.toNat 4 m false)) ∧
  (∀ r i j, s.decode addr.toNat = .reg r i j → (desc r).access = .rwl → s.locked = true →
    Completes (.registerWrite addr 2 value ecc m) s (fun t => s.Discards t addr.toNat 3 m false)) ∧
  (s.decode addr.toNat = .reserved → Completes (.registerWrite addr 2 value ecc m) s (fun t => s.Discards t addr.toNat 2 m false)) ∧
  (∀ r i j, s.decode addr.toNat = .reg r i j → (desc r).access ≠ .ro → ((desc r).access = .rwl → s.locked = false) → r ≠ .obsTblData →
    writeOk r i j v = false → Completes (.registerWrite addr 2 value ecc m) s (fun t => s.Discards t addr.toNat 2 m false)) ∧
  (∀ (a : Word) (size : Fin 4), size.val < 2 → a.toNat % 2 ^ size.val = 0 → a.toNat / 4 * 4 = addr.toNat → s.decode a.toNat ≠ .ram →
    s.decode addr.toNat ≠ .ram → exec (.registerWrite a size value ecc m) s =
      exec (.registerWrite addr 2 ((s.mergedWord a.toNat (2 ^ size.val) value.toNat).setWidth 64) ecc m) s) ∧
  (addr.toNat % 8 = 0 → s.decode addr.toNat ≠ .ram → Completes (.registerWrite addr 3 value ecc m) s (fun t =>
    t = (State.busWrite (State.busWrite { s with outs := [] } addr.toNat v m).1 (addr.toNat + 4) (BitVec.ofNat 32 (value.toNat / 2 ^ 32)) m).1))) ∧
  (∀ (s : State) (addr : Word) (size : Fin 4) (value : BitVec 64) (ecc : Bool) (m : Fin 6), s.mayAccess m false = true →
    addr.toNat % 2 ^ size.val = 0 → s.decode addr.toNat = .ram →
  (ecc = false ∨ addr.toNat < 0x01000000 ∨ size.val = 3 → Completes (.registerWrite addr size value ecc m) s (fun t =>
    (∀ k < 2 ^ size.val, t.memByte (addr.toNat + k) = BitVec.ofNat 8 (value.toNat / 256 ^ k)) ∧
    (∀ b, b < addr.toNat ∨ addr.toNat + 2 ^ size.val ≤ b → t.memByte b = s.memByte b) ∧ t.regs = s.regs)) ∧
  (ecc = true → 0x01000000 ≤ addr.toNat → size.val < 3 → Completes (.registerWrite addr size value ecc m) s (fun t =>
    t.mem = s.mem ∧ t.regs = s.regs ∧ t.rcd.degraded = (s.rcd.degraded || mramPart (addr.toNat / 4 * 4 - 0x01000000) != 7)))) ∧
  (∀ (s : State) (m : Fin 6), s.mayAccess m false = true →
  Completes (.sysCmdWdog m) s (fun t => t.sys = { s.sys with wdogLast := s.time.lt } ∧ t.regs = s.regs ∧ t.mem = s.mem))

/-- R58, R682: the check values of CRC-32C and of the CRC of the maintenance port. -/
def Obligations.CrcCheckValues : Prop := crc8 (ascii "123456789") = 0xF4 ∧ crc32c (ascii "123456789") = 0xE3069283

/-- R683: the checks of a maintenance transaction in their order, with the RESULT of the first that fails, and the writes of one that
passes; what a failed one writes is nothing. `ecc` is an MRAM word with an uncorrectable error (R569, R676). -/
def Obligations.MaintenanceTransactionChecksInOrder : Prop := ∀ (s : State) (b : List Byte) (ecc : Option Word), s.mayAccess 4 true = true → 6 ≤ b.length →
  (byteAt b 5 ≠ crc8 (b.take 5) → Completes (.mntTransaction b ecc) s (fun t => t.sys.mntResult = 1 ∧ t.sys.mntAddr = s.sys.mntAddr ∧
    t.sys.mntFails = satInc 65535 s.sys.mntFails ∧ t.regs = s.regs ∧ t.mem = s.mem)) ∧
  (byteAt b 5 = crc8 (b.take 5) → (1 < byteAt b 0 / 64 ∨ byteAt b 0 % 64 = 0 ∨ 32 < byteAt b 0 % 64 ∨ beAt b 1 4 % 4 ≠ 0 ∨
      0xFFFFFFFC < beAt b 1 4 + 4 * (byteAt b 0 % 64) - 4) →
    Completes (.mntTransaction b ecc) s (fun t => t.sys.mntResult = 3 ∧ t.sys.mntAddr = beAt b 1 4 ∧ t.regs = s.regs ∧ t.mem = s.mem)) ∧
  (∀ c a, byteAt b 5 = crc8 (b.take 5) → byteAt b 0 = 64 + c → 1 ≤ c → c ≤ 32 → a = beAt b 1 4 → a % 4 = 0 → a + 4 * c - 4 ≤ 0xFFFFFFFC →
      7 + 4 * c ≤ b.length →
    (byteAt b (6 + 4 * c) ≠ crc8 (b.take (6 + 4 * c)) →
      Completes (.mntTransaction b ecc) s (fun t => t.sys.mntResult = 2 ∧ t.regs = s.regs ∧ t.mem = s.mem)) ∧
    (byteAt b (6 + 4 * c) = crc8 (b.take (6 + 4 * c)) → Completes (.mntTransaction b ecc) s (fun t =>
      let r := writeWords (ecc.map (fun w => w.toNat / 8 * 8)) ((List.range c).map (fun k => beAt b (6 + 4 * k) 4)) a { s with outs := [], sys := { s.sys with mntAddr := a } }
      t.sys.mntResult = (if r.2 then 0 else 4) ∧ t.regs = r.1.regs ∧ t.mem = r.1.mem))) ∧
  (∀ c a, byteAt b 5 = crc8 (b.take 5) → byteAt b 0 = c → 1 ≤ c → c ≤ 32 → a = beAt b 1 4 → a % 4 = 0 → a + 4 * c - 4 ≤ 0xFFFFFFFC →
    Completes (.mntTransaction b ecc) s (fun t =>
      let r := readWords 4 (ecc.map (fun w => w.toNat / 8 * 8)) c a { s with outs := [], sys := { s.sys with mntAddr := a } }
      t.sys.mntResult = (if r.2.2 then 0 else 4) ∧ t.regs = r.1.regs ∧
        t.outs = r.1.outs ++ [mntAnswer (if r.2.2 then 0 else 4) (r.2.1.flatMap (beBytes 4))]))

/-! ### The catalogue image -/

/-- R79: which of two catalogue slots is used, row by row of its table; `none` with two valid images is the conflict. -/
def Obligations.SlotChoiceFollowsItsTable : Prop := ∀ (a b : Image) (e f : CatErr),
  chooseSlot (.ok a) (.error f) = some (0, a) ∧ chooseSlot (.error e) (.ok b) = some (1, b) ∧
  (b.version < a.version → chooseSlot (.ok a) (.ok b) = some (0, a)) ∧ (a.version < b.version → chooseSlot (.ok a) (.ok b) = some (1, b)) ∧
  (a.version = b.version → a.digest = b.digest → chooseSlot (.ok a) (.ok b) = some (0, a)) ∧
  (a.version = b.version → a.digest ≠ b.digest → chooseSlot (.ok a) (.ok b) = none) ∧ chooseSlot (.error e) (.error f) = none

/-- R79, R87: the check of both slots at start, and the image used, Conflict or the missing image. -/
def Obligations.CatalogueSelectUsesTheChosenImage : Prop := ∀ s : State, s.sys.start = .config → s.cat.runSlot = 0 →
  (∀ k im, chooseSlot (s.catCheck 0 true) (s.catCheck 1 true) = some (k, im) → Completes .catalogueSelect s (fun t =>
    t.cat.runSlot = k + 1 ∧ t.cat.version = im.version ∧ t.cat.digest = im.digest ∧ t.sys = { s.sys with profile := im.profile })) ∧
  (∀ a b, s.catCheck 0 true = .ok a → s.catCheck 1 true = .ok b → chooseSlot (.ok a) (.ok b) = none → Completes .catalogueSelect s (fun t =>
    t.sys.start = .conflict ∧ t.cat.conflict = true ∧ t.cat.runSlot = 0 ∧ t.cat.slotA = 3 ∧ t.cat.slotB = 3 ∧ t.cat.errEvent = 0x1015 ∧
      t.cat.errTag = 0 ∧ t.cat.errOffset = 0xC ∧ t.cat.rejectCnt = satInc 0xFFFFFFFE (satInc 0xFFFFFFFE s.cat.rejectCnt))) ∧
  (∀ e f, s.catCheck 0 true = .error e → s.catCheck 1 true = .error f → Completes .catalogueSelect s (fun t =>
    t.sys.start = .noImage ∧ t.cat.runSlot = 0 ∧ t.cat.slotA = 2 ∧ t.cat.slotB = 2 ∧ t.cat.errEvent = f.event ∧ t.cat.errTag = f.tag ∧
      t.cat.errOffset = f.offset ∧ t.cat.rejectCnt = satInc 0xFFFFFFFE (satInc 0xFFFFFFFE s.cat.rejectCnt)))

/-- R78: the image in use is applied and the catalogue lock set; the self-tests come next. -/
def Obligations.CatalogueApplySetsTheLock : Prop := ∀ (s : State) (im : Image), s.sys.start = .config → s.cat.runSlot ≠ 0 → s.sys.lock = false →
  s.catDecode (s.cat.runSlot - 1) = .ok im → Completes .catalogueApply s (fun t =>
    t.sys.lock = true ∧ t.sys.start = .selftest ∧ t.sys.twinRole = im.twinRole ∧ t.sys.end1 = im.end1 ∧
      t.sys.sect = sectBits im.sections)

/-- R81 to R83, R602: how the verification of a catalogue commit ends, by its image and its password, and the end of the lockout; and how the check of
a firmware commit ends, which writes its commit record where it passes. -/
def Obligations.CommitsEnd : Prop :=
  (∀ (s : State) (c : Commit), s.cat.commit = some c →
  (∀ e, State.catCheck { s with cat := { s.cat with commit := none } } c.slot false = .error e → Completes .catCommitVerifyDone s (fun t =>
    t.cat.commit = none ∧ t.cat.errEvent = e.event ∧ t.cat.rejectCnt = satInc 0xFFFFFFFE s.cat.rejectCnt ∧ t.cat.pwFail = s.cat.pwFail ∧ t.mem = s.mem)) ∧
  (∀ im, State.catCheck { s with cat := { s.cat with commit := none } } c.slot false = .ok im →
    (s.cat.runSlot ≠ 0 → im.safe = s.cat.safe → Completes .catCommitVerifyDone s (fun t =>
      t.cat = { s.cat with commit := none } ∧ t.mem = (s.saveParam (2 + c.slot) im.digest).mem)) ∧
    (s.cat.runSlot = 0 ∨ im.safe ≠ s.cat.safe → s.pwLocked = true → Completes .catCommitVerifyDone s (fun t =>
      t.cat.commit = none ∧ t.cat.pwFail = s.cat.pwFail ∧ t.cat.errEvent = 0x1013 ∧ t.mem = s.mem)) ∧
    (s.cat.runSlot = 0 ∨ im.safe ≠ s.cat.safe → s.pwLocked = false → s.passwordOk c.cmd (if s.cat.runSlot = 0 then im.safe else s.cat.safe) = false →
      Completes .catCommitVerifyDone s (fun t => t.cat.commit = none ∧ t.cat.pwFail = satInc 0xFFFFFFFF s.cat.pwFail ∧ t.cat.errEvent = 0x1012 ∧
        (5 ≤ t.cat.pwFail → t.cat.lockout = true ∧ t.cat.lockoutUntil = s.bk.rtc + 15 * 60))) ∧
    (s.cat.runSlot = 0 ∨ im.safe ≠ s.cat.safe → s.pwLocked = false → s.passwordOk c.cmd (if s.cat.runSlot = 0 then im.safe else s.cat.safe) = true →
      Completes .catCommitVerifyDone s (fun t => t.cat = { s.cat with commit := none, pwFail := 0, lockout := false }))) ∧
  (s.cat.lockout = true → Completes .catPwLockoutEnd s (fun t => t.cat = { s.cat with lockout := false }))) ∧
  (∀ (s : State) (c : Commit), s.sc.fwCommit = some c → Completes .fwCommitDone s (fun t => t.sc.fwCommit = none ∧ (match s.fwCheck5 c.slot with
    | some _ => t.mem = s.mem ∧ t.bk = s.bk
    | none => t.mem = (s.saveParam (4 + c.slot) c.digest).mem ∧ t.flash = s.flash)))

/-! ### Critical commands -/

/-- R81, R602, R608 to R610, R614, R617: what an accepted command of the catalogue, of the firmware, of the keys and of the maintenance
sessions does, with its counter stored (R606). -/
def Obligations.AcceptedKeyCommandsAct : Prop := ∀ (s y : State) (conn : Option (Fin 64)) (b : List Byte),
  let p := cmdParams b
  let k := byteAt p 0
  let stored (t : State) : Prop := t.counterOf (cmdKeyOf b) = cmdCounter b
  (s.Accepts 0x0201 conn b y → s.cat.runSlot ≠ k + 1 → slice p 4 48 = s.slotDigest (2 + k) → s.cat.commit = none →
    Completes (.catCommit conn b true) s (fun t => stored t ∧
      t.cat = { s.cat with commit := some ⟨k, slice p 4 48, b, (conn.map Fin.val).getD 0xFFFF⟩ })) ∧
  (s.Accepts 0x0202 conn b y → (s.sys.fwRunning = true → s.sys.fwSlot ≠ k + 1) → slice p 4 48 = s.slotDigest k → s.sc.fwCommit = none →
    Completes (.fwCommit conn b true) s (fun t => stored t ∧
      t.sc.fwCommit = some ⟨k, slice p 4 48, b, (conn.map Fin.val).getD 0xFFFF⟩)) ∧
  (∀ key, s.Accepts 0x0301 conn b y → y.installedKey b = some key → Completes (.keyInstall conn b true) s (fun t => stored t ∧
    t.key k = { present := true, key := key, perm := beAt p 2 2, gen := (s.key k).gen + 1 } ∧ (∀ i, i ≠ k → t.key i = s.key i) ∧
      t.sc.enrolled = s.sc.enrolled)) ∧
  (s.Accepts 0x0302 conn b y → Completes (.keyRetire conn b true) s (fun t => stored t ∧
    (t.key k).present = false ∧ (∀ i, i ≠ k → t.key i = s.key i) ∧ t.sc.enrolled = s.sc.enrolled)) ∧
  (s.Accepts 0x0303 conn b y → s.sc.enrolled.length < 4 → Completes (.catKeyEnrol conn b true) s (fun t => stored t ∧
    t.sc.enrolled = s.sc.enrolled ++ [(beAt p 0 48, beAt p 48 48)] ∧ t.sc.keys = s.sc.keys)) ∧
  (s.Accepts 0x0303 conn b y → s.sc.enrolled.length = 4 → Completes (.catKeyEnrol conn b true) s (fun t => stored t ∧ t.sc.enrolled = s.sc.enrolled)) ∧
  (s.Accepts 0x0304 conn b y → Completes (.debugFuse conn b true) s (fun t => stored t ∧ t.sc.debugFuse = true ∧ t.sc.keys = s.sc.keys)) ∧
  (∀ ip, s.Accepts 0x0701 conn b y → ip = (match conn with | some c => y.connIp c | none => y.partnerIp (byteAt p 2)) →
    (s.sc.sessions.filter (fun q => q.ip != ip)).length < 4 → Completes (.maintSession conn b true) s (fun t => stored t ∧
      t.sc.sessions = s.sc.sessions.filter (fun q => q.ip != ip) ++ [⟨ip, s.lt + sec (60 * beAt p 0 2)⟩]))

/-- R607: an accepted PROVISION installs command key 0 with last accepted counter 0; one whose point or whose GCM tag fails is rejected with
0x2025 and installs nothing. -/
def Obligations.ProvisionInstallsKeyZero : Prop := ∀ (s y : State) (b : List Byte),
  s.Accepts 0x0F01 none b y → Completes (.provision none b true) s (fun t => (∀ i, i ≠ 0 → t.key i = s.key i) ∧ (match provisionKey b with
    | some key => t.key 0 = { present := true, key := key, perm := 0, gen := (s.key 0).gen + 1 } ∧ t.counterOf 0 = 0
    | none => t.sc.keys = s.sc.keys ∧ t.sc.counters = s.sc.counters ∧ t.sc.bufResult = 0x2025))

/-- R605: a command that arrives and fails a check is rejected with the event of the first check that fails: no counter is used, and the
result names the event. R526, R606: in a twin whose mate mirrors, a verified command has its counter stored and waits for the mate's confirmation;
nothing of its effect happens before. -/
def Obligations.RejectedCommandsUseNoCounterAndMirroredOnesWait : Prop :=
  (∀ (s y : State) (conn : Option (Fin 64)) (b : List Byte) (code : Nat),
  s.Arrives (cmdCode b) conn b y → y.verifyCmd (conn.map Fin.val) b = some code → ∀ t,
    t = s.cmdRow (cmdCode b) conn b true →
      t.sc.counters = s.sc.counters ∧ t.sc.keys = s.sc.keys ∧ t.seq = s.seq ∧ t.portals = s.portals ∧ t.axes = s.axes ∧ t.cat = s.cat ∧
        (conn = none → t.sc.bufResult = code ∧ t.sc.bufDone = true ∧ t.sc.bufBusy = false)) ∧
  (∀ (s y : State) (code : Nat) (conn : Option (Fin 64)) (b : List Byte),
  s.Verified code conn b y → s.mirrors = true → code ≠ 0x0F01 → ∀ t, t = s.cmdRow code conn b true →
    t.sc.counters = Table.set 0 s.sc.counters (cmdKeyOf b) (cmdCounter b) ∧
      (∃ a tq, t.twin.held = s.twin.held ++ [((s.twin.mseq + 1) % 2 ^ 32, .command b ((conn.map Fin.val).getD 0xFFFF) a tq)]) ∧
      t.seq = s.seq ∧ t.portals = s.portals)

/-! ### The rest of the security core -/

/-- R597, R598: blocks of the random generator pass their health tests or set RNG_FAIL, and 8 blocks that pass clear it. -/
def Obligations.RandomGeneratorTests : Prop := ∀ s : State, s.domain 1 = true →
  (s.sc.rngFail = false → Completes .rngBlock s (fun t =>
    if s.testBlock.2.1 = false then t.sc.rngFail = true ∧ t.sc.rngOut = s.sc.rngOut
    else t.sc.rngFail = false ∧ (if s.sc.rngOk then t.sc.rngOut = BitVec.ofNat 384 (beNat s.testBlock.2.2)
      else t.sc.rngTested = s.sc.rngTested + 1 ∧ t.sc.rngOut = s.sc.rngOut ∧ t.sc.rngOk = decide (4 ≤ s.sc.rngTested + 1)))) ∧
  (s.sc.rngFail = true → Completes .rngRetest s (fun t => t.sc.rngFail = !(retestGo 8 s).2))

/-- R614 to R618: the end of a maintenance session, the debug port, attestation and identity, and the captured half of a counter. -/
def Obligations.SessionsDebugAndAttestation : Prop := ∀ s : State,
  (∀ (k : Fin 4) q, s.sc.sessions[k.val]? = some q → Completes (.maintSessionEnd k) s (fun t => ∀ x ∈ t.sc.sessions, x.ip ≠ q.ip)) ∧
  (s.sc.debugAttached = false → Completes .debugAttach s (fun t => t.sc = { s.sc with debugAttached := true })) ∧
  Completes .debugDetach s (fun t => t.sc = { s.sc with debugAttached := false }) ∧
  (∀ t0 r b, State.serviceRx { s with outs := [] } t0 0x0301 = (r, some b) → b.length = 32 → r.sc.attest = none → r.sc.rngFail = false →
    Completes (.attest t0) s (fun t => t = { r with sc := { r.sc with attest := some ⟨t0.src, b⟩ } })) ∧
  (∀ t0 r b, State.serviceRx { s with outs := [] } t0 0x0301 = (r, some b) → b.length = 32 → r.sc.attest.isSome = true →
    Completes (.attest t0) s (fun t => t.sc = r.sc)) ∧
  (∀ a, s.sc.attest = some a → s.sc.rngFail = false → Completes .attestDone s (fun t => t.sc = { s.sc with attest := none } ∧ t.free = s.free + 1)) ∧
  (∀ t0 r, State.serviceRx { s with outs := [] } t0 0x0302 = (r, some []) → Completes (.identity t0) s (fun t =>
    t = r.serviceReply t0.src 0x0302 0 (beBytes 48 Config.identityPubX ++ beBytes 48 Config.identityPubY))) ∧
  (∀ (k : Fin 16) (m : Fin 6), s.mayAccess m true = true → s.domain 1 = true → Completes (.secCntRead k m) s (fun t =>
    t.sc = { s.sc with cntHi := Table.set 0 s.sc.cntHi k (s.counterOf k / 2 ^ 32) } ∧
      t.outs = [.readWord (regAddr .secCntLo k 0) (s.counterOf k % 2 ^ 32)]))

/-- R688, R689: REG_WRITE writes every word or none. To SRAM and main MRAM: all words pass and stand there in rising address order. To
addresses of which one is not decoded: no register changes. R690: REG_READ from a session's address answers the words read. -/
def Obligations.RegisterRequestsOfTheNetwork : Prop := ∀ (s y : State) (conn : Option (Fin 64)) (b : List Byte),
  let p := cmdParams b
  let a := beAt p 0 4
  let n := beAt p 4 2
  s.Accepts 0x0501 conn b y →
    ((∀ i < n, s.decode (a + 4 * i) = .ram ∧ a + 4 * i + 4 ≤ 0x02000000) →
      Completes (.regWrite conn b true) s (fun t => t.regs = y.regs ∧ t.counterOf (cmdKeyOf b) = cmdCounter b ∧
        ∀ i < n, ∀ k < 4, t.memByte (a + 4 * i + k) = BitVec.ofNat 8 (beAt p (8 + 4 * i) 4 / 256 ^ k))) ∧
    ((∃ i < n, s.decode (a + 4 * i) = .undecoded) →
      Completes (.regWrite conn b true) s (fun t => t.regs = y.regs ∧ t.counterOf (cmdKeyOf b) = cmdCounter b ∧ t.axes = s.axes ∧ t.ilk = s.ilk))

/-! ### Portals -/

/-- R104, R107, R110, R119, R122, R123, R645: each transition of the table that an input, a position or a timer brings, from the state it
starts from and under its guard, to the state the table gives. The portal takes that state and no other portal changes its own. -/
def Obligations.PortalTransitionsFollowTheTable : Prop := ∀ (s : State) (p : Fin 16), s.standby = false →
  let q := s.portal p
  let goes (c : Instr) (st : PState) : Prop := Completes c s (fun t => s.PortalGoes t p st)
  (q.st = .referencing → (s.presentAxes p).all (fun n => (s.axis n).referenced && s.standing n) = true → s.closedAB p = true →
    s.inLocked p = true → s.inStowed p = true → goes (.homingDone p) .locked) ∧
  (q.st = .referencing → goes (.referenceFail p) .fault) ∧
  (q.st = .unlocking → s.inLocked p = false → (q.stepWanted = false ∨ s.rb .portalCfg p 6 = false ∨ s.inDeployed p = true) →
    q.openWanted = false → goes (.unlockComplete p) .released) ∧
  (q.st = .unlocking → s.inLocked p = true → goes (.unlockFail p) .fault) ∧
  (∀ inside, (q.st = .released ∨ q.st = .closed) → q.reqEnabled = true → 7 ≤ q.rankNow →
    (if inside then s.inReqInside p = true ∧ q.reqIn = false else s.inReqOutside p = true ∧ q.reqOut = false) →
    goes (.passengerRequest p inside) .opening) ∧
  (q.st = .opening → s.leavesAt p (fun n => s.rs .axisTgtOpen n) = true → goes (.leavesAtOpen p) .open_) ∧
  (∀ t0, q.st = .open_ → q.dwellStart = some t0 → q.obstStart = none → s.inPresence p = false → q.closeObstructed = false →
    8 ≤ q.rankNow → goes (.dwellElapsed p) .warning) ∧
  (∀ t0, q.st = .open_ → q.obstStart = some t0 → q.lockPending = true → s.inPresence p = false → 5 ≤ q.rankNow →
    goes (.obstWaitElapsed p) .warning) ∧
  (q.st = .warning → s.inPresence p = true → s.rb .portalCfg p 9 = true → q.forced = false → 7 ≤ q.rankNow → goes (.presenceInput p) .open_) ∧
  (q.st = .closing → s.inPresence p = true → s.rb .portalCfg p 9 = true → q.forced = false → 7 ≤ q.rankNow →
    goes (.presenceInput p) .reopening) ∧
  (q.st = .reopening → (s.leaves p).all (fun n => s.standing n && s.beyond n (s.reopenTarget n)) = true → goes (.leavesAtReopenTarget p) .open_) ∧
  (q.st = .closing → s.closedAB p = true → s.leavesAt p (fun n => s.rs .axisTgtClosed n) = true →
    goes (.leavesClosed p) (if q.lockPending then .locking else .closed)) ∧
  (q.st = .locking → s.inLocked p = true → q.lockSeen = false → s.hasStep p = false → goes (.lockedInputActive p) .locked) ∧
  (q.st = .locking → q.lockSeen = true → s.inLocked p = true → s.inStowed p = true → goes (.stepStowed p) .locked) ∧
  (q.st = .locking → q.reclosed = true → s.inLocked p = false → q.lockSeen = false → goes (.lockFail p) .fault) ∧
  (∀ t0, q.stepStart = some t0 → q.st = .unlocking → s.inDeployed p = false → goes (.stepFail p) .fault) ∧
  (s.portalEn p = true → s.inHandle p = true → q.handle = false → s.zeroSpeed = true → 2 ≤ q.st.code → q.st.code ≤ 11 → 2 ≤ q.rankNow →
    goes (.emergencyHandle p) .emergency) ∧
  (s.zeroSpeed = true → s.seq.zeroSpeed = false → s.enabledPortals.filter (fun k => (s.portal k).emgPending) = [p.val] → s.inHandle p = true →
    2 ≤ q.st.code → q.st.code ≤ 11 → 2 ≤ q.rankNow → goes .zeroSpeedActive .emergency)

/-- R107, R109, R110, R125, R134: the inputs and timers that leave every portal in its state, with what they do to it. -/
def Obligations.PortalTimersAndOutputs : Prop := ∀ (s : State) (p : Fin 16), s.standby = false →
  let q := s.portal p
  let kept (t : State) : Prop := ∀ k, (t.portal k).st = (s.portal k).st
  (s.inDeployed p = true → q.stepWanted = true → Completes (.stepDeployed p) s (fun t => kept t ∧ (t.portal p).stepStart = none)) ∧
  (q.st = .locking → s.inLocked p = true → q.lockSeen = false → s.hasStep p = true →
    Completes (.lockedInputActive p) s (fun t => kept t ∧ (t.portal p).lockSeen = true)) ∧
  (q.st.warns = true → Completes (.flashToggle p) s (fun t => kept t ∧ (t.portal p).warnLamp = !q.warnLamp ∧
    (t.portal p).flashNext = q.flashNext + ms (10 * s.rf .portalTWarn p 23 16))) ∧
  (q.chime = true → Completes (.chimeEnd p) s (fun t => kept t ∧ (t.portal p).chime = false ∧ q.chimeEnd ≤ t.time.lt)) ∧
  (q.st = .locking → q.reclosed = false → q.reclosing = none → s.inLocked p = false → q.lockSeen = false →
    Completes (.lockTimeElapsed p) s (fun t => kept t ∧ (t.portal p).reclosing = some t.time.lt ∧ q.lockStart + ms (s.rf .portalTLock p 31 16) ≤ t.time.lt ∧
      ∀ n ∈ s.leaves p, (t.axis n).pending = some (s.rs .axisTgtClosed n))) ∧
  (∀ t0, q.reclosing = some t0 → Completes (.recloseEnd p) s (fun t => kept t ∧ t0 + ms 200 ≤ t.time.lt ∧
    (t.portal p).reclosing = none ∧ (t.portal p).reclosed = true ∧ (t.portal p).lockStart = t.time.lt)) ∧
  (∀ m : Fin 6, s.mayAccess m true = true → Completes (.portalCycLoRead p m) s (fun t => kept t ∧
    t.outs = [.readWord (regAddr .portalCycLo p 0) (q.cycles % 2 ^ 32)] ∧
    t.portal p = { q with cycHiCap := q.cycles / 2 ^ 32, cycOvfCap := q.cycOvf, cycOvf := false }))

/-- R104 (T11), R129: WARN_PRE elapses; the closing start is granted with the largest scale that the budget leaves, and CLOSING begins; where the
budget does not hold it, the start waits in the queue and the portal in WARNING. -/
def Obligations.ClosingStartsWithinTheBudget : Prop := ∀ (s : State) (p : Fin 16) (t0 : Ticks), s.standby = false →
  let axes := s.leaves p
  let com := s.committed
  let sc := s.scaleFor axes (4 * s.rf .portalSeqBudget 0 9 0 - com)
  (s.portal p).st = .warning → (s.portal p).warnStart = some t0 → (s.portal p).warnDone = false → s.seq.starts = [] → s.auxWith p 0 = [] →
    axes ≠ [] →
  (s.sMin ≤ sc → com + s.needAll axes sc ≤ 4 * s.rf .portalSeqBudget 0 9 0 →
    Completes (.warnPreElapsed p) s (fun t => s.PortalGoes t p .closing ∧ t.seq.starts = [] ∧ t0 + ms (s.rf .portalTWarn p 15 0) ≤ t.time.lt ∧
      ∀ n ∈ axes, (t.axis n).pending = some (s.rs .axisTgtClosed n) ∧ (t.axis n).scale = sc ∧ (t.axis n).resAmp = s.needOf n sc)) ∧
  (sc < s.sMin ∨ 4 * s.rf .portalSeqBudget 0 9 0 < com + s.needAll axes sc →
    Completes (.warnPreElapsed p) s (fun t => t.portal p = { s.portal p with warnDone := true } ∧ t.seq.starts = [⟨p, axes, 1, t.time.lt⟩] ∧
      t0 + ms (s.rf .portalTWarn p 15 0) ≤ t.time.lt ∧ t.axes = s.axes))

/-- R97, R99, R100, R102, R104, R105, R109: the first immediate action, addressed to portal `p`, does to it what the tables give for its
state. Other portals keep theirs. -/
def Obligations.ActionsActAsTheirTables : Prop := ∀ (s : State) (p : Fin 16) (a key : Nat) (acc : Option Ticks) (rest : List Imm), s.standby = false →
  s.seq.imm = ⟨a, 2 ^ p.val, key, false, 0, acc⟩ :: rest → s.portalEn p = true → 6 ≤ (s.portal p).rankNow →
  let q := s.portal p
  let goes (st : PState) : Prop := Completes .immediateActionApply s (fun t => s.PortalGoes t p st ∧ t.seq.imm = rest)
  (s.zeroSpeed = true → q.st = .locked → (a = 1 ∨ a = 2 ∨ a = 3) → goes .unlocking) ∧
  (s.zeroSpeed = true → (q.st = .released ∨ q.st = .closed) → a = 3 → goes .opening) ∧
  (s.zeroSpeed = false → (a = 1 ∨ a = 2 ∨ a = 3 ∨ a = 4) → goes q.st) ∧
  (q.st = .opening → (a = 5 ∨ a = 6 ∨ a = 7) → goes .warning) ∧
  (q.st = .open_ → (a = 6 ∨ a = 7) → q.obstStart = none → (a = 7 ∨ s.inPresence p = false) → goes .warning) ∧
  ((q.st = .unlocking ∨ q.st = .released ∨ q.st = .closed) → (a = 6 ∨ a = 7) → goes .locking) ∧
  ((q.st = .warning ∨ q.st = .closing ∨ q.st = .reopening) → (a = 6 ∨ a = 7) → Completes .immediateActionApply s (fun t =>
    s.PortalGoes t p q.st ∧ (t.portal p).lockPending = true ∧ (t.portal p).released = false ∧ (t.portal p).reqEnabled = false ∧
      (a = 7 → (t.portal p).forced = true))) ∧
  ((q.st = .unused ∨ q.st = .referencing ∨ q.st = .isolated ∨ q.st = .fault) → a ≠ 8 → goes q.st) ∧
  (a = 8 → Completes .immediateActionApply s (fun t => t.seq.withdraw = true ∧ ∀ k, (t.portal k).st = (s.portal k).st))

/-- R101: the zero-speed input goes inactive: every portal from UNLOCKING to CLOSED with no higher trigger gets a LOCK.
R116: at the earliest instant the slots that are due then are freed; no other slot changes. A restrictive action is due with the permissive ones of its
motion cycle (log entry 80). -/
def Obligations.ZeroSpeedAndDueSlots : Prop :=
  (∀ s : State, s.standby = false → s.zeroSpeed = false → s.seq.zeroSpeed = true →
  Completes .zeroSpeedLost s (fun t => t.seq.zeroSpeed = false ∧ ∀ p : Fin 16, s.portalEn p = true → 5 ≤ (s.portal p).rankNow →
    ((s.portal p).st = .unlocking ∨ (s.portal p).st = .released ∨ (s.portal p).st = .closed → (t.portal p).st = .locking) ∧
    ((s.portal p).st = .opening → (t.portal p).st = .warning ∧ (t.portal p).lockPending = true) ∧
    ((s.portal p).st = .warning ∨ (s.portal p).st = .closing ∨ (s.portal p).st = .reopening →
      (t.portal p).st = (s.portal p).st ∧ (t.portal p).lockPending = true))) ∧
  (∀ (s : State) (t0 : TimeNs), s.standby = false → s.nextSlotTt = some t0 →
  Completes .slotDue s (fun t => (∀ i, i ∈ s.slotsDue t0 → t.slot i = {}) ∧ (∀ i, i ∉ s.slotsDue t0 → t.slot i = s.slot i) ∧
    s.slotsDue t0 ≠ []))

/-- R102, R103, R112 to R114, R703: an accepted ACTION is taken as immediate, armed, executed late or rejected as stale; its counter is used. -/
def Obligations.AcceptedActionsAreArmedOrTaken : Prop := ∀ (s y : State) (conn : Option (Fin 64)) (b : List Byte) (mask : Nat),
  s.Accepts 0x0101 conn b y → y.cmdTarget (cmdParams b) = some mask →
  let a := byteAt (cmdParams b) 0
  let t0 := cmdT b
  let grace := s.rf .portalSeqGrace 0 15 0 * 1000000
  let ends (post : State → Prop) : Prop := Completes (.action conn b true) s (fun t => t.counterOf (cmdKeyOf b) = cmdCounter b ∧ post t)
  (t0 = 0 → permissive a = true → ends (fun t => t.seq = { s.seq with imm := s.seq.imm ++ [⟨a, mask, cmdKeyOf b, false, 0, some s.lt⟩] })) ∧
  (t0 = 0 → permissive a = false → a ≠ 8 → ends (fun t => t.seq.imm = s.seq.imm ++ [⟨a, mask, cmdKeyOf b, false, 0, some s.lt⟩] ∧
    ∀ i, t.slot i = if i ∈ s.slotsInOrder ∧ permissive (s.slot i).action = true ∧ (s.slot i).target &&& mask ≠ 0 then {} else s.slot i)) ∧
  (t0 ≠ 0 → t0 < s.tt + 100000 → permissive a = true → ends (fun t => t.seq = s.seq)) ∧
  (t0 ≠ 0 → t0 < s.tt + 100000 → permissive a = false → ends (fun t =>
    t.seq = { s.seq with imm := s.seq.imm ++ [⟨a, mask, cmdKeyOf b, decide (grace + t0 < s.tt), t0, some s.lt⟩] })) ∧
  (∀ i, s.tt + 100000 ≤ t0 → (List.range 64).find? s.slotFree = some i → ends (fun t =>
    t.seq.imm = s.seq.imm ∧ (t.slot i).action = a ∧ (t.slot i).target = mask ∧ (t.slot i).tt = t0 ∧
      (t.slot i).state = (if permissive a && !s.quality.armed then 2 else 1) ∧ ∀ k, k ≠ i → t.slot k = s.slot k)) ∧
  (s.tt + 100000 ≤ t0 → (List.range 64).find? s.slotFree = none → ends (fun t => t.seq = s.seq))

/-- R104 (T23, T24), R106: portal isolation and restoration, or their rejection where the guard fails. -/
def Obligations.IsolationAndRestoration : Prop := ∀ (s y : State) (conn : Option (Fin 64)) (b : List Byte) (p : Fin 16),
  byteAt (cmdParams b) 0 = p.val →
  (s.Accepts 0x0102 conn b y → y.portalEn p = true → (s.portal p).st ≠ .unused → 3 ≤ (s.portal p).rankNow → y.inLocked p = true →
    y.inIsolate p = true → Completes (.isolate conn b true) s (fun t => s.PortalGoes t p .isolated)) ∧
  (s.Accepts 0x0102 conn b y → y.inLocked p = false ∨ y.inIsolate p = false → Completes (.isolate conn b true) s (fun t =>
    (∀ k, (t.portal k).st = (s.portal k).st) ∧ t.axes = s.axes)) ∧
  (s.Accepts 0x0103 conn b y → y.portalEn p = true → (s.portal p).st = .isolated → y.inIsolate p = false →
    Completes (.restore conn b true) s (fun t => s.PortalGoes t p .referencing)) ∧
  (s.Accepts 0x0103 conn b y → (s.portal p).st = .isolated → y.inIsolate p = true → Completes (.restore conn b true) s (fun t =>
    (∀ k, (t.portal k).st = (s.portal k).st) ∧ t.axes = s.axes))

/-- R645: once every axis of an enabled portal that is due has ended its start-up brake test, the portal of a device in control takes T1 and
its present axes start homing (R213). -/
def Obligations.FirstReferenceStarts : Prop := ∀ (s : State) (p : Fin 16),
  s.operational = true → s.holder = true → s.portalEn p = true → (s.portal p).st = .unused →
  (∀ n ∈ s.presentAxes p, s.btDue n = true → s.ilk.btEnded.testBit n = true) →
  Completes (.portalReferenceStart p) s (fun t => s.PortalGoes t p .referencing ∧
    ∀ n ∈ s.presentAxes p, (t.axis n).mode = .homing ∧ (t.axis n).referenced = false ∧ (t.axis n).homeAttempt = 1)

/-! ### Obstacle observers -/

/-- R147, R171: the envelope never exceeds CEIL_PEAK, and is CEIL_PEAK while the observer is in CEIL_ONLY, the axis unreferenced or
commissioning collecting. R151, R153, R155: what a trip does, whatever its cause: it latches its data, and the axis starts its emergency deceleration,
towards the reopen target where a closing leaf trips and under the stop rule elsewhere. -/
def Obligations.EnvelopesAndTrips : Prop :=
  (∀ (s : State) (n b : Nat) (closing : Bool),
  s.envelope n closing b ≤ s.ceilPeak n ∧
  ((s.ob n).ceilOnly = true ∨ (s.axis n).referenced = false ∨ (s.ob n).commLeft ≠ 0 → s.envelope n closing b = s.ceilPeak n)) ∧
  (∀ (s : State) (n c react : Nat) (pos env : Int),
  (s.axis n).mode = .executing → ∀ t, t = s.trip n c pos env react →
    (t.ob n).tripped = true ∧ (t.ob n).tripCause = c ∧ (t.ob n).tripPos = pos ∧ (t.ob n).tripBin = (s.ob n).bin ∧ (t.ob n).reactT = min 65535 react ∧
    (t.axis n).mode = .emergency ∧ (t.axis n).queue = [] ∧
    (if n % 4 < 2 ∧ (s.ob n).strokeClosing = true then (t.axis n).emg = .tripReopen ∧ (t.axis n).emgTarget = s.reopenTarget n ∧ (t.ob n).stops = (s.ob n).stops
      else (t.axis n).emg = .tripStop ∧ (t.ob n).stops = (s.ob n).stops + 1) ∧
    (∀ k, k ≠ n → t.ob k = s.ob k ∧ t.axis k = s.axis k))

/-- R154, R164, R166, R172, R180: commissioning and an injection start as commanded, the window of the tables steps at each access, and a leaf
held under the stop rule resumes towards its target after OBST_WAIT. No other observer changes. -/
def Obligations.ObserverCommandsAct : Prop := ∀ (s : State) (n : Fin 64) (m : Fin 6),
  let o := s.ob n
  let bin := (o.tblBin + 1) % 256
  let becomes (c : Instr) (x : Observer) : Prop := Completes c s (fun t => t.ob n = x ∧ ∀ k, k ≠ n.val → t.ob k = s.ob k)
  (s.domain (if n.val < 32 then 2 else 3) = true → s.mayAccess m false = true →
    becomes (.commission n m) { o with commLeft := 8, commAccC := [], commAccO := [] } ∧
    (∀ v, writeOk .obsCmd n 0 (setFld v 2 0 2) = true →
      becomes (.inject n v m) { o with injArmed := true, injUsed := false, injStroke := false, injCycle := false, injBin := fld v 15 8,
                                               injForce := fld v 27 16 }) ∧
    (∀ v, writeOk .obsTblData n 0 v = true → o.tblSel < 2 →
      let q := o.setRef (o.tblSel == 0) o.tblBin (signedOf 16 (fld v 15 0))
      (s.rb .obsCfg n 0 = false → becomes (.obsTblDataAccess n (some v) m) { q with tblBin := bin }) ∧
      (s.rb .obsCfg n 0 = true → Completes (.obsTblDataAccess n (some v) m) s (fun t =>
        (let y := t.ob n
         y = { q with tblBin := bin, drift := y.drift, driftBin := y.driftBin, driftOpen := y.driftOpen, driftAlarm := y.driftAlarm } ∧
         y.drift = if o.ceilOnly then 0 else q.driftNow.1) ∧ ∀ k, k ≠ n.val → t.ob k = s.ob k))) ∧
    (∀ v, writeOk .obsTblData n 0 v = false ∨ 2 ≤ o.tblSel → becomes (.obsTblDataAccess n (some v) m) { o with tblBin := bin })) ∧
  (s.domain (if n.val < 32 then 2 else 3) = true → s.mayAccess m true = true →
    becomes (.obsTblDataAccess n none m) { o with tblBin := bin } ∧
    (o.tblSel = 0 → Completes (.obsTblDataAccess n none m) s (fun t =>
      t.outs = [.readWord (regAddr .obsTblData n 0) (wrapTo 16 (o.ref true o.tblBin))]))) ∧
  (o.stopHeld = true → (s.axis n).mode = .relief → o.stops < s.rf .portalReopen (n / 4) 3 0 → (s.axis n).brkRelDue = none →
    (s.rb .axisCfg n 9 = true → (s.axis n).brakeRel = true) →
    Completes (.obsStopResume n) s (fun t => t.ob n = { o with stopHeld := false } ∧ (t.axis n).mode = .executing ∧
      (t.axis n).queue = [plainSeg (s.axis n).origTarget] ∧ o.stopAt + ms (s.rf .portalTDwell (n / 4) 31 16) ≤ t.time.lt ∧
      ∀ k, k ≠ n.val → t.ob k = s.ob k ∧ t.axis k = s.axis k))

/-! ### Motion engines -/

/-- R186, R233, R281: at a motion cycle boundary the next one is 25 us on; where no maintenance reset acts in this cycle, each link that
starts or runs sends its frame with the next SEQ, and each port latches P. -/
def Obligations.MotionCycleBoundary : Prop := ∀ s : State, Completes .motionCycle s (fun t =>
  t.time.bTt = s.time.motionNext ∧ t.time.motionNext = s.time.motionNext + 25000 ∧
  ((∀ i, i < 4 → (s.mrst i).accepted = false) →
    (∀ l, l < 8 → (s.link l).phase ≠ 0 → (s.link l).idleStart = none →
      (t.link l).sent = true ∧ (t.link l).replied = false ∧ (t.link l).seqLast = (s.link l).seqNext ∧
        (t.link l).seqNext = ((s.link l).seqNext + 1) % 65536) ∧
    ∀ m, m < 64 → (t.fbp m).latch = s.fbPos m))

/-- R189 to R192, R219: a push of the staged segment is taken at the tail or in place of everything queued, completes at once where its target is
the previous one, or is rejected with its reason and event 0x5008, changing nothing else; a brake that is applied is released before the motion. What
comes after the input instant of the cycle finds the state that the engines have left (R186). -/
def Obligations.SegmentPortFollowsItsRules : Prop := ∀ (s : State) (n : Fin 64) (m : Fin 6),
  s.mayAccess m false = true → s.domain (if n.val < 32 then 2 else 3) = true →
  let u := State.afterInputs { s with outs := [] }
  let x := u.axis n
  let g := u.staged n
  let only (c : Instr) (post : Axis → Prop) : Prop := Completes c s (fun t => post (t.axis n) ∧ ∀ k, k ≠ n.val → t.axis k = u.axis k)
  let rejects (c : Instr) (r : Nat) : Prop := Completes c s (fun t => t.axis n = { x with reject := r } ∧
    (∀ k, k ≠ n.val → t.axis k = u.axis k) ∧ t.rcd = (u.raise 0x5008 n [BitVec.ofNat 8 r]).rcd)
  let starts (c : Instr) (q : List Seg) : Prop :=
    ((u.rb .axisCfg n 9 = true → x.brakeRel = true) → x.brkRelDue = none →
      only c (fun y => y.queue = q ∧ y.mode = .executing ∧ y.reject = x.reject ∧ y.origTarget = g.tgt)) ∧
    (u.rb .axisCfg n 9 = true → x.brakeRel = false → only c (fun y => y.queue = q ∧ y.mode = .holding ∧ y.brakeRel = true ∧
      y.brkRelDue = some (u.lt + ms (u.rf .axisBrake n 23 16)) ∧ y.origTarget = g.tgt)) ∧
    ((u.rb .axisCfg n 9 = true → x.brakeRel = true) → x.brkRelDue ≠ none → only c (fun y => y = { x with queue := q, origTarget := g.tgt }))
  (x.mode.takes = false → rejects (.segAppend n m) 2 ∧ rejects (.segReplace n m) 2) ∧
  (x.mode.takes = true → 8 ≤ x.queue.length → rejects (.segAppend n m) 1) ∧
  (x.mode.takes = true → x.referenced = false → u.inRange n g.tgt = false →
    rejects (.segReplace n m) 3 ∧ (x.queue.length < 8 → rejects (.segAppend n m) 3)) ∧
  (x.mode.takes = true → x.referenced = true ∨ u.inRange n g.tgt = true →
    (x.queue.length < 8 → g.tgt = x.lastTarget → only (.segAppend n m) (fun y => y = { x with segDone := (x.segDone + 1) % 65536 })) ∧
    (x.queue.length < 8 → g.tgt ≠ x.lastTarget → starts (.segAppend n m) (x.queue ++ [g])) ∧
    (x.kin.sign = 0 → g.tgt * 2 ^ 32 = x.pos →
      only (.segReplace n m) (fun y => y = { x with queue := [], plan := none, mode := .holding, segDone := (x.segDone + 1) % 65536 })) ∧
    (x.kin.sign ≠ 0 ∨ g.tgt * 2 ^ 32 ≠ x.pos → starts (.segReplace n m) [g]))

/-- R201, R202, R206, R212, R217, R218, R227: STOP, CLEAR, and the conditions that fault an axis: its emergency deceleration starts, and the
cause of its first fault is kept. No other axis changes. What comes after the input instant of the cycle finds the state that the engines have left
(R186). -/
def Obligations.AxesStopAndFault : Prop := ∀ (s : State) (n : Fin 64),
  let x := s.axis n
  let u := State.afterInputs { s with outs := [] }
  let z := u.axis n
  let only (c : Instr) (post : State → Axis → Prop) : Prop := Completes c s (fun t => post t (t.axis n) ∧ ∀ k, k ≠ n.val → t.axis k = s.axis k)
  let after (c : Instr) (post : State → Axis → Prop) : Prop := Completes c s (fun t => post t (t.axis n) ∧ ∀ k, k ≠ n.val → t.axis k = u.axis k)
  let faulted (x : Axis) (cause : Nat) (at_ : Ticks) (t : State) (y : Axis) : Prop := y.fault = true ∧
    y.faultCause = (if x.fault then x.faultCause else cause) ∧ at_ ≤ t.time.lt ∧
    (x.mode ≠ .off → y.mode = .emergency ∧ y.emg = .fault ∧ y.queue = (if x.mode = .emergency then x.queue else [])) ∧
    (x.mode = .off → y.mode = .off ∧ y.brakeRel = false)
  (∀ current t0, (if current then z.stallCur else z.stallFe) = some t0 →
    after (.axStall n current) (faulted z 1 (t0 + ms (s.rf .axisStall n 23 16)))) ∧
  (∀ opening, z.mode ≠ .off → z.homes = false → u.limitActive n opening = true → after (.axLimit n opening) (faulted z 2 0)) ∧
  (s.rf .axisStepTim n 23 16 < x.stepLag → only (.axStepLag n) (faulted x 5 0)) ∧
  (∀ m : Fin 6, s.mayAccess m false = true → s.domain (if n.val < 32 then 2 else 3) = true →
    (z.mode ≠ .off → z.mode ≠ .emergency →
      after (.axisStop n true m) (fun _ y => y.mode = .emergency ∧ y.emg = .stop ∧ y.queue = [] ∧ y.pending = z.pending)) ∧
    (z.mode = .off ∨ z.mode = .emergency → after (.axisStop n true m) (fun _ y => y = z)) ∧
    (z.mode = .executing ∨ z.mode = .homing → after (.axisStop n false m) (fun _ y =>
      let l := u.limits n z.current_ (if z.kin.sign = 0 then 1 else z.kin.sign)
      y = { z with queue := [], mode := .executing, plan := some (planStop z.kin l.d l.j) })) ∧
    (z.mode ≠ .executing → z.mode ≠ .homing → after (.axisStop n false m) (fun _ y => y = { z with queue := [] })) ∧
    ((s.portal (n / 4)).st = .fault ∨ (s.portal (n / 4)).st = .unused → ∀ k : Fin 3,
      ((∀ t0, (x.chatter k).last = some t0 → t0 + ms (s.rf .axisChatter n 23 8) ≤ s.lt) →
        only (.axisClear n m) (fun _ y => (y.chatter k).latched = false)) ∧
      (∀ t0, (x.chatter k).last = some t0 → s.lt < t0 + ms (s.rf .axisChatter n 23 8) → only (.axisClear n m) (fun _ y => y.chatter k = x.chatter k))) ∧
    ((s.portal (n / 4)).st ≠ .fault → (s.portal (n / 4)).st ≠ .unused → only (.axisClear n m) (fun _ y => y = x))) ∧
  (∀ k : Fin 3, s.rf .axisChatter n 7 0 < s.chatterCount n k → (x.chatter k).latched = false →
    only (.axChatter n k) (fun _ y => (y.chatter k).latched = true ∧ (x.homes = false → y.mode = x.mode ∧ y.fault = x.fault) ∧
      (x.homes = true → y.fault = true ∧ y.mode = .emergency ∧ y.faultCause = (if x.fault then x.faultCause else 4)))) ∧
  (∀ opening, z.mode = .homing → u.limitActive n opening = true → u.limitCode n opening ≠ u.homeCode n →
    after (.homeLimitHit n opening) (fun _ y => y.mode = .emergency ∧ y.emg = .homingRetry))

/-- R203, R213 to R216, R219, R736: what follows at rest after emergency deceleration, how homing assigns HOME_POS, and the end of the brake's
times. -/
def Obligations.RestHomingAndBrakes : Prop := ∀ (s : State) (n : Fin 64),
  let x := s.axis n
  let rests (post : State → Axis → Prop) : Prop := Completes (.emergencyDecelRest n) s (fun t => post t (t.axis n) ∧ (t.axis n).vel = 0 ∧
    ∀ k, k ≠ n.val → t.axis k = s.axis k)
  (x.atRest = true →
    (x.emg = .fault → rests (fun _ y => y.mode = .off ∧ y.brakeRel = false)) ∧
    (x.emg = .tripReopen → s.beyond n x.emgTarget = true → rests (fun _ y => y.mode = .holding)) ∧
    (x.emg = .tripReopen → s.beyond n x.emgTarget = false → rests (fun _ y => y.mode = .executing ∧ y.queue = [plainSeg x.emgTarget])) ∧
    (x.emg = .tripStop → rests (fun t y => y.mode = .relief ∧ (t.ob n).stopHeld = true ∧ (t.ob n).stopAt = s.lt)) ∧
    (x.emg = .homingRetry → x.homeAttempt ≤ 1 → rests (fun _ y => y.mode = .homing ∧ y.homeAttempt = 2 ∧ y.homeReverse = !x.homeReverse)) ∧
    (x.emg = .homingRetry → 1 < x.homeAttempt → rests (fun _ y => y.mode = .off ∧ y.fault = true ∧ y.faultCause = (if x.fault then x.faultCause else 3))) ∧
    (x.emg = .stop → rests (fun _ y => y.mode = .holding))) ∧
  (∀ m, x.mode = .homing → s.rf .axisCfg n 4 3 = 1 → x.homeFound = false → s.input (s.homeCode n) false = true → s.fbOf n = some m →
    Completes (.homeReferenceFound n) s (fun t => (t.axis n).referenced = true ∧ (t.axis n).queue = [plainSeg (s.rs .axisTgtClosed n)] ∧
      (t.fbp m).latch = s.homingPos n ∧ (t.fbp m).refIdx = none)) ∧
  (∀ m t0, x.homeSince = some t0 → s.fbOf n = some m → Completes (.homeDwellElapsed n) s (fun t =>
    t0 + ms (s.rf .axisHome n 31 24) ≤ t.time.lt ∧ (t.axis n).referenced = true ∧ (t.axis n).queue = [plainSeg (s.rs .axisTgtClosed n)] ∧
      (t.axis n).vel = 0 ∧ (t.fbp m).latch = s.homingPos n + ((s.fbp m).latch - x.homeRef))) ∧
  (∀ t0, x.brkRelDue = some t0 → Completes (.brakeReleaseElapsed n) s (fun t => t0 ≤ t.time.lt ∧ t.axis n = { x with brkRelDue := none })) ∧
  (∀ t0, x.brkAppDue = some t0 → Table.get none s.ilk.tests n = none → Completes (.brakeApplyElapsed n) s (fun t =>
    t0 ≤ t.time.lt ∧ (t.axis n).mode = .off ∧ (t.axis n).brkAppDue = none)) ∧
  (∀ t0 b, x.brkAppDue = some t0 → Table.get none s.ilk.tests n = some b → Completes (.brakeApplyElapsed n) s (fun t =>
    t0 ≤ t.time.lt ∧ (t.axis n).mode = .brakeTest ∧ (t.axis n).resAmp = s.testCurrent n))

/-! ### Feedback ports -/

/-- R234, R236, R239, R243, R244, R250: how the count follows the encoder: levels that the filter drops, one quadrature step, an illegal transition,
a valid SSI frame and one in error, and the end of a speed window. -/
def Obligations.CountsFollowTheEncoder : Prop := ∀ (s : State) (n : Fin 64),
  let f := s.fbp n
  let illegal (c : Instr) : Prop := (f.illTimes.filter (fun t => decide (s.lt < t + ms 10))).length < s.rf .fbFilter n 23 16 →
    Completes c s (fun t => t.fbPos n = s.fbPos n ∧ (t.fbp n).illCnt = satInc 65535 f.illCnt ∧ (t.fbp n).evIllegal = true ∧
      (t.fbp n).lineA = !f.lineA ∧ (t.fbp n).lineB = !f.lineB ∧ (t.fbp n).fault = f.fault)
  (∀ a b held sample, s.fbMode n ≠ 2 → held < s.rf .fbFilter n 3 0 → Completes (.fbCount n a b held sample) s (fun t => t.fb = s.fb)) ∧
  (∀ a b held, s.fbMode n = 2 → held < s.rf .fbFilter n 3 0 → Completes (.fbCount n a b held none) s (fun t => t.fb = s.fb)) ∧
  (∀ a b held sample, s.fbMode n = 1 → s.rf .fbFilter n 3 0 ≤ held → f.lineA = a ∨ f.lineB = b →
    -(2 ^ 31) ≤ s.fbPos n + quadStep f.quad (quadState a b) * s.fbSign n →
    s.fbPos n + quadStep f.quad (quadState a b) * s.fbSign n < 2 ^ 31 →
    Completes (.fbCount n a b held sample) s (fun t => t.fbPos n = s.fbPos n + quadStep f.quad (quadState a b) * s.fbSign n ∧
      (t.fbp n).lineA = a ∧ (t.fbp n).lineB = b ∧ ∀ k, k ≠ n.val → t.fbp k = s.fbp k)) ∧
  (∀ a b held, s.fbMode n = 2 → s.rf .fbFilter n 3 0 ≤ held → f.lineA = a ∨ f.lineB = b → Completes (.fbCount n a b held none) s (fun t =>
    t.fbp n = { f with lineA := a, lineB := b, coarse := f.coarse + quadStep f.quad (quadState a b) })) ∧
  (s.fbMode n = 1 ∨ s.fbMode n = 2 → illegal (.fbIllegal n) ∧
    ∀ held, s.rf .fbFilter n 3 0 ≤ held → illegal (.fbCount n (!f.lineA) (!f.lineB) held none)) ∧
  (∀ frame, s.fbMode n = 3 → s.rb .fbSsi n 13 = false →
    (f.ssiV = none → Completes (.ssiFrame n frame true true) s (fun t => t.fbPos n = s.fbPos n ∧
      (t.fbp n).ssiV = some (s.ssiValue n frame) ∧ (t.fbp n).ssiErr = 0)) ∧
    (∀ v d, f.ssiV = some v →
      d = signedOf (s.rf .fbSsi n 11 6) (wrapTo (s.rf .fbSsi n 11 6) ((s.ssiValue n frame : Int) - (v : Int))) * s.fbSign n →
      s.ssiJump n d = false → -(2 ^ 31) ≤ s.fbPos n + d → s.fbPos n + d < 2 ^ 31 →
      Completes (.ssiFrame n frame true true) s (fun t => t.fbPos n = s.fbPos n + d ∧ (t.fbp n).latch = s.fbPos n + d ∧
        (t.fbp n).ssiV = some (s.ssiValue n frame) ∧ (t.fbp n).ssiRaw = s.ssiValue n frame ∧ (t.fbp n).ssiHeld = false)) ∧
    (∀ high low, high = false ∨ low = false → f.ssiErr = 0 → Completes (.ssiFrame n frame high low) s (fun t =>
      t.fbp n = { f with ssiErr := 1, ssiHeld := true, evHeld := true }))) ∧
  (∀ t0, f.winStart = some t0 → Completes (.speedWindow n) s (fun t => t0 + us (s.rf .fbSpeedWin n 16 0) ≤ t.time.lt ∧
    t.fbp n = { f with speed := divTrunc (f.winCount * 1000000) (s.rf .fbSpeedWin n 16 0), winCount := 0,
                       winStart := some (t0 + us (s.rf .fbSpeedWin n 16 0)) }))

/-- R236, R237, R240, R244, R262: a port faults with the cause of its condition, and faults the axis it feeds with cause 8. -/
def Obligations.PortFaultsFaultTheirAxis : Prop := ∀ (s : State) (n : Fin 64), (s.fbp n).fault = false →
  let faults (c : Instr) (cause : Nat) : Prop := Completes c s (fun t => (t.fbp n).fault = true ∧ (t.fbp n).faultCause = cause ∧
    (∀ k, k ≠ n.val → t.fbp k = s.fbp k) ∧ (t.axis (s.fedAxis n)).fault = true ∧
    (t.axis (s.fedAxis n)).faultCause = (if (s.axis (s.fedAxis n)).fault then (s.axis (s.fedAxis n)).faultCause else 8) ∧
    (∀ k, k ≠ s.fedAxis n → t.axis k = s.axis k))
  (s.fbMode n = 1 ∨ s.fbMode n = 2 → s.rf .fbFilter n 23 16 ≤ ((s.fbp n).illTimes.filter (fun t => decide (s.lt < t + ms 10))).length →
    faults (.fbIllegal n) 3 ∧
    ∀ held, s.rf .fbFilter n 3 0 ≤ held → faults (.fbCount n (!(s.fbp n).lineA) (!(s.fbp n).lineB) held none) 3) ∧
  (s.fbMode n ≠ 0 → s.rb .fbCfg n 2 = false → faults (.fbLineBroken n true) 2) ∧
  (s.fbMode n = 2 → 8 ≤ (s.fbp n).amplRun → faults (.fbAmplitudeFault n) 1) ∧
  (∀ frame high low, s.fbMode n = 3 → (s.fbp n).ssiErr ≠ 0 → high = false ∨ low = false → faults (.ssiFrame n frame high low) 4) ∧
  (∀ frame v, s.fbMode n = 3 → (s.fbp n).ssiErr ≠ 0 → s.rb .fbSsi n 13 = false → (s.fbp n).ssiV = some v →
    s.ssiJump n (signedOf (s.rf .fbSsi n 11 6) (wrapTo (s.rf .fbSsi n 11 6) ((s.ssiValue n frame : Int) - (v : Int))) * s.fbSign n) = true →
    faults (.ssiFrame n frame true true) 5)

/-- R232, R248, R249, R255, R257, R260, R265: the accesses to a port's registers: a change of MODE sets P to 0, PSET sets P, a read of POS
captures and clears the sticky bits, a read of PRB_POS clears PRB_VALID, and the writes of the comparator and of EVT. -/
def Obligations.FeedbackRegistersAct : Prop := ∀ (s : State) (n : Fin 64) (m : Fin 6) (v : Word),
  s.domain (if n.val < 32 then 2 else 3) = true →
  let f := s.fbp n
  let others (t : State) : Prop := ∀ k, k ≠ n.val → t.fbp k = s.fbp k
  (s.mayAccess m false = true →
    (s.locked = false → writeOk .fbCfg n 0 v = true → fld v 1 0 ≠ s.fbMode n → Completes (.fbCfgWrite n v m) s (fun t =>
      t.fbPos n = 0 ∧ (t.fbp n).h = 0 ∧ (t.fbp n).dec = false ∧ (t.fbp n).ovf = false ∧ (t.fbp n).winStart = none ∧
      (t.fbp n).coarse = f.quad ∧ t.reg .fbCfg n = v ∧ others t)) ∧
    (Completes (.fbPset n v m) s (fun t => t.fbPos n = sword v ∧ (t.fbp n).h = sword v ∧ (t.fbp n).dec = f.dec ∧ (t.fbp n).winCount = f.winCount ∧
      others t)) ∧
    (f.cmpDir = 0 ∨ f.ahead (sword v) = true → Completes (.fbCmpPosWrite n v m) s (fun t =>
      t.fbp n = { f with cmpNext := sword v, behind := false, crossed := false } ∧ others t)) ∧
    (f.cmpDir ≠ 0 → f.ahead (sword v) = false → fieldOf f.cmpCfg 2 2 = 0 → Completes (.fbCmpPosWrite n v m) s (fun t =>
      t.fbp n = { f with cmpNext := sword v, behind := true, crossed := false } ∧ others t)) ∧
    (f.cmpDir ≠ 0 → f.ahead (sword v) = false → fieldOf f.cmpCfg 2 2 ≠ 0 → f.cmpSpacing = 0 → Completes (.fbCmpPosWrite n v m) s (fun t =>
      (t.fbp n).cmpNext = sword v ∧ (t.fbp n).cmpHits = (f.cmpHits + 1) % 65536 ∧ (t.fbp n).cmpDir = 0 ∧ others t)) ∧
    (writeOk .fbCmpCfg n 0 v = true → fld v 1 0 = 0 → Completes (.fbCmpCfgWrite n v m) s (fun t =>
      (t.fbp n).cmpDir = 0 ∧ t.reg .fbCmpCfg n = v ∧ others t)) ∧
    (writeOk .fbCmpCfg n 0 v = true → fld v 1 0 ≠ 0 → Completes (.fbCmpCfgWrite n v m) s (fun t =>
      t.fbp n = f ∧ t.reg .fbCmpCfg n = v ∧ others t)) ∧
    (writeOk .fbEvt n 0 v = true → Completes (.fbEvtClear n v m) s (fun t =>
      t.fbp n = { f with evIllegal := f.evIllegal && !bitOf v 0, evHeld := f.evHeld && !bitOf v 1,
                         evDivLag := f.evDivLag && !bitOf v 2, evPrbOvr := f.evPrbOvr && !bitOf v 3 } ∧ others t))) ∧
  (s.mayAccess m true = true →
    Completes (.fbPosRead n m) s (fun t =>
      t.fbp n = { f with revSh := f.rev, shOvf := f.ovf, shRwrap := f.rwrap, shRevOvf := f.revOvf, ovf := false, rwrap := false, revOvf := false } ∧
      t.outs = [.readWord (regAddr .fbPos n 0) (BitVec.ofNat 32 (if s.fbWrapEn n then f.pos else f.count)).toNat] ∧ others t) ∧
    Completes (.fbPrbPosRead n m) s (fun t => t.fbp n = { f with prbValid := false } ∧
      t.outs = [.readWord (regAddr .fbPrbPos n 0) (wrapTo 32 f.prbPos)] ∧ others t))

/-- R249, R251 to R253, R255, R256, R258, R261: the index, the probe latch, a compare hit and the lag of the divided output. -/
def Obligations.IndexProbeAndCompare : Prop := ∀ (s : State) (n : Fin 64),
  let f := s.fbp n
  let ax := s.fedAxis n
  (s.rb .fbCfg n 4 = true → f.quad = s.rf .fbIdx n 9 8 → s.fbMode n = 1 ∨ s.fbMode n = 2 →
    ((s.axis ax).referenced = false ∨ f.psetAt = some s.lt → Completes (.fbIndex n) s (fun t =>
      t.fbp n = { f with idxPos := s.fbPos n } ∧ t.axes = s.axes)) ∧
    ((s.axis ax).referenced = true → f.psetAt ≠ some s.lt → f.refIdx = none → Completes (.fbIndex n) s (fun t =>
      t.fbp n = { f with idxPos := s.fbPos n, refIdx := some (s.fbPos n) } ∧ t.axes = s.axes)) ∧
    (∀ r d, (s.axis ax).referenced = true → f.psetAt ≠ some s.lt → f.refIdx = some r →
      d = s.fbPos n - nearestIndex r ((s.reg .fbIdxPeriod n).toNat : Int) (s.fbPos n) →
      (d = 0 → Completes (.fbIndex n) s (fun t => t.fbp n = { f with idxPos := s.fbPos n } ∧ t.axes = s.axes)) ∧
      (d ≠ 0 → d.natAbs ≤ s.rf .fbIdx n 7 0 → -(2 ^ 31) ≤ s.fbPos n - d → s.fbPos n - d < 2 ^ 31 → Completes (.fbIndex n) s (fun t =>
        t.fbPos n = s.fbPos n - d ∧ (t.fbp n).idxSlip = satInc 65535 f.idxSlip ∧ t.axes = s.axes)) ∧
      (s.rf .fbIdx n 7 0 < d.natAbs → Completes (.fbIndex n) s (fun t => t.fbPos n = s.fbPos n ∧ (t.fbp n).idxFault = true ∧
        (t.axis ax).referenced = false ∧ (t.portal (ax / 4)).unreferenced = true)))) ∧
  (∀ level held,
    let dropped := s.rb .fbFilter n 14 = false ∨ held < s.rf .fbFilter n 11 4 ∨ level = f.prbLevel
    let edge := (level = true → s.rf .fbFilter n 13 12 ≠ 1) ∧ (level = false → s.rf .fbFilter n 13 12 ≠ 0)
    (dropped → Completes (.probeEdge n level held) s (fun t => t.fbp n = f)) ∧
    (¬dropped → ¬edge → Completes (.probeEdge n level held) s (fun t => t.fbp n = { f with prbLevel := level })) ∧
    (¬dropped → edge → s.fbMode n ≠ 2 → s.fbMode n ≠ 3 → Completes (.probeEdge n level held) s (fun t => (t.fbp n).prbLevel = level ∧
      (t.fbp n).prbValid = true ∧
      (f.prbValid = false → (t.fbp n).prbPos = s.fbPos n ∧ (t.fbp n).evPrbOvr = f.evPrbOvr) ∧
      (f.prbValid = true → (t.fbp n).prbPos = f.prbPos ∧ (t.fbp n).evPrbOvr = true))) ∧
    (¬dropped → edge → s.fbMode n = 2 ∨ s.fbMode n = 3 → Completes (.probeEdge n level held) s (fun t =>
      t.fbp n = { f with prbLevel := level, prbWait := f.prbWait ++ [⟨s.lt, f.coarse⟩] }))) ∧
  (f.crossed = true → (∀ e, f.cmpPulseEnd = some e → e ≤ s.lt) → f.cmpSpacing = 0 → Completes (.compareHit n) s (fun t =>
    (t.fbp n).cmpHits = (f.cmpHits + 1) % 65536 ∧ (t.fbp n).cmpSkip = f.cmpSkip % 65536 ∧ (t.fbp n).cmpDir = 0 ∧ (t.fbp n).behind = false)) ∧
  (f.crossed = true → (∀ e, f.cmpPulseEnd = some e → e ≤ s.lt) → f.cmpSpacing ≠ 0 → f.cmpDir = 1 →
    f.cmpNext ≤ f.h → f.h < 2 ^ 30 → f.cmpSpacing < 2 ^ 30 → -(2 ^ 31) ≤ f.cmpNext → Completes (.compareHit n) s (fun t =>
      (t.fbp n).cmpHits = (f.cmpHits + 1) % 65536 ∧ f.h < (t.fbp n).cmpNext ∧ (t.fbp n).cmpNext ≤ f.h + f.cmpSpacing ∧
        ((t.fbp n).cmpNext - f.cmpNext) % (f.cmpSpacing : Int) = 0)) ∧
  (s.rf .fbDivout n 17 16 = 1 →
    255 + (if f.divFree ≤ 2 * s.lt then (2 * s.lt - f.divFree) / 25 + 1 else 0) < (s.divTarget n - f.divState).natAbs →
    Completes (.fbDivLag n) s (fun t => (t.fbp n).divState = s.divTarget n ∧ (t.fbp n).evDivLag = true))

/-! ### Drive links -/

/-- R283 to R285: the start of a link and its delay measurement, the reply slots accepted and held, and the failures that fault the axis or
the link. -/
def Obligations.DriveLinksStartAndCheckReplies : Prop := ∀ (s : State) (l : Fin 8),
  let d := s.link l
  let stage (k n : Nat) : Prop := k < s.stages l ∧ s.stageAxis l k = some n
  (∀ m : Fin 6, s.mayAccess m false = true → s.domain 5 = true → s.linkEn l = true → (∀ n ∈ s.linkAxes l, (s.axis n).mode = .off) →
    Completes (.dlRestart l m) s (fun t => (t.link l).phase = 1 ∧ (t.link l).seqNext = 0 ∧ (t.link l).idleStart = (if s.standby then none else some s.lt) ∧
      ∀ k, k ≠ l.val → t.link k = s.link k)) ∧
  (∀ m : Fin 6, s.mayAccess m false = true → s.domain 5 = true → (∃ n ∈ s.linkAxes l, (s.axis n).mode ≠ .off) →
    Completes (.dlRestart l m) s (fun t => t.links = s.links)) ∧
  (∀ t0, d.idleStart = some t0 → Completes (.dlStartIdleEnd l) s (fun t => t0 + us 100 ≤ t.time.lt ∧
    t.link l = { d with idleStart := none, loopStage := some 0, loopSent := 0 })) ∧
  (∀ k trips, d.loopStage = some k → 16 ≤ d.loopSent →
    (trips.length = 16 → 0 ≤ dlyOf (trips.foldl (· + ·) 0) → dlyOf (trips.foldl (· + ·) 0) ≤ 255 → Completes (.dlDelayMeasured l trips) s (fun t =>
      Table.get 0 (t.link l).dly k = (dlyOf (trips.foldl (· + ·) 0)).toNat ∧
      (t.link l).loopStage = (if k + 1 < s.stages l then some (k + 1) else none) ∧ (t.link l).clearing = decide (s.stages l ≤ k + 1))) ∧
    (trips.length ≠ 16 ∨ 255 < dlyOf (trips.foldl (· + ·) 0) → Completes (.dlDelayMeasured l trips) s (fun t =>
      (t.link l).phase = 3 ∧ (t.link l).cause = 3 ∧ ∀ n ∈ s.linkAxes l, (t.axis n).fault = true ∧ (t.axis n).mode = .off))) ∧
  (d.sent = true → d.replied = false → d.loopStage = none →
    (∀ f, byteAt f 1 = s.stages l → (∀ k, k < s.stages l → s.slotOk l f k = true) → Completes (.dlReply l f) s (fun t =>
      (t.link l).replied = true ∧ (t.link l).seenBad = 0 ∧ (t.link l).held = 0 ∧ ∀ k n, stage k n →
        (t.axis n).current = signedOf 16 (beAt (upSlot f k) 2 2) ∧ (t.axis n).heldReply = false ∧
        ((beAt (upSlot f k) 0 2).testBit 8 = false → (t.axis n).fault = (s.axis n).fault))) ∧
    (d.phase = 2 → d.seenBad = 0 → Completes (.dlUplinkTimeout l) s (fun t => (t.link l).phase = 2 ∧ (t.link l).seenBad = 1 ∧
      d.sentB + us 13 ≤ t.time.lt ∧ ∀ k n, stage k n → (t.axis n).heldReply = true ∧ (t.axis n).current = (s.axis n).current ∧
        (Table.get 0 d.failRun k ≠ 0 → (t.axis n).fault = true ∧ (t.axis n).mode = .off))) ∧
    (d.phase = 2 → d.seenBad ≠ 0 → Completes (.dlUplinkTimeout l) s (fun t => (t.link l).phase = 3 ∧ (t.link l).cause = 2 ∧
      ∀ n ∈ s.linkAxes l, (t.axis n).fault = true ∧ (t.axis n).mode = .off)))

/-! ### Interlock and safety functions -/

/-- R296, R301, R305, R311, R313, R320, R321: the checks of the safety functions latch their fault and withdraw what the table of R320 names.
R307, R308: an off-pulse starts at its instant of LT; its end and the readback outside pulses are judged. -/
def Obligations.InterlockFaultsAndOffPulses : Prop :=
  (∀ s : State,
  let permitGone (t : State) : Prop := s.standby = false → t.seq.withdraw = true
  (s.ilk.applied = [] ∨ crc32c s.ilkParams = s.ilk.pcrcRef ∨ s.ilk.pcrcFault = true →
    Completes .paramCrcCheck s (fun t => t.ilk = { s.ilk with pcrcNow := crc32c s.ilkParams })) ∧
  (s.ilk.applied ≠ [] →
    (crc32c s.ilkParams ≠ s.ilk.pcrcRef → s.ilk.pcrcFault = false → Completes .paramCrcCheck s (fun t => t.ilk.pcrcFault = true ∧
      t.ilk.pcrcNow = crc32c s.ilkParams ∧ t.ilk.pcrcRef = s.ilk.pcrcRef ∧ t.ilk.logCnt = s.ilk.logCnt + 1 ∧ permitGone t))) ∧
  (∀ p : Fin 16, p.val ∈ s.enabledPortals → (s.portal p).st = .locked → s.lockedSwitches p 0 = false →
    Completes (.switchOpenInLocked p) s (fun t => (t.so 0).cmd = false ∧ (s.lockedSwitches p 1 = false → (t.so 2).cmd = false) ∧ t.portals = s.portals)) ∧
  (∀ (k : Fin 2) t0, Table.get none s.ilk.xSince k = some t0 → Completes (.ilkCrossDisagree k) s (fun t =>
    t0 + ms (s.rf .ilkXchk 0 13 0) ≤ t.time.lt ∧ t.ilk.xchk = true ∧ permitGone t)) ∧
  (∀ i : Fin 40, s.pairEn i = true → (s.pair i).differ = true → (s.pair i).disc = false → Completes (.ilkDiscrepancy i) s (fun t =>
    ((s.pair i).diffAt / discTick + s.rf .ilkPairB i 10 0) * discTick ≤ t.time.lt ∧ (t.pair i).disc = true ∧
    (t.pair i).value = s.rb .ilkPairB i 11 ∧ ∀ j, j ≠ i.val → t.pair j = s.pair j)) ∧
  (∀ (i : Fin 20) t0, (s.mon i).badSince = some t0 → (s.mon i).fault = false → Completes (.ilkMonFault i) s (fun t =>
    t0 + ms (s.rf .ilkMonT 0 9 0) ≤ t.time.lt ∧ t.mon i = { s.mon i with fault := true } ∧ (s.monWithdraws i = true → permitGone t)))) ∧
  (∀ (s : State) (k : Fin 4),
  let o := s.so k
  let fails (c : Instr) (from_ : Ticks) (rb : Bool) : Prop := Completes c s (fun t => from_ + us 50 ≤ t.time.lt ∧ (t.so k).test = true ∧
    (t.so k).readback = rb ∧ (t.so k).pulse = false ∧ (s.standby = false → t.seq.withdraw = true))
  (o.cmd = true → o.pulse = false → 0 < s.rf .ilkSotest 0 25 16 → Completes (.soOffPulse k) s (fun t =>
    t.so k = { o with pulse := true, pulseStart := t.time.lt, pulseEnd := t.time.lt + us (s.rf .ilkSotest 0 8 0),
                      readback := if o.test then o.readback else false } ∧
    (∃ m, t.localTime = k.val * ms (s.rf .ilkSotest 0 25 16) / 4 + m * ms (s.rf .ilkSotest 0 25 16)) ∧ ∀ j, j ≠ k.val → t.so j = s.so j)) ∧
  (o.pulse = true → o.test = false → s.driveEnable = true →
    Completes (.soPulseEnd k true true) s (fun t => o.pulseEnd + us 50 ≤ t.time.lt ∧ t.so k = { o with pulse := false, readback := o.cmd } ∧
      Table.get 0 t.cnt.value (264 + k) = (Table.get 0 s.cnt.value (264 + k) + 1) % 2 ^ 48) ∧
    (∀ on, fails (.soPulseEnd k false on) o.pulseEnd true) ∧ fails (.soPulseEnd k true false) o.pulseEnd false) ∧
  (o.pulse = false →
    (∀ level, level = o.cmd ∨ s.driveEnable = false → Completes (.soReadbackFail k level) s (fun t => o.changed + us 50 ≤ t.time.lt ∧
      t.so k = { o with readback := level })) ∧
    (∀ level, level ≠ o.cmd → s.driveEnable = true → o.test = false → fails (.soReadbackFail k level) o.changed level)))

/-- R314 to R317, R319, R323, R329: CLEAR of the faults whose cause is gone, the read of a safety change log entry, and the brake test. -/
def Obligations.ClearLogAndBrakeTests : Prop := ∀ s : State,
  (∀ m : Fin 6, s.mayAccess m false = true → Completes (.ilkClear m) s (fun t => t.ilk.xchk = false ∧ t.ilk.pcrcFault = s.ilk.pcrcFault ∧
    (∀ k < 4, (s.so k).test = true → (t.so k).test = decide ((s.so k).readback ≠ (s.so k).cmd)) ∧
    (∀ i < 40, ∀ t0, (s.pair i).agreeSince = some t0 → t0 + ms 100 ≤ s.lt → (t.pair i).disc = false ∧ (t.pair i).tp = false) ∧
    (∀ i < 40, (∀ t0, (s.pair i).agreeSince = some t0 → s.lt < t0 + ms 100) → t.pair i = s.pair i) ∧
    (∀ i < 20, ∀ t0, (s.mon i).goodSince = some t0 → t0 + ms (s.rf .ilkMonT 0 9 0) ≤ s.lt → (t.mon i).fault = false) ∧
    (∀ i < 20, (s.mon i).goodSince = none → t.mon i = s.mon i))) ∧
  (∀ (m : Fin 6) (v : Word), s.mayAccess m false = true →
    (s.ilk.logCnt ≤ v.toNat → Completes (.ilkLogLoad v m) s (fun t => t.reg .ilkLogIdx = v ∧ t.ilk.logAbsent = true ∧ t.ilk.logData = [])) ∧
    (v.toNat < s.ilk.logCnt → v.toNat < 64 ∨ s.ilk.logCnt ≤ v.toNat + 1024 →
      let e := s.memBytes (if v.toNat < 64 then 0x01F30000 + 48 * v.toNat else 0x01F30C00 + 48 * ((v.toNat - 64) % 1024)) 48
      let bad := decide (leAt e 40 4 ≠ crc32c (e.take 40 ++ slice e 44 3) ∨ byteAt e 47 ≠ 0xA5)
      let stored := e.all (· == 0) = false ∧ (bad = true ∨ leAt e 0 4 = v.toNat)
      (stored → Completes (.ilkLogLoad v m) s (fun t => t.reg .ilkLogIdx = v ∧ t.ilk.logAbsent = false ∧ t.ilk.logBad = bad ∧ t.ilk.logData = e)) ∧
      (¬stored → Completes (.ilkLogLoad v m) s (fun t => t.reg .ilkLogIdx = v ∧ t.ilk.logAbsent = true ∧ t.ilk.logData = []))) ∧
    (v.toNat < s.ilk.logCnt → 64 ≤ v.toNat → v.toNat + 1024 < s.ilk.logCnt → Completes (.ilkLogLoad v m) s (fun t => t.ilk.logAbsent = true))) ∧
  (∀ n : Fin 64,
    let x := s.axis n
    let test (t : State) := Table.get none t.ilk.tests n
    let fails (c : Instr) (at_ : Ticks) : Prop := Completes c s (fun t => at_ ≤ t.time.lt ∧ test t = none ∧ t.ilk.btFail.testBit n = true ∧
      (t.axis n).fault = true ∧ (t.axis n).faultCause = (if x.fault then x.faultCause else 7))
    (s.testReady n = true → x.brakeRel = true → Completes (.brakeTestStart n) s (fun t => (t.axis n).mode = .holding ∧ (t.axis n).brakeRel = false ∧
      (t.axis n).brkAppDue = some (s.lt + ms (s.rf .axisBrake n 31 24)) ∧ (t.axis n).resAmp = s.testCurrent n ∧
      test t = some { x0 := s.latchOf n, waiting := true, start := s.lt })) ∧
    (s.testReady n = true → x.brakeRel = false → Completes (.brakeTestStart n) s (fun t => (t.axis n).mode = .brakeTest ∧
      (t.axis n).resAmp = s.testCurrent n ∧ (t.axis n).pos = (s.latchOf n + s.openSign n * 4 * (s.rf .ilkBt n 31 16 : Int)) * 2 ^ 32 ∧
      test t = some { x0 := s.latchOf n, start := s.lt })) ∧
    (∀ b, test s = some b → b.waiting = false →
      (b.reached = false → fails (.brakeTestTorqueTimeout n) (b.start + ms 100) ∧
        fails (.brakeTestPhaseEnd n) (b.start + ms (10 * s.rf .ilkBtCfg 0 31 24))) ∧
      (b.reached = true → b.dir = 0 → Completes (.brakeTestPhaseEnd n) s (fun t => b.start + ms (10 * s.rf .ilkBtCfg 0 31 24) ≤ t.time.lt ∧
        (t.axis n).mode = .brakeTest ∧ test t = some { b with dir := 1, start := t.time.lt, reached := false })) ∧
      (b.reached = true → b.dir = 1 → Completes (.brakeTestPhaseEnd n) s (fun t => b.start + ms (10 * s.rf .ilkBtCfg 0 31 24) ≤ t.time.lt ∧
        test t = none ∧ Table.get none t.ilk.btPass n = some t.bk.rtc ∧ t.ilk.btFail.testBit n = false ∧ t.ilk.btOverdue.testBit n = false ∧
        (t.axis n).mode ≠ .brakeTest))) ∧
    (s.rb .ilkBt n 0 = true → s.ilk.btOverdue.testBit n = false → Completes (.brakeTestOverdue n) s (fun t =>
      t.ilk.btOverdue = s.ilk.btOverdue ||| 2 ^ n.val ∧ (s.btDueAt n + s.btInterval < 2 ^ 48 → s.btDueAt n + s.btInterval ≤ t.bk.rtc))))

/-! ### Field channels and isolation links -/

/-- R345, R351, R355 to R357, R361, R369: what each field frame sends, how the main die takes or fails a reply, the counter filters, and the
commands of a link. -/
def Obligations.FieldFramesAndReplies : Prop := ∀ s : State,
  Completes .fieldFrame s (fun t => t.time.fieldNext = s.time.fieldNext + 10000 ∧ ∀ k < 12,
    ((s.flink k).phase = 0 → (s.flink k).sent = false → t.flink k = s.flink k) ∧
    ((s.flink k).phase ≠ 0 → (t.flink k).seq = ((s.flink k).seq + 1) % 65536 ∧ (t.flink k).sent = true ∧ (t.flink k).sentF = s.time.fieldNext ∧
      Out.isolationFrame k (t.flink k).frame ∈ t.outs) ∧
    ((s.flink k).phase ≠ 0 → (s.flink k).sent = true → (t.flink k).image = (s.flink k).image ∧ (t.flink k).apply = 0) ∧
    ((s.flink k).phase ≠ 0 → (s.flink k).sent = false → ∀ i, (s.flink k).unacked = some i → (t.flink k).image = i ∧ (t.flink k).apply = 0) ∧
    (s.slotsInOrder = [] → (s.flink k).phase ≠ 0 → (s.flink k).sent = false → (s.flink k).unacked = none →
      (t.flink k).apply = 0 ∧ (t.flink k).image = if t.time.snapF = some s.time.fieldNext then t.time.snap.getD k 0 else t.linkImage k)) ∧
  (∀ (k : Fin 12) (b : List Byte),
    let l := s.flink k
    (l.sent = true → s.replyOk k b = true → byteAt b 1 % 4 = 2 →
      Completes (.fieldReply k b) s (fun t => (t.flink k).sent = false ∧ (t.flink k).fails = 0 ∧ (t.flink k).held = false ∧
        (t.flink k).good = l.good + 1 ∧ (t.flink k).stateByte = byteAt b 1 ∧
        (t.flink k).lost = (l.lost && decide (l.good + 1 < 4)) ∧ (l.lost = true → 3 ≤ l.good → (t.flink k).phase = 2) ∧
        (t.flink k).unacked = (if (byteAt b 1).testBit 2 then none else some l.image) ∧
        (l.lost = false → l.phase = 1 → (byteAt b 1).testBit 2 = true → (t.flink k).phase = 2) ∧
        (k.val < 8 → l.lost = false → ∀ j < 32, let c := 32 * k.val + j
          let n := fld (s.reg .fldFlt k j) 11 0
          let v := if (beAt b 4 4).testBit j then min (min (Table.get 0 s.fio.cnt c) n + 1) n else min (Table.get 0 s.fio.cnt c) n - 1
          Table.get 0 t.fio.cnt c = v ∧ t.filtered c = (if v = n then true else if v = 0 then false else s.filtered c)))) ∧
    (l.sent = true → s.replyOk k b = true → byteAt b 1 % 4 = 3 ∨ byteAt b 1 % 4 = 0 ∨
        (byteAt b 1 % 4 = 1 ∧ (byteAt b 1).testBit 2 = false ∧ l.run = true) →
      Completes (.fieldReply k b) s (fun t => (t.flink k).phase = (if l.lost then 3 else 1) ∧ (t.flink k).cfgNext = 0 ∧ (t.flink k).unacked = none)) ∧
    (l.sent = true → l.lost = false →
      let missed (c : Instr) : Prop :=
        (l.fails = 0 → Completes c s (fun t => (t.flink k).fails = 1 ∧ (t.flink k).held = true ∧ (t.flink k).lost = false ∧
          (t.flink k).unacked = some l.image)) ∧
        (l.fails ≠ 0 → Completes c s (fun t => (t.flink k).lost = true ∧ (t.flink k).phase = 3 ∧ (t.flink k).unacked = some l.image ∧
          (k.val < 8 → s.ilk.tileLost.testBit k = false → t.ilk.tileLost.testBit k = true ∧ ∀ j < 32, t.filtered (32 * k.val + j) = false ∧ Table.get 0 t.fio.cnt (32 * k.val + j) = 0)))
      missed (.fieldReplyMissing k) ∧ (s.replyOk k b = false → missed (.fieldReply k b)))) ∧
  (∀ (k : Fin 8) (m : Fin 6), s.mayAccess m false = true → s.domain (12 + k.val / 2) = true →
    Completes (.fldRestart k m) s (fun t => (∀ j, j ≠ k.val → t.flink j = s.flink j) ∧
      t.flink k = { s.flink k with phase := if (s.flink k).lost then 3 else 1, cfgNext := 0, unacked := none, repeats := 0, run := false }) ∧
    Completes (.fldClrDiag k m) s (fun t => t.flink k = { s.flink k with clrDiag := true, tpfail := 0 } ∧ ∀ j, j ≠ k.val → t.flink j = s.flink j))

/-- R341, R354, R356, R358 to R360, R365: the states of a tile or die, as frames, its TIMEOUT and its supply move it. -/
def Obligations.TilesFollowTheirStates : Prop := ∀ (s : State) (k : Fin 12),
  let d := s.die k
  let safe (active : Bool) (e : Die) : Prop := ∀ j < 32, Table.get none d.tripped j = none →
    e.driven.testBit j = (active && d.isOut j && d.safeImage.testBit j)
  (∀ (b : List Byte) vals, d.powered = true →
    let idx := if k.val < 8 then byteAt b 11 else byteAt b 8
    let word := if k.val < 8 then beAt b 12 4 else beAt b 9 4
    let all := 2 ^ wordCount k - 1
    let answers (post : Die → Prop) : Prop := Completes (.tileFrameReceive k b vals) s (fun t => post (t.die k) ∧
      (∃ r, t.outs = [.dieReply k r]) ∧ (t.die k).diagNext = (d.diagNext + 1) % (if k.val < 8 then 32 else 8))
    (dieAccepts d k b = false → answers (fun e => e.rxOk = false ∧ e.phase = d.phase ∧ e.seqAck = d.seqAck ∧ e.waiting = d.waiting ∧ e.words = d.words ∧
      e.lastOk = d.lastOk)) ∧
    (dieAccepts d k b = true → answers (fun e => e.seqAck = some (beAt b 2 2) ∧ e.lastOk = s.lt)) ∧
    (dieAccepts d k b = true → byteAt b 0 % 8 = 2 → answers (fun e => e.rxOk = true ∧ e.phase = 1 ∧ e.word idx = word ∧ e.driven = d.driven ∧
      e.stored = (if d.phase = 1 then d.stored ||| 2 ^ idx else 2 ^ idx))) ∧
    (dieAccepts d k b = true → byteAt b 0 % 8 = 1 → d.phase = 0 ∨ d.phase = 3 ∨ (d.phase = 1 ∧ d.stored ≠ all) →
      answers (fun e => e.rxOk = false ∧ e.phase = d.phase ∧ e.waiting = d.waiting ∧ e.driven = d.driven)) ∧
    (dieAccepts d k b = true → byteAt b 0 % 8 = 1 → (d.phase = 1 ∧ d.stored = all) ∨ d.phase = 2 →
      (d.word idx = word → answers (fun e => e.rxOk = true ∧ e.phase = 2 ∧ e.waiting = d.waiting ++ [dieFrame k b (s.applyDue k b)])) ∧
      (d.word idx ≠ word → answers (fun e => e.rxOk = false ∧ e.phase = 3 ∧ e.cfgErr = true ∧ e.waiting = [] ∧
        (k.val < 8 → safe ((byteAt b 0).testBit 3) e))))) ∧
  (∀ f rest, d.waiting = f :: rest → Completes (.tileApply k) s (fun t => f.due ≤ t.time.lt ∧ (t.die k).waiting = rest ∧ (t.die k).tpOff = f.tpOff ∧ (t.die k).out = f.out ∧
    (k.val < 8 → ∀ j < 32, Table.get none d.tripped j = none → (t.die k).driven.testBit j = (f.active && d.isOut j && f.out.testBit j)))) ∧
  (d.powered = true → d.phase = 1 ∨ d.phase = 2 → Completes (.tileTimeout k) s (fun t => (t.die k).phase = 3 ∧ (t.die k).waiting = [] ∧
    d.lastOk + us (10 * if d.stored.testBit (if k.val < 8 then 40 else 8) then d.word (if k.val < 8 then 40 else 8) % 2 ^ 14 else 200) ≤ t.time.lt ∧
    (k.val < 8 → safe d.accActive (t.die k)))) ∧
  Completes (.tilePowerUp k) s (fun t => t.die k = { powered := true, lastOk := s.lt } ∧ ∀ j, j ≠ k.val → t.die j = s.die j) ∧
  Completes (.tileSupplyLoss k) s (fun t => t.die k = {} ∧ (∀ j, j ≠ k.val → t.die j = s.die j) ∧
    (8 ≤ k.val → ∀ n ∈ bankSwitches (k - 8), (t.sw n).st = .off))

/-- R336, R338, R342, R343, R347, R348, R350, R363, R372: what a channel's own checks latch, its wetting, the test-pulse windows and the
presses of a maintenance-reset input. -/
def Obligations.ChannelChecksAndPresses : Prop := ∀ s : State,
  (∀ c : Fin 256,
    let d := s.die (c.val / 32)
    let j := c.val % 32
    let latches (i : Instr) (b : Nat) : Prop := Completes i s (fun t => Table.get 0 (t.die (c.val / 32)).latch j = Table.get 0 d.latch j ||| 2 ^ b ∧
      ∀ k, k ≠ c.val / 32 → t.die k = s.die k)
    (d.powered = true → d.isOut j = false → d.level.testBit j = false → d.inWindow.testBit j = false → d.dark.testBit j = false →
      let own := d.wetting.filter (fun e => e.1 != j)
      let waits := d.wetQueue.any (fun e => e.1 == j)
      (fieldOf (d.word j) 7 6 = 0 ∨ waits = true → Completes (.fieldInputEdge c) s (fun t => t.die (c.val / 32) =
        { d with level := d.level ||| 2 ^ j })) ∧
      (fieldOf (d.word j) 7 6 ≠ 0 → waits = false → own.length < 8 → Completes (.fieldInputEdge c) s (fun t => t.die (c.val / 32) =
        { d with level := d.level ||| 2 ^ j, wetting := own ++ [(j, s.lt)] })) ∧
      (fieldOf (d.word j) 7 6 ≠ 0 → waits = false → 8 ≤ own.length → Completes (.fieldInputEdge c) s (fun t => t.die (c.val / 32) =
        { d with level := d.level ||| 2 ^ j, wetQueue := d.wetQueue ++ [(j, s.lt)] }))) ∧
    (∀ t0 rest, d.wetting = (j, t0) :: rest → (∀ e ∈ rest, e.1 ≠ j) →
      (d.wetQueue = [] → Completes (.wettingEnd c) s (fun t => t.die (c.val / 32) = { d with wetting := rest } ∧
        t0 + us (500 * fieldOf (d.word j) 11 8) ≤ t.time.lt)) ∧
      (∀ q ∈ d.wetQueue, (∀ e ∈ d.wetQueue, q.2 < e.2 ∨ (q.2 = e.2 ∧ q.1 < e.1) ∨ e = q) → Completes (.wettingEnd c) s (fun t => t.die (c.val / 32) =
        { d with wetting := rest ++ [(q.1, t.time.lt)], wetQueue := d.wetQueue.filter (fun e => e.1 != q.1) }))) ∧
    (d.isOut j = false → (d.word j).testBit 13 = true → latches (.wireBreak c true) 2) ∧
    (d.isOut j = true → (d.word j).testBit 12 = true → d.driven.testBit j = false → latches (.openWire c true) 1) ∧
    (d.driven.testBit j = true → latches (.outputReadback c) 6 ∧ latches (.outputOverload c 0) 0 ∧ latches (.outputOverload c 1) 3) ∧
    (∀ kind : Fin 3, kind.val ≠ 2 → d.driven.testBit j = true → Completes (.outputOverload c kind) s (fun t =>
      (t.die (c.val / 32)).driven = d.driven - 2 ^ j ∧ Table.get none (t.die (c.val / 32)).tripped j = some s.lt ∧
      (t.die (c.val / 32)).hot.testBit j = (decide (kind.val = 1) || d.hot.testBit j)))) ∧
  (∀ g : Fin 64,
    let d := s.die (g.val / 8)
    let i := g.val % 8
    let m := maskOf (d.testedBy i)
    (d.powered = true → (d.word (32 + i)).testBit 0 = true → d.tpOvl.testBit i = false → Completes (.fldTpOverload g) s (fun t =>
      (t.die (g.val / 8)).tpOvl = d.tpOvl ||| 2 ^ i ∧ (t.die (g.val / 8)).level = d.level - (d.level &&& maskOf (d.fedBy i)))) ∧
    (d.powered = true → d.phase = 2 → d.word (32 + i) % 4 = 3 → Table.get none d.windows i = none → Completes (.testPulseStart g) s (fun t =>
      (t.die (g.val / 8)).tpOff = d.tpOff ||| 2 ^ i ∧ (t.die (g.val / 8)).inWindow = d.inWindow ||| m ∧
      Table.get none (t.die (g.val / 8)).windows i = some (t.time.lt, m) ∧
      ∀ j ∈ d.testedBy i, (t.die (g.val / 8)).before.testBit j = d.sample.testBit j)) ∧
    (∀ still t0 w j, Table.get none d.windows i = some (t0, w) → w.testBit j = true → j < 32 → Completes (.testPulseWindowEnd g still) s (fun t =>
      t0 + s.tpWindow ≤ t.time.lt ∧ (d.before.testBit j = true → still.testBit j = true → (Table.get 0 (t.die (g.val / 8)).latch j).testBit 4 = true) ∧
      (t.die (g.val / 8)).tpOff.testBit i = false ∧ (t.die (g.val / 8)).inWindow.testBit j = false ∧
      (t.die (g.val / 8)).tpfail.testBit j = if d.before.testBit j then still.testBit j else d.tpfail.testBit j))) ∧
  (∀ i : Fin 4,
    let m := s.mrst i
    (m.active = true → m.released = true → m.press = none →
      Completes (.mrstPressBegin i) s (fun t => t.mrst i = { m with press := some m.onSince, released := false })) ∧
    (∀ t0, m.press = some t0 → m.active = false → Completes (.mrstPressEnd i) s (fun t => t.mrst i =
      { m with press := none, released := false, accepted := m.accepted || decide (ms 50 ≤ m.offSince - t0 ∧ m.offSince - t0 ≤ sec 3) })) ∧
    (∀ t0, m.press = some t0 → m.active = true → Completes (.fldMrstStuck i) s (fun t => t0 + sec 3 ≤ t.time.lt ∧
      t.mrst i = { m with press := none, stuck := true })) ∧
    (m.active = false → m.press = none → Completes (.mrstReleased i) s (fun t => m.offSince + sec 1 ≤ t.time.lt ∧
      t.mrst i = { m with released := true, stuck := false })))

/-! ### Load switches -/

/-- R376, R379 to R383, R385 to R387: the states of a load switch, its retries, the thermal latch, the clears, and the bank arbiter. -/
def Obligations.LoadSwitchesFollowTheirStates : Prop := ∀ s : State,
  (∀ n : Fin 32,
    let w := s.sw n
    let word := Table.get 0 (s.die (8 + n.val / 8)).words (n.val % 8)
    let on_ := (s.die (8 + n.val / 8)).active = true
    let open_ := on_ ∧ (s.bank (n.val / 8)).contExceeded = false
    let others (t : State) : Prop := ∀ k, k ≠ n.val → t.sw k = s.sw k
    let trips (c : Instr) (rb : Bool) : Prop :=
      (0 < w.left → Completes c s (fun t => others t ∧
        t.sw n = { w with st := .retryWait, short := true, arb := false, limit := false, lastLimit := some s.lt, entered := s.lt, readback := w.readback || rb })) ∧
      (w.left = 0 → Completes c s (fun t => (t.sw n).st = .latchedOff ∧ (t.sw n).short = true ∧ others t))
    (∀ t0, w.onDue = some t0 → Completes (.lsOnDelayEnd n) s (fun t => t0 ≤ t.time.lt ∧ t.sw n = { w with cmd := true, onDue := none } ∧ others t)) ∧
    (w.st = .inrush → Completes (.lsInrushEnd n) s (fun t => w.entered + ms (fieldOf word 18 11) ≤ t.time.lt ∧
      t.sw n = { w with st := .on, entered := t.time.lt, deferrals := 0 } ∧ others t)) ∧
    (w.st = .on → trips (.lsShort n) false ∧ trips (.lsReadback n) true) ∧
    (w.st = .retryWait → w.entered + ms (fieldOf word 10 5) = s.lt ∨ s.lt < w.entered + ms (fieldOf word 10 5) →
      (open_ → Completes (.lsRetry n) s (fun t => t.time.lt = w.entered + ms (fieldOf word 10 5) ∧ (t.sw n).st = .inrush ∧
        (t.sw n).left = w.left - 1 ∧ (t.sw n).entered = t.time.lt ∧ others t)) ∧
      (on_ → ¬open_ → Completes (.lsRetry n) s (fun t => (t.sw n).st = .deferred ∧ (t.sw n).left = w.left ∧ others t)) ∧
      (¬on_ → Completes (.lsRetry n) s (fun t => (t.sw n).st = .off ∧ (t.sw n).left = w.left ∧ others t))) ∧
    (w.st = .deferred → w.heldStart = none → open_ → Completes (.lsRetry n) s (fun t => (t.sw n).st = .inrush ∧ (t.sw n).left = w.left ∧ others t)) ∧
    (w.st = .on → Completes (.lsRetriesReset n) s (fun t => w.entered + sec 1 ≤ t.time.lt ∧ t.sw n = { w with left := fieldOf word 4 1 } ∧ others t)) ∧
    (w.st ≠ .thermal → Completes (.lsThermal n) s (fun t => (t.sw n).st = .thermal ∧ (t.sw n).therm = true ∧ (t.sw n).left = w.left ∧
      (t.sw n).coupled = s.neighbourLimited n ∧ (t.sw n).heldStart = none ∧ others t)) ∧
    (w.st = .thermal →
      (w.dieCmd = false → Completes (.lsThermalRelease n) s (fun t => t.sw n = { w with st := .off } ∧ others t)) ∧
      (w.dieCmd = true → 0 < w.left → open_ → Completes (.lsThermalRelease n) s (fun t => (t.sw n).st = .inrush ∧ (t.sw n).left = w.left - 1 ∧ others t)) ∧
      (w.dieCmd = true → w.left = 0 → Completes (.lsThermalRelease n) s (fun t => (t.sw n).st = .latchedOff ∧ others t))) ∧
    (word.testBit 24 = true → w.st = .on → w.openLoad = false → Completes (.lsOpenLoad n) s (fun t => (t.sw n).openLoad = true ∧ (t.sw n).st = .on ∧
      others t)) ∧
    (∀ m : Fin 6, s.mayAccess m false = true → s.domain (12 + n.val / 8) = true →
      (w.st = .latchedOff → w.dieCmd = false → Completes (.lswClear n m) s (fun t => (t.sw n).st = .off ∧ (t.sw n).left = fieldOf word 4 1 ∧ others t)) ∧
      (w.st = .latchedOff → w.dieCmd = true → open_ → Completes (.lswClear n m) s (fun t => (t.sw n).st = .inrush ∧
        (t.sw n).left = fieldOf word 4 1 ∧ others t)) ∧
      (w.st ≠ .latchedOff → Completes (.lswClear n m) s (fun t => t.sw n = w ∧ others t)) ∧
      Completes (.lswClrDiag n m) s (fun t => t.sw n = w ∧ others t ∧ (t.flink (8 + n.val / 8)).clrDiag = true))) ∧
  (∀ b : Fin 4,
    let others (t : State) (n : Nat) : Prop := ∀ k, k ≠ n → t.sw k = s.sw k
    (∀ n limiting, (∀ k ∈ bankSwitches b, limiting.testBit (k % 8) = true → (s.sw k).st ≠ .on) →
      (s.lastInrush b = some n → (s.sw n).deferrals < 14 → Completes (.lsBankPeak b limiting) s (fun t => (t.sw n).st = .deferred ∧
        (t.sw n).left = (s.sw n).left ∧ (t.sw n).deferrals = (s.sw n).deferrals + 1 ∧ others t n)) ∧
      (s.lastInrush b = some n → 14 ≤ (s.sw n).deferrals → Completes (.lsBankPeak b limiting) s (fun t => (t.sw n).st = .latchedOff ∧ others t n)) ∧
      (s.lastInrush b = none → s.shedChoice b = some n → Completes (.lsBankPeak b limiting) s (fun t => (t.sw n).st = .shed ∧ others t n))) ∧
    (∀ n limiting, n ∈ bankSwitches b → (∀ k ∈ bankSwitches b, (limiting.testBit (k % 8) = true ∧ (s.sw k).st = .on) ↔ k = n) → 0 < (s.sw n).left →
      Completes (.lsBankPeak b limiting) s (fun t => (t.sw n).st = .retryWait ∧ (t.sw n).arb = true ∧ others t n)) ∧
    (∀ avg, 100 < avg → Completes (.lsBankCont b avg) s (fun t => (t.bank b).contExceeded = decide (120 < avg) ∧ t.loads.sw = s.loads.sw)) ∧
    (∀ avg n, avg ≤ 100 → s.nextRestart b = some n → (s.die (8 + b.val)).active = true → (s.bank b).lastStart = 0 ∨ (s.bank b).lastStart + s.swRetryT n ≤ s.lt →
      Completes (.lsBankCont b avg) s (fun t => (t.bank b).contExceeded = false ∧ (t.sw n).st = .inrush ∧ others t n)) ∧
    (∀ n, (s.bank b).contExceeded = true → s.shedChoice b = some n → Completes (.lsContShed b) s (fun t => (t.sw n).st = .shed ∧ others t n ∧
      (t.bank b).lastShed = t.time.lt ∧ (if (s.bank b).lastShed = 0 then (s.bank b).contSince + sec 2 else (s.bank b).lastShed + sec 1) ≤ t.time.lt)) ∧
    (∀ m : Fin 6, s.mayAccess m false = true → s.domain (12 + b.val) = true → Completes (.lswRestart b m) s (fun t =>
      (t.flink (8 + b.val)).phase = (if (s.flink (8 + b.val)).lost then 3 else 1) ∧ (t.flink (8 + b.val)).cfgNext = 0)))

/-! ### Train time -/

/-- R402, R403, R406, R407, R409, R414, R415, R417, R420 to R424, R428: the offset of a Sync, lock, holdover, refused and confirmed jumps, steps,
path changes, peer delay, and the clocks' registers. -/
def Obligations.TrainTimeFollowsItsGrandmaster : Prop := ∀ s : State,
  (∀ (i : Fin 4) b (sub : Fin 4) d, i.val ∈ s.syncPortList → s.trackerOf (byteAt b 4) = some d →
    let p := s.syncPort d i
    let heard := s.modSyncPort d i (fun p => { p with synced := true, lastSync := s.lt, pend := false })
    let offset (t2 t1 c : Int) : Int := t2 - t1 - c - ((s.ptpPort i).mpd : Int) - s.asym i
    let one := offset (s.tt + sub.val : Nat) (ptpStamp b 34) (ptpCorr b)
    (ptpType b = 0 → (byteAt b 6).testBit 1 = false →
      (heard.followedPort d = some i.val → Completes (.ptpSync i b sub) s (fun t => (t.tracker d).offset = one ∧ (t.tracker d).everSync = true ∧
        (t.syncPort d i).lastSync = s.lt)) ∧
      (heard.followedPort d ≠ some i.val → Completes (.ptpSync i b sub) s (fun t => t.time.trackers = s.time.trackers ∧ (t.syncPort d i).lastSync = s.lt)) ∧
      (heard.followedPort d = some i.val → d = s.mainTracker → one.natAbs ≤ s.lockThr → s.lockThr ≤ s.jumpThr → 7 ≤ (s.tracker d).lockRun →
        (s.tracker d).holdStart.isSome = true ∨ (s.tracker d).quality = .free ∨ (s.tracker d).quality = .acquiring →
        Completes (.ptpSync i b sub) s (fun t => t.time.everLocked = true ∧ (t.tracker d).holdStart = none ∧
          (t.tracker d).quality = if (s.ptpPort i).uncomp then .uncompensated else .locked)) ∧
      (heard.followedPort d = some i.val → s.timeMode ≠ 2 → s.time.everLocked = true → s.time.stepPending = none → s.time.jumpPending = false →
        s.jumpThr < one.natAbs → (s.tracker d).holdStart = none → Completes (.ptpSync i b sub) s (fun t => t.time.jumpPending = true ∧
          t.time.jumpFirst = one ∧ t.time.jumpSince = s.lt ∧ (t.tracker d).quality = .holdoverShort ∧ t.time.integ = s.time.integ))) ∧
    (ptpType b = 0 → (byteAt b 6).testBit 1 = true → Completes (.ptpSync i b sub) s (fun t => t.syncPort d i =
      { p with pend := true, pendSeq := beAt b 30 2, pendT2 := (s.tt + sub.val : Nat), pendC := ptpCorr b } ∧ t.time.trackers = s.time.trackers)) ∧
    (ptpType b = 8 → p.pend = true → p.pendSeq = beAt b 30 2 → heard.followedPort d = some i.val → Completes (.ptpFollowUp i b) s (fun t =>
      (t.tracker d).offset = offset p.pendT2 (ptpStamp b 34) (p.pendC + ptpCorr b) ∧ (t.syncPort d i).pend = false)) ∧
    (ptpType b = 11 → p.announced = true → p.steps ≠ beAt b 61 2 ∨ p.parent ≠ beAt b 20 10 → Completes (.ptpAnnounce i b) s (fun t =>
      (t.ptpPort i).settling = true ∧ (t.ptpPort i).settleStart = s.lt ∧ (t.ptpPort i).delays = [])) ∧
    (ptpType b = 11 → p.announced = false ∨ (p.steps = beAt b 61 2 ∧ p.parent = beAt b 20 10) → Completes (.ptpAnnounce i b) s (fun t =>
      t.time.ports = s.time.ports ∧ t.syncPort d i = { p with steps := beAt b 61 2, parent := beAt b 20 10, announced := true, lastAnnounce := s.lt } ∧
      (d = s.mainTracker → t.time.utc = signedOf 16 (beAt b 44 2) ∧ t.time.utcValid = (byteAt b 7).testBit 2)))) ∧
  (∀ (i : Fin 4) b (sub : Fin 4),
    let dropped (c : Instr) : Prop := Completes c s (fun t => t.time = s.time ∧
      Table.get 0 t.cnt.value (164 + i.val) = (Table.get 0 s.cnt.value (164 + i.val) + 1) % 2 ^ 48)
    let p := s.ptpPort i
    let m := divTrunc ((s.tt + sub.val : Nat) - p.reqT1 - ptpCorr b) 2
    (ptpType b ≠ 0 → dropped (.ptpSync i b sub)) ∧ (ptpType b ≠ 8 → dropped (.ptpFollowUp i b)) ∧ (ptpType b ≠ 11 → dropped (.ptpAnnounce i b)) ∧
    (ptpType b ≠ 2 → dropped (.ptpPdelayReq i b)) ∧ (ptpType b ≠ 3 → ptpType b ≠ 10 → dropped (.ptpPdelayResp i b sub)) ∧
    (ptpType b = 2 → i.val ∈ s.ptpPortList → Completes (.ptpPdelayReq i b) s (fun t => t.time = s.time ∧ ∃ r, t.outs = [.ptp i r] ∧ ptpType r = 3)) ∧
    (ptpType b = 3 → (byteAt b 6).testBit 1 = false → i.val ∈ s.ptpPortList → p.waiting = true → beAt b 30 2 = p.reqSeq →
      (p.delays = [] ∨ (m - (p.mpd : Int)).natAbs ≤ s.rf .timePath 0 9 0 → Completes (.ptpPdelayResp i b sub) s (fun t => t.ptpPort i =
        { p with delays := (p.delays ++ [(max m 0).toNat]).drop (p.delays.length + 1 - 8), diffs := 0, waiting := false })) ∧
      (p.delays ≠ [] → s.rf .timePath 0 9 0 < (m - (p.mpd : Int)).natAbs → 1 ≤ p.diffs → Completes (.ptpPdelayResp i b sub) s (fun t =>
        (t.ptpPort i).settling = true ∧ (t.ptpPort i).settleStart = s.lt ∧ (t.ptpPort i).delays = []))) ∧
    (p.settling = true → Completes (.timeSettleEnd i) s (fun t => p.settleStart + ms (10 * s.rf .timePath 0 25 16) ≤ t.time.lt ∧
      (∀ e, s.topoEntry = some e → t.time.topoUsed = e ∧ (t.ptpPort i).settling = false ∧ (t.ptpPort i).uncomp = false ∧ (t.ptpPort i).topo =
        (if i = 0 then signedOf 16 (s.rf .timeTopoAsym e 15 0) else if i = 1 then signedOf 16 (s.rf .timeTopoAsym e 31 16) else 0)) ∧
      (s.topoEntry = none → t.time.topoUsed = 0x3F ∧ t.ptpPort i = { p with settling := false, uncomp := true, topo := 0 })))) ∧
  Completes .ptpPdelaySend s (fun t => ∀ i ∈ s.ptpPortList, (t.ptpPort i).reqSeq = ((s.ptpPort i).reqSeq + 1) % 65536 ∧
    (t.ptpPort i).waiting = true ∧ (t.ptpPort i).reqT1 = (s.tt : Int) ∧ ∃ r, Out.ptp i r ∈ t.outs ∧ ptpType r = 2) ∧
  (s.timeMode = 3 → Completes .ptpSyncSend s (fun t => t.time.syncSeq = s.time.syncSeq + 1 ∧
    ∀ i, i = 2 ∨ i = 3 → ∃ r, Out.ptp i r ∈ t.outs ∧ ptpType r = 0 ∧ byteAt r 4 = s.rf .timeCfg 0 24 18)) ∧
  (∀ d : Fin 2,
    (s.time.everLocked = true → (s.tracker d).holdStart = none → Completes (.timeHoldover d) s (fun t =>
      (t.tracker d).quality = .holdoverShort ∧ (t.tracker d).holdStart = some t.time.lt)) ∧
    (∀ t0, (s.tracker d).holdStart = some t0 → (s.tracker d).holdLong = false → Completes (.timeHoldoverLong d) s (fun t =>
      t0 + sec 2 ≤ t.time.lt ∧ (t.tracker d).quality = .holdoverLong))) ∧
  (s.time.jumpPending = true → s.rf .timeCfg 0 29 28 = 0 → Completes .timeJumpConfirm s (fun t => t.time.jumpPending = false ∧
    t.time.stepPending = some s.jumpMean ∧ s.time.jumpSince + sec (s.rf .timeJump 0 11 0) ≤ t.time.lt)) ∧
  (∀ o, s.time.stepPending = some o → (s.stepBlocked = true → Completes .timeStep s (fun t => t.time = s.time)) ∧
    (s.stepBlocked = false → Completes .timeStep s (fun t => t.time.stepPending = none ∧ t.time.motionNext % 25000 = 0 ∧ t.time.fieldNext % 10000 = 0 ∧
      (t.tt : Int) = max 0 (((s.passToTt (nextMultiple 50000 s.tt)).tt : Int) - o) ∧ t.tt + 25000 ≤ t.time.motionNext ∧ t.time.motionNext < t.tt + 50000 ∧
      t.tt + 10000 ≤ t.time.fieldNext ∧ t.time.fieldNext < t.tt + 20000))) ∧
  (∀ m : Fin 6, s.mayAccess m false = true →
    (s.time.jumpPending = true → Completes (.acceptJump m) s (fun t => t.time.jumpPending = false ∧ t.time.stepPending = some s.jumpMean)) ∧
    (s.time.jumpPending = false → Completes (.acceptJump m) s (fun t => t.time = s.time)) ∧
    Completes (.acceptPath m) s (fun t => ∀ i < 4, t.ptpPort i = { s.ptpPort i with uncomp := false })) ∧
  (∀ m : Fin 6, s.mayAccess m true = true → Completes (.timeTtRead m) s (fun t => t.time.ttHiCap = s.tt / 2 ^ 32 ∧
    t.time.ltCap = s.lt - s.time.ltBase ∧ t.outs = [.readWord 0x40200210 (s.tt % 2 ^ 32)])) ∧
  (s.quality = .locked → Completes .rtcSet s (fun t => t.bk.rtcValid = true ∧ t.bk.rtc = t.tt / 1000000000 % 2 ^ 48 ∧ s.time.lt ≤ t.time.lt))

/-! ### Ethernet switch -/

/-- R437, R438, R440 to R442, R444 to R448, R450, R452 to R456: reception and its discards, metering, admission to the buffer, transmission, gates,
PAUSE, links, and what the tables of the switch forget. -/
def Obligations.SwitchForwardsAndTransmits : Prop := ∀ s : State,
  (∀ (i : Fin 5) b (cls : Fin 4), s.portUp i = true →
    let p := parseFrame b
    let len := b.length + 4
    let drops (c : Instr) (cause : Nat) : Prop := Completes c s (fun t => t.net = s.net ∧
      Table.get 0 t.cnt.value (168 + i.val) = (Table.get 0 s.cnt.value (168 + i.val) + 1) % 2 ^ 48 ∧
      Table.get 0 t.cnt.value (178 + 8 * i.val + (cause - 1)) = (Table.get 0 s.cnt.value (178 + 8 * i.val + (cause - 1)) + 1) % 2 ^ 48)
    (drops (.frameReceive i b false cls) 1) ∧
    (len < 64 → drops (.frameReceive i b true cls) 1) ∧
    (1528 < len → drops (.frameReceive i b true cls) 3) ∧
    (∀ tci, 64 ≤ len → len ≤ 1528 → p.tci = some tci → tci % 4096 ≠ 0 → p.hsr = none → 0x0600 ≤ beAt p.body 0 2 →
      (i.val ≠ 4 → s.vlanMember (tci % 4096) i = false → drops (.frameReceive i b true cls) 2) ∧
      (∀ k, i.val < 4 → s.vlanMember (tci % 4096) i = true → beAt p.body 0 2 ≠ 0x8808 → beAt p.body 0 2 ≠ 0x88F7 → beAt p.body 0 2 ≠ 0x88FB →
        s.classOf (tci / 8192) (beAt p.body 0 2) = 0 → s.filterOf i p.da (tci % 4096) = some k →
        (fld (s.reg .netSfSdu i k) 10 0 < len ∨ 200000 * fld (s.reg .netSfMeter i k) 31 16 < s.spentNow i k + 200000 * len →
          drops (.frameReceive i b true cls) 4) ∧
        (len ≤ fld (s.reg .netSfSdu i k) 10 0 → s.spentNow i k + 200000 * len ≤ 200000 * fld (s.reg .netSfMeter i k) 31 16 →
          Completes (.frameReceive i b true cls) s (fun t => Table.get 0 (t.port i).spent k = s.spentNow i k + 200000 * len ∧
            Table.get 0 (t.port i).spentAt k = s.lt))) ∧
      (∀ q c, i.val = 4 → s.hsrOn = false → beAt p.body 0 2 ≠ 0x8808 → beAt p.body 0 2 ≠ 0x88F7 →
        let s0 := (s.count 172).learn_ (tci % 4096) p.sa 4
        s0.dests (tci % 4096) p.da 4 = [q] →
        (s0.admitFrame (frameOf p (tci % 4096) (tci / 8192) len 4 cls s.lt) q).2 = some c → Completes (.frameReceive i b true cls) s (fun t =>
          t.netQueue q cls = s.netQueue q cls ++ [s.net.nextId] ∧ t.net.nextId = s.net.nextId + 1 ∧ ∃ f ∈ t.net.frames, f.id = s.net.nextId ∧
          f.ports = [q] ∧ f.charges = [c] ∧ f.body = p.body)))) ∧
  (∀ (f : NetFrame) p,
    (f.cls = 0 → ((s.admitFrame f p).2 = some (p, cellsOf f.len, 0) ↔ s.reserveUsed + cellsOf f.len ≤ 1024 ∧ s.aHeld p < s.aDepth p)) ∧
    (f.cls ≠ 0 → (s.rf .netLowMax 0 10 0 < f.len ∧ s.rb .netPCfg p 3 = true) ∨
      (s.rb .netPGclCfg p 0 = true ∧ s.everFits p f.cls (s.txTicks p f.len) = false) → (s.admitFrame f p).2 = none) ∧
    (∀ m sh, (s.admitFrame f p).2 = some (p, m, sh) → m + sh = cellsOf f.len)) ∧
  (∀ p : Fin 5,
    let q := s.port p
    (s.mayStart p 0 = true ↔ ∃ id rest f, s.netQueue p 0 = id :: rest ∧ s.frame? id = some f) ∧
    (∀ c id rest f, s.portUp p = true → q.sending = none → [0, 1, 2, 3].find? ((s.syncCredit p).mayStart p) = some c → s.netQueue p c = id :: rest →
      s.frame? id = some f → Completes (.frameTransmitStart p) s (fun t => (t.port p).sending = some ⟨id, c, f.len, s.lt + s.txTicks p f.len⟩ ∧
        t.netQueue p c = rest ∧ t.outs = [.netFrame p (s.egressBytes p (s.correctSync f))] ∧ t.net.frames = s.net.frames)) ∧
    (∀ x, q.sending = some x → Completes (.frameTransmitEnd p) s (fun t => x.ends ≤ t.time.lt ∧ (t.port p).sending = none ∧
      (∀ f ∈ t.net.frames, f.id = x.id → p.val ∉ f.ports) ∧ ∀ f ∈ s.net.frames, f.id ≠ x.id → f ∈ t.net.frames)) ∧
    (s.rb .netPGclCfg p 0 = true → s.tt / s.gclCycle p * s.gclCycle p ≤ q.gateStart → q.gateStart ≤ s.tt →
      (q.gateEntry + 1 < s.gclLen p → Completes (.gclEntry p) s (fun t => (t.port p).gateEntry = q.gateEntry + 1 ∧
        (t.port p).gates = (s.gclEntry p (q.gateEntry + 1)).1 ∧ (t.port p).gateStart = q.gateStart + (s.gclEntry p q.gateEntry).2)) ∧
      (s.gclLen p ≤ q.gateEntry + 1 → Completes (.gclEntry p) s (fun t => (t.port p).gateEntry = 0 ∧ (t.port p).gates = (s.gclEntry p 0).1 ∧
        (t.port p).gateStart % s.gclCycle p = 0)))) ∧
  (∀ i : Fin 4,
    let q := s.port i
    (∀ time : Fin 65536,
      ((i = 2 ∨ i = 3) ∧ s.rb .netPCfg i 5 = true → q.sending = none → Completes (.pauseReceive i time) s (fun t =>
        t.port i = { q with pausedUntil := if time.val = 0 then none else some (s.lt + 64 * s.byteTicks i * time.val) })) ∧
      (¬((i = 2 ∨ i = 3) ∧ s.rb .netPCfg i 5 = true) → Completes (.pauseReceive i time) s (fun t => t.net = s.net))) ∧
    (∀ t0, q.pausedUntil = some t0 → Completes (.pauseExpire i) s (fun t => t0 ≤ t.time.lt ∧ t.port i = { q with pausedUntil := none })) ∧
    (q.xoff = true → Completes (.pauseRepeat i) s (fun t => q.pauseSent + ms 16 ≤ t.time.lt ∧ t.port i = { q with pauseSent := t.time.lt } ∧
      t.outs = [.netFrame i (pauseFrame 0xFFFF)])) ∧
    (∀ fast, s.rb .netCfg 0 0 = true → s.rb .netPCfg i 0 = true → s.rf .netPCfg i 2 1 = 0 → Completes (.netLinkUp i fast) s (fun t =>
      (t.port i).link = (if fast then 2 else 1) ∧ (t.port i).aSlow = (!fast && s.rb .netPCfg i 3))) ∧
    (q.link ≠ 0 → Completes (.netLinkDown i) s (fun t => t.port i = { q with link := 0, aSlow := false }))) ∧
  (s.hsrOn = true → Completes .hsrSupervisionSend s (fun t => t.net.hsrSeq = (s.net.hsrSeq + 1) % 65536 ∧ t.net.supSeq = (s.net.supSeq + 1) % 65536 ∧
    ∀ p < 2, s.portUp p = true → Table.get none s.net.supSent p = none → Table.get none t.net.supSent p = some s.lt)) ∧
  (∀ (p : Fin 2) t0, Table.get none s.net.supSent p = some t0 → Completes (.netRingOpen p) s (fun t => t0 + sec 4 ≤ t.time.lt ∧ t.net.ringOpen = true)) ∧
  (∀ e rest, s.net.macs = e :: rest → Completes .macAge s (fun t => e.seen + sec (10 * s.rf .netCfg 0 15 8) ≤ t.time.lt ∧ t.net.macs = rest)) ∧
  (∀ e rest, s.net.proxies = e :: rest → Completes .proxyAge s (fun t => e.seen + sec 60 ≤ t.time.lt ∧ t.net.proxies = rest)) ∧
  (∀ e rest, s.net.dups = e :: rest → Completes .hsrDuplicateForget s (fun t => e.at_ + ms 400 ≤ t.time.lt ∧ t.net.dups = rest))

/-! ### Train network and safe transfer -/

/-- R469, R470, R472, R474 to R477, R479, R481, R484, R486 to R488, R536: what the device answers and discards, the directory, the cyclic
publications, and the release of a partner. -/
def Obligations.TrainNetworkFollowsTheDirectory : Prop := ∀ s : State,
  (∀ target, s.netStarted = true → s.holdsIp target = true → Completes (.arpRequest target) s (fun t => t.outs = [.arp target false])) ∧
  (∀ target, s.holdsIp target = false → Completes (.arpRequest target) s (fun t => t.outs = [])) ∧
  (∀ src dst data, s.standby = true → Completes (.icmpEcho src dst data) s (fun t => t.outs = [])) ∧
  (∀ src dst data, s.netStarted = true → s.holdsIp dst = true → s.standby = false →
    (data.length ≤ 128 → Completes (.icmpEcho src dst data) s (fun t => t.outs = [.icmp src data])) ∧
    (128 < data.length → Completes (.icmpEcho src dst data) s (fun t => t.outs = []))) ∧
  (s.netStarted = true → Completes (.datagramDiscard none) s (fun t => t.outs = [] ∧ t.trdp = s.trdp ∧
    Table.get 0 t.cnt.value 226 = (Table.get 0 s.cnt.value 226 + 1) % 2 ^ 48)) ∧
  (∀ t, (s.trdpRx t).2 ≠ none → s.holdsIp t.dst = true ∧ t.fcsOk = true ∧ t.dsLen ≠ 0xFFFFFFFF ∧ t.dsLen ≤ t.data.length ∧ s.topoOk t = true ∧
    s.standbyTakes t (t.comId - s.comId 0) = true ∧ offsetType (t.comId - s.comId 0) = some t.type) ∧
  (∀ t, s.trdpOn = true → s.holdsIp t.dst = true → t.fcsOk = true → t.data.length < t.dsLen → Completes (.datagramDiscard (some t)) s (fun u =>
    u.outs = [] ∧ u.trdp = s.trdp ∧ Table.get 0 u.cnt.value 227 = (Table.get 0 s.cnt.value 227 + 1) % 2 ^ 48)) ∧
  (s.trdp.garpLeft ≠ 0 → Completes .gratuitousArp s (fun t => s.trdp.garpNext ≤ t.time.lt ∧ t.trdp.garpLeft = s.trdp.garpLeft - 1 ∧
    t.outs = [.arp (s.reg .trdpVehIp).toNat true])) ∧
  (∀ etb op veh cst, s.readsDirectory = true →
    Completes (.ttdbDirectory etb op veh cst) s (fun t => t.trdp.dirValid = true ∧ t.trdp.orientKnown = true ∧ t.trdp.etbTopo = etb ∧ t.trdp.opTopo = op ∧
      t.trdp.orient = ((veh != cst) != decide (s.sys.end1 = 1)) ∧ t.trdp.request = none ∧
      (etb ≠ s.trdp.etbTopo → (∀ c ∈ s.enabledConns, trainIp (s.connIp c) = true → (t.conn c).st = .closed) ∧
        ∀ k < 128, s.partnerDynamic k = true → trainIp (s.partnerIp k) = true → t.partnerIp k = 0))) ∧
  (∀ etb op, s.readsDirectory = true → s.trdp.dirValid = false ∨ etb ≠ s.trdp.etbTopo ∨ op ≠ s.trdp.opTopo → Completes (.ttdbAnnounce etb op) s (fun t =>
    t.trdp.dirValid = false ∧ t.trdp.orientKnown = false ∧ t.trdp.request = some s.lt ∧ t.outs = [.directoryRequest])) ∧
  (∀ t0, s.trdp.request = some t0 → s.readsDirectory = true → Completes .trdpDirectoryFail s (fun t => t.trdp.failed = true ∧
    t0 + (if s.trdp.failed then sec 1 else sec 5) ≤ t.time.lt ∧ t.trdp.request = some t.time.lt ∧ t.outs = [.directoryRequest])) ∧
  (s.trdpOn = true →
    Completes .publishDevStatus s (fun t => t.outs = [.telegram 0 publishIp 0 0 s.devStatus]) ∧
    (s.standby = false → Completes .publishPortalState s (fun t =>
      t.outs = [.telegram 1 publishIp 0 0 ((List.range 16).flatMap (fun p => beBytes 4 (s.portalState p).toNat))])) ∧
    Completes .publishHealth s (fun t => t.outs = [.telegram 2 publishIp 0 0 s.health])) ∧
  (∀ k : Fin 128, s.partnerDynamic k = true → s.partnerIp k ≠ 0 → s.connsOf (s.partnerIp k) = [] → (∀ t ∈ s.trdp.streams, t.ip ≠ s.partnerIp k) →
    (∀ i ∈ s.slotsInOrder, (s.slot i).src ≠ k.val) → Completes (.partnerRemoved k) s (fun t => t.partnerIp k = 0 ∧ t.trdp.partnerFull = false ∧
      (Table.get {} s.trdp.partners k.val).heard + sec (10 * s.rf .trdpCfg 0 15 8) ≤ t.time.lt))

/-- R495, R496 to R503: what an accepted message has passed, how a connection opens, takes data, re-keys, sends, times out and closes. -/
def Obligations.ConnectionsFollowTheirTable : Prop := ∀ s : State,
  (∀ t ty c m, (s.stlCheck t ty).2 = some (c, m) →
    let q := s.conn c
    m.type = ty ∧ c ∈ s.enabledConns ∧ crc32c (m.body ++ m.auth) = m.chkA ∧ chkB (m.body ++ m.auth) = m.chkB ∧ s.connId c = m.conn ∧
    (s.reg .stlDst c).toNat = m.src ∧ (s.reg .stlSrc c).toNat = m.dst ∧ (s.ageOk c m).1 = true ∧
    (ty = 1 → m.payload ∉ q.seen) ∧ (ty = 2 → q.st = .opening ∧ m.payload.drop 16 = q.nonceI) ∧
    (ty ≠ 1 → ty ≠ 2 → (q.st = .open_ ∨ q.st = .rekeying) ∧ ∃ key last old, s.sessionOf c m = some (key, last, old) ∧ tag16 key m.body = m.auth ∧
      last < m.seq ∧ m.seq ≤ last + s.rf .stlTim c 31 24)) ∧
  (∀ t c m k, (s.stlCheck t 1).2 = some (c, m) → s.sc.rngFail = false → s.connKey c = some k → Completes (.stlOpenReq t) s (fun u =>
    ∃ nR, let ss := s.stlDerive c k m.payload nR
      if badSession ss.num then (u.conn c).st = (s.conn c).st
      else (u.conn c).st = .open_ ∧ (u.conn c).cur = ss ∧ (u.conn c).old = none ∧ (u.conn c).ip = t.src)) ∧
  (∀ t c m k, (s.stlCheck t 2).2 = some (c, m) → s.connKey c = some k → Completes (.stlOpenAck t) s (fun u =>
    let ss := s.stlDerive c k (s.conn c).nonceI (m.payload.take 16)
    if badSession ss.num then (u.conn c).st = .opening else (u.conn c).st = .open_ ∧ (u.conn c).cur = ss)) ∧
  (∀ t c m, (s.stlCheck t 4).2 = some (c, m) → (s.conn c).initiator = false ∨ (s.reg .stlDst c).toNat < (s.reg .stlSrc c).toNat →
    Completes (.stlRekeyReq t) s (fun u => (u.conn c).st = .rekeying ∧ (u.conn c).pendAck = true ∧ (u.conn c).initiator = false ∧
      (u.conn c).nonceI = m.payload)) ∧
  (∀ t c m k, (s.stlCheck t 5).2 = some (c, m) → s.connKey c = some k → (s.conn c).initiator = true → m.payload.drop 16 = (s.conn c).nonceI →
    Completes (.stlRekeyAck t) s (fun u => (u.conn c).initiator = false ∧
      let ss := s.stlDerive c k (s.conn c).nonceI (m.payload.take 16)
      if badSession ss.num then (u.conn c).st = .open_ ∧ (u.conn c).cur = (s.conn c).cur else (u.conn c).cur = ss ∧ (u.conn c).old.isSome = true)) ∧
  (∀ t c m, (s.stlCheck t 6).2 = some (c, m) → Completes (.stlClose t) s (fun u => (u.conn c).st = .closed)) ∧
  (∀ t ok c m l, (s.stlCheck t 3).2 = some (c, m) → stlRecords 257 m.payload = .ok l →
    ((∀ e ∈ l, e.1 ≠ 1) → Completes (.stlData t ok) s (fun u => (u.conn c).lastOk = s.lt ∧ u.sc = s.sc ∧
      (m.session = (s.conn c).cur.num → (u.conn c).cur.seqRx = m.seq ∧ (u.conn c).old = none))) ∧
    (∀ b, l = [(1, b)] → Completes (.stlData t ok) s (fun u => ∃ x : State, x.sc = s.sc ∧ x.portals = s.portals ∧ x.seq = s.seq ∧
      u = x.secCommand (some c) b ok))) ∧
  (∀ c : Fin 64,
    let q := s.conn c
    let running := s.trdpOn = true ∧ s.connEn c = true ∧ s.standby = false
    let next := q.cur.seqTx + 1
    (running → q.st = .open_ ∨ q.st = .rekeying →
      (next < 0xFFFFFFF0 → q.pendAck = false → Completes (.stlCycleSend c) s (fun u => (u.conn c).cur.seqTx = next ∧ (u.conn c).st = q.st ∧
        (∀ t0, q.lastTx = some t0 → t0 + ms (s.rf .stlTim c 9 0) ≤ u.time.lt) ∧
        (s.sys.twinRole = 0 → ∃ etb op msg, u.outs = [.telegram 10 (s.connIp c) etb op msg] ∧ byteAt msg 1 = 3))) ∧
      (0xFFFFFFFF ≤ next → Completes (.stlCycleSend c) s (fun u => (u.conn c).st = .closed))) ∧
    (running → q.st = .open_ → 0xFFFFFFF0 ≤ next → next < 0xFFFFFFFF → q.pendAck = false → s.sc.rngFail = false →
      Completes (.stlCycleSend c) s (fun u => (u.conn c).st = .rekeying ∧ (u.conn c).initiator = true ∧ (u.conn c).cur.seqTx = next)) ∧
    (running → q.st = .closed → s.rb .stlCfg c 1 = false → q.cmdClosed = false → s.sc.rngFail = false →
      Completes (.stlCycleSend c) s (fun u => (u.conn c).st = .opening)) ∧
    (running → q.st = .open_ ∨ q.st = .rekeying → Completes (.stlTimeout c) s (fun u => (u.conn c).st = .failed ∧
      q.lastOk + ms (s.rf .stlTim c 23 10) ≤ u.time.lt ∧ ∀ i ∈ s.slotsInOrder,
        if permissive (s.slot i).action = true ∧ (s.slot i).conn = c.val then (u.slot i).state = 0 else u.slot i = s.slot i)) ∧
    (running → q.st = .opening → Completes (.stlTimeout c) s (fun u => (u.conn c).st = .failed ∧ q.entered + ms (s.rf .stlTim c 23 10) ≤ u.time.lt)) ∧
    (q.st = .failed → s.standby = false →
      (s.rb .stlCfg c 1 = true → Completes (.stlFailedRetry c) s (fun u => (u.conn c).st = .closed ∧ q.entered + sec 1 ≤ u.time.lt)) ∧
      (s.rb .stlCfg c 1 = false → s.sc.rngFail = false → Completes (.stlFailedRetry c) s (fun u => (u.conn c).st = .opening ∧
        q.entered + sec 1 ≤ u.time.lt))) ∧
    (∀ m : Fin 6, s.mayAccess m false = true → s.domain 6 = true → s.trdpOn = true → s.connEn c = true →
      (q.st = .closed → s.sc.rngFail = false → Completes (.stlCmdOpen c m) s (fun u => (u.conn c).st = .opening)) ∧
      (q.st ≠ .closed → Completes (.stlCmdOpen c m) s (fun u => u.conn c = q)) ∧
      (q.st ≠ .closed → Completes (.stlCmdClose c m) s (fun u => (u.conn c).st = .closed ∧ (u.conn c).cmdClosed = true))))

/-- R481, R489 to R491: streams open, deliver in order, acknowledge, resend and close. -/
def Obligations.StreamsDeliverInOrder : Prop := ∀ s : State,
  (∀ t d, (s.streamRx t 1).2 = some d → (s.partnerOf t.src).isSome = true ∨ (∃ k < 128, s.partnerIp k = 0) → s.stream? t.src (beAt d 0 2) true = none →
    (s.trdp.streams.length < 32 → Completes (.streamOpen t) s (fun u =>
      u.trdp.streams = s.trdp.streams ++ [{ ip := t.src, num := beAt d 0 2, inbound := true }])) ∧
    (32 ≤ s.trdp.streams.length → Completes (.streamOpen t) s (fun u => u.trdp.streams = s.trdp.streams ∧
      ∃ etb op, .telegram 30 t.src etb op (streamMsg (beAt d 0 2) 4 1 0 0 0 []) ∈ u.outs))) ∧
  (∀ t d st, (s.streamRx t 2).2 = some d → s.stream? t.src (beAt d 0 2) true = some st →
    let seq := beAt d 4 4
    let now (u : State) := u.stream? t.src (beAt d 0 2) true
    (seq = st.delivered + 1 → seq < 0xFFFFFFFF → st.early = [] → Completes (.streamData t) s (fun u => (∃ q, now u = some q ∧ q.delivered = seq ∧ q.early = [] ∧
      q.ackSince.isSome = true) ∧ .deliver t.src (beAt d 0 2) (d.drop 16) ∈ u.outs)) ∧
    (seq ≤ st.delivered → Completes (.streamData t) s (fun u => (∃ q, now u = some q ∧ q.delivered = st.delivered ∧ q.early = st.early) ∧ u.outs = [])) ∧
    (st.delivered + 1 < seq → seq < 0xFFFFFFFF → (∀ e ∈ st.early, e.1 ≠ seq ∧ e.1 ≠ st.delivered + 1) →
      (st.early.length < 64 → Completes (.streamData t) s (fun u => (∃ q, now u = some q ∧ q.delivered = st.delivered ∧
        q.early = st.early ++ [(seq, s.lt, d.drop 16)]) ∧ u.outs = [])) ∧
      (64 ≤ st.early.length → Completes (.streamData t) s (fun u => (∃ q, now u = some q ∧ q.early = st.early) ∧ u.outs = [])))) ∧
  (∀ t d st, (s.streamRx t 3).2 = some d → s.stream? t.src (beAt d 0 2) false = some st → st.upNext ≤ st.upEnd → Completes (.streamAck t) s (fun u =>
    ∃ q, u.stream? t.src (beAt d 0 2) false = some q ∧ ∀ x ∈ q.unacked, x ∈ st.unacked ∧ beAt d 8 4 < x.seq)) ∧
  (∀ t d, (s.streamRx t 4).2 = some d → (s.stream? t.src (beAt d 0 2) true).isSome = true → Completes (.streamClose t) s (fun u =>
    u.stream? t.src (beAt d 0 2) true = none)) ∧
  (∀ (k : Fin 32) st, s.trdp.streams[k.val]? = some st → s.stream? st.ip st.num st.inbound = some st →
    let now (u : State) := u.stream? st.ip st.num st.inbound
    let sends (u : State) (msg : List Byte) : Prop := ∃ etb op, .telegram 30 st.ip etb op msg ∈ u.outs
    (st.inbound = true → st.ackSince.isSome = true → Completes (.streamAckSend k) s (fun u => now u = some { st with ackSince := none } ∧
      (s.sys.twinRole = 0 → sends u (streamMsg st.num 3 0 0 st.delivered st.bitmap [])))) ∧
    (st.inbound = false → st.upKind ≠ 0 → st.upNext ≤ st.upEnd → st.unacked.length < 256 →
      (st.nextSeq = 0xFFFFFFFF → Completes (.streamSend k) s (fun u => now u = none ∧ sends u (streamMsg st.num 4 5 0 0 0 []))) ∧
      (st.nextSeq ≠ 0xFFFFFFFF → (s.uploadNext st).1 ≠ [] → Completes (.streamSend k) s (fun u =>
        now u = some { st with upNext := (s.uploadNext st).2, nextSeq := st.nextSeq + 1, unacked := st.unacked ++ [⟨st.nextSeq, (s.uploadNext st).1, s.lt, 0⟩] } ∧
        sends u (streamMsg st.num 2 0 st.nextSeq 0 0 (s.uploadNext st).1)))) ∧
    (∀ x, st.unacked = [x] →
      (s.rf .trdpStream 0 15 8 ≤ x.tries → Completes (.streamRetransmit k) s (fun u => now u = none ∧ sends u (streamMsg st.num 4 3 0 0 0 []))) ∧
      (x.tries < s.rf .trdpStream 0 15 8 → Completes (.streamRetransmit k) s (fun u => x.sent + ms (s.rf .trdpStream 0 7 0) ≤ u.time.lt ∧
        now u = some { st with unacked := [{ x with sent := u.time.lt, tries := x.tries + 1 }] } ∧ sends u (streamMsg st.num 2 0 x.seq 0 0 x.payload)))) ∧
    (∀ e, st.early = [e] → Completes (.streamGapTimeout k) s (fun u => e.2.1 + ms (s.rf .trdpStream 0 31 16) ≤ u.time.lt ∧ now u = none ∧
      sends u (streamMsg st.num 4 2 0 0 0 []))))

/-! ### Twin operation -/

/-- R518, R519, R521, R523, R525, R526: heartbeats go out and come in, paths and the mate are found silent, and the mirror is applied, acknowledged,
confirmed and resent. -/
def Obligations.TwinHeartbeatsAndMirror : Prop := ∀ s : State,
  let intact (b : List Byte) : Prop := b.length = 36 ∧ byteAt b 0 = 1 ∧ beAt b 32 4 = crc32c (b.take 32)
  let heard (t : State) (b : List Byte) : Prop := t.twin.silent = false ∧ ∃ m, t.twin.beat = some m ∧ m.flags = byteAt b 1 ∧ m.cause = byteAt b 28 ∧
    m.version = beAt b 12 4 ∧ m.pcrc = beAt b 16 4 ∧ m.mack = beAt b 20 4 ∧ m.links = beAt b 24 4 ∧ m.at_ = s.lt
  (∀ lane : Fin 2, s.inTwin = true → Completes (.kazukHeartbeatSend lane) s (fun t => t.twin.kzSeq = (s.twin.kzSeq + 1) % 65536 ∧
    ∃ b, t.outs = [.heartbeat lane b] ∧ intact b ∧ beAt b 2 2 = s.twin.kzSeq % 65536 ∧ (byteAt b 1).testBit 0 = s.holder ∧
      (byteAt b 1).testBit 1 = s.twin.releasing.isSome ∧ (byteAt b 1).testBit 2 = s.eligible)) ∧
  (∀ k, s.inTwin = true → s.trdpOn = true → s.beatKey = some k → Completes .netHeartbeatSend s (fun t => t.twin.netSeq = (s.twin.netSeq + 1) % 65536 ∧
    ∃ etb op b, t.outs = [.telegram 3 s.mateIp etb op (b ++ tag16 k b)] ∧ intact (b.take 36) ∧ beAt b 2 2 = s.twin.netSeq % 65536 ∧
      (s.twin.fallback = false → b.length = 36))) ∧
  (∀ (lane : Fin 2) b low, s.inTwin = true → s.twin.held = [] →
    (intact b → Completes (.kazukHeartbeat lane b low) s (fun t => heard t b ∧ t.twin.kzUp = true ∧ t.twin.fallback = false ∧ t.twin.lineLow = low ∧
      (if lane = 0 then t.twin.kz0 = some s.lt else t.twin.kz1 = some s.lt))) ∧
    (¬ intact b → Completes (.kazukHeartbeat lane b low) s (fun t => t.twin.beat = s.twin.beat ∧ t.twin.kz0 = s.twin.kz0 ∧ t.twin.kz1 = s.twin.kz1 ∧
      Table.get 0 t.cnt.value 278 = (Table.get 0 s.cnt.value 278 + 1) % 2 ^ 48))) ∧
  (∀ t b k low, (s.trdpRx t).2 = some (3, b ++ tag16 k b) → s.inTwin = true → s.twin.held = [] → t.src = s.mateIp → s.beatKey = some k →
    b.length = 36 → byteAt b 0 = 1 →
    ((∀ l, s.twin.netRx = some l → 1 ≤ (beAt b 2 2 + 65536 - l) % 65536 ∧ (beAt b 2 2 + 65536 - l) % 65536 ≤ 32767) →
      Completes (.netHeartbeat t low) s (fun u => heard u b ∧ u.twin.netRx = some (beAt b 2 2) ∧ u.twin.netUp = true ∧ u.twin.net = some s.lt)) ∧
    (∀ l, s.twin.netRx = some l → (beAt b 2 2 + 65536 - l) % 65536 = 0 ∨ 32767 < (beAt b 2 2 + 65536 - l) % 65536 →
      Completes (.netHeartbeat t low) s (fun u => u.twin.beat = s.twin.beat ∧ u.twin.netRx = some l ∧ u.twin.net = s.twin.net))) ∧
  (s.twin.kzUp = true → Completes (.twinPathDown false) s (fun t => t.twin.kzUp = false ∧ t.twin.fallback = (s.twin.fallback || s.twin.netUp) ∧
    (∀ t0, s.twin.kz0 = some t0 → t0 + us 300 ≤ t.time.lt) ∧ ∀ t0, s.twin.kz1 = some t0 → t0 + us 300 ≤ t.time.lt)) ∧
  (∀ t0, s.twin.net = some t0 → s.twin.netUp = true → Completes (.twinPathDown true) s (fun t => t.twin.netUp = false ∧ t.twin.fallback = false ∧
    t0 + ms 3 ≤ t.time.lt)) ∧
  (s.inTwin = true → s.twin.held = [] → Completes .mateSilent s (fun t => t.twin.silent = true ∧ t.twin.synced = false ∧ t.twin.driving = s.twin.driving ∧
    (∀ b, s.twin.beat = some b → b.at_ + s.takeoverT ≤ t.time.lt) ∧ (s.holder = true → t.twin.mateLost = true) ∧
    (s.holder = false → t.twin.stayNoted = (s.twin.stayNoted || s.twin.lineLow)))) ∧
  (∀ b m items, mirrorParse b = some (m, items) → s.inTwin = true → s.standby = true →
    (m = (s.twin.applied + 1) % 2 ^ 32 → Completes (.mirrorFrame b) s (fun t => t.twin.applied = m ∧ (∃ lane, t.outs = [.mirror lane (ackFrame m)]) ∧
      (∀ (k : Fin 16) n, n < 2 ^ 64 → items = [(3, beBytes 1 k ++ beBytes 8 n)] → t.counterOf k = max (s.counterOf k) n) ∧
      (∀ (p : Fin 16) n, n < 2 ^ 40 → items = [(9, beBytes 1 p ++ beBytes 5 n)] → (t.portal p).cycles = max (s.portal p).cycles n) ∧
      (∀ (n : Fin 64) w, w < 2 ^ 48 → items = [(10, beBytes 1 n ++ beBytes 6 w)] → 0 < w →
        Table.get none t.ilk.btPass n = some (max ((Table.get none s.ilk.btPass n).getD 0) w)))) ∧
    (m ≠ (s.twin.applied + 1) % 2 ^ 32 → Completes (.mirrorFrame b) s (fun t => t.twin = s.twin ∧ t.outs = [] ∧ t.portals = s.portals ∧ t.sc = s.sc))) ∧
  (∀ b, mirrorParse b = none → s.inTwin = true → s.standby = true → Completes (.mirrorFrame b) s (fun t => t.twin = s.twin ∧
    Table.get 0 t.cnt.value 278 = (Table.get 0 s.cnt.value 278 + 1) % 2 ^ 48)) ∧
  (∀ f off ip msg, s.inTwin = true → s.twin.unacked = [f] → f.mseq < 2 ^ 32 → newer f.mseq s.twin.confirmed = true →
    s.twin.held = [(f.mseq, .stl off ip msg)] → Completes (.mirrorAck (ackFrame f.mseq)) s (fun t => t.twin.confirmed = f.mseq ∧ t.twin.unacked = [] ∧
      t.twin.held = [] ∧ ∃ etb op, t.outs = [.telegram off ip etb op msg])) ∧
  (∀ f fs, s.twin.unacked = f :: fs → s.twin.fallback = false → Completes .mirrorResend s (fun t => f.sent + us 50 ≤ t.time.lt ∧
    t.twin.unacked = (f :: fs).map (fun g => { g with sent := t.time.lt }) ∧
    t.outs = (f :: fs).map (fun g => .mirror t.mirrorLane (mirrorFrameBytes g.mseq g.items)))) ∧
  (∀ next cnts cycles passes, s.inTwin = true → s.twin.syncStart.isSome = true → s.twin.silent = false →
    Completes (.twinSynced next cnts cycles passes) s (fun t => t.rcd.nextAcc = max s.rcd.nextAcc next ∧ t.twin.synced = (s.standby || s.twin.synced) ∧
      (∀ c, cnts = [c] → t.counterOf 0 = max (s.counterOf 0) c) ∧ ∀ c, cycles = [c] → (t.portal 0).cycles = max (s.portal 0).cycles c))

/-- R517, R520 to R522, R528 to R530, R532, R533, R535: when a claim is granted and what a takeover does, why and how OWN_N is released, and the
self-tests of the standby. -/
def Obligations.OwnershipFollowsItsLine : Prop := ∀ s : State,
  (s.twin.driving = false → s.twin.lineLow = true → s.twin.highSince = none → Completes .ownNHigh s (fun t =>
    t.twin = { s.twin with lineLow := false, mateLow := false, highSince := some s.lt })) ∧
  (∀ high, s.claimReady = true → s.twin.highSince = some high → Completes .twinClaim s (fun t =>
    high + (if s.sys.twinRole = 1 then us 20 else us 60) ≤ t.time.lt ∧ t.twin.driving = true ∧ t.twin.lineLow = true ∧
    t.twin.lastCause = (if s.twin.silent then (if s.twin.beat.isSome then 3 else 1) else s.twin.claimCause) ∧
    (s.syncTakeover high = true → t.rcd.nextAcc = s.rcd.nextAcc + 64 ∧ ∀ p, (t.portal p).st = (s.portal p).st) ∧
    (∀ b, s.twin.beat = some b → s.syncTakeover high = false → s.rcd.nextAcc + 64 ≤ t.rcd.nextAcc ∧ t.trdp.streams = [] ∧
      ∀ c ∈ s.enabledConns, (t.conn c).st = .closed))) ∧
  (s.claimReady = false → Completes .twinClaim s (fun t => t.twin = s.twin ∧ t.time = s.time)) ∧
  (∀ c, s.inTwin = true → s.holder = true → s.twin.releasing = none → s.mateEligible = true → s.faultCause = some c →
    Completes .releaseAnnounce s (fun t => t.twin.releasing = some (c, s.lt) ∧ t.twin.driving = s.twin.driving ∧
      (s.laneUp s.twin.kz0 = true → ∃ b, .heartbeat 0 b ∈ t.outs ∧ (byteAt b 1).testBit 1 = true ∧ byteAt b 28 = c))) ∧
  ((s.ilk.pcrcFault = true → s.faultCause = some 3) ∧
    (s.ilk.pcrcFault = false → (∃ k < 4, (s.so k).test = true) → s.faultCause = some 4)) ∧
  (∀ c t0, s.twin.releasing = some (c, t0) → Completes .twinReleased s (fun t => t0 + us 200 ≤ t.time.lt ∧ t.twin.driving = false ∧
    t.twin.releasing = none ∧ t.twin.lastCause = c ∧ t.twin.held = [] ∧ ∀ n < 64, (t.axis n).mode = .off)) ∧
  (s.twin.driving = true → Completes .ownWatchdogExpiry s (fun t => s.twin.wdLast + s.ownWd ≤ t.time.lt ∧ t.twin.driving = false ∧ t.twin.lastCause = 7 ∧
    ∀ n < 64, (t.axis n).mode = .off)) ∧
  (s.inTwin = true →
    (s.twin.driving = true → Completes (.ownLineFault false) s (fun t => t.twin.driving = false ∧ t.twin.lineFault = true)) ∧
    (s.twin.driving = true → Completes (.ownLineFault true) s (fun t => t.twin = s.twin)) ∧
    (∀ t0, s.twin.driving = false → s.twin.relSince = some t0 → s.twin.mateLow = false → Completes (.ownLineFault true) s (fun t =>
      t.twin.lineFault = true ∧ t0 + ms 1 ≤ t.time.lt)) ∧
    (∀ h b, s.twin.driving = false → s.twin.highSince = some h → s.twin.beat = some b → s.twin.silent = false → b.holder = true → b.releasing = false →
      (h < b.at_ → Completes (.ownLineFault false) s (fun t => t.twin.lineFault = true ∧ h + ms 1 ≤ t.time.lt)) ∧
      (b.at_ ≤ h → Completes (.ownLineFault false) s (fun t => t.twin.lineFault = s.twin.lineFault)))) ∧
  (let may := s.sys.twinRole = 1 ∧ s.standby = true ∧ s.rb .twinCfg 0 1 = true ∧ s.eligible = true ∧ s.twin.synced = true ∧ s.twin.suppress = false;
    (∀ t0, may → s.twin.revertSince = some t0 → Completes .revertRequest s (fun t => t.twin.revertReq = true ∧ t0 + s.revertT ≤ t.time.lt)) ∧
    (¬ may → Completes .revertRequest s (fun t => t.twin.revertReq = false ∧ t.twin.revertSince = none))) ∧
  (∀ c, s.inTwin = true → s.holder = true → s.twin.releasing = none → s.mateEligible = true → s.wantsRelease = some c → s.faultCause = none →
    ((∀ n < 64, (s.axis n).mode = .off ∨ (s.axis n).mode = .holding) → (∀ n < 64, Table.get none s.ilk.tests n = none) → (∀ i < 64, (s.slot i).state ≠ 1) →
      Completes .quietMomentRelease s (fun t => t.twin.releasing = some (c, t.time.lt) ∧ t.twin.transfer = none)) ∧
    ((∃ n < 64, (s.axis n).mode ≠ .off ∧ (s.axis n).mode ≠ .holding) → Completes .quietMomentRelease s (fun t => t.twin = s.twin))) ∧
  (∀ m : Fin 6, s.mayAccess m false = true → s.domain 10 = true → s.sys.twinRole ≠ 0 →
    (s.holder = true → s.mateEligible = true → Completes (.twinTransferCmd m) s (fun t => t.twin.transfer = some (s.twin.transfer.getD s.lt))) ∧
    (s.mateEligible = false ∨ s.holder = false → Completes (.twinTransferCmd m) s (fun t => t.twin = s.twin))) ∧
  (∀ (y : State) conn b, s.Accepts 0x0601 conn b y → Completes (.twinTransfer conn b true) s (fun t => t.counterOf (cmdKeyOf b) = cmdCounter b ∧
    t.twin.transfer = if s.sys.twinRole ≠ 0 ∧ s.holder = true ∧ s.mateEligible = true then some (s.twin.transfer.getD s.lt) else s.twin.transfer)) ∧
  (∀ t0, s.twin.transfer = some t0 → Completes .twinTransferRejected s (fun t => t.twin = { s.twin with transfer := none } ∧
    (s.mateEligible = true → t0 + sec 10 ≤ t.time.lt))) ∧
  (∀ gate off leak, s.inTwin = true → s.standby = true → Completes (.standbySelftest gate off leak) s (fun t =>
    t.twin.tests.testBit 0 = (gate % 16 != 0) ∧ t.twin.tests.testBit 1 = (off % 16 != 0) ∧ t.twin.tests.testBit 2 = (leak != []) ∧
    t.twin.tests.testBit 4 = (List.range 8).any (fun l => s.linkEn l && (s.link l).phase != 2) ∧ t.twin.tests.testBit 5 = s.ilk.pcrcFault ∧
    t.twin.tests.testBit 6 = s.cfgDiffers ∧ t.twin.cfgDiffer = s.cfgDiffers ∧
    t.twin.testFail = decide (t.twin.tests % 64 ≠ 0) ∧ (t.twin.testFail = true → t.eligible = false)))

/-! ### Event recorder -/

/-- R542, R544 to R547, R556, R557, R559, R565, R568 to R571, R574: a record's way from its intake to its slot, and what degraded mode makes of it. -/
def Obligations.RecorderNumbersAndStores : Prop := ∀ s : State,
  let r := s.rcd
  let counted (t : State) (i n : Nat) : Prop := Table.get 0 t.cnt.value i = (Table.get 0 s.cnt.value i + n) % 2 ^ 48
  (∀ code inst vals, isEvent code = true → code ≠ 0xE001 → s.rb .recCfg 0 2 = false ∨ neverSuppressed code = true →
    (r.intake.length ≤ 1022 → Completes (.eventIntake code inst vals) s (fun t => ∃ e, t.rcd = { r with intake := r.intake ++ [e], gapOpen := false } ∧
      e.code = code ∧ e.tt = s.tt ∧ e.tq = s.quality.code ∧ e.mate = s.standby ∧ (code ≠ 0x3020 → e.body.take 2 = leBytes 2 inst))) ∧
    (r.intake.length = 1023 → r.gapOpen = false → Completes (.eventIntake code inst vals) s (fun t => ∃ g, t.rcd = { r with intake := r.intake ++ [g], gapOpen := true } ∧
      g.code = 0xE001 ∧ byteAt g.body 4 = 4 ∧ leAt g.body 6 4 = 1)) ∧
    (∀ l g, r.intake = l ++ [g] → 1023 ≤ r.intake.length → r.gapOpen = true → Completes (.eventIntake code inst vals) s (fun t =>
      t.rcd = { r with intake := l ++ [bumpLost g] }))) ∧
  (∀ code inst vals k, isEvent code = true → code ≠ 0xE001 → s.rb .recCfg 0 2 = true → neverSuppressed code = false → trackOf r code = some k →
    k.body = padTo 14 (leBytes 2 inst ++ vals) → s.lt < k.entered + ms (10 * s.rf .recCfg 0 15 8) → Completes (.eventIntake code inst vals) s (fun t =>
      t.rcd.intake = r.intake ∧ t.rcd.nextAcc = r.nextAcc ∧ counted t 272 1)) ∧
  (∀ e rest, r.intake = e :: rest → s.standby = false → s.mayAllocate = true → Completes .recAllocate s (fun t =>
    t.rcd.nextAcc = r.nextAcc + 1 ∧ t.rcd.lastAlloc = some t.time.lt ∧ (∀ t0, r.lastAlloc = some t0 → t0 + us 50 ≤ t.time.lt) ∧
    (r.degraded = false → r.nextAcc ≤ t.rcd.mark) ∧
    (e.code ≠ 0x3020 → s.folioTrigger e = false → t.rcd.intake = rest) ∧
    (e.code ≠ 0x3020 → r.holdPending = false →
      (r.hold = false → r.draining = false → t.rcd.storeQ = r.storeQ ++ [⟨r.nextAcc, e⟩] ∧ t.rcd.holdQ = r.holdQ) ∧
      (r.hold = false → r.draining = true → t.rcd.storeQ = r.storeQ ∧ t.rcd.holdQ = r.holdQ ++ [⟨r.nextAcc, e⟩]) ∧
      (r.hold = true → r.episode = none → r.holdLimit = false → r.holdQ.length < 4096 → t.rcd.storeQ = r.storeQ ∧ t.rcd.holdQ = r.holdQ ++ [⟨r.nextAcc, e⟩]) ∧
      (r.hold = true → r.episode = none → r.holdLimit = true ∨ 4096 ≤ r.holdQ.length → t.rcd.storeQ = r.storeQ ∧ t.rcd.holdQ = r.holdQ ∧
        t.rcd.episode = some ⟨if r.holdLimit then 3 else 2, r.nextAcc, NumRec.span ⟨r.nextAcc, e⟩⟩) ∧
      (∀ p, r.hold = true → r.episode = some p → t.rcd.holdQ = r.holdQ ∧ t.rcd.episode = some { p with count := p.count + NumRec.span ⟨r.nextAcc, e⟩ })))) ∧
  (s.mirrors = true → s.twin.accConfirmed + 64 < r.nextAcc → s.mayAllocate = false) ∧
  (s.mayAllocate = false → s.standby = false → Completes .recAllocate s (fun t => t.rcd = r)) ∧
  (s.standby = true → Completes .recAllocate s (fun t => t.rcd.nextAcc = r.nextAcc ∧ t.rcd.storeQ = r.storeQ ∧ t.rcd.holdQ = r.holdQ)) ∧
  (∀ k, r.repeats.find? (fun u => u.count != 0) = some k → r.intake.length ≤ 1022 → k.count < 2 ^ 32 → Completes .recRepeated s (fun t =>
    k.lastLt + ms (10 * s.rf .recCfg 0 15 8) ≤ t.time.lt ∧ (∀ u ∈ t.rcd.repeats, u.code ≠ k.code) ∧ ∃ e, t.rcd.intake = r.intake ++ [e] ∧ e.code = 0xE006 ∧
      e.body.take 2 = [0xFF, 0xFF] ∧ leAt e.body 2 2 = k.code % 2 ^ 16 ∧ leAt e.body 4 4 = k.count)) ∧
  (∀ n rest, r.storeQ = n :: rest → r.retryDue = none → s.recEnded = false →
    (r.degraded = false → Completes (.recStore true) s (fun t => (r.circNext < circSlots → r.archCnt < archSlots →
        t.memBytes (s.slotAddr n.ev.code) 32 = recordBytes false n) ∧ t.rcd.storeQ = rest ∧ counted t 270 1 ∧ t.rcd.lastStored.getLast? = some (recordBytes false n) ∧
      (s.toArchive n.ev.code = false → t.rcd.circNext = (r.circNext + 1) % circSlots ∧ t.rcd.archCnt = r.archCnt) ∧
      (s.toArchive n.ev.code = true → t.rcd.circNext = r.circNext ∧ t.rcd.archCnt = r.archCnt + 1))) ∧
    (r.degraded = false → Completes (.recStore false) s (fun t => t.memByte (s.slotAddr n.ev.code + 31) = 0 ∧ t.rcd.storeQ = r.storeQ ∧ t.rcd.retries = 0 ∧
      t.rcd.retryDue = some (s.lt + us 20))) ∧
    (∀ ok, r.degraded = true → Completes (.recStore ok) s (fun t => t.mem = s.mem ∧ t.rcd.storeQ = rest ∧ t.rcd.ring.getLast? = some (recordBytes true n) ∧
      (n.ev.code = 0xE001 ∨ n.ev.code / 0x1000 = 7 → r.sealFault = false →
        (ok = true → r.sealSlots.length < 1024 → t.rcd.sealSlots = r.sealSlots ++ [recordBytes true n]) ∧
        (ok = true → 1024 ≤ r.sealSlots.length → t.rcd.sealSlots = r.sealSlots ∧ t.rcd.sealFull = true) ∧
        (ok = false → t.rcd.sealSlots = r.sealSlots ∧ t.rcd.sealFault = true ∧ t.bk.lastWord.length = 64 ∧ t.bk.lastWord.take 4 = ascii "SLFW"))))) ∧
  (∀ n rest t0, r.storeQ = n :: rest → r.retryDue = some t0 → s.recEnded = false →
    (Completes (.recWriteRetry true) s (fun t => t0 ≤ t.time.lt ∧ (r.circNext < circSlots → r.archCnt < archSlots →
      t.memBytes (s.slotAddr n.ev.code) 32 = recordBytes false n) ∧ t.rcd.storeQ = rest ∧ t.rcd.retryDue = none ∧ counted t 271 1)) ∧
    (r.retries < 2 → Completes (.recWriteRetry false) s (fun t => t.rcd.storeQ = r.storeQ ∧ t.rcd.retries = r.retries + 1 ∧
      t.rcd.retryDue = some (t.time.lt + us 20))) ∧
    (2 ≤ r.retries → r.degraded = false → n.acc < 2 ^ 48 → Completes (.recWriteRetry false) s (fun t => t.rcd.degraded = true ∧ t.rcd.recFault = true ∧
      t.rcd.storeQ = rest ∧ t.rcd.retryDue = none ∧ ∃ b, t.rcd.ring.getLast? = some b ∧ leAt b 0 6 = n.acc ∧ leAt b 6 2 = 0xE001 ∧ leAt b 17 4 = 1 ∧
        byteAt b 21 = if s.standby then 9 else 1))) ∧
  (r.pubQ ≠ [] → s.recEnded = false → s.trdpOn = true → (∀ b ∈ r.pubQ, s.travelsAlone b = false) → Completes .recPublish s (fun t =>
    t.rcd.pubQ = r.pubQ.drop 40 ∧ ∃ etb op, t.outs = [.telegram 20 (s.reg .recPubIp).toNat etb op
      (beBytes 1 (min 40 r.pubQ.length) ++ beBytes 1 (b2n r.degraded) ++ [0, 0] ++ (r.pubQ.take 40).flatten)])) ∧
  (∀ b code body m, mirrorParse b = some (m, [(11, beBytes 2 code ++ beBytes 4 0 ++ body)]) → s.sys.twinRole ≠ 0 → s.holder = true →
    m = (s.twin.applied + 1) % 2 ^ 32 → s.rb .recCfg 0 2 = false → r.intake.length ≤ 1022 → code < 2 ^ 16 → Completes (.mateEvent b) s (fun t =>
      t.twin.applied = m ∧ ∃ e, t.rcd.intake = r.intake ++ [e] ∧ e.code = code ∧ e.body = body ∧ e.mate = true ∧ e.tt = s.tt))

/-- R553, R554, R558 to R561, R564, R566, R567, R571, R578, R580: Hold and its drain, the Reading Window, the Archive, clearing, Final Folios, and the
requests over the network. -/
def Obligations.HoldWindowFoliosAndRequests : Prop := ∀ s : State,
  let r := s.rcd
  (∀ m : Fin 6, s.mayAccess m false = true → s.domain 9 = true →
    (r.degraded = false → r.hold = false → Completes (.holdSet m) s (fun t => t.rcd.hold = true ∧ t.rcd.holdStart = s.lt ∧ t.rcd.holdLimit = false ∧
      t.rcd.holdByWindow = false)) ∧
    (r.degraded = false → r.hold = true → Completes (.holdSet m) s (fun t => t.rcd = r)) ∧
    (r.degraded = true → Completes (.holdSet m) s (fun t => t.rcd.hold = r.hold ∧ t.rcd.holdStart = r.holdStart)) ∧
    (r.hold = true → Completes (.holdRelease m) s (fun t => t.rcd.hold = false ∧ t.rcd.holdQ = r.holdQ ∧ t.rcd.episode = none ∧ t.rcd.drainGaps = r.drainGaps ++ s.episodeGaps ∧
      t.rcd.draining = (decide (r.holdQ ≠ []) || r.episode.isSome || r.draining) ∧
      (r.intake.length ≤ 1022 → ∃ e, t.rcd.intake = r.intake ++ [e] ∧ e.code = 0xE004))) ∧
    (r.hold = false → Completes (.holdRelease m) s (fun t => t.rcd = r)) ∧
    (r.degraded = false → s.folioNext.isSome = true → r.captures.length < 4 → Completes (.capture m) s (fun t => ∃ acc,
      t.rcd.captures = r.captures ++ [⟨acc, 0, r.lastStored⟩])) ∧
    (r.degraded = true ∨ s.folioNext = none ∨ 4 ≤ r.captures.length → Completes (.capture m) s (fun t => t.rcd.captures = r.captures)) ∧
    (∀ f : Fin 4, Completes (.keep f m) s (fun t => t.folio f = { s.folio f with keep := true } ∧ ∀ g, g ≠ f.val → t.folio g = s.folio g) ∧
      Completes (.unkeep f m) s (fun t => t.folio f = { s.folio f with keep := false } ∧ ∀ g, g ≠ f.val → t.folio g = s.folio g)) ∧
    Completes (.recArchiveCmd m) s (fun t => t.rcd.archState = if r.archState = 0 then 1 else r.archState) ∧
    Completes (.recClearCircCmd m) s (fun t => t.rcd.clearing = if r.degraded ∨ r.hold ∨ r.draining ∨ r.clearing.isSome then r.clearing
      else some (r.oldest, r.nextAcc - 1)) ∧
    Completes (.lwClear m) s (fun t => t.bk.lastWord = [] ∧ t.bk.lwWrites = 0) ∧
    (∀ (area : Fin 3) (f : Fin 4) hold, Completes (.rwOpen area f hold m) s (fun t => t.rcd.winOpen = true ∧ t.rcd.winArea = area ∧ t.rcd.winFolio = f ∧
      t.rcd.winPos = s.rwPos ∧ t.rcd.winBusy = true ∧ t.rcd.winLast = s.lt ∧ t.rcd.hold = (r.hold || hold && !r.degraded))) ∧
    (r.winOpen = true → r.winBusy = false → Completes (.rwStep m) s (fun t => t.rcd.winPos = (if r.winMoved then s.rwPos else r.winNext) ∧ t.rcd.winBusy = true ∧
      t.rcd.winMoved = false ∧ t.rcd.winLast = s.lt)) ∧
    (r.winOpen = false → Completes (.rwStep m) s (fun t => t.rcd = r)) ∧
    (r.winOpen = true → Completes (.rwClose m) s (fun t => t.rcd.winOpen = false ∧ t.rcd.winStatus = 0 ∧ t.rcd.hold = (r.hold && !r.holdByWindow)))) ∧
  (r.winOpen = true → Completes .rwIdleTimeout s (fun t => r.winLast + sec 5 ≤ t.time.lt ∧ t.rcd.winOpen = false ∧ t.rcd.winStatus = 0 ∧
    t.rcd.hold = (r.hold && !r.holdByWindow))) ∧
  (r.winOpen = true → r.winBusy = true → r.winArea = 0 →
    let loads (st : Nat) (d : List Byte) (nx : Nat) : Prop :=
      Completes (.rwLoadDone false) s (fun t => t.rcd = { r with winBusy := false, winStatus := st, winData := d, winNext := nx })
    (r.nextAcc ≤ r.winPos → loads 5 [] r.winPos) ∧
    (∀ b, r.winPos < r.nextAcc → s.heldRecords.find? (covers r.winPos) = some b →
      (leAt b 6 2 ≠ 0xE001 → loads 1 b (r.winPos + 1)) ∧ (leAt b 6 2 = 0xE001 → loads 2 b (leAt b 0 6 + leAt b 17 4)) ∧
      (r.degraded = false → Completes (.rwLoadDone true) s (fun t => t.rcd.winStatus = 6 ∧ t.rcd.winData = [] ∧ t.rcd.winNext = r.winPos + 1 ∧
        t.rcd.degraded = true ∧ t.rcd.degradedCause = 1 ∧ t.rcd.recFault = true))) ∧
    (r.winPos < r.nextAcc → s.heldRecords.find? (covers r.winPos) = none →
      (r.oldest ≤ r.winPos → loads 4 [] r.winPos) ∧
      (r.winPos < r.oldest → loads 3 [] (leastAbove r.winPos (s.heldRecords.map (fun b => leAt b 0 6)))))) ∧
  (r.hold = true → r.holdLimit = false → Completes .recHoldLimit s (fun t => t.rcd = { r with holdLimit := true } ∧ r.holdStart + sec 10 ≤ t.time.lt)) ∧
  (r.draining = true → r.storeQ = [] → s.recEnded = false → r.degraded = false → r.lastStored.length ≤ 1024 →
    let drained := sortBy (fun x y : NumRec => decide (x.acc ≤ y.acc)) (r.holdQ.filter (fun n => decide (n.acc ≤ s.drainEnd)) ++ r.drainGaps)
    Completes .recHoldDrainDone s (fun t => t.rcd.draining = false ∧ t.rcd.drainGaps = [] ∧
      t.rcd.holdQ = r.holdQ.filter (fun n => decide (s.drainEnd < n.acc)) ∧
      let l := r.lastStored ++ drained.map (recordBytes false)
      t.rcd.lastStored = l.drop (l.length - 1024))) ∧
  (∀ c rest f, r.captures = c :: rest → r.hold = false → r.draining = false → s.folioNext = some f → r.degraded = false → c.recs.length < 2 ^ 16 →
    Completes .recFolioCaptured s (fun t => t.rcd.captures = rest ∧ (t.folio f).valid = true ∧ (t.folio f).keep = false ∧
      t.memBytes (folioAddr f) 4 = ascii "SLFF" ∧ leAt (t.memBytes (folioAddr f) 32) 14 2 = c.recs.length ∧ t.memByte (folioAddr f + 31) = 0xA5 ∧
      t.memBytes (folioAddr f + 32) c.recs.flatten.length = c.recs.flatten)) ∧
  (r.captures ≠ [] → r.hold = true → Completes .recFolioCaptured s (fun t => t.rcd = r ∧ t.mem = s.mem)) ∧
  (∀ c, r.clearing = some c → Completes .recCleared s (fun t => t.rcd.clearing = none ∧ t.rcd.circUsed = 0 ∧ t.rcd.oldest = r.nextAcc ∧
    (∀ i < circSlots, t.memByte (0x01000000 + 32 * i + 31) = 0) ∧
    (∀ a, a < 0x01000000 ∨ 0x01A00000 ≤ a ∨ a % 32 ≠ 31 → t.memByte a = s.memByte a) ∧
    (r.intake.length ≤ 1022 → ∃ e, t.rcd.intake = r.intake ++ [e] ∧ e.code = 0xE007))) ∧
  (∀ (y : State) conn b,
    (s.Accepts 0x0401 conn b y → Completes (.archive conn b true) s (fun t => t.counterOf (cmdKeyOf b) = cmdCounter b ∧
      t.rcd.archState = if r.archState = 0 then 1 else r.archState)) ∧
    (s.Accepts 0x0402 conn b y → Completes (.clearCirc conn b true) s (fun t => t.counterOf (cmdKeyOf b) = cmdCounter b ∧
      t.rcd.clearing = if r.degraded ∨ r.hold ∨ r.draining ∨ r.clearing.isSome then r.clearing else some (r.oldest, r.nextAcc - 1)))) ∧
  (∀ m : Fin 6, s.mayAccess m true = true →
    (s.domain 9 = true → Completes (.recNextRead m) s (fun t => t.rcd = { r with nextHiCap := r.nextAcc / 2 ^ 32 } ∧
      t.outs = [.readWord (regAddr .recNextLo 0 0) (r.nextAcc % 2 ^ 32)])) ∧
    (s.domain 9 = true → Completes (.recOldestRead m) s (fun t => t.rcd = { r with oldestHiCap := r.oldest / 2 ^ 32 } ∧
      t.outs = [.readWord (regAddr .recOldestLo 0 0) (r.oldest % 2 ^ 32)]))) ∧
  (∀ t b req, (State.serviceRx { s with outs := [] } t req).2 = some b →
    let replies (c : Instr) (result : Nat) (body : List Byte) (post : State → Prop) : Prop :=
      Completes c s (fun u => post u ∧ ∃ etb op, u.outs = [.telegram 41 t.src etb op (beBytes 2 req ++ beBytes 2 result ++ body)])
    let c := if req = 0x0101 then Instr.read t else if req = 0x0102 then Instr.hold t else if req = 0x0103 then Instr.upload t else Instr.status t
    let len := if req = 0x0101 then 12 else if req = 0x0102 then 4 else if req = 0x0103 then 20 else 0
    0x0101 ≤ req → req ≤ 0x0104 →
    (s.rb .recCfg 0 0 = false → replies c 0xE00D [] (fun u => u.rcd.hold = r.hold)) ∧
    (s.rb .recCfg 0 0 = true → b.length ≠ len → replies c 0xE00C [] (fun u => u.rcd.hold = r.hold)) ∧
    (s.rb .recCfg 0 0 = true → b.length = len →
      (req = 0x0101 → beAt b 8 2 = 0 ∨ 40 < beAt b 8 2 ∨ 0xFFFFFFFFFFFE < beAt b 0 8 → replies (.read t) 0xE00C [] (fun _ => True)) ∧
      (req = 0x0101 → 1 ≤ beAt b 8 2 → beAt b 8 2 ≤ 40 → beAt b 0 8 ≤ 0xFFFFFFFFFFFE → byteAt b 10 ≤ 2 → byteAt b 11 ≤ 3 →
        let q := s.readRun (byteAt b 10) (byteAt b 11) (beAt b 8 2) (beAt b 0 8) []
        replies (.read t) 0 (beBytes 8 q.1 ++ beBytes 1 q.2.1 ++ beBytes 1 q.2.2.length ++ [0, 0] ++ q.2.2.flatten) (fun _ => True)) ∧
      (req = 0x0102 → s.rb .recCfg 0 1 = false → replies (.hold t) 0xE00D [] (fun u => u.rcd.hold = r.hold)) ∧
      (req = 0x0102 → s.rb .recCfg 0 1 = true → byteAt b 0 = 1 → r.degraded = false → replies (.hold t) 0 [] (fun u => u.rcd.hold = true)) ∧
      (req = 0x0102 → s.rb .recCfg 0 1 = true → byteAt b 0 = 2 → replies (.hold t) 0 [] (fun u => u.rcd.hold = false)) ∧
      (req = 0x0103 → beAt b 4 8 ≤ 0xFFFFFFFFFFFE → beAt b 12 8 ≤ 0xFFFFFFFFFFFE → beAt b 12 8 < beAt b 4 8 → replies (.upload t) 0xE00C [] (fun _ => True)) ∧
      (req = 0x0103 → beAt b 4 8 ≤ beAt b 12 8 → beAt b 12 8 ≤ 0xFFFFFFFFFFFE → 4 ≤ s.uploadCount → replies (.upload t) 0xE00D [] (fun _ => True)) ∧
      (req = 0x0103 → beAt b 4 8 ≤ beAt b 12 8 → beAt b 12 8 ≤ 0xFFFFFFFFFFFE → byteAt b 0 = 1 → s.uploadCount < 4 → s.trdp.streams.length < 32 →
        Completes (.upload t) s (fun u => u.trdp.streams = s.trdp.streams ++ [{ ip := t.src, num := s.trdp.nextStream, inbound := false, upKind := 1, upNext := beAt b 4 8, upEnd := beAt b 12 8 }] ∧
          ∃ etb op, .telegram 41 t.src etb op (beBytes 2 req ++ beBytes 2 0 ++ beBytes 2 s.trdp.nextStream) ∈ u.outs)) ∧
      (req = 0x0104 → (s.partnerOf t.src).isSome = true → replies (.status t) 0 (beBytes 4 s.recStatWord.toNat ++ beBytes 4 (s.readVal .recLoad 0 0).toNat ++ beBytes 4 (s.readVal .recArch 0 0).toNat
        ++ beBytes 4 s.folioStatWord.toNat ++ beBytes 8 r.nextAcc ++ beBytes 8 r.oldest) (fun _ => True))))

/-! ### Counters and sampling -/

/-- R583 to R588, R590 to R592, R690: direct access, sweeps, the sampling buffer, and the reads of counters, samples and registers over the network. -/
def Obligations.CountersAndSamplesAreRead : Prop := ∀ s : State,
  let c := s.cnt
  let i := s.cntSelected
  let v (s : State) (k : Nat) := Table.get 0 s.cnt.value k
  let o (s : State) (k : Nat) := Table.get false s.cnt.ovf k
  let swept (t : State) : Prop := t.cnt.value = c.value ∧ t.cnt.ovf = c.ovf ∧ t.cnt.sweepNo = (c.sweepNo + 1) % 2 ^ 32 ∧ t.cnt.sweepTt = t.tt ∧
    ∀ k < 320, Table.get {} t.cnt.snap k = ⟨v s k, o s k, k⟩
  (∀ k n, v (s.count k n) k = (v s k + n) % 2 ^ 48 ∧ o (s.count k n) k = (o s k || decide (2 ^ 48 ≤ v s k + n)) ∧
    ∀ j, j ≠ k → v (s.count k n) j = v s j ∧ o (s.count k n) j = o s j) ∧
  (∀ m : Fin 6, s.mayAccess m true = true → s.domain 0 = true →
    Completes (.cntValRead m) s (fun t => t.cnt.value = c.value ∧ t.cnt.valHi = v s i / 2 ^ 32 ∧ t.cnt.valOvf = o s i ∧ o t i = false ∧
      (∀ k, k ≠ i → o t k = o s k) ∧ t.outs = [.readWord (regAddr .cntValLo 0 0) (v s i % 2 ^ 32)]) ∧
    (∀ k : Fin 320, Completes (.cntSnapRead k m) s (fun t => t.cnt = { c with snapHi := Table.set {} c.snapHi k (Table.get {} c.snap k) } ∧
      t.outs = [.readWord (regAddr .cntSnapLo k 0) ((Table.get {} c.snap k).value % 2 ^ 32)])) ∧
    Completes (.cntSweepTtRead m) s (fun t => t.cnt = { c with sweepTtHi := c.sweepTt / 2 ^ 32 } ∧
      t.outs = [.readWord (regAddr .cntSweepTtLo 0 0) (c.sweepTt % 2 ^ 32)])) ∧
  (∀ m : Fin 6, s.mayAccess m false = true → s.domain 0 = true →
    Completes (.sweep m) s swept ∧
    Completes (.write m) s (fun t => v t i = (s.reg .cntWrLo).toNat + 2 ^ 32 * s.rf .cntWrHi 0 15 0 ∧ t.cnt.ovf = c.ovf ∧ ∀ k, k ≠ i → v t k = v s k) ∧
    Completes (.clearAll m) s (fun t => ∀ k, k ≠ 272 → v t k = 0 ∧ o t k = false) ∧
    Completes (.smpClear m) s (fun t => t.cnt = { c with samples := [], smpFull := false }) ∧
    (∀ w : Word, w.toNat < 1024 → Completes (.cntSmpPosWrite w m) s (fun t => t.cnt = { c with smpData := (c.samples[w.toNat]?).getD [] }))) ∧
  (s.rf .cntCfg 0 13 0 ≠ 0 → s.domain 0 = true → Completes .sweepPeriodic s (fun t => swept t ∧ c.lastSweep + ms (s.rf .cntCfg 0 13 0) ≤ t.time.lt)) ∧
  (s.rf .cntCfg 0 13 0 = 0 → Completes .sweepPeriodic s (fun t => t.cnt = c)) ∧
  (∀ e, (c.samples.length < 1023 → (s.pushSample e).cnt = { c with samples := c.samples ++ [e] }) ∧
    (c.samples.length = 1024 → s.rb .cntSmpCfg 0 18 = false → (s.pushSample e).cnt = { c with samples := c.samples.drop 1 ++ [e] }) ∧
    (c.samples.length = 1024 → s.rb .cntSmpCfg 0 18 = true → (s.pushSample e).cnt = c)) ∧
  (∀ t b req, (State.serviceRx { s with outs := [] } t req).2 = some b →
    let r := (State.serviceRx { s with outs := [] } t req).1
    let replies (c : Instr) (result : Nat) (body : List Byte) : Prop :=
      Completes c s (fun u => ∃ etb op, u.outs = [.telegram 41 t.src etb op (beBytes 2 req ++ beBytes 2 result ++ body)])
    let start := beAt b 0 2
    let n := beAt b 2 2
    (req = 0x0201 →
      (r.hasSession t.src = false → s.rb .cntCfg 0 14 = false → replies (.counters t) 0xF002 []) ∧
      (r.hasSession t.src = true ∨ s.rb .cntCfg 0 14 = true →
        (b.length ≠ 4 ∨ n = 0 ∨ 160 < n ∨ 320 < start + n → replies (.counters t) 0xF003 []) ∧
        (b.length = 4 → 1 ≤ n → n ≤ 160 → start + n ≤ 320 → replies (.counters t) 0 (beBytes 8 c.sweepTt ++ beBytes 4 c.sweepNo ++ [0, 0, 0, 0] ++
          (List.range n).flatMap (fun k => let x := Table.get {} c.snap (start + k); beBytes 6 x.value ++ beBytes 1 (b2n x.ovf) ++ beBytes 1 x.offset))))) ∧
    (req = 0x0202 →
      (r.hasSession t.src = false → s.rb .cntCfg 0 15 = false → replies (.samples t) 0xF002 []) ∧
      (r.hasSession t.src = true ∨ s.rb .cntCfg 0 15 = true →
        (b.length ≠ 4 ∨ n = 0 ∨ 40 < n ∨ 1024 < start + n → replies (.samples t) 0xF003 []) ∧
        (b.length = 4 → 1 ≤ n → n ≤ 40 → start + n ≤ 1024 → replies (.samples t) 0 (beBytes 2 ((c.samples.drop start).take n).length ++ [0, 0] ++
          ((c.samples.drop start).take n).flatten)))) ∧
    (req = 0x0401 →
      (r.hasSession t.src = false → replies (.regRead t) 0x0016 []) ∧
      (r.hasSession t.src = true →
        (b.length ≠ 8 ∨ beAt b 4 2 = 0 ∨ 64 < beAt b 4 2 ∨ beAt b 0 4 % 4 ≠ 0 ∨ 0xFFFFFFFC < beAt b 0 4 + 4 * beAt b 4 2 - 4 →
          replies (.regRead t) 0x0017 []) ∧
        (b.length = 8 → 1 ≤ beAt b 4 2 → beAt b 4 2 ≤ 64 → beAt b 0 4 % 4 = 0 → beAt b 0 4 + 4 * beAt b 4 2 - 4 ≤ 0xFFFFFFFC →
          Completes (.regRead t) s (fun u => ∃ etb op,
            .telegram 41 t.src etb op (beBytes 2 req ++ beBytes 2 0 ++ (readWords 0 none (beAt b 4 2) (beAt b 0 4) r).2.1.flatMap (beBytes 4)) ∈ u.outs)))))

/-! ### The block as a whole -/

/-- The step of the block: the command at the front of the queue runs on the state with the queue's rest. On an empty queue one tick of CLK_TIME
passes and nothing else happens: that is the model's choice, log entry 3. -/
def Obligations.StepTakesTheFrontCommand : Prop := ∀ s : State,
  (∀ c rest, s.pending = c :: rest → step s = exec c { s with pending := rest }) ∧
  (s.pending = [] → ∃ t, step s = .next t ∧ t.time.lt = s.time.lt + 1 ∧ t.outs = [] ∧
    t = { s with time := t.time, bk := t.bk, outs := [] })

/-- R626, R627, R644, R678: what the state right after a reset of a delivered part holds: no register written, every register at its reset value, memories as
delivered, no output driven, no command waiting, the lock and the Operational line low. -/
def Obligations.ResetStateHoldsTheResetValues : Prop :=
  State.reset.JustReset ∧ State.reset.sys.start = .boot ∧ State.reset.pending = [] ∧ State.reset.outs = [] ∧ Memory.wf State.reset = true ∧
  (∀ r i j, State.reset.reg r i j = BitVec.ofNat 32 (desc r).reset) ∧ (∀ a, State.reset.memByte a = 0) ∧ (∀ a, State.reset.flashByte a = 0xFF) ∧
  (∀ p, State.reset.portal p = {}) ∧ (∀ n, (State.reset.axis n).mode = .off) ∧ (∀ k, (State.reset.so k).cmd = false) ∧
  State.reset.twin.driving = false ∧ State.reset.rcd.nextAcc = 1 ∧ State.reset.cnt.value = [] ∧ (∀ c, (State.reset.conn c).st = .closed) ∧
  (∀ i, State.reset.slot i = {})

/-- Every command completes in every state, and changes no part of the state but those that `mayChange` names for it; whatever they are, the queue
stays, local time does not run back, the memories keep their canonical form and no OTP bit returns (R22, R601). A command that finds nothing to do
answers the state as it is; the statements above say when a command has its effect. -/
def Obligations.EveryCommandKeepsItsFrame : Prop := ∀ (c : Instr) (s : State), ∃ t, exec c s = .next t ∧ Frame (mayChange c) s t

/-- R22, R601, R644, R678: what every step keeps: the memories' canonical form, local time that does not run back, every OTP bit that is set, and
the lock and the Operational line until a reset. -/
def Obligations.EveryStepKeepsMemoriesOtpAndLock : Prop := ∀ s t : State, step s = .next t →
  (Memory.wf s = true → Memory.wf t = true) ∧ s.time.lt ≤ t.time.lt ∧ t.pending = s.pending.tail ∧
  (s.sc.debugFuse = true → t.sc.debugFuse = true) ∧ s.sc.fwFloor ≤ t.sc.fwFloor ∧
  (∀ k, s.sc.fwRevoked.testBit k = true → t.sc.fwRevoked.testBit k = true) ∧ s.sc.enrolled <+: t.sc.enrolled ∧
  (s.pending.head? ≠ some .catalogueApply → (s.sys.lock = true → t.sys.lock = true ∨ t.JustReset) ∧
    (s.sys.operational = true → t.sys.operational = true ∨ t.JustReset))
end

