-- ==== Sys2Proof/Laws/Table.lean ====
section
/-!
SUPPORT. Sys2Proof/Laws/Table.lean: the laws of sparse tables: a read after a write, and that every operation keeps the canonical form.
-/
namespace Sys2Proof.Machine

theorem Table.rising_iff {α : Type} (t : Table α) : Table.rising t = true ↔ t.Pairwise (fun a b => a.1 < b.1) := by
  induction t with
  | nil => simp [Table.rising]
  | cons a t ih =>
    cases t with
    | nil => simp [Table.rising]
    | cons b t =>
      obtain ⟨k, v⟩ := a
      obtain ⟨k', v'⟩ := b
      simp only [Table.rising, Bool.and_eq_true, decide_eq_true_eq, ih, List.pairwise_cons]
      constructor
      · rintro ⟨h, h1, h2⟩
        refine ⟨?_, h1, h2⟩
        intro x hx
        rcases List.mem_cons.1 hx with rfl | hx
        · exact h
        · exact Nat.lt_trans h (h1 x hx)
      · rintro ⟨h, h1, h2⟩
        exact ⟨h _ (List.mem_cons_self), h1, h2⟩

theorem Table.wf_iff {α : Type} [DecidableEq α] (d : α) (t : Table α) :
    Table.wf d t = true ↔ t.Pairwise (fun a b => a.1 < b.1) ∧ ∀ e ∈ t, e.2 ≠ d := by
  simp [Table.wf, Table.rising_iff]

theorem Table.get_of_not_mem {α : Type} (d : α) (t : Table α) (n : Nat) (h : ∀ e ∈ t, e.1 ≠ n) : Table.get d t n = d := by
  induction t with
  | nil => rfl
  | cons a t ih =>
    obtain ⟨k, v⟩ := a
    have := h (k, v) (List.mem_cons_self)
    simp only [Table.get]
    rw [if_neg (fun e => this e.symm)]
    exact ih (fun e he => h e (List.mem_cons_of_mem _ he))

theorem Table.get_erase {α : Type} (d : α) (t : Table α) (n m : Nat) :
    Table.get d (Table.erase n t) m = if m = n then d else Table.get d t m := by
  induction t with
  | nil => simp [Table.erase, Table.get]
  | cons a t ih =>
    obtain ⟨k, v⟩ := a
    simp only [Table.erase] at ih
    by_cases hk : k = n
    · subst hk
      simp only [Table.erase, List.filter_cons, bne_self_eq_false, Bool.false_eq_true, if_false, ih, Table.get]
      by_cases hm : m = k <;> simp [hm]
    · have : (k != n) = true := by simp [hk]
      simp only [Table.erase, List.filter_cons, this, if_true, Table.get, ih]
      by_cases hm : m = k
      · subst hm; simp [hk]
      · simp [hm]

theorem Table.get_insert {α : Type} (d : α) (t : Table α) (n : Nat) (v : α) (m : Nat) (h : ∀ e ∈ t, e.1 ≠ n) :
    Table.get d (Table.insert n v t) m = if m = n then v else Table.get d t m := by
  induction t with
  | nil => simp [Table.insert, Table.get]
  | cons a t ih =>
    obtain ⟨k, w⟩ := a
    have hk : k ≠ n := h (k, w) (List.mem_cons_self)
    have ih := ih (fun e he => h e (List.mem_cons_of_mem _ he))
    simp only [Table.insert]
    split
    · simp [Table.get]
    · simp only [Table.get, ih]
      by_cases hm : m = k
      · subst hm; simp [hk]
      · simp [hm]

theorem Table.mem_erase_ne {α : Type} (t : Table α) (n : Nat) : ∀ e ∈ Table.erase n t, e.1 ≠ n := by
  intro e he
  simp only [Table.erase, List.mem_filter, bne_iff_ne] at he
  exact he.2

/-- A read after a write: the value written at its key, what was there elsewhere. -/
theorem Table.get_set {α : Type} [DecidableEq α] (d : α) (t : Table α) (n : Nat) (v : α) (m : Nat) :
    Table.get d (Table.set d t n v) m = if m = n then v else Table.get d t m := by
  simp only [Table.set]
  split
  · rename_i h
    rw [Table.get_erase, h]
  · rw [Table.get_insert d _ n v m (Table.mem_erase_ne t n), Table.get_erase]
    split <;> rfl

@[simp] theorem Table.get_set_self {α : Type} [DecidableEq α] (d : α) (t : Table α) (n : Nat) (v : α) :
    Table.get d (Table.set d t n v) n = v := by
  simp [Table.get_set]

theorem Table.get_set_ne {α : Type} [DecidableEq α] (d : α) (t : Table α) {n m : Nat} (v : α) (h : m ≠ n) :
    Table.get d (Table.set d t n v) m = Table.get d t m := by
  simp [Table.get_set, h]

theorem Table.wf_filter {α : Type} [DecidableEq α] (d : α) (t : Table α) (p : Nat × α → Bool) (h : Table.wf d t = true) :
    Table.wf d (t.filter p) = true := by
  rw [Table.wf_iff] at *
  exact ⟨h.1.filter p, fun e he => h.2 e (List.mem_of_mem_filter he)⟩

theorem Table.mem_insert {α : Type} (n : Nat) (v : α) (t : Table α) (e : Nat × α) :
    e ∈ Table.insert n v t ↔ e = (n, v) ∨ e ∈ t := by
  induction t with
  | nil => simp [Table.insert]
  | cons a t ih =>
    obtain ⟨k, w⟩ := a
    simp only [Table.insert]
    split
    · simp
    · simp only [List.mem_cons, ih]
      tauto

theorem Table.pairwise_insert {α : Type} (n : Nat) (v : α) (t : Table α) (h : t.Pairwise (fun a b => a.1 < b.1))
    (hn : ∀ e ∈ t, e.1 ≠ n) : (Table.insert n v t).Pairwise (fun a b => a.1 < b.1) := by
  induction t with
  | nil => simp [Table.insert]
  | cons a t ih =>
    obtain ⟨k, w⟩ := a
    rw [List.pairwise_cons] at h
    have hk : k ≠ n := hn (k, w) (List.mem_cons_self)
    simp only [Table.insert]
    split
    · rename_i hlt
      refine List.pairwise_cons.2 ⟨?_, List.pairwise_cons.2 h⟩
      intro e he
      rcases List.mem_cons.1 he with rfl | he
      · exact hlt
      · exact Nat.lt_trans hlt (h.1 e he)
    · rename_i hlt
      refine List.pairwise_cons.2 ⟨?_, ih h.2 (fun e he => hn e (List.mem_cons_of_mem _ he))⟩
      intro e he
      rcases (Table.mem_insert n v t e).1 he with rfl | he
      · exact Nat.lt_of_le_of_ne (Nat.le_of_not_lt hlt) hk
      · exact h.1 e he

/-- A write keeps the canonical form. -/
theorem Table.wf_set {α : Type} [DecidableEq α] (d : α) (t : Table α) (n : Nat) (v : α) (h : Table.wf d t = true) :
    Table.wf d (Table.set d t n v) = true := by
  have he : Table.wf d (Table.erase n t) = true := Table.wf_filter d t _ h
  simp only [Table.set]
  split
  · exact he
  · rename_i hv
    rw [Table.wf_iff] at *
    refine ⟨Table.pairwise_insert n v _ he.1 (Table.mem_erase_ne t n), ?_⟩
    intro e hm
    rcases (Table.mem_insert n v _ e).1 hm with rfl | hm
    · exact hv
    · exact he.2 e hm

/-- Inserting adds the element. -/
theorem mem_insertBy {α : Type} (le : α → α → Bool) (a x : α) (l : List α) : x ∈ insertBy le a l ↔ x = a ∨ x ∈ l := by
  induction l with
  | nil => simp [insertBy]
  | cons b l ih =>
    unfold insertBy
    split
    · simp
    · simp only [List.mem_cons, ih]
      tauto

/-- Sorting keeps the elements. -/
theorem mem_sortBy {α : Type} (le : α → α → Bool) (x : α) (l : List α) : x ∈ sortBy le l ↔ x ∈ l := by
  induction l with
  | nil => simp [sortBy]
  | cons b l ih =>
    show x ∈ insertBy le b (sortBy le l) ↔ _
    rw [mem_insertBy, ih, List.mem_cons]

end Sys2Proof.Machine
end

