-- ==== Sys2Proof/Laws/Frame.lean ====
section
/-!
SUPPORT. Sys2Proof/Laws/Frame.lean: how frames compose: reflexivity, transitivity, widening, one record update, and the combinators
of Ops.lean. The frame of each operation stands in the Frame files beside this one; every one has the form "from a state of which the
frame holds, the operation goes to such a state", so that they chain backwards through nested calls.
-/
set_option Elab.async false
namespace Sys2Proof.Machine
open Sys2Proof

theorem Part.out_of_within {p a b : Nat} (h : Part.within a b = true) (hp : Part.out p b = true) : Part.out p a = true := by
  simp only [Part.out, Part.within, beq_iff_eq] at *
  apply Nat.eq_of_testBit_eq
  intro i
  have h1 := congrArg (Nat.testBit · i) h
  have h2 := congrArg (Nat.testBit · i) hp
  simp only [Nat.testBit_or, Nat.testBit_and, Nat.zero_testBit] at *
  revert h1 h2
  cases p.testBit i <;> cases a.testBit i <;> cases b.testBit i <;> simp

theorem Part.within_trans {a b c : Nat} (h : Part.within a b = true) (k : Part.within b c = true) : Part.within a c = true := by
  simp only [Part.within, beq_iff_eq] at *
  rw [← k, ← Nat.or_assoc, h]

/-- A part that is among `m` is among every wider `w`. -/
theorem Part.out_absurd {p m w : Nat} {q : Prop} (h : Part.within m w = true) (hm : Part.out p m = false) (k : Part.out p w = true) : q := by
  rw [Part.out_of_within h k] at hm
  cases hm

theorem State.KeptOrReset.trans {a b c : State} (h : a.KeptOrReset b) (k : b.KeptOrReset c) : a.KeptOrReset c := by
  rcases k with ⟨k1, k2, k3⟩ | k
  · rcases h with ⟨h1, h2, h3⟩ | ⟨h1, h2, h3⟩
    · exact Or.inl ⟨k1.trans h1, k2.trans h2, k3.trans h3⟩
    · exact Or.inr ⟨by rw [k1]; exact h1, k2.trans h2, k3.trans h3⟩
  · exact Or.inr k

theorem Frame.refl (w : Nat) (s : State) : Frame w s s := by
  constructor <;> intros <;> first | rfl | assumption | exact Or.inl (And.intro rfl (And.intro rfl rfl)) | exact And.intro rfl rfl

theorem Frame.trans {w : Nat} {a b c : State} (h : Frame w a b) (k : Frame w b c) : Frame w a c where
  sys x := (k.sys x).trans (h.sys x)
  bk x := (k.bk x).trans (h.bk x)
  nvm x := (k.nvm x).trans (h.nvm x)
  cat x := (k.cat x).trans (h.cat x)
  sc x := (k.sc x).trans (h.sc x)
  rcd x := (k.rcd x).trans (h.rcd x)
  cnt x := (k.cnt x).trans (h.cnt x)
  time x := (k.time x).trans (h.time x)
  seq x := (k.seq x).trans (h.seq x)
  portals x := (k.portals x).trans (h.portals x)
  obs x := (k.obs x).trans (h.obs x)
  axes x := (k.axes x).trans (h.axes x)
  fb x := (k.fb x).trans (h.fb x)
  links x := (k.links x).trans (h.links x)
  ilk x := (k.ilk x).trans (h.ilk x)
  fio x := (k.fio x).trans (h.fio x)
  loads x := (k.loads x).trans (h.loads x)
  net x := (k.net x).trans (h.net x)
  trdp x := (k.trdp x).trans (h.trdp x)
  conns x := (k.conns x).trans (h.conns x)
  twin x := (k.twin x).trans (h.twin x)
  regs x := (k.regs x).trans (h.regs x)
  mem x := (k.mem x).trans (h.mem x)
  flash x := (k.flash x).trans (h.flash x)
  outs x := (k.outs x).trans (h.outs x)
  free x := (k.free x).trans (h.free x)
  lock x y := k.lock x (h.lock x y)
  operational x y := k.operational x (h.operational x y)
  boot x := (h.boot x).trans (k.boot x)
  states x p := (k.states x p).trans (h.states x p)
  actions x := ⟨(k.actions x).1.trans (h.actions x).1, (k.actions x).2.trans (h.actions x).2⟩
  pending := k.pending.trans h.pending
  lt := Nat.le_trans h.lt k.lt
  memWf x := k.memWf (h.memWf x)
  flashWf x := k.flashWf (h.flashWf x)
  fuse x := k.fuse (h.fuse x)
  floor := Nat.le_trans h.floor k.floor
  revoked i x := k.revoked i (h.revoked i x)
  enrolled := h.enrolled.trans k.enrolled

/-- A frame that names fewer parts says more. -/
theorem Frame.mono {v w : Nat} {s t : State} (h : Frame v s t) (k : Part.within v w = true) : Frame w s t where
  sys x := h.sys (Part.out_of_within k x)
  bk x := h.bk (Part.out_of_within k x)
  nvm x := h.nvm (Part.out_of_within k x)
  cat x := h.cat (Part.out_of_within k x)
  sc x := h.sc (Part.out_of_within k x)
  rcd x := h.rcd (Part.out_of_within k x)
  cnt x := h.cnt (Part.out_of_within k x)
  time x := h.time (Part.out_of_within k x)
  seq x := h.seq (Part.out_of_within k x)
  portals x := h.portals (Part.out_of_within k x)
  obs x := h.obs (Part.out_of_within k x)
  axes x := h.axes (Part.out_of_within k x)
  fb x := h.fb (Part.out_of_within k x)
  links x := h.links (Part.out_of_within k x)
  ilk x := h.ilk (Part.out_of_within k x)
  fio x := h.fio (Part.out_of_within k x)
  loads x := h.loads (Part.out_of_within k x)
  net x := h.net (Part.out_of_within k x)
  trdp x := h.trdp (Part.out_of_within k x)
  conns x := h.conns (Part.out_of_within k x)
  twin x := h.twin (Part.out_of_within k x)
  regs x := h.regs (Part.out_of_within k x)
  mem x := h.mem (Part.out_of_within k x)
  flash x := h.flash (Part.out_of_within k x)
  outs x := h.outs (Part.out_of_within k x)
  free x := h.free (Part.out_of_within k x)
  lock x := h.lock (Part.out_of_within k x)
  operational x := h.operational (Part.out_of_within k x)
  boot x := h.boot (Part.out_of_within k x)
  states x := h.states (Part.out_of_within k x)
  actions x := h.actions (Part.out_of_within k x)
  pending := h.pending
  lt := h.lt
  memWf := h.memWf
  flashWf := h.flashWf
  fuse := h.fuse
  floor := h.floor
  revoked := h.revoked
  enrolled := h.enrolled

/-- One record update: every part is as it was, or is among the parts named. -/
theorem Frame.upd {w : Nat} {b s : State}
    {a_sys : _}
    {a_bk : _}
    {a_nvm : _}
    {a_cat : _}
    {a_sc : _}
    {a_rcd : _}
    {a_cnt : _}
    {a_time : _}
    {a_seq : _}
    {a_portals : _}
    {a_obs : _}
    {a_axes : _}
    {a_fb : _}
    {a_links : _}
    {a_ilk : _}
    {a_fio : _}
    {a_loads : _}
    {a_net : _}
    {a_trdp : _}
    {a_conns : _}
    {a_twin : _}
    {a_regs : _}
    {a_mem : _}
    {a_flash : _}
    {a_outs : _}
    {a_free : _}
    (h_sys : Part.out Part.sys w = true → a_sys = s.sys := by exact fun _ => rfl)
    (h_bk : Part.out Part.bk w = true → a_bk = s.bk := by exact fun _ => rfl)
    (h_nvm : Part.out Part.nvm w = true → a_nvm = s.nvm := by exact fun _ => rfl)
    (h_cat : Part.out Part.cat w = true → a_cat = s.cat := by exact fun _ => rfl)
    (h_sc : Part.out Part.sc w = true → a_sc = s.sc := by exact fun _ => rfl)
    (h_rcd : Part.out Part.rcd w = true → a_rcd = s.rcd := by exact fun _ => rfl)
    (h_cnt : Part.out Part.cnt w = true → a_cnt = s.cnt := by exact fun _ => rfl)
    (h_time : Part.out Part.time w = true → a_time = s.time := by exact fun _ => rfl)
    (h_seq : Part.out Part.seq w = true → a_seq = s.seq := by exact fun _ => rfl)
    (h_portals : Part.out Part.portals w = true → a_portals = s.portals := by exact fun _ => rfl)
    (h_obs : Part.out Part.obs w = true → a_obs = s.obs := by exact fun _ => rfl)
    (h_axes : Part.out Part.axes w = true → a_axes = s.axes := by exact fun _ => rfl)
    (h_fb : Part.out Part.fb w = true → a_fb = s.fb := by exact fun _ => rfl)
    (h_links : Part.out Part.links w = true → a_links = s.links := by exact fun _ => rfl)
    (h_ilk : Part.out Part.ilk w = true → a_ilk = s.ilk := by exact fun _ => rfl)
    (h_fio : Part.out Part.fio w = true → a_fio = s.fio := by exact fun _ => rfl)
    (h_loads : Part.out Part.loads w = true → a_loads = s.loads := by exact fun _ => rfl)
    (h_net : Part.out Part.net w = true → a_net = s.net := by exact fun _ => rfl)
    (h_trdp : Part.out Part.trdp w = true → a_trdp = s.trdp := by exact fun _ => rfl)
    (h_conns : Part.out Part.conns w = true → a_conns = s.conns := by exact fun _ => rfl)
    (h_twin : Part.out Part.twin w = true → a_twin = s.twin := by exact fun _ => rfl)
    (h_regs : Part.out Part.regs w = true → a_regs = s.regs := by exact fun _ => rfl)
    (h_mem : Part.out Part.mem w = true → a_mem = s.mem := by exact fun _ => rfl)
    (h_flash : Part.out Part.flash w = true → a_flash = s.flash := by exact fun _ => rfl)
    (h_outs : Part.out Part.outs w = true → a_outs = s.outs := by exact fun _ => rfl)
    (h_free : Part.out Part.free w = true → a_free = s.free := by exact fun _ => rfl)
    (h_lock : Part.out Part.restart w = true → s.sys.lock = true → Sys.lock a_sys = true := by exact fun _ k => k)
    (h_operational : Part.out Part.restart w = true → s.sys.operational = true → Sys.operational a_sys = true := by exact fun _ k => k)
    (h_boot : Part.out Part.startup w = true →
      (Sys.start a_sys = s.sys.start ∧ Sys.operational a_sys = s.sys.operational ∧ Sys.lock a_sys = s.sys.lock) ∨
      ((Sys.start a_sys = .inReset ∨ Sys.start a_sys = .boot) ∧ Sys.operational a_sys = false ∧ Sys.lock a_sys = false) := by exact fun _ => Or.inl ⟨rfl, rfl, rfl⟩)
    (h_states : Part.out Part.states w = true → ∀ p, (Table.get {} a_portals p).st = (s.portal p).st := by exact fun _ _ => rfl)
    (h_actions : Part.out Part.actions w = true → Sequencer.slots a_seq = s.seq.slots ∧ Sequencer.imm a_seq = s.seq.imm := by exact fun _ => ⟨rfl, rfl⟩)
    (h_lt : s.time.lt ≤ TimeUnit.lt a_time := by exact Nat.le_refl _) (h_memWf : Table.wf 0 s.mem = true → Table.wf 0 a_mem = true := by exact id)
    (h_flashWf : Table.wf 0xFF s.flash = true → Table.wf 0xFF a_flash = true := by exact id)
    (h_fuse : s.sc.debugFuse = true → Sec.debugFuse a_sc = true := by exact id) (h_floor : s.sc.fwFloor ≤ Sec.fwFloor a_sc := by exact Nat.le_refl _)
    (h_revoked : ∀ k, s.sc.fwRevoked.testBit k = true → (Sec.fwRevoked a_sc).testBit k = true := by exact fun _ k => k)
    (h_enrolled : s.sc.enrolled <+: Sec.enrolled a_sc := by exact List.prefix_refl _) (h : Frame w b s) :
    Frame w b (State.mk a_sys a_bk a_nvm a_cat a_sc a_rcd a_cnt a_time a_seq a_portals a_obs a_axes a_fb a_links a_ilk a_fio a_loads a_net a_trdp a_conns a_twin a_regs a_mem a_flash a_outs a_free s.pending) :=
  h.trans { sys := h_sys, bk := h_bk, nvm := h_nvm, cat := h_cat, sc := h_sc, rcd := h_rcd, cnt := h_cnt, time := h_time, seq := h_seq, portals := h_portals, obs := h_obs, axes := h_axes, fb := h_fb, links := h_links, ilk := h_ilk, fio := h_fio, loads := h_loads, net := h_net, trdp := h_trdp, conns := h_conns, twin := h_twin, regs := h_regs, mem := h_mem, flash := h_flash, outs := h_outs, free := h_free, lock := h_lock, operational := h_operational, boot := h_boot, states := h_states, actions := h_actions, pending := rfl, lt := h_lt, memWf := h_memWf, flashWf := h_flashWf,
            fuse := h_fuse, floor := h_floor, revoked := h_revoked, enrolled := h_enrolled }

/-! ### One record update, part by part -/

theorem Frame.set_sys {w : Nat} {b s : State} {v : _} (k : Part.within (Part.sys) w = true) (hl : s.sys.lock = true → v.lock = true) (ho : s.sys.operational = true → v.operational = true)
    (hb : Part.out Part.startup w = true → v.start = s.sys.start ∧ v.operational = s.sys.operational ∧ v.lock = s.sys.lock) (h : Frame w b s) :
    Frame w b { s with sys := v } :=
    Frame.upd (h_sys := fun x => Part.out_absurd k rfl x) (h_lock := fun _ => hl) (h_operational := fun _ => ho) (h_boot := fun x => Or.inl (hb x)) (h := h)
theorem Frame.set_bk {w : Nat} {b s : State} {v : _} (k : Part.within (Part.bk) w = true) (h : Frame w b s) :
    Frame w b { s with bk := v } :=
    Frame.upd (h_bk := fun x => Part.out_absurd k rfl x) (h := h)
theorem Frame.set_nvm {w : Nat} {b s : State} {v : _} (k : Part.within (Part.nvm) w = true) (h : Frame w b s) :
    Frame w b { s with nvm := v } :=
    Frame.upd (h_nvm := fun x => Part.out_absurd k rfl x) (h := h)
theorem Frame.set_cat {w : Nat} {b s : State} {v : _} (k : Part.within (Part.cat) w = true) (h : Frame w b s) :
    Frame w b { s with cat := v } :=
    Frame.upd (h_cat := fun x => Part.out_absurd k rfl x) (h := h)
theorem Frame.set_sc {w : Nat} {b s : State} {v : _} (k : Part.within (Part.sc) w = true) (h1 : s.sc.debugFuse = true → v.debugFuse = true) (h2 : s.sc.fwFloor ≤ v.fwFloor)
    (h3 : ∀ k, s.sc.fwRevoked.testBit k = true → v.fwRevoked.testBit k = true) (h4 : s.sc.enrolled <+: v.enrolled) (h : Frame w b s) :
    Frame w b { s with sc := v } :=
    Frame.upd (h_sc := fun x => Part.out_absurd k rfl x) (h_fuse := h1) (h_floor := h2) (h_revoked := h3) (h_enrolled := h4) (h := h)
theorem Frame.set_rcd {w : Nat} {b s : State} {v : _} (k : Part.within (Part.rcd) w = true) (h : Frame w b s) :
    Frame w b { s with rcd := v } :=
    Frame.upd (h_rcd := fun x => Part.out_absurd k rfl x) (h := h)
theorem Frame.set_cnt {w : Nat} {b s : State} {v : _} (k : Part.within (Part.cnt) w = true) (h : Frame w b s) :
    Frame w b { s with cnt := v } :=
    Frame.upd (h_cnt := fun x => Part.out_absurd k rfl x) (h := h)
theorem Frame.set_time {w : Nat} {b s : State} {v : _} (k : Part.within (Part.time) w = true) (hl : s.time.lt ≤ v.lt) (h : Frame w b s) :
    Frame w b { s with time := v } :=
    Frame.upd (h_time := fun x => Part.out_absurd k rfl x) (h_lt := hl) (h := h)
theorem Frame.set_seq {w : Nat} {b s : State} {v : _} (k : Part.within (Part.seq) w = true) (ha : Part.out Part.actions w = true → v.slots = s.seq.slots ∧ v.imm = s.seq.imm) (h : Frame w b s) :
    Frame w b { s with seq := v } :=
    Frame.upd (h_seq := fun x => Part.out_absurd k rfl x) (h_actions := ha) (h := h)
theorem Frame.set_portals {w : Nat} {b s : State} {v : _} (k : Part.within (Part.portals) w = true) (hp : Part.out Part.states w = true → ∀ p, (Table.get {} v p).st = (s.portal p).st) (h : Frame w b s) :
    Frame w b { s with portals := v } :=
    Frame.upd (h_portals := fun x => Part.out_absurd k rfl x) (h_states := hp) (h := h)
theorem Frame.set_obs {w : Nat} {b s : State} {v : _} (k : Part.within (Part.obs) w = true) (h : Frame w b s) :
    Frame w b { s with obs := v } :=
    Frame.upd (h_obs := fun x => Part.out_absurd k rfl x) (h := h)
theorem Frame.set_axes {w : Nat} {b s : State} {v : _} (k : Part.within (Part.axes) w = true) (h : Frame w b s) :
    Frame w b { s with axes := v } :=
    Frame.upd (h_axes := fun x => Part.out_absurd k rfl x) (h := h)
theorem Frame.set_fb {w : Nat} {b s : State} {v : _} (k : Part.within (Part.fb) w = true) (h : Frame w b s) :
    Frame w b { s with fb := v } :=
    Frame.upd (h_fb := fun x => Part.out_absurd k rfl x) (h := h)
theorem Frame.set_links {w : Nat} {b s : State} {v : _} (k : Part.within (Part.links) w = true) (h : Frame w b s) :
    Frame w b { s with links := v } :=
    Frame.upd (h_links := fun x => Part.out_absurd k rfl x) (h := h)
theorem Frame.set_ilk {w : Nat} {b s : State} {v : _} (k : Part.within (Part.ilk) w = true) (h : Frame w b s) :
    Frame w b { s with ilk := v } :=
    Frame.upd (h_ilk := fun x => Part.out_absurd k rfl x) (h := h)
theorem Frame.set_fio {w : Nat} {b s : State} {v : _} (k : Part.within (Part.fio) w = true) (h : Frame w b s) :
    Frame w b { s with fio := v } :=
    Frame.upd (h_fio := fun x => Part.out_absurd k rfl x) (h := h)
theorem Frame.set_loads {w : Nat} {b s : State} {v : _} (k : Part.within (Part.loads) w = true) (h : Frame w b s) :
    Frame w b { s with loads := v } :=
    Frame.upd (h_loads := fun x => Part.out_absurd k rfl x) (h := h)
theorem Frame.set_net {w : Nat} {b s : State} {v : _} (k : Part.within (Part.net) w = true) (h : Frame w b s) :
    Frame w b { s with net := v } :=
    Frame.upd (h_net := fun x => Part.out_absurd k rfl x) (h := h)
theorem Frame.set_trdp {w : Nat} {b s : State} {v : _} (k : Part.within (Part.trdp) w = true) (h : Frame w b s) :
    Frame w b { s with trdp := v } :=
    Frame.upd (h_trdp := fun x => Part.out_absurd k rfl x) (h := h)
theorem Frame.set_conns {w : Nat} {b s : State} {v : _} (k : Part.within (Part.conns) w = true) (h : Frame w b s) :
    Frame w b { s with conns := v } :=
    Frame.upd (h_conns := fun x => Part.out_absurd k rfl x) (h := h)
theorem Frame.set_twin {w : Nat} {b s : State} {v : _} (k : Part.within (Part.twin) w = true) (h : Frame w b s) :
    Frame w b { s with twin := v } :=
    Frame.upd (h_twin := fun x => Part.out_absurd k rfl x) (h := h)
theorem Frame.set_regs {w : Nat} {b s : State} {v : _} (k : Part.within (Part.regs) w = true) (h : Frame w b s) :
    Frame w b { s with regs := v } :=
    Frame.upd (h_regs := fun x => Part.out_absurd k rfl x) (h := h)
theorem Frame.set_mem {w : Nat} {b s : State} {v : _} (k : Part.within (Part.mem) w = true) (hm : Table.wf 0 s.mem = true → Table.wf 0 v = true) (h : Frame w b s) :
    Frame w b { s with mem := v } :=
    Frame.upd (h_mem := fun x => Part.out_absurd k rfl x) (h_memWf := hm) (h := h)
theorem Frame.set_flash {w : Nat} {b s : State} {v : _} (k : Part.within (Part.flash) w = true) (hm : Table.wf 0xFF s.flash = true → Table.wf 0xFF v = true) (h : Frame w b s) :
    Frame w b { s with flash := v } :=
    Frame.upd (h_flash := fun x => Part.out_absurd k rfl x) (h_flashWf := hm) (h := h)
theorem Frame.set_outs {w : Nat} {b s : State} {v : _} (k : Part.within (Part.outs) w = true) (h : Frame w b s) :
    Frame w b { s with outs := v } :=
    Frame.upd (h_outs := fun x => Part.out_absurd k rfl x) (h := h)
theorem Frame.set_free {w : Nat} {b s : State} {v : _} (k : Part.within (Part.free) w = true) (h : Frame w b s) :
    Frame w b { s with free := v } :=
    Frame.upd (h_free := fun x => Part.out_absurd k rfl x) (h := h)
theorem Frame.set_sys_bk {w : Nat} {b s : State} {v_sys : _} {v_bk : _} (k : Part.within (Part.sys ||| Part.bk) w = true) (hl : s.sys.lock = true → v_sys.lock = true) (ho : s.sys.operational = true → v_sys.operational = true)
    (hb : Part.out Part.startup w = true → v_sys.start = s.sys.start ∧ v_sys.operational = s.sys.operational ∧ v_sys.lock = s.sys.lock) (h : Frame w b s) :
    Frame w b { s with sys := v_sys, bk := v_bk } :=
    Frame.upd (h_sys := fun x => Part.out_absurd k rfl x) (h_bk := fun x => Part.out_absurd k rfl x) (h_lock := fun _ => hl) (h_operational := fun _ => ho) (h_boot := fun x => Or.inl (hb x)) (h := h)
theorem Frame.set_bk_sc {w : Nat} {b s : State} {v_bk : _} {v_sc : _} (k : Part.within (Part.bk ||| Part.sc) w = true) (h1 : s.sc.debugFuse = true → v_sc.debugFuse = true) (h2 : s.sc.fwFloor ≤ v_sc.fwFloor)
    (h3 : ∀ k, s.sc.fwRevoked.testBit k = true → v_sc.fwRevoked.testBit k = true) (h4 : s.sc.enrolled <+: v_sc.enrolled) (h : Frame w b s) :
    Frame w b { s with bk := v_bk, sc := v_sc } :=
    Frame.upd (h_bk := fun x => Part.out_absurd k rfl x) (h_sc := fun x => Part.out_absurd k rfl x) (h_fuse := h1) (h_floor := h2) (h_revoked := h3) (h_enrolled := h4) (h := h)
theorem Frame.set_sys_cat {w : Nat} {b s : State} {v_sys : _} {v_cat : _} (k : Part.within (Part.sys ||| Part.cat) w = true) (hl : s.sys.lock = true → v_sys.lock = true) (ho : s.sys.operational = true → v_sys.operational = true)
    (hb : Part.out Part.startup w = true → v_sys.start = s.sys.start ∧ v_sys.operational = s.sys.operational ∧ v_sys.lock = s.sys.lock) (h : Frame w b s) :
    Frame w b { s with sys := v_sys, cat := v_cat } :=
    Frame.upd (h_sys := fun x => Part.out_absurd k rfl x) (h_cat := fun x => Part.out_absurd k rfl x) (h_lock := fun _ => hl) (h_operational := fun _ => ho) (h_boot := fun x => Or.inl (hb x)) (h := h)
theorem Frame.set_sys_time {w : Nat} {b s : State} {v_sys : _} {v_time : _} (k : Part.within (Part.sys ||| Part.time) w = true) (hl : s.sys.lock = true → v_sys.lock = true) (ho : s.sys.operational = true → v_sys.operational = true)
    (hb : Part.out Part.startup w = true → v_sys.start = s.sys.start ∧ v_sys.operational = s.sys.operational ∧ v_sys.lock = s.sys.lock) (ht : s.time.lt ≤ v_time.lt) (h : Frame w b s) :
    Frame w b { s with sys := v_sys, time := v_time } :=
    Frame.upd (h_sys := fun x => Part.out_absurd k rfl x) (h_time := fun x => Part.out_absurd k rfl x) (h_lock := fun _ => hl) (h_operational := fun _ => ho) (h_boot := fun x => Or.inl (hb x)) (h_lt := ht) (h := h)
theorem Frame.set_seq_twin {w : Nat} {b s : State} {v_seq : _} {v_twin : _} (k : Part.within (Part.seq ||| Part.twin) w = true) (ha : Part.out Part.actions w = true → v_seq.slots = s.seq.slots ∧ v_seq.imm = s.seq.imm) (h : Frame w b s) :
    Frame w b { s with seq := v_seq, twin := v_twin } :=
    Frame.upd (h_seq := fun x => Part.out_absurd k rfl x) (h_twin := fun x => Part.out_absurd k rfl x) (h_actions := ha) (h := h)
theorem Frame.set_sys_ilk {w : Nat} {b s : State} {v_sys : _} {v_ilk : _} (k : Part.within (Part.sys ||| Part.ilk) w = true) (hl : s.sys.lock = true → v_sys.lock = true) (ho : s.sys.operational = true → v_sys.operational = true)
    (hb : Part.out Part.startup w = true → v_sys.start = s.sys.start ∧ v_sys.operational = s.sys.operational ∧ v_sys.lock = s.sys.lock) (h : Frame w b s) :
    Frame w b { s with sys := v_sys, ilk := v_ilk } :=
    Frame.upd (h_sys := fun x => Part.out_absurd k rfl x) (h_ilk := fun x => Part.out_absurd k rfl x) (h_lock := fun _ => hl) (h_operational := fun _ => ho) (h_boot := fun x => Or.inl (hb x)) (h := h)
theorem Frame.set_time_twin {w : Nat} {b s : State} {v_time : _} {v_twin : _} (k : Part.within (Part.time ||| Part.twin) w = true) (ht : s.time.lt ≤ v_time.lt) (h : Frame w b s) :
    Frame w b { s with time := v_time, twin := v_twin } :=
    Frame.upd (h_time := fun x => Part.out_absurd k rfl x) (h_twin := fun x => Part.out_absurd k rfl x) (h_lt := ht) (h := h)
theorem Frame.set_rcd_mem {w : Nat} {b s : State} {v_rcd : _} {v_mem : _} (k : Part.within (Part.rcd ||| Part.mem) w = true) (hm : Table.wf 0 s.mem = true → Table.wf 0 v_mem = true) (h : Frame w b s) :
    Frame w b { s with rcd := v_rcd, mem := v_mem } :=
    Frame.upd (h_rcd := fun x => Part.out_absurd k rfl x) (h_mem := fun x => Part.out_absurd k rfl x) (h_memWf := hm) (h := h)
theorem Frame.set_ilk_fio {w : Nat} {b s : State} {v_ilk : _} {v_fio : _} (k : Part.within (Part.ilk ||| Part.fio) w = true) (h : Frame w b s) :
    Frame w b { s with ilk := v_ilk, fio := v_fio } :=
    Frame.upd (h_ilk := fun x => Part.out_absurd k rfl x) (h_fio := fun x => Part.out_absurd k rfl x) (h := h)
theorem Frame.set_seq_trdp_twin {w : Nat} {b s : State} {v_seq : _} {v_trdp : _} {v_twin : _} (k : Part.within (Part.seq ||| Part.trdp ||| Part.twin) w = true) (ha : Part.out Part.actions w = true → v_seq.slots = s.seq.slots ∧ v_seq.imm = s.seq.imm) (h : Frame w b s) :
    Frame w b { s with seq := v_seq, trdp := v_trdp, twin := v_twin } :=
    Frame.upd (h_seq := fun x => Part.out_absurd k rfl x) (h_trdp := fun x => Part.out_absurd k rfl x) (h_twin := fun x => Part.out_absurd k rfl x) (h_actions := ha) (h := h)
theorem Frame.set_bk_time {w : Nat} {b s : State} {v_bk : _} {v_time : _} (k : Part.within (Part.bk ||| Part.time) w = true) (ht : s.time.lt ≤ v_time.lt) (h : Frame w b s) :
    Frame w b { s with bk := v_bk, time := v_time } :=
    Frame.upd (h_bk := fun x => Part.out_absurd k rfl x) (h_time := fun x => Part.out_absurd k rfl x) (h_lt := ht) (h := h)
theorem Frame.set_rcd_ilk {w : Nat} {b s : State} {v_rcd : _} {v_ilk : _} (k : Part.within (Part.rcd ||| Part.ilk) w = true) (h : Frame w b s) :
    Frame w b { s with rcd := v_rcd, ilk := v_ilk } :=
    Frame.upd (h_rcd := fun x => Part.out_absurd k rfl x) (h_ilk := fun x => Part.out_absurd k rfl x) (h := h)

theorem Frame.set_rcd_free {w : Nat} {b s : State} {v_rcd : _} {v_free : _} (k : Part.within (Part.rcd ||| Part.free) w = true) (h : Frame w b s) :
    Frame w b { s with rcd := v_rcd, free := v_free } :=
    Frame.upd (h_rcd := fun x => Part.out_absurd k rfl x) (h_free := fun x => Part.out_absurd k rfl x) (h := h)
theorem Frame.set_sys_bk_time {w : Nat} {b s : State} {v_sys : _} {v_bk : _} {v_time : _} (k : Part.within (Part.sys ||| Part.bk ||| Part.time) w = true)
    (hl : s.sys.lock = true → v_sys.lock = true) (ho : s.sys.operational = true → v_sys.operational = true)
    (hb : Part.out Part.startup w = true → v_sys.start = s.sys.start ∧ v_sys.operational = s.sys.operational ∧ v_sys.lock = s.sys.lock)
    (ht : s.time.lt ≤ v_time.lt) (h : Frame w b s) :
    Frame w b { s with sys := v_sys, bk := v_bk, time := v_time } :=
    Frame.upd (h_sys := fun x => Part.out_absurd k rfl x) (h_bk := fun x => Part.out_absurd k rfl x) (h_time := fun x => Part.out_absurd k rfl x)
      (h_lock := fun _ => hl) (h_operational := fun _ => ho) (h_boot := fun x => Or.inl (hb x)) (h_lt := ht) (h := h)

theorem Frame.ite {w : Nat} {b x y : State} {c : Prop} {d : Decidable c} (hx : Frame w b x) (hy : Frame w b y) :
    Frame w b (if c then x else y) := by
  split
  · exact hx
  · exact hy

theorem when_frame {w : Nat} {b s : State} {c : Bool} {f : State → State} (hf : ∀ s, Frame w b s → Frame w b (f s)) (h : Frame w b s) :
    Frame w b (when_ c f s) := by
  cases c
  · exact h
  · exact hf s h

theorem forEach_frame {α : Type} {w : Nat} {b : State} {f : State → α → State} (hf : ∀ s x, Frame w b s → Frame w b (f s x)) :
    ∀ (l : List α) {s : State}, Frame w b s → Frame w b (forEach l f s)
  | [], _, h => h
  | x :: l, _, h => forEach_frame hf l (hf _ x h)

theorem foldl_fst_frame {α β : Type} {w : Nat} {b : State} {f : State × β → α → State × β}
    (hf : ∀ r x, Frame w b r.1 → Frame w b (f r x).1) : ∀ (l : List α) {r : State × β}, Frame w b r.1 → Frame w b (l.foldl f r).1
  | [], _, h => h
  | x :: l, _, h => foldl_fst_frame hf l (hf _ x h)

theorem foldl_frame {α : Type} {w : Nat} {b : State} {f : State → α → State} (hf : ∀ s x, Frame w b s → Frame w b (f s x)) :
    ∀ (l : List α) {s : State}, Frame w b s → Frame w b (l.foldl f s)
  | [], _, h => h
  | x :: l, _, h => foldl_frame hf l (hf _ x h)

end Sys2Proof.Machine
end

