-- ==== Sys2Proof/Laws/FrameOps.lean ====
section
/-!
SUPPORT. Sys2Proof/Laws/FrameOps.lean: the frame of each operation of Machine/Ops.lean.
-/
set_option Elab.async false
namespace Sys2Proof.Machine
open Sys2Proof

theorem State.setPortal_frame {w : Nat} {b s : State} {p v} (hw : Part.within Part.portals w = true)
    (hv : Part.out Part.states w = true → v.st = (s.portal p).st) (h : Frame w b s) : Frame w b (State.setPortal s p v) := by
  refine Frame.set_portals hw (fun k q => ?_) h
  rw [Table.get_set]
  split
  · subst q
    exact hv k
  · rfl

theorem State.modPortal_frame {w : Nat} {b s : State} {p f} (hw : Part.within Part.portals w = true)
    (hf : Part.out Part.states w = true → ∀ x, (f x).st = x.st) (h : Frame w b s) : Frame w b (State.modPortal s p f) :=
  State.setPortal_frame hw (fun k => hf k _) h

theorem State.setOb_frame {w : Nat} {b s : State} {n v} (hw : Part.within Part.obs w = true) (h : Frame w b s) :
    Frame w b (State.setOb s n v) := by
  unfold State.setOb
  repeat' first
    | with_reducible assumption | exact Part.within_trans (by decide) hw | with_reducible refine Frame.ite ?_ ?_ | split
    | with_reducible refine Frame.set_obs ?_ ?_

theorem State.modOb_frame {w : Nat} {b s : State} {n f} (hw : Part.within Part.obs w = true) (h : Frame w b s) :
    Frame w b (State.modOb s n f) := by
  unfold State.modOb
  repeat' first
    | with_reducible assumption | exact Part.within_trans (by decide) hw | with_reducible refine Frame.ite ?_ ?_
    | with_reducible refine State.setOb_frame ?_ ?_

theorem State.setAxis_frame {w : Nat} {b s : State} {n v} (hw : Part.within Part.axes w = true) (h : Frame w b s) :
    Frame w b (State.setAxis s n v) := by
  unfold State.setAxis
  repeat' first
    | with_reducible assumption | exact Part.within_trans (by decide) hw | with_reducible refine Frame.ite ?_ ?_ | split
    | with_reducible refine Frame.set_axes ?_ ?_

theorem State.modAxis_frame {w : Nat} {b s : State} {n f} (hw : Part.within Part.axes w = true) (h : Frame w b s) :
    Frame w b (State.modAxis s n f) := by
  unfold State.modAxis
  repeat' first
    | with_reducible assumption | exact Part.within_trans (by decide) hw | with_reducible refine Frame.ite ?_ ?_
    | with_reducible refine State.setAxis_frame ?_ ?_

theorem State.setFbp_frame {w : Nat} {b s : State} {n v} (hw : Part.within Part.fb w = true) (h : Frame w b s) :
    Frame w b (State.setFbp s n v) := by
  unfold State.setFbp
  repeat' first
    | with_reducible assumption | exact Part.within_trans (by decide) hw | with_reducible refine Frame.ite ?_ ?_ | split
    | with_reducible refine Frame.set_fb ?_ ?_

theorem State.modFbp_frame {w : Nat} {b s : State} {n f} (hw : Part.within Part.fb w = true) (h : Frame w b s) :
    Frame w b (State.modFbp s n f) := by
  unfold State.modFbp
  repeat' first
    | with_reducible assumption | exact Part.within_trans (by decide) hw | with_reducible refine Frame.ite ?_ ?_
    | with_reducible refine State.setFbp_frame ?_ ?_

theorem State.setLink_frame {w : Nat} {b s : State} {n v} (hw : Part.within Part.links w = true) (h : Frame w b s) :
    Frame w b (State.setLink s n v) := by
  unfold State.setLink
  repeat' first
    | with_reducible assumption | exact Part.within_trans (by decide) hw | with_reducible refine Frame.ite ?_ ?_ | split
    | with_reducible refine Frame.set_links ?_ ?_

theorem State.modLink_frame {w : Nat} {b s : State} {n f} (hw : Part.within Part.links w = true) (h : Frame w b s) :
    Frame w b (State.modLink s n f) := by
  unfold State.modLink
  repeat' first
    | with_reducible assumption | exact Part.within_trans (by decide) hw | with_reducible refine Frame.ite ?_ ?_
    | with_reducible refine State.setLink_frame ?_ ?_

theorem State.setSo_frame {w : Nat} {b s : State} {k v} (hw : Part.within Part.ilk w = true) (h : Frame w b s) :
    Frame w b (State.setSo s k v) := by
  unfold State.setSo
  repeat' first
    | with_reducible assumption | exact Part.within_trans (by decide) hw | with_reducible refine Frame.ite ?_ ?_ | split
    | (lift_lets; intros) | with_reducible refine Frame.set_ilk ?_ ?_

theorem State.modSo_frame {w : Nat} {b s : State} {k f} (hw : Part.within Part.ilk w = true) (h : Frame w b s) :
    Frame w b (State.modSo s k f) := by
  unfold State.modSo
  repeat' first
    | with_reducible assumption | exact Part.within_trans (by decide) hw | with_reducible refine Frame.ite ?_ ?_
    | with_reducible refine State.setSo_frame ?_ ?_

theorem State.setPair_frame {w : Nat} {b s : State} {i v} (hw : Part.within Part.ilk w = true) (h : Frame w b s) :
    Frame w b (State.setPair s i v) := by
  unfold State.setPair
  repeat' first
    | with_reducible assumption | exact Part.within_trans (by decide) hw | with_reducible refine Frame.ite ?_ ?_ | split
    | (lift_lets; intros) | with_reducible refine Frame.set_ilk ?_ ?_

theorem State.modPair_frame {w : Nat} {b s : State} {i f} (hw : Part.within Part.ilk w = true) (h : Frame w b s) :
    Frame w b (State.modPair s i f) := by
  unfold State.modPair
  repeat' first
    | with_reducible assumption | exact Part.within_trans (by decide) hw | with_reducible refine Frame.ite ?_ ?_
    | with_reducible refine State.setPair_frame ?_ ?_

theorem State.setMon_frame {w : Nat} {b s : State} {i v} (hw : Part.within Part.ilk w = true) (h : Frame w b s) :
    Frame w b (State.setMon s i v) := by
  unfold State.setMon
  repeat' first
    | with_reducible assumption | exact Part.within_trans (by decide) hw | with_reducible refine Frame.ite ?_ ?_ | split
    | (lift_lets; intros) | with_reducible refine Frame.set_ilk ?_ ?_

theorem State.modMon_frame {w : Nat} {b s : State} {i f} (hw : Part.within Part.ilk w = true) (h : Frame w b s) :
    Frame w b (State.modMon s i f) := by
  unfold State.modMon
  repeat' first
    | with_reducible assumption | exact Part.within_trans (by decide) hw | with_reducible refine Frame.ite ?_ ?_
    | with_reducible refine State.setMon_frame ?_ ?_

theorem State.setFlink_frame {w : Nat} {b s : State} {k v} (hw : Part.within Part.fio w = true) (h : Frame w b s) :
    Frame w b (State.setFlink s k v) := by
  unfold State.setFlink
  repeat' first
    | with_reducible assumption | exact Part.within_trans (by decide) hw | with_reducible refine Frame.ite ?_ ?_ | split
    | (lift_lets; intros) | with_reducible refine Frame.set_fio ?_ ?_

theorem State.modFlink_frame {w : Nat} {b s : State} {k f} (hw : Part.within Part.fio w = true) (h : Frame w b s) :
    Frame w b (State.modFlink s k f) := by
  unfold State.modFlink
  repeat' first
    | with_reducible assumption | exact Part.within_trans (by decide) hw | with_reducible refine Frame.ite ?_ ?_
    | with_reducible refine State.setFlink_frame ?_ ?_

theorem State.setDie_frame {w : Nat} {b s : State} {k v} (hw : Part.within Part.fio w = true) (h : Frame w b s) :
    Frame w b (State.setDie s k v) := by
  unfold State.setDie
  repeat' first
    | with_reducible assumption | exact Part.within_trans (by decide) hw | with_reducible refine Frame.ite ?_ ?_ | split
    | (lift_lets; intros) | with_reducible refine Frame.set_fio ?_ ?_

theorem State.modDie_frame {w : Nat} {b s : State} {k f} (hw : Part.within Part.fio w = true) (h : Frame w b s) :
    Frame w b (State.modDie s k f) := by
  unfold State.modDie
  repeat' first
    | with_reducible assumption | exact Part.within_trans (by decide) hw | with_reducible refine Frame.ite ?_ ?_
    | with_reducible refine State.setDie_frame ?_ ?_

theorem State.setSw_frame {w : Nat} {b s : State} {n v} (hw : Part.within Part.loads w = true) (h : Frame w b s) :
    Frame w b (State.setSw s n v) := by
  unfold State.setSw
  repeat' first
    | with_reducible assumption | exact Part.within_trans (by decide) hw | with_reducible refine Frame.ite ?_ ?_ | split
    | (lift_lets; intros) | with_reducible refine Frame.set_loads ?_ ?_

theorem State.modSw_frame {w : Nat} {b s : State} {n f} (hw : Part.within Part.loads w = true) (h : Frame w b s) :
    Frame w b (State.modSw s n f) := by
  unfold State.modSw
  repeat' first
    | with_reducible assumption | exact Part.within_trans (by decide) hw | with_reducible refine Frame.ite ?_ ?_
    | with_reducible refine State.setSw_frame ?_ ?_

theorem State.setBank_frame {w : Nat} {b s : State} {b' v} (hw : Part.within Part.loads w = true) (h : Frame w b s) :
    Frame w b (State.setBank s b' v) := by
  unfold State.setBank
  repeat' first
    | with_reducible assumption | exact Part.within_trans (by decide) hw | with_reducible refine Frame.ite ?_ ?_ | split
    | (lift_lets; intros) | with_reducible refine Frame.set_loads ?_ ?_

theorem State.modBank_frame {w : Nat} {b s : State} {b' f} (hw : Part.within Part.loads w = true) (h : Frame w b s) :
    Frame w b (State.modBank s b' f) := by
  unfold State.modBank
  repeat' first
    | with_reducible assumption | exact Part.within_trans (by decide) hw | with_reducible refine Frame.ite ?_ ?_
    | with_reducible refine State.setBank_frame ?_ ?_

theorem State.setPort_frame {w : Nat} {b s : State} {i v} (hw : Part.within Part.net w = true) (h : Frame w b s) :
    Frame w b (State.setPort s i v) := by
  unfold State.setPort
  repeat' first
    | with_reducible assumption | exact Part.within_trans (by decide) hw | with_reducible refine Frame.ite ?_ ?_ | split
    | (lift_lets; intros) | with_reducible refine Frame.set_net ?_ ?_

theorem State.modPort_frame {w : Nat} {b s : State} {i f} (hw : Part.within Part.net w = true) (h : Frame w b s) :
    Frame w b (State.modPort s i f) := by
  unfold State.modPort
  repeat' first
    | with_reducible assumption | exact Part.within_trans (by decide) hw | with_reducible refine Frame.ite ?_ ?_
    | with_reducible refine State.setPort_frame ?_ ?_

theorem State.setConn_frame {w : Nat} {b s : State} {c v} (hw : Part.within Part.conns w = true) (h : Frame w b s) :
    Frame w b (State.setConn s c v) := by
  unfold State.setConn
  repeat' first
    | with_reducible assumption | exact Part.within_trans (by decide) hw | with_reducible refine Frame.ite ?_ ?_ | split
    | with_reducible refine Frame.set_conns ?_ ?_

theorem State.modConn_frame {w : Nat} {b s : State} {c f} (hw : Part.within Part.conns w = true) (h : Frame w b s) :
    Frame w b (State.modConn s c f) := by
  unfold State.modConn
  repeat' first
    | with_reducible assumption | exact Part.within_trans (by decide) hw | with_reducible refine Frame.ite ?_ ?_
    | with_reducible refine State.setConn_frame ?_ ?_

theorem State.setSlot_frame {w : Nat} {b s : State} {i v} (hw : Part.within (Part.seq ||| Part.actions) w = true) (h : Frame w b s) :
    Frame w b (State.setSlot s i v) := by
  unfold State.setSlot
  repeat' first
    | with_reducible assumption | exact Part.within_trans (by decide) hw | with_reducible refine Frame.ite ?_ ?_
    | exact fun _ => ⟨rfl, rfl⟩ | exact fun k => Part.out_absurd hw (by decide) k | split | (lift_lets; intros)
    | with_reducible refine Frame.set_seq ?_ ?_ ?_

theorem State.setTracker_frame {w : Nat} {b s : State} {d v} (hw : Part.within Part.time w = true) (h : Frame w b s) :
    Frame w b (State.setTracker s d v) := by
  unfold State.setTracker
  repeat' first
    | with_reducible assumption | exact Part.within_trans (by decide) hw | with_reducible refine Frame.ite ?_ ?_ | exact Nat.le_refl _
    | split | (lift_lets; intros) | with_reducible refine Frame.set_time ?_ ?_ ?_

theorem State.modTracker_frame {w : Nat} {b s : State} {d f} (hw : Part.within Part.time w = true) (h : Frame w b s) :
    Frame w b (State.modTracker s d f) := by
  unfold State.modTracker
  repeat' first
    | with_reducible assumption | exact Part.within_trans (by decide) hw | with_reducible refine Frame.ite ?_ ?_
    | with_reducible refine State.setTracker_frame ?_ ?_

theorem State.setPtpPort_frame {w : Nat} {b s : State} {i v} (hw : Part.within Part.time w = true) (h : Frame w b s) :
    Frame w b (State.setPtpPort s i v) := by
  unfold State.setPtpPort
  repeat' first
    | with_reducible assumption | exact Part.within_trans (by decide) hw | with_reducible refine Frame.ite ?_ ?_ | exact Nat.le_refl _
    | split | (lift_lets; intros) | with_reducible refine Frame.set_time ?_ ?_ ?_

theorem State.modPtpPort_frame {w : Nat} {b s : State} {i f} (hw : Part.within Part.time w = true) (h : Frame w b s) :
    Frame w b (State.modPtpPort s i f) := by
  unfold State.modPtpPort
  repeat' first
    | with_reducible assumption | exact Part.within_trans (by decide) hw | with_reducible refine Frame.ite ?_ ?_
    | with_reducible refine State.setPtpPort_frame ?_ ?_

theorem State.setSyncPort_frame {w : Nat} {b s : State} {d i v} (hw : Part.within Part.time w = true) (h : Frame w b s) :
    Frame w b (State.setSyncPort s d i v) := by
  unfold State.setSyncPort
  repeat' first
    | with_reducible assumption | exact Part.within_trans (by decide) hw | with_reducible refine Frame.ite ?_ ?_ | exact Nat.le_refl _
    | split | (lift_lets; intros) | with_reducible refine Frame.set_time ?_ ?_ ?_

theorem State.modSyncPort_frame {w : Nat} {b s : State} {d i f} (hw : Part.within Part.time w = true) (h : Frame w b s) :
    Frame w b (State.modSyncPort s d i f) := by
  unfold State.modSyncPort
  repeat' first
    | with_reducible assumption | exact Part.within_trans (by decide) hw | with_reducible refine Frame.ite ?_ ?_
    | with_reducible refine State.setSyncPort_frame ?_ ?_

theorem State.setMrst_frame {w : Nat} {b s : State} {i v} (hw : Part.within Part.fio w = true) (h : Frame w b s) :
    Frame w b (State.setMrst s i v) := by
  unfold State.setMrst
  repeat' first
    | with_reducible assumption | exact Part.within_trans (by decide) hw | with_reducible refine Frame.ite ?_ ?_ | split
    | (lift_lets; intros) | with_reducible refine Frame.set_fio ?_ ?_

theorem State.modMrst_frame {w : Nat} {b s : State} {i f} (hw : Part.within Part.fio w = true) (h : Frame w b s) :
    Frame w b (State.modMrst s i f) := by
  unfold State.modMrst
  repeat' first
    | with_reducible assumption | exact Part.within_trans (by decide) hw | with_reducible refine Frame.ite ?_ ?_
    | with_reducible refine State.setMrst_frame ?_ ?_

theorem State.setReg_frame {w : Nat} {b s : State} {r i j v} (hw : Part.within Part.regs w = true) (h : Frame w b s) :
    Frame w b (State.setReg s r i j v) := by
  unfold State.setReg
  repeat' first
    | with_reducible assumption | exact Part.within_trans (by decide) hw | with_reducible refine Frame.ite ?_ ?_ | split
    | with_reducible refine Frame.set_regs ?_ ?_

theorem State.pass_frame {w : Nat} {b s : State} {n} (hw : Part.within (Part.bk ||| Part.time) w = true) (h : Frame w b s) :
    Frame w b (State.pass s n) := by
  unfold State.pass
  exact Frame.set_bk_time hw (Nat.le_add_right _ _) h

theorem State.passTo_frame {w : Nat} {b s : State} {t} (hw : Part.within (Part.bk ||| Part.time) w = true) (h : Frame w b s) :
    Frame w b (State.passTo s t) := by
  unfold State.passTo
  repeat' first
    | with_reducible assumption | exact Part.within_trans (by decide) hw | with_reducible refine Frame.ite ?_ ?_
    | with_reducible refine State.pass_frame ?_ ?_

theorem State.count_frame {w : Nat} {b s : State} {i n} (hw : Part.within Part.cnt w = true) (h : Frame w b s) :
    Frame w b (State.count s i n) := by
  unfold State.count
  repeat' first
    | with_reducible assumption | exact Part.within_trans (by decide) hw | with_reducible refine Frame.ite ?_ ?_ | split
    | (lift_lets; intros) | with_reducible refine Frame.set_cnt ?_ ?_

theorem State.raiseBody_frame {w : Nat} {b s : State} {code body} (hw : Part.within (Part.rcd ||| Part.cnt) w = true) (h : Frame w b s) :
    Frame w b (State.raiseBody s code body) := by
  unfold State.raiseBody
  repeat' first
    | with_reducible assumption | exact Part.within_trans (by decide) hw | with_reducible refine Frame.ite ?_ ?_
    | with_reducible refine State.count_frame ?_ ?_ | split | (lift_lets; intros) | with_reducible refine Frame.set_rcd ?_ ?_

theorem State.raise_frame {w : Nat} {b s : State} {code inst vals} (hw : Part.within (Part.rcd ||| Part.cnt) w = true) (h : Frame w b s) :
    Frame w b (State.raise s code inst vals) := by
  unfold State.raise
  repeat' first
    | with_reducible assumption | exact Part.within_trans (by decide) hw | with_reducible refine Frame.ite ?_ ?_
    | with_reducible refine State.raiseBody_frame ?_ ?_

theorem State.raiseRated_frame {w : Nat} {b s : State} {code inst cause vals} (hw : Part.within (Part.rcd ||| Part.cnt) w = true) (h :
    Frame w b s) :
    Frame w b (State.raiseRated s code inst cause vals) := by
  unfold State.raiseRated
  repeat' first
    | with_reducible assumption | exact Part.within_trans (by decide) hw | with_reducible refine Frame.ite ?_ ?_
    | with_reducible refine State.raiseBody_frame ?_ ?_ | split | (lift_lets; intros) | with_reducible refine Frame.set_rcd ?_ ?_

theorem State.setMemByte_frame {w : Nat} {b s : State} {a b'} (hw : Part.within Part.mem w = true) (h : Frame w b s) :
    Frame w b (State.setMemByte s a b') := by
  unfold State.setMemByte
  exact Frame.set_mem hw (Table.wf_set _ _ _ _) h

theorem wf_storeBytes (d : Byte) : ∀ (bs : List Byte) (m : List Host.Cell) (a : Nat), Table.wf d m = true → Table.wf d (storeBytes d m a
    bs) = true
  | [], _, _, h => h
  | x :: bs, m, a, h => wf_storeBytes d bs _ _ (Table.wf_set d m a x h)

theorem State.setMem_frame {w : Nat} {b s : State} {a bs} (hw : Part.within Part.mem w = true) (h : Frame w b s) :
    Frame w b (State.setMem s a bs) :=
  Frame.set_mem hw (wf_storeBytes _ _ _ _) h

theorem State.setFlash_frame {w : Nat} {b s : State} {a bs} (hw : Part.within Part.flash w = true) (h : Frame w b s) :
    Frame w b (State.setFlash s a bs) := 
  Frame.set_flash hw (wf_storeBytes _ _ _ _) h

theorem State.emit_frame {w : Nat} {b s : State} {o} (hw : Part.within Part.outs w = true) (h : Frame w b s) :
    Frame w b (State.emit s o) := by
  unfold State.emit
  repeat' first
    | with_reducible assumption | exact Part.within_trans (by decide) hw | with_reducible refine Frame.ite ?_ ?_ | split
    | with_reducible refine Frame.set_outs ?_ ?_

theorem State.draw_frame {w : Nat} {b s : State} {w'} (hw : Part.within Part.free w = true) (h : Frame w b s) :
    Frame w b (State.draw s w').2 := by
  unfold State.draw
  repeat' first
    | with_reducible assumption | exact Part.within_trans (by decide) hw | with_reducible refine Frame.ite ?_ ?_ | split
    | with_reducible refine Frame.set_free ?_ ?_

theorem State.random_frame {w : Nat} {b s : State} (hw : Part.within Part.free w = true) (h : Frame w b s) :
    Frame w b (State.random s).2 := by
  unfold State.random
  repeat' first
    | with_reducible assumption | exact Part.within_trans (by decide) hw | with_reducible refine Frame.ite ?_ ?_ | split
    | with_reducible refine Frame.set_free ?_ ?_

end Sys2Proof.Machine
end

