-- ==== Sys2Proof/Laws/FrameOperands.lean ====
section
/-!
SUPPORT. Sys2Proof/Laws/FrameOperands.lean: the frame of each operation of Machine/Operands.lean.
-/
set_option Elab.async false
namespace Sys2Proof.Machine
open Sys2Proof

theorem State.commandSwitch_frame {w : Nat} {b s : State} {n} (hw : Part.within Part.loads w = true) (h : Frame w b s) :
    Frame w b (State.commandSwitch s n) := by
  unfold State.commandSwitch
  repeat' first
    | with_reducible assumption | exact Part.within_trans (by decide) hw | with_reducible refine Frame.ite ?_ ?_
    | with_reducible refine State.setSw_frame ?_ ?_

theorem State.commandSwitches_frame {w : Nat} {b s : State} (hw : Part.within Part.loads w = true) (h : Frame w b s) :
    Frame w b (State.commandSwitches s) := by
  unfold State.commandSwitches
  repeat' first
    | with_reducible assumption | exact Part.within_trans (by decide) hw | with_reducible refine Frame.ite ?_ ?_
    | with_reducible refine forEach_frame (fun _ _ _ => ?_) _ ?_ | with_reducible refine State.commandSwitch_frame ?_ ?_

end Sys2Proof.Machine
end

