-- ==== Sys2Proof/Laws/FrameMotion.lean ====
section
/-!
SUPPORT. Sys2Proof/Laws/FrameMotion.lean: the frame of each operation of Machine/Motion.lean.
-/
set_option Elab.async false
namespace Sys2Proof.Machine
open Sys2Proof

theorem State.planAxis_frame {w : Nat} {b s : State} {n cur} (hw : Part.within Part.axes w = true) (h : Frame w b s) :
    Frame w b (State.planAxis s n cur) := by
  unfold State.planAxis
  dsimp only
  split
  · exact h
  · exact State.setAxis_frame hw h

theorem State.startQueue_frame {w : Nat} {b s : State} {n cur} (hw : Part.within Part.axes w = true) (h : Frame w b s) :
    Frame w b (State.startQueue s n cur) := by
  unfold State.startQueue
  repeat' first
    | with_reducible assumption | exact Part.within_trans (by decide) hw | with_reducible refine Frame.ite ?_ ?_
    | with_reducible refine State.planAxis_frame ?_ ?_ | with_reducible refine State.setAxis_frame ?_ ?_

theorem State.replaceSeg_frame {w : Nat} {b s : State} {n g} (hw : Part.within Part.axes w = true) (h : Frame w b s) :
    Frame w b (State.replaceSeg s n g) := by
  unfold State.replaceSeg
  repeat' first
    | with_reducible assumption | exact Part.within_trans (by decide) hw | with_reducible refine Frame.ite ?_ ?_
    | with_reducible refine State.modAxis_frame ?_ ?_ | with_reducible refine State.startQueue_frame ?_ ?_

theorem State.torqueOffNow_frame {w : Nat} {b s : State} {n} (hw : Part.within Part.axes w = true) (h : Frame w b s) :
    Frame w b (State.torqueOffNow s n) := by
  unfold State.torqueOffNow
  repeat' first
    | with_reducible assumption | exact Part.within_trans (by decide) hw | with_reducible refine Frame.ite ?_ ?_
    | with_reducible refine State.modAxis_frame ?_ ?_

theorem State.removeTorque_frame {w : Nat} {b s : State} {n} (hw : Part.within Part.axes w = true) (h : Frame w b s) :
    Frame w b (State.removeTorque s n) := by
  unfold State.removeTorque
  repeat' first
    | with_reducible assumption | exact Part.within_trans (by decide) hw | with_reducible refine Frame.ite ?_ ?_
    | with_reducible refine State.setAxis_frame ?_ ?_ | with_reducible refine State.torqueOffNow_frame ?_ ?_ | split | (lift_lets; intros)

theorem State.freeLeaf_frame {w : Nat} {b s : State} {n} (hw : Part.within Part.axes w = true) (h : Frame w b s) :
    Frame w b (State.freeLeaf s n) := by
  unfold State.freeLeaf
  repeat' first
    | with_reducible assumption | exact Part.within_trans (by decide) hw | with_reducible refine Frame.ite ?_ ?_
    | with_reducible refine State.modAxis_frame ?_ ?_

theorem State.emergencyStop_frame {w : Nat} {b s : State} {n c} (hw : Part.within Part.axes w = true) (h : Frame w b s) :
    Frame w b (State.emergencyStop s n c) := by
  unfold State.emergencyStop
  repeat' first
    | with_reducible assumption | exact Part.within_trans (by decide) hw | with_reducible refine Frame.ite ?_ ?_
    | with_reducible refine State.torqueOffNow_frame ?_ ?_ | with_reducible refine State.setAxis_frame ?_ ?_ | split | (lift_lets; intros)

theorem State.faultAxis_frame {w : Nat} {b s : State} {n c} (hw : Part.within Part.axes w = true) (h : Frame w b s) :
    Frame w b (State.faultAxis s n c) := by
  unfold State.faultAxis
  repeat' first
    | with_reducible assumption | exact Part.within_trans (by decide) hw | with_reducible refine Frame.ite ?_ ?_
    | with_reducible refine State.modAxis_frame ?_ ?_ | with_reducible refine State.emergencyStop_frame ?_ ?_

theorem State.faultAxisOff_frame {w : Nat} {b s : State} {n c} (hw : Part.within Part.axes w = true) (h : Frame w b s) :
    Frame w b (State.faultAxisOff s n c) := by
  unfold State.faultAxisOff
  repeat' first
    | with_reducible assumption | exact Part.within_trans (by decide) hw | with_reducible refine Frame.ite ?_ ?_
    | with_reducible refine State.modAxis_frame ?_ ?_ | with_reducible refine State.torqueOffNow_frame ?_ ?_

theorem State.startHoming_frame {w : Nat} {b s : State} {n} (hw : Part.within Part.axes w = true) (h : Frame w b s) :
    Frame w b (State.startHoming s n) := by
  unfold State.startHoming
  repeat' first
    | with_reducible assumption | exact Part.within_trans (by decide) hw | with_reducible refine Frame.ite ?_ ?_
    | with_reducible refine State.modAxis_frame ?_ ?_ | split | (lift_lets; intros)

theorem State.searchStart_frame {w : Nat} {b s : State} {n} (hw : Part.within Part.axes w = true) (h : Frame w b s) :
    Frame w b (State.searchStart s n) := by
  unfold State.searchStart
  repeat' first
    | with_reducible assumption | exact Part.within_trans (by decide) hw | with_reducible refine Frame.ite ?_ ?_
    | with_reducible refine State.setAxis_frame ?_ ?_ | split | (lift_lets; intros)

theorem State.adaptCycle_frame {w : Nat} {b s : State} {n x reduce} (hw : Part.within (Part.cnt ||| Part.axes) w = true) (h : Frame w b
    s) :
    Frame w b (State.adaptCycle s n x reduce) := by
  unfold State.adaptCycle
  repeat' first
    | with_reducible assumption | exact Part.within_trans (by decide) hw | with_reducible refine Frame.ite ?_ ?_
    | with_reducible refine State.setAxis_frame ?_ ?_ | with_reducible refine State.planAxis_frame ?_ ?_
    | with_reducible refine State.count_frame ?_ ?_ | split | (lift_lets; intros)

theorem State.segmentEnd_frame {w : Nat} {b s : State} {n x q over'} (hw : Part.within Part.axes w = true) (h : Frame w b s) :
    Frame w b (State.segmentEnd s n x q over') := by
  unfold State.segmentEnd
  repeat' first
    | with_reducible assumption | exact Part.within_trans (by decide) hw | with_reducible refine Frame.ite ?_ ?_
    | with_reducible refine State.planAxis_frame ?_ ?_ | with_reducible refine State.setAxis_frame ?_ ?_ | split | (lift_lets; intros)

theorem State.planCycle_frame {w : Nat} {b s : State} {n q done} (hw : Part.within (Part.cnt ||| Part.axes) w = true) (h : Frame w b s)
    (hd : ∀ s x k, Frame w b s → Frame w b (done s x k)) :
    Frame w b (State.planCycle s n q done) := by
  unfold State.planCycle
  repeat' first
    | with_reducible assumption | with_reducible refine hd _ _ _ ?_ | exact Part.within_trans (by decide) hw | with_reducible refine Frame.ite ?_ ?_
    | with_reducible refine State.adaptCycle_frame ?_ ?_ | with_reducible refine State.count_frame ?_ ?_
    | with_reducible refine State.setAxis_frame ?_ ?_ | split | (lift_lets; intros)

theorem State.executeCycle_frame {w : Nat} {b s : State} {n} (hw : Part.within (Part.cnt ||| Part.axes) w = true) (h : Frame w b s) :
    Frame w b (State.executeCycle s n) := by
  unfold State.executeCycle
  repeat' first
    | with_reducible assumption | exact Part.within_trans (by decide) hw | with_reducible refine Frame.ite ?_ ?_
    | with_reducible refine State.setAxis_frame ?_ ?_ | with_reducible refine State.startQueue_frame ?_ ?_
    | with_reducible refine State.planCycle_frame ?_ ?_ (fun _ _ _ _ => ?_) | with_reducible refine State.segmentEnd_frame ?_ ?_ | split | (lift_lets; intros)

theorem State.emergencyCycle_frame {w : Nat} {b s : State} {n} (hw : Part.within Part.axes w = true) (h : Frame w b s) :
    Frame w b (State.emergencyCycle s n) := by
  unfold State.emergencyCycle
  repeat' first
    | with_reducible assumption | exact Part.within_trans (by decide) hw | with_reducible refine Frame.ite ?_ ?_
    | with_reducible refine State.setAxis_frame ?_ ?_ | split | (lift_lets; intros)

theorem State.homingCycle_frame {w : Nat} {b s : State} {n} (hw : Part.within (Part.cnt ||| Part.axes) w = true) (h : Frame w b s) :
    Frame w b (State.homingCycle s n) := by
  unfold State.homingCycle
  repeat' first
    | with_reducible assumption | exact Part.within_trans (by decide) hw | with_reducible refine Frame.ite ?_ ?_
    | with_reducible refine State.setAxis_frame ?_ ?_ | with_reducible refine State.searchStart_frame ?_ ?_
    | with_reducible refine State.planCycle_frame ?_ ?_ (fun _ _ _ _ => ?_) | split | (lift_lets; intros)

theorem State.takePending_frame {w : Nat} {b s : State} {n} (hw : Part.within Part.axes w = true) (h : Frame w b s) :
    Frame w b (State.takePending s n) := by
  unfold State.takePending
  repeat' first
    | with_reducible assumption | exact Part.within_trans (by decide) hw | with_reducible refine Frame.ite ?_ ?_
    | with_reducible refine State.setAxis_frame ?_ ?_ | with_reducible refine State.replaceSeg_frame ?_ ?_ | split | (lift_lets; intros)

theorem State.stepCycle_frame {w : Nat} {b s : State} {n} (hw : Part.within (Part.axes ||| Part.outs) w = true) (h : Frame w b s) :
    Frame w b (State.stepCycle s n) := by
  unfold State.stepCycle
  repeat' first
    | with_reducible assumption | exact Part.within_trans (by decide) hw | with_reducible refine Frame.ite ?_ ?_
    | with_reducible refine State.setAxis_frame ?_ ?_ | with_reducible refine State.emit_frame ?_ ?_ | split | (lift_lets; intros)

theorem State.watchCycle_frame {w : Nat} {b s : State} {n} (hw : Part.within Part.axes w = true) (h : Frame w b s) :
    Frame w b (State.watchCycle s n) := by
  unfold State.watchCycle
  repeat' first
    | with_reducible assumption | exact Part.within_trans (by decide) hw | with_reducible refine Frame.ite ?_ ?_
    | with_reducible refine State.setAxis_frame ?_ ?_

theorem State.loseReference_frame {w : Nat} {b s : State} {n} (hw : Part.within Part.axes w = true) (h : Frame w b s) :
    Frame w b (State.loseReference s n) := by
  unfold State.loseReference
  repeat' first
    | with_reducible assumption | exact Part.within_trans (by decide) hw | with_reducible refine Frame.ite ?_ ?_
    | with_reducible refine State.modAxis_frame ?_ ?_ | with_reducible refine State.planAxis_frame ?_ ?_ | split | (lift_lets; intros)

theorem State.engineCycle_frame {w : Nat} {b s : State} {n} (hw : Part.within (Part.cnt ||| Part.axes ||| Part.outs) w = true) (h : Frame
    w b s) :
    Frame w b (State.engineCycle s n) := by
  unfold State.engineCycle
  lift_lets
  intro s0 s1 s2
  have h0 : Frame w b s0 := State.takePending_frame (Part.within_trans (by decide) hw) (State.modAxis_frame (Part.within_trans (by
    decide) hw) h)
  have h1 : Frame w b s1 := by
    show Frame w b (match (s0.axis n).mode with | .off => _ | .executing => _ | .emergency => _ | .homing => _ | .holding => _ | _ => _)
    split
    · exact State.modAxis_frame (Part.within_trans (by decide) hw) h0
    · exact State.executeCycle_frame (Part.within_trans (by decide) hw) h0
    · exact State.emergencyCycle_frame (Part.within_trans (by decide) hw) h0
    · exact State.homingCycle_frame (Part.within_trans (by decide) hw) h0
    · exact Frame.ite (State.startQueue_frame (Part.within_trans (by decide) hw) h0) h0
    · exact h0
  have h2 : Frame w b s2 := State.stepCycle_frame (Part.within_trans (by decide) hw) h1
  intros
  exact State.watchCycle_frame (Part.within_trans (by decide) hw) (State.setAxis_frame (Part.within_trans (by decide) hw)
    (State.modAxis_frame (Part.within_trans (by decide) hw) h2))

theorem State.rejectSeg_frame {w : Nat} {b s : State} {n c} (hw : Part.within (Part.rcd ||| Part.cnt ||| Part.axes) w = true) (h : Frame
    w b s) :
    Frame w b (State.rejectSeg s n c) := by
  unfold State.rejectSeg
  repeat' first
    | with_reducible assumption | exact Part.within_trans (by decide) hw | with_reducible refine Frame.ite ?_ ?_
    | with_reducible refine State.modAxis_frame ?_ ?_ | with_reducible refine State.raise_frame ?_ ?_

theorem State.appendSeg_frame {w : Nat} {b s : State} {n} (hw : Part.within (Part.rcd ||| Part.cnt ||| Part.axes) w = true) (h : Frame w
    b s) :
    Frame w b (State.appendSeg s n) := by
  unfold State.appendSeg
  repeat' first
    | with_reducible assumption | exact Part.within_trans (by decide) hw | with_reducible refine Frame.ite ?_ ?_
    | with_reducible refine State.rejectSeg_frame ?_ ?_ | with_reducible refine State.setAxis_frame ?_ ?_
    | with_reducible refine State.startQueue_frame ?_ ?_ | split | (lift_lets; intros)

theorem State.replacePush_frame {w : Nat} {b s : State} {n} (hw : Part.within (Part.rcd ||| Part.cnt ||| Part.axes) w = true) (h : Frame
    w b s) :
    Frame w b (State.replacePush s n) := by
  unfold State.replacePush
  repeat' first
    | with_reducible assumption | exact Part.within_trans (by decide) hw | with_reducible refine Frame.ite ?_ ?_
    | with_reducible refine State.rejectSeg_frame ?_ ?_ | with_reducible refine State.setAxis_frame ?_ ?_
    | with_reducible refine State.replaceSeg_frame ?_ ?_ | split | (lift_lets; intros)

theorem State.stopAxis_frame {w : Nat} {b s : State} {n emg} (hw : Part.within Part.axes w = true) (h : Frame w b s) :
    Frame w b (State.stopAxis s n emg) := by
  unfold State.stopAxis
  repeat' first
    | with_reducible assumption | exact Part.within_trans (by decide) hw | with_reducible refine Frame.ite ?_ ?_
    | with_reducible refine State.emergencyStop_frame ?_ ?_ | with_reducible refine State.setAxis_frame ?_ ?_ | split
    | (lift_lets; intros)

theorem State.clearChatter_frame {w : Nat} {b s : State} {n} (hw : Part.within Part.axes w = true) (h : Frame w b s) :
    Frame w b (State.clearChatter s n) := by
  unfold State.clearChatter
  repeat' first
    | with_reducible assumption | exact Part.within_trans (by decide) hw | with_reducible refine Frame.ite ?_ ?_
    | with_reducible refine when_frame (fun _ _ => ?_) ?_ | with_reducible refine State.modAxis_frame ?_ ?_

theorem State.emergencyRest_frame {w : Nat} {b s : State} {n} (hw : Part.within (Part.rcd ||| Part.cnt ||| Part.obs ||| Part.axes) w =
    true) (h : Frame w b s) :
    Frame w b (State.emergencyRest s n) := by
  unfold State.emergencyRest
  repeat' first
    | with_reducible assumption | exact Part.within_trans (by decide) hw | with_reducible refine Frame.ite ?_ ?_
    | with_reducible refine State.torqueOffNow_frame ?_ ?_ | with_reducible refine State.setAxis_frame ?_ ?_
    | with_reducible refine State.planAxis_frame ?_ ?_ | with_reducible refine State.modOb_frame ?_ ?_
    | with_reducible refine State.raise_frame ?_ ?_ | with_reducible refine State.faultAxisOff_frame ?_ ?_ | split | (lift_lets; intros)

theorem State.stall_frame {w : Nat} {b s : State} {n current} (hw : Part.within (Part.bk ||| Part.rcd ||| Part.cnt ||| Part.time |||
    Part.axes) w = true) (h : Frame w b s) :
    Frame w b (State.stall s n current) := by
  unfold State.stall
  repeat' first
    | with_reducible assumption | exact Part.within_trans (by decide) hw | with_reducible refine Frame.ite ?_ ?_
    | with_reducible refine State.raise_frame ?_ ?_ | with_reducible refine State.faultAxis_frame ?_ ?_
    | with_reducible refine State.count_frame ?_ ?_ | with_reducible refine State.passTo_frame ?_ ?_ | split | (lift_lets; intros)

theorem State.limitTrip_frame {w : Nat} {b s : State} {n opening} (hw : Part.within (Part.rcd ||| Part.cnt ||| Part.axes) w = true) (h :
    Frame w b s) :
    Frame w b (State.limitTrip s n opening) := by
  unfold State.limitTrip
  repeat' first
    | with_reducible assumption | exact Part.within_trans (by decide) hw | with_reducible refine Frame.ite ?_ ?_
    | with_reducible refine when_frame (fun _ _ => ?_) ?_ | with_reducible refine State.raise_frame ?_ ?_
    | with_reducible refine State.faultAxis_frame ?_ ?_ | with_reducible refine State.count_frame ?_ ?_ | split | (lift_lets; intros)

theorem State.chatterFault_frame {w : Nat} {b s : State} {n k} (hw : Part.within (Part.rcd ||| Part.cnt ||| Part.axes) w = true) (h :
    Frame w b s) :
    Frame w b (State.chatterFault s n k) := by
  unfold State.chatterFault
  repeat' first
    | with_reducible assumption | exact Part.within_trans (by decide) hw | with_reducible refine Frame.ite ?_ ?_
    | with_reducible refine when_frame (fun _ _ => ?_) ?_ | with_reducible refine State.modAxis_frame ?_ ?_
    | with_reducible refine State.raise_frame ?_ ?_ | with_reducible refine State.faultAxis_frame ?_ ?_ | split | (lift_lets; intros)

theorem State.noteChatter_frame {w : Nat} {b s : State} {n k level} (hw : Part.within Part.axes w = true) (h : Frame w b s) :
    Frame w b (State.noteChatter s n k level) := by
  unfold State.noteChatter
  repeat' first
    | with_reducible assumption | exact Part.within_trans (by decide) hw | with_reducible refine Frame.ite ?_ ?_
    | with_reducible refine State.modAxis_frame ?_ ?_

theorem State.stepLagFault_frame {w : Nat} {b s : State} {n} (hw : Part.within (Part.rcd ||| Part.cnt ||| Part.axes) w = true) (h : Frame
    w b s) :
    Frame w b (State.stepLagFault s n) := by
  unfold State.stepLagFault
  repeat' first
    | with_reducible assumption | exact Part.within_trans (by decide) hw | with_reducible refine Frame.ite ?_ ?_
    | with_reducible refine when_frame (fun _ _ => ?_) ?_ | with_reducible refine State.raise_frame ?_ ?_
    | with_reducible refine State.faultAxis_frame ?_ ?_

theorem State.homeLimit_frame {w : Nat} {b s : State} {n opening} (hw : Part.within Part.axes w = true) (h : Frame w b s) :
    Frame w b (State.homeLimit s n opening) := by
  unfold State.homeLimit
  repeat' first
    | with_reducible assumption | exact Part.within_trans (by decide) hw | with_reducible refine Frame.ite ?_ ?_
    | with_reducible refine when_frame (fun _ _ => ?_) ?_ | with_reducible refine State.emergencyStop_frame ?_ ?_

theorem State.brakeReleased_frame {w : Nat} {b s : State} {n} (hw : Part.within (Part.bk ||| Part.time ||| Part.axes) w = true) (h :
    Frame w b s) :
    Frame w b (State.brakeReleased s n) := by
  unfold State.brakeReleased
  repeat' first
    | with_reducible assumption | exact Part.within_trans (by decide) hw | with_reducible refine Frame.ite ?_ ?_
    | with_reducible refine State.passTo_frame ?_ ?_ | with_reducible refine State.modAxis_frame ?_ ?_ | split

theorem State.testPhase_frame {w : Nat} {b s : State} {n b'} (hw : Part.within (Part.axes ||| Part.ilk) w = true) (h : Frame w b s) :
    Frame w b (State.testPhase s n b') := by
  unfold State.testPhase
  repeat' first
    | with_reducible assumption | exact Part.within_trans (by decide) hw | with_reducible refine Frame.ite ?_ ?_
    | with_reducible refine State.modAxis_frame ?_ ?_ | split | (lift_lets; intros) | with_reducible refine Frame.set_ilk ?_ ?_

theorem State.testEnd_frame {w : Nat} {b s : State} {n b'} (hw : Part.within (Part.axes ||| Part.ilk) w = true) (h : Frame w b s) :
    Frame w b (State.testEnd s n b') := by
  unfold State.testEnd
  repeat' first
    | with_reducible assumption | exact Part.within_trans (by decide) hw | with_reducible refine Frame.ite ?_ ?_
    | with_reducible refine State.modAxis_frame ?_ ?_ | split | (lift_lets; intros) | with_reducible refine Frame.set_ilk ?_ ?_

theorem State.testAbort_frame {w : Nat} {b s : State} {n} (hw : Part.within (Part.rcd ||| Part.cnt ||| Part.axes ||| Part.ilk) w = true)
    (h : Frame w b s) :
    Frame w b (State.testAbort s n) := by
  unfold State.testAbort
  repeat' first
    | with_reducible assumption | exact Part.within_trans (by decide) hw | with_reducible refine Frame.ite ?_ ?_
    | with_reducible refine State.testEnd_frame ?_ ?_ | with_reducible refine State.raise_frame ?_ ?_ | split

theorem State.brakeApplied_frame {w : Nat} {b s : State} {n} (hw : Part.within (Part.bk ||| Part.time ||| Part.axes ||| Part.ilk) w =
    true) (h : Frame w b s) :
    Frame w b (State.brakeApplied s n) := by
  unfold State.brakeApplied
  repeat' first
    | with_reducible assumption | exact Part.within_trans (by decide) hw | with_reducible refine Frame.ite ?_ ?_
    | with_reducible refine State.torqueOffNow_frame ?_ ?_ | with_reducible refine State.testPhase_frame ?_ ?_
    | with_reducible refine State.passTo_frame ?_ ?_ | with_reducible refine State.modAxis_frame ?_ ?_ | split | (lift_lets; intros)

end Sys2Proof.Machine
end

