-- ==== Sys2Proof/Laws/FrameFeedback.lean ====
section
/-!
SUPPORT. Sys2Proof/Laws/FrameFeedback.lean: the frame of each operation of Machine/Feedback.lean.
-/

set_option Elab.async false
namespace Sys2Proof.Machine

open Sys2Proof

theorem State.fbFault_frame {w : Nat} {b s : State} {m c} (hw : Part.within (Part.rcd ||| Part.cnt ||| Part.axes ||| Part.fb) w = true)
    (h : Frame w b s) :
    Frame w b (State.fbFault s m c) := by
  unfold State.fbFault
  repeat' first
    | with_reducible assumption | exact Part.within_trans (by decide) hw | with_reducible refine Frame.ite ?_ ?_
    | with_reducible refine State.modFbp_frame ?_ ?_ | with_reducible refine State.raise_frame ?_ ?_
    | with_reducible refine State.faultAxis_frame ?_ ?_ | split | (lift_lets; intros)

theorem State.fbClear_frame {w : Nat} {b s : State} {m} (hw : Part.within Part.fb w = true) (h : Frame w b s) :
    Frame w b (State.fbClear s m) := by
  unfold State.fbClear
  repeat' first
    | with_reducible assumption | exact Part.within_trans (by decide) hw | with_reducible refine Frame.ite ?_ ?_
    | with_reducible refine State.modFbp_frame ?_ ?_

theorem State.divCatch_frame {w : Nat} {b s : State} {m} (hw : Part.within (Part.fb ||| Part.outs) w = true) (h : Frame w b s) :
    Frame w b (State.divCatch s m) := by
  unfold State.divCatch
  repeat' first
    | with_reducible assumption | exact Part.within_trans (by decide) hw | with_reducible refine Frame.ite ?_ ?_
    | with_reducible refine State.setFbp_frame ?_ ?_ | with_reducible refine State.emit_frame ?_ ?_ | split | (lift_lets; intros)

theorem State.divHere_frame {w : Nat} {b s : State} {m} (hw : Part.within Part.fb w = true) (h : Frame w b s) :
    Frame w b (State.divHere s m) := by
  unfold State.divHere
  repeat' first
    | with_reducible assumption | exact Part.within_trans (by decide) hw | with_reducible refine Frame.ite ?_ ?_
    | with_reducible refine State.modFbp_frame ?_ ?_ | split | (lift_lets; intros)

theorem State.afterCount_frame {w : Nat} {b s : State} {m} (hw : Part.within (Part.fb ||| Part.outs) w = true) (h : Frame w b s) :
    Frame w b (State.afterCount s m) := by
  unfold State.afterCount
  repeat' first
    | with_reducible assumption | exact Part.within_trans (by decide) hw | with_reducible refine Frame.ite ?_ ?_
    | with_reducible refine State.divCatch_frame ?_ ?_ | with_reducible refine State.setFbp_frame ?_ ?_ | split | (lift_lets; intros)

theorem State.addCount_frame {w : Nat} {b s : State} {m d} (hw : Part.within (Part.rcd ||| Part.cnt ||| Part.axes ||| Part.fb) w = true)
    (h : Frame w b s) :
    Frame w b (State.addCount s m d) := by
  unfold State.addCount
  repeat' first
    | with_reducible assumption | exact Part.within_trans (by decide) hw | with_reducible refine Frame.ite ?_ ?_
    | with_reducible refine State.setFbp_frame ?_ ?_ | with_reducible refine State.fbFault_frame ?_ ?_ | split | (lift_lets; intros)

theorem State.countBy_frame {w : Nat} {b s : State} {m d} (hw : Part.within (Part.rcd ||| Part.cnt ||| Part.axes ||| Part.fb |||
    Part.outs) w = true) (h : Frame w b s) :
    Frame w b (State.countBy s m d) := by
  unfold State.countBy
  repeat' first
    | with_reducible assumption | exact Part.within_trans (by decide) hw | with_reducible refine Frame.ite ?_ ?_
    | with_reducible refine State.addCount_frame ?_ ?_ | with_reducible refine State.modFbp_frame ?_ ?_
    | with_reducible refine State.afterCount_frame ?_ ?_

theorem State.putCount_frame {w : Nat} {b s : State} {m p} (hw : Part.within Part.fb w = true) (h : Frame w b s) :
    Frame w b (State.putCount s m p) := by
  unfold State.putCount
  repeat' first
    | with_reducible assumption | exact Part.within_trans (by decide) hw | with_reducible refine Frame.ite ?_ ?_
    | with_reducible refine State.modFbp_frame ?_ ?_

theorem State.interpolate_frame {w : Nat} {b s : State} {m sn cs} (hw : Part.within (Part.rcd ||| Part.cnt ||| Part.axes ||| Part.fb |||
    Part.outs) w = true) (h : Frame w b s) :
    Frame w b (State.interpolate s m sn cs) := by
  unfold State.interpolate
  repeat' first
    | with_reducible assumption | exact Part.within_trans (by decide) hw | with_reducible refine Frame.ite ?_ ?_
    | with_reducible refine State.setFbp_frame ?_ ?_ | with_reducible refine State.fbFault_frame ?_ ?_
    | with_reducible refine State.modFbp_frame ?_ ?_ | with_reducible refine State.countBy_frame ?_ ?_ | split | (lift_lets; intros)

theorem State.lateLatch_frame {w : Nat} {b s : State} {m} (hw : Part.within Part.fb w = true) (h : Frame w b s) :
    Frame w b (State.lateLatch s m) := State.modFbp_frame hw h

theorem State.fbIllegal_frame {w : Nat} {b s : State} {m} (hw : Part.within (Part.rcd ||| Part.cnt ||| Part.axes ||| Part.fb) w = true)
    (h : Frame w b s) :
    Frame w b (State.fbIllegal s m) := by
  unfold State.fbIllegal
  repeat' first
    | with_reducible assumption | exact Part.within_trans (by decide) hw | with_reducible refine Frame.ite ?_ ?_
    | with_reducible refine when_frame (fun _ _ => ?_) ?_ | with_reducible refine State.setFbp_frame ?_ ?_
    | with_reducible refine State.raise_frame ?_ ?_ | with_reducible refine State.fbFault_frame ?_ ?_ | split | (lift_lets; intros)

theorem State.fbLines_frame {w : Nat} {b s : State} {m a b'} (hw : Part.within (Part.rcd ||| Part.cnt ||| Part.axes ||| Part.fb |||
    Part.outs) w = true) (h : Frame w b s) :
    Frame w b (State.fbLines s m a b') := by
  unfold State.fbLines
  repeat' first
    | with_reducible assumption | exact Part.within_trans (by decide) hw | with_reducible refine Frame.ite ?_ ?_
    | with_reducible refine State.fbIllegal_frame ?_ ?_ | with_reducible refine State.setFbp_frame ?_ ?_
    | with_reducible refine State.countBy_frame ?_ ?_ | with_reducible refine State.modFbp_frame ?_ ?_ | split | (lift_lets; intros)

theorem State.fbCount_frame {w : Nat} {b s : State} {m a b' held sample} (hw : Part.within (Part.rcd ||| Part.cnt ||| Part.axes |||
    Part.fb ||| Part.outs) w = true) (h : Frame w b s) :
    Frame w b (State.fbCount s m a b' held sample) := by
  unfold State.fbCount
  repeat' first
    | with_reducible assumption | exact Part.within_trans (by decide) hw | with_reducible refine Frame.ite ?_ ?_
    | with_reducible refine when_frame (fun _ _ => ?_) ?_ | with_reducible refine State.fbLines_frame ?_ ?_
    | with_reducible refine State.interpolate_frame ?_ ?_ | with_reducible refine State.lateLatch_frame ?_ ?_ | split
    | (lift_lets; intros)

theorem State.fbLine_frame {w : Nat} {b s : State} {m broken} (hw : Part.within (Part.rcd ||| Part.cnt ||| Part.axes ||| Part.fb) w =
    true) (h : Frame w b s) :
    Frame w b (State.fbLine s m broken) := by
  unfold State.fbLine
  repeat' first
    | with_reducible assumption | exact Part.within_trans (by decide) hw | with_reducible refine Frame.ite ?_ ?_
    | with_reducible refine when_frame (fun _ _ => ?_) ?_ | with_reducible refine State.modFbp_frame ?_ ?_
    | with_reducible refine State.fbFault_frame ?_ ?_

theorem State.ssiFrame_frame {w : Nat} {b s : State} {m frame high low} (hw : Part.within (Part.rcd ||| Part.cnt ||| Part.axes |||
    Part.fb ||| Part.outs) w = true) (h : Frame w b s) :
    Frame w b (State.ssiFrame s m frame high low) := by
  unfold State.ssiFrame
  repeat' first
    | with_reducible assumption | exact Part.within_trans (by decide) hw | with_reducible refine Frame.ite ?_ ?_
    | with_reducible refine when_frame (fun _ _ => ?_) ?_ | with_reducible refine State.setFbp_frame ?_ ?_
    | with_reducible refine State.raise_frame ?_ ?_ | with_reducible refine State.fbFault_frame ?_ ?_
    | with_reducible refine State.countBy_frame ?_ ?_ | with_reducible refine State.modFbp_frame ?_ ?_ | split | (lift_lets; intros)

theorem State.fbLatch_frame {w : Nat} {b s : State} {m} (hw : Part.within Part.fb w = true) (h : Frame w b s) :
    Frame w b (State.fbLatch s m) := by
  unfold State.fbLatch
  repeat' first
    | with_reducible assumption | exact Part.within_trans (by decide) hw | with_reducible refine Frame.ite ?_ ?_
    | with_reducible refine State.modFbp_frame ?_ ?_ | split | (lift_lets; intros)

theorem State.speedWindow_frame {w : Nat} {b s : State} {m} (hw : Part.within (Part.bk ||| Part.time ||| Part.fb) w = true) (h : Frame w
    b s) :
    Frame w b (State.speedWindow s m) := by
  unfold State.speedWindow
  repeat' first
    | with_reducible assumption | exact Part.within_trans (by decide) hw | with_reducible refine Frame.ite ?_ ?_
    | with_reducible refine State.modFbp_frame ?_ ?_ | with_reducible refine State.passTo_frame ?_ ?_ | split

theorem State.fbIndex_frame {w : Nat} {b s : State} {m} (hw : Part.within (Part.rcd ||| Part.cnt ||| Part.portals ||| Part.axes |||
    Part.fb ||| Part.outs) w = true) (h : Frame w b s) :
    Frame w b (State.fbIndex s m) := by
  unfold State.fbIndex
  repeat' first
    | with_reducible assumption | exact Part.within_trans (by decide) hw | with_reducible refine Frame.ite ?_ ?_
    | with_reducible refine when_frame (fun _ _ => ?_) ?_ | with_reducible refine State.setFbp_frame ?_ ?_
    | with_reducible refine State.modFbp_frame ?_ ?_ | with_reducible refine State.raise_frame ?_ ?_
    | with_reducible refine State.addCount_frame ?_ ?_ | with_reducible refine State.afterCount_frame ?_ ?_
    | with_reducible refine State.loseReference_frame ?_ ?_ | with_reducible refine State.modPortal_frame ?_ ?_ ?_ | exact id
    | exact fun _ => rfl | exact fun _ _ => rfl | exact fun _ => ⟨rfl, rfl⟩ | exact fun _ => ⟨rfl, rfl, rfl⟩
    | exact fun k => Part.out_absurd hw (by decide) k | split | (lift_lets; intros)

theorem State.cmpPulse_frame {w : Nat} {b s : State} {m} (hw : Part.within (Part.fb ||| Part.outs) w = true) (h : Frame w b s) :
    Frame w b (State.cmpPulse s m).1 := by
  unfold State.cmpPulse
  repeat' first
    | with_reducible assumption | exact Part.within_trans (by decide) hw | with_reducible refine Frame.ite ?_ ?_
    | with_reducible refine State.emit_frame ?_ ?_ | with_reducible refine State.setFbp_frame ?_ ?_ | split | (lift_lets; intros)

theorem State.cmpDisarm_frame {w : Nat} {b s : State} {m} (hw : Part.within (Part.fb ||| Part.regs) w = true) (h : Frame w b s) :
    Frame w b (State.cmpDisarm s m) := by
  unfold State.cmpDisarm
  repeat' first
    | with_reducible assumption | exact Part.within_trans (by decide) hw | with_reducible refine Frame.ite ?_ ?_
    | with_reducible refine State.setReg_frame ?_ ?_ | with_reducible refine State.setFbp_frame ?_ ?_

theorem State.cmpAdvance_frame {w : Nat} {b s : State} {m v k sp} (hw : Part.within (Part.fb ||| Part.regs) w = true) (h : Frame w b s)
    :
    Frame w b (State.cmpAdvance s m v k sp) := by
  unfold State.cmpAdvance
  repeat' first
    | with_reducible assumption | exact Part.within_trans (by decide) hw | with_reducible refine Frame.ite ?_ ?_
    | with_reducible refine State.setFbp_frame ?_ ?_ | with_reducible refine State.cmpDisarm_frame ?_ ?_ | split | (lift_lets; intros)

theorem State.cmpHit_frame {w : Nat} {b s : State} {m} (hw : Part.within (Part.fb ||| Part.regs ||| Part.outs) w = true) (h : Frame w b
    s) :
    Frame w b (State.cmpHit s m) := by
  unfold State.cmpHit
  repeat' first
    | with_reducible assumption | exact Part.within_trans (by decide) hw | with_reducible refine Frame.ite ?_ ?_
    | with_reducible refine when_frame (fun _ _ => ?_) ?_ | with_reducible refine State.cmpPulse_frame ?_ ?_
    | with_reducible refine State.setFbp_frame ?_ ?_ | with_reducible refine State.cmpDisarm_frame ?_ ?_
    | with_reducible refine State.cmpAdvance_frame ?_ ?_ | split | (lift_lets; intros)

theorem State.cmpPos_frame {w : Nat} {b s : State} {m v pulse} (hw : Part.within (Part.fb ||| Part.regs ||| Part.outs) w = true) (h :
    Frame w b s) :
    Frame w b (State.cmpPos s m v pulse) := by
  unfold State.cmpPos
  repeat' first
    | with_reducible assumption | exact Part.within_trans (by decide) hw | with_reducible refine Frame.ite ?_ ?_
    | with_reducible refine State.setFbp_frame ?_ ?_ | with_reducible refine State.cmpPulse_frame ?_ ?_
    | with_reducible refine State.cmpDisarm_frame ?_ ?_ | with_reducible refine State.cmpAdvance_frame ?_ ?_ | split | (lift_lets; intros)

theorem State.cmpCfgWritten_frame {w : Nat} {b s : State} {m v} (hw : Part.within Part.fb w = true) (h : Frame w b s) :
    Frame w b (State.cmpCfgWritten s m v) := by
  unfold State.cmpCfgWritten
  repeat' first
    | with_reducible assumption | exact Part.within_trans (by decide) hw | with_reducible refine Frame.ite ?_ ?_
    | with_reducible refine State.modFbp_frame ?_ ?_

theorem State.divLag_frame {w : Nat} {b s : State} {m} (hw : Part.within (Part.rcd ||| Part.cnt ||| Part.fb ||| Part.outs) w = true) (h :
    Frame w b s) :
    Frame w b (State.divLag s m) := by
  unfold State.divLag
  repeat' first
    | with_reducible assumption | exact Part.within_trans (by decide) hw | with_reducible refine Frame.ite ?_ ?_
    | with_reducible refine when_frame (fun _ _ => ?_) ?_ | with_reducible refine State.modFbp_frame ?_ ?_
    | with_reducible refine State.raise_frame ?_ ?_ | with_reducible refine State.divCatch_frame ?_ ?_

theorem State.fbModeSet_frame {w : Nat} {b s : State} {m} (hw : Part.within Part.fb w = true) (h : Frame w b s) :
    Frame w b (State.fbModeSet s m) := by
  unfold State.fbModeSet
  repeat' first
    | with_reducible assumption | exact Part.within_trans (by decide) hw | with_reducible refine Frame.ite ?_ ?_
    | with_reducible refine State.modFbp_frame ?_ ?_ | split | (lift_lets; intros)

theorem State.fbPset_frame {w : Nat} {b s : State} {m p} (hw : Part.within (Part.fb ||| Part.regs ||| Part.outs) w = true) (h : Frame w
    b s) :
    Frame w b (State.fbPset s m p) := by
  unfold State.fbPset
  repeat' first
    | with_reducible assumption | exact Part.within_trans (by decide) hw | with_reducible refine Frame.ite ?_ ?_
    | with_reducible refine State.putCount_frame ?_ ?_ | with_reducible refine State.modFbp_frame ?_ ?_
    | with_reducible refine State.divHere_frame ?_ ?_ | with_reducible refine State.cmpPos_frame ?_ ?_ | split | (lift_lets; intros)

theorem State.homed_frame {w : Nat} {b s : State} {n ref keep} (hw : Part.within (Part.rcd ||| Part.cnt ||| Part.axes ||| Part.fb |||
    Part.regs ||| Part.outs) w = true) (h : Frame w b s) :
    Frame w b (State.homed s n ref keep) := by
  unfold State.homed
  repeat' first
    | with_reducible assumption | exact Part.within_trans (by decide) hw | with_reducible refine Frame.ite ?_ ?_
    | with_reducible refine State.modAxis_frame ?_ ?_ | with_reducible refine State.raise_frame ?_ ?_
    | with_reducible refine State.fbPset_frame ?_ ?_ | with_reducible refine State.modFbp_frame ?_ ?_ | split

theorem State.homeMove_frame {w : Nat} {b s : State} {n} (hw : Part.within Part.axes w = true) (h : Frame w b s) :
    Frame w b (State.homeMove s n) := by
  unfold State.homeMove
  repeat' first
    | with_reducible assumption | exact Part.within_trans (by decide) hw | with_reducible refine Frame.ite ?_ ?_
    | with_reducible refine State.modAxis_frame ?_ ?_ | with_reducible refine State.planAxis_frame ?_ ?_

theorem State.homeReference_frame {w : Nat} {b s : State} {n} (hw : Part.within (Part.rcd ||| Part.cnt ||| Part.axes ||| Part.fb |||
    Part.regs ||| Part.outs) w = true) (h : Frame w b s) :
    Frame w b (State.homeReference s n) := by
  unfold State.homeReference
  repeat' first
    | with_reducible assumption | exact Part.within_trans (by decide) hw | with_reducible refine Frame.ite ?_ ?_
    | with_reducible refine when_frame (fun _ _ => ?_) ?_ | with_reducible refine State.homed_frame ?_ ?_
    | with_reducible refine State.homeMove_frame ?_ ?_

theorem State.homeDwell_frame {w : Nat} {b s : State} {n} (hw : Part.within (Part.bk ||| Part.rcd ||| Part.cnt ||| Part.time |||
    Part.axes ||| Part.fb ||| Part.regs ||| Part.outs) w = true) (h : Frame w b s) :
    Frame w b (State.homeDwell s n) := by
  unfold State.homeDwell
  repeat' first
    | with_reducible assumption | exact Part.within_trans (by decide) hw | with_reducible refine Frame.ite ?_ ?_
    | with_reducible refine State.homed_frame ?_ ?_ | with_reducible refine State.homeMove_frame ?_ ?_
    | with_reducible refine State.passTo_frame ?_ ?_ | split | (lift_lets; intros)

end Sys2Proof.Machine
end

