-- ==== Sys2Proof/Laws/FrameObserver.lean ====
section
/-!
SUPPORT. Sys2Proof/Laws/FrameObserver.lean: the frame of each operation of Machine/Observer.lean.
-/

set_option Elab.async false
namespace Sys2Proof.Machine

open Sys2Proof

theorem State.flag_frame {w : Nat} {b s : State} {p b'} (hw : Part.within Part.portals w = true) (h : Frame w b s) :
    Frame w b (State.flag s p b') := by
  unfold State.flag
  repeat' first
    | with_reducible assumption | exact Part.within_trans (by decide) hw | with_reducible refine Frame.ite ?_ ?_
    | with_reducible refine State.modPortal_frame ?_ ?_ ?_ | exact fun _ => rfl | exact fun _ _ => rfl

theorem State.noteRun_frame {w : Nat} {b s : State} {n} (hw : Part.within Part.portals w = true) (h : Frame w b s) :
    Frame w b (State.noteRun s n) := by
  unfold State.noteRun
  repeat' first
    | with_reducible assumption | exact Part.within_trans (by decide) hw | with_reducible refine Frame.ite ?_ ?_
    | with_reducible refine State.modPortal_frame ?_ ?_ ?_ | exact id | exact fun _ => rfl | exact fun _ _ => rfl
    | exact fun _ => ⟨rfl, rfl⟩ | exact fun _ => ⟨rfl, rfl, rfl⟩ | exact fun k => Part.out_absurd hw (by decide) k | split
    | (lift_lets; intros)

theorem State.beginStroke_frame {w : Nat} {b s : State} {n closing} (hw : Part.within Part.obs w = true) (h : Frame w b s) :
    Frame w b (State.beginStroke s n closing) := by
  unfold State.beginStroke
  repeat' first
    | with_reducible assumption | exact Part.within_trans (by decide) hw | with_reducible refine Frame.ite ?_ ?_
    | with_reducible refine State.modOb_frame ?_ ?_ | split | (lift_lets; intros)

theorem State.injectDone_frame {w : Nat} {b s : State} {n hit} (hw : Part.within (Part.rcd ||| Part.cnt ||| Part.obs) w = true) (h :
    Frame w b s) :
    Frame w b (State.injectDone s n hit) := by
  unfold State.injectDone
  repeat' first
    | with_reducible assumption | exact Part.within_trans (by decide) hw | with_reducible refine Frame.ite ?_ ?_
    | with_reducible refine State.setOb_frame ?_ ?_ | with_reducible refine State.raise_frame ?_ ?_ | split | (lift_lets; intros)

theorem State.endStroke_frame {w : Nat} {b s : State} {n completed} (hw : Part.within (Part.rcd ||| Part.cnt ||| Part.portals |||
    Part.obs) w = true) (h : Frame w b s) :
    Frame w b (State.endStroke s n completed) := by
  unfold State.endStroke
  repeat' first
    | with_reducible assumption | exact Part.within_trans (by decide) hw | with_reducible refine Frame.ite ?_ ?_
    | with_reducible refine State.setOb_frame ?_ ?_ | with_reducible refine State.flag_frame ?_ ?_
    | with_reducible refine State.injectDone_frame ?_ ?_ | split | (lift_lets; intros)

theorem State.trip_frame {w : Nat} {b s : State} {n c pos env react} (hw : Part.within (Part.rcd ||| Part.cnt ||| Part.portals |||
    Part.obs ||| Part.axes) w = true) (h : Frame w b s) :
    Frame w b (State.trip s n c pos env react) := by
  unfold State.trip
  repeat' first
    | with_reducible assumption | exact Part.within_trans (by decide) hw | with_reducible refine Frame.ite ?_ ?_
    | with_reducible refine State.setOb_frame ?_ ?_ | with_reducible refine State.raise_frame ?_ ?_
    | with_reducible refine State.injectDone_frame ?_ ?_ | with_reducible refine State.count_frame ?_ ?_
    | with_reducible refine State.flag_frame ?_ ?_ | with_reducible refine State.modPortal_frame ?_ ?_ ?_
    | with_reducible refine State.modAxis_frame ?_ ?_ | with_reducible refine State.emergencyStop_frame ?_ ?_ | exact id
    | exact fun _ => rfl | exact fun _ _ => rfl | exact fun _ => ⟨rfl, rfl⟩ | exact fun _ => ⟨rfl, rfl, rfl⟩
    | exact fun k => Part.out_absurd hw (by decide) k | split | (lift_lets; intros)

theorem State.obSample_frame {w : Nat} {b s : State} {n} (hw : Part.within (Part.rcd ||| Part.cnt ||| Part.portals ||| Part.obs |||
    Part.axes) w = true) (h : Frame w b s) :
    Frame w b (State.obSample s n) := by
  unfold State.obSample
  repeat' first
    | with_reducible assumption | exact Part.within_trans (by decide) hw | with_reducible refine Frame.ite ?_ ?_
    | with_reducible refine foldl_frame (fun _ _ _ => ?_) _ ?_ | with_reducible refine State.endStroke_frame ?_ ?_
    | with_reducible refine State.beginStroke_frame ?_ ?_ | with_reducible refine State.modAxis_frame ?_ ?_
    | with_reducible refine State.setOb_frame ?_ ?_ | with_reducible refine State.modPortal_frame ?_ ?_ ?_
    | with_reducible refine State.modOb_frame ?_ ?_ | with_reducible refine State.trip_frame ?_ ?_ | exact id | exact fun _ => rfl
    | exact fun _ _ => rfl | exact fun _ => ⟨rfl, rfl⟩ | exact fun _ => ⟨rfl, rfl, rfl⟩ | exact fun k => Part.out_absurd hw (by decide) k
    | split | (lift_lets; intros)

theorem State.obCycle_frame {w : Nat} {b s : State} {n} (hw : Part.within (Part.rcd ||| Part.cnt ||| Part.portals ||| Part.obs |||
    Part.axes) w = true) (h : Frame w b s) :
    Frame w b (State.obCycle s n) := by
  unfold State.obCycle
  repeat' first
    | with_reducible assumption | exact Part.within_trans (by decide) hw | with_reducible refine Frame.ite ?_ ?_
    | with_reducible refine State.obSample_frame ?_ ?_ | with_reducible refine State.endStroke_frame ?_ ?_ | split | (lift_lets; intros)

theorem State.edgeTrip_frame {w : Nat} {b s : State} {n pos} (hw : Part.within (Part.rcd ||| Part.cnt ||| Part.portals ||| Part.obs |||
    Part.axes) w = true) (h : Frame w b s) :
    Frame w b (State.edgeTrip s n pos) := by
  unfold State.edgeTrip
  repeat' first
    | with_reducible assumption | exact Part.within_trans (by decide) hw | with_reducible refine Frame.ite ?_ ?_
    | with_reducible refine State.trip_frame ?_ ?_ | with_reducible refine State.modOb_frame ?_ ?_

theorem State.probeLatch_frame {w : Nat} {b s : State} {m p lt} (hw : Part.within (Part.rcd ||| Part.cnt ||| Part.portals ||| Part.obs
    ||| Part.axes ||| Part.fb) w = true) (h : Frame w b s) :
    Frame w b (State.probeLatch s m p lt) := by
  unfold State.probeLatch
  repeat' first
    | with_reducible assumption | exact Part.within_trans (by decide) hw | with_reducible refine Frame.ite ?_ ?_
    | with_reducible refine State.setFbp_frame ?_ ?_ | with_reducible refine State.edgeTrip_frame ?_ ?_ | split | (lift_lets; intros)

theorem State.probeEdge_frame {w : Nat} {b s : State} {m level held} (hw : Part.within (Part.rcd ||| Part.cnt ||| Part.portals |||
    Part.obs ||| Part.axes ||| Part.fb) w = true) (h : Frame w b s) :
    Frame w b (State.probeEdge s m level held) := by
  unfold State.probeEdge
  repeat' first
    | with_reducible assumption | exact Part.within_trans (by decide) hw | with_reducible refine Frame.ite ?_ ?_
    | with_reducible refine when_frame (fun _ _ => ?_) ?_ | with_reducible refine State.setFbp_frame ?_ ?_
    | with_reducible refine State.modFbp_frame ?_ ?_ | with_reducible refine State.modOb_frame ?_ ?_
    | with_reducible refine State.probeLatch_frame ?_ ?_ | split | (lift_lets; intros)

theorem State.probeDue_frame {w : Nat} {b s : State} {old m} (hw : Part.within (Part.rcd ||| Part.cnt ||| Part.portals ||| Part.obs |||
    Part.axes ||| Part.fb) w = true) (h : Frame w b s) :
    Frame w b (State.probeDue s old m) := by
  unfold State.probeDue
  repeat' first
    | with_reducible assumption | exact Part.within_trans (by decide) hw | with_reducible refine Frame.ite ?_ ?_
    | with_reducible refine forEach_frame (fun _ _ _ => ?_) _ ?_
    | with_reducible refine State.probeLatch_frame ?_ ?_ | with_reducible refine State.modFbp_frame ?_ ?_ | split | (lift_lets; intros)

theorem State.stopResume_frame {w : Nat} {b s : State} {n} (hw : Part.within (Part.bk ||| Part.time ||| Part.obs ||| Part.axes) w = true)
    (h : Frame w b s) :
    Frame w b (State.stopResume s n) := by
  unfold State.stopResume
  repeat' first
    | with_reducible assumption | exact Part.within_trans (by decide) hw | with_reducible refine Frame.ite ?_ ?_
    | with_reducible refine when_frame (fun _ _ => ?_) ?_ | with_reducible refine State.modOb_frame ?_ ?_
    | with_reducible refine State.modAxis_frame ?_ ?_ | with_reducible refine State.replaceSeg_frame ?_ ?_
    | with_reducible refine State.passTo_frame ?_ ?_

theorem State.clearStops_frame {w : Nat} {b s : State} {n} (hw : Part.within Part.obs w = true) (h : Frame w b s) :
    Frame w b (State.clearStops s n) := by
  unfold State.clearStops
  repeat' first
    | with_reducible assumption | exact Part.within_trans (by decide) hw | with_reducible refine Frame.ite ?_ ?_
    | with_reducible refine State.modOb_frame ?_ ?_

theorem State.storeTables_frame {w : Nat} {b s : State} {n k} (hw : Part.within (Part.obs ||| Part.mem) w = true) (h : Frame w b s) :
    Frame w b (State.storeTables s n k) := by
  unfold State.storeTables
  repeat' first
    | with_reducible assumption | exact Part.within_trans (by decide) hw | with_reducible refine Frame.ite ?_ ?_
    | with_reducible refine State.setMem_frame ?_ ?_ | with_reducible refine State.setOb_frame ?_ ?_

theorem State.readTables_frame {w : Nat} {b s : State} {n} (hw : Part.within (Part.rcd ||| Part.cnt ||| Part.obs) w = true) (h : Frame w
    b s) :
    Frame w b (State.readTables s n) := by
  unfold State.readTables
  repeat' first
    | with_reducible assumption | exact Part.within_trans (by decide) hw | with_reducible refine Frame.ite ?_ ?_
    | with_reducible refine foldl_frame (fun _ _ _ => ?_) _ ?_ | with_reducible refine State.modOb_frame ?_ ?_
    | with_reducible refine State.raise_frame ?_ ?_ | split | (lift_lets; intros)

theorem State.evalDrift_frame {w : Nat} {b s : State} {n finished} (hw : Part.within (Part.rcd ||| Part.cnt ||| Part.obs) w = true) (h :
    Frame w b s) :
    Frame w b (State.evalDrift s n finished) := by
  unfold State.evalDrift
  repeat' first
    | with_reducible assumption | exact Part.within_trans (by decide) hw | with_reducible refine Frame.ite ?_ ?_
    | with_reducible refine State.raise_frame ?_ ?_ | with_reducible refine State.setOb_frame ?_ ?_

theorem State.loadTables_frame {w : Nat} {b s : State} {n} (hw : Part.within (Part.rcd ||| Part.cnt ||| Part.obs) w = true) (h : Frame w
    b s) :
    Frame w b (State.loadTables s n) := by
  unfold State.loadTables
  repeat' first
    | with_reducible assumption | exact Part.within_trans (by decide) hw | with_reducible refine Frame.ite ?_ ?_
    | with_reducible refine State.readTables_frame ?_ ?_ | with_reducible refine State.evalDrift_frame ?_ ?_ | split | (lift_lets; intros)

theorem State.writeEntry_frame {w : Nat} {b s : State} {n v} (hw : Part.within (Part.rcd ||| Part.cnt ||| Part.obs) w = true) (h : Frame
    w b s) :
    Frame w b (State.writeEntry s n v) := by
  unfold State.writeEntry
  repeat' first
    | with_reducible assumption | exact Part.within_trans (by decide) hw | with_reducible refine Frame.ite ?_ ?_
    | with_reducible refine State.modOb_frame ?_ ?_ | with_reducible refine State.evalDrift_frame ?_ ?_ | split | (lift_lets; intros)

theorem State.learn_frame {w : Nat} {b s : State} {n} (hw : Part.within (Part.rcd ||| Part.cnt ||| Part.obs ||| Part.mem) w = true) (h :
    Frame w b s) :
    Frame w b (State.learn s n) := by
  unfold State.learn
  repeat' first
    | with_reducible assumption | exact Part.within_trans (by decide) hw | with_reducible refine Frame.ite ?_ ?_
    | with_reducible refine State.storeTables_frame ?_ ?_ | with_reducible refine State.evalDrift_frame ?_ ?_
    | with_reducible refine State.raise_frame ?_ ?_ | with_reducible refine State.setOb_frame ?_ ?_

theorem State.commCycle_frame {w : Nat} {b s : State} {n} (hw : Part.within (Part.rcd ||| Part.cnt ||| Part.obs ||| Part.mem) w = true)
    (h : Frame w b s) :
    Frame w b (State.commCycle s n) := by
  unfold State.commCycle
  repeat' first
    | with_reducible assumption | exact Part.within_trans (by decide) hw | with_reducible refine Frame.ite ?_ ?_
    | with_reducible refine State.storeTables_frame ?_ ?_ | with_reducible refine State.evalDrift_frame ?_ ?_
    | with_reducible refine State.raise_frame ?_ ?_ | with_reducible refine State.setOb_frame ?_ ?_

theorem State.injectEnd_frame {w : Nat} {b s : State} {n} (hw : Part.within (Part.rcd ||| Part.cnt ||| Part.obs) w = true) (h : Frame w
    b s) :
    Frame w b (State.injectEnd s n) := by
  unfold State.injectEnd
  repeat' first
    | with_reducible assumption | exact Part.within_trans (by decide) hw | with_reducible refine Frame.ite ?_ ?_
    | with_reducible refine State.injectDone_frame ?_ ?_ | split | (lift_lets; intros)

theorem State.obsCycleEnd_frame {w : Nat} {b s : State} {p} (hw : Part.within (Part.rcd ||| Part.cnt ||| Part.portals ||| Part.obs |||
    Part.mem) w = true) (h : Frame w b s) :
    Frame w b (State.obsCycleEnd s p) := by
  unfold State.obsCycleEnd
  repeat' first
    | with_reducible assumption | exact Part.within_trans (by decide) hw | with_reducible refine Frame.ite ?_ ?_
    | with_reducible refine forEach_frame (fun _ _ _ => ?_) _ ?_ | with_reducible refine State.flag_frame ?_ ?_
    | with_reducible refine State.commCycle_frame ?_ ?_
    | with_reducible refine State.learn_frame ?_ ?_ | with_reducible refine State.injectEnd_frame ?_ ?_
    | with_reducible refine State.modPortal_frame ?_ ?_ ?_ | exact id | exact fun _ => rfl | exact fun _ _ => rfl
    | exact fun _ => ⟨rfl, rfl⟩ | exact fun _ => ⟨rfl, rfl, rfl⟩ | exact fun k => Part.out_absurd hw (by decide) k | split
    | (lift_lets; intros)

theorem State.obsCycleStart_frame {w : Nat} {b s : State} {p} (hw : Part.within Part.obs w = true) (h : Frame w b s) :
    Frame w b (State.obsCycleStart s p) := by
  unfold State.obsCycleStart
  repeat' first
    | with_reducible assumption | exact Part.within_trans (by decide) hw | with_reducible refine Frame.ite ?_ ?_
    | with_reducible refine forEach_frame (fun _ _ _ => ?_) _ ?_
    | with_reducible refine State.modOb_frame ?_ ?_ | split | (lift_lets; intros)

theorem State.commission_frame {w : Nat} {b s : State} {n} (hw : Part.within Part.obs w = true) (h : Frame w b s) :
    Frame w b (State.commission s n) := by
  unfold State.commission
  repeat' first
    | with_reducible assumption | exact Part.within_trans (by decide) hw | with_reducible refine Frame.ite ?_ ?_
    | with_reducible refine State.modOb_frame ?_ ?_

theorem State.inject_frame {w : Nat} {b s : State} {n b' f} (hw : Part.within Part.obs w = true) (h : Frame w b s) :
    Frame w b (State.inject s n b' f) := by
  unfold State.inject
  repeat' first
    | with_reducible assumption | exact Part.within_trans (by decide) hw | with_reducible refine Frame.ite ?_ ?_
    | with_reducible refine State.modOb_frame ?_ ?_ | split | (lift_lets; intros)

theorem State.takeSignatures_frame {w : Nat} {b s : State} {p cyc flags} (hw : Part.within (Part.rcd ||| Part.free) w = true) (h : Frame
    w b s) :
    Frame w b (State.takeSignatures s p cyc flags) := by
  unfold State.takeSignatures
  repeat' first
    | with_reducible assumption | exact Part.within_trans (by decide) hw | with_reducible refine Frame.ite ?_ ?_
    | with_reducible refine forEach_frame (fun _ _ _ => ?_) _ ?_ | exact id | exact fun _ => rfl
    | exact fun _ _ => rfl | exact fun _ => ⟨rfl, rfl⟩ | exact fun _ => ⟨rfl, rfl, rfl⟩ | exact fun k => Part.out_absurd hw (by decide) k
    | split | (lift_lets; intros) | with_reducible refine Frame.set_rcd_free ?_ ?_

theorem State.takeInputs_frame {w : Nat} {b s : State} (hw : Part.within (Part.rcd ||| Part.cnt ||| Part.time ||| Part.portals |||
    Part.obs ||| Part.axes ||| Part.outs) w = true) (h : Frame w b s) :
    Frame w b (State.takeInputs s) := by
  unfold State.takeInputs
  repeat' first
    | with_reducible assumption | exact Part.within_trans (by decide) hw | with_reducible refine Frame.ite ?_ ?_
    | with_reducible refine forEach_frame (fun _ _ _ => ?_) _ ?_
    | with_reducible refine State.engineCycle_frame ?_ ?_ | with_reducible refine State.obCycle_frame ?_ ?_
    | with_reducible refine State.noteRun_frame ?_ ?_ | exact Nat.le_refl _ | exact id | exact fun _ => rfl | exact fun _ _ => rfl | exact fun _ => ⟨rfl, rfl⟩
    | exact fun _ => ⟨rfl, rfl, rfl⟩ | exact fun k => Part.out_absurd hw (by decide) k | split | (lift_lets; intros)
    | with_reducible refine Frame.set_time ?_ ?_ ?_

theorem State.afterInputs_frame {w : Nat} {b s : State} (hw : Part.within (Part.rcd ||| Part.cnt ||| Part.time ||| Part.portals |||
    Part.obs ||| Part.axes ||| Part.outs) w = true) (h : Frame w b s) :
    Frame w b (State.afterInputs s) := by
  unfold State.afterInputs
  repeat' first
    | with_reducible assumption | exact Part.within_trans (by decide) hw | with_reducible refine Frame.ite ?_ ?_
    | with_reducible refine State.takeInputs_frame ?_ ?_ | split | (lift_lets; intros)

end Sys2Proof.Machine
end

