-- ==== Sys2Proof/Laws/FrameParam.lean ====
section
/-!
SUPPORT. Sys2Proof/Laws/FrameParam.lean: the frame of each operation of Machine/Param.lean.
-/
set_option Elab.async false
namespace Sys2Proof.Machine
open Sys2Proof

theorem State.saveParam_frame {w : Nat} {b s : State} {id v} (hw : Part.within Part.mem w = true) (h : Frame w b s) :
    Frame w b (State.saveParam s id v) := by
  unfold State.saveParam
  repeat' first
    | with_reducible assumption | exact Part.within_trans (by decide) hw | with_reducible refine Frame.ite ?_ ?_
    | with_reducible refine forEach_frame (fun _ _ _ => ?_) _ ?_ | with_reducible refine State.setMem_frame ?_ ?_

theorem State.saveNum_frame {w : Nat} {b s : State} {id n} (hw : Part.within Part.mem w = true) (h : Frame w b s) :
    Frame w b (State.saveNum s id n) := by
  unfold State.saveNum
  repeat' first
    | with_reducible assumption | exact Part.within_trans (by decide) hw | with_reducible refine Frame.ite ?_ ?_
    | with_reducible refine State.saveParam_frame ?_ ?_

theorem State.voteParam_frame {w : Nat} {b s : State} {id fallback} (hw : Part.within (Part.rcd ||| Part.cnt ||| Part.mem) w = true) (h :
    Frame w b s) :
    Frame w b (State.voteParam s id fallback).2 := by
  unfold State.voteParam
  repeat' first
    | with_reducible assumption | exact Part.within_trans (by decide) hw | with_reducible refine Frame.ite ?_ ?_
    | with_reducible refine State.saveParam_frame ?_ ?_ | with_reducible refine State.raise_frame ?_ ?_ | split | (lift_lets; intros)

theorem State.votePlain_frame {w : Nat} {b s : State} {id} (hw : Part.within (Part.rcd ||| Part.cnt ||| Part.mem) w = true) (h : Frame w
    b s) :
    Frame w b (State.votePlain s id).2 := by
  unfold State.votePlain
  repeat' first
    | with_reducible assumption | exact Part.within_trans (by decide) hw | with_reducible refine Frame.ite ?_ ?_
    | with_reducible refine State.saveParam_frame ?_ ?_ | with_reducible refine State.raise_frame ?_ ?_ | split | (lift_lets; intros)

theorem State.mirror_frame {w : Nat} {b s : State} {kind body} (hw : Part.within (Part.twin ||| Part.outs) w = true) (h : Frame w b s) :
    Frame w b (State.mirror s kind body) := by
  unfold State.mirror
  repeat' first
    | with_reducible assumption | exact Part.within_trans (by decide) hw | with_reducible refine Frame.ite ?_ ?_
    | with_reducible refine State.emit_frame ?_ ?_ | split | (lift_lets; intros) | with_reducible refine Frame.set_twin ?_ ?_

theorem State.mirrorHold_frame {w : Nat} {b s : State} {kind body e act} (hw : Part.within (Part.twin ||| Part.outs) w = true) (ha :
    Frame w b (act s))
    (h : Frame w b s) : Frame w b (State.mirrorHold s kind body e act) := by
  unfold State.mirrorHold
  exact Frame.ite (Frame.set_twin (Part.within_trans (by decide) hw) (State.mirror_frame (Part.within_trans (by decide) hw) h)) ha

end Sys2Proof.Machine
end

