-- ==== Sys2Proof/Laws/FramePortal.lean ====
section
/-!
SUPPORT. Sys2Proof/Laws/FramePortal.lean: the frame of each operation of Machine/Portal.lean.
-/

set_option Elab.async false
namespace Sys2Proof.Machine

open Sys2Proof

theorem State.portalOutputs_frame {w : Nat} {b s : State} {p} (hw : Part.within (Part.portals ||| Part.loads) w = true) (h : Frame w b s)
    :
    Frame w b (State.portalOutputs s p) := by
  unfold State.portalOutputs
  repeat' first
    | with_reducible assumption | exact Part.within_trans (by decide) hw | with_reducible refine Frame.ite ?_ ?_
    | with_reducible refine State.modPortal_frame ?_ ?_ ?_ | with_reducible refine State.commandSwitches_frame ?_ ?_
    | exact fun _ => rfl | exact fun _ _ => rfl

theorem State.beginPortalCycle_frame {w : Nat} {b s : State} {p} (hw : Part.within (Part.portals ||| Part.obs) w = true) (h : Frame w b
    s) :
    Frame w b (State.beginPortalCycle s p) := by
  unfold State.beginPortalCycle
  repeat' first
    | with_reducible assumption | exact Part.within_trans (by decide) hw | with_reducible refine Frame.ite ?_ ?_
    | with_reducible refine State.modPortal_frame ?_ ?_ ?_ | with_reducible refine State.obsCycleStart_frame ?_ ?_ | exact id
    | exact fun _ => rfl | exact fun _ _ => rfl | exact fun _ => ⟨rfl, rfl⟩ | exact fun _ => ⟨rfl, rfl, rfl⟩
    | exact fun k => Part.out_absurd hw (by decide) k | split | (lift_lets; intros)

theorem State.obsItems_frame {w : Nat} {b s : State} {n es} (hw : Part.within (Part.twin ||| Part.outs) w = true) (h : Frame w b s) :
    Frame w b (State.obsItems s n es) := by
  unfold State.obsItems
  repeat' first
    | with_reducible assumption | exact Part.within_trans (by decide) hw | with_reducible refine Frame.ite ?_ ?_
    | with_reducible refine forEach_frame (fun _ _ _ => ?_) _ ?_ | with_reducible refine State.mirror_frame ?_ ?_

theorem State.mirrorObs_frame {w : Nat} {b s : State} {old n} (hw : Part.within (Part.twin ||| Part.outs) w = true) (h : Frame w b s) :
    Frame w b (State.mirrorObs s old n) := by
  unfold State.mirrorObs
  exact Frame.ite h (State.obsItems_frame hw h)

theorem State.endPortalCycle_frame {w : Nat} {b s : State} {p} (hw : Part.within (Part.rcd ||| Part.cnt ||| Part.portals ||| Part.obs
    ||| Part.twin ||| Part.mem ||| Part.outs ||| Part.free) w = true) (h : Frame w b s) :
    Frame w b (State.endPortalCycle s p) := by
  unfold State.endPortalCycle
  repeat' first
    | with_reducible assumption | exact Part.within_trans (by decide) hw | with_reducible refine Frame.ite ?_ ?_
    | with_reducible refine forEach_frame (fun _ _ _ => ?_) _ ?_ | with_reducible refine State.obsCycleEnd_frame ?_ ?_
    | with_reducible refine State.mirrorObs_frame ?_ ?_
    | with_reducible refine State.setPortal_frame ?_ ?_ ?_ | with_reducible refine State.saveNum_frame ?_ ?_
    | with_reducible refine State.mirror_frame ?_ ?_ | with_reducible refine State.raiseBody_frame ?_ ?_
    | with_reducible refine State.takeSignatures_frame ?_ ?_ | exact id | exact fun _ => rfl | exact fun _ _ => rfl
    | exact fun _ => ⟨rfl, rfl⟩ | exact fun _ => ⟨rfl, rfl, rfl⟩ | exact fun k => Part.out_absurd hw (by decide) k | split
    | (lift_lets; intros)

theorem State.dropStarts_frame {w : Nat} {b s : State} {p} (hw : Part.within Part.seq w = true) (h : Frame w b s) :
    Frame w b (State.dropStarts s p) := by
  unfold State.dropStarts
  repeat' first
    | with_reducible assumption | exact Part.within_trans (by decide) hw | with_reducible refine Frame.ite ?_ ?_
    | exact fun _ => ⟨rfl, rfl⟩ | exact fun k => Part.out_absurd hw (by decide) k | split | (lift_lets; intros)
    | with_reducible refine Frame.set_seq ?_ ?_ ?_

theorem State.dropLeafStarts_frame {w : Nat} {b s : State} {p} (hw : Part.within Part.seq w = true) (h : Frame w b s) :
    Frame w b (State.dropLeafStarts s p) := by
  unfold State.dropLeafStarts
  repeat' first
    | with_reducible assumption | exact Part.within_trans (by decide) hw | with_reducible refine Frame.ite ?_ ?_ | exact id
    | exact fun _ => rfl | exact fun _ _ => rfl | exact fun _ => ⟨rfl, rfl⟩ | exact fun _ => ⟨rfl, rfl, rfl⟩
    | exact fun k => Part.out_absurd hw (by decide) k | split | (lift_lets; intros) | with_reducible refine Frame.set_seq ?_ ?_ ?_

theorem State.leaveShelf_frame {w : Nat} {b s : State} {st} (hw : Part.within Part.sys w = true) (h : Frame w b s) :
    Frame w b (State.leaveShelf s st) := by
  unfold State.leaveShelf
  repeat' first
    | with_reducible assumption | exact Part.within_trans (by decide) hw | with_reducible refine Frame.ite ?_ ?_ | exact id
    | exact fun _ => ⟨rfl, rfl, rfl⟩ | exact fun k => Part.out_absurd hw (by decide) k | split | (lift_lets; intros)
    | with_reducible refine Frame.set_sys ?_ ?_ ?_ ?_ ?_

theorem State.enter_frame {w : Nat} {b s : State} {p st} (hw : Part.within (Part.sys ||| Part.rcd ||| Part.cnt ||| Part.seq |||
    Part.portals ||| Part.obs ||| Part.loads ||| Part.twin ||| Part.mem ||| Part.outs ||| Part.free ||| Part.states) w = true) (h :
    Frame w b s) :
    Frame w b (State.enter s p st) := by
  unfold State.enter
  repeat' first
    | with_reducible assumption | exact Part.within_trans (by decide) hw | with_reducible refine Frame.ite ?_ ?_
    | with_reducible refine State.setPortal_frame ?_ ?_ ?_ | with_reducible refine State.portalOutputs_frame ?_ ?_
    | with_reducible refine State.leaveShelf_frame ?_ ?_ | with_reducible refine State.dropLeafStarts_frame ?_ ?_
    | with_reducible refine State.endPortalCycle_frame ?_ ?_ | with_reducible refine State.dropStarts_frame ?_ ?_ | exact id
    | exact fun _ => rfl | exact fun _ _ => rfl | exact fun _ => ⟨rfl, rfl⟩ | exact fun _ => ⟨rfl, rfl, rfl⟩
    | exact fun k => Part.out_absurd hw (by decide) k | split | (lift_lets; intros)

theorem State.moveTo_frame {w : Nat} {b s : State} {n t} (hw : Part.within (Part.obs ||| Part.axes) w = true) (h : Frame w b s) :
    Frame w b (State.moveTo s n t) := by
  unfold State.moveTo
  repeat' first
    | with_reducible assumption | exact Part.within_trans (by decide) hw | with_reducible refine Frame.ite ?_ ?_
    | with_reducible refine State.clearStops_frame ?_ ?_ | with_reducible refine State.modAxis_frame ?_ ?_ | split | (lift_lets; intros)

theorem State.queueStart_frame {w : Nat} {b s : State} {p axes kind} (hw : Part.within Part.seq w = true) (h : Frame w b s) :
    Frame w b (State.queueStart s p axes kind) := by
  unfold State.queueStart
  repeat' first
    | with_reducible assumption | exact Part.within_trans (by decide) hw | with_reducible refine Frame.ite ?_ ?_
    | exact fun _ => ⟨rfl, rfl⟩ | exact fun k => Part.out_absurd hw (by decide) k | split | (lift_lets; intros)
    | with_reducible refine Frame.set_seq ?_ ?_ ?_

theorem State.startLeaves_frame {w : Nat} {b s : State} {p opening} (hw : Part.within Part.seq w = true) (h : Frame w b s) :
    Frame w b (State.startLeaves s p opening) := by
  unfold State.startLeaves
  repeat' first
    | with_reducible assumption | exact Part.within_trans (by decide) hw | with_reducible refine Frame.ite ?_ ?_
    | with_reducible refine State.queueStart_frame ?_ ?_

theorem State.startStep_frame {w : Nat} {b s : State} {p out} (hw : Part.within Part.seq w = true) (h : Frame w b s) :
    Frame w b (State.startStep s p out) := by
  unfold State.startStep
  repeat' first
    | with_reducible assumption | exact Part.within_trans (by decide) hw | with_reducible refine Frame.ite ?_ ?_
    | with_reducible refine State.queueStart_frame ?_ ?_

theorem State.haltAxis_frame {w : Nat} {b s : State} {n} (hw : Part.within Part.axes w = true) (h : Frame w b s) :
    Frame w b (State.haltAxis s n) := by
  unfold State.haltAxis
  repeat' first
    | with_reducible assumption | exact Part.within_trans (by decide) hw | with_reducible refine Frame.ite ?_ ?_
    | with_reducible refine State.modAxis_frame ?_ ?_ | with_reducible refine State.stopAxis_frame ?_ ?_ | split | (lift_lets; intros)

theorem State.stopAll_frame {w : Nat} {b s : State} {ns} (hw : Part.within Part.axes w = true) (h : Frame w b s) :
    Frame w b (State.stopAll s ns) := by
  unfold State.stopAll
  repeat' first
    | with_reducible assumption | exact Part.within_trans (by decide) hw | with_reducible refine Frame.ite ?_ ?_
    | with_reducible refine forEach_frame (fun _ _ _ => ?_) _ ?_
    | with_reducible refine State.haltAxis_frame ?_ ?_ | split | (lift_lets; intros)

theorem State.acted_frame {w : Nat} {b s : State} {p r} (hw : Part.within (Part.rcd ||| Part.cnt ||| Part.portals ||| Part.axes |||
    Part.ilk) w = true) (h : Frame w b s) :
    Frame w b (State.acted s p r) := by
  unfold State.acted
  repeat' first
    | with_reducible assumption | exact Part.within_trans (by decide) hw | with_reducible refine Frame.ite ?_ ?_
    | with_reducible refine forEach_frame (fun _ _ _ => ?_) _ ?_ | with_reducible refine State.testAbort_frame ?_ ?_
    | with_reducible refine State.modPortal_frame ?_ ?_ ?_ | exact fun _ => rfl | exact fun _ _ => rfl

theorem State.toFault_frame {w : Nat} {b s : State} {p cause} (hw : Part.within (Part.sys ||| Part.rcd ||| Part.cnt ||| Part.seq |||
    Part.portals ||| Part.obs ||| Part.axes ||| Part.ilk ||| Part.loads ||| Part.twin ||| Part.mem ||| Part.outs ||| Part.free |||
    Part.states) w = true) (h : Frame w b s) :
    Frame w b (State.toFault s p cause) := by
  unfold State.toFault
  repeat' first
    | with_reducible assumption | exact Part.within_trans (by decide) hw | with_reducible refine Frame.ite ?_ ?_
    | with_reducible refine forEach_frame (fun _ _ _ => ?_) _ ?_ | with_reducible refine State.acted_frame ?_ ?_
    | with_reducible refine State.modPortal_frame ?_ ?_ ?_ | with_reducible refine State.raise_frame ?_ ?_
    | with_reducible refine State.emergencyStop_frame ?_ ?_
    | with_reducible refine State.enter_frame ?_ ?_ | exact id | exact fun _ => rfl | exact fun _ _ => rfl | exact fun _ => ⟨rfl, rfl⟩
    | exact fun _ => ⟨rfl, rfl, rfl⟩ | exact fun k => Part.out_absurd hw (by decide) k | split | (lift_lets; intros)

theorem State.failTo_frame {w : Nat} {b s : State} {p cause code} (hw : Part.within (Part.sys ||| Part.rcd ||| Part.cnt ||| Part.seq |||
    Part.portals ||| Part.obs ||| Part.axes ||| Part.ilk ||| Part.loads ||| Part.twin ||| Part.mem ||| Part.outs ||| Part.free |||
    Part.states) w = true) (h : Frame w b s) :
    Frame w b (State.failTo s p cause code) := by
  unfold State.failTo
  repeat' first
    | with_reducible assumption | exact Part.within_trans (by decide) hw | with_reducible refine Frame.ite ?_ ?_
    | with_reducible refine State.raise_frame ?_ ?_ | with_reducible refine State.toFault_frame ?_ ?_ | split | (lift_lets; intros)

theorem State.toReferencing_frame {w : Nat} {b s : State} {p} (hw : Part.within (Part.sys ||| Part.rcd ||| Part.cnt ||| Part.seq |||
    Part.portals ||| Part.obs ||| Part.axes ||| Part.loads ||| Part.twin ||| Part.mem ||| Part.outs ||| Part.free ||| Part.states) w =
    true) (h : Frame w b s) :
    Frame w b (State.toReferencing s p) := by
  unfold State.toReferencing
  repeat' first
    | with_reducible assumption | exact Part.within_trans (by decide) hw | with_reducible refine Frame.ite ?_ ?_
    | with_reducible refine forEach_frame (fun _ _ _ => ?_) _ ?_ | with_reducible refine State.modPortal_frame ?_ ?_ ?_
    | with_reducible refine State.enter_frame ?_ ?_
    | with_reducible refine State.startHoming_frame ?_ ?_ | exact id | exact fun _ => rfl | exact fun _ _ => rfl
    | exact fun _ => ⟨rfl, rfl⟩ | exact fun _ => ⟨rfl, rfl, rfl⟩ | exact fun k => Part.out_absurd hw (by decide) k | split
    | (lift_lets; intros)

theorem State.t4_frame {w : Nat} {b s : State} {p a} (hw : Part.within (Part.sys ||| Part.rcd ||| Part.cnt ||| Part.seq ||| Part.portals
    ||| Part.obs ||| Part.loads ||| Part.twin ||| Part.mem ||| Part.outs ||| Part.free ||| Part.states) w = true) (h : Frame w b s) :
    Frame w b (State.t4 s p a) := by
  unfold State.t4
  repeat' first
    | with_reducible assumption | exact Part.within_trans (by decide) hw | with_reducible refine Frame.ite ?_ ?_
    | with_reducible refine State.beginPortalCycle_frame ?_ ?_ | with_reducible refine State.modPortal_frame ?_ ?_ ?_
    | with_reducible refine State.enter_frame ?_ ?_ | with_reducible refine State.startStep_frame ?_ ?_ | exact id | exact fun _ => rfl
    | exact fun _ _ => rfl | exact fun _ => ⟨rfl, rfl⟩ | exact fun _ => ⟨rfl, rfl, rfl⟩ | exact fun k => Part.out_absurd hw (by decide) k
    | split | (lift_lets; intros)

theorem State.stepToo_frame {w : Nat} {b s : State} {p} (hw : Part.within (Part.seq ||| Part.portals) w = true) (h : Frame w b s) :
    Frame w b (State.stepToo s p) := by
  unfold State.stepToo
  repeat' first
    | with_reducible assumption | exact Part.within_trans (by decide) hw | with_reducible refine Frame.ite ?_ ?_
    | with_reducible refine State.modPortal_frame ?_ ?_ ?_ | with_reducible refine State.startStep_frame ?_ ?_ | exact id
    | exact fun _ => rfl | exact fun _ _ => rfl | exact fun _ => ⟨rfl, rfl⟩ | exact fun _ => ⟨rfl, rfl, rfl⟩
    | exact fun k => Part.out_absurd hw (by decide) k | split | (lift_lets; intros)

theorem State.t7_frame {w : Nat} {b s : State} {p} (hw : Part.within (Part.sys ||| Part.rcd ||| Part.cnt ||| Part.seq ||| Part.portals
    ||| Part.obs ||| Part.loads ||| Part.twin ||| Part.mem ||| Part.outs ||| Part.free ||| Part.states) w = true) (h : Frame w b s) :
    Frame w b (State.t7 s p) := by
  unfold State.t7
  repeat' first
    | with_reducible assumption | exact Part.within_trans (by decide) hw | with_reducible refine Frame.ite ?_ ?_
    | with_reducible refine State.stepToo_frame ?_ ?_ | with_reducible refine State.enter_frame ?_ ?_
    | with_reducible refine State.modPortal_frame ?_ ?_ ?_ | with_reducible refine State.startLeaves_frame ?_ ?_ | exact id
    | exact fun _ => rfl | exact fun _ _ => rfl | exact fun _ => ⟨rfl, rfl⟩ | exact fun _ => ⟨rfl, rfl, rfl⟩
    | exact fun k => Part.out_absurd hw (by decide) k | split | (lift_lets; intros)

theorem State.toWarning_frame {w : Nat} {b s : State} {p stopping} (hw : Part.within (Part.sys ||| Part.rcd ||| Part.cnt ||| Part.seq
    ||| Part.portals ||| Part.obs ||| Part.axes ||| Part.loads ||| Part.twin ||| Part.mem ||| Part.outs ||| Part.free ||| Part.states) w
    = true) (h : Frame w b s) :
    Frame w b (State.toWarning s p stopping) := by
  unfold State.toWarning
  repeat' first
    | with_reducible assumption | exact Part.within_trans (by decide) hw | with_reducible refine Frame.ite ?_ ?_
    | with_reducible refine State.dropLeafStarts_frame ?_ ?_ | with_reducible refine State.stopAll_frame ?_ ?_
    | with_reducible refine State.enter_frame ?_ ?_ | with_reducible refine State.modPortal_frame ?_ ?_ ?_ | exact id | exact fun _ => rfl
    | exact fun _ _ => rfl | exact fun _ => ⟨rfl, rfl⟩ | exact fun _ => ⟨rfl, rfl, rfl⟩ | exact fun k => Part.out_absurd hw (by decide) k
    | split | (lift_lets; intros)

theorem State.tryT9_frame {w : Nat} {b s : State} {p} (hw : Part.within (Part.sys ||| Part.rcd ||| Part.cnt ||| Part.seq |||
    Part.portals ||| Part.obs ||| Part.axes ||| Part.ilk ||| Part.loads ||| Part.twin ||| Part.mem ||| Part.outs ||| Part.free |||
    Part.states) w = true) (h : Frame w b s) :
    Frame w b (State.tryT9 s p) := by
  unfold State.tryT9
  repeat' first
    | with_reducible assumption | exact Part.within_trans (by decide) hw | with_reducible refine Frame.ite ?_ ?_
    | with_reducible refine State.toWarning_frame ?_ ?_ | with_reducible refine State.acted_frame ?_ ?_ | split | (lift_lets; intros)

theorem State.toLocking_frame {w : Nat} {b s : State} {p} (hw : Part.within (Part.sys ||| Part.rcd ||| Part.cnt ||| Part.seq |||
    Part.portals ||| Part.obs ||| Part.axes ||| Part.loads ||| Part.twin ||| Part.mem ||| Part.outs ||| Part.free ||| Part.states) w =
    true) (h : Frame w b s) :
    Frame w b (State.toLocking s p) := by
  unfold State.toLocking
  repeat' first
    | with_reducible assumption | exact Part.within_trans (by decide) hw | with_reducible refine Frame.ite ?_ ?_
    | with_reducible refine State.dropStarts_frame ?_ ?_ | with_reducible refine State.stopAll_frame ?_ ?_
    | with_reducible refine State.modPortal_frame ?_ ?_ ?_ | with_reducible refine State.enter_frame ?_ ?_ | exact id | exact fun _ => rfl
    | exact fun _ _ => rfl | exact fun _ => ⟨rfl, rfl⟩ | exact fun _ => ⟨rfl, rfl, rfl⟩ | exact fun k => Part.out_absurd hw (by decide) k
    | split | (lift_lets; intros)

theorem State.reopenLeaf_frame {w : Nat} {b s : State} {n} (hw : Part.within (Part.obs ||| Part.axes) w = true) (h : Frame w b s) :
    Frame w b (State.reopenLeaf s n) := by
  unfold State.reopenLeaf
  repeat' first
    | with_reducible assumption | exact Part.within_trans (by decide) hw | with_reducible refine Frame.ite ?_ ?_
    | with_reducible refine State.haltAxis_frame ?_ ?_ | with_reducible refine State.moveTo_frame ?_ ?_
    | with_reducible refine State.modAxis_frame ?_ ?_ | split | (lift_lets; intros)

theorem State.reopenAux_frame {w : Nat} {b s : State} {p n} (hw : Part.within (Part.seq ||| Part.obs ||| Part.axes) w = true) (h : Frame
    w b s) :
    Frame w b (State.reopenAux s p n) := by
  unfold State.reopenAux
  repeat' first
    | with_reducible assumption | exact Part.within_trans (by decide) hw | with_reducible refine Frame.ite ?_ ?_
    | with_reducible refine State.moveTo_frame ?_ ?_ | with_reducible refine State.modAxis_frame ?_ ?_
    | with_reducible refine State.queueStart_frame ?_ ?_ | split | (lift_lets; intros)

theorem State.toReopening_frame {w : Nat} {b s : State} {p obstacle} (hw : Part.within (Part.sys ||| Part.rcd ||| Part.cnt ||| Part.seq
    ||| Part.portals ||| Part.obs ||| Part.axes ||| Part.loads ||| Part.twin ||| Part.mem ||| Part.outs ||| Part.free ||| Part.states) w
    = true) (h : Frame w b s) :
    Frame w b (State.toReopening s p obstacle) := by
  unfold State.toReopening
  repeat' first
    | with_reducible assumption | exact Part.within_trans (by decide) hw | with_reducible refine Frame.ite ?_ ?_
    | with_reducible refine forEach_frame (fun _ _ _ => ?_) _ ?_ | with_reducible refine State.modPortal_frame ?_ ?_ ?_
    | with_reducible refine State.raise_frame ?_ ?_ | with_reducible refine State.flag_frame ?_ ?_
    | with_reducible refine State.count_frame ?_ ?_
    | with_reducible refine State.reopenLeaf_frame ?_ ?_ | with_reducible refine State.dropLeafStarts_frame ?_ ?_
    | with_reducible refine State.reopenAux_frame ?_ ?_ | with_reducible refine State.enter_frame ?_ ?_ | exact id | exact fun _ => rfl
    | exact fun _ _ => rfl | exact fun _ => ⟨rfl, rfl⟩ | exact fun _ => ⟨rfl, rfl, rfl⟩ | exact fun k => Part.out_absurd hw (by decide) k
    | split | (lift_lets; intros)

theorem State.toEmergency_frame {w : Nat} {b s : State} {p} (hw : Part.within (Part.sys ||| Part.rcd ||| Part.cnt ||| Part.seq |||
    Part.portals ||| Part.obs ||| Part.axes ||| Part.loads ||| Part.twin ||| Part.mem ||| Part.outs ||| Part.free ||| Part.states) w =
    true) (h : Frame w b s) :
    Frame w b (State.toEmergency s p) := by
  unfold State.toEmergency
  repeat' first
    | with_reducible assumption | exact Part.within_trans (by decide) hw | with_reducible refine Frame.ite ?_ ?_
    | with_reducible refine forEach_frame (fun _ _ _ => ?_) _ ?_
    | with_reducible refine State.freeLeaf_frame ?_ ?_ | with_reducible refine State.dropLeafStarts_frame ?_ ?_
    | with_reducible refine State.flag_frame ?_ ?_ | with_reducible refine State.modPortal_frame ?_ ?_ ?_
    | with_reducible refine State.enter_frame ?_ ?_ | exact id | exact fun _ => rfl | exact fun _ _ => rfl | exact fun _ => ⟨rfl, rfl⟩
    | exact fun _ => ⟨rfl, rfl, rfl⟩ | exact fun k => Part.out_absurd hw (by decide) k | split | (lift_lets; intros)

theorem State.holdHere_frame {w : Nat} {b s : State} {n} (hw : Part.within Part.axes w = true) (h : Frame w b s) :
    Frame w b (State.holdHere s n) := by
  unfold State.holdHere
  repeat' first
    | with_reducible assumption | exact Part.within_trans (by decide) hw | with_reducible refine Frame.ite ?_ ?_
    | with_reducible refine State.modAxis_frame ?_ ?_

theorem State.leaveEmergency_frame {w : Nat} {b s : State} {p} (hw : Part.within (Part.sys ||| Part.rcd ||| Part.cnt ||| Part.seq |||
    Part.portals ||| Part.obs ||| Part.axes ||| Part.loads ||| Part.twin ||| Part.mem ||| Part.outs ||| Part.free ||| Part.states) w =
    true) (h : Frame w b s) :
    Frame w b (State.leaveEmergency s p) := by
  unfold State.leaveEmergency
  repeat' first
    | with_reducible assumption | exact Part.within_trans (by decide) hw | with_reducible refine Frame.ite ?_ ?_
    | with_reducible refine forEach_frame (fun _ _ _ => ?_) _ ?_
    | with_reducible refine State.holdHere_frame ?_ ?_ | with_reducible refine State.modPortal_frame ?_ ?_ ?_
    | with_reducible refine State.raise_frame ?_ ?_ | with_reducible refine State.enter_frame ?_ ?_
    | with_reducible refine State.toWarning_frame ?_ ?_ | exact id | exact fun _ => rfl | exact fun _ _ => rfl | exact fun _ => ⟨rfl, rfl⟩
    | exact fun _ => ⟨rfl, rfl, rfl⟩ | exact fun k => Part.out_absurd hw (by decide) k | split | (lift_lets; intros)

theorem State.toOpen_frame {w : Nat} {b s : State} {p obst} (hw : Part.within (Part.sys ||| Part.rcd ||| Part.cnt ||| Part.seq |||
    Part.portals ||| Part.obs ||| Part.loads ||| Part.twin ||| Part.mem ||| Part.outs ||| Part.free ||| Part.states) w = true) (h :
    Frame w b s) :
    Frame w b (State.toOpen s p obst) := by
  unfold State.toOpen
  repeat' first
    | with_reducible assumption | exact Part.within_trans (by decide) hw | with_reducible refine Frame.ite ?_ ?_
    | with_reducible refine State.enter_frame ?_ ?_ | with_reducible refine State.modPortal_frame ?_ ?_ ?_ | exact id | exact fun _ => rfl
    | exact fun _ _ => rfl | exact fun _ => ⟨rfl, rfl⟩ | exact fun _ => ⟨rfl, rfl, rfl⟩ | exact fun k => Part.out_absurd hw (by decide) k
    | split | (lift_lets; intros)

theorem State.reopenOn_frame {w : Nat} {b s : State} {p} (hw : Part.within (Part.sys ||| Part.rcd ||| Part.cnt ||| Part.seq |||
    Part.portals ||| Part.obs ||| Part.axes ||| Part.loads ||| Part.twin ||| Part.mem ||| Part.outs ||| Part.free ||| Part.states) w =
    true) (h : Frame w b s) :
    Frame w b (State.reopenOn s p) := by
  unfold State.reopenOn
  repeat' first
    | with_reducible assumption | exact Part.within_trans (by decide) hw | with_reducible refine Frame.ite ?_ ?_
    | with_reducible refine State.dropLeafStarts_frame ?_ ?_ | with_reducible refine State.toOpen_frame ?_ ?_
    | with_reducible refine State.startLeaves_frame ?_ ?_ | with_reducible refine State.toReopening_frame ?_ ?_ | split
    | (lift_lets; intros)

theorem State.permit_frame {w : Nat} {b s : State} {p a} (hw : Part.within (Part.sys ||| Part.rcd ||| Part.cnt ||| Part.seq |||
    Part.portals ||| Part.obs ||| Part.loads ||| Part.twin ||| Part.mem ||| Part.outs ||| Part.free ||| Part.states) w = true) (h :
    Frame w b s) :
    Frame w b (State.permit s p a).1 := by
  unfold State.permit
  repeat' first
    | with_reducible assumption | exact Part.within_trans (by decide) hw | with_reducible refine Frame.ite ?_ ?_
    | with_reducible refine State.t4_frame ?_ ?_ | with_reducible refine State.modPortal_frame ?_ ?_ ?_
    | with_reducible refine State.portalOutputs_frame ?_ ?_ | with_reducible refine State.t7_frame ?_ ?_ | exact id | exact fun _ => rfl
    | exact fun _ _ => rfl | exact fun _ => ⟨rfl, rfl⟩ | exact fun _ => ⟨rfl, rfl, rfl⟩ | exact fun k => Part.out_absurd hw (by decide) k
    | split | (lift_lets; intros)

theorem State.restrict_frame {w : Nat} {b s : State} {p a acc} (hw : Part.within (Part.sys ||| Part.rcd ||| Part.cnt ||| Part.seq |||
    Part.portals ||| Part.obs ||| Part.axes ||| Part.ilk ||| Part.loads ||| Part.twin ||| Part.mem ||| Part.outs ||| Part.free |||
    Part.states) w = true) (h : Frame w b s) :
    Frame w b (State.restrict s p a acc) := by
  unfold State.restrict
  repeat' first
    | with_reducible assumption | exact Part.within_trans (by decide) hw | with_reducible refine Frame.ite ?_ ?_
    | with_reducible refine State.modPortal_frame ?_ ?_ ?_ | with_reducible refine State.portalOutputs_frame ?_ ?_
    | with_reducible refine State.tryT9_frame ?_ ?_ | with_reducible refine State.toWarning_frame ?_ ?_
    | with_reducible refine State.flag_frame ?_ ?_ | with_reducible refine State.toLocking_frame ?_ ?_ | exact id | exact fun _ => rfl
    | exact fun _ _ => rfl | exact fun _ => ⟨rfl, rfl⟩ | exact fun _ => ⟨rfl, rfl, rfl⟩ | exact fun k => Part.out_absurd hw (by decide) k
    | split | (lift_lets; intros)

theorem State.actOn_frame {w : Nat} {b s : State} {p a acc} (hw : Part.within (Part.sys ||| Part.rcd ||| Part.cnt ||| Part.seq |||
    Part.portals ||| Part.obs ||| Part.axes ||| Part.ilk ||| Part.loads ||| Part.twin ||| Part.mem ||| Part.outs ||| Part.free |||
    Part.states) w = true) (h : Frame w b s) :
    Frame w b (State.actOn s p a acc).1 := by
  unfold State.actOn
  repeat' first
    | with_reducible assumption | exact Part.within_trans (by decide) hw | with_reducible refine Frame.ite ?_ ?_
    | with_reducible refine State.modPortal_frame ?_ ?_ ?_ | with_reducible refine State.flag_frame ?_ ?_
    | with_reducible refine State.permit_frame ?_ ?_ | with_reducible refine State.acted_frame ?_ ?_
    | with_reducible refine State.restrict_frame ?_ ?_ | exact id | exact fun _ => rfl | exact fun _ _ => rfl | exact fun _ => ⟨rfl, rfl⟩
    | exact fun _ => ⟨rfl, rfl, rfl⟩ | exact fun k => Part.out_absurd hw (by decide) k | split | (lift_lets; intros)

theorem State.applyAction_frame {w : Nat} {b s : State} {a mask acc} (hw : Part.within (Part.sys ||| Part.rcd ||| Part.cnt ||| Part.seq
    ||| Part.portals ||| Part.obs ||| Part.axes ||| Part.ilk ||| Part.loads ||| Part.twin ||| Part.mem ||| Part.outs ||| Part.free |||
    Part.states) w = true) (h : Frame w b s) :
    Frame w b (State.applyAction s a mask acc).1 := by
  unfold State.applyAction
  split
  · exact Frame.set_seq (Part.within_trans (by decide) hw) (fun _ => ⟨rfl, rfl⟩) h
  · refine foldl_fst_frame (fun r p hr => ?_) _ h
    exact State.actOn_frame (Part.within_trans (by decide) hw) hr

theorem State.noteLock_frame {w : Nat} {b s : State} {a} (hw : Part.within Part.seq w = true) (h : Frame w b s) :
    Frame w b (State.noteLock s a) := by
  unfold State.noteLock
  repeat' first
    | with_reducible assumption | exact Part.within_trans (by decide) hw | with_reducible refine Frame.ite ?_ ?_
    | exact fun _ => ⟨rfl, rfl⟩ | exact fun k => Part.out_absurd hw (by decide) k | split | (lift_lets; intros)
    | with_reducible refine Frame.set_seq ?_ ?_ ?_

theorem State.execute_frame {w : Nat} {b s : State} {a mask late t acc} (hw : Part.within (Part.sys ||| Part.rcd ||| Part.cnt |||
    Part.seq ||| Part.portals ||| Part.obs ||| Part.axes ||| Part.ilk ||| Part.loads ||| Part.twin ||| Part.mem ||| Part.outs |||
    Part.free ||| Part.states) w = true) (h : Frame w b s) :
    Frame w b (State.execute s a mask late t acc) := by
  unfold State.execute
  repeat' first
    | with_reducible refine State.applyAction_frame ?_ ?_
    | with_reducible assumption | exact Part.within_trans (by decide) hw | with_reducible refine Frame.ite ?_ ?_
    | with_reducible refine State.noteLock_frame ?_ ?_ | with_reducible refine State.applyAction_frame ?_ ?_
    | with_reducible refine State.raise_frame ?_ ?_ | with_reducible refine State.count_frame ?_ ?_ | split | (lift_lets; intros)

theorem State.liftWithdraw_frame {w : Nat} {b s : State} (hw : Part.within Part.seq w = true) (h : Frame w b s) :
    Frame w b (State.liftWithdraw s) := by
  unfold State.liftWithdraw
  repeat' first
    | with_reducible assumption | exact Part.within_trans (by decide) hw | with_reducible refine Frame.ite ?_ ?_
    | exact fun _ => ⟨rfl, rfl⟩ | exact fun k => Part.out_absurd hw (by decide) k | split | (lift_lets; intros)
    | with_reducible refine Frame.set_seq ?_ ?_ ?_

theorem State.immediateApply_frame {w : Nat} {b s : State} (hw : Part.within (Part.sys ||| Part.rcd ||| Part.cnt ||| Part.seq |||
    Part.portals ||| Part.obs ||| Part.axes ||| Part.ilk ||| Part.loads ||| Part.twin ||| Part.mem ||| Part.outs ||| Part.free |||
    Part.states ||| Part.actions) w = true) (h : Frame w b s) :
    Frame w b (State.immediateApply s) := by
  unfold State.immediateApply
  repeat' first
    | with_reducible assumption | exact Part.within_trans (by decide) hw | with_reducible refine Frame.ite ?_ ?_
    | with_reducible refine State.execute_frame ?_ ?_ | exact id | exact fun _ => rfl | exact fun _ _ => rfl | exact fun _ => ⟨rfl, rfl⟩
    | exact fun _ => ⟨rfl, rfl, rfl⟩ | exact fun k => Part.out_absurd hw (by decide) k | split | (lift_lets; intros)
    | with_reducible refine Frame.set_seq ?_ ?_ ?_

theorem State.judgeSlots_frame {w : Nat} {b s : State} (hw : Part.within (Part.rcd ||| Part.cnt ||| Part.seq ||| Part.actions) w = true)
    (h : Frame w b s) :
    Frame w b (State.judgeSlots s) := by
  unfold State.judgeSlots
  repeat' first
    | with_reducible assumption | exact Part.within_trans (by decide) hw | with_reducible refine Frame.ite ?_ ?_
    | with_reducible refine forEach_frame (fun _ _ _ => ?_) _ ?_ | with_reducible refine State.raise_frame ?_ ?_
    | with_reducible refine State.setSlot_frame ?_ ?_

theorem State.mirrorSlot_frame {w : Nat} {b s : State} {i} (hw : Part.within (Part.twin ||| Part.outs) w = true) (h : Frame w b s) :
    Frame w b (State.mirrorSlot s i) := by
  unfold State.mirrorSlot
  repeat' first
    | with_reducible assumption | exact Part.within_trans (by decide) hw | with_reducible refine Frame.ite ?_ ?_
    | with_reducible refine State.mirror_frame ?_ ?_

theorem State.freeSlot_frame {w : Nat} {b s : State} {i} (hw : Part.within (Part.seq ||| Part.twin ||| Part.outs ||| Part.actions) w =
    true) (h : Frame w b s) :
    Frame w b (State.freeSlot s i) := by
  unfold State.freeSlot
  repeat' first
    | with_reducible assumption | exact Part.within_trans (by decide) hw | with_reducible refine Frame.ite ?_ ?_
    | with_reducible refine State.setSlot_frame ?_ ?_ | with_reducible refine State.mirrorSlot_frame ?_ ?_ | exact id | exact fun _ => rfl
    | exact fun _ _ => rfl | exact fun _ => ⟨rfl, rfl⟩ | exact fun _ => ⟨rfl, rfl, rfl⟩ | exact fun k => Part.out_absurd hw (by decide) k
    | split | (lift_lets; intros) | with_reducible refine Frame.set_seq ?_ ?_ ?_

theorem State.runSlot_frame {w : Nat} {b s : State} {i} (hw : Part.within (Part.sys ||| Part.rcd ||| Part.cnt ||| Part.seq |||
    Part.portals ||| Part.obs ||| Part.axes ||| Part.ilk ||| Part.loads ||| Part.twin ||| Part.mem ||| Part.outs ||| Part.free |||
    Part.states ||| Part.actions) w = true) (h : Frame w b s) :
    Frame w b (State.runSlot s i) := by
  unfold State.runSlot
  repeat' first
    | with_reducible assumption | exact Part.within_trans (by decide) hw | with_reducible refine Frame.ite ?_ ?_
    | with_reducible refine State.raise_frame ?_ ?_ | with_reducible refine State.count_frame ?_ ?_
    | with_reducible refine State.freeSlot_frame ?_ ?_ | with_reducible refine State.execute_frame ?_ ?_ | split | (lift_lets; intros)

theorem State.passToTt_frame {w : Nat} {b s : State} {t} (hw : Part.within (Part.bk ||| Part.time) w = true) (h : Frame w b s) :
    Frame w b (State.passToTt s t) := by
  unfold State.passToTt
  repeat' first
    | with_reducible assumption | exact Part.within_trans (by decide) hw | with_reducible refine Frame.ite ?_ ?_
    | with_reducible refine State.pass_frame ?_ ?_

theorem State.slotDue_frame {w : Nat} {b s : State} (hw : Part.within (Part.sys ||| Part.bk ||| Part.rcd ||| Part.cnt ||| Part.time |||
    Part.seq ||| Part.portals ||| Part.obs ||| Part.axes ||| Part.ilk ||| Part.loads ||| Part.twin ||| Part.mem ||| Part.outs |||
    Part.free ||| Part.states ||| Part.actions) w = true) (h : Frame w b s) :
    Frame w b (State.slotDue s) := by
  unfold State.slotDue
  repeat' first
    | with_reducible assumption | exact Part.within_trans (by decide) hw | with_reducible refine Frame.ite ?_ ?_
    | with_reducible refine forEach_frame (fun _ _ _ => ?_) _ ?_ | with_reducible refine State.passToTt_frame ?_ ?_
    | with_reducible refine State.runSlot_frame ?_ ?_ | split | (lift_lets; intros)

theorem State.cancelSlots_frame {w : Nat} {b s : State} {mask} (hw : Part.within (Part.rcd ||| Part.cnt ||| Part.seq ||| Part.twin |||
    Part.outs ||| Part.actions) w = true) (h : Frame w b s) :
    Frame w b (State.cancelSlots s mask) := by
  unfold State.cancelSlots
  repeat' first
    | with_reducible assumption | exact Part.within_trans (by decide) hw | with_reducible refine Frame.ite ?_ ?_
    | with_reducible refine forEach_frame (fun _ _ _ => ?_) _ ?_ | with_reducible refine State.raise_frame ?_ ?_
    | with_reducible refine State.freeSlot_frame ?_ ?_

theorem State.takeAction_frame {w : Nat} {b s : State} {a mask key src conn t} (hw : Part.within (Part.rcd ||| Part.cnt ||| Part.seq |||
    Part.twin ||| Part.outs ||| Part.actions) w = true) (h : Frame w b s) :
    Frame w b (State.takeAction s a mask key src conn t).2 := by
  unfold State.takeAction
  repeat' first
    | with_reducible assumption | exact Part.within_trans (by decide) hw | with_reducible refine Frame.ite ?_ ?_
    | with_reducible refine State.cancelSlots_frame ?_ ?_ | with_reducible refine State.raise_frame ?_ ?_
    | with_reducible refine State.count_frame ?_ ?_ | with_reducible refine State.setSlot_frame ?_ ?_
    | with_reducible refine State.mirrorSlot_frame ?_ ?_ | exact id | exact fun _ => rfl | exact fun _ _ => rfl
    | exact fun _ => ⟨rfl, rfl⟩ | exact fun _ => ⟨rfl, rfl, rfl⟩ | exact fun k => Part.out_absurd hw (by decide) k | split
    | (lift_lets; intros) | with_reducible refine Frame.set_seq ?_ ?_ ?_

theorem State.clearAxisFaults_frame {w : Nat} {b s : State} {p} (hw : Part.within (Part.axes ||| Part.fb ||| Part.links) w = true) (h :
    Frame w b s) :
    Frame w b (State.clearAxisFaults s p) := by
  unfold State.clearAxisFaults
  repeat' first
    | with_reducible assumption | exact Part.within_trans (by decide) hw | with_reducible refine Frame.ite ?_ ?_
    | with_reducible refine forEach_frame (fun _ _ _ => ?_) _ ?_
    | with_reducible refine State.modAxis_frame ?_ ?_ | with_reducible refine State.fbClear_frame ?_ ?_
    | with_reducible refine State.modLink_frame ?_ ?_ | split | (lift_lets; intros)

theorem State.emergencyReset_frame {w : Nat} {b s : State} {p} (hw : Part.within (Part.sys ||| Part.rcd ||| Part.cnt ||| Part.seq |||
    Part.portals ||| Part.obs ||| Part.axes ||| Part.fb ||| Part.links ||| Part.ilk ||| Part.loads ||| Part.twin ||| Part.mem |||
    Part.outs ||| Part.free ||| Part.states) w = true) (h : Frame w b s) :
    Frame w b (State.emergencyReset s p).1 := by
  unfold State.emergencyReset
  repeat' first
    | with_reducible assumption | exact Part.within_trans (by decide) hw | with_reducible refine Frame.ite ?_ ?_
    | with_reducible refine State.leaveEmergency_frame ?_ ?_ | with_reducible refine State.acted_frame ?_ ?_
    | with_reducible refine State.clearAxisFaults_frame ?_ ?_ | with_reducible refine State.toReferencing_frame ?_ ?_ | split
    | (lift_lets; intros)

theorem State.isolate_frame {w : Nat} {b s : State} {p} (hw : Part.within (Part.sys ||| Part.rcd ||| Part.cnt ||| Part.seq |||
    Part.portals ||| Part.obs ||| Part.axes ||| Part.ilk ||| Part.loads ||| Part.twin ||| Part.mem ||| Part.outs ||| Part.free |||
    Part.states) w = true) (h : Frame w b s) :
    Frame w b (State.isolate s p).1 := by
  unfold State.isolate
  repeat' first
    | with_reducible assumption | exact Part.within_trans (by decide) hw | with_reducible refine Frame.ite ?_ ?_
    | with_reducible refine forEach_frame (fun _ _ _ => ?_) _ ?_ | with_reducible refine State.raise_frame ?_ ?_
    | with_reducible refine State.removeTorque_frame ?_ ?_
    | with_reducible refine State.emergencyStop_frame ?_ ?_ | with_reducible refine State.enter_frame ?_ ?_
    | with_reducible refine State.acted_frame ?_ ?_ | split | (lift_lets; intros)

theorem State.restore_frame {w : Nat} {b s : State} {p} (hw : Part.within (Part.sys ||| Part.rcd ||| Part.cnt ||| Part.seq |||
    Part.portals ||| Part.obs ||| Part.axes ||| Part.fb ||| Part.links ||| Part.ilk ||| Part.loads ||| Part.twin ||| Part.mem |||
    Part.outs ||| Part.free ||| Part.states) w = true) (h : Frame w b s) :
    Frame w b (State.restore s p).1 := by
  unfold State.restore
  repeat' first
    | with_reducible assumption | exact Part.within_trans (by decide) hw | with_reducible refine Frame.ite ?_ ?_
    | with_reducible refine State.raise_frame ?_ ?_ | with_reducible refine State.toReferencing_frame ?_ ?_
    | with_reducible refine State.acted_frame ?_ ?_ | with_reducible refine State.emergencyReset_frame ?_ ?_ | split | (lift_lets; intros)

theorem State.t1_frame {w : Nat} {b s : State} {p} (hw : Part.within (Part.sys ||| Part.rcd ||| Part.cnt ||| Part.seq ||| Part.portals
    ||| Part.obs ||| Part.axes ||| Part.loads ||| Part.twin ||| Part.mem ||| Part.outs ||| Part.free ||| Part.states) w = true) (h :
    Frame w b s) :
    Frame w b (State.t1 s p) := by
  unfold State.t1
  repeat' first
    | with_reducible assumption | exact Part.within_trans (by decide) hw | with_reducible refine Frame.ite ?_ ?_
    | with_reducible refine State.toReferencing_frame ?_ ?_ | split | (lift_lets; intros)

theorem State.request_frame {w : Nat} {b s : State} {p inside} (hw : Part.within (Part.sys ||| Part.rcd ||| Part.cnt ||| Part.seq |||
    Part.portals ||| Part.obs ||| Part.axes ||| Part.ilk ||| Part.loads ||| Part.twin ||| Part.mem ||| Part.outs ||| Part.free |||
    Part.states) w = true) (h : Frame w b s) :
    Frame w b (State.request s p inside) := by
  unfold State.request
  repeat' first
    | with_reducible assumption | exact Part.within_trans (by decide) hw | with_reducible refine Frame.ite ?_ ?_
    | with_reducible refine State.modPortal_frame ?_ ?_ ?_ | with_reducible refine State.t7_frame ?_ ?_
    | with_reducible refine State.acted_frame ?_ ?_ | with_reducible refine State.reopenOn_frame ?_ ?_ | exact id | exact fun _ => rfl
    | exact fun _ _ => rfl | exact fun _ => ⟨rfl, rfl⟩ | exact fun _ => ⟨rfl, rfl, rfl⟩ | exact fun k => Part.out_absurd hw (by decide) k
    | split | (lift_lets; intros)

theorem State.presenceNow_frame {w : Nat} {b s : State} {p} (hw : Part.within (Part.sys ||| Part.rcd ||| Part.cnt ||| Part.seq |||
    Part.portals ||| Part.obs ||| Part.axes ||| Part.ilk ||| Part.loads ||| Part.twin ||| Part.mem ||| Part.outs ||| Part.free |||
    Part.states) w = true) (h : Frame w b s) :
    Frame w b (State.presenceNow s p) := by
  unfold State.presenceNow
  repeat' first
    | with_reducible assumption | exact Part.within_trans (by decide) hw | with_reducible refine Frame.ite ?_ ?_
    | with_reducible refine State.modPortal_frame ?_ ?_ ?_ | with_reducible refine State.tryT9_frame ?_ ?_
    | with_reducible refine State.reopenOn_frame ?_ ?_ | with_reducible refine State.acted_frame ?_ ?_ | exact id | exact fun _ => rfl
    | exact fun _ _ => rfl | exact fun _ => ⟨rfl, rfl⟩ | exact fun _ => ⟨rfl, rfl, rfl⟩ | exact fun k => Part.out_absurd hw (by decide) k
    | split | (lift_lets; intros)

theorem State.tryT21_frame {w : Nat} {b s : State} {p} (hw : Part.within (Part.sys ||| Part.rcd ||| Part.cnt ||| Part.seq |||
    Part.portals ||| Part.obs ||| Part.axes ||| Part.ilk ||| Part.loads ||| Part.twin ||| Part.mem ||| Part.outs ||| Part.free |||
    Part.states) w = true) (h : Frame w b s) :
    Frame w b (State.tryT21 s p) := by
  unfold State.tryT21
  repeat' first
    | with_reducible assumption | exact Part.within_trans (by decide) hw | with_reducible refine Frame.ite ?_ ?_
    | with_reducible refine State.toEmergency_frame ?_ ?_ | with_reducible refine State.acted_frame ?_ ?_ | split | (lift_lets; intros)

theorem State.handle_frame {w : Nat} {b s : State} {p} (hw : Part.within (Part.sys ||| Part.rcd ||| Part.cnt ||| Part.seq |||
    Part.portals ||| Part.obs ||| Part.axes ||| Part.ilk ||| Part.loads ||| Part.twin ||| Part.mem ||| Part.outs ||| Part.free |||
    Part.states) w = true) (h : Frame w b s) :
    Frame w b (State.handle s p) := by
  unfold State.handle
  repeat' first
    | with_reducible assumption | exact Part.within_trans (by decide) hw | with_reducible refine Frame.ite ?_ ?_
    | with_reducible refine when_frame (fun _ _ => ?_) ?_ | with_reducible refine State.modPortal_frame ?_ ?_ ?_
    | with_reducible refine State.flag_frame ?_ ?_ | with_reducible refine State.raise_frame ?_ ?_
    | with_reducible refine State.tryT21_frame ?_ ?_ | exact id | exact fun _ => rfl | exact fun _ _ => rfl | exact fun _ => ⟨rfl, rfl⟩
    | exact fun _ => ⟨rfl, rfl, rfl⟩ | exact fun k => Part.out_absurd hw (by decide) k | split | (lift_lets; intros)

theorem State.zeroSpeedOn_frame {w : Nat} {b s : State} (hw : Part.within (Part.sys ||| Part.rcd ||| Part.cnt ||| Part.seq |||
    Part.portals ||| Part.obs ||| Part.axes ||| Part.ilk ||| Part.loads ||| Part.twin ||| Part.mem ||| Part.outs ||| Part.free |||
    Part.states) w = true) (h : Frame w b s) :
    Frame w b (State.zeroSpeedOn s) := by
  unfold State.zeroSpeedOn
  repeat' first
    | with_reducible assumption | exact Part.within_trans (by decide) hw | with_reducible refine Frame.ite ?_ ?_
    | with_reducible refine when_frame (fun _ _ => ?_) ?_ | with_reducible refine forEach_frame (fun _ _ _ => ?_) _ ?_
    | with_reducible refine State.tryT21_frame ?_ ?_ | exact id | exact fun _ => rfl
    | exact fun _ _ => rfl | exact fun _ => ⟨rfl, rfl⟩ | exact fun _ => ⟨rfl, rfl, rfl⟩ | exact fun k => Part.out_absurd hw (by decide) k
    | split | (lift_lets; intros) | with_reducible refine Frame.set_seq ?_ ?_ ?_

theorem State.zeroSpeedOff_frame {w : Nat} {b s : State} (hw : Part.within (Part.sys ||| Part.rcd ||| Part.cnt ||| Part.seq |||
    Part.portals ||| Part.obs ||| Part.axes ||| Part.ilk ||| Part.loads ||| Part.twin ||| Part.mem ||| Part.outs ||| Part.free |||
    Part.states) w = true) (h : Frame w b s) :
    Frame w b (State.zeroSpeedOff s) := by
  unfold State.zeroSpeedOff
  repeat' first
    | with_reducible assumption | exact Part.within_trans (by decide) hw | with_reducible refine Frame.ite ?_ ?_
    | with_reducible refine when_frame (fun _ _ => ?_) ?_ | with_reducible refine foldl_frame (fun _ _ _ => ?_) _ ?_
    | with_reducible refine State.raise_frame ?_ ?_ | with_reducible refine State.execute_frame ?_ ?_ | exact id | exact fun _ => rfl
    | exact fun _ _ => rfl | exact fun _ => ⟨rfl, rfl⟩ | exact fun _ => ⟨rfl, rfl, rfl⟩ | exact fun k => Part.out_absurd hw (by decide) k
    | split | (lift_lets; intros) | with_reducible refine Frame.set_seq ?_ ?_ ?_

theorem State.unlocked_frame {w : Nat} {b s : State} {p} (hw : Part.within (Part.sys ||| Part.rcd ||| Part.cnt ||| Part.seq |||
    Part.portals ||| Part.obs ||| Part.loads ||| Part.twin ||| Part.mem ||| Part.outs ||| Part.free ||| Part.states) w = true) (h :
    Frame w b s) :
    Frame w b (State.unlocked s p) := by
  unfold State.unlocked
  repeat' first
    | with_reducible assumption | exact Part.within_trans (by decide) hw | with_reducible refine Frame.ite ?_ ?_
    | with_reducible refine when_frame (fun _ _ => ?_) ?_ | with_reducible refine State.enter_frame ?_ ?_
    | with_reducible refine State.t7_frame ?_ ?_ | split | (lift_lets; intros)

theorem State.deployed_frame {w : Nat} {b s : State} {p} (hw : Part.within (Part.seq ||| Part.portals) w = true) (h : Frame w b s) :
    Frame w b (State.deployed s p) := by
  unfold State.deployed
  repeat' first
    | with_reducible assumption | exact Part.within_trans (by decide) hw | with_reducible refine Frame.ite ?_ ?_
    | with_reducible refine when_frame (fun _ _ => ?_) ?_ | with_reducible refine State.modPortal_frame ?_ ?_ ?_
    | with_reducible refine State.startLeaves_frame ?_ ?_ | exact id | exact fun _ => rfl | exact fun _ _ => rfl
    | exact fun _ => ⟨rfl, rfl⟩ | exact fun _ => ⟨rfl, rfl, rfl⟩ | exact fun k => Part.out_absurd hw (by decide) k | split
    | (lift_lets; intros)

theorem State.toLocked_frame {w : Nat} {b s : State} {p} (hw : Part.within (Part.sys ||| Part.rcd ||| Part.cnt ||| Part.seq |||
    Part.portals ||| Part.obs ||| Part.loads ||| Part.twin ||| Part.mem ||| Part.outs ||| Part.free ||| Part.states) w = true) (h :
    Frame w b s) :
    Frame w b (State.toLocked s p) := by
  unfold State.toLocked
  repeat' first
    | with_reducible assumption | exact Part.within_trans (by decide) hw | with_reducible refine Frame.ite ?_ ?_
    | with_reducible refine State.enter_frame ?_ ?_ | with_reducible refine State.liftWithdraw_frame ?_ ?_ | split | (lift_lets; intros)

theorem State.lockedInput_frame {w : Nat} {b s : State} {p} (hw : Part.within (Part.sys ||| Part.rcd ||| Part.cnt ||| Part.seq |||
    Part.portals ||| Part.obs ||| Part.loads ||| Part.twin ||| Part.mem ||| Part.outs ||| Part.free ||| Part.states) w = true) (h :
    Frame w b s) :
    Frame w b (State.lockedInput s p) := by
  unfold State.lockedInput
  repeat' first
    | with_reducible assumption | exact Part.within_trans (by decide) hw | with_reducible refine Frame.ite ?_ ?_
    | with_reducible refine when_frame (fun _ _ => ?_) ?_ | with_reducible refine State.modPortal_frame ?_ ?_ ?_
    | with_reducible refine State.startStep_frame ?_ ?_ | with_reducible refine State.toLocked_frame ?_ ?_ | exact id | exact fun _ => rfl
    | exact fun _ _ => rfl | exact fun _ => ⟨rfl, rfl⟩ | exact fun _ => ⟨rfl, rfl, rfl⟩ | exact fun k => Part.out_absurd hw (by decide) k
    | split | (lift_lets; intros)

theorem State.stepStowed_frame {w : Nat} {b s : State} {p} (hw : Part.within (Part.sys ||| Part.rcd ||| Part.cnt ||| Part.seq |||
    Part.portals ||| Part.obs ||| Part.loads ||| Part.twin ||| Part.mem ||| Part.outs ||| Part.free ||| Part.states) w = true) (h :
    Frame w b s) :
    Frame w b (State.stepStowed s p) := by
  unfold State.stepStowed
  repeat' first
    | with_reducible assumption | exact Part.within_trans (by decide) hw | with_reducible refine Frame.ite ?_ ?_
    | with_reducible refine when_frame (fun _ _ => ?_) ?_ | with_reducible refine State.toLocked_frame ?_ ?_ | split | (lift_lets; intros)

theorem State.homingDone_frame {w : Nat} {b s : State} {p} (hw : Part.within (Part.sys ||| Part.rcd ||| Part.cnt ||| Part.seq |||
    Part.portals ||| Part.obs ||| Part.loads ||| Part.twin ||| Part.mem ||| Part.outs ||| Part.free ||| Part.states) w = true) (h :
    Frame w b s) :
    Frame w b (State.homingDone s p) := by
  unfold State.homingDone
  repeat' first
    | with_reducible assumption | exact Part.within_trans (by decide) hw | with_reducible refine Frame.ite ?_ ?_
    | with_reducible refine when_frame (fun _ _ => ?_) ?_ | with_reducible refine State.modPortal_frame ?_ ?_ ?_
    | with_reducible refine State.toLocked_frame ?_ ?_ | exact id | exact fun _ => rfl | exact fun _ _ => rfl | exact fun _ => ⟨rfl, rfl⟩
    | exact fun _ => ⟨rfl, rfl, rfl⟩ | exact fun k => Part.out_absurd hw (by decide) k | split | (lift_lets; intros)

theorem State.leavesOpen_frame {w : Nat} {b s : State} {p} (hw : Part.within (Part.sys ||| Part.rcd ||| Part.cnt ||| Part.seq |||
    Part.portals ||| Part.obs ||| Part.loads ||| Part.twin ||| Part.mem ||| Part.outs ||| Part.free ||| Part.states) w = true) (h :
    Frame w b s) :
    Frame w b (State.leavesOpen s p) := by
  unfold State.leavesOpen
  repeat' first
    | with_reducible assumption | exact Part.within_trans (by decide) hw | with_reducible refine Frame.ite ?_ ?_
    | with_reducible refine when_frame (fun _ _ => ?_) ?_ | with_reducible refine State.toOpen_frame ?_ ?_ | split | (lift_lets; intros)

theorem State.leavesReopened_frame {w : Nat} {b s : State} {p} (hw : Part.within (Part.sys ||| Part.rcd ||| Part.cnt ||| Part.seq |||
    Part.portals ||| Part.obs ||| Part.loads ||| Part.twin ||| Part.mem ||| Part.outs ||| Part.free ||| Part.states) w = true) (h :
    Frame w b s) :
    Frame w b (State.leavesReopened s p) := by
  unfold State.leavesReopened
  repeat' first
    | with_reducible assumption | exact Part.within_trans (by decide) hw | with_reducible refine Frame.ite ?_ ?_
    | with_reducible refine when_frame (fun _ _ => ?_) ?_ | with_reducible refine State.toOpen_frame ?_ ?_ | split | (lift_lets; intros)

theorem State.leavesClosed_frame {w : Nat} {b s : State} {p} (hw : Part.within (Part.sys ||| Part.rcd ||| Part.cnt ||| Part.seq |||
    Part.portals ||| Part.obs ||| Part.axes ||| Part.loads ||| Part.twin ||| Part.mem ||| Part.outs ||| Part.free ||| Part.states) w =
    true) (h : Frame w b s) :
    Frame w b (State.leavesClosed s p) := by
  unfold State.leavesClosed
  repeat' first
    | with_reducible assumption | exact Part.within_trans (by decide) hw | with_reducible refine Frame.ite ?_ ?_
    | with_reducible refine when_frame (fun _ _ => ?_) ?_ | with_reducible refine State.stopAll_frame ?_ ?_
    | with_reducible refine State.toLocking_frame ?_ ?_ | with_reducible refine State.enter_frame ?_ ?_ | split | (lift_lets; intros)

theorem State.dwellElapsed_frame {w : Nat} {b s : State} {p} (hw : Part.within (Part.sys ||| Part.bk ||| Part.rcd ||| Part.cnt |||
    Part.time ||| Part.seq ||| Part.portals ||| Part.obs ||| Part.axes ||| Part.ilk ||| Part.loads ||| Part.twin ||| Part.mem |||
    Part.outs ||| Part.free ||| Part.states) w = true) (h : Frame w b s) :
    Frame w b (State.dwellElapsed s p) := by
  unfold State.dwellElapsed
  repeat' first
    | with_reducible assumption | exact Part.within_trans (by decide) hw | with_reducible refine Frame.ite ?_ ?_
    | with_reducible refine when_frame (fun _ _ => ?_) ?_ | with_reducible refine State.passTo_frame ?_ ?_
    | with_reducible refine State.modPortal_frame ?_ ?_ ?_ | with_reducible refine State.tryT9_frame ?_ ?_ | exact id | exact fun _ => rfl
    | exact fun _ _ => rfl | exact fun _ => ⟨rfl, rfl⟩ | exact fun _ => ⟨rfl, rfl, rfl⟩ | exact fun k => Part.out_absurd hw (by decide) k
    | split | (lift_lets; intros)

theorem State.obstWaitElapsed_frame {w : Nat} {b s : State} {p} (hw : Part.within (Part.sys ||| Part.bk ||| Part.rcd ||| Part.cnt |||
    Part.time ||| Part.seq ||| Part.portals ||| Part.obs ||| Part.axes ||| Part.ilk ||| Part.loads ||| Part.twin ||| Part.mem |||
    Part.outs ||| Part.free ||| Part.states) w = true) (h : Frame w b s) :
    Frame w b (State.obstWaitElapsed s p) := by
  unfold State.obstWaitElapsed
  repeat' first
    | with_reducible assumption | exact Part.within_trans (by decide) hw | with_reducible refine Frame.ite ?_ ?_
    | with_reducible refine State.passTo_frame ?_ ?_ | with_reducible refine State.modPortal_frame ?_ ?_ ?_
    | with_reducible refine State.tryT9_frame ?_ ?_ | exact id | exact fun _ => rfl | exact fun _ _ => rfl | exact fun _ => ⟨rfl, rfl⟩
    | exact fun _ => ⟨rfl, rfl, rfl⟩ | exact fun k => Part.out_absurd hw (by decide) k | split | (lift_lets; intros)

theorem State.warnElapsed_frame {w : Nat} {b s : State} {p} (hw : Part.within (Part.bk ||| Part.time ||| Part.seq ||| Part.portals) w =
    true) (h : Frame w b s) :
    Frame w b (State.warnElapsed s p) := by
  unfold State.warnElapsed
  repeat' first
    | with_reducible assumption | exact Part.within_trans (by decide) hw | with_reducible refine Frame.ite ?_ ?_
    | with_reducible refine when_frame (fun _ _ => ?_) ?_ | with_reducible refine State.modPortal_frame ?_ ?_ ?_
    | with_reducible refine State.startLeaves_frame ?_ ?_ | with_reducible refine State.passTo_frame ?_ ?_ | exact fun _ => rfl
    | exact fun _ _ => rfl | exact fun k => Part.out_absurd hw (by decide) k | split | (lift_lets; intros)

theorem State.flashToggle_frame {w : Nat} {b s : State} {p} (hw : Part.within (Part.bk ||| Part.time ||| Part.portals ||| Part.loads) w =
    true) (h : Frame w b s) :
    Frame w b (State.flashToggle s p) := by
  unfold State.flashToggle
  repeat' first
    | with_reducible assumption | exact Part.within_trans (by decide) hw | with_reducible refine Frame.ite ?_ ?_
    | with_reducible refine when_frame (fun _ _ => ?_) ?_ | with_reducible refine State.modPortal_frame ?_ ?_ ?_
    | with_reducible refine State.commandSwitches_frame ?_ ?_ | with_reducible refine State.passTo_frame ?_ ?_ | exact fun _ => rfl
    | exact fun _ _ => rfl

theorem State.chimeOff_frame {w : Nat} {b s : State} {p} (hw : Part.within (Part.bk ||| Part.time ||| Part.portals ||| Part.loads) w =
    true) (h : Frame w b s) :
    Frame w b (State.chimeOff s p) := by
  unfold State.chimeOff
  repeat' first
    | with_reducible assumption | exact Part.within_trans (by decide) hw | with_reducible refine Frame.ite ?_ ?_
    | with_reducible refine when_frame (fun _ _ => ?_) ?_ | with_reducible refine State.passTo_frame ?_ ?_
    | with_reducible refine State.modPortal_frame ?_ ?_ ?_ | with_reducible refine State.commandSwitches_frame ?_ ?_
    | exact fun _ => rfl | exact fun _ _ => rfl

theorem State.unlockFail_frame {w : Nat} {b s : State} {p} (hw : Part.within (Part.sys ||| Part.bk ||| Part.rcd ||| Part.cnt |||
    Part.time ||| Part.seq ||| Part.portals ||| Part.obs ||| Part.axes ||| Part.ilk ||| Part.loads ||| Part.twin ||| Part.mem |||
    Part.outs ||| Part.free ||| Part.states) w = true) (h : Frame w b s) :
    Frame w b (State.unlockFail s p) := by
  unfold State.unlockFail
  repeat' first
    | with_reducible assumption | exact Part.within_trans (by decide) hw | with_reducible refine Frame.ite ?_ ?_
    | with_reducible refine when_frame (fun _ _ => ?_) ?_ | with_reducible refine State.passTo_frame ?_ ?_
    | with_reducible refine State.failTo_frame ?_ ?_ | split | (lift_lets; intros)

theorem State.lockTime_frame {w : Nat} {b s : State} {p} (hw : Part.within (Part.bk ||| Part.time ||| Part.portals ||| Part.obs |||
    Part.axes) w = true) (h : Frame w b s) :
    Frame w b (State.lockTime s p) := by
  unfold State.lockTime
  repeat' first
    | with_reducible assumption | exact Part.within_trans (by decide) hw | with_reducible refine Frame.ite ?_ ?_
    | with_reducible refine when_frame (fun _ _ => ?_) ?_ | with_reducible refine forEach_frame (fun _ _ _ => ?_) _ ?_
    | with_reducible refine State.modPortal_frame ?_ ?_ ?_ | with_reducible refine State.moveTo_frame ?_ ?_
    | with_reducible refine State.passTo_frame ?_ ?_ | exact fun _ => rfl | exact fun _ _ => rfl

theorem State.recloseEnd_frame {w : Nat} {b s : State} {p} (hw : Part.within (Part.bk ||| Part.time ||| Part.portals ||| Part.axes) w =
    true) (h : Frame w b s) :
    Frame w b (State.recloseEnd s p) := by
  unfold State.recloseEnd
  repeat' first
    | with_reducible assumption | exact Part.within_trans (by decide) hw | with_reducible refine Frame.ite ?_ ?_
    | with_reducible refine State.passTo_frame ?_ ?_ | with_reducible refine State.stopAll_frame ?_ ?_
    | with_reducible refine State.modPortal_frame ?_ ?_ ?_ | exact id | exact fun _ => rfl | exact fun _ _ => rfl
    | exact fun _ => ⟨rfl, rfl⟩ | exact fun _ => ⟨rfl, rfl, rfl⟩ | exact fun k => Part.out_absurd hw (by decide) k | split
    | (lift_lets; intros)

theorem State.lockFail_frame {w : Nat} {b s : State} {p} (hw : Part.within (Part.sys ||| Part.bk ||| Part.rcd ||| Part.cnt ||| Part.time
    ||| Part.seq ||| Part.portals ||| Part.obs ||| Part.axes ||| Part.ilk ||| Part.loads ||| Part.twin ||| Part.mem ||| Part.outs |||
    Part.free ||| Part.states) w = true) (h : Frame w b s) :
    Frame w b (State.lockFail s p) := by
  unfold State.lockFail
  repeat' first
    | with_reducible assumption | exact Part.within_trans (by decide) hw | with_reducible refine Frame.ite ?_ ?_
    | with_reducible refine when_frame (fun _ _ => ?_) ?_ | with_reducible refine State.passTo_frame ?_ ?_
    | with_reducible refine State.failTo_frame ?_ ?_ | split | (lift_lets; intros)

theorem State.stepFail_frame {w : Nat} {b s : State} {p} (hw : Part.within (Part.sys ||| Part.bk ||| Part.rcd ||| Part.cnt ||| Part.time
    ||| Part.seq ||| Part.portals ||| Part.obs ||| Part.axes ||| Part.ilk ||| Part.loads ||| Part.twin ||| Part.mem ||| Part.outs |||
    Part.free ||| Part.states) w = true) (h : Frame w b s) :
    Frame w b (State.stepFail s p) := by
  unfold State.stepFail
  repeat' first
    | with_reducible assumption | exact Part.within_trans (by decide) hw | with_reducible refine Frame.ite ?_ ?_
    | with_reducible refine when_frame (fun _ _ => ?_) ?_ | with_reducible refine State.passTo_frame ?_ ?_
    | with_reducible refine State.failTo_frame ?_ ?_ | split | (lift_lets; intros)

theorem State.referenceFail_frame {w : Nat} {b s : State} {p} (hw : Part.within (Part.sys ||| Part.bk ||| Part.rcd ||| Part.cnt |||
    Part.time ||| Part.seq ||| Part.portals ||| Part.obs ||| Part.axes ||| Part.ilk ||| Part.loads ||| Part.twin ||| Part.mem |||
    Part.outs ||| Part.free ||| Part.states) w = true) (h : Frame w b s) :
    Frame w b (State.referenceFail s p) := by
  unfold State.referenceFail
  repeat' first
    | with_reducible assumption | exact Part.within_trans (by decide) hw | with_reducible refine Frame.ite ?_ ?_
    | with_reducible refine when_frame (fun _ _ => ?_) ?_ | with_reducible refine forEach_frame (fun _ _ _ => ?_) _ ?_
    | with_reducible refine State.passTo_frame ?_ ?_ | with_reducible refine State.acted_frame ?_ ?_
    | with_reducible refine State.modPortal_frame ?_ ?_ ?_ | with_reducible refine State.raise_frame ?_ ?_
    | with_reducible refine State.emergencyStop_frame ?_ ?_
    | with_reducible refine State.enter_frame ?_ ?_ | exact id | exact fun _ => rfl | exact fun _ _ => rfl | exact fun _ => ⟨rfl, rfl⟩
    | exact fun _ => ⟨rfl, rfl, rfl⟩ | exact fun k => Part.out_absurd hw (by decide) k | split | (lift_lets; intros)

theorem State.grant_frame {w : Nat} {b s : State} {t sc} (hw : Part.within (Part.sys ||| Part.rcd ||| Part.cnt ||| Part.seq |||
    Part.portals ||| Part.obs ||| Part.axes ||| Part.loads ||| Part.twin ||| Part.mem ||| Part.outs ||| Part.free ||| Part.states) w =
    true) (h : Frame w b s) :
    Frame w b (State.grant s t sc) := by
  unfold State.grant
  repeat' first
    | with_reducible assumption | exact Part.within_trans (by decide) hw | with_reducible refine Frame.ite ?_ ?_
    | with_reducible refine forEach_frame (fun _ _ _ => ?_) _ ?_ | with_reducible refine State.modPortal_frame ?_ ?_ ?_
    | with_reducible refine State.raise_frame ?_ ?_ | with_reducible refine State.flag_frame ?_ ?_
    | with_reducible refine State.count_frame ?_ ?_
    | with_reducible refine State.moveTo_frame ?_ ?_ | with_reducible refine State.modAxis_frame ?_ ?_
    | with_reducible refine State.enter_frame ?_ ?_ | exact id | exact fun _ => rfl | exact fun _ _ => rfl | exact fun _ => ⟨rfl, rfl⟩
    | exact fun _ => ⟨rfl, rfl, rfl⟩ | exact fun k => Part.out_absurd hw (by decide) k | split | (lift_lets; intros)
    | with_reducible refine Frame.set_seq ?_ ?_ ?_

theorem grantGo_frame {w : Nat} {b : State} (hw : Part.within (Part.sys ||| Part.rcd ||| Part.cnt ||| Part.seq ||| Part.portals |||
    Part.obs ||| Part.axes ||| Part.loads ||| Part.twin ||| Part.mem ||| Part.outs ||| Part.free ||| Part.states) w = true) :
    ∀ {l : List Start} {com : Nat} {s : State}, Frame w b s → Frame w b (grantGo l com s) := by
  intro l
  induction l with
  | nil => intro com s h; exact h
  | cons t ts ih =>
    intro com s h
    unfold grantGo
    exact Frame.ite (ih (State.grant_frame hw h)) h

theorem State.arbitrate_frame {w : Nat} {b s : State} (hw : Part.within (Part.sys ||| Part.rcd ||| Part.cnt ||| Part.seq |||
    Part.portals ||| Part.obs ||| Part.axes ||| Part.loads ||| Part.twin ||| Part.mem ||| Part.outs ||| Part.free ||| Part.states) w =
    true) (h : Frame w b s) :
    Frame w b (State.arbitrate s) := by
  unfold State.arbitrate
  repeat' first
    | with_reducible assumption | exact Part.within_trans (by decide) hw | with_reducible refine Frame.ite ?_ ?_
    | with_reducible refine grantGo_frame ?_ ?_ | split | (lift_lets; intros)

theorem State.applyHeld_frame {w : Nat} {b s : State} {p} (hw : Part.within (Part.sys ||| Part.rcd ||| Part.cnt ||| Part.seq |||
    Part.portals ||| Part.obs ||| Part.axes ||| Part.ilk ||| Part.loads ||| Part.twin ||| Part.mem ||| Part.outs ||| Part.free |||
    Part.states) w = true) (h : Frame w b s) :
    Frame w b (State.applyHeld s p) := by
  unfold State.applyHeld
  repeat' first
    | with_reducible assumption | exact Part.within_trans (by decide) hw | with_reducible refine Frame.ite ?_ ?_
    | with_reducible refine forEach_frame (fun _ _ _ => ?_) _ ?_
    | with_reducible refine State.actOn_frame ?_ ?_ | with_reducible refine State.modPortal_frame ?_ ?_ ?_ | exact id | exact fun _ => rfl
    | exact fun _ _ => rfl | exact fun _ => ⟨rfl, rfl⟩ | exact fun _ => ⟨rfl, rfl, rfl⟩ | exact fun k => Part.out_absurd hw (by decide) k
    | split | (lift_lets; intros)

theorem State.noteCycle_frame {w : Nat} {b s : State} {p} (hw : Part.within Part.portals w = true) (h : Frame w b s) :
    Frame w b (State.noteCycle s p) := by
  unfold State.noteCycle
  repeat' first
    | with_reducible assumption | exact Part.within_trans (by decide) hw | with_reducible refine Frame.ite ?_ ?_
    | with_reducible refine State.flag_frame ?_ ?_ | with_reducible refine State.modPortal_frame ?_ ?_ ?_ | exact fun _ => rfl
    | exact fun _ _ => rfl

theorem State.portalCycle_frame {w : Nat} {b s : State} {p} (hw : Part.within (Part.sys ||| Part.rcd ||| Part.cnt ||| Part.seq |||
    Part.portals ||| Part.obs ||| Part.axes ||| Part.ilk ||| Part.loads ||| Part.twin ||| Part.mem ||| Part.outs ||| Part.free |||
    Part.states) w = true) (h : Frame w b s) :
    Frame w b (State.portalCycle s p) := by
  unfold State.portalCycle
  repeat' first
    | with_reducible assumption | exact Part.within_trans (by decide) hw | with_reducible refine Frame.ite ?_ ?_
    | with_reducible refine State.modPortal_frame ?_ ?_ ?_ | with_reducible refine State.toFault_frame ?_ ?_
    | with_reducible refine State.tryT21_frame ?_ ?_ | with_reducible refine State.toReopening_frame ?_ ?_
    | with_reducible refine State.acted_frame ?_ ?_ | with_reducible refine State.applyHeld_frame ?_ ?_
    | with_reducible refine State.presenceNow_frame ?_ ?_ | with_reducible refine State.noteCycle_frame ?_ ?_ | exact id
    | exact fun _ => rfl | exact fun _ _ => rfl | exact fun _ => ⟨rfl, rfl⟩ | exact fun _ => ⟨rfl, rfl, rfl⟩
    | exact fun k => Part.out_absurd hw (by decide) k | split | (lift_lets; intros)

end Sys2Proof.Machine
end

