-- ==== Sys2Proof/Laws/FrameDriveLink.lean ====
section
/-!
SUPPORT. Sys2Proof/Laws/FrameDriveLink.lean: the frame of each operation of Machine/DriveLink.lean.
-/
set_option Elab.async false
namespace Sys2Proof.Machine
open Sys2Proof

theorem State.dlStart_frame {w : Nat} {b s : State} {l} (hw : Part.within Part.links w = true) (h : Frame w b s) :
    Frame w b (State.dlStart s l) := by
  unfold State.dlStart
  repeat' first
    | with_reducible assumption | exact Part.within_trans (by decide) hw | with_reducible refine Frame.ite ?_ ?_
    | with_reducible refine State.modLink_frame ?_ ?_

theorem State.dlFault_frame {w : Nat} {b s : State} {l c} (hw : Part.within (Part.rcd ||| Part.cnt ||| Part.axes ||| Part.links) w =
    true) (h : Frame w b s) :
    Frame w b (State.dlFault s l c) := by
  unfold State.dlFault
  repeat' first
    | with_reducible assumption | exact Part.within_trans (by decide) hw | with_reducible refine Frame.ite ?_ ?_
    | with_reducible refine forEach_frame (fun _ _ _ => ?_) _ ?_ | with_reducible refine State.faultAxisOff_frame ?_ ?_
    | with_reducible refine State.modLink_frame ?_ ?_ | with_reducible refine State.raise_frame ?_ ?_

theorem State.dlCfgWritten_frame {w : Nat} {b s : State} {l was} (hw : Part.within Part.links w = true) (h : Frame w b s) :
    Frame w b (State.dlCfgWritten s l was) := by
  unfold State.dlCfgWritten
  repeat' first
    | with_reducible assumption | exact Part.within_trans (by decide) hw | with_reducible refine Frame.ite ?_ ?_
    | with_reducible refine State.dlStart_frame ?_ ?_ | with_reducible refine State.modLink_frame ?_ ?_ | split | (lift_lets; intros)

theorem State.dlRestart_frame {w : Nat} {b s : State} {l} (hw : Part.within Part.links w = true) (h : Frame w b s) :
    Frame w b (State.dlRestart s l) := by
  unfold State.dlRestart
  repeat' first
    | with_reducible assumption | exact Part.within_trans (by decide) hw | with_reducible refine Frame.ite ?_ ?_
    | with_reducible refine when_frame (fun _ _ => ?_) ?_ | with_reducible refine State.dlStart_frame ?_ ?_

theorem State.dlIdleEnd_frame {w : Nat} {b s : State} {l} (hw : Part.within (Part.bk ||| Part.time ||| Part.links) w = true) (h : Frame w
    b s) :
    Frame w b (State.dlIdleEnd s l) := by
  unfold State.dlIdleEnd
  repeat' first
    | with_reducible assumption | exact Part.within_trans (by decide) hw | with_reducible refine Frame.ite ?_ ?_
    | with_reducible refine State.passTo_frame ?_ ?_ | with_reducible refine State.modLink_frame ?_ ?_ | split

theorem State.dlMeasured_frame {w : Nat} {b s : State} {l trips} (hw : Part.within (Part.rcd ||| Part.cnt ||| Part.axes ||| Part.links) w
    = true) (h : Frame w b s) :
    Frame w b (State.dlMeasured s l trips) := by
  unfold State.dlMeasured
  repeat' first
    | with_reducible assumption | exact Part.within_trans (by decide) hw | with_reducible refine Frame.ite ?_ ?_
    | with_reducible refine when_frame (fun _ _ => ?_) ?_ | with_reducible refine State.modLink_frame ?_ ?_
    | with_reducible refine State.dlFault_frame ?_ ?_ | split | (lift_lets; intros)

theorem State.dlSend_frame {w : Nat} {b s : State} {l} (hw : Part.within (Part.cnt ||| Part.links ||| Part.outs) w = true) (h : Frame w
    b s) :
    Frame w b (State.dlSend s l) := by
  unfold State.dlSend
  repeat' first
    | with_reducible assumption | exact Part.within_trans (by decide) hw | with_reducible refine Frame.ite ?_ ?_
    | with_reducible refine State.modLink_frame ?_ ?_ | with_reducible refine State.count_frame ?_ ?_
    | with_reducible refine State.emit_frame ?_ ?_ | split | (lift_lets; intros)

theorem State.slotHeld_frame {w : Nat} {b s : State} {l k} (hw : Part.within (Part.rcd ||| Part.cnt ||| Part.portals ||| Part.axes |||
    Part.links) w = true) (h : Frame w b s) :
    Frame w b (State.slotHeld s l k) := by
  unfold State.slotHeld
  repeat' first
    | with_reducible assumption | exact Part.within_trans (by decide) hw | with_reducible refine Frame.ite ?_ ?_
    | with_reducible refine State.modLink_frame ?_ ?_ | with_reducible refine State.count_frame ?_ ?_
    | with_reducible refine State.modAxis_frame ?_ ?_ | with_reducible refine State.flag_frame ?_ ?_
    | with_reducible refine State.raise_frame ?_ ?_ | with_reducible refine State.faultAxisOff_frame ?_ ?_ | split | (lift_lets; intros)

theorem State.slotTaken_frame {w : Nat} {b s : State} {l k b'} (hw : Part.within (Part.rcd ||| Part.cnt ||| Part.portals ||| Part.axes
    ||| Part.links) w = true) (h : Frame w b s) :
    Frame w b (State.slotTaken s l k b') := by
  unfold State.slotTaken
  repeat' first
    | with_reducible assumption | exact Part.within_trans (by decide) hw | with_reducible refine Frame.ite ?_ ?_
    | with_reducible refine State.modLink_frame ?_ ?_ | with_reducible refine State.raise_frame ?_ ?_
    | with_reducible refine State.modAxis_frame ?_ ?_ | with_reducible refine State.flag_frame ?_ ?_
    | with_reducible refine State.faultAxisOff_frame ?_ ?_ | split | (lift_lets; intros)

theorem State.dlProgress_frame {w : Nat} {b s : State} {l} (hw : Part.within (Part.rcd ||| Part.cnt ||| Part.links) w = true) (h : Frame
    w b s) :
    Frame w b (State.dlProgress s l) := by
  unfold State.dlProgress
  repeat' first
    | with_reducible assumption | exact Part.within_trans (by decide) hw | with_reducible refine Frame.ite ?_ ?_
    | with_reducible refine State.modLink_frame ?_ ?_ | with_reducible refine State.raise_frame ?_ ?_

theorem State.chainBad_frame {w : Nat} {b s : State} {l c} (hw : Part.within (Part.rcd ||| Part.cnt ||| Part.axes ||| Part.links) w =
    true) (h : Frame w b s) :
    Frame w b (State.chainBad s l c) := by
  unfold State.chainBad
  repeat' first
    | with_reducible assumption | exact Part.within_trans (by decide) hw | with_reducible refine Frame.ite ?_ ?_
    | with_reducible refine State.dlFault_frame ?_ ?_ | with_reducible refine State.modLink_frame ?_ ?_

theorem State.dlReply_frame {w : Nat} {b s : State} {l f} (hw : Part.within (Part.rcd ||| Part.cnt ||| Part.portals ||| Part.axes |||
    Part.links) w = true) (h : Frame w b s) :
    Frame w b (State.dlReply s l f) := by
  unfold State.dlReply
  repeat' first
    | with_reducible assumption | exact Part.within_trans (by decide) hw | with_reducible refine Frame.ite ?_ ?_
    | with_reducible refine when_frame (fun _ _ => ?_) ?_ | with_reducible refine forEach_frame (fun _ _ _ => ?_) _ ?_
    | with_reducible refine State.chainBad_frame ?_ ?_ | with_reducible refine State.dlProgress_frame ?_ ?_
    | with_reducible refine State.slotHeld_frame ?_ ?_ | with_reducible refine State.slotTaken_frame ?_ ?_
    | with_reducible refine State.modLink_frame ?_ ?_

theorem State.dlTimeout_frame {w : Nat} {b s : State} {l} (hw : Part.within (Part.bk ||| Part.rcd ||| Part.cnt ||| Part.time |||
    Part.portals ||| Part.axes ||| Part.links) w = true) (h : Frame w b s) :
    Frame w b (State.dlTimeout s l) := by
  unfold State.dlTimeout
  repeat' first
    | with_reducible assumption | exact Part.within_trans (by decide) hw | with_reducible refine Frame.ite ?_ ?_
    | with_reducible refine when_frame (fun _ _ => ?_) ?_ | with_reducible refine forEach_frame (fun _ _ _ => ?_) _ ?_
    | with_reducible refine State.dlProgress_frame ?_ ?_ | with_reducible refine State.chainBad_frame ?_ ?_
    | with_reducible refine State.slotHeld_frame ?_ ?_ | with_reducible refine State.modLink_frame ?_ ?_
    | with_reducible refine State.passTo_frame ?_ ?_

end Sys2Proof.Machine
end

