-- ==== Sys2Proof/Laws/FrameInterlock.lean ====
section
/-!
SUPPORT. Sys2Proof/Laws/FrameInterlock.lean: the frame of each operation of Machine/Interlock.lean.
-/
set_option Elab.async false
namespace Sys2Proof.Machine
open Sys2Proof

theorem State.faultWithdraw_frame {w : Nat} {b s : State} (hw : Part.within (Part.sys ||| Part.rcd ||| Part.cnt ||| Part.seq |||
    Part.portals ||| Part.obs ||| Part.axes ||| Part.ilk ||| Part.loads ||| Part.twin ||| Part.mem ||| Part.outs ||| Part.free |||
    Part.states) w = true) (h : Frame w b s) :
    Frame w b (State.faultWithdraw s) := by
  unfold State.faultWithdraw
  repeat' first
    | with_reducible assumption | exact Part.within_trans (by decide) hw | with_reducible refine Frame.ite ?_ ?_
    | with_reducible refine when_frame (fun _ _ => ?_) ?_ | with_reducible refine State.execute_frame ?_ ?_ | split | (lift_lets; intros)

theorem State.soLevel_frame {w : Nat} {b s : State} {k v} (hw : Part.within Part.ilk w = true) (h : Frame w b s) :
    Frame w b (State.soLevel s k v) := by
  unfold State.soLevel
  repeat' first
    | with_reducible assumption | exact Part.within_trans (by decide) hw | with_reducible refine Frame.ite ?_ ?_
    | with_reducible refine State.modSo_frame ?_ ?_

theorem State.soRecord_frame {w : Nat} {b s : State} (hw : Part.within (Part.rcd ||| Part.cnt ||| Part.ilk) w = true) (h : Frame w b s)
    :
    Frame w b (State.soRecord s) := by
  unfold State.soRecord
  repeat' first
    | with_reducible assumption | exact Part.within_trans (by decide) hw | with_reducible refine Frame.ite ?_ ?_
    | with_reducible refine State.raise_frame ?_ ?_ | exact id | exact fun _ => rfl | exact fun _ _ => rfl | exact fun _ => ⟨rfl, rfl⟩
    | exact fun _ => ⟨rfl, rfl, rfl⟩ | exact fun k => Part.out_absurd hw (by decide) k | split | (lift_lets; intros)
    | with_reducible refine Frame.set_ilk ?_ ?_

theorem State.driveSo_frame {w : Nat} {b s : State} {b' v0 v1} (hw : Part.within (Part.rcd ||| Part.cnt ||| Part.ilk) w = true) (h :
    Frame w b s) :
    Frame w b (State.driveSo s b' v0 v1) := by
  unfold State.driveSo
  repeat' first
    | with_reducible assumption | exact Part.within_trans (by decide) hw | with_reducible refine Frame.ite ?_ ?_
    | with_reducible refine State.soRecord_frame ?_ ?_ | with_reducible refine State.soLevel_frame ?_ ?_ | exact id | exact fun _ => rfl
    | exact fun _ _ => rfl | exact fun _ => ⟨rfl, rfl⟩ | exact fun _ => ⟨rfl, rfl, rfl⟩ | exact fun k => Part.out_absurd hw (by decide) k
    | split | (lift_lets; intros) | with_reducible refine Frame.set_ilk ?_ ?_

theorem State.channelA_frame {w : Nat} {b s : State} (hw : Part.within (Part.rcd ||| Part.cnt ||| Part.ilk) w = true) (h : Frame w b s) :
    Frame w b (State.channelA s) := by
  unfold State.channelA
  repeat' first
    | with_reducible assumption | exact Part.within_trans (by decide) hw | with_reducible refine Frame.ite ?_ ?_
    | with_reducible refine State.driveSo_frame ?_ ?_

theorem State.ilkSample_frame {w : Nat} {b s : State} {c on} (hw : Part.within Part.ilk w = true) (h : Frame w b s) :
    Frame w b (State.ilkSample s c on) := by
  unfold State.ilkSample
  repeat' first
    | with_reducible assumption | exact Part.within_trans (by decide) hw | with_reducible refine Frame.ite ?_ ?_ | exact id
    | exact fun _ => rfl | exact fun _ _ => rfl | exact fun _ => ⟨rfl, rfl⟩ | exact fun _ => ⟨rfl, rfl, rfl⟩
    | exact fun k => Part.out_absurd hw (by decide) k | split | (lift_lets; intros) | with_reducible refine Frame.set_ilk ?_ ?_

theorem State.ilkTileOff_frame {w : Nat} {b s : State} {k} (hw : Part.within Part.ilk w = true) (h : Frame w b s) :
    Frame w b (State.ilkTileOff s k) := by
  unfold State.ilkTileOff
  repeat' first
    | with_reducible assumption | exact Part.within_trans (by decide) hw | with_reducible refine Frame.ite ?_ ?_ | split
    | (lift_lets; intros) | with_reducible refine Frame.set_ilk ?_ ?_

theorem State.channelB_frame {w : Nat} {b s : State} (hw : Part.within (Part.rcd ||| Part.cnt ||| Part.ilk) w = true) (h : Frame w b s) :
    Frame w b (State.channelB s) := by
  unfold State.channelB
  repeat' first
    | with_reducible assumption | exact Part.within_trans (by decide) hw | with_reducible refine Frame.ite ?_ ?_
    | with_reducible refine State.driveSo_frame ?_ ?_ | split | (lift_lets; intros) | with_reducible refine Frame.set_ilk ?_ ?_

theorem State.crossStep_frame {w : Nat} {b s : State} (hw : Part.within Part.ilk w = true) (h : Frame w b s) :
    Frame w b (State.crossStep s) := by
  unfold State.crossStep
  repeat' first
    | with_reducible assumption | exact Part.within_trans (by decide) hw | with_reducible refine Frame.ite ?_ ?_
    | with_reducible refine forEach_frame (fun _ _ _ => ?_) _ ?_ | split | (lift_lets; intros)
    | with_reducible refine Frame.set_ilk ?_ ?_

theorem State.crossFault_frame {w : Nat} {b s : State} {k} (hw : Part.within (Part.sys ||| Part.bk ||| Part.rcd ||| Part.cnt |||
    Part.time ||| Part.seq ||| Part.portals ||| Part.obs ||| Part.axes ||| Part.ilk ||| Part.loads ||| Part.twin ||| Part.mem |||
    Part.outs ||| Part.free ||| Part.states) w = true) (h : Frame w b s) :
    Frame w b (State.crossFault s k) := by
  unfold State.crossFault
  repeat' first
    | with_reducible assumption | exact Part.within_trans (by decide) hw | with_reducible refine Frame.ite ?_ ?_
    | with_reducible refine State.passTo_frame ?_ ?_ | with_reducible refine State.raise_frame ?_ ?_
    | with_reducible refine State.faultWithdraw_frame ?_ ?_ | exact id | exact fun _ => rfl | exact fun _ _ => rfl
    | exact fun _ => ⟨rfl, rfl⟩ | exact fun _ => ⟨rfl, rfl, rfl⟩ | exact fun k => Part.out_absurd hw (by decide) k | split
    | (lift_lets; intros) | with_reducible refine Frame.set_ilk ?_ ?_

theorem State.discLatch_frame {w : Nat} {b s : State} {i} (hw : Part.within (Part.rcd ||| Part.cnt ||| Part.ilk) w = true) (h : Frame w b
    s) :
    Frame w b (State.discLatch s i) := by
  unfold State.discLatch
  repeat' first
    | with_reducible assumption | exact Part.within_trans (by decide) hw | with_reducible refine Frame.ite ?_ ?_
    | with_reducible refine State.modPair_frame ?_ ?_ | with_reducible refine State.raise_frame ?_ ?_
    | with_reducible refine State.count_frame ?_ ?_

theorem State.pairStep_frame {w : Nat} {b s : State} {i} (hw : Part.within (Part.rcd ||| Part.cnt ||| Part.ilk) w = true) (h : Frame w b
    s) :
    Frame w b (State.pairStep s i) := by
  unfold State.pairStep
  repeat' first
    | with_reducible assumption | exact Part.within_trans (by decide) hw | with_reducible refine Frame.ite ?_ ?_
    | with_reducible refine State.modPair_frame ?_ ?_ | with_reducible refine State.discLatch_frame ?_ ?_ | split | (lift_lets; intros)

theorem State.discrepancy_frame {w : Nat} {b s : State} {i} (hw : Part.within (Part.bk ||| Part.rcd ||| Part.cnt ||| Part.time |||
    Part.ilk) w = true) (h : Frame w b s) :
    Frame w b (State.discrepancy s i) := by
  unfold State.discrepancy
  repeat' first
    | with_reducible assumption | exact Part.within_trans (by decide) hw | with_reducible refine Frame.ite ?_ ?_
    | with_reducible refine when_frame (fun _ _ => ?_) ?_ | with_reducible refine State.modPair_frame ?_ ?_
    | with_reducible refine State.passTo_frame ?_ ?_ | with_reducible refine State.discLatch_frame ?_ ?_

theorem State.testPulseFail_frame {w : Nat} {b s : State} {c} (hw : Part.within (Part.rcd ||| Part.cnt ||| Part.ilk) w = true) (h : Frame
    w b s) :
    Frame w b (State.testPulseFail s c) := by
  unfold State.testPulseFail
  repeat' first
    | with_reducible assumption | exact Part.within_trans (by decide) hw | with_reducible refine Frame.ite ?_ ?_
    | with_reducible refine forEach_frame (fun _ _ _ => ?_) _ ?_ | with_reducible refine State.raise_frame ?_ ?_
    | with_reducible refine State.count_frame ?_ ?_ | with_reducible refine State.modPair_frame ?_ ?_

theorem State.offPulse_frame {w : Nat} {b s : State} {k} (hw : Part.within (Part.bk ||| Part.time ||| Part.ilk) w = true) (h : Frame w b
    s) :
    Frame w b (State.offPulse s k) := by
  unfold State.offPulse
  repeat' first
    | with_reducible assumption | exact Part.within_trans (by decide) hw | with_reducible refine Frame.ite ?_ ?_
    | with_reducible refine when_frame (fun _ _ => ?_) ?_ | with_reducible refine State.modSo_frame ?_ ?_
    | with_reducible refine State.passTo_frame ?_ ?_

theorem State.soTestFail_frame {w : Nat} {b s : State} {k kind rb} (hw : Part.within (Part.sys ||| Part.rcd ||| Part.cnt ||| Part.seq
    ||| Part.portals ||| Part.obs ||| Part.axes ||| Part.ilk ||| Part.loads ||| Part.twin ||| Part.mem ||| Part.outs ||| Part.free |||
    Part.states) w = true) (h : Frame w b s) :
    Frame w b (State.soTestFail s k kind rb) := by
  unfold State.soTestFail
  repeat' first
    | with_reducible assumption | exact Part.within_trans (by decide) hw | with_reducible refine Frame.ite ?_ ?_
    | with_reducible refine State.modSo_frame ?_ ?_ | with_reducible refine State.raise_frame ?_ ?_
    | with_reducible refine State.faultWithdraw_frame ?_ ?_ | split | (lift_lets; intros)

theorem State.pulseEnds_frame {w : Nat} {b s : State} {k wentOff backOn} (hw : Part.within (Part.sys ||| Part.bk ||| Part.rcd |||
    Part.cnt ||| Part.time ||| Part.seq ||| Part.portals ||| Part.obs ||| Part.axes ||| Part.ilk ||| Part.loads ||| Part.twin |||
    Part.mem ||| Part.outs ||| Part.free ||| Part.states) w = true) (h : Frame w b s) :
    Frame w b (State.pulseEnds s k wentOff backOn) := by
  unfold State.pulseEnds
  repeat' first
    | with_reducible assumption | exact Part.within_trans (by decide) hw | with_reducible refine Frame.ite ?_ ?_
    | with_reducible refine when_frame (fun _ _ => ?_) ?_ | with_reducible refine State.passTo_frame ?_ ?_
    | with_reducible refine State.modSo_frame ?_ ?_ | with_reducible refine State.soTestFail_frame ?_ ?_
    | with_reducible refine State.count_frame ?_ ?_ | split | (lift_lets; intros)

theorem State.readbackNow_frame {w : Nat} {b s : State} {k level} (hw : Part.within (Part.sys ||| Part.bk ||| Part.rcd ||| Part.cnt |||
    Part.time ||| Part.seq ||| Part.portals ||| Part.obs ||| Part.axes ||| Part.ilk ||| Part.loads ||| Part.twin ||| Part.mem |||
    Part.outs ||| Part.free ||| Part.states) w = true) (h : Frame w b s) :
    Frame w b (State.readbackNow s k level) := by
  unfold State.readbackNow
  repeat' first
    | with_reducible assumption | exact Part.within_trans (by decide) hw | with_reducible refine Frame.ite ?_ ?_
    | with_reducible refine when_frame (fun _ _ => ?_) ?_ | with_reducible refine State.passTo_frame ?_ ?_
    | with_reducible refine State.soTestFail_frame ?_ ?_ | with_reducible refine State.modSo_frame ?_ ?_ | split | (lift_lets; intros)

theorem State.monStep_frame {w : Nat} {b s : State} {i} (hw : Part.within Part.ilk w = true) (h : Frame w b s) :
    Frame w b (State.monStep s i) := by
  unfold State.monStep
  repeat' first
    | with_reducible assumption | exact Part.within_trans (by decide) hw | with_reducible refine Frame.ite ?_ ?_
    | with_reducible refine State.setMon_frame ?_ ?_

theorem State.monFault_frame {w : Nat} {b s : State} {i} (hw : Part.within (Part.sys ||| Part.bk ||| Part.rcd ||| Part.cnt ||| Part.time
    ||| Part.seq ||| Part.portals ||| Part.obs ||| Part.axes ||| Part.ilk ||| Part.loads ||| Part.twin ||| Part.mem ||| Part.outs |||
    Part.free ||| Part.states) w = true) (h : Frame w b s) :
    Frame w b (State.monFault s i) := by
  unfold State.monFault
  repeat' first
    | with_reducible assumption | exact Part.within_trans (by decide) hw | with_reducible refine Frame.ite ?_ ?_
    | with_reducible refine when_frame (fun _ _ => ?_) ?_ | with_reducible refine State.passTo_frame ?_ ?_
    | with_reducible refine State.modMon_frame ?_ ?_ | with_reducible refine State.raise_frame ?_ ?_
    | with_reducible refine State.faultWithdraw_frame ?_ ?_ | split | (lift_lets; intros)

theorem State.cleared_frame {w : Nat} {b s : State} {inst kind} (hw : Part.within (Part.rcd ||| Part.cnt) w = true) (h : Frame w b s) :
    Frame w b (State.cleared s inst kind) := by
  unfold State.cleared
  repeat' first
    | with_reducible assumption | exact Part.within_trans (by decide) hw | with_reducible refine Frame.ite ?_ ?_
    | with_reducible refine State.raise_frame ?_ ?_

theorem State.clearPair_frame {w : Nat} {b s : State} {i} (hw : Part.within (Part.rcd ||| Part.cnt ||| Part.ilk) w = true) (h : Frame w b
    s) :
    Frame w b (State.clearPair s i) := by
  unfold State.clearPair
  repeat' first
    | with_reducible assumption | exact Part.within_trans (by decide) hw | with_reducible refine Frame.ite ?_ ?_
    | with_reducible refine State.cleared_frame ?_ ?_ | with_reducible refine State.modPair_frame ?_ ?_

theorem State.clearMon_frame {w : Nat} {b s : State} {i} (hw : Part.within (Part.rcd ||| Part.cnt ||| Part.ilk) w = true) (h : Frame w b
    s) :
    Frame w b (State.clearMon s i) := by
  unfold State.clearMon
  repeat' first
    | with_reducible assumption | exact Part.within_trans (by decide) hw | with_reducible refine Frame.ite ?_ ?_
    | with_reducible refine State.setMon_frame ?_ ?_ | with_reducible refine State.cleared_frame ?_ ?_ | split | (lift_lets; intros)

theorem State.clearSo_frame {w : Nat} {b s : State} {k} (hw : Part.within (Part.rcd ||| Part.cnt ||| Part.ilk) w = true) (h : Frame w b
    s) :
    Frame w b (State.clearSo s k) := by
  unfold State.clearSo
  repeat' first
    | with_reducible assumption | exact Part.within_trans (by decide) hw | with_reducible refine Frame.ite ?_ ?_
    | with_reducible refine State.setSo_frame ?_ ?_ | with_reducible refine State.cleared_frame ?_ ?_

theorem State.ilkClear_frame {w : Nat} {b s : State} (hw : Part.within (Part.rcd ||| Part.cnt ||| Part.ilk) w = true) (h : Frame w b s) :
    Frame w b (State.ilkClear s) := by
  unfold State.ilkClear
  repeat' first
    | with_reducible assumption | exact Part.within_trans (by decide) hw | with_reducible refine Frame.ite ?_ ?_
    | with_reducible refine forEach_frame (fun _ _ _ => ?_) _ ?_ | with_reducible refine State.clearSo_frame ?_ ?_
    | with_reducible refine State.clearMon_frame ?_ ?_ | with_reducible refine State.cleared_frame ?_ ?_
    | with_reducible refine State.clearPair_frame ?_ ?_ | split | (lift_lets; intros) | with_reducible refine Frame.set_ilk ?_ ?_

theorem State.safetyLog_frame {w : Nat} {b s : State} {kind key oldV newV oldP newP dig8} (hw : Part.within (Part.rcd ||| Part.cnt |||
    Part.ilk ||| Part.mem) w = true) (h : Frame w b s) :
    Frame w b (State.safetyLog s kind key oldV newV oldP newP dig8) := by
  unfold State.safetyLog
  repeat' first
    | with_reducible assumption | exact Part.within_trans (by decide) hw | with_reducible refine Frame.ite ?_ ?_
    | with_reducible refine State.raise_frame ?_ ?_ | with_reducible refine State.setMem_frame ?_ ?_ | split | (lift_lets; intros)
    | with_reducible refine Frame.set_rcd ?_ ?_ | with_reducible refine Frame.set_ilk ?_ ?_

theorem State.logLoad_frame {w : Nat} {b s : State} {k} (hw : Part.within Part.ilk w = true) (h : Frame w b s) :
    Frame w b (State.logLoad s k) := by
  unfold State.logLoad
  repeat' first
    | with_reducible assumption | exact Part.within_trans (by decide) hw | with_reducible refine Frame.ite ?_ ?_ | exact id
    | exact fun _ => rfl | exact fun _ _ => rfl | exact fun _ => ⟨rfl, rfl⟩ | exact fun _ => ⟨rfl, rfl, rfl⟩
    | exact fun k => Part.out_absurd hw (by decide) k | split | (lift_lets; intros) | with_reducible refine Frame.set_ilk ?_ ?_

theorem State.loadPcrcRef_frame {w : Nat} {b s : State} {ref} (hw : Part.within Part.ilk w = true) (h : Frame w b s) :
    Frame w b (State.loadPcrcRef s ref) := by
  unfold State.loadPcrcRef
  repeat' first
    | with_reducible assumption | exact Part.within_trans (by decide) hw | with_reducible refine Frame.ite ?_ ?_ | split
    | (lift_lets; intros) | with_reducible refine Frame.set_ilk ?_ ?_

theorem State.pcrcTrip_frame {w : Nat} {b s : State} {off} (hw : Part.within (Part.sys ||| Part.rcd ||| Part.cnt ||| Part.seq |||
    Part.portals ||| Part.obs ||| Part.axes ||| Part.ilk ||| Part.loads ||| Part.twin ||| Part.mem ||| Part.outs ||| Part.free |||
    Part.states) w = true) (h : Frame w b s) :
    Frame w b (State.pcrcTrip s off) := by
  unfold State.pcrcTrip
  repeat' first
    | with_reducible assumption | exact Part.within_trans (by decide) hw | with_reducible refine Frame.ite ?_ ?_
    | with_reducible refine when_frame (fun _ _ => ?_) ?_ | with_reducible refine State.raise_frame ?_ ?_
    | with_reducible refine State.safetyLog_frame ?_ ?_ | with_reducible refine State.faultWithdraw_frame ?_ ?_ | exact id
    | exact fun _ => rfl | exact fun _ _ => rfl | exact fun _ => ⟨rfl, rfl⟩ | exact fun _ => ⟨rfl, rfl, rfl⟩
    | exact fun k => Part.out_absurd hw (by decide) k | split | (lift_lets; intros) | with_reducible refine Frame.set_ilk ?_ ?_

theorem State.pcrcCompute_frame {w : Nat} {b s : State} (hw : Part.within Part.ilk w = true) (h : Frame w b s) :
    Frame w b (State.pcrcCompute s) := by
  unfold State.pcrcCompute
  repeat' first
    | with_reducible assumption | exact Part.within_trans (by decide) hw | with_reducible refine Frame.ite ?_ ?_ | exact id
    | exact fun _ => rfl | exact fun _ _ => rfl | exact fun _ => ⟨rfl, rfl⟩ | exact fun _ => ⟨rfl, rfl, rfl⟩
    | exact fun k => Part.out_absurd hw (by decide) k | split | (lift_lets; intros) | with_reducible refine Frame.set_ilk ?_ ?_

theorem State.paramCrc_frame {w : Nat} {b s : State} (hw : Part.within (Part.sys ||| Part.rcd ||| Part.cnt ||| Part.seq ||| Part.portals
    ||| Part.obs ||| Part.axes ||| Part.ilk ||| Part.loads ||| Part.twin ||| Part.mem ||| Part.outs ||| Part.free ||| Part.states) w =
    true) (h : Frame w b s) :
    Frame w b (State.paramCrc s) := by
  unfold State.paramCrc
  repeat' first
    | with_reducible assumption | exact Part.within_trans (by decide) hw | with_reducible refine Frame.ite ?_ ?_
    | with_reducible refine State.pcrcCompute_frame ?_ ?_ | with_reducible refine State.pcrcTrip_frame ?_ ?_ | split | (lift_lets; intros)

theorem State.paramWritten_frame {w : Nat} {b s : State} {a old} (hw : Part.within (Part.sys ||| Part.rcd ||| Part.cnt ||| Part.seq |||
    Part.portals ||| Part.obs ||| Part.axes ||| Part.ilk ||| Part.loads ||| Part.twin ||| Part.mem ||| Part.outs ||| Part.free |||
    Part.states) w = true) (h : Frame w b s) :
    Frame w b (State.paramWritten s a old) := by
  unfold State.paramWritten
  repeat' first
    | with_reducible assumption | exact Part.within_trans (by decide) hw | with_reducible refine Frame.ite ?_ ?_
    | with_reducible refine State.pcrcCompute_frame ?_ ?_ | with_reducible refine State.pcrcTrip_frame ?_ ?_ | split | (lift_lets; intros)

theorem State.noteDue_frame {w : Nat} {b s : State} (hw : Part.within Part.ilk w = true) (h : Frame w b s) :
    Frame w b (State.noteDue s) := by
  unfold State.noteDue
  repeat' first
    | with_reducible assumption | exact Part.within_trans (by decide) hw | with_reducible refine Frame.ite ?_ ?_
    | with_reducible refine forEach_frame (fun _ _ _ => ?_) _ ?_ | exact id | exact fun _ => rfl
    | exact fun _ _ => rfl | exact fun _ => ⟨rfl, rfl⟩ | exact fun _ => ⟨rfl, rfl, rfl⟩ | exact fun k => Part.out_absurd hw (by decide) k
    | split | (lift_lets; intros) | with_reducible refine Frame.set_ilk ?_ ?_

theorem State.testStart_frame {w : Nat} {b s : State} {n} (hw : Part.within (Part.axes ||| Part.ilk ||| Part.loads) w = true) (h : Frame
    w b s) :
    Frame w b (State.testStart s n) := by
  unfold State.testStart
  repeat' first
    | with_reducible assumption | exact Part.within_trans (by decide) hw | with_reducible refine Frame.ite ?_ ?_
    | with_reducible refine when_frame (fun _ _ => ?_) ?_ | with_reducible refine State.testPhase_frame ?_ ?_
    | with_reducible refine State.commandSwitches_frame ?_ ?_ | with_reducible refine State.setAxis_frame ?_ ?_ | split
    | (lift_lets; intros) | with_reducible refine Frame.set_ilk ?_ ?_

theorem State.testFail_frame {w : Nat} {b s : State} {n b' cause} (hw : Part.within (Part.sys ||| Part.rcd ||| Part.cnt ||| Part.seq |||
    Part.portals ||| Part.obs ||| Part.axes ||| Part.ilk ||| Part.loads ||| Part.twin ||| Part.mem ||| Part.outs ||| Part.free |||
    Part.states) w = true) (h : Frame w b s) :
    Frame w b (State.testFail s n b' cause) := by
  unfold State.testFail
  repeat' first
    | with_reducible assumption | exact Part.within_trans (by decide) hw | with_reducible refine Frame.ite ?_ ?_
    | with_reducible refine State.testEnd_frame ?_ ?_ | with_reducible refine State.raise_frame ?_ ?_
    | with_reducible refine State.faultAxis_frame ?_ ?_ | with_reducible refine State.toFault_frame ?_ ?_ | exact id | exact fun _ => rfl
    | exact fun _ _ => rfl | exact fun _ => ⟨rfl, rfl⟩ | exact fun _ => ⟨rfl, rfl, rfl⟩ | exact fun k => Part.out_absurd hw (by decide) k
    | split | (lift_lets; intros) | with_reducible refine Frame.set_ilk ?_ ?_

theorem State.testPass_frame {w : Nat} {b s : State} {n b'} (hw : Part.within (Part.rcd ||| Part.cnt ||| Part.axes ||| Part.ilk |||
    Part.twin ||| Part.mem ||| Part.outs) w = true) (h : Frame w b s) :
    Frame w b (State.testPass s n b') := by
  unfold State.testPass
  repeat' first
    | with_reducible assumption | exact Part.within_trans (by decide) hw | with_reducible refine Frame.ite ?_ ?_
    | with_reducible refine State.saveNum_frame ?_ ?_ | with_reducible refine State.mirror_frame ?_ ?_
    | with_reducible refine State.raise_frame ?_ ?_ | with_reducible refine State.testEnd_frame ?_ ?_ | split | (lift_lets; intros)
    | with_reducible refine Frame.set_ilk ?_ ?_

theorem State.testWatch_frame {w : Nat} {b s : State} {n} (hw : Part.within (Part.sys ||| Part.rcd ||| Part.cnt ||| Part.seq |||
    Part.portals ||| Part.obs ||| Part.axes ||| Part.ilk ||| Part.loads ||| Part.twin ||| Part.mem ||| Part.outs ||| Part.free |||
    Part.states) w = true) (h : Frame w b s) :
    Frame w b (State.testWatch s n) := by
  unfold State.testWatch
  repeat' first
    | with_reducible assumption | exact Part.within_trans (by decide) hw | with_reducible refine Frame.ite ?_ ?_
    | with_reducible refine State.testAbort_frame ?_ ?_ | with_reducible refine State.testFail_frame ?_ ?_ | exact id | exact fun _ => rfl
    | exact fun _ _ => rfl | exact fun _ => ⟨rfl, rfl⟩ | exact fun _ => ⟨rfl, rfl, rfl⟩ | exact fun k => Part.out_absurd hw (by decide) k
    | split | (lift_lets; intros) | with_reducible refine Frame.set_ilk ?_ ?_

theorem State.torqueTimeout_frame {w : Nat} {b s : State} {n} (hw : Part.within (Part.sys ||| Part.bk ||| Part.rcd ||| Part.cnt |||
    Part.time ||| Part.seq ||| Part.portals ||| Part.obs ||| Part.axes ||| Part.ilk ||| Part.loads ||| Part.twin ||| Part.mem |||
    Part.outs ||| Part.free ||| Part.states) w = true) (h : Frame w b s) :
    Frame w b (State.torqueTimeout s n) := by
  unfold State.torqueTimeout
  repeat' first
    | with_reducible assumption | exact Part.within_trans (by decide) hw | with_reducible refine Frame.ite ?_ ?_
    | with_reducible refine when_frame (fun _ _ => ?_) ?_ | with_reducible refine State.passTo_frame ?_ ?_
    | with_reducible refine State.testFail_frame ?_ ?_ | split | (lift_lets; intros)

theorem State.testPhaseEnd_frame {w : Nat} {b s : State} {n} (hw : Part.within (Part.sys ||| Part.bk ||| Part.rcd ||| Part.cnt |||
    Part.time ||| Part.seq ||| Part.portals ||| Part.obs ||| Part.axes ||| Part.ilk ||| Part.loads ||| Part.twin ||| Part.mem |||
    Part.outs ||| Part.free ||| Part.states) w = true) (h : Frame w b s) :
    Frame w b (State.testPhaseEnd s n) := by
  unfold State.testPhaseEnd
  repeat' first
    | with_reducible assumption | exact Part.within_trans (by decide) hw | with_reducible refine Frame.ite ?_ ?_
    | with_reducible refine when_frame (fun _ _ => ?_) ?_ | with_reducible refine State.passTo_frame ?_ ?_
    | with_reducible refine State.testFail_frame ?_ ?_ | with_reducible refine State.testPhase_frame ?_ ?_
    | with_reducible refine State.testPass_frame ?_ ?_ | split | (lift_lets; intros)

theorem State.testOverdue_frame {w : Nat} {b s : State} {n} (hw : Part.within (Part.bk ||| Part.rcd ||| Part.cnt ||| Part.time |||
    Part.ilk) w = true) (h : Frame w b s) :
    Frame w b (State.testOverdue s n) := by
  unfold State.testOverdue
  repeat' first
    | with_reducible assumption | exact Part.within_trans (by decide) hw | with_reducible refine Frame.ite ?_ ?_
    | with_reducible refine when_frame (fun _ _ => ?_) ?_ | with_reducible refine State.raise_frame ?_ ?_
    | with_reducible refine State.pass_frame ?_ ?_ | split | (lift_lets; intros) | with_reducible refine Frame.set_ilk ?_ ?_

end Sys2Proof.Machine
end

