-- ==== Sys2Proof/Laws/FrameLoads.lean ====
section
/-!
SUPPORT. Sys2Proof/Laws/FrameLoads.lean: the frame of each operation of Machine/Loads.lean.
-/
set_option Elab.async false
namespace Sys2Proof.Machine
open Sys2Proof

theorem State.startSwitch_frame {w : Nat} {b s : State} {n retry} (hw : Part.within (Part.rcd ||| Part.cnt ||| Part.loads) w = true) (h
    : Frame w b s) :
    Frame w b (State.startSwitch s n retry) := by
  unfold State.startSwitch
  repeat' first
    | with_reducible assumption | exact Part.within_trans (by decide) hw | with_reducible refine Frame.ite ?_ ?_
    | with_reducible refine State.setSw_frame ?_ ?_ | with_reducible refine State.setBank_frame ?_ ?_
    | with_reducible refine State.raise_frame ?_ ?_ | split | (lift_lets; intros)

theorem State.latchOff_frame {w : Nat} {b s : State} {n cause} (hw : Part.within (Part.rcd ||| Part.cnt ||| Part.loads) w = true) (h :
    Frame w b s) :
    Frame w b (State.latchOff s n cause) := by
  unfold State.latchOff
  repeat' first
    | with_reducible assumption | exact Part.within_trans (by decide) hw | with_reducible refine Frame.ite ?_ ?_
    | with_reducible refine State.modSw_frame ?_ ?_ | with_reducible refine State.raise_frame ?_ ?_

theorem State.shortTrip_frame {w : Nat} {b s : State} {n arb} (hw : Part.within (Part.rcd ||| Part.cnt ||| Part.loads) w = true) (h :
    Frame w b s) :
    Frame w b (State.shortTrip s n arb) := by
  unfold State.shortTrip
  repeat' first
    | with_reducible assumption | exact Part.within_trans (by decide) hw | with_reducible refine Frame.ite ?_ ?_
    | with_reducible refine State.latchOff_frame ?_ ?_ | with_reducible refine State.modSw_frame ?_ ?_
    | with_reducible refine State.raise_frame ?_ ?_ | with_reducible refine State.count_frame ?_ ?_

theorem State.clearSwitch_frame {w : Nat} {b s : State} {n} (hw : Part.within (Part.rcd ||| Part.cnt ||| Part.loads) w = true) (h : Frame
    w b s) :
    Frame w b (State.clearSwitch s n) := by
  unfold State.clearSwitch
  repeat' first
    | with_reducible assumption | exact Part.within_trans (by decide) hw | with_reducible refine Frame.ite ?_ ?_
    | with_reducible refine State.startSwitch_frame ?_ ?_ | with_reducible refine State.setSw_frame ?_ ?_
    | with_reducible refine State.raise_frame ?_ ?_

theorem State.applySwitch_frame {w : Nat} {b s : State} {n v active} (hw : Part.within (Part.rcd ||| Part.cnt ||| Part.loads) w = true)
    (h : Frame w b s) :
    Frame w b (State.applySwitch s n v active) := by
  unfold State.applySwitch
  repeat' first
    | with_reducible assumption | exact Part.within_trans (by decide) hw | with_reducible refine Frame.ite ?_ ?_
    | with_reducible refine State.setSw_frame ?_ ?_ | with_reducible refine State.modSw_frame ?_ ?_
    | with_reducible refine State.startSwitch_frame ?_ ?_ | with_reducible refine State.clearSwitch_frame ?_ ?_ | split
    | (lift_lets; intros)

theorem State.applyBank_frame {w : Nat} {b s : State} {b' out clr active clrDiag} (hw : Part.within (Part.rcd ||| Part.cnt |||
    Part.loads) w = true) (h : Frame w b s) :
    Frame w b (State.applyBank s b' out clr active clrDiag) := by
  unfold State.applyBank
  repeat' first
    | with_reducible assumption | exact Part.within_trans (by decide) hw | with_reducible refine Frame.ite ?_ ?_
    | with_reducible refine forEach_frame (fun _ _ _ => ?_) _ ?_ | with_reducible refine State.applySwitch_frame ?_ ?_
    | with_reducible refine State.modSw_frame ?_ ?_ | with_reducible refine State.clearSwitch_frame ?_ ?_

theorem State.bankSafe_frame {w : Nat} {b s : State} {b' active} (hw : Part.within (Part.rcd ||| Part.cnt ||| Part.loads) w = true) (h :
    Frame w b s) :
    Frame w b (State.bankSafe s b' active) := by
  unfold State.bankSafe
  repeat' first
    | with_reducible assumption | exact Part.within_trans (by decide) hw | with_reducible refine Frame.ite ?_ ?_
    | with_reducible refine forEach_frame (fun _ _ _ => ?_) _ ?_
    | with_reducible refine State.applySwitch_frame ?_ ?_ | split | (lift_lets; intros)

theorem State.thermalTrip_frame {w : Nat} {b s : State} {n} (hw : Part.within (Part.rcd ||| Part.cnt ||| Part.loads) w = true) (h : Frame
    w b s) :
    Frame w b (State.thermalTrip s n) := by
  unfold State.thermalTrip
  repeat' first
    | with_reducible assumption | exact Part.within_trans (by decide) hw | with_reducible refine Frame.ite ?_ ?_
    | with_reducible refine when_frame (fun _ _ => ?_) ?_ | with_reducible refine State.setSw_frame ?_ ?_
    | with_reducible refine State.raise_frame ?_ ?_ | with_reducible refine State.count_frame ?_ ?_

theorem State.thermalRelease_frame {w : Nat} {b s : State} {n} (hw : Part.within (Part.rcd ||| Part.cnt ||| Part.loads) w = true) (h :
    Frame w b s) :
    Frame w b (State.thermalRelease s n) := by
  unfold State.thermalRelease
  repeat' first
    | with_reducible assumption | exact Part.within_trans (by decide) hw | with_reducible refine Frame.ite ?_ ?_
    | with_reducible refine when_frame (fun _ _ => ?_) ?_ | with_reducible refine State.latchOff_frame ?_ ?_
    | with_reducible refine State.startSwitch_frame ?_ ?_ | with_reducible refine State.setSw_frame ?_ ?_

theorem State.shedOne_frame {w : Nat} {b s : State} {b'} (hw : Part.within (Part.rcd ||| Part.cnt ||| Part.loads) w = true) (h : Frame w
    b s) :
    Frame w b (State.shedOne s b') := by
  unfold State.shedOne
  repeat' first
    | with_reducible assumption | exact Part.within_trans (by decide) hw | with_reducible refine Frame.ite ?_ ?_
    | with_reducible refine State.modSw_frame ?_ ?_ | with_reducible refine State.raise_frame ?_ ?_
    | with_reducible refine State.count_frame ?_ ?_ | split

theorem State.deferStart_frame {w : Nat} {b s : State} {n} (hw : Part.within (Part.rcd ||| Part.cnt ||| Part.loads) w = true) (h : Frame
    w b s) :
    Frame w b (State.deferStart s n) := by
  unfold State.deferStart
  repeat' first
    | with_reducible assumption | exact Part.within_trans (by decide) hw | with_reducible refine Frame.ite ?_ ?_
    | with_reducible refine State.latchOff_frame ?_ ?_ | with_reducible refine State.modSw_frame ?_ ?_
    | with_reducible refine State.raise_frame ?_ ?_ | with_reducible refine State.count_frame ?_ ?_

theorem State.bankPeak_frame {w : Nat} {b s : State} {b' limiting} (hw : Part.within (Part.bk ||| Part.rcd ||| Part.cnt ||| Part.time |||
    Part.loads) w = true) (h : Frame w b s) :
    Frame w b (State.bankPeak s b' limiting) := by
  unfold State.bankPeak
  repeat' first
    | with_reducible assumption | exact Part.within_trans (by decide) hw | with_reducible refine Frame.ite ?_ ?_
    | with_reducible refine forEach_frame (fun _ _ _ => ?_) _ ?_ | with_reducible refine State.shedOne_frame ?_ ?_
    | with_reducible refine State.deferStart_frame ?_ ?_ | with_reducible refine State.shortTrip_frame ?_ ?_
    | with_reducible refine State.raise_frame ?_ ?_ | with_reducible refine State.modBank_frame ?_ ?_
    | with_reducible refine State.pass_frame ?_ ?_ | split

theorem State.bankCont_frame {w : Nat} {b s : State} {b' avg} (hw : Part.within (Part.rcd ||| Part.cnt ||| Part.loads) w = true) (h :
    Frame w b s) :
    Frame w b (State.bankCont s b' avg) := by
  unfold State.bankCont
  repeat' first
    | with_reducible assumption | exact Part.within_trans (by decide) hw | with_reducible refine Frame.ite ?_ ?_
    | with_reducible refine State.startSwitch_frame ?_ ?_ | with_reducible refine State.modBank_frame ?_ ?_
    | with_reducible refine State.raise_frame ?_ ?_ | with_reducible refine State.setBank_frame ?_ ?_ | split

theorem State.contShed_frame {w : Nat} {b s : State} {b'} (hw : Part.within (Part.bk ||| Part.rcd ||| Part.cnt ||| Part.time |||
    Part.loads) w = true) (h : Frame w b s) :
    Frame w b (State.contShed s b') := by
  unfold State.contShed
  repeat' first
    | with_reducible assumption | exact Part.within_trans (by decide) hw | with_reducible refine Frame.ite ?_ ?_
    | with_reducible refine when_frame (fun _ _ => ?_) ?_ | with_reducible refine State.shedOne_frame ?_ ?_
    | with_reducible refine State.modBank_frame ?_ ?_ | with_reducible refine State.passTo_frame ?_ ?_

theorem State.lswClear_frame {w : Nat} {b s : State} {n} (hw : Part.within (Part.rcd ||| Part.cnt ||| Part.fio ||| Part.loads) w = true)
    (h : Frame w b s) :
    Frame w b (State.lswClear s n) := by
  unfold State.lswClear
  repeat' first
    | with_reducible assumption | exact Part.within_trans (by decide) hw | with_reducible refine Frame.ite ?_ ?_
    | with_reducible refine State.clearSwitch_frame ?_ ?_ | with_reducible refine State.modFlink_frame ?_ ?_

theorem State.lswClrDiag_frame {w : Nat} {b s : State} {n} (hw : Part.within Part.fio w = true) (h : Frame w b s) :
    Frame w b (State.lswClrDiag s n) := by
  unfold State.lswClrDiag
  repeat' first
    | with_reducible assumption | exact Part.within_trans (by decide) hw | with_reducible refine Frame.ite ?_ ?_
    | with_reducible refine State.modFlink_frame ?_ ?_

end Sys2Proof.Machine
end

