-- ==== Sys2Proof/Laws/FrameField.lean ====
section
/-!
SUPPORT. Sys2Proof/Laws/FrameField.lean: the frame of each operation of Machine/Field.lean.
-/

set_option Elab.async false
namespace Sys2Proof.Machine

open Sys2Proof

theorem State.linkEvent_frame {w : Nat} {b s : State} {k tile die} (hw : Part.within (Part.rcd ||| Part.cnt) w = true) (h : Frame w b s) :
    Frame w b (State.linkEvent s k tile die) := by
  unfold State.linkEvent
  repeat' first
    | with_reducible assumption | exact Part.within_trans (by decide) hw | with_reducible refine Frame.ite ?_ ?_
    | with_reducible refine State.raise_frame ?_ ?_

theorem State.feed_frame {w : Nat} {b s : State} {c on} (hw : Part.within (Part.axes ||| Part.fio) w = true) (h : Frame w b s) :
    Frame w b (State.feed s c on) := by
  unfold State.feed
  repeat' first
    | with_reducible assumption | exact Part.within_trans (by decide) hw | with_reducible refine Frame.ite ?_ ?_
    | with_reducible refine forEach_frame (fun _ _ _ => ?_) _ ?_ | with_reducible refine State.noteChatter_frame ?_ ?_ | split
    | (lift_lets; intros) | with_reducible refine Frame.set_fio ?_ ?_

theorem State.feedTile_frame {w : Nat} {b s : State} {k raw fldOn} (hw : Part.within (Part.axes ||| Part.ilk ||| Part.fio) w = true) (h :
    Frame w b s) :
    Frame w b (State.feedTile s k raw fldOn) := by
  unfold State.feedTile
  repeat' first
    | with_reducible assumption | exact Part.within_trans (by decide) hw | with_reducible refine Frame.ite ?_ ?_
    | with_reducible refine forEach_frame (fun _ _ _ => ?_) _ ?_ | with_reducible refine State.ilkSample_frame ?_ ?_
    | with_reducible refine State.feed_frame ?_ ?_

theorem State.mrstStep_frame {w : Nat} {b s : State} {i} (hw : Part.within Part.fio w = true) (h : Frame w b s) :
    Frame w b (State.mrstStep s i) := by
  unfold State.mrstStep
  repeat' first
    | with_reducible assumption | exact Part.within_trans (by decide) hw | with_reducible refine Frame.ite ?_ ?_
    | with_reducible refine State.modMrst_frame ?_ ?_ | split | (lift_lets; intros)

theorem State.afterSamples_frame {w : Nat} {b s : State} (hw : Part.within (Part.rcd ||| Part.cnt ||| Part.ilk ||| Part.fio) w = true)
    (h : Frame w b s) :
    Frame w b (State.afterSamples s) := by
  unfold State.afterSamples
  repeat' first
    | with_reducible assumption | exact Part.within_trans (by decide) hw | with_reducible refine Frame.ite ?_ ?_
    | with_reducible refine when_frame (fun _ _ => ?_) ?_ | with_reducible refine forEach_frame (fun _ _ _ => ?_) _ ?_
    | with_reducible refine State.mrstStep_frame ?_ ?_
    | with_reducible refine State.monStep_frame ?_ ?_ | with_reducible refine State.pairStep_frame ?_ ?_
    | with_reducible refine State.channelB_frame ?_ ?_ | with_reducible refine State.crossStep_frame ?_ ?_ | split | (lift_lets; intros)

theorem State.tileDark_frame {w : Nat} {b s : State} {k lost} (hw : Part.within (Part.rcd ||| Part.cnt ||| Part.ilk ||| Part.fio) w =
    true) (h : Frame w b s) :
    Frame w b (State.tileDark s k lost) := by
  unfold State.tileDark
  repeat' first
    | with_reducible assumption | exact Part.within_trans (by decide) hw | with_reducible refine Frame.ite ?_ ?_
    | with_reducible refine State.ilkTileOff_frame ?_ ?_ | with_reducible refine State.raise_frame ?_ ?_ | exact id | exact fun _ => rfl
    | exact fun _ _ => rfl | exact fun _ => ⟨rfl, rfl⟩ | exact fun _ => ⟨rfl, rfl, rfl⟩ | exact fun k => Part.out_absurd hw (by decide) k
    | split | (lift_lets; intros) | with_reducible refine Frame.set_fio ?_ ?_ | with_reducible refine Frame.set_ilk ?_ ?_

theorem State.replyFail_frame {w : Nat} {b s : State} {k} (hw : Part.within (Part.rcd ||| Part.cnt ||| Part.axes ||| Part.ilk |||
    Part.fio) w = true) (h : Frame w b s) :
    Frame w b (State.replyFail s k) := by
  unfold State.replyFail
  repeat' first
    | with_reducible assumption | exact Part.within_trans (by decide) hw | with_reducible refine Frame.ite ?_ ?_
    | with_reducible refine State.count_frame ?_ ?_ | with_reducible refine State.setFlink_frame ?_ ?_
    | with_reducible refine State.linkEvent_frame ?_ ?_ | with_reducible refine State.feedTile_frame ?_ ?_
    | with_reducible refine State.afterSamples_frame ?_ ?_ | with_reducible refine State.modFlink_frame ?_ ?_
    | with_reducible refine State.tileDark_frame ?_ ?_ | split | (lift_lets; intros)

theorem State.replyMissing_frame {w : Nat} {b s : State} {k} (hw : Part.within (Part.bk ||| Part.rcd ||| Part.cnt ||| Part.time |||
    Part.axes ||| Part.ilk ||| Part.fio) w = true) (h : Frame w b s) :
    Frame w b (State.replyMissing s k) := by
  unfold State.replyMissing
  repeat' first
    | with_reducible assumption | exact Part.within_trans (by decide) hw | with_reducible refine Frame.ite ?_ ?_
    | with_reducible refine when_frame (fun _ _ => ?_) ?_ | with_reducible refine State.passToTt_frame ?_ ?_
    | with_reducible refine State.replyFail_frame ?_ ?_ | split | (lift_lets; intros)

theorem State.sendFrame_frame {w : Nat} {b s : State} {f base after k} (hw : Part.within (Part.rcd ||| Part.cnt ||| Part.fio |||
    Part.outs) w = true) (h : Frame w b s) :
    Frame w b (State.sendFrame s f base after k) := by
  unfold State.sendFrame
  repeat' first
    | with_reducible assumption | exact Part.within_trans (by decide) hw | with_reducible refine Frame.ite ?_ ?_
    | with_reducible refine State.raise_frame ?_ ?_ | with_reducible refine State.count_frame ?_ ?_
    | with_reducible refine State.linkEvent_frame ?_ ?_ | with_reducible refine State.setFlink_frame ?_ ?_
    | with_reducible refine State.emit_frame ?_ ?_ | split | (lift_lets; intros)

theorem State.fieldFrame_frame {w : Nat} {b s : State} (hw : Part.within (Part.bk ||| Part.rcd ||| Part.cnt ||| Part.time ||| Part.axes
    ||| Part.ilk ||| Part.fio ||| Part.loads ||| Part.outs) w = true) (h : Frame w b s) :
    Frame w b (State.fieldFrame s) := by
  unfold State.fieldFrame
  have h1 := State.passToTt_frame (w := w) (t := s.time.fieldNext) (Part.within_trans (by decide) hw)
    (forEach_frame (f := State.replyMissing) (fun _ _ h => State.replyMissing_frame (Part.within_trans (by decide) hw) h) (List.range 12) h)
  have h2 := State.commandSwitches_frame (Part.within_trans (by decide) hw) (State.soRecord_frame (Part.within_trans (by decide) hw) h1)
  dsimp only
  generalize State.commandSwitches _ = s2 at h2
  generalize slotStates _ _ s2 = ahead
  have h3 := forEach_frame (w := w) (b := b)
    (f := fun x k => x.sendFrame s.time.fieldNext (((ahead.filter fun e => decide (e.1 < s.time.fieldNext + 4000)).map Prod.snd).getLast?.getD s2)
      (ahead.filter fun e => decide (s.time.fieldNext + 4000 ≤ e.1)) k) (fun _ _ h => State.sendFrame_frame (Part.within_trans (by decide) hw) h) (List.range 12) h2
  generalize forEach (List.range 12) _ s2 = s3 at h3
  exact Frame.set_time (Part.within_trans (by decide) hw) (Nat.le_refl _) h3

theorem State.startLink_frame {w : Nat} {b s : State} {k} (hw : Part.within Part.fio w = true) (h : Frame w b s) :
    Frame w b (State.startLink s k) := by
  unfold State.startLink
  repeat' first
    | with_reducible assumption | exact Part.within_trans (by decide) hw | with_reducible refine Frame.ite ?_ ?_
    | with_reducible refine State.modFlink_frame ?_ ?_

theorem State.takeDiag_frame {w : Nat} {b s : State} {k j code} (hw : Part.within (Part.rcd ||| Part.cnt ||| Part.fio) w = true) (h :
    Frame w b s) :
    Frame w b (State.takeDiag s k j code) := by
  unfold State.takeDiag
  repeat' first
    | with_reducible assumption | exact Part.within_trans (by decide) hw | with_reducible refine Frame.ite ?_ ?_
    | with_reducible refine forEach_frame (fun _ _ _ => ?_) _ ?_ | with_reducible refine State.raise_frame ?_ ?_
    | with_reducible refine State.modFlink_frame ?_ ?_ | split

theorem State.takeState_frame {w : Nat} {b s : State} {k old new} (hw : Part.within (Part.rcd ||| Part.cnt) w = true) (h : Frame w b s) :
    Frame w b (State.takeState s k old new) := by
  unfold State.takeState
  repeat' first
    | with_reducible assumption | exact Part.within_trans (by decide) hw | with_reducible refine Frame.ite ?_ ?_
    | with_reducible refine State.linkEvent_frame ?_ ?_

theorem State.takeTile_frame {w : Nat} {b s : State} {k b'} (hw : Part.within (Part.rcd ||| Part.cnt ||| Part.axes ||| Part.ilk |||
    Part.fio) w = true) (h : Frame w b s) :
    Frame w b (State.takeTile s k b') := by
  unfold State.takeTile
  repeat' first
    | with_reducible assumption | exact Part.within_trans (by decide) hw | with_reducible refine Frame.ite ?_ ?_
    | with_reducible refine forEach_frame (fun _ _ _ => ?_) _ ?_ | with_reducible refine State.setFlink_frame ?_ ?_
    | with_reducible refine State.modFlink_frame ?_ ?_
    | with_reducible refine State.raise_frame ?_ ?_ | with_reducible refine State.takeDiag_frame ?_ ?_
    | with_reducible refine State.testPulseFail_frame ?_ ?_ | with_reducible refine State.feedTile_frame ?_ ?_
    | with_reducible refine State.afterSamples_frame ?_ ?_ | split | (lift_lets; intros)

theorem State.takeDie_frame {w : Nat} {b s : State} {k b'} (hw : Part.within (Part.rcd ||| Part.cnt ||| Part.fio) w = true) (h : Frame w
    b s) :
    Frame w b (State.takeDie s k b') := by
  unfold State.takeDie
  repeat' first
    | with_reducible assumption | exact Part.within_trans (by decide) hw | with_reducible refine Frame.ite ?_ ?_
    | with_reducible refine forEach_frame (fun _ _ _ => ?_) _ ?_ | with_reducible refine State.takeDiag_frame ?_ ?_
    | with_reducible refine State.raise_frame ?_ ?_ | with_reducible refine State.setFlink_frame ?_ ?_

theorem State.replyTaken_frame {w : Nat} {b s : State} {k b'} (hw : Part.within (Part.rcd ||| Part.cnt ||| Part.axes ||| Part.ilk |||
    Part.fio) w = true) (h : Frame w b s) :
    Frame w b (State.replyTaken s k b') := by
  unfold State.replyTaken
  repeat' first
    | with_reducible assumption | exact Part.within_trans (by decide) hw | with_reducible refine Frame.ite ?_ ?_
    | with_reducible refine State.startLink_frame ?_ ?_ | with_reducible refine State.takeDie_frame ?_ ?_
    | with_reducible refine State.takeTile_frame ?_ ?_ | with_reducible refine State.linkEvent_frame ?_ ?_
    | with_reducible refine State.takeState_frame ?_ ?_ | with_reducible refine State.setFlink_frame ?_ ?_ | split | (lift_lets; intros)
    | with_reducible refine Frame.set_ilk ?_ ?_

theorem State.fieldReply_frame {w : Nat} {b s : State} {k b'} (hw : Part.within (Part.rcd ||| Part.cnt ||| Part.axes ||| Part.ilk |||
    Part.fio) w = true) (h : Frame w b s) :
    Frame w b (State.fieldReply s k b') := by
  unfold State.fieldReply
  repeat' first
    | with_reducible assumption | exact Part.within_trans (by decide) hw | with_reducible refine Frame.ite ?_ ?_
    | with_reducible refine when_frame (fun _ _ => ?_) ?_ | with_reducible refine State.replyFail_frame ?_ ?_
    | with_reducible refine State.replyTaken_frame ?_ ?_

theorem State.fldClrDiag_frame {w : Nat} {b s : State} {k} (hw : Part.within Part.fio w = true) (h : Frame w b s) :
    Frame w b (State.fldClrDiag s k) := by
  unfold State.fldClrDiag
  repeat' first
    | with_reducible assumption | exact Part.within_trans (by decide) hw | with_reducible refine Frame.ite ?_ ?_
    | with_reducible refine State.modFlink_frame ?_ ?_

theorem State.toSafe_frame {w : Nat} {b s : State} {k} (hw : Part.within (Part.rcd ||| Part.cnt ||| Part.fio ||| Part.loads) w = true)
    (h : Frame w b s) :
    Frame w b (State.toSafe s k) := by
  unfold State.toSafe
  repeat' first
    | with_reducible assumption | exact Part.within_trans (by decide) hw | with_reducible refine Frame.ite ?_ ?_
    | with_reducible refine State.setDie_frame ?_ ?_ | with_reducible refine State.bankSafe_frame ?_ ?_ | split | (lift_lets; intros)

theorem State.takeFrame_frame {w : Nat} {b s : State} {k b'} (hw : Part.within (Part.rcd ||| Part.cnt ||| Part.fio ||| Part.loads) w =
    true) (h : Frame w b s) :
    Frame w b (State.takeFrame s k b') := by
  unfold State.takeFrame
  repeat' first
    | with_reducible assumption | exact Part.within_trans (by decide) hw | with_reducible refine Frame.ite ?_ ?_
    | with_reducible refine State.setDie_frame ?_ ?_ | with_reducible refine State.toSafe_frame ?_ ?_ | split | (lift_lets; intros)

theorem State.tileReply_frame {w : Nat} {b s : State} {k vals} (hw : Part.within (Part.fio ||| Part.outs) w = true) (h : Frame w b s) :
    Frame w b (State.tileReply s k vals) := by
  unfold State.tileReply
  repeat' first
    | with_reducible assumption | exact Part.within_trans (by decide) hw | with_reducible refine Frame.ite ?_ ?_
    | with_reducible refine foldl_frame (fun _ _ _ => ?_) _ ?_ | with_reducible refine State.setDie_frame ?_ ?_
    | with_reducible refine State.emit_frame ?_ ?_ | split | (lift_lets; intros)

theorem State.dieReply_frame {w : Nat} {b s : State} {k vals} (hw : Part.within (Part.fio ||| Part.loads ||| Part.outs) w = true) (h :
    Frame w b s) :
    Frame w b (State.dieReply s k vals) := by
  unfold State.dieReply
  repeat' first
    | with_reducible assumption | exact Part.within_trans (by decide) hw | with_reducible refine Frame.ite ?_ ?_
    | with_reducible refine forEach_frame (fun _ _ _ => ?_) _ ?_ | with_reducible refine State.setDie_frame ?_ ?_
    | with_reducible refine State.emit_frame ?_ ?_ | with_reducible refine State.modSw_frame ?_ ?_

theorem State.applyFrame_frame {w : Nat} {b s : State} {k} (hw : Part.within (Part.bk ||| Part.rcd ||| Part.cnt ||| Part.time |||
    Part.fio ||| Part.loads) w = true) (h : Frame w b s) :
    Frame w b (State.applyFrame s k) := by
  unfold State.applyFrame
  repeat' first
    | with_reducible assumption | exact Part.within_trans (by decide) hw | with_reducible refine Frame.ite ?_ ?_
    | with_reducible refine State.passTo_frame ?_ ?_ | with_reducible refine State.setDie_frame ?_ ?_
    | with_reducible refine State.applyBank_frame ?_ ?_ | split | (lift_lets; intros)

theorem State.tileTimeout_frame {w : Nat} {b s : State} {k} (hw : Part.within (Part.bk ||| Part.rcd ||| Part.cnt ||| Part.time |||
    Part.fio ||| Part.loads) w = true) (h : Frame w b s) :
    Frame w b (State.tileTimeout s k) := by
  unfold State.tileTimeout
  repeat' first
    | with_reducible assumption | exact Part.within_trans (by decide) hw | with_reducible refine Frame.ite ?_ ?_
    | with_reducible refine when_frame (fun _ _ => ?_) ?_ | with_reducible refine State.passTo_frame ?_ ?_
    | with_reducible refine State.toSafe_frame ?_ ?_

theorem State.supplyLoss_frame {w : Nat} {b s : State} {k} (hw : Part.within (Part.fio ||| Part.loads) w = true) (h : Frame w b s) :
    Frame w b (State.supplyLoss s k) := by
  unfold State.supplyLoss
  repeat' first
    | with_reducible assumption | exact Part.within_trans (by decide) hw | with_reducible refine Frame.ite ?_ ?_
    | with_reducible refine forEach_frame (fun _ _ _ => ?_) _ ?_ | with_reducible refine State.setBank_frame ?_ ?_
    | with_reducible refine State.modSw_frame ?_ ?_ | with_reducible refine State.setDie_frame ?_ ?_

theorem State.powerUp_frame {w : Nat} {b s : State} {k} (hw : Part.within (Part.fio ||| Part.loads) w = true) (h : Frame w b s) :
    Frame w b (State.powerUp s k) := by
  unfold State.powerUp
  repeat' first
    | with_reducible assumption | exact Part.within_trans (by decide) hw | with_reducible refine Frame.ite ?_ ?_
    | with_reducible refine State.supplyLoss_frame ?_ ?_ | with_reducible refine State.setDie_frame ?_ ?_ | split | (lift_lets; intros)

theorem State.inputEdge_frame {w : Nat} {b s : State} {c} (hw : Part.within Part.fio w = true) (h : Frame w b s) :
    Frame w b (State.inputEdge s c) := by
  unfold State.inputEdge
  repeat' first
    | with_reducible assumption | exact Part.within_trans (by decide) hw | with_reducible refine Frame.ite ?_ ?_
    | with_reducible refine when_frame (fun _ _ => ?_) ?_ | with_reducible refine State.setDie_frame ?_ ?_ | split | (lift_lets; intros)

theorem State.wettingEnd_frame {w : Nat} {b s : State} {c} (hw : Part.within (Part.bk ||| Part.time ||| Part.fio) w = true) (h : Frame w
    b s) :
    Frame w b (State.wettingEnd s c) := by
  unfold State.wettingEnd
  repeat' first
    | with_reducible assumption | exact Part.within_trans (by decide) hw | with_reducible refine Frame.ite ?_ ?_
    | with_reducible refine State.passTo_frame ?_ ?_ | with_reducible refine State.setDie_frame ?_ ?_ | split | (lift_lets; intros)

theorem State.latchDiag_frame {w : Nat} {b s : State} {c b' stays} (hw : Part.within (Part.rcd ||| Part.cnt ||| Part.fio) w = true) (h :
    Frame w b s) :
    Frame w b (State.latchDiag s c b' stays) := by
  unfold State.latchDiag
  repeat' first
    | with_reducible assumption | exact Part.within_trans (by decide) hw | with_reducible refine Frame.ite ?_ ?_
    | with_reducible refine State.raise_frame ?_ ?_ | with_reducible refine State.setDie_frame ?_ ?_

theorem State.causeGone_frame {w : Nat} {b s : State} {c b'} (hw : Part.within Part.fio w = true) (h : Frame w b s) :
    Frame w b (State.causeGone s c b') := by
  unfold State.causeGone
  repeat' first
    | with_reducible assumption | exact Part.within_trans (by decide) hw | with_reducible refine Frame.ite ?_ ?_
    | with_reducible refine State.modDie_frame ?_ ?_

theorem State.overload_frame {w : Nat} {b s : State} {c kind} (hw : Part.within (Part.rcd ||| Part.cnt ||| Part.fio) w = true) (h :
    Frame w b s) :
    Frame w b (State.overload s c kind) := by
  unfold State.overload
  repeat' first
    | with_reducible assumption | exact Part.within_trans (by decide) hw | with_reducible refine Frame.ite ?_ ?_
    | with_reducible refine when_frame (fun _ _ => ?_) ?_ | with_reducible refine State.modDie_frame ?_ ?_
    | with_reducible refine State.causeGone_frame ?_ ?_ | with_reducible refine State.setDie_frame ?_ ?_
    | with_reducible refine State.latchDiag_frame ?_ ?_ | split | (lift_lets; intros)

theorem State.tpOverload_frame {w : Nat} {b s : State} {g} (hw : Part.within (Part.rcd ||| Part.cnt ||| Part.fio) w = true) (h : Frame w
    b s) :
    Frame w b (State.tpOverload s g) := by
  unfold State.tpOverload
  repeat' first
    | with_reducible assumption | exact Part.within_trans (by decide) hw | with_reducible refine Frame.ite ?_ ?_
    | with_reducible refine when_frame (fun _ _ => ?_) ?_ | with_reducible refine State.setDie_frame ?_ ?_
    | with_reducible refine State.raise_frame ?_ ?_ | split | (lift_lets; intros)

theorem State.pulseStarts_frame {w : Nat} {b s : State} {g} (hw : Part.within (Part.bk ||| Part.time ||| Part.fio) w = true) (h : Frame
    w b s) :
    Frame w b (State.pulseStarts s g) := by
  unfold State.pulseStarts
  repeat' first
    | with_reducible assumption | exact Part.within_trans (by decide) hw | with_reducible refine Frame.ite ?_ ?_
    | with_reducible refine when_frame (fun _ _ => ?_) ?_ | with_reducible refine State.passToTt_frame ?_ ?_
    | with_reducible refine State.setDie_frame ?_ ?_ | split | (lift_lets; intros)

theorem State.windowEnds_frame {w : Nat} {b s : State} {g still} (hw : Part.within (Part.bk ||| Part.time ||| Part.fio) w = true) (h :
    Frame w b s) :
    Frame w b (State.windowEnds s g still) := by
  unfold State.windowEnds
  repeat' first
    | with_reducible assumption | exact Part.within_trans (by decide) hw | with_reducible refine Frame.ite ?_ ?_
    | with_reducible refine foldl_frame (fun _ _ _ => ?_) _ ?_ | with_reducible refine State.passTo_frame ?_ ?_
    | with_reducible refine State.setDie_frame ?_ ?_ | split | (lift_lets; intros)

theorem State.pressEnd_frame {w : Nat} {b s : State} {i} (hw : Part.within (Part.rcd ||| Part.cnt ||| Part.fio) w = true) (h : Frame w b
    s) :
    Frame w b (State.pressEnd s i) := by
  unfold State.pressEnd
  repeat' first
    | with_reducible assumption | exact Part.within_trans (by decide) hw | with_reducible refine Frame.ite ?_ ?_
    | with_reducible refine when_frame (fun _ _ => ?_) ?_ | with_reducible refine State.modMrst_frame ?_ ?_
    | with_reducible refine State.raise_frame ?_ ?_ | split | (lift_lets; intros)

theorem State.mrstStuck_frame {w : Nat} {b s : State} {i} (hw : Part.within (Part.bk ||| Part.rcd ||| Part.cnt ||| Part.time |||
    Part.fio) w = true) (h : Frame w b s) :
    Frame w b (State.mrstStuck s i) := by
  unfold State.mrstStuck
  repeat' first
    | with_reducible assumption | exact Part.within_trans (by decide) hw | with_reducible refine Frame.ite ?_ ?_
    | with_reducible refine when_frame (fun _ _ => ?_) ?_ | with_reducible refine State.passTo_frame ?_ ?_
    | with_reducible refine State.modMrst_frame ?_ ?_ | with_reducible refine State.raise_frame ?_ ?_ | split

theorem State.mrstActs_frame {w : Nat} {b s : State} (hw : Part.within (Part.sys ||| Part.rcd ||| Part.cnt ||| Part.seq ||| Part.portals
    ||| Part.obs ||| Part.axes ||| Part.fb ||| Part.links ||| Part.ilk ||| Part.fio ||| Part.loads ||| Part.twin ||| Part.mem |||
    Part.outs ||| Part.free ||| Part.states) w = true) (h : Frame w b s) :
    Frame w b (State.mrstActs s) := by
  unfold State.mrstActs
  repeat' first
    | with_reducible assumption | exact Part.within_trans (by decide) hw | with_reducible refine Frame.ite ?_ ?_
    | with_reducible refine forEach_frame (fun _ _ _ => ?_) _ ?_
    | with_reducible refine State.modMrst_frame ?_ ?_ | with_reducible refine State.emergencyReset_frame ?_ ?_
    | with_reducible refine State.ilkClear_frame ?_ ?_ | split | (lift_lets; intros)

end Sys2Proof.Machine
end

