-- ==== Sys2Proof/Laws/FrameTime.lean ====
section
/-!
SUPPORT. Sys2Proof/Laws/FrameTime.lean: the frame of each operation of Machine/Time.lean.
-/
set_option Elab.async false
namespace Sys2Proof.Machine
open Sys2Proof

theorem State.startHold_frame {w : Nat} {b s : State} {d} (hw : Part.within Part.time w = true) (h : Frame w b s) :
    Frame w b (State.startHold s d) := by
  unfold State.startHold
  repeat' first
    | with_reducible assumption | exact Part.within_trans (by decide) hw | with_reducible refine Frame.ite ?_ ?_
    | with_reducible refine State.modTracker_frame ?_ ?_ | exact Nat.le_refl _ | split | (lift_lets; intros)
    | with_reducible refine Frame.set_time ?_ ?_ ?_

theorem State.chooseDomain_frame {w : Nat} {b s : State} (hw : Part.within (Part.rcd ||| Part.cnt ||| Part.time) w = true) (h : Frame w
    b s) :
    Frame w b (State.chooseDomain s) := by
  unfold State.chooseDomain
  repeat' first
    | with_reducible assumption | exact Part.within_trans (by decide) hw | with_reducible refine Frame.ite ?_ ?_
    | with_reducible refine State.raise_frame ?_ ?_ | with_reducible refine State.startHold_frame ?_ ?_ | exact Nat.le_refl _ | exact id | exact fun _ => rfl
    | exact fun _ _ => rfl | exact fun _ => ⟨rfl, rfl⟩ | exact fun _ => ⟨rfl, rfl, rfl⟩ | exact fun k => Part.out_absurd hw (by decide) k
    | split | (lift_lets; intros) | with_reducible refine Frame.set_time ?_ ?_ ?_

theorem State.afterQuality_frame {w : Nat} {b s : State} {was} (hw : Part.within (Part.rcd ||| Part.cnt ||| Part.time ||| Part.seq |||
    Part.actions) w = true) (h : Frame w b s) :
    Frame w b (State.afterQuality s was) := by
  unfold State.afterQuality
  repeat' first
    | with_reducible assumption | exact Part.within_trans (by decide) hw | with_reducible refine Frame.ite ?_ ?_
    | with_reducible refine State.judgeSlots_frame ?_ ?_ | with_reducible refine State.chooseDomain_frame ?_ ?_

theorem State.setQuality_frame {w : Nat} {b s : State} {d q} (hw : Part.within (Part.rcd ||| Part.cnt ||| Part.time ||| Part.seq |||
    Part.actions) w = true) (h : Frame w b s) :
    Frame w b (State.setQuality s d q) := by
  unfold State.setQuality
  repeat' first
    | with_reducible assumption | exact Part.within_trans (by decide) hw | with_reducible refine Frame.ite ?_ ?_
    | with_reducible refine State.modTracker_frame ?_ ?_ | with_reducible refine State.afterQuality_frame ?_ ?_

theorem State.requalify_frame {w : Nat} {b s : State} {d} (hw : Part.within (Part.rcd ||| Part.cnt ||| Part.time ||| Part.seq |||
    Part.actions) w = true) (h : Frame w b s) :
    Frame w b (State.requalify s d) := by
  unfold State.requalify
  repeat' first
    | with_reducible assumption | exact Part.within_trans (by decide) hw | with_reducible refine Frame.ite ?_ ?_
    | with_reducible refine State.setQuality_frame ?_ ?_

theorem State.holdover_frame {w : Nat} {b s : State} {d cause} (hw : Part.within (Part.rcd ||| Part.cnt ||| Part.time ||| Part.seq |||
    Part.actions) w = true) (h : Frame w b s) :
    Frame w b (State.holdover s d cause) := by
  unfold State.holdover
  repeat' first
    | with_reducible assumption | exact Part.within_trans (by decide) hw | with_reducible refine Frame.ite ?_ ?_
    | with_reducible refine State.afterQuality_frame ?_ ?_ | with_reducible refine State.raise_frame ?_ ?_
    | with_reducible refine State.startHold_frame ?_ ?_

theorem State.locks_frame {w : Nat} {b s : State} {d} (hw : Part.within (Part.rcd ||| Part.cnt ||| Part.time ||| Part.seq |||
    Part.actions) w = true) (h : Frame w b s) :
    Frame w b (State.locks s d) := by
  unfold State.locks
  repeat' first
    | with_reducible assumption | exact Part.within_trans (by decide) hw | with_reducible refine Frame.ite ?_ ?_
    | with_reducible refine State.raise_frame ?_ ?_ | with_reducible refine State.afterQuality_frame ?_ ?_
    | with_reducible refine State.modTracker_frame ?_ ?_ | exact Nat.le_refl _ | split | (lift_lets; intros)
    | with_reducible refine Frame.set_time ?_ ?_ ?_

theorem State.servo_frame {w : Nat} {b s : State} {o} (hw : Part.within Part.time w = true) (h : Frame w b s) :
    Frame w b (State.servo s o) := by
  unfold State.servo
  repeat' first
    | with_reducible assumption | exact Part.within_trans (by decide) hw | with_reducible refine Frame.ite ?_ ?_ | exact Nat.le_refl _
    | split | (lift_lets; intros) | with_reducible refine Frame.set_time ?_ ?_ ?_

theorem State.useSample_frame {w : Nat} {b s : State} {d o} (hw : Part.within (Part.rcd ||| Part.cnt ||| Part.time ||| Part.seq |||
    Part.actions) w = true) (h : Frame w b s) :
    Frame w b (State.useSample s d o) := by
  unfold State.useSample
  repeat' first
    | with_reducible assumption | exact Part.within_trans (by decide) hw | with_reducible refine Frame.ite ?_ ?_
    | with_reducible refine State.servo_frame ?_ ?_ | with_reducible refine State.modTracker_frame ?_ ?_
    | with_reducible refine State.locks_frame ?_ ?_ | with_reducible refine State.setQuality_frame ?_ ?_
    | with_reducible refine State.raise_frame ?_ ?_ | with_reducible refine State.requalify_frame ?_ ?_
    | with_reducible refine State.afterQuality_frame ?_ ?_ | exact Nat.le_refl _ | exact id | exact fun _ => rfl | exact fun _ _ => rfl
    | exact fun _ => ⟨rfl, rfl⟩ | exact fun _ => ⟨rfl, rfl, rfl⟩ | exact fun k => Part.out_absurd hw (by decide) k | split
    | (lift_lets; intros) | with_reducible refine Frame.set_time ?_ ?_ ?_

theorem State.refuseJump_frame {w : Nat} {b s : State} {d o} (hw : Part.within (Part.rcd ||| Part.cnt ||| Part.time ||| Part.seq |||
    Part.actions) w = true) (h : Frame w b s) :
    Frame w b (State.refuseJump s d o) := by
  unfold State.refuseJump
  repeat' first
    | with_reducible assumption | exact Part.within_trans (by decide) hw | with_reducible refine Frame.ite ?_ ?_
    | with_reducible refine State.raise_frame ?_ ?_ | with_reducible refine State.holdover_frame ?_ ?_ | exact Nat.le_refl _ | split
    | (lift_lets; intros) | with_reducible refine Frame.set_time ?_ ?_ ?_

theorem State.confirmJump_frame {w : Nat} {b s : State} {o} (hw : Part.within Part.time w = true) (h : Frame w b s) :
    Frame w b (State.confirmJump s o) := by
  unfold State.confirmJump
  repeat' first
    | with_reducible assumption | exact Part.within_trans (by decide) hw | with_reducible refine Frame.ite ?_ ?_ | exact Nat.le_refl _
    | split | (lift_lets; intros) | with_reducible refine Frame.set_time ?_ ?_ ?_

theorem State.jumpSample_frame {w : Nat} {b s : State} {d o} (hw : Part.within (Part.rcd ||| Part.cnt ||| Part.time ||| Part.seq |||
    Part.actions) w = true) (h : Frame w b s) :
    Frame w b (State.jumpSample s d o) := by
  unfold State.jumpSample
  repeat' first
    | with_reducible assumption | exact Part.within_trans (by decide) hw | with_reducible refine Frame.ite ?_ ?_
    | with_reducible refine State.refuseJump_frame ?_ ?_ | with_reducible refine State.confirmJump_frame ?_ ?_
    | with_reducible refine State.modTracker_frame ?_ ?_ | with_reducible refine State.afterQuality_frame ?_ ?_

theorem State.checkDomains_frame {w : Nat} {b s : State} {d} (hw : Part.within (Part.rcd ||| Part.cnt ||| Part.time) w = true) (h : Frame
    w b s) :
    Frame w b (State.checkDomains s d) := by
  unfold State.checkDomains
  repeat' first
    | with_reducible assumption | exact Part.within_trans (by decide) hw | with_reducible refine Frame.ite ?_ ?_
    | with_reducible refine State.raise_frame ?_ ?_ | exact Nat.le_refl _ | split | (lift_lets; intros)
    | with_reducible refine Frame.set_time ?_ ?_ ?_

theorem State.offsetSample_frame {w : Nat} {b s : State} {d o} (hw : Part.within (Part.rcd ||| Part.cnt ||| Part.time ||| Part.seq |||
    Part.actions) w = true) (h : Frame w b s) :
    Frame w b (State.offsetSample s d o) := by
  unfold State.offsetSample
  repeat' first
    | with_reducible assumption | exact Part.within_trans (by decide) hw | with_reducible refine Frame.ite ?_ ?_
    | with_reducible refine State.checkDomains_frame ?_ ?_ | with_reducible refine State.useSample_frame ?_ ?_
    | with_reducible refine State.jumpSample_frame ?_ ?_ | with_reducible refine State.modTracker_frame ?_ ?_ | exact Nat.le_refl _
    | split | (lift_lets; intros) | with_reducible refine Frame.set_time ?_ ?_ ?_

theorem State.ptpDiscard_frame {w : Nat} {b s : State} {i} (hw : Part.within Part.cnt w = true) (h : Frame w b s) :
    Frame w b (State.ptpDiscard s i) := by
  unfold State.ptpDiscard
  repeat' first
    | with_reducible assumption | exact Part.within_trans (by decide) hw | with_reducible refine Frame.ite ?_ ?_
    | with_reducible refine State.count_frame ?_ ?_

theorem State.syncOffset_frame {w : Nat} {b s : State} {d i t2 t1 c} (hw : Part.within (Part.rcd ||| Part.cnt ||| Part.time ||| Part.seq
    ||| Part.actions) w = true) (h : Frame w b s) :
    Frame w b (State.syncOffset s d i t2 t1 c) := by
  unfold State.syncOffset
  repeat' first
    | with_reducible assumption | exact Part.within_trans (by decide) hw | with_reducible refine Frame.ite ?_ ?_
    | with_reducible refine State.modTracker_frame ?_ ?_ | with_reducible refine State.offsetSample_frame ?_ ?_
    | with_reducible refine State.modSyncPort_frame ?_ ?_ | with_reducible refine State.count_frame ?_ ?_

theorem State.ptpSync_frame {w : Nat} {b s : State} {i b' sub} (hw : Part.within (Part.rcd ||| Part.cnt ||| Part.time ||| Part.seq |||
    Part.actions) w = true) (h : Frame w b s) :
    Frame w b (State.ptpSync s i b' sub) := by
  unfold State.ptpSync
  repeat' first
    | with_reducible assumption | exact Part.within_trans (by decide) hw | with_reducible refine Frame.ite ?_ ?_
    | with_reducible refine State.syncOffset_frame ?_ ?_ | with_reducible refine State.modSyncPort_frame ?_ ?_
    | with_reducible refine State.ptpDiscard_frame ?_ ?_ | split

theorem State.ptpFollowUp_frame {w : Nat} {b s : State} {i b'} (hw : Part.within (Part.rcd ||| Part.cnt ||| Part.time ||| Part.seq |||
    Part.actions) w = true) (h : Frame w b s) :
    Frame w b (State.ptpFollowUp s i b') := by
  unfold State.ptpFollowUp
  repeat' first
    | with_reducible assumption | exact Part.within_trans (by decide) hw | with_reducible refine Frame.ite ?_ ?_
    | with_reducible refine State.syncOffset_frame ?_ ?_ | with_reducible refine State.ptpDiscard_frame ?_ ?_ | split

theorem State.pathChange_frame {w : Nat} {b s : State} {i new} (hw : Part.within (Part.rcd ||| Part.cnt ||| Part.time ||| Part.seq |||
    Part.actions) w = true) (h : Frame w b s) :
    Frame w b (State.pathChange s i new) := by
  unfold State.pathChange
  repeat' first
    | with_reducible assumption | exact Part.within_trans (by decide) hw | with_reducible refine Frame.ite ?_ ?_
    | with_reducible refine forEach_frame (fun _ _ _ => ?_) _ ?_ | with_reducible refine State.modPtpPort_frame ?_ ?_
    | with_reducible refine State.raise_frame ?_ ?_
    | with_reducible refine State.holdover_frame ?_ ?_ | with_reducible refine State.requalify_frame ?_ ?_ | split | (lift_lets; intros)

theorem State.ptpAnnounce_frame {w : Nat} {b s : State} {i b'} (hw : Part.within (Part.rcd ||| Part.cnt ||| Part.time ||| Part.seq |||
    Part.actions) w = true) (h : Frame w b s) :
    Frame w b (State.ptpAnnounce s i b') := by
  unfold State.ptpAnnounce
  repeat' first
    | with_reducible assumption | exact Part.within_trans (by decide) hw | with_reducible refine Frame.ite ?_ ?_
    | with_reducible refine State.pathChange_frame ?_ ?_ | with_reducible refine State.setSyncPort_frame ?_ ?_
    | with_reducible refine State.ptpDiscard_frame ?_ ?_ | exact Nat.le_refl _ | split | (lift_lets; intros)
    | with_reducible refine Frame.set_time ?_ ?_ ?_

theorem State.pdelayReq_frame {w : Nat} {b s : State} {i b'} (hw : Part.within (Part.cnt ||| Part.outs ||| Part.free) w = true) (h :
    Frame w b s) :
    Frame w b (State.pdelayReq s i b') := by
  unfold State.pdelayReq
  repeat' first
    | with_reducible assumption | exact Part.within_trans (by decide) hw | with_reducible refine Frame.ite ?_ ?_
    | with_reducible refine State.emit_frame ?_ ?_ | with_reducible refine State.draw_frame ?_ ?_
    | with_reducible refine State.ptpDiscard_frame ?_ ?_

theorem State.newDelay_frame {w : Nat} {b s : State} {i m} (hw : Part.within (Part.rcd ||| Part.cnt ||| Part.time ||| Part.seq |||
    Part.actions) w = true) (h : Frame w b s) :
    Frame w b (State.newDelay s i m) := by
  unfold State.newDelay
  repeat' first
    | with_reducible assumption | exact Part.within_trans (by decide) hw | with_reducible refine Frame.ite ?_ ?_
    | with_reducible refine State.setPtpPort_frame ?_ ?_ | with_reducible refine State.pathChange_frame ?_ ?_

theorem State.pdelayResp_frame {w : Nat} {b s : State} {i b' sub} (hw : Part.within (Part.rcd ||| Part.cnt ||| Part.time ||| Part.seq |||
    Part.actions) w = true) (h : Frame w b s) :
    Frame w b (State.pdelayResp s i b' sub) := by
  unfold State.pdelayResp
  repeat' first
    | with_reducible assumption | exact Part.within_trans (by decide) hw | with_reducible refine Frame.ite ?_ ?_
    | with_reducible refine State.newDelay_frame ?_ ?_ | with_reducible refine State.setPtpPort_frame ?_ ?_
    | with_reducible refine State.ptpDiscard_frame ?_ ?_

theorem State.pdelaySend_frame {w : Nat} {b s : State} (hw : Part.within (Part.time ||| Part.outs) w = true) (h : Frame w b s) :
    Frame w b (State.pdelaySend s) := by
  unfold State.pdelaySend
  repeat' first
    | with_reducible assumption | exact Part.within_trans (by decide) hw | with_reducible refine Frame.ite ?_ ?_
    | with_reducible refine forEach_frame (fun _ _ _ => ?_) _ ?_ | with_reducible refine State.modPtpPort_frame ?_ ?_
    | with_reducible refine State.emit_frame ?_ ?_

theorem State.syncSend_frame {w : Nat} {b s : State} (hw : Part.within (Part.time ||| Part.outs) w = true) (h : Frame w b s) :
    Frame w b (State.syncSend s) := by
  unfold State.syncSend
  repeat' first
    | with_reducible assumption | exact Part.within_trans (by decide) hw | with_reducible refine Frame.ite ?_ ?_
    | with_reducible refine when_frame (fun _ _ => ?_) ?_ | with_reducible refine forEach_frame (fun _ _ _ => ?_) _ ?_
    | with_reducible refine State.emit_frame ?_ ?_ | exact Nat.le_refl _ | split | (lift_lets; intros)
    | with_reducible refine Frame.set_time ?_ ?_ ?_

theorem State.holdoverNow_frame {w : Nat} {b s : State} {d} (hw : Part.within (Part.bk ||| Part.rcd ||| Part.cnt ||| Part.time |||
    Part.seq ||| Part.actions) w = true) (h : Frame w b s) :
    Frame w b (State.holdoverNow s d) := by
  unfold State.holdoverNow
  repeat' first
    | with_reducible assumption | exact Part.within_trans (by decide) hw | with_reducible refine Frame.ite ?_ ?_
    | with_reducible refine State.modSyncPort_frame ?_ ?_ | with_reducible refine State.passTo_frame ?_ ?_
    | with_reducible refine State.holdover_frame ?_ ?_ | split

theorem State.holdLong_frame {w : Nat} {b s : State} {d} (hw : Part.within (Part.bk ||| Part.rcd ||| Part.cnt ||| Part.time ||| Part.seq
    ||| Part.actions) w = true) (h : Frame w b s) :
    Frame w b (State.holdLong s d) := by
  unfold State.holdLong
  repeat' first
    | with_reducible assumption | exact Part.within_trans (by decide) hw | with_reducible refine Frame.ite ?_ ?_
    | with_reducible refine when_frame (fun _ _ => ?_) ?_ | with_reducible refine State.setQuality_frame ?_ ?_
    | with_reducible refine State.raise_frame ?_ ?_ | with_reducible refine State.passTo_frame ?_ ?_
    | with_reducible refine State.modTracker_frame ?_ ?_ | split

theorem State.settleEnd_frame {w : Nat} {b s : State} {i} (hw : Part.within (Part.bk ||| Part.rcd ||| Part.cnt ||| Part.time ||| Part.seq
    ||| Part.actions) w = true) (h : Frame w b s) :
    Frame w b (State.settleEnd s i) := by
  unfold State.settleEnd
  repeat' first
    | with_reducible assumption | exact Part.within_trans (by decide) hw | with_reducible refine Frame.ite ?_ ?_
    | with_reducible refine when_frame (fun _ _ => ?_) ?_ | with_reducible refine State.requalify_frame ?_ ?_
    | with_reducible refine State.raise_frame ?_ ?_ | with_reducible refine State.modPtpPort_frame ?_ ?_
    | with_reducible refine State.passTo_frame ?_ ?_ | exact Nat.le_refl _ | split | (lift_lets; intros)
    | with_reducible refine Frame.set_time ?_ ?_ ?_

theorem State.acceptPath_frame {w : Nat} {b s : State} (hw : Part.within (Part.rcd ||| Part.cnt ||| Part.time ||| Part.seq |||
    Part.actions) w = true) (h : Frame w b s) :
    Frame w b (State.acceptPath s) := by
  unfold State.acceptPath
  repeat' first
    | with_reducible assumption | exact Part.within_trans (by decide) hw | with_reducible refine Frame.ite ?_ ?_
    | with_reducible refine forEach_frame (fun _ _ _ => ?_) _ ?_ | with_reducible refine State.modPtpPort_frame ?_ ?_
    | with_reducible refine State.requalify_frame ?_ ?_

theorem State.acceptJump_frame {w : Nat} {b s : State} (hw : Part.within Part.time w = true) (h : Frame w b s) :
    Frame w b (State.acceptJump s) := by
  unfold State.acceptJump
  repeat' first
    | with_reducible assumption | exact Part.within_trans (by decide) hw | with_reducible refine Frame.ite ?_ ?_
    | with_reducible refine State.confirmJump_frame ?_ ?_

theorem State.jumpPersists_frame {w : Nat} {b s : State} (hw : Part.within (Part.bk ||| Part.time) w = true) (h : Frame w b s) :
    Frame w b (State.jumpPersists s) := by
  unfold State.jumpPersists
  repeat' first
    | with_reducible assumption | exact Part.within_trans (by decide) hw | with_reducible refine Frame.ite ?_ ?_
    | with_reducible refine when_frame (fun _ _ => ?_) ?_ | with_reducible refine State.confirmJump_frame ?_ ?_
    | with_reducible refine State.passTo_frame ?_ ?_

theorem State.judgePassed_frame {w : Nat} {b s : State} (hw : Part.within (Part.rcd ||| Part.cnt ||| Part.seq ||| Part.twin |||
    Part.outs ||| Part.actions) w = true) (h : Frame w b s) :
    Frame w b (State.judgePassed s) := by
  unfold State.judgePassed
  repeat' first
    | with_reducible assumption | exact Part.within_trans (by decide) hw | with_reducible refine Frame.ite ?_ ?_
    | with_reducible refine forEach_frame (fun _ _ _ => ?_) _ ?_
    | with_reducible refine State.raise_frame ?_ ?_ | with_reducible refine State.count_frame ?_ ?_
    | with_reducible refine State.freeSlot_frame ?_ ?_ | exact id | exact fun _ => rfl | exact fun _ _ => rfl | exact fun _ => ⟨rfl, rfl⟩
    | exact fun _ => ⟨rfl, rfl, rfl⟩ | exact fun k => Part.out_absurd hw (by decide) k | split | (lift_lets; intros)
    | with_reducible refine Frame.set_seq ?_ ?_ ?_

theorem State.timeStep_frame {w : Nat} {b s : State} (hw : Part.within (Part.bk ||| Part.rcd ||| Part.cnt ||| Part.time ||| Part.seq |||
    Part.fio ||| Part.twin ||| Part.outs ||| Part.actions) w = true) (h : Frame w b s) :
    Frame w b (State.timeStep s) := by
  unfold State.timeStep
  repeat' first
    | with_reducible assumption | exact Part.within_trans (by decide) hw | with_reducible refine Frame.ite ?_ ?_
    | with_reducible refine forEach_frame (fun _ _ _ => ?_) _ ?_ | with_reducible refine State.passToTt_frame ?_ ?_
    | with_reducible refine State.modTracker_frame ?_ ?_
    | with_reducible refine State.modFlink_frame ?_ ?_ | with_reducible refine State.raise_frame ?_ ?_
    | with_reducible refine State.judgePassed_frame ?_ ?_ | exact Nat.le_refl _ | exact id | exact fun _ => rfl | exact fun _ _ => rfl
    | exact fun _ => ⟨rfl, rfl⟩ | exact fun _ => ⟨rfl, rfl, rfl⟩ | exact fun k => Part.out_absurd hw (by decide) k | split
    | (lift_lets; intros) | with_reducible refine Frame.set_time ?_ ?_ ?_

theorem State.ttRead_frame {w : Nat} {b s : State} (hw : Part.within Part.time w = true) (h : Frame w b s) :
    Frame w b (State.ttRead s) := by
  unfold State.ttRead
  repeat' first
    | with_reducible assumption | exact Part.within_trans (by decide) hw | with_reducible refine Frame.ite ?_ ?_ | exact Nat.le_refl _
    | split | (lift_lets; intros) | with_reducible refine Frame.set_time ?_ ?_ ?_

theorem State.rtcSet_frame {w : Nat} {b s : State} (hw : Part.within (Part.bk ||| Part.time) w = true) (h : Frame w b s) :
    Frame w b (State.rtcSet s) := by
  unfold State.rtcSet
  repeat' first
    | with_reducible assumption | exact Part.within_trans (by decide) hw | with_reducible refine Frame.ite ?_ ?_
    | with_reducible refine when_frame (fun _ _ => ?_) ?_ | with_reducible refine State.passToTt_frame ?_ ?_ | split
    | (lift_lets; intros) | with_reducible refine Frame.set_bk ?_ ?_

end Sys2Proof.Machine
end

