-- ==== Sys2Proof/Laws/FrameMotionCycle.lean ====
section
/-!
SUPPORT. Sys2Proof/Laws/FrameMotionCycle.lean: the frame of each operation of Machine/MotionCycle.lean.
-/
set_option Elab.async false
namespace Sys2Proof.Machine
open Sys2Proof

theorem State.mirrorAxis_frame {w : Nat} {b s : State} {n} (hw : Part.within (Part.twin ||| Part.outs) w = true) (h : Frame w b s) :
    Frame w b (State.mirrorAxis s n) := by
  unfold State.mirrorAxis
  repeat' first
    | with_reducible assumption | exact Part.within_trans (by decide) hw | with_reducible refine Frame.ite ?_ ?_
    | with_reducible refine State.mirror_frame ?_ ?_ | split | (lift_lets; intros) | with_reducible refine Frame.set_twin ?_ ?_

theorem State.mirrorPortal_frame {w : Nat} {b s : State} {p} (hw : Part.within (Part.twin ||| Part.outs) w = true) (h : Frame w b s) :
    Frame w b (State.mirrorPortal s p) := by
  unfold State.mirrorPortal
  repeat' first
    | with_reducible assumption | exact Part.within_trans (by decide) hw | with_reducible refine Frame.ite ?_ ?_
    | with_reducible refine State.mirror_frame ?_ ?_ | split | (lift_lets; intros) | with_reducible refine Frame.set_twin ?_ ?_

theorem State.mirrorCycle_frame {w : Nat} {b s : State} (hw : Part.within (Part.twin ||| Part.outs) w = true) (h : Frame w b s) :
    Frame w b (State.mirrorCycle s) := by
  unfold State.mirrorCycle
  repeat' first
    | with_reducible assumption | exact Part.within_trans (by decide) hw | with_reducible refine Frame.ite ?_ ?_
    | with_reducible refine forEach_frame (fun _ _ _ => ?_) _ ?_ | with_reducible refine State.mirrorAxis_frame ?_ ?_
    | with_reducible refine State.mirror_frame ?_ ?_ | with_reducible refine State.mirrorPortal_frame ?_ ?_

theorem State.motionCycle_frame {w : Nat} {b s : State} (hw : Part.within (Part.sys ||| Part.bk ||| Part.rcd ||| Part.cnt ||| Part.time
    ||| Part.seq ||| Part.portals ||| Part.obs ||| Part.axes ||| Part.fb ||| Part.links ||| Part.ilk ||| Part.fio ||| Part.loads |||
    Part.twin ||| Part.mem ||| Part.outs ||| Part.free ||| Part.states) w = true) (h : Frame w b s) :
    Frame w b (State.motionCycle s) := by
  unfold State.motionCycle
  repeat' first
    | with_reducible assumption | exact Part.within_trans (by decide) hw | with_reducible refine Frame.ite ?_ ?_
    | with_reducible refine forEach_frame (fun _ _ _ => ?_) _ ?_ | with_reducible refine State.passToTt_frame ?_ ?_
    | with_reducible refine State.soRecord_frame ?_ ?_ | with_reducible refine State.takeInputs_frame ?_ ?_
    | with_reducible refine State.fbLatch_frame ?_ ?_
    | with_reducible refine State.dlSend_frame ?_ ?_ | with_reducible refine State.testWatch_frame ?_ ?_
    | with_reducible refine State.mrstActs_frame ?_ ?_ | with_reducible refine State.portalCycle_frame ?_ ?_
    | with_reducible refine State.arbitrate_frame ?_ ?_ | with_reducible refine State.liftWithdraw_frame ?_ ?_
    | with_reducible refine State.noteDue_frame ?_ ?_ | with_reducible refine State.channelA_frame ?_ ?_
    | with_reducible refine State.mirrorCycle_frame ?_ ?_ | exact Nat.le_refl _ | exact id | exact fun _ => rfl | exact fun _ _ => rfl
    | exact fun _ => ⟨rfl, rfl⟩ | exact fun _ => ⟨rfl, rfl, rfl⟩ | exact fun k => Part.out_absurd hw (by decide) k | split
    | (lift_lets; intros) | with_reducible refine Frame.set_time ?_ ?_ ?_ | with_reducible refine Frame.set_twin ?_ ?_

end Sys2Proof.Machine
end

