-- ==== Sys2Proof/Laws/FrameNet.lean ====
section
/-!
SUPPORT. Sys2Proof/Laws/FrameNet.lean: the frame of each operation of Machine/Net.lean.
-/

set_option Elab.async false
namespace Sys2Proof.Machine

open Sys2Proof

theorem State.netDrop_frame {w : Nat} {b s : State} {p cause} (hw : Part.within Part.cnt w = true) (h : Frame w b s) :
    Frame w b (State.netDrop s p cause) := by
  unfold State.netDrop
  repeat' first
    | with_reducible assumption | exact Part.within_trans (by decide) hw | with_reducible refine Frame.ite ?_ ?_
    | with_reducible refine State.count_frame ?_ ?_

theorem State.syncCredit_frame {w : Nat} {b s : State} {p} (hw : Part.within Part.net w = true) (h : Frame w b s) :
    Frame w b (State.syncCredit s p) := by
  unfold State.syncCredit
  repeat' first
    | with_reducible assumption | exact Part.within_trans (by decide) hw | with_reducible refine Frame.ite ?_ ?_
    | with_reducible refine State.setPort_frame ?_ ?_

theorem State.admit_frame {w : Nat} {b s : State} {f p} (hw : Part.within (Part.rcd ||| Part.cnt) w = true) (h : Frame w b s) :
    Frame w b (State.admitFrame s f p).1 := by
  unfold State.admitFrame
  repeat' first
    | with_reducible assumption | exact Part.within_trans (by decide) hw | with_reducible refine Frame.ite ?_ ?_
    | with_reducible refine State.netDrop_frame ?_ ?_ | with_reducible refine State.raiseRated_frame ?_ ?_ | split | (lift_lets; intros)

theorem State.judgePause_frame {w : Nat} {b s : State} {i} (hw : Part.within (Part.rcd ||| Part.cnt ||| Part.net ||| Part.outs) w = true)
    (h : Frame w b s) :
    Frame w b (State.judgePause s i) := by
  unfold State.judgePause
  repeat' first
    | with_reducible assumption | exact Part.within_trans (by decide) hw | with_reducible refine Frame.ite ?_ ?_
    | with_reducible refine State.setPort_frame ?_ ?_ | with_reducible refine State.emit_frame ?_ ?_
    | with_reducible refine State.raise_frame ?_ ?_ | with_reducible refine State.count_frame ?_ ?_

theorem State.store_frame {w : Nat} {b s : State} {f dests} (hw : Part.within (Part.rcd ||| Part.cnt ||| Part.net ||| Part.outs) w =
    true) (h : Frame w b s) :
    Frame w b (State.store s f dests) := by
  unfold State.store
  dsimp only
  generalize e : dests.foldl _ (s, []) = r
  have h1 : Frame w b r.1 := by
    rw [← e]
    refine foldl_fst_frame (fun r p hr => ?_) _ h
    exact State.admit_frame (Part.within_trans (by decide) hw) hr
  split
  · exact h1
  · exact State.judgePause_frame (Part.within_trans (by decide) hw) (forEach_frame (fun _ _ h => State.modPort_frame (Part.within_trans
    (by decide) hw) h) _ (Frame.set_net (Part.within_trans (by decide) hw)
      (forEach_frame (fun _ _ h => State.syncCredit_frame (Part.within_trans (by decide) hw) h) _ h1)))

theorem State.learn__frame {w : Nat} {b s : State} {vid sa i} (hw : Part.within (Part.rcd ||| Part.cnt ||| Part.net) w = true) (h : Frame
    w b s) :
    Frame w b (State.learn_ s vid sa i) := by
  unfold State.learn_
  repeat' first
    | with_reducible assumption | exact Part.within_trans (by decide) hw | with_reducible refine Frame.ite ?_ ?_
    | with_reducible refine State.raise_frame ?_ ?_ | split | (lift_lets; intros) | with_reducible refine Frame.set_net ?_ ?_

theorem State.noteProxy_frame {w : Nat} {b s : State} {sa} (hw : Part.within (Part.rcd ||| Part.cnt ||| Part.net) w = true) (h : Frame w
    b s) :
    Frame w b (State.noteProxy s sa).1 := by
  unfold State.noteProxy
  repeat' first
    | with_reducible assumption | exact Part.within_trans (by decide) hw | with_reducible refine Frame.ite ?_ ?_
    | with_reducible refine State.raise_frame ?_ ?_ | split | (lift_lets; intros) | with_reducible refine Frame.set_net ?_ ?_

theorem State.supReturn_frame {w : Nat} {b s : State} {i} (hw : Part.within (Part.rcd ||| Part.cnt ||| Part.net) w = true) (h : Frame w b
    s) :
    Frame w b (State.supReturn s i) := by
  unfold State.supReturn
  repeat' first
    | with_reducible assumption | exact Part.within_trans (by decide) hw | with_reducible refine Frame.ite ?_ ?_
    | with_reducible refine State.raise_frame ?_ ?_ | split | (lift_lets; intros) | with_reducible refine Frame.set_net ?_ ?_

theorem State.forward_frame {w : Nat} {b s : State} {f} (hw : Part.within (Part.rcd ||| Part.cnt ||| Part.net ||| Part.outs) w = true) (h
    : Frame w b s) :
    Frame w b (State.forward s f) := by
  unfold State.forward
  repeat' first
    | with_reducible assumption | exact Part.within_trans (by decide) hw | with_reducible refine Frame.ite ?_ ?_
    | with_reducible refine State.noteProxy_frame ?_ ?_ | with_reducible refine State.supReturn_frame ?_ ?_
    | with_reducible refine State.store_frame ?_ ?_ | split | (lift_lets; intros) | with_reducible refine Frame.set_net ?_ ?_

theorem State.police_frame {w : Nat} {b s : State} {i p vid len} (hw : Part.within (Part.rcd ||| Part.cnt ||| Part.net) w = true) (h :
    Frame w b s) :
    Frame w b (State.police s i p vid len).1 := by
  unfold State.police
  repeat' first
    | with_reducible assumption | exact Part.within_trans (by decide) hw | with_reducible refine Frame.ite ?_ ?_
    | with_reducible refine State.modPort_frame ?_ ?_ | with_reducible refine State.netDrop_frame ?_ ?_
    | with_reducible refine State.count_frame ?_ ?_ | with_reducible refine State.raiseRated_frame ?_ ?_ | split | (lift_lets; intros)

theorem State.oversize_frame {w : Nat} {b s : State} {i field} (hw : Part.within (Part.rcd ||| Part.cnt) w = true) (h : Frame w b s) :
    Frame w b (State.oversize s i field) := by
  unfold State.oversize
  repeat' first
    | with_reducible assumption | exact Part.within_trans (by decide) hw | with_reducible refine Frame.ite ?_ ?_
    | with_reducible refine State.netDrop_frame ?_ ?_ | with_reducible refine State.raiseRated_frame ?_ ?_

theorem State.pauseReceive_frame {w : Nat} {b s : State} {i time} (hw : Part.within (Part.rcd ||| Part.cnt ||| Part.net) w = true) (h :
    Frame w b s) :
    Frame w b (State.pauseReceive s i time) := by
  unfold State.pauseReceive
  repeat' first
    | with_reducible assumption | exact Part.within_trans (by decide) hw | with_reducible refine Frame.ite ?_ ?_
    | with_reducible refine State.raise_frame ?_ ?_ | with_reducible refine State.modPort_frame ?_ ?_
    | with_reducible refine State.count_frame ?_ ?_

theorem State.frameReceive_frame {w : Nat} {b s : State} {i b' fcsOk cls4} (hw : Part.within (Part.rcd ||| Part.cnt ||| Part.net |||
    Part.outs) w = true) (h : Frame w b s) :
    Frame w b (State.frameReceive s i b' fcsOk cls4) := by
  unfold State.frameReceive
  refine Frame.ite h ?_
  have h1 : Frame w b (s.count (168 + i)) := State.count_frame (Part.within_trans (by decide) hw) h
  generalize s.count (168 + i) = s1 at h1 ⊢
  dsimp only
  refine Frame.ite (State.netDrop_frame (Part.within_trans (by decide) hw) h1) (Frame.ite (State.oversize_frame (Part.within_trans (by
    decide) hw) h1) (Frame.ite (State.oversize_frame (Part.within_trans (by decide) hw) h1)
    (Frame.ite (State.oversize_frame (Part.within_trans (by decide) hw) h1) (Frame.ite (State.netDrop_frame (Part.within_trans (by
    decide) hw) h1) (Frame.ite (Frame.ite (State.pauseReceive_frame (Part.within_trans (by decide) hw) h1) h1) (Frame.ite (State.ptpDiscard_frame (Part.within_trans (by decide) hw) h1)
    (Frame.ite (State.learn__frame (Part.within_trans (by decide) hw) h1) ?_)))))))
  generalize (match (parseFrame b').tci with | some t => if t % 4096 = 0 then _ else t % 4096 | none => _) = vid
  generalize (if i = 4 then cls4 else _) = c
  have h2 (v n : Nat) (c : Nat) : Frame w b (if i ≠ 4 ∧ c = 0 then s1.police i (parseFrame b') v n else (s1, some c)).1 := by
    split
    · exact State.police_frame (Part.within_trans (by decide) hw) h1
    · exact h1
  split
  · exact h2 _ _ _
  · exact State.forward_frame (Part.within_trans (by decide) hw) (State.learn__frame (Part.within_trans (by decide) hw) (h2 _ _ _))

theorem State.txStart_frame {w : Nat} {b s : State} {p} (hw : Part.within (Part.cnt ||| Part.net ||| Part.outs) w = true) (h : Frame w b
    s) :
    Frame w b (State.txStart s p) := by
  unfold State.txStart
  repeat' first
    | with_reducible assumption | exact Part.within_trans (by decide) hw | with_reducible refine Frame.ite ?_ ?_
    | with_reducible refine when_frame (fun _ _ => ?_) ?_ | with_reducible refine State.emit_frame ?_ ?_
    | with_reducible refine State.count_frame ?_ ?_ | with_reducible refine State.modPort_frame ?_ ?_
    | with_reducible refine State.syncCredit_frame ?_ ?_ | split | (lift_lets; intros)

theorem State.txEnd_frame {w : Nat} {b s : State} {p} (hw : Part.within (Part.bk ||| Part.rcd ||| Part.cnt ||| Part.time ||| Part.net |||
    Part.outs) w = true) (h : Frame w b s) :
    Frame w b (State.txEnd s p) := by
  unfold State.txEnd
  split
  · exact h
  · rename_i q e
    have h1 : Frame w b (((s.passTo q.ends).syncCredit p).count (173 + p)) :=
      State.count_frame (Part.within_trans (by decide) hw) (State.syncCredit_frame (Part.within_trans (by decide) hw) (State.passTo_frame
    (Part.within_trans (by decide) hw) h))
    dsimp only
    split
    · exact State.judgePause_frame (Part.within_trans (by decide) hw) (State.modPort_frame (Part.within_trans (by decide) hw)
    (Frame.set_net (Part.within_trans (by decide) hw) h1))
    · exact State.modPort_frame (Part.within_trans (by decide) hw) (Frame.set_net (Part.within_trans (by decide) hw) h1)

theorem State.gclNext_frame {w : Nat} {b s : State} {p} (hw : Part.within (Part.bk ||| Part.time ||| Part.net) w = true) (h : Frame w b
    s) :
    Frame w b (State.gclNext s p) := by
  unfold State.gclNext
  repeat' first
    | with_reducible assumption | exact Part.within_trans (by decide) hw | with_reducible refine Frame.ite ?_ ?_
    | with_reducible refine when_frame (fun _ _ => ?_) ?_ | with_reducible refine State.modPort_frame ?_ ?_
    | with_reducible refine State.passToTt_frame ?_ ?_ | with_reducible refine State.syncCredit_frame ?_ ?_

theorem State.linkUp_frame {w : Nat} {b s : State} {i fast} (hw : Part.within (Part.rcd ||| Part.cnt ||| Part.net) w = true) (h : Frame w
    b s) :
    Frame w b (State.linkUp s i fast) := by
  unfold State.linkUp
  repeat' first
    | with_reducible assumption | exact Part.within_trans (by decide) hw | with_reducible refine Frame.ite ?_ ?_
    | with_reducible refine when_frame (fun _ _ => ?_) ?_ | with_reducible refine State.raiseRated_frame ?_ ?_
    | with_reducible refine State.modPort_frame ?_ ?_ | with_reducible refine State.raise_frame ?_ ?_

theorem State.supSend_frame {w : Nat} {b s : State} (hw : Part.within (Part.rcd ||| Part.cnt ||| Part.net ||| Part.outs) w = true) (h :
    Frame w b s) :
    Frame w b (State.supSend s) := by
  unfold State.supSend
  repeat' first
    | with_reducible assumption | exact Part.within_trans (by decide) hw | with_reducible refine Frame.ite ?_ ?_
    | with_reducible refine when_frame (fun _ _ => ?_) ?_ | with_reducible refine forEach_frame (fun _ _ _ => ?_) _ ?_
    | with_reducible refine State.store_frame ?_ ?_ | split | (lift_lets; intros) | with_reducible refine Frame.set_net ?_ ?_

end Sys2Proof.Machine
end

