-- ==== Sys2Proof/Laws/FrameCounters.lean ====
section
/-!
SUPPORT. Sys2Proof/Laws/FrameCounters.lean: the frame of each operation of Machine/Counters.lean.
-/
set_option Elab.async false
namespace Sys2Proof.Machine
open Sys2Proof

theorem State.cntValRead_frame {w : Nat} {b s : State} (hw : Part.within Part.cnt w = true) (h : Frame w b s) :
    Frame w b (State.cntValRead s) := by
  unfold State.cntValRead
  repeat' first
    | with_reducible assumption | exact Part.within_trans (by decide) hw | with_reducible refine Frame.ite ?_ ?_ | split
    | (lift_lets; intros) | with_reducible refine Frame.set_cnt ?_ ?_

theorem State.cntWrite_frame {w : Nat} {b s : State} (hw : Part.within Part.cnt w = true) (h : Frame w b s) :
    Frame w b (State.cntWrite s) := by
  unfold State.cntWrite
  repeat' first
    | with_reducible assumption | exact Part.within_trans (by decide) hw | with_reducible refine Frame.ite ?_ ?_ | split
    | (lift_lets; intros) | with_reducible refine Frame.set_cnt ?_ ?_

theorem State.cntClearAll_frame {w : Nat} {b s : State} (hw : Part.within (Part.rcd ||| Part.cnt) w = true) (h : Frame w b s) :
    Frame w b (State.cntClearAll s) := by
  unfold State.cntClearAll
  repeat' first
    | with_reducible assumption | exact Part.within_trans (by decide) hw | with_reducible refine Frame.ite ?_ ?_
    | with_reducible refine State.raise_frame ?_ ?_ | split | (lift_lets; intros) | with_reducible refine Frame.set_cnt ?_ ?_

theorem State.sweep_frame {w : Nat} {b s : State} (hw : Part.within Part.cnt w = true) (h : Frame w b s) :
    Frame w b (State.sweep s) := by
  unfold State.sweep
  repeat' first
    | with_reducible assumption | exact Part.within_trans (by decide) hw | with_reducible refine Frame.ite ?_ ?_
    | with_reducible refine foldl_frame (fun _ _ _ => ?_) _ ?_ | exact id | exact fun _ => rfl | exact fun _ _ => rfl
    | exact fun _ => ⟨rfl, rfl⟩ | exact fun _ => ⟨rfl, rfl, rfl⟩ | exact fun k => Part.out_absurd hw (by decide) k | split
    | (lift_lets; intros) | with_reducible refine Frame.set_cnt ?_ ?_

theorem State.sweepPeriodic_frame {w : Nat} {b s : State} (hw : Part.within (Part.bk ||| Part.cnt ||| Part.time) w = true) (h : Frame w
    b s) :
    Frame w b (State.sweepPeriodic s) := by
  unfold State.sweepPeriodic
  repeat' first
    | with_reducible assumption | exact Part.within_trans (by decide) hw | with_reducible refine Frame.ite ?_ ?_
    | with_reducible refine when_frame (fun _ _ => ?_) ?_ | with_reducible refine State.passTo_frame ?_ ?_
    | with_reducible refine State.sweep_frame ?_ ?_ | exact id | exact fun _ => rfl | exact fun _ _ => rfl | exact fun _ => ⟨rfl, rfl⟩
    | exact fun _ => ⟨rfl, rfl, rfl⟩ | exact fun k => Part.out_absurd hw (by decide) k | split | (lift_lets; intros)
    | with_reducible refine Frame.set_cnt ?_ ?_

theorem State.cntSnapRead_frame {w : Nat} {b s : State} {i} (hw : Part.within Part.cnt w = true) (h : Frame w b s) :
    Frame w b (State.cntSnapRead s i) := by
  unfold State.cntSnapRead
  repeat' first
    | with_reducible assumption | exact Part.within_trans (by decide) hw | with_reducible refine Frame.ite ?_ ?_ | split
    | (lift_lets; intros) | with_reducible refine Frame.set_cnt ?_ ?_

theorem State.cntSweepTtRead_frame {w : Nat} {b s : State} (hw : Part.within Part.cnt w = true) (h : Frame w b s) :
    Frame w b (State.cntSweepTtRead s) := by
  unfold State.cntSweepTtRead
  repeat' first
    | with_reducible assumption | exact Part.within_trans (by decide) hw | with_reducible refine Frame.ite ?_ ?_ | split
    | (lift_lets; intros) | with_reducible refine Frame.set_cnt ?_ ?_

theorem State.pushSample_frame {w : Nat} {b s : State} {e} (hw : Part.within (Part.rcd ||| Part.cnt) w = true) (h : Frame w b s) :
    Frame w b (State.pushSample s e) := by
  unfold State.pushSample
  repeat' first
    | with_reducible assumption | exact Part.within_trans (by decide) hw | with_reducible refine Frame.ite ?_ ?_
    | with_reducible refine State.raise_frame ?_ ?_ | split | (lift_lets; intros) | with_reducible refine Frame.set_cnt ?_ ?_

theorem State.sampleCmd_frame {w : Nat} {b s : State} {e} (hw : Part.within (Part.rcd ||| Part.cnt) w = true) (h : Frame w b s) :
    Frame w b (State.sampleCmd s e) := by
  unfold State.sampleCmd
  repeat' first
    | with_reducible assumption | exact Part.within_trans (by decide) hw | with_reducible refine Frame.ite ?_ ?_
    | with_reducible refine State.pushSample_frame ?_ ?_ | split | (lift_lets; intros) | with_reducible refine Frame.set_cnt ?_ ?_

theorem State.sampleStl_frame {w : Nat} {b s : State} {e} (hw : Part.within (Part.rcd ||| Part.cnt) w = true) (h : Frame w b s) :
    Frame w b (State.sampleStl s e) := by
  unfold State.sampleStl
  repeat' first
    | with_reducible assumption | exact Part.within_trans (by decide) hw | with_reducible refine Frame.ite ?_ ?_
    | with_reducible refine State.pushSample_frame ?_ ?_ | split | (lift_lets; intros) | with_reducible refine Frame.set_cnt ?_ ?_

theorem State.smpClear_frame {w : Nat} {b s : State} (hw : Part.within Part.cnt w = true) (h : Frame w b s) :
    Frame w b (State.smpClear s) := by
  unfold State.smpClear
  repeat' first
    | with_reducible assumption | exact Part.within_trans (by decide) hw | with_reducible refine Frame.ite ?_ ?_ | split
    | (lift_lets; intros) | with_reducible refine Frame.set_cnt ?_ ?_

theorem State.smpLoad_frame {w : Nat} {b s : State} {k} (hw : Part.within Part.cnt w = true) (h : Frame w b s) :
    Frame w b (State.smpLoad s k) := by
  unfold State.smpLoad
  repeat' first
    | with_reducible assumption | exact Part.within_trans (by decide) hw | with_reducible refine Frame.ite ?_ ?_ | split
    | (lift_lets; intros) | with_reducible refine Frame.set_cnt ?_ ?_

theorem State.latencyBin_frame {w : Nat} {b s : State} {ns} (hw : Part.within Part.cnt w = true) (h : Frame w b s) :
    Frame w b (State.latencyBin s ns) := by
  unfold State.latencyBin
  repeat' first
    | with_reducible assumption | exact Part.within_trans (by decide) hw | with_reducible refine Frame.ite ?_ ?_
    | with_reducible refine State.count_frame ?_ ?_

end Sys2Proof.Machine
end

