-- ==== Sys2Proof/Laws/FrameTrdp.lean ====
section
/-!
SUPPORT. Sys2Proof/Laws/FrameTrdp.lean: the frame of each operation of Machine/Trdp.lean.
-/
set_option Elab.async false
namespace Sys2Proof.Machine
open Sys2Proof

theorem State.sendTelegram_frame {w : Nat} {b s : State} {off ip data} (hw : Part.within (Part.cnt ||| Part.outs) w = true) (h : Frame w
    b s) :
    Frame w b (State.sendTelegram s off ip data) := by
  unfold State.sendTelegram
  repeat' first
    | with_reducible assumption | exact Part.within_trans (by decide) hw | with_reducible refine Frame.ite ?_ ?_
    | with_reducible refine State.count_frame ?_ ?_ | with_reducible refine State.emit_frame ?_ ?_

theorem State.trdpDiscard_frame {w : Nat} {b s : State} (hw : Part.within Part.cnt w = true) (h : Frame w b s) :
    Frame w b (State.trdpDiscard s) := by
  unfold State.trdpDiscard
  repeat' first
    | with_reducible assumption | exact Part.within_trans (by decide) hw | with_reducible refine Frame.ite ?_ ?_
    | with_reducible refine State.count_frame ?_ ?_

theorem State.trdpOversize_frame {w : Nat} {b s : State} {field} (hw : Part.within (Part.rcd ||| Part.cnt) w = true) (h : Frame w b s) :
    Frame w b (State.trdpOversize s field) := by
  unfold State.trdpOversize
  repeat' first
    | with_reducible assumption | exact Part.within_trans (by decide) hw | with_reducible refine Frame.ite ?_ ?_
    | with_reducible refine State.count_frame ?_ ?_ | with_reducible refine State.raise_frame ?_ ?_

theorem State.heard_frame {w : Nat} {b s : State} {ip} (hw : Part.within Part.trdp w = true) (h : Frame w b s) :
    Frame w b (State.heard s ip) := by
  unfold State.heard
  repeat' first
    | with_reducible assumption | exact Part.within_trans (by decide) hw | with_reducible refine Frame.ite ?_ ?_ | split
    | (lift_lets; intros) | with_reducible refine Frame.set_trdp ?_ ?_

theorem State.trdpRx_frame {w : Nat} {b s : State} {t} (hw : Part.within (Part.rcd ||| Part.cnt ||| Part.trdp) w = true) (h : Frame w b
    s) :
    Frame w b (State.trdpRx s t).1 := by
  unfold State.trdpRx
  repeat' first
    | with_reducible assumption | exact Part.within_trans (by decide) hw | with_reducible refine Frame.ite ?_ ?_
    | with_reducible refine State.heard_frame ?_ ?_ | with_reducible refine State.trdpOversize_frame ?_ ?_
    | with_reducible refine State.trdpDiscard_frame ?_ ?_ | with_reducible refine State.count_frame ?_ ?_ | split | (lift_lets; intros)

theorem State.unknownSource_frame {w : Nat} {b s : State} {ip comId} (hw : Part.within (Part.rcd ||| Part.cnt) w = true) (h : Frame w b
    s) :
    Frame w b (State.unknownSource s ip comId) := by
  unfold State.unknownSource
  repeat' first
    | with_reducible assumption | exact Part.within_trans (by decide) hw | with_reducible refine Frame.ite ?_ ?_
    | with_reducible refine State.raiseRated_frame ?_ ?_

theorem State.admitPartner_frame {w : Nat} {b s : State} {ip} (hw : Part.within (Part.rcd ||| Part.cnt ||| Part.trdp) w = true) (h :
    Frame w b s) :
    Frame w b (State.admitPartner s ip).1 := by
  unfold State.admitPartner
  repeat' first
    | with_reducible assumption | exact Part.within_trans (by decide) hw | with_reducible refine Frame.ite ?_ ?_
    | with_reducible refine State.raiseRated_frame ?_ ?_ | with_reducible refine State.raise_frame ?_ ?_ | split | (lift_lets; intros)
    | with_reducible refine Frame.set_trdp ?_ ?_

theorem State.endSessions_frame {w : Nat} {b s : State} {ip} (hw : Part.within (Part.sc ||| Part.rcd ||| Part.cnt) w = true) (h : Frame w
    b s) :
    Frame w b (State.endSessions s ip) := by
  unfold State.endSessions
  repeat' first
    | with_reducible assumption | exact Part.within_trans (by decide) hw | with_reducible refine Frame.ite ?_ ?_
    | with_reducible refine forEach_frame (fun _ _ _ => ?_) _ ?_ | with_reducible refine State.raise_frame ?_ ?_ | exact Nat.le_refl _
    | exact fun _ k => k | exact id | exact List.prefix_refl _ | split | (lift_lets; intros)
    | with_reducible refine Frame.set_sc ?_ ?_ ?_ ?_ ?_ ?_

theorem State.releasePartner_frame {w : Nat} {b s : State} {k} (hw : Part.within (Part.sc ||| Part.rcd ||| Part.cnt ||| Part.trdp) w =
    true) (h : Frame w b s) :
    Frame w b (State.releasePartner s k) := by
  unfold State.releasePartner
  repeat' first
    | with_reducible assumption | exact Part.within_trans (by decide) hw | with_reducible refine Frame.ite ?_ ?_
    | with_reducible refine State.raise_frame ?_ ?_ | with_reducible refine State.endSessions_frame ?_ ?_ | split | (lift_lets; intros)
    | with_reducible refine Frame.set_trdp ?_ ?_

theorem State.partnerAge_frame {w : Nat} {b s : State} {k} (hw : Part.within (Part.bk ||| Part.sc ||| Part.rcd ||| Part.cnt ||| Part.time
    ||| Part.trdp) w = true) (h : Frame w b s) :
    Frame w b (State.partnerAge s k) := by
  unfold State.partnerAge
  repeat' first
    | with_reducible assumption | exact Part.within_trans (by decide) hw | with_reducible refine Frame.ite ?_ ?_
    | with_reducible refine when_frame (fun _ _ => ?_) ?_ | with_reducible refine State.passTo_frame ?_ ?_
    | with_reducible refine State.releasePartner_frame ?_ ?_

theorem State.icmpEcho_frame {w : Nat} {b s : State} {src dst data} (hw : Part.within (Part.cnt ||| Part.outs) w = true) (h : Frame w b
    s) :
    Frame w b (State.icmpEcho s src dst data) := by
  unfold State.icmpEcho
  repeat' first
    | with_reducible assumption | exact Part.within_trans (by decide) hw | with_reducible refine Frame.ite ?_ ?_
    | with_reducible refine when_frame (fun _ _ => ?_) ?_ | with_reducible refine State.emit_frame ?_ ?_
    | with_reducible refine State.trdpDiscard_frame ?_ ?_ | split | (lift_lets; intros)

theorem State.datagramDiscard_frame {w : Nat} {b s : State} {t} (hw : Part.within (Part.rcd ||| Part.cnt ||| Part.trdp) w = true) (h :
    Frame w b s) :
    Frame w b (State.datagramDiscard s t) := by
  unfold State.datagramDiscard
  repeat' first
    | with_reducible assumption | exact Part.within_trans (by decide) hw | with_reducible refine Frame.ite ?_ ?_
    | with_reducible refine when_frame (fun _ _ => ?_) ?_ | with_reducible refine State.unknownSource_frame ?_ ?_
    | with_reducible refine State.trdpRx_frame ?_ ?_ | with_reducible refine State.trdpDiscard_frame ?_ ?_ | split | (lift_lets; intros)

theorem State.garpStart_frame {w : Nat} {b s : State} (hw : Part.within (Part.trdp ||| Part.outs) w = true) (h : Frame w b s) :
    Frame w b (State.garpStart s) := by
  unfold State.garpStart
  repeat' first
    | with_reducible assumption | exact Part.within_trans (by decide) hw | with_reducible refine Frame.ite ?_ ?_
    | with_reducible refine when_frame (fun _ _ => ?_) ?_ | with_reducible refine State.emit_frame ?_ ?_ | split | (lift_lets; intros)
    | with_reducible refine Frame.set_trdp ?_ ?_

theorem State.garpNext_frame {w : Nat} {b s : State} (hw : Part.within (Part.bk ||| Part.time ||| Part.trdp ||| Part.outs) w = true) (h :
    Frame w b s) :
    Frame w b (State.garpNext s) := by
  unfold State.garpNext
  repeat' first
    | with_reducible assumption | exact Part.within_trans (by decide) hw | with_reducible refine Frame.ite ?_ ?_
    | with_reducible refine when_frame (fun _ _ => ?_) ?_ | with_reducible refine State.emit_frame ?_ ?_
    | with_reducible refine State.passTo_frame ?_ ?_ | split | (lift_lets; intros) | with_reducible refine Frame.set_trdp ?_ ?_

theorem State.requestDirectory_frame {w : Nat} {b s : State} (hw : Part.within (Part.trdp ||| Part.outs) w = true) (h : Frame w b s) :
    Frame w b (State.requestDirectory s) := by
  unfold State.requestDirectory
  repeat' first
    | with_reducible assumption | exact Part.within_trans (by decide) hw | with_reducible refine Frame.ite ?_ ?_
    | with_reducible refine when_frame (fun _ _ => ?_) ?_ | with_reducible refine State.emit_frame ?_ ?_ | split | (lift_lets; intros)
    | with_reducible refine Frame.set_trdp ?_ ?_

theorem State.ttdbAnnounce_frame {w : Nat} {b s : State} {etb op} (hw : Part.within (Part.trdp ||| Part.outs) w = true) (h : Frame w b s)
    :
    Frame w b (State.ttdbAnnounce s etb op) := by
  unfold State.ttdbAnnounce
  repeat' first
    | with_reducible assumption | exact Part.within_trans (by decide) hw | with_reducible refine Frame.ite ?_ ?_
    | with_reducible refine when_frame (fun _ _ => ?_) ?_ | with_reducible refine State.requestDirectory_frame ?_ ?_ | split
    | (lift_lets; intros) | with_reducible refine Frame.set_trdp ?_ ?_

theorem State.directoryFail_frame {w : Nat} {b s : State} (hw : Part.within (Part.bk ||| Part.rcd ||| Part.cnt ||| Part.time |||
    Part.trdp ||| Part.outs) w = true) (h : Frame w b s) :
    Frame w b (State.directoryFail s) := by
  unfold State.directoryFail
  repeat' first
    | with_reducible assumption | exact Part.within_trans (by decide) hw | with_reducible refine Frame.ite ?_ ?_
    | with_reducible refine when_frame (fun _ _ => ?_) ?_ | with_reducible refine State.emit_frame ?_ ?_
    | with_reducible refine State.raise_frame ?_ ?_ | with_reducible refine State.passTo_frame ?_ ?_ | split | (lift_lets; intros)
    | with_reducible refine Frame.set_trdp ?_ ?_

theorem State.setStream_frame {w : Nat} {b s : State} {v} (hw : Part.within Part.trdp w = true) (h : Frame w b s) :
    Frame w b (State.setStream s v) := by
  unfold State.setStream
  repeat' first
    | with_reducible assumption | exact Part.within_trans (by decide) hw | with_reducible refine Frame.ite ?_ ?_ | split
    | (lift_lets; intros) | with_reducible refine Frame.set_trdp ?_ ?_

theorem State.dropStream_frame {w : Nat} {b s : State} {t cause} (hw : Part.within (Part.rcd ||| Part.cnt ||| Part.trdp ||| Part.twin |||
    Part.outs) w = true) (h : Frame w b s) :
    Frame w b (State.dropStream s t cause) := by
  unfold State.dropStream
  repeat' first
    | with_reducible assumption | exact Part.within_trans (by decide) hw | with_reducible refine Frame.ite ?_ ?_
    | with_reducible refine State.mirror_frame ?_ ?_ | with_reducible refine State.raise_frame ?_ ?_ | split | (lift_lets; intros)
    | with_reducible refine Frame.set_trdp ?_ ?_

theorem State.closeStream_frame {w : Nat} {b s : State} {t cause} (hw : Part.within (Part.rcd ||| Part.cnt ||| Part.trdp ||| Part.twin
    ||| Part.outs) w = true) (h : Frame w b s) :
    Frame w b (State.closeStream s t cause) := by
  unfold State.closeStream
  repeat' first
    | with_reducible assumption | exact Part.within_trans (by decide) hw | with_reducible refine Frame.ite ?_ ?_
    | with_reducible refine State.sendTelegram_frame ?_ ?_ | with_reducible refine State.dropStream_frame ?_ ?_

theorem State.addStream_frame {w : Nat} {b s : State} {t} (hw : Part.within (Part.rcd ||| Part.cnt ||| Part.trdp ||| Part.twin |||
    Part.outs) w = true) (h : Frame w b s) :
    Frame w b (State.addStream s t) := by
  unfold State.addStream
  repeat' first
    | with_reducible assumption | exact Part.within_trans (by decide) hw | with_reducible refine Frame.ite ?_ ?_
    | with_reducible refine State.mirror_frame ?_ ?_ | with_reducible refine State.raise_frame ?_ ?_ | split | (lift_lets; intros)
    | with_reducible refine Frame.set_trdp ?_ ?_

theorem State.streamRx_frame {w : Nat} {b s : State} {t kind} (hw : Part.within (Part.rcd ||| Part.cnt ||| Part.trdp) w = true) (h :
    Frame w b s) :
    Frame w b (State.streamRx s t kind).1 := by
  unfold State.streamRx
  repeat' first
    | with_reducible assumption | exact Part.within_trans (by decide) hw | with_reducible refine Frame.ite ?_ ?_
    | with_reducible refine State.unknownSource_frame ?_ ?_ | with_reducible refine State.trdpOversize_frame ?_ ?_
    | with_reducible refine State.trdpRx_frame ?_ ?_ | split | (lift_lets; intros)

theorem State.streamOpen_frame {w : Nat} {b s : State} {t} (hw : Part.within (Part.rcd ||| Part.cnt ||| Part.trdp ||| Part.twin |||
    Part.outs) w = true) (h : Frame w b s) :
    Frame w b (State.streamOpen s t) := by
  unfold State.streamOpen
  repeat' first
    | with_reducible assumption | exact Part.within_trans (by decide) hw | with_reducible refine Frame.ite ?_ ?_
    | with_reducible refine State.addStream_frame ?_ ?_ | with_reducible refine State.sendTelegram_frame ?_ ?_
    | with_reducible refine State.admitPartner_frame ?_ ?_ | with_reducible refine State.streamRx_frame ?_ ?_ | split
    | (lift_lets; intros)

theorem State.deliverRun_frame {w : Nat} {b : State} (hw : Part.within (Part.cnt ||| Part.outs) w = true) :
    ∀ {k : Nat} {s : State} {t : Stream}, Frame w b s → Frame w b (State.deliverRun k s t).1 := by
  intro k
  induction k with
  | zero => intro s t h; exact h
  | succ k ih =>
    intro s t h
    unfold State.deliverRun
    split
    · exact h
    · exact ih (State.emit_frame (Part.within_trans (by decide) hw) (State.count_frame (Part.within_trans (by decide) hw) h))

theorem State.streamData_frame {w : Nat} {b s : State} {t} (hw : Part.within (Part.rcd ||| Part.cnt ||| Part.trdp ||| Part.twin |||
    Part.outs) w = true) (h : Frame w b s) :
    Frame w b (State.streamData s t) := by
  unfold State.streamData
  repeat' first
    | with_reducible assumption | exact Part.within_trans (by decide) hw | with_reducible refine Frame.ite ?_ ?_
    | with_reducible refine State.mirror_frame ?_ ?_ | with_reducible refine State.deliverRun_frame ?_ ?_
    | with_reducible refine State.setStream_frame ?_ ?_ | with_reducible refine State.streamRx_frame ?_ ?_ | split | (lift_lets; intros)

theorem State.streamAckSend_frame {w : Nat} {b s : State} {k} (hw : Part.within (Part.cnt ||| Part.trdp ||| Part.twin ||| Part.outs) w =
    true) (h : Frame w b s) :
    Frame w b (State.streamAckSend s k) := by
  unfold State.streamAckSend
  repeat' first
    | with_reducible assumption | exact Part.within_trans (by decide) hw | with_reducible refine Frame.ite ?_ ?_
    | with_reducible refine when_frame (fun _ _ => ?_) ?_ | with_reducible refine State.sendTelegram_frame ?_ ?_
    | with_reducible refine State.setStream_frame ?_ ?_ | with_reducible refine State.mirrorHold_frame ?_ ?_ ?_ | split

theorem State.streamAck_frame {w : Nat} {b s : State} {t} (hw : Part.within (Part.rcd ||| Part.cnt ||| Part.trdp ||| Part.twin |||
    Part.outs) w = true) (h : Frame w b s) :
    Frame w b (State.streamAck s t) := by
  unfold State.streamAck
  repeat' first
    | with_reducible assumption | exact Part.within_trans (by decide) hw | with_reducible refine Frame.ite ?_ ?_
    | with_reducible refine State.closeStream_frame ?_ ?_ | with_reducible refine State.setStream_frame ?_ ?_
    | with_reducible refine State.streamRx_frame ?_ ?_ | split | (lift_lets; intros)

theorem State.streamClose_frame {w : Nat} {b s : State} {t} (hw : Part.within (Part.rcd ||| Part.cnt ||| Part.trdp ||| Part.twin |||
    Part.outs) w = true) (h : Frame w b s) :
    Frame w b (State.streamClose s t) := by
  unfold State.streamClose
  repeat' first
    | with_reducible assumption | exact Part.within_trans (by decide) hw | with_reducible refine Frame.ite ?_ ?_
    | with_reducible refine State.dropStream_frame ?_ ?_ | with_reducible refine State.streamRx_frame ?_ ?_ | split
    | (lift_lets; intros)

theorem State.streamRetransmit_frame {w : Nat} {b s : State} {k} (hw : Part.within (Part.bk ||| Part.rcd ||| Part.cnt ||| Part.time |||
    Part.trdp ||| Part.twin ||| Part.outs) w = true) (h : Frame w b s) :
    Frame w b (State.streamRetransmit s k) := by
  unfold State.streamRetransmit
  repeat' first
    | with_reducible assumption | exact Part.within_trans (by decide) hw | with_reducible refine Frame.ite ?_ ?_
    | with_reducible refine State.setStream_frame ?_ ?_ | with_reducible refine State.count_frame ?_ ?_
    | with_reducible refine State.sendTelegram_frame ?_ ?_ | with_reducible refine State.closeStream_frame ?_ ?_
    | with_reducible refine State.passTo_frame ?_ ?_ | split

theorem State.streamGap_frame {w : Nat} {b s : State} {k} (hw : Part.within (Part.bk ||| Part.rcd ||| Part.cnt ||| Part.time |||
    Part.trdp ||| Part.twin ||| Part.outs) w = true) (h : Frame w b s) :
    Frame w b (State.streamGap s k) := by
  unfold State.streamGap
  repeat' first
    | with_reducible assumption | exact Part.within_trans (by decide) hw | with_reducible refine Frame.ite ?_ ?_
    | with_reducible refine State.passTo_frame ?_ ?_ | with_reducible refine State.closeStream_frame ?_ ?_ | split

end Sys2Proof.Machine
end

