-- ==== Sys2Proof/Laws/FrameStl.lean ====
section
/-!
SUPPORT. Sys2Proof/Laws/FrameStl.lean: the frame of each operation of Machine/Stl.lean.
-/
set_option Elab.async false
namespace Sys2Proof.Machine
open Sys2Proof

theorem State.noteSent_frame {w : Nat} {b s : State} {c seq} (hw : Part.within Part.conns w = true) (h : Frame w b s) :
    Frame w b (State.noteSent s c seq) := by
  unfold State.noteSent
  repeat' first
    | with_reducible assumption | exact Part.within_trans (by decide) hw | with_reducible refine Frame.ite ?_ ?_
    | with_reducible refine State.modConn_frame ?_ ?_

theorem State.stlOut_frame {w : Nat} {b s : State} {c off msg} (hw : Part.within (Part.cnt ||| Part.twin ||| Part.outs) w = true) (h :
    Frame w b s) :
    Frame w b (State.stlOut s c off msg) := by
  unfold State.stlOut
  repeat' first
    | with_reducible assumption | exact Part.within_trans (by decide) hw | with_reducible refine Frame.ite ?_ ?_
    | with_reducible refine State.sendTelegram_frame ?_ ?_ | with_reducible refine State.mirrorHold_frame ?_ ?_ ?_

theorem State.stlSend_frame {w : Nat} {b s : State} {c off type payload} (hw : Part.within (Part.cnt ||| Part.conns ||| Part.twin |||
    Part.outs) w = true) (h : Frame w b s) :
    Frame w b (State.stlSend s c off type payload) := by
  unfold State.stlSend
  repeat' first
    | with_reducible assumption | exact Part.within_trans (by decide) hw | with_reducible refine Frame.ite ?_ ?_
    | with_reducible refine State.modConn_frame ?_ ?_ | with_reducible refine State.noteSent_frame ?_ ?_
    | with_reducible refine State.stlOut_frame ?_ ?_

theorem State.sendResult_frame {w : Nat} {b s : State} {c counter code detail} (hw : Part.within (Part.cnt ||| Part.conns ||| Part.twin
    ||| Part.outs) w = true) (h : Frame w b s) :
    Frame w b (State.sendResult s c counter code detail) := by
  unfold State.sendResult
  repeat' first
    | with_reducible assumption | exact Part.within_trans (by decide) hw | with_reducible refine Frame.ite ?_ ?_
    | with_reducible refine when_frame (fun _ _ => ?_) ?_ | with_reducible refine State.stlSend_frame ?_ ?_

theorem State.nonce_frame {w : Nat} {b s : State} {r} (hw : Part.within Part.free w = true) (e : s.nonce = some r) (h : Frame w b s) :
    Frame w b r.2 := by
  unfold State.nonce at e
  split at e
  · cases e
  · cases e
    exact State.random_frame hw h

theorem State.connClosed_frame {w : Nat} {b s : State} {c cause} (hw : Part.within (Part.sc ||| Part.rcd ||| Part.cnt ||| Part.conns |||
    Part.twin ||| Part.outs) w = true) (h : Frame w b s) :
    Frame w b (State.connClosed s c cause) := by
  unfold State.connClosed
  repeat' first
    | with_reducible assumption | exact Part.within_trans (by decide) hw | with_reducible refine Frame.ite ?_ ?_
    | with_reducible refine State.setConn_frame ?_ ?_ | with_reducible refine State.raise_frame ?_ ?_
    | with_reducible refine State.mirror_frame ?_ ?_ | with_reducible refine State.endSessions_frame ?_ ?_

theorem State.closeConn_frame {w : Nat} {b s : State} {c cause} (hw : Part.within (Part.sc ||| Part.rcd ||| Part.cnt ||| Part.conns |||
    Part.twin ||| Part.outs) w = true) (h : Frame w b s) :
    Frame w b (State.closeConn s c cause) := by
  unfold State.closeConn
  repeat' first
    | with_reducible assumption | exact Part.within_trans (by decide) hw | with_reducible refine Frame.ite ?_ ?_
    | with_reducible refine State.connClosed_frame ?_ ?_ | with_reducible refine State.stlSend_frame ?_ ?_

theorem State.startOpening_frame {w : Nat} {b s : State} {c} (hw : Part.within (Part.conns ||| Part.free) w = true) (h : Frame w b s) :
    Frame w b (State.startOpening s c) := by
  unfold State.startOpening
  split
  · exact h
  · rename_i r e
    exact State.modConn_frame (Part.within_trans (by decide) hw) (State.nonce_frame (Part.within_trans (by decide) hw) e h)

theorem State.sendOpenReq_frame {w : Nat} {b s : State} {c} (hw : Part.within (Part.cnt ||| Part.conns ||| Part.outs) w = true) (h :
    Frame w b s) :
    Frame w b (State.sendOpenReq s c) := by
  unfold State.sendOpenReq
  repeat' first
    | with_reducible assumption | exact Part.within_trans (by decide) hw | with_reducible refine Frame.ite ?_ ?_
    | with_reducible refine State.noteSent_frame ?_ ?_ | with_reducible refine State.sendTelegram_frame ?_ ?_ | split

theorem State.connOpened_frame {w : Nat} {b s : State} {c ss} (hw : Part.within (Part.rcd ||| Part.cnt ||| Part.conns) w = true) (h :
    Frame w b s) :
    Frame w b (State.connOpened s c ss) := by
  unfold State.connOpened
  repeat' first
    | with_reducible assumption | exact Part.within_trans (by decide) hw | with_reducible refine Frame.ite ?_ ?_
    | with_reducible refine State.modConn_frame ?_ ?_ | with_reducible refine State.raise_frame ?_ ?_

theorem State.stlReject_frame {w : Nat} {b s : State} {conn cause} (hw : Part.within (Part.rcd ||| Part.cnt ||| Part.conns) w = true) (h
    : Frame w b s) :
    Frame w b (State.stlReject s conn cause) := by
  unfold State.stlReject
  repeat' first
    | with_reducible assumption | exact Part.within_trans (by decide) hw | with_reducible refine Frame.ite ?_ ?_
    | with_reducible refine State.modConn_frame ?_ ?_ | with_reducible refine State.count_frame ?_ ?_
    | with_reducible refine State.raiseRated_frame ?_ ?_ | split

theorem State.noteAccepted_frame {w : Nat} {b s : State} {c m feedback} (hw : Part.within (Part.cnt ||| Part.conns) w = true) (h : Frame
    w b s) :
    Frame w b (State.noteAccepted s c m feedback) := by
  unfold State.noteAccepted
  repeat' first
    | with_reducible assumption | exact Part.within_trans (by decide) hw | with_reducible refine Frame.ite ?_ ?_
    | with_reducible refine State.modConn_frame ?_ ?_ | with_reducible refine State.count_frame ?_ ?_

theorem State.stlCheck_frame {w : Nat} {b s : State} {t ty} (hw : Part.within (Part.rcd ||| Part.cnt ||| Part.trdp ||| Part.conns) w =
    true) (h : Frame w b s) :
    Frame w b (State.stlCheck s t ty).1 := by
  unfold State.stlCheck
  have h1 : Frame w b (s.trdpRx t).1 := State.trdpRx_frame (Part.within_trans (by decide) hw) h
  dsimp only
  repeat' first
    | with_reducible assumption | exact Part.within_trans (by decide) hw | with_reducible refine Frame.ite ?_ ?_
    | with_reducible refine State.stlReject_frame ?_ ?_ | with_reducible refine State.trdpOversize_frame ?_ ?_
    | with_reducible refine State.raise_frame ?_ ?_ | with_reducible refine State.count_frame ?_ ?_
    | with_reducible refine State.unknownSource_frame ?_ ?_ | with_reducible refine State.admitPartner_frame ?_ ?_
    | with_reducible refine State.modConn_frame ?_ ?_ | with_reducible refine State.noteAccepted_frame ?_ ?_ | split

theorem State.stlOpenReq_frame {w : Nat} {b s : State} {t} (hw : Part.within (Part.rcd ||| Part.cnt ||| Part.trdp ||| Part.conns |||
    Part.twin ||| Part.outs ||| Part.free) w = true) (h : Frame w b s) :
    Frame w b (State.stlOpenReq s t) := by
  unfold State.stlOpenReq
  have h1 : Frame w b (s.stlCheck t 1).1 := State.stlCheck_frame (Part.within_trans (by decide) hw) h
  dsimp only
  split
  · exact h1
  · rename_i c m _
    generalize e : (s.stlCheck t 1).1.modConn c _ = s1
    have h2 : Frame w b s1 := by
      rw [← e]
      exact State.modConn_frame (Part.within_trans (by decide) hw) h1
    split
    · rename_i e2 _
      have h3 := State.nonce_frame (w := w) (Part.within_trans (by decide) hw) e2 h2
      exact Frame.ite h3 (State.stlOut_frame (Part.within_trans (by decide) hw) (State.noteSent_frame (Part.within_trans (by decide) hw)
    (State.connOpened_frame (Part.within_trans (by decide) hw) h3)))
    · exact h2

theorem State.stlOpenAck_frame {w : Nat} {b s : State} {t} (hw : Part.within (Part.rcd ||| Part.cnt ||| Part.trdp ||| Part.conns |||
    Part.twin ||| Part.outs ||| Part.free) w = true) (h : Frame w b s) :
    Frame w b (State.stlOpenAck s t) := by
  unfold State.stlOpenAck
  repeat' first
    | with_reducible assumption | exact Part.within_trans (by decide) hw | with_reducible refine Frame.ite ?_ ?_
    | with_reducible refine State.connOpened_frame ?_ ?_ | with_reducible refine State.mirror_frame ?_ ?_
    | with_reducible refine State.startOpening_frame ?_ ?_ | with_reducible refine State.stlCheck_frame ?_ ?_ | split
    | (lift_lets; intros)

theorem State.stlRekeyReq_frame {w : Nat} {b s : State} {t} (hw : Part.within (Part.rcd ||| Part.cnt ||| Part.trdp ||| Part.conns) w =
    true) (h : Frame w b s) :
    Frame w b (State.stlRekeyReq s t) := by
  unfold State.stlRekeyReq
  have h1 : Frame w b (s.stlCheck t 4).1 := State.stlCheck_frame (Part.within_trans (by decide) hw) h
  dsimp only
  split
  · exact h1
  · exact Frame.ite h1 (Frame.ite (State.setConn_frame (Part.within_trans (by decide) hw) h1) (State.raise_frame (Part.within_trans (by
    decide) hw) (State.setConn_frame (Part.within_trans (by decide) hw) h1)))

theorem State.stlRekeyAck_frame {w : Nat} {b s : State} {t} (hw : Part.within (Part.rcd ||| Part.cnt ||| Part.trdp ||| Part.conns) w =
    true) (h : Frame w b s) :
    Frame w b (State.stlRekeyAck s t) := by
  unfold State.stlRekeyAck
  have h1 : Frame w b (s.stlCheck t 5).1 := State.stlCheck_frame (Part.within_trans (by decide) hw) h
  dsimp only
  split
  · exact h1
  · split
    · exact Frame.ite (Frame.ite (State.setConn_frame (Part.within_trans (by decide) hw) h1)
        (State.setConn_frame (Part.within_trans (by decide) hw) h1)) h1
    · exact h1

theorem State.stlClose_frame {w : Nat} {b s : State} {t} (hw : Part.within (Part.sc ||| Part.rcd ||| Part.cnt ||| Part.trdp |||
    Part.conns ||| Part.twin ||| Part.outs) w = true) (h : Frame w b s) :
    Frame w b (State.stlClose s t) := by
  unfold State.stlClose
  repeat' first
    | with_reducible assumption | exact Part.within_trans (by decide) hw | with_reducible refine Frame.ite ?_ ?_
    | with_reducible refine State.connClosed_frame ?_ ?_ | with_reducible refine State.stlCheck_frame ?_ ?_ | split
    | (lift_lets; intros)

theorem State.cycleMessage_frame {w : Nat} {b s : State} {c} (hw : Part.within (Part.sc ||| Part.rcd ||| Part.cnt ||| Part.conns |||
    Part.twin ||| Part.outs ||| Part.free) w = true) (h : Frame w b s) :
    Frame w b (State.cycleMessage s c) := by
  unfold State.cycleMessage
  have hd (x) : Frame w b (s.stlSend c 10 3 x) := State.stlSend_frame (Part.within_trans (by decide) hw) h
  dsimp only
  refine Frame.ite (State.connClosed_frame (Part.within_trans (by decide) hw) h) (Frame.ite ?_ (Frame.ite ?_ (hd _)))
  · split
    · rename_i e _
      have h2 (v) := State.stlSend_frame (c := c) (off := 10) (type := 5) (payload := v) (Part.within_trans (by decide) hw)
        (State.nonce_frame (Part.within_trans (by decide) hw) e h)
      exact Frame.ite (State.modConn_frame (Part.within_trans (by decide) hw) (h2 _)) (State.modConn_frame (Part.within_trans (by decide) hw) (h2 _))
    · exact hd _
  · split
    · rename_i e
      exact State.raise_frame (Part.within_trans (by decide) hw) (State.modConn_frame (Part.within_trans (by decide) hw)
    (State.stlSend_frame (Part.within_trans (by decide) hw) (State.nonce_frame (Part.within_trans (by decide) hw) e h)))
    · exact hd _

theorem State.stlCycle_frame {w : Nat} {b s : State} {c} (hw : Part.within (Part.bk ||| Part.sc ||| Part.rcd ||| Part.cnt ||| Part.time
    ||| Part.conns ||| Part.twin ||| Part.outs ||| Part.free) w = true) (h : Frame w b s) :
    Frame w b (State.stlCycle s c) := by
  unfold State.stlCycle
  repeat' first
    | with_reducible assumption | exact Part.within_trans (by decide) hw | with_reducible refine Frame.ite ?_ ?_
    | with_reducible refine when_frame (fun _ _ => ?_) ?_ | with_reducible refine State.cycleMessage_frame ?_ ?_
    | with_reducible refine State.sendOpenReq_frame ?_ ?_ | with_reducible refine State.startOpening_frame ?_ ?_
    | with_reducible refine State.passTo_frame ?_ ?_ | split | (lift_lets; intros)

theorem State.connFailed_frame {w : Nat} {b s : State} {c} (hw : Part.within (Part.sc ||| Part.rcd ||| Part.cnt ||| Part.seq |||
    Part.conns ||| Part.twin ||| Part.outs ||| Part.actions) w = true) (h : Frame w b s) :
    Frame w b (State.connFailed s c) := by
  unfold State.connFailed
  repeat' first
    | with_reducible assumption | exact Part.within_trans (by decide) hw | with_reducible refine Frame.ite ?_ ?_
    | with_reducible refine forEach_frame (fun _ _ _ => ?_) _ ?_ | with_reducible refine State.endSessions_frame ?_ ?_
    | with_reducible refine State.mirror_frame ?_ ?_ | with_reducible refine State.freeSlot_frame ?_ ?_
    | with_reducible refine State.modConn_frame ?_ ?_ | with_reducible refine State.raise_frame ?_ ?_

theorem State.stlTimeout_frame {w : Nat} {b s : State} {c} (hw : Part.within (Part.bk ||| Part.sc ||| Part.rcd ||| Part.cnt ||| Part.time
    ||| Part.seq ||| Part.conns ||| Part.twin ||| Part.outs ||| Part.actions) w = true) (h : Frame w b s) :
    Frame w b (State.stlTimeout s c) := by
  unfold State.stlTimeout
  repeat' first
    | with_reducible assumption | exact Part.within_trans (by decide) hw | with_reducible refine Frame.ite ?_ ?_
    | with_reducible refine when_frame (fun _ _ => ?_) ?_ | with_reducible refine State.passTo_frame ?_ ?_
    | with_reducible refine State.connFailed_frame ?_ ?_ | split

theorem State.stlRetry_frame {w : Nat} {b s : State} {c} (hw : Part.within (Part.bk ||| Part.time ||| Part.conns ||| Part.free) w = true)
    (h : Frame w b s) :
    Frame w b (State.stlRetry s c) := by
  unfold State.stlRetry
  repeat' first
    | with_reducible assumption | exact Part.within_trans (by decide) hw | with_reducible refine Frame.ite ?_ ?_
    | with_reducible refine when_frame (fun _ _ => ?_) ?_ | with_reducible refine State.startOpening_frame ?_ ?_
    | with_reducible refine State.modConn_frame ?_ ?_ | with_reducible refine State.passTo_frame ?_ ?_

theorem State.stlCmd_frame {w : Nat} {b s : State} {c cmd} (hw : Part.within (Part.sc ||| Part.rcd ||| Part.cnt ||| Part.conns |||
    Part.twin ||| Part.outs ||| Part.free) w = true) (h : Frame w b s) :
    Frame w b (State.stlCmd s c cmd) := by
  unfold State.stlCmd
  repeat' first
    | with_reducible assumption | exact Part.within_trans (by decide) hw | with_reducible refine Frame.ite ?_ ?_
    | with_reducible refine State.closeConn_frame ?_ ?_ | with_reducible refine State.startOpening_frame ?_ ?_

theorem State.topologyChanged_frame {w : Nat} {b s : State} (hw : Part.within (Part.sc ||| Part.rcd ||| Part.cnt ||| Part.time |||
    Part.seq ||| Part.trdp ||| Part.conns ||| Part.twin ||| Part.outs ||| Part.actions) w = true) (h : Frame w b s) :
    Frame w b (State.topologyChanged s) := by
  unfold State.topologyChanged
  repeat' first
    | with_reducible assumption | exact Part.within_trans (by decide) hw | with_reducible refine Frame.ite ?_ ?_
    | with_reducible refine forEach_frame (fun _ _ _ => ?_) _ ?_ | with_reducible refine State.pathChange_frame ?_ ?_
    | with_reducible refine State.releasePartner_frame ?_ ?_ | with_reducible refine State.closeConn_frame ?_ ?_

theorem State.directory_frame {w : Nat} {b s : State} {etb op veh cst} (hw : Part.within (Part.sc ||| Part.rcd ||| Part.cnt ||| Part.time
    ||| Part.seq ||| Part.trdp ||| Part.conns ||| Part.twin ||| Part.outs ||| Part.actions) w = true) (h : Frame w b s) :
    Frame w b (State.directory s etb op veh cst) := by
  unfold State.directory
  repeat' first
    | with_reducible assumption | exact Part.within_trans (by decide) hw | with_reducible refine Frame.ite ?_ ?_
    | with_reducible refine when_frame (fun _ _ => ?_) ?_ | with_reducible refine State.topologyChanged_frame ?_ ?_
    | with_reducible refine State.raise_frame ?_ ?_ | split | (lift_lets; intros) | with_reducible refine Frame.set_trdp ?_ ?_

end Sys2Proof.Machine
end

