-- ==== Sys2Proof/Laws/FrameRecorder.lean ====
section
/-!
SUPPORT. Sys2Proof/Laws/FrameRecorder.lean: the frame of each operation of Machine/Recorder.lean.
-/
set_option Elab.async false
namespace Sys2Proof.Machine
open Sys2Proof

theorem State.writeSignatures_frame {w : Nat} {b s : State} {n} (hw : Part.within (Part.rcd ||| Part.cnt ||| Part.obs ||| Part.twin |||
    Part.mem ||| Part.outs) w = true) (h : Frame w b s) :
    Frame w b (State.writeSignatures s n) := by
  unfold State.writeSignatures
  repeat' first
    | with_reducible assumption | exact Part.within_trans (by decide) hw | with_reducible refine Frame.ite ?_ ?_
    | with_reducible refine forEach_frame (fun _ _ _ => ?_) _ ?_
    | with_reducible refine State.raise_frame ?_ ?_ | with_reducible refine State.setMem_frame ?_ ?_
    | with_reducible refine State.modOb_frame ?_ ?_ | with_reducible refine State.mirrorObs_frame ?_ ?_ | exact id | exact fun _ => rfl
    | exact fun _ _ => rfl | exact fun _ => ⟨rfl, rfl⟩ | exact fun _ => ⟨rfl, rfl, rfl⟩ | exact fun k => Part.out_absurd hw (by decide) k
    | split | (lift_lets; intros) | with_reducible refine Frame.set_rcd ?_ ?_

theorem State.eventIntake_frame {w : Nat} {b s : State} {code inst vals} (hw : Part.within (Part.rcd ||| Part.cnt) w = true) (h : Frame w
    b s) :
    Frame w b (State.eventIntake s code inst vals) := by
  unfold State.eventIntake
  repeat' first
    | with_reducible assumption | exact Part.within_trans (by decide) hw | with_reducible refine Frame.ite ?_ ?_
    | with_reducible refine when_frame (fun _ _ => ?_) ?_ | with_reducible refine State.raise_frame ?_ ?_
    | with_reducible refine State.raiseBody_frame ?_ ?_

theorem State.lastWordFill_frame {w : Nat} {b s : State} (hw : Part.within Part.bk w = true) (h : Frame w b s) :
    Frame w b (State.lastWordFill s) := by
  unfold State.lastWordFill
  repeat' first
    | with_reducible assumption | exact Part.within_trans (by decide) hw | with_reducible refine Frame.ite ?_ ?_ | split
    | (lift_lets; intros) | with_reducible refine Frame.set_bk ?_ ?_

theorem State.sealWrite_frame {w : Nat} {b s : State} {b' ok} (hw : Part.within (Part.bk ||| Part.rcd ||| Part.cnt) w = true) (h : Frame
    w b s) :
    Frame w b (State.sealWrite s b' ok) := by
  unfold State.sealWrite
  repeat' first
    | with_reducible assumption | exact Part.within_trans (by decide) hw | with_reducible refine Frame.ite ?_ ?_
    | with_reducible refine State.raise_frame ?_ ?_ | with_reducible refine State.lastWordFill_frame ?_ ?_ | split | (lift_lets; intros)
    | with_reducible refine Frame.set_rcd ?_ ?_

theorem State.degrade_frame {w : Nat} {b s : State} {cause part offset acc} (hw : Part.within (Part.rcd ||| Part.cnt) w = true) (h :
    Frame w b s) :
    Frame w b (State.degrade s cause part offset acc) := by
  unfold State.degrade
  repeat' first
    | with_reducible assumption | exact Part.within_trans (by decide) hw | with_reducible refine Frame.ite ?_ ?_
    | with_reducible refine State.raise_frame ?_ ?_ | split | (lift_lets; intros) | with_reducible refine Frame.set_rcd ?_ ?_

theorem State.lwClear_frame {w : Nat} {b s : State} (hw : Part.within Part.bk w = true) (h : Frame w b s) :
    Frame w b (State.lwClear s) := by
  unfold State.lwClear
  repeat' first
    | with_reducible assumption | exact Part.within_trans (by decide) hw | with_reducible refine Frame.ite ?_ ?_ | split
    | (lift_lets; intros) | with_reducible refine Frame.set_bk ?_ ?_

theorem State.markFor_frame {w : Nat} {b s : State} {acc} (hw : Part.within (Part.rcd ||| Part.mem) w = true) (h : Frame w b s) :
    Frame w b (State.markFor s acc) := by
  unfold State.markFor
  repeat' first
    | with_reducible assumption | exact Part.within_trans (by decide) hw | with_reducible refine Frame.ite ?_ ?_
    | with_reducible refine State.saveNum_frame ?_ ?_ | split | (lift_lets; intros) | with_reducible refine Frame.set_rcd ?_ ?_

theorem State.loseRecord_frame {w : Nat} {b s : State} {n cause} (hw : Part.within Part.rcd w = true) (h : Frame w b s) :
    Frame w b (State.loseRecord s n cause) := by
  unfold State.loseRecord
  repeat' first
    | with_reducible assumption | exact Part.within_trans (by decide) hw | with_reducible refine Frame.ite ?_ ?_ | exact id
    | exact fun _ => rfl | exact fun _ _ => rfl | exact fun _ => ⟨rfl, rfl⟩ | exact fun _ => ⟨rfl, rfl, rfl⟩
    | exact fun k => Part.out_absurd hw (by decide) k | split | (lift_lets; intros) | with_reducible refine Frame.set_rcd ?_ ?_

theorem State.folioLost_frame {w : Nat} {b s : State} (hw : Part.within (Part.rcd ||| Part.cnt) w = true) (h : Frame w b s) :
    Frame w b (State.folioLost s) := by
  unfold State.folioLost
  repeat' first
    | with_reducible assumption | exact Part.within_trans (by decide) hw | with_reducible refine Frame.ite ?_ ?_
    | with_reducible refine State.raise_frame ?_ ?_

theorem State.joinHoldQ_frame {w : Nat} {b s : State} {n} (hw : Part.within Part.rcd w = true) (h : Frame w b s) :
    Frame w b (State.joinHoldQ s n) := by
  unfold State.joinHoldQ
  repeat' first
    | with_reducible assumption | exact Part.within_trans (by decide) hw | with_reducible refine Frame.ite ?_ ?_ | exact id
    | exact fun _ => rfl | exact fun _ _ => rfl | exact fun _ => ⟨rfl, rfl⟩ | exact fun _ => ⟨rfl, rfl, rfl⟩
    | exact fun k => Part.out_absurd hw (by decide) k | split | (lift_lets; intros) | with_reducible refine Frame.set_rcd ?_ ?_

theorem State.placeNumbered_frame {w : Nat} {b s : State} {n} (hw : Part.within (Part.rcd ||| Part.cnt) w = true) (h : Frame w b s) :
    Frame w b (State.placeNumbered s n) := by
  unfold State.placeNumbered
  repeat' first
    | with_reducible assumption | exact Part.within_trans (by decide) hw | with_reducible refine Frame.ite ?_ ?_
    | with_reducible refine State.joinHoldQ_frame ?_ ?_ | with_reducible refine State.loseRecord_frame ?_ ?_
    | with_reducible refine State.folioLost_frame ?_ ?_ | exact id | exact fun _ => rfl | exact fun _ _ => rfl | exact fun _ => ⟨rfl, rfl⟩
    | exact fun _ => ⟨rfl, rfl, rfl⟩ | exact fun k => Part.out_absurd hw (by decide) k | split | (lift_lets; intros)
    | with_reducible refine Frame.set_rcd ?_ ?_

theorem State.numbered_frame {w : Nat} {b s : State} {n} (hw : Part.within (Part.rcd ||| Part.cnt ||| Part.obs ||| Part.twin |||
    Part.mem ||| Part.outs) w = true) (h : Frame w b s) :
    Frame w b (State.numbered s n) := by
  unfold State.numbered
  repeat' first
    | with_reducible assumption | exact Part.within_trans (by decide) hw | with_reducible refine Frame.ite ?_ ?_
    | with_reducible refine State.mirror_frame ?_ ?_ | with_reducible refine State.placeNumbered_frame ?_ ?_
    | with_reducible refine State.writeSignatures_frame ?_ ?_ | exact id | exact fun _ => rfl | exact fun _ _ => rfl
    | exact fun _ => ⟨rfl, rfl⟩ | exact fun _ => ⟨rfl, rfl, rfl⟩ | exact fun k => Part.out_absurd hw (by decide) k | split
    | (lift_lets; intros) | with_reducible refine Frame.set_twin ?_ ?_

theorem State.mateSend_frame {w : Nat} {b s : State} {kind body} (hw : Part.within (Part.twin ||| Part.outs) w = true) (h : Frame w b s) :
    Frame w b (State.mateSend s kind body) := by
  unfold State.mateSend
  repeat' first
    | with_reducible assumption | exact Part.within_trans (by decide) hw | with_reducible refine Frame.ite ?_ ?_
    | with_reducible refine State.emit_frame ?_ ?_ | split | (lift_lets; intros) | with_reducible refine Frame.set_twin ?_ ?_

theorem State.standbyForward_frame {w : Nat} {b s : State} (hw : Part.within (Part.rcd ||| Part.twin ||| Part.outs) w = true) (h : Frame
    w b s) :
    Frame w b (State.standbyForward s) := by
  unfold State.standbyForward
  repeat' first
    | with_reducible assumption | exact Part.within_trans (by decide) hw | with_reducible refine Frame.ite ?_ ?_
    | with_reducible refine State.mateSend_frame ?_ ?_ | split | (lift_lets; intros) | with_reducible refine Frame.set_rcd ?_ ?_

theorem State.allocate_frame {w : Nat} {b s : State} (hw : Part.within (Part.bk ||| Part.rcd ||| Part.cnt ||| Part.time ||| Part.obs |||
    Part.twin ||| Part.mem ||| Part.outs ||| Part.free) w = true) (h : Frame w b s) :
    Frame w b (State.allocate s) := by
  unfold State.allocate
  repeat' first
    | with_reducible assumption | exact Part.within_trans (by decide) hw | with_reducible refine Frame.ite ?_ ?_
    | with_reducible refine when_frame (fun _ _ => ?_) ?_ | with_reducible refine State.numbered_frame ?_ ?_
    | with_reducible refine State.markFor_frame ?_ ?_ | with_reducible refine State.passTo_frame ?_ ?_
    | with_reducible refine State.standbyForward_frame ?_ ?_ | split | (lift_lets; intros) | with_reducible refine Frame.set_rcd ?_ ?_

theorem State.repeated_frame {w : Nat} {b s : State} (hw : Part.within (Part.bk ||| Part.rcd ||| Part.cnt ||| Part.time) w = true) (h :
    Frame w b s) :
    Frame w b (State.repeated s) := by
  unfold State.repeated
  repeat' first
    | with_reducible assumption | exact Part.within_trans (by decide) hw | with_reducible refine Frame.ite ?_ ?_
    | with_reducible refine State.raise_frame ?_ ?_ | with_reducible refine State.passTo_frame ?_ ?_ | split | (lift_lets; intros)
    | with_reducible refine Frame.set_rcd ?_ ?_

theorem State.eventPub_frame {w : Nat} {b s : State} {recs att} (hw : Part.within (Part.cnt ||| Part.outs) w = true) (h : Frame w b s) :
    Frame w b (State.eventPub s recs att) := by
  unfold State.eventPub
  repeat' first
    | with_reducible assumption | exact Part.within_trans (by decide) hw | with_reducible refine Frame.ite ?_ ?_
    | with_reducible refine when_frame (fun _ _ => ?_) ?_ | with_reducible refine State.sendTelegram_frame ?_ ?_

theorem State.publish_frame {w : Nat} {b s : State} (hw : Part.within (Part.rcd ||| Part.cnt ||| Part.outs) w = true) (h : Frame w b s) :
    Frame w b (State.publish s) := by
  unfold State.publish
  repeat' first
    | with_reducible assumption | exact Part.within_trans (by decide) hw | with_reducible refine Frame.ite ?_ ?_
    | with_reducible refine State.eventPub_frame ?_ ?_ | split | (lift_lets; intros) | with_reducible refine Frame.set_rcd ?_ ?_

theorem State.pubStored_frame {w : Nat} {b s : State} {code b'} (hw : Part.within (Part.rcd ||| Part.cnt ||| Part.outs) w = true) (h :
    Frame w b s) :
    Frame w b (State.pubStored s code b') := by
  unfold State.pubStored
  repeat' first
    | with_reducible assumption | exact Part.within_trans (by decide) hw | with_reducible refine Frame.ite ?_ ?_
    | with_reducible refine State.eventPub_frame ?_ ?_ | split | (lift_lets; intros) | with_reducible refine Frame.set_rcd ?_ ?_

theorem State.captureStart_frame {w : Nat} {b s : State} {code acc} (hw : Part.within (Part.rcd ||| Part.cnt) w = true) (h : Frame w b s)
    :
    Frame w b (State.captureStart s code acc) := by
  unfold State.captureStart
  repeat' first
    | with_reducible assumption | exact Part.within_trans (by decide) hw | with_reducible refine Frame.ite ?_ ?_
    | with_reducible refine State.folioLost_frame ?_ ?_ | split | (lift_lets; intros) | with_reducible refine Frame.set_rcd ?_ ?_

theorem State.captureCmd_frame {w : Nat} {b s : State} (hw : Part.within (Part.rcd ||| Part.cnt) w = true) (h : Frame w b s) :
    Frame w b (State.captureCmd s) := by
  unfold State.captureCmd
  repeat' first
    | with_reducible assumption | exact Part.within_trans (by decide) hw | with_reducible refine Frame.ite ?_ ?_
    | with_reducible refine State.captureStart_frame ?_ ?_

theorem State.folioCaptured_frame {w : Nat} {b s : State} (hw : Part.within (Part.rcd ||| Part.cnt ||| Part.mem) w = true) (h : Frame w b
    s) :
    Frame w b (State.folioCaptured s) := by
  unfold State.folioCaptured
  repeat' first
    | with_reducible assumption | exact Part.within_trans (by decide) hw | with_reducible refine Frame.ite ?_ ?_
    | with_reducible refine State.raise_frame ?_ ?_ | with_reducible refine State.setMem_frame ?_ ?_
    | with_reducible refine State.folioLost_frame ?_ ?_ | split | (lift_lets; intros) | with_reducible refine Frame.set_rcd ?_ ?_

theorem State.folioKeep_frame {w : Nat} {b s : State} {f keep} (hw : Part.within Part.rcd w = true) (h : Frame w b s) :
    Frame w b (State.folioKeep s f keep) := by
  unfold State.folioKeep
  repeat' first
    | with_reducible assumption | exact Part.within_trans (by decide) hw | with_reducible refine Frame.ite ?_ ?_ | split
    | (lift_lets; intros) | with_reducible refine Frame.set_rcd ?_ ?_

theorem State.wasStored_frame {w : Nat} {b s : State} {n b'} (hw : Part.within (Part.rcd ||| Part.cnt ||| Part.obs ||| Part.twin |||
    Part.mem ||| Part.outs) w = true) (h : Frame w b s) :
    Frame w b (State.wasStored s n b') := by
  unfold State.wasStored
  repeat' first
    | with_reducible assumption | exact Part.within_trans (by decide) hw | with_reducible refine Frame.ite ?_ ?_
    | with_reducible refine State.count_frame ?_ ?_ | with_reducible refine State.captureStart_frame ?_ ?_
    | with_reducible refine State.pubStored_frame ?_ ?_ | with_reducible refine State.writeSignatures_frame ?_ ?_ | exact id
    | exact fun _ => rfl | exact fun _ _ => rfl | exact fun _ => ⟨rfl, rfl⟩ | exact fun _ => ⟨rfl, rfl, rfl⟩
    | exact fun k => Part.out_absurd hw (by decide) k | split | (lift_lets; intros) | with_reducible refine Frame.set_rcd ?_ ?_

theorem State.advanceSlot_frame {w : Nat} {b s : State} {n} (hw : Part.within (Part.rcd ||| Part.cnt) w = true) (h : Frame w b s) :
    Frame w b (State.advanceSlot s n) := by
  unfold State.advanceSlot
  repeat' first
    | with_reducible assumption | exact Part.within_trans (by decide) hw | with_reducible refine Frame.ite ?_ ?_
    | with_reducible refine State.raise_frame ?_ ?_ | split | (lift_lets; intros) | with_reducible refine Frame.set_rcd ?_ ?_

theorem State.storeGood_frame {w : Nat} {b s : State} {n} (hw : Part.within (Part.rcd ||| Part.cnt ||| Part.obs ||| Part.twin |||
    Part.mem ||| Part.outs) w = true) (h : Frame w b s) :
    Frame w b (State.storeGood s n) := by
  unfold State.storeGood
  repeat' first
    | with_reducible assumption | exact Part.within_trans (by decide) hw | with_reducible refine Frame.ite ?_ ?_
    | with_reducible refine State.setMem_frame ?_ ?_ | with_reducible refine State.advanceSlot_frame ?_ ?_
    | with_reducible refine State.wasStored_frame ?_ ?_ | split | (lift_lets; intros)

theorem State.storeDegraded_frame {w : Nat} {b s : State} {n ok} (hw : Part.within (Part.bk ||| Part.rcd ||| Part.cnt ||| Part.obs |||
    Part.twin ||| Part.mem ||| Part.outs) w = true) (h : Frame w b s) :
    Frame w b (State.storeDegraded s n ok) := by
  unfold State.storeDegraded
  repeat' first
    | with_reducible assumption | exact Part.within_trans (by decide) hw | with_reducible refine Frame.ite ?_ ?_
    | with_reducible refine State.sealWrite_frame ?_ ?_ | with_reducible refine State.wasStored_frame ?_ ?_ | exact id
    | exact fun _ => rfl | exact fun _ _ => rfl | exact fun _ => ⟨rfl, rfl⟩ | exact fun _ => ⟨rfl, rfl, rfl⟩
    | exact fun k => Part.out_absurd hw (by decide) k | split | (lift_lets; intros) | with_reducible refine Frame.set_rcd ?_ ?_

theorem State.recPut_frame {w : Nat} {b s : State} {n} (hw : Part.within (Part.bk ||| Part.rcd ||| Part.cnt ||| Part.obs ||| Part.twin
    ||| Part.mem ||| Part.outs) w = true) (h : Frame w b s) :
    Frame w b (State.recPut s n) := by
  unfold State.recPut
  repeat' first
    | with_reducible assumption | exact Part.within_trans (by decide) hw | with_reducible refine Frame.ite ?_ ?_
    | with_reducible refine State.storeDegraded_frame ?_ ?_ | with_reducible refine State.storeGood_frame ?_ ?_ | split
    | (lift_lets; intros)

theorem State.recStore_frame {w : Nat} {b s : State} {ok} (hw : Part.within (Part.bk ||| Part.rcd ||| Part.cnt ||| Part.obs |||
    Part.twin ||| Part.mem ||| Part.outs) w = true) (h : Frame w b s) :
    Frame w b (State.recStore s ok) := by
  unfold State.recStore
  repeat' first
    | with_reducible assumption | exact Part.within_trans (by decide) hw | with_reducible refine Frame.ite ?_ ?_
    | with_reducible refine State.storeDegraded_frame ?_ ?_ | with_reducible refine State.storeGood_frame ?_ ?_
    | with_reducible refine State.setMemByte_frame ?_ ?_ | exact id | exact fun _ => rfl | exact fun _ _ => rfl
    | exact fun _ => ⟨rfl, rfl⟩ | exact fun _ => ⟨rfl, rfl, rfl⟩ | exact fun k => Part.out_absurd hw (by decide) k | split
    | (lift_lets; intros) | with_reducible refine Frame.set_rcd ?_ ?_

theorem State.writeRetry_frame {w : Nat} {b s : State} {ok} (hw : Part.within (Part.bk ||| Part.rcd ||| Part.cnt ||| Part.time |||
    Part.obs ||| Part.twin ||| Part.mem ||| Part.outs) w = true) (h : Frame w b s) :
    Frame w b (State.writeRetry s ok) := by
  unfold State.writeRetry
  repeat' first
    | with_reducible assumption | exact Part.within_trans (by decide) hw | with_reducible refine Frame.ite ?_ ?_
    | with_reducible refine State.passTo_frame ?_ ?_ | with_reducible refine State.count_frame ?_ ?_
    | with_reducible refine State.storeGood_frame ?_ ?_ | with_reducible refine State.raise_frame ?_ ?_
    | with_reducible refine State.degrade_frame ?_ ?_ | with_reducible refine State.folioLost_frame ?_ ?_
    | with_reducible refine State.storeDegraded_frame ?_ ?_ | with_reducible refine State.writeSignatures_frame ?_ ?_ | exact id
    | exact fun _ => rfl | exact fun _ _ => rfl | exact fun _ => ⟨rfl, rfl⟩ | exact fun _ => ⟨rfl, rfl, rfl⟩
    | exact fun k => Part.out_absurd hw (by decide) k | split | (lift_lets; intros) | with_reducible refine Frame.set_rcd ?_ ?_

theorem State.recReject_frame {w : Nat} {b s : State} {cmd reason} (hw : Part.within (Part.rcd ||| Part.cnt) w = true) (h : Frame w b s) :
    Frame w b (State.recReject s cmd reason) := by
  unfold State.recReject
  repeat' first
    | with_reducible assumption | exact Part.within_trans (by decide) hw | with_reducible refine Frame.ite ?_ ?_
    | with_reducible refine State.raise_frame ?_ ?_

theorem State.holdSet_frame {w : Nat} {b s : State} {cmd byWindow} (hw : Part.within (Part.rcd ||| Part.cnt) w = true) (h : Frame w b s) :
    Frame w b (State.holdSet s cmd byWindow).1 := by
  unfold State.holdSet
  repeat' first
    | with_reducible assumption | exact Part.within_trans (by decide) hw | with_reducible refine Frame.ite ?_ ?_
    | with_reducible refine State.raise_frame ?_ ?_ | with_reducible refine State.recReject_frame ?_ ?_ | split | (lift_lets; intros)
    | with_reducible refine Frame.set_rcd ?_ ?_

theorem State.holdRelease_frame {w : Nat} {b s : State} (hw : Part.within (Part.rcd ||| Part.cnt) w = true) (h : Frame w b s) :
    Frame w b (State.holdRelease s) := by
  unfold State.holdRelease
  repeat' first
    | with_reducible assumption | exact Part.within_trans (by decide) hw | with_reducible refine Frame.ite ?_ ?_
    | with_reducible refine when_frame (fun _ _ => ?_) ?_ | with_reducible refine State.raise_frame ?_ ?_ | exact id | exact fun _ => rfl
    | exact fun _ _ => rfl | exact fun _ => ⟨rfl, rfl⟩ | exact fun _ => ⟨rfl, rfl, rfl⟩ | exact fun k => Part.out_absurd hw (by decide) k
    | split | (lift_lets; intros) | with_reducible refine Frame.set_rcd ?_ ?_

theorem State.limitHold_frame {w : Nat} {b s : State} (hw : Part.within (Part.bk ||| Part.rcd ||| Part.time) w = true) (h : Frame w b s) :
    Frame w b (State.limitHold s) := by
  unfold State.limitHold
  repeat' first
    | with_reducible assumption | exact Part.within_trans (by decide) hw | with_reducible refine Frame.ite ?_ ?_
    | with_reducible refine when_frame (fun _ _ => ?_) ?_ | with_reducible refine State.passTo_frame ?_ ?_ | split | (lift_lets; intros)
    | with_reducible refine Frame.set_rcd ?_ ?_

theorem State.drain_frame {w : Nat} {b s : State} (hw : Part.within (Part.bk ||| Part.rcd ||| Part.cnt ||| Part.obs ||| Part.twin |||
    Part.mem ||| Part.outs) w = true) (h : Frame w b s) :
    Frame w b (State.drain s) := by
  unfold State.drain
  repeat' first
    | with_reducible assumption | exact Part.within_trans (by decide) hw | with_reducible refine Frame.ite ?_ ?_
    | with_reducible refine when_frame (fun _ _ => ?_) ?_ | with_reducible refine forEach_frame (fun _ _ _ => ?_) _ ?_
    | with_reducible refine State.recPut_frame ?_ ?_ | exact id | exact fun _ => rfl
    | exact fun _ _ => rfl | exact fun _ => ⟨rfl, rfl⟩ | exact fun _ => ⟨rfl, rfl, rfl⟩ | exact fun k => Part.out_absurd hw (by decide) k
    | split | (lift_lets; intros) | with_reducible refine Frame.set_rcd ?_ ?_

theorem State.archive_frame {w : Nat} {b s : State} {cmd} (hw : Part.within (Part.rcd ||| Part.cnt) w = true) (h : Frame w b s) :
    Frame w b (State.archive s cmd).1 := by
  unfold State.archive
  repeat' first
    | with_reducible assumption | exact Part.within_trans (by decide) hw | with_reducible refine Frame.ite ?_ ?_
    | with_reducible refine State.raise_frame ?_ ?_ | with_reducible refine State.recReject_frame ?_ ?_ | split | (lift_lets; intros)
    | with_reducible refine Frame.set_rcd ?_ ?_

theorem State.clearCirc_frame {w : Nat} {b s : State} {cmd} (hw : Part.within (Part.rcd ||| Part.cnt) w = true) (h : Frame w b s) :
    Frame w b (State.clearCirc s cmd).1 := by
  unfold State.clearCirc
  repeat' first
    | with_reducible assumption | exact Part.within_trans (by decide) hw | with_reducible refine Frame.ite ?_ ?_
    | with_reducible refine State.recReject_frame ?_ ?_ | split | (lift_lets; intros) | with_reducible refine Frame.set_rcd ?_ ?_

theorem State.cleared__frame {w : Nat} {b s : State} (hw : Part.within (Part.rcd ||| Part.cnt ||| Part.mem) w = true) (h : Frame w b s) :
    Frame w b (State.cleared_ s) := by
  unfold State.cleared_
  split
  · exact h
  · exact State.raise_frame (Part.within_trans (by decide) hw) (Frame.set_rcd_mem (Part.within_trans (by decide) hw) (Table.wf_filter _ _
    _) h)

theorem State.setRwPos_frame {w : Nat} {b s : State} {n} (hw : Part.within Part.regs w = true) (h : Frame w b s) :
    Frame w b (State.setRwPos s n) := by
  unfold State.setRwPos
  repeat' first
    | with_reducible assumption | exact Part.within_trans (by decide) hw | with_reducible refine Frame.ite ?_ ?_
    | with_reducible refine State.setReg_frame ?_ ?_

theorem State.rwLoad_frame {w : Nat} {b s : State} {n} (hw : Part.within (Part.rcd ||| Part.regs) w = true) (h : Frame w b s) :
    Frame w b (State.rwLoad s n) := by
  unfold State.rwLoad
  repeat' first
    | with_reducible assumption | exact Part.within_trans (by decide) hw | with_reducible refine Frame.ite ?_ ?_
    | with_reducible refine State.setRwPos_frame ?_ ?_ | split | (lift_lets; intros) | with_reducible refine Frame.set_rcd ?_ ?_

theorem State.rwClose_frame {w : Nat} {b s : State} (hw : Part.within (Part.rcd ||| Part.cnt) w = true) (h : Frame w b s) :
    Frame w b (State.rwClose s) := by
  unfold State.rwClose
  repeat' first
    | with_reducible assumption | exact Part.within_trans (by decide) hw | with_reducible refine Frame.ite ?_ ?_
    | with_reducible refine when_frame (fun _ _ => ?_) ?_ | with_reducible refine State.holdRelease_frame ?_ ?_ | split
    | (lift_lets; intros) | with_reducible refine Frame.set_rcd ?_ ?_

theorem State.rwOpen_frame {w : Nat} {b s : State} {area f hold} (hw : Part.within (Part.rcd ||| Part.cnt ||| Part.regs) w = true) (h :
    Frame w b s) :
    Frame w b (State.rwOpen s area f hold) := by
  unfold State.rwOpen
  repeat' first
    | with_reducible assumption | exact Part.within_trans (by decide) hw | with_reducible refine Frame.ite ?_ ?_
    | with_reducible refine State.rwLoad_frame ?_ ?_ | with_reducible refine State.holdSet_frame ?_ ?_ | split | (lift_lets; intros)
    | with_reducible refine Frame.set_rcd ?_ ?_

theorem State.rwStep_frame {w : Nat} {b s : State} (hw : Part.within (Part.rcd ||| Part.regs) w = true) (h : Frame w b s) :
    Frame w b (State.rwStep s) := by
  unfold State.rwStep
  repeat' first
    | with_reducible assumption | exact Part.within_trans (by decide) hw | with_reducible refine Frame.ite ?_ ?_
    | with_reducible refine when_frame (fun _ _ => ?_) ?_ | with_reducible refine State.rwLoad_frame ?_ ?_

theorem State.rwMoved_frame {w : Nat} {b s : State} (hw : Part.within Part.rcd w = true) (h : Frame w b s) :
    Frame w b (State.rwMoved s) := by
  unfold State.rwMoved
  repeat' first
    | with_reducible assumption | exact Part.within_trans (by decide) hw | with_reducible refine Frame.ite ?_ ?_ | split
    | (lift_lets; intros) | with_reducible refine Frame.set_rcd ?_ ?_

theorem State.rwDone_frame {w : Nat} {b s : State} {ecc} (hw : Part.within (Part.rcd ||| Part.cnt) w = true) (h : Frame w b s) :
    Frame w b (State.rwDone s ecc) := by
  unfold State.rwDone
  repeat' first
    | with_reducible assumption | exact Part.within_trans (by decide) hw | with_reducible refine Frame.ite ?_ ?_
    | with_reducible refine when_frame (fun _ _ => ?_) ?_ | with_reducible refine State.degrade_frame ?_ ?_ | split
    | (lift_lets; intros) | with_reducible refine Frame.set_rcd ?_ ?_

theorem State.rwIdle_frame {w : Nat} {b s : State} (hw : Part.within (Part.bk ||| Part.rcd ||| Part.cnt ||| Part.time) w = true) (h :
    Frame w b s) :
    Frame w b (State.rwIdle s) := by
  unfold State.rwIdle
  repeat' first
    | with_reducible assumption | exact Part.within_trans (by decide) hw | with_reducible refine Frame.ite ?_ ?_
    | with_reducible refine when_frame (fun _ _ => ?_) ?_ | with_reducible refine State.passTo_frame ?_ ?_
    | with_reducible refine State.rwClose_frame ?_ ?_

theorem State.recNextRead_frame {w : Nat} {b s : State} (hw : Part.within Part.rcd w = true) (h : Frame w b s) :
    Frame w b (State.recNextRead s) := by
  unfold State.recNextRead
  repeat' first
    | with_reducible assumption | exact Part.within_trans (by decide) hw | with_reducible refine Frame.ite ?_ ?_ | split
    | (lift_lets; intros) | with_reducible refine Frame.set_rcd ?_ ?_

theorem State.recOldestRead_frame {w : Nat} {b s : State} (hw : Part.within Part.rcd w = true) (h : Frame w b s) :
    Frame w b (State.recOldestRead s) := by
  unfold State.recOldestRead
  repeat' first
    | with_reducible assumption | exact Part.within_trans (by decide) hw | with_reducible refine Frame.ite ?_ ?_ | split
    | (lift_lets; intros) | with_reducible refine Frame.set_rcd ?_ ?_

theorem State.serviceRx_frame {w : Nat} {b s : State} {t req} (hw : Part.within (Part.rcd ||| Part.cnt ||| Part.trdp) w = true) (h :
    Frame w b s) :
    Frame w b (State.serviceRx s t req).1 := by
  unfold State.serviceRx
  repeat' first
    | with_reducible assumption | exact Part.within_trans (by decide) hw | with_reducible refine Frame.ite ?_ ?_
    | with_reducible refine State.admitPartner_frame ?_ ?_ | with_reducible refine State.trdpRx_frame ?_ ?_ | split
    | (lift_lets; intros)

theorem State.serviceReply_frame {w : Nat} {b s : State} {ip req result body} (hw : Part.within (Part.cnt ||| Part.outs) w = true) (h :
    Frame w b s) :
    Frame w b (State.serviceReply s ip req result body) := by
  unfold State.serviceReply
  repeat' first
    | with_reducible assumption | exact Part.within_trans (by decide) hw | with_reducible refine Frame.ite ?_ ?_
    | with_reducible refine State.sendTelegram_frame ?_ ?_

theorem State.recServe_frame {w : Nat} {b s : State} {ip req body} (hw : Part.within (Part.cnt ||| Part.outs) w = true) (h : Frame w b s)
    :
    Frame w b (State.recServe s ip req body) := by
  unfold State.recServe
  repeat' first
    | with_reducible assumption | exact Part.within_trans (by decide) hw | with_reducible refine Frame.ite ?_ ?_
    | with_reducible refine State.count_frame ?_ ?_ | with_reducible refine State.serviceReply_frame ?_ ?_

theorem State.recRefuse_frame {w : Nat} {b s : State} {ip req} (hw : Part.within (Part.rcd ||| Part.cnt ||| Part.outs) w = true) (h :
    Frame w b s) :
    Frame w b (State.recRefuse s ip req) := by
  unfold State.recRefuse
  repeat' first
    | with_reducible assumption | exact Part.within_trans (by decide) hw | with_reducible refine Frame.ite ?_ ?_
    | with_reducible refine State.recReject_frame ?_ ?_ | with_reducible refine State.count_frame ?_ ?_
    | with_reducible refine State.serviceReply_frame ?_ ?_

theorem State.recOversize_frame {w : Nat} {b s : State} {ip req field} (hw : Part.within (Part.rcd ||| Part.cnt ||| Part.outs) w = true)
    (h : Frame w b s) :
    Frame w b (State.recOversize s ip req field) := by
  unfold State.recOversize
  repeat' first
    | with_reducible assumption | exact Part.within_trans (by decide) hw | with_reducible refine Frame.ite ?_ ?_
    | with_reducible refine State.raise_frame ?_ ?_ | with_reducible refine State.count_frame ?_ ?_
    | with_reducible refine State.serviceReply_frame ?_ ?_

theorem State.recRequest_frame {w : Nat} {b s : State} {t req len f} (hw : Part.within (Part.rcd ||| Part.cnt ||| Part.trdp |||
    Part.outs) w = true)
    (hf : ∀ s x, Frame w b s → Frame w b (f s x)) (h : Frame w b s) : Frame w b (State.recRequest s t req len f) := by
  unfold State.recRequest
  have h1 : Frame w b (s.serviceRx t req).1 := State.serviceRx_frame (Part.within_trans (by decide) hw) h
  dsimp only
  split
  · exact h1
  · exact Frame.ite (State.recRefuse_frame (Part.within_trans (by decide) hw) h1) (Frame.ite (State.recOversize_frame (Part.within_trans
    (by decide) hw) h1) (hf _ _ h1))

theorem State.readReq_frame {w : Nat} {b s : State} {ip b'} (hw : Part.within (Part.rcd ||| Part.cnt ||| Part.outs) w = true) (h : Frame
    w b s) :
    Frame w b (State.readReq s ip b') := by
  unfold State.readReq
  repeat' first
    | with_reducible assumption | exact Part.within_trans (by decide) hw | with_reducible refine Frame.ite ?_ ?_
    | with_reducible refine State.recServe_frame ?_ ?_ | with_reducible refine State.recRefuse_frame ?_ ?_
    | with_reducible refine State.recOversize_frame ?_ ?_

theorem State.holdReq_frame {w : Nat} {b s : State} {ip b'} (hw : Part.within (Part.rcd ||| Part.cnt ||| Part.outs) w = true) (h : Frame
    w b s) :
    Frame w b (State.holdReq s ip b') := by
  unfold State.holdReq
  repeat' first
    | with_reducible assumption | exact Part.within_trans (by decide) hw | with_reducible refine Frame.ite ?_ ?_
    | with_reducible refine State.holdSet_frame ?_ ?_ | with_reducible refine State.holdRelease_frame ?_ ?_
    | with_reducible refine State.recServe_frame ?_ ?_ | with_reducible refine State.recRefuse_frame ?_ ?_

theorem State.uploadReq_frame {w : Nat} {b s : State} {ip b'} (hw : Part.within (Part.rcd ||| Part.cnt ||| Part.trdp ||| Part.twin |||
    Part.outs) w = true) (h : Frame w b s) :
    Frame w b (State.uploadReq s ip b') := by
  unfold State.uploadReq
  repeat' first
    | with_reducible assumption | exact Part.within_trans (by decide) hw | with_reducible refine Frame.ite ?_ ?_
    | with_reducible refine State.sendTelegram_frame ?_ ?_ | with_reducible refine State.recServe_frame ?_ ?_
    | with_reducible refine State.addStream_frame ?_ ?_ | with_reducible refine State.recRefuse_frame ?_ ?_
    | with_reducible refine State.recOversize_frame ?_ ?_ | split | (lift_lets; intros) | with_reducible refine Frame.set_trdp ?_ ?_

theorem State.statusReq_frame {w : Nat} {b s : State} {ip} (hw : Part.within (Part.cnt ||| Part.outs) w = true) (h : Frame w b s) :
    Frame w b (State.statusReq s ip) := by
  unfold State.statusReq
  repeat' first
    | with_reducible assumption | exact Part.within_trans (by decide) hw | with_reducible refine Frame.ite ?_ ?_
    | with_reducible refine State.recServe_frame ?_ ?_

theorem State.streamSend_frame {w : Nat} {b s : State} {k} (hw : Part.within (Part.rcd ||| Part.cnt ||| Part.trdp ||| Part.twin |||
    Part.outs) w = true) (h : Frame w b s) :
    Frame w b (State.streamSend s k) := by
  unfold State.streamSend
  repeat' first
    | with_reducible assumption | exact Part.within_trans (by decide) hw | with_reducible refine Frame.ite ?_ ?_
    | with_reducible refine when_frame (fun _ _ => ?_) ?_ | with_reducible refine State.mirror_frame ?_ ?_
    | with_reducible refine State.sendTelegram_frame ?_ ?_ | with_reducible refine State.setStream_frame ?_ ?_
    | with_reducible refine State.closeStream_frame ?_ ?_ | split

theorem State.mateEvent_frame {w : Nat} {b s : State} {body} (hw : Part.within (Part.rcd ||| Part.cnt) w = true) (h : Frame w b s) :
    Frame w b (State.mateEvent s body) := by
  unfold State.mateEvent
  repeat' first
    | with_reducible assumption | exact Part.within_trans (by decide) hw | with_reducible refine Frame.ite ?_ ?_
    | with_reducible refine State.count_frame ?_ ?_ | split | (lift_lets; intros) | with_reducible refine Frame.set_rcd ?_ ?_

theorem State.mateFrame_frame {w : Nat} {b s : State} {b'} (hw : Part.within (Part.rcd ||| Part.cnt ||| Part.twin ||| Part.outs) w =
    true) (h : Frame w b s) :
    Frame w b (State.mateFrame s b') := by
  unfold State.mateFrame
  repeat' first
    | with_reducible assumption | exact Part.within_trans (by decide) hw | with_reducible refine Frame.ite ?_ ?_
    | with_reducible refine when_frame (fun _ _ => ?_) ?_ | with_reducible refine forEach_frame (fun _ _ _ => ?_) _ ?_
    | with_reducible refine State.emit_frame ?_ ?_ | with_reducible refine State.mateEvent_frame ?_ ?_
    | with_reducible refine State.count_frame ?_ ?_ | split | (lift_lets; intros) | with_reducible refine Frame.set_twin ?_ ?_

end Sys2Proof.Machine
end

