-- ==== Sys2Proof/Laws/FrameNvm.lean ====
section
/-!
SUPPORT. Sys2Proof/Laws/FrameNvm.lean: the frame of each operation of Machine/Nvm.lean.
-/
set_option Elab.async false
namespace Sys2Proof.Machine
open Sys2Proof

theorem State.nvmFail_frame {w : Nat} {b s : State} {err addr} (hw : Part.within (Part.nvm ||| Part.rcd ||| Part.cnt) w = true) (h :
    Frame w b s) :
    Frame w b (State.nvmFail s err addr) := by
  unfold State.nvmFail
  repeat' first
    | with_reducible assumption | exact Part.within_trans (by decide) hw | with_reducible refine Frame.ite ?_ ?_
    | with_reducible refine State.raise_frame ?_ ?_ | split | (lift_lets; intros) | with_reducible refine Frame.set_nvm ?_ ?_

theorem State.nvmCmd_frame {w : Nat} {b s : State} {cmd} (hw : Part.within (Part.nvm ||| Part.rcd ||| Part.cnt) w = true) (h : Frame w b
    s) :
    Frame w b (State.nvmCmd s cmd) := by
  unfold State.nvmCmd
  repeat' first
    | with_reducible assumption | exact Part.within_trans (by decide) hw | with_reducible refine Frame.ite ?_ ?_
    | with_reducible refine State.raise_frame ?_ ?_ | with_reducible refine State.nvmFail_frame ?_ ?_ | split | (lift_lets; intros)
    | with_reducible refine Frame.set_nvm ?_ ?_

theorem State.setNvmPage_frame {w : Nat} {b s : State} {b'} (hw : Part.within Part.regs w = true) (h : Frame w b s) :
    Frame w b (State.setNvmPage s b') := by
  unfold State.setNvmPage
  repeat' first
    | with_reducible assumption | exact Part.within_trans (by decide) hw | with_reducible refine Frame.ite ?_ ?_
    | with_reducible refine forEach_frame (fun _ _ _ => ?_) _ ?_ | with_reducible refine State.setReg_frame ?_ ?_

theorem State.nvmOpDone_frame {w : Nat} {b s : State} {timeout bad held} (hw : Part.within (Part.nvm ||| Part.rcd ||| Part.cnt |||
    Part.regs ||| Part.flash) w = true) (h : Frame w b s) :
    Frame w b (State.nvmOpDone s timeout bad held) := by
  unfold State.nvmOpDone
  repeat' first
    | with_reducible assumption | exact Part.within_trans (by decide) hw | with_reducible refine Frame.ite ?_ ?_
    | with_reducible refine State.setFlash_frame ?_ ?_ | with_reducible refine State.setNvmPage_frame ?_ ?_
    | with_reducible refine State.nvmFail_frame ?_ ?_ | split | (lift_lets; intros) | with_reducible refine Frame.set_nvm ?_ ?_

end Sys2Proof.Machine
end

