-- ==== Sys2Proof/Laws/FrameReset.lean ====
section
/-!
SUPPORT. Sys2Proof/Laws/FrameReset.lean: the frame of each operation of Machine/Reset.lean.
-/
set_option Elab.async false
namespace Sys2Proof.Machine
open Sys2Proof

theorem State.afterReset_frame {w : Nat} {b s : State} (hw : Part.within (Part.sys ||| Part.nvm ||| Part.cat ||| Part.sc ||| Part.rcd |||
    Part.cnt ||| Part.time ||| Part.seq ||| Part.portals ||| Part.obs ||| Part.axes ||| Part.fb ||| Part.links ||| Part.ilk ||| Part.fio
    ||| Part.loads ||| Part.net ||| Part.trdp ||| Part.conns ||| Part.twin ||| Part.regs ||| Part.mem ||| Part.outs ||| Part.restart |||
    Part.states ||| Part.actions) w = true) (h : Frame w b s) :
    Frame w b (State.afterReset s) := by
  refine Frame.upd (s := s) ?_ ?_ ?_ ?_ ?_ ?_ ?_ ?_ ?_ ?_ ?_ ?_ ?_ ?_ ?_ ?_ ?_ ?_ ?_ ?_ ?_ ?_ ?_ ?_ ?_ ?_ ?_ ?_ ?_ ?_ ?_ ?_ ?_ ?_ ?_ ?_
    ?_ ?_ h
  all_goals first
    | exact fun k => Part.out_absurd hw rfl k | exact fun _ => rfl | exact Nat.le_refl _ | exact id | exact fun _ k => k
    | exact List.prefix_refl _ | exact Table.wf_filter _ _ _
    | exact fun _ => Or.inr ⟨Or.inl rfl, rfl, rfl⟩

theorem State.tryRelease_frame {w : Nat} {b s : State} (hw : Part.within (Part.sys ||| Part.startup) w = true) (h : Frame w b s) :
    Frame w b (State.tryRelease s) := by
  unfold State.tryRelease
  repeat' first
    | with_reducible assumption | exact Part.within_trans (by decide) hw | with_reducible refine Frame.ite ?_ ?_ | exact id
    | exact fun _ => ⟨rfl, rfl, rfl⟩ | exact fun k => Part.out_absurd hw (by decide) k | split | (lift_lets; intros)
    | with_reducible refine Frame.set_sys ?_ ?_ ?_ ?_ ?_

theorem State.systemReset_frame {w : Nat} {b s : State} {reason} (hw : Part.within (Part.sys ||| Part.bk ||| Part.nvm ||| Part.cat |||
    Part.sc ||| Part.rcd ||| Part.cnt ||| Part.time ||| Part.seq ||| Part.portals ||| Part.obs ||| Part.axes ||| Part.fb ||| Part.links
    ||| Part.ilk ||| Part.fio ||| Part.loads ||| Part.net ||| Part.trdp ||| Part.conns ||| Part.twin ||| Part.regs ||| Part.mem |||
    Part.outs ||| Part.restart ||| Part.states ||| Part.actions) w = true) (h : Frame w b s) :
    Frame w b (State.systemReset s reason) := by
  unfold State.systemReset
  repeat' first
    | with_reducible assumption | exact Part.within_trans (by decide) hw | with_reducible refine Frame.ite ?_ ?_
    | with_reducible refine State.afterReset_frame ?_ ?_ | exact id | exact fun _ => ⟨rfl, rfl, rfl⟩
    | exact fun k => Part.out_absurd hw (by decide) k | split | (lift_lets; intros) | with_reducible refine Frame.set_sys ?_ ?_ ?_ ?_ ?_
    | with_reducible refine Frame.set_bk ?_ ?_ | with_reducible refine Frame.set_sys_bk ?_ ?_ ?_ ?_ ?_

theorem State.resetNow_frame {w : Nat} {b s : State} {reason} (hw : Part.within (Part.sys ||| Part.bk ||| Part.nvm ||| Part.cat |||
    Part.sc ||| Part.rcd ||| Part.cnt ||| Part.time ||| Part.seq ||| Part.portals ||| Part.obs ||| Part.axes ||| Part.fb ||| Part.links
    ||| Part.ilk ||| Part.fio ||| Part.loads ||| Part.net ||| Part.trdp ||| Part.conns ||| Part.twin ||| Part.regs ||| Part.mem |||
    Part.outs ||| Part.restart ||| Part.states ||| Part.actions) w = true) (h : Frame w b s) :
    Frame w b (State.resetNow s reason) := by
  unfold State.resetNow
  have h1 : Frame w b (s.systemReset reason) := State.systemReset_frame (Part.within_trans (by decide) hw) h
  have h2 : (s.systemReset reason).JustReset := ⟨Or.inl rfl, rfl, rfl⟩
  generalize s.systemReset reason = x at h1 h2
  unfold State.tryRelease
  split
  · refine h1.trans ?_
    refine Frame.upd (s := x) ?_ ?_ ?_ ?_ ?_ ?_ ?_ ?_ ?_ ?_ ?_ ?_ ?_ ?_ ?_ ?_ ?_ ?_ ?_ ?_ 
      ?_ ?_ ?_ ?_ ?_ ?_ ?_ ?_ ?_ ?_ ?_ ?_ ?_ ?_ ?_ ?_ ?_ ?_ (Frame.refl w x)
    all_goals first
      | exact fun k => Part.out_absurd hw rfl k | exact fun _ => rfl | exact Nat.le_refl _ | exact id | exact fun _ k => k
      | exact List.prefix_refl _ | exact fun _ => Or.inr ⟨Or.inr rfl, h2.2.1, h2.2.2⟩
  · exact h1

theorem State.powerOn_frame {w : Nat} {b s : State} {secs} (hw : Part.within (Part.sys ||| Part.bk ||| Part.nvm ||| Part.cat ||| Part.sc
    ||| Part.rcd ||| Part.cnt ||| Part.time ||| Part.seq ||| Part.portals ||| Part.obs ||| Part.axes ||| Part.fb ||| Part.links |||
    Part.ilk ||| Part.fio ||| Part.loads ||| Part.net ||| Part.trdp ||| Part.conns ||| Part.twin ||| Part.regs ||| Part.mem |||
    Part.outs ||| Part.restart ||| Part.states ||| Part.actions) w = true) (h : Frame w b s) :
    Frame w b (State.powerOn s secs) := by
  unfold State.powerOn
  repeat' first
    | with_reducible assumption | exact Part.within_trans (by decide) hw | with_reducible refine Frame.ite ?_ ?_
    | with_reducible refine State.systemReset_frame ?_ ?_ | exact Nat.le_refl _ | exact id | exact fun _ => rfl | exact fun _ _ => rfl
    | exact fun _ => ⟨rfl, rfl⟩ | exact fun _ => ⟨rfl, rfl, rfl⟩ | exact fun k => Part.out_absurd hw (by decide) k | split
    | (lift_lets; intros) | with_reducible refine Frame.set_sys_bk_time ?_ ?_ ?_ ?_ ?_ ?_

theorem State.brownOut_frame {w : Nat} {b s : State} {supply} (hw : Part.within (Part.sys ||| Part.bk ||| Part.nvm ||| Part.cat |||
    Part.sc ||| Part.rcd ||| Part.cnt ||| Part.time ||| Part.seq ||| Part.portals ||| Part.obs ||| Part.axes ||| Part.fb ||| Part.links
    ||| Part.ilk ||| Part.fio ||| Part.loads ||| Part.net ||| Part.trdp ||| Part.conns ||| Part.twin ||| Part.regs ||| Part.mem |||
    Part.outs ||| Part.restart ||| Part.states ||| Part.actions) w = true) (h : Frame w b s) :
    Frame w b (State.brownOut s supply) := by
  unfold State.brownOut
  repeat' first
    | with_reducible assumption | exact Part.within_trans (by decide) hw | with_reducible refine Frame.ite ?_ ?_
    | with_reducible refine State.systemReset_frame ?_ ?_ | with_reducible refine State.pass_frame ?_ ?_ | exact id
    | exact fun _ => ⟨rfl, rfl, rfl⟩ | exact fun k => Part.out_absurd hw (by decide) k | split | (lift_lets; intros)
    | with_reducible refine Frame.set_sys ?_ ?_ ?_ ?_ ?_

theorem State.shelveEnd_frame {w : Nat} {b s : State} {cause} (hw : Part.within Part.sys w = true) (h : Frame w b s) :
    Frame w b (State.shelveEnd s cause) := by
  unfold State.shelveEnd
  repeat' first
    | with_reducible assumption | exact Part.within_trans (by decide) hw | with_reducible refine Frame.ite ?_ ?_ | exact id
    | exact fun _ => ⟨rfl, rfl, rfl⟩ | exact fun k => Part.out_absurd hw (by decide) k | split | (lift_lets; intros)
    | with_reducible refine Frame.set_sys ?_ ?_ ?_ ?_ ?_

theorem State.shelve_frame {w : Nat} {b s : State} (hw : Part.within Part.sys w = true) (h : Frame w b s) :
    Frame w b (State.shelve s) := by
  unfold State.shelve
  repeat' first
    | with_reducible assumption | exact Part.within_trans (by decide) hw | with_reducible refine Frame.ite ?_ ?_
    | with_reducible refine when_frame (fun _ _ => ?_) ?_ | exact id | exact fun _ => ⟨rfl, rfl, rfl⟩
    | exact fun k => Part.out_absurd hw (by decide) k | split | (lift_lets; intros) | with_reducible refine Frame.set_sys ?_ ?_ ?_ ?_ ?_

theorem State.judgeShelf_frame {w : Nat} {b s : State} (hw : Part.within Part.sys w = true) (h : Frame w b s) :
    Frame w b (State.judgeShelf s) := by
  unfold State.judgeShelf
  repeat' first
    | with_reducible assumption | exact Part.within_trans (by decide) hw | with_reducible refine Frame.ite ?_ ?_
    | with_reducible refine State.shelveEnd_frame ?_ ?_

theorem State.shelveReady_frame {w : Nat} {b s : State} (hw : Part.within (Part.sys ||| Part.bk) w = true) (h : Frame w b s) :
    Frame w b (State.shelveReady s) := by
  unfold State.shelveReady
  repeat' first
    | with_reducible assumption | exact Part.within_trans (by decide) hw | with_reducible refine Frame.ite ?_ ?_
    | with_reducible refine when_frame (fun _ _ => ?_) ?_ | with_reducible refine State.judgeShelf_frame ?_ ?_ | exact id
    | exact fun _ => ⟨rfl, rfl, rfl⟩ | exact fun k => Part.out_absurd hw (by decide) k | split | (lift_lets; intros)
    | with_reducible refine Frame.set_sys ?_ ?_ ?_ ?_ ?_ | with_reducible refine Frame.set_bk ?_ ?_
    | with_reducible refine Frame.set_sys_bk ?_ ?_ ?_ ?_ ?_

theorem wakeDrop_frame {w : Nat} {b s : State} {d t src} (hw : Part.within (Part.sys ||| Part.bk ||| Part.time) w = true)
    (h : Frame w b s) : Frame w b (
      let s1 := s.passTo (t + d)
      { s1 with sys := { s1.sys with pwrEnLow := false, wakeHeld := 0, shelving := false }, bk := { s1.bk with wakeSrc := src } }) :=
  Frame.set_sys_bk (s := s.passTo (t + d)) (Part.within_trans (by decide) hw) id id (fun _ => ⟨rfl, rfl, rfl⟩) (State.passTo_frame
    (Part.within_trans (by decide) hw) h)

theorem State.wakeRelease_frame {w : Nat} {b s : State} {src} (hw : Part.within (Part.sys ||| Part.bk ||| Part.time) w = true) (h : Frame
    w b s) :
    Frame w b (State.wakeRelease s src) := by
  unfold State.wakeRelease
  refine Frame.ite ?_ (Frame.ite (State.shelveEnd_frame (Part.within_trans (by decide) hw) h) h)
  split
  · exact wakeDrop_frame (Part.within_trans (by decide) hw) h
  · exact Frame.set_sys (Part.within_trans (by decide) hw) id id (fun _ => ⟨rfl, rfl, rfl⟩) h

theorem State.supplyReturn_frame {w : Nat} {b s : State} (hw : Part.within (Part.sys ||| Part.bk ||| Part.time) w = true) (h : Frame w b
    s) :
    Frame w b (State.supplyReturn s) := by
  unfold State.supplyReturn
  repeat' first
    | with_reducible assumption | exact Part.within_trans (by decide) hw | with_reducible refine Frame.ite ?_ ?_
    | with_reducible refine when_frame (fun _ _ => ?_) ?_ | with_reducible refine State.wakeRelease_frame ?_ ?_ | exact id
    | exact fun _ => rfl | exact fun _ _ => rfl | exact fun _ => ⟨rfl, rfl⟩ | exact fun _ => ⟨rfl, rfl, rfl⟩
    | exact fun k => Part.out_absurd hw (by decide) k | split | (lift_lets; intros)
    | with_reducible refine Frame.set_sys_bk ?_ ?_ ?_ ?_ ?_

end Sys2Proof.Machine
end

