-- ==== Sys2Proof/Laws/FrameBus.lean ====
section
/-!
SUPPORT. Sys2Proof/Laws/FrameBus.lean: the frame of each operation of Machine/Bus.lean.
-/
set_option Elab.async false
namespace Sys2Proof.Machine
open Sys2Proof

theorem State.discard_frame {w : Nat} {b s : State} {a cause m read} (hw : Part.within (Part.sys ||| Part.rcd ||| Part.cnt) w = true) (h
    : Frame w b s) :
    Frame w b (State.discard s a cause m read) := by
  unfold State.discard
  repeat' first
    | with_reducible assumption | exact Part.within_trans (by decide) hw | with_reducible refine Frame.ite ?_ ?_
    | with_reducible refine State.raiseRated_frame ?_ ?_ | with_reducible refine State.count_frame ?_ ?_ | exact id
    | exact fun _ => ⟨rfl, rfl, rfl⟩ | exact fun k => Part.out_absurd hw (by decide) k | split | (lift_lets; intros)
    | with_reducible refine Frame.set_sys ?_ ?_ ?_ ?_ ?_

theorem State.tblNext_frame {w : Nat} {b s : State} {n} (hw : Part.within Part.obs w = true) (h : Frame w b s) :
    Frame w b (State.tblNext s n) := by
  unfold State.tblNext
  repeat' first
    | with_reducible assumption | exact Part.within_trans (by decide) hw | with_reducible refine Frame.ite ?_ ?_
    | with_reducible refine State.modOb_frame ?_ ?_

theorem State.transferReq_frame {w : Nat} {b s : State} (hw : Part.within (Part.rcd ||| Part.cnt ||| Part.twin) w = true) (h : Frame w b
    s) :
    Frame w b (State.transferReq s).1 := by
  unfold State.transferReq
  repeat' first
    | with_reducible assumption | exact Part.within_trans (by decide) hw | with_reducible refine Frame.ite ?_ ?_
    | with_reducible refine State.raise_frame ?_ ?_ | split | (lift_lets; intros) | with_reducible refine Frame.set_twin ?_ ?_

theorem State.recCmd_frame {w : Nat} {b s : State} {v} (hw : Part.within (Part.bk ||| Part.rcd ||| Part.cnt) w = true) (h : Frame w b s) :
    Frame w b (State.recCmd s v) := by
  unfold State.recCmd
  repeat' first
    | with_reducible assumption | exact Part.within_trans (by decide) hw | with_reducible refine Frame.ite ?_ ?_
    | with_reducible refine State.clearCirc_frame ?_ ?_ | with_reducible refine State.archive_frame ?_ ?_
    | with_reducible refine State.folioKeep_frame ?_ ?_ | with_reducible refine State.captureCmd_frame ?_ ?_
    | with_reducible refine State.holdRelease_frame ?_ ?_ | with_reducible refine State.holdSet_frame ?_ ?_
    | with_reducible refine State.lwClear_frame ?_ ?_ | split

theorem State.rwCmd_frame {w : Nat} {b s : State} {v} (hw : Part.within (Part.rcd ||| Part.cnt ||| Part.regs) w = true) (h : Frame w b s)
    :
    Frame w b (State.rwCmd s v) := by
  unfold State.rwCmd
  repeat' first
    | with_reducible assumption | exact Part.within_trans (by decide) hw | with_reducible refine Frame.ite ?_ ?_
    | with_reducible refine State.rwClose_frame ?_ ?_ | with_reducible refine State.rwStep_frame ?_ ?_
    | with_reducible refine State.rwOpen_frame ?_ ?_ | split

theorem State.cntCmd_frame {w : Nat} {b s : State} {v} (hw : Part.within (Part.rcd ||| Part.cnt) w = true) (h : Frame w b s) :
    Frame w b (State.cntCmd s v) := by
  unfold State.cntCmd
  repeat' first
    | with_reducible assumption | exact Part.within_trans (by decide) hw | with_reducible refine Frame.ite ?_ ?_
    | with_reducible refine State.smpClear_frame ?_ ?_ | with_reducible refine State.cntClearAll_frame ?_ ?_
    | with_reducible refine State.cntWrite_frame ?_ ?_ | with_reducible refine State.sweep_frame ?_ ?_ | split

theorem State.effMotion_frame {w : Nat} {b s : State} {r i j v} (hw : Part.within (Part.rcd ||| Part.cnt ||| Part.time ||| Part.portals
    ||| Part.obs ||| Part.axes ||| Part.fb ||| Part.links ||| Part.regs ||| Part.outs) w = true) (h : Frame w b s) :
    Frame w b (State.effMotion s r i j v) := by
  unfold State.effMotion
  repeat' first
    | with_reducible assumption | exact Part.within_trans (by decide) hw | with_reducible refine Frame.ite ?_ ?_
    | with_reducible refine State.commission_frame ?_ ?_ | with_reducible refine State.inject_frame ?_ ?_
    | with_reducible refine State.modOb_frame ?_ ?_ | with_reducible refine State.writeEntry_frame ?_ ?_
    | with_reducible refine State.tblNext_frame ?_ ?_ | with_reducible refine State.afterInputs_frame ?_ ?_
    | with_reducible refine State.stopAxis_frame ?_ ?_ | with_reducible refine State.clearChatter_frame ?_ ?_
    | with_reducible refine State.replacePush_frame ?_ ?_ | with_reducible refine State.appendSeg_frame ?_ ?_
    | with_reducible refine State.setReg_frame ?_ ?_ | with_reducible refine State.fbModeSet_frame ?_ ?_
    | with_reducible refine State.cmpCfgWritten_frame ?_ ?_ | with_reducible refine State.cmpPos_frame ?_ ?_
    | with_reducible refine State.fbPset_frame ?_ ?_ | with_reducible refine State.modFbp_frame ?_ ?_
    | with_reducible refine State.divHere_frame ?_ ?_ | with_reducible refine State.dlCfgWritten_frame ?_ ?_
    | with_reducible refine State.dlRestart_frame ?_ ?_ | split | (lift_lets; intros)

theorem State.effField_frame {w : Nat} {b s : State} {r i j v} (hw : Part.within (Part.rcd ||| Part.cnt ||| Part.time ||| Part.seq |||
    Part.portals ||| Part.obs ||| Part.axes ||| Part.fb ||| Part.links ||| Part.ilk ||| Part.fio ||| Part.loads ||| Part.regs |||
    Part.outs ||| Part.actions) w = true) (h : Frame w b s) :
    Frame w b (State.effField s r i j v) := by
  unfold State.effField
  repeat' first
    | with_reducible assumption | exact Part.within_trans (by decide) hw | with_reducible refine Frame.ite ?_ ?_
    | with_reducible refine State.setReg_frame ?_ ?_ | with_reducible refine State.logLoad_frame ?_ ?_
    | with_reducible refine State.ilkClear_frame ?_ ?_ | with_reducible refine State.fldClrDiag_frame ?_ ?_
    | with_reducible refine State.startLink_frame ?_ ?_ | with_reducible refine State.commandSwitches_frame ?_ ?_
    | with_reducible refine State.lswClear_frame ?_ ?_ | with_reducible refine State.lswClrDiag_frame ?_ ?_
    | with_reducible refine State.acceptJump_frame ?_ ?_ | with_reducible refine State.acceptPath_frame ?_ ?_
    | with_reducible refine State.effMotion_frame ?_ ?_ | split | (lift_lets; intros)

theorem State.effect_frame {w : Nat} {b s : State} {r i j v} (hw : Part.within (Part.sys ||| Part.bk ||| Part.nvm ||| Part.cat |||
    Part.sc ||| Part.rcd ||| Part.cnt ||| Part.time ||| Part.seq ||| Part.portals ||| Part.obs ||| Part.axes ||| Part.fb ||| Part.links
    ||| Part.ilk ||| Part.fio ||| Part.loads ||| Part.net ||| Part.trdp ||| Part.conns ||| Part.twin ||| Part.regs ||| Part.mem |||
    Part.outs ||| Part.free ||| Part.restart ||| Part.states ||| Part.actions) w = true) (h : Frame w b s) :
    Frame w b (State.effect s r i j v) := by
  unfold State.effect
  repeat' first
    | with_reducible assumption | exact Part.within_trans (by decide) hw | with_reducible refine Frame.ite ?_ ?_
    | with_reducible refine State.effField_frame ?_ ?_ | with_reducible refine State.resetNow_frame ?_ ?_
    | with_reducible refine State.shelve_frame ?_ ?_ | with_reducible refine State.nvmCmd_frame ?_ ?_
    | with_reducible refine State.smpLoad_frame ?_ ?_ | with_reducible refine State.cntCmd_frame ?_ ?_
    | with_reducible refine State.setReg_frame ?_ ?_ | with_reducible refine State.rwMoved_frame ?_ ?_
    | with_reducible refine State.rwCmd_frame ?_ ?_ | with_reducible refine State.recCmd_frame ?_ ?_
    | with_reducible refine State.transferReq_frame ?_ ?_ | with_reducible refine State.stlCmd_frame ?_ ?_ | exact id
    | exact fun _ => ⟨rfl, rfl, rfl⟩ | exact fun k => Part.out_absurd hw (by decide) k | split | (lift_lets; intros)
    | with_reducible refine Frame.set_sys ?_ ?_ ?_ ?_ ?_ | with_reducible refine Frame.set_bk ?_ ?_

theorem State.writeWord_frame {w : Nat} {b s : State} {a v m} (hw : Part.within (Part.sys ||| Part.bk ||| Part.nvm ||| Part.cat |||
    Part.sc ||| Part.rcd ||| Part.cnt ||| Part.time ||| Part.seq ||| Part.portals ||| Part.obs ||| Part.axes ||| Part.fb ||| Part.links
    ||| Part.ilk ||| Part.fio ||| Part.loads ||| Part.net ||| Part.trdp ||| Part.conns ||| Part.twin ||| Part.regs ||| Part.mem |||
    Part.outs ||| Part.free ||| Part.restart ||| Part.states ||| Part.actions) w = true) (h : Frame w b s) :
    Frame w b (State.writeWord s a v m).1 := by
  unfold State.writeWord
  repeat' first
    | with_reducible assumption | exact Part.within_trans (by decide) hw | with_reducible refine Frame.ite ?_ ?_
    | with_reducible refine State.tblNext_frame ?_ ?_ | with_reducible refine State.discard_frame ?_ ?_
    | with_reducible refine State.setMem_frame ?_ ?_ | with_reducible refine State.effect_frame ?_ ?_
    | with_reducible refine State.paramWritten_frame ?_ ?_ | split | (lift_lets; intros)

theorem State.mramRead_frame {w : Nat} {b s : State} {a} (hw : Part.within (Part.rcd ||| Part.cnt) w = true) (h : Frame w b s) :
    Frame w b (State.mramRead s a) := by
  unfold State.mramRead
  repeat' first
    | with_reducible assumption | exact Part.within_trans (by decide) hw | with_reducible refine Frame.ite ?_ ?_
    | with_reducible refine State.degrade_frame ?_ ?_ | split | (lift_lets; intros)

theorem State.writeChecked_frame {w : Nat} {b s : State} {a v m bad} (hw : Part.within (Part.sys ||| Part.bk ||| Part.nvm ||| Part.cat
    ||| Part.sc ||| Part.rcd ||| Part.cnt ||| Part.time ||| Part.seq ||| Part.portals ||| Part.obs ||| Part.axes ||| Part.fb |||
    Part.links ||| Part.ilk ||| Part.fio ||| Part.loads ||| Part.net ||| Part.trdp ||| Part.conns ||| Part.twin ||| Part.regs |||
    Part.mem ||| Part.outs ||| Part.free ||| Part.restart ||| Part.states ||| Part.actions) w = true) (h : Frame w b s) :
    Frame w b (State.writeChecked s a v m bad).1 := by
  unfold State.writeChecked
  repeat' first
    | with_reducible assumption | exact Part.within_trans (by decide) hw | with_reducible refine Frame.ite ?_ ?_
    | with_reducible refine State.mramRead_frame ?_ ?_ | with_reducible refine State.writeWord_frame ?_ ?_ | split | (lift_lets; intros)

theorem State.cycRead_frame {w : Nat} {b s : State} {p} (hw : Part.within Part.portals w = true) (h : Frame w b s) :
    Frame w b (State.cycRead s p) := by
  unfold State.cycRead
  repeat' first
    | with_reducible assumption | exact Part.within_trans (by decide) hw | with_reducible refine Frame.ite ?_ ?_
    | with_reducible refine State.modPortal_frame ?_ ?_ ?_ | exact fun _ => rfl | exact fun _ _ => rfl

theorem State.fbPosRead_frame {w : Nat} {b s : State} {n} (hw : Part.within Part.fb w = true) (h : Frame w b s) :
    Frame w b (State.fbPosRead s n) := by
  unfold State.fbPosRead
  repeat' first
    | with_reducible assumption | exact Part.within_trans (by decide) hw | with_reducible refine Frame.ite ?_ ?_
    | with_reducible refine State.modFbp_frame ?_ ?_

theorem State.fbPrbRead_frame {w : Nat} {b s : State} {n} (hw : Part.within Part.fb w = true) (h : Frame w b s) :
    Frame w b (State.fbPrbRead s n) := by
  unfold State.fbPrbRead
  repeat' first
    | with_reducible assumption | exact Part.within_trans (by decide) hw | with_reducible refine Frame.ite ?_ ?_
    | with_reducible refine State.modFbp_frame ?_ ?_

theorem State.secCntRead_frame {w : Nat} {b s : State} {k} (hw : Part.within Part.sc w = true) (h : Frame w b s) :
    Frame w b (State.secCntRead s k) := by
  unfold State.secCntRead
  repeat' first
    | with_reducible assumption | exact Part.within_trans (by decide) hw | with_reducible refine Frame.ite ?_ ?_ | exact Nat.le_refl _
    | exact fun _ k => k | exact id | exact List.prefix_refl _ | split | (lift_lets; intros)
    | with_reducible refine Frame.set_sc ?_ ?_ ?_ ?_ ?_ ?_

theorem State.readEffect_frame {w : Nat} {b s : State} {r i} (hw : Part.within (Part.sc ||| Part.rcd ||| Part.cnt ||| Part.time |||
    Part.portals ||| Part.obs ||| Part.fb) w = true) (h : Frame w b s) :
    Frame w b (State.readEffect s r i) := by
  unfold State.readEffect
  repeat' first
    | with_reducible assumption | exact Part.within_trans (by decide) hw | with_reducible refine Frame.ite ?_ ?_
    | with_reducible refine State.secCntRead_frame ?_ ?_ | with_reducible refine State.cntSweepTtRead_frame ?_ ?_
    | with_reducible refine State.cntSnapRead_frame ?_ ?_ | with_reducible refine State.cntValRead_frame ?_ ?_
    | with_reducible refine State.recOldestRead_frame ?_ ?_ | with_reducible refine State.recNextRead_frame ?_ ?_
    | with_reducible refine State.ttRead_frame ?_ ?_ | with_reducible refine State.fbPrbRead_frame ?_ ?_
    | with_reducible refine State.fbPosRead_frame ?_ ?_ | with_reducible refine State.tblNext_frame ?_ ?_
    | with_reducible refine State.cycRead_frame ?_ ?_ | split

theorem State.readWord_frame {w : Nat} {b s : State} {a m} (hw : Part.within (Part.sys ||| Part.sc ||| Part.rcd ||| Part.cnt |||
    Part.time ||| Part.portals ||| Part.obs ||| Part.fb) w = true) (h : Frame w b s) :
    Frame w b (State.readWord s a m).1 := by
  unfold State.readWord
  repeat' first
    | with_reducible assumption | exact Part.within_trans (by decide) hw | with_reducible refine Frame.ite ?_ ?_
    | with_reducible refine State.readEffect_frame ?_ ?_ | with_reducible refine State.discard_frame ?_ ?_ | split

theorem State.readChecked_none (s : State) (a m : Nat) : s.readChecked a m none = s.readWord a m := by
  simp [State.readChecked]

theorem State.readChecked_frame {w : Nat} {b s : State} {a m bad} (hw : Part.within (Part.sys ||| Part.sc ||| Part.rcd ||| Part.cnt |||
    Part.time ||| Part.portals ||| Part.obs ||| Part.fb ||| Part.free) w = true) (h : Frame w b s) :
    Frame w b (State.readChecked s a m bad).1 := by
  unfold State.readChecked
  repeat' first
    | with_reducible assumption | exact Part.within_trans (by decide) hw | with_reducible refine Frame.ite ?_ ?_
    | with_reducible refine State.draw_frame ?_ ?_ | with_reducible refine State.mramRead_frame ?_ ?_
    | with_reducible refine State.readWord_frame ?_ ?_ | split | (lift_lets; intros)

theorem State.busRead_frame {w : Nat} {b s : State} {a m} (hw : Part.within (Part.sys ||| Part.sc ||| Part.rcd ||| Part.cnt ||| Part.time
    ||| Part.portals ||| Part.obs ||| Part.fb ||| Part.outs) w = true) (h : Frame w b s) :
    Frame w b (State.busRead s a m) := by
  unfold State.busRead
  repeat' first
    | with_reducible assumption | exact Part.within_trans (by decide) hw | with_reducible refine Frame.ite ?_ ?_
    | with_reducible refine when_frame (fun _ _ => ?_) ?_ | with_reducible refine State.emit_frame ?_ ?_
    | with_reducible refine State.readWord_frame ?_ ?_

theorem State.putReg_frame {w : Nat} {b s : State} {m r i v} (hw : Part.within (Part.sys ||| Part.bk ||| Part.nvm ||| Part.cat |||
    Part.sc ||| Part.rcd ||| Part.cnt ||| Part.time ||| Part.seq ||| Part.portals ||| Part.obs ||| Part.axes ||| Part.fb ||| Part.links
    ||| Part.ilk ||| Part.fio ||| Part.loads ||| Part.net ||| Part.trdp ||| Part.conns ||| Part.twin ||| Part.regs ||| Part.mem |||
    Part.outs ||| Part.free ||| Part.restart ||| Part.states ||| Part.actions) w = true) (h : Frame w b s) :
    Frame w b (State.putReg s m r i v) := by
  unfold State.putReg
  repeat' first
    | with_reducible assumption | exact Part.within_trans (by decide) hw | with_reducible refine Frame.ite ?_ ?_
    | with_reducible refine when_frame (fun _ _ => ?_) ?_ | with_reducible refine State.writeWord_frame ?_ ?_

theorem State.getReg_frame {w : Nat} {b s : State} {m r i} (hw : Part.within (Part.sys ||| Part.sc ||| Part.rcd ||| Part.cnt |||
    Part.time ||| Part.portals ||| Part.obs ||| Part.fb ||| Part.outs) w = true) (h : Frame w b s) :
    Frame w b (State.getReg s m r i) := by
  unfold State.getReg
  repeat' first
    | with_reducible assumption | exact Part.within_trans (by decide) hw | with_reducible refine Frame.ite ?_ ?_
    | with_reducible refine State.busRead_frame ?_ ?_

theorem State.referenceStart_frame {w : Nat} {b s : State} {p} (hw : Part.within (Part.sys ||| Part.rcd ||| Part.cnt ||| Part.seq |||
    Part.portals ||| Part.obs ||| Part.axes ||| Part.loads ||| Part.twin ||| Part.mem ||| Part.outs ||| Part.free ||| Part.states) w =
    true) (h : Frame w b s) :
    Frame w b (State.referenceStart s p) := by
  unfold State.referenceStart
  repeat' first
    | with_reducible assumption | exact Part.within_trans (by decide) hw | with_reducible refine Frame.ite ?_ ?_
    | with_reducible refine when_frame (fun _ _ => ?_) ?_ | with_reducible refine State.t1_frame ?_ ?_ | split | (lift_lets; intros)

end Sys2Proof.Machine
end

