-- ==== Sys2Proof/Laws/FrameSecurity.lean ====
section
/-!
SUPPORT. Sys2Proof/Laws/FrameSecurity.lean: the frame of each operation of Machine/Security.lean.
-/
set_option Elab.async false
namespace Sys2Proof.Machine
open Sys2Proof

theorem State.wrapKey_frame {w : Nat} {b s : State} {k key perm gen} (hw : Part.within (Part.mem ||| Part.free) w = true) (h : Frame w b
    s) :
    Frame w b (State.wrapKey s k key perm gen) := by
  unfold State.wrapKey
  repeat' first
    | with_reducible assumption | exact Part.within_trans (by decide) hw | with_reducible refine Frame.ite ?_ ?_
    | with_reducible refine forEach_frame (fun _ _ _ => ?_) _ ?_ | with_reducible refine State.setMem_frame ?_ ?_
    | with_reducible refine State.random_frame ?_ ?_

theorem State.unwrapErase_frame {w : Nat} {b s : State} {k} (hw : Part.within Part.mem w = true) (h : Frame w b s) :
    Frame w b (State.unwrapErase s k) := by
  unfold State.unwrapErase
  repeat' first
    | with_reducible assumption | exact Part.within_trans (by decide) hw | with_reducible refine Frame.ite ?_ ?_
    | with_reducible refine forEach_frame (fun _ _ _ => ?_) _ ?_ | with_reducible refine State.setMem_frame ?_ ?_

theorem State.loadKey_frame {w : Nat} {b s : State} {k} (hw : Part.within (Part.sc ||| Part.rcd ||| Part.cnt) w = true) (h : Frame w b s)
    :
    Frame w b (State.loadKey s k) := by
  unfold State.loadKey
  dsimp only
  split
  · exact Frame.set_sc (Part.within_trans (by decide) hw) id (Nat.le_refl _) (fun _ k => k) (List.prefix_refl _) h
  · exact Frame.ite (State.raise_frame (Part.within_trans (by decide) hw) h) h

theorem State.installKey_frame {w : Nat} {b s : State} {k key perm} (hw : Part.within (Part.sc ||| Part.mem ||| Part.free) w = true) (h :
    Frame w b s) :
    Frame w b (State.installKey s k key perm) := by
  unfold State.installKey
  repeat' first
    | with_reducible assumption | exact Part.within_trans (by decide) hw | with_reducible refine Frame.ite ?_ ?_
    | with_reducible refine State.wrapKey_frame ?_ ?_ | exact Nat.le_refl _ | exact fun _ k => k | exact id | exact List.prefix_refl _
    | split | (lift_lets; intros) | with_reducible refine Frame.set_sc ?_ ?_ ?_ ?_ ?_ ?_

theorem State.cmdOutcome_frame {w : Nat} {b s : State} {conn b' arrival tq result} (hw : Part.within (Part.sc ||| Part.rcd ||| Part.cnt
    ||| Part.conns ||| Part.twin ||| Part.outs ||| Part.free) w = true) (h : Frame w b s) :
    Frame w b (State.cmdOutcome s conn b' arrival tq result) := by
  unfold State.cmdOutcome
  repeat' first
    | with_reducible assumption | exact Part.within_trans (by decide) hw | with_reducible refine Frame.ite ?_ ?_
    | with_reducible refine State.sendResult_frame ?_ ?_ | with_reducible refine State.sampleCmd_frame ?_ ?_
    | with_reducible refine State.latencyBin_frame ?_ ?_ | with_reducible refine State.draw_frame ?_ ?_ | exact Nat.le_refl _
    | exact fun _ k => k | exact id | exact List.prefix_refl _ | split | (lift_lets; intros)
    | with_reducible refine Frame.set_sc ?_ ?_ ?_ ?_ ?_ ?_

theorem State.rejectCmd_frame {w : Nat} {b s : State} {conn b' code} (hw : Part.within (Part.sc ||| Part.rcd ||| Part.cnt ||| Part.conns
    ||| Part.twin ||| Part.outs ||| Part.free) w = true) (h : Frame w b s) :
    Frame w b (State.rejectCmd s conn b' code) := by
  unfold State.rejectCmd
  repeat' first
    | with_reducible assumption | exact Part.within_trans (by decide) hw | with_reducible refine Frame.ite ?_ ?_
    | with_reducible refine State.cmdOutcome_frame ?_ ?_ | with_reducible refine State.raiseRated_frame ?_ ?_
    | with_reducible refine State.count_frame ?_ ?_

theorem State.doAction_frame {w : Nat} {b s : State} {conn b'} (hw : Part.within (Part.rcd ||| Part.cnt ||| Part.seq ||| Part.twin |||
    Part.outs ||| Part.actions) w = true) (h : Frame w b s) :
    Frame w b (State.doAction s conn b').1 := by
  unfold State.doAction
  repeat' first
    | with_reducible assumption | exact Part.within_trans (by decide) hw | with_reducible refine Frame.ite ?_ ?_
    | with_reducible refine State.takeAction_frame ?_ ?_ | with_reducible refine State.raise_frame ?_ ?_ | split | (lift_lets; intros)

theorem State.commitReject_frame {w : Nat} {b s : State} {fw reason} (hw : Part.within (Part.cat ||| Part.rcd ||| Part.cnt) w = true) (h
    : Frame w b s) :
    Frame w b (State.commitReject s fw reason).1 := by
  unfold State.commitReject
  repeat' first
    | with_reducible assumption | exact Part.within_trans (by decide) hw | with_reducible refine Frame.ite ?_ ?_
    | with_reducible refine State.raise_frame ?_ ?_ | split | (lift_lets; intros) | with_reducible refine Frame.set_cat ?_ ?_

theorem State.doCatCommit_frame {w : Nat} {b s : State} {conn b'} (hw : Part.within (Part.cat ||| Part.rcd ||| Part.cnt) w = true) (h :
    Frame w b s) :
    Frame w b (State.doCatCommit s conn b').1 := by
  unfold State.doCatCommit
  repeat' first
    | with_reducible assumption | exact Part.within_trans (by decide) hw | with_reducible refine Frame.ite ?_ ?_
    | with_reducible refine State.commitReject_frame ?_ ?_ | split | (lift_lets; intros) | with_reducible refine Frame.set_cat ?_ ?_

theorem State.doFwCommit_frame {w : Nat} {b s : State} {conn b'} (hw : Part.within (Part.cat ||| Part.sc ||| Part.rcd ||| Part.cnt) w =
    true) (h : Frame w b s) :
    Frame w b (State.doFwCommit s conn b').1 := by
  unfold State.doFwCommit
  repeat' first
    | with_reducible assumption | exact Part.within_trans (by decide) hw | with_reducible refine Frame.ite ?_ ?_
    | with_reducible refine State.commitReject_frame ?_ ?_ | exact Nat.le_refl _ | exact fun _ k => k | exact id
    | exact List.prefix_refl _ | split | (lift_lets; intros) | with_reducible refine Frame.set_sc ?_ ?_ ?_ ?_ ?_ ?_

theorem State.doKeyInstall_frame {w : Nat} {b s : State} {b'} (hw : Part.within (Part.sc ||| Part.rcd ||| Part.cnt ||| Part.mem |||
    Part.free) w = true) (h : Frame w b s) :
    Frame w b (State.doKeyInstall s b').1 := by
  unfold State.doKeyInstall
  repeat' first
    | with_reducible assumption | exact Part.within_trans (by decide) hw | with_reducible refine Frame.ite ?_ ?_
    | with_reducible refine State.installKey_frame ?_ ?_ | with_reducible refine State.raise_frame ?_ ?_ | split | (lift_lets; intros)

theorem State.doKeyRetire_frame {w : Nat} {b s : State} {b'} (hw : Part.within (Part.sc ||| Part.rcd ||| Part.cnt ||| Part.mem) w = true)
    (h : Frame w b s) :
    Frame w b (State.doKeyRetire s b').1 := by
  unfold State.doKeyRetire
  repeat' first
    | with_reducible assumption | exact Part.within_trans (by decide) hw | with_reducible refine Frame.ite ?_ ?_
    | with_reducible refine State.raise_frame ?_ ?_ | with_reducible refine State.unwrapErase_frame ?_ ?_ | exact Nat.le_refl _
    | exact fun _ k => k | exact id | exact List.prefix_refl _ | split | (lift_lets; intros)
    | with_reducible refine Frame.set_sc ?_ ?_ ?_ ?_ ?_ ?_

theorem State.doEnrol_frame {w : Nat} {b s : State} {b'} (hw : Part.within (Part.sc ||| Part.rcd ||| Part.cnt) w = true) (h : Frame w b
    s) :
    Frame w b (State.doEnrol s b').1 := by
  unfold State.doEnrol
  dsimp only
  split
  · exact State.raise_frame (Part.within_trans (by decide) hw) h
  · exact State.raise_frame (Part.within_trans (by decide) hw) (Frame.set_sc (Part.within_trans (by decide) hw) id (Nat.le_refl _) (fun _
    k => k) (List.prefix_append _ _) h)

theorem State.doFuse_frame {w : Nat} {b s : State} (hw : Part.within (Part.sc ||| Part.rcd ||| Part.cnt) w = true) (h : Frame w b s) :
    Frame w b (State.doFuse s).1 := by
  exact State.raise_frame (Part.within_trans (by decide) hw) (Frame.set_sc (Part.within_trans (by decide) hw) (fun _ => rfl) (Nat.le_refl
    _) (fun _ k => k) (List.prefix_refl _) h)

theorem State.doRegWrite_frame {w : Nat} {b s : State} {b'} (hw : Part.within (Part.sys ||| Part.bk ||| Part.nvm ||| Part.cat ||| Part.sc
    ||| Part.rcd ||| Part.cnt ||| Part.time ||| Part.seq ||| Part.portals ||| Part.obs ||| Part.axes ||| Part.fb ||| Part.links |||
    Part.ilk ||| Part.fio ||| Part.loads ||| Part.net ||| Part.trdp ||| Part.conns ||| Part.twin ||| Part.regs ||| Part.mem ||| Part.outs
    ||| Part.free ||| Part.restart ||| Part.states ||| Part.actions) w = true) (h : Frame w b s) :
    Frame w b (State.doRegWrite s b').1 := by
  unfold State.doRegWrite
  repeat' first
    | with_reducible assumption | exact Part.within_trans (by decide) hw | with_reducible refine Frame.ite ?_ ?_
    | with_reducible refine forEach_frame (fun _ _ _ => ?_) _ ?_ | with_reducible refine State.writeWord_frame ?_ ?_
    | with_reducible refine State.raise_frame ?_ ?_ | split | (lift_lets; intros)

theorem State.endExpired_frame {w : Nat} {b s : State} (hw : Part.within (Part.sc ||| Part.rcd ||| Part.cnt) w = true) (h : Frame w b s)
    :
    Frame w b (State.endExpired s) := by
  unfold State.endExpired
  repeat' first
    | with_reducible assumption | exact Part.within_trans (by decide) hw | with_reducible refine Frame.ite ?_ ?_
    | with_reducible refine forEach_frame (fun _ _ _ => ?_) _ ?_
    | with_reducible refine State.endSessions_frame ?_ ?_ | split | (lift_lets; intros)

theorem State.doSession_frame {w : Nat} {b s : State} {conn b'} (hw : Part.within (Part.sc ||| Part.rcd ||| Part.cnt) w = true) (h :
    Frame w b s) :
    Frame w b (State.doSession s conn b').1 := by
  unfold State.doSession
  repeat' first
    | with_reducible assumption | exact Part.within_trans (by decide) hw | with_reducible refine Frame.ite ?_ ?_
    | with_reducible refine State.endExpired_frame ?_ ?_ | with_reducible refine State.raiseRated_frame ?_ ?_
    | with_reducible refine State.raise_frame ?_ ?_ | exact Nat.le_refl _ | exact List.prefix_refl _ | exact id | exact fun _ => rfl | exact fun _ _ => rfl | exact fun _ => ⟨rfl, rfl⟩
    | exact fun _ => ⟨rfl, rfl, rfl⟩ | exact fun k => Part.out_absurd hw (by decide) k | split | (lift_lets; intros)
    | with_reducible refine Frame.set_sc ?_ ?_ ?_ ?_ ?_ ?_

theorem State.doProvision_frame {w : Nat} {b s : State} {b'} (hw : Part.within (Part.sc ||| Part.rcd ||| Part.cnt ||| Part.mem |||
    Part.free) w = true) (h : Frame w b s) :
    Frame w b (State.doProvision s b').1 := by
  unfold State.doProvision
  repeat' first
    | with_reducible assumption | exact Part.within_trans (by decide) hw | with_reducible refine Frame.ite ?_ ?_
    | with_reducible refine State.saveNum_frame ?_ ?_ | with_reducible refine State.raise_frame ?_ ?_
    | with_reducible refine State.installKey_frame ?_ ?_ | exact Nat.le_refl _ | exact fun _ k => k | exact id
    | exact List.prefix_refl _ | split | (lift_lets; intros) | with_reducible refine Frame.set_sc ?_ ?_ ?_ ?_ ?_ ?_

theorem State.handover_frame {w : Nat} {b s : State} {conn b'} (hw : Part.within (Part.sys ||| Part.bk ||| Part.nvm ||| Part.cat |||
    Part.sc ||| Part.rcd ||| Part.cnt ||| Part.time ||| Part.seq ||| Part.portals ||| Part.obs ||| Part.axes ||| Part.fb ||| Part.links
    ||| Part.ilk ||| Part.fio ||| Part.loads ||| Part.net ||| Part.trdp ||| Part.conns ||| Part.twin ||| Part.regs ||| Part.mem |||
    Part.outs ||| Part.free ||| Part.restart ||| Part.states ||| Part.actions) w = true) (h : Frame w b s) :
    Frame w b (State.handover s conn b').1 := by
  unfold State.handover
  repeat' first
    | with_reducible assumption | exact Part.within_trans (by decide) hw | with_reducible refine Frame.ite ?_ ?_
    | with_reducible refine State.doSession_frame ?_ ?_ | with_reducible refine State.transferReq_frame ?_ ?_
    | with_reducible refine State.doRegWrite_frame ?_ ?_ | with_reducible refine State.clearCirc_frame ?_ ?_
    | with_reducible refine State.archive_frame ?_ ?_ | with_reducible refine State.doFuse_frame ?_ ?_
    | with_reducible refine State.doEnrol_frame ?_ ?_ | with_reducible refine State.doKeyRetire_frame ?_ ?_
    | with_reducible refine State.doKeyInstall_frame ?_ ?_ | with_reducible refine State.doFwCommit_frame ?_ ?_
    | with_reducible refine State.doCatCommit_frame ?_ ?_ | with_reducible refine State.restore_frame ?_ ?_
    | with_reducible refine State.isolate_frame ?_ ?_ | with_reducible refine State.doAction_frame ?_ ?_ | split

theorem State.takeEffect_frame {w : Nat} {b s : State} {conn b' arrival tq} (hw : Part.within (Part.sys ||| Part.bk ||| Part.nvm |||
    Part.cat ||| Part.sc ||| Part.rcd ||| Part.cnt ||| Part.time ||| Part.seq ||| Part.portals ||| Part.obs ||| Part.axes ||| Part.fb |||
    Part.links ||| Part.ilk ||| Part.fio ||| Part.loads ||| Part.net ||| Part.trdp ||| Part.conns ||| Part.twin ||| Part.regs |||
    Part.mem ||| Part.outs ||| Part.free ||| Part.restart ||| Part.states ||| Part.actions) w = true) (h : Frame w b s) :
    Frame w b (State.takeEffect s conn b' arrival tq) := by
  unfold State.takeEffect
  repeat' first
    | with_reducible assumption | exact Part.within_trans (by decide) hw | with_reducible refine Frame.ite ?_ ?_
    | with_reducible refine State.cmdOutcome_frame ?_ ?_ | with_reducible refine State.handover_frame ?_ ?_
    | with_reducible refine State.count_frame ?_ ?_ | with_reducible refine State.raise_frame ?_ ?_ | split | (lift_lets; intros)

theorem State.acceptCmd_frame {w : Nat} {b s : State} {conn b' storeOk} (hw : Part.within (Part.sys ||| Part.bk ||| Part.nvm ||| Part.cat
    ||| Part.sc ||| Part.rcd ||| Part.cnt ||| Part.time ||| Part.seq ||| Part.portals ||| Part.obs ||| Part.axes ||| Part.fb |||
    Part.links ||| Part.ilk ||| Part.fio ||| Part.loads ||| Part.net ||| Part.trdp ||| Part.conns ||| Part.twin ||| Part.regs |||
    Part.mem ||| Part.outs ||| Part.free ||| Part.restart ||| Part.states ||| Part.actions) w = true) (h : Frame w b s) :
    Frame w b (State.acceptCmd s conn b' storeOk) := by
  unfold State.acceptCmd
  repeat' first
    | with_reducible assumption | exact Part.within_trans (by decide) hw | with_reducible refine Frame.ite ?_ ?_
    | with_reducible refine State.takeEffect_frame ?_ ?_ | with_reducible refine State.saveNum_frame ?_ ?_
    | with_reducible refine State.mirrorHold_frame ?_ ?_ ?_ | with_reducible refine State.rejectCmd_frame ?_ ?_
    | with_reducible refine State.count_frame ?_ ?_ | with_reducible refine State.cmdOutcome_frame ?_ ?_
    | with_reducible refine State.doProvision_frame ?_ ?_ | exact Nat.le_refl _ | exact fun _ k => k | exact id
    | exact List.prefix_refl _ | split | (lift_lets; intros) | with_reducible refine Frame.set_sc ?_ ?_ ?_ ?_ ?_ ?_

theorem State.secCommand_frame {w : Nat} {b s : State} {conn b' storeOk} (hw : Part.within (Part.sys ||| Part.bk ||| Part.nvm |||
    Part.cat ||| Part.sc ||| Part.rcd ||| Part.cnt ||| Part.time ||| Part.seq ||| Part.portals ||| Part.obs ||| Part.axes ||| Part.fb |||
    Part.links ||| Part.ilk ||| Part.fio ||| Part.loads ||| Part.net ||| Part.trdp ||| Part.conns ||| Part.twin ||| Part.regs |||
    Part.mem ||| Part.outs ||| Part.free ||| Part.restart ||| Part.states ||| Part.actions) w = true) (h : Frame w b s) :
    Frame w b (State.secCommand s conn b' storeOk) := by
  unfold State.secCommand
  repeat' first
    | with_reducible assumption | exact Part.within_trans (by decide) hw | with_reducible refine Frame.ite ?_ ?_
    | with_reducible refine State.acceptCmd_frame ?_ ?_ | with_reducible refine State.rejectCmd_frame ?_ ?_ | exact Nat.le_refl _
    | exact fun _ k => k | exact id | exact List.prefix_refl _ | split | (lift_lets; intros)
    | with_reducible refine Frame.set_sc ?_ ?_ ?_ ?_ ?_ ?_

theorem State.goBuffer_frame {w : Nat} {b s : State} {len storeOk} (hw : Part.within (Part.sys ||| Part.bk ||| Part.nvm ||| Part.cat |||
    Part.sc ||| Part.rcd ||| Part.cnt ||| Part.time ||| Part.seq ||| Part.portals ||| Part.obs ||| Part.axes ||| Part.fb ||| Part.links
    ||| Part.ilk ||| Part.fio ||| Part.loads ||| Part.net ||| Part.trdp ||| Part.conns ||| Part.twin ||| Part.regs ||| Part.mem |||
    Part.outs ||| Part.free ||| Part.restart ||| Part.states ||| Part.actions) w = true) (h : Frame w b s) :
    Frame w b (State.goBuffer s len storeOk) := by
  unfold State.goBuffer
  repeat' first
    | with_reducible assumption | exact Part.within_trans (by decide) hw | with_reducible refine Frame.ite ?_ ?_
    | with_reducible refine State.secCommand_frame ?_ ?_ | exact Nat.le_refl _ | exact fun _ k => k | exact id
    | exact List.prefix_refl _ | split | (lift_lets; intros) | with_reducible refine Frame.set_sc ?_ ?_ ?_ ?_ ?_ ?_

theorem State.busWrite_frame {w : Nat} {b s : State} {a v m bad} (hw : Part.within (Part.sys ||| Part.bk ||| Part.nvm ||| Part.cat |||
    Part.sc ||| Part.rcd ||| Part.cnt ||| Part.time ||| Part.seq ||| Part.portals ||| Part.obs ||| Part.axes ||| Part.fb ||| Part.links
    ||| Part.ilk ||| Part.fio ||| Part.loads ||| Part.net ||| Part.trdp ||| Part.conns ||| Part.twin ||| Part.regs ||| Part.mem |||
    Part.outs ||| Part.free ||| Part.restart ||| Part.states ||| Part.actions) w = true) (h : Frame w b s) :
    Frame w b (State.busWrite s a v m bad).1 := by
  unfold State.busWrite
  repeat' first
    | with_reducible assumption | exact Part.within_trans (by decide) hw | with_reducible refine Frame.ite ?_ ?_
    | with_reducible refine State.writeChecked_frame ?_ ?_ | with_reducible refine State.goBuffer_frame ?_ ?_ | split
    | (lift_lets; intros)

theorem State.accessWrite_frame {w : Nat} {b s : State} {a k v m bad} (hw : Part.within (Part.sys ||| Part.bk ||| Part.nvm ||| Part.cat
    ||| Part.sc ||| Part.rcd ||| Part.cnt ||| Part.time ||| Part.seq ||| Part.portals ||| Part.obs ||| Part.axes ||| Part.fb |||
    Part.links ||| Part.ilk ||| Part.fio ||| Part.loads ||| Part.net ||| Part.trdp ||| Part.conns ||| Part.twin ||| Part.regs |||
    Part.mem ||| Part.outs ||| Part.free ||| Part.restart ||| Part.states ||| Part.actions) w = true) (h : Frame w b s) :
    Frame w b (State.accessWrite s a k v m bad) := by
  unfold State.accessWrite
  repeat' first
    | with_reducible assumption | exact Part.within_trans (by decide) hw | with_reducible refine Frame.ite ?_ ?_
    | with_reducible refine State.writeChecked_frame ?_ ?_ | with_reducible refine State.setMem_frame ?_ ?_
    | with_reducible refine State.busWrite_frame ?_ ?_ | split | (lift_lets; intros)

theorem State.cmdRow_frame {w : Nat} {b s : State} {code conn b' storeOk} (hw : Part.within (Part.sys ||| Part.bk ||| Part.nvm |||
    Part.cat ||| Part.sc ||| Part.rcd ||| Part.cnt ||| Part.time ||| Part.seq ||| Part.portals ||| Part.obs ||| Part.axes ||| Part.fb |||
    Part.links ||| Part.ilk ||| Part.fio ||| Part.loads ||| Part.net ||| Part.trdp ||| Part.conns ||| Part.twin ||| Part.regs |||
    Part.mem ||| Part.outs ||| Part.free ||| Part.restart ||| Part.states ||| Part.actions) w = true) (h : Frame w b s) :
    Frame w b (State.cmdRow s code conn b' storeOk) := by
  unfold State.cmdRow
  repeat' first
    | with_reducible assumption | exact Part.within_trans (by decide) hw | with_reducible refine Frame.ite ?_ ?_
    | with_reducible refine when_frame (fun _ _ => ?_) ?_ | with_reducible refine forEach_frame (fun _ _ _ => ?_) _ ?_
    | with_reducible refine State.goBuffer_frame ?_ ?_ | with_reducible refine State.setReg_frame ?_ ?_
    | with_reducible refine State.secCommand_frame ?_ ?_ | split

theorem State.stlData_frame {w : Nat} {b s : State} {t storeOk} (hw : Part.within (Part.sys ||| Part.bk ||| Part.nvm ||| Part.cat |||
    Part.sc ||| Part.rcd ||| Part.cnt ||| Part.time ||| Part.seq ||| Part.portals ||| Part.obs ||| Part.axes ||| Part.fb ||| Part.links
    ||| Part.ilk ||| Part.fio ||| Part.loads ||| Part.net ||| Part.trdp ||| Part.conns ||| Part.twin ||| Part.regs ||| Part.mem |||
    Part.outs ||| Part.free ||| Part.restart ||| Part.states ||| Part.actions) w = true) (h : Frame w b s) :
    Frame w b (State.stlData s t storeOk) := by
  unfold State.stlData
  repeat' first
    | with_reducible assumption | exact Part.within_trans (by decide) hw | with_reducible refine Frame.ite ?_ ?_
    | with_reducible refine forEach_frame (fun _ _ _ => ?_) _ ?_ | with_reducible refine State.secCommand_frame ?_ ?_
    | with_reducible refine State.sampleStl_frame ?_ ?_ | with_reducible refine State.draw_frame ?_ ?_
    | with_reducible refine State.stlCheck_frame ?_ ?_ | split | (lift_lets; intros)

theorem State.sessionEnd_frame {w : Nat} {b s : State} {k} (hw : Part.within (Part.bk ||| Part.sc ||| Part.rcd ||| Part.cnt |||
    Part.time) w = true) (h : Frame w b s) :
    Frame w b (State.sessionEnd s k) := by
  unfold State.sessionEnd
  repeat' first
    | with_reducible assumption | exact Part.within_trans (by decide) hw | with_reducible refine Frame.ite ?_ ?_
    | with_reducible refine State.passTo_frame ?_ ?_ | with_reducible refine State.endSessions_frame ?_ ?_ | split

theorem State.rawBlock_frame {w : Nat} {b s : State} (hw : Part.within Part.free w = true) (h : Frame w b s) :
    Frame w b (State.rawBlock s).2 := by
  unfold State.rawBlock
  repeat' first
    | with_reducible assumption | exact Part.within_trans (by decide) hw | with_reducible refine Frame.ite ?_ ?_ | split
    | with_reducible refine Frame.set_free ?_ ?_

theorem State.testBlock_frame {w : Nat} {b s : State} (hw : Part.within (Part.sc ||| Part.free) w = true) (h : Frame w b s) :
    Frame w b (State.testBlock s).1 := by
  unfold State.testBlock
  repeat' first
    | with_reducible assumption | exact Part.within_trans (by decide) hw | with_reducible refine Frame.ite ?_ ?_
    | with_reducible refine State.rawBlock_frame ?_ ?_ | exact Nat.le_refl _ | exact fun _ k => k | exact id | exact List.prefix_refl _
    | split | (lift_lets; intros) | with_reducible refine Frame.set_sc ?_ ?_ ?_ ?_ ?_ ?_

theorem State.rngFailed_frame {w : Nat} {b s : State} (hw : Part.within (Part.sc ||| Part.rcd ||| Part.cnt) w = true) (h : Frame w b s) :
    Frame w b (State.rngFailed s) := by
  unfold State.rngFailed
  repeat' first
    | with_reducible assumption | exact Part.within_trans (by decide) hw | with_reducible refine Frame.ite ?_ ?_
    | with_reducible refine State.raise_frame ?_ ?_ | exact Nat.le_refl _ | exact fun _ k => k | exact id | exact List.prefix_refl _
    | split | (lift_lets; intros) | with_reducible refine Frame.set_sc ?_ ?_ ?_ ?_ ?_ ?_

theorem State.rngBlock_frame {w : Nat} {b s : State} (hw : Part.within (Part.sc ||| Part.rcd ||| Part.cnt ||| Part.free) w = true) (h :
    Frame w b s) :
    Frame w b (State.rngBlock s) := by
  unfold State.rngBlock
  refine when_frame (fun s h => ?_) h
  have h1 : Frame w b s.testBlock.1 := State.testBlock_frame (Part.within_trans (by decide) hw) h
  generalize s.testBlock = r at h1
  exact Frame.ite (State.rngFailed_frame (Part.within_trans (by decide) hw) h1) (Frame.ite
    (Frame.set_sc (Part.within_trans (by decide) hw) id (Nat.le_refl _) (fun _ k => k) (List.prefix_refl _) h1)
    (Frame.set_sc (Part.within_trans (by decide) hw) id (Nat.le_refl _) (fun _ k => k) (List.prefix_refl _) h1))

theorem retestGo_frame {w : Nat} {b : State} (hw : Part.within (Part.sc ||| Part.free) w = true) :
    ∀ {n : Nat} {s : State}, Frame w b s → Frame w b (retestGo n s).1 := by
  intro n
  induction n with
  | zero => intro s h; exact h
  | succ n ih =>
    intro s h
    unfold retestGo
    have h1 : Frame w b s.testBlock.1 := State.testBlock_frame hw h
    dsimp only
    split
    · exact ih h1
    · exact h1

theorem State.rngRetest_frame {w : Nat} {b s : State} (hw : Part.within (Part.sc ||| Part.rcd ||| Part.cnt ||| Part.free) w = true) (h :
    Frame w b s) :
    Frame w b (State.rngRetest s) := by
  unfold State.rngRetest
  refine when_frame (fun s h => ?_) h
  have h1 : Frame w b (retestGo 8 s).1 := retestGo_frame (Part.within_trans (by decide) hw) h
  generalize retestGo 8 s = r at h1
  exact Frame.ite (State.raise_frame (Part.within_trans (by decide) hw) (Frame.set_sc (Part.within_trans (by decide) hw) id (Nat.le_refl
    _) (fun _ k => k) (List.prefix_refl _) h1)) (State.rngFailed_frame (Part.within_trans (by decide) hw) h1)

theorem State.attest_frame {w : Nat} {b s : State} {t} (hw : Part.within (Part.sc ||| Part.rcd ||| Part.cnt ||| Part.trdp ||| Part.outs)
    w = true) (h : Frame w b s) :
    Frame w b (State.attest s t) := by
  unfold State.attest
  repeat' first
    | with_reducible assumption | exact Part.within_trans (by decide) hw | with_reducible refine Frame.ite ?_ ?_
    | with_reducible refine State.raiseRated_frame ?_ ?_ | with_reducible refine State.serviceReply_frame ?_ ?_
    | with_reducible refine State.serviceRx_frame ?_ ?_ | exact Nat.le_refl _ | exact fun _ k => k | exact id | exact List.prefix_refl _
    | split | (lift_lets; intros) | with_reducible refine Frame.set_sc ?_ ?_ ?_ ?_ ?_ ?_

theorem State.attestDone_frame {w : Nat} {b s : State} (hw : Part.within (Part.sc ||| Part.cnt ||| Part.outs ||| Part.free) w = true) (h
    : Frame w b s) :
    Frame w b (State.attestDone s) := by
  unfold State.attestDone
  repeat' first
    | with_reducible assumption | exact Part.within_trans (by decide) hw | with_reducible refine Frame.ite ?_ ?_
    | with_reducible refine State.random_frame ?_ ?_ | with_reducible refine State.serviceReply_frame ?_ ?_ | exact Nat.le_refl _
    | exact fun _ k => k | exact id | exact List.prefix_refl _ | split | (lift_lets; intros)
    | with_reducible refine Frame.set_sc ?_ ?_ ?_ ?_ ?_ ?_

theorem State.identity_frame {w : Nat} {b s : State} {t} (hw : Part.within (Part.rcd ||| Part.cnt ||| Part.trdp ||| Part.outs) w = true)
    (h : Frame w b s) :
    Frame w b (State.identity s t) := by
  unfold State.identity
  repeat' first
    | with_reducible assumption | exact Part.within_trans (by decide) hw | with_reducible refine Frame.ite ?_ ?_
    | with_reducible refine State.serviceReply_frame ?_ ?_ | with_reducible refine State.serviceRx_frame ?_ ?_ | split
    | (lift_lets; intros)

theorem readWords_frame {w : Nat} {b : State} {m : Nat} {bad : Option Nat} (hw : Part.within (Part.sys ||| Part.sc ||| Part.rcd ||| Part.cnt
    ||| Part.time ||| Part.portals ||| Part.obs ||| Part.fb ||| Part.free) w = true) :
    ∀ {n a : Nat} {s : State}, Frame w b s → Frame w b (readWords m bad n a s).1 := by
  intro n
  induction n with
  | zero => intro a s h; exact h
  | succ n ih =>
    intro a s h
    exact ih (State.readChecked_frame hw h)

/-- With no uncorrectable word a read draws no free value. -/
theorem readWords_none_frame {w : Nat} {b : State} {m : Nat} (hw : Part.within (Part.sys ||| Part.sc ||| Part.rcd ||| Part.cnt ||| Part.time
    ||| Part.portals ||| Part.obs ||| Part.fb) w = true) :
    ∀ {n a : Nat} {s : State}, Frame w b s → Frame w b (readWords m none n a s).1 := by
  intro n
  induction n with
  | zero => intro a s h; exact h
  | succ n ih =>
    intro a s h
    refine ih ?_
    rw [State.readChecked_none]
    exact State.readWord_frame hw h

theorem State.requestOversize_frame {w : Nat} {b s : State} {ip req code field} (hw : Part.within (Part.rcd ||| Part.cnt ||| Part.outs) w
    = true) (h : Frame w b s) :
    Frame w b (State.requestOversize s ip req code field) := by
  unfold State.requestOversize
  repeat' first
    | with_reducible assumption | exact Part.within_trans (by decide) hw | with_reducible refine Frame.ite ?_ ?_
    | with_reducible refine State.raise_frame ?_ ?_ | with_reducible refine State.serviceReply_frame ?_ ?_

theorem State.regRead_frame {w : Nat} {b s : State} {t} (hw : Part.within (Part.sys ||| Part.sc ||| Part.rcd ||| Part.cnt ||| Part.time
    ||| Part.portals ||| Part.obs ||| Part.fb ||| Part.trdp ||| Part.outs) w = true) (h : Frame w b s) :
    Frame w b (State.regRead s t) := by
  unfold State.regRead
  repeat' first
    | with_reducible assumption | exact Part.within_trans (by decide) hw | with_reducible refine Frame.ite ?_ ?_
    | with_reducible refine State.serviceRx_frame ?_ ?_ | with_reducible refine State.raiseRated_frame ?_ ?_
    | with_reducible refine State.serviceReply_frame ?_ ?_ | with_reducible refine State.requestOversize_frame ?_ ?_
    | with_reducible refine readWords_none_frame ?_ ?_ | split | (lift_lets; intros)

theorem State.cntRequest_frame {w : Nat} {b s : State} {t req open_ most top reply} (hw : Part.within (Part.rcd ||| Part.cnt |||
    Part.trdp ||| Part.outs) w = true) (h : Frame w b s) :
    Frame w b (State.cntRequest s t req open_ most top reply) := by
  unfold State.cntRequest
  repeat' first
    | with_reducible assumption | exact Part.within_trans (by decide) hw | with_reducible refine Frame.ite ?_ ?_
    | with_reducible refine State.requestOversize_frame ?_ ?_ | with_reducible refine State.raiseRated_frame ?_ ?_
    | with_reducible refine State.serviceReply_frame ?_ ?_ | with_reducible refine State.serviceRx_frame ?_ ?_ | split
    | (lift_lets; intros)

theorem State.mntFail_frame {w : Nat} {b s : State} {result} (hw : Part.within (Part.sys ||| Part.rcd ||| Part.cnt ||| Part.outs) w =
    true) (h : Frame w b s) :
    Frame w b (State.mntFail s result) := by
  unfold State.mntFail
  repeat' first
    | with_reducible assumption | exact Part.within_trans (by decide) hw | with_reducible refine Frame.ite ?_ ?_
    | with_reducible refine State.raiseRated_frame ?_ ?_ | with_reducible refine State.emit_frame ?_ ?_ | exact id
    | exact fun _ => ⟨rfl, rfl, rfl⟩ | exact fun k => Part.out_absurd hw (by decide) k | split | (lift_lets; intros)
    | with_reducible refine Frame.set_sys ?_ ?_ ?_ ?_ ?_

theorem writeWords_frame {w : Nat} {b : State} {bad : Option Nat} (hw : Part.within (Part.sys ||| Part.bk ||| Part.nvm ||| Part.cat ||| Part.sc ||| Part.rcd
    ||| Part.cnt ||| Part.time ||| Part.seq ||| Part.portals ||| Part.obs ||| Part.axes ||| Part.fb ||| Part.links ||| Part.ilk |||
    Part.fio ||| Part.loads ||| Part.net ||| Part.trdp ||| Part.conns ||| Part.twin ||| Part.regs ||| Part.mem ||| Part.outs |||
    Part.free ||| Part.restart ||| Part.states ||| Part.actions) w = true) :
    ∀ {l : List Nat} {a : Nat} {s : State}, Frame w b s → Frame w b (writeWords bad l a s).1 := by
  intro l
  induction l with
  | nil => intro a s h; exact h
  | cons v vs ih =>
    intro a s h
    exact ih (State.busWrite_frame hw h)

theorem State.mntTransaction_frame {w : Nat} {b s : State} {b' bad} (hw : Part.within (Part.sys ||| Part.bk ||| Part.nvm ||| Part.cat
    ||| Part.sc ||| Part.rcd ||| Part.cnt ||| Part.time ||| Part.seq ||| Part.portals ||| Part.obs ||| Part.axes ||| Part.fb |||
    Part.links ||| Part.ilk ||| Part.fio ||| Part.loads ||| Part.net ||| Part.trdp ||| Part.conns ||| Part.twin ||| Part.regs |||
    Part.mem ||| Part.outs ||| Part.free ||| Part.restart ||| Part.states ||| Part.actions) w = true) (h : Frame w b s) :
    Frame w b (State.mntTransaction s b' bad) := by
  unfold State.mntTransaction
  repeat' first
    | with_reducible assumption | exact Part.within_trans (by decide) hw | with_reducible refine Frame.ite ?_ ?_
    | with_reducible refine State.mntFail_frame ?_ ?_ | with_reducible refine readWords_frame ?_ ?_
    | with_reducible refine State.emit_frame ?_ ?_ | with_reducible refine writeWords_frame ?_ ?_ | exact id | exact fun _ => rfl
    | exact fun _ _ => rfl | exact fun _ => ⟨rfl, rfl⟩ | exact fun _ => ⟨rfl, rfl, rfl⟩ | exact fun k => Part.out_absurd hw (by decide) k
    | split | (lift_lets; intros) | with_reducible refine Frame.set_sys ?_ ?_ ?_ ?_ ?_

end Sys2Proof.Machine
end

