-- ==== Sys2Proof/Laws/FrameTwin.lean ====
section
/-!
SUPPORT. Sys2Proof/Laws/FrameTwin.lean: the frame of each operation of Machine/Twin.lean.
-/

set_option Elab.async false
namespace Sys2Proof.Machine

open Sys2Proof

theorem State.setLine_frame {w : Nat} {b s : State} {low} (hw : Part.within Part.twin w = true) (h : Frame w b s) :
    Frame w b (State.setLine s low) := by
  unfold State.setLine
  repeat' first
    | with_reducible assumption | exact Part.within_trans (by decide) hw | with_reducible refine Frame.ite ?_ ?_ | split
    | (lift_lets; intros) | with_reducible refine Frame.set_twin ?_ ?_

theorem State.lineFaultNow_frame {w : Nat} {b s : State} (hw : Part.within (Part.rcd ||| Part.cnt ||| Part.twin) w = true) (h : Frame w b
    s) :
    Frame w b (State.lineFaultNow s) := by
  unfold State.lineFaultNow
  repeat' first
    | with_reducible assumption | exact Part.within_trans (by decide) hw | with_reducible refine Frame.ite ?_ ?_
    | with_reducible refine State.raise_frame ?_ ?_ | split | (lift_lets; intros) | with_reducible refine Frame.set_twin ?_ ?_

theorem State.judgeLine_frame {w : Nat} {b s : State} (hw : Part.within Part.twin w = true) (h : Frame w b s) :
    Frame w b (State.judgeLine s) := by
  unfold State.judgeLine
  repeat' first
    | with_reducible assumption | exact Part.within_trans (by decide) hw | with_reducible refine Frame.ite ?_ ?_ | split
    | (lift_lets; intros) | with_reducible refine Frame.set_twin ?_ ?_

theorem State.kazukSend_frame {w : Nat} {b s : State} {lane} (hw : Part.within (Part.twin ||| Part.outs) w = true) (h : Frame w b s) :
    Frame w b (State.kazukSend s lane) := by
  unfold State.kazukSend
  repeat' first
    | with_reducible assumption | exact Part.within_trans (by decide) hw | with_reducible refine Frame.ite ?_ ?_
    | with_reducible refine State.emit_frame ?_ ?_ | split | (lift_lets; intros) | with_reducible refine Frame.set_twin ?_ ?_

theorem State.kazukBeat_frame {w : Nat} {b s : State} {lane} (hw : Part.within (Part.bk ||| Part.time ||| Part.twin ||| Part.outs) w =
    true) (h : Frame w b s) :
    Frame w b (State.kazukBeat s lane) := by
  unfold State.kazukBeat
  repeat' first
    | with_reducible assumption | exact Part.within_trans (by decide) hw | with_reducible refine Frame.ite ?_ ?_
    | with_reducible refine when_frame (fun _ _ => ?_) ?_ | with_reducible refine State.passToTt_frame ?_ ?_
    | with_reducible refine State.kazukSend_frame ?_ ?_

theorem State.netSend_frame {w : Nat} {b s : State} (hw : Part.within (Part.cnt ||| Part.twin ||| Part.outs) w = true) (h : Frame w b s) :
    Frame w b (State.netSend s) := by
  unfold State.netSend
  repeat' first
    | with_reducible assumption | exact Part.within_trans (by decide) hw | with_reducible refine Frame.ite ?_ ?_
    | with_reducible refine State.sendTelegram_frame ?_ ?_ | split | (lift_lets; intros) | with_reducible refine Frame.set_twin ?_ ?_

theorem State.runHeld_frame {w : Nat} {b s : State} {a} (hw : Part.within (Part.sys ||| Part.bk ||| Part.nvm ||| Part.cat ||| Part.sc |||
    Part.rcd ||| Part.cnt ||| Part.time ||| Part.seq ||| Part.portals ||| Part.obs ||| Part.axes ||| Part.fb ||| Part.links ||| Part.ilk
    ||| Part.fio ||| Part.loads ||| Part.net ||| Part.trdp ||| Part.conns ||| Part.twin ||| Part.regs ||| Part.mem ||| Part.outs |||
    Part.free ||| Part.restart ||| Part.states ||| Part.actions) w = true) (h : Frame w b s) :
    Frame w b (State.runHeld s a) := by
  unfold State.runHeld
  repeat' first
    | with_reducible assumption | exact Part.within_trans (by decide) hw | with_reducible refine Frame.ite ?_ ?_
    | with_reducible refine State.sendTelegram_frame ?_ ?_ | with_reducible refine State.takeEffect_frame ?_ ?_ | split

theorem State.confirm_frame {w : Nat} {b s : State} {m} (hw : Part.within (Part.sys ||| Part.bk ||| Part.nvm ||| Part.cat ||| Part.sc |||
    Part.rcd ||| Part.cnt ||| Part.time ||| Part.seq ||| Part.portals ||| Part.obs ||| Part.axes ||| Part.fb ||| Part.links ||| Part.ilk
    ||| Part.fio ||| Part.loads ||| Part.net ||| Part.trdp ||| Part.conns ||| Part.twin ||| Part.regs ||| Part.mem ||| Part.outs |||
    Part.free ||| Part.restart ||| Part.states ||| Part.actions) w = true) (h : Frame w b s) :
    Frame w b (State.confirm s m) := by
  unfold State.confirm
  repeat' first
    | with_reducible assumption | exact Part.within_trans (by decide) hw | with_reducible refine Frame.ite ?_ ?_
    | with_reducible refine forEach_frame (fun _ _ _ => ?_) _ ?_ | with_reducible refine State.runHeld_frame ?_ ?_
    | with_reducible refine State.count_frame ?_ ?_ | split | (lift_lets; intros) | with_reducible refine Frame.set_twin ?_ ?_

theorem State.mirrorAck_frame {w : Nat} {b s : State} {b'} (hw : Part.within (Part.sys ||| Part.bk ||| Part.nvm ||| Part.cat ||| Part.sc
    ||| Part.rcd ||| Part.cnt ||| Part.time ||| Part.seq ||| Part.portals ||| Part.obs ||| Part.axes ||| Part.fb ||| Part.links |||
    Part.ilk ||| Part.fio ||| Part.loads ||| Part.net ||| Part.trdp ||| Part.conns ||| Part.twin ||| Part.regs ||| Part.mem ||| Part.outs
    ||| Part.free ||| Part.restart ||| Part.states ||| Part.actions) w = true) (h : Frame w b s) :
    Frame w b (State.mirrorAck s b') := by
  unfold State.mirrorAck
  repeat' first
    | with_reducible assumption | exact Part.within_trans (by decide) hw | with_reducible refine Frame.ite ?_ ?_
    | with_reducible refine when_frame (fun _ _ => ?_) ?_ | with_reducible refine State.count_frame ?_ ?_
    | with_reducible refine State.confirm_frame ?_ ?_

theorem State.mirrorResend_frame {w : Nat} {b s : State} (hw : Part.within (Part.bk ||| Part.cnt ||| Part.time ||| Part.twin |||
    Part.outs) w = true) (h : Frame w b s) :
    Frame w b (State.mirrorResend s) := by
  unfold State.mirrorResend
  repeat' first
    | with_reducible assumption | exact Part.within_trans (by decide) hw | with_reducible refine Frame.ite ?_ ?_
    | with_reducible refine when_frame (fun _ _ => ?_) ?_ | with_reducible refine forEach_frame (fun _ _ _ => ?_) _ ?_
    | with_reducible refine State.count_frame ?_ ?_ | with_reducible refine State.emit_frame ?_ ?_
    | with_reducible refine State.passTo_frame ?_ ?_ | split | (lift_lets; intros) | with_reducible refine Frame.set_twin ?_ ?_

theorem State.mirrorAll_frame {w : Nat} {b s : State} (hw : Part.within (Part.twin ||| Part.outs) w = true) (h : Frame w b s) :
    Frame w b (State.mirrorAll s) := by
  unfold State.mirrorAll
  repeat' first
    | with_reducible assumption | exact Part.within_trans (by decide) hw | with_reducible refine Frame.ite ?_ ?_
    | with_reducible refine forEach_frame (fun _ _ _ => ?_) _ ?_ | with_reducible refine State.obsItems_frame ?_ ?_
    | with_reducible refine State.mirrorAxis_frame ?_ ?_ | with_reducible refine State.mirror_frame ?_ ?_
    | with_reducible refine State.mirrorSlot_frame ?_ ?_ | split

theorem State.startSync_frame {w : Nat} {b s : State} (hw : Part.within (Part.twin ||| Part.outs) w = true) (h : Frame w b s) :
    Frame w b (State.startSync s) := by
  unfold State.startSync
  repeat' first
    | with_reducible assumption | exact Part.within_trans (by decide) hw | with_reducible refine Frame.ite ?_ ?_
    | with_reducible refine State.mirrorAll_frame ?_ ?_ | split | (lift_lets; intros) | with_reducible refine Frame.set_twin ?_ ?_

theorem State.mateFound_frame {w : Nat} {b s : State} (hw : Part.within (Part.rcd ||| Part.cnt ||| Part.twin ||| Part.outs) w = true) (h
    : Frame w b s) :
    Frame w b (State.mateFound s) := by
  unfold State.mateFound
  repeat' first
    | with_reducible assumption | exact Part.within_trans (by decide) hw | with_reducible refine Frame.ite ?_ ?_
    | with_reducible refine State.raise_frame ?_ ?_ | with_reducible refine State.startSync_frame ?_ ?_ | split | (lift_lets; intros)
    | with_reducible refine Frame.set_twin ?_ ?_

theorem State.syncWait_frame {w : Nat} {b s : State} {found} (hw : Part.within (Part.seq ||| Part.trdp ||| Part.twin ||| Part.actions) w
    = true) (h : Frame w b s) :
    Frame w b (State.syncWait s found) := by
  unfold State.syncWait
  repeat' first
    | with_reducible assumption | exact Part.within_trans (by decide) hw | with_reducible refine Frame.ite ?_ ?_ | exact id
    | exact fun _ => rfl | exact fun _ _ => rfl | exact fun _ => ⟨rfl, rfl⟩ | exact fun _ => ⟨rfl, rfl, rfl⟩
    | exact fun k => Part.out_absurd hw (by decide) k | split | (lift_lets; intros)
    | with_reducible refine Frame.set_seq_trdp_twin ?_ ?_ ?_

theorem State.judgeRevert_frame {w : Nat} {b s : State} (hw : Part.within Part.twin w = true) (h : Frame w b s) :
    Frame w b (State.judgeRevert s) := by
  unfold State.judgeRevert
  repeat' first
    | with_reducible assumption | exact Part.within_trans (by decide) hw | with_reducible refine Frame.ite ?_ ?_ | split
    | (lift_lets; intros) | with_reducible refine Frame.set_twin ?_ ?_

theorem State.judgeFallback_frame {w : Nat} {b s : State} (hw : Part.within (Part.rcd ||| Part.cnt ||| Part.twin) w = true) (h : Frame w
    b s) :
    Frame w b (State.judgeFallback s) := by
  unfold State.judgeFallback
  repeat' first
    | with_reducible assumption | exact Part.within_trans (by decide) hw | with_reducible refine Frame.ite ?_ ?_
    | with_reducible refine State.raise_frame ?_ ?_ | split | (lift_lets; intros) | with_reducible refine Frame.set_twin ?_ ?_

theorem State.pathHeard_frame {w : Nat} {b s : State} {net lane} (hw : Part.within (Part.rcd ||| Part.cnt ||| Part.twin) w = true) (h :
    Frame w b s) :
    Frame w b (State.pathHeard s net lane) := by
  unfold State.pathHeard
  repeat' first
    | with_reducible assumption | exact Part.within_trans (by decide) hw | with_reducible refine Frame.ite ?_ ?_
    | with_reducible refine State.judgeFallback_frame ?_ ?_ | with_reducible refine State.raise_frame ?_ ?_ | split | with_reducible refine Frame.set_twin ?_ ?_

theorem State.acceptBeat_frame {w : Nat} {b s : State} {b' net lane low} (hw : Part.within (Part.sys ||| Part.bk ||| Part.nvm |||
    Part.cat ||| Part.sc ||| Part.rcd ||| Part.cnt ||| Part.time ||| Part.seq ||| Part.portals ||| Part.obs ||| Part.axes ||| Part.fb
    ||| Part.links ||| Part.ilk ||| Part.fio ||| Part.loads ||| Part.net ||| Part.trdp ||| Part.conns ||| Part.twin ||| Part.regs |||
    Part.mem ||| Part.outs ||| Part.free ||| Part.restart ||| Part.states ||| Part.actions) w = true) (h : Frame w b s) :
    Frame w b (State.acceptBeat s b' net lane low) := by
  unfold State.acceptBeat
  repeat' first
    | with_reducible assumption | exact Part.within_trans (by decide) hw | with_reducible refine Frame.ite ?_ ?_
    | with_reducible refine State.setLine_frame ?_ ?_ | with_reducible refine State.pathHeard_frame ?_ ?_
    | with_reducible refine State.confirm_frame ?_ ?_ | with_reducible refine State.judgeLine_frame ?_ ?_
    | with_reducible refine State.mateFound_frame ?_ ?_ | with_reducible refine State.syncWait_frame ?_ ?_
    | with_reducible refine State.judgeRevert_frame ?_ ?_ | exact id | exact fun _ => rfl | exact fun _ _ => rfl
    | exact fun _ => ⟨rfl, rfl⟩ | exact fun _ => ⟨rfl, rfl, rfl⟩ | exact fun k => Part.out_absurd hw (by decide) k | split
    | (lift_lets; intros) | with_reducible refine Frame.set_twin ?_ ?_

theorem State.kazukIn_frame {w : Nat} {b s : State} {lane b' low} (hw : Part.within (Part.sys ||| Part.bk ||| Part.nvm ||| Part.cat |||
    Part.sc ||| Part.rcd ||| Part.cnt ||| Part.time ||| Part.seq ||| Part.portals ||| Part.obs ||| Part.axes ||| Part.fb ||| Part.links
    ||| Part.ilk ||| Part.fio ||| Part.loads ||| Part.net ||| Part.trdp ||| Part.conns ||| Part.twin ||| Part.regs ||| Part.mem |||
    Part.outs ||| Part.free ||| Part.restart ||| Part.states ||| Part.actions) w = true) (h : Frame w b s) :
    Frame w b (State.kazukIn s lane b' low) := by
  unfold State.kazukIn
  repeat' first
    | with_reducible assumption | exact Part.within_trans (by decide) hw | with_reducible refine Frame.ite ?_ ?_
    | with_reducible refine when_frame (fun _ _ => ?_) ?_ | with_reducible refine State.setLine_frame ?_ ?_
    | with_reducible refine State.count_frame ?_ ?_ | with_reducible refine State.acceptBeat_frame ?_ ?_

theorem State.takePortal_frame {w : Nat} {b s : State} {p e} (hw : Part.within (Part.portals ||| Part.states) w = true) (h : Frame w b
    s) :
    Frame w b (State.takePortal s p e) := by
  unfold State.takePortal
  repeat' first
    | with_reducible assumption | exact Part.within_trans (by decide) hw | with_reducible refine Frame.ite ?_ ?_
    | with_reducible refine State.modPortal_frame ?_ ?_ ?_ | exact id | exact fun _ => rfl | exact fun _ _ => rfl
    | exact fun _ => ⟨rfl, rfl⟩ | exact fun _ => ⟨rfl, rfl, rfl⟩ | exact fun k => Part.out_absurd hw (by decide) k | split
    | (lift_lets; intros)

theorem State.takeAxisItem_frame {w : Nat} {b s : State} {b'} (hw : Part.within (Part.portals ||| Part.axes ||| Part.links |||
    Part.twin) w = true) (h : Frame w b s) :
    Frame w b (State.takeAxisItem s b') := by
  unfold State.takeAxisItem
  repeat' first
    | with_reducible assumption | exact Part.within_trans (by decide) hw | with_reducible refine Frame.ite ?_ ?_
    | with_reducible refine State.modAxis_frame ?_ ?_ | with_reducible refine State.modPortal_frame ?_ ?_ ?_
    | with_reducible refine State.modLink_frame ?_ ?_ | exact rfl | exact id | exact fun _ => rfl | exact fun _ _ => rfl | exact fun _ => ⟨rfl, rfl⟩
    | exact fun _ => ⟨rfl, rfl, rfl⟩ | exact fun k => Part.out_absurd hw (by decide) k | split | (lift_lets; intros)
    | with_reducible refine Frame.set_twin ?_ ?_

theorem State.takeObs_frame {w : Nat} {b s : State} {b'} (hw : Part.within (Part.portals ||| Part.obs) w = true) (h : Frame w b s) :
    Frame w b (State.takeObs s b') := by
  unfold State.takeObs
  repeat' first
    | with_reducible assumption | exact Part.within_trans (by decide) hw | with_reducible refine Frame.ite ?_ ?_
    | with_reducible refine foldl_frame (fun _ _ _ => ?_) _ ?_ | with_reducible refine State.modOb_frame ?_ ?_
    | with_reducible refine State.modPortal_frame ?_ ?_ ?_ | exact id | exact fun _ => rfl | exact fun _ _ => rfl
    | exact fun _ => ⟨rfl, rfl⟩ | exact fun _ => ⟨rfl, rfl, rfl⟩ | exact fun k => Part.out_absurd hw (by decide) k | split
    | (lift_lets; intros)

theorem State.takeConn_frame {w : Nat} {b s : State} {b'} (hw : Part.within Part.conns w = true) (h : Frame w b s) :
    Frame w b (State.takeConn s b') := by
  unfold State.takeConn
  repeat' first
    | with_reducible assumption | exact Part.within_trans (by decide) hw | with_reducible refine Frame.ite ?_ ?_
    | with_reducible refine State.modConn_frame ?_ ?_

theorem State.takeStream_frame {w : Nat} {b s : State} {b'} (hw : Part.within Part.trdp w = true) (h : Frame w b s) :
    Frame w b (State.takeStream s b') := by
  unfold State.takeStream
  repeat' first
    | with_reducible assumption | exact Part.within_trans (by decide) hw | with_reducible refine Frame.ite ?_ ?_ | split
    | (lift_lets; intros) | with_reducible refine Frame.set_trdp ?_ ?_

theorem State.raiseCounter_frame {w : Nat} {b s : State} {k n} (hw : Part.within (Part.sc ||| Part.mem) w = true) (h : Frame w b s) :
    Frame w b (State.raiseCounter s k n) := by
  unfold State.raiseCounter
  repeat' first
    | with_reducible assumption | exact Part.within_trans (by decide) hw | with_reducible refine Frame.ite ?_ ?_
    | with_reducible refine State.saveNum_frame ?_ ?_ | exact Nat.le_refl _ | exact fun _ k => k | exact id | exact List.prefix_refl _
    | split | (lift_lets; intros) | with_reducible refine Frame.set_sc ?_ ?_ ?_ ?_ ?_ ?_

theorem State.raiseCycles_frame {w : Nat} {b s : State} {p n} (hw : Part.within (Part.portals ||| Part.mem) w = true) (h : Frame w b s) :
    Frame w b (State.raiseCycles s p n) := by
  unfold State.raiseCycles
  repeat' first
    | with_reducible assumption | exact Part.within_trans (by decide) hw | with_reducible refine Frame.ite ?_ ?_
    | with_reducible refine State.modPortal_frame ?_ ?_ ?_ | with_reducible refine State.saveNum_frame ?_ ?_ | exact fun _ => rfl
    | exact fun _ _ => rfl

theorem State.laterPass_frame {w : Nat} {b s : State} {n t} (hw : Part.within (Part.ilk ||| Part.mem) w = true) (h : Frame w b s) :
    Frame w b (State.laterPass s n t) := by
  unfold State.laterPass
  repeat' first
    | with_reducible assumption | exact Part.within_trans (by decide) hw | with_reducible refine Frame.ite ?_ ?_
    | with_reducible refine State.saveNum_frame ?_ ?_ | split | (lift_lets; intros) | with_reducible refine Frame.set_ilk ?_ ?_

theorem State.gapOver_frame {w : Nat} {b s : State} {n cause} (hw : Part.within (Part.rcd ||| Part.cnt ||| Part.mem) w = true) (h :
    Frame w b s) :
    Frame w b (State.gapOver s n cause) := by
  unfold State.gapOver
  repeat' first
    | with_reducible assumption | exact Part.within_trans (by decide) hw | with_reducible refine Frame.ite ?_ ?_
    | with_reducible refine forEach_frame (fun _ _ _ => ?_) _ ?_ | with_reducible refine State.markFor_frame ?_ ?_
    | with_reducible refine State.placeNumbered_frame ?_ ?_ | exact id | exact fun _ => rfl
    | exact fun _ _ => rfl | exact fun _ => ⟨rfl, rfl⟩ | exact fun _ => ⟨rfl, rfl, rfl⟩ | exact fun k => Part.out_absurd hw (by decide) k
    | split | (lift_lets; intros) | with_reducible refine Frame.set_rcd ?_ ?_

theorem State.takeRecord_frame {w : Nat} {b s : State} {b'} (hw : Part.within (Part.rcd ||| Part.cnt ||| Part.mem) w = true) (h : Frame
    w b s) :
    Frame w b (State.takeRecord s b') := by
  unfold State.takeRecord
  repeat' first
    | with_reducible assumption | exact Part.within_trans (by decide) hw | with_reducible refine Frame.ite ?_ ?_
    | with_reducible refine State.gapOver_frame ?_ ?_ | with_reducible refine State.markFor_frame ?_ ?_
    | with_reducible refine State.placeNumbered_frame ?_ ?_ | exact id | exact fun _ => rfl | exact fun _ _ => rfl
    | exact fun _ => ⟨rfl, rfl⟩ | exact fun _ => ⟨rfl, rfl, rfl⟩ | exact fun k => Part.out_absurd hw (by decide) k | split
    | (lift_lets; intros) | with_reducible refine Frame.set_rcd ?_ ?_

theorem State.takeSlot_frame {w : Nat} {b s : State} {b'} (hw : Part.within (Part.seq ||| Part.actions) w = true) (h : Frame w b s) :
    Frame w b (State.takeSlot s b') := by
  unfold State.takeSlot
  repeat' first
    | with_reducible assumption | exact Part.within_trans (by decide) hw | with_reducible refine Frame.ite ?_ ?_
    | with_reducible refine State.setSlot_frame ?_ ?_ | exact id | exact fun _ => rfl | exact fun _ _ => rfl | exact fun _ => ⟨rfl, rfl⟩
    | exact fun _ => ⟨rfl, rfl, rfl⟩ | exact fun k => Part.out_absurd hw (by decide) k | split | (lift_lets; intros)
    | with_reducible refine Frame.set_seq ?_ ?_ ?_

theorem State.takeItem_frame {w : Nat} {b s : State} {i} (hw : Part.within (Part.sc ||| Part.rcd ||| Part.cnt ||| Part.seq |||
    Part.portals ||| Part.obs ||| Part.axes ||| Part.links ||| Part.ilk ||| Part.trdp ||| Part.conns ||| Part.twin ||| Part.mem |||
    Part.states ||| Part.actions) w = true) (h : Frame w b s) :
    Frame w b (State.takeItem s i) := by
  unfold State.takeItem
  repeat' first
    | with_reducible assumption | exact Part.within_trans (by decide) hw | with_reducible refine Frame.ite ?_ ?_
    | with_reducible refine forEach_frame (fun _ _ _ => ?_) _ ?_ | with_reducible refine State.laterPass_frame ?_ ?_
    | with_reducible refine State.raiseCycles_frame ?_ ?_ | with_reducible refine State.takeStream_frame ?_ ?_
    | with_reducible refine State.takeConn_frame ?_ ?_ | with_reducible refine State.takeObs_frame ?_ ?_
    | with_reducible refine State.takeAxisItem_frame ?_ ?_ | with_reducible refine State.takeRecord_frame ?_ ?_
    | with_reducible refine State.raiseCounter_frame ?_ ?_ | with_reducible refine State.takeSlot_frame ?_ ?_
    | with_reducible refine State.takePortal_frame ?_ ?_ | split

theorem State.takeMirror_frame {w : Nat} {b s : State} {m items} (hw : Part.within (Part.sc ||| Part.rcd ||| Part.cnt ||| Part.seq |||
    Part.portals ||| Part.obs ||| Part.axes ||| Part.links ||| Part.ilk ||| Part.trdp ||| Part.conns ||| Part.twin ||| Part.mem |||
    Part.states ||| Part.actions) w = true) (h : Frame w b s) :
    Frame w b (State.takeMirror s m items).1 := by
  unfold State.takeMirror
  repeat' first
    | with_reducible assumption | exact Part.within_trans (by decide) hw | with_reducible refine Frame.ite ?_ ?_
    | with_reducible refine forEach_frame (fun _ _ _ => ?_) _ ?_ | with_reducible refine State.takeItem_frame ?_ ?_ | split
    | (lift_lets; intros) | with_reducible refine Frame.set_twin ?_ ?_

theorem State.mirrorIn_frame {w : Nat} {b s : State} {b'} (hw : Part.within (Part.sc ||| Part.rcd ||| Part.cnt ||| Part.seq |||
    Part.portals ||| Part.obs ||| Part.axes ||| Part.links ||| Part.ilk ||| Part.trdp ||| Part.conns ||| Part.twin ||| Part.mem |||
    Part.outs ||| Part.states ||| Part.actions) w = true) (h : Frame w b s) :
    Frame w b (State.mirrorIn s b') := by
  unfold State.mirrorIn
  repeat' first
    | with_reducible assumption | exact Part.within_trans (by decide) hw | with_reducible refine Frame.ite ?_ ?_
    | with_reducible refine when_frame (fun _ _ => ?_) ?_ | with_reducible refine State.emit_frame ?_ ?_
    | with_reducible refine State.takeMirror_frame ?_ ?_ | with_reducible refine State.count_frame ?_ ?_ | split

theorem State.blockIn_frame {w : Nat} {b : State} (hw : Part.within (Part.sc ||| Part.rcd ||| Part.cnt ||| Part.seq ||| Part.portals |||
    Part.obs ||| Part.axes ||| Part.links ||| Part.ilk ||| Part.trdp ||| Part.conns ||| Part.twin ||| Part.mem ||| Part.states |||
    Part.actions) w = true) :
    ∀ {k : Nat} {s : State} {x : List Byte}, Frame w b s → Frame w b (State.blockIn k s x) := by
  intro k
  induction k with
  | zero => intro s x h; exact h
  | succ k ih =>
    intro s x h
    unfold State.blockIn
    dsimp only
    split
    · exact h
    · split
      · exact State.count_frame (Part.within_trans (by decide) hw) h
      · exact ih (State.takeMirror_frame (Part.within_trans (by decide) hw) h)

theorem State.netIn_frame {w : Nat} {b s : State} {t low} (hw : Part.within (Part.sys ||| Part.bk ||| Part.nvm ||| Part.cat ||| Part.sc
    ||| Part.rcd ||| Part.cnt ||| Part.time ||| Part.seq ||| Part.portals ||| Part.obs ||| Part.axes ||| Part.fb ||| Part.links |||
    Part.ilk ||| Part.fio ||| Part.loads ||| Part.net ||| Part.trdp ||| Part.conns ||| Part.twin ||| Part.regs ||| Part.mem ||| Part.outs
    ||| Part.free ||| Part.restart ||| Part.states ||| Part.actions) w = true) (h : Frame w b s) :
    Frame w b (State.netIn s t low) := by
  unfold State.netIn
  repeat' first
    | with_reducible assumption | exact Part.within_trans (by decide) hw | with_reducible refine Frame.ite ?_ ?_
    | with_reducible refine State.blockIn_frame ?_ ?_ | with_reducible refine State.acceptBeat_frame ?_ ?_
    | with_reducible refine State.setLine_frame ?_ ?_ | with_reducible refine State.count_frame ?_ ?_
    | with_reducible refine State.trdpDiscard_frame ?_ ?_ | with_reducible refine State.trdpRx_frame ?_ ?_ | split | (lift_lets; intros)
    | with_reducible refine Frame.set_twin ?_ ?_

theorem State.pathDown_frame {w : Nat} {b s : State} {net} (hw : Part.within (Part.bk ||| Part.rcd ||| Part.cnt ||| Part.time |||
    Part.twin) w = true) (h : Frame w b s) :
    Frame w b (State.pathDown s net) := by
  unfold State.pathDown
  repeat' first
    | with_reducible assumption | exact Part.within_trans (by decide) hw | with_reducible refine Frame.ite ?_ ?_
    | with_reducible refine when_frame (fun _ _ => ?_) ?_ | with_reducible refine State.judgeFallback_frame ?_ ?_
    | with_reducible refine State.raise_frame ?_ ?_ | with_reducible refine State.passTo_frame ?_ ?_ | split | (lift_lets; intros)
    | with_reducible refine Frame.set_twin ?_ ?_

theorem State.loseMate_frame {w : Nat} {b s : State} (hw : Part.within (Part.sys ||| Part.bk ||| Part.nvm ||| Part.cat ||| Part.sc |||
    Part.rcd ||| Part.cnt ||| Part.time ||| Part.seq ||| Part.portals ||| Part.obs ||| Part.axes ||| Part.fb ||| Part.links ||| Part.ilk
    ||| Part.fio ||| Part.loads ||| Part.net ||| Part.trdp ||| Part.conns ||| Part.twin ||| Part.regs ||| Part.mem ||| Part.outs |||
    Part.free ||| Part.restart ||| Part.states ||| Part.actions) w = true) (h : Frame w b s) :
    Frame w b (State.loseMate s) := by
  unfold State.loseMate
  repeat' first
    | with_reducible assumption | exact Part.within_trans (by decide) hw | with_reducible refine Frame.ite ?_ ?_
    | with_reducible refine forEach_frame (fun _ _ _ => ?_) _ ?_ | with_reducible refine State.runHeld_frame ?_ ?_
    | with_reducible refine State.raise_frame ?_ ?_ | split | (lift_lets; intros) | with_reducible refine Frame.set_twin ?_ ?_

theorem State.mateSilent_frame {w : Nat} {b s : State} (hw : Part.within (Part.sys ||| Part.bk ||| Part.nvm ||| Part.cat ||| Part.sc |||
    Part.rcd ||| Part.cnt ||| Part.time ||| Part.seq ||| Part.portals ||| Part.obs ||| Part.axes ||| Part.fb ||| Part.links ||| Part.ilk
    ||| Part.fio ||| Part.loads ||| Part.net ||| Part.trdp ||| Part.conns ||| Part.twin ||| Part.regs ||| Part.mem ||| Part.outs |||
    Part.free ||| Part.restart ||| Part.states ||| Part.actions) w = true) (h : Frame w b s) :
    Frame w b (State.mateSilent s) := by
  unfold State.mateSilent
  repeat' first
    | with_reducible assumption | exact Part.within_trans (by decide) hw | with_reducible refine Frame.ite ?_ ?_
    | with_reducible refine when_frame (fun _ _ => ?_) ?_ | with_reducible refine State.raise_frame ?_ ?_
    | with_reducible refine State.judgeRevert_frame ?_ ?_ | with_reducible refine State.loseMate_frame ?_ ?_
    | with_reducible refine State.passTo_frame ?_ ?_ | split | (lift_lets; intros) | with_reducible refine Frame.set_twin ?_ ?_

theorem State.takeAxis_frame {w : Nat} {b s : State} {n} (hw : Part.within (Part.axes ||| Part.fb ||| Part.regs ||| Part.outs) w = true)
    (h : Frame w b s) :
    Frame w b (State.takeAxis s n) := by
  unfold State.takeAxis
  repeat' first
    | with_reducible assumption | exact Part.within_trans (by decide) hw | with_reducible refine Frame.ite ?_ ?_
    | with_reducible refine State.fbPset_frame ?_ ?_ | with_reducible refine State.modFbp_frame ?_ ?_
    | with_reducible refine State.modAxis_frame ?_ ?_ | with_reducible refine State.replaceSeg_frame ?_ ?_ | split | (lift_lets; intros)

theorem State.takeoverSync_frame {w : Nat} {b s : State} (hw : Part.within (Part.rcd ||| Part.cnt ||| Part.portals ||| Part.axes |||
    Part.fb ||| Part.loads ||| Part.trdp ||| Part.twin ||| Part.regs ||| Part.mem ||| Part.outs) w = true) (h : Frame w b s) :
    Frame w b (State.takeoverSync s) := by
  unfold State.takeoverSync
  repeat' first
    | with_reducible assumption | exact Part.within_trans (by decide) hw | with_reducible refine Frame.ite ?_ ?_
    | with_reducible refine forEach_frame (fun _ _ _ => ?_) _ ?_ | with_reducible refine State.closeStream_frame ?_ ?_
    | with_reducible refine State.takeAxis_frame ?_ ?_ | with_reducible refine State.portalOutputs_frame ?_ ?_
    | with_reducible refine State.gapOver_frame ?_ ?_ | split | (lift_lets; intros) | with_reducible refine Frame.set_twin ?_ ?_

theorem State.takeoverUnsync_frame {w : Nat} {b s : State} (hw : Part.within (Part.sys ||| Part.sc ||| Part.rcd ||| Part.cnt |||
    Part.seq ||| Part.portals ||| Part.obs ||| Part.axes ||| Part.loads ||| Part.trdp ||| Part.conns ||| Part.twin ||| Part.mem |||
    Part.outs ||| Part.free ||| Part.states) w = true) (h : Frame w b s) :
    Frame w b (State.takeoverUnsync s) := by
  unfold State.takeoverUnsync
  repeat' first
    | with_reducible assumption | exact Part.within_trans (by decide) hw | with_reducible refine Frame.ite ?_ ?_
    | with_reducible refine forEach_frame (fun _ _ _ => ?_) _ ?_ | with_reducible refine State.gapOver_frame ?_ ?_
    | with_reducible refine State.connClosed_frame ?_ ?_
    | with_reducible refine State.closeStream_frame ?_ ?_ | with_reducible refine State.modPortal_frame ?_ ?_ ?_
    | with_reducible refine State.t1_frame ?_ ?_ | with_reducible refine State.raise_frame ?_ ?_ | exact id | exact fun _ => rfl
    | exact fun _ _ => rfl | exact fun _ => ⟨rfl, rfl⟩ | exact fun _ => ⟨rfl, rfl, rfl⟩ | exact fun k => Part.out_absurd hw (by decide) k
    | split | (lift_lets; intros)

theorem State.claim_frame {w : Nat} {b s : State} (hw : Part.within (Part.sys ||| Part.bk ||| Part.nvm ||| Part.cat ||| Part.sc |||
    Part.rcd ||| Part.cnt ||| Part.time ||| Part.seq ||| Part.portals ||| Part.obs ||| Part.axes ||| Part.fb ||| Part.links ||| Part.ilk
    ||| Part.fio ||| Part.loads ||| Part.net ||| Part.trdp ||| Part.conns ||| Part.twin ||| Part.regs ||| Part.mem ||| Part.outs |||
    Part.free ||| Part.restart ||| Part.states ||| Part.actions) w = true) (h : Frame w b s) :
    Frame w b (State.claim s) := by
  unfold State.claim
  repeat' first
    | with_reducible assumption | exact Part.within_trans (by decide) hw | with_reducible refine Frame.ite ?_ ?_
    | with_reducible refine when_frame (fun _ _ => ?_) ?_ | with_reducible refine forEach_frame (fun _ _ _ => ?_) _ ?_
    | with_reducible refine State.startSync_frame ?_ ?_ | with_reducible refine State.loseMate_frame ?_ ?_
    | with_reducible refine State.dlStart_frame ?_ ?_ | with_reducible refine State.takeoverUnsync_frame ?_ ?_
    | with_reducible refine State.takeoverSync_frame ?_ ?_ | with_reducible refine State.garpStart_frame ?_ ?_
    | with_reducible refine State.raise_frame ?_ ?_ | with_reducible refine State.passToTt_frame ?_ ?_
    | with_reducible refine State.passTo_frame ?_ ?_ | split | (lift_lets; intros) | with_reducible refine Frame.set_twin ?_ ?_

theorem State.letGo_frame {w : Nat} {b s : State} (hw : Part.within (Part.seq ||| Part.axes ||| Part.twin ||| Part.actions) w = true) (h
    : Frame w b s) :
    Frame w b (State.letGo s) := by
  unfold State.letGo
  repeat' first
    | with_reducible assumption | exact Part.within_trans (by decide) hw | with_reducible refine Frame.ite ?_ ?_
    | with_reducible refine forEach_frame (fun _ _ _ => ?_) _ ?_ | with_reducible refine State.torqueOffNow_frame ?_ ?_
    | exact fun _ => ⟨rfl, rfl⟩ | exact fun k => Part.out_absurd hw (by decide) k | split | (lift_lets; intros)
    | with_reducible refine Frame.set_seq ?_ ?_ ?_ | with_reducible refine Frame.set_twin ?_ ?_
    | with_reducible refine Frame.set_seq_twin ?_ ?_ ?_

theorem State.release_frame {w : Nat} {b s : State} {cause} (hw : Part.within (Part.rcd ||| Part.cnt ||| Part.seq ||| Part.axes |||
    Part.twin ||| Part.actions) w = true) (h : Frame w b s) :
    Frame w b (State.release s cause) := by
  unfold State.release
  repeat' first
    | with_reducible assumption | exact Part.within_trans (by decide) hw | with_reducible refine Frame.ite ?_ ?_
    | with_reducible refine State.raise_frame ?_ ?_ | with_reducible refine State.letGo_frame ?_ ?_ | split | (lift_lets; intros)
    | with_reducible refine Frame.set_twin ?_ ?_

theorem State.announce_frame {w : Nat} {b s : State} {cause} (hw : Part.within (Part.cnt ||| Part.twin ||| Part.outs) w = true) (h :
    Frame w b s) :
    Frame w b (State.announce s cause) := by
  unfold State.announce
  repeat' first
    | with_reducible assumption | exact Part.within_trans (by decide) hw | with_reducible refine Frame.ite ?_ ?_
    | with_reducible refine State.netSend_frame ?_ ?_ | with_reducible refine State.kazukSend_frame ?_ ?_ | split | (lift_lets; intros)
    | with_reducible refine Frame.set_twin ?_ ?_

theorem State.releaseAnnounce_frame {w : Nat} {b s : State} (hw : Part.within (Part.cnt ||| Part.twin ||| Part.outs) w = true) (h : Frame
    w b s) :
    Frame w b (State.releaseAnnounce s) := by
  unfold State.releaseAnnounce
  repeat' first
    | with_reducible assumption | exact Part.within_trans (by decide) hw | with_reducible refine Frame.ite ?_ ?_
    | with_reducible refine when_frame (fun _ _ => ?_) ?_ | with_reducible refine State.announce_frame ?_ ?_ | split

theorem State.released_frame {w : Nat} {b s : State} (hw : Part.within (Part.bk ||| Part.rcd ||| Part.cnt ||| Part.time ||| Part.seq |||
    Part.axes ||| Part.twin ||| Part.actions) w = true) (h : Frame w b s) :
    Frame w b (State.released s) := by
  unfold State.released
  repeat' first
    | with_reducible assumption | exact Part.within_trans (by decide) hw | with_reducible refine Frame.ite ?_ ?_
    | with_reducible refine State.passTo_frame ?_ ?_ | with_reducible refine State.release_frame ?_ ?_ | split

theorem State.lineFault_frame {w : Nat} {b s : State} {low} (hw : Part.within (Part.bk ||| Part.rcd ||| Part.cnt ||| Part.time |||
    Part.seq ||| Part.axes ||| Part.twin ||| Part.actions) w = true) (h : Frame w b s) :
    Frame w b (State.lineFault s low) := by
  unfold State.lineFault
  repeat' first
    | with_reducible assumption | exact Part.within_trans (by decide) hw | with_reducible refine Frame.ite ?_ ?_
    | with_reducible refine when_frame (fun _ _ => ?_) ?_ | with_reducible refine State.passTo_frame ?_ ?_
    | with_reducible refine State.setLine_frame ?_ ?_ | with_reducible refine State.letGo_frame ?_ ?_
    | with_reducible refine State.lineFaultNow_frame ?_ ?_ | split | (lift_lets; intros)

theorem State.quietRelease_frame {w : Nat} {b s : State} (hw : Part.within (Part.bk ||| Part.cnt ||| Part.time ||| Part.twin |||
    Part.outs) w = true) (h : Frame w b s) :
    Frame w b (State.quietRelease s) := by
  unfold State.quietRelease
  repeat' first
    | with_reducible assumption | exact Part.within_trans (by decide) hw | with_reducible refine Frame.ite ?_ ?_
    | with_reducible refine when_frame (fun _ _ => ?_) ?_ | with_reducible refine State.announce_frame ?_ ?_
    | with_reducible refine State.passToTt_frame ?_ ?_ | split | (lift_lets; intros) | with_reducible refine Frame.set_twin ?_ ?_

theorem State.transferRejected_frame {w : Nat} {b s : State} (hw : Part.within (Part.bk ||| Part.rcd ||| Part.cnt ||| Part.time |||
    Part.twin) w = true) (h : Frame w b s) :
    Frame w b (State.transferRejected s) := by
  unfold State.transferRejected
  repeat' first
    | with_reducible assumption | exact Part.within_trans (by decide) hw | with_reducible refine Frame.ite ?_ ?_
    | with_reducible refine State.raise_frame ?_ ?_ | with_reducible refine State.passTo_frame ?_ ?_ | split | (lift_lets; intros)
    | with_reducible refine Frame.set_twin ?_ ?_

theorem State.revertRequest_frame {w : Nat} {b s : State} (hw : Part.within (Part.bk ||| Part.time ||| Part.twin) w = true) (h : Frame w
    b s) :
    Frame w b (State.revertRequest s) := by
  unfold State.revertRequest
  repeat' first
    | with_reducible assumption | exact Part.within_trans (by decide) hw | with_reducible refine Frame.ite ?_ ?_
    | with_reducible refine State.passTo_frame ?_ ?_ | with_reducible refine State.judgeRevert_frame ?_ ?_ | split | (lift_lets; intros)
    | with_reducible refine Frame.set_twin ?_ ?_

theorem State.align_frame {w : Nat} {b s : State} {next cnts cycles passes} (hw : Part.within (Part.sc ||| Part.rcd ||| Part.cnt |||
    Part.portals ||| Part.ilk ||| Part.mem) w = true) (h : Frame w b s) :
    Frame w b (State.align s next cnts cycles passes) := by
  unfold State.align
  repeat' first
    | with_reducible assumption | exact Part.within_trans (by decide) hw | with_reducible refine Frame.ite ?_ ?_
    | with_reducible refine forEach_frame (fun _ _ _ => ?_) _ ?_ | with_reducible refine State.laterPass_frame ?_ ?_
    | with_reducible refine State.raiseCycles_frame ?_ ?_ | with_reducible refine State.raiseCounter_frame ?_ ?_
    | with_reducible refine State.gapOver_frame ?_ ?_

theorem State.synced_frame {w : Nat} {b s : State} {next cnts cycles passes} (hw : Part.within (Part.sc ||| Part.rcd ||| Part.cnt |||
    Part.portals ||| Part.ilk ||| Part.twin ||| Part.mem) w = true) (h : Frame w b s) :
    Frame w b (State.synced s next cnts cycles passes) := by
  unfold State.synced
  repeat' first
    | with_reducible assumption | exact Part.within_trans (by decide) hw | with_reducible refine Frame.ite ?_ ?_
    | with_reducible refine when_frame (fun _ _ => ?_) ?_ | with_reducible refine State.raise_frame ?_ ?_
    | with_reducible refine State.judgeRevert_frame ?_ ?_ | with_reducible refine State.align_frame ?_ ?_ | split | (lift_lets; intros)
    | with_reducible refine Frame.set_twin ?_ ?_

theorem State.latchLeak_frame {w : Nat} {b s : State} {c} (hw : Part.within (Part.rcd ||| Part.cnt ||| Part.fio ||| Part.loads) w = true)
    (h : Frame w b s) :
    Frame w b (State.latchLeak s c) := by
  unfold State.latchLeak
  repeat' first
    | with_reducible assumption | exact Part.within_trans (by decide) hw | with_reducible refine Frame.ite ?_ ?_
    | with_reducible refine State.modSw_frame ?_ ?_ | with_reducible refine State.raise_frame ?_ ?_
    | with_reducible refine State.latchDiag_frame ?_ ?_

theorem State.selfTest_frame {w : Nat} {b s : State} {gateBad offBad leak} (hw : Part.within (Part.bk ||| Part.rcd ||| Part.cnt |||
    Part.time ||| Part.fio ||| Part.loads ||| Part.twin) w = true) (h : Frame w b s) :
    Frame w b (State.selfTest s gateBad offBad leak) := by
  unfold State.selfTest
  repeat' first
    | with_reducible assumption | exact Part.within_trans (by decide) hw | with_reducible refine Frame.ite ?_ ?_
    | with_reducible refine when_frame (fun _ _ => ?_) ?_ | with_reducible refine forEach_frame (fun _ _ _ => ?_) _ ?_
    | with_reducible refine State.judgeRevert_frame ?_ ?_ | with_reducible refine State.raise_frame ?_ ?_
    | with_reducible refine State.latchLeak_frame ?_ ?_ | with_reducible refine State.passToTt_frame ?_ ?_ | split | (lift_lets; intros)
    | with_reducible refine Frame.set_twin ?_ ?_

end Sys2Proof.Machine
end

