-- ==== Sys2Proof/Laws/FrameCatalogue.lean ====
section
/-!
SUPPORT. Sys2Proof/Laws/FrameCatalogue.lean: the frame of each operation of Machine/Catalogue.lean.
-/
set_option Elab.async false
namespace Sys2Proof.Machine
open Sys2Proof

theorem State.catReject_frame {w : Nat} {b s : State} {event tag offset} (hw : Part.within Part.cat w = true) (h : Frame w b s) :
    Frame w b (State.catReject s event tag offset) := by
  unfold State.catReject
  repeat' first
    | with_reducible assumption | exact Part.within_trans (by decide) hw | with_reducible refine Frame.ite ?_ ?_ | split
    | (lift_lets; intros) | with_reducible refine Frame.set_cat ?_ ?_

theorem State.catErr_frame {w : Nat} {b s : State} {k e} (hw : Part.within (Part.cat ||| Part.rcd ||| Part.cnt) w = true) (h : Frame w b
    s) :
    Frame w b (State.catErr s k e) := by
  unfold State.catErr
  repeat' first
    | with_reducible assumption | exact Part.within_trans (by decide) hw | with_reducible refine Frame.ite ?_ ?_
    | with_reducible refine State.catReject_frame ?_ ?_ | with_reducible refine State.raise_frame ?_ ?_

theorem State.domainsOff_frame {w : Nat} {b s : State} {l} (hw : Part.within Part.sys w = true) (h : Frame w b s) :
    Frame w b (State.domainsOff s l) := by
  unfold State.domainsOff
  repeat' first
    | with_reducible assumption | exact Part.within_trans (by decide) hw | with_reducible refine Frame.ite ?_ ?_ | exact id
    | exact fun _ => ⟨rfl, rfl, rfl⟩ | exact fun k => Part.out_absurd hw (by decide) k | split | (lift_lets; intros)
    | with_reducible refine Frame.set_sys ?_ ?_ ?_ ?_ ?_

theorem State.enterMaint_frame {w : Nat} {b s : State} {st} (hw : Part.within (Part.sys ||| Part.rcd ||| Part.cnt ||| Part.fio |||
    Part.startup) w = true) (h : Frame w b s) :
    Frame w b (State.enterMaint s st) := by
  unfold State.enterMaint
  repeat' first
    | with_reducible assumption | exact Part.within_trans (by decide) hw | with_reducible refine Frame.ite ?_ ?_
    | with_reducible refine forEach_frame (fun _ _ _ => ?_) _ ?_ | with_reducible refine State.startLink_frame ?_ ?_
    | with_reducible refine State.domainsOff_frame ?_ ?_ | with_reducible refine State.raise_frame ?_ ?_ | exact id
    | exact fun _ => ⟨rfl, rfl, rfl⟩ | exact fun k => Part.out_absurd hw (by decide) k | split | (lift_lets; intros)
    | with_reducible refine Frame.set_sys ?_ ?_ ?_ ?_ ?_

theorem State.noteSlot_frame {w : Nat} {b s : State} {k r} (hw : Part.within (Part.cat ||| Part.rcd ||| Part.cnt) w = true) (h : Frame w
    b s) :
    Frame w b (State.noteSlot s k r) := by
  unfold State.noteSlot
  repeat' first
    | with_reducible assumption | exact Part.within_trans (by decide) hw | with_reducible refine Frame.ite ?_ ?_
    | with_reducible refine State.catErr_frame ?_ ?_ | split | (lift_lets; intros) | with_reducible refine Frame.set_cat ?_ ?_

theorem State.enterConflict_frame {w : Nat} {b s : State} (hw : Part.within (Part.sys ||| Part.cat ||| Part.rcd ||| Part.cnt ||| Part.fio
    ||| Part.startup) w = true) (h : Frame w b s) :
    Frame w b (State.enterConflict s) := by
  unfold State.enterConflict
  repeat' first
    | with_reducible assumption | exact Part.within_trans (by decide) hw | with_reducible refine Frame.ite ?_ ?_
    | with_reducible refine State.raise_frame ?_ ?_ | with_reducible refine State.enterMaint_frame ?_ ?_
    | with_reducible refine State.catReject_frame ?_ ?_ | split | (lift_lets; intros) | with_reducible refine Frame.set_cat ?_ ?_

theorem State.catSelect_frame {w : Nat} {b s : State} (hw : Part.within (Part.sys ||| Part.cat ||| Part.rcd ||| Part.cnt ||| Part.fio |||
    Part.startup) w = true) (h : Frame w b s) :
    Frame w b (State.catSelect s) := by
  unfold State.catSelect
  refine when_frame (fun s h => ?_) h
  generalize s.catCheck 0 true = x0
  generalize s.catCheck 1 true = x1
  have h1 : Frame w b ((s.noteSlot 0 x0).noteSlot 1 x1) := State.noteSlot_frame (Part.within_trans (by decide) hw) (State.noteSlot_frame
    (Part.within_trans (by decide) hw) h)
  dsimp only
  split
  · exact State.raise_frame (Part.within_trans (by decide) hw) (Frame.set_sys_cat (Part.within_trans (by decide) hw) id id (fun _ =>
    ⟨rfl, rfl, rfl⟩) h1)
  · split
    · exact State.enterConflict_frame (Part.within_trans (by decide) hw) h1
    · exact State.enterMaint_frame (Part.within_trans (by decide) hw) h1

theorem State.catApplyWrite_frame {w : Nat} {b s : State} {w'} (hw : Part.within (Part.sys ||| Part.bk ||| Part.nvm ||| Part.cat |||
    Part.sc ||| Part.rcd ||| Part.cnt ||| Part.time ||| Part.seq ||| Part.portals ||| Part.obs ||| Part.axes ||| Part.fb ||| Part.links
    ||| Part.ilk ||| Part.fio ||| Part.loads ||| Part.net ||| Part.trdp ||| Part.conns ||| Part.twin ||| Part.regs ||| Part.mem |||
    Part.outs ||| Part.free ||| Part.restart ||| Part.states ||| Part.actions) w = true) (h : Frame w b s) :
    Frame w b (State.catApplyWrite s w') := by
  unfold State.catApplyWrite
  repeat' first
    | with_reducible assumption | exact Part.within_trans (by decide) hw | with_reducible refine Frame.ite ?_ ?_
    | with_reducible refine State.effect_frame ?_ ?_ | with_reducible refine State.tblNext_frame ?_ ?_

theorem State.catApply_frame {w : Nat} {b s : State} (hw : Part.within (Part.sys ||| Part.bk ||| Part.nvm ||| Part.cat ||| Part.sc |||
    Part.rcd ||| Part.cnt ||| Part.time ||| Part.seq ||| Part.portals ||| Part.obs ||| Part.axes ||| Part.fb ||| Part.links ||| Part.ilk
    ||| Part.fio ||| Part.loads ||| Part.net ||| Part.trdp ||| Part.conns ||| Part.twin ||| Part.regs ||| Part.mem ||| Part.outs |||
    Part.free ||| Part.restart ||| Part.startup ||| Part.states ||| Part.actions) w = true) (h : Frame w b s) :
    Frame w b (State.catApply s) := by
  unfold State.catApply
  refine when_frame (fun s h => ?_) h
  generalize s.catCheck (s.cat.runSlot - 1) true = x0
  split
  · exact h
  · refine forEach_frame (fun _ _ h => State.startLink_frame (Part.within_trans (by decide) hw) h) _ (forEach_frame (fun _ _ h =>
    State.dlStart_frame (Part.within_trans (by decide) hw) h) _
      (forEach_frame (fun _ _ h => State.loadTables_frame (Part.within_trans (by decide) hw) h) _ (State.domainsOff_frame
    (Part.within_trans (by decide) hw) (Frame.set_sys (Part.within_trans (by decide) hw) (fun _ => rfl) id (fun k => Part.out_absurd hw
    (by decide) k)
      (forEach_frame (fun s t h => ?_) _ h)))))
    have h1 := forEach_frame (w := w) (b := b) (f := State.catApplyWrite) (fun _ _ h => State.catApplyWrite_frame (Part.within_trans (by
    decide) hw) h)
    exact Frame.ite (State.loadPcrcRef_frame (Part.within_trans (by decide) hw) (h1 _ h)) (h1 _ h)

theorem State.savePw_frame {w : Nat} {b s : State} (hw : Part.within Part.mem w = true) (h : Frame w b s) :
    Frame w b (State.savePw s) := by
  unfold State.savePw
  repeat' first
    | with_reducible assumption | exact Part.within_trans (by decide) hw | with_reducible refine Frame.ite ?_ ?_
    | with_reducible refine State.saveParam_frame ?_ ?_

theorem State.pwFailed_frame {w : Nat} {b s : State} (hw : Part.within (Part.cat ||| Part.rcd ||| Part.cnt ||| Part.mem) w = true) (h :
    Frame w b s) :
    Frame w b (State.pwFailed s) := by
  unfold State.pwFailed
  repeat' first
    | with_reducible assumption | exact Part.within_trans (by decide) hw | with_reducible refine Frame.ite ?_ ?_
    | with_reducible refine State.savePw_frame ?_ ?_ | with_reducible refine State.raise_frame ?_ ?_ | split | (lift_lets; intros)
    | with_reducible refine Frame.set_cat ?_ ?_

theorem State.pwLockoutEnd_frame {w : Nat} {b s : State} (hw : Part.within (Part.bk ||| Part.cat ||| Part.time ||| Part.mem) w = true) (h
    : Frame w b s) :
    Frame w b (State.pwLockoutEnd s) := by
  unfold State.pwLockoutEnd
  repeat' first
    | with_reducible assumption | exact Part.within_trans (by decide) hw | with_reducible refine Frame.ite ?_ ?_
    | with_reducible refine when_frame (fun _ _ => ?_) ?_ | with_reducible refine State.savePw_frame ?_ ?_
    | with_reducible refine State.pass_frame ?_ ?_ | split | (lift_lets; intros) | with_reducible refine Frame.set_cat ?_ ?_

theorem State.commitEnd_frame {w : Nat} {b s : State} {c code} (hw : Part.within (Part.sc ||| Part.rcd ||| Part.cnt ||| Part.conns |||
    Part.twin ||| Part.outs ||| Part.free) w = true) (h : Frame w b s) :
    Frame w b (State.commitEnd s c code) := by
  unfold State.commitEnd
  repeat' first
    | with_reducible assumption | exact Part.within_trans (by decide) hw | with_reducible refine Frame.ite ?_ ?_
    | with_reducible refine State.cmdOutcome_frame ?_ ?_

theorem State.commitFails_frame {w : Nat} {b s : State} {c fw reason} (hw : Part.within (Part.sc ||| Part.rcd ||| Part.cnt ||| Part.conns
    ||| Part.twin ||| Part.outs ||| Part.free) w = true) (h : Frame w b s) :
    Frame w b (State.commitFails s c fw reason) := by
  unfold State.commitFails
  repeat' first
    | with_reducible assumption | exact Part.within_trans (by decide) hw | with_reducible refine Frame.ite ?_ ?_
    | with_reducible refine State.raise_frame ?_ ?_ | with_reducible refine State.commitEnd_frame ?_ ?_

theorem State.commitAccept_frame {w : Nat} {b s : State} {c im} (hw : Part.within (Part.sc ||| Part.rcd ||| Part.cnt ||| Part.ilk |||
    Part.conns ||| Part.twin ||| Part.mem ||| Part.outs ||| Part.free) w = true) (h : Frame w b s) :
    Frame w b (State.commitAccept s c im) := by
  unfold State.commitAccept
  repeat' first
    | with_reducible assumption | exact Part.within_trans (by decide) hw | with_reducible refine Frame.ite ?_ ?_
    | with_reducible refine State.commitEnd_frame ?_ ?_ | with_reducible refine State.safetyLog_frame ?_ ?_
    | with_reducible refine State.saveParam_frame ?_ ?_ | with_reducible refine State.raise_frame ?_ ?_

theorem State.catCommitDone_frame {w : Nat} {b s : State} (hw : Part.within (Part.cat ||| Part.sc ||| Part.rcd ||| Part.cnt ||| Part.ilk
    ||| Part.conns ||| Part.twin ||| Part.mem ||| Part.outs ||| Part.free) w = true) (h : Frame w b s) :
    Frame w b (State.catCommitDone s) := by
  unfold State.catCommitDone
  repeat' first
    | with_reducible assumption | exact Part.within_trans (by decide) hw | with_reducible refine Frame.ite ?_ ?_
    | with_reducible refine State.pwFailed_frame ?_ ?_ | with_reducible refine State.savePw_frame ?_ ?_
    | with_reducible refine State.catReject_frame ?_ ?_ | with_reducible refine State.raise_frame ?_ ?_
    | with_reducible refine State.commitAccept_frame ?_ ?_ | with_reducible refine State.catErr_frame ?_ ?_
    | with_reducible refine State.commitFails_frame ?_ ?_ | split | (lift_lets; intros) | with_reducible refine Frame.set_cat ?_ ?_

theorem State.fwCommitDone_frame {w : Nat} {b s : State} (hw : Part.within (Part.bk ||| Part.sc ||| Part.rcd ||| Part.cnt ||| Part.conns
    ||| Part.twin ||| Part.mem ||| Part.outs ||| Part.free) w = true) (h : Frame w b s) :
    Frame w b (State.fwCommitDone s) := by
  unfold State.fwCommitDone
  repeat' first
    | with_reducible assumption | exact Part.within_trans (by decide) hw | with_reducible refine Frame.ite ?_ ?_
    | with_reducible refine State.commitEnd_frame ?_ ?_ | with_reducible refine State.saveParam_frame ?_ ?_
    | with_reducible refine State.raise_frame ?_ ?_ | with_reducible refine State.commitFails_frame ?_ ?_ | exact Nat.le_refl _
    | exact fun _ k => k | exact id | exact List.prefix_refl _ | split | (lift_lets; intros) | with_reducible refine Frame.set_bk ?_ ?_
    | with_reducible refine Frame.set_sc ?_ ?_ ?_ ?_ ?_ ?_

end Sys2Proof.Machine
end

