-- ==== Sys2Proof/Laws/FrameStart.lean ====
section
/-!
SUPPORT. Sys2Proof/Laws/FrameStart.lean: the frame of each operation of Machine/Start.lean.
-/
set_option Elab.async false
namespace Sys2Proof.Machine
open Sys2Proof

theorem State.pllLock_frame {w : Nat} {b s : State} (hw : Part.within (Part.sys ||| Part.time ||| Part.startup) w = true) (h : Frame w b
    s) :
    Frame w b (State.pllLock s) := by
  unfold State.pllLock
  repeat' first
    | with_reducible assumption | exact Part.within_trans (by decide) hw | with_reducible refine Frame.ite ?_ ?_
    | with_reducible refine when_frame (fun _ _ => ?_) ?_ | with_reducible refine State.tryRelease_frame ?_ ?_ | exact Nat.le_refl _ | exact id
    | exact fun _ => rfl | exact fun _ _ => rfl | exact fun _ => ⟨rfl, rfl⟩ | exact fun _ => ⟨rfl, rfl, rfl⟩
    | exact fun k => Part.out_absurd hw (by decide) k | split | (lift_lets; intros) | with_reducible refine Frame.set_sys ?_ ?_ ?_ ?_ ?_
    | with_reducible refine Frame.set_sys_time ?_ ?_ ?_ ?_ ?_ ?_

theorem State.norDiscovery_frame {w : Nat} {b s : State} {sfdp cap addr4 octal passes} (hw : Part.within (Part.sys ||| Part.nvm |||
    Part.rcd ||| Part.cnt ||| Part.fio ||| Part.startup) w = true) (h : Frame w b s) :
    Frame w b (State.norDiscovery s sfdp cap addr4 octal passes) := by
  unfold State.norDiscovery
  repeat' first
    | with_reducible assumption | exact Part.within_trans (by decide) hw | with_reducible refine Frame.ite ?_ ?_
    | with_reducible refine when_frame (fun _ _ => ?_) ?_ | with_reducible refine State.raise_frame ?_ ?_
    | with_reducible refine State.enterMaint_frame ?_ ?_ | split | (lift_lets; intros) | with_reducible refine Frame.set_nvm ?_ ?_

theorem State.recordResets_frame {w : Nat} {b s : State} (hw : Part.within (Part.sys ||| Part.rcd ||| Part.cnt) w = true) (h : Frame w b
    s) :
    Frame w b (State.recordResets s) := by
  unfold State.recordResets
  repeat' first
    | with_reducible assumption | exact Part.within_trans (by decide) hw | with_reducible refine Frame.ite ?_ ?_
    | with_reducible refine forEach_frame (fun _ _ _ => ?_) _ ?_ | with_reducible refine State.raise_frame ?_ ?_ | exact id
    | exact fun _ => ⟨rfl, rfl, rfl⟩ | exact fun k => Part.out_absurd hw (by decide) k | split | (lift_lets; intros)
    | with_reducible refine Frame.set_sys ?_ ?_ ?_ ?_ ?_

theorem State.recoverDelta_frame {w : Nat} {b s : State} (hw : Part.within Part.free w = true) (h : Frame w b s) :
    Frame w b (State.recoverDelta s).2 := by
  unfold State.recoverDelta
  repeat' first
    | with_reducible assumption | exact Part.within_trans (by decide) hw | with_reducible refine Frame.ite ?_ ?_
    | with_reducible refine State.draw_frame ?_ ?_ | split

theorem State.voteMark_frame {w : Nat} {b s : State} (hw : Part.within (Part.rcd ||| Part.cnt ||| Part.mem) w = true) (h : Frame w b s) :
    Frame w b (State.voteMark s).2 := by
  unfold State.voteMark
  repeat' first
    | with_reducible assumption | exact Part.within_trans (by decide) hw | with_reducible refine Frame.ite ?_ ?_
    | with_reducible refine State.votePlain_frame ?_ ?_ | split

theorem State.nextNumber_frame {w : Nat} {b s : State} {sealOk high} (hw : Part.within (Part.rcd ||| Part.cnt ||| Part.mem ||| Part.free)
    w = true) (h : Frame w b s) :
    Frame w b (State.nextNumber s sealOk high).2 := by
  unfold State.nextNumber
  repeat' first
    | with_reducible assumption | exact Part.within_trans (by decide) hw | with_reducible refine Frame.ite ?_ ?_
    | with_reducible refine State.recoverDelta_frame ?_ ?_ | with_reducible refine State.voteMark_frame ?_ ?_ | split
    | (lift_lets; intros)

theorem State.recorderStart_frame {w : Nat} {b s : State} {sealOk ecc} (hw : Part.within (Part.sys ||| Part.rcd ||| Part.cnt |||
    Part.mem ||| Part.free) w = true) (h : Frame w b s) :
    Frame w b (State.recorderStart s sealOk ecc) := by
  unfold State.recorderStart
  repeat' first
    | with_reducible assumption | exact Part.within_trans (by decide) hw | with_reducible refine Frame.ite ?_ ?_
    | with_reducible refine when_frame (fun _ _ => ?_) ?_ | with_reducible refine foldl_frame (fun _ _ _ => ?_) _ ?_
    | with_reducible refine State.recordResets_frame ?_ ?_ | with_reducible refine State.nextNumber_frame ?_ ?_
    | with_reducible refine State.degrade_frame ?_ ?_ | exact id | exact fun _ => rfl | exact fun _ _ => rfl | exact fun _ => ⟨rfl, rfl⟩
    | exact fun _ => ⟨rfl, rfl, rfl⟩ | exact fun k => Part.out_absurd hw (by decide) k | split | (lift_lets; intros)
    | with_reducible refine Frame.set_rcd ?_ ?_

theorem State.voteOr_frame {w : Nat} {b s : State} {id new fallback} (hw : Part.within (Part.rcd ||| Part.cnt ||| Part.mem) w = true) (h
    : Frame w b s) :
    Frame w b (State.voteOr s id new fallback).2 := by
  unfold State.voteOr
  repeat' first
    | with_reducible assumption | exact Part.within_trans (by decide) hw | with_reducible refine Frame.ite ?_ ?_
    | with_reducible refine State.voteParam_frame ?_ ?_ | split

theorem State.voteFloor_frame {w : Nat} {b s : State} (hw : Part.within (Part.cat ||| Part.rcd ||| Part.cnt ||| Part.mem) w = true) (h :
    Frame w b s) :
    Frame w b (State.voteFloor s) := by
  unfold State.voteFloor
  repeat' first
    | with_reducible assumption | exact Part.within_trans (by decide) hw | with_reducible refine Frame.ite ?_ ?_
    | with_reducible refine State.voteOr_frame ?_ ?_ | split | (lift_lets; intros) | with_reducible refine Frame.set_cat ?_ ?_

theorem State.voteCommit_frame {w : Nat} {b s : State} {id} (hw : Part.within (Part.rcd ||| Part.cnt ||| Part.mem) w = true) (h : Frame w
    b s) :
    Frame w b (State.voteCommit s id) := by
  unfold State.voteCommit
  repeat' first
    | with_reducible assumption | exact Part.within_trans (by decide) hw | with_reducible refine Frame.ite ?_ ?_
    | with_reducible refine State.votePlain_frame ?_ ?_

theorem State.voteCounter_frame {w : Nat} {b s : State} {k} (hw : Part.within (Part.sc ||| Part.rcd ||| Part.cnt ||| Part.mem) w = true)
    (h : Frame w b s) :
    Frame w b (State.voteCounter s k) := by
  unfold State.voteCounter
  repeat' first
    | with_reducible assumption | exact Part.within_trans (by decide) hw | with_reducible refine Frame.ite ?_ ?_
    | with_reducible refine State.voteOr_frame ?_ ?_ | exact Nat.le_refl _ | exact fun _ k => k | exact id | exact List.prefix_refl _
    | split | (lift_lets; intros) | with_reducible refine Frame.set_sc ?_ ?_ ?_ ?_ ?_ ?_

theorem State.voteBrake_frame {w : Nat} {b s : State} {n} (hw : Part.within (Part.rcd ||| Part.cnt ||| Part.ilk ||| Part.mem) w = true)
    (h : Frame w b s) :
    Frame w b (State.voteBrake s n) := by
  unfold State.voteBrake
  repeat' first
    | with_reducible assumption | exact Part.within_trans (by decide) hw | with_reducible refine Frame.ite ?_ ?_
    | with_reducible refine State.votePlain_frame ?_ ?_ | split | (lift_lets; intros) | with_reducible refine Frame.set_ilk ?_ ?_

theorem State.voteCycles_frame {w : Nat} {b s : State} {p} (hw : Part.within (Part.rcd ||| Part.cnt ||| Part.portals ||| Part.mem) w =
    true) (h : Frame w b s) :
    Frame w b (State.voteCycles s p) := by
  unfold State.voteCycles
  repeat' first
    | with_reducible assumption | exact Part.within_trans (by decide) hw | with_reducible refine Frame.ite ?_ ?_
    | with_reducible refine State.modPortal_frame ?_ ?_ ?_ | with_reducible refine State.voteOr_frame ?_ ?_ | exact fun _ => rfl
    | exact fun _ _ => rfl

theorem State.votePassword_frame {w : Nat} {b s : State} (hw : Part.within (Part.cat ||| Part.rcd ||| Part.cnt ||| Part.mem) w = true) (h
    : Frame w b s) :
    Frame w b (State.votePassword s) := by
  unfold State.votePassword
  repeat' first
    | with_reducible assumption | exact Part.within_trans (by decide) hw | with_reducible refine Frame.ite ?_ ?_
    | with_reducible refine State.voteOr_frame ?_ ?_ | split | (lift_lets; intros) | with_reducible refine Frame.set_cat ?_ ?_

theorem State.paramVote_frame {w : Nat} {b s : State} (hw : Part.within (Part.sys ||| Part.cat ||| Part.sc ||| Part.rcd ||| Part.cnt |||
    Part.portals ||| Part.ilk ||| Part.mem) w = true) (h : Frame w b s) :
    Frame w b (State.paramVote s) := by
  unfold State.paramVote
  refine when_frame (fun s h => ?_) h
  dsimp only
  have h1 : Frame w b (forEach [2, 3, 4, 5] State.voteCommit s.voteFloor) :=
    forEach_frame (fun _ _ h => State.voteCommit_frame (Part.within_trans (by decide) hw) h) _ (State.voteFloor_frame (Part.within_trans
    (by decide) hw) h)
  generalize forEach [2, 3, 4, 5] State.voteCommit s.voteFloor = s1 at h1 ⊢
  have h2 := forEach_frame (w := w) (b := b) (f := State.voteCounter) (fun _ _ h => State.voteCounter_frame (Part.within_trans (by
    decide) hw) h) (List.range 16) h1
  generalize forEach (List.range 16) State.voteCounter s1 = s2 at h2 ⊢
  have h3 := forEach_frame (w := w) (b := b) (f := State.voteBrake) (fun _ _ h => State.voteBrake_frame (Part.within_trans (by decide)
    hw) h) (List.range 64) h2
  generalize forEach (List.range 64) State.voteBrake s2 = s3 at h3 ⊢
  have h4 : Frame w b ((forEach (List.range 16) State.voteCycles s3).votePassword) :=
    State.votePassword_frame (Part.within_trans (by decide) hw) (forEach_frame (fun _ _ h => State.voteCycles_frame (Part.within_trans
    (by decide) hw) h) _ h3)
  generalize (forEach (List.range 16) State.voteCycles s3).votePassword = s4 at h4 ⊢
  have h5 := forEach_frame (w := w) (b := b) (f := State.loadKey) (fun _ _ h => State.loadKey_frame (Part.within_trans (by decide) hw) h)
    (List.range 16) h4
  generalize forEach (List.range 16) State.loadKey s4 = s5 at h5 ⊢
  exact Frame.set_sys (Part.within_trans (by decide) hw) id id (fun _ => ⟨rfl, rfl, rfl⟩) h5

theorem State.noteFirmware_frame {w : Nat} {b s : State} {k} (hw : Part.within (Part.rcd ||| Part.cnt) w = true) (h : Frame w b s) :
    Frame w b (State.noteFirmware s k) := by
  unfold State.noteFirmware
  repeat' first
    | with_reducible assumption | exact Part.within_trans (by decide) hw | with_reducible refine Frame.ite ?_ ?_
    | with_reducible refine State.raise_frame ?_ ?_ | split

theorem State.runFirmware_frame {w : Nat} {b s : State} {k} (hw : Part.within (Part.sys ||| Part.rcd ||| Part.cnt ||| Part.startup) w =
    true) (h : Frame w b s) :
    Frame w b (State.runFirmware s k) := by
  unfold State.runFirmware
  repeat' first
    | with_reducible assumption | exact Part.within_trans (by decide) hw | with_reducible refine Frame.ite ?_ ?_
    | with_reducible refine State.raise_frame ?_ ?_ | exact id | exact fun _ => ⟨rfl, rfl, rfl⟩
    | exact fun k => Part.out_absurd hw (by decide) k | split | (lift_lets; intros) | with_reducible refine Frame.set_sys ?_ ?_ ?_ ?_ ?_

theorem State.firmwareSelect_frame {w : Nat} {b s : State} (hw : Part.within (Part.sys ||| Part.rcd ||| Part.cnt ||| Part.fio |||
    Part.startup) w = true) (h : Frame w b s) :
    Frame w b (State.firmwareSelect s) := by
  unfold State.firmwareSelect
  repeat' first
    | with_reducible assumption | exact Part.within_trans (by decide) hw | with_reducible refine Frame.ite ?_ ?_
    | with_reducible refine when_frame (fun _ _ => ?_) ?_ | with_reducible refine State.runFirmware_frame ?_ ?_
    | with_reducible refine State.raise_frame ?_ ?_ | with_reducible refine State.enterMaint_frame ?_ ?_
    | with_reducible refine State.noteFirmware_frame ?_ ?_ | split

theorem State.selftest_frame {w : Nat} {b s : State} {lockstep evaluator gate readback} (hw : Part.within (Part.sys ||| Part.sc |||
    Part.rcd ||| Part.cnt ||| Part.ilk ||| Part.fio ||| Part.trdp ||| Part.outs ||| Part.startup) w = true) (h : Frame w b s) :
    Frame w b (State.selftest s lockstep evaluator gate readback) := by
  unfold State.selftest
  repeat' first
    | with_reducible assumption | exact Part.within_trans (by decide) hw | with_reducible refine Frame.ite ?_ ?_
    | with_reducible refine when_frame (fun _ _ => ?_) ?_ | with_reducible refine State.requestDirectory_frame ?_ ?_
    | with_reducible refine State.rngFailed_frame ?_ ?_ | with_reducible refine State.raise_frame ?_ ?_
    | with_reducible refine State.enterMaint_frame ?_ ?_ | exact id | exact fun _ => ⟨rfl, rfl, rfl⟩
    | exact fun k => Part.out_absurd hw (by decide) k | split | (lift_lets; intros) | with_reducible refine Frame.set_sys ?_ ?_ ?_ ?_ ?_
    | with_reducible refine Frame.set_ilk ?_ ?_

theorem State.joinEnd_frame {w : Nat} {b s : State} (hw : Part.within (Part.sys ||| Part.bk ||| Part.time) w = true) (h : Frame w b s) :
    Frame w b (State.joinEnd s) := by
  unfold State.joinEnd
  refine when_frame (fun s h => ?_) h
  refine Frame.set_sys (Part.within_trans (by decide) hw) id id (fun _ => ⟨rfl, rfl, rfl⟩) ?_
  exact Frame.ite (Frame.ite h (State.passTo_frame (Part.within_trans (by decide) hw) h)) (State.passTo_frame (Part.within_trans (by
    decide) hw) h)

theorem State.logActivation_frame {w : Nat} {b s : State} (hw : Part.within (Part.rcd ||| Part.cnt ||| Part.ilk ||| Part.mem) w = true)
    (h : Frame w b s) :
    Frame w b (State.logActivation s) := by
  unfold State.logActivation
  repeat' first
    | with_reducible assumption | exact Part.within_trans (by decide) hw | with_reducible refine Frame.ite ?_ ?_
    | with_reducible refine State.safetyLog_frame ?_ ?_ | split

theorem State.raiseFloor_frame {w : Nat} {b s : State} (hw : Part.within (Part.cat ||| Part.rcd ||| Part.cnt ||| Part.mem) w = true) (h :
    Frame w b s) :
    Frame w b (State.raiseFloor s) := by
  unfold State.raiseFloor
  repeat' first
    | with_reducible assumption | exact Part.within_trans (by decide) hw | with_reducible refine Frame.ite ?_ ?_
    | with_reducible refine when_frame (fun _ _ => ?_) ?_ | with_reducible refine State.saveParam_frame ?_ ?_
    | with_reducible refine State.raise_frame ?_ ?_ | split | (lift_lets; intros) | with_reducible refine Frame.set_cat ?_ ?_

theorem State.raiseFwFloor_frame {w : Nat} {b s : State} (hw : Part.within (Part.sc ||| Part.rcd ||| Part.cnt) w = true) (h : Frame w b
    s) :
    Frame w b (State.raiseFwFloor s) := by
  unfold State.raiseFwFloor
  refine Frame.trans h ?_
  have h1 := Frame.set_sc (w := w) (v := { s.sc with fwRevoked := s.sc.fwRevoked ||| (s.sys.fwRevoke - (s.sys.fwRevoke &&& 2 ^
    s.sys.fwKey)) })
    (Part.within_trans (by decide) hw) id (Nat.le_refl _) (fun k e => by simp [Nat.testBit_or, e]) (List.prefix_refl _) (Frame.refl w s)
  unfold when_
  split
  · rename_i c
    exact State.raise_frame (Part.within_trans (by decide) hw) (Frame.set_sc (Part.within_trans (by decide) hw) id (Nat.le_of_lt (by
    simpa using c)) (fun _ k => k) (List.prefix_refl _) h1)
  · exact h1

theorem State.operationalEntry_frame {w : Nat} {b s : State} (hw : Part.within (Part.sys ||| Part.bk ||| Part.cat ||| Part.sc |||
    Part.rcd ||| Part.cnt ||| Part.ilk ||| Part.mem ||| Part.startup) w = true) (h : Frame w b s) :
    Frame w b (State.operationalEntry s) := by
  unfold State.operationalEntry
  refine when_frame (fun s h => ?_) h
  exact State.logActivation_frame (Part.within_trans (by decide) hw) (State.raiseFwFloor_frame (Part.within_trans (by decide) hw)
    (State.raiseFloor_frame (Part.within_trans (by decide) hw) (State.raise_frame (Part.within_trans (by decide) hw)
    (Frame.set_sys_bk (Part.within_trans (by decide) hw) id (fun _ => rfl) (fun k => Part.out_absurd hw (by decide) k) h))))

end Sys2Proof.Machine
end

