-- ==== Sys2Proof/Laws/State.lean ====
section
/-!
SUPPORT. Sys2Proof/Laws/State.lean: what each update of State leaves and what it changes, one lemma per part and update, so that a
later proof need not unfold a record update.
-/
namespace Sys2Proof.Machine
open Sys2Proof

/-! ### setPortal -/

@[simp] theorem State.portal_setPortal (s : State) (p m : Nat) (x) : (s.setPortal p x).portal m = if m = p then x else s.portal m :=
  Table.get_set _ _ _ _ _
@[simp] theorem State.modPortal_eq (s : State) (p : Nat) (f) : s.modPortal p f = s.setPortal p (f (s.portal p)) := (rfl)
@[simp] theorem State.setPortal_sys (s : State) (p : Nat) (x) : (s.setPortal p x).sys = s.sys := (rfl)
@[simp] theorem State.setPortal_bk (s : State) (p : Nat) (x) : (s.setPortal p x).bk = s.bk := (rfl)
@[simp] theorem State.setPortal_nvm (s : State) (p : Nat) (x) : (s.setPortal p x).nvm = s.nvm := (rfl)
@[simp] theorem State.setPortal_cat (s : State) (p : Nat) (x) : (s.setPortal p x).cat = s.cat := (rfl)
@[simp] theorem State.setPortal_sc (s : State) (p : Nat) (x) : (s.setPortal p x).sc = s.sc := (rfl)
@[simp] theorem State.setPortal_rcd (s : State) (p : Nat) (x) : (s.setPortal p x).rcd = s.rcd := (rfl)
@[simp] theorem State.setPortal_cnt (s : State) (p : Nat) (x) : (s.setPortal p x).cnt = s.cnt := (rfl)
@[simp] theorem State.setPortal_time (s : State) (p : Nat) (x) : (s.setPortal p x).time = s.time := (rfl)
@[simp] theorem State.setPortal_seq (s : State) (p : Nat) (x) : (s.setPortal p x).seq = s.seq := (rfl)
@[simp] theorem State.setPortal_obs (s : State) (p : Nat) (x) : (s.setPortal p x).obs = s.obs := (rfl)
@[simp] theorem State.setPortal_axes (s : State) (p : Nat) (x) : (s.setPortal p x).axes = s.axes := (rfl)
@[simp] theorem State.setPortal_fb (s : State) (p : Nat) (x) : (s.setPortal p x).fb = s.fb := (rfl)
@[simp] theorem State.setPortal_links (s : State) (p : Nat) (x) : (s.setPortal p x).links = s.links := (rfl)
@[simp] theorem State.setPortal_ilk (s : State) (p : Nat) (x) : (s.setPortal p x).ilk = s.ilk := (rfl)
@[simp] theorem State.setPortal_fio (s : State) (p : Nat) (x) : (s.setPortal p x).fio = s.fio := (rfl)
@[simp] theorem State.setPortal_loads (s : State) (p : Nat) (x) : (s.setPortal p x).loads = s.loads := (rfl)
@[simp] theorem State.setPortal_net (s : State) (p : Nat) (x) : (s.setPortal p x).net = s.net := (rfl)
@[simp] theorem State.setPortal_trdp (s : State) (p : Nat) (x) : (s.setPortal p x).trdp = s.trdp := (rfl)
@[simp] theorem State.setPortal_conns (s : State) (p : Nat) (x) : (s.setPortal p x).conns = s.conns := (rfl)
@[simp] theorem State.setPortal_twin (s : State) (p : Nat) (x) : (s.setPortal p x).twin = s.twin := (rfl)
@[simp] theorem State.setPortal_regs (s : State) (p : Nat) (x) : (s.setPortal p x).regs = s.regs := (rfl)
@[simp] theorem State.setPortal_mem (s : State) (p : Nat) (x) : (s.setPortal p x).mem = s.mem := (rfl)
@[simp] theorem State.setPortal_flash (s : State) (p : Nat) (x) : (s.setPortal p x).flash = s.flash := (rfl)
@[simp] theorem State.setPortal_outs (s : State) (p : Nat) (x) : (s.setPortal p x).outs = s.outs := (rfl)
@[simp] theorem State.setPortal_free (s : State) (p : Nat) (x) : (s.setPortal p x).free = s.free := (rfl)
@[simp] theorem State.setPortal_pending (s : State) (p : Nat) (x) : (s.setPortal p x).pending = s.pending := (rfl)
@[simp] theorem State.ob_setPortal (s : State) (p j : Nat) (x) : (s.setPortal p x).ob j = s.ob j := (rfl)
@[simp] theorem State.axis_setPortal (s : State) (p j : Nat) (x) : (s.setPortal p x).axis j = s.axis j := (rfl)
@[simp] theorem State.fbp_setPortal (s : State) (p j : Nat) (x) : (s.setPortal p x).fbp j = s.fbp j := (rfl)
@[simp] theorem State.link_setPortal (s : State) (p j : Nat) (x) : (s.setPortal p x).link j = s.link j := (rfl)
@[simp] theorem State.so_setPortal (s : State) (p j : Nat) (x) : (s.setPortal p x).so j = s.so j := (rfl)
@[simp] theorem State.pair_setPortal (s : State) (p j : Nat) (x) : (s.setPortal p x).pair j = s.pair j := (rfl)
@[simp] theorem State.mon_setPortal (s : State) (p j : Nat) (x) : (s.setPortal p x).mon j = s.mon j := (rfl)
@[simp] theorem State.flink_setPortal (s : State) (p j : Nat) (x) : (s.setPortal p x).flink j = s.flink j := (rfl)
@[simp] theorem State.die_setPortal (s : State) (p j : Nat) (x) : (s.setPortal p x).die j = s.die j := (rfl)
@[simp] theorem State.sw_setPortal (s : State) (p j : Nat) (x) : (s.setPortal p x).sw j = s.sw j := (rfl)
@[simp] theorem State.bank_setPortal (s : State) (p j : Nat) (x) : (s.setPortal p x).bank j = s.bank j := (rfl)
@[simp] theorem State.port_setPortal (s : State) (p j : Nat) (x) : (s.setPortal p x).port j = s.port j := (rfl)
@[simp] theorem State.conn_setPortal (s : State) (p j : Nat) (x) : (s.setPortal p x).conn j = s.conn j := (rfl)
@[simp] theorem State.slot_setPortal (s : State) (p j : Nat) (x) : (s.setPortal p x).slot j = s.slot j := (rfl)
@[simp] theorem State.tracker_setPortal (s : State) (p j : Nat) (x) : (s.setPortal p x).tracker j = s.tracker j := (rfl)
@[simp] theorem State.ptpPort_setPortal (s : State) (p j : Nat) (x) : (s.setPortal p x).ptpPort j = s.ptpPort j := (rfl)
@[simp] theorem State.mrst_setPortal (s : State) (p j : Nat) (x) : (s.setPortal p x).mrst j = s.mrst j := (rfl)

/-! ### setOb -/

@[simp] theorem State.ob_setOb (s : State) (n m : Nat) (x) : (s.setOb n x).ob m = if m = n then x else s.ob m :=
  Table.get_set _ _ _ _ _
@[simp] theorem State.modOb_eq (s : State) (n : Nat) (f) : s.modOb n f = s.setOb n (f (s.ob n)) := (rfl)
@[simp] theorem State.setOb_sys (s : State) (n : Nat) (x) : (s.setOb n x).sys = s.sys := (rfl)
@[simp] theorem State.setOb_bk (s : State) (n : Nat) (x) : (s.setOb n x).bk = s.bk := (rfl)
@[simp] theorem State.setOb_nvm (s : State) (n : Nat) (x) : (s.setOb n x).nvm = s.nvm := (rfl)
@[simp] theorem State.setOb_cat (s : State) (n : Nat) (x) : (s.setOb n x).cat = s.cat := (rfl)
@[simp] theorem State.setOb_sc (s : State) (n : Nat) (x) : (s.setOb n x).sc = s.sc := (rfl)
@[simp] theorem State.setOb_rcd (s : State) (n : Nat) (x) : (s.setOb n x).rcd = s.rcd := (rfl)
@[simp] theorem State.setOb_cnt (s : State) (n : Nat) (x) : (s.setOb n x).cnt = s.cnt := (rfl)
@[simp] theorem State.setOb_time (s : State) (n : Nat) (x) : (s.setOb n x).time = s.time := (rfl)
@[simp] theorem State.setOb_seq (s : State) (n : Nat) (x) : (s.setOb n x).seq = s.seq := (rfl)
@[simp] theorem State.setOb_portals (s : State) (n : Nat) (x) : (s.setOb n x).portals = s.portals := (rfl)
@[simp] theorem State.setOb_axes (s : State) (n : Nat) (x) : (s.setOb n x).axes = s.axes := (rfl)
@[simp] theorem State.setOb_fb (s : State) (n : Nat) (x) : (s.setOb n x).fb = s.fb := (rfl)
@[simp] theorem State.setOb_links (s : State) (n : Nat) (x) : (s.setOb n x).links = s.links := (rfl)
@[simp] theorem State.setOb_ilk (s : State) (n : Nat) (x) : (s.setOb n x).ilk = s.ilk := (rfl)
@[simp] theorem State.setOb_fio (s : State) (n : Nat) (x) : (s.setOb n x).fio = s.fio := (rfl)
@[simp] theorem State.setOb_loads (s : State) (n : Nat) (x) : (s.setOb n x).loads = s.loads := (rfl)
@[simp] theorem State.setOb_net (s : State) (n : Nat) (x) : (s.setOb n x).net = s.net := (rfl)
@[simp] theorem State.setOb_trdp (s : State) (n : Nat) (x) : (s.setOb n x).trdp = s.trdp := (rfl)
@[simp] theorem State.setOb_conns (s : State) (n : Nat) (x) : (s.setOb n x).conns = s.conns := (rfl)
@[simp] theorem State.setOb_twin (s : State) (n : Nat) (x) : (s.setOb n x).twin = s.twin := (rfl)
@[simp] theorem State.setOb_regs (s : State) (n : Nat) (x) : (s.setOb n x).regs = s.regs := (rfl)
@[simp] theorem State.setOb_mem (s : State) (n : Nat) (x) : (s.setOb n x).mem = s.mem := (rfl)
@[simp] theorem State.setOb_flash (s : State) (n : Nat) (x) : (s.setOb n x).flash = s.flash := (rfl)
@[simp] theorem State.setOb_outs (s : State) (n : Nat) (x) : (s.setOb n x).outs = s.outs := (rfl)
@[simp] theorem State.setOb_free (s : State) (n : Nat) (x) : (s.setOb n x).free = s.free := (rfl)
@[simp] theorem State.setOb_pending (s : State) (n : Nat) (x) : (s.setOb n x).pending = s.pending := (rfl)
@[simp] theorem State.portal_setOb (s : State) (n j : Nat) (x) : (s.setOb n x).portal j = s.portal j := (rfl)
@[simp] theorem State.axis_setOb (s : State) (n j : Nat) (x) : (s.setOb n x).axis j = s.axis j := (rfl)
@[simp] theorem State.fbp_setOb (s : State) (n j : Nat) (x) : (s.setOb n x).fbp j = s.fbp j := (rfl)
@[simp] theorem State.link_setOb (s : State) (n j : Nat) (x) : (s.setOb n x).link j = s.link j := (rfl)
@[simp] theorem State.so_setOb (s : State) (n j : Nat) (x) : (s.setOb n x).so j = s.so j := (rfl)
@[simp] theorem State.pair_setOb (s : State) (n j : Nat) (x) : (s.setOb n x).pair j = s.pair j := (rfl)
@[simp] theorem State.mon_setOb (s : State) (n j : Nat) (x) : (s.setOb n x).mon j = s.mon j := (rfl)
@[simp] theorem State.flink_setOb (s : State) (n j : Nat) (x) : (s.setOb n x).flink j = s.flink j := (rfl)
@[simp] theorem State.die_setOb (s : State) (n j : Nat) (x) : (s.setOb n x).die j = s.die j := (rfl)
@[simp] theorem State.sw_setOb (s : State) (n j : Nat) (x) : (s.setOb n x).sw j = s.sw j := (rfl)
@[simp] theorem State.bank_setOb (s : State) (n j : Nat) (x) : (s.setOb n x).bank j = s.bank j := (rfl)
@[simp] theorem State.port_setOb (s : State) (n j : Nat) (x) : (s.setOb n x).port j = s.port j := (rfl)
@[simp] theorem State.conn_setOb (s : State) (n j : Nat) (x) : (s.setOb n x).conn j = s.conn j := (rfl)
@[simp] theorem State.slot_setOb (s : State) (n j : Nat) (x) : (s.setOb n x).slot j = s.slot j := (rfl)
@[simp] theorem State.tracker_setOb (s : State) (n j : Nat) (x) : (s.setOb n x).tracker j = s.tracker j := (rfl)
@[simp] theorem State.ptpPort_setOb (s : State) (n j : Nat) (x) : (s.setOb n x).ptpPort j = s.ptpPort j := (rfl)
@[simp] theorem State.mrst_setOb (s : State) (n j : Nat) (x) : (s.setOb n x).mrst j = s.mrst j := (rfl)

/-! ### setAxis -/

@[simp] theorem State.axis_setAxis (s : State) (n m : Nat) (x) : (s.setAxis n x).axis m = if m = n then x else s.axis m :=
  Table.get_set _ _ _ _ _
@[simp] theorem State.modAxis_eq (s : State) (n : Nat) (f) : s.modAxis n f = s.setAxis n (f (s.axis n)) := (rfl)
@[simp] theorem State.setAxis_sys (s : State) (n : Nat) (x) : (s.setAxis n x).sys = s.sys := (rfl)
@[simp] theorem State.setAxis_bk (s : State) (n : Nat) (x) : (s.setAxis n x).bk = s.bk := (rfl)
@[simp] theorem State.setAxis_nvm (s : State) (n : Nat) (x) : (s.setAxis n x).nvm = s.nvm := (rfl)
@[simp] theorem State.setAxis_cat (s : State) (n : Nat) (x) : (s.setAxis n x).cat = s.cat := (rfl)
@[simp] theorem State.setAxis_sc (s : State) (n : Nat) (x) : (s.setAxis n x).sc = s.sc := (rfl)
@[simp] theorem State.setAxis_rcd (s : State) (n : Nat) (x) : (s.setAxis n x).rcd = s.rcd := (rfl)
@[simp] theorem State.setAxis_cnt (s : State) (n : Nat) (x) : (s.setAxis n x).cnt = s.cnt := (rfl)
@[simp] theorem State.setAxis_time (s : State) (n : Nat) (x) : (s.setAxis n x).time = s.time := (rfl)
@[simp] theorem State.setAxis_seq (s : State) (n : Nat) (x) : (s.setAxis n x).seq = s.seq := (rfl)
@[simp] theorem State.setAxis_portals (s : State) (n : Nat) (x) : (s.setAxis n x).portals = s.portals := (rfl)
@[simp] theorem State.setAxis_obs (s : State) (n : Nat) (x) : (s.setAxis n x).obs = s.obs := (rfl)
@[simp] theorem State.setAxis_fb (s : State) (n : Nat) (x) : (s.setAxis n x).fb = s.fb := (rfl)
@[simp] theorem State.setAxis_links (s : State) (n : Nat) (x) : (s.setAxis n x).links = s.links := (rfl)
@[simp] theorem State.setAxis_ilk (s : State) (n : Nat) (x) : (s.setAxis n x).ilk = s.ilk := (rfl)
@[simp] theorem State.setAxis_fio (s : State) (n : Nat) (x) : (s.setAxis n x).fio = s.fio := (rfl)
@[simp] theorem State.setAxis_loads (s : State) (n : Nat) (x) : (s.setAxis n x).loads = s.loads := (rfl)
@[simp] theorem State.setAxis_net (s : State) (n : Nat) (x) : (s.setAxis n x).net = s.net := (rfl)
@[simp] theorem State.setAxis_trdp (s : State) (n : Nat) (x) : (s.setAxis n x).trdp = s.trdp := (rfl)
@[simp] theorem State.setAxis_conns (s : State) (n : Nat) (x) : (s.setAxis n x).conns = s.conns := (rfl)
@[simp] theorem State.setAxis_twin (s : State) (n : Nat) (x) : (s.setAxis n x).twin = s.twin := (rfl)
@[simp] theorem State.setAxis_regs (s : State) (n : Nat) (x) : (s.setAxis n x).regs = s.regs := (rfl)
@[simp] theorem State.setAxis_mem (s : State) (n : Nat) (x) : (s.setAxis n x).mem = s.mem := (rfl)
@[simp] theorem State.setAxis_flash (s : State) (n : Nat) (x) : (s.setAxis n x).flash = s.flash := (rfl)
@[simp] theorem State.setAxis_outs (s : State) (n : Nat) (x) : (s.setAxis n x).outs = s.outs := (rfl)
@[simp] theorem State.setAxis_free (s : State) (n : Nat) (x) : (s.setAxis n x).free = s.free := (rfl)
@[simp] theorem State.setAxis_pending (s : State) (n : Nat) (x) : (s.setAxis n x).pending = s.pending := (rfl)
@[simp] theorem State.portal_setAxis (s : State) (n j : Nat) (x) : (s.setAxis n x).portal j = s.portal j := (rfl)
@[simp] theorem State.ob_setAxis (s : State) (n j : Nat) (x) : (s.setAxis n x).ob j = s.ob j := (rfl)
@[simp] theorem State.fbp_setAxis (s : State) (n j : Nat) (x) : (s.setAxis n x).fbp j = s.fbp j := (rfl)
@[simp] theorem State.link_setAxis (s : State) (n j : Nat) (x) : (s.setAxis n x).link j = s.link j := (rfl)
@[simp] theorem State.so_setAxis (s : State) (n j : Nat) (x) : (s.setAxis n x).so j = s.so j := (rfl)
@[simp] theorem State.pair_setAxis (s : State) (n j : Nat) (x) : (s.setAxis n x).pair j = s.pair j := (rfl)
@[simp] theorem State.mon_setAxis (s : State) (n j : Nat) (x) : (s.setAxis n x).mon j = s.mon j := (rfl)
@[simp] theorem State.flink_setAxis (s : State) (n j : Nat) (x) : (s.setAxis n x).flink j = s.flink j := (rfl)
@[simp] theorem State.die_setAxis (s : State) (n j : Nat) (x) : (s.setAxis n x).die j = s.die j := (rfl)
@[simp] theorem State.sw_setAxis (s : State) (n j : Nat) (x) : (s.setAxis n x).sw j = s.sw j := (rfl)
@[simp] theorem State.bank_setAxis (s : State) (n j : Nat) (x) : (s.setAxis n x).bank j = s.bank j := (rfl)
@[simp] theorem State.port_setAxis (s : State) (n j : Nat) (x) : (s.setAxis n x).port j = s.port j := (rfl)
@[simp] theorem State.conn_setAxis (s : State) (n j : Nat) (x) : (s.setAxis n x).conn j = s.conn j := (rfl)
@[simp] theorem State.slot_setAxis (s : State) (n j : Nat) (x) : (s.setAxis n x).slot j = s.slot j := (rfl)
@[simp] theorem State.tracker_setAxis (s : State) (n j : Nat) (x) : (s.setAxis n x).tracker j = s.tracker j := (rfl)
@[simp] theorem State.ptpPort_setAxis (s : State) (n j : Nat) (x) : (s.setAxis n x).ptpPort j = s.ptpPort j := (rfl)
@[simp] theorem State.mrst_setAxis (s : State) (n j : Nat) (x) : (s.setAxis n x).mrst j = s.mrst j := (rfl)

/-! ### setFbp -/

@[simp] theorem State.fbp_setFbp (s : State) (n m : Nat) (x) : (s.setFbp n x).fbp m = if m = n then x else s.fbp m :=
  Table.get_set _ _ _ _ _
@[simp] theorem State.modFbp_eq (s : State) (n : Nat) (f) : s.modFbp n f = s.setFbp n (f (s.fbp n)) := (rfl)
@[simp] theorem State.setFbp_sys (s : State) (n : Nat) (x) : (s.setFbp n x).sys = s.sys := (rfl)
@[simp] theorem State.setFbp_bk (s : State) (n : Nat) (x) : (s.setFbp n x).bk = s.bk := (rfl)
@[simp] theorem State.setFbp_nvm (s : State) (n : Nat) (x) : (s.setFbp n x).nvm = s.nvm := (rfl)
@[simp] theorem State.setFbp_cat (s : State) (n : Nat) (x) : (s.setFbp n x).cat = s.cat := (rfl)
@[simp] theorem State.setFbp_sc (s : State) (n : Nat) (x) : (s.setFbp n x).sc = s.sc := (rfl)
@[simp] theorem State.setFbp_rcd (s : State) (n : Nat) (x) : (s.setFbp n x).rcd = s.rcd := (rfl)
@[simp] theorem State.setFbp_cnt (s : State) (n : Nat) (x) : (s.setFbp n x).cnt = s.cnt := (rfl)
@[simp] theorem State.setFbp_time (s : State) (n : Nat) (x) : (s.setFbp n x).time = s.time := (rfl)
@[simp] theorem State.setFbp_seq (s : State) (n : Nat) (x) : (s.setFbp n x).seq = s.seq := (rfl)
@[simp] theorem State.setFbp_portals (s : State) (n : Nat) (x) : (s.setFbp n x).portals = s.portals := (rfl)
@[simp] theorem State.setFbp_obs (s : State) (n : Nat) (x) : (s.setFbp n x).obs = s.obs := (rfl)
@[simp] theorem State.setFbp_axes (s : State) (n : Nat) (x) : (s.setFbp n x).axes = s.axes := (rfl)
@[simp] theorem State.setFbp_links (s : State) (n : Nat) (x) : (s.setFbp n x).links = s.links := (rfl)
@[simp] theorem State.setFbp_ilk (s : State) (n : Nat) (x) : (s.setFbp n x).ilk = s.ilk := (rfl)
@[simp] theorem State.setFbp_fio (s : State) (n : Nat) (x) : (s.setFbp n x).fio = s.fio := (rfl)
@[simp] theorem State.setFbp_loads (s : State) (n : Nat) (x) : (s.setFbp n x).loads = s.loads := (rfl)
@[simp] theorem State.setFbp_net (s : State) (n : Nat) (x) : (s.setFbp n x).net = s.net := (rfl)
@[simp] theorem State.setFbp_trdp (s : State) (n : Nat) (x) : (s.setFbp n x).trdp = s.trdp := (rfl)
@[simp] theorem State.setFbp_conns (s : State) (n : Nat) (x) : (s.setFbp n x).conns = s.conns := (rfl)
@[simp] theorem State.setFbp_twin (s : State) (n : Nat) (x) : (s.setFbp n x).twin = s.twin := (rfl)
@[simp] theorem State.setFbp_regs (s : State) (n : Nat) (x) : (s.setFbp n x).regs = s.regs := (rfl)
@[simp] theorem State.setFbp_mem (s : State) (n : Nat) (x) : (s.setFbp n x).mem = s.mem := (rfl)
@[simp] theorem State.setFbp_flash (s : State) (n : Nat) (x) : (s.setFbp n x).flash = s.flash := (rfl)
@[simp] theorem State.setFbp_outs (s : State) (n : Nat) (x) : (s.setFbp n x).outs = s.outs := (rfl)
@[simp] theorem State.setFbp_free (s : State) (n : Nat) (x) : (s.setFbp n x).free = s.free := (rfl)
@[simp] theorem State.setFbp_pending (s : State) (n : Nat) (x) : (s.setFbp n x).pending = s.pending := (rfl)
@[simp] theorem State.portal_setFbp (s : State) (n j : Nat) (x) : (s.setFbp n x).portal j = s.portal j := (rfl)
@[simp] theorem State.ob_setFbp (s : State) (n j : Nat) (x) : (s.setFbp n x).ob j = s.ob j := (rfl)
@[simp] theorem State.axis_setFbp (s : State) (n j : Nat) (x) : (s.setFbp n x).axis j = s.axis j := (rfl)
@[simp] theorem State.link_setFbp (s : State) (n j : Nat) (x) : (s.setFbp n x).link j = s.link j := (rfl)
@[simp] theorem State.so_setFbp (s : State) (n j : Nat) (x) : (s.setFbp n x).so j = s.so j := (rfl)
@[simp] theorem State.pair_setFbp (s : State) (n j : Nat) (x) : (s.setFbp n x).pair j = s.pair j := (rfl)
@[simp] theorem State.mon_setFbp (s : State) (n j : Nat) (x) : (s.setFbp n x).mon j = s.mon j := (rfl)
@[simp] theorem State.flink_setFbp (s : State) (n j : Nat) (x) : (s.setFbp n x).flink j = s.flink j := (rfl)
@[simp] theorem State.die_setFbp (s : State) (n j : Nat) (x) : (s.setFbp n x).die j = s.die j := (rfl)
@[simp] theorem State.sw_setFbp (s : State) (n j : Nat) (x) : (s.setFbp n x).sw j = s.sw j := (rfl)
@[simp] theorem State.bank_setFbp (s : State) (n j : Nat) (x) : (s.setFbp n x).bank j = s.bank j := (rfl)
@[simp] theorem State.port_setFbp (s : State) (n j : Nat) (x) : (s.setFbp n x).port j = s.port j := (rfl)
@[simp] theorem State.conn_setFbp (s : State) (n j : Nat) (x) : (s.setFbp n x).conn j = s.conn j := (rfl)
@[simp] theorem State.slot_setFbp (s : State) (n j : Nat) (x) : (s.setFbp n x).slot j = s.slot j := (rfl)
@[simp] theorem State.tracker_setFbp (s : State) (n j : Nat) (x) : (s.setFbp n x).tracker j = s.tracker j := (rfl)
@[simp] theorem State.ptpPort_setFbp (s : State) (n j : Nat) (x) : (s.setFbp n x).ptpPort j = s.ptpPort j := (rfl)
@[simp] theorem State.mrst_setFbp (s : State) (n j : Nat) (x) : (s.setFbp n x).mrst j = s.mrst j := (rfl)

/-! ### setLink -/

@[simp] theorem State.link_setLink (s : State) (n m : Nat) (x) : (s.setLink n x).link m = if m = n then x else s.link m :=
  Table.get_set _ _ _ _ _
@[simp] theorem State.modLink_eq (s : State) (n : Nat) (f) : s.modLink n f = s.setLink n (f (s.link n)) := (rfl)
@[simp] theorem State.setLink_sys (s : State) (n : Nat) (x) : (s.setLink n x).sys = s.sys := (rfl)
@[simp] theorem State.setLink_bk (s : State) (n : Nat) (x) : (s.setLink n x).bk = s.bk := (rfl)
@[simp] theorem State.setLink_nvm (s : State) (n : Nat) (x) : (s.setLink n x).nvm = s.nvm := (rfl)
@[simp] theorem State.setLink_cat (s : State) (n : Nat) (x) : (s.setLink n x).cat = s.cat := (rfl)
@[simp] theorem State.setLink_sc (s : State) (n : Nat) (x) : (s.setLink n x).sc = s.sc := (rfl)
@[simp] theorem State.setLink_rcd (s : State) (n : Nat) (x) : (s.setLink n x).rcd = s.rcd := (rfl)
@[simp] theorem State.setLink_cnt (s : State) (n : Nat) (x) : (s.setLink n x).cnt = s.cnt := (rfl)
@[simp] theorem State.setLink_time (s : State) (n : Nat) (x) : (s.setLink n x).time = s.time := (rfl)
@[simp] theorem State.setLink_seq (s : State) (n : Nat) (x) : (s.setLink n x).seq = s.seq := (rfl)
@[simp] theorem State.setLink_portals (s : State) (n : Nat) (x) : (s.setLink n x).portals = s.portals := (rfl)
@[simp] theorem State.setLink_obs (s : State) (n : Nat) (x) : (s.setLink n x).obs = s.obs := (rfl)
@[simp] theorem State.setLink_axes (s : State) (n : Nat) (x) : (s.setLink n x).axes = s.axes := (rfl)
@[simp] theorem State.setLink_fb (s : State) (n : Nat) (x) : (s.setLink n x).fb = s.fb := (rfl)
@[simp] theorem State.setLink_ilk (s : State) (n : Nat) (x) : (s.setLink n x).ilk = s.ilk := (rfl)
@[simp] theorem State.setLink_fio (s : State) (n : Nat) (x) : (s.setLink n x).fio = s.fio := (rfl)
@[simp] theorem State.setLink_loads (s : State) (n : Nat) (x) : (s.setLink n x).loads = s.loads := (rfl)
@[simp] theorem State.setLink_net (s : State) (n : Nat) (x) : (s.setLink n x).net = s.net := (rfl)
@[simp] theorem State.setLink_trdp (s : State) (n : Nat) (x) : (s.setLink n x).trdp = s.trdp := (rfl)
@[simp] theorem State.setLink_conns (s : State) (n : Nat) (x) : (s.setLink n x).conns = s.conns := (rfl)
@[simp] theorem State.setLink_twin (s : State) (n : Nat) (x) : (s.setLink n x).twin = s.twin := (rfl)
@[simp] theorem State.setLink_regs (s : State) (n : Nat) (x) : (s.setLink n x).regs = s.regs := (rfl)
@[simp] theorem State.setLink_mem (s : State) (n : Nat) (x) : (s.setLink n x).mem = s.mem := (rfl)
@[simp] theorem State.setLink_flash (s : State) (n : Nat) (x) : (s.setLink n x).flash = s.flash := (rfl)
@[simp] theorem State.setLink_outs (s : State) (n : Nat) (x) : (s.setLink n x).outs = s.outs := (rfl)
@[simp] theorem State.setLink_free (s : State) (n : Nat) (x) : (s.setLink n x).free = s.free := (rfl)
@[simp] theorem State.setLink_pending (s : State) (n : Nat) (x) : (s.setLink n x).pending = s.pending := (rfl)
@[simp] theorem State.portal_setLink (s : State) (n j : Nat) (x) : (s.setLink n x).portal j = s.portal j := (rfl)
@[simp] theorem State.ob_setLink (s : State) (n j : Nat) (x) : (s.setLink n x).ob j = s.ob j := (rfl)
@[simp] theorem State.axis_setLink (s : State) (n j : Nat) (x) : (s.setLink n x).axis j = s.axis j := (rfl)
@[simp] theorem State.fbp_setLink (s : State) (n j : Nat) (x) : (s.setLink n x).fbp j = s.fbp j := (rfl)
@[simp] theorem State.so_setLink (s : State) (n j : Nat) (x) : (s.setLink n x).so j = s.so j := (rfl)
@[simp] theorem State.pair_setLink (s : State) (n j : Nat) (x) : (s.setLink n x).pair j = s.pair j := (rfl)
@[simp] theorem State.mon_setLink (s : State) (n j : Nat) (x) : (s.setLink n x).mon j = s.mon j := (rfl)
@[simp] theorem State.flink_setLink (s : State) (n j : Nat) (x) : (s.setLink n x).flink j = s.flink j := (rfl)
@[simp] theorem State.die_setLink (s : State) (n j : Nat) (x) : (s.setLink n x).die j = s.die j := (rfl)
@[simp] theorem State.sw_setLink (s : State) (n j : Nat) (x) : (s.setLink n x).sw j = s.sw j := (rfl)
@[simp] theorem State.bank_setLink (s : State) (n j : Nat) (x) : (s.setLink n x).bank j = s.bank j := (rfl)
@[simp] theorem State.port_setLink (s : State) (n j : Nat) (x) : (s.setLink n x).port j = s.port j := (rfl)
@[simp] theorem State.conn_setLink (s : State) (n j : Nat) (x) : (s.setLink n x).conn j = s.conn j := (rfl)
@[simp] theorem State.slot_setLink (s : State) (n j : Nat) (x) : (s.setLink n x).slot j = s.slot j := (rfl)
@[simp] theorem State.tracker_setLink (s : State) (n j : Nat) (x) : (s.setLink n x).tracker j = s.tracker j := (rfl)
@[simp] theorem State.ptpPort_setLink (s : State) (n j : Nat) (x) : (s.setLink n x).ptpPort j = s.ptpPort j := (rfl)
@[simp] theorem State.mrst_setLink (s : State) (n j : Nat) (x) : (s.setLink n x).mrst j = s.mrst j := (rfl)

/-! ### setSo -/

@[simp] theorem State.so_setSo (s : State) (k m : Nat) (x) : (s.setSo k x).so m = if m = k then x else s.so m :=
  Table.get_set _ _ _ _ _
@[simp] theorem State.modSo_eq (s : State) (k : Nat) (f) : s.modSo k f = s.setSo k (f (s.so k)) := (rfl)
@[simp] theorem State.setSo_sys (s : State) (k : Nat) (x) : (s.setSo k x).sys = s.sys := (rfl)
@[simp] theorem State.setSo_bk (s : State) (k : Nat) (x) : (s.setSo k x).bk = s.bk := (rfl)
@[simp] theorem State.setSo_nvm (s : State) (k : Nat) (x) : (s.setSo k x).nvm = s.nvm := (rfl)
@[simp] theorem State.setSo_cat (s : State) (k : Nat) (x) : (s.setSo k x).cat = s.cat := (rfl)
@[simp] theorem State.setSo_sc (s : State) (k : Nat) (x) : (s.setSo k x).sc = s.sc := (rfl)
@[simp] theorem State.setSo_rcd (s : State) (k : Nat) (x) : (s.setSo k x).rcd = s.rcd := (rfl)
@[simp] theorem State.setSo_cnt (s : State) (k : Nat) (x) : (s.setSo k x).cnt = s.cnt := (rfl)
@[simp] theorem State.setSo_time (s : State) (k : Nat) (x) : (s.setSo k x).time = s.time := (rfl)
@[simp] theorem State.setSo_seq (s : State) (k : Nat) (x) : (s.setSo k x).seq = s.seq := (rfl)
@[simp] theorem State.setSo_portals (s : State) (k : Nat) (x) : (s.setSo k x).portals = s.portals := (rfl)
@[simp] theorem State.setSo_obs (s : State) (k : Nat) (x) : (s.setSo k x).obs = s.obs := (rfl)
@[simp] theorem State.setSo_axes (s : State) (k : Nat) (x) : (s.setSo k x).axes = s.axes := (rfl)
@[simp] theorem State.setSo_fb (s : State) (k : Nat) (x) : (s.setSo k x).fb = s.fb := (rfl)
@[simp] theorem State.setSo_links (s : State) (k : Nat) (x) : (s.setSo k x).links = s.links := (rfl)
@[simp] theorem State.setSo_fio (s : State) (k : Nat) (x) : (s.setSo k x).fio = s.fio := (rfl)
@[simp] theorem State.setSo_loads (s : State) (k : Nat) (x) : (s.setSo k x).loads = s.loads := (rfl)
@[simp] theorem State.setSo_net (s : State) (k : Nat) (x) : (s.setSo k x).net = s.net := (rfl)
@[simp] theorem State.setSo_trdp (s : State) (k : Nat) (x) : (s.setSo k x).trdp = s.trdp := (rfl)
@[simp] theorem State.setSo_conns (s : State) (k : Nat) (x) : (s.setSo k x).conns = s.conns := (rfl)
@[simp] theorem State.setSo_twin (s : State) (k : Nat) (x) : (s.setSo k x).twin = s.twin := (rfl)
@[simp] theorem State.setSo_regs (s : State) (k : Nat) (x) : (s.setSo k x).regs = s.regs := (rfl)
@[simp] theorem State.setSo_mem (s : State) (k : Nat) (x) : (s.setSo k x).mem = s.mem := (rfl)
@[simp] theorem State.setSo_flash (s : State) (k : Nat) (x) : (s.setSo k x).flash = s.flash := (rfl)
@[simp] theorem State.setSo_outs (s : State) (k : Nat) (x) : (s.setSo k x).outs = s.outs := (rfl)
@[simp] theorem State.setSo_free (s : State) (k : Nat) (x) : (s.setSo k x).free = s.free := (rfl)
@[simp] theorem State.setSo_pending (s : State) (k : Nat) (x) : (s.setSo k x).pending = s.pending := (rfl)
@[simp] theorem State.portal_setSo (s : State) (k j : Nat) (x) : (s.setSo k x).portal j = s.portal j := (rfl)
@[simp] theorem State.ob_setSo (s : State) (k j : Nat) (x) : (s.setSo k x).ob j = s.ob j := (rfl)
@[simp] theorem State.axis_setSo (s : State) (k j : Nat) (x) : (s.setSo k x).axis j = s.axis j := (rfl)
@[simp] theorem State.fbp_setSo (s : State) (k j : Nat) (x) : (s.setSo k x).fbp j = s.fbp j := (rfl)
@[simp] theorem State.link_setSo (s : State) (k j : Nat) (x) : (s.setSo k x).link j = s.link j := (rfl)
@[simp] theorem State.pair_setSo (s : State) (k j : Nat) (x) : (s.setSo k x).pair j = s.pair j := (rfl)
@[simp] theorem State.mon_setSo (s : State) (k j : Nat) (x) : (s.setSo k x).mon j = s.mon j := (rfl)
@[simp] theorem State.flink_setSo (s : State) (k j : Nat) (x) : (s.setSo k x).flink j = s.flink j := (rfl)
@[simp] theorem State.die_setSo (s : State) (k j : Nat) (x) : (s.setSo k x).die j = s.die j := (rfl)
@[simp] theorem State.sw_setSo (s : State) (k j : Nat) (x) : (s.setSo k x).sw j = s.sw j := (rfl)
@[simp] theorem State.bank_setSo (s : State) (k j : Nat) (x) : (s.setSo k x).bank j = s.bank j := (rfl)
@[simp] theorem State.port_setSo (s : State) (k j : Nat) (x) : (s.setSo k x).port j = s.port j := (rfl)
@[simp] theorem State.conn_setSo (s : State) (k j : Nat) (x) : (s.setSo k x).conn j = s.conn j := (rfl)
@[simp] theorem State.slot_setSo (s : State) (k j : Nat) (x) : (s.setSo k x).slot j = s.slot j := (rfl)
@[simp] theorem State.tracker_setSo (s : State) (k j : Nat) (x) : (s.setSo k x).tracker j = s.tracker j := (rfl)
@[simp] theorem State.ptpPort_setSo (s : State) (k j : Nat) (x) : (s.setSo k x).ptpPort j = s.ptpPort j := (rfl)
@[simp] theorem State.mrst_setSo (s : State) (k j : Nat) (x) : (s.setSo k x).mrst j = s.mrst j := (rfl)

/-! ### setPair -/

@[simp] theorem State.pair_setPair (s : State) (i m : Nat) (x) : (s.setPair i x).pair m = if m = i then x else s.pair m :=
  Table.get_set _ _ _ _ _
@[simp] theorem State.modPair_eq (s : State) (i : Nat) (f) : s.modPair i f = s.setPair i (f (s.pair i)) := (rfl)
@[simp] theorem State.setPair_sys (s : State) (i : Nat) (x) : (s.setPair i x).sys = s.sys := (rfl)
@[simp] theorem State.setPair_bk (s : State) (i : Nat) (x) : (s.setPair i x).bk = s.bk := (rfl)
@[simp] theorem State.setPair_nvm (s : State) (i : Nat) (x) : (s.setPair i x).nvm = s.nvm := (rfl)
@[simp] theorem State.setPair_cat (s : State) (i : Nat) (x) : (s.setPair i x).cat = s.cat := (rfl)
@[simp] theorem State.setPair_sc (s : State) (i : Nat) (x) : (s.setPair i x).sc = s.sc := (rfl)
@[simp] theorem State.setPair_rcd (s : State) (i : Nat) (x) : (s.setPair i x).rcd = s.rcd := (rfl)
@[simp] theorem State.setPair_cnt (s : State) (i : Nat) (x) : (s.setPair i x).cnt = s.cnt := (rfl)
@[simp] theorem State.setPair_time (s : State) (i : Nat) (x) : (s.setPair i x).time = s.time := (rfl)
@[simp] theorem State.setPair_seq (s : State) (i : Nat) (x) : (s.setPair i x).seq = s.seq := (rfl)
@[simp] theorem State.setPair_portals (s : State) (i : Nat) (x) : (s.setPair i x).portals = s.portals := (rfl)
@[simp] theorem State.setPair_obs (s : State) (i : Nat) (x) : (s.setPair i x).obs = s.obs := (rfl)
@[simp] theorem State.setPair_axes (s : State) (i : Nat) (x) : (s.setPair i x).axes = s.axes := (rfl)
@[simp] theorem State.setPair_fb (s : State) (i : Nat) (x) : (s.setPair i x).fb = s.fb := (rfl)
@[simp] theorem State.setPair_links (s : State) (i : Nat) (x) : (s.setPair i x).links = s.links := (rfl)
@[simp] theorem State.setPair_fio (s : State) (i : Nat) (x) : (s.setPair i x).fio = s.fio := (rfl)
@[simp] theorem State.setPair_loads (s : State) (i : Nat) (x) : (s.setPair i x).loads = s.loads := (rfl)
@[simp] theorem State.setPair_net (s : State) (i : Nat) (x) : (s.setPair i x).net = s.net := (rfl)
@[simp] theorem State.setPair_trdp (s : State) (i : Nat) (x) : (s.setPair i x).trdp = s.trdp := (rfl)
@[simp] theorem State.setPair_conns (s : State) (i : Nat) (x) : (s.setPair i x).conns = s.conns := (rfl)
@[simp] theorem State.setPair_twin (s : State) (i : Nat) (x) : (s.setPair i x).twin = s.twin := (rfl)
@[simp] theorem State.setPair_regs (s : State) (i : Nat) (x) : (s.setPair i x).regs = s.regs := (rfl)
@[simp] theorem State.setPair_mem (s : State) (i : Nat) (x) : (s.setPair i x).mem = s.mem := (rfl)
@[simp] theorem State.setPair_flash (s : State) (i : Nat) (x) : (s.setPair i x).flash = s.flash := (rfl)
@[simp] theorem State.setPair_outs (s : State) (i : Nat) (x) : (s.setPair i x).outs = s.outs := (rfl)
@[simp] theorem State.setPair_free (s : State) (i : Nat) (x) : (s.setPair i x).free = s.free := (rfl)
@[simp] theorem State.setPair_pending (s : State) (i : Nat) (x) : (s.setPair i x).pending = s.pending := (rfl)
@[simp] theorem State.portal_setPair (s : State) (i j : Nat) (x) : (s.setPair i x).portal j = s.portal j := (rfl)
@[simp] theorem State.ob_setPair (s : State) (i j : Nat) (x) : (s.setPair i x).ob j = s.ob j := (rfl)
@[simp] theorem State.axis_setPair (s : State) (i j : Nat) (x) : (s.setPair i x).axis j = s.axis j := (rfl)
@[simp] theorem State.fbp_setPair (s : State) (i j : Nat) (x) : (s.setPair i x).fbp j = s.fbp j := (rfl)
@[simp] theorem State.link_setPair (s : State) (i j : Nat) (x) : (s.setPair i x).link j = s.link j := (rfl)
@[simp] theorem State.so_setPair (s : State) (i j : Nat) (x) : (s.setPair i x).so j = s.so j := (rfl)
@[simp] theorem State.mon_setPair (s : State) (i j : Nat) (x) : (s.setPair i x).mon j = s.mon j := (rfl)
@[simp] theorem State.flink_setPair (s : State) (i j : Nat) (x) : (s.setPair i x).flink j = s.flink j := (rfl)
@[simp] theorem State.die_setPair (s : State) (i j : Nat) (x) : (s.setPair i x).die j = s.die j := (rfl)
@[simp] theorem State.sw_setPair (s : State) (i j : Nat) (x) : (s.setPair i x).sw j = s.sw j := (rfl)
@[simp] theorem State.bank_setPair (s : State) (i j : Nat) (x) : (s.setPair i x).bank j = s.bank j := (rfl)
@[simp] theorem State.port_setPair (s : State) (i j : Nat) (x) : (s.setPair i x).port j = s.port j := (rfl)
@[simp] theorem State.conn_setPair (s : State) (i j : Nat) (x) : (s.setPair i x).conn j = s.conn j := (rfl)
@[simp] theorem State.slot_setPair (s : State) (i j : Nat) (x) : (s.setPair i x).slot j = s.slot j := (rfl)
@[simp] theorem State.tracker_setPair (s : State) (i j : Nat) (x) : (s.setPair i x).tracker j = s.tracker j := (rfl)
@[simp] theorem State.ptpPort_setPair (s : State) (i j : Nat) (x) : (s.setPair i x).ptpPort j = s.ptpPort j := (rfl)
@[simp] theorem State.mrst_setPair (s : State) (i j : Nat) (x) : (s.setPair i x).mrst j = s.mrst j := (rfl)

/-! ### setMon -/

@[simp] theorem State.mon_setMon (s : State) (i m : Nat) (x) : (s.setMon i x).mon m = if m = i then x else s.mon m :=
  Table.get_set _ _ _ _ _
@[simp] theorem State.modMon_eq (s : State) (i : Nat) (f) : s.modMon i f = s.setMon i (f (s.mon i)) := (rfl)
@[simp] theorem State.setMon_sys (s : State) (i : Nat) (x) : (s.setMon i x).sys = s.sys := (rfl)
@[simp] theorem State.setMon_bk (s : State) (i : Nat) (x) : (s.setMon i x).bk = s.bk := (rfl)
@[simp] theorem State.setMon_nvm (s : State) (i : Nat) (x) : (s.setMon i x).nvm = s.nvm := (rfl)
@[simp] theorem State.setMon_cat (s : State) (i : Nat) (x) : (s.setMon i x).cat = s.cat := (rfl)
@[simp] theorem State.setMon_sc (s : State) (i : Nat) (x) : (s.setMon i x).sc = s.sc := (rfl)
@[simp] theorem State.setMon_rcd (s : State) (i : Nat) (x) : (s.setMon i x).rcd = s.rcd := (rfl)
@[simp] theorem State.setMon_cnt (s : State) (i : Nat) (x) : (s.setMon i x).cnt = s.cnt := (rfl)
@[simp] theorem State.setMon_time (s : State) (i : Nat) (x) : (s.setMon i x).time = s.time := (rfl)
@[simp] theorem State.setMon_seq (s : State) (i : Nat) (x) : (s.setMon i x).seq = s.seq := (rfl)
@[simp] theorem State.setMon_portals (s : State) (i : Nat) (x) : (s.setMon i x).portals = s.portals := (rfl)
@[simp] theorem State.setMon_obs (s : State) (i : Nat) (x) : (s.setMon i x).obs = s.obs := (rfl)
@[simp] theorem State.setMon_axes (s : State) (i : Nat) (x) : (s.setMon i x).axes = s.axes := (rfl)
@[simp] theorem State.setMon_fb (s : State) (i : Nat) (x) : (s.setMon i x).fb = s.fb := (rfl)
@[simp] theorem State.setMon_links (s : State) (i : Nat) (x) : (s.setMon i x).links = s.links := (rfl)
@[simp] theorem State.setMon_fio (s : State) (i : Nat) (x) : (s.setMon i x).fio = s.fio := (rfl)
@[simp] theorem State.setMon_loads (s : State) (i : Nat) (x) : (s.setMon i x).loads = s.loads := (rfl)
@[simp] theorem State.setMon_net (s : State) (i : Nat) (x) : (s.setMon i x).net = s.net := (rfl)
@[simp] theorem State.setMon_trdp (s : State) (i : Nat) (x) : (s.setMon i x).trdp = s.trdp := (rfl)
@[simp] theorem State.setMon_conns (s : State) (i : Nat) (x) : (s.setMon i x).conns = s.conns := (rfl)
@[simp] theorem State.setMon_twin (s : State) (i : Nat) (x) : (s.setMon i x).twin = s.twin := (rfl)
@[simp] theorem State.setMon_regs (s : State) (i : Nat) (x) : (s.setMon i x).regs = s.regs := (rfl)
@[simp] theorem State.setMon_mem (s : State) (i : Nat) (x) : (s.setMon i x).mem = s.mem := (rfl)
@[simp] theorem State.setMon_flash (s : State) (i : Nat) (x) : (s.setMon i x).flash = s.flash := (rfl)
@[simp] theorem State.setMon_outs (s : State) (i : Nat) (x) : (s.setMon i x).outs = s.outs := (rfl)
@[simp] theorem State.setMon_free (s : State) (i : Nat) (x) : (s.setMon i x).free = s.free := (rfl)
@[simp] theorem State.setMon_pending (s : State) (i : Nat) (x) : (s.setMon i x).pending = s.pending := (rfl)
@[simp] theorem State.portal_setMon (s : State) (i j : Nat) (x) : (s.setMon i x).portal j = s.portal j := (rfl)
@[simp] theorem State.ob_setMon (s : State) (i j : Nat) (x) : (s.setMon i x).ob j = s.ob j := (rfl)
@[simp] theorem State.axis_setMon (s : State) (i j : Nat) (x) : (s.setMon i x).axis j = s.axis j := (rfl)
@[simp] theorem State.fbp_setMon (s : State) (i j : Nat) (x) : (s.setMon i x).fbp j = s.fbp j := (rfl)
@[simp] theorem State.link_setMon (s : State) (i j : Nat) (x) : (s.setMon i x).link j = s.link j := (rfl)
@[simp] theorem State.so_setMon (s : State) (i j : Nat) (x) : (s.setMon i x).so j = s.so j := (rfl)
@[simp] theorem State.pair_setMon (s : State) (i j : Nat) (x) : (s.setMon i x).pair j = s.pair j := (rfl)
@[simp] theorem State.flink_setMon (s : State) (i j : Nat) (x) : (s.setMon i x).flink j = s.flink j := (rfl)
@[simp] theorem State.die_setMon (s : State) (i j : Nat) (x) : (s.setMon i x).die j = s.die j := (rfl)
@[simp] theorem State.sw_setMon (s : State) (i j : Nat) (x) : (s.setMon i x).sw j = s.sw j := (rfl)
@[simp] theorem State.bank_setMon (s : State) (i j : Nat) (x) : (s.setMon i x).bank j = s.bank j := (rfl)
@[simp] theorem State.port_setMon (s : State) (i j : Nat) (x) : (s.setMon i x).port j = s.port j := (rfl)
@[simp] theorem State.conn_setMon (s : State) (i j : Nat) (x) : (s.setMon i x).conn j = s.conn j := (rfl)
@[simp] theorem State.slot_setMon (s : State) (i j : Nat) (x) : (s.setMon i x).slot j = s.slot j := (rfl)
@[simp] theorem State.tracker_setMon (s : State) (i j : Nat) (x) : (s.setMon i x).tracker j = s.tracker j := (rfl)
@[simp] theorem State.ptpPort_setMon (s : State) (i j : Nat) (x) : (s.setMon i x).ptpPort j = s.ptpPort j := (rfl)
@[simp] theorem State.mrst_setMon (s : State) (i j : Nat) (x) : (s.setMon i x).mrst j = s.mrst j := (rfl)

/-! ### setFlink -/

@[simp] theorem State.flink_setFlink (s : State) (k m : Nat) (x) : (s.setFlink k x).flink m = if m = k then x else s.flink m :=
  Table.get_set _ _ _ _ _
@[simp] theorem State.modFlink_eq (s : State) (k : Nat) (f) : s.modFlink k f = s.setFlink k (f (s.flink k)) := (rfl)
@[simp] theorem State.setFlink_sys (s : State) (k : Nat) (x) : (s.setFlink k x).sys = s.sys := (rfl)
@[simp] theorem State.setFlink_bk (s : State) (k : Nat) (x) : (s.setFlink k x).bk = s.bk := (rfl)
@[simp] theorem State.setFlink_nvm (s : State) (k : Nat) (x) : (s.setFlink k x).nvm = s.nvm := (rfl)
@[simp] theorem State.setFlink_cat (s : State) (k : Nat) (x) : (s.setFlink k x).cat = s.cat := (rfl)
@[simp] theorem State.setFlink_sc (s : State) (k : Nat) (x) : (s.setFlink k x).sc = s.sc := (rfl)
@[simp] theorem State.setFlink_rcd (s : State) (k : Nat) (x) : (s.setFlink k x).rcd = s.rcd := (rfl)
@[simp] theorem State.setFlink_cnt (s : State) (k : Nat) (x) : (s.setFlink k x).cnt = s.cnt := (rfl)
@[simp] theorem State.setFlink_time (s : State) (k : Nat) (x) : (s.setFlink k x).time = s.time := (rfl)
@[simp] theorem State.setFlink_seq (s : State) (k : Nat) (x) : (s.setFlink k x).seq = s.seq := (rfl)
@[simp] theorem State.setFlink_portals (s : State) (k : Nat) (x) : (s.setFlink k x).portals = s.portals := (rfl)
@[simp] theorem State.setFlink_obs (s : State) (k : Nat) (x) : (s.setFlink k x).obs = s.obs := (rfl)
@[simp] theorem State.setFlink_axes (s : State) (k : Nat) (x) : (s.setFlink k x).axes = s.axes := (rfl)
@[simp] theorem State.setFlink_fb (s : State) (k : Nat) (x) : (s.setFlink k x).fb = s.fb := (rfl)
@[simp] theorem State.setFlink_links (s : State) (k : Nat) (x) : (s.setFlink k x).links = s.links := (rfl)
@[simp] theorem State.setFlink_ilk (s : State) (k : Nat) (x) : (s.setFlink k x).ilk = s.ilk := (rfl)
@[simp] theorem State.setFlink_loads (s : State) (k : Nat) (x) : (s.setFlink k x).loads = s.loads := (rfl)
@[simp] theorem State.setFlink_net (s : State) (k : Nat) (x) : (s.setFlink k x).net = s.net := (rfl)
@[simp] theorem State.setFlink_trdp (s : State) (k : Nat) (x) : (s.setFlink k x).trdp = s.trdp := (rfl)
@[simp] theorem State.setFlink_conns (s : State) (k : Nat) (x) : (s.setFlink k x).conns = s.conns := (rfl)
@[simp] theorem State.setFlink_twin (s : State) (k : Nat) (x) : (s.setFlink k x).twin = s.twin := (rfl)
@[simp] theorem State.setFlink_regs (s : State) (k : Nat) (x) : (s.setFlink k x).regs = s.regs := (rfl)
@[simp] theorem State.setFlink_mem (s : State) (k : Nat) (x) : (s.setFlink k x).mem = s.mem := (rfl)
@[simp] theorem State.setFlink_flash (s : State) (k : Nat) (x) : (s.setFlink k x).flash = s.flash := (rfl)
@[simp] theorem State.setFlink_outs (s : State) (k : Nat) (x) : (s.setFlink k x).outs = s.outs := (rfl)
@[simp] theorem State.setFlink_free (s : State) (k : Nat) (x) : (s.setFlink k x).free = s.free := (rfl)
@[simp] theorem State.setFlink_pending (s : State) (k : Nat) (x) : (s.setFlink k x).pending = s.pending := (rfl)
@[simp] theorem State.portal_setFlink (s : State) (k j : Nat) (x) : (s.setFlink k x).portal j = s.portal j := (rfl)
@[simp] theorem State.ob_setFlink (s : State) (k j : Nat) (x) : (s.setFlink k x).ob j = s.ob j := (rfl)
@[simp] theorem State.axis_setFlink (s : State) (k j : Nat) (x) : (s.setFlink k x).axis j = s.axis j := (rfl)
@[simp] theorem State.fbp_setFlink (s : State) (k j : Nat) (x) : (s.setFlink k x).fbp j = s.fbp j := (rfl)
@[simp] theorem State.link_setFlink (s : State) (k j : Nat) (x) : (s.setFlink k x).link j = s.link j := (rfl)
@[simp] theorem State.so_setFlink (s : State) (k j : Nat) (x) : (s.setFlink k x).so j = s.so j := (rfl)
@[simp] theorem State.pair_setFlink (s : State) (k j : Nat) (x) : (s.setFlink k x).pair j = s.pair j := (rfl)
@[simp] theorem State.mon_setFlink (s : State) (k j : Nat) (x) : (s.setFlink k x).mon j = s.mon j := (rfl)
@[simp] theorem State.die_setFlink (s : State) (k j : Nat) (x) : (s.setFlink k x).die j = s.die j := (rfl)
@[simp] theorem State.sw_setFlink (s : State) (k j : Nat) (x) : (s.setFlink k x).sw j = s.sw j := (rfl)
@[simp] theorem State.bank_setFlink (s : State) (k j : Nat) (x) : (s.setFlink k x).bank j = s.bank j := (rfl)
@[simp] theorem State.port_setFlink (s : State) (k j : Nat) (x) : (s.setFlink k x).port j = s.port j := (rfl)
@[simp] theorem State.conn_setFlink (s : State) (k j : Nat) (x) : (s.setFlink k x).conn j = s.conn j := (rfl)
@[simp] theorem State.slot_setFlink (s : State) (k j : Nat) (x) : (s.setFlink k x).slot j = s.slot j := (rfl)
@[simp] theorem State.tracker_setFlink (s : State) (k j : Nat) (x) : (s.setFlink k x).tracker j = s.tracker j := (rfl)
@[simp] theorem State.ptpPort_setFlink (s : State) (k j : Nat) (x) : (s.setFlink k x).ptpPort j = s.ptpPort j := (rfl)
@[simp] theorem State.mrst_setFlink (s : State) (k j : Nat) (x) : (s.setFlink k x).mrst j = s.mrst j := (rfl)

/-! ### setDie -/

@[simp] theorem State.die_setDie (s : State) (k m : Nat) (x) : (s.setDie k x).die m = if m = k then x else s.die m :=
  Table.get_set _ _ _ _ _
@[simp] theorem State.modDie_eq (s : State) (k : Nat) (f) : s.modDie k f = s.setDie k (f (s.die k)) := (rfl)
@[simp] theorem State.setDie_sys (s : State) (k : Nat) (x) : (s.setDie k x).sys = s.sys := (rfl)
@[simp] theorem State.setDie_bk (s : State) (k : Nat) (x) : (s.setDie k x).bk = s.bk := (rfl)
@[simp] theorem State.setDie_nvm (s : State) (k : Nat) (x) : (s.setDie k x).nvm = s.nvm := (rfl)
@[simp] theorem State.setDie_cat (s : State) (k : Nat) (x) : (s.setDie k x).cat = s.cat := (rfl)
@[simp] theorem State.setDie_sc (s : State) (k : Nat) (x) : (s.setDie k x).sc = s.sc := (rfl)
@[simp] theorem State.setDie_rcd (s : State) (k : Nat) (x) : (s.setDie k x).rcd = s.rcd := (rfl)
@[simp] theorem State.setDie_cnt (s : State) (k : Nat) (x) : (s.setDie k x).cnt = s.cnt := (rfl)
@[simp] theorem State.setDie_time (s : State) (k : Nat) (x) : (s.setDie k x).time = s.time := (rfl)
@[simp] theorem State.setDie_seq (s : State) (k : Nat) (x) : (s.setDie k x).seq = s.seq := (rfl)
@[simp] theorem State.setDie_portals (s : State) (k : Nat) (x) : (s.setDie k x).portals = s.portals := (rfl)
@[simp] theorem State.setDie_obs (s : State) (k : Nat) (x) : (s.setDie k x).obs = s.obs := (rfl)
@[simp] theorem State.setDie_axes (s : State) (k : Nat) (x) : (s.setDie k x).axes = s.axes := (rfl)
@[simp] theorem State.setDie_fb (s : State) (k : Nat) (x) : (s.setDie k x).fb = s.fb := (rfl)
@[simp] theorem State.setDie_links (s : State) (k : Nat) (x) : (s.setDie k x).links = s.links := (rfl)
@[simp] theorem State.setDie_ilk (s : State) (k : Nat) (x) : (s.setDie k x).ilk = s.ilk := (rfl)
@[simp] theorem State.setDie_loads (s : State) (k : Nat) (x) : (s.setDie k x).loads = s.loads := (rfl)
@[simp] theorem State.setDie_net (s : State) (k : Nat) (x) : (s.setDie k x).net = s.net := (rfl)
@[simp] theorem State.setDie_trdp (s : State) (k : Nat) (x) : (s.setDie k x).trdp = s.trdp := (rfl)
@[simp] theorem State.setDie_conns (s : State) (k : Nat) (x) : (s.setDie k x).conns = s.conns := (rfl)
@[simp] theorem State.setDie_twin (s : State) (k : Nat) (x) : (s.setDie k x).twin = s.twin := (rfl)
@[simp] theorem State.setDie_regs (s : State) (k : Nat) (x) : (s.setDie k x).regs = s.regs := (rfl)
@[simp] theorem State.setDie_mem (s : State) (k : Nat) (x) : (s.setDie k x).mem = s.mem := (rfl)
@[simp] theorem State.setDie_flash (s : State) (k : Nat) (x) : (s.setDie k x).flash = s.flash := (rfl)
@[simp] theorem State.setDie_outs (s : State) (k : Nat) (x) : (s.setDie k x).outs = s.outs := (rfl)
@[simp] theorem State.setDie_free (s : State) (k : Nat) (x) : (s.setDie k x).free = s.free := (rfl)
@[simp] theorem State.setDie_pending (s : State) (k : Nat) (x) : (s.setDie k x).pending = s.pending := (rfl)
@[simp] theorem State.portal_setDie (s : State) (k j : Nat) (x) : (s.setDie k x).portal j = s.portal j := (rfl)
@[simp] theorem State.ob_setDie (s : State) (k j : Nat) (x) : (s.setDie k x).ob j = s.ob j := (rfl)
@[simp] theorem State.axis_setDie (s : State) (k j : Nat) (x) : (s.setDie k x).axis j = s.axis j := (rfl)
@[simp] theorem State.fbp_setDie (s : State) (k j : Nat) (x) : (s.setDie k x).fbp j = s.fbp j := (rfl)
@[simp] theorem State.link_setDie (s : State) (k j : Nat) (x) : (s.setDie k x).link j = s.link j := (rfl)
@[simp] theorem State.so_setDie (s : State) (k j : Nat) (x) : (s.setDie k x).so j = s.so j := (rfl)
@[simp] theorem State.pair_setDie (s : State) (k j : Nat) (x) : (s.setDie k x).pair j = s.pair j := (rfl)
@[simp] theorem State.mon_setDie (s : State) (k j : Nat) (x) : (s.setDie k x).mon j = s.mon j := (rfl)
@[simp] theorem State.flink_setDie (s : State) (k j : Nat) (x) : (s.setDie k x).flink j = s.flink j := (rfl)
@[simp] theorem State.sw_setDie (s : State) (k j : Nat) (x) : (s.setDie k x).sw j = s.sw j := (rfl)
@[simp] theorem State.bank_setDie (s : State) (k j : Nat) (x) : (s.setDie k x).bank j = s.bank j := (rfl)
@[simp] theorem State.port_setDie (s : State) (k j : Nat) (x) : (s.setDie k x).port j = s.port j := (rfl)
@[simp] theorem State.conn_setDie (s : State) (k j : Nat) (x) : (s.setDie k x).conn j = s.conn j := (rfl)
@[simp] theorem State.slot_setDie (s : State) (k j : Nat) (x) : (s.setDie k x).slot j = s.slot j := (rfl)
@[simp] theorem State.tracker_setDie (s : State) (k j : Nat) (x) : (s.setDie k x).tracker j = s.tracker j := (rfl)
@[simp] theorem State.ptpPort_setDie (s : State) (k j : Nat) (x) : (s.setDie k x).ptpPort j = s.ptpPort j := (rfl)
@[simp] theorem State.mrst_setDie (s : State) (k j : Nat) (x) : (s.setDie k x).mrst j = s.mrst j := (rfl)

/-! ### setSw -/

@[simp] theorem State.sw_setSw (s : State) (n m : Nat) (x) : (s.setSw n x).sw m = if m = n then x else s.sw m :=
  Table.get_set _ _ _ _ _
@[simp] theorem State.modSw_eq (s : State) (n : Nat) (f) : s.modSw n f = s.setSw n (f (s.sw n)) := (rfl)
@[simp] theorem State.setSw_sys (s : State) (n : Nat) (x) : (s.setSw n x).sys = s.sys := (rfl)
@[simp] theorem State.setSw_bk (s : State) (n : Nat) (x) : (s.setSw n x).bk = s.bk := (rfl)
@[simp] theorem State.setSw_nvm (s : State) (n : Nat) (x) : (s.setSw n x).nvm = s.nvm := (rfl)
@[simp] theorem State.setSw_cat (s : State) (n : Nat) (x) : (s.setSw n x).cat = s.cat := (rfl)
@[simp] theorem State.setSw_sc (s : State) (n : Nat) (x) : (s.setSw n x).sc = s.sc := (rfl)
@[simp] theorem State.setSw_rcd (s : State) (n : Nat) (x) : (s.setSw n x).rcd = s.rcd := (rfl)
@[simp] theorem State.setSw_cnt (s : State) (n : Nat) (x) : (s.setSw n x).cnt = s.cnt := (rfl)
@[simp] theorem State.setSw_time (s : State) (n : Nat) (x) : (s.setSw n x).time = s.time := (rfl)
@[simp] theorem State.setSw_seq (s : State) (n : Nat) (x) : (s.setSw n x).seq = s.seq := (rfl)
@[simp] theorem State.setSw_portals (s : State) (n : Nat) (x) : (s.setSw n x).portals = s.portals := (rfl)
@[simp] theorem State.setSw_obs (s : State) (n : Nat) (x) : (s.setSw n x).obs = s.obs := (rfl)
@[simp] theorem State.setSw_axes (s : State) (n : Nat) (x) : (s.setSw n x).axes = s.axes := (rfl)
@[simp] theorem State.setSw_fb (s : State) (n : Nat) (x) : (s.setSw n x).fb = s.fb := (rfl)
@[simp] theorem State.setSw_links (s : State) (n : Nat) (x) : (s.setSw n x).links = s.links := (rfl)
@[simp] theorem State.setSw_ilk (s : State) (n : Nat) (x) : (s.setSw n x).ilk = s.ilk := (rfl)
@[simp] theorem State.setSw_fio (s : State) (n : Nat) (x) : (s.setSw n x).fio = s.fio := (rfl)
@[simp] theorem State.setSw_net (s : State) (n : Nat) (x) : (s.setSw n x).net = s.net := (rfl)
@[simp] theorem State.setSw_trdp (s : State) (n : Nat) (x) : (s.setSw n x).trdp = s.trdp := (rfl)
@[simp] theorem State.setSw_conns (s : State) (n : Nat) (x) : (s.setSw n x).conns = s.conns := (rfl)
@[simp] theorem State.setSw_twin (s : State) (n : Nat) (x) : (s.setSw n x).twin = s.twin := (rfl)
@[simp] theorem State.setSw_regs (s : State) (n : Nat) (x) : (s.setSw n x).regs = s.regs := (rfl)
@[simp] theorem State.setSw_mem (s : State) (n : Nat) (x) : (s.setSw n x).mem = s.mem := (rfl)
@[simp] theorem State.setSw_flash (s : State) (n : Nat) (x) : (s.setSw n x).flash = s.flash := (rfl)
@[simp] theorem State.setSw_outs (s : State) (n : Nat) (x) : (s.setSw n x).outs = s.outs := (rfl)
@[simp] theorem State.setSw_free (s : State) (n : Nat) (x) : (s.setSw n x).free = s.free := (rfl)
@[simp] theorem State.setSw_pending (s : State) (n : Nat) (x) : (s.setSw n x).pending = s.pending := (rfl)
@[simp] theorem State.portal_setSw (s : State) (n j : Nat) (x) : (s.setSw n x).portal j = s.portal j := (rfl)
@[simp] theorem State.ob_setSw (s : State) (n j : Nat) (x) : (s.setSw n x).ob j = s.ob j := (rfl)
@[simp] theorem State.axis_setSw (s : State) (n j : Nat) (x) : (s.setSw n x).axis j = s.axis j := (rfl)
@[simp] theorem State.fbp_setSw (s : State) (n j : Nat) (x) : (s.setSw n x).fbp j = s.fbp j := (rfl)
@[simp] theorem State.link_setSw (s : State) (n j : Nat) (x) : (s.setSw n x).link j = s.link j := (rfl)
@[simp] theorem State.so_setSw (s : State) (n j : Nat) (x) : (s.setSw n x).so j = s.so j := (rfl)
@[simp] theorem State.pair_setSw (s : State) (n j : Nat) (x) : (s.setSw n x).pair j = s.pair j := (rfl)
@[simp] theorem State.mon_setSw (s : State) (n j : Nat) (x) : (s.setSw n x).mon j = s.mon j := (rfl)
@[simp] theorem State.flink_setSw (s : State) (n j : Nat) (x) : (s.setSw n x).flink j = s.flink j := (rfl)
@[simp] theorem State.die_setSw (s : State) (n j : Nat) (x) : (s.setSw n x).die j = s.die j := (rfl)
@[simp] theorem State.bank_setSw (s : State) (n j : Nat) (x) : (s.setSw n x).bank j = s.bank j := (rfl)
@[simp] theorem State.port_setSw (s : State) (n j : Nat) (x) : (s.setSw n x).port j = s.port j := (rfl)
@[simp] theorem State.conn_setSw (s : State) (n j : Nat) (x) : (s.setSw n x).conn j = s.conn j := (rfl)
@[simp] theorem State.slot_setSw (s : State) (n j : Nat) (x) : (s.setSw n x).slot j = s.slot j := (rfl)
@[simp] theorem State.tracker_setSw (s : State) (n j : Nat) (x) : (s.setSw n x).tracker j = s.tracker j := (rfl)
@[simp] theorem State.ptpPort_setSw (s : State) (n j : Nat) (x) : (s.setSw n x).ptpPort j = s.ptpPort j := (rfl)
@[simp] theorem State.mrst_setSw (s : State) (n j : Nat) (x) : (s.setSw n x).mrst j = s.mrst j := (rfl)

/-! ### setBank -/

@[simp] theorem State.bank_setBank (s : State) (b m : Nat) (x) : (s.setBank b x).bank m = if m = b then x else s.bank m :=
  Table.get_set _ _ _ _ _
@[simp] theorem State.modBank_eq (s : State) (b : Nat) (f) : s.modBank b f = s.setBank b (f (s.bank b)) := (rfl)
@[simp] theorem State.setBank_sys (s : State) (b : Nat) (x) : (s.setBank b x).sys = s.sys := (rfl)
@[simp] theorem State.setBank_bk (s : State) (b : Nat) (x) : (s.setBank b x).bk = s.bk := (rfl)
@[simp] theorem State.setBank_nvm (s : State) (b : Nat) (x) : (s.setBank b x).nvm = s.nvm := (rfl)
@[simp] theorem State.setBank_cat (s : State) (b : Nat) (x) : (s.setBank b x).cat = s.cat := (rfl)
@[simp] theorem State.setBank_sc (s : State) (b : Nat) (x) : (s.setBank b x).sc = s.sc := (rfl)
@[simp] theorem State.setBank_rcd (s : State) (b : Nat) (x) : (s.setBank b x).rcd = s.rcd := (rfl)
@[simp] theorem State.setBank_cnt (s : State) (b : Nat) (x) : (s.setBank b x).cnt = s.cnt := (rfl)
@[simp] theorem State.setBank_time (s : State) (b : Nat) (x) : (s.setBank b x).time = s.time := (rfl)
@[simp] theorem State.setBank_seq (s : State) (b : Nat) (x) : (s.setBank b x).seq = s.seq := (rfl)
@[simp] theorem State.setBank_portals (s : State) (b : Nat) (x) : (s.setBank b x).portals = s.portals := (rfl)
@[simp] theorem State.setBank_obs (s : State) (b : Nat) (x) : (s.setBank b x).obs = s.obs := (rfl)
@[simp] theorem State.setBank_axes (s : State) (b : Nat) (x) : (s.setBank b x).axes = s.axes := (rfl)
@[simp] theorem State.setBank_fb (s : State) (b : Nat) (x) : (s.setBank b x).fb = s.fb := (rfl)
@[simp] theorem State.setBank_links (s : State) (b : Nat) (x) : (s.setBank b x).links = s.links := (rfl)
@[simp] theorem State.setBank_ilk (s : State) (b : Nat) (x) : (s.setBank b x).ilk = s.ilk := (rfl)
@[simp] theorem State.setBank_fio (s : State) (b : Nat) (x) : (s.setBank b x).fio = s.fio := (rfl)
@[simp] theorem State.setBank_net (s : State) (b : Nat) (x) : (s.setBank b x).net = s.net := (rfl)
@[simp] theorem State.setBank_trdp (s : State) (b : Nat) (x) : (s.setBank b x).trdp = s.trdp := (rfl)
@[simp] theorem State.setBank_conns (s : State) (b : Nat) (x) : (s.setBank b x).conns = s.conns := (rfl)
@[simp] theorem State.setBank_twin (s : State) (b : Nat) (x) : (s.setBank b x).twin = s.twin := (rfl)
@[simp] theorem State.setBank_regs (s : State) (b : Nat) (x) : (s.setBank b x).regs = s.regs := (rfl)
@[simp] theorem State.setBank_mem (s : State) (b : Nat) (x) : (s.setBank b x).mem = s.mem := (rfl)
@[simp] theorem State.setBank_flash (s : State) (b : Nat) (x) : (s.setBank b x).flash = s.flash := (rfl)
@[simp] theorem State.setBank_outs (s : State) (b : Nat) (x) : (s.setBank b x).outs = s.outs := (rfl)
@[simp] theorem State.setBank_free (s : State) (b : Nat) (x) : (s.setBank b x).free = s.free := (rfl)
@[simp] theorem State.setBank_pending (s : State) (b : Nat) (x) : (s.setBank b x).pending = s.pending := (rfl)
@[simp] theorem State.portal_setBank (s : State) (b j : Nat) (x) : (s.setBank b x).portal j = s.portal j := (rfl)
@[simp] theorem State.ob_setBank (s : State) (b j : Nat) (x) : (s.setBank b x).ob j = s.ob j := (rfl)
@[simp] theorem State.axis_setBank (s : State) (b j : Nat) (x) : (s.setBank b x).axis j = s.axis j := (rfl)
@[simp] theorem State.fbp_setBank (s : State) (b j : Nat) (x) : (s.setBank b x).fbp j = s.fbp j := (rfl)
@[simp] theorem State.link_setBank (s : State) (b j : Nat) (x) : (s.setBank b x).link j = s.link j := (rfl)
@[simp] theorem State.so_setBank (s : State) (b j : Nat) (x) : (s.setBank b x).so j = s.so j := (rfl)
@[simp] theorem State.pair_setBank (s : State) (b j : Nat) (x) : (s.setBank b x).pair j = s.pair j := (rfl)
@[simp] theorem State.mon_setBank (s : State) (b j : Nat) (x) : (s.setBank b x).mon j = s.mon j := (rfl)
@[simp] theorem State.flink_setBank (s : State) (b j : Nat) (x) : (s.setBank b x).flink j = s.flink j := (rfl)
@[simp] theorem State.die_setBank (s : State) (b j : Nat) (x) : (s.setBank b x).die j = s.die j := (rfl)
@[simp] theorem State.sw_setBank (s : State) (b j : Nat) (x) : (s.setBank b x).sw j = s.sw j := (rfl)
@[simp] theorem State.port_setBank (s : State) (b j : Nat) (x) : (s.setBank b x).port j = s.port j := (rfl)
@[simp] theorem State.conn_setBank (s : State) (b j : Nat) (x) : (s.setBank b x).conn j = s.conn j := (rfl)
@[simp] theorem State.slot_setBank (s : State) (b j : Nat) (x) : (s.setBank b x).slot j = s.slot j := (rfl)
@[simp] theorem State.tracker_setBank (s : State) (b j : Nat) (x) : (s.setBank b x).tracker j = s.tracker j := (rfl)
@[simp] theorem State.ptpPort_setBank (s : State) (b j : Nat) (x) : (s.setBank b x).ptpPort j = s.ptpPort j := (rfl)
@[simp] theorem State.mrst_setBank (s : State) (b j : Nat) (x) : (s.setBank b x).mrst j = s.mrst j := (rfl)

/-! ### setPort -/

@[simp] theorem State.port_setPort (s : State) (i m : Nat) (x) : (s.setPort i x).port m = if m = i then x else s.port m :=
  Table.get_set _ _ _ _ _
@[simp] theorem State.modPort_eq (s : State) (i : Nat) (f) : s.modPort i f = s.setPort i (f (s.port i)) := (rfl)
@[simp] theorem State.setPort_sys (s : State) (i : Nat) (x) : (s.setPort i x).sys = s.sys := (rfl)
@[simp] theorem State.setPort_bk (s : State) (i : Nat) (x) : (s.setPort i x).bk = s.bk := (rfl)
@[simp] theorem State.setPort_nvm (s : State) (i : Nat) (x) : (s.setPort i x).nvm = s.nvm := (rfl)
@[simp] theorem State.setPort_cat (s : State) (i : Nat) (x) : (s.setPort i x).cat = s.cat := (rfl)
@[simp] theorem State.setPort_sc (s : State) (i : Nat) (x) : (s.setPort i x).sc = s.sc := (rfl)
@[simp] theorem State.setPort_rcd (s : State) (i : Nat) (x) : (s.setPort i x).rcd = s.rcd := (rfl)
@[simp] theorem State.setPort_cnt (s : State) (i : Nat) (x) : (s.setPort i x).cnt = s.cnt := (rfl)
@[simp] theorem State.setPort_time (s : State) (i : Nat) (x) : (s.setPort i x).time = s.time := (rfl)
@[simp] theorem State.setPort_seq (s : State) (i : Nat) (x) : (s.setPort i x).seq = s.seq := (rfl)
@[simp] theorem State.setPort_portals (s : State) (i : Nat) (x) : (s.setPort i x).portals = s.portals := (rfl)
@[simp] theorem State.setPort_obs (s : State) (i : Nat) (x) : (s.setPort i x).obs = s.obs := (rfl)
@[simp] theorem State.setPort_axes (s : State) (i : Nat) (x) : (s.setPort i x).axes = s.axes := (rfl)
@[simp] theorem State.setPort_fb (s : State) (i : Nat) (x) : (s.setPort i x).fb = s.fb := (rfl)
@[simp] theorem State.setPort_links (s : State) (i : Nat) (x) : (s.setPort i x).links = s.links := (rfl)
@[simp] theorem State.setPort_ilk (s : State) (i : Nat) (x) : (s.setPort i x).ilk = s.ilk := (rfl)
@[simp] theorem State.setPort_fio (s : State) (i : Nat) (x) : (s.setPort i x).fio = s.fio := (rfl)
@[simp] theorem State.setPort_loads (s : State) (i : Nat) (x) : (s.setPort i x).loads = s.loads := (rfl)
@[simp] theorem State.setPort_trdp (s : State) (i : Nat) (x) : (s.setPort i x).trdp = s.trdp := (rfl)
@[simp] theorem State.setPort_conns (s : State) (i : Nat) (x) : (s.setPort i x).conns = s.conns := (rfl)
@[simp] theorem State.setPort_twin (s : State) (i : Nat) (x) : (s.setPort i x).twin = s.twin := (rfl)
@[simp] theorem State.setPort_regs (s : State) (i : Nat) (x) : (s.setPort i x).regs = s.regs := (rfl)
@[simp] theorem State.setPort_mem (s : State) (i : Nat) (x) : (s.setPort i x).mem = s.mem := (rfl)
@[simp] theorem State.setPort_flash (s : State) (i : Nat) (x) : (s.setPort i x).flash = s.flash := (rfl)
@[simp] theorem State.setPort_outs (s : State) (i : Nat) (x) : (s.setPort i x).outs = s.outs := (rfl)
@[simp] theorem State.setPort_free (s : State) (i : Nat) (x) : (s.setPort i x).free = s.free := (rfl)
@[simp] theorem State.setPort_pending (s : State) (i : Nat) (x) : (s.setPort i x).pending = s.pending := (rfl)
@[simp] theorem State.portal_setPort (s : State) (i j : Nat) (x) : (s.setPort i x).portal j = s.portal j := (rfl)
@[simp] theorem State.ob_setPort (s : State) (i j : Nat) (x) : (s.setPort i x).ob j = s.ob j := (rfl)
@[simp] theorem State.axis_setPort (s : State) (i j : Nat) (x) : (s.setPort i x).axis j = s.axis j := (rfl)
@[simp] theorem State.fbp_setPort (s : State) (i j : Nat) (x) : (s.setPort i x).fbp j = s.fbp j := (rfl)
@[simp] theorem State.link_setPort (s : State) (i j : Nat) (x) : (s.setPort i x).link j = s.link j := (rfl)
@[simp] theorem State.so_setPort (s : State) (i j : Nat) (x) : (s.setPort i x).so j = s.so j := (rfl)
@[simp] theorem State.pair_setPort (s : State) (i j : Nat) (x) : (s.setPort i x).pair j = s.pair j := (rfl)
@[simp] theorem State.mon_setPort (s : State) (i j : Nat) (x) : (s.setPort i x).mon j = s.mon j := (rfl)
@[simp] theorem State.flink_setPort (s : State) (i j : Nat) (x) : (s.setPort i x).flink j = s.flink j := (rfl)
@[simp] theorem State.die_setPort (s : State) (i j : Nat) (x) : (s.setPort i x).die j = s.die j := (rfl)
@[simp] theorem State.sw_setPort (s : State) (i j : Nat) (x) : (s.setPort i x).sw j = s.sw j := (rfl)
@[simp] theorem State.bank_setPort (s : State) (i j : Nat) (x) : (s.setPort i x).bank j = s.bank j := (rfl)
@[simp] theorem State.conn_setPort (s : State) (i j : Nat) (x) : (s.setPort i x).conn j = s.conn j := (rfl)
@[simp] theorem State.slot_setPort (s : State) (i j : Nat) (x) : (s.setPort i x).slot j = s.slot j := (rfl)
@[simp] theorem State.tracker_setPort (s : State) (i j : Nat) (x) : (s.setPort i x).tracker j = s.tracker j := (rfl)
@[simp] theorem State.ptpPort_setPort (s : State) (i j : Nat) (x) : (s.setPort i x).ptpPort j = s.ptpPort j := (rfl)
@[simp] theorem State.mrst_setPort (s : State) (i j : Nat) (x) : (s.setPort i x).mrst j = s.mrst j := (rfl)

/-! ### setConn -/

@[simp] theorem State.conn_setConn (s : State) (c m : Nat) (x) : (s.setConn c x).conn m = if m = c then x else s.conn m :=
  Table.get_set _ _ _ _ _
@[simp] theorem State.modConn_eq (s : State) (c : Nat) (f) : s.modConn c f = s.setConn c (f (s.conn c)) := (rfl)
@[simp] theorem State.setConn_sys (s : State) (c : Nat) (x) : (s.setConn c x).sys = s.sys := (rfl)
@[simp] theorem State.setConn_bk (s : State) (c : Nat) (x) : (s.setConn c x).bk = s.bk := (rfl)
@[simp] theorem State.setConn_nvm (s : State) (c : Nat) (x) : (s.setConn c x).nvm = s.nvm := (rfl)
@[simp] theorem State.setConn_cat (s : State) (c : Nat) (x) : (s.setConn c x).cat = s.cat := (rfl)
@[simp] theorem State.setConn_sc (s : State) (c : Nat) (x) : (s.setConn c x).sc = s.sc := (rfl)
@[simp] theorem State.setConn_rcd (s : State) (c : Nat) (x) : (s.setConn c x).rcd = s.rcd := (rfl)
@[simp] theorem State.setConn_cnt (s : State) (c : Nat) (x) : (s.setConn c x).cnt = s.cnt := (rfl)
@[simp] theorem State.setConn_time (s : State) (c : Nat) (x) : (s.setConn c x).time = s.time := (rfl)
@[simp] theorem State.setConn_seq (s : State) (c : Nat) (x) : (s.setConn c x).seq = s.seq := (rfl)
@[simp] theorem State.setConn_portals (s : State) (c : Nat) (x) : (s.setConn c x).portals = s.portals := (rfl)
@[simp] theorem State.setConn_obs (s : State) (c : Nat) (x) : (s.setConn c x).obs = s.obs := (rfl)
@[simp] theorem State.setConn_axes (s : State) (c : Nat) (x) : (s.setConn c x).axes = s.axes := (rfl)
@[simp] theorem State.setConn_fb (s : State) (c : Nat) (x) : (s.setConn c x).fb = s.fb := (rfl)
@[simp] theorem State.setConn_links (s : State) (c : Nat) (x) : (s.setConn c x).links = s.links := (rfl)
@[simp] theorem State.setConn_ilk (s : State) (c : Nat) (x) : (s.setConn c x).ilk = s.ilk := (rfl)
@[simp] theorem State.setConn_fio (s : State) (c : Nat) (x) : (s.setConn c x).fio = s.fio := (rfl)
@[simp] theorem State.setConn_loads (s : State) (c : Nat) (x) : (s.setConn c x).loads = s.loads := (rfl)
@[simp] theorem State.setConn_net (s : State) (c : Nat) (x) : (s.setConn c x).net = s.net := (rfl)
@[simp] theorem State.setConn_trdp (s : State) (c : Nat) (x) : (s.setConn c x).trdp = s.trdp := (rfl)
@[simp] theorem State.setConn_twin (s : State) (c : Nat) (x) : (s.setConn c x).twin = s.twin := (rfl)
@[simp] theorem State.setConn_regs (s : State) (c : Nat) (x) : (s.setConn c x).regs = s.regs := (rfl)
@[simp] theorem State.setConn_mem (s : State) (c : Nat) (x) : (s.setConn c x).mem = s.mem := (rfl)
@[simp] theorem State.setConn_flash (s : State) (c : Nat) (x) : (s.setConn c x).flash = s.flash := (rfl)
@[simp] theorem State.setConn_outs (s : State) (c : Nat) (x) : (s.setConn c x).outs = s.outs := (rfl)
@[simp] theorem State.setConn_free (s : State) (c : Nat) (x) : (s.setConn c x).free = s.free := (rfl)
@[simp] theorem State.setConn_pending (s : State) (c : Nat) (x) : (s.setConn c x).pending = s.pending := (rfl)
@[simp] theorem State.portal_setConn (s : State) (c j : Nat) (x) : (s.setConn c x).portal j = s.portal j := (rfl)
@[simp] theorem State.ob_setConn (s : State) (c j : Nat) (x) : (s.setConn c x).ob j = s.ob j := (rfl)
@[simp] theorem State.axis_setConn (s : State) (c j : Nat) (x) : (s.setConn c x).axis j = s.axis j := (rfl)
@[simp] theorem State.fbp_setConn (s : State) (c j : Nat) (x) : (s.setConn c x).fbp j = s.fbp j := (rfl)
@[simp] theorem State.link_setConn (s : State) (c j : Nat) (x) : (s.setConn c x).link j = s.link j := (rfl)
@[simp] theorem State.so_setConn (s : State) (c j : Nat) (x) : (s.setConn c x).so j = s.so j := (rfl)
@[simp] theorem State.pair_setConn (s : State) (c j : Nat) (x) : (s.setConn c x).pair j = s.pair j := (rfl)
@[simp] theorem State.mon_setConn (s : State) (c j : Nat) (x) : (s.setConn c x).mon j = s.mon j := (rfl)
@[simp] theorem State.flink_setConn (s : State) (c j : Nat) (x) : (s.setConn c x).flink j = s.flink j := (rfl)
@[simp] theorem State.die_setConn (s : State) (c j : Nat) (x) : (s.setConn c x).die j = s.die j := (rfl)
@[simp] theorem State.sw_setConn (s : State) (c j : Nat) (x) : (s.setConn c x).sw j = s.sw j := (rfl)
@[simp] theorem State.bank_setConn (s : State) (c j : Nat) (x) : (s.setConn c x).bank j = s.bank j := (rfl)
@[simp] theorem State.port_setConn (s : State) (c j : Nat) (x) : (s.setConn c x).port j = s.port j := (rfl)
@[simp] theorem State.slot_setConn (s : State) (c j : Nat) (x) : (s.setConn c x).slot j = s.slot j := (rfl)
@[simp] theorem State.tracker_setConn (s : State) (c j : Nat) (x) : (s.setConn c x).tracker j = s.tracker j := (rfl)
@[simp] theorem State.ptpPort_setConn (s : State) (c j : Nat) (x) : (s.setConn c x).ptpPort j = s.ptpPort j := (rfl)
@[simp] theorem State.mrst_setConn (s : State) (c j : Nat) (x) : (s.setConn c x).mrst j = s.mrst j := (rfl)

/-! ### setSlot -/

@[simp] theorem State.slot_setSlot (s : State) (i m : Nat) (x) : (s.setSlot i x).slot m = if m = i then x else s.slot m :=
  Table.get_set _ _ _ _ _
@[simp] theorem State.setSlot_sys (s : State) (i : Nat) (x) : (s.setSlot i x).sys = s.sys := (rfl)
@[simp] theorem State.setSlot_bk (s : State) (i : Nat) (x) : (s.setSlot i x).bk = s.bk := (rfl)
@[simp] theorem State.setSlot_nvm (s : State) (i : Nat) (x) : (s.setSlot i x).nvm = s.nvm := (rfl)
@[simp] theorem State.setSlot_cat (s : State) (i : Nat) (x) : (s.setSlot i x).cat = s.cat := (rfl)
@[simp] theorem State.setSlot_sc (s : State) (i : Nat) (x) : (s.setSlot i x).sc = s.sc := (rfl)
@[simp] theorem State.setSlot_rcd (s : State) (i : Nat) (x) : (s.setSlot i x).rcd = s.rcd := (rfl)
@[simp] theorem State.setSlot_cnt (s : State) (i : Nat) (x) : (s.setSlot i x).cnt = s.cnt := (rfl)
@[simp] theorem State.setSlot_time (s : State) (i : Nat) (x) : (s.setSlot i x).time = s.time := (rfl)
@[simp] theorem State.setSlot_portals (s : State) (i : Nat) (x) : (s.setSlot i x).portals = s.portals := (rfl)
@[simp] theorem State.setSlot_obs (s : State) (i : Nat) (x) : (s.setSlot i x).obs = s.obs := (rfl)
@[simp] theorem State.setSlot_axes (s : State) (i : Nat) (x) : (s.setSlot i x).axes = s.axes := (rfl)
@[simp] theorem State.setSlot_fb (s : State) (i : Nat) (x) : (s.setSlot i x).fb = s.fb := (rfl)
@[simp] theorem State.setSlot_links (s : State) (i : Nat) (x) : (s.setSlot i x).links = s.links := (rfl)
@[simp] theorem State.setSlot_ilk (s : State) (i : Nat) (x) : (s.setSlot i x).ilk = s.ilk := (rfl)
@[simp] theorem State.setSlot_fio (s : State) (i : Nat) (x) : (s.setSlot i x).fio = s.fio := (rfl)
@[simp] theorem State.setSlot_loads (s : State) (i : Nat) (x) : (s.setSlot i x).loads = s.loads := (rfl)
@[simp] theorem State.setSlot_net (s : State) (i : Nat) (x) : (s.setSlot i x).net = s.net := (rfl)
@[simp] theorem State.setSlot_trdp (s : State) (i : Nat) (x) : (s.setSlot i x).trdp = s.trdp := (rfl)
@[simp] theorem State.setSlot_conns (s : State) (i : Nat) (x) : (s.setSlot i x).conns = s.conns := (rfl)
@[simp] theorem State.setSlot_twin (s : State) (i : Nat) (x) : (s.setSlot i x).twin = s.twin := (rfl)
@[simp] theorem State.setSlot_regs (s : State) (i : Nat) (x) : (s.setSlot i x).regs = s.regs := (rfl)
@[simp] theorem State.setSlot_mem (s : State) (i : Nat) (x) : (s.setSlot i x).mem = s.mem := (rfl)
@[simp] theorem State.setSlot_flash (s : State) (i : Nat) (x) : (s.setSlot i x).flash = s.flash := (rfl)
@[simp] theorem State.setSlot_outs (s : State) (i : Nat) (x) : (s.setSlot i x).outs = s.outs := (rfl)
@[simp] theorem State.setSlot_free (s : State) (i : Nat) (x) : (s.setSlot i x).free = s.free := (rfl)
@[simp] theorem State.setSlot_pending (s : State) (i : Nat) (x) : (s.setSlot i x).pending = s.pending := (rfl)
@[simp] theorem State.portal_setSlot (s : State) (i j : Nat) (x) : (s.setSlot i x).portal j = s.portal j := (rfl)
@[simp] theorem State.ob_setSlot (s : State) (i j : Nat) (x) : (s.setSlot i x).ob j = s.ob j := (rfl)
@[simp] theorem State.axis_setSlot (s : State) (i j : Nat) (x) : (s.setSlot i x).axis j = s.axis j := (rfl)
@[simp] theorem State.fbp_setSlot (s : State) (i j : Nat) (x) : (s.setSlot i x).fbp j = s.fbp j := (rfl)
@[simp] theorem State.link_setSlot (s : State) (i j : Nat) (x) : (s.setSlot i x).link j = s.link j := (rfl)
@[simp] theorem State.so_setSlot (s : State) (i j : Nat) (x) : (s.setSlot i x).so j = s.so j := (rfl)
@[simp] theorem State.pair_setSlot (s : State) (i j : Nat) (x) : (s.setSlot i x).pair j = s.pair j := (rfl)
@[simp] theorem State.mon_setSlot (s : State) (i j : Nat) (x) : (s.setSlot i x).mon j = s.mon j := (rfl)
@[simp] theorem State.flink_setSlot (s : State) (i j : Nat) (x) : (s.setSlot i x).flink j = s.flink j := (rfl)
@[simp] theorem State.die_setSlot (s : State) (i j : Nat) (x) : (s.setSlot i x).die j = s.die j := (rfl)
@[simp] theorem State.sw_setSlot (s : State) (i j : Nat) (x) : (s.setSlot i x).sw j = s.sw j := (rfl)
@[simp] theorem State.bank_setSlot (s : State) (i j : Nat) (x) : (s.setSlot i x).bank j = s.bank j := (rfl)
@[simp] theorem State.port_setSlot (s : State) (i j : Nat) (x) : (s.setSlot i x).port j = s.port j := (rfl)
@[simp] theorem State.conn_setSlot (s : State) (i j : Nat) (x) : (s.setSlot i x).conn j = s.conn j := (rfl)
@[simp] theorem State.tracker_setSlot (s : State) (i j : Nat) (x) : (s.setSlot i x).tracker j = s.tracker j := (rfl)
@[simp] theorem State.ptpPort_setSlot (s : State) (i j : Nat) (x) : (s.setSlot i x).ptpPort j = s.ptpPort j := (rfl)
@[simp] theorem State.mrst_setSlot (s : State) (i j : Nat) (x) : (s.setSlot i x).mrst j = s.mrst j := (rfl)

/-! ### setTracker -/

@[simp] theorem State.tracker_setTracker (s : State) (d m : Nat) (x) : (s.setTracker d x).tracker m = if m = d then x else s.tracker m :=
  Table.get_set _ _ _ _ _
@[simp] theorem State.modTracker_eq (s : State) (d : Nat) (f) : s.modTracker d f = s.setTracker d (f (s.tracker d)) := (rfl)
@[simp] theorem State.setTracker_sys (s : State) (d : Nat) (x) : (s.setTracker d x).sys = s.sys := (rfl)
@[simp] theorem State.setTracker_bk (s : State) (d : Nat) (x) : (s.setTracker d x).bk = s.bk := (rfl)
@[simp] theorem State.setTracker_nvm (s : State) (d : Nat) (x) : (s.setTracker d x).nvm = s.nvm := (rfl)
@[simp] theorem State.setTracker_cat (s : State) (d : Nat) (x) : (s.setTracker d x).cat = s.cat := (rfl)
@[simp] theorem State.setTracker_sc (s : State) (d : Nat) (x) : (s.setTracker d x).sc = s.sc := (rfl)
@[simp] theorem State.setTracker_rcd (s : State) (d : Nat) (x) : (s.setTracker d x).rcd = s.rcd := (rfl)
@[simp] theorem State.setTracker_cnt (s : State) (d : Nat) (x) : (s.setTracker d x).cnt = s.cnt := (rfl)
@[simp] theorem State.setTracker_seq (s : State) (d : Nat) (x) : (s.setTracker d x).seq = s.seq := (rfl)
@[simp] theorem State.setTracker_portals (s : State) (d : Nat) (x) : (s.setTracker d x).portals = s.portals := (rfl)
@[simp] theorem State.setTracker_obs (s : State) (d : Nat) (x) : (s.setTracker d x).obs = s.obs := (rfl)
@[simp] theorem State.setTracker_axes (s : State) (d : Nat) (x) : (s.setTracker d x).axes = s.axes := (rfl)
@[simp] theorem State.setTracker_fb (s : State) (d : Nat) (x) : (s.setTracker d x).fb = s.fb := (rfl)
@[simp] theorem State.setTracker_links (s : State) (d : Nat) (x) : (s.setTracker d x).links = s.links := (rfl)
@[simp] theorem State.setTracker_ilk (s : State) (d : Nat) (x) : (s.setTracker d x).ilk = s.ilk := (rfl)
@[simp] theorem State.setTracker_fio (s : State) (d : Nat) (x) : (s.setTracker d x).fio = s.fio := (rfl)
@[simp] theorem State.setTracker_loads (s : State) (d : Nat) (x) : (s.setTracker d x).loads = s.loads := (rfl)
@[simp] theorem State.setTracker_net (s : State) (d : Nat) (x) : (s.setTracker d x).net = s.net := (rfl)
@[simp] theorem State.setTracker_trdp (s : State) (d : Nat) (x) : (s.setTracker d x).trdp = s.trdp := (rfl)
@[simp] theorem State.setTracker_conns (s : State) (d : Nat) (x) : (s.setTracker d x).conns = s.conns := (rfl)
@[simp] theorem State.setTracker_twin (s : State) (d : Nat) (x) : (s.setTracker d x).twin = s.twin := (rfl)
@[simp] theorem State.setTracker_regs (s : State) (d : Nat) (x) : (s.setTracker d x).regs = s.regs := (rfl)
@[simp] theorem State.setTracker_mem (s : State) (d : Nat) (x) : (s.setTracker d x).mem = s.mem := (rfl)
@[simp] theorem State.setTracker_flash (s : State) (d : Nat) (x) : (s.setTracker d x).flash = s.flash := (rfl)
@[simp] theorem State.setTracker_outs (s : State) (d : Nat) (x) : (s.setTracker d x).outs = s.outs := (rfl)
@[simp] theorem State.setTracker_free (s : State) (d : Nat) (x) : (s.setTracker d x).free = s.free := (rfl)
@[simp] theorem State.setTracker_pending (s : State) (d : Nat) (x) : (s.setTracker d x).pending = s.pending := (rfl)
@[simp] theorem State.portal_setTracker (s : State) (d j : Nat) (x) : (s.setTracker d x).portal j = s.portal j := (rfl)
@[simp] theorem State.ob_setTracker (s : State) (d j : Nat) (x) : (s.setTracker d x).ob j = s.ob j := (rfl)
@[simp] theorem State.axis_setTracker (s : State) (d j : Nat) (x) : (s.setTracker d x).axis j = s.axis j := (rfl)
@[simp] theorem State.fbp_setTracker (s : State) (d j : Nat) (x) : (s.setTracker d x).fbp j = s.fbp j := (rfl)
@[simp] theorem State.link_setTracker (s : State) (d j : Nat) (x) : (s.setTracker d x).link j = s.link j := (rfl)
@[simp] theorem State.so_setTracker (s : State) (d j : Nat) (x) : (s.setTracker d x).so j = s.so j := (rfl)
@[simp] theorem State.pair_setTracker (s : State) (d j : Nat) (x) : (s.setTracker d x).pair j = s.pair j := (rfl)
@[simp] theorem State.mon_setTracker (s : State) (d j : Nat) (x) : (s.setTracker d x).mon j = s.mon j := (rfl)
@[simp] theorem State.flink_setTracker (s : State) (d j : Nat) (x) : (s.setTracker d x).flink j = s.flink j := (rfl)
@[simp] theorem State.die_setTracker (s : State) (d j : Nat) (x) : (s.setTracker d x).die j = s.die j := (rfl)
@[simp] theorem State.sw_setTracker (s : State) (d j : Nat) (x) : (s.setTracker d x).sw j = s.sw j := (rfl)
@[simp] theorem State.bank_setTracker (s : State) (d j : Nat) (x) : (s.setTracker d x).bank j = s.bank j := (rfl)
@[simp] theorem State.port_setTracker (s : State) (d j : Nat) (x) : (s.setTracker d x).port j = s.port j := (rfl)
@[simp] theorem State.conn_setTracker (s : State) (d j : Nat) (x) : (s.setTracker d x).conn j = s.conn j := (rfl)
@[simp] theorem State.slot_setTracker (s : State) (d j : Nat) (x) : (s.setTracker d x).slot j = s.slot j := (rfl)
@[simp] theorem State.ptpPort_setTracker (s : State) (d j : Nat) (x) : (s.setTracker d x).ptpPort j = s.ptpPort j := (rfl)
@[simp] theorem State.mrst_setTracker (s : State) (d j : Nat) (x) : (s.setTracker d x).mrst j = s.mrst j := (rfl)

/-! ### setPtpPort -/

@[simp] theorem State.ptpPort_setPtpPort (s : State) (i m : Nat) (x) : (s.setPtpPort i x).ptpPort m = if m = i then x else s.ptpPort m :=
  Table.get_set _ _ _ _ _
@[simp] theorem State.modPtpPort_eq (s : State) (i : Nat) (f) : s.modPtpPort i f = s.setPtpPort i (f (s.ptpPort i)) := (rfl)
@[simp] theorem State.setPtpPort_sys (s : State) (i : Nat) (x) : (s.setPtpPort i x).sys = s.sys := (rfl)
@[simp] theorem State.setPtpPort_bk (s : State) (i : Nat) (x) : (s.setPtpPort i x).bk = s.bk := (rfl)
@[simp] theorem State.setPtpPort_nvm (s : State) (i : Nat) (x) : (s.setPtpPort i x).nvm = s.nvm := (rfl)
@[simp] theorem State.setPtpPort_cat (s : State) (i : Nat) (x) : (s.setPtpPort i x).cat = s.cat := (rfl)
@[simp] theorem State.setPtpPort_sc (s : State) (i : Nat) (x) : (s.setPtpPort i x).sc = s.sc := (rfl)
@[simp] theorem State.setPtpPort_rcd (s : State) (i : Nat) (x) : (s.setPtpPort i x).rcd = s.rcd := (rfl)
@[simp] theorem State.setPtpPort_cnt (s : State) (i : Nat) (x) : (s.setPtpPort i x).cnt = s.cnt := (rfl)
@[simp] theorem State.setPtpPort_seq (s : State) (i : Nat) (x) : (s.setPtpPort i x).seq = s.seq := (rfl)
@[simp] theorem State.setPtpPort_portals (s : State) (i : Nat) (x) : (s.setPtpPort i x).portals = s.portals := (rfl)
@[simp] theorem State.setPtpPort_obs (s : State) (i : Nat) (x) : (s.setPtpPort i x).obs = s.obs := (rfl)
@[simp] theorem State.setPtpPort_axes (s : State) (i : Nat) (x) : (s.setPtpPort i x).axes = s.axes := (rfl)
@[simp] theorem State.setPtpPort_fb (s : State) (i : Nat) (x) : (s.setPtpPort i x).fb = s.fb := (rfl)
@[simp] theorem State.setPtpPort_links (s : State) (i : Nat) (x) : (s.setPtpPort i x).links = s.links := (rfl)
@[simp] theorem State.setPtpPort_ilk (s : State) (i : Nat) (x) : (s.setPtpPort i x).ilk = s.ilk := (rfl)
@[simp] theorem State.setPtpPort_fio (s : State) (i : Nat) (x) : (s.setPtpPort i x).fio = s.fio := (rfl)
@[simp] theorem State.setPtpPort_loads (s : State) (i : Nat) (x) : (s.setPtpPort i x).loads = s.loads := (rfl)
@[simp] theorem State.setPtpPort_net (s : State) (i : Nat) (x) : (s.setPtpPort i x).net = s.net := (rfl)
@[simp] theorem State.setPtpPort_trdp (s : State) (i : Nat) (x) : (s.setPtpPort i x).trdp = s.trdp := (rfl)
@[simp] theorem State.setPtpPort_conns (s : State) (i : Nat) (x) : (s.setPtpPort i x).conns = s.conns := (rfl)
@[simp] theorem State.setPtpPort_twin (s : State) (i : Nat) (x) : (s.setPtpPort i x).twin = s.twin := (rfl)
@[simp] theorem State.setPtpPort_regs (s : State) (i : Nat) (x) : (s.setPtpPort i x).regs = s.regs := (rfl)
@[simp] theorem State.setPtpPort_mem (s : State) (i : Nat) (x) : (s.setPtpPort i x).mem = s.mem := (rfl)
@[simp] theorem State.setPtpPort_flash (s : State) (i : Nat) (x) : (s.setPtpPort i x).flash = s.flash := (rfl)
@[simp] theorem State.setPtpPort_outs (s : State) (i : Nat) (x) : (s.setPtpPort i x).outs = s.outs := (rfl)
@[simp] theorem State.setPtpPort_free (s : State) (i : Nat) (x) : (s.setPtpPort i x).free = s.free := (rfl)
@[simp] theorem State.setPtpPort_pending (s : State) (i : Nat) (x) : (s.setPtpPort i x).pending = s.pending := (rfl)
@[simp] theorem State.portal_setPtpPort (s : State) (i j : Nat) (x) : (s.setPtpPort i x).portal j = s.portal j := (rfl)
@[simp] theorem State.ob_setPtpPort (s : State) (i j : Nat) (x) : (s.setPtpPort i x).ob j = s.ob j := (rfl)
@[simp] theorem State.axis_setPtpPort (s : State) (i j : Nat) (x) : (s.setPtpPort i x).axis j = s.axis j := (rfl)
@[simp] theorem State.fbp_setPtpPort (s : State) (i j : Nat) (x) : (s.setPtpPort i x).fbp j = s.fbp j := (rfl)
@[simp] theorem State.link_setPtpPort (s : State) (i j : Nat) (x) : (s.setPtpPort i x).link j = s.link j := (rfl)
@[simp] theorem State.so_setPtpPort (s : State) (i j : Nat) (x) : (s.setPtpPort i x).so j = s.so j := (rfl)
@[simp] theorem State.pair_setPtpPort (s : State) (i j : Nat) (x) : (s.setPtpPort i x).pair j = s.pair j := (rfl)
@[simp] theorem State.mon_setPtpPort (s : State) (i j : Nat) (x) : (s.setPtpPort i x).mon j = s.mon j := (rfl)
@[simp] theorem State.flink_setPtpPort (s : State) (i j : Nat) (x) : (s.setPtpPort i x).flink j = s.flink j := (rfl)
@[simp] theorem State.die_setPtpPort (s : State) (i j : Nat) (x) : (s.setPtpPort i x).die j = s.die j := (rfl)
@[simp] theorem State.sw_setPtpPort (s : State) (i j : Nat) (x) : (s.setPtpPort i x).sw j = s.sw j := (rfl)
@[simp] theorem State.bank_setPtpPort (s : State) (i j : Nat) (x) : (s.setPtpPort i x).bank j = s.bank j := (rfl)
@[simp] theorem State.port_setPtpPort (s : State) (i j : Nat) (x) : (s.setPtpPort i x).port j = s.port j := (rfl)
@[simp] theorem State.conn_setPtpPort (s : State) (i j : Nat) (x) : (s.setPtpPort i x).conn j = s.conn j := (rfl)
@[simp] theorem State.slot_setPtpPort (s : State) (i j : Nat) (x) : (s.setPtpPort i x).slot j = s.slot j := (rfl)
@[simp] theorem State.tracker_setPtpPort (s : State) (i j : Nat) (x) : (s.setPtpPort i x).tracker j = s.tracker j := (rfl)
@[simp] theorem State.mrst_setPtpPort (s : State) (i j : Nat) (x) : (s.setPtpPort i x).mrst j = s.mrst j := (rfl)

/-! ### setMrst -/

@[simp] theorem State.mrst_setMrst (s : State) (i m : Nat) (x) : (s.setMrst i x).mrst m = if m = i then x else s.mrst m :=
  Table.get_set _ _ _ _ _
@[simp] theorem State.modMrst_eq (s : State) (i : Nat) (f) : s.modMrst i f = s.setMrst i (f (s.mrst i)) := (rfl)
@[simp] theorem State.setMrst_sys (s : State) (i : Nat) (x) : (s.setMrst i x).sys = s.sys := (rfl)
@[simp] theorem State.setMrst_bk (s : State) (i : Nat) (x) : (s.setMrst i x).bk = s.bk := (rfl)
@[simp] theorem State.setMrst_nvm (s : State) (i : Nat) (x) : (s.setMrst i x).nvm = s.nvm := (rfl)
@[simp] theorem State.setMrst_cat (s : State) (i : Nat) (x) : (s.setMrst i x).cat = s.cat := (rfl)
@[simp] theorem State.setMrst_sc (s : State) (i : Nat) (x) : (s.setMrst i x).sc = s.sc := (rfl)
@[simp] theorem State.setMrst_rcd (s : State) (i : Nat) (x) : (s.setMrst i x).rcd = s.rcd := (rfl)
@[simp] theorem State.setMrst_cnt (s : State) (i : Nat) (x) : (s.setMrst i x).cnt = s.cnt := (rfl)
@[simp] theorem State.setMrst_time (s : State) (i : Nat) (x) : (s.setMrst i x).time = s.time := (rfl)
@[simp] theorem State.setMrst_seq (s : State) (i : Nat) (x) : (s.setMrst i x).seq = s.seq := (rfl)
@[simp] theorem State.setMrst_portals (s : State) (i : Nat) (x) : (s.setMrst i x).portals = s.portals := (rfl)
@[simp] theorem State.setMrst_obs (s : State) (i : Nat) (x) : (s.setMrst i x).obs = s.obs := (rfl)
@[simp] theorem State.setMrst_axes (s : State) (i : Nat) (x) : (s.setMrst i x).axes = s.axes := (rfl)
@[simp] theorem State.setMrst_fb (s : State) (i : Nat) (x) : (s.setMrst i x).fb = s.fb := (rfl)
@[simp] theorem State.setMrst_links (s : State) (i : Nat) (x) : (s.setMrst i x).links = s.links := (rfl)
@[simp] theorem State.setMrst_ilk (s : State) (i : Nat) (x) : (s.setMrst i x).ilk = s.ilk := (rfl)
@[simp] theorem State.setMrst_loads (s : State) (i : Nat) (x) : (s.setMrst i x).loads = s.loads := (rfl)
@[simp] theorem State.setMrst_net (s : State) (i : Nat) (x) : (s.setMrst i x).net = s.net := (rfl)
@[simp] theorem State.setMrst_trdp (s : State) (i : Nat) (x) : (s.setMrst i x).trdp = s.trdp := (rfl)
@[simp] theorem State.setMrst_conns (s : State) (i : Nat) (x) : (s.setMrst i x).conns = s.conns := (rfl)
@[simp] theorem State.setMrst_twin (s : State) (i : Nat) (x) : (s.setMrst i x).twin = s.twin := (rfl)
@[simp] theorem State.setMrst_regs (s : State) (i : Nat) (x) : (s.setMrst i x).regs = s.regs := (rfl)
@[simp] theorem State.setMrst_mem (s : State) (i : Nat) (x) : (s.setMrst i x).mem = s.mem := (rfl)
@[simp] theorem State.setMrst_flash (s : State) (i : Nat) (x) : (s.setMrst i x).flash = s.flash := (rfl)
@[simp] theorem State.setMrst_outs (s : State) (i : Nat) (x) : (s.setMrst i x).outs = s.outs := (rfl)
@[simp] theorem State.setMrst_free (s : State) (i : Nat) (x) : (s.setMrst i x).free = s.free := (rfl)
@[simp] theorem State.setMrst_pending (s : State) (i : Nat) (x) : (s.setMrst i x).pending = s.pending := (rfl)
@[simp] theorem State.portal_setMrst (s : State) (i j : Nat) (x) : (s.setMrst i x).portal j = s.portal j := (rfl)
@[simp] theorem State.ob_setMrst (s : State) (i j : Nat) (x) : (s.setMrst i x).ob j = s.ob j := (rfl)
@[simp] theorem State.axis_setMrst (s : State) (i j : Nat) (x) : (s.setMrst i x).axis j = s.axis j := (rfl)
@[simp] theorem State.fbp_setMrst (s : State) (i j : Nat) (x) : (s.setMrst i x).fbp j = s.fbp j := (rfl)
@[simp] theorem State.link_setMrst (s : State) (i j : Nat) (x) : (s.setMrst i x).link j = s.link j := (rfl)
@[simp] theorem State.so_setMrst (s : State) (i j : Nat) (x) : (s.setMrst i x).so j = s.so j := (rfl)
@[simp] theorem State.pair_setMrst (s : State) (i j : Nat) (x) : (s.setMrst i x).pair j = s.pair j := (rfl)
@[simp] theorem State.mon_setMrst (s : State) (i j : Nat) (x) : (s.setMrst i x).mon j = s.mon j := (rfl)
@[simp] theorem State.flink_setMrst (s : State) (i j : Nat) (x) : (s.setMrst i x).flink j = s.flink j := (rfl)
@[simp] theorem State.die_setMrst (s : State) (i j : Nat) (x) : (s.setMrst i x).die j = s.die j := (rfl)
@[simp] theorem State.sw_setMrst (s : State) (i j : Nat) (x) : (s.setMrst i x).sw j = s.sw j := (rfl)
@[simp] theorem State.bank_setMrst (s : State) (i j : Nat) (x) : (s.setMrst i x).bank j = s.bank j := (rfl)
@[simp] theorem State.port_setMrst (s : State) (i j : Nat) (x) : (s.setMrst i x).port j = s.port j := (rfl)
@[simp] theorem State.conn_setMrst (s : State) (i j : Nat) (x) : (s.setMrst i x).conn j = s.conn j := (rfl)
@[simp] theorem State.slot_setMrst (s : State) (i j : Nat) (x) : (s.setMrst i x).slot j = s.slot j := (rfl)
@[simp] theorem State.tracker_setMrst (s : State) (i j : Nat) (x) : (s.setMrst i x).tracker j = s.tracker j := (rfl)
@[simp] theorem State.ptpPort_setMrst (s : State) (i j : Nat) (x) : (s.setMrst i x).ptpPort j = s.ptpPort j := (rfl)

/-! ### Time, counters, outputs, free values, memory -/

@[simp] theorem State.pass_sys (s : State) (n : Nat) : (s.pass n).sys = s.sys := (rfl)
@[simp] theorem State.pass_nvm (s : State) (n : Nat) : (s.pass n).nvm = s.nvm := (rfl)
@[simp] theorem State.pass_cat (s : State) (n : Nat) : (s.pass n).cat = s.cat := (rfl)
@[simp] theorem State.pass_sc (s : State) (n : Nat) : (s.pass n).sc = s.sc := (rfl)
@[simp] theorem State.pass_rcd (s : State) (n : Nat) : (s.pass n).rcd = s.rcd := (rfl)
@[simp] theorem State.pass_cnt (s : State) (n : Nat) : (s.pass n).cnt = s.cnt := (rfl)
@[simp] theorem State.pass_seq (s : State) (n : Nat) : (s.pass n).seq = s.seq := (rfl)
@[simp] theorem State.pass_portals (s : State) (n : Nat) : (s.pass n).portals = s.portals := (rfl)
@[simp] theorem State.pass_obs (s : State) (n : Nat) : (s.pass n).obs = s.obs := (rfl)
@[simp] theorem State.pass_axes (s : State) (n : Nat) : (s.pass n).axes = s.axes := (rfl)
@[simp] theorem State.pass_fb (s : State) (n : Nat) : (s.pass n).fb = s.fb := (rfl)
@[simp] theorem State.pass_links (s : State) (n : Nat) : (s.pass n).links = s.links := (rfl)
@[simp] theorem State.pass_ilk (s : State) (n : Nat) : (s.pass n).ilk = s.ilk := (rfl)
@[simp] theorem State.pass_fio (s : State) (n : Nat) : (s.pass n).fio = s.fio := (rfl)
@[simp] theorem State.pass_loads (s : State) (n : Nat) : (s.pass n).loads = s.loads := (rfl)
@[simp] theorem State.pass_net (s : State) (n : Nat) : (s.pass n).net = s.net := (rfl)
@[simp] theorem State.pass_trdp (s : State) (n : Nat) : (s.pass n).trdp = s.trdp := (rfl)
@[simp] theorem State.pass_conns (s : State) (n : Nat) : (s.pass n).conns = s.conns := (rfl)
@[simp] theorem State.pass_twin (s : State) (n : Nat) : (s.pass n).twin = s.twin := (rfl)
@[simp] theorem State.pass_regs (s : State) (n : Nat) : (s.pass n).regs = s.regs := (rfl)
@[simp] theorem State.pass_mem (s : State) (n : Nat) : (s.pass n).mem = s.mem := (rfl)
@[simp] theorem State.pass_flash (s : State) (n : Nat) : (s.pass n).flash = s.flash := (rfl)
@[simp] theorem State.pass_outs (s : State) (n : Nat) : (s.pass n).outs = s.outs := (rfl)
@[simp] theorem State.pass_free (s : State) (n : Nat) : (s.pass n).free = s.free := (rfl)
@[simp] theorem State.pass_pending (s : State) (n : Nat) : (s.pass n).pending = s.pending := (rfl)

@[simp] theorem State.emit_sys (s : State) (x : Out) : (s.emit x).sys = s.sys := (rfl)
@[simp] theorem State.emit_bk (s : State) (x : Out) : (s.emit x).bk = s.bk := (rfl)
@[simp] theorem State.emit_nvm (s : State) (x : Out) : (s.emit x).nvm = s.nvm := (rfl)
@[simp] theorem State.emit_cat (s : State) (x : Out) : (s.emit x).cat = s.cat := (rfl)
@[simp] theorem State.emit_sc (s : State) (x : Out) : (s.emit x).sc = s.sc := (rfl)
@[simp] theorem State.emit_rcd (s : State) (x : Out) : (s.emit x).rcd = s.rcd := (rfl)
@[simp] theorem State.emit_cnt (s : State) (x : Out) : (s.emit x).cnt = s.cnt := (rfl)
@[simp] theorem State.emit_time (s : State) (x : Out) : (s.emit x).time = s.time := (rfl)
@[simp] theorem State.emit_seq (s : State) (x : Out) : (s.emit x).seq = s.seq := (rfl)
@[simp] theorem State.emit_portals (s : State) (x : Out) : (s.emit x).portals = s.portals := (rfl)
@[simp] theorem State.emit_obs (s : State) (x : Out) : (s.emit x).obs = s.obs := (rfl)
@[simp] theorem State.emit_axes (s : State) (x : Out) : (s.emit x).axes = s.axes := (rfl)
@[simp] theorem State.emit_fb (s : State) (x : Out) : (s.emit x).fb = s.fb := (rfl)
@[simp] theorem State.emit_links (s : State) (x : Out) : (s.emit x).links = s.links := (rfl)
@[simp] theorem State.emit_ilk (s : State) (x : Out) : (s.emit x).ilk = s.ilk := (rfl)
@[simp] theorem State.emit_fio (s : State) (x : Out) : (s.emit x).fio = s.fio := (rfl)
@[simp] theorem State.emit_loads (s : State) (x : Out) : (s.emit x).loads = s.loads := (rfl)
@[simp] theorem State.emit_net (s : State) (x : Out) : (s.emit x).net = s.net := (rfl)
@[simp] theorem State.emit_trdp (s : State) (x : Out) : (s.emit x).trdp = s.trdp := (rfl)
@[simp] theorem State.emit_conns (s : State) (x : Out) : (s.emit x).conns = s.conns := (rfl)
@[simp] theorem State.emit_twin (s : State) (x : Out) : (s.emit x).twin = s.twin := (rfl)
@[simp] theorem State.emit_regs (s : State) (x : Out) : (s.emit x).regs = s.regs := (rfl)
@[simp] theorem State.emit_mem (s : State) (x : Out) : (s.emit x).mem = s.mem := (rfl)
@[simp] theorem State.emit_flash (s : State) (x : Out) : (s.emit x).flash = s.flash := (rfl)
@[simp] theorem State.emit_free (s : State) (x : Out) : (s.emit x).free = s.free := (rfl)
@[simp] theorem State.emit_pending (s : State) (x : Out) : (s.emit x).pending = s.pending := (rfl)

@[simp] theorem State.count_sys (s : State) (i n : Nat) : (s.count i n).sys = s.sys := (rfl)
@[simp] theorem State.count_bk (s : State) (i n : Nat) : (s.count i n).bk = s.bk := (rfl)
@[simp] theorem State.count_nvm (s : State) (i n : Nat) : (s.count i n).nvm = s.nvm := (rfl)
@[simp] theorem State.count_cat (s : State) (i n : Nat) : (s.count i n).cat = s.cat := (rfl)
@[simp] theorem State.count_sc (s : State) (i n : Nat) : (s.count i n).sc = s.sc := (rfl)
@[simp] theorem State.count_rcd (s : State) (i n : Nat) : (s.count i n).rcd = s.rcd := (rfl)
@[simp] theorem State.count_time (s : State) (i n : Nat) : (s.count i n).time = s.time := (rfl)
@[simp] theorem State.count_seq (s : State) (i n : Nat) : (s.count i n).seq = s.seq := (rfl)
@[simp] theorem State.count_portals (s : State) (i n : Nat) : (s.count i n).portals = s.portals := (rfl)
@[simp] theorem State.count_obs (s : State) (i n : Nat) : (s.count i n).obs = s.obs := (rfl)
@[simp] theorem State.count_axes (s : State) (i n : Nat) : (s.count i n).axes = s.axes := (rfl)
@[simp] theorem State.count_fb (s : State) (i n : Nat) : (s.count i n).fb = s.fb := (rfl)
@[simp] theorem State.count_links (s : State) (i n : Nat) : (s.count i n).links = s.links := (rfl)
@[simp] theorem State.count_ilk (s : State) (i n : Nat) : (s.count i n).ilk = s.ilk := (rfl)
@[simp] theorem State.count_fio (s : State) (i n : Nat) : (s.count i n).fio = s.fio := (rfl)
@[simp] theorem State.count_loads (s : State) (i n : Nat) : (s.count i n).loads = s.loads := (rfl)
@[simp] theorem State.count_net (s : State) (i n : Nat) : (s.count i n).net = s.net := (rfl)
@[simp] theorem State.count_trdp (s : State) (i n : Nat) : (s.count i n).trdp = s.trdp := (rfl)
@[simp] theorem State.count_conns (s : State) (i n : Nat) : (s.count i n).conns = s.conns := (rfl)
@[simp] theorem State.count_twin (s : State) (i n : Nat) : (s.count i n).twin = s.twin := (rfl)
@[simp] theorem State.count_regs (s : State) (i n : Nat) : (s.count i n).regs = s.regs := (rfl)
@[simp] theorem State.count_mem (s : State) (i n : Nat) : (s.count i n).mem = s.mem := (rfl)
@[simp] theorem State.count_flash (s : State) (i n : Nat) : (s.count i n).flash = s.flash := (rfl)
@[simp] theorem State.count_outs (s : State) (i n : Nat) : (s.count i n).outs = s.outs := (rfl)
@[simp] theorem State.count_free (s : State) (i n : Nat) : (s.count i n).free = s.free := (rfl)
@[simp] theorem State.count_pending (s : State) (i n : Nat) : (s.count i n).pending = s.pending := (rfl)

@[simp] theorem State.setReg_sys (s : State) (r : RegId) (i j : Nat) (v : Word) : (s.setReg r i j v).sys = s.sys := (rfl)
@[simp] theorem State.setReg_bk (s : State) (r : RegId) (i j : Nat) (v : Word) : (s.setReg r i j v).bk = s.bk := (rfl)
@[simp] theorem State.setReg_nvm (s : State) (r : RegId) (i j : Nat) (v : Word) : (s.setReg r i j v).nvm = s.nvm := (rfl)
@[simp] theorem State.setReg_cat (s : State) (r : RegId) (i j : Nat) (v : Word) : (s.setReg r i j v).cat = s.cat := (rfl)
@[simp] theorem State.setReg_sc (s : State) (r : RegId) (i j : Nat) (v : Word) : (s.setReg r i j v).sc = s.sc := (rfl)
@[simp] theorem State.setReg_rcd (s : State) (r : RegId) (i j : Nat) (v : Word) : (s.setReg r i j v).rcd = s.rcd := (rfl)
@[simp] theorem State.setReg_cnt (s : State) (r : RegId) (i j : Nat) (v : Word) : (s.setReg r i j v).cnt = s.cnt := (rfl)
@[simp] theorem State.setReg_time (s : State) (r : RegId) (i j : Nat) (v : Word) : (s.setReg r i j v).time = s.time := (rfl)
@[simp] theorem State.setReg_seq (s : State) (r : RegId) (i j : Nat) (v : Word) : (s.setReg r i j v).seq = s.seq := (rfl)
@[simp] theorem State.setReg_portals (s : State) (r : RegId) (i j : Nat) (v : Word) : (s.setReg r i j v).portals = s.portals := (rfl)
@[simp] theorem State.setReg_obs (s : State) (r : RegId) (i j : Nat) (v : Word) : (s.setReg r i j v).obs = s.obs := (rfl)
@[simp] theorem State.setReg_axes (s : State) (r : RegId) (i j : Nat) (v : Word) : (s.setReg r i j v).axes = s.axes := (rfl)
@[simp] theorem State.setReg_fb (s : State) (r : RegId) (i j : Nat) (v : Word) : (s.setReg r i j v).fb = s.fb := (rfl)
@[simp] theorem State.setReg_links (s : State) (r : RegId) (i j : Nat) (v : Word) : (s.setReg r i j v).links = s.links := (rfl)
@[simp] theorem State.setReg_ilk (s : State) (r : RegId) (i j : Nat) (v : Word) : (s.setReg r i j v).ilk = s.ilk := (rfl)
@[simp] theorem State.setReg_fio (s : State) (r : RegId) (i j : Nat) (v : Word) : (s.setReg r i j v).fio = s.fio := (rfl)
@[simp] theorem State.setReg_loads (s : State) (r : RegId) (i j : Nat) (v : Word) : (s.setReg r i j v).loads = s.loads := (rfl)
@[simp] theorem State.setReg_net (s : State) (r : RegId) (i j : Nat) (v : Word) : (s.setReg r i j v).net = s.net := (rfl)
@[simp] theorem State.setReg_trdp (s : State) (r : RegId) (i j : Nat) (v : Word) : (s.setReg r i j v).trdp = s.trdp := (rfl)
@[simp] theorem State.setReg_conns (s : State) (r : RegId) (i j : Nat) (v : Word) : (s.setReg r i j v).conns = s.conns := (rfl)
@[simp] theorem State.setReg_twin (s : State) (r : RegId) (i j : Nat) (v : Word) : (s.setReg r i j v).twin = s.twin := (rfl)
@[simp] theorem State.setReg_mem (s : State) (r : RegId) (i j : Nat) (v : Word) : (s.setReg r i j v).mem = s.mem := (rfl)
@[simp] theorem State.setReg_flash (s : State) (r : RegId) (i j : Nat) (v : Word) : (s.setReg r i j v).flash = s.flash := (rfl)
@[simp] theorem State.setReg_outs (s : State) (r : RegId) (i j : Nat) (v : Word) : (s.setReg r i j v).outs = s.outs := (rfl)
@[simp] theorem State.setReg_free (s : State) (r : RegId) (i j : Nat) (v : Word) : (s.setReg r i j v).free = s.free := (rfl)
@[simp] theorem State.setReg_pending (s : State) (r : RegId) (i j : Nat) (v : Word) : (s.setReg r i j v).pending = s.pending := (rfl)

@[simp] theorem State.setMem_sys (s : State) (a : Nat) (bs : List Byte) : (s.setMem a bs).sys = s.sys := (rfl)
@[simp] theorem State.setMem_bk (s : State) (a : Nat) (bs : List Byte) : (s.setMem a bs).bk = s.bk := (rfl)
@[simp] theorem State.setMem_nvm (s : State) (a : Nat) (bs : List Byte) : (s.setMem a bs).nvm = s.nvm := (rfl)
@[simp] theorem State.setMem_cat (s : State) (a : Nat) (bs : List Byte) : (s.setMem a bs).cat = s.cat := (rfl)
@[simp] theorem State.setMem_sc (s : State) (a : Nat) (bs : List Byte) : (s.setMem a bs).sc = s.sc := (rfl)
@[simp] theorem State.setMem_rcd (s : State) (a : Nat) (bs : List Byte) : (s.setMem a bs).rcd = s.rcd := (rfl)
@[simp] theorem State.setMem_cnt (s : State) (a : Nat) (bs : List Byte) : (s.setMem a bs).cnt = s.cnt := (rfl)
@[simp] theorem State.setMem_time (s : State) (a : Nat) (bs : List Byte) : (s.setMem a bs).time = s.time := (rfl)
@[simp] theorem State.setMem_seq (s : State) (a : Nat) (bs : List Byte) : (s.setMem a bs).seq = s.seq := (rfl)
@[simp] theorem State.setMem_portals (s : State) (a : Nat) (bs : List Byte) : (s.setMem a bs).portals = s.portals := (rfl)
@[simp] theorem State.setMem_obs (s : State) (a : Nat) (bs : List Byte) : (s.setMem a bs).obs = s.obs := (rfl)
@[simp] theorem State.setMem_axes (s : State) (a : Nat) (bs : List Byte) : (s.setMem a bs).axes = s.axes := (rfl)
@[simp] theorem State.setMem_fb (s : State) (a : Nat) (bs : List Byte) : (s.setMem a bs).fb = s.fb := (rfl)
@[simp] theorem State.setMem_links (s : State) (a : Nat) (bs : List Byte) : (s.setMem a bs).links = s.links := (rfl)
@[simp] theorem State.setMem_ilk (s : State) (a : Nat) (bs : List Byte) : (s.setMem a bs).ilk = s.ilk := (rfl)
@[simp] theorem State.setMem_fio (s : State) (a : Nat) (bs : List Byte) : (s.setMem a bs).fio = s.fio := (rfl)
@[simp] theorem State.setMem_loads (s : State) (a : Nat) (bs : List Byte) : (s.setMem a bs).loads = s.loads := (rfl)
@[simp] theorem State.setMem_net (s : State) (a : Nat) (bs : List Byte) : (s.setMem a bs).net = s.net := (rfl)
@[simp] theorem State.setMem_trdp (s : State) (a : Nat) (bs : List Byte) : (s.setMem a bs).trdp = s.trdp := (rfl)
@[simp] theorem State.setMem_conns (s : State) (a : Nat) (bs : List Byte) : (s.setMem a bs).conns = s.conns := (rfl)
@[simp] theorem State.setMem_twin (s : State) (a : Nat) (bs : List Byte) : (s.setMem a bs).twin = s.twin := (rfl)
@[simp] theorem State.setMem_regs (s : State) (a : Nat) (bs : List Byte) : (s.setMem a bs).regs = s.regs := (rfl)
@[simp] theorem State.setMem_flash (s : State) (a : Nat) (bs : List Byte) : (s.setMem a bs).flash = s.flash := (rfl)
@[simp] theorem State.setMem_outs (s : State) (a : Nat) (bs : List Byte) : (s.setMem a bs).outs = s.outs := (rfl)
@[simp] theorem State.setMem_free (s : State) (a : Nat) (bs : List Byte) : (s.setMem a bs).free = s.free := (rfl)
@[simp] theorem State.setMem_pending (s : State) (a : Nat) (bs : List Byte) : (s.setMem a bs).pending = s.pending := (rfl)

@[simp] theorem State.setMemByte_sys (s : State) (a : Nat) (x : Byte) : (s.setMemByte a x).sys = s.sys := (rfl)
@[simp] theorem State.setMemByte_bk (s : State) (a : Nat) (x : Byte) : (s.setMemByte a x).bk = s.bk := (rfl)
@[simp] theorem State.setMemByte_nvm (s : State) (a : Nat) (x : Byte) : (s.setMemByte a x).nvm = s.nvm := (rfl)
@[simp] theorem State.setMemByte_cat (s : State) (a : Nat) (x : Byte) : (s.setMemByte a x).cat = s.cat := (rfl)
@[simp] theorem State.setMemByte_sc (s : State) (a : Nat) (x : Byte) : (s.setMemByte a x).sc = s.sc := (rfl)
@[simp] theorem State.setMemByte_rcd (s : State) (a : Nat) (x : Byte) : (s.setMemByte a x).rcd = s.rcd := (rfl)
@[simp] theorem State.setMemByte_cnt (s : State) (a : Nat) (x : Byte) : (s.setMemByte a x).cnt = s.cnt := (rfl)
@[simp] theorem State.setMemByte_time (s : State) (a : Nat) (x : Byte) : (s.setMemByte a x).time = s.time := (rfl)
@[simp] theorem State.setMemByte_seq (s : State) (a : Nat) (x : Byte) : (s.setMemByte a x).seq = s.seq := (rfl)
@[simp] theorem State.setMemByte_portals (s : State) (a : Nat) (x : Byte) : (s.setMemByte a x).portals = s.portals := (rfl)
@[simp] theorem State.setMemByte_obs (s : State) (a : Nat) (x : Byte) : (s.setMemByte a x).obs = s.obs := (rfl)
@[simp] theorem State.setMemByte_axes (s : State) (a : Nat) (x : Byte) : (s.setMemByte a x).axes = s.axes := (rfl)
@[simp] theorem State.setMemByte_fb (s : State) (a : Nat) (x : Byte) : (s.setMemByte a x).fb = s.fb := (rfl)
@[simp] theorem State.setMemByte_links (s : State) (a : Nat) (x : Byte) : (s.setMemByte a x).links = s.links := (rfl)
@[simp] theorem State.setMemByte_ilk (s : State) (a : Nat) (x : Byte) : (s.setMemByte a x).ilk = s.ilk := (rfl)
@[simp] theorem State.setMemByte_fio (s : State) (a : Nat) (x : Byte) : (s.setMemByte a x).fio = s.fio := (rfl)
@[simp] theorem State.setMemByte_loads (s : State) (a : Nat) (x : Byte) : (s.setMemByte a x).loads = s.loads := (rfl)
@[simp] theorem State.setMemByte_net (s : State) (a : Nat) (x : Byte) : (s.setMemByte a x).net = s.net := (rfl)
@[simp] theorem State.setMemByte_trdp (s : State) (a : Nat) (x : Byte) : (s.setMemByte a x).trdp = s.trdp := (rfl)
@[simp] theorem State.setMemByte_conns (s : State) (a : Nat) (x : Byte) : (s.setMemByte a x).conns = s.conns := (rfl)
@[simp] theorem State.setMemByte_twin (s : State) (a : Nat) (x : Byte) : (s.setMemByte a x).twin = s.twin := (rfl)
@[simp] theorem State.setMemByte_regs (s : State) (a : Nat) (x : Byte) : (s.setMemByte a x).regs = s.regs := (rfl)
@[simp] theorem State.setMemByte_flash (s : State) (a : Nat) (x : Byte) : (s.setMemByte a x).flash = s.flash := (rfl)
@[simp] theorem State.setMemByte_outs (s : State) (a : Nat) (x : Byte) : (s.setMemByte a x).outs = s.outs := (rfl)
@[simp] theorem State.setMemByte_free (s : State) (a : Nat) (x : Byte) : (s.setMemByte a x).free = s.free := (rfl)
@[simp] theorem State.setMemByte_pending (s : State) (a : Nat) (x : Byte) : (s.setMemByte a x).pending = s.pending := (rfl)

@[simp] theorem State.setFlash_sys (s : State) (a : Nat) (bs : List Byte) : (s.setFlash a bs).sys = s.sys := (rfl)
@[simp] theorem State.setFlash_bk (s : State) (a : Nat) (bs : List Byte) : (s.setFlash a bs).bk = s.bk := (rfl)
@[simp] theorem State.setFlash_nvm (s : State) (a : Nat) (bs : List Byte) : (s.setFlash a bs).nvm = s.nvm := (rfl)
@[simp] theorem State.setFlash_cat (s : State) (a : Nat) (bs : List Byte) : (s.setFlash a bs).cat = s.cat := (rfl)
@[simp] theorem State.setFlash_sc (s : State) (a : Nat) (bs : List Byte) : (s.setFlash a bs).sc = s.sc := (rfl)
@[simp] theorem State.setFlash_rcd (s : State) (a : Nat) (bs : List Byte) : (s.setFlash a bs).rcd = s.rcd := (rfl)
@[simp] theorem State.setFlash_cnt (s : State) (a : Nat) (bs : List Byte) : (s.setFlash a bs).cnt = s.cnt := (rfl)
@[simp] theorem State.setFlash_time (s : State) (a : Nat) (bs : List Byte) : (s.setFlash a bs).time = s.time := (rfl)
@[simp] theorem State.setFlash_seq (s : State) (a : Nat) (bs : List Byte) : (s.setFlash a bs).seq = s.seq := (rfl)
@[simp] theorem State.setFlash_portals (s : State) (a : Nat) (bs : List Byte) : (s.setFlash a bs).portals = s.portals := (rfl)
@[simp] theorem State.setFlash_obs (s : State) (a : Nat) (bs : List Byte) : (s.setFlash a bs).obs = s.obs := (rfl)
@[simp] theorem State.setFlash_axes (s : State) (a : Nat) (bs : List Byte) : (s.setFlash a bs).axes = s.axes := (rfl)
@[simp] theorem State.setFlash_fb (s : State) (a : Nat) (bs : List Byte) : (s.setFlash a bs).fb = s.fb := (rfl)
@[simp] theorem State.setFlash_links (s : State) (a : Nat) (bs : List Byte) : (s.setFlash a bs).links = s.links := (rfl)
@[simp] theorem State.setFlash_ilk (s : State) (a : Nat) (bs : List Byte) : (s.setFlash a bs).ilk = s.ilk := (rfl)
@[simp] theorem State.setFlash_fio (s : State) (a : Nat) (bs : List Byte) : (s.setFlash a bs).fio = s.fio := (rfl)
@[simp] theorem State.setFlash_loads (s : State) (a : Nat) (bs : List Byte) : (s.setFlash a bs).loads = s.loads := (rfl)
@[simp] theorem State.setFlash_net (s : State) (a : Nat) (bs : List Byte) : (s.setFlash a bs).net = s.net := (rfl)
@[simp] theorem State.setFlash_trdp (s : State) (a : Nat) (bs : List Byte) : (s.setFlash a bs).trdp = s.trdp := (rfl)
@[simp] theorem State.setFlash_conns (s : State) (a : Nat) (bs : List Byte) : (s.setFlash a bs).conns = s.conns := (rfl)
@[simp] theorem State.setFlash_twin (s : State) (a : Nat) (bs : List Byte) : (s.setFlash a bs).twin = s.twin := (rfl)
@[simp] theorem State.setFlash_regs (s : State) (a : Nat) (bs : List Byte) : (s.setFlash a bs).regs = s.regs := (rfl)
@[simp] theorem State.setFlash_mem (s : State) (a : Nat) (bs : List Byte) : (s.setFlash a bs).mem = s.mem := (rfl)
@[simp] theorem State.setFlash_outs (s : State) (a : Nat) (bs : List Byte) : (s.setFlash a bs).outs = s.outs := (rfl)
@[simp] theorem State.setFlash_free (s : State) (a : Nat) (bs : List Byte) : (s.setFlash a bs).free = s.free := (rfl)
@[simp] theorem State.setFlash_pending (s : State) (a : Nat) (bs : List Byte) : (s.setFlash a bs).pending = s.pending := (rfl)

@[simp] theorem State.pass_lt (s : State) (n : Nat) : (s.pass n).lt = s.lt + n := (rfl)
@[simp] theorem State.emit_outs (s : State) (x : Out) : (s.emit x).outs = s.outs ++ [x] := (rfl)
@[simp] theorem State.memByte_setMemByte (s : State) (a m : Nat) (x : Byte) :
    (s.setMemByte a x).memByte m = if m = a then x else s.memByte m := Table.get_set _ _ _ _ _

/-- Passing to an instant: local time is then that instant, or what it was where that is later. -/
theorem State.passTo_lt (s : State) (t : Ticks) : (s.passTo t).lt = max s.lt t := by
  unfold State.passTo State.lt
  split
  · rename_i h
    exact (Nat.add_sub_of_le (Nat.le_of_lt h)).trans (Nat.max_eq_right (Nat.le_of_lt h)).symm
  · rename_i h
    exact (Nat.max_eq_left (Nat.le_of_not_lt h)).symm

@[simp] theorem State.passTo_sys (s : State) (t : Ticks) : (s.passTo t).sys = s.sys := by
  unfold State.passTo
  split <;> rfl
@[simp] theorem State.passTo_nvm (s : State) (t : Ticks) : (s.passTo t).nvm = s.nvm := by
  unfold State.passTo
  split <;> rfl
@[simp] theorem State.passTo_cat (s : State) (t : Ticks) : (s.passTo t).cat = s.cat := by
  unfold State.passTo
  split <;> rfl
@[simp] theorem State.passTo_sc (s : State) (t : Ticks) : (s.passTo t).sc = s.sc := by
  unfold State.passTo
  split <;> rfl
@[simp] theorem State.passTo_rcd (s : State) (t : Ticks) : (s.passTo t).rcd = s.rcd := by
  unfold State.passTo
  split <;> rfl
@[simp] theorem State.passTo_cnt (s : State) (t : Ticks) : (s.passTo t).cnt = s.cnt := by
  unfold State.passTo
  split <;> rfl
@[simp] theorem State.passTo_seq (s : State) (t : Ticks) : (s.passTo t).seq = s.seq := by
  unfold State.passTo
  split <;> rfl
@[simp] theorem State.passTo_portals (s : State) (t : Ticks) : (s.passTo t).portals = s.portals := by
  unfold State.passTo
  split <;> rfl
@[simp] theorem State.passTo_obs (s : State) (t : Ticks) : (s.passTo t).obs = s.obs := by
  unfold State.passTo
  split <;> rfl
@[simp] theorem State.passTo_axes (s : State) (t : Ticks) : (s.passTo t).axes = s.axes := by
  unfold State.passTo
  split <;> rfl
@[simp] theorem State.passTo_fb (s : State) (t : Ticks) : (s.passTo t).fb = s.fb := by
  unfold State.passTo
  split <;> rfl
@[simp] theorem State.passTo_links (s : State) (t : Ticks) : (s.passTo t).links = s.links := by
  unfold State.passTo
  split <;> rfl
@[simp] theorem State.passTo_ilk (s : State) (t : Ticks) : (s.passTo t).ilk = s.ilk := by
  unfold State.passTo
  split <;> rfl
@[simp] theorem State.passTo_fio (s : State) (t : Ticks) : (s.passTo t).fio = s.fio := by
  unfold State.passTo
  split <;> rfl
@[simp] theorem State.passTo_loads (s : State) (t : Ticks) : (s.passTo t).loads = s.loads := by
  unfold State.passTo
  split <;> rfl
@[simp] theorem State.passTo_net (s : State) (t : Ticks) : (s.passTo t).net = s.net := by
  unfold State.passTo
  split <;> rfl
@[simp] theorem State.passTo_trdp (s : State) (t : Ticks) : (s.passTo t).trdp = s.trdp := by
  unfold State.passTo
  split <;> rfl
@[simp] theorem State.passTo_conns (s : State) (t : Ticks) : (s.passTo t).conns = s.conns := by
  unfold State.passTo
  split <;> rfl
@[simp] theorem State.passTo_twin (s : State) (t : Ticks) : (s.passTo t).twin = s.twin := by
  unfold State.passTo
  split <;> rfl
@[simp] theorem State.passTo_regs (s : State) (t : Ticks) : (s.passTo t).regs = s.regs := by
  unfold State.passTo
  split <;> rfl
@[simp] theorem State.passTo_mem (s : State) (t : Ticks) : (s.passTo t).mem = s.mem := by
  unfold State.passTo
  split <;> rfl
@[simp] theorem State.passTo_flash (s : State) (t : Ticks) : (s.passTo t).flash = s.flash := by
  unfold State.passTo
  split <;> rfl
@[simp] theorem State.passTo_outs (s : State) (t : Ticks) : (s.passTo t).outs = s.outs := by
  unfold State.passTo
  split <;> rfl
@[simp] theorem State.passTo_free (s : State) (t : Ticks) : (s.passTo t).free = s.free := by
  unfold State.passTo
  split <;> rfl
@[simp] theorem State.passTo_pending (s : State) (t : Ticks) : (s.passTo t).pending = s.pending := by
  unfold State.passTo
  split <;> rfl
@[simp] theorem State.portal_passTo (s : State) (t : Ticks) (j : Nat) : (s.passTo t).portal j = s.portal j := by
  unfold State.passTo
  split <;> rfl
@[simp] theorem State.ob_passTo (s : State) (t : Ticks) (j : Nat) : (s.passTo t).ob j = s.ob j := by
  unfold State.passTo
  split <;> rfl
@[simp] theorem State.axis_passTo (s : State) (t : Ticks) (j : Nat) : (s.passTo t).axis j = s.axis j := by
  unfold State.passTo
  split <;> rfl
@[simp] theorem State.fbp_passTo (s : State) (t : Ticks) (j : Nat) : (s.passTo t).fbp j = s.fbp j := by
  unfold State.passTo
  split <;> rfl
@[simp] theorem State.link_passTo (s : State) (t : Ticks) (j : Nat) : (s.passTo t).link j = s.link j := by
  unfold State.passTo
  split <;> rfl
@[simp] theorem State.so_passTo (s : State) (t : Ticks) (j : Nat) : (s.passTo t).so j = s.so j := by
  unfold State.passTo
  split <;> rfl
@[simp] theorem State.pair_passTo (s : State) (t : Ticks) (j : Nat) : (s.passTo t).pair j = s.pair j := by
  unfold State.passTo
  split <;> rfl
@[simp] theorem State.mon_passTo (s : State) (t : Ticks) (j : Nat) : (s.passTo t).mon j = s.mon j := by
  unfold State.passTo
  split <;> rfl
@[simp] theorem State.flink_passTo (s : State) (t : Ticks) (j : Nat) : (s.passTo t).flink j = s.flink j := by
  unfold State.passTo
  split <;> rfl
@[simp] theorem State.die_passTo (s : State) (t : Ticks) (j : Nat) : (s.passTo t).die j = s.die j := by
  unfold State.passTo
  split <;> rfl
@[simp] theorem State.sw_passTo (s : State) (t : Ticks) (j : Nat) : (s.passTo t).sw j = s.sw j := by
  unfold State.passTo
  split <;> rfl
@[simp] theorem State.bank_passTo (s : State) (t : Ticks) (j : Nat) : (s.passTo t).bank j = s.bank j := by
  unfold State.passTo
  split <;> rfl
@[simp] theorem State.port_passTo (s : State) (t : Ticks) (j : Nat) : (s.passTo t).port j = s.port j := by
  unfold State.passTo
  split <;> rfl
@[simp] theorem State.conn_passTo (s : State) (t : Ticks) (j : Nat) : (s.passTo t).conn j = s.conn j := by
  unfold State.passTo
  split <;> rfl
@[simp] theorem State.slot_passTo (s : State) (t : Ticks) (j : Nat) : (s.passTo t).slot j = s.slot j := by
  unfold State.passTo
  split <;> rfl
@[simp] theorem State.mrst_passTo (s : State) (t : Ticks) (j : Nat) : (s.passTo t).mrst j = s.mrst j := by
  unfold State.passTo
  split <;> rfl

/-- A byte outside those stored is as it was. -/
theorem get_storeBytes_out (d : Byte) : ∀ (bs : List Byte) (m : List Host.Cell) (a x : Nat), (x < a ∨ a + bs.length ≤ x) →
    Table.get d (storeBytes d m a bs) x = Table.get d m x
  | [], _, _, _, _ => rfl
  | b :: bs, m, a, x, h => by
    simp only [List.length_cons] at h
    rw [storeBytes, get_storeBytes_out d bs _ _ _ (by omega), Table.get_set_ne _ _ _ (by omega)]

/-- A byte of those stored is the byte stored there. -/
theorem get_storeBytes_in (d : Byte) : ∀ (bs : List Byte) (m : List Host.Cell) (a i : Nat) (h : i < bs.length),
    Table.get d (storeBytes d m a bs) (a + i) = bs[i]
  | [], _, _, _, h => absurd h (Nat.not_lt_zero _)
  | b :: bs, m, a, 0, _ => by
    rw [storeBytes, get_storeBytes_out d bs _ _ _ (by omega)]
    simp
  | b :: bs, m, a, i + 1, h => by
    have h' : i < bs.length := by simpa using h
    have e : a + (i + 1) = (a + 1) + i := by omega
    rw [storeBytes, e, get_storeBytes_in d bs _ _ i h']
    rfl

/-- A register read after a register write. -/
theorem State.reg_setReg_self (s : State) (r : RegId) (i j : Nat) (v : Word) : (s.setReg r i j v).reg r i j = v :=
  Table.get_set_self _ _ _ _

/-- A write of a register leaves every register of another address. -/
theorem State.reg_setReg_ne (s : State) (r q : RegId) (i j k l : Nat) (v : Word) (h : regAddr q k l ≠ regAddr r i j) :
    (s.setReg r i j v).reg q k l = s.reg q k l := by
  simp only [State.reg, State.setReg]
  have g : ∀ d e : Word, ∀ t : Table Word, Table.get d (Table.set e t (regAddr r i j) v) (regAddr q k l) = Table.get d t (regAddr q k l) := by
    intro d e t
    have h1 := Table.get_erase d t (regAddr r i j) (regAddr q k l)
    rw [if_neg h] at h1
    unfold Table.set
    split
    · exact h1
    · rw [Table.get_insert d _ _ v _ (Table.mem_erase_ne t _), if_neg h, h1]
  exact g _ _ _

/-! ### The combinators -/

@[simp] theorem when_true (f : State → State) (s : State) : when_ true f s = f s := (rfl)
@[simp] theorem when_false (f : State → State) (s : State) : when_ false f s = s := (rfl)
theorem when_of {c : Bool} (h : c = true) (f : State → State) (s : State) : when_ c f s = f s := by rw [h]; rfl
theorem when_not {c : Bool} (h : c = false) (f : State → State) (s : State) : when_ c f s = s := by rw [h]; rfl
@[simp] theorem forEach_nil {α : Type} (f : State → α → State) (s : State) : forEach [] f s = s := (rfl)
@[simp] theorem forEach_cons {α : Type} (a : α) (l : List α) (f : State → α → State) (s : State) :
    forEach (a :: l) f s = forEach l f (f s a) := (rfl)

end Sys2Proof.Machine
end

