-- ==== Sys2Proof/Laws/Read.lean ====
section
/-!
SUPPORT. Sys2Proof/Laws/Read.lean: registers, local time and units read after an update that does not touch them; raising an event leaves
everything but the recorder and the counters.
-/
set_option Elab.async false
namespace Sys2Proof.Machine
open Sys2Proof

/-! ### Raising an event -/

theorem State.raiseBody_keeps (s : State) (code : Nat) (body : List Byte) : Frame (Part.rcd ||| Part.cnt) s (s.raiseBody code body) := State.raiseBody_frame rfl (Frame.refl _ s)
@[simp] theorem State.raiseBody_sys (s : State) (code : Nat) (body : List Byte) : (s.raiseBody code body).sys = s.sys := (State.raiseBody_keeps s _ _).sys rfl
@[simp] theorem State.raiseBody_bk (s : State) (code : Nat) (body : List Byte) : (s.raiseBody code body).bk = s.bk := (State.raiseBody_keeps s _ _).bk rfl
@[simp] theorem State.raiseBody_nvm (s : State) (code : Nat) (body : List Byte) : (s.raiseBody code body).nvm = s.nvm := (State.raiseBody_keeps s _ _).nvm rfl
@[simp] theorem State.raiseBody_cat (s : State) (code : Nat) (body : List Byte) : (s.raiseBody code body).cat = s.cat := (State.raiseBody_keeps s _ _).cat rfl
@[simp] theorem State.raiseBody_sc (s : State) (code : Nat) (body : List Byte) : (s.raiseBody code body).sc = s.sc := (State.raiseBody_keeps s _ _).sc rfl
@[simp] theorem State.raiseBody_time (s : State) (code : Nat) (body : List Byte) : (s.raiseBody code body).time = s.time := (State.raiseBody_keeps s _ _).time rfl
@[simp] theorem State.raiseBody_seq (s : State) (code : Nat) (body : List Byte) : (s.raiseBody code body).seq = s.seq := (State.raiseBody_keeps s _ _).seq rfl
@[simp] theorem State.raiseBody_portals (s : State) (code : Nat) (body : List Byte) : (s.raiseBody code body).portals = s.portals := (State.raiseBody_keeps s _ _).portals rfl
@[simp] theorem State.raiseBody_obs (s : State) (code : Nat) (body : List Byte) : (s.raiseBody code body).obs = s.obs := (State.raiseBody_keeps s _ _).obs rfl
@[simp] theorem State.raiseBody_axes (s : State) (code : Nat) (body : List Byte) : (s.raiseBody code body).axes = s.axes := (State.raiseBody_keeps s _ _).axes rfl
@[simp] theorem State.raiseBody_fb (s : State) (code : Nat) (body : List Byte) : (s.raiseBody code body).fb = s.fb := (State.raiseBody_keeps s _ _).fb rfl
@[simp] theorem State.raiseBody_links (s : State) (code : Nat) (body : List Byte) : (s.raiseBody code body).links = s.links := (State.raiseBody_keeps s _ _).links rfl
@[simp] theorem State.raiseBody_ilk (s : State) (code : Nat) (body : List Byte) : (s.raiseBody code body).ilk = s.ilk := (State.raiseBody_keeps s _ _).ilk rfl
@[simp] theorem State.raiseBody_fio (s : State) (code : Nat) (body : List Byte) : (s.raiseBody code body).fio = s.fio := (State.raiseBody_keeps s _ _).fio rfl
@[simp] theorem State.raiseBody_loads (s : State) (code : Nat) (body : List Byte) : (s.raiseBody code body).loads = s.loads := (State.raiseBody_keeps s _ _).loads rfl
@[simp] theorem State.raiseBody_net (s : State) (code : Nat) (body : List Byte) : (s.raiseBody code body).net = s.net := (State.raiseBody_keeps s _ _).net rfl
@[simp] theorem State.raiseBody_trdp (s : State) (code : Nat) (body : List Byte) : (s.raiseBody code body).trdp = s.trdp := (State.raiseBody_keeps s _ _).trdp rfl
@[simp] theorem State.raiseBody_conns (s : State) (code : Nat) (body : List Byte) : (s.raiseBody code body).conns = s.conns := (State.raiseBody_keeps s _ _).conns rfl
@[simp] theorem State.raiseBody_twin (s : State) (code : Nat) (body : List Byte) : (s.raiseBody code body).twin = s.twin := (State.raiseBody_keeps s _ _).twin rfl
@[simp] theorem State.raiseBody_regs (s : State) (code : Nat) (body : List Byte) : (s.raiseBody code body).regs = s.regs := (State.raiseBody_keeps s _ _).regs rfl
@[simp] theorem State.raiseBody_mem (s : State) (code : Nat) (body : List Byte) : (s.raiseBody code body).mem = s.mem := (State.raiseBody_keeps s _ _).mem rfl
@[simp] theorem State.raiseBody_flash (s : State) (code : Nat) (body : List Byte) : (s.raiseBody code body).flash = s.flash := (State.raiseBody_keeps s _ _).flash rfl
@[simp] theorem State.raiseBody_outs (s : State) (code : Nat) (body : List Byte) : (s.raiseBody code body).outs = s.outs := (State.raiseBody_keeps s _ _).outs rfl
@[simp] theorem State.raiseBody_free (s : State) (code : Nat) (body : List Byte) : (s.raiseBody code body).free = s.free := (State.raiseBody_keeps s _ _).free rfl
@[simp] theorem State.raiseBody_pending (s : State) (code : Nat) (body : List Byte) : (s.raiseBody code body).pending = s.pending := (State.raiseBody_keeps s _ _).pending
@[simp] theorem State.portal_raiseBody (s : State) (code : Nat) (body : List Byte) (j : Nat) : (s.raiseBody code body).portal j = s.portal j := by
  unfold State.portal
  rw [State.raiseBody_portals]
@[simp] theorem State.ob_raiseBody (s : State) (code : Nat) (body : List Byte) (j : Nat) : (s.raiseBody code body).ob j = s.ob j := by
  unfold State.ob
  rw [State.raiseBody_obs]
@[simp] theorem State.axis_raiseBody (s : State) (code : Nat) (body : List Byte) (j : Nat) : (s.raiseBody code body).axis j = s.axis j := by
  unfold State.axis
  rw [State.raiseBody_axes]
@[simp] theorem State.fbp_raiseBody (s : State) (code : Nat) (body : List Byte) (j : Nat) : (s.raiseBody code body).fbp j = s.fbp j := by
  unfold State.fbp
  rw [State.raiseBody_fb]
@[simp] theorem State.link_raiseBody (s : State) (code : Nat) (body : List Byte) (j : Nat) : (s.raiseBody code body).link j = s.link j := by
  unfold State.link
  rw [State.raiseBody_links]
@[simp] theorem State.so_raiseBody (s : State) (code : Nat) (body : List Byte) (j : Nat) : (s.raiseBody code body).so j = s.so j := by
  unfold State.so
  rw [State.raiseBody_ilk]
@[simp] theorem State.pair_raiseBody (s : State) (code : Nat) (body : List Byte) (j : Nat) : (s.raiseBody code body).pair j = s.pair j := by
  unfold State.pair
  rw [State.raiseBody_ilk]
@[simp] theorem State.mon_raiseBody (s : State) (code : Nat) (body : List Byte) (j : Nat) : (s.raiseBody code body).mon j = s.mon j := by
  unfold State.mon
  rw [State.raiseBody_ilk]
@[simp] theorem State.flink_raiseBody (s : State) (code : Nat) (body : List Byte) (j : Nat) : (s.raiseBody code body).flink j = s.flink j := by
  unfold State.flink
  rw [State.raiseBody_fio]
@[simp] theorem State.die_raiseBody (s : State) (code : Nat) (body : List Byte) (j : Nat) : (s.raiseBody code body).die j = s.die j := by
  unfold State.die
  rw [State.raiseBody_fio]
@[simp] theorem State.sw_raiseBody (s : State) (code : Nat) (body : List Byte) (j : Nat) : (s.raiseBody code body).sw j = s.sw j := by
  unfold State.sw
  rw [State.raiseBody_loads]
@[simp] theorem State.bank_raiseBody (s : State) (code : Nat) (body : List Byte) (j : Nat) : (s.raiseBody code body).bank j = s.bank j := by
  unfold State.bank
  rw [State.raiseBody_loads]
@[simp] theorem State.port_raiseBody (s : State) (code : Nat) (body : List Byte) (j : Nat) : (s.raiseBody code body).port j = s.port j := by
  unfold State.port
  rw [State.raiseBody_net]
@[simp] theorem State.conn_raiseBody (s : State) (code : Nat) (body : List Byte) (j : Nat) : (s.raiseBody code body).conn j = s.conn j := by
  unfold State.conn
  rw [State.raiseBody_conns]
@[simp] theorem State.slot_raiseBody (s : State) (code : Nat) (body : List Byte) (j : Nat) : (s.raiseBody code body).slot j = s.slot j := by
  unfold State.slot
  rw [State.raiseBody_seq]
@[simp] theorem State.tracker_raiseBody (s : State) (code : Nat) (body : List Byte) (j : Nat) : (s.raiseBody code body).tracker j = s.tracker j := by
  unfold State.tracker
  rw [State.raiseBody_time]
@[simp] theorem State.ptpPort_raiseBody (s : State) (code : Nat) (body : List Byte) (j : Nat) : (s.raiseBody code body).ptpPort j = s.ptpPort j := by
  unfold State.ptpPort
  rw [State.raiseBody_time]
@[simp] theorem State.mrst_raiseBody (s : State) (code : Nat) (body : List Byte) (j : Nat) : (s.raiseBody code body).mrst j = s.mrst j := by
  unfold State.mrst
  rw [State.raiseBody_fio]

theorem State.raise_keeps (s : State) (code inst : Nat) (vals : List Byte) : Frame (Part.rcd ||| Part.cnt) s (s.raise code inst vals) := State.raise_frame rfl (Frame.refl _ s)
@[simp] theorem State.raise_sys (s : State) (code inst : Nat) (vals : List Byte) : (s.raise code inst vals).sys = s.sys := (State.raise_keeps s _ _ _).sys rfl
@[simp] theorem State.raise_bk (s : State) (code inst : Nat) (vals : List Byte) : (s.raise code inst vals).bk = s.bk := (State.raise_keeps s _ _ _).bk rfl
@[simp] theorem State.raise_nvm (s : State) (code inst : Nat) (vals : List Byte) : (s.raise code inst vals).nvm = s.nvm := (State.raise_keeps s _ _ _).nvm rfl
@[simp] theorem State.raise_cat (s : State) (code inst : Nat) (vals : List Byte) : (s.raise code inst vals).cat = s.cat := (State.raise_keeps s _ _ _).cat rfl
@[simp] theorem State.raise_sc (s : State) (code inst : Nat) (vals : List Byte) : (s.raise code inst vals).sc = s.sc := (State.raise_keeps s _ _ _).sc rfl
@[simp] theorem State.raise_time (s : State) (code inst : Nat) (vals : List Byte) : (s.raise code inst vals).time = s.time := (State.raise_keeps s _ _ _).time rfl
@[simp] theorem State.raise_seq (s : State) (code inst : Nat) (vals : List Byte) : (s.raise code inst vals).seq = s.seq := (State.raise_keeps s _ _ _).seq rfl
@[simp] theorem State.raise_portals (s : State) (code inst : Nat) (vals : List Byte) : (s.raise code inst vals).portals = s.portals := (State.raise_keeps s _ _ _).portals rfl
@[simp] theorem State.raise_obs (s : State) (code inst : Nat) (vals : List Byte) : (s.raise code inst vals).obs = s.obs := (State.raise_keeps s _ _ _).obs rfl
@[simp] theorem State.raise_axes (s : State) (code inst : Nat) (vals : List Byte) : (s.raise code inst vals).axes = s.axes := (State.raise_keeps s _ _ _).axes rfl
@[simp] theorem State.raise_fb (s : State) (code inst : Nat) (vals : List Byte) : (s.raise code inst vals).fb = s.fb := (State.raise_keeps s _ _ _).fb rfl
@[simp] theorem State.raise_links (s : State) (code inst : Nat) (vals : List Byte) : (s.raise code inst vals).links = s.links := (State.raise_keeps s _ _ _).links rfl
@[simp] theorem State.raise_ilk (s : State) (code inst : Nat) (vals : List Byte) : (s.raise code inst vals).ilk = s.ilk := (State.raise_keeps s _ _ _).ilk rfl
@[simp] theorem State.raise_fio (s : State) (code inst : Nat) (vals : List Byte) : (s.raise code inst vals).fio = s.fio := (State.raise_keeps s _ _ _).fio rfl
@[simp] theorem State.raise_loads (s : State) (code inst : Nat) (vals : List Byte) : (s.raise code inst vals).loads = s.loads := (State.raise_keeps s _ _ _).loads rfl
@[simp] theorem State.raise_net (s : State) (code inst : Nat) (vals : List Byte) : (s.raise code inst vals).net = s.net := (State.raise_keeps s _ _ _).net rfl
@[simp] theorem State.raise_trdp (s : State) (code inst : Nat) (vals : List Byte) : (s.raise code inst vals).trdp = s.trdp := (State.raise_keeps s _ _ _).trdp rfl
@[simp] theorem State.raise_conns (s : State) (code inst : Nat) (vals : List Byte) : (s.raise code inst vals).conns = s.conns := (State.raise_keeps s _ _ _).conns rfl
@[simp] theorem State.raise_twin (s : State) (code inst : Nat) (vals : List Byte) : (s.raise code inst vals).twin = s.twin := (State.raise_keeps s _ _ _).twin rfl
@[simp] theorem State.raise_regs (s : State) (code inst : Nat) (vals : List Byte) : (s.raise code inst vals).regs = s.regs := (State.raise_keeps s _ _ _).regs rfl
@[simp] theorem State.raise_mem (s : State) (code inst : Nat) (vals : List Byte) : (s.raise code inst vals).mem = s.mem := (State.raise_keeps s _ _ _).mem rfl
@[simp] theorem State.raise_flash (s : State) (code inst : Nat) (vals : List Byte) : (s.raise code inst vals).flash = s.flash := (State.raise_keeps s _ _ _).flash rfl
@[simp] theorem State.raise_outs (s : State) (code inst : Nat) (vals : List Byte) : (s.raise code inst vals).outs = s.outs := (State.raise_keeps s _ _ _).outs rfl
@[simp] theorem State.raise_free (s : State) (code inst : Nat) (vals : List Byte) : (s.raise code inst vals).free = s.free := (State.raise_keeps s _ _ _).free rfl
@[simp] theorem State.raise_pending (s : State) (code inst : Nat) (vals : List Byte) : (s.raise code inst vals).pending = s.pending := (State.raise_keeps s _ _ _).pending
@[simp] theorem State.portal_raise (s : State) (code inst : Nat) (vals : List Byte) (j : Nat) : (s.raise code inst vals).portal j = s.portal j := by
  unfold State.portal
  rw [State.raise_portals]
@[simp] theorem State.ob_raise (s : State) (code inst : Nat) (vals : List Byte) (j : Nat) : (s.raise code inst vals).ob j = s.ob j := by
  unfold State.ob
  rw [State.raise_obs]
@[simp] theorem State.axis_raise (s : State) (code inst : Nat) (vals : List Byte) (j : Nat) : (s.raise code inst vals).axis j = s.axis j := by
  unfold State.axis
  rw [State.raise_axes]
@[simp] theorem State.fbp_raise (s : State) (code inst : Nat) (vals : List Byte) (j : Nat) : (s.raise code inst vals).fbp j = s.fbp j := by
  unfold State.fbp
  rw [State.raise_fb]
@[simp] theorem State.link_raise (s : State) (code inst : Nat) (vals : List Byte) (j : Nat) : (s.raise code inst vals).link j = s.link j := by
  unfold State.link
  rw [State.raise_links]
@[simp] theorem State.so_raise (s : State) (code inst : Nat) (vals : List Byte) (j : Nat) : (s.raise code inst vals).so j = s.so j := by
  unfold State.so
  rw [State.raise_ilk]
@[simp] theorem State.pair_raise (s : State) (code inst : Nat) (vals : List Byte) (j : Nat) : (s.raise code inst vals).pair j = s.pair j := by
  unfold State.pair
  rw [State.raise_ilk]
@[simp] theorem State.mon_raise (s : State) (code inst : Nat) (vals : List Byte) (j : Nat) : (s.raise code inst vals).mon j = s.mon j := by
  unfold State.mon
  rw [State.raise_ilk]
@[simp] theorem State.flink_raise (s : State) (code inst : Nat) (vals : List Byte) (j : Nat) : (s.raise code inst vals).flink j = s.flink j := by
  unfold State.flink
  rw [State.raise_fio]
@[simp] theorem State.die_raise (s : State) (code inst : Nat) (vals : List Byte) (j : Nat) : (s.raise code inst vals).die j = s.die j := by
  unfold State.die
  rw [State.raise_fio]
@[simp] theorem State.sw_raise (s : State) (code inst : Nat) (vals : List Byte) (j : Nat) : (s.raise code inst vals).sw j = s.sw j := by
  unfold State.sw
  rw [State.raise_loads]
@[simp] theorem State.bank_raise (s : State) (code inst : Nat) (vals : List Byte) (j : Nat) : (s.raise code inst vals).bank j = s.bank j := by
  unfold State.bank
  rw [State.raise_loads]
@[simp] theorem State.port_raise (s : State) (code inst : Nat) (vals : List Byte) (j : Nat) : (s.raise code inst vals).port j = s.port j := by
  unfold State.port
  rw [State.raise_net]
@[simp] theorem State.conn_raise (s : State) (code inst : Nat) (vals : List Byte) (j : Nat) : (s.raise code inst vals).conn j = s.conn j := by
  unfold State.conn
  rw [State.raise_conns]
@[simp] theorem State.slot_raise (s : State) (code inst : Nat) (vals : List Byte) (j : Nat) : (s.raise code inst vals).slot j = s.slot j := by
  unfold State.slot
  rw [State.raise_seq]
@[simp] theorem State.tracker_raise (s : State) (code inst : Nat) (vals : List Byte) (j : Nat) : (s.raise code inst vals).tracker j = s.tracker j := by
  unfold State.tracker
  rw [State.raise_time]
@[simp] theorem State.ptpPort_raise (s : State) (code inst : Nat) (vals : List Byte) (j : Nat) : (s.raise code inst vals).ptpPort j = s.ptpPort j := by
  unfold State.ptpPort
  rw [State.raise_time]
@[simp] theorem State.mrst_raise (s : State) (code inst : Nat) (vals : List Byte) (j : Nat) : (s.raise code inst vals).mrst j = s.mrst j := by
  unfold State.mrst
  rw [State.raise_fio]

theorem State.raiseRated_keeps (s : State) (code inst cause : Nat) (vals : List Byte) : Frame (Part.rcd ||| Part.cnt) s (s.raiseRated code inst cause vals) := State.raiseRated_frame rfl (Frame.refl _ s)
@[simp] theorem State.raiseRated_sys (s : State) (code inst cause : Nat) (vals : List Byte) : (s.raiseRated code inst cause vals).sys = s.sys := (State.raiseRated_keeps s _ _ _ _).sys rfl
@[simp] theorem State.raiseRated_bk (s : State) (code inst cause : Nat) (vals : List Byte) : (s.raiseRated code inst cause vals).bk = s.bk := (State.raiseRated_keeps s _ _ _ _).bk rfl
@[simp] theorem State.raiseRated_nvm (s : State) (code inst cause : Nat) (vals : List Byte) : (s.raiseRated code inst cause vals).nvm = s.nvm := (State.raiseRated_keeps s _ _ _ _).nvm rfl
@[simp] theorem State.raiseRated_cat (s : State) (code inst cause : Nat) (vals : List Byte) : (s.raiseRated code inst cause vals).cat = s.cat := (State.raiseRated_keeps s _ _ _ _).cat rfl
@[simp] theorem State.raiseRated_sc (s : State) (code inst cause : Nat) (vals : List Byte) : (s.raiseRated code inst cause vals).sc = s.sc := (State.raiseRated_keeps s _ _ _ _).sc rfl
@[simp] theorem State.raiseRated_time (s : State) (code inst cause : Nat) (vals : List Byte) : (s.raiseRated code inst cause vals).time = s.time := (State.raiseRated_keeps s _ _ _ _).time rfl
@[simp] theorem State.raiseRated_seq (s : State) (code inst cause : Nat) (vals : List Byte) : (s.raiseRated code inst cause vals).seq = s.seq := (State.raiseRated_keeps s _ _ _ _).seq rfl
@[simp] theorem State.raiseRated_portals (s : State) (code inst cause : Nat) (vals : List Byte) : (s.raiseRated code inst cause vals).portals = s.portals := (State.raiseRated_keeps s _ _ _ _).portals rfl
@[simp] theorem State.raiseRated_obs (s : State) (code inst cause : Nat) (vals : List Byte) : (s.raiseRated code inst cause vals).obs = s.obs := (State.raiseRated_keeps s _ _ _ _).obs rfl
@[simp] theorem State.raiseRated_axes (s : State) (code inst cause : Nat) (vals : List Byte) : (s.raiseRated code inst cause vals).axes = s.axes := (State.raiseRated_keeps s _ _ _ _).axes rfl
@[simp] theorem State.raiseRated_fb (s : State) (code inst cause : Nat) (vals : List Byte) : (s.raiseRated code inst cause vals).fb = s.fb := (State.raiseRated_keeps s _ _ _ _).fb rfl
@[simp] theorem State.raiseRated_links (s : State) (code inst cause : Nat) (vals : List Byte) : (s.raiseRated code inst cause vals).links = s.links := (State.raiseRated_keeps s _ _ _ _).links rfl
@[simp] theorem State.raiseRated_ilk (s : State) (code inst cause : Nat) (vals : List Byte) : (s.raiseRated code inst cause vals).ilk = s.ilk := (State.raiseRated_keeps s _ _ _ _).ilk rfl
@[simp] theorem State.raiseRated_fio (s : State) (code inst cause : Nat) (vals : List Byte) : (s.raiseRated code inst cause vals).fio = s.fio := (State.raiseRated_keeps s _ _ _ _).fio rfl
@[simp] theorem State.raiseRated_loads (s : State) (code inst cause : Nat) (vals : List Byte) : (s.raiseRated code inst cause vals).loads = s.loads := (State.raiseRated_keeps s _ _ _ _).loads rfl
@[simp] theorem State.raiseRated_net (s : State) (code inst cause : Nat) (vals : List Byte) : (s.raiseRated code inst cause vals).net = s.net := (State.raiseRated_keeps s _ _ _ _).net rfl
@[simp] theorem State.raiseRated_trdp (s : State) (code inst cause : Nat) (vals : List Byte) : (s.raiseRated code inst cause vals).trdp = s.trdp := (State.raiseRated_keeps s _ _ _ _).trdp rfl
@[simp] theorem State.raiseRated_conns (s : State) (code inst cause : Nat) (vals : List Byte) : (s.raiseRated code inst cause vals).conns = s.conns := (State.raiseRated_keeps s _ _ _ _).conns rfl
@[simp] theorem State.raiseRated_twin (s : State) (code inst cause : Nat) (vals : List Byte) : (s.raiseRated code inst cause vals).twin = s.twin := (State.raiseRated_keeps s _ _ _ _).twin rfl
@[simp] theorem State.raiseRated_regs (s : State) (code inst cause : Nat) (vals : List Byte) : (s.raiseRated code inst cause vals).regs = s.regs := (State.raiseRated_keeps s _ _ _ _).regs rfl
@[simp] theorem State.raiseRated_mem (s : State) (code inst cause : Nat) (vals : List Byte) : (s.raiseRated code inst cause vals).mem = s.mem := (State.raiseRated_keeps s _ _ _ _).mem rfl
@[simp] theorem State.raiseRated_flash (s : State) (code inst cause : Nat) (vals : List Byte) : (s.raiseRated code inst cause vals).flash = s.flash := (State.raiseRated_keeps s _ _ _ _).flash rfl
@[simp] theorem State.raiseRated_outs (s : State) (code inst cause : Nat) (vals : List Byte) : (s.raiseRated code inst cause vals).outs = s.outs := (State.raiseRated_keeps s _ _ _ _).outs rfl
@[simp] theorem State.raiseRated_free (s : State) (code inst cause : Nat) (vals : List Byte) : (s.raiseRated code inst cause vals).free = s.free := (State.raiseRated_keeps s _ _ _ _).free rfl
@[simp] theorem State.raiseRated_pending (s : State) (code inst cause : Nat) (vals : List Byte) : (s.raiseRated code inst cause vals).pending = s.pending := (State.raiseRated_keeps s _ _ _ _).pending
@[simp] theorem State.portal_raiseRated (s : State) (code inst cause : Nat) (vals : List Byte) (j : Nat) : (s.raiseRated code inst cause vals).portal j = s.portal j := by
  unfold State.portal
  rw [State.raiseRated_portals]
@[simp] theorem State.ob_raiseRated (s : State) (code inst cause : Nat) (vals : List Byte) (j : Nat) : (s.raiseRated code inst cause vals).ob j = s.ob j := by
  unfold State.ob
  rw [State.raiseRated_obs]
@[simp] theorem State.axis_raiseRated (s : State) (code inst cause : Nat) (vals : List Byte) (j : Nat) : (s.raiseRated code inst cause vals).axis j = s.axis j := by
  unfold State.axis
  rw [State.raiseRated_axes]
@[simp] theorem State.fbp_raiseRated (s : State) (code inst cause : Nat) (vals : List Byte) (j : Nat) : (s.raiseRated code inst cause vals).fbp j = s.fbp j := by
  unfold State.fbp
  rw [State.raiseRated_fb]
@[simp] theorem State.link_raiseRated (s : State) (code inst cause : Nat) (vals : List Byte) (j : Nat) : (s.raiseRated code inst cause vals).link j = s.link j := by
  unfold State.link
  rw [State.raiseRated_links]
@[simp] theorem State.so_raiseRated (s : State) (code inst cause : Nat) (vals : List Byte) (j : Nat) : (s.raiseRated code inst cause vals).so j = s.so j := by
  unfold State.so
  rw [State.raiseRated_ilk]
@[simp] theorem State.pair_raiseRated (s : State) (code inst cause : Nat) (vals : List Byte) (j : Nat) : (s.raiseRated code inst cause vals).pair j = s.pair j := by
  unfold State.pair
  rw [State.raiseRated_ilk]
@[simp] theorem State.mon_raiseRated (s : State) (code inst cause : Nat) (vals : List Byte) (j : Nat) : (s.raiseRated code inst cause vals).mon j = s.mon j := by
  unfold State.mon
  rw [State.raiseRated_ilk]
@[simp] theorem State.flink_raiseRated (s : State) (code inst cause : Nat) (vals : List Byte) (j : Nat) : (s.raiseRated code inst cause vals).flink j = s.flink j := by
  unfold State.flink
  rw [State.raiseRated_fio]
@[simp] theorem State.die_raiseRated (s : State) (code inst cause : Nat) (vals : List Byte) (j : Nat) : (s.raiseRated code inst cause vals).die j = s.die j := by
  unfold State.die
  rw [State.raiseRated_fio]
@[simp] theorem State.sw_raiseRated (s : State) (code inst cause : Nat) (vals : List Byte) (j : Nat) : (s.raiseRated code inst cause vals).sw j = s.sw j := by
  unfold State.sw
  rw [State.raiseRated_loads]
@[simp] theorem State.bank_raiseRated (s : State) (code inst cause : Nat) (vals : List Byte) (j : Nat) : (s.raiseRated code inst cause vals).bank j = s.bank j := by
  unfold State.bank
  rw [State.raiseRated_loads]
@[simp] theorem State.port_raiseRated (s : State) (code inst cause : Nat) (vals : List Byte) (j : Nat) : (s.raiseRated code inst cause vals).port j = s.port j := by
  unfold State.port
  rw [State.raiseRated_net]
@[simp] theorem State.conn_raiseRated (s : State) (code inst cause : Nat) (vals : List Byte) (j : Nat) : (s.raiseRated code inst cause vals).conn j = s.conn j := by
  unfold State.conn
  rw [State.raiseRated_conns]
@[simp] theorem State.slot_raiseRated (s : State) (code inst cause : Nat) (vals : List Byte) (j : Nat) : (s.raiseRated code inst cause vals).slot j = s.slot j := by
  unfold State.slot
  rw [State.raiseRated_seq]
@[simp] theorem State.tracker_raiseRated (s : State) (code inst cause : Nat) (vals : List Byte) (j : Nat) : (s.raiseRated code inst cause vals).tracker j = s.tracker j := by
  unfold State.tracker
  rw [State.raiseRated_time]
@[simp] theorem State.ptpPort_raiseRated (s : State) (code inst cause : Nat) (vals : List Byte) (j : Nat) : (s.raiseRated code inst cause vals).ptpPort j = s.ptpPort j := by
  unfold State.ptpPort
  rw [State.raiseRated_time]
@[simp] theorem State.mrst_raiseRated (s : State) (code inst cause : Nat) (vals : List Byte) (j : Nat) : (s.raiseRated code inst cause vals).mrst j = s.mrst j := by
  unfold State.mrst
  rw [State.raiseRated_fio]

/-! ### Units after the small operations -/

@[simp] theorem State.portal_pass (s : State) (n : Nat) (j : Nat) : (s.pass n).portal j = s.portal j := (rfl)
@[simp] theorem State.ob_pass (s : State) (n : Nat) (j : Nat) : (s.pass n).ob j = s.ob j := (rfl)
@[simp] theorem State.axis_pass (s : State) (n : Nat) (j : Nat) : (s.pass n).axis j = s.axis j := (rfl)
@[simp] theorem State.fbp_pass (s : State) (n : Nat) (j : Nat) : (s.pass n).fbp j = s.fbp j := (rfl)
@[simp] theorem State.link_pass (s : State) (n : Nat) (j : Nat) : (s.pass n).link j = s.link j := (rfl)
@[simp] theorem State.so_pass (s : State) (n : Nat) (j : Nat) : (s.pass n).so j = s.so j := (rfl)
@[simp] theorem State.pair_pass (s : State) (n : Nat) (j : Nat) : (s.pass n).pair j = s.pair j := (rfl)
@[simp] theorem State.mon_pass (s : State) (n : Nat) (j : Nat) : (s.pass n).mon j = s.mon j := (rfl)
@[simp] theorem State.flink_pass (s : State) (n : Nat) (j : Nat) : (s.pass n).flink j = s.flink j := (rfl)
@[simp] theorem State.die_pass (s : State) (n : Nat) (j : Nat) : (s.pass n).die j = s.die j := (rfl)
@[simp] theorem State.sw_pass (s : State) (n : Nat) (j : Nat) : (s.pass n).sw j = s.sw j := (rfl)
@[simp] theorem State.bank_pass (s : State) (n : Nat) (j : Nat) : (s.pass n).bank j = s.bank j := (rfl)
@[simp] theorem State.port_pass (s : State) (n : Nat) (j : Nat) : (s.pass n).port j = s.port j := (rfl)
@[simp] theorem State.conn_pass (s : State) (n : Nat) (j : Nat) : (s.pass n).conn j = s.conn j := (rfl)
@[simp] theorem State.slot_pass (s : State) (n : Nat) (j : Nat) : (s.pass n).slot j = s.slot j := (rfl)
@[simp] theorem State.mrst_pass (s : State) (n : Nat) (j : Nat) : (s.pass n).mrst j = s.mrst j := (rfl)

@[simp] theorem State.portal_emit (s : State) (x : Out) (j : Nat) : (s.emit x).portal j = s.portal j := (rfl)
@[simp] theorem State.ob_emit (s : State) (x : Out) (j : Nat) : (s.emit x).ob j = s.ob j := (rfl)
@[simp] theorem State.axis_emit (s : State) (x : Out) (j : Nat) : (s.emit x).axis j = s.axis j := (rfl)
@[simp] theorem State.fbp_emit (s : State) (x : Out) (j : Nat) : (s.emit x).fbp j = s.fbp j := (rfl)
@[simp] theorem State.link_emit (s : State) (x : Out) (j : Nat) : (s.emit x).link j = s.link j := (rfl)
@[simp] theorem State.so_emit (s : State) (x : Out) (j : Nat) : (s.emit x).so j = s.so j := (rfl)
@[simp] theorem State.pair_emit (s : State) (x : Out) (j : Nat) : (s.emit x).pair j = s.pair j := (rfl)
@[simp] theorem State.mon_emit (s : State) (x : Out) (j : Nat) : (s.emit x).mon j = s.mon j := (rfl)
@[simp] theorem State.flink_emit (s : State) (x : Out) (j : Nat) : (s.emit x).flink j = s.flink j := (rfl)
@[simp] theorem State.die_emit (s : State) (x : Out) (j : Nat) : (s.emit x).die j = s.die j := (rfl)
@[simp] theorem State.sw_emit (s : State) (x : Out) (j : Nat) : (s.emit x).sw j = s.sw j := (rfl)
@[simp] theorem State.bank_emit (s : State) (x : Out) (j : Nat) : (s.emit x).bank j = s.bank j := (rfl)
@[simp] theorem State.port_emit (s : State) (x : Out) (j : Nat) : (s.emit x).port j = s.port j := (rfl)
@[simp] theorem State.conn_emit (s : State) (x : Out) (j : Nat) : (s.emit x).conn j = s.conn j := (rfl)
@[simp] theorem State.slot_emit (s : State) (x : Out) (j : Nat) : (s.emit x).slot j = s.slot j := (rfl)
@[simp] theorem State.tracker_emit (s : State) (x : Out) (j : Nat) : (s.emit x).tracker j = s.tracker j := (rfl)
@[simp] theorem State.ptpPort_emit (s : State) (x : Out) (j : Nat) : (s.emit x).ptpPort j = s.ptpPort j := (rfl)
@[simp] theorem State.mrst_emit (s : State) (x : Out) (j : Nat) : (s.emit x).mrst j = s.mrst j := (rfl)

@[simp] theorem State.portal_count (s : State) (i n : Nat) (j : Nat) : (s.count i n).portal j = s.portal j := (rfl)
@[simp] theorem State.ob_count (s : State) (i n : Nat) (j : Nat) : (s.count i n).ob j = s.ob j := (rfl)
@[simp] theorem State.axis_count (s : State) (i n : Nat) (j : Nat) : (s.count i n).axis j = s.axis j := (rfl)
@[simp] theorem State.fbp_count (s : State) (i n : Nat) (j : Nat) : (s.count i n).fbp j = s.fbp j := (rfl)
@[simp] theorem State.link_count (s : State) (i n : Nat) (j : Nat) : (s.count i n).link j = s.link j := (rfl)
@[simp] theorem State.so_count (s : State) (i n : Nat) (j : Nat) : (s.count i n).so j = s.so j := (rfl)
@[simp] theorem State.pair_count (s : State) (i n : Nat) (j : Nat) : (s.count i n).pair j = s.pair j := (rfl)
@[simp] theorem State.mon_count (s : State) (i n : Nat) (j : Nat) : (s.count i n).mon j = s.mon j := (rfl)
@[simp] theorem State.flink_count (s : State) (i n : Nat) (j : Nat) : (s.count i n).flink j = s.flink j := (rfl)
@[simp] theorem State.die_count (s : State) (i n : Nat) (j : Nat) : (s.count i n).die j = s.die j := (rfl)
@[simp] theorem State.sw_count (s : State) (i n : Nat) (j : Nat) : (s.count i n).sw j = s.sw j := (rfl)
@[simp] theorem State.bank_count (s : State) (i n : Nat) (j : Nat) : (s.count i n).bank j = s.bank j := (rfl)
@[simp] theorem State.port_count (s : State) (i n : Nat) (j : Nat) : (s.count i n).port j = s.port j := (rfl)
@[simp] theorem State.conn_count (s : State) (i n : Nat) (j : Nat) : (s.count i n).conn j = s.conn j := (rfl)
@[simp] theorem State.slot_count (s : State) (i n : Nat) (j : Nat) : (s.count i n).slot j = s.slot j := (rfl)
@[simp] theorem State.tracker_count (s : State) (i n : Nat) (j : Nat) : (s.count i n).tracker j = s.tracker j := (rfl)
@[simp] theorem State.ptpPort_count (s : State) (i n : Nat) (j : Nat) : (s.count i n).ptpPort j = s.ptpPort j := (rfl)
@[simp] theorem State.mrst_count (s : State) (i n : Nat) (j : Nat) : (s.count i n).mrst j = s.mrst j := (rfl)

@[simp] theorem State.portal_setReg (s : State) (r : RegId) (i k : Nat) (v : Word) (j : Nat) : (s.setReg r i k v).portal j = s.portal j := (rfl)
@[simp] theorem State.ob_setReg (s : State) (r : RegId) (i k : Nat) (v : Word) (j : Nat) : (s.setReg r i k v).ob j = s.ob j := (rfl)
@[simp] theorem State.axis_setReg (s : State) (r : RegId) (i k : Nat) (v : Word) (j : Nat) : (s.setReg r i k v).axis j = s.axis j := (rfl)
@[simp] theorem State.fbp_setReg (s : State) (r : RegId) (i k : Nat) (v : Word) (j : Nat) : (s.setReg r i k v).fbp j = s.fbp j := (rfl)
@[simp] theorem State.link_setReg (s : State) (r : RegId) (i k : Nat) (v : Word) (j : Nat) : (s.setReg r i k v).link j = s.link j := (rfl)
@[simp] theorem State.so_setReg (s : State) (r : RegId) (i k : Nat) (v : Word) (j : Nat) : (s.setReg r i k v).so j = s.so j := (rfl)
@[simp] theorem State.pair_setReg (s : State) (r : RegId) (i k : Nat) (v : Word) (j : Nat) : (s.setReg r i k v).pair j = s.pair j := (rfl)
@[simp] theorem State.mon_setReg (s : State) (r : RegId) (i k : Nat) (v : Word) (j : Nat) : (s.setReg r i k v).mon j = s.mon j := (rfl)
@[simp] theorem State.flink_setReg (s : State) (r : RegId) (i k : Nat) (v : Word) (j : Nat) : (s.setReg r i k v).flink j = s.flink j := (rfl)
@[simp] theorem State.die_setReg (s : State) (r : RegId) (i k : Nat) (v : Word) (j : Nat) : (s.setReg r i k v).die j = s.die j := (rfl)
@[simp] theorem State.sw_setReg (s : State) (r : RegId) (i k : Nat) (v : Word) (j : Nat) : (s.setReg r i k v).sw j = s.sw j := (rfl)
@[simp] theorem State.bank_setReg (s : State) (r : RegId) (i k : Nat) (v : Word) (j : Nat) : (s.setReg r i k v).bank j = s.bank j := (rfl)
@[simp] theorem State.port_setReg (s : State) (r : RegId) (i k : Nat) (v : Word) (j : Nat) : (s.setReg r i k v).port j = s.port j := (rfl)
@[simp] theorem State.conn_setReg (s : State) (r : RegId) (i k : Nat) (v : Word) (j : Nat) : (s.setReg r i k v).conn j = s.conn j := (rfl)
@[simp] theorem State.slot_setReg (s : State) (r : RegId) (i k : Nat) (v : Word) (j : Nat) : (s.setReg r i k v).slot j = s.slot j := (rfl)
@[simp] theorem State.tracker_setReg (s : State) (r : RegId) (i k : Nat) (v : Word) (j : Nat) : (s.setReg r i k v).tracker j = s.tracker j := (rfl)
@[simp] theorem State.ptpPort_setReg (s : State) (r : RegId) (i k : Nat) (v : Word) (j : Nat) : (s.setReg r i k v).ptpPort j = s.ptpPort j := (rfl)
@[simp] theorem State.mrst_setReg (s : State) (r : RegId) (i k : Nat) (v : Word) (j : Nat) : (s.setReg r i k v).mrst j = s.mrst j := (rfl)

@[simp] theorem State.portal_setMem (s : State) (a : Nat) (bs : List Byte) (j : Nat) : (s.setMem a bs).portal j = s.portal j := (rfl)
@[simp] theorem State.ob_setMem (s : State) (a : Nat) (bs : List Byte) (j : Nat) : (s.setMem a bs).ob j = s.ob j := (rfl)
@[simp] theorem State.axis_setMem (s : State) (a : Nat) (bs : List Byte) (j : Nat) : (s.setMem a bs).axis j = s.axis j := (rfl)
@[simp] theorem State.fbp_setMem (s : State) (a : Nat) (bs : List Byte) (j : Nat) : (s.setMem a bs).fbp j = s.fbp j := (rfl)
@[simp] theorem State.link_setMem (s : State) (a : Nat) (bs : List Byte) (j : Nat) : (s.setMem a bs).link j = s.link j := (rfl)
@[simp] theorem State.so_setMem (s : State) (a : Nat) (bs : List Byte) (j : Nat) : (s.setMem a bs).so j = s.so j := (rfl)
@[simp] theorem State.pair_setMem (s : State) (a : Nat) (bs : List Byte) (j : Nat) : (s.setMem a bs).pair j = s.pair j := (rfl)
@[simp] theorem State.mon_setMem (s : State) (a : Nat) (bs : List Byte) (j : Nat) : (s.setMem a bs).mon j = s.mon j := (rfl)
@[simp] theorem State.flink_setMem (s : State) (a : Nat) (bs : List Byte) (j : Nat) : (s.setMem a bs).flink j = s.flink j := (rfl)
@[simp] theorem State.die_setMem (s : State) (a : Nat) (bs : List Byte) (j : Nat) : (s.setMem a bs).die j = s.die j := (rfl)
@[simp] theorem State.sw_setMem (s : State) (a : Nat) (bs : List Byte) (j : Nat) : (s.setMem a bs).sw j = s.sw j := (rfl)
@[simp] theorem State.bank_setMem (s : State) (a : Nat) (bs : List Byte) (j : Nat) : (s.setMem a bs).bank j = s.bank j := (rfl)
@[simp] theorem State.port_setMem (s : State) (a : Nat) (bs : List Byte) (j : Nat) : (s.setMem a bs).port j = s.port j := (rfl)
@[simp] theorem State.conn_setMem (s : State) (a : Nat) (bs : List Byte) (j : Nat) : (s.setMem a bs).conn j = s.conn j := (rfl)
@[simp] theorem State.slot_setMem (s : State) (a : Nat) (bs : List Byte) (j : Nat) : (s.setMem a bs).slot j = s.slot j := (rfl)
@[simp] theorem State.tracker_setMem (s : State) (a : Nat) (bs : List Byte) (j : Nat) : (s.setMem a bs).tracker j = s.tracker j := (rfl)
@[simp] theorem State.ptpPort_setMem (s : State) (a : Nat) (bs : List Byte) (j : Nat) : (s.setMem a bs).ptpPort j = s.ptpPort j := (rfl)
@[simp] theorem State.mrst_setMem (s : State) (a : Nat) (bs : List Byte) (j : Nat) : (s.setMem a bs).mrst j = s.mrst j := (rfl)

@[simp] theorem State.portal_setMemByte (s : State) (a : Nat) (x : Byte) (j : Nat) : (s.setMemByte a x).portal j = s.portal j := (rfl)
@[simp] theorem State.ob_setMemByte (s : State) (a : Nat) (x : Byte) (j : Nat) : (s.setMemByte a x).ob j = s.ob j := (rfl)
@[simp] theorem State.axis_setMemByte (s : State) (a : Nat) (x : Byte) (j : Nat) : (s.setMemByte a x).axis j = s.axis j := (rfl)
@[simp] theorem State.fbp_setMemByte (s : State) (a : Nat) (x : Byte) (j : Nat) : (s.setMemByte a x).fbp j = s.fbp j := (rfl)
@[simp] theorem State.link_setMemByte (s : State) (a : Nat) (x : Byte) (j : Nat) : (s.setMemByte a x).link j = s.link j := (rfl)
@[simp] theorem State.so_setMemByte (s : State) (a : Nat) (x : Byte) (j : Nat) : (s.setMemByte a x).so j = s.so j := (rfl)
@[simp] theorem State.pair_setMemByte (s : State) (a : Nat) (x : Byte) (j : Nat) : (s.setMemByte a x).pair j = s.pair j := (rfl)
@[simp] theorem State.mon_setMemByte (s : State) (a : Nat) (x : Byte) (j : Nat) : (s.setMemByte a x).mon j = s.mon j := (rfl)
@[simp] theorem State.flink_setMemByte (s : State) (a : Nat) (x : Byte) (j : Nat) : (s.setMemByte a x).flink j = s.flink j := (rfl)
@[simp] theorem State.die_setMemByte (s : State) (a : Nat) (x : Byte) (j : Nat) : (s.setMemByte a x).die j = s.die j := (rfl)
@[simp] theorem State.sw_setMemByte (s : State) (a : Nat) (x : Byte) (j : Nat) : (s.setMemByte a x).sw j = s.sw j := (rfl)
@[simp] theorem State.bank_setMemByte (s : State) (a : Nat) (x : Byte) (j : Nat) : (s.setMemByte a x).bank j = s.bank j := (rfl)
@[simp] theorem State.port_setMemByte (s : State) (a : Nat) (x : Byte) (j : Nat) : (s.setMemByte a x).port j = s.port j := (rfl)
@[simp] theorem State.conn_setMemByte (s : State) (a : Nat) (x : Byte) (j : Nat) : (s.setMemByte a x).conn j = s.conn j := (rfl)
@[simp] theorem State.slot_setMemByte (s : State) (a : Nat) (x : Byte) (j : Nat) : (s.setMemByte a x).slot j = s.slot j := (rfl)
@[simp] theorem State.tracker_setMemByte (s : State) (a : Nat) (x : Byte) (j : Nat) : (s.setMemByte a x).tracker j = s.tracker j := (rfl)
@[simp] theorem State.ptpPort_setMemByte (s : State) (a : Nat) (x : Byte) (j : Nat) : (s.setMemByte a x).ptpPort j = s.ptpPort j := (rfl)
@[simp] theorem State.mrst_setMemByte (s : State) (a : Nat) (x : Byte) (j : Nat) : (s.setMemByte a x).mrst j = s.mrst j := (rfl)

@[simp] theorem State.portal_setFlash (s : State) (a : Nat) (bs : List Byte) (j : Nat) : (s.setFlash a bs).portal j = s.portal j := (rfl)
@[simp] theorem State.ob_setFlash (s : State) (a : Nat) (bs : List Byte) (j : Nat) : (s.setFlash a bs).ob j = s.ob j := (rfl)
@[simp] theorem State.axis_setFlash (s : State) (a : Nat) (bs : List Byte) (j : Nat) : (s.setFlash a bs).axis j = s.axis j := (rfl)
@[simp] theorem State.fbp_setFlash (s : State) (a : Nat) (bs : List Byte) (j : Nat) : (s.setFlash a bs).fbp j = s.fbp j := (rfl)
@[simp] theorem State.link_setFlash (s : State) (a : Nat) (bs : List Byte) (j : Nat) : (s.setFlash a bs).link j = s.link j := (rfl)
@[simp] theorem State.so_setFlash (s : State) (a : Nat) (bs : List Byte) (j : Nat) : (s.setFlash a bs).so j = s.so j := (rfl)
@[simp] theorem State.pair_setFlash (s : State) (a : Nat) (bs : List Byte) (j : Nat) : (s.setFlash a bs).pair j = s.pair j := (rfl)
@[simp] theorem State.mon_setFlash (s : State) (a : Nat) (bs : List Byte) (j : Nat) : (s.setFlash a bs).mon j = s.mon j := (rfl)
@[simp] theorem State.flink_setFlash (s : State) (a : Nat) (bs : List Byte) (j : Nat) : (s.setFlash a bs).flink j = s.flink j := (rfl)
@[simp] theorem State.die_setFlash (s : State) (a : Nat) (bs : List Byte) (j : Nat) : (s.setFlash a bs).die j = s.die j := (rfl)
@[simp] theorem State.sw_setFlash (s : State) (a : Nat) (bs : List Byte) (j : Nat) : (s.setFlash a bs).sw j = s.sw j := (rfl)
@[simp] theorem State.bank_setFlash (s : State) (a : Nat) (bs : List Byte) (j : Nat) : (s.setFlash a bs).bank j = s.bank j := (rfl)
@[simp] theorem State.port_setFlash (s : State) (a : Nat) (bs : List Byte) (j : Nat) : (s.setFlash a bs).port j = s.port j := (rfl)
@[simp] theorem State.conn_setFlash (s : State) (a : Nat) (bs : List Byte) (j : Nat) : (s.setFlash a bs).conn j = s.conn j := (rfl)
@[simp] theorem State.slot_setFlash (s : State) (a : Nat) (bs : List Byte) (j : Nat) : (s.setFlash a bs).slot j = s.slot j := (rfl)
@[simp] theorem State.tracker_setFlash (s : State) (a : Nat) (bs : List Byte) (j : Nat) : (s.setFlash a bs).tracker j = s.tracker j := (rfl)
@[simp] theorem State.ptpPort_setFlash (s : State) (a : Nat) (bs : List Byte) (j : Nat) : (s.setFlash a bs).ptpPort j = s.ptpPort j := (rfl)
@[simp] theorem State.mrst_setFlash (s : State) (a : Nat) (bs : List Byte) (j : Nat) : (s.setFlash a bs).mrst j = s.mrst j := (rfl)

/-! ### Registers and clocks -/

@[simp] theorem State.reg_setPortal (s : State) (p : Nat) (x) (q : RegId) (i1 j1 : Nat) : (s.setPortal p x).reg q i1 j1 = s.reg q i1 j1 := (rfl)
@[simp] theorem State.rf_setPortal (s : State) (p : Nat) (x) (q : RegId) (i1 hi lo : Nat) : (s.setPortal p x).rf q i1 hi lo = s.rf q i1 hi lo := (rfl)
@[simp] theorem State.rb_setPortal (s : State) (p : Nat) (x) (q : RegId) (i1 b1 : Nat) : (s.setPortal p x).rb q i1 b1 = s.rb q i1 b1 := (rfl)
@[simp] theorem State.rs_setPortal (s : State) (p : Nat) (x) (q : RegId) (i1 : Nat) : (s.setPortal p x).rs q i1 = s.rs q i1 := (rfl)
@[simp] theorem State.lt_setPortal (s : State) (p : Nat) (x) : (s.setPortal p x).lt = s.lt := (rfl)
@[simp] theorem State.tt_setPortal (s : State) (p : Nat) (x) : (s.setPortal p x).tt = s.tt := (rfl)

@[simp] theorem State.reg_setOb (s : State) (n : Nat) (x) (q : RegId) (i1 j1 : Nat) : (s.setOb n x).reg q i1 j1 = s.reg q i1 j1 := (rfl)
@[simp] theorem State.rf_setOb (s : State) (n : Nat) (x) (q : RegId) (i1 hi lo : Nat) : (s.setOb n x).rf q i1 hi lo = s.rf q i1 hi lo := (rfl)
@[simp] theorem State.rb_setOb (s : State) (n : Nat) (x) (q : RegId) (i1 b1 : Nat) : (s.setOb n x).rb q i1 b1 = s.rb q i1 b1 := (rfl)
@[simp] theorem State.rs_setOb (s : State) (n : Nat) (x) (q : RegId) (i1 : Nat) : (s.setOb n x).rs q i1 = s.rs q i1 := (rfl)
@[simp] theorem State.lt_setOb (s : State) (n : Nat) (x) : (s.setOb n x).lt = s.lt := (rfl)
@[simp] theorem State.tt_setOb (s : State) (n : Nat) (x) : (s.setOb n x).tt = s.tt := (rfl)

@[simp] theorem State.reg_setAxis (s : State) (n : Nat) (x) (q : RegId) (i1 j1 : Nat) : (s.setAxis n x).reg q i1 j1 = s.reg q i1 j1 := (rfl)
@[simp] theorem State.rf_setAxis (s : State) (n : Nat) (x) (q : RegId) (i1 hi lo : Nat) : (s.setAxis n x).rf q i1 hi lo = s.rf q i1 hi lo := (rfl)
@[simp] theorem State.rb_setAxis (s : State) (n : Nat) (x) (q : RegId) (i1 b1 : Nat) : (s.setAxis n x).rb q i1 b1 = s.rb q i1 b1 := (rfl)
@[simp] theorem State.rs_setAxis (s : State) (n : Nat) (x) (q : RegId) (i1 : Nat) : (s.setAxis n x).rs q i1 = s.rs q i1 := (rfl)
@[simp] theorem State.lt_setAxis (s : State) (n : Nat) (x) : (s.setAxis n x).lt = s.lt := (rfl)
@[simp] theorem State.tt_setAxis (s : State) (n : Nat) (x) : (s.setAxis n x).tt = s.tt := (rfl)

@[simp] theorem State.reg_setFbp (s : State) (n : Nat) (x) (q : RegId) (i1 j1 : Nat) : (s.setFbp n x).reg q i1 j1 = s.reg q i1 j1 := (rfl)
@[simp] theorem State.rf_setFbp (s : State) (n : Nat) (x) (q : RegId) (i1 hi lo : Nat) : (s.setFbp n x).rf q i1 hi lo = s.rf q i1 hi lo := (rfl)
@[simp] theorem State.rb_setFbp (s : State) (n : Nat) (x) (q : RegId) (i1 b1 : Nat) : (s.setFbp n x).rb q i1 b1 = s.rb q i1 b1 := (rfl)
@[simp] theorem State.rs_setFbp (s : State) (n : Nat) (x) (q : RegId) (i1 : Nat) : (s.setFbp n x).rs q i1 = s.rs q i1 := (rfl)
@[simp] theorem State.lt_setFbp (s : State) (n : Nat) (x) : (s.setFbp n x).lt = s.lt := (rfl)
@[simp] theorem State.tt_setFbp (s : State) (n : Nat) (x) : (s.setFbp n x).tt = s.tt := (rfl)

@[simp] theorem State.reg_setLink (s : State) (n : Nat) (x) (q : RegId) (i1 j1 : Nat) : (s.setLink n x).reg q i1 j1 = s.reg q i1 j1 := (rfl)
@[simp] theorem State.rf_setLink (s : State) (n : Nat) (x) (q : RegId) (i1 hi lo : Nat) : (s.setLink n x).rf q i1 hi lo = s.rf q i1 hi lo := (rfl)
@[simp] theorem State.rb_setLink (s : State) (n : Nat) (x) (q : RegId) (i1 b1 : Nat) : (s.setLink n x).rb q i1 b1 = s.rb q i1 b1 := (rfl)
@[simp] theorem State.rs_setLink (s : State) (n : Nat) (x) (q : RegId) (i1 : Nat) : (s.setLink n x).rs q i1 = s.rs q i1 := (rfl)
@[simp] theorem State.lt_setLink (s : State) (n : Nat) (x) : (s.setLink n x).lt = s.lt := (rfl)
@[simp] theorem State.tt_setLink (s : State) (n : Nat) (x) : (s.setLink n x).tt = s.tt := (rfl)

@[simp] theorem State.reg_setSo (s : State) (k : Nat) (x) (q : RegId) (i1 j1 : Nat) : (s.setSo k x).reg q i1 j1 = s.reg q i1 j1 := (rfl)
@[simp] theorem State.rf_setSo (s : State) (k : Nat) (x) (q : RegId) (i1 hi lo : Nat) : (s.setSo k x).rf q i1 hi lo = s.rf q i1 hi lo := (rfl)
@[simp] theorem State.rb_setSo (s : State) (k : Nat) (x) (q : RegId) (i1 b1 : Nat) : (s.setSo k x).rb q i1 b1 = s.rb q i1 b1 := (rfl)
@[simp] theorem State.rs_setSo (s : State) (k : Nat) (x) (q : RegId) (i1 : Nat) : (s.setSo k x).rs q i1 = s.rs q i1 := (rfl)
@[simp] theorem State.lt_setSo (s : State) (k : Nat) (x) : (s.setSo k x).lt = s.lt := (rfl)
@[simp] theorem State.tt_setSo (s : State) (k : Nat) (x) : (s.setSo k x).tt = s.tt := (rfl)

@[simp] theorem State.reg_setPair (s : State) (i : Nat) (x) (q : RegId) (i1 j1 : Nat) : (s.setPair i x).reg q i1 j1 = s.reg q i1 j1 := (rfl)
@[simp] theorem State.rf_setPair (s : State) (i : Nat) (x) (q : RegId) (i1 hi lo : Nat) : (s.setPair i x).rf q i1 hi lo = s.rf q i1 hi lo := (rfl)
@[simp] theorem State.rb_setPair (s : State) (i : Nat) (x) (q : RegId) (i1 b1 : Nat) : (s.setPair i x).rb q i1 b1 = s.rb q i1 b1 := (rfl)
@[simp] theorem State.rs_setPair (s : State) (i : Nat) (x) (q : RegId) (i1 : Nat) : (s.setPair i x).rs q i1 = s.rs q i1 := (rfl)
@[simp] theorem State.lt_setPair (s : State) (i : Nat) (x) : (s.setPair i x).lt = s.lt := (rfl)
@[simp] theorem State.tt_setPair (s : State) (i : Nat) (x) : (s.setPair i x).tt = s.tt := (rfl)

@[simp] theorem State.reg_setMon (s : State) (i : Nat) (x) (q : RegId) (i1 j1 : Nat) : (s.setMon i x).reg q i1 j1 = s.reg q i1 j1 := (rfl)
@[simp] theorem State.rf_setMon (s : State) (i : Nat) (x) (q : RegId) (i1 hi lo : Nat) : (s.setMon i x).rf q i1 hi lo = s.rf q i1 hi lo := (rfl)
@[simp] theorem State.rb_setMon (s : State) (i : Nat) (x) (q : RegId) (i1 b1 : Nat) : (s.setMon i x).rb q i1 b1 = s.rb q i1 b1 := (rfl)
@[simp] theorem State.rs_setMon (s : State) (i : Nat) (x) (q : RegId) (i1 : Nat) : (s.setMon i x).rs q i1 = s.rs q i1 := (rfl)
@[simp] theorem State.lt_setMon (s : State) (i : Nat) (x) : (s.setMon i x).lt = s.lt := (rfl)
@[simp] theorem State.tt_setMon (s : State) (i : Nat) (x) : (s.setMon i x).tt = s.tt := (rfl)

@[simp] theorem State.reg_setFlink (s : State) (k : Nat) (x) (q : RegId) (i1 j1 : Nat) : (s.setFlink k x).reg q i1 j1 = s.reg q i1 j1 := (rfl)
@[simp] theorem State.rf_setFlink (s : State) (k : Nat) (x) (q : RegId) (i1 hi lo : Nat) : (s.setFlink k x).rf q i1 hi lo = s.rf q i1 hi lo := (rfl)
@[simp] theorem State.rb_setFlink (s : State) (k : Nat) (x) (q : RegId) (i1 b1 : Nat) : (s.setFlink k x).rb q i1 b1 = s.rb q i1 b1 := (rfl)
@[simp] theorem State.rs_setFlink (s : State) (k : Nat) (x) (q : RegId) (i1 : Nat) : (s.setFlink k x).rs q i1 = s.rs q i1 := (rfl)
@[simp] theorem State.lt_setFlink (s : State) (k : Nat) (x) : (s.setFlink k x).lt = s.lt := (rfl)
@[simp] theorem State.tt_setFlink (s : State) (k : Nat) (x) : (s.setFlink k x).tt = s.tt := (rfl)

@[simp] theorem State.reg_setDie (s : State) (k : Nat) (x) (q : RegId) (i1 j1 : Nat) : (s.setDie k x).reg q i1 j1 = s.reg q i1 j1 := (rfl)
@[simp] theorem State.rf_setDie (s : State) (k : Nat) (x) (q : RegId) (i1 hi lo : Nat) : (s.setDie k x).rf q i1 hi lo = s.rf q i1 hi lo := (rfl)
@[simp] theorem State.rb_setDie (s : State) (k : Nat) (x) (q : RegId) (i1 b1 : Nat) : (s.setDie k x).rb q i1 b1 = s.rb q i1 b1 := (rfl)
@[simp] theorem State.rs_setDie (s : State) (k : Nat) (x) (q : RegId) (i1 : Nat) : (s.setDie k x).rs q i1 = s.rs q i1 := (rfl)
@[simp] theorem State.lt_setDie (s : State) (k : Nat) (x) : (s.setDie k x).lt = s.lt := (rfl)
@[simp] theorem State.tt_setDie (s : State) (k : Nat) (x) : (s.setDie k x).tt = s.tt := (rfl)

@[simp] theorem State.reg_setSw (s : State) (n : Nat) (x) (q : RegId) (i1 j1 : Nat) : (s.setSw n x).reg q i1 j1 = s.reg q i1 j1 := (rfl)
@[simp] theorem State.rf_setSw (s : State) (n : Nat) (x) (q : RegId) (i1 hi lo : Nat) : (s.setSw n x).rf q i1 hi lo = s.rf q i1 hi lo := (rfl)
@[simp] theorem State.rb_setSw (s : State) (n : Nat) (x) (q : RegId) (i1 b1 : Nat) : (s.setSw n x).rb q i1 b1 = s.rb q i1 b1 := (rfl)
@[simp] theorem State.rs_setSw (s : State) (n : Nat) (x) (q : RegId) (i1 : Nat) : (s.setSw n x).rs q i1 = s.rs q i1 := (rfl)
@[simp] theorem State.lt_setSw (s : State) (n : Nat) (x) : (s.setSw n x).lt = s.lt := (rfl)
@[simp] theorem State.tt_setSw (s : State) (n : Nat) (x) : (s.setSw n x).tt = s.tt := (rfl)

@[simp] theorem State.reg_setBank (s : State) (b : Nat) (x) (q : RegId) (i1 j1 : Nat) : (s.setBank b x).reg q i1 j1 = s.reg q i1 j1 := (rfl)
@[simp] theorem State.rf_setBank (s : State) (b : Nat) (x) (q : RegId) (i1 hi lo : Nat) : (s.setBank b x).rf q i1 hi lo = s.rf q i1 hi lo := (rfl)
@[simp] theorem State.rb_setBank (s : State) (b : Nat) (x) (q : RegId) (i1 b1 : Nat) : (s.setBank b x).rb q i1 b1 = s.rb q i1 b1 := (rfl)
@[simp] theorem State.rs_setBank (s : State) (b : Nat) (x) (q : RegId) (i1 : Nat) : (s.setBank b x).rs q i1 = s.rs q i1 := (rfl)
@[simp] theorem State.lt_setBank (s : State) (b : Nat) (x) : (s.setBank b x).lt = s.lt := (rfl)
@[simp] theorem State.tt_setBank (s : State) (b : Nat) (x) : (s.setBank b x).tt = s.tt := (rfl)

@[simp] theorem State.reg_setPort (s : State) (i : Nat) (x) (q : RegId) (i1 j1 : Nat) : (s.setPort i x).reg q i1 j1 = s.reg q i1 j1 := (rfl)
@[simp] theorem State.rf_setPort (s : State) (i : Nat) (x) (q : RegId) (i1 hi lo : Nat) : (s.setPort i x).rf q i1 hi lo = s.rf q i1 hi lo := (rfl)
@[simp] theorem State.rb_setPort (s : State) (i : Nat) (x) (q : RegId) (i1 b1 : Nat) : (s.setPort i x).rb q i1 b1 = s.rb q i1 b1 := (rfl)
@[simp] theorem State.rs_setPort (s : State) (i : Nat) (x) (q : RegId) (i1 : Nat) : (s.setPort i x).rs q i1 = s.rs q i1 := (rfl)
@[simp] theorem State.lt_setPort (s : State) (i : Nat) (x) : (s.setPort i x).lt = s.lt := (rfl)
@[simp] theorem State.tt_setPort (s : State) (i : Nat) (x) : (s.setPort i x).tt = s.tt := (rfl)

@[simp] theorem State.reg_setConn (s : State) (c : Nat) (x) (q : RegId) (i1 j1 : Nat) : (s.setConn c x).reg q i1 j1 = s.reg q i1 j1 := (rfl)
@[simp] theorem State.rf_setConn (s : State) (c : Nat) (x) (q : RegId) (i1 hi lo : Nat) : (s.setConn c x).rf q i1 hi lo = s.rf q i1 hi lo := (rfl)
@[simp] theorem State.rb_setConn (s : State) (c : Nat) (x) (q : RegId) (i1 b1 : Nat) : (s.setConn c x).rb q i1 b1 = s.rb q i1 b1 := (rfl)
@[simp] theorem State.rs_setConn (s : State) (c : Nat) (x) (q : RegId) (i1 : Nat) : (s.setConn c x).rs q i1 = s.rs q i1 := (rfl)
@[simp] theorem State.lt_setConn (s : State) (c : Nat) (x) : (s.setConn c x).lt = s.lt := (rfl)
@[simp] theorem State.tt_setConn (s : State) (c : Nat) (x) : (s.setConn c x).tt = s.tt := (rfl)

@[simp] theorem State.reg_setSlot (s : State) (i : Nat) (x) (q : RegId) (i1 j1 : Nat) : (s.setSlot i x).reg q i1 j1 = s.reg q i1 j1 := (rfl)
@[simp] theorem State.rf_setSlot (s : State) (i : Nat) (x) (q : RegId) (i1 hi lo : Nat) : (s.setSlot i x).rf q i1 hi lo = s.rf q i1 hi lo := (rfl)
@[simp] theorem State.rb_setSlot (s : State) (i : Nat) (x) (q : RegId) (i1 b1 : Nat) : (s.setSlot i x).rb q i1 b1 = s.rb q i1 b1 := (rfl)
@[simp] theorem State.rs_setSlot (s : State) (i : Nat) (x) (q : RegId) (i1 : Nat) : (s.setSlot i x).rs q i1 = s.rs q i1 := (rfl)
@[simp] theorem State.lt_setSlot (s : State) (i : Nat) (x) : (s.setSlot i x).lt = s.lt := (rfl)
@[simp] theorem State.tt_setSlot (s : State) (i : Nat) (x) : (s.setSlot i x).tt = s.tt := (rfl)

@[simp] theorem State.reg_setTracker (s : State) (d : Nat) (x) (q : RegId) (i1 j1 : Nat) : (s.setTracker d x).reg q i1 j1 = s.reg q i1 j1 := (rfl)
@[simp] theorem State.rf_setTracker (s : State) (d : Nat) (x) (q : RegId) (i1 hi lo : Nat) : (s.setTracker d x).rf q i1 hi lo = s.rf q i1 hi lo := (rfl)
@[simp] theorem State.rb_setTracker (s : State) (d : Nat) (x) (q : RegId) (i1 b1 : Nat) : (s.setTracker d x).rb q i1 b1 = s.rb q i1 b1 := (rfl)
@[simp] theorem State.rs_setTracker (s : State) (d : Nat) (x) (q : RegId) (i1 : Nat) : (s.setTracker d x).rs q i1 = s.rs q i1 := (rfl)

@[simp] theorem State.reg_setPtpPort (s : State) (i : Nat) (x) (q : RegId) (i1 j1 : Nat) : (s.setPtpPort i x).reg q i1 j1 = s.reg q i1 j1 := (rfl)
@[simp] theorem State.rf_setPtpPort (s : State) (i : Nat) (x) (q : RegId) (i1 hi lo : Nat) : (s.setPtpPort i x).rf q i1 hi lo = s.rf q i1 hi lo := (rfl)
@[simp] theorem State.rb_setPtpPort (s : State) (i : Nat) (x) (q : RegId) (i1 b1 : Nat) : (s.setPtpPort i x).rb q i1 b1 = s.rb q i1 b1 := (rfl)
@[simp] theorem State.rs_setPtpPort (s : State) (i : Nat) (x) (q : RegId) (i1 : Nat) : (s.setPtpPort i x).rs q i1 = s.rs q i1 := (rfl)

@[simp] theorem State.reg_setMrst (s : State) (i : Nat) (x) (q : RegId) (i1 j1 : Nat) : (s.setMrst i x).reg q i1 j1 = s.reg q i1 j1 := (rfl)
@[simp] theorem State.rf_setMrst (s : State) (i : Nat) (x) (q : RegId) (i1 hi lo : Nat) : (s.setMrst i x).rf q i1 hi lo = s.rf q i1 hi lo := (rfl)
@[simp] theorem State.rb_setMrst (s : State) (i : Nat) (x) (q : RegId) (i1 b1 : Nat) : (s.setMrst i x).rb q i1 b1 = s.rb q i1 b1 := (rfl)
@[simp] theorem State.rs_setMrst (s : State) (i : Nat) (x) (q : RegId) (i1 : Nat) : (s.setMrst i x).rs q i1 = s.rs q i1 := (rfl)
@[simp] theorem State.lt_setMrst (s : State) (i : Nat) (x) : (s.setMrst i x).lt = s.lt := (rfl)
@[simp] theorem State.tt_setMrst (s : State) (i : Nat) (x) : (s.setMrst i x).tt = s.tt := (rfl)

@[simp] theorem State.reg_pass (s : State) (n : Nat) (q : RegId) (i1 j1 : Nat) : (s.pass n).reg q i1 j1 = s.reg q i1 j1 := (rfl)
@[simp] theorem State.rf_pass (s : State) (n : Nat) (q : RegId) (i1 hi lo : Nat) : (s.pass n).rf q i1 hi lo = s.rf q i1 hi lo := (rfl)
@[simp] theorem State.rb_pass (s : State) (n : Nat) (q : RegId) (i1 b1 : Nat) : (s.pass n).rb q i1 b1 = s.rb q i1 b1 := (rfl)
@[simp] theorem State.rs_pass (s : State) (n : Nat) (q : RegId) (i1 : Nat) : (s.pass n).rs q i1 = s.rs q i1 := (rfl)

@[simp] theorem State.reg_emit (s : State) (x : Out) (q : RegId) (i1 j1 : Nat) : (s.emit x).reg q i1 j1 = s.reg q i1 j1 := (rfl)
@[simp] theorem State.rf_emit (s : State) (x : Out) (q : RegId) (i1 hi lo : Nat) : (s.emit x).rf q i1 hi lo = s.rf q i1 hi lo := (rfl)
@[simp] theorem State.rb_emit (s : State) (x : Out) (q : RegId) (i1 b1 : Nat) : (s.emit x).rb q i1 b1 = s.rb q i1 b1 := (rfl)
@[simp] theorem State.rs_emit (s : State) (x : Out) (q : RegId) (i1 : Nat) : (s.emit x).rs q i1 = s.rs q i1 := (rfl)
@[simp] theorem State.lt_emit (s : State) (x : Out) : (s.emit x).lt = s.lt := (rfl)
@[simp] theorem State.tt_emit (s : State) (x : Out) : (s.emit x).tt = s.tt := (rfl)

@[simp] theorem State.reg_count (s : State) (i n : Nat) (q : RegId) (i1 j1 : Nat) : (s.count i n).reg q i1 j1 = s.reg q i1 j1 := (rfl)
@[simp] theorem State.rf_count (s : State) (i n : Nat) (q : RegId) (i1 hi lo : Nat) : (s.count i n).rf q i1 hi lo = s.rf q i1 hi lo := (rfl)
@[simp] theorem State.rb_count (s : State) (i n : Nat) (q : RegId) (i1 b1 : Nat) : (s.count i n).rb q i1 b1 = s.rb q i1 b1 := (rfl)
@[simp] theorem State.rs_count (s : State) (i n : Nat) (q : RegId) (i1 : Nat) : (s.count i n).rs q i1 = s.rs q i1 := (rfl)
@[simp] theorem State.lt_count (s : State) (i n : Nat) : (s.count i n).lt = s.lt := (rfl)
@[simp] theorem State.tt_count (s : State) (i n : Nat) : (s.count i n).tt = s.tt := (rfl)

@[simp] theorem State.lt_setReg (s : State) (r : RegId) (i k : Nat) (v : Word) : (s.setReg r i k v).lt = s.lt := (rfl)
@[simp] theorem State.tt_setReg (s : State) (r : RegId) (i k : Nat) (v : Word) : (s.setReg r i k v).tt = s.tt := (rfl)

@[simp] theorem State.reg_setMem (s : State) (a : Nat) (bs : List Byte) (q : RegId) (i1 j1 : Nat) : (s.setMem a bs).reg q i1 j1 = s.reg q i1 j1 := (rfl)
@[simp] theorem State.rf_setMem (s : State) (a : Nat) (bs : List Byte) (q : RegId) (i1 hi lo : Nat) : (s.setMem a bs).rf q i1 hi lo = s.rf q i1 hi lo := (rfl)
@[simp] theorem State.rb_setMem (s : State) (a : Nat) (bs : List Byte) (q : RegId) (i1 b1 : Nat) : (s.setMem a bs).rb q i1 b1 = s.rb q i1 b1 := (rfl)
@[simp] theorem State.rs_setMem (s : State) (a : Nat) (bs : List Byte) (q : RegId) (i1 : Nat) : (s.setMem a bs).rs q i1 = s.rs q i1 := (rfl)
@[simp] theorem State.lt_setMem (s : State) (a : Nat) (bs : List Byte) : (s.setMem a bs).lt = s.lt := (rfl)
@[simp] theorem State.tt_setMem (s : State) (a : Nat) (bs : List Byte) : (s.setMem a bs).tt = s.tt := (rfl)

@[simp] theorem State.reg_setMemByte (s : State) (a : Nat) (x : Byte) (q : RegId) (i1 j1 : Nat) : (s.setMemByte a x).reg q i1 j1 = s.reg q i1 j1 := (rfl)
@[simp] theorem State.rf_setMemByte (s : State) (a : Nat) (x : Byte) (q : RegId) (i1 hi lo : Nat) : (s.setMemByte a x).rf q i1 hi lo = s.rf q i1 hi lo := (rfl)
@[simp] theorem State.rb_setMemByte (s : State) (a : Nat) (x : Byte) (q : RegId) (i1 b1 : Nat) : (s.setMemByte a x).rb q i1 b1 = s.rb q i1 b1 := (rfl)
@[simp] theorem State.rs_setMemByte (s : State) (a : Nat) (x : Byte) (q : RegId) (i1 : Nat) : (s.setMemByte a x).rs q i1 = s.rs q i1 := (rfl)
@[simp] theorem State.lt_setMemByte (s : State) (a : Nat) (x : Byte) : (s.setMemByte a x).lt = s.lt := (rfl)
@[simp] theorem State.tt_setMemByte (s : State) (a : Nat) (x : Byte) : (s.setMemByte a x).tt = s.tt := (rfl)

@[simp] theorem State.reg_setFlash (s : State) (a : Nat) (bs : List Byte) (q : RegId) (i1 j1 : Nat) : (s.setFlash a bs).reg q i1 j1 = s.reg q i1 j1 := (rfl)
@[simp] theorem State.rf_setFlash (s : State) (a : Nat) (bs : List Byte) (q : RegId) (i1 hi lo : Nat) : (s.setFlash a bs).rf q i1 hi lo = s.rf q i1 hi lo := (rfl)
@[simp] theorem State.rb_setFlash (s : State) (a : Nat) (bs : List Byte) (q : RegId) (i1 b1 : Nat) : (s.setFlash a bs).rb q i1 b1 = s.rb q i1 b1 := (rfl)
@[simp] theorem State.rs_setFlash (s : State) (a : Nat) (bs : List Byte) (q : RegId) (i1 : Nat) : (s.setFlash a bs).rs q i1 = s.rs q i1 := (rfl)
@[simp] theorem State.lt_setFlash (s : State) (a : Nat) (bs : List Byte) : (s.setFlash a bs).lt = s.lt := (rfl)
@[simp] theorem State.tt_setFlash (s : State) (a : Nat) (bs : List Byte) : (s.setFlash a bs).tt = s.tt := (rfl)

@[simp] theorem State.reg_passTo (s : State) (t : Ticks) (q : RegId) (i1 j1 : Nat) : (s.passTo t).reg q i1 j1 = s.reg q i1 j1 := by
  simp only [State.reg, State.passTo_regs]
@[simp] theorem State.rf_passTo (s : State) (t : Ticks) (q : RegId) (i1 hi lo : Nat) : (s.passTo t).rf q i1 hi lo = s.rf q i1 hi lo := by
  simp only [State.rf, State.reg_passTo]
@[simp] theorem State.rb_passTo (s : State) (t : Ticks) (q : RegId) (i1 b1 : Nat) : (s.passTo t).rb q i1 b1 = s.rb q i1 b1 := by
  simp only [State.rb, State.reg_passTo]
@[simp] theorem State.rs_passTo (s : State) (t : Ticks) (q : RegId) (i1 : Nat) : (s.passTo t).rs q i1 = s.rs q i1 := by
  simp only [State.rs, State.reg_passTo]

@[simp] theorem State.reg_raise (s : State) (code inst : Nat) (vals : List Byte) (q : RegId) (i1 j1 : Nat) : (s.raise code inst vals).reg q i1 j1 = s.reg q i1 j1 := by
  simp only [State.reg, State.raise_regs]
@[simp] theorem State.rf_raise (s : State) (code inst : Nat) (vals : List Byte) (q : RegId) (i1 hi lo : Nat) : (s.raise code inst vals).rf q i1 hi lo = s.rf q i1 hi lo := by
  simp only [State.rf, State.reg_raise]
@[simp] theorem State.rb_raise (s : State) (code inst : Nat) (vals : List Byte) (q : RegId) (i1 b1 : Nat) : (s.raise code inst vals).rb q i1 b1 = s.rb q i1 b1 := by
  simp only [State.rb, State.reg_raise]
@[simp] theorem State.rs_raise (s : State) (code inst : Nat) (vals : List Byte) (q : RegId) (i1 : Nat) : (s.raise code inst vals).rs q i1 = s.rs q i1 := by
  simp only [State.rs, State.reg_raise]
@[simp] theorem State.lt_raise (s : State) (code inst : Nat) (vals : List Byte) : (s.raise code inst vals).lt = s.lt := by
  simp only [State.lt, State.raise_time]
@[simp] theorem State.tt_raise (s : State) (code inst : Nat) (vals : List Byte) : (s.raise code inst vals).tt = s.tt := by
  simp only [State.tt, State.raise_time]

@[simp] theorem State.reg_raiseBody (s : State) (code : Nat) (body : List Byte) (q : RegId) (i1 j1 : Nat) : (s.raiseBody code body).reg q i1 j1 = s.reg q i1 j1 := by
  simp only [State.reg, State.raiseBody_regs]
@[simp] theorem State.rf_raiseBody (s : State) (code : Nat) (body : List Byte) (q : RegId) (i1 hi lo : Nat) : (s.raiseBody code body).rf q i1 hi lo = s.rf q i1 hi lo := by
  simp only [State.rf, State.reg_raiseBody]
@[simp] theorem State.rb_raiseBody (s : State) (code : Nat) (body : List Byte) (q : RegId) (i1 b1 : Nat) : (s.raiseBody code body).rb q i1 b1 = s.rb q i1 b1 := by
  simp only [State.rb, State.reg_raiseBody]
@[simp] theorem State.rs_raiseBody (s : State) (code : Nat) (body : List Byte) (q : RegId) (i1 : Nat) : (s.raiseBody code body).rs q i1 = s.rs q i1 := by
  simp only [State.rs, State.reg_raiseBody]
@[simp] theorem State.lt_raiseBody (s : State) (code : Nat) (body : List Byte) : (s.raiseBody code body).lt = s.lt := by
  simp only [State.lt, State.raiseBody_time]
@[simp] theorem State.tt_raiseBody (s : State) (code : Nat) (body : List Byte) : (s.raiseBody code body).tt = s.tt := by
  simp only [State.tt, State.raiseBody_time]

@[simp] theorem State.reg_raiseRated (s : State) (code inst cause : Nat) (vals : List Byte) (q : RegId) (i1 j1 : Nat) : (s.raiseRated code inst cause vals).reg q i1 j1 = s.reg q i1 j1 := by
  simp only [State.reg, State.raiseRated_regs]
@[simp] theorem State.rf_raiseRated (s : State) (code inst cause : Nat) (vals : List Byte) (q : RegId) (i1 hi lo : Nat) : (s.raiseRated code inst cause vals).rf q i1 hi lo = s.rf q i1 hi lo := by
  simp only [State.rf, State.reg_raiseRated]
@[simp] theorem State.rb_raiseRated (s : State) (code inst cause : Nat) (vals : List Byte) (q : RegId) (i1 b1 : Nat) : (s.raiseRated code inst cause vals).rb q i1 b1 = s.rb q i1 b1 := by
  simp only [State.rb, State.reg_raiseRated]
@[simp] theorem State.rs_raiseRated (s : State) (code inst cause : Nat) (vals : List Byte) (q : RegId) (i1 : Nat) : (s.raiseRated code inst cause vals).rs q i1 = s.rs q i1 := by
  simp only [State.rs, State.reg_raiseRated]
@[simp] theorem State.lt_raiseRated (s : State) (code inst cause : Nat) (vals : List Byte) : (s.raiseRated code inst cause vals).lt = s.lt := by
  simp only [State.lt, State.raiseRated_time]
@[simp] theorem State.tt_raiseRated (s : State) (code inst cause : Nat) (vals : List Byte) : (s.raiseRated code inst cause vals).tt = s.tt := by
  simp only [State.tt, State.raiseRated_time]

end Sys2Proof.Machine
end

