-- ==== Sys2Proof/Laws/Bus.lean ====
section
/-!
SUPPORT. Sys2Proof/Laws/Bus.lean: what an access to a register that has a row of its own does: the register it decodes to, its effect where
the write is accepted, and its frame.
-/
set_option Elab.async false
namespace Sys2Proof.Machine
open Sys2Proof

/-- What the table of registers says of instance `i` of `r`: where its address lies, outside the parameters that the watch of R313 looks at, and
in which domain. -/
def placedAt (r : RegId) (i : Nat) (d : Option Nat) : Bool :=
  let a := regAddr r i 0
  decide (0x02000000 ≤ a) && (match blockRanges.find? (fun r => decide (r.1 ≤ a ∧ a ≤ r.2.1)) with
    | some e => decide (blockDomain e.2.2 (a - e.1) = d)
    | none => false) && decide (a < 0x40180000 ∨ 0x40180400 ≤ a) && decide (findReg a = some (r, i, 0))

/-- The watch of R313 looks at no register outside its parameters. -/
theorem State.paramWritten_placedAt (s : State) {r : RegId} {i : Nat} {d : Option Nat} (h : placedAt r i d = true) (v : Word) :
    s.paramWritten (regAddr r i 0) v = s := by
  unfold placedAt at h
  simp only [Bool.and_eq_true, decide_eq_true_eq] at h
  obtain ⟨⟨-, h⟩, -⟩ := h
  unfold State.paramWritten
  rw [if_neg (by omega)]

theorem State.decode_placedAt (s : State) (r : RegId) (i : Nat) (d : Option Nat) (h : placedAt r i d = true) (hd : s.domainOn d = true) :
    s.decode (regAddr r i 0) = .reg r i 0 := by
  unfold placedAt at h
  simp only [Bool.and_eq_true, decide_eq_true_eq] at h
  obtain ⟨⟨⟨h1, h2⟩, -⟩, h3⟩ := h
  unfold State.decode
  rw [if_neg (by omega), if_neg (by omega), if_neg (by omega)]
  split at h2
  · rename_i e he
    simp only [decide_eq_true_eq] at h2
    rw [he]
    dsimp only
    rw [h2, hd, h3]
    rfl
  · cases h2

theorem State.putReg_effect (s : State) (m : Nat) (r : RegId) (i : Nat) (v : Word) (d : Option Nat) (h : placedAt r i d = true) (hd : s.domainOn d = true)
    (hm : s.mayAccess m false = true) (ha : (desc r).access ≠ .ro) (hl : (desc r).access = .rwl → s.locked = false) (ht : r ≠ .obsTblData)
    (hw : writeOk r i 0 v = true) : s.putReg m r i v = s.effect r i 0 v := by
  unfold State.putReg
  rw [when_of hm]
  unfold State.writeWord State.writeCause
  simp only [State.decode_placedAt s r i d h hd]
  have e : ¬((desc r).access = .rwl ∧ s.locked = true) := fun x => by rw [hl x.1] at x; exact absurd x.2 (by decide)
  have e2 : ¬(r = .obsTblData ∧ 2 ≤ (s.ob i).tblSel) := fun x => ht x.1
  rw [if_neg ha, if_neg e, if_neg e2, if_neg (by simp [hw])]
  simp [ha, State.paramWritten_placedAt _ h]

theorem State.getReg_eq (s : State) (m : Nat) (r : RegId) (i : Nat) (d : Option Nat) (h : placedAt r i d = true) (hd : s.domainOn d = true)
    (hm : s.mayAccess m true = true) : s.getReg m r i = (s.readEffect r i).emit (.readWord (regAddr r i 0) (s.readVal r i 0).toNat) := by
  unfold State.getReg State.busRead
  rw [when_of hm]
  unfold State.readWord
  rw [State.decode_placedAt s r i d h hd]

theorem obsCmd_at : ∀ i : Fin 64, placedAt .obsCmd i (some (if i.val < 32 then 2 else 3)) = true := by decide +kernel
theorem obsTblData_at : ∀ i : Fin 64, placedAt .obsTblData i (some (if i.val < 32 then 2 else 3)) = true := by decide +kernel
theorem axisSegCtrl_at : ∀ i : Fin 64, placedAt .axisSegCtrl i (some (if i.val < 32 then 2 else 3)) = true := by decide +kernel
theorem axisCmd_at : ∀ i : Fin 64, placedAt .axisCmd i (some (if i.val < 32 then 2 else 3)) = true := by decide +kernel
theorem fbCfg_at : ∀ i : Fin 64, placedAt .fbCfg i (some (if i.val < 32 then 2 else 3)) = true := by decide +kernel
theorem fbPset_at : ∀ i : Fin 64, placedAt .fbPset i (some (if i.val < 32 then 2 else 3)) = true := by decide +kernel
theorem fbPos_at : ∀ i : Fin 64, placedAt .fbPos i (some (if i.val < 32 then 2 else 3)) = true := by decide +kernel
theorem fbPrbPos_at : ∀ i : Fin 64, placedAt .fbPrbPos i (some (if i.val < 32 then 2 else 3)) = true := by decide +kernel
theorem fbCmpPos_at : ∀ i : Fin 64, placedAt .fbCmpPos i (some (if i.val < 32 then 2 else 3)) = true := by decide +kernel
theorem fbCmpCfg_at : ∀ i : Fin 64, placedAt .fbCmpCfg i (some (if i.val < 32 then 2 else 3)) = true := by decide +kernel
theorem fbEvt_at : ∀ i : Fin 64, placedAt .fbEvt i (some (if i.val < 32 then 2 else 3)) = true := by decide +kernel
theorem dlkCmd_at : ∀ i : Fin 8, placedAt .dlkCmd i (some 5) = true := by decide +kernel
theorem fldCmd_at : ∀ i : Fin 8, placedAt .fldCmd i (some (12 + i / 2)) = true := by decide +kernel
theorem lswCmd_at : ∀ i : Fin 32, placedAt .lswCmd i (some (12 + i / 8)) = true := by decide +kernel
theorem lswBcmd_at : ∀ i : Fin 4, placedAt .lswBcmd i (some (12 + i)) = true := by decide +kernel
theorem portalCycLo_at : ∀ i : Fin 16, placedAt .portalCycLo i (some 0) = true := by decide +kernel
theorem secCntLo_at : ∀ i : Fin 16, placedAt .secCntLo i (some 1) = true := by decide +kernel
theorem sysCmd_at : placedAt .sysCmd 0 none = true := by decide +kernel
theorem sysPwrCmd_at : placedAt .sysPwrCmd 0 none = true := by decide +kernel
theorem ilkCmd_at : placedAt .ilkCmd 0 none = true := by decide +kernel
theorem ilkLogIdx_at : placedAt .ilkLogIdx 0 none = true := by decide +kernel
theorem timeCmd_at : placedAt .timeCmd 0 none = true := by decide +kernel
theorem timeTtLo_at : placedAt .timeTtLo 0 none = true := by decide +kernel
theorem stlCmd_at : placedAt .stlCmd 0 (some 6) = true := by decide +kernel
theorem twinCmd_at : placedAt .twinCmd 0 (some 10) = true := by decide +kernel
theorem recCmd_at : placedAt .recCmd 0 (some 9) = true := by decide +kernel
theorem recRwCmd_at : placedAt .recRwCmd 0 (some 9) = true := by decide +kernel
theorem recNextLo_at : placedAt .recNextLo 0 (some 9) = true := by decide +kernel
theorem recOldestLo_at : placedAt .recOldestLo 0 (some 9) = true := by decide +kernel
theorem cntValLo_at : placedAt .cntValLo 0 (some 0) = true := by decide +kernel
theorem cntSweepTtLo_at : placedAt .cntSweepTtLo 0 (some 0) = true := by decide +kernel
theorem cntCmd_at : placedAt .cntCmd 0 (some 0) = true := by decide +kernel
theorem cntSmpPos_at : placedAt .cntSmpPos 0 (some 0) = true := by decide +kernel
theorem nvmCmd_at : placedAt .nvmCmd 0 (some 11) = true := by decide +kernel

/-- A register whose instances all lie below `lo`, or at `hi` and above. -/
def liesOutside (lo hi : Nat) (r : RegId) : Bool := 
  decide ((desc r).addr + ((desc r).n1 - 1) * (desc r).s1 + ((desc r).n2 - 1) * (desc r).s2 < lo ∨ hi ≤ (desc r).addr)

theorem regAt_outside {lo hi a : Nat} {r : RegId} (h : liesOutside lo hi r = true) (h1 : lo ≤ a) (h2 : a < hi) : regAt a r = none := by
  unfold liesOutside at h
  rw [decide_eq_true_eq] at h
  unfold regAt
  dsimp only
  split
  · rfl
  · rename_i q
    rw [if_neg]
    rintro ⟨k1, k2, k3⟩
    have e1 := Nat.div_add_mod (a - (desc r).addr) (desc r).s1
    have e2 := Nat.div_add_mod ((a - (desc r).addr) % (desc r).s1) (desc r).s2
    have m1 : (desc r).s1 * ((a - (desc r).addr) / (desc r).s1) ≤ ((desc r).n1 - 1) * (desc r).s1 := by
      rw [Nat.mul_comm]
      exact Nat.mul_le_mul_right _ (by omega)
    have m2 : (desc r).s2 * ((a - (desc r).addr) % (desc r).s1 / (desc r).s2) ≤ ((desc r).n2 - 1) * (desc r).s2 := by
      rw [Nat.mul_comm]
      exact Nat.mul_le_mul_right _ (by omega)
    omega

theorem findSome_skip {α β : Type} {f : α → Option β} : ∀ (l m : List α), (∀ x ∈ l, f x = none) → (l ++ m).findSome? f = m.findSome? f
  | [], _, _ => rfl
  | x :: l, m, h => by
    rw [List.cons_append, List.findSome?_cons, h x (List.mem_cons_self ..)]
    exact findSome_skip l m (fun y hy => h y (List.mem_cons_of_mem _ hy))

theorem cntSnapLo_desc : (desc .cntSnapLo).addr = 0x40260400 ∧ (desc .cntSnapLo).n1 = 320 ∧ (desc .cntSnapLo).s1 = 8 ∧ (desc .cntSnapLo).n2 = 1 ∧
    (desc .cntSnapLo).s2 = 0x100000 := by decide +kernel

theorem allRegs_split : allRegs = allRegs.takeWhile (fun r => r != RegId.cntSnapLo) ++
    RegId.cntSnapLo :: (allRegs.dropWhile (fun r => r != RegId.cntSnapLo)).tail := by decide +kernel

theorem before_cntSnapLo : ∀ r ∈ allRegs.takeWhile (fun r => r != RegId.cntSnapLo), liesOutside 0x40260400 0x40260E00 r = true := by decide +kernel

theorem cntSnapLo_addr (i : Fin 320) : regAddr .cntSnapLo i 0 = 0x40260400 + i * 8 := by
  obtain ⟨h1, -, h3, -, -⟩ := cntSnapLo_desc
  unfold regAddr
  rw [h1, h3]
  omega

theorem cntSnapLo_regAt (i : Fin 320) : regAt (0x40260400 + i * 8) .cntSnapLo = some (.cntSnapLo, i.val, 0) := by
  obtain ⟨h1, h2, h3, h4, h5⟩ := cntSnapLo_desc
  have hi := i.isLt
  unfold regAt
  dsimp only
  rw [h1, h2, h3, h4, h5, if_neg (by omega), if_pos (by omega)]
  simp only [Option.some.injEq, Prod.mk.injEq, true_and]
  omega

theorem cntSnapLo_find (i : Fin 320) : findReg (0x40260400 + i * 8) = some (.cntSnapLo, i.val, 0) := by
  have hi := i.isLt
  unfold findReg
  rw [allRegs_split, findSome_skip _ _ (fun r hr => regAt_outside (before_cntSnapLo r hr) (by omega) (by omega)), List.findSome?_cons,
    cntSnapLo_regAt]

theorem cntSnapLo_at : ∀ i : Fin 320, placedAt RegId.cntSnapLo i (some 0) = true := by
  intro i
  have hi := i.isLt
  have hb : ∀ i : Fin 320, (decide (0x02000000 ≤ 0x40260400 + i.val * 8) &&
      (match blockRanges.find? (fun r => decide (r.1 ≤ 0x40260400 + i.val * 8 ∧ 0x40260400 + i.val * 8 ≤ r.2.1)) with
      | some e => decide (blockDomain e.2.2 (0x40260400 + i.val * 8 - e.1) = some 0)
      | none => false) && decide (0x40260400 + i.val * 8 < 0x40180000 ∨ 0x40180400 ≤ 0x40260400 + i.val * 8)) = true := by decide +kernel
  unfold placedAt
  rw [cntSnapLo_addr]
  dsimp only
  rw [hb i, cntSnapLo_find]
  simp

/-- The address of a register decodes to it, or to nothing where its domain is off. -/
theorem State.decode_cases (s : State) (r : RegId) (i : Nat) (d : Option Nat) (h : placedAt r i d = true) :
    s.decode (regAddr r i 0) = .reg r i 0 ∨ s.decode (regAddr r i 0) = .undecoded := by
  cases hd : s.domainOn d
  · right
    unfold placedAt at h
    simp only [Bool.and_eq_true, decide_eq_true_eq] at h
    obtain ⟨⟨⟨h1, h2⟩, -⟩, h3⟩ := h
    unfold State.decode
    rw [if_neg (by omega), if_neg (by omega), if_neg (by omega)]
    split at h2
    · rename_i e he
      simp only [decide_eq_true_eq] at h2
      rw [he]
      dsimp only
      rw [h2, hd]
      rfl
    · cases h2
  · exact Or.inl (s.decode_placedAt r i d h hd)

/-- The frame of a register write that has a row: what a discarded access writes, and the register's effect. -/
theorem State.putReg_keep {w : Nat} {b s : State} {m : Nat} {r : RegId} {i : Nat} {v : Word} {d : Option Nat} (hp : placedAt r i d = true)
    (hw : Part.within (Part.sys ||| Part.rcd ||| Part.cnt) w = true) (hr : r ≠ .obsTblData ∨ Part.within Part.obs w = true)
    (he : ∀ x, Frame w b x → Frame w b (x.effect r i 0 v)) (h : Frame w b s) : Frame w b (s.putReg m r i v) := by
  unfold State.putReg
  refine when_frame (fun x hx => ?_) h
  unfold State.writeWord
  have k : ∀ c, Frame w b (State.discard x (regAddr r i 0) c m false) := fun c => State.discard_frame hw hx
  rcases x.decode_cases r i d hp with e | e
  · rw [e]
    dsimp only
    split
    · split
      · rename_i q
        cases q
        refine State.discard_frame hw (State.tblNext_frame ?_ hx)
        rcases hr with hr | hr
        · exact absurd rfl hr
        · exact hr
      · exact k _
    · split
      · exact hx
      · rw [State.paramWritten_placedAt _ hp]
        exact he _ hx
  · rw [e]
    dsimp only
    split
    · exact k _
    · exact hx

/-- The frame of a register read that has a row. -/
theorem State.getReg_keep {w : Nat} {b s : State} {m : Nat} {r : RegId} {i : Nat} {d : Option Nat} (hp : placedAt r i d = true)
    (hw : Part.within (Part.sys ||| Part.rcd ||| Part.cnt ||| Part.outs) w = true) (he : ∀ x, Frame w b x → Frame w b (x.readEffect r i))
    (h : Frame w b s) : Frame w b (s.getReg m r i) := by
  unfold State.getReg State.busRead
  refine when_frame (fun x hx => ?_) h
  dsimp only
  refine State.emit_frame (Part.within_trans (by decide) hw) ?_
  unfold State.readWord
  rcases x.decode_cases r i d hp with e | e
  · rw [e]
    exact he _ hx
  · rw [e]
    exact State.discard_frame (Part.within_trans (by decide) hw) hx

end Sys2Proof.Machine
end

