-- ==== Sys2Proof/Laws/Commands.lean ====
section
/-!
SUPPORT. Sys2Proof/Laws/Commands.lean: a command's next state is framed by what frames the operation it runs.
-/
set_option Elab.async false
namespace Sys2Proof.Machine
open Sys2Proof

theorem run_keep {w : Nat} {s t : State} {f : State → State} (ho : Part.within Part.outs w = true) (h : run s f = .next t)
    (hf : ∀ x, Frame w s x → Frame w s (f x)) : Frame w s t := by
  cases h
  exact hf _ (Frame.set_outs ho (Frame.refl w s))

theorem runSeq_keep {w : Nat} {s t : State} {f : State → State} (ho : Part.within Part.outs w = true) (h : runSeq s f = .next t)
    (hf : ∀ x, Frame w s x → Frame w s (f x)) : Frame w s t :=
  run_keep ho h (fun _ hx => when_frame (fun y hy => hf y hy) hx)

end Sys2Proof.Machine
end

