-- ==== Sys2Proof/Laws/CommandsBus.lean ====
section
/-!
SUPPORT. Sys2Proof/Laws/CommandsBus.lean: the frame of each command of Machine/Bus.lean.
-/
set_option Elab.async false
namespace Sys2Proof.Machine
open Sys2Proof

theorem frame_sysCmdReset (m : Fin 6) (s u : State) (h : exec (.sysCmdReset m) s = .next u) :
    Frame Part.device s u := by
  have h : run s (fun s => s.putReg m .sysCmd 0 0x52E50001) = .next u := h
  refine run_keep (by decide) h (fun x hx => ?_)
  refine State.putReg_keep sysCmd_at (by decide) (Or.inl (by decide)) (fun y hy => ?_) hx
  unfold State.effect
  dsimp only
  rw [if_pos (by decide)]
  repeat' first
    | with_reducible assumption | (with_reducible show Part.within _ _ = true; decide) | with_reducible refine Frame.ite ?_ ?_
    | with_reducible refine when_frame (fun _ _ => ?_) ?_ | with_reducible refine State.resetNow_frame ?_ ?_
    | with_reducible refine Frame.set_sys ?_ ?_ ?_ ?_ ?_ | exact Nat.le_refl _ | exact fun _ k => k | exact fun _ => rfl
    | exact fun _ _ => rfl | exact id | exact List.prefix_refl _ | exact fun _ => ⟨rfl, rfl⟩ | exact fun _ => Or.inl ⟨rfl, rfl, rfl⟩
    | exact fun _ => ⟨rfl, rfl, rfl⟩ | exact fun k => Part.out_absurd (by decide : Part.within _ _ = true) (by decide) k | split
    | (lift_lets; intros)

theorem frame_sysCmdWdog (m : Fin 6) (s u : State) (h : exec (.sysCmdWdog m) s = .next u) :
    Frame (Part.record ||| Part.sys) s u := by
  have h : run s (fun s => s.putReg m .sysCmd 0 2) = .next u := h
  refine run_keep (by decide) h (fun x hx => ?_)
  refine State.putReg_keep sysCmd_at (by decide) (Or.inl (by decide)) (fun y hy => ?_) hx
  unfold State.effect
  dsimp only
  rw [if_neg (by decide)]
  repeat' first
    | with_reducible assumption | (with_reducible show Part.within _ _ = true; decide) | with_reducible refine Frame.ite ?_ ?_
    | with_reducible refine when_frame (fun _ _ => ?_) ?_ | with_reducible refine Frame.set_sys ?_ ?_ ?_ ?_ ?_ | exact Nat.le_refl _
    | exact fun _ k => k | exact fun _ => rfl | exact fun _ _ => rfl | exact id | exact List.prefix_refl _ | exact fun _ => ⟨rfl, rfl⟩
    | exact fun _ => Or.inl ⟨rfl, rfl, rfl⟩ | exact fun _ => ⟨rfl, rfl, rfl⟩
    | exact fun k => Part.out_absurd (by decide : Part.within _ _ = true) (by decide) k | split | (lift_lets; intros)

theorem frame_portalReferenceStart (p : Fin 16) (s u : State) (h : exec (.portalReferenceStart p) s = .next u) :
    Frame (Part.record ||| Part.sys ||| Part.seq ||| Part.portals ||| Part.obs ||| Part.axes ||| Part.loads ||| Part.twin |||
      Part.mem ||| Part.free ||| Part.states) s u := by
  have h : run s (fun s => s.referenceStart p) = .next u := h
  refine run_keep (by decide) h (fun x hx => ?_)
  repeat' first
    | with_reducible assumption | (with_reducible show Part.within _ _ = true; decide)
    | with_reducible refine State.referenceStart_frame ?_ ?_

theorem frame_unmappedAccess (addr : Word) (read : Bool) (master : Fin 6) (s u : State) (h : exec (.unmappedAccess addr read master) s = .next u) :
    Frame (Part.record ||| Part.sys) s u := by
  have h : run s (fun s => when_ (s.decode addr.toNat == .undecoded) (fun s =>
        if read then s.busRead addr.toNat master else when_ (s.mayAccess master false) (fun s => (s.writeWord addr.toNat 0 master).1) s) s) = .next u := h
  refine run_keep (by decide) h (fun x hx => ?_)
  cases e : x.decode addr.toNat == .undecoded
  · exact hx
  · have e : x.decode addr.toNat = .undecoded := eq_of_beq e
    have hd : ∀ y c r, Frame (Part.record ||| Part.sys) s y → Frame (Part.record ||| Part.sys) s (State.discard y addr.toNat c master r) :=
      fun y c r hy => State.discard_frame (by decide) hy
    show Frame (Part.record ||| Part.sys) s (if read then x.busRead addr.toNat master
      else when_ (x.mayAccess master false) (fun s => (s.writeWord addr.toNat 0 master).1) x)
    refine Frame.ite ?_ ?_
    · unfold State.busRead
      refine (show ∀ c, Frame (Part.record ||| Part.sys) s (when_ c _ x) from fun c => ?_) _
      cases c
      · exact hx
      · show Frame _ s (State.emit _ _)
        refine State.emit_frame (by decide) ?_
        unfold State.readWord
        rw [e]
        exact hd _ _ _ hx
    · refine (show ∀ c, Frame (Part.record ||| Part.sys) s (when_ c _ x) from fun c => ?_) _
      cases c
      · exact hx
      · show Frame _ s (State.writeWord x addr.toNat 0 master).1
        unfold State.writeWord State.writeCause
        rw [e]
        exact hd _ _ _ hx

theorem frame_commission (n : Fin 64) (m : Fin 6) (s u : State) (h : exec (.commission n m) s = .next u) :
    Frame (Part.record ||| Part.sys ||| Part.obs) s u := by
  have h : run s (fun s => s.putReg m .obsCmd n 1) = .next u := h
  refine run_keep (by decide) h (fun x hx => ?_)
  refine State.putReg_keep (obsCmd_at n) (by decide) (Or.inl (by decide)) (fun y hy => ?_) hx
  unfold State.effect
  dsimp only
  unfold State.effField
  dsimp only
  unfold State.effMotion
  dsimp only
  rw [if_pos (by decide)]
  repeat' first
    | with_reducible assumption | (with_reducible show Part.within _ _ = true; decide) | with_reducible refine Frame.ite ?_ ?_
    | with_reducible refine when_frame (fun _ _ => ?_) ?_ | with_reducible refine State.commission_frame ?_ ?_ | exact Nat.le_refl _
    | exact fun _ k => k | exact fun _ => rfl | exact fun _ _ => rfl | exact id | exact List.prefix_refl _ | exact fun _ => ⟨rfl, rfl⟩
    | exact fun _ => Or.inl ⟨rfl, rfl, rfl⟩ | exact fun _ => ⟨rfl, rfl, rfl⟩
    | exact fun k => Part.out_absurd (by decide : Part.within _ _ = true) (by decide) k | split | (lift_lets; intros)

theorem frame_inject (n : Fin 64) (value : Word) (m : Fin 6) (s u : State) (h : exec (.inject n value m) s = .next u) :
    Frame (Part.record ||| Part.sys ||| Part.obs) s u := by
  have h : run s (fun s => s.putReg m .obsCmd n (setFld value 2 0 2)) = .next u := h
  refine run_keep (by decide) h (fun x hx => ?_)
  refine State.putReg_keep (obsCmd_at n) (by decide) (Or.inl (by decide)) (fun y hy => ?_) hx
  unfold State.effect
  dsimp only
  unfold State.effField
  dsimp only
  unfold State.effMotion
  dsimp only
  repeat' first
    | with_reducible assumption | (with_reducible show Part.within _ _ = true; decide) | with_reducible refine Frame.ite ?_ ?_
    | with_reducible refine when_frame (fun _ _ => ?_) ?_ | with_reducible refine State.inject_frame ?_ ?_
    | with_reducible refine State.commission_frame ?_ ?_ | exact Nat.le_refl _ | exact fun _ k => k | exact fun _ => rfl
    | exact fun _ _ => rfl | exact id | exact List.prefix_refl _ | exact fun _ => ⟨rfl, rfl⟩ | exact fun _ => Or.inl ⟨rfl, rfl, rfl⟩
    | exact fun _ => ⟨rfl, rfl, rfl⟩ | exact fun k => Part.out_absurd (by decide : Part.within _ _ = true) (by decide) k | split
    | (lift_lets; intros)

theorem frame_obsTblDataAccess (n : Fin 64) (value : Option Word) (m : Fin 6) (s u : State) (h : exec (.obsTblDataAccess n value m) s = .next u) :
    Frame (Part.record ||| Part.sys ||| Part.obs) s u := by
  cases value with
  | some v =>
    have h : run s (fun s => s.putReg m .obsTblData n v) = .next u := h
    refine run_keep (by decide) h (fun x hx => State.putReg_keep (obsTblData_at n) (by decide) (Or.inr (by decide)) (fun y hy => ?_) hx)
    exact State.tblNext_frame (by decide) (State.writeEntry_frame (by decide) hy)
  | none =>
    have h : run s (fun s => s.getReg m .obsTblData n) = .next u := h
    exact run_keep (by decide) h (fun x hx => State.getReg_keep (obsTblData_at n) (by decide) (fun y hy => State.tblNext_frame (by decide) hy) hx)

theorem frame_segAppend (n : Fin 64) (m : Fin 6) (s u : State) (h : exec (.segAppend n m) s = .next u) :
    Frame (Part.record ||| Part.sys ||| Part.time ||| Part.portals ||| Part.obs ||| Part.axes) s u := by
  have h : run s (fun s => s.putReg m .axisSegCtrl n 0) = .next u := h
  refine run_keep (by decide) h (fun x hx => ?_)
  refine State.putReg_keep (axisSegCtrl_at n) (by decide) (Or.inl (by decide)) (fun y hy => ?_) hx
  unfold State.effect
  dsimp only
  unfold State.effField
  dsimp only
  unfold State.effMotion
  dsimp only
  repeat' first
    | with_reducible assumption | (with_reducible show Part.within _ _ = true; decide) | with_reducible refine Frame.ite ?_ ?_
    | with_reducible refine State.afterInputs_frame ?_ ?_
    | with_reducible refine State.appendSeg_frame ?_ ?_ | with_reducible refine State.replacePush_frame ?_ ?_

theorem frame_segReplace (n : Fin 64) (m : Fin 6) (s u : State) (h : exec (.segReplace n m) s = .next u) :
    Frame (Part.record ||| Part.sys ||| Part.time ||| Part.portals ||| Part.obs ||| Part.axes) s u := by
  have h : run s (fun s => s.putReg m .axisSegCtrl n 1) = .next u := h
  refine run_keep (by decide) h (fun x hx => ?_)
  refine State.putReg_keep (axisSegCtrl_at n) (by decide) (Or.inl (by decide)) (fun y hy => ?_) hx
  unfold State.effect
  dsimp only
  unfold State.effField
  dsimp only
  unfold State.effMotion
  dsimp only
  repeat' first
    | with_reducible assumption | (with_reducible show Part.within _ _ = true; decide) | with_reducible refine Frame.ite ?_ ?_
    | with_reducible refine State.afterInputs_frame ?_ ?_
    | with_reducible refine State.appendSeg_frame ?_ ?_ | with_reducible refine State.replacePush_frame ?_ ?_

theorem frame_axisStop (n : Fin 64) (emg : Bool) (m : Fin 6) (s u : State) (h : exec (.axisStop n emg m) s = .next u) :
    Frame (Part.record ||| Part.sys ||| Part.time ||| Part.portals ||| Part.obs ||| Part.axes) s u := by
  have h : run s (fun s => s.putReg m .axisCmd n (BitVec.ofNat 32 (1 + 8 * b2n emg))) = .next u := h
  refine run_keep (by decide) h (fun x hx => ?_)
  refine State.putReg_keep (axisCmd_at n) (by decide) (Or.inl (by decide)) (fun y hy => ?_) hx
  unfold State.effect
  dsimp only
  unfold State.effField
  dsimp only
  unfold State.effMotion
  dsimp only
  repeat' first
    | with_reducible assumption | (with_reducible show Part.within _ _ = true; decide) | with_reducible refine Frame.ite ?_ ?_
    | with_reducible refine State.afterInputs_frame ?_ ?_
    | with_reducible refine State.stopAxis_frame ?_ ?_ | with_reducible refine State.clearChatter_frame ?_ ?_

theorem frame_axisClear (n : Fin 64) (m : Fin 6) (s u : State) (h : exec (.axisClear n m) s = .next u) :
    Frame (Part.record ||| Part.sys ||| Part.time ||| Part.portals ||| Part.obs ||| Part.axes) s u := by
  have h : run s (fun s => s.putReg m .axisCmd n 2) = .next u := h
  refine run_keep (by decide) h (fun x hx => ?_)
  refine State.putReg_keep (axisCmd_at n) (by decide) (Or.inl (by decide)) (fun y hy => ?_) hx
  unfold State.effect
  dsimp only
  unfold State.effField
  dsimp only
  unfold State.effMotion
  dsimp only
  repeat' first
    | with_reducible assumption | (with_reducible show Part.within _ _ = true; decide) | with_reducible refine Frame.ite ?_ ?_
    | with_reducible refine State.afterInputs_frame ?_ ?_
    | with_reducible refine State.stopAxis_frame ?_ ?_ | with_reducible refine State.clearChatter_frame ?_ ?_

theorem frame_fbCfgWrite (n : Fin 64) (value : Word) (m : Fin 6) (s u : State) (h : exec (.fbCfgWrite n value m) s = .next u) :
    Frame (Part.record ||| Part.sys ||| Part.fb ||| Part.regs) s u := by
  have h : run s (fun s => s.putReg m .fbCfg n value) = .next u := h
  refine run_keep (by decide) h (fun x hx => ?_)
  refine State.putReg_keep (fbCfg_at n) (by decide) (Or.inl (by decide)) (fun y hy => ?_) hx
  unfold State.effect
  dsimp only
  unfold State.effField
  dsimp only
  unfold State.effMotion
  dsimp only
  repeat' first
    | with_reducible assumption | (with_reducible show Part.within _ _ = true; decide) | with_reducible refine Frame.ite ?_ ?_
    | with_reducible refine when_frame (fun _ _ => ?_) ?_ | with_reducible refine State.setReg_frame ?_ ?_
    | with_reducible refine State.fbModeSet_frame ?_ ?_ | with_reducible refine State.modFbp_frame ?_ ?_ | exact Nat.le_refl _
    | exact fun _ k => k | exact fun _ => rfl | exact fun _ _ => rfl | exact id | exact List.prefix_refl _ | exact fun _ => ⟨rfl, rfl⟩
    | exact fun _ => Or.inl ⟨rfl, rfl, rfl⟩ | exact fun _ => ⟨rfl, rfl, rfl⟩
    | exact fun k => Part.out_absurd (by decide : Part.within _ _ = true) (by decide) k | split | (lift_lets; intros)

theorem frame_fbPset (n : Fin 64) (value : Word) (m : Fin 6) (s u : State) (h : exec (.fbPset n value m) s = .next u) :
    Frame (Part.record ||| Part.sys ||| Part.fb ||| Part.regs) s u := by
  have h : run s (fun s => s.putReg m .fbPset n value) = .next u := h
  refine run_keep (by decide) h (fun x hx => ?_)
  refine State.putReg_keep (fbPset_at n) (by decide) (Or.inl (by decide)) (fun y hy => ?_) hx
  unfold State.effect
  dsimp only
  unfold State.effField
  dsimp only
  unfold State.effMotion
  dsimp only
  repeat' first
    | with_reducible assumption | (with_reducible show Part.within _ _ = true; decide) | with_reducible refine Frame.ite ?_ ?_
    | with_reducible refine when_frame (fun _ _ => ?_) ?_ | with_reducible refine State.setReg_frame ?_ ?_
    | with_reducible refine State.fbPset_frame ?_ ?_ | exact Nat.le_refl _ | exact fun _ k => k | exact fun _ => rfl | exact fun _ _ => rfl
    | exact id | exact List.prefix_refl _ | exact fun _ => ⟨rfl, rfl⟩ | exact fun _ => Or.inl ⟨rfl, rfl, rfl⟩
    | exact fun _ => ⟨rfl, rfl, rfl⟩ | exact fun k => Part.out_absurd (by decide : Part.within _ _ = true) (by decide) k | split
    | (lift_lets; intros)

theorem frame_fbPosRead (n : Fin 64) (m : Fin 6) (s u : State) (h : exec (.fbPosRead n m) s = .next u) :
    Frame (Part.record ||| Part.sys ||| Part.fb) s u := by
  have h : run s (fun s => s.getReg m .fbPos n) = .next u := h
  refine run_keep (by decide) h (fun x hx => ?_)
  refine State.getReg_keep (fbPos_at n) (by decide) (fun y hy => ?_) hx
  unfold State.readEffect
  dsimp only
  repeat' first
    | with_reducible assumption | (with_reducible show Part.within _ _ = true; decide) | with_reducible refine State.fbPosRead_frame ?_ ?_

theorem frame_fbPrbPosRead (n : Fin 64) (m : Fin 6) (s u : State) (h : exec (.fbPrbPosRead n m) s = .next u) :
    Frame (Part.record ||| Part.sys ||| Part.fb) s u := by
  have h : run s (fun s => s.getReg m .fbPrbPos n) = .next u := h
  refine run_keep (by decide) h (fun x hx => ?_)
  refine State.getReg_keep (fbPrbPos_at n) (by decide) (fun y hy => ?_) hx
  unfold State.readEffect
  dsimp only
  repeat' first
    | with_reducible assumption | (with_reducible show Part.within _ _ = true; decide) | with_reducible refine State.fbPrbRead_frame ?_ ?_

theorem frame_fbCmpPosWrite (n : Fin 64) (value : Word) (m : Fin 6) (s u : State) (h : exec (.fbCmpPosWrite n value m) s = .next u) :
    Frame (Part.record ||| Part.sys ||| Part.fb ||| Part.regs) s u := by
  have h : run s (fun s => s.putReg m .fbCmpPos n value) = .next u := h
  refine run_keep (by decide) h (fun x hx => ?_)
  refine State.putReg_keep (fbCmpPos_at n) (by decide) (Or.inl (by decide)) (fun y hy => ?_) hx
  unfold State.effect
  dsimp only
  unfold State.effField
  dsimp only
  unfold State.effMotion
  dsimp only
  repeat' first
    | with_reducible assumption | (with_reducible show Part.within _ _ = true; decide) | with_reducible refine Frame.ite ?_ ?_
    | with_reducible refine when_frame (fun _ _ => ?_) ?_ | with_reducible refine State.setReg_frame ?_ ?_
    | with_reducible refine State.cmpPos_frame ?_ ?_ | exact Nat.le_refl _ | exact fun _ k => k | exact fun _ => rfl | exact fun _ _ => rfl
    | exact id | exact List.prefix_refl _ | exact fun _ => ⟨rfl, rfl⟩ | exact fun _ => Or.inl ⟨rfl, rfl, rfl⟩
    | exact fun _ => ⟨rfl, rfl, rfl⟩ | exact fun k => Part.out_absurd (by decide : Part.within _ _ = true) (by decide) k | split
    | (lift_lets; intros)

theorem frame_fbCmpCfgWrite (n : Fin 64) (value : Word) (m : Fin 6) (s u : State) (h : exec (.fbCmpCfgWrite n value m) s = .next u) :
    Frame (Part.record ||| Part.sys ||| Part.fb ||| Part.regs) s u := by
  have h : run s (fun s => s.putReg m .fbCmpCfg n value) = .next u := h
  refine run_keep (by decide) h (fun x hx => ?_)
  refine State.putReg_keep (fbCmpCfg_at n) (by decide) (Or.inl (by decide)) (fun y hy => ?_) hx
  unfold State.effect
  dsimp only
  unfold State.effField
  dsimp only
  unfold State.effMotion
  dsimp only
  repeat' first
    | with_reducible assumption | (with_reducible show Part.within _ _ = true; decide) | with_reducible refine Frame.ite ?_ ?_
    | with_reducible refine when_frame (fun _ _ => ?_) ?_ | with_reducible refine State.setReg_frame ?_ ?_
    | with_reducible refine State.cmpCfgWritten_frame ?_ ?_ | exact Nat.le_refl _ | exact fun _ k => k | exact fun _ => rfl
    | exact fun _ _ => rfl | exact id | exact List.prefix_refl _ | exact fun _ => ⟨rfl, rfl⟩ | exact fun _ => Or.inl ⟨rfl, rfl, rfl⟩
    | exact fun _ => ⟨rfl, rfl, rfl⟩ | exact fun k => Part.out_absurd (by decide : Part.within _ _ = true) (by decide) k | split
    | (lift_lets; intros)

theorem frame_fbEvtClear (n : Fin 64) (value : Word) (m : Fin 6) (s u : State) (h : exec (.fbEvtClear n value m) s = .next u) :
    Frame (Part.record ||| Part.sys ||| Part.fb) s u := by
  have h : run s (fun s => s.putReg m .fbEvt n value) = .next u := h
  refine run_keep (by decide) h (fun x hx => ?_)
  refine State.putReg_keep (fbEvt_at n) (by decide) (Or.inl (by decide)) (fun y hy => ?_) hx
  unfold State.effect
  dsimp only
  unfold State.effField
  dsimp only
  unfold State.effMotion
  dsimp only
  repeat' first
    | with_reducible assumption | (with_reducible show Part.within _ _ = true; decide) | with_reducible refine Frame.ite ?_ ?_
    | with_reducible refine when_frame (fun _ _ => ?_) ?_ | with_reducible refine State.modFbp_frame ?_ ?_ | exact Nat.le_refl _
    | exact fun _ k => k | exact fun _ => rfl | exact fun _ _ => rfl | exact id | exact List.prefix_refl _ | exact fun _ => ⟨rfl, rfl⟩
    | exact fun _ => Or.inl ⟨rfl, rfl, rfl⟩ | exact fun _ => ⟨rfl, rfl, rfl⟩
    | exact fun k => Part.out_absurd (by decide : Part.within _ _ = true) (by decide) k | split | (lift_lets; intros)

theorem frame_dlRestart (l : Fin 8) (m : Fin 6) (s u : State) (h : exec (.dlRestart l m) s = .next u) :
    Frame (Part.record ||| Part.sys ||| Part.links) s u := by
  have h : run s (fun s => s.putReg m .dlkCmd l 1) = .next u := h
  refine run_keep (by decide) h (fun x hx => ?_)
  refine State.putReg_keep (dlkCmd_at l) (by decide) (Or.inl (by decide)) (fun y hy => ?_) hx
  unfold State.effect
  dsimp only
  unfold State.effField
  dsimp only
  unfold State.effMotion
  dsimp only
  rw [if_pos (by decide)]
  repeat' first
    | with_reducible assumption | (with_reducible show Part.within _ _ = true; decide) | with_reducible refine Frame.ite ?_ ?_
    | with_reducible refine when_frame (fun _ _ => ?_) ?_ | with_reducible refine State.dlRestart_frame ?_ ?_ | exact Nat.le_refl _
    | exact fun _ k => k | exact fun _ => rfl | exact fun _ _ => rfl | exact id | exact List.prefix_refl _ | exact fun _ => ⟨rfl, rfl⟩
    | exact fun _ => Or.inl ⟨rfl, rfl, rfl⟩ | exact fun _ => ⟨rfl, rfl, rfl⟩
    | exact fun k => Part.out_absurd (by decide : Part.within _ _ = true) (by decide) k | split | (lift_lets; intros)

theorem frame_fldRestart (k : Fin 8) (m : Fin 6) (s u : State) (h : exec (.fldRestart k m) s = .next u) :
    Frame (Part.record ||| Part.sys ||| Part.fio) s u := by
  have h : run s (fun s => s.putReg m .fldCmd k 2) = .next u := h
  refine run_keep (by decide) h (fun x hx => ?_)
  refine State.putReg_keep (fldCmd_at k) (by decide) (Or.inl (by decide)) (fun y hy => ?_) hx
  unfold State.effect
  dsimp only
  unfold State.effField
  dsimp only
  rw [if_pos (by decide), if_neg (by decide)]
  repeat' first
    | with_reducible assumption | (with_reducible show Part.within _ _ = true; decide) | with_reducible refine Frame.ite ?_ ?_
    | with_reducible refine when_frame (fun _ _ => ?_) ?_ | with_reducible refine State.startLink_frame ?_ ?_ | exact Nat.le_refl _
    | exact fun _ k => k | exact fun _ => rfl | exact fun _ _ => rfl | exact id | exact List.prefix_refl _ | exact fun _ => ⟨rfl, rfl⟩
    | exact fun _ => Or.inl ⟨rfl, rfl, rfl⟩ | exact fun _ => ⟨rfl, rfl, rfl⟩
    | exact fun k => Part.out_absurd (by decide : Part.within _ _ = true) (by decide) k | split | (lift_lets; intros)

theorem frame_fldClrDiag (k : Fin 8) (m : Fin 6) (s u : State) (h : exec (.fldClrDiag k m) s = .next u) :
    Frame (Part.record ||| Part.sys ||| Part.fio) s u := by
  have h : run s (fun s => s.putReg m .fldCmd k 1) = .next u := h
  refine run_keep (by decide) h (fun x hx => ?_)
  refine State.putReg_keep (fldCmd_at k) (by decide) (Or.inl (by decide)) (fun y hy => ?_) hx
  unfold State.effect
  dsimp only
  unfold State.effField
  dsimp only
  rw [if_neg (by decide), if_pos (by decide)]
  repeat' first
    | with_reducible assumption | (with_reducible show Part.within _ _ = true; decide) | with_reducible refine Frame.ite ?_ ?_
    | with_reducible refine when_frame (fun _ _ => ?_) ?_ | with_reducible refine State.fldClrDiag_frame ?_ ?_ | exact Nat.le_refl _
    | exact fun _ k => k | exact fun _ => rfl | exact fun _ _ => rfl | exact id | exact List.prefix_refl _ | exact fun _ => ⟨rfl, rfl⟩
    | exact fun _ => Or.inl ⟨rfl, rfl, rfl⟩ | exact fun _ => ⟨rfl, rfl, rfl⟩
    | exact fun k => Part.out_absurd (by decide : Part.within _ _ = true) (by decide) k | split | (lift_lets; intros)

theorem frame_ilkClear (m : Fin 6) (s u : State) (h : exec (.ilkClear m) s = .next u) :
    Frame (Part.record ||| Part.sys ||| Part.ilk) s u := by
  have h : run s (fun s => s.putReg m .ilkCmd 0 1) = .next u := h
  refine run_keep (by decide) h (fun x hx => ?_)
  refine State.putReg_keep ilkCmd_at (by decide) (Or.inl (by decide)) (fun y hy => ?_) hx
  unfold State.effect
  dsimp only
  unfold State.effField
  dsimp only
  repeat' first
    | with_reducible assumption | (with_reducible show Part.within _ _ = true; decide) | with_reducible refine Frame.ite ?_ ?_
    | with_reducible refine when_frame (fun _ _ => ?_) ?_ | with_reducible refine State.ilkClear_frame ?_ ?_ | exact Nat.le_refl _
    | exact fun _ k => k | exact fun _ => rfl | exact fun _ _ => rfl | exact id | exact List.prefix_refl _ | exact fun _ => ⟨rfl, rfl⟩
    | exact fun _ => Or.inl ⟨rfl, rfl, rfl⟩ | exact fun _ => ⟨rfl, rfl, rfl⟩
    | exact fun k => Part.out_absurd (by decide : Part.within _ _ = true) (by decide) k | split | (lift_lets; intros)

theorem frame_ilkLogLoad (value : Word) (m : Fin 6) (s u : State) (h : exec (.ilkLogLoad value m) s = .next u) :
    Frame (Part.record ||| Part.sys ||| Part.ilk ||| Part.regs) s u := by
  have h : run s (fun s => s.putReg m .ilkLogIdx 0 value) = .next u := h
  refine run_keep (by decide) h (fun x hx => ?_)
  refine State.putReg_keep ilkLogIdx_at (by decide) (Or.inl (by decide)) (fun y hy => ?_) hx
  unfold State.effect
  dsimp only
  unfold State.effField
  dsimp only
  repeat' first
    | with_reducible assumption | (with_reducible show Part.within _ _ = true; decide) | with_reducible refine Frame.ite ?_ ?_
    | with_reducible refine when_frame (fun _ _ => ?_) ?_ | with_reducible refine State.setReg_frame ?_ ?_
    | with_reducible refine State.logLoad_frame ?_ ?_ | exact Nat.le_refl _ | exact fun _ k => k | exact fun _ => rfl
    | exact fun _ _ => rfl | exact id | exact List.prefix_refl _ | exact fun _ => ⟨rfl, rfl⟩ | exact fun _ => Or.inl ⟨rfl, rfl, rfl⟩
    | exact fun _ => ⟨rfl, rfl, rfl⟩ | exact fun k => Part.out_absurd (by decide : Part.within _ _ = true) (by decide) k | split
    | (lift_lets; intros)

theorem frame_lswClear (n : Fin 32) (m : Fin 6) (s u : State) (h : exec (.lswClear n m) s = .next u) :
    Frame (Part.record ||| Part.sys ||| Part.fio ||| Part.loads) s u := by
  have h : run s (fun s => s.putReg m .lswCmd n 1) = .next u := h
  refine run_keep (by decide) h (fun x hx => ?_)
  refine State.putReg_keep (lswCmd_at n) (by decide) (Or.inl (by decide)) (fun y hy => ?_) hx
  unfold State.effect
  dsimp only
  unfold State.effField
  dsimp only
  rw [if_neg (by decide), if_pos (by decide)]
  repeat' first
    | with_reducible assumption | (with_reducible show Part.within _ _ = true; decide) | with_reducible refine Frame.ite ?_ ?_
    | with_reducible refine when_frame (fun _ _ => ?_) ?_ | with_reducible refine State.lswClear_frame ?_ ?_ | exact Nat.le_refl _
    | exact fun _ k => k | exact fun _ => rfl | exact fun _ _ => rfl | exact id | exact List.prefix_refl _ | exact fun _ => ⟨rfl, rfl⟩
    | exact fun _ => Or.inl ⟨rfl, rfl, rfl⟩ | exact fun _ => ⟨rfl, rfl, rfl⟩
    | exact fun k => Part.out_absurd (by decide : Part.within _ _ = true) (by decide) k | split | (lift_lets; intros)

theorem frame_lswClrDiag (n : Fin 32) (m : Fin 6) (s u : State) (h : exec (.lswClrDiag n m) s = .next u) :
    Frame (Part.record ||| Part.sys ||| Part.fio) s u := by
  have h : run s (fun s => s.putReg m .lswCmd n 2) = .next u := h
  refine run_keep (by decide) h (fun x hx => ?_)
  refine State.putReg_keep (lswCmd_at n) (by decide) (Or.inl (by decide)) (fun y hy => ?_) hx
  unfold State.effect
  dsimp only
  unfold State.effField
  dsimp only
  rw [if_pos (by decide), if_neg (by decide)]
  repeat' first
    | with_reducible assumption | (with_reducible show Part.within _ _ = true; decide) | with_reducible refine Frame.ite ?_ ?_
    | with_reducible refine when_frame (fun _ _ => ?_) ?_ | with_reducible refine State.lswClrDiag_frame ?_ ?_ | exact Nat.le_refl _
    | exact fun _ k => k | exact fun _ => rfl | exact fun _ _ => rfl | exact id | exact List.prefix_refl _ | exact fun _ => ⟨rfl, rfl⟩
    | exact fun _ => Or.inl ⟨rfl, rfl, rfl⟩ | exact fun _ => ⟨rfl, rfl, rfl⟩
    | exact fun k => Part.out_absurd (by decide : Part.within _ _ = true) (by decide) k | split | (lift_lets; intros)

theorem frame_lswRestart (b : Fin 4) (m : Fin 6) (s u : State) (h : exec (.lswRestart b m) s = .next u) :
    Frame (Part.record ||| Part.sys ||| Part.fio) s u := by
  have h : run s (fun s => s.putReg m .lswBcmd b 1) = .next u := h
  refine run_keep (by decide) h (fun x hx => ?_)
  refine State.putReg_keep (lswBcmd_at b) (by decide) (Or.inl (by decide)) (fun y hy => ?_) hx
  unfold State.effect
  dsimp only
  unfold State.effField
  dsimp only
  rw [if_pos (by decide)]
  repeat' first
    | with_reducible assumption | (with_reducible show Part.within _ _ = true; decide) | with_reducible refine Frame.ite ?_ ?_
    | with_reducible refine when_frame (fun _ _ => ?_) ?_ | with_reducible refine State.startLink_frame ?_ ?_ | exact Nat.le_refl _
    | exact fun _ k => k | exact fun _ => rfl | exact fun _ _ => rfl | exact id | exact List.prefix_refl _ | exact fun _ => ⟨rfl, rfl⟩
    | exact fun _ => Or.inl ⟨rfl, rfl, rfl⟩ | exact fun _ => ⟨rfl, rfl, rfl⟩
    | exact fun k => Part.out_absurd (by decide : Part.within _ _ = true) (by decide) k | split | (lift_lets; intros)

theorem frame_acceptJump (m : Fin 6) (s u : State) (h : exec (.acceptJump m) s = .next u) :
    Frame (Part.record ||| Part.sys ||| Part.time) s u := by
  have h : run s (fun s => s.putReg m .timeCmd 0 1) = .next u := h
  refine run_keep (by decide) h (fun x hx => ?_)
  refine State.putReg_keep timeCmd_at (by decide) (Or.inl (by decide)) (fun y hy => ?_) hx
  unfold State.effect
  dsimp only
  unfold State.effField
  dsimp only
  rw [if_pos (by decide)]
  repeat' first
    | with_reducible assumption | (with_reducible show Part.within _ _ = true; decide) | with_reducible refine Frame.ite ?_ ?_
    | with_reducible refine when_frame (fun _ _ => ?_) ?_ | with_reducible refine State.acceptJump_frame ?_ ?_ | exact Nat.le_refl _
    | exact fun _ k => k | exact fun _ => rfl | exact fun _ _ => rfl | exact id | exact List.prefix_refl _ | exact fun _ => ⟨rfl, rfl⟩
    | exact fun _ => Or.inl ⟨rfl, rfl, rfl⟩ | exact fun _ => ⟨rfl, rfl, rfl⟩
    | exact fun k => Part.out_absurd (by decide : Part.within _ _ = true) (by decide) k | split | (lift_lets; intros)

theorem frame_acceptPath (m : Fin 6) (s u : State) (h : exec (.acceptPath m) s = .next u) :
    Frame (Part.record ||| Part.sys ||| Part.time ||| Part.seq ||| Part.actions) s u := by
  have h : run s (fun s => s.putReg m .timeCmd 0 2) = .next u := h
  refine run_keep (by decide) h (fun x hx => ?_)
  refine State.putReg_keep timeCmd_at (by decide) (Or.inl (by decide)) (fun y hy => ?_) hx
  unfold State.effect
  dsimp only
  unfold State.effField
  dsimp only
  rw [if_neg (by decide)]
  repeat' first
    | with_reducible assumption | (with_reducible show Part.within _ _ = true; decide) | with_reducible refine Frame.ite ?_ ?_
    | with_reducible refine when_frame (fun _ _ => ?_) ?_ | with_reducible refine State.acceptPath_frame ?_ ?_ | exact Nat.le_refl _
    | exact fun _ k => k | exact fun _ => rfl | exact fun _ _ => rfl | exact id | exact List.prefix_refl _ | exact fun _ => ⟨rfl, rfl⟩
    | exact fun _ => Or.inl ⟨rfl, rfl, rfl⟩ | exact fun _ => ⟨rfl, rfl, rfl⟩
    | exact fun k => Part.out_absurd (by decide : Part.within _ _ = true) (by decide) k | split | (lift_lets; intros)

theorem frame_timeTtRead (m : Fin 6) (s u : State) (h : exec (.timeTtRead m) s = .next u) :
    Frame (Part.record ||| Part.sys ||| Part.time) s u := by
  have h : run s (fun s => s.getReg m .timeTtLo 0) = .next u := h
  refine run_keep (by decide) h (fun x hx => ?_)
  refine State.getReg_keep timeTtLo_at (by decide) (fun y hy => ?_) hx
  unfold State.readEffect
  dsimp only
  repeat' first
    | with_reducible assumption | (with_reducible show Part.within _ _ = true; decide) | with_reducible refine State.ttRead_frame ?_ ?_

theorem frame_stlCmdOpen (c : Fin 64) (m : Fin 6) (s u : State) (h : exec (.stlCmdOpen c m) s = .next u) :
    Frame (Part.record ||| Part.sys ||| Part.sc ||| Part.conns ||| Part.twin ||| Part.free) s u := by
  have h : run s (fun s => s.putReg m .stlCmd 0 (BitVec.ofNat 32 (0x100 + c))) = .next u := h
  refine run_keep (by decide) h (fun x hx => ?_)
  refine State.putReg_keep stlCmd_at (by decide) (Or.inl (by decide)) (fun y hy => ?_) hx
  unfold State.effect
  dsimp only
  repeat' first
    | with_reducible assumption | (with_reducible show Part.within _ _ = true; decide) | with_reducible refine Frame.ite ?_ ?_
    | with_reducible refine when_frame (fun _ _ => ?_) ?_ | with_reducible refine State.stlCmd_frame ?_ ?_ | exact Nat.le_refl _
    | exact fun _ k => k | exact fun _ => rfl | exact fun _ _ => rfl | exact id | exact List.prefix_refl _ | exact fun _ => ⟨rfl, rfl⟩
    | exact fun _ => Or.inl ⟨rfl, rfl, rfl⟩ | exact fun _ => ⟨rfl, rfl, rfl⟩
    | exact fun k => Part.out_absurd (by decide : Part.within _ _ = true) (by decide) k | split | (lift_lets; intros)

theorem frame_stlCmdClose (c : Fin 64) (m : Fin 6) (s u : State) (h : exec (.stlCmdClose c m) s = .next u) :
    Frame (Part.record ||| Part.sys ||| Part.sc ||| Part.conns ||| Part.twin ||| Part.free) s u := by
  have h : run s (fun s => s.putReg m .stlCmd 0 (BitVec.ofNat 32 (0x200 + c))) = .next u := h
  refine run_keep (by decide) h (fun x hx => ?_)
  refine State.putReg_keep stlCmd_at (by decide) (Or.inl (by decide)) (fun y hy => ?_) hx
  unfold State.effect
  dsimp only
  repeat' first
    | with_reducible assumption | (with_reducible show Part.within _ _ = true; decide) | with_reducible refine Frame.ite ?_ ?_
    | with_reducible refine when_frame (fun _ _ => ?_) ?_ | with_reducible refine State.stlCmd_frame ?_ ?_ | exact Nat.le_refl _
    | exact fun _ k => k | exact fun _ => rfl | exact fun _ _ => rfl | exact id | exact List.prefix_refl _ | exact fun _ => ⟨rfl, rfl⟩
    | exact fun _ => Or.inl ⟨rfl, rfl, rfl⟩ | exact fun _ => ⟨rfl, rfl, rfl⟩
    | exact fun k => Part.out_absurd (by decide : Part.within _ _ = true) (by decide) k | split | (lift_lets; intros)

theorem frame_twinTransferCmd (m : Fin 6) (s u : State) (h : exec (.twinTransferCmd m) s = .next u) :
    Frame (Part.record ||| Part.sys ||| Part.twin) s u := by
  have h : run s (fun s => s.putReg m .twinCmd 0 1) = .next u := h
  refine run_keep (by decide) h (fun x hx => ?_)
  refine State.putReg_keep twinCmd_at (by decide) (Or.inl (by decide)) (fun y hy => ?_) hx
  unfold State.effect
  dsimp only
  repeat' first
    | with_reducible assumption | (with_reducible show Part.within _ _ = true; decide) | with_reducible refine Frame.ite ?_ ?_
    | with_reducible refine when_frame (fun _ _ => ?_) ?_ | with_reducible refine State.transferReq_frame ?_ ?_ | exact Nat.le_refl _
    | exact fun _ k => k | exact fun _ => rfl | exact fun _ _ => rfl | exact id | exact List.prefix_refl _ | exact fun _ => ⟨rfl, rfl⟩
    | exact fun _ => Or.inl ⟨rfl, rfl, rfl⟩ | exact fun _ => ⟨rfl, rfl, rfl⟩
    | exact fun k => Part.out_absurd (by decide : Part.within _ _ = true) (by decide) k | split | (lift_lets; intros)

theorem frame_holdSet (m : Fin 6) (s u : State) (h : exec (.holdSet m) s = .next u) :
    Frame (Part.record ||| Part.sys ||| Part.bk) s u := by
  have h : run s (fun s => s.putReg m .recCmd 0 1) = .next u := h
  refine run_keep (by decide) h (fun x hx => ?_)
  refine State.putReg_keep recCmd_at (by decide) (Or.inl (by decide)) (fun y hy => ?_) hx
  unfold State.effect
  dsimp only
  repeat' first
    | with_reducible assumption | (with_reducible show Part.within _ _ = true; decide) | with_reducible refine Frame.ite ?_ ?_
    | with_reducible refine when_frame (fun _ _ => ?_) ?_ | with_reducible refine State.recCmd_frame ?_ ?_ | exact Nat.le_refl _
    | exact fun _ k => k | exact fun _ => rfl | exact fun _ _ => rfl | exact id | exact List.prefix_refl _ | exact fun _ => ⟨rfl, rfl⟩
    | exact fun _ => Or.inl ⟨rfl, rfl, rfl⟩ | exact fun _ => ⟨rfl, rfl, rfl⟩
    | exact fun k => Part.out_absurd (by decide : Part.within _ _ = true) (by decide) k | split | (lift_lets; intros)

theorem frame_holdRelease (m : Fin 6) (s u : State) (h : exec (.holdRelease m) s = .next u) :
    Frame (Part.record ||| Part.sys ||| Part.bk) s u := by
  have h : run s (fun s => s.putReg m .recCmd 0 2) = .next u := h
  refine run_keep (by decide) h (fun x hx => ?_)
  refine State.putReg_keep recCmd_at (by decide) (Or.inl (by decide)) (fun y hy => ?_) hx
  unfold State.effect
  dsimp only
  repeat' first
    | with_reducible assumption | (with_reducible show Part.within _ _ = true; decide) | with_reducible refine Frame.ite ?_ ?_
    | with_reducible refine when_frame (fun _ _ => ?_) ?_ | with_reducible refine State.recCmd_frame ?_ ?_ | exact Nat.le_refl _
    | exact fun _ k => k | exact fun _ => rfl | exact fun _ _ => rfl | exact id | exact List.prefix_refl _ | exact fun _ => ⟨rfl, rfl⟩
    | exact fun _ => Or.inl ⟨rfl, rfl, rfl⟩ | exact fun _ => ⟨rfl, rfl, rfl⟩
    | exact fun k => Part.out_absurd (by decide : Part.within _ _ = true) (by decide) k | split | (lift_lets; intros)

theorem frame_capture (m : Fin 6) (s u : State) (h : exec (.capture m) s = .next u) :
    Frame (Part.record ||| Part.sys ||| Part.bk) s u := by
  have h : run s (fun s => s.putReg m .recCmd 0 3) = .next u := h
  refine run_keep (by decide) h (fun x hx => ?_)
  refine State.putReg_keep recCmd_at (by decide) (Or.inl (by decide)) (fun y hy => ?_) hx
  unfold State.effect
  dsimp only
  repeat' first
    | with_reducible assumption | (with_reducible show Part.within _ _ = true; decide) | with_reducible refine Frame.ite ?_ ?_
    | with_reducible refine when_frame (fun _ _ => ?_) ?_ | with_reducible refine State.recCmd_frame ?_ ?_ | exact Nat.le_refl _
    | exact fun _ k => k | exact fun _ => rfl | exact fun _ _ => rfl | exact id | exact List.prefix_refl _ | exact fun _ => ⟨rfl, rfl⟩
    | exact fun _ => Or.inl ⟨rfl, rfl, rfl⟩ | exact fun _ => ⟨rfl, rfl, rfl⟩
    | exact fun k => Part.out_absurd (by decide : Part.within _ _ = true) (by decide) k | split | (lift_lets; intros)

theorem frame_keep (f : Fin 4) (m : Fin 6) (s u : State) (h : exec (.keep f m) s = .next u) :
    Frame (Part.record ||| Part.sys ||| Part.bk) s u := by
  have h : run s (fun s => s.putReg m .recCmd 0 (BitVec.ofNat 32 (4 + 16 * f))) = .next u := h
  refine run_keep (by decide) h (fun x hx => ?_)
  refine State.putReg_keep recCmd_at (by decide) (Or.inl (by decide)) (fun y hy => ?_) hx
  unfold State.effect
  dsimp only
  repeat' first
    | with_reducible assumption | (with_reducible show Part.within _ _ = true; decide) | with_reducible refine Frame.ite ?_ ?_
    | with_reducible refine when_frame (fun _ _ => ?_) ?_ | with_reducible refine State.recCmd_frame ?_ ?_ | exact Nat.le_refl _
    | exact fun _ k => k | exact fun _ => rfl | exact fun _ _ => rfl | exact id | exact List.prefix_refl _ | exact fun _ => ⟨rfl, rfl⟩
    | exact fun _ => Or.inl ⟨rfl, rfl, rfl⟩ | exact fun _ => ⟨rfl, rfl, rfl⟩
    | exact fun k => Part.out_absurd (by decide : Part.within _ _ = true) (by decide) k | split | (lift_lets; intros)

theorem frame_unkeep (f : Fin 4) (m : Fin 6) (s u : State) (h : exec (.unkeep f m) s = .next u) :
    Frame (Part.record ||| Part.sys ||| Part.bk) s u := by
  have h : run s (fun s => s.putReg m .recCmd 0 (BitVec.ofNat 32 (5 + 16 * f))) = .next u := h
  refine run_keep (by decide) h (fun x hx => ?_)
  refine State.putReg_keep recCmd_at (by decide) (Or.inl (by decide)) (fun y hy => ?_) hx
  unfold State.effect
  dsimp only
  repeat' first
    | with_reducible assumption | (with_reducible show Part.within _ _ = true; decide) | with_reducible refine Frame.ite ?_ ?_
    | with_reducible refine when_frame (fun _ _ => ?_) ?_ | with_reducible refine State.recCmd_frame ?_ ?_ | exact Nat.le_refl _
    | exact fun _ k => k | exact fun _ => rfl | exact fun _ _ => rfl | exact id | exact List.prefix_refl _ | exact fun _ => ⟨rfl, rfl⟩
    | exact fun _ => Or.inl ⟨rfl, rfl, rfl⟩ | exact fun _ => ⟨rfl, rfl, rfl⟩
    | exact fun k => Part.out_absurd (by decide : Part.within _ _ = true) (by decide) k | split | (lift_lets; intros)

theorem frame_recArchiveCmd (m : Fin 6) (s u : State) (h : exec (.recArchiveCmd m) s = .next u) :
    Frame (Part.record ||| Part.sys ||| Part.bk) s u := by
  have h : run s (fun s => s.putReg m .recCmd 0 6) = .next u := h
  refine run_keep (by decide) h (fun x hx => ?_)
  refine State.putReg_keep recCmd_at (by decide) (Or.inl (by decide)) (fun y hy => ?_) hx
  unfold State.effect
  dsimp only
  repeat' first
    | with_reducible assumption | (with_reducible show Part.within _ _ = true; decide) | with_reducible refine Frame.ite ?_ ?_
    | with_reducible refine when_frame (fun _ _ => ?_) ?_ | with_reducible refine State.recCmd_frame ?_ ?_ | exact Nat.le_refl _
    | exact fun _ k => k | exact fun _ => rfl | exact fun _ _ => rfl | exact id | exact List.prefix_refl _ | exact fun _ => ⟨rfl, rfl⟩
    | exact fun _ => Or.inl ⟨rfl, rfl, rfl⟩ | exact fun _ => ⟨rfl, rfl, rfl⟩
    | exact fun k => Part.out_absurd (by decide : Part.within _ _ = true) (by decide) k | split | (lift_lets; intros)

theorem frame_recClearCircCmd (m : Fin 6) (s u : State) (h : exec (.recClearCircCmd m) s = .next u) :
    Frame (Part.record ||| Part.sys ||| Part.bk) s u := by
  have h : run s (fun s => s.putReg m .recCmd 0 7) = .next u := h
  refine run_keep (by decide) h (fun x hx => ?_)
  refine State.putReg_keep recCmd_at (by decide) (Or.inl (by decide)) (fun y hy => ?_) hx
  unfold State.effect
  dsimp only
  repeat' first
    | with_reducible assumption | (with_reducible show Part.within _ _ = true; decide) | with_reducible refine Frame.ite ?_ ?_
    | with_reducible refine when_frame (fun _ _ => ?_) ?_ | with_reducible refine State.recCmd_frame ?_ ?_ | exact Nat.le_refl _
    | exact fun _ k => k | exact fun _ => rfl | exact fun _ _ => rfl | exact id | exact List.prefix_refl _ | exact fun _ => ⟨rfl, rfl⟩
    | exact fun _ => Or.inl ⟨rfl, rfl, rfl⟩ | exact fun _ => ⟨rfl, rfl, rfl⟩
    | exact fun k => Part.out_absurd (by decide : Part.within _ _ = true) (by decide) k | split | (lift_lets; intros)

theorem frame_lwClear (m : Fin 6) (s u : State) (h : exec (.lwClear m) s = .next u) :
    Frame (Part.record ||| Part.sys ||| Part.bk) s u := by
  have h : run s (fun s => s.putReg m .recCmd 0 8) = .next u := h
  refine run_keep (by decide) h (fun x hx => ?_)
  refine State.putReg_keep recCmd_at (by decide) (Or.inl (by decide)) (fun y hy => ?_) hx
  unfold State.effect
  dsimp only
  repeat' first
    | with_reducible assumption | (with_reducible show Part.within _ _ = true; decide) | with_reducible refine Frame.ite ?_ ?_
    | with_reducible refine when_frame (fun _ _ => ?_) ?_ | with_reducible refine State.recCmd_frame ?_ ?_ | exact Nat.le_refl _
    | exact fun _ k => k | exact fun _ => rfl | exact fun _ _ => rfl | exact id | exact List.prefix_refl _ | exact fun _ => ⟨rfl, rfl⟩
    | exact fun _ => Or.inl ⟨rfl, rfl, rfl⟩ | exact fun _ => ⟨rfl, rfl, rfl⟩
    | exact fun k => Part.out_absurd (by decide : Part.within _ _ = true) (by decide) k | split | (lift_lets; intros)

theorem frame_rwOpen (area : Fin 3) (folio : Fin 4) (hold : Bool) (m : Fin 6) (s u : State) (h : exec (.rwOpen area folio hold m) s = .next u) :
    Frame (Part.record ||| Part.sys ||| Part.regs) s u := by
  have h : run s (fun s => s.putReg m .recRwCmd 0 (BitVec.ofNat 32 (1 + 4 * area + 16 * folio + 64 * b2n hold))) = .next u := h
  refine run_keep (by decide) h (fun x hx => ?_)
  refine State.putReg_keep recRwCmd_at (by decide) (Or.inl (by decide)) (fun y hy => ?_) hx
  unfold State.effect
  dsimp only
  repeat' first
    | with_reducible assumption | (with_reducible show Part.within _ _ = true; decide) | with_reducible refine Frame.ite ?_ ?_
    | with_reducible refine when_frame (fun _ _ => ?_) ?_ | with_reducible refine State.rwCmd_frame ?_ ?_ | exact Nat.le_refl _
    | exact fun _ k => k | exact fun _ => rfl | exact fun _ _ => rfl | exact id | exact List.prefix_refl _ | exact fun _ => ⟨rfl, rfl⟩
    | exact fun _ => Or.inl ⟨rfl, rfl, rfl⟩ | exact fun _ => ⟨rfl, rfl, rfl⟩
    | exact fun k => Part.out_absurd (by decide : Part.within _ _ = true) (by decide) k | split | (lift_lets; intros)

theorem frame_rwStep (m : Fin 6) (s u : State) (h : exec (.rwStep m) s = .next u) :
    Frame (Part.record ||| Part.sys ||| Part.regs) s u := by
  have h : run s (fun s => s.putReg m .recRwCmd 0 2) = .next u := h
  refine run_keep (by decide) h (fun x hx => ?_)
  refine State.putReg_keep recRwCmd_at (by decide) (Or.inl (by decide)) (fun y hy => ?_) hx
  unfold State.effect
  dsimp only
  repeat' first
    | with_reducible assumption | (with_reducible show Part.within _ _ = true; decide) | with_reducible refine Frame.ite ?_ ?_
    | with_reducible refine when_frame (fun _ _ => ?_) ?_ | with_reducible refine State.rwCmd_frame ?_ ?_ | exact Nat.le_refl _
    | exact fun _ k => k | exact fun _ => rfl | exact fun _ _ => rfl | exact id | exact List.prefix_refl _ | exact fun _ => ⟨rfl, rfl⟩
    | exact fun _ => Or.inl ⟨rfl, rfl, rfl⟩ | exact fun _ => ⟨rfl, rfl, rfl⟩
    | exact fun k => Part.out_absurd (by decide : Part.within _ _ = true) (by decide) k | split | (lift_lets; intros)

theorem frame_rwClose (m : Fin 6) (s u : State) (h : exec (.rwClose m) s = .next u) :
    Frame (Part.record ||| Part.sys ||| Part.regs) s u := by
  have h : run s (fun s => s.putReg m .recRwCmd 0 3) = .next u := h
  refine run_keep (by decide) h (fun x hx => ?_)
  refine State.putReg_keep recRwCmd_at (by decide) (Or.inl (by decide)) (fun y hy => ?_) hx
  unfold State.effect
  dsimp only
  repeat' first
    | with_reducible assumption | (with_reducible show Part.within _ _ = true; decide) | with_reducible refine Frame.ite ?_ ?_
    | with_reducible refine when_frame (fun _ _ => ?_) ?_ | with_reducible refine State.rwCmd_frame ?_ ?_ | exact Nat.le_refl _
    | exact fun _ k => k | exact fun _ => rfl | exact fun _ _ => rfl | exact id | exact List.prefix_refl _ | exact fun _ => ⟨rfl, rfl⟩
    | exact fun _ => Or.inl ⟨rfl, rfl, rfl⟩ | exact fun _ => ⟨rfl, rfl, rfl⟩
    | exact fun k => Part.out_absurd (by decide : Part.within _ _ = true) (by decide) k | split | (lift_lets; intros)

theorem frame_recNextRead (m : Fin 6) (s u : State) (h : exec (.recNextRead m) s = .next u) :
    Frame (Part.record ||| Part.sys) s u := by
  have h : run s (fun s => s.getReg m .recNextLo 0) = .next u := h
  refine run_keep (by decide) h (fun x hx => ?_)
  refine State.getReg_keep recNextLo_at (by decide) (fun y hy => ?_) hx
  unfold State.readEffect
  dsimp only
  repeat' first
    | with_reducible assumption | (with_reducible show Part.within _ _ = true; decide)
    | with_reducible refine State.recNextRead_frame ?_ ?_

theorem frame_recOldestRead (m : Fin 6) (s u : State) (h : exec (.recOldestRead m) s = .next u) :
    Frame (Part.record ||| Part.sys) s u := by
  have h : run s (fun s => s.getReg m .recOldestLo 0) = .next u := h
  refine run_keep (by decide) h (fun x hx => ?_)
  refine State.getReg_keep recOldestLo_at (by decide) (fun y hy => ?_) hx
  unfold State.readEffect
  dsimp only
  repeat' first
    | with_reducible assumption | (with_reducible show Part.within _ _ = true; decide)
    | with_reducible refine State.recOldestRead_frame ?_ ?_

theorem frame_cntValRead (m : Fin 6) (s u : State) (h : exec (.cntValRead m) s = .next u) :
    Frame (Part.record ||| Part.sys) s u := by
  have h : run s (fun s => s.getReg m .cntValLo 0) = .next u := h
  refine run_keep (by decide) h (fun x hx => ?_)
  refine State.getReg_keep cntValLo_at (by decide) (fun y hy => ?_) hx
  unfold State.readEffect
  dsimp only
  repeat' first
    | with_reducible assumption | (with_reducible show Part.within _ _ = true; decide) | with_reducible refine State.cntValRead_frame ?_ ?_

theorem frame_cntSnapRead (i : Fin 320) (m : Fin 6) (s u : State) (h : exec (.cntSnapRead i m) s = .next u) :
    Frame (Part.record ||| Part.sys) s u := by
  have h : run s (fun s => s.getReg m .cntSnapLo i) = .next u := h
  refine run_keep (by decide) h (fun x hx => ?_)
  refine State.getReg_keep (cntSnapLo_at i) (by decide) (fun y hy => ?_) hx
  unfold State.readEffect
  dsimp only
  repeat' first
    | with_reducible assumption | (with_reducible show Part.within _ _ = true; decide)
    | with_reducible refine State.cntSnapRead_frame ?_ ?_

theorem frame_sweep (m : Fin 6) (s u : State) (h : exec (.sweep m) s = .next u) :
    Frame (Part.record ||| Part.sys) s u := by
  have h : run s (fun s => s.putReg m .cntCmd 0 1) = .next u := h
  refine run_keep (by decide) h (fun x hx => ?_)
  refine State.putReg_keep cntCmd_at (by decide) (Or.inl (by decide)) (fun y hy => ?_) hx
  unfold State.effect
  dsimp only
  repeat' first
    | with_reducible assumption | (with_reducible show Part.within _ _ = true; decide) | with_reducible refine Frame.ite ?_ ?_
    | with_reducible refine when_frame (fun _ _ => ?_) ?_ | with_reducible refine State.cntCmd_frame ?_ ?_ | exact Nat.le_refl _
    | exact fun _ k => k | exact fun _ => rfl | exact fun _ _ => rfl | exact id | exact List.prefix_refl _ | exact fun _ => ⟨rfl, rfl⟩
    | exact fun _ => Or.inl ⟨rfl, rfl, rfl⟩ | exact fun _ => ⟨rfl, rfl, rfl⟩
    | exact fun k => Part.out_absurd (by decide : Part.within _ _ = true) (by decide) k | split | (lift_lets; intros)

theorem frame_write (m : Fin 6) (s u : State) (h : exec (.write m) s = .next u) :
    Frame (Part.record ||| Part.sys) s u := by
  have h : run s (fun s => s.putReg m .cntCmd 0 2) = .next u := h
  refine run_keep (by decide) h (fun x hx => ?_)
  refine State.putReg_keep cntCmd_at (by decide) (Or.inl (by decide)) (fun y hy => ?_) hx
  unfold State.effect
  dsimp only
  repeat' first
    | with_reducible assumption | (with_reducible show Part.within _ _ = true; decide) | with_reducible refine Frame.ite ?_ ?_
    | with_reducible refine when_frame (fun _ _ => ?_) ?_ | with_reducible refine State.cntCmd_frame ?_ ?_ | exact Nat.le_refl _
    | exact fun _ k => k | exact fun _ => rfl | exact fun _ _ => rfl | exact id | exact List.prefix_refl _ | exact fun _ => ⟨rfl, rfl⟩
    | exact fun _ => Or.inl ⟨rfl, rfl, rfl⟩ | exact fun _ => ⟨rfl, rfl, rfl⟩
    | exact fun k => Part.out_absurd (by decide : Part.within _ _ = true) (by decide) k | split | (lift_lets; intros)

theorem frame_clearAll (m : Fin 6) (s u : State) (h : exec (.clearAll m) s = .next u) :
    Frame (Part.record ||| Part.sys) s u := by
  have h : run s (fun s => s.putReg m .cntCmd 0 3) = .next u := h
  refine run_keep (by decide) h (fun x hx => ?_)
  refine State.putReg_keep cntCmd_at (by decide) (Or.inl (by decide)) (fun y hy => ?_) hx
  unfold State.effect
  dsimp only
  repeat' first
    | with_reducible assumption | (with_reducible show Part.within _ _ = true; decide) | with_reducible refine Frame.ite ?_ ?_
    | with_reducible refine when_frame (fun _ _ => ?_) ?_ | with_reducible refine State.cntCmd_frame ?_ ?_ | exact Nat.le_refl _
    | exact fun _ k => k | exact fun _ => rfl | exact fun _ _ => rfl | exact id | exact List.prefix_refl _ | exact fun _ => ⟨rfl, rfl⟩
    | exact fun _ => Or.inl ⟨rfl, rfl, rfl⟩ | exact fun _ => ⟨rfl, rfl, rfl⟩
    | exact fun k => Part.out_absurd (by decide : Part.within _ _ = true) (by decide) k | split | (lift_lets; intros)

theorem frame_smpClear (m : Fin 6) (s u : State) (h : exec (.smpClear m) s = .next u) :
    Frame (Part.record ||| Part.sys) s u := by
  have h : run s (fun s => s.putReg m .cntCmd 0 4) = .next u := h
  refine run_keep (by decide) h (fun x hx => ?_)
  refine State.putReg_keep cntCmd_at (by decide) (Or.inl (by decide)) (fun y hy => ?_) hx
  unfold State.effect
  dsimp only
  repeat' first
    | with_reducible assumption | (with_reducible show Part.within _ _ = true; decide) | with_reducible refine Frame.ite ?_ ?_
    | with_reducible refine when_frame (fun _ _ => ?_) ?_ | with_reducible refine State.cntCmd_frame ?_ ?_ | exact Nat.le_refl _
    | exact fun _ k => k | exact fun _ => rfl | exact fun _ _ => rfl | exact id | exact List.prefix_refl _ | exact fun _ => ⟨rfl, rfl⟩
    | exact fun _ => Or.inl ⟨rfl, rfl, rfl⟩ | exact fun _ => ⟨rfl, rfl, rfl⟩
    | exact fun k => Part.out_absurd (by decide : Part.within _ _ = true) (by decide) k | split | (lift_lets; intros)

theorem frame_cntSmpPosWrite (value : Word) (m : Fin 6) (s u : State) (h : exec (.cntSmpPosWrite value m) s = .next u) :
    Frame (Part.record ||| Part.sys ||| Part.regs) s u := by
  have h : run s (fun s => s.putReg m .cntSmpPos 0 value) = .next u := h
  refine run_keep (by decide) h (fun x hx => ?_)
  refine State.putReg_keep cntSmpPos_at (by decide) (Or.inl (by decide)) (fun y hy => ?_) hx
  unfold State.effect
  dsimp only
  repeat' first
    | with_reducible assumption | (with_reducible show Part.within _ _ = true; decide) | with_reducible refine Frame.ite ?_ ?_
    | with_reducible refine when_frame (fun _ _ => ?_) ?_ | with_reducible refine State.setReg_frame ?_ ?_
    | with_reducible refine State.smpLoad_frame ?_ ?_ | exact Nat.le_refl _ | exact fun _ k => k | exact fun _ => rfl
    | exact fun _ _ => rfl | exact id | exact List.prefix_refl _ | exact fun _ => ⟨rfl, rfl⟩ | exact fun _ => Or.inl ⟨rfl, rfl, rfl⟩
    | exact fun _ => ⟨rfl, rfl, rfl⟩ | exact fun k => Part.out_absurd (by decide : Part.within _ _ = true) (by decide) k | split
    | (lift_lets; intros)

theorem frame_shelve (m : Fin 6) (s u : State) (h : exec (.shelve m) s = .next u) :
    Frame (Part.record ||| Part.sys) s u := by
  have h : run s (fun s => s.putReg m .sysPwrCmd 0 1) = .next u := h
  refine run_keep (by decide) h (fun x hx => ?_)
  refine State.putReg_keep sysPwrCmd_at (by decide) (Or.inl (by decide)) (fun y hy => ?_) hx
  unfold State.effect
  dsimp only
  repeat' first
    | with_reducible assumption | (with_reducible show Part.within _ _ = true; decide) | with_reducible refine Frame.ite ?_ ?_
    | with_reducible refine when_frame (fun _ _ => ?_) ?_ | with_reducible refine State.shelve_frame ?_ ?_ | exact Nat.le_refl _
    | exact fun _ k => k | exact fun _ => rfl | exact fun _ _ => rfl | exact id | exact List.prefix_refl _ | exact fun _ => ⟨rfl, rfl⟩
    | exact fun _ => Or.inl ⟨rfl, rfl, rfl⟩ | exact fun _ => ⟨rfl, rfl, rfl⟩
    | exact fun k => Part.out_absurd (by decide : Part.within _ _ = true) (by decide) k | split | (lift_lets; intros)

theorem frame_nvmRead (m : Fin 6) (s u : State) (h : exec (.nvmRead m) s = .next u) :
    Frame (Part.record ||| Part.sys ||| Part.nvm) s u := by
  have h : run s (fun s => s.putReg m .nvmCmd 0 1) = .next u := h
  refine run_keep (by decide) h (fun x hx => ?_)
  refine State.putReg_keep nvmCmd_at (by decide) (Or.inl (by decide)) (fun y hy => ?_) hx
  unfold State.effect
  dsimp only
  repeat' first
    | with_reducible assumption | (with_reducible show Part.within _ _ = true; decide) | with_reducible refine Frame.ite ?_ ?_
    | with_reducible refine when_frame (fun _ _ => ?_) ?_ | with_reducible refine State.nvmCmd_frame ?_ ?_ | exact Nat.le_refl _
    | exact fun _ k => k | exact fun _ => rfl | exact fun _ _ => rfl | exact id | exact List.prefix_refl _ | exact fun _ => ⟨rfl, rfl⟩
    | exact fun _ => Or.inl ⟨rfl, rfl, rfl⟩ | exact fun _ => ⟨rfl, rfl, rfl⟩
    | exact fun k => Part.out_absurd (by decide : Part.within _ _ = true) (by decide) k | split | (lift_lets; intros)

theorem frame_nvmProgram (m : Fin 6) (s u : State) (h : exec (.nvmProgram m) s = .next u) :
    Frame (Part.record ||| Part.sys ||| Part.nvm) s u := by
  have h : run s (fun s => s.putReg m .nvmCmd 0 2) = .next u := h
  refine run_keep (by decide) h (fun x hx => ?_)
  refine State.putReg_keep nvmCmd_at (by decide) (Or.inl (by decide)) (fun y hy => ?_) hx
  unfold State.effect
  dsimp only
  repeat' first
    | with_reducible assumption | (with_reducible show Part.within _ _ = true; decide) | with_reducible refine Frame.ite ?_ ?_
    | with_reducible refine when_frame (fun _ _ => ?_) ?_ | with_reducible refine State.nvmCmd_frame ?_ ?_ | exact Nat.le_refl _
    | exact fun _ k => k | exact fun _ => rfl | exact fun _ _ => rfl | exact id | exact List.prefix_refl _ | exact fun _ => ⟨rfl, rfl⟩
    | exact fun _ => Or.inl ⟨rfl, rfl, rfl⟩ | exact fun _ => ⟨rfl, rfl, rfl⟩
    | exact fun k => Part.out_absurd (by decide : Part.within _ _ = true) (by decide) k | split | (lift_lets; intros)

theorem frame_erase4k (m : Fin 6) (s u : State) (h : exec (.erase4k m) s = .next u) :
    Frame (Part.record ||| Part.sys ||| Part.nvm) s u := by
  have h : run s (fun s => s.putReg m .nvmCmd 0 3) = .next u := h
  refine run_keep (by decide) h (fun x hx => ?_)
  refine State.putReg_keep nvmCmd_at (by decide) (Or.inl (by decide)) (fun y hy => ?_) hx
  unfold State.effect
  dsimp only
  repeat' first
    | with_reducible assumption | (with_reducible show Part.within _ _ = true; decide) | with_reducible refine Frame.ite ?_ ?_
    | with_reducible refine when_frame (fun _ _ => ?_) ?_ | with_reducible refine State.nvmCmd_frame ?_ ?_ | exact Nat.le_refl _
    | exact fun _ k => k | exact fun _ => rfl | exact fun _ _ => rfl | exact id | exact List.prefix_refl _ | exact fun _ => ⟨rfl, rfl⟩
    | exact fun _ => Or.inl ⟨rfl, rfl, rfl⟩ | exact fun _ => ⟨rfl, rfl, rfl⟩
    | exact fun k => Part.out_absurd (by decide : Part.within _ _ = true) (by decide) k | split | (lift_lets; intros)

theorem frame_erase64k (m : Fin 6) (s u : State) (h : exec (.erase64k m) s = .next u) :
    Frame (Part.record ||| Part.sys ||| Part.nvm) s u := by
  have h : run s (fun s => s.putReg m .nvmCmd 0 4) = .next u := h
  refine run_keep (by decide) h (fun x hx => ?_)
  refine State.putReg_keep nvmCmd_at (by decide) (Or.inl (by decide)) (fun y hy => ?_) hx
  unfold State.effect
  dsimp only
  repeat' first
    | with_reducible assumption | (with_reducible show Part.within _ _ = true; decide) | with_reducible refine Frame.ite ?_ ?_
    | with_reducible refine when_frame (fun _ _ => ?_) ?_ | with_reducible refine State.nvmCmd_frame ?_ ?_ | exact Nat.le_refl _
    | exact fun _ k => k | exact fun _ => rfl | exact fun _ _ => rfl | exact id | exact List.prefix_refl _ | exact fun _ => ⟨rfl, rfl⟩
    | exact fun _ => Or.inl ⟨rfl, rfl, rfl⟩ | exact fun _ => ⟨rfl, rfl, rfl⟩
    | exact fun k => Part.out_absurd (by decide : Part.within _ _ = true) (by decide) k | split | (lift_lets; intros)

theorem frame_portalCycLoRead (p : Fin 16) (m : Fin 6) (s u : State) (h : exec (.portalCycLoRead p m) s = .next u) :
    Frame (Part.record ||| Part.sys ||| Part.portals) s u := by
  have h : run s (fun s => s.getReg m .portalCycLo p) = .next u := h
  refine run_keep (by decide) h (fun x hx => ?_)
  refine State.getReg_keep (portalCycLo_at p) (by decide) (fun y hy => ?_) hx
  unfold State.readEffect
  dsimp only
  repeat' first
    | with_reducible assumption | (with_reducible show Part.within _ _ = true; decide) | with_reducible refine State.cycRead_frame ?_ ?_

theorem frame_cntSweepTtRead (m : Fin 6) (s u : State) (h : exec (.cntSweepTtRead m) s = .next u) :
    Frame (Part.record ||| Part.sys) s u := by
  have h : run s (fun s => s.getReg m .cntSweepTtLo 0) = .next u := h
  refine run_keep (by decide) h (fun x hx => ?_)
  refine State.getReg_keep cntSweepTtLo_at (by decide) (fun y hy => ?_) hx
  unfold State.readEffect
  dsimp only
  repeat' first
    | with_reducible assumption | (with_reducible show Part.within _ _ = true; decide)
    | with_reducible refine State.cntSweepTtRead_frame ?_ ?_

theorem frame_secCntRead (k : Fin 16) (m : Fin 6) (s u : State) (h : exec (.secCntRead k m) s = .next u) :
    Frame (Part.record ||| Part.sys ||| Part.sc) s u := by
  have h : run s (fun s => s.getReg m .secCntLo k) = .next u := h
  refine run_keep (by decide) h (fun x hx => ?_)
  refine State.getReg_keep (secCntLo_at k) (by decide) (fun y hy => ?_) hx
  unfold State.readEffect
  dsimp only
  repeat' first
    | with_reducible assumption | (with_reducible show Part.within _ _ = true; decide) | with_reducible refine State.secCntRead_frame ?_ ?_

end Sys2Proof.Machine
end

