-- ==== Sys2Proof/Laws/CommandsCatalogue.lean ====
section
/-!
SUPPORT. Sys2Proof/Laws/CommandsCatalogue.lean: the frame of each command of Machine/Catalogue.lean.
-/
set_option Elab.async false
namespace Sys2Proof.Machine
open Sys2Proof

theorem frame_catalogueSelect (s u : State) (h : exec .catalogueSelect s = .next u) :
    Frame (Part.record ||| Part.sys ||| Part.cat ||| Part.fio ||| Part.startup) s u := by
  have h : run s State.catSelect = .next u := h
  refine run_keep (by decide) h (fun x hx => ?_)
  repeat' first
    | with_reducible assumption | (with_reducible show Part.within _ _ = true; decide) | with_reducible refine State.catSelect_frame ?_ ?_

theorem frame_catalogueApply (s u : State) (h : exec .catalogueApply s = .next u) :
    Frame (Part.device ||| Part.startup) s u := by
  have h : run s State.catApply = .next u := h
  refine run_keep (by decide) h (fun x hx => ?_)
  repeat' first
    | with_reducible assumption | (with_reducible show Part.within _ _ = true; decide) | with_reducible refine State.catApply_frame ?_ ?_

theorem frame_catCommitVerifyDone (s u : State) (h : exec .catCommitVerifyDone s = .next u) :
    Frame (Part.record ||| Part.cat ||| Part.sc ||| Part.ilk ||| Part.conns ||| Part.twin ||| Part.mem ||| Part.free) s u := by
  have h : run s State.catCommitDone = .next u := h
  refine run_keep (by decide) h (fun x hx => ?_)
  repeat' first
    | with_reducible assumption | (with_reducible show Part.within _ _ = true; decide)
    | with_reducible refine State.catCommitDone_frame ?_ ?_

theorem frame_catPwLockoutEnd (s u : State) (h : exec .catPwLockoutEnd s = .next u) :
    Frame (Part.bk ||| Part.cat ||| Part.time ||| Part.mem ||| Part.outs) s u := by
  have h : run s State.pwLockoutEnd = .next u := h
  refine run_keep (by decide) h (fun x hx => ?_)
  repeat' first
    | with_reducible assumption | (with_reducible show Part.within _ _ = true; decide)
    | with_reducible refine State.pwLockoutEnd_frame ?_ ?_

theorem frame_fwCommitDone (s u : State) (h : exec .fwCommitDone s = .next u) :
    Frame (Part.record ||| Part.bk ||| Part.sc ||| Part.conns ||| Part.twin ||| Part.mem ||| Part.free) s u := by
  have h : run s State.fwCommitDone = .next u := h
  refine run_keep (by decide) h (fun x hx => ?_)
  repeat' first
    | with_reducible assumption | (with_reducible show Part.within _ _ = true; decide)
    | with_reducible refine State.fwCommitDone_frame ?_ ?_

end Sys2Proof.Machine
end

