-- ==== Sys2Proof/Laws/CommandsCounters.lean ====
section
/-!
SUPPORT. Sys2Proof/Laws/CommandsCounters.lean: the frame of each command of Machine/Counters.lean.
-/
set_option Elab.async false
namespace Sys2Proof.Machine
open Sys2Proof

theorem frame_sweepPeriodic (s u : State) (h : exec .sweepPeriodic s = .next u) :
    Frame (Part.bk ||| Part.cnt ||| Part.time ||| Part.outs) s u := by
  have h : run s State.sweepPeriodic = .next u := h
  refine run_keep (by decide) h (fun x hx => ?_)
  repeat' first
    | with_reducible assumption | (with_reducible show Part.within _ _ = true; decide)
    | with_reducible refine State.sweepPeriodic_frame ?_ ?_

end Sys2Proof.Machine
end

