-- ==== Sys2Proof/Laws/CommandsDriveLink.lean ====
section
/-!
SUPPORT. Sys2Proof/Laws/CommandsDriveLink.lean: the frame of each command of Machine/DriveLink.lean.
-/
set_option Elab.async false
namespace Sys2Proof.Machine
open Sys2Proof

theorem frame_dlReply (l : Fin 8) (frame : List Byte) (s u : State) (h : exec (.dlReply l frame) s = .next u) :
    Frame (Part.record ||| Part.portals ||| Part.axes ||| Part.links) s u := by
  have h : run s (fun s => s.dlReply l frame) = .next u := h
  refine run_keep (by decide) h (fun x hx => ?_)
  repeat' first
    | with_reducible assumption | (with_reducible show Part.within _ _ = true; decide) | with_reducible refine State.dlReply_frame ?_ ?_

theorem frame_dlUplinkTimeout (l : Fin 8) (s u : State) (h : exec (.dlUplinkTimeout l) s = .next u) :
    Frame (Part.record ||| Part.bk ||| Part.time ||| Part.portals ||| Part.axes ||| Part.links) s u := by
  have h : run s (fun s => s.dlTimeout l) = .next u := h
  refine run_keep (by decide) h (fun x hx => ?_)
  repeat' first
    | with_reducible assumption | (with_reducible show Part.within _ _ = true; decide) | with_reducible refine State.dlTimeout_frame ?_ ?_

theorem frame_dlStartIdleEnd (l : Fin 8) (s u : State) (h : exec (.dlStartIdleEnd l) s = .next u) :
    Frame (Part.bk ||| Part.time ||| Part.links ||| Part.outs) s u := by
  have h : run s (fun s => s.dlIdleEnd l) = .next u := h
  refine run_keep (by decide) h (fun x hx => ?_)
  repeat' first
    | with_reducible assumption | (with_reducible show Part.within _ _ = true; decide) | with_reducible refine State.dlIdleEnd_frame ?_ ?_

theorem frame_dlDelayMeasured (l : Fin 8) (trips : List Nat) (s u : State) (h : exec (.dlDelayMeasured l trips) s = .next u) :
    Frame (Part.record ||| Part.axes ||| Part.links) s u := by
  have h : run s (fun s => s.dlMeasured l trips) = .next u := h
  refine run_keep (by decide) h (fun x hx => ?_)
  repeat' first
    | with_reducible assumption | (with_reducible show Part.within _ _ = true; decide) | with_reducible refine State.dlMeasured_frame ?_ ?_

end Sys2Proof.Machine
end

