-- ==== Sys2Proof/Laws/CommandsFeedback.lean ====
section
/-!
SUPPORT. Sys2Proof/Laws/CommandsFeedback.lean: the frame of each command of Machine/Feedback.lean.
-/
set_option Elab.async false
namespace Sys2Proof.Machine
open Sys2Proof

theorem frame_homeReferenceFound (n : Fin 64) (s u : State) (h : exec (.homeReferenceFound n) s = .next u) :
    Frame (Part.record ||| Part.axes ||| Part.fb ||| Part.regs) s u := by
  have h : run s (fun s => s.homeReference n) = .next u := h
  refine run_keep (by decide) h (fun x hx => ?_)
  repeat' first
    | with_reducible assumption | (with_reducible show Part.within _ _ = true; decide)
    | with_reducible refine State.homeReference_frame ?_ ?_

theorem frame_homeDwellElapsed (n : Fin 64) (s u : State) (h : exec (.homeDwellElapsed n) s = .next u) :
    Frame (Part.record ||| Part.bk ||| Part.time ||| Part.axes ||| Part.fb ||| Part.regs) s u := by
  have h : run s (fun s => s.homeDwell n) = .next u := h
  refine run_keep (by decide) h (fun x hx => ?_)
  repeat' first
    | with_reducible assumption | (with_reducible show Part.within _ _ = true; decide) | with_reducible refine State.homeDwell_frame ?_ ?_

theorem frame_fbIllegal (n : Fin 64) (s u : State) (h : exec (.fbIllegal n) s = .next u) :
    Frame (Part.record ||| Part.axes ||| Part.fb) s u := by
  have h : run s (fun s => s.fbIllegal n) = .next u := h
  refine run_keep (by decide) h (fun x hx => ?_)
  repeat' first
    | with_reducible assumption | (with_reducible show Part.within _ _ = true; decide) | with_reducible refine State.fbIllegal_frame ?_ ?_

theorem frame_fbLineBroken (n : Fin 64) (broken : Bool) (s u : State) (h : exec (.fbLineBroken n broken) s = .next u) :
    Frame (Part.record ||| Part.axes ||| Part.fb) s u := by
  have h : run s (fun s => s.fbLine n broken) = .next u := h
  refine run_keep (by decide) h (fun x hx => ?_)
  repeat' first
    | with_reducible assumption | (with_reducible show Part.within _ _ = true; decide) | with_reducible refine State.fbLine_frame ?_ ?_

theorem frame_fbAmplitudeFault (n : Fin 64) (s u : State) (h : exec (.fbAmplitudeFault n) s = .next u) :
    Frame (Part.record ||| Part.axes ||| Part.fb) s u := by
  have h : run s (fun s => when_ (s.fbMode n == 2 && decide (8 ≤ (s.fbp n).amplRun)) (fun s => s.fbFault n 1) s) = .next u := h
  refine run_keep (by decide) h (fun x hx => ?_)
  repeat' first
    | with_reducible assumption | (with_reducible show Part.within _ _ = true; decide) | with_reducible refine Frame.ite ?_ ?_
    | with_reducible refine when_frame (fun _ _ => ?_) ?_ | with_reducible refine State.fbFault_frame ?_ ?_

theorem frame_fbIndex (n : Fin 64) (s u : State) (h : exec (.fbIndex n) s = .next u) :
    Frame (Part.record ||| Part.portals ||| Part.axes ||| Part.fb) s u := by
  have h : run s (fun s => s.fbIndex n) = .next u := h
  refine run_keep (by decide) h (fun x hx => ?_)
  repeat' first
    | with_reducible assumption | (with_reducible show Part.within _ _ = true; decide) | with_reducible refine State.fbIndex_frame ?_ ?_

theorem frame_compareHit (n : Fin 64) (s u : State) (h : exec (.compareHit n) s = .next u) :
    Frame (Part.fb ||| Part.regs ||| Part.outs) s u := by
  have h : run s (fun s => s.cmpHit n) = .next u := h
  refine run_keep (by decide) h (fun x hx => ?_)
  repeat' first
    | with_reducible assumption | (with_reducible show Part.within _ _ = true; decide) | with_reducible refine State.cmpHit_frame ?_ ?_

theorem frame_fbDivLag (n : Fin 64) (s u : State) (h : exec (.fbDivLag n) s = .next u) :
    Frame (Part.record ||| Part.fb) s u := by
  have h : run s (fun s => s.divLag n) = .next u := h
  refine run_keep (by decide) h (fun x hx => ?_)
  repeat' first
    | with_reducible assumption | (with_reducible show Part.within _ _ = true; decide) | with_reducible refine State.divLag_frame ?_ ?_

theorem frame_speedWindow (n : Fin 64) (s u : State) (h : exec (.speedWindow n) s = .next u) :
    Frame (Part.bk ||| Part.time ||| Part.fb ||| Part.outs) s u := by
  have h : run s (fun s => s.speedWindow n) = .next u := h
  refine run_keep (by decide) h (fun x hx => ?_)
  repeat' first
    | with_reducible assumption | (with_reducible show Part.within _ _ = true; decide)
    | with_reducible refine State.speedWindow_frame ?_ ?_

theorem frame_ssiFrame (n : Fin 64) (frame : Nat) (high : Bool) (low : Bool) (s u : State) (h : exec (.ssiFrame n frame high low) s =
    .next u) :
    Frame (Part.record ||| Part.portals ||| Part.obs ||| Part.axes ||| Part.fb) s u := by
  have h : run s (fun s => (s.ssiFrame n frame high low).probeDue s n) = .next u := h
  refine run_keep (by decide) h (fun x hx => ?_)
  repeat' first
    | with_reducible assumption | (with_reducible show Part.within _ _ = true; decide) | with_reducible refine Frame.ite ?_ ?_
    | with_reducible refine State.ssiFrame_frame ?_ ?_ | with_reducible refine State.probeDue_frame ?_ ?_ | split | (lift_lets; intros)

theorem frame_fbCount (n : Fin 64) (a : Bool) (bb : Bool) (held : Nat) (s u : State) (h : exec (.fbCount n a bb held sample) s = .next
    u) :
    Frame (Part.record ||| Part.portals ||| Part.obs ||| Part.axes ||| Part.fb) s u := by
  have h : run s (fun s => (s.fbCount n a bb held sample).probeDue s n) = .next u := h
  refine run_keep (by decide) h (fun x hx => ?_)
  repeat' first
    | with_reducible assumption | (with_reducible show Part.within _ _ = true; decide) | with_reducible refine Frame.ite ?_ ?_
    | with_reducible refine State.fbCount_frame ?_ ?_ | with_reducible refine State.probeDue_frame ?_ ?_ | split | (lift_lets; intros)

end Sys2Proof.Machine
end

