-- ==== Sys2Proof/Laws/CommandsField.lean ====
section
/-!
SUPPORT. Sys2Proof/Laws/CommandsField.lean: the frame of each command of Machine/Field.lean.
-/
set_option Elab.async false
namespace Sys2Proof.Machine
open Sys2Proof

theorem frame_fieldFrame (s u : State) (h : exec .fieldFrame s = .next u) :
    Frame (Part.record ||| Part.bk ||| Part.time ||| Part.axes ||| Part.ilk ||| Part.fio ||| Part.loads) s u := by
  have h : run s State.fieldFrame = .next u := h
  refine run_keep (by decide) h (fun x hx => ?_)
  repeat' first
    | with_reducible assumption | (with_reducible show Part.within _ _ = true; decide) | with_reducible refine State.fieldFrame_frame ?_ ?_

theorem frame_fieldReply (k : Fin 12) (bytes : List Byte) (s u : State) (h : exec (.fieldReply k bytes) s = .next u) :
    Frame (Part.record ||| Part.axes ||| Part.ilk ||| Part.fio) s u := by
  have h : run s (fun s => s.fieldReply k bytes) = .next u := h
  refine run_keep (by decide) h (fun x hx => ?_)
  repeat' first
    | with_reducible assumption | (with_reducible show Part.within _ _ = true; decide) | with_reducible refine State.fieldReply_frame ?_ ?_

theorem frame_fieldReplyMissing (k : Fin 12) (s u : State) (h : exec (.fieldReplyMissing k) s = .next u) :
    Frame (Part.record ||| Part.bk ||| Part.time ||| Part.axes ||| Part.ilk ||| Part.fio) s u := by
  have h : run s (fun s => s.replyMissing k) = .next u := h
  refine run_keep (by decide) h (fun x hx => ?_)
  repeat' first
    | with_reducible assumption | (with_reducible show Part.within _ _ = true; decide) | with_reducible refine Frame.ite ?_ ?_
    | with_reducible refine State.replyMissing_frame ?_ ?_ | split | (lift_lets; intros)

theorem frame_tileFrameReceive (k : Fin 12) (bytes : List Byte) (vals : List Nat) (s u : State) (h : exec (.tileFrameReceive k bytes vals) s = .next u) :
    Frame (Part.record ||| Part.fio ||| Part.loads) s u := by
  have h : run s (fun s => when_ (s.die k).powered (fun s =>
        let s1 := s.takeFrame k bytes
        if k.val < 8 then s1.tileReply k vals else s1.dieReply k vals) s) = .next u := h
  refine run_keep (by decide) h (fun x hx => ?_)
  repeat' first
    | with_reducible assumption | (with_reducible show Part.within _ _ = true; decide) | with_reducible refine Frame.ite ?_ ?_
    | with_reducible refine when_frame (fun _ _ => ?_) ?_ | with_reducible refine State.takeFrame_frame ?_ ?_
    | with_reducible refine State.tileReply_frame ?_ ?_ | with_reducible refine State.dieReply_frame ?_ ?_ | split | (lift_lets; intros)

theorem frame_tileApply (k : Fin 12) (s u : State) (h : exec (.tileApply k) s = .next u) :
    Frame (Part.record ||| Part.bk ||| Part.time ||| Part.fio ||| Part.loads) s u := by
  have h : run s (fun s => s.applyFrame k) = .next u := h
  refine run_keep (by decide) h (fun x hx => ?_)
  repeat' first
    | with_reducible assumption | (with_reducible show Part.within _ _ = true; decide) | with_reducible refine State.applyFrame_frame ?_ ?_

theorem frame_tileTimeout (k : Fin 12) (s u : State) (h : exec (.tileTimeout k) s = .next u) :
    Frame (Part.record ||| Part.bk ||| Part.time ||| Part.fio ||| Part.loads) s u := by
  have h : run s (fun s => s.tileTimeout k) = .next u := h
  refine run_keep (by decide) h (fun x hx => ?_)
  repeat' first
    | with_reducible assumption | (with_reducible show Part.within _ _ = true; decide)
    | with_reducible refine State.tileTimeout_frame ?_ ?_

theorem frame_tilePowerUp (k : Fin 12) (s u : State) (h : exec (.tilePowerUp k) s = .next u) :
    Frame (Part.fio ||| Part.loads ||| Part.outs) s u := by
  have h : run s (fun s => s.powerUp k) = .next u := h
  refine run_keep (by decide) h (fun x hx => ?_)
  repeat' first
    | with_reducible assumption | (with_reducible show Part.within _ _ = true; decide) | with_reducible refine Frame.ite ?_ ?_
    | with_reducible refine State.powerUp_frame ?_ ?_ | split | (lift_lets; intros)

theorem frame_tileSupplyLoss (k : Fin 12) (s u : State) (h : exec (.tileSupplyLoss k) s = .next u) :
    Frame (Part.fio ||| Part.loads ||| Part.outs) s u := by
  have h : run s (fun s => s.supplyLoss k) = .next u := h
  refine run_keep (by decide) h (fun x hx => ?_)
  repeat' first
    | with_reducible assumption | (with_reducible show Part.within _ _ = true; decide) | with_reducible refine State.supplyLoss_frame ?_ ?_

theorem frame_fieldInputEdge (c : Fin 256) (s u : State) (h : exec (.fieldInputEdge c) s = .next u) :
    Frame (Part.fio ||| Part.outs) s u := by
  have h : run s (fun s => s.inputEdge c) = .next u := h
  refine run_keep (by decide) h (fun x hx => ?_)
  repeat' first
    | with_reducible assumption | (with_reducible show Part.within _ _ = true; decide) | with_reducible refine State.inputEdge_frame ?_ ?_

theorem frame_wettingEnd (c : Fin 256) (s u : State) (h : exec (.wettingEnd c) s = .next u) :
    Frame (Part.bk ||| Part.time ||| Part.fio ||| Part.outs) s u := by
  have h : run s (fun s => s.wettingEnd c) = .next u := h
  refine run_keep (by decide) h (fun x hx => ?_)
  repeat' first
    | with_reducible assumption | (with_reducible show Part.within _ _ = true; decide) | with_reducible refine State.wettingEnd_frame ?_ ?_

theorem frame_wireBreak (c : Fin 256) (present : Bool) (s u : State) (h : exec (.wireBreak c present) s = .next u) :
    Frame (Part.record ||| Part.fio) s u := by
  have h : run s (fun s => if !present then s.causeGone c 2
        else let d := s.die (c.val / 32)
             when_ (!d.isOut (c.val % 32) && (d.word (c.val % 32)).testBit 13) (fun s => s.latchDiag c 2 true) s) = .next u := h
  refine run_keep (by decide) h (fun x hx => ?_)
  repeat' first
    | with_reducible assumption | (with_reducible show Part.within _ _ = true; decide) | with_reducible refine Frame.ite ?_ ?_
    | with_reducible refine when_frame (fun _ _ => ?_) ?_ | with_reducible refine State.causeGone_frame ?_ ?_
    | with_reducible refine State.latchDiag_frame ?_ ?_ | split | (lift_lets; intros)

theorem frame_outputOverload (c : Fin 256) (kind : Fin 3) (s u : State) (h : exec (.outputOverload c kind) s = .next u) :
    Frame (Part.record ||| Part.fio) s u := by
  have h : run s (fun s => s.overload c kind) = .next u := h
  refine run_keep (by decide) h (fun x hx => ?_)
  repeat' first
    | with_reducible assumption | (with_reducible show Part.within _ _ = true; decide) | with_reducible refine State.overload_frame ?_ ?_

theorem frame_outputReadback (c : Fin 256) (s u : State) (h : exec (.outputReadback c) s = .next u) :
    Frame (Part.record ||| Part.bk ||| Part.time ||| Part.fio) s u := by
  have h : run s (fun s => let d := s.die (c.val / 32)
        when_ (d.driven.testBit (c.val % 32)) (fun s => (s.passTo (Table.get 0 d.changed (c.val % 32) + us 200)).latchDiag c 6 false) s) = .next u := h
  refine run_keep (by decide) h (fun x hx => ?_)
  repeat' first
    | with_reducible assumption | (with_reducible show Part.within _ _ = true; decide) | with_reducible refine Frame.ite ?_ ?_
    | with_reducible refine when_frame (fun _ _ => ?_) ?_ | with_reducible refine State.passTo_frame ?_ ?_
    | with_reducible refine State.latchDiag_frame ?_ ?_

theorem frame_openWire (c : Fin 256) (present : Bool) (s u : State) (h : exec (.openWire c present) s = .next u) :
    Frame (Part.record ||| Part.fio) s u := by
  have h : run s (fun s => if !present then s.causeGone c 1
        else let d := s.die (c.val / 32)
             when_ (d.isOut (c.val % 32) && (d.word (c.val % 32)).testBit 12 && !d.driven.testBit (c.val % 32)) (fun s => s.latchDiag c 1 true) s) = .next u := h
  refine run_keep (by decide) h (fun x hx => ?_)
  repeat' first
    | with_reducible assumption | (with_reducible show Part.within _ _ = true; decide) | with_reducible refine Frame.ite ?_ ?_
    | with_reducible refine when_frame (fun _ _ => ?_) ?_ | with_reducible refine State.causeGone_frame ?_ ?_
    | with_reducible refine State.latchDiag_frame ?_ ?_ | split | (lift_lets; intros)

theorem frame_fldTpOverload (g : Fin 64) (s u : State) (h : exec (.fldTpOverload g) s = .next u) :
    Frame (Part.record ||| Part.fio) s u := by
  have h : run s (fun s => s.tpOverload g) = .next u := h
  refine run_keep (by decide) h (fun x hx => ?_)
  repeat' first
    | with_reducible assumption | (with_reducible show Part.within _ _ = true; decide) | with_reducible refine State.tpOverload_frame ?_ ?_

theorem frame_testPulseStart (g : Fin 64) (s u : State) (h : exec (.testPulseStart g) s = .next u) :
    Frame (Part.bk ||| Part.time ||| Part.fio ||| Part.outs) s u := by
  have h : run s (fun s => s.pulseStarts g) = .next u := h
  refine run_keep (by decide) h (fun x hx => ?_)
  repeat' first
    | with_reducible assumption | (with_reducible show Part.within _ _ = true; decide)
    | with_reducible refine State.pulseStarts_frame ?_ ?_

theorem frame_testPulseWindowEnd (g : Fin 64) (still : Nat) (s u : State) (h : exec (.testPulseWindowEnd g still) s = .next u) :
    Frame (Part.bk ||| Part.time ||| Part.fio ||| Part.outs) s u := by
  have h : run s (fun s => s.windowEnds g still) = .next u := h
  refine run_keep (by decide) h (fun x hx => ?_)
  repeat' first
    | with_reducible assumption | (with_reducible show Part.within _ _ = true; decide) | with_reducible refine State.windowEnds_frame ?_ ?_

theorem frame_mrstPressBegin (j : Fin 4) (s u : State) (h : exec (.mrstPressBegin j) s = .next u) :
    Frame (Part.fio ||| Part.outs) s u := by
  have h : run s (fun s => when_ ((s.mrst j).active && (s.mrst j).released && (s.mrst j).press.isNone) (fun s => s.modMrst j (fun m =>
    { m with press := some m.onSince, released := false })) s) = .next u := h
  refine run_keep (by decide) h (fun x hx => ?_)
  repeat' first
    | with_reducible assumption | (with_reducible show Part.within _ _ = true; decide) | with_reducible refine Frame.ite ?_ ?_
    | with_reducible refine when_frame (fun _ _ => ?_) ?_
    | with_reducible refine State.modMrst_frame ?_ ?_ | split | (lift_lets; intros)

theorem frame_mrstPressEnd (i : Fin 4) (s u : State) (h : exec (.mrstPressEnd i) s = .next u) :
    Frame (Part.record ||| Part.fio) s u := by
  have h : run s (fun s => s.pressEnd i) = .next u := h
  refine run_keep (by decide) h (fun x hx => ?_)
  repeat' first
    | with_reducible assumption | (with_reducible show Part.within _ _ = true; decide) | with_reducible refine State.pressEnd_frame ?_ ?_

theorem frame_fldMrstStuck (i : Fin 4) (s u : State) (h : exec (.fldMrstStuck i) s = .next u) :
    Frame (Part.record ||| Part.bk ||| Part.time ||| Part.fio) s u := by
  have h : run s (fun s => s.mrstStuck i) = .next u := h
  refine run_keep (by decide) h (fun x hx => ?_)
  repeat' first
    | with_reducible assumption | (with_reducible show Part.within _ _ = true; decide) | with_reducible refine State.mrstStuck_frame ?_ ?_

theorem frame_mrstReleased (i : Fin 4) (s u : State) (h : exec (.mrstReleased i) s = .next u) :
    Frame (Part.record ||| Part.bk ||| Part.time ||| Part.seq ||| Part.axes ||| Part.fio ||| Part.twin ||| Part.actions) s u := by
  have h : run s (fun s => when_ (!(s.mrst i).active && (s.mrst i).press.isNone) (fun s =>
        (s.passTo ((s.mrst i).offSince + sec 1)).modMrst i (fun m => { m with released := true, stuck := false })) s) = .next u := h
  refine run_keep (by decide) h (fun x hx => ?_)
  repeat' first
    | with_reducible assumption | (with_reducible show Part.within _ _ = true; decide) | with_reducible refine Frame.ite ?_ ?_
    | with_reducible refine when_frame (fun _ _ => ?_) ?_ | with_reducible refine State.passTo_frame ?_ ?_
    | with_reducible refine State.modMrst_frame ?_ ?_ | exact Nat.le_refl _
    | exact fun _ k => k | exact fun _ => rfl | exact fun _ _ => rfl | exact id | exact List.prefix_refl _ | exact fun _ => ⟨rfl, rfl⟩
    | exact fun _ => Or.inl ⟨rfl, rfl, rfl⟩ | exact fun _ => ⟨rfl, rfl, rfl⟩
    | exact fun k => Part.out_absurd (by decide : Part.within _ _ = true) (by decide) k | split | (lift_lets; intros)

end Sys2Proof.Machine
end

