-- ==== Sys2Proof/Laws/CommandsInterlock.lean ====
section
/-!
SUPPORT. Sys2Proof/Laws/CommandsInterlock.lean: the frame of each command of Machine/Interlock.lean.
-/
set_option Elab.async false
namespace Sys2Proof.Machine
open Sys2Proof

theorem frame_paramCrcCheck (s u : State) (h : exec .paramCrcCheck s = .next u) :
    Frame (Part.record ||| Part.sys ||| Part.seq ||| Part.portals ||| Part.obs ||| Part.axes ||| Part.ilk ||| Part.loads |||
      Part.twin ||| Part.mem ||| Part.free ||| Part.states) s u := by
  have h : run s State.paramCrc = .next u := h
  refine run_keep (by decide) h (fun x hx => ?_)
  repeat' first
    | with_reducible assumption | (with_reducible show Part.within _ _ = true; decide) | with_reducible refine State.paramCrc_frame ?_ ?_

theorem frame_switchOpenInLocked (p : Fin 16) (s u : State) (h : exec (.switchOpenInLocked p) s = .next u) :
    Frame (Part.record ||| Part.ilk) s u := by
  have h : run s (fun s => when_ ((s.portal p).st == .locked && !s.lockedSwitches p 0) (fun s => s.channelA) s) = .next u := h
  refine run_keep (by decide) h (fun x hx => ?_)
  repeat' first
    | with_reducible assumption | (with_reducible show Part.within _ _ = true; decide) | with_reducible refine Frame.ite ?_ ?_
    | with_reducible refine when_frame (fun _ _ => ?_) ?_ | with_reducible refine State.channelA_frame ?_ ?_

theorem frame_ilkCrossDisagree (pair : Fin 2) (s u : State) (h : exec (.ilkCrossDisagree pair) s = .next u) :
    Frame (Part.record ||| Part.sys ||| Part.bk ||| Part.time ||| Part.seq ||| Part.portals ||| Part.obs ||| Part.axes ||| Part.ilk
      ||| Part.loads ||| Part.twin ||| Part.mem ||| Part.free ||| Part.states) s u := by
  have h : run s (fun s => s.crossFault pair) = .next u := h
  refine run_keep (by decide) h (fun x hx => ?_)
  repeat' first
    | with_reducible assumption | (with_reducible show Part.within _ _ = true; decide) | with_reducible refine State.crossFault_frame ?_ ?_

theorem frame_ilkDiscrepancy (i : Fin 40) (s u : State) (h : exec (.ilkDiscrepancy i) s = .next u) :
    Frame (Part.record ||| Part.bk ||| Part.time ||| Part.ilk) s u := by
  have h : run s (fun s => s.discrepancy i) = .next u := h
  refine run_keep (by decide) h (fun x hx => ?_)
  repeat' first
    | with_reducible assumption | (with_reducible show Part.within _ _ = true; decide)
    | with_reducible refine State.discrepancy_frame ?_ ?_

theorem frame_soOffPulse (k : Fin 4) (s u : State) (h : exec (.soOffPulse k) s = .next u) :
    Frame (Part.bk ||| Part.time ||| Part.ilk ||| Part.outs) s u := by
  have h : run s (fun s => s.offPulse k) = .next u := h
  refine run_keep (by decide) h (fun x hx => ?_)
  repeat' first
    | with_reducible assumption | (with_reducible show Part.within _ _ = true; decide) | with_reducible refine State.offPulse_frame ?_ ?_

theorem frame_soPulseEnd (k : Fin 4) (wentOff backOn : Bool) (s u : State) (h : exec (.soPulseEnd k wentOff backOn) s = .next u) :
    Frame (Part.record ||| Part.sys ||| Part.bk ||| Part.time ||| Part.seq ||| Part.portals ||| Part.obs ||| Part.axes ||| Part.ilk
      ||| Part.loads ||| Part.twin ||| Part.mem ||| Part.free ||| Part.states) s u := by
  have h : run s (fun s => s.pulseEnds k wentOff backOn) = .next u := h
  refine run_keep (by decide) h (fun x hx => ?_)
  repeat' first
    | with_reducible assumption | (with_reducible show Part.within _ _ = true; decide) | with_reducible refine State.pulseEnds_frame ?_ ?_

theorem frame_ilkMonFault (i : Fin 20) (s u : State) (h : exec (.ilkMonFault i) s = .next u) :
    Frame (Part.record ||| Part.sys ||| Part.bk ||| Part.time ||| Part.seq ||| Part.portals ||| Part.obs ||| Part.axes ||| Part.ilk
      ||| Part.loads ||| Part.twin ||| Part.mem ||| Part.free ||| Part.states) s u := by
  have h : run s (fun s => s.monFault i) = .next u := h
  refine run_keep (by decide) h (fun x hx => ?_)
  repeat' first
    | with_reducible assumption | (with_reducible show Part.within _ _ = true; decide) | with_reducible refine State.monFault_frame ?_ ?_

theorem frame_brakeTestStart (n : Fin 64) (s u : State) (h : exec (.brakeTestStart n) s = .next u) :
    Frame (Part.axes ||| Part.ilk ||| Part.loads ||| Part.outs) s u := by
  have h : run s (fun s => s.testStart n) = .next u := h
  refine run_keep (by decide) h (fun x hx => ?_)
  repeat' first
    | with_reducible assumption | (with_reducible show Part.within _ _ = true; decide) | with_reducible refine State.testStart_frame ?_ ?_

theorem frame_brakeTestPhaseEnd (n : Fin 64) (s u : State) (h : exec (.brakeTestPhaseEnd n) s = .next u) :
    Frame (Part.record ||| Part.sys ||| Part.bk ||| Part.time ||| Part.seq ||| Part.portals ||| Part.obs ||| Part.axes ||| Part.ilk
      ||| Part.loads ||| Part.twin ||| Part.mem ||| Part.free ||| Part.states) s u := by
  have h : run s (fun s => s.testPhaseEnd n) = .next u := h
  refine run_keep (by decide) h (fun x hx => ?_)
  repeat' first
    | with_reducible assumption | (with_reducible show Part.within _ _ = true; decide)
    | with_reducible refine State.testPhaseEnd_frame ?_ ?_

theorem frame_brakeTestTorqueTimeout (n : Fin 64) (s u : State) (h : exec (.brakeTestTorqueTimeout n) s = .next u) :
    Frame (Part.record ||| Part.sys ||| Part.bk ||| Part.time ||| Part.seq ||| Part.portals ||| Part.obs ||| Part.axes ||| Part.ilk
      ||| Part.loads ||| Part.twin ||| Part.mem ||| Part.free ||| Part.states) s u := by
  have h : run s (fun s => s.torqueTimeout n) = .next u := h
  refine run_keep (by decide) h (fun x hx => ?_)
  repeat' first
    | with_reducible assumption | (with_reducible show Part.within _ _ = true; decide)
    | with_reducible refine State.torqueTimeout_frame ?_ ?_

theorem frame_brakeTestOverdue (n : Fin 64) (s u : State) (h : exec (.brakeTestOverdue n) s = .next u) :
    Frame (Part.record ||| Part.bk ||| Part.time ||| Part.ilk) s u := by
  have h : run s (fun s => s.testOverdue n) = .next u := h
  refine run_keep (by decide) h (fun x hx => ?_)
  repeat' first
    | with_reducible assumption | (with_reducible show Part.within _ _ = true; decide)
    | with_reducible refine State.testOverdue_frame ?_ ?_

theorem frame_soReadbackFail (k : Fin 4) (level : Bool) (s u : State) (h : exec (.soReadbackFail k level) s = .next u) :
    Frame (Part.record ||| Part.sys ||| Part.bk ||| Part.time ||| Part.seq ||| Part.portals ||| Part.obs ||| Part.axes ||| Part.ilk
      ||| Part.loads ||| Part.twin ||| Part.mem ||| Part.free ||| Part.states) s u := by
  have h : run s (fun s => s.readbackNow k level) = .next u := h
  refine run_keep (by decide) h (fun x hx => ?_)
  repeat' first
    | with_reducible assumption | (with_reducible show Part.within _ _ = true; decide)
    | with_reducible refine State.readbackNow_frame ?_ ?_

end Sys2Proof.Machine
end

