-- ==== Sys2Proof/Laws/CommandsLoads.lean ====
section
/-!
SUPPORT. Sys2Proof/Laws/CommandsLoads.lean: the frame of each command of Machine/Loads.lean.
-/
set_option Elab.async false
namespace Sys2Proof.Machine
open Sys2Proof

theorem frame_lsOnDelayEnd (n : Fin 32) (s u : State) (h : exec (.lsOnDelayEnd n) s = .next u) :
    Frame (Part.bk ||| Part.time ||| Part.loads ||| Part.outs) s u := by
  have h : run s (fun s => match (s.sw n).onDue with
        | some t => (s.passTo t).modSw n (fun w => { w with cmd := true, onDue := none })
        | none => s) = .next u := h
  refine run_keep (by decide) h (fun x hx => ?_)
  repeat' first
    | with_reducible assumption | (with_reducible show Part.within _ _ = true; decide) | with_reducible refine Frame.ite ?_ ?_
    | with_reducible refine when_frame (fun _ _ => ?_) ?_ | with_reducible refine State.passTo_frame ?_ ?_
    | with_reducible refine State.modSw_frame ?_ ?_ | exact Nat.le_refl _ | exact fun _ k => k | exact fun _ => rfl | exact fun _ _ => rfl
    | exact id | exact List.prefix_refl _ | exact fun _ => ⟨rfl, rfl⟩ | exact fun _ => Or.inl ⟨rfl, rfl, rfl⟩
    | exact fun _ => ⟨rfl, rfl, rfl⟩ | exact fun k => Part.out_absurd (by decide : Part.within _ _ = true) (by decide) k | split
    | (lift_lets; intros)

theorem frame_lsInrushEnd (n : Fin 32) (s u : State) (h : exec (.lsInrushEnd n) s = .next u) :
    Frame (Part.bk ||| Part.time ||| Part.loads ||| Part.outs) s u := by
  have h : run s (fun s => when_ ((s.sw n).st == .inrush) (fun s =>
        let s1 := s.passTo ((s.sw n).entered + s.swInrushT n)
        s1.modSw n (fun w => { w with st := .on, entered := s1.lt, deferrals := 0 })) s) = .next u := h
  refine run_keep (by decide) h (fun x hx => ?_)
  repeat' first
    | with_reducible assumption | (with_reducible show Part.within _ _ = true; decide) | with_reducible refine Frame.ite ?_ ?_
    | with_reducible refine when_frame (fun _ _ => ?_) ?_ | with_reducible refine State.passTo_frame ?_ ?_
    | with_reducible refine State.modSw_frame ?_ ?_ | exact Nat.le_refl _ | exact fun _ k => k | exact fun _ => rfl | exact fun _ _ => rfl
    | exact id | exact List.prefix_refl _ | exact fun _ => ⟨rfl, rfl⟩ | exact fun _ => Or.inl ⟨rfl, rfl, rfl⟩
    | exact fun _ => ⟨rfl, rfl, rfl⟩ | exact fun k => Part.out_absurd (by decide : Part.within _ _ = true) (by decide) k | split
    | (lift_lets; intros)

theorem frame_lsShort (n : Fin 32) (s u : State) (h : exec (.lsShort n) s = .next u) :
    Frame (Part.record ||| Part.loads) s u := by
  have h : run s (fun s => when_ ((s.sw n).st == .on) (fun s => s.shortTrip n false) s) = .next u := h
  refine run_keep (by decide) h (fun x hx => ?_)
  repeat' first
    | with_reducible assumption | (with_reducible show Part.within _ _ = true; decide) | with_reducible refine Frame.ite ?_ ?_
    | with_reducible refine when_frame (fun _ _ => ?_) ?_ | with_reducible refine State.shortTrip_frame ?_ ?_

theorem frame_lsRetry (n : Fin 32) (s u : State) (h : exec (.lsRetry n) s = .next u) :
    Frame (Part.record ||| Part.bk ||| Part.time ||| Part.loads) s u := by
  have h : run s (fun s =>
        let w := s.sw n
        if w.st = .retryWait then (s.passTo (w.entered + s.swRetryT n)).startSwitch n true
        else if w.st = .deferred ∧ w.heldStart = none then (s.passTo (w.entered + s.swRetryT n)).startSwitch n false
        else s) = .next u := h
  refine run_keep (by decide) h (fun x hx => ?_)
  repeat' first
    | with_reducible assumption | (with_reducible show Part.within _ _ = true; decide) | with_reducible refine Frame.ite ?_ ?_
    | with_reducible refine when_frame (fun _ _ => ?_) ?_ | with_reducible refine State.passTo_frame ?_ ?_
    | with_reducible refine State.startSwitch_frame ?_ ?_ | split | (lift_lets; intros)

theorem frame_lsRetriesReset (n : Fin 32) (s u : State) (h : exec (.lsRetriesReset n) s = .next u) :
    Frame (Part.bk ||| Part.time ||| Part.loads ||| Part.outs) s u := by
  have h : run s (fun s => when_ ((s.sw n).st == .on) (fun s =>
        (s.passTo ((s.sw n).entered + sec 1)).modSw n (fun w => { w with left := s.swRetries n })) s) = .next u := h
  refine run_keep (by decide) h (fun x hx => ?_)
  repeat' first
    | with_reducible assumption | (with_reducible show Part.within _ _ = true; decide) | with_reducible refine Frame.ite ?_ ?_
    | with_reducible refine when_frame (fun _ _ => ?_) ?_ | with_reducible refine State.passTo_frame ?_ ?_
    | with_reducible refine State.modSw_frame ?_ ?_ | exact Nat.le_refl _ | exact fun _ k => k | exact fun _ => rfl | exact fun _ _ => rfl
    | exact id | exact List.prefix_refl _ | exact fun _ => ⟨rfl, rfl⟩ | exact fun _ => Or.inl ⟨rfl, rfl, rfl⟩
    | exact fun _ => ⟨rfl, rfl, rfl⟩ | exact fun k => Part.out_absurd (by decide : Part.within _ _ = true) (by decide) k | split
    | (lift_lets; intros)

theorem frame_lsThermal (n : Fin 32) (s u : State) (h : exec (.lsThermal n) s = .next u) :
    Frame (Part.record ||| Part.loads) s u := by
  have h : run s (fun s => s.thermalTrip n) = .next u := h
  refine run_keep (by decide) h (fun x hx => ?_)
  repeat' first
    | with_reducible assumption | (with_reducible show Part.within _ _ = true; decide)
    | with_reducible refine State.thermalTrip_frame ?_ ?_

theorem frame_lsThermalRelease (n : Fin 32) (s u : State) (h : exec (.lsThermalRelease n) s = .next u) :
    Frame (Part.record ||| Part.loads) s u := by
  have h : run s (fun s => s.thermalRelease n) = .next u := h
  refine run_keep (by decide) h (fun x hx => ?_)
  repeat' first
    | with_reducible assumption | (with_reducible show Part.within _ _ = true; decide)
    | with_reducible refine State.thermalRelease_frame ?_ ?_

theorem frame_lsOpenLoad (n : Fin 32) (s u : State) (h : exec (.lsOpenLoad n) s = .next u) :
    Frame (Part.record ||| Part.loads) s u := by
  have h : run s (fun s => when_ (s.swOlEn n && (s.sw n).st == .on && !(s.sw n).openLoad) (fun s => (s.modSw n (fun w => { w with
    openLoad := true, current := 0 })).raise 0x9009 n) s) = .next u := h
  refine run_keep (by decide) h (fun x hx => ?_)
  repeat' first
    | with_reducible assumption | (with_reducible show Part.within _ _ = true; decide) | with_reducible refine Frame.ite ?_ ?_
    | with_reducible refine when_frame (fun _ _ => ?_) ?_ | with_reducible refine State.modSw_frame ?_ ?_
    | with_reducible refine State.raise_frame ?_ ?_ | split | (lift_lets; intros)

theorem frame_lsReadback (n : Fin 32) (s u : State) (h : exec (.lsReadback n) s = .next u) :
    Frame (Part.record ||| Part.loads) s u := by
  have h : run s (fun s => when_ ((s.sw n).st == .on) (fun s =>
        ((s.modSw n (fun w => { w with readback := true })).raise 0x9013 n).shortTrip n false) s) = .next u := h
  refine run_keep (by decide) h (fun x hx => ?_)
  repeat' first
    | with_reducible assumption | (with_reducible show Part.within _ _ = true; decide) | with_reducible refine Frame.ite ?_ ?_
    | with_reducible refine when_frame (fun _ _ => ?_) ?_ | with_reducible refine State.modSw_frame ?_ ?_
    | with_reducible refine State.raise_frame ?_ ?_ | with_reducible refine State.shortTrip_frame ?_ ?_ | exact Nat.le_refl _
    | exact fun _ k => k | exact fun _ => rfl | exact fun _ _ => rfl | exact id | exact List.prefix_refl _ | exact fun _ => ⟨rfl, rfl⟩
    | exact fun _ => Or.inl ⟨rfl, rfl, rfl⟩ | exact fun _ => ⟨rfl, rfl, rfl⟩
    | exact fun k => Part.out_absurd (by decide : Part.within _ _ = true) (by decide) k | split | (lift_lets; intros)

theorem frame_lsBankPeak (b : Fin 4) (limiting : Nat) (s u : State) (h : exec (.lsBankPeak b limiting) s = .next u) :
    Frame (Part.record ||| Part.bk ||| Part.time ||| Part.loads) s u := by
  have h : run s (fun s => s.bankPeak b limiting) = .next u := h
  refine run_keep (by decide) h (fun x hx => ?_)
  repeat' first
    | with_reducible assumption | (with_reducible show Part.within _ _ = true; decide) | with_reducible refine State.bankPeak_frame ?_ ?_

theorem frame_lsBankCont (b : Fin 4) (avg : Nat) (s u : State) (h : exec (.lsBankCont b avg) s = .next u) :
    Frame (Part.record ||| Part.loads) s u := by
  have h : run s (fun s => s.bankCont b avg) = .next u := h
  refine run_keep (by decide) h (fun x hx => ?_)
  repeat' first
    | with_reducible assumption | (with_reducible show Part.within _ _ = true; decide) | with_reducible refine State.bankCont_frame ?_ ?_

theorem frame_lsContShed (b : Fin 4) (s u : State) (h : exec (.lsContShed b) s = .next u) :
    Frame (Part.record ||| Part.bk ||| Part.time ||| Part.loads) s u := by
  have h : run s (fun s => s.contShed b) = .next u := h
  refine run_keep (by decide) h (fun x hx => ?_)
  repeat' first
    | with_reducible assumption | (with_reducible show Part.within _ _ = true; decide) | with_reducible refine State.contShed_frame ?_ ?_

end Sys2Proof.Machine
end

