-- ==== Sys2Proof/Laws/CommandsMotion.lean ====
section
/-!
SUPPORT. Sys2Proof/Laws/CommandsMotion.lean: the frame of each command of Machine/Motion.lean.
-/
set_option Elab.async false
namespace Sys2Proof.Machine
open Sys2Proof

theorem frame_emergencyDecelRest (n : Fin 64) (s u : State) (h : exec (.emergencyDecelRest n) s = .next u) :
    Frame (Part.record ||| Part.obs ||| Part.axes) s u := by
  have h : run s (fun s => when_ (s.axis n).atRest (fun s => s.emergencyRest n) s) = .next u := h
  refine run_keep (by decide) h (fun x hx => ?_)
  repeat' first
    | with_reducible assumption | (with_reducible show Part.within _ _ = true; decide) | with_reducible refine Frame.ite ?_ ?_
    | with_reducible refine when_frame (fun _ _ => ?_) ?_ | with_reducible refine State.emergencyRest_frame ?_ ?_

theorem frame_axStall (n : Fin 64) (current : Bool) (s u : State) (h : exec (.axStall n current) s = .next u) :
    Frame (Part.record ||| Part.bk ||| Part.time ||| Part.portals ||| Part.obs ||| Part.axes) s u := by
  have h : run s (fun s => s.afterInputs.stall n current) = .next u := h
  refine run_keep (by decide) h (fun x hx => ?_)
  repeat' first
    | with_reducible assumption | (with_reducible show Part.within _ _ = true; decide) | with_reducible refine Frame.ite ?_ ?_
    | with_reducible refine State.afterInputs_frame ?_ ?_ | with_reducible refine State.stall_frame ?_ ?_ | split | (lift_lets; intros)

theorem frame_axLimit (n : Fin 64) (opening : Bool) (s u : State) (h : exec (.axLimit n opening) s = .next u) :
    Frame (Part.record ||| Part.time ||| Part.portals ||| Part.obs ||| Part.axes) s u := by
  have h : run s (fun s => s.afterInputs.limitTrip n opening) = .next u := h
  refine run_keep (by decide) h (fun x hx => ?_)
  repeat' first
    | with_reducible assumption | (with_reducible show Part.within _ _ = true; decide) | with_reducible refine Frame.ite ?_ ?_
    | with_reducible refine State.afterInputs_frame ?_ ?_ | with_reducible refine State.limitTrip_frame ?_ ?_ | split
    | (lift_lets; intros)

theorem frame_axChatter (n : Fin 64) (k : Fin 3) (s u : State) (h : exec (.axChatter n k) s = .next u) :
    Frame (Part.record ||| Part.axes) s u := by
  have h : run s (fun s => s.chatterFault n k) = .next u := h
  refine run_keep (by decide) h (fun x hx => ?_)
  repeat' first
    | with_reducible assumption | (with_reducible show Part.within _ _ = true; decide)
    | with_reducible refine State.chatterFault_frame ?_ ?_

theorem frame_axStepLag (n : Fin 64) (s u : State) (h : exec (.axStepLag n) s = .next u) :
    Frame (Part.record ||| Part.axes) s u := by
  have h : run s (fun s => s.stepLagFault n) = .next u := h
  refine run_keep (by decide) h (fun x hx => ?_)
  repeat' first
    | with_reducible assumption | (with_reducible show Part.within _ _ = true; decide)
    | with_reducible refine State.stepLagFault_frame ?_ ?_

theorem frame_homeLimitHit (n : Fin 64) (opening : Bool) (s u : State) (h : exec (.homeLimitHit n opening) s = .next u) :
    Frame (Part.record ||| Part.time ||| Part.portals ||| Part.obs ||| Part.axes) s u := by
  have h : run s (fun s => s.afterInputs.homeLimit n opening) = .next u := h
  refine run_keep (by decide) h (fun x hx => ?_)
  repeat' first
    | with_reducible assumption | (with_reducible show Part.within _ _ = true; decide) | with_reducible refine Frame.ite ?_ ?_
    | with_reducible refine State.afterInputs_frame ?_ ?_ | with_reducible refine State.homeLimit_frame ?_ ?_ | split
    | (lift_lets; intros)

theorem frame_brakeReleaseElapsed (n : Fin 64) (s u : State) (h : exec (.brakeReleaseElapsed n) s = .next u) :
    Frame (Part.bk ||| Part.time ||| Part.axes ||| Part.outs) s u := by
  have h : run s (fun s => s.brakeReleased n) = .next u := h
  refine run_keep (by decide) h (fun x hx => ?_)
  repeat' first
    | with_reducible assumption | (with_reducible show Part.within _ _ = true; decide)
    | with_reducible refine State.brakeReleased_frame ?_ ?_

theorem frame_brakeApplyElapsed (n : Fin 64) (s u : State) (h : exec (.brakeApplyElapsed n) s = .next u) :
    Frame (Part.bk ||| Part.time ||| Part.axes ||| Part.ilk ||| Part.outs) s u := by
  have h : run s (fun s => s.brakeApplied n) = .next u := h
  refine run_keep (by decide) h (fun x hx => ?_)
  repeat' first
    | with_reducible assumption | (with_reducible show Part.within _ _ = true; decide)
    | with_reducible refine State.brakeApplied_frame ?_ ?_

end Sys2Proof.Machine
end

