-- ==== Sys2Proof/Laws/CommandsMotionCycle.lean ====
section
/-!
SUPPORT. Sys2Proof/Laws/CommandsMotionCycle.lean: the frame of each command of Machine/MotionCycle.lean.
-/
set_option Elab.async false
namespace Sys2Proof.Machine
open Sys2Proof

theorem frame_motionCycle (s u : State) (h : exec .motionCycle s = .next u) :
    Frame (Part.record ||| Part.sys ||| Part.bk ||| Part.time ||| Part.seq ||| Part.portals ||| Part.obs ||| Part.axes ||| Part.fb
      ||| Part.links ||| Part.ilk ||| Part.fio ||| Part.loads ||| Part.twin ||| Part.mem ||| Part.free ||| Part.states) s u := by
  have h : run s State.motionCycle = .next u := h
  refine run_keep (by decide) h (fun x hx => ?_)
  repeat' first
    | with_reducible assumption | (with_reducible show Part.within _ _ = true; decide)
    | with_reducible refine State.motionCycle_frame ?_ ?_

end Sys2Proof.Machine
end

