-- ==== Sys2Proof/Laws/CommandsNet.lean ====
section
/-!
SUPPORT. Sys2Proof/Laws/CommandsNet.lean: the frame of each command of Machine/Net.lean.
-/
set_option Elab.async false
namespace Sys2Proof.Machine
open Sys2Proof

theorem frame_frameReceive (i : Fin 5) (bytes : List Byte) (fcsOk : Bool) (cls : Fin 4) (s u : State) (h : exec (.frameReceive i bytes fcsOk cls) s = .next u) :
    Frame (Part.record ||| Part.net) s u := by
  have h : run s (fun s => s.frameReceive i bytes fcsOk cls) = .next u := h
  refine run_keep (by decide) h (fun x hx => ?_)
  repeat' first
    | with_reducible assumption | (with_reducible show Part.within _ _ = true; decide)
    | with_reducible refine State.frameReceive_frame ?_ ?_

theorem frame_frameTransmitStart (p : Fin 5) (s u : State) (h : exec (.frameTransmitStart p) s = .next u) :
    Frame (Part.cnt ||| Part.net ||| Part.outs) s u := by
  have h : run s (fun s => s.txStart p) = .next u := h
  refine run_keep (by decide) h (fun x hx => ?_)
  repeat' first
    | with_reducible assumption | (with_reducible show Part.within _ _ = true; decide) | with_reducible refine State.txStart_frame ?_ ?_

theorem frame_frameTransmitEnd (p : Fin 5) (s u : State) (h : exec (.frameTransmitEnd p) s = .next u) :
    Frame (Part.record ||| Part.bk ||| Part.time ||| Part.net) s u := by
  have h : run s (fun s => s.txEnd p) = .next u := h
  refine run_keep (by decide) h (fun x hx => ?_)
  repeat' first
    | with_reducible assumption | (with_reducible show Part.within _ _ = true; decide) | with_reducible refine State.txEnd_frame ?_ ?_

theorem frame_pauseReceive (i : Fin 4) (time : Fin 65536) (s u : State) (h : exec (.pauseReceive i time) s = .next u) :
    Frame (Part.record ||| Part.net) s u := by
  have h : run s (fun s => s.pauseReceive i time) = .next u := h
  refine run_keep (by decide) h (fun x hx => ?_)
  repeat' first
    | with_reducible assumption | (with_reducible show Part.within _ _ = true; decide)
    | with_reducible refine State.pauseReceive_frame ?_ ?_

theorem frame_pauseExpire (i : Fin 4) (s u : State) (h : exec (.pauseExpire i) s = .next u) :
    Frame (Part.bk ||| Part.time ||| Part.net ||| Part.outs) s u := by
  have h : run s (fun s => match (s.port i).pausedUntil with
        | some t => (s.passTo t).modPort i (fun q => { q with pausedUntil := none })
        | none => s) = .next u := h
  refine run_keep (by decide) h (fun x hx => ?_)
  repeat' first
    | with_reducible assumption | (with_reducible show Part.within _ _ = true; decide) | with_reducible refine Frame.ite ?_ ?_
    | with_reducible refine when_frame (fun _ _ => ?_) ?_ | with_reducible refine State.passTo_frame ?_ ?_
    | with_reducible refine State.modPort_frame ?_ ?_ | exact Nat.le_refl _ | exact fun _ k => k | exact fun _ => rfl
    | exact fun _ _ => rfl | exact id | exact List.prefix_refl _ | exact fun _ => ⟨rfl, rfl⟩ | exact fun _ => Or.inl ⟨rfl, rfl, rfl⟩
    | exact fun _ => ⟨rfl, rfl, rfl⟩ | exact fun k => Part.out_absurd (by decide : Part.within _ _ = true) (by decide) k | split
    | (lift_lets; intros)

theorem frame_pauseRepeat (i : Fin 4) (s u : State) (h : exec (.pauseRepeat i) s = .next u) :
    Frame (Part.bk ||| Part.cnt ||| Part.time ||| Part.net ||| Part.outs) s u := by
  have h : run s (fun s => when_ (s.port i).xoff (fun s =>
        let s1 := s.passTo ((s.port i).pauseSent + ms 16)
        ((s1.modPort i (fun q => { q with pauseSent := s1.lt })).emit (.netFrame i (pauseFrame 0xFFFF))).count (220 + i)) s) = .next u := h
  refine run_keep (by decide) h (fun x hx => ?_)
  repeat' first
    | with_reducible assumption | (with_reducible show Part.within _ _ = true; decide) | with_reducible refine Frame.ite ?_ ?_
    | with_reducible refine when_frame (fun _ _ => ?_) ?_ | with_reducible refine State.passTo_frame ?_ ?_
    | with_reducible refine State.modPort_frame ?_ ?_ | with_reducible refine State.emit_frame ?_ ?_
    | with_reducible refine State.count_frame ?_ ?_ | exact Nat.le_refl _ | exact fun _ k => k | exact fun _ => rfl | exact fun _ _ => rfl
    | exact id | exact List.prefix_refl _ | exact fun _ => ⟨rfl, rfl⟩ | exact fun _ => Or.inl ⟨rfl, rfl, rfl⟩
    | exact fun _ => ⟨rfl, rfl, rfl⟩ | exact fun k => Part.out_absurd (by decide : Part.within _ _ = true) (by decide) k | split
    | (lift_lets; intros)

theorem frame_gclEntry (p : Fin 5) (s u : State) (h : exec (.gclEntry p) s = .next u) :
    Frame (Part.bk ||| Part.time ||| Part.net ||| Part.outs) s u := by
  have h : run s (fun s => s.gclNext p) = .next u := h
  refine run_keep (by decide) h (fun x hx => ?_)
  repeat' first
    | with_reducible assumption | (with_reducible show Part.within _ _ = true; decide) | with_reducible refine State.gclNext_frame ?_ ?_

theorem frame_netLinkUp (i : Fin 4) (fast : Bool) (s u : State) (h : exec (.netLinkUp i fast) s = .next u) :
    Frame (Part.record ||| Part.net) s u := by
  have h : run s (fun s => s.linkUp i fast) = .next u := h
  refine run_keep (by decide) h (fun x hx => ?_)
  repeat' first
    | with_reducible assumption | (with_reducible show Part.within _ _ = true; decide) | with_reducible refine State.linkUp_frame ?_ ?_

theorem frame_netLinkDown (i : Fin 4) (s u : State) (h : exec (.netLinkDown i) s = .next u) :
    Frame (Part.record ||| Part.net) s u := by
  have h : run s (fun s => when_ ((s.port i).link != 0) (fun s => (s.modPort i (fun q => { q with link := 0, aSlow := false })).raise 0xB002 i) s) = .next u := h
  refine run_keep (by decide) h (fun x hx => ?_)
  repeat' first
    | with_reducible assumption | (with_reducible show Part.within _ _ = true; decide) | with_reducible refine Frame.ite ?_ ?_
    | with_reducible refine when_frame (fun _ _ => ?_) ?_ | with_reducible refine State.modPort_frame ?_ ?_
    | with_reducible refine State.raise_frame ?_ ?_ | exact Nat.le_refl _ | exact fun _ k => k | exact fun _ => rfl | exact fun _ _ => rfl
    | exact id | exact List.prefix_refl _ | exact fun _ => ⟨rfl, rfl⟩ | exact fun _ => Or.inl ⟨rfl, rfl, rfl⟩
    | exact fun _ => ⟨rfl, rfl, rfl⟩ | exact fun k => Part.out_absurd (by decide : Part.within _ _ = true) (by decide) k | split
    | (lift_lets; intros)

theorem frame_hsrSupervisionSend (s u : State) (h : exec .hsrSupervisionSend s = .next u) :
    Frame (Part.record ||| Part.net) s u := by
  have h : run s State.supSend = .next u := h
  refine run_keep (by decide) h (fun x hx => ?_)
  repeat' first
    | with_reducible assumption | (with_reducible show Part.within _ _ = true; decide) | with_reducible refine State.supSend_frame ?_ ?_

theorem frame_netRingOpen (p : Fin 2) (s u : State) (h : exec (.netRingOpen p) s = .next u) :
    Frame (Part.record ||| Part.bk ||| Part.time ||| Part.net) s u := by
  have h : run s (fun s => match Table.get none s.net.supSent p with
        | none => s
        | some t =>
          let s1 := s.passTo (t + sec 4)
          if s1.net.ringOpen then s1 else ({ s1 with net := { s1.net with ringOpen := true } }).raise 0xB00C noInst) = .next u := h
  refine run_keep (by decide) h (fun x hx => ?_)
  generalize sec 4 = d
  dsimp only
  split
  · exact hx
  · rename_i t _
    have k : Frame (Part.record ||| Part.bk ||| Part.time ||| Part.net) s (x.passTo (t + d)) := State.passTo_frame (by decide) hx
    exact Frame.ite k (State.raise_frame (by decide) (Frame.set_net (by decide) k))

theorem frame_macAge (s u : State) (h : exec .macAge s = .next u) :
    Frame (Part.bk ||| Part.time ||| Part.net ||| Part.outs) s u := by
  have h : run s (fun s => match s.net.macs with
        | [] => s
        | e :: rest =>
          let s1 := s.passTo (e.seen + sec (10 * s.rf .netCfg 0 15 8))
          { s1 with net := { s1.net with macs := rest } }) = .next u := h
  refine run_keep (by decide) h (fun x hx => ?_)
  dsimp only
  split
  · exact hx
  · exact Frame.set_net (by decide) (State.passTo_frame (by decide) hx)

theorem frame_proxyAge (s u : State) (h : exec .proxyAge s = .next u) :
    Frame (Part.bk ||| Part.time ||| Part.net ||| Part.outs) s u := by
  have h : run s (fun s => match s.net.proxies with
        | [] => s
        | e :: rest =>
          let s1 := s.passTo (e.seen + sec 60)
          { s1 with net := { s1.net with proxies := rest } }) = .next u := h
  refine run_keep (by decide) h (fun x hx => ?_)
  generalize sec 60 = d
  dsimp only
  split
  · exact hx
  · exact Frame.set_net (by decide) (State.passTo_frame (by decide) hx)

theorem frame_hsrDuplicateForget (s u : State) (h : exec .hsrDuplicateForget s = .next u) :
    Frame (Part.bk ||| Part.time ||| Part.net ||| Part.outs) s u := by
  have h : run s (fun s => match s.net.dups with
        | [] => s
        | e :: rest =>
          let s1 := s.passTo (e.at_ + ms 400)
          { s1 with net := { s1.net with dups := rest } }) = .next u := h
  refine run_keep (by decide) h (fun x hx => ?_)
  generalize ms 400 = d
  dsimp only
  split
  · exact hx
  · exact Frame.set_net (by decide) (State.passTo_frame (by decide) hx)

end Sys2Proof.Machine
end

