-- ==== Sys2Proof/Laws/CommandsNvm.lean ====
section
/-!
SUPPORT. Sys2Proof/Laws/CommandsNvm.lean: the frame of each command of Machine/Nvm.lean.
-/
set_option Elab.async false
namespace Sys2Proof.Machine
open Sys2Proof

theorem frame_nvmOpDone (timeout bad : Bool) (held : List Byte) (s u : State) (h : exec (.nvmOpDone timeout bad held) s = .next u) :
    Frame (Part.record ||| Part.nvm ||| Part.regs ||| Part.flash) s u := by
  have h : run s (fun s => s.nvmOpDone timeout bad held) = .next u := h
  refine run_keep (by decide) h (fun x hx => ?_)
  repeat' first
    | with_reducible assumption | (with_reducible show Part.within _ _ = true; decide) | with_reducible refine State.nvmOpDone_frame ?_ ?_

end Sys2Proof.Machine
end

