-- ==== Sys2Proof/Laws/CommandsObserver.lean ====
section
/-!
SUPPORT. Sys2Proof/Laws/CommandsObserver.lean: the frame of each command of Machine/Observer.lean.
-/
set_option Elab.async false
namespace Sys2Proof.Machine
open Sys2Proof

theorem frame_obsStopResume (n : Fin 64) (s u : State) (h : exec (.obsStopResume n) s = .next u) :
    Frame (Part.bk ||| Part.time ||| Part.obs ||| Part.axes ||| Part.outs) s u := by
  have h : run s (fun s => s.stopResume n) = .next u := h
  refine run_keep (by decide) h (fun x hx => ?_)
  repeat' first
    | with_reducible assumption | (with_reducible show Part.within _ _ = true; decide) | with_reducible refine State.stopResume_frame ?_ ?_

theorem frame_probeEdge (n : Fin 64) (level : Bool) (held : Nat) (s u : State) (h : exec (.probeEdge n level held) s = .next u) :
    Frame (Part.record ||| Part.portals ||| Part.obs ||| Part.axes ||| Part.fb) s u := by
  have h : run s (fun s => s.probeEdge n level held) = .next u := h
  refine run_keep (by decide) h (fun x hx => ?_)
  repeat' first
    | with_reducible assumption | (with_reducible show Part.within _ _ = true; decide) | with_reducible refine Frame.ite ?_ ?_
    | with_reducible refine State.probeEdge_frame ?_ ?_ | split | (lift_lets; intros)

end Sys2Proof.Machine
end

