-- ==== Sys2Proof/Laws/CommandsPortal.lean ====
section
/-!
SUPPORT. Sys2Proof/Laws/CommandsPortal.lean: the frame of each command of Machine/Portal.lean.
-/
set_option Elab.async false
namespace Sys2Proof.Machine
open Sys2Proof

theorem frame_immediateActionApply (s u : State) (h : exec .immediateActionApply s = .next u) :
    Frame (Part.record ||| Part.sys ||| Part.seq ||| Part.portals ||| Part.obs ||| Part.axes ||| Part.ilk ||| Part.loads |||
      Part.twin ||| Part.mem ||| Part.free ||| Part.states ||| Part.actions) s u := by
  have h : runSeq s State.immediateApply = .next u := h
  refine runSeq_keep (by decide) h (fun x hx => ?_)
  repeat' first
    | with_reducible assumption | (with_reducible show Part.within _ _ = true; decide)
    | with_reducible refine State.immediateApply_frame ?_ ?_

theorem frame_slotDue (s u : State) (h : exec .slotDue s = .next u) :
    Frame (Part.record ||| Part.sys ||| Part.bk ||| Part.time ||| Part.seq ||| Part.portals ||| Part.obs ||| Part.axes ||| Part.ilk
      ||| Part.loads ||| Part.twin ||| Part.mem ||| Part.free ||| Part.states ||| Part.actions) s u := by
  have h : runSeq s State.slotDue = .next u := h
  refine runSeq_keep (by decide) h (fun x hx => ?_)
  repeat' first
    | with_reducible assumption | (with_reducible show Part.within _ _ = true; decide) | with_reducible refine State.slotDue_frame ?_ ?_

theorem frame_passengerRequest (p : Fin 16) (inside : Bool) (s u : State) (h : exec (.passengerRequest p inside) s = .next u) :
    Frame (Part.record ||| Part.sys ||| Part.seq ||| Part.portals ||| Part.obs ||| Part.axes ||| Part.ilk ||| Part.loads |||
      Part.twin ||| Part.mem ||| Part.free ||| Part.states) s u := by
  have h : runSeq s (fun s => s.request p inside) = .next u := h
  refine runSeq_keep (by decide) h (fun x hx => ?_)
  repeat' first
    | with_reducible assumption | (with_reducible show Part.within _ _ = true; decide) | with_reducible refine State.request_frame ?_ ?_

theorem frame_presenceInput (p : Fin 16) (s u : State) (h : exec (.presenceInput p) s = .next u) :
    Frame (Part.record ||| Part.sys ||| Part.seq ||| Part.portals ||| Part.obs ||| Part.axes ||| Part.ilk ||| Part.loads |||
      Part.twin ||| Part.mem ||| Part.free ||| Part.states) s u := by
  have h : runSeq s (fun s => s.presenceNow p) = .next u := h
  refine runSeq_keep (by decide) h (fun x hx => ?_)
  repeat' first
    | with_reducible assumption | (with_reducible show Part.within _ _ = true; decide)
    | with_reducible refine State.presenceNow_frame ?_ ?_

theorem frame_emergencyHandle (p : Fin 16) (s u : State) (h : exec (.emergencyHandle p) s = .next u) :
    Frame (Part.record ||| Part.sys ||| Part.seq ||| Part.portals ||| Part.obs ||| Part.axes ||| Part.ilk ||| Part.loads |||
      Part.twin ||| Part.mem ||| Part.free ||| Part.states) s u := by
  have h : runSeq s (fun s => s.handle p) = .next u := h
  refine runSeq_keep (by decide) h (fun x hx => ?_)
  repeat' first
    | with_reducible assumption | (with_reducible show Part.within _ _ = true; decide) | with_reducible refine State.handle_frame ?_ ?_

theorem frame_zeroSpeedActive (s u : State) (h : exec .zeroSpeedActive s = .next u) :
    Frame (Part.record ||| Part.sys ||| Part.seq ||| Part.portals ||| Part.obs ||| Part.axes ||| Part.ilk ||| Part.loads |||
      Part.twin ||| Part.mem ||| Part.free ||| Part.states) s u := by
  have h : runSeq s State.zeroSpeedOn = .next u := h
  refine runSeq_keep (by decide) h (fun x hx => ?_)
  repeat' first
    | with_reducible assumption | (with_reducible show Part.within _ _ = true; decide)
    | with_reducible refine State.zeroSpeedOn_frame ?_ ?_

theorem frame_zeroSpeedLost (s u : State) (h : exec .zeroSpeedLost s = .next u) :
    Frame (Part.record ||| Part.sys ||| Part.seq ||| Part.portals ||| Part.obs ||| Part.axes ||| Part.ilk ||| Part.loads |||
      Part.twin ||| Part.mem ||| Part.free ||| Part.states) s u := by
  have h : runSeq s State.zeroSpeedOff = .next u := h
  refine runSeq_keep (by decide) h (fun x hx => ?_)
  repeat' first
    | with_reducible assumption | (with_reducible show Part.within _ _ = true; decide)
    | with_reducible refine State.zeroSpeedOff_frame ?_ ?_

theorem frame_unlockComplete (p : Fin 16) (s u : State) (h : exec (.unlockComplete p) s = .next u) :
    Frame (Part.record ||| Part.sys ||| Part.seq ||| Part.portals ||| Part.obs ||| Part.loads ||| Part.twin ||| Part.mem |||
      Part.free ||| Part.states) s u := by
  have h : runSeq s (fun s => s.unlocked p) = .next u := h
  refine runSeq_keep (by decide) h (fun x hx => ?_)
  repeat' first
    | with_reducible assumption | (with_reducible show Part.within _ _ = true; decide) | with_reducible refine State.unlocked_frame ?_ ?_

theorem frame_stepDeployed (p : Fin 16) (s u : State) (h : exec (.stepDeployed p) s = .next u) :
    Frame (Part.seq ||| Part.portals ||| Part.outs) s u := by
  have h : runSeq s (fun s => s.deployed p) = .next u := h
  refine runSeq_keep (by decide) h (fun x hx => ?_)
  repeat' first
    | with_reducible assumption | (with_reducible show Part.within _ _ = true; decide) | with_reducible refine State.deployed_frame ?_ ?_

theorem frame_lockedInputActive (p : Fin 16) (s u : State) (h : exec (.lockedInputActive p) s = .next u) :
    Frame (Part.record ||| Part.sys ||| Part.seq ||| Part.portals ||| Part.obs ||| Part.loads ||| Part.twin ||| Part.mem |||
      Part.free ||| Part.states) s u := by
  have h : runSeq s (fun s => s.lockedInput p) = .next u := h
  refine runSeq_keep (by decide) h (fun x hx => ?_)
  repeat' first
    | with_reducible assumption | (with_reducible show Part.within _ _ = true; decide)
    | with_reducible refine State.lockedInput_frame ?_ ?_

theorem frame_stepStowed (p : Fin 16) (s u : State) (h : exec (.stepStowed p) s = .next u) :
    Frame (Part.record ||| Part.sys ||| Part.seq ||| Part.portals ||| Part.obs ||| Part.loads ||| Part.twin ||| Part.mem |||
      Part.free ||| Part.states) s u := by
  have h : runSeq s (fun s => s.stepStowed p) = .next u := h
  refine runSeq_keep (by decide) h (fun x hx => ?_)
  repeat' first
    | with_reducible assumption | (with_reducible show Part.within _ _ = true; decide) | with_reducible refine State.stepStowed_frame ?_ ?_

theorem frame_homingDone (p : Fin 16) (s u : State) (h : exec (.homingDone p) s = .next u) :
    Frame (Part.record ||| Part.sys ||| Part.seq ||| Part.portals ||| Part.obs ||| Part.loads ||| Part.twin ||| Part.mem |||
      Part.free ||| Part.states) s u := by
  have h : runSeq s (fun s => s.homingDone p) = .next u := h
  refine runSeq_keep (by decide) h (fun x hx => ?_)
  repeat' first
    | with_reducible assumption | (with_reducible show Part.within _ _ = true; decide) | with_reducible refine State.homingDone_frame ?_ ?_

theorem frame_leavesAtOpen (p : Fin 16) (s u : State) (h : exec (.leavesAtOpen p) s = .next u) :
    Frame (Part.record ||| Part.sys ||| Part.seq ||| Part.portals ||| Part.obs ||| Part.loads ||| Part.twin ||| Part.mem |||
      Part.free ||| Part.states) s u := by
  have h : runSeq s (fun s => s.leavesOpen p) = .next u := h
  refine runSeq_keep (by decide) h (fun x hx => ?_)
  repeat' first
    | with_reducible assumption | (with_reducible show Part.within _ _ = true; decide) | with_reducible refine State.leavesOpen_frame ?_ ?_

theorem frame_leavesAtReopenTarget (p : Fin 16) (s u : State) (h : exec (.leavesAtReopenTarget p) s = .next u) :
    Frame (Part.record ||| Part.sys ||| Part.seq ||| Part.portals ||| Part.obs ||| Part.loads ||| Part.twin ||| Part.mem |||
      Part.free ||| Part.states) s u := by
  have h : runSeq s (fun s => s.leavesReopened p) = .next u := h
  refine runSeq_keep (by decide) h (fun x hx => ?_)
  repeat' first
    | with_reducible assumption | (with_reducible show Part.within _ _ = true; decide)
    | with_reducible refine State.leavesReopened_frame ?_ ?_

theorem frame_leavesClosed (p : Fin 16) (s u : State) (h : exec (.leavesClosed p) s = .next u) :
    Frame (Part.record ||| Part.sys ||| Part.seq ||| Part.portals ||| Part.obs ||| Part.axes ||| Part.loads ||| Part.twin |||
      Part.mem ||| Part.free ||| Part.states) s u := by
  have h : runSeq s (fun s => s.leavesClosed p) = .next u := h
  refine runSeq_keep (by decide) h (fun x hx => ?_)
  repeat' first
    | with_reducible assumption | (with_reducible show Part.within _ _ = true; decide)
    | with_reducible refine State.leavesClosed_frame ?_ ?_

theorem frame_dwellElapsed (p : Fin 16) (s u : State) (h : exec (.dwellElapsed p) s = .next u) :
    Frame (Part.record ||| Part.sys ||| Part.bk ||| Part.time ||| Part.seq ||| Part.portals ||| Part.obs ||| Part.axes ||| Part.ilk
      ||| Part.loads ||| Part.twin ||| Part.mem ||| Part.free ||| Part.states) s u := by
  have h : runSeq s (fun s => s.dwellElapsed p) = .next u := h
  refine runSeq_keep (by decide) h (fun x hx => ?_)
  repeat' first
    | with_reducible assumption | (with_reducible show Part.within _ _ = true; decide)
    | with_reducible refine State.dwellElapsed_frame ?_ ?_

theorem frame_obstWaitElapsed (p : Fin 16) (s u : State) (h : exec (.obstWaitElapsed p) s = .next u) :
    Frame (Part.record ||| Part.sys ||| Part.bk ||| Part.time ||| Part.seq ||| Part.portals ||| Part.obs ||| Part.axes ||| Part.ilk
      ||| Part.loads ||| Part.twin ||| Part.mem ||| Part.free ||| Part.states) s u := by
  have h : runSeq s (fun s => s.obstWaitElapsed p) = .next u := h
  refine runSeq_keep (by decide) h (fun x hx => ?_)
  repeat' first
    | with_reducible assumption | (with_reducible show Part.within _ _ = true; decide)
    | with_reducible refine State.obstWaitElapsed_frame ?_ ?_

theorem frame_warnPreElapsed (p : Fin 16) (s u : State) (h : exec (.warnPreElapsed p) s = .next u) :
    Frame (Part.record ||| Part.sys ||| Part.bk ||| Part.time ||| Part.seq ||| Part.portals ||| Part.obs ||| Part.axes |||
      Part.loads ||| Part.twin ||| Part.mem ||| Part.free ||| Part.states) s u := by
  have h : runSeq s (fun s => (s.warnElapsed p).arbitrate) = .next u := h
  refine runSeq_keep (by decide) h (fun x hx => ?_)
  repeat' first
    | with_reducible assumption | (with_reducible show Part.within _ _ = true; decide)
    | with_reducible refine State.warnElapsed_frame ?_ ?_ | with_reducible refine State.arbitrate_frame ?_ ?_

theorem frame_flashToggle (p : Fin 16) (s u : State) (h : exec (.flashToggle p) s = .next u) :
    Frame (Part.bk ||| Part.time ||| Part.portals ||| Part.loads ||| Part.outs) s u := by
  have h : runSeq s (fun s => s.flashToggle p) = .next u := h
  refine runSeq_keep (by decide) h (fun x hx => ?_)
  repeat' first
    | with_reducible assumption | (with_reducible show Part.within _ _ = true; decide)
    | with_reducible refine State.flashToggle_frame ?_ ?_

theorem frame_chimeEnd (p : Fin 16) (s u : State) (h : exec (.chimeEnd p) s = .next u) :
    Frame (Part.bk ||| Part.time ||| Part.portals ||| Part.loads ||| Part.outs) s u := by
  have h : runSeq s (fun s => s.chimeOff p) = .next u := h
  refine runSeq_keep (by decide) h (fun x hx => ?_)
  repeat' first
    | with_reducible assumption | (with_reducible show Part.within _ _ = true; decide) | with_reducible refine State.chimeOff_frame ?_ ?_

theorem frame_unlockFail (p : Fin 16) (s u : State) (h : exec (.unlockFail p) s = .next u) :
    Frame (Part.record ||| Part.sys ||| Part.bk ||| Part.time ||| Part.seq ||| Part.portals ||| Part.obs ||| Part.axes ||| Part.ilk
      ||| Part.loads ||| Part.twin ||| Part.mem ||| Part.free ||| Part.states) s u := by
  have h : runSeq s (fun s => s.unlockFail p) = .next u := h
  refine runSeq_keep (by decide) h (fun x hx => ?_)
  repeat' first
    | with_reducible assumption | (with_reducible show Part.within _ _ = true; decide) | with_reducible refine State.unlockFail_frame ?_ ?_

theorem frame_lockTimeElapsed (p : Fin 16) (s u : State) (h : exec (.lockTimeElapsed p) s = .next u) :
    Frame (Part.bk ||| Part.time ||| Part.portals ||| Part.obs ||| Part.axes ||| Part.outs) s u := by
  have h : runSeq s (fun s => s.lockTime p) = .next u := h
  refine runSeq_keep (by decide) h (fun x hx => ?_)
  repeat' first
    | with_reducible assumption | (with_reducible show Part.within _ _ = true; decide) | with_reducible refine State.lockTime_frame ?_ ?_

theorem frame_recloseEnd (p : Fin 16) (s u : State) (h : exec (.recloseEnd p) s = .next u) :
    Frame (Part.bk ||| Part.time ||| Part.portals ||| Part.axes ||| Part.outs) s u := by
  have h : runSeq s (fun s => s.recloseEnd p) = .next u := h
  refine runSeq_keep (by decide) h (fun x hx => ?_)
  repeat' first
    | with_reducible assumption | (with_reducible show Part.within _ _ = true; decide) | with_reducible refine State.recloseEnd_frame ?_ ?_

theorem frame_lockFail (p : Fin 16) (s u : State) (h : exec (.lockFail p) s = .next u) :
    Frame (Part.record ||| Part.sys ||| Part.bk ||| Part.time ||| Part.seq ||| Part.portals ||| Part.obs ||| Part.axes ||| Part.ilk
      ||| Part.loads ||| Part.twin ||| Part.mem ||| Part.free ||| Part.states) s u := by
  have h : runSeq s (fun s => s.lockFail p) = .next u := h
  refine runSeq_keep (by decide) h (fun x hx => ?_)
  repeat' first
    | with_reducible assumption | (with_reducible show Part.within _ _ = true; decide) | with_reducible refine State.lockFail_frame ?_ ?_

theorem frame_stepFail (p : Fin 16) (s u : State) (h : exec (.stepFail p) s = .next u) :
    Frame (Part.record ||| Part.sys ||| Part.bk ||| Part.time ||| Part.seq ||| Part.portals ||| Part.obs ||| Part.axes ||| Part.ilk
      ||| Part.loads ||| Part.twin ||| Part.mem ||| Part.free ||| Part.states) s u := by
  have h : runSeq s (fun s => s.stepFail p) = .next u := h
  refine runSeq_keep (by decide) h (fun x hx => ?_)
  repeat' first
    | with_reducible assumption | (with_reducible show Part.within _ _ = true; decide) | with_reducible refine State.stepFail_frame ?_ ?_

theorem frame_referenceFail (p : Fin 16) (s u : State) (h : exec (.referenceFail p) s = .next u) :
    Frame (Part.record ||| Part.sys ||| Part.bk ||| Part.time ||| Part.seq ||| Part.portals ||| Part.obs ||| Part.axes ||| Part.ilk
      ||| Part.loads ||| Part.twin ||| Part.mem ||| Part.free ||| Part.states) s u := by
  have h : runSeq s (fun s => s.referenceFail p) = .next u := h
  refine runSeq_keep (by decide) h (fun x hx => ?_)
  repeat' first
    | with_reducible assumption | (with_reducible show Part.within _ _ = true; decide)
    | with_reducible refine State.referenceFail_frame ?_ ?_

end Sys2Proof.Machine
end

