-- ==== Sys2Proof/Laws/CommandsRecorder.lean ====
section
/-!
SUPPORT. Sys2Proof/Laws/CommandsRecorder.lean: the frame of each command of Machine/Recorder.lean.
-/
set_option Elab.async false
namespace Sys2Proof.Machine
open Sys2Proof

theorem frame_streamSend (k : Fin 32) (s u : State) (h : exec (.streamSend k) s = .next u) :
    Frame (Part.record ||| Part.trdp ||| Part.twin) s u := by
  have h : run s (fun s => s.streamSend k) = .next u := h
  refine run_keep (by decide) h (fun x hx => ?_)
  repeat' first
    | with_reducible assumption | (with_reducible show Part.within _ _ = true; decide) | with_reducible refine State.streamSend_frame ?_ ?_

theorem frame_eventIntake (code inst : Nat) (vals : List Byte) (s u : State) (h : exec (.eventIntake code inst vals) s = .next u) :
    Frame (Part.record) s u := by
  have h : run s (fun s => s.eventIntake code inst vals) = .next u := h
  refine run_keep (by decide) h (fun x hx => ?_)
  repeat' first
    | with_reducible assumption | (with_reducible show Part.within _ _ = true; decide)
    | with_reducible refine State.eventIntake_frame ?_ ?_

theorem frame_recAllocate (s u : State) (h : exec .recAllocate s = .next u) :
    Frame (Part.record ||| Part.bk ||| Part.time ||| Part.obs ||| Part.twin ||| Part.mem ||| Part.free) s u := by
  have h : run s State.allocate = .next u := h
  refine run_keep (by decide) h (fun x hx => ?_)
  repeat' first
    | with_reducible assumption | (with_reducible show Part.within _ _ = true; decide) | with_reducible refine State.allocate_frame ?_ ?_

theorem frame_recRepeated (s u : State) (h : exec .recRepeated s = .next u) :
    Frame (Part.record ||| Part.bk ||| Part.time) s u := by
  have h : run s State.repeated = .next u := h
  refine run_keep (by decide) h (fun x hx => ?_)
  repeat' first
    | with_reducible assumption | (with_reducible show Part.within _ _ = true; decide) | with_reducible refine State.repeated_frame ?_ ?_

theorem frame_recStore (ok : Bool) (s u : State) (h : exec (.recStore ok) s = .next u) :
    Frame (Part.record ||| Part.bk ||| Part.obs ||| Part.twin ||| Part.mem) s u := by
  have h : run s (fun s => s.recStore ok) = .next u := h
  refine run_keep (by decide) h (fun x hx => ?_)
  repeat' first
    | with_reducible assumption | (with_reducible show Part.within _ _ = true; decide) | with_reducible refine State.recStore_frame ?_ ?_

theorem frame_recWriteRetry (ok : Bool) (s u : State) (h : exec (.recWriteRetry ok) s = .next u) :
    Frame (Part.record ||| Part.bk ||| Part.time ||| Part.obs ||| Part.twin ||| Part.mem) s u := by
  have h : run s (fun s => s.writeRetry ok) = .next u := h
  refine run_keep (by decide) h (fun x hx => ?_)
  repeat' first
    | with_reducible assumption | (with_reducible show Part.within _ _ = true; decide) | with_reducible refine State.writeRetry_frame ?_ ?_

theorem frame_recPublish (s u : State) (h : exec .recPublish s = .next u) :
    Frame (Part.record) s u := by
  have h : run s (fun s => when_ (!s.recEnded) State.publish s) = .next u := h
  refine run_keep (by decide) h (fun x hx => ?_)
  repeat' first
    | with_reducible assumption | (with_reducible show Part.within _ _ = true; decide) | with_reducible refine Frame.ite ?_ ?_
    | with_reducible refine when_frame (fun _ _ => ?_) ?_ | with_reducible refine State.publish_frame ?_ ?_

theorem frame_recHoldLimit (s u : State) (h : exec .recHoldLimit s = .next u) :
    Frame (Part.bk ||| Part.rcd ||| Part.time ||| Part.outs) s u := by
  have h : run s State.limitHold = .next u := h
  refine run_keep (by decide) h (fun x hx => ?_)
  repeat' first
    | with_reducible assumption | (with_reducible show Part.within _ _ = true; decide) | with_reducible refine State.limitHold_frame ?_ ?_

theorem frame_recHoldDrainDone (s u : State) (h : exec .recHoldDrainDone s = .next u) :
    Frame (Part.record ||| Part.bk ||| Part.obs ||| Part.twin ||| Part.mem) s u := by
  have h : run s State.drain = .next u := h
  refine run_keep (by decide) h (fun x hx => ?_)
  repeat' first
    | with_reducible assumption | (with_reducible show Part.within _ _ = true; decide) | with_reducible refine State.drain_frame ?_ ?_

theorem frame_recFolioCaptured (s u : State) (h : exec .recFolioCaptured s = .next u) :
    Frame (Part.record ||| Part.mem) s u := by
  have h : run s State.folioCaptured = .next u := h
  refine run_keep (by decide) h (fun x hx => ?_)
  repeat' first
    | with_reducible assumption | (with_reducible show Part.within _ _ = true; decide)
    | with_reducible refine State.folioCaptured_frame ?_ ?_

theorem frame_recCleared (s u : State) (h : exec .recCleared s = .next u) :
    Frame (Part.record ||| Part.mem) s u := by
  have h : run s State.cleared_ = .next u := h
  refine run_keep (by decide) h (fun x hx => ?_)
  repeat' first
    | with_reducible assumption | (with_reducible show Part.within _ _ = true; decide) | with_reducible refine State.cleared__frame ?_ ?_

theorem frame_rwLoadDone (ecc : Bool) (s u : State) (h : exec (.rwLoadDone ecc) s = .next u) :
    Frame (Part.record) s u := by
  have h : run s (fun s => s.rwDone ecc) = .next u := h
  refine run_keep (by decide) h (fun x hx => ?_)
  repeat' first
    | with_reducible assumption | (with_reducible show Part.within _ _ = true; decide) | with_reducible refine State.rwDone_frame ?_ ?_

theorem frame_rwIdleTimeout (s u : State) (h : exec .rwIdleTimeout s = .next u) :
    Frame (Part.record ||| Part.bk ||| Part.time) s u := by
  have h : run s State.rwIdle = .next u := h
  refine run_keep (by decide) h (fun x hx => ?_)
  repeat' first
    | with_reducible assumption | (with_reducible show Part.within _ _ = true; decide) | with_reducible refine State.rwIdle_frame ?_ ?_

theorem frame_read (t : Telegram) (s u : State) (h : exec (.read t) s = .next u) :
    Frame (Part.record ||| Part.trdp) s u := by
  have h : run s (fun s => s.recRequest t 0x0101 12 (fun s b => s.readReq t.src b)) = .next u := h
  refine run_keep (by decide) h (fun x hx => ?_)
  exact State.recRequest_frame (by decide) (fun y b hy => State.readReq_frame (by decide) hy) hx

theorem frame_hold (t : Telegram) (s u : State) (h : exec (.hold t) s = .next u) :
    Frame (Part.record ||| Part.trdp) s u := by
  have h : run s (fun s => s.recRequest t 0x0102 4 (fun s b => s.holdReq t.src b)) = .next u := h
  refine run_keep (by decide) h (fun x hx => ?_)
  exact State.recRequest_frame (by decide) (fun y b hy => State.holdReq_frame (by decide) hy) hx

theorem frame_upload (t : Telegram) (s u : State) (h : exec (.upload t) s = .next u) :
    Frame (Part.record ||| Part.trdp ||| Part.twin) s u := by
  have h : run s (fun s => s.recRequest t 0x0103 20 (fun s b => s.uploadReq t.src b)) = .next u := h
  refine run_keep (by decide) h (fun x hx => ?_)
  exact State.recRequest_frame (by decide) (fun y b hy => State.uploadReq_frame (by decide) hy) hx

theorem frame_status (t : Telegram) (s u : State) (h : exec (.status t) s = .next u) :
    Frame (Part.record ||| Part.trdp) s u := by
  have h : run s (fun s => s.recRequest t 0x0104 0 (fun s _ => s.statusReq t.src)) = .next u := h
  refine run_keep (by decide) h (fun x hx => ?_)
  exact State.recRequest_frame (by decide) (fun y b hy => State.statusReq_frame (by decide) hy) hx

theorem frame_mateEvent (bytes : List Byte) (s u : State) (h : exec (.mateEvent bytes) s = .next u) :
    Frame (Part.record ||| Part.twin) s u := by
  have h : run s (fun s => s.mateFrame bytes) = .next u := h
  refine run_keep (by decide) h (fun x hx => ?_)
  repeat' first
    | with_reducible assumption | (with_reducible show Part.within _ _ = true; decide) | with_reducible refine State.mateFrame_frame ?_ ?_

end Sys2Proof.Machine
end

