-- ==== Sys2Proof/Laws/CommandsReset.lean ====
section
/-!
SUPPORT. Sys2Proof/Laws/CommandsReset.lean: the frame of each command of Machine/Reset.lean.
-/
set_option Elab.async false
namespace Sys2Proof.Machine
open Sys2Proof

theorem frame_powerOn (secs : Nat) (s u : State) (h : exec (.powerOn secs) s = .next u) :
    Frame (Part.reset) s u := by
  have h : run s (fun s => s.powerOn secs) = .next u := h
  refine run_keep (by decide) h (fun x hx => ?_)
  repeat' first
    | with_reducible assumption | (with_reducible show Part.within _ _ = true; decide) | with_reducible refine State.powerOn_frame ?_ ?_

theorem frame_brownOut (supply : Fin 3) (s u : State) (h : exec (.brownOut supply) s = .next u) :
    Frame (Part.reset) s u := by
  have h : run s (fun s => s.brownOut supply) = .next u := h
  refine run_keep (by decide) h (fun x hx => ?_)
  repeat' first
    | with_reducible assumption | (with_reducible show Part.within _ _ = true; decide) | with_reducible refine State.brownOut_frame ?_ ?_

theorem frame_nrstAssert (s u : State) (h : exec .nrstAssert s = .next u) :
    Frame (Part.reset) s u := by
  have h : run s (fun s => State.systemReset { s.pass (us 1) with sys := { s.sys with nrstLow := true } } 3) = .next u := h
  refine run_keep (by decide) h (fun x hx => ?_)
  repeat' first
    | with_reducible assumption | (with_reducible show Part.within _ _ = true; decide)
    | with_reducible refine State.systemReset_frame ?_ ?_ | with_reducible refine State.pass_frame ?_ ?_
    | with_reducible refine Frame.set_sys ?_ ?_ ?_ ?_ ?_ | exact Nat.le_refl _ | exact fun _ k => k | exact fun _ => rfl
    | exact fun _ _ => rfl | exact id | exact List.prefix_refl _ | exact fun _ => ⟨rfl, rfl⟩ | exact fun _ => Or.inl ⟨rfl, rfl, rfl⟩
    | exact fun _ => ⟨rfl, rfl, rfl⟩ | exact fun k => Part.out_absurd (by decide : Part.within _ _ = true) (by decide) k | split
    | (lift_lets; intros)

theorem frame_nrstRelease (s u : State) (h : exec .nrstRelease s = .next u) :
    Frame (Part.sys ||| Part.bk ||| Part.time ||| Part.outs ||| Part.startup) s u := by
  have h : run s (fun s => when_ s.sys.nrstLow (fun s => State.tryRelease { s.pass (us 10) with sys := { s.sys with nrstLow := false } }) s) = .next u := h
  refine run_keep (by decide) h (fun x hx => ?_)
  repeat' first
    | with_reducible assumption | (with_reducible show Part.within _ _ = true; decide) | with_reducible refine Frame.ite ?_ ?_
    | with_reducible refine when_frame (fun _ _ => ?_) ?_ | with_reducible refine State.tryRelease_frame ?_ ?_
    | with_reducible refine State.pass_frame ?_ ?_ | with_reducible refine Frame.set_sys ?_ ?_ ?_ ?_ ?_ | exact Nat.le_refl _
    | exact fun _ k => k | exact fun _ => rfl | exact fun _ _ => rfl | exact id | exact List.prefix_refl _ | exact fun _ => ⟨rfl, rfl⟩
    | exact fun _ => Or.inl ⟨rfl, rfl, rfl⟩ | exact fun _ => ⟨rfl, rfl, rfl⟩
    | exact fun k => Part.out_absurd (by decide : Part.within _ _ = true) (by decide) k | split | (lift_lets; intros)

theorem frame_clockFail (s u : State) (h : exec .clockFail s = .next u) :
    Frame (Part.reset) s u := by
  have h : run s (fun s => State.systemReset { s with sys := { s.sys with clkFail := true } } 4) = .next u := h
  refine run_keep (by decide) h (fun x hx => ?_)
  repeat' first
    | with_reducible assumption | (with_reducible show Part.within _ _ = true; decide)
    | with_reducible refine State.systemReset_frame ?_ ?_ | with_reducible refine Frame.set_sys ?_ ?_ ?_ ?_ ?_ | exact Nat.le_refl _
    | exact fun _ k => k | exact fun _ => rfl | exact fun _ _ => rfl | exact id | exact List.prefix_refl _ | exact fun _ => ⟨rfl, rfl⟩
    | exact fun _ => Or.inl ⟨rfl, rfl, rfl⟩ | exact fun _ => ⟨rfl, rfl, rfl⟩
    | exact fun k => Part.out_absurd (by decide : Part.within _ _ = true) (by decide) k | split | (lift_lets; intros)

theorem frame_lockstepMismatch (s u : State) (h : exec .lockstepMismatch s = .next u) :
    Frame Part.reset s u := by
  have h : run s (fun s => when_ (s.sys.fwRunning || s.sys.start != .inReset) (fun s => s.resetNow 5) s) = .next u := h
  refine run_keep (by decide) h (fun x hx => ?_)
  repeat' first
    | with_reducible assumption | (with_reducible show Part.within _ _ = true; decide) | with_reducible refine Frame.ite ?_ ?_
    | with_reducible refine when_frame (fun _ _ => ?_) ?_ | with_reducible refine State.resetNow_frame ?_ ?_ | split | (lift_lets; intros)

theorem frame_watchdogExpiry (s u : State) (h : exec .watchdogExpiry s = .next u) :
    Frame (Part.reset) s u := by
  have h : run s (fun s => when_ s.sys.fwRunning (fun s => (s.passTo (s.sys.wdogLast + ms 50)).resetNow 6) s) = .next u := h
  refine run_keep (by decide) h (fun x hx => ?_)
  repeat' first
    | with_reducible assumption | (with_reducible show Part.within _ _ = true; decide) | with_reducible refine Frame.ite ?_ ?_
    | with_reducible refine when_frame (fun _ _ => ?_) ?_ | with_reducible refine State.passTo_frame ?_ ?_
    | with_reducible refine State.resetNow_frame ?_ ?_

theorem frame_debugReset (s u : State) (h : exec .debugReset s = .next u) :
    Frame (Part.reset) s u := by
  have h : run s (fun s => when_ (!s.sc.debugFuse) (fun s => s.resetNow 8) s) = .next u := h
  refine run_keep (by decide) h (fun x hx => ?_)
  repeat' first
    | with_reducible assumption | (with_reducible show Part.within _ _ = true; decide) | with_reducible refine Frame.ite ?_ ?_
    | with_reducible refine when_frame (fun _ _ => ?_) ?_ | with_reducible refine State.resetNow_frame ?_ ?_

theorem frame_shelveReady (s u : State) (h : exec .shelveReady s = .next u) :
    Frame (Part.sys ||| Part.bk ||| Part.outs) s u := by
  have h : run s State.shelveReady = .next u := h
  refine run_keep (by decide) h (fun x hx => ?_)
  repeat' first
    | with_reducible assumption | (with_reducible show Part.within _ _ = true; decide)
    | with_reducible refine State.shelveReady_frame ?_ ?_

theorem frame_shelveTimeout (s u : State) (h : exec .shelveTimeout s = .next u) :
    Frame (Part.sys ||| Part.bk ||| Part.time ||| Part.outs) s u := by
  have q : ∀ d, run s (fun s => when_ (s.sys.pwrEnLow && s.sys.shelving && s.sys.supOk) (fun s =>
        let s1 := s.passTo (s.sys.pwrEnFell + d)
        State.shelveEnd { s1 with sys := { s1.sys with pwrEnLow := false } } 5) s) = .next u →
      Frame (Part.sys ||| Part.bk ||| Part.time ||| Part.outs) s u := fun d h =>
    run_keep (by decide) h (fun x hx => when_frame (fun y hy => State.shelveEnd_frame (by decide)
      (Frame.set_sys (by decide) id id (fun _ => ⟨rfl, rfl, rfl⟩) (State.passTo_frame (by decide) hy))) hx)
  exact q (sec 1) h

theorem frame_wakeN (s u : State) (h : exec .wakeN s = .next u) :
    Frame (Part.sys ||| Part.bk ||| Part.time ||| Part.outs) s u := by
  have h : run s (fun s => when_ s.bk.powered (fun s => (s.pass (ms 10)).wakeRelease 1) s) = .next u := h
  refine run_keep (by decide) h (fun x hx => ?_)
  repeat' first
    | with_reducible assumption | (with_reducible show Part.within _ _ = true; decide) | with_reducible refine Frame.ite ?_ ?_
    | with_reducible refine when_frame (fun _ _ => ?_) ?_ | with_reducible refine State.pass_frame ?_ ?_
    | with_reducible refine State.wakeRelease_frame ?_ ?_

theorem frame_clockWake (s u : State) (h : exec .clockWake s = .next u) :
    Frame (Part.sys ||| Part.bk ||| Part.time ||| Part.outs) s u := by
  have h : run s (fun s => when_ (s.bk.powered && s.bk.shelfWake != 0 && s.bk.rtcValid) (fun s =>
        State.wakeRelease { s with bk := { s.bk with rtc := max s.bk.rtc s.bk.shelfWake } } 2) s) = .next u := h
  refine run_keep (by decide) h (fun x hx => ?_)
  repeat' first
    | with_reducible assumption | (with_reducible show Part.within _ _ = true; decide) | with_reducible refine Frame.ite ?_ ?_
    | with_reducible refine when_frame (fun _ _ => ?_) ?_ | with_reducible refine State.wakeRelease_frame ?_ ?_
    | with_reducible refine Frame.set_bk ?_ ?_ | exact Nat.le_refl _ | exact fun _ k => k | exact fun _ => rfl | exact fun _ _ => rfl
    | exact id | exact List.prefix_refl _ | exact fun _ => ⟨rfl, rfl⟩ | exact fun _ => Or.inl ⟨rfl, rfl, rfl⟩
    | exact fun _ => ⟨rfl, rfl, rfl⟩ | exact fun k => Part.out_absurd (by decide : Part.within _ _ = true) (by decide) k | split
    | (lift_lets; intros)

theorem frame_supplyReturn (s u : State) (h : exec .supplyReturn s = .next u) :
    Frame (Part.sys ||| Part.bk ||| Part.time ||| Part.outs) s u := by
  have h : run s State.supplyReturn = .next u := h
  exact run_keep (by decide) h (fun x hx => State.supplyReturn_frame (by decide) hx)

theorem frame_vbatMeasure (mv : Nat) (s u : State) (h : exec (.vbatMeasure mv) s = .next u) :
    Frame (Part.sys ||| Part.outs) s u := by
  have h : run s (fun s => { s with sys := { s.sys with vbatLow := decide (mv < 2200), supBat := min 255 (mv / 20) } }) = .next u := h
  refine run_keep (by decide) h (fun x hx => ?_)
  repeat' first
    | with_reducible assumption | (with_reducible show Part.within _ _ = true; decide) | with_reducible refine Frame.set_sys ?_ ?_ ?_ ?_ ?_
    | exact Nat.le_refl _ | exact fun _ k => k | exact fun _ => rfl | exact fun _ _ => rfl | exact id | exact List.prefix_refl _
    | exact fun _ => ⟨rfl, rfl⟩ | exact fun _ => Or.inl ⟨rfl, rfl, rfl⟩ | exact fun _ => ⟨rfl, rfl, rfl⟩
    | exact fun k => Part.out_absurd (by decide : Part.within _ _ = true) (by decide) k | split | (lift_lets; intros)

theorem frame_rtcCrystalStop (s u : State) (h : exec .rtcCrystalStop s = .next u) :
    Frame (Part.bk ||| Part.outs) s u := by
  have h : run s (fun s => when_ s.bk.powered (fun s => { s with bk := { s.bk with rtcValid := false } }) s) = .next u := h
  refine run_keep (by decide) h (fun x hx => ?_)
  repeat' first
    | with_reducible assumption | (with_reducible show Part.within _ _ = true; decide) | with_reducible refine Frame.ite ?_ ?_
    | with_reducible refine when_frame (fun _ _ => ?_) ?_ | with_reducible refine Frame.set_bk ?_ ?_ | exact Nat.le_refl _
    | exact fun _ k => k | exact fun _ => rfl | exact fun _ _ => rfl | exact id | exact List.prefix_refl _ | exact fun _ => ⟨rfl, rfl⟩
    | exact fun _ => Or.inl ⟨rfl, rfl, rfl⟩ | exact fun _ => ⟨rfl, rfl, rfl⟩
    | exact fun k => Part.out_absurd (by decide : Part.within _ _ = true) (by decide) k | split | (lift_lets; intros)

theorem frame_backupPowerUp (s u : State) (h : exec .backupPowerUp s = .next u) :
    Frame (Part.bk ||| Part.outs) s u := by
  have h : run s (fun s => when_ (!s.bk.powered) (fun s => { s with bk := { powered := true } }) s) = .next u := h
  refine run_keep (by decide) h (fun x hx => ?_)
  repeat' first
    | with_reducible assumption | (with_reducible show Part.within _ _ = true; decide) | with_reducible refine Frame.ite ?_ ?_
    | with_reducible refine when_frame (fun _ _ => ?_) ?_ | with_reducible refine Frame.set_bk ?_ ?_ | exact Nat.le_refl _
    | exact fun _ k => k | exact fun _ => rfl | exact fun _ _ => rfl | exact id | exact List.prefix_refl _ | exact fun _ => ⟨rfl, rfl⟩
    | exact fun _ => Or.inl ⟨rfl, rfl, rfl⟩ | exact fun _ => ⟨rfl, rfl, rfl⟩
    | exact fun k => Part.out_absurd (by decide : Part.within _ _ = true) (by decide) k | split | (lift_lets; intros)

theorem frame_backupPowerLoss (s u : State) (h : exec .backupPowerLoss s = .next u) :
    Frame (Part.sys ||| Part.bk ||| Part.outs) s u := by
  have h : run s (fun s => { s with bk := { powered := false }, sys := { s.sys with pwrEnLow := false, wakeHeld := 0 } }) = .next u := h
  refine run_keep (by decide) h (fun x hx => ?_)
  exact Frame.set_sys_bk (by decide) id id (fun _ => ⟨rfl, rfl, rfl⟩) hx

theorem frame_suppliesGood (s u : State) (h : exec .suppliesGood s = .next u) :
    Frame (Part.sys ||| Part.outs ||| Part.startup) s u := by
  have h : run s (fun s => when_ (!s.sys.supOk) (fun s => State.tryRelease { s with sys := { s.sys with supOk := true, coreFell := none } }) s) = .next u := h
  refine run_keep (by decide) h (fun x hx => ?_)
  repeat' first
    | with_reducible assumption | (with_reducible show Part.within _ _ = true; decide) | with_reducible refine Frame.ite ?_ ?_
    | with_reducible refine when_frame (fun _ _ => ?_) ?_ | with_reducible refine State.tryRelease_frame ?_ ?_
    | with_reducible refine Frame.set_sys ?_ ?_ ?_ ?_ ?_ | exact Nat.le_refl _ | exact fun _ k => k | exact fun _ => rfl
    | exact fun _ _ => rfl | exact id | exact List.prefix_refl _ | exact fun _ => ⟨rfl, rfl⟩ | exact fun _ => Or.inl ⟨rfl, rfl, rfl⟩
    | exact fun _ => ⟨rfl, rfl, rfl⟩ | exact fun k => Part.out_absurd (by decide : Part.within _ _ = true) (by decide) k | split
    | (lift_lets; intros)

end Sys2Proof.Machine
end

