-- ==== Sys2Proof/Laws/Handover.lean ====
section
/-!
SUPPORT. Sys2Proof/Laws/Handover.lean: how a critical command that arrives is handed over, what acceptance and its outcome do,
and the frame of its row.
-/
set_option Elab.async false
namespace Sys2Proof.Machine
open Sys2Proof

theorem leNat_lt (l : List Byte) : leNat l < 256 ^ l.length := by
  induction l with
  | nil => exact Nat.one_pos
  | cons b l ih =>
    show b.toNat + 256 * leNat l < 256 ^ (l.length + 1)
    have : b.toNat < 256 := b.isLt
    rw [Nat.pow_succ]
    omega

theorem leBytes_leNat (l : List Byte) : leBytes l.length (leNat l) = l := by
  induction l with
  | nil => rfl
  | cons b l ih =>
    show BitVec.ofNat 8 (b.toNat + 256 * leNat l) :: leBytes l.length ((b.toNat + 256 * leNat l) / 256) = _
    have h : b.toNat < 256 := b.isLt
    rw [show (b.toNat + 256 * leNat l) / 256 = leNat l by omega, ih]
    congr 1
    apply BitVec.eq_of_toNat_eq
    rw [BitVec.toNat_ofNat]
    omega

theorem slice_len (b : List Byte) (o n : Nat) : (slice b o n).length = n := by
  unfold slice
  simp

theorem word_bytes (b : List Byte) (o : Nat) : leBytes 4 (BitVec.ofNat 32 (leAt b o 4)).toNat = slice b o 4 := by
  have h := leNat_lt (slice b o 4)
  have l := leBytes_leNat (slice b o 4)
  rw [slice_len] at h l
  unfold leAt
  rw [BitVec.toNat_ofNat, Nat.mod_eq_of_lt (by simpa using h)]
  exact l

theorem flatMap_get {n : Nat} {g : Nat → List Byte} (hg : ∀ i, (g i).length = 4) (k : Nat) (hk : k < 4 * n) : ((List.range n).flatMap g)[k]? = (g (k / 4))[k % 4]? := by
  have hl : ∀ n, ((List.range n).flatMap g).length = 4 * n := by
    intro n
    induction n with
    | zero => rfl
    | succ n ih => rw [List.range_succ, List.flatMap_append, List.length_append, ih]; simp [hg]; omega
  induction n with
  | zero => omega
  | succ n ih =>
    rw [List.range_succ, List.flatMap_append]
    by_cases h : k < 4 * n
    · rw [List.getElem?_append_left (by rw [hl]; exact h)]
      exact ih h
    · rw [List.getElem?_append_right (by rw [hl]; omega), hl]
      rw [show k / 4 = n by omega, show k % 4 = k - 4 * n by omega]
      simp

theorem slice_get (b : List Byte) (o n k : Nat) (h : o + k < b.length) (hk : k < n) : (slice b o n)[k]? = b[o + k]? := by
  unfold slice
  rw [List.getElem?_append_left (by simp; omega)]
  rw [List.getElem?_take_of_lt hk, List.getElem?_drop]

theorem regAddr_cmd_inj (i j : Nat) (h : regAddr .secCmdBuf i 0 = regAddr .secCmdBuf j 0) : i = j := by
  unfold regAddr at h
  rw [show (desc .secCmdBuf).s1 = 4 from rfl] at h
  omega

theorem putBuf_ne (b : List Byte) (j : Nat) : ∀ (l : List Nat) (s : State), j ∉ l → (forEach l (fun s i => if 4 * i < b.length then s.setReg .secCmdBuf i 0 (BitVec.ofNat 32 (leAt b (4 * i) 4)) else s) s).reg .secCmdBuf j = s.reg .secCmdBuf j
  | [], _, _ => rfl
  | k :: l, s, h => by
    rw [forEach_cons, putBuf_ne b j l _ (fun h2 => h (List.mem_cons_of_mem _ h2))]
    split
    · exact State.reg_setReg_ne _ _ _ _ _ _ _ _ (fun e => h (by rw [regAddr_cmd_inj _ _ e]; exact List.mem_cons_self ..))
    · rfl

theorem putBuf_in (b : List Byte) (j : Nat) (hj : 4 * j < b.length) : ∀ (l : List Nat) (s : State), l.Nodup → j ∈ l → (forEach l (fun s i => if 4 * i < b.length then s.setReg .secCmdBuf i 0 (BitVec.ofNat 32 (leAt b (4 * i) 4)) else s) s).reg .secCmdBuf j = BitVec.ofNat 32 (leAt b (4 * j) 4)
  | [], _, _, h => by cases h
  | k :: l, s, hn, hm => by
    rw [forEach_cons]
    by_cases e : j = k
    · subst e
      rw [putBuf_ne b j l _ (List.nodup_cons.mp hn).1, if_pos hj]
      exact State.reg_setReg_self _ _ _ _ _
    · exact putBuf_in b j hj l _ (List.nodup_cons.mp hn).2 (by simpa [e] using hm)

theorem putBuf_frame (s : State) (b : List Byte) : Frame Part.regs s (forEach (List.range 64) (fun s i => if 4 * i < b.length then s.setReg .secCmdBuf i 0 (BitVec.ofNat 32 (leAt b (4 * i) 4)) else s) s) :=
  forEach_frame (fun _ _ h => by split; exact State.setReg_frame rfl h; exact h) _ (Frame.refl _ s)

theorem buffer_take (s x : State) (b : List Byte) (h : b.length ≤ 256) (hx : x.regs = (forEach (List.range 64) (fun s i => if 4 * i < b.length then s.setReg .secCmdBuf i 0 (BitVec.ofNat 32 (leAt b (4 * i) 4)) else s) s).regs) : x.cmdBuffer.take b.length = b := by
  have hr : ∀ i, 4 * i < b.length → x.reg .secCmdBuf i = BitVec.ofNat 32 (leAt b (4 * i) 4) := by
    intro i hi
    have := putBuf_in b i hi (List.range 64) s List.nodup_range (List.mem_range.mpr (by omega))
    rw [← this]
    unfold State.reg
    rw [hx]
  apply List.ext_getElem?
  intro k
  by_cases hk : k < b.length
  · rw [List.getElem?_take_of_lt hk]
    unfold State.cmdBuffer
    have ll : ∀ i, (leBytes 4 (x.reg .secCmdBuf i).toNat).length = 4 := fun i => rfl
    rw [flatMap_get ll k (by omega), hr _ (by omega), word_bytes, slice_get _ _ _ _ (by omega) (by omega)]
    congr 1
    omega
  · rw [List.getElem?_eq_none (by simp; omega), List.getElem?_eq_none (by omega)]

theorem cmdRow_arrives {s y : State} {code : Nat} {conn : Option (Fin 64)} {b : List Byte} (h : s.Arrives code conn b y) (ok : Bool) : s.cmdRow code conn b ok = y.secCommand (conn.map Fin.val) b ok := by
  unfold State.cmdRow
  rw [when_of (by rw [h.code, h.domain]; simp)]
  have hp := h.path
  have hf := h.found
  unfold State.pathOpen at hp
  unfold State.offered at hf
  cases conn with
  | some c =>
    dsimp only at hp hf ⊢
    rw [when_of hp, hf]
    rfl
  | none =>
    dsimp only at hp hf ⊢
    simp only [Bool.and_eq_true, decide_eq_true_eq, Bool.not_eq_true'] at hp
    rw [when_of (by simp only [Bool.and_eq_true, decide_eq_true_eq]; exact hp.1)]
    have f := putBuf_frame s b
    have bt := buffer_take s _ b (by omega) rfl
    generalize forEach (List.range 64) (fun s i => if 4 * i < b.length then s.setReg .secCmdBuf i 0 (BitVec.ofNat 32 (leAt b (4 * i) 4)) else s) s = x at *
    unfold State.goBuffer
    rw [bt, f.sc rfl, hp.2, if_neg (by decide)]
    rw [← hf, f.sc rfl]
    rfl

theorem offered_frame (s : State) (conn : Option (Fin 64)) (b : List Byte) : Frame (Part.regs ||| Part.sc) s (s.offered conn b) := by
  unfold State.offered
  cases conn with
  | some c => exact Frame.refl _ s
  | none =>
    have f := putBuf_frame s b
    dsimp only
    exact Frame.set_sc (by decide) id (Nat.le_refl _) (fun _ h => h) (List.prefix_refl _) (f.mono (by decide))

theorem offered_sc (s : State) (conn : Option (Fin 64)) (b : List Byte) : ∃ x y z, (s.offered conn b).sc = { s.sc with bufBusy := x, bufDone := y, bufResult := z } := by
  unfold State.offered
  cases conn with
  | some c => exact ⟨_, _, _, rfl⟩
  | none => exact ⟨true, false, 0, by dsimp only; rw [(putBuf_frame s b).sc rfl]⟩

/-- Acting on an accepted command and giving its outcome. -/
def outcomeOf (r : State × Option Nat) (cn : Option Nat) (b : List Byte) (a : TimeNs) (tq : Nat) : State := match r.2 with
  | some q => r.1.cmdOutcome cn b a tq q
  | none => r.1

theorem outcome_sc (s : State) (conn : Option Nat) (b : List Byte) (a : TimeNs) (tq r : Nat) : (s.cmdOutcome conn b a tq r).sc = match conn with
    | some _ => s.sc
    | none => { s.sc with bufBusy := false, bufDone := true, bufResult := r } := by
  unfold State.cmdOutcome
  dsimp only
  have f1 : Frame Part.free s (s.draw 32).2 := State.draw_frame (by decide) (Frame.refl _ s)
  have f2 : Frame Part.cnt (s.draw 32).2 ((s.draw 32).2.latencyBin (s.draw 32).1) := State.latencyBin_frame (by decide) (Frame.refl _ _)
  obtain ⟨x, hx⟩ : ∃ x, (if r = 0 then (s.draw 32).2.latencyBin (s.draw 32).1 else s) = x := ⟨_, rfl⟩
  have xs : x.sc = s.sc := by
    rw [← hx]
    split
    · rw [f2.sc (by decide), f1.sc (by decide)]
    · rfl
  rw [hx]
  generalize (sampleEntry 1 tq (cmdCode b) (s.cmdPartner conn) (cmdKeyOf b) (conn.getD 0xFFFF) a (if r = 0 then (s.draw 32).1 else 0xFFFFFFFF) (cmdCounter b) r) = e
  have f3 : Frame (Part.rcd ||| Part.cnt) x (x.sampleCmd e) := State.sampleCmd_frame (by decide) (Frame.refl _ x)
  generalize x.sampleCmd e = y at *
  cases conn with
  | none => dsimp only; rw [f3.sc (by decide), xs]
  | some c =>
    dsimp only
    have f4 : Frame (Part.cnt ||| Part.conns ||| Part.twin ||| Part.outs) y (y.sendResult c (cmdCounter b) r []) := State.sendResult_frame (by decide) (Frame.refl _ y)
    rw [f4.sc (by decide), f3.sc (by decide), xs]

def outMask : Nat := Part.sc ||| Part.rcd ||| Part.cnt ||| Part.conns ||| Part.twin ||| Part.outs ||| Part.free

theorem outcome_keep (r : State × Option Nat) (cn : Option Nat) (b : List Byte) (a : TimeNs) (tq : Nat) : Frame outMask r.1 (outcomeOf r cn b a tq) ∧ ∃ x y z, (outcomeOf r cn b a tq).sc = { r.1.sc with bufBusy := x, bufDone := y, bufResult := z } := by
  obtain ⟨r1, r2⟩ := r
  unfold outcomeOf
  cases r2 with
  | none => exact ⟨Frame.refl _ _, _, _, _, rfl⟩
  | some q =>
    refine ⟨State.cmdOutcome_frame (by decide) (Frame.refl _ _), ?_⟩
    dsimp only
    rw [outcome_sc]
    cases cn with
    | some c => exact ⟨_, _, _, rfl⟩
    | none => exact ⟨_, _, _, rfl⟩

/-- What the core has done to the state in which it finds an accepted command by the time it hands the command over. -/
structure Handed (y x : State) (b : List Byte) : Prop where
  fr : Frame (Part.sc ||| Part.mem ||| Part.rcd ||| Part.cnt) y x
  shape : ∃ (v : List Ticks) (m : List Host.Cell) (r : Recorder) (c : Counters), x = { y with sc := { y.sc with counters := Table.set 0 y.sc.counters (cmdKeyOf b) (cmdCounter b), verifying := v }, mem := m, rcd := r, cnt := c }
  arch : x.rcd.archState = y.rcd.archState ∧ x.rcd.archCnt = y.rcd.archCnt ∧ x.rcd.degraded = y.rcd.degraded ∧ x.rcd.hold = y.rcd.hold ∧ x.rcd.draining = y.rcd.draining ∧ x.rcd.clearing = y.rcd.clearing ∧ x.rcd.oldest = y.rcd.oldest ∧ x.rcd.nextAcc = y.rcd.nextAcc

theorem intake_rcd' (r : Recorder) (e : EventRec) : ∃ i g, intake r e = { r with intake := i, gapOpen := g } := by
  unfold intake
  split
  · exact ⟨_, _, rfl⟩
  · split
    · exact ⟨_, _, rfl⟩
    · exact ⟨_, _, rfl⟩

theorem queue_rcd' (on : Bool) (w n : Ticks) (r : Recorder) (e : EventRec) : ∃ i g q, (queueRecord on w n r e).1 = { r with intake := i, gapOpen := g, repeats := q } := by
  obtain ⟨i, g, h⟩ := intake_rcd' r e
  unfold queueRecord
  dsimp only
  rw [h]
  repeat' split
  all_goals exact ⟨_, _, _, rfl⟩

theorem raise_rcd' (s : State) (c i : Nat) (v : List Byte) : ∃ a b d, (s.raise c i v).rcd = { s.rcd with intake := a, gapOpen := b, repeats := d } := by
  unfold State.raise State.raiseBody
  dsimp only
  obtain ⟨a, b, d, h⟩ := queue_rcd' (s.rb .recCfg 0 2) (ms (10 * s.rf .recCfg 0 15 8)) s.lt s.rcd ⟨c, s.tt, s.quality.code, s.standby, dataOf i v⟩
  refine ⟨a, b, d, ?_⟩
  rw [← h]
  split <;> rfl

theorem shape_of (y z : State) (f : Frame (Part.rcd ||| Part.cnt ||| Part.mem) y z) : ∃ m r c, z = { y with mem := m, rcd := r, cnt := c } := by
  refine ⟨z.mem, z.rcd, z.cnt, ?_⟩
  have h := f.pending
  have h1 := f.sys rfl
  have h2 := f.bk rfl
  have h3 := f.nvm rfl
  have h4 := f.cat rfl
  have h5 := f.sc rfl
  have h6 := f.time rfl
  have h7 := f.seq rfl
  have h8 := f.portals rfl
  have h9 := f.obs rfl
  have h10 := f.axes rfl
  have h11 := f.fb rfl
  have h12 := f.links rfl
  have h13 := f.ilk rfl
  have h14 := f.fio rfl
  have h15 := f.loads rfl
  have h16 := f.net rfl
  have h17 := f.trdp rfl
  have h18 := f.conns rfl
  have h19 := f.twin rfl
  have h20 := f.regs rfl
  have h21 := f.flash rfl
  have h22 := f.outs rfl
  have h23 := f.free rfl
  clear f
  cases z
  cases y
  simp only at *
  subst_vars
  rfl

theorem mirror_transfer (s : State) (k : Nat) (body : List Byte) : (s.mirror k body).twin.transfer = s.twin.transfer := by
  unfold State.mirror
  split
  · dsimp only
    split <;> rfl
  · rfl

theorem stlSend_transfer (s : State) (c off type : Nat) (p : List Byte) : (s.stlSend c off type p).twin.transfer = s.twin.transfer := by
  unfold State.stlSend State.stlOut
  dsimp only
  generalize s.stlBuild _ _ _ _ _ _ _ = msg
  obtain ⟨z, hz⟩ : ∃ z, ((s.modConn c (fun q => { q with cur := { q.cur with seqTx := (s.conn c).cur.seqTx + 1 } })).noteSent c ((s.conn c).cur.seqTx + 1)) = z := ⟨_, rfl⟩
  have zt : z.twin = s.twin := by rw [← hz]; rfl
  rw [hz, ← zt]
  have tele : ∀ (w : State) (a b : Nat) (d : List Byte), (w.sendTelegram a b d).twin = w.twin := by
    intro w a b d
    unfold State.sendTelegram
    split <;> rfl
  unfold State.mirrorHold
  split
  · exact mirror_transfer _ _ _
  · exact congrArg Twin.transfer (tele _ _ _ _)

theorem outcome_transfer (s : State) (conn : Option Nat) (b : List Byte) (a : TimeNs) (tq r : Nat) : (s.cmdOutcome conn b a tq r).twin.transfer = s.twin.transfer := by
  unfold State.cmdOutcome
  dsimp only
  have f1 : Frame Part.free s (s.draw 32).2 := State.draw_frame (by decide) (Frame.refl _ s)
  have f2 : Frame Part.cnt (s.draw 32).2 ((s.draw 32).2.latencyBin (s.draw 32).1) := State.latencyBin_frame (by decide) (Frame.refl _ _)
  obtain ⟨x, hx⟩ : ∃ x, (if r = 0 then (s.draw 32).2.latencyBin (s.draw 32).1 else s) = x := ⟨_, rfl⟩
  have xs : x.twin = s.twin := by
    rw [← hx]
    split
    · rw [f2.twin (by decide), f1.twin (by decide)]
    · rfl
  rw [hx]
  generalize (sampleEntry 1 tq (cmdCode b) (s.cmdPartner conn) (cmdKeyOf b) (conn.getD 0xFFFF) a (if r = 0 then (s.draw 32).1 else 0xFFFFFFFF) (cmdCounter b) r) = e
  have f3 : Frame (Part.rcd ||| Part.cnt) x (x.sampleCmd e) := State.sampleCmd_frame (by decide) (Frame.refl _ x)
  generalize x.sampleCmd e = y at *
  have ys : y.twin = s.twin := (f3.twin (by decide)).trans xs
  cases conn with
  | none => exact congrArg Twin.transfer ys
  | some c =>
    rw [← ys]
    dsimp only
    unfold State.sendResult when_
    dsimp only
    split
    · exact stlSend_transfer _ _ _ _ _
    · rfl

theorem Handed.frame {y x : State} {b : List Byte} (h : Handed y x b) : Frame (Part.sc ||| Part.mem ||| Part.rcd ||| Part.cnt) y x := h.fr

theorem accept_eq {s y : State} {code : Nat} {conn : Option (Fin 64)} {b : List Byte} (h : s.Accepts code conn b y) (hc : code ≠ 0x0F01) :
    ∃ x a tq, Handed y x b ∧ s.cmdRow code conn b true = outcomeOf (x.handover (conn.map Fin.val) b) (conn.map Fin.val) b a tq := by
  rw [cmdRow_arrives h.toArrives true]
  obtain ⟨c1, c2, c3, c4, c5, c6, c7⟩ := h.toArrives
  have hp := h.passes
  have f := offered_frame s conn b
  obtain ⟨p, q, r, fs⟩ := offered_sc s conn b
  have hm : y.mirrors = false := by
    have := h.alone
    rw [← c7]
    unfold State.mirrors State.holder at this ⊢
    rw [f.sys rfl, f.twin rfl]
    exact this
  rw [c7] at f fs
  have e1 : y.twin.releasing = none := by rw [f.twin rfl]; exact c4
  have e2 : y.sys.shelving = false := by rw [f.sys rfl]; exact c5
  have e3 : y.queued < 8 := by
    have : y.queued = s.queued := by
      unfold State.queued State.lt
      rw [fs, f.time rfl]
    rw [this]; exact c6
  unfold State.secCommand
  rw [e1, e2, if_neg (by decide), if_neg (by simp; exact e3)]
  dsimp only
  generalize us 25 = u25
  generalize (List.filter (fun t => decide (y.lt < t)) y.sc.verifying ++ [max y.lt ((List.filter (fun t => decide (y.lt < t)) y.sc.verifying).getLast?.getD y.lt) + u25]) = v
  have hp' : State.verifyCmd { y with sc := { y.sc with verifying := v } } (conn.map Fin.val) b = none := hp
  rw [hp']
  dsimp only
  generalize conn.map Fin.val = cn at *
  unfold State.acceptCmd
  rw [if_neg (by rw [c1]; exact hc)]
  dsimp only
  rw [if_neg (by decide)]
  generalize State.tt { y with sc := { y.sc with verifying := v } } = a
  generalize Quality.code _ = tq
  obtain ⟨w, hw⟩ : ∃ w : State, { y with sc := { y.sc with counters := Table.set 0 y.sc.counters (cmdKeyOf b) (cmdCounter b), verifying := v } } = w := ⟨_, rfl⟩
  have g : ({ y with sc := { y.sc with verifying := v, counters := Table.set 0 y.sc.counters (cmdKeyOf b) (cmdCounter b) } } : State) = w := hw
  rw [g]
  have fm : Frame Part.mem w (w.saveNum (0x10 + cmdKeyOf b) (cmdCounter b)) := State.saveNum_frame (by decide) (Frame.refl _ w)
  generalize w.saveNum (0x10 + cmdKeyOf b) (cmdCounter b) = w2 at *
  have wm : w2.mirrors = false := by
    have : w2.mirrors = w.mirrors := by unfold State.mirrors State.holder; rw [fm.sys rfl, fm.twin rfl]
    rw [this, ← hw]
    exact hm
  unfold State.mirrorHold
  rw [wm, if_neg (by decide)]
  unfold State.takeEffect
  dsimp only
  have wr : w2.rcd = y.rcd := by rw [fm.rcd rfl, ← hw]
  obtain ⟨x, hx⟩ : ∃ x, (w2.count 240).raise 0x200A noInst (leBytes 2 (cmdCode b) ++ leBytes 1 (cmdKeyOf b) ++ leBytes 4 (cmdCounter b)) = x := ⟨_, rfl⟩
  have fx : Frame (Part.rcd ||| Part.cnt) w2 x := by rw [← hx]; exact State.raise_frame (by decide) (State.count_frame (by decide) (Frame.refl _ w2))
  refine ⟨x, a, tq, ⟨?_, ?_, ?_⟩, ?_⟩
  · have fw : Frame Part.sc y w := by rw [← hw]; exact Frame.set_sc (by decide) id (Nat.le_refl _) (fun _ h => h) (List.prefix_refl _) (Frame.refl _ y)
    exact ((fw.mono (by decide)).trans (fm.mono (by decide))).trans (fx.mono (by decide))
  · obtain ⟨m, r, c, e⟩ := shape_of w x ((fm.mono (by decide)).trans (fx.mono (by decide)))
    refine ⟨v, m, r, c, ?_⟩
    rw [e, ← hw]
  · obtain ⟨a1, a2, a3, e⟩ := raise_rcd' (w2.count 240) 0x200A noInst (leBytes 2 (cmdCode b) ++ leBytes 1 (cmdKeyOf b) ++ leBytes 4 (cmdCounter b))
    rw [hx] at e
    have ec : (w2.count 240).rcd = w2.rcd := (State.count_frame (w := Part.cnt) (by decide) (Frame.refl _ w2)).rcd rfl
    rw [e, ec, wr]
    exact ⟨rfl,rfl,rfl,rfl,rfl,rfl,rfl,rfl⟩
  · unfold outcomeOf
    first
    | (rw [hx]; done)
    | (rw [hx]; cases (x.handover cn b).2 <;> rfl)

theorem mirror_post (s : State) (k : Nat) (body : List Byte) (h : s.mirrors = true) : (s.mirror k body).sc = s.sc ∧ (s.mirror k body).seq = s.seq ∧ (s.mirror k body).portals = s.portals ∧ (s.mirror k body).twin.held = s.twin.held ∧ (s.mirror k body).twin.mseq = (s.twin.mseq + 1) % 2 ^ 32 := by
  unfold State.mirror
  rw [h, if_pos rfl]
  dsimp only
  split <;> exact ⟨rfl,rfl,rfl,rfl,rfl⟩

theorem held_post {s y : State} {code : Nat} {conn : Option (Fin 64)} {b : List Byte} (h : s.Verified code conn b y) (hm0 : s.mirrors = true) (hc : code ≠ 0x0F01) :
    (s.cmdRow code conn b true).sc.counters = Table.set 0 s.sc.counters (cmdKeyOf b) (cmdCounter b) ∧ (∃ a tq, (s.cmdRow code conn b true).twin.held = s.twin.held ++ [((s.twin.mseq + 1) % 2 ^ 32, .command b ((conn.map Fin.val).getD 0xFFFF) a tq)]) ∧ (s.cmdRow code conn b true).seq = s.seq ∧ (s.cmdRow code conn b true).portals = s.portals := by
  rw [cmdRow_arrives h.toArrives true]
  obtain ⟨c1, c2, c3, c4, c5, c6, c7⟩ := h.toArrives
  have hp := h.passes
  have f := offered_frame s conn b
  obtain ⟨p, q, r, fs⟩ := offered_sc s conn b
  have hm : y.mirrors = true := by
    rw [← c7]
    unfold State.mirrors State.holder at hm0 ⊢
    rw [f.sys rfl, f.twin rfl]
    exact hm0
  rw [c7] at f fs
  have e1 : y.twin.releasing = none := by rw [f.twin rfl]; exact c4
  have e2 : y.sys.shelving = false := by rw [f.sys rfl]; exact c5
  have e3 : y.queued < 8 := by
    have : y.queued = s.queued := by
      unfold State.queued State.lt
      rw [fs, f.time rfl]
    rw [this]; exact c6
  unfold State.secCommand
  rw [e1, e2, if_neg (by decide), if_neg (by simp; exact e3)]
  dsimp only
  generalize us 25 = u25
  generalize (List.filter (fun t => decide (y.lt < t)) y.sc.verifying ++ [max y.lt ((List.filter (fun t => decide (y.lt < t)) y.sc.verifying).getLast?.getD y.lt) + u25]) = v
  have hp' : State.verifyCmd { y with sc := { y.sc with verifying := v } } (conn.map Fin.val) b = none := hp
  rw [hp']
  dsimp only
  generalize conn.map Fin.val = cn at *
  unfold State.acceptCmd
  rw [if_neg (by rw [c1]; exact hc)]
  dsimp only
  rw [if_neg (by decide)]
  generalize State.tt { y with sc := { y.sc with verifying := v } } = a
  generalize Quality.code _ = tq
  obtain ⟨w, hw⟩ : ∃ w : State, { y with sc := { y.sc with counters := Table.set 0 y.sc.counters (cmdKeyOf b) (cmdCounter b), verifying := v } } = w := ⟨_, rfl⟩
  have g : ({ y with sc := { y.sc with verifying := v, counters := Table.set 0 y.sc.counters (cmdKeyOf b) (cmdCounter b) } } : State) = w := hw
  rw [g]
  have fm : Frame Part.mem w (w.saveNum (0x10 + cmdKeyOf b) (cmdCounter b)) := State.saveNum_frame (by decide) (Frame.refl _ w)
  generalize w.saveNum (0x10 + cmdKeyOf b) (cmdCounter b) = w2 at *
  have wm : w2.mirrors = true := by
    have : w2.mirrors = w.mirrors := by unfold State.mirrors State.holder; rw [fm.sys rfl, fm.twin rfl]
    rw [this, ← hw]
    exact hm
  have wt : w2.twin = s.twin := by rw [fm.twin rfl, ← hw]; exact f.twin rfl
  have wc : w2.sc.counters = Table.set 0 s.sc.counters (cmdKeyOf b) (cmdCounter b) := by rw [fm.sc rfl, ← hw]; show Table.set 0 y.sc.counters _ _ = _; rw [fs]
  have ws : w2.seq = s.seq := by rw [fm.seq rfl, ← hw]; exact f.seq rfl
  have wp : w2.portals = s.portals := by rw [fm.portals rfl, ← hw]; exact f.portals rfl
  unfold State.mirrorHold
  rw [wm, if_pos rfl]
  dsimp only
  have q := mirror_post w2 3 (beBytes 1 (cmdKeyOf b) ++ beBytes 8 (cmdCounter b)) wm
  generalize w2.mirror 3 (beBytes 1 (cmdKeyOf b) ++ beBytes 8 (cmdCounter b)) = z0 at *
  exact ⟨by rw [q.1, wc], ⟨a, tq, by rw [q.2.2.2.1, q.2.2.2.2, wt]⟩, by rw [q.2.1, ws], by rw [q.2.2.1, wp]⟩

/-- What checking a critical command, storing its counter and giving its outcome write. -/
def coreParts : Nat :=
  Part.sc ||| Part.rcd ||| Part.cnt ||| Part.conns ||| Part.twin ||| Part.regs ||| Part.mem ||| Part.outs ||| Part.free

theorem State.takeEffect_keep {w : Nat} {b s : State} {cn : Option Nat} {c : List Byte} {a : TimeNs} {tq : Nat} (hw : Part.within coreParts w = true)
    (hh : ∀ x, Frame w b x → Frame w b (x.handover cn c).1) (h : Frame w b s) : Frame w b (s.takeEffect cn c a tq) := by
  unfold State.takeEffect
  dsimp only
  have k := hh _ (State.raise_frame (w := w) (code := 0x200A) (inst := noInst)
    (vals := leBytes 2 (cmdCode c) ++ leBytes 1 (cmdKeyOf c) ++ leBytes 4 (cmdCounter c)) (Part.within_trans (by decide) hw)
    (State.count_frame (i := 240) (n := 1) (Part.within_trans (by decide) hw) h))
  split
  · exact State.cmdOutcome_frame (Part.within_trans (by decide) hw) k
  · exact k

theorem State.acceptCmd_keep {w : Nat} {b s : State} {cn : Option Nat} {c : List Byte} {ok : Bool} (hw : Part.within coreParts w = true)
    (hh : ∀ x, Frame w b x → Frame w b (x.handover cn c).1) (h : Frame w b s) : Frame w b (s.acceptCmd cn c ok) := by
  unfold State.acceptCmd
  repeat' first
    | with_reducible assumption | exact Part.within_trans (by decide) hw | with_reducible refine Frame.ite ?_ ?_
    | with_reducible refine State.takeEffect_keep hw hh ?_ | with_reducible refine State.saveNum_frame ?_ ?_
    | with_reducible refine State.mirrorHold_frame ?_ ?_ ?_ | with_reducible refine State.rejectCmd_frame ?_ ?_
    | with_reducible refine State.count_frame ?_ ?_ | with_reducible refine State.cmdOutcome_frame ?_ ?_
    | with_reducible refine State.doProvision_frame ?_ ?_ | exact Nat.le_refl _ | exact fun _ k => k | exact id
    | exact List.prefix_refl _ | split | (lift_lets; intros) | with_reducible refine Frame.set_sc ?_ ?_ ?_ ?_ ?_ ?_

theorem State.secCommand_keep {w : Nat} {b s : State} {cn : Option Nat} {c : List Byte} {ok : Bool} (hw : Part.within coreParts w = true)
    (hh : ∀ x, Frame w b x → Frame w b (x.handover cn c).1) (h : Frame w b s) : Frame w b (s.secCommand cn c ok) := by
  unfold State.secCommand
  generalize us 25 = u
  repeat' first
    | with_reducible assumption | exact Part.within_trans (by decide) hw | with_reducible refine Frame.ite ?_ ?_
    | with_reducible refine State.acceptCmd_keep hw hh ?_ | with_reducible refine State.rejectCmd_frame ?_ ?_
    | exact Nat.le_refl _ | exact fun _ k => k | exact id
    | exact List.prefix_refl _ | split | (lift_lets; intros) | with_reducible refine Frame.set_sc ?_ ?_ ?_ ?_ ?_ ?_

/-- The frame of a critical command's row: `coreParts`, and what the block of its code writes. -/
theorem State.cmdRow_keep {w : Nat} {b s : State} {code : Nat} {conn : Option (Fin 64)} {c : List Byte} {ok : Bool}
    (hw : Part.within coreParts w = true) (hh : ∀ x cn d, cmdCode d = code → Frame w b x → Frame w b (x.handover cn d).1) (h : Frame w b s) :
    Frame w b (s.cmdRow code conn c ok) := by
  have hs : ∀ x cn, cmdCode c = code → Frame w b x → Frame w b (x.secCommand cn c ok) := fun x cn hc hx =>
    State.secCommand_keep hw (fun x hx => hh x cn c hc hx) hx
  unfold State.cmdRow
  cases hc : cmdCode c == code
  · exact h
  · replace hc : cmdCode c = code := eq_of_beq hc
    refine when_frame (fun x hx => ?_) h
    cases conn with
    | some k => exact when_frame (fun x hx => hs x _ hc hx) hx
    | none =>
      dsimp only
      cases hq : (x.mayAccess 4 false && decide (56 ≤ c.length ∧ c.length ≤ 248))
      · exact hx
      · simp only [Bool.and_eq_true, decide_eq_true_eq] at hq
        show Frame w b (State.goBuffer _ _ _)
        have f := putBuf_frame x c
        have bt := buffer_take x _ c (by omega) rfl
        have k : Frame w b (forEach (List.range 64) (fun s i => if 4 * i < c.length then s.setReg .secCmdBuf i 0 (BitVec.ofNat 32 (leAt c (4 * i) 4)) else s) x) :=
          hx.trans (f.mono (Part.within_trans (by decide) hw))
        generalize forEach (List.range 64) (fun s i => if 4 * i < c.length then s.setReg .secCmdBuf i 0 (BitVec.ofNat 32 (leAt c (4 * i) 4)) else s) x = z at *
        unfold State.goBuffer
        rw [bt]
        split
        · exact k
        · exact hs _ _ hc (Frame.set_sc (Part.within_trans (by decide) hw) id (Nat.le_refl _) (fun _ h => h) (List.prefix_refl _) k)

end Sys2Proof.Machine
end

