-- ==== Sys2Proof/Laws/CommandsSecurity.lean ====
section
/-!
SUPPORT. Sys2Proof/Laws/CommandsSecurity.lean: the frame of each command of Machine/Security.lean.
-/
set_option Elab.async false
namespace Sys2Proof.Machine
open Sys2Proof

theorem frame_registerWrite (addr : Word) (size : Fin 4) (value : BitVec 64) (ecc : Bool) (master : Fin 6) (s u : State) (h : exec
    (.registerWrite addr size value ecc master) s = .next u) :
    Frame Part.device s u := by
  have h : run s (fun s => when_ (s.mayAccess master false && addr.toNat % 2 ^ size.val == 0) (fun s => s.accessWrite addr.toNat (2 ^
    size.val) value.toNat master (if ecc then some (addr.toNat / 8 * 8) else none)) s) = .next u := h
  refine run_keep (by decide) h (fun x hx => ?_)
  repeat' first
    | with_reducible assumption | (with_reducible show Part.within _ _ = true; decide) | with_reducible refine Frame.ite ?_ ?_
    | with_reducible refine when_frame (fun _ _ => ?_) ?_ | with_reducible refine State.accessWrite_frame ?_ ?_ | split
    | (lift_lets; intros)

theorem frame_mntTransaction (bytes : List Byte) (ecc : Option Word) (s u : State) (h : exec (.mntTransaction bytes ecc) s = .next u) :
    Frame Part.device s u := by
  have h : run s (fun s => s.mntTransaction bytes (ecc.map (fun a => a.toNat / 8 * 8))) = .next u := h
  refine run_keep (by decide) h (fun x hx => ?_)
  repeat' first
    | with_reducible assumption | (with_reducible show Part.within _ _ = true; decide) | with_reducible refine Frame.ite ?_ ?_
    | with_reducible refine State.mntTransaction_frame ?_ ?_ | split | (lift_lets; intros)

theorem frame_catCommit (conn : Option (Fin 64)) (bytes : List Byte) (storeOk : Bool) (s u : State) (h : exec (.catCommit conn bytes storeOk) s = .next u) :
    Frame (Part.record ||| Part.cat ||| Part.sc ||| Part.conns ||| Part.twin ||| Part.regs ||| Part.mem ||| Part.free) s u := by
  have h : run s (fun s => s.cmdRow 0x0201 conn bytes storeOk) = .next u := h
  refine run_keep (by decide) h (fun x hx => ?_)
  refine State.cmdRow_keep (by decide) (fun y cn d hd hy => ?_) hx
  unfold State.handover
  rw [hd]
  exact State.doCatCommit_frame (by decide) hy

theorem frame_action (conn : Option (Fin 64)) (bytes : List Byte) (storeOk : Bool) (s u : State) (h : exec (.action conn bytes storeOk) s = .next u) :
    Frame (Part.record ||| Part.sc ||| Part.seq ||| Part.conns ||| Part.twin ||| Part.regs ||| Part.mem ||| Part.free ||| Part.actions) s u := by
  have h : run s (fun s => s.cmdRow 0x0101 conn bytes storeOk) = .next u := h
  refine run_keep (by decide) h (fun x hx => ?_)
  refine State.cmdRow_keep (by decide) (fun y cn d hd hy => ?_) hx
  unfold State.handover
  rw [hd]
  exact State.doAction_frame (by decide) hy

theorem frame_isolate (conn : Option (Fin 64)) (bytes : List Byte) (storeOk : Bool) (s u : State) (h : exec (.isolate conn bytes storeOk) s = .next u) :
    Frame (Part.record ||| Part.sys ||| Part.sc ||| Part.seq ||| Part.portals ||| Part.obs ||| Part.axes ||| Part.ilk ||| Part.loads ||| Part.conns ||| Part.twin ||| Part.regs ||| Part.mem ||| Part.free ||| Part.states) s u := by
  have h : run s (fun s => s.cmdRow 0x0102 conn bytes storeOk) = .next u := h
  refine run_keep (by decide) h (fun x hx => ?_)
  refine State.cmdRow_keep (by decide) (fun y cn d hd hy => ?_) hx
  unfold State.handover
  rw [hd]
  exact State.isolate_frame (by decide) hy

theorem frame_restore (conn : Option (Fin 64)) (bytes : List Byte) (storeOk : Bool) (s u : State) (h : exec (.restore conn bytes storeOk) s = .next u) :
    Frame (Part.record ||| Part.sys ||| Part.sc ||| Part.seq ||| Part.portals ||| Part.obs ||| Part.axes ||| Part.fb ||| Part.links ||| Part.ilk ||| Part.loads ||| Part.conns ||| Part.twin ||| Part.regs ||| Part.mem ||| Part.free ||| Part.states) s u := by
  have h : run s (fun s => s.cmdRow 0x0103 conn bytes storeOk) = .next u := h
  refine run_keep (by decide) h (fun x hx => ?_)
  refine State.cmdRow_keep (by decide) (fun y cn d hd hy => ?_) hx
  unfold State.handover
  rw [hd]
  exact State.restore_frame (by decide) hy

theorem frame_stlData (t : Telegram) (storeOk : Bool) (s u : State) (h : exec (.stlData t storeOk) s = .next u) :
    Frame (Part.device) s u := by
  have h : run s (fun s => s.stlData t storeOk) = .next u := h
  refine run_keep (by decide) h (fun x hx => ?_)
  repeat' first
    | with_reducible assumption | (with_reducible show Part.within _ _ = true; decide) | with_reducible refine State.stlData_frame ?_ ?_

theorem frame_twinTransfer (conn : Option (Fin 64)) (bytes : List Byte) (storeOk : Bool) (s u : State) (h : exec (.twinTransfer conn bytes storeOk) s = .next u) :
    Frame (Part.record ||| Part.sc ||| Part.conns ||| Part.twin ||| Part.regs ||| Part.mem ||| Part.free) s u := by
  have h : run s (fun s => s.cmdRow 0x0601 conn bytes storeOk) = .next u := h
  refine run_keep (by decide) h (fun x hx => ?_)
  refine State.cmdRow_keep (by decide) (fun y cn d hd hy => ?_) hx
  unfold State.handover
  rw [hd]
  exact State.transferReq_frame (by decide) hy

theorem frame_counters (t : Telegram) (s u : State) (h : exec (.counters t) s = .next u) :
    Frame (Part.record ||| Part.trdp) s u := by
  have h : run s (fun s => s.cntRequest t 0x0201 14 160 320 (fun s start n =>
        beBytes 8 s.cnt.sweepTt ++ beBytes 4 s.cnt.sweepNo ++ [0, 0, 0, 0] ++ (List.range n).flatMap (fun i => snapEntry (Table.get {} s.cnt.snap (start + i))))) = .next u := h
  refine run_keep (by decide) h (fun x hx => ?_)
  repeat' first
    | with_reducible assumption | (with_reducible show Part.within _ _ = true; decide) | with_reducible refine State.cntRequest_frame ?_ ?_

theorem frame_samples (t : Telegram) (s u : State) (h : exec (.samples t) s = .next u) :
    Frame (Part.record ||| Part.trdp) s u := by
  have h : run s (fun s => s.cntRequest t 0x0202 15 40 1024 (fun s start n =>
        let l := (s.cnt.samples.drop start).take n
        beBytes 2 l.length ++ [0, 0] ++ l.flatten)) = .next u := h
  refine run_keep (by decide) h (fun x hx => ?_)
  repeat' first
    | with_reducible assumption | (with_reducible show Part.within _ _ = true; decide) | with_reducible refine State.cntRequest_frame ?_ ?_

theorem frame_attest (t : Telegram) (s u : State) (h : exec (.attest t) s = .next u) :
    Frame (Part.record ||| Part.sc ||| Part.trdp) s u := by
  have h : run s (fun s => s.attest t) = .next u := h
  refine run_keep (by decide) h (fun x hx => ?_)
  repeat' first
    | with_reducible assumption | (with_reducible show Part.within _ _ = true; decide) | with_reducible refine State.attest_frame ?_ ?_

theorem frame_identity (t : Telegram) (s u : State) (h : exec (.identity t) s = .next u) :
    Frame (Part.record ||| Part.trdp) s u := by
  have h : run s (fun s => s.identity t) = .next u := h
  refine run_keep (by decide) h (fun x hx => ?_)
  repeat' first
    | with_reducible assumption | (with_reducible show Part.within _ _ = true; decide) | with_reducible refine State.identity_frame ?_ ?_

theorem frame_regRead (t : Telegram) (s u : State) (h : exec (.regRead t) s = .next u) :
    Frame (Part.record ||| Part.sys ||| Part.sc ||| Part.time ||| Part.portals ||| Part.obs ||| Part.fb ||| Part.trdp) s u := by
  have h : run s (fun s => s.regRead t) = .next u := h
  refine run_keep (by decide) h (fun x hx => ?_)
  repeat' first
    | with_reducible assumption | (with_reducible show Part.within _ _ = true; decide) | with_reducible refine State.regRead_frame ?_ ?_

theorem frame_fwCommit (conn : Option (Fin 64)) (bytes : List Byte) (storeOk : Bool) (s u : State) (h : exec (.fwCommit conn bytes storeOk) s = .next u) :
    Frame (Part.record ||| Part.cat ||| Part.sc ||| Part.conns ||| Part.twin ||| Part.regs ||| Part.mem ||| Part.free) s u := by
  have h : run s (fun s => s.cmdRow 0x0202 conn bytes storeOk) = .next u := h
  refine run_keep (by decide) h (fun x hx => ?_)
  refine State.cmdRow_keep (by decide) (fun y cn d hd hy => ?_) hx
  unfold State.handover
  rw [hd]
  exact State.doFwCommit_frame (by decide) hy

theorem frame_keyInstall (conn : Option (Fin 64)) (bytes : List Byte) (storeOk : Bool) (s u : State) (h : exec (.keyInstall conn bytes storeOk) s = .next u) :
    Frame (Part.record ||| Part.sc ||| Part.conns ||| Part.twin ||| Part.regs ||| Part.mem ||| Part.free) s u := by
  have h : run s (fun s => s.cmdRow 0x0301 conn bytes storeOk) = .next u := h
  refine run_keep (by decide) h (fun x hx => ?_)
  refine State.cmdRow_keep (by decide) (fun y cn d hd hy => ?_) hx
  have k := State.doKeyInstall_frame (w := Part.record ||| Part.sc ||| Part.conns ||| Part.twin ||| Part.regs ||| Part.mem ||| Part.free) (b := s)
    (b' := d) (by decide) hy
  unfold State.handover
  rw [hd]
  generalize y.doKeyInstall d = r at k ⊢
  exact k

theorem frame_keyRetire (conn : Option (Fin 64)) (bytes : List Byte) (storeOk : Bool) (s u : State) (h : exec (.keyRetire conn bytes storeOk) s = .next u) :
    Frame (Part.record ||| Part.sc ||| Part.conns ||| Part.twin ||| Part.regs ||| Part.mem ||| Part.free) s u := by
  have h : run s (fun s => s.cmdRow 0x0302 conn bytes storeOk) = .next u := h
  refine run_keep (by decide) h (fun x hx => ?_)
  refine State.cmdRow_keep (by decide) (fun y cn d hd hy => ?_) hx
  unfold State.handover
  rw [hd]
  exact State.doKeyRetire_frame (by decide) hy

theorem frame_catKeyEnrol (conn : Option (Fin 64)) (bytes : List Byte) (storeOk : Bool) (s u : State) (h : exec (.catKeyEnrol conn bytes storeOk) s = .next u) :
    Frame (Part.record ||| Part.sc ||| Part.conns ||| Part.twin ||| Part.regs ||| Part.mem ||| Part.free) s u := by
  have h : run s (fun s => s.cmdRow 0x0303 conn bytes storeOk) = .next u := h
  refine run_keep (by decide) h (fun x hx => ?_)
  refine State.cmdRow_keep (by decide) (fun y cn d hd hy => ?_) hx
  unfold State.handover
  rw [hd]
  exact State.doEnrol_frame (by decide) hy

theorem frame_debugFuse (conn : Option (Fin 64)) (bytes : List Byte) (storeOk : Bool) (s u : State) (h : exec (.debugFuse conn bytes storeOk) s = .next u) :
    Frame (Part.record ||| Part.sc ||| Part.conns ||| Part.twin ||| Part.regs ||| Part.mem ||| Part.free) s u := by
  have h : run s (fun s => s.cmdRow 0x0304 conn bytes storeOk) = .next u := h
  refine run_keep (by decide) h (fun x hx => ?_)
  refine State.cmdRow_keep (by decide) (fun y cn d hd hy => ?_) hx
  unfold State.handover
  rw [hd]
  exact State.doFuse_frame (by decide) hy

theorem frame_archive (conn : Option (Fin 64)) (bytes : List Byte) (storeOk : Bool) (s u : State) (h : exec (.archive conn bytes storeOk) s = .next u) :
    Frame (Part.record ||| Part.sc ||| Part.conns ||| Part.twin ||| Part.regs ||| Part.mem ||| Part.free) s u := by
  have h : run s (fun s => s.cmdRow 0x0401 conn bytes storeOk) = .next u := h
  refine run_keep (by decide) h (fun x hx => ?_)
  refine State.cmdRow_keep (by decide) (fun y cn d hd hy => ?_) hx
  unfold State.handover
  rw [hd]
  exact State.archive_frame (by decide) hy

theorem frame_clearCirc (conn : Option (Fin 64)) (bytes : List Byte) (storeOk : Bool) (s u : State) (h : exec (.clearCirc conn bytes storeOk) s = .next u) :
    Frame (Part.record ||| Part.sc ||| Part.conns ||| Part.twin ||| Part.regs ||| Part.mem ||| Part.free) s u := by
  have h : run s (fun s => s.cmdRow 0x0402 conn bytes storeOk) = .next u := h
  refine run_keep (by decide) h (fun x hx => ?_)
  refine State.cmdRow_keep (by decide) (fun y cn d hd hy => ?_) hx
  unfold State.handover
  rw [hd]
  exact State.clearCirc_frame (by decide) hy

theorem frame_regWrite (conn : Option (Fin 64)) (bytes : List Byte) (storeOk : Bool) (s u : State) (h : exec (.regWrite conn bytes storeOk) s = .next u) :
    Frame (Part.device) s u := by
  have h : run s (fun s => s.cmdRow 0x0501 conn bytes storeOk) = .next u := h
  refine run_keep (by decide) h (fun x hx => ?_)
  refine State.cmdRow_keep (by decide) (fun y cn d hd hy => ?_) hx
  unfold State.handover
  rw [hd]
  exact State.doRegWrite_frame (by decide) hy

theorem frame_maintSession (conn : Option (Fin 64)) (bytes : List Byte) (storeOk : Bool) (s u : State) (h : exec (.maintSession conn bytes storeOk) s = .next u) :
    Frame (Part.record ||| Part.sc ||| Part.conns ||| Part.twin ||| Part.regs ||| Part.mem ||| Part.free) s u := by
  have h : run s (fun s => s.cmdRow 0x0701 conn bytes storeOk) = .next u := h
  refine run_keep (by decide) h (fun x hx => ?_)
  refine State.cmdRow_keep (by decide) (fun y cn d hd hy => ?_) hx
  unfold State.handover
  rw [hd]
  exact State.doSession_frame (by decide) hy

theorem frame_maintSessionEnd (k : Fin 4) (s u : State) (h : exec (.maintSessionEnd k) s = .next u) :
    Frame (Part.record ||| Part.bk ||| Part.sc ||| Part.time) s u := by
  have h : run s (fun s => s.sessionEnd k) = .next u := h
  refine run_keep (by decide) h (fun x hx => ?_)
  repeat' first
    | with_reducible assumption | (with_reducible show Part.within _ _ = true; decide) | with_reducible refine State.sessionEnd_frame ?_ ?_

theorem frame_provision (conn : Option (Fin 64)) (bytes : List Byte) (storeOk : Bool) (s u : State) (h : exec (.provision conn bytes storeOk) s = .next u) :
    Frame (Part.record ||| Part.sc ||| Part.conns ||| Part.twin ||| Part.regs ||| Part.mem ||| Part.free) s u := by
  have h : run s (fun s => s.cmdRow 0x0F01 conn bytes storeOk) = .next u := h
  refine run_keep (by decide) h (fun x hx => ?_)
  refine State.cmdRow_keep (by decide) (fun y cn d hd hy => ?_) hx
  unfold State.handover
  rw [hd]
  exact hy

theorem frame_rngBlock (s u : State) (h : exec .rngBlock s = .next u) :
    Frame (Part.record ||| Part.sc ||| Part.free) s u := by
  have h : run s State.rngBlock = .next u := h
  refine run_keep (by decide) h (fun x hx => ?_)
  repeat' first
    | with_reducible assumption | (with_reducible show Part.within _ _ = true; decide) | with_reducible refine State.rngBlock_frame ?_ ?_

theorem frame_rngRetest (s u : State) (h : exec .rngRetest s = .next u) :
    Frame (Part.record ||| Part.sc ||| Part.free) s u := by
  have h : run s State.rngRetest = .next u := h
  refine run_keep (by decide) h (fun x hx => ?_)
  repeat' first
    | with_reducible assumption | (with_reducible show Part.within _ _ = true; decide) | with_reducible refine State.rngRetest_frame ?_ ?_

theorem frame_debugAttach (s u : State) (h : exec .debugAttach s = .next u) :
    Frame (Part.record ||| Part.sc) s u := by
  have h : run s (fun s => when_ (!s.sc.debugAttached) (fun s => State.raise { s with sc := { s.sc with debugAttached := true } } 0x2029 noInst) s) = .next u := h
  refine run_keep (by decide) h (fun x hx => ?_)
  repeat' first
    | with_reducible assumption | (with_reducible show Part.within _ _ = true; decide) | with_reducible refine Frame.ite ?_ ?_
    | with_reducible refine when_frame (fun _ _ => ?_) ?_ | with_reducible refine State.raise_frame ?_ ?_
    | with_reducible refine Frame.set_sc ?_ ?_ ?_ ?_ ?_ ?_ | exact Nat.le_refl _ | exact fun _ k => k | exact fun _ => rfl
    | exact fun _ _ => rfl | exact id | exact List.prefix_refl _ | exact fun _ => ⟨rfl, rfl⟩ | exact fun _ => Or.inl ⟨rfl, rfl, rfl⟩
    | exact fun _ => ⟨rfl, rfl, rfl⟩ | exact fun k => Part.out_absurd (by decide : Part.within _ _ = true) (by decide) k | split
    | (lift_lets; intros)

theorem frame_debugDetach (s u : State) (h : exec .debugDetach s = .next u) :
    Frame (Part.sc ||| Part.outs) s u := by
  have h : run s (fun s => { s with sc := { s.sc with debugAttached := false } }) = .next u := h
  refine run_keep (by decide) h (fun x hx => ?_)
  repeat' first
    | with_reducible assumption | (with_reducible show Part.within _ _ = true; decide)
    | with_reducible refine Frame.set_sc ?_ ?_ ?_ ?_ ?_ ?_ | exact Nat.le_refl _ | exact fun _ k => k | exact fun _ => rfl
    | exact fun _ _ => rfl | exact id | exact List.prefix_refl _ | exact fun _ => ⟨rfl, rfl⟩ | exact fun _ => Or.inl ⟨rfl, rfl, rfl⟩
    | exact fun _ => ⟨rfl, rfl, rfl⟩ | exact fun k => Part.out_absurd (by decide : Part.within _ _ = true) (by decide) k | split
    | (lift_lets; intros)

theorem frame_attestDone (s u : State) (h : exec .attestDone s = .next u) :
    Frame (Part.sc ||| Part.cnt ||| Part.outs ||| Part.free) s u := by
  have h : run s State.attestDone = .next u := h
  refine run_keep (by decide) h (fun x hx => ?_)
  repeat' first
    | with_reducible assumption | (with_reducible show Part.within _ _ = true; decide) | with_reducible refine State.attestDone_frame ?_ ?_

end Sys2Proof.Machine
end

