-- ==== Sys2Proof/Laws/CommandsStart.lean ====
section
/-!
SUPPORT. Sys2Proof/Laws/CommandsStart.lean: the frame of each command of Machine/Start.lean.
-/
set_option Elab.async false
namespace Sys2Proof.Machine
open Sys2Proof

theorem frame_pllLock (s u : State) (h : exec .pllLock s = .next u) :
    Frame (Part.sys ||| Part.time ||| Part.outs ||| Part.startup) s u := by
  have h : run s State.pllLock = .next u := h
  refine run_keep (by decide) h (fun x hx => ?_)
  repeat' first
    | with_reducible assumption | (with_reducible show Part.within _ _ = true; decide) | with_reducible refine State.pllLock_frame ?_ ?_

theorem frame_norDiscovery (sfdp : Bool) (cap : Nat) (addr4 octal : Bool) (passes : List Nat) (s u : State) (h : exec (.norDiscovery sfdp cap addr4 octal passes) s = .next u) :
    Frame (Part.record ||| Part.sys ||| Part.nvm ||| Part.fio ||| Part.startup) s u := by
  have h : run s (fun s => s.norDiscovery sfdp cap addr4 octal passes) = .next u := h
  refine run_keep (by decide) h (fun x hx => ?_)
  repeat' first
    | with_reducible assumption | (with_reducible show Part.within _ _ = true; decide)
    | with_reducible refine State.norDiscovery_frame ?_ ?_

theorem frame_recorderStart (sealOk : Bool) (ecc : Option Nat) (s u : State) (h : exec (.recorderStart sealOk ecc) s = .next u) :
    Frame (Part.record ||| Part.sys ||| Part.mem ||| Part.free) s u := by
  have h : run s (fun s => s.recorderStart sealOk ecc) = .next u := h
  refine run_keep (by decide) h (fun x hx => ?_)
  repeat' first
    | with_reducible assumption | (with_reducible show Part.within _ _ = true; decide)
    | with_reducible refine State.recorderStart_frame ?_ ?_

theorem frame_paramVote (s u : State) (h : exec .paramVote s = .next u) :
    Frame (Part.record ||| Part.sys ||| Part.cat ||| Part.sc ||| Part.portals ||| Part.ilk ||| Part.mem) s u := by
  have h : run s State.paramVote = .next u := h
  refine run_keep (by decide) h (fun x hx => ?_)
  repeat' first
    | with_reducible assumption | (with_reducible show Part.within _ _ = true; decide) | with_reducible refine State.paramVote_frame ?_ ?_

theorem frame_firmwareSelect (s u : State) (h : exec .firmwareSelect s = .next u) :
    Frame (Part.record ||| Part.sys ||| Part.fio ||| Part.startup) s u := by
  have h : run s State.firmwareSelect = .next u := h
  refine run_keep (by decide) h (fun x hx => ?_)
  repeat' first
    | with_reducible assumption | (with_reducible show Part.within _ _ = true; decide)
    | with_reducible refine State.firmwareSelect_frame ?_ ?_

theorem frame_startSelftest (lockstep evaluator gate readback : Bool) (s u : State) (h : exec (.startSelftest lockstep evaluator gate readback) s = .next u) :
    Frame (Part.record ||| Part.sys ||| Part.sc ||| Part.ilk ||| Part.fio ||| Part.trdp ||| Part.startup) s u := by
  have h : run s (fun s => s.selftest lockstep evaluator gate readback) = .next u := h
  refine run_keep (by decide) h (fun x hx => ?_)
  repeat' first
    | with_reducible assumption | (with_reducible show Part.within _ _ = true; decide) | with_reducible refine State.selftest_frame ?_ ?_

theorem frame_joinEnd (s u : State) (h : exec .joinEnd s = .next u) :
    Frame (Part.sys ||| Part.bk ||| Part.time ||| Part.outs) s u := by
  have h : run s State.joinEnd = .next u := h
  refine run_keep (by decide) h (fun x hx => ?_)
  repeat' first
    | with_reducible assumption | (with_reducible show Part.within _ _ = true; decide) | with_reducible refine State.joinEnd_frame ?_ ?_

theorem frame_operationalEntry (s u : State) (h : exec .operationalEntry s = .next u) :
    Frame (Part.record ||| Part.sys ||| Part.bk ||| Part.cat ||| Part.sc ||| Part.ilk ||| Part.mem ||| Part.startup) s u := by
  have h : run s State.operationalEntry = .next u := h
  refine run_keep (by decide) h (fun x hx => ?_)
  repeat' first
    | with_reducible assumption | (with_reducible show Part.within _ _ = true; decide)
    | with_reducible refine State.operationalEntry_frame ?_ ?_

end Sys2Proof.Machine
end

