-- ==== Sys2Proof/Laws/CommandsStl.lean ====
section
/-!
SUPPORT. Sys2Proof/Laws/CommandsStl.lean: the frame of each command of Machine/Stl.lean.
-/
set_option Elab.async false
namespace Sys2Proof.Machine
open Sys2Proof

theorem frame_ttdbDirectory (etb op : Nat) (veh cst : Bool) (s u : State) (h : exec (.ttdbDirectory etb op veh cst) s = .next u) :
    Frame (Part.record ||| Part.sc ||| Part.time ||| Part.seq ||| Part.trdp ||| Part.conns ||| Part.twin ||| Part.actions) s u := by
  have h : run s (fun s => s.directory etb op veh cst) = .next u := h
  refine run_keep (by decide) h (fun x hx => ?_)
  repeat' first
    | with_reducible assumption | (with_reducible show Part.within _ _ = true; decide) | with_reducible refine State.directory_frame ?_ ?_

theorem frame_stlOpenReq (t : Telegram) (s u : State) (h : exec (.stlOpenReq t) s = .next u) :
    Frame (Part.record ||| Part.trdp ||| Part.conns ||| Part.twin ||| Part.free) s u := by
  have h : run s (fun s => s.stlOpenReq t) = .next u := h
  refine run_keep (by decide) h (fun x hx => ?_)
  repeat' first
    | with_reducible assumption | (with_reducible show Part.within _ _ = true; decide) | with_reducible refine State.stlOpenReq_frame ?_ ?_

theorem frame_stlOpenAck (t : Telegram) (s u : State) (h : exec (.stlOpenAck t) s = .next u) :
    Frame (Part.record ||| Part.trdp ||| Part.conns ||| Part.twin ||| Part.free) s u := by
  have h : run s (fun s => s.stlOpenAck t) = .next u := h
  refine run_keep (by decide) h (fun x hx => ?_)
  repeat' first
    | with_reducible assumption | (with_reducible show Part.within _ _ = true; decide) | with_reducible refine State.stlOpenAck_frame ?_ ?_

theorem frame_stlRekeyReq (t : Telegram) (s u : State) (h : exec (.stlRekeyReq t) s = .next u) :
    Frame (Part.record ||| Part.trdp ||| Part.conns) s u := by
  have h : run s (fun s => s.stlRekeyReq t) = .next u := h
  refine run_keep (by decide) h (fun x hx => ?_)
  repeat' first
    | with_reducible assumption | (with_reducible show Part.within _ _ = true; decide)
    | with_reducible refine State.stlRekeyReq_frame ?_ ?_

theorem frame_stlRekeyAck (t : Telegram) (s u : State) (h : exec (.stlRekeyAck t) s = .next u) :
    Frame (Part.record ||| Part.trdp ||| Part.conns) s u := by
  have h : run s (fun s => s.stlRekeyAck t) = .next u := h
  refine run_keep (by decide) h (fun x hx => ?_)
  repeat' first
    | with_reducible assumption | (with_reducible show Part.within _ _ = true; decide)
    | with_reducible refine State.stlRekeyAck_frame ?_ ?_

theorem frame_stlClose (t : Telegram) (s u : State) (h : exec (.stlClose t) s = .next u) :
    Frame (Part.record ||| Part.sc ||| Part.trdp ||| Part.conns ||| Part.twin) s u := by
  have h : run s (fun s => s.stlClose t) = .next u := h
  refine run_keep (by decide) h (fun x hx => ?_)
  repeat' first
    | with_reducible assumption | (with_reducible show Part.within _ _ = true; decide) | with_reducible refine State.stlClose_frame ?_ ?_

theorem frame_stlCycleSend (c : Fin 64) (s u : State) (h : exec (.stlCycleSend c) s = .next u) :
    Frame (Part.record ||| Part.bk ||| Part.sc ||| Part.time ||| Part.conns ||| Part.twin ||| Part.free) s u := by
  have h : run s (fun s => s.stlCycle c) = .next u := h
  refine run_keep (by decide) h (fun x hx => ?_)
  repeat' first
    | with_reducible assumption | (with_reducible show Part.within _ _ = true; decide) | with_reducible refine State.stlCycle_frame ?_ ?_

theorem frame_stlTimeout (c : Fin 64) (s u : State) (h : exec (.stlTimeout c) s = .next u) :
    Frame (Part.record ||| Part.bk ||| Part.sc ||| Part.time ||| Part.seq ||| Part.conns ||| Part.twin ||| Part.actions) s u := by
  have h : run s (fun s => s.stlTimeout c) = .next u := h
  refine run_keep (by decide) h (fun x hx => ?_)
  repeat' first
    | with_reducible assumption | (with_reducible show Part.within _ _ = true; decide) | with_reducible refine State.stlTimeout_frame ?_ ?_

theorem frame_stlFailedRetry (c : Fin 64) (s u : State) (h : exec (.stlFailedRetry c) s = .next u) :
    Frame (Part.bk ||| Part.time ||| Part.conns ||| Part.outs ||| Part.free) s u := by
  have h : run s (fun s => s.stlRetry c) = .next u := h
  refine run_keep (by decide) h (fun x hx => ?_)
  repeat' first
    | with_reducible assumption | (with_reducible show Part.within _ _ = true; decide) | with_reducible refine State.stlRetry_frame ?_ ?_

end Sys2Proof.Machine
end

