-- ==== Sys2Proof/Laws/CommandsTime.lean ====
section
/-!
SUPPORT. Sys2Proof/Laws/CommandsTime.lean: the frame of each command of Machine/Time.lean.
-/
set_option Elab.async false
namespace Sys2Proof.Machine
open Sys2Proof

theorem frame_ptpSync (i : Fin 4) (bytes : List Byte) (sub : Fin 4) (s u : State) (h : exec (.ptpSync i bytes sub) s = .next u) :
    Frame (Part.record ||| Part.time ||| Part.seq ||| Part.actions) s u := by
  have h : run s (fun s => s.ptpSync i bytes sub) = .next u := h
  refine run_keep (by decide) h (fun x hx => ?_)
  repeat' first
    | with_reducible assumption | (with_reducible show Part.within _ _ = true; decide) | with_reducible refine State.ptpSync_frame ?_ ?_

theorem frame_ptpFollowUp (i : Fin 4) (bytes : List Byte) (s u : State) (h : exec (.ptpFollowUp i bytes) s = .next u) :
    Frame (Part.record ||| Part.time ||| Part.seq ||| Part.actions) s u := by
  have h : run s (fun s => s.ptpFollowUp i bytes) = .next u := h
  refine run_keep (by decide) h (fun x hx => ?_)
  repeat' first
    | with_reducible assumption | (with_reducible show Part.within _ _ = true; decide)
    | with_reducible refine State.ptpFollowUp_frame ?_ ?_

theorem frame_ptpAnnounce (i : Fin 4) (bytes : List Byte) (s u : State) (h : exec (.ptpAnnounce i bytes) s = .next u) :
    Frame (Part.record ||| Part.time ||| Part.seq ||| Part.actions) s u := by
  have h : run s (fun s => s.ptpAnnounce i bytes) = .next u := h
  refine run_keep (by decide) h (fun x hx => ?_)
  repeat' first
    | with_reducible assumption | (with_reducible show Part.within _ _ = true; decide)
    | with_reducible refine State.ptpAnnounce_frame ?_ ?_

theorem frame_ptpPdelayReq (i : Fin 4) (bytes : List Byte) (s u : State) (h : exec (.ptpPdelayReq i bytes) s = .next u) :
    Frame (Part.cnt ||| Part.outs ||| Part.free) s u := by
  have h : run s (fun s => s.pdelayReq i bytes) = .next u := h
  refine run_keep (by decide) h (fun x hx => ?_)
  repeat' first
    | with_reducible assumption | (with_reducible show Part.within _ _ = true; decide) | with_reducible refine State.pdelayReq_frame ?_ ?_

theorem frame_ptpPdelayResp (i : Fin 4) (bytes : List Byte) (sub : Fin 4) (s u : State) (h : exec (.ptpPdelayResp i bytes sub) s = .next u) :
    Frame (Part.record ||| Part.time ||| Part.seq ||| Part.actions) s u := by
  have h : run s (fun s => s.pdelayResp i bytes sub) = .next u := h
  refine run_keep (by decide) h (fun x hx => ?_)
  repeat' first
    | with_reducible assumption | (with_reducible show Part.within _ _ = true; decide) | with_reducible refine State.pdelayResp_frame ?_ ?_

theorem frame_ptpPdelaySend (s u : State) (h : exec .ptpPdelaySend s = .next u) :
    Frame (Part.time ||| Part.outs) s u := by
  have h : run s State.pdelaySend = .next u := h
  refine run_keep (by decide) h (fun x hx => ?_)
  repeat' first
    | with_reducible assumption | (with_reducible show Part.within _ _ = true; decide) | with_reducible refine State.pdelaySend_frame ?_ ?_

theorem frame_ptpSyncSend (s u : State) (h : exec .ptpSyncSend s = .next u) :
    Frame (Part.time ||| Part.outs) s u := by
  have h : run s State.syncSend = .next u := h
  refine run_keep (by decide) h (fun x hx => ?_)
  repeat' first
    | with_reducible assumption | (with_reducible show Part.within _ _ = true; decide) | with_reducible refine State.syncSend_frame ?_ ?_

theorem frame_timeHoldover (d : Fin 2) (s u : State) (h : exec (.timeHoldover d) s = .next u) :
    Frame (Part.record ||| Part.bk ||| Part.time ||| Part.seq ||| Part.actions) s u := by
  have h : run s (fun s => s.holdoverNow d) = .next u := h
  refine run_keep (by decide) h (fun x hx => ?_)
  repeat' first
    | with_reducible assumption | (with_reducible show Part.within _ _ = true; decide)
    | with_reducible refine State.holdoverNow_frame ?_ ?_

theorem frame_timeHoldoverLong (d : Fin 2) (s u : State) (h : exec (.timeHoldoverLong d) s = .next u) :
    Frame (Part.record ||| Part.bk ||| Part.time ||| Part.seq ||| Part.actions) s u := by
  have h : run s (fun s => s.holdLong d) = .next u := h
  refine run_keep (by decide) h (fun x hx => ?_)
  repeat' first
    | with_reducible assumption | (with_reducible show Part.within _ _ = true; decide) | with_reducible refine State.holdLong_frame ?_ ?_

theorem frame_timeSettleEnd (i : Fin 4) (s u : State) (h : exec (.timeSettleEnd i) s = .next u) :
    Frame (Part.record ||| Part.bk ||| Part.time ||| Part.seq ||| Part.actions) s u := by
  have h : run s (fun s => s.settleEnd i) = .next u := h
  refine run_keep (by decide) h (fun x hx => ?_)
  repeat' first
    | with_reducible assumption | (with_reducible show Part.within _ _ = true; decide) | with_reducible refine State.settleEnd_frame ?_ ?_

theorem frame_timeJumpConfirm (s u : State) (h : exec .timeJumpConfirm s = .next u) :
    Frame (Part.bk ||| Part.time ||| Part.outs) s u := by
  have h : run s State.jumpPersists = .next u := h
  refine run_keep (by decide) h (fun x hx => ?_)
  repeat' first
    | with_reducible assumption | (with_reducible show Part.within _ _ = true; decide)
    | with_reducible refine State.jumpPersists_frame ?_ ?_

theorem frame_timeStep (s u : State) (h : exec .timeStep s = .next u) :
    Frame (Part.record ||| Part.bk ||| Part.time ||| Part.seq ||| Part.fio ||| Part.twin ||| Part.actions) s u := by
  have h : run s State.timeStep = .next u := h
  refine run_keep (by decide) h (fun x hx => ?_)
  repeat' first
    | with_reducible assumption | (with_reducible show Part.within _ _ = true; decide) | with_reducible refine State.timeStep_frame ?_ ?_

theorem frame_rtcSet (s u : State) (h : exec .rtcSet s = .next u) :
    Frame (Part.bk ||| Part.time ||| Part.outs) s u := by
  have h : run s State.rtcSet = .next u := h
  refine run_keep (by decide) h (fun x hx => ?_)
  repeat' first
    | with_reducible assumption | (with_reducible show Part.within _ _ = true; decide) | with_reducible refine State.rtcSet_frame ?_ ?_

end Sys2Proof.Machine
end

