-- ==== Sys2Proof/Laws/CommandsTrdp.lean ====
section
/-!
SUPPORT. Sys2Proof/Laws/CommandsTrdp.lean: the frame of each command of Machine/Trdp.lean.
-/
set_option Elab.async false
namespace Sys2Proof.Machine
open Sys2Proof

theorem frame_arpRequest (target : Nat) (s u : State) (h : exec (.arpRequest target) s = .next u) :
    Frame (Part.outs) s u := by
  have h : run s (fun s => when_ (s.netStarted && s.holdsIp target) (fun s => s.emit (.arp target false)) s) = .next u := h
  refine run_keep (by decide) h (fun x hx => ?_)
  repeat' first
    | with_reducible assumption | (with_reducible show Part.within _ _ = true; decide) | with_reducible refine Frame.ite ?_ ?_
    | with_reducible refine when_frame (fun _ _ => ?_) ?_ | with_reducible refine State.emit_frame ?_ ?_

theorem frame_icmpEcho (src dst : Nat) (data : List Byte) (s u : State) (h : exec (.icmpEcho src dst data) s = .next u) :
    Frame (Part.cnt ||| Part.outs) s u := by
  have h : run s (fun s => s.icmpEcho src dst data) = .next u := h
  refine run_keep (by decide) h (fun x hx => ?_)
  repeat' first
    | with_reducible assumption | (with_reducible show Part.within _ _ = true; decide) | with_reducible refine State.icmpEcho_frame ?_ ?_

theorem frame_datagramDiscard (t : Option Telegram) (s u : State) (h : exec (.datagramDiscard t) s = .next u) :
    Frame (Part.record ||| Part.trdp) s u := by
  have h : run s (fun s => s.datagramDiscard t) = .next u := h
  refine run_keep (by decide) h (fun x hx => ?_)
  repeat' first
    | with_reducible assumption | (with_reducible show Part.within _ _ = true; decide)
    | with_reducible refine State.datagramDiscard_frame ?_ ?_

theorem frame_ttdbAnnounce (etb op : Nat) (s u : State) (h : exec (.ttdbAnnounce etb op) s = .next u) :
    Frame (Part.trdp ||| Part.outs) s u := by
  have h : run s (fun s => s.ttdbAnnounce etb op) = .next u := h
  refine run_keep (by decide) h (fun x hx => ?_)
  repeat' first
    | with_reducible assumption | (with_reducible show Part.within _ _ = true; decide)
    | with_reducible refine State.ttdbAnnounce_frame ?_ ?_

theorem frame_trdpDirectoryFail (s u : State) (h : exec .trdpDirectoryFail s = .next u) :
    Frame (Part.record ||| Part.bk ||| Part.time ||| Part.trdp) s u := by
  have h : run s State.directoryFail = .next u := h
  refine run_keep (by decide) h (fun x hx => ?_)
  repeat' first
    | with_reducible assumption | (with_reducible show Part.within _ _ = true; decide)
    | with_reducible refine State.directoryFail_frame ?_ ?_

theorem frame_publishDevStatus (s u : State) (h : exec .publishDevStatus s = .next u) :
    Frame (Part.cnt ||| Part.outs) s u := by
  have h : run s (fun s => when_ s.trdpOn (fun s => s.sendTelegram 0 publishIp s.devStatus) s) = .next u := h
  refine run_keep (by decide) h (fun x hx => ?_)
  repeat' first
    | with_reducible assumption | (with_reducible show Part.within _ _ = true; decide) | with_reducible refine Frame.ite ?_ ?_
    | with_reducible refine when_frame (fun _ _ => ?_) ?_ | with_reducible refine State.sendTelegram_frame ?_ ?_

theorem frame_publishPortalState (s u : State) (h : exec .publishPortalState s = .next u) :
    Frame (Part.cnt ||| Part.outs) s u := by
  have h : run s (fun s => when_ (s.trdpOn && !s.standby) (fun s =>
        s.sendTelegram 1 publishIp ((List.range 16).flatMap (fun p => beBytes 4 (s.portalState p).toNat))) s) = .next u := h
  refine run_keep (by decide) h (fun x hx => ?_)
  repeat' first
    | with_reducible assumption | (with_reducible show Part.within _ _ = true; decide) | with_reducible refine Frame.ite ?_ ?_
    | with_reducible refine when_frame (fun _ _ => ?_) ?_ | with_reducible refine State.sendTelegram_frame ?_ ?_

theorem frame_publishHealth (s u : State) (h : exec .publishHealth s = .next u) :
    Frame (Part.cnt ||| Part.outs) s u := by
  have h : run s (fun s => when_ s.trdpOn (fun s => s.sendTelegram 2 publishIp s.health) s) = .next u := h
  refine run_keep (by decide) h (fun x hx => ?_)
  repeat' first
    | with_reducible assumption | (with_reducible show Part.within _ _ = true; decide) | with_reducible refine Frame.ite ?_ ?_
    | with_reducible refine when_frame (fun _ _ => ?_) ?_ | with_reducible refine State.sendTelegram_frame ?_ ?_

theorem frame_streamOpen (t : Telegram) (s u : State) (h : exec (.streamOpen t) s = .next u) :
    Frame (Part.record ||| Part.trdp ||| Part.twin) s u := by
  have h : run s (fun s => s.streamOpen t) = .next u := h
  refine run_keep (by decide) h (fun x hx => ?_)
  repeat' first
    | with_reducible assumption | (with_reducible show Part.within _ _ = true; decide) | with_reducible refine State.streamOpen_frame ?_ ?_

theorem frame_streamData (t : Telegram) (s u : State) (h : exec (.streamData t) s = .next u) :
    Frame (Part.record ||| Part.trdp ||| Part.twin) s u := by
  have h : run s (fun s => s.streamData t) = .next u := h
  refine run_keep (by decide) h (fun x hx => ?_)
  repeat' first
    | with_reducible assumption | (with_reducible show Part.within _ _ = true; decide) | with_reducible refine State.streamData_frame ?_ ?_

theorem frame_streamAck (t : Telegram) (s u : State) (h : exec (.streamAck t) s = .next u) :
    Frame (Part.record ||| Part.trdp ||| Part.twin) s u := by
  have h : run s (fun s => s.streamAck t) = .next u := h
  refine run_keep (by decide) h (fun x hx => ?_)
  repeat' first
    | with_reducible assumption | (with_reducible show Part.within _ _ = true; decide) | with_reducible refine State.streamAck_frame ?_ ?_

theorem frame_streamClose (t : Telegram) (s u : State) (h : exec (.streamClose t) s = .next u) :
    Frame (Part.record ||| Part.trdp ||| Part.twin) s u := by
  have h : run s (fun s => s.streamClose t) = .next u := h
  refine run_keep (by decide) h (fun x hx => ?_)
  repeat' first
    | with_reducible assumption | (with_reducible show Part.within _ _ = true; decide)
    | with_reducible refine State.streamClose_frame ?_ ?_

theorem frame_streamAckSend (k : Fin 32) (s u : State) (h : exec (.streamAckSend k) s = .next u) :
    Frame (Part.cnt ||| Part.trdp ||| Part.twin ||| Part.outs) s u := by
  have h : run s (fun s => s.streamAckSend k) = .next u := h
  refine run_keep (by decide) h (fun x hx => ?_)
  repeat' first
    | with_reducible assumption | (with_reducible show Part.within _ _ = true; decide)
    | with_reducible refine State.streamAckSend_frame ?_ ?_

theorem frame_streamRetransmit (k : Fin 32) (s u : State) (h : exec (.streamRetransmit k) s = .next u) :
    Frame (Part.record ||| Part.bk ||| Part.time ||| Part.trdp ||| Part.twin) s u := by
  have h : run s (fun s => s.streamRetransmit k) = .next u := h
  refine run_keep (by decide) h (fun x hx => ?_)
  repeat' first
    | with_reducible assumption | (with_reducible show Part.within _ _ = true; decide)
    | with_reducible refine State.streamRetransmit_frame ?_ ?_

theorem frame_streamGapTimeout (k : Fin 32) (s u : State) (h : exec (.streamGapTimeout k) s = .next u) :
    Frame (Part.record ||| Part.bk ||| Part.time ||| Part.trdp ||| Part.twin) s u := by
  have h : run s (fun s => s.streamGap k) = .next u := h
  refine run_keep (by decide) h (fun x hx => ?_)
  repeat' first
    | with_reducible assumption | (with_reducible show Part.within _ _ = true; decide) | with_reducible refine State.streamGap_frame ?_ ?_

theorem frame_partnerRemoved (k : Fin 128) (s u : State) (h : exec (.partnerRemoved k) s = .next u) :
    Frame (Part.record ||| Part.bk ||| Part.sc ||| Part.time ||| Part.trdp) s u := by
  have h : run s (fun s => s.partnerAge k) = .next u := h
  refine run_keep (by decide) h (fun x hx => ?_)
  repeat' first
    | with_reducible assumption | (with_reducible show Part.within _ _ = true; decide) | with_reducible refine State.partnerAge_frame ?_ ?_

theorem frame_gratuitousArp (s u : State) (h : exec .gratuitousArp s = .next u) :
    Frame (Part.bk ||| Part.time ||| Part.trdp ||| Part.outs) s u := by
  have h : run s State.garpNext = .next u := h
  refine run_keep (by decide) h (fun x hx => ?_)
  repeat' first
    | with_reducible assumption | (with_reducible show Part.within _ _ = true; decide) | with_reducible refine State.garpNext_frame ?_ ?_

end Sys2Proof.Machine
end

