-- ==== Sys2Proof/Laws/CommandsTwin.lean ====
section
/-!
SUPPORT. Sys2Proof/Laws/CommandsTwin.lean: the frame of each command of Machine/Twin.lean.
-/
set_option Elab.async false
namespace Sys2Proof.Machine
open Sys2Proof

theorem frame_kazukHeartbeatSend (lane : Fin 2) (s u : State) (h : exec (.kazukHeartbeatSend lane) s = .next u) :
    Frame (Part.bk ||| Part.time ||| Part.twin ||| Part.outs) s u := by
  have h : run s (fun s => s.kazukBeat lane) = .next u := h
  refine run_keep (by decide) h (fun x hx => ?_)
  repeat' first
    | with_reducible assumption | (with_reducible show Part.within _ _ = true; decide) | with_reducible refine State.kazukBeat_frame ?_ ?_

theorem frame_netHeartbeatSend (s u : State) (h : exec .netHeartbeatSend s = .next u) :
    Frame (Part.bk ||| Part.cnt ||| Part.time ||| Part.twin ||| Part.outs) s u := by
  have h : run s (fun s => when_ (s.inTwin && s.trdpOn) (fun s => (s.passToTt ((s.tt / 1000000 + 1) * 1000000)).netSend) s) = .next u := h
  refine run_keep (by decide) h (fun x hx => ?_)
  repeat' first
    | with_reducible assumption | (with_reducible show Part.within _ _ = true; decide) | with_reducible refine Frame.ite ?_ ?_
    | with_reducible refine when_frame (fun _ _ => ?_) ?_ | with_reducible refine State.passToTt_frame ?_ ?_
    | with_reducible refine State.netSend_frame ?_ ?_

theorem frame_kazukHeartbeat (lane : Fin 2) (bytes : List Byte) (ownLow : Bool) (s u : State) (h : exec (.kazukHeartbeat lane bytes ownLow) s = .next u) :
    Frame (Part.device) s u := by
  have h : run s (fun s => s.kazukIn lane bytes ownLow) = .next u := h
  refine run_keep (by decide) h (fun x hx => ?_)
  repeat' first
    | with_reducible assumption | (with_reducible show Part.within _ _ = true; decide) | with_reducible refine State.kazukIn_frame ?_ ?_

theorem frame_netHeartbeat (t : Telegram) (ownLow : Bool) (s u : State) (h : exec (.netHeartbeat t ownLow) s = .next u) :
    Frame (Part.device) s u := by
  have h : run s (fun s => s.netIn t ownLow) = .next u := h
  refine run_keep (by decide) h (fun x hx => ?_)
  repeat' first
    | with_reducible assumption | (with_reducible show Part.within _ _ = true; decide) | with_reducible refine State.netIn_frame ?_ ?_

theorem frame_twinPathDown (net : Bool) (s u : State) (h : exec (.twinPathDown net) s = .next u) :
    Frame (Part.record ||| Part.bk ||| Part.time ||| Part.twin) s u := by
  have h : run s (fun s => s.pathDown net) = .next u := h
  refine run_keep (by decide) h (fun x hx => ?_)
  repeat' first
    | with_reducible assumption | (with_reducible show Part.within _ _ = true; decide) | with_reducible refine State.pathDown_frame ?_ ?_

theorem frame_mateSilent (s u : State) (h : exec .mateSilent s = .next u) :
    Frame (Part.device) s u := by
  have h : run s State.mateSilent = .next u := h
  refine run_keep (by decide) h (fun x hx => ?_)
  repeat' first
    | with_reducible assumption | (with_reducible show Part.within _ _ = true; decide) | with_reducible refine State.mateSilent_frame ?_ ?_

theorem frame_ownNHigh (s u : State) (h : exec .ownNHigh s = .next u) :
    Frame (Part.twin ||| Part.outs) s u := by
  have h : run s (fun s => when_ (!s.twin.driving && s.twin.lineLow) (fun s => s.setLine false) s) = .next u := h
  refine run_keep (by decide) h (fun x hx => ?_)
  repeat' first
    | with_reducible assumption | (with_reducible show Part.within _ _ = true; decide) | with_reducible refine Frame.ite ?_ ?_
    | with_reducible refine when_frame (fun _ _ => ?_) ?_ | with_reducible refine State.setLine_frame ?_ ?_

theorem frame_twinClaim (s u : State) (h : exec .twinClaim s = .next u) :
    Frame (Part.device) s u := by
  have h : run s State.claim = .next u := h
  refine run_keep (by decide) h (fun x hx => ?_)
  repeat' first
    | with_reducible assumption | (with_reducible show Part.within _ _ = true; decide) | with_reducible refine State.claim_frame ?_ ?_

theorem frame_ownLineFault (ownLow : Bool) (s u : State) (h : exec (.ownLineFault ownLow) s = .next u) :
    Frame (Part.record ||| Part.bk ||| Part.time ||| Part.seq ||| Part.axes ||| Part.twin ||| Part.actions) s u := by
  have h : run s (fun s => s.lineFault ownLow) = .next u := h
  refine run_keep (by decide) h (fun x hx => ?_)
  repeat' first
    | with_reducible assumption | (with_reducible show Part.within _ _ = true; decide) | with_reducible refine State.lineFault_frame ?_ ?_

theorem frame_ownWatchdogExpiry (s u : State) (h : exec .ownWatchdogExpiry s = .next u) :
    Frame (Part.record ||| Part.bk ||| Part.time ||| Part.seq ||| Part.axes ||| Part.twin ||| Part.actions) s u := by
  have h : run s (fun s => when_ s.twin.driving (fun s => (s.passTo (s.twin.wdLast + s.ownWd)).release 7) s) = .next u := h
  refine run_keep (by decide) h (fun x hx => ?_)
  repeat' first
    | with_reducible assumption | (with_reducible show Part.within _ _ = true; decide) | with_reducible refine Frame.ite ?_ ?_
    | with_reducible refine when_frame (fun _ _ => ?_) ?_ | with_reducible refine State.passTo_frame ?_ ?_
    | with_reducible refine State.release_frame ?_ ?_

theorem frame_releaseAnnounce (s u : State) (h : exec .releaseAnnounce s = .next u) :
    Frame (Part.cnt ||| Part.twin ||| Part.outs) s u := by
  have h : run s State.releaseAnnounce = .next u := h
  refine run_keep (by decide) h (fun x hx => ?_)
  repeat' first
    | with_reducible assumption | (with_reducible show Part.within _ _ = true; decide)
    | with_reducible refine State.releaseAnnounce_frame ?_ ?_

theorem frame_twinReleased (s u : State) (h : exec .twinReleased s = .next u) :
    Frame (Part.record ||| Part.bk ||| Part.time ||| Part.seq ||| Part.axes ||| Part.twin ||| Part.actions) s u := by
  have h : run s State.released = .next u := h
  refine run_keep (by decide) h (fun x hx => ?_)
  repeat' first
    | with_reducible assumption | (with_reducible show Part.within _ _ = true; decide) | with_reducible refine State.released_frame ?_ ?_

theorem frame_mirrorFrame (bytes : List Byte) (s u : State) (h : exec (.mirrorFrame bytes) s = .next u) :
    Frame (Part.record ||| Part.sc ||| Part.seq ||| Part.portals ||| Part.obs ||| Part.axes ||| Part.links ||| Part.ilk ||| Part.trdp ||| Part.conns ||| Part.twin ||| Part.mem ||| Part.states ||| Part.actions) s u := by
  have h : run s (fun s => s.mirrorIn bytes) = .next u := h
  refine run_keep (by decide) h (fun x hx => ?_)
  repeat' first
    | with_reducible assumption | (with_reducible show Part.within _ _ = true; decide) | with_reducible refine State.mirrorIn_frame ?_ ?_

theorem frame_mirrorAck (bytes : List Byte) (s u : State) (h : exec (.mirrorAck bytes) s = .next u) :
    Frame (Part.device) s u := by
  have h : run s (fun s => s.mirrorAck bytes) = .next u := h
  refine run_keep (by decide) h (fun x hx => ?_)
  repeat' first
    | with_reducible assumption | (with_reducible show Part.within _ _ = true; decide) | with_reducible refine State.mirrorAck_frame ?_ ?_

theorem frame_mirrorResend (s u : State) (h : exec .mirrorResend s = .next u) :
    Frame (Part.bk ||| Part.cnt ||| Part.time ||| Part.twin ||| Part.outs) s u := by
  have h : run s State.mirrorResend = .next u := h
  refine run_keep (by decide) h (fun x hx => ?_)
  repeat' first
    | with_reducible assumption | (with_reducible show Part.within _ _ = true; decide)
    | with_reducible refine State.mirrorResend_frame ?_ ?_

theorem frame_twinSynced (mateNext : Nat) (mateCounters mateCycles mateBrakes : List Nat) (s u : State) (h : exec (.twinSynced mateNext mateCounters mateCycles mateBrakes) s = .next u) :
    Frame (Part.record ||| Part.sc ||| Part.portals ||| Part.ilk ||| Part.twin ||| Part.mem) s u := by
  have h : run s (fun s => s.synced mateNext mateCounters mateCycles mateBrakes) = .next u := h
  refine run_keep (by decide) h (fun x hx => ?_)
  repeat' first
    | with_reducible assumption | (with_reducible show Part.within _ _ = true; decide) | with_reducible refine State.synced_frame ?_ ?_

theorem frame_standbySelftest (gateBad offBad : Nat) (leak : List Nat) (s u : State) (h : exec (.standbySelftest gateBad offBad leak) s = .next u) :
    Frame (Part.record ||| Part.bk ||| Part.time ||| Part.fio ||| Part.loads ||| Part.twin) s u := by
  have h : run s (fun s => s.selfTest gateBad offBad leak) = .next u := h
  refine run_keep (by decide) h (fun x hx => ?_)
  repeat' first
    | with_reducible assumption | (with_reducible show Part.within _ _ = true; decide) | with_reducible refine State.selfTest_frame ?_ ?_

theorem frame_revertRequest (s u : State) (h : exec .revertRequest s = .next u) :
    Frame (Part.bk ||| Part.time ||| Part.twin ||| Part.outs) s u := by
  have h : run s State.revertRequest = .next u := h
  refine run_keep (by decide) h (fun x hx => ?_)
  repeat' first
    | with_reducible assumption | (with_reducible show Part.within _ _ = true; decide)
    | with_reducible refine State.revertRequest_frame ?_ ?_

theorem frame_quietMomentRelease (s u : State) (h : exec .quietMomentRelease s = .next u) :
    Frame (Part.bk ||| Part.cnt ||| Part.time ||| Part.twin ||| Part.outs) s u := by
  have h : run s State.quietRelease = .next u := h
  refine run_keep (by decide) h (fun x hx => ?_)
  repeat' first
    | with_reducible assumption | (with_reducible show Part.within _ _ = true; decide)
    | with_reducible refine State.quietRelease_frame ?_ ?_

theorem frame_twinTransferRejected (s u : State) (h : exec .twinTransferRejected s = .next u) :
    Frame (Part.record ||| Part.bk ||| Part.time ||| Part.twin) s u := by
  have h : run s State.transferRejected = .next u := h
  refine run_keep (by decide) h (fun x hx => ?_)
  repeat' first
    | with_reducible assumption | (with_reducible show Part.within _ _ = true; decide)
    | with_reducible refine State.transferRejected_frame ?_ ?_

end Sys2Proof.Machine
end

