-- ==== Sys2Proof/Laws/Exec.lean ====
section
/-!
SUPPORT. Sys2Proof/Laws/Exec.lean: how a command's answer follows from the operation it runs.
-/
set_option Elab.async false
namespace Sys2Proof.Machine
open Sys2Proof

/-- A command that runs an operation completes with what holds of the operation's result. -/
theorem completes_run {c : Instr} {s : State} {f : State → State} {post : State → Prop} (h : exec c s = run s f)
    (hp : post (f { s with outs := [] })) : Completes c s post := ⟨_, h, hp⟩

/-- The same of a command of the Portal Sequencer on a device that is not the standby. -/
theorem completes_runSeq {c : Instr} {s : State} {f : State → State} {post : State → Prop} (h : exec c s = runSeq s f) (hs : s.standby = false)
    (hp : post (f { s with outs := [] })) : Completes c s post := by
  refine ⟨_, h, ?_⟩
  have e : (!State.standby { s with outs := [] }) = true := by
    show (!s.standby) = true
    rw [hs]
    rfl
  show post (when_ (!State.standby { s with outs := [] }) f { s with outs := [] })
  rw [e]
  exact hp

end Sys2Proof.Machine
end

