-- ==== Sys2Proof/Laws/Portal.lean ====
section
/-!
SUPPORT. Sys2Proof/Laws/Portal.lean: what entering a state does (R95, R104), and how a command that enters one state of one portal composes
with operations that change no portal's state.
-/
set_option Elab.async false
namespace Sys2Proof.Machine
open Sys2Proof

theorem State.leaveShelf_portals (s : State) (st : PState) : (s.leaveShelf st).portals = s.portals := by
  unfold State.leaveShelf
  split <;> rfl

theorem State.commandSwitches_portals (s : State) : (s.commandSwitches).portals = s.portals :=
  (State.commandSwitches_frame (w := Part.loads) rfl (Frame.refl _ s)).portals rfl

/-- The parts that the end of a portal cycle may write; no portal's state is among them. -/
def endParts : Nat :=
  Part.sys ||| Part.rcd ||| Part.cnt ||| Part.seq ||| Part.portals ||| Part.obs ||| Part.loads ||| Part.twin ||| Part.mem ||| Part.outs |||
  Part.free

theorem State.endCycle_frame (s : State) (p : Nat) : Frame endParts s ((s.dropStarts p).endPortalCycle p) :=
  State.endPortalCycle_frame rfl (State.dropStarts_frame rfl (Frame.refl _ s))

theorem State.endLocked_frame (s : State) (p : Nat) : Frame endParts s ((s.dropLeafStarts p).endPortalCycle p) :=
  State.endPortalCycle_frame rfl (State.dropLeafStarts_frame rfl (Frame.refl _ s))

/-- Entering a state puts the portal in it. -/
theorem State.enter_st (s : State) (p : Nat) (st : PState) : ((s.enter p st).portal p).st = st := by
  unfold State.enter
  dsimp only
  have key : ∀ q1 : Portal, q1.st = st → ((((s.setPortal p q1).portalOutputs p).leaveShelf st).portal p).st = st := by
    intro q1 hq
    simp only [State.portal, State.leaveShelf_portals, State.portalOutputs, State.commandSwitches_portals]
    show (State.portal _ p).st = st
    simp [hq]
  split
  · rw [(State.endLocked_frame _ _).states rfl]
    exact key _ rfl
  · split
    · rw [(State.endCycle_frame _ _).states rfl]
      exact key _ rfl
    · exact key _ rfl

/-- Entering a state leaves every other portal's. -/
theorem State.enter_st_ne (s : State) (p q : Nat) (st : PState) (h : q ≠ p) : ((s.enter p st).portal q).st = (s.portal q).st := by
  unfold State.enter
  dsimp only
  have key : ∀ q1 : Portal, ((((s.setPortal p q1).portalOutputs p).leaveShelf st).portal q).st = (s.portal q).st := by
    intro q1
    simp only [State.portal, State.leaveShelf_portals, State.portalOutputs, State.commandSwitches_portals]
    show (State.portal _ q).st = (s.portal q).st
    simp [h]
  split
  · rw [(State.endLocked_frame _ _).states rfl]
    exact key _
  · split
    · rw [(State.endCycle_frame _ _).states rfl]
      exact key _
    · exact key _

theorem State.enter_goes (s : State) (p : Nat) (q : PState) : s.PortalGoes (s.enter p q) p q :=
  ⟨State.enter_st s p q, fun k hk => State.enter_st_ne s p k q hk⟩

/-- Operations that change no portal's state may come first. -/
theorem State.PortalGoes.after {s x t : State} {p : Nat} {q : PState} (h2 : x.PortalGoes t p q) (h1 : ∀ k, (x.portal k).st = (s.portal k).st) :
    s.PortalGoes t p q := ⟨h2.1, fun k hk => (h2.2 k hk).trans (h1 k)⟩

/-- Two entries of one portal in a row. -/
theorem State.PortalGoes.trans {s x t : State} {p : Nat} {q r : PState} (h1 : s.PortalGoes x p q) (h2 : x.PortalGoes t p r) : s.PortalGoes t p r :=
  ⟨h2.1, fun k hk => (h2.2 k hk).trans (h1.2 k hk)⟩

/-- Operations that change no portal's state may follow. -/
theorem State.PortalGoes.then {s x t : State} {p : Nat} {q : PState} (h1 : s.PortalGoes x p q) (h2 : ∀ k, (t.portal k).st = (x.portal k).st) :
    s.PortalGoes t p q := ⟨(h2 p).trans h1.1, fun k hk => (h2 k).trans (h1.2 k hk)⟩

/-- Every part of State, with no portal's state among them. -/
def noStates : Nat := (2 ^ 28 - 1) ||| Part.actions

theorem State.PortalGoes.thenFrame {s x t : State} {p : Nat} {q : PState} (h1 : s.PortalGoes x p q) (h2 : Frame noStates x t) :
    s.PortalGoes t p q := h1.then (h2.states rfl)

theorem State.PortalGoes.afterFrame {s x t : State} {p : Nat} {q : PState} (h2 : x.PortalGoes t p q) (h1 : Frame noStates s x) :
    s.PortalGoes t p q := h2.after (h1.states rfl)

end Sys2Proof.Machine
end

