-- ==== Sys2Proof/WellFormed.lean ====
section
/-!
DEFINITION. Sys2Proof/WellFormed.lean: which commands the part can be given at all: the lengths, ranges and alignments of the operands
that the pins, the bus and the network can carry. A unit that a command names is in range by its type. Meanings are total: one is
also given to a command that fails here.
-/
namespace Sys2Proof

/-- A word address (R18). -/
def aligned (a : Word) : Bool := decide (a.toNat % 4 = 0)

/-- A telegram as N4 can deliver one (R485): 32-bit addresses and counts, at most 1,432 dataset bytes and their padding. -/
def Telegram.ok (t : Telegram) : Bool :=
  decide (t.src < 2 ^ 32 ∧ t.dst < 2 ^ 32 ∧ t.etb < 2 ^ 32 ∧ t.op < 2 ^ 32 ∧ t.type < 2 ^ 16 ∧ t.comId < 2 ^ 32 ∧ t.dsLen < 2 ^ 32
    ∧ t.data.length ≤ 1472)

/-- A critical command of 56 to 248 bytes or fewer (R603, R618). -/
def commandOk (b : List Byte) : Bool := decide (b.length ≤ 248)

/-- A PTP message in one frame (R436). -/
def ptpOk (b : List Byte) : Bool := decide (b.length ≤ 1500)

/-- Whether a command is well formed. -/
def Instr.WellFormed : Instr → Bool
  | .powerOn secs => decide (secs < 2 ^ 48)
  | .brownOut _ => true
  | .nrstAssert => true
  | .nrstRelease => true
  | .clockFail => true
  | .lockstepMismatch => true
  | .watchdogExpiry => true
  | .debugReset => true
  | .sysCmdReset _ => true
  | .sysCmdWdog _ => true
  | .pllLock => true
  | .norDiscovery _ cap _ _ passes => decide (cap < 0x10000 ∧ passes.length ≤ 3)
  | .recorderStart _ ecc => ecc.all (fun o => decide (o < 0x1000000))
  | .paramVote => true
  | .firmwareSelect => true
  | .catalogueSelect => true
  | .catalogueApply => true
  | .startSelftest _ _ _ _ => true
  | .joinEnd => true
  | .operationalEntry => true
  | .portalReferenceStart _ => true
  | .unmappedAccess addr _ _ => aligned addr
  | .registerWrite addr size _ _ _ => decide (addr.toNat % 2 ^ size.val = 0)
  | .mntTransaction bytes _ => decide (bytes.length ≤ 135)
  | .paramCrcCheck => true
  | .catCommit _ bytes _ => commandOk bytes
  | .catCommitVerifyDone => true
  | .catPwLockoutEnd => true
  | .motionCycle => true
  | .action _ bytes _ => commandOk bytes
  | .immediateActionApply => true
  | .slotDue => true
  | .isolate _ bytes _ => commandOk bytes
  | .restore _ bytes _ => commandOk bytes
  | .passengerRequest _ _ => true
  | .presenceInput _ => true
  | .emergencyHandle _ => true
  | .zeroSpeedActive => true
  | .zeroSpeedLost => true
  | .unlockComplete _ => true
  | .stepDeployed _ => true
  | .lockedInputActive _ => true
  | .stepStowed _ => true
  | .switchOpenInLocked _ => true
  | .homingDone _ => true
  | .leavesAtOpen _ => true
  | .leavesAtReopenTarget _ => true
  | .leavesClosed _ => true
  | .dwellElapsed _ => true
  | .obstWaitElapsed _ => true
  | .warnPreElapsed _ => true
  | .flashToggle _ => true
  | .chimeEnd _ => true
  | .unlockFail _ => true
  | .lockTimeElapsed _ => true
  | .recloseEnd _ => true
  | .lockFail _ => true
  | .stepFail _ => true
  | .referenceFail _ => true
  | .obsStopResume _ => true
  | .commission _ _ => true
  | .inject _ _ _ => true
  | .obsTblDataAccess _ _ _ => true
  | .segAppend _ _ => true
  | .segReplace _ _ => true
  | .axisStop _ _ _ => true
  | .axisClear _ _ => true
  | .emergencyDecelRest _ => true
  | .axStall _ _ => true
  | .axLimit _ _ => true
  | .axChatter _ _ => true
  | .axStepLag _ => true
  | .homeReferenceFound _ => true
  | .homeDwellElapsed _ => true
  | .homeLimitHit _ _ => true
  | .brakeReleaseElapsed _ => true
  | .brakeApplyElapsed _ => true
  | .fbCfgWrite _ _ _ => true
  | .fbPset _ _ _ => true
  | .fbPosRead _ _ => true
  | .fbPrbPosRead _ _ => true
  | .fbCmpPosWrite _ _ _ => true
  | .fbCmpCfgWrite _ _ _ => true
  | .fbEvtClear _ _ _ => true
  | .fbIllegal _ => true
  | .fbLineBroken _ _ => true
  | .fbAmplitudeFault _ => true
  | .fbIndex _ => true
  | .probeEdge _ _ _ => true
  | .compareHit _ => true
  | .fbDivLag _ => true
  | .speedWindow _ => true
  | .ssiFrame _ frame _ _ => decide (frame < 2 ^ 40)
  | .dlReply _ frame => decide (frame.length ≤ 68)
  | .dlUplinkTimeout _ => true
  | .dlRestart _ _ => true
  | .dlStartIdleEnd _ => true
  | .dlDelayMeasured _ trips => decide (trips.length ≤ 16)
  | .fieldFrame => true
  | .fieldReply _ bytes => decide (bytes.length ≤ 28)
  | .fieldReplyMissing _ => true
  | .fldRestart _ _ => true
  | .fldClrDiag _ _ => true
  | .tileFrameReceive _ bytes vals => decide (bytes.length ≤ 18 ∧ vals.length ≤ 12)
  | .tileApply _ => true
  | .tileTimeout _ => true
  | .tilePowerUp _ => true
  | .tileSupplyLoss _ => true
  | .fieldInputEdge _ => true
  | .wettingEnd _ => true
  | .wireBreak _ _ => true
  | .outputOverload _ _ => true
  | .outputReadback _ => true
  | .openWire _ _ => true
  | .fldTpOverload _ => true
  | .testPulseStart _ => true
  | .testPulseWindowEnd _ still => decide (still < 2 ^ 32)
  | .mrstPressBegin _ => true
  | .mrstPressEnd _ => true
  | .fldMrstStuck _ => true
  | .mrstReleased _ => true
  | .ilkCrossDisagree _ => true
  | .ilkDiscrepancy _ => true
  | .soOffPulse _ => true
  | .soPulseEnd _ _ _ => true
  | .ilkMonFault _ => true
  | .ilkClear _ => true
  | .ilkLogLoad _ _ => true
  | .brakeTestStart _ => true
  | .brakeTestPhaseEnd _ => true
  | .brakeTestTorqueTimeout _ => true
  | .brakeTestOverdue _ => true
  | .lsOnDelayEnd _ => true
  | .lsInrushEnd _ => true
  | .lsShort _ => true
  | .lsRetry _ => true
  | .lsRetriesReset _ => true
  | .lsThermal _ => true
  | .lsThermalRelease _ => true
  | .lsOpenLoad _ => true
  | .lsReadback _ => true
  | .lsBankPeak _ limiting => decide (limiting < 2 ^ 8)
  | .lsBankCont _ avg => decide (avg < 0x10000)
  | .lsContShed _ => true
  | .lswClear _ _ => true
  | .lswClrDiag _ _ => true
  | .lswRestart _ _ => true
  | .ptpSync _ bytes _ => ptpOk bytes
  | .ptpFollowUp _ bytes => ptpOk bytes
  | .ptpAnnounce _ bytes => ptpOk bytes
  | .ptpPdelayReq _ bytes => ptpOk bytes
  | .ptpPdelayResp _ bytes _ => ptpOk bytes
  | .ptpPdelaySend => true
  | .ptpSyncSend => true
  | .timeHoldover _ => true
  | .timeHoldoverLong _ => true
  | .timeSettleEnd _ => true
  | .timeJumpConfirm => true
  | .timeStep => true
  | .acceptJump _ => true
  | .acceptPath _ => true
  | .timeTtRead _ => true
  | .rtcSet => true
  | .frameReceive _ bytes _ _ => decide (bytes.length ≤ 0x10000)
  | .frameTransmitStart _ => true
  | .frameTransmitEnd _ => true
  | .pauseReceive _ _ => true
  | .pauseExpire _ => true
  | .pauseRepeat _ => true
  | .gclEntry _ => true
  | .netLinkUp _ _ => true
  | .netLinkDown _ => true
  | .hsrSupervisionSend => true
  | .netRingOpen _ => true
  | .macAge => true
  | .proxyAge => true
  | .arpRequest target => decide (target < 2 ^ 32)
  | .icmpEcho src dst data => decide (src < 2 ^ 32 ∧ dst < 2 ^ 32 ∧ data.length ≤ 1480)
  | .datagramDiscard t => t.all Telegram.ok
  | .ttdbDirectory etb op _ _ => decide (etb < 2 ^ 32 ∧ op < 2 ^ 32)
  | .ttdbAnnounce etb op => decide (etb < 2 ^ 32 ∧ op < 2 ^ 32)
  | .trdpDirectoryFail => true
  | .publishDevStatus => true
  | .publishPortalState => true
  | .publishHealth => true
  | .stlOpenReq t => t.ok
  | .stlOpenAck t => t.ok
  | .stlData t _ => t.ok
  | .stlRekeyReq t => t.ok
  | .stlRekeyAck t => t.ok
  | .stlClose t => t.ok
  | .stlCycleSend _ => true
  | .stlTimeout _ => true
  | .stlFailedRetry _ => true
  | .stlCmdOpen _ _ => true
  | .stlCmdClose _ _ => true
  | .streamOpen t => t.ok
  | .streamData t => t.ok
  | .streamAck t => t.ok
  | .streamClose t => t.ok
  | .streamAckSend _ => true
  | .streamSend _ => true
  | .streamRetransmit _ => true
  | .streamGapTimeout _ => true
  | .partnerRemoved _ => true
  | .kazukHeartbeatSend _ => true
  | .netHeartbeatSend => true
  | .kazukHeartbeat _ bytes _ => decide (bytes.length ≤ 268)
  | .netHeartbeat t _ => t.ok
  | .twinPathDown _ => true
  | .mateSilent => true
  | .ownNHigh => true
  | .twinClaim => true
  | .ownLineFault _ => true
  | .ownWatchdogExpiry => true
  | .releaseAnnounce => true
  | .twinReleased => true
  | .mirrorFrame bytes => decide (bytes.length ≤ 268)
  | .mirrorAck bytes => decide (bytes.length ≤ 268)
  | .mirrorResend => true
  | .twinSynced mateNext mateCounters mateCycles mateBrakes => decide (mateNext < 2 ^ 48 ∧ mateCounters.length ≤ 16 ∧ mateCycles.length ≤ 16 ∧ mateBrakes.length ≤ 64)
  | .standbySelftest gateBad offBad leak => decide (gateBad < 16 ∧ offBad < 16) && leak.all (fun c => decide (c < 0x120))
  | .revertRequest => true
  | .quietMomentRelease => true
  | .twinTransferCmd _ => true
  | .twinTransfer _ bytes _ => commandOk bytes
  | .twinTransferRejected => true
  | .eventIntake code inst vals => decide (code < 0x10000 ∧ inst < 0x10000 ∧ vals.length ≤ 15)
  | .recAllocate => true
  | .recRepeated => true
  | .recStore _ => true
  | .recWriteRetry _ => true
  | .recPublish => true
  | .holdSet _ => true
  | .holdRelease _ => true
  | .recHoldLimit => true
  | .recHoldDrainDone => true
  | .capture _ => true
  | .recFolioCaptured => true
  | .keep _ _ => true
  | .unkeep _ _ => true
  | .recArchiveCmd _ => true
  | .recClearCircCmd _ => true
  | .recCleared => true
  | .lwClear _ => true
  | .rwOpen _ _ _ _ => true
  | .rwStep _ => true
  | .rwClose _ => true
  | .rwLoadDone _ => true
  | .rwIdleTimeout => true
  | .recNextRead _ => true
  | .recOldestRead _ => true
  | .read t => t.ok
  | .hold t => t.ok
  | .upload t => t.ok
  | .status t => t.ok
  | .cntValRead _ => true
  | .cntSnapRead _ _ => true
  | .sweep _ => true
  | .sweepPeriodic => true
  | .write _ => true
  | .clearAll _ => true
  | .smpClear _ => true
  | .cntSmpPosWrite _ _ => true
  | .counters t => t.ok
  | .samples t => t.ok
  | .attest t => t.ok
  | .identity t => t.ok
  | .regRead t => t.ok
  | .fwCommit _ bytes _ => commandOk bytes
  | .keyInstall _ bytes _ => commandOk bytes
  | .keyRetire _ bytes _ => commandOk bytes
  | .catKeyEnrol _ bytes _ => commandOk bytes
  | .debugFuse _ bytes _ => commandOk bytes
  | .archive _ bytes _ => commandOk bytes
  | .clearCirc _ bytes _ => commandOk bytes
  | .regWrite _ bytes _ => commandOk bytes
  | .maintSession _ bytes _ => commandOk bytes
  | .maintSessionEnd _ => true
  | .provision _ bytes _ => commandOk bytes
  | .rngBlock => true
  | .rngRetest => true
  | .debugAttach => true
  | .shelve _ => true
  | .shelveReady => true
  | .shelveTimeout => true
  | .wakeN => true
  | .clockWake => true
  | .supplyReturn => true
  | .vbatMeasure mv => decide (mv < 0x10000)
  | .nvmRead _ => true
  | .nvmProgram _ => true
  | .erase4k _ => true
  | .erase64k _ => true
  | .nvmOpDone _ _ held => decide (held.length ≤ 0x10000)
  | .fbCount _ _ _ _ _ => true
  | .soReadbackFail _ _ => true
  | .rtcCrystalStop => true
  | .backupPowerUp => true
  | .backupPowerLoss => true
  | .suppliesGood => true
  | .debugDetach => true
  | .mateEvent bytes => decide (bytes.length ≤ 268)
  | .gratuitousArp => true
  | .hsrDuplicateForget => true
  | .fwCommitDone => true
  | .attestDone => true
  | .portalCycLoRead _ _ => true
  | .cntSweepTtRead _ => true
  | .secCntRead _ _ => true

end Sys2Proof
end

