-- ==== Sys2Proof/Tests/Slice0.lean ====
section
/-!
SUPPORT. Sys2Proof/Tests/Slice0.lean: small checks of the model: an ill-formed command for each check of WellFormed, and for every statement
of Certificates/Slice0/Obligations.lean states and operands that meet the hypotheses of its clauses (theorems test_<Statement>_…), with values at the
ends of their ranges where they have ends. Check values come from the manual or from the standards it names.
-/
namespace Sys2Proof.Tests
open Sys2Proof Sys2Proof.Machine

/-! ### States to start from -/

/-- A device in operation: clocks, domains and lock as R644 leaves them. -/
def up : State := { State.reset with
  sys := { State.reset.sys with start := .operational, operational := true, lock := true, pllLocked := true, domOn := 0xFFFF, fwRunning := true,
                                fwSlot := 1, voted := true, testsPassed := true, joinEnded := true },
  time := { State.reset.time with lt := 1000000000, ttFp := 5000000000 * 2 ^ 32, motionNext := 5000025000, fieldNext := 5000010000, bLt := 1000000000 } }
/-- Registers written: register, two indices, value. -/
def wr (s : State) (l : List (RegId × Nat × Nat × Nat)) : State := l.foldl (fun s e => s.setReg e.1 e.2.1 e.2.2.1 (BitVec.ofNat 32 e.2.2.2)) s
/-- A start state. -/
def at_ (st : StartState) : State := { up with sys := { up.sys with start := st, operational := false, lock := false, joinEnded := false } }
/-- Bytes written as one number. -/
def hex (n v : Nat) : List Byte := beBytes n v

/-! ### Check values of the manual and of its standards -/

/-- R58, R682. -/
theorem test_crc : crc8 (ascii "123456789") = 0xF4 ∧ crc32c (ascii "123456789") = 0xE3069283 := by decide +kernel
/-- SHA-384 of "abc" (FIPS 180-4, example). -/
theorem test_sha384 : (sha384 (ascii "abc")).take 8 = hex 8 0xCB00753F45A35E8B := by decide +kernel

set_option maxRecDepth 100000
set_option Elab.async false

/-! ### Clocks, resets and start-up -/

theorem test_ResetSources : up.sys.fwRunning = true ∧ (at_ .boot).sys.start ≠ .inReset ∧ up.mayAccess 0 false = true ∧ up.sc.debugFuse = false := by decide +kernel

def held : State := { at_ .inReset with sys := { (at_ .inReset).sys with nrstLow := true } }
def noSupply : State := { at_ .inReset with sys := { (at_ .inReset).sys with supOk := false } }
def noPll : State := { at_ .boot with sys := { (at_ .boot).sys with pllLocked := false } }
theorem test_BootClocks :
    (held.sys.start = .inReset ∧ held.sys.nrstLow = true ∧ held.sys.supOk = true ∧ held.sys.clkFail = false) ∧
    (noSupply.sys.start = .inReset ∧ noSupply.sys.supOk = false ∧ noSupply.sys.nrstLow = false ∧ noSupply.sys.clkFail = false) ∧
    (noPll.sys.start = .boot ∧ noPll.sys.pllLocked = false) ∧
    ((at_ .boot).sys.start = .boot ∧ (at_ .boot).sys.pllLocked = true ∧ (at_ .boot).nvm.ready = false ∧ 16 ≤ 16 ∧ 15 < 16) := by decide +kernel

theorem test_ParameterVote : ([1] : List Byte) ≠ [2] ∧ ([2] : List Byte) ≠ [3] ∧ ([1] : List Byte) ≠ [3] ∧
    (vote true (some [2]) (some [1]) (some [1])).forward = true ∧ (vote true (some [1]) (some [2]) (some [2])).forward = false := by decide +kernel

def booted : State := { at_ .boot with nvm := { ready := true, cap := 64 }, sys := { (at_ .boot).sys with notes := [] } }
def unvoted : State := { booted with sys := { booted.sys with voted := false }, rcd := { booted.rcd with started := true } }
def joining : State := { at_ .join with sys := { (at_ .join).sys with lock := true } }
def joined : State := { joining with sys := { joining.sys with joinEnded := true } }
theorem test_StartSequence :
    (booted.sys.pllLocked = true ∧ booted.rcd.started = false ∧ booted.sys.start = .boot ∧ booted.sys.notes = [] ∧ booted.voteMark = (some 0, booted)) ∧
    (unvoted.sys.pllLocked = true ∧ unvoted.rcd.started = true ∧ unvoted.sys.voted = false ∧ unvoted.sys.start = .boot) ∧
    (booted.nvm.ready = true ∧ booted.sys.voted = true) ∧ (at_ .selftest).sys.start = .selftest ∧
    (joining.sys.start = .join ∧ joining.sys.joinEnded = false) ∧
    (joined.sys.start = .join ∧ joined.sys.lock = true ∧ joined.sys.testsPassed = true ∧ joined.sys.joinEnded = true) := by decide +kernel

/-! ### Power, shelving, the backup domain and the flash -/

def shelvable : State := { up with bk := { up.bk with powered := true, rtcValid := true, shelfWake := 1 } }
def unshelvable : State := (wr up [(.portalCfg, 0, 0, 1)]).setPortal 0 { st := .released }
def shelving : State := { shelvable with sys := { shelvable.sys with shelving := true } }
def low : State := { shelving with sys := { shelving.sys with pwrEnLow := true, coreFell := some 7 } }
theorem test_Shelving :
    (shelvable.mayAccess 0 false = true ∧ shelvable.sys.start = .operational ∧ shelvable.sys.shelving = false ∧ shelvable.shelfPortals = true ∧
      shelvable.slotsInOrder = [] ∧ shelvable.rcd.hold = false ∧ shelvable.cat.commit = none ∧ shelvable.nvm.busy = none ∧ shelvable.wakePresent = false) ∧
    ((at_ .noImage).sys.start.maintOnly = true ∧ unshelvable.mayAccess 0 false = true ∧ unshelvable.sys.shelving = false ∧ unshelvable.shelfPortals = false) ∧
    (shelving.sys.shelving = true ∧ shelving.sys.pwrEnLow = false ∧ shelving.rcd.intake = [] ∧ shelving.rcd.storeQ = [] ∧ shelving.nvm.busy = none ∧
      shelving.wakePresent = false ∧ shelving.bk.powered = true) ∧
    (low.sys.pwrEnLow = true ∧ low.sys.shelving = true ∧ low.sys.supOk = true ∧ low.bk.powered = true ∧ low.sys.coreFell = some 7 ∧
      low.bk.shelfWake ≠ 0 ∧ low.bk.rtcValid = true ∧ low.wakePresent = false) ∧
    (let s := { low with sys := { low.sys with wakeHeld := 2 } }
     s.sys.pwrEnLow = true ∧ s.bk.powered = true ∧ s.sys.wakeHeld ≠ 0 ∧ s.sys.coreFell = some 7) := by decide +kernel

theorem test_BackupDomain : shelvable.bk.powered = true ∧ { up with bk := { up.bk with powered := false } }.bk.powered = false := by decide +kernel

/-- The last page and the last sectors of a flash of the least capacity, outside every slot. -/
def flashAt (a : Nat) (busy : Option NvmOp := none) : State := { wr up [(.nvmAddr, 0, 0, a)] with nvm := { ready := true, cap := 16, busy := busy } }
theorem test_FlashOperations :
    ((flashAt 0x1FFFF00).mayAccess 0 false = true ∧ (flashAt 0x1FFFF00).domain 11 = true ∧ (flashAt 0x1FFFF00).nvm.busy = none ∧
      (flashAt 0x1FFFF00).nvmProtected 0x1FFFF00 256 = false ∧ (flashAt 0x1FFF000).nvmProtected 0x1FFF000 0x1000 = false ∧
      (flashAt 0x1FF0000).nvmProtected 0x1FF0000 0x10000 = false ∧ ((flashAt 0x1FFFF00).reg .nvmAddr).toNat = 0x1FFFF00 ∧
      0x1FFFF00 % 256 = 0 ∧ 0x1FFFF00 + 256 ≤ 16 * 0x200000 ∧ 0x1FFF000 % 0x1000 = 0 ∧ 0x1FFF000 + 0x1000 ≤ 16 * 0x200000 ∧ 0x1FF0000 % 0x10000 = 0 ∧
      0x1FF0000 + 0x10000 ≤ 16 * 0x200000) ∧
    ((flashAt 0 (some ⟨1, 0x1FFFF00⟩)).nvm.busy = some ⟨1, 0x1FFFF00⟩ ∧ (flashAt 0 (some ⟨2, 0⟩)).nvm.busy = some ⟨2, 0⟩ ∧
      (∀ k < 256, (flashAt 0 (some ⟨2, 0⟩)).flashByte (0 + k) = 0xFF) ∧ (flashAt 0 (some ⟨3, 0⟩)).nvm.busy = some ⟨3, 0⟩ ∧
      (flashAt 0 (some ⟨4, 0⟩)).nvm.busy = some ⟨4, 0⟩) := by decide +kernel

/-! ### The internal bus and the maintenance port -/

theorem test_UndecodedAccess :
    (up.mayAccess 0 true = true ∧ up.mayAccess 0 false = true ∧ up.decode 0x3FFFFFFC = .undecoded ∧ up.decode 0x500000 = .undecoded) ∧
    (let s := { up with sys := { up.sys with domOn := 0 } }
     s.domain 0 = false ∧ s.domain 9 = false ∧ s.domain 11 = false ∧
     (blockRanges.find? (fun r => decide (r.1 ≤ regAddr .nvmAddr 0 0 ∧ regAddr .nvmAddr 0 0 ≤ r.2.1))).map (fun r => blockDomain r.2.2 (regAddr .nvmAddr 0 0 - r.1))
       = some (some 11)) := by decide +kernel

theorem test_RegisterWrite :
    (up.mayAccess 0 false = true ∧ up.decode (regAddr .timePath 0 0) = .reg .timePath 0 0 ∧ (desc .timePath).access = .rwl ∧ up.locked = true) ∧
    (let s := at_ .config
     s.mayAccess 2 false = true ∧ regAddr .portalCfg 15 0 % 4 = 0 ∧ s.decode (regAddr .portalCfg 15 0) = .reg .portalCfg 15 0 ∧
       (desc .portalCfg).access ≠ .ro ∧ s.writeCause (regAddr .portalCfg 15 0) 0 = 0 ∧ regAddr .portalCfg 15 0 ≠ regAddr .secCmdCtrl 0 0 ∧ s.locked = false ∧
       writeOk .timePath 0 0 0xFFFFFFFF = false) ∧
    (up.decode 0x100003 = .ram ∧ up.decode 0x1FFFFF8 = .ram ∧ up.decode 0x1FFFFFC = .ram ∧ 0x100003 < 0x01000000 ∧ 0x01000000 ≤ 0x1FFFFFC) ∧
    (regAddr .timePath 0 0 % 4 = 0 ∧ (regAddr .timePath 0 0 + 2) % 2 ^ 1 = 0 ∧ (regAddr .timePath 0 0 + 2) / 4 * 4 = regAddr .timePath 0 0 ∧
      up.decode (regAddr .timePath 0 0 + 2) ≠ .ram ∧ up.decode (regAddr .timePath 0 0) ≠ .ram ∧ 0x3FFF8 % 8 = 0 ∧ up.decode 0x3FFF8 ≠ .ram) ∧
    (up.decode 0x3FFFC = .rom ∧ up.decode 0x40000 = .undecoded ∧ up.decode (regAddr .timeTtLo 0 0 + 0xF000) = .reserved) := by decide +kernel

/-- A write of one word to 0x0010_0000, and transactions with a wrong HCRC, a COUNT of 0, a wrong DCRC, and a read. -/
def mnt (l : List Byte) : List Byte := l ++ [BitVec.ofNat 8 (crc8 l)]
def mntWrite : List Byte := mnt (mnt [0x41, 0, 0x10, 0, 0] ++ [1, 2, 3, 4])
theorem test_Maintenance :
    (up.mayAccess 4 true = true ∧ 6 ≤ [0, 0, 0, 0, 0, 1].length ∧ byteAt [0, 0, 0, 0, 0, 1] 5 ≠ crc8 (([0, 0, 0, 0, 0, 1] : List Byte).take 5)) ∧
    (let b := mnt [0, 0, 0, 0, 0]
     byteAt b 5 = crc8 (b.take 5) ∧ byteAt b 0 % 64 = 0) ∧
    (let b := mntWrite
     byteAt b 5 = crc8 (b.take 5) ∧ byteAt b 0 = 64 + 1 ∧ beAt b 1 4 = 0x100000 ∧ beAt b 1 4 % 4 = 0 ∧ 7 + 4 * 1 ≤ b.length ∧
       byteAt b (6 + 4 * 1) = crc8 (b.take (6 + 4 * 1))) ∧
    (let b := mntWrite.take 10 ++ [0]
     byteAt b (6 + 4 * 1) ≠ crc8 (b.take (6 + 4 * 1)) ∧ byteAt b 5 = crc8 (b.take 5) ∧ 7 + 4 * 1 ≤ b.length) ∧
    (let b := mnt [0x20, 0xFF, 0xFF, 0xFF, 0x80]
     byteAt b 5 = crc8 (b.take 5) ∧ byteAt b 0 = 32 ∧ beAt b 1 4 % 4 = 0 ∧ beAt b 1 4 + 4 * 32 - 4 ≤ 0xFFFFFFFC) := by decide +kernel


/-! ### The catalogue image -/

/-- Flash cells of bytes from an address on. -/
def cells (a : Nat) : List Byte → Table Byte
  | [] => []
  | b :: l => (a, b) :: cells (a + 1) l
theorem get_cells (t : Table Byte) (d : Byte) : ∀ (l : List Byte) (a i : Nat),
    Table.get d (cells a l ++ t) (a + i) = if i < l.length then l.getD i d else Table.get d t (a + i)
  | [], a, i => by simp [cells]
  | b :: l, a, 0 => by simp [cells, Table.get]
  | b :: l, a, i + 1 => by
    have := get_cells t d l (a + 1) i
    simp only [cells, List.cons_append, Table.get, if_neg (show a + (i + 1) ≠ a by omega), List.length_cons, List.getD_cons_succ, Nat.succ_lt_succ_iff]
    rw [show a + (i + 1) = a + 1 + i by omega, this]
theorem get_cells_ne (t : Table Byte) (d : Byte) : ∀ (l : List Byte) (a k : Nat), k < a ∨ a + l.length ≤ k → Table.get d (cells a l ++ t) k = Table.get d t k
  | [], _, _, _ => by simp [cells]
  | b :: l, a, k, h => by
    simp only [List.length_cons] at h
    simp only [cells, List.cons_append, Table.get, if_neg (show k ≠ a by omega)]
    exact get_cells_ne t d l (a + 1) k (by omega)
/-- Bytes of an image, erased flash beyond its end. -/
def rd (img : List Byte) (off n : Nat) : List Byte := (img.drop off).take n ++ List.replicate (n - (img.length - off)) 0xFF

/-- A catalogue image of 368 bytes with DEVC and SAFE, CAT_VERSION 1, signed with the private key 1. -/
def imgA : List Byte := hex 256 0x534c46430100000170010000010000000100000002000000000000000000000000000000000000000000000000000000e7621064df002f3d0000000000000000fdc93dbc5b47d82e8f095bb3b7b5dc64bc7c0c91d0a2b75fac484df4d9b43179e24ed1a0ef38de7548a200770d32893a6460f955efdcbf3bf7393081ddf04a64747781bc8956c1e5ff47be522f7f758244ae054e91e8aa160c76dc7302bcf181329851029d053a33ca0981be8317bc65e26befc20cda7f09f3f001c101508591bc6d4346c94deeef554cb1d84b6b5aad000000000000000000000000000000000000000000000000000000000000000000000000000000000000000000000000 ++
  hex 112 0x444556430000000008000000ee3df8cb0000000000000000534146450000000048000000fb4ca52383ae01341027000000000000000000000000000000000000000000000000000000000000000000000000000000000000000000000000000000000000000000000000000000000000
/-- A catalogue image of 368 bytes with DEVC and SAFE, CAT_VERSION 1, signed with the private key 1. -/
def imgB : List Byte := hex 256 0x534c46430100000170010000010000000100000002000000000000000000000000000000000000000000000000000001e7621064df002f3d0000000000000000fda12598dd6cd24e2cfdcb20505ae587e908afba27079a78320a70eadf252bbd28055640b5478eedca7e29226c02da316460f955efdcbf3bf7393081ddf04a64747781bc8956c1e5ff47be522f7f758244ae054e91e8aa160c76dc7302bcf1810a5db28f134387e3b7a40417a65b3d2b2be02fe98c3e86b5b50554e9ac5f79fdafbfb4501006f4fbe920a95da8ac6dd8000000000000000000000000000000000000000000000000000000000000000000000000000000000000000000000000 ++
  hex 112 0x444556430000000008000000ee3df8cb0000000000000000534146450000000048000000fb4ca52383ae01341027000000000000000000000000000000000000000000000000000000000000000000000000000000000000000000000000000000000000000000000000000000000000
def dig (b : List Byte) : List Byte := (b.drop 0x40).take 48

/-- A device about to check its catalogue: its slots hold `a` and `b`, and the first copy of the parameters holds their digests. -/
def imgSlot (a b : List Byte) : State :=
  { at_ .config with flash := cells (flashSlotSize * 2) a ++ (cells (flashSlotSize * 3) b ++ [])
                     mem := cells (paramAddr 0 2) (copyRecord 2 (dig a)) ++ cells (paramAddr 0 3) (copyRecord 3 (dig b))
                     sc := { up.sc with enrolled := [(bpGx, bpGy)] } }
theorem imgSlot_rd (a b : List Byte) (ha : a.length ≤ 0x400000) (off n : Nat) (h : off + n ≤ 0x400000) :
    (imgSlot a b).catBytes 0 off n = rd a off n ∧ (imgSlot a b).catBytes 1 off n = rd b off n := by
  have e : ∀ l : List Byte, rd l off n = (List.range n).map (fun i => if off + i < l.length then l.getD (off + i) 0xFF else 0xFF) := by
    intro l
    refine List.ext_getElem (by simp [rd]; omega) fun i h1 h2 => ?_
    simp only [List.length_map, List.length_range] at h2
    simp only [rd, List.getElem_append, List.getElem_map, List.getElem_range, List.length_take, List.length_drop, List.getElem_take, List.getElem_drop,
      List.getElem_replicate]
    split <;> split <;> first | omega | simp_all
  have k : flashSlotSize * 2 + 0x400000 = flashSlotSize * 3 := by decide
  constructor
  · rw [e]; refine List.map_congr_left fun i hi => ?_
    have hi := List.mem_range.1 hi
    show Table.get 0xFF (cells _ a ++ _) (flashSlotSize * 2 + off + i) = _
    rw [show flashSlotSize * 2 + off + i = flashSlotSize * 2 + (off + i) by omega, get_cells]
    split
    · rfl
    · rw [get_cells_ne _ _ _ _ _ (by omega)]; rfl
  · rw [e]; refine List.map_congr_left fun i hi => ?_
    show Table.get 0xFF (cells _ a ++ _) (flashSlotSize * 3 + off + i) = _
    rw [get_cells_ne _ _ _ _ _ (by omega), show flashSlotSize * 3 + off + i = flashSlotSize * 3 + (off + i) by omega, get_cells]
    rfl

/-- DEVC and SAFE as both images hold them. -/
def secs : List Section := [⟨tagDEVC, 0, 0x100, List.replicate 8 0⟩, ⟨tagSAFE, 0, 0x118, leBytes 4 872525443 ++ leBytes 4 10000 ++ List.replicate 64 0⟩]
theorem lenA : imgA.length = 368 := by decide +kernel
theorem lenB : imgB.length = 368 := by decide +kernel
theorem hdrA : leNat (rd imgA 8 4) = 368 ∧ leNat (rd imgA 0x14 2) = 2 ∧ leNat (rd imgA 0x16 1) = 0 ∧ leNat (rd imgA 0xC 4) = 1 := by decide +kernel
theorem hdrB : leNat (rd imgB 8 4) = 368 ∧ leNat (rd imgB 0x14 2) = 2 ∧ leNat (rd imgB 0x16 1) = 0 ∧ leNat (rd imgB 0xC 4) = 1 := by decide +kernel
def okIm {α β : Type} : Except α β → Option β
  | .ok b => some b
  | .error _ => none
theorem walkA : okIm (walkImage (rd imgA 0 368) 368 2) = some secs := by decide +kernel
theorem walkB : okIm (walkImage (rd imgB 0 368) 368 2) = some secs := by decide +kernel
theorem decode_ok {l : List Section} {q : Scratch} {p : Nat} (h : imageEntries l {} = .ok q)
    (h2 : q.x.crossFails q.touched p (byteAt (payloadOf l tagDEVC) 0) = none) (h3 : crc32c q.x.ilkParams = leAt (payloadOf l tagSAFE) 0 4) :
    (okIm (decodeImage l p)).isSome = true := by
  simp only [decodeImage, h, h2, h3, okIm, ne_eq, not_true_eq_false, if_false, Option.isSome]
theorem paramCrc0 : crc32c ({} : State).ilkParams = 872525443 := by decide +kernel
theorem decodes : (okIm (decodeImage secs 0)).isSome = true := by
  have h : okIm (imageEntries secs {}) = some {} := by decide +kernel
  have h : imageEntries secs {} = .ok {} := by
    revert h; cases imageEntries secs {} <;> simp [okIm]
  have h3 : leAt (payloadOf secs tagSAFE) 0 4 = 872525443 := by decide +kernel
  exact decode_ok (q := {}) h (by decide +kernel) (paramCrc0.trans h3.symm)
def both : State := imgSlot imgA imgB
theorem both_rd (off n : Nat) (h : off + n ≤ 0x400000) : both.catBytes 0 off n = rd imgA off n ∧ both.catBytes 1 off n = rd imgB off n :=
  imgSlot_rd imgA imgB (by rw [lenA]; omega) off n h
theorem both5_a : both.catCheck5 0 = none := by
  have l0 : leAt (rd imgA 0 256) 8 4 = 368 := by decide +kernel
  simp only [State.catCheck5, (both_rd 0 256 (by omega)).1, l0, (both_rd 256 112 (by omega)).1]
  decide +kernel
theorem both5_b : both.catCheck5 1 = none := by
  have l0 : leAt (rd imgB 0 256) 8 4 = 368 := by decide +kernel
  simp only [State.catCheck5, (both_rd 0 256 (by omega)).2, l0, (both_rd 256 112 (by omega)).2]
  decide +kernel
theorem both5 : both.catCheck5 0 = none ∧ both.catCheck5 1 = none := ⟨both5_a, both5_b⟩
theorem both7 : both.catCheck7 0 true = none ∧ both.catCheck7 1 true = none := by
  simp only [State.catCheck7, State.catHdr, (both_rd 0xC 4 (by omega)).1, (both_rd 0xC 4 (by omega)).2, (both_rd 0x10 4 (by omega)).1, (both_rd 0x10 4 (by omega)).2,
    (both_rd 0x40 48 (by omega)).1, (both_rd 0x40 48 (by omega)).2]
  decide +kernel
theorem bytes_congr {s t : State} (hf : s.flash = t.flash) : s.catBytes = t.catBytes := by
  unfold State.catBytes State.flashBytes State.flashByte; rw [hf]
theorem check5_congr {s t : State} (hf : s.flash = t.flash) (he : s.sc.enrolled = t.sc.enrolled) (k : Nat) : s.catCheck5 k = t.catCheck5 k := by
  unfold State.catCheck5 State.enrolledId; rw [bytes_congr hf, he]
theorem check7_congr {s t : State} (hf : s.flash = t.flash) (hm : s.mem = t.mem) (hc : s.cat.floor = t.cat.floor) (k : Nat) (st : Bool) :
    s.catCheck7 k st = t.catCheck7 k st := by
  unfold State.catCheck7 State.catHdr State.voteOf State.copyValue State.memBytes State.memByte; rw [bytes_congr hf, hm, hc]
/-- What a slot that holds a whole image answers. -/
theorem catCheck_ok {s : State} {k : Nat} {st : Bool} {l : List Section} (h5 : s.catCheck5 k = none) (h7 : s.catCheck7 k st = none) (hl : s.catHdr k 8 4 = 368)
    (hn : s.catHdr k 0x14 2 = 2) (hp : s.catHdr k 0x16 1 = 0) (hw : okIm (walkImage (s.catBytes k 0 368) 368 2) = some l)
    (d : (okIm (decodeImage l 0)).isSome = true) :
    ∃ im, s.catCheck k st = .ok im ∧ im.version = s.catHdr k 0xC 4 ∧ im.digest = s.catBytes k 0x40 48 ∧ im.safe = payloadOf l tagSAFE := by
  obtain ⟨l', hw'⟩ : ∃ l', walkImage (s.catBytes k 0 368) 368 2 = .ok l' := by
    revert hw; cases walkImage (s.catBytes k 0 368) 368 2 with
    | error e => simp [okIm]
    | ok l' => exact fun _ => ⟨l', rfl⟩
  obtain rfl : l' = l := by rw [hw'] at hw; simpa [okIm] using hw
  obtain ⟨q, hd⟩ : ∃ q, decodeImage l' 0 = .ok q := by
    revert d; cases decodeImage l' 0 with
    | error e => simp [okIm]
    | ok q => exact fun _ => ⟨q, rfl⟩
  simp only [State.catCheck, h5, h7, State.catDecode, hl, hn, hp, hw', hd]
  exact ⟨_, rfl, rfl, rfl, rfl⟩
theorem catCheck_error {s : State} {k : Nat} {st : Bool} {e : CatErr} (h5 : s.catCheck5 k = none) (h7 : s.catCheck7 k st = some e) :
    s.catCheck k st = .error e := by simp only [State.catCheck, h5, h7]
theorem both_hdr (k : Nat) (hk : k < 2) : both.catHdr k 8 4 = 368 ∧ both.catHdr k 0x14 2 = 2 ∧ both.catHdr k 0x16 1 = 0 ∧ both.catHdr k 0xC 4 = 1 ∧
    okIm (walkImage (both.catBytes k 0 368) 368 2) = some secs := by
  have h : k = 0 ∨ k = 1 := by omega
  rcases h with rfl | rfl
  · simp only [State.catHdr, (both_rd 8 4 (by omega)).1, (both_rd 0x14 2 (by omega)).1, (both_rd 0x16 1 (by omega)).1, (both_rd 0xC 4 (by omega)).1,
      (both_rd 0 368 (by omega)).1, hdrA, walkA, and_self]
  · simp only [State.catHdr, (both_rd 8 4 (by omega)).2, (both_rd 0x14 2 (by omega)).2, (both_rd 0x16 1 (by omega)).2, (both_rd 0xC 4 (by omega)).2,
      (both_rd 0 368 (by omega)).2, hdrB, walkB, and_self]
/-- The slots of `both` hold two whole images of one version and two digests, whatever the fields that its check does not read. -/
theorem both_ok (s : State) (k : Nat) (hk : k < 2) (hf : s.flash = both.flash) (he : s.sc.enrolled = both.sc.enrolled)
    {st : Bool} (h7 : s.catCheck7 k st = none) :
    ∃ im, s.catCheck k st = .ok im ∧ im.version = 1 ∧ im.digest = both.catBytes k 0x40 48 ∧ im.safe = payloadOf secs tagSAFE := by
  have hc := bytes_congr hf
  have hh : s.catHdr = both.catHdr := by unfold State.catHdr; rw [hc]
  obtain ⟨a, b, c, d, e⟩ := both_hdr k hk
  have z : k = 0 ∨ k = 1 := by omega
  have n5 : both.catCheck5 k = none := by rcases z with rfl | rfl; exacts [both5.1, both5.2]
  obtain ⟨im, q⟩ := catCheck_ok (s := s) (k := k) (st := st) ((check5_congr hf he k).trans n5) h7 (hh ▸ a) (hh ▸ b) (hh ▸ c) (hc ▸ e) decodes
  rw [hh, hc, d] at q
  exact ⟨im, q⟩
theorem digests : both.catBytes 0 0x40 48 ≠ both.catBytes 1 0x40 48 := by
  rw [(both_rd 0x40 48 (by omega)).1, (both_rd 0x40 48 (by omega)).2]; decide +kernel

/-- Clauses 2 of CatalogueSelectUsesTheChosenImage, and its state. -/
theorem test_CatalogueSelect_conflict : both.sys.start = .config ∧ both.cat.runSlot = 0 ∧ ∃ a b, both.catCheck 0 true = .ok a ∧ both.catCheck 1 true = .ok b ∧
    chooseSlot (both.catCheck 0 true) (both.catCheck 1 true) = none := by
  obtain ⟨a, ha, va, da, _⟩ := both_ok both 0 (by omega) rfl rfl both7.1
  obtain ⟨b, hb, vb, db, _⟩ := both_ok both 1 (by omega) rfl rfl both7.2
  refine ⟨rfl, rfl, a, b, ha, hb, ?_⟩
  have := digests
  rw [ha, hb]
  simp only [chooseSlot, va, vb, da, db, Nat.lt_irrefl, true_and, if_neg this, false_or, if_false]
/-- A state with other memory, catalogue state and keys. -/
def vary (s : State) (m : List Host.Cell) (c : Cat) (ks : Table CmdKey) : State := { s with mem := m, cat := c, sc := { s.sc with keys := ks } }
theorem vary_flash (s m c ks) : (vary s m c ks).flash = s.flash := rfl
theorem vary_enrolled (s m c ks) : (vary s m c ks).sc.enrolled = s.sc.enrolled := rfl
theorem vary_sys (s m c ks) : (vary s m c ks).sys = s.sys := rfl
theorem vary_cat (s m c ks) : (vary s m c ks).cat = c := rfl
theorem vary_mem (s m c ks) : (vary s m c ks).mem = m := rfl

def lone : State := vary both (cells (paramAddr 0 2) (copyRecord 2 (dig imgA))) {} []
theorem lone7 : lone.catCheck7 0 true = none ∧ (lone.catCheck7 1 true).isSome = true := by
  have e : lone.catBytes = both.catBytes := bytes_congr (vary_flash ..)
  simp only [State.catCheck7, State.catHdr, e, (both_rd 0xC 4 (by omega)).1, (both_rd 0xC 4 (by omega)).2, (both_rd 0x10 4 (by omega)).1,
    (both_rd 0x10 4 (by omega)).2, (both_rd 0x40 48 (by omega)).1, (both_rd 0x40 48 (by omega)).2]
  decide +kernel
theorem lone5 : lone.catCheck5 1 = none := by
  unfold lone; rw [check5_congr (t := both) (vary_flash ..) (vary_enrolled ..)]; exact both5.2
theorem lone_none : ∃ e, lone.catCheck 1 true = .error e := by
  obtain ⟨e, he⟩ := Option.isSome_iff_exists.1 lone7.2
  exact ⟨e, catCheck_error lone5 he⟩
/-- The clauses of an image in use and of none. -/
theorem test_CatalogueSelect : (lone.sys.start = .config ∧ lone.cat.runSlot = 0 ∧ ∃ k im, chooseSlot (lone.catCheck 0 true) (lone.catCheck 1 true) = some (k, im)) ∧
    (let s := at_ .config
     s.sys.start = .config ∧ s.cat.runSlot = 0 ∧ okIm (s.catCheck 0 true) = none ∧ okIm (s.catCheck 1 true) = none) := by
  refine ⟨⟨by decide +kernel, by decide +kernel, ?_⟩, by decide +kernel⟩
  obtain ⟨a, ha, _⟩ := both_ok lone 0 (by omega) (vary_flash ..) (vary_enrolled ..) lone7.1
  obtain ⟨e, he⟩ := lone_none
  exact ⟨0, a, by rw [ha, he, chooseSlot]⟩

def chosen : State := vary both both.mem { runSlot := 2 } []
theorem test_CatalogueApply : chosen.sys.start = .config ∧ chosen.cat.runSlot ≠ 0 ∧ chosen.sys.lock = false ∧
    ∃ im, chosen.catDecode (chosen.cat.runSlot - 1) = .ok im := by
  refine ⟨by decide +kernel, by decide +kernel, by decide +kernel, ?_⟩
  have h7 : chosen.catCheck7 1 true = none := (check7_congr (vary_flash ..) (vary_mem ..) (by decide +kernel) 1 true).trans both7.2
  obtain ⟨a, ha, _⟩ := both_ok chosen 1 (by omega) (vary_flash ..) (vary_enrolled ..) h7
  have h5 : chosen.catCheck5 1 = none := (check5_congr (vary_flash ..) (vary_enrolled ..) 1).trans both5.2
  simp only [State.catCheck, h5, h7] at ha
  exact ⟨a, ha⟩

/-! ### Commits and critical commands

Commands under a key of 32 bytes of 5, with their tags; their header holds version 1, the code, the length, the key, the counter 1 and T. -/

def c_keyInst : List Byte := hex 56 0x01000301005000000000000000000001000000000000000000000000000000000000000000000000030001ff070707070707070707070707 ++
  hex 80 0x7130b239e826f7956e434e4eedb27484dbb72f6dba6247dcdf25dcf8eba0b948392521ce38b774e6caefd71e05034a8769806f1d3d51d64caf5ec00c8da42eeeabfe4c2a97de409dbaf187766c5ceeee
def c_catPw : List Byte := hex 56 0x01000201009000000000000000000001000000000000000000000000000000000000000000000000000c0000000000000000000000000000 ++
  hex 144 0x000000000000000000000000000000000000000000000000000000000000000000000000070707070707070707070707a26c83ec1fc97c5f23962cc247685ed8573317ee652b5323382b1036e66010f9a53f7e58ae4044218bb8272a03f0889d2c957f5b61845f10024aebd082c7757057bd958ad676a3e0483cc5b2273f420ab13de8bcb074b806d4a37ba5249a4455
def pbk : List Byte := hex 48 0xa1ce09f4d05ad5769925c1cd7f2aa41d3c8e838e8a07cec20501171ce9e29143aed617bb20219ae8f4787d8d602859de
def c_catCommit : List Byte := hex 56 0x0100020100900000000000000000000100000000000000000000000000000000000000000000000001000000000000000000000000000000 ++
  hex 144 0x000000000000000000000000000000000000000000000000000000000000000000000000000000000000000000000000000000000000000000000000000000000000000000000000000000000000000000000000000000000000000000000000000000000000000000000000000000000000000000000000000000000000000058e88d99d9a27d434d436486e9b60d32
def c_fwCommit : List Byte := hex 56 0x0100020200340000000000000000000100000000000000000000000000000000000000000000000001000000000000000000000000000000 ++
  hex 52 0x000000000000000000000000000000000000000000000000000000000000000000000000a855a65811a62296602c6014f7c1f297
def c_retire : List Byte := hex 60 0x010003020004000000000000000000010000000000000000000000000000000000000000000000000f00000076ec8ce7925f849268d033e5c1f96f0b
def c_enrol : List Byte := hex 56 0x010003030060000000000000000000010000000000000000000000000000000000000000000000001d1c64f068cf45ffa2a63a81b7c13f6b ++
  hex 96 0x8847a3e77ef14fe3db7fcafe0cbd10e8e826e03436d646aaef87b2e247d4af1e8abe1d7520f9c2a45cb1eb8e95cfd55262b70b29feec5864e19c054ff99129280e4646217791811142820341263c53150c4d775a6b40d4f57a2e4372d65992aa
def c_fuse : List Byte := hex 60 0x01000304000400000000000000000001000000000000000000000000000000000000000000000000424c4f5722ebf33fc827ffa3a18b27b8f2895b2a
def c_session : List Byte := hex 60 0x0100070100040000000000000000000100000000000000000000000000000000000000000000000001e003009bac52e57adfcdf9fefb1b8ffb5dea43
def c_prov : List Byte := hex 56 0x01000f0100ac0000000000000000000000000000000000000000000000000000000000000000000000000000000000000000000000000000 ++
  hex 172 0x00000000000000000000000000000000000000000000000000000000000000000000000000000000000000000000000000000000000000000000000000000000000000000000000000000000000000000000000000000000000000000000000000000000000000000000000000000000000000000000000000000000000000000000000000000000000000000000000000000000000000000000000000000000000000000000000000000000
def c_action0 : List Byte := hex 60 0x01000101000400000000000000000001000000000000000000000000000000000000000000000000010000081f45356d6bb8b2c069c3670777d45ad5
def c_action0r : List Byte := hex 60 0x0100010100040000000000000000000100000000000000000000000000000000000000000000000007000008546f79e5bfaec759248a3e4acc593938
def c_actionL : List Byte := hex 60 0x01000101000400000000000000000001000000012a07789f0000000000000000000000000000000001000008b95113f6364b7c852511e8e94ba09bf5
def c_actionLr : List Byte := hex 60 0x01000101000400000000000000000001000000012a07789f000000000000000000000000000000000700000841700328c6c3b3eab3ac2e1ee8c1dcc0
def c_actionS : List Byte := hex 60 0x01000101000400000000000000000001000000012a0778a000000000000000000000000000000000010000088ecf4815dabd8adfc7038d2efcf5d3e1
def c_isolate : List Byte := hex 60 0x0100010200040000000000000000000100000000000000000000000000000000000000000000000003000000c11b66cd290d5e77b196fa7bdb785f5e
def c_restore : List Byte := hex 60 0x01000103000400000000000000000001000000000000000000000000000000000000000000000000030000006e1c4e8d100c414b54b5ed7ad35dee4a
def c_archive : List Byte := hex 56 0x0100040100000000000000000000000100000000000000000000000000000000000000000000000029147f0a8ed04fc096ed43ad286cbc4b
def c_clearCirc : List Byte := hex 56 0x0100040200000000000000000000000100000000000000000000000000000000000000000000000069d583147b2164a45ce828113b35a590
def c_regWr : List Byte := hex 68 0x01000501000c00000000000000000001000000000000000000000000000000000000000000000000001000000001000001020304431952250e5e424fde127573b43c95bf
def c_regWrU : List Byte := hex 68 0x01000501000c000000000000000000010000000000000000000000000000000000000000000000003ffffffc000100000102030436496220a1c875b59fc0f6be0ac71fc8
def c_transfer : List Byte := hex 56 0x01000601000000000000000000000001000000000000000000000000000000000000000000000000e93900e6705344e19ca71bdfb9d11441
theorem check7_false {s : State} {k : Nat} (h : s.catCheck7 k true = none) : s.catCheck7 k false = none := by
  unfold State.catCheck7 at *
  revert h; simp only [firstErr, Bool.false_and, Bool.true_and]
  split
  · simp
  · split
    · simp
    · split <;> simp
def keys5 : Table CmdKey := [(0, { present := true, key := List.replicate 32 5 })]
/-- A commit of slot B in its verification. -/
def committing (c : Cat) : State := vary both both.mem { c with commit := some ⟨1, dig imgB, c_catPw, 0xFFFF⟩ } keys5
theorem committing_ok (c : Cat) (hc : c.floor = both.cat.floor) :
    ∃ im, State.catCheck { committing c with cat := { (committing c).cat with commit := none } } 1 false = .ok im ∧ im.safe = payloadOf secs tagSAFE := by
  have hf : (committing c).flash = both.flash := by unfold committing; exact vary_flash ..
  have he : (committing c).sc.enrolled = both.sc.enrolled := by unfold committing; exact vary_enrolled ..
  have hm : (committing c).mem = both.mem := by unfold committing; exact vary_mem ..
  have hc : (committing c).cat.floor = both.cat.floor := by unfold committing; rw [vary_cat]; exact hc
  generalize committing c = s at *
  have h7 : State.catCheck7 { s with cat := { s.cat with commit := none } } 1 true = none :=
    (check7_congr (s := { s with cat := { s.cat with commit := none } }) (t := both) hf hm hc 1 true).trans both7.2
  obtain ⟨im, h, _, _, q⟩ := both_ok { s with cat := { s.cat with commit := none } } 1 (by omega) hf he (check7_false h7)
  exact ⟨im, h, q⟩
theorem both_floor : both.cat.floor = 1 := by decide +kernel
/-- SAFE with one iteration of the hash, and a hash that no password has. -/
def safeBad : List Byte := leBytes 4 0 ++ leBytes 4 1 ++ List.replicate 64 0
/-- SAFE with one iteration, a salt of zeros and the hash of "password1234". -/
def safePw : List Byte := leBytes 4 0 ++ leBytes 4 1 ++ List.replicate 16 0 ++ pbk
theorem pw_of_keys {s : State} (h : s.sc.keys = keys5) : s.commitPassword c_catPw = some (ascii "password1234") := by
  have e : State.commitPassword { up with sc := { up.sc with keys := keys5 } } c_catPw = some (ascii "password1234") := by decide +kernel
  rw [← e]; unfold State.commitPassword State.key; rw [h]
theorem committing_pw (c : Cat) : (committing c).commitPassword c_catPw = some (ascii "password1234") := pw_of_keys (by unfold committing vary; rfl)
theorem passwordOk_of {s : State} {b w safe : List Byte} (h : s.commitPassword b = some w) :
    s.passwordOk b safe = (pbkdf2 w (slice safe 8 16) (leAt safe 4 4) == slice safe 24 48) := by unfold State.passwordOk; rw [h]
theorem test_Commits :
    (∀ c : Cat, c = { runSlot := 2, safe := payloadOf secs tagSAFE } ∨ c = { lockout := true, lockoutUntil := 900 } ∨ c = { runSlot := 1, safe := safeBad } ∨ c = { runSlot := 1, safe := safePw } →
      ∃ im, State.catCheck { committing c with cat := { (committing c).cat with commit := none } } 1 false = .ok im ∧ im.safe = payloadOf secs tagSAFE) ∧
    (committing { runSlot := 2, safe := payloadOf secs tagSAFE }).cat.runSlot ≠ 0 ∧
    (committing { lockout := true, lockoutUntil := 900 }).cat.runSlot = 0 ∧ (committing { lockout := true, lockoutUntil := 900 }).pwLocked = true ∧
    (committing { lockout := true, lockoutUntil := 900 }).cat.lockout = true ∧
    (committing { runSlot := 1, safe := safeBad }).cat.runSlot = 1 ∧ payloadOf secs tagSAFE ≠ safeBad ∧
    (committing { runSlot := 1, safe := safeBad }).pwLocked = false ∧ (committing { runSlot := 1, safe := safeBad }).passwordOk c_catPw safeBad = false ∧
    (committing { runSlot := 1, safe := safePw }).cat.runSlot = 1 ∧ payloadOf secs tagSAFE ≠ safePw ∧
    (committing { runSlot := 1, safe := safePw }).pwLocked = false ∧ (committing { runSlot := 1, safe := safePw }).passwordOk c_catPw safePw = true ∧
    okIm (State.catCheck up 1 false) = none := by
  refine ⟨?_, by decide +kernel, by decide +kernel, by decide +kernel, by decide +kernel, by decide +kernel, by decide +kernel, by decide +kernel, ?_,
    by decide +kernel, by decide +kernel, by decide +kernel, ?_, by decide +kernel⟩
  rotate_left
  · rw [passwordOk_of (committing_pw _)]; decide +kernel
  · rw [passwordOk_of (committing_pw _)]; decide +kernel
  rintro c (rfl | rfl | rfl | rfl) <;> exact committing_ok _ both_floor.symm

/-- A command accepted on the maintenance port. -/
def accepted (code : Nat) (b : List Byte) (s : State) : Bool :=
  decide (cmdCode b = code) && s.domain 1 && s.pathOpen none b && s.twin.releasing.isNone && !s.sys.shelving && decide (s.queued < 8)
    && ((s.offered none b).verifyCmd none b).isNone
theorem arrives_of {code : Nat} {b : List Byte} {s : State} (h : (decide (cmdCode b = code) && s.domain 1 && s.pathOpen none b && s.twin.releasing.isNone &&
    !s.sys.shelving && decide (s.queued < 8)) = true) : s.Arrives code none b (s.offered none b) := by
  simp only [Bool.and_eq_true, decide_eq_true_eq, Bool.not_eq_true', Option.isNone_iff_eq_none] at h
  exact ⟨h.1.1.1.1.1, h.1.1.1.1.2, h.1.1.1.2, h.1.1.2, h.1.2, h.2, rfl⟩
theorem verified_of {code : Nat} {b : List Byte} {s : State} (h : accepted code b s = true) : s.Verified code none b (s.offered none b) := by
  unfold accepted at h; rw [Bool.and_eq_true] at h
  exact ⟨arrives_of h.1, Option.isNone_iff_eq_none.1 h.2⟩
theorem accepts_of {code : Nat} {b : List Byte} {s : State} (h : accepted code b s = true) (hm : s.mirrors = false) : s.Accepts code none b (s.offered none b) :=
  ⟨verified_of h, hm⟩

/-- A device with key 0 and, at the digests of firmware slot 2 and catalogue slot B, zeros. -/
def keyed : State :=
  let s := wr up [(.trdpPartnerIp, 3, 0, 1)]
  { s with
    sc := { s.sc with keys := [(0, { present := true, key := List.replicate 32 5, perm := 0xFFFF })] }
    flash := cells (flashSlotSize + 0x40) (List.replicate 48 0) ++ cells (3 * flashSlotSize + 0x40) (List.replicate 48 0) }
def full : State := { keyed with sc := { keyed.sc with enrolled := List.replicate 4 (bpGx, bpGy) } }
theorem test_KeyCommands :
    (keyed.Accepts 0x0201 none c_catCommit (keyed.offered none c_catCommit) ∧ keyed.cat.runSlot ≠ byteAt (cmdParams c_catCommit) 0 + 1 ∧
      slice (cmdParams c_catCommit) 4 48 = keyed.slotDigest (2 + byteAt (cmdParams c_catCommit) 0) ∧ keyed.cat.commit = none) ∧
    (keyed.Accepts 0x0202 none c_fwCommit (keyed.offered none c_fwCommit) ∧ keyed.sys.fwSlot ≠ byteAt (cmdParams c_fwCommit) 0 + 1 ∧
      slice (cmdParams c_fwCommit) 4 48 = keyed.slotDigest (byteAt (cmdParams c_fwCommit) 0) ∧ keyed.sc.fwCommit = none) ∧
    keyed.Accepts 0x0301 none c_keyInst (keyed.offered none c_keyInst) ∧ (State.installedKey (keyed.offered none c_keyInst) c_keyInst).isSome = true ∧
    keyed.Accepts 0x0302 none c_retire (keyed.offered none c_retire) ∧
    (keyed.Accepts 0x0303 none c_enrol (keyed.offered none c_enrol) ∧ keyed.sc.enrolled.length < 4) ∧
    (full.Accepts 0x0303 none c_enrol (full.offered none c_enrol) ∧ full.sc.enrolled.length = 4) ∧
    keyed.Accepts 0x0304 none c_fuse (keyed.offered none c_fuse) ∧
    (keyed.Accepts 0x0701 none c_session (keyed.offered none c_session) ∧ (keyed.sc.sessions.filter (fun q => q.ip != 1)).length < 4) := by
  refine ⟨⟨accepts_of ?_ ?_, ?_, ?_, ?_⟩, ⟨accepts_of ?_ ?_, ?_, ?_, ?_⟩, accepts_of ?_ ?_, ?_, accepts_of ?_ ?_, ⟨accepts_of ?_ ?_, ?_⟩,
    ⟨accepts_of ?_ ?_, ?_⟩, accepts_of ?_ ?_, accepts_of ?_ ?_, ?_⟩ <;> decide +kernel
theorem test_Provision : up.Accepts 0x0F01 none c_prov (up.offered none c_prov) ∧ (provisionKey c_prov).isNone = true :=
  ⟨accepts_of (by decide +kernel) (by decide +kernel), by
    have h : onCurve (beAt (cmdParams c_prov) 0 48) (beAt (cmdParams c_prov) 48 48) = false := by decide +kernel
    simp only [provisionKey, h, Option.isNone, Bool.false_eq_true, if_false]⟩

/-- One device of a twin, its end and what it knows of its mate. -/
def tw (role : Nat) (w : Twin) : State :=
  let s := wr up [(.twinMateIp, 0, 0, 0x0A000002), (.trdpIp, 0, 0, 0x0A000001), (.trdpCfg, 0, 0, 1), (.twinCfg, 0, 0, 3)]
  { s with sys := { s.sys with twinRole := role }, twin := w }
def mb (fl : Nat) (t : Nat) : MateBeat := { flags := fl, at_ := t }
/-- The device in control. -/
def act (w : Twin) : State := tw 2 { w with driving := true, lineLow := true, silent := false }
def mirroring : State := let s := act { beat := some (mb 4 5) }; { s with sc := keyed.sc }
theorem test_Rejected : up.Arrives (cmdCode c_retire) none c_retire (up.offered none c_retire) ∧ (up.offered none c_retire).verifyCmd none c_retire = some 0x2003 ∧
    mirroring.Verified 0x0302 none c_retire (mirroring.offered none c_retire) ∧ mirroring.mirrors = true ∧ 0x0302 ≠ 0x0F01 :=
  ⟨arrives_of (by decide +kernel), by decide +kernel, verified_of (by decide +kernel), by decide +kernel, by decide⟩

def rngFailed : State := { up with sc := { up.sc with rngFail := true } }
theorem test_RandomGenerator : (up.domain 1 = true ∧ up.sc.rngFail = false) ∧ (rngFailed.domain 1 = true ∧ rngFailed.sc.rngFail = true) := by decide +kernel

/-- A network with its address and the services of the recorder, and a request to a service. -/
def net (s : State) : State := wr s [(.trdpIp, 0, 0, 0x0A000001), (.trdpCfg, 0, 0, 1), (.recPubIp, 0, 0, 0x0A000009), (.recCfg, 0, 0, 0x70A03)]
def tel (req : Nat) (body : List Byte) (src : Nat := 0x0A000002) : Telegram :=
  let d := beBytes 2 req ++ [0, 0] ++ body
  { src := src, dst := 0x0A000001, etb := 0, op := 0, type := (offsetType 40).getD 0, comId := (up.comId 0) + 40, dsLen := d.length, fcsOk := true, data := d }
def sess (s : State) : State := { s with sc := { s.sc with sessions := [⟨7, 5⟩, ⟨8, 6⟩, ⟨9, 7⟩, ⟨0x0A000002, 10 ^ 12⟩] } }
def attesting : State := { net up with sc := { up.sc with attest := some ⟨5, List.replicate 32 1⟩ } }
theorem test_Sessions : (sess up).sc.sessions[(3 : Fin 4).val]? = some ⟨0x0A000002, 10 ^ 12⟩ ∧ up.sc.debugAttached = false ∧
    ((State.serviceRx { net up with outs := [] } (tel 0x0301 (List.replicate 32 1)) 0x0301).2 = some (List.replicate 32 1) ∧
      (State.serviceRx { net up with outs := [] } (tel 0x0301 (List.replicate 32 1)) 0x0301).1.sc.attest = none ∧
      (State.serviceRx { net up with outs := [] } (tel 0x0301 (List.replicate 32 1)) 0x0301).1.sc.rngFail = false) ∧
    ((State.serviceRx { attesting with outs := [] } (tel 0x0301 (List.replicate 32 1)) 0x0301).2 = some (List.replicate 32 1) ∧
      (State.serviceRx { attesting with outs := [] } (tel 0x0301 (List.replicate 32 1)) 0x0301).1.sc.attest.isSome = true) ∧
    (attesting.sc.attest = some ⟨5, List.replicate 32 1⟩ ∧ attesting.sc.rngFail = false) ∧
    (State.serviceRx { net up with outs := [] } (tel 0x0302 []) 0x0302).2 = some [] ∧ up.mayAccess 0 true = true ∧ up.domain 1 = true := by decide +kernel

theorem test_RegisterRequests :
    (keyed.Accepts 0x0501 none c_regWr (keyed.offered none c_regWr) ∧
      ∀ i < beAt (cmdParams c_regWr) 4 2, keyed.decode (beAt (cmdParams c_regWr) 0 4 + 4 * i) = .ram ∧ beAt (cmdParams c_regWr) 0 4 + 4 * i + 4 ≤ 0x02000000) ∧
    (keyed.Accepts 0x0501 none c_regWrU (keyed.offered none c_regWrU) ∧ 0 < beAt (cmdParams c_regWrU) 4 2 ∧
      keyed.decode (beAt (cmdParams c_regWrU) 0 4 + 4 * 0) = .undecoded) :=
  ⟨⟨accepts_of (by decide +kernel) (by decide +kernel), by decide +kernel⟩, accepts_of (by decide +kernel) (by decide +kernel), by decide +kernel⟩

/-! ### Portals -/

/-- Portal 3 with one leaf that stands at 0; input 5 is active, input 6 is not. -/
def po (q : Portal) (l : List (RegId × Nat × Nat × Nat) := []) : State :=
  wr (({ up with fio := { up.fio with filt := [(5, true)] }, ilk := { up.ilk with pairs := [(0, { value := true })] }, sys := { up.sys with profile := 1 } }.setPortal 3 q).setAxis 12 { mode := .holding, referenced := true })
    ((.portalCfg, 3, 0, 1) :: (.ilkPairA, 0, 0, 0x80000005) :: l)
def unlocked : RegId × Nat × Nat × Nat := (.portalInLck, 3, 0, 0x01FF0006)
def present : RegId × Nat × Nat × Nat := (.portalInAux, 3, 0, 0x01FF0005)
def handle : RegId × Nat × Nat × Nat := (.portalInEmg, 3, 0, 0x01FF0005)
theorem test_PortalTransitions : 
    (let s := po { st := .referencing }
     s.standby = false ∧ (s.portal 3).st = .referencing ∧ (s.presentAxes 3).all (fun n => (s.axis n).referenced && s.standing n) = true ∧ s.closedAB 3 = true ∧
       s.inLocked 3 = true ∧ s.inStowed 3 = true) ∧
    (let s := po { st := .unlocking } [unlocked]
     s.standby = false ∧ (s.portal 3).st = .unlocking ∧ s.inLocked 3 = false ∧ (s.portal 3).stepWanted = false ∧ (s.portal 3).openWanted = false) ∧
    (let s := po { st := .unlocking }
     s.standby = false ∧ (s.portal 3).st = .unlocking ∧ s.inLocked 3 = true) ∧
    (∀ st, st = PState.released ∨ st = PState.closed → let s := po { st := st, reqEnabled := true } [(.portalInReq, 3, 0, 0x00050005)]
     s.standby = false ∧ (s.portal 3).reqEnabled = true ∧ 7 ≤ (s.portal 3).rankNow ∧ s.inReqInside 3 = true ∧ (s.portal 3).reqIn = false ∧
       s.inReqOutside 3 = true ∧ (s.portal 3).reqOut = false) ∧
    (let s := po { st := .opening }
     (s.portal 3).st = .opening ∧ s.leavesAt 3 (fun n => s.rs .axisTgtOpen n) = true) ∧
    (let s := po { st := .open_, dwellStart := some 5 }
     (s.portal 3).dwellStart = some 5 ∧ (s.portal 3).obstStart = none ∧ s.inPresence 3 = false ∧ (s.portal 3).closeObstructed = false ∧ 8 ≤ (s.portal 3).rankNow) ∧
    (let s := po { st := .open_, obstStart := some 5, lockPending := true }
     (s.portal 3).obstStart = some 5 ∧ (s.portal 3).lockPending = true ∧ s.inPresence 3 = false ∧ 5 ≤ (s.portal 3).rankNow) ∧
    (∀ st, st = PState.warning ∨ st = PState.closing → let s := po { st := st } [present, (.portalCfg, 3, 0, 0x201)]
     s.inPresence 3 = true ∧ s.rb .portalCfg 3 9 = true ∧ (s.portal 3).forced = false ∧ 7 ≤ (s.portal 3).rankNow) ∧
    (let s := po { st := .reopening }
     (s.leaves 3).all (fun n => s.standing n && s.beyond n (s.reopenTarget n)) = true) ∧
    (let s := po { st := .closing }
     s.closedAB 3 = true ∧ s.leavesAt 3 (fun n => s.rs .axisTgtClosed n) = true) ∧
    (let s := po { st := .locking }
     s.inLocked 3 = true ∧ (s.portal 3).lockSeen = false ∧ s.hasStep 3 = false) ∧
    (let s := po { st := .locking, lockSeen := true }
     s.inLocked 3 = true ∧ s.inStowed 3 = true) ∧
    (let s := po { st := .locking, reclosed := true } [unlocked]
     s.inLocked 3 = false ∧ (s.portal 3).lockSeen = false) ∧
    (let s := po { st := .unlocking, stepStart := some 5 } [(.portalInAux, 3, 0, 0x000601FF)]
     (s.portal 3).stepStart = some 5 ∧ s.inDeployed 3 = false) ∧
    (let s := po { st := .locked } [handle]
     s.portalEn 3 = true ∧ s.inHandle 3 = true ∧ (s.portal 3).handle = false ∧ s.zeroSpeed = true ∧ 2 ≤ (s.portal 3).st.code ∧ (s.portal 3).st.code ≤ 11 ∧
       2 ≤ (s.portal 3).rankNow) ∧
    (let s := po { st := .locking, emgPending := true } [handle]
     s.zeroSpeed = true ∧ s.seq.zeroSpeed = false ∧ s.enabledPortals.filter (fun k => (s.portal k).emgPending) = [(3 : Fin 16).val] ∧ s.inHandle 3 = true ∧
       (s.portal 3).st.code ≤ 11) := by
  refine ⟨by decide +kernel, by decide +kernel, by decide +kernel, ?_, by decide +kernel, by decide +kernel, by decide +kernel, ?_, by decide +kernel, by decide +kernel,
    by decide +kernel, by decide +kernel, by decide +kernel, by decide +kernel, by decide +kernel, by decide +kernel⟩ <;>
  · rintro st (rfl | rfl) <;> decide +kernel

theorem test_PortalTimers : 
    (let s := po { stepWanted := true }
     s.standby = false ∧ s.inDeployed 3 = true ∧ (s.portal 3).stepWanted = true) ∧
    (let s := po { st := .locking } [(.portalCfg, 3, 0, 0x11)]
     s.inLocked 3 = true ∧ (s.portal 3).lockSeen = false ∧ s.hasStep 3 = true) ∧
    (po { st := .closing }).portal 3 = { st := .closing } ∧ PState.closing.warns = true ∧ ((po { chime := true }).portal 3).chime = true ∧
    (let s := po { st := .locking } [unlocked]
     (s.portal 3).reclosed = false ∧ (s.portal 3).reclosing = none ∧ s.inLocked 3 = false ∧ (s.portal 3).lockSeen = false) ∧
    ((po { reclosing := some 5 }).portal 3).reclosing = some 5 ∧ (po {}).mayAccess 0 true = true := by decide +kernel

def closing : State := po { st := .warning, warnStart := some 5 } [(.axisProfC, 12, 0, 100), (.portalSeqBudget, 0, 0, 0x10000FFF)]
theorem test_ClosingStart :
    let axes := closing.leaves 3
    let com := closing.committed
    let sc := closing.scaleFor axes (4 * closing.rf .portalSeqBudget 0 9 0 - com)
    closing.standby = false ∧ (closing.portal 3).st = .warning ∧ (closing.portal 3).warnStart = some 5 ∧ (closing.portal 3).warnDone = false ∧
      closing.seq.starts = [] ∧ closing.auxWith 3 0 = [] ∧ axes ≠ [] ∧ closing.sMin ≤ sc ∧ com + closing.needAll axes sc ≤ 4 * closing.rf .portalSeqBudget 0 9 0 := by
  decide +kernel
/-- The same with a reservation elsewhere that takes the whole budget. -/
def spent : State := closing.setAxis 40 { resAmp := 0x3FF * 4 + 1 }
theorem test_ClosingWaits :
    let axes := spent.leaves 3
    let sc := spent.scaleFor axes (4 * spent.rf .portalSeqBudget 0 9 0 - spent.committed)
    (spent.portal 3).st = .warning ∧ spent.seq.starts = [] ∧ spent.auxWith 3 0 = [] ∧ axes ≠ [] ∧
      (sc < spent.sMin ∨ 4 * spent.rf .portalSeqBudget 0 9 0 < spent.committed + spent.needAll axes sc) := by decide +kernel

/-- A portal with one immediate action before it. -/
def acting (a : Nat) (q : Portal) (l : List (RegId × Nat × Nat × Nat) := []) : State :=
  let s := po q l; { s with seq := { s.seq with imm := [⟨a, 2 ^ 3, 1, false, 0, some 7⟩], zeroSpeed := true } }
theorem test_Actions : (∀ a ∈ [1, 2, 3, 4, 5, 6, 7, 8], let s := acting a {}
      s.standby = false ∧ s.seq.imm = [⟨a, 2 ^ (3 : Fin 16).val, 1, false, 0, some 7⟩] ∧ s.portalEn 3 = true ∧ 6 ≤ (s.portal 3).rankNow ∧ s.zeroSpeed = true) ∧
    (let s := acting 1 {} [(.portalSeqCfg, 0, 0, 6)]
     s.zeroSpeed = false) ∧
    (let s := acting 6 { st := .open_ }
     (s.portal 3).st = .open_ ∧ (s.portal 3).obstStart = none ∧ s.inPresence 3 = false) := by decide +kernel

/-- Two slots of the next motion cycle that has any, of which the restrictive one waits for the other, and two after it. -/
def slots : State := [(4, 1, 5000030000), (9, 6, 5000029000), (20, 2, 5000060000), (21, 6, 5000060001)].foldl
  (fun s e => s.setSlot e.1 ⟨1, e.2.1, 8, 1, 2, e.2.2, 3, 0, none⟩) (po {})
theorem test_ZeroSpeed :
    (let s := acting 1 { st := .opening } [(.portalSeqCfg, 0, 0, 6)]
     s.standby = false ∧ s.zeroSpeed = false ∧ s.seq.zeroSpeed = true ∧ s.portalEn 3 = true ∧ 5 ≤ (s.portal 3).rankNow) ∧
    slots.standby = false ∧ slots.nextSlotTt = some 5000030000 ∧ slots.slotsDue 5000030000 = [4, 9] := by decide +kernel

/-- Key 0 and portal 3. -/
def keyedPortal (q : Portal) (l : List (RegId × Nat × Nat × Nat) := []) : State := let s := po q l; { s with sc := keyed.sc }
def allSlots : State := { keyedPortal {} with seq := { (keyedPortal {}).seq with slots := (List.range 64).map (fun i => (i, ⟨1, 1, 8, 1, 2, 5000030000, 3, 0, none⟩)) } }
theorem test_ArmedActions :
    (∀ c ∈ [c_action0, c_action0r, c_actionL, c_actionLr, c_actionS], accepted 0x0101 c (keyedPortal {}) = true) ∧ (keyedPortal {}).mirrors = false ∧
    (∀ c ∈ [c_action0, c_action0r, c_actionL, c_actionLr, c_actionS], (State.offered (keyedPortal {}) none c).cmdTarget (cmdParams c) = some 8) ∧
    (cmdT c_action0 = 0 ∧ permissive (byteAt (cmdParams c_action0) 0) = true) ∧
    (cmdT c_action0r = 0 ∧ permissive (byteAt (cmdParams c_action0r) 0) = false ∧ byteAt (cmdParams c_action0r) 0 ≠ 8) ∧
    (cmdT c_actionL + 1 = (keyedPortal {}).tt + 100000 ∧ permissive (byteAt (cmdParams c_actionL) 0) = true) ∧
    (cmdT c_actionLr + 1 = (keyedPortal {}).tt + 100000 ∧ permissive (byteAt (cmdParams c_actionLr) 0) = false) ∧
    (cmdT c_actionS = (keyedPortal {}).tt + 100000 ∧ (List.range 64).find? (keyedPortal {}).slotFree = some 0) ∧
    (accepted 0x0101 c_actionS allSlots = true ∧ (List.range 64).find? allSlots.slotFree = none) := by decide +kernel

def isolating : List (RegId × Nat × Nat × Nat) := [(.portalInEmg, 3, 0, 0x000501FF)]
theorem test_Isolation :
    (let s := keyedPortal { st := .locked } isolating
     s.mirrors = false ∧ accepted 0x0102 c_isolate s = true ∧ (State.offered s none c_isolate).portalEn 3 = true ∧ (s.portal 3).st ≠ .unused ∧
       3 ≤ (s.portal 3).rankNow ∧ (State.offered s none c_isolate).inLocked 3 = true ∧ (State.offered s none c_isolate).inIsolate 3 = true ∧
       byteAt (cmdParams c_isolate) 0 = (3 : Fin 16).val) ∧
    (let s := keyedPortal { st := .locked }
     s.mirrors = false ∧ accepted 0x0102 c_isolate s = true ∧ (State.offered s none c_isolate).inIsolate 3 = false) ∧
    (let s := keyedPortal { st := .isolated }
     s.mirrors = false ∧ accepted 0x0103 c_restore s = true ∧ (State.offered s none c_restore).portalEn 3 = true ∧ (s.portal 3).st = .isolated ∧
       (State.offered s none c_restore).inIsolate 3 = false ∧ byteAt (cmdParams c_restore) 0 = (3 : Fin 16).val) ∧
    (let s := keyedPortal { st := .isolated } isolating
     s.mirrors = false ∧ accepted 0x0103 c_restore s = true ∧ (State.offered s none c_restore).inIsolate 3 = true) := by decide +kernel

theorem test_FirstReference : (po {}).operational = true ∧ (po {}).holder = true ∧ (po {}).portalEn 3 = true ∧ ((po {}).portal 3).st = .unused ∧
    (∀ n ∈ (po {}).presentAxes 3, (po {}).btDue n = true → (po {}).ilk.btEnded.testBit n = true) := by decide +kernel

/-! ### Observers, motion, feedback and drive links -/

def ax (x : Axis) (l : List (RegId × Nat × Nat × Nat) := []) : State :=
  wr ({ up with fio := { up.fio with filt := [(5, true)] } }.setAxis 9 x)
    ([(.axisSegTgt, 9, 0, 400), (.axisProfO, 9, 0, 100), (.axisProfO, 9, 1, 100), (.axisProfO, 9, 2, 100), (.axisProfO, 9, 3, 100)] ++ l)
theorem test_Trips : ((ax { mode := .executing }).axis 9).mode = .executing ∧ 9 % 4 < 2 ∧
    (let s := (ax { mode := .executing }).setOb 9 { strokeClosing := true, bin := 7 }
     (s.ob 9).strokeClosing = true ∧ (s.axis 9).mode = .executing) ∧ ((ax {}).axis 9).referenced = false := by decide +kernel

def stopped : State := (ax { mode := .relief, referenced := true, origTarget := 500 }).setOb 9 { stopHeld := true, stops := 1 }
theorem test_ObserverCommands : up.domain (if (32 : Fin 64).val < 32 then 2 else 3) = true ∧ up.mayAccess 0 false = true ∧ up.mayAccess 0 true = true ∧
    writeOk .obsCmd 32 0 (setFld 0x00050700 2 0 2) = true ∧ writeOk .obsTblData 32 0 0xFFFF = true ∧ (up.ob 32).tblSel < 2 ∧
    up.rb .obsCfg 32 0 = false ∧ (wr up [(.obsCfg, 32, 0, 1)]).rb .obsCfg 32 0 = true ∧
    writeOk .obsTblData 32 0 0x8000 = false ∧ (up.ob 32).tblSel = 0 ∧
    ((stopped.ob 9).stopHeld = true ∧ (stopped.axis 9).mode = .relief ∧ (stopped.ob 9).stops < stopped.rf .portalReopen (9 / 4) 3 0 ∧
      (stopped.axis 9).brkRelDue = none ∧ stopped.rb .axisCfg 9 9 = false) := by decide +kernel

def cycle : State := (wr (up.setLink 2 { phase := 2, seqNext := 65535 }) [(.fbCfg, 5, 0, 1)]).setFbp 5 { count := 77 }
theorem test_MotionCycle : (∀ i, i < 4 → (cycle.mrst i).accepted = false) ∧ (cycle.link 2).phase ≠ 0 ∧ (cycle.link 2).idleStart = none := by
  decide +kernel

/-- What a command finds at the axes in the model's cycle: before the input instant the state, after it what the engines have left. -/
def inputs (s : State) : State := State.afterInputs { s with outs := [] }
def late (s : State) : State := { s with time := { s.time with bLt := s.lt - us 18 - 1 } }
theorem test_Segments :
    (up.mayAccess 0 false = true ∧ up.domain (if (9 : Fin 64).val < 32 then 2 else 3) = true) ∧
    (∀ f ∈ [inputs, fun s => inputs (late s)],
    ((f (ax { mode := .off })).axis 9).mode.takes = false ∧
    (let s := f (ax { mode := .executing, referenced := true, queue := List.replicate 8 (plainSeg 1) })
     (s.axis 9).mode.takes = true ∧ 8 ≤ (s.axis 9).queue.length) ∧
    (let s := f (ax { mode := .holding })
     (s.axis 9).mode.takes = true ∧ (s.axis 9).referenced = false ∧ s.inRange 9 (s.staged 9).tgt = false ∧ (s.axis 9).queue.length < 8) ∧
    (let s := f (ax { mode := .holding, referenced := true })
     (s.axis 9).mode.takes = true ∧ (s.axis 9).queue.length < 8 ∧ (s.staged 9).tgt ≠ (s.axis 9).lastTarget ∧ s.rb .axisCfg 9 9 = false ∧ (s.axis 9).brkRelDue = none ∧
       (s.staged 9).tgt * 2 ^ 32 ≠ (s.axis 9).pos) ∧
    (let s := f (ax { mode := .holding, referenced := true } [(.axisCfg, 9, 0, 512)])
     s.rb .axisCfg 9 9 = true ∧ (s.axis 9).brakeRel = false ∧ (s.axis 9).queue.length < 8 ∧ (s.staged 9).tgt ≠ (s.axis 9).lastTarget) ∧
    ((f (ax { mode := .holding, referenced := true, brkRelDue := some 2000000000 })).axis 9).brkRelDue ≠ none ∧
    (let s := f (ax { mode := .holding, referenced := true, pos := 400 * 2 ^ 32 })
     (s.staged 9).tgt = (s.axis 9).lastTarget ∧ (s.axis 9).kin.sign = 0 ∧ (s.staged 9).tgt * 2 ^ 32 = (s.axis 9).pos)) := by decide +kernel

def limited : State := ax { mode := .executing, stallCur := some 5, stepLag := 300, limOpen := { latched := true, last := some 5 } }
def homing : State := ax { mode := .homing, home := { times := List.replicate 9 999999990 }, limOpen := { latched := true } } [(.axisHome, 9, 0, 0x32140005)]
theorem test_AxisFaults :
    (∀ f ∈ [inputs, fun s => inputs (late s)],
    (let u := f limited
     (u.axis 9).mode ≠ .off ∧ (u.axis 9).mode ≠ .emergency ∧ (u.axis 9).mode = .executing ∧ (u.axis 9).homes = false ∧ (u.axis 9).stallCur = some 5 ∧
       u.limitActive 9 true = true) ∧
    (let u := f homing
     (u.axis 9).mode = .homing ∧ u.limitActive 9 true = true ∧ u.limitCode 9 true ≠ u.homeCode 9) ∧
    ((f (ax { mode := .off, stallCur := some 5 })).axis 9).mode = .off ∧ ((f (ax { mode := .off, stallCur := some 5 })).axis 9).stallCur = some 5) ∧
    limited.rf .axisStepTim 9 23 16 < (limited.axis 9).stepLag ∧
    ((limited.portal (9 / 4)).st = .unused ∧ limited.lt < 5 + ms 100000 ∧ ((limited.axis 9).chatter 2).last = none) ∧
    (homing.rf .axisChatter 9 7 0 < homing.chatterCount 9 2 ∧ ((homing.axis 9).chatter 2).latched = false ∧ (homing.axis 9).homes = true) := by decide +kernel

def resting (e : EmgCause) (k : Nat) : State := ax { mode := .emergency, emg := e, emgTarget := 30, homeAttempt := k, brakeRel := true }
def homed : State := (ax { mode := .homing, homeSince := some 7, homeRef := 40 } [(.fbCfg, 9, 0, 1), (.axisCfg, 9, 0, 9), (.axisHome, 9, 0, 0x32140005)]).setFbp 9 { count := 55 }
def braking (b : Option BrakeTest) : State :=
  let s := ax { brkRelDue := some 70, brkAppDue := some 80, mode := .holding }; { s with ilk := { s.ilk with tests := Table.set none [] 9 b } }
theorem test_Rest :
    (∀ e ∈ [EmgCause.fault, .tripReopen, .tripStop, .homingRetry, .stop], ((resting e 1).axis 9).atRest = true) ∧ (resting .tripReopen 0).beyond 9 30 = false ∧
    (resting .tripReopen 0).beyond 9 0 = true ∧ ((resting .homingRetry 1).axis 9).homeAttempt ≤ 1 ∧ 1 < ((resting .homingRetry 2).axis 9).homeAttempt ∧
    ((homed.axis 9).mode = .homing ∧ homed.rf .axisCfg 9 4 3 = 1 ∧ (homed.axis 9).homeFound = false ∧ homed.input (homed.homeCode 9) false = true ∧
      homed.fbOf 9 = some 9 ∧ (homed.axis 9).homeSince = some 7) ∧
    (((braking none).axis 9).brkRelDue = some 70 ∧ ((braking none).axis 9).brkAppDue = some 80 ∧ Table.get none (braking none).ilk.tests 9 = none) ∧
    Table.get none (braking (some { x0 := 5 })).ilk.tests 9 = some { x0 := 5 } := by decide +kernel

def fb (mode : Nat) (f : FbPort) (l : List (RegId × Nat × Nat × Nat) := []) : State := wr (up.setFbp 9 f) ((.fbCfg, 9, 0, mode) :: l)
theorem test_Counts :
    (let s := fb 1 { count := 2 ^ 31 - 2 }
     s.fbMode 9 = 1 ∧ -(2 ^ 31) ≤ s.fbPos 9 + quadStep (s.fbp 9).quad (quadState true false) * s.fbSign 9 ∧
       s.fbPos 9 + quadStep (s.fbp 9).quad (quadState true false) * s.fbSign 9 < 2 ^ 31 ∧
       ((s.fbp 9).illTimes.filter (fun t => decide (s.lt < t + ms 10))).length < s.rf .fbFilter 9 23 16 ∧
       s.rf .fbFilter 9 3 0 = 2 ∧ (s.fbp 9).lineB = false) ∧
    ((fb 2 {}).fbMode 9 = 2 ∧ (fb 2 {}).rf .fbFilter 9 3 0 = 2 ∧ ((fb 2 {}).fbp 9).lineB = false) ∧
    (let s := fb 3 { ssiV := some 0x60 }
     let d := signedOf (s.rf .fbSsi 9 11 6) (wrapTo (s.rf .fbSsi 9 11 6) ((s.ssiValue 9 0x55 : Int) - (0x60 : Int))) * s.fbSign 9
     s.fbMode 9 = 3 ∧ s.rb .fbSsi 9 13 = false ∧ (s.fbp 9).ssiErr = 0 ∧ s.ssiJump 9 d = false ∧ -(2 ^ 31) ≤ s.fbPos 9 + d ∧ s.fbPos 9 + d < 2 ^ 31) ∧
    ((fb 3 {}).fbp 9).ssiV = none ∧ ((fb 1 { winStart := some 50 }).fbp 9).winStart = some 50 := by decide +kernel

theorem test_PortFaults :
    (let s := fb 1 { illTimes := List.replicate 4 1000000000 }
     (s.fbp 9).fault = false ∧ s.rf .fbFilter 9 23 16 ≤ ((s.fbp 9).illTimes.filter (fun t => decide (s.lt < t + ms 10))).length ∧ s.fbMode 9 ≠ 0 ∧
       s.rb .fbCfg 9 2 = false) ∧
    (let s := fb 2 { amplRun := 8 }
     s.fbMode 9 = 2 ∧ 8 ≤ (s.fbp 9).amplRun ∧ (s.fbp 9).fault = false) ∧
    (let s := fb 3 { ssiErr := 1, ssiV := some 5000 } [(.fbSsiJump, 9, 0, 3)]
     s.fbMode 9 = 3 ∧ (s.fbp 9).ssiErr ≠ 0 ∧ s.rb .fbSsi 9 13 = false ∧ (s.fbp 9).fault = false ∧
       s.ssiJump 9 (signedOf (s.rf .fbSsi 9 11 6) (wrapTo (s.rf .fbSsi 9 11 6) ((s.ssiValue 9 5 : Int) - (5000 : Int))) * s.fbSign 9) = true) := by
  decide +kernel

def fbUnlocked (f : FbPort) : State := { up with sys := { up.sys with lock := false } }.setFbp 9 f
theorem test_FeedbackRegisters : (fbUnlocked {}).domain (if (9 : Fin 64).val < 32 then 2 else 3) = true ∧ (fbUnlocked {}).mayAccess 0 false = true ∧
    (fbUnlocked {}).mayAccess 0 true = true ∧ (fbUnlocked {}).locked = false ∧ writeOk .fbCfg 9 0 1 = true ∧ fld 1 1 0 ≠ (fbUnlocked {}).fbMode 9 ∧
    ((fbUnlocked {}).fbp 9).cmpDir = 0 ∧ ((fbUnlocked { h := 500, cmpCfg := 0x281 }).fbp 9).cmpDir ≠ 0 ∧
    ((fbUnlocked { h := 500, cmpCfg := 0x281 }).fbp 9).ahead (sword 500) = false ∧ ((fbUnlocked { h := 500, cmpCfg := 0x281 }).fbp 9).ahead (sword 501) = true ∧
    fieldOf 0x281 2 2 = 0 ∧
    (((fbUnlocked { h := 500, cmpCfg := 0x285 }).fbp 9).cmpDir ≠ 0 ∧ ((fbUnlocked { h := 500, cmpCfg := 0x285 }).fbp 9).ahead (sword 500) = false ∧
      fieldOf 0x285 2 2 ≠ 0 ∧ ((fbUnlocked { h := 500, cmpCfg := 0x285 }).fbp 9).cmpSpacing = 0) ∧ writeOk .fbCmpCfg 9 0 0x280 = true ∧ fld 0x280 1 0 = 0 ∧ writeOk .fbCmpCfg 9 0 0x282 = true ∧ fld 0x282 1 0 ≠ 0 ∧
    writeOk .fbEvt 9 0 2 = true := by decide +kernel

def indexed (ref : Option Int) (on : Bool) (c : Nat) : State :=
  wr ((up.setFbp 9 { count := c, refIdx := ref, lineA := true, lineB := true }).setAxis 9 { referenced := on }) [(.fbCfg, 9, 0, 0x11), (.fbIdxPeriod, 9, 0, 4096)]
def deviation (s : State) (r : Int) : Int := s.fbPos 9 - nearestIndex r ((s.reg .fbIdxPeriod 9).toNat : Int) (s.fbPos 9)
def compared : State := up.setFbp 9 { crossed := true, cmpCfg := 0x281, cmpSpacing := 1000, cmpNext := 7600, h := 10250 }
/-- Whether the probe of port 9 drops a level, and whether its edge is one that it takes. -/
def dropped (s : State) (level : Bool) (held : Nat) : Bool := !s.rb .fbFilter 9 14 || decide (held < s.rf .fbFilter 9 11 4) || level == (s.fbp 9).prbLevel
def wanted (s : State) (level : Bool) : Bool := s.rf .fbFilter 9 13 12 != (if level then 1 else 0)
theorem test_IndexProbeCompare :
    ((indexed none false 5).rb .fbCfg 9 4 = true ∧ ((indexed none false 5).fbp 9).quad = (indexed none false 5).rf .fbIdx 9 9 8 ∧ (indexed none false 5).fbMode 9 = 1 ∧
      ((indexed none false 5).axis ((indexed none false 5).fedAxis 9)).referenced = false) ∧
    (((indexed none true 5).axis ((indexed none true 5).fedAxis 9)).referenced = true ∧ ((indexed none true 5).fbp 9).refIdx = none ∧
      ((indexed none true 5).fbp 9).psetAt ≠ some (indexed none true 5).lt) ∧
    ((up.setFbp 9 { psetAt := some up.lt }).fbp 9).psetAt = some up.lt ∧
    (((indexed (some 1203) true 9395).fbp 9).refIdx = some 1203 ∧ deviation (indexed (some 1203) true 9395) 1203 = 0) ∧
    (let s := indexed (some 1203) true 9396
     deviation s 1203 ≠ 0 ∧ (deviation s 1203).natAbs ≤ s.rf .fbIdx 9 7 0 ∧ -(2 ^ 31) ≤ s.fbPos 9 - deviation s 1203 ∧ s.fbPos 9 - deviation s 1203 < 2 ^ 31) ∧
    (let s := indexed (some 1203) true 13494
     s.rf .fbIdx 9 7 0 < (deviation s 1203).natAbs) ∧
    (let s := fb 1 {} [(.fbFilter, 9, 0, 0x46042)]
     dropped s true 3 = true ∧ dropped s false 4 = true ∧ dropped (fb 1 {}) true 4095 = true ∧ dropped s true 4 = false ∧ wanted s true = true ∧ s.fbMode 9 = 1 ∧
       (let s := fb 1 {} [(.fbFilter, 9, 0, 0x45042)]
        dropped s true 4 = false ∧ wanted s true = false) ∧
       (let s := fb 3 { prbValid := true, prbLevel := true } [(.fbFilter, 9, 0, 0x46042)]
        dropped s false 4 = false ∧ wanted s false = true ∧ s.fbMode 9 = 3)) ∧
    (let f := (up.setFbp 9 { crossed := true, cmpCfg := 0x281 }).fbp 9
     f.crossed = true ∧ f.cmpPulseEnd = none ∧ f.cmpSpacing = 0) ∧
    (let f := compared.fbp 9
     f.crossed = true ∧ f.cmpPulseEnd = none ∧ f.cmpSpacing ≠ 0 ∧ f.cmpDir = 1 ∧ f.cmpNext ≤ f.h ∧ f.h < 2 ^ 30 ∧ f.cmpSpacing < 2 ^ 30 ∧ -(2 ^ 31) ≤ f.cmpNext) ∧
    (let s := wr (up.setFbp 5 { h := 10000, divFree := 2000000000 }) [(.fbDivout, 5, 0, 0x10001)]
     s.rf .fbDivout 5 17 16 = 1 ∧ 255 + (if (s.fbp 5).divFree ≤ 2 * s.lt then (2 * s.lt - (s.fbp 5).divFree) / 25 + 1 else 0) < (s.divTarget 5 - (s.fbp 5).divState).natAbs) := by decide +kernel

def lk : State := wr (up.setAxis 17 { mode := .off }) [(.dlkCfg, 2, 0, 5), (.axisCfg, 17, 0, 1), (.axisCfg, 16, 0, 1), (.axisCfg, 18, 0, 1)]
def upl (seq st cur : Nat) : List Byte := let b := beBytes 2 st ++ beBytes 2 cur ++ [0, 0]; b ++ beBytes 2 (crc16 (leBytes 1 2 ++ beBytes 2 seq ++ b))
/-- A reply of link 2 with the SEQ 7, of which its second stage reports a fault. -/
def reply : List Byte := [2, 3] ++ beBytes 2 7 ++ upl 7 0 100 ++ upl 7 0x100 200 ++ upl 7 0 0xFFFF ++ List.replicate 40 0
def replying : State := lk.setLink 2 { phase := 2, sent := true, seqLast := 7, sentB := 1000000000 }
theorem test_DriveLinks :
    (lk.mayAccess 0 false = true ∧ lk.domain 5 = true ∧ lk.linkEn 2 = true ∧ (∀ n ∈ lk.linkAxes 2, (lk.axis n).mode = .off)) ∧
    (∃ n ∈ (lk.setAxis 17 { mode := .holding }).linkAxes 2, ((lk.setAxis 17 { mode := .holding }).axis n).mode ≠ .off) ∧
    ((lk.setLink 2 { idleStart := some 9 }).link 2).idleStart = some 9 ∧
    (let d := (lk.setLink 2 { phase := 1, loopStage := some 2, loopSent := 16 }).link 2
     d.loopStage = some 2 ∧ 16 ≤ d.loopSent) ∧
    ((List.replicate 16 5303).length = 16 ∧ dlyOf ((List.replicate 16 5303).foldl (· + ·) 0) = 255 ∧ 255 < dlyOf ((List.replicate 16 5400).foldl (· + ·) 0)) ∧
    ((replying.link 2).sent = true ∧ (replying.link 2).replied = false ∧ (replying.link 2).loopStage = none ∧ byteAt reply 1 = replying.stages 2 ∧
      (∀ k, k < replying.stages 2 → replying.slotOk 2 reply k = true) ∧ (replying.link 2).phase = 2 ∧ (replying.link 2).seenBad = 0 ∧
      1 < replying.stages 2 ∧ replying.stageAxis 2 1 = some 17) ∧
    Table.get 0 ((replying.setLink 2 { phase := 2, sent := true, failRun := [(1, 1)] }).link 2).failRun 1 ≠ 0 ∧
    (let d := (replying.setLink 2 { phase := 2, sent := true, seenBad := 1 }).link 2
     d.sent = true ∧ d.replied = false ∧ d.loopStage = none ∧ d.phase = 2 ∧ d.seenBad ≠ 0) := by decide +kernel

/-! ### Interlock, field channels and loads -/

def il (i : Interlock) : State := { up with ilk := i }
theorem params_up (i : Interlock) : crc32c (il i).ilkParams = 872525443 := by
  rw [← paramCrc0]; unfold State.ilkParams State.ilkWord State.reg; rfl
def switchOpen : State := (wr up [(.portalCfg, 3, 0, 1), (.portalInLck, 3, 0, 0x01FF0005)]).setPortal 3 { st := .locked }
theorem test_Interlock :
    (il {}).ilk.applied = [] ∧ (il { pcrcFault := true }).ilk.pcrcFault = true ∧
    ((il { applied := [(0, 1)], pcrcRef := 872525443 }).ilk.applied ≠ [] ∧
      crc32c (il { applied := [(0, 1)], pcrcRef := 872525443 }).ilkParams = (il { applied := [(0, 1)], pcrcRef := 872525443 }).ilk.pcrcRef) ∧
    (crc32c (il { applied := [(0, 1)], pcrcRef := 7 }).ilkParams ≠ (il { applied := [(0, 1)], pcrcRef := 7 }).ilk.pcrcRef ∧
      (il { applied := [(0, 1)], pcrcRef := 7 }).ilk.pcrcFault = false) ∧
    ((3 ∈ switchOpen.enabledPortals ∧ (switchOpen.portal 3).st = .locked ∧ switchOpen.lockedSwitches 3 0 = false) ∧
    Table.get none (il { xSince := [(1, some 5)] }).ilk.xSince 1 = some 5 ∧
    (let s := (wr up [(.ilkPairA, 39, 0, 0x80000201)]).setPair 39 { differ := true, diffAt := 990000000 }
     s.pairEn 39 = true ∧ (s.pair 39).differ = true ∧ (s.pair 39).disc = false) ∧
    (let s := up.setMon 19 { badSince := some 5 }
     (s.mon 19).badSince = some 5 ∧ (s.mon 19).fault = false)) :=
  ⟨rfl, rfl, ⟨by decide, params_up _⟩, ⟨by rw [params_up]; decide, rfl⟩, by decide +kernel⟩
theorem test_OffPulses :
    (let s := up.setSo 3 { cmd := true }
     (s.so 3).cmd = true ∧ (s.so 3).pulse = false ∧ 0 < s.rf .ilkSotest 0 25 16 ∧ (s.so 3).test = false ∧ s.driveEnable = true ∧ false ≠ (s.so 3).cmd) ∧
    (let s := up.setSo 3 { cmd := true, pulse := true, pulseEnd := 2000000000 }
     (s.so 3).pulse = true ∧ (s.so 3).test = false ∧ s.driveEnable = true) := by decide +kernel

def cleared : State := ((((il { xchk := true }).setSo 0 { test := true, readback := true, cmd := true }).setSo 1 { test := true, readback := false, cmd := true }).setPair 4
  { disc := true, tp := true, agreeSince := some 100 }).setMon 7 { fault := true, goodSince := some 5 }
def tested (b : Option BrakeTest) (x : Axis) : State :=
  let s := ((wr up [(.portalCfg, 2, 0, 1), (.axisCfg, 9, 0, 1), (.ilkBt, 9, 0, 0x00140001)]).setPortal 2 { st := .locked }).setAxis 9 x |>.setLink ((up.axisStage 9).1) { phase := 2 }
  { s with ilk := { s.ilk with tests := Table.set none [] 9 b } }
/-- A stored entry of index 63. -/
def logEntry : State := { il { logCnt := 64 } with mem := [(0x01F30000 + 48 * 63, 63), (0x01F30000 + 48 * 63 + 47, 0xA5)] }
theorem test_ClearAndBrakeTests :
    (cleared.mayAccess 0 false = true ∧ (cleared.so 0).test = true ∧ (cleared.pair 4).agreeSince = some 100 ∧ 100 + ms 100 ≤ cleared.lt ∧
      (cleared.mon 7).goodSince = some 5 ∧ 5 + ms (cleared.rf .ilkMonT 0 9 0) ≤ cleared.lt ∧ (cleared.mon 8).goodSince = none ∧ (cleared.pair 5).agreeSince = none) ∧
    ((il { logCnt := 63 }).ilk.logCnt ≤ (63 : Word).toNat ∧ (63 : Word).toNat < (il { logCnt := 64 }).ilk.logCnt ∧
      (64 : Word).toNat + 1024 < (il { logCnt := 1089 }).ilk.logCnt ∧ (64 : Word).toNat < (il { logCnt := 1088 }).ilk.logCnt ∧
      (il { logCnt := 1088 }).ilk.logCnt ≤ (64 : Word).toNat + 1024) ∧
    (let e := logEntry.memBytes (0x01F30000 + 48 * 63) 48
     e.all (· == 0) = false ∧ leAt e 0 4 = 63 ∧ (il {}).memBytes (0x01F30000 + 48 * 63) 48 = List.replicate 48 0) ∧
    ((tested none { brakeRel := true }).testReady 9 = true ∧ ((tested none { brakeRel := true }).axis 9).brakeRel = true ∧ (tested none {}).testReady 9 = true) ∧
    (∀ b ∈ [({ x0 := 0, start := 5 } : BrakeTest), { x0 := 0, reached := true }, { x0 := 0, reached := true, dir := 1 }],
      Table.get none (tested (some b) { mode := .brakeTest }).ilk.tests 9 = some b ∧ b.waiting = false) ∧
    ((tested none {}).rb .ilkBt 9 0 = true ∧ (tested none {}).ilk.btOverdue.testBit 9 = false ∧ (tested none {}).btDueAt 9 + (tested none {}).btInterval < 2 ^ 48) := by
  decide +kernel

def fl (l : FLink) : State := wr (up.setFlink 3 { l with sent := true, sentF := 5000000000, seq := 7 }) [(.fldFlt, 3, 5, 3)]
def fieldReplyOf (st : Nat) : List Byte := withCrc16 ([3, BitVec.ofNat 8 st] ++ beBytes 2 7 ++ beBytes 4 0x20 ++ List.replicate 14 0)
theorem test_FieldFrames : up.slotsInOrder = [] ∧ ((fl { phase := 1 }).flink 3).phase ≠ 0 ∧ ((fl { phase := 1 }).flink 3).sent = true ∧ ((fl { phase := 1 }).flink 4).phase = 0 ∧
    ((fl { phase := 1 }).flink 4).sent = false ∧ ((up.setFlink 3 { phase := 2, unacked := some 5 }).flink 3).unacked = some 5 ∧
    ((up.setFlink 3 { phase := 2 }).flink 3).unacked = none ∧ ((up.setFlink 3 { phase := 2 }).flink 3).sent = false ∧ up.time.snapF = none ∧
    (((fl { phase := 1 }).flink 3).sent = true ∧ (fl { phase := 1 }).replyOk 3 (fieldReplyOf 6) = true ∧ byteAt (fieldReplyOf 6) 1 % 4 = 2 ∧
      ((fl { phase := 1 }).flink 3).lost = false ∧ (byteAt (fieldReplyOf 6) 1).testBit 2 = true) ∧
    (((fl { phase := 3, lost := true, good := 3 }).flink 3).lost = true ∧ 3 ≤ ((fl { phase := 3, lost := true, good := 3 }).flink 3).good) ∧
    ((fl {}).replyOk 3 (fieldReplyOf 7) = true ∧ byteAt (fieldReplyOf 7) 1 % 4 = 3 ∧ (fl {}).replyOk 3 (fieldReplyOf 4) = true ∧ byteAt (fieldReplyOf 4) 1 % 4 = 0 ∧
      (fl { run := true }).replyOk 3 (fieldReplyOf 1) = true ∧ byteAt (fieldReplyOf 1) 1 % 4 = 1 ∧ (byteAt (fieldReplyOf 1) 1).testBit 2 = false ∧
      ((fl { run := true }).flink 3).run = true) ∧ (fl {}).ilk.tileLost.testBit 3 = false ∧
    (fl {}).replyOk 3 [] = false ∧ ((fl {}).flink 3).fails = 0 ∧ ((fl { fails := 1 }).flink 3).fails ≠ 0 ∧ up.mayAccess 0 false = true ∧
    (∀ k : Fin 8, up.domain (12 + k.val / 2) = true) := by decide +kernel

def tile (d : Die) : State := up.setDie 3 { d with powered := true }
def toTile (ctl out idx word : Nat) : List Byte := withCrc16 ([BitVec.ofNat 8 ctl, 3] ++ beBytes 2 1 ++ beBytes 4 out ++ [0, 0, 0, BitVec.ofNat 8 idx] ++ beBytes 4 word)
theorem test_Tiles :
    ((tile {}).die 3).powered = true ∧ dieAccepts ((tile {}).die 3) 3 [] = false ∧
    (dieAccepts ((tile {}).die 3) 3 (toTile 2 0 4 9) = true ∧ byteAt (toTile 2 0 4 9) 0 % 8 = 2) ∧
    (dieAccepts ((tile { phase := 3 }).die 3) 3 (toTile 9 5 4 0) = true ∧ byteAt (toTile 9 5 4 0) 0 % 8 = 1 ∧ ((tile { phase := 3 }).die 3).phase = 3) ∧
    (let d := (tile { phase := 1, stored := 2 ^ 48 - 1 }).die 3
     d.phase = 1 ∧ d.stored = 2 ^ wordCount 3 - 1 ∧ d.word (byteAt (toTile 9 5 4 0) 11) = beAt (toTile 9 5 4 0) 12 4 ∧
       d.word (byteAt (toTile 9 5 4 1) 11) ≠ beAt (toTile 9 5 4 1) 12 4 ∧ dieAccepts d 3 (toTile 9 5 4 0) = true ∧ dieAccepts d 3 (toTile 9 5 4 1) = true) ∧
    ((tile { waiting := [dieFrame 3 (toTile 9 5 4 1) 70] }).die 3).waiting = dieFrame 3 (toTile 9 5 4 1) 70 :: [] := by decide +kernel

def press (m : Mrst) : Mrst := (up.modMrst 2 (fun _ => m)).mrst 2
theorem test_Channels :
    (let d := (tile { words := [(5, 0x40)] }).die 3
     d.powered = true ∧ d.isOut 5 = false ∧ d.level.testBit 5 = false ∧ d.inWindow.testBit 5 = false ∧ d.dark.testBit 5 = false ∧ fieldOf (d.word 5) 7 6 ≠ 0 ∧
       d.wetQueue.any (fun e => e.1 == 5) = false ∧ (d.wetting.filter (fun e => e.1 != 5)).length < 8 ∧ fieldOf (((tile {}).die 3).word 5) 7 6 = 0) ∧
    (let d := (tile { words := [(5, 0x40)], wetting := (5, 9) :: List.replicate 8 (1, 0) }).die 3
     d.wetQueue.any (fun e => e.1 == 5) = false ∧ 8 ≤ (d.wetting.filter (fun e => e.1 != 5)).length) ∧
    (let d := (tile { words := [(5, 2 ^ 13)], wetting := [(5, 7)], wetQueue := [(9, 3), (4, 3), (8, 5)] }).die 3
     d.wetting = (5, 7) :: [] ∧ (4, 3) ∈ d.wetQueue ∧ (∀ e ∈ d.wetQueue, 3 < e.2 ∨ (3 = e.2 ∧ 4 < e.1) ∨ e = (4, 3)) ∧ d.isOut 5 = false ∧ (d.word 5).testBit 13 = true) ∧
    (let d := (tile { words := [(5, 2 ^ 12 + 1)] }).die 3
     d.isOut 5 = true ∧ (d.word 5).testBit 12 = true ∧ d.driven.testBit 5 = false) ∧
    ((tile { driven := 32 }).die 3).driven.testBit 5 = true ∧
    (let d := (tile { words := [(34, 1)] }).die 3
     d.powered = true ∧ (d.word (32 + 2)).testBit 0 = true ∧ d.tpOvl.testBit 2 = false) ∧
    (let d := (tile { phase := 2, words := [(34, 3), (5, 2 ^ 17 + 2 * 2 ^ 14)], windows := [(3, some (7, 32))], before := 32 }).die 3
     d.phase = 2 ∧ d.word (32 + 2) % 4 = 3 ∧ 5 ∈ d.testedBy 2 ∧ Table.get none d.windows 2 = none ∧ Table.get none d.windows 3 = some (7, 32) ∧
       (32 : Nat).testBit 5 = true ∧ d.before.testBit 5 = true) ∧
    ((press { active := true, released := true }).active = true ∧ (press { active := true, released := true }).released = true ∧
      (press { active := true, released := true }).press = none ∧ (press { press := some 5 }).press = some 5 ∧ (press { press := some 5 }).active = false) := by
  decide +kernel

def bank (l : List (Nat × Switch)) (k : Bank := {}) : State :=
  l.foldl (fun s e => s.setSw e.1 e.2) ((wr up [(.lswCfg, 9, 0, 0x01000000 + 3 * 32 + 2 * 2 + 2 ^ 11 * 10), (.lswCfg, 10, 0, 3 * 32 + 2 * 2)]).setBank 1 k |>.setDie 9 { powered := true, active := true, words := [(1, 0x01000000 + 3 * 32 + 2 * 2 + 2 ^ 11 * 10), (2, 3 * 32 + 2 * 2)] })
def two_ : State := bank [(9, { st := .inrush, left := 2, entered := 1 }), (10, { st := .inrush, left := 2, entered := 1, deferrals := 13 }), (11, { st := .on })]
theorem test_LoadSwitches :
    (let w := (bank [(9, { st := .on, left := 2, onDue := some 5 })]).sw 9
     w.onDue = some 5 ∧ w.st = .on ∧ 0 < w.left ∧ w.openLoad = false) ∧
    (let s := bank [(9, { st := .retryWait, left := 2, entered := 1000000000 })]
     (s.sw 9).st = .retryWait ∧ s.lt < (s.sw 9).entered + ms (fieldOf (Table.get 0 (s.die (8 + 9 / 8)).words (9 % 8)) 10 5) ∧
       (s.bank (9 / 8)).contExceeded = false ∧ (s.die (8 + 9 / 8)).active = true) ∧
    ((bank [] { contExceeded := true }).bank (9 / 8)).contExceeded = true ∧ (((bank []).setDie 9 {}).die (8 + 9 / 8)).active = false ∧
    (let w := (bank [(9, { st := .latchedOff, dieCmd := true })]).sw 9
     w.st = .latchedOff ∧ w.dieCmd = true) ∧
    (let w := (bank [(9, { st := .deferred, left := 2 })]).sw 9
     w.st = .deferred ∧ w.heldStart = none) ∧
    ((bank [(9, { st := .thermal, dieCmd := true, left := 2 })]).sw 9).dieCmd = true ∧ (Table.get 0 ((bank []).die (8 + 9 / 8)).words (9 % 8)).testBit 24 = true ∧
    ((bank []).mayAccess 0 false = true ∧ ∀ n : Fin 32, (bank []).domain (12 + n.val / 8) = true) ∧
    ((∀ k ∈ bankSwitches 1, (0 : Nat).testBit (k % 8) = true → (two_.sw k).st ≠ .on) ∧ two_.lastInrush 1 = some 10 ∧ (two_.sw 10).deferrals < 14) ∧
    (let s := bank [(10, { st := .inrush, left := 2, entered := 1, deferrals := 14 })]
     s.lastInrush 1 = some 10 ∧ 14 ≤ (s.sw 10).deferrals) ∧
    (let s := bank [(10, { st := .on }), (11, { st := .on, left := 1 })]
     s.lastInrush 1 = none ∧ s.shedChoice 1 = some 11 ∧ 11 ∈ bankSwitches 1 ∧
       (∀ k ∈ bankSwitches 1, ((8 : Nat).testBit (k % 8) = true ∧ (s.sw k).st = .on) ↔ k = 11) ∧ 0 < (s.sw 11).left) ∧
    (let s := bank [(10, { st := .shed }), (11, { st := .on, left := 1 })] { contExceeded := true }
     s.nextRestart 1 = some 10 ∧ (s.die (8 + 1)).active = true ∧ (s.bank 1).lastStart = 0 ∧ (s.bank 1).contExceeded = true ∧ s.shedChoice 1 = some 11) := by decide +kernel

/-! ### Train time and the switch -/

def ptp (ty flags seq dom : Nat) : List Byte := [BitVec.ofNat 8 ty, 2] ++ beBytes 2 44 ++ beBytes 1 dom ++ [0] ++ beBytes 2 flags ++ List.replicate 22 0 ++ beBytes 2 seq ++ [0, 0]
def ptpAt (t : Nat) : List Byte := beBytes 6 (t / 1000000000) ++ beBytes 4 (t % 1000000000)
def sync : List Byte := ptp 0 0 3 5 ++ ptpAt 4999999960
def farSync : List Byte := ptp 0 0 3 5 ++ ptpAt 4990000000
def announce : List Byte := ptp 11 4 3 5 ++ List.replicate 10 0 ++ [0, 37] ++ List.replicate 15 1 ++ [0, 2, 9]
/-- A device with main tracker in domain 5. -/
def tm (mode : Nat) (f : TimeUnit) : State :=
  let s := wr up [(.timeCfg, 0, 0, mode + 5 * 16 + 7 * 2 ^ 11 + 9 * 2 ^ 18), (.timeServo, 0, 0, 50 + 2 ^ 8 * 4 + 2 ^ 12 * 8 + 2 ^ 16 * 100), (.timePath, 0, 0, 30 + 2 ^ 16 * 5), (.timeJump, 0, 0, 3)]
  { s with time := { f with lt := up.time.lt, ttFp := up.time.ttFp } }
def heardOn (s : State) : State := s.modSyncPort 0 1 (fun p => { p with synced := true, lastSync := s.lt, pend := false })
def offsetOf (s : State) (b : List Byte) (sub : Nat) : Int := (s.tt + sub : Nat) - ptpStamp b 34 - ptpCorr b - ((s.ptpPort 1).mpd : Int) - s.asym 1
theorem test_TrainTime :
    (let s := tm 1 {}
     (1 : Fin 4).val ∈ s.syncPortList ∧ s.trackerOf (byteAt sync 4) = some 0 ∧ ptpType sync = 0 ∧ (byteAt sync 6).testBit 1 = false ∧
       (byteAt (ptp 0 512 3 5) 6).testBit 1 = true ∧ (heardOn s).followedPort 0 = some 1) ∧
    (let s := tm 1 { syncPorts := [(0, { synced := true, lastSync := 1000000000 })], ports := [(1, { settling := true })] }
     (heardOn s).followedPort 0 ≠ some 1) ∧
    (let s := tm 1 { trackers := [(0, { lockRun := 7 })] }
     0 = s.mainTracker ∧ (offsetOf s sync 2).natAbs ≤ s.lockThr ∧ s.lockThr ≤ s.jumpThr ∧ 7 ≤ (s.tracker 0).lockRun ∧
       ((s.tracker 0).quality = .free ∨ (s.tracker 0).quality = .acquiring)) ∧
    (let s := tm 1 { everLocked := true }
     s.timeMode ≠ 2 ∧ s.time.everLocked = true ∧ s.time.stepPending = none ∧ s.time.jumpPending = false ∧ s.jumpThr < (offsetOf s farSync 2).natAbs ∧
       (s.tracker 0).holdStart = none ∧ (heardOn s).followedPort 0 = some 1) ∧
    (let s := tm 1 { syncPorts := [(1, { pend := true, pendSeq := 3 })] }
     ptpType (ptp 8 0 3 5) = 8 ∧ (s.syncPort 0 1).pend = true ∧ (s.syncPort 0 1).pendSeq = beAt (ptp 8 0 3 5) 30 2 ∧ (heardOn s).followedPort 0 = some 1) ∧
    (let s := tm 1 { syncPorts := [(1, { announced := true, steps := 7 })] }
     ptpType announce = 11 ∧ (s.syncPort 0 1).announced = true ∧ (s.syncPort 0 1).steps ≠ beAt announce 61 2 ∧ ((tm 1 {}).syncPort 0 1).announced = false) ∧
    (ptpType (ptp 2 0 3 5) = 2 ∧ ptpType (ptp 2 0 3 5) ≠ 0 ∧ ptpType (ptp 2 0 3 5) ≠ 3 ∧ (1 : Fin 4).val ∈ (tm 1 {}).ptpPortList) ∧
    (let s := tm 1 { ports := [(1, { waiting := true, reqSeq := 3, reqT1 := 4999999900, delays := [500], diffs := 1 })] }
     ptpType (ptp 3 0 3 5) = 3 ∧ (byteAt (ptp 3 0 3 5) 6).testBit 1 = false ∧ (s.ptpPort 1).waiting = true ∧ beAt (ptp 3 0 3 5) 30 2 = (s.ptpPort 1).reqSeq ∧
       (s.ptpPort 1).delays ≠ [] ∧ 1 ≤ (s.ptpPort 1).diffs ∧
       s.rf .timePath 0 9 0 < (divTrunc ((s.tt + 1 : Nat) - (s.ptpPort 1).reqT1 - ptpCorr (ptp 3 0 3 5)) 2 - ((s.ptpPort 1).mpd : Int)).natAbs) ∧
    ((tm 1 { ports := [(1, { settling := true })] }).ptpPort 1).settling = true ∧ (tm 1 {}).topoEntry = none ∧
    (wr (tm 1 {}) [(.timeTopoN, 0, 0, 3)]).topoEntry.isSome = true ∧ (tm 3 {}).timeMode = 3 ∧
    ((tm 1 { trackers := [(0, { holdStart := some 3 })] }).tracker (0 : Fin 2)).holdStart = some 3 ∧
    (let s := tm 1 { jumpPending := true, stepPending := some 30 }
     s.time.jumpPending = true ∧ s.rf .timeCfg 0 29 28 = 0 ∧ s.time.stepPending = some 30 ∧ s.stepBlocked = false ∧ s.mayAccess 0 false = true ∧ s.mayAccess 0 true = true) ∧
    (tm 1 { stepPending := some 30 }).mayAccess 0 false = true ∧ (tm 1 { trackers := [(0, { quality := .locked })] }).quality = .locked := by decide +kernel
theorem test_StepBlocked : ((tm 1 { stepPending := some 30 }).setAxis 12 { mode := .emergency }).stepBlocked = true := by decide +kernel

def sw (f : Network → Network) : State :=
  let s := wr up [(.netCfg, 0, 0, 1), (.netPCfg, 0, 0, 1), (.netPCfg, 1, 0, 1), (.netPCfg, 2, 0, 0x21), (.netPCfg, 4, 0, 1), (.netVlan, 3, 0, 5 + 2 ^ 12 * 31), (.netBuf, 0, 0, 0x07101010),
    (.netPcpMap, 0, 0, 0), (.netSfDaHi, 1, 2, 2 ^ 31 + 2 ^ 16 * 5 + 0x0200), (.netSfDaLo, 1, 2, 1), (.netSfSdu, 1, 2, 100), (.netSfMeter, 1, 2, 2 ^ 16 * 300)]
  { s with net := f s.net }
def swp (l : List (Nat × NetPort)) : State := sw (fun n => { n with ports := l })
def linked : State := swp [(0, { link := 2 }), (1, { link := 2 }), (2, { link := 1 })]
def tagged (da vid len : Nat) : List Byte := beBytes 6 da ++ beBytes 6 0x020000000002 ++ [0x81, 0] ++ beBytes 2 (2 * 8192 + vid) ++ beBytes 2 0x800 ++ List.replicate len 7
def learned : State := { linked with net := { linked.net with macs := [⟨5, 0x020000000001, 2, 0⟩, ⟨5, 0x020000000003, 2, 0⟩] } }
theorem dests_of {s : State} {vid da i : Nat} (h : da ≠ ownMac) : s.dests vid da i =
    (if groupAddr da then [0, 1, 2, 3, 4] else match s.net.macs.find? (fun e => e.vid == vid && e.mac == da) with
      | some e => reach e.port
      | none => [0, 1, 2, 3, 4]).filter (fun p => p != i && s.portUp p && s.vlanMember vid p &&
        (s.localBridge || !((decide (i < 2) && (p == 2 || p == 3)) || ((i == 2 || i == 3) && decide (p < 2)))) && !(s.hsrOn && decide (i < 2) && decide (p < 2))) := by
  unfold State.dests; rw [if_neg h] <;> rfl
/-- Whatever the device's own address, one of two stations is not it, and a frame to that one leaves at N2. -/
theorem test_SwitchOwnFrame : ∃ da, let b := tagged da 5 90
    let p := parseFrame b
    let s0 := (learned.count 172).learn_ 5 p.sa 4
    learned.portUp 4 = true ∧ learned.hsrOn = false ∧ p.tci = some (2 * 8192 + 5) ∧ p.hsr = none ∧ beAt p.body 0 2 = 0x800 ∧ 64 ≤ b.length + 4 ∧ b.length + 4 ≤ 1528 ∧
    s0.dests 5 p.da 4 = [2] ∧ ∃ c, (s0.admitFrame (frameOf p 5 2 (b.length + 4) 4 3 learned.lt) 2).2 = some c := by
  have some_of : ∀ {o : Option (Nat × Nat × Nat)}, o.isSome = true → ∃ c, o = some c := fun h => Option.isSome_iff_exists.1 h
  by_cases h : ownMac = 0x020000000001
  · refine ⟨0x020000000003, by decide +kernel, by decide +kernel, by decide +kernel, by decide +kernel, by decide +kernel, by decide +kernel, by decide +kernel, ?_,
      some_of (by decide +kernel)⟩
    have e : (parseFrame (tagged 0x020000000003 5 90)).da = 0x020000000003 := by decide +kernel
    rw [e, dests_of (by omega)]; decide +kernel
  · refine ⟨0x020000000001, by decide +kernel, by decide +kernel, by decide +kernel, by decide +kernel, by decide +kernel, by decide +kernel, by decide +kernel, ?_,
      some_of (by decide +kernel)⟩
    have e : (parseFrame (tagged 0x020000000001 5 90)).da = 0x020000000001 := by decide +kernel
    rw [e, dests_of (by omega)]; decide +kernel
def F0 : NetFrame := { id := 9, da := 1, sa := 2, vid := 5, pcp := 2, hsr := none, body := List.replicate 60 7, len := 82, ingress := 4, cls := 0, ports := [2],
                       charges := [(2, 1, 0)], rxAt := 0 }
def queued : State := sw (fun n => { n with frames := [F0], ports := [(2, { link := 1, queues := [(0, [9])] })] })
def gated : State := wr (swp [(2, { gateEntry := 0, gateStart := 5000000000 }), (1, { gateEntry := 1, gateStart := 5000000000 })])
  [(.netPGclCfg, 2, 0, 1 + 2 * 2 + 2 ^ 8 * 1000), (.netPGclCfg, 1, 0, 1 + 2 * 2 + 2 ^ 8 * 1000)]
theorem test_Switch :
    (linked.portUp 1 = true ∧ (tagged 0x020000000001 5 41).length + 4 = 63 ∧ (tagged 0x020000000001 5 1507).length + 4 = 1529 ∧
      linked.vlanMember 6 1 = false ∧ linked.vlanMember 5 1 = true ∧ linked.classOf 2 0x800 = 0 ∧ linked.filterOf 1 0x020000000001 5 = some 2) ∧
    (fld (linked.reg .netSfSdu 1 2) 10 0 < (tagged 0x020000000001 5 79).length + 4 ∧ (tagged 0x020000000001 5 78).length + 4 ≤ fld (linked.reg .netSfSdu 1 2) 10 0 ∧
      linked.spentNow 1 2 + 200000 * 100 ≤ 200000 * fld (linked.reg .netSfMeter 1 2) 31 16) ∧
    (F0.cls = 0 ∧ linked.reserveUsed + cellsOf F0.len ≤ 1024 ∧ linked.aHeld 2 < linked.aDepth 2) ∧
    (queued.portUp 2 = true ∧ (queued.port 2).sending = none ∧ [0, 1, 2, 3].find? ((queued.syncCredit 2).mayStart 2) = some 0 ∧ queued.netQueue 2 0 = [9] ∧
      queued.frame? 9 = some F0) ∧
    (let s := wr queued [(.netPGclCfg, 2, 0, 1 + 2 * 2 + 2 ^ 8 * 1000), (.netPGcl, 2, 0, 1 + 2 ^ 8 * 100), (.netPGcl, 2, 1, 2 ^ 8 * 100)]
     s.rb .netPGclCfg 2 0 = true ∧ s.everFits 2 1 (s.txTicks 2 1522) = false) ∧
    ((swp [(2, { link := 1, sending := some ⟨9, 0, 82, 2000000000⟩ })]).port 2).sending = some ⟨9, 0, 82, 2000000000⟩ ∧
    (gated.rb .netPGclCfg 2 0 = true ∧ gated.tt / gated.gclCycle 2 * gated.gclCycle 2 ≤ (gated.port 2).gateStart ∧ (gated.port 2).gateStart ≤ gated.tt ∧
      (gated.port 2).gateEntry + 1 < gated.gclLen 2 ∧ gated.gclLen 1 ≤ (gated.port 1).gateEntry + 1) ∧
    (linked.rb .netPCfg 2 5 = true ∧ (linked.port 2).sending = none ∧ linked.rb .netPCfg 1 5 = false) ∧
    ((swp [(2, { pausedUntil := some 7 })]).port 2).pausedUntil = some 7 ∧ ((swp [(2, { xoff := true })]).port 2).xoff = true ∧
    (linked.rb .netCfg 0 0 = true ∧ linked.rb .netPCfg 0 0 = true ∧ linked.rf .netPCfg 0 2 1 = 0 ∧ (linked.port 0).link ≠ 0) ∧
    ((wr linked [(.netCfg, 0, 0, 3)]).hsrOn = true ∧ (wr linked [(.netCfg, 0, 0, 3)]).portUp 0 = true ∧ Table.get none (wr linked [(.netCfg, 0, 0, 3)]).net.supSent 0 = none) ∧
    Table.get none (sw (fun n => { n with supSent := [(0, some 3)] })).net.supSent (0 : Fin 2) = some 3 ∧
    (sw (fun n => { n with macs := [⟨1, 2, 3, 4⟩] })).net.macs = ⟨1, 2, 3, 4⟩ :: [] ∧ (sw (fun n => { n with proxies := [⟨1, 2⟩] })).net.proxies = ⟨1, 2⟩ :: [] ∧
    (sw (fun n => { n with dups := [⟨1, 2, 3⟩] })).net.dups = ⟨1, 2, 3⟩ :: [] := by decide +kernel

/-! ### Train network, streams and connections -/

def tr (f : Trdp → Trdp) : State :=
  let s := wr up [(.trdpIp, 0, 0, 0x0A000001), (.trdpVehIp, 0, 0, 0x0A000009), (.trdpCfg, 0, 0, 3 + 2 ^ 8 * 2), (.trdpComidBase, 0, 0, 1000), (.trdpStream, 0, 0, 20 + 2 ^ 8 * 3 + 2 ^ 16 * 500)]
  { s with trdp := f s.trdp }
def tn : State := tr id
def tg (com ty : Nat) (d : List Byte) (src : Nat := 0x0A000005) : Telegram :=
  { src := src, dst := 0x0A000001, comId := 1000 + com, type := ty, etb := 0, op := 0, dsLen := d.length, data := d, fcsOk := true }
def long : Telegram := { tg 30 0x4D6E [1] with dsLen := 5 }
def directory : State :=
  let s := tr (fun t => { t with partners := [(3, { ip := 0x0A800007, dynamic := true })], partnerFull := true })
  wr { s with conns := [(2, { st := .open_, ip := 0x0A800007 })] } [(.stlCfg, 2, 0, 1 + 2 ^ 6)]
def lonely : State := tr (fun t => { t with partners := [(3, { ip := 0x0A800007, dynamic := true })] })
def onlySlots : State := tr (fun t => { t with partners := [(3, { ip := 0x0A000005, dynamic := true })] })
theorem test_TrainNetwork :
    (tn.netStarted = true ∧ tn.holdsIp 0x0A000001 = true ∧ tn.holdsIp 7 = false ∧ 0x0A000001 = tn.ownIp ∧ tn.standby = false ∧ tn.trdpOn = true ∧ (tw 1 {}).standby = true) ∧
    (tn.trdpRx (tg 30 0x4D6E [1])).2.isSome = true ∧
    (tn.holdsIp long.dst = true ∧ long.fcsOk = true ∧ long.data.length < long.dsLen) ∧ (tr (fun t => { t with garpLeft := 2 })).trdp.garpLeft ≠ 0 ∧
    (directory.readsDirectory = true ∧ 2 ∈ directory.enabledConns ∧ trainIp (directory.connIp 2) = true ∧ directory.partnerDynamic 3 = true ∧
      trainIp (directory.partnerIp 3) = true ∧ directory.trdp.dirValid = false) ∧
    (tr (fun t => { t with request := some 3 })).trdp.request = some 3 ∧
    (lonely.partnerDynamic 3 = true ∧ lonely.partnerIp 3 ≠ 0 ∧ lonely.connsOf (lonely.partnerIp 3) = [] ∧ lonely.trdp.streams = [] ∧ lonely.slotsInOrder = []) := by
  decide +kernel

def sm (num kind seq ack : Nat) (p : List Byte) : Telegram := tg 30 0x4D6E (streamMsg num kind 0 seq ack 0 p)
def str (l : List Stream) : State := tr (fun t => { t with streams := l, partners := [(3, { ip := 0x0A000005, dynamic := true })] })
def inb : Stream := { ip := 0x0A000005, num := 9, inbound := true, delivered := 4 }
def outb : Stream := { ip := 0x0A000005, num := 9, inbound := false, upKind := 2, upNext := 3, upEnd := 4, nextSeq := 7, unacked := [⟨5, [1], 0, 2⟩] }
theorem test_Streams :
    (((str []).streamRx (sm 9 1 0 0 []) 1).2.isSome = true ∧ ((str []).partnerOf 0x0A000005).isSome = true ∧ (str []).stream? 0x0A000005 9 true = none ∧
      (str []).trdp.streams.length < 32) ∧
    (let s := str (List.replicate 32 { inb with num := 8 })
     (s.streamRx (sm 9 1 0 0 []) 1).2.isSome = true ∧ s.stream? 0x0A000005 9 true = none ∧ 32 ≤ s.trdp.streams.length) ∧
    (let s := str [inb]
     (∀ q ∈ [4, 5, 7], ((s.streamRx (sm 9 2 q 0 [7]) 2).2.map (fun d => beAt d 4 4)) = some q) ∧ s.stream? 0x0A000005 9 true = some inb ∧
       (s.streamRx (sm 9 4 0 0 []) 4).2.isSome = true ∧ 4 ≤ inb.delivered ∧ 5 = inb.delivered + 1 ∧ inb.delivered + 1 < 7 ∧ inb.early.length < 64) ∧
    (let e := (List.range 64).map (fun k => (8 + k, 0, ([] : List Byte)))
     (str [{ inb with early := e }]).stream? 0x0A000005 9 true = some { inb with early := e } ∧ (∀ x ∈ e, x.1 ≠ 7 ∧ x.1 ≠ inb.delivered + 1) ∧ 64 ≤ e.length) ∧
    (let s := str [outb]
     (s.streamRx (sm 9 3 0 5 []) 3).2.isSome = true ∧ s.stream? 0x0A000005 9 false = some outb ∧ outb.upNext ≤ outb.upEnd ∧
       s.trdp.streams[(0 : Fin 32).val]? = some outb ∧ outb.upKind ≠ 0 ∧ outb.unacked.length < 256 ∧ outb.nextSeq ≠ 0xFFFFFFFF ∧ (s.uploadNext outb).1 ≠ [] ∧
       s.rf .trdpStream 0 15 8 = 3) ∧
    ((str [{ inb with ackSince := some 3, early := [(6, 5, [])] }]).stream? 0x0A000005 9 true = some { inb with ackSince := some 3, early := [(6, 5, [])] }) := by
  decide +kernel

def cn (q : Conn) (slave : Bool := true) : State :=
  let s := wr onlySlots [(.stlCfg, 2, 0, 1 + 2 ^ 6 + (if slave then 2 else 0) + 2 ^ 16 * 77), (.stlSrc, 2, 0, 11), (.stlDst, 2, 0, 12),
    (.stlTim, 2, 0, 100 + 2 ^ 10 * 300 + 2 ^ 24 * 16), (.stlAge, 2, 0, 5000)]
  { s with conns := [(2, { q with ip := 0x0A000005, sentAt := [(0, 1000000000)] })]
           sc := { s.sc with keys := [(0, { present := true, key := List.replicate 32 5 })] } }
def sn : StlSession := { num := 5, key := List.replicate 32 9, seqTx := 3, seqRx := 6 }
def opened : State := cn { st := .open_, cur := sn }
/-- A message of the partner. -/
def msg (ty sess seq : Nat) (pay key : List Byte) : List Byte := (wr opened [(.stlSrc, 2, 0, 12), (.stlDst, 2, 0, 11)]).stlBuild 2 ty sess seq 0 pay key
def nonce (b : Byte) : List Byte := List.replicate 16 b
def takes (s : State) (com ct ty : Nat) (b : List Byte) : Bool := (s.stlCheck (tg com ct b) ty).2.any (fun r => decide (r.1 = 2))
def rekeying : State := cn { st := .rekeying, cur := sn, initiator := true, nonceI := nonce 3 }
def opening : State := cn { st := .opening, nonceI := nonce 3 } false
theorem test_Connections :
    (takes (cn {}) 10 0x5064 1 (msg 1 0 1 (nonce 3) (List.replicate 32 5)) = true ∧ (cn {}).sc.rngFail = false ∧ ((cn {}).connKey 2).isSome = true) ∧
    takes opening 10 0x5064 2 (msg 2 0 1 (nonce 1 ++ nonce 3) (List.replicate 32 5)) = true ∧
    (takes opened 10 0x5064 4 (msg 4 5 7 (nonce 3) sn.key) = true ∧ (opened.conn 2).initiator = false) ∧
    (takes rekeying 10 0x5064 5 (msg 5 5 7 (nonce 1 ++ nonce 3) sn.key) = true ∧ (rekeying.conn 2).initiator = true ∧
      (nonce 1 ++ nonce 3).drop 16 = (rekeying.conn 2).nonceI) ∧
    takes opened 11 0x4D6E 6 (msg 6 5 7 [] sn.key) = true ∧
    (takes opened 10 0x5064 3 (msg 3 5 7 (stlRecord 3 [1, 2]) sn.key) = true ∧ (match stlRecords 257 (stlRecord 3 [1, 2]) with
      | .ok l => decide (∀ e ∈ l, e.1 ≠ 1)
      | .error _ => false) = true) ∧
    (takes opened 10 0x5064 3 (msg 3 5 7 (stlRecord 1 c_retire) sn.key) = true ∧ (match stlRecords 257 (stlRecord 1 c_retire) with
      | .ok l => decide (l = [(1, c_retire)])
      | .error _ => false) = true) ∧
    (opened.trdpOn = true ∧ opened.connEn 2 = true ∧ opened.standby = false ∧ (opened.conn 2).st = .open_ ∧ (opened.conn 2).cur.seqTx + 1 < 0xFFFFFFF0 ∧
      (opened.conn 2).pendAck = false ∧ opened.sys.twinRole = 0) ∧
    (let q := (cn { st := .open_, cur := { sn with seqTx := 0xFFFFFFFE } }).conn 2
     q.st = .open_ ∧ 0xFFFFFFFF ≤ q.cur.seqTx + 1) ∧
    (let q := (cn { st := .open_, cur := { sn with seqTx := 0xFFFFFFEF } }).conn 2
     q.st = .open_ ∧ 0xFFFFFFF0 ≤ q.cur.seqTx + 1 ∧ q.cur.seqTx + 1 < 0xFFFFFFFF ∧ q.pendAck = false) ∧
    ((opening.conn 2).st = .opening ∧ (cn {} false).rb .stlCfg 2 1 = false ∧ ((cn {} false).conn 2).st = .closed ∧ ((cn {} false).conn 2).cmdClosed = false) ∧
    (((cn { st := .failed }).conn 2).st = .failed ∧ (cn { st := .failed }).rb .stlCfg 2 1 = true ∧ opened.mayAccess 0 false = true ∧ opened.domain 6 = true) := by
  decide +kernel

/-! ### Twin -/

/-- A heartbeat of the mate in control. -/
def beat (fl seq : Nat) : List Byte := let b := ((act {}).heartbeat seq).set 1 (BitVec.ofNat 8 fl); b.take 32 ++ beBytes 4 (crc32c (b.take 32))
def netBeat (seq : Nat) : Telegram :=
  let b := beat 1 seq
  let d := b ++ tag16 [1, 2, 3] b
  { src := 0x0A000002, dst := 0x0A000001, etb := 0, op := 0, type := (offsetType 3).getD 0, comId := (up.comId 0) + 3, dsLen := d.length, fcsOk := true, data := d }
def mateKey (s : State) : State := { s with sc := { s.sc with keys := [(0, { present := true, key := [1, 2, 3] })] } }
def item (k : Nat) (b : List Byte) : List Byte := beBytes 1 k ++ beBytes 1 0 ++ beBytes 2 b.length ++ b
theorem test_Heartbeats :
    ((act {}).inTwin = true ∧ (act {}).trdpOn = true ∧ (mateKey (act {})).beatKey.isSome = true ∧ (act {}).twin.held = []) ∧
    (let b := beat 1 3
     b.length = 36 ∧ byteAt b 0 = 1 ∧ beAt b 32 4 = crc32c (b.take 32)) ∧ ([] : List Byte).length ≠ 36 ∧
    (let s := mateKey (tw 1 {})
     ((s.trdpRx (netBeat 7)).2 = some (3, beat 1 7 ++ tag16 [1, 2, 3] (beat 1 7))) ∧ s.inTwin = true ∧ (netBeat 7).src = s.mateIp ∧ s.beatKey = some [1, 2, 3] ∧
       s.twin.netRx = none ∧ beAt (beat 1 7) 2 2 = 7) ∧
    ((mateKey (tw 1 { netRx := some 7 })).twin.netRx = some 7 ∧ (7 + 65536 - 7) % 65536 = 0) ∧
    ((act { kzUp := true }).twin.kzUp = true ∧ (act { netUp := true, net := some 5 }).twin.net = some 5 ∧ (act { netUp := true, net := some 5 }).twin.netUp = true) ∧
    (mirrorParse (mirrorFrameBytes 1 (item 3 (beBytes 1 4 ++ beBytes 8 77))) = some (1, [(3, beBytes 1 4 ++ beBytes 8 77)]) ∧ (tw 1 {}).inTwin = true ∧
      (tw 1 {}).standby = true ∧ 1 = ((tw 1 {}).twin.applied + 1) % 2 ^ 32) ∧
    ((mirrorParse (mirrorFrameBytes 2 (item 9 (beBytes 1 15 ++ beBytes 5 77)))).map Prod.fst = some 2 ∧ 2 ≠ ((tw 1 {}).twin.applied + 1) % 2 ^ 32) ∧
    mirrorParse [1] = none ∧
    (let s := act { unacked := [⟨5, [], 0⟩], held := [(5, .stl 10 9 [1])], confirmed := 4 }
     s.inTwin = true ∧ s.twin.unacked = [⟨5, [], 0⟩] ∧ newer 5 s.twin.confirmed = true ∧ s.twin.held = [(5, .stl 10 9 [1])]) ∧
    (act { unacked := [⟨5, [], 0⟩] }).twin.fallback = false ∧
    ((tw 1 { syncStart := some 0, silent := false }).twin.syncStart.isSome = true ∧ (tw 1 { syncStart := some 0, silent := false }).twin.silent = false) := by
  decide +kernel

def faulted : State := let s := act { kz0 := some 1000000000, beat := some (mb 4 0) }; { s with ilk := { s.ilk with pcrcFault := true } }
theorem test_Ownership :
    ((tw 1 { lineLow := true }).twin.driving = false ∧ (tw 1 { lineLow := true }).twin.lineLow = true ∧ (tw 1 { lineLow := true }).twin.highSince = none) ∧
    ((tw 1 { highSince := some 5, silent := true }).claimReady = true ∧ (tw 1 {}).claimReady = false) ∧
    (let s := tw 2 { highSince := some 2000000000, silent := true, beat := some (mb 1 2000000000), beatSynced := true }
     s.claimReady = true ∧ s.syncTakeover 2000000000 = true) ∧
    (let s := tw 2 { highSince := some 2000000000, silent := true, beat := some (mb 1 2000000000) }
     s.claimReady = true ∧ s.twin.beat = some (mb 1 2000000000) ∧ s.syncTakeover 2000000000 = false) ∧
    (faulted.inTwin = true ∧ faulted.holder = true ∧ faulted.twin.releasing = none ∧ faulted.mateEligible = true ∧ faulted.faultCause = some 3 ∧
      faulted.laneUp faulted.twin.kz0 = true ∧ faulted.ilk.pcrcFault = true) ∧
    ((up.setSo 3 { test := true }).ilk.pcrcFault = false ∧ ((up.setSo 3 { test := true }).so 3).test = true) ∧
    (act { releasing := some (3, 5) }).twin.releasing = some (3, 5) ∧ (act {}).twin.driving = true ∧
    (tw 1 { relSince := some 5 }).twin.relSince = some 5 ∧ (tw 1 { relSince := some 5 }).twin.mateLow = false ∧ (tw 1 { relSince := some 5 }).twin.driving = false ∧
    ((mb 1 6).holder = true ∧ (mb 1 6).releasing = false ∧ (tw 1 { highSince := some 5, silent := false, beat := some (mb 1 6) }).twin.silent = false ∧ 5 < (mb 1 6).at_ ∧
      (mb 1 6).at_ ≤ 6) := by decide +kernel
theorem test_OwnershipRequests :
    (let s := tw 1 { synced := true, revertSince := some 5 }
     s.sys.twinRole = 1 ∧ s.standby = true ∧ s.rb .twinCfg 0 1 = true ∧ s.eligible = true ∧ s.twin.synced = true ∧ s.twin.suppress = false ∧ s.twin.revertSince = some 5) ∧
    (let s := act { beat := some (mb 4 0), transfer := some 3 }
     s.inTwin = true ∧ s.holder = true ∧ s.twin.releasing = none ∧ s.mateEligible = true ∧ s.wantsRelease = some 1 ∧ s.faultCause = none ∧
       (∀ n < 64, (s.axis n).mode = .off ∨ (s.axis n).mode = .holding) ∧ (∀ n < 64, Table.get none s.ilk.tests n = none) ∧ (∀ i < 64, (s.slot i).state ≠ 1) ∧
       s.mayAccess 0 false = true ∧ s.domain 10 = true ∧ s.sys.twinRole ≠ 0 ∧ s.twin.transfer = some 3) ∧
    (let s := (act { beat := some (mb 4 0), transfer := some 3 }).setAxis 3 { mode := .executing }
     ∃ n < 64, (s.axis n).mode ≠ .off ∧ (s.axis n).mode ≠ .holding) ∧
    (act { beat := some (mb 0 0) }).mateEligible = false ∧ ((tw 2 { silent := false }).inTwin = true ∧ (tw 2 { silent := false }).standby = true) := by decide +kernel
theorem test_Transfer : keyed.Accepts 0x0601 none c_transfer (keyed.offered none c_transfer) := accepts_of (by decide +kernel) (by decide +kernel)

/-! ### Event recorder and counters -/

def rc (r : Recorder) : State := { up with rcd := { r with started := true } }
def ev (c : Nat) : EventRec := { code := c, tt := 5, tq := 1, mate := false, body := padTo 14 [1, 2] }
def n6 : NumRec := ⟨7, ev 0x6001⟩
def n7 : NumRec := ⟨7, ev 0x7001⟩
def suppressing : State := wr (rc { repeats := [⟨0x6001, padTo 14 [3, 0, 7], 999999999, 0, 0, 0⟩] }) [(.recCfg, 0, 0, 0x70A07)]
def mateEvents : List Byte := mirrorFrameBytes 1 (item 11 (beBytes 2 0x6001 ++ beBytes 4 0 ++ [1, 2]))
theorem test_Recorder :
    (isEvent 0x6001 = true ∧ 0x6001 ≠ 0xE001 ∧ neverSuppressed 0x7001 = true ∧ (rc { intake := List.replicate 1022 (ev 1) }).rcd.intake.length = 1022 ∧
      (rc { intake := List.replicate 1023 (ev 1) }).rcd.intake.length = 1023) ∧
    (rc { intake := [ev 1] ++ [ev 0xE001], gapOpen := true }).rcd.gapOpen = true ∧
    (suppressing.rb .recCfg 0 2 = true ∧ neverSuppressed 0x6001 = false ∧ (trackOf suppressing.rcd 0x6001).isSome = true ∧
      suppressing.lt < 999999999 + ms (10 * suppressing.rf .recCfg 0 15 8)) ∧
    (let s := rc { intake := [ev 0x6001] }
     s.rcd.intake = ev 0x6001 :: [] ∧ s.standby = false ∧ s.mayAllocate = true ∧ s.folioTrigger (ev 0x6001) = false ∧ s.rcd.holdPending = false ∧
       s.rcd.hold = false ∧ s.rcd.draining = false ∧ s.rcd.degraded = false) ∧
    (let s := rc { intake := [ev 0x6001], draining := true }
     s.rcd.intake = ev 0x6001 :: [] ∧ s.mayAllocate = true ∧ s.rcd.holdPending = false ∧ s.rcd.hold = false ∧ s.rcd.draining = true) ∧
    (let s := rc { intake := [ev 0x6001], hold := true, episode := some ⟨2, 5, 1⟩ }
     s.mayAllocate = true ∧ s.rcd.holdPending = false ∧ s.rcd.hold = true ∧ s.rcd.episode = some ⟨2, 5, 1⟩) ∧
    (let s := rc { intake := [ev 0x6001], hold := true, holdQ := List.replicate 4095 n6 }
     s.rcd.hold = true ∧ s.rcd.episode = none ∧ s.rcd.holdLimit = false) ∧
    (let s := { act { beat := some (mb 4 5) } with rcd := { nextAcc := 65 } }
     s.mirrors = true ∧ s.twin.accConfirmed + 64 < s.rcd.nextAcc) ∧ (tw 1 {}).standby = true ∧
    (let r := (rc { repeats := [⟨0x6001, [], 0, 2 ^ 32 - 1, 0, 7⟩] }).rcd
     r.repeats.find? (fun u => u.count != 0) = some ⟨0x6001, [], 0, 2 ^ 32 - 1, 0, 7⟩ ∧ r.intake.length ≤ 1022) := by decide +kernel
theorem test_RecorderStore :
    (let s := rc { storeQ := [n6] }
     s.rcd.storeQ = n6 :: [] ∧ s.rcd.retryDue = none ∧ s.recEnded = false ∧ s.rcd.degraded = false ∧ s.toArchive n6.ev.code = false ∧ s.rcd.circNext < circSlots ∧
       s.rcd.archCnt < archSlots) ∧
    (rc { archState := 1, archCnt := 3 }).toArchive n6.ev.code = true ∧
    (let s := rc { storeQ := [n7], degraded := true }
     s.rcd.degraded = true ∧ n7.ev.code / 0x1000 = 7 ∧ s.rcd.sealFault = false ∧ s.rcd.sealSlots.length < 1024) ∧
    (let s := rc { storeQ := [n6], retryDue := some 5, retries := 2 }
     s.rcd.retryDue = some 5 ∧ s.recEnded = false ∧ 2 ≤ s.rcd.retries ∧ s.rcd.degraded = false ∧ n6.acc < 2 ^ 48) ∧
    (let s := net (rc { pubQ := [recordBytes false n6] })
     s.rcd.pubQ ≠ [] ∧ s.recEnded = false ∧ s.trdpOn = true ∧ ∀ b ∈ s.rcd.pubQ, s.travelsAlone b = false) ∧
    (mirrorParse mateEvents = some (1, [(11, beBytes 2 0x6001 ++ beBytes 4 0 ++ [1, 2])]) ∧ (act {}).sys.twinRole ≠ 0 ∧ (act {}).holder = true ∧
      1 = ((act {}).twin.applied + 1) % 2 ^ 32 ∧ (wr (act {}) [(.recCfg, 0, 0, 0)]).rb .recCfg 0 2 = false ∧ (act {}).rcd.intake.length ≤ 1022) := by decide +kernel

/-- One record stored in slot 0 of the Circulating Record, and the window at a position. -/
def windowAt (p : Nat) : State :=
  { rc { nextAcc := 12, oldest := 7, winOpen := true, winBusy := true, winPos := p } with mem := cells 0x01000000 (recordBytes false n6) }
def request (s : State) (req : Nat) (body : List Byte) : Bool := decide ((State.serviceRx { s with outs := [] } (tel req body) req).2 = some body)
theorem test_HoldAndWindow :
    ((rc {}).mayAccess 0 false = true ∧ (rc {}).domain 9 = true ∧ (rc {}).rcd.degraded = false ∧ (rc {}).rcd.hold = false ∧ (rc {}).folioNext.isSome = true ∧
      (rc {}).rcd.captures.length < 4 ∧ (rc {}).mayAccess 0 true = true) ∧
    ((windowAt 12).rcd.winOpen = true ∧ (windowAt 12).rcd.winBusy = true ∧ (windowAt 12).rcd.winArea = 0 ∧ (windowAt 12).rcd.nextAcc ≤ (windowAt 12).rcd.winPos) ∧
    ((windowAt 7).rcd.winPos < (windowAt 7).rcd.nextAcc ∧ ((windowAt 7).heldRecords.find? (covers 7)).any (fun b => leAt b 6 2 != 0xE001) = true) ∧
    ((windowAt 8).heldRecords.find? (covers 8) = none ∧ (windowAt 8).rcd.oldest ≤ (windowAt 8).rcd.winPos) ∧
    ((windowAt 3).heldRecords.find? (covers 3) = none ∧ (windowAt 3).rcd.winPos < (windowAt 3).rcd.oldest) ∧
    (let r := (rc { hold := true }).rcd
     r.hold = true ∧ r.holdLimit = false) ∧
    (let s := rc { draining := true, holdQ := [n6], lastStored := [recordBytes false n6] }
     s.rcd.draining = true ∧ s.rcd.storeQ = [] ∧ s.recEnded = false ∧ s.rcd.degraded = false ∧ s.rcd.lastStored.length ≤ 1024) ∧
    (let s := rc { captures := [⟨7, 0, [recordBytes false n6]⟩] }
     s.rcd.captures = ⟨7, 0, [recordBytes false n6]⟩ :: [] ∧ s.rcd.hold = false ∧ s.rcd.draining = false ∧ s.folioNext = some 0 ∧ s.rcd.degraded = false) ∧
    (rc { clearing := some (3, 8) }).rcd.clearing = some (3, 8) := by decide +kernel
theorem test_RecorderCommands :
    keyed.Accepts 0x0401 none c_archive (keyed.offered none c_archive) ∧ keyed.Accepts 0x0402 none c_clearCirc (keyed.offered none c_clearCirc) :=
  ⟨accepts_of (by decide +kernel) (by decide +kernel), accepts_of (by decide +kernel) (by decide +kernel)⟩
theorem test_RecorderRequests :
    (request (net (rc {})) 0x0101 (beBytes 8 7 ++ [0, 40, 0, 3]) = true ∧ request (net (rc {})) 0x0101 [1] = true ∧
      request (net (rc {})) 0x0101 (beBytes 8 0xFFFFFFFFFFFF ++ [0, 41, 0, 3]) = true) ∧
    (request (net (rc {})) 0x0102 [1, 0, 0, 0] = true ∧ request (net (rc {})) 0x0102 [2, 0, 0, 0] = true) ∧
    (request (net (rc {})) 0x0103 ([1, 0, 0, 0] ++ beBytes 8 7 ++ beBytes 8 9) = true ∧ (net (rc {})).uploadCount < 4 ∧ (net (rc {})).trdp.streams.length < 32 ∧
      request (net (rc {})) 0x0103 ([1, 0, 0, 0] ++ beBytes 8 9 ++ beBytes 8 7) = true) ∧
    (request (net (rc {})) 0x0104 [] = true ∧ (net (rc {})).rb .recCfg 0 0 = true ∧ (net (rc {})).rb .recCfg 0 1 = true) ∧
    (request (wr (net (rc {})) [(.recCfg, 0, 0, 0)]) 0x0104 [] = true ∧ (wr (net (rc {})) [(.recCfg, 0, 0, 0)]).rb .recCfg 0 0 = false) := by decide +kernel

theorem test_Counters :
    (up.mayAccess 0 true = true ∧ up.mayAccess 0 false = true ∧ up.domain 0 = true ∧ (1023 : Word).toNat < 1024 ∧ up.rf .cntCfg 0 13 0 ≠ 0 ∧
      (wr up [(.cntCfg, 0, 0, 0)]).rf .cntCfg 0 13 0 = 0) ∧
    ({ samples := List.replicate 1024 [] : Counters }.samples.length = 1024 ∧ up.rb .cntSmpCfg 0 18 = false ∧ (wr up [(.cntSmpCfg, 0, 0, 2 ^ 18)]).rb .cntSmpCfg 0 18 = true) ∧
    (request (net up) 0x0201 [0, 5, 0, 1] = true ∧ (net up).hasSession 0x0A000002 = false ∧ (sess (net up)).hasSession 0x0A000002 = true ∧
      request (sess (net up)) 0x0201 [1, 63, 0, 1] = true ∧ request (sess (net up)) 0x0201 [1, 63, 0, 2] = true ∧ 319 + 1 ≤ 320 ∧ 320 < 319 + 2) ∧
    (request (sess (net up)) 0x0202 [3, 255, 0, 1] = true ∧ request (sess (net up)) 0x0202 [3, 255, 0, 2] = true) ∧
    (request (sess (net up)) 0x0401 [0x40, 0x25, 0x01, 0x04, 0, 64, 0, 0] = true ∧ request (sess (net up)) 0x0401 [0x40, 0x25, 0x01, 0x05, 0, 1, 0, 0] = true) := by
  decide +kernel

/-! ### The block as a whole -/

theorem test_Step : (∃ c rest, ({ up with pending := [.catalogueSelect, .joinEnd] } : State).pending = c :: rest) ∧ up.pending = [] ∧
    ∃ t, step up = .next t := ⟨⟨_, _, rfl⟩, rfl, ⟨_, rfl⟩⟩

def badTel : Telegram := { tel 0 [] with src := 2 ^ 32 }
/-- An ill-formed command for each check of WellFormed. -/
theorem test_illFormed : ((
  [.powerOn (2 ^ 48), .norDiscovery true 0x10000 true true [], .recorderStart true (some 0x1000000), .unmappedAccess 1 true 0, .registerWrite 2 2 0 false 0, .registerWrite 4 3 0 false 0,
   .mntTransaction (List.replicate 136 0) none, .catCommit none (List.replicate 249 0) true, .ssiFrame 0 (2 ^ 40) true true,
   .dlReply 0 (List.replicate 69 0), .dlDelayMeasured 0 (List.replicate 17 0), .fieldReply 0 (List.replicate 29 0), .tileFrameReceive 0 (List.replicate 19 0) [],
   .testPulseWindowEnd 0 (2 ^ 32), .lsBankPeak 0 (2 ^ 8), .lsBankCont 0 0x10000, .ptpSync 0 (List.replicate 1501 0) 0, .arpRequest (2 ^ 32),
   .icmpEcho 0 0 (List.replicate 1481 0), .datagramDiscard (some badTel), .ttdbDirectory (2 ^ 32) 0 true true, .ttdbAnnounce 0 (2 ^ 32), .stlData badTel true,
   .streamOpen badTel, .kazukHeartbeat 0 (List.replicate 269 0) true, .netHeartbeat badTel true, .mirrorFrame (List.replicate 269 0), .twinSynced (2 ^ 48) [] [] [],
   .standbySelftest 16 0 [], .standbySelftest 0 0 [0x120], .eventIntake 0x10000 0 [], .read badTel, .regRead badTel, .vbatMeasure 0x10000] : List Instr).all (fun c => !c.WellFormed)) = true := by decide +kernel
theorem test_wellFormed : ([.powerOn (2 ^ 48 - 1), .registerWrite 4 2 0 true 0, .registerWrite 7 0 0 false 0, .mntTransaction (List.replicate 135 0) none, .lsBankPeak 0 255, .arpRequest (2 ^ 32 - 1), .read (tel 0 [])] :
    List Instr).all Instr.WellFormed = true := by decide +kernel

end Sys2Proof.Tests
end

section
/-!
PROOFS. What every command and every step keeps (R22, R601, R644, R678), and what each reset source leaves (R624, R626).
-/
namespace Sys2Proof.Machine
open Sys2Proof

/-! ### Every command keeps its frame -/

theorem exec_completes (c : Instr) (s : State) : ∃ t, exec c s = .next t := by
  cases c <;> exact ⟨_, rfl⟩

/-- The write of CMD RESET draws no free value, which frame_sysCmdReset leaves open. -/
theorem sysCmdReset_frame_reset (m : Fin 6) (s u : State) (h : exec (.sysCmdReset m) s = .next u) : Frame Part.reset s u := by
  have h : run s (fun s => s.putReg m .sysCmd 0 0x52E50001) = .next u := h
  refine run_keep (by decide) h (fun x hx => State.putReg_keep sysCmd_at (by decide) (Or.inl (by decide)) (fun y hy => ?_) hx)
  exact State.resetNow_frame (by decide) hy

/-- The frame lemmas of all commands, side by side. -/
theorem exec_frame : ∀ {c : Instr} {s t : State}, exec c s = .next t → Frame (mayChange c) s t
  | .powerOn secs, _, _, h => frame_powerOn secs _ _ h
  | .brownOut supply, _, _, h => frame_brownOut supply _ _ h
  | .nrstAssert, _, _, h => frame_nrstAssert _ _ h
  | .nrstRelease, _, _, h => frame_nrstRelease _ _ h
  | .clockFail, _, _, h => frame_clockFail _ _ h
  | .lockstepMismatch, _, _, h => frame_lockstepMismatch _ _ h
  | .watchdogExpiry, _, _, h => frame_watchdogExpiry _ _ h
  | .debugReset, _, _, h => frame_debugReset _ _ h
  | .sysCmdReset m, _, _, h => sysCmdReset_frame_reset m _ _ h
  | .sysCmdWdog m, _, _, h => frame_sysCmdWdog m _ _ h
  | .pllLock, _, _, h => frame_pllLock _ _ h
  | .norDiscovery sfdp cap addr4 octal passes, _, _, h => frame_norDiscovery sfdp cap addr4 octal passes _ _ h
  | .recorderStart sealOk ecc, _, _, h => frame_recorderStart sealOk ecc _ _ h
  | .paramVote, _, _, h => frame_paramVote _ _ h
  | .firmwareSelect, _, _, h => frame_firmwareSelect _ _ h
  | .catalogueSelect, _, _, h => frame_catalogueSelect _ _ h
  | .catalogueApply, _, _, h => frame_catalogueApply _ _ h
  | .startSelftest lockstep evaluator gate readback, _, _, h => frame_startSelftest lockstep evaluator gate readback _ _ h
  | .joinEnd, _, _, h => frame_joinEnd _ _ h
  | .operationalEntry, _, _, h => frame_operationalEntry _ _ h
  | .portalReferenceStart p, _, _, h => frame_portalReferenceStart p _ _ h
  | .unmappedAccess addr read master, _, _, h => frame_unmappedAccess addr read master _ _ h
  | .registerWrite addr size value ecc master, _, _, h => frame_registerWrite addr size value ecc master _ _ h
  | .mntTransaction bytes ecc, _, _, h => frame_mntTransaction bytes ecc _ _ h
  | .paramCrcCheck, _, _, h => frame_paramCrcCheck _ _ h
  | .catCommit conn bytes storeOk, _, _, h => frame_catCommit conn bytes storeOk _ _ h
  | .catCommitVerifyDone, _, _, h => frame_catCommitVerifyDone _ _ h
  | .catPwLockoutEnd, _, _, h => frame_catPwLockoutEnd _ _ h
  | .motionCycle, _, _, h => frame_motionCycle _ _ h
  | .action conn bytes storeOk, _, _, h => frame_action conn bytes storeOk _ _ h
  | .immediateActionApply, _, _, h => frame_immediateActionApply _ _ h
  | .slotDue, _, _, h => frame_slotDue _ _ h
  | .isolate conn bytes storeOk, _, _, h => frame_isolate conn bytes storeOk _ _ h
  | .restore conn bytes storeOk, _, _, h => frame_restore conn bytes storeOk _ _ h
  | .passengerRequest p inside, _, _, h => frame_passengerRequest p inside _ _ h
  | .presenceInput p, _, _, h => frame_presenceInput p _ _ h
  | .emergencyHandle p, _, _, h => frame_emergencyHandle p _ _ h
  | .zeroSpeedActive, _, _, h => frame_zeroSpeedActive _ _ h
  | .zeroSpeedLost, _, _, h => frame_zeroSpeedLost _ _ h
  | .unlockComplete p, _, _, h => frame_unlockComplete p _ _ h
  | .stepDeployed p, _, _, h => frame_stepDeployed p _ _ h
  | .lockedInputActive p, _, _, h => frame_lockedInputActive p _ _ h
  | .stepStowed p, _, _, h => frame_stepStowed p _ _ h
  | .switchOpenInLocked p, _, _, h => frame_switchOpenInLocked p _ _ h
  | .homingDone p, _, _, h => frame_homingDone p _ _ h
  | .leavesAtOpen p, _, _, h => frame_leavesAtOpen p _ _ h
  | .leavesAtReopenTarget p, _, _, h => frame_leavesAtReopenTarget p _ _ h
  | .leavesClosed p, _, _, h => frame_leavesClosed p _ _ h
  | .dwellElapsed p, _, _, h => frame_dwellElapsed p _ _ h
  | .obstWaitElapsed p, _, _, h => frame_obstWaitElapsed p _ _ h
  | .warnPreElapsed p, _, _, h => frame_warnPreElapsed p _ _ h
  | .flashToggle p, _, _, h => frame_flashToggle p _ _ h
  | .chimeEnd p, _, _, h => frame_chimeEnd p _ _ h
  | .unlockFail p, _, _, h => frame_unlockFail p _ _ h
  | .lockTimeElapsed p, _, _, h => frame_lockTimeElapsed p _ _ h
  | .recloseEnd p, _, _, h => frame_recloseEnd p _ _ h
  | .lockFail p, _, _, h => frame_lockFail p _ _ h
  | .stepFail p, _, _, h => frame_stepFail p _ _ h
  | .referenceFail p, _, _, h => frame_referenceFail p _ _ h
  | .obsStopResume n, _, _, h => frame_obsStopResume n _ _ h
  | .commission n m, _, _, h => frame_commission n m _ _ h
  | .inject n value m, _, _, h => frame_inject n value m _ _ h
  | .obsTblDataAccess n value m, _, _, h => frame_obsTblDataAccess n value m _ _ h
  | .segAppend n m, _, _, h => frame_segAppend n m _ _ h
  | .segReplace n m, _, _, h => frame_segReplace n m _ _ h
  | .axisStop n emg m, _, _, h => frame_axisStop n emg m _ _ h
  | .axisClear n m, _, _, h => frame_axisClear n m _ _ h
  | .emergencyDecelRest n, _, _, h => frame_emergencyDecelRest n _ _ h
  | .axStall n current, _, _, h => frame_axStall n current _ _ h
  | .axLimit n opening, _, _, h => frame_axLimit n opening _ _ h
  | .axChatter n k, _, _, h => frame_axChatter n k _ _ h
  | .axStepLag n, _, _, h => frame_axStepLag n _ _ h
  | .homeReferenceFound n, _, _, h => frame_homeReferenceFound n _ _ h
  | .homeDwellElapsed n, _, _, h => frame_homeDwellElapsed n _ _ h
  | .homeLimitHit n opening, _, _, h => frame_homeLimitHit n opening _ _ h
  | .brakeReleaseElapsed n, _, _, h => frame_brakeReleaseElapsed n _ _ h
  | .brakeApplyElapsed n, _, _, h => frame_brakeApplyElapsed n _ _ h
  | .fbCfgWrite n value m, _, _, h => frame_fbCfgWrite n value m _ _ h
  | .fbPset n value m, _, _, h => frame_fbPset n value m _ _ h
  | .fbPosRead n m, _, _, h => frame_fbPosRead n m _ _ h
  | .fbPrbPosRead n m, _, _, h => frame_fbPrbPosRead n m _ _ h
  | .fbCmpPosWrite n value m, _, _, h => frame_fbCmpPosWrite n value m _ _ h
  | .fbCmpCfgWrite n value m, _, _, h => frame_fbCmpCfgWrite n value m _ _ h
  | .fbEvtClear n value m, _, _, h => frame_fbEvtClear n value m _ _ h
  | .fbIllegal n, _, _, h => frame_fbIllegal n _ _ h
  | .fbLineBroken n broken, _, _, h => frame_fbLineBroken n broken _ _ h
  | .fbAmplitudeFault n, _, _, h => frame_fbAmplitudeFault n _ _ h
  | .fbIndex n, _, _, h => frame_fbIndex n _ _ h
  | .probeEdge n level held, _, _, h => frame_probeEdge n level held _ _ h
  | .compareHit n, _, _, h => frame_compareHit n _ _ h
  | .fbDivLag n, _, _, h => frame_fbDivLag n _ _ h
  | .speedWindow n, _, _, h => frame_speedWindow n _ _ h
  | .ssiFrame n frame high low, _, _, h => frame_ssiFrame n frame high low _ _ h
  | .dlReply l frame, _, _, h => frame_dlReply l frame _ _ h
  | .dlUplinkTimeout l, _, _, h => frame_dlUplinkTimeout l _ _ h
  | .dlRestart l m, _, _, h => frame_dlRestart l m _ _ h
  | .dlStartIdleEnd l, _, _, h => frame_dlStartIdleEnd l _ _ h
  | .dlDelayMeasured l trips, _, _, h => frame_dlDelayMeasured l trips _ _ h
  | .fieldFrame, _, _, h => frame_fieldFrame _ _ h
  | .fieldReply k bytes, _, _, h => frame_fieldReply k bytes _ _ h
  | .fieldReplyMissing k, _, _, h => frame_fieldReplyMissing k _ _ h
  | .fldRestart k m, _, _, h => frame_fldRestart k m _ _ h
  | .fldClrDiag k m, _, _, h => frame_fldClrDiag k m _ _ h
  | .tileFrameReceive k bytes vals, _, _, h => frame_tileFrameReceive k bytes vals _ _ h
  | .tileApply k, _, _, h => frame_tileApply k _ _ h
  | .tileTimeout k, _, _, h => frame_tileTimeout k _ _ h
  | .tilePowerUp k, _, _, h => frame_tilePowerUp k _ _ h
  | .tileSupplyLoss k, _, _, h => frame_tileSupplyLoss k _ _ h
  | .fieldInputEdge c, _, _, h => frame_fieldInputEdge c _ _ h
  | .wettingEnd c, _, _, h => frame_wettingEnd c _ _ h
  | .wireBreak c present, _, _, h => frame_wireBreak c present _ _ h
  | .outputOverload c kind, _, _, h => frame_outputOverload c kind _ _ h
  | .outputReadback c, _, _, h => frame_outputReadback c _ _ h
  | .openWire c present, _, _, h => frame_openWire c present _ _ h
  | .fldTpOverload g, _, _, h => frame_fldTpOverload g _ _ h
  | .testPulseStart g, _, _, h => frame_testPulseStart g _ _ h
  | .testPulseWindowEnd g still, _, _, h => frame_testPulseWindowEnd g still _ _ h
  | .mrstPressBegin j, _, _, h => frame_mrstPressBegin j _ _ h
  | .mrstPressEnd i, _, _, h => frame_mrstPressEnd i _ _ h
  | .fldMrstStuck i, _, _, h => frame_fldMrstStuck i _ _ h
  | .mrstReleased i, _, _, h => frame_mrstReleased i _ _ h
  | .ilkCrossDisagree pair, _, _, h => frame_ilkCrossDisagree pair _ _ h
  | .ilkDiscrepancy i, _, _, h => frame_ilkDiscrepancy i _ _ h
  | .soOffPulse k, _, _, h => frame_soOffPulse k _ _ h
  | .soPulseEnd k wentOff backOn, _, _, h => frame_soPulseEnd k wentOff backOn _ _ h
  | .ilkMonFault i, _, _, h => frame_ilkMonFault i _ _ h
  | .ilkClear m, _, _, h => frame_ilkClear m _ _ h
  | .ilkLogLoad value m, _, _, h => frame_ilkLogLoad value m _ _ h
  | .brakeTestStart n, _, _, h => frame_brakeTestStart n _ _ h
  | .brakeTestPhaseEnd n, _, _, h => frame_brakeTestPhaseEnd n _ _ h
  | .brakeTestTorqueTimeout n, _, _, h => frame_brakeTestTorqueTimeout n _ _ h
  | .brakeTestOverdue n, _, _, h => frame_brakeTestOverdue n _ _ h
  | .lsOnDelayEnd n, _, _, h => frame_lsOnDelayEnd n _ _ h
  | .lsInrushEnd n, _, _, h => frame_lsInrushEnd n _ _ h
  | .lsShort n, _, _, h => frame_lsShort n _ _ h
  | .lsRetry n, _, _, h => frame_lsRetry n _ _ h
  | .lsRetriesReset n, _, _, h => frame_lsRetriesReset n _ _ h
  | .lsThermal n, _, _, h => frame_lsThermal n _ _ h
  | .lsThermalRelease n, _, _, h => frame_lsThermalRelease n _ _ h
  | .lsOpenLoad n, _, _, h => frame_lsOpenLoad n _ _ h
  | .lsReadback n, _, _, h => frame_lsReadback n _ _ h
  | .lsBankPeak b limiting, _, _, h => frame_lsBankPeak b limiting _ _ h
  | .lsBankCont b avg, _, _, h => frame_lsBankCont b avg _ _ h
  | .lsContShed b, _, _, h => frame_lsContShed b _ _ h
  | .lswClear n m, _, _, h => frame_lswClear n m _ _ h
  | .lswClrDiag n m, _, _, h => frame_lswClrDiag n m _ _ h
  | .lswRestart b m, _, _, h => frame_lswRestart b m _ _ h
  | .ptpSync i bytes sub, _, _, h => frame_ptpSync i bytes sub _ _ h
  | .ptpFollowUp i bytes, _, _, h => frame_ptpFollowUp i bytes _ _ h
  | .ptpAnnounce i bytes, _, _, h => frame_ptpAnnounce i bytes _ _ h
  | .ptpPdelayReq i bytes, _, _, h => frame_ptpPdelayReq i bytes _ _ h
  | .ptpPdelayResp i bytes sub, _, _, h => frame_ptpPdelayResp i bytes sub _ _ h
  | .ptpPdelaySend, _, _, h => frame_ptpPdelaySend _ _ h
  | .ptpSyncSend, _, _, h => frame_ptpSyncSend _ _ h
  | .timeHoldover d, _, _, h => frame_timeHoldover d _ _ h
  | .timeHoldoverLong d, _, _, h => frame_timeHoldoverLong d _ _ h
  | .timeSettleEnd i, _, _, h => frame_timeSettleEnd i _ _ h
  | .timeJumpConfirm, _, _, h => frame_timeJumpConfirm _ _ h
  | .timeStep, _, _, h => frame_timeStep _ _ h
  | .acceptJump m, _, _, h => frame_acceptJump m _ _ h
  | .acceptPath m, _, _, h => frame_acceptPath m _ _ h
  | .timeTtRead m, _, _, h => frame_timeTtRead m _ _ h
  | .rtcSet, _, _, h => frame_rtcSet _ _ h
  | .frameReceive i bytes fcsOk cls, _, _, h => frame_frameReceive i bytes fcsOk cls _ _ h
  | .frameTransmitStart p, _, _, h => frame_frameTransmitStart p _ _ h
  | .frameTransmitEnd p, _, _, h => frame_frameTransmitEnd p _ _ h
  | .pauseReceive i time, _, _, h => frame_pauseReceive i time _ _ h
  | .pauseExpire i, _, _, h => frame_pauseExpire i _ _ h
  | .pauseRepeat i, _, _, h => frame_pauseRepeat i _ _ h
  | .gclEntry p, _, _, h => frame_gclEntry p _ _ h
  | .netLinkUp i fast, _, _, h => frame_netLinkUp i fast _ _ h
  | .netLinkDown i, _, _, h => frame_netLinkDown i _ _ h
  | .hsrSupervisionSend, _, _, h => frame_hsrSupervisionSend _ _ h
  | .netRingOpen p, _, _, h => frame_netRingOpen p _ _ h
  | .macAge, _, _, h => frame_macAge _ _ h
  | .proxyAge, _, _, h => frame_proxyAge _ _ h
  | .arpRequest target, _, _, h => frame_arpRequest target _ _ h
  | .icmpEcho src dst data, _, _, h => frame_icmpEcho src dst data _ _ h
  | .datagramDiscard t, _, _, h => frame_datagramDiscard t _ _ h
  | .ttdbDirectory etb op veh cst, _, _, h => frame_ttdbDirectory etb op veh cst _ _ h
  | .ttdbAnnounce etb op, _, _, h => frame_ttdbAnnounce etb op _ _ h
  | .trdpDirectoryFail, _, _, h => frame_trdpDirectoryFail _ _ h
  | .publishDevStatus, _, _, h => frame_publishDevStatus _ _ h
  | .publishPortalState, _, _, h => frame_publishPortalState _ _ h
  | .publishHealth, _, _, h => frame_publishHealth _ _ h
  | .stlOpenReq t, _, _, h => frame_stlOpenReq t _ _ h
  | .stlOpenAck t, _, _, h => frame_stlOpenAck t _ _ h
  | .stlData t storeOk, _, _, h => frame_stlData t storeOk _ _ h
  | .stlRekeyReq t, _, _, h => frame_stlRekeyReq t _ _ h
  | .stlRekeyAck t, _, _, h => frame_stlRekeyAck t _ _ h
  | .stlClose t, _, _, h => frame_stlClose t _ _ h
  | .stlCycleSend c, _, _, h => frame_stlCycleSend c _ _ h
  | .stlTimeout c, _, _, h => frame_stlTimeout c _ _ h
  | .stlFailedRetry c, _, _, h => frame_stlFailedRetry c _ _ h
  | .stlCmdOpen c m, _, _, h => frame_stlCmdOpen c m _ _ h
  | .stlCmdClose c m, _, _, h => frame_stlCmdClose c m _ _ h
  | .streamOpen t, _, _, h => frame_streamOpen t _ _ h
  | .streamData t, _, _, h => frame_streamData t _ _ h
  | .streamAck t, _, _, h => frame_streamAck t _ _ h
  | .streamClose t, _, _, h => frame_streamClose t _ _ h
  | .streamAckSend k, _, _, h => frame_streamAckSend k _ _ h
  | .streamSend k, _, _, h => frame_streamSend k _ _ h
  | .streamRetransmit k, _, _, h => frame_streamRetransmit k _ _ h
  | .streamGapTimeout k, _, _, h => frame_streamGapTimeout k _ _ h
  | .partnerRemoved k, _, _, h => frame_partnerRemoved k _ _ h
  | .kazukHeartbeatSend lane, _, _, h => frame_kazukHeartbeatSend lane _ _ h
  | .netHeartbeatSend, _, _, h => frame_netHeartbeatSend _ _ h
  | .kazukHeartbeat lane bytes ownLow, _, _, h => frame_kazukHeartbeat lane bytes ownLow _ _ h
  | .netHeartbeat t ownLow, _, _, h => frame_netHeartbeat t ownLow _ _ h
  | .twinPathDown net, _, _, h => frame_twinPathDown net _ _ h
  | .mateSilent, _, _, h => frame_mateSilent _ _ h
  | .ownNHigh, _, _, h => frame_ownNHigh _ _ h
  | .twinClaim, _, _, h => frame_twinClaim _ _ h
  | .ownLineFault ownLow, _, _, h => frame_ownLineFault ownLow _ _ h
  | .ownWatchdogExpiry, _, _, h => frame_ownWatchdogExpiry _ _ h
  | .releaseAnnounce, _, _, h => frame_releaseAnnounce _ _ h
  | .twinReleased, _, _, h => frame_twinReleased _ _ h
  | .mirrorFrame bytes, _, _, h => frame_mirrorFrame bytes _ _ h
  | .mirrorAck bytes, _, _, h => frame_mirrorAck bytes _ _ h
  | .mirrorResend, _, _, h => frame_mirrorResend _ _ h
  | .twinSynced mateNext mateCounters mateCycles mateBrakes, _, _, h => frame_twinSynced mateNext mateCounters mateCycles mateBrakes _ _ h
  | .standbySelftest gateBad offBad leak, _, _, h => frame_standbySelftest gateBad offBad leak _ _ h
  | .revertRequest, _, _, h => frame_revertRequest _ _ h
  | .quietMomentRelease, _, _, h => frame_quietMomentRelease _ _ h
  | .twinTransferCmd m, _, _, h => frame_twinTransferCmd m _ _ h
  | .twinTransfer conn bytes storeOk, _, _, h => frame_twinTransfer conn bytes storeOk _ _ h
  | .twinTransferRejected, _, _, h => frame_twinTransferRejected _ _ h
  | .eventIntake code inst vals, _, _, h => frame_eventIntake code inst vals _ _ h
  | .recAllocate, _, _, h => frame_recAllocate _ _ h
  | .recRepeated, _, _, h => frame_recRepeated _ _ h
  | .recStore ok, _, _, h => frame_recStore ok _ _ h
  | .recWriteRetry ok, _, _, h => frame_recWriteRetry ok _ _ h
  | .recPublish, _, _, h => frame_recPublish _ _ h
  | .holdSet m, _, _, h => frame_holdSet m _ _ h
  | .holdRelease m, _, _, h => frame_holdRelease m _ _ h
  | .recHoldLimit, _, _, h => frame_recHoldLimit _ _ h
  | .recHoldDrainDone, _, _, h => frame_recHoldDrainDone _ _ h
  | .capture m, _, _, h => frame_capture m _ _ h
  | .recFolioCaptured, _, _, h => frame_recFolioCaptured _ _ h
  | .keep f m, _, _, h => frame_keep f m _ _ h
  | .unkeep f m, _, _, h => frame_unkeep f m _ _ h
  | .recArchiveCmd m, _, _, h => frame_recArchiveCmd m _ _ h
  | .recClearCircCmd m, _, _, h => frame_recClearCircCmd m _ _ h
  | .recCleared, _, _, h => frame_recCleared _ _ h
  | .lwClear m, _, _, h => frame_lwClear m _ _ h
  | .rwOpen area folio hold m, _, _, h => frame_rwOpen area folio hold m _ _ h
  | .rwStep m, _, _, h => frame_rwStep m _ _ h
  | .rwClose m, _, _, h => frame_rwClose m _ _ h
  | .rwLoadDone ecc, _, _, h => frame_rwLoadDone ecc _ _ h
  | .rwIdleTimeout, _, _, h => frame_rwIdleTimeout _ _ h
  | .recNextRead m, _, _, h => frame_recNextRead m _ _ h
  | .recOldestRead m, _, _, h => frame_recOldestRead m _ _ h
  | .read t, _, _, h => frame_read t _ _ h
  | .hold t, _, _, h => frame_hold t _ _ h
  | .upload t, _, _, h => frame_upload t _ _ h
  | .status t, _, _, h => frame_status t _ _ h
  | .cntValRead m, _, _, h => frame_cntValRead m _ _ h
  | .cntSnapRead i m, _, _, h => frame_cntSnapRead i m _ _ h
  | .sweep m, _, _, h => frame_sweep m _ _ h
  | .sweepPeriodic, _, _, h => frame_sweepPeriodic _ _ h
  | .write m, _, _, h => frame_write m _ _ h
  | .clearAll m, _, _, h => frame_clearAll m _ _ h
  | .smpClear m, _, _, h => frame_smpClear m _ _ h
  | .cntSmpPosWrite value m, _, _, h => frame_cntSmpPosWrite value m _ _ h
  | .counters t, _, _, h => frame_counters t _ _ h
  | .samples t, _, _, h => frame_samples t _ _ h
  | .attest t, _, _, h => frame_attest t _ _ h
  | .identity t, _, _, h => frame_identity t _ _ h
  | .regRead t, _, _, h => frame_regRead t _ _ h
  | .fwCommit conn bytes storeOk, _, _, h => frame_fwCommit conn bytes storeOk _ _ h
  | .keyInstall conn bytes storeOk, _, _, h => frame_keyInstall conn bytes storeOk _ _ h
  | .keyRetire conn bytes storeOk, _, _, h => frame_keyRetire conn bytes storeOk _ _ h
  | .catKeyEnrol conn bytes storeOk, _, _, h => frame_catKeyEnrol conn bytes storeOk _ _ h
  | .debugFuse conn bytes storeOk, _, _, h => frame_debugFuse conn bytes storeOk _ _ h
  | .archive conn bytes storeOk, _, _, h => frame_archive conn bytes storeOk _ _ h
  | .clearCirc conn bytes storeOk, _, _, h => frame_clearCirc conn bytes storeOk _ _ h
  | .regWrite conn bytes storeOk, _, _, h => frame_regWrite conn bytes storeOk _ _ h
  | .maintSession conn bytes storeOk, _, _, h => frame_maintSession conn bytes storeOk _ _ h
  | .maintSessionEnd k, _, _, h => frame_maintSessionEnd k _ _ h
  | .provision conn bytes storeOk, _, _, h => frame_provision conn bytes storeOk _ _ h
  | .rngBlock, _, _, h => frame_rngBlock _ _ h
  | .rngRetest, _, _, h => frame_rngRetest _ _ h
  | .debugAttach, _, _, h => frame_debugAttach _ _ h
  | .shelve m, _, _, h => frame_shelve m _ _ h
  | .shelveReady, _, _, h => frame_shelveReady _ _ h
  | .shelveTimeout, _, _, h => frame_shelveTimeout _ _ h
  | .wakeN, _, _, h => frame_wakeN _ _ h
  | .clockWake, _, _, h => frame_clockWake _ _ h
  | .supplyReturn, _, _, h => frame_supplyReturn _ _ h
  | .vbatMeasure mv, _, _, h => frame_vbatMeasure mv _ _ h
  | .nvmRead m, _, _, h => frame_nvmRead m _ _ h
  | .nvmProgram m, _, _, h => frame_nvmProgram m _ _ h
  | .erase4k m, _, _, h => frame_erase4k m _ _ h
  | .erase64k m, _, _, h => frame_erase64k m _ _ h
  | .nvmOpDone timeout bad held, _, _, h => frame_nvmOpDone timeout bad held _ _ h
  | .fbCount n a b held _, _, _, h => frame_fbCount n a b held _ _ h
  | .soReadbackFail k level, _, _, h => frame_soReadbackFail k level _ _ h
  | .rtcCrystalStop, _, _, h => frame_rtcCrystalStop _ _ h
  | .backupPowerUp, _, _, h => frame_backupPowerUp _ _ h
  | .backupPowerLoss, _, _, h => frame_backupPowerLoss _ _ h
  | .suppliesGood, _, _, h => frame_suppliesGood _ _ h
  | .debugDetach, _, _, h => frame_debugDetach _ _ h
  | .mateEvent bytes, _, _, h => frame_mateEvent bytes _ _ h
  | .gratuitousArp, _, _, h => frame_gratuitousArp _ _ h
  | .hsrDuplicateForget, _, _, h => frame_hsrDuplicateForget _ _ h
  | .fwCommitDone, _, _, h => frame_fwCommitDone _ _ h
  | .attestDone, _, _, h => frame_attestDone _ _ h
  | .portalCycLoRead p m, _, _, h => frame_portalCycLoRead p m _ _ h
  | .cntSweepTtRead m, _, _, h => frame_cntSweepTtRead m _ _ h
  | .secCntRead k m, _, _, h => frame_secCntRead k m _ _ h

/-- Settles O59: each command runs one operation, whose frame its own lemma gives. -/
theorem everyCommandKeepsItsFrame : Obligations.EveryCommandKeepsItsFrame := by
  intro c s
  obtain ⟨t, h⟩ := exec_completes c s
  exact ⟨t, h, exec_frame h⟩

/-! ### Every step keeps the memories, local time, OTP, the lock and the Operational line -/

/-- The parts that a step may change: those of the command at the front, or those that the passing of one tick changes. -/
def State.stepChange (s : State) : Nat := match s.pending.head? with
  | some c => mayChange c
  | none => Part.bk ||| Part.time ||| Part.outs

theorem tick_frame {s t : State} (h : tick s = .next t) : Frame (Part.bk ||| Part.time ||| Part.outs) s t :=
  run_keep (by decide) h (fun _ hx => State.pass_frame (by decide) hx)

/-- A step runs on the state with the front command taken off the queue, and changes no more of it than that command may. -/
theorem step_frame {s t : State} (h : step s = .next t) : Frame s.stepChange { s with pending := s.pending.tail } t := by
  unfold step at h
  unfold State.stepChange
  split at h
  case h_1 hq =>
    rw [hq]
    have unqueued : { s with pending := [] } = s := by rw [← hq]
    exact unqueued.symm ▸ tick_frame h
  case h_2 c rest hq =>
    rw [hq]
    exact exec_frame h

/-- A command but CATALOGUE_APPLY brings down no lock and no Operational line, or it changes the start state by a reset alone. -/
theorem mayChange_restart_or_startup {c : Instr} (hc : c ≠ .catalogueApply) :
    Part.out Part.restart (mayChange c) = true ∨ Part.out Part.startup (mayChange c) = true := by
  cases c
  case catalogueApply => exact absurd rfl hc
  all_goals
    dsimp only [mayChange]
    decide

theorem State.stepChange_restart_or_startup {s : State} (hc : s.pending.head? ≠ some .catalogueApply) :
    Part.out Part.restart s.stepChange = true ∨ Part.out Part.startup s.stepChange = true := by
  unfold State.stepChange
  split
  case h_1 c hq => exact mayChange_restart_or_startup (fun e => hc (hq.trans (congrArg some e)))
  case h_2 => exact .inl (by decide)

/-- What holds of a lock or an Operational line that only a reset brings down (R644, R678). -/
theorem Frame.lock_operational_until_reset {w : Nat} {s t : State} (h : Frame w s t)
    (hw : Part.out Part.restart w = true ∨ Part.out Part.startup w = true) :
    (s.sys.lock = true → t.sys.lock = true ∨ t.JustReset) ∧ (s.sys.operational = true → t.sys.operational = true ∨ t.JustReset) := by
  rcases hw with hr | hb
  · exact ⟨fun hl => .inl (h.lock hr hl), fun ho => .inl (h.operational hr ho)⟩
  · rcases h.boot hb with ⟨-, eo, el⟩ | reset
    · exact ⟨fun hl => .inl (el.trans hl), fun ho => .inl (eo.trans ho)⟩
    · exact ⟨fun _ => .inr reset, fun _ => .inr reset⟩

theorem Frame.memory_wf {w : Nat} {s t : State} (h : Frame w s t) (hs : Memory.wf s = true) : Memory.wf t = true := by
  obtain ⟨hm, hf⟩ := Bool.and_eq_true_iff.1 hs
  exact Bool.and_eq_true_iff.2 ⟨h.memWf hm, h.flashWf hf⟩

/-- Settles O60: what every step keeps is what its frame keeps whatever parts it names. -/
theorem everyStepKeepsMemoriesOtpAndLock : Obligations.EveryStepKeepsMemoriesOtpAndLock := by
  intro s t h
  have frame := step_frame h
  exact ⟨frame.memory_wf, frame.lt, frame.pending, frame.fuse, frame.floor, frame.revoked, frame.enrolled,
    fun hc => frame.lock_operational_until_reset (State.stepChange_restart_or_startup hc)⟩

/-! ### Each reset source leaves the reset state -/

theorem Table.get_filter {α : Type} (d : α) (t : Table α) (p : Nat → Bool) {n : Nat} (h : p n = true) :
    Table.get d (t.filter (fun e => p e.1)) n = Table.get d t n := by
  induction t with
  | nil => rfl
  | cons e t ih =>
    obtain ⟨k, v⟩ := e
    by_cases hk : p k = true
    · simp [Table.get, hk, ih]
    · have hn : n ≠ k := fun q => hk (q ▸ h)
      simp [Table.get, hk, hn, ih]

/-- What survives a reset (R626) is in `x` as it is in `s`: the memories, the recorder and OTP, the backup domain's word and clock state, the
field side, and the notes of earlier resets. -/
structure State.SameSurvivors (s x : State) : Prop where
  notes : x.sys.notes = s.sys.notes
  mem : x.mem = s.mem
  flash : x.flash = s.flash
  rcd : x.rcd = s.rcd
  sc : x.sc = s.sc
  lastWord : x.bk.lastWord = s.bk.lastWord
  rtcValid : x.bk.rtcValid = s.bk.rtcValid
  fio : x.fio = s.fio

theorem State.SameSurvivors.trans {s x y : State} (h : s.SameSurvivors x) (k : x.SameSurvivors y) : s.SameSurvivors y :=
  ⟨k.notes.trans h.notes, k.mem.trans h.mem, k.flash.trans h.flash, k.rcd.trans h.rcd, k.sc.trans h.sc, k.lastWord.trans h.lastWord,
    k.rtcValid.trans h.rtcValid, k.fio.trans h.fio⟩

theorem State.passTo_sameSurvivors (s : State) (t : Ticks) : s.SameSurvivors (s.passTo t) := by
  unfold State.passTo
  split <;> exact ⟨rfl, rfl, rfl, rfl, rfl, rfl, rfl, rfl⟩

/-- A reset leaves what R626 says, whatever state it finds. -/
theorem State.systemReset_resetFrom (s : State) (reason : Nat) : s.ResetFrom (s.systemReset reason) reason where
  held := rfl
  noted := ⟨⟨reason, s.bk.rtc⟩, rfl, rfl⟩
  just := ⟨.inl rfl, rfl, rfl⟩
  regs := rfl
  outputsOff _ := rfl
  torqueOff _ := rfl
  released := rfl
  noFrames _ := rfl
  portals _ := rfl
  mram _ ha := Table.get_filter 0 s.mem (fun k => decide (0x01000000 ≤ k)) (decide_eq_true ha)
  flash := rfl
  sealed := ⟨rfl, rfl⟩
  otp := ⟨rfl, rfl, rfl, rfl⟩
  backup := ⟨rfl, rfl⟩
  dies _ := rfl

/-- What comes just before a reset does not show in what it leaves, where it touches nothing that survives. -/
theorem State.SameSurvivors.resetFrom {s x t : State} {reason : Nat} (h : s.SameSurvivors x) (hr : x.ResetFrom t reason) :
    s.ResetFrom t reason where
  held := hr.held
  noted := h.notes ▸ hr.noted
  just := hr.just
  regs := hr.regs
  outputsOff := hr.outputsOff
  torqueOff := hr.torqueOff
  released := hr.released
  noFrames := hr.noFrames
  portals := hr.portals
  mram a ha := (hr.mram a ha).trans (congrArg (Table.get 0 · a) h.mem)
  flash := hr.flash.trans h.flash
  sealed := h.rcd ▸ hr.sealed
  otp := h.sc ▸ hr.otp
  backup := ⟨hr.backup.1.trans h.lastWord, hr.backup.2.trans h.rtcValid⟩
  dies k := (hr.dies k).trans (by rw [State.die, State.die, h.fio])

/-- Leaving reset at once changes the start state alone: in reset to BOOT. -/
theorem State.ResetFrom.tryRelease {s t : State} {reason : Nat} (h : s.ResetFrom t reason) : s.ResetFrom t.tryRelease reason := by
  obtain ⟨-, hop, hlock⟩ := h.just
  unfold State.tryRelease
  split
  · exact { h with just := ⟨.inr rfl, hop, hlock⟩ }
  · exact h

@[simp] theorem State.tryRelease_time (s : State) : s.tryRelease.time = s.time := by
  unfold State.tryRelease
  split <;> rfl

@[simp] theorem State.resetNow_lt (s : State) (reason : Nat) : (s.resetNow reason).time.lt = s.time.lt := by
  rw [State.resetNow, State.tryRelease_time]
  rfl

@[simp] theorem State.resetNow_localTime (s : State) (reason : Nat) : (s.resetNow reason).localTime = s.localTime := by
  rw [State.resetNow, State.localTime, State.tryRelease_time]
  rfl

theorem State.le_passTo_lt (s : State) (t : Ticks) : t ≤ (s.passTo t).time.lt :=
  (Nat.le_max_right s.lt t).trans_eq (s.passTo_lt t).symm

theorem State.SameSurvivors.resetFrom_systemReset {s x : State} (h : s.SameSurvivors x) (reason : Nat) :
    s.ResetFrom (x.systemReset reason) reason := h.resetFrom (x.systemReset_resetFrom reason)

theorem State.SameSurvivors.resetFrom_resetNow {s x : State} (h : s.SameSurvivors x) (reason : Nat) :
    s.ResetFrom (x.resetNow reason) reason := (h.resetFrom_systemReset reason).tryRelease

/-- An accepted write of CMD RESET with its key is a reset with the reason SOFTWARE (R696). -/
theorem State.putReg_sysCmdReset (s : State) (m : Nat) (hm : s.mayAccess m false = true) :
    s.putReg m .sysCmd 0 0x52E50001 = s.resetNow 7 :=
  State.putReg_effect s m .sysCmd 0 0x52E50001 none sysCmd_at rfl hm (by decide) (fun h => absurd h (by decide)) (by decide) (by decide)

theorem State.sameSurvivors_outs (s : State) (o : List Out) : s.SameSurvivors { s with outs := o } :=
  ⟨rfl, rfl, rfl, rfl, rfl, rfl, rfl, rfl⟩

/-- A command that is a reset which nothing prolongs; that local time goes on through it is log entry 62. -/
theorem completes_resetNow {c : Instr} {s : State} {f : State → State} {reason : Nat} (h : exec c s = run s f)
    (hf : f { s with outs := [] } = State.resetNow { s with outs := [] } reason) :
    Completes c s (fun t => s.ResetFrom t reason ∧ t.localTime = s.localTime) :=
  completes_run h (hf ▸ ⟨(s.sameSurvivors_outs []).resetFrom_resetNow reason, State.resetNow_localTime _ reason⟩)

/-- Settles O1: what a reset leaves does not depend on what comes just before it, and a release at once changes the start state alone. -/
theorem resetSourcesLeaveTheResetState : Obligations.ResetSourcesLeaveTheResetState := by
  intro s
  refine ⟨fun secs => ?powerOn, fun k => ?brownOut, ?nrst, ?clock, fun hs => ?lockstep, fun hf => ?watchdog, fun m hm => ?software,
    fun hd => ?debug⟩
  case powerOn =>
    refine completes_run (f := fun s => s.powerOn secs) rfl ⟨State.SameSurvivors.resetFrom_systemReset ?_ 1, rfl, rfl, Nat.sub_self _⟩
    exact ⟨rfl, rfl, rfl, rfl, rfl, rfl, rfl, rfl⟩
  case brownOut =>
    refine completes_run (f := fun s => s.brownOut k) rfl ⟨State.SameSurvivors.resetFrom_systemReset ?_ 2, rfl⟩
    exact ⟨rfl, rfl, rfl, rfl, rfl, rfl, rfl, rfl⟩
  case nrst =>
    refine ⟨_, rfl, State.SameSurvivors.resetFrom_systemReset ?_ 3, rfl, rfl⟩
    exact ⟨rfl, rfl, rfl, rfl, rfl, rfl, rfl, rfl⟩
  case clock =>
    refine ⟨_, rfl, State.SameSurvivors.resetFrom_systemReset ?_ 4, rfl, rfl, rfl⟩
    exact ⟨rfl, rfl, rfl, rfl, rfl, rfl, rfl, rfl⟩
  case lockstep =>
    have running : (s.sys.fwRunning || s.sys.start != .inReset) = true := by simpa using hs
    exact completes_resetNow rfl (when_of running _ _)
  case watchdog =>
    have expired : s.SameSurvivors (State.passTo { s with outs := [] } (s.sys.wdogLast + ms 50)) :=
      (s.sameSurvivors_outs []).trans (State.passTo_sameSurvivors _ _)
    refine completes_run rfl ?_
    rw [when_of hf]
    exact ⟨expired.resetFrom_resetNow 6, (State.le_passTo_lt _ _).trans_eq (State.resetNow_lt _ 6).symm⟩
  case software => exact completes_resetNow (f := fun s => s.putReg m .sysCmd 0 0x52E50001) rfl (State.putReg_sysCmdReset _ m hm)
  case debug =>
    have unblown : (!s.sc.debugFuse) = true := by rw [hd]; rfl
    exact completes_resetNow rfl (when_of unblown _ _)

end Sys2Proof.Machine
end

section
/-!
PROOFS. What an access of the internal bus does (R35, R37, R41, R42, R569, R661, R676, R677): the record that a discarded one leaves, which
writes are discarded, and what an accepted one writes.
-/
namespace Sys2Proof.Machine
open Sys2Proof

/-! ### What an address names -/

theorem State.decode_sram (s : State) {a : Nat} (h1 : 0x100000 ≤ a) (h2 : a < 0x500000) :
    s.decode a = if s.domain 0 then .ram else .undecoded := by
  unfold State.decode
  rw [if_neg (by omega), if_pos ⟨h1, h2⟩]

theorem State.decode_mram (s : State) {a : Nat} (h1 : 0x01000000 ≤ a) (h2 : a < 0x02000000) :
    s.decode a = if s.domain 9 then .ram else .undecoded := by
  unfold State.decode
  rw [if_neg (by omega), if_neg (by omega), if_pos ⟨h1, h2⟩]

/-- An address of a block whose domain is off names nothing (R661). -/
theorem State.decode_blockOff {s : State} {a lo hi d : Nat} {blk : Block} (ha : 0x02000000 ≤ a)
    (hb : blockRanges.find? (fun r => decide (r.1 ≤ a ∧ a ≤ r.2.1)) = some (lo, hi, blk)) (hd : blockDomain blk (a - lo) = some d)
    (off : s.domain d = false) : s.decode a = .undecoded := by
  unfold State.decode
  rw [if_neg (by omega), if_neg (by omega), if_neg (by omega), hb]
  simp [hd, State.domainOn, off]

/-- No memory lies above main MRAM. -/
theorem State.decode_ne_ram (s : State) {a : Nat} (ha : 0x02000000 ≤ a) : s.decode a ≠ .ram := by
  unfold State.decode
  rw [if_neg (by omega), if_neg (by omega), if_neg (by omega)]
  split
  · nofun
  · split
    · nofun
    · split <;> nofun

/-- The word around an address of main MRAM lies in main MRAM. -/
theorem State.decode_mramWord {s : State} {a : Nat} (h : s.decode a = .ram) (ha : 0x01000000 ≤ a) :
    s.decode (a / 4 * 4) = .ram ∧ 0x01000000 ≤ a / 4 * 4 := by
  have top : a < 0x02000000 := Nat.lt_of_not_le fun hle => s.decode_ne_ram hle h
  have lo : 0x01000000 ≤ a / 4 * 4 := by omega
  exact ⟨(s.decode_mram lo (by omega)).trans ((s.decode_mram ha top).symm.trans h), lo⟩

/-! ### The record of a discarded access -/

/-- Raising an event counts it in CNT272 at most. -/
theorem State.raiseBody_counter (s : State) (code : Nat) (body : List Byte) {k : Nat} (hk : k ≠ 272) :
    Table.get 0 (s.raiseBody code body).cnt.value k = Table.get 0 s.cnt.value k := by
  unfold State.raiseBody
  dsimp only
  split
  · exact Table.get_set_ne 0 s.cnt.value _ hk
  · rfl

theorem State.raiseRated_counter (s : State) (code inst cause : Nat) (vals : List Byte) {k : Nat} (hk : k ≠ 272) :
    Table.get 0 (s.raiseRated code inst cause vals).cnt.value k = Table.get 0 s.cnt.value k := by
  unfold State.raiseRated
  dsimp only
  split
  · exact State.raiseBody_counter _ _ _ hk
  · split
    · rfl
    · exact State.raiseBody_counter _ _ _ hk

/-- What the record of an event is made from is in `x` as it is in `s`: the recorder with its settings, the time and the role in a twin. -/
structure State.SameRecord (s x : State) : Prop where
  rcd : x.rcd = s.rcd
  regs : x.regs = s.regs
  time : x.time = s.time
  twin : x.twin = s.twin
  role : x.sys.twinRole = s.sys.twinRole

theorem State.SameRecord.set_rcd {s x : State} (h : s.SameRecord x) (r : Recorder) : State.SameRecord { s with rcd := r } { x with rcd := r } :=
  { h with rcd := rfl }

theorem State.SameRecord.raiseBody {s x : State} (h : s.SameRecord x) (code : Nat) (body : List Byte) :
    (x.raiseBody code body).rcd = (s.raiseBody code body).rcd := by
  obtain ⟨hrcd, hregs, htime, htwin, hrole⟩ := h
  have queued : ∀ y : State, (y.raiseBody code body).rcd = (queueRecord (y.rb .recCfg 0 2) (ms (10 * y.rf .recCfg 0 15 8)) y.lt y.rcd
      { code := code, tt := y.tt, tq := y.quality.code, mate := y.standby, body := body }).1 := by
    intro y
    unfold State.raiseBody
    dsimp only
    split <;> rfl
  rw [queued, queued]
  simp only [State.rb, State.rf, State.reg, State.lt, State.tt, State.quality, State.tracker, State.standby, State.holder, hrcd, hregs, htime,
    htwin, hrole]

theorem State.SameRecord.raiseRated {s x : State} (h : s.SameRecord x) (code inst cause : Nat) (vals : List Byte) :
    (x.raiseRated code inst cause vals).rcd = (s.raiseRated code inst cause vals).rcd := by
  have hlt : x.lt = s.lt := congrArg TimeUnit.lt h.time
  unfold State.raiseRated
  dsimp only
  rw [h.rcd, hlt]
  split
  · exact (h.set_rcd _).raiseBody _ _
  · split
    · rfl
    · exact (h.set_rcd _).raiseBody _ _

/-- What a discarded access reads, counts and may not change is in `x` as it is in `s`. -/
structure State.SameBus (s x : State) : Prop extends State.SameRecord s x where
  sys : x.sys = s.sys
  cnt : x.cnt = s.cnt
  mem : x.mem = s.mem
  axes : x.axes = s.axes
  ilk : x.ilk = s.ilk

theorem State.sameBus_outs (s : State) (o : List Out) : s.SameBus { s with outs := o } :=
  { rcd := rfl, regs := rfl, time := rfl, twin := rfl, role := rfl, sys := rfl, cnt := rfl, mem := rfl, axes := rfl, ilk := rfl }

theorem State.SameBus.tblNext {s x : State} (h : s.SameBus x) (i : Nat) : s.SameBus (x.tblNext i) := { h with }

theorem State.discard_keeps (s : State) (a cause m : Nat) (read : Bool) :
    Frame (Part.sys ||| Part.rcd ||| Part.cnt) s (s.discard a cause m read) := State.discard_frame rfl (Frame.refl _ s)

theorem State.discard_sys (s : State) (a cause m : Nat) (read : Bool) :
    (s.discard a cause m read).sys = { s.sys with discAddr := a, discCause := cause, discRead := read, discMaster := m } := by
  unfold State.discard
  rw [State.raiseRated_sys]
  dsimp only
  split_ifs <;> rfl

theorem State.SameRecord.discard {s x : State} (h : s.SameRecord x) (a cause m : Nat) (read : Bool) :
    (x.discard a cause m read).rcd = (s.raiseRated (discardEvent cause) noInst 0 (leBytes 4 a ++ leBytes 1 m)).rcd := by
  unfold State.discard discardEvent
  dsimp only
  split_ifs <;>
    refine State.SameRecord.raiseRated ?_ _ _ _ _ <;>
    exact ⟨h.rcd, h.regs, h.time, h.twin, h.role⟩

/-- Each cause but a write to the boot ROM, which no counter counts (log entry 64), has its counter of R581. -/
theorem State.discard_counter (s : State) (a m : Nat) (read : Bool) {cause : Nat} (hc : cause = 1 ∨ cause = 2 ∨ cause = 3) :
    Table.get 0 (s.discard a cause m read).cnt.value (discardCounter cause) =
      (Table.get 0 s.cnt.value (discardCounter cause) + 1) % 2 ^ 48 := by
  rcases hc with rfl | rfl | rfl <;>
    exact (State.raiseRated_counter _ _ _ _ _ (by decide)).trans (Table.get_set_self 0 s.cnt.value _ _)

/-- The causes of R677 for which a write is discarded. -/
def isDiscardCause (cause : Nat) : Prop := cause = 1 ∨ cause = 2 ∨ cause = 3 ∨ cause = 4

/-- A discarded access leaves what R677 says. -/
theorem State.SameBus.discard {s x : State} (h : s.SameBus x) {cause : Nat} (hc : isDiscardCause cause) (a m : Nat) (read : Bool) :
    s.Discards (x.discard a cause m read) a cause m read := by
  have frame := x.discard_keeps a cause m read
  exact {
    info := (x.discard_sys a cause m read).trans (by rw [h.sys])
    counted := fun hn => by
      have counter : cause = 1 ∨ cause = 2 ∨ cause = 3 := by
        unfold isDiscardCause at hc
        tauto
      rw [x.discard_counter a m read counter, h.cnt]
    recorded := h.toSameRecord.discard a cause m read
    regs := (frame.regs rfl).trans h.regs
    mem := (frame.mem rfl).trans h.mem
    axes := (frame.axes rfl).trans h.axes
    ilk := (frame.ilk rfl).trans h.ilk }

/-! ### Which writes are discarded -/

theorem State.writeCause_undecoded {s : State} {a : Nat} (h : s.decode a = .undecoded) (v : Word) : s.writeCause a v = 1 := by
  rw [State.writeCause, h]

theorem State.writeCause_rom {s : State} {a : Nat} (h : s.decode a = .rom) (v : Word) : s.writeCause a v = 4 := by
  rw [State.writeCause, h]

theorem State.writeCause_reserved {s : State} {a : Nat} (h : s.decode a = .reserved) (v : Word) : s.writeCause a v = 2 := by
  rw [State.writeCause, h]

theorem State.writeCause_ram {s : State} {a : Nat} (h : s.decode a = .ram) (v : Word) : s.writeCause a v = 0 := by
  rw [State.writeCause, h]

/-- After the lock, a write of an RWL register is discarded before its value is looked at (R41). -/
theorem State.writeCause_locked {s : State} {a i j : Nat} {r : RegId} (h : s.decode a = .reg r i j) (hr : (desc r).access = .rwl)
    (hl : s.locked = true) (v : Word) : s.writeCause a v = 3 := by
  simp [State.writeCause, h, hr, hl]

/-- A reserved encoding is the last that is looked at (R21). -/
theorem State.writeCause_refused {s : State} {a i j : Nat} {r : RegId} {v : Word} (h : s.decode a = .reg r i j) (hro : (desc r).access ≠ .ro)
    (hl : (desc r).access = .rwl → s.locked = false) (ht : r ≠ .obsTblData) (hv : writeOk r i j v = false) : s.writeCause a v = 2 := by
  have unlocked : ¬((desc r).access = .rwl ∧ s.locked = true) := fun ⟨ha, hk⟩ => Bool.false_ne_true ((hl ha).symm.trans hk)
  simp [State.writeCause, h, hro, unlocked, ht, hv]

theorem State.isDiscardCause_writeCause {s : State} {a : Nat} {v : Word} (h : s.writeCause a v ≠ 0) : isDiscardCause (s.writeCause a v) := by
  revert h
  unfold State.writeCause isDiscardCause
  split
  case h_5 => split_ifs <;> simp
  all_goals simp

/-- A word write that a discard rule meets. -/
theorem State.SameBus.writeWord {s x : State} (h : s.SameBus x) {a : Nat} {v : Word} (hc : x.writeCause a v ≠ 0) (m : Nat) :
    s.Discards (x.writeWord a v m).1 a (x.writeCause a v) m false ∧ (x.writeWord a v m).2 = false := by
  unfold State.writeWord
  dsimp only
  rw [if_pos hc]
  refine ⟨State.SameBus.discard ?_ (State.isDiscardCause_writeCause hc) a m false, rfl⟩
  split
  · exact h.tblNext _
  · exact h

/-- A word write of a register that no discard rule meets (R42, R313). -/
theorem State.writeWord_accepted {s : State} {a i j : Nat} {r : RegId} {v : Word} (h : s.decode a = .reg r i j) (hro : (desc r).access ≠ .ro)
    (hc : s.writeCause a v = 0) (m : Nat) : s.writeWord a v m = ((s.effect r i j v).paramWritten a (s.reg r i j), true) := by
  simp [State.writeWord, hc, h, hro]

/-! ### Writes on the bus -/

/-- Outside the memories no write finds an MRAM error. -/
theorem State.writeChecked_eq_writeWord {s : State} {a : Nat} (h : s.decode a ≠ .ram) (v : Word) (m : Nat) (bad : Option Nat) :
    s.writeChecked a v m bad = s.writeWord a v m := if_neg fun ⟨hr, _⟩ => h hr

theorem State.SameBus.busWrite {s x : State} (h : s.SameBus x) {a : Nat} {v : Word} (hc : x.writeCause a v ≠ 0) (m : Nat) :
    s.Discards (x.busWrite a v m).1 a (x.writeCause a v) m false := by
  have noRam : x.decode a ≠ .ram := fun hr => hc (x.writeCause_ram hr v)
  obtain ⟨discards, refused⟩ := h.writeWord hc m
  unfold State.busWrite
  rw [State.writeChecked_eq_writeWord noRam]
  dsimp only
  rw [if_neg (by simp [refused])]
  exact discards

theorem State.busWrite_accepted {s : State} {a i j : Nat} {r : RegId} {v : Word} (h : s.decode a = .reg r i j) (hro : (desc r).access ≠ .ro)
    (hc : s.writeCause a v = 0) (hgo : a = regAddr .secCmdCtrl 0 0 → bitOf v 0 = false) (m : Nat) :
    (s.busWrite a v m).1 = (s.effect r i j v).paramWritten a (s.reg r i j) := by
  unfold State.busWrite
  rw [State.writeChecked_eq_writeWord (by simp [h]), State.writeWord_accepted h hro hc]
  dsimp only
  rw [if_neg]
  rintro ⟨-, ha, hb⟩
  exact Bool.false_ne_true ((hgo ha).symm.trans hb)

theorem State.heldWord_lt (s : State) (a : Nat) : s.heldWord a < 2 ^ 32 := by
  unfold State.heldWord
  split
  · split_ifs
    · exact BitVec.isLt _
    · decide
  · decide

/-- A whole word merges with nothing of the register. -/
theorem State.mergedWord_word (s : State) {a : Nat} (ha : a % 4 = 0) (v : Nat) : s.mergedWord a 4 v = BitVec.ofNat 32 v := by
  have lt := s.heldWord_lt (a / 4 * 4)
  have whole : fieldOf (s.heldWord (a / 4 * 4)) 31 0 = s.heldWord (a / 4 * 4) := Nat.mod_eq_of_lt lt
  unfold State.mergedWord
  simpa [ha, whole] using BitVec.eq_of_toNat_eq (by simp)

/-- A narrower access outside the memories is the write of the word it makes (log entry 6). -/
theorem State.accessWrite_narrow {s : State} {a k : Nat} (h : s.decode a ≠ .ram) (hk : k < 8) (v m : Nat) (bad : Option Nat) :
    s.accessWrite a k v m bad = (s.busWrite (a / 4 * 4) (s.mergedWord a k v) m).1 := by
  unfold State.accessWrite
  rw [if_neg h, if_neg (by omega)]

/-- A word access outside the memories is a word write. -/
theorem State.accessWrite_word {s : State} {a : Nat} (h : s.decode a ≠ .ram) (ha : a % 4 = 0) (v m : Nat) (bad : Option Nat) :
    s.accessWrite a 4 v m bad = (s.busWrite a (BitVec.ofNat 32 v) m).1 := by
  rw [State.accessWrite_narrow h (by decide), s.mergedWord_word ha, show a / 4 * 4 = a by omega]

/-- An 8-byte access outside the memories is the write of two words (log entry 6). -/
theorem State.accessWrite_double {s : State} {a : Nat} (h : s.decode a ≠ .ram) (v m : Nat) (bad : Option Nat) :
    s.accessWrite a 8 v m bad = (State.busWrite (s.busWrite a (BitVec.ofNat 32 v) m).1 (a + 4) (BitVec.ofNat 32 (v / 2 ^ 32)) m).1 := by
  unfold State.accessWrite
  simp only [if_neg h, if_true]

/-! ### Writes to the memories -/

@[simp] theorem length_leBytes (k v : Nat) : (leBytes k v).length = k := by
  induction k generalizing v with
  | zero => rfl
  | succ k ih => exact congrArg (· + 1) (ih (v / 256))

theorem getElem_leBytes {k i : Nat} (hi : i < k) (v : Nat) : (leBytes k v)[i]'(by simpa using hi) = BitVec.ofNat 8 (v / 256 ^ i) := by
  induction k generalizing v i with
  | zero => omega
  | succ k ih =>
    cases i with
    | zero => simp [leBytes]
    | succ i => simp [leBytes, ih (Nat.lt_of_succ_lt_succ hi), Nat.pow_succ', Nat.div_div_eq_div_mul]

/-- SRAM and MRAM take the bytes written. -/
theorem State.memByte_setMem_in (s : State) (a v : Nat) {k i : Nat} (hi : i < k) :
    (s.setMem a (leBytes k v)).memByte (a + i) = BitVec.ofNat 8 (v / 256 ^ i) :=
  (get_storeBytes_in 0 _ s.mem a i (by simpa using hi)).trans (getElem_leBytes hi v)

/-- SRAM and MRAM take no byte but those written. -/
theorem State.memByte_setMem_out (s : State) (a v : Nat) {k b : Nat} (hb : b < a ∨ a + k ≤ b) :
    (s.setMem a (leBytes k v)).memByte b = s.memByte b := get_storeBytes_out 0 _ s.mem a b (by simpa using hb)

/-- An access to a memory that finds no MRAM error stores its bytes. -/
theorem State.accessWrite_ram {s : State} {a k : Nat} {bad : Option Nat} (h : s.decode a = .ram) (hk : k ≤ 8)
    (hbad : k < 8 → bad = some (a / 8 * 8) → a < 0x01000000) (v m : Nat) : s.accessWrite a k v m bad = s.setMem a (leBytes k v) := by
  unfold State.accessWrite
  rw [if_pos h]
  split
  case isTrue hlt => exact if_neg fun ⟨hb, ha⟩ => absurd (hbad hlt hb) (Nat.not_lt.2 ha)
  case isFalse hge => rw [show k = 8 by omega]

/-- A narrow access that finds an MRAM error stores nothing and enters degraded mode, but for the parameter store (R569, R676). -/
theorem State.accessWrite_mramError {s : State} {a k : Nat} (h : s.decode a = .ram) (ha : 0x01000000 ≤ a) (hk : k < 8) (v m : Nat) :
    s.accessWrite a k v m (some (a / 8 * 8)) =
      if mramPart (a / 4 * 4 - 0x01000000) = 7 then s else s.mramRead (a / 4 * 4) := by
  obtain ⟨hw, hlo⟩ := State.decode_mramWord h ha
  have word : a / 4 * 4 / 8 * 8 = a / 8 * 8 := by omega
  unfold State.accessWrite State.writeChecked
  rw [if_pos h, if_pos hk, if_pos ⟨rfl, ha⟩, word, if_pos ⟨hw, hlo, rfl⟩]

/-- Raising an event neither enters nor leaves degraded mode. -/
theorem State.raise_degraded (s : State) (code inst : Nat) (vals : List Byte) : (s.raise code inst vals).rcd.degraded = s.rcd.degraded := by
  obtain ⟨_, _, _, h⟩ := raise_rcd' s code inst vals
  rw [h]

theorem State.mramRead_keeps (s : State) (a : Nat) : Frame (Part.rcd ||| Part.cnt) s (s.mramRead a) :=
  State.degrade_frame rfl (Frame.refl _ s)

/-- An uncorrectable error in main MRAM enters degraded mode, or finds it entered (R569). -/
theorem State.mramRead_degraded (s : State) (a : Nat) : (s.mramRead a).rcd.degraded = true := by
  unfold State.mramRead State.degrade
  split
  · assumption
  · exact State.raise_degraded _ _ _ _

/-! ### An access that no block decodes -/

theorem State.discard_outs (s : State) (a cause m : Nat) (read : Bool) : (s.discard a cause m read).outs = s.outs :=
  (s.discard_keeps a cause m read).outs rfl

theorem State.Discards.emit {s t : State} {a cause m : Nat} {read : Bool} (h : s.Discards t a cause m read) (o : Out) :
    s.Discards (t.emit o) a cause m read := { h with }

theorem State.busRead_undecoded {s : State} {a m : Nat} (hm : s.mayAccess m true = true) (hd : s.decode a = .undecoded) :
    s.busRead a m = (s.discard a 1 m true).emit (.readWord a 0) := by
  unfold State.busRead State.readWord
  rw [when_of hm, hd]

theorem State.writeWord_undecoded {s : State} {a : Nat} (hd : s.decode a = .undecoded) (v : Word) (m : Nat) :
    s.writeWord a v m = (s.discard a 1 m false, false) := by
  simp [State.writeWord, State.writeCause_undecoded hd, hd]

/-- Settles O8: such an access is a discard for cause 1, and a block whose domain is off is one that no address names. -/
theorem undecodedAccessReadsZeroOrIsDiscarded : Obligations.UndecodedAccessReadsZeroOrIsDiscarded := by
  refine ⟨fun s addr read m hm hd => ?access, fun s a => ⟨fun h1 h2 off => ?sram, fun h1 h2 off => ?mram,
    fun lo hi blk d hb ha hd off => State.decode_blockOff ha hb hd off⟩⟩
  case access =>
    have undecoded : (s.decode addr.toNat == .undecoded) = true := by rw [hd]; rfl
    have discards := (s.sameBus_outs []).discard (.inl rfl) addr.toNat m read
    have outs := State.discard_outs { s with outs := [] } addr.toNat 1 m read
    cases read with
    | true =>
      refine ⟨_, congrArg Host.Outcome.next ((when_of undecoded _ _).trans (State.busRead_undecoded hm hd)), discards.emit _, ?_⟩
      exact congrArg (· ++ [Out.readWord addr.toNat 0]) outs
    | false =>
      have written := congrArg Prod.fst (State.writeWord_undecoded (s := { s with outs := [] }) hd 0 m)
      refine ⟨_, congrArg Host.Outcome.next ((when_of undecoded _ _).trans ?_), discards, outs⟩
      exact (if_neg nofun).trans ((when_of hm _ _).trans written)
  case sram => rw [s.decode_sram h1 h2, off]; rfl
  case mram => rw [s.decode_mram h1 h2, off]; rfl

/-! ### The command of a register write -/

/-- An aligned write of `k` bytes by a master that reaches the bus is its access. -/
theorem exec_registerWrite {s : State} {a : Word} {size : Fin 4} {k : Nat} (hk : 2 ^ size.val = k) {m : Fin 6}
    (hm : s.mayAccess m false = true) (ha : a.toNat % k = 0) {value : BitVec 64} {ecc : Bool} {t : State}
    (ht : State.accessWrite { s with outs := [] } a.toNat k value.toNat m (if ecc then some (a.toNat / 8 * 8) else none) = t) :
    exec (.registerWrite a size value ecc m) s = .next t := by
  subst hk ht
  have guard : (s.mayAccess m false && a.toNat % 2 ^ size.val == 0) = true := by simp [hm, ha]
  exact congrArg Host.Outcome.next (when_of guard _ _)

/-- An aligned word write outside the memories. -/
theorem exec_wordWrite {s : State} {a : Word} {m : Fin 6} (hm : s.mayAccess m false = true) (ha : a.toNat % 4 = 0)
    (hd : s.decode a.toNat ≠ .ram) (value : BitVec 64) (ecc : Bool) :
    exec (.registerWrite a 2 value ecc m) s = .next (State.busWrite { s with outs := [] } a.toNat (value.setWidth 32) m).1 := by
  rw [← BitVec.ofNat_toNat]
  exact exec_registerWrite rfl hm ha (State.accessWrite_word (s := { s with outs := [] }) hd ha _ _ _)

/-- A word write that a discard rule meets completes with the record of the discard. -/
theorem completes_wordWrite_discarded {s : State} {a : Word} {m : Fin 6} {value : BitVec 64} {cause : Nat} (hm : s.mayAccess m false = true)
    (ha : a.toNat % 4 = 0) (ecc : Bool) (hc : s.writeCause a.toNat (value.setWidth 32) = cause) (h0 : cause ≠ 0) :
    Completes (.registerWrite a 2 value ecc m) s (fun t => s.Discards t a.toNat cause m false) := by
  subst hc
  have noRam : s.decode a.toNat ≠ .ram := fun hr => h0 (s.writeCause_ram hr _)
  exact ⟨_, exec_wordWrite hm ha noRam value ecc, (s.sameBus_outs []).busWrite h0 m⟩

/-- WDOG retriggers the system watchdog (R696). -/
theorem State.putReg_sysCmdWdog (s : State) {m : Nat} (hm : s.mayAccess m false = true) :
    s.putReg m .sysCmd 0 2 = { s with sys := { s.sys with wdogLast := s.lt } } :=
  State.putReg_effect s m .sysCmd 0 2 none sysCmd_at rfl hm (by decide) (fun h => absurd h (by decide)) (by decide) (by decide)

/-- Settles O9: an access that a discard rule meets is a discard for the cause that comes first, any other has its effect. -/
theorem registerWriteTakesEffectOrIsDiscarded : Obligations.RegisterWriteTakesEffectOrIsDiscarded := by
  refine ⟨fun s addr value ecc m hm ha => ⟨fun r i j hd hro hc hgo => ?accepted, fun hd => ?undecoded, fun hd => ?rom,
    fun r i j hd hr hl => ?locked, fun hd => ?reserved, fun r i j hd hro hl ht hv => ?refused,
    fun a size hsize hal haddr hda hd => ?narrow, fun h8 hd => ?double⟩,
    fun s addr size value ecc m hm ha hd => ⟨fun hecc => ?stored, fun hecc hlo hsize => ?mramError⟩, fun s m hm => ?wdog⟩
  case accepted =>
    refine ⟨_, exec_wordWrite hm ha (by simp [hd]) value ecc, ?_⟩
    exact State.busWrite_accepted (s := { s with outs := [] }) hd hro hc hgo m
  case undecoded => exact completes_wordWrite_discarded hm ha ecc (State.writeCause_undecoded hd _) (by decide)
  case rom => exact completes_wordWrite_discarded hm ha ecc (State.writeCause_rom hd _) (by decide)
  case locked => exact completes_wordWrite_discarded hm ha ecc (State.writeCause_locked hd hr hl _) (by decide)
  case reserved => exact completes_wordWrite_discarded hm ha ecc (State.writeCause_reserved hd _) (by decide)
  case refused => exact completes_wordWrite_discarded hm ha ecc (State.writeCause_refused hd hro hl ht hv) (by decide)
  case narrow =>
    have small : 2 ^ size.val < 8 := Nat.pow_lt_pow_right (by decide) (show size.val < 3 by omega)
    have word := exec_wordWrite hm ha hd ((s.mergedWord a.toNat (2 ^ size.val) value.toNat).setWidth 64) ecc
    rw [BitVec.setWidth_setWidth_of_le _ (by decide), BitVec.setWidth_eq, ← haddr] at word
    exact (exec_registerWrite rfl hm hal (State.accessWrite_narrow (s := { s with outs := [] }) hda small _ _ _)).trans word.symm
  case double =>
    refine ⟨_, exec_registerWrite rfl hm h8 (State.accessWrite_double (s := { s with outs := [] }) hd _ _ _), ?_⟩
    rw [BitVec.ofNat_toNat]
  case stored =>
    have bytes : 2 ^ size.val ≤ 8 := Nat.pow_le_pow_right (by decide) (show size.val ≤ 3 by omega)
    refine ⟨_, exec_registerWrite rfl hm ha (State.accessWrite_ram (s := { s with outs := [] }) hd bytes ?_ _ _),
      fun k hk => State.memByte_setMem_in _ _ _ hk, fun b hb => State.memByte_setMem_out _ _ _ hb, rfl⟩
    intro hlt hbad
    rcases hecc with rfl | hlow | h3
    · cases hbad
    · exact hlow
    · rw [h3] at hlt
      exact absurd hlt (by decide)
  case mramError =>
    subst hecc
    have small : 2 ^ size.val < 8 := Nat.pow_lt_pow_right (by decide) hsize
    refine ⟨_, exec_registerWrite rfl hm ha (State.accessWrite_mramError (s := { s with outs := [] }) hd hlo small _ _), ?_⟩
    by_cases store : mramPart (addr.toNat / 4 * 4 - 0x01000000) = 7
    · simp [store]
    · have frame := State.mramRead_keeps { s with outs := [] } (addr.toNat / 4 * 4)
      simp [store, frame.mem rfl, frame.regs rfl, State.mramRead_degraded]
  case wdog => exact ⟨_, congrArg Host.Outcome.next (State.putReg_sysCmdWdog _ hm), rfl, rfl, rfl⟩

end Sys2Proof.Machine
end

section
/-!
PROOFS. The check values of the two CRCs (R58, R682), and how the image of a start is chosen and applied (R78, R79, R87).
-/
namespace Sys2Proof.Machine
open Sys2Proof

/-! ### Check values -/

/-- Settles O10, by evaluating both CRCs on the nine digits. -/
theorem crcCheckValues : Obligations.CrcCheckValues := ⟨by decide +kernel, by decide +kernel⟩

/-! ### Which slot is used -/

theorem chooseSlot_first (x : Image) (f : CatErr) : chooseSlot (.ok x) (.error f) = some (0, x) := rfl

theorem chooseSlot_second (e : CatErr) (y : Image) : chooseSlot (.error e) (.ok y) = some (1, y) := rfl

theorem chooseSlot_neither (e f : CatErr) : chooseSlot (.error e) (.error f) = none := rfl

/-- Of two valid images the higher VERSION is used. -/
theorem chooseSlot_newerFirst {x y : Image} (h : y.version < x.version) : chooseSlot (.ok x) (.ok y) = some (0, x) :=
  if_pos (.inl h)

theorem chooseSlot_newerSecond {x y : Image} (h : x.version < y.version) : chooseSlot (.ok x) (.ok y) = some (1, y) :=
  (if_neg (by omega)).trans (if_pos h)

theorem chooseSlot_same {x y : Image} (hv : x.version = y.version) (hd : x.digest = y.digest) : chooseSlot (.ok x) (.ok y) = some (0, x) :=
  if_pos (.inr ⟨hv, hd⟩)

/-- Two valid images with one VERSION and two DIGESTs are the conflict. -/
theorem chooseSlot_conflict {x y : Image} (hv : x.version = y.version) (hd : x.digest ≠ y.digest) : chooseSlot (.ok x) (.ok y) = none :=
  (if_neg fun h => h.elim (by omega) fun h => hd h.2).trans (if_neg (by omega))

/-- Settles O12, a row of the table of R79 each. -/
theorem slotChoiceFollowsItsTable : Obligations.SlotChoiceFollowsItsTable := fun x y e f =>
  ⟨chooseSlot_first x f, chooseSlot_second e y, chooseSlot_newerFirst, chooseSlot_newerSecond, chooseSlot_same, chooseSlot_conflict,
    chooseSlot_neither e f⟩

/-! ### Rejection and the states for maintenance only -/

/-- An image that fails is rejected in CAT_STATUS and its companions; its event touches the record alone. -/
theorem State.catErr_cat (s : State) (k : Nat) (e : CatErr) : (s.catErr k e).cat = (s.catReject e.event e.tag e.offset).cat :=
  State.raise_cat _ _ _ _

theorem State.noteSlot_sys (s : State) (k : Nat) (r : Except CatErr Image) : (s.noteSlot k r).sys = s.sys :=
  (State.noteSlot_frame (w := Part.cat ||| Part.rcd ||| Part.cnt) rfl (Frame.refl _ s)).sys rfl

theorem State.enterMaint_cat (s : State) (st : StartState) : (s.enterMaint st).cat = s.cat :=
  (State.enterMaint_frame (w := Part.sys ||| Part.rcd ||| Part.cnt ||| Part.fio ||| Part.startup) rfl (Frame.refl _ s)).cat rfl

/-- Starting isolation links touches the field side alone. -/
theorem State.startLinks_sys (s : State) (l : List Nat) : (forEach l State.startLink s).sys = s.sys :=
  (forEach_frame (w := Part.fio) (fun _ _ h => State.startLink_frame rfl h) l (Frame.refl _ s)).sys rfl

theorem State.enterMaint_start (s : State) (st : StartState) : (s.enterMaint st).sys.start = st := by
  unfold State.enterMaint
  rw [State.startLinks_sys, State.raise_sys]
  rfl

/-! ### Selection -/

section Select

variable {s : State} (hstart : s.sys.start = .config) (hrun : s.cat.runSlot = 0)

include hstart hrun

/-- With an image chosen, it is the one that runs (R79). -/
theorem State.catSelect_chosen {k : Nat} {im : Image} (h : chooseSlot (s.catCheck 0 true) (s.catCheck 1 true) = some (k, im)) :
    s.catSelect.cat.runSlot = k + 1 ∧ s.catSelect.cat.version = im.version ∧ s.catSelect.cat.digest = im.digest ∧
      s.catSelect.sys = { s.sys with profile := im.profile } := by
  simp [State.catSelect, hstart, hrun, h, State.noteSlot_sys]

/-- Two valid images with one VERSION are Conflict. -/
theorem State.catSelect_conflict {x y : Image} (hx : s.catCheck 0 true = .ok x) (hy : s.catCheck 1 true = .ok y)
    (h : chooseSlot (.ok x) (.ok y) = none) : s.catSelect = ((s.noteSlot 0 (.ok x)).noteSlot 1 (.ok y)).enterConflict := by
  simp [State.catSelect, hstart, hrun, hx, hy, h]

/-- With no valid image the image is missing. -/
theorem State.catSelect_noImage {e f : CatErr} (he : s.catCheck 0 true = .error e) (hf : s.catCheck 1 true = .error f) :
    s.catSelect = ((s.noteSlot 0 (.error e)).noteSlot 1 (.error f)).enterMaint .noImage := by
  simp [State.catSelect, hstart, hrun, he, hf, chooseSlot_neither]

end Select

/-- What Conflict leaves: both slots marked, and the rejection of each (R87). -/
theorem State.enterConflict_cat (s : State) : s.enterConflict.cat =
    { s.cat with slotA := 3, slotB := 3, conflict := true, errEvent := 0x1015, errTag := 0, errOffset := 0xC,
                 rejectCnt := satInc 0xFFFFFFFE (satInc 0xFFFFFFFE s.cat.rejectCnt) } := by
  unfold State.enterConflict
  rw [State.enterMaint_cat, State.raise_cat]
  rfl

/-- Settles O13: the image chosen, Conflict and the missing image are the three ends of the selection. -/
theorem catalogueSelectUsesTheChosenImage : Obligations.CatalogueSelectUsesTheChosenImage := by
  intro s hstart hrun
  refine ⟨fun k im h => ?chosen, fun a b ha hb h => ?conflict, fun e f he hf => ?missing⟩
  case chosen => exact completes_run rfl (State.catSelect_chosen (s := { s with outs := [] }) hstart hrun h)
  case conflict =>
    refine completes_run rfl ?_
    rw [State.catSelect_conflict (s := { s with outs := [] }) hstart hrun ha hb h, State.enterConflict_cat]
    exact ⟨State.enterMaint_start _ _, rfl, hrun, rfl, rfl, rfl, rfl, rfl, rfl⟩
  case missing =>
    refine completes_run rfl ?_
    rw [State.catSelect_noImage (s := { s with outs := [] }) hstart hrun he hf, State.enterMaint_cat, State.enterMaint_start]
    simp [State.noteSlot, State.catErr_cat, State.catReject, hrun]

/-! ### Application -/

/-- Starting drive links touches the links alone. -/
theorem State.dlStarts_sys (s : State) (l : List Nat) : (forEach l State.dlStart s).sys = s.sys :=
  (forEach_frame (w := Part.links) (fun _ _ h => State.dlStart_frame rfl h) l (Frame.refl _ s)).sys rfl

/-- Loading observer tables touches the observers and the record alone. -/
theorem State.loadAllTables_sys (s : State) (l : List Nat) : (forEach l State.loadTables s).sys = s.sys :=
  (forEach_frame (w := Part.rcd ||| Part.cnt ||| Part.obs) (fun _ _ h => State.loadTables_frame rfl h) l (Frame.refl _ s)).sys rfl

/-- What an applied image leaves in the SYS block (R78, R693); which domains stay on is the rest of it. -/
theorem State.catApply_sys {s : State} {im : Image} (hstart : s.sys.start = .config) (hrun : s.cat.runSlot ≠ 0) (hlock : s.sys.lock = false)
    (him : s.catDecode (s.cat.runSlot - 1) = .ok im) : ∃ (y : Sys) (d : Nat), s.catApply.sys =
      { y with twinRole := im.twinRole, end1 := im.end1, sect := sectBits im.sections, lock := true, start := .selftest, domOn := d } := by
  have guard : (s.sys.start == .config && s.cat.runSlot != 0 && !s.sys.lock) = true := by simp [hstart, hrun, hlock]
  unfold State.catApply
  rw [when_of guard]
  simp only [him]
  rw [State.startLinks_sys, State.dlStarts_sys, State.loadAllTables_sys]
  exact ⟨_, _, rfl⟩

/-- Settles O14. -/
theorem catalogueApplySetsTheLock : Obligations.CatalogueApplySetsTheLock := by
  intro s im hstart hrun hlock him
  obtain ⟨y, d, hsys⟩ := State.catApply_sys (s := { s with outs := [] }) hstart hrun hlock him
  refine completes_run rfl ?_
  rw [hsys]
  exact ⟨rfl, rfl, rfl, rfl, rfl⟩

end Sys2Proof.Machine
end

section
/-!
PROOFS. How the commits of the catalogue and of the firmware end (R81 to R83, R602).
-/
namespace Sys2Proof.Machine
open Sys2Proof

/-! ### The end of a commit -/

/-- The result of a commit goes to its sender; `outMask` is all that it touches. -/
theorem State.commitEnd_keeps (s : State) (c : Commit) (code : Nat) : Frame outMask s (s.commitEnd c code) :=
  State.commitEnd_frame rfl (Frame.refl _ s)

theorem State.commitFails_keeps (s : State) (c : Commit) (fw : Bool) (reason : Nat) : Frame outMask s (s.commitFails c fw reason) :=
  State.commitFails_frame rfl (Frame.refl _ s)

/-- The result of a commit changes no more of the security core than the command buffer. -/
theorem State.commitEnd_fwCommit (s : State) (c : Commit) (code : Nat) : (s.commitEnd c code).sc.fwCommit = s.sc.fwCommit := by
  unfold State.commitEnd
  rw [outcome_sc]
  split <;> rfl

theorem State.commitFails_fwCommit (s : State) (c : Commit) (fw : Bool) (reason : Nat) :
    (s.commitFails c fw reason).sc.fwCommit = s.sc.fwCommit := by
  unfold State.commitFails
  rw [State.commitEnd_fwCommit, State.raise_sc]

/-- An accepted catalogue commit changes nothing of the catalogue's own state. -/
theorem State.commitAccept_cat (s : State) (c : Commit) (im : Image) : (s.commitAccept c im).cat = s.cat :=
  (State.commitAccept_frame (w := outMask ||| Part.ilk ||| Part.mem) rfl (Frame.refl _ s)).cat rfl

/-- Without a change of the SAFE payload an accepted commit writes its commit record alone (R81). -/
theorem State.commitAccept_mem {s : State} {im : Image} (h : im.safe = s.cat.safe) (c : Commit) :
    (s.commitAccept c im).mem = (s.saveParam (2 + c.slot) im.digest).mem := by
  unfold State.commitAccept
  simp only [if_pos h]
  exact ((State.commitEnd_keeps _ c 0).mem rfl).trans (State.raise_mem _ _ _ _)

/-- Saving a parameter touches the memory alone. -/
theorem State.saveParam_keeps (s : State) (id : Nat) (v : List Byte) : Frame Part.mem s (s.saveParam id v) :=
  State.saveParam_frame rfl (Frame.refl _ s)

/-- The copies of a parameter depend on the memory alone. -/
theorem State.saveParam_mem_congr {s x : State} (h : x.mem = s.mem) (id : Nat) (v : List Byte) :
    (x.saveParam id v).mem = (s.saveParam id v).mem := by
  simp only [State.saveParam, forEach_cons, forEach_nil, State.setMem, h]

theorem State.savePw_cat (s : State) : s.savePw.cat = s.cat := (State.savePw_frame (w := Part.mem) rfl (Frame.refl _ s)).cat rfl

/-- A password that does not match is counted, and the fifth in a row starts the lockout (R83; log entry 68). -/
theorem State.pwFailed_cat (s : State) : s.pwFailed.cat =
    { s.cat with pwFail := satInc 0xFFFFFFFF s.cat.pwFail, lockout := decide (5 ≤ satInc 0xFFFFFFFF s.cat.pwFail),
                 lockoutUntil := if 5 ≤ satInc 0xFFFFFFFF s.cat.pwFail then s.bk.rtc + 900 else s.cat.lockoutUntil } := by
  unfold State.pwFailed
  rw [State.raise_cat, State.savePw_cat]

/-- The lockout lasts 15 minutes (R83). -/
theorem State.pwFailed_lockout {s : State} (h : 5 ≤ s.pwFailed.cat.pwFail) :
    s.pwFailed.cat.lockout = true ∧ s.pwFailed.cat.lockoutUntil = s.bk.rtc + 15 * 60 := by
  rw [State.pwFailed_cat] at h ⊢
  exact ⟨decide_eq_true h, if_pos h⟩

/-- The lockout's end clears it (R83); the time that passes until then does not touch the catalogue. -/
theorem State.pwLockoutEnd_cat {s : State} (hl : s.cat.lockout = true) : s.pwLockoutEnd.cat = { s.cat with lockout := false } := by
  rw [State.pwLockoutEnd, when_of hl, State.savePw_cat]
  simp only [State.pass_cat]

/-! ### The check of a catalogue commit ends -/

/-- The state in which the check of a catalogue commit ends: the commit is no longer pending. -/
abbrev State.commitTaken (s : State) : State := { s with cat := { s.cat with commit := none } }

section CatCommit

variable {s : State} {c : Commit} (hc : s.cat.commit = some c)

include hc

/-- An image that fails its check is rejected and nothing is stored (R81). -/
theorem State.catCommitDone_error {e : CatErr} (he : s.commitTaken.catCheck c.slot false = .error e) :
    s.catCommitDone.cat = (s.commitTaken.catReject e.event e.tag e.offset).cat ∧ s.catCommitDone.mem = s.mem := by
  have fails : s.catCommitDone = (s.commitTaken.catErr c.slot e).commitFails c false 4 := by simp only [State.catCommitDone, hc, he]
  have keeps := State.commitFails_keeps (s.commitTaken.catErr c.slot e) c false 4
  rw [fails, keeps.cat rfl, keeps.mem rfl, State.catErr, State.raise_cat, State.raise_mem]
  exact ⟨rfl, rfl⟩

variable {im : Image} (him : s.commitTaken.catCheck c.slot false = .ok im)

include him

/-- Where the image that runs has the SAFE payload of the commit's, no password is asked (R82). -/
theorem State.catCommitDone_noPassword (hrun : s.cat.runSlot ≠ 0) (hsafe : im.safe = s.cat.safe) :
    s.catCommitDone.cat = s.commitTaken.cat ∧ s.catCommitDone.mem = (s.saveParam (2 + c.slot) im.digest).mem := by
  have unneeded : (s.cat.runSlot == 0 || im.safe != s.cat.safe) = false := by simp [hrun, hsafe]
  have accepts : s.catCommitDone = s.commitTaken.commitAccept c im := by simp [State.catCommitDone, hc, him, unneeded]
  rw [accepts, State.commitAccept_cat, State.commitAccept_mem (s := s.commitTaken) hsafe]
  exact ⟨rfl, State.saveParam_mem_congr rfl _ _⟩

variable (hneed : s.cat.runSlot = 0 ∨ im.safe ≠ s.cat.safe)

include hneed

/-- Elsewhere the lockout comes first, then the password (R82, R83). -/
theorem State.catCommitDone_password : s.catCommitDone =
    if s.pwLocked then ((s.commitTaken.catReject 0x1013 0 0).raise 0x1013 noInst).commitFails c false 6
    else if s.passwordOk c.cmd (if s.cat.runSlot = 0 then im.safe else s.cat.safe) then
      (State.savePw { s with cat := { s.cat with commit := none, pwFail := 0, lockout := false } }).commitAccept c im
    else ((s.commitTaken.catReject 0x1012 0 0).pwFailed).commitFails c false 5 := by
  have needed : (s.cat.runSlot == 0 || im.safe != s.cat.safe) = true := by simpa using hneed
  simp only [State.catCommitDone, hc, him, needed]
  rfl

theorem State.catCommitDone_lockedOut (hl : s.pwLocked = true) :
    s.catCommitDone.cat = (s.commitTaken.catReject 0x1013 0 0).cat ∧ s.catCommitDone.mem = s.mem := by
  have keeps := State.commitFails_keeps ((s.commitTaken.catReject 0x1013 0 0).raise 0x1013 noInst) c false 6
  rw [State.catCommitDone_password hc him hneed, if_pos hl, keeps.cat rfl, keeps.mem rfl, State.raise_cat, State.raise_mem]
  exact ⟨rfl, rfl⟩

theorem State.catCommitDone_wrongPassword (hl : s.pwLocked = false)
    (hp : s.passwordOk c.cmd (if s.cat.runSlot = 0 then im.safe else s.cat.safe) = false) :
    s.catCommitDone.cat = (s.commitTaken.catReject 0x1012 0 0).pwFailed.cat := by
  rw [State.catCommitDone_password hc him hneed, hl, hp]
  exact (State.commitFails_keeps _ c false 5).cat rfl

theorem State.catCommitDone_rightPassword (hl : s.pwLocked = false)
    (hp : s.passwordOk c.cmd (if s.cat.runSlot = 0 then im.safe else s.cat.safe) = true) :
    s.catCommitDone.cat = { s.cat with commit := none, pwFail := 0, lockout := false } := by
  rw [State.catCommitDone_password hc him hneed, hl, hp]
  exact (State.commitAccept_cat _ c im).trans (State.savePw_cat _)

end CatCommit

/-! ### The check of a firmware commit ends -/

section FwCommit

variable {s : State} {c : Commit} (hc : s.sc.fwCommit = some c)

include hc

/-- A firmware image that fails: nothing of the commit record is written. -/
theorem State.fwCommitDone_fails {e : Nat} (he : s.fwCheck5 c.slot = some e) :
    s.fwCommitDone.sc.fwCommit = none ∧ s.fwCommitDone.mem = s.mem ∧ s.fwCommitDone.bk = s.bk := by
  have checked : State.fwCheck5 { s with sc := { s.sc with fwCommit := none } } c.slot = some e := he
  simp only [State.fwCommitDone, hc, checked]
  have keeps := State.commitFails_keeps (State.raise { s with sc := { s.sc with fwCommit := none } } e (c.slot + 1)) c true 4
  rw [State.commitFails_fwCommit, keeps.mem rfl, keeps.bk rfl, State.raise_sc, State.raise_mem, State.raise_bk]
  exact ⟨rfl, rfl, rfl⟩

/-- A firmware image that passes: its commit record is written (R602). -/
theorem State.fwCommitDone_passes (hp : s.fwCheck5 c.slot = none) :
    s.fwCommitDone.sc.fwCommit = none ∧ s.fwCommitDone.mem = (s.saveParam (4 + c.slot) c.digest).mem ∧ s.fwCommitDone.flash = s.flash := by
  have checked : State.fwCheck5 { s with sc := { s.sc with fwCommit := none } } c.slot = none := hp
  have saved := State.saveParam_keeps { s with sc := { s.sc with fwCommit := none } } (4 + c.slot) c.digest
  simp only [State.fwCommitDone, hc, checked]
  rw [State.commitEnd_fwCommit, (State.commitEnd_keeps _ c 0).mem rfl, (State.commitEnd_keeps _ c 0).flash rfl, State.raise_sc, State.raise_mem,
    State.raise_flash]
  dsimp only
  rw [saved.sc rfl, saved.flash rfl]
  exact ⟨rfl, State.saveParam_mem_congr rfl _ _, rfl⟩

end FwCommit

/-- Settles O15: a commit that fails touches the rejection fields and the command's result alone, one that passes writes its record. What a
rejection leaves in those fields is log entry 66; that each failure from the fifth on starts the lockout is log entry 68. -/
theorem commitsEnd : Obligations.CommitsEnd := by
  refine ⟨fun s c hc => ⟨fun e he => ?imageFails, fun im him => ⟨fun hrun hsafe => ?noPassword, fun hneed hl => ?lockedOut,
    fun hneed hl hp => ?wrongPassword, fun hneed hl hp => ?rightPassword⟩, fun hl => ?lockoutEnds⟩, fun s c hc => ?firmware⟩
  case imageFails =>
    obtain ⟨hcat, hmem⟩ := State.catCommitDone_error (s := { s with outs := [] }) hc he
    exact completes_run rfl (by rw [hcat]; exact ⟨rfl, rfl, rfl, rfl, hmem⟩)
  case noPassword =>
    obtain ⟨hcat, hmem⟩ := State.catCommitDone_noPassword (s := { s with outs := [] }) hc him hrun hsafe
    exact completes_run rfl ⟨hcat, hmem.trans (State.saveParam_mem_congr rfl _ _)⟩
  case lockedOut =>
    obtain ⟨hcat, hmem⟩ := State.catCommitDone_lockedOut (s := { s with outs := [] }) hc him hneed hl
    exact completes_run rfl (by rw [hcat]; exact ⟨rfl, rfl, rfl, hmem⟩)
  case wrongPassword =>
    have hcat := State.catCommitDone_wrongPassword (s := { s with outs := [] }) hc him hneed hl hp
    refine completes_run rfl ?_
    rw [hcat]
    exact ⟨congrArg Cat.commit (State.pwFailed_cat _), congrArg Cat.pwFail (State.pwFailed_cat _), congrArg Cat.errEvent (State.pwFailed_cat _),
      State.pwFailed_lockout⟩
  case rightPassword => exact completes_run rfl (State.catCommitDone_rightPassword (s := { s with outs := [] }) hc him hneed hl hp)
  case lockoutEnds => exact completes_run rfl (State.pwLockoutEnd_cat (s := { s with outs := [] }) hl)
  case firmware =>
    refine completes_run rfl ?_
    cases hcheck : s.fwCheck5 c.slot with
    | some e => exact State.fwCommitDone_fails (s := { s with outs := [] }) hc hcheck
    | none => exact State.fwCommitDone_passes (s := { s with outs := [] }) hc hcheck

end Sys2Proof.Machine
end

section
/-!
PROOFS. What an accepted critical command of the catalogue, of the firmware, of the keys and of the maintenance sessions does (R81, R602, R606
to R610, R614, R617).
-/
namespace Sys2Proof.Machine
open Sys2Proof

/-! ### A command that starts with a fresh record of outputs -/

/-- A loop whose body does not look at the outputs carries them through. -/
theorem forEach_outs {α : Type} {f : State → α → State} {o : List Out} (hf : ∀ x i, f { x with outs := o } i = { f x i with outs := o }) :
    ∀ (l : List α) (s : State), forEach l f { s with outs := o } = { forEach l f s with outs := o }
  | [], _ => rfl
  | i :: l, s => by rw [forEach_cons, forEach_cons, hf, forEach_outs hf l]

theorem State.offered_outs (s : State) (conn : Option (Fin 64)) (b : List Byte) (o : List Out) :
    State.offered { s with outs := o } conn b = { s.offered conn b with outs := o } := by
  cases conn with
  | some _ => rfl
  | none =>
    unfold State.offered
    dsimp only
    rw [forEach_outs]
    intro x i
    split <;> rfl

/-- Acceptance does not look at the outputs. -/
theorem State.Accepts.outs {s y : State} {code : Nat} {conn : Option (Fin 64)} {b : List Byte} (h : s.Accepts code conn b y) (o : List Out) :
    State.Accepts { s with outs := o } code conn b { y with outs := o } where
  code := h.code
  domain := h.domain
  path := h.path
  owns := h.owns
  awake := h.awake
  room := h.room
  found := by rw [State.offered_outs, h.found]
  passes := h.passes
  alone := h.alone

/-! ### What is handed over, and what is left of it -/

/-- The keys, the enrolments, the firmware commit and the sessions of `t` are those of `s`. -/
structure State.SameSecurity (s t : State) : Prop where
  keys : t.sc.keys = s.sc.keys
  enrolled : t.sc.enrolled = s.sc.enrolled
  fwCommit : t.sc.fwCommit = s.sc.fwCommit
  sessions : t.sc.sessions = s.sc.sessions

/-- What the core hands over: `x` is the accepting state `s` with the command's counter stored and the acceptance recorded; `y` is the state
in which the core found the command. -/
structure State.HandsOver (s y x : State) (b : List Byte) : Prop where
  accepted : Frame (Part.sc ||| Part.mem ||| Part.rcd ||| Part.cnt ||| Part.regs ||| Part.outs) s x
  found : Frame (Part.sc ||| Part.mem ||| Part.rcd ||| Part.cnt ||| Part.outs) y x
  security : s.SameSecurity x
  stored : x.counterOf (cmdKeyOf b) = cmdCounter b

/-- What the outcome of a command leaves of the state `r` that its block made. -/
structure State.Answered (r t : State) : Prop where
  frame : Frame outMask r t
  security : r.SameSecurity t
  counters : t.sc.counters = r.sc.counters

/-- The offer of a command touches no more of the security core than the flags of the command buffer. -/
theorem State.offered_security (s : State) (conn : Option (Fin 64)) (b : List Byte) : s.SameSecurity (s.offered conn b) := by
  obtain ⟨_, _, _, hsc⟩ := offered_sc s conn b
  constructor <;> rw [hsc]

theorem State.SameSecurity.trans {a b c : State} (h : a.SameSecurity b) (k : b.SameSecurity c) : a.SameSecurity c :=
  ⟨k.keys.trans h.keys, k.enrolled.trans h.enrolled, k.fwCommit.trans h.fwCommit, k.sessions.trans h.sessions⟩

theorem Handed.security {y x : State} {b : List Byte} (h : Handed y x b) : y.SameSecurity x := by
  obtain ⟨_, _, _, _, hx⟩ := h.shape
  constructor <;> rw [hx]

theorem Handed.stored {y x : State} {b : List Byte} (h : Handed y x b) : x.counterOf (cmdKeyOf b) = cmdCounter b := by
  obtain ⟨_, _, _, _, hx⟩ := h.shape
  rw [hx]
  exact Table.get_set_self _ _ _ _

theorem outcomeOf_answered (r : State × Option Nat) (cn : Option Nat) (b : List Byte) (a : TimeNs) (tq : Nat) :
    State.Answered r.1 (outcomeOf r cn b a tq) := by
  obtain ⟨frame, _, _, _, hsc⟩ := outcome_keep r cn b a tq
  exact ⟨frame, ⟨by rw [hsc], by rw [hsc], by rw [hsc], by rw [hsc]⟩, by rw [hsc]⟩

/-- An accepted command completes with what its block makes of the state handed over, once its outcome is given. -/
theorem completes_accepted {c : Instr} {s y : State} {code : Nat} {conn : Option (Fin 64)} {b : List Byte} {post : State → Prop}
    (hrow : exec c s = run s (fun s => s.cmdRow code conn b true)) (h : s.Accepts code conn b y) (hcode : code ≠ 0x0F01)
    (hp : ∀ x t, s.HandsOver y x b → State.Answered (x.handover (conn.map Fin.val) b).1 t → post t) : Completes c s post := by
  have offered : Frame (Part.regs ||| Part.sc) s y := h.found ▸ offered_frame s conn b
  have security : s.SameSecurity y := h.found ▸ State.offered_security s conn b
  have fresh : Frame Part.outs y { y with outs := [] } := Frame.set_outs rfl (Frame.refl _ y)
  obtain ⟨x, a, tq, handed, row⟩ := accept_eq (h.outs []) hcode
  have found : Frame (Part.sc ||| Part.mem ||| Part.rcd ||| Part.cnt ||| Part.outs) y x := (fresh.mono rfl).trans (handed.frame.mono rfl)
  refine completes_run hrow ?_
  rw [row]
  exact hp x _ ⟨(offered.mono rfl).trans (found.mono rfl), found, security.trans { handed.security with }, handed.stored⟩
    (outcomeOf_answered _ _ _ _ _)

/-- A block that leaves the counters leaves the command's stored (R606). -/
theorem State.HandsOver.answered_stored {s y x r t : State} {b : List Byte} (h : s.HandsOver y x b) (ha : State.Answered r t)
    (hr : r.sc.counters = x.sc.counters) : t.counterOf (cmdKeyOf b) = cmdCounter b := by
  rw [← h.stored, State.counterOf, State.counterOf, ha.counters, hr]

/-! ### What each block does -/

theorem State.slotDigest_congr {s x : State} (h : x.flash = s.flash) (k : Nat) : x.slotDigest k = s.slotDigest k := by
  simp only [State.slotDigest, State.flashBytes, State.flashByte, h]

theorem State.key_congr {s x : State} (h : x.sc.keys = s.sc.keys) (k : Nat) : x.key k = s.key k := by
  rw [State.key, State.key, h]

theorem State.installedKey_congr {s x : State} (h : x.sc.keys = s.sc.keys) (b : List Byte) : x.installedKey b = s.installedKey b := by
  simp only [State.installedKey, State.key_congr h]

theorem State.partnerIp_congr {s x : State} (hregs : x.regs = s.regs) (htrdp : x.trdp = s.trdp) (k : Nat) : x.partnerIp k = s.partnerIp k := by
  rw [State.partnerIp, State.partnerIp, State.reg, State.reg, hregs, htrdp]

theorem State.connIp_congr {s x : State} (hregs : x.regs = s.regs) (htrdp : x.trdp = s.trdp) (hconns : x.conns = s.conns) (c : Nat) :
    x.connIp c = s.connIp c := by
  have hrb : ∀ r i k, x.rb r i k = s.rb r i k := fun r i k => by rw [State.rb, State.rb, State.reg, State.reg, hregs]
  have hrf : ∀ r i hi lo, x.rf r i hi lo = s.rf r i hi lo := fun r i hi lo => by rw [State.rf, State.rf, State.reg, State.reg, hregs]
  simp only [State.connIp, hrb, hrf, State.partnerIp_congr hregs htrdp, State.conn, hconns]

/-- The check of a catalogue commit begins where none of R81's reasons against it holds. -/
theorem State.doCatCommit_begins {s : State} {b : List Byte} (cn : Option Nat) (hrun : s.cat.runSlot ≠ byteAt (cmdParams b) 0 + 1)
    (hd : slice (cmdParams b) 4 48 = s.slotDigest (2 + byteAt (cmdParams b) 0)) (hc : s.cat.commit = none) :
    (s.doCatCommit cn b).1 = { s with cat := { s.cat with
      commit := some ⟨byteAt (cmdParams b) 0, slice (cmdParams b) 4 48, b, cn.getD 0xFFFF⟩ } } := by
  simp [State.doCatCommit, hrun, hd, hc]

/-- The check of a firmware commit begins where none of R602's reasons against it holds. -/
theorem State.doFwCommit_begins {s : State} {b : List Byte} (cn : Option Nat)
    (hrun : s.sys.fwRunning = true → s.sys.fwSlot ≠ byteAt (cmdParams b) 0 + 1)
    (hd : slice (cmdParams b) 4 48 = s.slotDigest (byteAt (cmdParams b) 0)) (hc : s.sc.fwCommit = none) :
    (s.doFwCommit cn b).1 = { s with sc := { s.sc with
      fwCommit := some ⟨byteAt (cmdParams b) 0, slice (cmdParams b) 4 48, b, cn.getD 0xFFFF⟩ } } := by
  have other : ¬(s.sys.fwRunning = true ∧ s.sys.fwSlot = byteAt (cmdParams b) 0 + 1) := fun ⟨hr, hs⟩ => hrun hr hs
  simp [State.doFwCommit, other, hd, hc]

/-- An installed key replaces the one at its index and counts a generation (log entry 65). -/
theorem State.installKey_sc (s : State) (k : Nat) (key : List Byte) (perm : Nat) : (s.installKey k key perm).sc =
    { s.sc with keys := Table.set {} s.sc.keys k { present := true, key := key, perm := perm, gen := (s.key k).gen + 1 } } := by
  have wrapped := State.wrapKey_frame (w := Part.mem ||| Part.free) (k := k) (key := key) (perm := perm) (gen := (s.key k).gen + 1) rfl
    (Frame.refl _ s)
  simp only [State.installKey, wrapped.sc rfl]

theorem State.doKeyInstall_installs {s : State} {b key : List Byte} (h : s.installedKey b = some key) :
    (s.doKeyInstall b).1.sc = (s.installKey (byteAt (cmdParams b) 0) key (beAt (cmdParams b) 2 2)).sc := by
  unfold State.installedKey at h
  dsimp only at h
  unfold State.doKeyInstall
  extract_lets p kek
  rw [h]
  exact State.raise_sc _ _ _ _

/-- A retired key is gone and its index keeps its generation. -/
theorem State.doKeyRetire_sc (s : State) (b : List Byte) : (s.doKeyRetire b).1.sc =
    { s.sc with keys := Table.set {} s.sc.keys (byteAt (cmdParams b) 0) { gen := (s.key (byteAt (cmdParams b) 0)).gen } } := by
  have erased := State.unwrapErase_frame (k := byteAt (cmdParams b) 0) (w := Part.mem) rfl (Frame.refl _ s)
  simp only [State.doKeyRetire, State.raise_sc, erased.sc rfl]

theorem State.doEnrol_enrols {s : State} (h : s.sc.enrolled.length < 4) (b : List Byte) : (s.doEnrol b).1.sc =
    { s.sc with enrolled := s.sc.enrolled ++ [(beAt (cmdParams b) 0 48, beAt (cmdParams b) 48 48)] } := by
  simp [State.doEnrol, Nat.not_le.2 h]

/-- The four slots of OTP are all (R610). -/
theorem State.doEnrol_full {s : State} (h : s.sc.enrolled.length = 4) (b : List Byte) : (s.doEnrol b).1.sc = s.sc := by
  simp [State.doEnrol, h]

theorem State.doFuse_sc (s : State) : s.doFuse.1.sc = { s.sc with debugFuse := true } := State.raise_sc _ _ _ _

/-- The source of a session: the connection's remote address, or the partner that the command names (R614). -/
def State.sessionIp (s : State) (conn : Option Nat) (b : List Byte) : Nat := match conn with
  | some c => s.connIp c
  | none => s.partnerIp (byteAt (cmdParams b) 2)

theorem State.doSession_opens {s : State} {cn : Option Nat} {b : List Byte}
    (h : (s.sc.sessions.filter (fun q => q.ip != s.sessionIp cn b)).length < 4) : (s.doSession cn b).1.sc =
    { s.sc with sessions := s.sc.sessions.filter (fun q => q.ip != s.sessionIp cn b) ++
                              [⟨s.sessionIp cn b, s.lt + sec (60 * beAt (cmdParams b) 0 2)⟩] } := by
  have room : ¬4 ≤ (s.sc.sessions.filter (fun q => q.ip != s.sessionIp cn b)).length := Nat.not_le.2 h
  cases cn <;>
    simp only [State.sessionIp] at room ⊢ <;>
    simp only [State.doSession, if_neg room, State.raise_sc]

/-! ### Which block takes which command -/

section Handover

variable {b : List Byte} (s : State) (cn : Option Nat)

theorem State.handover_catCommit (h : cmdCode b = 0x0201) : (s.handover cn b).1 = (s.doCatCommit cn b).1 := by
  simp only [State.handover, h]
theorem State.handover_fwCommit (h : cmdCode b = 0x0202) : (s.handover cn b).1 = (s.doFwCommit cn b).1 := by
  simp only [State.handover, h]
theorem State.handover_keyInstall (h : cmdCode b = 0x0301) : (s.handover cn b).1 = (s.doKeyInstall b).1 := by
  simp only [State.handover, h]
theorem State.handover_keyRetire (h : cmdCode b = 0x0302) : (s.handover cn b).1 = (s.doKeyRetire b).1 := by
  simp only [State.handover, h]
theorem State.handover_enrol (h : cmdCode b = 0x0303) : (s.handover cn b).1 = (s.doEnrol b).1 := by
  simp only [State.handover, h]
theorem State.handover_fuse (h : cmdCode b = 0x0304) : (s.handover cn b).1 = s.doFuse.1 := by
  simp only [State.handover, h]
theorem State.handover_session (h : cmdCode b = 0x0701) : (s.handover cn b).1 = (s.doSession cn b).1 := by
  simp only [State.handover, h]

end Handover

/-! ### The commands -/

/-- A key written at an index is the key there, and every other index keeps its own. -/
theorem State.key_written {s z : State} {k : Nat} {v : CmdKey} (h : z.sc.keys = Table.set {} s.sc.keys k v) :
    z.key k = v ∧ ∀ i, i ≠ k → z.key i = s.key i := by
  simp only [State.key, h]
  exact ⟨Table.get_set_self _ _ _ _, fun i hi => Table.get_set_ne _ _ _ hi⟩

/-- Settles O16: each command's block finds the state as the command did but for the counter stored, and its outcome leaves what the block
made. That a key counts its generations is log entry 65, and what makes another commit is log entry 66. -/
theorem acceptedKeyCommandsAct : Obligations.AcceptedKeyCommandsAct := by
  intro s y conn b
  refine ⟨fun h hrun hd hc => ?catCommit, fun h hrun hd hc => ?fwCommit, fun key h hkey => ?keyInstall, fun h => ?keyRetire,
    fun h hroom => ?enrol, fun h hfull => ?enrolFull, fun h => ?fuse, fun ip h hip hroom => ?session⟩
  case catCommit =>
    refine completes_accepted rfl h (by decide) fun x z hx ha => ?_
    have hcat := hx.accepted.cat rfl
    rw [State.handover_catCommit x _ h.code, State.doCatCommit_begins _ (by rwa [hcat]) (by rwa [State.slotDigest_congr (hx.accepted.flash rfl)])
      (by rwa [hcat])] at ha
    exact ⟨hx.answered_stored ha rfl, by rw [ha.frame.cat rfl, hcat]⟩
  case fwCommit =>
    refine completes_accepted rfl h (by decide) fun x z hx ha => ?_
    rw [State.handover_fwCommit x _ h.code, State.doFwCommit_begins _ (by rwa [hx.accepted.sys rfl])
      (by rwa [State.slotDigest_congr (hx.accepted.flash rfl)]) (by rwa [hx.security.fwCommit])] at ha
    exact ⟨hx.answered_stored ha rfl, ha.security.fwCommit⟩
  case keyInstall =>
    refine completes_accepted rfl h (by decide) fun x z hx ha => ?_
    have offered : s.SameSecurity y := h.found ▸ s.offered_security conn b
    have carried : x.installedKey b = some key := (State.installedKey_congr (hx.security.keys.trans offered.keys.symm) b).trans hkey
    have block := State.doKeyInstall_installs carried
    rw [State.installKey_sc] at block
    rw [State.handover_keyInstall x _ h.code] at ha
    have written := ha.security.keys
    rw [block, hx.security.keys, State.key_congr hx.security.keys] at written
    dsimp only at written
    obtain ⟨here, others⟩ := State.key_written (s := s) written
    refine ⟨hx.answered_stored ha (by rw [block]), here, others, ?_⟩
    rw [ha.security.enrolled, block, hx.security.enrolled]
  case keyRetire =>
    refine completes_accepted rfl h (by decide) fun x z hx ha => ?_
    have block := x.doKeyRetire_sc b
    rw [State.handover_keyRetire x _ h.code] at ha
    have written := ha.security.keys
    rw [block, hx.security.keys] at written
    obtain ⟨here, others⟩ := State.key_written (s := s) written
    refine ⟨hx.answered_stored ha (by rw [block]), by rw [here], others, ?_⟩
    rw [ha.security.enrolled, block, hx.security.enrolled]
  case enrol =>
    refine completes_accepted rfl h (by decide) fun x z hx ha => ?_
    have block := State.doEnrol_enrols (s := x) (by rwa [hx.security.enrolled]) b
    rw [State.handover_enrol x _ h.code] at ha
    refine ⟨hx.answered_stored ha (by rw [block]), ?_, ?_⟩
    · rw [ha.security.enrolled, block, hx.security.enrolled]
    · rw [ha.security.keys, block, hx.security.keys]
  case enrolFull =>
    refine completes_accepted rfl h (by decide) fun x z hx ha => ?_
    have block := State.doEnrol_full (s := x) (by rwa [hx.security.enrolled]) b
    rw [State.handover_enrol x _ h.code] at ha
    exact ⟨hx.answered_stored ha (by rw [block]), by rw [ha.security.enrolled, block, hx.security.enrolled]⟩
  case fuse =>
    refine completes_accepted rfl h (by decide) fun x z hx ha => ?_
    have block := x.doFuse_sc
    rw [State.handover_fuse x _ h.code] at ha
    exact ⟨hx.answered_stored ha (by rw [block]), ha.frame.fuse (by rw [block]), by rw [ha.security.keys, block, hx.security.keys]⟩
  case session =>
    refine completes_accepted rfl h (by decide) fun x z hx ha => ?_
    have source : x.sessionIp (conn.map Fin.val) b = ip := by
      rw [hip]
      cases conn with
      | some c => exact State.connIp_congr (hx.found.regs rfl) (hx.found.trdp rfl) (hx.found.conns rfl) c
      | none => exact State.partnerIp_congr (hx.found.regs rfl) (hx.found.trdp rfl) _
    have block := State.doSession_opens (s := x) (cn := conn.map Fin.val) (b := b) (by rwa [source, hx.security.sessions])
    rw [State.handover_session x _ h.code] at ha
    refine ⟨hx.answered_stored ha (by rw [block]), ?_⟩
    rw [ha.security.sessions, block, source, hx.security.sessions, State.lt, State.lt, hx.accepted.time rfl]

end Sys2Proof.Machine
end

section
/-!
PROOFS. The Portal Sequencer's transitions (R104, R107, R110, R119, R122, R123, R645): the state that each operation of a portal takes it to.
-/
namespace Sys2Proof.Machine
open Sys2Proof

/-! ### What the inputs are read from -/

section Inputs

variable {s x : State} (hregs : x.regs = s.regs)

include hregs

theorem State.rf_congr (r : RegId) (i hi lo : Nat) : x.rf r i hi lo = s.rf r i hi lo := by
  rw [State.rf, State.rf, State.reg, State.reg, hregs]

theorem State.rb_congr (r : RegId) (i k : Nat) : x.rb r i k = s.rb r i k := by
  rw [State.rb, State.rb, State.reg, State.reg, hregs]

theorem State.rs_congr (r : RegId) (i : Nat) : x.rs r i = s.rs r i := by
  rw [State.rs, State.rs, State.reg, State.reg, hregs]

theorem State.portalEn_congr (p : Nat) : x.portalEn p = s.portalEn p := State.rb_congr hregs .portalCfg p 0

section TwoChannel

variable (hilk : x.ilk = s.ilk)

include hilk

theorem State.twoChannel_congr (r : RegId) (i hi lo : Nat) (dflt : Bool) :
    x.twoChannel (x.rf r i hi lo) dflt = s.twoChannel (s.rf r i hi lo) dflt := by
  have pairs : ∀ c, x.pairOf c = s.pairOf c := fun c => by simp only [State.pairOf, State.rb_congr hregs, State.rf_congr hregs]
  have values : ∀ j, x.pair j = s.pair j := fun j => by rw [State.pair, State.pair, hilk]
  simp only [State.twoChannel, State.rf_congr hregs, pairs, values]

theorem State.inHandle_congr (p : Nat) : x.inHandle p = s.inHandle p := State.twoChannel_congr hregs hilk .portalInEmg p 8 0 false

theorem State.inIsolate_congr (p : Nat) : x.inIsolate p = s.inIsolate p := State.twoChannel_congr hregs hilk .portalInEmg p 24 16 false

theorem State.zeroSpeed_congr (hsys : x.sys = s.sys) : x.zeroSpeed = s.zeroSpeed := by
  rw [State.zeroSpeed, State.zeroSpeed, hsys]
  exact State.twoChannel_congr hregs hilk .portalSeqCfg 0 8 0 _

end TwoChannel

variable (hfio : x.fio = s.fio)

include hfio

theorem State.input_congr (r : RegId) (i hi lo : Nat) (dflt : Bool) : x.input (x.rf r i hi lo) dflt = s.input (s.rf r i hi lo) dflt := by
  rw [State.rf_congr hregs, State.input, State.input, State.filtered, State.filtered, hfio]

theorem State.inLocked_congr (p : Nat) : x.inLocked p = s.inLocked p := State.input_congr hregs hfio .portalInLck p 8 0 true

theorem State.inPresence_congr (p : Nat) : x.inPresence p = s.inPresence p := State.input_congr hregs hfio .portalInAux p 8 0 false

end Inputs

/-! ### Entries of a state with what comes before and after them -/

theorem State.acted_keeps (s : State) (p r : Nat) : Frame noStates s (s.acted p r) := State.acted_frame rfl (Frame.refl _ s)

theorem State.modPortal_keeps (s : State) (p : Nat) {f : Portal → Portal} (hf : ∀ q, (f q).st = q.st) : Frame noStates s (s.modPortal p f) :=
  State.modPortal_frame rfl (fun _ => hf) (Frame.refl _ s)

theorem State.passTo_keeps (s : State) (t : Ticks) : Frame noStates s (s.passTo t) := State.passTo_frame rfl (Frame.refl _ s)

theorem State.startLeaves_keeps (s : State) (p : Nat) (opening : Bool) : Frame noStates s (s.startLeaves p opening) :=
  State.startLeaves_frame rfl (Frame.refl _ s)

theorem State.emergencyStops_keeps (s : State) (l : List Nat) : Frame noStates s (forEach l (fun s n => s.emergencyStop n .fault) s) :=
  forEach_frame (fun _ _ h => State.emergencyStop_frame rfl h) l (Frame.refl _ s)

theorem State.toLocked_goes (s : State) (p : Nat) : s.PortalGoes (s.toLocked p) p .locked :=
  (State.enter_goes s p .locked).thenFrame (State.liftWithdraw_frame rfl (Frame.refl _ _))

theorem State.toOpen_goes (s : State) (p : Nat) (obst : Bool) : s.PortalGoes (s.toOpen p obst) p .open_ := by
  unfold State.toOpen
  exact (State.enter_goes s p .open_).thenFrame (State.modPortal_keeps _ p fun _ => rfl)

theorem State.t7_goes (s : State) (p : Nat) : s.PortalGoes (s.t7 p) p .opening := by
  have entered : s.PortalGoes ((s.stepToo p).enter p .opening) p .opening :=
    (State.enter_goes _ p .opening).afterFrame (State.stepToo_frame rfl (Frame.refl _ s))
  unfold State.t7
  dsimp only
  split
  · exact entered.thenFrame (State.modPortal_keeps _ p fun _ => rfl)
  · exact entered.thenFrame (State.startLeaves_keeps _ p true)

theorem State.toWarning_goes (s : State) (p : Nat) (stopping : Bool) : s.PortalGoes (s.toWarning p stopping) p .warning := by
  unfold State.toWarning
  dsimp only
  refine ((State.enter_goes _ p .warning).afterFrame ?_).thenFrame (State.modPortal_keeps _ p fun _ => rfl)
  exact Frame.ite (State.stopAll_frame rfl (State.dropLeafStarts_frame rfl (Frame.refl _ s))) (Frame.refl _ s)

theorem State.toLocking_goes (s : State) (p : Nat) : s.PortalGoes (s.toLocking p) p .locking := by
  unfold State.toLocking
  dsimp only
  refine (State.enter_goes _ p .locking).afterFrame (State.modPortal_frame rfl (fun _ _ => rfl) ?_)
  exact Frame.ite (State.stopAll_frame rfl (State.dropStarts_frame rfl (Frame.refl _ s))) (Frame.refl _ s)

theorem State.toEmergency_goes (s : State) (p : Nat) : s.PortalGoes (s.toEmergency p) p .emergency := by
  unfold State.toEmergency
  dsimp only
  refine (State.enter_goes _ p .emergency).afterFrame (State.modPortal_frame rfl (fun _ _ => rfl) ?_)
  exact forEach_frame (fun _ _ h => State.freeLeaf_frame rfl h) _ (State.flag_frame rfl (State.dropLeafStarts_frame rfl (Frame.refl _ s)))

/-- A reopening that no obstacle causes (T14). -/
theorem State.toReopening_goes (s : State) (p : Nat) : s.PortalGoes (s.toReopening p false) p .reopening := by
  unfold State.toReopening
  dsimp only
  refine (State.enter_goes _ p .reopening).afterFrame (forEach_frame (fun _ _ h => State.reopenAux_frame rfl h) _ ?_)
  refine forEach_frame (fun _ _ h => State.reopenLeaf_frame rfl h) _ (State.dropLeafStarts_frame rfl (State.count_frame rfl ?_))
  exact State.flag_frame rfl (State.modPortal_keeps s p fun _ => rfl)

theorem State.toFault_goes (s : State) (p cause : Nat) : s.PortalGoes (s.toFault p cause) p .fault := by
  unfold State.toFault
  dsimp only
  refine (State.enter_goes _ p .fault).afterFrame (Frame.trans ?_ (State.emergencyStops_keeps _ _))
  exact State.raise_frame rfl (State.modPortal_frame rfl (fun _ _ => rfl) (State.acted_keeps s p 1))

theorem State.failTo_goes (s : State) (p cause code : Nat) : s.PortalGoes (s.failTo p cause code) p .fault :=
  (State.toFault_goes _ p cause).afterFrame (State.raise_frame rfl (Frame.refl _ s))

/-- T9 where it is ready and no trigger above it has acted. -/
theorem State.tryT9_goes {s : State} {p : Nat} (hready : s.t9Ready p = true) (hrank : s.t9Rank p ≤ (s.portal p).rankNow) :
    s.PortalGoes (s.tryT9 p) p .warning := by
  unfold State.tryT9
  rw [if_pos (by simp [hready, hrank])]
  exact (State.toWarning_goes s p false).thenFrame (State.acted_keeps _ p _)

/-- The rank of T9 is 5 for a restrictive action and 8 otherwise. -/
theorem State.t9Rank_le {s : State} {p r : Nat} (h : 8 ≤ r) : s.t9Rank p ≤ r := by
  unfold State.t9Rank
  split <;> omega

theorem State.t9Rank_lock {s : State} {p : Nat} (h : (s.portal p).lockPending = true) : s.t9Rank p = 5 := by
  simp [State.t9Rank, h]

/-- T12: from WARNING the portal opens again, and leaves that have moved start to. -/
theorem State.reopenOn_warning {s : State} {p : Nat} (h : (s.portal p).st = .warning) : s.PortalGoes (s.reopenOn p) p .open_ := by
  have opened : s.PortalGoes ((s.dropLeafStarts p).toOpen p false) p .open_ :=
    (State.toOpen_goes _ p false).afterFrame (State.dropLeafStarts_frame rfl (Frame.refl _ s))
  simp only [State.reopenOn, h]
  split
  · exact opened
  · exact opened.thenFrame (State.startLeaves_keeps _ p true)

theorem State.reopenOn_closing {s : State} {p : Nat} (h : (s.portal p).st = .closing) : s.PortalGoes (s.reopenOn p) p .reopening := by
  simp only [State.reopenOn, h]
  exact State.toReopening_goes s p

/-- T21 where its conditions hold. -/
theorem State.tryT21_goes {s : State} {p : Nat} (h2 : 2 ≤ (s.portal p).st.code) (h11 : (s.portal p).st.code ≤ 11) (hh : s.inHandle p = true)
    (hz : s.zeroSpeed = true) (hrank : 2 ≤ (s.portal p).rankNow) : s.PortalGoes (s.tryT21 p) p .emergency := by
  unfold State.tryT21
  dsimp only
  rw [if_pos (by simp [h2, h11, hh, hz, hrank])]
  exact (State.toEmergency_goes s p).thenFrame (State.acted_keeps _ p 2)

/-! ### What the commands of inputs, positions and timers do -/

section Transitions

variable {s : State} {p : Nat}

theorem State.homingDone_goes (hst : (s.portal p).st = .referencing)
    (hall : (s.presentAxes p).all (fun n => (s.axis n).referenced && s.standing n) = true) (hclosed : s.closedAB p = true)
    (hlocked : s.inLocked p = true) (hstowed : s.inStowed p = true) : s.PortalGoes (s.homingDone p) p .locked := by
  unfold State.homingDone
  rw [when_of (by rw [hst, hall, hclosed, hlocked, hstowed]; rfl)]
  exact (State.toLocked_goes _ p).afterFrame (State.modPortal_keeps s p fun _ => rfl)

theorem State.referenceFail_goes (hst : (s.portal p).st = .referencing) : s.PortalGoes (s.referenceFail p) p .fault := by
  unfold State.referenceFail
  dsimp only
  rw [when_of (by rw [hst]; rfl)]
  refine (State.enter_goes _ p .fault).afterFrame (Frame.trans ?_ (State.emergencyStops_keeps _ _))
  refine State.raise_frame rfl (State.modPortal_frame rfl (fun _ _ => rfl) (State.acted_frame rfl ?_))
  exact Frame.ite (Frame.refl _ s) (State.passTo_keeps s _)

theorem State.unlocked_goes (hst : (s.portal p).st = .unlocking) (hlock : s.inLocked p = false)
    (hstep : (s.portal p).stepWanted = false ∨ s.rb .portalCfg p 6 = false ∨ s.inDeployed p = true) (hopen : (s.portal p).openWanted = false) :
    s.PortalGoes (s.unlocked p) p .released := by
  have deployed : (!((s.portal p).stepWanted && s.rb .portalCfg p 6) || s.inDeployed p) = true := by
    rcases hstep with h | h | h <;> simp [h]
  unfold State.unlocked
  dsimp only
  rw [when_of (by rw [hst, hlock, deployed]; rfl), hopen, if_neg Bool.false_ne_true]
  exact State.enter_goes s p .released

theorem State.unlockFail_goes (hst : (s.portal p).st = .unlocking) (hlock : s.inLocked p = true) : s.PortalGoes (s.unlockFail p) p .fault := by
  unfold State.unlockFail
  dsimp only
  rw [when_of (by rw [hst]; rfl), if_pos hlock]
  exact (State.failTo_goes _ p 5 0x3010).afterFrame (State.passTo_keeps s _)

theorem State.stepFail_goes {t : Ticks} (ht : (s.portal p).stepStart = some t) (hst : (s.portal p).st = .unlocking)
    (hd : s.inDeployed p = false) : s.PortalGoes (s.stepFail p) p .fault := by
  simp only [State.stepFail, ht]
  rw [when_of (by rw [hst, hd]; rfl)]
  exact (State.failTo_goes _ p 7 0x3012).afterFrame (State.passTo_keeps s _)

theorem State.lockFail_goes (hst : (s.portal p).st = .locking) (hre : (s.portal p).reclosed = true) (hlock : s.inLocked p = false)
    (hseen : (s.portal p).lockSeen = false) : s.PortalGoes (s.lockFail p) p .fault := by
  unfold State.lockFail
  dsimp only
  rw [when_of (by rw [hst, hre, hlock, hseen]; rfl)]
  exact (State.failTo_goes _ p 6 0x3011).afterFrame (State.passTo_keeps s _)

/-- A request opens the leaves of a portal that takes requests (T7). -/
theorem State.request_goes {inside : Bool} (hst : (s.portal p).st = .released ∨ (s.portal p).st = .closed)
    (hreq : (s.portal p).reqEnabled = true) (hrank : 7 ≤ (s.portal p).rankNow)
    (hin : if inside then s.inReqInside p = true ∧ (s.portal p).reqIn = false else s.inReqOutside p = true ∧ (s.portal p).reqOut = false) :
    s.PortalGoes (s.request p inside) p .opening := by
  have noted : ∀ q : Portal, q.st = (s.portal p).st → s.PortalGoes (((s.setPortal p q).t7 p).acted p 7) p .opening := fun q hq =>
    ((State.t7_goes _ p).thenFrame (State.acted_keeps _ p 7)).afterFrame (State.setPortal_frame rfl (fun _ => hq) (Frame.refl _ s))
  have opens : (((s.portal p).st == .released || (s.portal p).st == .closed) && (s.portal p).reqEnabled) = true := by
    rcases hst with h | h <;> rw [h, hreq] <;> rfl
  have low : ¬(s.portal p).rankNow < 7 := by omega
  cases inside <;>
  · obtain ⟨hlv, hold⟩ := hin
    simp [State.request, hlv, hold, low, opens, noted]

theorem State.leavesOpen_goes (hst : (s.portal p).st = .opening) (hat : s.leavesAt p (fun n => s.rs .axisTgtOpen n) = true) :
    s.PortalGoes (s.leavesOpen p) p .open_ := by
  unfold State.leavesOpen
  rw [when_of (by rw [hst, hat]; rfl)]
  exact State.toOpen_goes s p false

theorem State.leavesReopened_goes (hst : (s.portal p).st = .reopening)
    (hat : (s.leaves p).all (fun n => s.standing n && s.beyond n (s.reopenTarget n)) = true) : s.PortalGoes (s.leavesReopened p) p .open_ := by
  unfold State.leavesReopened
  rw [when_of (by rw [hst, hat]; rfl)]
  exact State.toOpen_goes s p true

theorem State.leavesClosed_goes (hst : (s.portal p).st = .closing) (hclosed : s.closedAB p = true)
    (hat : s.leavesAt p (fun n => s.rs .axisTgtClosed n) = true) :
    s.PortalGoes (s.leavesClosed p) p (if (s.portal p).lockPending then .locking else .closed) := by
  have halted : Frame noStates s (if (s.portal p).unreferenced then s.stopAll (s.leafGroup p) else s) :=
    Frame.ite (State.stopAll_frame rfl (Frame.refl _ s)) (Frame.refl _ s)
  unfold State.leavesClosed
  dsimp only
  rw [when_of (by rw [hst, hclosed, hat]; simp)]
  split
  · exact (State.toLocking_goes _ p).afterFrame halted
  · exact (State.enter_goes _ p .closed).afterFrame halted

theorem State.dwellElapsed_goes {t : Ticks} (hst : (s.portal p).st = .open_) (ht : (s.portal p).dwellStart = some t)
    (hobst : (s.portal p).obstStart = none) (hp : s.inPresence p = false) (hco : (s.portal p).closeObstructed = false)
    (hrank : 8 ≤ (s.portal p).rankNow) : s.PortalGoes (s.dwellElapsed p) p .warning := by
  simp only [State.dwellElapsed, ht]
  rw [when_of (by rw [hst]; rfl)]
  have presence : ∀ t1 q, ((s.passTo t1).setPortal p q).inPresence p = false := fun t1 q =>
    (State.inPresence_congr (by simp) (by simp) p).trans hp
  refine (State.tryT9_goes ?_ (State.t9Rank_le ?_)).afterFrame (State.modPortal_frame rfl (fun _ _ => rfl) (State.passTo_keeps s _))
  · simp [State.t9Ready, hst, hobst, presence, hco]
  · simpa using hrank

theorem State.obstWaitElapsed_goes {t : Ticks} (hst : (s.portal p).st = .open_) (ht : (s.portal p).obstStart = some t)
    (hlock : (s.portal p).lockPending = true) (hp : s.inPresence p = false) (hrank : 5 ≤ (s.portal p).rankNow) :
    s.PortalGoes (s.obstWaitElapsed p) p .warning := by
  simp only [State.obstWaitElapsed, ht]
  have presence : ∀ t1 q, ((s.passTo t1).setPortal p q).inPresence p = false := fun t1 q =>
    (State.inPresence_congr (by simp) (by simp) p).trans hp
  refine (State.tryT9_goes ?_ ?_).afterFrame (State.modPortal_frame rfl (fun _ _ => rfl) (State.passTo_keeps s _))
  · simp [State.t9Ready, hst, presence, hlock]
  · rw [State.t9Rank_lock (by simpa using hlock)]
    simpa using hrank

/-- The presence input reopens where its configuration says so and no close is forced: from WARNING to OPEN (T12), from CLOSING to REOPENING (T14). -/
theorem State.presenceNow_reopens (hst : (s.portal p).st = .warning ∨ (s.portal p).st = .closing) (hp : s.inPresence p = true)
    (hcfg : s.rb .portalCfg p 9 = true) (hforced : (s.portal p).forced = false) (hrank : 7 ≤ (s.portal p).rankNow) :
    s.presenceNow p = ((s.modPortal p (fun q => { q with presence := true })).reopenOn p).acted p 7 := by
  rcases hst with h | h <;> simp [State.presenceNow, h, hp, hcfg, hforced, hrank]

theorem State.presenceNow_warning (hst : (s.portal p).st = .warning) (hp : s.inPresence p = true) (hcfg : s.rb .portalCfg p 9 = true)
    (hforced : (s.portal p).forced = false) (hrank : 7 ≤ (s.portal p).rankNow) : s.PortalGoes (s.presenceNow p) p .open_ := by
  rw [State.presenceNow_reopens (.inl hst) hp hcfg hforced hrank]
  refine ((State.reopenOn_warning ?_).thenFrame (State.acted_keeps _ p 7)).afterFrame (State.modPortal_keeps s p fun _ => rfl)
  simpa using hst

theorem State.presenceNow_closing (hst : (s.portal p).st = .closing) (hp : s.inPresence p = true) (hcfg : s.rb .portalCfg p 9 = true)
    (hforced : (s.portal p).forced = false) (hrank : 7 ≤ (s.portal p).rankNow) : s.PortalGoes (s.presenceNow p) p .reopening := by
  rw [State.presenceNow_reopens (.inr hst) hp hcfg hforced hrank]
  refine ((State.reopenOn_closing ?_).thenFrame (State.acted_keeps _ p 7)).afterFrame (State.modPortal_keeps s p fun _ => rfl)
  simpa using hst

theorem State.lockedInput_goes (hst : (s.portal p).st = .locking) (hlock : s.inLocked p = true) (hseen : (s.portal p).lockSeen = false)
    (hstep : s.hasStep p = false) : s.PortalGoes (s.lockedInput p) p .locked := by
  unfold State.lockedInput
  dsimp only
  rw [when_of (by rw [hst, hlock, hseen]; rfl), hstep, if_neg Bool.false_ne_true]
  exact State.toLocked_goes s p

theorem State.stepStowed_goes (hst : (s.portal p).st = .locking) (hseen : (s.portal p).lockSeen = true) (hlock : s.inLocked p = true)
    (hstowed : s.inStowed p = true) : s.PortalGoes (s.stepStowed p) p .locked := by
  unfold State.stepStowed
  dsimp only
  rw [when_of (by rw [hst, hseen, hlock, hstowed]; rfl)]
  exact State.toLocked_goes s p

variable (h2 : 2 ≤ (s.portal p).st.code) (h11 : (s.portal p).st.code ≤ 11) (hh : s.inHandle p = true) (hz : s.zeroSpeed = true)
  (hrank : 2 ≤ (s.portal p).rankNow)

include h2 h11 hh hz hrank

/-- The handle that becomes active at standstill (R119). -/
theorem State.handle_goes (hen : s.portalEn p = true) (hold : (s.portal p).handle = false) : s.PortalGoes (s.handle p) p .emergency := by
  unfold State.handle
  dsimp only
  rw [when_of (by rw [hen, hh, hold]; rfl)]
  have noted := (State.modPortal_keeps s p (f := fun q => { q with handle := true, emgPending := true }) fun _ => rfl)
  refine (State.tryT21_goes ?_ ?_ ?_ ?_ ?_).afterFrame (State.raise_frame rfl (State.flag_frame rfl noted))
  · simpa [State.flag] using h2
  · simpa [State.flag] using h11
  · exact (State.inHandle_congr (by simp [State.flag]) (by simp [State.flag]) p).trans hh
  · exact (State.zeroSpeed_congr (by simp [State.flag]) (by simp [State.flag]) (by simp [State.flag])).trans hz
  · simpa [State.flag] using hrank

/-- Standstill with one portal whose handle is pending (R119). -/
theorem State.zeroSpeedOn_goes (hold : s.seq.zeroSpeed = false) (hone : s.enabledPortals.filter (fun k => (s.portal k).emgPending) = [p]) :
    s.PortalGoes s.zeroSpeedOn p .emergency := by
  unfold State.zeroSpeedOn
  rw [when_of (by rw [hz, hold]; rfl), hone, forEach_cons, forEach_nil]
  exact State.tryT21_goes (s := { s with seq := { s.seq with zeroSpeed := true } }) h2 h11 hh hz hrank

end Transitions

/-- Settles O22: each command is an operation of the sequencer that enters the state of its row of the table; what it does besides enters none. -/
theorem portalTransitionsFollowTheTable : Obligations.PortalTransitionsFollowTheTable := by
  intro s p hs q goes
  have run : ∀ {c : Instr} {f : State → State} {st : PState}, exec c s = runSeq s f →
      State.PortalGoes { s with outs := [] } (f { s with outs := [] }) p st → goes c st := fun he hg => completes_runSeq he hs hg
  exact ⟨fun hst hall hclosed hlocked hstowed => run rfl (State.homingDone_goes hst hall hclosed hlocked hstowed),
    fun hst => run rfl (State.referenceFail_goes hst),
    fun hst hlock hstep hopen => run rfl (State.unlocked_goes hst hlock hstep hopen),
    fun hst hlock => run rfl (State.unlockFail_goes hst hlock),
    fun inside hst hreq hrank hin => run rfl (State.request_goes hst hreq hrank hin),
    fun hst hat => run rfl (State.leavesOpen_goes hst hat),
    fun t hst ht hobst hp hco hrank => run rfl (State.dwellElapsed_goes hst ht hobst hp hco hrank),
    fun t hst ht hlock hp hrank => run rfl (State.obstWaitElapsed_goes hst ht hlock hp hrank),
    fun hst hp hcfg hforced hrank => run rfl (State.presenceNow_warning hst hp hcfg hforced hrank),
    fun hst hp hcfg hforced hrank => run rfl (State.presenceNow_closing hst hp hcfg hforced hrank),
    fun hst hat => run rfl (State.leavesReopened_goes hst hat),
    fun hst hclosed hat => run rfl (State.leavesClosed_goes hst hclosed hat),
    fun hst hlock hseen hstep => run rfl (State.lockedInput_goes hst hlock hseen hstep),
    fun hst hseen hlock hstowed => run rfl (State.stepStowed_goes hst hseen hlock hstowed),
    fun hst hre hlock hseen => run rfl (State.lockFail_goes hst hre hlock hseen),
    fun t ht hst hd => run rfl (State.stepFail_goes ht hst hd),
    fun hen hh hold hz h2 h11 hrank => run rfl (State.handle_goes h2 h11 hh hz hrank hen hold),
    fun hz hold hone hh h2 h11 hrank => run rfl (State.zeroSpeedOn_goes h2 h11 hh hz hrank hold hone)⟩

end Sys2Proof.Machine
end

section
/-!
PROOFS. The Portal Sequencer's timers and outputs (R107, R109, R110, R125, R134).
-/
namespace Sys2Proof.Machine
open Sys2Proof

/-- A part whose PLL has locked while domain 0, which holds the registers of the portals (R659), is off; portal 0 has counted one cycle. -/
def portalsOff : State :=
  { State.reset with sys := { State.reset.sys with start := .boot, pllLocked := true }, portals := [(0, { cycles := 1 })] }

theorem portalsOff_undecoded : portalsOff.decode (regAddr .portalCycLo 0 0) = .undecoded := by decide +kernel

/-- Refutes O23: its last clause asks that the master reach the bus, and not that domain 0 be on. With that domain off the read of CYC_LO finds an
address that no block decodes, and answers 0 (R37, R661) for the one cycle counted. From the lock of the PLL on the domain is on (R660), so no
run reaches such a state; the statement speaks of every state. -/
theorem not_portalTimersAndOutputs : ¬ Obligations.PortalTimersAndOutputs := by
  intro h
  obtain ⟨-, -, -, -, -, -, read⟩ := h portalsOff 0 rfl
  obtain ⟨t, ht, -, outs, -⟩ := read 0 rfl
  have answered : exec (.portalCycLoRead 0 0) portalsOff = .next
      ((State.discard { portalsOff with outs := [] } (regAddr .portalCycLo 0 0) 1 0 true).emit (.readWord (regAddr .portalCycLo 0 0) 0)) :=
    congrArg Host.Outcome.next (State.busRead_undecoded (s := { portalsOff with outs := [] }) rfl portalsOff_undecoded)
  obtain rfl := Host.Outcome.next.inj (answered.symm.trans ht)
  rw [State.emit_outs, State.discard_outs] at outs
  exact absurd outs (by decide +kernel)

end Sys2Proof.Machine
end

section
/-!
PROOFS. The closing start and the current budget (R104, R127 to R131).
-/
namespace Sys2Proof.Machine
open Sys2Proof

/-! ### What the arbiter reads -/

section Budget

variable {s x : State} (hregs : x.regs = s.regs)

include hregs

theorem State.rolePresent_congr (p : Nat) : x.rolePresent p = s.rolePresent p := by
  funext r
  rw [State.rolePresent, State.rolePresent, State.portalEn_congr hregs, State.rb_congr hregs]

theorem State.leaves_congr (p : Nat) : x.leaves p = s.leaves p := by
  rw [State.leaves, State.leaves, State.rolePresent_congr hregs]

theorem State.auxWith_congr (p k : Nat) : x.auxWith p k = s.auxWith p k := by
  rw [State.auxWith, State.auxWith, State.rolePresent_congr hregs, State.rf_congr hregs]

theorem State.iAcc_congr (n : Nat) : x.iAcc n = s.iAcc n := by rw [State.iAcc, State.iAcc, State.reg, State.reg, hregs]

theorem State.iEdec_congr (n : Nat) : x.iEdec n = s.iEdec n := by rw [State.iEdec, State.iEdec, State.reg, State.reg, hregs]

theorem State.scaleFor_congr (axes : List Nat) (left : Nat) : x.scaleFor axes left = s.scaleFor axes left := by
  rw [State.scaleFor, State.scaleFor, funext (State.iAcc_congr hregs)]

theorem State.needOf_congr (n sc : Nat) : x.needOf n sc = s.needOf n sc := by
  rw [State.needOf, State.needOf, State.iAcc_congr hregs, State.iEdec_congr hregs]

theorem State.needAll_congr (axes : List Nat) (sc : Nat) : x.needAll axes sc = s.needAll axes sc := by
  simp only [State.needAll, State.iAcc_congr hregs, State.iEdec_congr hregs]

theorem State.sMin_congr : x.sMin = s.sMin := by rw [State.sMin, State.sMin, State.rf_congr hregs]

end Budget

theorem State.committed_congr {s x : State} (haxes : x.axes = s.axes) : x.committed = s.committed := by
  simp only [State.committed, State.axis, haxes]

/-! ### A start alone in the queue -/

/-- Other starts in the queue. -/
def State.withStarts (s : State) (l : List Start) : State := { s with seq := { s.seq with starts := l } }

theorem State.withStarts_starts (s : State) (l : List Start) : (s.withStarts l).seq.starts = l := rfl

theorem State.withStarts_frame (s : State) (l : List Start) : Frame Part.seq s (s.withStarts l) :=
  Frame.set_seq rfl (fun _ => ⟨rfl, rfl⟩) (Frame.refl _ s)

/-- Leaves with which no auxiliary axis moves make the only start of an empty queue. -/
theorem State.startLeaves_alone {s : State} {p : Nat} (hq : s.seq.starts = []) (haux : s.auxWith p 0 = []) (hleaves : s.leaves p ≠ []) :
    s.startLeaves p false = s.withStarts [⟨p, s.leaves p, 1, s.lt⟩] := by
  simp [State.startLeaves, State.queueStart, State.withStarts, haux, hleaves, hq]

/-- Whether the budget holds a start as the only one: the scale left for it reaches S_MIN, and its need fits (R129). -/
def State.budgetHolds (s : State) (axes : List Nat) : Prop :=
  let sc := s.scaleFor axes (4 * s.rf .portalSeqBudget 0 9 0 - s.committed)
  s.sMin ≤ sc ∧ s.committed + s.needAll axes sc ≤ 4 * s.rf .portalSeqBudget 0 9 0

theorem State.budgetHolds_congr {s x : State} (hregs : x.regs = s.regs) (haxes : x.axes = s.axes) (axes : List Nat) :
    x.budgetHolds axes ↔ s.budgetHolds axes := by
  simp only [State.budgetHolds, State.scaleFor_congr hregs, State.needAll_congr hregs, State.sMin_congr hregs, State.committed_congr haxes,
    State.rf_congr hregs]

theorem State.arbitrate_granted {s : State} {t : Start} (hq : s.seq.starts = [t]) (h : s.budgetHolds t.axes) :
    s.arbitrate = s.grant t (s.scaleFor t.axes (4 * s.rf .portalSeqBudget 0 9 0 - s.committed)) := by
  have order : s.startOrder = [t] := by simp [State.startOrder, hq, sortBy, insertBy]
  rw [State.arbitrate, order, grantGo]
  exact if_pos h

theorem State.arbitrate_waits {s : State} {t : Start} (hq : s.seq.starts = [t]) (h : ¬s.budgetHolds t.axes) : s.arbitrate = s := by
  have order : s.startOrder = [t] := by simp [State.startOrder, hq, sortBy, insertBy]
  rw [State.arbitrate, order, grantGo]
  exact if_neg h

/-! ### A closing start is granted -/

/-- An update of each axis of a list gives each of them what `Q` says of it, where the update of one leaves the others. -/
theorem forEach_axis {f : State → Nat → State} {I : State → Prop} {Q : Nat → Axis → Prop} (hI : ∀ s k, I s → I (f s k))
    (hQ : ∀ s k, I s → Q k ((f s k).axis k)) (hne : ∀ s k n, n ≠ k → (f s k).axis n = s.axis n) :
    ∀ (l : List Nat) (s : State), I s → ∀ n, n ∈ l ∨ Q n (s.axis n) → Q n ((forEach l f s).axis n)
  | [], _, _, _, h => h.resolve_left List.not_mem_nil
  | k :: l, s, hs, n, h => by
    refine forEach_axis hI hQ hne l (f s k) (hI s k hs) n ?_
    by_cases e : n = k
    · exact .inr (e ▸ hQ s k hs)
    · rw [hne s k n e]
      exact h.imp (fun hm => (List.mem_cons.1 hm).resolve_left e) id

/-- What entering a state in which no portal cycle ends may write. -/
theorem State.enter_keeps (s : State) (p : Nat) {st : PState} (h : st ≠ .locked) (h2 : st ≠ .isolated) (h3 : st ≠ .fault) :
    Frame (Part.sys ||| Part.portals ||| Part.loads ||| Part.states) s (s.enter p st) := by
  unfold State.enter
  dsimp only
  rw [if_neg (by simpa using h), if_neg (by simp [h, h2, h3])]
  exact State.leaveShelf_frame rfl (State.portalOutputs_frame rfl (State.setPortal_frame rfl (fun k => by cases k) (Frame.refl _ s)))

/-- A granted start before its axes move: out of the queue, its delay noted (R129, R131). -/
def State.granted (s : State) (t : Start) (sc : Nat) : State :=
  let p := t.portal
  let d := (s.lt - t.since) / ticksPerUs
  let late := decide (s.rf .portalSeqBudget 0 25 16 * 1000 < d)
  let s1 := { s with seq := { s.seq with starts := s.seq.starts.filter (fun u => u != t) } }
  let s2 := s1.modPortal p (fun q => { q with lastDelay := d, longDelay := max q.longDelay d })
  let s3 := if late then ((s2.raise 0x3021 p (leBytes 4 d)).flag p 4).count 263 else s2
  if sc < 256 then s3.flag p 8 else s3

/-- An axis of a granted start moves to its target with the scale granted. -/
def startAxis (kind sc : Nat) (s : State) (n : Nat) : State :=
  (s.moveTo n (s.startTarget n kind)).modAxis n (fun x => { x with scale := sc, res := .accel, resAmp := s.needOf n sc })

theorem State.grant_eq (s : State) (t : Start) (sc : Nat) : s.grant t sc =
    let u := forEach t.axes (startAxis t.kind sc) (s.granted t sc)
    if t.kind = 1 ∧ (u.portal t.portal).st = .warning then u.enter t.portal .closing else u := rfl

theorem State.granted_frame (s : State) (t : Start) (sc : Nat) :
    Frame (Part.rcd ||| Part.cnt ||| Part.portals) (s.withStarts (s.seq.starts.filter (fun u => u != t))) (s.granted t sc) := by
  unfold State.granted
  dsimp only
  refine Frame.ite (State.flag_frame rfl ?_) ?_ <;>
  · refine Frame.ite (State.count_frame rfl (State.flag_frame rfl (State.raise_frame rfl ?_))) ?_ <;>
      exact State.modPortal_frame rfl (fun _ _ => rfl) (Frame.refl _ _)

theorem startAxis_frame {w kind sc n : Nat} {b s : State} (hw : Part.within (Part.obs ||| Part.axes) w = true) (h : Frame w b s) :
    Frame w b (startAxis kind sc s n) :=
  State.modAxis_frame (Part.within_trans (by decide) hw) (State.moveTo_frame hw h)

theorem startAxis_closing (sc : Nat) (s : State) (n : Nat) : ((startAxis 1 sc s n).axis n).pending = some (s.rs .axisTgtClosed n) ∧
    ((startAxis 1 sc s n).axis n).scale = sc ∧ ((startAxis 1 sc s n).axis n).resAmp = s.needOf n sc := by
  simp [startAxis, State.moveTo, State.startTarget]

theorem startAxis_other {kind sc k n : Nat} (s : State) (h : n ≠ k) : (startAxis kind sc s k).axis n = s.axis n := by
  simp [startAxis, State.moveTo, State.clearStops, h]

/-- A granted closing start begins CLOSING (T11): its axes take the closed target and the scale. -/
theorem State.grant_closing {s : State} {t : Start} {sc : Nat} (hkind : t.kind = 1) (hst : (s.portal t.portal).st = .warning) :
    s.PortalGoes (s.grant t sc) t.portal .closing ∧ (s.grant t sc).seq.starts = s.seq.starts.filter (fun u => u != t) ∧
      ∀ n ∈ t.axes, ((s.grant t sc).axis n).pending = some (s.rs .axisTgtClosed n) ∧ ((s.grant t sc).axis n).scale = sc ∧
        ((s.grant t sc).axis n).resAmp = s.needOf n sc := by
  have out := State.granted_frame s t sc
  have moved := forEach_frame (f := startAxis t.kind sc) (w := Part.obs ||| Part.axes) (fun _ _ h => startAxis_frame rfl h) t.axes
    (Frame.refl _ (s.granted t sc))
  have same : ∀ k, ((forEach t.axes (startAxis t.kind sc) (s.granted t sc)).portal k).st = (s.portal k).st := fun k =>
    (moved.states rfl k).trans (out.states rfl k)
  have closing := State.enter_keeps (forEach t.axes (startAxis t.kind sc) (s.granted t sc)) t.portal (st := .closing) (by decide) (by decide)
    (by decide)
  have axes := forEach_axis (f := startAxis t.kind sc) (I := fun x => x.regs = s.regs)
    (Q := fun n x => x.pending = some (s.rs .axisTgtClosed n) ∧ x.scale = sc ∧ x.resAmp = s.needOf n sc)
    (fun x k hx => ((startAxis_frame (w := Part.obs ||| Part.axes) rfl (Frame.refl _ x)).regs rfl).trans hx)
    (fun x k hx => by
      rw [hkind, ← State.rs_congr hx, ← State.needOf_congr hx]
      exact startAxis_closing sc x k)
    (fun x k n hne => startAxis_other x hne) t.axes (s.granted t sc) (out.regs rfl)
  rw [State.grant_eq]
  dsimp only
  rw [if_pos ⟨hkind, (same _).trans hst⟩]
  refine ⟨(State.enter_goes _ _ _).after same, ?_, fun n hn => ?_⟩
  · rw [closing.seq rfl, moved.seq rfl, out.seq rfl, State.withStarts_starts]
  · rw [State.axis, closing.axes rfl]
    exact axes n (.inl hn)

/-! ### WARN_PRE elapses -/

/-- A portal in WARNING once its WARN_PRE is over. -/
def State.warned (s : State) (p : Nat) (t0 : Ticks) : State :=
  (s.passTo (t0 + ms (s.rf .portalTWarn p 15 0))).modPortal p (fun q => { q with warnDone := true })

theorem State.warned_regs (s : State) (p : Nat) (t0 : Ticks) : (s.warned p t0).regs = s.regs := by simp [State.warned]

theorem State.warned_axes (s : State) (p : Nat) (t0 : Ticks) : (s.warned p t0).axes = s.axes := by simp [State.warned]

theorem State.warned_portal (s : State) (p : Nat) (t0 : Ticks) : (s.warned p t0).portal p = { s.portal p with warnDone := true } := by
  simp [State.warned]

theorem State.warned_keeps (s : State) (p : Nat) (t0 : Ticks) : Frame noStates s (s.warned p t0) :=
  State.modPortal_frame rfl (fun _ _ => rfl) (State.passTo_keeps s _)

theorem State.le_warned_lt (s : State) (p : Nat) (t0 : Ticks) : t0 + ms (s.rf .portalTWarn p 15 0) ≤ (s.warned p t0).time.lt := by
  rw [State.warned, State.modPortal_eq, State.setPortal_time]
  exact State.le_passTo_lt s _

/-- The end of WARN_PRE queues the start of the closing leaves (R104, R129). -/
theorem State.warnElapsed_queues {s : State} {p : Nat} {t0 : Ticks} (hst : (s.portal p).st = .warning) (ht : (s.portal p).warnStart = some t0)
    (hdone : (s.portal p).warnDone = false) (hq : s.seq.starts = []) (haux : s.auxWith p 0 = []) (hleaves : s.leaves p ≠ []) :
    s.warnElapsed p = (s.warned p t0).withStarts [⟨p, s.leaves p, 1, (s.warned p t0).lt⟩] := by
  have elapsed : s.warnElapsed p = (s.warned p t0).startLeaves p false := by
    simp only [State.warnElapsed, ht]
    rw [when_of (by rw [hst, hdone]; rfl)]
    rfl
  have regs := State.warned_regs s p t0
  rw [elapsed, State.startLeaves_alone, State.leaves_congr regs]
  · simpa [State.warned] using hq
  · rwa [State.auxWith_congr regs]
  · rwa [State.leaves_congr regs]

/-- Settles O24: the end of WARN_PRE queues one start, which the arbiter grants or leaves in the queue. -/
theorem closingStartsWithinTheBudget : Obligations.ClosingStartsWithinTheBudget := by
  intro s p t0 hs axes com sc hst ht hdone hq haux hleaves
  let s0 : State := { s with outs := [] }
  let x := s0.warnElapsed p
  let start : Start := ⟨p, axes, 1, (s0.warned p t0).lt⟩
  have queued : x = (s0.warned p t0).withStarts [start] := State.warnElapsed_queues (s := s0) hst ht hdone hq haux hleaves
  have added := State.withStarts_frame (s0.warned p t0) [start]
  rw [← queued] at added
  have regs : x.regs = s.regs := (added.regs rfl).trans (State.warned_regs s0 p t0)
  have hx : x.seq.starts = [start] := by rw [queued, State.withStarts_starts]
  have xaxes : x.axes = s.axes := (added.axes rfl).trans (State.warned_axes s0 p t0)
  have time : t0 + ms (s.rf .portalTWarn p 15 0) ≤ x.time.lt := (State.le_warned_lt s0 p t0).trans added.lt
  have states : ∀ k, (x.portal k).st = (s.portal k).st := fun k =>
    (added.states rfl k).trans ((State.warned_keeps s0 p t0).states rfl k)
  have budget : x.budgetHolds axes ↔ s.budgetHolds axes := State.budgetHolds_congr regs xaxes axes
  have scale : x.scaleFor axes (4 * x.rf .portalSeqBudget 0 9 0 - x.committed) = sc := by
    rw [State.rf_congr regs, State.committed_congr xaxes, State.scaleFor_congr regs]
  constructor
  · intro hmin hfits
    refine completes_runSeq (f := fun s => (s.warnElapsed p).arbitrate) rfl hs ?_
    show _ ∧ (x.arbitrate.seq.starts = [] ∧ t0 + ms (s.rf .portalTWarn p 15 0) ≤ x.arbitrate.time.lt ∧ _)
    have granted : x.arbitrate = x.grant start sc := by
      rw [State.arbitrate_granted hx (budget.2 ⟨hmin, hfits⟩), scale]
    obtain ⟨goes, starts, moved⟩ := State.grant_closing (s := x) (t := start) (sc := sc) rfl ((states p).trans hst)
    rw [← granted] at goes starts moved
    refine ⟨goes.after states, ?_, ?_, fun n hn => ?_⟩
    · rw [starts, hx]
      simp
    · exact time.trans (State.arbitrate_frame (w := noStates ||| Part.states) rfl (Frame.refl _ x)).lt
    · rw [← State.rs_congr regs, ← State.needOf_congr regs]
      exact moved n hn
  · intro hnot
    refine completes_runSeq (f := fun s => (s.warnElapsed p).arbitrate) rfl hs ?_
    have waits : x.arbitrate = x := State.arbitrate_waits hx fun hb => by
      obtain ⟨hmin, hfits⟩ := budget.1 hb
      rcases hnot with h | h
      · exact absurd hmin (Nat.not_le.2 h)
      · exact absurd hfits (Nat.not_le.2 h)
    show x.arbitrate.portal p = _ ∧ x.arbitrate.seq.starts = _ ∧ _ ≤ x.arbitrate.time.lt ∧ x.arbitrate.axes = s.axes
    rw [waits]
    refine ⟨?_, ?_, time, xaxes⟩
    · rw [State.portal, added.portals rfl]
      exact State.warned_portal s0 p t0
    · rw [hx, added.time rfl, ← State.lt]

end Sys2Proof.Machine
end

section
/-!
PROOFS. A restrictive action on one portal (R101, R104, R105): what it does to that portal, and that it leaves the others as they are.
-/
namespace Sys2Proof.Machine
open Sys2Proof

/-! ### Operations on one portal -/

theorem State.portal_congr {s x : State} (h : x.portals = s.portals) (k : Nat) : x.portal k = s.portal k := by
  rw [State.portal, State.portal, h]

/-- `t` comes from `s` by operations on portal `p`: the other portals, the registers and the zero-speed input seen last are as they were. -/
structure State.Touches (p : Nat) (s t : State) : Prop where
  others : ∀ k, k ≠ p → t.portal k = s.portal k
  regs : t.regs = s.regs
  zeroSpeed : t.seq.zeroSpeed = s.seq.zeroSpeed

theorem State.Touches.refl (p : Nat) (s : State) : State.Touches p s s := ⟨fun _ _ => rfl, rfl, rfl⟩

theorem State.Touches.trans {p : Nat} {s x t : State} (h : State.Touches p s x) (h' : State.Touches p x t) : State.Touches p s t :=
  ⟨fun k hk => (h'.others k hk).trans (h.others k hk), h'.regs.trans h.regs, h'.zeroSpeed.trans h.zeroSpeed⟩

theorem State.Touches.goes {p : Nat} {s t : State} (h : State.Touches p s t) : s.PortalGoes t p (t.portal p).st :=
  ⟨rfl, fun k hk => congrArg Portal.st (h.others k hk)⟩

/-- The parts that the operations on a portal's axes may write. -/
def axisParts : Nat := Part.rcd ||| Part.cnt ||| Part.axes ||| Part.ilk ||| Part.loads ||| Part.sys

theorem State.Touches.ofFrame {p : Nat} {s t : State} (h : Frame axisParts s t) : State.Touches p s t where
  others k _ := State.portal_congr (h.portals rfl) k
  regs := h.regs rfl
  zeroSpeed := by rw [h.seq rfl]

theorem State.portal_ofFrame {s t : State} (h : Frame axisParts s t) (k : Nat) : t.portal k = s.portal k :=
  State.portal_congr (h.portals rfl) k

theorem State.setPortal_touches (s : State) (p : Nat) (q : Portal) : State.Touches p s (s.setPortal p q) where
  others k hk := by simp [hk]
  regs := by simp
  zeroSpeed := by simp

theorem State.modPortal_touches (s : State) (p : Nat) (f : Portal → Portal) : State.Touches p s (s.modPortal p f) :=
  State.setPortal_touches s p _

theorem State.dropStarts_touches (s : State) (p : Nat) : State.Touches p s (s.dropStarts p) := ⟨fun _ _ => rfl, rfl, rfl⟩

theorem State.dropLeafStarts_touches (s : State) (p : Nat) : State.Touches p s (s.dropLeafStarts p) := ⟨fun _ _ => rfl, rfl, rfl⟩

theorem State.stopAll_keeps (s : State) (l : List Nat) : Frame axisParts s (s.stopAll l) := State.stopAll_frame rfl (Frame.refl _ s)

theorem State.testAborts_keeps (s : State) (l : List Nat) : Frame axisParts s (forEach l State.testAbort s) :=
  forEach_frame (fun _ _ h => State.testAbort_frame rfl h) l (Frame.refl _ s)

theorem State.commandSwitches_keeps (s : State) : Frame axisParts s s.commandSwitches := State.commandSwitches_frame rfl (Frame.refl _ s)

theorem State.leaveShelf_keeps (s : State) (st : PState) : Frame axisParts s (s.leaveShelf st) := State.leaveShelf_frame rfl (Frame.refl _ s)

theorem State.portalOutputs_touches (s : State) (p : Nat) : State.Touches p s (s.portalOutputs p) :=
  (State.modPortal_touches s p _).trans (.ofFrame (State.commandSwitches_keeps _))

/-- The outputs of a portal follow its state; what else it holds is as before (R109, R110, R125). -/
theorem State.portalOutputs_portal (s : State) (p : Nat) : (s.portalOutputs p).portal p = { s.portal p with
    lockOut := (s.portal p).st.moving || (s.portal p).st == .emergency
    reqLamp := ((s.portal p).st == .released || (s.portal p).st == .closed) && (s.portal p).reqEnabled
    warnLamp := (s.portal p).warnLamp && (s.portal p).st.warns
    chime := (s.portal p).chime && (s.portal p).st.warns } := by
  rw [State.portalOutputs, State.portal_ofFrame (State.commandSwitches_keeps _)]
  simp

theorem State.acted_touches (s : State) (p r : Nat) : State.Touches p s (s.acted p r) := by
  unfold State.acted
  dsimp only
  split
  · exact (State.modPortal_touches s p _).trans (.ofFrame (State.testAborts_keeps _ _))
  · exact State.modPortal_touches s p _

/-- A trigger that has acted leaves its rank in the portal (R108). -/
theorem State.acted_portal (s : State) (p r : Nat) : (s.acted p r).portal p = { s.portal p with rankNow := min (s.portal p).rankNow r } := by
  unfold State.acted
  dsimp only
  split
  · rw [State.portal_ofFrame (State.testAborts_keeps _ _)]
    simp
  · simp

/-! ### Entering a state that ends no portal cycle -/

section Enter

variable {st : PState} (h1 : st ≠ .locked) (h2 : st ≠ .isolated) (h3 : st ≠ .fault)

include h1 h2 h3

theorem State.enter_touches (s : State) (p : Nat) : State.Touches p s (s.enter p st) := by
  unfold State.enter
  dsimp only
  rw [if_neg (by simpa using h1), if_neg (by simp [h1, h2, h3])]
  exact (State.setPortal_touches s p _).trans ((State.portalOutputs_touches _ p).trans (.ofFrame (State.leaveShelf_keeps _ _)))

theorem State.enter_lockPending (s : State) (p : Nat) (h4 : st ≠ .locking) :
    ((s.enter p st).portal p).lockPending = (s.portal p).lockPending := by
  unfold State.enter
  dsimp only
  rw [if_neg (by simpa using h1), if_neg (by simp [h1, h2, h3]), State.portal_ofFrame (State.leaveShelf_keeps _ _), State.portalOutputs_portal]
  simp [h1, h2, h3, h4]

end Enter

/-! ### A LOCK or FORCED_CLOSE (R105) -/

theorem State.toLocking_touches (s : State) (p : Nat) : State.Touches p s (s.toLocking p) := by
  unfold State.toLocking
  dsimp only
  refine State.Touches.trans ?_ (State.enter_touches (by decide) (by decide) (by decide) _ p)
  refine State.Touches.trans ?_ (State.modPortal_touches _ p _)
  split
  · exact (State.dropStarts_touches s p).trans (.ofFrame (State.stopAll_keeps _ _))
  · exact .refl p s

theorem State.toWarning_touches (s : State) (p : Nat) (stopping : Bool) : State.Touches p s (s.toWarning p stopping) := by
  unfold State.toWarning
  dsimp only
  refine State.Touches.trans ?_ (State.modPortal_touches _ p _)
  refine State.Touches.trans ?_ (State.enter_touches (by decide) (by decide) (by decide) _ p)
  split
  · exact (State.dropLeafStarts_touches s p).trans (.ofFrame (State.stopAll_keeps _ _))
  · exact .refl p s

theorem State.toWarning_lockPending (s : State) (p : Nat) (stopping : Bool) :
    ((s.toWarning p stopping).portal p).lockPending = (s.portal p).lockPending := by
  unfold State.toWarning
  dsimp only
  rw [State.modPortal_eq, State.portal_setPortal, if_pos rfl]
  dsimp only
  rw [State.enter_lockPending (by decide) (by decide) (by decide) _ p (by decide)]
  split
  · rw [State.portal_ofFrame (State.stopAll_keeps _ _)]
    rfl
  · rfl

theorem State.tryT9_touches (s : State) (p : Nat) : State.Touches p s (s.tryT9 p) := by
  unfold State.tryT9
  split
  · exact (State.toWarning_touches s p false).trans (State.acted_touches _ p _)
  · exact .refl p s

/-- What a LOCK or a FORCED_CLOSE sets in a portal before it moves it: the release and the requests go, and with them a closing given up that
came before the action was accepted (R124). -/
def State.restricted (s : State) (p a : Nat) (acc : Option Ticks) : State :=
  let q := s.portal p
  let new := q.closeObstructed && (match acc with
    | some t => decide (q.obstructedAt ≤ t)
    | none => false)
  let s2 := ((s.modPortal p (fun q => { q with reqEnabled := false })).portalOutputs p).modPortal p (fun q =>
    { q with released := false, forced := q.forced || a == 7, reopenCnt := if new then 0 else q.reopenCnt,
             closeObstructed := q.closeObstructed && !new })
  if a = 7 then s2.flag p 6 else s2

/-- LOCK and FORCED_CLOSE by the state of the portal (R105). -/
def State.lockBy (s : State) (p a : Nat) (acc : Option Ticks) : PState → State
  | .unlocking | .released | .closed => (s.restricted p a acc).toLocking p
  | .opening => ((s.restricted p a acc).modPortal p (fun q => { q with lockPending := true })).toWarning p true
  | .open_ => ((s.restricted p a acc).modPortal p (fun q => { q with lockPending := true })).tryT9 p
  | .warning | .closing | .reopening => (s.restricted p a acc).modPortal p (fun q => { q with lockPending := true })
  | _ => (s.modPortal p (fun q => { q with reqEnabled := false })).portalOutputs p

section Lock

variable {a : Nat} (ha : a = 6 ∨ a = 7)

include ha in
theorem State.restrict_lock (s : State) (p : Nat) (acc : Option Ticks) : s.restrict p a acc = s.lockBy p a acc (s.portal p).st := by
  unfold State.restrict
  extract_lets q s1 new s2 s3
  rw [if_neg (by omega)]
  rfl

theorem State.restricted_frame (s : State) (p : Nat) (acc : Option Ticks) :
    Frame (Part.portals ||| Part.loads) s (s.restricted p a acc) := by
  have outputs : Frame (Part.portals ||| Part.loads) s ((s.modPortal p (fun q => { q with reqEnabled := false })).portalOutputs p) :=
    State.portalOutputs_frame rfl (State.modPortal_frame rfl (fun _ _ => rfl) (Frame.refl _ s))
  unfold State.restricted
  dsimp only
  exact Frame.ite (State.flag_frame rfl (State.modPortal_frame rfl (fun _ _ => rfl) outputs)) (State.modPortal_frame rfl (fun _ _ => rfl) outputs)

theorem State.restricted_touches (s : State) (p : Nat) (acc : Option Ticks) : State.Touches p s (s.restricted p a acc) := by
  have outputs := (State.modPortal_touches s p (fun q => { q with reqEnabled := false })).trans (State.portalOutputs_touches _ p)
  unfold State.restricted
  dsimp only
  split
  · exact outputs.trans ((State.modPortal_touches _ p _).trans (State.modPortal_touches _ p _))
  · exact outputs.trans (State.modPortal_touches _ p _)

/-- The fields of a portal that a LOCK or FORCED_CLOSE sets, and those that what follows asks for. -/
theorem State.restricted_portal (s : State) (p : Nat) (acc : Option Ticks) :
    ((s.restricted p a acc).portal p).released = false ∧ ((s.restricted p a acc).portal p).reqEnabled = false ∧
    ((s.restricted p a acc).portal p).forced = ((s.portal p).forced || a == 7) ∧
    ((s.restricted p a acc).portal p).obstStart = (s.portal p).obstStart ∧
    ((s.restricted p a acc).portal p).rankNow = (s.portal p).rankNow := by
  unfold State.restricted State.flag
  dsimp only
  split <;> simp [State.portalOutputs_portal]

theorem State.lockBy_touches (s : State) (p : Nat) (acc : Option Ticks) (st : PState) : State.Touches p s (s.lockBy p a acc st) := by
  have base := State.restricted_touches (a := a) s p acc
  have marked := base.trans (State.modPortal_touches _ p (fun q => { q with lockPending := true }))
  have outputs := (State.modPortal_touches s p (fun q => { q with reqEnabled := false })).trans (State.portalOutputs_touches _ p)
  cases st
  case unlocking | released | closed => exact base.trans (State.toLocking_touches _ p)
  case opening => exact marked.trans (State.toWarning_touches _ p true)
  case open_ => exact marked.trans (State.tryT9_touches _ p)
  case warning | closing | reopening => exact marked
  case unused | referencing | locked | locking | isolated | fault | emergency => exact outputs

section Reach

variable {s : State} {p : Nat} {acc : Option Ticks}

include ha

theorem State.restrict_touches : State.Touches p s (s.restrict p a acc) := by
  rw [State.restrict_lock ha]
  exact State.lockBy_touches s p acc _

/-- T5 and T27: a portal at rest and unlocked locks. -/
theorem State.restrict_locking (hst : (s.portal p).st = .unlocking ∨ (s.portal p).st = .released ∨ (s.portal p).st = .closed) :
    ((s.restrict p a acc).portal p).st = .locking := by
  have locks : s.restrict p a acc = (s.restricted p a acc).toLocking p := by
    rw [State.restrict_lock ha]
    rcases hst with h | h | h <;> rw [h] <;> rfl
  rw [locks]
  exact (State.toLocking_goes _ p).1

/-- T8: a portal that opens stops and warns, with the LOCK pending. -/
theorem State.restrict_opening (hst : (s.portal p).st = .opening) :
    ((s.restrict p a acc).portal p).st = .warning ∧ ((s.restrict p a acc).portal p).lockPending = true := by
  rw [State.restrict_lock ha, hst]
  refine ⟨(State.toWarning_goes _ p true).1, (State.toWarning_lockPending _ p true).trans ?_⟩
  simp

/-- A portal that closes, is about to, or reopens goes on, with the LOCK pending. -/
theorem State.restrict_pending (hst : (s.portal p).st = .warning ∨ (s.portal p).st = .closing ∨ (s.portal p).st = .reopening) :
    ((s.restrict p a acc).portal p).st = (s.portal p).st ∧ ((s.restrict p a acc).portal p).lockPending = true ∧
    ((s.restrict p a acc).portal p).released = false ∧ ((s.restrict p a acc).portal p).reqEnabled = false ∧
    (a = 7 → ((s.restrict p a acc).portal p).forced = true) := by
  obtain ⟨released, requests, forced, -, -⟩ := State.restricted_portal (a := a) s p acc
  have marked : s.restrict p a acc = (s.restricted p a acc).modPortal p (fun q => { q with lockPending := true }) := by
    rw [State.restrict_lock ha]
    rcases hst with h | h | h <;> rw [h] <;> rfl
  rw [marked, State.modPortal_eq, State.portal_setPortal, if_pos rfl]
  exact ⟨(State.restricted_frame s p acc).states rfl p, rfl, released, requests, fun h => forced.trans (by simp [h])⟩

/-- T9: an open portal with nothing in the way warns. -/
theorem State.restrict_open (hst : (s.portal p).st = .open_) (hobst : (s.portal p).obstStart = none) (hfree : a = 7 ∨ s.inPresence p = false)
    (hrank : 5 ≤ (s.portal p).rankNow) : ((s.restrict p a acc).portal p).st = .warning := by
  obtain ⟨-, -, forced, obst, rank⟩ := State.restricted_portal (a := a) s p acc
  have kept := State.restricted_frame (a := a) s p acc
  have st : ((s.restricted p a acc).portal p).st = .open_ := (kept.states rfl p).trans hst
  have presence : ∀ q, ((s.restricted p a acc).setPortal p q).inPresence p = s.inPresence p := fun q =>
    State.inPresence_congr (kept.regs rfl) (kept.fio rfl) p
  rw [State.restrict_lock ha, hst]
  refine (State.tryT9_goes ?_ ?_).1
  · have free : (((s.restricted p a acc).portal p).forced || !s.inPresence p) = true := by
      rw [forced]
      rcases hfree with h | h <;> simp [h]
    simpa [State.t9Ready, st, obst, hobst, presence] using free
  · rw [State.t9Rank_lock (by simp)]
    simpa [rank] using hrank

end Reach

end Lock

end Sys2Proof.Machine
end

section
/-!
PROOFS. Actions on the portals of a mask, the loss of the zero-speed input (R101), and the slots that are due (R116).
-/
namespace Sys2Proof.Machine
open Sys2Proof

/-! ### One action on one portal -/

section ActOn

variable {s : State} {p a : Nat} {acc : Option Ticks}

/-- A portal that no action moves is skipped (R99, R100). -/
theorem State.actOn_skips (hst : (s.portal p).st = .unused ∨ (s.portal p).st = .referencing ∨ (s.portal p).st = .isolated ∨
    (s.portal p).st = .fault) : s.actOn p a acc = (s, false) := by
  unfold State.actOn
  split
  · rfl
  · rcases hst with h | h | h | h <;> rw [h]

/-- Without the zero-speed input a permissive action skips every portal (R100). -/
theorem State.actOn_noStandstill (ha : permissive a = true) (hz : s.zeroSpeed = false) : s.actOn p a acc = (s, false) := by
  unfold State.actOn
  split
  · rfl
  · split
    case h_5 =>
      have low : ¬(a = 6 ∨ a = 7) := by
        simp [permissive] at ha
        omega
      exact if_neg low
    case h_6 => exact if_pos (by simp [hz])
    all_goals rfl

variable (hen : s.portalEn p = true) (hmove : (s.portal p).st.moving = true)

include hen hmove

/-- A restrictive action on a portal from UNLOCKING to LOCKING (R105, R108). -/
theorem State.actOn_restrictive (ha : permissive a = false) : s.actOn p a acc =
    if (s.portal p).rankNow < 5 then (s.modPortal p (fun q => { q with heldRestrictive := q.heldRestrictive ++ [(a, acc)] }), true)
    else ((s.restrict p a acc).acted p 5, true) := by
  unfold State.actOn
  rw [if_neg (by simp [hen])]
  split
  case h_6 => exact if_neg (by simp [ha])
  all_goals
    rename_i h
    rw [h] at hmove
    exact absurd hmove (by decide)

theorem State.actOn_restricts (ha : permissive a = false) (hrank : 5 ≤ (s.portal p).rankNow) :
    s.actOn p a acc = ((s.restrict p a acc).acted p 5, true) := by
  rw [State.actOn_restrictive hen hmove ha, if_neg (Nat.not_lt.2 hrank)]

theorem State.actOn_lock_touches (ha : a = 6 ∨ a = 7) : State.Touches p s (s.actOn p a acc).1 := by
  rw [State.actOn_restrictive hen hmove (by rcases ha with rfl | rfl <;> rfl)]
  split <;> dsimp only
  · exact State.modPortal_touches s p _
  · exact (State.restrict_touches ha).trans (State.acted_touches _ p 5)

end ActOn

/-! ### The portals of a mask -/

theorem foldl_actOn_fst (a : Nat) (acc : Option Ticks) : ∀ (l : List Nat) (r : State × Nat),
    (l.foldl (fun r p => let t := r.1.actOn p a acc; (t.1, if t.2 then r.2 else r.2 + 2 ^ p)) r).1 =
      forEach l (fun s p => (s.actOn p a acc).1) r.1
  | [], _ => rfl
  | _ :: l, _ => foldl_actOn_fst a acc l _

/-- An action other than WITHDRAW_PERMIT acts on the portals of its mask one after another. -/
theorem State.applyAction_eq (s : State) {a : Nat} (ha : a ≠ 8) (mask : Nat) (acc : Option Ticks) : (s.applyAction a mask acc).1 =
    forEach ((List.range 16).filter (fun p => mask.testBit p)) (fun s p => (s.actOn p a acc).1) s := by
  unfold State.applyAction
  rw [if_neg ha]
  exact foldl_actOn_fst a acc _ (s, 0)

/-- What an execution does after the action itself is to record it. -/
theorem State.execute_records (s : State) (a mask : Nat) (late : Bool) (t : TimeNs) (acc : Option Ticks) :
    Frame (Part.rcd ||| Part.cnt) ((s.noteLock a).applyAction a mask acc).1 (s.execute a mask late t acc) := by
  unfold State.execute
  dsimp only
  split
  · exact State.count_frame rfl (State.count_frame rfl (State.raise_frame rfl (Frame.refl _ _)))
  · exact State.count_frame rfl (State.raise_frame rfl (Frame.refl _ _))

/-- The mask of an ascending list of portals has their bits. -/
theorem testBit_foldl_two_pow (k : Nat) : ∀ (l : List Nat) (m : Nat), l.Pairwise (· < ·) → (∀ p ∈ l, m < 2 ^ p) →
    (l.foldl (fun m p => m + 2 ^ p) m).testBit k = (m.testBit k || decide (k ∈ l))
  | [], m, _, _ => by simp
  | p :: l, m, hl, hm => by
    obtain ⟨hp, hl⟩ := List.pairwise_cons.1 hl
    have low : m < 2 ^ p := hm p List.mem_cons_self
    have next : m + 2 ^ p < 2 ^ (p + 1) := by
      rw [Nat.pow_succ]
      omega
    rw [List.foldl_cons, testBit_foldl_two_pow k l (m + 2 ^ p) hl fun q hq => next.trans_le (Nat.pow_le_pow_right (by decide) (hp q hq)),
      Nat.add_comm m]
    rcases Nat.lt_trichotomy k p with h | h | h
    · simp [Nat.testBit_two_pow_add_gt h, Nat.ne_of_lt h]
    · simp [h, Nat.testBit_two_pow_add_eq, Nat.testBit_lt_two_pow low]
    · have above : 2 ^ p + m < 2 ^ k := by
        rw [Nat.add_comm]
        exact next.trans_le (Nat.pow_le_pow_right (by decide) h)
      simp [Nat.testBit_lt_two_pow above, Nat.testBit_lt_two_pow (low.trans (Nat.pow_lt_pow_right (by decide) h)), Nat.ne_of_gt h]

theorem filter_testBit_mask (f : Nat → Bool) :
    (List.range 16).filter (fun k => (((List.range 16).filter f).foldl (fun m p => m + 2 ^ p) 0).testBit k) = (List.range 16).filter f := by
  refine List.filter_congr fun k hk => ?_
  rw [testBit_foldl_two_pow k _ 0 (List.pairwise_lt_range.filter f) fun p _ => Nat.two_pow_pos p]
  simp [List.mem_range.1 hk]

/-- Operations on one portal each, one after another: every portal takes its own from the state in which it was. -/
theorem forEach_touches {ps : List Nat} {f : State → Nat → State} {s : State}
    (hf : ∀ x p, x.regs = s.regs → x.portal p = s.portal p → p ∈ ps → State.Touches p x (f x p)) :
    ∀ (l : List Nat) (x : State), l ⊆ ps → l.Nodup → x.regs = s.regs → (∀ p ∈ l, x.portal p = s.portal p) →
      (forEach l f x).seq.zeroSpeed = x.seq.zeroSpeed ∧ (∀ k, k ∉ l → (forEach l f x).portal k = x.portal k) ∧
      ∀ p ∈ l, ∃ u : State, u.regs = s.regs ∧ u.portal p = s.portal p ∧ (forEach l f x).portal p = (f u p).portal p
  | [], x, _, _, _, _ => ⟨rfl, fun _ _ => rfl, fun _ h => absurd h List.not_mem_nil⟩
  | p :: l, x, hsub, hnd, hregs, hsame => by
    obtain ⟨hp, hnd⟩ := List.nodup_cons.1 hnd
    have step := hf x p hregs (hsame p List.mem_cons_self) (hsub List.mem_cons_self)
    obtain ⟨zs, out, inl⟩ := forEach_touches hf l (f x p) (fun k hk => hsub (List.mem_cons_of_mem p hk)) hnd (step.regs.trans hregs)
      fun k hk => (step.others k fun e => hp (e ▸ hk)).trans (hsame k (List.mem_cons_of_mem p hk))
    refine ⟨zs.trans step.zeroSpeed, fun k hk => ?_, fun k hk => ?_⟩
    · exact (out k fun h => hk (List.mem_cons_of_mem p h)).trans (step.others k fun e => hk (e ▸ List.mem_cons_self))
    · rcases List.mem_cons.1 hk with rfl | hk
      · exact ⟨x, hregs, hsame k List.mem_cons_self, out k hp⟩
      · exact inl k hk

/-! ### The zero-speed input goes inactive (R101) -/

section ZeroSpeed

variable {s : State} (hz : s.zeroSpeed = false) (hseq : s.seq.zeroSpeed = true)

/-- The LOCK that the loss of the zero-speed input gives to each portal from UNLOCKING to CLOSED: what it does to the sequencer's view of the
input, and to each of these portals from a state that agrees with the one before on it and on the registers. -/
theorem State.execute_lock {ps : List Nat} (hps : ps = s.enabledPortals.filter (fun p => (s.portal p).st.moving)) (t : TimeNs) :
    let x := s.execute 6 (ps.foldl (fun m p => m + 2 ^ p) 0) false t none
    x.seq.zeroSpeed = s.seq.zeroSpeed ∧
      ∀ p ∈ ps, ∃ u : State, u.regs = s.regs ∧ u.portal p = s.portal p ∧ x.portal p = (u.actOn p 6 none).1.portal p := by
  have own : ∀ x p, x.regs = s.regs → x.portal p = s.portal p → p ∈ ps → State.Touches p x (x.actOn p 6 none).1 := fun x p hregs hsame hp => by
    rw [hps] at hp
    obtain ⟨hen, hmove⟩ := List.mem_filter.1 hp
    exact State.actOn_lock_touches ((State.portalEn_congr hregs p).trans (List.mem_filter.1 hen).2) (by rw [hsame]; exact hmove) (.inl rfl)
  have mask : (List.range 16).filter (fun k => (ps.foldl (fun m p => m + 2 ^ p) 0).testBit k) = ps := by
    rw [hps, State.enabledPortals, List.filter_filter]
    exact filter_testBit_mask _
  have nodup : ps.Nodup := hps ▸ (List.nodup_range.filter _).filter _
  have noted : (s.noteLock 6).portals = s.portals ∧ (s.noteLock 6).regs = s.regs ∧ (s.noteLock 6).seq.zeroSpeed = s.seq.zeroSpeed := by
    unfold State.noteLock
    split <;> exact ⟨rfl, rfl, rfl⟩
  have same : ∀ p, (s.noteLock 6).portal p = s.portal p := State.portal_congr noted.1
  obtain ⟨zs, -, each⟩ := forEach_touches own ps (s.noteLock 6) (fun _ h => h) nodup noted.2.1 fun p _ => same p
  have recorded := State.execute_records s 6 (ps.foldl (fun m p => m + 2 ^ p) 0) false t none
  rw [State.applyAction_eq _ (by decide), mask] at recorded
  refine ⟨?_, fun p hp => ?_⟩
  · rw [recorded.seq rfl, zs, noted.2.2]
  · obtain ⟨u, hregs, hsame, h⟩ := each p hp
    exact ⟨u, hregs, hsame, (State.portal_congr (recorded.portals rfl) p).trans h⟩

include hz hseq

theorem State.zeroSpeedOff_notes : s.zeroSpeedOff.seq.zeroSpeed = false ∧
    ∀ p, p < 16 → s.portalEn p = true → (s.portal p).st.moving = true →
      ∃ u : State, u.regs = s.regs ∧ u.portal p = s.portal p ∧ s.zeroSpeedOff.portal p = (u.actOn p 6 none).1.portal p := by
  let s1 : State := { s with seq := { s.seq with zeroSpeed := false } }
  let ps := s1.enabledPortals.filter (fun p => (s1.portal p).st.moving)
  have off : s.zeroSpeedOff = if ps = [] then s1 else (s1.raise 0x3022 noInst).execute 6 (ps.foldl (fun m p => m + 2 ^ p) 0) false s.tt none := by
    unfold State.zeroSpeedOff
    rw [when_of (by rw [hz, hseq]; rfl)]
  have raised : Frame (Part.rcd ||| Part.cnt) s1 (s1.raise 0x3022 noInst) := State.raise_frame rfl (Frame.refl _ s1)
  have portals : ∀ p, (s1.raise 0x3022 noInst).portal p = s1.portal p := State.portal_congr (raised.portals rfl)
  have members : ps = (s1.raise 0x3022 noInst).enabledPortals.filter (fun p => ((s1.raise 0x3022 noInst).portal p).st.moving) := by
    rw [State.enabledPortals, funext (State.portalEn_congr (raised.regs rfl)), funext portals]
    rfl
  obtain ⟨zs, each⟩ := State.execute_lock members s.tt
  rw [off]
  split
  case isTrue hnone =>
    refine ⟨rfl, fun p hp hen hmove => ?_⟩
    have mem : p ∈ ps := List.mem_filter.2 ⟨List.mem_filter.2 ⟨List.mem_range.2 hp, hen⟩, hmove⟩
    exact absurd (hnone ▸ mem) List.not_mem_nil
  case isFalse =>
    refine ⟨?_, fun p hp hen hmove => ?_⟩
    · rw [zs, raised.seq rfl]
    · obtain ⟨u, hregs, hsame, h⟩ := each p (List.mem_filter.2 ⟨List.mem_filter.2 ⟨List.mem_range.2 hp, hen⟩, hmove⟩)
      exact ⟨u, hregs.trans (raised.regs rfl), hsame.trans (portals p), h⟩

/-- A portal with no higher trigger locks as R105 says. -/
theorem State.zeroSpeedOff_locks {p : Nat} (hp : p < 16) (hen : s.portalEn p = true) (hmove : (s.portal p).st.moving = true)
    (hrank : 5 ≤ (s.portal p).rankNow) : ∃ u : State, u.portal p = s.portal p ∧
      (s.zeroSpeedOff.portal p).st = ((u.restrict p 6 none).portal p).st ∧
      (s.zeroSpeedOff.portal p).lockPending = ((u.restrict p 6 none).portal p).lockPending := by
  obtain ⟨u, hregs, hsame, h⟩ := (State.zeroSpeedOff_notes hz hseq).2 p hp hen hmove
  rw [State.actOn_restricts ((State.portalEn_congr hregs p).trans hen) (by rw [hsame]; exact hmove) rfl (by rw [hsame]; exact hrank),
    State.acted_portal] at h
  exact ⟨u, hsame, by rw [h], by rw [h]⟩

end ZeroSpeed

/-! ### The slots that are due (R116) -/

theorem State.slot_congr {s x : State} (h : x.seq.slots = s.seq.slots) (k : Nat) : x.slot k = s.slot k := by
  rw [State.slot, State.slot, h]

theorem State.setSlot_slot (s : State) (i k : Nat) (c : Slot) : (s.setSlot i c).slot k = if k = i then c else s.slot k :=
  Table.get_set _ _ _ _ _

theorem State.freeSlot_slot (s : State) (i k : Nat) : (s.freeSlot i).slot k = if k = i then {} else s.slot k := by
  unfold State.freeSlot
  rw [State.slot_congr (congrArg Sequencer.slots ((State.mirrorSlot_frame (w := Part.twin ||| Part.outs) rfl (Frame.refl _ _)).seq rfl)),
    State.setSlot_slot]
  rfl

/-- A slot that is run is freed, whether its action executes or was suspended; the other slots are as before (R115, R116). -/
theorem State.runSlot_slot (s : State) (i k : Nat) : (s.runSlot i).slot k = if k = i then {} else s.slot k := by
  unfold State.runSlot
  dsimp only
  split <;> rw [State.freeSlot_slot]
  · rw [State.slot_congr (s := s)]
    exact congrArg Sequencer.slots ((State.count_frame (w := Part.rcd ||| Part.cnt) rfl (State.raise_frame rfl (Frame.refl _ s))).seq rfl)
  · rw [State.slot_congr (s := s)]
    exact ((State.execute_frame (w := 2 ^ 29 - 1) rfl (Frame.refl _ s)).actions rfl).1

theorem forEach_runSlot_slot (k : Nat) : ∀ (l : List Nat) (s : State), (forEach l State.runSlot s).slot k = if k ∈ l then {} else s.slot k
  | [], _ => by simp
  | i :: l, s => by
    rw [forEach_cons, forEach_runSlot_slot k l, State.runSlot_slot]
    by_cases h : k ∈ l <;> simp [h]

/-- A fold that keeps what it has or takes the next entry ends with an entry or with what it began with. -/
theorem foldl_choice_mem {α : Type} {f : Option α → α → Option α} (hf : ∀ a t, f a t = some t ∨ f a t = a) {t : α} :
    ∀ (l : List α) (a : Option α), l.foldl f a = some t → t ∈ l ∨ a = some t
  | [], _, h => .inr h
  | u :: l, a, h => by
    rcases foldl_choice_mem hf l _ h with hm | hm
    · exact .inl (List.mem_cons_of_mem u hm)
    · rcases hf a u with e | e
      · exact .inl (List.mem_cons.2 (.inl (Option.some.inj (hm.symm.trans e))))
      · exact .inr (e.symm.trans hm)

/-- The earliest instant at which a slot is due is one at which a slot is due. -/
theorem State.slotsDue_ne_nil {s : State} {t0 : TimeNs} (h : s.nextSlotTt = some t0) : s.slotsDue t0 ≠ [] := by
  have keeps : ∀ u v : TimeNs, some (min u v) = some v ∨ some (min u v) = some u := fun u v =>
    (Nat.le_total u v).symm.imp (fun h => congrArg some (Nat.min_eq_right h)) fun h => congrArg some (Nat.min_eq_left h)
  unfold State.nextSlotTt at h
  rcases foldl_choice_mem (fun a v => by cases a with
    | none => exact .inl rfl
    | some u => exact keeps u v) _ none h with hm | hm
  · obtain ⟨i, hi, hdue⟩ := List.mem_map.1 hm
    exact List.ne_nil_of_mem (List.mem_filter.2 ⟨hi, by simpa using hdue⟩)
  · cases hm

/-- The slots that are due are freed, the permissive ones first; no other slot changes. -/
theorem State.slotDue_slot {s : State} {t0 : TimeNs} (hs : s.standby = false) (h : s.nextSlotTt = some t0) (k : Nat) :
    s.slotDue.slot k = if k ∈ s.slotsDue t0 then {} else s.slot k := by
  have now : (s.passToTt t0).slot k = s.slot k :=
    State.slot_congr (congrArg Sequencer.slots ((State.passToTt_frame (w := Part.bk ||| Part.time) rfl (Frame.refl _ s)).seq rfl)) k
  unfold State.slotDue
  rw [if_neg (by simp [hs]), h]
  dsimp only
  rw [forEach_runSlot_slot, forEach_runSlot_slot, now]
  by_cases hp : permissive (s.slot k).action = true <;> by_cases hd : k ∈ s.slotsDue t0 <;> simp [hp, hd]

/-- Settles O26: the LOCK of R101 reaches each portal that the statement speaks of; the slots that are due run and are freed. -/
theorem zeroSpeedAndDueSlots : Obligations.ZeroSpeedAndDueSlots := by
  refine ⟨fun s hs hz hseq => completes_runSeq (f := State.zeroSpeedOff) rfl hs
      ⟨(State.zeroSpeedOff_notes (s := { s with outs := [] }) hz hseq).1, fun p hen hrank => ?_⟩,
    fun s t0 hs h => completes_runSeq (f := State.slotDue) rfl hs ⟨fun i hi => ?_, fun i hi => ?_, State.slotsDue_ne_nil h⟩⟩
  · have locks := fun hmove => State.zeroSpeedOff_locks (s := { s with outs := [] }) hz hseq p.isLt hen hmove hrank
    refine ⟨fun hst => ?_, fun hst => ?_, fun hst => ?_⟩
    · obtain ⟨u, hsame, st, -⟩ := locks (by rcases hst with h | h | h <;> exact (congrArg PState.moving h).trans rfl)
      exact st.trans (State.restrict_locking (.inl rfl) (by rw [hsame]; exact hst))
    · obtain ⟨u, hsame, st, pend⟩ := locks ((congrArg PState.moving hst).trans rfl)
      obtain ⟨hwarn, hlock⟩ := State.restrict_opening (a := 6) (acc := none) (.inl rfl) (s := u) (p := p) (by rw [hsame]; exact hst)
      exact ⟨st.trans hwarn, pend.trans hlock⟩
    · obtain ⟨u, hsame, st, pend⟩ := locks (by rcases hst with h | h | h <;> exact (congrArg PState.moving h).trans rfl)
      obtain ⟨hsamest, hlock, -⟩ := State.restrict_pending (a := 6) (acc := none) (.inl rfl) (s := u) (p := p) (by rw [hsame]; exact hst)
      exact ⟨st.trans (hsamest.trans (by rw [hsame]; rfl)), pend.trans hlock⟩
  · exact (State.slotDue_slot (s := { s with outs := [] }) hs h i).trans (if_pos hi)
  · exact (State.slotDue_slot (s := { s with outs := [] }) hs h i).trans (if_neg hi)

end Sys2Proof.Machine
end

section
/-!
PROOFS. The first immediate action on one portal (R97, R99, R100, R102, R104, R105, R109).
-/
namespace Sys2Proof.Machine
open Sys2Proof

theorem State.PortalGoes.stays (s : State) (p : Nat) : s.PortalGoes s p (s.portal p).st := ⟨rfl, fun _ _ => rfl⟩

/-! ### A permissive action -/

/-- T4: from LOCKED a permissive action unlocks. -/
theorem State.t4_goes (s : State) (p a : Nat) : s.PortalGoes (s.t4 p a) p .unlocking := by
  have begun : Frame noStates s (s.beginPortalCycle p) := State.beginPortalCycle_frame rfl (Frame.refl _ s)
  have entered : ∀ f : Portal → Portal, (∀ q, (f q).st = q.st) →
      s.PortalGoes (((s.beginPortalCycle p).modPortal p f).enter p .unlocking) p .unlocking := fun _ hf =>
    (State.enter_goes _ p .unlocking).afterFrame (State.modPortal_frame rfl (fun _ => hf) begun)
  unfold State.t4
  dsimp only
  split
  · exact entered _ fun _ => rfl
  · refine State.PortalGoes.thenFrame ?_ (State.startStep_frame rfl (Frame.refl _ _))
    exact entered _ fun _ => rfl

section Permit

variable {s : State} {p a : Nat} {acc : Option Ticks} (hen : s.portalEn p = true) (hz : s.zeroSpeed = true) (hrank : 5 ≤ (s.portal p).rankNow)

include hen hz hrank

/-- At standstill a permissive action on a portal that it may reach is that of the tables (R104, R105). -/
theorem State.actOn_permits (ha : permissive a = true)
    (hst : (s.portal p).st = .locked ∨ (s.portal p).st = .released ∨ (s.portal p).st = .closed) :
    (s.actOn p a acc).1 = if (s.permit p a).2 then (s.permit p a).1.acted p 6 else (s.permit p a).1 := by
  have ready : ¬(!s.zeroSpeed || decide ((s.portal p).rankNow < 5)) = true := by simp [hz, hrank]
  unfold State.actOn
  rw [if_neg (by simp [hen])]
  rcases hst with h | h | h <;> rw [h] <;> dsimp only <;> rw [if_pos ha, if_neg ready]

theorem State.actOn_unlocks (hst : (s.portal p).st = .locked) (ha : a = 1 ∨ a = 2 ∨ a = 3) :
    s.PortalGoes (s.actOn p a acc).1 p .unlocking := by
  have permits : s.permit p a = (s.t4 p a, true) := by
    simp only [State.permit, hst]
    rw [if_neg (by omega)]
  rw [State.actOn_permits hen hz hrank (by rcases ha with rfl | rfl | rfl <;> rfl) (.inl hst), permits]
  exact (State.t4_goes s p a).thenFrame (State.acted_keeps _ p 6)

theorem State.actOn_opens (hst : (s.portal p).st = .released ∨ (s.portal p).st = .closed) :
    s.PortalGoes (s.actOn p 3 acc).1 p .opening := by
  have permits : ∃ x, Frame noStates s x ∧ s.permit p 3 = (x.t7 p, true) := by
    rcases hst with h | h <;>
    · simp only [State.permit, h]
      refine ⟨_, ?_, if_pos (by decide)⟩
      exact State.portalOutputs_frame rfl (State.modPortal_frame rfl (fun _ _ => rfl) (Frame.refl _ s))
  obtain ⟨x, kept, permits⟩ := permits
  rw [State.actOn_permits hen hz hrank rfl (.inr hst), permits]
  exact ((State.t7_goes x p).afterFrame kept).thenFrame (State.acted_keeps _ p 6)

end Permit

/-! ### A restrictive action -/

section Restrict

variable {s : State} {p a : Nat} {acc : Option Ticks} (hen : s.portalEn p = true) (hrank : 5 ≤ (s.portal p).rankNow)

include hen hrank

/-- CLOSE on a portal that opens (T8). -/
theorem State.actOn_close_opening (hst : (s.portal p).st = .opening) : s.PortalGoes (s.actOn p 5 acc).1 p .warning := by
  rw [State.actOn_restricts hen (by rw [hst]; rfl) rfl hrank]
  have closes : s.restrict p 5 acc = ((s.modPortal p (fun q => { q with reqEnabled := false })).portalOutputs p).toWarning p true := by
    simp only [State.restrict, hst, if_true]
  rw [closes]
  refine ((State.toWarning_goes _ p true).thenFrame (State.acted_keeps _ p 5)).afterFrame ?_
  exact State.portalOutputs_frame rfl (State.modPortal_frame rfl (fun _ _ => rfl) (Frame.refl _ s))

/-- LOCK and FORCED_CLOSE take a portal to the state that their row gives. -/
theorem State.actOn_lock_goes {st : PState} (ha : a = 6 ∨ a = 7) (hmove : (s.portal p).st.moving = true)
    (hgoes : ((s.restrict p a acc).portal p).st = st) : s.PortalGoes (s.actOn p a acc).1 p st := by
  rw [State.actOn_restricts hen hmove (by rcases ha with rfl | rfl <;> rfl) hrank]
  exact hgoes ▸ (State.restrict_touches ha).goes.thenFrame (State.acted_keeps _ p 5)

end Restrict

/-! ### The first of the immediate actions (R102) -/

theorem filter_testBit_two_pow : ∀ p : Fin 16, (List.range 16).filter (fun k => (2 ^ p.val).testBit k) = [p.val] := by decide

/-- An immediate action on one portal leaves the list and acts on that portal; the execution is recorded. -/
theorem State.immediateApply_one {s : State} {p : Fin 16} {a key : Nat} {acc : Option Ticks} {rest : List Imm}
    (h : s.seq.imm = ⟨a, 2 ^ p.val, key, false, 0, acc⟩ :: rest) (ha : a ≠ 8) :
    s.immediateApply.seq.imm = rest ∧ ∃ x : State, Frame (Part.seq ||| Part.actions) s x ∧
      Frame (Part.rcd ||| Part.cnt) (x.actOn p a acc).1 s.immediateApply := by
  let y : State := { s with seq := { s.seq with imm := rest } }
  have runs : s.immediateApply = y.execute a (2 ^ p.val) false 0 acc := by
    simp only [State.immediateApply, h, y]
  have recorded := State.execute_records y a (2 ^ p.val) false 0 acc
  rw [State.applyAction_eq _ ha, filter_testBit_two_pow, forEach_cons, forEach_nil, ← runs] at recorded
  have out : Frame (Part.seq ||| Part.actions) s y := Frame.set_seq rfl (fun k => by cases k) (Frame.refl _ s)
  refine ⟨?_, y.noteLock a, State.noteLock_frame rfl out, recorded⟩
  rw [runs]
  exact ((State.execute_frame (w := 2 ^ 29 - 1) rfl (Frame.refl _ y)).actions rfl).2

theorem State.immediateApply_withdraw {s : State} {mask key : Nat} {acc : Option Ticks} {rest : List Imm}
    (h : s.seq.imm = ⟨8, mask, key, false, 0, acc⟩ :: rest) :
    s.immediateApply.seq.withdraw = true ∧ ∀ k, (s.immediateApply.portal k).st = (s.portal k).st := by
  have runs : s.immediateApply = State.execute { s with seq := { s.seq with imm := rest } } 8 mask false 0 acc := by
    simp only [State.immediateApply, h]
  have recorded := State.execute_records { s with seq := { s.seq with imm := rest } } 8 mask false 0 acc
  rw [← runs] at recorded
  refine ⟨?_, fun k => ?_⟩
  · rw [recorded.seq rfl]
    rfl
  · rw [State.portal_congr (recorded.portals rfl)]
    rfl

/-- Settles O25: the action reaches the portal in a state that agrees with the one before on all that it asks. -/
theorem actionsActAsTheirTables : Obligations.ActionsActAsTheirTables := by
  intro s p a key acc rest hs himm hen hrank q goes
  let s0 : State := { s with outs := [] }
  have acts : ∀ {post : State → Prop}, a ≠ 8 → (∀ x t : State, Frame (Part.seq ||| Part.actions) s0 x →
      Frame (Part.rcd ||| Part.cnt) (x.actOn p a acc).1 t → t.seq.imm = rest → post t) → Completes .immediateActionApply s post := by
    intro post ha h
    obtain ⟨himm', x, before, after⟩ := State.immediateApply_one (s := s0) himm ha
    exact completes_runSeq (f := State.immediateApply) rfl hs (h x _ before after himm')
  have moves : ∀ {st : PState}, a ≠ 8 → (∀ x : State, x.portalEn p = true → 5 ≤ (x.portal p).rankNow → x.portal p = q →
      x.inPresence p = s.inPresence p → x.zeroSpeed = s.zeroSpeed → x.PortalGoes (x.actOn p a acc).1 p st) → goes st := by
    intro st ha h
    refine acts ha fun x t before after himm' => ⟨?_, himm'⟩
    have same : x.portal p = q := State.portal_congr (before.portals rfl) p
    refine ((h x ?_ ?_ same ?_ ?_).after (before.states rfl)).then (after.states rfl)
    · exact (State.portalEn_congr (before.regs rfl) p).trans hen
    · rw [same]
      exact (by decide : 5 ≤ 6).trans hrank
    · exact State.inPresence_congr (before.regs rfl) (before.fio rfl) p
    · exact State.zeroSpeed_congr (before.regs rfl) (before.ilk rfl) (before.sys rfl)
  refine ⟨fun hz hst ha => ?_, fun hz hst ha => ?_, fun hz ha => ?_, fun hst ha => ?_, fun hst ha hobst hfree => ?_, fun hst ha => ?_,
    fun hst ha => ?_, fun hst ha => ?_, fun ha => ?_⟩
  · exact moves (by omega) fun x en rank same _ zs => State.actOn_unlocks en (zs.trans hz) rank (same ▸ hst) ha
  · subst ha
    exact moves (by decide) fun x en rank same _ zs => State.actOn_opens en (zs.trans hz) rank (same ▸ hst)
  · refine moves (by omega) fun x _ _ same _ zs => ?_
    rw [State.actOn_noStandstill (by rcases ha with rfl | rfl | rfl | rfl <;> rfl) (zs.trans hz), ← same]
    exact .stays x p
  · refine moves (by omega) fun x en rank same _ _ => ?_
    rcases ha with rfl | ha
    · exact State.actOn_close_opening en rank (same ▸ hst)
    · exact State.actOn_lock_goes en rank ha (by rw [same, hst]; rfl) (State.restrict_opening ha (same ▸ hst)).1
  · refine moves (by omega) fun x en rank same pres _ => ?_
    refine State.actOn_lock_goes en rank ha (by rw [same, hst]; rfl) (State.restrict_open ha (same ▸ hst) (same ▸ hobst) ?_ rank)
    exact pres ▸ hfree
  · refine moves (by omega) fun x en rank same _ _ => ?_
    exact State.actOn_lock_goes en rank ha (by rw [same]; rcases hst with h | h | h <;> rw [h] <;> rfl) (State.restrict_locking ha (same ▸ hst))
  · refine acts (by omega) fun x t before after _ => ?_
    have same : x.portal p = q := State.portal_congr (before.portals rfl) p
    have en := (State.portalEn_congr (before.regs rfl) p).trans hen
    have rank : 5 ≤ (x.portal p).rankNow := by
      rw [same]
      exact (by decide : 5 ≤ 6).trans hrank
    have move : (x.portal p).st.moving = true := by
      rw [same]
      rcases hst with h | h | h <;> rw [h] <;> rfl
    obtain ⟨st, lock, released, requests, forced⟩ := State.restrict_pending (acc := acc) ha (s := x) (p := p) (same ▸ hst)
    have after' : t.portal p = (x.actOn p a acc).1.portal p := State.portal_congr (after.portals rfl) p
    rw [State.actOn_restricts en move (by rcases ha with rfl | rfl <;> rfl) rank] at after'
    rw [after', State.acted_portal]
    refine ⟨?_, lock, released, requests, forced⟩
    exact ((State.actOn_lock_goes en rank ha move (st.trans (congrArg Portal.st same))).after (before.states rfl)).then (after.states rfl)
  · refine moves ha fun x _ _ same _ _ => ?_
    rw [State.actOn_skips (same ▸ hst), ← same]
    exact .stays x p
  · subst ha
    exact completes_runSeq (f := State.immediateApply) rfl hs (State.immediateApply_withdraw (s := s0) himm)

end Sys2Proof.Machine
end

section
/-!
PROOFS. Portal isolation and restoration by command (R104, R106).
-/
namespace Sys2Proof.Machine
open Sys2Proof

/-! ### The portal -/

section Portal

variable {s : State} {p : Nat}

/-- T23: a portal that its lock and its isolation switch secure is isolated. -/
theorem State.isolate_goes (hen : s.portalEn p = true) (hst : (s.portal p).st ≠ .unused) (hlock : s.inLocked p = true)
    (hiso : s.inIsolate p = true) (hrank : 3 ≤ (s.portal p).rankNow) : s.PortalGoes (s.isolate p).1 p .isolated := by
  have secured : (s.portalEn p && (s.portal p).st != .unused && s.inLocked p && s.inIsolate p && decide (3 ≤ (s.portal p).rankNow)) = true := by
    simp [hen, hst, hlock, hiso, hrank]
  unfold State.isolate
  rw [if_pos secured]
  refine ((State.enter_goes _ p .isolated).thenFrame (State.acted_keeps _ p 3)).afterFrame ?_
  refine forEach_frame (fun x n h => ?_) _ ((State.raise_keeps s 0x3016 p []).mono rfl)
  exact Frame.ite (State.removeTorque_frame rfl h) (State.emergencyStop_frame rfl h)

/-- Isolation is rejected where the portal is not secured (R106). -/
theorem State.isolate_rejects (h : s.inLocked p = false ∨ s.inIsolate p = false) : (s.isolate p).1 = s.raise 0x3008 p := by
  unfold State.isolate
  rw [if_neg]
  rcases h with h | h <;> simp [h]

theorem State.toReferencing_goes (s : State) (p : Nat) : s.PortalGoes (s.toReferencing p) p .referencing := by
  have entered : ∀ f : Portal → Portal, (∀ q, (f q).st = q.st) → s.PortalGoes ((s.modPortal p f).enter p .referencing) p .referencing :=
    fun _ hf => (State.enter_goes _ p .referencing).afterFrame (State.modPortal_keeps s p hf)
  have homes : ∀ (x : State) (l : List Nat), Frame noStates x (forEach l State.startHoming x) := fun x l =>
    forEach_frame (fun _ _ h => State.startHoming_frame rfl h) l (Frame.refl _ x)
  unfold State.toReferencing
  dsimp only
  refine State.PortalGoes.thenFrame ?_ (homes _ _)
  exact entered _ fun _ => rfl

/-- T24: a portal whose isolation switch is back takes its reference again. -/
theorem State.restore_goes (hen : s.portalEn p = true) (hst : (s.portal p).st = .isolated) (hiso : s.inIsolate p = false) :
    s.PortalGoes (s.restore p).1 p .referencing := by
  unfold State.restore
  rw [if_pos ⟨hst, by simp [hiso], hen⟩]
  exact ((State.toReferencing_goes _ p).thenFrame (State.acted_keeps _ p 3)).afterFrame
    ((State.raise_keeps s 0x3017 p []).mono rfl)

/-- Restoration is rejected while the isolation switch is active (R106). -/
theorem State.restore_rejects (hst : (s.portal p).st = .isolated) (hiso : s.inIsolate p = true) : (s.restore p).1 = s.raise 0x3008 p := by
  have noReset : s.emergencyReset p = (s, false) := by
    unfold State.emergencyReset
    rw [hst]
    exact ite_self _
  unfold State.restore
  rw [if_neg (by simp [hiso]), noReset]
  rfl

end Portal

/-! ### The commands -/

section Handover

variable {b : List Byte} (s : State) (cn : Option Nat)

theorem State.handover_isolate (h : cmdCode b = 0x0102) : (s.handover cn b).1 = (s.isolate (byteAt (cmdParams b) 0)).1 := by
  simp only [State.handover, h]

theorem State.handover_restore (h : cmdCode b = 0x0103) : (s.handover cn b).1 = (s.restore (byteAt (cmdParams b) 0)).1 := by
  simp only [State.handover, h]

end Handover

/-- A block that moves one portal does so between a hand-over and an outcome that move none. -/
theorem State.HandsOver.goes {s y x r t : State} {b : List Byte} {p : Nat} {st : PState} (hx : s.HandsOver y x b) (ha : State.Answered r t)
    (h : x.PortalGoes r p st) : s.PortalGoes t p st := (h.after (hx.accepted.states rfl)).then (ha.frame.states rfl)

/-- A block that rejects its command moves nothing. -/
theorem State.HandsOver.rejects {s y x t : State} {b : List Byte} {code inst : Nat} {vals : List Byte} (hx : s.HandsOver y x b)
    (ha : State.Answered (x.raise code inst vals) t) : (∀ k, (t.portal k).st = (s.portal k).st) ∧ t.axes = s.axes := by
  have raised := State.raise_keeps x code inst vals
  exact ⟨fun k => ((ha.frame.states rfl k).trans (raised.states rfl k)).trans (hx.accepted.states rfl k),
    ((ha.frame.axes rfl).trans (raised.axes rfl)).trans (hx.accepted.axes rfl)⟩

/-- Settles O28: the block of each command finds the inputs as the command did and the portal as it was. -/
theorem isolationAndRestoration : Obligations.IsolationAndRestoration := by
  intro s y conn b p hp
  refine ⟨fun h hen hst hrank hlock hiso => ?isolates, fun h hopen => ?keepsOut, fun h hen hst hiso => ?restores, fun h hst hiso => ?staysIsolated⟩
  case isolates =>
    refine completes_accepted rfl h (by decide) fun x t hx ha => ?_
    have same : x.portal p = s.portal p := State.portal_congr (hx.accepted.portals rfl) p
    rw [State.handover_isolate x _ h.code, hp] at ha
    refine hx.goes ha (State.isolate_goes ?_ (by rwa [same]) ?_ ?_ (by rwa [same]))
    · exact (State.portalEn_congr (hx.found.regs rfl) p).trans hen
    · exact (State.inLocked_congr (hx.found.regs rfl) (hx.found.fio rfl) p).trans hlock
    · exact (State.inIsolate_congr (hx.found.regs rfl) (hx.found.ilk rfl) p).trans hiso
  case keepsOut =>
    refine completes_accepted rfl h (by decide) fun x t hx ha => ?_
    rw [State.handover_isolate x _ h.code, hp, State.isolate_rejects] at ha
    · exact hx.rejects ha
    · rwa [State.inLocked_congr (hx.found.regs rfl) (hx.found.fio rfl), State.inIsolate_congr (hx.found.regs rfl) (hx.found.ilk rfl)]
  case restores =>
    refine completes_accepted rfl h (by decide) fun x t hx ha => ?_
    have same : x.portal p = s.portal p := State.portal_congr (hx.accepted.portals rfl) p
    rw [State.handover_restore x _ h.code, hp] at ha
    refine hx.goes ha (State.restore_goes ?_ (by rwa [same]) ?_)
    · exact (State.portalEn_congr (hx.found.regs rfl) p).trans hen
    · exact (State.inIsolate_congr (hx.found.regs rfl) (hx.found.ilk rfl) p).trans hiso
  case staysIsolated =>
    refine completes_accepted rfl h (by decide) fun x t hx ha => ?_
    have same : x.portal p = s.portal p := State.portal_congr (hx.accepted.portals rfl) p
    rw [State.handover_restore x _ h.code, hp, State.restore_rejects (by rwa [same])
      ((State.inIsolate_congr (hx.found.regs rfl) (hx.found.ilk rfl) p).trans hiso)] at ha
    exact hx.rejects ha

end Sys2Proof.Machine
end

section
/-!
PROOFS. An accepted ACTION (R102, R103, R112 to R114, R703).
-/
namespace Sys2Proof.Machine
open Sys2Proof

/-! ### What the command is judged by -/

section Judged

variable {s x : State}

theorem State.cmdTarget_congr (hregs : x.regs = s.regs) (htrdp : x.trdp = s.trdp) (p : List Byte) : x.cmdTarget p = s.cmdTarget p := by
  have enabled : x.enabledPortals = s.enabledPortals := by
    rw [State.enabledPortals, State.enabledPortals, funext (State.portalEn_congr hregs)]
  simp only [State.cmdTarget, enabled, State.rf_congr hregs, htrdp]

theorem State.tt_congr (h : x.time = s.time) : x.tt = s.tt := by rw [State.tt, State.tt, h]

section Slots

variable (hslots : x.seq.slots = s.seq.slots)

include hslots

theorem State.slotsInOrder_congr : x.slotsInOrder = s.slotsInOrder := by
  simp only [State.slotsInOrder, State.slot_congr hslots]

theorem State.slotFree_congr (hfreed : x.seq.freed = s.seq.freed) (htime : x.time = s.time) (i : Nat) : x.slotFree i = s.slotFree i := by
  rw [State.slotFree, State.slotFree, State.slot_congr hslots, hfreed, State.tt_congr htime]

end Slots

theorem State.lt_congr (h : x.time = s.time) : x.lt = s.lt := by rw [State.lt, State.lt, h]

theorem State.quality_congr (h : x.time = s.time) : x.quality = s.quality := by
  rw [State.quality, State.quality, State.tracker, State.tracker, h]

end Judged

/-- The command buffer is not the grace of the sequencer. -/
theorem seqGrace_ne_cmdBuf : ∀ i ∈ List.range 64, regAddr .portalSeqGrace 0 0 ≠ regAddr .secCmdBuf i 0 := by decide +kernel

/-- The offer of a command leaves the registers of the sequencer. -/
theorem State.offered_seqGrace (s : State) (conn : Option (Fin 64)) (b : List Byte) :
    (s.offered conn b).reg .portalSeqGrace = s.reg .portalSeqGrace := by
  have buffer : ∀ (l : List Nat) (x : State), l ⊆ List.range 64 → (forEach l (fun s i =>
      if 4 * i < b.length then s.setReg .secCmdBuf i 0 (BitVec.ofNat 32 (leAt b (4 * i) 4)) else s) x).reg .portalSeqGrace =
        x.reg .portalSeqGrace := by
    intro l
    induction l with
    | nil => exact fun _ _ => rfl
    | cons i l ih =>
      intro x hl
      rw [forEach_cons, ih _ fun k hk => hl (List.mem_cons_of_mem i hk)]
      split
      · exact State.reg_setReg_ne x _ _ i 0 0 0 _ (seqGrace_ne_cmdBuf i (hl List.mem_cons_self))
      · rfl
  cases conn with
  | some _ => rfl
  | none => exact buffer (List.range 64) s fun _ h => h

/-! ### The permissive slots that a restrictive action cancels (R103) -/

theorem State.freeSlot_imm (s : State) (i : Nat) : (s.freeSlot i).seq.imm = s.seq.imm := by
  unfold State.freeSlot
  rw [(State.mirrorSlot_frame (w := Part.twin ||| Part.outs) rfl (Frame.refl _ _)).seq rfl]
  rfl

/-- One slot is cancelled. -/
def cancelSlot (s : State) (i : Nat) : State := (s.raise 0x3006 i).freeSlot i

theorem cancelSlot_slot (s : State) (i k : Nat) : (cancelSlot s i).slot k = if k = i then {} else s.slot k := by
  rw [cancelSlot, State.freeSlot_slot, State.slot_congr (congrArg Sequencer.slots ((State.raise_keeps s 0x3006 i []).seq rfl))]

theorem cancelSlot_imm (s : State) (i : Nat) : (cancelSlot s i).seq.imm = s.seq.imm := by
  rw [cancelSlot, State.freeSlot_imm, (State.raise_keeps s 0x3006 i []).seq rfl]

theorem forEach_cancelSlot (k : Nat) : ∀ (l : List Nat) (s : State), (forEach l cancelSlot s).seq.imm = s.seq.imm ∧
    (forEach l cancelSlot s).slot k = if k ∈ l then {} else s.slot k
  | [], _ => by simp
  | i :: l, s => by
    obtain ⟨himm, hslot⟩ := forEach_cancelSlot k l (cancelSlot s i)
    rw [forEach_cons, himm, hslot, cancelSlot_imm, cancelSlot_slot]
    refine ⟨rfl, ?_⟩
    by_cases h : k ∈ l <;> simp [h]

/-- A cancellation frees the permissive slots that share a portal with the mask, the suspended ones among them (log entry 81). -/
theorem State.cancelSlots_slots (s : State) (mask : Nat) : (s.cancelSlots mask).seq.imm = s.seq.imm ∧
    ∀ i, (s.cancelSlots mask).slot i =
      if i ∈ s.slotsInOrder ∧ permissive (s.slot i).action = true ∧ (s.slot i).target &&& mask ≠ 0 then {} else s.slot i := by
  have each := fun i => forEach_cancelSlot i
    (s.slotsInOrder.filter (fun i => permissive (s.slot i).action && (s.slot i).target &&& mask != 0)) s
  refine ⟨(each 0).1, fun i => (each i).2.trans ?_⟩
  simp only [List.mem_filter, Bool.and_eq_true, bne_iff_ne, ne_eq]

/-! ### What becomes of the action -/

/-- An immediate action is put at the end of the list. -/
def State.listed (s : State) (i : Imm) : State := { s with seq := { s.seq with imm := s.seq.imm ++ [i] } }

section Take

variable {s : State} {a mask key src conn : Nat} {t : TimeNs}

theorem State.takeAction_now_permissive (ha : permissive a = true) :
    (s.takeAction a mask key src conn 0).2 = s.listed ⟨a, mask, key, false, 0, some s.lt⟩ := by
  unfold State.takeAction
  dsimp only
  rw [if_pos rfl, if_pos ha]
  rfl

theorem State.takeAction_now_restrictive (ha : permissive a = false) (h8 : a ≠ 8) :
    (s.takeAction a mask key src conn 0).2 = (s.listed ⟨a, mask, key, false, 0, some s.lt⟩).cancelSlots mask := by
  unfold State.takeAction
  dsimp only
  rw [if_pos rfl, if_neg (by simp [ha]), if_neg h8]
  rfl

section Dated

variable (h0 : t ≠ 0)

include h0

/-- A permissive action that comes too late is stale (R114). -/
theorem State.takeAction_stale (ht : t < s.tt + 100000) (ha : permissive a = true) : (s.takeAction a mask key src conn t).2.seq = s.seq := by
  unfold State.takeAction
  dsimp only
  rw [if_neg h0, if_pos ht, if_pos ha]
  exact (State.count_frame (w := Part.rcd ||| Part.cnt) rfl (State.raise_keeps s 0x3003 noInst _)).seq rfl

/-- A restrictive action that comes too late is executed at once (R113). -/
theorem State.takeAction_late (ht : t < s.tt + 100000) (ha : permissive a = false) : (s.takeAction a mask key src conn t).2 =
    s.listed ⟨a, mask, key, decide (s.rf .portalSeqGrace 0 15 0 * 1000000 + t < s.tt), t, some s.lt⟩ := by
  unfold State.takeAction
  dsimp only
  rw [if_neg h0, if_pos ht, if_neg (by simp [ha])]
  rfl

/-- With no slot free the action is rejected (R703). -/
theorem State.takeAction_full (ht : s.tt + 100000 ≤ t) (hfull : (List.range 64).find? s.slotFree = none) :
    (s.takeAction a mask key src conn t).2.seq = s.seq := by
  unfold State.takeAction
  dsimp only
  rw [if_neg h0, if_neg (Nat.not_lt.2 ht), hfull]
  exact (State.raise_keeps s 0x3007 noInst _).seq rfl

/-- The first free slot is armed, or suspended where the time quality does not arm a permissive action (R112, R115). -/
theorem State.takeAction_armed {i : Nat} (ht : s.tt + 100000 ≤ t) (hfree : (List.range 64).find? s.slotFree = some i) :
    (s.takeAction a mask key src conn t).2.seq = { s.seq with slotOrder := s.seq.slotOrder + 1, slots := Table.set {} s.seq.slots i (
      ⟨if permissive a && !s.quality.armed then 2 else 1, a, mask, key, src, t, s.seq.slotOrder, conn, some s.lt⟩) } := by
  have raised : ∀ (x : State) (code : Nat), (x.raise code i).seq = x.seq := fun x code => (State.raise_keeps x code i []).seq rfl
  unfold State.takeAction
  dsimp only
  rw [if_neg h0, if_neg (Nat.not_lt.2 ht), hfree]
  dsimp only
  rw [(State.mirrorSlot_frame (w := Part.twin ||| Part.outs) rfl (Frame.refl _ _)).seq rfl]
  generalize (if permissive a && !s.quality.armed then 2 else 1) = st
  split <;> simp only [raised] <;> rfl

end Dated

end Take

theorem State.handover_action {b : List Byte} (s : State) (cn : Option Nat) (h : cmdCode b = 0x0101) : (s.handover cn b).1 = (s.doAction cn b).1 := by
  simp only [State.handover, h]

theorem State.doAction_takes {s : State} {b : List Byte} {mask : Nat} (cn : Option Nat) (h : s.cmdTarget (cmdParams b) = some mask) :
    (s.doAction cn b).1 =
      (s.takeAction (byteAt (cmdParams b) 0) mask (cmdKeyOf b) (s.cmdPartner cn) (cn.getD 0xFF) (cmdT b)).2 := by
  unfold State.doAction
  dsimp only
  rw [h]

/-- Settles O27: the sequencer takes the action in a state with the same list, slots, time and grace as the one in which the command came. That
a cancellation reaches suspended slots is log entry 81. -/
theorem acceptedActionsAreArmedOrTaken : Obligations.AcceptedActionsAreArmedOrTaken := by
  intro s y conn b mask h hmask a t0 grace ends
  have takes : ∀ {post : State → Prop}, (∀ x t : State, x.seq = s.seq → x.time = s.time → x.rf .portalSeqGrace 0 15 0 = s.rf .portalSeqGrace 0 15 0 →
      t.seq = (x.takeAction a mask (cmdKeyOf b) (x.cmdPartner (conn.map Fin.val)) ((conn.map Fin.val).getD 0xFF) t0).2.seq → post t) →
      ends post := by
    intro post hp
    refine completes_accepted rfl h (by decide) fun x t hx ha => ?_
    have grace : x.reg .portalSeqGrace = s.reg .portalSeqGrace := by
      rw [State.reg, hx.found.regs rfl, ← State.reg, ← h.found]
      exact State.offered_seqGrace s conn b
    have target := (State.cmdTarget_congr (hx.found.regs rfl) (hx.found.trdp rfl) (cmdParams b)).trans hmask
    rw [State.handover_action x _ h.code, State.doAction_takes _ target] at ha
    refine ⟨hx.answered_stored ha ?_, hp x t (hx.accepted.seq rfl) (hx.accepted.time rfl) ?_ (ha.frame.seq rfl)⟩
    · rw [(State.takeAction_frame (w := Part.rcd ||| Part.cnt ||| Part.seq ||| Part.twin ||| Part.outs ||| Part.actions) rfl (Frame.refl _ x)).sc rfl]
    · rw [State.rf, State.rf, grace]
  refine ⟨fun h0 ha => ?nowPermissive, fun h0 ha h8 => ?nowRestrictive, fun h0 ht ha => ?stale, fun h0 ht ha => ?late, fun i ht hfree => ?armed,
    fun ht hfull => ?full⟩
  case nowPermissive =>
    refine takes fun x t hseq htime _ ht => ?_
    rw [ht, h0, State.takeAction_now_permissive ha, ← State.lt_congr htime, ← hseq]
    rfl
  case nowRestrictive =>
    refine takes fun x t hseq htime _ ht => ?_
    rw [h0, State.takeAction_now_restrictive ha h8, State.lt_congr htime] at ht
    obtain ⟨himm, hslot⟩ := State.cancelSlots_slots (x.listed ⟨a, mask, cmdKeyOf b, false, 0, some s.lt⟩) mask
    have slots : (x.listed ⟨a, mask, cmdKeyOf b, false, 0, some s.lt⟩).seq.slots = s.seq.slots := by
      rw [← hseq]
      rfl
    refine ⟨?_, fun i => ?_⟩
    · rw [ht, himm, ← hseq]
      rfl
    · rw [State.slot_congr (congrArg Sequencer.slots ht), hslot, State.slotsInOrder_congr slots, State.slot_congr slots]
  case stale =>
    refine takes fun x t hseq htime _ ht' => ?_
    rw [ht', State.takeAction_stale h0 (by rwa [State.tt_congr htime]) ha, hseq]
  case late =>
    refine takes fun x t hseq htime hgrace ht' => ?_
    rw [ht', State.takeAction_late h0 (by rwa [State.tt_congr htime]) ha, hgrace, State.tt_congr htime, State.lt_congr htime, ← hseq]
    rfl
  case armed =>
    have h0 : t0 ≠ 0 := Nat.ne_of_gt ((Nat.lt_add_left s.tt (by decide : 0 < 100000)).trans_le ht)
    refine takes fun x t hseq htime _ ht' => ?_
    have free : x.slotFree = s.slotFree := funext (State.slotFree_congr (congrArg _ hseq) (congrArg _ hseq) htime)
    rw [State.takeAction_armed h0 (by rwa [State.tt_congr htime]) (by rwa [free]), hseq, State.quality_congr htime] at ht'
    have slots : ∀ k, t.slot k = if k = i then _ else s.slot k := fun k => by
      rw [State.slot, ht']
      exact Table.get_set _ _ _ _ _
    have here := (slots i).trans (if_pos rfl)
    refine ⟨by rw [ht'], ?_, ?_, ?_, ?_, fun k hk => (slots k).trans (if_neg hk)⟩ <;> rw [here]
  case full =>
    have h0 : t0 ≠ 0 := Nat.ne_of_gt ((Nat.lt_add_left s.tt (by decide : 0 < 100000)).trans_le ht)
    refine takes fun x t hseq htime _ ht' => ?_
    have free : x.slotFree = s.slotFree := funext (State.slotFree_congr (congrArg _ hseq) (congrArg _ hseq) htime)
    rw [ht', State.takeAction_full h0 (by rwa [State.tt_congr htime]) (by rwa [free]), hseq]

end Sys2Proof.Machine
end

section
/-!
PROOFS. Rest after emergency deceleration, the end of homing and the brake's times (R203, R213 to R216, R219, R736).
-/
namespace Sys2Proof.Machine
open Sys2Proof

/-! ### At rest after emergency deceleration (R203) -/

/-- A plan for the one segment of an axis leaves what the axis is but for its mode. -/
theorem State.planAxis_axis {s : State} {n : Nat} {g : Seg} (hq : (s.axis n).queue = [g]) (cur : Seg) :
    ((s.planAxis n cur).axis n).mode = (if (s.axis n).mode = .homing then .homing else .executing) ∧
    ((s.planAxis n cur).axis n).queue = [g] ∧ ((s.planAxis n cur).axis n).vel = (s.axis n).vel ∧
    ((s.planAxis n cur).axis n).referenced = (s.axis n).referenced ∧ ∀ k, k ≠ n → (s.planAxis n cur).axis k = s.axis k := by
  simp only [State.planAxis, hq, State.axis_setAxis, if_true, true_and]
  exact fun k hk => if_neg hk

section Rest

variable {s : State} {n : Nat}

/-- What an axis is at rest, and that the others are as they were. -/
def State.RestsAs (s t : State) (n : Nat) (post : Axis → Prop) : Prop :=
  post (t.axis n) ∧ (t.axis n).vel = 0 ∧ ∀ k, k ≠ n → t.axis k = s.axis k

theorem State.emergencyRest_fault (h : (s.axis n).emg = .fault) :
    s.RestsAs (s.emergencyRest n) n (fun y => y.mode = .off ∧ y.brakeRel = false) := by
  simp only [State.RestsAs, State.emergencyRest, h, State.torqueOffNow, State.modAxis_eq, State.axis_setAxis, if_true, true_and]
  exact fun k hk => if_neg hk

theorem State.emergencyRest_reopened (h : (s.axis n).emg = .tripReopen) (hb : s.beyond n (s.axis n).emgTarget = true) :
    s.RestsAs (s.emergencyRest n) n (fun y => y.mode = .holding) := by
  simp only [State.RestsAs, State.emergencyRest, h, hb, State.axis_setAxis, if_true, true_and]
  exact fun k hk => if_neg hk

theorem State.emergencyRest_reopens (h : (s.axis n).emg = .tripReopen) (hb : s.beyond n (s.axis n).emgTarget = false) :
    s.RestsAs (s.emergencyRest n) n (fun y => y.mode = .executing ∧ y.queue = [plainSeg (s.axis n).emgTarget]) := by
  have reverses : ∃ x : State, s.emergencyRest n = x.planAxis n (plainSeg (s.axis n).emgTarget) ∧
      (x.axis n).queue = [plainSeg (s.axis n).emgTarget] ∧ (x.axis n).mode = .holding ∧ (x.axis n).vel = 0 ∧ ∀ k, k ≠ n → x.axis k = s.axis k := by
    simp only [State.emergencyRest, h, hb, if_neg Bool.false_ne_true]
    refine ⟨_, rfl, ?_⟩
    simp only [State.axis_setAxis, if_true, true_and]
    exact fun k hk => if_neg hk
  obtain ⟨x, plans, queue, mode, vel, others⟩ := reverses
  obtain ⟨mode', queue', vel', -, others'⟩ := State.planAxis_axis queue (plainSeg (s.axis n).emgTarget)
  rw [plans]
  exact ⟨⟨mode'.trans (by rw [mode]; rfl), queue'⟩, vel'.trans vel, fun k hk => (others' k hk).trans (others k hk)⟩

theorem State.emergencyRest_relief (h : (s.axis n).emg = .tripStop) :
    s.RestsAs (s.emergencyRest n) n (fun y => y.mode = .relief) ∧ ((s.emergencyRest n).ob n).stopHeld = true ∧
      ((s.emergencyRest n).ob n).stopAt = s.lt := by
  simp only [State.RestsAs, State.emergencyRest, h, State.modOb_eq, State.axis_setOb, State.ob_setOb, State.axis_setAxis, if_true, true_and,
    and_true]
  exact fun k hk => if_neg hk

theorem State.emergencyRest_retries (h : (s.axis n).emg = .homingRetry) (ha : (s.axis n).homeAttempt ≤ 1) :
    s.RestsAs (s.emergencyRest n) n (fun y => y.mode = .homing ∧ y.homeAttempt = 2 ∧ y.homeReverse = !(s.axis n).homeReverse) := by
  simp only [State.RestsAs, State.emergencyRest, h, if_pos ha, State.axis_raise, State.axis_setAxis, if_true, true_and]
  exact fun k hk => if_neg hk

theorem State.emergencyRest_homingFails (h : (s.axis n).emg = .homingRetry) (ha : 1 < (s.axis n).homeAttempt) :
    s.RestsAs (s.emergencyRest n) n
      (fun y => y.mode = .off ∧ y.fault = true ∧ y.faultCause = (if (s.axis n).fault then (s.axis n).faultCause else 3)) := by
  simp only [State.RestsAs, State.emergencyRest, h, if_neg (Nat.not_le.2 ha), State.axis_raise, State.faultAxisOff, State.torqueOffNow,
    State.modAxis_eq, State.axis_setAxis, if_true, true_and]
  exact fun k hk => by simp only [if_neg hk]

theorem State.emergencyRest_holds (h : (s.axis n).emg = .stop) : s.RestsAs (s.emergencyRest n) n (fun y => y.mode = .holding) := by
  simp only [State.RestsAs, State.emergencyRest, h, State.axis_setAxis, if_true, true_and]
  exact fun k hk => if_neg hk

end Rest

/-! ### The brake's times (R219) -/

section Brake

variable {s : State} {n : Nat} {t0 : Ticks}

theorem State.brakeReleased_ends (h : (s.axis n).brkRelDue = some t0) :
    t0 ≤ (s.brakeReleased n).time.lt ∧ (s.brakeReleased n).axis n = { s.axis n with brkRelDue := none } := by
  simp only [State.brakeReleased, h, State.modAxis_eq, State.axis_setAxis, State.setAxis_time, State.axis_passTo, if_true, and_true]
  exact State.le_passTo_lt s t0

theorem State.brakeApplied_off (h : (s.axis n).brkAppDue = some t0) (ht : Table.get none s.ilk.tests n = none) :
    t0 ≤ (s.brakeApplied n).time.lt ∧ ((s.brakeApplied n).axis n).mode = .off ∧ ((s.brakeApplied n).axis n).brkAppDue = none := by
  simp only [State.brakeApplied, h, State.torqueOffNow, State.modAxis_eq, State.setAxis_ilk, State.passTo_ilk, ht, State.axis_setAxis,
    State.setAxis_time, if_true, and_true]
  exact State.le_passTo_lt s t0

theorem State.testPhase_axis (s : State) (n : Nat) (b : BrakeTest) : ((s.testPhase n b).axis n).mode = .brakeTest ∧
    ((s.testPhase n b).axis n).resAmp = s.testCurrent n ∧ (s.testPhase n b).time = s.time := by
  simp [State.testPhase, State.axis, State.setAxis]

theorem State.brakeApplied_test {b : BrakeTest} (h : (s.axis n).brkAppDue = some t0) (ht : Table.get none s.ilk.tests n = some b) :
    t0 ≤ (s.brakeApplied n).time.lt ∧ ((s.brakeApplied n).axis n).mode = .brakeTest ∧ ((s.brakeApplied n).axis n).resAmp = s.testCurrent n := by
  have phase : ∃ (x : State) (c : BrakeTest), s.brakeApplied n = x.testPhase n c ∧ x.time = (s.passTo t0).time ∧ x.regs = s.regs := by
    simp only [State.brakeApplied, h, State.modAxis_eq, State.setAxis_ilk, State.passTo_ilk, ht]
    exact ⟨_, _, rfl, State.setAxis_time _ _ _, (State.setAxis_regs _ _ _).trans (State.passTo_regs s t0)⟩
  obtain ⟨x, c, phase, time, regs⟩ := phase
  obtain ⟨mode, amp, time'⟩ := State.testPhase_axis x n c
  rw [phase, time', time]
  refine ⟨State.le_passTo_lt s t0, mode, amp.trans ?_⟩
  rw [State.testCurrent, State.testCurrent, State.rf_congr regs, State.rf_congr regs]

end Brake

/-! ### The end of homing (R213 to R216) -/

/-- The targets of the axes lie below the compare registers of the ports. -/
theorem axisTgtClosed_ne_fbCmpCfg (n : Fin 64) (m : Nat) : regAddr .axisTgtClosed n 0 ≠ regAddr .fbCmpCfg m 0 := by
  have target : regAddr .axisTgtClosed n 0 = 1075052592 + n * 1024 := by
    unfold regAddr
    rw [show (desc .axisTgtClosed).addr = 1075052592 from rfl, show (desc .axisTgtClosed).s1 = 1024 from rfl]
    omega
  have compare : regAddr .fbCmpCfg m 0 = 1075183664 + m * 512 := by
    unfold regAddr
    rw [show (desc .fbCmpCfg).addr = 1075183664 from rfl, show (desc .fbCmpCfg).s1 = 512 from rfl]
    omega
  have := n.isLt
  omega

/-- `t` comes from `s` by operations on the count of port `m`: the latch of its index and the targets of the axes are as they were. -/
structure State.Recounts (m : Nat) (s t : State) : Prop where
  latch : (t.fbp m).latch = (s.fbp m).latch
  target : ∀ n : Fin 64, t.reg .axisTgtClosed n = s.reg .axisTgtClosed n

theorem State.Recounts.trans {m : Nat} {s x t : State} (h : State.Recounts m s x) (h' : State.Recounts m x t) : State.Recounts m s t :=
  ⟨h'.latch.trans h.latch, fun n => (h'.target n).trans (h.target n)⟩

theorem State.setFbp_recounts {s : State} {m : Nat} {f : FbPort} (h : f.latch = (s.fbp m).latch) : State.Recounts m s (s.setFbp m f) where
  latch := by simp [h]
  target _ := rfl

theorem State.putCount_recounts (s : State) (m : Nat) (p : Int) : State.Recounts m s (s.putCount m p) := by
  unfold State.putCount
  exact State.setFbp_recounts (by split <;> rfl)

theorem State.divHere_recounts (s : State) (m : Nat) : State.Recounts m s (s.divHere m) := by
  unfold State.divHere
  split
  · exact State.setFbp_recounts rfl
  · exact ⟨rfl, fun _ => rfl⟩

theorem State.setCmpCfg_recounts (s : State) (m : Nat) (v : Word) : State.Recounts m s (s.setReg .fbCmpCfg m 0 v) :=
  ⟨rfl, fun n => State.reg_setReg_ne s _ _ m 0 n 0 v (axisTgtClosed_ne_fbCmpCfg n m)⟩

theorem State.cmpDisarm_recounts (s : State) (m : Nat) : State.Recounts m s (s.cmpDisarm m) := by
  unfold State.cmpDisarm
  extract_lets f s1
  have disarmed : State.Recounts m s s1 := State.setFbp_recounts rfl
  split
  · exact disarmed.trans (State.setCmpCfg_recounts s1 m _)
  · exact disarmed

theorem State.cmpAdvance_recounts (s : State) (m : Nat) (v : Int) (k sp : Nat) : State.Recounts m s (s.cmpAdvance m v k sp) := by
  unfold State.cmpAdvance
  extract_lets f up room d s1
  have advanced : State.Recounts m s s1 := State.setFbp_recounts rfl
  split
  · exact advanced
  · exact advanced.trans (State.cmpDisarm_recounts s1 m)

/-- The compare rule at a PSET, which gives no pulse (R249). -/
theorem State.cmpPos_recounts (s : State) (m : Nat) (v : Int) : State.Recounts m s (s.cmpPos m v false) := by
  unfold State.cmpPos
  extract_lets f0 f s1 r g s2
  have next : State.Recounts m s s1 := State.setFbp_recounts rfl
  have hit : State.Recounts m s s2 := next.trans (State.setFbp_recounts rfl)
  split
  · exact next
  · split
    · exact next.trans (State.setFbp_recounts (by simp [s1]))
    · split
      · exact hit.trans (State.cmpDisarm_recounts s2 m)
      · exact hit.trans (State.cmpAdvance_recounts s2 m v _ _)

theorem State.fbPset_recounts (s : State) (m : Nat) (p : Int) : State.Recounts m s (s.fbPset m p) := by
  unfold State.fbPset
  dsimp only
  refine State.Recounts.trans ?_ (State.cmpPos_recounts _ m _)
  refine State.Recounts.trans ?_ (State.divHere_recounts _ m)
  exact (State.putCount_recounts s m p).trans (State.setFbp_recounts rfl)

section Homing

variable {s : State} {n : Fin 64} {m : Nat} (hm : s.fbOf n = some m) (ref : Int) (keep : Bool)

include hm

/-- Homing assigns HOME_POS at the reference position to the count and to the latch (R214). -/
theorem State.homed_port : ((s.homed n ref keep).fbp m).latch = s.homingPos n + ((s.fbp m).latch - ref) ∧
    ((s.homed n ref keep).fbp m).refIdx = none := by
  have counted := State.fbPset_recounts s m (s.homingPos n + (s.fbPos m - ref))
  simp only [State.homed, hm, State.fbp_raise, State.modAxis_eq, State.fbp_setAxis, State.modFbp_eq, State.fbp_setFbp, if_true, counted.latch,
    and_self]

theorem State.homed_target : (s.homed n ref keep).rs .axisTgtClosed n = s.rs .axisTgtClosed n := by
  have counted := State.fbPset_recounts s m (s.homingPos n + (s.fbPos m - ref))
  have same : (s.homed n ref keep).reg .axisTgtClosed n = (s.fbPset m (s.homingPos n + (s.fbPos m - ref))).reg .axisTgtClosed n := by
    simp only [State.homed, hm, State.reg_raise, State.modAxis_eq, State.reg_setAxis, State.modFbp_eq, State.reg_setFbp]
  rw [State.rs, State.rs, same, counted.target]

omit hm in
theorem State.homed_axis : ((s.homed n ref keep).axis n).referenced = true ∧ (keep = false → ((s.homed n ref keep).axis n).vel = 0) := by
  simp only [State.homed, State.axis_raise, State.modAxis_eq, State.axis_setAxis, if_true, true_and]
  exact fun h => if_neg (by simp [h])

/-- After homing the axis moves to its closed target (R216); its port and the time are as homing left them. -/
theorem State.homed_moves : (((s.homed n ref keep).homeMove n).axis n).queue = [plainSeg (s.rs .axisTgtClosed n)] ∧
    (((s.homed n ref keep).homeMove n).axis n).referenced = true ∧
    (keep = false → (((s.homed n ref keep).homeMove n).axis n).vel = 0) ∧
    (((s.homed n ref keep).homeMove n).fbp m).latch = s.homingPos n + ((s.fbp m).latch - ref) ∧
    (((s.homed n ref keep).homeMove n).fbp m).refIdx = none ∧ s.time.lt ≤ ((s.homed n ref keep).homeMove n).time.lt := by
  obtain ⟨latch, refIdx⟩ := State.homed_port hm ref keep
  obtain ⟨referenced, still⟩ := State.homed_axis (s := s) (n := n) ref keep
  have moves := State.homeMove_frame (n := n) (w := Part.axes) rfl (Frame.refl _ (s.homed n ref keep))
  have port : ((s.homed n ref keep).homeMove n).fbp m = (s.homed n ref keep).fbp m := by
    rw [State.fbp, State.fbp, moves.fb rfl]
  have homes := State.homed_frame (n := n) (ref := ref) (keep := keep) (w := noStates) rfl (Frame.refl _ s)
  have queued : (((s.homed n ref keep).modAxis n (fun x => { x with queue := [plainSeg ((s.homed n ref keep).rs .axisTgtClosed n)] })).axis n).queue =
      [plainSeg ((s.homed n ref keep).rs .axisTgtClosed n)] := by
    simp
  obtain ⟨-, queue, vel, refd, -⟩ := State.planAxis_axis queued (plainSeg ((s.homed n ref keep).rs .axisTgtClosed n))
  rw [State.homed_target hm] at queue
  refine ⟨?_, ?_, fun hk => ?_, ?_, ?_, homes.lt.trans moves.lt⟩
  · rw [State.homeMove, State.homed_target hm]
    exact queue
  · refine refd.trans ?_
    simpa using referenced
  · refine vel.trans ?_
    simpa using still hk
  · rw [port, latch]
  · rw [port, refIdx]

end Homing

/-! ### The commands -/

section Home

variable {s : State} {n : Fin 64} {m : Nat}

theorem State.fbOf_congr {x : State} (hregs : x.regs = s.regs) (k : Nat) : x.fbOf k = s.fbOf k := by
  simp only [State.fbOf, State.fedAxis, State.rf_congr hregs, State.rb_congr hregs]

/-- A reference that the home input gives: the latch is the count at it. -/
theorem State.homeReference_moves (hm : s.fbOf n = some m) (hmode : (s.axis n).mode = .homing) (hcfg : s.rf .axisCfg n 4 3 = 1)
    (hfound : (s.axis n).homeFound = false) (hin : s.input (s.homeCode n) false = true) :
    ((s.homeReference n).axis n).referenced = true ∧ ((s.homeReference n).axis n).queue = [plainSeg (s.rs .axisTgtClosed n)] ∧
    ((s.homeReference n).fbp m).latch = s.homingPos n ∧ ((s.homeReference n).fbp m).refIdx = none := by
  obtain ⟨queue, referenced, -, latch, refIdx, -⟩ := State.homed_moves hm (s.latchOf n) true
  have at_reference : s.latchOf n = (s.fbp m).latch := by rw [State.latchOf, hm]
  unfold State.homeReference
  dsimp only
  rw [when_of (by rw [hmode, hcfg, hfound, hin]; rfl)]
  refine ⟨referenced, queue, latch.trans ?_, refIdx⟩
  rw [at_reference, Int.sub_self, Int.add_zero]

/-- A reference that a stop gives, once its dwell is over (R215). -/
theorem State.homeDwell_moves {t0 : Ticks} (hm : s.fbOf n = some m) (hsince : (s.axis n).homeSince = some t0) :
    t0 + ms (s.rf .axisHome n 31 24) ≤ (s.homeDwell n).time.lt ∧ ((s.homeDwell n).axis n).referenced = true ∧
    ((s.homeDwell n).axis n).queue = [plainSeg (s.rs .axisTgtClosed n)] ∧ ((s.homeDwell n).axis n).vel = 0 ∧
    ((s.homeDwell n).fbp m).latch = s.homingPos n + ((s.fbp m).latch - (s.axis n).homeRef) := by
  have regs := State.passTo_regs s (t0 + ms (s.rf .axisHome n 31 24))
  obtain ⟨queue, referenced, still, latch, -, time⟩ :=
    State.homed_moves ((State.fbOf_congr regs n).trans hm) (s.axis n).homeRef false
  have port : (s.passTo (t0 + ms (s.rf .axisHome n 31 24))).fbp m = s.fbp m := by rw [State.fbp, State.fbp, State.passTo_fb]
  rw [State.rs_congr regs] at queue
  rw [State.homingPos, State.rs_congr regs, port] at latch
  simp only [State.homeDwell, hsince]
  exact ⟨(State.le_passTo_lt s _).trans time, referenced, queue, still rfl, latch⟩

end Home

/-- Settles O35: each case of the rest, of homing and of the brake by the lemma that says what its operation does. -/
theorem restHomingAndBrakes : Obligations.RestHomingAndBrakes := by
  intro s n x rests
  let s0 : State := { s with outs := [] }
  refine ⟨fun hrest => ?atRest, fun m hmode hcfg hfound hin hm => ?reference, fun m t0 hsince hm => ?dwell, fun t0 h => ?released,
    fun t0 h ht => ?applied, fun t0 b h ht => ?tested⟩
  case atRest =>
    have runs : ∀ {post : State → Axis → Prop}, (post (s0.emergencyRest n) ((s0.emergencyRest n).axis n) ∧
        ((s0.emergencyRest n).axis n).vel = 0 ∧ ∀ k, k ≠ n.val → (s0.emergencyRest n).axis k = s0.axis k) → rests post := by
      intro post h
      refine completes_run (f := fun s => when_ (s.axis n).atRest (fun s => s.emergencyRest n) s) rfl ?_
      rw [when_of (show (s0.axis n).atRest = true from hrest)]
      exact h
    have ends : ∀ {post : Axis → Prop}, s0.RestsAs (s0.emergencyRest n) n post → rests (fun _ y => post y) := fun h => runs h
    refine ⟨fun h => ends (State.emergencyRest_fault (s := s0) h), fun h hb => ends (State.emergencyRest_reopened (s := s0) h hb),
      fun h hb => ends (State.emergencyRest_reopens (s := s0) h hb), fun h => ?_,
      fun h ha => ends (State.emergencyRest_retries (s := s0) h ha), fun h ha => ends (State.emergencyRest_homingFails (s := s0) h ha),
      fun h => ends (State.emergencyRest_holds (s := s0) h)⟩
    obtain ⟨⟨mode, vel, others⟩, held⟩ := State.emergencyRest_relief (s := s0) (n := n) h
    exact runs (post := fun t y => y.mode = .relief ∧ (t.ob n).stopHeld = true ∧ (t.ob n).stopAt = s.lt) ⟨⟨mode, held⟩, vel, others⟩
  case reference => exact completes_run (f := fun s => s.homeReference n) rfl (State.homeReference_moves (s := s0) hm hmode hcfg hfound hin)
  case dwell => exact completes_run (f := fun s => s.homeDwell n) rfl (State.homeDwell_moves (s := s0) hm hsince)
  case released => exact completes_run (f := fun s => s.brakeReleased n) rfl (State.brakeReleased_ends (s := s0) h)
  case applied => exact completes_run (f := fun s => s.brakeApplied n) rfl (State.brakeApplied_off (s := s0) h ht)
  case tested => exact completes_run (f := fun s => s.brakeApplied n) rfl (State.brakeApplied_test (s := s0) h ht)

end Sys2Proof.Machine
end

section
/-!
PROOFS. Envelopes and trips of the obstacle observers (R147, R151, R153 to R155, R171, R736): the bound of the envelope, what a trip latches, and
how its axis reacts.
-/
namespace Sys2Proof.Machine
open Sys2Proof

/-! ### The envelope (R147, R171) -/

section Envelope

variable (s : State) (n b : Nat) (closing : Bool)

theorem State.envelope_le_ceilPeak : s.envelope n closing b ≤ s.ceilPeak n := by
  unfold State.envelope
  dsimp only
  split
  · exact Int.le_refl _
  · exact Int.min_le_left _ _

theorem State.envelope_eq_ceilPeak (h : (s.ob n).ceilOnly = true ∨ (s.axis n).referenced = false ∨ (s.ob n).commLeft ≠ 0) :
    s.envelope n closing b = s.ceilPeak n := by
  have outOfUse : ((s.ob n).ceilOnly || !(s.axis n).referenced || (s.ob n).commLeft != 0) = true := by
    simpa [or_assoc] using h
  unfold State.envelope
  dsimp only
  rw [if_pos (by rw [outOfUse, Bool.true_or])]

end Envelope

/-! ### What a trip writes beside its axis -/

section Notes

variable (s : State) (n k p q b : Nat) (hit : Bool)

@[simp] theorem State.flag_ob : (s.flag p b).ob k = s.ob k := rfl
@[simp] theorem State.flag_axis : (s.flag p b).axis k = s.axis k := rfl
@[simp] theorem State.flag_regs : (s.flag p b).regs = s.regs := rfl

/-- The flags of a cycle do not touch the forced re-closing. -/
@[simp] theorem State.flag_forced : ((s.flag p b).portal q).forced = (s.portal q).forced := by
  simp only [State.flag, State.modPortal_eq, State.portal_setPortal]
  split
  case isTrue here => rw [here]
  case isFalse => rfl

@[simp] theorem State.injectDone_ob : (s.injectDone n hit).ob k =
    if k = n then { s.ob n with injArmed := false, injUsed := false, injStroke := false, injCycle := false } else s.ob k := by
  simp [State.injectDone]

@[simp] theorem State.injectDone_axis : (s.injectDone n hit).axis k = s.axis k := by simp [State.injectDone]
@[simp] theorem State.injectDone_regs : (s.injectDone n hit).regs = s.regs := by simp [State.injectDone]
@[simp] theorem State.injectDone_portal : (s.injectDone n hit).portal p = s.portal p := by simp [State.injectDone]

end Notes

/-- The reopen target is read from registers and from the forced re-closing of the portal (R736). -/
theorem State.reopenTarget_congr {s x : State} {n : Nat} (hregs : x.regs = s.regs)
    (hforced : (x.portal (n / 4)).forced = (s.portal (n / 4)).forced) : x.reopenTarget n = s.reopenTarget n := by
  simp only [State.reopenTarget, hforced, State.rf_congr hregs, State.rs_congr hregs]

/-- `t` comes from `s` by a start of the emergency deceleration of axis `n`, which touches no other axis and no observer (R201). -/
structure State.Decelerates (s t : State) (n : Nat) (cause : EmgCause) : Prop where
  mode : (t.axis n).mode = .emergency
  queue : (t.axis n).queue = []
  emg : (t.axis n).emg = cause
  axes : ∀ k, k ≠ n → t.axis k = s.axis k
  ob : ∀ k, t.ob k = s.ob k

theorem State.emergencyStop_executing {s : State} {n : Nat} (cause : EmgCause) (h : (s.axis n).mode = .executing) :
    s.Decelerates (s.emergencyStop n cause) n cause ∧ ((s.emergencyStop n cause).axis n).emgTarget = (s.axis n).emgTarget := by
  have stops : ∃ y : Axis, s.emergencyStop n cause = s.setAxis n y ∧ y.mode = .emergency ∧ y.queue = [] ∧ y.emg = cause ∧
      y.emgTarget = (s.axis n).emgTarget := by
    simp only [State.emergencyStop, h]
    exact ⟨_, rfl, rfl, rfl, rfl, rfl⟩
  obtain ⟨y, sets, mode, queue, emg, target⟩ := stops
  have own : (s.emergencyStop n cause).axis n = y := by simp [sets]
  exact ⟨⟨own ▸ mode, own ▸ queue, own ▸ emg, fun k hk => by simp [sets, hk], fun k => by simp [sets]⟩, own ▸ target⟩

/-! ### A trip (R151, R153 to R155, R736) -/

/-- Whether a trip of the axis is that of a closing leaf (R153). -/
def State.leafCloses (s : State) (n : Nat) : Bool := decide (n % 4 < 2) && (s.ob n).strokeClosing

/-- `t` holds the data of a trip of axis `n` as its observer latches it; its stops count where no closing leaf trips, and the other observers
are as they are in `s`. -/
structure State.Latches (s t : State) (n c react : Nat) (pos : Int) : Prop where
  tripped : (t.ob n).tripped = true
  cause : (t.ob n).tripCause = c
  pos : (t.ob n).tripPos = pos
  bin : (t.ob n).tripBin = (s.ob n).bin
  react : (t.ob n).reactT = min 65535 react
  stops : (t.ob n).stops = (s.ob n).stops + b2n (!s.leafCloses n)
  others : ∀ k, k ≠ n → t.ob k = s.ob k

theorem State.Latches.congr {s x t : State} {n c react : Nat} {pos : Int} (h : s.Latches x n c react pos) (hob : ∀ k, t.ob k = x.ob k) :
    s.Latches t n c react pos := by
  obtain ⟨tripped, cause, pos, bin, react, stops, others⟩ := h
  exact ⟨by rwa [hob], by rwa [hob], by rwa [hob], by rwa [hob], by rwa [hob], by rwa [hob], fun k hk => (hob k).trans (others k hk)⟩

/-- The end of an injection leaves what is latched (R172). -/
theorem State.Latches.injectDone {s x : State} {n c react : Nat} {pos : Int} (h : s.Latches x n c react pos) (hit : Bool) :
    s.Latches (x.injectDone n hit) n c react pos := by
  obtain ⟨tripped, cause, pos, bin, react, stops, others⟩ := h
  exact ⟨by simpa, by simpa, by simpa, by simpa, by simpa, by simpa, fun k hk => by simpa [hk] using others k hk⟩

/-- What a trip does to its axis once it is latched and recorded: `closes` where it is that of a closing leaf. -/
def State.tripReacts (s : State) (n : Nat) (closes : Bool) (stops : Nat) : State :=
  if closes then
    ((s.modPortal (n / 4) (fun q => { q with tripSeen := true })).modAxis n (fun x => { x with emgTarget := s.reopenTarget n })).emergencyStop n
      .tripReopen
  else
    let t := s.emergencyStop n .tripStop
    if s.rf .portalReopen (n / 4) 3 0 ≤ stops then t.raise 0x4004 n else t

/-- A trip latches and records before it acts on its axis. -/
theorem State.trip_eq_tripReacts (s : State) (n c react : Nat) (pos env : Int) : ∃ x : State,
    s.Latches x n c react pos ∧ (∀ k, x.axis k = s.axis k) ∧ x.reopenTarget n = s.reopenTarget n ∧
    s.trip n c pos env react = x.tripReacts n (s.leafCloses n) ((s.ob n).stops + b2n (!s.leafCloses n)) := by
  unfold State.trip
  extract_lets o cl p leafClosing f r e stops s1 code s2 s2' s3 s4
  have latched : s.Latches s1 n c react pos := by
    refine ⟨?_, ?_, ?_, ?_, ?_, ?_, fun k hk => by simp [s1, hk]⟩ <;> simp only [s1, State.ob_setOb, if_true] <;> rfl
  have raised : s.Latches s2 n c react pos := latched.congr fun k => by simp [s2]
  have injected : s.Latches s2' n c react pos ∧ (∀ k, s2'.axis k = s.axis k) ∧ s2'.regs = s.regs ∧ s2'.portal p = s.portal p := by
    simp only [s2']
    split
    · exact ⟨raised.injectDone true, fun k => by simp [s2, s1], by simp [s2, s1], by simp [s2, s1]⟩
    · exact ⟨raised, fun k => by simp [s2, s1], by simp [s2, s1], by simp [s2, s1]⟩
  have flagged : (∀ k, s4.ob k = s2'.ob k) ∧ (∀ k, s4.axis k = s2'.axis k) ∧ s4.regs = s2'.regs ∧
      (s4.portal p).forced = (s2'.portal p).forced := by
    simp only [s4, s3]
    split <;> simp
  obtain ⟨latched', axes, regs, portal⟩ := injected
  obtain ⟨ob, axes', regs', forced⟩ := flagged
  refine ⟨s4, latched'.congr ob, fun k => (axes' k).trans (axes k),
    State.reopenTarget_congr (regs'.trans regs) (forced.trans (congrArg Portal.forced portal)), ?_⟩
  rw [State.tripReacts, State.rf_congr (regs'.trans regs : s4.regs = s.regs)]
  rfl

/-- A closing leaf decelerates towards its reopen target (R153). -/
theorem State.tripReacts_closing {s : State} {n : Nat} (stops : Nat) (h : (s.axis n).mode = .executing) :
    s.Decelerates (s.tripReacts n true stops) n .tripReopen ∧ ((s.tripReacts n true stops).axis n).emgTarget = s.reopenTarget n := by
  let x : State := (s.modPortal (n / 4) (fun q => { q with tripSeen := true })).modAxis n (fun x => { x with emgTarget := s.reopenTarget n })
  obtain ⟨stopped, target⟩ := State.emergencyStop_executing (s := x) (n := n) .tripReopen (by simpa [x] using h)
  obtain ⟨mode, queue, emg, axes, ob⟩ := stopped
  exact ⟨⟨mode, queue, emg, fun k hk => (axes k hk).trans (by simp [x, hk]), fun k => (ob k).trans (by simp [x])⟩, target.trans (by simp [x])⟩

/-- Any other axis decelerates under the stop rule (R154, R155). -/
theorem State.tripReacts_elsewhere {s : State} {n : Nat} (stops : Nat) (h : (s.axis n).mode = .executing) :
    s.Decelerates (s.tripReacts n false stops) n .tripStop := by
  obtain ⟨⟨mode, queue, emg, axes, ob⟩, -⟩ := State.emergencyStop_executing .tripStop h
  simp only [State.tripReacts, if_neg Bool.false_ne_true]
  split
  · exact ⟨by simpa using mode, by simpa using queue, by simpa using emg, by simpa using axes, by simpa using ob⟩
  · exact ⟨mode, queue, emg, axes, ob⟩

theorem State.leafCloses_iff (s : State) (n : Nat) : s.leafCloses n = true ↔ n % 4 < 2 ∧ (s.ob n).strokeClosing = true := by
  simp [State.leafCloses]

/-- Settles O30: the bounds of the envelope, and a trip as what it latches followed by how its axis reacts. -/
theorem envelopesAndTrips : Obligations.EnvelopesAndTrips := by
  refine ⟨fun s n b closing => ⟨s.envelope_le_ceilPeak n b closing, s.envelope_eq_ceilPeak n b closing⟩, ?_⟩
  rintro s n c react pos env h t rfl
  obtain ⟨x, ⟨tripped, cause, tripPos, bin, reactT, stops, others⟩, axes, target, trips⟩ := s.trip_eq_tripReacts n c react pos env
  have executes : (x.axis n).mode = .executing := (axes n).symm ▸ h
  rw [trips]
  cases closes : s.leafCloses n with
  | true =>
    obtain ⟨⟨mode, queue, emg, axes', ob⟩, emgTarget⟩ := State.tripReacts_closing ((s.ob n).stops + b2n (!true)) executes
    rw [if_pos ((s.leafCloses_iff n).1 closes), ob]
    rw [closes] at stops
    exact ⟨tripped, cause, tripPos, bin, reactT, mode, queue, ⟨emg, emgTarget.trans target, stops⟩,
      fun k hk => ⟨(ob k).trans (others k hk), (axes' k hk).trans (axes k)⟩⟩
  | false =>
    obtain ⟨mode, queue, emg, axes', ob⟩ := State.tripReacts_elsewhere ((s.ob n).stops + b2n (!false)) executes
    rw [if_neg (fun hc => Bool.false_ne_true (closes.symm.trans ((s.leafCloses_iff n).2 hc))), ob]
    rw [closes] at stops
    exact ⟨tripped, cause, tripPos, bin, reactT, mode, queue, ⟨emg, stops⟩,
      fun k hk => ⟨(ob k).trans (others k hk), (axes' k hk).trans (axes k)⟩⟩

end Sys2Proof.Machine
end

section
/-!
PROOFS. Commands of the obstacle observers (R154, R164, R166, R172, R180, R183): commissioning and injection, the window of the tables, and the
end of a stop.
-/
namespace Sys2Proof.Machine
open Sys2Proof

/-! ### What a command makes of one observer -/

/-- In `t` observer `n` is `x`, and every other is as it is in `s`. -/
def State.ObservesAs (s t : State) (n : Nat) (x : Observer) : Prop := t.ob n = x ∧ ∀ k, k ≠ n → t.ob k = s.ob k

theorem State.setOb_observesAs (s : State) (n : Nat) (x : Observer) : s.ObservesAs (s.setOb n x) n x :=
  ⟨by simp, fun k hk => by simp [hk]⟩

theorem State.ObservesAs.trans {s u t : State} {n : Nat} {x y : Observer} (h : s.ObservesAs u n x) (h' : u.ObservesAs t n y) :
    s.ObservesAs t n y := ⟨h'.1, fun k hk => (h'.2 k hk).trans (h.2 k hk)⟩

/-- Operations that change no observer may follow. -/
theorem State.ObservesAs.then {s u t : State} {n : Nat} {x : Observer} (h : s.ObservesAs u n x) (hobs : t.obs = u.obs) :
    s.ObservesAs t n x := by
  have same : ∀ k, t.ob k = u.ob k := fun k => by rw [State.ob, State.ob, hobs]
  exact ⟨(same n).trans h.1, fun k hk => (same k).trans (h.2 k hk)⟩

/-! ### Commissioning and injection (R166, R172, R183) -/

/-- INJECT is written with its other fields as given. -/
theorem fld_setFld_inject (v : Word) : fld (setFld v 2 0 2) 2 0 = 2 ∧ fld (setFld v 2 0 2) 15 8 = fld v 15 8 ∧
    fld (setFld v 2 0 2) 27 16 = fld v 27 16 := by
  have lt := v.isLt
  have word : (setFld v 2 0 2).toNat = v.toNat - v.toNat % 8 + 2 := by
    simp [setFld, place, fld, fieldOf]
    omega
  simp only [fld, fieldOf, word, Nat.shiftRight_eq_div_pow]
  omega

theorem writeOk_obsCmd_commission (n j : Nat) : writeOk .obsCmd n j 1 = true := rfl

/-- A write of CMD that carries no reserved encoding takes effect. -/
theorem State.putReg_obsCmd {s : State} {n : Fin 64} {m : Nat} {v : Word} (hd : s.domain (if n.val < 32 then 2 else 3) = true)
    (hm : s.mayAccess m false = true) (hv : writeOk .obsCmd n 0 v = true) : s.putReg m .obsCmd n v = s.effect .obsCmd n 0 v :=
  s.putReg_effect m .obsCmd n v _ (obsCmd_at n) hd hm (by decide) nofun (by decide) hv

theorem State.effect_obsCmd_commission (s : State) (n j : Nat) : s.effect .obsCmd n j 1 = s.commission n := rfl

theorem State.effect_obsCmd_inject (s : State) (n j : Nat) (v : Word) :
    s.effect .obsCmd n j (setFld v 2 0 2) = s.inject n (fld v 15 8) (fld v 27 16) := by
  obtain ⟨cmd, bin, force⟩ := fld_setFld_inject v
  show (if fld (setFld v 2 0 2) 2 0 = 1 then s.commission n else
    s.inject n (fld (setFld v 2 0 2) 15 8) (fld (setFld v 2 0 2) 27 16)) = _
  rw [cmd, bin, force, if_neg (by decide)]

/-! ### The window of the tables (R164, R180) -/

@[simp] theorem Observer.setRef_tblBin (o : Observer) (closing : Bool) (b : Nat) (v : Int) : (o.setRef closing b v).tblBin = o.tblBin := by
  cases closing <;> rfl

@[simp] theorem Observer.setRef_ceilOnly (o : Observer) (closing : Bool) (b : Nat) (v : Int) :
    (o.setRef closing b v).ceilOnly = o.ceilOnly := by
  cases closing <;> rfl

theorem State.tblNext_observesAs (s : State) (n : Nat) :
    s.ObservesAs (s.tblNext n) n { s.ob n with tblBin := ((s.ob n).tblBin + 1) % 256 } := s.setOb_observesAs n _

theorem State.ObservesAs.tblNext {s u : State} {n : Nat} {x : Observer} (h : s.ObservesAs u n x) :
    s.ObservesAs (u.tblNext n) n { x with tblBin := (x.tblBin + 1) % 256 } := by
  have stepped := u.tblNext_observesAs n
  rw [h.1] at stepped
  exact h.trans stepped

/-- The drift that an evaluation of the drift finds; its bin and direction, and the alarm, are what they then are. -/
theorem State.evalDrift_observesAs (s : State) (n : Nat) (finished : Bool) : ∃ (b : Nat) (opening alarm : Bool),
    s.ObservesAs (s.evalDrift n finished) n { s.ob n with drift := if (s.ob n).ceilOnly then 0 else (s.ob n).driftNow.1, driftBin := b,
                                                          driftOpen := opening, driftAlarm := alarm } := by
  unfold State.evalDrift
  extract_lets o d lim up down s1 s2
  have drift : (if (s.ob n).ceilOnly then 0 else (s.ob n).driftNow.1) = d.1 := by
    simp only [d, o]
    split <;> rfl
  have recorded : s2.obs = s1.obs := by
    simp only [s2]
    split <;> simp
  rw [drift]
  refine ⟨d.2.1, d.2.2, (o.driftAlarm || up) && !down, (s.setOb_observesAs n _).then ?_⟩
  split
  · exact (State.raise_obs _ _ _ _).trans recorded
  · exact recorded

/-- Why a write to the window is discarded: a table that is not written, or the mark for no force. -/
theorem State.writeCause_obsTblData {s : State} {a i j : Nat} (h : s.decode a = .reg .obsTblData i j) (v : Word) :
    s.writeCause a v = if 2 ≤ (s.ob i).tblSel then 3 else if !writeOk .obsTblData i j v then 2 else 0 := by
  have access : (desc .obsTblData).access = .rw := rfl
  simp [State.writeCause, h, access]

section Window

variable {s : State} {n : Fin 64} {m : Nat} {v : Word} (hd : s.domain (if n.val < 32 then 2 else 3) = true)

include hd

theorem State.decode_obsTblData : s.decode (regAddr .obsTblData n 0) = .reg .obsTblData n 0 :=
  s.decode_placedAt .obsTblData n _ (obsTblData_at n) hd

theorem State.putReg_obsTblData (hm : s.mayAccess m false = true) (hsel : (s.ob n).tblSel < 2) (hv : writeOk .obsTblData n 0 v = true) :
    s.putReg m .obsTblData n v = (s.writeEntry n (signedOf 16 (fld v 15 0))).tblNext n := by
  have accepted : s.writeCause (regAddr .obsTblData n 0) v = 0 := by
    simp [State.writeCause_obsTblData (State.decode_obsTblData hd), Nat.not_le.2 hsel, hv]
  rw [State.putReg, when_of hm, State.writeWord_accepted (State.decode_obsTblData hd) (by decide) accepted,
    State.paramWritten_placedAt _ (obsTblData_at n)]
  rfl

/-- A discarded write steps the window all the same. -/
theorem State.putReg_obsTblData_discarded (hm : s.mayAccess m false = true) (hv : writeOk .obsTblData n 0 v = false ∨ 2 ≤ (s.ob n).tblSel) :
    (s.putReg m .obsTblData n v).obs = (s.tblNext n).obs := by
  have discarded : s.writeCause (regAddr .obsTblData n 0) v ≠ 0 := by
    rw [State.writeCause_obsTblData (State.decode_obsTblData hd)]
    rcases hv with hv | hsel
    · rw [hv]
      split <;> decide
    · rw [if_pos hsel]
      decide
  rw [State.putReg, when_of hm, State.writeWord]
  simp only [if_pos discarded, State.decode_obsTblData hd]
  exact (State.discard_keeps _ _ _ _ _).obs rfl

end Window

/-- With TBL 0 the window shows the closing reference. -/
theorem State.readVal_obsTblData {s : State} {n : Nat} (hsel : (s.ob n).tblSel = 0) :
    (s.readVal .obsTblData n 0).toNat = wrapTo 16 ((s.ob n).ref true (s.ob n).tblBin) := by
  have entry : s.tblEntry n = (s.ob n).ref true (s.ob n).tblBin := by simp [State.tblEntry, hsel]
  have lt : wrapTo 16 ((s.ob n).ref true (s.ob n).tblBin) < 2 ^ 32 := by
    unfold wrapTo
    omega
  show (natWord (wrapTo 16 (s.tblEntry n))).toNat = _
  rw [entry, natWord, BitVec.toNat_ofNat, Nat.mod_eq_of_lt lt]

/-- A reference entry that a master writes. -/
theorem State.writeEntry_observesAs {s : State} {n : Nat} (v : Int) (h : s.rb .obsCfg n 0 = false) :
    s.ObservesAs (s.writeEntry n v) n ((s.ob n).setRef ((s.ob n).tblSel == 0) (s.ob n).tblBin v) := by
  simp only [State.writeEntry, h, if_neg Bool.false_ne_true]
  exact s.setOb_observesAs n _

/-- With the observer in use the drift is evaluated too. -/
theorem State.writeEntry_evaluates {s : State} {n : Nat} (v : Int) (h : s.rb .obsCfg n 0 = true) : ∃ (b : Nat) (opening alarm : Bool),
    let q := (s.ob n).setRef ((s.ob n).tblSel == 0) (s.ob n).tblBin v
    s.ObservesAs (s.writeEntry n v) n { q with drift := if (s.ob n).ceilOnly then 0 else q.driftNow.1, driftBin := b, driftOpen := opening,
                                               driftAlarm := alarm } := by
  have entered := s.setOb_observesAs n ((s.ob n).setRef ((s.ob n).tblSel == 0) (s.ob n).tblBin v)
  obtain ⟨b, opening, alarm, evaluated⟩ := State.evalDrift_observesAs (s.setOb n _) n false
  rw [entered.1, Observer.setRef_ceilOnly] at evaluated
  simp only [State.writeEntry, h, if_true]
  exact ⟨b, opening, alarm, entered.trans evaluated⟩

/-! ### The stop rule (R154) -/

/-- An axis at rest whose brake is released executes the segment that replaces its queue. -/
theorem State.replaceSeg_executes {s : State} {n : Nat} (g : Seg) (hmode : (s.axis n).mode = .holding) (hdue : (s.axis n).brkRelDue = none)
    (hbrake : s.rb .axisCfg n 9 = true → (s.axis n).brakeRel = true) :
    ((s.replaceSeg n g).axis n).mode = .executing ∧ ((s.replaceSeg n g).axis n).queue = [g] ∧
    ∀ k, k ≠ n → (s.replaceSeg n g).axis k = s.axis k := by
  let x : State := s.setAxis n { s.axis n with queue := [g] }
  have own : x.axis n = { s.axis n with queue := [g] } := by simp [x]
  have released : (x.rb .axisCfg n 9 && !(x.axis n).brakeRel) = false := by
    rw [own, State.rb_congr (State.setAxis_regs ..)]
    simpa using hbrake
  have plans : s.replaceSeg n g = x.planAxis n (s.axis n).current_ := by
    show x.startQueue n _ = _
    rw [State.startQueue, released, if_neg Bool.false_ne_true, if_neg (by simp [own, hdue])]
  obtain ⟨mode, queue, -, -, others⟩ := State.planAxis_axis (s := x) (congrArg Axis.queue own) (s.axis n).current_
  rw [plans]
  refine ⟨mode.trans ?_, queue, fun k hk => (others k hk).trans (by simp [x, hk])⟩
  rw [own, hmode, if_neg (by decide)]

/-- After OBST_WAIT a leaf held under the stop rule goes on to its target. -/
theorem State.stopResume_resumes {s : State} {n : Nat} (hheld : (s.ob n).stopHeld = true) (hmode : (s.axis n).mode = .relief)
    (hstops : (s.ob n).stops < s.rf .portalReopen (n / 4) 3 0) (hdue : (s.axis n).brkRelDue = none)
    (hbrake : s.rb .axisCfg n 9 = true → (s.axis n).brakeRel = true) :
    s.ObservesAs (s.stopResume n) n { s.ob n with stopHeld := false } ∧ ((s.stopResume n).axis n).mode = .executing ∧
    ((s.stopResume n).axis n).queue = [plainSeg (s.axis n).origTarget] ∧
    (s.ob n).stopAt + ms (s.rf .portalTDwell (n / 4) 31 16) ≤ (s.stopResume n).time.lt ∧
    ∀ k, k ≠ n → (s.stopResume n).axis k = s.axis k := by
  let t0 : Ticks := (s.ob n).stopAt + ms (s.rf .portalTDwell (n / 4) 31 16)
  let x : State := ((s.passTo t0).modOb n (fun o => { o with stopHeld := false })).modAxis n (fun x => { x with mode := .holding })
  have resumes : s.stopResume n = x.replaceSeg n (plainSeg (s.axis n).origTarget) := by
    rw [State.stopResume, when_of (by simp [hheld, hmode, hstops])]
  have keeps : Frame Part.axes x (x.replaceSeg n (plainSeg (s.axis n).origTarget)) := State.replaceSeg_frame rfl (Frame.refl _ x)
  have regs : x.regs = s.regs := by simp [x]
  obtain ⟨mode, queue, others⟩ := State.replaceSeg_executes (s := x) (n := n) (plainSeg (s.axis n).origTarget) (by simp [x])
    (by simpa [x] using hdue) (by simpa [x, State.rb_congr regs] using hbrake)
  have observed : s.ObservesAs x n { s.ob n with stopHeld := false } := ⟨by simp [x], fun k hk => by simp [x, hk]⟩
  rw [resumes]
  refine ⟨observed.then (keeps.obs rfl), mode, queue, ?_, fun k hk => (others k hk).trans (by simp [x, hk])⟩
  rw [keeps.time rfl]
  exact (State.le_passTo_lt s t0).trans_eq (by simp [x])

/-! ### The commands -/

/-- Settles O31: each command by the lemma that says what its access or its instant does to the observer. -/
theorem observerCommandsAct : Obligations.ObserverCommandsAct := by
  intro s n m o bin becomes
  let s0 : State := { s with outs := [] }
  have runs : ∀ {c : Instr} {f : State → State} {x : Observer}, exec c s = run s f → s0.ObservesAs (f s0) n x → becomes c x :=
    fun he h => completes_run he h
  refine ⟨fun hd hm => ⟨?commission, fun v hv => ?inject, fun v hv hsel => ⟨fun hen => ?entry, fun hen => ?evaluated⟩,
      fun v hv => ?discarded⟩,
    fun hd hm => ⟨?read, fun hsel => ?answer⟩, fun hheld hmode hstops hdue hbrake => ?resume⟩
  case commission =>
    refine runs (f := fun s => s.putReg m .obsCmd n 1) rfl ?_
    rw [State.putReg_obsCmd (s := s0) hd hm (writeOk_obsCmd_commission n 0), State.effect_obsCmd_commission]
    exact s0.setOb_observesAs n _
  case inject =>
    refine runs (f := fun s => s.putReg m .obsCmd n (setFld v 2 0 2)) rfl ?_
    rw [State.putReg_obsCmd (s := s0) hd hm hv, State.effect_obsCmd_inject]
    exact s0.setOb_observesAs n _
  case entry =>
    have written := State.writeEntry_observesAs (s := s0) (signedOf 16 (fld v 15 0)) hen
    have stepped := written.tblNext
    rw [Observer.setRef_tblBin] at stepped
    refine runs (f := fun s => s.putReg m .obsTblData n v) rfl ?_
    rw [State.putReg_obsTblData (s := s0) hd hm hsel hv]
    exact stepped
  case evaluated =>
    obtain ⟨b, opening, alarm, written⟩ := State.writeEntry_evaluates (s := s0) (signedOf 16 (fld v 15 0)) hen
    obtain ⟨own, others⟩ := written.tblNext
    rw [Observer.setRef_tblBin] at own
    refine completes_run (f := fun s => s.putReg m .obsTblData n v) rfl ?_
    rw [State.putReg_obsTblData (s := s0) hd hm hsel hv, own]
    exact ⟨⟨rfl, rfl⟩, others⟩
  case discarded =>
    exact runs (f := fun s => s.putReg m .obsTblData n v) rfl
      ((s0.tblNext_observesAs n).then (State.putReg_obsTblData_discarded (s := s0) hd hm hv))
  case read =>
    refine runs (f := fun s => s.getReg m .obsTblData n) rfl ?_
    rw [State.getReg_eq s0 m .obsTblData n _ (obsTblData_at n) hd hm]
    exact (s0.tblNext_observesAs n).then (State.emit_obs _ _)
  case answer =>
    refine completes_run (f := fun s => s.getReg m .obsTblData n) rfl ?_
    rw [State.getReg_eq s0 m .obsTblData n _ (obsTblData_at n) hd hm]
    exact congrArg (fun w => [Out.readWord (regAddr .obsTblData n 0) w]) (State.readVal_obsTblData (s := s0) hsel)
  case resume =>
    obtain ⟨observed, mode, queue, time, others⟩ := State.stopResume_resumes (s := s0) hheld hmode hstops hdue hbrake
    refine completes_run (f := fun s => s.stopResume n) rfl ?_
    exact ⟨observed.1, mode, queue, time, fun k hk => ⟨observed.2 k hk, others k hk⟩⟩

end Sys2Proof.Machine
end

section
/-!
PROOFS. The motion cycle boundary (R186, R233, R281): its frames and latches, and what follows it in the cycle.
-/
namespace Sys2Proof.Machine
open Sys2Proof

/-! ### Units that are handled one after another -/

section Visits

variable {α : Type} {f : State → Nat → State} {unit : State → Nat → α} (hne : ∀ s i k, k ≠ i → unit (f s i) k = unit s k)
include hne

/-- A unit that is not in the list is left alone. -/
theorem forEach_skips {k : Nat} : ∀ (l : List Nat) (s : State), k ∉ l → unit (forEach l f s) k = unit s k
  | [], _, _ => rfl
  | i :: l, s, hk => by
    obtain ⟨hi, hl⟩ := not_or.1 fun h => hk (List.mem_cons.2 h)
    exact (forEach_skips l (f s i) hl).trans (hne s i k hi)

/-- Each unit of the list is handled once, from a state that holds it as it was. -/
theorem forEach_visits {I : State → Prop} (hI : ∀ s i, I s → I (f s i)) {k : Nat} : ∀ (l : List Nat), l.Nodup → ∀ s, I s → k ∈ l →
    ∃ x, I x ∧ unit x k = unit s k ∧ unit (forEach l f s) k = unit (f x k) k
  | [], _, _, _, hk => absurd hk List.not_mem_nil
  | i :: l, hnd, s, hs, hk => by
    obtain ⟨hi, hl⟩ := List.nodup_cons.1 hnd
    by_cases e : k = i
    · subst e
      exact ⟨s, hs, rfl, forEach_skips hne l (f s k) hi⟩
    · obtain ⟨x, hx, same, visited⟩ := forEach_visits hI l hl (f s i) (hI s i hs) ((List.mem_cons.1 hk).resolve_left e)
      exact ⟨x, hx, same.trans (hne s i k e), visited⟩

end Visits

/-! ### The frames of the drive links and the latches of the ports (R233, R281) -/

theorem State.dlSend_link_ne (s : State) (l k : Nat) (h : k ≠ l) : (s.dlSend l).link k = s.link k := by
  unfold State.dlSend
  dsimp only
  split
  · rfl
  · simp [h]

/-- A link that starts or runs sends its frame with the next SEQ. -/
theorem State.dlSend_sends {s : State} {l : Nat} (hphase : (s.link l).phase ≠ 0) (hidle : (s.link l).idleStart = none) :
    ((s.dlSend l).link l).sent = true ∧ ((s.dlSend l).link l).replied = false ∧ ((s.dlSend l).link l).seqLast = (s.link l).seqNext ∧
    ((s.dlSend l).link l).seqNext = ((s.link l).seqNext + 1) % 65536 := by
  have sends : ¬((s.link l).phase = 0 ∨ (s.link l).idleStart.isSome = true) := by simp [hphase, hidle]
  unfold State.dlSend
  dsimp only
  rw [if_neg sends]
  simp

theorem State.fbLatch_fbp_ne (s : State) (m k : Nat) (h : k ≠ m) : (s.fbLatch m).fbp k = s.fbp k := by
  unfold State.fbLatch
  split <;> simp [h]

/-- A port latches P, whatever its mode. -/
theorem State.fbLatch_latch (s : State) (m : Nat) : ((s.fbLatch m).fbp m).latch = s.fbPos m := by
  unfold State.fbLatch
  split <;> simp

theorem State.fbLatch_regs (s : State) (m : Nat) : (s.fbLatch m).regs = s.regs := (State.fbLatch_frame rfl (Frame.refl Part.fb s)).regs rfl

/-- P is read from the port's count and from registers. -/
theorem State.fbPos_congr {s x : State} {m : Nat} (hregs : x.regs = s.regs) (hport : x.fbp m = s.fbp m) : x.fbPos m = s.fbPos m := by
  have len : x.fbWrapLen m = s.fbWrapLen m := by rw [State.fbWrapLen, State.fbWrapLen, State.reg, State.reg, hregs]
  rw [State.fbPos, State.fbPos, State.fbWrapEn, State.fbWrapEn, State.rb_congr hregs, hport, len]

/-! ### The boundary and what follows it in the cycle (R186) -/

/-- At the boundary the frames leave and the ports latch. -/
def State.sendAndLatch (s : State) : State := forEach (List.range 64) State.fbLatch (forEach (List.range 8) State.dlSend s)

theorem forEach_sends_frame (s : State) : Frame (Part.cnt ||| Part.links ||| Part.outs) s (forEach (List.range 8) State.dlSend s) :=
  forEach_frame (fun _ _ h => State.dlSend_frame rfl h) _ (Frame.refl _ s)

theorem forEach_latches_frame (s : State) : Frame Part.fb s (forEach (List.range 64) State.fbLatch s) :=
  forEach_frame (fun _ _ h => State.fbLatch_frame rfl h) _ (Frame.refl _ s)

theorem State.sendAndLatch_keeps (s : State) : s.sendAndLatch.time = s.time ∧ s.sendAndLatch.fio = s.fio := by
  have sends := forEach_sends_frame s
  have latches := forEach_latches_frame (forEach (List.range 8) State.dlSend s)
  exact ⟨(latches.time rfl).trans (sends.time rfl), (latches.fio rfl).trans (sends.fio rfl)⟩

theorem State.link_congr {s x : State} (h : x.links = s.links) (l : Nat) : x.link l = s.link l := by rw [State.link, State.link, h]

theorem State.fbp_congr {s x : State} (h : x.fb = s.fb) (m : Nat) : x.fbp m = s.fbp m := by rw [State.fbp, State.fbp, h]

theorem State.mrst_congr {s x : State} (h : x.fio = s.fio) (i : Nat) : x.mrst i = s.mrst i := by rw [State.mrst, State.mrst, h]

theorem State.sendAndLatch_sends {s : State} {l : Nat} (hl : l < 8) (hphase : (s.link l).phase ≠ 0) (hidle : (s.link l).idleStart = none) :
    (s.sendAndLatch.link l).sent = true ∧ (s.sendAndLatch.link l).replied = false ∧ (s.sendAndLatch.link l).seqLast = (s.link l).seqNext ∧
    (s.sendAndLatch.link l).seqNext = ((s.link l).seqNext + 1) % 65536 := by
  obtain ⟨x, -, same, sent⟩ := forEach_visits State.dlSend_link_ne (I := fun _ => True) (fun _ _ _ => trivial) (List.range 8) List.nodup_range s
    trivial (List.mem_range.2 hl)
  have after : s.sendAndLatch.link l = (x.dlSend l).link l :=
    (State.link_congr ((forEach_latches_frame _).links rfl) l).trans sent
  rw [← same] at hphase hidle
  rw [after, ← same]
  exact State.dlSend_sends hphase hidle

theorem State.sendAndLatch_latches (s : State) {m : Nat} (hm : m < 64) : (s.sendAndLatch.fbp m).latch = s.fbPos m := by
  have sends := forEach_sends_frame s
  obtain ⟨x, hx, same, latched⟩ := forEach_visits State.fbLatch_fbp_ne (I := fun x => x.regs = s.regs)
    (fun x i h => (x.fbLatch_regs i).trans h) (List.range 64) List.nodup_range (forEach (List.range 8) State.dlSend s) (sends.regs rfl)
    (List.mem_range.2 hm)
  rw [State.sendAndLatch, latched, State.fbLatch_latch]
  exact State.fbPos_congr hx (same.trans (State.fbp_congr (sends.fb rfl) m))

/-- What follows the boundary may write where no maintenance reset acts: the links and the ports are not among it. -/
def restParts : Nat :=
  Part.sys ||| Part.rcd ||| Part.cnt ||| Part.seq ||| Part.portals ||| Part.obs ||| Part.axes ||| Part.ilk ||| Part.loads ||| Part.twin |||
  Part.mem ||| Part.outs ||| Part.free ||| Part.states

/-- `x` is `s` as the engines have taken their inputs and the boundary has come. -/
structure State.AtBoundary (s x : State) : Prop where
  links : x.links = s.links
  fb : x.fb = s.fb
  fio : x.fio = s.fio
  regs : x.regs = s.regs
  boundary : x.time.bTt = s.time.motionNext
  next : x.time.motionNext = s.time.motionNext + 25000

/-- A motion cycle sends and latches at its boundary; the portals, the arbiter, the brake tests and channel A follow. -/
theorem State.motionCycle_sendsAndLatches (s : State) : ∃ x : State, s.AtBoundary x ∧
    ∀ w, Part.within restParts w = true → (∀ y, Frame w x.sendAndLatch y → Frame w x.sendAndLatch y.mrstActs) →
      Frame w x.sendAndLatch s.motionCycle := by
  have inputs : Frame (Part.bk ||| Part.rcd ||| Part.cnt ||| Part.time ||| Part.portals ||| Part.obs ||| Part.axes ||| Part.ilk ||| Part.outs) s
      (s.passToTt s.time.motionNext).soRecord.takeInputs :=
    State.takeInputs_frame rfl (State.soRecord_frame rfl (State.passToTt_frame rfl (Frame.refl _ s)))
  unfold State.motionCycle
  extract_lets s0 b s1 time x s3 s4 acted decided noted twin s6
  refine ⟨x, ⟨inputs.links rfl, inputs.fb rfl, inputs.fio rfl, inputs.regs rfl, rfl, rfl⟩, fun w hw hm => ?_⟩
  have watched : Frame w s3 s4 := forEach_frame (fun _ _ h => State.testWatch_frame (Part.within_trans (by decide) hw) h) _ (Frame.refl w s3)
  have reset : Frame w s3 acted := hm s4 watched
  have cycled : Frame w s3 decided := by
    refine Frame.ite reset ?_
    refine State.liftWithdraw_frame (Part.within_trans (by decide) hw) (State.arbitrate_frame (Part.within_trans (by decide) hw) ?_)
    exact forEach_frame (fun _ _ h => State.portalCycle_frame (Part.within_trans (by decide) hw) h) _ reset
  have due : Frame w s3 noted := State.noteDue_frame (Part.within_trans (by decide) hw) cycled
  have counted : Frame w s3 s6 := Frame.set_twin (Part.within_trans (by decide) hw) due
  exact State.mirrorCycle_frame (Part.within_trans (by decide) hw) (State.channelA_frame (Part.within_trans (by decide) hw) counted)

/-- With no reset accepted there is none to act on. -/
theorem State.mrstActs_none {s : State} (h : ∀ i, i < 4 → (s.mrst i).accepted = false) : s.mrstActs = s := by
  have none : [0, 1, 2, 3].filter (fun i => (s.mrst i).accepted) = [] := by
    simp [h 0, h 1, h 2, h 3]
  unfold State.mrstActs
  rw [none]
  rfl

/-- Settles O32: the boundary sends and latches, and what follows it in the cycle keeps the time, and the links and the ports but for a reset. -/
theorem motionCycleBoundary : Obligations.MotionCycleBoundary := by
  intro s
  obtain ⟨x, ⟨links, fb, fio, regs, boundary, next⟩, rest⟩ := State.motionCycle_sendsAndLatches { s with outs := [] }
  obtain ⟨time, fio'⟩ := x.sendAndLatch_keeps
  have anyway := rest (restParts ||| Part.fb ||| Part.links ||| Part.fio) rfl fun _ h => State.mrstActs_frame rfl h
  refine completes_run (f := State.motionCycle) rfl ?_
  rw [anyway.time rfl, time]
  refine ⟨boundary, next, fun hreset => ?_⟩
  have noReset := rest restParts rfl fun y hy => by
    rwa [State.mrstActs_none fun i hi =>
      (congrArg Mrst.accepted (State.mrst_congr ((hy.fio rfl).trans (fio'.trans fio)) i)).trans (hreset i hi)]
  refine ⟨fun l hl hphase hidle => ?_, fun m hm => ?_⟩
  · have same : x.link l = s.link l := State.link_congr links l
    rw [State.link_congr (noReset.links rfl), ← same]
    exact State.sendAndLatch_sends hl (by rwa [same]) (by rwa [same])
  · rw [State.fbp_congr (noReset.fb rfl), x.sendAndLatch_latches hm]
    exact State.fbPos_congr regs (State.fbp_congr fb m)

end Sys2Proof.Machine
end

section
/-!
PROOFS. The first reference of a portal (R213, R645).
-/
namespace Sys2Proof.Machine
open Sys2Proof

theorem State.startHoming_homes (s : State) (n : Nat) : ((s.startHoming n).axis n).mode = .homing ∧
    ((s.startHoming n).axis n).referenced = false ∧ ((s.startHoming n).axis n).homeAttempt = 1 := by
  simp [State.startHoming]

theorem State.startHoming_axis_ne (s : State) (n k : Nat) (h : k ≠ n) : (s.startHoming n).axis k = s.axis k := by
  simp [State.startHoming, h]

theorem State.presentAxes_congr {s x : State} (h : x.regs = s.regs) (p : Nat) : x.presentAxes p = s.presentAxes p := by
  have roles : x.rolePresent p = s.rolePresent p := by
    funext r
    rw [State.rolePresent, State.rolePresent, State.portalEn_congr h, State.rb_congr h]
  rw [State.presentAxes, State.presentAxes, roles]

/-- Entering REFERENCING starts the homing of every present axis. -/
theorem State.toReferencing_homes {s : State} {p n : Nat} (hn : n ∈ s.presentAxes p) : ((s.toReferencing p).axis n).mode = .homing ∧
    ((s.toReferencing p).axis n).referenced = false ∧ ((s.toReferencing p).axis n).homeAttempt = 1 := by
  unfold State.toReferencing
  extract_lets s1
  have entered : Frame (endParts ||| Part.states) s s1 :=
    State.enter_frame rfl (State.modPortal_frame rfl (fun _ _ => rfl) (Frame.refl _ s))
  rw [State.presentAxes_congr (entered.regs rfl)]
  exact forEach_axis (I := fun _ => True) (Q := fun _ y => y.mode = .homing ∧ y.referenced = false ∧ y.homeAttempt = 1)
    (fun _ _ _ => trivial) (fun x k _ => x.startHoming_homes k) (fun x k n => x.startHoming_axis_ne k n) _ s1 trivial n (.inl hn)

/-- T1 under the guards of R645. -/
theorem State.referenceStart_references {s : State} {p : Nat} (hop : s.operational = true) (hholder : s.holder = true)
    (hen : s.portalEn p = true) (hst : (s.portal p).st = .unused)
    (hdue : ∀ n ∈ s.presentAxes p, s.btDue n = true → s.ilk.btEnded.testBit n = true) : s.referenceStart p = s.toReferencing p := by
  have ended : ∀ n ∈ s.presentAxes p, (!s.btDue n || s.ilk.btEnded.testBit n) = true := fun n hn => by
    cases due : s.btDue n with
    | true => exact hdue n hn due
    | false => rfl
  unfold State.referenceStart State.t1
  rw [when_of (by rw [hop, hholder, List.all_eq_true.2 ended]; rfl), if_pos (by rw [hen, hst]; rfl)]

/-- Settles O29: the guards of R645 and T1 hold, and the portal enters REFERENCING. -/
theorem firstReferenceStarts : Obligations.FirstReferenceStarts := by
  intro s p hop hholder hen hst hdue
  let s0 : State := { s with outs := [] }
  refine completes_run (f := fun s => s.referenceStart p) rfl ?_
  rw [State.referenceStart_references (s := s0) hop hholder hen hst hdue]
  exact ⟨State.toReferencing_goes s0 p, fun n hn => State.toReferencing_homes (s := s0) hn⟩

end Sys2Proof.Machine
end

section
/-!
PROOFS. The segment port (R189 to R192, R219): when a push is rejected, what it leaves of the queue, and how the queue starts.
-/
namespace Sys2Proof.Machine
open Sys2Proof

/-! ### What an operation makes of one axis -/

/-- In `t` axis `n` is `y`, and every other is as it is in `s`. -/
def State.MovesAs (s t : State) (n : Nat) (y : Axis) : Prop := t.axis n = y ∧ ∀ k, k ≠ n → t.axis k = s.axis k

theorem State.setAxis_movesAs (s : State) (n : Nat) (y : Axis) : s.MovesAs (s.setAxis n y) n y :=
  ⟨by simp, fun k hk => by simp [hk]⟩

theorem State.MovesAs.trans {s u t : State} {n : Nat} {x y : Axis} (h : s.MovesAs u n x) (h' : u.MovesAs t n y) : s.MovesAs t n y :=
  ⟨h'.1, fun k hk => (h'.2 k hk).trans (h.2 k hk)⟩

/-- Operations that change no axis may follow. -/
theorem State.MovesAs.then {s u t : State} {n : Nat} {x : Axis} (h : s.MovesAs u n x) (haxes : t.axes = u.axes) : s.MovesAs t n x := by
  have same : ∀ k, t.axis k = u.axis k := fun k => by rw [State.axis, State.axis, haxes]
  exact ⟨(same n).trans h.1, fun k hk => (same k).trans (h.2 k hk)⟩

/-! ### The start of a queue (R219) -/

section Start

variable {s : State} {n : Nat}

/-- A plan for a queue that is not empty changes the mode of its axis and what belongs to the plan. -/
theorem State.planAxis_movesAs (hq : (s.axis n).queue ≠ []) (cur : Seg) : ∃ (plan : Plan) (reversing : Bool),
    s.MovesAs (s.planAxis n cur) n { s.axis n with mode := if (s.axis n).mode = .homing then .homing else .executing, plan := some plan,
                                                   reversing := reversing, stallMask := false } := by
  cases h : (s.axis n).queue with
  | nil => exact absurd h hq
  | cons g rest =>
    unfold State.planAxis
    dsimp only
    rw [h]
    exact ⟨_, _, s.setAxis_movesAs n _⟩

theorem State.startQueue_released (hbrake : s.rb .axisCfg n 9 = true → (s.axis n).brakeRel = true) (cur : Seg) :
    s.startQueue n cur = if (s.axis n).brkRelDue.isSome then s else s.planAxis n cur := by
  have released : (s.rb .axisCfg n 9 && !(s.axis n).brakeRel) = false := by simpa using hbrake
  unfold State.startQueue
  dsimp only
  rw [released, if_neg Bool.false_ne_true]

/-- A brake that is applied is released before the motion. -/
theorem State.startQueue_releases (hcfg : s.rb .axisCfg n 9 = true) (hbrake : (s.axis n).brakeRel = false) (cur : Seg) :
    s.startQueue n cur = s.setAxis n { s.axis n with mode := .holding, brakeRel := true, brkAppDue := none,
                                                     brkRelDue := some (s.lt + ms (s.rf .axisBrake n 23 16)) } := by
  unfold State.startQueue
  dsimp only
  rw [hcfg, hbrake]
  rfl

end Start

/-! ### A push that is taken (R190, R191) -/

/-- `v` is `u` with the queue of axis `n` and its target set, before the queue starts. -/
structure State.Queues (u v : State) (n : Nat) (q : List Seg) (target : Int) : Prop where
  axis : u.MovesAs v n { u.axis n with queue := q, origTarget := target }
  regs : v.regs = u.regs
  time : v.time = u.time

section Queued

variable {u v : State} {n : Nat} {q : List Seg} {target : Int} (h : u.Queues v n q target) (cur : Seg)
include h

/-- With no brake to wait for the axis executes the queue. -/
theorem State.Queues.executes (hq : q ≠ []) (htakes : (u.axis n).mode.takes = true)
    (hbrake : u.rb .axisCfg n 9 = true → (u.axis n).brakeRel = true) (hdue : (u.axis n).brkRelDue = none) :
    ∃ (plan : Plan) (reversing : Bool), u.MovesAs (v.startQueue n cur) n
      { u.axis n with queue := q, origTarget := target, mode := .executing, plan := some plan, reversing := reversing, stallMask := false } := by
  obtain ⟨moves, regs, -⟩ := h
  have own := moves.1
  have plans : v.startQueue n cur = v.planAxis n cur := by
    rw [State.startQueue_released (by rw [own, State.rb_congr regs]; exact hbrake), own, hdue]
    rfl
  obtain ⟨plan, reversing, planned⟩ := State.planAxis_movesAs (s := v) (n := n) (by rw [own]; exact hq) cur
  have notHoming : (u.axis n).mode ≠ .homing := fun hm => by rw [hm] at htakes; exact Bool.false_ne_true htakes
  rw [own, if_neg notHoming] at planned
  exact ⟨plan, reversing, plans ▸ moves.trans planned⟩

/-- A brake that is applied is energised, and the queue waits for it. -/
theorem State.Queues.releases (hcfg : u.rb .axisCfg n 9 = true) (hbrake : (u.axis n).brakeRel = false) :
    u.MovesAs (v.startQueue n cur) n
      { u.axis n with queue := q, origTarget := target, mode := .holding, brakeRel := true, brkAppDue := none,
                      brkRelDue := some (u.lt + ms (u.rf .axisBrake n 23 16)) } := by
  obtain ⟨moves, regs, time⟩ := h
  have own := moves.1
  rw [State.startQueue_releases (by rwa [State.rb_congr regs]) (by rwa [own]), own, State.rf_congr regs, State.lt_congr time]
  exact moves.trans (v.setAxis_movesAs n _)

/-- A brake that is being released is waited for. -/
theorem State.Queues.waits (hbrake : u.rb .axisCfg n 9 = true → (u.axis n).brakeRel = true) (hdue : (u.axis n).brkRelDue ≠ none) :
    u.MovesAs (v.startQueue n cur) n { u.axis n with queue := q, origTarget := target } := by
  obtain ⟨moves, regs, -⟩ := h
  have own := moves.1
  rw [State.startQueue_released (by rw [own, State.rb_congr regs]; exact hbrake), own, if_pos (Option.isSome_iff_ne_none.2 hdue)]
  exact moves

end Queued

/-! ### Which push is rejected (R192) -/

section Push

variable {s : State} {n : Nat} {append : Bool}

theorem State.pushReject_mode (h : (s.axis n).mode.takes = false) : s.pushReject n append = some 2 := by
  simp [State.pushReject, h]

theorem State.pushReject_full (h : (s.axis n).mode.takes = true) (hfull : 8 ≤ (s.axis n).queue.length) : s.pushReject n true = some 1 := by
  simp [State.pushReject, h, hfull]

section Room

variable (h : (s.axis n).mode.takes = true) (hroom : append = true → (s.axis n).queue.length < 8)
include h hroom

/-- A push that finds room is judged by its target alone. -/
theorem State.pushReject_room :
    s.pushReject n append = if !(s.axis n).referenced && !s.inRange n (s.staged n).tgt then some 3 else none := by
  have room : (append && decide (8 ≤ (s.axis n).queue.length)) = false := by simpa using hroom
  unfold State.pushReject
  dsimp only
  rw [h, room]
  rfl

theorem State.pushReject_range (href : (s.axis n).referenced = false) (hrange : s.inRange n (s.staged n).tgt = false) :
    s.pushReject n append = some 3 := by
  rw [State.pushReject_room h hroom, href, hrange]
  rfl

theorem State.pushReject_none (hok : (s.axis n).referenced = true ∨ s.inRange n (s.staged n).tgt = true) : s.pushReject n append = none := by
  rw [State.pushReject_room h hroom, if_neg]
  rcases hok with hok | hok <;> simp [hok]

end Room

/-- A rejected push leaves its reason and the event, and nothing else (R192). -/
theorem State.rejectSeg_rejects (s : State) (n c : Nat) : s.MovesAs (s.rejectSeg n c) n { s.axis n with reject := c } ∧
    (s.rejectSeg n c).rcd = (s.raise 0x5008 n [BitVec.ofNat 8 c]).rcd := by
  have record : s.SameRecord (s.setAxis n { s.axis n with reject := c }) := ⟨rfl, rfl, rfl, rfl, rfl⟩
  exact ⟨(s.setAxis_movesAs n _).then (State.raise_axes _ _ _ _), record.raiseBody _ _⟩

theorem State.appendSeg_rejects {c : Nat} (h : s.pushReject n true = some c) : s.appendSeg n = s.rejectSeg n c := by
  rw [State.appendSeg, h]

theorem State.replacePush_rejects {c : Nat} (h : s.pushReject n false = some c) : s.replacePush n = s.rejectSeg n c := by
  rw [State.replacePush, h]

/-- A segment to where the axis goes already completes at once. -/
theorem State.appendSeg_completes (h : s.pushReject n true = none) (ht : (s.staged n).tgt = (s.axis n).lastTarget) :
    s.MovesAs (s.appendSeg n) n { s.axis n with segDone := ((s.axis n).segDone + 1) % 65536 } := by
  rw [State.appendSeg, h]
  dsimp only
  rw [if_pos ht]
  exact s.setAxis_movesAs n _

/-- Any other segment goes to the tail, and the queue starts. -/
theorem State.appendSeg_queues (h : s.pushReject n true = none) (ht : (s.staged n).tgt ≠ (s.axis n).lastTarget) :
    ∃ v, s.Queues v n ((s.axis n).queue ++ [s.staged n]) (s.staged n).tgt ∧ s.appendSeg n = v.startQueue n (s.axis n).current_ := by
  rw [State.appendSeg, h]
  dsimp only
  rw [if_neg ht]
  exact ⟨_, ⟨s.setAxis_movesAs n _, rfl, rfl⟩, rfl⟩

theorem State.replacePush_completes (h : s.pushReject n false = none) (hrest : (s.axis n).kin.sign = 0)
    (ht : (s.staged n).tgt * 2 ^ 32 = (s.axis n).pos) : s.MovesAs (s.replacePush n) n
      { s.axis n with queue := [], plan := none, mode := .holding, segDone := ((s.axis n).segDone + 1) % 65536 } := by
  rw [State.replacePush, h]
  dsimp only
  rw [if_pos ⟨hrest, ht⟩]
  exact s.setAxis_movesAs n _

/-- A segment in place of everything queued starts from the present motion. -/
theorem State.replacePush_queues (h : s.pushReject n false = none)
    (hm : (s.axis n).kin.sign ≠ 0 ∨ (s.staged n).tgt * 2 ^ 32 ≠ (s.axis n).pos) :
    ∃ v, s.Queues v n [s.staged n] (s.staged n).tgt ∧ ∃ cur, s.replacePush n = v.startQueue n cur := by
  have moves : ¬((s.axis n).kin.sign = 0 ∧ (s.staged n).tgt * 2 ^ 32 = (s.axis n).pos) := fun ⟨h0, h1⟩ => hm.elim (· h0) (· h1)
  rw [State.replacePush, h]
  dsimp only
  rw [if_neg moves]
  have target := s.setAxis_movesAs n { s.axis n with origTarget := (s.staged n).tgt }
  have queue := State.setAxis_movesAs (s.setAxis n { s.axis n with origTarget := (s.staged n).tgt }) n
    { (s.setAxis n { s.axis n with origTarget := (s.staged n).tgt }).axis n with queue := [s.staged n] }
  rw [target.1] at queue
  unfold State.replaceSeg
  rw [State.modAxis_eq, target.1]
  exact ⟨_, ⟨target.trans queue, rfl, rfl⟩, _, rfl⟩

end Push

/-! ### The commands (R223) -/

section Port

variable {s : State} {n : Fin 64} {m : Nat} (hd : s.domain (if n.val < 32 then 2 else 3) = true) (hm : s.mayAccess m false = true)
include hd hm

theorem State.putReg_append : s.putReg m .axisSegCtrl n 0 = s.afterInputs.appendSeg n :=
  s.putReg_effect m .axisSegCtrl n 0 _ (axisSegCtrl_at n) hd hm (by decide) nofun (by decide) rfl

theorem State.putReg_replace : s.putReg m .axisSegCtrl n 1 = s.afterInputs.replacePush n :=
  s.putReg_effect m .axisSegCtrl n 1 _ (axisSegCtrl_at n) hd hm (by decide) nofun (by decide) rfl

end Port

/-- Settles O33: each case of the rejection and of a push that is taken, by the lemma that says what the port then does. -/
theorem segmentPortFollowsItsRules : Obligations.SegmentPortFollowsItsRules := by
  intro s n m hm hd u x g only rejects starts
  let s0 : State := { s with outs := [] }
  have appends : ∀ {post : State → Prop}, post (u.appendSeg n) → Completes (.segAppend n m) s post := fun h =>
    completes_run (f := fun s => s.putReg m .axisSegCtrl n 0) rfl (by rwa [State.putReg_append (s := s0) hd hm])
  have replaces : ∀ {post : State → Prop}, post (u.replacePush n) → Completes (.segReplace n m) s post := fun h =>
    completes_run (f := fun s => s.putReg m .axisSegCtrl n 1) rfl (by rwa [State.putReg_replace (s := s0) hd hm])
  have rejected : ∀ r, u.MovesAs (u.rejectSeg n r) n { x with reject := r } ∧ (u.rejectSeg n r).rcd = (u.raise 0x5008 n [BitVec.ofNat 8 r]).rcd :=
    fun r => u.rejectSeg_rejects n r
  have appendRejects : ∀ {r}, u.pushReject n true = some r → rejects (.segAppend n m) r := fun h => appends (by
    obtain ⟨⟨own, others⟩, record⟩ := rejected _
    rw [State.appendSeg_rejects h]
    exact ⟨own, others, record⟩)
  have replaceRejects : ∀ {r}, u.pushReject n false = some r → rejects (.segReplace n m) r := fun h => replaces (by
    obtain ⟨⟨own, others⟩, record⟩ := rejected _
    rw [State.replacePush_rejects h]
    exact ⟨own, others, record⟩)
  have queued : ∀ {c : Instr} {t v : State} {q : List Seg} {cur : Seg}, x.mode.takes = true →
      (∀ {post : State → Prop}, post t → Completes c s post) → u.Queues v n q g.tgt → t = v.startQueue n cur → q ≠ [] → starts c q := by
    rintro c t v q cur htakes runs queues rfl hq
    refine ⟨fun hbrake hdue => runs ?_, fun hcfg hbrake => runs ?_, fun hbrake hdue => runs ?_⟩
    · obtain ⟨plan, reversing, own, others⟩ := queues.executes cur hq htakes hbrake hdue
      rw [own]
      exact ⟨⟨rfl, rfl, rfl, rfl⟩, others⟩
    · obtain ⟨own, others⟩ := queues.releases cur hcfg hbrake
      rw [own]
      exact ⟨⟨rfl, rfl, rfl, rfl, rfl⟩, others⟩
    · exact queues.waits cur hbrake hdue
  refine ⟨fun htakes => ⟨appendRejects (State.pushReject_mode htakes), replaceRejects (State.pushReject_mode htakes)⟩,
    fun htakes hfull => appendRejects (State.pushReject_full htakes hfull), fun htakes href hrange => ?outOfRange, fun htakes hok => ?taken⟩
  case outOfRange =>
    exact ⟨replaceRejects (State.pushReject_range htakes nofun href hrange),
      fun hroom => appendRejects (State.pushReject_range htakes (fun _ => hroom) href hrange)⟩
  case taken =>
    have appended : x.queue.length < 8 → u.pushReject n true = none := fun hroom => State.pushReject_none htakes (fun _ => hroom) hok
    have replaced : u.pushReject n false = none := State.pushReject_none htakes nofun hok
    refine ⟨fun hroom ht => appends (State.appendSeg_completes (appended hroom) ht), fun hroom ht => ?_,
      fun hrest ht => replaces (State.replacePush_completes replaced hrest ht), fun hmoves => ?_⟩
    · obtain ⟨v, queues, runs⟩ := State.appendSeg_queues (appended hroom) ht
      exact queued htakes appends queues runs (by simp)
    · obtain ⟨v, queues, cur, runs⟩ := State.replacePush_queues replaced hmoves
      exact queued htakes replaces queues runs (by simp)

end Sys2Proof.Machine
end

section
/-!
PROOFS. Axes that stop and fault (R201, R202, R206, R212, R214, R217, R218, R227): emergency deceleration, the conditions that fault an axis, and
the commands STOP and CLEAR.
-/
namespace Sys2Proof.Machine
open Sys2Proof

/-! ### Emergency deceleration (R201, R202) -/

section Emergency

variable {s : State} {n : Nat}

/-- Without torque there is nothing to decelerate; a fault applies the brake. -/
theorem State.emergencyStop_off (h : (s.axis n).mode = .off) (c : EmgCause) :
    s.emergencyStop n c = if c = .fault then s.torqueOffNow n else s := by
  unfold State.emergencyStop
  dsimp only
  rw [h]

/-- A second cause leaves the profile unchanged; a fault decides what follows at rest. -/
theorem State.emergencyStop_again (h : (s.axis n).mode = .emergency) (c : EmgCause) :
    s.emergencyStop n c = if c = .fault then s.setAxis n { s.axis n with emg := .fault, pending := none } else s := by
  unfold State.emergencyStop
  dsimp only
  rw [h]

theorem State.emergencyStop_starts (hoff : (s.axis n).mode ≠ .off) (hemg : (s.axis n).mode ≠ .emergency) (c : EmgCause) : ∃ plan : Plan,
    s.MovesAs (s.emergencyStop n c) n
      { s.axis n with mode := .emergency, queue := [], pending := if c.keepsPending then (s.axis n).pending else none, emg := c,
                      reversing := false, loadHold := false, stallMask := c == .tripReopen || c == .tripStop, stallFe := none,
                      stallCur := none, plan := some plan } := by
  unfold State.emergencyStop
  dsimp only
  split
  case h_1 h => exact absurd h hoff
  case h_2 h => exact absurd h hemg
  case h_3 => exact ⟨_, s.setAxis_movesAs n _⟩

end Emergency

/-! ### Faults (R202) -/

/-- `y` is `x` as a fault stops it: an axis with torque decelerates, and one without it has its brake applied. The note of the fault and the
inputs that chatter is watched on are not touched. -/
structure Axis.HaltsAs (x y : Axis) : Prop where
  fault : y.fault = x.fault
  cause : y.faultCause = x.faultCause
  stops : x.mode ≠ .off → y.mode = .emergency ∧ y.emg = .fault ∧ y.queue = if x.mode = .emergency then x.queue else []
  off : x.mode = .off → y.mode = .off ∧ y.brakeRel = false
  inputs : ∀ k, y.chatter k = x.chatter k

theorem State.emergencyStop_halts (s : State) (n : Nat) : ∃ y, s.MovesAs (s.emergencyStop n .fault) n y ∧ (s.axis n).HaltsAs y := by
  by_cases hoff : (s.axis n).mode = .off
  · rw [State.emergencyStop_off hoff, if_pos rfl]
    exact ⟨_, s.setAxis_movesAs n _, rfl, rfl, fun h => absurd hoff h, fun _ => ⟨rfl, rfl⟩, fun _ => rfl⟩
  · by_cases hemg : (s.axis n).mode = .emergency
    · rw [State.emergencyStop_again hemg, if_pos rfl]
      exact ⟨_, s.setAxis_movesAs n _, rfl, rfl, fun _ => ⟨hemg, rfl, (if_pos hemg).symm⟩, fun h => absurd h hoff, fun _ => rfl⟩
    · obtain ⟨plan, moves⟩ := State.emergencyStop_starts hoff hemg .fault
      exact ⟨_, moves, rfl, rfl, fun _ => ⟨rfl, rfl, (if_neg hemg).symm⟩, fun h => absurd h hoff, fun _ => rfl⟩

/-- An axis with a fault noted: the first cause is kept. -/
def Axis.faulted (x : Axis) (cause : Nat) : Axis := { x with fault := true, faultCause := if x.fault then x.faultCause else cause }

/-- In `t` axis `n` of `s` has faulted and stops, and every other is as it was. -/
def State.Faults (s t : State) (n cause : Nat) : Prop := ∃ y, s.MovesAs t n y ∧ ((s.axis n).faulted cause).HaltsAs y

theorem State.faultAxis_faults (s : State) (n c : Nat) : s.Faults (s.faultAxis n c) n c := by
  obtain ⟨y, moves, halts⟩ := (s.setAxis n ((s.axis n).faulted c)).emergencyStop_halts n
  have marked := s.setAxis_movesAs n ((s.axis n).faulted c)
  rw [marked.1] at halts
  exact ⟨y, marked.trans moves, halts⟩

section Faulted

variable {s t u : State} {n cause : Nat}

/-- Operations that change no axis may follow. -/
theorem State.Faults.then (h : s.Faults u n cause) (haxes : t.axes = u.axes) : s.Faults t n cause :=
  let ⟨y, moves, halts⟩ := h
  ⟨y, moves.then haxes, halts⟩

/-- Operations that change no axis may come first. -/
theorem State.Faults.after (h : u.Faults t n cause) (haxes : u.axes = s.axes) : s.Faults t n cause := by
  have same : ∀ k, u.axis k = s.axis k := fun k => by rw [State.axis, State.axis, haxes]
  obtain ⟨y, ⟨own, others⟩, halts⟩ := h
  rw [same n] at halts
  exact ⟨y, ⟨own, fun k hk => (others k hk).trans (same k)⟩, halts⟩

/-- An event and a counter go with each fault. -/
theorem State.raise_faultAxis_faults (s : State) (n code inst cause : Nat) (vals : List Byte) :
    s.Faults ((s.raise code inst vals).faultAxis n cause) n cause :=
  (State.faultAxis_faults _ n cause).after (State.raise_axes _ _ _ _)

end Faulted

section Conditions

variable {s : State} {n : Nat}

/-- A stall that has held for STALL_T (R206). -/
theorem State.stall_faults {current : Bool} {t0 : Ticks} (h : (if current then (s.axis n).stallCur else (s.axis n).stallFe) = some t0) :
    s.Faults (s.stall n current) n 1 ∧ t0 + ms (s.rf .axisStall n 23 16) ≤ (s.stall n current).time.lt := by
  unfold State.stall
  dsimp only
  rw [h]
  dsimp only
  refine ⟨((State.raise_faultAxis_faults _ n _ _ 1 _).after (State.passTo_axes s _)).then (State.count_axes _ _ _), ?_⟩
  rw [State.count_time, (State.faultAxis_frame (w := Part.axes) rfl (Frame.refl _ _)).time rfl, State.raise_time]
  exact State.le_passTo_lt s _

/-- A limit trip outside homing (R217). -/
theorem State.limitTrip_faults {opening : Bool} (hoff : (s.axis n).mode ≠ .off) (hhomes : (s.axis n).homes = false)
    (hactive : s.limitActive n opening = true) : s.Faults (s.limitTrip n opening) n 2 := by
  unfold State.limitTrip
  rw [when_of (by simp [hactive, hoff, hhomes])]
  exact (State.raise_faultAxis_faults s n _ _ 2 _).then (State.count_axes _ _ _)

/-- Delayed steps beyond STEP_LAG_MAX (R212). -/
theorem State.stepLagFault_faults (h : s.rf .axisStepTim n 23 16 < (s.axis n).stepLag) : s.Faults (s.stepLagFault n) n 5 := by
  unfold State.stepLagFault
  rw [when_of (decide_eq_true h)]
  exact State.raise_faultAxis_faults s n _ _ 5 _

/-- A limit input other than the home input ends an attempt of homing (R214). -/
theorem State.homeLimit_stops {opening : Bool} (hmode : (s.axis n).mode = .homing) (hactive : s.limitActive n opening = true)
    (hcode : s.limitCode n opening ≠ s.homeCode n) : s.homeLimit n opening = s.emergencyStop n .homingRetry := by
  unfold State.homeLimit
  rw [when_of (by simp [hmode, hactive, hcode])]

end Conditions

/-! ### STOP (R227) -/

section Stop

variable {s : State} {n : Nat}

theorem State.stopAxis_emergency (s : State) (n : Nat) : s.stopAxis n true = s.emergencyStop n .stop := rfl

/-- STOP with EMG finds nothing to do without torque or in emergency deceleration. -/
theorem State.stopAxis_emergency_idle (h : (s.axis n).mode = .off ∨ (s.axis n).mode = .emergency) : s.stopAxis n true = s := by
  rw [State.stopAxis_emergency]
  rcases h with h | h
  · rw [State.emergencyStop_off h, if_neg (by decide)]
  · rw [State.emergencyStop_again h, if_neg (by decide)]

/-- STOP of an axis in motion stops it at the D of its present segment. -/
theorem State.stopAxis_plans (h : (s.axis n).mode = .executing ∨ (s.axis n).mode = .homing) :
    let x := s.axis n
    let l := s.limits n x.current_ (if x.kin.sign = 0 then 1 else x.kin.sign)
    s.stopAxis n false = s.setAxis n { x with queue := [], mode := .executing, plan := some (planStop x.kin l.d l.j) } := by
  unfold State.stopAxis
  dsimp only
  rw [if_neg Bool.false_ne_true]
  rcases h with h | h <;> rw [h]

theorem State.stopAxis_clears (hexec : (s.axis n).mode ≠ .executing) (hhoming : (s.axis n).mode ≠ .homing) :
    s.stopAxis n false = s.setAxis n { s.axis n with queue := [] } := by
  unfold State.stopAxis
  dsimp only
  rw [if_neg Bool.false_ne_true]
  split
  case h_1 h => exact absurd h hexec
  case h_2 h => exact absurd h hhoming
  case h_3 => rfl

end Stop

/-! ### Chatter (R218) -/

/-- A chatter fault whose input has been quiet for CHAT_WIN clears. -/
theorem Chatter.clear_quiet {c : Chatter} {now win : Ticks} (h : ∀ t0, c.last = some t0 → t0 + win ≤ now) : (c.clear now win).latched = false := by
  unfold Chatter.clear
  cases hl : c.last with
  | none => rfl
  | some t0 =>
    dsimp only
    split
    case isTrue => rfl
    case isFalse hkept => simpa [h t0 hl] using hkept

theorem Chatter.clear_restless {c : Chatter} {now win t0 : Ticks} (hl : c.last = some t0) (h : now < t0 + win) : c.clear now win = c := by
  unfold Chatter.clear
  rw [hl]
  exact if_neg fun ⟨_, quiet⟩ => absurd h (Nat.not_lt.2 quiet)

/-- The inputs of an axis after CLEAR. -/
theorem Axis.chatter_clear (x : Axis) (now win : Ticks) (k : Nat) :
    Axis.chatter { x with limClose := x.limClose.clear now win, limOpen := x.limOpen.clear now win, home := x.home.clear now win } k =
      (x.chatter k).clear now win := by
  unfold Axis.chatter
  split_ifs <;> rfl

theorem Axis.chatter_setChatter (x : Axis) (k : Nat) (c : Chatter) : (x.setChatter k c).chatter k = c := by
  unfold Axis.chatter Axis.setChatter
  split_ifs <;> rfl

theorem Axis.setChatter_keeps (x : Axis) (k : Nat) (c : Chatter) : (x.setChatter k c).mode = x.mode ∧ (x.setChatter k c).fault = x.fault ∧
    (x.setChatter k c).faultCause = x.faultCause := by
  unfold Axis.setChatter
  split_ifs <;> exact ⟨rfl, rfl, rfl⟩

/-- An axis that homes has torque. -/
theorem Axis.homes_on {x : Axis} (h : x.homes = true) : x.mode ≠ .off := by
  rintro hoff
  simp [Axis.homes, hoff] at h

section Chattering

variable {s : State} {n : Nat}

/-- CLEAR in FAULT or UNUSED clears the inputs of the axis. -/
theorem State.clearChatter_clears (hst : (s.portal (n / 4)).st = .fault ∨ (s.portal (n / 4)).st = .unused) :
    ∃ y, s.MovesAs (s.clearChatter n) n y ∧ ∀ k, y.chatter k = ((s.axis n).chatter k).clear s.lt (ms (s.rf .axisChatter n 23 8)) := by
  unfold State.clearChatter
  dsimp only
  rw [when_of (by rcases hst with h | h <;> rw [h] <;> rfl)]
  exact ⟨_, s.setAxis_movesAs n _, fun k => Axis.chatter_clear _ _ _ k⟩

/-- CLEAR is ignored in any other state of the portal. -/
theorem State.clearChatter_refused (hfault : (s.portal (n / 4)).st ≠ .fault) (hunused : (s.portal (n / 4)).st ≠ .unused) :
    s.clearChatter n = s := by
  unfold State.clearChatter
  dsimp only
  rw [when_not (by simp [hfault, hunused])]

/-- A chatter fault latches; the axis that homes faults too (R214). -/
theorem State.chatterFault_latches {k : Nat} (hcount : s.rf .axisChatter n 7 0 < s.chatterCount n k)
    (hlatched : ((s.axis n).chatter k).latched = false) : ∃ y, s.MovesAs (s.chatterFault n k) n y ∧ (y.chatter k).latched = true ∧
      ((s.axis n).homes = false → y.mode = (s.axis n).mode ∧ y.fault = (s.axis n).fault) ∧
      ((s.axis n).homes = true → y.fault = true ∧ y.mode = .emergency ∧
        y.faultCause = if (s.axis n).fault then (s.axis n).faultCause else 4) := by
  let x : Axis := (s.axis n).setChatter k { (s.axis n).chatter k with latched := true }
  let v : State := (s.setAxis n x).raise 0x5006 n
  have latched : (x.chatter k).latched = true := congrArg Chatter.latched (Axis.chatter_setChatter _ _ _)
  obtain ⟨mode, fault, cause⟩ : x.mode = (s.axis n).mode ∧ x.fault = (s.axis n).fault ∧ x.faultCause = (s.axis n).faultCause :=
    Axis.setChatter_keeps _ _ _
  have moves : s.MovesAs v n x := (s.setAxis_movesAs n x).then (State.raise_axes _ _ _ _)
  have acts : s.chatterFault n k = if (s.axis n).homes then (v.faultAxis n 4).raise 0x5005 n else v := by
    unfold State.chatterFault
    rw [when_of (by simp [hcount, hlatched])]
    rfl
  cases hhomes : (s.axis n).homes with
  | false =>
    rw [acts, hhomes, if_neg Bool.false_ne_true]
    exact ⟨x, moves, latched, fun _ => ⟨mode, fault⟩, nofun⟩
  | true =>
    obtain ⟨y, faulted, halts⟩ := v.faultAxis_faults n 4
    rw [moves.1] at halts
    obtain ⟨hfault, hcause, stops, -, inputs⟩ := halts
    rw [acts, hhomes, if_pos rfl]
    refine ⟨y, (moves.trans faulted).then (State.raise_axes _ _ _ _), ?_, nofun, fun _ => ⟨hfault, ?_, ?_⟩⟩
    · rw [inputs]
      exact latched
    · exact (stops (fun h => Axis.homes_on hhomes (mode.symm.trans h))).1
    · rw [hcause, Axis.faulted, fault, cause]

end Chattering

/-! ### The commands -/

section Command

variable {s : State} {n : Fin 64} {m : Fin 6} (hd : s.domain (if n.val < 32 then 2 else 3) = true) (hm : s.mayAccess m false = true)
  {post : State → Prop}
include hd hm

/-- STOP is written with its EMG bit, and finds what the engines have left at the input instant. -/
theorem completes_axisStop {emg : Bool} (h : post (State.stopAxis (State.afterInputs { s with outs := [] }) n emg)) :
    Completes (.axisStop n emg m) s post := by
  let s0 : State := { s with outs := [] }
  have accepted : writeOk .axisCmd n 0 (BitVec.ofNat 32 (1 + 8 * b2n emg)) = true := by cases emg <;> rfl
  have effect : s0.effect .axisCmd n 0 (BitVec.ofNat 32 (1 + 8 * b2n emg)) = s0.afterInputs.stopAxis n emg := by cases emg <;> rfl
  refine completes_run (f := fun s => s.putReg m .axisCmd n (BitVec.ofNat 32 (1 + 8 * b2n emg))) rfl ?_
  rw [s0.putReg_effect m .axisCmd n _ _ (axisCmd_at n) hd hm (by decide) nofun (by decide) accepted, effect]
  exact h

theorem completes_axisClear (h : post (State.clearChatter { s with outs := [] } n)) : Completes (.axisClear n m) s post := by
  have clears : State.putReg { s with outs := [] } m .axisCmd n 2 = State.clearChatter { s with outs := [] } n :=
    State.putReg_effect _ m .axisCmd n 2 _ (axisCmd_at n) hd hm (by decide) nofun (by decide) rfl
  refine completes_run (f := fun s => s.putReg m .axisCmd n 2) rfl ?_
  rw [clears]
  exact h

end Command

theorem State.afterInputs_regs (s : State) : s.afterInputs.regs = s.regs :=
  (State.afterInputs_frame (w := Part.rcd ||| Part.cnt ||| Part.time ||| Part.portals ||| Part.obs ||| Part.axes ||| Part.outs) rfl
    (Frame.refl _ s)).regs rfl

/-- Settles O34: each command by the lemma that says what its operation does to the axis. -/
theorem axesStopAndFault : Obligations.AxesStopAndFault := by
  intro s n x u z only after faulted
  let s0 : State := { s with outs := [] }
  have faults : ∀ {b t : State} {cause : Nat} {at_ : Ticks}, b.Faults t n cause → at_ ≤ t.time.lt →
      faulted (b.axis n) cause at_ t (t.axis n) ∧ ∀ k, k ≠ n.val → t.axis k = b.axis k := by
    rintro b t cause at_ ⟨y, ⟨rfl, others⟩, fault, first, stops, off, -⟩ hat
    exact ⟨⟨fault, first, hat, stops, off⟩, others⟩
  refine ⟨fun current t0 h => ?stall, fun opening hoff hhomes hactive => ?limit, fun h => ?stepLag, fun m hm hd =>
    ⟨fun hoff hemg => ?emergency, fun h => ?idle, fun h => ?plans, fun hexec hhoming => ?clears,
      fun hst k => ⟨fun hquiet => ?quiet, fun t0 hl hlate => ?restless⟩, fun hfault hunused => ?refused⟩,
    fun k hcount hlatched => ?chatter, fun opening hmode hactive hcode => ?homeLimit⟩
  case stall =>
    obtain ⟨stalls, time⟩ := State.stall_faults (s := u) h
    rw [State.rf_congr (State.afterInputs_regs s0)] at time
    exact completes_run (f := fun s => s.afterInputs.stall n current) rfl (faults stalls time)
  case limit =>
    exact completes_run (f := fun s => s.afterInputs.limitTrip n opening) rfl (faults (State.limitTrip_faults hoff hhomes hactive) (Nat.zero_le _))
  case stepLag =>
    exact completes_run (f := fun s => s.stepLagFault n) rfl (faults (State.stepLagFault_faults (s := s0) h) (Nat.zero_le _))
  case chatter =>
    obtain ⟨_, ⟨rfl, others⟩, latches⟩ := State.chatterFault_latches (s := s0) hcount hlatched
    exact completes_run (f := fun s => s.chatterFault n k) rfl ⟨latches, others⟩
  case homeLimit =>
    obtain ⟨plan, own, others⟩ := State.emergencyStop_starts (s := u) (n := n) (fun h => by rw [hmode] at h; cases h)
      (fun h => by rw [hmode] at h; cases h) .homingRetry
    refine completes_run (f := fun s => s.afterInputs.homeLimit n opening) rfl ?_
    rw [State.homeLimit_stops (s := u) hmode hactive hcode, own]
    exact ⟨⟨rfl, rfl⟩, others⟩
  case emergency =>
    obtain ⟨plan, own, others⟩ := State.emergencyStop_starts (s := u) hoff hemg .stop
    exact completes_axisStop hd hm (by rw [State.stopAxis_emergency, own]; exact ⟨⟨rfl, rfl, rfl, rfl⟩, others⟩)
  case idle => exact completes_axisStop hd hm (by rw [State.stopAxis_emergency_idle h]; exact ⟨rfl, fun _ _ => rfl⟩)
  case plans => exact completes_axisStop hd hm (by rw [State.stopAxis_plans h]; exact u.setAxis_movesAs n _)
  case clears => exact completes_axisStop hd hm (by rw [State.stopAxis_clears hexec hhoming]; exact u.setAxis_movesAs n _)
  case quiet =>
    obtain ⟨_, ⟨rfl, others⟩, inputs⟩ := State.clearChatter_clears (s := s0) hst
    exact completes_axisClear hd hm ⟨(congrArg Chatter.latched (inputs k)).trans (Chatter.clear_quiet hquiet), others⟩
  case restless =>
    obtain ⟨_, ⟨rfl, others⟩, inputs⟩ := State.clearChatter_clears (s := s0) hst
    exact completes_axisClear hd hm ⟨(inputs k).trans (Chatter.clear_restless hl hlate), others⟩
  case refused => exact completes_axisClear hd hm (by rw [State.clearChatter_refused (s := s0) hfault hunused]; exact ⟨rfl, fun _ _ => rfl⟩)

end Sys2Proof.Machine
end

section
/-!
PROOFS. What the operations of a feedback port share (R232, R245 to R247, R257 to R262): the count that P is read from, and what counting, the
comparator and the divided output leave of a port.
-/
namespace Sys2Proof.Machine
open Sys2Proof

/-! ### Signed numbers of 32 bits -/

theorem signedOf_wrapTo {i : Int} (lo : -(2 ^ 31) ≤ i) (hi : i < 2 ^ 31) : signedOf 32 (wrapTo 32 i) = i := by
  unfold signedOf wrapTo
  split <;> omega

theorem wrapTo_signedOf_add (n : Nat) (d : Int) : wrapTo 32 (signedOf 32 n + d) = wrapTo 32 ((n : Int) + d) := by
  unfold signedOf wrapTo
  split <;> omega

theorem sword_bounds (v : Word) : -(2 ^ 31) ≤ sword v ∧ sword v < 2 ^ 31 := by
  unfold sword signedOf
  split <;> omega

/-! ### P (R232) -/

/-- P as a port with the count of `f` has it. -/
def State.countOf (s : State) (m : Nat) (f : FbPort) : Int := if s.fbWrapEn m then f.rev * s.fbWrapLen m + f.pos else signedOf 32 f.count

theorem State.fbPos_eq_countOf (s : State) (m : Nat) : s.fbPos m = s.countOf m (s.fbp m) := rfl

theorem State.fbPos_of_reg {s t : State} {m : Nat} (hcfg : t.reg .fbCfg m = s.reg .fbCfg m) (hwrap : t.reg .fbWrap m = s.reg .fbWrap m) :
    t.fbPos m = s.countOf m (t.fbp m) := by
  have en : t.fbWrapEn m = s.fbWrapEn m := by rw [State.fbWrapEn, State.fbWrapEn, State.rb, State.rb, hcfg]
  have len : t.fbWrapLen m = s.fbWrapLen m := by rw [State.fbWrapLen, State.fbWrapLen, hwrap]
  rw [State.fbPos_eq_countOf, State.countOf, State.countOf, en, len]

theorem State.fbWrapLen_pos (s : State) (m : Nat) : 0 < s.fbWrapLen m := by
  unfold State.fbWrapLen
  dsimp only
  split <;> omega

/-- A count within revolutions of `w` counts that goes on by `d`, with its carry into the revolutions, is P gone on by `d` (R247). -/
theorem wrapped_count {rev pos d w : Int} (hw : 0 < w) (lo : -(2 ^ 31) ≤ rev * w + pos + d) (hi : rev * w + pos + d < 2 ^ 31) :
    signedOf 32 (wrapTo 32 (rev + (pos + d) / w)) * w + ((pos + d) % w).toNat = rev * w + pos + d := by
  have carried : rev + (pos + d) / w = (rev * w + pos + d) / w := by
    rw [Int.add_assoc (rev * w), Int.add_comm (rev * w), Int.add_mul_ediv_right _ _ hw.ne', Int.add_comm]
  have within : (pos + d) % w = (rev * w + pos + d) % w := by
    rw [Int.add_assoc (rev * w), Int.add_comm (rev * w), Int.add_mul_emod_self_right]
  have rlo : -(2 ^ 31) ≤ (rev * w + pos + d) / w := (Int.le_ediv_iff_mul_le hw).2 (by nlinarith)
  have rhi : (rev * w + pos + d) / w < 2 ^ 31 := Int.ediv_lt_of_lt_mul hw (by nlinarith)
  rw [carried, signedOf_wrapTo rlo rhi, Int.toNat_of_nonneg (Int.emod_nonneg _ hw.ne'), within, Int.mul_comm]
  exact Int.mul_ediv_add_emod _ w

/-! ### What an operation makes of one port -/

/-- In `t` port `m` is `f`, and every other is as it is in `s`. -/
def State.PortBecomes (s t : State) (m : Nat) (f : FbPort) : Prop := t.fbp m = f ∧ ∀ k, k ≠ m → t.fbp k = s.fbp k

section Becomes

variable {s u t : State} {m : Nat} {f g : FbPort}

theorem State.setFbp_becomes (s : State) (m : Nat) (f : FbPort) : s.PortBecomes (s.setFbp m f) m f :=
  ⟨by simp, fun k hk => by simp [hk]⟩

theorem State.PortBecomes.trans (h : s.PortBecomes u m f) (h' : u.PortBecomes t m g) : s.PortBecomes t m g :=
  ⟨h'.1, fun k hk => (h'.2 k hk).trans (h.2 k hk)⟩

/-- Operations that change no port may follow. -/
theorem State.PortBecomes.then (h : s.PortBecomes u m f) (hfb : t.fb = u.fb) : s.PortBecomes t m f :=
  ⟨(State.fbp_congr hfb m).trans h.1, fun k hk => (State.fbp_congr hfb k).trans (h.2 k hk)⟩

end Becomes

/-- `t` comes from `s` by operations on port `m` alone that leave what `π` reads of it, and the registers that P is read by. -/
structure State.PortKeeps {α : Type} (π : FbPort → α) (m : Nat) (s t : State) : Prop where
  others : ∀ k, k ≠ m → t.fbp k = s.fbp k
  port : π (t.fbp m) = π (s.fbp m)
  cfg : t.reg .fbCfg m = s.reg .fbCfg m
  wrap : t.reg .fbWrap m = s.reg .fbWrap m

section Keeps

variable {α β : Type} {π : FbPort → α} {m : Nat} {s u t : State}

theorem State.PortKeeps.refl (π : FbPort → α) (m : Nat) (s : State) : s.PortKeeps π m s := ⟨fun _ _ => rfl, rfl, rfl, rfl⟩

theorem State.PortKeeps.trans (h : State.PortKeeps π m s u) (h' : State.PortKeeps π m u t) : State.PortKeeps π m s t where
  others k hk := (h'.others k hk).trans (h.others k hk)
  port := h'.port.trans h.port
  cfg := h'.cfg.trans h.cfg
  wrap := h'.wrap.trans h.wrap

/-- What keeps more keeps less. -/
theorem State.PortKeeps.mono (g : α → β) (h : State.PortKeeps π m s t) : State.PortKeeps (fun f => g (π f)) m s t where
  others := h.others
  port := congrArg g h.port
  cfg := h.cfg
  wrap := h.wrap

theorem State.setFbp_keeps {f : FbPort} (h : π f = π (s.fbp m)) : State.PortKeeps π m s (s.setFbp m f) where
  others k hk := by simp [hk]
  port := by simpa using h
  cfg := rfl
  wrap := rfl

/-- Operations that change no port and no register. -/
theorem State.PortKeeps.of_parts (hfb : t.fb = s.fb) (hregs : t.regs = s.regs) : State.PortKeeps π m s t where
  others k _ := State.fbp_congr hfb k
  port := congrArg π (State.fbp_congr hfb m)
  cfg := by rw [State.reg, State.reg, hregs]
  wrap := by rw [State.reg, State.reg, hregs]

/-- P is read from the port by the same registers. -/
theorem State.PortKeeps.fbPos_eq (h : State.PortKeeps π m s t) : t.fbPos m = s.countOf m (t.fbp m) := State.fbPos_of_reg h.cfg h.wrap

end Keeps

/-- What P is read from. -/
def FbPort.counter (f : FbPort) : Nat × Nat × Int := (f.count, f.pos, f.rev)

theorem State.countOf_congr {f g : FbPort} (h : f.counter = g.counter) (s : State) (m : Nat) : s.countOf m f = s.countOf m g := by
  obtain ⟨count, pos, rev⟩ : f.count = g.count ∧ f.pos = g.pos ∧ f.rev = g.rev := by simpa [FbPort.counter] using h
  rw [State.countOf, State.countOf, count, pos, rev]

theorem State.PortKeeps.fbPos {s t : State} {m : Nat} (h : State.PortKeeps FbPort.counter m s t) : t.fbPos m = s.fbPos m :=
  h.fbPos_eq.trans (State.countOf_congr h.port s m)

theorem State.setFbp_fbPos {s : State} {m : Nat} {f : FbPort} (h : f.counter = (s.fbp m).counter) : (s.setFbp m f).fbPos m = s.fbPos m :=
  (State.setFbp_keeps h).fbPos

theorem State.fbPos_of_regs {s t : State} {m : Nat} (hregs : t.regs = s.regs) : t.fbPos m = s.countOf m (t.fbp m) :=
  State.fbPos_of_reg (by rw [State.reg, State.reg, hregs]) (by rw [State.reg, State.reg, hregs])

/-! ### What is set aside of a port -/

/-- A port without its comparator and its divided output (R257 to R261). -/
def FbPort.comparesAside (f : FbPort) : FbPort :=
  { f with cmpCfg := 0, cmpSpacing := 0, cmpNext := 0, cmpHits := 0, cmpSkip := 0, behind := false, cmpPulseEnd := none, crossed := false,
           divState := 0, divFree := 0 }

/-- A port without these and without its reversal hysteresis (R245). -/
def FbPort.hystAside (f : FbPort) : FbPort := { f.comparesAside with h := 0, dec := false }

/-- A port without these and without its count: what no count changes. -/
def FbPort.countAside (f : FbPort) : FbPort :=
  { f.hystAside with count := 0, pos := 0, rev := 0, ovf := false, rwrap := false, revOvf := false, winCount := 0 }

/-- The hysteresis is no part of the comparator. -/
theorem State.PortKeeps.hystAside {s t : State} {m : Nat} (h : State.PortKeeps FbPort.comparesAside m s t) :
    State.PortKeeps FbPort.hystAside m s t := h.mono (fun f => { f with h := 0, dec := false })

/-- What keeps the count keeps the rest. -/
theorem State.PortKeeps.countAside {s t : State} {m : Nat} (h : State.PortKeeps FbPort.hystAside m s t) :
    State.PortKeeps FbPort.countAside m s t :=
  h.mono (fun f => { f with count := 0, pos := 0, rev := 0, ovf := false, rwrap := false, revOvf := false, winCount := 0 })

/-! ### After a change of P (R245, R257, R260, R261) -/

theorem State.divCatch_keeps (s : State) (m : Nat) : State.PortKeeps FbPort.comparesAside m s (s.divCatch m) := by
  unfold State.divCatch
  split
  · extract_lets f w k s1
    have caught : State.PortKeeps FbPort.comparesAside m s s1 := State.setFbp_keeps rfl
    split
    · exact caught
    · exact caught.trans (State.PortKeeps.of_parts rfl rfl)
  · exact State.PortKeeps.refl _ m s

theorem FbPort.hyst_hystAside (f : FbPort) (p : Int) : (f.hyst p).hystAside = f.hystAside := by
  unfold FbPort.hyst
  split_ifs <;> rfl

theorem FbPort.crossing_hystAside (old new : FbPort) : (old.crossing new).hystAside = new.hystAside := by
  unfold FbPort.crossing
  split <;> rfl

theorem State.afterCount_keeps (s : State) (m : Nat) : State.PortKeeps FbPort.hystAside m s (s.afterCount m) := by
  unfold State.afterCount
  extract_lets s1 f0 f1 f2
  have loaded : f2.hystAside = f0.hystAside := by
    refine Eq.trans ?_ (f0.hyst_hystAside (s1.fbPos m))
    unfold f2
    split <;> rfl
  have noted : State.PortKeeps FbPort.hystAside m s1 (s1.setFbp m (f0.crossing f2)) :=
    State.setFbp_keeps ((FbPort.crossing_hystAside f0 f2).trans loaded)
  exact ((s.divCatch_keeps m).hystAside.trans noted).trans (State.divCatch_keeps _ m).hystAside

theorem State.afterCount_axes (s : State) (m : Nat) : (s.afterCount m).axes = s.axes :=
  (State.afterCount_frame (w := Part.fb ||| Part.outs) rfl (Frame.refl _ s)).axes rfl

/-! ### Counting (R232, R234, R246, R247) -/

section Count

variable {s : State} {m : Nat} {d : Int} (lo : -(2 ^ 31) ≤ s.fbPos m + d) (hi : s.fbPos m + d < 2 ^ 31)
include lo hi

/-- P in 32 bits counts on by `d`, and the port does not fault. -/
theorem State.addCount_counts : ∃ g : FbPort, s.addCount m d = s.setFbp m g ∧ g.countAside = (s.fbp m).countAside ∧
    s.countOf m g = s.fbPos m + d := by
  have stays : decide (s.fbPos m + d < -(2 ^ 31) ∨ 2 ^ 31 ≤ s.fbPos m + d) = false := decide_eq_false (by omega)
  have hw : (0 : Int) < s.fbWrapLen m := Int.natCast_pos.2 (s.fbWrapLen_pos m)
  unfold State.addCount
  extract_lets f p' out w t r f1 s1
  have hout : out = false := stays
  rw [hout, Bool.false_and, if_neg Bool.false_ne_true]
  refine ⟨f1, rfl, ?aside, ?count⟩
  case aside =>
    unfold f1
    split <;> rfl
  case count =>
    rw [State.fbPos_eq_countOf] at lo hi ⊢
    unfold State.countOf at lo hi ⊢
    unfold f1
    cases hen : s.fbWrapEn m with
    | false =>
      rw [hen, if_neg Bool.false_ne_true] at lo hi
      simp only [Bool.false_eq_true, if_false]
      rw [← wrapTo_signedOf_add, signedOf_wrapTo lo hi]
    | true =>
      rw [hen, if_pos rfl] at lo hi
      simp only [if_true]
      exact wrapped_count hw lo hi

/-- With its hysteresis, comparator and divided output, the port counts and the axes stay. -/
theorem State.addCount_afterCount : State.PortKeeps FbPort.countAside m s ((s.addCount m d).afterCount m) ∧
    ((s.addCount m d).afterCount m).fbPos m = s.fbPos m + d ∧ ((s.addCount m d).afterCount m).axes = s.axes := by
  obtain ⟨g, counts, aside, pos⟩ := State.addCount_counts lo hi
  have counted : State.PortKeeps FbPort.countAside m s (s.setFbp m g) := State.setFbp_keeps aside
  have after := State.afterCount_keeps (s.setFbp m g) m
  rw [counts]
  refine ⟨counted.trans after.countAside, (after.mono FbPort.counter :).fbPos.trans ?_, State.afterCount_axes _ m⟩
  rw [counted.fbPos_eq, State.fbp_setFbp, if_pos rfl]
  exact pos

end Count

/-- A change of P by `d` counts, where that leaves P in 32 bits, changes nothing but the count. -/
theorem State.countBy_counts {s : State} {m : Nat} {d : Int} (h : d ≠ 0 → -(2 ^ 31) ≤ s.fbPos m + d ∧ s.fbPos m + d < 2 ^ 31) :
    State.PortKeeps FbPort.countAside m s (s.countBy m d) ∧ (s.countBy m d).fbPos m = s.fbPos m + d := by
  unfold State.countBy
  split
  case isTrue zero => exact ⟨State.PortKeeps.refl _ m s, by rw [zero, Int.add_zero]⟩
  case isFalse moves =>
    obtain ⟨g, counts, aside, pos⟩ := State.addCount_counts (h moves).1 (h moves).2
    let g' : FbPort := { g with winCount := g.winCount + d }
    have sums : (s.addCount m d).modFbp m (fun f => { f with winCount := f.winCount + d }) = (s.setFbp m g).setFbp m g' := by
      rw [counts, State.modFbp_eq, State.fbp_setFbp, if_pos rfl]
    rw [sums]
    have counted : State.PortKeeps FbPort.countAside m s ((s.setFbp m g).setFbp m g') :=
      (State.setFbp_keeps aside).trans (State.setFbp_keeps (by rw [State.fbp_setFbp, if_pos rfl]; rfl))
    have after := State.afterCount_keeps ((s.setFbp m g).setFbp m g') m
    refine ⟨counted.trans after.countAside, ?_⟩
    rw [(after.mono FbPort.counter :).fbPos, counted.fbPos_eq, State.fbp_setFbp, if_pos rfl]
    exact pos

end Sys2Proof.Machine
end

section
/-!
PROOFS. How the count follows the encoder (R234, R236, R239, R243, R244, R250): filtered levels, transitions, SSI frames and speed windows.
-/
namespace Sys2Proof.Machine
open Sys2Proof

/-! ### The probe latches that waited for a sample (R255, R256) -/

/-- A port without what its probe has latched and what waits to be latched. -/
def FbPort.probeAside (f : FbPort) : FbPort :=
  { f with prbValid := false, prbPos := 0, prbLt := 0, evPrbOvr := false, prbWait := [] }

theorem State.edgeTrip_keeps (s : State) (n : Nat) (p : Int) : (s.edgeTrip n p).fb = s.fb ∧ (s.edgeTrip n p).regs = s.regs :=
  have trips := State.edgeTrip_frame (n := n) (pos := p) (w := Part.rcd ||| Part.cnt ||| Part.portals ||| Part.obs ||| Part.axes) rfl
    (Frame.refl _ s)
  ⟨trips.fb rfl, trips.regs rfl⟩

/-- A port takes a latch where none is unread, and notes one that is lost. -/
theorem State.probeLatch_becomes (s : State) (m : Nat) (p : Int) (lt : Ticks) : s.PortBecomes (s.probeLatch m p lt) m
    (if (s.fbp m).prbValid then { s.fbp m with evPrbOvr := true }
     else { s.fbp m with prbValid := true, prbPos := p, prbLt := (lt - s.time.ltBase) % 2 ^ 32 }) :=
  (s.setFbp_becomes m _).then (State.edgeTrip_keeps _ _ _).1

theorem State.probeLatch_keeps (s : State) (m : Nat) (p : Int) (lt : Ticks) : State.PortKeeps FbPort.probeAside m s (s.probeLatch m p lt) := by
  unfold State.probeLatch
  extract_lets f s1
  have latched : State.PortKeeps FbPort.probeAside m s s1 := State.setFbp_keeps (by split <;> rfl)
  obtain ⟨fb, regs⟩ := s1.edgeTrip_keeps (s.fedAxis m) p
  exact latched.trans (State.PortKeeps.of_parts fb regs)

theorem forEach_portKeeps {α β : Type} {π : FbPort → β} {m : Nat} {f : State → α → State} (hf : ∀ s x, State.PortKeeps π m s (f s x)) :
    ∀ (l : List α) (s : State), State.PortKeeps π m s (forEach l f s)
  | [], s => State.PortKeeps.refl π m s
  | x :: l, s => (hf s x).trans (forEach_portKeeps hf l (f s x))

theorem State.probeDue_keeps (s old : State) (m : Nat) : State.PortKeeps FbPort.probeAside m s (s.probeDue old m) := by
  unfold State.probeDue
  split
  · exact State.PortKeeps.refl _ m s
  · have emptied : State.PortKeeps FbPort.probeAside m s (s.setFbp m { s.fbp m with prbWait := [] }) := State.setFbp_keeps rfl
    exact emptied.trans (forEach_portKeeps (fun x w => x.probeLatch_keeps m _ _) _ _)

/-- Without a new sample or frame nothing is latched. -/
theorem State.probeDue_none {s old : State} {m : Nat} (h : (s.fbp m).sampleLt = (old.fbp m).sampleLt) : s.probeDue old m = s :=
  if_pos (Or.inr h)

/-! ### Levels and transitions (R234, R236) -/

section Levels

variable {s : State} {m : Nat}

/-- An illegal transition is counted and noted, and faults the port where ILL_MAX others lie in the 10 ms before it. -/
theorem State.fbIllegal_notes (hmode : s.fbMode m = 1 ∨ s.fbMode m = 2) : ∃ (v : State) (times : List Ticks),
    let f := s.fbp m
    s.PortBecomes v m { f with lineA := !f.lineA, lineB := !f.lineB, illCnt := satInc 65535 f.illCnt, illTimes := times, evIllegal := true } ∧
    v.regs = s.regs ∧ v.axes = s.axes ∧
    s.fbIllegal m = if s.rf .fbFilter m 23 16 ≤ (f.illTimes.filter (fun t => decide (s.lt < t + ms 10))).length then v.fbFault m 3 else v := by
  have narrower : ∀ t : Ticks, (decide (s.lt < t + ms 10) && decide (s.lt < t + ms 20)) = decide (s.lt < t + ms 10) := fun t => by
    have : ms 10 ≤ ms 20 := by decide
    simp only [← Bool.decide_and, decide_eq_decide]
    exact and_iff_left_of_imp fun h => h.trans_le (Nat.add_le_add_left this t)
  have now : decide (s.lt < s.lt + ms 10) = true := decide_eq_true (Nat.lt_add_of_pos_right (by decide))
  unfold State.fbIllegal
  rw [when_of (by simpa using hmode)]
  extract_lets f times s1 s2
  refine ⟨s2, times, ?_, ?_, ?_, ?_⟩
  · refine (s.setFbp_becomes m _).then ?_
    unfold s2
    split <;> simp [s1]
  · unfold s2
    split <;> simp [s1]
  · unfold s2
    split <;> simp [s1]
  · refine if_congr ?_ rfl rfl
    simp only [times, List.filter_append, List.filter_filter, narrower, List.filter_cons, now, if_true, List.filter_nil, List.length_append,
      List.length_singleton]
    exact Nat.lt_succ_iff

/-- With fewer of them the port only counts it, and P stays. -/
theorem State.fbIllegal_counts (hmode : s.fbMode m = 1 ∨ s.fbMode m = 2)
    (hfew : ((s.fbp m).illTimes.filter (fun t => decide (s.lt < t + ms 10))).length < s.rf .fbFilter m 23 16) :
    let t := s.fbIllegal m
    (t.fbPos m = s.fbPos m ∧ (t.fbp m).illCnt = satInc 65535 (s.fbp m).illCnt ∧ (t.fbp m).evIllegal = true ∧
      (t.fbp m).lineA = !(s.fbp m).lineA ∧ (t.fbp m).lineB = !(s.fbp m).lineB ∧ (t.fbp m).fault = (s.fbp m).fault) ∧
    (t.fbp m).sampleLt = (s.fbp m).sampleLt := by
  obtain ⟨v, times, ⟨own, -⟩, regs, -, acts⟩ := State.fbIllegal_notes hmode
  rw [if_neg (Nat.not_le.2 hfew)] at acts
  intro t
  rw [show t = v from acts, State.fbPos_of_regs regs, own]
  exact ⟨⟨rfl, rfl, rfl, rfl, rfl, rfl⟩, rfl⟩

section OneLine

variable {a b : Bool} (hline : (s.fbp m).lineA = a ∨ (s.fbp m).lineB = b)
include hline

theorem State.fbLines_counts (hmode : s.fbMode m = 1) : s.fbLines m a b =
    (s.setFbp m { s.fbp m with lineA := a, lineB := b }).countBy m (quadStep (s.fbp m).quad (quadState a b) * s.fbSign m) := by
  have single : ((s.fbp m).lineA != a && (s.fbp m).lineB != b) = false := by rcases hline with h | h <;> simp [h]
  unfold State.fbLines
  dsimp only
  rw [single, Bool.false_and, if_neg Bool.false_ne_true, if_pos hmode]

/-- In mode 1 the step goes into P (R234). -/
theorem State.fbLines_steps (hmode : s.fbMode m = 1) (lo : -(2 ^ 31) ≤ s.fbPos m + quadStep (s.fbp m).quad (quadState a b) * s.fbSign m)
    (hi : s.fbPos m + quadStep (s.fbp m).quad (quadState a b) * s.fbSign m < 2 ^ 31) :
    let t := s.fbLines m a b
    t.fbPos m = s.fbPos m + quadStep (s.fbp m).quad (quadState a b) * s.fbSign m ∧ (∀ k, k ≠ m → t.fbp k = s.fbp k) ∧
    (t.fbp m).lineA = a ∧ (t.fbp m).lineB = b ∧ (t.fbp m).sampleLt = (s.fbp m).sampleLt := by
  let g : FbPort := { s.fbp m with lineA := a, lineB := b }
  have read : (s.setFbp m g).fbPos m = s.fbPos m := State.setFbp_fbPos rfl
  rw [← read] at lo hi
  obtain ⟨keeps, pos⟩ := State.countBy_counts fun _ => ⟨lo, hi⟩
  have aside := keeps.port
  rw [State.fbp_setFbp, if_pos rfl] at aside
  intro t
  rw [show t = _ from State.fbLines_counts hline hmode, ← read]
  exact ⟨pos, fun k hk => (keeps.others k hk).trans ((s.setFbp_becomes m g).2 k hk), (congrArg FbPort.lineA aside :),
    (congrArg FbPort.lineB aside :), (congrArg FbPort.sampleLt aside :)⟩

theorem State.fbLines_coarse (hmode : s.fbMode m = 2) : s.PortBecomes (s.fbLines m a b) m
    { s.fbp m with lineA := a, lineB := b, coarse := (s.fbp m).coarse + quadStep (s.fbp m).quad (quadState a b) } := by
  have single : ((s.fbp m).lineA != a && (s.fbp m).lineB != b) = false := by rcases hline with h | h <;> simp [h]
  unfold State.fbLines
  dsimp only
  rw [single, Bool.false_and, if_neg Bool.false_ne_true, if_neg (by rw [hmode]; decide), if_pos hmode, State.modFbp_eq, State.fbp_setFbp, if_pos rfl]
  exact (s.setFbp_becomes m _).trans (State.setFbp_becomes _ m _)

end OneLine

/-- Both lines at once are an illegal transition. -/
theorem State.fbLines_illegal (hmode : s.fbMode m = 1 ∨ s.fbMode m = 2) : s.fbLines m (!(s.fbp m).lineA) (!(s.fbp m).lineB) = s.fbIllegal m := by
  have both : ((s.fbp m).lineA != !(s.fbp m).lineA && (s.fbp m).lineB != !(s.fbp m).lineB) = true := by simp
  unfold State.fbLines
  dsimp only
  rw [both, if_pos (by simpa using hmode)]

variable {a b : Bool} {held : Nat} {sample : Option (Int × Int)}

/-- Without a sample only the lines count. -/
theorem State.fbCount_lines (h : s.fbMode m ≠ 2 ∨ sample = none) (hheld : s.rf .fbFilter m 3 0 ≤ held) :
    s.fbCount m a b held sample = s.fbLines m a b := by
  unfold State.fbCount
  rw [if_pos hheld]
  cases sample with
  | none => rfl
  | some v => exact when_not (by simpa using h) _ _

/-- Levels that have not held for FILT clocks are dropped. -/
theorem State.fbCount_dropped (h : s.fbMode m ≠ 2 ∨ sample = none) (hheld : held < s.rf .fbFilter m 3 0) : s.fbCount m a b held sample = s := by
  unfold State.fbCount
  rw [if_neg (Nat.not_le.2 hheld)]
  cases sample with
  | none => rfl
  | some v => exact when_not (by simpa using h) _ _

end Levels

/-! ### SSI frames (R243, R244) -/

theorem FbPort.gone_eq (f : FbPort) (causes : List Nat) (now : Ticks) : ∃ c, f.gone causes now = { f with condGone := c } := by
  unfold FbPort.gone
  split
  · exact ⟨_, rfl⟩
  · exact ⟨f.condGone, rfl⟩

/-- By how many counts a frame moves P: its value less that of the last valid one. -/
def State.ssiMove (s : State) (m frame : Nat) : Int :=
  (match (s.fbp m).ssiV with
   | some w => signedOf (s.rf .fbSsi m 11 6) (wrapTo (s.rf .fbSsi m 11 6) ((s.ssiValue m frame : Int) - (w : Int)))
   | none => 0) * s.fbSign m

section Ssi

variable {s : State} {m frame : Nat}

theorem State.ssiJump_zero (h : s.ssiMove m frame = 0) : s.ssiJump m (s.ssiMove m frame) = false := by
  rw [h, State.ssiJump]
  simp

theorem State.ssiMove_first (h : (s.fbp m).ssiV = none) : s.ssiMove m frame = 0 := by
  unfold State.ssiMove
  rw [h]
  exact Int.zero_mul _

theorem State.ssiMove_later {v : Nat} (h : (s.fbp m).ssiV = some v) : s.ssiMove m frame =
    signedOf (s.rf .fbSsi m 11 6) (wrapTo (s.rf .fbSsi m 11 6) ((s.ssiValue m frame : Int) - (v : Int))) * s.fbSign m := by
  unfold State.ssiMove
  rw [h]

/-- A port after a frame in error. -/
def FbPort.ssiFailed (f : FbPort) : FbPort := { f with ssiErr := f.ssiErr + 1, ssiHeld := true, evHeld := true }

variable (hmode : s.fbMode m = 3)
include hmode

/-- A frame that fails its line check. -/
theorem State.ssiFrame_bad {high low : Bool} (h : high = false ∨ low = false) : s.ssiFrame m frame high low =
    if (s.fbp m).ssiErr = 0 then (s.setFbp m (s.fbp m).ssiFailed).raise 0x5014 m else (s.setFbp m (s.fbp m).ssiFailed).fbFault m 4 := by
  have bad : ∀ p : Bool, (!high || !low || p) = true := by rcases h with h | h <;> simp [h]
  unfold State.ssiFrame
  rw [when_of (by simpa using hmode)]
  dsimp only
  simp only [bad, Bool.true_or, if_true]
  rfl

variable (hparity : s.rb .fbSsi m 13 = false)
include hparity

/-- A frame that jumps. -/
theorem State.ssiFrame_jumps (hjump : s.ssiJump m (s.ssiMove m frame) = true) : s.ssiFrame m frame true true =
    if (s.fbp m).ssiErr = 0 then (s.setFbp m (s.fbp m).ssiFailed).raise 0x5014 m else (s.setFbp m (s.fbp m).ssiFailed).fbFault m 5 := by
  unfold State.ssiFrame
  rw [when_of (by simpa using hmode)]
  dsimp only
  rw [hparity]
  exact if_pos hjump

/-- A valid frame moves P, and the port latches it. -/
theorem State.ssiFrame_moves (hjump : s.ssiJump m (s.ssiMove m frame) = false)
    (hrange : s.ssiMove m frame ≠ 0 → -(2 ^ 31) ≤ s.fbPos m + s.ssiMove m frame ∧ s.fbPos m + s.ssiMove m frame < 2 ^ 31) :
    let t := s.ssiFrame m frame true true
    t.fbPos m = s.fbPos m + s.ssiMove m frame ∧ (t.fbp m).latch = s.fbPos m + s.ssiMove m frame ∧ (t.fbp m).ssiV = some (s.ssiValue m frame) ∧
    (t.fbp m).ssiRaw = s.ssiValue m frame ∧ (t.fbp m).ssiHeld = false ∧ (t.fbp m).ssiErr = 0 := by
  let v := s.ssiValue m frame
  let g : FbPort := { s.fbp m with ssiErr := 0, ssiHeld := false, ssiV := some v, ssiRaw := v, ssiGap := 0, sampleLt := s.lt }
  obtain ⟨c, cleared⟩ := g.gone_eq [4, 5] s.lt
  let f : FbPort := { g with condGone := c }
  let s1 : State := (s.setFbp m f).countBy m (s.ssiMove m frame)
  have takes : s.ssiFrame m frame true true = s1.setFbp m { s1.fbp m with latch := s1.fbPos m } := by
    unfold State.ssiFrame
    rw [when_of (by simpa using hmode)]
    dsimp only
    rw [hparity]
    refine (if_neg (ne_true_of_eq_false hjump)).trans ?_
    rw [show FbPort.gone _ _ _ = f from cleared]
    rfl
  have read : (s.setFbp m f).fbPos m = s.fbPos m := State.setFbp_fbPos rfl
  obtain ⟨keeps, pos⟩ : State.PortKeeps FbPort.countAside m (s.setFbp m f) s1 ∧ s1.fbPos m = s.fbPos m + s.ssiMove m frame := by
    rw [← read] at hrange ⊢
    exact State.countBy_counts hrange
  have aside : (s1.fbp m).countAside = f.countAside := by rw [keeps.port, State.fbp_setFbp, if_pos rfl]
  have latched : State.PortKeeps FbPort.counter m s1 (s1.setFbp m { s1.fbp m with latch := s1.fbPos m }) := State.setFbp_keeps rfl
  intro t
  rw [show t = _ from takes, latched.fbPos, State.fbp_setFbp, if_pos rfl]
  exact ⟨pos, pos, (congrArg FbPort.ssiV aside :), (congrArg FbPort.ssiRaw aside :), (congrArg FbPort.ssiHeld aside :),
    (congrArg FbPort.ssiErr aside :)⟩

/-- The probe latches that the frame brings leave this as it is. -/
theorem State.ssiFrame_moves_due (hjump : s.ssiJump m (s.ssiMove m frame) = false)
    (hrange : s.ssiMove m frame ≠ 0 → -(2 ^ 31) ≤ s.fbPos m + s.ssiMove m frame ∧ s.fbPos m + s.ssiMove m frame < 2 ^ 31) :
    let t := (s.ssiFrame m frame true true).probeDue s m
    t.fbPos m = s.fbPos m + s.ssiMove m frame ∧ (t.fbp m).latch = s.fbPos m + s.ssiMove m frame ∧ (t.fbp m).ssiV = some (s.ssiValue m frame) ∧
    (t.fbp m).ssiRaw = s.ssiValue m frame ∧ (t.fbp m).ssiHeld = false ∧ (t.fbp m).ssiErr = 0 := by
  obtain ⟨pos, latch, last, raw, valid, err⟩ := State.ssiFrame_moves hmode hparity hjump hrange
  have due := State.probeDue_keeps (s.ssiFrame m frame true true) s m
  exact ⟨(due.mono FbPort.counter :).fbPos.trans pos, (congrArg FbPort.latch due.port :).trans latch, (congrArg FbPort.ssiV due.port :).trans last,
    (congrArg FbPort.ssiRaw due.port :).trans raw, (congrArg FbPort.ssiHeld due.port :).trans valid, (congrArg FbPort.ssiErr due.port :).trans err⟩

end Ssi

/-! ### Speed windows (R250) -/

theorem State.speedWindow_ends {s : State} {m : Nat} {t0 : Ticks} (h : (s.fbp m).winStart = some t0) :
    let w := s.rf .fbSpeedWin m 16 0
    t0 + us w ≤ (s.speedWindow m).time.lt ∧ (s.speedWindow m).fbp m =
      { s.fbp m with speed := divTrunc ((s.fbp m).winCount * 1000000) w, winCount := 0, winStart := some (t0 + us w) } := by
  unfold State.speedWindow
  rw [h]
  dsimp only
  rw [State.modFbp_eq, State.fbp_setFbp, if_pos rfl, State.fbp_passTo]
  exact ⟨State.le_passTo_lt s _, rfl⟩

/-! ### The commands -/

section Command

variable {s t : State} {n : Fin 64} {post : State → Prop}

/-- Levels without a sample leave no probe latch due. -/
theorem completes_fbCount {a b : Bool} {held : Nat} {sample : Option (Int × Int)} (e : State.fbCount { s with outs := [] } n a b held sample = t)
    (same : (t.fbp n).sampleLt = (s.fbp n).sampleLt) (h : post t) : Completes (.fbCount n a b held sample) s post := by
  refine completes_run (f := fun s => (s.fbCount n a b held sample).probeDue s n) rfl ?_
  rw [e]
  exact (State.probeDue_none (old := { s with outs := [] }) same).symm ▸ h

/-- A frame in error leaves no probe latch due. -/
theorem completes_ssiFrame {frame : Nat} {high low : Bool} (e : State.ssiFrame { s with outs := [] } n frame high low = t)
    (same : (t.fbp n).sampleLt = (s.fbp n).sampleLt) (h : post t) : Completes (.ssiFrame n frame high low) s post := by
  refine completes_run (f := fun s => (s.ssiFrame n frame high low).probeDue s n) rfl ?_
  rw [e]
  exact (State.probeDue_none (old := { s with outs := [] }) same).symm ▸ h

end Command

/-- Settles O36: each case by the lemma that says what levels, a frame or a window do to the count. -/
theorem countsFollowTheEncoder : Obligations.CountsFollowTheEncoder := by
  intro s n f illegal
  let s0 : State := { s with outs := [] }
  refine ⟨fun a b held sample hmode hheld => ?dropped, fun a b held hmode hheld => ?droppedSin,
    fun a b held sample hmode hheld hline lo hi => ?step, fun a b held hmode hheld hline => ?coarse,
    fun hmode => ⟨fun hfew => ?illegal, fun held hheld hfew => ?illegalLevels⟩,
    fun frame hmode hparity => ⟨fun hfirst => ?first, fun v d hlast hd hjump lo hi => ?later, fun high low hbad herr => ?bad⟩,
    fun t0 hstart => ?window⟩
  case dropped => exact completes_fbCount (State.fbCount_dropped (s := s0) (Or.inl hmode) hheld) rfl rfl
  case droppedSin => exact completes_fbCount (State.fbCount_dropped (s := s0) (Or.inr rfl) hheld) rfl rfl
  case step =>
    have hsin : s0.fbMode n ≠ 2 := fun h => absurd (hmode.symm.trans h) (by decide)
    obtain ⟨pos, others, lineA, lineB, sample⟩ := State.fbLines_steps (s := s0) hline hmode lo hi
    exact completes_fbCount (State.fbCount_lines (s := s0) (Or.inl hsin) hheld) sample ⟨pos, lineA, lineB, others⟩
  case coarse =>
    obtain ⟨own, -⟩ := State.fbLines_coarse (s := s0) hline hmode
    exact completes_fbCount (State.fbCount_lines (s := s0) (Or.inr rfl) hheld) (by rw [own]; rfl) own
  case illegal => exact completes_run (f := fun s => s.fbIllegal n) rfl (State.fbIllegal_counts (s := s0) hmode hfew).1
  case illegalLevels =>
    obtain ⟨counts, sample⟩ := State.fbIllegal_counts (s := s0) hmode hfew
    exact completes_fbCount ((State.fbCount_lines (s := s0) (Or.inr rfl) hheld).trans (State.fbLines_illegal hmode)) sample counts
  case first =>
    have move : s0.ssiMove n frame = 0 := State.ssiMove_first hfirst
    obtain ⟨pos, -, last, -, -, err⟩ := State.ssiFrame_moves_due (s := s0) (frame := frame) hmode hparity (State.ssiJump_zero move)
      (fun h => absurd move h)
    rw [move, Int.add_zero] at pos
    exact completes_run (f := fun s => (s.ssiFrame n frame true true).probeDue s n) rfl ⟨pos, last, err⟩
  case later =>
    have move : s0.ssiMove n frame = d := (State.ssiMove_later (s := s0) hlast).trans hd.symm
    rw [← move] at hjump lo hi ⊢
    obtain ⟨pos, latch, last, raw, valid, -⟩ := State.ssiFrame_moves_due (s := s0) (frame := frame) hmode hparity hjump (fun _ => ⟨lo, hi⟩)
    exact completes_run (f := fun s => (s.ssiFrame n frame true true).probeDue s n) rfl ⟨pos, latch, last, raw, valid⟩
  case bad =>
    have own : ((s0.setFbp n f.ssiFailed).raise 0x5014 n).fbp n = f.ssiFailed := by simp
    refine completes_ssiFrame ((State.ssiFrame_bad (s := s0) hmode hbad).trans (if_pos herr)) (congrArg FbPort.sampleLt own :) (own.trans ?_)
    rw [FbPort.ssiFailed, herr]
  case window => exact completes_run (f := fun s => s.speedWindow n) rfl (State.speedWindow_ends (s := s0) hstart)

end Sys2Proof.Machine
end

section
/-!
PROOFS. Faults of the feedback ports (R236, R237, R240, R244, R262): each condition faults its port, and the axis that the port feeds.
-/
namespace Sys2Proof.Machine
open Sys2Proof

/-! ### A port fault (R262) -/

/-- In `t` port `m` of `s` has faulted with `cause` and the axis that it feeds with cause 8, and every other port is as it was. -/
structure State.PortFaults (s t : State) (m cause : Nat) : Prop where
  fault : (t.fbp m).fault = true
  cause : (t.fbp m).faultCause = cause
  others : ∀ k, k ≠ m → t.fbp k = s.fbp k
  axis : s.Faults t (s.fedAxis m) 8

section Fault

variable {s v : State} {m : Nat} {f : FbPort}

/-- A port without a fault takes one; what the operation before it made of the port does not matter. -/
theorem State.fbFault_faults (hport : s.PortBecomes v m f) (hregs : v.regs = s.regs) (haxes : v.axes = s.axes) (hf : f.fault = false) (c : Nat) :
    s.PortFaults (v.fbFault m c) m c ∧ ((v.fbFault m c).fbp m).sampleLt = f.sampleLt := by
  obtain ⟨own, others⟩ := hport
  let g : FbPort := { f with fault := true, faultCause := c, condGone := if c = 6 then some v.lt else none }
  let x : State := (v.setFbp m g).raise 0x5013 m (leBytes 1 c)
  have fed : v.fedAxis m = s.fedAxis m := by rw [State.fedAxis, State.fedAxis, State.rb_congr hregs, State.rf_congr hregs]
  have acts : v.fbFault m c = x.faultAxis (s.fedAxis m) 8 := by
    unfold State.fbFault
    dsimp only
    rw [own, hf, if_neg Bool.false_ne_true, State.modFbp_eq, own, fed]
  have ports : (x.faultAxis (s.fedAxis m) 8).fb = (v.setFbp m g).fb :=
    ((State.faultAxis_frame (w := Part.axes) rfl (Frame.refl _ x)).fb rfl).trans (State.raise_fb _ _ _ _)
  obtain ⟨taken, kept⟩ := (v.setFbp_becomes m g).then ports
  rw [acts]
  refine ⟨⟨by rw [taken], by rw [taken], fun k hk => (kept k hk).trans (others k hk), (x.faultAxis_faults _ 8).after ?_⟩, by rw [taken]⟩
  exact (State.raise_axes _ _ _ _).trans haxes

/-- Both lines at once, once more than ILL_MAX times within 10 ms (R236). -/
theorem State.fbIllegal_faults (hmode : s.fbMode m = 1 ∨ s.fbMode m = 2) (hf : (s.fbp m).fault = false)
    (hmany : s.rf .fbFilter m 23 16 ≤ ((s.fbp m).illTimes.filter (fun t => decide (s.lt < t + ms 10))).length) :
    s.PortFaults (s.fbIllegal m) m 3 ∧ ((s.fbIllegal m).fbp m).sampleLt = (s.fbp m).sampleLt := by
  obtain ⟨v, times, becomes, regs, axes, acts⟩ := State.fbIllegal_notes hmode
  rw [acts, if_pos hmany]
  exact State.fbFault_faults becomes regs axes hf 3

/-- A second frame in error (R244). -/
theorem State.ssiFailed_faults (hf : (s.fbp m).fault = false) (c : Nat) :
    s.PortFaults ((s.setFbp m (s.fbp m).ssiFailed).fbFault m c) m c ∧
    (((s.setFbp m (s.fbp m).ssiFailed).fbFault m c).fbp m).sampleLt = (s.fbp m).sampleLt :=
  State.fbFault_faults (s.setFbp_becomes m (s.fbp m).ssiFailed) rfl rfl hf c

end Fault

/-- Settles O37: each condition by the lemma that says that it faults the port. -/
theorem portFaultsFaultTheirAxis : Obligations.PortFaultsFaultTheirAxis := by
  intro s n hf faults
  let s0 : State := { s with outs := [] }
  have faulted : ∀ {t : State} {cause : Nat}, s0.PortFaults t n cause → (t.fbp n).fault = true ∧ (t.fbp n).faultCause = cause ∧
      (∀ k, k ≠ n.val → t.fbp k = s.fbp k) ∧ (t.axis (s.fedAxis n)).fault = true ∧
      (t.axis (s.fedAxis n)).faultCause = (if (s.axis (s.fedAxis n)).fault then (s.axis (s.fedAxis n)).faultCause else 8) ∧
      (∀ k, k ≠ s.fedAxis n → t.axis k = s.axis k) := by
    rintro t cause ⟨fault, first, others, _, ⟨rfl, axes⟩, halts⟩
    exact ⟨fault, first, others, halts.fault, halts.cause, axes⟩
  have runs : ∀ {c : Instr} {f : State → State} {t : State} {cause : Nat}, exec c s = run s f → f s0 = t → s0.PortFaults t n cause →
      faults c cause := fun he ht fault => completes_run he (ht ▸ faulted fault)
  have once : ∀ c, s0.PortFaults (s0.fbFault n c) n c := fun c =>
    (State.fbFault_faults (s := s0) ⟨rfl, fun _ _ => rfl⟩ rfl rfl hf c).1
  refine ⟨fun hmode hmany => ⟨?illegal, fun held hheld => ?illegalLevels⟩, fun hmode hdiff => ?broken, fun hmode hrun => ?amplitude,
    fun frame high low hmode herr hbad => ?bad, fun frame v hmode herr hparity hlast hjump => ?jump⟩
  case illegal => exact runs (f := fun s => s.fbIllegal n) rfl rfl (State.fbIllegal_faults (s := s0) hmode hf hmany).1
  case illegalLevels =>
    obtain ⟨fault, sample⟩ := State.fbIllegal_faults (s := s0) hmode hf hmany
    exact completes_fbCount ((State.fbCount_lines (s := s0) (Or.inr rfl) hheld).trans (State.fbLines_illegal hmode)) sample (faulted fault)
  case broken =>
    exact runs (f := fun s => s.fbLine n true) rfl
      (when_of (show (s.fbMode n != 0 && !s.rb .fbCfg n 2) = true by simp [hmode, hdiff]) _ _) (once 2)
  case amplitude =>
    exact runs (f := fun s => when_ (s.fbMode n == 2 && decide (8 ≤ (s.fbp n).amplRun)) (fun s => s.fbFault n 1) s) rfl
      (when_of (show (s.fbMode n == 2 && decide (8 ≤ (s.fbp n).amplRun)) = true by simp [hmode, hrun]) _ _) (once 1)
  case bad =>
    obtain ⟨fault, sample⟩ := State.ssiFailed_faults (s := s0) hf 4
    exact completes_ssiFrame ((State.ssiFrame_bad (s := s0) hmode hbad).trans (if_neg herr)) sample (faulted fault)
  case jump =>
    obtain ⟨fault, sample⟩ := State.ssiFailed_faults (s := s0) hf 5
    rw [← State.ssiMove_later hlast] at hjump
    exact completes_ssiFrame ((State.ssiFrame_jumps (s := s0) hmode hparity hjump).trans (if_neg herr)) sample (faulted fault)

end Sys2Proof.Machine
end

section
/-!
PROOFS. The registers of a feedback port (R232, R248, R249, R255, R257, R260, R265): what its writes and the two reads that act do.
-/
namespace Sys2Proof.Machine
open Sys2Proof

/-! ### The comparator (R257 to R260) -/

/-- The registers that P is read by are no compare registers. -/
theorem fbCfg_ne_fbCmpCfg (m : Nat) : regAddr .fbCfg m 0 ≠ regAddr .fbCmpCfg m 0 ∧ regAddr .fbWrap m 0 ≠ regAddr .fbCmpCfg m 0 := by
  have placed : regAddr .fbCfg m 0 = 0x40160000 + m * 0x200 + 0 * 0x100000 ∧ regAddr .fbWrap m 0 = 0x40160008 + m * 0x200 + 0 * 0x100000 ∧
      regAddr .fbCmpCfg m 0 = 0x40160030 + m * 0x200 + 0 * 0x100000 := ⟨rfl, rfl, rfl⟩
  omega

theorem State.setCmpCfg_keeps {α : Type} (π : FbPort → α) (s : State) (m : Nat) (v : Word) :
    State.PortKeeps π m s (s.setReg .fbCmpCfg m 0 v) where
  others _ _ := rfl
  port := rfl
  cfg := State.reg_setReg_ne s _ _ m 0 m 0 v (fbCfg_ne_fbCmpCfg m).1
  wrap := State.reg_setReg_ne s _ _ m 0 m 0 v (fbCfg_ne_fbCmpCfg m).2

theorem State.divHere_keeps (s : State) (m : Nat) : State.PortKeeps FbPort.comparesAside m s (s.divHere m) := by
  unfold State.divHere
  split
  · exact State.setFbp_keeps rfl
  · exact State.PortKeeps.refl _ m s

theorem State.cmpDisarm_keeps (s : State) (m : Nat) : State.PortKeeps FbPort.comparesAside m s (s.cmpDisarm m) := by
  unfold State.cmpDisarm
  extract_lets f s1
  have disarmed : State.PortKeeps FbPort.comparesAside m s s1 := State.setFbp_keeps rfl
  split
  · exact disarmed.trans (State.setCmpCfg_keeps _ s1 m _)
  · exact disarmed

theorem State.cmpAdvance_keeps (s : State) (m : Nat) (v : Int) (k sp : Nat) : State.PortKeeps FbPort.comparesAside m s (s.cmpAdvance m v k sp) := by
  unfold State.cmpAdvance
  extract_lets f up room d s1
  have advanced : State.PortKeeps FbPort.comparesAside m s s1 := State.setFbp_keeps rfl
  split
  · exact advanced
  · exact advanced.trans (State.cmpDisarm_keeps s1 m)

/-- The compare rule at a PSET (R249). -/
theorem State.cmpPos_keeps (s : State) (m : Nat) (v : Int) : State.PortKeeps FbPort.comparesAside m s (s.cmpPos m v false) := by
  unfold State.cmpPos
  extract_lets f0 f s1 r g s2
  have next : State.PortKeeps FbPort.comparesAside m s s1 := State.setFbp_keeps rfl
  have hit : State.PortKeeps FbPort.comparesAside m s s2 := next.trans (State.setFbp_keeps rfl)
  split
  · exact next
  · split
    · exact next.trans (State.setFbp_keeps (by simp only [s1, State.fbp_setFbp, if_pos]; rfl))
    · split
      · exact hit.trans (State.cmpDisarm_keeps s2 m)
      · exact hit.trans (State.cmpAdvance_keeps s2 m v _ _)

/-- Disarmed, CMP_DIR is 0. -/
theorem FbPort.cmpDir_disarmed (f : FbPort) (c : Bool) : { f with cmpCfg := f.cmpCfg - fieldOf f.cmpCfg 1 0, crossed := c }.cmpDir = 0 := by
  simp only [FbPort.cmpDir, fieldOf, Nat.shiftRight_zero]
  omega

theorem State.cmpDisarm_becomes (s : State) (m : Nat) :
    s.PortBecomes (s.cmpDisarm m) m { s.fbp m with cmpCfg := (s.fbp m).cmpCfg - fieldOf (s.fbp m).cmpCfg 1 0, crossed := false } := by
  unfold State.cmpDisarm
  dsimp only
  refine (s.setFbp_becomes m _).then ?_
  split <;> rfl

/-- A compare pulse is all that it leaves of the port. -/
theorem State.cmpPulse_becomes (s : State) (m : Nat) : ∃ e, s.PortBecomes (s.cmpPulse m).1 m { s.fbp m with cmpPulseEnd := e } := by
  unfold State.cmpPulse
  dsimp only
  split
  · exact ⟨(s.fbp m).cmpPulseEnd, rfl, fun _ _ => rfl⟩
  · refine ⟨some (s.lt + divCeil (fieldOf (s.fbp m).cmpCfg 11 4 * 5) 4), (s.setFbp_becomes m _).then ?_⟩
    split <;> rfl

section CmpPos

variable {s : State} {m : Nat} {v : Int}

theorem State.cmpPos_ahead (h : (s.fbp m).cmpDir = 0 ∨ (s.fbp m).ahead v = true) :
    s.PortBecomes (s.cmpPos m v true) m { s.fbp m with cmpNext := v, behind := false, crossed := false } := by
  have stays : s.cmpPos m v true = s.setFbp m { s.fbp m with cmpNext := v, behind := false, crossed := false } := if_pos h
  rw [stays]
  exact s.setFbp_becomes m _

variable (hdir : (s.fbp m).cmpDir ≠ 0) (hahead : (s.fbp m).ahead v = false)
include hdir hahead

theorem State.cmpPos_behind (hcatch : fieldOf (s.fbp m).cmpCfg 2 2 = 0) :
    s.PortBecomes (s.cmpPos m v true) m { s.fbp m with cmpNext := v, behind := true, crossed := false } := by
  let s1 : State := s.setFbp m { s.fbp m with cmpNext := v, behind := false, crossed := false }
  have waits : s.cmpPos m v true = s1.setFbp m { s.fbp m with cmpNext := v, behind := true, crossed := false } :=
    (if_neg (not_or.2 ⟨hdir, ne_true_of_eq_false hahead⟩)).trans (if_pos hcatch)
  rw [waits]
  exact (s.setFbp_becomes m _).trans (s1.setFbp_becomes m _)

/-- A single position that lies behind is hit at once, and the comparator is disarmed. -/
theorem State.cmpPos_catches (hcatch : fieldOf (s.fbp m).cmpCfg 2 2 ≠ 0) (hsp : (s.fbp m).cmpSpacing = 0) :
    ((s.cmpPos m v true).fbp m).cmpNext = v ∧ ((s.cmpPos m v true).fbp m).cmpHits = ((s.fbp m).cmpHits + 1) % 65536 ∧
    ((s.cmpPos m v true).fbp m).cmpDir = 0 ∧ ∀ k, k ≠ m → (s.cmpPos m v true).fbp k = s.fbp k := by
  let s1 : State := s.setFbp m { s.fbp m with cmpNext := v, behind := false, crossed := false }
  obtain ⟨e, pulsed⟩ := s1.cmpPulse_becomes m
  let r : State := (s1.cmpPulse m).1
  let s2 : State := r.setFbp m { r.fbp m with cmpHits := ((r.fbp m).cmpHits + 1) % 65536 }
  have port : r.fbp m = { s.fbp m with cmpNext := v, behind := false, crossed := false, cmpPulseEnd := e } := by
    rw [show r.fbp m = _ from pulsed.1, State.fbp_setFbp, if_pos rfl]
  have one : (r.fbp m).cmpSpacing = 0 := by
    rw [port]
    exact hsp
  have acts : s.cmpPos m v true = s2.cmpDisarm m :=
    (if_neg (not_or.2 ⟨hdir, ne_true_of_eq_false hahead⟩)).trans ((if_neg hcatch).trans (if_pos one))
  obtain ⟨own, others⟩ := (((s.setFbp_becomes m _).trans pulsed).trans (r.setFbp_becomes m _)).trans (s2.cmpDisarm_becomes m)
  rw [acts, own]
  refine ⟨?_, ?_, FbPort.cmpDir_disarmed _ _, others⟩ <;> simp [s2, port]

end CmpPos

/-! ### MODE and PSET (R232, R249) -/

/-- A write that changes MODE. -/
theorem State.fbModeSet_zeroes (s : State) (m : Nat) :
    let t := s.fbModeSet m
    t.fbPos m = 0 ∧ (t.fbp m).h = 0 ∧ (t.fbp m).dec = false ∧ (t.fbp m).ovf = false ∧ (t.fbp m).winStart = none ∧
    (t.fbp m).coarse = (s.fbp m).quad ∧ ∀ k, k ≠ m → t.fbp k = s.fbp k := by
  intro t
  let f := s.fbp m
  let g : FbPort := { f with
    count := 0, pos := 0, rev := 0, h := 0, dec := false, ovf := false, rwrap := false, revOvf := false, winStart := none, winCount := 0,
    ssiV := none, ssiErr := 0, ssiHeld := false, coarse := f.quad, fine := 0, amplRun := 0, crossed := false, prbWait := [] }
  obtain ⟨c, cleared⟩ := g.gone_eq [1, 4, 5, 7] s.lt
  have acts : s.fbModeSet m = s.setFbp m { g with condGone := c } := congrArg (s.setFbp m) cleared
  obtain ⟨own, others⟩ := s.setFbp_becomes m { g with condGone := c }
  rw [show t = _ from acts, State.fbPos_of_regs (State.setFbp_regs s m _), own]
  refine ⟨?_, rfl, rfl, rfl, rfl, rfl, others⟩
  unfold State.countOf
  split
  · exact (Int.add_zero _).trans (Int.zero_mul _)
  · rfl

theorem State.putCount_puts (s : State) (m : Nat) {p : Int} (lo : -(2 ^ 31) ≤ p) (hi : p < 2 ^ 31) : ∃ g : FbPort,
    s.putCount m p = s.setFbp m g ∧ s.countOf m g = p ∧ g.dec = (s.fbp m).dec ∧ g.winCount = (s.fbp m).winCount := by
  have hw : (0 : Int) < s.fbWrapLen m := Int.natCast_pos.2 (s.fbWrapLen_pos m)
  unfold State.putCount State.countOf
  rw [State.modFbp_eq]
  refine ⟨_, rfl, ?_⟩
  cases s.fbWrapEn m with
  | false =>
    simp only [Bool.false_eq_true, if_false, and_true]
    exact signedOf_wrapTo lo hi
  | true =>
    simp only [if_true, and_true]
    rw [Int.toNat_of_nonneg (Int.emod_nonneg _ hw.ne'), Int.mul_comm]
    exact Int.mul_ediv_add_emod p _

/-- A PSET puts `p` into P and into H, and the comparator and the divided output follow (R249). -/
theorem State.fbPset_sets {s : State} {m : Nat} {p : Int} (lo : -(2 ^ 31) ≤ p) (hi : p < 2 ^ 31) :
    (s.fbPset m p).fbPos m = p ∧ ((s.fbPset m p).fbp m).h = p ∧ ((s.fbPset m p).fbp m).dec = (s.fbp m).dec ∧
    ((s.fbPset m p).fbp m).winCount = (s.fbp m).winCount ∧ ∀ k, k ≠ m → (s.fbPset m p).fbp k = s.fbp k := by
  obtain ⟨g, puts, count, dec, window⟩ := s.putCount_puts m lo hi
  let g' : FbPort := { g with h := p, crossed := false, psetAt := some s.lt }
  let s1 : State := (s.setFbp m g).setFbp m g'
  obtain ⟨own, others⟩ := (s.setFbp_becomes m g).trans (State.setFbp_becomes _ m g')
  have acts : s.fbPset m p = (s1.divHere m).cmpPos m (s.rs .fbCmpPos m) false := by
    unfold State.fbPset
    dsimp only
    rw [puts, State.modFbp_eq, State.fbp_setFbp, if_pos rfl]
  have keeps := (s1.divHere_keeps m).trans (State.cmpPos_keeps _ m (s.rs .fbCmpPos m))
  have pos : s1.fbPos m = p := (State.fbPos_of_regs (s := s) (t := s1) rfl).trans ((congrArg (s.countOf m) own).trans count)
  rw [acts]
  refine ⟨(keeps.mono FbPort.counter :).fbPos.trans pos, (congrArg FbPort.h keeps.port :).trans ?_, (congrArg FbPort.dec keeps.port :).trans ?_,
    (congrArg FbPort.winCount keeps.port :).trans ?_, fun k hk => (keeps.others k hk).trans (others k hk)⟩
  · exact congrArg FbPort.h own
  · exact (congrArg FbPort.dec own).trans dec
  · exact (congrArg FbPort.winCount own).trans window

/-! ### The commands -/

/-- A register of one field of 32 bits has no reserved encoding. -/
theorem writeOk_word {r : RegId} {i j : Nat} {v : Word} (hfields : (desc r).fields = [⟨31, 0, [(0, 0xFFFFFFFF)]⟩])
    (hcombo : comboOk r i j v.toNat = true) : writeOk r i j v = true := by
  have range : fieldOf v.toNat 31 0 ≤ 0xFFFFFFFF := Nat.le_of_lt_succ (Nat.mod_lt _ (by decide))
  have bits : v.toNat &&& (2 ^ 32 - 1 - fieldMask (desc r)) = 0 := by simp [fieldMask, hfields]
  unfold writeOk
  rw [bits, hfields, hcombo]
  simpa [fieldOk] using range

theorem intWord_toNat (i : Int) : (intWord i).toNat = wrapTo 32 i := by
  simp only [intWord, wrapTo, BitVec.toNat_ofNat]
  omega

section Command

variable {s : State} {n : Fin 64} {m : Fin 6} {r : RegId} {c : Instr} {post : State → Prop}
  (hd : s.domain (if n.val < 32 then 2 else 3) = true) (hat : placedAt r n (some (if n.val < 32 then 2 else 3)) = true)
include hd hat

/-- A write of a port's register that is accepted. -/
theorem completes_portWrite {v : Word} (he : exec c s = run s (fun s => s.putReg m r n v)) (hm : s.mayAccess m false = true)
    (ha : (desc r).access ≠ .ro) (hl : (desc r).access = .rwl → s.locked = false) (ht : r ≠ .obsTblData) (hw : writeOk r n 0 v = true)
    (h : post (State.effect { s with outs := [] } r n 0 v)) : Completes c s post := by
  refine completes_run he ?_
  rw [State.putReg_effect { s with outs := [] } m r n v _ hat hd hm ha hl ht hw]
  exact h

/-- A read of a port's register. -/
theorem completes_portRead (he : exec c s = run s (fun s => s.getReg m r n)) (hm : s.mayAccess m true = true)
    (h : post ((State.readEffect { s with outs := [] } r n).emit (.readWord (regAddr r n 0) (s.readVal r n 0).toNat))) : Completes c s post := by
  refine completes_run he ?_
  rw [State.getReg_eq { s with outs := [] } m r n _ hat hd hm]
  exact h

end Command

/-- Settles O38: each access by the lemma that says what its register does. -/
theorem feedbackRegistersAct : Obligations.FeedbackRegistersAct := by
  intro s n m v hd f others
  let s0 : State := { s with outs := [] }
  refine ⟨fun hm => ⟨fun hlock hv hmode => ?mode, ?pset, fun hahead => ?ahead, fun hdir hahead hcatch => ?behind,
    fun hdir hahead hcatch hsp => ?catches, fun hv hdir => ?disarms, fun hv hdir => ?waits, fun hv => ?clears⟩, fun hm => ⟨?pos, ?probe⟩⟩
  case mode =>
    obtain ⟨pos, h, dec, ovf, window, coarse, rest⟩ := (s0.setReg .fbCfg n 0 v).fbModeSet_zeroes n
    have acts : s0.effect .fbCfg n 0 v = (s0.setReg .fbCfg n 0 v).fbModeSet n := if_neg (Ne.symm hmode)
    refine completes_portWrite hd (fbCfg_at n) rfl hm (by decide) (fun _ => hlock) (by decide) hv ?_
    rw [acts]
    exact ⟨pos, h, dec, ovf, window, coarse, State.reg_setReg_self s0 .fbCfg n 0 v, rest⟩
  case pset =>
    obtain ⟨lo, hi⟩ := sword_bounds v
    exact completes_portWrite hd (fbPset_at n) rfl hm (by decide) nofun (by decide) (writeOk_word rfl rfl) (State.fbPset_sets (s := s0) lo hi)
  case ahead =>
    exact completes_portWrite hd (fbCmpPos_at n) rfl hm (by decide) nofun (by decide) (writeOk_word rfl rfl)
      (State.cmpPos_ahead (s := s0.setReg .fbCmpPos n 0 v) hahead)
  case behind =>
    exact completes_portWrite hd (fbCmpPos_at n) rfl hm (by decide) nofun (by decide) (writeOk_word rfl rfl)
      (State.cmpPos_behind (s := s0.setReg .fbCmpPos n 0 v) hdir hahead hcatch)
  case catches =>
    exact completes_portWrite hd (fbCmpPos_at n) rfl hm (by decide) nofun (by decide) (writeOk_word rfl rfl)
      (State.cmpPos_catches (s := s0.setReg .fbCmpPos n 0 v) hdir hahead hcatch hsp)
  case disarms =>
    let x : State := s0.setReg .fbCmpCfg n 0 v
    have acts : s0.effect .fbCmpCfg n 0 v = x.setFbp n { f with cmpCfg := f.cmpCfg - fieldOf f.cmpCfg 1 0, crossed := false } := if_pos hdir
    obtain ⟨own, rest⟩ := x.setFbp_becomes n { f with cmpCfg := f.cmpCfg - fieldOf f.cmpCfg 1 0, crossed := false }
    refine completes_portWrite hd (fbCmpCfg_at n) rfl hm (by decide) nofun (by decide) hv ?_
    rw [acts, own]
    exact ⟨f.cmpDir_disarmed false, State.reg_setReg_self s0 .fbCmpCfg n 0 v, rest⟩
  case waits =>
    have acts : s0.effect .fbCmpCfg n 0 v = s0.setReg .fbCmpCfg n 0 v := if_neg hdir
    refine completes_portWrite hd (fbCmpCfg_at n) rfl hm (by decide) nofun (by decide) hv ?_
    rw [acts]
    exact ⟨rfl, State.reg_setReg_self s0 .fbCmpCfg n 0 v, fun _ _ => rfl⟩
  case clears =>
    exact completes_portWrite hd (fbEvt_at n) rfl hm (by decide) nofun (by decide) hv (s0.setFbp_becomes n _)
  case pos =>
    obtain ⟨own, rest⟩ := s0.setFbp_becomes n { f with
      revSh := f.rev, shOvf := f.ovf, shRwrap := f.rwrap, shRevOvf := f.revOvf, ovf := false, rwrap := false, revOvf := false }
    have value : s.readVal .fbPos n 0 = BitVec.ofNat 32 (if s.fbWrapEn n then f.pos else f.count) :=
      (apply_ite (BitVec.ofNat 32) (s.fbWrapEn n = true) f.pos f.count).symm
    exact completes_portRead hd (fbPos_at n) rfl hm ⟨own, by rw [value]; rfl, rest⟩
  case probe =>
    obtain ⟨own, rest⟩ := s0.setFbp_becomes n { f with prbValid := false }
    have value : (s.readVal .fbPrbPos n 0).toNat = wrapTo 32 f.prbPos := intWord_toNat f.prbPos
    exact completes_portRead hd (fbPrbPos_at n) rfl hm ⟨own, by rw [value]; rfl, rest⟩

end Sys2Proof.Machine
end

section
/-!
PROOFS. The index, the probe latch, a compare hit and the lag of the divided output (R249, R251 to R253, R255, R256, R258, R261).
-/
namespace Sys2Proof.Machine
open Sys2Proof

/-! ### The index (R249, R251 to R253) -/

theorem State.planAxis_referenced (s : State) (n : Nat) (cur : Seg) : ((s.planAxis n cur).axis n).referenced = (s.axis n).referenced := by
  unfold State.planAxis
  dsimp only
  split <;> simp

theorem State.loseReference_unreferences (s : State) (n : Nat) : ((s.loseReference n).axis n).referenced = false := by
  unfold State.loseReference
  dsimp only
  split
  · rw [State.planAxis_referenced]
    simp
  · simp

section Index

variable {s : State} {m : Nat} (hen : s.rb .fbCfg m 4 = true) (hquad : (s.fbp m).quad = s.rf .fbIdx m 9 8) (hmode : s.fbMode m = 1 ∨ s.fbMode m = 2)
include hen hquad hmode

theorem State.index_recognised : (s.rb .fbCfg m 4 && (s.fbp m).quad == s.rf .fbIdx m 9 8 && (s.fbMode m == 1 || s.fbMode m == 2)) = true := by
  simpa [hen, hquad] using hmode

/-- An index of an axis that is not referenced, or in the clock of a PSET, is recorded and no more. -/
theorem State.fbIndex_records (h : (s.axis (s.fedAxis m)).referenced = false ∨ (s.fbp m).psetAt = some s.lt) :
    s.fbIndex m = s.setFbp m { s.fbp m with idxPos := s.fbPos m } := by
  have unchecked : (!(s.axis (s.fedAxis m)).referenced || (s.fbp m).psetAt == some s.lt) = true := by rcases h with h | h <;> simp [h]
  unfold State.fbIndex
  rw [when_of (State.index_recognised hen hquad hmode)]
  exact if_pos unchecked

variable (href : (s.axis (s.fedAxis m)).referenced = true) (hpset : (s.fbp m).psetAt ≠ some s.lt)
include href hpset

omit hen hquad hmode in
theorem State.index_checked : (!(s.axis (s.fedAxis m)).referenced || (s.fbp m).psetAt == some s.lt) = false := by simp [href, hpset]

/-- The first one is the reference. -/
theorem State.fbIndex_refers (h : (s.fbp m).refIdx = none) :
    s.PortBecomes (s.fbIndex m) m { s.fbp m with idxPos := s.fbPos m, refIdx := some (s.fbPos m) } ∧ (s.fbIndex m).axes = s.axes := by
  let s1 : State := s.setFbp m { s.fbp m with idxPos := s.fbPos m }
  have acts : s.fbIndex m = s1.setFbp m { s1.fbp m with refIdx := some (s.fbPos m) } := by
    unfold State.fbIndex
    rw [when_of (State.index_recognised hen hquad hmode)]
    extract_lets f p s2 n
    rw [State.index_checked href hpset, if_neg Bool.false_ne_true, h]
    rfl
  obtain ⟨own, others⟩ := (s.setFbp_becomes m { s.fbp m with idxPos := s.fbPos m }).trans
    (s1.setFbp_becomes m { s1.fbp m with refIdx := some (s.fbPos m) })
  rw [acts]
  exact ⟨⟨own.trans (by simp [s1]), others⟩, rfl⟩

variable {r d : Int} (hidx : (s.fbp m).refIdx = some r) (hd : d = s.fbPos m - nearestIndex r ((s.reg .fbIdxPeriod m).toNat : Int) (s.fbPos m))
include hidx hd

/-- Every later one is checked against the nearest index position. -/
theorem State.fbIndex_checks : ∃ (x : Int) (v5 v6 : List Byte),
    let s1 := s.setFbp m { s.fbp m with idxPos := s.fbPos m }
    s.fbIndex m =
      if d.natAbs ≤ s.rf .fbIdx m 7 0 then
        if d = 0 then s1
        else (((s1.setFbp m { s1.fbp m with idxSlip := satInc 65535 (s.fbp m).idxSlip, idxD := x }).raise 0x5011 m v5).addCount m (-d)).afterCount m
      else
        (((s1.setFbp m { s1.fbp m with idxFault := true, idxD := x }).raise 0x5012 m v6).loseReference (s.fedAxis m)).modPortal (s.fedAxis m / 4)
          (fun q => { q with unreferenced := true }) := by
  refine ⟨clampInt (-127) 127 d, leInt 1 (clampInt (-127) 127 d),
    leInt 4 (s.fbPos m) ++ leInt 4 (nearestIndex r ((s.reg .fbIdxPeriod m).toNat : Int) (s.fbPos m)), ?_⟩
  subst hd
  intro s1
  unfold State.fbIndex
  rw [when_of (State.index_recognised hen hquad hmode)]
  extract_lets f p s2 n
  rw [State.index_checked href hpset, if_neg Bool.false_ne_true, hidx]
  have own : (s1.fbp m).idxSlip = (s.fbp m).idxSlip := by simp [s1]
  rw [← own]
  rfl

theorem State.fbIndex_agrees (hzero : d = 0) : s.fbIndex m = s.setFbp m { s.fbp m with idxPos := s.fbPos m } := by
  obtain ⟨x, v5, v6, acts⟩ := State.fbIndex_checks hen hquad hmode href hpset hidx hd
  exact acts.trans ((if_pos (by simp [hzero])).trans (if_pos hzero))

/-- A slip within the tolerance is taken out of P (R252). -/
theorem State.fbIndex_slips (hne : d ≠ 0) (htol : d.natAbs ≤ s.rf .fbIdx m 7 0) (lo : -(2 ^ 31) ≤ s.fbPos m - d) (hi : s.fbPos m - d < 2 ^ 31) :
    (s.fbIndex m).fbPos m = s.fbPos m - d ∧ ((s.fbIndex m).fbp m).idxSlip = satInc 65535 (s.fbp m).idxSlip ∧ (s.fbIndex m).axes = s.axes := by
  obtain ⟨x, v5, v6, acts⟩ := State.fbIndex_checks hen hquad hmode href hpset hidx hd
  let s1 : State := s.setFbp m { s.fbp m with idxPos := s.fbPos m }
  let v : State := (s1.setFbp m { s1.fbp m with idxSlip := satInc 65535 (s.fbp m).idxSlip, idxD := x }).raise 0x5011 m v5
  have slips : s.fbIndex m = (v.addCount m (-d)).afterCount m := acts.trans ((if_pos htol).trans (if_neg hne))
  have port : v.fbp m = { s.fbp m with idxPos := s.fbPos m, idxSlip := satInc 65535 (s.fbp m).idxSlip, idxD := x } := by simp [v, s1]
  have pos : v.fbPos m = s.fbPos m := by
    rw [State.fbPos_of_regs (s := s) (t := v) (State.raise_regs _ _ _ _), port]
    rfl
  rw [Int.sub_eq_add_neg] at lo hi ⊢
  rw [← pos] at lo hi ⊢
  obtain ⟨keeps, moved, axes⟩ := State.addCount_afterCount lo hi
  rw [slips]
  exact ⟨moved, (congrArg FbPort.idxSlip keeps.port :).trans (congrArg FbPort.idxSlip port :), axes.trans (State.raise_axes _ _ _ _)⟩

/-- One beyond the tolerance takes the axis its reference (R253). -/
theorem State.fbIndex_loses (htol : s.rf .fbIdx m 7 0 < d.natAbs) :
    (s.fbIndex m).fbPos m = s.fbPos m ∧ ((s.fbIndex m).fbp m).idxFault = true ∧
    ((s.fbIndex m).axis (s.fedAxis m)).referenced = false ∧ ((s.fbIndex m).portal (s.fedAxis m / 4)).unreferenced = true := by
  obtain ⟨x, v5, v6, acts⟩ := State.fbIndex_checks hen hquad hmode href hpset hidx hd
  let s1 : State := s.setFbp m { s.fbp m with idxPos := s.fbPos m }
  let v : State := (s1.setFbp m { s1.fbp m with idxFault := true, idxD := x }).raise 0x5012 m v6
  have loses := acts.trans (if_neg (Nat.not_le.2 htol))
  have keeps := State.loseReference_frame (n := s.fedAxis m) (w := Part.axes) rfl (Frame.refl _ v)
  have port : (s.fbIndex m).fbp m = { s.fbp m with idxPos := s.fbPos m, idxFault := true, idxD := x } := by
    rw [loses]
    refine (State.fbp_congr (keeps.fb rfl) m).trans ?_
    simp [v, s1]
  have regs : (s.fbIndex m).regs = s.regs := by
    rw [loses]
    exact (keeps.regs rfl).trans (State.raise_regs _ _ _ _)
  refine ⟨?_, by rw [port], ?_, ?_⟩
  · rw [State.fbPos_of_regs regs, port]
    rfl
  · rw [loses]
    exact v.loseReference_unreferences _
  · rw [loses]
    simp

end Index

/-! ### The probe latch (R255, R256) -/

section Probe

variable {s : State} {m : Nat} {level : Bool} {held : Nat}

/-- Levels that the probe does not see, or that have not held, are dropped. -/
theorem State.probeEdge_dropped (h : s.rb .fbFilter m 14 = false ∨ held < s.rf .fbFilter m 11 4 ∨ level = (s.fbp m).prbLevel) :
    s.probeEdge m level held = s := by
  unfold State.probeEdge
  refine when_not ?_ _ _
  rcases h with h | h | h
  · simp [h]
  · simp [Nat.not_le.2 h]
  · simp [h]

variable (hseen : ¬(s.rb .fbFilter m 14 = false ∨ held < s.rf .fbFilter m 11 4 ∨ level = (s.fbp m).prbLevel))
include hseen

theorem State.probe_seen : (s.rb .fbFilter m 14 && decide (s.rf .fbFilter m 11 4 ≤ held) && level != (s.fbp m).prbLevel) = true := by
  simpa [not_or, and_assoc] using hseen

/-- An edge that is not among those wanted leaves its level only. -/
theorem State.probeEdge_unwanted
    (h : ¬((level = true → s.rf .fbFilter m 13 12 ≠ 1) ∧ (level = false → s.rf .fbFilter m 13 12 ≠ 0))) :
    s.probeEdge m level held = s.setFbp m { s.fbp m with prbLevel := level } := by
  unfold State.probeEdge
  rw [when_of (State.probe_seen hseen)]
  exact if_pos (by cases hl : level <;> simpa [hl] using h)

variable (hwanted : (level = true → s.rf .fbFilter m 13 12 ≠ 1) ∧ (level = false → s.rf .fbFilter m 13 12 ≠ 0))
include hwanted

omit hseen in
theorem State.probe_wanted : ¬((level = true ∧ s.rf .fbFilter m 13 12 = 1) ∨ ((!level) = true ∧ s.rf .fbFilter m 13 12 = 0)) := by
  cases hl : level <;> simpa [hl] using hwanted

/-- In modes 2 and 3 the latch waits for the next sample or frame. -/
theorem State.probeEdge_waits (hmode : s.fbMode m = 2 ∨ s.fbMode m = 3) : s.PortBecomes (s.probeEdge m level held) m
    { s.fbp m with prbLevel := level, prbWait := (s.fbp m).prbWait ++ [⟨s.lt, (s.fbp m).coarse⟩] } := by
  let s1 : State := s.setFbp m { s.fbp m with prbLevel := level }
  let f1 : FbPort := { s1.fbp m with prbWait := (s1.fbp m).prbWait ++ [⟨s1.lt, (s1.fbp m).coarse⟩] }
  have acts : s.probeEdge m level held = (s1.setFbp m f1).modOb (s.fedAxis m) (fun o => { o with edgeLatch := none }) := by
    unfold State.probeEdge
    rw [when_of (State.probe_seen hseen)]
    exact (if_neg (State.probe_wanted hwanted)).trans (if_pos hmode)
  rw [acts]
  refine (State.PortBecomes.then ?_ (State.setOb_fb _ _ _))
  obtain ⟨own, others⟩ := (s.setFbp_becomes m { s.fbp m with prbLevel := level }).trans (s1.setFbp_becomes m f1)
  exact ⟨own.trans (by simp [f1, s1]), others⟩

/-- Elsewhere P is latched at the edge. -/
theorem State.probeEdge_latches (h2 : s.fbMode m ≠ 2) (h3 : s.fbMode m ≠ 3) :
    s.probeEdge m level held = (s.setFbp m { s.fbp m with prbLevel := level }).probeLatch m (s.fbPos m) s.lt := by
  unfold State.probeEdge
  rw [when_of (State.probe_seen hseen)]
  exact (if_neg (State.probe_wanted hwanted)).trans (if_neg (not_or.2 ⟨h2, h3⟩))

/-- The registers take the latch where none is unread (R255). -/
theorem State.probeEdge_takes (h2 : s.fbMode m ≠ 2) (h3 : s.fbMode m ≠ 3) :
    let g := (s.probeEdge m level held).fbp m
    g.prbLevel = level ∧ g.prbValid = true ∧
    ((s.fbp m).prbValid = false → g.prbPos = s.fbPos m ∧ g.evPrbOvr = (s.fbp m).evPrbOvr) ∧
    ((s.fbp m).prbValid = true → g.prbPos = (s.fbp m).prbPos ∧ g.evPrbOvr = true) := by
  let s1 : State := s.setFbp m { s.fbp m with prbLevel := level }
  obtain ⟨own, -⟩ := s1.probeLatch_becomes m (s.fbPos m) s.lt
  have port : s1.fbp m = { s.fbp m with prbLevel := level } := by simp [s1]
  rw [port] at own
  rw [State.probeEdge_latches hseen hwanted h2 h3, show (s1.probeLatch m (s.fbPos m) s.lt).fbp m = _ from own]
  cases hvalid : (s.fbp m).prbValid with
  | false => exact ⟨rfl, rfl, fun _ => ⟨rfl, rfl⟩, nofun⟩
  | true => exact ⟨rfl, hvalid, nofun, fun _ => ⟨rfl, rfl⟩⟩

end Probe

/-! ### A compare hit (R258) -/

/-- The spacings that bring a position behind H ahead of it: the first that does. -/
theorem spacing_ahead {h next : Int} {sp : Nat} (hsp : sp ≠ 0) (hle : next ≤ h) :
    h < next + (((h - next).toNat / sp + 1) * sp : Nat) ∧ next + (((h - next).toNat / sp + 1) * sp : Nat) ≤ h + sp := by
  have below : (h - next).toNat < ((h - next).toNat / sp + 1) * sp := by
    rw [Nat.add_one_mul]
    exact Nat.lt_div_mul_add (Nat.pos_of_ne_zero hsp)
  have above : ((h - next).toNat / sp + 1) * sp ≤ (h - next).toNat + sp := by
    rw [Nat.add_one_mul]
    exact Nat.add_le_add_right (Nat.div_mul_le_self _ _) _
  omega

section Hit

variable {s : State} {m : Nat}

/-- With room in 32 bits CMP_NEXT goes up by `k` spacings. -/
theorem State.cmpAdvance_up {v : Int} {k sp : Nat} (hdir : (s.fbp m).cmpDir = 1) (hsp : sp ≠ 0) (hroom : v + (k * sp : Nat) ≤ 2 ^ 31 - 1) :
    ((s.cmpAdvance m v k sp).fbp m).cmpNext = v + (k * sp : Nat) ∧ ((s.cmpAdvance m v k sp).fbp m).cmpHits = (s.fbp m).cmpHits := by
  have fits : k ≤ (2 ^ 31 - 1 - v).toNat / sp := (Nat.le_div_iff_mul_le (Nat.pos_of_ne_zero hsp)).2 (by omega)
  unfold State.cmpAdvance
  simp only [hdir, decide_true, if_true, if_pos fits, State.fbp_setFbp, Nat.min_eq_left fits, and_self]

variable (hend : ∀ e, (s.fbp m).cmpPulseEnd = some e → e ≤ s.lt)
include hend

theorem State.cmpPulse_leaves : (s.cmpPulse m).2 = true := by
  have idle : ¬(s.fbp m).cmpPulseEnd.any (fun t => decide (s.lt < t)) = true := by
    cases h : (s.fbp m).cmpPulseEnd with
    | none => simp
    | some e => simpa using hend e h
  unfold State.cmpPulse
  dsimp only
  rw [if_neg idle]

/-- A hit whose pulse leaves is counted; a single position disarms, others advance. -/
theorem State.cmpHit_counts (hcrossed : (s.fbp m).crossed = true) : ∃ (x : State) (e : Option Ticks),
    let f := s.fbp m
    x.fbp m = { f with cmpPulseEnd := e, cmpHits := (f.cmpHits + 1) % 65536, cmpSkip := f.cmpSkip % 65536, behind := false, crossed := false } ∧
    s.cmpHit m = if f.cmpSpacing = 0 then x.cmpDisarm m else x.cmpAdvance m f.cmpNext (spacingsAhead f f.cmpNext f.cmpSpacing) f.cmpSpacing := by
  obtain ⟨e, pulsed, -⟩ := s.cmpPulse_becomes m
  have leaves := State.cmpPulse_leaves hend
  unfold State.cmpHit
  rw [when_of hcrossed]
  generalize s.cmpPulse m = r at pulsed leaves ⊢
  obtain ⟨y, left⟩ := r
  dsimp only at pulsed leaves ⊢
  subst leaves
  refine ⟨y.setFbp m { s.fbp m with
    cmpPulseEnd := e, cmpHits := ((s.fbp m).cmpHits + 1) % 65536, cmpSkip := (s.fbp m).cmpSkip % 65536, behind := false, crossed := false }, e,
    by simp, ?_⟩
  rw [pulsed]
  rfl

end Hit

/-! ### The divided output (R261) -/

/-- The steps that the divided output's spacing has allowed by now. -/
def State.divAllowed (s : State) (m : Nat) : Nat := if (s.fbp m).divFree ≤ 2 * s.lt then (2 * s.lt - (s.fbp m).divFree) / 25 + 1 else 0

/-- Of the steps that are outstanding, those that are allowed have been put out. -/
theorem State.divCatch_divState {s : State} {m : Nat} (hmode : s.rf .fbDivout m 17 16 = 1) : ∃ k : Nat, k ≤ s.divAllowed m ∧
    k ≤ (s.divTarget m - (s.fbp m).divState).natAbs ∧
    ((s.divCatch m).fbp m).divState = (s.fbp m).divState + signOf (s.divTarget m - (s.fbp m).divState) * (k : Int) := by
  unfold State.divCatch State.divAllowed
  rw [if_pos hmode]
  extract_lets f w k s1
  refine ⟨k, ?_, ?_, ?_⟩
  · unfold k
    split
    · exact Nat.min_le_right _ _
    · exact Nat.le_refl 0
  · unfold k
    split
    · exact Nat.min_le_left _ _
    · exact Nat.zero_le _
  · split <;> simp [s1, f, w]

theorem State.divCatch_keepsRegs (s : State) (m : Nat) : (s.divCatch m).regs = s.regs :=
  (State.divCatch_frame (w := Part.fb ||| Part.outs) rfl (Frame.refl _ s)).regs rfl

theorem State.divCatch_divTarget (s : State) (m : Nat) : (s.divCatch m).divTarget m = s.divTarget m := by
  have h : ((s.divCatch m).fbp m).h = (s.fbp m).h := (congrArg FbPort.h (s.divCatch_keeps m).port :)
  rw [State.divTarget, State.divTarget, h, State.rf_congr (s.divCatch_keepsRegs m)]

/-- More than 255 steps outstanding, beyond those allowed, are left out (R261). -/
theorem State.divLag_catchesUp {s : State} {m : Nat} (hmode : s.rf .fbDivout m 17 16 = 1)
    (hlag : 255 + s.divAllowed m < (s.divTarget m - (s.fbp m).divState).natAbs) :
    ((s.divLag m).fbp m).divState = s.divTarget m ∧ ((s.divLag m).fbp m).evDivLag = true := by
  obtain ⟨k, allowed, most, state⟩ := State.divCatch_divState hmode
  have lags : 255 < ((s.divCatch m).divTarget m - ((s.divCatch m).fbp m).divState).natAbs := by
    rw [State.divCatch_divTarget, state]
    unfold signOf
    split
    · omega
    · split <;> omega
  have mode : (s.divCatch m).rf .fbDivout m 17 16 = 1 := (State.rf_congr (s.divCatch_keepsRegs m) _ _ _ _).trans hmode
  unfold State.divLag
  dsimp only
  rw [when_of (by simp [mode, lags])]
  simp [State.divCatch_divTarget]

/-- Settles O39: each case by the lemma that says what the index, the probe, the comparator or the divided output does. -/
theorem indexProbeAndCompare : Obligations.IndexProbeAndCompare := by
  intro s n f ax
  let s0 : State := { s with outs := [] }
  refine ⟨fun hen hquad hmode => ⟨fun h => ?records, fun href hpset hidx => ?refers, fun r d href hpset hidx hd =>
    ⟨fun hzero => ?agrees, fun hne htol lo hi => ?slips, fun htol => ?loses⟩⟩,
    fun level held => ?probe, fun hcrossed hend hsp => ?single, fun hcrossed hend hsp hdir hle hh hs hlo => ?advances, fun hmode hlag => ?lag⟩
  case records =>
    refine completes_run (f := fun s => s.fbIndex n) rfl ?_
    rw [State.fbIndex_records (s := s0) hen hquad hmode h]
    exact ⟨(s0.setFbp_becomes n _).1, rfl⟩
  case refers =>
    obtain ⟨⟨own, -⟩, axes⟩ := State.fbIndex_refers (s := s0) hen hquad hmode href hpset hidx
    exact completes_run (f := fun s => s.fbIndex n) rfl ⟨own, axes⟩
  case agrees =>
    refine completes_run (f := fun s => s.fbIndex n) rfl ?_
    rw [State.fbIndex_agrees (s := s0) hen hquad hmode href hpset hidx hd hzero]
    exact ⟨(s0.setFbp_becomes n _).1, rfl⟩
  case slips =>
    exact completes_run (f := fun s => s.fbIndex n) rfl (State.fbIndex_slips (s := s0) hen hquad hmode href hpset hidx hd hne htol lo hi)
  case loses =>
    exact completes_run (f := fun s => s.fbIndex n) rfl (State.fbIndex_loses (s := s0) hen hquad hmode href hpset hidx hd htol)
  case probe =>
    intro dropped edge
    have runs : ∀ {post : State → Prop}, post (s0.probeEdge n level held) → Completes (.probeEdge n level held) s post := fun h =>
      completes_run (f := fun s => s.probeEdge n level held) rfl h
    refine ⟨fun hdropped => runs ?_, fun hseen hedge => runs ?_, fun hseen hedge h2 h3 => runs ?_, fun hseen hedge hmode => runs ?_⟩
    · rw [State.probeEdge_dropped (s := s0) hdropped]
      rfl
    · rw [State.probeEdge_unwanted (s := s0) hseen hedge]
      exact (s0.setFbp_becomes n _).1
    · exact State.probeEdge_takes (s := s0) hseen hedge h2 h3
    · exact (State.probeEdge_waits (s := s0) hseen hedge hmode).1
  case single =>
    obtain ⟨x, e, port, acts⟩ := State.cmpHit_counts (s := s0) hend hcrossed
    obtain ⟨own, -⟩ := x.cmpDisarm_becomes n
    refine completes_run (f := fun s => s.cmpHit n) rfl ?_
    rw [acts.trans (if_pos hsp), own]
    exact ⟨(congrArg FbPort.cmpHits port :), (congrArg FbPort.cmpSkip port :), FbPort.cmpDir_disarmed _ _, (congrArg FbPort.behind port :)⟩
  case advances =>
    obtain ⟨x, e, port, acts⟩ := State.cmpHit_counts (s := s0) hend hcrossed
    have count : spacingsAhead f f.cmpNext f.cmpSpacing = (f.h - f.cmpNext).toNat / f.cmpSpacing + 1 := by rw [spacingsAhead, if_pos hdir]
    obtain ⟨ahead, first⟩ := spacing_ahead hsp hle
    obtain ⟨next, hits⟩ := State.cmpAdvance_up (s := x) (m := n) (v := f.cmpNext) ((congrArg FbPort.cmpDir port :).trans hdir) hsp
      (k := (f.h - f.cmpNext).toNat / f.cmpSpacing + 1) (by omega)
    refine completes_run (f := fun s => s.cmpHit n) rfl ?_
    rw [acts.trans ((if_neg hsp).trans (congrArg (x.cmpAdvance n f.cmpNext · f.cmpSpacing) count)), next, hits]
    refine ⟨(congrArg FbPort.cmpHits port :), ahead, first, ?_⟩
    rw [add_sub_cancel_left, Int.natCast_mul, Int.mul_emod_left]
  case lag => exact completes_run (f := fun s => s.divLag n) rfl (State.divLag_catchesUp (s := s0) hmode hlag)

end Sys2Proof.Machine
end

section
/-!
PROOFS. The drive links (R283 to R285): the start of a link and the measurement of its delays, the reply slots that are accepted or held, and the
failures that fault an axis or the whole link.
-/
namespace Sys2Proof.Machine
open Sys2Proof

/-! ### The stages of a link and their axes (R274) -/

section Chain

variable {s x : State} {l : Nat}

section Registers

variable (hregs : x.regs = s.regs)
include hregs

theorem State.stages_congr (l : Nat) : x.stages l = s.stages l := by rw [State.stages, State.stages, State.rf_congr hregs]

theorem State.axisStage_congr (n : Nat) : x.axisStage n = s.axisStage n := by
  simp only [State.axisStage, State.rb_congr hregs, State.rf_congr hregs]

theorem State.onLink_congr (n : Nat) : x.onLink n = s.onLink n := by
  rw [State.onLink, State.onLink, State.rb_congr hregs, State.rb_congr hregs]

theorem State.stageAxis_congr (l k : Nat) : x.stageAxis l k = s.stageAxis l k := by
  simp only [State.stageAxis, State.onLink_congr hregs, State.axisStage_congr hregs]

theorem State.linkAxes_congr (l : Nat) : x.linkAxes l = s.linkAxes l := by
  simp only [State.linkAxes, State.onLink_congr hregs, State.axisStage_congr hregs]

end Registers

theorem State.axisStage_of_stageAxis {k n : Nat} (h : s.stageAxis l k = some n) : s.axisStage n = (l, k) := by
  have found := List.find?_some h
  simp only [Bool.and_eq_true, beq_iff_eq] at found
  exact found.2

/-- A stage serves one axis, and an axis one stage. -/
theorem State.stageAxis_ne {i k n : Nat} (hi : s.stageAxis l i = some n) (hk : k ≠ i) : s.stageAxis l k ≠ some n := fun h =>
  hk (congrArg Prod.snd ((State.axisStage_of_stageAxis h).symm.trans (State.axisStage_of_stageAxis hi)))

end Chain

/-! ### Faults (R283, R284) -/

/-- `y` is `x` as a fault of its drive link leaves it: without torque, and with the reply of its stage as it stood. -/
structure Axis.CutOff (x y : Axis) : Prop where
  fault : y.fault = true
  off : y.mode = .off
  current : y.current = x.current
  held : y.heldReply = x.heldReply

theorem State.faultAxisOff_cutsOff (s : State) (n c : Nat) : ∃ y, s.MovesAs (s.faultAxisOff n c) n y ∧ (s.axis n).CutOff y := by
  have noted := s.setAxis_movesAs n ((s.axis n).faulted c)
  refine ⟨_, noted.trans (State.setAxis_movesAs _ n _), ⟨?_, rfl, ?_, ?_⟩⟩
  · exact (congrArg Axis.fault noted.1 :)
  · exact (congrArg Axis.current noted.1 :)
  · exact (congrArg Axis.heldReply noted.1 :)

/-- A link that enters FAULT takes the torque of all its axes. -/
theorem State.dlFault_faults (s : State) (l c : Nat) : ((s.dlFault l c).link l).phase = 3 ∧ ((s.dlFault l c).link l).cause = c ∧
    ∀ n ∈ s.linkAxes l, ((s.dlFault l c).axis n).fault = true ∧ ((s.dlFault l c).axis n).mode = .off := by
  unfold State.dlFault
  extract_lets s1
  have axes : s1.linkAxes l = s.linkAxes l := State.linkAxes_congr (State.raise_regs _ _ _ _) l
  have links : (forEach (s1.linkAxes l) (fun s n => s.faultAxisOff n 6) s1).links = s1.links :=
    (forEach_frame (fun _ _ h => State.faultAxisOff_frame (w := Part.axes) rfl h) _ (Frame.refl _ s1)).links rfl
  rw [State.link_congr links]
  refine ⟨by simp [s1], by simp [s1], fun n hn => ?_⟩
  refine forEach_axis (I := fun _ => True) (Q := fun _ y => y.fault = true ∧ y.mode = .off) (fun _ _ _ => trivial) (fun x k _ => ?_)
    (fun x k n hk => ?_) _ s1 trivial n (.inl (axes ▸ hn))
  · obtain ⟨y, ⟨own, -⟩, cut⟩ := x.faultAxisOff_cutsOff k 6
    rw [own]
    exact ⟨cut.fault, cut.off⟩
  · obtain ⟨y, ⟨-, others⟩, -⟩ := x.faultAxisOff_cutsOff k 6
    exact others n hk

/-! ### The start of a link (R285) -/

section Start

variable {s : State} {l : Nat}

theorem State.dlStart_starts (s : State) (l : Nat) : ((s.dlStart l).link l).phase = 1 ∧ ((s.dlStart l).link l).seqNext = 0 ∧
    ((s.dlStart l).link l).idleStart = (if s.standby then none else some s.lt) ∧ ∀ k, k ≠ l → (s.dlStart l).link k = s.link k := by
  simp +contextual [State.dlStart]

/-- RESTART is taken while no axis on the link has torque. -/
theorem State.dlRestart_starts (hen : s.linkEn l = true) (hoff : ∀ n ∈ s.linkAxes l, (s.axis n).mode = .off) :
    s.dlRestart l = s.dlStart l := by
  unfold State.dlRestart
  rw [when_of (by simpa [hen] using hoff)]

theorem State.dlRestart_discarded (h : ∃ n ∈ s.linkAxes l, (s.axis n).mode ≠ .off) : s.dlRestart l = s := by
  unfold State.dlRestart
  rw [when_not (by simpa using fun _ => h)]

theorem completes_dlRestart {l : Fin 8} {m : Fin 6} {post : State → Prop} (hm : s.mayAccess m false = true) (hd : s.domain 5 = true)
    (h : post (State.dlRestart { s with outs := [] } l)) : Completes (.dlRestart l m) s post := by
  have restarts : State.putReg { s with outs := [] } m .dlkCmd l 1 = State.dlRestart { s with outs := [] } l :=
    State.putReg_effect _ m .dlkCmd l 1 _ (dlkCmd_at l) hd hm (by decide) nofun (by decide) rfl
  refine completes_run (f := fun s => s.putReg m .dlkCmd l 1) rfl ?_
  rw [restarts]
  exact h

/-- After the K28.5 the measurement begins at stage 0. -/
theorem State.dlIdleEnd_measures {t0 : Ticks} (h : (s.link l).idleStart = some t0) : t0 + us 100 ≤ (s.dlIdleEnd l).time.lt ∧
    (s.dlIdleEnd l).link l = { s.link l with idleStart := none, loopStage := some 0, loopSent := 0 } := by
  unfold State.dlIdleEnd
  rw [h]
  exact ⟨State.le_passTo_lt s _, by simp⟩

variable {k : Nat} {trips : List Nat} (hstage : (s.link l).loopStage = some k) (hsent : 16 ≤ (s.link l).loopSent)
include hstage hsent

/-- The 16 round trips of a stage give its delay; the next stage follows, and after the last one the stages are cleared. -/
theorem State.dlMeasured_sets (hlen : trips.length = 16) (lo : 0 ≤ dlyOf (trips.foldl (· + ·) 0)) (hi : dlyOf (trips.foldl (· + ·) 0) ≤ 255) :
    Table.get 0 ((s.dlMeasured l trips).link l).dly k = (dlyOf (trips.foldl (· + ·) 0)).toNat ∧
    ((s.dlMeasured l trips).link l).loopStage = (if k + 1 < s.stages l then some (k + 1) else none) ∧
    ((s.dlMeasured l trips).link l).clearing = decide (s.stages l ≤ k + 1) := by
  have measured : ¬(trips.length ≠ 16 ∨ 255 < dlyOf (trips.foldl (· + ·) 0) ∨ dlyOf (trips.foldl (· + ·) 0) < 0) := by omega
  unfold State.dlMeasured
  dsimp only
  rw [hstage]
  dsimp only
  rw [when_of (decide_eq_true hsent), if_neg measured]
  by_cases last : s.stages l ≤ k + 1
  · simp [last]
  · simp [last, Nat.lt_of_not_le last]

/-- A stage that does not answer, or answers too late, faults the link. -/
theorem State.dlMeasured_fails (h : trips.length ≠ 16 ∨ 255 < dlyOf (trips.foldl (· + ·) 0)) : s.dlMeasured l trips = s.dlFault l 3 := by
  unfold State.dlMeasured
  dsimp only
  rw [hstage]
  dsimp only
  rw [when_of (decide_eq_true hsent), if_pos (h.imp_right .inl)]

end Start

/-! ### One reply slot (R283, R284) -/

/-- What judging a reply slot may change is set aside of a link. -/
def DlLink.slotsAside (d : DlLink) : DlLink := { d with held := 0, failRun := [], stg := [], stgFault := 0 }

/-- `t` is `s` with some reply slots of link `l` judged: the registers, the time and the rest of the link are as they were. -/
structure State.SameCycle (l : Nat) (s t : State) : Prop where
  regs : t.regs = s.regs
  time : t.time = s.time
  link : (t.link l).slotsAside = (s.link l).slotsAside

theorem State.SameCycle.refl (l : Nat) (s : State) : State.SameCycle l s s := ⟨rfl, rfl, rfl⟩

theorem State.SameCycle.trans {l : Nat} {s u t : State} (h : State.SameCycle l s u) (h' : State.SameCycle l u t) : State.SameCycle l s t :=
  ⟨h'.regs.trans h.regs, h'.time.trans h.time, h'.link.trans h.link⟩

/-- What is known of a stage: its axis, and how many of its replies in a row have failed. -/
def State.stageView (s : State) (l k : Nat) : Option Axis × Nat := ((s.stageAxis l k).map s.axis, Table.get 0 (s.link l).failRun k)

/-- `t` is `s` with the reply slot of stage `k` judged: the other stages and their axes are left alone. -/
structure State.JudgesSlot (l k : Nat) (s t : State) : Prop extends State.SameCycle l s t where
  runs : ∀ i, i ≠ k → Table.get 0 (t.link l).failRun i = Table.get 0 (s.link l).failRun i
  axes : ∀ n, s.stageAxis l k ≠ some n → t.axis n = s.axis n

theorem State.JudgesSlot.view_ne {l k i : Nat} {s t : State} (h : State.JudgesSlot l k s t) (hi : i ≠ k) : t.stageView l i = s.stageView l i := by
  rw [State.stageView, State.stageView, State.stageAxis_congr h.regs, h.runs i hi]
  cases hn : s.stageAxis l i with
  | none => rfl
  | some n => rw [Option.map_some, Option.map_some, h.axes n (State.stageAxis_ne hn hi.symm)]

section View

variable {l k n : Nat} {s x : State} (hview : x.stageView l k = s.stageView l k)
include hview

theorem State.axis_of_view (hx : x.stageAxis l k = some n) (hs : s.stageAxis l k = some n) : x.axis n = s.axis n := by
  have same : (x.stageAxis l k).map x.axis = (s.stageAxis l k).map s.axis := congrArg Prod.fst hview
  rw [hx, hs] at same
  exact Option.some.inj same

theorem State.failRun_of_view : Table.get 0 (x.link l).failRun k = Table.get 0 (s.link l).failRun k := congrArg Prod.snd hview

end View

section Slot

variable {l k n : Nat}

/-- An axis that takes an accepted reply: its current is the one replied, and a fault is one that the reply shows. -/
structure Axis.Takes (b : List Byte) (x y : Axis) : Prop where
  current : y.current = signedOf 16 (beAt b 2 2)
  held : y.heldReply = false
  fault : (beAt b 0 2).testBit 8 = false → y.fault = x.fault

/-- What an accepted reply does to its axis, and to its portal where it warns; `fault` is a fault that it shows and that counts. -/
def State.takeReply (s : State) (n : Nat) (b : List Byte) (fault : Bool) : State :=
  let t := s.modAxis n (fun x => { x with current := signedOf 16 (beAt b 2 2), heldReply := false })
  let u := if fieldOf (beAt b 0 2) 7 6 ≠ 0 then t.flag (n / 4) 3 else t
  if fault && !((u.axis n).fault && (u.axis n).mode == .off) then u.faultAxisOff n 6 else u

theorem State.takeReply_links (s : State) (n : Nat) (b : List Byte) (fault : Bool) : (s.takeReply n b fault).links = s.links := by
  unfold State.takeReply
  extract_lets t u
  have flagged : Frame (Part.portals ||| Part.axes) t u := Frame.ite (State.flag_frame rfl (Frame.refl _ t)) (Frame.refl _ t)
  exact (Frame.ite (State.faultAxisOff_frame rfl flagged) flagged).links rfl

theorem State.takeReply_takes (s : State) (n : Nat) (b : List Byte) (fault : Bool) (h : (beAt b 0 2).testBit 8 = false → fault = false) :
    ∃ y, s.MovesAs (s.takeReply n b fault) n y ∧ (s.axis n).Takes b y := by
  unfold State.takeReply
  extract_lets t u
  have flagged : Frame Part.portals t u := Frame.ite (State.flag_frame rfl (Frame.refl _ t)) (Frame.refl _ t)
  have taken := (s.setAxis_movesAs n { s.axis n with current := signedOf 16 (beAt b 2 2), heldReply := false }).then (flagged.axes rfl)
  split
  case isFalse => exact ⟨_, taken, rfl, rfl, fun _ => rfl⟩
  case isTrue faults =>
    obtain ⟨y, moves, cut⟩ := u.faultAxisOff_cutsOff n 6
    rw [taken.1] at cut
    refine ⟨y, taken.trans moves, cut.current, cut.held, fun clear => ?_⟩
    rw [h clear] at faults
    exact absurd faults Bool.false_ne_true

/-- An accepted reply slot is noted on its link, and its axis takes it. -/
theorem State.slotTaken_notes (s : State) (l k : Nat) (b : List Byte) : ∃ (x : State) (stg : Table Nat) (shown : Nat) (fault : Bool),
    x.axes = s.axes ∧ x.link l = { s.link l with stg := stg, failRun := Table.set 0 (s.link l).failRun k 0, stgFault := shown } ∧
    ((beAt b 0 2).testBit 8 = false → fault = false) ∧ (s.stageAxis l k = none → s.slotTaken l k b = x) ∧
    ∀ n, s.stageAxis l k = some n → s.slotTaken l k b = x.takeReply n b fault := by
  unfold State.slotTaken
  extract_lets d st old code mute flt word s1 up i s2 s3 s4
  have h2 : Frame (Part.rcd ||| Part.cnt) s1 s2 := Frame.ite (State.raise_frame rfl (Frame.refl _ s1)) (Frame.refl _ s1)
  have h3 : Frame (Part.rcd ||| Part.cnt) s1 s3 := Frame.ite (State.raise_frame rfl h2) h2
  have noted : Frame (Part.rcd ||| Part.cnt) s1 s4 := Frame.ite (State.raise_frame rfl h3) h3
  have stage : s4.stageAxis l k = s.stageAxis l k := State.stageAxis_congr (noted.regs rfl) l k
  refine ⟨s4, _, _, flt, noted.axes rfl, (State.link_congr (noted.links rfl) l).trans ((State.link_setLink ..).trans (if_pos rfl)),
    fun h => ?_, fun h => ?_, fun n h => ?_⟩
  · simp [flt, st, h]
  · rw [stage, h]
  · rw [stage, h]
    rfl

theorem State.slotTaken_link (s : State) (l k : Nat) (b : List Byte) : ∃ stg shown, (s.slotTaken l k b).link l =
    { s.link l with stg := stg, failRun := Table.set 0 (s.link l).failRun k 0, stgFault := shown } := by
  obtain ⟨x, stg, shown, fault, -, link, -, hnone, hsome⟩ := s.slotTaken_notes l k b
  refine ⟨stg, shown, Eq.trans (State.link_congr ?_ l) link⟩
  cases h : s.stageAxis l k with
  | none => rw [hnone h]
  | some n => rw [hsome n h, State.takeReply_links]

theorem State.slotTaken_takes {s : State} (h : s.stageAxis l k = some n) (b : List Byte) :
    ∃ y, s.MovesAs (s.slotTaken l k b) n y ∧ (s.axis n).Takes b y := by
  obtain ⟨x, -, -, fault, axes, -, clear, -, hsome⟩ := s.slotTaken_notes l k b
  have same : ∀ i, x.axis i = s.axis i := fun i => by rw [State.axis, State.axis, axes]
  obtain ⟨y, ⟨own, others⟩, takes⟩ := x.takeReply_takes n b fault clear
  rw [same] at takes
  rw [hsome n h]
  exact ⟨y, ⟨own, fun i hi => (others i hi).trans (same i)⟩, takes⟩

theorem State.slotTaken_judges (s : State) (l k : Nat) (b : List Byte) : State.JudgesSlot l k s (s.slotTaken l k b) := by
  have frame : Frame (Part.rcd ||| Part.cnt ||| Part.portals ||| Part.axes ||| Part.links) s (s.slotTaken l k b) :=
    State.slotTaken_frame rfl (Frame.refl _ s)
  obtain ⟨stg, shown, link⟩ := s.slotTaken_link l k b
  refine ⟨⟨frame.regs rfl, frame.time rfl, by rw [link]; rfl⟩, fun i hi => ?_, fun n hn => ?_⟩
  · rw [link]
    exact Table.get_set_ne 0 (s.link l).failRun 0 hi
  · cases h : s.stageAxis l k with
    | none =>
      obtain ⟨x, -, -, -, axes, -, -, hnone, -⟩ := s.slotTaken_notes l k b
      rw [hnone h, State.axis, State.axis, axes]
    | some m =>
      obtain ⟨y, ⟨-, others⟩, -⟩ := State.slotTaken_takes h b
      exact others n fun e => hn (e ▸ h)

/-- An axis whose reply is held: its current is the last valid one, and a second failure in a row cuts it off. -/
structure Axis.Holds (failed : Nat) (x y : Axis) : Prop where
  held : y.heldReply = true
  current : y.current = x.current
  lost : failed ≠ 0 → y.fault = true ∧ y.mode = .off

/-- A reply slot that is not accepted is noted on its link. -/
theorem State.slotHeld_link (s : State) (l k : Nat) : (s.slotHeld l k).link l =
    { s.link l with failRun := Table.set 0 (s.link l).failRun k (Table.get 0 (s.link l).failRun k + 1), held := (s.link l).held ||| 2 ^ k } := by
  unfold State.slotHeld
  extract_lets n1 s1
  have noted : s1.link l = { s.link l with failRun := Table.set 0 (s.link l).failRun k n1, held := (s.link l).held ||| 2 ^ k } := by simp [s1]
  rw [← noted]
  split
  case h_1 => rfl
  case h_2 n _ =>
    extract_lets s2
    have marked : Frame (Part.rcd ||| Part.cnt ||| Part.portals ||| Part.axes) s1 s2 :=
      State.flag_frame rfl (State.modAxis_frame rfl (Frame.refl _ s1))
    refine State.link_congr (Frame.links (w := Part.rcd ||| Part.cnt ||| Part.portals ||| Part.axes) ?_ rfl) l
    exact Frame.ite (State.raise_frame rfl marked) (Frame.ite marked (State.raise_frame rfl (State.faultAxisOff_frame rfl marked)))

theorem State.slotHeld_holds {s : State} (h : s.stageAxis l k = some n) :
    ∃ y, s.MovesAs (s.slotHeld l k) n y ∧ (s.axis n).Holds (Table.get 0 (s.link l).failRun k) y := by
  unfold State.slotHeld
  extract_lets n1 s1
  split
  case h_1 unserved => exact absurd (h.symm.trans unserved) nofun
  case h_2 i served =>
    obtain rfl : n = i := Option.some.inj (h.symm.trans served)
    extract_lets s2
    have marked : s.MovesAs s2 n { s.axis n with heldReply := true } := s1.setAxis_movesAs _ _
    split
    case isTrue first => exact ⟨_, marked.then (State.raise_axes _ _ _ _), rfl, rfl, fun again => absurd (Nat.succ.inj first) again⟩
    case isFalse =>
      split
      case isTrue gone =>
        simp only [Bool.and_eq_true, beq_iff_eq, marked.1] at gone
        exact ⟨_, marked, rfl, rfl, fun _ => gone.1⟩
      case isFalse =>
        obtain ⟨y, moves, cut⟩ := s2.faultAxisOff_cutsOff n 6
        rw [marked.1] at cut
        exact ⟨y, (marked.trans moves).then (State.raise_axes _ _ _ _), cut.held, cut.current, fun _ => ⟨cut.fault, cut.off⟩⟩

theorem State.slotHeld_judges (s : State) (l k : Nat) : State.JudgesSlot l k s (s.slotHeld l k) := by
  have frame : Frame (Part.rcd ||| Part.cnt ||| Part.portals ||| Part.axes ||| Part.links) s (s.slotHeld l k) :=
    State.slotHeld_frame rfl (Frame.refl _ s)
  refine ⟨⟨frame.regs rfl, frame.time rfl, by rw [State.slotHeld_link]; rfl⟩, fun i hi => ?_, fun n hn => ?_⟩
  · rw [State.slotHeld_link]
    exact Table.get_set_ne 0 (s.link l).failRun (Table.get 0 (s.link l).failRun k + 1) hi
  · cases h : s.stageAxis l k with
    | none =>
      unfold State.slotHeld
      extract_lets n1 s1
      rw [show s1.stageAxis l k = none from h]
      rfl
    | some m =>
      obtain ⟨y, ⟨-, others⟩, -⟩ := State.slotHeld_holds h
      exact others n fun e => hn (e ▸ h)

end Slot

/-! ### All reply slots of a cycle (R283) -/

section Slots

variable {l m : Nat} {f : State → Nat → State} (hf : ∀ s k, State.JudgesSlot l k s (f s k))
include hf

theorem forEach_sameCycle (s : State) : State.SameCycle l s (forEach (List.range m) f s) :=
  List.foldlRecOn (motive := State.SameCycle l s) _ _ (.refl l s) fun _ h i _ => h.trans (hf _ i).toSameCycle

/-- Each stage is judged once, in the same cycle and with its axis and its failures as they were. -/
theorem forEach_judges {k : Nat} (s : State) (hk : k < m) : ∃ x : State, State.SameCycle l s x ∧ x.stageView l k = s.stageView l k ∧
    (forEach (List.range m) f s).stageView l k = (f x k).stageView l k :=
  forEach_visits (unit := fun s => s.stageView l) (I := State.SameCycle l s) (fun s i _ h => (hf s i).view_ne h)
    (fun x i h => h.trans (hf x i).toSameCycle) _ List.nodup_range s (.refl l s) (List.mem_range.2 hk)

/-- What judging a stage makes of its axis is what becomes of the axis. -/
theorem forEach_judges_axis {k n : Nat} {s : State} (hk : k < m) (hn : s.stageAxis l k = some n) {R : Nat → Axis → Axis → Prop}
    (h : ∀ x : State, State.SameCycle l s x → x.stageAxis l k = some n →
      ∃ y, x.MovesAs (f x k) n y ∧ R (Table.get 0 (x.link l).failRun k) (x.axis n) y) :
    R (Table.get 0 (s.link l).failRun k) (s.axis n) ((forEach (List.range m) f s).axis n) := by
  obtain ⟨x, same, view, judged⟩ := forEach_judges hf s hk
  have stage : ∀ {t : State}, State.SameCycle l s t → t.stageAxis l k = some n := fun h => (State.stageAxis_congr h.regs l k).trans hn
  obtain ⟨y, ⟨own, -⟩, r⟩ := h x same (stage same)
  rw [State.axis_of_view judged (stage (forEach_sameCycle hf s)) (stage (same.trans (hf x k).toSameCycle)), own]
  rwa [State.axis_of_view view (stage same) hn, State.failRun_of_view view] at r

end Slots

/-! ### The end of a cycle (R284, R285) -/

section Cycle

variable {s x : State} {l : Nat}

/-- The present downlink frame and the time are what a reply slot is accepted by. -/
theorem State.slotOk_congr (h : State.SameCycle l s x) (f : List Byte) (k : Nat) : x.slotOk l f k = s.slotOk l f k := by
  have seq : (x.link l).seqLast = (s.link l).seqLast := (congrArg DlLink.seqLast h.link :)
  have sent : (x.link l).sentB = (s.link l).sentB := (congrArg DlLink.sentB h.link :)
  have lt : x.lt = s.lt := by rw [State.lt, State.lt, h.time]
  rw [State.slotOk, State.slotOk, seq, sent, lt]

/-- A cycle brings a link nearer to RUN while it starts, and at no other time. -/
theorem State.dlProgress_idle (h : (s.link l).phase ≠ 1) : s.dlProgress l = s := by
  unfold State.dlProgress
  exact if_neg fun start => h start.1

theorem State.dlProgress_keeps (s : State) (l : Nat) : (s.dlProgress l).axes = s.axes ∧
    ((s.dlProgress l).link l).replied = (s.link l).replied ∧ ((s.dlProgress l).link l).held = (s.link l).held := by
  refine ⟨(State.dlProgress_frame (w := Part.rcd ||| Part.cnt ||| Part.links) rfl (Frame.refl _ s)).axes rfl, ?_⟩
  unfold State.dlProgress
  dsimp only
  split_ifs <;> simp

/-- A first bad cycle is counted. -/
theorem State.chainBad_first (h : (s.link l).seenBad = 0) (c : Nat) : s.chainBad l c = s.setLink l { s.link l with seenBad := 1 } := by
  unfold State.chainBad
  dsimp only
  rw [h]
  exact if_neg (by omega)

/-- A second one in a row faults the link. -/
theorem State.chainBad_second (h : (s.link l).seenBad ≠ 0) (hphase : (s.link l).phase ≠ 3) (c : Nat) :
    ∃ x : State, x.regs = s.regs ∧ s.chainBad l c = x.dlFault l c := by
  unfold State.chainBad
  extract_lets r s1
  exact ⟨s1, rfl, if_pos ⟨by omega, hphase⟩⟩

end Cycle

/-! ### A reply (R283, R284) -/

section Reply

variable {s : State} {l : Nat} (hsent : (s.link l).sent = true) (hreplied : (s.link l).replied = false) (hloop : (s.link l).loopStage = none)

/-- A reply slot is accepted or held. -/
def State.judgeSlot (l : Nat) (f : List Byte) (s : State) (k : Nat) : State :=
  if s.slotOk l f k then s.slotTaken l k (upSlot f k) else s.slotHeld l k

theorem State.judgeSlot_judges (f : List Byte) (s : State) (k : Nat) : State.JudgesSlot l k s (s.judgeSlot l f k) := by
  unfold State.judgeSlot
  split
  · exact s.slotTaken_judges l k _
  · exact s.slotHeld_judges l k

/-- A link as its reply comes in. -/
def State.replyBegins (s : State) (l : Nat) (f : List Byte) : State :=
  s.setLink l { s.link l with replied := true, held := 0, seen := min 8 (byteAt f 1),
                              seqNext := if s.standby then (beAt f 2 2 + 1) % 65536 else (s.link l).seqNext }

/-- The reply slots of all stages, judged in turn. -/
def State.replyJudged (s : State) (l : Nat) (f : List Byte) : State :=
  forEach (List.range (s.stages l)) (State.judgeSlot l f) (s.replyBegins l f)

theorem State.replyBegins_slotOk (s : State) (l : Nat) (f : List Byte) (k : Nat) : (s.replyBegins l f).slotOk l f k = s.slotOk l f k := by
  simp [State.slotOk, State.replyBegins]

include hsent hreplied hloop in
theorem State.dlReply_seen {f : List Byte} (hseen : byteAt f 1 = s.stages l) : ∃ x : State, x = (s.replyJudged l f).dlProgress l ∧
    s.dlReply l f = x.setLink l { x.link l with seenBad := 0 } := by
  unfold State.dlReply
  dsimp only
  rw [when_of (by simp [hsent, hreplied, hloop]), if_pos hseen]
  exact ⟨_, rfl, rfl⟩

variable {f : List Byte} (hok : ∀ k, k < s.stages l → s.slotOk l f k = true)
include hok

/-- Where every slot is accepted none is held. -/
theorem State.replyJudged_link : ((s.replyJudged l f).link l).replied = true ∧ ((s.replyJudged l f).link l).held = 0 := by
  have judged : State.SameCycle l (s.replyBegins l f) (s.replyJudged l f) := forEach_sameCycle (State.judgeSlot_judges f) _
  refine ⟨(congrArg DlLink.replied judged.link :).trans (by simp [State.replyBegins, DlLink.slotsAside]), ?_⟩
  refine (List.foldlRecOn (motive := fun x => State.SameCycle l (s.replyBegins l f) x ∧ (x.link l).held = 0) (List.range (s.stages l))
    (State.judgeSlot l f) (b := s.replyBegins l f) ⟨.refl l _, ?begins⟩ fun x h k hk =>
    ⟨h.1.trans (x.judgeSlot_judges f k).toSameCycle, ?_⟩).2
  case begins => simp [State.replyBegins]
  obtain ⟨same, held⟩ := h
  have accepted : x.slotOk l f k = true :=
    (State.slotOk_congr same f k).trans ((s.replyBegins_slotOk l f k).trans (hok k (List.mem_range.1 hk)))
  obtain ⟨stg, shown, link⟩ := x.slotTaken_link l k (upSlot f k)
  rw [State.judgeSlot, if_pos accepted, link]
  exact held

theorem State.replyJudged_takes {k n : Nat} (hk : k < s.stages l) (hn : s.stageAxis l k = some n) :
    (s.axis n).Takes (upSlot f k) ((s.replyJudged l f).axis n) :=
  forEach_judges_axis (s := s.replyBegins l f) (State.judgeSlot_judges f) hk hn (R := fun _ => Axis.Takes (upSlot f k)) fun x same stage => by
    have accepted : x.slotOk l f k = true := (State.slotOk_congr same f k).trans ((s.replyBegins_slotOk l f k).trans (hok k hk))
    rw [State.judgeSlot, if_pos accepted]
    exact State.slotTaken_takes stage _

end Reply

/-! ### No reply (R283, R284) -/

section Timeout

variable {s : State} {l : Nat}

/-- The link 13 us after the boundary, with its reply given up. -/
def State.replyMissed (s : State) (l : Nat) : State :=
  (s.passTo ((s.link l).sentB + us 13)).setLink l { s.link l with replied := true, held := 0 }

/-- The reply slots of all stages, held in turn. -/
def State.missedJudged (s : State) (l : Nat) : State := forEach (List.range (s.stages l)) (fun s k => s.slotHeld l k) (s.replyMissed l)

theorem State.missedJudged_sameCycle (s : State) (l : Nat) : State.SameCycle l (s.replyMissed l) (s.missedJudged l) :=
  forEach_sameCycle (fun s k => s.slotHeld_judges l k) _

theorem State.replyMissed_regs (s : State) (l : Nat) : (s.replyMissed l).regs = s.regs := State.passTo_regs s _

theorem State.missedJudged_link (s : State) (l : Nat) : ((s.missedJudged l).link l).phase = (s.link l).phase ∧
    ((s.missedJudged l).link l).seenBad = (s.link l).seenBad := by
  have same := (s.missedJudged_sameCycle l).link
  have missed : (s.replyMissed l).link l = { s.link l with replied := true, held := 0 } := by simp [State.replyMissed]
  rw [missed] at same
  exact ⟨(congrArg DlLink.phase same :), (congrArg DlLink.seenBad same :)⟩

theorem State.missedJudged_time (s : State) (l : Nat) : (s.link l).sentB + us 13 ≤ (s.missedJudged l).time.lt :=
  (State.le_passTo_lt s _).trans_eq (congrArg TimeUnit.lt (s.missedJudged_sameCycle l).time).symm

theorem State.missedJudged_holds {k n : Nat} (hk : k < s.stages l) (hn : s.stageAxis l k = some n) :
    (s.axis n).Holds (Table.get 0 (s.link l).failRun k) ((s.missedJudged l).axis n) := by
  have held := forEach_judges_axis (s := s.replyMissed l) (fun s k => s.slotHeld_judges l k) hk
    ((State.stageAxis_congr (s.replyMissed_regs l) l k).trans hn) (R := Axis.Holds) fun x _ stage => State.slotHeld_holds stage
  have missed : (s.replyMissed l).link l = { s.link l with replied := true, held := 0 } := by simp [State.replyMissed]
  have axis : (s.replyMissed l).axis n = s.axis n := by simp [State.replyMissed]
  rwa [missed, axis] at held

variable (hsent : (s.link l).sent = true) (hreplied : (s.link l).replied = false) (hloop : (s.link l).loopStage = none)
  (hphase : (s.link l).phase = 2)
include hsent hreplied hloop hphase

/-- In RUN a cycle without a reply holds every slot, and is a bad one for the chain. -/
theorem State.dlTimeout_holds : s.dlTimeout l = (s.missedJudged l).chainBad l 2 := by
  have run : ((s.missedJudged l).link l).phase ≠ 1 := by rw [(s.missedJudged_link l).1, hphase]; decide
  rw [← State.dlProgress_idle run]
  unfold State.dlTimeout
  dsimp only
  rw [when_of (by simp [hsent, hreplied, hloop])]
  simp [State.missedJudged, State.replyMissed]

end Timeout

/-- Settles O40: each case by the lemma that says what the start, the measurement, the judged slots or the chain do. -/
theorem driveLinksStartAndCheckReplies : Obligations.DriveLinksStartAndCheckReplies := by
  intro s l d stage
  let s0 : State := { s with outs := [] }
  refine ⟨fun m hm hd hen hoff => ?starts, fun m hm hd h => ?discarded, fun t0 h => ?idleEnd, fun k trips hstage hmeasured =>
    ⟨fun hlen lo hi => ?measured, fun h => ?unanswered⟩, fun hsent hreplied hloop =>
    ⟨fun f hseen hok => ?replied, fun hphase hbad => ?missed, fun hphase hbad => ?lost⟩⟩
  case starts =>
    refine completes_dlRestart hm hd ?_
    rw [State.dlRestart_starts (s := s0) hen hoff]
    exact State.dlStart_starts s0 l
  case discarded => exact completes_dlRestart hm hd (by rw [State.dlRestart_discarded (s := s0) h])
  case idleEnd => exact completes_run (f := fun s => s.dlIdleEnd l) rfl (State.dlIdleEnd_measures (s := s0) h)
  case measured =>
    exact completes_run (f := fun s => s.dlMeasured l trips) rfl (State.dlMeasured_sets (s := s0) hstage hmeasured hlen lo hi)
  case unanswered =>
    refine completes_run (f := fun s => s.dlMeasured l trips) rfl ?_
    rw [State.dlMeasured_fails (s := s0) hstage hmeasured h]
    exact State.dlFault_faults s0 l 3
  case replied =>
    obtain ⟨x, hx, acts⟩ := State.dlReply_seen (s := s0) hsent hreplied hloop hseen
    obtain ⟨axes, replied, held⟩ := (s0.replyJudged l f).dlProgress_keeps l
    obtain ⟨replied', held'⟩ := State.replyJudged_link (s := s0) hok
    rw [← hx] at axes replied held
    refine completes_run (f := fun s => s.dlReply l f) rfl ?_
    rw [acts]
    simp only [State.link_setLink, if_true, State.axis_setLink]
    refine ⟨replied.trans replied', trivial, held.trans held', fun k n ⟨hk, hn⟩ => ?_⟩
    obtain ⟨current, held, fault⟩ := State.replyJudged_takes (s := s0) hok hk hn
    rw [State.axis, axes]
    exact ⟨current, held, fault⟩
  case missed =>
    obtain ⟨phase, bad⟩ := s0.missedJudged_link l
    refine completes_run (f := fun s => s.dlTimeout l) rfl ?_
    rw [State.dlTimeout_holds (s := s0) hsent hreplied hloop hphase, State.chainBad_first (bad.trans hbad)]
    simp only [State.link_setLink, if_true, State.axis_setLink, State.setLink_time]
    refine ⟨phase.trans hphase, trivial, s0.missedJudged_time l, fun k n ⟨hk, hn⟩ => ?_⟩
    obtain ⟨held, current, lost⟩ := State.missedJudged_holds (s := s0) hk hn
    exact ⟨held, current, lost⟩
  case lost =>
    obtain ⟨phase, bad⟩ := s0.missedJudged_link l
    obtain ⟨x, regs, faults⟩ := State.chainBad_second (s := s0.missedJudged l) (l := l) (by rwa [bad])
      (by rw [phase]; exact ne_of_eq_of_ne hphase (by decide)) 2
    have regs' : x.regs = s.regs := regs.trans ((s0.missedJudged_sameCycle l).regs.trans (s0.replyMissed_regs l))
    refine completes_run (f := fun s => s.dlTimeout l) rfl ?_
    rw [State.dlTimeout_holds (s := s0) hsent hreplied hloop hphase, faults, ← State.linkAxes_congr regs']
    exact x.dlFault_faults l 2

end Sys2Proof.Machine
end

section
/-!
PROOFS. The faults of the safety functions and the off-pulses (R296, R301, R305, R307, R308, R311, R313, R320, R321): what each check latches, and
that the permit goes with a fault that withdraws SO0 and SO1.
-/
namespace Sys2Proof.Machine
open Sys2Proof

/-! ### The permit goes (R321) -/

theorem State.standby_congr {s x : State} (hsys : x.sys = s.sys) (htwin : x.twin = s.twin) : x.standby = s.standby := by
  simp only [State.standby, State.holder, hsys, htwin]

theorem State.driveEnable_congr {s x : State} (hsys : x.sys = s.sys) (htwin : x.twin = s.twin) : x.driveEnable = s.driveEnable := by
  simp only [State.driveEnable, State.operational, State.holder, hsys, htwin]

/-- WITHDRAW_PERMIT asks nothing of any portal. -/
theorem State.applyAction_withdraw (s : State) (mask : Nat) (acc : Option Ticks) :
    ((s.noteLock 8).applyAction 8 mask acc).1 = { s with seq := { s.seq with withdraw := true, lockLater := false } } := by
  simp [State.noteLock, State.applyAction]

/-- Beside the permit only the record of the action is written. -/
theorem State.faultWithdraw_keeps (s : State) : Frame (Part.rcd ||| Part.cnt ||| Part.seq) s s.faultWithdraw := by
  unfold State.faultWithdraw
  refine when_frame (fun x h => h.trans ?_) (Frame.refl _ s)
  have records := x.execute_records 8 0 false x.tt none
  rw [State.applyAction_withdraw] at records
  refine Frame.trans ?_ (records.mono rfl)
  exact Frame.set_seq rfl (fun _ => ⟨rfl, rfl⟩) (Frame.refl _ x)

@[simp] theorem State.faultWithdraw_ilk (s : State) : s.faultWithdraw.ilk = s.ilk := s.faultWithdraw_keeps.ilk rfl
@[simp] theorem State.faultWithdraw_time (s : State) : s.faultWithdraw.time = s.time := s.faultWithdraw_keeps.time rfl
@[simp] theorem State.so_faultWithdraw (s : State) (k : Nat) : s.faultWithdraw.so k = s.so k := by
  rw [State.so, State.so, State.faultWithdraw_ilk]
@[simp] theorem State.mon_faultWithdraw (s : State) (i : Nat) : s.faultWithdraw.mon i = s.mon i := by
  rw [State.mon, State.mon, State.faultWithdraw_ilk]

/-- In `t` the permit is gone, unless the device was the standby, which executes no action (R524). -/
def State.PermitGone (s t : State) : Prop := s.standby = false → t.seq.withdraw = true

theorem State.faultWithdraw_permitGone {s x : State} (hsys : x.sys = s.sys) (htwin : x.twin = s.twin) : s.PermitGone x.faultWithdraw := by
  intro active
  have holds : (!x.standby) = true := by rw [State.standby_congr hsys htwin, active]; rfl
  have records := x.execute_records 8 0 false x.tt none
  rw [State.applyAction_withdraw] at records
  rw [State.faultWithdraw, when_of holds, records.seq rfl]

/-! ### The parameter watch (R313) -/

@[simp] theorem State.safetyLog_ilk (s : State) (kind key oldV newV oldP newP : Nat) (dig8 : List Byte) :
    (s.safetyLog kind key oldV newV oldP newP dig8).ilk = { s.ilk with logCnt := s.ilk.logCnt + 1 } := by
  unfold State.safetyLog
  dsimp only
  split <;> simp

theorem State.safetyLog_keeps (s : State) (kind key oldV newV oldP newP : Nat) (dig8 : List Byte) :
    Frame (Part.rcd ||| Part.cnt ||| Part.ilk ||| Part.mem) s (s.safetyLog kind key oldV newV oldP newP dig8) :=
  State.safetyLog_frame rfl (Frame.refl _ s)

/-- The watch latches its fault, and the change stands in the safety change log. -/
theorem State.pcrcTrip_trips {s : State} (h : s.ilk.pcrcFault = false) (off : Nat) :
    (s.pcrcTrip off).ilk = { s.ilk with pcrcFault := true, logCnt := s.ilk.logCnt + 1 } ∧ s.PermitGone (s.pcrcTrip off) := by
  unfold State.pcrcTrip
  rw [when_of (by rw [h]; rfl)]
  refine ⟨by simp, State.faultWithdraw_permitGone ?_ ?_⟩
  · rw [(State.safetyLog_keeps _ _ _ _ _ _ _ _).sys rfl, State.raise_sys]
  · rw [(State.safetyLog_keeps _ _ _ _ _ _ _ _).twin rfl, State.raise_twin]

theorem State.ilkParams_congr {s x : State} (h : x.regs = s.regs) : x.ilkParams = s.ilkParams := by
  simp only [State.ilkParams, State.ilkWord, State.reg, h]

theorem State.pcrcCompute_ilk (s : State) : s.pcrcCompute.ilk = { s.ilk with pcrcNow := crc32c s.ilkParams } := (rfl)

/-- Without a reference, on a match and once the fault has latched, the check only takes the CRC. -/
theorem State.paramCrc_quiet {s : State} (h : s.ilk.applied = [] ∨ crc32c s.ilkParams = s.ilk.pcrcRef ∨ s.ilk.pcrcFault = true) :
    s.paramCrc.ilk = { s.ilk with pcrcNow := crc32c s.ilkParams } := by
  unfold State.paramCrc
  dsimp only
  rw [State.pcrcCompute_ilk]
  split
  · exact s.pcrcCompute_ilk
  · next differs =>
    have latched : s.ilk.pcrcFault = true := (h.resolve_left fun h => differs (.inl h)).resolve_left fun h => differs (.inr h)
    rw [State.pcrcTrip, when_not (by rw [State.pcrcCompute_ilk, latched]; rfl), State.pcrcCompute_ilk]

/-- A CRC that differs from the reference trips the watch. -/
theorem State.paramCrc_trips {s : State} (happlied : s.ilk.applied ≠ []) (hne : crc32c s.ilkParams ≠ s.ilk.pcrcRef)
    (hf : s.ilk.pcrcFault = false) :
    s.paramCrc.ilk = { s.ilk with pcrcNow := crc32c s.ilkParams, pcrcFault := true, logCnt := s.ilk.logCnt + 1 } ∧ s.PermitGone s.paramCrc := by
  obtain ⟨ilk, gone⟩ := State.pcrcTrip_trips (s := s.pcrcCompute) (by rw [State.pcrcCompute_ilk, hf]) s.pcrcCompute.firstDiffer
  unfold State.paramCrc
  dsimp only
  rw [State.pcrcCompute_ilk, if_neg (not_or.2 ⟨happlied, hne⟩), ilk, State.pcrcCompute_ilk]
  have computes : Frame Part.ilk s s.pcrcCompute := State.pcrcCompute_frame rfl (Frame.refl _ s)
  exact ⟨rfl, fun active => gone ((State.standby_congr (computes.sys rfl) (computes.twin rfl)).trans active)⟩

/-! ### Channel A (R296) -/

theorem State.soLevel_cmd (s : State) (k : Nat) (v : Bool) : ((s.soLevel k v).so k).cmd = v := by
  unfold State.soLevel
  split
  · assumption
  · simp

theorem State.so_soLevel_ne (s : State) {j k : Nat} (v : Bool) (h : j ≠ k) : (s.soLevel k v).so j = s.so j := by
  unfold State.soLevel
  split
  · rfl
  · simp [h]

/-- The two outputs of a channel take the levels that it is given. -/
theorem State.driveSo_cmd (s : State) (b v0 v1 : Bool) : ((s.driveSo b v0 v1).so (b2n b)).cmd = v0 ∧ ((s.driveSo b v0 v1).so (2 + b2n b)).cmd = v1 := by
  have levels : ∀ x : State, (((x.soLevel (b2n b) v0).soLevel (2 + b2n b) v1).so (b2n b)).cmd = v0 ∧
      (((x.soLevel (b2n b) v0).soLevel (2 + b2n b) v1).so (2 + b2n b)).cmd = v1 := fun x =>
    ⟨by rw [State.so_soLevel_ne _ _ (by omega), State.soLevel_cmd], State.soLevel_cmd _ _ _⟩
  unfold State.driveSo
  dsimp only
  split
  · exact levels s.soRecord
  · exact levels s.soRecord

/-- A portal in use whose switches do not agree with LOCKED withdraws an output of channel A. -/
theorem State.channelALevel_withdrawn {s : State} {p k : Nat} (hp : p ∈ s.enabledPortals) (h : s.lockedSwitches p k = false) :
    s.channelALevel k = false := by
  have refused : (s.enabledPortals.all fun p => s.permits p k && s.lockedSwitches p k) = false :=
    List.all_eq_false.2 ⟨p, hp, by simp [h]⟩
  simp [State.channelALevel, refused]

/-! ### The cross-check (R301) -/

theorem State.crossFault_latches {s : State} {k : Nat} {t0 : Ticks} (h : Table.get none s.ilk.xSince k = some t0) :
    t0 + ms (s.rf .ilkXchk 0 13 0) ≤ (s.crossFault k).time.lt ∧ (s.crossFault k).ilk.xchk = true ∧ s.PermitGone (s.crossFault k) := by
  simp only [State.crossFault, h]
  refine ⟨?_, by simp, State.faultWithdraw_permitGone (by simp) (by simp)⟩
  simpa using State.le_passTo_lt s _

/-! ### Two-channel pairs (R305) -/

section Pairs

variable {s : State} {i : Nat}

/-- The count has reached N, and the fault latches. -/
theorem State.discLatch_latches (hdiffer : (s.pair i).differ = true) (hdisc : (s.pair i).disc = false)
    (hcount : s.rf .ilkPairB i 10 0 ≤ s.discCount i) : (s.discLatch i).regs = s.regs ∧ (s.discLatch i).time = s.time ∧
    ∀ j, (s.discLatch i).pair j = if j = i then { s.pair i with disc := true } else s.pair j := by
  have reached : ((s.pair i).differ && !(s.pair i).disc && decide (s.rf .ilkPairB i 10 0 ≤ s.discCount i)) = true := by
    simp [hdiffer, hdisc, hcount]
  simp [State.discLatch, reached]

theorem discTick_reached {a n t : Nat} (h : (a + n) * discTick ≤ t) : n ≤ t / discTick - a := by
  have := (Nat.le_div_iff_mul_le (show 0 < discTick by decide)).2 h
  omega

theorem State.discrepancy_latches (hen : s.pairEn i = true) (hdiffer : (s.pair i).differ = true) (hdisc : (s.pair i).disc = false) :
    ((s.pair i).diffAt / discTick + s.rf .ilkPairB i 10 0) * discTick ≤ (s.discrepancy i).time.lt ∧ ((s.discrepancy i).pair i).disc = true ∧
    ((s.discrepancy i).pair i).value = s.rb .ilkPairB i 11 ∧ ∀ j, j ≠ i → (s.discrepancy i).pair j = s.pair j := by
  have due := State.le_passTo_lt s (((s.pair i).diffAt / discTick + s.rf .ilkPairB i 10 0) * discTick)
  unfold State.discrepancy
  dsimp only
  rw [when_of (by simp [hen, hdiffer, hdisc])]
  generalize hx : s.passTo _ = x at due ⊢
  have pairs : ∀ j, x.pair j = s.pair j := fun j => by rw [← hx, State.pair_passTo]
  have regs : x.regs = s.regs := by rw [← hx, State.passTo_regs]
  have count : x.rf .ilkPairB i 10 0 ≤ x.discCount i := by
    rw [State.rf_congr regs, State.discCount, pairs]
    exact discTick_reached due
  obtain ⟨regs', time, latched⟩ := State.discLatch_latches (s := x) (by rw [pairs, hdiffer]) (by rw [pairs, hdisc]) count
  have value : (x.discLatch i).pairValue i = s.rb .ilkPairB i 11 := by
    rw [State.pairValue, latched, if_pos rfl, State.rb_congr (regs'.trans regs)]
    rfl
  rw [← time] at due
  refine ⟨by simpa using due, by simp [latched], by simp [value], fun j hj => ?_⟩
  simp [hj, latched, pairs]

end Pairs

/-! ### Contactor feedback (R311) -/

section Monitors

variable {s : State} {i : Nat}

theorem State.monWithdraws_congr {x : State} (h : x.regs = s.regs) (i : Nat) : x.monWithdraws i = s.monWithdraws i := by
  rw [State.monWithdraws, State.monWithdraws, State.rb_congr h]

/-- A monitor FB_T after its feedback became inconsistent, with its fault latched and recorded. -/
def State.monLatched (s : State) (i : Nat) (t0 : Ticks) : State :=
  ((s.passTo (t0 + s.fbT)).modMon i (fun m => { m with fault := true })).raise 0x7006 i
    (leBytes 1 (b2n (s.mon i).out) ++ leBytes 1 (b2n (s.filtered (s.monFb i))))

theorem State.monFault_latches {t0 : Ticks} (hbad : (s.mon i).badSince = some t0) (hfault : (s.mon i).fault = false) :
    t0 + ms (s.rf .ilkMonT 0 9 0) ≤ (s.monFault i).time.lt ∧ (s.monFault i).mon i = { s.mon i with fault := true } ∧
    (s.monWithdraws i = true → s.PermitGone (s.monFault i)) := by
  have acts : s.monFault i = if (s.monLatched i t0).monWithdraws i then (s.monLatched i t0).faultWithdraw else s.monLatched i t0 := by
    unfold State.monFault
    dsimp only
    rw [hbad]
    dsimp only
    rw [when_of (by rw [hfault]; rfl)]
    rfl
  have time : t0 + ms (s.rf .ilkMonT 0 9 0) ≤ (s.monLatched i t0).time.lt := by
    simpa [State.monLatched, State.fbT] using State.le_passTo_lt s (t0 + s.fbT)
  have mon : (s.monLatched i t0).mon i = { s.mon i with fault := true } := by simp [State.monLatched]
  rw [acts, State.monWithdraws_congr (s := s) (by simp [State.monLatched])]
  split
  · exact ⟨by simpa using time, by simpa using mon,
      fun _ => State.faultWithdraw_permitGone (by simp [State.monLatched]) (by simp [State.monLatched])⟩
  · next off => exact ⟨time, mon, fun h => absurd h off⟩

end Monitors

/-! ### Off-pulses and readback (R307, R308) -/

theorem le_divCeil_mul (a : Nat) {b : Nat} (hb : 0 < b) : a ≤ divCeil a b * b := by
  have := Nat.lt_div_mul_add (a := a + b - 1) hb
  unfold divCeil
  omega

@[simp] theorem State.passTo_ltBase (s : State) (t : Ticks) : (s.passTo t).time.ltBase = s.time.ltBase := by
  unfold State.passTo
  split <;> rfl

section Pulses

variable {s : State} {k : Nat}

/-- The next instant for a pulse is not past, and lies on the output's own grid of LT. -/
theorem State.pulseDue_grid (hper : 0 < s.rf .ilkSotest 0 25 16) : s.lt ≤ s.pulseDue k ∧
    ∃ m, s.pulseDue k = s.time.ltBase + k * ms (s.rf .ilkSotest 0 25 16) / 4 + m * ms (s.rf .ilkSotest 0 25 16) := by
  have pos : 0 < ms (s.rf .ilkSotest 0 25 16) := Nat.mul_pos hper (by decide)
  have later := Nat.le_max_left s.lt ((s.so k).pulseStart + 1)
  unfold State.pulseDue
  dsimp only
  generalize ms (s.rf .ilkSotest 0 25 16) = per at *
  generalize max s.lt ((s.so k).pulseStart + 1) = start at *
  generalize s.time.ltBase + k * per / 4 = off
  split
  · next h => exact ⟨later.trans h, 0, by rw [Nat.zero_mul, Nat.add_zero]⟩
  · exact ⟨later.trans (Nat.sub_le_iff_le_add'.1 (le_divCeil_mul (start - off) pos)), _, rfl⟩

theorem State.offPulse_starts (hcmd : (s.so k).cmd = true) (hpulse : (s.so k).pulse = false) (hper : 0 < s.rf .ilkSotest 0 25 16) :
    (s.offPulse k).so k = { s.so k with pulse := true, pulseStart := (s.offPulse k).time.lt,
                                           pulseEnd := (s.offPulse k).time.lt + us (s.rf .ilkSotest 0 8 0),
                                           readback := if (s.so k).test then (s.so k).readback else false } ∧
    (∃ m, (s.offPulse k).localTime = k * ms (s.rf .ilkSotest 0 25 16) / 4 + m * ms (s.rf .ilkSotest 0 25 16)) ∧
    ∀ j, j ≠ k → (s.offPulse k).so j = s.so j := by
  obtain ⟨later, m, grid⟩ := State.pulseDue_grid (k := k) hper
  have now : (s.passTo (s.pulseDue k)).time.lt = s.pulseDue k := (s.passTo_lt _).trans (Nat.max_eq_right later)
  unfold State.offPulse
  rw [when_of (by simp [hcmd, hpulse])]
  refine ⟨by simp [State.lt], ⟨m, ?_⟩, fun j hj => by simp [hj]⟩
  simp only [State.modSo_eq, State.localTime, State.setSo_time, State.passTo_ltBase, now]
  rw [grid, Nat.add_assoc, Nat.add_sub_cancel_left]

/-- In `t` the readback of output `k` has failed with the level `rb`, 50 us after `since` or later. -/
def State.FailsReadback (s t : State) (k : Nat) (since : Ticks) (rb : Bool) : Prop :=
  since + us 50 ≤ t.time.lt ∧ (t.so k).test = true ∧ (t.so k).readback = rb ∧ (t.so k).pulse = false ∧ s.PermitGone t

theorem State.soTestFail_fails {x : State} {since : Ticks} (hsys : x.sys = s.sys) (htwin : x.twin = s.twin) (htest : (x.so k).test = false)
    (hlt : since + us 50 ≤ x.time.lt) (kind : Nat) (rb : Bool) : s.FailsReadback (x.soTestFail k kind rb) k since rb := by
  unfold State.soTestFail
  dsimp only
  rw [if_neg (by rw [htest]; decide)]
  refine ⟨by simpa using hlt, by simp, by simp, by simp, State.faultWithdraw_permitGone ?_ ?_⟩
  · simpa using hsys
  · simpa using htwin

/-- An output 50 us after its pulse, with its level back. -/
def State.pulseOver (s : State) (k : Nat) : State :=
  (s.passTo ((s.so k).pulseEnd + us 50)).modSo k (fun o => { o with pulse := false, readback := if o.test then o.readback else o.cmd })

theorem State.pulseOver_so (htest : (s.so k).test = false) : (s.pulseOver k).so k = { s.so k with pulse := false, readback := (s.so k).cmd } := by
  simp [State.pulseOver, htest]

/-- Where the drive is enabled the readbacks of the pulse are judged. -/
theorem State.pulseEnds_judges (hpulse : (s.so k).pulse = true) (hdrive : s.driveEnable = true) (wentOff backOn : Bool) :
    s.pulseEnds k wentOff backOn = if !wentOff then (s.pulseOver k).soTestFail k 1 true
      else if !backOn then (s.pulseOver k).soTestFail k 2 false else (s.pulseOver k).count (264 + k) := by
  have enabled : (s.pulseOver k).driveEnable = true :=
    (State.driveEnable_congr (by simp [State.pulseOver]) (by simp [State.pulseOver])).trans hdrive
  unfold State.pulseEnds
  rw [when_of hpulse]
  exact if_neg (by rw [← State.pulseOver, enabled]; decide)

theorem State.pulseOver_fails (htest : (s.so k).test = false) (kind : Nat) (rb : Bool) :
    s.FailsReadback ((s.pulseOver k).soTestFail k kind rb) k (s.so k).pulseEnd rb := by
  refine State.soTestFail_fails (by simp [State.pulseOver]) (by simp [State.pulseOver]) (by rw [State.pulseOver_so htest, htest]) ?_ kind rb
  simpa [State.pulseOver] using State.le_passTo_lt s ((s.so k).pulseEnd + us 50)

theorem State.pulseEnds_passes (hpulse : (s.so k).pulse = true) (htest : (s.so k).test = false) (hdrive : s.driveEnable = true) :
    (s.so k).pulseEnd + us 50 ≤ (s.pulseEnds k true true).time.lt ∧
    (s.pulseEnds k true true).so k = { s.so k with pulse := false, readback := (s.so k).cmd } ∧
    Table.get 0 (s.pulseEnds k true true).cnt.value (264 + k) = (Table.get 0 s.cnt.value (264 + k) + 1) % 2 ^ 48 := by
  have judged : s.pulseEnds k true true = (s.pulseOver k).count (264 + k) := State.pulseEnds_judges hpulse hdrive true true
  rw [judged, State.count_time, State.so_count, State.pulseOver_so htest]
  refine ⟨?_, rfl, ?_⟩
  · simpa [State.pulseOver] using State.le_passTo_lt s ((s.so k).pulseEnd + us 50)
  · simp [State.count, State.pulseOver]

theorem State.readbackNow_reads (hpulse : (s.so k).pulse = false) {level : Bool} (h : level = (s.so k).cmd ∨ s.driveEnable = false) :
    (s.so k).changed + us 50 ≤ (s.readbackNow k level).time.lt ∧ (s.readbackNow k level).so k = { s.so k with readback := level } := by
  have enabled : (s.passTo ((s.so k).changed + us 50)).driveEnable = s.driveEnable := State.driveEnable_congr (by simp) (by simp)
  unfold State.readbackNow
  rw [when_of (by rw [hpulse]; rfl)]
  dsimp only
  rw [enabled, State.so_passTo, if_neg (by obtain h | h := h <;> simp [h])]
  exact ⟨by simpa using State.le_passTo_lt s _, by simp⟩

theorem State.readbackNow_fails (hpulse : (s.so k).pulse = false) (htest : (s.so k).test = false) (hdrive : s.driveEnable = true) {level : Bool}
    (h : level ≠ (s.so k).cmd) : s.FailsReadback (s.readbackNow k level) k (s.so k).changed level := by
  have enabled : (s.passTo ((s.so k).changed + us 50)).driveEnable = s.driveEnable := State.driveEnable_congr (by simp) (by simp)
  unfold State.readbackNow
  rw [when_of (by rw [hpulse]; rfl)]
  dsimp only
  rw [enabled, State.so_passTo, if_pos (by simp [hdrive, h])]
  exact State.soTestFail_fails (by simp) (by simp) (by simpa using htest) (State.le_passTo_lt s _) 3 level

end Pulses

/-- Settles O41: each check by the lemma that says what it latches, each pulse by the one that says how it starts or is judged. -/
theorem interlockFaultsAndOffPulses : Obligations.InterlockFaultsAndOffPulses := by
  refine ⟨fun s => ?checks, fun s k => ?pulses⟩
  case checks =>
    let s0 : State := { s with outs := [] }
    have params : s0.ilkParams = s.ilkParams := State.ilkParams_congr rfl
    refine ⟨fun h => ?quiet, fun happlied hne hf => ?trips, fun p hp hst h => ?opens, fun k t0 h => ?cross, fun i hen hdiffer hdisc => ?differs,
      fun i t0 hbad hfault => ?monitored⟩
    case quiet =>
      refine completes_run (f := State.paramCrc) rfl ?_
      rw [← params] at h ⊢
      exact State.paramCrc_quiet (s := s0) h
    case trips =>
      rw [← params] at hne
      obtain ⟨ilk, gone⟩ := State.paramCrc_trips (s := s0) happlied hne hf
      refine completes_run (f := State.paramCrc) rfl ?_
      rw [ilk, params]
      exact ⟨rfl, rfl, rfl, rfl, gone⟩
    case opens =>
      obtain ⟨so0, so2⟩ := s0.driveSo_cmd false (s0.channelALevel 0) (s0.channelALevel 1)
      refine completes_run (f := fun s => when_ ((s.portal p).st == .locked && !s.lockedSwitches p 0) (fun s => s.channelA) s) rfl ?_
      rw [when_of (show ((s0.portal p).st == .locked && !s0.lockedSwitches p 0) = true from by
        rw [show (s0.portal p).st = .locked from hst, show s0.lockedSwitches p 0 = false from h]; rfl)]
      exact ⟨so0.trans (State.channelALevel_withdrawn (s := s0) hp h), fun h1 => so2.trans (State.channelALevel_withdrawn (s := s0) hp h1),
        (State.channelA_frame (w := Part.rcd ||| Part.cnt ||| Part.ilk) rfl (Frame.refl _ s0)).portals rfl⟩
    case cross => exact completes_run (f := fun s => s.crossFault k) rfl (State.crossFault_latches (s := s0) h)
    case differs => exact completes_run (f := fun s => s.discrepancy i) rfl (State.discrepancy_latches (s := s0) hen hdiffer hdisc)
    case monitored => exact completes_run (f := fun s => s.monFault i) rfl (State.monFault_latches (s := s0) hbad hfault)
  case pulses =>
    let s0 : State := { s with outs := [] }
    refine ⟨fun hcmd hpulse hper => ?starts, fun hpulse htest hdrive => ⟨?passes, fun on => ?staysOn, ?staysOff⟩, fun hpulse =>
      ⟨fun level h => ?reads, fun level h hdrive htest => ?steady⟩⟩
    case starts => exact completes_run (f := fun s => s.offPulse k) rfl (State.offPulse_starts (s := s0) hcmd hpulse hper)
    case passes => exact completes_run (f := fun s => s.pulseEnds k true true) rfl (State.pulseEnds_passes (s := s0) hpulse htest hdrive)
    case staysOn =>
      refine completes_run (f := fun s => s.pulseEnds k false on) rfl ?_
      rw [State.pulseEnds_judges (s := s0) hpulse hdrive]
      exact State.pulseOver_fails (s := s0) htest 1 true
    case staysOff =>
      refine completes_run (f := fun s => s.pulseEnds k true false) rfl ?_
      rw [State.pulseEnds_judges (s := s0) hpulse hdrive]
      exact State.pulseOver_fails (s := s0) htest 2 false
    case reads => exact completes_run (f := fun s => s.readbackNow k level) rfl (State.readbackNow_reads (s := s0) hpulse h)
    case steady => exact completes_run (f := fun s => s.readbackNow k level) rfl (State.readbackNow_fails (s := s0) hpulse htest hdrive h)

end Sys2Proof.Machine
end

section
/-!
PROOFS. CLEAR of the Interlock Logic and the read of its log (R323, R329): what CLEAR makes of each pair, output and monitor, and which entry
ILK_LOG_IDX loads.
-/
namespace Sys2Proof.Machine
open Sys2Proof

/-! ### What CLEAR makes of one unit -/

/-- The Interlock Logic but for its pairs, which CLEAR handles first. -/
def Interlock.pairsAside (k : Interlock) : Interlock := { k with pairs := [] }
/-- The same but for the outputs. -/
def Interlock.soAside (k : Interlock) : Interlock := { k with so := [] }
/-- The same but for the monitors. -/
def Interlock.monsAside (k : Interlock) : Interlock := { k with mons := [] }

theorem Interlock.eq_of_pairsAside {a b : Interlock} (h : a.pairsAside = b.pairsAside) : a = { b with pairs := a.pairs } := by
  cases a
  cases b
  simpa [Interlock.pairsAside] using h

theorem Interlock.eq_of_soAside {a b : Interlock} (h : a.soAside = b.soAside) : a = { b with so := a.so } := by
  cases a
  cases b
  simpa [Interlock.soAside] using h

theorem Interlock.eq_of_monsAside {a b : Interlock} (h : a.monsAside = b.monsAside) : a = { b with mons := a.mons } := by
  cases a
  cases b
  simpa [Interlock.monsAside] using h

@[simp] theorem State.cleared_ilk (s : State) (inst kind : Nat) : (s.cleared inst kind).ilk = s.ilk := State.raise_ilk s _ _ _
@[simp] theorem State.pair_cleared (s : State) (inst kind j : Nat) : (s.cleared inst kind).pair j = s.pair j := State.pair_raise s _ _ _ j
@[simp] theorem State.so_cleared (s : State) (inst kind j : Nat) : (s.cleared inst kind).so j = s.so j := State.so_raise s _ _ _ j
@[simp] theorem State.mon_cleared (s : State) (inst kind j : Nat) : (s.cleared inst kind).mon j = s.mon j := State.mon_raise s _ _ _ j

section Unit

variable {s : State} {i : Nat}

/-- Whether the values of a pair have agreed for 100 ms. -/
def State.pairAgrees (s : State) (i : Nat) : Bool := match (s.pair i).agreeSince with
  | some t => decide (t + ms 100 ≤ s.lt)
  | none => false

/-- A pair without its faults, valued anew. -/
def State.pairFreed (s : State) (i : Nat) : State :=
  let s1 := s.modPair i (fun q => { q with disc := false, tp := false })
  s1.modPair i (fun q => { q with value := s1.pairValue i })

/-- The same with an event for each fault that it had. -/
def State.pairCleared (s : State) (i : Nat) : State :=
  let s3 := if (s.pair i).disc then (s.pairFreed i).cleared i 1 else s.pairFreed i
  if (s.pair i).tp then s3.cleared i 2 else s3

theorem State.clearPair_eq (s : State) (i : Nat) :
    s.clearPair i = if !((s.pair i).disc || (s.pair i).tp) || !s.pairAgrees i then s else s.pairCleared i := (rfl)

theorem State.pairCleared_ilk (s : State) (i : Nat) : (s.pairCleared i).ilk = (s.pairFreed i).ilk := by
  unfold State.pairCleared
  dsimp only
  split <;> split <;> simp

theorem State.pair_pairCleared (s : State) (i j : Nat) : (s.pairCleared i).pair j = (s.pairFreed i).pair j := by
  rw [State.pair, State.pairCleared_ilk, State.pair]

theorem State.clearPair_pairsAside (s : State) (i : Nat) : (s.clearPair i).ilk.pairsAside = s.ilk.pairsAside := by
  rw [State.clearPair_eq]
  split
  · rfl
  · rw [State.pairCleared_ilk]
    rfl

theorem State.clearPair_pair_ne (s : State) (i j : Nat) (h : j ≠ i) : (s.clearPair i).pair j = s.pair j := by
  rw [State.clearPair_eq]
  split
  · rfl
  · rw [State.pair_pairCleared]
    simp [State.pairFreed, h]

/-- A pair whose values have agreed for 100 ms holds no fault afterwards. -/
theorem State.clearPair_clears {t0 : Ticks} (hagree : (s.pair i).agreeSince = some t0) (hgone : t0 + ms 100 ≤ s.lt) :
    ((s.clearPair i).pair i).disc = false ∧ ((s.clearPair i).pair i).tp = false := by
  have agrees : s.pairAgrees i = true := by
    rw [State.pairAgrees, hagree]
    exact decide_eq_true hgone
  rw [State.clearPair_eq, agrees]
  split
  · next unfaulted => simpa using unfaulted
  · rw [State.pair_pairCleared]
    simp [State.pairFreed]

/-- One whose values have not is left as it is. -/
theorem State.clearPair_leaves (h : ∀ t0, (s.pair i).agreeSince = some t0 → s.lt < t0 + ms 100) : s.clearPair i = s := by
  have differs : s.pairAgrees i = false := by
    unfold State.pairAgrees
    split
    · next t0 hagree => exact decide_eq_false (Nat.not_le.2 (h t0 hagree))
    · rfl
  rw [State.clearPair_eq, differs, if_pos (by simp)]

theorem State.clearSo_soAside (s : State) (k : Nat) : (s.clearSo k).ilk.soAside = s.ilk.soAside := by
  unfold State.clearSo
  dsimp only
  split <;> simp [State.setSo, Interlock.soAside]

theorem State.clearSo_so_ne (s : State) (k j : Nat) (h : j ≠ k) : (s.clearSo k).so j = s.so j := by
  unfold State.clearSo
  dsimp only
  split <;> simp [h]

/-- A test fault stays where the readback still differs from the commanded level. -/
theorem State.clearSo_test {k : Nat} (h : (s.so k).test = true) : ((s.clearSo k).so k).test = decide ((s.so k).readback ≠ (s.so k).cmd) := by
  unfold State.clearSo
  dsimp only
  rw [h, Bool.true_and]
  split
  · next same => simp [beq_iff_eq.1 same]
  · next differs => simpa [h] using differs

theorem State.clearMon_monsAside (s : State) (i : Nat) : (s.clearMon i).ilk.monsAside = s.ilk.monsAside := by
  unfold State.clearMon
  dsimp only
  split
  · split <;> simp [State.setMon, Interlock.monsAside]
  · rfl

theorem State.clearMon_mon_ne (s : State) (i j : Nat) (h : j ≠ i) : (s.clearMon i).mon j = s.mon j := by
  unfold State.clearMon
  dsimp only
  split
  · split <;> simp [h]
  · rfl

/-- A monitor whose feedback has been consistent for a whole FB_T holds no fault afterwards. -/
theorem State.clearMon_clears {t0 : Ticks} (hgood : (s.mon i).goodSince = some t0) (hgone : t0 + ms (s.rf .ilkMonT 0 9 0) ≤ s.lt) :
    ((s.clearMon i).mon i).fault = false := by
  have gone : decide (t0 + s.fbT ≤ s.lt) = true := decide_eq_true hgone
  simp only [State.clearMon, hgood, gone, Bool.and_true]
  split
  · simp
  · next unfaulted => simpa using unfaulted

theorem State.clearMon_leaves (h : (s.mon i).goodSince = none) : s.clearMon i = s := by
  simp only [State.clearMon, h]

end Unit

/-! ### CLEAR of all of them -/

/-- A share of the Interlock Logic that no step of a loop changes. -/
theorem forEach_ilk {α : Type} {g : Interlock → α} {f : State → Nat → State} (hf : ∀ s i, g (f s i).ilk = g s.ilk) (l : List Nat) (s : State) :
    g (forEach l f s).ilk = g s.ilk :=
  List.foldlRecOn (motive := fun x => g x.ilk = g s.ilk) l f rfl fun x h i _ => (hf x i).trans h

/-- The parts that CLEAR may write. -/
def clearParts : Nat := Part.rcd ||| Part.cnt ||| Part.ilk

/-- CLEAR of the pairs. -/
def State.clearPairs (s : State) : State := forEach (List.range 40) State.clearPair s
/-- CLEAR of the cross-check. -/
def State.clearXchk (s : State) : State :=
  if s.ilk.xchk then ({ s with ilk := { s.ilk with xchk := false, xSince := [] } }).cleared noInst 3 else s
/-- CLEAR of the outputs. -/
def State.clearSos (s : State) : State := forEach (List.range 4) State.clearSo s
/-- CLEAR of the monitors. -/
def State.clearMons (s : State) : State := forEach (List.range 20) State.clearMon s

theorem State.ilkClear_eq (s : State) : s.ilkClear = s.clearPairs.clearXchk.clearSos.clearMons := by
  unfold State.ilkClear State.clearPairs State.clearXchk State.clearSos State.clearMons
  rfl

section All

variable (s : State)

theorem State.clearPairs_ilk : s.clearPairs.ilk = { s.ilk with pairs := s.clearPairs.ilk.pairs } :=
  Interlock.eq_of_pairsAside (forEach_ilk State.clearPair_pairsAside _ s)
theorem State.clearSos_ilk : s.clearSos.ilk = { s.ilk with so := s.clearSos.ilk.so } :=
  Interlock.eq_of_soAside (forEach_ilk State.clearSo_soAside _ s)
theorem State.clearMons_ilk : s.clearMons.ilk = { s.ilk with mons := s.clearMons.ilk.mons } :=
  Interlock.eq_of_monsAside (forEach_ilk State.clearMon_monsAside _ s)

theorem State.clearXchk_ilk : ∃ since, s.clearXchk.ilk = { s.ilk with xchk := false, xSince := since } := by
  unfold State.clearXchk
  split
  · exact ⟨[], State.cleared_ilk _ _ _⟩
  · next off => exact ⟨s.ilk.xSince, by rw [← Bool.eq_false_iff.2 off]⟩

theorem State.clearPair_keeps (i : Nat) : Frame clearParts s (s.clearPair i) := State.clearPair_frame rfl (Frame.refl _ s)
theorem State.clearPairs_keeps : Frame clearParts s s.clearPairs :=
  forEach_frame (fun _ _ h => State.clearPair_frame rfl h) _ (Frame.refl _ s)
theorem State.clearMon_keeps (i : Nat) : Frame clearParts s (s.clearMon i) := State.clearMon_frame rfl (Frame.refl _ s)

/-- What CLEAR writes: the pairs, outputs and monitors as its loops leave them, and the fault of the cross-check. -/
theorem State.ilkClear_ilk : ∃ since, s.ilkClear.ilk =
    { s.ilk with pairs := s.clearPairs.ilk.pairs, so := s.clearPairs.clearXchk.clearSos.ilk.so, mons := s.ilkClear.ilk.mons,
                 xchk := false, xSince := since } := by
  obtain ⟨since, xchk⟩ := s.clearPairs.clearXchk_ilk
  refine ⟨since, ?_⟩
  rw [State.ilkClear_eq]
  conv_lhs => rw [State.clearMons_ilk, State.clearSos_ilk, xchk, State.clearPairs_ilk]

/-- Each pair is handled once, as it was and at the time of the command. -/
theorem State.ilkClear_pair {i : Nat} (hi : i < 40) : ∃ x : State, x.lt = s.lt ∧ x.pair i = s.pair i ∧ s.ilkClear.pair i = (x.clearPair i).pair i := by
  obtain ⟨x, lt, pair, visited⟩ := forEach_visits (unit := State.pair) (I := fun x => x.lt = s.lt) State.clearPair_pair_ne
    (fun x i h => (State.lt_congr ((x.clearPair_keeps i).time rfl)).trans h) _ List.nodup_range s rfl (List.mem_range.2 hi)
  obtain ⟨since, ilk⟩ := s.ilkClear_ilk
  refine ⟨x, lt, pair, Eq.trans ?_ visited⟩
  rw [State.pair, ilk, State.pair, State.clearPairs]

theorem State.ilkClear_so {k : Nat} (hk : k < 4) : ∃ x : State, x.so k = s.so k ∧ s.ilkClear.so k = (x.clearSo k).so k := by
  obtain ⟨x, -, so, visited⟩ := forEach_visits (unit := State.so) (I := fun _ => True) State.clearSo_so_ne (fun _ _ h => h) _ List.nodup_range
    s.clearPairs.clearXchk trivial (List.mem_range.2 hk)
  obtain ⟨_, xchk⟩ := s.clearPairs.clearXchk_ilk
  obtain ⟨_, ilk⟩ := s.ilkClear_ilk
  refine ⟨x, so.trans ?_, Eq.trans ?_ visited⟩
  · rw [State.so, xchk, State.clearPairs_ilk, State.so]
  · rw [State.so, ilk, State.so, State.clearSos]

theorem State.ilkClear_mon {i : Nat} (hi : i < 20) : ∃ x : State, x.lt = s.lt ∧ x.regs = s.regs ∧ x.mon i = s.mon i ∧
    s.ilkClear.mon i = (x.clearMon i).mon i := by
  obtain ⟨_, xchk⟩ := s.clearPairs.clearXchk_ilk
  have frame : Frame clearParts s s.clearPairs.clearXchk.clearSos :=
    forEach_frame (fun _ _ h => State.clearSo_frame rfl h) _
      (Frame.ite (State.cleared_frame rfl (Frame.set_ilk rfl s.clearPairs_keeps)) s.clearPairs_keeps)
  obtain ⟨x, ⟨lt, regs⟩, mon, visited⟩ := forEach_visits (unit := State.mon) (I := fun x => x.lt = s.lt ∧ x.regs = s.regs) State.clearMon_mon_ne
    (fun x i h => ⟨(State.lt_congr ((x.clearMon_keeps i).time rfl)).trans h.1, ((x.clearMon_keeps i).regs rfl).trans h.2⟩) _ List.nodup_range
    s.clearPairs.clearXchk.clearSos ⟨State.lt_congr (frame.time rfl), frame.regs rfl⟩ (List.mem_range.2 hi)
  refine ⟨x, lt, regs, mon.trans ?_, Eq.trans ?_ visited⟩
  · rw [State.mon, State.clearSos_ilk, xchk, State.clearPairs_ilk, State.mon]
  · rw [State.ilkClear_eq, State.clearMons]

end All

theorem completes_ilkClear {s : State} {m : Fin 6} {post : State → Prop} (hm : s.mayAccess m false = true)
    (h : post (State.ilkClear { s with outs := [] })) : Completes (.ilkClear m) s post := by
  have clears : State.putReg { s with outs := [] } m .ilkCmd 0 1 = State.ilkClear { s with outs := [] } :=
    State.putReg_effect _ m .ilkCmd 0 1 none ilkCmd_at rfl hm (by decide) nofun (by decide) (by decide)
  refine completes_run (f := fun s => s.putReg m .ilkCmd 0 1) rfl ?_
  rw [clears]
  exact h

/-! ### The log (R329) -/

section Log

variable {s : State} {k : Nat}

/-- Whether the bytes of an entry fail its check (R327). -/
def entryBad (e : List Byte) : Bool := decide (leAt e 40 4 ≠ crc32c (e.take 40 ++ slice e 44 3) ∨ byteAt e 47 ≠ 0xA5)

/-- Whether bytes at the place of entry `k` are that entry: not empty, and of its index where they pass the check. -/
def EntryStored (e : List Byte) (k : Nat) : Prop := e.all (· == 0) = false ∧ (entryBad e = true ∨ leAt e 0 4 = k)

theorem State.logLoad_eq (s : State) (k : Nat) : s.logLoad k =
    if s.ilk.logCnt ≤ k ∨ (64 ≤ k ∧ k + 1024 < s.ilk.logCnt) ∨ (s.memBytes (logAddr k) 48).all (· == 0) ∨
        (!entryBad (s.memBytes (logAddr k) 48) ∧ leAt (s.memBytes (logAddr k) 48) 0 4 ≠ k) then
      { s with ilk := { s.ilk with logData := [], logAbsent := true, logBad := false } }
    else { s with ilk := { s.ilk with logData := s.memBytes (logAddr k) 48, logAbsent := false, logBad := entryBad (s.memBytes (logAddr k) 48) } } := (rfl)

/-- An index with no entry of its own: one not written yet, one overwritten, or one that was not stored. -/
theorem State.logLoad_absent (h : s.ilk.logCnt ≤ k ∨ (64 ≤ k ∧ k + 1024 < s.ilk.logCnt) ∨ ¬EntryStored (s.memBytes (logAddr k) 48) k) :
    s.logLoad k = { s with ilk := { s.ilk with logData := [], logAbsent := true, logBad := false } } := by
  rw [State.logLoad_eq]
  refine if_pos (h.imp_right (Or.imp_right fun lost => ?_))
  by_cases empty : (s.memBytes (logAddr k) 48).all (· == 0) = true
  · exact .inl empty
  · refine .inr ?_
    have other : ¬(entryBad (s.memBytes (logAddr k) 48) = true ∨ leAt (s.memBytes (logAddr k) 48) 0 4 = k) := fun own =>
      lost ⟨Bool.eq_false_iff.2 empty, own⟩
    obtain ⟨sound, index⟩ := not_or.1 other
    exact ⟨by rw [Bool.eq_false_iff.2 sound]; rfl, index⟩

theorem State.logLoad_loads (hk : k < s.ilk.logCnt) (hkept : k < 64 ∨ s.ilk.logCnt ≤ k + 1024) (hs : EntryStored (s.memBytes (logAddr k) 48) k) :
    s.logLoad k = { s with ilk := { s.ilk with logData := s.memBytes (logAddr k) 48, logAbsent := false,
                                               logBad := entryBad (s.memBytes (logAddr k) 48) } } := by
  obtain ⟨stored, own⟩ := hs
  rw [State.logLoad_eq]
  refine if_neg ?_
  rintro (unwritten | ⟨ring, overwritten⟩ | empty | ⟨sound, index⟩)
  · omega
  · omega
  · exact absurd empty (Bool.eq_false_iff.1 stored)
  · obtain bad | own := own
    · rw [bad] at sound
      exact absurd sound (by decide)
    · exact index own

end Log

theorem State.memBytes_congr {s x : State} (h : x.mem = s.mem) (a n : Nat) : x.memBytes a n = s.memBytes a n := by
  simp only [State.memBytes, State.memByte, h]

/-- A write of ILK_LOG_IDX keeps the index and loads its entry. -/
theorem completes_ilkLogLoad {s : State} {v : Word} {m : Fin 6} {post : State → Prop} (hm : s.mayAccess m false = true)
    (h : post ((State.setReg { s with outs := [] } .ilkLogIdx 0 0 v).logLoad v.toNat)) : Completes (.ilkLogLoad v m) s post := by
  have loads : State.putReg { s with outs := [] } m .ilkLogIdx 0 v = (State.setReg { s with outs := [] } .ilkLogIdx 0 0 v).logLoad v.toNat :=
    State.putReg_effect _ m .ilkLogIdx 0 v none ilkLogIdx_at rfl hm (by decide) nofun (by decide) (writeOk_word rfl rfl)
  refine completes_run (f := fun s => s.putReg m .ilkLogIdx 0 v) rfl ?_
  rw [loads]
  exact h

end Sys2Proof.Machine
end

section
/-!
PROOFS. The brake test (R314 to R317, R319): its start, its two directions, its end with a pass or a failure, and a test that is overdue.
-/
namespace Sys2Proof.Machine
open Sys2Proof

/-! ### The test of an axis -/

/-- A bit that is cleared. -/
theorem testBit_sub_and_two_pow (x n : Nat) : (x - (x &&& 2 ^ n)).testBit n = false := by
  rw [Nat.and_two_pow]
  cases h : x.testBit n with
  | false => simpa using h
  | true =>
    have flip := Nat.testBit_two_pow_add_eq (x - 2 ^ n) n
    rw [Nat.add_sub_of_le (Nat.ge_two_pow_of_testBit h), h] at flip
    simpa using flip.symm

section Phases

variable {s : State} {n : Nat}

theorem State.testPhase_test (s : State) (n : Nat) (b : BrakeTest) : Table.get none (s.testPhase n b).ilk.tests n =
    some { b with waiting := false, start := s.lt, reached := false } := by
  simp [State.testPhase]

/-- In the direction of opening the set-point goes 4 × BT_COUNTS to the open side of x0. -/
theorem State.testPhase_pos {b : BrakeTest} (h : b.dir = 0) :
    ((s.testPhase n b).axis n).pos = (b.x0 + s.openSign n * 4 * (s.rf .ilkBt n 31 16 : Int)) * 2 ^ 32 := by
  simp [State.testPhase, State.axis, State.setAxis, h]

theorem State.testStart_applies (hready : s.testReady n = true) (hbrake : (s.axis n).brakeRel = true) :
    ((s.testStart n).axis n).mode = .holding ∧ ((s.testStart n).axis n).brakeRel = false ∧
    ((s.testStart n).axis n).brkAppDue = some (s.lt + ms (s.rf .axisBrake n 31 24)) ∧ ((s.testStart n).axis n).resAmp = s.testCurrent n ∧
    Table.get none (s.testStart n).ilk.tests n = some { x0 := s.latchOf n, waiting := true, start := s.lt } := by
  unfold State.testStart
  rw [when_of hready]
  dsimp only
  rw [if_pos hbrake, State.axis, (State.commandSwitches_frame (w := Part.loads) rfl (Frame.refl _ _)).axes rfl,
    (State.commandSwitches_frame (w := Part.loads) rfl (Frame.refl _ _)).ilk rfl]
  simp [State.setAxis]

theorem State.testStart_begins (hready : s.testReady n = true) (hbrake : (s.axis n).brakeRel = false) :
    s.testStart n = s.testPhase n { x0 := s.latchOf n } := by
  unfold State.testStart
  rw [when_of hready]
  exact if_neg (by rw [hbrake]; decide)

end Phases

/-! ### The end of a test (R316, R317) -/

/-- `t` keeps what a failed test has left of axis `n` in `s`: its fault and the first cause of it, no test, and the bits of BT_FAIL. -/
structure State.KeepsFailure (n : Nat) (s t : State) : Prop where
  fault : (t.axis n).fault = (s.axis n).fault
  cause : (t.axis n).faultCause = (s.axis n).faultCause
  btFail : t.ilk.btFail = s.ilk.btFail
  ended : Table.get none s.ilk.tests n = none → Table.get none t.ilk.tests n = none

section Failure

variable {n : Nat} {s u t : State}

theorem State.KeepsFailure.refl (n : Nat) (s : State) : State.KeepsFailure n s s := ⟨rfl, rfl, rfl, id⟩

theorem State.KeepsFailure.trans (h : State.KeepsFailure n s u) (h' : State.KeepsFailure n u t) : State.KeepsFailure n s t :=
  ⟨h'.fault.trans h.fault, h'.cause.trans h.cause, h'.btFail.trans h.btFail, h'.ended ∘ h.ended⟩

theorem State.KeepsFailure.of_eq (haxes : t.axes = s.axes) (hilk : t.ilk = s.ilk) : State.KeepsFailure n s t := by
  have axis : t.axis n = s.axis n := by rw [State.axis, State.axis, haxes]
  exact ⟨congrArg Axis.fault axis, congrArg Axis.faultCause axis, congrArg Interlock.btFail hilk, fun h => by rw [hilk, h]⟩

theorem State.KeepsFailure.forEach {f : State → Nat → State} (hf : ∀ s i, State.KeepsFailure n s (f s i)) (l : List Nat) (s : State) :
    State.KeepsFailure n s (forEach l f s) :=
  List.foldlRecOn (motive := State.KeepsFailure n s) l f (.refl n s) fun x h i _ => h.trans (hf x i)

/-- An axis whose test ends: the set-point returns to x0, or a brake that was being applied for it stays (R316, R318). -/
def BrakeTest.leave (b : BrakeTest) (x : Axis) : Axis :=
  if x.mode = .brakeTest then { x with mode := .holding, pos := b.x0 * 2 ^ 32, vel := 0, acc := 0 }
  else if b.waiting then { x with brkAppDue := none } else x

theorem BrakeTest.leave_fault (b : BrakeTest) (x : Axis) : (b.leave x).fault = x.fault ∧ (b.leave x).faultCause = x.faultCause := by
  unfold BrakeTest.leave
  split_ifs <;> exact ⟨rfl, rfl⟩

theorem BrakeTest.leave_mode (b : BrakeTest) (x : Axis) : (b.leave x).mode ≠ .brakeTest := by
  unfold BrakeTest.leave
  split_ifs with testing
  · simp
  · exact testing
  · exact testing

theorem State.testEnd_axis (s : State) (m k : Nat) (b : BrakeTest) :
    (s.testEnd m b).axis k = if k = m then b.leave (s.axis m) else s.axis k :=
  State.axis_setAxis s m k (b.leave (s.axis m))

theorem State.testEnd_tests (s : State) (m : Nat) (b : BrakeTest) : (s.testEnd m b).ilk.tests = Table.set none s.ilk.tests m none := (rfl)

theorem State.testEnd_keepsFailure (s : State) (m : Nat) (b : BrakeTest) : State.KeepsFailure n s (s.testEnd m b) := by
  have kept : ((s.testEnd m b).axis n).fault = (s.axis n).fault ∧ ((s.testEnd m b).axis n).faultCause = (s.axis n).faultCause := by
    rw [State.testEnd_axis]
    split
    · next h => exact h ▸ b.leave_fault (s.axis m)
    · exact ⟨rfl, rfl⟩
  exact ⟨kept.1, kept.2, rfl, fun h => by rw [State.testEnd_tests, Table.get_set, h, ite_self]⟩

theorem State.testEnd_ends (s : State) (n : Nat) (b : BrakeTest) : Table.get none (s.testEnd n b).ilk.tests n = none ∧
    ((s.testEnd n b).axis n).mode ≠ .brakeTest := by
  rw [State.testEnd_tests, State.testEnd_axis, if_pos rfl]
  exact ⟨Table.get_set_self _ _ _ _, b.leave_mode _⟩

theorem State.testAbort_keepsFailure (s : State) (m : Nat) : State.KeepsFailure n s (s.testAbort m) := by
  unfold State.testAbort
  split
  · exact (s.testEnd_keepsFailure m _).trans (.of_eq (State.raise_axes _ _ _ _) (State.raise_ilk _ _ _ _))
  · exact .refl n s

theorem State.emergencyStop_keepsFailure (s : State) (m : Nat) : State.KeepsFailure n s (s.emergencyStop m .fault) := by
  have ilk := (State.emergencyStop_frame (n := m) (c := .fault) (w := Part.axes) rfl (Frame.refl _ s)).ilk rfl
  obtain ⟨y, ⟨own, others⟩, halts⟩ := s.emergencyStop_halts m
  by_cases h : n = m
  · subst h
    exact ⟨own ▸ halts.fault, own ▸ halts.cause, congrArg Interlock.btFail ilk, fun h => by rw [ilk, h]⟩
  · have axis := others n h
    exact ⟨congrArg Axis.fault axis, congrArg Axis.faultCause axis, congrArg Interlock.btFail ilk, fun h => by rw [ilk, h]⟩

theorem State.acted_keepsFailure (s : State) (p r : Nat) : State.KeepsFailure n s (s.acted p r) := by
  unfold State.acted
  dsimp only
  have marked : State.KeepsFailure n s (s.modPortal p fun q => { q with rankNow := min q.rankNow r }) := .of_eq rfl rfl
  split
  · exact marked.trans (.forEach (fun x m => x.testAbort_keepsFailure m) _ _)
  · exact marked

/-- T25 of the portal of a failed axis. -/
theorem State.toFault_keepsFailure (s : State) (p cause : Nat) : State.KeepsFailure n s (s.toFault p cause) := by
  have enters (x : State) : State.KeepsFailure n x (x.enter p .fault) :=
    have frame := State.enter_frame (s := x) (p := p) (st := .fault) (w := endParts ||| Part.states) rfl (Frame.refl _ x)
    .of_eq (frame.axes rfl) (frame.ilk rfl)
  have noted (x : State) : State.KeepsFailure n x ((x.modPortal p fun q => { q with faultCause := cause }).raise 0x301A p) :=
    .of_eq (State.raise_axes _ _ _ _) (State.raise_ilk _ _ _ _)
  unfold State.toFault
  exact (((s.acted_keepsFailure p 1).trans (noted _)).trans (.forEach (fun x m => x.emergencyStop_keepsFailure m) _ _)).trans (enters _)

/-- An axis as its test fails, before its portal follows. -/
def State.testFailed (s : State) (n : Nat) (b : BrakeTest) (cause : Nat) : State :=
  State.faultAxis (({ s.testEnd n b with ilk := { (s.testEnd n b).ilk with btFail := (s.testEnd n b).ilk.btFail ||| 2 ^ n } }).raise 0x7011 n
    (leBytes 1 cause ++ leBytes 4 (absN (s.latchOf n - b.x0)))) n 7

theorem State.testFail_eq (s : State) (n : Nat) (b : BrakeTest) (c : Nat) : s.testFail n b c =
    if (s.testFailed n b c).portalEn (n / 4) && ((s.testFailed n b c).portal (n / 4)).st == .unused then (s.testFailed n b c).toFault (n / 4) 3
    else s.testFailed n b c := (rfl)

theorem State.testFailed_ilk (s : State) (n : Nat) (b : BrakeTest) (c : Nat) :
    (s.testFailed n b c).ilk = { (s.testEnd n b).ilk with btFail := (s.testEnd n b).ilk.btFail ||| 2 ^ n } :=
  ((State.faultAxis_frame (w := Part.axes) rfl (Frame.refl _ _)).ilk rfl).trans (State.raise_ilk _ _ _ _)

theorem State.testFailed_faults (s : State) (n : Nat) (b : BrakeTest) (c : Nat) : (s.testEnd n b).Faults (s.testFailed n b c) n 7 :=
  (State.faultAxis_faults _ n 7).after (State.raise_axes _ _ _ _)

/-- A failed test is over, its bit of BT_FAIL is set, and its axis has faulted with cause 7 unless it had already. -/
theorem State.testFail_fails (s : State) (n : Nat) (b : BrakeTest) (c : Nat) : s.time.lt ≤ (s.testFail n b c).time.lt ∧
    Table.get none (s.testFail n b c).ilk.tests n = none ∧ (s.testFail n b c).ilk.btFail.testBit n = true ∧
    ((s.testFail n b c).axis n).fault = true ∧
    ((s.testFail n b c).axis n).faultCause = (if (s.axis n).fault then (s.axis n).faultCause else 7) := by
  have ended := s.testEnd_keepsFailure (n := n) n b
  obtain ⟨y, ⟨own, -⟩, halts⟩ := s.testFailed_faults n b c
  have keeps : State.KeepsFailure n (s.testFailed n b c) (s.testFail n b c) := by
    rw [State.testFail_eq]
    split
    · exact (s.testFailed n b c).toFault_keepsFailure _ 3
    · exact .refl n _
  refine ⟨(State.testFail_frame (w := noStates ||| Part.states) rfl (Frame.refl _ s)).lt, keeps.ended ?_, ?_, ?_, ?_⟩
  · rw [State.testFailed_ilk]
    exact (s.testEnd_ends n b).1
  · rw [keeps.btFail, State.testFailed_ilk, Nat.testBit_or, Nat.testBit_two_pow_self, Bool.or_true]
  · rw [keeps.fault, own, halts.fault]
    rfl
  · rw [keeps.cause, own, halts.cause, ← ended.fault, ← ended.cause]
    rfl

end Failure

/-- An axis as its test passes: not failed, not overdue and due no longer, before the time is stored (R316). -/
def State.testPassed (s : State) (n : Nat) (b : BrakeTest) : State :=
  { s.testEnd n b with ilk := { (s.testEnd n b).ilk with
      btFail := (s.testEnd n b).ilk.btFail - ((s.testEnd n b).ilk.btFail &&& 2 ^ n)
      btOverdue := (s.testEnd n b).ilk.btOverdue - ((s.testEnd n b).ilk.btOverdue &&& 2 ^ n)
      btPass := Table.set none (s.testEnd n b).ilk.btPass n (some (s.testEnd n b).bk.rtc)
      btDueSince := Table.set none (s.testEnd n b).ilk.btDueSince n none } }

/-- Storing and mirroring the time of a pass leaves what the pass made of the axis. -/
theorem State.testPass_stores (s : State) (n : Nat) (b : BrakeTest) :
    Frame (Part.rcd ||| Part.cnt ||| Part.mem ||| Part.twin ||| Part.outs) (s.testPassed n b) (s.testPass n b) := by
  unfold State.testPass
  exact State.raise_frame rfl (State.mirror_frame rfl (State.saveNum_frame rfl (Frame.refl _ (s.testPassed n b))))

/-- A pass is stored with its time, and the axis is neither failed nor overdue any longer. -/
theorem State.testPass_passes (s : State) (n : Nat) (b : BrakeTest) : (s.testPass n b).time = s.time ∧
    Table.get none (s.testPass n b).ilk.tests n = none ∧ Table.get none (s.testPass n b).ilk.btPass n = some (s.testPass n b).bk.rtc ∧
    (s.testPass n b).ilk.btFail.testBit n = false ∧ (s.testPass n b).ilk.btOverdue.testBit n = false ∧
    ((s.testPass n b).axis n).mode ≠ .brakeTest := by
  obtain ⟨ended, mode⟩ := s.testEnd_ends n b
  have ends := State.testEnd_frame (n := n) (b' := b) (w := Part.axes ||| Part.ilk) rfl (Frame.refl _ s)
  have stored := s.testPass_stores n b
  rw [stored.time rfl, stored.ilk rfl, stored.bk rfl, State.axis, stored.axes rfl]
  exact ⟨ends.time rfl, ended, Table.get_set_self none (s.testEnd n b).ilk.btPass n (some (s.testEnd n b).bk.rtc),
    testBit_sub_and_two_pow _ n, testBit_sub_and_two_pow _ n, mode⟩

section Ends

variable {s : State} {n : Nat} {b : BrakeTest} (h : Table.get none s.ilk.tests n = some b) (hwaiting : b.waiting = false)
include h hwaiting

theorem State.testPhaseEnd_ends : s.testPhaseEnd n =
    if !b.reached then (s.passTo (b.start + ms (10 * s.rf .ilkBtCfg 0 31 24))).testFail n b 2
    else if b.dir = 0 then (s.passTo (b.start + ms (10 * s.rf .ilkBtCfg 0 31 24))).testPhase n { b with dir := 1 }
    else (s.passTo (b.start + ms (10 * s.rf .ilkBtCfg 0 31 24))).testPass n b := by
  unfold State.testPhaseEnd
  rw [h]
  dsimp only
  rw [when_of (by rw [hwaiting]; rfl)]

theorem State.testPhaseEnd_fails (hreached : b.reached = false) :
    s.testPhaseEnd n = (s.passTo (b.start + ms (10 * s.rf .ilkBtCfg 0 31 24))).testFail n b 2 := by
  rw [State.testPhaseEnd_ends h hwaiting, if_pos (by rw [hreached]; rfl)]

theorem State.torqueTimeout_fails (hreached : b.reached = false) : s.torqueTimeout n = (s.passTo (b.start + ms 100)).testFail n b 2 := by
  unfold State.torqueTimeout
  rw [h]
  dsimp only
  rw [when_of (by rw [hwaiting, hreached]; rfl)]

/-- Where the torque was reached, the end of BT_TIME in opening begins the test in closing. -/
theorem State.testPhaseEnd_turns (hreached : b.reached = true) (hdir : b.dir = 0) :
    b.start + ms (10 * s.rf .ilkBtCfg 0 31 24) ≤ (s.testPhaseEnd n).time.lt ∧ ((s.testPhaseEnd n).axis n).mode = .brakeTest ∧
    Table.get none (s.testPhaseEnd n).ilk.tests n = some { b with dir := 1, start := (s.testPhaseEnd n).time.lt, reached := false } := by
  obtain ⟨mode, -, time⟩ := State.testPhase_axis (s.passTo (b.start + ms (10 * s.rf .ilkBtCfg 0 31 24))) n { b with dir := 1 }
  rw [State.testPhaseEnd_ends h hwaiting, if_neg (by rw [hreached]; decide), if_pos hdir, State.testPhase_test, time, hwaiting]
  exact ⟨State.le_passTo_lt s _, mode, rfl⟩

/-- In closing it is a pass. -/
theorem State.testPhaseEnd_passes (hreached : b.reached = true) (hdir : b.dir = 1) :
    b.start + ms (10 * s.rf .ilkBtCfg 0 31 24) ≤ (s.testPhaseEnd n).time.lt ∧ Table.get none (s.testPhaseEnd n).ilk.tests n = none ∧
    Table.get none (s.testPhaseEnd n).ilk.btPass n = some (s.testPhaseEnd n).bk.rtc ∧ (s.testPhaseEnd n).ilk.btFail.testBit n = false ∧
    (s.testPhaseEnd n).ilk.btOverdue.testBit n = false ∧ ((s.testPhaseEnd n).axis n).mode ≠ .brakeTest := by
  obtain ⟨time, passed⟩ := (s.passTo (b.start + ms (10 * s.rf .ilkBtCfg 0 31 24))).testPass_passes n b
  rw [State.testPhaseEnd_ends h hwaiting, if_neg (by rw [hreached]; decide), if_neg (by rw [hdir]; decide), time]
  exact ⟨State.le_passTo_lt s _, passed⟩

end Ends

/-- A failure at an instant not before `since`. -/
theorem State.testFail_after (s : State) (n : Nat) (b : BrakeTest) (c : Nat) (since : Ticks) :
    since ≤ ((s.passTo since).testFail n b c).time.lt ∧ Table.get none ((s.passTo since).testFail n b c).ilk.tests n = none ∧
    ((s.passTo since).testFail n b c).ilk.btFail.testBit n = true ∧ (((s.passTo since).testFail n b c).axis n).fault = true ∧
    (((s.passTo since).testFail n b c).axis n).faultCause = (if (s.axis n).fault then (s.axis n).faultCause else 7) := by
  obtain ⟨lt, ended, btFail, fault, cause⟩ := (s.passTo since).testFail_fails n b c
  rw [State.axis_passTo] at cause
  exact ⟨(State.le_passTo_lt s since).trans lt, ended, btFail, fault, cause⟩

/-! ### A test that is overdue (R319) -/

/-- Whole seconds pass on the real-time clock. -/
theorem State.pass_sec_rtc (s : State) (n : Nat) : (s.pass (sec n)).bk.rtc = (s.bk.rtc + n) % 2 ^ 48 := by
  have seconds : (s.time.lt + sec n) / ticksPerS = s.time.lt / ticksPerS + n := Nat.add_mul_div_right _ _ (by decide)
  show (s.bk.rtc + ((s.time.lt + sec n) / ticksPerS - s.time.lt / ticksPerS)) % 2 ^ 48 = _
  rw [seconds, Nat.add_sub_cancel_left]

/-- The time passes until the real-time clock shows `t`, where it does not yet. -/
def State.passToRtc (s : State) (t : Nat) : State := if s.bk.rtc < t then s.pass (sec (t - s.bk.rtc)) else s

theorem State.passToRtc_ilk (s : State) (t : Nat) : (s.passToRtc t).ilk = s.ilk := by
  unfold State.passToRtc
  split
  · exact State.pass_ilk s _
  · rfl

theorem State.le_passToRtc_rtc (s : State) {t : Nat} (room : t < 2 ^ 48) : t ≤ (s.passToRtc t).bk.rtc := by
  unfold State.passToRtc
  split
  · next early => rw [State.pass_sec_rtc, Nat.add_sub_of_le early.le, Nat.mod_eq_of_lt room]
  · next late => exact Nat.le_of_not_lt late

theorem State.testOverdue_notes {s : State} {n : Nat} (hen : s.rb .ilkBt n 0 = true) (hnew : s.ilk.btOverdue.testBit n = false) :
    (s.testOverdue n).ilk.btOverdue = s.ilk.btOverdue ||| 2 ^ n ∧
    (s.btDueAt n + s.btInterval < 2 ^ 48 → s.btDueAt n + s.btInterval ≤ (s.testOverdue n).bk.rtc) := by
  unfold State.testOverdue
  rw [when_of (by rw [hen, hnew]; rfl)]
  dsimp only
  rw [← State.passToRtc, State.raise_ilk, State.raise_bk]
  exact ⟨congrArg (fun k => k.btOverdue ||| 2 ^ n) (s.passToRtc_ilk _), s.le_passToRtc_rtc⟩

/-- Settles O42: CLEAR unit by unit, the log by which entry an index names, and the brake test by how each of its instants ends. -/
theorem clearLogAndBrakeTests : Obligations.ClearLogAndBrakeTests := by
  intro s
  let s0 : State := { s with outs := [] }
  refine ⟨fun m hm => ?clear, fun m v hm => ?log, fun n => ?test⟩
  case clear =>
    obtain ⟨_, ilk⟩ := s0.ilkClear_ilk
    refine completes_ilkClear hm ⟨by rw [ilk], by rw [ilk], fun k hk htest => ?outputs, fun i hi t0 hagree hgone => ?pairsGone, fun i hi hagree => ?pairsLeft,
      fun i hi t0 hgood hgone => ?monsGone, fun i hi hgood => ?monsLeft⟩
    case outputs =>
      obtain ⟨x, so, cleared⟩ := s0.ilkClear_so hk
      have same : x.so k = s.so k := so
      rw [cleared, State.clearSo_test (by rw [same, htest]), same]
    case pairsGone =>
      obtain ⟨x, lt, pair, cleared⟩ := s0.ilkClear_pair hi
      rw [cleared]
      exact State.clearPair_clears (pair ▸ hagree) (lt ▸ hgone)
    case pairsLeft =>
      obtain ⟨x, lt, pair, cleared⟩ := s0.ilkClear_pair hi
      rw [cleared, State.clearPair_leaves fun t0 h => lt ▸ hagree t0 (pair ▸ h)]
      exact pair
    case monsGone =>
      obtain ⟨x, lt, regs, mon, cleared⟩ := s0.ilkClear_mon hi
      rw [cleared]
      exact State.clearMon_clears (mon ▸ hgood) (by rw [State.rf_congr regs, lt]; exact hgone)
    case monsLeft =>
      obtain ⟨x, -, -, mon, cleared⟩ := s0.ilkClear_mon hi
      rw [cleared, State.clearMon_leaves (mon ▸ hgood)]
      exact mon
  case log =>
    let s1 : State := s0.setReg .ilkLogIdx 0 0 v
    have index : s1.reg .ilkLogIdx = v := State.reg_setReg_self s0 _ 0 0 v
    have absent : ∀ {post : State → Prop}, (s.ilk.logCnt ≤ v.toNat ∨ (64 ≤ v.toNat ∧ v.toNat + 1024 < s.ilk.logCnt) ∨
        ¬EntryStored (s1.memBytes (logAddr v.toNat) 48) v.toNat) →
        post { s1 with ilk := { s1.ilk with logData := [], logAbsent := true, logBad := false } } → Completes (.ilkLogLoad v m) s post :=
      fun h hp => completes_ilkLogLoad hm (by rw [State.logLoad_absent (s := s1) h]; exact hp)
    refine ⟨fun hnew => absent (.inl hnew) ⟨index, rfl, rfl⟩, fun hk hkept => ?entry,
      fun hk hring hover => absent (.inr (.inl ⟨hring, hover⟩)) rfl⟩
    case entry =>
      intro e bad stored
      have bytes : s1.memBytes (logAddr v.toNat) 48 = e := State.memBytes_congr rfl _ _
      clear_value e
      refine ⟨fun hs => ?loaded, fun hs => absent (.inr (.inr (by rwa [bytes]))) ⟨index, rfl, rfl⟩⟩
      refine completes_ilkLogLoad hm ?_
      rw [State.logLoad_loads (s := s1) hk hkept (by rwa [bytes]), bytes]
      exact ⟨index, rfl, rfl, rfl⟩
  case test =>
    refine ⟨fun hready hbrake => ?applies, fun hready hbrake => ?begins, fun b h hwaiting => ⟨fun hreached => ⟨?timeout, ?weak⟩,
      fun hreached hdir => ?turns, fun hreached hdir => ?passes⟩, fun hen hnew => ?overdue⟩
    case applies => exact completes_run (f := fun s => s.testStart n) rfl (State.testStart_applies (s := s0) hready hbrake)
    case begins =>
      obtain ⟨mode, amp, -⟩ := State.testPhase_axis s0 n { x0 := s0.latchOf n }
      refine completes_run (f := fun s => s.testStart n) rfl ?_
      rw [State.testStart_begins (s := s0) hready hbrake]
      exact ⟨mode, amp, State.testPhase_pos rfl, State.testPhase_test s0 n _⟩
    case timeout =>
      refine completes_run (f := fun s => s.torqueTimeout n) rfl ?_
      rw [State.torqueTimeout_fails (s := s0) h hwaiting hreached]
      exact s0.testFail_after n b 2 _
    case weak =>
      refine completes_run (f := fun s => s.testPhaseEnd n) rfl ?_
      rw [State.testPhaseEnd_fails (s := s0) h hwaiting hreached]
      exact s0.testFail_after n b 2 _
    case turns => exact completes_run (f := fun s => s.testPhaseEnd n) rfl (State.testPhaseEnd_turns (s := s0) h hwaiting hreached hdir)
    case passes => exact completes_run (f := fun s => s.testPhaseEnd n) rfl (State.testPhaseEnd_passes (s := s0) h hwaiting hreached hdir)
    case overdue => exact completes_run (f := fun s => s.testOverdue n) rfl (State.testOverdue_notes (s := s0) hen hnew)

end Sys2Proof.Machine
end

section
/-!
PROOFS. Field channels, what each tile does of itself (R336, R338, R342, R343, R347, R348, R350, R363, R372): wetting, diagnostics, the trips of
outputs, test pulses and the presses of maintenance-reset inputs.
-/
namespace Sys2Proof.Machine
open Sys2Proof

/-! ### Bits of a word -/

/-- The bits of a mask are cleared. -/
theorem testBit_sub_and (x m j : Nat) : (x - (x &&& m)).testBit j = (x.testBit j && !m.testBit j) := by
  have le : x &&& m ≤ x := Nat.and_le_left
  have low : (x &&& m) % 2 = 1 ↔ x % 2 = 1 ∧ m % 2 = 1 := Nat.and_mod_two_eq_one
  induction j generalizing x m with
  | zero =>
    simp only [Nat.testBit_zero, ← decide_not, ← Bool.decide_and, decide_eq_decide]
    omega
  | succ j ih =>
    have half : (x - (x &&& m)) / 2 = x / 2 - (x / 2 &&& m / 2) := by
      rw [← Nat.and_div_two]
      omega
    rw [Nat.testBit_succ, half, ih _ _ Nat.and_le_left Nat.and_mod_two_eq_one, ← Nat.testBit_succ, ← Nat.testBit_succ]

/-- The bits of a word that is put together bit by bit. -/
theorem testBit_foldl_b2n (f : Nat → Bool) {n j : Nat} (hj : j < n) :
    ((List.range n).foldl (fun a i => a + b2n (f i) * 2 ^ i) 0).testBit j = f j := by
  have same : (fun a i => a + b2n (f i) * 2 ^ i) = fun a i => if f i then a + 2 ^ i else a := by
    funext a i
    cases f i <;> simp [b2n]
  rw [same, ← List.foldl_filter, testBit_foldl_two_pow j _ 0 (List.pairwise_lt_range.filter f) fun p _ => Nat.two_pow_pos p]
  simp [hj]

/-- The mask of a list of channels has their bits. -/
theorem testBit_maskOf (l : List Nat) (j : Nat) : (maskOf l).testBit j = decide (j ∈ l) := by
  have grows : ∀ (l : List Nat) (m : Nat), (l.foldl (fun a i => a ||| 2 ^ i) m).testBit j = (m.testBit j || decide (j ∈ l)) := by
    intro l
    induction l with
    | nil => simp
    | cons i l ih =>
      intro m
      rw [List.foldl_cons, ih, Nat.testBit_or, Nat.testBit_two_pow, Bool.or_assoc]
      simp [eq_comm]
  rw [maskOf, grows]
  simp

/-- Entries of a table that are changed one after another. -/
theorem Table.get_foldl_modify {α : Type} [DecidableEq α] (d : α) (f : Nat → α → α) {j : Nat} : ∀ (l : List Nat), l.Nodup → j ∈ l → ∀ t : Table α,
    Table.get d (l.foldl (fun t i => Table.modify d t i (f i)) t) j = f j (Table.get d t j)
  | [], _, hj, _ => absurd hj List.not_mem_nil
  | i :: l, hl, hj, t => by
    obtain ⟨hi, hl⟩ := List.nodup_cons.1 hl
    have others : ∀ l : List Nat, j ∉ l → ∀ t : Table α,
        Table.get d (l.foldl (fun t i => Table.modify d t i (f i)) t) j = Table.get d t j := fun l hj t =>
      List.foldlRecOn (motive := fun x => Table.get d x j = Table.get d t j) l _ rfl fun x h i hi =>
        (Table.get_set_ne _ _ _ fun e : j = i => hj (e ▸ hi)).trans h
    rw [List.foldl_cons]
    by_cases e : j = i
    · subst e
      rw [others l hi, Table.modify, Table.get_set_self]
    · rw [Table.get_foldl_modify d f l hl ((List.mem_cons.1 hj).resolve_left e), Table.modify, Table.get_set_ne _ _ _ e]

/-! ### Wetting (R336) -/

section Wetting

variable {s : State} {c : Nat}

/-- An input whose raw level has risen: wetted at once, waiting, or neither. -/
def Die.risen (d : Die) (j : Nat) (now : Ticks) : Die :=
  if fieldOf (d.word j) 7 6 = 0 ∨ d.wetQueue.any (fun e => e.1 == j) then { d with level := d.level ||| 2 ^ j }
  else if (d.wetting.filter (fun e => e.1 != j)).length < 8 then
    { d with level := d.level ||| 2 ^ j, wetting := d.wetting.filter (fun e => e.1 != j) ++ [(j, now)] }
  else { d with level := d.level ||| 2 ^ j, wetQueue := d.wetQueue ++ [(j, now)] }

theorem State.inputEdge_rises (hp : (s.die (c / 32)).powered = true) (ho : (s.die (c / 32)).isOut (c % 32) = false)
    (hl : (s.die (c / 32)).level.testBit (c % 32) = false) (hw : (s.die (c / 32)).inWindow.testBit (c % 32) = false)
    (hd : (s.die (c / 32)).dark.testBit (c % 32) = false) : (s.inputEdge c).die (c / 32) = (s.die (c / 32)).risen (c % 32) s.lt := by
  unfold State.inputEdge
  dsimp only
  rw [when_of (by rw [hp, ho, hl, hw, hd]; rfl), State.die_setDie, if_pos rfl]
  rfl

theorem firstWaiting_mem : ∀ {l : List (Nat × Ticks)} {u : Nat × Ticks}, firstWaiting l = some u → u ∈ l
  | e :: l, u, h => by
    unfold firstWaiting at h
    split at h
    · next v hv =>
      split at h
      · exact Option.some.inj h ▸ List.mem_cons_of_mem e (firstWaiting_mem hv)
      · exact Option.some.inj h ▸ List.mem_cons_self
    · exact Option.some.inj h ▸ List.mem_cons_self

/-- The first to be served is the channel before which no other came. -/
theorem firstWaiting_eq : ∀ {l : List (Nat × Ticks)} {q : Nat × Ticks}, q ∈ l → (∀ e ∈ l, q.2 < e.2 ∨ (q.2 = e.2 ∧ q.1 < e.1) ∨ e = q) →
    firstWaiting l = some q
  | e :: l, q, hq, hmin => by
    unfold firstWaiting
    by_cases own : e = q
    · subst own
      split
      · next u hu =>
        rw [if_neg]
        rcases hmin u (List.mem_cons_of_mem e (firstWaiting_mem hu)) with later | ⟨same, above⟩ | same
        · exact fun before => before.elim (Nat.lt_asymm later) fun tie => Nat.ne_of_gt later tie.1
        · exact fun before => before.elim (fun earlier => Nat.ne_of_lt earlier same.symm) fun tie => Nat.lt_asymm above tie.2
        · exact same ▸ fun before => before.elim (Nat.lt_irrefl _) fun tie => Nat.lt_irrefl _ tie.2
      · rfl
    · have inTail : q ∈ l := (List.mem_cons.1 hq).resolve_left fun h => own h.symm
      rw [firstWaiting_eq inTail fun x hx => hmin x (List.mem_cons_of_mem e hx)]
      have first : q.2 < e.2 ∨ (q.2 = e.2 ∧ q.1 < e.1) := (hmin e List.mem_cons_self).imp_right fun h => h.resolve_right own
      exact if_pos first

section Ends

variable {t0 : Ticks} {rest : List (Nat × Ticks)} (h : (s.die (c / 32)).wetting = (c % 32, t0) :: rest) (hrest : ∀ e ∈ rest, e.1 ≠ c % 32)
include h hrest

theorem State.wettingEnd_ends : s.wettingEnd c = (s.passTo (t0 + us (500 * fieldOf ((s.die (c / 32)).word (c % 32)) 11 8))).setDie (c / 32)
    (match firstWaiting (s.die (c / 32)).wetQueue with
      | none => { s.die (c / 32) with wetting := rest }
      | some q => { s.die (c / 32) with
          wetting := rest ++ [(q.1, (s.passTo (t0 + us (500 * fieldOf ((s.die (c / 32)).word (c % 32)) 11 8))).lt)]
          wetQueue := (s.die (c / 32)).wetQueue.filter (fun e => e.1 != q.1) }) := by
  have found : (s.die (c / 32)).wetting.find? (fun e => e.1 == c % 32) = some (c % 32, t0) := by simp [h]
  have others : (s.die (c / 32)).wetting.filter (fun e => e.1 != c % 32) = rest := by
    simpa [h] using hrest
  unfold State.wettingEnd
  dsimp only
  rw [found]
  dsimp only
  rw [others]
  rfl

theorem State.wettingEnd_alone (hq : (s.die (c / 32)).wetQueue = []) : (s.wettingEnd c).die (c / 32) = { s.die (c / 32) with wetting := rest } ∧
    t0 + us (500 * fieldOf ((s.die (c / 32)).word (c % 32)) 11 8) ≤ (s.wettingEnd c).time.lt := by
  rw [State.wettingEnd_ends h hrest, hq, State.die_setDie, if_pos rfl]
  exact ⟨rfl, State.le_passTo_lt s _⟩

/-- The channel that waits longest is wetted next. -/
theorem State.wettingEnd_next {q : Nat × Ticks} (hq : q ∈ (s.die (c / 32)).wetQueue)
    (hmin : ∀ e ∈ (s.die (c / 32)).wetQueue, q.2 < e.2 ∨ (q.2 = e.2 ∧ q.1 < e.1) ∨ e = q) : (s.wettingEnd c).die (c / 32) =
    { s.die (c / 32) with wetting := rest ++ [(q.1, (s.wettingEnd c).time.lt)],
                          wetQueue := (s.die (c / 32)).wetQueue.filter (fun e => e.1 != q.1) } := by
  rw [State.wettingEnd_ends h hrest, firstWaiting_eq hq hmin, State.die_setDie, if_pos rfl]
  rfl

end Ends

end Wetting

/-! ### Diagnostics and trips (R338, R342, R343, R372) -/

section Latch

variable {s : State} {c : Nat}

/-- A bit is latched at its channel, and no other tile changes. -/
theorem State.latchDiag_latches (s : State) (c b : Nat) (stays : Bool) :
    Table.get 0 ((s.latchDiag c b stays).die (c / 32)).latch (c % 32) = Table.get 0 (s.die (c / 32)).latch (c % 32) ||| 2 ^ b ∧
    ∀ k, k ≠ c / 32 → (s.latchDiag c b stays).die k = s.die k := by
  unfold State.latchDiag
  dsimp only
  split <;> simp +contextual

theorem State.passTo_latchDiag_latches (s : State) (t : Ticks) (c b : Nat) (stays : Bool) :
    Table.get 0 (((s.passTo t).latchDiag c b stays).die (c / 32)).latch (c % 32) = Table.get 0 (s.die (c / 32)).latch (c % 32) ||| 2 ^ b ∧
    ∀ k, k ≠ c / 32 → ((s.passTo t).latchDiag c b stays).die k = s.die k := by
  simpa using (s.passTo t).latchDiag_latches c b stays

/-- Latching a bit leaves what trips an output. -/
theorem State.latchDiag_keeps (s : State) (c b : Nat) (stays : Bool) :
    ((s.latchDiag c b stays).die (c / 32)).driven = (s.die (c / 32)).driven ∧ ((s.latchDiag c b stays).die (c / 32)).tripped = (s.die (c / 32)).tripped ∧
    ((s.latchDiag c b stays).die (c / 32)).hot = (s.die (c / 32)).hot := by
  unfold State.latchDiag
  dsimp only
  split <;> simp

/-- A tile whose output trips (R342). -/
def Die.trip (d : Die) (j : Nat) (hot : Bool) (now : Ticks) : Die :=
  Die.drive { d with tripped := Table.set none d.tripped j (some now), rearmed := d.rearmed - (d.rearmed &&& 2 ^ j),
                     hot := if hot then d.hot ||| 2 ^ j else d.hot } (d.driven - 2 ^ j) now

theorem State.overload_trips {kind : Nat} (hkind : kind ≠ 2) (hon : (s.die (c / 32)).driven.testBit (c % 32) = true) : s.overload c kind =
    (s.setDie (c / 32) ((s.die (c / 32)).trip (c % 32) (kind == 1) s.lt)).latchDiag c (if kind = 1 then 3 else 0) (kind == 1) := by
  unfold State.overload
  rw [if_neg hkind, when_of hon]
  simp only [Die.trip, beq_iff_eq]

theorem State.overload_latches {kind : Nat} (hkind : kind ≠ 2) (hon : (s.die (c / 32)).driven.testBit (c % 32) = true) :
    Table.get 0 ((s.overload c kind).die (c / 32)).latch (c % 32) = Table.get 0 (s.die (c / 32)).latch (c % 32) ||| 2 ^ (if kind = 1 then 3 else 0) ∧
    ∀ k, k ≠ c / 32 → (s.overload c kind).die k = s.die k := by
  obtain ⟨own, others⟩ := (s.setDie (c / 32) ((s.die (c / 32)).trip (c % 32) (kind == 1) s.lt)).latchDiag_latches c (if kind = 1 then 3 else 0) (kind == 1)
  rw [State.overload_trips hkind hon, own, State.die_setDie, if_pos rfl]
  exact ⟨rfl, fun k hk => (others k hk).trans (by simp [hk])⟩

theorem State.overload_switches {kind : Nat} (hkind : kind ≠ 2) (hon : (s.die (c / 32)).driven.testBit (c % 32) = true) :
    ((s.overload c kind).die (c / 32)).driven = (s.die (c / 32)).driven - 2 ^ (c % 32) ∧
    Table.get none ((s.overload c kind).die (c / 32)).tripped (c % 32) = some s.lt ∧
    ((s.overload c kind).die (c / 32)).hot.testBit (c % 32) = (decide (kind = 1) || (s.die (c / 32)).hot.testBit (c % 32)) := by
  obtain ⟨driven, tripped, hot⟩ :=
    (s.setDie (c / 32) ((s.die (c / 32)).trip (c % 32) (kind == 1) s.lt)).latchDiag_keeps c (if kind = 1 then 3 else 0) (kind == 1)
  rw [State.overload_trips hkind hon, driven, tripped, hot, State.die_setDie, if_pos rfl]
  refine ⟨rfl, Table.get_set_self none (s.die (c / 32)).tripped (c % 32) (some s.lt), ?_⟩
  by_cases shutdown : kind = 1 <;> simp [Die.trip, Die.drive, shutdown]

end Latch

/-! ### Test pulses (R347, R348, R350) -/

section Pulses

variable {s : State} {g : Nat}

theorem State.tpOverload_darkens (hp : (s.die (g / 8)).powered = true) (hen : ((s.die (g / 8)).word (32 + g % 8)).testBit 0 = true)
    (hnew : (s.die (g / 8)).tpOvl.testBit (g % 8) = false) : ((s.tpOverload g).die (g / 8)).tpOvl = (s.die (g / 8)).tpOvl ||| 2 ^ (g % 8) ∧
    ((s.tpOverload g).die (g / 8)).level = (s.die (g / 8)).level - ((s.die (g / 8)).level &&& maskOf ((s.die (g / 8)).fedBy (g % 8))) := by
  unfold State.tpOverload
  rw [when_of (by rw [hp, hen, hnew]; rfl)]
  simp

/-- The window of a supply opens: its channels keep the level of their last sample. -/
theorem State.pulseStarts_opens (hp : (s.die (g / 8)).powered = true) (hrun : (s.die (g / 8)).phase = 2)
    (hen : (s.die (g / 8)).word (32 + g % 8) % 4 = 3) (hshut : Table.get none (s.die (g / 8)).windows (g % 8) = none) :
    ((s.pulseStarts g).die (g / 8)).tpOff = (s.die (g / 8)).tpOff ||| 2 ^ (g % 8) ∧
    ((s.pulseStarts g).die (g / 8)).inWindow = (s.die (g / 8)).inWindow ||| maskOf ((s.die (g / 8)).testedBy (g % 8)) ∧
    Table.get none ((s.pulseStarts g).die (g / 8)).windows (g % 8) =
      some ((s.pulseStarts g).time.lt, maskOf ((s.die (g / 8)).testedBy (g % 8))) ∧
    ∀ j ∈ (s.die (g / 8)).testedBy (g % 8), ((s.pulseStarts g).die (g / 8)).before.testBit j = (s.die (g / 8)).sample.testBit j := by
  have same : (s.passToTt (s.tpNext g + 4000)).die (g / 8) = s.die (g / 8) := rfl
  unfold State.pulseStarts
  rw [when_of (by rw [hp, hrun, hen, hshut]; rfl)]
  dsimp only
  rw [State.die_setDie, if_pos rfl, same]
  refine ⟨rfl, rfl, Table.get_set_self none (s.die (g / 8)).windows (g % 8)
    (some ((s.passToTt (s.tpNext g + 4000)).lt, maskOf ((s.die (g / 8)).testedBy (g % 8)))), fun j hj => ?_⟩
  rw [Nat.testBit_or, testBit_sub_and, Nat.testBit_and, testBit_maskOf]
  simp [hj]

/-- The window of a supply closes: an input that was on before it and stayed on through the pulse has failed. -/
theorem State.windowEnds_judges {still t0 w j : Nat} (h : Table.get none (s.die (g / 8)).windows (g % 8) = some (t0, w)) (hw : w.testBit j = true)
    (hj : j < 32) : t0 + s.tpWindow ≤ (s.windowEnds g still).time.lt ∧
    ((s.die (g / 8)).before.testBit j = true → still.testBit j = true →
      (Table.get 0 ((s.windowEnds g still).die (g / 8)).latch j).testBit 4 = true) ∧
    ((s.windowEnds g still).die (g / 8)).tpOff.testBit (g % 8) = false ∧ ((s.windowEnds g still).die (g / 8)).inWindow.testBit j = false ∧
    ((s.windowEnds g still).die (g / 8)).tpfail.testBit j =
      if (s.die (g / 8)).before.testBit j then still.testBit j else (s.die (g / 8)).tpfail.testBit j := by
  unfold State.windowEnds
  dsimp only
  rw [h]
  dsimp only
  rw [State.die_setDie, if_pos rfl, State.die_passTo]
  refine ⟨State.le_passTo_lt s _, fun hbefore hstill => ?_, by simp [testBit_sub_and], by simp [testBit_sub_and, hw], ?_⟩
  · have tested : j ∈ (List.range 32).filter (fun j => (w &&& (s.die (g / 8)).before).testBit j) := by simp [hj, hw, hbefore]
    dsimp only
    rw [Table.get_foldl_modify 0 _ _ (List.nodup_range.filter _) tested, if_pos (by simp [hw, hbefore, hstill]), Nat.testBit_or]
    exact Bool.or_true _
  · simp only [Nat.testBit_or, testBit_sub_and, Nat.testBit_and, hw, Bool.true_and]
    cases (s.die (g / 8)).before.testBit j <;> simp

end Pulses

/-! ### Presses (R363) -/

section Presses

variable {s : State} {i : Nat} {t0 : Ticks}

theorem State.passTo_modMrst (s : State) (t : Ticks) (i : Nat) (f : Mrst → Mrst) :
    t ≤ ((s.passTo t).modMrst i f).time.lt ∧ ((s.passTo t).modMrst i f).mrst i = f (s.mrst i) := by
  simpa using State.le_passTo_lt s t

theorem State.pressEnd_ends (h : (s.mrst i).press = some t0) (hoff : (s.mrst i).active = false) : (s.pressEnd i).mrst i =
    { s.mrst i with press := none, released := false,
                    accepted := (s.mrst i).accepted || decide (ms 50 ≤ (s.mrst i).offSince - t0 ∧ (s.mrst i).offSince - t0 ≤ sec 3) } := by
  unfold State.pressEnd
  rw [h]
  dsimp only
  rw [when_of (by rw [hoff]; rfl)]
  split <;> simp

theorem State.mrstStuck_sticks (h : (s.mrst i).press = some t0) (hon : (s.mrst i).active = true) : t0 + sec 3 ≤ (s.mrstStuck i).time.lt ∧
    (s.mrstStuck i).mrst i = { s.mrst i with press := none, stuck := true } := by
  unfold State.mrstStuck
  rw [h]
  dsimp only
  rw [when_of hon, State.raise_time, State.mrst_raise]
  exact s.passTo_modMrst _ i _

end Presses

/-- A command that acts under a condition, where it holds. -/
theorem completes_when {c : Instr} {s : State} {g : State → Bool} {f : State → State → State} {post : State → Prop}
    (h : exec c s = run s fun s => when_ (g s) (f s) s) (hg : g { s with outs := [] } = true)
    (hp : post (f { s with outs := [] } { s with outs := [] })) : Completes c s post := by
  refine completes_run h ?_
  rw [when_of hg]
  exact hp

/-- Settles O45: each check by what it latches or wets, each pulse by how its window opens or closes, each press by how it ends. -/
theorem channelChecksAndPresses : Obligations.ChannelChecksAndPresses := by
  intro s
  let s0 : State := { s with outs := [] }
  refine ⟨fun c => ⟨fun hp ho hl hw hd => ⟨fun hno => ?unwetted, fun hcur hnew hroom => ?wetted, fun hcur hnew hfull => ?queued⟩,
    fun t0 rest h hrest => ⟨fun hq => ?alone, fun q hq hmin => ?next⟩, fun ho hen => ?wireBreak, fun ho hen hoff => ?openWire,
    fun hon => ⟨?readback, ?overload, ?shutdown⟩, fun kind hkind hon => ?trip⟩,
    fun g => ⟨fun hp hen hnew => ?tpOverload, fun hp hrun hen hshut => ?opens, fun still t0 w j h hw hj => ?closes⟩,
    fun i => ⟨fun hon hrel hpress => ?begins, fun t0 hpress hoff => ?ends, fun t0 hpress hon => ?stuck, fun hoff hpress => ?released⟩⟩
  case unwetted =>
    refine completes_run (f := fun s => s.inputEdge c) rfl ?_
    rw [State.inputEdge_rises (s := s0) hp ho hl hw hd]
    exact if_pos hno
  case wetted =>
    refine completes_run (f := fun s => s.inputEdge c) rfl ?_
    rw [State.inputEdge_rises (s := s0) hp ho hl hw hd]
    exact (if_neg (not_or.2 ⟨hcur, Bool.eq_false_iff.1 hnew⟩)).trans (if_pos hroom)
  case queued =>
    refine completes_run (f := fun s => s.inputEdge c) rfl ?_
    rw [State.inputEdge_rises (s := s0) hp ho hl hw hd]
    exact (if_neg (not_or.2 ⟨hcur, Bool.eq_false_iff.1 hnew⟩)).trans (if_neg (Nat.not_lt.2 hfull))
  case alone => exact completes_run (f := fun s => s.wettingEnd c) rfl (State.wettingEnd_alone (s := s0) h hrest hq)
  case next => exact completes_run (f := fun s => s.wettingEnd c) rfl (State.wettingEnd_next (s := s0) h hrest hq hmin)
  case wireBreak =>
    exact completes_when (g := fun s => !(s.die (c.val / 32)).isOut (c.val % 32) && ((s.die (c.val / 32)).word (c.val % 32)).testBit 13)
      (f := fun _ s => s.latchDiag c 2 true) rfl (by simpa using ⟨ho, hen⟩) (s0.latchDiag_latches c 2 true)
  case openWire =>
    exact completes_when (g := fun s => (s.die (c.val / 32)).isOut (c.val % 32) && ((s.die (c.val / 32)).word (c.val % 32)).testBit 12 &&
      !(s.die (c.val / 32)).driven.testBit (c.val % 32)) (f := fun _ s => s.latchDiag c 1 true) rfl (by simpa using ⟨⟨ho, hen⟩, hoff⟩)
      (s0.latchDiag_latches c 1 true)
  case readback =>
    exact completes_when (g := fun s => (s.die (c.val / 32)).driven.testBit (c.val % 32))
      (f := fun s x => (x.passTo (Table.get 0 (s.die (c.val / 32)).changed (c.val % 32) + us 200)).latchDiag c 6 false) rfl hon
      (s0.passTo_latchDiag_latches _ c 6 false)
  case overload => exact completes_run (f := fun s => s.overload c 0) rfl (State.overload_latches (s := s0) (by decide) hon)
  case shutdown => exact completes_run (f := fun s => s.overload c 1) rfl (State.overload_latches (s := s0) (by decide) hon)
  case trip => exact completes_run (f := fun s => s.overload c kind) rfl (State.overload_switches (s := s0) hkind hon)
  case tpOverload => exact completes_run (f := fun s => s.tpOverload g) rfl (State.tpOverload_darkens (s := s0) hp hen hnew)
  case opens => exact completes_run (f := fun s => s.pulseStarts g) rfl (State.pulseStarts_opens (s := s0) hp hrun hen hshut)
  case closes => exact completes_run (f := fun s => s.windowEnds g still) rfl (State.windowEnds_judges (s := s0) h hw hj)
  case begins =>
    refine completes_when (g := fun s => (s.mrst i).active && (s.mrst i).released && (s.mrst i).press.isNone)
      (f := fun _ s => s.modMrst i fun m => { m with press := some m.onSince, released := false }) rfl (by simpa using ⟨⟨hon, hrel⟩, hpress⟩) ?_
    exact (State.mrst_setMrst s0 i i _).trans (if_pos rfl)
  case ends => exact completes_run (f := fun s => s.pressEnd i) rfl (State.pressEnd_ends (s := s0) hpress hoff)
  case stuck => exact completes_run (f := fun s => s.mrstStuck i) rfl (State.mrstStuck_sticks (s := s0) hpress hon)
  case released =>
    refine completes_when (g := fun s => !(s.mrst i).active && (s.mrst i).press.isNone)
      (f := fun _ s => (s.passTo ((s.mrst i).offSince + sec 1)).modMrst i fun m => { m with released := true, stuck := false }) rfl
      (by simpa using ⟨hoff, hpress⟩) ?_
    exact s0.passTo_modMrst _ i _

end Sys2Proof.Machine
end

section
/-!
PROOFS. Tiles and dies as their frames, TIMEOUT and supply move them (R341, R354, R356, R358 to R360, R365).
-/
namespace Sys2Proof.Machine
open Sys2Proof

/-! ### The outputs of a tile (R341, R342) -/

/-- A tile but for what the switching of its outputs writes. -/
def Die.outputsAside (d : Die) : Die := { d with active := false, out := 0, driven := 0, changed := [], tripped := [], rearmed := 0 }

/-- What a tile keeps of `d` while its outputs are switched. -/
structure Die.Switched (d e : Die) : Prop where
  phase : e.phase = d.phase
  words : e.words = d.words
  seqAck : e.seqAck = d.seqAck
  rxOk : e.rxOk = d.rxOk
  cfgErr : e.cfgErr = d.cfgErr
  lastOk : e.lastOk = d.lastOk
  waiting : e.waiting = d.waiting
  tpOff : e.tpOff = d.tpOff
  diagNext : e.diagNext = d.diagNext

theorem Die.Switched.of_aside {d e : Die} (h : e.outputsAside = d.outputsAside) : d.Switched e :=
  have read {α : Type} (field : Die → α) : field e.outputsAside = field d.outputsAside := congrArg field h
  ⟨read Die.phase, read Die.words, read Die.seqAck, read Die.rxOk, read Die.cfgErr, read Die.lastOk, read Die.waiting, read Die.tpOff,
    read Die.diagNext⟩

/-- A tripped output as a command reaches it: rearmed by a command of off, free again by one of on. -/
def Die.rearm (out : Nat) (now : Ticks) (d : Die) (j : Nat) : Die :=
  match Table.get none d.tripped j with
  | none => d
  | some t =>
    if !out.testBit j then { d with rearmed := d.rearmed ||| 2 ^ j }
    else if d.rearmed.testBit j ∧ t + ms 100 ≤ now ∧ !d.hot.testBit j then
      { d with tripped := Table.set none d.tripped j none, rearmed := d.rearmed - (d.rearmed &&& 2 ^ j) }
    else d

/-- A tile that takes a command, with each of its tripped outputs rearmed as the command has it. -/
def Die.commanded (d : Die) (out : Nat) (active : Bool) (now : Ticks) : Die :=
  (List.range 32).foldl (Die.rearm out now) { d with out := out, active := active }

theorem Die.applyOut_eq (d : Die) (out : Nat) (active : Bool) (now : Ticks) : d.applyOut out active now =
    (d.commanded out active now).drive ((List.range 32).foldl (fun a j => a + b2n (active && (d.commanded out active now).isOut j && out.testBit j &&
      (Table.get none (d.commanded out active now).tripped j).isNone) * 2 ^ j) 0) now := (rfl)

theorem Die.rearm_keeps (out : Nat) (now : Ticks) (d : Die) (j : Nat) : (d.rearm out now j).outputsAside = d.outputsAside ∧
    (Die.rearm out now d j).out = d.out ∧
    ∀ i, Table.get none d.tripped i = none → Table.get none (Die.rearm out now d j).tripped i = none := by
  unfold Die.rearm
  split
  · exact ⟨rfl, rfl, fun _ h => h⟩
  · split_ifs
    · exact ⟨rfl, rfl, fun _ h => h⟩
    · exact ⟨rfl, rfl, fun i h => by rw [Table.get_set, h, ite_self]⟩
    · exact ⟨rfl, rfl, fun _ h => h⟩

theorem Die.commanded_keeps (d : Die) (out : Nat) (active : Bool) (now : Ticks) : (d.commanded out active now).outputsAside = d.outputsAside ∧
    (d.commanded out active now).out = out ∧
    ∀ i, Table.get none d.tripped i = none → Table.get none (d.commanded out active now).tripped i = none :=
  List.foldlRecOn (motive := fun x : Die => x.outputsAside = d.outputsAside ∧ x.out = out ∧
      ∀ i, Table.get none d.tripped i = none → Table.get none x.tripped i = none)
    (List.range 32) (Die.rearm out now) ⟨rfl, rfl, fun _ h => h⟩
    fun x h j _ => by
      obtain ⟨aside, own, trips⟩ := h
      obtain ⟨aside', own', trips'⟩ := Die.rearm_keeps out now x j
      exact ⟨aside'.trans aside, own'.trans own, fun i hi => trips' i (trips i hi)⟩

theorem Die.drive_drives (d : Die) (img : Nat) (now : Ticks) : (d.drive img now).driven = img ∧ (d.drive img now).outputsAside = d.outputsAside ∧
    (d.drive img now).out = d.out := ⟨rfl, rfl, rfl⟩

/-- A command switches the outputs alone: each that has not tripped is driven as commanded. -/
theorem Die.applyOut_switches (d : Die) (out : Nat) (active : Bool) (now : Ticks) : d.Switched (d.applyOut out active now) ∧
    (d.applyOut out active now).out = out ∧ ∀ j < 32, Table.get none d.tripped j = none →
      (d.applyOut out active now).driven.testBit j = (active && d.isOut j && out.testBit j) := by
  obtain ⟨aside, own, trips⟩ := d.commanded_keeps out active now
  rw [Die.applyOut_eq]
  generalize d.commanded out active now = x at aside own trips
  obtain ⟨driven, aside', own'⟩ := x.drive_drives ((List.range 32).foldl (fun a j => a + b2n (active && x.isOut j && out.testBit j &&
    (Table.get none x.tripped j).isNone) * 2 ^ j) 0) now
  refine ⟨.of_aside (aside'.trans aside), own'.trans own, fun j hj hfree => ?_⟩
  rw [driven, testBit_foldl_b2n _ hj, trips j hfree, Die.isOut, Die.word, (Die.Switched.of_aside aside).words]
  exact Bool.and_true _

/-! ### SAFE (R360) -/

section Safe

variable (s : State) (k : Nat)

theorem Frame.die {w : Nat} {s t : State} (h : Frame w s t) (hw : Part.out Part.fio w = true) (k : Nat) : t.die k = s.die k := by
  rw [State.die, h.fio hw, State.die]

theorem State.bankSafe_die (b : Nat) (active : Bool) : (s.bankSafe b active).die k = s.die k :=
  (State.bankSafe_frame (w := Part.rcd ||| Part.cnt ||| Part.loads) rfl (Frame.refl _ s)).die rfl k

/-- A tile or die that goes to SAFE: it waits for no frame, and its pulses end. -/
def Die.safe (d : Die) : Die := { d with phase := 3, waiting := [], tpOff := 0, inWindow := 0, windows := [] }

/-- A tile in SAFE drives its SAFE levels. -/
theorem State.toSafe_die : (s.die k).safe.Switched ((s.toSafe k).die k) ∧ (k < 8 → ∀ j < 32, Table.get none (s.die k).tripped j = none →
    ((s.toSafe k).die k).driven.testBit j = ((s.die k).accActive && (s.die k).isOut j && (s.die k).safeImage.testBit j)) := by
  unfold State.toSafe
  dsimp only
  rw [← Die.safe]
  by_cases tile : k < 8
  · obtain ⟨switched, -, driven⟩ := (s.die k).safe.applyOut_switches (s.die k).safeImage (s.die k).accActive s.lt
    rw [if_pos tile, if_pos tile, State.die_setDie, if_pos rfl]
    exact ⟨switched, fun _ => driven⟩
  · rw [if_neg tile, if_neg tile, State.bankSafe_die, State.die_setDie, if_pos rfl]
    exact ⟨.of_aside rfl, fun h => absurd h tile⟩

theorem State.toSafe_keeps : Frame (Part.rcd ||| Part.cnt ||| Part.fio ||| Part.loads) s (s.toSafe k) := State.toSafe_frame rfl (Frame.refl _ s)

end Safe

/-! ### A downlink frame (R354, R358, R359) -/

/-- A tile or die that has accepted a frame, before it acts on it. -/
def Die.acknowledged (d : Die) (b : List Byte) (now : Ticks) : Die :=
  { d with seqAck := some (beAt b 2 2), lastOk := now, accActive := (byteAt b 0).testBit 3 }
/-- The index of the configuration word that a frame carries. -/
def cfgIdx (k : Nat) (b : List Byte) : Nat := if k < 8 then byteAt b 11 else byteAt b 8
/-- The configuration word that a frame carries. -/
def cfgValue (k : Nat) (b : List Byte) : Nat := if k < 8 then beAt b 12 4 else beAt b 9 4
/-- A tile or die that accepts configuration: begun anew in any state but CONFIG. -/
def Die.configuring (d : Die) : Die :=
  if d.phase = 1 then d else { d with phase := 1, words := [], stored := 0, cfgErr := false, waiting := [] }

/-- One that finds a configuration word other than its own. -/
def Die.misconfigured (d : Die) (b : List Byte) (now : Ticks) : Die := { d.acknowledged b now with cfgErr := true, rxOk := false }

section Accepted

variable {s : State} {k : Nat} {b : List Byte}

theorem State.takeFrame_refuses (h : dieAccepts (s.die k) k b = false) : s.takeFrame k b = s.setDie k { s.die k with rxOk := false } := by
  unfold State.takeFrame
  dsimp only
  rw [if_pos (by rw [h]; rfl)]

variable (h : dieAccepts (s.die k) k b = true)
include h

theorem State.takeFrame_acts : s.takeFrame k b =
    if byteAt b 0 % 8 = 2 then s.setDie k { ((s.die k).acknowledged b s.lt).configuring with
      words := Table.set 0 ((s.die k).acknowledged b s.lt).configuring.words (cfgIdx k b) (cfgValue k b)
      stored := ((s.die k).acknowledged b s.lt).configuring.stored ||| 2 ^ cfgIdx k b, rxOk := true }
    else if (s.die k).phase = 0 ∨ (s.die k).phase = 3 then s.setDie k { (s.die k).acknowledged b s.lt with rxOk := false }
    else if (s.die k).phase = 1 ∧ (s.die k).stored ≠ 2 ^ wordCount k - 1 then s.setDie k { (s.die k).acknowledged b s.lt with rxOk := false }
    else if (s.die k).word (cfgIdx k b) ≠ cfgValue k b then
      (s.setDie k ((s.die k).misconfigured b s.lt)).toSafe k
    else s.setDie k { (s.die k).acknowledged b s.lt with
      phase := 2, rxOk := true, waiting := (s.die k).waiting ++ [dieFrame k b (s.applyDue k b)] } := by
  conv_lhs => unfold State.takeFrame
  dsimp only
  rw [if_neg (by rw [h]; decide)]
  rfl

theorem State.takeFrame_acknowledges : ((s.takeFrame k b).die k).seqAck = some (beAt b 2 2) ∧ ((s.takeFrame k b).die k).lastOk = s.lt := by
  rw [State.takeFrame_acts h]
  split_ifs
  · rw [State.die_setDie, if_pos rfl]
    unfold Die.configuring
    split <;> exact ⟨rfl, rfl⟩
  · rw [State.die_setDie, if_pos rfl]
    exact ⟨rfl, rfl⟩
  · rw [State.die_setDie, if_pos rfl]
    exact ⟨rfl, rfl⟩
  · obtain ⟨switched, -⟩ := (s.setDie k ((s.die k).misconfigured b s.lt)).toSafe_die k
    rw [State.die_setDie, if_pos rfl] at switched
    exact ⟨switched.seqAck, switched.lastOk⟩
  · rw [State.die_setDie, if_pos rfl]
    exact ⟨rfl, rfl⟩

/-- CONFIG takes the word of the frame. -/
theorem State.takeFrame_configures (hctl : byteAt b 0 % 8 = 2) : ∃ e : Die, (s.takeFrame k b).die k = e ∧ e.rxOk = true ∧ e.phase = 1 ∧
    e.word (cfgIdx k b) = cfgValue k b ∧ e.driven = (s.die k).driven ∧
    e.stored = (if (s.die k).phase = 1 then (s.die k).stored ||| 2 ^ cfgIdx k b else 2 ^ cfgIdx k b) := by
  rw [State.takeFrame_acts h, if_pos hctl, State.die_setDie, if_pos rfl]
  refine ⟨_, rfl, rfl, ?_, Table.get_set_self _ _ _ _, ?_, ?_⟩
  all_goals
    unfold Die.configuring
    by_cases config : (s.die k).phase = 1 <;> simp [Die.acknowledged, config]

variable (hctl : byteAt b 0 % 8 = 1)
include hctl

/-- A RUN frame before the configuration is complete. -/
theorem State.takeFrame_unready
    (hd : (s.die k).phase = 0 ∨ (s.die k).phase = 3 ∨ ((s.die k).phase = 1 ∧ (s.die k).stored ≠ 2 ^ wordCount k - 1)) :
    s.takeFrame k b = s.setDie k { (s.die k).acknowledged b s.lt with rxOk := false } := by
  rw [State.takeFrame_acts h, if_neg (by omega)]
  rcases hd with hd | hd | hd
  · exact if_pos (.inl hd)
  · exact if_pos (.inr hd)
  · rw [if_neg (by omega), if_pos hd]

variable (hd : ((s.die k).phase = 1 ∧ (s.die k).stored = 2 ^ wordCount k - 1) ∨ (s.die k).phase = 2)
include hd

theorem State.takeFrame_ready : s.takeFrame k b =
    if (s.die k).word (cfgIdx k b) ≠ cfgValue k b then
      (s.setDie k ((s.die k).misconfigured b s.lt)).toSafe k
    else s.setDie k { (s.die k).acknowledged b s.lt with
      phase := 2, rxOk := true, waiting := (s.die k).waiting ++ [dieFrame k b (s.applyDue k b)] } := by
  rw [State.takeFrame_acts h, if_neg (by omega), if_neg (by omega), if_neg]
  rcases hd with ⟨-, complete⟩ | run
  · exact fun open_ => open_.2 complete
  · omega

theorem State.takeFrame_runs (hword : (s.die k).word (cfgIdx k b) = cfgValue k b) : (s.takeFrame k b).die k =
    { (s.die k).acknowledged b s.lt with phase := 2, rxOk := true, waiting := (s.die k).waiting ++ [dieFrame k b (s.applyDue k b)] } := by
  rw [State.takeFrame_ready h hctl hd, if_neg (not_not.2 hword), State.die_setDie, if_pos rfl]

/-- A word that differs from the one held is a CFG_ERR. -/
theorem State.takeFrame_differs (hword : (s.die k).word (cfgIdx k b) ≠ cfgValue k b) : ((s.takeFrame k b).die k).rxOk = false ∧
    ((s.takeFrame k b).die k).phase = 3 ∧ ((s.takeFrame k b).die k).cfgErr = true ∧ ((s.takeFrame k b).die k).waiting = [] ∧
    (k < 8 → ∀ j < 32, Table.get none (s.die k).tripped j = none →
      ((s.takeFrame k b).die k).driven.testBit j = ((byteAt b 0).testBit 3 && (s.die k).isOut j && (s.die k).safeImage.testBit j)) := by
  obtain ⟨switched, driven⟩ := (s.setDie k ((s.die k).misconfigured b s.lt)).toSafe_die k
  rw [State.die_setDie, if_pos rfl] at switched driven
  rw [State.takeFrame_ready h hctl hd, if_pos hword]
  exact ⟨switched.rxOk, switched.phase, switched.cfgErr, switched.waiting, driven⟩

end Accepted

theorem State.takeFrame_diagNext (s : State) (k : Nat) (b : List Byte) : ((s.takeFrame k b).die k).diagNext = (s.die k).diagNext := by
  cases h : dieAccepts (s.die k) k b with
  | false => rw [State.takeFrame_refuses h, State.die_setDie, if_pos rfl]
  | true =>
    rw [State.takeFrame_acts h]
    split_ifs
    · rw [State.die_setDie, if_pos rfl]
      unfold Die.configuring
      split <;> rfl
    · rw [State.die_setDie, if_pos rfl, Die.acknowledged]
    · rw [State.die_setDie, if_pos rfl, Die.acknowledged]
    · obtain ⟨switched, -⟩ := (s.setDie k ((s.die k).misconfigured b s.lt)).toSafe_die k
      rw [State.die_setDie, if_pos rfl] at switched
      exact switched.diagNext
    · rw [State.die_setDie, if_pos rfl, Die.acknowledged]

/-! ### The reply (R353, R389) -/

theorem State.tileReply_replies (s : State) (k : Nat) (vals : List Nat) : ∃ raw r, s.tileReply k vals =
    (s.setDie k { s.die k with level := raw, sample := raw, diagNext := ((s.die k).diagNext + 1) % 32 }).emit (.dieReply k r) := ⟨_, _, rfl⟩

theorem State.dieReply_replies (s : State) (k : Nat) (vals : List Nat) : ∃ x r, Frame Part.loads s x ∧ s.dieReply k vals =
    (x.setDie k { s.die k with diagNext := ((s.die k).diagNext + 1) % 8 }).emit (.dieReply k r) :=
  ⟨_, _, forEach_frame (fun _ _ h => State.modSw_frame rfl h) _ (Frame.refl _ s), rfl⟩

/-- The far end of a link replies. -/
def State.farReply (s : State) (k : Nat) (vals : List Nat) : State := if k < 8 then s.tileReply k vals else s.dieReply k vals

/-- A reply is put out; it leaves of a tile or die all but its sample, and the channel whose diagnostics come next. -/
theorem State.farReply_replies (s : State) (k : Nat) (vals : List Nat) : ∃ level sample r,
    (s.farReply k vals).die k =
      { s.die k with level := level, sample := sample, diagNext := ((s.die k).diagNext + 1) % (if k < 8 then 32 else 8) } ∧
    (s.farReply k vals).outs = s.outs ++ [.dieReply k r] := by
  unfold State.farReply
  split
  · obtain ⟨raw, r, replies⟩ := s.tileReply_replies k vals
    rw [replies]
    exact ⟨raw, raw, r, (State.die_setDie _ k k _).trans (if_pos rfl), rfl⟩
  · obtain ⟨x, r, frame, replies⟩ := s.dieReply_replies k vals
    rw [replies]
    exact ⟨_, _, r, (State.die_setDie _ k k _).trans (if_pos rfl), congrArg (· ++ [Out.dieReply k r]) (frame.outs rfl)⟩

/-- A powered tile or die acts on a frame and replies. -/
theorem exec_tileFrameReceive {s : State} {k : Fin 12} (b : List Byte) (vals : List Nat) (hp : (s.die k).powered = true) :
    ∃ t level sample next, exec (.tileFrameReceive k b vals) s = .next t ∧
      t.die k = { (State.takeFrame { s with outs := [] } k b).die k with level := level, sample := sample, diagNext := next } ∧
      (∃ r, t.outs = [.dieReply k r]) ∧ (t.die k).diagNext = ((s.die k).diagNext + 1) % (if k.val < 8 then 32 else 8) := by
  let s0 : State := { s with outs := [] }
  obtain ⟨level, sample, r, die, outs⟩ := (s0.takeFrame k b).farReply_replies k vals
  have quiet : (s0.takeFrame k b).outs = [] :=
    (State.takeFrame_frame (w := Part.rcd ||| Part.cnt ||| Part.fio ||| Part.loads) rfl (Frame.refl _ s0)).outs rfl
  rw [quiet] at outs
  rw [State.takeFrame_diagNext] at die
  exact ⟨_, level, sample, _, congrArg Host.Outcome.next (when_of (f := fun x => (x.takeFrame k b).farReply k vals) hp s0), die, ⟨r, outs⟩,
    congrArg Die.diagNext die⟩

/-! ### Application, TIMEOUT and supply (R356, R359, R365) -/

section FarEnd

variable {s : State} {k : Nat}

theorem State.applyBank_die (s : State) (b out clr j : Nat) (active clrDiag : Bool) : (s.applyBank b out clr active clrDiag).die j = s.die j :=
  (State.applyBank_frame (w := Part.rcd ||| Part.cnt ||| Part.loads) rfl (Frame.refl _ s)).die rfl j

/-- A tile as a frame finds it when it is applied. -/
def Die.cleared (d : Die) (clrDiag : Bool) : Die := if clrDiag then d.clearDiag else d

theorem Die.cleared_eq (d : Die) (clrDiag : Bool) : ∃ latch tpOvl, d.cleared clrDiag = { d with latch := latch, tpOvl := tpOvl } := by
  unfold Die.cleared
  split
  · exact ⟨_, _, rfl⟩
  · exact ⟨d.latch, d.tpOvl, rfl⟩

theorem State.applyFrame_applies {f : DieFrame} {rest : List DieFrame} (h : (s.die k).waiting = f :: rest) : f.due ≤ (s.applyFrame k).time.lt ∧
    ((s.applyFrame k).die k).waiting = rest ∧ ((s.applyFrame k).die k).tpOff = f.tpOff ∧ ((s.applyFrame k).die k).out = f.out ∧
    (k < 8 → ∀ j < 32, Table.get none (s.die k).tripped j = none →
      ((s.applyFrame k).die k).driven.testBit j = (f.active && (s.die k).isOut j && f.out.testBit j)) := by
  unfold State.applyFrame
  rw [h]
  dsimp only
  rw [State.die_passTo]
  by_cases tile : k < 8
  · obtain ⟨latch, tpOvl, cleared⟩ := Die.cleared_eq { s.die k with waiting := rest, tpOff := f.tpOff } f.clrDiag
    obtain ⟨switched, own, driven⟩ :=
      (Die.cleared { s.die k with waiting := rest, tpOff := f.tpOff } f.clrDiag).applyOut_switches f.out f.active (s.passTo f.due).lt
    rw [if_pos tile, State.die_setDie, if_pos rfl, ← Die.cleared]
    rw [cleared] at switched own driven ⊢
    exact ⟨State.le_passTo_lt s _, switched.waiting, switched.tpOff, own, fun _ => driven⟩
  · rw [if_neg tile, State.applyBank_die, State.die_setDie, if_pos rfl]
    refine ⟨?_, rfl, rfl, rfl, fun h => absurd h tile⟩
    rw [(State.applyBank_frame (w := Part.rcd ||| Part.cnt ||| Part.loads) rfl (Frame.refl _ _)).time rfl]
    exact State.le_passTo_lt s _

/-- No frame has been accepted for TIMEOUT. -/
theorem State.tileTimeout_expires (hp : (s.die k).powered = true) (hd : (s.die k).phase = 1 ∨ (s.die k).phase = 2) :
    ((s.tileTimeout k).die k).phase = 3 ∧ ((s.tileTimeout k).die k).waiting = [] ∧
    (s.die k).lastOk + us (10 * if (s.die k).stored.testBit (if k < 8 then 40 else 8) then (s.die k).word (if k < 8 then 40 else 8) % 2 ^ 14 else 200) ≤
      (s.tileTimeout k).time.lt ∧
    (k < 8 → ∀ j < 32, Table.get none (s.die k).tripped j = none →
      ((s.tileTimeout k).die k).driven.testBit j = ((s.die k).accActive && (s.die k).isOut j && (s.die k).safeImage.testBit j)) := by
  unfold State.tileTimeout
  dsimp only
  rw [when_of (by simpa [hp] using hd)]
  rw [((State.passTo s _).toSafe_keeps k).time rfl]
  obtain ⟨switched, driven⟩ := State.toSafe_die (s.passTo ((s.die k).lastOk + us (10 * if (s.die k).stored.testBit (if k < 8 then 40 else 8) then
    (s.die k).word (if k < 8 then 40 else 8) % 2 ^ 14 else 200))) k
  rw [State.die_passTo] at switched driven
  exact ⟨switched.phase, switched.waiting, State.le_passTo_lt s _, driven⟩

/-- A die without supply is reset, and no other changes. -/
theorem State.supplyLoss_die (s : State) (k j : Nat) : (s.supplyLoss k).die j = if j = k then {} else s.die j := by
  have others : Frame Part.loads (s.setDie k {}) (s.supplyLoss k) :=
    Frame.ite (Frame.refl _ _) (forEach_frame (fun _ _ h => State.modSw_frame rfl h) _ (State.setBank_frame rfl (Frame.refl _ _)))
  exact (others.die rfl j).trans (State.die_setDie s k j {})

theorem State.supplyLoss_off (hk : 8 ≤ k) : ∀ n ∈ bankSwitches (k - 8), ((s.supplyLoss k).sw n).st = .off := by
  intro n hn
  unfold State.supplyLoss
  dsimp only
  rw [if_neg (Nat.not_lt.2 hk)]
  have once : (bankSwitches (k - 8)).Nodup := List.nodup_range.map fun a b h => by simpa using h
  obtain ⟨x, -, -, visited⟩ := forEach_visits (unit := State.sw) (f := fun s n => s.modSw n fun w => { target := w.target, cmd := w.cmd, onDue := w.onDue })
    (I := fun _ => True) (fun s i j h => by simp [h]) (fun _ _ h => h) _ once ((s.setDie k {}).setBank (k - 8) {}) trivial hn
  rw [visited]
  simp

theorem State.powerUp_die (s : State) (k j : Nat) : (s.powerUp k).die j = if j = k then { powered := true, lastOk := s.lt } else s.die j := by
  unfold State.powerUp
  rw [State.die_setDie, State.supplyLoss_die]
  split <;> rfl

end FarEnd

/-- Settles O44: each frame by how a tile or die acts on it, its application, TIMEOUT and supply by the lemma that says what they leave. -/
theorem tilesFollowTheirStates : Obligations.TilesFollowTheirStates := by
  intro s k
  let s0 : State := { s with outs := [] }
  refine ⟨fun b vals hp => ?frame, fun f rest h => ?applies, fun hp hd => ?expires, ?powers, ?loses⟩
  case frame =>
    obtain ⟨t, level, sample, next, answers, die, outs, diagNext⟩ := exec_tileFrameReceive b vals hp
    refine ⟨fun hno => ⟨t, answers, ?refuses, outs, diagNext⟩, fun hacc => ⟨t, answers, ?acknowledges, outs, diagNext⟩,
      fun hacc hctl => ⟨t, answers, ?configures, outs, diagNext⟩, fun hacc hctl hd => ⟨t, answers, ?unready, outs, diagNext⟩,
      fun hacc hctl hd => ⟨fun hword => ⟨t, answers, ?runs, outs, diagNext⟩, fun hword => ⟨t, answers, ?differs, outs, diagNext⟩⟩⟩
    all_goals rw [die]
    case refuses =>
      rw [State.takeFrame_refuses (s := s0) hno, State.die_setDie, if_pos rfl]
      exact ⟨rfl, rfl, rfl, rfl, rfl, rfl⟩
    case acknowledges => exact State.takeFrame_acknowledges (s := s0) hacc
    case configures =>
      obtain ⟨e, die, configured⟩ := State.takeFrame_configures (s := s0) hacc hctl
      rw [die]
      exact configured
    case unready =>
      rw [State.takeFrame_unready (s := s0) hacc hctl hd, State.die_setDie, if_pos rfl]
      exact ⟨rfl, rfl, rfl, rfl⟩
    case runs =>
      rw [State.takeFrame_runs (s := s0) hacc hctl hd hword]
      exact ⟨rfl, rfl, rfl⟩
    case differs => exact State.takeFrame_differs (s := s0) hacc hctl hd hword
  case applies => exact completes_run (f := fun s => s.applyFrame k) rfl (State.applyFrame_applies (s := s0) h)
  case expires => exact completes_run (f := fun s => s.tileTimeout k) rfl (State.tileTimeout_expires (s := s0) hp hd)
  case powers =>
    refine completes_run (f := fun s => s.powerUp k) rfl ⟨?_, fun j hj => ?_⟩
    · rw [State.powerUp_die, if_pos rfl]
      rfl
    · rw [State.powerUp_die, if_neg hj]
      rfl
  case loses =>
    refine completes_run (f := fun s => s.supplyLoss k) rfl ⟨?_, fun j hj => ?_, fun hk => State.supplyLoss_off hk⟩
    · rw [State.supplyLoss_die, if_pos rfl]
    · rw [State.supplyLoss_die, if_neg hj]
      rfl

end Sys2Proof.Machine
end

section
/-!
PROOFS. The main die's end of a link (R345, R351, R355 to R357, R361, R369): a reply that fails, a reply that is taken, and the frames of a
field frame.
-/
namespace Sys2Proof.Machine
open Sys2Proof

/-! ### The links and the filters apart from the rest -/

/-- `t` keeps the links and the filters of `s`. -/
structure State.SameLines (s t : State) : Prop where
  links : t.fio.links = s.fio.links
  cnt : t.fio.cnt = s.fio.cnt
  filt : t.fio.filt = s.fio.filt

theorem State.SameLines.of_fio {s t : State} (h : t.fio = s.fio) : s.SameLines t :=
  ⟨congrArg FieldIo.links h, congrArg FieldIo.cnt h, congrArg FieldIo.filt h⟩

theorem State.SameLines.trans {s u t : State} (h : s.SameLines u) (h' : u.SameLines t) : s.SameLines t :=
  ⟨h'.links.trans h.links, h'.cnt.trans h.cnt, h'.filt.trans h.filt⟩

/-- A link but for what the far end reports of its channels. -/
def FLink.readingsAside (l : FLink) : FLink :=
  { l with raw := 0, tpfail := 0, tpOvl := 0, vsup := 0, temp := 0, diag := [], swByte := [], current := [], ibank := 0 }

theorem FLink.lost_congr {l m : FLink} (h : l.readingsAside = m.readingsAside) : l.lost = m.lost :=
  have read {α : Type} (field : FLink → α) : field l.readingsAside = field m.readingsAside := congrArg field h
  read FLink.lost

theorem State.flink_congr {s t : State} (h : t.fio.links = s.fio.links) (j : Nat) : t.flink j = s.flink j := by
  rw [State.flink, h, State.flink]

theorem Frame.flink {w : Nat} {s t : State} (h : Frame w s t) (hw : Part.out Part.fio w = true) (j : Nat) : t.flink j = s.flink j :=
  State.flink_congr (congrArg FieldIo.links (h.fio hw)) j

@[simp] theorem State.linkEvent_fio (s : State) (k tile die : Nat) : (s.linkEvent k tile die).fio = s.fio :=
  (State.linkEvent_frame (w := Part.rcd ||| Part.cnt) rfl (Frame.refl _ s)).fio rfl
@[simp] theorem State.linkEvent_ilk (s : State) (k tile die : Nat) : (s.linkEvent k tile die).ilk = s.ilk :=
  (State.linkEvent_frame (w := Part.rcd ||| Part.cnt) rfl (Frame.refl _ s)).ilk rfl
@[simp] theorem State.linkEvent_regs (s : State) (k tile die : Nat) : (s.linkEvent k tile die).regs = s.regs :=
  (State.linkEvent_frame (w := Part.rcd ||| Part.cnt) rfl (Frame.refl _ s)).regs rfl
@[simp] theorem State.flink_linkEvent (s : State) (k tile die j : Nat) : (s.linkEvent k tile die).flink j = s.flink j :=
  State.flink_congr (by simp) j

/-! ### After the samples of a field frame (R297, R301, R304) -/

section Samples

variable (s : State)

theorem State.driveSo_tileLost (b v0 v1 : Bool) : (s.driveSo b v0 v1).ilk.tileLost = s.ilk.tileLost := by
  have level (x : State) (k : Nat) (v : Bool) : (x.soLevel k v).ilk.tileLost = x.ilk.tileLost := by
    unfold State.soLevel
    split <;> rfl
  have record : s.soRecord.ilk.tileLost = s.ilk.tileLost := by
    unfold State.soRecord
    split
    · split
      · rfl
      · rw [State.raise_ilk]
    · rfl
  unfold State.driveSo
  dsimp only
  split
  · rw [level, level, record]
  · exact (level _ _ _).trans ((level _ _ _).trans record)

theorem State.pairStep_tileLost (i : Nat) : (s.pairStep i).ilk.tileLost = s.ilk.tileLost := by
  have latch : (s.discLatch i).ilk.tileLost = s.ilk.tileLost := by
    unfold State.discLatch
    split
    · dsimp only
      rw [State.count_ilk, State.raise_ilk]
      rfl
    · rfl
  unfold State.pairStep
  dsimp only
  split
  · rfl
  · split
    · rfl
    · exact latch

theorem State.monStep_tileLost (i : Nat) : (s.monStep i).ilk.tileLost = s.ilk.tileLost := by
  unfold State.monStep
  split <;> rfl

/-- The maintenance-reset inputs are all that the samples of a field frame change of the field channels once they are taken. -/
theorem State.afterSamples_sameLines : s.SameLines s.afterSamples := by
  have units := forEach_frame (w := Part.rcd ||| Part.cnt ||| Part.ilk) (f := State.monStep) (fun _ _ h => State.monStep_frame rfl h) (List.range 20)
    (forEach_frame (f := State.pairStep) (fun _ _ h => State.pairStep_frame rfl h) (List.range 40) (Frame.refl _ s))
  have inputs (x : State) : x.SameLines (forEach [0, 1, 2, 3] State.mrstStep x) := ⟨rfl, rfl, rfl⟩
  have outputs (x : State) : Frame (Part.rcd ||| Part.cnt ||| Part.ilk) x x.channelB.crossStep :=
    State.crossStep_frame rfl (State.channelB_frame rfl (Frame.refl _ x))
  unfold State.afterSamples
  cases s.frameDone with
  | false => exact .of_fio rfl
  | true =>
    rw [when_true]
    exact ((State.SameLines.of_fio (units.fio rfl)).trans (inputs _)).trans (.of_fio ((outputs _).fio rfl))

theorem State.afterSamples_tileLost : s.afterSamples.ilk.tileLost = s.ilk.tileLost := by
  unfold State.afterSamples
  cases s.frameDone with
  | false => rfl
  | true =>
    have pairs := forEach_ilk (g := Interlock.tileLost) State.pairStep_tileLost (List.range 40) s
    have mons := forEach_ilk (g := Interlock.tileLost) State.monStep_tileLost (List.range 20) (forEach (List.range 40) State.pairStep s)
    have inputs := forEach_ilk (g := Interlock.tileLost) (f := State.mrstStep) (fun _ _ => rfl) [0, 1, 2, 3]
      (forEach (List.range 20) State.monStep (forEach (List.range 40) State.pairStep s))
    have cross (x : State) : x.crossStep.ilk.tileLost = x.ilk.tileLost := rfl
    rw [when_true, cross, State.channelB, State.driveSo_tileLost]
    exact inputs.trans (mons.trans pairs)

theorem State.afterSamples_flink (j : Nat) : s.afterSamples.flink j = s.flink j := State.flink_congr s.afterSamples_sameLines.links j

end Samples

/-! ### Samples into the filters (R345) -/

section Filters

variable (s : State)

/-- The count of a channel's filter after a sample. -/
def State.fedCount (s : State) (c : Nat) (on : Bool) : Nat :=
  if on then min (min (Table.get 0 s.fio.cnt c) (fld (s.reg .fldFlt (c / 32) (c % 32)) 11 0) + 1) (fld (s.reg .fldFlt (c / 32) (c % 32)) 11 0)
  else min (Table.get 0 s.fio.cnt c) (fld (s.reg .fldFlt (c / 32) (c % 32)) 11 0) - 1
/-- Its filtered value. -/
def State.fedLevel (s : State) (c : Nat) (on : Bool) : Bool :=
  if s.fedCount c on = fld (s.reg .fldFlt (c / 32) (c % 32)) 11 0 then true else if s.fedCount c on = 0 then false else s.filtered c

theorem State.fed_congr {x s : State} {c : Nat} (regs : x.regs = s.regs) (cnt : Table.get 0 x.fio.cnt c = Table.get 0 s.fio.cnt c)
    (filt : x.filtered c = s.filtered c) (on : Bool) : x.fedCount c on = s.fedCount c on ∧ x.fedLevel c on = s.fedLevel c on := by
  have limit : x.reg .fldFlt (c / 32) (c % 32) = s.reg .fldFlt (c / 32) (c % 32) := by rw [State.reg, regs, State.reg]
  have count : x.fedCount c on = s.fedCount c on := by rw [State.fedCount, limit, cnt, State.fedCount]
  exact ⟨count, by rw [State.fedLevel, count, limit, filt, State.fedLevel]⟩

theorem State.feed_fio (c : Nat) (on : Bool) : (s.feed c on).fio =
    { s.fio with cnt := Table.set 0 s.fio.cnt c (s.fedCount c on), filt := Table.set false s.fio.filt c (s.fedLevel c on) } := by
  unfold State.feed
  dsimp only
  refine (Frame.fio (w := Part.axes) (Frame.ite (Frame.refl _ _) (forEach_frame (fun _ _ h => forEach_frame (fun _ _ h =>
    Frame.ite (State.noteChatter_frame rfl h) h) _ h) _ (Frame.refl _ _))) rfl).trans ?_
  rfl

theorem State.feed_regs (c : Nat) (on : Bool) : (s.feed c on).regs = s.regs :=
  (State.feed_frame (w := Part.axes ||| Part.fio) rfl (Frame.refl _ s)).regs rfl

/-- The samples of a tile into the field channels' filters. -/
def State.feedInputs (s : State) (k raw : Nat) (fldOn : Bool) : State :=
  if fldOn then forEach (List.range 32) (fun s j => s.feed (32 * k + j) (raw.testBit j)) s else s

theorem State.feedTile_fio (k raw : Nat) (fldOn : Bool) : (s.feedTile k raw fldOn).fio = (s.feedInputs k raw fldOn).fio :=
  (forEach_frame (w := Part.ilk) (fun _ _ h => State.ilkSample_frame rfl h) _ (Frame.refl _ _)).fio rfl

theorem State.feedTile_flink (k raw : Nat) (fldOn : Bool) (j : Nat) : (s.feedTile k raw fldOn).flink j = s.flink j := by
  refine State.flink_congr ?_ j
  rw [State.feedTile_fio, State.feedInputs]
  split
  · exact List.foldlRecOn (motive := fun x : State => x.fio.links = s.fio.links) _ _ rfl fun x h j _ => (congrArg FieldIo.links (x.feed_fio _ _)).trans h
  · rfl

/-- Each channel of a tile takes its sample once. -/
theorem State.feedTile_feeds (k raw : Nat) {j : Nat} (hj : j < 32) :
    Table.get 0 (s.feedTile k raw true).fio.cnt (32 * k + j) = s.fedCount (32 * k + j) (raw.testBit j) ∧
    (s.feedTile k raw true).filtered (32 * k + j) = s.fedLevel (32 * k + j) (raw.testBit j) := by
  obtain ⟨x, regs, same, visited⟩ := forEach_visits (unit := fun x j => (Table.get 0 x.fio.cnt (32 * k + j), x.filtered (32 * k + j)))
    (f := fun s j => s.feed (32 * k + j) (raw.testBit j)) (I := fun x => x.regs = s.regs)
    (fun x i j h => by simp [State.filtered, State.feed_fio, Table.get_set, h]) (fun x i h => (x.feed_regs _ _).trans h) _ List.nodup_range s rfl
    (List.mem_range.2 hj)
  obtain ⟨cnt, filt⟩ := Prod.mk.inj same
  obtain ⟨count, level⟩ := State.fed_congr regs cnt filt (raw.testBit j)
  obtain ⟨cnt', filt'⟩ := Prod.mk.inj visited
  rw [State.filtered, State.feedTile_fio, State.feedInputs, if_pos rfl]
  refine ⟨cnt'.trans ?_, filt'.trans ?_⟩
  · rw [State.feed_fio, ← count]
    exact Table.get_set_self _ _ _ _
  · rw [State.filtered, State.feed_fio, ← level]
    exact Table.get_set_self _ _ _ _

end Filters

/-! ### A reply that fails (R298, R355) -/

section Fail

variable {s : State} {k : Nat}

/-- A link whose reply has not come or is refused. -/
def FLink.unanswered (l : FLink) : FLink :=
  { l with sent := false, fails := l.fails + 1, good := 0, held := true, unacked := some l.image, repeats := satInc 255 l.repeats }
/-- What that makes of it: held once, then lost. -/
def FLink.missed (l : FLink) : FLink := if l.fails = 0 ∨ l.lost then l.unanswered else { l.unanswered with lost := true, phase := 3 }

theorem FLink.missed_held {l : FLink} (h : l.fails = 0 ∨ l.lost = true) : l.missed = l.unanswered := if_pos h

theorem FLink.missed_lost {l : FLink} (hfails : l.fails ≠ 0) (hlost : l.lost ≠ true) :
    l.missed = { l.unanswered with lost := true, phase := 3 } := if_neg (not_or.2 ⟨hfails, hlost⟩)

theorem FLink.missed_seq (l : FLink) : l.missed.seq = l.seq := by
  unfold FLink.missed
  split <;> rfl

theorem FLink.missed_unacked (l : FLink) : l.missed.unacked = some l.image := by
  unfold FLink.missed
  split <;> rfl

theorem FLink.missed_started (l : FLink) (h : l.phase ≠ 0) : l.missed.phase ≠ 0 := by
  unfold FLink.missed
  split
  · exact h
  · exact Nat.succ_ne_zero 2

theorem State.tileDark_flink (s : State) (k j : Nat) (lost : Bool) : (s.tileDark k lost).flink j = s.flink j := by
  refine State.flink_congr ?_ j
  unfold State.tileDark
  rw [State.raise_fio]
  cases lost <;> rfl

/-- A reply that fails is counted and noted on its link. -/
def State.unanswered (s : State) (k : Nat) : State := (if k < 8 then s.count (136 + k) else s).setFlink k (s.flink k).unanswered

theorem State.unanswered_flink (s : State) (k j : Nat) : (s.unanswered k).flink j = if j = k then (s.flink k).unanswered else s.flink j := by
  have counted : (if k < 8 then s.count (136 + k) else s).flink j = s.flink j := by split <;> rfl
  rw [State.unanswered, State.flink_setFlink, counted]

/-- The state in which a reply has failed, before its inputs follow. -/
def State.replyFailed (s : State) (k : Nat) : State :=
  if (s.flink k).fails + 1 = 1 then (if (s.flink k).lost then s.unanswered k else (s.unanswered k).linkEvent k 0x8002 0x900B)
  else if (s.flink k).lost then s.unanswered k
  else ((s.unanswered k).modFlink k (fun l => { l with lost := true, phase := 3 })).linkEvent k 0x8003 0x900C

/-- Whether the samples of a link reach the Interlock Logic. -/
def State.liveTile (s : State) (k : Nat) : Bool := decide (k < 8) && !s.ilk.tileLost.testBit k

theorem State.replyFail_eq (s : State) (k : Nat) : s.replyFail k =
    if (s.flink k).fails + 1 = 1 then
      (if s.liveTile k then (s.replyFailed k).feedTile k (s.flink k).raw (!(s.flink k).lost) else s.replyFailed k).afterSamples
    else (if s.liveTile k then (s.replyFailed k).tileDark k (!(s.flink k).lost) else s.replyFailed k).afterSamples := by
  have live : (s.unanswered k).liveTile k = s.liveTile k := by
    unfold State.liveTile State.unanswered
    split <;> rfl
  unfold State.replyFail State.replyFailed
  rw [← live]
  by_cases first : (s.flink k).fails + 1 = 1
  · simp only [if_pos first]
    rfl
  · simp only [if_neg first]
    rfl

theorem State.replyFailed_flink (s : State) (k j : Nat) : (s.replyFailed k).flink j = if j = k then (s.flink k).missed else s.flink j := by
  unfold State.replyFailed
  by_cases first : (s.flink k).fails + 1 = 1
  · rw [if_pos first]
    by_cases lost : (s.flink k).lost = true
    · rw [if_pos lost, State.unanswered_flink, FLink.missed_held (.inr lost)]
    · rw [if_neg lost, State.flink_linkEvent, State.unanswered_flink, FLink.missed_held (.inl (Nat.succ.inj first))]
  · rw [if_neg first]
    by_cases lost : (s.flink k).lost = true
    · rw [if_pos lost, State.unanswered_flink, FLink.missed_held (.inr lost)]
    · rw [if_neg lost, State.flink_linkEvent, State.modFlink_eq, State.flink_setFlink, State.unanswered_flink, State.unanswered_flink,
        if_pos rfl, FLink.missed_lost (fun h => first (congrArg (· + 1) h)) lost]
      split <;> rfl

theorem State.unanswered_ilk (s : State) (k : Nat) : (s.unanswered k).ilk = s.ilk := by
  unfold State.unanswered
  split <;> rfl

theorem State.replyFailed_ilk (s : State) (k : Nat) : (s.replyFailed k).ilk = s.ilk := by
  unfold State.replyFailed
  split_ifs <;> simp [State.unanswered_ilk, State.modFlink_eq]

/-- A failed reply is noted on its own link. -/
theorem State.replyFail_flink (s : State) (k j : Nat) : (s.replyFail k).flink j = if j = k then (s.flink k).missed else s.flink j := by
  rw [State.replyFail_eq, ← State.replyFailed_flink]
  split_ifs
  · rw [State.afterSamples_flink, State.feedTile_flink]
  · rw [State.afterSamples_flink]
  · rw [State.afterSamples_flink, State.tileDark_flink]
  · rw [State.afterSamples_flink]

/-- Entries that a filter takes out. -/
theorem Table.get_filter_out {α : Type} (d : α) (t : Table α) (p : Nat → Bool) {n : Nat} (h : p n = false) :
    Table.get d (t.filter (fun e => p e.1)) n = d :=
  Table.get_of_not_mem d _ n fun e he same => by
    have kept := (List.mem_filter.1 he).2
    rw [same, h] at kept
    cases kept

/-- The second reply that fails: the tile is lost, and its inputs read inactive. -/
theorem State.replyFail_dark (hk : k < 8) (hlost : (s.flink k).lost = false) (hfails : (s.flink k).fails ≠ 0)
    (hlive : s.ilk.tileLost.testBit k = false) : (s.replyFail k).ilk.tileLost.testBit k = true ∧
    ∀ j < 32, (s.replyFail k).filtered (32 * k + j) = false ∧ Table.get 0 (s.replyFail k).fio.cnt (32 * k + j) = 0 := by
  have live : s.liveTile k = true := by
    rw [State.liveTile, hlive]
    simp [hk]
  rw [State.replyFail_eq, if_neg (by omega), if_pos live, hlost, State.afterSamples_tileLost]
  refine ⟨?_, fun j hj => ?_⟩
  · unfold State.tileDark
    rw [State.raise_ilk]
    simp
  · have own : (32 * k + j) / 32 = k := by omega
    rw [State.filtered, (State.afterSamples_sameLines _).cnt, (State.afterSamples_sameLines _).filt]
    unfold State.tileDark
    rw [State.raise_fio]
    exact ⟨Table.get_filter_out false _ (fun c => c / 32 != k) (by simp [own]), Table.get_filter_out 0 _ (fun c => c / 32 != k) (by simp [own])⟩

/-- The first reply that fails is held. -/
theorem State.replyFail_holds (hlost : (s.flink k).lost = false) (hfails : (s.flink k).fails = 0) : ((s.replyFail k).flink k).fails = 1 ∧
    ((s.replyFail k).flink k).held = true ∧ ((s.replyFail k).flink k).lost = false ∧
    ((s.replyFail k).flink k).unacked = some (s.flink k).image := by
  rw [State.replyFail_flink, if_pos rfl, FLink.missed_held (.inl hfails)]
  exact ⟨congrArg (· + 1) hfails, rfl, hlost, rfl⟩

/-- The next loses the link. -/
theorem State.replyFail_loses (hlost : (s.flink k).lost = false) (hfails : (s.flink k).fails ≠ 0) : ((s.replyFail k).flink k).lost = true ∧
    ((s.replyFail k).flink k).phase = 3 ∧ ((s.replyFail k).flink k).unacked = some (s.flink k).image := by
  rw [State.replyFail_flink, if_pos rfl, FLink.missed_lost hfails (Bool.eq_false_iff.1 hlost)]
  exact ⟨rfl, rfl, rfl⟩

end Fail

/-! ### What a reply carries (R353, R389) -/

/-- `t` keeps the links of `s` but for their readings, the filters, and the registers. -/
structure State.KeepsLines (s t : State) : Prop where
  link : ∀ j, (t.flink j).readingsAside = (s.flink j).readingsAside
  cnt : t.fio.cnt = s.fio.cnt
  filt : t.fio.filt = s.fio.filt
  regs : t.regs = s.regs

section Readings

variable {s u t : State} {k : Nat}

theorem State.KeepsLines.refl (s : State) : s.KeepsLines s := ⟨fun _ => rfl, rfl, rfl, rfl⟩

theorem State.KeepsLines.of_eq (h : s.KeepsLines u) (hf : t.fio = u.fio) (hr : t.regs = u.regs) : s.KeepsLines t :=
  ⟨fun j => (congrArg FLink.readingsAside (State.flink_congr (congrArg FieldIo.links hf) j)).trans (h.link j),
    (congrArg FieldIo.cnt hf).trans h.cnt, (congrArg FieldIo.filt hf).trans h.filt, hr.trans h.regs⟩

theorem State.KeepsLines.setFlink {l : FLink} (h : s.KeepsLines u) (hl : l.readingsAside = (u.flink k).readingsAside) :
    s.KeepsLines (u.setFlink k l) :=
  ⟨fun j => by
    rw [State.flink_setFlink]
    split
    · next own => rw [hl, own, h.link k]
    · exact h.link j, h.cnt, h.filt, h.regs⟩

theorem State.KeepsLines.modFlink {f : FLink → FLink} (h : s.KeepsLines u) (hf : ∀ l, (f l).readingsAside = l.readingsAside) :
    s.KeepsLines (u.modFlink k f) := h.setFlink (hf _)

theorem State.KeepsLines.raise {code inst : Nat} {vals : List Byte} (h : s.KeepsLines u) : s.KeepsLines (u.raise code inst vals) :=
  h.of_eq (State.raise_fio _ _ _ _) (State.raise_regs _ _ _ _)

theorem State.KeepsLines.forEach {f : State → Nat → State} {l : List Nat} (hf : ∀ x i, s.KeepsLines x → s.KeepsLines (f x i)) (h : s.KeepsLines u) :
    s.KeepsLines (forEach l f u) :=
  List.foldlRecOn (motive := s.KeepsLines) l f h fun x h i _ => hf x i h

theorem State.KeepsLines.takeDiag {j code : Nat} (h : s.KeepsLines u) : s.KeepsLines (u.takeDiag k j code) := by
  unfold State.takeDiag
  refine .forEach (fun x b hx => ?_) (.setFlink h rfl)
  split
  · exact hx.raise
  · split
    · exact hx.raise
    · exact hx

theorem State.takeDie_keepsLines (s : State) (k : Nat) (b : List Byte) : s.KeepsLines (s.takeDie k b) := by
  unfold State.takeDie
  refine .takeDiag (.forEach (fun x i hx => ?_) (.setFlink (.refl s) rfl))
  dsimp only
  split_ifs
  · exact hx
  · exact hx.raise
  · exact hx.raise
  · exact hx

theorem State.KeepsLines.testPulseFail {c : Nat} (h : s.KeepsLines u) : s.KeepsLines (u.testPulseFail c) :=
  have frame := State.testPulseFail_frame (c := c) (w := Part.rcd ||| Part.cnt ||| Part.ilk) rfl (Frame.refl _ u)
  h.of_eq (frame.fio rfl) (frame.regs rfl)

/-- A tile's reply once all but its sample is taken. -/
theorem State.takeTile_reads (s : State) (k : Nat) (b : List Byte) : ∃ x, s.KeepsLines x ∧
    s.takeTile k b = (x.feedTile k (beAt b 4 4) (!(x.flink k).lost)).afterSamples := by
  refine ⟨_, ?_, rfl⟩
  refine .forEach (fun _ _ h => h.testPulseFail) (.takeDiag ?_)
  refine .forEach (fun _ _ h => h.raise) ?_
  refine .forEach (fun _ _ h => ?_) ?_
  · exact .raise (.modFlink h fun _ => rfl)
  · refine .setFlink (.refl s) ?_
    rfl

/-- What a reply carries beyond its state. -/
def State.takeReadings (s : State) (k : Nat) (b : List Byte) : State := if k < 8 then s.takeTile k b else s.takeDie k b

theorem State.takeReadings_link (s : State) (k : Nat) (b : List Byte) (j : Nat) :
    ((s.takeReadings k b).flink j).readingsAside = (s.flink j).readingsAside := by
  unfold State.takeReadings
  split
  · obtain ⟨x, reads, takes⟩ := s.takeTile_reads k b
    rw [takes, State.afterSamples_flink, State.feedTile_flink]
    exact reads.link j
  · exact (s.takeDie_keepsLines k b).link j

/-- The sample of a tile's reply reaches the filters of its channels. -/
theorem State.takeReadings_feeds (hk : k < 8) (hlost : (s.flink k).lost = false) (b : List Byte) {j : Nat} (hj : j < 32) :
    Table.get 0 (s.takeReadings k b).fio.cnt (32 * k + j) = s.fedCount (32 * k + j) ((beAt b 4 4).testBit j) ∧
    (s.takeReadings k b).filtered (32 * k + j) = s.fedLevel (32 * k + j) ((beAt b 4 4).testBit j) := by
  obtain ⟨x, ⟨link, cnt, filt, regs⟩, takes⟩ := s.takeTile_reads k b
  have live : (x.flink k).lost = false := (FLink.lost_congr (link k)).trans hlost
  obtain ⟨count, level⟩ := State.fed_congr (c := 32 * k + j) regs (by rw [cnt]) (by rw [State.filtered, filt, State.filtered]) ((beAt b 4 4).testBit j)
  rw [State.takeReadings, if_pos hk, takes, live, State.filtered, (State.afterSamples_sameLines _).cnt, (State.afterSamples_sameLines _).filt,
    ← count, ← level]
  exact x.feedTile_feeds k (beAt b 4 4) hj

end Readings

/-! ### A reply that is taken (R355, R357, R361) -/

section Taken

variable {s : State} {k : Nat} {b : List Byte}

/-- A link whose reply has been taken: STATE 2 counts towards its return, an acknowledgement of a complete configuration starts it. -/
def FLink.taken (l : FLink) (stb : Nat) : FLink :=
  { l with
    sent := false, fails := 0, held := false, good := if stb % 4 = 2 then l.good + 1 else 0, stateByte := stb
    lost := l.lost && !(l.lost && decide (4 ≤ if stb % 4 = 2 then l.good + 1 else 0))
    phase := if (l.lost && decide (4 ≤ if stb % 4 = 2 then l.good + 1 else 0)) = true ∨
      (!l.lost && decide (l.phase = 1) && stb % 4 == 2 && stb.testBit 2) = true then 2 else l.phase
    unacked := if stb.testBit 2 then none else some l.image
    repeats := if stb.testBit 2 then 0 else satInc 255 l.repeats }

/-- A reply once its state is taken, and what it says of the link is recorded. -/
theorem State.replyTaken_takes (s : State) (k : Nat) (b : List Byte) : ∃ x : State,
    Frame (Part.rcd ||| Part.cnt ||| Part.ilk) (s.setFlink k ((s.flink k).taken (byteAt b 1))) x ∧ s.replyTaken k b =
      if byteAt b 1 % 4 = 3 then ((x.takeReadings k b).linkEvent k 0x8004 0x900D).startLink k
      else if byteAt b 1 % 4 = 0 ∨ (byteAt b 1 % 4 = 1 ∧ !(byteAt b 1).testBit 2 ∧ (s.flink k).run) then (x.takeReadings k b).startLink k
      else x.takeReadings k b := by
  refine ⟨_, ?_, rfl⟩
  have state (y : State) (old new : Nat) : Frame (Part.rcd ||| Part.cnt ||| Part.ilk) y
      ((if k < 8 then { y with ilk := { y.ilk with tileLost := y.ilk.tileLost - (y.ilk.tileLost &&& 2 ^ k) } } else y).takeState k old new) :=
    State.takeState_frame rfl (Frame.ite (Frame.set_ilk rfl (Frame.refl _ y)) (Frame.refl _ y))
  exact Frame.ite (State.linkEvent_frame rfl (state _ _ _)) (state _ _ _)

/-- A link that starts again: its configuration from the first word. -/
def FLink.restarted (l : FLink) : FLink :=
  { l with phase := if l.lost then 3 else 1, cfgNext := 0, unacked := none, repeats := 0, run := false }

theorem State.startLink_flink (s : State) (k j : Nat) : (s.startLink k).flink j = if j = k then (s.flink k).restarted else s.flink j :=
  State.flink_setFlink s k j (s.flink k).restarted

/-- A reply in RUN. -/
theorem State.replyTaken_runs (hst : byteAt b 1 % 4 = 2) :
    ((s.replyTaken k b).flink k).readingsAside = ((s.flink k).taken (byteAt b 1)).readingsAside ∧
    (k < 8 → (s.flink k).lost = false → ∀ j < 32,
      Table.get 0 (s.replyTaken k b).fio.cnt (32 * k + j) = s.fedCount (32 * k + j) ((beAt b 4 4).testBit j) ∧
      (s.replyTaken k b).filtered (32 * k + j) = s.fedLevel (32 * k + j) ((beAt b 4 4).testBit j)) := by
  obtain ⟨x, frame, takes⟩ := s.replyTaken_takes k b
  have own : x.flink k = (s.flink k).taken (byteAt b 1) := (frame.flink rfl k).trans ((State.flink_setFlink _ _ _ _).trans (if_pos rfl))
  have fio := frame.fio rfl
  rw [takes, if_neg (by omega), if_neg (by omega)]
  refine ⟨(x.takeReadings_link k b k).trans (congrArg _ own), fun hk hlost j hj => ?_⟩
  obtain ⟨count, level⟩ := State.fed_congr (s := s) (c := 32 * k + j) (frame.regs rfl) (congrArg (Table.get 0 · _) ((congrArg FieldIo.cnt fio).trans rfl))
    (congrArg (Table.get false · _) ((congrArg FieldIo.filt fio).trans rfl)) ((beAt b 4 4).testBit j)
  rw [← count, ← level]
  exact State.takeReadings_feeds (s := x) hk (by rw [own]; simp [FLink.taken, hlost]) b hj

/-- A reply in another state than the main die takes the link to be in: it is configured anew. -/
theorem State.replyTaken_restarts (hst : byteAt b 1 % 4 = 3 ∨ byteAt b 1 % 4 = 0 ∨
      (byteAt b 1 % 4 = 1 ∧ (byteAt b 1).testBit 2 = false ∧ (s.flink k).run = true)) :
    ((s.replyTaken k b).flink k).phase = (if (s.flink k).lost then 3 else 1) ∧ ((s.replyTaken k b).flink k).cfgNext = 0 ∧
    ((s.replyTaken k b).flink k).unacked = none := by
  obtain ⟨x, frame, takes⟩ := s.replyTaken_takes k b
  have own : x.flink k = (s.flink k).taken (byteAt b 1) := (frame.flink rfl k).trans ((State.flink_setFlink _ _ _ _).trans (if_pos rfl))
  have lost : ((x.takeReadings k b).flink k).lost = (s.flink k).lost := by
    refine (FLink.lost_congr (x.takeReadings_link k b k)).trans ?_
    have other : byteAt b 1 % 4 ≠ 2 := by omega
    show (x.flink k).lost = (s.flink k).lost
    simp [own, FLink.taken, other]
  have restarts : ∃ y : State, (y.flink k).lost = (s.flink k).lost ∧ s.replyTaken k b = y.startLink k := by
    rcases hst with h | h | ⟨h, hrx, hrun⟩
    · exact ⟨_, (congrArg FLink.lost (State.flink_linkEvent _ _ _ _ _)).trans lost, takes.trans (if_pos h)⟩
    · exact ⟨_, lost, takes.trans ((if_neg (by omega)).trans (if_pos (.inl h)))⟩
    · exact ⟨_, lost, takes.trans ((if_neg (by omega)).trans (if_pos (.inr ⟨h, by rw [hrx]; rfl, hrun⟩)))⟩
  obtain ⟨y, lost, restarts⟩ := restarts
  rw [restarts, State.startLink_flink, if_pos rfl]
  exact ⟨by rw [FLink.restarted, lost], rfl, rfl⟩

end Taken

/-! ### A field frame (R351, R356, R357) -/

section Frames

variable {s : State} {k : Nat}

theorem State.replyMissing_flink (s : State) (k j : Nat) :
    (s.replyMissing k).flink j = if j = k ∧ (s.flink k).sent = true then (s.flink k).missed else s.flink j := by
  unfold State.replyMissing
  cases sent : (s.flink k).sent with
  | false => simp
  | true =>
    rw [when_true, State.replyFail_flink]
    simp only [and_true]
    rfl

/-- A field frame as its replies that are still out have failed, before its frames leave. -/
def State.frameBase (s : State) : State :=
  ((forEach (List.range 12) State.replyMissing s).passToTt s.time.fieldNext).soRecord.commandSwitches

theorem State.frameBase_keeps (s : State) : Frame (Part.bk ||| Part.rcd ||| Part.cnt ||| Part.time ||| Part.axes ||| Part.ilk ||| Part.fio |||
    Part.loads) s s.frameBase :=
  State.commandSwitches_frame rfl (State.soRecord_frame rfl (State.passToTt_frame rfl
    (forEach_frame (fun _ _ h => State.replyMissing_frame rfl h) _ (Frame.refl _ s))))

theorem State.frameBase_flink (hk : k < 12) : s.frameBase.flink k = if (s.flink k).sent then (s.flink k).missed else s.flink k := by
  obtain ⟨x, -, same, visited⟩ := forEach_visits (unit := State.flink) (f := State.replyMissing) (I := fun _ => True)
    (fun x i j h => by rw [State.replyMissing_flink, if_neg fun own => h own.1]) (fun _ _ h => h) _ List.nodup_range s trivial (List.mem_range.2 hk)
  have later (x : State) (t : TimeNs) : Frame (Part.bk ||| Part.rcd ||| Part.cnt ||| Part.time ||| Part.ilk ||| Part.loads) x
      (x.passToTt t).soRecord.commandSwitches :=
    State.commandSwitches_frame rfl (State.soRecord_frame rfl (State.passToTt_frame rfl (Frame.refl _ x)))
  refine ((later _ _).flink rfl k).trans (visited.trans ?_)
  rw [State.replyMissing_flink, same]
  simp

/-- The parts that the frames of a field frame may write. -/
def frameParts : Nat := Part.rcd ||| Part.cnt ||| Part.fio ||| Part.outs

theorem Frame.linkImage {s t : State} (h : Frame frameParts s t) (k : Nat) : t.linkImage k = s.linkImage k := by
  simp only [State.linkImage, State.tileImage, State.bankImage, State.channelCmd, State.heldOff, State.ownerLevel, State.ownedOutputs, State.mon,
    State.sw, State.portal, State.axis, State.rf, State.rb, State.reg, h.regs rfl, h.portals rfl, h.axes rfl, h.ilk rfl, h.loads rfl]

/-- What a link holds once its frame at boundary `f` has left, made up in `s` between the states `base` and `after`. -/
structure State.SentOn (s : State) (f : Nat) (base : State) (after : List (TimeNs × State)) (k : Nat) (l : FLink) : Prop where
  seq : l.seq = ((s.flink k).seq + 1) % 65536
  sent : l.sent = true
  sentF : l.sentF = f
  repeats : ∀ i, (s.flink k).unacked = some i → l.image = i ∧ l.apply = 0
  fresh : (s.flink k).unacked = none → after = [] → l.apply = 0 ∧ l.image = s.imageWith base f k

theorem State.sendFrame_off {f : Nat} {base : State} {after : List (TimeNs × State)} (h : (s.flink k).phase = 0) :
    s.sendFrame f base after k = s := if_pos h

/-- A link that has been started sends its frame, and events and counters are all that changes besides. -/
theorem State.sendFrame_sends (f : Nat) (base : State) (after : List (TimeNs × State)) (h : (s.flink k).phase ≠ 0) :
    ∃ (x : State) (l : FLink), Frame (Part.rcd ||| Part.cnt) s x ∧ s.SentOn f base after k l ∧
      s.sendFrame f base after k = (x.setFlink k l).emit (.isolationFrame k l.frame) := by
  unfold State.sendFrame
  dsimp only
  rw [if_neg h]
  refine ⟨_, _, ?events, ⟨rfl, rfl, rfl, fun i hi => ?again, fun hno hafter => ?new⟩, rfl⟩
  case events =>
    have late (c : Bool) : Frame (Part.rcd ||| Part.cnt) s (if c then s.raise 0x800B k else s) :=
      Frame.ite (State.raise_frame rfl (Frame.refl _ s)) (Frame.refl _ s)
    have again (c : Bool) : Frame (Part.rcd ||| Part.cnt) s (if k < 8 then (if c then s.raise 0x800B k else s).count (128 + k)
        else if c then s.raise 0x800B k else s) := Frame.ite (State.count_frame rfl (late c)) (late c)
    have twice (c : Bool) := State.linkEvent_frame (k := k) (tile := 0x8001) (die := 0x9012) rfl (again c)
    exact Frame.ite (Frame.ite (Frame.ite (State.raise_frame rfl (twice _)) (twice _)) (again _)) (late _)
  case again =>
    rw [hi]
    exact ⟨rfl, rfl⟩
  case new =>
    rw [hno, hafter]
    exact ⟨rfl, rfl⟩

/-- The frame of another link leaves a link, and its frames sent, as they are. -/
theorem State.sendFrame_others (f : Nat) (base : State) (after : List (TimeNs × State)) {i : Nat} (h : i ≠ k) :
    (s.sendFrame f base after k).flink i = s.flink i ∧ ∀ b, Out.isolationFrame i b ∈ (s.sendFrame f base after k).outs ↔ Out.isolationFrame i b ∈ s.outs := by
  by_cases off : (s.flink k).phase = 0
  · rw [State.sendFrame_off off]
    exact ⟨rfl, fun _ => Iff.rfl⟩
  · obtain ⟨x, l, frame, -, sends⟩ := State.sendFrame_sends f base after off
    rw [sends]
    refine ⟨?_, fun b => ?_⟩
    · exact (State.flink_setFlink x k i l).trans ((if_neg h).trans (frame.flink rfl i))
    · simp [h, frame.outs rfl]

/-- What a link holds and whether its frame has left. -/
def State.linkSent (s : State) (k : Nat) : FLink × Prop := (s.flink k, Out.isolationFrame k (s.flink k).frame ∈ s.outs)

theorem State.sendFrame_linkSent (s : State) (f : Nat) (base : State) (after : List (TimeNs × State)) (k i : Nat) (h : i ≠ k) :
    (s.sendFrame f base after k).linkSent i = s.linkSent i := by
  obtain ⟨link, frames⟩ := s.sendFrame_others f base after h
  rw [State.linkSent, State.linkSent, link]
  exact congrArg (Prod.mk _) (propext (frames _))

/-- The frames of all links, one after another. -/
def State.sendFrames (s : State) (f : Nat) (base : State) (after : List (TimeNs × State)) : State :=
  forEach (List.range 12) (fun x k => x.sendFrame f base after k) s

theorem State.sendFrames_keeps (s : State) (f : Nat) (base : State) (after : List (TimeNs × State)) :
    Frame frameParts s (s.sendFrames f base after) :=
  forEach_frame (fun _ _ h => State.sendFrame_frame rfl h) _ (Frame.refl _ s)

/-- The states that the slots due before the frame is over lead to (R356). -/
def State.slotsAhead (s : State) : List (TimeNs × State) :=
  slotStates (s.time.fieldNext + 14000) s.frameBase.slotsInOrder.length s.frameBase
/-- The state in which the images of a field frame are taken. -/
def State.imageBase (s : State) : State :=
  ((s.slotsAhead.filter (fun e => decide (e.1 < s.time.fieldNext + 4000))).map Prod.snd).getLast?.getD s.frameBase
/-- The states that the slots within the frame lead to. -/
def State.slotsWithin (s : State) : List (TimeNs × State) := s.slotsAhead.filter (fun e => decide (s.time.fieldNext + 4000 ≤ e.1))

/-- The state once all frames of a field frame have left. -/
def State.framesSent (s : State) : State := s.frameBase.sendFrames s.time.fieldNext s.imageBase s.slotsWithin

theorem State.fieldFrame_eq (s : State) :
    s.fieldFrame = { s.framesSent with time := { s.framesSent.time with fieldNext := s.time.fieldNext + 10000 } } := by
  unfold State.framesSent State.sendFrames State.imageBase State.slotsWithin State.slotsAhead State.frameBase State.fieldFrame
  dsimp only

theorem State.fieldFrame_time (s : State) : s.fieldFrame.time = { s.frameBase.time with fieldNext := s.time.fieldNext + 10000 } := by
  rw [State.fieldFrame_eq]
  dsimp only
  rw [State.framesSent, (State.sendFrames_keeps _ _ _ _).time rfl]

theorem State.fieldFrame_linkSent (s : State) (k : Nat) : s.fieldFrame.linkSent k = s.framesSent.linkSent k := by
  have timed (x : State) (v : TimeUnit) : State.linkSent { x with time := v } k = x.linkSent k := rfl
  rw [State.fieldFrame_eq, timed]

/-- With no slot in use the images are those that the boundary finds. -/
theorem State.slots_none (h : s.slotsInOrder = []) : s.imageBase = s.frameBase ∧ s.slotsWithin = [] := by
  have slots : s.frameBase.slotsInOrder = s.slotsInOrder := by
    unfold State.slotsInOrder State.slot
    rw [s.frameBase_keeps.seq rfl]
  have ahead : s.slotsAhead = [] := by
    rw [State.slotsAhead, slots, h]
    rfl
  simp [State.imageBase, State.slotsWithin, ahead]

/-- Each link's frame leaves once, from a state in which no image has changed since the boundary. -/
theorem State.sendFrames_sends (s : State) (f : Nat) (base : State) (after : List (TimeNs × State)) (hk : k < 12) :
    ∃ x, Frame frameParts s x ∧ x.flink k = s.flink k ∧
      (s.sendFrames f base after).linkSent k = (x.sendFrame f base after k).linkSent k := by
  obtain ⟨x, frame, same, visited⟩ := forEach_visits (unit := State.linkSent) (f := fun x k => x.sendFrame f base after k)
    (I := Frame frameParts s) (fun x i j h => x.sendFrame_linkSent f base after i j h)
    (fun _ _ h => State.sendFrame_frame rfl h) _ List.nodup_range s (Frame.refl _ s) (List.mem_range.2 hk)
  exact ⟨x, frame, (Prod.mk.inj same).1, visited⟩

/-- A link that has not been started, with no reply out, is left alone. -/
theorem State.fieldFrame_off (hk : k < 12) (hoff : (s.flink k).phase = 0) (hsent : (s.flink k).sent = false) : s.fieldFrame.flink k = s.flink k := by
  obtain ⟨x, -, same, visited⟩ := s.frameBase.sendFrames_sends s.time.fieldNext s.imageBase s.slotsWithin hk
  have kept : x.flink k = s.flink k := by rw [same, State.frameBase_flink hk, if_neg (by simp [hsent])]
  rw [State.sendFrame_off (by rw [kept, hoff]), ← State.framesSent, ← State.fieldFrame_linkSent] at visited
  exact (Prod.mk.inj visited).1.trans kept

/-- Every link that has been started sends its frame; what it held before is what the failure of a reply still out makes of it. -/
theorem State.fieldFrame_sends (hk : k < 12) (hon : (s.flink k).phase ≠ 0) : ∃ x : State,
    x.flink k = (if (s.flink k).sent then (s.flink k).missed else s.flink k) ∧
    Frame frameParts s.frameBase x ∧
    x.SentOn s.time.fieldNext s.imageBase s.slotsWithin k (s.fieldFrame.flink k) ∧
    Out.isolationFrame k (s.fieldFrame.flink k).frame ∈ s.fieldFrame.outs := by
  obtain ⟨x, frame, same, visited⟩ := s.frameBase.sendFrames_sends s.time.fieldNext s.imageBase s.slotsWithin hk
  rw [State.frameBase_flink hk] at same
  have started : (x.flink k).phase ≠ 0 := by
    rw [same]
    split
    · exact (s.flink k).missed_started hon
    · exact hon
  obtain ⟨y, l, -, sentOn, sends⟩ := State.sendFrame_sends s.time.fieldNext s.imageBase s.slotsWithin started
  have link : ((y.setFlink k l).emit (.isolationFrame k l.frame)).linkSent k = (l, True) := by
    have own : ((y.setFlink k l).emit (.isolationFrame k l.frame)).flink k = l := (State.flink_setFlink y k k l).trans (if_pos rfl)
    rw [State.linkSent, own]
    simp
  rw [sends, link, ← State.framesSent, ← State.fieldFrame_linkSent] at visited
  obtain ⟨own, left⟩ := Prod.mk.inj visited
  exact ⟨x, same, frame, own ▸ sentOn, left ▸ trivial⟩

/-- The image of a frame with no slot in use: that of F - 0.5 us where it was taken. -/
theorem State.imageWith_none {x : State} (frame : Frame frameParts s.frameBase x) (h : s.imageBase = s.frameBase) :
    x.imageWith s.imageBase s.time.fieldNext k =
      if s.fieldFrame.time.snapF = some s.time.fieldNext then s.fieldFrame.time.snap.getD k 0 else s.fieldFrame.linkImage k := by
  have timed (x : State) (v : TimeUnit) : State.linkImage { x with time := v } k = x.linkImage k := rfl
  have after : s.fieldFrame.linkImage k = s.frameBase.linkImage k := by
    rw [State.fieldFrame_eq, timed]
    exact (s.frameBase.sendFrames_keeps _ _ _).linkImage k
  rw [after, State.fieldFrame_time, State.imageWith, State.imageFor, h, frame.linkImage k, Nat.xor_self, Nat.xor_zero,
    frame.time rfl]

end Frames

end Sys2Proof.Machine
end

section
/-!
PROOFS. Field frames, replies and the commands of a link (R345, R351, R355 to R357, R361, R369).
-/
namespace Sys2Proof.Machine
open Sys2Proof

/-! ### The commands of a link (R361, R369) -/

theorem completes_fldCmd {c : Instr} {s : State} {k : Fin 8} {m : Fin 6} {v : Word} {post : State → Prop}
    (hc : exec c s = run s fun s => s.putReg m .fldCmd k v) (hm : s.mayAccess m false = true) (hd : s.domain (12 + k.val / 2) = true)
    (hv : writeOk .fldCmd k 0 v = true) (h : post (State.effect { s with outs := [] } .fldCmd k 0 v)) : Completes c s post := by
  refine completes_run hc ?_
  rw [State.putReg_effect { s with outs := [] } m .fldCmd k v _ (fldCmd_at k) hd hm (by decide) nofun (by decide) hv]
  exact h

/-! ### Replies -/

section Reply

variable {s : State} {k : Nat} {b : List Byte}

theorem State.fieldReply_takes (hsent : (s.flink k).sent = true) (hok : s.replyOk k b = true) : s.fieldReply k b = s.replyTaken k b := by
  rw [State.fieldReply, when_of hsent, if_pos hok]

theorem State.fieldReply_fails (hsent : (s.flink k).sent = true) (hbad : s.replyOk k b = false) : s.fieldReply k b = s.replyFail k := by
  rw [State.fieldReply, when_of hsent, if_neg (Bool.eq_false_iff.1 hbad)]

theorem State.replyMissing_fails (hsent : (s.flink k).sent = true) :
    s.replyMissing k = (s.passToTt ((s.flink k).sentF + 7000)).replyFail k := when_of hsent _ _

/-- A reply in RUN counts towards the return of a lost link, and starts a complete one. -/
theorem FLink.taken_runs (l : FLink) {stb : Nat} (hst : stb % 4 = 2) : (l.taken stb).good = l.good + 1 ∧
    (l.taken stb).lost = (l.lost && decide (l.good + 1 < 4)) ∧ (l.lost = true → 3 ≤ l.good → (l.taken stb).phase = 2) ∧
    (l.lost = false → l.phase = 1 → stb.testBit 2 = true → (l.taken stb).phase = 2) := by
  refine ⟨if_pos hst, ?_, fun hlost hgood => if_pos (.inl ?_), fun hlost hphase hrx => if_pos (.inr ?_)⟩
  · have four : decide (4 ≤ l.good + 1) = !decide (l.good + 1 < 4) := by simp [← decide_not]
    have lost : (l.taken stb).lost = (l.lost && !(l.lost && decide (4 ≤ if stb % 4 = 2 then l.good + 1 else 0))) := rfl
    rw [lost, if_pos hst, four]
    cases l.lost <;> simp
  · simp [hlost, hst, hgood]
  · simp [hlost, hphase, hst, hrx]

/-- A filter by its limit: the count after a sample, and the value that it gives. -/
theorem State.fed_eq (s : State) (k : Nat) {j : Nat} (hj : j < 32) (on : Bool) :
    s.fedCount (32 * k + j) on = (if on then min (min (Table.get 0 s.fio.cnt (32 * k + j)) (fld (s.reg .fldFlt k j) 11 0) + 1) (fld (s.reg .fldFlt k j) 11 0)
      else min (Table.get 0 s.fio.cnt (32 * k + j)) (fld (s.reg .fldFlt k j) 11 0) - 1) ∧
    s.fedLevel (32 * k + j) on = (if s.fedCount (32 * k + j) on = fld (s.reg .fldFlt k j) 11 0 then true
      else if s.fedCount (32 * k + j) on = 0 then false else s.filtered (32 * k + j)) := by
  have unit : (32 * k + j) / 32 = k := by omega
  have channel : (32 * k + j) % 32 = j := by omega
  rw [State.fedLevel, State.fedCount, unit, channel]
  exact ⟨rfl, rfl⟩

end Reply

/-- Settles O43: a field frame by what each link holds before it, a reply by how it is taken or fails, a command by its register's effect. -/
theorem fieldFramesAndReplies : Obligations.FieldFramesAndReplies := by
  intro s
  let s0 : State := { s with outs := [] }
  refine ⟨completes_run (f := State.fieldFrame) rfl ⟨congrArg TimeUnit.fieldNext s0.fieldFrame_time, fun k hk => ?frame⟩,
    fun k b => ⟨fun hsent hok hst => ?runs, fun hsent hok hst => ?restarts, fun hsent hlost => ?fails⟩, fun k m hm hd => ⟨?restart, ?clrDiag⟩⟩
  case frame =>
    refine ⟨fun hoff hsent => State.fieldFrame_off (s := s0) hk hoff hsent, fun hon => ?sends, fun hon hsent => ?failed, fun hon hsent i hi => ?again,
      fun hnone hon hsent hfresh => ?fresh⟩
    all_goals
      obtain ⟨x, before, frame, sentOn, left⟩ := State.fieldFrame_sends (s := s0) hk hon
    case sends =>
      refine ⟨sentOn.seq.trans ?_, sentOn.sent, sentOn.sentF, left⟩
      rw [before]
      split
      · rw [FLink.missed_seq]
        rfl
      · rfl
    case failed =>
      replace before := before.trans (if_pos hsent)
      exact sentOn.repeats _ ((congrArg FLink.unacked before).trans (FLink.missed_unacked _))
    all_goals replace before := before.trans (if_neg (Bool.eq_false_iff.1 hsent))
    case again => exact sentOn.repeats i ((congrArg FLink.unacked before).trans hi)
    case fresh =>
      obtain ⟨unchanged, nothing⟩ := State.slots_none (s := s0) hnone
      obtain ⟨apply, image⟩ := sentOn.fresh ((congrArg FLink.unacked before).trans hfresh) nothing
      refine ⟨apply, image.trans ?_⟩
      rw [State.imageWith_none (s := s0) frame unchanged]
  case runs =>
    refine completes_run (f := fun s => s.fieldReply k b) rfl ?_
    obtain ⟨aside, fed⟩ := State.replyTaken_runs (s := s0) (k := k) hst
    obtain ⟨good, lost, returns, starts⟩ := FLink.taken_runs (s0.flink k) hst
    have read {α : Type} (field : FLink → α) := congrArg field aside
    rw [State.fieldReply_takes (s := s0) hsent hok]
    refine ⟨read FLink.sent, read FLink.fails, read FLink.held, (read FLink.good).trans good, read FLink.stateByte, (read FLink.lost).trans lost,
      fun hl hg => (read FLink.phase).trans (returns hl hg), read FLink.unacked, fun hl hp hrx => (read FLink.phase).trans (starts hl hp hrx),
      fun hk hl j hj => ?_⟩
    obtain ⟨cnt, filt⟩ := fed hk hl j hj
    obtain ⟨count, level⟩ := s0.fed_eq k hj ((beAt b 4 4).testBit j)
    rw [level, count] at filt
    exact ⟨cnt.trans count, filt⟩
  case restarts =>
    refine completes_run (f := fun s => s.fieldReply k b) rfl ?_
    rw [State.fieldReply_takes (s := s0) hsent hok]
    exact State.replyTaken_restarts (s := s0) hst
  case fails =>
    intro missed
    have missedBy (c : Instr) (x : State) (answers : exec c s = .next (x.replyFail k)) (fio : x.fio = s.fio) (ilk : x.ilk = s.ilk) : missed c := by
      have same : x.flink k = s.flink k := State.flink_congr (congrArg FieldIo.links fio) k
      rw [← same] at hlost
      refine ⟨fun hf => ⟨_, answers, ?_⟩, fun hf => ⟨_, answers, ?_⟩⟩
      all_goals rw [← same] at hf ⊢
      · exact State.replyFail_holds hlost hf
      · obtain ⟨lost, phase, unacked⟩ := State.replyFail_loses hlost hf
        exact ⟨lost, phase, unacked, fun hk hlive => State.replyFail_dark hk hlost hf (ilk ▸ hlive)⟩
    exact ⟨missedBy _ (s0.passToTt ((s0.flink k).sentF + 7000)) (congrArg Host.Outcome.next (State.replyMissing_fails (s := s0) hsent)) rfl rfl,
      fun hbad => missedBy _ s0 (congrArg Host.Outcome.next (State.fieldReply_fails (s := s0) hsent hbad)) rfl rfl⟩
  case restart =>
    refine completes_fldCmd (v := 2) rfl hm hd rfl ⟨fun j hj => ?_, ?_⟩
    · exact (State.startLink_flink s0 k j).trans (if_neg hj)
    · exact (State.startLink_flink s0 k k).trans (if_pos rfl)
  case clrDiag =>
    refine completes_fldCmd (v := 1) rfl hm hd rfl ⟨?_, fun j hj => ?_⟩
    · exact (State.flink_setFlink s0 k k _).trans (if_pos rfl)
    · exact (State.flink_setFlink s0 k j _).trans (if_neg hj)

end Sys2Proof.Machine
end

section
/-!
PROOFS. The load switches (R375 to R383, R386): how a switch starts, trips, cools and is cleared, one switch at a time.
-/
namespace Sys2Proof.Machine
open Sys2Proof

/-! ### One switch changes -/

/-- `t` has switch `n` as `w`, and every other switch as `s` has it. -/
def State.SetsSwitch (s : State) (n : Nat) (w : Switch) (t : State) : Prop := t.sw n = w ∧ ∀ k, k ≠ n → t.sw k = s.sw k

theorem State.SetsSwitch.trans {s x t : State} {n : Nat} {v w : Switch} (h : s.SetsSwitch n v x) (h' : x.SetsSwitch n w t) : s.SetsSwitch n w t := by
  obtain ⟨-, others⟩ := h
  obtain ⟨own', others'⟩ := h'
  exact ⟨own', fun k hk => (others' k hk).trans (others k hk)⟩

theorem State.SetsSwitch.raise {s t : State} {n : Nat} {w : Switch} (h : s.SetsSwitch n w t) (code inst : Nat) (vals : List Byte) :
    s.SetsSwitch n w (t.raise code inst vals) := by
  simpa only [State.SetsSwitch, State.sw_raise] using h

theorem State.SetsSwitch.setBank {s t : State} {n : Nat} {w : Switch} (h : s.SetsSwitch n w t) (b : Nat) (v : Bank) :
    s.SetsSwitch n w (t.setBank b v) := h

theorem State.SetsSwitch.after {s x t : State} {n : Nat} {w : Switch} (h : x.SetsSwitch n w t) (hx : ∀ k, x.sw k = s.sw k) : s.SetsSwitch n w t :=
  ⟨h.1, fun k hk => (h.2 k hk).trans (hx k)⟩

section Switches

variable {s : State} {n : Nat}

theorem State.setSw_sets (s : State) (n : Nat) (w : Switch) : s.SetsSwitch n w (s.setSw n w) :=
  ⟨(s.sw_setSw n n w).trans (if_pos rfl), fun k hk => (s.sw_setSw n k w).trans (if_neg hk)⟩

theorem State.passTo_modSw (s : State) (t : Ticks) (n : Nat) (f : Switch → Switch) : t ≤ ((s.passTo t).modSw n f).time.lt ∧
    s.SetsSwitch n (f (s.sw n)) ((s.passTo t).modSw n f) := by
  rw [State.modSw_eq, State.sw_passTo]
  exact ⟨State.le_passTo_lt s t, ((s.passTo t).setSw_sets n _).after fun k => s.sw_passTo t k⟩

/-! ### Starts (R375, R377, R387) -/

/-- A switch that opens its inrush window. -/
def Switch.started (w : Switch) (now : Ticks) (retry : Bool) : Switch :=
  { w with st := .inrush, entered := now, heldStart := none, heldRetry := false, limit := false, left := if retry then w.left - 1 else w.left }

@[simp] theorem Switch.started_entered (w : Switch) (now : Ticks) (retry : Bool) : (w.started now retry).entered = now := (rfl)

theorem State.startSwitch_time (s : State) (n : Nat) (retry : Bool) : (s.startSwitch n retry).time = s.time :=
  (State.startSwitch_frame (w := Part.rcd ||| Part.cnt ||| Part.loads) rfl (Frame.refl _ s)).time rfl

/-- A start under a die with ACTIVE 1 whose bank is not over its continuous limit. -/
theorem State.startSwitch_starts (retry : Bool) (ha : (s.die (8 + n / 8)).active = true) (hc : (s.bank (n / 8)).contExceeded = false) :
    s.SetsSwitch n ((s.sw n).started s.lt retry) (s.startSwitch n retry) ∧ ∀ b, (s.startSwitch n retry).bank b = s.bank b := by
  have started : s.startSwitch n retry = if retry then (s.setSw n ((s.sw n).started s.lt retry)).raise 0x9003 n
      else s.setSw n ((s.sw n).started s.lt retry) := by
    unfold State.startSwitch
    dsimp only
    rw [if_neg (by rw [ha]; decide), if_neg (by rw [hc]; decide)]
    rfl
  rw [started]
  cases retry
  · exact ⟨s.setSw_sets n _, fun _ => rfl⟩
  · exact ⟨(s.setSw_sets n _).raise _ _ _, State.bank_raise _ _ _ _⟩

theorem State.startSwitch_holds (retry : Bool) (ha : (s.die (8 + n / 8)).active = true) (hc : (s.bank (n / 8)).contExceeded = true) :
    s.SetsSwitch n { s.sw n with st := .deferred, heldStart := some (s.bank (n / 8)).order, heldRetry := retry, entered := s.lt }
      (s.startSwitch n retry) := by
  unfold State.startSwitch
  dsimp only
  rw [if_neg (by rw [ha]; decide), if_pos hc]
  exact (s.setSw_sets n _).setBank _ _

theorem State.startSwitch_waits (retry : Bool) (ha : (s.die (8 + n / 8)).active = false) :
    s.SetsSwitch n { s.sw n with st := .off, heldStart := none, heldRetry := false, limit := false } (s.startSwitch n retry) := by
  unfold State.startSwitch
  dsimp only
  rw [if_pos (by rw [ha]; rfl)]
  exact s.setSw_sets n _

/-! ### Trips (R379 to R381) -/

/-- A switch that waits for clearing. -/
def Switch.latched (w : Switch) (now : Ticks) : Switch := { w with st := .latchedOff, entered := now, limit := false }

theorem State.latchOff_sets (s : State) (n cause : Nat) : s.SetsSwitch n ((s.sw n).latched s.lt) (s.latchOff n cause) :=
  (s.setSw_sets n _).raise _ _ _

/-- A switch that has taken a short trip. -/
def Switch.shortTripped (w : Switch) (now : Ticks) (arb : Bool) : Switch := { w with short := true, arb := arb, lastLimit := some now, limit := false }

/-- A switch that waits for its retry. -/
def Switch.retrying (w : Switch) (now : Ticks) : Switch := { w with st := .retryWait, entered := now }

theorem State.shortTrip_sets (s : State) (n : Nat) (arb : Bool) : s.SetsSwitch n
    (if 0 < (s.sw n).left then ((s.sw n).shortTripped s.lt arb).retrying s.lt
      else ((s.sw n).shortTripped s.lt arb).latched s.lt) (s.shortTrip n arb) := by
  let x := ((s.modSw n fun w => w.shortTripped s.lt arb).raise 0x9001 n (leBytes 1 (b2n arb))).count (144 + n / 8)
  have trips : s.SetsSwitch n ((s.sw n).shortTripped s.lt arb) x := (s.setSw_sets n _).raise _ _ _
  have lt : x.lt = s.lt := State.lt_raise _ _ _ _
  have acts : s.shortTrip n arb = if 0 < (s.sw n).left then x.modSw n fun w => w.retrying s.lt else x.latchOff n 1 := (rfl)
  rw [acts]
  split
  · have waits := trips.trans (x.setSw_sets n ((x.sw n).retrying s.lt))
    rw [State.modSw_eq]
    rwa [trips.1] at waits ⊢
  · have latches := trips.trans (x.latchOff_sets n 1)
    rwa [trips.1, lt] at latches

/-- A switch in ON that takes a short trip, as R379 and R383 have it: `readback` says that READBACK turned it off. -/
theorem State.shortTrip_trips {x : State} {readback : Bool} (h : s.SetsSwitch n { s.sw n with readback := (s.sw n).readback || readback } x)
    (lt : x.lt = s.lt) :
    (0 < (s.sw n).left → s.SetsSwitch n { s.sw n with st := .retryWait, short := true, arb := false, limit := false, lastLimit := some s.lt
                                                      entered := s.lt, readback := (s.sw n).readback || readback } (x.shortTrip n false)) ∧
    ((s.sw n).left = 0 → ((x.shortTrip n false).sw n).st = .latchedOff ∧ ((x.shortTrip n false).sw n).short = true ∧
      ∀ k, k ≠ n → (x.shortTrip n false).sw k = s.sw k) := by
  have trips := h.trans (x.shortTrip_sets n false)
  rw [h.1, lt] at trips
  refine ⟨fun left => ?_, fun hzero => ?_⟩
  · rw [if_pos left] at trips
    exact trips
  · rw [if_neg (Nat.not_lt.2 hzero.le)] at trips
    obtain ⟨own, others⟩ := trips
    exact ⟨congrArg Switch.st own, congrArg Switch.short own, others⟩

theorem State.thermalTrip_sets (h : (s.sw n).st ≠ .thermal) : s.SetsSwitch n
    { s.sw n with st := .thermal, therm := true, coupled := s.neighbourLimited n, limit := false, heldStart := none, heldRetry := false, entered := s.lt }
    (s.thermalTrip n) := by
  unfold State.thermalTrip
  rw [when_of (by simpa using h)]
  exact (s.setSw_sets n _).raise _ _ _

theorem State.thermalTrip_trips (h : (s.sw n).st ≠ .thermal) : ((s.thermalTrip n).sw n).st = .thermal ∧ ((s.thermalTrip n).sw n).therm = true ∧
    ((s.thermalTrip n).sw n).left = (s.sw n).left ∧ ((s.thermalTrip n).sw n).coupled = s.neighbourLimited n ∧
    ((s.thermalTrip n).sw n).heldStart = none ∧ ∀ k, k ≠ n → (s.thermalTrip n).sw k = s.sw k := by
  obtain ⟨own, others⟩ := State.thermalTrip_sets h
  rw [own]
  exact ⟨rfl, rfl, rfl, rfl, rfl, others⟩

section Release

variable (h : (s.sw n).st = .thermal)
include h

theorem State.thermalRelease_acts : s.thermalRelease n =
    if !(s.sw n).dieCmd then s.setSw n { s.sw n with st := .off } else if 0 < (s.sw n).left then s.startSwitch n true else s.latchOff n 2 := by
  unfold State.thermalRelease
  exact when_of (beq_iff_eq.2 h) _ s

theorem State.thermalRelease_off (hoff : (s.sw n).dieCmd = false) : s.SetsSwitch n { s.sw n with st := .off } (s.thermalRelease n) := by
  rw [State.thermalRelease_acts h, hoff]
  exact s.setSw_sets n _

theorem State.thermalRelease_starts (hon : (s.sw n).dieCmd = true) (hleft : 0 < (s.sw n).left) (ha : (s.die (8 + n / 8)).active = true)
    (hc : (s.bank (n / 8)).contExceeded = false) : s.SetsSwitch n ((s.sw n).started s.lt true) (s.thermalRelease n) := by
  rw [State.thermalRelease_acts h, hon]
  exact (if_pos hleft).symm ▸ (State.startSwitch_starts true ha hc).1

theorem State.thermalRelease_latches (hon : (s.sw n).dieCmd = true) (hleft : (s.sw n).left = 0) :
    s.SetsSwitch n ((s.sw n).latched s.lt) (s.thermalRelease n) := by
  rw [State.thermalRelease_acts h, hon, hleft]
  exact s.latchOff_sets n 2

end Release

/-! ### Clears (R382) -/

theorem State.clearSwitch_other (h : (s.sw n).st ≠ .latchedOff) : s.clearSwitch n = s := if_pos h

/-- A switch that has been cleared, before a command of on starts it. -/
def Switch.cleared (w : Switch) (retries : Nat) : Switch := { w with st := .off, left := retries, deferrals := 0 }

section Latched

variable (h : (s.sw n).st = .latchedOff)
include h

theorem State.clearSwitch_acts : ∃ x : State, s.SetsSwitch n ((s.sw n).cleared (s.swRetries n)) x ∧
    (∀ k, x.die k = s.die k) ∧ (∀ b, x.bank b = s.bank b) ∧
    s.clearSwitch n = if (s.sw n).dieCmd && (x.die (8 + n / 8)).active then x.startSwitch n false else x := by
  refine ⟨(s.setSw n ((s.sw n).cleared (s.swRetries n))).raise 0x900A n, (s.setSw_sets n _).raise _ _ _, by simp, by simp, ?_⟩
  rw [State.die_raise]
  exact if_neg (not_not.2 h)

theorem State.clearSwitch_off (hoff : (s.sw n).dieCmd = false) : s.SetsSwitch n ((s.sw n).cleared (s.swRetries n)) (s.clearSwitch n) := by
  obtain ⟨x, clears, -, -, acts⟩ := State.clearSwitch_acts h
  rw [acts, hoff]
  exact clears

theorem State.clearSwitch_starts (hon : (s.sw n).dieCmd = true) (ha : (s.die (8 + n / 8)).active = true)
    (hc : (s.bank (n / 8)).contExceeded = false) :
    ∃ now, s.SetsSwitch n (((s.sw n).cleared (s.swRetries n)).started now false) (s.clearSwitch n) := by
  obtain ⟨x, clears, die, bank, acts⟩ := State.clearSwitch_acts h
  rw [← die] at ha
  rw [← bank] at hc
  obtain ⟨starts, -⟩ := State.startSwitch_starts false ha hc
  rw [acts, hon, ha, ← clears.1]
  exact ⟨x.lt, clears.trans starts⟩

end Latched

/-! ### RETRY_T (R379, R386) -/

theorem State.retry_starts (s : State) (n : Nat) {due : Ticks} (retry : Bool) (ha : (s.die (8 + n / 8)).active = true)
    (hc : (s.bank (n / 8)).contExceeded = false) :
    s.SetsSwitch n ((s.sw n).started ((s.passTo due).startSwitch n retry).time.lt retry) ((s.passTo due).startSwitch n retry) := by
  rw [← s.die_passTo due] at ha
  rw [← s.bank_passTo due] at hc
  obtain ⟨starts, -⟩ := State.startSwitch_starts retry ha hc
  rw [State.startSwitch_time, ← s.sw_passTo due n]
  exact starts.after fun k => s.sw_passTo due k

theorem State.retry_held (s : State) (n : Nat) {due : Ticks} (ha : (s.die (8 + n / 8)).active = true)
    (hc : (s.bank (n / 8)).contExceeded = true) : (((s.passTo due).startSwitch n true).sw n).st = .deferred ∧
    (((s.passTo due).startSwitch n true).sw n).left = (s.sw n).left ∧ ∀ k, k ≠ n → ((s.passTo due).startSwitch n true).sw k = s.sw k := by
  rw [← s.die_passTo due] at ha
  rw [← s.bank_passTo due] at hc
  obtain ⟨own, others⟩ := State.startSwitch_holds true ha hc
  rw [own, State.sw_passTo]
  exact ⟨rfl, rfl, fun k hk => (others k hk).trans (s.sw_passTo due k)⟩

theorem State.retry_dark (s : State) (n : Nat) {due : Ticks} (ha : (s.die (8 + n / 8)).active = false) :
    (((s.passTo due).startSwitch n true).sw n).st = .off ∧
    (((s.passTo due).startSwitch n true).sw n).left = (s.sw n).left ∧ ∀ k, k ≠ n → ((s.passTo due).startSwitch n true).sw k = s.sw k := by
  rw [← s.die_passTo due] at ha
  obtain ⟨own, others⟩ := State.startSwitch_waits true ha
  rw [own, State.sw_passTo]
  exact ⟨rfl, rfl, fun k hk => (others k hk).trans (s.sw_passTo due k)⟩

theorem completes_lsRetry {n : Fin 32} {post : State → Prop} {retry : Bool}
    (h : if retry then (s.sw n).st = .retryWait else (s.sw n).st = .deferred ∧ (s.sw n).heldStart = none)
    (hp : post ((State.passTo { s with outs := [] } ((s.sw n).entered + s.swRetryT n)).startSwitch n retry)) : Completes (.lsRetry n) s post := by
  refine completes_run (f := fun s => if (s.sw n).st = .retryWait then (s.passTo ((s.sw n).entered + s.swRetryT n)).startSwitch n true
    else if (s.sw n).st = .deferred ∧ (s.sw n).heldStart = none then (s.passTo ((s.sw n).entered + s.swRetryT n)).startSwitch n false else s) rfl ?_
  cases retry with
  | true => exact (if_pos h).symm ▸ hp
  | false =>
    have waits : (s.sw n).st ≠ .retryWait := fun e => by simp [e] at h
    exact ((if_neg waits).trans (if_pos h)).symm ▸ hp

end Switches

/-! ### Commands at the registers (R396) -/

/-- A command that writes a register without a lock completes with the effect of the write. -/
theorem completes_putReg {c : Instr} {s : State} {m i : Nat} {r : RegId} {v : Word} {d : Nat} {post : State → Prop}
    (hc : exec c s = run s fun s => s.putReg m r i v) (hat : placedAt r i (some d) = true) (hm : s.mayAccess m false = true) (hd : s.domain d = true)
    (hr : (desc r).access = .wo) (ht : r ≠ .obsTblData) (hv : writeOk r i 0 v = true) (h : post (State.effect { s with outs := [] } r i 0 v)) :
    Completes c s post := by
  refine completes_run hc ?_
  rw [State.putReg_effect { s with outs := [] } m r i v _ hat hd hm (by rw [hr]; decide) (fun e => by rw [hr] at e; cases e) ht hv]
  exact h

end Sys2Proof.Machine
end

section
/-!
PROOFS. The bank arbiter and the statement of the load switches (R376, R379 to R383, R385 to R387).
-/
namespace Sys2Proof.Machine
open Sys2Proof

/-! ### The switches of a bank -/

theorem bankSwitches_nodup (b : Nat) : (bankSwitches b).Nodup := List.nodup_range.map fun i j h => by simpa using h

theorem div_of_mem_bankSwitches {b n : Nat} (h : n ∈ bankSwitches b) : n / 8 = b := by
  obtain ⟨i, hi, rfl⟩ := List.mem_map.1 h
  have := List.mem_range.1 hi
  omega

/-! ### Choices of the arbiter -/

/-- `t` has the switches and the dies of `s`. -/
structure State.SameSwitches (s t : State) : Prop where
  sw : t.loads.sw = s.loads.sw
  dies : t.fio.dies = s.fio.dies

section Same

variable {s t : State} (h : s.SameSwitches t)
include h

theorem State.SameSwitches.sw_eq (n : Nat) : t.sw n = s.sw n := by rw [State.sw, h.sw, State.sw]

theorem State.SameSwitches.swWord (n : Nat) : t.swWord n = s.swWord n := by rw [State.swWord, State.die, h.dies, State.swWord, State.die]

theorem State.SameSwitches.lastInrush (b : Nat) : t.lastInrush b = s.lastInrush b := by
  unfold State.lastInrush
  simp only [h.sw_eq]

theorem State.SameSwitches.shedChoice (b : Nat) : t.shedChoice b = s.shedChoice b := by
  unfold State.shedChoice State.swPrio
  simp only [h.sw_eq, h.swWord]

theorem State.SameSwitches.nextRestart (b : Nat) : t.nextRestart b = s.nextRestart b := by
  unfold State.nextRestart State.swPrio
  simp only [h.sw_eq, h.swWord]

end Same

theorem State.passTo_sameSwitches (s : State) (t : Ticks) : s.SameSwitches (s.passTo t) :=
  ⟨congrArg Loads.sw (s.passTo_loads t), congrArg FieldIo.dies (s.passTo_fio t)⟩

section Arbiter

variable {s : State} {b n : Nat}

/-- A switch that restarts is one of the bank. -/
theorem State.mem_of_nextRestart (h : s.nextRestart b = some n) : n ∈ bankSwitches b := by
  unfold State.nextRestart at h
  dsimp only at h
  split at h
  next first rest shed =>
    cases h
    refine List.mem_of_mem_filter (shed ▸ ?_ : _ ∈ (bankSwitches b).filter fun n => (s.sw n).st == .shed)
    refine List.foldlRecOn (motive := fun a => a ∈ first :: rest) rest _ (List.mem_cons_self ..) fun a ha m hm => ?_
    split
    · exact List.mem_cons_of_mem _ hm
    · exact ha
  next =>
    refine List.foldlRecOn (motive := fun a : Option Nat => ∀ m, a = some m → m ∈ bankSwitches b) _ _ (fun _ no => by cases no)
      (fun a ha k hk m hm => ?_) n h
    have own := List.mem_of_mem_filter hk
    split at hm
    · exact Option.some.inj hm ▸ own
    · split at hm
      · exact Option.some.inj hm ▸ own
      · exact ha m hm

/-! ### Deferral and shedding (R385, R386) -/

/-- A switch whose start the arbiter has aborted. -/
def Switch.aborted (w : Switch) (now : Ticks) : Switch :=
  { w with st := .deferred, deferrals := min 15 (w.deferrals + 1), defer := true, entered := now, limit := false }

/-- The fifteenth deferral latches the switch off at once (log entry 97). -/
theorem State.deferStart_sets (s : State) (n : Nat) : s.SetsSwitch n
    (if 15 ≤ (s.sw n).deferrals + 1 then ((s.sw n).aborted s.lt).latched s.lt else (s.sw n).aborted s.lt) (s.deferStart n) := by
  let x := ((s.modSw n fun w => w.aborted s.lt).raise 0x9005 n).count (152 + n / 8)
  have aborts : s.SetsSwitch n ((s.sw n).aborted s.lt) x := (s.setSw_sets n _).raise _ _ _
  have lt : x.lt = s.lt := State.lt_raise _ _ _ _
  have acts : s.deferStart n = if 15 ≤ (s.sw n).deferrals + 1 then x.latchOff n 3 else x := (rfl)
  rw [acts]
  split
  · have latches := aborts.trans (x.latchOff_sets n 3)
    rwa [aborts.1, lt] at latches
  · exact aborts

theorem State.shedOne_sheds (h : s.shedChoice b = some n) : s.SetsSwitch n { s.sw n with st := .shed, entered := s.lt, limit := false } (s.shedOne b) ∧
    (s.shedOne b).time = s.time := by
  unfold State.shedOne
  rw [h]
  exact ⟨(s.setSw_sets n _).raise _ _ _, State.raise_time _ _ _ _⟩

/-! ### The peak limit (R385) -/

/-- The switches of a bank whose limiter is active outside their inrush window. -/
def State.limitingSwitches (s : State) (b limiting : Nat) : List Nat :=
  (bankSwitches b).filter fun n => limiting.testBit (n % 8) && (s.sw n).st == .on

theorem State.mem_limitingSwitches {limiting k : Nat} :
    k ∈ s.limitingSwitches b limiting ↔ k ∈ bankSwitches b ∧ limiting.testBit (k % 8) = true ∧ (s.sw k).st = .on := by
  simp [State.limitingSwitches]

theorem State.limitingSwitches_eq_nil {limiting : Nat} (h : ∀ k ∈ bankSwitches b, limiting.testBit (k % 8) = true → (s.sw k).st ≠ .on) :
    s.limitingSwitches b limiting = [] :=
  List.eq_nil_iff_forall_not_mem.2 fun k hk => by
    obtain ⟨hbank, hbit, hon⟩ := State.mem_limitingSwitches.1 hk
    exact h k hbank hbit hon

/-- A bank as a step of the arbiter finds it: `again` says that the exceedance has been recorded, `wait` what has passed since the last step. -/
def State.peakNoted (s : State) (b : Nat) (again : Bool) (wait : Ticks) : State :=
  let s1 := (s.pass wait).modBank b fun k => { k with peakAt := some (s.pass wait).lt }
  if again then s1 else s1.raise 0x9007 b

theorem State.peakNoted_same (s : State) (b : Nat) (again : Bool) (wait : Ticks) : s.SameSwitches (s.peakNoted b again wait) := by
  unfold State.peakNoted
  split
  · exact ⟨rfl, rfl⟩
  · exact ⟨(congrArg Loads.sw (State.raise_loads _ _ _ _)).trans rfl, (congrArg FieldIo.dies (State.raise_fio _ _ _ _)).trans rfl⟩

/-- What a step of the arbiter then does. -/
def State.peakStep (s : State) (b limiting : Nat) : State :=
  if s.limitingSwitches b limiting ≠ [] then forEach (s.limitingSwitches b limiting) (fun s n => s.shortTrip n true) s
  else match s.lastInrush b with
    | some n => s.deferStart n
    | none => s.shedOne b

theorem State.bankPeak_acts (s : State) (b limiting : Nat) : ∃ x : State, s.SameSwitches x ∧ s.bankPeak b limiting = x.peakStep b limiting := by
  have acts : ∃ again wait, s.bankPeak b limiting = (s.peakNoted b again wait).peakStep b limiting := by
    unfold State.bankPeak
    cases (s.bank b).peakAt with
    | none => exact ⟨_, _, rfl⟩
    | some t => exact ⟨_, _, rfl⟩
  obtain ⟨again, wait, acts⟩ := acts
  exact ⟨_, s.peakNoted_same b again wait, acts⟩

theorem State.SameSwitches.limitingSwitches {x : State} (h : s.SameSwitches x) (limiting : Nat) :
    x.limitingSwitches b limiting = s.limitingSwitches b limiting := by
  unfold State.limitingSwitches
  simp only [h.sw_eq]

/-- Without a switch in limiting, the start begun last is aborted. -/
theorem State.bankPeak_defers {limiting : Nat} (hno : s.limitingSwitches b limiting = []) (h : s.lastInrush b = some n) :
    ∃ now, s.SetsSwitch n (if 15 ≤ (s.sw n).deferrals + 1 then ((s.sw n).aborted now).latched now else (s.sw n).aborted now)
      (s.bankPeak b limiting) := by
  obtain ⟨x, same, acts⟩ := s.bankPeak_acts b limiting
  have defers := x.deferStart_sets n
  rw [same.sw_eq] at defers
  rw [acts, State.peakStep, same.limitingSwitches, if_neg (not_not.2 hno), same.lastInrush, h]
  exact ⟨x.lt, defers.after same.sw_eq⟩

/-- With no start to abort either, the switch of lowest PRIO is shed. -/
theorem State.bankPeak_sheds {limiting : Nat} (hno : s.limitingSwitches b limiting = []) (hin : s.lastInrush b = none)
    (h : s.shedChoice b = some n) : ∃ now, s.SetsSwitch n { s.sw n with st := .shed, entered := now, limit := false } (s.bankPeak b limiting) := by
  obtain ⟨x, same, acts⟩ := s.bankPeak_acts b limiting
  obtain ⟨sheds, -⟩ := State.shedOne_sheds ((same.shedChoice b).trans h)
  rw [same.sw_eq] at sheds
  rw [acts, State.peakStep, same.limitingSwitches, if_neg (not_not.2 hno), same.lastInrush, hin]
  exact ⟨x.lt, sheds.after same.sw_eq⟩

/-- A switch in limiting takes a short trip of the arbiter; one that is not is left alone. -/
theorem State.bankPeak_trips {limiting : Nat} (hn : n ∈ s.limitingSwitches b limiting) (hleft : 0 < (s.sw n).left) :
    ((s.bankPeak b limiting).sw n).st = .retryWait ∧ ((s.bankPeak b limiting).sw n).arb = true ∧
    ∀ k, k ∉ s.limitingSwitches b limiting → (s.bankPeak b limiting).sw k = s.sw k := by
  obtain ⟨x, same, acts⟩ := s.bankPeak_acts b limiting
  have others (s : State) (i k : Nat) (hk : k ≠ i) : (s.shortTrip i true).sw k = s.sw k := (s.shortTrip_sets i true).2 k hk
  obtain ⟨y, -, same', visited⟩ := forEach_visits (unit := State.sw) (I := fun _ => True) others (fun _ _ h => h) _
    ((bankSwitches_nodup b).filter _) x trivial hn
  obtain ⟨own, -⟩ := y.shortTrip_sets n true
  rw [same', same.sw_eq, if_pos hleft] at own
  rw [acts, State.peakStep, same.limitingSwitches, if_pos (List.ne_nil_of_mem hn)]
  refine ⟨congrArg Switch.st (visited.trans own), congrArg Switch.arb (visited.trans own), fun k hk => ?_⟩
  exact (forEach_skips (unit := State.sw) others _ x hk).trans (same.sw_eq k)

/-! ### The continuous limit (R387) -/

theorem State.bankCont_judges {avg : Nat} (h : 100 < avg) : ((s.bankCont b avg).bank b).contExceeded = decide (120 < avg) ∧
    (s.bankCont b avg).loads.sw = s.loads.sw := by
  unfold State.bankCont
  dsimp only
  rw [if_pos h]
  split
  · exact ⟨by simp, (congrArg Loads.sw (State.raise_loads _ _ _ _)).trans rfl⟩
  · exact ⟨by simp, rfl⟩

/-- The bank's next start, once the average has fallen to 10 A. -/
theorem State.bankCont_restarts {avg : Nat} (havg : avg ≤ 100) (h : s.nextRestart b = some n) (ha : (s.die (8 + b)).active = true)
    (hdue : (s.bank b).lastStart = 0 ∨ (s.bank b).lastStart + s.swRetryT n ≤ s.lt) :
    s.SetsSwitch n ((s.sw n).started s.lt (s.sw n).heldRetry) (s.bankCont b avg) ∧ ((s.bankCont b avg).bank b).contExceeded = false := by
  have below : decide (120 < avg) = false := decide_eq_false (by omega)
  let x := s.setBank b { s.bank b with contExceeded := false, contSince := if (s.bank b).contExceeded then (s.bank b).contSince else s.lt
                                       lastShed := if (s.bank b).contExceeded then (s.bank b).lastShed else 0 }
  have same : s.SameSwitches x := ⟨rfl, rfl⟩
  have clear : (x.bank b).contExceeded = false := by simp [x]
  have own := div_of_mem_bankSwitches (State.mem_of_nextRestart h)
  obtain ⟨starts, banks⟩ := State.startSwitch_starts (s := x) (n := n) (s.sw n).heldRetry (by rw [own]; exact ha) (by rw [own]; exact clear)
  have acts : s.bankCont b avg = (x.startSwitch n (s.sw n).heldRetry).modBank b fun k => { k with lastStart := x.lt } := by
    have next := (same.nextRestart b).trans h
    unfold State.bankCont
    dsimp only
    rw [below, Bool.false_and, if_neg Bool.false_ne_true, if_neg (by omega), next]
    exact if_neg fun early => by
      obtain ⟨begun, early⟩ := early
      exact hdue.elim begun (Nat.not_le.2 early)
  rw [acts, State.modBank_eq, State.bank_setBank, if_pos rfl, banks]
  exact ⟨(starts.setBank _ _).after same.sw_eq, clear⟩

theorem State.contShed_sheds (hc : (s.bank b).contExceeded = true) (h : s.shedChoice b = some n) :
    (∃ now, s.SetsSwitch n { s.sw n with st := .shed, entered := now, limit := false } (s.contShed b)) ∧
    ((s.contShed b).bank b).lastShed = (s.contShed b).time.lt ∧
    (if (s.bank b).lastShed = 0 then (s.bank b).contSince + sec 2 else (s.bank b).lastShed + sec 1) ≤ (s.contShed b).time.lt := by
  unfold State.contShed
  rw [when_of hc]
  dsimp only
  generalize (if (s.bank b).lastShed = 0 then (s.bank b).contSince + sec 2 else (s.bank b).lastShed + sec 1) = due
  obtain ⟨sheds, time⟩ := State.shedOne_sheds (((s.passTo_sameSwitches due).shedChoice b).trans h)
  rw [State.sw_passTo] at sheds
  rw [State.modBank_eq, State.bank_setBank, if_pos rfl, State.setBank_time, time]
  exact ⟨⟨_, (sheds.setBank _ _).after fun k => s.sw_passTo due k⟩, rfl, s.le_passTo_lt due⟩

end Arbiter

/-- Settles O46: each command of a switch by what it makes of that switch, each step of a bank's arbiter by the switch that it picks. -/
theorem loadSwitchesFollowTheirStates : Obligations.LoadSwitchesFollowTheirStates := by
  intro s
  let s0 : State := { s with outs := [] }
  refine ⟨fun n => ⟨fun t0 h => ?onDelay, fun h => ?windowEnds, fun h => ⟨?short, ?readback⟩, fun h hdue => ?retries, fun h hheld hopen => ?restarts,
    fun h => ?resets, fun h => ?overheats, fun h => ⟨fun hcmd => ?coolsOff, fun hcmd hleft hopen => ?coolsOn, fun hcmd hleft => ?coolsLatched⟩,
    fun hen h hnew => ?openLoad, fun m hm hd => ⟨fun h hcmd => ?clearsOff, fun h hcmd hopen => ?clearsOn, fun h => ?clearsNone, ?clrDiag⟩⟩,
    fun b => ⟨fun n limiting hno => ⟨fun h hfew => ?defers, fun h hmany => ?latches, fun hin h => ?sheds⟩, fun n limiting hn hall hleft => ?trips,
    fun avg havg => ?judges, fun avg n havg h ha hdue => ?restartsNext, fun n hc h => ?shedsNext, fun m hm hd => ?restartsDie⟩⟩
  case onDelay =>
    refine completes_run (f := fun s => match (s.sw n).onDue with
      | some t => (s.passTo t).modSw n fun w => { w with cmd := true, onDue := none }
      | none => s) rfl ?_
    have due : (s0.sw n).onDue = some t0 := h
    rw [due]
    exact s0.passTo_modSw t0 n _
  case windowEnds =>
    let due := (s0.sw n).entered + s0.swInrushT n
    obtain ⟨passed, own, others⟩ := s0.passTo_modSw due n fun w => { w with st := .on, entered := (s0.passTo due).lt, deferrals := 0 }
    refine completes_when (g := fun s => (s.sw n).st == .inrush) (f := fun _ s => (s.passTo ((s.sw n).entered + s.swInrushT n)).modSw n fun w =>
      { w with st := .on, entered := (s.passTo ((s.sw n).entered + s.swInrushT n)).lt, deferrals := 0 }) rfl (beq_iff_eq.2 h)
      ⟨passed, own.trans ?_, others⟩
    rw [State.modSw_eq, State.setSw_time, State.lt]
    rfl
  case short =>
    obtain ⟨retries, latches⟩ := State.shortTrip_trips (readback := false) (s := s0) (x := s0) (n := n) ⟨by rw [Bool.or_false], fun _ _ => rfl⟩ rfl
    have runs {post : State → Prop} (hp : post (s0.shortTrip n false)) : Completes (.lsShort n) s post :=
      completes_when (g := fun s => (s.sw n).st == .on) (f := fun _ s => s.shortTrip n false) rfl (beq_iff_eq.2 h) hp
    exact ⟨fun hleft => runs (retries hleft).symm, fun hleft => runs (latches hleft)⟩
  case readback =>
    obtain ⟨retries, latches⟩ := State.shortTrip_trips (readback := true) (s := s0) (n := n)
      (x := (s0.modSw n fun w => { w with readback := true }).raise 0x9013 n)
      (by rw [Bool.or_true]; exact (s0.setSw_sets n _).raise _ _ _) (State.lt_raise _ _ _ _)
    have runs {post : State → Prop} (hp : post (((s0.modSw n fun w => { w with readback := true }).raise 0x9013 n).shortTrip n false)) :
        Completes (.lsReadback n) s post :=
      completes_when (g := fun s => (s.sw n).st == .on)
        (f := fun _ s => ((s.modSw n fun w => { w with readback := true }).raise 0x9013 n).shortTrip n false) rfl (beq_iff_eq.2 h) hp
    exact ⟨fun hleft => runs (retries hleft).symm, fun hleft => runs (latches hleft)⟩
  case retries =>
    refine ⟨fun hopen => ?_, fun hon hheld => ?_, fun hoff => ?_⟩
    all_goals refine completes_lsRetry (retry := true) h ?_
    · obtain ⟨ha, hc⟩ := hopen
      obtain ⟨own, others⟩ := s0.retry_starts n (due := (s.sw n).entered + s.swRetryT n) true ha hc
      refine ⟨?_, congrArg Switch.st own, congrArg Switch.left own, (congrArg Switch.entered own).trans (Switch.started_entered _ _ _), others⟩
      rw [State.startSwitch_time, ← State.lt, State.passTo_lt]
      exact max_eq_right (hdue.elim Eq.ge Nat.le_of_lt)
    · exact s0.retry_held n hon (Bool.eq_true_of_not_eq_false fun hc => hheld ⟨hon, hc⟩)
    · exact s0.retry_dark n (Bool.eq_false_of_not_eq_true hoff)
  case restarts =>
    obtain ⟨ha, hc⟩ := hopen
    obtain ⟨own, others⟩ := s0.retry_starts n (due := (s.sw n).entered + s.swRetryT n) false ha hc
    exact completes_lsRetry (retry := false) ⟨h, hheld⟩ ⟨congrArg Switch.st own, (congrArg Switch.left own).trans rfl, others⟩
  case resets =>
    refine completes_when (g := fun s => (s.sw n).st == .on) (f := fun _ s => (s.passTo ((s.sw n).entered + sec 1)).modSw n fun w =>
      { w with left := s.swRetries n }) rfl (beq_iff_eq.2 h) ?_
    exact s0.passTo_modSw _ n _
  case overheats => exact completes_run (f := fun s => s.thermalTrip n) rfl (State.thermalTrip_trips (s := s0) h)
  case coolsOff => exact completes_run (f := fun s => s.thermalRelease n) rfl (State.thermalRelease_off (s := s0) h hcmd)
  case coolsOn =>
    obtain ⟨ha, hc⟩ := hopen
    obtain ⟨own, others⟩ := State.thermalRelease_starts (s := s0) h hcmd hleft ha hc
    exact completes_run (f := fun s => s.thermalRelease n) rfl ⟨congrArg Switch.st own, congrArg Switch.left own, others⟩
  case coolsLatched =>
    obtain ⟨own, others⟩ := State.thermalRelease_latches (s := s0) h hcmd hleft
    exact completes_run (f := fun s => s.thermalRelease n) rfl ⟨congrArg Switch.st own, others⟩
  case openLoad =>
    obtain ⟨own, others⟩ := (s0.setSw_sets n { s0.sw n with openLoad := true, current := 0 }).raise 0x9009 n []
    refine completes_when (g := fun s => s.swOlEn n && (s.sw n).st == .on && !(s.sw n).openLoad)
      (f := fun _ s => (s.modSw n fun w => { w with openLoad := true, current := 0 }).raise 0x9009 n) rfl ?_
      ⟨congrArg Switch.openLoad own, (congrArg Switch.st own).trans h, others⟩
    simpa using ⟨⟨hen, h⟩, hnew⟩
  case clearsOff =>
    obtain ⟨own, others⟩ := State.clearSwitch_off (s := s0) h hcmd
    exact completes_putReg rfl (lswCmd_at n) hm hd (by decide) (by decide) rfl ⟨congrArg Switch.st own, congrArg Switch.left own, others⟩
  case clearsOn =>
    obtain ⟨ha, hc⟩ := hopen
    obtain ⟨_, own, others⟩ := State.clearSwitch_starts (s := s0) h hcmd ha hc
    exact completes_putReg rfl (lswCmd_at n) hm hd (by decide) (by decide) rfl ⟨congrArg Switch.st own, congrArg Switch.left own, others⟩
  case clearsNone =>
    have same (k : Nat) : (s0.clearSwitch n).sw k = s0.sw k := by rw [State.clearSwitch_other (s := s0) h]
    exact completes_putReg rfl (lswCmd_at n) hm hd (by decide) (by decide) rfl ⟨same n, fun k _ => same k⟩
  case clrDiag =>
    refine completes_putReg rfl (lswCmd_at n) hm hd (by decide) (by decide) rfl ⟨rfl, fun _ _ => rfl, ?_⟩
    exact congrArg FLink.clrDiag ((s0.flink_setFlink _ _ _).trans (if_pos rfl))
  case defers =>
    obtain ⟨_, own, others⟩ := State.bankPeak_defers (s := s0) (State.limitingSwitches_eq_nil hno) h
    have own := own.trans (if_neg (Nat.not_le.2 (Nat.succ_lt_succ hfew)))
    refine completes_run (f := fun s => s.bankPeak b limiting) rfl ⟨congrArg Switch.st own, (congrArg Switch.left own).trans rfl,
      (congrArg Switch.deferrals own).trans ?_, others⟩
    exact min_eq_right (Nat.succ_le_succ hfew.le)
  case latches =>
    obtain ⟨_, own, others⟩ := State.bankPeak_defers (s := s0) (State.limitingSwitches_eq_nil hno) h
    have own := own.trans (if_pos (Nat.succ_le_succ hmany))
    exact completes_run (f := fun s => s.bankPeak b limiting) rfl ⟨congrArg Switch.st own, others⟩
  case sheds =>
    obtain ⟨_, own, others⟩ := State.bankPeak_sheds (s := s0) (State.limitingSwitches_eq_nil hno) hin h
    exact completes_run (f := fun s => s.bankPeak b limiting) rfl ⟨congrArg Switch.st own, others⟩
  case trips =>
    obtain ⟨waits, arb, others⟩ := State.bankPeak_trips (s := s0) (State.mem_limitingSwitches.2 ⟨hn, (hall n hn).2 rfl⟩) hleft
    refine completes_run (f := fun s => s.bankPeak b limiting) rfl ⟨waits, arb, fun k hk => others k fun limits => ?_⟩
    obtain ⟨hbank, hlim⟩ := State.mem_limitingSwitches.1 limits
    exact hk ((hall k hbank).1 hlim)
  case judges => exact completes_run (f := fun s => s.bankCont b avg) rfl (State.bankCont_judges (s := s0) havg)
  case restartsNext =>
    obtain ⟨⟨own, others⟩, clear⟩ := State.bankCont_restarts (s := s0) havg h ha hdue
    exact completes_run (f := fun s => s.bankCont b avg) rfl ⟨clear, congrArg Switch.st own, others⟩
  case shedsNext =>
    obtain ⟨⟨_, own, others⟩, last, due⟩ := State.contShed_sheds (s := s0) hc h
    exact completes_run (f := fun s => s.contShed b) rfl ⟨congrArg Switch.st own, others, last, due⟩
  case restartsDie =>
    refine completes_putReg rfl (lswBcmd_at b) hm hd (by decide) (by decide) rfl ?_
    have restarted : (s0.startLink (8 + b)).flink (8 + b) = (s0.flink (8 + b)).restarted := (s0.startLink_flink _ _).trans (if_pos rfl)
    exact ⟨congrArg FLink.phase restarted, congrArg FLink.cfgNext restarted⟩

end Sys2Proof.Machine
end

section
/-!
PROOFS. The block as a whole, the state after a reset, and the vote over three copies (R626, R637, R678).
-/
namespace Sys2Proof.Machine
open Sys2Proof

/-- The state in which a command's operation begins: the one before, with the record of outputs started afresh. -/
def State.fresh (s : State) : State := { s with outs := [] }

theorem completes_fresh {c : Instr} {s : State} {f : State → State} {post : State → Prop} (h : exec c s = run s f) (hp : post (f s.fresh)) :
    Completes c s post := completes_run h hp

/-- Settles O57, by the two branches of `step`. -/
theorem stepTakesTheFrontCommand : Obligations.StepTakesTheFrontCommand := by
  intro s
  refine ⟨fun c rest hq => ?front, fun hq => ?empty⟩
  case front => rw [step, hq]
  case empty =>
    have ticks : step s = tick s := by rw [step, hq]
    exact ⟨_, ticks, rfl, rfl, rfl⟩

/-- Settles O58: the reset state is the default of every table and register. -/
theorem resetStateHoldsTheResetValues : Obligations.ResetStateHoldsTheResetValues :=
  ⟨⟨.inr rfl, rfl, rfl⟩, rfl, rfl, rfl, rfl, fun _ _ _ => rfl, fun _ => rfl, fun _ => rfl, fun _ => rfl, fun _ => rfl, fun _ => rfl, rfl, rfl,
    rfl, fun _ => rfl, fun _ => rfl⟩

/-- Settles O3, a row of the table of R637 each. -/
theorem parameterVoteFollowsTheTable : Obligations.ParameterVoteFollowsTheTable := fun mono x y z =>
  ⟨by simp [vote], fun hxy => by simp [vote, hxy], fun hxy => by simp [vote, hxy], fun hxy => by simp [vote, hxy, Ne.symm hxy],
    by simp [vote], by simp [vote], by simp [vote], rfl, rfl, rfl, fun hxy hyz hxz => by simp [vote, hxy, hyz, hxz],
    fun hxy => by simp [vote, hxy], fun hxy => by simp [vote, hxy], fun hxy => by simp [vote, hxy], rfl⟩

end Sys2Proof.Machine
end

section
/-!
PROOFS. Power: boot clocks and flash, shelving, and the backup domain (R402, R621 to R635, R663 to R668).
-/
namespace Sys2Proof.Machine
open Sys2Proof

/-! ### Leaving reset (R621, R625, R631, R632, R660) -/

/-- With nothing that holds the controller in reset, it starts in BOOT. -/
theorem State.tryRelease_released {s : State} (h : s.sys.start = .inReset) (hn : s.sys.nrstLow = false) (hs : s.sys.supOk = true)
    (hc : s.sys.clkFail = false) : s.tryRelease = { s with sys := { s.sys with start := .boot, startT0 := s.lt } } := by
  rw [State.tryRelease, if_pos (by simp [h, hn, hs, hc])]

theorem State.tryRelease_running {s : State} (h : s.sys.start ≠ .inReset) : s.tryRelease = s := by
  rw [State.tryRelease, if_neg fun ⟨hr, _⟩ => h hr]

/-- The PLL locks in BOOT: every domain comes on and TT is seeded (R402, R621, R660). -/
theorem State.pllLock_boot {s : State} (h : s.sys.start = .boot) (hp : s.sys.pllLocked = false) :
    s.pllLock.sys.pllLocked = true ∧ (∀ b, b < 16 → s.pllLock.domain b = true) ∧ s.pllLock.tt = s.seedTt / 2 ^ 32 := by
  have boot : State.tryRelease { s with sys := { s.sys with clkFail := false } } = { s with sys := { s.sys with clkFail := false } } :=
    State.tryRelease_running (by simp [h])
  have on : ∀ b, b < 16 → (0xFFFF : Nat).testBit b = true := by decide
  unfold State.pllLock
  rw [boot, when_of (by simp [h, hp])]
  exact ⟨rfl, on, rfl⟩

theorem State.seedTt_ns (s : State) : s.seedTt / 2 ^ 32 = if s.bk.rtcValid then s.bk.rtc * 1000000000 else 0 := by
  unfold State.seedTt
  split
  · exact Nat.mul_div_cancel _ (by decide)
  · rfl

theorem State.enterMaint_nvm (s : State) (st : StartState) : (s.enterMaint st).nvm = s.nvm :=
  (State.enterMaint_frame (w := Part.sys ||| Part.rcd ||| Part.cnt ||| Part.fio ||| Part.startup) rfl (Frame.refl _ s)).nvm rfl

section Discovery

variable {s : State} {sfdp : Bool} {cap : Nat} {addr4 : Bool} (octal : Bool) (passes : List Nat)
  (h : s.sys.start = .boot) (hp : s.sys.pllLocked = true) (hr : s.nvm.ready = false)
include h hp hr

theorem State.norDiscovery_found (hcap : 16 ≤ cap) : s.norDiscovery true cap true octal passes =
    { s with nvm := { s.nvm with ready := true, octal := octal, sck := norSck 100 passes, cap := min cap 0xFFFF } } := by
  unfold State.norDiscovery
  rw [when_of (by simp [h, hp, hr]), if_neg (by simpa using hcap)]

theorem State.norDiscovery_unfit (bad : sfdp = false ∨ cap < 16 ∨ addr4 = false) :
    s.norDiscovery sfdp cap addr4 octal passes = (s.raise 0x0005 noInst).enterMaint .noFirmware := by
  unfold State.norDiscovery
  rw [when_of (by simp [h, hp, hr]), if_pos (by simpa using bad)]

end Discovery

/-- Settles O2: each command's guard holds, and its effect is what leaves reset, locks the PLL or ends the discovery. -/
theorem bootClocksAndFlash : Obligations.BootClocksAndFlash := by
  intro s
  refine ⟨fun h hn hs hc => ?nrst, fun h hs hn hc => ?supplies, fun h hp => ?pll,
    fun sfdp cap addr4 octal passes h hp hr => ⟨fun ok => ?found, fun bad => ?bad⟩⟩
  case nrst =>
    refine completes_fresh rfl ?_
    rw [when_of (by exact hn), State.tryRelease_released (by exact h) rfl (by exact hs) (by exact hc)]
    exact ⟨rfl, rfl, rfl⟩
  case supplies =>
    refine completes_fresh rfl ?_
    rw [when_of (by simpa using hs), State.tryRelease_released (by exact h) (by exact hn) rfl (by exact hc)]
    exact ⟨rfl, rfl⟩
  case pll =>
    obtain ⟨locked, on, seeded⟩ := State.pllLock_boot (s := s.fresh) h hp
    exact completes_fresh rfl ⟨locked, on, seeded.trans (State.seedTt_ns _)⟩
  case found =>
    obtain ⟨rfl, hcap, rfl⟩ := ok
    refine completes_fresh (f := fun s => s.norDiscovery true cap true octal passes) rfl ?_
    rw [State.norDiscovery_found (s := s.fresh) octal passes h hp hr hcap]
    exact ⟨rfl, rfl, rfl, rfl, rfl⟩
  case bad =>
    refine completes_fresh (f := fun s => s.norDiscovery sfdp cap addr4 octal passes) rfl ?_
    rw [State.norDiscovery_unfit (s := s.fresh) octal passes h hp hr bad]
    exact ⟨State.enterMaint_start _ _, by rw [State.enterMaint_nvm, State.raise_nvm]; exact hr⟩

/-! ### Shelving (R665 to R668) -/

/-- A command that writes a register outside the switched domains completes with the effect of the write. -/
theorem completes_putRegAlways {c : Instr} {s : State} {m i : Nat} {r : RegId} {v : Word} {post : State → Prop}
    (hc : exec c s = run s fun s => s.putReg m r i v) (hat : placedAt r i none = true) (hm : s.mayAccess m false = true)
    (hr : (desc r).access = .wo) (ht : r ≠ .obsTblData) (hv : writeOk r i 0 v = true) (h : post (s.fresh.effect r i 0 v)) :
    Completes c s post := by
  refine completes_fresh hc ?_
  rw [State.putReg_effect s.fresh m r i v _ hat rfl hm (by rw [hr]; decide) (fun e => by rw [hr] at e; cases e) ht hv]
  exact h

section Shelve

variable {s : State}

theorem State.shelve_accepted (hst : s.sys.start = .operational ∨ s.sys.start.maintOnly = true) (h : s.sys.shelving = false)
    (hr : s.shelveRefusal = 0) : s.shelve = { s with sys := { s.sys with shelving := true, shelveRefused := false, refuseCause := 0 } } := by
  unfold State.shelve
  rw [when_of (by simpa [h] using hst)]
  exact if_neg (not_not.2 hr)

theorem State.shelve_refused (hst : s.sys.start = .operational ∨ s.sys.start.maintOnly = true) (h : s.sys.shelving = false)
    (hp : s.shelfPortals = false) : s.shelve = { s with sys := { s.sys with shelveRefused := true, refuseCause := 1 } } := by
  have refused : s.shelveRefusal = 1 := by simp [State.shelveRefusal, hp]
  unfold State.shelve
  rw [when_of (by simpa [h] using hst)]
  dsimp only
  rw [refused, if_pos (by decide)]

theorem State.wakePresent_eq_false (h : s.wakePresent = false) : s.clockWake = false ∧ s.sys.wakeHeld = 0 := by
  simpa [State.wakePresent] using h

/-- PWR_EN falls once nothing is left to store (R666). -/
theorem State.shelveReady_falls (hsh : s.sys.shelving = true) (hlow : s.sys.pwrEnLow = false) (hin : s.rcd.intake = []) (hq : s.rcd.storeQ = [])
    (hnvm : s.nvm.busy = none) (hwake : s.wakePresent = false) :
    s.shelveReady = { s with sys := { s.sys with pwrEnLow := true, pwrEnFell := s.lt }, bk := { s.bk with wakeSrc := 0 } } := by
  have judged : s.judgeShelf = s := if_neg (by simp [hwake])
  unfold State.shelveReady
  rw [judged, when_of (by simp [hsh, hlow, hin, hq, hnvm])]

theorem State.wakeRelease_fell {c : Ticks} (src : Nat) (h : s.sys.pwrEnLow = true) (hc : s.sys.coreFell = some c) :
    s.wakeRelease src = { s.passTo (c + ms 100) with
      sys := { (s.passTo (c + ms 100)).sys with pwrEnLow := false, wakeHeld := 0, shelving := false },
      bk := { (s.passTo (c + ms 100)).bk with wakeSrc := src } } := by
  rw [State.wakeRelease, if_pos h, hc]

/-- A wake after VDD_CORE fell releases PWR_EN, not before 100 ms have passed (R667, R668). -/
theorem State.wakeRelease_releases {c : Ticks} (src : Nat) (h : s.sys.pwrEnLow = true) (hc : s.sys.coreFell = some c) :
    (s.wakeRelease src).sys.pwrEnLow = false ∧ (s.wakeRelease src).bk.wakeSrc = src ∧ c + ms 100 ≤ (s.wakeRelease src).time.lt := by
  have released := State.wakeRelease_fell src h hc
  obtain ⟨due, eq⟩ : ∃ due, due = c + ms 100 := ⟨_, rfl⟩
  rw [← eq] at released ⊢
  rw [released]
  exact ⟨rfl, rfl, s.le_passTo_lt due⟩

/-- A wake before PWR_EN falls ends shelving (R667). -/
theorem State.wakeRelease_ends (src : Nat) (h : s.sys.pwrEnLow = false) (hs : s.sys.shelving = true) : s.wakeRelease src = s.shelveEnd 6 := by
  unfold State.wakeRelease
  rw [if_neg (by simp [h]), if_pos hs]

theorem State.supplyReturn_noWake (hlow : s.sys.pwrEnLow = true) (hpow : s.bk.powered = true) (hwake : s.wakePresent = false) :
    s.supplyReturn = { s with sys := { s.sys with pwrEnLow := false, shelving := false }, bk := { s.bk with wakeSrc := 3 } } := by
  obtain ⟨noClock, noHeld⟩ := State.wakePresent_eq_false hwake
  unfold State.supplyReturn
  rw [when_of (by simp [hlow, hpow]), if_neg (not_not.2 noHeld), if_neg (by simp [noClock])]

theorem State.supplyReturn_held (hlow : s.sys.pwrEnLow = true) (hpow : s.bk.powered = true) (hheld : s.sys.wakeHeld ≠ 0) :
    s.supplyReturn = s.wakeRelease s.sys.wakeHeld := by
  unfold State.supplyReturn
  rw [when_of (by simp [hlow, hpow]), if_pos hheld]

end Shelve

/-- Settles O5: SHELVE by its refusal, the fall of PWR_EN by its guard, and a wake by whether PWR_EN is low. -/
theorem shelvingFollowsItsTable : Obligations.ShelvingFollowsItsTable := by
  intro s
  refine ⟨fun m hm hst hsh => ⟨fun hp hslot hhold hcat hnvm hwake => ?shelves, fun hp => ?refuses⟩, fun hsh hlow hin hq hnvm hwake => ?ready,
    fun hlow hsh hsup => ?timeout, fun c hpow hlow hc => ?wake, fun hpow hlow hsh => ?ends, fun c hpow hw hv hlow hc => ?clock,
    fun hlow hpow hwake => ?supply, fun c hlow hpow hheld hc => ?held⟩
  case shelves =>
    have accepted : s.shelveRefusal = 0 := by simp [State.shelveRefusal, hp, hslot, hhold, hcat, hnvm, hwake]
    refine completes_putRegAlways rfl sysPwrCmd_at hm (by decide) (by decide) rfl ?_
    rw [show s.fresh.effect .sysPwrCmd 0 0 1 = _ from State.shelve_accepted hst hsh accepted]
    exact ⟨rfl, rfl, rfl, rfl⟩
  case refuses =>
    refine completes_putRegAlways rfl sysPwrCmd_at hm (by decide) (by decide) rfl ?_
    exact congrArg State.sys (State.shelve_refused (s := s.fresh) hst hsh hp)
  case ready =>
    refine completes_fresh rfl ?_
    rw [State.shelveReady_falls (s := s.fresh) hsh hlow hin hq hnvm hwake]
    exact ⟨rfl, rfl, hsh⟩
  case timeout =>
    refine completes_fresh rfl ?_
    rw [when_of (by simp [State.fresh, hlow, hsh, hsup])]
    exact ⟨rfl, rfl, rfl, rfl⟩
  case wake =>
    refine completes_fresh rfl ?_
    rw [when_of (by exact hpow)]
    exact State.wakeRelease_releases 1 (by rw [State.pass_sys]; exact hlow) (by rw [State.pass_sys]; exact hc)
  case ends =>
    refine completes_fresh rfl ?_
    rw [when_of (by exact hpow), State.wakeRelease_ends 1 (by rw [State.pass_sys]; exact hlow) (by rw [State.pass_sys]; exact hsh)]
    exact ⟨rfl, rfl, rfl⟩
  case clock =>
    refine completes_fresh rfl ?_
    rw [when_of (by simpa [State.fresh, hpow, hv] using hw)]
    exact State.wakeRelease_releases 2 hlow hc
  case supply =>
    refine completes_fresh rfl ?_
    rw [State.supplyReturn_noWake (s := s.fresh) hlow hpow hwake]
    exact ⟨rfl, rfl⟩
  case held =>
    refine completes_fresh rfl ?_
    rw [State.supplyReturn_held (s := s.fresh) hlow hpow hheld]
    exact State.wakeRelease_releases (s := s.fresh) s.sys.wakeHeld hlow hc

/-! ### The backup domain (R623, R635, R663, R664) -/

/-- Settles O6: each command sets the fields that its rule names. -/
theorem backupDomainFollowsItsSupply : Obligations.BackupDomainFollowsItsSupply := by
  intro s
  refine ⟨fun mv => ⟨_, rfl, rfl, rfl⟩, fun h => ?crystal, fun h => ?up, ⟨_, rfl, rfl, rfl⟩⟩
  case crystal => exact completes_fresh rfl (congrArg State.bk (when_of (c := s.bk.powered) h _ _))
  case up =>
    refine completes_fresh rfl ?_
    rw [when_of (by simpa using h)]
    exact ⟨rfl, rfl, rfl, fun _ => rfl⟩

end Sys2Proof.Machine
end

section
/-!
PROOFS. Byte strings: what a field of a string built from parts holds.
-/
namespace Sys2Proof.Machine
open Sys2Proof

theorem leNat_append (a b : List Byte) : leNat (a ++ b) = leNat a + 256 ^ a.length * leNat b := by
  induction a with
  | nil => simp [leNat]
  | cons x a ih =>
    rw [List.cons_append, leNat, ih, leNat, List.length_cons, Nat.pow_succ']
    ring

theorem leNat_leBytes (k v : Nat) : leNat (leBytes k v) = v % 256 ^ k := by
  induction k generalizing v with
  | zero => simp [leBytes, leNat, Nat.mod_one]
  | succ k ih => rw [leBytes, leNat, ih, Nat.pow_succ', Nat.mod_mul, BitVec.toNat_ofNat]

theorem beNat_eq_leNat (l : List Byte) : beNat l = leNat l.reverse := by
  suffices h : ∀ (m : List Byte) (c : Nat), m.foldl (fun a b => a * 256 + b.toNat) c = leNat m.reverse + 256 ^ m.length * c by
    simpa [beNat] using h l 0
  intro m
  induction m with
  | nil => simp [leNat]
  | cons x m ih =>
    intro c
    rw [List.foldl_cons, ih, List.reverse_cons, leNat_append, List.length_reverse, List.length_cons, Nat.pow_succ]
    simp only [leNat]
    ring

theorem beNat_beBytes (k v : Nat) : beNat (beBytes k v) = v % 256 ^ k := by
  rw [beNat_eq_leNat, beBytes, List.reverse_reverse, leNat_leBytes]

@[simp] theorem length_beBytes (k v : Nat) : (beBytes k v).length = k := by simp [beBytes]

@[simp] theorem length_padTo (n : Nat) (l : List Byte) : (padTo n l).length = n := by
  simp [padTo]
  omega

theorem padTo_of_length {n : Nat} {l : List Byte} (h : l.length = n) : padTo n l = l := by
  simp [padTo, ← h]

theorem slice_of_le {l : List Byte} {o n : Nat} (h : o + n ≤ l.length) : slice l o n = (l.drop o).take n := by
  simp [slice]
  omega

theorem slice_zero_take {l : List Byte} {n : Nat} (h : n ≤ l.length) : slice l 0 n = l.take n := by
  rw [slice_of_le (by simpa using h), List.drop_zero]

theorem slice_self {l : List Byte} {n : Nat} (h : l.length = n) : slice l 0 n = l := by
  rw [slice_zero_take h.ge, List.take_of_length_le h.le]

/-- A field that lies in the first part. -/
theorem slice_append_left {a b : List Byte} {o n : Nat} (h : o + n ≤ a.length) : slice (a ++ b) o n = slice a o n := by
  rw [slice_of_le (by simp; omega), slice_of_le h, List.drop_append_of_le_length (by omega), List.take_append_of_le_length (by simp; omega)]

/-- A field that lies after the first part. -/
theorem slice_append_right {a b : List Byte} {o n : Nat} (h : a.length ≤ o) : slice (a ++ b) o n = slice b (o - a.length) n := by
  simp [slice, List.drop_append, List.drop_of_length_le h]

theorem byteAt_append_left {a b : List Byte} {o : Nat} (h : o < a.length) : byteAt (a ++ b) o = byteAt a o := by
  simp [byteAt, List.getElem?_append_left h]

theorem byteAt_append_right {a b : List Byte} {o : Nat} (h : a.length ≤ o) : byteAt (a ++ b) o = byteAt b (o - a.length) := by
  simp [byteAt, List.getElem?_append_right h]

theorem byteAt_beBytes_one (v : Nat) : byteAt (beBytes 1 v) 0 = v % 256 := rfl
theorem byteAt_leBytes_one (v : Nat) : byteAt (leBytes 1 v) 0 = v % 256 := rfl

end Sys2Proof.Machine
end

section
/-!
PROOFS. The NVM controller: a command starts its operation, and each operation ends as its registers say (R633).
-/
namespace Sys2Proof.Machine
open Sys2Proof

/-! ### A command starts its operation -/

theorem State.nvmCmd_starts {s : State} {cmd a n : Nat} (hn : nvmSize cmd = n) (ha : (s.reg .nvmAddr).toNat = a) (hb : s.nvm.busy = none)
    (hal : a % n = 0) (hcap : a + n ≤ s.nvm.cap * 0x200000) (hp : cmd ≠ 1 → s.nvmProtected a n = false) :
    (s.nvmCmd cmd).nvm = { s.nvm with busy := some ⟨cmd, a⟩, done := false, err := 0 } := by
  subst hn ha
  have allowed : ¬(cmd ≠ 1 ∧ s.nvmProtected (s.reg .nvmAddr).toNat (nvmSize cmd) = true) := fun ⟨h1, h2⟩ =>
    Bool.false_ne_true ((hp h1).symm.trans h2)
  unfold State.nvmCmd
  rw [if_neg (by simp [hb])]
  dsimp only
  rw [if_neg (by omega), if_neg allowed]

/-! ### An operation ends -/

/-- The page buffer takes 256 bytes, word by word. -/
theorem State.setNvmPage_reg (s : State) (b : List Byte) {i : Nat} (hi : i < 64) :
    (s.setNvmPage b).reg .nvmBuf i = BitVec.ofNat 32 (leAt b (4 * i) 4) := by
  have apart : ∀ j k, j ≠ k → regAddr .nvmBuf j 0 ≠ regAddr .nvmBuf k 0 := by
    intro j k hjk e
    unfold regAddr at e
    rw [show (desc .nvmBuf).s1 = 4 from rfl] at e
    omega
  have step : ∀ n, i < n → (forEach (List.range n) (fun s i => s.setReg .nvmBuf i 0 (BitVec.ofNat 32 (leAt b (4 * i) 4))) s).reg .nvmBuf i =
      BitVec.ofNat 32 (leAt b (4 * i) 4) := by
    intro n
    induction n with
    | zero => exact fun h => absurd h (Nat.not_lt_zero _)
    | succ n ih =>
      intro h
      rw [List.range_succ, forEach, List.foldl_append]
      by_cases hin : i = n
      · subst hin
        exact State.reg_setReg_self _ _ _ _ _
      · exact (State.reg_setReg_ne _ _ _ _ _ _ _ _ (apart i n hin)).trans (ih (by omega))
  exact step 64 hi

theorem State.setNvmPage_keeps (s : State) (b : List Byte) : (s.setNvmPage b).nvm = s.nvm ∧ (s.setNvmPage b).flash = s.flash :=
  have frame := State.setNvmPage_frame (b' := b) rfl (Frame.refl Part.regs s)
  ⟨frame.nvm rfl, frame.flash rfl⟩

theorem State.reg_withNvm (s : State) (n : Nvm) (r : RegId) (i : Nat) : State.reg { s with nvm := n } r i = s.reg r i := rfl

theorem leAt_word_lt (b : List Byte) (o : Nat) : leAt b o 4 < 2 ^ 32 := (leNat_lt _).trans_eq (by rw [slice_len]; norm_num)

@[simp] theorem State.length_flashBytes (s : State) (a n : Nat) : (s.flashBytes a n).length = n := by simp [State.flashBytes]

theorem State.length_nvmPage (s : State) : s.nvmPage.length = 256 := by
  simp [State.nvmPage, List.length_flatMap]

/-- Programming an erased page leaves what is programmed: no bit is missing in 0xFF. -/
theorem zipWith_and_erased {l want : List Byte} (hlen : l.length = want.length) (hl : ∀ x ∈ l, x = 0xFF) :
    List.zipWith (fun x y => x &&& y) l want = want := by
  induction want generalizing l with
  | nil => simp
  | cons y ys ih =>
    cases l with
    | nil => simp at hlen
    | cons x xs =>
      obtain ⟨rfl, hxs⟩ := List.forall_mem_cons.1 hl
      rw [List.zipWith_cons_cons, ih (by simpa using hlen) hxs]
      congr 1
      exact BitVec.allOnes_and

/-- The flash holds the bytes written, and no other byte has changed. -/
theorem State.flashByte_setFlash (s : State) (a : Nat) {bs : List Byte} {n : Nat} (hl : bs.length = n) :
    (∀ k < n, (s.setFlash a bs).flashByte (a + k) = bs.getD k 0) ∧ ∀ b, b < a ∨ a + n ≤ b → (s.setFlash a bs).flashByte b = s.flashByte b := by
  subst hl
  refine ⟨fun k hk => ?_, fun b hb => get_storeBytes_out 0xFF bs s.flash a b hb⟩
  rw [List.getD_eq_getElem _ _ hk]
  exact get_storeBytes_in 0xFF bs s.flash a k hk

section Operations

variable {s : State} {a : Nat}

theorem State.nvmOpDone_read (held : List Byte) (h : s.nvm.busy = some ⟨1, a⟩) : s.nvmOpDone false false held =
    { s.setNvmPage (s.flashBytes a 256) with nvm := { (s.setNvmPage (s.flashBytes a 256)).nvm with busy := none, done := true, err := 0 } } := by
  simp [State.nvmOpDone, h]

theorem State.nvmOpDone_programmed (held : List Byte) (h : s.nvm.busy = some ⟨2, a⟩) (he : ∀ k < 256, s.flashByte (a + k) = 0xFF) :
    s.nvmOpDone false false held = { s.setFlash a s.nvmPage with nvm := { s.nvm with busy := none, done := true, err := 0 } } := by
  have erased : ∀ x ∈ s.flashBytes a 256, x = 0xFF := by
    intro x hx
    obtain ⟨k, hk, rfl⟩ := List.mem_map.1 hx
    exact he k (List.mem_range.1 hk)
  have got := zipWith_and_erased ((s.length_flashBytes a 256).trans s.length_nvmPage.symm) erased
  simp [State.nvmOpDone, h, got, State.setFlash]

theorem State.nvmOpDone_erased {cmd : Nat} (held : List Byte) (h : s.nvm.busy = some ⟨cmd, a⟩) (h1 : cmd ≠ 1) (h2 : cmd ≠ 2) :
    s.nvmOpDone false false held =
      { s.setFlash a (List.replicate (nvmSize cmd) 0xFF) with nvm := { s.nvm with busy := none, done := true, err := 0 } } := by
  simp [State.nvmOpDone, h, h1, h2, State.setFlash]

theorem State.nvmOpDone_timeout {cmd : Nat} (bad : Bool) (held : List Byte) (h : s.nvm.busy = some ⟨cmd, a⟩) :
    (s.nvmOpDone true bad held).nvm = { s.nvm with busy := none, done := true, err := 3 } := by
  by_cases h1 : cmd = 1 <;> simp [State.nvmOpDone, h, h1, State.nvmFail, State.setFlash]

/-- A page read stands in the page buffer. -/
theorem completes_read (held : List Byte) (h : s.nvm.busy = some ⟨1, a⟩) : Completes (.nvmOpDone false false held) s (fun t =>
    t.nvm = { s.nvm with busy := none, done := true, err := 0 } ∧ t.flash = s.flash ∧
    ∀ i < 64, (t.reg .nvmBuf i).toNat = leAt (s.flashBytes a 256) (4 * i) 4) := by
  refine completes_fresh (f := fun s => s.nvmOpDone false false held) rfl ?_
  have same : ∀ n, s.fresh.flashBytes a n = s.flashBytes a n := fun n => rfl
  rw [State.nvmOpDone_read (s := s.fresh) held h, same]
  obtain ⟨nvm, flash⟩ := s.fresh.setNvmPage_keeps (s.flashBytes a 256)
  have page {i : Nat} (hi : i < 64) := congrArg BitVec.toNat (s.fresh.setNvmPage_reg (s.flashBytes a 256) hi)
  generalize s.fresh.setNvmPage (s.flashBytes a 256) = t at nvm flash page ⊢
  refine ⟨by rw [nvm]; rfl, flash, fun i hi => ?_⟩
  rw [State.reg_withNvm, page hi, BitVec.toNat_ofNat, Nat.mod_eq_of_lt (leAt_word_lt _ _)]

/-- A page programmed on erased flash holds the page buffer, and no other byte has changed. -/
theorem completes_program (held : List Byte) (h : s.nvm.busy = some ⟨2, a⟩) (he : ∀ k < 256, s.flashByte (a + k) = 0xFF) :
    Completes (.nvmOpDone false false held) s (fun t =>
      t.nvm = { s.nvm with busy := none, done := true, err := 0 } ∧ (∀ k < 256, t.flashByte (a + k) = s.nvmPage.getD k 0) ∧
      ∀ b, b < a ∨ a + 256 ≤ b → t.flashByte b = s.flashByte b) := by
  refine completes_fresh (f := fun s => s.nvmOpDone false false held) rfl ?_
  rw [State.nvmOpDone_programmed (s := s.fresh) held h he]
  have page : s.fresh.nvmPage = s.nvmPage := rfl
  have hlen := s.length_nvmPage
  rw [page]
  generalize s.nvmPage = want at hlen ⊢
  obtain ⟨inside, outside⟩ := s.fresh.flashByte_setFlash a hlen
  exact ⟨rfl, inside, outside⟩

/-- An erased range reads 0xFF, and no other byte has changed. -/
theorem completes_erase {cmd n : Nat} (held : List Byte) (h : s.nvm.busy = some ⟨cmd, a⟩) (h1 : cmd ≠ 1) (h2 : cmd ≠ 2)
    (hn : nvmSize cmd = n) : Completes (.nvmOpDone false false held) s (fun t =>
      t.nvm = { s.nvm with busy := none, done := true, err := 0 } ∧ (∀ k < n, t.flashByte (a + k) = 0xFF) ∧
      ∀ b, b < a ∨ a + n ≤ b → t.flashByte b = s.flashByte b) := by
  refine completes_fresh (f := fun s => s.nvmOpDone false false held) rfl ?_
  rw [State.nvmOpDone_erased (s := s.fresh) held h h1 h2, hn]
  obtain ⟨inside, outside⟩ := s.fresh.flashByte_setFlash a (List.length_replicate (n := n) (a := (0xFF : Byte)))
  refine ⟨rfl, fun k hk => (inside k hk).trans ?_, outside⟩
  rw [List.getD_eq_getElem _ _ (by rwa [List.length_replicate]), List.getElem_replicate]

end Operations

/-- Settles O7: an accepted command by the operation that it starts, an operation by how it ends. -/
theorem flashOperationsRun : Obligations.FlashOperationsRun := by
  intro s
  have starts {c : Instr} {m : Fin 6} {cmd n : Nat} (hc : exec c s = run s fun s => s.putReg m .nvmCmd 0 (BitVec.ofNat 32 cmd)) (hcmd : 1 ≤ cmd ∧ cmd ≤ 4)
      (hn : nvmSize cmd = n) (hm : s.mayAccess m false = true) (hd : s.domain 11 = true) (hb : s.nvm.busy = none)
      (hal : (s.reg .nvmAddr).toNat % n = 0) (hcap : (s.reg .nvmAddr).toNat + n ≤ s.nvm.cap * 0x200000)
      (hp : cmd ≠ 1 → s.nvmProtected (s.reg .nvmAddr).toNat n = false) :
      Completes c s (fun t => t.nvm = { s.nvm with busy := some ⟨cmd, (s.reg .nvmAddr).toNat⟩, done := false, err := 0 }) := by
    have code : ∀ k : Fin 5, 1 ≤ k.val → writeOk .nvmCmd 0 0 (BitVec.ofNat 32 k) = true ∧ fld (BitVec.ofNat 32 k) 2 0 = k := by decide +kernel
    obtain ⟨ok, same⟩ := code ⟨cmd, by omega⟩ hcmd.1
    refine completes_putReg hc nvmCmd_at hm hd (by decide) (by decide) ok ?_
    show (s.fresh.nvmCmd (fld (BitVec.ofNat 32 cmd) 2 0)).nvm = _
    rw [same]
    exact State.nvmCmd_starts (s := s.fresh) hn rfl hb hal hcap hp
  refine ⟨fun m hm hd hb => ⟨?read, ?program, ?erase4k, ?erase64k⟩, fun a held h => ?reads, fun a held h he => ?programs, fun a held h => ?erases,
    fun a held bad h => ?times⟩
  case read => exact fun hal hcap => starts rfl (by decide) rfl hm hd hb hal hcap (fun h => absurd rfl h)
  case program => exact fun hal hcap hp => starts rfl (by decide) rfl hm hd hb hal hcap (fun _ => hp)
  case erase4k => exact fun hal hcap hp => starts rfl (by decide) rfl hm hd hb hal hcap (fun _ => hp)
  case erase64k => exact fun hal hcap hp => starts rfl (by decide) rfl hm hd hb hal hcap (fun _ => hp)
  case reads => exact completes_read held h
  case programs => exact completes_program held h he
  case erases => exact completes_erase held h (by decide) (by decide) rfl
  case times => exact completes_fresh (f := fun s => s.nvmOpDone true bad held) rfl (State.nvmOpDone_timeout (s := s.fresh) bad held h)

end Sys2Proof.Machine
end

section
/-!
PROOFS. The start sequence: recorder, vote, firmware, self-tests, JOIN and the Operational line (R572, R629, R634, R637, R639, R644).
-/
namespace Sys2Proof.Machine
open Sys2Proof

/-! ### The recorder's start -/

theorem State.voteOf_congr {s t : State} (h : t.mem = s.mem) (id : Nat) : t.voteOf id = s.voteOf id := by
  have copies : ∀ c, t.copyValue c id = s.copyValue c id := fun c => by
    unfold State.copyValue
    dsimp only
    rw [State.memBytes_congr h]
  unfold State.voteOf
  rw [copies, copies, copies]

/-- The mark that the start uses: 0 as delivered, else the vote. -/
theorem State.voteMark_value (s : State) :
    s.voteMark.1 = if s.delivered 0x70 then some 0 else (s.voteOf 0x70).value.map leNat := by
  unfold State.voteMark
  split
  · rfl
  · unfold State.votePlain
    dsimp only
    cases (s.voteOf 0x70).value <;> rfl

theorem State.voteMark_congr {s t : State} (h : t.mem = s.mem) : t.voteMark.1 = s.voteMark.1 := by
  have delivered : t.delivered 0x70 = s.delivered 0x70 := by
    unfold State.delivered
    simp only [State.memBytes_congr h]
  rw [State.voteMark_value, State.voteMark_value, delivered, State.voteOf_congr h]

theorem State.nextNumber_marked {s : State} {a : Nat} (h : s.voteMark.1 = some a) (sealOk : Bool) (high : Nat) :
    (s.nextNumber sealOk high).1 = (if sealOk then max a s.rcd.sealMark else a) + 1 := by
  unfold State.nextNumber
  dsimp only
  rw [h]
  cases sealOk <;> rfl

theorem State.recordResets_noNotes {s : State} (h : s.sys.notes = []) :
    s.recordResets = { s with sys := { s.sys with notes := [] } } := by
  unfold State.recordResets
  rw [h]
  rfl

theorem State.recorderStart_starts {s : State} {a : Nat} (sealOk : Bool) (hp : s.sys.pllLocked = true) (hr : s.rcd.started = false)
    (hb : s.sys.start = .boot) (hn : s.sys.notes = []) (hv : s.voteMark.1 = some a) :
    (s.recorderStart sealOk none).rcd.started = true ∧
    (s.recorderStart sealOk none).rcd.nextAcc = (if sealOk then max a s.rcd.sealMark else a) + 1 ∧
    (s.recorderStart sealOk none).rcd.mark = (s.recorderStart sealOk none).rcd.nextAcc - 1 := by
  have kept : s.recordResets.mem = s.mem ∧ s.recordResets.rcd = s.rcd := by
    rw [State.recordResets_noNotes hn]
    exact ⟨rfl, rfl⟩
  have next (high : Nat) := State.nextNumber_marked (s := s.recordResets) (a := a)
    ((State.voteMark_congr kept.1).trans hv) sealOk high
  rw [kept.2] at next
  unfold State.recorderStart
  rw [when_of (by simp [hp, hr, hb])]
  exact ⟨rfl, next _, rfl⟩

/-! ### The vote, the firmware and the self-tests -/

/-- What the vote on the parameters may change, beside the note that it is over. -/
def voteParts : Nat := Part.cat ||| Part.sc ||| Part.rcd ||| Part.cnt ||| Part.portals ||| Part.ilk ||| Part.mem

theorem State.paramVote_votes {s : State} (hp : s.sys.pllLocked = true) (hr : s.rcd.started = true) (hv : s.sys.voted = false)
    (hb : s.sys.start = .boot) : s.paramVote.sys = { s.sys with voted := true } := by
  have h1 : Frame voteParts s (forEach [2, 3, 4, 5] State.voteCommit s.voteFloor) :=
    forEach_frame (fun _ _ h => State.voteCommit_frame rfl h) _ (State.voteFloor_frame rfl (Frame.refl _ s))
  have h2 := forEach_frame (w := voteParts) (f := State.voteCounter) (fun _ _ h => State.voteCounter_frame rfl h) (List.range 16) h1
  have h3 := forEach_frame (w := voteParts) (f := State.voteBrake) (fun _ _ h => State.voteBrake_frame rfl h) (List.range 64) h2
  have h4 := State.votePassword_frame (w := voteParts) rfl
    (forEach_frame (f := State.voteCycles) (fun _ _ h => State.voteCycles_frame rfl h) (List.range 16) h3)
  have h5 := forEach_frame (w := voteParts) (f := State.loadKey) (fun _ _ h => State.loadKey_frame rfl h) (List.range 16) h4
  unfold State.paramVote
  rw [when_of (by simp [hp, hr, hv, hb])]
  exact congrArg (fun x : Sys => { x with voted := true }) (h5.sys rfl)

theorem State.noteFirmware_sys (s : State) (k : Nat) : (s.noteFirmware k).sys = s.sys :=
  (State.noteFirmware_frame (w := Part.rcd ||| Part.cnt) rfl (Frame.refl _ s)).sys rfl

theorem State.runFirmware_runs (s : State) (k : Nat) :
    (s.runFirmware k).sys.start = .config ∧ (s.runFirmware k).sys.fwRunning = true ∧ (s.runFirmware k).sys.fwSlot = k + 1 := by
  unfold State.runFirmware
  rw [State.raise_sys]
  exact ⟨rfl, rfl, rfl⟩

theorem State.firmwareSelect_selects {s : State} (hb : s.sys.start = .boot) (hn : s.nvm.ready = true) (hv : s.sys.voted = true) :
    match s.chooseFirmware with
    | none => s.firmwareSelect.sys.start = .noFirmware
    | some k => s.firmwareSelect.sys.start = .config ∧ s.firmwareSelect.sys.fwRunning = true ∧
      s.firmwareSelect.sys.fwSlot = (if s.fallsBack k then 1 - k else k) + 1 := by
  unfold State.firmwareSelect
  rw [when_of (by simp [hb, hn, hv])]
  dsimp only
  cases s.chooseFirmware with
  | none => exact State.enterMaint_start _ _
  | some k =>
    dsimp only
    cases s.fallsBack k
    · exact State.runFirmware_runs _ k
    · exact State.runFirmware_runs _ (1 - k)

theorem firstFailedTest_eq_none {l : List Bool} {k : Nat} : firstFailedTest l k = none ↔ ∀ ok ∈ l, ok = true := by
  induction l generalizing k with
  | nil => simp [firstFailedTest]
  | cons ok l ih => cases ok <;> simp [firstFailedTest, ih]

theorem State.requestDirectory_sys (s : State) : s.requestDirectory.sys = s.sys :=
  (State.requestDirectory_frame (w := Part.trdp ||| Part.outs ||| Part.cnt ||| Part.rcd) rfl (Frame.refl _ s)).sys rfl

theorem State.selftest_judges {s : State} (lockstep evaluator gate readback : Bool) (h : s.sys.start = .selftest) :
    if lockstep && evaluator && decide (crc32c s.ilkParams = s.ilk.pcrcRef) && gate && readback
    then (s.selftest lockstep evaluator gate readback).sys.start = .join ∧ (s.selftest lockstep evaluator gate readback).sys.testsPassed = true
    else (s.selftest lockstep evaluator gate readback).sys.start = .startFail := by
  unfold State.selftest
  rw [when_of (by simp [h])]
  generalize crc32c s.ilkParams = c
  dsimp only
  cases hf : firstFailedTest [lockstep, evaluator, decide (c = s.ilk.pcrcRef), gate, readback] 0 with
  | none =>
    have passed := firstFailedTest_eq_none.1 hf
    rw [if_pos (by simpa [and_assoc] using passed)]
    dsimp only
    rw [State.requestDirectory_sys]
    exact ⟨rfl, rfl⟩
  | some k =>
    have failed : ¬(lockstep && evaluator && decide (c = s.ilk.pcrcRef) && gate && readback) = true := fun ok => by
      rw [firstFailedTest_eq_none.2 (by simpa [and_assoc] using ok)] at hf
      cases hf
    rw [if_neg failed]
    exact State.enterMaint_start _ _

/-! ### JOIN and the Operational line -/

theorem State.joinEnd_ends {s : State} (h : s.sys.start = .join) (hj : s.sys.joinEnded = false) :
    s.joinEnd.sys = { s.sys with joinEnded := true } := by
  have waits (c : Bool) (d : Bool) (x y : Nat) : (if c then (if d then s else s.passTo x) else s.passTo y).sys = s.sys := by
    cases c <;> cases d <;> simp
  unfold State.joinEnd
  rw [when_of (by simp [h, hj])]
  exact congrArg (fun x : Sys => { x with joinEnded := true }) (waits _ _ _ _)

theorem State.operationalEntry_enters {s : State} (h : s.sys.start = .join) (hl : s.sys.lock = true) (ht : s.sys.testsPassed = true)
    (hj : s.sys.joinEnded = true) : s.operationalEntry.sys = { s.sys with start := .operational, operational := true } ∧
      s.operationalEntry.bk = { s.bk with starts := Table.set 0 s.bk.starts s.sys.fwSlot 0 } := by
  unfold State.operationalEntry
  rw [when_of (by simp [h, hl, ht, hj])]
  have frame := State.logActivation_frame (w := voteParts) rfl (State.raiseFwFloor_frame rfl (State.raiseFloor_frame rfl
    (State.raise_frame (code := 0x0006) (inst := noInst) (vals := []) rfl (Frame.refl voteParts { s with
      sys := { s.sys with start := .operational, operational := true }
      bk := { s.bk with starts := Table.set 0 s.bk.starts s.sys.fwSlot 0 } }))))
  exact ⟨frame.sys rfl, frame.bk rfl⟩

/-- Settles O4, a step of the start sequence each. -/
theorem startSequenceAdvances : Obligations.StartSequenceAdvances := by
  intro s
  refine ⟨fun sealOk a x hp hr hb hn hv => ?recorder, fun hp hr hv hb => ?params, fun hb hn hv => ?firmware,
    fun lockstep evaluator gate readback h => ?tests, fun h hj => ?join, fun h hl ht hj => ?operational⟩
  case recorder =>
    have mark : s.fresh.voteMark.1 = some a := (State.voteMark_congr (s := s) (t := s.fresh) rfl).trans (congrArg Prod.fst hv)
    obtain ⟨started, next, last⟩ := State.recorderStart_starts (s := s.fresh) sealOk hp hr hb hn mark
    exact completes_fresh (f := fun s => s.recorderStart sealOk none) rfl ⟨started, next, last⟩
  case params =>
    refine completes_fresh (f := State.paramVote) rfl ?_
    rw [State.paramVote_votes (s := s.fresh) hp hr hv hb]
    exact ⟨rfl, hb⟩
  case firmware => exact completes_fresh (f := State.firmwareSelect) rfl (State.firmwareSelect_selects (s := s.fresh) hb hn hv)
  case tests =>
    exact completes_fresh (f := fun s => s.selftest lockstep evaluator gate readback) rfl
      (State.selftest_judges (s := s.fresh) lockstep evaluator gate readback h)
  case join =>
    refine completes_fresh (f := State.joinEnd) rfl ?_
    rw [State.joinEnd_ends (s := s.fresh) h hj]
    exact ⟨rfl, h⟩
  case operational =>
    refine completes_fresh (f := State.operationalEntry) rfl ?_
    obtain ⟨sys, bk⟩ := State.operationalEntry_enters (s := s.fresh) h hl ht hj
    unfold State.operational
    rw [sys, bk]
    exact ⟨rfl, rfl, Table.get_set_self 0 s.bk.starts s.sys.fwSlot 0⟩

end Sys2Proof.Machine
end

section
/-!
PROOFS. The security core: random generator, sessions, debug port, attestation and identity (R597, R598, R614 to R618).
-/
namespace Sys2Proof.Machine
open Sys2Proof

/-! ### The random generator (R597, R598) -/

theorem State.rawBlock_bits {s t : State} (h : t.free = s.free) : t.rawBlock.1 = s.rawBlock.1 := by
  unfold State.rawBlock
  rw [h]

theorem State.rawBlock_state (s : State) : s.rawBlock.2 = { s with free := s.free + 1 } := by
  unfold State.rawBlock
  with_reducible rfl

/-- A block of the generator goes by the bits drawn and the run before them. -/
theorem State.testBlock_congr {s t : State} (hsc : t.sc = s.sc) (hfree : t.free = s.free) : t.testBlock.2 = s.testBlock.2 := by
  unfold State.testBlock
  dsimp only
  rw [State.rawBlock_bits hfree, hsc]

theorem State.testBlock_sc_congr {s t : State} (hsc : t.sc = s.sc) (hfree : t.free = s.free) : t.testBlock.1.sc = s.testBlock.1.sc := by
  unfold State.testBlock
  dsimp only
  rw [State.rawBlock_bits hfree, State.rawBlock_state, State.rawBlock_state, hsc]

/-- A block changes only the run noted. -/
theorem State.testBlock_sc (s : State) : ∃ run last, s.testBlock.1.sc = { s.sc with rngRun := run, rngLast := last } := by
  unfold State.testBlock
  dsimp only
  rw [State.rawBlock_state]
  exact ⟨_, _, rfl⟩

theorem State.testBlock_free (s : State) : s.testBlock.1.free = s.free + 1 := by
  unfold State.testBlock
  dsimp only
  rw [State.rawBlock_state]

theorem retestGo_congr (n : Nat) {s t : State} (hsc : t.sc = s.sc) (hfree : t.free = s.free) : (retestGo n t).2 = (retestGo n s).2 := by
  induction n generalizing s t with
  | zero => rfl
  | succ n ih =>
    have same := State.testBlock_congr hsc hfree
    have sc := State.testBlock_sc_congr hsc hfree
    have free : t.testBlock.1.free = s.testBlock.1.free := by rw [State.testBlock_free, State.testBlock_free, hfree]
    rw [retestGo, retestGo, same]
    cases s.testBlock.2.1
    · rfl
    · exact ih sc free

section Block

variable {s : State} (hd : s.domain 1 = true) (hf : s.sc.rngFail = false)
include hd hf

theorem State.rngBlock_fails (h : s.testBlock.2.1 = false) : s.rngBlock.sc.rngFail = true ∧ s.rngBlock.sc.rngOut = s.sc.rngOut := by
  obtain ⟨run, last, noted⟩ := s.testBlock_sc
  have tested : s.rngBlock = _ := when_of (by simp [hf, hd]) _ _
  rw [tested]
  dsimp only
  rw [h, if_pos (by rfl)]
  simp [State.rngFailed, noted]

theorem State.rngBlock_passes (h : s.testBlock.2.1 = true) : s.rngBlock.sc.rngFail = false ∧
    (if s.sc.rngOk then s.rngBlock.sc.rngOut = BitVec.ofNat 384 (beNat s.testBlock.2.2)
      else s.rngBlock.sc.rngTested = s.sc.rngTested + 1 ∧ s.rngBlock.sc.rngOut = s.sc.rngOut ∧
        s.rngBlock.sc.rngOk = decide (4 ≤ s.sc.rngTested + 1)) := by
  obtain ⟨run, last, noted⟩ := s.testBlock_sc
  have tested : s.rngBlock = _ := when_of (by simp [hf, hd]) _ _
  rw [tested]
  dsimp only
  rw [h, if_neg (by decide), noted]
  cases ho : s.sc.rngOk <;> simp [noted, hf]

end Block

theorem State.rngRetest_tests {s : State} (hd : s.domain 1 = true) (hf : s.sc.rngFail = true) :
    s.rngRetest.sc.rngFail = !(retestGo 8 s).2 := by
  have run : s.rngRetest = _ := when_of (by simp [hf, hd]) _ _
  rw [run]
  generalize retestGo 8 s = r
  obtain ⟨x, ok⟩ := r
  cases ok <;> simp [State.rngFailed]

/-- Settles O19: a block and a retest by whether their blocks pass. -/
theorem randomGeneratorTests : Obligations.RandomGeneratorTests := by
  intro s hd
  refine ⟨fun hf => ?block, fun hf => ?retest⟩
  case block =>
    have same := State.testBlock_congr (s := s) (t := s.fresh) rfl rfl
    refine completes_fresh (f := State.rngBlock) rfl ?_
    rw [← same]
    cases h : s.fresh.testBlock.2.1
    · rw [if_pos rfl]
      exact State.rngBlock_fails (s := s.fresh) hd hf h
    · rw [if_neg (by decide)]
      exact State.rngBlock_passes (s := s.fresh) hd hf h
  case retest =>
    have tests := State.rngRetest_tests (s := s.fresh) hd hf
    rw [retestGo_congr (s := s) (t := s.fresh) 8 rfl rfl] at tests
    exact completes_fresh (f := State.rngRetest) rfl tests

/-! ### Sessions, the debug port, attestation and identity (R614 to R618) -/

theorem State.endSessions_sc (s : State) (ip : Nat) :
    (s.endSessions ip).sc = { s.sc with sessions := s.sc.sessions.filter (fun q => q.ip != ip) } := by
  have events {α : Type} (l : List α) (x : State) : (forEach l (fun s _ => s.raise 0x2039 noInst) x).sc = x.sc :=
    (forEach_frame (w := Part.rcd ||| Part.cnt) (fun _ _ h => State.raise_frame rfl h) l (Frame.refl _ x)).sc rfl
  unfold State.endSessions
  rw [events]

theorem State.sessionEnd_ends {s : State} {k : Nat} {q : Session} (h : s.sc.sessions[k]? = some q) :
    ∀ x ∈ (s.sessionEnd k).sc.sessions, x.ip ≠ q.ip := by
  unfold State.sessionEnd
  rw [h]
  dsimp only
  rw [State.endSessions_sc]
  intro x hx
  simpa using (List.mem_filter.1 hx).2

theorem State.serviceReply_sc (s : State) (ip req result : Nat) (body : List Byte) : (s.serviceReply ip req result body).sc = s.sc :=
  (State.serviceReply_frame (w := Part.cnt ||| Part.outs) rfl (Frame.refl _ s)).sc rfl

theorem State.serviceReply_free (s : State) (ip req result : Nat) (body : List Byte) : (s.serviceReply ip req result body).free = s.free :=
  (State.serviceReply_frame (w := Part.cnt ||| Part.outs) rfl (Frame.refl _ s)).free rfl

section Attest

variable {s r : State} {t : Telegram} {b : List Byte}

theorem State.attest_takes (h : s.serviceRx t 0x0301 = (r, some b)) (hl : b.length = 32) (ha : r.sc.attest = none) (hf : r.sc.rngFail = false) :
    s.attest t = { r with sc := { r.sc with attest := some ⟨t.src, b⟩ } } := by
  simp [State.attest, h, hl, ha, hf]

/-- One attestation runs at a time. -/
theorem State.attest_busy (h : s.serviceRx t 0x0301 = (r, some b)) (hl : b.length = 32) (ha : r.sc.attest.isSome = true) :
    (s.attest t).sc = r.sc := by
  simp [State.attest, h, hl, ha, State.serviceReply_sc]

theorem State.attestDone_replies {a : Attest} (ha : s.sc.attest = some a) (hf : s.sc.rngFail = false) :
    s.attestDone.sc = { s.sc with attest := none } ∧ s.attestDone.free = s.free + 1 := by
  unfold State.attestDone
  rw [ha]
  dsimp only
  rw [hf, if_neg Bool.false_ne_true, State.serviceReply_sc, State.serviceReply_free]
  exact ⟨rfl, rfl⟩

theorem State.identity_replies (h : s.serviceRx t 0x0302 = (r, some [])) :
    s.identity t = r.serviceReply t.src 0x0302 0 (beBytes 48 Config.identityPubX ++ beBytes 48 Config.identityPubY) := by
  unfold State.identity
  rw [h]
  exact if_neg (not_not.2 rfl)

end Attest

/-- Settles O20, a command each. -/
theorem sessionsDebugAndAttestation : Obligations.SessionsDebugAndAttestation := by
  intro s
  refine ⟨fun k q h => ?session, fun h => ?attach, ⟨_, rfl, rfl⟩, fun t0 r b h hl ha hf => ?attest, fun t0 r b h hl ha => ?busy,
    fun a ha hf => ?done, fun t0 r h => ?identity, fun k m hm hd => ?counter⟩
  case session => exact completes_fresh (f := fun s => s.sessionEnd k) rfl (State.sessionEnd_ends (s := s.fresh) h)
  case attach =>
    refine completes_fresh rfl ?_
    rw [when_of (by simpa [State.fresh] using h)]
    exact State.raise_sc _ _ _ _
  case attest => exact completes_fresh (f := fun s => s.attest t0) rfl (State.attest_takes (s := s.fresh) h hl ha hf)
  case busy => exact completes_fresh (f := fun s => s.attest t0) rfl (State.attest_busy (s := s.fresh) h hl ha)
  case done => exact completes_fresh (f := State.attestDone) rfl (State.attestDone_replies (s := s.fresh) ha hf)
  case identity => exact completes_fresh (f := fun s => s.identity t0) rfl (State.identity_replies (s := s.fresh) h)
  case counter =>
    refine completes_fresh (f := fun s => s.getReg m .secCntLo k) rfl ?_
    have read := State.getReg_eq s.fresh m .secCntLo k (some 1) (secCntLo_at k) hd hm
    rw [read]
    have value : (natWord (s.counterOf k)).toNat = s.counterOf k % 2 ^ 32 := BitVec.toNat_ofNat _ _
    exact ⟨rfl, by rw [← value]; rfl⟩

end Sys2Proof.Machine
end

section
/-!
PROOFS. Provisioning key 0 (R607).
-/
namespace Sys2Proof.Machine
open Sys2Proof

/-- An accepted command is acted on in the state in which the core found it, its place in the queue noted (R605). -/
theorem cmdRow_accepted {s y : State} {code : Nat} {conn : Option (Fin 64)} {b : List Byte} (h : s.Accepts code conn b y) :
    ∃ v, s.cmdRow code conn b true = State.acceptCmd { y with sc := { y.sc with verifying := v } } (conn.map Fin.val) b true := by
  obtain ⟨_, _, _, owns, awake, room, found⟩ := h.toArrives
  have offered : Frame (Part.regs ||| Part.sc) s y := found ▸ offered_frame s conn b
  have verifying : y.sc.verifying = s.sc.verifying := by
    obtain ⟨_, _, _, hsc⟩ := offered_sc s conn b
    rw [← found, hsc]
  have queued : ¬8 ≤ y.queued := by
    rw [State.queued, State.lt, verifying, offered.time rfl]
    exact Nat.not_le.2 room
  have shelving : y.sys.shelving = false := by rw [offered.sys rfl]; exact awake
  have releasing : y.twin.releasing = none := by rw [offered.twin rfl]; exact owns
  rw [cmdRow_arrives h.toArrives true]
  unfold State.secCommand
  rw [releasing, shelving, if_neg (by decide), if_neg (by simpa using queued)]
  dsimp only
  generalize us 25 = u
  generalize y.sc.verifying.filter (fun t => decide (y.lt < t)) ++ _ = v
  have passes : State.verifyCmd { y with sc := { y.sc with verifying := v } } (conn.map Fin.val) b = none := h.passes
  exact ⟨v, by rw [passes]⟩

theorem State.doProvision_installs {s : State} {b key : List Byte} (h : provisionKey b = some key) :
    (s.doProvision b).2 = true ∧ (s.doProvision b).1.sc.keys = Table.set {} s.sc.keys 0 { present := true, key := key, perm := 0, gen := (s.key 0).gen + 1 } ∧
      (s.doProvision b).1.sc.counters = Table.set 0 s.sc.counters 0 0 := by
  have saved (x : State) : (x.saveNum 0x10 0).sc = x.sc := (State.saveNum_frame (w := Part.mem) rfl (Frame.refl _ x)).sc rfl
  unfold provisionKey at h
  dsimp only at h
  unfold State.doProvision
  extract_lets p x y kek
  rw [h]
  dsimp only
  rw [State.raise_sc, saved]
  dsimp only
  rw [State.installKey_sc]
  exact ⟨rfl, rfl, rfl⟩

theorem State.doProvision_refuses {s : State} {b : List Byte} (h : provisionKey b = none) : s.doProvision b = (s, false) := by
  unfold provisionKey at h
  dsimp only at h
  unfold State.doProvision
  extract_lets p x y kek
  rw [h]

theorem State.acceptCmd_provision {s : State} {b : List Byte} (h : cmdCode b = 0x0F01) (conn : Option Nat) (ok : Bool) :
    s.acceptCmd conn b ok = if (s.doProvision b).2 then ((s.doProvision b).1.count 240).cmdOutcome conn b s.tt s.quality.code 0
      else s.rejectCmd conn b 0x2025 := if_pos h

theorem State.rejectCmd_sc (s : State) (b : List Byte) (code : Nat) :
    (s.rejectCmd none b code).sc = { s.sc with bufBusy := false, bufDone := true, bufResult := code } := by
  unfold State.rejectCmd
  rw [outcome_sc]
  simp

/-- Settles O17: key 0 and its counter are written where the point and the tag pass, and nothing where one fails. Generations and the
permissions of key 0 are the model's choice (log entry 65). -/
theorem provisionInstallsKeyZero : Obligations.ProvisionInstallsKeyZero := by
  intro s y b h
  have same : s.fresh.SameSecurity { y with outs := [] } := (h.outs []).found ▸ State.offered_security s.fresh none b
  have counters : y.sc.counters = s.sc.counters := by
    obtain ⟨_, _, _, hsc⟩ := offered_sc s none b
    rw [← h.found, hsc]
  have keys : y.sc.keys = s.sc.keys := same.keys
  obtain ⟨v, row⟩ := cmdRow_accepted (h.outs [])
  refine completes_fresh (f := fun s => s.cmdRow 0x0F01 none b true) rfl ?_
  unfold State.fresh
  rw [row, State.acceptCmd_provision h.code]
  obtain ⟨x, hx⟩ : ∃ x : State, { y with outs := [], sc := { y.sc with verifying := v } } = x := ⟨_, rfl⟩
  have xk : x.sc.keys = s.sc.keys := by rw [← hx]; exact keys
  have xc : x.sc.counters = s.sc.counters := by rw [← hx]; exact counters
  dsimp only at hx ⊢
  rw [hx]
  rw [Option.map_none]
  cases hk : provisionKey b with
  | none =>
    have sc := x.rejectCmd_sc b 0x2025
    rw [State.doProvision_refuses hk]
    exact ⟨fun i _ => State.key_congr ((congrArg Sec.keys sc).trans xk) i, (congrArg Sec.keys sc).trans xk,
      (congrArg Sec.counters sc).trans xc, congrArg Sec.bufResult sc⟩
  | some key =>
    obtain ⟨installed, hkeys, hcounters⟩ := State.doProvision_installs (s := x) hk
    rw [installed, if_pos rfl]
    have sc := outcome_sc ((x.doProvision b).1.count 240) none b x.tt x.quality.code 0
    have hk0 := (congrArg Sec.keys sc).trans hkeys
    rw [xk, State.key_congr xk] at hk0
    obtain ⟨at0, others⟩ := State.key_written hk0
    refine ⟨others, at0, ?_⟩
    rw [State.counterOf, sc]
    exact (congrArg (Table.get 0 · 0) hcounters).trans (Table.get_set_self _ _ _ _)

end Sys2Proof.Machine
end

section
/-!
PROOFS. Register writes over the network: every word, or none (R688, R689).
-/
namespace Sys2Proof.Machine
open Sys2Proof

theorem State.decode_congr {s t : State} (h : t.sys = s.sys) (a : Nat) : t.decode a = s.decode a := by
  have domain (d : Nat) : t.domain d = s.domain d := by rw [State.domain, State.domain, h]
  have domainOn (d : Option Nat) : t.domainOn d = s.domainOn d := by cases d with
    | none => rfl
    | some d => exact domain d
  unfold State.decode
  simp only [domain, domainOn]

theorem State.writeWord_ram {s : State} {a : Nat} (h : s.decode a = .ram) (v : Word) (m : Nat) :
    s.writeWord a v m = (s.setMem a (leBytes 4 v.toNat), true) := by
  simp [State.writeWord, State.writeCause_ram h, h]

/-- The words of a run of memory addresses, written in rising order: each stands there, and nothing but memory has changed. -/
theorem State.writeRun_ram {s : State} {a n : Nat} {val : Nat → Word} (m : Nat) (h : ∀ i < n, s.decode (a + 4 * i) = .ram) :
    Frame Part.mem s (forEach (List.range n) (fun s i => (s.writeWord (a + 4 * i) (val i) m).1) s) ∧
    ∀ i < n, ∀ k < 4, (forEach (List.range n) (fun s i => (s.writeWord (a + 4 * i) (val i) m).1) s).memByte (a + 4 * i + k) =
      BitVec.ofNat 8 ((val i).toNat / 256 ^ k) := by
  induction n with
  | zero => exact ⟨Frame.refl _ s, fun i hi => absurd hi (Nat.not_lt_zero i)⟩
  | succ n ih =>
    obtain ⟨frame, words⟩ := ih fun i hi => h i (Nat.lt_succ_of_lt hi)
    have last : forEach (List.range (n + 1)) (fun s i => (s.writeWord (a + 4 * i) (val i) m).1) s =
        (forEach (List.range n) (fun s i => (s.writeWord (a + 4 * i) (val i) m).1) s).setMem (a + 4 * n) (leBytes 4 (val n).toNat) := by
      rw [List.range_succ, forEach, List.foldl_append]
      exact congrArg Prod.fst (State.writeWord_ram ((State.decode_congr (frame.sys rfl) _).trans (h n (Nat.lt_succ_self n))) _ _)
    rw [last]
    refine ⟨State.setMem_frame rfl frame, fun i hi k hk => ?_⟩
    by_cases hin : i = n
    · subst hin
      exact State.memByte_setMem_in _ _ _ hk
    · rw [State.memByte_setMem_out _ _ _ (by omega)]
      exact words i (by omega) k hk

theorem State.regWriteReason_ram {s : State} {a : Nat} (h : s.decode a = .ram) (v : Word) : s.regWriteReason a v = 0 := by
  rw [State.regWriteReason, h]

theorem State.regWriteReason_undecoded {s : State} {a : Nat} (h : s.decode a = .undecoded) (v : Word) : s.regWriteReason a v = 1 := by
  rw [State.regWriteReason, h]

/-- The value that a REG_WRITE carries for its word `i`. -/
def regWriteVal (b : List Byte) (i : Nat) : Word := BitVec.ofNat 32 (beAt (cmdParams b) (8 + 4 * i) 4)

section Block

variable {s : State} {b : List Byte}

/-- With no reason against a word, all are written. -/
theorem State.doRegWrite_writes (h : ∀ i < beAt (cmdParams b) 4 2, s.regWriteReason (beAt (cmdParams b) 0 4 + 4 * i) (regWriteVal b i) = 0) :
    (s.doRegWrite b).1 = forEach (List.range (beAt (cmdParams b) 4 2))
      (fun s i => (s.writeWord (beAt (cmdParams b) 0 4 + 4 * i) (regWriteVal b i) 0).1) s := by
  have noneFound : (List.range (beAt (cmdParams b) 4 2)).find?
      (fun i => s.regWriteReason (beAt (cmdParams b) 0 4 + 4 * i) (regWriteVal b i) != 0) = none :=
    List.find?_eq_none.2 fun i hi => by simp [h i (List.mem_range.1 hi)]
  unfold State.doRegWrite
  extract_lets p a n val
  unfold regWriteVal at noneFound
  rw [noneFound]
  rfl

/-- With a reason against one word, none is written. -/
theorem State.doRegWrite_refuses {i : Nat} (hi : i < beAt (cmdParams b) 4 2)
    (h : s.regWriteReason (beAt (cmdParams b) 0 4 + 4 * i) (regWriteVal b i) ≠ 0) : Frame (Part.rcd ||| Part.cnt) s (s.doRegWrite b).1 := by
  obtain ⟨k, found⟩ : ∃ k, (List.range (beAt (cmdParams b) 4 2)).find?
      (fun i => s.regWriteReason (beAt (cmdParams b) 0 4 + 4 * i) (regWriteVal b i) != 0) = some k :=
    Option.isSome_iff_exists.1 (List.find?_isSome.2 ⟨i, List.mem_range.2 hi, by simpa using h⟩)
  unfold State.doRegWrite
  extract_lets p a n val
  unfold regWriteVal at found
  rw [found]
  exact State.raise_keeps _ _ _ _

end Block

theorem State.handover_regWrite {b : List Byte} (s : State) (cn : Option Nat) (h : cmdCode b = 0x0501) : (s.handover cn b).1 = (s.doRegWrite b).1 := by
  simp only [State.handover, h]

theorem beAt_lt (b : List Byte) (o n : Nat) : beAt b o n < 256 ^ n := by
  rw [beAt, beNat_eq_leNat]
  exact (leNat_lt _).trans_eq (by rw [List.length_reverse, slice_len])

theorem regWriteVal_toNat (b : List Byte) (i : Nat) : (regWriteVal b i).toNat = beAt (cmdParams b) (8 + 4 * i) 4 := by
  have bound := beAt_lt (cmdParams b) (8 + 4 * i) 4
  unfold regWriteVal
  generalize beAt (cmdParams b) (8 + 4 * i) 4 = v at bound ⊢
  simp
  omega

/-- Settles O21: the block finds the addresses decoded as the accepting state does, and writes every word or none. -/
theorem registerRequestsOfTheNetwork : Obligations.RegisterRequestsOfTheNetwork := by
  intro s y conn b p a n h
  refine ⟨fun ram => ?memory, fun ⟨i, hi, undecoded⟩ => ?undecoded⟩
  case memory =>
    refine completes_accepted rfl h (by decide) fun x t hx ht => ?_
    have ramX (i : Nat) (hi : i < n) : x.decode (a + 4 * i) = .ram := (State.decode_congr (hx.accepted.sys rfl) _).trans (ram i hi).1
    rw [State.handover_regWrite x _ h.code, State.doRegWrite_writes fun i hi => State.regWriteReason_ram (ramX i hi) _] at ht
    obtain ⟨frame, words⟩ := State.writeRun_ram (val := regWriteVal b) 0 ramX
    refine ⟨(ht.frame.regs rfl).trans ((frame.regs rfl).trans (hx.found.regs rfl)), hx.answered_stored ht (by rw [frame.sc rfl]), fun i hi k hk => ?_⟩
    have mem := congrArg (fun m => Table.get 0 m (a + 4 * i + k)) (ht.frame.mem rfl)
    refine mem.trans ((words i hi k hk).trans ?_)
    rw [regWriteVal_toNat]
  case undecoded =>
    refine completes_accepted rfl h (by decide) fun x t hx ht => ?_
    have undecodedX : x.decode (a + 4 * i) = .undecoded := (State.decode_congr (hx.accepted.sys rfl) _).trans undecoded
    rw [State.handover_regWrite x _ h.code] at ht
    have frame := State.doRegWrite_refuses (s := x) hi (by rw [State.regWriteReason_undecoded undecodedX]; decide)
    exact ⟨(ht.frame.regs rfl).trans ((frame.regs rfl).trans (hx.found.regs rfl)), hx.answered_stored ht (by rw [frame.sc rfl]),
      (ht.frame.axes rfl).trans ((frame.axes rfl).trans (hx.accepted.axes rfl)),
      (ht.frame.ilk rfl).trans ((frame.ilk rfl).trans (hx.accepted.ilk rfl))⟩

end Sys2Proof.Machine
end

section
/-!
PROOFS. The transactions of the maintenance port (R683).
-/
namespace Sys2Proof.Machine
open Sys2Proof

theorem State.mntFail_sys (s : State) (result : Nat) :
    (s.mntFail result).sys = { s.sys with mntResult := result, mntFails := satInc 65535 s.sys.mntFails } := by
  unfold State.mntFail
  rw [State.emit_sys, State.raiseRated_sys]

theorem State.mntFail_regs (s : State) (result : Nat) : (s.mntFail result).regs = s.regs := by
  unfold State.mntFail
  rw [State.emit_regs, State.raiseRated_regs]

theorem State.mntFail_mem (s : State) (result : Nat) : (s.mntFail result).mem = s.mem := by
  unfold State.mntFail
  rw [State.emit_mem, State.raiseRated_mem]

/-- The header of a transaction asks for something the port does not do. -/
def mntRefused (b : List Byte) : Prop :=
  1 < byteAt b 0 / 64 ∨ byteAt b 0 % 64 = 0 ∨ 32 < byteAt b 0 % 64 ∨ beAt b 1 4 % 4 ≠ 0 ∨ 0xFFFFFFFC < beAt b 1 4 + 4 * (byteAt b 0 % 64) - 4

/-- The state once the address of a transaction is noted. -/
def State.mntAt (s : State) (b : List Byte) : State := { s with sys := { s.sys with mntAddr := beAt b 1 4 } }

section Transaction

variable {s : State} {b : List Byte} (bad : Option Nat) (hm : s.mayAccess 4 true = true) (hl : 6 ≤ b.length)
include hm hl

theorem State.mntTransaction_badHeader (h : byteAt b 5 ≠ crc8 (b.take 5)) : s.mntTransaction b bad = s.mntFail 1 := by
  unfold State.mntTransaction
  extract_lets count op a
  rw [if_neg (by simp [hm]; omega), if_pos h]

variable (h : byteAt b 5 = crc8 (b.take 5))
include h

theorem State.mntTransaction_refused (hr : mntRefused b) : s.mntTransaction b bad = (s.mntAt b).mntFail 3 := by
  unfold State.mntTransaction
  extract_lets count op a s1
  rw [if_neg (by simp [hm]; omega), if_neg (not_not.2 h)]
  exact if_pos hr

variable (hr : ¬mntRefused b)
include hr

theorem State.mntTransaction_reads (hop : byteAt b 0 / 64 = 0) : s.mntTransaction b bad =
    let r := readWords 4 bad (byteAt b 0 % 64) (beAt b 1 4) (s.mntAt b)
    State.emit { r.1 with sys := { r.1.sys with mntResult := if r.2.2 then 0 else 4 } } (mntAnswer (if r.2.2 then 0 else 4) (r.2.1.flatMap (beBytes 4))) := by
  unfold State.mntTransaction
  extract_lets count op a s1
  rw [if_neg (by simp [hm]; omega), if_neg (not_not.2 h)]
  refine (if_neg hr).trans ?_
  exact if_pos hop

variable (hop : byteAt b 0 / 64 = 1) (hlen : 7 + 4 * (byteAt b 0 % 64) ≤ b.length)
include hop hlen

theorem State.mntTransaction_badData (hd : byteAt b (6 + 4 * (byteAt b 0 % 64)) ≠ crc8 (b.take (6 + 4 * (byteAt b 0 % 64)))) :
    s.mntTransaction b bad = (s.mntAt b).mntFail 2 := by
  unfold State.mntTransaction
  extract_lets count op a s1
  rw [if_neg (by simp [hm]; omega), if_neg (not_not.2 h)]
  refine (if_neg hr).trans ?_
  rw [if_neg (by omega), if_neg (by omega)]
  exact if_pos hd

theorem State.mntTransaction_writes (hd : byteAt b (6 + 4 * (byteAt b 0 % 64)) = crc8 (b.take (6 + 4 * (byteAt b 0 % 64)))) :
    s.mntTransaction b bad =
      let r := writeWords bad ((List.range (byteAt b 0 % 64)).map (fun k => beAt b (6 + 4 * k) 4)) (beAt b 1 4) (s.mntAt b)
      State.emit { r.1 with sys := { r.1.sys with mntResult := if r.2 then 0 else 4 } } (mntAnswer (if r.2 then 0 else 4) []) := by
  unfold State.mntTransaction
  extract_lets count op a s1
  rw [if_neg (by simp [hm]; omega), if_neg (not_not.2 h)]
  refine (if_neg hr).trans ?_
  rw [if_neg (by omega), if_neg (by omega)]
  exact if_neg (not_not.2 hd)

end Transaction

/-- Settles O11: each check in its order, then the words. -/
theorem maintenanceTransactionChecksInOrder : Obligations.MaintenanceTransactionChecksInOrder := by
  intro s b ecc hm hl
  let bad := ecc.map (fun w => w.toNat / 8 * 8)
  refine ⟨fun h => ?header, fun h hr => ?refused, fun c a h h0 h1 h32 ha h4 htop hlen => ⟨fun hd => ?badData, fun hd => ?writes⟩,
    fun c a h h0 h1 h32 ha h4 htop => ?reads⟩
  case header =>
    refine completes_fresh (f := fun s => s.mntTransaction b bad) rfl ?_
    rw [State.mntTransaction_badHeader (s := s.fresh) bad hm hl h, State.mntFail_sys, State.mntFail_regs, State.mntFail_mem]
    exact ⟨rfl, rfl, rfl, rfl, rfl⟩
  case refused =>
    refine completes_fresh (f := fun s => s.mntTransaction b bad) rfl ?_
    rw [State.mntTransaction_refused (s := s.fresh) bad hm hl h hr, State.mntFail_sys, State.mntFail_regs, State.mntFail_mem]
    exact ⟨rfl, rfl, rfl, rfl⟩
  case' badData | writes =>
    have count : byteAt b 0 % 64 = c := by omega
    have op : byteAt b 0 / 64 = 1 := by omega
    have asked : ¬mntRefused b := by
      unfold mntRefused
      omega
    subst ha count
  case' reads =>
    have count : byteAt b 0 % 64 = c := by omega
    have op : byteAt b 0 / 64 = 0 := by omega
    have asked : ¬mntRefused b := by
      unfold mntRefused
      omega
    subst ha count
  case badData =>
    refine completes_fresh (f := fun s => s.mntTransaction b bad) rfl ?_
    rw [State.mntTransaction_badData (s := s.fresh) bad hm hl h asked op hlen hd, State.mntFail_sys, State.mntFail_regs, State.mntFail_mem]
    exact ⟨rfl, rfl, rfl⟩
  case writes =>
    refine completes_fresh (f := fun s => s.mntTransaction b bad) rfl ?_
    rw [State.mntTransaction_writes (s := s.fresh) bad hm hl h asked op hlen hd]
    exact ⟨rfl, rfl, rfl⟩
  case reads =>
    refine completes_fresh (f := fun s => s.mntTransaction b bad) rfl ?_
    rw [State.mntTransaction_reads (s := s.fresh) bad hm hl h asked op]
    exact ⟨rfl, rfl, rfl⟩

end Sys2Proof.Machine
end

section
/-!
PROOFS. Service requests: what receiving one leaves as it was, and the reply (R562, R590, R690).
-/
namespace Sys2Proof.Machine
open Sys2Proof

/-! ### Counting leaves the sweep and the samples -/

/-- Of the counter block, only the counters themselves differ. -/
def State.OnlyCounts (s t : State) : Prop := ∃ v o, t.cnt = { s.cnt with value := v, ovf := o }

theorem State.OnlyCounts.of_eq {s t : State} (h : t.cnt = s.cnt) : s.OnlyCounts t := ⟨_, _, h⟩

theorem State.OnlyCounts.trans {s t u : State} (h : s.OnlyCounts t) (k : t.OnlyCounts u) : s.OnlyCounts u := by
  obtain ⟨_, _, h⟩ := h
  obtain ⟨v, o, k⟩ := k
  exact ⟨v, o, by rw [k, h]⟩

theorem State.count_onlyCounts (s : State) (i n : Nat) : s.OnlyCounts (s.count i n) := ⟨_, _, rfl⟩

theorem State.raiseBody_onlyCounts (s : State) (code : Nat) (body : List Byte) : s.OnlyCounts (s.raiseBody code body) := by
  unfold State.raiseBody
  dsimp only
  split
  · exact State.count_onlyCounts _ _ _
  · exact .of_eq rfl

theorem State.raise_onlyCounts (s : State) (code inst : Nat) (vals : List Byte) : s.OnlyCounts (s.raise code inst vals) :=
  s.raiseBody_onlyCounts _ _

theorem State.raiseRated_onlyCounts (s : State) (code inst cause : Nat) (vals : List Byte) : s.OnlyCounts (s.raiseRated code inst cause vals) := by
  unfold State.raiseRated
  dsimp only
  split
  · exact State.raiseBody_onlyCounts _ _ _
  · split
    · exact .of_eq rfl
    · exact State.raiseBody_onlyCounts _ _ _

theorem State.heard_cnt (s : State) (ip : Nat) : (s.heard ip).cnt = s.cnt := by
  unfold State.heard
  split <;> rfl

theorem State.trdpRx_onlyCounts (s : State) (t : Telegram) : s.OnlyCounts (s.trdpRx t).1 := by
  have one := s.count_onlyCounts 224 1
  unfold State.trdpRx State.trdpDiscard State.trdpOversize
  dsimp only
  split
  · exact .of_eq rfl
  · split
    · exact one.trans (State.count_onlyCounts _ _ _)
    · split
      · exact one.trans ((State.count_onlyCounts _ _ _).trans (State.raise_onlyCounts _ _ _ _))
      · have heard := one.trans (.of_eq (State.heard_cnt _ t.src))
        split
        · exact heard.trans (State.count_onlyCounts _ _ _)
        · exact heard

theorem State.admitPartner_onlyCounts (s : State) (ip : Nat) : s.OnlyCounts (s.admitPartner ip).1 := by
  unfold State.admitPartner
  split
  · exact .of_eq rfl
  · split
    · obtain ⟨_, _, h⟩ := State.raise_onlyCounts _ _ _ _
      exact ⟨_, _, h⟩
    · obtain ⟨_, _, h⟩ := State.raiseRated_onlyCounts _ _ _ _ _
      exact ⟨_, _, h⟩

theorem State.serviceRx_onlyCounts (s : State) (t : Telegram) (req : Nat) : s.OnlyCounts (s.serviceRx t req).1 := by
  have rx := s.trdpRx_onlyCounts t
  unfold State.serviceRx
  dsimp only
  split
  · split
    · exact rx
    · have admitted := rx.trans ((s.trdpRx t).1.admitPartner_onlyCounts t.src)
      split <;> exact admitted
  · exact rx

/-! ### The reply -/

theorem State.sendTelegram_outs (s : State) (off ip : Nat) (data : List Byte) :
    ∃ etb op, (s.sendTelegram off ip data).outs = s.outs ++ [.telegram off ip etb op data] := by
  unfold State.sendTelegram
  split
  · exact ⟨_, _, rfl⟩
  · exact ⟨_, _, rfl⟩

theorem State.serviceReply_outs (s : State) (ip req result : Nat) (body : List Byte) :
    ∃ etb op, (s.serviceReply ip req result body).outs = s.outs ++ [.telegram 41 ip etb op (beBytes 2 req ++ beBytes 2 result ++ body)] :=
  State.sendTelegram_outs s 41 ip _

/-- What receiving a request leaves as it was. -/
theorem State.serviceRx_keeps (s : State) (t : Telegram) (req : Nat) :
    Frame (Part.rcd ||| Part.cnt ||| Part.trdp) s (s.serviceRx t req).1 := State.serviceRx_frame rfl (Frame.refl _ s)

theorem State.serviceRx_outs (s : State) (t : Telegram) (req : Nat) : (s.fresh.serviceRx t req).1.outs = [] :=
  (s.fresh.serviceRx_keeps t req).outs rfl

/-- A command that ends in a reply, from a state with no output before it, sends that reply alone. -/
theorem completes_reply {c : Instr} {s x : State} {f : State → State} {ip req result : Nat} {body : List Byte} (hc : exec c s = run s f)
    (hf : f s.fresh = x.serviceReply ip req result body) (hx : x.outs = []) :
    Completes c s (fun u => ∃ etb op, u.outs = [.telegram 41 ip etb op (beBytes 2 req ++ beBytes 2 result ++ body)]) := by
  refine completes_fresh hc ?_
  rw [hf]
  obtain ⟨etb, op, sent⟩ := x.serviceReply_outs ip req result body
  exact ⟨etb, op, by rw [sent, hx, List.nil_append]⟩

end Sys2Proof.Machine
end

section
/-!
PROOFS. Counters and samples: direct access, sweeps, the sampling buffer, and reads over the network (R583 to R592, R690).
-/
namespace Sys2Proof.Machine
open Sys2Proof

/-! ### Direct access -/

theorem State.count_at (s : State) (k n : Nat) : Table.get 0 (s.count k n).cnt.value k = (Table.get 0 s.cnt.value k + n) % 2 ^ 48 ∧
    Table.get false (s.count k n).cnt.ovf k = (Table.get false s.cnt.ovf k || decide (2 ^ 48 ≤ Table.get 0 s.cnt.value k + n)) := by
  unfold State.count
  dsimp only
  generalize 2 ^ 48 = m
  refine ⟨Table.get_set_self _ _ _ _, ?_⟩
  by_cases full : m ≤ Table.get 0 s.cnt.value k + n <;> simp [full]

theorem State.count_other (s : State) {k j : Nat} (n : Nat) (h : j ≠ k) : Table.get 0 (s.count k n).cnt.value j = Table.get 0 s.cnt.value j ∧
    Table.get false (s.count k n).cnt.ovf j = Table.get false s.cnt.ovf j := by
  unfold State.count
  dsimp only
  generalize 2 ^ 48 = m
  refine ⟨Table.get_set_ne _ _ _ h, ?_⟩
  split
  · exact Table.get_set_ne _ _ _ h
  · rfl

/-- Raising an event may set the overflow of CNT272 alone. -/
theorem State.raise_ovf (s : State) (code inst : Nat) (vals : List Byte) {k : Nat} (hk : k ≠ 272) :
    Table.get false (s.raise code inst vals).cnt.ovf k = Table.get false s.cnt.ovf k := by
  unfold State.raise State.raiseBody
  dsimp only
  split
  · exact (State.count_other _ 1 hk).2
  · rfl

theorem State.cntClearAll_clears (s : State) {k : Nat} (hk : k ≠ 272) :
    Table.get 0 s.cntClearAll.cnt.value k = 0 ∧ Table.get false s.cntClearAll.cnt.ovf k = false :=
  ⟨(State.raiseBody_counter _ _ _ hk).trans rfl, (State.raise_ovf _ _ _ _ hk).trans rfl⟩

/-- A word read of a register that answers the low half of a number. -/
theorem natWord_toNat (n : Nat) : (natWord n).toNat = n % 2 ^ 32 := BitVec.toNat_ofNat _ _

/-- A command that reads a register completes with the read's effect and its answer. -/
theorem completes_getReg {c : Instr} {s : State} {m i : Nat} {r : RegId} {d : Option Nat} {post : State → Prop}
    (hc : exec c s = run s fun s => s.getReg m r i) (hat : placedAt r i d = true) (hd : s.domainOn d = true) (hm : s.mayAccess m true = true)
    (h : post ((s.fresh.readEffect r i).emit (.readWord (regAddr r i 0) (s.fresh.readVal r i 0).toNat))) : Completes c s post := by
  refine completes_fresh hc ?_
  rw [State.getReg_eq s.fresh m r i d hat hd hm]
  exact h

/-! ### Sweeps -/

/-- A table filled by running over `n` keys holds each key's entry. -/
theorem foldl_set_get {α : Type} [DecidableEq α] (d : α) (f : Nat → α) (n k : Nat) (t : Table α) (hk : k < n) :
    Table.get d ((List.range n).foldl (fun t i => Table.set d t i (f i)) t) k = f k := by
  induction n with
  | zero => omega
  | succ n ih =>
    rw [List.range_succ, List.foldl_append]
    by_cases h : k = n
    · subst h
      exact Table.get_set_self _ _ _ _
    · exact (Table.get_set_ne _ _ _ h).trans (ih (by omega))

theorem State.sweep_snap (s : State) {k : Nat} (hk : k < 320) :
    Table.get {} s.sweep.cnt.snap k = ⟨Table.get 0 s.cnt.value k, Table.get false s.cnt.ovf k, k⟩ := by
  have filled := foldl_set_get ({} : Snap) (fun i => ⟨Table.get 0 s.cnt.value i, Table.get false s.cnt.ovf i, i⟩) 320 k [] hk
  unfold State.sweep
  generalize 320 = n at filled ⊢
  exact filled

/-- What the last sweep of the counters `c` left. -/
def State.Swept (c : Counters) (t : State) : Prop :=
  t.cnt.value = c.value ∧ t.cnt.ovf = c.ovf ∧ t.cnt.sweepNo = (c.sweepNo + 1) % 2 ^ 32 ∧ t.cnt.sweepTt = t.tt ∧
    ∀ k < 320, Table.get {} t.cnt.snap k = ⟨Table.get 0 c.value k, Table.get false c.ovf k, k⟩

theorem State.sweep_swept (s : State) : State.Swept s.cnt s.sweep := ⟨rfl, rfl, rfl, rfl, fun _ hk => s.sweep_snap hk⟩

theorem State.Swept.noteLast {c : Counters} {t : State} (h : State.Swept c t) (last : Ticks) :
    State.Swept c { t with cnt := { t.cnt with lastSweep := last } } := h

/-- A sweep at the instant `due`. -/
def State.sweptAt (s : State) (due : Ticks) : State :=
  let s1 := (s.passTo due).sweep
  { s1 with cnt := { s1.cnt with lastSweep := s1.lt } }

theorem State.sweptAt_swept (s : State) (due : Ticks) : State.Swept s.cnt (s.sweptAt due) ∧ due ≤ (s.sweptAt due).time.lt := by
  have swept := (s.passTo due).sweep_swept
  rw [State.passTo_cnt s due] at swept
  exact ⟨swept.noteLast _, s.le_passTo_lt due⟩

theorem State.sweepPeriodic_on {s : State} (hp : s.rf .cntCfg 0 13 0 ≠ 0) (hd : s.domain 0 = true) :
    s.sweepPeriodic = s.sweptAt (s.cnt.lastSweep + ms (s.rf .cntCfg 0 13 0)) := by
  unfold State.sweepPeriodic
  exact when_of (by simp [hp, hd]) _ _

theorem State.sweepPeriodic_off {s : State} (hp : s.rf .cntCfg 0 13 0 = 0) : s.sweepPeriodic = s := by
  unfold State.sweepPeriodic
  exact when_not (by simp [hp]) _ _

/-! ### The sampling buffer -/

theorem State.pushSample_room {s : State} (h : s.cnt.samples.length < 1023) (e : List Byte) :
    (s.pushSample e).cnt = { s.cnt with samples := s.cnt.samples ++ [e] } := by
  have last : ¬s.cnt.samples.length = 1023 := by omega
  unfold State.pushSample
  dsimp only
  rw [if_pos (by omega), if_neg (by simp [last])]

theorem State.pushSample_full {s : State} (h : s.cnt.samples.length = 1024) (e : List Byte) :
    (s.pushSample e).cnt = if s.rb .cntSmpCfg 0 18 then s.cnt else { s.cnt with samples := s.cnt.samples.drop 1 ++ [e] } := by
  unfold State.pushSample
  dsimp only
  rw [if_neg (by omega)]
  split <;> rfl

/-! ### Requests over the network -/

section Requests

variable {s r : State} {t : Telegram} {b : List Byte} {req open_ most top : Nat} {reply : State → Nat → Nat → List Byte}
  (h : s.serviceRx t req = (r, some b))
include h

theorem State.cntRequest_refused (hs : r.hasSession t.src = false) (ho : r.rb .cntCfg 0 open_ = false) :
    s.cntRequest t req open_ most top reply = (r.raiseRated 0xF002 noInst 0).serviceReply t.src req 0xF002 [] := by
  unfold State.cntRequest
  rw [h]
  exact if_pos (by simp [hs, ho])

variable (hs : r.hasSession t.src = true ∨ r.rb .cntCfg 0 open_ = true)
include hs

theorem State.cntRequest_oversize (hb : b.length ≠ 4 ∨ beAt b 2 2 = 0 ∨ most < beAt b 2 2 ∨ top < beAt b 0 2 + beAt b 2 2) :
    ∃ x, s.cntRequest t req open_ most top reply = State.serviceReply x t.src req 0xF003 [] ∧ x.outs = r.outs := by
  have served : ¬((!r.hasSession t.src) = true ∧ (!r.rb .cntCfg 0 open_) = true) := by
    rcases hs with hs | hs <;> simp [hs]
  unfold State.cntRequest
  rw [h]
  dsimp only
  rw [if_neg served]
  by_cases h4 : b.length = 4
  · rw [if_neg (not_not.2 h4)]
    by_cases hn : beAt b 2 2 = 0 ∨ most < beAt b 2 2
    · rw [if_pos hn]
      exact ⟨_, rfl, State.raise_outs _ _ _ _⟩
    · rw [if_neg hn, if_pos (by omega)]
      exact ⟨_, rfl, State.raise_outs _ _ _ _⟩
  · rw [if_pos h4]
    exact ⟨_, rfl, State.raise_outs _ _ _ _⟩

theorem State.cntRequest_served (h4 : b.length = 4) (h1 : 1 ≤ beAt b 2 2) (hm : beAt b 2 2 ≤ most) (ht : beAt b 0 2 + beAt b 2 2 ≤ top) :
    s.cntRequest t req open_ most top reply = r.serviceReply t.src req 0 (reply r (beAt b 0 2) (beAt b 2 2)) := by
  have served : ¬((!r.hasSession t.src) = true ∧ (!r.rb .cntCfg 0 open_) = true) := by
    rcases hs with hs | hs <;> simp [hs]
  unfold State.cntRequest
  rw [h]
  dsimp only
  rw [if_neg served, if_neg (by omega), if_neg (by omega), if_neg (by omega)]

end Requests

/-- The body of a reply to COUNTERS. -/
def countersReply (s : State) (start n : Nat) : List Byte :=
  beBytes 8 s.cnt.sweepTt ++ beBytes 4 s.cnt.sweepNo ++ [0, 0, 0, 0] ++ (List.range n).flatMap (fun i => snapEntry (Table.get {} s.cnt.snap (start + i)))

/-- The body of a reply to SAMPLES. -/
def samplesReply (s : State) (start n : Nat) : List Byte :=
  let l := (s.cnt.samples.drop start).take n
  beBytes 2 l.length ++ [0, 0] ++ l.flatten

theorem countersReply_congr {r : State} {c : Counters} {v : Table Nat} {o : Table Bool} (h : r.cnt = { c with value := v, ovf := o }) (start n : Nat) :
    countersReply r start n = beBytes 8 c.sweepTt ++ beBytes 4 c.sweepNo ++ [0, 0, 0, 0] ++
      (List.range n).flatMap (fun k => let x := Table.get {} c.snap (start + k); beBytes 6 x.value ++ beBytes 1 (b2n x.ovf) ++ beBytes 1 x.offset) := by
  unfold countersReply
  rw [h]
  rfl

theorem samplesReply_congr {r : State} {c : Counters} {v : Table Nat} {o : Table Bool} (h : r.cnt = { c with value := v, ovf := o }) (start n : Nat) :
    samplesReply r start n = beBytes 2 ((c.samples.drop start).take n).length ++ [0, 0] ++ ((c.samples.drop start).take n).flatten := by
  unfold samplesReply
  rw [h]

section RegRead

variable {s r : State} {t : Telegram} {b : List Byte} (h : s.serviceRx t 0x0401 = (r, some b))
include h

theorem State.regRead_refused (hs : r.hasSession t.src = false) :
    s.regRead t = (r.raiseRated 0x0016 noInst 0).serviceReply t.src 0x0401 0x0016 [] := by
  unfold State.regRead
  rw [h]
  exact if_pos (by simp [hs])

variable (hs : r.hasSession t.src = true)
include hs

theorem State.regRead_oversize (hb : b.length ≠ 8 ∨ beAt b 4 2 = 0 ∨ 64 < beAt b 4 2 ∨ beAt b 0 4 % 4 ≠ 0 ∨
    0xFFFFFFFC < beAt b 0 4 + 4 * beAt b 4 2 - 4) :
    ∃ x, s.regRead t = State.serviceReply x t.src 0x0401 0x0017 [] ∧ x.outs = r.outs := by
  unfold State.regRead
  rw [h]
  dsimp only
  rw [if_neg (by simp [hs])]
  by_cases h8 : b.length = 8
  · rw [if_neg (not_not.2 h8)]
    by_cases hn : beAt b 4 2 = 0 ∨ 64 < beAt b 4 2
    · rw [if_pos hn]
      exact ⟨_, rfl, State.raise_outs _ _ _ _⟩
    · rw [if_neg hn, if_pos (by omega)]
      exact ⟨_, rfl, State.raise_outs _ _ _ _⟩
  · rw [if_pos h8]
    exact ⟨_, rfl, State.raise_outs _ _ _ _⟩

theorem State.regRead_served (h8 : b.length = 8) (h1 : 1 ≤ beAt b 4 2) (h64 : beAt b 4 2 ≤ 64) (ha : beAt b 0 4 % 4 = 0)
    (ht : beAt b 0 4 + 4 * beAt b 4 2 - 4 ≤ 0xFFFFFFFC) : s.regRead t =
      (readWords 0 none (beAt b 4 2) (beAt b 0 4) r).1.serviceReply t.src 0x0401 0
        ((readWords 0 none (beAt b 4 2) (beAt b 0 4) r).2.1.flatMap (beBytes 4)) := by
  unfold State.regRead
  rw [h]
  dsimp only
  rw [if_neg (by simp [hs]), if_neg (by omega), if_neg (by omega), if_neg (by omega)]

end RegRead

/-! ### The commands -/

/-- Every position of the buffer may be written to CNT_SMP_POS. -/
theorem writeOk_cntSmpPos {w : Word} (h : w.toNat < 1024) : writeOk .cntSmpPos 0 0 w = true ∧ fld w 9 0 = w.toNat := by
  have low : w.toNat &&& 1023 = w.toNat := (Nat.and_two_pow_sub_one_eq_mod _ 10).trans (Nat.mod_eq_of_lt h)
  have mask : 2 ^ 32 - 1 - fieldMask (desc .cntSmpPos) = 0xFFFFFC00 := by decide +kernel
  have high : w.toNat &&& 0xFFFFFC00 = 0 := by
    rw [← low, Nat.and_assoc]
    exact Nat.and_zero _
  have field : fld w 9 0 = w.toNat := Nat.mod_eq_of_lt h
  refine ⟨?_, field⟩
  have range : (desc .cntSmpPos).fields.all (fieldOk w.toNat) = true := by
    have value : fieldOf w.toNat 9 0 = w.toNat := field
    have fields : (desc .cntSmpPos).fields = [⟨9, 0, [(0, 0x3FF)]⟩] := rfl
    rw [fields]
    simp [fieldOk, value]
    omega
  unfold writeOk
  rw [range, mask, high]
  rfl

/-- Settles O56: each register access by its effect and its answer, each request by its first check that fails. A sweep is one command
(log entry 50), and SWEEP_PER runs from the last of its kind (log entry 99). -/
theorem countersAndSamplesAreRead : Obligations.CountersAndSamplesAreRead := by
  intro s c i v o swept
  refine ⟨fun k n => ⟨(s.count_at k n).1, (s.count_at k n).2, fun j hj => s.count_other n hj⟩,
    fun m hm hd => ⟨?valRead, fun k => ?snapRead, ?sweepTtRead⟩, fun m hm hd => ⟨?sweep, ?write, ?clearAll, ?smpClear, fun w hw => ?smpPos⟩,
    fun hp hd => ?periodic, fun hp => ?notPeriodic, fun e => ⟨fun h => State.pushSample_room h e, fun h hf => ?drops, fun h hf => ?frozen⟩,
    fun t b req hrx => ?requests⟩
  case valRead =>
    refine completes_getReg rfl cntValLo_at hd hm ?_
    refine ⟨rfl, rfl, rfl, Table.get_set_self false c.ovf i false, fun k hk => Table.get_set_ne false c.ovf false hk, ?_⟩
    exact congrArg (fun x => [Out.readWord (regAddr .cntValLo 0 0) x]) (natWord_toNat (v s i))
  case snapRead =>
    refine completes_getReg rfl (cntSnapLo_at k) hd hm ⟨rfl, ?_⟩
    exact congrArg (fun x => [Out.readWord (regAddr .cntSnapLo k 0) x]) (natWord_toNat _)
  case sweepTtRead =>
    refine completes_getReg rfl cntSweepTtLo_at hd hm ⟨rfl, ?_⟩
    exact congrArg (fun x => [Out.readWord (regAddr .cntSweepTtLo 0 0) x]) (natWord_toNat _)
  case sweep => exact completes_putReg rfl cntCmd_at hm hd (by decide) (by decide) rfl s.fresh.sweep_swept
  case write =>
    refine completes_putReg rfl cntCmd_at hm hd (by decide) (by decide) rfl ⟨Table.get_set_self 0 c.value i _, rfl, fun k hk => ?_⟩
    exact Table.get_set_ne 0 c.value _ hk
  case clearAll =>
    exact completes_putReg rfl cntCmd_at hm hd (by decide) (by decide) rfl fun k hk => s.fresh.cntClearAll_clears hk
  case smpClear => exact completes_putReg rfl cntCmd_at hm hd (by decide) (by decide) rfl rfl
  case smpPos =>
    obtain ⟨ok, field⟩ := writeOk_cntSmpPos hw
    refine completes_fresh (f := fun s => s.putReg m .cntSmpPos 0 w) rfl ?_
    rw [State.putReg_effect s.fresh m .cntSmpPos 0 w _ cntSmpPos_at hd hm (by decide) (fun rwl => by cases rwl) (by decide) ok, ← field]
    rfl
  case periodic =>
    refine completes_fresh rfl ?_
    rw [State.sweepPeriodic_on (s := s.fresh) hp hd]
    exact s.fresh.sweptAt_swept _
  case notPeriodic =>
    refine completes_fresh rfl ?_
    rw [State.sweepPeriodic_off (s := s.fresh) hp]
    rfl
  case drops => rw [State.pushSample_full h, hf]; rfl
  case frozen => rw [State.pushSample_full h, hf]; rfl
  case requests =>
    intro r replies start n
    have rx : s.fresh.serviceRx t req = (r, some b) := Prod.ext rfl hrx
    have keeps := s.fresh.serviceRx_keeps t req
    have open_ (k : Nat) : r.rb .cntCfg 0 k = s.rb .cntCfg 0 k := State.rb_congr (keeps.regs rfl) _ _ _
    have silent : r.outs = [] := s.serviceRx_outs t req
    obtain ⟨values, ovfs, rcnt⟩ := s.fresh.serviceRx_onlyCounts t req
    refine ⟨fun hreq => ?counters, fun hreq => ?samples, fun hreq => ?regRead⟩
    case counters =>
      subst hreq
      have runs : exec (.counters t) s = run s (fun s => s.cntRequest t 0x0201 14 160 320 countersReply) := rfl
      refine ⟨fun hs ho => ?_, fun hs => ⟨fun hb => ?_, fun h4 h1 hn ht => ?_⟩⟩
      · exact completes_reply runs (State.cntRequest_refused rx hs ((open_ 14).trans ho)) ((State.raiseRated_outs _ _ _ _ _).trans silent)
      · obtain ⟨x, answer, outs⟩ := State.cntRequest_oversize (reply := countersReply) rx (hs.imp_right (open_ 14).trans) hb
        exact completes_reply runs answer (outs.trans silent)
      · have answer := State.cntRequest_served (reply := countersReply) rx (hs.imp_right (open_ 14).trans) h4 h1 hn ht
        have body : countersReply r start n = _ := countersReply_congr rcnt start n
        rw [body] at answer
        exact completes_reply runs answer silent
    case samples =>
      subst hreq
      have runs : exec (.samples t) s = run s (fun s => s.cntRequest t 0x0202 15 40 1024 samplesReply) := rfl
      refine ⟨fun hs ho => ?_, fun hs => ⟨fun hb => ?_, fun h4 h1 hn ht => ?_⟩⟩
      · exact completes_reply runs (State.cntRequest_refused rx hs ((open_ 15).trans ho)) ((State.raiseRated_outs _ _ _ _ _).trans silent)
      · obtain ⟨x, answer, outs⟩ := State.cntRequest_oversize (reply := samplesReply) rx (hs.imp_right (open_ 15).trans) hb
        exact completes_reply runs answer (outs.trans silent)
      · have answer := State.cntRequest_served (reply := samplesReply) rx (hs.imp_right (open_ 15).trans) h4 h1 hn ht
        have body : samplesReply r start n = _ := samplesReply_congr rcnt start n
        rw [body] at answer
        exact completes_reply runs answer silent
    case regRead =>
      subst hreq
      have runs : exec (.regRead t) s = run s (fun s => s.regRead t) := rfl
      refine ⟨fun hs => ?_, fun hs => ⟨fun hb => ?_, fun h8 h1 h64 ha ht => ?_⟩⟩
      · exact completes_reply runs (State.regRead_refused rx hs) ((State.raiseRated_outs _ _ _ _ _).trans silent)
      · obtain ⟨x, answer, outs⟩ := State.regRead_oversize rx hs hb
        exact completes_reply runs answer (outs.trans silent)
      · refine completes_fresh runs ?_
        rw [State.regRead_served rx hs h8 h1 h64 ha ht]
        generalize readWords 0 none (beAt b 4 2) (beAt b 0 4) r = q
        obtain ⟨etb, op, sent⟩ := q.1.serviceReply_outs t.src 0x0401 0 (q.2.1.flatMap (beBytes 4))
        exact ⟨etb, op, by rw [sent]; exact List.mem_append_right _ (List.mem_singleton_self _)⟩

end Sys2Proof.Machine
end

section
/-!
PROOFS. What receiving a telegram does, and what a mirror item leaves as it was (R472, R477, R483, R524, R525).
-/
namespace Sys2Proof.Machine
open Sys2Proof

/-! ### Receiving -/

theorem State.heard_fresh (s : State) (ip : Nat) : s.fresh.heard ip = (s.heard ip).fresh := by
  have partner : s.fresh.partnerOf ip = s.partnerOf ip := rfl
  unfold State.heard
  rw [partner]
  cases s.partnerOf ip <;> rfl

/-- Which telegrams are accepted does not depend on the outputs before. -/
theorem State.trdpRx_fresh (s : State) (t : Telegram) : (s.fresh.trdpRx t).2 = (s.trdpRx t).2 := by
  have on : s.fresh.trdpOn = s.trdpOn := rfl
  have holds : (s.fresh.count 224).holdsIp t.dst = (s.count 224).holdsIp t.dst := rfl
  have heard : (s.fresh.count 224).heard t.src = ((s.count 224).heard t.src).fresh := (s.count 224).heard_fresh t.src
  have id : ((s.count 224).heard t.src).fresh.comId 0 = ((s.count 224).heard t.src).comId 0 := rfl
  have topo : ((s.count 224).heard t.src).fresh.topoOk t = ((s.count 224).heard t.src).topoOk t := rfl
  have standby (off : Nat) : ((s.count 224).heard t.src).fresh.standbyTakes t off = ((s.count 224).heard t.src).standbyTakes t off := rfl
  unfold State.trdpRx
  dsimp only
  rw [on, holds, heard]
  simp only [id, topo, standby, apply_ite Prod.snd]

/-- The state after an accepted telegram of an address. -/
def State.received (s : State) (ip : Nat) : State := (s.count 224).heard ip

/-- An accepted telegram is counted and its source's time noted, and nothing else. -/
theorem State.trdpRx_accepted {s : State} {t : Telegram} {x : Nat × List Byte} (h : (s.trdpRx t).2 = some x) :
    s.trdpRx t = (s.received t.src, some x) := by
  unfold State.trdpRx at h ⊢
  dsimp only at h ⊢
  split at h
  · cases h
  · rename_i on
    split at h
    · cases h
    · rename_i addressed
      split at h
      · cases h
      · rename_i whole
        split at h
        · cases h
        · rename_i known
          rw [if_neg on, if_neg addressed, if_neg whole, if_neg known, ← h]
          rfl

theorem State.received_frame (s : State) (ip : Nat) : Frame (Part.cnt ||| Part.trdp) s (s.received ip) :=
  State.heard_frame rfl (State.count_frame rfl (Frame.refl _ s))

/-- Of the TRDP engine, hearing a partner changes when it was heard. -/
theorem State.received_trdp (s : State) (ip : Nat) : ∃ p, (s.received ip).trdp = { s.trdp with partners := p } := by
  unfold State.received State.heard
  split
  · exact ⟨_, rfl⟩
  · exact ⟨_, rfl⟩

theorem State.received_partnerIp (s : State) (ip k : Nat) : (s.received ip).partnerIp k = s.partnerIp k := by
  have entry : (Table.get {} (s.received ip).trdp.partners k : Partner).ip = (Table.get {} s.trdp.partners k : Partner).ip := by
    unfold State.received State.heard
    split
    · rename_i j _
      dsimp only
      rw [Table.modify, Table.get_set]
      split
      · rename_i hkj
        rw [hkj]
        rfl
      · rfl
    · rfl
  have reg : (s.received ip).reg .trdpPartnerIp k = s.reg .trdpPartnerIp k := by
    rw [State.reg, State.reg, (s.received_frame ip).regs rfl]
  rw [State.partnerIp, State.partnerIp, reg, entry]

theorem State.partnerOf_congr {s t : State} (h : ∀ k, t.partnerIp k = s.partnerIp k) (ip : Nat) : t.partnerOf ip = s.partnerOf ip := by
  unfold State.partnerOf
  simp only [h]

/-- A source that is in the table, or finds room in it, is admitted, and the streams are left. -/
theorem State.admitPartner_admits {s : State} {ip : Nat} (h : (s.partnerOf ip).isSome = true ∨ ∃ k < 128, s.partnerIp k = 0) :
    (s.admitPartner ip).2 = true ∧ (s.admitPartner ip).1.trdp.streams = s.trdp.streams := by
  unfold State.admitPartner
  by_cases known : (s.partnerOf ip).isSome = true
  · rw [if_pos known]
    exact ⟨rfl, rfl⟩
  · obtain ⟨k, hk, free⟩ := h.resolve_left known
    obtain ⟨j, found⟩ : ∃ j, (List.range 128).find? (fun k => s.partnerIp k == 0) = some j :=
      Option.isSome_iff_exists.1 (List.find?_isSome.2 ⟨k, List.mem_range.2 hk, by simp [free]⟩)
    rw [if_neg known, found]
    refine ⟨rfl, ?_⟩
    dsimp only
    rw [State.raise_trdp]

/-! ### Mirror items -/

theorem State.mirror_keeps (s : State) (kind : Nat) (body : List Byte) : Frame (Part.twin ||| Part.outs) s (s.mirror kind body) :=
  State.mirror_frame rfl (Frame.refl _ s)

theorem State.mirror_trdp (s : State) (kind : Nat) (body : List Byte) : (s.mirror kind body).trdp = s.trdp := (s.mirror_keeps kind body).trdp rfl

theorem State.mirror_time (s : State) (kind : Nat) (body : List Byte) : (s.mirror kind body).time = s.time := (s.mirror_keeps kind body).time rfl

/-- A mirror item is sent after what was sent before it. -/
theorem State.mem_outs_mirror {s : State} {o : Out} (h : o ∈ s.outs) (kind : Nat) (body : List Byte) : o ∈ (s.mirror kind body).outs := by
  unfold State.mirror
  dsimp only
  split
  · split
    · exact h
    · exact List.mem_append_left _ h
  · exact h

theorem State.mirror_alone {s : State} (h : s.mirrors = false) (kind : Nat) (body : List Byte) : s.mirror kind body = s := by
  unfold State.mirror
  rw [h]
  rfl

theorem State.mirrorHold_alone {s : State} (h : s.mirrors = false) (kind : Nat) (body : List Byte) (e : HeldEffect) (act : State → State) :
    s.mirrorHold kind body e act = act s := by
  unfold State.mirrorHold
  rw [h]
  rfl

theorem State.sendTelegram_trdp (s : State) (off ip : Nat) (data : List Byte) : (s.sendTelegram off ip data).trdp = s.trdp :=
  (State.sendTelegram_frame (w := Part.cnt ||| Part.outs) rfl (Frame.refl _ s)).trdp rfl

theorem State.sendTelegram_time (s : State) (off ip : Nat) (data : List Byte) : (s.sendTelegram off ip data).time = s.time :=
  (State.sendTelegram_frame (w := Part.cnt ||| Part.outs) rfl (Frame.refl _ s)).time rfl

theorem State.sendTelegram_sends (s : State) (off ip : Nat) (data : List Byte) :
    ∃ etb op, Out.telegram off ip etb op data ∈ (s.sendTelegram off ip data).outs := by
  obtain ⟨etb, op, sent⟩ := s.sendTelegram_outs off ip data
  exact ⟨etb, op, by rw [sent]; exact List.mem_append_right _ (List.mem_singleton_self _)⟩

end Sys2Proof.Machine
end

section
/-!
PROOFS. Ordered streams: they open, deliver in order, acknowledge, resend and close (R481, R489 to R492).
-/
namespace Sys2Proof.Machine
open Sys2Proof

/-! ### The table of streams -/

theorem State.stream?_congr {s t : State} (h : t.trdp.streams = s.trdp.streams) (ip num : Nat) (inbound : Bool) :
    t.stream? ip num inbound = s.stream? ip num inbound := by
  rw [State.stream?, State.stream?, h]

theorem State.stream?_key {s : State} {ip num : Nat} {inbound : Bool} {st : Stream} (h : s.stream? ip num inbound = some st) :
    st.ip = ip ∧ st.num = num ∧ st.inbound = inbound := by
  have key := List.find?_some h
  simp only [Bool.and_eq_true, beq_iff_eq] at key
  obtain ⟨⟨hip, hnum⟩, hin⟩ := key
  exact ⟨hip, hnum, hin⟩

/-- A stream of the table that is changed reads as changed. -/
theorem State.stream?_setStream {s : State} {v st : Stream} {ip num : Nat} {inbound : Bool} (h : s.stream? ip num inbound = some st)
    (hv : v.ip = ip ∧ v.num = num ∧ v.inbound = inbound) : (s.setStream v).stream? ip num inbound = some v := by
  obtain ⟨rfl, rfl, rfl⟩ := hv
  unfold State.stream? at h
  unfold State.stream? State.setStream
  dsimp only
  generalize s.trdp.streams = streams at h ⊢
  induction streams with
  | nil => cases h
  | cons a l ih =>
    by_cases same : a.ip = v.ip ∧ a.num = v.num ∧ a.inbound = v.inbound
    · rw [List.map_cons, if_pos same, List.find?_cons_of_pos (by simp)]
    · have other : (a.ip == v.ip && a.num == v.num && a.inbound == v.inbound) = false := by simpa [and_assoc] using same
      simp only [List.find?_cons, other] at h
      simp only [List.map_cons, if_neg same, List.find?_cons, other]
      exact ih h

theorem State.dropStream_streams (s : State) (st : Stream) (cause : Nat) : (s.dropStream st cause).trdp.streams =
    s.trdp.streams.filter (fun u => !(u.ip == st.ip && u.num == st.num && u.inbound == st.inbound)) := by
  unfold State.dropStream
  dsimp only
  rw [State.raise_trdp, State.mirror_trdp]

/-- A stream that is removed is gone. -/
theorem State.stream?_dropStream (s : State) (st : Stream) (cause : Nat) : (s.dropStream st cause).stream? st.ip st.num st.inbound = none := by
  rw [State.stream?, State.dropStream_streams]
  refine List.find?_eq_none.2 fun u hu same => ?_
  have other := (List.mem_filter.1 hu).2
  rw [same] at other
  cases other

theorem State.dropStream_time (s : State) (st : Stream) (cause : Nat) : (s.dropStream st cause).time = s.time := by
  unfold State.dropStream
  dsimp only
  rw [State.raise_time, State.mirror_time]

theorem State.mem_outs_dropStream {s : State} {o : Out} (h : o ∈ s.outs) (st : Stream) (cause : Nat) : o ∈ (s.dropStream st cause).outs := by
  unfold State.dropStream
  dsimp only
  rw [State.raise_outs]
  refine State.mem_outs_mirror ?_ _ _
  exact h

/-- A stream closed from this end: its CLOSE leaves and it is gone. -/
theorem State.closeStream_closes (s : State) (st : Stream) (cause : Nat) :
    (s.closeStream st cause).stream? st.ip st.num st.inbound = none ∧
      (∃ etb op, .telegram 30 st.ip etb op (streamMsg st.num 4 cause 0 0 0 []) ∈ (s.closeStream st cause).outs) ∧
      (s.closeStream st cause).time = s.time := by
  obtain ⟨etb, op, sent⟩ := s.sendTelegram_sends 30 st.ip (streamMsg st.num 4 cause 0 0 0 [])
  unfold State.closeStream
  exact ⟨State.stream?_dropStream _ _ _, ⟨etb, op, State.mem_outs_dropStream sent _ _⟩, (State.dropStream_time _ _ _).trans (s.sendTelegram_time _ _ _)⟩

theorem State.addStream_streams (s : State) (st : Stream) : (s.addStream st).trdp.streams = s.trdp.streams ++ [st] := by
  unfold State.addStream
  dsimp only
  rw [State.raise_trdp, State.mirror_trdp]

/-! ### Received messages -/

/-- Which STREAM telegrams are accepted does not depend on the outputs before. -/
theorem State.streamRx_fresh (s : State) (t : Telegram) (kind : Nat) : (s.fresh.streamRx t kind).2 = (s.streamRx t kind).2 := by
  have same := s.trdpRx_fresh t
  unfold State.streamRx
  dsimp only
  rw [same]
  cases hx : (s.trdpRx t).2 with
  | none => rfl
  | some x =>
    have fresh : s.fresh.trdpRx t = (s.fresh.received t.src, some x) := State.trdpRx_accepted (same.trans hx)
    have partner : s.fresh.partnerOf t.src = s.partnerOf t.src := rfl
    rw [State.trdpRx_accepted hx, fresh, partner]
    dsimp only
    split
    · simp only [apply_ite Prod.snd]
    · rfl

theorem State.streamRx_accepted {s : State} {t : Telegram} {kind : Nat} {d : List Byte} (h : (s.streamRx t kind).2 = some d) :
    s.streamRx t kind = (s.received t.src, some d) := by
  unfold State.streamRx at h ⊢
  dsimp only at h ⊢
  split at h
  · rename_i x hx
    split at h
    · cases h
    · rename_i fits
      split at h
      · cases h
      · rename_i numbered
        split at h
        · cases h
        · rename_i known
          rw [State.trdpRx_accepted hx]
          dsimp only
          rw [if_neg fits, if_neg numbered, if_neg known, Option.some.inj h]
  · cases h

theorem State.streamRx_runs {s : State} {t : Telegram} {kind : Nat} {d : List Byte} (h : (s.streamRx t kind).2 = some d) :
    s.fresh.streamRx t kind = (s.fresh.received t.src, some d) := State.streamRx_accepted ((s.streamRx_fresh t kind).trans h)

theorem State.received_stream? (s : State) (src ip num : Nat) (inbound : Bool) : (s.received src).stream? ip num inbound = s.stream? ip num inbound := by
  obtain ⟨_, trdp⟩ := s.received_trdp src
  exact State.stream?_congr (by rw [trdp]) _ _ _


/-! ### What each command does -/

section Open

variable {s : State} {t : Telegram} {d : List Byte} (hrx : s.streamRx t 1 = (s.received t.src, some d))
  (hin : (s.partnerOf t.src).isSome = true ∨ ∃ k < 128, s.partnerIp k = 0) (hnew : s.stream? t.src (beAt d 0 2) true = none)
include hrx hin hnew

/-- An OPEN of a new stream from an admitted source opens it while there is room (R481, R489). -/
theorem State.streamOpen_admitted : ∃ a : State, a.trdp.streams = s.trdp.streams ∧ s.streamOpen t =
    if 32 ≤ a.trdp.streams.length then a.sendTelegram 30 t.src (streamMsg (beAt d 0 2) 4 1 0 0 0 [])
    else a.addStream { ip := t.src, num := beAt d 0 2, inbound := true } := by
  have room : ((s.received t.src).partnerOf t.src).isSome = true ∨ ∃ k < 128, (s.received t.src).partnerIp k = 0 := by
    simpa only [State.partnerOf_congr (s.received_partnerIp t.src), State.received_partnerIp] using hin
  obtain ⟨admitted, streams⟩ := State.admitPartner_admits room
  obtain ⟨_, trdp⟩ := s.received_trdp t.src
  rw [trdp] at streams
  refine ⟨_, streams, ?_⟩
  have absent : ((s.received t.src).admitPartner t.src).1.stream? t.src (beAt d 0 2) true = none :=
    (State.stream?_congr streams _ _ _).trans hnew
  unfold State.streamOpen
  rw [hrx]
  dsimp only
  rw [admitted, absent, if_neg (by decide)]

end Open

/-! #### DATA (R490) -/

/-- With no message next in order nothing is delivered. -/
theorem State.deliverRun_waits (n : Nat) (s : State) {st : Stream} (h : ∀ e ∈ st.early, e.1 ≠ st.delivered + 1) : State.deliverRun n s st = (s, st) := by
  have nothing : st.early.find? (fun e => e.1 == st.delivered + 1) = none := List.find?_eq_none.2 fun e he => by simpa using h e he
  cases n with
  | zero => rfl
  | succ n => rw [State.deliverRun, nothing]

/-- The one message held is the next in order: it is delivered. -/
theorem State.deliverRun_one (n : Nat) (s : State) {st : Stream} {seq : Nat} {at_ : Ticks} {p : List Byte} (h : st.early = [(seq, at_, p)])
    (hseq : seq = st.delivered + 1) :
    State.deliverRun (n + 1) s st = ((s.count 229).emit (.deliver st.ip st.num p), { st with delivered := seq, early := [] }) := by
  have next : st.early.find? (fun e => e.1 == st.delivered + 1) = some (seq, at_, p) := by simp [h, hseq]
  have rest : st.early.filter (fun x => x.1 != seq) = [] := by simp [h]
  rw [State.deliverRun, next]
  dsimp only
  rw [rest, ← hseq]
  exact State.deliverRun_waits n _ (st := { st with delivered := seq, early := [] }) nofun

/-- The stream with its ACK due. -/
def Stream.ackDue (st : Stream) (now : Ticks) : Stream := if st.ackSince.isNone then { st with ackSince := some now } else st

theorem Stream.ackDue_eq (st : Stream) (now : Ticks) : ∃ a, st.ackDue now = { st with ackSince := some a } := by
  unfold Stream.ackDue
  cases h : st.ackSince with
  | none => exact ⟨now, rfl⟩
  | some a =>
    refine ⟨a, ?_⟩
    rw [← h]
    exact if_neg (by simp [h])

/-- The stream once a DATA message is put with those held. -/
def Stream.withData (st : Stream) (now : Ticks) (d : List Byte) : Stream :=
  { st.ackDue now with early := (st.ackDue now).early ++ [(beAt d 4 4, now, d.drop 16)] }

theorem Stream.withData_eq (st : Stream) (now : Ticks) (d : List Byte) :
    ∃ a, st.withData now d = { st with ackSince := some a, early := st.early ++ [(beAt d 4 4, now, d.drop 16)] } := by
  obtain ⟨a, due⟩ := st.ackDue_eq now
  exact ⟨a, by rw [Stream.withData, due]⟩

section Data

variable {s : State} {t : Telegram} {d : List Byte} {st : Stream} (hrx : s.streamRx t 2 = (s.received t.src, some d))
  (hst : s.stream? t.src (beAt d 0 2) true = some st)
include hrx hst

/-- A DATA message that is not taken leaves the stream with its ACK due. -/
theorem State.streamData_discards (h : beAt d 4 4 ≤ st.delivered ∨ (beAt d 4 4 ≠ st.delivered + 1 ∧ 64 ≤ st.early.length)) :
    s.streamData t = (s.received t.src).setStream (st.ackDue (s.received t.src).lt) := by
  have found := (s.received_stream? t.src t.src (beAt d 0 2) true).trans hst
  unfold State.streamData
  rw [hrx]
  dsimp only
  rw [found]
  dsimp only
  split
  · rfl
  · rename_i fresh
    rw [if_pos (h.resolve_left fun old => fresh (.inr (.inr (.inl old))))]
    rfl

/-- A DATA message that is taken is put with those held, and what stands in order is delivered. -/
theorem State.streamData_takes (h0 : st.delivered < beAt d 4 4) (htop : beAt d 4 4 < 0xFFFFFFFF) (hdup : ∀ e ∈ st.early, e.1 ≠ beAt d 4 4)
    (hroom : beAt d 4 4 = st.delivered + 1 ∨ st.early.length < 64) : s.streamData t =
      let q := State.deliverRun 65 (s.received t.src) (st.withData (s.received t.src).lt d)
      if q.2.delivered = st.delivered then q.1.setStream q.2 else (q.1.setStream q.2).mirror 8 (streamItem q.2 true) := by
  have found := (s.received_stream? t.src t.src (beAt d 0 2) true).trans hst
  have single : st.early.any (fun e => e.1 == beAt d 4 4) = false := List.any_eq_false.2 fun e he => by simpa using hdup e he
  unfold State.streamData
  rw [hrx]
  dsimp only
  rw [found]
  dsimp only
  rw [single, if_neg (by simp; omega), if_neg (by omega)]
  rfl

end Data

/-! #### ACK and CLOSE (R491) -/

/-- An ACK leaves unacknowledged what it does not cover; an upload that is not over stays open. -/
theorem State.streamAck_takes {s : State} {t : Telegram} {d : List Byte} {st : Stream} (hrx : s.streamRx t 3 = (s.received t.src, some d))
    (hst : s.stream? t.src (beAt d 0 2) false = some st) (hup : st.upNext ≤ st.upEnd) :
    ∃ l, s.streamAck t = (s.received t.src).setStream { st with unacked := l } ∧ ∀ x ∈ l, x ∈ st.unacked ∧ beAt d 8 4 < x.seq := by
  have found := (s.received_stream? t.src t.src (beAt d 0 2) false).trans hst
  unfold State.streamAck
  rw [hrx]
  dsimp only
  rw [found]
  dsimp only
  rw [if_neg fun ⟨_, ended⟩ => Nat.not_lt.2 hup ended]
  refine ⟨_, rfl, fun x hx => ?_⟩
  obtain ⟨mem, left⟩ := List.mem_filter.1 hx
  refine ⟨mem, Nat.lt_of_not_le fun covered => ?_⟩
  simp [covered] at left

theorem State.streamClose_closes {s : State} {t : Telegram} {d : List Byte} (hrx : s.streamRx t 4 = (s.received t.src, some d))
    (hst : (s.stream? t.src (beAt d 0 2) true).isSome = true) : (s.streamClose t).stream? t.src (beAt d 0 2) true = none := by
  obtain ⟨st, hst⟩ := Option.isSome_iff_exists.1 hst
  have found := (s.received_stream? t.src t.src (beAt d 0 2) true).trans hst
  obtain ⟨hip, hnum, hinbound⟩ := State.stream?_key hst
  unfold State.streamClose
  rw [hrx]
  dsimp only
  rw [found]
  dsimp only
  rw [← hip, ← hnum, ← hinbound]
  exact State.stream?_dropStream _ _ _

/-! #### What a stream sends -/

section Sends

variable {s : State} {k : Nat} {st : Stream} (hk : s.trdp.streams[k]? = some st)
include hk

theorem State.streamAckSend_due (hin : st.inbound = true) (ha : st.ackSince.isSome = true) : s.streamAckSend k =
    (s.setStream { st with ackSince := none }).mirrorHold 8 (streamItem st true) (.streamAck st.ip (streamMsg st.num 3 0 0 st.delivered st.bitmap []))
      (fun s => s.sendTelegram 30 st.ip (streamMsg st.num 3 0 0 st.delivered st.bitmap [])) := by
  unfold State.streamAckSend
  rw [hk]
  dsimp only
  rw [when_of (by simp [hin, ha])]

theorem State.streamSend_spent (hin : st.inbound = false) (hup : st.upKind ≠ 0) (hmore : st.upNext ≤ st.upEnd) (hroom : st.unacked.length < 256)
    (hlast : st.nextSeq = 0xFFFFFFFF) : s.streamSend k = s.closeStream st 5 := by
  unfold State.streamSend
  rw [hk]
  dsimp only
  rw [when_of (by simp [hin, hup, hmore, hroom]), if_pos hlast]

theorem State.streamSend_next (hin : st.inbound = false) (hup : st.upKind ≠ 0) (hmore : st.upNext ≤ st.upEnd) (hroom : st.unacked.length < 256)
    (hlast : st.nextSeq ≠ 0xFFFFFFFF) (hp : (s.uploadNext st).1 ≠ []) {v : Stream} (hv : v = { st with
      upNext := (s.uploadNext st).2, nextSeq := st.nextSeq + 1, unacked := st.unacked ++ [⟨st.nextSeq, (s.uploadNext st).1, s.lt, 0⟩] }) :
    s.streamSend k = ((s.setStream v).mirror 8 (streamItem v true)).sendTelegram 30 st.ip (streamMsg st.num 2 0 st.nextSeq 0 0 (s.uploadNext st).1) := by
  unfold State.streamSend
  rw [hk]
  dsimp only
  rw [when_of (by simp [hin, hup, hmore, hroom]), if_neg hlast, if_neg hp, hv]

/-- The resending of the one unacknowledged message at `due`, or the end of its stream. -/
def State.resendAt (s : State) (st : Stream) (x : TxMsg) (due : Ticks) : State :=
  if s.rf .trdpStream 0 15 8 ≤ x.tries then (s.passTo due).closeStream st 3
  else (((s.passTo due).setStream { st with unacked := [{ x with sent := (s.passTo due).lt, tries := x.tries + 1 }] }).count 228).sendTelegram 30 st.ip
    (streamMsg st.num 2 0 x.seq 0 0 x.payload)

theorem State.streamRetransmit_eq {x : TxMsg} (hx : st.unacked = [x]) :
    s.streamRetransmit k = s.resendAt st x (x.sent + ms (s.rf .trdpStream 0 7 0)) := by
  unfold State.streamRetransmit State.resendAt
  rw [hk]
  dsimp only
  rw [hx]
  dsimp only [List.foldl]
  obtain ⟨due, eq⟩ : ∃ due, due = x.sent + ms (s.rf .trdpStream 0 7 0) := ⟨_, rfl⟩
  rw [← eq, State.rf_congr (State.passTo_regs s due)]
  simp

theorem State.streamGap_eq {e : Nat × Ticks × List Byte} (he : st.early = [e]) :
    s.streamGap k = (s.passTo (e.2.1 + ms (s.rf .trdpStream 0 31 16))).closeStream st 2 := by
  unfold State.streamGap
  rw [hk]
  dsimp only
  rw [he]
  rfl

end Sends

/-- A stream that is changed and then mirrored reads as changed. -/
theorem State.stream?_mirrored {s : State} {v st : Stream} {ip num : Nat} {inbound : Bool} (h : s.stream? ip num inbound = some st)
    (hv : v.ip = ip ∧ v.num = num ∧ v.inbound = inbound) (kind : Nat) (body : List Byte) :
    ((s.setStream v).mirror kind body).stream? ip num inbound = some v :=
  (State.stream?_congr (congrArg Trdp.streams (State.mirror_trdp _ _ _)) _ _ _).trans (State.stream?_setStream h hv)

theorem State.stream?_sendTelegram (s : State) (off dest : Nat) (data : List Byte) (ip num : Nat) (inbound : Bool) :
    (s.sendTelegram off dest data).stream? ip num inbound = s.stream? ip num inbound :=
  State.stream?_congr (congrArg Trdp.streams (State.sendTelegram_trdp _ _ _ _)) _ _ _

theorem State.passTo_stream? (s : State) (due : Ticks) (ip num : Nat) (inbound : Bool) :
    (s.passTo due).stream? ip num inbound = s.stream? ip num inbound :=
  State.stream?_congr (congrArg Trdp.streams (State.passTo_trdp _ _)) _ _ _

/-- A stream closed at `due`. -/
theorem State.closeStream_after (s : State) (due : Ticks) (st : Stream) (cause : Nat) : due ≤ ((s.passTo due).closeStream st cause).time.lt ∧
    ((s.passTo due).closeStream st cause).stream? st.ip st.num st.inbound = none ∧
    ∃ etb op, .telegram 30 st.ip etb op (streamMsg st.num 4 cause 0 0 0 []) ∈ ((s.passTo due).closeStream st cause).outs := by
  obtain ⟨gone, sent, time⟩ := (s.passTo due).closeStream_closes st cause
  exact ⟨by rw [time]; exact s.le_passTo_lt due, gone, sent⟩

theorem State.resendAt_gives (s : State) (st : Stream) {x : TxMsg} (due : Ticks) (h : s.rf .trdpStream 0 15 8 ≤ x.tries) :
    due ≤ (s.resendAt st x due).time.lt ∧ (s.resendAt st x due).stream? st.ip st.num st.inbound = none ∧
      ∃ etb op, .telegram 30 st.ip etb op (streamMsg st.num 4 3 0 0 0 []) ∈ (s.resendAt st x due).outs := by
  rw [State.resendAt, if_pos h]
  exact s.closeStream_after due st 3

theorem State.resendAt_resends {s : State} {st : Stream} (hst : s.stream? st.ip st.num st.inbound = some st) {x : TxMsg} (due : Ticks)
    (h : x.tries < s.rf .trdpStream 0 15 8) : due ≤ (s.resendAt st x due).time.lt ∧
      (s.resendAt st x due).stream? st.ip st.num st.inbound =
        some { st with unacked := [{ x with sent := (s.resendAt st x due).time.lt, tries := x.tries + 1 }] } ∧
      ∃ etb op, .telegram 30 st.ip etb op (streamMsg st.num 2 0 x.seq 0 0 x.payload) ∈ (s.resendAt st x due).outs := by
  have found := (s.passTo_stream? due st.ip st.num st.inbound).trans hst
  unfold State.resendAt
  rw [if_neg (Nat.not_le.2 h), State.stream?_sendTelegram, State.sendTelegram_time]
  refine ⟨s.le_passTo_lt due, ?_, State.sendTelegram_sends _ _ _ _⟩
  exact State.stream?_setStream found ⟨rfl, rfl, rfl⟩

/-- A single device mirrors nothing. -/
theorem State.mirrors_single {s : State} (h : s.sys.twinRole = 0) : s.mirrors = false := by simp [State.mirrors, h]

theorem State.readRun_fresh (s : State) (area f : Nat) (k n : Nat) (acc : List (List Byte)) :
    s.fresh.readRun area f k n acc = s.readRun area f k n acc := by
  have found (n : Nat) : s.fresh.lookup area f n = s.lookup area f n := rfl
  induction k generalizing n acc with
  | zero => rw [State.readRun, State.readRun, found]
  | succ k ih =>
    rw [State.readRun, State.readRun, found]
    simp only [ih]

theorem State.uploadNext_fresh (s : State) (st : Stream) : s.fresh.uploadNext st = s.uploadNext st := by
  have bytes (a n : Nat) : s.fresh.memBytes a n = s.memBytes a n := rfl
  have found (area f n : Nat) : s.fresh.lookup area f n = s.lookup area f n := rfl
  unfold State.uploadNext
  simp only [bytes, found, State.readRun_fresh]

/-- Settles O51: each command by what it finds in the table of streams. -/
theorem streamsDeliverInOrder : Obligations.StreamsDeliverInOrder := by
  intro s
  have silent (ip : Nat) : (s.fresh.received ip).outs = [] := (s.fresh.received_frame ip).outs rfl
  have now (ip : Nat) : (s.fresh.received ip).lt = s.lt := by
    rw [State.lt, (s.fresh.received_frame ip).time rfl]
    rfl
  refine ⟨fun t d hd hin hnew => ?opens, fun t d st hd hst => ?data, fun t d st hd hst hup => ?acks, fun t d hd hst => ?closes,
    fun k st hk hst => ⟨fun hin ha => ?ackSend, fun hin hup hmore hroom => ⟨fun hlast => ?spent, fun hlast hp => ?sends⟩,
      fun x hx => ⟨fun htries => ?gives, fun htries => ?resends⟩, fun e he => ?gap⟩⟩
  case opens =>
    obtain ⟨a, streams, opened⟩ := State.streamOpen_admitted (s := s.fresh) (State.streamRx_runs hd) hin hnew
    have same : a.trdp.streams = s.trdp.streams := streams
    refine ⟨fun hroom => ?_, fun hfull => ?_⟩
    · refine completes_fresh (f := fun s => s.streamOpen t) rfl ?_
      rw [opened, if_neg (by rw [same]; omega), State.addStream_streams, same]
    · refine completes_fresh (f := fun s => s.streamOpen t) rfl ?_
      rw [opened, if_pos (by rw [same]; exact hfull), State.sendTelegram_trdp]
      exact ⟨same, State.sendTelegram_sends _ _ _ _⟩
  case data =>
    intro seq now_
    have hrx := State.streamRx_runs hd
    have key := State.stream?_key hst
    have found := (s.fresh.received_stream? t.src t.src (beAt d 0 2) true).trans hst
    obtain ⟨a, held⟩ := st.withData_eq (s.fresh.received t.src).lt d
    obtain ⟨a', due⟩ := st.ackDue_eq (s.fresh.received t.src).lt
    refine ⟨fun hnext htop hearly => ?next, fun hold => ?old, fun hgap htop hdup => ⟨fun hroom => ?early, fun hfull => ?full⟩⟩
    case next =>
      refine completes_fresh (f := fun s => s.streamData t) rfl ?_
      have first : (st.withData (s.fresh.received t.src).lt d).early = [(seq, (s.fresh.received t.src).lt, d.drop 16)] := by rw [held, hearly]; rfl
      have delivered : seq = (st.withData (s.fresh.received t.src).lt d).delivered + 1 := by rw [held]; exact hnext
      rw [State.streamData_takes (s := s.fresh) hrx hst (by omega) htop (by rw [hearly]; nofun) (.inl hnext),
        State.deliverRun_one 64 _ first delivered]
      dsimp only
      rw [if_neg (by omega), held]
      refine ⟨⟨_, State.stream?_mirrored (st := st) ?_ ?_ _ _, rfl, rfl, rfl⟩, ?_⟩
      · exact found
      · exact key
      · refine State.mem_outs_mirror ?_ _ _
        rw [← key.1, ← key.2.1]
        exact List.mem_append_right _ (List.mem_singleton_self _)
    case old =>
      refine completes_fresh (f := fun s => s.streamData t) rfl ?_
      rw [State.streamData_discards (s := s.fresh) hrx hst (.inl hold), due]
      exact ⟨⟨_, State.stream?_setStream (v := { st with ackSince := some a' }) found key, rfl, rfl⟩, silent t.src⟩
    case early =>
      refine completes_fresh (f := fun s => s.streamData t) rfl ?_
      have waits : ∀ e ∈ (st.withData (s.fresh.received t.src).lt d).early, e.1 ≠ (st.withData (s.fresh.received t.src).lt d).delivered + 1 := by
        rw [held]
        intro e he
        rcases List.mem_append.1 he with he | he
        · exact (hdup e he).2
        · rw [List.mem_singleton.1 he]
          exact Nat.ne_of_gt hgap
      rw [State.streamData_takes (s := s.fresh) hrx hst (by omega) htop (fun e he => (hdup e he).1) (.inr hroom), State.deliverRun_waits 65 _ waits]
      dsimp only
      rw [held, if_pos rfl, now]
      exact ⟨⟨_, State.stream?_setStream (v := { st with ackSince := some a, early := st.early ++ [(seq, s.lt, d.drop 16)] }) found key, rfl, rfl⟩,
        silent t.src⟩
    case full =>
      refine completes_fresh (f := fun s => s.streamData t) rfl ?_
      rw [State.streamData_discards (s := s.fresh) hrx hst (.inr ⟨Nat.ne_of_gt hgap, hfull⟩), due]
      exact ⟨⟨_, State.stream?_setStream (v := { st with ackSince := some a' }) found key, rfl⟩, silent t.src⟩
  case acks =>
    obtain ⟨l, took, left⟩ := State.streamAck_takes (s := s.fresh) (State.streamRx_runs hd) hst hup
    refine completes_fresh (f := fun s => s.streamAck t) rfl ?_
    have key := State.stream?_key hst
    rw [took]
    exact ⟨_, State.stream?_setStream (v := { st with unacked := l }) ((s.fresh.received_stream? t.src t.src (beAt d 0 2) false).trans hst) key, left⟩
  case closes =>
    exact completes_fresh (f := fun s => s.streamClose t) rfl (State.streamClose_closes (s := s.fresh) (State.streamRx_runs hd) hst)
  case ackSend =>
    refine completes_fresh (f := fun s => s.streamAckSend k) rfl ?_
    rw [State.streamAckSend_due (s := s.fresh) hk hin ha]
    refine ⟨?_, fun hrole => ?_⟩
    · have frame := State.mirrorHold_frame (w := Part.twin ||| Part.outs ||| Part.cnt) (kind := 8) (body := streamItem st true)
        (e := .streamAck st.ip (streamMsg st.num 3 0 0 st.delivered st.bitmap []))
        (act := fun s => s.sendTelegram 30 st.ip (streamMsg st.num 3 0 0 st.delivered st.bitmap [])) rfl
        (State.sendTelegram_frame rfl (Frame.refl _ (s.fresh.setStream { st with ackSince := none }))) (Frame.refl _ _)
      refine (State.stream?_congr (congrArg Trdp.streams (frame.trdp rfl)) _ _ _).trans ?_
      exact State.stream?_setStream (s := s.fresh) hst ⟨rfl, rfl, rfl⟩
    · rw [State.mirrorHold_alone (State.mirrors_single (s := s.fresh.setStream _) hrole)]
      exact State.sendTelegram_sends _ _ _ _
  case spent =>
    refine completes_fresh (f := fun s => s.streamSend k) rfl ?_
    rw [State.streamSend_spent (s := s.fresh) hk hin hup hmore hroom hlast]
    obtain ⟨gone, sent, _⟩ := s.fresh.closeStream_closes st 5
    exact ⟨gone, sent⟩
  case sends =>
    rw [← s.uploadNext_fresh st] at hp
    refine completes_fresh (f := fun s => s.streamSend k) rfl ?_
    rw [State.streamSend_next (s := s.fresh) hk hin hup hmore hroom hlast hp rfl]
    refine ⟨?_, ?_⟩
    · refine (State.stream?_sendTelegram _ _ _ _ _ _ _).trans ?_
      rw [s.uploadNext_fresh]
      exact State.stream?_mirrored (s := s.fresh) hst (by exact ⟨rfl, rfl, rfl⟩) _ _
    · rw [s.uploadNext_fresh]
      exact State.sendTelegram_sends _ _ _ _
  case gives =>
    refine completes_fresh (f := fun s => s.streamRetransmit k) rfl ?_
    rw [State.streamRetransmit_eq (s := s.fresh) hk hx]
    exact (s.fresh.resendAt_gives st _ htries).2
  case resends =>
    refine completes_fresh (f := fun s => s.streamRetransmit k) rfl ?_
    rw [State.streamRetransmit_eq (s := s.fresh) hk hx]
    exact State.resendAt_resends (s := s.fresh) hst _ htries
  case gap =>
    refine completes_fresh (f := fun s => s.streamGap k) rfl ?_
    rw [State.streamGap_eq (s := s.fresh) hk he]
    exact s.fresh.closeStream_after _ st 2

end Sys2Proof.Machine
end

section
/-!
PROOFS. A REKEY_ACK whose nonces give a session number that may not be used (R497, R500): the message itself has been accepted, so the session
that stays has its SEQ as the last one received.
-/
namespace Sys2Proof.Machine
open Sys2Proof

/-- The nonces of the two ends: of all that the answering end may send, one for which the session would have the number 0xFFFF_FFFF. -/
def rekeyNonceI : List Byte := List.replicate 16 3
def rekeyNonceR : List Byte := List.replicate 12 0 ++ [0x4E, 0xF0, 0x09, 0x95]

/-- The session that is being replaced: the last SEQ accepted in it is 6. -/
def rekeySession : StlSession := { num := 5, key := List.replicate 32 9, seqTx := 3, seqRx := 6 }

/-- A running device with connection 2 in a re-key that it asked for; `src` and `dst` are the connection's identities. -/
def rekeyState (src dst : Nat) : State :=
  let regs : List (RegId × Nat × Nat) := [(.trdpIp, 0, 0x0A000001), (.trdpCfg, 0, 1), (.stlCfg, 2, 1 + 2 ^ 6 + 2 ^ 16 * 77), (.stlSrc, 2, src), (.stlDst, 2, dst),
    (.stlTim, 2, 2 ^ 24 * 16)]
  let s : State := regs.foldl (fun s r => s.setReg r.1 r.2.1 0 (BitVec.ofNat 32 r.2.2)) State.reset
  { s with
    sys := { s.sys with start := .operational }
    trdp := { s.trdp with partners := [(3, { ip := 0x0A000005, dynamic := true })] }
    conns := [(2, { st := .rekeying, cur := rekeySession, initiator := true, nonceI := rekeyNonceI, ip := 0x0A000005, sentAt := [(0, 0)] })]
    sc := { s.sc with keys := [(0, { present := true, key := List.replicate 32 5 })] } }

/-- The partner's REKEY_ACK, SEQ 7, on the network. -/
def rekeyAck : Telegram :=
  let d := (rekeyState 12 11).stlBuild 2 5 5 7 0 (rekeyNonceR ++ rekeyNonceI) rekeySession.key
  { src := 0x0A000005, dst := 0x0A000001, comId := 41010, type := 0x5064, etb := 0, op := 0, dsLen := d.length, data := d, fcsOk := true }

/-- Every check of R498 passes. -/
theorem rekeyAck_accepted : ((rekeyState 11 12).stlCheck rekeyAck 5).2.any (fun r => decide (r.1 = 2 ∧ r.2.payload = rekeyNonceR ++ rekeyNonceI)) = true := by
  decide +kernel

theorem rekeyAck_badSession : badSession ((rekeyState 11 12).stlDerive 2 (List.replicate 32 5) rekeyNonceI rekeyNonceR).num = true := by decide +kernel

theorem rekeyAck_counts : (((rekeyState 11 12).fresh.stlRekeyAck rekeyAck).conn 2).cur.seqRx = 7 := by decide +kernel

/-- Refutes O50: where a REKEY_ACK gives a session number that may not be used, the session before stays, with the ACK's SEQ as its last one. -/
theorem not_connectionsFollowTheirTable : ¬ Obligations.ConnectionsFollowTheirTable := by
  intro h
  obtain ⟨-, -, -, -, acks, -⟩ := h (rekeyState 11 12)
  have accepted := rekeyAck_accepted
  cases check : ((rekeyState 11 12).stlCheck rekeyAck 5).2 with
  | none =>
    rw [check] at accepted
    cases accepted
  | some r =>
    rw [check] at accepted
    obtain ⟨conn, payload⟩ : r.1 = 2 ∧ r.2.payload = rekeyNonceR ++ rekeyNonceI := of_decide_eq_true accepted
    obtain ⟨c, m⟩ := r
    obtain rfl : c = 2 := conn
    obtain ⟨u, ran, -, kept⟩ := acks rekeyAck 2 m (List.replicate 32 5) check (by decide +kernel) (by decide +kernel) (payload ▸ by decide +kernel)
    dsimp only at kept payload
    rw [payload] at kept
    have bad : badSession ((rekeyState 11 12).stlDerive 2 (List.replicate 32 5) ((rekeyState 11 12).conn 2).nonceI
        ((rekeyNonceR ++ rekeyNonceI).take 16)).num = true := rekeyAck_badSession
    rw [bad] at kept
    have answered : exec (.stlRekeyAck rekeyAck) (rekeyState 11 12) = .next ((rekeyState 11 12).fresh.stlRekeyAck rekeyAck) := rfl
    have ended : (rekeyState 11 12).fresh.stlRekeyAck rekeyAck = u := Host.Outcome.next.inj (answered.symm.trans ran)
    have stays : (u.conn 2).cur.seqRx = 6 := congrArg StlSession.seqRx kept.2
    rw [← ended, rekeyAck_counts] at stays
    exact absurd stays (by decide)

end Sys2Proof.Machine
end

section
/-!
PROOFS. The bytes of what the twin's devices send each other: the checksum and the tag fit their fields, and each field of a heartbeat and of an
acknowledgement reads back what was put there (R518, R525).
-/
namespace Sys2Proof.Machine
open Sys2Proof

/-! ### Checksum and tag -/

theorem crcByteR_lt {poly c : Nat} (hp : poly < 2 ^ 32) (hc : c < 2 ^ 32) (b : Byte) : crcByteR poly c b < 2 ^ 32 := by
  have step (c : Nat) (hc : c < 2 ^ 32) : crcStepR poly c < 2 ^ 32 := by
    unfold crcStepR
    split
    · exact Nat.xor_lt_two_pow (by omega) hp
    · omega
  have steps (n c : Nat) (hc : c < 2 ^ 32) : Nat.repeat (crcStepR poly) n c < 2 ^ 32 := by
    induction n with
    | zero => exact hc
    | succ n ih => exact step _ ih
  exact steps 8 _ (Nat.xor_lt_two_pow hc (by have := b.isLt; omega))

theorem crc32c_lt (l : List Byte) : crc32c l < 2 ^ 32 := by
  have bytes (l : List Byte) (c : Nat) (hc : c < 2 ^ 32) : l.foldl (crcByteR 0x82F63B78) c < 2 ^ 32 := by
    induction l generalizing c with
    | nil => exact hc
    | cons b l ih => exact ih _ (crcByteR_lt (by decide) hc b)
  exact Nat.xor_lt_two_pow (bytes l _ (by decide)) (by decide)

theorem length_shaRound (h : List Nat) (kw : Nat) : (shaRound h kw).length = h.length := by
  unfold shaRound
  split <;> rfl

theorem length_shaBlock (h : List Nat) (blk : List Byte) : (shaBlock h blk).length = h.length := by
  have rounds (l : List Nat) (h : List Nat) : (l.foldl shaRound h).length = h.length := by
    induction l generalizing h with
    | nil => rfl
    | cons kw l ih => exact (ih _).trans (length_shaRound h kw)
  unfold shaBlock
  simp [rounds]

theorem length_shaBlocks (n : Nat) (h : List Nat) (l : List Byte) : (shaBlocks n h l).length = h.length := by
  induction n generalizing h l with
  | zero => rfl
  | succ n ih => exact (ih _ _).trans (length_shaBlock h _)

theorem length_sha384 (m : List Byte) : (sha384 m).length = 48 := by
  have words (l : List Nat) : (l.flatMap (beBytes 8)).length = 8 * l.length := by
    induction l with
    | nil => rfl
    | cons a l ih => simp [ih]; omega
  have eight : sha384Init.length = 8 := List.length_map _
  unfold sha384
  simp only [List.length_take, words, length_shaBlocks, eight]
  rfl

theorem length_tag16 (key m : List Byte) : (tag16 key m).length = 16 := by
  unfold tag16 hmac384
  rw [List.length_take, length_sha384]
  rfl

/-! ### Fields -/

theorem beAt_append_left {a b : List Byte} {o n : Nat} (h : o + n ≤ a.length) : beAt (a ++ b) o n = beAt a o n := by
  rw [beAt, slice_append_left h, beAt]

theorem beAt_append_right {a b : List Byte} {o n : Nat} (h : a.length ≤ o) : beAt (a ++ b) o n = beAt b (o - a.length) n := by
  rw [beAt, slice_append_right h, beAt]

/-- A field put in big-endian reads back, as far as it has room. -/
theorem beAt_beBytes (k v : Nat) : beAt (beBytes k v) 0 k = v % 256 ^ k := by
  rw [beAt, slice_self (length_beBytes k v), beNat_beBytes]

/-- A field that stands behind `a` and is followed by `c`. -/
theorem beAt_field {a c : List Byte} {k o : Nat} (v : Nat) (h : a.length = o) : beAt (a ++ (beBytes k v ++ c)) o k = v % 256 ^ k := by
  rw [beAt_append_right h.le, h, Nat.sub_self, beAt_append_left (by simp), beAt_beBytes]

/-- A byte that stands behind `a`. -/
theorem byteAt_field {a c : List Byte} {o : Nat} (v : Nat) (h : a.length = o) : byteAt (a ++ (beBytes 1 v ++ c)) o = v % 256 := by
  rw [byteAt_append_right h.le, h, Nat.sub_self, byteAt_append_left (by simp), byteAt_beBytes_one]

@[simp] theorem length_kazukFrame (b : List Byte) : (kazukFrame b).length = b.length + 4 := by simp [kazukFrame]

theorem kazukFrame_take (b : List Byte) : (kazukFrame b).take b.length = b := List.take_left

/-- A frame ends with the checksum of what stands before. -/
theorem kazukFrame_crc (b : List Byte) : beAt (kazukFrame b) b.length 4 = crc32c b := by
  rw [kazukFrame, beAt_append_right le_rfl, Nat.sub_self, beAt_beBytes]
  exact Nat.mod_eq_of_lt (crc32c_lt b)

/-! ### Heartbeats (R518) -/

/-- The flags of a heartbeat, by bit. -/
def beatFlags (holder releasing eligible operational synced revert home : Bool) : Nat :=
  b2n holder + 2 * b2n releasing + 4 * b2n eligible + 8 * b2n operational + 16 * b2n synced + 32 * b2n revert + 64 * b2n home

theorem beatFlags_bits (a b c d e f g : Bool) : (beatFlags a b c d e f g % 256).testBit 0 = a ∧ (beatFlags a b c d e f g % 256).testBit 1 = b ∧
    (beatFlags a b c d e f g % 256).testBit 2 = c := by
  revert a b c d e f g
  decide

theorem State.beatBody_eq (s : State) (seq : Nat) : ∃ rest, rest.length = 28 ∧ s.beatBody seq = beBytes 1 1 ++ (beBytes 1 (beatFlags s.holder
    s.twin.releasing.isSome s.eligible s.operational s.twin.synced s.twin.revertReq (s.sys.twinRole == 1)) ++ (beBytes 2 seq ++ rest)) := by
  unfold State.beatBody
  simp only [List.append_assoc]
  exact ⟨_, by simp, rfl⟩

theorem State.length_beatBody (s : State) (seq : Nat) : (s.beatBody seq).length = 32 := by
  obtain ⟨rest, hl, body⟩ := s.beatBody_eq seq
  rw [body]
  simp [hl]

theorem State.length_heartbeat (s : State) (seq : Nat) : (s.heartbeat seq).length = 36 := by
  rw [State.heartbeat, length_kazukFrame, State.length_beatBody]

/-- A heartbeat has its length, its version and its checksum. -/
theorem State.heartbeat_intact (s : State) (seq : Nat) : byteAt (s.heartbeat seq) 0 = 1 ∧
    beAt (s.heartbeat seq) 32 4 = crc32c ((s.heartbeat seq).take 32) := by
  have body := s.length_beatBody seq
  have crc := kazukFrame_crc (s.beatBody seq)
  have taken := kazukFrame_take (s.beatBody seq)
  rw [body] at crc taken
  rw [State.heartbeat, taken, crc]
  refine ⟨?_, rfl⟩
  obtain ⟨rest, -, eq⟩ := s.beatBody_eq seq
  rw [kazukFrame, eq, List.append_assoc]
  exact byteAt_append_left (by simp)

theorem State.heartbeat_fields (s : State) (seq : Nat) : beAt (s.heartbeat seq) 2 2 = seq % 65536 ∧
    (byteAt (s.heartbeat seq) 1).testBit 0 = s.holder ∧ (byteAt (s.heartbeat seq) 1).testBit 1 = s.twin.releasing.isSome ∧
    (byteAt (s.heartbeat seq) 1).testBit 2 = s.eligible := by
  obtain ⟨rest, -, eq⟩ := s.beatBody_eq seq
  rw [State.heartbeat, kazukFrame, eq]
  simp only [List.append_assoc]
  refine ⟨?_, ?_⟩
  · rw [← List.append_assoc]
    exact beAt_field seq (by simp)
  · rw [byteAt_field _ (by simp)]
    exact beatFlags_bits _ _ _ _ _ _ _

/-! ### Acknowledgements (R525) -/

theorem ackFrame_fields (m : Nat) : (ackFrame m).length = 12 ∧ byteAt (ackFrame m) 0 = 3 ∧
    beAt (ackFrame m) 8 4 = crc32c ((ackFrame m).take 8) ∧ beAt (ackFrame m) 4 4 = m % 2 ^ 32 := by
  have body : ([3, 0, 0, 0] ++ beBytes 4 m : List Byte).length = 8 := by simp
  have crc := kazukFrame_crc ([3, 0, 0, 0] ++ beBytes 4 m)
  have taken := kazukFrame_take ([3, 0, 0, 0] ++ beBytes 4 m)
  rw [body] at crc taken
  refine ⟨by rw [ackFrame, length_kazukFrame, body], ?_, by rw [ackFrame, crc, taken], ?_⟩
  · rw [ackFrame, kazukFrame, List.append_assoc]
    exact byteAt_append_left (by simp)
  · rw [ackFrame, kazukFrame, List.append_assoc]
    exact beAt_field m rfl

end Sys2Proof.Machine
end

section
/-!
PROOFS. Heartbeats of the twin: what is sent, and what an accepted heartbeat leaves in the record of the paths (R518, R519, R521, R523).
-/
namespace Sys2Proof.Machine
open Sys2Proof

/-! ### Heartbeats out -/

/-- A heartbeat of a lane: it is sent in the state of its instant. -/
theorem State.kazukBeat_sends {s : State} (h : s.inTwin = true) (lane : Nat) : ∃ due x, x = s.passToTt due ∧ s.kazukBeat lane = x.kazukSend lane :=
  ⟨_, _, rfl, when_of h _ _⟩

theorem State.passToTt_keeps (s : State) (due : TimeNs) : Frame (Part.bk ||| Part.time) s (s.passToTt due) := State.passToTt_frame rfl (Frame.refl _ s)

/-- Role, ownership and eligibility do not depend on time. -/
theorem State.heartbeat_state {s x : State} {w : Nat} (h : Frame w s x) (hsys : Part.out Part.sys w = true) (htwin : Part.out Part.twin w = true)
    (hilk : Part.out Part.ilk w = true) : x.holder = s.holder ∧ x.eligible = s.eligible := by
  rw [State.holder, State.eligible, State.operational, h.sys hsys, h.twin htwin, h.ilk hilk]
  exact ⟨rfl, rfl⟩

/-- The network heartbeat: it is sent in the state of its instant. -/
theorem State.netSend_sends {s : State} {k : List Byte} (h : s.beatKey = some k) : ∃ etb op,
    s.netSend.twin = { s.twin with netSeq := (s.twin.netSeq + 1) % 65536 } ∧
    s.netSend.outs = s.outs ++ [.telegram 3 s.mateIp etb op (s.heartbeat s.twin.netSeq ++ s.mirrorBlock ++ tag16 k (s.heartbeat s.twin.netSeq ++ s.mirrorBlock))] := by
  unfold State.netSend
  rw [h]
  obtain ⟨etb, op, sent⟩ := State.sendTelegram_outs { s with twin := { s.twin with netSeq := (s.twin.netSeq + 1) % 65536 } } 3 s.mateIp
    (s.heartbeat s.twin.netSeq ++ s.mirrorBlock ++ tag16 k (s.heartbeat s.twin.netSeq ++ s.mirrorBlock))
  exact ⟨etb, op, (State.sendTelegram_frame (w := Part.cnt ||| Part.outs) rfl (Frame.refl _ _)).twin rfl, sent⟩

theorem State.beatKey_congr {s x : State} (hr : x.regs = s.regs) (hk : x.sc = s.sc) : x.beatKey = s.beatKey := by
  rw [State.beatKey, State.key, State.rf_congr hr, hk, State.beatKey, State.key]

/-! ### Heartbeats in -/

/-- What an accepted heartbeat and its path leave to be read: `w` is the twin's record once the path has noted it. -/
def Twin.Hears (w : Twin) (b : MateBeat) (v : Twin) : Prop :=
  v.beat = some b ∧ v.silent = false ∧ v.kz0 = w.kz0 ∧ v.kz1 = w.kz1 ∧ v.net = w.net ∧ v.kzUp = w.kzUp ∧ v.netUp = w.netUp ∧ v.netRx = w.netRx ∧
    v.fallback = w.fallback ∧ v.lineLow = w.lineLow

/-- What every step of a loop keeps, the loop keeps. -/
theorem forEach_keeps {α : Type} {P : State → Prop} {f : State → α → State} (hf : ∀ s x, P s → P (f s x)) : ∀ (l : List α) (s : State), P s → P (forEach l f s)
  | [], _, h => h
  | x :: l, _, h => forEach_keeps hf l _ (hf _ x h)

section Hears
variable {w : Twin} {b : MateBeat} {s : State} (h : w.Hears b s.twin)
include h

theorem State.mirror_hears (kind : Nat) (body : List Byte) : w.Hears b (s.mirror kind body).twin := by
  unfold State.mirror
  split
  · dsimp only
    split <;> exact h
  · exact h

theorem State.mirrorAxis_hears (n : Nat) : w.Hears b (s.mirrorAxis n).twin :=
  State.mirror_hears (s := { s with twin := { s.twin with axisSent := Table.set [] s.twin.axisSent n (s.axisKey n) } }) h 5 (s.axisItem n)

theorem State.obsItems_hears (n : Nat) (es : List (List Byte)) : w.Hears b (s.obsItems n es).twin :=
  forEach_keeps (P := fun s => w.Hears b s.twin) (fun _ _ h => State.mirror_hears h _ _) _ s h

theorem State.mirrorAll_hears : w.Hears b s.mirrorAll.twin := by
  have step {α : Type} {f : State → α → State} (hf : ∀ s x, w.Hears b s.twin → w.Hears b (f s x).twin) (l : List α) (s : State) (h : w.Hears b s.twin) :
      w.Hears b (forEach l f s).twin := forEach_keeps (P := fun s => w.Hears b s.twin) hf l s h
  unfold State.mirrorAll
  dsimp only
  refine step (fun s n h => ?_) _ _ (step (fun s p h => State.mirror_hears h _ _) _ _ (step (fun s t h => State.mirror_hears h _ _) _ _
    (step (fun s c h => State.mirror_hears h _ _) _ _ (step (fun s n h => State.obsItems_hears h _ _) _ _ (step (fun s n h => State.mirrorAxis_hears h n) _ _
      (step (fun s k h => State.mirror_hears h _ _) _ _ (step (fun s i h => State.mirror_hears h _ _) _ _ (State.mirror_hears h _ _))))))))
  split
  · exact State.mirror_hears h _ _
  · exact h

theorem State.mateFound_hears : w.Hears b s.mateFound.twin := by
  unfold State.mateFound State.startSync
  refine State.mirrorAll_hears ?_
  split
  · dsimp only
    rw [State.raise_twin]
    exact h
  · exact h

theorem State.judgeLine_hears : w.Hears b s.judgeLine.twin := by
  have judged : ∃ f since, s.judgeLine.twin = { s.twin with lineFault := f, lineGoodSince := since } := by
    unfold State.judgeLine
    dsimp only
    repeat' split
    all_goals exact ⟨_, _, rfl⟩
  obtain ⟨f, since, eq⟩ := judged
  rw [eq]
  exact h

/-- With nothing held back a confirmation changes the numbers of the mirror alone. -/
theorem State.confirm_hears (hheld : s.twin.held = []) (m : Nat) : w.Hears b (s.confirm m).twin := by
  unfold State.confirm
  split
  · exact h
  · dsimp only
    rw [hheld]
    exact h

/-- The rest of what an accepted heartbeat does, once it has been noted. -/
theorem State.heardTail_hears (hheld : s.twin.held = []) (confirms found wasHolder : Bool) (m : Nat) :
    let x := (if confirms = true then s.confirm m else s).judgeLine
    w.Hears b (if x.holder = true then (if found = true then x.mateFound else x)
      else if b.holder && (found || !wasHolder) then x.syncWait found else x).judgeRevert.twin := by
  intro x
  have hx : w.Hears b x.twin := by
    refine State.judgeLine_hears ?_
    split
    · exact State.confirm_hears h hheld m
    · exact h
  have last (y : State) (hy : w.Hears b y.twin) : w.Hears b y.judgeRevert.twin := hy
  refine last _ ?_
  split
  · split
    · exact State.mateFound_hears hx
    · exact hx
  · split <;> exact hx

end Hears

/-- An accepted heartbeat is what the twin's record holds of the mate, and the mate is silent no more. -/
theorem State.acceptBeat_hears (s : State) (hheld : s.twin.held = []) (b : MateBeat) (net : Bool) (lane : Nat) (low : Bool)
    (hh : ((s.setLine low).pathHeard net lane).twin.held = s.twin.held) :
    ((s.setLine low).pathHeard net lane).twin.Hears b (s.acceptBeat b net lane low).twin := by
  unfold State.acceptBeat
  dsimp only
  generalize (s.setLine low).pathHeard net lane = s0 at hh ⊢
  refine State.heardTail_hears ?_ ?_ _ _ _ _
  · exact ⟨rfl, rfl, rfl, rfl, rfl, rfl, rfl, rfl, rfl, rfl⟩
  · exact hh.trans hheld

/-- A path notes its heartbeat, and then it is judged which path carries the mirror. -/
theorem State.pathHeard_eq (s : State) (net : Bool) (lane : Nat) : ∃ x : State, s.pathHeard net lane = x.judgeFallback ∧ x.twin =
    if net = true then { s.twin with net := some s.lt, netUp := true }
    else if lane = 0 then { s.twin with kz0 := some s.lt, kzUp := true, fallback := false }
    else { s.twin with kz1 := some s.lt, kzUp := true, fallback := false } := by
  have noted (up : Bool) (x : State) (vals : List Byte) : (if up = true then x else x.raise 0xD006 noInst vals).twin = x.twin := by
    split
    · rfl
    · exact State.raise_twin _ _ _ _
  exact ⟨_, rfl, noted _ _ _⟩

/-- A lane that delivers a heartbeat is up, and fallback has ended. -/
theorem State.pathHeard_lane (s : State) (lane : Nat) : (s.pathHeard false lane).twin =
    if lane = 0 then { s.twin with kz0 := some s.lt, kzUp := true, fallback := false } else { s.twin with kz1 := some s.lt, kzUp := true, fallback := false } := by
  obtain ⟨x, heard, twin⟩ := s.pathHeard_eq false lane
  rw [if_neg Bool.false_ne_true] at twin
  have up : x.twin.kzUp = true := by
    rw [twin]
    split <;> rfl
  rw [heard, State.judgeFallback, up, Bool.or_true]
  exact twin

/-- The network path is up once it delivers a heartbeat; whether the mirror moves there depends on the lanes. -/
theorem State.pathHeard_net (s : State) (lane : Nat) : ∃ f, (s.pathHeard true lane).twin = { s.twin with net := some s.lt, netUp := true, fallback := f } := by
  obtain ⟨x, heard, twin⟩ := s.pathHeard_eq true lane
  rw [if_pos rfl] at twin
  have judged : ∃ f, x.judgeFallback.twin = { x.twin with fallback := f } := by
    unfold State.judgeFallback
    split
    · exact ⟨_, rfl⟩
    · exact ⟨_, State.raise_twin _ _ _ _⟩
  obtain ⟨f, judged⟩ := judged
  exact ⟨f, by rw [heard, judged, twin]⟩

end Sys2Proof.Machine
end

section
/-!
PROOFS. Heartbeats and mirror of the twin, by command (R518, R519, R521, R523, R525, R526, R527).
-/
namespace Sys2Proof.Machine
open Sys2Proof

/-! ### Paths and silence -/

/-- The lanes are found down at an instant (R519). -/
def State.lanesDownAt (s : State) (due : Ticks) : State :=
  let x := s.passTo due
  (State.raise { x with twin := { x.twin with kzUp := false } } 0xD005 noInst (leBytes 1 (Config.codeOf .path 0).toNat)).judgeFallback

/-- While no lane is up, the mirror moves to the network path where that is up. -/
theorem State.judgeFallback_moves {s : State} (h : s.twin.kzUp = false) : s.judgeFallback.time = s.time ∧
    s.judgeFallback.twin = { s.twin with fallback := s.twin.fallback || s.twin.netUp } := by
  refine ⟨(State.judgeFallback_frame (w := Part.rcd ||| Part.cnt ||| Part.twin) rfl (Frame.refl _ s)).time rfl, ?_⟩
  unfold State.judgeFallback
  rw [h]
  cases hf : s.twin.fallback
  · cases hn : s.twin.netUp
    · exact congrArg (fun f => { s.twin with fallback := f }) hf
    · exact State.raise_twin _ _ _ _
  · exact congrArg (fun f => { s.twin with fallback := f }) hf

theorem State.lanesDownAt_falls (s : State) (due : Ticks) : due ≤ (s.lanesDownAt due).time.lt ∧
    (s.lanesDownAt due).twin = { s.twin with kzUp := false, fallback := s.twin.fallback || s.twin.netUp } := by
  have passed : due ≤ (s.passTo due).time.lt := s.le_passTo_lt due
  have twin : (s.passTo due).twin = s.twin := s.passTo_twin due
  unfold State.lanesDownAt
  generalize s.passTo due = x at passed twin ⊢
  dsimp only
  obtain ⟨time, fell⟩ := State.judgeFallback_moves (s := State.raise { x with twin := { x.twin with kzUp := false } } 0xD005 noInst
    (leBytes 1 (Config.codeOf .path 0).toNat)) (congrArg Twin.kzUp (State.raise_twin _ _ _ _))
  rw [time, State.raise_time, fell, State.raise_twin, ← twin]
  exact ⟨passed, rfl⟩

theorem State.pathDown_lanes {s : State} (h : s.twin.kzUp = true) :
    s.pathDown false = s.lanesDownAt (max (s.twin.kz0.getD 0) (s.twin.kz1.getD 0) + us 300) := by
  unfold State.pathDown
  rw [if_neg Bool.false_ne_true]
  exact when_of h _ _

/-- The network path is found down at an instant (R519). -/
def State.netDownAt (s : State) (due : Ticks) : State :=
  let x := s.passTo due
  State.raise { x with twin := { x.twin with netUp := false, fallback := false } } 0xD005 noInst (leBytes 1 (Config.codeOf .path 1).toNat)

theorem State.netDownAt_falls (s : State) (due : Ticks) : due ≤ (s.netDownAt due).time.lt ∧
    (s.netDownAt due).twin = { s.twin with netUp := false, fallback := false } := by
  have passed : due ≤ (s.passTo due).time.lt := s.le_passTo_lt due
  have twin : (s.passTo due).twin = s.twin := s.passTo_twin due
  unfold State.netDownAt
  generalize s.passTo due = x at passed twin ⊢
  dsimp only
  rw [State.raise_time, State.raise_twin, ← twin]
  exact ⟨passed, rfl⟩

theorem State.pathDown_net {s : State} {t0 : Ticks} (ht : s.twin.net = some t0) (h : s.twin.netUp = true) :
    s.pathDown true = s.netDownAt (t0 + ms 3) := by
  unfold State.pathDown
  rw [if_pos rfl, ht]
  exact when_of h _ _

/-- A mate that is lost while nothing waits for it. -/
theorem State.loseMate_loses {s : State} (hheld : s.twin.held = []) : s.loseMate.time = s.time ∧ s.loseMate.twin.mateLost = true ∧
    s.loseMate.twin.silent = s.twin.silent ∧ s.loseMate.twin.synced = s.twin.synced ∧ s.loseMate.twin.driving = s.twin.driving := by
  unfold State.loseMate
  split
  · exact ⟨rfl, by assumption, rfl, rfl, rfl⟩
  · dsimp only
    rw [hheld, forEach_nil, State.raise_time, State.raise_twin]
    exact ⟨rfl, rfl, rfl, rfl, rfl⟩

/-- A standby whose line stays low notes it once. -/
theorem State.stayNoted_notes (s : State) (x : State) (hx : x = if (s.twin.lineLow && !s.twin.stayNoted) = true then
      State.raise { s with twin := { s.twin with stayNoted := true } } 0xD008 noInst else s) :
    x.time = s.time ∧ x.twin = { s.twin with stayNoted := s.twin.stayNoted || s.twin.lineLow } := by
  subst hx
  cases low : s.twin.lineLow <;> cases noted : s.twin.stayNoted
  case true.false => exact ⟨State.raise_time _ _ _ _, State.raise_twin _ _ _ _⟩
  all_goals exact ⟨rfl, congrArg (fun f => { s.twin with stayNoted := f }) noted⟩

/-- The state in which the mate's silence is noted (R521, R523). -/
def State.silenced (s : State) : State := { s with twin := { s.twin with silent := true, synced := false, syncStart := none } }

theorem State.mateSilent_eq {s : State} (h : s.inTwin = true) : ∃ x : State, (∀ b, s.twin.beat = some b → b.at_ + s.takeoverT ≤ x.time.lt) ∧
    x.twin = s.twin ∧ x.sys = s.sys ∧ s.mateSilent = if x.silenced.holder = true then x.silenced.loseMate
      else if (x.silenced.judgeRevert.twin.lineLow && !x.silenced.judgeRevert.twin.stayNoted) = true then
        State.raise { x.silenced.judgeRevert with twin := { x.silenced.judgeRevert.twin with stayNoted := true } } 0xD008 noInst
      else x.silenced.judgeRevert := by
  unfold State.mateSilent
  rw [when_of h]
  cases hb : s.twin.beat with
  | none => exact ⟨s, nofun, rfl, rfl, rfl⟩
  | some b =>
    generalize hdue : b.at_ + s.takeoverT = due
    refine ⟨s.passTo due, fun c hc => ?_, s.passTo_twin due, s.passTo_sys due, ?_⟩
    · cases hc
      exact hdue ▸ s.le_passTo_lt due
    · dsimp only
      rw [hdue]
      rfl

/-- Silence of the mate: the holder has lost it, and a standby whose line is low notes that it stays so. -/
theorem State.mateSilent_falls {s : State} (h : s.inTwin = true) (hheld : s.twin.held = []) :
    s.mateSilent.twin.silent = true ∧ s.mateSilent.twin.synced = false ∧ s.mateSilent.twin.driving = s.twin.driving ∧
    (∀ b, s.twin.beat = some b → b.at_ + s.takeoverT ≤ s.mateSilent.time.lt) ∧ (s.holder = true → s.mateSilent.twin.mateLost = true) ∧
    (s.holder = false → s.mateSilent.twin.stayNoted = (s.twin.stayNoted || s.twin.lineLow)) := by
  obtain ⟨x, passed, twin, sys, eq⟩ := State.mateSilent_eq h
  have holds : x.silenced.holder = s.holder := by
    rw [State.holder, State.silenced, sys, twin, State.holder]
  rw [eq, holds]
  cases hs : s.holder
  · rw [if_neg Bool.false_ne_true]
    generalize hy : (if (x.silenced.judgeRevert.twin.lineLow && !x.silenced.judgeRevert.twin.stayNoted) = true then
        State.raise { x.silenced.judgeRevert with twin := { x.silenced.judgeRevert.twin with stayNoted := true } } 0xD008 noInst
      else x.silenced.judgeRevert) = y
    obtain ⟨time, notes⟩ := State.stayNoted_notes _ y hy.symm
    rw [time, notes]
    refine ⟨rfl, rfl, (congrArg Twin.driving twin : x.twin.driving = s.twin.driving), passed, nofun, fun _ => ?_⟩
    rw [← twin]
    rfl
  · rw [if_pos rfl]
    obtain ⟨time, lost, silent, synced, driving⟩ := State.loseMate_loses (s := x.silenced) ((congrArg Twin.held twin).trans hheld)
    rw [time]
    exact ⟨silent, synced, driving.trans (congrArg Twin.driving twin : x.twin.driving = s.twin.driving), passed, fun _ => lost, nofun⟩

end Sys2Proof.Machine
end

section
/-!
PROOFS. The mirror of the twin: what a standby takes of a frame, what an acknowledgement confirms, what is sent again, and how the devices align
(R524 to R527).
-/
namespace Sys2Proof.Machine
open Sys2Proof

/-! ### Numbers that only rise (R527) -/

theorem State.saveNum_keeps (s : State) (id n : Nat) : Frame Part.mem s (s.saveNum id n) := State.saveNum_frame rfl (Frame.refl _ s)

theorem State.raiseCounter_counter (s : State) (k n : Nat) : (s.raiseCounter k n).counterOf k = max (s.counterOf k) n := by
  unfold State.raiseCounter
  split
  · next h => exact (Nat.max_eq_left h).symm
  · next h =>
    rw [State.counterOf, (State.saveNum_keeps _ _ _).sc rfl]
    exact (Table.get_set_self 0 s.sc.counters k n).trans (Nat.max_eq_right (by omega)).symm

theorem State.raiseCycles_cycles (s : State) (p n : Nat) : ((s.raiseCycles p n).portal p).cycles = max (s.portal p).cycles n := by
  unfold State.raiseCycles
  split
  · next h => exact (Nat.max_eq_left h).symm
  · next h =>
    rw [State.portal, (State.saveNum_keeps _ _ _).portals rfl, ← State.portal]
    simp
    omega

theorem State.laterPass_pass (s : State) (n : Nat) {t : Nat} (ht : 0 < t) :
    Table.get none (s.laterPass n t).ilk.btPass n = some (max ((Table.get none s.ilk.btPass n).getD 0) t) := by
  unfold State.laterPass
  split
  · next h =>
    cases hp : Table.get none s.ilk.btPass n with
    | none => rw [hp] at h; exact absurd h (Nat.not_le.2 ht)
    | some v => rw [hp] at h; exact congrArg some (Nat.max_eq_left h).symm
  · next h =>
    rw [(State.saveNum_keeps _ _ _).ilk rfl]
    exact (Table.get_set_self none s.ilk.btPass n (some t)).trans (congrArg some (Nat.max_eq_right (by omega)).symm)

/-! ### Frames at the standby (R524, R525) -/

/-- The items of a frame are taken in order, and its number is the last one applied. -/
def State.applyMirror (s : State) (m : Nat) (items : List (Nat × List Byte)) : State :=
  let x := forEach items State.takeItem s
  { x with twin := { x.twin with applied := m } }

theorem State.mirrorIn_applies {s : State} {b : List Byte} {m : Nat} {items : List (Nat × List Byte)} (hp : mirrorParse b = some (m, items))
    (ht : s.inTwin = true) (hs : s.standby = true) (hm : m = (s.twin.applied + 1) % 2 ^ 32) :
    s.mirrorIn b = (s.applyMirror m items).emit (.mirror (s.applyMirror m items).mirrorLane (ackFrame m)) := by
  unfold State.mirrorIn
  rw [when_of (by rw [ht, hs]; rfl), hp]
  dsimp only
  rw [State.takeMirror, if_neg (not_not.2 hm)]
  rfl

theorem State.mirrorIn_discards {s : State} {b : List Byte} {m : Nat} {items : List (Nat × List Byte)} (hp : mirrorParse b = some (m, items))
    (hm : m ≠ (s.twin.applied + 1) % 2 ^ 32) : s.mirrorIn b = s := by
  unfold State.mirrorIn
  cases s.inTwin && s.standby
  · rfl
  · rw [when_of rfl, hp]
    dsimp only
    rw [State.takeMirror, if_pos hm]
    rfl

theorem State.mirrorIn_broken {s : State} {b : List Byte} (hp : mirrorParse b = none) (ht : s.inTwin = true) (hs : s.standby = true) :
    s.mirrorIn b = s.count 278 := by
  unfold State.mirrorIn
  rw [when_of (by rw [ht, hs]; rfl), hp]

theorem State.applyMirror_outs (s : State) (m : Nat) (items : List (Nat × List Byte)) : (s.applyMirror m items).outs = s.outs :=
  (forEach_frame (w := Part.sc ||| Part.rcd ||| Part.cnt ||| Part.seq ||| Part.portals ||| Part.obs ||| Part.axes ||| Part.links ||| Part.ilk |||
    Part.trdp ||| Part.conns ||| Part.twin ||| Part.mem ||| Part.states ||| Part.actions) (fun _ _ h => State.takeItem_frame rfl h) items (Frame.refl _ s)).outs rfl

/-- The bytes of a number item: the unit it is of, and the number. -/
theorem numberItem_fields {u k : Nat} (n : Nat) (hu : u < 256) : byteAt (beBytes 1 u ++ beBytes k n) 0 = u ∧
    beAt (beBytes 1 u ++ beBytes k n) 1 k = n % 256 ^ k := by
  refine ⟨?_, ?_⟩
  · rw [byteAt_append_left (by simp), byteAt_beBytes_one, Nat.mod_eq_of_lt hu]
  · rw [beAt_append_right (by simp), length_beBytes, Nat.sub_self, beAt_beBytes]

/-- A frame of one number item does what the item says. -/
theorem State.takeItem_counter (s : State) (b : List Byte) : s.takeItem (3, b) = s.raiseCounter (byteAt b 0 % 16) (beAt b 1 8) := rfl
theorem State.takeItem_cycles (s : State) (b : List Byte) : s.takeItem (9, b) = s.raiseCycles (byteAt b 0 % 16) (beAt b 1 5) := rfl
theorem State.takeItem_pass (s : State) (b : List Byte) : s.takeItem (10, b) = s.laterPass (byteAt b 0 % 64) (beAt b 1 6) := rfl

theorem State.applyMirror_one (s : State) (m : Nat) (i : Nat × List Byte) : (s.applyMirror m [i]).sc = (s.takeItem i).sc ∧
    (s.applyMirror m [i]).portals = (s.takeItem i).portals ∧ (s.applyMirror m [i]).ilk = (s.takeItem i).ilk := ⟨rfl, rfl, rfl⟩

theorem State.applyMirror_counter (s : State) (m : Nat) (k : Fin 16) {n : Nat} (hn : n < 2 ^ 64) :
    (s.applyMirror m [(3, beBytes 1 k ++ beBytes 8 n)]).counterOf k = max (s.counterOf k) n := by
  obtain ⟨unit, number⟩ := numberItem_fields (u := k.val) (k := 8) n (by omega)
  rw [Nat.mod_eq_of_lt (by omega)] at number
  rw [State.counterOf, (s.applyMirror_one m _).1, State.takeItem_counter, unit, number, Nat.mod_eq_of_lt k.isLt]
  exact s.raiseCounter_counter k n

theorem State.applyMirror_cycles (s : State) (m : Nat) (p : Fin 16) {n : Nat} (hn : n < 2 ^ 40) :
    ((s.applyMirror m [(9, beBytes 1 p ++ beBytes 5 n)]).portal p).cycles = max (s.portal p).cycles n := by
  obtain ⟨unit, number⟩ := numberItem_fields (u := p.val) (k := 5) n (by omega)
  rw [Nat.mod_eq_of_lt (by omega)] at number
  rw [State.portal, (s.applyMirror_one m _).2.1, State.takeItem_cycles, unit, number, Nat.mod_eq_of_lt p.isLt]
  exact s.raiseCycles_cycles p n

theorem State.applyMirror_pass (s : State) (m : Nat) (u : Fin 64) {n : Nat} (hn : n < 2 ^ 48) (h0 : 0 < n) :
    Table.get none (s.applyMirror m [(10, beBytes 1 u ++ beBytes 6 n)]).ilk.btPass u = some (max ((Table.get none s.ilk.btPass u).getD 0) n) := by
  obtain ⟨unit, number⟩ := numberItem_fields (u := u.val) (k := 6) n (by omega)
  rw [Nat.mod_eq_of_lt (by omega)] at number
  rw [(s.applyMirror_one m _).2.2, State.takeItem_pass, unit, number, Nat.mod_eq_of_lt u.isLt]
  exact s.laterPass_pass u h0

/-! ### Confirmation and repetition (R525, R526) -/

theorem newer_self (m : Nat) : newer m m = false := by
  unfold newer
  rw [decide_eq_false_iff_not]
  omega

/-- The acknowledgement of the one frame in wait confirms it, and the message held back for it goes out. -/
theorem State.mirrorAck_confirms {s : State} {f : MirrorFrame} {off ip : Nat} {msg : List Byte} (ht : s.inTwin = true) (hu : s.twin.unacked = [f])
    (hf : f.mseq < 2 ^ 32) (hn : newer f.mseq s.twin.confirmed = true) (hh : s.twin.held = [(f.mseq, .stl off ip msg)]) : ∃ x : State,
    s.mirrorAck (ackFrame f.mseq) = x.sendTelegram off ip msg ∧ x.twin.confirmed = f.mseq ∧ x.twin.unacked = [] ∧ x.twin.held = [] ∧ x.outs = s.outs := by
  obtain ⟨length, kind, crc, number⟩ := ackFrame_fields f.mseq
  rw [Nat.mod_eq_of_lt hf] at number
  unfold State.mirrorAck
  rw [when_of ht, if_pos ⟨length, kind, crc⟩, number]
  unfold State.confirm
  rw [if_neg (by simp [hn, hu])]
  dsimp only
  rw [hh, hu]
  simp only [List.filter_cons, List.filter_nil, newer_self, Bool.not_false, if_true, Bool.false_eq_true, if_false, forEach_cons, forEach_nil]
  exact ⟨_, rfl, rfl, rfl, rfl, rfl⟩

/-- Outputs that are made one after another, each told by its operand and by what an output does not change. -/
theorem forEach_emits {α : Type} {o : State → α → Out} (ho : ∀ (s : State) (l : List Out) (a : α), o { s with outs := l } a = o s a) :
    ∀ (l : List α) (s : State), forEach l (fun s a => s.emit (o s a)) s = { s with outs := s.outs ++ l.map (o s) }
  | [], s => by simp
  | a :: l, s => by
    have same : o (s.emit (o s a)) = o s := funext fun c => ho s _ c
    rw [forEach_cons, forEach_emits ho l, same, List.map_cons, State.emit_outs, List.append_assoc]
    rfl

/-- Frames in wait are sent again, in order, at an instant. -/
def State.mirrorAgainAt (s : State) (due : Ticks) (l : List MirrorFrame) : State :=
  let x := s.passTo due
  forEach l (fun s g => s.emit (.mirror s.mirrorLane (mirrorFrameBytes g.mseq g.items)))
    (State.count { x with twin := { x.twin with unacked := l.map (fun g => { g with sent := x.lt }) } } 277 l.length)

theorem State.mirrorResend_eq {s : State} {f : MirrorFrame} {fs : List MirrorFrame} (hu : s.twin.unacked = f :: fs) (hf : s.twin.fallback = false) :
    s.mirrorResend = s.mirrorAgainAt (f.sent + us 50) (f :: fs) := by
  unfold State.mirrorResend
  rw [hu]
  exact when_of (by rw [hf]; rfl) _ _

theorem State.mirrorAgainAt_sends (s : State) (due : Ticks) (l : List MirrorFrame) : due ≤ (s.mirrorAgainAt due l).time.lt ∧
    (s.mirrorAgainAt due l).twin.unacked = l.map (fun g => { g with sent := (s.mirrorAgainAt due l).time.lt }) ∧
    (s.mirrorAgainAt due l).outs = s.outs ++ l.map (fun g => .mirror (s.mirrorAgainAt due l).mirrorLane (mirrorFrameBytes g.mseq g.items)) := by
  have passed : due ≤ (s.passTo due).time.lt := s.le_passTo_lt due
  have outs : (s.passTo due).outs = s.outs := s.passTo_outs due
  unfold State.mirrorAgainAt
  dsimp only
  generalize s.passTo due = x at passed outs ⊢
  generalize hy : State.count { x with twin := { x.twin with unacked := l.map (fun g => { g with sent := x.lt }) } } 277 l.length = y
  rw [forEach_emits (o := fun s (g : MirrorFrame) => Out.mirror s.mirrorLane (mirrorFrameBytes g.mseq g.items)) (fun _ _ _ => rfl) l y]
  subst hy
  exact ⟨passed, rfl, congrArg (· ++ _) outs⟩

/-! ### Alignment (R527) -/

theorem State.joinHoldQ_nextAcc (s : State) (n : NumRec) : (s.joinHoldQ n).rcd.nextAcc = s.rcd.nextAcc := by
  unfold State.joinHoldQ
  split <;> rfl

theorem State.raise_nextAcc (s : State) (code inst : Nat) (vals : List Byte) : (s.raise code inst vals).rcd.nextAcc = s.rcd.nextAcc := by
  obtain ⟨_, _, _, rcd⟩ := raise_rcd' s code inst vals
  rw [rcd]

theorem State.placeNumbered_nextAcc (s : State) (n : NumRec) : (s.placeNumbered n).rcd.nextAcc = s.rcd.nextAcc := by
  unfold State.placeNumbered
  split
  · dsimp only
    split
    · exact State.joinHoldQ_nextAcc _ n
    · rfl
  · split
    · split
      · dsimp only
        split
        · exact State.raise_nextAcc _ _ _ _
        · rfl
      · rfl
    · split
      · exact State.joinHoldQ_nextAcc s n
      · rfl

/-- Gap records over numbers are placed once the numbers have been passed. -/
theorem State.gapOver_places (s : State) (n cause : Nat) : ∃ l x, s.gapOver n cause = forEach l State.placeNumbered x ∧
    x.rcd.nextAcc = s.rcd.nextAcc + n := ⟨_, _, rfl, rfl⟩

theorem State.gapOver_nextAcc (s : State) (n cause : Nat) : (s.gapOver n cause).rcd.nextAcc = s.rcd.nextAcc + n := by
  obtain ⟨l, x, places, passed⟩ := s.gapOver_places n cause
  rw [places]
  exact forEach_keeps (P := fun x => x.rcd.nextAcc = s.rcd.nextAcc + n) (fun x r h => (x.placeNumbered_nextAcc r).trans h) l x passed

end Sys2Proof.Machine
end

section
/-!
PROOFS. Heartbeats and mirror of the twin, by command (R518, R519, R521, R523, R525 to R527).
-/
namespace Sys2Proof.Machine
open Sys2Proof

/-! ### Alignment of the devices (R527) -/

theorem State.align_sys (s : State) (next : Nat) (cnts cycles passes : List Nat) :
    Frame (Part.sc ||| Part.rcd ||| Part.cnt ||| Part.portals ||| Part.ilk ||| Part.mem) s (s.align next cnts cycles passes) :=
  State.align_frame rfl (Frame.refl _ s)

/-- The gap record that covers the mate's numbers, where it is ahead. -/
def State.aligned (s : State) (next : Nat) : State := if s.rcd.nextAcc < next then s.gapOver (next - s.rcd.nextAcc) 7 else s

theorem State.aligned_nextAcc (s : State) (next : Nat) : (s.aligned next).rcd.nextAcc = max s.rcd.nextAcc next := by
  unfold State.aligned
  split
  · rw [State.gapOver_nextAcc]
    omega
  · omega

theorem State.aligned_keeps (s : State) (next : Nat) : Frame (Part.rcd ||| Part.cnt ||| Part.mem) s (s.aligned next) := by
  unfold State.aligned
  split
  · exact State.gapOver_frame rfl (Frame.refl _ s)
  · exact Frame.refl _ s

theorem forEach_raiseCounter_keeps (l : List (Nat × Nat)) (s : State) :
    Frame (Part.sc ||| Part.mem) s (forEach l (fun s e => s.raiseCounter e.2 e.1) s) :=
  forEach_frame (fun _ _ h => State.raiseCounter_frame rfl h) l (Frame.refl _ s)

theorem forEach_raiseCycles_keeps (l : List (Nat × Nat)) (s : State) :
    Frame (Part.portals ||| Part.mem) s (forEach l (fun s e => s.raiseCycles e.2 e.1) s) :=
  forEach_frame (fun _ _ h => State.raiseCycles_frame rfl h) l (Frame.refl _ s)

theorem forEach_laterPass_keeps (l : List (Nat × Nat)) (s : State) :
    Frame (Part.ilk ||| Part.mem) s (forEach l (fun s e => s.laterPass e.2 e.1) s) :=
  forEach_frame (fun _ _ h => State.laterPass_frame rfl h) l (Frame.refl _ s)

/-- What the devices align, each from what it was. -/
theorem State.align_aligns (s : State) (next : Nat) (cnts cycles passes : List Nat) :
    (s.align next cnts cycles passes).rcd.nextAcc = max s.rcd.nextAcc next ∧
    (∀ c, cnts = [c] → (s.align next cnts cycles passes).counterOf 0 = max (s.counterOf 0) c) ∧
    ∀ c, cycles = [c] → ((s.align next cnts cycles passes).portal 0).cycles = max (s.portal 0).cycles c := by
  have gap := s.aligned_keeps next
  have stages : s.align next cnts cycles passes = forEach (passes.take 64).zipIdx (fun s e => s.laterPass e.2 e.1)
    (forEach (cycles.take 16).zipIdx (fun s e => s.raiseCycles e.2 e.1) (forEach (cnts.take 16).zipIdx (fun s e => s.raiseCounter e.2 e.1) (s.aligned next))) := rfl
  rw [stages]
  refine ⟨?_, ?_, ?_⟩
  · rw [(forEach_laterPass_keeps _ _).rcd rfl, (forEach_raiseCycles_keeps _ _).rcd rfl, (forEach_raiseCounter_keeps _ _).rcd rfl, State.aligned_nextAcc]
  · rintro c rfl
    rw [State.counterOf, (forEach_laterPass_keeps _ _).sc rfl, (forEach_raiseCycles_keeps _ _).sc rfl]
    refine ((s.aligned next).raiseCounter_counter 0 c).trans ?_
    rw [State.counterOf, gap.sc rfl, State.counterOf]
  · rintro c rfl
    rw [State.portal, (forEach_laterPass_keeps _ _).portals rfl]
    refine (State.raiseCycles_cycles _ 0 c).trans ?_
    rw [State.portal, (forEach_raiseCounter_keeps _ _).portals rfl, gap.portals rfl, State.portal]

/-- The transfer completes where it was begun and the mate is heard. -/
theorem State.synced_completes {s : State} (ht : s.inTwin = true) (hstart : s.twin.syncStart.isSome = true) (hs : s.twin.silent = false) (next : Nat)
    (cnts cycles passes : List Nat) : ∃ x, x = s.align next cnts cycles passes ∧ (s.synced next cnts cycles passes).rcd.nextAcc = x.rcd.nextAcc ∧
    (s.synced next cnts cycles passes).sc = x.sc ∧ (s.synced next cnts cycles passes).portals = x.portals ∧
    (s.synced next cnts cycles passes).twin.synced = (s.standby || s.twin.synced) := by
  refine ⟨_, rfl, ?_⟩
  have frame := s.align_sys next cnts cycles passes
  unfold State.synced
  rw [when_of (by rw [ht, hstart, hs]; rfl)]
  generalize s.align next cnts cycles passes = x at frame ⊢
  have role : State.standby { x with twin := { x.twin with syncStart := none } } = s.standby := by
    rw [State.standby, State.holder, frame.sys rfl, frame.twin rfl, State.standby, State.holder]
  dsimp only
  rw [role, ← frame.twin rfl]
  cases s.standby
  · exact ⟨rfl, rfl, rfl, rfl⟩
  · rw [if_pos rfl]
    exact ⟨State.raise_nextAcc _ _ _ _, State.raise_sc _ _ _ _, State.raise_portals _ _ _ _, congrArg Twin.synced (State.raise_twin _ _ _ _)⟩

/-! ### A heartbeat of the network (R519) -/

/-- An accepted telegram of the mate: its number is noted, then the heartbeat, and at a standby the mirror block behind it. -/
def State.netBeat (s : State) (d b : List Byte) (low : Bool) : State :=
  let x : State := { s with twin := { s.twin with netRx := some (beAt b 2 2) } }
  let y := x.acceptBeat (beatOf x d) true 0 low
  if y.standby then State.blockIn 64 y (b.drop 36) else y

/-- The fields of the telegram are those of the heartbeat in it. -/
theorem netBeat_fields {k b : List Byte} (hb : b.length = 36) (h0 : byteAt b 0 = 1) : (b ++ tag16 k b).length = 52 ∧ (b ++ tag16 k b).take 36 = b ∧
    (b ++ tag16 k b).drop 36 = tag16 k b ∧ byteAt (b ++ tag16 k b) 0 = 1 ∧ beAt (b ++ tag16 k b) 2 2 = beAt b 2 2 := by
  refine ⟨by rw [List.length_append, hb, length_tag16], ?_, ?_, ?_, ?_⟩
  · rw [← hb, List.take_left]
  · rw [← hb, List.drop_left]
  · rw [byteAt_append_left (by omega), h0]
  · exact beAt_append_left (by omega)

section Net
variable {s : State} {t : Telegram} {k b : List Byte} (hrx : s.trdpRx t = (s.received t.src, some (3, b ++ tag16 k b))) (ht : s.inTwin = true)
  (hsrc : t.src = s.mateIp) (hk : s.beatKey = some k) (hb : b.length = 36) (h0 : byteAt b 0 = 1)
include hrx ht hsrc hk hb h0

/-- The checks of R519 all pass but the one of HB_SEQ, which decides. -/
theorem State.netIn_judged (low : Bool) :
    ((∀ l, s.twin.netRx = some l → 1 ≤ (beAt b 2 2 + 65536 - l) % 65536 ∧ (beAt b 2 2 + 65536 - l) % 65536 ≤ 32767) →
      s.netIn t low = (s.received t.src).netBeat (b ++ tag16 k b) b low) ∧
    (∀ l, s.twin.netRx = some l → (beAt b 2 2 + 65536 - l) % 65536 = 0 ∨ 32767 < (beAt b 2 2 + 65536 - l) % 65536 →
      s.netIn t low = ((s.received t.src).setLine low).count 279) := by
  obtain ⟨length, front, back, version, seq⟩ := netBeat_fields (k := k) hb h0
  have room : (b ++ tag16 k b).length - 16 = 36 := by rw [length]
  have frame := s.received_frame t.src
  have rx : (s.received t.src).twin.netRx = s.twin.netRx := by rw [frame.twin rfl]
  have inTwin : (s.received t.src).inTwin = true := by rw [State.inTwin, State.locked, frame.sys rfl]; exact ht
  have mate : (s.received t.src).mateIp = s.mateIp := by rw [State.mateIp, State.reg, frame.regs rfl, State.mateIp, State.reg]
  have key : (s.received t.src).beatKey = some k := (State.beatKey_congr (frame.regs rfl) (frame.sc rfl)).trans hk
  have whole : decide (52 ≤ 52 ∧ t.src = s.mateIp ∧ 1 = 1) = true := decide_eq_true ⟨le_rfl, hsrc, rfl⟩
  unfold State.netIn
  rw [hrx]
  dsimp only
  rw [if_neg (by simp), inTwin, room, length, key, mate, version, rx, whole, front, back, seq]
  dsimp only
  simp only [decide_true, Bool.and_true, Bool.true_and, Bool.not_true, Bool.false_eq_true, if_false]
  refine ⟨fun newer => ?_, fun l hl stale => ?_⟩
  · cases hl : s.twin.netRx with
    | none => rfl
    | some l =>
      exact if_neg (by dsimp only; rw [decide_eq_true (newer l hl)]; decide)
  · rw [hl]
    exact if_pos (by dsimp only; rw [decide_eq_false (by omega)]; decide)

end Net

/-- What a heartbeat of the network leaves: it is heard and its number is noted; there is no mirror block behind it. -/
theorem State.netBeat_hears {s : State} {d b : List Byte} (hb : b.length = 36) (hheld : s.twin.held = []) (low : Bool) : ∃ m, m.flags = byteAt d 1 ∧
    m.cause = byteAt d 28 ∧ m.version = beAt d 12 4 ∧ m.pcrc = beAt d 16 4 ∧ m.mack = beAt d 20 4 ∧ m.links = beAt d 24 4 ∧ m.at_ = s.lt ∧
    (s.netBeat d b low).twin.silent = false ∧ (s.netBeat d b low).twin.beat = some m ∧ (s.netBeat d b low).twin.netRx = some (beAt b 2 2) ∧
    (s.netBeat d b low).twin.netUp = true ∧ (s.netBeat d b low).twin.net = some s.lt := by
  let x : State := { s with twin := { s.twin with netRx := some (beAt b 2 2) } }
  obtain ⟨f, path⟩ := (x.setLine low).pathHeard_net 0
  have hears := x.acceptBeat_hears hheld (beatOf x d) true 0 low (congrArg Twin.held path :)
  have whole : s.netBeat d b low = x.acceptBeat (beatOf x d) true 0 low := by
    have none : b.drop 36 = [] := List.drop_eq_nil_of_le hb.le
    rw [State.netBeat, none]
    exact ite_self _
  obtain ⟨beat, silent, -, -, net, -, netUp, netRx, -, -⟩ := hears
  refine ⟨beatOf x d, rfl, rfl, rfl, rfl, rfl, rfl, rfl, ?_⟩
  rw [whole]
  exact ⟨silent, beat, netRx.trans (congrArg Twin.netRx path), netUp.trans (congrArg Twin.netUp path), net.trans (congrArg Twin.net path)⟩

/-- What a heartbeat of a lane leaves. -/
theorem State.laneBeat_hears {s : State} (b : List Byte) (hheld : s.twin.held = []) (lane : Fin 2) (low : Bool) :
    (s.acceptBeat (beatOf s b) false lane low).twin.silent = false ∧ (s.acceptBeat (beatOf s b) false lane low).twin.beat = some (beatOf s b) ∧
    (s.acceptBeat (beatOf s b) false lane low).twin.kzUp = true ∧ (s.acceptBeat (beatOf s b) false lane low).twin.fallback = false ∧
    (s.acceptBeat (beatOf s b) false lane low).twin.lineLow = low ∧
    (if lane = 0 then (s.acceptBeat (beatOf s b) false lane low).twin.kz0 = some s.lt else (s.acceptBeat (beatOf s b) false lane low).twin.kz1 = some s.lt) := by
  have path := (s.setLine low).pathHeard_lane lane
  have held : ((s.setLine low).pathHeard false lane).twin.held = s.twin.held := by
    rw [path]
    split <;> rfl
  obtain ⟨beat, silent, kz0, kz1, -, kzUp, -, -, fallback, lineLow⟩ := s.acceptBeat_hears hheld (beatOf s b) false lane low held
  refine ⟨silent, beat, ?_⟩
  rw [kz0, kz1, kzUp, fallback, lineLow, path]
  by_cases first : lane = 0
  · subst first
    exact ⟨rfl, rfl, rfl, rfl⟩
  · rw [if_neg first, if_neg (fun h : lane.val = 0 => first (Fin.ext h))]
    exact ⟨rfl, rfl, rfl, rfl⟩

/-! ### O52 -/

theorem State.kazukBeat_told {s : State} (h : s.inTwin = true) (lane : Fin 2) : (s.fresh.kazukBeat lane).twin.kzSeq = (s.twin.kzSeq + 1) % 65536 ∧
    ∃ b, (s.fresh.kazukBeat lane).outs = [.heartbeat lane b] ∧ (b.length = 36 ∧ byteAt b 0 = 1 ∧ beAt b 32 4 = crc32c (b.take 32)) ∧
      beAt b 2 2 = s.twin.kzSeq % 65536 ∧ (byteAt b 1).testBit 0 = s.holder ∧ (byteAt b 1).testBit 1 = s.twin.releasing.isSome ∧
      (byteAt b 1).testBit 2 = s.eligible := by
  obtain ⟨due, x, passed, sends⟩ := State.kazukBeat_sends (s := s.fresh) h lane
  have frame := s.fresh.passToTt_keeps due
  rw [← passed] at frame
  have twin : x.twin = s.twin := frame.twin rfl
  have outs : x.outs = [] := frame.outs rfl
  obtain ⟨holder, eligible⟩ := State.heartbeat_state frame rfl rfl rfl
  obtain ⟨seq, bit0, bit1, bit2⟩ := x.heartbeat_fields x.twin.kzSeq
  rw [sends, State.kazukSend, State.emit_outs]
  refine ⟨by rw [State.emit_twin, twin], x.heartbeat x.twin.kzSeq, by rw [outs]; rfl, ⟨x.length_heartbeat _, x.heartbeat_intact _⟩, ?_⟩
  rw [seq, bit0, bit1, bit2, twin, holder, eligible]
  exact ⟨rfl, rfl, rfl, rfl⟩

theorem State.netSend_told {s : State} {k : List Byte} (h : s.inTwin = true) (hon : s.trdpOn = true) (hk : s.beatKey = some k) :
    Completes .netHeartbeatSend s (fun t => t.twin.netSeq = (s.twin.netSeq + 1) % 65536 ∧ ∃ etb op b, t.outs = [.telegram 3 s.mateIp etb op (b ++ tag16 k b)] ∧
      ((b.take 36).length = 36 ∧ byteAt (b.take 36) 0 = 1 ∧ beAt (b.take 36) 32 4 = crc32c ((b.take 36).take 32)) ∧ beAt b 2 2 = s.twin.netSeq % 65536 ∧
      (s.twin.fallback = false → b.length = 36)) := by
  refine completes_fresh (f := fun s => when_ (s.inTwin && s.trdpOn) (fun s => (s.passToTt ((s.tt / 1000000 + 1) * 1000000)).netSend) s) rfl ?_
  have gate : (s.fresh.inTwin && s.fresh.trdpOn) = true := by
    rw [show s.fresh.inTwin = true from h, show s.fresh.trdpOn = true from hon]
    rfl
  rw [when_of gate]
  have frame := s.fresh.passToTt_keeps ((s.fresh.tt / 1000000 + 1) * 1000000)
  generalize s.fresh.passToTt _ = x at frame ⊢
  have twin : x.twin = s.twin := frame.twin rfl
  have mate : x.mateIp = s.mateIp := by rw [State.mateIp, State.reg, frame.regs rfl]; rfl
  obtain ⟨etb, op, seq, outs⟩ := State.netSend_sends (s := x) ((State.beatKey_congr (frame.regs rfl) (frame.sc rfl)).trans hk)
  rw [frame.outs rfl, mate] at outs
  have length := x.length_heartbeat x.twin.netSeq
  have front : (x.heartbeat x.twin.netSeq ++ x.mirrorBlock).take 36 = x.heartbeat x.twin.netSeq := by rw [← length, List.take_left]
  refine ⟨by rw [seq, twin], etb, op, _, outs, by rw [front]; exact ⟨length, x.heartbeat_intact _⟩, ?_, fun hf => ?_⟩
  · rw [beAt_append_left (by omega), (x.heartbeat_fields _).1, twin]
  · rw [State.mirrorBlock, twin, if_neg (by simp [hf]), List.append_nil, State.length_heartbeat]

theorem State.kazukIn_told {s : State} (ht : s.inTwin = true) (lane : Fin 2) (b : List Byte) (low : Bool) :
    (b.length = 36 ∧ byteAt b 0 = 1 ∧ beAt b 32 4 = crc32c (b.take 32) → s.kazukIn lane b low = s.acceptBeat (beatOf s b) false lane low) ∧
    (¬ (b.length = 36 ∧ byteAt b 0 = 1 ∧ beAt b 32 4 = crc32c (b.take 32)) → s.kazukIn lane b low = (s.setLine low).count 278) := by
  refine ⟨fun whole => ?_, fun broken => ?_⟩
  · rw [State.kazukIn, when_of ht, if_pos whole]
  · rw [State.kazukIn, when_of ht, if_neg broken]

theorem State.applyMirror_told (s : State) (m : Nat) (items : List (Nat × List Byte)) (o : Out) (x : State) (hx : x = (s.applyMirror m items).emit o) :
    x.twin.applied = m ∧ x.outs = s.outs ++ [o] ∧ x.sc = (s.applyMirror m items).sc ∧ x.portals = (s.applyMirror m items).portals ∧
    x.ilk = (s.applyMirror m items).ilk := by
  subst hx
  exact ⟨rfl, by rw [State.emit_outs, State.applyMirror_outs], rfl, rfl, rfl⟩

/-- Settles O52, command by command: each clause is what the lemmas above say of the operation that runs. -/
theorem twinHeartbeatsAndMirror : Obligations.TwinHeartbeatsAndMirror := by
  unfold Obligations.TwinHeartbeatsAndMirror
  intro s
  dsimp only
  refine ⟨fun lane ht => ?kazukSend, fun k ht hon hk => ?netSend, fun lane b low ht hheld => ⟨fun whole => ?kazukIn, fun broken => ?kazukBroken⟩,
    fun t b k low hrx ht hheld hsrc hk hb h0 => ?net, fun hup => ?lanes, fun t0 hnet hup => ?path, fun ht hheld => ?silent,
    fun b m items hp ht hs => ⟨fun hm => ?applies, fun hm => ?discards⟩, fun b hp ht hs => ?brokenMirror, fun f off ip msg ht hu hf hn hh => ?ack,
    fun f fs hu hf => ?again, fun next cnts cycles passes ht hstart hs => ?synced⟩
  case kazukSend => exact completes_fresh (f := fun s => s.kazukBeat lane) rfl (State.kazukBeat_told ht lane)
  case netSend => exact State.netSend_told ht hon hk
  case kazukIn =>
    refine completes_fresh (f := fun s => s.kazukIn lane b low) rfl ?_
    rw [(State.kazukIn_told (s := s.fresh) ht lane b low).1 whole]
    obtain ⟨silent, beat, rest⟩ := State.laneBeat_hears (s := s.fresh) b hheld lane low
    exact ⟨⟨silent, _, beat, rfl, rfl, rfl, rfl, rfl, rfl, rfl⟩, rest⟩
  case kazukBroken =>
    refine completes_fresh (f := fun s => s.kazukIn lane b low) rfl ?_
    rw [(State.kazukIn_told (s := s.fresh) ht lane b low).2 broken]
    exact ⟨rfl, rfl, rfl, ((s.fresh.setLine low).count_at 278 1).1⟩
  case net =>
    have accepted := State.trdpRx_accepted ((s.trdpRx_fresh t).trans hrx)
    have judged := State.netIn_judged (s := s.fresh) accepted ht hsrc hk hb h0 low
    have frame := s.fresh.received_frame t.src
    have twin : (s.fresh.received t.src).twin = s.twin := frame.twin rfl
    refine ⟨fun newer => completes_fresh (f := fun s => s.netIn t low) rfl ?_, fun l hl stale => completes_fresh (f := fun s => s.netIn t low) rfl ?_⟩
    · rw [judged.1 newer]
      have hheld' : (s.fresh.received t.src).twin.held = [] := by rw [twin, hheld]
      have lt : (s.fresh.received t.src).lt = s.lt := by rw [State.lt, frame.time rfl]; rfl
      have field {o n : Nat} (h : o + n ≤ 36) : beAt (b ++ tag16 k b) o n = beAt b o n := beAt_append_left (by omega)
      obtain ⟨m, flags, cause, version, pcrc, mack, links, at_, silent, beat, netRx, netUp, net⟩ :=
        State.netBeat_hears (d := b ++ tag16 k b) hb hheld' low
      rw [byteAt_append_left (by omega)] at flags cause
      rw [field (by decide)] at version pcrc mack links
      exact ⟨⟨silent, m, beat, flags, cause, version, pcrc, mack, links, at_.trans lt⟩, netRx, netUp, net.trans (congrArg some lt)⟩
    · rw [judged.2 l hl stale]
      have counted : (((s.fresh.received t.src).setLine low).count 279).twin = ((s.fresh.received t.src).setLine low).twin := rfl
      rw [counted, State.setLine, twin]
      exact ⟨rfl, hl, rfl⟩
  case lanes =>
    refine completes_fresh (f := fun s => s.pathDown false) rfl ?_
    obtain ⟨passed, twin⟩ := s.fresh.lanesDownAt_falls (max (s.twin.kz0.getD 0) (s.twin.kz1.getD 0) + us 300)
    rw [State.pathDown_lanes (s := s.fresh) hup]
    have latest {t0 : Ticks} (h : t0 ≤ max (s.twin.kz0.getD 0) (s.twin.kz1.getD 0)) := (Nat.add_le_add_right h (us 300)).trans passed
    exact ⟨congrArg Twin.kzUp twin, congrArg Twin.fallback twin, fun t0 h => latest (by rw [h]; exact le_max_left _ _),
      fun t0 h => latest (by rw [h]; exact le_max_right _ _)⟩
  case path =>
    refine completes_fresh (f := fun s => s.pathDown true) rfl ?_
    obtain ⟨passed, twin⟩ := s.fresh.netDownAt_falls (t0 + ms 3)
    rw [State.pathDown_net (s := s.fresh) hnet hup]
    exact ⟨congrArg Twin.netUp twin, congrArg Twin.fallback twin, passed⟩
  case silent => exact completes_fresh (f := State.mateSilent) rfl (State.mateSilent_falls (s := s.fresh) ht hheld)
  case applies =>
    refine completes_fresh (f := fun s => s.mirrorIn b) rfl ?_
    rw [State.mirrorIn_applies (s := s.fresh) hp ht hs hm]
    obtain ⟨applied, outs, sc, portals, ilk⟩ := s.fresh.applyMirror_told m items _ _ rfl
    refine ⟨applied, ⟨_, outs⟩, fun k n hn hi => ?_, fun p n hn hi => ?_, fun n w hw hi h0 => ?_⟩
    · rw [State.counterOf, sc, hi]
      exact s.fresh.applyMirror_counter m k hn
    · rw [State.portal, portals, hi]
      exact s.fresh.applyMirror_cycles m p hn
    · rw [ilk, hi]
      exact s.fresh.applyMirror_pass m n hw h0
  case discards =>
    refine completes_fresh (f := fun s => s.mirrorIn b) rfl ?_
    rw [State.mirrorIn_discards (s := s.fresh) hp hm]
    exact ⟨rfl, rfl, rfl, rfl⟩
  case brokenMirror =>
    refine completes_fresh (f := fun s => s.mirrorIn b) rfl ?_
    rw [State.mirrorIn_broken (s := s.fresh) hp ht hs]
    exact ⟨rfl, (s.fresh.count_at 278 1).1⟩
  case ack =>
    refine completes_fresh (f := fun s => s.mirrorAck (ackFrame f.mseq)) rfl ?_
    obtain ⟨x, sends, confirmed, unacked, held, outs⟩ := State.mirrorAck_confirms (s := s.fresh) ht hu hf hn hh
    obtain ⟨etb, op, sent⟩ := x.sendTelegram_outs off ip msg
    have twin := (State.sendTelegram_frame (w := Part.cnt ||| Part.outs) (off := off) (ip := ip) (data := msg) rfl (Frame.refl _ x)).twin rfl
    rw [sends, twin, sent, outs]
    exact ⟨confirmed, unacked, held, etb, op, rfl⟩
  case again =>
    refine completes_fresh (f := State.mirrorResend) rfl ?_
    rw [State.mirrorResend_eq (s := s.fresh) hu hf]
    exact s.fresh.mirrorAgainAt_sends _ _
  case synced =>
    refine completes_fresh (f := fun s => s.synced next cnts cycles passes) rfl ?_
    obtain ⟨x, aligned, nextAcc, sc, portals, synced⟩ := State.synced_completes (s := s.fresh) ht hstart hs next cnts cycles passes
    obtain ⟨next', counters, cycles'⟩ := s.fresh.align_aligns next cnts cycles passes
    rw [← aligned] at next' counters cycles'
    refine ⟨nextAcc.trans next', synced, fun c h => ?_, fun c h => ?_⟩
    · rw [State.counterOf, sc]
      exact counters c h
    · rw [State.portal, portals]
      exact cycles' c h

end Sys2Proof.Machine
end

section
/-!
PROOFS. The recorder: its intake, and what goes on beside the store (R545 to R547, R556, R565, R566, R173).
-/
namespace Sys2Proof.Machine
open Sys2Proof

/-! ### Records and bytes -/

theorem padTo_append {n : Nat} {a b : List Byte} (h : a.length ≤ n) : padTo n (a ++ b) = a ++ padTo (n - a.length) b := by
  unfold padTo
  rw [List.take_append, List.take_of_length_le h, List.append_assoc, List.length_append, Nat.sub_add_eq]

/-- A little-endian field that stands behind `a` and is followed by `c`. -/
theorem leAt_field {a c : List Byte} {k o : Nat} (v : Nat) (h : a.length = o) : leAt (a ++ (leBytes k v ++ c)) o k = v % 256 ^ k := by
  rw [leAt, slice_append_right h.le, h, Nat.sub_self, slice_append_left (by simp), slice_self (by simp), leNat_leBytes]

theorem leAt_first {c : List Byte} {k : Nat} (v : Nat) : leAt (leBytes k v ++ c) 0 k = v % 256 ^ k := by
  rw [leAt, slice_append_left (by simp), slice_self (by simp), leNat_leBytes]

theorem leAt_skip {a c : List Byte} {o k : Nat} (h : a.length ≤ o) : leAt (a ++ c) o k = leAt c (o - a.length) k := by
  rw [leAt, slice_append_right h, leAt]

theorem byteAt_leBytes {c : List Byte} (v : Nat) : byteAt (leBytes 1 v ++ c) 0 = v % 256 := BitVec.toNat_ofNat _ _

theorem length_recordBytes (d : Bool) (n : NumRec) : (recordBytes d n).length = 32 := by
  unfold recordBytes
  split <;> simp

theorem State.memBytes_setMem (s : State) (a : Nat) {b : List Byte} {n : Nat} (h : b.length = n) : (s.setMem a b).memBytes a n = b := by
  subst h
  refine List.ext_getElem (by simp [State.memBytes]) (fun i hi _ => ?_)
  simp only [State.memBytes, List.getElem_map, List.getElem_range]
  exact get_storeBytes_in 0 b s.mem a i _

/-! ### Work beside the store -/

/-- The recorder but for its intake and its repeats, and for what waits to be published, captured or signed. -/
def Recorder.core (r : Recorder) : Recorder :=
  { r with intake := [], gapOpen := false, repeats := [], pubQ := [], pubSince := 0, captures := [], sigQ := [] }

/-- Parts that work beside the store may change. -/
def besideParts : Nat := Part.rcd ||| Part.cnt ||| Part.obs ||| Part.twin ||| Part.mem ||| Part.outs

/-- Work beside the store: the recorder's numbers, queues and slots stay, of the counters CNT225 and CNT272 may count, and in memory the
signatures alone change, in degraded mode nothing. -/
structure State.Beside (s t : State) : Prop where
  core : t.rcd.core = s.rcd.core
  counter : ∀ k, k ≠ 225 → k ≠ 272 → Table.get 0 t.cnt.value k = Table.get 0 s.cnt.value k
  memory : ∀ a, a < 0x01B00000 → t.memByte a = s.memByte a
  held : s.rcd.degraded = true → t.mem = s.mem
  frame : Frame besideParts s t

theorem State.Beside.refl (s : State) : s.Beside s := ⟨rfl, fun _ _ _ => rfl, fun _ _ => rfl, fun _ => rfl, Frame.refl _ s⟩

theorem State.Beside.trans {s t u : State} (h : s.Beside t) (k : t.Beside u) : s.Beside u where
  core := k.core.trans h.core
  counter i h1 h2 := (k.counter i h1 h2).trans (h.counter i h1 h2)
  memory a ha := (k.memory a ha).trans (h.memory a ha)
  held hd := (k.held ((congrArg Recorder.degraded h.core).trans hd)).trans (h.held hd)
  frame := h.frame.trans k.frame

/-- Work that leaves memory as it was. -/
theorem State.Beside.of_mem {s t : State} (core : t.rcd.core = s.rcd.core)
    (counter : ∀ k, k ≠ 225 → k ≠ 272 → Table.get 0 t.cnt.value k = Table.get 0 s.cnt.value k) (mem : t.mem = s.mem) (frame : Frame besideParts s t) :
    s.Beside t := ⟨core, counter, fun a _ => congrArg (Table.get 0 · a) mem, fun _ => mem, frame⟩

theorem State.raise_beside (s : State) (code inst : Nat) (vals : List Byte) : s.Beside (s.raise code inst vals) := by
  obtain ⟨_, _, _, rcd⟩ := raise_rcd' s code inst vals
  exact .of_mem (by rw [rcd]; rfl) (fun k _ h => State.raiseBody_counter s code _ h) (s.raise_mem code inst vals) (State.raise_frame rfl (Frame.refl _ s))

theorem State.mirror_beside (s : State) (kind : Nat) (body : List Byte) : s.Beside (s.mirror kind body) := by
  have frame := State.mirror_frame (w := Part.twin ||| Part.outs) (kind := kind) (body := body) rfl (Frame.refl _ s)
  exact .of_mem (by rw [frame.rcd rfl]) (fun k _ _ => by rw [frame.cnt rfl]) (frame.mem rfl) (frame.mono rfl)

theorem State.mirror_twin (s : State) (kind : Nat) (body : List Byte) : ∃ m u, (s.mirror kind body).twin = { s.twin with mseq := m, unacked := u } := by
  unfold State.mirror
  split
  · dsimp only
    split <;> exact ⟨_, _, rfl⟩
  · exact ⟨_, _, rfl⟩

theorem State.mirrorObs_beside (s old : State) (n : Nat) : s.Beside (s.mirrorObs old n) := by
  have frame := State.mirrorObs_frame (w := Part.twin ||| Part.outs) (old := old) (n := n) rfl (Frame.refl _ s)
  exact .of_mem (by rw [frame.rcd rfl]) (fun k _ _ => by rw [frame.cnt rfl]) (frame.mem rfl) (frame.mono rfl)

theorem State.eventPub_beside (s : State) (recs : List (List Byte)) (att : List Byte) : s.Beside (s.eventPub recs att) := by
  have frame := State.eventPub_frame (w := Part.cnt ||| Part.outs) (recs := recs) (att := att) rfl (Frame.refl _ s)
  refine .of_mem (by rw [frame.rcd rfl]) (fun k h _ => ?_) (frame.mem rfl) (frame.mono rfl)
  unfold State.eventPub
  cases s.trdpOn
  · rfl
  · exact (s.count_other 1 h).1

theorem State.pubStored_beside (s : State) (code : Nat) (b : List Byte) : s.Beside (s.pubStored code b) := by
  unfold State.pubStored
  split
  · exact .refl s
  · split
    · exact s.eventPub_beside _ _
    · exact .of_mem rfl (fun _ _ _ => rfl) rfl (Frame.set_rcd rfl (Frame.refl _ s))

theorem State.folioLost_beside (s : State) : s.Beside s.folioLost := s.raise_beside _ _ _

theorem State.captureStart_beside (s : State) (code acc : Nat) : s.Beside (s.captureStart code acc) := by
  unfold State.captureStart
  split
  · exact s.folioLost_beside
  · exact .of_mem rfl (fun _ _ _ => rfl) rfl (Frame.set_rcd rfl (Frame.refl _ s))

/-- What every step of a loop does beside the store, the loop does. -/
theorem forEach_beside {α : Type} {f : State → α → State} (hf : ∀ (s : State) a, s.Beside (f s a)) (l : List α) (s : State) : s.Beside (forEach l f s) :=
  forEach_keeps (P := s.Beside) (fun t a h => h.trans (hf t a)) l s (.refl s)

/-- A signature goes to its slot, above the Archive. -/
theorem State.signature_beside {s : State} (hd : s.rcd.degraded = false) (k n : Nat) (b : List Byte) (f : Observer → Observer) (old : State) :
    s.Beside (((s.setMem (0x01B00000 + k) b).modOb n f).mirrorObs old n) := by
  refine .trans ?_ (State.mirrorObs_beside _ old n)
  have frame : Frame besideParts s ((s.setMem (0x01B00000 + k) b).modOb n f) := State.modOb_frame rfl (State.setMem_frame rfl (Frame.refl _ s))
  exact ⟨rfl, fun _ _ _ => rfl, fun a ha => get_storeBytes_out 0 b s.mem _ a (.inl (by omega)), fun h => absurd (h.symm.trans hd) (by decide), frame⟩

theorem State.writeSignatures_beside (s : State) (n : NumRec) : s.Beside (s.writeSignatures n) := by
  unfold State.writeSignatures
  dsimp only
  split
  · exact .refl s
  · refine .trans ?_ (forEach_beside (fun x j => ?_) _ _)
    · exact .of_mem rfl (fun _ _ _ => rfl) rfl (Frame.set_rcd rfl (Frame.refl _ s))
    · split
      · exact x.raise_beside _ _ _
      · next h => exact State.signature_beside (Bool.eq_false_iff.2 h) _ _ _ _ _

theorem State.writeSignatures_other (s : State) {n : NumRec} (h : n.ev.code ≠ 0x3020) : s.writeSignatures n = s := if_pos h

end Sys2Proof.Machine
end

section
/-!
PROOFS. The intake of the recorder (R545, R547, R556) and the numbering of what waits there (R546, R559, R574).
-/
namespace Sys2Proof.Machine
open Sys2Proof

/-! ### Intake -/

theorem mapLast_append {α : Type} (f : α → α) (a : α) : ∀ l : List α, mapLast f (l ++ [a]) = l ++ [f a]
  | [] => rfl
  | [_] => rfl
  | b :: c :: l => congrArg (b :: ·) (mapLast_append f a (c :: l))

theorem intake_enters {r : Recorder} (h : r.intake.length ≤ 1022) (e : EventRec) : intake r e = { r with intake := r.intake ++ [e], gapOpen := false } :=
  if_pos (by unfold intakeRoom; omega)

theorem intake_opens {r : Recorder} (h : r.intake.length = 1023) (hg : r.gapOpen = false) (e : EventRec) :
    intake r e = { r with intake := r.intake ++ [gap4 e.tt e.tq 1 e.mate], gapOpen := true } := by
  unfold intake intakeRoom
  rw [if_neg (by omega), if_neg (by simp [hg])]

theorem intake_counts {r : Recorder} {l : List EventRec} {g : EventRec} (hl : r.intake = l ++ [g]) (h : 1023 ≤ r.intake.length) (hg : r.gapOpen = true)
    (e : EventRec) : intake r e = { r with intake := l ++ [bumpLost g] } := by
  unfold intake intakeRoom
  rw [if_neg (by omega), if_pos hg, hl, mapLast_append]

/-- A gap record of cause 4, byte by byte. -/
theorem gap4_fields (tt tq lost : Nat) (mate : Bool) (h : lost < 2 ^ 32) : (gap4 tt tq lost mate).code = 0xE001 ∧ byteAt (gap4 tt tq lost mate).body 4 = 4 ∧
    leAt (gap4 tt tq lost mate).body 6 4 = lost := by
  refine ⟨rfl, rfl, ?_⟩
  have front : (leBytes 4 1 ++ leBytes 1 4 ++ leBytes 1 0).length = 6 := by simp
  unfold gap4
  dsimp only
  rw [List.append_assoc (leBytes 4 1 ++ leBytes 1 4 ++ leBytes 1 0), leAt_field lost front]
  exact Nat.mod_eq_of_lt h

/-- The record that an event makes when it is raised. -/
def State.eventRec (s : State) (code : Nat) (body : List Byte) : EventRec :=
  { code := code, tt := s.tt, tq := s.quality.code, mate := s.standby, body := body }

/-- An event that is not suppressed enters the intake. -/
theorem State.raiseBody_enters (s : State) {code : Nat} (body : List Byte) (h : s.rb .recCfg 0 2 = false ∨ neverSuppressed code = true) :
    (s.raiseBody code body).rcd = intake s.rcd (s.eventRec code body) := by
  have on : (!s.rb .recCfg 0 2 || neverSuppressed code) = true := by
    rcases h with h | h <;> rw [h]
    · rfl
    · exact Bool.or_true _
  unfold State.raiseBody queueRecord
  dsimp only
  rw [on]
  rfl

theorem State.raiseBody_joins (s : State) {code : Nat} (body : List Byte) (h : s.rb .recCfg 0 2 = false ∨ neverSuppressed code = true)
    (hroom : s.rcd.intake.length ≤ 1022) :
    (s.raiseBody code body).rcd = { s.rcd with intake := s.rcd.intake ++ [s.eventRec code body], gapOpen := false } :=
  (s.raiseBody_enters body h).trans (intake_enters hroom _)

/-- A repeat is counted and enters nothing. -/
theorem State.raiseBody_suppressed {s : State} {code : Nat} {body : List Byte} {k : RepeatTrack} (hon : s.rb .recCfg 0 2 = true)
    (hn : neverSuppressed code = false) (hk : trackOf s.rcd code = some k) (hb : k.body = body) (ht : s.lt < k.entered + ms (10 * s.rf .recCfg 0 15 8)) :
    (s.raiseBody code body).rcd.intake = s.rcd.intake ∧ (s.raiseBody code body).rcd.nextAcc = s.rcd.nextAcc ∧
    Table.get 0 (s.raiseBody code body).cnt.value 272 = (Table.get 0 s.cnt.value 272 + 1) % 2 ^ 48 := by
  unfold State.raiseBody queueRecord
  dsimp only
  rw [hon, hn, hk]
  dsimp only
  simp only [Bool.not_true, Bool.or_self, Bool.false_eq_true, if_false, if_pos (And.intro hb ht), if_true]
  exact ⟨rfl, rfl, (State.count_at _ 272 1).1⟩

/-- DATA of an event that a command raises: INSTANCE first, but for a portal cycle. -/
def eventData (code inst : Nat) (vals : List Byte) : List Byte := if code = 0x3020 then padTo 15 vals else dataOf inst vals

theorem eventData_instance {code : Nat} (h : code ≠ 0x3020) (inst : Nat) (vals : List Byte) : (eventData code inst vals).take 2 = leBytes 2 inst := by
  rw [eventData, if_neg h, dataOf, padTo_append (by simp), List.take_append_of_le_length (by simp), List.take_of_length_le (by simp)]

theorem State.eventIntake_raises {s : State} {code : Nat} (he : isEvent code = true) (hg : code ≠ 0xE001) (inst : Nat) (vals : List Byte) :
    s.eventIntake code inst vals = s.raiseBody code (eventData code inst vals) := by
  unfold State.eventIntake
  rw [when_of (by rw [he, bne_iff_ne.2 hg]; rfl), eventData]
  split <;> rfl

/-! ### Repeats (R556) -/

/-- The count of a code's repeats is queued at an instant. -/
def State.repeatsAt (s : State) (due : Ticks) (k : RepeatTrack) : State :=
  let x := s.passTo due
  State.raise { x with rcd := { x.rcd with repeats := x.rcd.repeats.filter (fun u => u.code != k.code) } } 0xE006 noInst
    (leBytes 2 k.code ++ leBytes 4 k.count ++ x.sinceTt k.lastTt)

theorem State.repeated_eq {s : State} {k : RepeatTrack} (h : s.rcd.repeats.find? (fun u => u.count != 0) = some k) :
    s.repeated = s.repeatsAt (k.lastLt + ms (10 * s.rf .recCfg 0 15 8)) k := by
  unfold State.repeated
  rw [h]
  rfl

/-- DATA of 0xE006: no unit, the code, the count. -/
theorem repeatData_fields (code : Nat) {n : Nat} (hn : n < 2 ^ 32) (since : List Byte) (hs : since.length = 4) :
    (dataOf noInst (leBytes 2 code ++ leBytes 4 n ++ since)).take 2 = [0xFF, 0xFF] ∧ leAt (dataOf noInst (leBytes 2 code ++ leBytes 4 n ++ since)) 2 2 = code % 2 ^ 16 ∧
    leAt (dataOf noInst (leBytes 2 code ++ leBytes 4 n ++ since)) 4 4 = n := by
  have noInst_bytes : leBytes 2 noInst = [0xFF, 0xFF] := rfl
  have whole : dataOf noInst (leBytes 2 code ++ leBytes 4 n ++ since) = [0xFF, 0xFF] ++ (leBytes 2 code ++ (leBytes 4 n ++ (since ++ [0, 0]))) := by
    rw [dataOf, noInst_bytes, padTo_append (by simp), List.append_assoc (leBytes 2 code), padTo_append (by simp), padTo_append (by simp), padTo]
    simp [hs, List.take_of_length_le]
  rw [whole]
  refine ⟨rfl, leAt_field code rfl, ?_⟩
  rw [← List.append_assoc, leAt_field n (by simp)]
  exact Nat.mod_eq_of_lt hn

theorem State.repeatsAt_queues {s : State} (due : Ticks) {k : RepeatTrack} (hroom : s.rcd.intake.length ≤ 1022) (hc : k.count < 2 ^ 32) :
    due ≤ (s.repeatsAt due k).time.lt ∧ (∀ u ∈ (s.repeatsAt due k).rcd.repeats, u.code ≠ k.code) ∧ ∃ e, (s.repeatsAt due k).rcd.intake = s.rcd.intake ++ [e] ∧
      e.code = 0xE006 ∧ e.body.take 2 = [0xFF, 0xFF] ∧ leAt e.body 2 2 = k.code % 2 ^ 16 ∧ leAt e.body 4 4 = k.count := by
  have passed : due ≤ (s.passTo due).time.lt := s.le_passTo_lt due
  have rcd : (s.passTo due).rcd = s.rcd := s.passTo_rcd due
  unfold State.repeatsAt
  dsimp only
  generalize s.passTo due = x at passed rcd ⊢
  have since : (x.sinceTt k.lastTt).length = 4 := length_leBytes _ _
  rw [rcd]
  have entered := State.raiseBody_joins { x with rcd := { s.rcd with repeats := s.rcd.repeats.filter (fun u => u.code != k.code) } }
    (dataOf noInst (leBytes 2 k.code ++ leBytes 4 k.count ++ x.sinceTt k.lastTt)) (code := 0xE006) (.inr rfl) hroom
  refine ⟨?_, ?_, ?_⟩
  · rw [State.raise_time]
    exact passed
  · rw [State.raise, entered]
    intro u hu
    exact bne_iff_ne.1 (List.mem_filter.1 hu).2
  · rw [State.raise, entered]
    exact ⟨_, rfl, rfl, repeatData_fields k.code hc _ since⟩

/-! ### Numbering (R546) -/

/-- The mark stays at or above the numbers given, in normal mode. -/
theorem State.markFor_covers {s : State} (hd : s.rcd.degraded = false) (acc : Nat) : acc ≤ (s.markFor acc).rcd.mark := by
  unfold State.markFor
  rw [if_neg (by simp [hd])]
  split
  · assumption
  · exact le_max_right _ _

theorem State.markFor_rcd (s : State) (acc : Nat) : ∃ m k, (s.markFor acc).rcd = { s.rcd with mark := m, sealMark := k } := by
  unfold State.markFor
  split
  · split <;> exact ⟨_, _, rfl⟩
  · split <;> exact ⟨_, _, rfl⟩

theorem State.markFor_keeps (s : State) (acc : Nat) : Frame (Part.rcd ||| Part.mem) s (s.markFor acc) := State.markFor_frame rfl (Frame.refl _ s)

/-- The mirror is told of a numbered record. -/
def State.tellNumber (s : State) (n : NumRec) : State :=
  let x := s.mirror 4 (recordBytes s.rcd.degraded n)
  if s.mirrors then { x with twin := { x.twin with accSent := x.twin.accSent ++ [(x.twin.mseq, n.acc)] } } else x

theorem State.numbered_eq (s : State) (n : NumRec) : s.numbered n =
    if s.rcd.hold || s.rcd.draining then ((s.tellNumber n).placeNumbered n).writeSignatures n else (s.tellNumber n).placeNumbered n := rfl

theorem State.tellNumber_keeps (s : State) (n : NumRec) : Frame (Part.twin ||| Part.outs) s (s.tellNumber n) := by
  have sent := s.mirror_keeps 4 (recordBytes s.rcd.degraded n)
  unfold State.tellNumber
  dsimp only
  split
  · exact Frame.set_twin rfl sent
  · exact sent

theorem State.tellNumber_standby (s : State) (n : NumRec) : (s.tellNumber n).standby = s.standby := by
  have sys := (s.tellNumber_keeps n).sys rfl
  obtain ⟨m, u, twin⟩ := s.mirror_twin 4 (recordBytes s.rcd.degraded n)
  have told : ∃ l, (s.tellNumber n).twin = { s.twin with mseq := m, unacked := u, accSent := l } := by
    unfold State.tellNumber
    dsimp only
    split
    · exact ⟨_, by rw [twin]⟩
    · exact ⟨_, by rw [twin]⟩
  obtain ⟨l, told⟩ := told
  rw [State.standby, State.holder, sys, told, State.standby, State.holder]

/-- A numbered record that is no portal cycle is placed, and no signature is written. -/
theorem State.numbered_other {s : State} {n : NumRec} (hc : n.ev.code ≠ 0x3020) : s.numbered n = (s.tellNumber n).placeNumbered n := by
  rw [State.numbered_eq, State.writeSignatures_other _ hc, ite_self]

end Sys2Proof.Machine
end

section
/-!
PROOFS. Where a numbered record goes, and the numbering command (R546, R559, R574).
-/
namespace Sys2Proof.Machine
open Sys2Proof

theorem State.folioTrigger_congr {s x : State} (h : x.regs = s.regs) (e : EventRec) : x.folioTrigger e = s.folioTrigger e := by
  simp only [State.folioTrigger, State.rb_congr h]

theorem State.joinHoldQ_room {s : State} (h : s.rcd.holdQ.length < 4096) (n : NumRec) :
    (s.joinHoldQ n).rcd = { s.rcd with holdQ := s.rcd.holdQ ++ [n] } := by
  unfold State.joinHoldQ
  rw [if_pos h]

theorem State.joinHoldQ_rcd (s : State) (n : NumRec) : ∃ q g, (s.joinHoldQ n).rcd = { s.rcd with holdQ := q, drainGaps := g } := by
  unfold State.joinHoldQ
  split <;> exact ⟨_, _, rfl⟩

/-- Placing a record moves neither the numbers nor the mark. -/
theorem State.placeNumbered_rcd (s : State) (n : NumRec) : ∃ p f q g st ep, (s.placeNumbered n).rcd.core =
    { s.rcd.core with holdPending := p, holdFrom := f, holdQ := q, drainGaps := g, storeQ := st, episode := ep } := by
  unfold State.placeNumbered
  dsimp only
  split
  · split
    · obtain ⟨q, g, rcd⟩ := State.joinHoldQ_rcd { s with rcd := { s.rcd with
        holdPending := !(n.ev.code == 0xE003 && n.ev.mate == s.standby), holdFrom := if (n.ev.code == 0xE003 && n.ev.mate == s.standby) = true then n.acc else s.rcd.holdFrom } } n
      exact ⟨_, _, q, g, _, _, congrArg Recorder.core rcd⟩
    · exact ⟨_, _, _, _, _, _, rfl⟩
  · split
    · split
      · split
        · exact ⟨_, _, _, _, _, _, (State.folioLost_beside _).core⟩
        · exact ⟨_, _, _, _, _, _, rfl⟩
      · exact ⟨_, _, _, _, _, _, rfl⟩
    · split
      · obtain ⟨q, g, rcd⟩ := State.joinHoldQ_rcd s n
        exact ⟨_, _, q, g, _, _, congrArg Recorder.core rcd⟩
      · exact ⟨_, _, _, _, _, _, rfl⟩

/-- A record that triggers no folio raises nothing where it is placed. -/
theorem State.placeNumbered_intake {s : State} {n : NumRec} (hf : s.folioTrigger n.ev = false) : (s.placeNumbered n).rcd.intake = s.rcd.intake := by
  have queued (x : State) : (x.joinHoldQ n).rcd.intake = x.rcd.intake := by
    obtain ⟨_, _, rcd⟩ := x.joinHoldQ_rcd n
    rw [rcd]
  unfold State.placeNumbered
  dsimp only
  rw [hf, if_neg Bool.false_ne_true]
  split
  · split
    · exact queued _
    · rfl
  · split
    · split <;> rfl
    · split
      · exact queued _
      · rfl

section Places
variable {s : State} {n : NumRec} (hp : s.rcd.holdPending = false)
include hp

theorem State.placeNumbered_stores (hh : s.rcd.hold = false) (hd : s.rcd.draining = false) :
    (s.placeNumbered n).rcd.storeQ = s.rcd.storeQ ++ [n] ∧ (s.placeNumbered n).rcd.holdQ = s.rcd.holdQ := by
  unfold State.placeNumbered
  rw [hp, hh, hd]
  exact ⟨rfl, rfl⟩

theorem State.placeNumbered_drains (hh : s.rcd.hold = false) (hd : s.rcd.draining = true) (hroom : s.rcd.holdQ.length < 4096) :
    (s.placeNumbered n).rcd.storeQ = s.rcd.storeQ ∧ (s.placeNumbered n).rcd.holdQ = s.rcd.holdQ ++ [n] := by
  have joined := State.joinHoldQ_room hroom n
  unfold State.placeNumbered
  rw [hp, hh, hd]
  dsimp only
  rw [if_neg Bool.false_ne_true, if_neg Bool.false_ne_true, if_pos rfl, joined]
  exact ⟨rfl, rfl⟩

theorem State.placeNumbered_waits (hh : s.rcd.hold = true) (he : s.rcd.episode = none) (hl : s.rcd.holdLimit = false) (hroom : s.rcd.holdQ.length < 4096) :
    (s.placeNumbered n).rcd.storeQ = s.rcd.storeQ ∧ (s.placeNumbered n).rcd.holdQ = s.rcd.holdQ ++ [n] := by
  unfold State.placeNumbered
  rw [hp, hh, he, hl]
  dsimp only
  rw [if_neg Bool.false_ne_true, if_pos rfl, if_neg (by simp only [Option.isSome_none, Bool.false_eq_true, false_or, or_false]; omega)]
  exact ⟨rfl, rfl⟩

/-- Where a record is lost, the queues stay and the episode takes it. -/
theorem State.placeNumbered_loses (hh : s.rcd.hold = true) (hs : s.standby = false)
    (hlost : s.rcd.episode.isSome = true ∨ 4096 ≤ s.rcd.holdQ.length ∨ s.rcd.holdLimit = true) :
    (s.placeNumbered n).rcd.core = (s.loseRecord n (if s.rcd.holdLimit = true then 3 else 2)).rcd.core := by
  unfold State.placeNumbered
  rw [hp, hh, hs]
  dsimp only
  rw [if_neg Bool.false_ne_true, if_pos rfl, if_pos hlost, if_neg Bool.false_ne_true]
  split
  · exact (State.folioLost_beside _).core
  · rfl

theorem State.placeNumbered_begins (hh : s.rcd.hold = true) (hs : s.standby = false) (he : s.rcd.episode = none)
    (hfull : s.rcd.holdLimit = true ∨ 4096 ≤ s.rcd.holdQ.length) : (s.placeNumbered n).rcd.storeQ = s.rcd.storeQ ∧
    (s.placeNumbered n).rcd.holdQ = s.rcd.holdQ ∧ (s.placeNumbered n).rcd.episode = some ⟨if s.rcd.holdLimit then 3 else 2, n.acc, n.span⟩ := by
  have core := State.placeNumbered_loses (n := n) hp hh hs (.inr hfull.symm)
  refine ⟨(congrArg Recorder.storeQ core :), (congrArg Recorder.holdQ core :), (congrArg Recorder.episode core :).trans ?_⟩
  rw [Recorder.core, State.loseRecord, he]

theorem State.placeNumbered_adds (hh : s.rcd.hold = true) (hs : s.standby = false) {p : Episode} (he : s.rcd.episode = some p) :
    (s.placeNumbered n).rcd.holdQ = s.rcd.holdQ ∧ (s.placeNumbered n).rcd.episode = some { p with count := p.count + n.span } := by
  have core := State.placeNumbered_loses (n := n) hp hh hs (.inl (by rw [he]; rfl))
  refine ⟨(congrArg Recorder.holdQ core :), (congrArg Recorder.episode core :).trans ?_⟩
  rw [Recorder.core, State.loseRecord, he]

end Places

/-! ### Allocation -/

/-- The first record in the intake takes the next number. -/
def State.taking (s : State) (rest : List EventRec) : State :=
  let x := s.markFor s.rcd.nextAcc
  { x with rcd := { x.rcd with
    intake := rest
    gapOpen := if rest = [] then false else x.rcd.gapOpen
    nextAcc := s.rcd.nextAcc + 1
    lastAlloc := some x.lt
    recFault := x.rcd.recFault || decide (s.rcd.nextAcc = accEnd) } }

def State.numberFirst (s : State) : State := match s.rcd.intake with
  | [] => s
  | e :: rest => (s.taking rest).numbered ⟨s.rcd.nextAcc, e⟩

theorem State.allocate_eq {s : State} (hs : s.standby = false) (hm : s.mayAllocate = true) :
    (s.rcd.lastAlloc = none → s.allocate = s.numberFirst) ∧ ∀ t, s.rcd.lastAlloc = some t → s.allocate = (s.passTo (t + us 50)).numberFirst := by
  unfold State.allocate
  rw [if_neg (by simp [hs]), when_of hm]
  refine ⟨fun hl => ?_, fun t hl => ?_⟩ <;> rw [hl] <;> rfl

theorem State.numberFirst_takes {x : State} {e : EventRec} {rest : List EventRec} (hi : x.rcd.intake = e :: rest) :
    x.numberFirst = (x.taking rest).numbered ⟨x.rcd.nextAcc, e⟩ := by
  unfold State.numberFirst
  rw [hi]

/-- A number is taken at an instant no sooner than 50 us after the last one. -/
theorem State.allocate_takes {s : State} {e : EventRec} {rest : List EventRec} (hi : s.rcd.intake = e :: rest) (hs : s.standby = false) (hm : s.mayAllocate = true) :
    ∃ x : State, (∀ t0, s.rcd.lastAlloc = some t0 → t0 + us 50 ≤ x.time.lt) ∧ x.rcd = s.rcd ∧ x.sys = s.sys ∧ x.twin = s.twin ∧ x.regs = s.regs ∧
    s.allocate = (x.taking rest).numbered ⟨s.rcd.nextAcc, e⟩ := by
  obtain ⟨first, later⟩ := State.allocate_eq hs hm
  cases hl : s.rcd.lastAlloc with
  | none => exact ⟨s, (fun t0 h => nomatch h), rfl, rfl, rfl, rfl, (first hl).trans (State.numberFirst_takes hi)⟩
  | some t0 =>
    have rcd := s.passTo_rcd (t0 + us 50)
    refine ⟨s.passTo (t0 + us 50), (fun t h => ?_), rcd, s.passTo_sys _, s.passTo_twin _, s.passTo_regs _, ?_⟩
    · rw [← Option.some.inj h]
      exact s.le_passTo_lt _
    · rw [later t0 hl, State.numberFirst_takes (by rw [rcd, hi]), rcd]

theorem State.taking_rcd (s : State) (rest : List EventRec) : ∃ m k g f, (s.taking rest).rcd = { s.rcd with
    intake := rest
    gapOpen := g
    nextAcc := s.rcd.nextAcc + 1
    lastAlloc := some s.lt
    mark := m
    sealMark := k
    recFault := f } ∧ (s.rcd.degraded = false → s.rcd.nextAcc ≤ m) := by
  obtain ⟨m, k, rcd⟩ := s.markFor_rcd s.rcd.nextAcc
  have time := (s.markFor_keeps s.rcd.nextAcc).time rfl
  have covers (hd : s.rcd.degraded = false) := State.markFor_covers hd s.rcd.nextAcc
  unfold State.taking
  dsimp only
  rw [State.lt, time, rcd] at *
  exact ⟨m, k, _, _, rfl, covers⟩

/-- What a record that is no portal cycle leaves when it has taken its number. -/
theorem State.allocate_places {s : State} {e : EventRec} {rest : List EventRec} (hi : s.rcd.intake = e :: rest) (hs : s.standby = false) (hm : s.mayAllocate = true)
    (hc : e.code ≠ 0x3020) : ∃ y : State, s.allocate.rcd = (y.placeNumbered ⟨s.rcd.nextAcc, e⟩).rcd ∧ y.standby = false ∧ y.regs = s.regs ∧
      ∃ m k g f l, y.rcd = { s.rcd with
        intake := rest
        gapOpen := g
        nextAcc := s.rcd.nextAcc + 1
        lastAlloc := l
        mark := m
        sealMark := k
        recFault := f } := by
  obtain ⟨x, -, rcd, sys, twin, regs, takes⟩ := State.allocate_takes hi hs hm
  obtain ⟨m, k, g, f, taken, -⟩ := x.taking_rcd rest
  have kept : Frame (Part.rcd ||| Part.mem) x (x.taking rest) := Frame.set_rcd rfl (x.markFor_keeps x.rcd.nextAcc)
  have told := (x.taking rest).tellNumber_keeps ⟨s.rcd.nextAcc, e⟩
  refine ⟨_, by rw [takes, State.numbered_other hc], ?_, by rw [told.regs rfl, kept.regs rfl, regs], m, k, g, f, some x.lt, by rw [told.rcd rfl, taken, rcd]⟩
  rw [State.tellNumber_standby, State.standby, State.holder, kept.sys rfl, kept.twin rfl, sys, twin]
  exact hs

/-- The number given, its instant and the mark, whatever the record. -/
theorem State.numbered_keeps (s : State) (n : NumRec) : Frame besideParts s (s.numbered n) := State.numbered_frame rfl (Frame.refl _ s)

theorem State.numbered_numbers (s : State) (n : NumRec) : (s.numbered n).rcd.nextAcc = s.rcd.nextAcc ∧ (s.numbered n).rcd.lastAlloc = s.rcd.lastAlloc ∧
    (s.numbered n).rcd.mark = s.rcd.mark := by
  obtain ⟨_, _, _, _, _, _, placed⟩ := (s.tellNumber n).placeNumbered_rcd n
  have core : (s.numbered n).rcd.core = ((s.tellNumber n).placeNumbered n).rcd.core := by
    rw [State.numbered_eq]
    split
    · exact (State.writeSignatures_beside _ n).core
    · rfl
  have whole := core.trans placed
  rw [(s.tellNumber_keeps n).rcd rfl] at whole
  exact ⟨(congrArg Recorder.nextAcc whole :), (congrArg Recorder.lastAlloc whole :), (congrArg Recorder.mark whole :)⟩

end Sys2Proof.Machine
end

section
/-!
PROOFS. The store of the recorder: slots, the seal unit, retries and degraded mode (R544, R551 to R553, R557, R568 to R571).
-/
namespace Sys2Proof.Machine
open Sys2Proof

/-! ### What follows a stored record -/

/-- The last of a list that is cut at the front. -/
theorem getLast?_recent {α : Type} (l : List α) (a : α) {n : Nat} (h : 0 < n) : ((l ++ [a]).drop ((l ++ [a]).length - n)).getLast? = some a := by
  rw [List.getLast?_drop, if_neg (by rw [List.length_append, List.length_singleton]; omega), List.getLast?_concat]

/-- The records stored last, 1,024 at most, after one more. -/
def recentWith (l : List (List Byte)) (b : List Byte) : List (List Byte) := (l ++ [b]).drop ((l ++ [b]).length - 1024)

theorem recentWith_getLast? (l : List (List Byte)) (b : List Byte) : (recentWith l b).getLast? = some b := getLast?_recent l b (by decide)

theorem Recorder.core_lastStored (r : Recorder) (l : List (List Byte)) : ({ r with lastStored := l } : Recorder).core = { r.core with lastStored := l } := rfl

theorem Recorder.lastStored_core (r : Recorder) : r.core.lastStored = r.lastStored := rfl

/-- A stored record is counted and joins those stored last; the rest goes on beside the store. -/
theorem State.wasStored_leaves (s : State) (n : NumRec) (b : List Byte) : (s.wasStored n b).rcd.core =
    { s.rcd.core with lastStored := recentWith s.rcd.lastStored b } ∧ (∀ a, a < 0x01B00000 → (s.wasStored n b).memByte a = s.memByte a) ∧ (s.rcd.degraded = true → (s.wasStored n b).mem = s.mem) ∧
    Table.get 0 (s.wasStored n b).cnt.value 270 = (Table.get 0 s.cnt.value 270 + 1) % 2 ^ 48 ∧
    Table.get 0 (s.wasStored n b).cnt.value 271 = Table.get 0 s.cnt.value 271 ∧ Frame besideParts s (s.wasStored n b) := by
  let y := (s.count 270).count 275 (lostOf n.ev)
  have stored : Table.get 0 y.cnt.value 270 = (Table.get 0 s.cnt.value 270 + 1) % 2 ^ 48 :=
    (State.count_other (k := 275) (j := 270) _ _ (by decide)).1.trans (s.count_at 270 1).1
  have retried : Table.get 0 y.cnt.value 271 = Table.get 0 s.cnt.value 271 :=
    (State.count_other (k := 275) (j := 271) _ _ (by decide)).1.trans (State.count_other (k := 270) (j := 271) _ 1 (by decide)).1
  let x : State := { y with rcd := { y.rcd with lastStored := recentWith s.rcd.lastStored b } }
  have frame : Frame besideParts s x := Frame.set_rcd rfl (Frame.set_cnt rfl (Frame.set_cnt rfl (Frame.refl _ s)))
  have capture : x.Beside (if x.folioTrigger n.ev = true then x.captureStart n.ev.code n.acc else x) := by
    split
    · exact x.captureStart_beside _ _
    · exact .refl x
  have beside : x.Beside (s.wasStored n b) := (capture.trans (State.pubStored_beside _ _ _)).trans (State.writeSignatures_beside _ _)
  refine ⟨beside.core.trans (s.rcd.core_lastStored _), fun a ha => ?_, beside.held, ?_, ?_, frame.trans beside.frame⟩
  · have mem : x.mem = s.mem := rfl
    rw [beside.memory a ha, State.memByte, mem, State.memByte]
  · exact (beside.counter 270 (by decide) (by decide)).trans stored
  · exact (beside.counter 271 (by decide) (by decide)).trans retried

/-! ### Slots -/

/-- The slot pointers after a record: the Archive fills, or Circulation goes on. -/
theorem State.advanceSlot_core (s : State) (n : NumRec) : ∃ nx used old cnt st, (s.advanceSlot n).rcd.core =
    { s.rcd.core with circNext := nx, circUsed := used, oldest := old, archCnt := cnt, archState := st } ∧
    (s.toArchive n.ev.code = false → nx = (s.rcd.circNext + 1) % circSlots ∧ cnt = s.rcd.archCnt) ∧
    (s.toArchive n.ev.code = true → nx = s.rcd.circNext ∧ cnt = s.rcd.archCnt + 1) := by
  unfold State.advanceSlot
  dsimp only
  split
  · next h =>
    split
    · exact ⟨_, _, _, _, _, (State.raise_beside _ _ _ _).core, fun k => absurd (k.symm.trans h) (by decide), fun _ => ⟨rfl, rfl⟩⟩
    · exact ⟨_, _, _, _, _, rfl, fun k => absurd (k.symm.trans h) (by decide), fun _ => ⟨rfl, rfl⟩⟩
  · next h => exact ⟨_, _, _, _, _, rfl, fun _ => ⟨rfl, rfl⟩, fun k => absurd k h⟩

theorem State.advanceSlot_keeps (s : State) (n : NumRec) : (s.advanceSlot n).mem = s.mem ∧
    ∀ k, k ≠ 272 → Table.get 0 (s.advanceSlot n).cnt.value k = Table.get 0 s.cnt.value k := by
  unfold State.advanceSlot
  dsimp only
  split
  · split
    · exact ⟨State.raise_mem _ _ _ _, fun k hk => State.raiseBody_counter _ _ _ hk⟩
    · exact ⟨rfl, fun _ _ => rfl⟩
  · exact ⟨rfl, fun _ _ => rfl⟩

theorem State.slotAddr_lt {s : State} (hc : s.rcd.circNext < circSlots) (ha : s.rcd.archCnt < archSlots) (code : Nat) : s.slotAddr code + 32 ≤ 0x01B00000 := by
  unfold circSlots at hc
  unfold archSlots at ha
  unfold State.slotAddr
  split <;> omega

theorem State.memBytes_of {s t : State} {a n : Nat} (h : ∀ x, a ≤ x → x < a + n → t.memByte x = s.memByte x) : t.memBytes a n = s.memBytes a n := by
  refine List.map_congr_left (fun i hi => h _ (Nat.le_add_right _ _) ?_)
  have := List.mem_range.1 hi
  omega

/-- A record that is stored in its slot. -/
theorem State.storeGood_stores (s : State) (n : NumRec) :
    (s.rcd.circNext < circSlots → s.rcd.archCnt < archSlots → (s.storeGood n).memBytes (s.slotAddr n.ev.code) 32 = recordBytes false n) ∧
    (s.storeGood n).rcd.storeQ = s.rcd.storeQ ∧ (s.storeGood n).rcd.retryDue = s.rcd.retryDue ∧
    Table.get 0 (s.storeGood n).cnt.value 270 = (Table.get 0 s.cnt.value 270 + 1) % 2 ^ 48 ∧
    Table.get 0 (s.storeGood n).cnt.value 271 = Table.get 0 s.cnt.value 271 ∧ (s.storeGood n).rcd.lastStored = recentWith s.rcd.lastStored (recordBytes false n) ∧
    (s.toArchive n.ev.code = false → (s.storeGood n).rcd.circNext = (s.rcd.circNext + 1) % circSlots ∧ (s.storeGood n).rcd.archCnt = s.rcd.archCnt) ∧
    (s.toArchive n.ev.code = true → (s.storeGood n).rcd.circNext = s.rcd.circNext ∧ (s.storeGood n).rcd.archCnt = s.rcd.archCnt + 1) ∧
    (s.storeGood n).time = s.time := by
  let w := s.setMem (s.slotAddr n.ev.code) (recordBytes false n)
  obtain ⟨nx, used, old, cnt, st, moved, circ, arch⟩ := w.advanceSlot_core n
  obtain ⟨mem, counters⟩ := w.advanceSlot_keeps n
  obtain ⟨core, memory, -, stored, retried, frame⟩ := (w.advanceSlot n).wasStored_leaves n (recordBytes false n)
  have whole : s.storeGood n = (w.advanceSlot n).wasStored n (recordBytes false n) := rfl
  have time : (s.storeGood n).time = s.time := (State.storeGood_frame (w := besideParts) rfl (Frame.refl _ s)).time rfl
  rw [whole] at time ⊢
  have kept : (w.advanceSlot n).rcd.lastStored = s.rcd.lastStored := (congrArg Recorder.lastStored moved :)
  rw [moved] at core
  refine ⟨fun hc ha => ?_, (congrArg Recorder.storeQ core :), (congrArg Recorder.retryDue core :), ?_, ?_, ?_, fun h => ?_, fun h => ?_, time⟩
  · refine (State.memBytes_of (s := w) (fun a _ h => ?_)).trans (s.memBytes_setMem (s.slotAddr n.ev.code) (length_recordBytes false n))
    rw [memory a (lt_of_lt_of_le h (State.slotAddr_lt hc ha n.ev.code)), State.memByte, mem, State.memByte]
  · rw [stored, counters 270 (by decide)]
    rfl
  · rw [retried, counters 271 (by decide)]
    rfl
  · exact (congrArg Recorder.lastStored core :).trans (by rw [kept])
  · obtain ⟨rfl, rfl⟩ := circ h
    exact ⟨(congrArg Recorder.circNext core :), (congrArg Recorder.archCnt core :)⟩
  · obtain ⟨rfl, rfl⟩ := arch h
    exact ⟨(congrArg Recorder.circNext core :), (congrArg Recorder.archCnt core :)⟩

end Sys2Proof.Machine
end

section
/-!
PROOFS. Degraded mode of the recorder: the seal unit, the last word, abandoned writes and retries (R557, R568 to R571).
-/
namespace Sys2Proof.Machine
open Sys2Proof

/-! ### The seal unit -/

/-- The last-word register is filled whole, under its mark. -/
theorem State.lastWordFill_word (s : State) : s.lastWordFill.rcd = s.rcd ∧ s.lastWordFill.mem = s.mem ∧ s.lastWordFill.bk.lastWord.length = 64 ∧
    s.lastWordFill.bk.lastWord.take 4 = ascii "SLFW" := by
  have mark : (ascii "SLFW").length = 4 := rfl
  refine ⟨rfl, rfl, ?_, ?_⟩
  · unfold State.lastWordFill
    simp [mark]
  · unfold State.lastWordFill
    simp only [List.append_assoc]
    exact List.take_left' mark

/-- What a write to the seal unit leaves. -/
theorem State.sealWrite_writes (s : State) (b : List Byte) (ok : Bool) : ∃ slots fault full, (s.sealWrite b ok).rcd.core =
    { s.rcd.core with sealSlots := slots, sealFault := fault, sealFull := full } ∧ (s.sealWrite b ok).mem = s.mem ∧
    (s.rcd.sealFault = false → (ok = true → s.rcd.sealSlots.length < 1024 → slots = s.rcd.sealSlots ++ [b]) ∧
      (ok = true → 1024 ≤ s.rcd.sealSlots.length → slots = s.rcd.sealSlots ∧ full = true) ∧
      (ok = false → slots = s.rcd.sealSlots ∧ fault = true ∧ (s.sealWrite b ok).bk.lastWord.length = 64 ∧
        (s.sealWrite b ok).bk.lastWord.take 4 = ascii "SLFW")) := by
  unfold State.sealWrite
  by_cases broken : s.rcd.sealFault = true
  · rw [if_pos broken]
    exact ⟨_, _, _, rfl, rfl, fun h => absurd (h.symm.trans broken) (by decide)⟩
  · rw [if_neg broken]
    cases ok with
    | false =>
      rw [if_pos (by rfl)]
      obtain ⟨rcd, mem, length, mark⟩ := (State.raise { s with rcd := { s.rcd with sealFault := true } } 0xE011 noInst).lastWordFill_word
      refine ⟨s.rcd.sealSlots, true, s.rcd.sealFull, ?_, mem.trans (State.raise_mem _ _ _ _), fun _ => ⟨nofun, nofun, fun _ => ⟨rfl, rfl, length, mark⟩⟩⟩
      rw [rcd]
      exact (State.raise_beside _ _ _ _).core
    | true =>
      rw [if_neg (by simp)]
      split
      · next room =>
        exact ⟨_, _, _, rfl, rfl, fun _ => ⟨fun _ _ => rfl, fun _ full => absurd room (Nat.not_lt.2 full), nofun⟩⟩
      · next full =>
        split
        · next was => exact ⟨_, _, _, rfl, rfl, fun _ => ⟨fun _ room => absurd room full, fun _ _ => ⟨rfl, was⟩, nofun⟩⟩
        · exact ⟨_, _, _, (State.raise_beside _ _ _ _).core, State.raise_mem _ _ _ _, fun _ => ⟨fun _ room => absurd room full, fun _ _ => ⟨rfl, rfl⟩, nofun⟩⟩

/-! ### A record in degraded mode (R570) -/

/-- The ring, and the record that began degraded mode. -/
def State.withRing (s : State) (ring : List (List Byte)) (first : List Byte) : State := { s with rcd := { s.rcd with ring := ring, degradedRec := first } }

theorem State.withRing_core (s : State) (ring : List (List Byte)) (first : List Byte) :
    (s.withRing ring first).rcd.core = { s.rcd.core with ring := ring, degradedRec := first } := rfl

/-- The ring takes a record. -/
def State.ringed (s : State) (n : NumRec) : State :=
  s.withRing ((s.rcd.ring ++ [recordBytes true n]).drop ((s.rcd.ring ++ [recordBytes true n]).length - 4096))
    (if n.ev.code = 0xE010 ∧ n.ev.mate = s.standby then recordBytes true n else s.rcd.degradedRec)

theorem State.ringed_core (s : State) (n : NumRec) : ∃ ring first, (s.ringed n).rcd.core = { s.rcd.core with ring := ring, degradedRec := first } ∧
    ring.getLast? = some (recordBytes true n) := ⟨_, _, s.withRing_core _ _, getLast?_recent _ _ (by decide)⟩

/-- The records that the seal unit takes. -/
def sealed (n : NumRec) : Prop := n.ev.code = 0xE001 ∨ n.ev.code / 0x1000 = 7 ∨ n.ev.code = 0xE010

theorem State.storeDegraded_eq (s : State) (n : NumRec) (ok : Bool) :
    (sealed n → s.storeDegraded n ok = ((s.ringed n).sealWrite (recordBytes true n) ok).wasStored n (recordBytes true n)) ∧
    (¬ sealed n → s.storeDegraded n ok = (s.ringed n).wasStored n (recordBytes true n)) := by
  refine ⟨fun h => ?_, fun h => ?_⟩
  · unfold State.storeDegraded
    dsimp only
    rw [if_pos (show n.ev.code = 0xE001 ∨ n.ev.code / 0x1000 = 7 ∨ n.ev.code = 0xE010 from h)]
    rfl
  · unfold State.storeDegraded
    dsimp only
    rw [if_neg (show ¬ (n.ev.code = 0xE001 ∨ n.ev.code / 0x1000 = 7 ∨ n.ev.code = 0xE010) from h)]
    rfl

/-- A record that is stored in degraded mode. -/
theorem State.storeDegraded_stores {s : State} (hd : s.rcd.degraded = true) (n : NumRec) (ok : Bool) : (s.storeDegraded n ok).mem = s.mem ∧
    (s.storeDegraded n ok).rcd.storeQ = s.rcd.storeQ ∧ (s.storeDegraded n ok).rcd.retryDue = s.rcd.retryDue ∧ (s.storeDegraded n ok).rcd.degraded = true ∧
    (s.storeDegraded n ok).rcd.recFault = s.rcd.recFault ∧ (s.storeDegraded n ok).rcd.ring.getLast? = some (recordBytes true n) ∧
    (sealed n → s.rcd.sealFault = false →
      (ok = true → s.rcd.sealSlots.length < 1024 → (s.storeDegraded n ok).rcd.sealSlots = s.rcd.sealSlots ++ [recordBytes true n]) ∧
      (ok = true → 1024 ≤ s.rcd.sealSlots.length → (s.storeDegraded n ok).rcd.sealSlots = s.rcd.sealSlots ∧ (s.storeDegraded n ok).rcd.sealFull = true) ∧
      (ok = false → (s.storeDegraded n ok).rcd.sealSlots = s.rcd.sealSlots ∧ (s.storeDegraded n ok).rcd.sealFault = true ∧
        (s.storeDegraded n ok).bk.lastWord.length = 64 ∧ (s.storeDegraded n ok).bk.lastWord.take 4 = ascii "SLFW")) := by
  obtain ⟨ring, rec, ringed, newest⟩ := s.ringed_core n
  obtain ⟨inSeal, other⟩ := s.storeDegraded_eq n ok
  by_cases h : sealed n
  · rw [inSeal h]
    obtain ⟨slots, fault, full, wrote, mem, writes⟩ := (s.ringed n).sealWrite_writes (recordBytes true n) ok
    obtain ⟨core, -, held, -, -, frame⟩ := ((s.ringed n).sealWrite (recordBytes true n) ok).wasStored_leaves n (recordBytes true n)
    have degraded : ((s.ringed n).sealWrite (recordBytes true n) ok).rcd.degraded = true := by
      have same := congrArg Recorder.degraded (wrote.trans (by rw [ringed]))
      exact same.trans hd
    rw [wrote, ringed] at core
    refine ⟨(held degraded).trans mem, (congrArg Recorder.storeQ core :), (congrArg Recorder.retryDue core :), (congrArg Recorder.degraded core :).trans hd,
      (congrArg Recorder.recFault core :), (congrArg (fun r => r.ring.getLast?) core :).trans newest, fun _ hf => ?_⟩
    obtain ⟨room, fulls, fails⟩ := writes hf
    refine ⟨fun hok hr => (congrArg Recorder.sealSlots core :).trans (room hok hr), fun hok hr => ?_, fun hok => ?_⟩
    · obtain ⟨same, isFull⟩ := fulls hok hr
      exact ⟨(congrArg Recorder.sealSlots core :).trans same, (congrArg Recorder.sealFull core :).trans isFull⟩
    · obtain ⟨same, faulty, length, mark⟩ := fails hok
      rw [frame.bk rfl]
      exact ⟨(congrArg Recorder.sealSlots core :).trans same, (congrArg Recorder.sealFault core :).trans faulty, length, mark⟩
  · rw [other h]
    obtain ⟨core, -, held, -, -, -⟩ := (s.ringed n).wasStored_leaves n (recordBytes true n)
    rw [ringed] at core
    exact ⟨held hd, (congrArg Recorder.storeQ core :), (congrArg Recorder.retryDue core :), (congrArg Recorder.degraded core :).trans hd,
      (congrArg Recorder.recFault core :), (congrArg (fun r => r.ring.getLast?) core :).trans newest, fun hs => absurd hs h⟩

end Sys2Proof.Machine
end

section
/-!
PROOFS. The recorder's commands: the store and its retry, publication, and the standby's events (R524, R557, R565, R569 to R571, R574).
-/
namespace Sys2Proof.Machine
open Sys2Proof

/-! ### The store command (R557) -/

/-- The first record that waits to be stored is taken off the queue. -/
def State.storing (s : State) (rest : List NumRec) : State := { s with rcd := { s.rcd with storeQ := rest } }

section Store
variable {s : State} {n : NumRec} {rest : List NumRec} (hq : s.rcd.storeQ = n :: rest) (hr : s.rcd.retryDue = none) (he : s.recEnded = false)
include hq hr he

theorem State.recStore_good (hd : s.rcd.degraded = false) : s.recStore true = (s.storing rest).storeGood n := by
  unfold State.recStore
  rw [hq]
  dsimp only
  rw [if_neg (by simp [he, hr]), if_neg (by simp [hd]), if_pos rfl]
  rfl

theorem State.recStore_bad (hd : s.rcd.degraded = false) : (s.recStore false).memByte (s.slotAddr n.ev.code + 31) = 0 ∧
    (s.recStore false).rcd.storeQ = s.rcd.storeQ ∧ (s.recStore false).rcd.retries = 0 ∧ (s.recStore false).rcd.retryDue = some (s.lt + us 20) := by
  unfold State.recStore
  rw [hq]
  dsimp only
  rw [if_neg (by simp [he, hr]), if_neg (by simp [hd]), if_neg (by simp)]
  exact ⟨(s.memByte_setMemByte _ _ 0).trans (if_pos rfl), hq, rfl, rfl⟩

theorem State.recStore_degraded (hd : s.rcd.degraded = true) (ok : Bool) : s.recStore ok = (s.storing rest).storeDegraded n ok := by
  unfold State.recStore
  rw [hq]
  dsimp only
  rw [if_neg (by simp [he, hr]), if_pos hd]
  rfl

end Store

/-! ### Retries (R557) -/

/-- A record leaves the queue with its retries over. -/
def State.dequeued (s : State) (rest : List NumRec) : State := { s with rcd := { s.rcd with storeQ := rest, retries := 0, retryDue := none } }

/-- A retry at its instant is counted. -/
def State.retryAt (s : State) (due : Ticks) : State := (s.passTo due).count 271

theorem State.retryAt_counts (s : State) (due : Ticks) : due ≤ (s.retryAt due).time.lt ∧ (s.retryAt due).rcd = s.rcd ∧
    Table.get 0 (s.retryAt due).cnt.value 271 = (Table.get 0 s.cnt.value 271 + 1) % 2 ^ 48 ∧ (s.retryAt due).standby = s.standby := by
  have passed : due ≤ (s.passTo due).time.lt := s.le_passTo_lt due
  have rcd := s.passTo_rcd due
  have cnt := s.passTo_cnt due
  have sys := s.passTo_sys due
  have twin := s.passTo_twin due
  unfold State.retryAt
  generalize s.passTo due = x at passed rcd cnt sys twin ⊢
  refine ⟨passed, rcd, by rw [(x.count_at 271 1).1, cnt], ?_⟩
  have role : (x.count 271).standby = x.standby := rfl
  rw [role, State.standby, State.holder, sys, twin, State.standby, State.holder]

/-- The record of an abandoned write, and what follows it. -/
def State.abandon (s : State) (n : NumRec) (part off cause : Nat) : State :=
  let x := s.degrade 2 part off n.acc
  let y := if x.folioTrigger n.ev then x.folioLost else x
  (y.storeDegraded (y.gapRec n.acc 1 cause (some 1)) true).writeSignatures n

section Retry
variable {s : State} {n : NumRec} {rest : List NumRec} {due : Ticks} (hq : s.rcd.storeQ = n :: rest) (hr : s.rcd.retryDue = some due) (he : s.recEnded = false)
include hq hr he

theorem State.writeRetry_good : ∃ vals, s.writeRetry true = (((s.retryAt due).dequeued rest).storeGood n).raise 0xE002 noInst vals := by
  unfold State.writeRetry
  rw [hq, hr]
  dsimp only
  rw [if_neg (by simp [he]), if_pos rfl]
  exact ⟨_, rfl⟩

theorem State.writeRetry_again (h : (s.retryAt due).rcd.retries < 2) : s.writeRetry false = { s.retryAt due with rcd := { (s.retryAt due).rcd with
    retries := (s.retryAt due).rcd.retries + 1
    retryDue := some ((s.retryAt due).lt + us 20) } } := by
  unfold State.writeRetry
  rw [hq, hr]
  dsimp only
  rw [if_neg (by simp [he]), if_neg (by simp)]
  exact if_pos h

theorem State.writeRetry_abandons (h : ¬ (s.retryAt due).rcd.retries < 2) : ∃ part off, s.writeRetry false =
    ((s.retryAt due).dequeued rest).abandon n part off (if s.standby = true then 9 else 1) := by
  unfold State.writeRetry
  rw [hq, hr]
  dsimp only
  rw [if_neg (by simp [he]), if_neg (by simp)]
  exact ⟨_, _, if_neg h⟩

end Retry

/-- A gap record over one number, byte by byte. -/
theorem State.gapRec_fields (s : State) {acc cause : Nat} (ha : acc < 2 ^ 48) (hc : cause < 256) (lost : Option Nat) :
    leAt (recordBytes true (s.gapRec acc 1 cause lost)) 0 6 = acc ∧ leAt (recordBytes true (s.gapRec acc 1 cause lost)) 6 2 = 0xE001 ∧
    leAt (recordBytes true (s.gapRec acc 1 cause lost)) 17 4 = 1 ∧ byteAt (recordBytes true (s.gapRec acc 1 cause lost)) 21 = cause := by
  have body : padTo 14 (gapBody 1 cause lost) = leBytes 4 1 ++ (leBytes 1 cause ++ padTo 9 (leBytes 1 (b2n lost.isNone) ++ leBytes 4 (lost.getD 0) ++ leBytes 4 0)) := by
    unfold gapBody
    simp only [List.append_assoc]
    rw [padTo_append (by simp), padTo_append (by simp)]
    simp
  unfold recordBytes State.gapRec
  dsimp only
  rw [if_neg (by decide), body]
  simp only [List.append_assoc]
  refine ⟨?_, ?_, ?_, ?_⟩
  · rw [leAt_first]
    exact Nat.mod_eq_of_lt ha
  · rw [leAt_skip (by simp), length_leBytes, leAt_first]
    rfl
  · simp only [leAt_skip, leAt_first, length_leBytes, Nat.reduceLeDiff, Nat.reduceSub]
    rfl
  · simp only [byteAt_append_right, byteAt_leBytes, length_leBytes, Nat.reduceLeDiff, Nat.reduceSub]
    exact Nat.mod_eq_of_lt hc

theorem State.degrade_begins {s : State} (hd : s.rcd.degraded = false) (cause part off acc : Nat) : ∃ c m, (s.degrade cause part off acc).rcd.core =
    { s.rcd.core with degraded := true, degradedCause := c, recFault := true, sealMark := m } ∧ Frame (Part.rcd ||| Part.cnt) s (s.degrade cause part off acc) := by
  have frame : Frame (Part.rcd ||| Part.cnt) s (s.degrade cause part off acc) := State.degrade_frame rfl (Frame.refl _ s)
  refine ⟨cause, s.rcd.mark, ?_, frame⟩
  unfold State.degrade
  rw [if_neg (by simp [hd])]
  exact (State.raise_beside _ _ _ _).core

theorem State.abandon_abandons {s : State} (hd : s.rcd.degraded = false) (n : NumRec) (part off cause : Nat) : ∃ x : State,
    (s.abandon n part off cause).rcd.degraded = true ∧ (s.abandon n part off cause).rcd.recFault = true ∧
    (s.abandon n part off cause).rcd.storeQ = s.rcd.storeQ ∧ (s.abandon n part off cause).rcd.retryDue = s.rcd.retryDue ∧
    (s.abandon n part off cause).rcd.ring.getLast? = some (recordBytes true (x.gapRec n.acc 1 cause (some 1))) := by
  obtain ⟨c, m, begun, -⟩ := State.degrade_begins hd 2 part off n.acc
  have lost : (s.degrade 2 part off n.acc).Beside (if (s.degrade 2 part off n.acc).folioTrigger n.ev = true then (s.degrade 2 part off n.acc).folioLost
      else s.degrade 2 part off n.acc) := by
    split
    · exact State.folioLost_beside _
    · exact .refl _
  unfold State.abandon
  dsimp only
  generalize (if (s.degrade 2 part off n.acc).folioTrigger n.ev = true then (s.degrade 2 part off n.acc).folioLost else s.degrade 2 part off n.acc) = y at lost ⊢
  have core := lost.core.trans begun
  obtain ⟨-, storeQ, retryDue, degraded, recFault, ring, -⟩ :=
    State.storeDegraded_stores (s := y) (congrArg Recorder.degraded core :) (y.gapRec n.acc 1 cause (some 1)) true
  have signed := ((y.storeDegraded (y.gapRec n.acc 1 cause (some 1)) true).writeSignatures_beside n).core
  exact ⟨y, (congrArg Recorder.degraded signed :).trans degraded, (congrArg Recorder.recFault signed :).trans (recFault.trans (congrArg Recorder.recFault core :)),
    (congrArg Recorder.storeQ signed :).trans (storeQ.trans (congrArg Recorder.storeQ core :)),
    (congrArg Recorder.retryDue signed :).trans (retryDue.trans (congrArg Recorder.retryDue core :)), (congrArg (fun r => r.ring.getLast?) signed :).trans ring⟩

end Sys2Proof.Machine
end

section
/-!
PROOFS. Publication and the standby's events, and the recorder's commands from intake to slot (R524, R565, R574).
-/
namespace Sys2Proof.Machine
open Sys2Proof

/-! ### Publication (R565) -/

theorem List.drop_min_length {α : Type} (l : List α) (n : Nat) : l.drop (min n l.length) = l.drop n := by
  rcases le_total n l.length with h | h
  · rw [min_eq_left h]
  · rw [min_eq_right h, List.drop_length, List.drop_eq_nil_of_le h]

/-- Of records that all travel together, the first 40 go out. -/
theorem State.publish_batch {s : State} (hne : s.rcd.pubQ ≠ []) (hall : ∀ b ∈ s.rcd.pubQ, s.travelsAlone b = false) : s.publish =
    State.eventPub { s with rcd := { s.rcd with pubQ := s.rcd.pubQ.drop 40, pubSince := s.lt } } (s.rcd.pubQ.take 40) [] := by
  have together : s.rcd.pubQ.takeWhile (fun b => !s.travelsAlone b) = s.rcd.pubQ :=
    List.takeWhile_eq_self_iff.2 (fun b hb => by rw [hall b hb]; rfl)
  rw [← List.drop_min_length s.rcd.pubQ 40, ← List.length_take]
  unfold State.publish
  cases hq : s.rcd.pubQ with
  | nil => exact absurd hq hne
  | cons b rest =>
    rw [hq] at together
    dsimp only
    rw [if_neg (by rw [hall b (by rw [hq]; exact List.mem_cons_self)]; decide), together]

theorem State.publish_sends {s : State} (hon : s.trdpOn = true) (hne : s.rcd.pubQ ≠ []) (hall : ∀ b ∈ s.rcd.pubQ, s.travelsAlone b = false) :
    s.publish.rcd.pubQ = s.rcd.pubQ.drop 40 ∧ ∃ etb op, s.publish.outs = s.outs ++ [.telegram 20 (s.reg .recPubIp).toNat etb op
      (beBytes 1 (min 40 s.rcd.pubQ.length) ++ beBytes 1 (b2n s.rcd.degraded) ++ [0, 0] ++ (s.rcd.pubQ.take 40).flatten)] := by
  let x : State := { s with rcd := { s.rcd with pubQ := s.rcd.pubQ.drop 40, pubSince := s.lt } }
  obtain ⟨etb, op, sent⟩ := x.sendTelegram_outs 20 (s.reg .recPubIp).toNat
    (beBytes 1 (min 40 s.rcd.pubQ.length) ++ beBytes 1 (b2n s.rcd.degraded) ++ [0, 0] ++ (s.rcd.pubQ.take 40).flatten)
  have whole : s.publish = x.sendTelegram 20 (s.reg .recPubIp).toNat
      (beBytes 1 (min 40 s.rcd.pubQ.length) ++ beBytes 1 (b2n s.rcd.degraded) ++ [0, 0] ++ (s.rcd.pubQ.take 40).flatten) := by
    have on : x.trdpOn = true := hon
    refine (State.publish_batch hne hall).trans ?_
    change x.eventPub (s.rcd.pubQ.take 40) [] = _
    rw [State.eventPub, when_of on, List.length_take, List.append_nil]
    rfl
  rw [whole]
  exact ⟨congrArg Recorder.pubQ ((State.sendTelegram_frame (w := Part.cnt ||| Part.outs) rfl (Frame.refl _ x)).rcd rfl), etb, op, sent⟩

/-! ### The standby's events (R524, R574) -/

/-- An event of the mate that comes with no refusal before it enters the intake. -/
theorem State.mateEvent_enters {s : State} {code : Nat} {body : List Byte} (hon : s.rb .recCfg 0 2 = false) (hroom : s.rcd.intake.length ≤ 1022)
    (hc : code < 2 ^ 16) : ∃ e, (s.mateEvent (beBytes 2 code ++ beBytes 4 0 ++ body)).rcd.intake = s.rcd.intake ++ [e] ∧ e.code = code ∧ e.body = body ∧
      e.mate = true ∧ e.tt = s.tt := by
  have none : beAt (beBytes 2 code ++ beBytes 4 0 ++ body) 2 4 = 0 := by
    rw [List.append_assoc, beAt_field 0 (by simp)]
    rfl
  have named : beAt (beBytes 2 code ++ beBytes 4 0 ++ body) 0 2 = code := by
    rw [List.append_assoc, beAt_append_left (by simp), beAt_beBytes]
    exact Nat.mod_eq_of_lt hc
  have data : (beBytes 2 code ++ beBytes 4 0 ++ body).drop 6 = body := List.drop_left' (by simp)
  have entered : (s.mateEvent (beBytes 2 code ++ beBytes 4 0 ++ body)).rcd = intake s.rcd { code := code, tt := s.tt, tq := s.quality.code, mate := true, body := body } := by
    unfold State.mateEvent queueRecord
    dsimp only
    rw [none, named, data, hon]
    rfl
  rw [entered, intake_enters hroom]
  exact ⟨_, rfl, rfl, rfl, rfl, rfl⟩

theorem State.mateFrame_takes {s : State} {b data : List Byte} {m : Nat} (hp : mirrorParse b = some (m, [(11, data)])) (hrole : s.sys.twinRole ≠ 0)
    (hh : s.holder = true) (hm : m = (s.twin.applied + 1) % 2 ^ 32) : (s.mateFrame b).rcd = (s.mateEvent data).rcd ∧ (s.mateFrame b).twin.applied = m := by
  unfold State.mateFrame
  rw [when_of (by rw [bne_iff_ne.2 hrole, hh]; rfl), hp]
  dsimp only
  rw [if_neg (not_not.2 hm)]
  exact ⟨rfl, rfl⟩

/-! ### O54 -/

section Intake
variable {s : State} {code : Nat} (he : isEvent code = true) (hg : code ≠ 0xE001)
include he hg

theorem State.intake_told (inst : Nat) (vals : List Byte) (hn : s.rb .recCfg 0 2 = false ∨ neverSuppressed code = true) :
    (s.rcd.intake.length ≤ 1022 → Completes (.eventIntake code inst vals) s (fun t => ∃ e, t.rcd = { s.rcd with intake := s.rcd.intake ++ [e], gapOpen := false } ∧
      e.code = code ∧ e.tt = s.tt ∧ e.tq = s.quality.code ∧ e.mate = s.standby ∧ (code ≠ 0x3020 → e.body.take 2 = leBytes 2 inst))) ∧
    (s.rcd.intake.length = 1023 → s.rcd.gapOpen = false → Completes (.eventIntake code inst vals) s (fun t => ∃ g,
      t.rcd = { s.rcd with intake := s.rcd.intake ++ [g], gapOpen := true } ∧ g.code = 0xE001 ∧ byteAt g.body 4 = 4 ∧ leAt g.body 6 4 = 1)) ∧
    (∀ l g, s.rcd.intake = l ++ [g] → 1023 ≤ s.rcd.intake.length → s.rcd.gapOpen = true → Completes (.eventIntake code inst vals) s (fun t =>
      t.rcd = { s.rcd with intake := l ++ [bumpLost g] })) := by
  have raised := State.eventIntake_raises (s := s.fresh) he hg inst vals
  have enters := s.fresh.raiseBody_enters (eventData code inst vals) hn
  refine ⟨fun hroom => ?_, fun hlen hgap => ?_, fun l g hl hlen hgap => ?_⟩
  · refine completes_fresh (f := fun s => s.eventIntake code inst vals) rfl ?_
    rw [raised, enters, intake_enters (r := s.fresh.rcd) hroom]
    exact ⟨_, rfl, rfl, rfl, rfl, rfl, fun h => eventData_instance h inst vals⟩
  · refine completes_fresh (f := fun s => s.eventIntake code inst vals) rfl ?_
    rw [raised, enters, intake_opens (r := s.fresh.rcd) hlen hgap]
    exact ⟨_, rfl, gap4_fields _ _ _ _ (by decide)⟩
  · refine completes_fresh (f := fun s => s.eventIntake code inst vals) rfl ?_
    rw [raised, enters, intake_counts (r := s.fresh.rcd) hl hlen hgap]
    rfl

theorem State.repeat_told (inst : Nat) (vals : List Byte) {k : RepeatTrack} (hon : s.rb .recCfg 0 2 = true) (hn : neverSuppressed code = false)
    (hk : trackOf s.rcd code = some k) (hb : k.body = padTo 14 (leBytes 2 inst ++ vals)) (ht : s.lt < k.entered + ms (10 * s.rf .recCfg 0 15 8)) :
    Completes (.eventIntake code inst vals) s (fun t => t.rcd.intake = s.rcd.intake ∧ t.rcd.nextAcc = s.rcd.nextAcc ∧
      Table.get 0 t.cnt.value 272 = (Table.get 0 s.cnt.value 272 + 1) % 2 ^ 48) := by
  have plain : code ≠ 0x3020 := by
    rintro rfl
    exact absurd hn (by decide)
  have body : k.body = eventData code inst vals := by rw [eventData, if_neg plain, hb, dataOf]
  refine completes_fresh (f := fun s => s.eventIntake code inst vals) rfl ?_
  rw [State.eventIntake_raises (s := s.fresh) he hg inst vals]
  exact State.raiseBody_suppressed (s := s.fresh) hon hn hk body ht

end Intake

section Allocate
variable {s : State} {e : EventRec} {rest : List EventRec} (hi : s.rcd.intake = e :: rest) (hs : s.standby = false) (hm : s.mayAllocate = true)
include hi hs hm

theorem State.allocate_numbered : s.allocate.rcd.nextAcc = s.rcd.nextAcc + 1 ∧ s.allocate.rcd.lastAlloc = some s.allocate.time.lt ∧
    (∀ t0, s.rcd.lastAlloc = some t0 → t0 + us 50 ≤ s.allocate.time.lt) ∧ (s.rcd.degraded = false → s.rcd.nextAcc ≤ s.allocate.rcd.mark) := by
  obtain ⟨x, passed, rcd, -, -, -, takes⟩ := State.allocate_takes hi hs hm
  obtain ⟨m, k, g, f, taken, covers⟩ := x.taking_rcd rest
  have kept : Frame (Part.rcd ||| Part.mem) x (x.taking rest) := Frame.set_rcd rfl (x.markFor_keeps x.rcd.nextAcc)
  obtain ⟨next, last, mark⟩ := (x.taking rest).numbered_numbers ⟨s.rcd.nextAcc, e⟩
  have time : s.allocate.time = x.time := by
    rw [takes, ((x.taking rest).numbered_keeps _).time rfl, kept.time rfl]
  rw [time, takes, next, last, mark, taken]
  rw [rcd] at covers ⊢
  exact ⟨rfl, rfl, passed, covers⟩

theorem State.allocate_intake (hc : e.code ≠ 0x3020) (hf : s.folioTrigger e = false) : s.allocate.rcd.intake = rest := by
  obtain ⟨y, placed, -, regs, m, k, g, f, l, rcd⟩ := State.allocate_places hi hs hm hc
  rw [placed, State.placeNumbered_intake ((State.folioTrigger_congr regs e).trans hf), rcd]

theorem State.allocate_queues (hc : e.code ≠ 0x3020) (hp : s.rcd.holdPending = false) :
    (s.rcd.hold = false → s.rcd.draining = false → s.allocate.rcd.storeQ = s.rcd.storeQ ++ [⟨s.rcd.nextAcc, e⟩] ∧ s.allocate.rcd.holdQ = s.rcd.holdQ) ∧
    (s.rcd.hold = false → s.rcd.draining = true → s.allocate.rcd.storeQ = s.rcd.storeQ ∧ s.allocate.rcd.holdQ = s.rcd.holdQ ++ [⟨s.rcd.nextAcc, e⟩]) ∧
    (s.rcd.hold = true → s.rcd.episode = none → s.rcd.holdLimit = false → s.rcd.holdQ.length < 4096 →
      s.allocate.rcd.storeQ = s.rcd.storeQ ∧ s.allocate.rcd.holdQ = s.rcd.holdQ ++ [⟨s.rcd.nextAcc, e⟩]) ∧
    (s.rcd.hold = true → s.rcd.episode = none → s.rcd.holdLimit = true ∨ 4096 ≤ s.rcd.holdQ.length → s.allocate.rcd.storeQ = s.rcd.storeQ ∧
      s.allocate.rcd.holdQ = s.rcd.holdQ ∧ s.allocate.rcd.episode = some ⟨if s.rcd.holdLimit then 3 else 2, s.rcd.nextAcc, NumRec.span ⟨s.rcd.nextAcc, e⟩⟩) ∧
    (∀ p, s.rcd.hold = true → s.rcd.episode = some p → s.allocate.rcd.holdQ = s.rcd.holdQ ∧
      s.allocate.rcd.episode = some { p with count := p.count + NumRec.span ⟨s.rcd.nextAcc, e⟩ }) := by
  obtain ⟨y, placed, role, -, m, k, g, f, l, rcd⟩ := State.allocate_places hi hs hm hc
  have pending : y.rcd.holdPending = false := by rw [rcd]; exact hp
  have hold : y.rcd.hold = s.rcd.hold := by rw [rcd]
  have draining : y.rcd.draining = s.rcd.draining := by rw [rcd]
  have episode : y.rcd.episode = s.rcd.episode := by rw [rcd]
  have limit : y.rcd.holdLimit = s.rcd.holdLimit := by rw [rcd]
  have holdQ : y.rcd.holdQ = s.rcd.holdQ := by rw [rcd]
  have storeQ : y.rcd.storeQ = s.rcd.storeQ := by rw [rcd]
  rw [placed, ← storeQ, ← holdQ, ← hold, ← draining, ← episode, ← limit]
  refine ⟨State.placeNumbered_stores pending, fun hh hd => State.placeNumbered_drains pending hh hd ?_, State.placeNumbered_waits pending,
    fun hh he hfull => State.placeNumbered_begins pending hh role he hfull, fun p hh he => State.placeNumbered_adds pending hh role he⟩
  have room : (!(s.rcd.draining && (!s.rcd.hold || s.rcd.holdPending) && decide (4096 ≤ s.rcd.holdQ.length))) = true := (Bool.and_eq_true_iff.1 hm).2
  rw [← draining, ← hold, hd, hh] at room
  rw [holdQ]
  simpa using room

end Allocate

theorem State.standbyForward_keeps (s : State) : s.standbyForward.rcd.nextAcc = s.rcd.nextAcc ∧ s.standbyForward.rcd.storeQ = s.rcd.storeQ ∧
    s.standbyForward.rcd.holdQ = s.rcd.holdQ := by
  unfold State.standbyForward
  split
  · exact ⟨rfl, rfl, rfl⟩
  · dsimp only
    split <;> exact ⟨rfl, rfl, rfl⟩

theorem State.allocate_standby {s : State} (hs : s.standby = true) : s.allocate.rcd.nextAcc = s.rcd.nextAcc ∧ s.allocate.rcd.storeQ = s.rcd.storeQ ∧
    s.allocate.rcd.holdQ = s.rcd.holdQ := by
  unfold State.allocate
  rw [if_pos hs]
  cases hc : s.rcd.started && s.twin.beat.isSome && !s.twin.silent && !s.twin.fallback
  · exact ⟨rfl, rfl, rfl⟩
  · exact s.standbyForward_keeps

theorem State.allocate_waits {s : State} (hs : s.standby = false) (hm : s.mayAllocate = false) : s.allocate = s := by
  unfold State.allocate
  rw [if_neg (by simp [hs]), when_not hm]

/-- Under the mirror, 64 numbers at most wait for the mate's confirmation. -/
theorem State.mayAllocate_mirrored {s : State} (hm : s.mirrors = true) (h : s.twin.accConfirmed + 64 < s.rcd.nextAcc) : s.mayAllocate = false := by
  unfold State.mayAllocate
  rw [hm, decide_eq_false (Nat.not_le.2 h)]
  simp

section Retry
variable {s : State} {n : NumRec} {rest : List NumRec} {t0 : Ticks} (hq : s.rcd.storeQ = n :: rest) (hr : s.rcd.retryDue = some t0) (he : s.recEnded = false)
include hq hr he

theorem State.retry_good : t0 ≤ (s.writeRetry true).time.lt ∧ (s.rcd.circNext < circSlots → s.rcd.archCnt < archSlots →
    (s.writeRetry true).memBytes (s.slotAddr n.ev.code) 32 = recordBytes false n) ∧ (s.writeRetry true).rcd.storeQ = rest ∧
    (s.writeRetry true).rcd.retryDue = none ∧ Table.get 0 (s.writeRetry true).cnt.value 271 = (Table.get 0 s.cnt.value 271 + 1) % 2 ^ 48 := by
  obtain ⟨vals, wrote⟩ := State.writeRetry_good hq hr he
  obtain ⟨passed, rcd, counted, -⟩ := s.retryAt_counts t0
  generalize s.retryAt t0 = x at wrote passed rcd counted
  obtain ⟨slot, storeQ, retryDue, -, retried, -, -, -, time⟩ := (x.dequeued rest).storeGood_stores n
  have addr : (x.dequeued rest).slotAddr n.ev.code = s.slotAddr n.ev.code := by
    unfold State.slotAddr State.toArchive State.dequeued
    dsimp only
    rw [rcd]
  have pointers : (x.dequeued rest).rcd.circNext = s.rcd.circNext ∧ (x.dequeued rest).rcd.archCnt = s.rcd.archCnt := by
    rw [State.dequeued, rcd]
    exact ⟨rfl, rfl⟩
  have core := (((x.dequeued rest).storeGood n).raise_beside 0xE002 noInst vals).core
  rw [wrote]
  refine ⟨?_, fun hc ha => ?_, (congrArg Recorder.storeQ core :).trans storeQ, (congrArg Recorder.retryDue core :).trans retryDue, ?_⟩
  · rw [State.raise_time, time]
    exact passed
  · rw [State.memBytes_congr (State.raise_mem _ _ _ _), ← addr]
    exact slot (by rw [pointers.1]; exact hc) (by rw [pointers.2]; exact ha)
  · exact (State.raiseBody_counter _ _ _ (by decide)).trans (retried.trans counted)

theorem State.retry_again (h : s.rcd.retries < 2) : (s.writeRetry false).rcd.storeQ = s.rcd.storeQ ∧ (s.writeRetry false).rcd.retries = s.rcd.retries + 1 ∧
    (s.writeRetry false).rcd.retryDue = some ((s.writeRetry false).time.lt + us 20) := by
  obtain ⟨-, rcd, -, -⟩ := s.retryAt_counts t0
  rw [State.writeRetry_again hq hr he (by rw [rcd]; exact h), rcd]
  exact ⟨rfl, rfl, rfl⟩

theorem State.retry_abandons (h : 2 ≤ s.rcd.retries) (hd : s.rcd.degraded = false) (ha : n.acc < 2 ^ 48) : (s.writeRetry false).rcd.degraded = true ∧
    (s.writeRetry false).rcd.recFault = true ∧ (s.writeRetry false).rcd.storeQ = rest ∧ (s.writeRetry false).rcd.retryDue = none ∧
    ∃ b, (s.writeRetry false).rcd.ring.getLast? = some b ∧ leAt b 0 6 = n.acc ∧ leAt b 6 2 = 0xE001 ∧ leAt b 17 4 = 1 ∧
      byteAt b 21 = if s.standby then 9 else 1 := by
  obtain ⟨-, rcd, -, -⟩ := s.retryAt_counts t0
  obtain ⟨part, off, wrote⟩ := State.writeRetry_abandons hq hr he (by rw [rcd]; omega)
  have normal : ((s.retryAt t0).dequeued rest).rcd.degraded = false := by
    rw [State.dequeued, rcd]
    exact hd
  obtain ⟨x, degraded, recFault, storeQ, retryDue, ring⟩ := State.abandon_abandons normal n part off (if s.standby = true then 9 else 1)
  have fields := x.gapRec_fields (cause := if s.standby = true then 9 else 1) ha (by split <;> decide) (some 1)
  rw [wrote]
  exact ⟨degraded, recFault, storeQ, retryDue, _, ring, fields⟩

end Retry

/-- Settles O54, command by command: each clause is what the lemmas above say of the operation that runs. -/
theorem recorderNumbersAndStores : Obligations.RecorderNumbersAndStores := by
  unfold Obligations.RecorderNumbersAndStores
  intro s
  dsimp only
  refine ⟨fun code inst vals he hg hn => State.intake_told he hg inst vals hn,
    fun code inst vals k he hg hon hn hk hb ht => State.repeat_told he hg inst vals hon hn hk hb ht, fun e rest hi hs hm => ?allocate,
    State.mayAllocate_mirrored, fun hm hs => ?waits, fun hs => ?standby, fun k hk hroom hc => ?repeated,
    fun n rest hq hr he => ⟨fun hd => ?good, fun hd => ?bad, fun ok hd => ?degraded⟩, fun n rest t0 hq hr he => ⟨?retryGood, fun h => ?retryAgain, fun h hd ha => ?abandon⟩,
    fun hne he hon hall => ?publish, fun b code body m hp hrole hh hm hon hroom hc => ?mate⟩
  case allocate =>
    obtain ⟨next, last, passed, mark⟩ := State.allocate_numbered (s := s.fresh) hi hs hm
    exact completes_fresh (f := State.allocate) rfl ⟨next, last, passed, mark, State.allocate_intake (s := s.fresh) hi hs hm, State.allocate_queues (s := s.fresh) hi hs hm⟩
  case waits =>
    refine completes_fresh (f := State.allocate) rfl ?_
    rw [State.allocate_waits (s := s.fresh) hs hm]
    rfl
  case standby => exact completes_fresh (f := State.allocate) rfl (State.allocate_standby (s := s.fresh) hs)
  case repeated =>
    refine completes_fresh (f := State.repeated) rfl ?_
    rw [State.repeated_eq (s := s.fresh) hk]
    exact State.repeatsAt_queues (s := s.fresh) _ hroom hc
  case good =>
    refine completes_fresh (f := fun s => s.recStore true) rfl ?_
    obtain ⟨slot, storeQ, -, stored, -, last, circ, arch, -⟩ := (s.fresh.storing rest).storeGood_stores n
    rw [State.recStore_good (s := s.fresh) hq hr he hd]
    exact ⟨slot, storeQ, stored, by rw [last]; exact recentWith_getLast? _ _, circ, arch⟩
  case bad => exact completes_fresh (f := fun s => s.recStore false) rfl (State.recStore_bad (s := s.fresh) hq hr he hd)
  case degraded =>
    refine completes_fresh (f := fun s => s.recStore ok) rfl ?_
    obtain ⟨mem, storeQ, -, -, -, ring, writes⟩ := State.storeDegraded_stores (s := s.fresh.storing rest) hd n ok
    rw [State.recStore_degraded (s := s.fresh) hq hr he hd]
    exact ⟨mem, storeQ, ring, fun hs hf => writes (hs.imp id .inl) hf⟩
  case retryGood => exact completes_fresh (f := fun s => s.writeRetry true) rfl (State.retry_good (s := s.fresh) hq hr he)
  case retryAgain => exact completes_fresh (f := fun s => s.writeRetry false) rfl (State.retry_again (s := s.fresh) hq hr he h)
  case abandon => exact completes_fresh (f := fun s => s.writeRetry false) rfl (State.retry_abandons (s := s.fresh) hq hr he h hd ha)
  case publish =>
    refine completes_fresh (f := fun s => when_ (!s.recEnded) State.publish s) rfl ?_
    rw [when_of (by rw [show s.fresh.recEnded = false from he]; rfl)]
    exact State.publish_sends (s := s.fresh) hon hne hall
  case mate =>
    refine completes_fresh (f := fun s => s.mateFrame b) rfl ?_
    obtain ⟨rcd, applied⟩ := State.mateFrame_takes (s := s.fresh) hp hrole hh hm
    rw [rcd]
    exact ⟨applied, State.mateEvent_enters (s := s.fresh) hon hroom hc⟩

end Sys2Proof.Machine
end

section
/-!
PROOFS. Hold and the Reading Window, by the recorder's registers (R558 to R561, R566, R571, R578, R580).
-/
namespace Sys2Proof.Machine
open Sys2Proof

/-! ### Hold (R558, R559) -/

theorem State.recReject_beside (s : State) (cmd reason : Nat) : s.Beside (s.recReject cmd reason) := s.raise_beside _ _ _

section HoldSet
variable (s : State) (cmd : Nat) (byWindow : Bool)

theorem State.holdSet_sets (hd : s.rcd.degraded = false) (hh : s.rcd.hold = false) : 
    (s.holdSet cmd byWindow).1.rcd.core = { s.rcd with
      hold := true
      holdPending := true
      holdStart := s.lt
      holdLimit := false
      holdByWindow := byWindow }.core := by
  unfold State.holdSet
  rw [if_neg (by simp [hd]), if_neg (by simp [hh])]
  exact (State.raise_beside _ _ _ _).core

theorem State.holdSet_held (hd : s.rcd.degraded = false) (hh : s.rcd.hold = true) : (s.holdSet cmd byWindow).1 = s := by
  unfold State.holdSet
  rw [if_neg (by simp [hd]), if_pos hh]

theorem State.holdSet_refused (hd : s.rcd.degraded = true) : (s.holdSet cmd byWindow).1.rcd.core = s.rcd.core := by
  unfold State.holdSet
  rw [if_pos hd]
  exact (s.recReject_beside cmd 1).core

/-- Hold after a set: it is in force, but where degraded mode refuses it. -/
theorem State.holdSet_hold : (s.holdSet cmd byWindow).1.rcd.hold = (s.rcd.hold || !s.rcd.degraded) := by
  cases hd : s.rcd.degraded with
  | true => exact (congrArg Recorder.hold (s.holdSet_refused cmd byWindow hd) :).trans (Bool.or_false _).symm
  | false => cases hh : s.rcd.hold with
    | true => rw [s.holdSet_held cmd byWindow hd hh, hh]; rfl
    | false => exact (congrArg Recorder.hold (s.holdSet_sets cmd byWindow hd hh) :)

theorem State.holdSet_keeps : Frame (Part.rcd ||| Part.cnt) s (s.holdSet cmd byWindow).1 := State.holdSet_frame rfl (Frame.refl _ s)

end HoldSet

/-- The gap records of a loss episode depend on the episode and the clock alone. -/
theorem State.episodeGaps_congr {s x : State} (he : x.rcd.episode = s.rcd.episode) (ht : x.time = s.time) (hs : x.standby = s.standby) :
    x.episodeGaps = s.episodeGaps := by
  have gap (acc count cause : Nat) (lost : Option Nat) : x.gapRec acc count cause lost = s.gapRec acc count cause lost := by
    simp only [State.gapRec, State.tt, State.quality, State.tracker, ht, hs]
  unfold State.episodeGaps
  rw [he]
  simp only [gap]

theorem State.raise_standby (s : State) (code inst : Nat) (vals : List Byte) : (s.raise code inst vals).standby = s.standby := by
  rw [State.standby, State.holder, State.raise_sys, State.raise_twin, State.standby, State.holder]

/-- The release of Hold: the episode ends, its gap records wait for the drain, and what waits drains. -/
theorem State.holdRelease_releases {s : State} (hh : s.rcd.hold = true) : ∃ vals, s.holdRelease.rcd = { (s.raise 0xE004 noInst vals).rcd with
      hold := false
      holdPending := false
      holdByWindow := false
      holdLimit := false
      episode := none
      drainGaps := s.rcd.drainGaps ++ s.episodeGaps
      draining := decide (s.rcd.holdQ ≠ []) || s.rcd.episode.isSome || s.rcd.draining } := by
  unfold State.holdRelease
  rw [when_of hh]
  dsimp only
  generalize leBytes 2 s.rcd.holdQ.length ++ leBytes 4 _ ++ leBytes 1 (b2n s.rcd.holdLimit) = vals
  refine ⟨vals, ?_⟩
  obtain ⟨_, _, _, rcd⟩ := raise_rcd' s 0xE004 noInst vals
  have gaps : (s.raise 0xE004 noInst vals).episodeGaps = s.episodeGaps :=
    State.episodeGaps_congr (by rw [rcd]) (State.raise_time _ _ _ _) (State.raise_standby _ _ _ _)
  have drainGaps : (s.raise 0xE004 noInst vals).rcd.drainGaps = s.rcd.drainGaps := by rw [rcd]
  rw [gaps, drainGaps]

theorem State.holdRelease_told {s : State} (hh : s.rcd.hold = true) : s.holdRelease.rcd.hold = false ∧ s.holdRelease.rcd.holdQ = s.rcd.holdQ ∧
    s.holdRelease.rcd.episode = none ∧ s.holdRelease.rcd.drainGaps = s.rcd.drainGaps ++ s.episodeGaps ∧
    s.holdRelease.rcd.draining = (decide (s.rcd.holdQ ≠ []) || s.rcd.episode.isSome || s.rcd.draining) ∧
    (s.rcd.intake.length ≤ 1022 → ∃ e, s.holdRelease.rcd.intake = s.rcd.intake ++ [e] ∧ e.code = 0xE004) := by
  obtain ⟨vals, released⟩ := State.holdRelease_releases hh
  rw [released]
  refine ⟨rfl, (congrArg Recorder.holdQ (s.raise_beside 0xE004 noInst vals).core :), rfl, rfl, rfl, fun hroom => ?_⟩
  have entered := s.raiseBody_joins (dataOf noInst vals) (code := 0xE004) (.inr rfl) hroom
  exact ⟨_, (congrArg Recorder.intake entered :), rfl⟩

theorem State.holdRelease_none {s : State} (hh : s.rcd.hold = false) : s.holdRelease = s := when_not hh _ _

/-- After a release Hold is not in force. -/
theorem State.holdRelease_hold (s : State) : s.holdRelease.rcd.hold = false := by
  cases hh : s.rcd.hold with
  | false => rw [State.holdRelease_none hh, hh]
  | true => exact (State.holdRelease_told hh).1

/-- The window is no part of what a release changes. -/
theorem State.holdRelease_window (s : State) : s.holdRelease.rcd.winOpen = s.rcd.winOpen ∧ s.holdRelease.rcd.winStatus = s.rcd.winStatus := by
  cases hh : s.rcd.hold with
  | false => rw [State.holdRelease_none hh]; exact ⟨rfl, rfl⟩
  | true =>
    obtain ⟨vals, released⟩ := State.holdRelease_releases hh
    have core := (s.raise_beside 0xE004 noInst vals).core
    rw [released]
    exact ⟨(congrArg Recorder.winOpen core :), (congrArg Recorder.winStatus core :)⟩

/-! ### The registers (R578, R580) -/

/-- The codes of REC_CMD. -/
theorem State.recCmd_one (s : State) : s.recCmd 1 = (s.holdSet 1 false).1 := rfl
theorem State.recCmd_two (s : State) : s.recCmd 2 = s.holdRelease := rfl
theorem State.recCmd_three (s : State) : s.recCmd 3 = s.captureCmd := rfl
theorem State.recCmd_six (s : State) : s.recCmd 6 = (s.archive 6).1 := rfl
theorem State.recCmd_seven (s : State) : s.recCmd 7 = (s.clearCirc 7).1 := rfl
theorem State.recCmd_eight (s : State) : s.recCmd 8 = s.lwClear := rfl

theorem State.recCmd_keep (s : State) (f : Fin 4) : s.recCmd (BitVec.ofNat 32 (4 + 16 * f)) = s.folioKeep f true ∧
    s.recCmd (BitVec.ofNat 32 (5 + 16 * f)) = s.folioKeep f false := by
  match f with
  | 0 | 1 | 2 | 3 => exact ⟨rfl, rfl⟩

/-- The fields of an OPEN. -/
theorem rwOpen_fields : ∀ (area : Fin 3) (f : Fin 4) (hold : Bool), fld (BitVec.ofNat 32 (1 + 4 * area + 16 * f + 64 * b2n hold)) 1 0 = 1 ∧
    fld (BitVec.ofNat 32 (1 + 4 * area + 16 * f + 64 * b2n hold)) 3 2 = area ∧ fld (BitVec.ofNat 32 (1 + 4 * area + 16 * f + 64 * b2n hold)) 5 4 = f ∧
    bitOf (BitVec.ofNat 32 (1 + 4 * area + 16 * f + 64 * b2n hold)) 6 = hold := by decide

theorem rwOpen_writeOk : ∀ (area : Fin 3) (f : Fin 4) (hold : Bool), writeOk .recRwCmd 0 0 (BitVec.ofNat 32 (1 + 4 * area + 16 * f + 64 * b2n hold)) = true := by
  decide

theorem State.rwCmd_opens (s : State) (area : Fin 3) (f : Fin 4) (hold : Bool) : s.rwCmd (BitVec.ofNat 32 (1 + 4 * area + 16 * f + 64 * b2n hold)) =
    s.rwOpen area f hold := by
  obtain ⟨cmd, areas, folio, holds⟩ := rwOpen_fields area f hold
  unfold State.rwCmd
  rw [cmd, areas, folio, holds]
  rfl

theorem State.folioKeep_keeps (s : State) (f : Fin 4) (keep : Bool) : (s.folioKeep f keep).folio f = { s.folio f with keep := keep } ∧
    ∀ g, g ≠ f.val → (s.folioKeep f keep).folio g = s.folio g :=
  ⟨Table.get_set_self _ _ _ _, fun _ h => Table.get_set_ne _ _ _ h⟩

/-! ### The Reading Window (R560) -/

theorem State.setRwPos_keeps (s : State) (n : Nat) : Frame Part.regs s (s.setRwPos n) := State.setReg_frame rfl (State.setReg_frame rfl (Frame.refl _ s))

theorem State.rwLoad_loads (s : State) (n : Nat) : (s.rwLoad n).rcd = { s.rcd with winPos := n, winMoved := false, winBusy := true, winLast := s.lt } := by
  have frame := s.setRwPos_keeps n
  unfold State.rwLoad
  dsimp only
  rw [frame.rcd rfl]

theorem State.rwOpen_opens (s : State) (area f : Nat) (hold : Bool) : (s.rwOpen area f hold).rcd.winOpen = true ∧ (s.rwOpen area f hold).rcd.winArea = area ∧
    (s.rwOpen area f hold).rcd.winFolio = f ∧ (s.rwOpen area f hold).rcd.winPos = s.rwPos ∧ (s.rwOpen area f hold).rcd.winBusy = true ∧
    (s.rwOpen area f hold).rcd.winLast = s.lt ∧ (s.rwOpen area f hold).rcd.hold = (s.rcd.hold || hold && !s.rcd.degraded) := by
  have first : ∃ x : State, s.rwOpen area f hold = State.rwLoad { x with rcd := { x.rcd with winOpen := true, winArea := area, winFolio := f } } s.rwPos ∧
      x.time = s.time ∧ x.rcd.hold = (s.rcd.hold || hold && !s.rcd.degraded) := by
    refine ⟨_, rfl, ?_, ?_⟩
    · split
      · exact (s.holdSet_keeps 1 true).time rfl
      · rfl
    · split
      · next h => rw [State.holdSet_hold, h.1, Bool.true_and]
      · next h =>
        cases hold
        · simp
        · simp only [true_and, Bool.not_eq_true', Bool.not_eq_false] at h
          simp [h]
  obtain ⟨x, eq, time, held⟩ := first
  rw [eq, State.rwLoad_loads]
  exact ⟨rfl, rfl, rfl, rfl, rfl, congrArg (·.lt) time, held⟩

theorem State.rwStep_steps {s : State} (ho : s.rcd.winOpen = true) (hb : s.rcd.winBusy = false) : s.rwStep.rcd =
    { s.rcd with winPos := if s.rcd.winMoved then s.rwPos else s.rcd.winNext, winMoved := false, winBusy := true, winLast := s.lt } := by
  unfold State.rwStep
  rw [when_of (by rw [ho, hb]; rfl), State.rwLoad_loads]

theorem State.rwStep_closed {s : State} (ho : s.rcd.winOpen = false) : s.rwStep = s := when_not (by rw [ho]; rfl) _ _

theorem State.rwClose_closes {s : State} (ho : s.rcd.winOpen = true) : s.rwClose.rcd.winOpen = false ∧ s.rwClose.rcd.winStatus = 0 ∧
    s.rwClose.rcd.hold = (s.rcd.hold && !s.rcd.holdByWindow) := by
  unfold State.rwClose
  rw [when_of ho]
  dsimp only
  split
  · next h =>
    obtain ⟨isOpen, status⟩ := State.holdRelease_window { s with rcd := { s.rcd with winOpen := false, winBusy := false, winStatus := 0, winData := [] } }
    exact ⟨isOpen, status, (State.holdRelease_hold _).trans (by simp [h])⟩
  · next h => exact ⟨rfl, rfl, by simp [h]⟩

theorem State.rwClose_time (s : State) : s.rwClose.time = s.time := (State.rwClose_frame (w := Part.rcd ||| Part.cnt) rfl (Frame.refl _ s)).time rfl

/-- A window that is idle closes at an instant. -/
def State.rwIdleAt (s : State) (due : Ticks) : State := (s.passTo due).rwClose

theorem State.rwIdle_eq {s : State} (ho : s.rcd.winOpen = true) : s.rwIdle = s.rwIdleAt (s.rcd.winLast + sec 5) := when_of ho _ _

theorem State.rwIdleAt_closes {s : State} (ho : s.rcd.winOpen = true) (due : Ticks) : due ≤ (s.rwIdleAt due).time.lt ∧ (s.rwIdleAt due).rcd.winOpen = false ∧
    (s.rwIdleAt due).rcd.winStatus = 0 ∧ (s.rwIdleAt due).rcd.hold = (s.rcd.hold && !s.rcd.holdByWindow) := by
  have passed : due ≤ (s.passTo due).time.lt := s.le_passTo_lt due
  have rcd := s.passTo_rcd due
  unfold State.rwIdleAt
  generalize s.passTo due = x at passed rcd ⊢
  obtain ⟨closed, status, held⟩ := State.rwClose_closes (s := x) (by rw [rcd]; exact ho)
  rw [State.rwClose_time]
  exact ⟨passed, closed, status, by rw [held, rcd]⟩

/-! ### Loads (R560, R561, R569) -/

section Loads
variable {s : State} (ho : s.rcd.winOpen = true) (hb : s.rcd.winBusy = true) (ha : s.rcd.winArea = 0)
include ho hb ha

theorem State.rwDone_loads : (s.rwDone false).rcd = { s.rcd with
    winBusy := false
    winStatus := (s.findRecord s.rcd.winPos).status
    winData := (s.findRecord s.rcd.winPos).data
    winNext := (s.findRecord s.rcd.winPos).next } := by
  unfold State.rwDone
  rw [when_of (by rw [ho, hb]; rfl)]
  dsimp only
  rw [if_neg (by simp), State.lookup, if_pos ha]

/-- An uncorrectable error of a record that is found begins degraded mode. -/
theorem State.rwDone_error (hd : s.rcd.degraded = false) (hf : (s.findRecord s.rcd.winPos).status = 1 ∨ (s.findRecord s.rcd.winPos).status = 2) :
    (s.rwDone true).rcd.winStatus = 6 ∧ (s.rwDone true).rcd.winData = [] ∧ (s.rwDone true).rcd.winNext = s.rcd.winPos + 1 ∧
    (s.rwDone true).rcd.degraded = true ∧ (s.rwDone true).rcd.degradedCause = 1 ∧ (s.rwDone true).rcd.recFault = true := by
  let x : State := { s with rcd := { s.rcd with winBusy := false, winStatus := 6, winData := [], winNext := s.rcd.winPos + 1 } }
  have whole : ∃ part off acc, s.rwDone true = x.degrade 1 part off acc := by
    unfold State.rwDone
    rw [when_of (by rw [ho, hb]; rfl)]
    dsimp only
    have look : s.lookup s.rcd.winArea s.rcd.winFolio s.rcd.winPos = s.findRecord s.rcd.winPos := if_pos ha
    have notSeal : s.rcd.winArea ≠ 2 := by
      rw [ha]
      decide
    rw [look, if_pos ⟨rfl, hf⟩, if_neg notSeal]
    exact ⟨_, _, _, rfl⟩
  obtain ⟨part, off, acc, eq⟩ := whole
  have core : (x.degrade 1 part off acc).rcd.core = { x.rcd with degraded := true, degradedCause := 1, recFault := true, sealMark := x.rcd.mark }.core := by
    unfold State.degrade
    rw [if_neg (by simp [x, hd])]
    exact (State.raise_beside _ _ _ _).core
  rw [eq]
  exact ⟨(congrArg Recorder.winStatus core :), (congrArg Recorder.winData core :), (congrArg Recorder.winNext core :), (congrArg Recorder.degraded core :),
    (congrArg Recorder.degradedCause core :), (congrArg Recorder.recFault core :)⟩

end Loads

section Finds
variable {s : State} {n : Nat}

theorem State.findRecord_future (h : s.rcd.nextAcc ≤ n) : s.findRecord n = ⟨5, [], n⟩ := if_pos h

theorem State.findRecord_found (h : n < s.rcd.nextAcc) {b : List Byte} (hb : s.heldRecords.find? (covers n) = some b) :
    (leAt b 6 2 ≠ 0xE001 → s.findRecord n = ⟨1, b, n + 1⟩) ∧ (leAt b 6 2 = 0xE001 → s.findRecord n = ⟨2, b, leAt b 0 6 + leAt b 17 4⟩) := by
  unfold State.findRecord
  rw [if_neg (by omega), hb]
  exact ⟨fun hc => if_neg hc, fun hc => if_pos hc⟩

theorem State.findRecord_missing (h : n < s.rcd.nextAcc) (hb : s.heldRecords.find? (covers n) = none) :
    (s.rcd.oldest ≤ n → s.findRecord n = ⟨4, [], n⟩) ∧
    (n < s.rcd.oldest → s.findRecord n = ⟨3, [], leastAbove n (s.heldRecords.map (fun b => leAt b 0 6))⟩) := by
  unfold State.findRecord
  rw [if_neg (by omega), hb]
  exact ⟨fun hc => if_pos hc, fun hc => if_neg (by omega)⟩

end Finds

end Sys2Proof.Machine
end

section
/-!
PROOFS. The drain, Final Folios, the Archive and clearing (R553, R554, R559, R566, R567).
-/
namespace Sys2Proof.Machine
open Sys2Proof

/-! ### Captures (R566) -/

theorem State.captureStart_starts {s : State} (hd : s.rcd.degraded = false) (hf : s.folioNext.isSome = true) (hc : s.rcd.captures.length < 4) (code acc : Nat) :
    (s.captureStart code acc).rcd.captures = s.rcd.captures ++ [⟨acc, code, s.rcd.lastStored⟩] := by
  unfold State.captureStart
  rw [if_neg]
  rintro (h | h | h)
  · exact absurd (h.symm.trans hd) (by decide)
  · rw [Option.isNone_iff_eq_none.1 h] at hf
    cases hf
  · omega

theorem State.captureStart_lost {s : State} (h : s.rcd.degraded = true ∨ s.folioNext = none ∨ 4 ≤ s.rcd.captures.length) (code acc : Nat) :
    (s.captureStart code acc).rcd.captures = s.rcd.captures := by
  obtain ⟨_, _, _, rcd⟩ := raise_rcd' s 0xE00B noInst []
  unfold State.captureStart
  rw [if_pos (h.imp id (.imp Option.isNone_iff_eq_none.2 id)), State.folioLost, rcd]

/-! ### Archive and clearing (R553, R554) -/

theorem State.archive_state (s : State) (cmd : Nat) : (s.archive cmd).1.rcd.archState = if s.rcd.archState = 0 then 1 else s.rcd.archState := by
  unfold State.archive
  split
  · exact (congrArg Recorder.archState (s.recReject_beside cmd 2).core :)
  · next h => exact (congrArg Recorder.archState (State.raise_beside _ _ _ _).core :).trans (if_pos (not_not.1 h)).symm

theorem State.archive_keeps (s : State) (cmd : Nat) : Frame (Part.rcd ||| Part.cnt) s (s.archive cmd).1 := State.archive_frame rfl (Frame.refl _ s)

theorem State.clearCirc_clearing (s : State) (cmd : Nat) : (s.clearCirc cmd).1.rcd.clearing =
    if s.rcd.degraded ∨ s.rcd.hold ∨ s.rcd.draining ∨ s.rcd.clearing.isSome then s.rcd.clearing else some (s.rcd.oldest, s.rcd.nextAcc - 1) := by
  have refused (reason : Nat) : (s.recReject cmd reason).rcd.clearing = s.rcd.clearing := (congrArg Recorder.clearing (s.recReject_beside cmd reason).core :)
  unfold State.clearCirc
  split
  · next h => rw [if_pos (.inl h), refused]
  · next h =>
    split
    · next k =>
      rw [Bool.or_eq_true, Bool.or_eq_true, or_assoc] at k
      rw [if_pos (.inr k), refused]
    · next k =>
      rw [Bool.or_eq_true, Bool.or_eq_true, or_assoc] at k
      rw [if_neg (not_or.2 ⟨h, k⟩)]

theorem State.clearCirc_keeps (s : State) (cmd : Nat) : Frame (Part.rcd ||| Part.cnt) s (s.clearCirc cmd).1 := State.clearCirc_frame rfl (Frame.refl _ s)

/-- Whether an address is the VALID byte of a Circulation slot. -/
def circValid (a : Nat) : Bool := decide (0x01000000 ≤ a ∧ a < 0x01A00000) && a % 32 == 31

/-- Clearing takes the VALID bytes of Circulation from memory. -/
theorem State.cleared_clears {s : State} {c : Nat × Nat} (hc : s.rcd.clearing = some c) : s.cleared_.rcd.clearing = none ∧ s.cleared_.rcd.circUsed = 0 ∧
    s.cleared_.rcd.oldest = s.rcd.nextAcc ∧ s.cleared_.mem = s.mem.filter (fun e => !circValid e.1) ∧
    (s.rcd.intake.length ≤ 1022 → ∃ e, s.cleared_.rcd.intake = s.rcd.intake ++ [e] ∧ e.code = 0xE007) := by
  let x : State := { s with mem := s.mem.filter (fun e => !circValid e.1), rcd := { s.rcd with clearing := none, circUsed := 0, oldest := s.rcd.nextAcc } }
  have whole : s.cleared_ = x.raise 0xE007 noInst (leBytes 6 c.1 ++ leBytes 6 c.2) := by
    unfold State.cleared_
    rw [hc]
    rfl
  have core := (x.raise_beside 0xE007 noInst (leBytes 6 c.1 ++ leBytes 6 c.2)).core
  rw [whole]
  refine ⟨(congrArg Recorder.clearing core :), (congrArg Recorder.circUsed core :), (congrArg Recorder.oldest core :), State.raise_mem _ _ _ _, fun hroom => ?_⟩
  have entered := x.raiseBody_joins (dataOf noInst (leBytes 6 c.1 ++ leBytes 6 c.2)) (code := 0xE007) (.inr rfl) hroom
  exact ⟨_, (congrArg Recorder.intake entered :), rfl⟩

theorem State.cleared_memory {s : State} {c : Nat × Nat} (hc : s.rcd.clearing = some c) :
    (∀ i < circSlots, s.cleared_.memByte (0x01000000 + 32 * i + 31) = 0) ∧
    ∀ a, a < 0x01000000 ∨ 0x01A00000 ≤ a ∨ a % 32 ≠ 31 → s.cleared_.memByte a = s.memByte a := by
  obtain ⟨-, -, -, mem, -⟩ := State.cleared_clears hc
  refine ⟨fun i hi => ?_, fun a ha => ?_⟩
  · unfold circSlots at hi
    have valid : circValid (0x01000000 + 32 * i + 31) = true := by
      unfold circValid
      rw [Bool.and_eq_true, decide_eq_true_eq, beq_iff_eq]
      omega
    rw [State.memByte, mem]
    exact Table.get_filter_out 0 s.mem (fun a => !circValid a) (by rw [valid]; rfl)
  · have other : circValid a = false := by
      unfold circValid
      rw [Bool.and_eq_false_iff, decide_eq_false_iff_not, beq_eq_false_iff_ne]
      omega
    rw [State.memByte, mem]
    exact Table.get_filter 0 s.mem (fun a => !circValid a) (by rw [other]; rfl)

/-! ### The limit and the drain of Hold (R559) -/

/-- The Hold limit falls at an instant. -/
def State.limitAt (s : State) (due : Ticks) : State :=
  let x := s.passTo due
  { x with rcd := { x.rcd with holdLimit := true } }

theorem State.limitHold_eq {s : State} (hh : s.rcd.hold = true) (hl : s.rcd.holdLimit = false) : s.limitHold = s.limitAt (s.rcd.holdStart + sec 10) :=
  when_of (by rw [hh, hl]; rfl) _ _

theorem State.limitAt_falls (s : State) (due : Ticks) : (s.limitAt due).rcd = { s.rcd with holdLimit := true } ∧ due ≤ (s.limitAt due).time.lt := by
  have passed : due ≤ (s.passTo due).time.lt := s.le_passTo_lt due
  have rcd := s.passTo_rcd due
  unfold State.limitAt
  generalize s.passTo due = x at passed rcd ⊢
  dsimp only
  rw [rcd]
  exact ⟨rfl, passed⟩

/-- What a list keeps of its end, `m` entries at most. -/
theorem drop_recent_append {α : Type} (l bs : List α) (b : α) (m : Nat) :
    (((l ++ [b]).drop ((l ++ [b]).length - m)) ++ bs).drop ((((l ++ [b]).drop ((l ++ [b]).length - m)) ++ bs).length - m) =
      (l ++ b :: bs).drop ((l ++ b :: bs).length - m) := by
  have joined : (l ++ [b]).drop ((l ++ [b]).length - m) ++ bs = (l ++ b :: bs).drop ((l ++ [b]).length - m) := by
    rw [← List.drop_append_of_le_length (Nat.sub_le _ _), List.append_assoc, List.singleton_append]
  rw [joined, List.drop_drop, List.length_drop]
  congr 1
  simp only [List.length_append, List.length_cons, List.length_nil]
  omega

/-- A record that is stored in its slot moves the slot pointers and joins those stored last. -/
theorem State.storeGood_core (s : State) (n : NumRec) : ∃ nx used old cnt st, (s.storeGood n).rcd.core = { s.rcd.core with
    circNext := nx
    circUsed := used
    oldest := old
    archCnt := cnt
    archState := st
    lastStored := recentWith s.rcd.lastStored (recordBytes false n) } := by
  let w := s.setMem (s.slotAddr n.ev.code) (recordBytes false n)
  obtain ⟨nx, used, old, cnt, st, moved, -, -⟩ := w.advanceSlot_core n
  obtain ⟨core, -, -, -, -, -⟩ := (w.advanceSlot n).wasStored_leaves n (recordBytes false n)
  have kept : (w.advanceSlot n).rcd.lastStored = s.rcd.lastStored := (congrArg Recorder.lastStored moved :)
  have whole : s.storeGood n = (w.advanceSlot n).wasStored n (recordBytes false n) := rfl
  rw [moved, kept] at core
  exact ⟨nx, used, old, cnt, st, by rw [whole, core]; rfl⟩

theorem State.recPut_good {s : State} (hd : s.rcd.degraded = false) (n : NumRec) : s.recPut n = s.storeGood n := if_neg (by simp [hd])

/-- Records that are stored one after another, in normal mode. -/
theorem forEach_recPut (l : List NumRec) (s : State) (hd : s.rcd.degraded = false) (hl : s.rcd.lastStored.length ≤ 1024) :
    (forEach l State.recPut s).rcd.draining = s.rcd.draining ∧ (forEach l State.recPut s).rcd.drainGaps = s.rcd.drainGaps ∧
    (forEach l State.recPut s).rcd.holdQ = s.rcd.holdQ ∧ (forEach l State.recPut s).rcd.lastStored =
      (s.rcd.lastStored ++ l.map (recordBytes false)).drop ((s.rcd.lastStored ++ l.map (recordBytes false)).length - 1024) := by
  induction l generalizing s with
  | nil =>
    rw [forEach_nil, List.map_nil, List.append_nil, Nat.sub_eq_zero_of_le hl]
    exact ⟨rfl, rfl, rfl, rfl⟩
  | cons n l ih =>
    obtain ⟨nx, used, old, cnt, st, core⟩ := s.storeGood_core n
    have last : (s.storeGood n).rcd.lastStored = recentWith s.rcd.lastStored (recordBytes false n) := by
      rw [← Recorder.lastStored_core, core]
    have short : (s.storeGood n).rcd.lastStored.length ≤ 1024 := by
      rw [last, recentWith, List.length_drop]
      omega
    obtain ⟨draining, gaps, holdQ, stored⟩ := ih (s.storeGood n) ((congrArg Recorder.degraded core :).trans hd) short
    rw [forEach_cons, State.recPut_good hd, draining, gaps, holdQ, stored, last, recentWith, List.map_cons, drop_recent_append]
    exact ⟨(congrArg Recorder.draining core :), (congrArg Recorder.drainGaps core :), (congrArg Recorder.holdQ core :), rfl⟩

theorem State.drain_drains {s : State} (hdr : s.rcd.draining = true) (hq : s.rcd.storeQ = []) (he : s.recEnded = false) (hd : s.rcd.degraded = false)
    (hl : s.rcd.lastStored.length ≤ 1024) : s.drain.rcd.draining = false ∧ s.drain.rcd.drainGaps = [] ∧
    s.drain.rcd.holdQ = s.rcd.holdQ.filter (fun n => decide (s.drainEnd < n.acc)) ∧ s.drain.rcd.lastStored =
      (s.rcd.lastStored ++ (sortBy (fun x y : NumRec => decide (x.acc ≤ y.acc)) (s.rcd.holdQ.filter (fun n => decide (n.acc ≤ s.drainEnd)) ++ s.rcd.drainGaps)).map
        (recordBytes false)).drop ((s.rcd.lastStored ++ (sortBy (fun x y : NumRec => decide (x.acc ≤ y.acc))
          (s.rcd.holdQ.filter (fun n => decide (n.acc ≤ s.drainEnd)) ++ s.rcd.drainGaps)).map (recordBytes false)).length - 1024) := by
  unfold State.drain
  rw [when_of (by rw [hdr, hq, he]; rfl)]
  exact forEach_recPut _ _ hd hl

/-! ### Final Folios (R566, R567) -/

/-- Bytes of a string that was stored, from an offset. -/
theorem State.memBytes_setMem_part (s : State) (a : Nat) {b : List Byte} {o n : Nat} (h : o + n ≤ b.length) : (s.setMem a b).memBytes (a + o) n = (b.drop o).take n := by
  refine List.ext_getElem (by simp [State.memBytes]; omega) (fun i hi _ => ?_)
  rw [State.memBytes, List.length_map, List.length_range] at hi
  simp only [State.memBytes, List.getElem_map, List.getElem_range, List.getElem_take, List.getElem_drop]
  rw [Nat.add_assoc]
  exact get_storeBytes_in 0 b s.mem a (o + i) (by omega)

/-- The header of a folio: 32 bytes, with the number of its records (R567). -/
def folioHeader (tt : TimeNs) (c : Capture) : List Byte :=
  let h := ascii "SLFF" ++ leBytes 2 1 ++ leBytes 2 c.code ++ leBytes 6 c.acc ++ leBytes 2 c.recs.length ++ leBytes 8 tt
  h ++ leBytes 4 (crc32c (h ++ c.recs.flatten)) ++ [0, 0, 0, 0xA5]

theorem folioHeader_fields (tt : TimeNs) (c : Capture) (h : c.recs.length < 2 ^ 16) : (folioHeader tt c).length = 32 ∧ (folioHeader tt c).take 4 = ascii "SLFF" ∧
    leAt (folioHeader tt c) 14 2 = c.recs.length ∧ (folioHeader tt c).drop 31 = [0xA5] := by
  have mark : (ascii "SLFF").length = 4 := rfl
  unfold folioHeader
  refine ⟨by simp [mark], ?_, ?_, ?_⟩
  · simp only [List.append_assoc]
    exact List.take_left' mark
  · simp only [List.append_assoc]
    simp only [leAt_skip, leAt_first, length_leBytes, mark, Nat.reduceLeDiff, Nat.reduceSub]
    exact Nat.mod_eq_of_lt h
  · rw [List.drop_append]
    simp [mark]

/-- A folio is kept, and its capture is over. -/
def State.folioKept (s : State) (c : Capture) (rest : List Capture) (f age : Nat) : State :=
  let x : State := { s with rcd := { s.rcd with captures := rest } }
  let y := x.setMem (folioAddr f) (folioHeader s.tt c ++ c.recs.flatten)
  { y with rcd := { y.rcd with folios := Table.set {} y.rcd.folios f { valid := true, keep := false, age := age } } }

theorem State.folioCaptured_eq {s : State} {c : Capture} {rest : List Capture} {f : Nat} (hc : s.rcd.captures = c :: rest) (hh : s.rcd.hold = false)
    (hdr : s.rcd.draining = false) (hf : s.folioNext = some f) (hd : s.rcd.degraded = false) : ∃ age vals,
    s.folioCaptured = (s.folioKept c rest f age).raise 0xE00A noInst vals := by
  unfold State.folioCaptured
  rw [hc]
  dsimp only
  rw [if_neg (by simp [hh, hdr]), hf]
  dsimp only
  rw [if_neg (by simp [hd])]
  exact ⟨_, _, rfl⟩

/-- A folio is written at its place, header first. -/
theorem State.folioCaptured_writes {s : State} {c : Capture} {rest : List Capture} {f : Nat} (hc : s.rcd.captures = c :: rest) (hh : s.rcd.hold = false)
    (hdr : s.rcd.draining = false) (hf : s.folioNext = some f) (hd : s.rcd.degraded = false) : s.folioCaptured.rcd.captures = rest ∧
    (s.folioCaptured.folio f).valid = true ∧ (s.folioCaptured.folio f).keep = false ∧
    s.folioCaptured.mem = (s.setMem (folioAddr f) (folioHeader s.tt c ++ c.recs.flatten)).mem := by
  obtain ⟨age, vals, eq⟩ := State.folioCaptured_eq hc hh hdr hf hd
  obtain ⟨_, _, _, rcd⟩ := raise_rcd' (s.folioKept c rest f age) 0xE00A noInst vals
  have kept : s.folioCaptured.folio f = { valid := true, keep := false, age := age } := by
    have folios : (s.folioKept c rest f age).rcd.folios = Table.set {} s.rcd.folios f { valid := true, keep := false, age := age } := rfl
    rw [State.folio, eq, rcd]
    dsimp only
    rw [folios, Table.get_set_self]
  rw [kept, eq, State.raise_mem, rcd]
  exact ⟨rfl, rfl, rfl, rfl⟩

theorem State.folioCaptured_told {s : State} {c : Capture} {rest : List Capture} {f : Nat} (hc : s.rcd.captures = c :: rest) (hh : s.rcd.hold = false)
    (hdr : s.rcd.draining = false) (hf : s.folioNext = some f) (hd : s.rcd.degraded = false) (hn : c.recs.length < 2 ^ 16) :
    s.folioCaptured.memBytes (folioAddr f) 4 = ascii "SLFF" ∧ leAt (s.folioCaptured.memBytes (folioAddr f) 32) 14 2 = c.recs.length ∧
    s.folioCaptured.memByte (folioAddr f + 31) = 0xA5 ∧ s.folioCaptured.memBytes (folioAddr f + 32) c.recs.flatten.length = c.recs.flatten := by
  obtain ⟨-, -, -, mem⟩ := State.folioCaptured_writes hc hh hdr hf hd
  obtain ⟨length, mark, count, valid⟩ := folioHeader_fields s.tt c hn
  have whole : (folioHeader s.tt c ++ c.recs.flatten).length = 32 + c.recs.flatten.length := by rw [List.length_append, length]
  have part (o n : Nat) (h : o + n ≤ 32 + c.recs.flatten.length) : s.folioCaptured.memBytes (folioAddr f + o) n =
      ((folioHeader s.tt c ++ c.recs.flatten).drop o).take n := by
    rw [State.memBytes_congr mem, State.memBytes_setMem_part s _ (by omega)]
  refine ⟨?_, ?_, ?_, ?_⟩
  · rw [← Nat.add_zero (folioAddr f), part 0 4 (by omega), List.drop_zero, List.take_append_of_le_length (by omega), mark]
  · rw [← Nat.add_zero (folioAddr f), part 0 32 (by omega), List.drop_zero, List.take_left' length, count]
  · have one := part 31 1 (by omega)
    rw [List.drop_append_of_le_length (by omega), valid] at one
    exact (List.cons.inj one).1
  · rw [part 32 _ le_rfl, List.drop_left' length, List.take_length]

theorem State.folioCaptured_held {s : State} (hh : s.rcd.hold = true) : s.folioCaptured = s := by
  unfold State.folioCaptured
  split
  · rfl
  · rw [if_pos (by rw [hh]; rfl)]

end Sys2Proof.Machine
end

section
/-!
PROOFS. The recorder's critical commands and its requests over the network (R553, R554, R562 to R564, R567).
-/
namespace Sys2Proof.Machine
open Sys2Proof

/-! ### Critical commands -/

theorem State.sampleCmd_beside (s : State) (e : List Byte) : (s.sampleCmd e).rcd.core = s.rcd.core := by
  have push (x : State) : (x.pushSample e).rcd.core = x.rcd.core := by
    unfold State.pushSample
    dsimp only
    repeat' split
    case isTrue.isTrue => exact (State.raise_beside _ _ _ _).core
    all_goals rfl
  unfold State.sampleCmd
  split
  · rfl
  · split
    · rfl
    · exact push _

/-- The outcome of a command goes on beside the store. -/
theorem outcomeOf_core (r : State × Option Nat) (cn : Option Nat) (b : List Byte) (a : TimeNs) (tq : Nat) : (outcomeOf r cn b a tq).rcd.core = r.1.rcd.core := by
  unfold outcomeOf
  cases r.2 with
  | none => rfl
  | some result =>
    dsimp only
    unfold State.cmdOutcome
    dsimp only
    have counted : (if result = 0 then (r.1.draw 32).2.latencyBin (r.1.draw 32).1 else r.1).rcd = r.1.rcd := by split <;> rfl
    cases cn with
    | none => exact (State.sampleCmd_beside _ _).trans (congrArg Recorder.core counted)
    | some c =>
      dsimp only
      rw [(State.sendResult_frame (w := Part.cnt ||| Part.conns ||| Part.twin ||| Part.outs) rfl (Frame.refl _ _)).rcd rfl, State.sampleCmd_beside, counted]

/-- What an accepted command finds of the recorder. -/
structure State.SameRecorder (s x : State) : Prop where
  archState : x.rcd.archState = s.rcd.archState
  degraded : x.rcd.degraded = s.rcd.degraded
  hold : x.rcd.hold = s.rcd.hold
  draining : x.rcd.draining = s.rcd.draining
  clearing : x.rcd.clearing = s.rcd.clearing
  oldest : x.rcd.oldest = s.rcd.oldest
  nextAcc : x.rcd.nextAcc = s.rcd.nextAcc

/-- An accepted command of the recorder: its block runs on the recorder as it was, and the counter stays stored. -/
theorem completes_recorder {c : Instr} {s y : State} {code : Nat} {conn : Option (Fin 64)} {b : List Byte} {f : State → State} {post : State → Prop}
    (hrow : exec c s = run s (fun s => s.cmdRow code conn b true)) (h : s.Accepts code conn b y) (hcode : code ≠ 0x0F01)
    (hf : ∀ x : State, (x.handover (conn.map Fin.val) b).1 = f x) (hsc : ∀ x : State, (f x).sc = x.sc)
    (hp : ∀ x t, s.SameRecorder x → t.counterOf (cmdKeyOf b) = cmdCounter b → t.rcd.core = (f x).rcd.core → post t) : Completes c s post := by
  have offered : Frame (Part.regs ||| Part.sc) s y := h.found ▸ offered_frame s conn b
  obtain ⟨x, a, tq, handed, row⟩ := accept_eq (h.outs []) hcode
  obtain ⟨archState, -, degraded, hold, draining, clearing, oldest, nextAcc⟩ := handed.arch
  have rcd : y.rcd = s.rcd := offered.rcd rfl
  rw [rcd] at archState degraded hold draining clearing oldest nextAcc
  refine completes_run hrow ?_
  rw [row]
  refine hp x _ ⟨archState, degraded, hold, draining, clearing, oldest, nextAcc⟩ ?_ ((outcomeOf_core _ _ _ _ _).trans (by rw [hf]))
  rw [← handed.stored, State.counterOf, State.counterOf, (outcomeOf_answered _ _ _ _ _).counters, hf, hsc]

theorem archive_told {s y : State} {conn : Option (Fin 64)} {b : List Byte} (h : s.Accepts 0x0401 conn b y) :
    Completes (.archive conn b true) s (fun t => t.counterOf (cmdKeyOf b) = cmdCounter b ∧ t.rcd.archState = if s.rcd.archState = 0 then 1 else s.rcd.archState) := by
  refine completes_recorder (f := fun x => (x.archive 0x0401).1) rfl h (by decide) (fun x => ?_) (fun x => (x.archive_keeps _).sc rfl)
    fun x t same counted core => ⟨counted, ?_⟩
  · simp only [State.handover, h.code]
  · rw [← same.archState, ← x.archive_state 0x0401]
    exact (congrArg Recorder.archState core :)

theorem clearCirc_told {s y : State} {conn : Option (Fin 64)} {b : List Byte} (h : s.Accepts 0x0402 conn b y) :
    Completes (.clearCirc conn b true) s (fun t => t.counterOf (cmdKeyOf b) = cmdCounter b ∧ t.rcd.clearing =
      if s.rcd.degraded ∨ s.rcd.hold ∨ s.rcd.draining ∨ s.rcd.clearing.isSome then s.rcd.clearing else some (s.rcd.oldest, s.rcd.nextAcc - 1)) := by
  refine completes_recorder (f := fun x => (x.clearCirc 0x0402).1) rfl h (by decide) (fun x => ?_) (fun x => (x.clearCirc_keeps _).sc rfl)
    fun x t same counted core => ⟨counted, ?_⟩
  · simp only [State.handover, h.code]
  · rw [← same.degraded, ← same.hold, ← same.draining, ← same.clearing, ← same.oldest, ← same.nextAcc, ← x.clearCirc_clearing 0x0402]
    exact (congrArg Recorder.clearing core :)

/-! ### Looking records up, in a state with the same records -/

section Lookup
variable {s x : State} (hc : x.rcd.core = s.rcd.core) (hm : x.mem = s.mem)
include hc hm

theorem State.heldRecords_congr : x.heldRecords = s.heldRecords := by
  have ring : x.rcd.ring = s.rcd.ring := (congrArg Recorder.ring hc :)
  simp only [State.heldRecords, State.validSlots, State.memBytes_congr hm, hm, ring]

theorem State.lookup_congr (area f n : Nat) : x.lookup area f n = s.lookup area f n := by
  have nextAcc : x.rcd.nextAcc = s.rcd.nextAcc := (congrArg Recorder.nextAcc hc :)
  have oldest : x.rcd.oldest = s.rcd.oldest := (congrArg Recorder.oldest hc :)
  have sealSlots : x.rcd.sealSlots = s.rcd.sealSlots := (congrArg Recorder.sealSlots hc :)
  have byte : x.memByte = s.memByte := funext fun a => congrArg (Table.get 0 · a) hm
  have bytes : x.memBytes = s.memBytes := funext fun a => funext fun k => State.memBytes_congr hm a k
  unfold State.lookup State.findRecord State.findSlot
  rw [nextAcc, oldest, sealSlots, State.heldRecords_congr hc hm, byte, bytes]

theorem State.readRun_congr (area f k n : Nat) (acc : List (List Byte)) : x.readRun area f k n acc = s.readRun area f k n acc := by
  induction k generalizing n acc with
  | zero => rw [State.readRun, State.readRun, State.lookup_congr hc hm]
  | succ k ih => rw [State.readRun, State.readRun, State.lookup_congr hc hm, ih]

end Lookup

/-! ### Requests (R562) -/

theorem State.admitPartner_took {s : State} {ip : Nat} (h : (s.admitPartner ip).2 = true) : (s.admitPartner ip).1.rcd.core = s.rcd.core ∧
    (∃ p, (s.admitPartner ip).1.trdp = { s.trdp with partners := p }) ∧ ((s.partnerOf ip).isSome = true → (s.admitPartner ip).1 = s) := by
  unfold State.admitPartner at h ⊢
  by_cases known : (s.partnerOf ip).isSome = true
  · rw [if_pos known]
    exact ⟨rfl, ⟨_, rfl⟩, fun _ => rfl⟩
  · rw [if_neg known] at h ⊢
    cases hk : (List.range 128).find? (fun k => s.partnerIp k == 0) with
    | none =>
      rw [hk] at h
      cases h
    | some k =>
      dsimp only
      exact ⟨(State.raise_beside _ _ _ _).core, ⟨_, State.raise_trdp _ _ _ _⟩, fun h => absurd h known⟩

/-- A request that is taken, from a source in the table or one that is admitted to it. -/
theorem State.serviceRx_took {s : State} {t : Telegram} {req : Nat} {b : List Byte} (h : (s.serviceRx t req).2 = some b) : ∃ a, s.serviceRx t req = (a, some b) ∧
    a.rcd.core = s.rcd.core ∧ (∃ p, a.trdp = { s.trdp with partners := p }) ∧ Frame (Part.rcd ||| Part.cnt ||| Part.trdp) s a ∧
    ((s.partnerOf t.src).isSome = true → a.rcd = s.rcd) := by
  have frame := s.serviceRx_keeps t req
  refine ⟨(s.serviceRx t req).1, Prod.ext rfl h, ?_⟩
  revert h frame
  have rx {q : Nat × List Byte} (h : (s.trdpRx t).2 = some q) : s.trdpRx t = (s.received t.src, some q) := State.trdpRx_accepted h
  unfold State.serviceRx
  dsimp only
  cases hq : (s.trdpRx t).2 with
  | none => exact fun h => nomatch h
  | some q =>
    rw [rx hq]
    obtain ⟨off, d⟩ := q
    have received := s.received_frame t.src
    have known := State.partnerOf_congr (s.received_partnerIp t.src) t.src
    obtain ⟨p, trdp⟩ := s.received_trdp t.src
    split
    · split
      · exact fun h => nomatch h
      · cases ha : ((s.received t.src).admitPartner t.src).2 with
        | false => exact fun h => nomatch h
        | true =>
          intro _ frame
          rw [if_pos rfl] at frame ⊢
          obtain ⟨core, ⟨p', partners⟩, same⟩ := State.admitPartner_took ha
          refine ⟨by rw [core, received.rcd rfl], ⟨p', by rw [partners, trdp]⟩, frame, fun h => ?_⟩
          rw [same (by rw [known]; exact h), received.rcd rfl]
    · exact fun h => nomatch h

theorem State.serviceReply_rcd (s : State) (ip req result : Nat) (body : List Byte) : (s.serviceReply ip req result body).rcd = s.rcd :=
  (State.sendTelegram_frame (w := Part.cnt ||| Part.outs) rfl (Frame.refl _ s)).rcd rfl

/-- A request that ends in its reply alone. -/
theorem completes_served {c : Instr} {s x : State} {f : State → State} {ip req result : Nat} {body : List Byte} {post : State → Prop} (hc : exec c s = run s f)
    (hf : f s.fresh = x.serviceReply ip req result body) (hx : x.outs = []) (hp : ∀ u : State, u.rcd = x.rcd → post u) : Completes c s (fun u => post u ∧
      ∃ etb op, u.outs = [.telegram 41 ip etb op (beBytes 2 req ++ beBytes 2 result ++ body)]) := by
  refine completes_fresh hc ?_
  rw [hf]
  obtain ⟨etb, op, sent⟩ := x.serviceReply_outs ip req result body
  exact ⟨hp _ (x.serviceReply_rcd _ _ _ _), etb, op, by rw [sent, hx, List.nil_append]⟩

section Request
variable {s : State} {t : Telegram} {req : Nat} {b : List Byte} (h : (s.fresh.serviceRx t req).2 = some b) {c : Instr} {len : Nat} {g : State → List Byte → State}
  (hc : exec c s = run s (fun s => s.recRequest t req len g))
include h hc

theorem completes_recRefuse (hen : s.rb .recCfg 0 0 = false) : Completes c s (fun u => u.rcd.hold = s.rcd.hold ∧
    ∃ etb op, u.outs = [.telegram 41 t.src etb op (beBytes 2 req ++ beBytes 2 0xE00D ++ [])]) := by
  obtain ⟨a, took, core, -, frame, -⟩ := State.serviceRx_took h
  have reject := a.recReject_beside req 4
  refine completes_served (x := (a.recReject req 4).count 274) hc ?_ ?_ fun u hu => ?_
  · unfold State.recRequest
    rw [took]
    dsimp only
    rw [State.rb_congr (frame.regs rfl), show s.fresh.rb .recCfg 0 0 = false from hen]
    rfl
  · exact (State.raise_outs _ _ _ _).trans (frame.outs rfl)
  · rw [hu]
    exact (congrArg Recorder.hold (reject.core.trans core) :)

theorem completes_recOversize (hen : s.rb .recCfg 0 0 = true) (hlen : b.length ≠ len) : Completes c s (fun u => u.rcd.hold = s.rcd.hold ∧
    ∃ etb op, u.outs = [.telegram 41 t.src etb op (beBytes 2 req ++ beBytes 2 0xE00C ++ [])]) := by
  obtain ⟨a, took, core, -, frame, -⟩ := State.serviceRx_took h
  have raised := a.raise_beside 0xE00C noInst (leBytes 1 4)
  refine completes_served (x := (a.raise 0xE00C noInst (leBytes 1 4)).count 274) hc ?_ ?_ fun u hu => ?_
  · unfold State.recRequest
    rw [took]
    dsimp only
    rw [State.rb_congr (frame.regs rfl), show s.fresh.rb .recCfg 0 0 = true from hen, if_neg (by decide), if_pos hlen]
    rfl
  · exact (State.raise_outs _ _ _ _).trans (frame.outs rfl)
  · rw [hu]
    exact (congrArg Recorder.hold (raised.core.trans core) :)

end Request

theorem State.recRequest_serves {s a : State} {t : Telegram} {req len : Nat} {b : List Byte} {g : State → List Byte → State} (took : s.serviceRx t req = (a, some b))
    (hen : a.rb .recCfg 0 0 = true) (hlen : b.length = len) : s.recRequest t req len g = g a b := by
  unfold State.recRequest
  rw [took]
  dsimp only
  rw [hen, if_neg (by decide), if_neg (not_not.2 hlen)]

end Sys2Proof.Machine
end

section
/-!
PROOFS. The recorder's requests one by one, and its commands from Hold to STATUS (R562 to R564, R578, R580).
-/
namespace Sys2Proof.Machine
open Sys2Proof

/-! ### What a request answers (R563) -/

/-- The state in which a request is served: the recorder is as it was but for what the source's admission recorded. -/
structure State.Serving (s a : State) : Prop where
  core : a.rcd.core = s.rcd.core
  mem : a.mem = s.mem
  regs : a.regs = s.regs
  streams : a.trdp.streams = s.trdp.streams
  nextStream : a.trdp.nextStream = s.trdp.nextStream
  outs : a.outs = []

section Served
variable {s : State} {t : Telegram} {req len : Nat} {b : List Byte} {c : Instr} {g : State → List Byte → State}

/-- A served request ends in the reply that its function gives, in the state it is served in. -/
theorem completes_request {result : Nat} {body : List Byte} {post : State → Prop} (h : (s.fresh.serviceRx t req).2 = some b)
    (hc : exec c s = run s (fun s => s.recRequest t req len g)) (hen : s.rb .recCfg 0 0 = true) (hlen : b.length = len)
    (hg : ∀ a, s.Serving a → ∃ x : State, g a b = x.serviceReply t.src req result body ∧ x.outs = [] ∧ ∀ u : State, u.rcd = x.rcd → post u) :
    Completes c s (fun u => post u ∧ ∃ etb op, u.outs = [.telegram 41 t.src etb op (beBytes 2 req ++ beBytes 2 result ++ body)]) := by
  obtain ⟨a, took, core, ⟨p, trdp⟩, frame, -⟩ := State.serviceRx_took h
  obtain ⟨x, gives, outs, hp⟩ := hg a ⟨core, frame.mem rfl, frame.regs rfl, by rw [trdp]; rfl, by rw [trdp]; rfl, frame.outs rfl⟩
  have on : a.rb .recCfg 0 0 = true := (State.rb_congr (frame.regs rfl) _ _ _).trans hen
  exact completes_served hc ((State.recRequest_serves took on hlen).trans gives) outs hp

end Served

section Answers
variable {s a : State} (ha : s.Serving a) (ip req : Nat)
include ha

theorem State.Serving.oversize (field : Nat) : ∃ x : State, a.recOversize ip req field = x.serviceReply ip req 0xE00C [] ∧ x.outs = [] ∧
    ∀ u : State, u.rcd = x.rcd → True := ⟨_, rfl, (State.raise_outs _ _ _ _).trans ha.outs, fun _ _ => trivial⟩

theorem State.Serving.refuse : ∃ x : State, a.recRefuse ip req = x.serviceReply ip req 0xE00D [] ∧ x.outs = [] ∧
    ∀ u : State, u.rcd = x.rcd → u.rcd.hold = s.rcd.hold := by
  refine ⟨_, rfl, (State.raise_outs _ _ _ _).trans ha.outs, fun u hu => ?_⟩
  rw [hu]
  exact (congrArg Recorder.hold ((a.recReject_beside req 4).core.trans ha.core) :)

/-- READ answers the records from a cursor. -/
theorem State.Serving.read {b : List Byte} (h1 : 1 ≤ beAt b 8 2) (h2 : beAt b 8 2 ≤ 40) (h3 : beAt b 0 8 ≤ 0xFFFFFFFFFFFE) (h4 : byteAt b 10 ≤ 2)
    (h5 : byteAt b 11 ≤ 3) : ∃ x : State, a.readReq ip b = x.serviceReply ip 0x0101 0
      (beBytes 8 (s.readRun (byteAt b 10) (byteAt b 11) (beAt b 8 2) (beAt b 0 8) []).1 ++
        beBytes 1 (s.readRun (byteAt b 10) (byteAt b 11) (beAt b 8 2) (beAt b 0 8) []).2.1 ++
        beBytes 1 (s.readRun (byteAt b 10) (byteAt b 11) (beAt b 8 2) (beAt b 0 8) []).2.2.length ++ [0, 0] ++
        (s.readRun (byteAt b 10) (byteAt b 11) (beAt b 8 2) (beAt b 0 8) []).2.2.flatten) ∧ x.outs = [] ∧ ∀ u : State, u.rcd = x.rcd → True := by
  refine ⟨a.count 273, ?_, ha.outs, fun _ _ => trivial⟩
  unfold State.readReq
  dsimp only
  rw [if_neg (by omega), if_neg (by omega), if_neg (by omega), State.readRun_congr ha.core ha.mem]
  rfl

theorem State.Serving.readOversize {b : List Byte} (h : beAt b 8 2 = 0 ∨ 40 < beAt b 8 2 ∨ 0xFFFFFFFFFFFE < beAt b 0 8) : ∃ field,
    a.readReq ip b = a.recOversize ip 0x0101 field := by
  unfold State.readReq
  dsimp only
  by_cases count : beAt b 8 2 = 0 ∨ 40 < beAt b 8 2
  · rw [if_pos count]
    exact ⟨_, rfl⟩
  · rw [if_neg count, if_pos (by omega)]
    exact ⟨_, rfl⟩

theorem State.Serving.holdRefused {b : List Byte} (h : s.rb .recCfg 0 1 = false) : a.holdReq ip b = a.recRefuse ip 0x0102 := by
  unfold State.holdReq
  dsimp only
  rw [State.rb_congr ha.regs, h, if_pos (.inl rfl)]

theorem State.Serving.holdSet {b : List Byte} (h : s.rb .recCfg 0 1 = true) (hb : byteAt b 0 = 1) (hd : s.rcd.degraded = false) : ∃ x : State,
    a.holdReq ip b = x.serviceReply ip 0x0102 0 [] ∧ x.outs = [] ∧ ∀ u : State, u.rcd = x.rcd → u.rcd.hold = true := by
  have normal : a.rcd.degraded = false := (congrArg Recorder.degraded ha.core :).trans hd
  refine ⟨(a.holdSet 1 false).1.count 273, ?_, ((a.holdSet_keeps 1 false).outs rfl).trans ha.outs, fun u hu => ?_⟩
  · unfold State.holdReq
    dsimp only
    rw [State.rb_congr ha.regs, h, hb, if_neg (by decide), if_neg (by decide), if_neg (by simp [normal])]
    rfl
  · rw [hu]
    exact (a.holdSet_hold 1 false).trans (by rw [normal]; simp)

theorem State.Serving.holdRelease {b : List Byte} (h : s.rb .recCfg 0 1 = true) (hb : byteAt b 0 = 2) : ∃ x : State,
    a.holdReq ip b = x.serviceReply ip 0x0102 0 [] ∧ x.outs = [] ∧ ∀ u : State, u.rcd = x.rcd → u.rcd.hold = false := by
  refine ⟨a.holdRelease.count 273, ?_, ?_, fun u hu => ?_⟩
  · unfold State.holdReq
    dsimp only
    rw [State.rb_congr ha.regs, h, hb, if_neg (by decide), if_pos rfl]
    rfl
  · exact ((State.holdRelease_frame (w := Part.rcd ||| Part.cnt) rfl (Frame.refl _ a)).outs rfl).trans ha.outs
  · rw [hu]
    exact a.holdRelease_hold

theorem State.Serving.uploadOversize {b : List Byte} (h1 : beAt b 4 8 ≤ 0xFFFFFFFFFFFE) (h2 : beAt b 12 8 ≤ 0xFFFFFFFFFFFE) (h3 : beAt b 12 8 < beAt b 4 8) :
    a.uploadReq ip b = a.recOversize ip 0x0103 3 := by
  unfold State.uploadReq
  dsimp only
  rw [if_neg (by omega), if_pos h3]

theorem State.Serving.uploadCount : a.uploadCount = s.uploadCount := by
  rw [State.uploadCount, ha.streams, State.uploadCount]

theorem State.Serving.uploadRefused {b : List Byte} (h1 : beAt b 4 8 ≤ beAt b 12 8) (h2 : beAt b 12 8 ≤ 0xFFFFFFFFFFFE) (h3 : 4 ≤ s.uploadCount) :
    a.uploadReq ip b = a.recRefuse ip 0x0103 := by
  unfold State.uploadReq
  dsimp only
  rw [if_neg (by omega), if_neg (by omega), ha.uploadCount, if_pos (by simp [h3])]

/-- An upload of records opens its stream to the requester. -/
theorem State.Serving.uploadOpens {b : List Byte} (h1 : beAt b 4 8 ≤ beAt b 12 8) (h2 : beAt b 12 8 ≤ 0xFFFFFFFFFFFE) (hk : byteAt b 0 = 1) (h3 : s.uploadCount < 4)
    (h4 : s.trdp.streams.length < 32) : ∃ x : State, a.uploadReq ip b = x.recServe ip 0x0103 (beBytes 2 s.trdp.nextStream) ∧
    x.trdp.streams = s.trdp.streams ++ [{ ip := ip, num := s.trdp.nextStream, inbound := false, upKind := 1, upNext := beAt b 4 8, upEnd := beAt b 12 8 }] := by
  have range : uploadRange 1 (beAt b 4 8) (beAt b 12 8) = (beAt b 4 8, beAt b 12 8) := rfl
  unfold State.uploadReq
  dsimp only
  rw [if_neg (by omega), if_neg (by omega), ha.uploadCount, ha.streams, ha.nextStream, if_neg (by omega), hk, range]
  refine ⟨_, rfl, ?_⟩
  rw [State.sendTelegram_trdp, State.addStream, State.raise_trdp, State.mirror_trdp]

end Answers

theorem State.readVal_recLoad (s : State) : s.readVal .recLoad 0 0 = compose [(satNat 1024 s.rcd.intake.length, 11, 0), (satNat 4096 s.rcd.holdQ.length, 13, 16)] := rfl
theorem State.readVal_recArch (s : State) : s.readVal .recArch 0 0 = compose [(s.rcd.archCnt, 16, 0), (s.rcd.sealSlots.length, 11, 16)] := rfl
theorem State.readVal_recNextLo (s : State) : s.readVal .recNextLo 0 0 = natWord s.rcd.nextAcc := rfl
theorem State.readVal_recOldestLo (s : State) : s.readVal .recOldestLo 0 0 = natWord s.rcd.oldest := rfl

/-- STATUS answers what the registers of the recorder read, of a partner that is in the table. -/
theorem status_told {s : State} {t : Telegram} {b : List Byte} (h : (s.fresh.serviceRx t 0x0104).2 = some b) (hen : s.rb .recCfg 0 0 = true)
    (hlen : b.length = 0) (hk : (s.partnerOf t.src).isSome = true) : Completes (.status t) s (fun u => True ∧ ∃ etb op, u.outs = [.telegram 41 t.src etb op
      (beBytes 2 0x0104 ++ beBytes 2 0 ++ (beBytes 4 s.recStatWord.toNat ++ beBytes 4 (s.readVal .recLoad 0 0).toNat ++ beBytes 4 (s.readVal .recArch 0 0).toNat
        ++ beBytes 4 s.folioStatWord.toNat ++ beBytes 8 s.rcd.nextAcc ++ beBytes 8 s.rcd.oldest))]) := by
  obtain ⟨a, took, -, -, frame, same⟩ := State.serviceRx_took h
  have rcd : a.rcd = s.rcd := same hk
  have bk : a.bk = s.bk := frame.bk rfl
  have on : a.rb .recCfg 0 0 = true := (State.rb_congr (frame.regs rfl) _ _ _).trans hen
  have stat : a.recStatWord = s.recStatWord := by simp only [State.recStatWord, State.lwValid, rcd, bk]
  have load : a.readVal .recLoad 0 0 = s.readVal .recLoad 0 0 := by rw [State.readVal_recLoad, rcd, State.readVal_recLoad]
  have arch : a.readVal .recArch 0 0 = s.readVal .recArch 0 0 := by rw [State.readVal_recArch, rcd, State.readVal_recArch]
  have folios : a.folioStatWord = s.folioStatWord := by
    have folio : a.folio = s.folio := funext fun f => by rw [State.folio, rcd, State.folio]
    unfold State.folioStatWord State.folioNext
    rw [rcd, folio]
  refine completes_served (x := a.count 273) (f := fun s => s.recRequest t 0x0104 0 (fun s _ => s.statusReq t.src)) rfl ?_ (frame.outs rfl) (fun _ _ => trivial)
  refine (State.recRequest_serves took on hlen).trans ?_
  unfold State.statusReq State.recServe
  rw [stat, load, arch, folios, rcd]

/-- An upload's reply goes out behind the opening of its stream. -/
theorem upload_told {s : State} {t : Telegram} {b : List Byte} (h : (s.fresh.serviceRx t 0x0103).2 = some b) (hen : s.rb .recCfg 0 0 = true)
    (hlen : b.length = 20) (h1 : beAt b 4 8 ≤ beAt b 12 8) (h2 : beAt b 12 8 ≤ 0xFFFFFFFFFFFE) (hk : byteAt b 0 = 1) (h3 : s.uploadCount < 4)
    (h4 : s.trdp.streams.length < 32) : Completes (.upload t) s (fun u => u.trdp.streams = s.trdp.streams ++
      [{ ip := t.src, num := s.trdp.nextStream, inbound := false, upKind := 1, upNext := beAt b 4 8, upEnd := beAt b 12 8 }] ∧
      ∃ etb op, .telegram 41 t.src etb op (beBytes 2 0x0103 ++ beBytes 2 0 ++ beBytes 2 s.trdp.nextStream) ∈ u.outs) := by
  obtain ⟨a, took, core, ⟨p, trdp⟩, frame, -⟩ := State.serviceRx_took h
  have serving : s.Serving a := ⟨core, frame.mem rfl, frame.regs rfl, by rw [trdp]; rfl, by rw [trdp]; rfl, frame.outs rfl⟩
  have on : a.rb .recCfg 0 0 = true := (State.rb_congr (frame.regs rfl) _ _ _).trans hen
  obtain ⟨x, opens, streams⟩ := serving.uploadOpens t.src h1 h2 hk h3 h4
  obtain ⟨etb, op, sent⟩ := (x.count 273).serviceReply_outs t.src 0x0103 0 (beBytes 2 s.trdp.nextStream)
  refine completes_fresh (f := fun s => s.recRequest t 0x0103 20 (fun s b => s.uploadReq t.src b)) rfl ?_
  rw [State.recRequest_serves took on hlen, opens]
  refine ⟨?_, etb, op, ?_⟩
  · exact (congrArg Trdp.streams (State.sendTelegram_trdp _ _ _ _)).trans streams
  · rw [State.recServe, sent]
    exact List.mem_append_right _ (List.mem_singleton_self _)

/-! ### O55 -/

/-- A write of a command register does what its value says. -/
theorem completes_put {c : Instr} {s x : State} {m i : Nat} {r : RegId} {v : Word} {d : Nat} {post : State → Prop}
    (hc : exec c s = run s fun s => s.putReg m r i v) (hat : placedAt r i (some d) = true) (hm : s.mayAccess m false = true) (hd : s.domain d = true)
    (hr : (desc r).access = .wo) (ht : r ≠ .obsTblData) (hv : writeOk r i 0 v = true) (he : State.effect s.fresh r i 0 v = x) (hp : post x) :
    Completes c s post := completes_putReg hc hat hm hd hr ht hv (he ▸ hp)

theorem recCmd_writeOk : ∀ f : Fin 4, writeOk .recCmd 0 0 (BitVec.ofNat 32 (4 + 16 * f)) = true ∧ writeOk .recCmd 0 0 (BitVec.ofNat 32 (5 + 16 * f)) = true := by
  decide

section Registers
variable {s : State} {m : Fin 6} (hm : s.mayAccess m false = true) (h9 : s.domain 9 = true)
include hm h9

theorem completes_recCmd {c : Instr} {v : Word} {x : State} {post : State → Prop} (hc : exec c s = run s fun s => s.putReg m .recCmd 0 v)
    (hv : writeOk .recCmd 0 0 v = true) (he : s.fresh.recCmd v = x) (hp : post x) : Completes c s post :=
  completes_put hc recCmd_at hm h9 (by decide) (by decide) hv he hp

theorem completes_rwCmd {c : Instr} {v : Word} {x : State} {post : State → Prop} (hc : exec c s = run s fun s => s.putReg m .recRwCmd 0 v)
    (hv : writeOk .recRwCmd 0 0 v = true) (he : s.fresh.rwCmd v = x) (hp : post x) : Completes c s post :=
  completes_put hc recRwCmd_at hm h9 (by decide) (by decide) hv he hp

end Registers

/-- Settles O55, command by command: each clause is what the lemmas above say of the operation that runs. -/
theorem holdWindowFoliosAndRequests : Obligations.HoldWindowFoliosAndRequests := by
  unfold Obligations.HoldWindowFoliosAndRequests
  intro s
  dsimp only
  have loads {st nx : Nat} {d : List Byte} (ho : s.rcd.winOpen = true) (hb : s.rcd.winBusy = true) (ha : s.rcd.winArea = 0)
      (hq : s.findRecord s.rcd.winPos = ⟨st, d, nx⟩) : Completes (.rwLoadDone false) s (fun t => t.rcd =
        { s.rcd with winBusy := false, winStatus := st, winData := d, winNext := nx }) := by
    refine completes_fresh (f := fun s => s.rwDone false) rfl ?_
    have found : s.fresh.findRecord s.fresh.rcd.winPos = ⟨st, d, nx⟩ := hq
    rw [State.rwDone_loads (s := s.fresh) ho hb ha, found]
    rfl
  refine ⟨fun m hm h9 => ⟨fun hd hh => ?set, fun hd hh => ?held, fun hd => ?refused, fun hh => ?release, fun hh => ?none, fun hd hf hc => ?capture, fun hl => ?lost,
      fun f => ⟨?keep, ?unkeep⟩, ?archive, ?clear, ?lw, fun area f hold => ?rwOpen, fun ho hb => ?rwStep, fun ho => ?rwNoStep, fun ho => ?rwClose⟩,
    fun ho => ?idle, fun ho hb ha => ⟨fun hn => ?future, fun b hn hb' => ⟨fun hc => ?present, fun hc => ?inGap, fun hd => ?error⟩,
      fun hn hb' => ⟨fun hold => ?absent, fun hold => ?gone⟩⟩, fun hh hl => ?limit, fun hdr hq he hd hl => ?drain, fun c rest f hc hh hdr hf hd hn => ?folio,
    fun hc hh => ?folioHeld, fun c hc => ?cleared, fun y conn b => ⟨archive_told, clearCirc_told⟩, fun m hm => ⟨fun h9 => ?next, fun h9 => ?oldest⟩,
    fun t b req h h1 h2 => ⟨fun hen => ?refuse, fun hen hlen => ?oversize, fun hen hlen => ?serve⟩⟩
  case set =>
    have core := s.fresh.holdSet_sets 1 false hd hh
    exact completes_recCmd hm h9 rfl rfl s.fresh.recCmd_one ⟨(congrArg Recorder.hold core :), (congrArg Recorder.holdStart core :),
      (congrArg Recorder.holdLimit core :), (congrArg Recorder.holdByWindow core :)⟩
  case held => exact completes_recCmd hm h9 rfl rfl (s.fresh.recCmd_one.trans (s.fresh.holdSet_held 1 false hd hh)) rfl
  case refused =>
    have core := s.fresh.holdSet_refused 1 false hd
    exact completes_recCmd hm h9 rfl rfl s.fresh.recCmd_one ⟨(congrArg Recorder.hold core :), (congrArg Recorder.holdStart core :)⟩
  case release => exact completes_recCmd hm h9 rfl rfl s.fresh.recCmd_two (State.holdRelease_told (s := s.fresh) hh)
  case none => exact completes_recCmd hm h9 rfl rfl (s.fresh.recCmd_two.trans (State.holdRelease_none (s := s.fresh) hh)) rfl
  case capture => exact completes_recCmd hm h9 rfl rfl s.fresh.recCmd_three ⟨_, State.captureStart_starts (s := s.fresh) hd hf hc 0 _⟩
  case lost => exact completes_recCmd hm h9 rfl rfl s.fresh.recCmd_three (State.captureStart_lost (s := s.fresh) hl 0 _)
  case keep => exact completes_recCmd hm h9 rfl (recCmd_writeOk f).1 (s.fresh.recCmd_keep f).1 (s.fresh.folioKeep_keeps f true)
  case unkeep => exact completes_recCmd hm h9 rfl (recCmd_writeOk f).2 (s.fresh.recCmd_keep f).2 (s.fresh.folioKeep_keeps f false)
  case archive => exact completes_recCmd hm h9 rfl rfl s.fresh.recCmd_six (s.fresh.archive_state 6)
  case clear => exact completes_recCmd hm h9 rfl rfl s.fresh.recCmd_seven (s.fresh.clearCirc_clearing 7)
  case lw => exact completes_recCmd hm h9 rfl rfl s.fresh.recCmd_eight ⟨rfl, rfl⟩
  case rwOpen => exact completes_rwCmd hm h9 rfl (rwOpen_writeOk area f hold) (s.fresh.rwCmd_opens area f hold) (s.fresh.rwOpen_opens area f hold)
  case rwStep =>
    have stepped := State.rwStep_steps (s := s.fresh) ho hb
    exact completes_rwCmd (x := s.fresh.rwStep) hm h9 rfl rfl rfl (by rw [stepped]; exact ⟨rfl, rfl, rfl, rfl⟩)
  case rwNoStep => exact completes_rwCmd hm h9 rfl rfl (State.rwStep_closed (s := s.fresh) ho) rfl
  case rwClose => exact completes_rwCmd (x := s.fresh.rwClose) hm h9 rfl rfl rfl (State.rwClose_closes (s := s.fresh) ho)
  case idle =>
    refine completes_fresh (f := State.rwIdle) rfl ?_
    rw [State.rwIdle_eq (s := s.fresh) ho]
    exact State.rwIdleAt_closes (s := s.fresh) ho _
  case future => exact loads ho hb ha (State.findRecord_future hn)
  case present => exact loads ho hb ha ((State.findRecord_found hn hb').1 hc)
  case inGap => exact loads ho hb ha ((State.findRecord_found hn hb').2 hc)
  case error =>
    refine completes_fresh (f := fun s => s.rwDone true) rfl (State.rwDone_error (s := s.fresh) ho hb ha hd ?_)
    obtain ⟨present, inGap⟩ := State.findRecord_found (s := s.fresh) hn hb'
    by_cases hc : leAt b 6 2 = 0xE001
    · exact .inr (congrArg Found.status (inGap hc))
    · exact .inl (congrArg Found.status (present hc))
  case absent => exact loads ho hb ha ((State.findRecord_missing hn hb').1 hold)
  case gone => exact loads ho hb ha ((State.findRecord_missing hn hb').2 hold)
  case limit =>
    refine completes_fresh (f := State.limitHold) rfl ?_
    rw [State.limitHold_eq (s := s.fresh) hh hl]
    exact s.fresh.limitAt_falls _
  case drain => exact completes_fresh (f := State.drain) rfl (State.drain_drains (s := s.fresh) hdr hq he hd hl)
  case folio =>
    obtain ⟨captures, valid, keep, -⟩ := State.folioCaptured_writes (s := s.fresh) hc hh hdr hf hd
    exact completes_fresh (f := State.folioCaptured) rfl ⟨captures, valid, keep, State.folioCaptured_told (s := s.fresh) hc hh hdr hf hd hn⟩
  case folioHeld =>
    refine completes_fresh (f := State.folioCaptured) rfl ?_
    rw [State.folioCaptured_held (s := s.fresh) hh]
    exact ⟨rfl, rfl⟩
  case cleared =>
    obtain ⟨clearing, used, oldest, -, raised⟩ := State.cleared_clears (s := s.fresh) hc
    obtain ⟨gone, kept⟩ := State.cleared_memory (s := s.fresh) hc
    exact completes_fresh (f := State.cleared_) rfl ⟨clearing, used, oldest, gone, kept, raised⟩
  case next => exact completes_getReg rfl recNextLo_at h9 hm ⟨rfl, by rw [State.emit_outs, State.readVal_recNextLo, natWord_toNat]; rfl⟩
  case oldest => exact completes_getReg rfl recOldestLo_at h9 hm ⟨rfl, by rw [State.emit_outs, State.readVal_recOldestLo, natWord_toNat]; rfl⟩
  case refuse =>
    rcases show req = 0x0101 ∨ req = 0x0102 ∨ req = 0x0103 ∨ req = 0x0104 by omega with rfl | rfl | rfl | rfl
    · exact completes_recRefuse (c := .read t) (len := 12) (g := fun s b => s.readReq t.src b) h rfl hen
    · exact completes_recRefuse (c := .hold t) (len := 4) (g := fun s b => s.holdReq t.src b) h rfl hen
    · exact completes_recRefuse (c := .upload t) (len := 20) (g := fun s b => s.uploadReq t.src b) h rfl hen
    · exact completes_recRefuse (c := .status t) (len := 0) (g := fun s _ => s.statusReq t.src) h rfl hen
  case oversize =>
    rcases show req = 0x0101 ∨ req = 0x0102 ∨ req = 0x0103 ∨ req = 0x0104 by omega with rfl | rfl | rfl | rfl
    · exact completes_recOversize (c := .read t) (len := 12) (g := fun s b => s.readReq t.src b) h rfl hen hlen
    · exact completes_recOversize (c := .hold t) (len := 4) (g := fun s b => s.holdReq t.src b) h rfl hen hlen
    · exact completes_recOversize (c := .upload t) (len := 20) (g := fun s b => s.uploadReq t.src b) h rfl hen hlen
    · exact completes_recOversize (c := .status t) (len := 0) (g := fun s _ => s.statusReq t.src) h rfl hen hlen
  case serve =>
    refine ⟨?readOversize, ?read, ?holdRefused, ?holdSet, ?holdRelease, ?uploadOversize, ?uploadRefused, ?upload, ?status⟩
    case readOversize =>
      rintro rfl hover
      refine completes_request (g := fun s b => s.readReq t.src b) h rfl hen hlen fun a ha => ?_
      obtain ⟨field, eq⟩ := ha.readOversize t.src hover
      rw [eq]
      exact ha.oversize t.src 0x0101 field
    case read =>
      rintro rfl c1 c2 c3 c4 c5
      exact completes_request (g := fun s b => s.readReq t.src b) h rfl hen hlen fun a ha => ha.read t.src c1 c2 c3 c4 c5
    case holdRefused =>
      rintro rfl hoff
      refine completes_request (g := fun s b => s.holdReq t.src b) h rfl hen hlen fun a ha => ?_
      rw [ha.holdRefused t.src hoff]
      exact ha.refuse t.src 0x0102
    case holdSet =>
      rintro rfl hon hb hd
      exact completes_request (g := fun s b => s.holdReq t.src b) h rfl hen hlen fun a ha => ha.holdSet t.src hon hb hd
    case holdRelease =>
      rintro rfl hon hb
      exact completes_request (g := fun s b => s.holdReq t.src b) h rfl hen hlen fun a ha => ha.holdRelease t.src hon hb
    case uploadOversize =>
      rintro rfl c1 c2 c3
      refine completes_request (g := fun s b => s.uploadReq t.src b) h rfl hen hlen fun a ha => ?_
      rw [ha.uploadOversize t.src c1 c2 c3]
      exact ha.oversize t.src 0x0103 3
    case uploadRefused =>
      rintro rfl c1 c2 c3
      refine completes_request (post := fun _ => True) (g := fun s b => s.uploadReq t.src b) h rfl hen hlen fun a ha => ?_
      obtain ⟨x, eq, outs, -⟩ := ha.refuse t.src 0x0103
      exact ⟨x, (ha.uploadRefused t.src c1 c2 c3).trans eq, outs, fun _ _ => trivial⟩
    case upload =>
      rintro rfl c1 c2 hk c3 c4
      exact upload_told h hen hlen c1 c2 hk c3 c4
    case status =>
      rintro rfl hk
      exact status_told h hen hlen hk

end Sys2Proof.Machine
end

section
/-!
PROOFS. Train time: what a change of quality leaves of the time unit (R404, R405, R417, R425).
-/
namespace Sys2Proof.Machine
open Sys2Proof

/-! ### Ports, trackers -/

theorem State.tracker_modTracker (s : State) (d e : Nat) (f : Tracker → Tracker) : (s.modTracker d f).tracker e = if e = d then f (s.tracker d) else s.tracker e :=
  s.tracker_setTracker d e _

theorem State.tracker_modTracker_self (s : State) (d : Nat) (f : Tracker → Tracker) : (s.modTracker d f).tracker d = f (s.tracker d) :=
  (s.tracker_modTracker d d f).trans (if_pos rfl)

theorem State.tracker_congr {s x : State} (h : x.time = s.time) (d : Nat) : x.tracker d = s.tracker d := by rw [State.tracker, h, State.tracker]

theorem State.raise_tracker (s : State) (code inst : Nat) (vals : List Byte) (d : Nat) : (s.raise code inst vals).tracker d = s.tracker d :=
  State.tracker_congr (State.raise_time _ _ _ _) d

/-- Passing time moves the clocks and takes images; of the rest of the time unit nothing. -/
theorem State.passTo_clocks (s : State) (due : Ticks) : ∃ l tt f i, (s.passTo due).time = { s.time with lt := l, ttFp := tt, snapF := f, snap := i } := by
  unfold State.passTo
  split
  · exact ⟨_, _, _, _, rfl⟩
  · exact ⟨_, _, _, _, rfl⟩

/-! ### A judgement of quality -/

/-- What judging the trackers leaves of the time unit: the clock, the ports, and of each tracker its offset. -/
structure State.Judged (s t : State) : Prop where
  lt : t.time.lt = s.time.lt
  ports : t.time.ports = s.time.ports
  syncPorts : t.time.syncPorts = s.time.syncPorts
  topoUsed : t.time.topoUsed = s.time.topoUsed
  trackers : ∀ d, (t.tracker d).offset = (s.tracker d).offset ∧ (t.tracker d).everSync = (s.tracker d).everSync

theorem State.Judged.refl (s : State) : s.Judged s := ⟨rfl, rfl, rfl, rfl, fun _ => ⟨rfl, rfl⟩⟩

theorem State.Judged.trans {s t u : State} (h : s.Judged t) (k : t.Judged u) : s.Judged u where
  lt := k.lt.trans h.lt
  ports := k.ports.trans h.ports
  syncPorts := k.syncPorts.trans h.syncPorts
  topoUsed := k.topoUsed.trans h.topoUsed
  trackers d := ⟨(k.trackers d).1.trans (h.trackers d).1, (k.trackers d).2.trans (h.trackers d).2⟩

theorem State.Judged.of_time {s t : State} (h : t.time = s.time) : s.Judged t := by
  refine ⟨by rw [h], by rw [h], by rw [h], by rw [h], fun d => ?_⟩
  rw [State.tracker_congr h]
  exact ⟨rfl, rfl⟩

theorem State.raise_judged (s : State) (code inst : Nat) (vals : List Byte) : s.Judged (s.raise code inst vals) := .of_time (State.raise_time _ _ _ _)

/-- A tracker that is changed in all but its offset. -/
theorem State.modTracker_judged (s : State) (d : Nat) {f : Tracker → Tracker} (hf : ∀ t, (f t).offset = t.offset ∧ (f t).everSync = t.everSync) :
    s.Judged (s.modTracker d f) := by
  refine ⟨rfl, rfl, rfl, rfl, fun e => ?_⟩
  rw [State.tracker_modTracker]
  split
  · next h => rw [h]; exact hf _
  · exact ⟨rfl, rfl⟩

/-- What holdover makes of a tracker. -/
def Tracker.onHold (t : Tracker) (now : Ticks) : Tracker :=
  { t with quality := .holdoverShort, holdStart := some now, holdLong := false, lockRun := 0, lostRun := 0, recovery := 0 }

/-- Beside the tracker, the start of holdover sets TT's frequency at most. -/
theorem State.startHold_freq (s : State) (d : Nat) : ∃ x : State, x = s.modTracker d (fun t => t.onHold s.lt) ∧
    ∃ f, s.startHold d = { x with time := { x.time with freq := f } } := by
  refine ⟨_, rfl, ?_⟩
  unfold State.startHold
  dsimp only
  split
  · exact ⟨_, rfl⟩
  · exact ⟨(s.modTracker d (fun t => t.onHold s.lt)).time.freq, rfl⟩

theorem State.startHold_judged (s : State) (d : Nat) : s.Judged (s.startHold d) := by
  obtain ⟨x, hx, f, eq⟩ := s.startHold_freq d
  have held : s.Judged x := hx ▸ s.modTracker_judged d fun _ => ⟨rfl, rfl⟩
  rw [eq]
  exact held.trans ⟨rfl, rfl, rfl, rfl, fun _ => ⟨rfl, rfl⟩⟩

theorem State.startHold_tracker (s : State) (d : Nat) : (s.startHold d).tracker d = (s.tracker d).onHold s.lt := by
  obtain ⟨x, hx, f, eq⟩ := s.startHold_freq d
  have same : ({ x with time := { x.time with freq := f } } : State).tracker d = x.tracker d := rfl
  rw [eq, same, hx, State.tracker_modTracker_self]

theorem State.startHold_other (s : State) {d e : Nat} (h : e ≠ d) : (s.startHold d).tracker e = s.tracker e := by
  obtain ⟨x, hx, f, eq⟩ := s.startHold_freq d
  have same : ({ x with time := { x.time with freq := f } } : State).tracker e = x.tracker e := rfl
  rw [eq, same, hx, State.tracker_modTracker, if_neg h]

/-- TT's loop while a tracker's quality is judged: the lock once reached, a jump and the integral part. -/
structure State.SameLoop (s t : State) : Prop where
  everLocked : s.time.everLocked = true → t.time.everLocked = true
  integ : t.time.integ = s.time.integ
  jump : t.time.jumpPending = s.time.jumpPending ∧ t.time.jumpFirst = s.time.jumpFirst ∧ t.time.jumpSince = s.time.jumpSince

theorem State.SameLoop.trans {s t u : State} (h : s.SameLoop t) (k : t.SameLoop u) : s.SameLoop u where
  everLocked l := k.everLocked (h.everLocked l)
  integ := k.integ.trans h.integ
  jump := ⟨k.jump.1.trans h.jump.1, k.jump.2.1.trans h.jump.2.1, k.jump.2.2.trans h.jump.2.2⟩

theorem State.SameLoop.of_time {s t : State} (h : t.time = s.time) : s.SameLoop t := ⟨fun l => by rw [h]; exact l, by rw [h], by rw [h]; exact ⟨rfl, rfl, rfl⟩⟩

theorem State.startHold_loop (s : State) (d : Nat) : s.SameLoop (s.startHold d) := by
  obtain ⟨x, rfl, f, eq⟩ := s.startHold_freq d
  rw [eq]
  exact ⟨id, rfl, rfl, rfl, rfl⟩

/-- TT follows tracker `o` from now on (R425). -/
def State.follow (s : State) (o : Nat) : State :=
  { s with time := { s.time with
    followB := o == 1, everLocked := s.time.everLocked || (s.tracker o).quality == Quality.locked || (s.tracker o).quality == Quality.uncompensated } }

theorem State.follow_judged (s : State) (o : Nat) : s.Judged (s.follow o) := ⟨rfl, rfl, rfl, rfl, fun _ => ⟨rfl, rfl⟩⟩

theorem State.follow_loop (s : State) (o : Nat) : s.SameLoop (s.follow o) := ⟨fun h => by simp [State.follow, h], rfl, rfl, rfl, rfl⟩

/-- The choice of the domain TT follows: either nothing changes, or TT follows the other tracker, which may begin holdover where it was locked. -/
theorem State.chooseDomain_cases (s : State) : s.chooseDomain = s ∨ ∃ x : State, x = (s.follow (1 - s.mainTracker)).raise 0xA009 noInst (leBytes 1 (1 - s.mainTracker)) ∧
    (s.chooseDomain = x ∨ s.chooseDomain = x.startHold (1 - s.mainTracker) ∧ (s.tracker (1 - s.mainTracker)).quality = .locked) := by
  unfold State.chooseDomain
  dsimp only
  split
  · exact .inl rfl
  · split
    · exact .inl rfl
    · refine .inr ⟨_, rfl, ?_⟩
      split
      · next h => exact .inr ⟨rfl, h.1⟩
      · exact .inl rfl

theorem State.followed_tracker (s : State) (o code inst : Nat) (vals : List Byte) (d : Nat) : ((s.follow o).raise code inst vals).tracker d = s.tracker d :=
  State.raise_tracker _ _ _ _ _

theorem State.chooseDomain_judged (s : State) : s.Judged s.chooseDomain := by
  rcases s.chooseDomain_cases with h | ⟨x, hx, cases⟩
  · rw [h]; exact .refl s
  · have judged : s.Judged x := hx ▸ (s.follow_judged _).trans (State.raise_judged _ _ _ _)
    rcases cases with h | ⟨h, -⟩
    · rw [h]; exact judged
    · rw [h]; exact judged.trans (x.startHold_judged _)

theorem State.chooseDomain_loop (s : State) : s.SameLoop s.chooseDomain := by
  rcases s.chooseDomain_cases with h | ⟨x, hx, cases⟩
  · rw [h]; exact .of_time rfl
  · have loop : s.SameLoop x := hx ▸ (s.follow_loop _).trans (.of_time (State.raise_time _ _ _ _))
    rcases cases with h | ⟨h, -⟩
    · rw [h]; exact loop
    · rw [h]; exact loop.trans (x.startHold_loop _)

/-- The tracker TT follows, and one that is not locked, are as they were. -/
theorem State.chooseDomain_tracker (s : State) {d : Nat} (hd : d = s.mainTracker ∨ (s.tracker d).quality ≠ .locked) : s.chooseDomain.tracker d = s.tracker d := by
  rcases s.chooseDomain_cases with h | ⟨x, hx, h | ⟨h, locked⟩⟩
  · rw [h]
  · rw [h, hx, State.followed_tracker]
  · have other : d ≠ 1 - s.mainTracker := by
      rcases hd with rfl | hd
      · unfold State.mainTracker
        cases s.time.followB <;> decide
      · rintro rfl
        exact hd locked
    rw [h, x.startHold_other other, hx, State.followed_tracker]

theorem State.judgeSlots_time (s : State) : s.judgeSlots.time = s.time :=
  (State.judgeSlots_frame (w := Part.rcd ||| Part.cnt ||| Part.seq ||| Part.actions) rfl (Frame.refl _ s)).time rfl

/-- After a change of quality the slots are judged, which leaves the time unit. -/
theorem State.afterQuality_time (s : State) (was : Quality) : (s.afterQuality was).time = s.chooseDomain.time := by
  unfold State.afterQuality
  dsimp only
  split
  · rfl
  · exact State.judgeSlots_time _

theorem State.afterQuality_judged (s : State) (was : Quality) : s.Judged (s.afterQuality was) :=
  s.chooseDomain_judged.trans (.of_time (s.afterQuality_time was))

theorem State.afterQuality_loop (s : State) (was : Quality) : s.SameLoop (s.afterQuality was) :=
  s.chooseDomain_loop.trans (.of_time (s.afterQuality_time was))

theorem State.afterQuality_tracker (s : State) (was : Quality) {d : Nat} (hd : d = s.mainTracker ∨ (s.tracker d).quality ≠ .locked) :
    (s.afterQuality was).tracker d = s.tracker d :=
  (State.tracker_congr (s.afterQuality_time was) d).trans (s.chooseDomain_tracker hd)

theorem State.setQuality_judged (s : State) (d : Nat) (q : Quality) : s.Judged (s.setQuality d q) :=
  (s.modTracker_judged d (f := fun t => { t with quality := q }) fun _ => ⟨rfl, rfl⟩).trans (State.afterQuality_judged _ _)

theorem State.setQuality_quality (s : State) (d : Nat) {q : Quality} (h : q ≠ .locked) : ((s.setQuality d q).tracker d).quality = q := by
  have set : (s.modTracker d (fun t => { t with quality := q })).tracker d = { s.tracker d with quality := q } := s.tracker_modTracker_self d _
  unfold State.setQuality
  rw [State.afterQuality_tracker _ _ (.inr (by rw [set]; exact h)), set]

theorem State.requalify_judged (s : State) (d : Nat) : s.Judged (s.requalify d) := by
  unfold State.requalify
  dsimp only
  split
  · exact s.setQuality_judged d _
  · exact .refl s

/-- Holdover begins: the tracker's quality and the instant. -/
theorem State.holdover_begins {s : State} {d : Nat} (hl : s.time.everLocked = true) (hs : (s.tracker d).holdStart = none) (cause : Nat) :
    ((s.holdover d cause).tracker d).quality = .holdoverShort ∧ ((s.holdover d cause).tracker d).holdStart = some s.lt ∧ s.SameLoop (s.holdover d cause) := by
  have whole : ∃ x : State, s.holdover d cause = x.afterQuality s.quality ∧ x.time = (s.startHold d).time := by
    unfold State.holdover
    rw [if_neg (by simp [hl, hs])]
    refine ⟨_, rfl, ?_⟩
    split
    · exact State.raise_time _ _ _ _
    · rfl
  obtain ⟨x, eq, time⟩ := whole
  have begun : x.tracker d = _ := (State.tracker_congr time d).trans (s.startHold_tracker d)
  have kept := x.afterQuality_tracker s.quality (d := d) (.inr (by rw [begun]; exact nofun))
  rw [eq, kept, begun]
  exact ⟨rfl, rfl, ((s.startHold_loop d).trans (.of_time time)).trans (x.afterQuality_loop _)⟩

theorem State.holdover_judged (s : State) (d cause : Nat) : s.Judged (s.holdover d cause) := by
  unfold State.holdover
  split
  · exact .refl s
  · refine .trans ?_ (State.afterQuality_judged _ _)
    split
    · exact (s.startHold_judged d).trans (State.raise_judged _ _ _ _)
    · exact s.startHold_judged d

/-- What a lock makes of a tracker. -/
def Tracker.onLock (t : Tracker) (q : Quality) : Tracker :=
  { t with quality := q, lockRun := 8, lostRun := 0, recovery := 0, holdStart := none, holdLong := false }

/-- A tracker locks, before what follows from its quality. -/
def State.lockTaken (s : State) (d : Nat) : State :=
  let x := s.modTracker d (fun t => t.onLock (s.lockedQuality d))
  if d == s.mainTracker then ({ x with time := { x.time with everLocked := true, jumpPending := false } }).raise 0xA001 noInst else x

theorem State.locks_eq (s : State) (d : Nat) : s.locks d = (s.lockTaken d).afterQuality s.quality := by
  unfold State.locks State.lockTaken
  dsimp only
  split <;> rfl

theorem State.lockTaken_judged (s : State) (d : Nat) : s.Judged (s.lockTaken d) := by
  have set : s.Judged (s.modTracker d (fun t => t.onLock (s.lockedQuality d))) := s.modTracker_judged d fun _ => ⟨rfl, rfl⟩
  unfold State.lockTaken
  dsimp only
  split
  · refine .trans ?_ (State.raise_judged _ _ _ _)
    exact set.trans ⟨rfl, rfl, rfl, rfl, fun _ => ⟨rfl, rfl⟩⟩
  · exact set

theorem State.lockTaken_tracker (s : State) (d : Nat) : (s.lockTaken d).tracker d = (s.tracker d).onLock (s.lockedQuality d) := by
  unfold State.lockTaken
  dsimp only
  split
  · rw [State.raise_tracker]
    exact s.tracker_modTracker_self d (fun t => t.onLock (s.lockedQuality d))
  · exact s.tracker_modTracker_self d _

theorem State.lockTaken_time {s : State} {d : Nat} (hd : d = s.mainTracker) : (s.lockTaken d).time.everLocked = true ∧ (s.lockTaken d).mainTracker = d := by
  have time : ∃ x : State, (s.lockTaken d).time = x.time ∧ x.time.everLocked = true ∧ x.time.followB = s.time.followB := by
    unfold State.lockTaken
    rw [if_pos (beq_iff_eq.2 hd)]
    exact ⟨_, State.raise_time _ _ _ _, rfl, rfl⟩
  obtain ⟨x, time, locked, follow⟩ := time
  rw [State.mainTracker, time, follow]
  exact ⟨locked, hd.symm⟩

theorem State.locks_judged (s : State) (d : Nat) : s.Judged (s.locks d) := by
  rw [State.locks_eq]
  exact (s.lockTaken_judged d).trans (State.afterQuality_judged _ _)

/-- The lock of the tracker that TT follows. -/
theorem State.locks_locks {s : State} {d : Nat} (hd : d = s.mainTracker) : (s.locks d).time.everLocked = true ∧ ((s.locks d).tracker d).holdStart = none ∧
    ((s.locks d).tracker d).quality = s.lockedQuality d := by
  obtain ⟨ever, main⟩ := State.lockTaken_time hd
  rw [State.locks_eq, State.afterQuality_tracker _ _ (.inl main.symm), State.lockTaken_tracker]
  exact ⟨(State.afterQuality_loop _ _).everLocked ever, rfl, rfl⟩

end Sys2Proof.Machine
end

section
/-!
PROOFS. Train time: samples of the servo and of a jump (R414 to R416, R423 to R426).
-/
namespace Sys2Proof.Machine
open Sys2Proof

/-! ### The followed port -/

/-- What the choice of a port rests on: the registers, the ports and the instant. -/
structure State.SamePorts (s x : State) : Prop where
  regs : x.regs = s.regs
  ports : x.time.ports = s.time.ports
  syncPorts : x.time.syncPorts = s.time.syncPorts
  lt : x.time.lt = s.time.lt

theorem State.SamePorts.trans {s t u : State} (h : s.SamePorts t) (k : t.SamePorts u) : s.SamePorts u :=
  ⟨k.regs.trans h.regs, k.ports.trans h.ports, k.syncPorts.trans h.syncPorts, k.lt.trans h.lt⟩

section
variable {s x : State} (h : s.SamePorts x)
include h

theorem State.SamePorts.timeMode : x.timeMode = s.timeMode := State.rf_congr h.regs ..

theorem State.SamePorts.ptpPort : x.ptpPort = s.ptpPort := by
  funext i
  rw [State.ptpPort, h.ports, State.ptpPort]

theorem State.SamePorts.followedPort (d : Nat) : x.followedPort d = s.followedPort d := by
  have list : x.syncPortList = s.syncPortList := by rw [State.syncPortList, h.timeMode, State.syncPortList]
  have usable : x.portUsable = s.portUsable := by
    funext i
    rw [State.portUsable, h.ptpPort, State.portUsable]
  have sync : x.syncPort d = s.syncPort d := by
    funext i
    rw [State.syncPort, h.syncPorts, State.syncPort]
  have best : x.bestPort d = s.bestPort d := by
    funext ps
    rw [State.bestPort, sync, State.bestPort]
  have within : x.within = s.within := by
    funext t k
    rw [State.within, State.lt, h.lt, State.within, State.lt]
  have alive : x.alivePorts d = s.alivePorts d := by
    funext ps
    rw [State.alivePorts, sync, within, State.syncInterval, State.rf_congr h.regs, State.alivePorts, State.syncInterval]
  rw [State.followedPort, list, usable, best, alive, h.ptpPort, State.followedPort]

theorem State.SamePorts.lockedQuality (d : Nat) : x.lockedQuality d = s.lockedQuality d := by
  rw [State.lockedQuality, h.followedPort, h.ptpPort, State.lockedQuality]

end

/-! ### The servo -/

theorem State.servo_judged (s : State) (o : Int) : s.Judged (s.servo o) := ⟨rfl, rfl, rfl, rfl, fun _ => ⟨rfl, rfl⟩⟩

/-- What a sample leaves where the servo runs on it and where it does not. -/
theorem State.servo_keeps {s x : State} {o : Int} {b : Bool} (hx : x = if b then s.servo o else s) :
    s.Judged x ∧ s.SamePorts x ∧ x.mainTracker = s.mainTracker := by
  rw [hx]
  split
  · exact ⟨s.servo_judged o, ⟨rfl, rfl, rfl, rfl⟩, rfl⟩
  · exact ⟨.refl s, ⟨rfl, rfl, rfl, rfl⟩, rfl⟩

theorem State.useSample_judged (s : State) (d : Nat) (o : Int) : s.Judged (s.useSample d o) := by
  unfold State.useSample
  extract_lets main t n good run far x rec y bad lost z u v
  have judged : s.Judged x := (State.servo_keeps (x := x) rfl).1
  have recovering : s.Judged y := judged.trans (x.modTracker_judged d fun _ => ⟨rfl, rfl⟩)
  have losing : s.Judged z := judged.trans (x.modTracker_judged d fun _ => ⟨rfl, rfl⟩)
  have lost : s.Judged u := (losing.trans (z.modTracker_judged d (f := fun t => { t with lostRun := 0, lockRun := 0 }) fun _ => ⟨rfl, rfl⟩)).trans (State.setQuality_judged _ d .acquiring)
  have acquiring : s.Judged v := judged.trans (x.modTracker_judged d fun _ => ⟨rfl, rfl⟩)
  split
  · split
    · exact recovering.trans (y.locks_judged d)
    · split
      · exact (recovering.trans (y.modTracker_judged d (f := fun t => { t with holdStart := none, holdLong := false, lockRun := 0 }) fun _ => ⟨rfl, rfl⟩)).trans
          (State.setQuality_judged _ d .acquiring)
      · exact recovering
  · split
    · split
      · split
        · exact lost.trans (u.raise_judged _ _ _)
        · exact lost
      · exact losing.trans (z.requalify_judged d)
    · split
      · exact acquiring.trans (v.locks_judged d)
      · split
        · exact acquiring.trans ⟨rfl, rfl, rfl, rfl, fun _ => ⟨rfl, rfl⟩⟩
        · exact acquiring.trans (v.afterQuality_judged _)

/-- The eighth sample in a row within LOCK_THR locks a tracker that is not locked. -/
theorem State.useSample_locks {s : State} {d : Nat} {o : Int} (hn : absN o ≤ s.lockThr) (hr : 7 ≤ (s.tracker d).lockRun)
    (hq : (s.tracker d).holdStart.isSome = true ∨ (s.tracker d).quality = .free ∨ (s.tracker d).quality = .acquiring) :
    ∃ x : State, s.useSample d o = x.locks d ∧ s.SamePorts x ∧ x.mainTracker = s.mainTracker := by
  unfold State.useSample
  extract_lets main t n good run far x rec y bad lost z u v
  obtain ⟨-, ports, follow⟩ := State.servo_keeps (x := x) rfl
  have long : 8 ≤ run := by
    have small : good = true := decide_eq_true hn
    have next : run = t.lockRun + 1 := if_pos small
    rw [next]
    exact Nat.succ_le_succ hr
  split
  · exact ⟨y, rfl, ports.trans ⟨rfl, rfl, rfl, rfl⟩, follow⟩
  · next held =>
    have unlocked : ¬ (t.quality = .locked ∨ t.quality = .uncompensated) := by
      rcases hq with hq | hq | hq
      · exact absurd hq held
      · exact fun h => h.elim (fun h => nomatch hq.symm.trans h) (fun h => nomatch hq.symm.trans h)
      · exact fun h => h.elim (fun h => nomatch hq.symm.trans h) (fun h => nomatch hq.symm.trans h)
    rw [if_neg unlocked]
    exact ⟨v, rfl, ports.trans ⟨rfl, rfl, rfl, rfl⟩, follow⟩

/-! ### Jumps -/

theorem State.refuseJump_judged (s : State) (d : Nat) (o : Int) : s.Judged (s.refuseJump d o) := by
  unfold State.refuseJump
  dsimp only
  split
  · exact .refl s
  · split
    · refine .trans (.trans ?_ (State.raise_judged _ _ _ _)) (State.holdover_judged _ _ _)
      exact ⟨rfl, rfl, rfl, rfl, fun _ => ⟨rfl, rfl⟩⟩
    · split
      · exact ⟨rfl, rfl, rfl, rfl, fun _ => ⟨rfl, rfl⟩⟩
      · exact ⟨rfl, rfl, rfl, rfl, fun _ => ⟨rfl, rfl⟩⟩

theorem State.jumpSample_judged (s : State) (d : Nat) (o : Int) : s.Judged (s.jumpSample d o) := by
  unfold State.jumpSample
  dsimp only
  split
  · split
    · exact (s.modTracker_judged d (f := fun t => { t with jumped := true }) fun _ => ⟨rfl, rfl⟩).trans (State.afterQuality_judged _ _)
    · split
      · exact ⟨rfl, rfl, rfl, rfl, fun _ => ⟨rfl, rfl⟩⟩
      · exact s.refuseJump_judged d o
  · exact s.refuseJump_judged d o

/-- The comparison of the two domains counts their disagreements and records. -/
theorem State.checkDomains_time (s : State) (d : Nat) : ∃ n, (s.checkDomains d).time = { s.time with disagree := n } := by
  unfold State.checkDomains
  extract_lets a b n _ x
  split
  · exact ⟨s.time.disagree, rfl⟩
  · refine ⟨x.time.disagree, ?_⟩
    split
    · exact State.raise_time x _ _ _
    · rfl

theorem State.checkDomains_judged (s : State) (d : Nat) : s.Judged (s.checkDomains d) := by
  obtain ⟨n, h⟩ := s.checkDomains_time d
  refine .trans (t := { s with time := { s.time with disagree := n } }) ?_ (.of_time h)
  exact ⟨rfl, rfl, rfl, rfl, fun _ => ⟨rfl, rfl⟩⟩

theorem State.checkDomains_tracker (s : State) (d e : Nat) : (s.checkDomains d).tracker e = s.tracker e := by
  obtain ⟨n, h⟩ := s.checkDomains_time d
  rw [State.tracker, h, State.tracker]

/-- A tracker takes an offset. -/
def State.offsetTaken (s : State) (d : Nat) (o : Int) : State := s.modTracker d (fun t => { t with offset := o, everSync := true })

/-- The state in which a sample that is no jump is used. -/
def State.sampled (s : State) (d : Nat) (o : Int) : State :=
  let x := (s.offsetTaken d o).modTracker d (fun t => { t with jumped := false })
  if d = s.mainTracker then { x with time := { x.time with jumpPending := false } } else x

theorem State.offsetSample_eq (s : State) (d : Nat) (o : Int) : s.offsetSample d o =
    (if s.time.everLocked && decide (s.jumpThr < absN o) then (s.offsetTaken d o).jumpSample d o else (s.sampled d o).useSample d o).checkDomains d := rfl

theorem State.sampled_keeps (s : State) (d : Nat) (o : Int) : s.SamePorts (s.sampled d o) ∧ (s.sampled d o).mainTracker = s.mainTracker ∧
    (s.sampled d o).tracker d = { s.tracker d with offset := o, everSync := true, jumped := false } ∧ (s.offsetTaken d o).Judged (s.sampled d o) := by
  have taken : (s.offsetTaken d o).tracker d = { s.tracker d with offset := o, everSync := true } := s.tracker_modTracker_self d _
  have set : ((s.offsetTaken d o).modTracker d (fun t => { t with jumped := false })).tracker d = { s.tracker d with offset := o, everSync := true, jumped := false } := by
    rw [State.tracker_modTracker_self, taken]
  have judged := (s.offsetTaken d o).modTracker_judged d (f := fun t => { t with jumped := false }) fun _ => ⟨rfl, rfl⟩
  unfold State.sampled
  dsimp only
  split
  · exact ⟨⟨rfl, rfl, rfl, rfl⟩, rfl, set, judged.trans ⟨rfl, rfl, rfl, rfl, fun _ => ⟨rfl, rfl⟩⟩⟩
  · exact ⟨⟨rfl, rfl, rfl, rfl⟩, rfl, set, judged⟩

theorem State.offsetSample_judged (s : State) (d : Nat) (o : Int) : (s.offsetTaken d o).Judged (s.offsetSample d o) := by
  obtain ⟨-, -, -, judged⟩ := s.sampled_keeps d o
  rw [State.offsetSample_eq]
  refine .trans ?_ (State.checkDomains_judged _ _)
  split
  · exact State.jumpSample_judged _ d o
  · exact judged.trans (State.useSample_judged _ d o)

/-- The tracker's offset is the sample's. -/
theorem State.offsetSample_offset (s : State) (d : Nat) (o : Int) : ((s.offsetSample d o).tracker d).offset = o ∧ ((s.offsetSample d o).tracker d).everSync = true ∧
    (s.offsetSample d o).time.syncPorts = s.time.syncPorts := by
  have judged := s.offsetSample_judged d o
  have taken : (s.offsetTaken d o).tracker d = { s.tracker d with offset := o, everSync := true } := s.tracker_modTracker_self d _
  obtain ⟨offset, ever⟩ := judged.trackers d
  rw [offset, ever, taken]
  exact ⟨rfl, rfl, judged.syncPorts⟩

/-- The eighth sample in a row within LOCK_THR locks TT. -/
theorem State.offsetSample_locks {s : State} {d : Nat} {o : Int} (hd : d = s.mainTracker) (hn : absN o ≤ s.lockThr) (hj : s.lockThr ≤ s.jumpThr)
    (hr : 7 ≤ (s.tracker d).lockRun) (hq : (s.tracker d).holdStart.isSome = true ∨ (s.tracker d).quality = .free ∨ (s.tracker d).quality = .acquiring) :
    (s.offsetSample d o).time.everLocked = true ∧ ((s.offsetSample d o).tracker d).holdStart = none ∧ ((s.offsetSample d o).tracker d).quality = s.lockedQuality d := by
  obtain ⟨ports, follow, tracker, -⟩ := s.sampled_keeps d o
  have thr : (s.sampled d o).lockThr = s.lockThr := State.rf_congr ports.regs ..
  obtain ⟨x, eq, same, main⟩ := State.useSample_locks (s := s.sampled d o) (d := d) (thr ▸ hn) (by rw [tracker]; exact hr) (by rw [tracker]; exact hq)
  obtain ⟨ever, hold, quality⟩ := State.locks_locks (s := x) (d := d) (hd.trans (main.trans follow).symm)
  have small : ¬ (s.time.everLocked && decide (s.jumpThr < absN o)) = true := by
    simp [Nat.not_lt.2 (hn.trans hj)]
  obtain ⟨n, time⟩ := (x.locks d).checkDomains_time d
  rw [State.offsetSample_eq, if_neg small, eq, State.checkDomains_tracker, time]
  exact ⟨ever, hold, quality.trans (ports.trans same |>.lockedQuality d)⟩

/-- A sample beyond JUMP_THR is refused: the jump is pending and holdover begins. -/
theorem State.offsetSample_refused {s : State} {d : Nat} {o : Int} (hm : s.timeMode ≠ 2) (he : s.time.everLocked = true) (hs : s.time.stepPending = none)
    (hp : s.time.jumpPending = false) (hj : s.jumpThr < absN o) (hh : (s.tracker d).holdStart = none) :
    let t := s.offsetSample d o
    t.time.jumpPending = true ∧ t.time.jumpFirst = o ∧ t.time.jumpSince = s.lt ∧ (t.tracker d).quality = .holdoverShort ∧ t.time.integ = s.time.integ := by
  let y := s.offsetTaken d o
  let z : State := { y with time := { y.time with jumpPending := true, jumpFirst := o, jumpSum := o, jumpCount := 1, jumpSince := y.lt } }
  let x := z.raise 0xA007 noInst (leBytes 4 (wrapTo 32 (satSigned 32 o)))
  have time : x.time = z.time := State.raise_time _ _ _ _
  have refused : y.jumpSample d o = x.holdover d 4 := by
    have mode : ¬ (y.timeMode = 2 ∧ (y.tracker (1 - d)).everSync) := fun h => hm h.1
    unfold State.jumpSample
    rw [if_neg mode]
    unfold State.refuseJump
    have open_ : ¬ y.time.stepPending.isSome = true := by
      show ¬ s.time.stepPending.isSome = true
      rw [hs]; exact nofun
    have first : (!y.time.jumpPending) = true := by
      show (!s.time.jumpPending) = true
      rw [hp]; rfl
    dsimp only
    rw [if_neg open_, if_pos first]
  have taken : z.tracker d = { s.tracker d with offset := o, everSync := true } := s.tracker_modTracker_self d (fun t => { t with offset := o, everSync := true })
  have tracker : x.tracker d = _ := (State.tracker_congr time d).trans taken
  obtain ⟨quality, -, -, integ, pending, first, since⟩ := State.holdover_begins (s := x) (d := d) (by rw [time]; exact he) (by rw [tracker]; exact hh) 4
  obtain ⟨n, checked⟩ := (x.holdover d 4).checkDomains_time d
  have jump : (s.time.everLocked && decide (s.jumpThr < absN o)) = true := by simp [he, hj]
  dsimp only
  rw [State.offsetSample_eq, if_pos jump, refused, State.checkDomains_tracker, checked]
  rw [time] at integ pending first since
  exact ⟨pending, first, since, quality, integ⟩

end Sys2Proof.Machine
end

section
/-!
PROOFS. Train time: Sync, Follow_Up and Announce (R406, R407, R414, R420).
-/
namespace Sys2Proof.Machine
open Sys2Proof

theorem State.syncPort_setSyncPort_self (s : State) (d i : Nat) (v : SyncPort) : (s.setSyncPort d i v).syncPort d i = v := Table.get_set_self _ _ _ _

theorem State.ptpPort_setPtpPort_self (s : State) (i : Nat) (v : PtpPort) : (s.setPtpPort i v).ptpPort i = v :=
  (s.ptpPort_setPtpPort i i v).trans (if_pos rfl)

theorem State.Judged.ptpPort {s t : State} (h : s.Judged t) (i : Nat) : t.ptpPort i = s.ptpPort i := by rw [State.ptpPort, h.ports, State.ptpPort]

/-! ### Offsets -/

/-- A Sync is heard on a port. -/
def State.heardSync (s : State) (d i : Nat) : State := s.modSyncPort d i (fun p => { p with synced := true, lastSync := s.lt, pend := false })

/-- The offset of a Sync on port `i` (R414). -/
def State.offsetOf (s : State) (i : Nat) (t2 t1 c : Int) : Int := t2 - t1 - c - ((s.ptpPort i).mpd : Int) - s.asym i

/-- A tracker's state as it takes the offset of a Sync that it follows. -/
def State.following (s : State) (d i : Nat) : State := ((s.heardSync d i).count (160 + i)).modTracker d (fun t => { t with followed := i })

theorem State.following_tracker (s : State) (d i : Nat) : (s.following d i).tracker d = { s.tracker d with followed := i } :=
  ((s.heardSync d i).count (160 + i)).tracker_modTracker_self d (fun t => { t with followed := i })

theorem State.following_ports (s : State) (d i : Nat) : (s.heardSync d i).SamePorts (s.following d i) := ⟨rfl, rfl, rfl, rfl⟩

section
variable {s : State} {d i : Nat} (t2 t1 c : Int)

theorem State.syncOffset_followed (h : (s.heardSync d i).followedPort d = some i) :
    s.syncOffset d i t2 t1 c = (s.following d i).offsetSample d (s.offsetOf i t2 t1 c) := by
  have counted : (s.heardSync d i).SamePorts ((s.heardSync d i).count (160 + i)) := ⟨rfl, rfl, rfl, rfl⟩
  have follows : ((s.heardSync d i).count (160 + i)).followedPort d = some i := (counted.followedPort d).trans h
  unfold State.syncOffset
  exact if_pos follows

theorem State.syncOffset_other (h : (s.heardSync d i).followedPort d ≠ some i) : s.syncOffset d i t2 t1 c = (s.heardSync d i).count (160 + i) := by
  have counted : (s.heardSync d i).SamePorts ((s.heardSync d i).count (160 + i)) := ⟨rfl, rfl, rfl, rfl⟩
  have other : ¬ ((s.heardSync d i).count (160 + i)).followedPort d = some i := fun e => h ((counted.followedPort d).symm.trans e)
  unfold State.syncOffset
  exact if_neg other

/-- The offset is that of R414, on the port on which a Sync was heard just now. -/
theorem State.syncOffset_sets (h : (s.heardSync d i).followedPort d = some i) : let t := s.syncOffset d i t2 t1 c
    (t.tracker d).offset = s.offsetOf i t2 t1 c ∧ (t.tracker d).everSync = true ∧ (t.syncPort d i).lastSync = s.lt ∧ (t.syncPort d i).pend = false := by
  obtain ⟨offset, ever, ports⟩ := (s.following d i).offsetSample_offset d (s.offsetOf i t2 t1 c)
  have sync : ((s.following d i).offsetSample d (s.offsetOf i t2 t1 c)).syncPort d i = { s.syncPort d i with synced := true, lastSync := s.lt, pend := false } := by
    rw [State.syncPort, ports]
    exact s.syncPort_setSyncPort_self d i { s.syncPort d i with synced := true, lastSync := s.lt, pend := false }
  dsimp only
  rw [State.syncOffset_followed t2 t1 c h, sync]
  exact ⟨offset, ever, rfl, rfl⟩

theorem State.syncOffset_keeps (h : (s.heardSync d i).followedPort d ≠ some i) : (s.syncOffset d i t2 t1 c).time.trackers = s.time.trackers ∧
    ((s.syncOffset d i t2 t1 c).syncPort d i).lastSync = s.lt := by
  have sync : ((s.heardSync d i).count (160 + i)).syncPort d i = { s.syncPort d i with synced := true, lastSync := s.lt, pend := false } :=
    s.syncPort_setSyncPort_self d i _
  rw [State.syncOffset_other t2 t1 c h, sync]
  exact ⟨rfl, rfl⟩

/-- The eighth Sync in a row within LOCK_THR locks TT. -/
theorem State.syncOffset_locks (h : (s.heardSync d i).followedPort d = some i) (hd : d = s.mainTracker) (hn : (s.offsetOf i t2 t1 c).natAbs ≤ s.lockThr)
    (hj : s.lockThr ≤ s.jumpThr) (hr : 7 ≤ (s.tracker d).lockRun)
    (hq : (s.tracker d).holdStart.isSome = true ∨ (s.tracker d).quality = .free ∨ (s.tracker d).quality = .acquiring) : let t := s.syncOffset d i t2 t1 c
    t.time.everLocked = true ∧ (t.tracker d).holdStart = none ∧ (t.tracker d).quality = if (s.ptpPort i).uncomp then .uncompensated else .locked := by
  have tracker := s.following_tracker d i
  obtain ⟨ever, hold, quality⟩ := State.offsetSample_locks (s := s.following d i) (o := s.offsetOf i t2 t1 c) hd hn hj (by rw [tracker]; exact hr) (by rw [tracker]; exact hq)
  have judged : (s.following d i).lockedQuality d = if (s.ptpPort i).uncomp then .uncompensated else .locked := by
    rw [(s.following_ports d i).lockedQuality, State.lockedQuality, h]
    rfl
  dsimp only
  rw [State.syncOffset_followed t2 t1 c h]
  exact ⟨ever, hold, quality.trans judged⟩

/-- A Sync beyond JUMP_THR is refused. -/
theorem State.syncOffset_refused (h : (s.heardSync d i).followedPort d = some i) (hm : s.timeMode ≠ 2) (he : s.time.everLocked = true)
    (hs : s.time.stepPending = none) (hp : s.time.jumpPending = false) (hj : s.jumpThr < (s.offsetOf i t2 t1 c).natAbs) (hh : (s.tracker d).holdStart = none) :
    let t := s.syncOffset d i t2 t1 c
    t.time.jumpPending = true ∧ t.time.jumpFirst = s.offsetOf i t2 t1 c ∧ t.time.jumpSince = s.lt ∧ (t.tracker d).quality = .holdoverShort ∧
      t.time.integ = s.time.integ := by
  have tracker := s.following_tracker d i
  have refused := State.offsetSample_refused (s := s.following d i) (d := d) (o := s.offsetOf i t2 t1 c) hm he hs hp hj (by rw [tracker]; exact hh)
  dsimp only
  rw [State.syncOffset_followed t2 t1 c h]
  exact refused

end

/-! ### Messages -/

section
variable {s : State} {i d : Nat} {b : List Byte} (hi : i ∈ s.syncPortList) (hd : s.trackerOf (byteAt b 4) = some d)
include hi hd

theorem State.ptpTaker_of : s.ptpTaker i b = some d := (if_pos hi).trans hd

theorem State.ptpSync_oneStep (ht : ptpType b = 0) (h1 : (byteAt b 6).testBit 1 = false) (sub : Nat) :
    s.ptpSync i b sub = s.syncOffset d i (s.tt + sub : Nat) (ptpStamp b 34) (ptpCorr b) := by
  unfold State.ptpSync
  rw [if_neg (not_not.2 ht), State.ptpTaker_of hi hd]
  simp only [h1, Bool.false_eq_true, if_false]
  rfl

theorem State.ptpSync_twoStep (ht : ptpType b = 0) (h1 : (byteAt b 6).testBit 1 = true) (sub : Nat) : (s.ptpSync i b sub).syncPort d i =
    { s.syncPort d i with pend := true, pendSeq := beAt b 30 2, pendT2 := (s.tt + sub : Nat), pendC := ptpCorr b } ∧
    (s.ptpSync i b sub).time.trackers = s.time.trackers := by
  have eq : s.ptpSync i b sub = s.modSyncPort d i (fun p => { p with pend := true, pendSeq := beAt b 30 2, pendT2 := s.stamp sub, pendC := ptpCorr b }) := by
    unfold State.ptpSync
    rw [if_neg (not_not.2 ht), State.ptpTaker_of hi hd]
    simp only [h1, if_true]
  rw [eq]
  exact ⟨s.syncPort_setSyncPort_self d i _, rfl⟩

theorem State.ptpFollowUp_taken (ht : ptpType b = 8) (hp : (s.syncPort d i).pend = true) (hs : (s.syncPort d i).pendSeq = beAt b 30 2) :
    s.ptpFollowUp i b = s.syncOffset d i (s.syncPort d i).pendT2 (ptpStamp b 34) ((s.syncPort d i).pendC + ptpCorr b) := by
  unfold State.ptpFollowUp
  rw [if_neg (not_not.2 ht), State.ptpTaker_of hi hd]
  exact if_pos ⟨hp, hs⟩

/-- An Announce as it is recorded. -/
theorem State.ptpAnnounce_taken (ht : ptpType b = 11) : ∃ x : State, x.time.ports = s.time.ports ∧ x.time.lt = s.time.lt ∧ x.syncPort d i =
    { s.syncPort d i with steps := beAt b 61 2, parent := beAt b 20 10, announced := true, lastAnnounce := s.lt } ∧
    (d = s.mainTracker → x.time.utc = signedOf 16 (beAt b 44 2) ∧ x.time.utcValid = (byteAt b 7).testBit 2) ∧
    s.ptpAnnounce i b = if (s.syncPort d i).announced = true ∧ ((s.syncPort d i).steps ≠ beAt b 61 2 ∨ (s.syncPort d i).parent ≠ beAt b 20 10)
      then x.pathChange i (x.ptpPort i).mpd else x := by
  have set := s.syncPort_setSyncPort_self d i { s.syncPort d i with steps := beAt b 61 2, parent := beAt b 20 10, announced := true, lastAnnounce := s.lt }
  unfold State.ptpAnnounce
  rw [if_neg (not_not.2 ht), State.ptpTaker_of hi hd]
  refine ⟨_, ?_, ?_, ?_, ?_, rfl⟩
  · split <;> rfl
  · split <;> rfl
  · split <;> exact set
  · intro main
    have main' : d = (s.setSyncPort d i { s.syncPort d i with steps := beAt b 61 2, parent := beAt b 20 10, announced := true, lastAnnounce := s.lt }).mainTracker := main
    split
    · exact ⟨rfl, rfl⟩
    · next other => exact absurd main other

end

/-- After a path change the port settles, with no measurement of its delay left (R420). -/
theorem State.pathChange_settles (s : State) (i new : Nat) : ((s.pathChange i new).ptpPort i).settling = true ∧
    ((s.pathChange i new).ptpPort i).settleStart = s.lt ∧ ((s.pathChange i new).ptpPort i).delays = [] := by
  let x := s.modPtpPort i (fun p => { p with settling := true, settleStart := s.lt, delays := [], diffs := 0 })
  have set : x.ptpPort i = { s.ptpPort i with settling := true, settleStart := s.lt, delays := [], diffs := 0 } := s.ptpPort_setPtpPort_self i _
  have judged : x.Judged (s.pathChange i new) := by
    unfold State.pathChange
    refine forEach_keeps (P := x.Judged) (fun y d h => ?_) _ _ (x.raise_judged _ _ _)
    split
    · exact h.trans (y.holdover_judged d 3)
    · exact h.trans (y.requalify_judged d)
  rw [judged.ptpPort, set]
  exact ⟨rfl, rfl, rfl⟩

theorem State.ptpAnnounce_changes {s : State} {i d : Nat} {b : List Byte} (hi : i ∈ s.syncPortList) (hd : s.trackerOf (byteAt b 4) = some d) (ht : ptpType b = 11)
    (ha : (s.syncPort d i).announced = true) (hc : (s.syncPort d i).steps ≠ beAt b 61 2 ∨ (s.syncPort d i).parent ≠ beAt b 20 10) : let t := s.ptpAnnounce i b
    (t.ptpPort i).settling = true ∧ (t.ptpPort i).settleStart = s.lt ∧ (t.ptpPort i).delays = [] := by
  obtain ⟨x, -, lt, -, -, eq⟩ := State.ptpAnnounce_taken hi hd ht
  obtain ⟨settling, start, delays⟩ := x.pathChange_settles i (x.ptpPort i).mpd
  dsimp only
  rw [eq, if_pos ⟨ha, hc⟩]
  exact ⟨settling, start.trans lt, delays⟩

theorem State.ptpAnnounce_same {s : State} {i d : Nat} {b : List Byte} (hi : i ∈ s.syncPortList) (hd : s.trackerOf (byteAt b 4) = some d) (ht : ptpType b = 11)
    (hc : (s.syncPort d i).announced = false ∨ ((s.syncPort d i).steps = beAt b 61 2 ∧ (s.syncPort d i).parent = beAt b 20 10)) : let t := s.ptpAnnounce i b
    t.time.ports = s.time.ports ∧
    t.syncPort d i = { s.syncPort d i with steps := beAt b 61 2, parent := beAt b 20 10, announced := true, lastAnnounce := s.lt } ∧
    (d = s.mainTracker → t.time.utc = signedOf 16 (beAt b 44 2) ∧ t.time.utcValid = (byteAt b 7).testBit 2) := by
  obtain ⟨x, ports, -, sync, utc, eq⟩ := State.ptpAnnounce_taken hi hd ht
  have same : ¬ ((s.syncPort d i).announced = true ∧ ((s.syncPort d i).steps ≠ beAt b 61 2 ∨ (s.syncPort d i).parent ≠ beAt b 20 10)) := by
    rintro ⟨ha, hne⟩
    rcases hc with hc | ⟨hs, hp⟩
    · rw [ha] at hc; cases hc
    · exact hne.elim (fun h => h hs) fun h => h hp
  dsimp only
  rw [eq, if_neg same]
  exact ⟨ports, sync, utc⟩

end Sys2Proof.Machine
end

section
/-!
PROOFS. Train time: the peer delay and the paths of the ports, and Sync as a master (R406, R407, R413, R414, R420 to R422).
-/
namespace Sys2Proof.Machine
open Sys2Proof

/-! ### Messages that leave -/

theorem ptpType_header (ty len dom flags corr seq port ctl log : Nat) (c : List Byte) : ptpType (ptpHeader ty len dom flags corr seq port ctl log ++ c) = ty % 256 % 16 := by
  simp only [ptpHeader, List.append_assoc]
  exact congrArg (· % 16) (byteAt_leBytes ty)

theorem byteAt_header_domain (ty len dom flags corr seq port ctl log : Nat) (c : List Byte) :
    byteAt (ptpHeader ty len dom flags corr seq port ctl log ++ c) 4 = dom % 256 := by
  simp only [ptpHeader, List.append_assoc]
  rw [byteAt_append_right (by simp), byteAt_append_right (by simp), byteAt_append_right (by simp)]
  simp only [length_leBytes, length_beBytes, List.length_singleton]
  exact byteAt_leBytes dom

/-- Every unit of a list sends its message, where none takes an output back. -/
theorem forEach_sends {f : State → Nat → State} {Q : Nat → List Byte → Prop}
    (hf : ∀ s i, (∀ o ∈ s.outs, o ∈ (f s i).outs) ∧ ∃ r, Out.ptp i r ∈ (f s i).outs ∧ Q i r) :
    ∀ (l : List Nat) (s : State), (∀ o ∈ s.outs, o ∈ (forEach l f s).outs) ∧ ∀ i ∈ l, ∃ r, Out.ptp i r ∈ (forEach l f s).outs ∧ Q i r
  | [], _ => ⟨fun _ h => h, fun _ h => absurd h List.not_mem_nil⟩
  | k :: l, s => by
    obtain ⟨before, r, sent, hr⟩ := hf s k
    obtain ⟨kept, each⟩ := forEach_sends hf l (f s k)
    refine ⟨fun o h => kept o (before o h), fun i hi => ?_⟩
    rcases List.mem_cons.1 hi with rfl | hi
    · exact ⟨r, kept _ sent, hr⟩
    · exact each i hi

/-! ### The peer delay -/

/-- A Pdelay_Req as it leaves on a port (R406). -/
def State.pdelaySent (s : State) (i : Nat) : State :=
  (s.modPtpPort i (fun p => { p with reqSeq := ((s.ptpPort i).reqSeq + 1) % 65536, reqT1 := (s.tt : Int), waiting := true, twoStep := false })).emit
    (.ptp i (ptpHeader 2 54 (s.rf .timeCfg 0 10 4) 0 0 (((s.ptpPort i).reqSeq + 1) % 65536) (i + 1) 5 0xFE ++ List.replicate 20 0))

theorem State.pdelaySend_eq (s : State) : s.pdelaySend = forEach s.ptpPortList State.pdelaySent s := rfl

theorem State.pdelaySent_port (s : State) (i k : Nat) : (s.pdelaySent i).ptpPort k = if k = i then
    { s.ptpPort i with reqSeq := ((s.ptpPort i).reqSeq + 1) % 65536, reqT1 := (s.tt : Int), waiting := true, twoStep := false } else s.ptpPort k :=
  s.ptpPort_setPtpPort i k _

theorem State.ptpPortList_nodup (s : State) : s.ptpPortList.Nodup := by
  unfold State.ptpPortList
  split <;> decide

theorem State.pdelaySend_sends (s : State) : ∀ i ∈ s.ptpPortList, (s.pdelaySend.ptpPort i).reqSeq = ((s.ptpPort i).reqSeq + 1) % 65536 ∧
    (s.pdelaySend.ptpPort i).waiting = true ∧ (s.pdelaySend.ptpPort i).reqT1 = (s.tt : Int) ∧ ∃ r, Out.ptp i r ∈ s.pdelaySend.outs ∧ ptpType r = 2 := by
  intro i hi
  obtain ⟨x, tt, same, visited⟩ := forEach_visits (unit := State.ptpPort) (I := fun x => x.tt = s.tt)
    (fun s i k h => (s.pdelaySent_port i k).trans (if_neg h)) (fun _ _ h => h) _ s.ptpPortList_nodup s rfl hi
  have sends := (forEach_sends (f := State.pdelaySent) (Q := fun _ r => ptpType r = 2)
    (fun s i => ⟨fun o h => List.mem_append_left _ h, _, List.mem_append_right _ List.mem_cons_self, ptpType_header ..⟩) s.ptpPortList s).2 i hi
  rw [State.pdelaySent_port, if_pos rfl, same, tt] at visited
  rw [State.pdelaySend_eq, visited]
  exact ⟨rfl, rfl, rfl, sends⟩

/-- A Pdelay_Req is answered (R413). -/
theorem State.pdelayReq_answers {s : State} {i : Nat} {b : List Byte} (ht : ptpType b = 2) (hi : i ∈ s.ptpPortList) :
    (s.pdelayReq i b).time = s.time ∧ ∃ r, (s.pdelayReq i b).outs = s.outs ++ [.ptp i r] ∧ ptpType r = 3 := by
  have taken : ¬ (ptpType b ≠ 2 ∨ i ∉ s.ptpPortList) := fun h => h.elim (fun h => h ht) fun h => h hi
  unfold State.pdelayReq
  rw [if_neg taken]
  refine ⟨rfl, _, rfl, ?_⟩
  rw [List.append_assoc]
  exact ptpType_header ..

section
variable {s : State} {i : Nat} {m : Int}

/-- A measurement that does not differ, or is the first. -/
theorem State.newDelay_takes (h : (s.ptpPort i).delays = [] ∨ (m - ((s.ptpPort i).mpd : Int)).natAbs ≤ s.rf .timePath 0 9 0) : (s.newDelay i m).ptpPort i =
    { s.ptpPort i with delays := ((s.ptpPort i).delays ++ [(max m 0).toNat]).drop ((s.ptpPort i).delays.length + 1 - 8), diffs := 0, waiting := false } := by
  have same : ¬ ((s.ptpPort i).delays ≠ [] ∧ s.rf .timePath 0 9 0 < absN (m - ((s.ptpPort i).mpd : Int))) := fun ⟨hn, hl⟩ =>
    h.elim hn fun h => Nat.not_lt.2 h hl
  unfold State.newDelay
  extract_lets p v diff n
  have none : n = 0 := if_neg same
  rw [none]
  exact s.ptpPort_setPtpPort_self i _

/-- The second measurement in a row that differs is a path change (R420). -/
theorem State.newDelay_changes (hn : (s.ptpPort i).delays ≠ []) (hl : s.rf .timePath 0 9 0 < (m - ((s.ptpPort i).mpd : Int)).natAbs)
    (hd : 1 ≤ (s.ptpPort i).diffs) : ((s.newDelay i m).ptpPort i).settling = true ∧ ((s.newDelay i m).ptpPort i).settleStart = s.lt ∧
    ((s.newDelay i m).ptpPort i).delays = [] := by
  unfold State.newDelay
  extract_lets p v diff n
  have next : n = p.diffs + 1 := if_pos ⟨hn, hl⟩
  have second : 2 ≤ n := next ▸ Nat.succ_le_succ hd
  rw [if_pos second]
  exact State.pathChange_settles _ i v

theorem State.pdelayResp_oneStep {b : List Byte} (ht : ptpType b = 3) (h1 : (byteAt b 6).testBit 1 = false) (hi : i ∈ s.ptpPortList)
    (hw : (s.ptpPort i).waiting = true) (hq : beAt b 30 2 = (s.ptpPort i).reqSeq) (sub : Nat) :
    s.pdelayResp i b sub = s.newDelay i (divTrunc ((s.tt + sub : Nat) - (s.ptpPort i).reqT1 - ptpCorr b) 2) := by
  have taken : ¬ ((ptpType b ≠ 3 ∧ ptpType b ≠ 10) ∨ i ∉ s.ptpPortList) := fun h => h.elim (fun ⟨h, _⟩ => h ht) fun h => h hi
  have asked : ¬ (!(s.ptpPort i).waiting || beAt b 30 2 != (s.ptpPort i).reqSeq) = true := by simp [hw, hq]
  unfold State.pdelayResp
  dsimp only
  rw [if_neg taken, if_neg asked, if_pos ht, if_neg (by rw [h1]; exact nofun)]
  rfl

end

/-! ### The end of a port's window -/

/-- The asymmetry that an entry of the topology table gives a port (R422). -/
def State.topoOf (s : State) (e i : Nat) : Int :=
  if i = 0 then signedOf 16 (s.rf .timeTopoAsym e 15 0) else if i = 1 then signedOf 16 (s.rf .timeTopoAsym e 31 16) else 0

/-- A port's window ends, at an instant. -/
def State.settledAt (s : State) (due : Ticks) (i : Nat) : State :=
  let x := s.passTo due
  match x.topoEntry with
  | some e =>
    let y := x.modPtpPort i (fun p => { p with settling := false, uncomp := false, topo := x.topoOf e i })
    ({ y with time := { y.time with topoUsed := e } }).raise 0xA006 i (leBytes 1 e)
  | none =>
    let y := x.modPtpPort i (fun p => { p with settling := false, uncomp := true, topo := 0 })
    ({ y with time := { y.time with topoUsed := 0x3F } }).raise 0xA005 i

theorem State.settleEnd_eq {s : State} {i : Nat} (h : (s.ptpPort i).settling = true) :
    s.settleEnd i = ((s.settledAt ((s.ptpPort i).settleStart + ms (10 * s.rf .timePath 0 25 16)) i).requalify 0).requalify 1 :=
  when_of h _ _

theorem State.topoEntry_passTo (s : State) (due : Ticks) : (s.passTo due).topoEntry = s.topoEntry := by
  have reg (r : RegId) (i : Nat) : (s.passTo due).reg r i = s.reg r i := by rw [State.reg, State.passTo_regs, State.reg]
  simp only [State.topoEntry, State.passTo_sys, State.passTo_trdp, State.rf_congr (State.passTo_regs s due), reg]

theorem State.ptpPort_passTo (s : State) (due : Ticks) (i : Nat) : (s.passTo due).ptpPort i = s.ptpPort i := by
  obtain ⟨l, tt, f, n, time⟩ := s.passTo_clocks due
  rw [State.ptpPort, time, State.ptpPort]

theorem State.settledAt_known {s : State} (due : Ticks) (i : Nat) {e : Nat} (h : s.topoEntry = some e) : due ≤ (s.settledAt due i).time.lt ∧
    (s.settledAt due i).time.topoUsed = e ∧ (s.settledAt due i).ptpPort i = { s.ptpPort i with settling := false, uncomp := false, topo := s.topoOf e i } := by
  let x := s.passTo due
  let y := x.modPtpPort i (fun p => { p with settling := false, uncomp := false, topo := x.topoOf e i })
  let z : State := { y with time := { y.time with topoUsed := e } }
  have eq : s.settledAt due i = z.raise 0xA006 i (leBytes 1 e) := by
    unfold State.settledAt
    dsimp only
    rw [s.topoEntry_passTo, h]
  have time : (s.settledAt due i).time = z.time := eq ▸ State.raise_time _ _ _ _
  have topo : x.topoOf e i = s.topoOf e i := by
    rw [State.topoOf, State.rf_congr (State.passTo_regs s due), State.rf_congr (State.passTo_regs s due), State.topoOf]
  have port : y.ptpPort i = { x.ptpPort i with settling := false, uncomp := false, topo := x.topoOf e i } := x.ptpPort_setPtpPort_self i _
  rw [State.ptpPort_passTo, topo] at port
  rw [State.ptpPort, time]
  exact ⟨State.le_passTo_lt s due, rfl, port⟩

theorem State.settledAt_unknown {s : State} (due : Ticks) (i : Nat) (h : s.topoEntry = none) : due ≤ (s.settledAt due i).time.lt ∧
    (s.settledAt due i).time.topoUsed = 0x3F ∧ (s.settledAt due i).ptpPort i = { s.ptpPort i with settling := false, uncomp := true, topo := 0 } := by
  let x := s.passTo due
  let y := x.modPtpPort i (fun p => { p with settling := false, uncomp := true, topo := 0 })
  let z : State := { y with time := { y.time with topoUsed := 0x3F } }
  have eq : s.settledAt due i = z.raise 0xA005 i := by
    unfold State.settledAt
    dsimp only
    rw [s.topoEntry_passTo, h]
  have time : (s.settledAt due i).time = z.time := eq ▸ State.raise_time _ _ _ _
  have port : y.ptpPort i = { x.ptpPort i with settling := false, uncomp := true, topo := 0 } := x.ptpPort_setPtpPort_self i _
  rw [State.ptpPort_passTo] at port
  rw [State.ptpPort, time]
  exact ⟨State.le_passTo_lt s due, rfl, port⟩

theorem State.settleEnd_ends {s : State} {i : Nat} (h : (s.ptpPort i).settling = true) : let t := s.settleEnd i
    (s.ptpPort i).settleStart + ms (10 * s.rf .timePath 0 25 16) ≤ t.time.lt ∧
    (∀ e, s.topoEntry = some e → t.time.topoUsed = e ∧ (t.ptpPort i).settling = false ∧ (t.ptpPort i).uncomp = false ∧ (t.ptpPort i).topo = s.topoOf e i) ∧
    (s.topoEntry = none → t.time.topoUsed = 0x3F ∧ t.ptpPort i = { s.ptpPort i with settling := false, uncomp := true, topo := 0 }) := by
  dsimp only
  rw [State.settleEnd_eq h]
  generalize (s.ptpPort i).settleStart + ms (10 * s.rf .timePath 0 25 16) = due
  have judged := (State.requalify_judged (s.settledAt due i) 0).trans (State.requalify_judged _ 1)
  rw [judged.lt, judged.topoUsed, judged.ptpPort]
  cases entry : s.topoEntry with
  | none =>
    obtain ⟨late, used, port⟩ := State.settledAt_unknown due i entry
    exact ⟨late, nofun, fun _ => ⟨used, port⟩⟩
  | some e =>
    obtain ⟨late, used, port⟩ := State.settledAt_known due i entry
    rw [port]
    refine ⟨late, ?_, nofun⟩
    intro e' same
    cases same
    exact ⟨used, rfl, rfl, rfl⟩

/-! ### Sync as a master -/

/-- Sync and Announce leave on a port in MODE 3 (R406, R409). -/
theorem State.syncSend_sends {s : State} (h : s.timeMode = 3) : s.syncSend.time.syncSeq = s.time.syncSeq + 1 ∧
    ∀ i, i = 2 ∨ i = 3 → ∃ r, Out.ptp i r ∈ s.syncSend.outs ∧ ptpType r = 0 ∧ byteAt r 4 = s.rf .timeCfg 0 24 18 := by
  have dom : s.rf .timeCfg 0 24 18 % 256 = s.rf .timeCfg 0 24 18 := Nat.mod_eq_of_lt (Nat.lt_of_lt_of_le (Nat.mod_lt _ (by decide)) (by decide))
  unfold State.syncSend
  rw [when_of (beq_iff_eq.2 h)]
  extract_lets sh q domain ann x
  have time : x.time = s.time := forEach_keeps (P := fun y => y.time = s.time) (fun y i hy => by dsimp only; split <;> exact hy) _ _ rfl
  have sends : ∀ i ∈ [2, 3], ∃ r, Out.ptp i r ∈ x.outs ∧ ptpType r = 0 ∧ byteAt r 4 = domain % 256 := by
    refine (forEach_sends (Q := fun _ r => ptpType r = 0 ∧ byteAt r 4 = domain % 256) (fun y i => ?_) [2, 3] s).2
    dsimp only
    split
    · exact ⟨fun o ho => List.mem_append_left _ (List.mem_append_left _ ho), _, List.mem_append_left _ (List.mem_append_right _ List.mem_cons_self),
        ptpType_header .., byteAt_header_domain ..⟩
    · exact ⟨fun o ho => List.mem_append_left _ ho, _, List.mem_append_right _ List.mem_cons_self, ptpType_header .., byteAt_header_domain ..⟩
  rw [dom] at sends
  exact ⟨congrArg (fun u : TimeUnit => u.syncSeq + 1) time, fun i hi => sends i (by rcases hi with rfl | rfl <;> decide)⟩

end Sys2Proof.Machine
end

section
/-!
PROOFS. Train time: holdover by time, confirmed jumps, steps, and the real-time clock (R402, R403, R417, R422, R424, R428).
-/
namespace Sys2Proof.Machine
open Sys2Proof

/-! ### Holdover -/

/-- A tracker's Announce is missing at an instant. -/
def State.announceLostAt (s : State) (due : Ticks) (d i : Nat) : State := (s.passTo due).modSyncPort d i (fun p => { p with steps := 0xFFFF, announced := false })

/-- What leads a tracker into holdover (R417). -/
theorem State.holdoverNow_cases (s : State) (d : Nat) : s.holdoverNow d = s.holdover d 3 ∨ (∃ due i, s.holdoverNow d = (s.announceLostAt due d i).holdover d 2) ∨
    ∃ due, s.holdoverNow d = (s.passTo due).holdover d 1 := by
  unfold State.holdoverNow
  dsimp only
  split
  · exact .inl rfl
  · next i _ =>
    generalize (s.syncPort d i).lastAnnounce + sec 3 = lost
    generalize List.foldl _ _ _ + 3 * s.syncInterval = late
    split
    · exact .inr (.inl ⟨lost, i, rfl⟩)
    · exact .inr (.inr ⟨late, rfl⟩)

theorem State.passTo_holds (s : State) (due : Ticks) : (s.passTo due).time.everLocked = s.time.everLocked ∧ (s.passTo due).time.trackers = s.time.trackers := by
  obtain ⟨l, tt, f, n, time⟩ := s.passTo_clocks due
  rw [time]
  exact ⟨rfl, rfl⟩

theorem State.holdoverNow_begins {s : State} {d : Nat} (hl : s.time.everLocked = true) (hs : (s.tracker d).holdStart = none) :
    ((s.holdoverNow d).tracker d).quality = .holdoverShort ∧ ((s.holdoverNow d).tracker d).holdStart = some (s.holdoverNow d).time.lt := by
  obtain ⟨x, cause, eq, ever, trackers⟩ : ∃ x : State, ∃ cause, s.holdoverNow d = x.holdover d cause ∧ x.time.everLocked = s.time.everLocked ∧
      x.time.trackers = s.time.trackers := by
    rcases s.holdoverNow_cases d with h | ⟨due, i, h⟩ | ⟨due, h⟩
    · exact ⟨_, _, h, rfl, rfl⟩
    · exact ⟨_, _, h, s.passTo_holds due⟩
    · exact ⟨_, _, h, s.passTo_holds due⟩
  have same : x.tracker d = s.tracker d := by rw [State.tracker, trackers, State.tracker]
  obtain ⟨quality, start, -⟩ := State.holdover_begins (s := x) (d := d) (ever.trans hl) (by rw [same]; exact hs) cause
  rw [eq, (x.holdover_judged d cause).lt]
  exact ⟨quality, start⟩

/-- Holdover has lasted long, at an instant. -/
def State.heldLongAt (s : State) (due : Ticks) (d : Nat) : State :=
  let x := (s.passTo due).modTracker d (fun t => { t with holdLong := true })
  (if d = x.mainTracker then x.raise 0xA003 noInst else x).setQuality d .holdoverLong

theorem State.holdLong_eq {s : State} {d : Nat} {t0 : Ticks} (h : (s.tracker d).holdStart = some t0) (hl : (s.tracker d).holdLong = false) :
    s.holdLong d = s.heldLongAt (t0 + sec 2) d := by
  unfold State.holdLong
  rw [h]
  dsimp only
  rw [when_of (by rw [hl]; rfl)]
  rfl

theorem State.heldLongAt_long (s : State) (due : Ticks) (d : Nat) : due ≤ (s.heldLongAt due d).time.lt ∧ ((s.heldLongAt due d).tracker d).quality = .holdoverLong := by
  unfold State.heldLongAt
  extract_lets x
  have late : due ≤ x.time.lt := State.le_passTo_lt s due
  refine ⟨?_, State.setQuality_quality _ d nofun⟩
  rw [(State.setQuality_judged _ d .holdoverLong).lt]
  split
  · rw [State.raise_time]; exact late
  · exact late

/-! ### Jumps -/

/-- A pending jump is confirmed at an instant (R424). -/
def State.jumpTakenAt (s : State) (due : Ticks) : State := (s.passTo due).confirmJump (s.passTo due).jumpMean

theorem State.jumpPersists_eq {s : State} (hp : s.time.jumpPending = true) (hm : s.rf .timeCfg 0 29 28 = 0) :
    s.jumpPersists = s.jumpTakenAt (s.time.jumpSince + sec (s.rf .timeJump 0 11 0)) := when_of (by simp [hp, hm]) _ _

theorem State.jumpTakenAt_steps (s : State) (due : Ticks) : (s.jumpTakenAt due).time.jumpPending = false ∧ (s.jumpTakenAt due).time.stepPending = some s.jumpMean ∧
    due ≤ (s.jumpTakenAt due).time.lt := by
  have mean : (s.passTo due).jumpMean = s.jumpMean := by
    obtain ⟨l, tt, f, n, time⟩ := s.passTo_clocks due
    rw [State.jumpMean, time, State.jumpMean]
  exact ⟨rfl, congrArg some mean, State.le_passTo_lt s due⟩

/-! ### Steps -/

theorem State.judgePassed_time (s : State) : s.judgePassed.time = s.time := by
  have freed (x : State) (i : Nat) : (x.freeSlot i).time = x.time :=
    (State.freeSlot_frame (w := Part.seq ||| Part.twin ||| Part.outs ||| Part.actions) rfl (Frame.refl _ x)).time rfl
  refine forEach_keeps (P := fun x => x.time = s.time) (fun x i h => ?_) _ _ rfl
  dsimp only
  split
  · rw [freed]
    exact (State.raise_time _ _ _ _).trans h
  · rw [freed]
    exact h

theorem nextMultiple_mod (m t : Nat) : nextMultiple m t % m = 0 := Nat.mul_mod_left _ _

theorem le_nextMultiple {m : Nat} (hm : 0 < m) (t : Nat) : t ≤ nextMultiple m t ∧ nextMultiple m t < t + m := by
  refine ⟨le_divCeil_mul t hm, ?_⟩
  have upper := Nat.div_mul_le_self (t + m - 1) m
  unfold nextMultiple divCeil
  omega

/-- TT takes a new value, from which the frames of motion and field go on (R428). -/
def State.steppedTo (s : State) (new : Nat) : State :=
  { s with time := { s.time with
    ttFp := new * 2 ^ 32, stepPending := none, motionNext := nextMultiple 25000 (new + 25000), fieldNext := nextMultiple 10000 (new + 10000) } }

/-- What a step of TT to `new` makes of the clocks. -/
structure State.Stepped (s : State) (new : Nat) : Prop where
  ttFp : s.time.ttFp = new * 2 ^ 32
  stepPending : s.time.stepPending = none
  motionNext : s.time.motionNext = nextMultiple 25000 (new + 25000)
  fieldNext : s.time.fieldNext = nextMultiple 10000 (new + 10000)

theorem State.Stepped.of_time {s x : State} {new : Nat} (h : s.Stepped new) (hx : x.time = s.time) : x.Stepped new :=
  ⟨hx ▸ h.ttFp, hx ▸ h.stepPending, hx ▸ h.motionNext, hx ▸ h.fieldNext⟩

theorem State.Stepped.tt {s : State} {new : Nat} (h : s.Stepped new) : s.tt = new := by
  rw [State.tt, h.ttFp]
  exact Nat.mul_div_cancel _ (by decide)

/-- What a step of TT from `old` to `new` makes of the trackers' offsets and the frames of the isolation links. -/
def State.shiftedBy (s : State) (o : Int) (old new : Nat) : State :=
  forEach (List.range 12) (fun s k => s.modFlink k (fun l => { l with sentF := l.sentF + new - old }))
    (forEach [0, 1] (fun s d => s.modTracker d (fun t => { t with offset := t.offset - o, jumped := false })) s)

theorem State.shiftedBy_stepped {s : State} {new : Nat} (h : s.Stepped new) (o : Int) (old k : Nat) : (s.shiftedBy o old k).Stepped new := by
  unfold State.shiftedBy
  refine forEach_keeps (P := fun y => y.Stepped new) ?_ _ _ (forEach_keeps (P := fun y => y.Stepped new) ?_ _ _ h)
  · intro y k hy
    exact hy.of_time rfl
  · intro y d hy
    exact ⟨hy.ttFp, hy.stepPending, hy.motionNext, hy.fieldNext⟩

/-- TT is stepped to `new`, with its record and the judgement of the slots. -/
def State.stepTaken (s : State) (o : Int) (old new : Nat) : State :=
  let x := (s.steppedTo new).shiftedBy o old new
  (x.raise 0xA008 noInst (x.sinceTt old ++ x.sinceTt new)).judgePassed

theorem State.stepTaken_stepped (s : State) (o : Int) (old new : Nat) : (s.stepTaken o old new).Stepped new := by
  have set : (s.steppedTo new).Stepped new := ⟨rfl, rfl, rfl, rfl⟩
  unfold State.stepTaken
  dsimp only
  generalize hx : (s.steppedTo new).shiftedBy o old new = x
  have shifted : x.Stepped new := hx ▸ State.shiftedBy_stepped set o old new
  exact (shifted.of_time (State.raise_time x _ _ _)).of_time (State.judgePassed_time _)

/-- The boundary of 50 us at which a step is taken. -/
def State.stepAt (s : State) : State := s.passToTt (nextMultiple 50000 s.tt)

/-- A step, at the boundary at which it is taken. -/
theorem State.timeStep_steps {s : State} {o : Int} (hp : s.time.stepPending = some o) (hb : s.stepBlocked = false) :
    s.timeStep.Stepped ((s.stepAt.tt : Int) - o).toNat := by
  have eq : s.timeStep = s.stepAt.stepTaken o s.stepAt.tt ((s.stepAt.tt : Int) - o).toNat := by
    unfold State.timeStep
    rw [hp]
    dsimp only
    rw [if_neg (by rw [hb]; exact nofun)]
    rfl
  rw [eq]
  exact State.stepTaken_stepped _ o _ _

theorem State.timeStep_blocked {s : State} (hb : s.stepBlocked = true) : s.timeStep = s := by
  unfold State.timeStep
  split
  · rfl
  · exact if_pos hb

/-! ### The paths -/

theorem State.acceptPath_ports (s : State) : ∀ i < 4, s.acceptPath.ptpPort i = { s.ptpPort i with uncomp := false } := by
  intro i hi
  have judged : (forEach [0, 1, 2, 3] (fun s i => s.modPtpPort i (fun p => { p with uncomp := false })) s).Judged s.acceptPath :=
    (State.requalify_judged _ 0).trans (State.requalify_judged _ 1)
  obtain ⟨x, -, same, visited⟩ := forEach_visits (unit := State.ptpPort) (I := fun _ => True) (f := fun s i => s.modPtpPort i (fun p => { p with uncomp := false }))
    (fun s i k h => (s.ptpPort_setPtpPort i k _).trans (if_neg h)) (k := i) (fun _ _ h => h) [0, 1, 2, 3] (by decide) s trivial (by
      interval_cases i <;> decide)
  rw [judged.ptpPort, visited, ← same]
  exact x.ptpPort_setPtpPort_self i _

end Sys2Proof.Machine
end

section
/-!
PROOFS. Train time: its commands complete with their effects (R402 to R428).
-/
namespace Sys2Proof.Machine
open Sys2Proof

/-- A message of another type is discarded and counted (R407). -/
theorem completes_ptpDiscard {c : Instr} {s : State} {f : State → State} {i : Nat} (hc : exec c s = run s f) (hf : f s.fresh = s.fresh.ptpDiscard i) :
    Completes c s (fun t => t.time = s.time ∧ Table.get 0 t.cnt.value (164 + i) = (Table.get 0 s.cnt.value (164 + i) + 1) % 2 ^ 48) := by
  refine completes_fresh hc ?_
  rw [hf]
  exact ⟨rfl, (State.count_at s.fresh (164 + i) 1).1⟩

section
variable {s : State} (i : Nat) (b : List Byte)

theorem State.ptpSync_discards (sub : Nat) (h : ptpType b ≠ 0) : s.ptpSync i b sub = s.ptpDiscard i := if_pos h

theorem State.ptpFollowUp_discards (h : ptpType b ≠ 8) : s.ptpFollowUp i b = s.ptpDiscard i := if_pos h

theorem State.ptpAnnounce_discards (h : ptpType b ≠ 11) : s.ptpAnnounce i b = s.ptpDiscard i := if_pos h

theorem State.pdelayReq_discards (h : ptpType b ≠ 2) : s.pdelayReq i b = s.ptpDiscard i := if_pos (.inl h)

theorem State.pdelayResp_discards (sub : Nat) (h3 : ptpType b ≠ 3) (h10 : ptpType b ≠ 10) : s.pdelayResp i b sub = s.ptpDiscard i := if_pos (.inl ⟨h3, h10⟩)

end

/-- The real-time clock is set from TT (R402). -/
theorem State.rtcSet_sets {s : State} (h : s.quality = .locked) : s.rtcSet.bk.rtcValid = true ∧ s.rtcSet.bk.rtc = s.rtcSet.tt / 1000000000 % 2 ^ 48 ∧
    s.time.lt ≤ s.rtcSet.time.lt := by
  unfold State.rtcSet
  rw [when_of (by rw [h]; rfl)]
  generalize nextMultiple 1000000000 (s.tt + 1) = due
  have later : s.time.lt ≤ (s.passToTt due).time.lt := Nat.le_add_right _ _
  exact ⟨rfl, rfl, later⟩

theorem State.acceptJump_takes {s : State} (h : s.time.jumpPending = true) : s.acceptJump.time.jumpPending = false ∧ s.acceptJump.time.stepPending = some s.jumpMean := by
  rw [State.acceptJump, if_pos h]
  exact ⟨rfl, rfl⟩

theorem State.acceptJump_idle {s : State} (h : s.time.jumpPending = false) : s.acceptJump = s := if_neg (by rw [h]; exact nofun)

theorem State.effect_acceptJump (s : State) : s.effect .timeCmd 0 0 1 = s.acceptJump := rfl

theorem State.effect_acceptPath (s : State) : s.effect .timeCmd 0 0 2 = s.acceptPath := rfl

theorem State.stepTaken_bounds {s : State} {o : Int} (hp : s.time.stepPending = some o) (hb : s.stepBlocked = false) : let t := s.timeStep
    t.time.stepPending = none ∧ t.time.motionNext % 25000 = 0 ∧ t.time.fieldNext % 10000 = 0 ∧
    (t.tt : Int) = max 0 ((s.stepAt.tt : Int) - o) ∧ t.tt + 25000 ≤ t.time.motionNext ∧ t.time.motionNext < t.tt + 50000 ∧
    t.tt + 10000 ≤ t.time.fieldNext ∧ t.time.fieldNext < t.tt + 20000 := by
  have stepped := State.timeStep_steps hp hb
  dsimp only
  rw [stepped.tt, stepped.motionNext, stepped.fieldNext]
  generalize hn : ((s.stepAt.tt : Int) - o).toNat = new
  obtain ⟨motion, motion'⟩ := le_nextMultiple (m := 25000) (by decide) (new + 25000)
  obtain ⟨field, field'⟩ := le_nextMultiple (m := 10000) (by decide) (new + 10000)
  refine ⟨stepped.stepPending, nextMultiple_mod _ _, nextMultiple_mod _ _, ?_, motion, motion'.trans_eq (Nat.add_assoc ..), field, field'.trans_eq (Nat.add_assoc ..)⟩
  rw [← hn, Int.toNat_eq_max, max_comm]

theorem State.pass_ttFp (s : State) (n : Nat) : (s.pass n).time.ttFp = ((s.time.ttFp : Int) + ttAdvance s.time.freq n).toNat := rfl

/-- The boundary does not depend on the record of outputs. -/
theorem State.stepAt_fresh (s : State) : s.fresh.stepAt.tt = (s.passToTt (nextMultiple 50000 s.tt)).tt := by
  have time : s.fresh.time = s.time := rfl
  have ticks (due : TimeNs) : s.fresh.ticksTo due = s.ticksTo due := by rw [State.ticksTo, time, State.ticksTo]
  have now : s.fresh.tt = s.tt := by rw [State.tt, time, State.tt]
  have tt {x y : State} (h : x.time.ttFp = y.time.ttFp) : x.tt = y.tt := by rw [State.tt, h, State.tt]
  rw [State.stepAt, State.passToTt, State.passToTt, now, ticks]
  refine tt ?_
  rw [State.pass_ttFp, State.pass_ttFp, time]

section Sync
variable {s : State} (i : Fin 4) {b : List Byte} (sub : Fin 4) {d : Nat} (hi : i.val ∈ s.syncPortList) (hd : s.trackerOf (byteAt b 4) = some d)
include hi hd

/-- A one-step Sync completes with what its offset does. -/
theorem completes_ptpSync {post : State → Prop} (ht : ptpType b = 0) (h1 : (byteAt b 6).testBit 1 = false)
    (h : post (s.fresh.syncOffset d i (s.tt + sub.val : Nat) (ptpStamp b 34) (ptpCorr b))) : Completes (.ptpSync i b sub) s post := by
  refine completes_fresh (f := fun s => s.ptpSync i b sub) rfl ?_
  rw [State.ptpSync_oneStep (s := s.fresh) hi hd ht h1]
  exact h

end Sync

/-- Settles O47, a message or an instant each. -/
theorem trainTimeFollowsItsGrandmaster : Obligations.TrainTimeFollowsItsGrandmaster := by
  intro s
  refine ⟨fun i b sub d hi hd => ?sync, fun i b sub => ?ports, ?pdelaySend, fun mode => ?syncSend, fun d => ?hold, fun hp hm => ?confirm, fun o ho => ?step,
    fun m hm => ?accept, fun m hm => ?read, fun hq => ?rtc⟩
  case sync =>
    intro p heard offset one
    refine ⟨fun ht h1 => ⟨fun hf => ?_, fun hf => ?_, fun hf main small order run unlocked => ?_, fun hf mode ever still fresh far free => ?_⟩, fun ht h1 => ?_,
      fun ht hp hq hf => ?_, fun ht ha hc => ?_, fun ht hc => ?_⟩
    · obtain ⟨offset, ever, last, -⟩ := State.syncOffset_sets (s := s.fresh) (s.tt + sub.val : Nat) (ptpStamp b 34) (ptpCorr b) hf
      exact completes_ptpSync i sub hi hd ht h1 ⟨offset, ever, last⟩
    · exact completes_ptpSync i sub hi hd ht h1 (State.syncOffset_keeps (s := s.fresh) _ _ _ hf)
    · exact completes_ptpSync i sub hi hd ht h1 (State.syncOffset_locks (s := s.fresh) _ _ _ hf main small order run unlocked)
    · exact completes_ptpSync i sub hi hd ht h1 (State.syncOffset_refused (s := s.fresh) _ _ _ hf mode ever still fresh far free)
    · exact completes_fresh (f := fun s => s.ptpSync i b sub) rfl (State.ptpSync_twoStep (s := s.fresh) hi hd ht h1 sub)
    · refine completes_fresh (f := fun s => s.ptpFollowUp i b) rfl ?_
      obtain ⟨offset, -, -, pend⟩ := State.syncOffset_sets (s := s.fresh) p.pendT2 (ptpStamp b 34) (p.pendC + ptpCorr b) hf
      rw [State.ptpFollowUp_taken (s := s.fresh) hi hd ht hp hq]
      exact ⟨offset, pend⟩
    · exact completes_fresh (f := fun s => s.ptpAnnounce i b) rfl (State.ptpAnnounce_changes (s := s.fresh) hi hd ht ha hc)
    · exact completes_fresh (f := fun s => s.ptpAnnounce i b) rfl (State.ptpAnnounce_same (s := s.fresh) hi hd ht hc)
  case ports =>
    intro dropped p m
    refine ⟨fun h => ?_, fun h => ?_, fun h => ?_, fun h => ?_, fun h3 h10 => ?_, fun ht hi => ?_, fun ht h1 hi hw hq => ⟨fun h => ?_, fun hn hl h => ?_⟩, fun hs => ?_⟩
    · exact completes_ptpDiscard (f := fun s => s.ptpSync i b sub) rfl (State.ptpSync_discards i b sub h)
    · exact completes_ptpDiscard (f := fun s => s.ptpFollowUp i b) rfl (State.ptpFollowUp_discards i b h)
    · exact completes_ptpDiscard (f := fun s => s.ptpAnnounce i b) rfl (State.ptpAnnounce_discards i b h)
    · exact completes_ptpDiscard (f := fun s => s.pdelayReq i b) rfl (State.pdelayReq_discards i b h)
    · exact completes_ptpDiscard (f := fun s => s.pdelayResp i b sub) rfl (State.pdelayResp_discards i b sub h3 h10)
    · exact completes_fresh (f := fun s => s.pdelayReq i b) rfl (State.pdelayReq_answers (s := s.fresh) ht hi)
    · refine completes_fresh (f := fun s => s.pdelayResp i b sub) rfl ?_
      rw [State.pdelayResp_oneStep (s := s.fresh) ht h1 hi hw hq]
      exact State.newDelay_takes (s := s.fresh) h
    · refine completes_fresh (f := fun s => s.pdelayResp i b sub) rfl ?_
      rw [State.pdelayResp_oneStep (s := s.fresh) ht h1 hi hw hq]
      exact State.newDelay_changes (s := s.fresh) hn hl h
    · refine completes_fresh (f := fun s => s.settleEnd i) rfl ?_
      obtain ⟨late, known, unknown⟩ := State.settleEnd_ends (s := s.fresh) (i := i) hs
      refine ⟨late, fun e he => ?_, unknown⟩
      obtain ⟨used, settling, uncomp, topo⟩ := known e he
      refine ⟨used, settling, uncomp, topo.trans ?_⟩
      simp only [State.topoOf, Fin.ext_iff]
      rfl
  case pdelaySend => exact completes_fresh (f := State.pdelaySend) rfl (State.pdelaySend_sends s.fresh)
  case syncSend => exact completes_fresh (f := State.syncSend) rfl (State.syncSend_sends (s := s.fresh) mode)
  case hold =>
    refine ⟨fun hl hs => ?_, fun t0 ht hl => ?_⟩
    · exact completes_fresh (f := fun s => s.holdoverNow d) rfl (State.holdoverNow_begins (s := s.fresh) hl hs)
    · refine completes_fresh (f := fun s => s.holdLong d) rfl ?_
      rw [State.holdLong_eq (s := s.fresh) ht hl]
      exact State.heldLongAt_long s.fresh _ d
  case confirm =>
    refine completes_fresh (f := State.jumpPersists) rfl ?_
    rw [State.jumpPersists_eq (s := s.fresh) hp hm]
    exact State.jumpTakenAt_steps s.fresh _
  case step =>
    refine ⟨fun hb => completes_fresh (f := State.timeStep) rfl ?_, fun hb => completes_fresh (f := State.timeStep) rfl ?_⟩
    · rw [State.timeStep_blocked (s := s.fresh) hb]
      rfl
    · have bounds := State.stepTaken_bounds (s := s.fresh) ho hb
      rw [s.stepAt_fresh] at bounds
      exact bounds
  case accept =>
    refine ⟨fun hp => ?_, fun hp => ?_, ?_⟩
    · refine completes_putRegAlways (v := 1) rfl timeCmd_at hm rfl (by decide) (by decide) ?_
      rw [State.effect_acceptJump]
      exact State.acceptJump_takes (s := s.fresh) hp
    · refine completes_putRegAlways (v := 1) rfl timeCmd_at hm rfl (by decide) (by decide) ?_
      rw [State.effect_acceptJump, State.acceptJump_idle (s := s.fresh) hp]
      rfl
    · refine completes_putRegAlways (v := 2) rfl timeCmd_at hm rfl (by decide) (by decide) ?_
      rw [State.effect_acceptPath]
      exact State.acceptPath_ports s.fresh
  case read =>
    have word : (s.fresh.readVal .timeTtLo 0 0).toNat = s.tt % 2 ^ 32 := natWord_toNat s.tt
    refine completes_getReg rfl timeTtLo_at rfl hm ⟨rfl, rfl, ?_⟩
    rw [word]
    rfl
  case rtc => exact completes_fresh (f := State.rtcSet) rfl (State.rtcSet_sets (s := s.fresh) hq)

end Sys2Proof.Machine
end

section
/-!
PROOFS. The Ethernet switch: admission to the packet buffer and what its operations leave unchanged (R442, R446 to R448, R453, R455).
-/
namespace Sys2Proof.Machine
open Sys2Proof

/-! ### Discards -/

/-- A frame received on a port is discarded, with the port's counters (R444, R462). -/
structure State.Drops (s t : State) (i cause : Nat) : Prop where
  net : t.net = s.net
  received : Table.get 0 t.cnt.value (168 + i) = (Table.get 0 s.cnt.value (168 + i) + 1) % 2 ^ 48
  dropped : Table.get 0 t.cnt.value (178 + 8 * i + (cause - 1)) = (Table.get 0 s.cnt.value (178 + 8 * i + (cause - 1)) + 1) % 2 ^ 48

section
variable {i cause : Nat} (hi : i < 5) (hc : cause ≤ 8)
include hi hc

theorem State.drops_netDrop (s : State) : s.Drops ((s.count (168 + i)).netDrop i cause) i cause := by
  refine ⟨rfl, ?_, ?_⟩
  · exact (State.count_other (s.count (168 + i)) 1 (by omega)).1.trans (s.count_at (168 + i) 1).1
  · rw [State.netDrop, (State.count_at (s.count (168 + i)) _ 1).1, (s.count_other 1 (by omega)).1]

theorem State.Drops.raiseRated {s t : State} (h : s.Drops t i cause) (code inst field : Nat) (vals : List Byte) : s.Drops (t.raiseRated code inst field vals) i cause where
  net := (State.raiseRated_net ..).trans h.net
  received := (State.raiseRated_counter _ _ _ _ _ (by omega)).trans h.received
  dropped := (State.raiseRated_counter _ _ _ _ _ (by omega)).trans h.dropped

end

/-! ### Admission (R447, R453) -/

theorem State.admitFrame_cases (s : State) (f : NetFrame) (p : Nat) : (∃ m sh, s.admitFrame f p = (s, some (p, m, sh)) ∧ m + sh = cellsOf f.len) ∨
    ∃ cause code, s.admitFrame f p = ((s.netDrop p cause).raiseRated code p 0, none) := by
  unfold State.admitFrame
  extract_lets n used m sh
  split
  · split
    · exact .inl ⟨n, 0, rfl, rfl⟩
    · exact .inr ⟨_, _, rfl⟩
  · split
    · exact .inr ⟨_, _, rfl⟩
    · split
      · exact .inl ⟨m, sh, rfl, Nat.add_sub_of_le (Nat.min_le_left _ _)⟩
      · exact .inr ⟨_, _, rfl⟩

theorem State.admitFrame_net (s : State) (f : NetFrame) (p : Nat) : (s.admitFrame f p).1.net = s.net := by
  rcases s.admitFrame_cases f p with ⟨m, sh, h, -⟩ | ⟨cause, code, h⟩
  · rw [h]
  · rw [h]
    exact State.raiseRated_net ..

/-- A frame that is admitted leaves the state as it was. -/
theorem State.admitFrame_some {s : State} {f : NetFrame} {p : Nat} {c : Nat × Nat × Nat} (h : (s.admitFrame f p).2 = some c) :
    s.admitFrame f p = (s, some c) ∧ c.1 = p := by
  rcases s.admitFrame_cases f p with ⟨m, sh, eq, -⟩ | ⟨cause, code, eq⟩
  · rw [eq] at h ⊢
    cases h
    exact ⟨rfl, rfl⟩
  · rw [eq] at h
    cases h

theorem State.admitFrame_classA (s : State) {f : NetFrame} (p : Nat) (h : f.cls = 0) :
    (s.admitFrame f p).2 = some (p, cellsOf f.len, 0) ↔ s.reserveUsed + cellsOf f.len ≤ 1024 ∧ s.aHeld p < s.aDepth p := by
  unfold State.admitFrame
  dsimp only
  rw [if_pos h]
  split
  · next fits => exact iff_of_true rfl fits
  · next full => exact iff_of_false nofun full

theorem State.admitFrame_refused {s : State} {f : NetFrame} {p : Nat} (h : f.cls ≠ 0) (hr : (s.rf .netLowMax 0 10 0 < f.len ∧ s.rb .netPCfg p 3 = true) ∨
    (s.rb .netPGclCfg p 0 = true ∧ s.everFits p f.cls (s.txTicks p f.len) = false)) : (s.admitFrame f p).2 = none := by
  have refused : (s.rf .netLowMax 0 10 0 < f.len ∧ s.rb .netPCfg p 3 = true) ∨ (s.rb .netPGclCfg p 0 = true ∧ (!s.everFits p f.cls (s.txTicks p f.len)) = true) :=
    hr.imp id fun ⟨hg, hf⟩ => ⟨hg, by rw [hf]; rfl⟩
  unfold State.admitFrame
  dsimp only
  rw [if_neg h, if_pos refused]

theorem State.admitFrame_cells {s : State} {f : NetFrame} {p m sh : Nat} (h : (s.admitFrame f p).2 = some (p, m, sh)) : m + sh = cellsOf f.len := by
  rcases s.admitFrame_cases f p with ⟨m', sh', eq, cells⟩ | ⟨cause, code, eq⟩
  · rw [eq] at h
    cases h
    exact cells
  · rw [eq] at h
    cases h

/-- The admission of a frame to a list of ports: the state and the charges. -/
def State.admitAll (s : State) (f : NetFrame) (dests : List Nat) : State × List (Nat × Nat × Nat) :=
  dests.foldl (fun (a : State × List (Nat × Nat × Nat)) p =>
    let t := a.1.admitFrame f p
    (t.1, match t.2 with
      | some c => a.2 ++ [c]
      | none => a.2)) (s, [])

theorem State.admitAll_net (s : State) (f : NetFrame) (dests : List Nat) : (s.admitAll f dests).1.net = s.net := by
  unfold State.admitAll
  refine List.foldlRecOn dests _ (motive := fun a : State × List (Nat × Nat × Nat) => a.1.net = s.net) rfl fun a ha p _ => ?_
  exact (State.admitFrame_net _ _ _).trans ha

theorem State.admitAll_one {s : State} {f : NetFrame} {p : Nat} {c : Nat × Nat × Nat} (h : (s.admitFrame f p).2 = some c) : s.admitAll f [p] = (s, [c]) := by
  obtain ⟨eq, -⟩ := State.admitFrame_some h
  unfold State.admitAll
  rw [List.foldl_cons, List.foldl_nil]
  dsimp only
  rw [eq]
  rfl

/-! ### What the operations of a port leave -/

/-- The parts of the ports that admission, credit and PAUSE leave. -/
structure State.SamePortState (s t : State) : Prop where
  meters : ∀ j, (t.port j).spent = (s.port j).spent ∧ (t.port j).spentAt = (s.port j).spentAt
  link : ∀ j, (t.port j).link = (s.port j).link
  sending : ∀ j, (t.port j).sending = (s.port j).sending

theorem State.SamePortState.refl (s : State) : s.SamePortState s := ⟨fun _ => ⟨rfl, rfl⟩, fun _ => rfl, fun _ => rfl⟩

theorem State.SamePortState.trans {s t u : State} (h : s.SamePortState t) (k : t.SamePortState u) : s.SamePortState u :=
  ⟨fun j => ⟨(k.meters j).1.trans (h.meters j).1, (k.meters j).2.trans (h.meters j).2⟩, fun j => (k.link j).trans (h.link j), fun j => (k.sending j).trans (h.sending j)⟩

theorem State.SamePortState.of_ports {s t : State} (h : t.net.ports = s.net.ports) : s.SamePortState t := by
  have port (j : Nat) : t.port j = s.port j := by rw [State.port, h, State.port]
  exact ⟨fun j => by rw [port]; exact ⟨rfl, rfl⟩, fun j => by rw [port], fun j => by rw [port]⟩

theorem State.SamePortState.of_net {s t : State} (h : t.net = s.net) : s.SamePortState t := .of_ports (by rw [h])

/-- A port that is changed in other fields. -/
theorem State.setPort_same (s : State) (i : Nat) {q : NetPort} (h : (q.spent = (s.port i).spent ∧ q.spentAt = (s.port i).spentAt) ∧ q.link = (s.port i).link ∧
    q.sending = (s.port i).sending) : s.SamePortState (s.setPort i q) := by
  obtain ⟨meters, link, sending⟩ := h
  refine ⟨fun j => ?_, fun j => ?_, fun j => ?_⟩
  all_goals
    rw [State.port_setPort]
    split
  · next e => rw [e]; exact meters
  · exact ⟨rfl, rfl⟩
  · next e => rw [e]; exact link
  · rfl
  · next e => rw [e]; exact sending
  · rfl

theorem State.syncCredit_same (s : State) (p : Nat) : s.SamePortState (s.syncCredit p) := s.setPort_same p ⟨⟨rfl, rfl⟩, rfl, rfl⟩

theorem State.judgePause_same (s : State) (i : Nat) : s.SamePortState (s.judgePause i) := by
  have on : s.SamePortState (s.setPort i { s.port i with xoff := true, pauseSent := s.lt }) := s.setPort_same i ⟨⟨rfl, rfl⟩, rfl, rfl⟩
  have off : s.SamePortState (s.setPort i { s.port i with xoff := false }) := s.setPort_same i ⟨⟨rfl, rfl⟩, rfl, rfl⟩
  unfold State.judgePause
  extract_lets n q x
  split
  · exact .refl s
  · split
    · exact on.trans (.of_net (State.raise_net _ _ _ _))
    · split
      · exact off.trans (.of_net rfl)
      · exact .refl s

/-- Of the switch, only the ports are changed. -/
def State.OnlyPorts (s t : State) : Prop := ∃ ports, t.net = { s.net with ports := ports }

theorem State.OnlyPorts.refl (s : State) : s.OnlyPorts s := ⟨_, rfl⟩

theorem State.OnlyPorts.trans {s t u : State} : s.OnlyPorts t → t.OnlyPorts u → s.OnlyPorts u := by
  rintro ⟨p, hp⟩ ⟨q, hq⟩
  exact ⟨q, by rw [hq, hp]⟩

theorem State.setPort_only (s : State) (i : Nat) (q : NetPort) : s.OnlyPorts (s.setPort i q) := ⟨_, rfl⟩

/-- The judgement of PAUSE changes the port's PAUSE alone. -/
theorem State.judgePause_only (s : State) (i : Nat) : s.OnlyPorts (s.judgePause i) := by
  unfold State.judgePause
  extract_lets n q x
  split
  · exact .refl s
  · split
    · exact ⟨_, State.raise_net _ _ _ _⟩
    · split
      · exact ⟨_, rfl⟩
      · exact .refl s

theorem State.judgePause_other {s : State} {i : Nat} (h2 : i ≠ 2) (h3 : i ≠ 3) : s.judgePause i = s := if_pos (by simp [h2, h3])

/-- A frame is put in the buffer with its charges. -/
def State.buffered (s : State) (f : NetFrame) (cs : List (Nat × Nat × Nat)) : State :=
  { s with net := { s.net with frames := s.net.frames ++ [{ f with id := s.net.nextId, ports := cs.map (·.1), charges := cs }], nextId := s.net.nextId + 1 } }

/-- A frame enters the queue of its class on a port. -/
def State.classQueued (s : State) (cls id p : Nat) : State := s.modPort p (fun q => { q with queues := Table.modify [] q.queues cls (fun l => l ++ [id]) })

theorem State.store_eq (s : State) (f : NetFrame) (dests : List Nat) : s.store f dests =
    if (s.admitAll f dests).2 = [] then (s.admitAll f dests).1
    else
      let ports := (s.admitAll f dests).2.map (·.1)
      let x := forEach ports State.syncCredit (s.admitAll f dests).1
      (forEach ports (fun y p => y.classQueued f.cls x.net.nextId p) (x.buffered f (s.admitAll f dests).2)).judgePause f.ingress := rfl

theorem State.store_same (s : State) (f : NetFrame) (dests : List Nat) : s.SamePortState (s.store f dests) := by
  have admitted : s.SamePortState (s.admitAll f dests).1 := .of_net (s.admitAll_net f dests)
  rw [State.store_eq]
  split
  · exact admitted
  · extract_lets ports x
    have credited : s.SamePortState x := forEach_keeps (P := s.SamePortState) (fun y p h => h.trans (y.syncCredit_same p)) _ _ admitted
    have buffered : s.SamePortState (x.buffered f (s.admitAll f dests).2) := credited.trans (.of_ports rfl)
    refine .trans (forEach_keeps (P := s.SamePortState) ?_ _ _ buffered) (State.judgePause_same _ _)
    exact fun y p h => h.trans (y.setPort_same p ⟨⟨rfl, rfl⟩, rfl, rfl⟩)

/-- The buffer and the ports alone change as a frame is stored. -/
theorem State.store_net (s : State) (f : NetFrame) (dests : List Nat) : ∃ ports frames id,
    (s.store f dests).net = { s.net with ports := ports, frames := frames, nextId := id } := by
  rw [State.store_eq]
  split
  · exact ⟨_, _, _, s.admitAll_net f dests⟩
  · extract_lets ports x
    have credited : (s.admitAll f dests).1.OnlyPorts x :=
      forEach_keeps (P := (s.admitAll f dests).1.OnlyPorts) (fun y p h => h.trans (y.setPort_only p _)) _ _ (.refl _)
    have entered : (x.buffered f (s.admitAll f dests).2).OnlyPorts
        (forEach ports (fun y p => y.classQueued f.cls x.net.nextId p) (x.buffered f (s.admitAll f dests).2)) :=
      forEach_keeps (P := (x.buffered f (s.admitAll f dests).2).OnlyPorts) (fun y p h => h.trans (y.setPort_only p _)) _ _ (.refl _)
    obtain ⟨p, hp⟩ := credited
    obtain ⟨q, hq⟩ := entered.trans (State.judgePause_only _ f.ingress)
    refine ⟨q, (x.buffered f (s.admitAll f dests).2).net.frames, (x.buffered f (s.admitAll f dests).2).net.nextId, hq.trans ?_⟩
    rw [State.buffered, hp, s.admitAll_net]

end Sys2Proof.Machine
end

section
/-!
PROOFS. The Ethernet switch: learning, forwarding and reception (R438 to R448).
-/
namespace Sys2Proof.Machine
open Sys2Proof

/-! ### Learning and forwarding -/

/-- Learning changes the address table alone. -/
theorem State.learn__net (s : State) (vid sa i : Nat) : (∃ macs, (s.learn_ vid sa i).net = { s.net with macs := macs }) ∧ (s.learn_ vid sa i).regs = s.regs := by
  unfold State.learn_
  split
  · exact ⟨⟨_, rfl⟩, rfl⟩
  · extract_lets port hit
    split
    · exact ⟨⟨_, rfl⟩, rfl⟩
    · split
      · exact ⟨⟨_, rfl⟩, rfl⟩
      · exact ⟨⟨_, State.raise_net _ _ _ _⟩, State.raise_regs _ _ _ _⟩

theorem State.learn__same (s : State) (vid sa i : Nat) : s.SamePortState (s.learn_ vid sa i) := by
  obtain ⟨⟨macs, h⟩, -⟩ := s.learn__net vid sa i
  exact .of_ports (by rw [h])

theorem State.noteProxy_same (s : State) (sa : Nat) : s.SamePortState (s.noteProxy sa).1 := by
  unfold State.noteProxy
  split
  · exact .of_ports rfl
  · split
    · exact .of_ports rfl
    · exact .of_net (State.raise_net _ _ _ _)

theorem State.supReturn_same (s : State) (i : Nat) : s.SamePortState (s.supReturn i) := by
  unfold State.supReturn
  extract_lets x
  split
  · exact .of_ports ((congrArg Network.ports (State.raise_net _ _ _ _)).trans rfl)
  · exact .of_ports rfl

theorem State.forward_same (s : State) (f : NetFrame) : s.SamePortState (s.forward f) := by
  have entered (dups : List HsrEntry) : s.SamePortState { s with net := { s.net with dups := dups } } := .of_ports rfl
  have tagged (x : State) (seq : Nat) : x.SamePortState { x with net := { x.net with hsrSeq := seq } } := .of_ports rfl
  unfold State.forward
  extract_lets i base keep x ring toRing rest r q y
  split
  · exact s.store_same f _
  · split
    · split
      · split
        · exact s.supReturn_same i
        · exact .refl s
      · split
        · exact s.store_same f _
        · next q _ =>
          split
          · exact .refl s
          · exact (entered _).trans (State.store_same _ f _)
    · split
      · exact s.store_same f _
      · have noted : s.SamePortState r.1 := by
          show s.SamePortState (if i = 4 then (s, true) else s.noteProxy f.sa).1
          split
          · exact .refl s
          · exact s.noteProxy_same f.sa
        split
        · exact (noted.trans (tagged r.1 _)).trans (State.store_same _ _ _)
        · exact noted.trans (State.store_same _ _ _)

/-! ### Reception -/

section
variable {s : State} {i : Nat} {b : List Byte} (cls : Nat) (hup : s.portUp i = true)
include hup

theorem State.frameReceive_damaged {fcs : Bool} (h : fcs = false ∨ b.length + 4 < 64) : s.frameReceive i b fcs cls = (s.count (168 + i)).netDrop i 1 := by
  have bad : (!fcs) = true ∨ b.length + 4 < 64 := h.imp (fun h => by rw [h]; rfl) id
  unfold State.frameReceive
  rw [if_neg (by rw [hup]; exact nofun)]
  exact if_pos bad

theorem State.frameReceive_oversize (h : 1528 < b.length + 4) : s.frameReceive i b true cls = (s.count (168 + i)).oversize i 3 := by
  have whole : ¬ ((!true) = true ∨ b.length + 4 < 64) := by simp; omega
  unfold State.frameReceive
  rw [if_neg (by rw [hup]; exact nofun)]
  exact (if_neg whole).trans (if_pos h)

/-- What is done with a frame of a VLAN that has passed the checks of its length. -/
def State.classify (s : State) (i : Nat) (p : Parsed) (vid pcp len cls : Nat) : State :=
  if i ≠ 4 ∧ !s.vlanMember vid i then s.netDrop i 2
  else if beAt p.body 0 2 = 0x8808 then (if i < 4 ∧ beAt p.body 2 2 = 1 then s.pauseReceive i (beAt p.body 4 2) else s)
  else if i ≠ 4 ∧ beAt p.body 0 2 = 0x88F7 ∧ !ptpKnown (ptpType (p.body.drop 2)) then s.ptpDiscard i
  else if i ≠ 4 ∧ beAt p.body 0 2 = 0x88F7 ∧ !ptpForwarded (ptpType (p.body.drop 2)) then s.learn_ vid p.sa i
  else
    let c := if i = 4 then cls else s.classOf pcp (beAt p.body 0 2)
    let r := if i ≠ 4 ∧ c = 0 then s.police i p vid len else (s, some c)
    match r.2 with
    | none => r.1
    | some c' => (r.1.learn_ vid p.sa i).forward (frameOf p vid pcp len i c' s.lt)

theorem State.frameReceive_tagged {tci : Nat} (hl : 64 ≤ b.length + 4) (hh : b.length + 4 ≤ 1528) (ht : (parseFrame b).tci = some tci) (hv : tci % 4096 ≠ 0)
    (hr : (parseFrame b).hsr = none) (he : 0x0600 ≤ beAt (parseFrame b).body 0 2) :
    s.frameReceive i b true cls = (s.count (168 + i)).classify i (parseFrame b) (tci % 4096) (tci / 8192) (b.length + 4) cls := by
  have whole : ¬ ((!true) = true ∨ b.length + 4 < 64) := by simp; omega
  have short : ¬ 1528 < b.length + 4 := Nat.not_lt.2 hh
  have type : ¬ (beAt (parseFrame b).body 0 2 < 0x0600 ∧ (parseFrame b).body.length - 2 < beAt (parseFrame b).body 0 2) := fun h => Nat.not_lt.2 he h.1
  unfold State.frameReceive
  rw [if_neg (by rw [hup]; exact nofun)]
  extract_lets x len p ety pay vid pcp c r
  rw [if_neg whole, if_neg short, if_neg type]
  have tag : vid = tci % 4096 := by
    show (match (parseFrame b).tci with | some t => if t % 4096 = 0 then _ else _ | none => _) = _
    rw [ht]
    exact if_neg hv
  have prio : pcp = tci / 8192 := by
    show (match (parseFrame b).tci with | some t => t / 8192 | none => _) = _
    rw [ht]
  clear_value vid pcp
  subst tag prio
  split
  · next tagged =>
    have none : p.hsr = none := hr
    rw [none] at tagged
    exact absurd tagged nofun
  · rfl

end

end Sys2Proof.Machine
end

section
/-!
PROOFS. The Ethernet switch: the policing of class A, and the way of a frame of the controller itself (R444, R445, R448).
-/
namespace Sys2Proof.Machine
open Sys2Proof

section
variable {s : State} {i : Nat} {p : Parsed} {vid : Nat} (pcp len cls : Nat)

theorem State.classify_nonmember (hi : i ≠ 4) (hm : s.vlanMember vid i = false) : s.classify i p vid pcp len cls = s.netDrop i 2 :=
  if_pos ⟨hi, by rw [hm]; rfl⟩

/-- A frame that is neither of MAC control nor of PTP. -/
theorem State.classify_plain (hm : i = 4 ∨ s.vlanMember vid i = true) (hc : beAt p.body 0 2 ≠ 0x8808) (ht : beAt p.body 0 2 ≠ 0x88F7) :
    s.classify i p vid pcp len cls =
      let c := if i = 4 then cls else s.classOf pcp (beAt p.body 0 2)
      let r := if i ≠ 4 ∧ c = 0 then s.police i p vid len else (s, some c)
      match r.2 with
      | none => r.1
      | some c' => (r.1.learn_ vid p.sa i).forward (frameOf p vid pcp len i c' s.lt) := by
  have member : ¬ (i ≠ 4 ∧ (!s.vlanMember vid i) = true) := by
    rintro ⟨hi, hn⟩
    rcases hm with h | h
    · exact hi h
    · rw [h] at hn; cases hn
  unfold State.classify
  exact (if_neg member).trans ((if_neg hc).trans ((if_neg fun h => ht h.2.1).trans ((if_neg fun h => ht h.2.1).trans rfl)))

theorem State.classify_policed (hi : i < 4) (hm : s.vlanMember vid i = true) (hc : beAt p.body 0 2 ≠ 0x8808) (ht : beAt p.body 0 2 ≠ 0x88F7)
    (ha : s.classOf pcp (beAt p.body 0 2) = 0) : s.classify i p vid pcp len cls = match (s.police i p vid len).2 with
      | none => (s.police i p vid len).1
      | some c' => ((s.police i p vid len).1.learn_ vid p.sa i).forward (frameOf p vid pcp len i c' s.lt) := by
  have ring : i ≠ 4 := Nat.ne_of_lt hi
  rw [State.classify_plain pcp len cls (.inr hm) hc ht, if_neg ring, ha]
  dsimp only
  rw [if_pos ⟨ring, rfl⟩]

theorem State.classify_own (hi : i = 4) (hc : beAt p.body 0 2 ≠ 0x8808) (ht : beAt p.body 0 2 ≠ 0x88F7) :
    s.classify i p vid pcp len cls = (s.learn_ vid p.sa i).forward (frameOf p vid pcp len i cls s.lt) := by
  rw [State.classify_plain pcp len cls (.inl hi) hc ht, if_pos hi]
  dsimp only
  rw [if_neg fun h => h.1 hi]

end

/-! ### Policing -/

section
variable {s : State} {i k : Nat} {p : Parsed} {vid len : Nat} (hk : s.filterOf i p.da vid = some k)
include hk

theorem State.police_drops (h : fld (s.reg .netSfSdu i k) 10 0 < len ∨ 200000 * fld (s.reg .netSfMeter i k) 31 16 < s.spentNow i k + 200000 * len) :
    s.police i p vid len = ((s.netDrop i 4).raiseRated 0xB005 i 0, none) := by
  unfold State.police
  rw [hk]
  exact if_pos h

theorem State.police_passes (hl : len ≤ fld (s.reg .netSfSdu i k) 10 0) (hm : s.spentNow i k + 200000 * len ≤ 200000 * fld (s.reg .netSfMeter i k) 31 16) :
    ∃ x : State, s.police i p vid len = (x, some 0) ∧ Table.get 0 (x.port i).spent k = s.spentNow i k + 200000 * len ∧ Table.get 0 (x.port i).spentAt k = s.lt := by
  have fits : ¬ (fld (s.reg .netSfSdu i k) 10 0 < len ∨ 200000 * fld (s.reg .netSfMeter i k) 31 16 < s.spentNow i k + 200000 * len) :=
    fun h => h.elim (Nat.not_lt.2 hl) (Nat.not_lt.2 hm)
  unfold State.police
  rw [hk]
  dsimp only
  rw [if_neg fits]
  refine ⟨_, rfl, ?_⟩
  rw [State.modPort_eq, State.port_setPort, if_pos rfl]
  exact ⟨Table.get_set_self _ _ _ _, Table.get_set_self _ _ _ _⟩

end

/-- A class A frame that its meter lets pass has been metered. -/
theorem State.classify_meters {s : State} {i k : Nat} {p : Parsed} {vid pcp len : Nat} (cls : Nat) (hi : i < 4) (hm : s.vlanMember vid i = true)
    (hc : beAt p.body 0 2 ≠ 0x8808) (ht : beAt p.body 0 2 ≠ 0x88F7) (ha : s.classOf pcp (beAt p.body 0 2) = 0) (hk : s.filterOf i p.da vid = some k)
    (hl : len ≤ fld (s.reg .netSfSdu i k) 10 0) (hf : s.spentNow i k + 200000 * len ≤ 200000 * fld (s.reg .netSfMeter i k) 31 16) :
    let t := s.classify i p vid pcp len cls
    Table.get 0 (t.port i).spent k = s.spentNow i k + 200000 * len ∧ Table.get 0 (t.port i).spentAt k = s.lt := by
  obtain ⟨x, eq, spent, at_⟩ := State.police_passes hk hl hf
  have same : x.SamePortState (s.classify i p vid pcp len cls) := by
    rw [State.classify_policed pcp len cls hi hm hc ht ha, eq]
    exact (x.learn__same vid p.sa i).trans (State.forward_same _ _)
  obtain ⟨spent', at'⟩ := same.meters i
  dsimp only
  rw [spent', at']
  exact ⟨spent, at_⟩

/-! ### The way of a frame to one port -/

theorem State.syncCredit_queue (s : State) (p c : Nat) : (s.syncCredit p).netQueue p c = s.netQueue p c := by
  unfold State.syncCredit State.netQueue
  rw [State.port_setPort, if_pos rfl]

theorem State.classQueued_queue (s : State) (cls id p : Nat) : (s.classQueued cls id p).netQueue p cls = s.netQueue p cls ++ [id] := by
  unfold State.classQueued State.netQueue
  rw [State.modPort_eq, State.port_setPort, if_pos rfl]
  exact Table.get_set_self _ _ _ _

/-- A frame of the controller that one port admits stands at the end of its queue (R448). -/
theorem State.store_one {s : State} {f : NetFrame} {p : Nat} {c : Nat × Nat × Nat} (h : (s.admitFrame f p).2 = some c) (hi : f.ingress = 4) : let t := s.store f [p]
    t.netQueue p f.cls = s.netQueue p f.cls ++ [s.net.nextId] ∧ t.net.nextId = s.net.nextId + 1 ∧
    t.net.frames = s.net.frames ++ [{ f with id := s.net.nextId, ports := [p], charges := [c] }] := by
  obtain ⟨-, port⟩ := State.admitFrame_some h
  have eq : s.store f [p] = ((s.syncCredit p).buffered f [c]).classQueued f.cls s.net.nextId p := by
    rw [State.store_eq, State.admitAll_one h, if_neg (List.cons_ne_nil _ _), List.map_singleton, port]
    exact State.judgePause_other (by rw [hi]; decide) (by rw [hi]; decide)
  have queue : ((s.syncCredit p).buffered f [c]).netQueue p f.cls = s.netQueue p f.cls := s.syncCredit_queue p f.cls
  have frames : ((s.syncCredit p).buffered f [c]).net.frames = s.net.frames ++ [{ f with id := s.net.nextId, ports := [p], charges := [c] }] := by
    rw [← port]; rfl
  dsimp only
  rw [eq, State.classQueued_queue, queue]
  exact ⟨rfl, rfl, frames⟩

theorem State.forward_own {s : State} {f : NetFrame} {q : Nat} (hh : s.hsrOn = false) (hd : s.dests f.vid f.da f.ingress = [q]) (ht : beAt f.body 0 2 ≠ 0x88F7) :
    s.forward f = s.store f [q] := by
  have passes : ptpPasses f q = true := by simp [ptpPasses, ht]
  unfold State.forward
  dsimp only
  rw [if_pos (by rw [hh]; rfl), hd, List.filter_cons_of_pos passes, List.filter_nil]

end Sys2Proof.Machine
end

section
/-!
PROOFS. The Ethernet switch: transmission and gates (R447, R448, R450, R452).
-/
namespace Sys2Proof.Machine
open Sys2Proof

/-- The head of the class A queue may always start (R450). -/
theorem State.mayStart_classA (s : State) (p : Nat) : s.mayStart p 0 = true ↔ ∃ id rest f, s.netQueue p 0 = id :: rest ∧ s.frame? id = some f := by
  have free : s.gateOpen p 0 = true := rfl
  have fits (n : Nat) : s.gateFits p 0 n = true := if_pos (.inl rfl)
  unfold State.mayStart
  cases queue : s.netQueue p 0 with
  | nil => exact iff_of_false nofun (by rintro ⟨id, rest, f, h, -⟩; cases h)
  | cons id rest =>
    dsimp only
    cases frame : s.frame? id with
    | none =>
      refine iff_of_false nofun ?_
      rintro ⟨id', rest', f, h, hf⟩
      cases h
      rw [frame] at hf
      cases hf
    | some f =>
      refine iff_of_true ?_ ⟨id, rest, f, rfl, frame⟩
      dsimp only
      rw [free, fits]
      rfl

/-- What leaves a port rests on the registers and the clock. -/
theorem State.egress_congr {s x : State} (hr : x.regs = s.regs) (ht : x.time = s.time) (p : Nat) (f : NetFrame) :
    x.egressBytes p (x.correctSync f) = s.egressBytes p (s.correctSync f) := by
  have sync : x.correctSync f = s.correctSync f := by rw [State.correctSync, State.lt, State.ptpPort, ht, State.correctSync, State.lt, State.ptpPort]
  have vlan (vid : Nat) : x.vlanOf vid = s.vlanOf vid := by
    unfold State.vlanOf
    simp only [State.rf_congr hr]
  have on : x.hsrOn = s.hsrOn := State.rb_congr hr ..
  rw [sync]
  unfold State.egressBytes
  rw [vlan, on]
  simp only [State.rb_congr hr]

section
variable {s : State} {p c id : Nat} {rest : List Nat} {f : NetFrame}

/-- A frame that has started on a port. -/
def State.started (s : State) (p c id : Nat) (rest : List Nat) (f : NetFrame) : State :=
  let x := s.syncCredit p
  x.modPort p (fun q => { q with queues := Table.set [] q.queues c rest, sending := some ⟨id, c, f.len, x.lt + x.txTicks p f.len⟩ })

theorem State.txTicks_syncCredit (s : State) (p len : Nat) : (s.syncCredit p).txTicks p len = s.txTicks p len := by
  rw [State.txTicks, State.byteTicks, (s.syncCredit_same p).link, State.txTicks, State.byteTicks]

theorem State.started_port (s : State) (p c id : Nat) (rest : List Nat) (f : NetFrame) :
    ((s.started p c id rest f).port p).sending = some ⟨id, c, f.len, s.lt + s.txTicks p f.len⟩ ∧ (s.started p c id rest f).netQueue p c = rest := by
  unfold State.started State.netQueue
  dsimp only
  rw [State.modPort_eq, State.port_setPort, if_pos rfl, State.txTicks_syncCredit]
  exact ⟨rfl, Table.get_set_self _ _ _ _⟩

theorem State.txStart_starts (hup : s.portUp p = true) (hs : (s.port p).sending = none) (hc : [0, 1, 2, 3].find? ((s.syncCredit p).mayStart p) = some c)
    (hq : s.netQueue p c = id :: rest) (hf : s.frame? id = some f) : ∃ x : State, s.txStart p = x.emit (.netFrame p (x.egressBytes p (x.correctSync f))) ∧
      x.net = (s.started p c id rest f).net ∧ x.regs = s.regs ∧ x.time = s.time ∧ x.outs = s.outs := by
  have queue : (s.syncCredit p).netQueue p c = id :: rest := (s.syncCredit_queue p c).trans hq
  have frame : (s.syncCredit p).frame? id = some f := hf
  unfold State.txStart
  rw [when_of (by rw [hup, hs]; rfl)]
  dsimp only
  rw [hc]
  dsimp only
  rw [queue]
  dsimp only
  rw [frame]
  refine ⟨_, rfl, ?_⟩
  split
  · exact ⟨rfl, rfl, rfl, rfl⟩
  · exact ⟨rfl, rfl, rfl, rfl⟩

/-- The frame at the head of the class that may start is in transmission, and its bytes leave (R450). -/
theorem State.txStart_sends (hup : s.portUp p = true) (hs : (s.port p).sending = none) (hc : [0, 1, 2, 3].find? ((s.syncCredit p).mayStart p) = some c)
    (hq : s.netQueue p c = id :: rest) (hf : s.frame? id = some f) : let t := s.txStart p
    (t.port p).sending = some ⟨id, c, f.len, s.lt + s.txTicks p f.len⟩ ∧ t.netQueue p c = rest ∧
    t.outs = s.outs ++ [.netFrame p (s.egressBytes p (s.correctSync f))] ∧ t.net.frames = s.net.frames := by
  obtain ⟨x, eq, net, regs, time, outs⟩ := State.txStart_starts hup hs hc hq hf
  obtain ⟨sending, queue⟩ := s.started_port p c id rest f
  have port : (x.emit (.netFrame p (x.egressBytes p (x.correctSync f)))).port p = (s.started p c id rest f).port p := by
    rw [State.port, State.emit_net, net, State.port]
  dsimp only
  rw [eq, State.netQueue, port, State.emit_outs, State.egress_congr regs time, outs]
  have frames : x.net.frames = s.net.frames := by rw [net]; rfl
  exact ⟨sending, queue, rfl, frames⟩

end

/-! ### The end of a transmission -/

/-- What a port that has sent a frame leaves of it in the buffer (R447). -/
def NetFrame.sentOn (id p : Nat) (f : NetFrame) : Option NetFrame :=
  if f.id = id then (if f.ports = [p] then none else some { f with ports := f.ports.filter (fun k => k != p) }) else some f

theorem NetFrame.sentOn_ports {id p : Nat} {f g : NetFrame} (h : f.sentOn id p = some g) (hg : g.id = id) : p ∉ g.ports := by
  unfold NetFrame.sentOn at h
  split at h
  · split at h
    · cases h
    · cases h
      simp
  · next other =>
    cases h
    exact absurd hg other

theorem NetFrame.sentOn_other {id p : Nat} {f : NetFrame} (h : f.id ≠ id) : f.sentOn id p = some f := if_neg h

/-- A transmission has ended on a port, at an instant. -/
def State.sentAt (s : State) (due : Ticks) (p id : Nat) : State :=
  let x := ((s.passTo due).syncCredit p).count (173 + p)
  State.modPort { x with net := { x.net with frames := x.net.frames.filterMap (NetFrame.sentOn id p) } } p (fun q => { q with sending := none })

theorem State.txEnd_eq {s : State} {p : Nat} {x : Sending} (h : (s.port p).sending = some x) : s.txEnd p = s.sentAt x.ends p x.id ∨
    ∃ i, s.txEnd p = (s.sentAt x.ends p x.id).judgePause i := by
  unfold State.txEnd
  rw [h]
  dsimp only
  split
  · exact .inr ⟨_, rfl⟩
  · exact .inl rfl

theorem State.sentAt_sent (s : State) (due : Ticks) (p id : Nat) : due ≤ (s.sentAt due p id).time.lt ∧ ((s.sentAt due p id).port p).sending = none ∧
    (s.sentAt due p id).net.frames = s.net.frames.filterMap (NetFrame.sentOn id p) := by
  refine ⟨State.le_passTo_lt s due, ?_, ?_⟩
  · unfold State.sentAt
    dsimp only
    rw [State.modPort_eq, State.port_setPort, if_pos rfl]
  · have frames : ((s.passTo due).syncCredit p).net.frames = s.net.frames :=
      (rfl : _ = (s.passTo due).net.frames).trans (congrArg Network.frames (State.passTo_net s due))
    exact congrArg (List.filterMap (NetFrame.sentOn id p)) frames

theorem State.judgePause_keeps (s : State) (i : Nat) : (s.judgePause i).time = s.time ∧ (s.judgePause i).net.frames = s.net.frames := by
  obtain ⟨ports, net⟩ := s.judgePause_only i
  exact ⟨(State.judgePause_frame (w := Part.rcd ||| Part.cnt ||| Part.net ||| Part.outs) rfl (Frame.refl _ s)).time rfl, by rw [net]⟩

/-- As a transmission ends the port is free, and the frame stands in the buffer for its other ports alone (R447, R448). -/
theorem State.txEnd_ends {s : State} {p : Nat} {x : Sending} (h : (s.port p).sending = some x) : let t := s.txEnd p
    x.ends ≤ t.time.lt ∧ (t.port p).sending = none ∧ (∀ f ∈ t.net.frames, f.id = x.id → p ∉ f.ports) ∧ ∀ f ∈ s.net.frames, f.id ≠ x.id → f ∈ t.net.frames := by
  obtain ⟨late, free, frames⟩ := s.sentAt_sent x.ends p x.id
  obtain ⟨late, free, frames⟩ : x.ends ≤ (s.txEnd p).time.lt ∧ ((s.txEnd p).port p).sending = none ∧
      (s.txEnd p).net.frames = s.net.frames.filterMap (NetFrame.sentOn x.id p) := by
    rcases State.txEnd_eq h with eq | ⟨i, eq⟩
    · rw [eq]; exact ⟨late, free, frames⟩
    · obtain ⟨time, same⟩ := (s.sentAt x.ends p x.id).judgePause_keeps i
      rw [eq, time, (State.judgePause_same _ i).sending, same]
      exact ⟨late, free, frames⟩
  refine ⟨late, free, fun f hf hid => ?_, fun f hf hid => ?_⟩
  · rw [frames] at hf
    obtain ⟨g, -, hg⟩ := List.mem_filterMap.1 hf
    exact NetFrame.sentOn_ports hg hid
  · rw [frames]
    exact List.mem_filterMap.2 ⟨f, hf, NetFrame.sentOn_other hid⟩

/-! ### Gates -/

/-- An entry of the gate control list begins on a port, at a train time. -/
def State.gateAt (s : State) (p e : Nat) (at_ : TimeNs) : State :=
  let x := (s.passToTt at_).syncCredit p
  x.modPort p (fun q => { q with gateEntry := e, gates := (x.gclEntry p e).1, gateStart := at_ })

theorem State.gateAt_port (s : State) (p e : Nat) (at_ : TimeNs) : ((s.gateAt p e at_).port p).gateEntry = e ∧
    ((s.gateAt p e at_).port p).gates = (s.gclEntry p e).1 ∧ ((s.gateAt p e at_).port p).gateStart = at_ := by
  unfold State.gateAt
  dsimp only
  rw [State.modPort_eq, State.port_setPort, if_pos rfl]
  exact ⟨rfl, rfl, rfl⟩

section
variable {s : State} {p : Nat} (hg : s.rb .netPGclCfg p 0 = true) (hb : s.tt / s.gclCycle p * s.gclCycle p ≤ (s.port p).gateStart) (ha : (s.port p).gateStart ≤ s.tt)
include hg hb ha

theorem State.gclNext_next (h : (s.port p).gateEntry + 1 < s.gclLen p) :
    s.gclNext p = s.gateAt p ((s.port p).gateEntry + 1) ((s.port p).gateStart + (s.gclEntry p (s.port p).gateEntry).2) := by
  have fresh : decide (s.tt < (s.port p).gateStart ∨ (s.port p).gateStart < s.tt / s.gclCycle p * s.gclCycle p) = false :=
    decide_eq_false fun h => h.elim (Nat.not_lt.2 ha) (Nat.not_lt.2 hb)
  have inside : decide (s.gclLen p ≤ (s.port p).gateEntry + 1) = false := decide_eq_false (Nat.not_le.2 h)
  unfold State.gclNext
  rw [when_of hg]
  dsimp only
  rw [fresh, inside]
  rfl

theorem State.gclNext_restarts (h : s.gclLen p ≤ (s.port p).gateEntry + 1) :
    s.gclNext p = s.gateAt p 0 (nextMultiple (s.gclCycle p) ((s.port p).gateStart + 1)) := by
  have fresh : decide (s.tt < (s.port p).gateStart ∨ (s.port p).gateStart < s.tt / s.gclCycle p * s.gclCycle p) = false :=
    decide_eq_false fun h => h.elim (Nat.not_lt.2 ha) (Nat.not_lt.2 hb)
  have past : decide (s.gclLen p ≤ (s.port p).gateEntry + 1) = true := decide_eq_true h
  unfold State.gclNext
  rw [when_of hg]
  dsimp only
  rw [fresh, past]
  rfl

end

end Sys2Proof.Machine
end

section
/-!
PROOFS. The Ethernet switch: PAUSE, links, supervision and ageing; its commands complete with their effects (R437 to R456).
-/
namespace Sys2Proof.Machine
open Sys2Proof

/-! ### PAUSE -/

theorem State.pauseReceive_honoured {s : State} {i : Nat} (h : (i = 2 ∨ i = 3) ∧ s.rb .netPCfg i 5 = true) (hs : (s.port i).sending = none) (time : Nat) :
    (s.pauseReceive i time).port i = { s.port i with pausedUntil := if time = 0 then none else some (s.lt + 64 * s.byteTicks i * time) } := by
  unfold State.pauseReceive
  rw [if_pos h, hs, State.modPort_eq, State.port_setPort, if_pos rfl]
  rfl

theorem State.pauseReceive_ignored {s : State} {i : Nat} (h : ¬ ((i = 2 ∨ i = 3) ∧ s.rb .netPCfg i 5 = true)) (time : Nat) : (s.pauseReceive i time).net = s.net := by
  unfold State.pauseReceive
  rw [if_neg h]
  exact State.raise_net _ _ _ _

/-- A port's pause_time runs out. -/
def State.pauseEnds (s : State) (i : Nat) : State :=
  match (s.port i).pausedUntil with
  | some t => (s.passTo t).modPort i (fun q => { q with pausedUntil := none })
  | none => s

theorem State.pauseEnds_ends {s : State} {i : Nat} {t : Ticks} (h : (s.port i).pausedUntil = some t) :
    t ≤ (s.pauseEnds i).time.lt ∧ (s.pauseEnds i).port i = { s.port i with pausedUntil := none } := by
  unfold State.pauseEnds
  rw [h]
  dsimp only
  rw [State.modPort_eq, State.port_setPort, if_pos rfl, State.port_passTo]
  exact ⟨State.le_passTo_lt s t, rfl⟩

/-- PAUSE is sent again on a port, at an instant. -/
def State.pauseAgainAt (s : State) (due : Ticks) (i : Nat) : State :=
  let x := s.passTo due
  ((x.modPort i (fun q => { q with pauseSent := x.lt })).emit (.netFrame i (pauseFrame 0xFFFF))).count (220 + i)

theorem State.pauseAgainAt_sends (s : State) (due : Ticks) (i : Nat) : due ≤ (s.pauseAgainAt due i).time.lt ∧
    (s.pauseAgainAt due i).port i = { s.port i with pauseSent := (s.pauseAgainAt due i).time.lt } ∧
    (s.pauseAgainAt due i).outs = s.outs ++ [.netFrame i (pauseFrame 0xFFFF)] := by
  have port : ((s.passTo due).modPort i (fun q => { q with pauseSent := (s.passTo due).lt })).port i = { s.port i with pauseSent := (s.passTo due).lt } := by
    rw [State.modPort_eq, State.port_setPort, if_pos rfl, State.port_passTo]
  exact ⟨State.le_passTo_lt s due, port, congrArg (· ++ [Out.netFrame i (pauseFrame 0xFFFF)]) (State.passTo_outs s due)⟩

/-! ### Links -/

theorem State.linkUp_auto {s : State} {i : Nat} (hn : s.rb .netCfg 0 0 = true) (hp : s.rb .netPCfg i 0 = true) (ha : s.rf .netPCfg i 2 1 = 0) (fast : Bool) :
    ((s.linkUp i fast).port i).link = (if fast then 2 else 1) ∧ ((s.linkUp i fast).port i).aSlow = (!fast && s.rb .netPCfg i 3) := by
  let x : State := s.modPort i (fun q => { q with link := if fast then 2 else 1, aSlow := !fast && s.rb .netPCfg i 3, creditAt := s.lt })
  have port : x.port i = { s.port i with link := if fast then 2 else 1, aSlow := !fast && s.rb .netPCfg i 3, creditAt := s.lt } :=
    (s.port_setPort i i _).trans (if_pos rfl)
  have net : (s.linkUp i fast).net = x.net := by
    unfold State.linkUp
    rw [when_of (by rw [hn, hp]; rfl)]
    extract_lets adv g slow y
    have speed : g = fast := by
      show (if s.rf .netPCfg i 2 1 = 1 then true else if s.rf .netPCfg i 2 1 = 2 then false else fast) = fast
      rw [ha]
      rfl
    clear_value g
    subst speed
    split
    · exact (State.raiseRated_net ..).trans (State.raise_net _ _ _ _)
    · exact State.raise_net _ _ _ _
  rw [State.port, net]
  rw [State.port] at port
  rw [port]
  exact ⟨rfl, rfl⟩

/-- A link goes down on a port (R437). -/
def State.linkDown (s : State) (i : Nat) : State :=
  when_ ((s.port i).link != 0) (fun s => (s.modPort i (fun q => { q with link := 0, aSlow := false })).raise 0xB002 i) s

theorem State.linkDown_ends {s : State} {i : Nat} (h : (s.port i).link ≠ 0) : (s.linkDown i).port i = { s.port i with link := 0, aSlow := false } := by
  unfold State.linkDown
  rw [when_of (bne_iff_ne.2 h), State.port, State.raise_net]
  exact (s.port_setPort i i _).trans (if_pos rfl)

/-! ### Supervision -/

/-- A port that waits for no supervision frame waits for the one that leaves now (R440). -/
def State.supWatched (s : State) (p : Nat) : State :=
  if s.portUp p ∧ Table.get none s.net.supSent p = none then { s with net := { s.net with supSent := Table.set none s.net.supSent p (some s.lt) } } else s

/-- The numbers of a supervision frame go on. -/
def State.supNumbered (s : State) : State :=
  { s with net := { s.net with hsrSeq := (s.net.hsrSeq + 1) % 65536, supSeq := (s.net.supSeq + 1) % 65536 } }

/-- The watch changes the instants it watches alone. -/
theorem State.supWatched_net (s : State) (p : Nat) : (∃ sent, (s.supWatched p).net = { s.net with supSent := sent }) ∧ (s.supWatched p).regs = s.regs ∧
    (s.supWatched p).time = s.time := by
  unfold State.supWatched
  split
  · exact ⟨⟨_, rfl⟩, rfl, rfl⟩
  · exact ⟨⟨_, rfl⟩, rfl, rfl⟩

theorem State.supWatched_portUp (s : State) (p k : Nat) : (s.supWatched p).portUp k = s.portUp k := by
  obtain ⟨⟨sent, net⟩, regs, -⟩ := s.supWatched_net p
  rw [State.portUp, State.port, net, State.rb_congr regs, State.rb_congr regs, State.portUp, State.port]

theorem State.supWatched_sent {s : State} {p : Nat} (hup : s.portUp p = true) (h : Table.get none s.net.supSent p = none) :
    Table.get none (s.supWatched p).net.supSent p = some s.lt := by
  unfold State.supWatched
  rw [if_pos ⟨hup, h⟩]
  exact Table.get_set_self none s.net.supSent p (some s.lt)

theorem State.supWatched_other (s : State) {p k : Nat} (h : k ≠ p) : Table.get none (s.supWatched p).net.supSent k = Table.get none s.net.supSent k := by
  unfold State.supWatched
  split
  · exact Table.get_set_ne none s.net.supSent (some s.lt) h
  · rfl

theorem State.supSend_net {s : State} (h : s.hsrOn = true) : ∃ ports frames id,
    s.supSend.net = { ((s.supNumbered.supWatched 0).supWatched 1).net with ports := ports, frames := frames, nextId := id } := by
  unfold State.supSend
  rw [when_of h]
  exact State.store_net ((s.supNumbered.supWatched 0).supWatched 1) _ _

/-- A supervision frame leaves (R438), and each port that waited for none is watched (R440). -/
theorem State.supSend_sends {s : State} (h : s.hsrOn = true) : s.supSend.net.hsrSeq = (s.net.hsrSeq + 1) % 65536 ∧
    s.supSend.net.supSeq = (s.net.supSeq + 1) % 65536 ∧
    ∀ p < 2, s.portUp p = true → Table.get none s.net.supSent p = none → Table.get none s.supSend.net.supSent p = some s.lt := by
  obtain ⟨ports, frames, id, net⟩ := State.supSend_net h
  obtain ⟨⟨first, net0⟩, -, time0⟩ := s.supNumbered.supWatched_net 0
  obtain ⟨⟨second, net1⟩, -, -⟩ := (s.supNumbered.supWatched 0).supWatched_net 1
  refine ⟨?_, ?_, fun p hp hup hn => ?_⟩
  · rw [net, net1, net0]; rfl
  · rw [net, net1, net0]; rfl
  · rw [net]
    have numbered : Table.get none s.supNumbered.net.supSent p = none := hn
    obtain rfl | rfl : p = 0 ∨ p = 1 := by omega
    · exact (State.supWatched_other _ (by decide)).trans (State.supWatched_sent (s := s.supNumbered) hup numbered)
    · have waiting : Table.get none (s.supNumbered.supWatched 0).net.supSent 1 = none := (State.supWatched_other _ (by decide)).trans numbered
      have now : (s.supNumbered.supWatched 0).lt = s.lt := congrArg TimeUnit.lt time0
      rw [← now]
      exact State.supWatched_sent ((State.supWatched_portUp _ _ _).trans hup) waiting

/-- A copy has not returned on a port, at an instant (R440). -/
def State.ringOpensAt (s : State) (due : Ticks) : State :=
  let x := s.passTo due
  if x.net.ringOpen then x else ({ x with net := { x.net with ringOpen := true } }).raise 0xB00C noInst

theorem State.ringOpensAt_open (s : State) (due : Ticks) : due ≤ (s.ringOpensAt due).time.lt ∧ (s.ringOpensAt due).net.ringOpen = true := by
  unfold State.ringOpensAt
  dsimp only
  split
  · next h => exact ⟨State.le_passTo_lt s due, h⟩
  · rw [State.raise_time, State.raise_net]
    exact ⟨State.le_passTo_lt s due, rfl⟩

/-- The watch of a ring port runs out. -/
def State.ringOpens (s : State) (p : Nat) : State :=
  match Table.get none s.net.supSent p with
  | none => s
  | some t => s.ringOpensAt (t + sec 4)

theorem State.ringOpens_eq {s : State} {p : Nat} {t : Ticks} (h : Table.get none s.net.supSent p = some t) : s.ringOpens p = s.ringOpensAt (t + sec 4) := by
  simp only [State.ringOpens, h]

/-! ### Ageing -/

/-- The list of macs from an instant on. -/
def State.macsAt (s : State) (due : Ticks) (rest : List MacEntry) : State :=
  let x := s.passTo due
  { x with net := { x.net with macs := rest } }

/-- The first address is forgotten (R442). -/
def State.macForgotten (s : State) : State :=
  match s.net.macs with
  | [] => s
  | e :: rest => s.macsAt (e.seen + sec (10 * s.rf .netCfg 0 15 8)) rest

theorem State.macForgotten_ends {s : State} {e : MacEntry} {rest : List MacEntry} (h : s.net.macs = e :: rest) :
    e.seen + sec (10 * s.rf .netCfg 0 15 8) ≤ s.macForgotten.time.lt ∧ s.macForgotten.net.macs = rest := by
  have forgets (due : Ticks) : due ≤ (s.macsAt due rest).time.lt ∧ (s.macsAt due rest).net.macs = rest := ⟨State.le_passTo_lt s due, rfl⟩
  simp only [State.macForgotten, h]
  exact forgets _

/-- The list of proxies from an instant on. -/
def State.proxiesAt (s : State) (due : Ticks) (rest : List Proxy) : State :=
  let x := s.passTo due
  { x with net := { x.net with proxies := rest } }

/-- The first proxy node is forgotten (R441). -/
def State.proxyForgotten (s : State) : State :=
  match s.net.proxies with
  | [] => s
  | e :: rest => s.proxiesAt (e.seen + sec 60) rest

theorem State.proxyForgotten_ends {s : State} {e : Proxy} {rest : List Proxy} (h : s.net.proxies = e :: rest) :
    e.seen + sec 60 ≤ s.proxyForgotten.time.lt ∧ s.proxyForgotten.net.proxies = rest := by
  have forgets (due : Ticks) : due ≤ (s.proxiesAt due rest).time.lt ∧ (s.proxiesAt due rest).net.proxies = rest := ⟨State.le_passTo_lt s due, rfl⟩
  simp only [State.proxyForgotten, h]
  exact forgets _

/-- The list of dups from an instant on. -/
def State.dupsAt (s : State) (due : Ticks) (rest : List HsrEntry) : State :=
  let x := s.passTo due
  { x with net := { x.net with dups := rest } }

/-- The first duplicate is forgotten (R438). -/
def State.dupForgotten (s : State) : State :=
  match s.net.dups with
  | [] => s
  | e :: rest => s.dupsAt (e.at_ + ms 400) rest

theorem State.dupForgotten_ends {s : State} {e : HsrEntry} {rest : List HsrEntry} (h : s.net.dups = e :: rest) :
    e.at_ + ms 400 ≤ s.dupForgotten.time.lt ∧ s.dupForgotten.net.dups = rest := by
  have forgets (due : Ticks) : due ≤ (s.dupsAt due rest).time.lt ∧ (s.dupsAt due rest).net.dups = rest := ⟨State.le_passTo_lt s due, rfl⟩
  simp only [State.dupForgotten, h]
  exact forgets _

end Sys2Proof.Machine
end

section
/-!
PROOFS. The Ethernet switch: what admission and forwarding rest on (R442, R446, R447).
-/
namespace Sys2Proof.Machine
open Sys2Proof

theorem State.learn__congr {s x : State} (hn : x.net = s.net) (ht : x.time = s.time) (vid sa i : Nat) : (x.learn_ vid sa i).net = (s.learn_ vid sa i).net := by
  unfold State.learn_
  dsimp only
  rw [hn, State.lt, State.lt, ht]
  split
  · exact hn
  · split
    · rfl
    · split
      · rfl
      · rw [State.raise_net, State.raise_net, hn]

/-- The time for which a gate stays open rests on the registers. -/
theorem State.openFrom_congr {s x : State} (hr : x.regs = s.regs) (p c : Nat) : ∀ k e, x.openFrom p c k e = s.openFrom p c k e
  | 0, _ => rfl
  | k + 1, e => by
    have entry : x.gclEntry p e = s.gclEntry p e := by rw [State.gclEntry, State.reg, hr, State.gclEntry, State.reg]
    have len : x.gclLen p = s.gclLen p := State.rf_congr hr ..
    rw [State.openFrom, State.openFrom, entry, State.openFrom_congr hr p c k, len]

section
variable {s x : State} (hn : x.net = s.net) (hr : x.regs = s.regs)
include hn hr

theorem State.dests_congr (vid da i : Nat) : x.dests vid da i = s.dests vid da i := by
  have vlan : x.vlanOf vid = s.vlanOf vid := by
    unfold State.vlanOf
    simp only [State.rf_congr hr]
  have member (p : Nat) : x.vlanMember vid p = s.vlanMember vid p := by
    unfold State.vlanMember
    rw [vlan]
    simp only [State.rb_congr hr]
  have port (p : Nat) : x.port p = s.port p := by rw [State.port, hn, State.port]
  unfold State.dests State.portUp State.localBridge State.hsrOn
  simp only [State.rb_congr hr, member, port, hn]

theorem State.admitFrame_congr (f : NetFrame) (p : Nat) : (x.admitFrame f p).2 = (s.admitFrame f p).2 := by
  have reg (r : RegId) (i j : Nat) : x.reg r i j = s.reg r i j := by rw [State.reg, hr, State.reg]
  have entry (e : Nat) : x.gclEntry p e = s.gclEntry p e := by rw [State.gclEntry, reg, State.gclEntry]
  have len : x.gclLen p = s.gclLen p := State.rf_congr hr ..
  have fits (c n : Nat) : x.everFits p c n = s.everFits p c n := by
    unfold State.everFits
    simp only [entry, len, State.openFrom_congr hr]
  have port : x.port p = s.port p := by rw [State.port, hn, State.port]
  have ticks (n : Nat) : x.txTicks p n = s.txTicks p n := by rw [State.txTicks, State.byteTicks, port, State.txTicks, State.byteTicks]
  have cells (c : Nat) : x.minCells c = s.minCells c := by
    unfold State.minCells
    simp only [State.rf_congr hr]
  have reserve : x.reserveUsed = s.reserveUsed := by rw [State.reserveUsed, hn, State.reserveUsed]
  have held : x.aHeld p = s.aHeld p := by rw [State.aHeld, hn, State.aHeld]
  have depth : x.aDepth p = s.aDepth p := by rw [State.aDepth, State.rf_congr hr, State.aDepth]
  have used : x.queueUsed p f.cls = s.queueUsed p f.cls := by rw [State.queueUsed, hn, State.queueUsed]
  have shared : x.sharedFree = s.sharedFree := by
    unfold State.sharedFree
    rw [cells, cells, cells, hn]
  unfold State.admitFrame
  dsimp only
  rw [reserve, held, depth, fits, ticks, cells, used, shared, State.rf_congr hr, State.rf_congr hr, State.rb_congr hr, State.rb_congr hr]
  split
  · split <;> rfl
  · split
    · rfl
    · split <;> rfl

end

theorem State.gateOpen_congr {s x : State} (hn : x.net = s.net) (hr : x.regs = s.regs) (p c : Nat) : x.gateOpen p c = s.gateOpen p c := by
  rw [State.gateOpen, State.port, hn, State.rb_congr hr, State.gateOpen, State.port]

theorem State.syncCredit_congr {s x : State} (hn : x.net = s.net) (hr : x.regs = s.regs) (ht : x.time = s.time) (p : Nat) :
    (x.syncCredit p).net = (s.syncCredit p).net := by
  have port : x.port p = s.port p := by rw [State.port, hn, State.port]
  have now : x.lt = s.lt := by rw [State.lt, ht, State.lt]
  unfold State.syncCredit State.setPort State.rateTenths State.netQueue
  simp only [port, now, hn, State.gateOpen_congr hn hr, State.rf_congr hr]

theorem State.mayStart_congr {s x : State} (hn : x.net = s.net) (hr : x.regs = s.regs) (ht : x.time = s.time) (p : Nat) : x.mayStart p = s.mayStart p := by
  have reg (r : RegId) (i j : Nat) : x.reg r i j = s.reg r i j := by rw [State.reg, hr, State.reg]
  have port : x.port p = s.port p := by rw [State.port, hn, State.port]
  have entry (e : Nat) : x.gclEntry p e = s.gclEntry p e := by rw [State.gclEntry, reg, State.gclEntry]
  have len : x.gclLen p = s.gclLen p := State.rf_congr hr ..
  have tt : x.tt = s.tt := by rw [State.tt, ht, State.tt]
  have fits (c n : Nat) : x.gateFits p c n = s.gateFits p c n := by
    unfold State.gateFits
    simp only [State.rb_congr hr, port, entry, len, State.openFrom_congr hr, tt]
  have ticks (n : Nat) : x.txTicks p n = s.txTicks p n := by rw [State.txTicks, State.byteTicks, port, State.txTicks, State.byteTicks]
  have frame (id : Nat) : x.frame? id = s.frame? id := by rw [State.frame?, hn, State.frame?]
  funext c
  unfold State.mayStart State.netQueue
  simp only [port, frame, State.gateOpen_congr hn hr, fits, ticks, State.rf_congr hr]

end Sys2Proof.Machine
end

section
/-!
PROOFS. The Ethernet switch: its commands complete with their effects (R437 to R456).
-/
namespace Sys2Proof.Machine
open Sys2Proof

section Reception
variable {s : State} {i : Fin 5} {b : List Byte} {cls : Fin 4} {post : State → Prop}

/-- A reception whose result is known. -/
theorem completes_frameReceive {fcs : Bool} {t : State} (eq : s.fresh.frameReceive i b fcs cls = t) (h : post t) : Completes (.frameReceive i b fcs cls) s post := by
  refine completes_fresh (f := fun s => s.frameReceive i b fcs cls) rfl ?_
  rw [eq]
  exact h

/-- A reception that ends in a discard (R444). -/
theorem completes_drops {fcs : Bool} {cause : Nat} {t : State} (eq : s.fresh.frameReceive i b fcs cls = t) (h : s.fresh.Drops t i cause) :
    Completes (.frameReceive i b fcs cls) s (fun t => t.net = s.net ∧
      Table.get 0 t.cnt.value (168 + i.val) = (Table.get 0 s.cnt.value (168 + i.val) + 1) % 2 ^ 48 ∧
      Table.get 0 t.cnt.value (178 + 8 * i.val + (cause - 1)) = (Table.get 0 s.cnt.value (178 + 8 * i.val + (cause - 1)) + 1) % 2 ^ 48) :=
  completes_frameReceive eq ⟨h.net, h.received, h.dropped⟩

end Reception

/-- A frame of the controller that one port admits stands in the buffer and at the end of the port's queue (R448). -/
theorem State.classify_queues {s x z : State} {p : Parsed} {vid pcp len cls q : Nat} {c : Nat × Nat × Nat} (hx : x.net = s.net ∧ x.time = s.time ∧ x.regs = s.regs)
    (hz : z.net = s.net ∧ z.time = s.time ∧ z.regs = s.regs) (hh : s.hsrOn = false) (hc : beAt p.body 0 2 ≠ 0x8808) (ht : beAt p.body 0 2 ≠ 0x88F7)
    (hd : (z.learn_ vid p.sa 4).dests vid p.da 4 = [q]) (ha : ((z.learn_ vid p.sa 4).admitFrame (frameOf p vid pcp len 4 cls s.lt) q).2 = some c) :
    let t := x.classify 4 p vid pcp len cls
    t.netQueue q cls = s.netQueue q cls ++ [s.net.nextId] ∧ t.net.nextId = s.net.nextId + 1 ∧
    ∃ f ∈ t.net.frames, f.id = s.net.nextId ∧ f.ports = [q] ∧ f.charges = [c] ∧ f.body = p.body := by
  obtain ⟨xnet, xtime, xregs⟩ := hx
  obtain ⟨znet, ztime, zregs⟩ := hz
  obtain ⟨⟨macs, learned⟩, regs⟩ := x.learn__net vid p.sa 4
  have net : (x.learn_ vid p.sa 4).net = (z.learn_ vid p.sa 4).net := State.learn__congr (xnet.trans znet.symm) (xtime.trans ztime.symm) vid p.sa 4
  have same : (x.learn_ vid p.sa 4).regs = (z.learn_ vid p.sa 4).regs := regs.trans ((xregs.trans zregs.symm).trans (z.learn__net vid p.sa 4).2.symm)
  have lt : x.lt = s.lt := congrArg TimeUnit.lt xtime
  have off : (x.learn_ vid p.sa 4).hsrOn = false := (State.rb_congr (regs.trans xregs) ..).trans hh
  have one : (x.learn_ vid p.sa 4).dests vid p.da 4 = [q] := (State.dests_congr net same vid p.da 4).trans hd
  have fits : ((x.learn_ vid p.sa 4).admitFrame (frameOf p vid pcp len 4 cls s.lt) q).2 = some c := (State.admitFrame_congr net same _ q).trans ha
  obtain ⟨queue, next, frames⟩ := State.store_one fits rfl
  have before : (x.learn_ vid p.sa 4).net.nextId = s.net.nextId ∧ (x.learn_ vid p.sa 4).netQueue q cls = s.netQueue q cls := by
    rw [State.netQueue, State.port, learned, xnet]
    exact ⟨rfl, rfl⟩
  have class_ : (frameOf p vid pcp len 4 cls s.lt).cls = cls := rfl
  rw [class_, before.1, before.2] at queue
  rw [before.1] at next frames
  dsimp only
  rw [State.classify_own pcp len cls rfl hc ht, lt, State.forward_own off one ht, queue, next, frames]
  exact ⟨rfl, rfl, _, List.mem_append_right _ List.mem_cons_self, rfl, rfl, rfl, rfl⟩

/-- Settles O48, a command each. -/
theorem switchForwardsAndTransmits : Obligations.SwitchForwardsAndTransmits := by
  intro s
  refine ⟨fun i b cls hup => ?receive, fun f p => ?admission, fun p => ?transmit, fun i => ?link, fun h => ?supervise, fun p t0 h => ?ring, fun e rest h => ?mac,
    fun e rest h => ?proxy, fun e rest h => ?dup⟩
  case receive =>
    intro p len drops
    have drop {cause : Nat} (hc : cause ≤ 8) : s.fresh.Drops ((s.fresh.count (168 + i)).netDrop i cause) i cause := State.drops_netDrop i.isLt hc s.fresh
    refine ⟨?_, fun hl => ?_, fun hl => ?_, fun tci hl hh ht hv hr he => ?tagged⟩
    · exact completes_drops (State.frameReceive_damaged (s := s.fresh) cls hup (.inl rfl)) (drop (by decide))
    · exact completes_drops (State.frameReceive_damaged (s := s.fresh) cls hup (.inr hl)) (drop (by decide))
    · exact completes_drops (State.frameReceive_oversize (s := s.fresh) cls hup hl) ((drop (by decide)).raiseRated i.isLt (by decide) ..)
    case tagged =>
    have tagged := State.frameReceive_tagged (s := s.fresh) cls hup hl hh ht hv hr he
    refine ⟨fun hi hm => ?_, fun k hi hm hc hp _ ha hk => ⟨fun full => ?_, fun hs hf => ?_⟩, fun q c hi hh hc hp hd had => ?_⟩
    · exact completes_drops (tagged.trans (State.classify_nonmember _ _ _ hi hm)) (drop (by decide))
    · refine completes_drops (tagged.trans (State.classify_policed _ _ _ hi hm hc hp ha)) ?_
      rw [State.police_drops (s := s.fresh.count (168 + i)) hk full]
      exact (drop (by decide)).raiseRated i.isLt (by decide) ..
    · exact completes_frameReceive tagged (State.classify_meters (s := s.fresh.count (168 + i)) cls hi hm hc hp ha hk hs hf)
    · have own : s.fresh.frameReceive i b true cls = (s.fresh.count 172).classify 4 p (tci % 4096) (tci / 8192) len cls := by
        rw [tagged, hi]
      refine completes_frameReceive own ?_
      exact State.classify_queues (x := s.fresh.count 172) (z := s.count 172) ⟨rfl, rfl, rfl⟩ ⟨rfl, rfl, rfl⟩ hh hc hp hd had
  case admission =>
    exact ⟨fun h => State.admitFrame_classA s p h, fun h hr => State.admitFrame_refused h hr, fun m sh h => State.admitFrame_cells h⟩
  case transmit =>
    refine ⟨State.mayStart_classA s p, fun c id rest f hup hs hc hq hf => ?_, fun x hx => ?_, fun hg hb ha => ⟨fun h => ?_, fun h => ?_⟩⟩
    · have may : (s.fresh.syncCredit p).mayStart p = (s.syncCredit p).mayStart p :=
        State.mayStart_congr (s := s.syncCredit p) (x := s.fresh.syncCredit p) (State.syncCredit_congr (s := s) (x := s.fresh) rfl rfl rfl p) rfl rfl p
      exact completes_fresh (f := fun s => s.txStart p) rfl (State.txStart_sends (s := s.fresh) hup hs (may ▸ hc) hq hf)
    · exact completes_fresh (f := fun s => s.txEnd p) rfl (State.txEnd_ends (s := s.fresh) hx)
    · refine completes_fresh (f := fun s => s.gclNext p) rfl ?_
      rw [State.gclNext_next (s := s.fresh) hg hb ha h]
      exact s.fresh.gateAt_port p _ _
    · refine completes_fresh (f := fun s => s.gclNext p) rfl ?_
      rw [State.gclNext_restarts (s := s.fresh) hg hb ha h]
      obtain ⟨entry, gates, start⟩ := s.fresh.gateAt_port p 0 (nextMultiple (s.fresh.gclCycle p) ((s.fresh.port p).gateStart + 1))
      refine ⟨entry, gates, ?_⟩
      rw [start]
      exact nextMultiple_mod _ _
  case link =>
    have ring : (i = 2 ∨ i = 3) ↔ (i.val = 2 ∨ i.val = 3) := by simp only [Fin.ext_iff]; rfl
    intro q
    refine ⟨fun time => ⟨fun h hs => ?_, fun h => ?_⟩, fun t0 h => ?_, fun h => ?_, fun fast hn hp ha => ?_, fun h => ?_⟩
    · exact completes_fresh (f := fun s => s.pauseReceive i time) rfl (State.pauseReceive_honoured (s := s.fresh) ⟨ring.1 h.1, h.2⟩ hs time)
    · exact completes_fresh (f := fun s => s.pauseReceive i time) rfl (State.pauseReceive_ignored (s := s.fresh) (fun k => h ⟨ring.2 k.1, k.2⟩) time)
    · exact completes_fresh (f := fun s => s.pauseEnds i) rfl (State.pauseEnds_ends (s := s.fresh) h)
    · refine completes_fresh (f := fun s => when_ (s.port i).xoff (fun s => s.pauseAgainAt ((s.port i).pauseSent + ms 16) i) s) rfl ?_
      have on : (s.fresh.port i).xoff = true := h
      rw [when_of on]
      exact s.fresh.pauseAgainAt_sends _ i
    · exact completes_fresh (f := fun s => s.linkUp i fast) rfl (State.linkUp_auto (s := s.fresh) hn hp ha fast)
    · exact completes_fresh (f := fun s => s.linkDown i) rfl (State.linkDown_ends (s := s.fresh) h)
  case supervise => exact completes_fresh (f := State.supSend) rfl (State.supSend_sends (s := s.fresh) h)
  case ring =>
    refine completes_fresh (f := fun s => s.ringOpens p) rfl ?_
    have opens : s.fresh.ringOpens p = s.fresh.ringOpensAt (t0 + sec 4) := State.ringOpens_eq (s := s.fresh) h
    rw [opens]
    exact s.fresh.ringOpensAt_open _
  case mac => exact completes_fresh (f := State.macForgotten) rfl (State.macForgotten_ends (s := s.fresh) h)
  case proxy => exact completes_fresh (f := State.proxyForgotten) rfl (State.proxyForgotten_ends (s := s.fresh) h)
  case dup => exact completes_fresh (f := State.dupForgotten) rfl (State.dupForgotten_ends (s := s.fresh) h)

end Sys2Proof.Machine
end
